-- ==== Sys2Proof/Word.lean ====
section
/-! DEFINITION. The word types of the address space (spec/18 R419: registers are 32 bits wide, memories are bytes). -/

namespace Sys2Proof

/-- A register's contents: 32 bits (spec/18 R419). -/
abbrev W32 := BitVec 32

/-- One byte of a memory. -/
abbrev Byte := BitVec 8

end Sys2Proof
end

