-- ==== Sys2Proof/Syntax.lean ====
section
/-! DEFINITION. The commands of the block: one constructor per row of spec/opcode_table.json, in the table's order.
A command that is a write of a register carries the master, the instance and the value written; a command that is an
event carries what the event measures or receives. -/

namespace Sys2Proof

/-- The masters of the address space (spec/18, DECODE_ERR.MASTER): the SPI target, the two-wire target, the four
control cores in machine mode and in user mode (R391), yard remote access and the debug module. -/
inductive Master where
  | spi
  | twi
  | core (n : Nat)
  | user (n : Nat)
  | remote
  | debug
  deriving DecidableEq, Repr

/-- The data bits of a line-frame header whose CRC checks (Table 6.4). -/
structure Header where
  fn : Nat
  pend : Bool
  count : Nat
  desc : Nat
  rdi : Bool
  scid : Nat
  deriving DecidableEq, Repr

/-- The coded overhead of a line frame (Table 6.6), where its bytes lie in no errored segment (R126). -/
structure Overhead where
  rdiMap : Nat
  jc : Nat
  sr : Nat
  tti : Byte
  msi : Byte
  rei : Byte × Byte
  ttm : Byte × Byte
  mcc : Byte × Byte
  deriving DecidableEq, Repr

/-- What the receiver measures every millisecond (R73, R79, R82, R86): the mean RMS code, the frequency offset in MHz,
the dispersion in 0.125 ps/nm, the clock offset in 0.1 ppt, and per subcarrier the SNR in 0.01 dB, the SOP rate in 0.1
Mrad/s, the DGD in 0.1 ps, the pilot decisions in error and the LLRs delivered (Table 17.7). -/
structure RxMeas where
  rms : Nat
  fofs : Int
  cd : Int
  clk : Int
  sc : List (Nat × Nat × Nat × Nat × Nat)
  deriving DecidableEq, Repr

/-- A frame as it arrives: its bytes from destination address to FCS, whether its FCS is right, and whether a segment
that holds bytes of its key, or any of its bytes, is marked errored (R104, R161). -/
structure Frame where
  bytes : List Byte
  fcsOk : Bool
  keyMarked : Bool
  marked : Bool
  deriving DecidableEq, Repr

/-- How a step of an acquisition ends (Tables 4.10 and 4.11): done with the value measured (mean RMS code, frequency
offset in MHz, dispersion in 0.125 ps/nm, clock offset in 0.1 ppt), the signal absent, a limit passed, the orientation
found wrong (R76), or the pilot search of the subcarrier being served without success (R89). -/
inductive AcqEnd where
  | done (v : Int)
  | absent
  | fofsRange
  | cdRange
  | clkRange
  | orient
  | searchFail
  deriving DecidableEq, Repr

/-- The decoding of one codeword (R98, R104, R107, R109): the code that carried it, its line bits where an OIF agreement
gives it (R112), when its span began in µs (R100), the frame and the byte of that frame's information stream where its
information bits begin and the length of that stream (R104), the bits corrected, the iterations it needed, whether the
decoder shows it uncorrectable, whether a decoder memory failed its parity or an output segment its check (R107), and
whether it is the last codeword of the old code in a crossover (R103). -/
structure Codeword where
  express : Bool
  lineBits : Nat
  since : Nat
  fn : Nat
  byte : Nat
  len : Nat
  corrected : Nat
  iters : Nat
  unc : Bool
  parity : Bool
  segErr : Bool
  lastOld : Bool
  deriving DecidableEq, Repr

/-- How a Hayloft line reads under its check symbols (R189), or a Shed word under its check bits (R176): clean, one
symbol or bit corrected, or uncorrectable. -/
inductive HayEcc where
  | clean
  | ce (sym : Nat)
  | ue
  deriving DecidableEq, Repr

/-- What a Hayloft access serves (Table 8.3): a flow's data, a group's deskew data with the bytes written, a copy of the
descriptor of a page that a flow takes or reads back (`second`: the second copy, R196), or a waiting capture record. -/
inductive HayUse where
  | flowWrite (f : Nat)
  | flowRead (f : Nat)
  | deskewWrite (g : Nat) (data : List Byte)
  | deskewRead (g : Nat)
  | descrWrite (f page : Nat) (second : Bool)
  | descrRead (f page : Nat) (second : Bool)
  | capWrite
  deriving DecidableEq, Repr

/-- A Hayloft line access as it completes (R186). -/
structure HayAcc where
  line : Nat
  use : HayUse
  ecc : HayEcc
  deriving DecidableEq, Repr

/-- An ESMC PDU with a QL TLV (R227): whether it is an event PDU, its SSM code, and its extended QL TLV, if it has one:
the enhanced SSM code, the originator's clock identity and the cascade counts of eEEC and EEC. -/
structure EsmcPdu where
  event : Bool
  ssm : Nat
  ext : Option (Nat × BitVec 64 × Nat × Nat)
  deriving DecidableEq, Repr

/-- A time message (Table 11.3) whose CRC checks; times are in units of 2⁻¹⁶ ns. -/
structure TimeMsg where
  valid : Bool
  cdValid : Bool
  cdFine : Bool
  rank : Nat
  seq : Nat
  tTx : Nat
  rxSeq : Nat
  tRx : Nat
  cd : Nat
  freq : Nat
  utc : Nat
  leap61 : Bool
  leap59 : Bool
  deriving DecidableEq, Repr

/-- A carrier, and a value measured of it. -/
structure CarVal where
  car : Nat
  val : Int
  deriving DecidableEq, Repr

/-- An egress of the Sorting Office (R162): a group by its GID where `line`, or a host port. -/
structure Egress where
  line : Bool
  id : Nat
  deriving DecidableEq, Repr

/-- An output of a monitor converter's chain: its signed code and whether it was saturated (R284). -/
structure MonOut where
  val : Int
  ovf : Bool
  deriving DecidableEq, Repr

/-- A yard block as it is received and decoded (R332, Table 14.8): cargo, filler, ALIGN, SELECT with GID, MSN and run
length, a side-band fragment, STATUS with its sender and two bits per forwarding entry, a control block that is unlisted
or whose CRC fails, and the blocks of a codeword that cannot be corrected. HELLO has a command of its own. -/
inductive YardBlk where
  | data
  | filler
  | align
  | select (gid msn k : Nat)
  | sideband
  | status (dev : Nat) (bits : List Nat)
  | bad
  | uncorrectable
  deriving DecidableEq, Repr

/-- A valid HELLO (Table 14.8): the sender's DEV_ID, its pair and lane, its image state and its RUN_READY. -/
structure Hello where
  dev : Nat
  pair : Nat
  lane : Nat
  img : Nat
  rr : Bool
  deriving DecidableEq, Repr

/-- A complete side-band message (R340, R341): an acknowledgement, a part of an image, or another message. -/
inductive SbMsg where
  | ack
  | image (data : List Byte)
  | other
  deriving DecidableEq, Repr

/-- A calibrated slice (Table 16.1): offset in 1/16 LSB, gain in 0.01 % and delay-line tap. -/
structure SliceVal where
  ofs : Int
  gain : Int
  tap : Nat
  deriving DecidableEq, Repr

/-- What a production calibration measured (R371): a slice's values by carrier, lane and slice, a DAC lane's CAL_TERM in
0.1 ps by carrier and lane, the monitor references by converter, the carriers' marker delays in ps, transmit and
receive, the host lanes' delays in ps, the temperature sensors' offsets in 0.05 °C for channels 24 to 27, the THERMAL
comparator's trim in 0.5 °C, and OSC_IN's frequency against CAL_REF_IN in parts of 10⁹. -/
structure ProdVals where
  slices : List (Nat × Nat × Nat × SliceVal)
  terms : List (Nat × Nat × Int)
  refs : List Int
  marks : List (Nat × Nat)
  hostDly : List Nat
  sensors : List Int
  trim : Int
  ratio : Nat
  deriving DecidableEq, Repr

/-- How a word of the Tack Room reads under its check bits (R381). -/
inductive TrEcc where
  | clean
  | corrected
  | uncorrectable
  deriving DecidableEq, Repr

/-- How a self-test ends (Table 16.12). -/
inductive BstEnd where
  | pass
  | logic
  | memory
  | analogue
  | noReference
  deriving DecidableEq, Repr

/-- What the firmware brings to the completion of a Letterbox command (R397): its version, whether the flash gave an
error, whether the authorisation verifies, and the bytes read from the flash. -/
structure LbEnd where
  version : W32
  flashErr : Bool
  authOk : Bool
  data : List W32
  deriving DecidableEq, Repr

/-- The rows of the table of operations and events (spec/opcode_table.json), with their rule.
DESIGN CHOICE, safe (log 3). -/
inductive Instr where
  /-- GO (R42) -/
  | go (m : Master) (c : Nat) (v : W32)
  /-- CANCEL (R48) -/
  | cancel (m : Master) (c : Nat) (v : W32)
  /-- RX_PROFILE_WRITE (R40) -/
  | rxProfileWrite (m : Master) (c : Nat) (v : W32)
  /-- ANNOUNCE (R44) -/
  | announce (c : Nat)
  /-- MULTIFRAME_TX (R130) -/
  | multiframeTx (c : Nat)
  /-- SWITCH (R44) -/
  | switch (c : Nat)
  /-- CHG_DONE (R43) -/
  | chgDone (c : Nat)
  /-- HOLD_TIMEOUT (R49) -/
  | holdTimeout (c : Nat)
  /-- MULTIFRAME_RX (R110) -/
  | multiframeRx (c : Nat) (marks : List (Nat × Int))
  /-- RX_FOLLOWED (R46) -/
  | rxFollowed (c : Nat)
  /-- DESC_ADOPTED (R47) -/
  | descAdopted (c : Nat)
  /-- EXP_CD_RANGE (R31) -/
  | expCdRange (c : Nat) (cd : Int)
  /-- EXP_CD_RETURN (R31) -/
  | expCdReturn (c : Nat) (cd : Int)
  /-- EXP_STEP_MOVE (R32) -/
  | expStepMove (c : Nat) (cd : Int)
  /-- LASER_ON (R67) -/
  | laserOn (m : Master) (c : Nat) (v : W32)
  /-- MUTE (R67) -/
  | mute (m : Master) (c : Nat) (v : W32)
  /-- SETTLE_ELAPSED (R66) -/
  | settleElapsed (c : Nat)
  /-- SERVICE_ENTERED (R66) -/
  | serviceEntered (c : Nat)
  /-- CLK_FAULT (R67) -/
  | clkFault (c : Nat)
  /-- TX_CLK_LOCK (R67) -/
  | txClkLock (c : Nat)
  /-- SEG_ERR (R52) -/
  | segErr (c : Nat)
  /-- APPLY (R60) -/
  | txPreApply (m : Master) (c : Nat) (v : W32)
  /-- TX_PRE_COPY_DONE (R60) -/
  | txPreCopyDone (c : Nat)
  /-- CLIP (R61) -/
  | clip (c lane : Nat)
  /-- TX_SKEW_WRITE (R62) -/
  | txSkewWrite (m : Master) (c lane : Nat) (v : W32)
  /-- SKEW_RAMP (R62) -/
  | skewRamp (c lane : Nat)
  /-- RX_EN (R93) -/
  | rxEn (m : Master) (c : Nat) (v : W32)
  /-- ACQ_RESTART (R89) -/
  | acqRestart (m : Master) (c : Nat) (v : W32)
  /-- ACQ_STEP (R89) -/
  | acqStep (c : Nat) (e : AcqEnd)
  /-- ACQ_TIMEOUT (R90) -/
  | acqTimeout (c : Nat)
  /-- RELOCK_FAIL (R91) -/
  | relockFail (c : Nat)
  /-- LOS (R86) -/
  | los (c rms : Nat)
  /-- LOS_CLEAR (R86) -/
  | losClear (c rms : Nat)
  /-- ADC_CLK_FAULT (R86) -/
  | adcClkFault (c : Nat)
  /-- CLK_LOL (R86) -/
  | clkLol (c : Nat)
  /-- SC_LOST (R92) -/
  | scLost (sc : Nat)
  /-- RECONV_TIMEOUT (R92) -/
  | reconvTimeout (sc : Nat)
  /-- SC_LOCKED (R85) -/
  | scLocked (sc : Nat)
  /-- DEG_SET (R86) -/
  | degSet (sc : Nat)
  /-- DEG_CLEAR (R86) -/
  | degClear (sc : Nat)
  /-- SOP_TRANSIENT (R81) -/
  | sopTransient (sc rate : Nat)
  /-- SLIP (R82) -/
  | slip (sc : Nat)
  /-- FOFS_RANGE (R82) -/
  | fofsRange (x : CarVal)
  /-- BOOST_MISMATCH (R76) -/
  | boostMismatch (c meas : Nat)
  /-- RX_SHAPE_WRITE (R76) -/
  | rxShapeWrite (m : Master) (c : Nat) (v : W32)
  /-- SNAPSHOT (R88) -/
  | snapshot (c : Nat) (x : RxMeas)
  /-- STORE_EXPIRED (R88) -/
  | storeExpired (c : Nat)
  /-- CD_FINE (R78) -/
  | cdFine (c : Nat)
  /-- SLICE_SWAP (R74) -/
  | sliceSwap (c lane n : Nat)
  /-- DECODE (R98) -/
  | decode (sc : Nat) (cw : Codeword)
  /-- UNC_DEFECT_SET (R106) -/
  | uncDefectSet (sc : Nat)
  /-- UNC_DEFECT_CLEAR (R106) -/
  | uncDefectClear (sc : Nat)
  /-- PREFEC_DEG_SET (R108) -/
  | prefecDegSet (sc : Nat)
  /-- PREFEC_DEG_CLEAR (R108) -/
  | prefecDegClear (sc : Nat)
  /-- FEC_TOT_CLR (R111) -/
  | fecTotClr (m : Master) (sc : Nat) (v : W32)
  /-- FEC_SEC_LATCH (R109) -/
  | fecSecLatch
  /-- HYPOTHESIS_CHECK (R117) -/
  | hypothesisCheck (sc pos errs : Nat)
  /-- SEARCH_INTERVAL (R118) -/
  | searchInterval (sc : Nat)
  /-- FRAME_RX (R119) -/
  | frameRx (sc errs : Nat) (hdr : Option Header) (ovh : Option Overhead)
  /-- LOF_SET (R121) -/
  | lofSet (sc : Nat)
  /-- LOF_CLR (R121) -/
  | lofClr (sc : Nat)
  /-- COMMIT_TX (R138) -/
  | commitTx (m : Master) (sc : Nat) (v : W32)
  /-- COMMIT_RX (R138) -/
  | commitRx (m : Master) (sc : Nat) (v : W32)
  /-- PENDING_COMMIT (R138) -/
  | pendingCommit (sc : Nat) (tx : Bool)
  /-- SLOT_MAP_IN_FORCE (R138) -/
  | slotMapInForce (sc : Nat) (tx : Bool)
  /-- GRP_CFG_WRITE (R444) -/
  | grpCfgWrite (m : Master) (g : Nat) (v : W32)
  /-- LFM_TOT_CLR (R146) -/
  | lfmTotClr (m : Master) (sc : Nat) (v : W32)
  /-- GROUP_MARKER (R141) -/
  | groupMarker (g msn : Nat) (round : Option Nat) (gap arrival : Nat)
  /-- SKEW_CHECK (R142) -/
  | skewCheck (g : Nat)
  /-- GRP_UP (R142) -/
  | grpUp (g : Nat)
  /-- GRP_SLIP (R144) -/
  | grpSlip (g msn : Nat)
  /-- PM_LATCH (R146) -/
  | pmLatch
  /-- PORT_CFG_WRITE (R151) -/
  | portCfgWrite (m : Master) (p : Nat) (v : W32)
  /-- PORT_CNT_CLR (R153) -/
  | portCntClr (m : Master) (p : Nat) (v : W32)
  /-- HOST_FRAME (R154) -/
  | hostFrame (p : Nat) (fr : Frame)
  /-- PAUSE_REFRESH (R168) -/
  | pauseRefresh (p : Nat)
  /-- PAUSE_RECEIVED (R169) -/
  | pauseReceived (p : Nat) (pfc : Bool) (en : Nat) (quanta : List Nat)
  /-- PAUSE_EXPIRY (R169) -/
  | pauseExpiry (p : Nat) (prio : Option Nat)
  /-- PH_ENTRY_WRITE (R157) -/
  | phEntryWrite (m : Master) (f word : Nat) (v : W32)
  /-- VALIDATE (R157) -/
  | validate (m : Master) (f : Nat) (v : W32)
  /-- FLOW_REMOVE (R171) -/
  | flowRemove (m : Master) (f : Nat) (v : W32)
  /-- MOVE (R172) -/
  | flowMove (m : Master) (v : W32)
  /-- FLUSH (R172) -/
  | flowFlush (m : Master) (v : W32)
  /-- CLR_CNT (R172) -/
  | clrCnt (m : Master) (v : W32)
  /-- FRAME_SENT (R162) -/
  | frameSent (e : Egress) (ecc : HayEcc)
  /-- GRP_HOLD_END (R163) -/
  | grpHoldEnd (g : Nat)
  /-- RECORD_HEADER (R161) -/
  | recordHeader (g word : Nat) (marked : Bool) (fr : Frame)
  /-- SEAL_HEADER (R210) -/
  | sealHeader (g : Nat) (h : List Byte)
  /-- CIPHER_DONE (R217) -/
  | cipherDone (id : Nat) (ok : Bool) (out : List Byte)
  /-- CIPHER_TIMEOUT (R220) -/
  | cipherTimeout (id : Nat)
  /-- LOAD_KEY (R213) -/
  | loadKey (m : Master) (v : W32)
  /-- LOAD_KEK (R213) -/
  | loadKek (m : Master) (v : W32)
  /-- ERASE (R214) -/
  | erase (m : Master) (v : W32)
  /-- ERASE_KEK (R213) -/
  | eraseKek (m : Master) (v : W32)
  /-- TX_AN_WRITE (R215) -/
  | txAnWrite (m : Master) (grp : Bool) (i : Nat) (v : W32)
  /-- ENT_FAIL (R221) -/
  | entFail
  /-- ENT_OK (R221) -/
  | entOk
  /-- HAY_ACCESS_DONE (R186) -/
  | hayAccessDone (a : HayAcc)
  /-- ACC_TIMEOUT (R188) -/
  | accTimeout (a : HayAcc)
  /-- MERGE_WRITE_BACK (R193) -/
  | mergeWriteBack (line : Nat) (e : HayEcc)
  /-- SCRUB_READ (R195) -/
  | scrubRead (line : Nat) (e : HayEcc)
  /-- RET_ADD (R198) -/
  | retAdd (m : Master) (v : W32)
  /-- RET_REMOVE (R198) -/
  | retRemove (m : Master) (v : W32)
  /-- RET_READ (R198) -/
  | retRead (m : Master) (v : W32)
  /-- APERTURE_READ (R199) -/
  | apertureRead (m : Master) (off : Nat) (e : HayEcc)
  /-- APERTURE_WRITE (R199) -/
  | apertureWrite (m : Master) (off : Nat) (v : W32)
  /-- CAP_CFG_WRITE (R200) -/
  | capCfgWrite (m : Master) (v : W32)
  /-- CAP_CLR (R200) -/
  | capClr (m : Master) (v : W32)
  /-- CAP_DROP (R200) -/
  | capDrop
  /-- HAY_CFG_WRITE (R179) -/
  | hayCfgWrite (m : Master) (v : W32)
  /-- DRAIN_REFUSED (R201) -/
  | drainRefused
  /-- LOST (R224) -/
  | refLost (i : Nat)
  /-- PRESENT (R224) -/
  | refPresent (i : Nat)
  /-- ESMC_PDU (R227) -/
  | esmcPdu (p : Nat) (pdu : Option EsmcPdu)
  /-- QL_TIMEOUT (R226) -/
  | qlTimeout (i : Nat)
  /-- QL_SRC_WRITE (R226) -/
  | qlSrcWrite (m : Master) (i : Nat) (v : W32)
  /-- QUAL_WINDOW (R229) -/
  | qualWindow (l : List (Nat × Int))
  /-- DISQ (R230) -/
  | disq (i : Nat) (base : Int)
  /-- REQUALIFICATION (R230) -/
  | requalification (i : Nat)
  /-- WTR_EXPIRY (R233) -/
  | wtrExpiry (i : Nat)
  /-- SELECTOR_TICK (R235) -/
  | selectorTick
  /-- MANUAL (R236) -/
  | selManual (m : Master) (idx : Nat)
  /-- FORCED (R236) -/
  | selForced (m : Master) (idx : Nat)
  /-- CLEAR (R236) -/
  | selClear (m : Master) (idx : Nat)
  /-- HOLDOFF_END (R238) -/
  | holdoffEnd
  /-- BUILDOUT_DONE (R240) -/
  | buildoutDone (ofs : Int)
  /-- ENTER_LOCKED (R242) -/
  | enterLocked
  /-- ENTER_ACQUIRE (R242) -/
  | enterAcquire
  /-- MODE (R242) -/
  | stbMode (m : Master) (v : W32)
  /-- FW_BEAT (R243) -/
  | fwBeat (m : Master) (v : W32)
  /-- FW_LOST (R243) -/
  | fwLost
  /-- HO_BOUND_CHECK (R251) -/
  | hoBoundCheck
  /-- FROZEN_LIM (R251) -/
  | frozenLim
  /-- STEER_SRV (R245) -/
  | steerSrv (m : Master) (v : W32)
  /-- STEER_MAN (R245) -/
  | steerMan (m : Master) (v : W32)
  /-- SAMPLE_10MIN (R247) -/
  | sample10min (start : Nat) (tInt tExt : Int)
  /-- SAMPLE_1S (R247) -/
  | sample1s (start : Nat) (tInt tExt : Int)
  /-- PRUNE_DONE (R252) -/
  | pruneDone
  /-- ESMC_TX (R227) -/
  | esmcTx (p : Nat)
  /-- EVENT_PDU (R227) -/
  | eventPdu (p : Nat)
  /-- STEP (R256) -/
  | pmkStep (m : Master)
  /-- STEPPED (R256) -/
  | stepped
  /-- STEP_CANCEL (R256) -/
  | stepCancel (m : Master)
  /-- ADJ (R256) -/
  | adj (m : Master) (v : W32)
  /-- ADJ_DONE (R256) -/
  | adjDone
  /-- AUTO_STEP (R257) -/
  | autoStep (err : Int)
  /-- SEC_MIS (R257) -/
  | secMis
  /-- TIME_FAULT (R258) -/
  | timeFault (d : Int)
  /-- PTP_RX (R262) -/
  | ptpRx (p taken : Nat) (l : List Byte)
  /-- ONE_STEP_SYNC (R261) -/
  | oneStepSync (p : Nat) (l : List Byte)
  /-- PPS_OUT (R264) -/
  | ppsOut
  /-- TOD_MESSAGE (R266) -/
  | todMessage
  /-- ZDA (R267) -/
  | zda (ok : Bool) (utc : Nat)
  /-- TIME_MESSAGE (R270) -/
  | timeMessage (c sc : Nat)
  /-- TT_LATCH (R273) -/
  | ttLatch
  /-- TCH_FRAME_TX (R276) -/
  | tchFrameTx
  /-- TCH_FRAME_RX (R277) -/
  | tchFrameRx (x : Option (BitVec 128))
  /-- TIME_POSTCARD (R278) -/
  | timePostcard
  /-- SLOT_DONE (R288) -/
  | slotDone (p : Nat) (x y : List MonOut)
  /-- MON_TRIG (R291) -/
  | monTrig (rising : Bool)
  /-- TRIG_DONE (R291) -/
  | trigDone (p : Nat) (x y : List MonOut)
  /-- SOFT_TRIG (R294) -/
  | softTrig (m : Master)
  /-- COMPAT_TIMER (R294) -/
  | compatTimer
  /-- SNAP_DONE (R294) -/
  | snapDone (l : List MonOut)
  /-- SETTLED (R287) -/
  | settled (n : Nat)
  /-- CHK_WINDOW (R292) -/
  | chkWindow (p ms : Nat) (x y : Int)
  /-- MON_FAULT (R293) -/
  | monFault (p : Nat) (x y : Int)
  /-- FAULT_CLR (R293) -/
  | faultClr (m : Master)
  /-- BIN_BLOCK (R295) -/
  | binBlock (b : Nat) (sec ns : W32)
  /-- MON_CFG_WRITE (R296) -/
  | monCfgWrite (m : Master) (addr : Nat) (v : W32)
  /-- POSTCARD_TX_START (R305) -/
  | postcardTxStart (c : Nat)
  /-- TX_DONE (R306) -/
  | txDone (c : Nat)
  /-- TX_CMD (R306) -/
  | txCmd (m : Master) (c : Nat) (v : W32)
  /-- TX_EXPIRED (R306) -/
  | txExpired (c : Nat)
  /-- IDENT_TIMER (R302) -/
  | identTimer (c : Nat)
  /-- QL_TIMER (R302) -/
  | qlTimer (c : Nat)
  /-- DEFECT_TIMER (R302) -/
  | defectTimer (c : Nat)
  /-- SR_TIMER (R302) -/
  | srTimer (c : Nat)
  /-- PREAMBLE_DETECTION (R313) -/
  | preambleDetection (k : Nat) (lvl : Int)
  /-- FALSE_DET (R312) -/
  | falseDet (k : Nat)
  /-- SYNC_MATCH (R314) -/
  | syncMatch (k : Nat) (lvl : Int) (bits : W32)
  /-- POSTCARD_END (R315) -/
  | postcardEnd (k hdr : Nat) (data : List W32) (crc : Nat)
  /-- BOUND_TIMEOUT (R317) -/
  | boundTimeout (k : Nat)
  /-- SEQ_WINDOW_RESET (R304) -/
  | seqWindowReset (k : Nat)
  /-- RX_POP (R316) -/
  | rxPop (m : Master) (v : W32)
  /-- PCC_CFG_WRITE (R308) -/
  | pccCfgWrite (m : Master) (v : W32)
  /-- TRAIN_DONE (R323) -/
  | trainDone (l : Nat) (eq : W32) (snr : Nat)
  /-- TRAIN_FAIL (R324) -/
  | trainFail (l : Nat)
  /-- TRAIN_RETRY (R324) -/
  | trainRetry (l : Nat)
  /-- CDR_LOL (R325) -/
  | cdrLol (l : Nat)
  /-- PRBS_LOCK (R327) -/
  | prbsLock (yard : Bool) (l : Nat)
  /-- PRBS_LOSS (R327) -/
  | prbsLoss (yard : Bool) (l errs : Nat)
  /-- ERR_INJ (R326) -/
  | errInj (m : Master) (yard : Bool) (l : Nat) (v : W32)
  /-- GEN_EN (R328) -/
  | genEn (m : Master) (yard : Bool) (l : Nat) (v : W32)
  /-- LANE_CNT_CLR (R328) -/
  | laneCntClr (m : Master) (l : Nat) (v : W32)
  /-- YARD_BLOCK (R332) -/
  | yardBlock (l fill : Nat) (b : YardBlk)
  /-- HELLO (R340) -/
  | hello (l : Nat) (h : Hello)
  /-- HELLO_LOST (R337) -/
  | helloLost (j : Nat)
  /-- RUN_READY (R337) -/
  | runReady (m : Master) (v : W32)
  /-- RUN_SWITCH (R337) -/
  | runSwitch (j : Nat)
  /-- LANE_FAILURE (R338) -/
  | laneFailure (l : Nat) (lock : Bool)
  /-- SPARE_IN (R339) -/
  | spareIn (j : Nat)
  /-- REVERT (R339) -/
  | revert (m : Master) (j : Nat) (v : W32)
  /-- SIDEBAND_MESSAGE (R340) -/
  | sidebandMessage (j seq : Nat) (msg : SbMsg)
  /-- SIDEBAND_REPEAT (R340) -/
  | sidebandRepeat (j : Nat)
  /-- IMG_WANT (R341) -/
  | imgWant (j : Nat)
  /-- IMG_RESTART (R341) -/
  | imgRestart (d : Nat)
  /-- IMG_WAIT_TIMEOUT (R341) -/
  | imgWaitTimeout
  /-- IMG_CHECKED (R341) -/
  | imgChecked (fore keys rest : List Byte)
  /-- RMT_CMD (R342) -/
  | rmtCmd (m : Master) (v : W32)
  /-- RMT_DONE (R342) -/
  | rmtDone (ans : Option W32)
  /-- FWD_WRITE (R335) -/
  | fwdWrite (m : Master) (j : Nat) (tx : Bool) (n : Nat) (v : W32)
  /-- STATUS_TIMEOUT (R336) -/
  | statusTimeout (gid msn : Nat)
  /-- DOM_REQ (R345) -/
  | domReq (m : Master) (d : Nat) (v : W32)
  /-- HANDSHAKE_ACCEPT (R346) -/
  | handshakeAccept (d : Nat)
  /-- HS_REFUSED (R346) -/
  | hsRefused (d : Nat) (limit : Bool)
  /-- SHUTDOWN_DONE (R347) -/
  | shutdownDone (d : Nat)
  /-- WAKE_STEP (R348) -/
  | wakeStep (d : Nat)
  /-- WAKE_FAIL (R349) -/
  | wakeFail (d : Nat)
  /-- RETRY (R349) -/
  | wakeRetry (d : Nat)
  /-- TWI_ADDRESS_MATCH (R351) -/
  | twiAddressMatch (addr : Nat)
  /-- TWI_AON (R351) -/
  | twiAon
  /-- WAKE_N (R350) -/
  | wakeN
  /-- TIMER (R350) -/
  | aonTimer
  /-- PAD_HOLD (R354) -/
  | padHold (m : Master) (v : W32)
  /-- PG_FALL (R355) -/
  | pgFall (rail : Nat)
  /-- RESET_ASSERT (R359) -/
  | resetAssert (src dom page : Nat)
  /-- IDLE_TIMEOUT (R360) -/
  | idleTimeout (src : Nat)
  /-- RESET_RELEASE (R361) -/
  | resetRelease (src : Nat)
  /-- SW_CHIP (R358) -/
  | swChip (m : Master) (v : W32)
  /-- SW_CORE (R358) -/
  | swCore (m : Master) (v : W32)
  /-- SW_DOMAIN (R358) -/
  | swDomain (m : Master) (v : W32)
  /-- SW_BLOCK (R358) -/
  | swBlock (m : Master) (v : W32)
  /-- SW_RELEASE (R358) -/
  | swRelease (m : Master) (v : W32)
  /-- HOST_RST (R357) -/
  | hostRst (m : Master) (v : W32)
  /-- IMAGE_CHECK (R366) -/
  | imageCheck (fore key sig rest : List Byte)
  /-- LC_CMD (R367) -/
  | lcCmd (m : Master) (v : W32)
  /-- XTAL_OK (R364) -/
  | xtalOk
  /-- XTAL_FAIL (R364) -/
  | xtalFail
  /-- ACCESS_ERR (R353) -/
  | accessErr (m : Master) (write : Bool) (addr : Nat)
  /-- SLICE_CYCLE (R373) -/
  | sliceCycle (c lane : Nat)
  /-- SLICE_RESULT (R373) -/
  | sliceResult (c lane : Nat) (ab : SliceVal × SliceVal) (tap : Nat)
  /-- SLICE_RAMP (R375) -/
  | sliceRamp (c lane : Nat)
  /-- DAC_SKEW_CAL (R376) -/
  | dacSkewCal (c lane : Nat) (a b : Int)
  /-- MON_REF_REFRESH (R378) -/
  | monRefRefresh (p : Nat) (x y : Int)
  /-- PROD (R371) -/
  | prod (m : Master) (v : W32)
  /-- STORE_NOW (R383) -/
  | storeNow (m : Master) (v : W32)
  /-- LIVE_STORE (R383) -/
  | liveStore (c : Nat) (ok : Bool)
  /-- REF_LOST (R370) -/
  | calRefLost
  /-- TACK_ROOM_WRITE (R380) -/
  | tackRoomWrite (m : Master) (off : Nat) (v : W32)
  /-- TACK_ROOM_READ (R381) -/
  | tackRoomRead (m : Master) (off : Nat) (e : TrEcc)
  /-- RUN (R386) -/
  | bstRun (m : Master) (v : W32)
  /-- FULL (R390) -/
  | bstFull (m : Master) (v : W32)
  /-- BST_CANCEL (R389) -/
  | bstCancel (m : Master) (v : W32)
  /-- RELEASE (R387) -/
  | bstRelease (m : Master) (v : W32)
  /-- TEST_ADMIT (R388) -/
  | testAdmit
  /-- TEST_DONE (R386) -/
  | testDone (t : Nat) (e : BstEnd) (detail : Nat)
  /-- EXPIRED (R388) -/
  | bstExpired (t : Nat)
  /-- WDT_EXPIRY (R395) -/
  | wdtExpiry (c : Nat)
  /-- WDT_KICK (R395) -/
  | wdtKick (m : Master) (c : Nat) (v : W32)
  /-- ACCESS_FAULT (R393) -/
  | accessFault (c addr kind : Nat) (machine : Bool)
  /-- MPU_WRITE (R394) -/
  | mpuWrite (m : Master) (c r : Nat) (cfg : Bool) (v : W32)
  /-- INFO (R397) -/
  | lbInfo (m : Master) (v : W32)
  /-- FLASH_READ (R397) -/
  | flashRead (m : Master) (v : W32)
  /-- FLASH_ERASE (R398) -/
  | flashErase (m : Master) (v : W32)
  /-- FLASH_PROG (R398) -/
  | flashProg (m : Master) (v : W32)
  /-- LOG_READ (R397) -/
  | logRead (m : Master) (v : W32)
  /-- TEST_WINDOW (R398) -/
  | testWindow (m : Master) (v : W32)
  /-- RETURN_AUTH (R398) -/
  | returnAuth (m : Master) (v : W32)
  /-- LB_DONE (R396) -/
  | lbDone (e : LbEnd)
  /-- LOG_DRAIN (R400) -/
  | logDrain
  /-- SNAP (R405) -/
  | snap (m : Master) (v : W32)
  /-- DUMP (R405) -/
  | dump
  /-- DUMP_CFG_WRITE (R405) -/
  | dumpCfgWrite (m : Master) (v : W32)
  /-- OVF (R401) -/
  | ovf (n gain : Nat) (pc : W32) (seg : W32)
  /-- CTR_LOAD (R401) -/
  | ctrLoad (m : Master) (n : Nat) (v : W32)
  /-- FAULT_DETECTED (R409) -/
  | faultDetected (f k : Nat)
  /-- CFG_PARITY_ERR (R412) -/
  | cfgParityErr (addr : Nat) (v : W32)
  /-- CFG_SCAN (R412) -/
  | cfgScan (bad : List Nat)
  /-- OPEN (R413) -/
  | winOpen (m : Master) (v : W32)
  /-- CLOSE (R413) -/
  | winClose (m : Master) (v : W32)
  /-- WINDOW_EXPIRY (R413) -/
  | windowExpiry
  /-- INJ_CFG_WRITE (R414) -/
  | injCfgWrite (m : Master) (k : Nat) (v : W32)
  /-- INJ_END (R414) -/
  | injEnd (k : Nat)
  /-- DECODE_ERR (R418) -/
  | decodeErr (m : Master) (write : Bool) (addr size : Nat)
  /-- ALIAS_WRITE (R422) -/
  | aliasWrite (m : Master) (addr : Nat) (v : W32)
  /-- ALIAS_READ (R423) -/
  | aliasRead (m : Master) (addr : Nat)
  /-- SPI_WRITE (R424) -/
  | spiWrite (addr : Nat) (ws : List W32)
  /-- SPI_READ (R424) -/
  | spiRead (addr n : Nat)
  /-- SPI_STATUS (R424) -/
  | spiStatus
  /-- TWI_WRITE (R425) -/
  | twiWrite (bytes : List Byte)
  /-- TWI_READ (R425) -/
  | twiRead (addr : List Byte) (n : Nat)
  /-- RC_READ (R419) -/
  | rcRead (m : Master) (addr size : Nat)
  /-- REGISTER_WRITE (R420) -/
  | registerWrite (m : Master) (addr : Nat) (v : W32)
  /-- FRAME_TX (R128) -/
  | frameTx (c : Nat)
  /-- ADC_CLIP (R73) -/
  | adcClip (c lane : Nat)
  /-- ADC_CLK_LOCK (R86) -/
  | adcClkLock (c : Nat)
  /-- CDR_LOCK (R325) -/
  | cdrLock (l : Nat)
  /-- PORT_UP (R324) -/
  | portUp (p : Nat)
  /-- BLOCK_LOCK (R337) -/
  | blockLock (l : Nat)
  /-- YARD_BLOCK_TX (R336) -/
  | yardBlockTx (l : Nat) (tiles : List Nat) (frag : Bool)
  /-- PAIR_OUTPUT (R289) -/
  | pairOutput (p : Nat) (x y : MonOut)
  /-- PPS_WIDTH_END (R264) -/
  | ppsWidthEnd
  /-- CAL_REF_IN_PRESENT (R370) -/
  | calRefInPresent (fast : Bool)
  /-- PROD_DONE (R371) -/
  | prodDone (vrefOk agree : Bool) (x : ProdVals)
  deriving DecidableEq, Repr

end Sys2Proof
end

