-- ==== Sys2Proof/Config.lean ====
section
/-! DEFINITION. The free values: what the spec leaves open after a command that still takes effect. Each is an opaque
constant with no body, so that no proof can see its value; the state's counter of free values (State.free) is its
argument, so that each use is a value of its own. The assumption log names every use. -/

namespace Sys2Proof

/-- A free 32-bit value: the contents of a register or word that the spec leaves undefined.
DESIGN CHOICE, safe (log 6). -/
opaque Config.freeWord : Nat → W32

/-- A free choice between two outcomes, both of which the spec allows. -/
opaque Config.freeBool : Nat → Bool

/-- A free natural number, for a count or index that the spec leaves open; the user reduces it to the field's range. -/
opaque Config.freeNat : Nat → Nat

/-- The AES key unwrap of RFC 3394 (R213), which the spec names and does not state: the key-encryption key and the ten
words of the wrapped key give the key, or nothing where the integrity check fails. PRESUMED, safe (log 10). -/
opaque Config.unwrap : BitVec 256 → List W32 → Option (BitVec 256)

/-- AES-256-GCM (R203), which the spec names and does not state: the ciphertext and the tag under a key, a 96-bit IV,
additional data and a plaintext; their lengths are the users' to fix. PRESUMED, safe (log 10). -/
opaque Config.gcm : BitVec 256 → BitVec 96 → List Byte → List Byte → List Byte × List Byte

/-- The pre-FEC threshold, in thousandths, that the OIF agreement of a mode states and the spec does not (R112).
DESIGN CHOICE, safe (log 67). -/
opaque Config.oifThreshold : Nat → Nat

/-! ## Arithmetic of the transmit chain that the spec names and does not state (R50, log 70) -/

/-- Stage 3: the coded bits of an information stream under the express or the bulk code, whose matrices the spec does
not give. DESIGN CHOICE, safe (log 70). -/
opaque Config.encode : Bool → List Bool → List Bool

/-- Stage 4: what the distribution matcher makes of coded bits in one polarisation (`true`: Y) at the entropy K: an
amplitude's rank and a sign for each dimension. DESIGN CHOICE, safe (log 70). -/
opaque Config.matcher : Nat → Bool → List Bool → List (Nat × Bool)

/-- The level of a symbol with the mean payload energy, of a pilot so many half decibels above it, and of a unit of
amplitude at the entropy K. DESIGN CHOICE, safe (log 70). -/
opaque Config.level : Nat → Nat → Int

/-- Stage 7: a subcarrier's symbols as samples, under a roll-off in hundredths. DESIGN CHOICE, safe (log 70). -/
opaque Config.pulse : Nat → List (Int × Int) → List (Int × Int)

/-- Stage 8: a subcarrier's samples moved to its centre frequency. DESIGN CHOICE, safe (log 70). -/
opaque Config.shift : Int → List (Int × Int) → List (Int × Int)

/-- Stage 10: a lane's samples moved by tenths of a picosecond. DESIGN CHOICE, safe (log 70). -/
opaque Config.delay : Int → List Int → List Int

/-- Stage 11: a DAC word before its saturation, at a full-scale swing in millivolts. DESIGN CHOICE, safe (log 70). -/
opaque Config.dacWord : Nat → Int → Int

/-- The levels of a pattern of IEEE 802.3 (Table 14.3, values 0 to 2): its code, the symbols before, how many.
DESIGN CHOICE, safe (log 88). -/
opaque Config.ieeePattern : Nat → Nat → Nat → List Nat

/-- SHA-384 (R365), which the spec names and does not state. PRESUMED, safe (log 89). -/
opaque Config.sha384 : List Byte → BitVec 384

/-- Whether an ECDSA P-384 signature of a digest verifies under a public key (R365). PRESUMED, safe (log 89). -/
opaque Config.ecdsa : List Byte → BitVec 384 → List Byte → Bool

/-- The hash of Yelur's return key, held in the factory fuses (R365). PRESUMED, safe (log 89). -/
opaque Config.returnHash : BitVec 384

/-! ## Arithmetic of the monitor that the spec names and does not state (log 83) -/

/-- The half-band FIR, linear or minimum phase, before its decimation (R283, R285). DESIGN CHOICE, safe (log 83). -/
opaque Config.halfBand : Bool → List Int → List Int

/-- The final FIR, linear or minimum phase, before its decimation by 8. DESIGN CHOICE, safe (log 83). -/
opaque Config.finalFir : Bool → List Int → List Int

/-- The final FIR of Tone, which resamples by 25/32. DESIGN CHOICE, safe (log 83). -/
opaque Config.resample : List Int → List Int

/-- What a preset's own shift makes of a stage's result, by preset, order, low-power mode and stage (R284).
DESIGN CHOICE, safe (log 83). -/
opaque Config.presetShift : Nat → Bool → Bool → Nat → Int → Int

/-- Cosine and sine of 2π k / 2²⁴, in 2⁻³⁰ (R295). DESIGN CHOICE, safe (log 83). -/
opaque Config.rotor : Nat → Int × Int

/-- The angle of a complex number, in 2π / 65,536 (R295). DESIGN CHOICE, safe (log 83). -/
opaque Config.angle : Int × Int → Nat

/-- LEVEL, in 0.1 dB, of the last bin magnitudes at a rate code: 20 log10 of their mean, corrected for the window's
response (R309). DESIGN CHOICE, safe (log 87). -/
opaque Config.levelOf : Nat → List Nat → Int

/-- The fixed delay in ns of a Postcard that the carrier's receiver delivers (R310). DESIGN CHOICE, safe (log 87). -/
opaque Config.dspDelay : Nat

/-- The complex signal that an OIF agreement gives in one polarisation, by the mode and the client's bytes (R51).
DESIGN CHOICE, safe (log 70). -/
opaque Config.oifSignal : Nat → Bool → List Byte → List (Int × Int)

end Sys2Proof
end

