-- ==== Sys2Proof/Machine/RegMap.lean ====
section
/-! DEFINITION. The names of every register of the address map (spec/18 R417 and the field maps it points to),
the pages they stand on (Table 18.1), and for each register its place, its reset value and the write and read
behaviour of its bits, taken from the field maps of the block chapters (the table of each is in the comment). -/

namespace Sys2Proof.Machine

/-- The kinds of page of Table 18.1, one per field map: the instance pages of a kind follow one another. -/
inductive Page where
  | DEV
  | PMU
  | RST
  | AON
  | STB
  | STBR
  | CAX
  | SCX
  | LFMS
  | LFMC
  | LFMG
  | SOFP
  | SOF
  | SOFH
  | SOFF
  | SOFC
  | HAY
  | CIP
  | CIPF
  | CIPR
  | CIPG
  | HLN
  | YLN
  | YLL
  | YLK
  | MON
  | MONP
  | MONC
  | MONB
  | PCC
  | PCCC
  | PCCS
  | CAL
  | CALC
  | BST
  | PMC
  | PMCU
  | PMCL
  | SAF
  | SAFT
  | LB
  | CORE
  | PMK
  | PMKC
  | PMKP
  deriving DecidableEq, Repr

/-- Every register (or array of registers) the field maps name, under its block and register name. -/
inductive RegId where
  | DEV_ID | DEV_STEPPING | DEV_VARIANT | DEV_LC | DEV_LC_CMD | DEV_LC_STATUS | DEV_UID_LO | DEV_UID_HI
  | DEV_BOOT_STATUS | DEV_CFG_APPLIED | DEV_EVT | DEV_EVT_EN | DEV_DECODE_ERR | DEV_DECODE_ADDR | DEV_OPT
  | DEV_IRQ_STATUS | DEV_IRQ_EN | DEV_CORE_IRQ_EN | DEV_IRQ_DETAIL | DEV_GROUP_MASK | PMU_CFG | PMU_EVT
  | PMU_EVT_EN | PMU_WAKE_SRC | PMU_PAD_HOLD | PMU_ACCESS_ERR | PMU_ACCESS_ERR_ADDR | PMU_WAKE_MASK
  | PMU_WAKE_TBL | PMU_DOM | RST_CAUSE | RST_LAST | RST_ACTIVE | RST_MAP_LO | RST_MAP_HI | RST_SW_CMD
  | RST_HOST_RST | RST_IDLE_TO | RST_EVT | RST_EVT_EN | RST_IDLE_LOG | AON_CFG | AON_SLOW_CNT | AON_TIMER_CMP
  | AON_TIMER_CTRL | AON_SLOW_STATUS | AON_EVT | AON_EVT_EN | STB_CFG | STB_SEL_CMD | STB_STATUS | STB_EVT
  | STB_EVT_EN | STB_REF_SUM | STB_STEER_LO | STB_STEER_HI | STB_STEER_SRV_LO | STB_STEER_SRV_HI
  | STB_STEER_MAN_LO | STB_STEER_MAN_HI | STB_STEER_CFG | STB_MODEL_PRED | STB_HO_BOUND | STB_HO_CFG
  | STB_MODEL_STATUS | STB_PRUNE | STB_ONSET | STB_SWITCH_CNT | STB_HO_SEC | STB_FW_BEAT | STB_TEMP_CFG
  | STB_ESMC_TX | STB_CLK_ID_HI | STB_CLK_ID_LO | STB_REF_CFG | STB_REF_QUAL | STB_REF_LOS | STB_REF_STATUS
  | STB_REF_FOFS | STB_REF_DRIFT | STB_REF_WTR | STB_REF_FW | STB_REF_EVT | STB_REF_EVT_EN | STB_REF_DISQ_CNT
  | STB_REF_LOS_CNT | CAX_TX_PROFILE | CAX_TX_NEXT | CAX_RX_PROFILE | CAX_CHG_CTRL | CAX_CHG_STATUS
  | CAX_LINE_EVT | CAX_LINE_EVT_EN | CAX_TX_CTRL | CAX_TX_STATUS | CAX_TX_SHAPE | CAX_TX_SWING
  | CAX_TX_PRE_APPLY | CAX_TX_SKEW | CAX_TX_EVT | CAX_TX_EVT_EN | CAX_TX_ENTROPY | CAX_TX_CLIP_CNT
  | CAX_TX_SEG_ERR | CAX_RX_CTRL | CAX_RX_STATUS | CAX_RX_SHAPE | CAX_RX_LOS_CFG | CAX_RX_CD_EST | CAX_RX_FOFS
  | CAX_RX_CLK_OFS | CAX_RX_EVT | CAX_RX_EVT_EN | CAX_RX_ILV_STATUS | CAX_RX_LOS_CNT | CAX_RX_RELOCK_CNT
  | CAX_RX_ACQ_CNT | CAX_RX_ADC_CLIP_CNT | CAX_TX_PRE | SCX_RX_CFG | SCX_RX_STATUS | SCX_RX_SNR | SCX_RX_SOP
  | SCX_RX_EVT | SCX_RX_EVT_EN | SCX_RX_SLIP_CNT | SCX_RX_RECONV_CNT | SCX_FEC_CFG | SCX_FEC_STATUS
  | SCX_FEC_EVT | SCX_FEC_EVT_EN | SCX_FEC_CTRL | SCX_FEC_SEC_TAG | SCX_FEC_SEC_BITS_LO | SCX_FEC_SEC_BITS_HI
  | SCX_FEC_SEC_CORR_LO | SCX_FEC_SEC_CORR_HI | SCX_FEC_SEC_CW | SCX_FEC_SEC_UNC | SCX_FEC_SEC_PEAK
  | SCX_FEC_TOT_CW_LO | SCX_FEC_TOT_CW_HI | SCX_FEC_TOT_CORR_LO | SCX_FEC_TOT_CORR_HI | SCX_FEC_TOT_UNC_LO
  | SCX_FEC_TOT_UNC_HI | SCX_FEC_SEG_ERR | LFM_SC_STATUS | LFM_SC_EVT | LFM_SC_EVT_EN | LFM_SC_CFG
  | LFM_OOF_CNT | LFM_ALIAS_CNT | LFM_SES_TH | LFM_PM_TAG | LFM_PM_NE_CORR_LO | LFM_PM_NE_CORR_HI
  | LFM_PM_NE_UNC | LFM_PM_FE_CORR_LO | LFM_PM_FE_CORR_HI | LFM_PM_FE_UNC | LFM_PM_FLAGS | LFM_TOT_NE_ES
  | LFM_TOT_NE_SES | LFM_TOT_FE_ES | LFM_TOT_FE_SES | LFM_SLOT_MAP_TX | LFM_SLOT_MAP_RX | LFM_MSI_RX
  | LFM_MAP_CTRL | LFM_CA_CFG | LFM_CA_STATUS | LFM_CA_EVT | LFM_CA_EVT_EN | LFM_SR_TX | LFM_SR_RX | LFM_TTI_TX
  | LFM_TTI_EXP | LFM_TTI_ACC | LFM_GRP_CFG | LFM_GRP_STATUS | LFM_GRP_SKEW | LFM_GRP_EVT | LFM_GRP_EVT_EN
  | LFM_GRP_FAIL_CNT | SOF_PORT_CFG | SOF_PORT_STATUS | SOF_PFC_CFG | SOF_DEF_FLOW | SOF_PORT_CTRL
  | SOF_RX_OK_LO | SOF_RX_OK_HI | SOF_RX_FCS_LO | SOF_RX_FCS_HI | SOF_RX_RUNT_LO | SOF_RX_RUNT_HI
  | SOF_RX_OVERSIZE_LO | SOF_RX_OVERSIZE_HI | SOF_RX_UNCLASS_LO | SOF_RX_UNCLASS_HI | SOF_RX_PAUSE_LO
  | SOF_RX_PAUSE_HI | SOF_TX_OK_LO | SOF_TX_OK_HI | SOF_TX_PAUSE_LO | SOF_TX_PAUSE_HI | SOF_PH_CMD
  | SOF_PH_RESULT | SOF_EVT | SOF_EVT_EN | SOF_SHED_POOL | SOF_HAY_POOL | SOF_POOL_STATUS | SOF_QUOTA_SUM
  | SOF_LINE_UNCLASS | SOF_SHED_CE | SOF_SHED_UE | SOF_GRP_TXHOLD | SOF_GRP_DELIN_CNT | SOF_PH_W0 | SOF_PH_W1
  | SOF_PH_W2 | SOF_PH_W3 | SOF_PH_W4 | SOF_PH_W5 | SOF_PH_W6 | SOF_PH_W7 | SOF_FP_W0 | SOF_FP_W1 | SOF_FP_W2
  | SOF_FP_W3 | SOF_FP_W4 | SOF_FP_W5 | SOF_FP_W6 | SOF_FP_W7 | SOF_ACC_FRM_LO | SOF_ACC_FRM_HI
  | SOF_ACC_BYTE_LO | SOF_ACC_BYTE_MID | SOF_ACC_BYTE_HI | SOF_OUT_FRM_LO | SOF_OUT_FRM_HI | SOF_OUT_BYTE_LO
  | SOF_OUT_BYTE_MID | SOF_OUT_BYTE_HI | SOF_POL_DROP_LO | SOF_POL_DROP_HI | SOF_QUE_DROP_LO | SOF_QUE_DROP_HI
  | SOF_ERR_DROP_LO | SOF_ERR_DROP_HI | SOF_KEY_DROP_LO | SOF_KEY_DROP_HI | SOF_PATH_DROP_LO | SOF_PATH_DROP_HI
  | SOF_POISON_DROP_LO | SOF_POISON_DROP_HI | SOF_XOFF_CNT_LO | SOF_XOFF_CNT_HI | HAY_CFG | HAY_STATUS
  | HAY_SCRUB_CFG | HAY_SCRUB_STATUS | HAY_EVT | HAY_EVT_EN | HAY_APERTURE_PAGE | HAY_APT_STATUS
  | HAY_CE_TOT_LO | HAY_CE_TOT_HI | HAY_UE_TOT | HAY_ACC_TO_CNT | HAY_RET_CMD | HAY_RET_STATUS | HAY_RET_DATA
  | HAY_LEAK_PAGES | HAY_LOG_STATUS | HAY_CAP_CFG | HAY_CAP_PTR | HAY_CAP_SEQ | HAY_CAP_DROP | HAY_LOG_W0
  | HAY_LOG_W1 | HAY_LOG_W2 | HAY_LOG_W3 | CIP_CFG | CIP_STATUS | CIP_EVT | CIP_EVT_EN | CIP_KEY_CMD
  | CIP_KEY_RESULT | CIP_PN_WARN_FLOW | CIP_KEY_DATA | CIP_KEY_SALT | CIP_NO_SC_CNT | CIP_TIMEOUT_CNT
  | CIP_ENT_FAIL_CNT | CIP_CTX_CFG | CIP_SCI_HI | CIP_SCI_LO | CIP_SSCI | CIP_REPLAY_WIN | CIP_TX_PN_LO
  | CIP_TX_PN_HI | CIP_ENC_FRM_LO | CIP_ENC_FRM_HI | CIP_AUTH_FAIL_LO | CIP_AUTH_FAIL_HI | CIP_REPLAY_DROP_LO
  | CIP_REPLAY_DROP_HI | CIP_NO_SA_DROP_LO | CIP_NO_SA_DROP_HI | CIP_RXC | CIP_RXC_SCI_HI | CIP_RXC_SCI_LO
  | CIP_GCX_CFG | CIP_SEAL_OK_LO | CIP_SEAL_OK_HI | CIP_SEAL_FAIL_LO | CIP_SEAL_FAIL_HI | CIP_SEAL_LOSS
  | CIP_SEAL_REPLAY | HLN_LANE_CFG | HLN_TX_EQ | HLN_TX_EQ_ACT | HLN_TRAIN_STATUS | HLN_RX_STATUS
  | HLN_PRBS_CFG | HLN_PRBS_STATUS | HLN_PRBS_BITS_LO | HLN_PRBS_BITS_HI | HLN_PRBS_ERR_LO | HLN_PRBS_ERR_HI
  | HLN_FEC_SYM_ERR_LO | HLN_FEC_SYM_ERR_HI | HLN_LANE_EVT | HLN_LANE_EVT_EN | HLN_LANE_CTRL | YLN_YARD_CFG
  | YLN_ID_STATUS | YLN_ID_EVT | YLN_ID_EVT_EN | YLN_IMG_FWD | YLN_RMT_CMD | YLN_RMT_ADDR | YLN_RMT_DATA
  | YLN_RMT_STATUS | YL_CFG | YL_EQ | YL_RX | YL_STATUS | YLN_UNC_CW | YLN_BAD_BLK | YLN_FILL_DEL_LO
  | YLN_FILL_DEL_HI | YL_PRBS_CFG | YL_PRBS_STATUS | YL_PRBS_BITS_LO | YL_PRBS_BITS_HI | YL_PRBS_ERR_LO
  | YL_PRBS_ERR_HI | YLN_FILL_INS_LO | YLN_FILL_INS_HI | YLN_LINK_STATUS | YLN_LINK_EVT | YLN_LINK_EVT_EN
  | YLN_LINK_CTRL | YLN_FWD_TX | YLN_FWD_RX | MON_CFG | MON_STATUS | MON_EVT | MON_EVT_EN | MON_CTRL
  | MON_TRIG_CFG | MON_COMPAT_CFG | MON_TIMER | MON_TRIG_OVR_CNT | MON_CHK_FAIL_CNT | MON_LIM_STAT | MON_SNAP
  | MON_SNAP_SEC | MON_SNAP_NS | MON_PAIR_CFG | MON_NOTCH_LEN | MON_SHIFT | MON_PAIR_STATUS | MON_LAST
  | MON_TRIG_RES | MON_TRIG_SEC | MON_TRIG_NS | MON_SEQ | MON_RESULT | MON_RES_SEC | MON_LIM | MON_CH_CFG
  | MON_BIN_CFG | MON_BIN_FREQ | MON_BIN_MAG | MON_BIN_PHASE | MON_BIN_SEC | MON_BIN_NS | MON_BIN_MISS
  | PCC_CFG | PCC_NODE_ID | PCC_STATUS | PCC_EVT | PCC_EVT_EN | PCC_RX_POP | PCC_RX_HEAD | PCC_RX_LEVEL
  | PCC_RX_SEC | PCC_RX_NS | PCC_RX_DATA | PCC_RX_OVR_CNT | PCC_TX_CFG | PCC_TX_AUTO | PCC_TX_CMD
  | PCC_TX_STATUS | PCC_TX_DATA | PCC_TX_SENT | PCC_TX_ABORT_CNT | PCC_TX_EXPIRED_CNT | PCC_SLOT_CFG
  | PCC_SLOT_STATUS | PCC_DET_LVL | PCC_LOCK_LVL | PCC_PEER | PCC_EXP_ID | PCC_FAR_DEF | PCC_SR_RX
  | PCC_LAST_SEQ | PCC_RX_OK | PCC_CRC_FAIL | PCC_FALSE_DET | PCC_PREEMPT_CNT | PCC_HDR_BAD | PCC_DUP
  | PCC_SEQ_GAP | PCC_STALE | CAL_CFG | CAL_STATUS | CAL_EVT | CAL_EVT_EN | CAL_CMD | CAL_RESULT | CAL_VREF_VAL
  | CAL_TEMP_REF | CAL_TR_BANK | CAL_TR_STATUS | CAL_TR_CE | CAL_TR_UE | CAL_DISCARD_CNT | CAL_DAC_DISCARD_CNT
  | CAL_PASS_CNT | CAL_SLICE_SEL | CAL_SLICE_OFS | CAL_SLICE_GAIN | CAL_SLICE_TAP | CAL_LAST_STORE | BST_CMD
  | BST_RESULT | BST_CAP | BST_STATUS | BST_EVT | BST_EVT_EN | BST_QUEUE_TO | BST_RES | PMC_CFG | PMC_EVT
  | PMC_EVT_EN | PMC_OVF | PMC_DUMP_CFG | PMC_DUMP_MASK | PMC_DUMP_BASE | PMC_DUMP_SIZE | PMC_DUMP_PTR
  | PMC_DUMP_SEQ | PMC_DUMP_DROP | PMC_DUMP_WRAP | PMC_SAMPLE_SRC | PMC_SAMPLE_PC | PMC_SAMPLE_SEG
  | PMC_CTR_CFG | PMC_CTR_LO | PMC_CTR_HI | PMC_SNAP_LO | PMC_SNAP_HI | PMC_USER_LO | PMC_USER_HI
  | PMC_LOG_NEXT | PMC_LOG_OVR | PMC_LOG_DROP | SAF_FAULT_STATUS | SAF_FAULT_EVT | SAF_FAULT_EVT_EN
  | SAF_FAULT_CAUSE | SAF_CFG_ERR | SAF_FO_PEND | SAF_REACT | SAF_FAULT_CNT | SAF_WIN_CTRL | SAF_WIN_STATUS
  | SAF_EVT | SAF_EVT_EN | SAF_INJ_CFG | SAF_INJ_ARG | SAF_INJ_DUR | LB_CMD | LB_STATUS | LB_ARG | LB_RSP
  | CORE_MPU_BASE | CORE_MPU_CFG | CORE_MPU_FAULT | CORE_MPU_FAULT_INFO | CORE_WDT_CFG | CORE_WDT_KICK
  | CORE_WDT_LEFT | PMK_CFG | PMK_STATUS | PMK_EVT | PMK_EVT_EN | PMK_CTRL | PMK_TIME_SET_S_HI
  | PMK_TIME_SET_S_LO | PMK_TIME_SET_NS | PMK_TIME_NS | PMK_TIME_S_HI | PMK_TIME_S_LO | PMK_TIME_FRAC | PMK_ADJ
  | PMK_UTC | PMK_PPS_CFG | PMK_TOD_CFG | PMK_TCH_CFG | PMK_TCH_STATUS | PMK_TCH_CRC_CNT | PMK_GNSS_ERR_CNT
  | PMK_PTP_RX_DROP | PMK_PTP_TX_DROP | PMK_PC_CFG | PMK_PC_OFS | PMK_PC_TAG | PMK_TT_CFG | PMK_TX_FREQ
  | PMK_OPT_DLY_TX | PMK_OPT_DLY_RX | PMK_FIBRE_ASYM | PMK_TT_STATUS | PMK_TT_EVT | PMK_TT_EVT_EN | PMK_TT_TAG
  | PMK_TT_OFS_LO | PMK_TT_OFS_HI | PMK_TT_RTT | PMK_TT_ASYM | PMK_TT_N | PMK_TT_BAD_CNT | PMK_FAR_FREQ
  | PMK_FAR_CD | PMK_PTP_CFG | PMK_RX_DLY | PMK_TX_DLY
  deriving DecidableEq, Repr

/-- A page kind's first address, how many instances it has on a ZQ4000, and the distance between them. -/
structure PageInfo where
  base : Nat
  n : Nat
  stride : Nat
  deriving DecidableEq, Repr

/-- Table 18.1 with the page bases of each chapter's field maps. -/
def Page.info : Page → PageInfo
  | .DEV => ⟨0x0, 1, 4096⟩
  | .PMU => ⟨0x10000, 1, 4096⟩
  | .RST => ⟨0x20000, 1, 4096⟩
  | .AON => ⟨0x30000, 1, 4096⟩
  | .STB => ⟨0x100000, 1, 4096⟩
  | .STBR => ⟨0x110000, 15, 4096⟩
  | .CAX => ⟨0x200000, 2, 4096⟩
  | .SCX => ⟨0x300000, 16, 4096⟩
  | .LFMS => ⟨0x400000, 16, 4096⟩
  | .LFMC => ⟨0x410000, 2, 4096⟩
  | .LFMG => ⟨0x420000, 160, 32⟩
  | .SOFP => ⟨0x500000, 16, 4096⟩
  | .SOF => ⟨0x510000, 1, 4096⟩
  | .SOFH => ⟨0x520000, 4096, 32⟩
  | .SOFF => ⟨0x540000, 4096, 32⟩
  | .SOFC => ⟨0x560000, 4096, 128⟩
  | .HAY => ⟨0x600000, 1, 4096⟩
  | .CIP => ⟨0x700000, 1, 4096⟩
  | .CIPF => ⟨0x710000, 4096, 64⟩
  | .CIPR => ⟨0x750000, 4096, 16⟩
  | .CIPG => ⟨0x760000, 160, 32⟩
  | .HLN => ⟨0x800000, 32, 4096⟩
  | .YLN => ⟨0x900000, 1, 4096⟩
  | .YLL => ⟨0x910000, 8, 4096⟩
  | .YLK => ⟨0x920000, 3, 4096⟩
  | .MON => ⟨0xa00000, 1, 4096⟩
  | .MONP => ⟨0xa10000, 2, 4096⟩
  | .MONC => ⟨0xa20000, 32, 16⟩
  | .MONB => ⟨0xa30000, 8, 32⟩
  | .PCC => ⟨0xb00000, 1, 4096⟩
  | .PCCC => ⟨0xb10000, 2, 4096⟩
  | .PCCS => ⟨0xb20000, 8, 4096⟩
  | .CAL => ⟨0xc00000, 1, 4096⟩
  | .CALC => ⟨0xc10000, 2, 4096⟩
  | .BST => ⟨0xd00000, 1, 4096⟩
  | .PMC => ⟨0xe00000, 1, 4096⟩
  | .PMCU => ⟨0xe10000, 1, 4096⟩
  | .PMCL => ⟨0xe20000, 1, 4096⟩
  | .SAF => ⟨0xf00000, 1, 4096⟩
  | .SAFT => ⟨0xf10000, 1, 4096⟩
  | .LB => ⟨0x1f00000, 1, 4096⟩
  | .CORE => ⟨0x1f10000, 4, 4096⟩
  | .PMK => ⟨0x2000000, 1, 4096⟩
  | .PMKC => ⟨0x2010000, 2, 4096⟩
  | .PMKP => ⟨0x2020000, 16, 4096⟩

/-- Where a register array stands in its page (offset, length, distance, number of the first element), its reset
value, the bits that exist (`mask`, the rest are reserved, R10), and the bits that a write sets as written (`rw`),
clears by a 1 (`w1c`), sets by a 1 (`w1s`), and that a read clears (`rc`). -/
structure RegInfo where
  page : Page
  off : Nat
  count : Nat
  stride : Nat
  first : Nat
  rst : BitVec 32
  mask : BitVec 32
  rw : BitVec 32
  w1c : BitVec 32
  w1s : BitVec 32
  rc : BitVec 32
  deriving DecidableEq, Repr

/-- The field maps: place, reset value and bit behaviour of each register. -/
def RegId.info : RegId → RegInfo
  | .DEV_ID => ⟨.DEV, 0x0, 1, 4, 0, 0x4000d61, 0xffffffff, 0x0, 0x0, 0x0, 0x0⟩ -- 18 T18.5
  | .DEV_STEPPING => ⟨.DEV, 0x4, 1, 4, 0, 0xb0, 0xff, 0x0, 0x0, 0x0, 0x0⟩ -- 15 T15.18
  | .DEV_VARIANT => ⟨.DEV, 0x8, 1, 4, 0, 0x0, 0xff01, 0x0, 0x0, 0x0, 0x0⟩ -- 00 T0.2
  | .DEV_LC => ⟨.DEV, 0xc, 1, 4, 0, 0x0, 0x307, 0x0, 0x0, 0x0, 0x0⟩ -- 15 T15.18
  | .DEV_LC_CMD => ⟨.DEV, 0x10, 1, 4, 0, 0x0, 0x0, 0x0, 0x0, 0x0, 0x0⟩ -- 15 T15.18
  | .DEV_LC_STATUS => ⟨.DEV, 0x14, 1, 4, 0, 0x0, 0xf, 0x0, 0x0, 0x0, 0x0⟩ -- 15 T15.18
  | .DEV_UID_LO => ⟨.DEV, 0x18, 1, 4, 0, 0x0, 0xffffffff, 0x0, 0x0, 0x0, 0x0⟩ -- 18 T18.5
  | .DEV_UID_HI => ⟨.DEV, 0x1c, 1, 4, 0, 0x0, 0xffffffff, 0x0, 0x0, 0x0, 0x0⟩ -- 18 T18.5
  | .DEV_BOOT_STATUS => ⟨.DEV, 0x20, 1, 4, 0, 0x0, 0xfeffffff, 0x0, 0x0, 0x0, 0x0⟩ -- 15 T15.18
  | .DEV_CFG_APPLIED => ⟨.DEV, 0x24, 1, 4, 0, 0x0, 0x3ffe, 0x0, 0x0, 0x3ffe, 0x0⟩ -- 15 T15.18
  | .DEV_EVT => ⟨.DEV, 0x28, 1, 4, 0, 0x0, 0x7, 0x0, 0x7, 0x0, 0x0⟩ -- 18 T18.5
  | .DEV_EVT_EN => ⟨.DEV, 0x2c, 1, 4, 0, 0x0, 0x7, 0x7, 0x0, 0x0, 0x0⟩ -- 18 T18.5
  | .DEV_DECODE_ERR => ⟨.DEV, 0x30, 1, 4, 0, 0x0, 0xff00ffff, 0x0, 0x80000000, 0x0, 0x0⟩ -- 18 T18.5
  | .DEV_DECODE_ADDR => ⟨.DEV, 0x34, 1, 4, 0, 0x0, 0xffffffff, 0x0, 0x0, 0x0, 0x0⟩ -- 18 T18.5
  | .DEV_OPT => ⟨.DEV, 0x40, 16, 4, 0, 0x0, 0xffffffff, 0x0, 0x0, 0x0, 0x0⟩ -- 15 T15.18
  | .DEV_IRQ_STATUS => ⟨.DEV, 0x80, 1, 4, 0, 0x0, 0x1fffff, 0x0, 0x0, 0x0, 0x0⟩ -- 18 T18.5
  | .DEV_IRQ_EN => ⟨.DEV, 0x84, 1, 4, 0, 0x0, 0x1fffff, 0x1fffff, 0x0, 0x0, 0x0⟩ -- 18 T18.5
  | .DEV_CORE_IRQ_EN => ⟨.DEV, 0x90, 4, 4, 0, 0x0, 0x1fffff, 0x1fffff, 0x0, 0x0, 0x0⟩ -- 18 T18.5
  | .DEV_IRQ_DETAIL => ⟨.DEV, 0xa0, 8, 4, 0, 0x0, 0xffffffff, 0x0, 0x0, 0x0, 0x0⟩ -- 18 T18.5
  | .DEV_GROUP_MASK => ⟨.DEV, 0x100, 10, 4, 0, 0x0, 0xffffffff, 0xffffffff, 0x0, 0x0, 0x0⟩ -- 18 T18.5
  | .PMU_CFG => ⟨.PMU, 0x0, 1, 4, 0, 0x36400, 0x3ff03, 0x3ff03, 0x0, 0x0, 0x0⟩ -- 15 T15.15
  | .PMU_EVT => ⟨.PMU, 0x4, 1, 4, 0, 0x0, 0x1f, 0x0, 0x1f, 0x0, 0x0⟩ -- 15 T15.15
  | .PMU_EVT_EN => ⟨.PMU, 0x8, 1, 4, 0, 0x0, 0x1f, 0x1f, 0x0, 0x0, 0x0⟩ -- 15 T15.15
  | .PMU_WAKE_SRC => ⟨.PMU, 0xc, 1, 4, 0, 0x0, 0xf, 0x0, 0xf, 0x0, 0x0⟩ -- 15 T15.15
  | .PMU_PAD_HOLD => ⟨.PMU, 0x10, 1, 4, 0, 0x7, 0x7, 0x0, 0x7, 0x0, 0x0⟩ -- 15 T15.15
  | .PMU_ACCESS_ERR => ⟨.PMU, 0x14, 1, 4, 0, 0x0, 0xef00ffff, 0x0, 0x80000000, 0x0, 0x0⟩ -- 15 T15.15
  | .PMU_ACCESS_ERR_ADDR => ⟨.PMU, 0x18, 1, 4, 0, 0x0, 0xffffffff, 0x0, 0x0, 0x0, 0x0⟩ -- 15 T15.15
  | .PMU_WAKE_MASK => ⟨.PMU, 0x20, 4, 4, 0, 0x2, 0x3ffe, 0x3ffe, 0x0, 0x0, 0x0⟩ -- 15 T15.15
  | .PMU_WAKE_TBL => ⟨.PMU, 0x40, 6, 4, 1, 0x0, 0xffffffff, 0xffffffff, 0x0, 0x0, 0x0⟩ -- 15 T15.15
  | .PMU_DOM => ⟨.PMU, 0x104, 13, 4, 1, 0x0, 0xffc00173, 0x3, 0x80000000, 0x0, 0x0⟩ -- 15 T15.15
  | .RST_CAUSE => ⟨.RST, 0x0, 1, 4, 0, 0x1, 0xffff, 0x0, 0xffff, 0x0, 0x0⟩ -- 15 T15.16
  | .RST_LAST => ⟨.RST, 0x4, 1, 4, 0, 0x1, 0xffff, 0x0, 0x0, 0x0, 0x0⟩ -- 15 T15.16
  | .RST_ACTIVE => ⟨.RST, 0x8, 1, 4, 0, 0x0, 0xffff, 0x0, 0x0, 0x0, 0x0⟩ -- 15 T15.16
  | .RST_MAP_LO => ⟨.RST, 0xc, 1, 4, 0, 0x0, 0x3fffffff, 0x0, 0x0, 0x0, 0x0⟩ -- 15 T15.16
  | .RST_MAP_HI => ⟨.RST, 0x10, 1, 4, 0, 0x0, 0x3ffff, 0x0, 0x0, 0x0, 0x0⟩ -- 15 T15.16
  | .RST_SW_CMD => ⟨.RST, 0x14, 1, 4, 0, 0x0, 0x0, 0x0, 0x0, 0x0, 0x0⟩ -- 15 T15.16
  | .RST_HOST_RST => ⟨.RST, 0x18, 1, 4, 0, 0x0, 0x0, 0x0, 0x0, 0x0, 0x0⟩ -- 15 T15.16
  | .RST_IDLE_TO => ⟨.RST, 0x1c, 1, 4, 0, 0x0, 0xffff, 0xffff, 0x0, 0x0, 0x0⟩ -- 15 T15.16
  | .RST_EVT => ⟨.RST, 0x20, 1, 4, 0, 0x0, 0x7, 0x0, 0x7, 0x0, 0x0⟩ -- 15 T15.16
  | .RST_EVT_EN => ⟨.RST, 0x24, 1, 4, 0, 0x0, 0x7, 0x7, 0x0, 0x0, 0x0⟩ -- 15 T15.16
  | .RST_IDLE_LOG => ⟨.RST, 0x28, 1, 4, 0, 0x0, 0xfffff00f, 0x0, 0x0, 0x0, 0x0⟩ -- 15 T15.16
  | .AON_CFG => ⟨.AON, 0x0, 1, 4, 0, 0x0, 0xc000007f, 0xc0000000, 0x0, 0x0, 0x0⟩ -- 15 T15.17
  | .AON_SLOW_CNT => ⟨.AON, 0x4, 1, 4, 0, 0x0, 0xffffffff, 0x0, 0x0, 0x0, 0x0⟩ -- 15 T15.17
  | .AON_TIMER_CMP => ⟨.AON, 0x8, 1, 4, 0, 0x0, 0xffffffff, 0xffffffff, 0x0, 0x0, 0x0⟩ -- 15 T15.17
  | .AON_TIMER_CTRL => ⟨.AON, 0xc, 1, 4, 0, 0x0, 0x1, 0x1, 0x0, 0x0, 0x0⟩ -- 15 T15.17
  | .AON_SLOW_STATUS => ⟨.AON, 0x10, 1, 4, 0, 0x0, 0xc0000000, 0x0, 0x0, 0x0, 0x0⟩ -- 15 T15.17
  | .AON_EVT => ⟨.AON, 0x14, 1, 4, 0, 0x0, 0x7, 0x0, 0x7, 0x0, 0x0⟩ -- 15 T15.17
  | .AON_EVT_EN => ⟨.AON, 0x18, 1, 4, 0, 0x0, 0x7, 0x7, 0x0, 0x0, 0x0⟩ -- 15 T15.17
  | .STB_CFG => ⟨.STB, 0x0, 1, 4, 0, 0x31e88800, 0xfffff800, 0xfffff800, 0x0, 0x0, 0x0⟩ -- 10 T10.10
  | .STB_SEL_CMD => ⟨.STB, 0x4, 1, 4, 0, 0xf, 0xc000000f, 0xc000000f, 0x0, 0x0, 0x0⟩ -- 10 T10.10
  | .STB_STATUS => ⟨.STB, 0x8, 1, 4, 0, 0xff0000, 0xffff7fff, 0x0, 0x0, 0x0, 0x0⟩ -- 10 T10.10
  | .STB_EVT => ⟨.STB, 0xc, 1, 4, 0, 0x0, 0x1fff, 0x0, 0x1fff, 0x0, 0x0⟩ -- 10 T10.10
  | .STB_EVT_EN => ⟨.STB, 0x10, 1, 4, 0, 0x0, 0x1fff, 0x1fff, 0x0, 0x0, 0x0⟩ -- 10 T10.10
  | .STB_REF_SUM => ⟨.STB, 0x14, 1, 4, 0, 0x0, 0x7fff, 0x0, 0x0, 0x0, 0x0⟩ -- 10 T10.10
  | .STB_STEER_LO => ⟨.STB, 0x18, 1, 4, 0, 0x0, 0xffffffff, 0x0, 0x0, 0x0, 0x0⟩ -- 10 T10.10
  | .STB_STEER_HI => ⟨.STB, 0x1c, 1, 4, 0, 0x0, 0xff, 0x0, 0x0, 0x0, 0x0⟩ -- 10 T10.10
  | .STB_STEER_SRV_LO => ⟨.STB, 0x20, 1, 4, 0, 0x0, 0xffffffff, 0xffffffff, 0x0, 0x0, 0x0⟩ -- 10 T10.10
  | .STB_STEER_SRV_HI => ⟨.STB, 0x24, 1, 4, 0, 0x0, 0xff, 0xff, 0x0, 0x0, 0x0⟩ -- 10 T10.10
  | .STB_STEER_MAN_LO => ⟨.STB, 0x28, 1, 4, 0, 0x0, 0xffffffff, 0xffffffff, 0x0, 0x0, 0x0⟩ -- 10 T10.10
  | .STB_STEER_MAN_HI => ⟨.STB, 0x2c, 1, 4, 0, 0x0, 0xff, 0xff, 0x0, 0x0, 0x0⟩ -- 10 T10.10
  | .STB_STEER_CFG => ⟨.STB, 0x30, 1, 4, 0, 0x3264, 0xffff, 0xffff, 0x0, 0x0, 0x0⟩ -- 10 T10.10
  | .STB_MODEL_PRED => ⟨.STB, 0x34, 1, 4, 0, 0x0, 0xffffffff, 0xffffffff, 0x0, 0x0, 0x0⟩ -- 10 T10.10
  | .STB_HO_BOUND => ⟨.STB, 0x38, 1, 4, 0, 0x0, 0xffffffff, 0xffffffff, 0x0, 0x0, 0x0⟩ -- 10 T10.10
  | .STB_HO_CFG => ⟨.STB, 0x3c, 1, 4, 0, 0x44c480f, 0xffffffff, 0xffffffff, 0x0, 0x0, 0x0⟩ -- 10 T10.10
  | .STB_MODEL_STATUS => ⟨.STB, 0x40, 1, 4, 0, 0x0, 0xc7ff0fff, 0xc7ff0fff, 0x0, 0x0, 0x0⟩ -- 10 T10.10
  | .STB_PRUNE => ⟨.STB, 0x44, 1, 4, 0, 0x0, 0xffffffff, 0xffffffff, 0x0, 0x0, 0x0⟩ -- 10 T10.10
  | .STB_ONSET => ⟨.STB, 0x48, 1, 4, 0, 0x0, 0xffffffff, 0xffffffff, 0x0, 0x0, 0x0⟩ -- 10 T10.10
  | .STB_SWITCH_CNT => ⟨.STB, 0x4c, 1, 4, 0, 0x0, 0xffffffff, 0x0, 0x0, 0x0, 0xffffffff⟩ -- 10 T10.10
  | .STB_HO_SEC => ⟨.STB, 0x50, 1, 4, 0, 0x0, 0xffffffff, 0x0, 0x0, 0x0, 0x0⟩ -- 10 T10.10
  | .STB_FW_BEAT => ⟨.STB, 0x54, 1, 4, 0, 0x0, 0x0, 0x0, 0x0, 0x0, 0x0⟩ -- 10 T10.10
  | .STB_TEMP_CFG => ⟨.STB, 0x58, 1, 4, 0, 0x0, 0x8000001f, 0x8000001f, 0x0, 0x0, 0x0⟩ -- 10 T10.10
  | .STB_ESMC_TX => ⟨.STB, 0x5c, 1, 4, 0, 0x0, 0xffff, 0xffff, 0x0, 0x0, 0x0⟩ -- 10 T10.10
  | .STB_CLK_ID_HI => ⟨.STB, 0x60, 1, 4, 0, 0x0, 0xffffffff, 0xffffffff, 0x0, 0x0, 0x0⟩ -- 10 T10.10
  | .STB_CLK_ID_LO => ⟨.STB, 0x64, 1, 4, 0, 0x0, 0xffffffff, 0xffffffff, 0x0, 0x0, 0x0⟩ -- 10 T10.10
  | .STB_REF_CFG => ⟨.STBR, 0x0, 1, 4, 0, 0xf1810, 0xfffffff0, 0xfffffff0, 0x0, 0x0, 0x0⟩ -- 10 T10.11
  | .STB_REF_QUAL => ⟨.STBR, 0x4, 1, 4, 0, 0xc80c83c, 0xffffffff, 0xffffffff, 0x0, 0x0, 0x0⟩ -- 10 T10.11
  | .STB_REF_LOS => ⟨.STBR, 0x8, 1, 4, 0, 0x5c050000, 0xffffffff, 0xffffffff, 0x0, 0x0, 0x0⟩ -- 10 T10.11
  | .STB_REF_STATUS => ⟨.STBR, 0xc, 1, 4, 0, 0xe00000, 0xf8f00000, 0x0, 0x0, 0x0, 0x0⟩ -- 10 T10.11
  | .STB_REF_FOFS => ⟨.STBR, 0x10, 1, 4, 0, 0x0, 0xffffffff, 0x0, 0x0, 0x0, 0x0⟩ -- 10 T10.11
  | .STB_REF_DRIFT => ⟨.STBR, 0x14, 1, 4, 0, 0x0, 0xffffffff, 0x0, 0x0, 0x0, 0x0⟩ -- 10 T10.11
  | .STB_REF_WTR => ⟨.STBR, 0x18, 1, 4, 0, 0x0, 0xffff, 0x0, 0x0, 0x0, 0x0⟩ -- 10 T10.11
  | .STB_REF_FW => ⟨.STBR, 0x1c, 1, 4, 0, 0xe, 0x8000000f, 0x8000000f, 0x0, 0x0, 0x0⟩ -- 10 T10.11
  | .STB_REF_EVT => ⟨.STBR, 0x20, 1, 4, 0, 0x0, 0x3ff, 0x0, 0x3ff, 0x0, 0x0⟩ -- 10 T10.11
  | .STB_REF_EVT_EN => ⟨.STBR, 0x24, 1, 4, 0, 0x0, 0x3ff, 0x3ff, 0x0, 0x0, 0x0⟩ -- 10 T10.11
  | .STB_REF_DISQ_CNT => ⟨.STBR, 0x28, 1, 4, 0, 0x0, 0xffffffff, 0x0, 0x0, 0x0, 0xffffffff⟩ -- 10 T10.11
  | .STB_REF_LOS_CNT => ⟨.STBR, 0x2c, 1, 4, 0, 0x0, 0xffffffff, 0x0, 0x0, 0x0, 0xffffffff⟩ -- 10 T10.11
  | .CAX_TX_PROFILE => ⟨.CAX, 0x10, 1, 4, 0, 0x800a000, 0x7ffff0ff, 0x0, 0x0, 0x0, 0x0⟩ -- 02 T2.8
  | .CAX_TX_NEXT => ⟨.CAX, 0x14, 1, 4, 0, 0x800a000, 0x7ffff0ff, 0x7ffff0ff, 0x0, 0x0, 0x0⟩ -- 02 T2.8
  | .CAX_RX_PROFILE => ⟨.CAX, 0x18, 1, 4, 0, 0x800a000, 0x7ffff0ff, 0x7ffff0ff, 0x0, 0x0, 0x0⟩ -- 02 T2.8
  | .CAX_CHG_CTRL => ⟨.CAX, 0x1c, 1, 4, 0, 0x100, 0x100, 0x100, 0x0, 0x0, 0x0⟩ -- 02 T2.10
  | .CAX_CHG_STATUS => ⟨.CAX, 0x20, 1, 4, 0, 0x0, 0xfff13, 0x0, 0x0, 0x0, 0x0⟩ -- 02 T2.11
  | .CAX_LINE_EVT => ⟨.CAX, 0x24, 1, 4, 0, 0x0, 0x7f, 0x0, 0x7f, 0x0, 0x0⟩ -- 02 T2.13
  | .CAX_LINE_EVT_EN => ⟨.CAX, 0x28, 1, 4, 0, 0x0, 0x7f, 0x7f, 0x0, 0x0, 0x0⟩ -- 02 T2.13
  | .CAX_TX_CTRL => ⟨.CAX, 0x100, 1, 4, 0, 0x140000, 0xff0007, 0xff0007, 0x0, 0x0, 0x0⟩ -- 03 T3.8
  | .CAX_TX_STATUS => ⟨.CAX, 0x104, 1, 4, 0, 0x9000, 0xff07, 0x0, 0x0, 0x0, 0x0⟩ -- 03 T3.9
  | .CAX_TX_SHAPE => ⟨.CAX, 0x108, 1, 4, 0, 0x5000005, 0xf017f3f, 0x7f3f, 0x0, 0x0, 0x0⟩ -- 03 T3.3
  | .CAX_TX_SWING => ⟨.CAX, 0x110, 1, 4, 0, 0x1e1e1e1e, 0x3f3f3f3f, 0x3f3f3f3f, 0x0, 0x0, 0x0⟩ -- 03 T3.5
  | .CAX_TX_PRE_APPLY => ⟨.CAX, 0x11c, 1, 4, 0, 0x0, 0x2, 0x0, 0x0, 0x0, 0x0⟩ -- 03 R60
  | .CAX_TX_SKEW => ⟨.CAX, 0x120, 4, 4, 0, 0x0, 0xc3ff03ff, 0x3ff, 0x0, 0x0, 0x0⟩ -- 03 T3.4
  | .CAX_TX_EVT => ⟨.CAX, 0x130, 1, 4, 0, 0x0, 0x7f, 0x0, 0x7f, 0x0, 0x0⟩ -- 03 T3.10
  | .CAX_TX_EVT_EN => ⟨.CAX, 0x134, 1, 4, 0, 0x0, 0x7f, 0x7f, 0x0, 0x0, 0x0⟩ -- 03 T3.10
  | .CAX_TX_ENTROPY => ⟨.CAX, 0x138, 1, 4, 0, 0x2000159b, 0x30001fff, 0x0, 0x0, 0x0, 0x0⟩ -- 03 T3.2
  | .CAX_TX_CLIP_CNT => ⟨.CAX, 0x140, 4, 4, 0, 0x0, 0xffffffff, 0x0, 0x0, 0x0, 0xffffffff⟩ -- 03 T3.11
  | .CAX_TX_SEG_ERR => ⟨.CAX, 0x150, 1, 4, 0, 0x0, 0xffffffff, 0x0, 0x0, 0x0, 0xffffffff⟩ -- 03 T3.11
  | .CAX_RX_CTRL => ⟨.CAX, 0x300, 1, 4, 0, 0x1e02, 0xff03, 0xff03, 0x0, 0x0, 0x0⟩ -- 04 T4.13
  | .CAX_RX_STATUS => ⟨.CAX, 0x304, 1, 4, 0, 0x8000, 0xfffcf7, 0x0, 0x0, 0x0, 0x0⟩ -- 04 T4.14
  | .CAX_RX_SHAPE => ⟨.CAX, 0x308, 1, 4, 0, 0x5000005, 0xf70701f, 0x701f, 0x0, 0x0, 0x0⟩ -- 04 T4.3
  | .CAX_RX_LOS_CFG => ⟨.CAX, 0x30c, 1, 4, 0, 0x40c, 0xffffff, 0xffff, 0x0, 0x0, 0x0⟩ -- 04 T4.12
  | .CAX_RX_CD_EST => ⟨.CAX, 0x310, 1, 4, 0, 0x0, 0xf80fffff, 0x0, 0x0, 0x0, 0x0⟩ -- 04 T4.4
  | .CAX_RX_FOFS => ⟨.CAX, 0x314, 1, 4, 0, 0x0, 0x8000ffff, 0x0, 0x0, 0x0, 0x0⟩ -- 04 R84
  | .CAX_RX_CLK_OFS => ⟨.CAX, 0x318, 1, 4, 0, 0x0, 0xffffffff, 0x0, 0x0, 0x0, 0x0⟩ -- 04 R79
  | .CAX_RX_EVT => ⟨.CAX, 0x320, 1, 4, 0, 0x0, 0xffff, 0x0, 0xffff, 0x0, 0x0⟩ -- 04 T4.15
  | .CAX_RX_EVT_EN => ⟨.CAX, 0x324, 1, 4, 0, 0x0, 0xffff, 0xffff, 0x0, 0x0, 0x0⟩ -- 04 T4.15
  | .CAX_RX_ILV_STATUS => ⟨.CAX, 0x330, 4, 4, 0, 0x27f, 0xffff037f, 0x0, 0x0, 0x0, 0x0⟩ -- 04 T4.2
  | .CAX_RX_LOS_CNT => ⟨.CAX, 0x340, 1, 4, 0, 0x0, 0xffffffff, 0x0, 0x0, 0x0, 0xffffffff⟩ -- 04 T4.18
  | .CAX_RX_RELOCK_CNT => ⟨.CAX, 0x344, 1, 4, 0, 0x0, 0xffffffff, 0x0, 0x0, 0x0, 0xffffffff⟩ -- 04 T4.18
  | .CAX_RX_ACQ_CNT => ⟨.CAX, 0x348, 1, 4, 0, 0x0, 0xffffffff, 0x0, 0x0, 0x0, 0xffffffff⟩ -- 04 T4.18
  | .CAX_RX_ADC_CLIP_CNT => ⟨.CAX, 0x350, 4, 4, 0, 0x0, 0xffffffff, 0x0, 0x0, 0x0, 0xffffffff⟩ -- 04 T4.18
  | .CAX_TX_PRE => ⟨.CAX, 0x400, 128, 4, 0, 0x0, 0xfff, 0xfff, 0x0, 0x0, 0x0⟩ -- 03 R60
  | .SCX_RX_CFG => ⟨.SCX, 0x100, 1, 4, 0, 0x41f, 0xff071f, 0xff071f, 0x0, 0x0, 0x0⟩ -- 04 T4.6
  | .SCX_RX_STATUS => ⟨.SCX, 0x104, 1, 4, 0, 0x0, 0x307, 0x0, 0x0, 0x0, 0x0⟩ -- 04 T4.16
  | .SCX_RX_SNR => ⟨.SCX, 0x108, 1, 4, 0, 0x0, 0xfff0fff, 0x0, 0x0, 0x0, 0x0⟩ -- 04 R86
  | .SCX_RX_SOP => ⟨.SCX, 0x10c, 1, 4, 0, 0x0, 0xffffffff, 0x0, 0x0, 0x0, 0x0⟩ -- 04 R86
  | .SCX_RX_EVT => ⟨.SCX, 0x110, 1, 4, 0, 0x0, 0x7f, 0x0, 0x7f, 0x0, 0x0⟩ -- 04 T4.17
  | .SCX_RX_EVT_EN => ⟨.SCX, 0x114, 1, 4, 0, 0x0, 0x7f, 0x7f, 0x0, 0x0, 0x0⟩ -- 04 T4.17
  | .SCX_RX_SLIP_CNT => ⟨.SCX, 0x120, 1, 4, 0, 0x0, 0xffffffff, 0x0, 0x0, 0x0, 0xffffffff⟩ -- 04 T4.18
  | .SCX_RX_RECONV_CNT => ⟨.SCX, 0x124, 1, 4, 0, 0x0, 0xffffffff, 0x0, 0x0, 0x0, 0xffffffff⟩ -- 04 T4.18
  | .SCX_FEC_CFG => ⟨.SCX, 0x200, 1, 4, 0, 0x6c1, 0xff0ff1, 0xff0ff1, 0x0, 0x0, 0x0⟩ -- 05 T5.4
  | .SCX_FEC_STATUS => ⟨.SCX, 0x204, 1, 4, 0, 0x0, 0xff0f, 0x0, 0x0, 0x0, 0x0⟩ -- 05 T5.5
  | .SCX_FEC_EVT => ⟨.SCX, 0x208, 1, 4, 0, 0x0, 0x3f, 0x0, 0x3f, 0x0, 0x0⟩ -- 05 T5.6
  | .SCX_FEC_EVT_EN => ⟨.SCX, 0x20c, 1, 4, 0, 0x0, 0x3f, 0x3f, 0x0, 0x0, 0x0⟩ -- 05 T5.6
  | .SCX_FEC_CTRL => ⟨.SCX, 0x210, 1, 4, 0, 0x0, 0x0, 0x0, 0x0, 0x0, 0x0⟩ -- 05 T5.7
  | .SCX_FEC_SEC_TAG => ⟨.SCX, 0x220, 1, 4, 0, 0x0, 0xffffffff, 0x0, 0x0, 0x0, 0x0⟩ -- 05 T5.3
  | .SCX_FEC_SEC_BITS_LO => ⟨.SCX, 0x224, 1, 4, 0, 0x0, 0xffffffff, 0x0, 0x0, 0x0, 0x0⟩ -- 05 T5.3
  | .SCX_FEC_SEC_BITS_HI => ⟨.SCX, 0x228, 1, 4, 0, 0x0, 0xff, 0x0, 0x0, 0x0, 0x0⟩ -- 05 T5.3
  | .SCX_FEC_SEC_CORR_LO => ⟨.SCX, 0x22c, 1, 4, 0, 0x0, 0xffffffff, 0x0, 0x0, 0x0, 0x0⟩ -- 05 T5.3
  | .SCX_FEC_SEC_CORR_HI => ⟨.SCX, 0x230, 1, 4, 0, 0x0, 0xff, 0x0, 0x0, 0x0, 0x0⟩ -- 05 T5.3
  | .SCX_FEC_SEC_CW => ⟨.SCX, 0x234, 1, 4, 0, 0x0, 0xffffffff, 0x0, 0x0, 0x0, 0x0⟩ -- 05 T5.3
  | .SCX_FEC_SEC_UNC => ⟨.SCX, 0x238, 1, 4, 0, 0x0, 0xffffffff, 0x0, 0x0, 0x0, 0x0⟩ -- 05 T5.3
  | .SCX_FEC_SEC_PEAK => ⟨.SCX, 0x23c, 1, 4, 0, 0x0, 0xffff, 0x0, 0x0, 0x0, 0x0⟩ -- 05 T5.3
  | .SCX_FEC_TOT_CW_LO => ⟨.SCX, 0x240, 1, 4, 0, 0x0, 0xffffffff, 0x0, 0x0, 0x0, 0x0⟩ -- 05 T5.3
  | .SCX_FEC_TOT_CW_HI => ⟨.SCX, 0x244, 1, 4, 0, 0x0, 0xffffffff, 0x0, 0x0, 0x0, 0x0⟩ -- 05 T5.3
  | .SCX_FEC_TOT_CORR_LO => ⟨.SCX, 0x248, 1, 4, 0, 0x0, 0xffffffff, 0x0, 0x0, 0x0, 0x0⟩ -- 05 T5.3
  | .SCX_FEC_TOT_CORR_HI => ⟨.SCX, 0x24c, 1, 4, 0, 0x0, 0xffffffff, 0x0, 0x0, 0x0, 0x0⟩ -- 05 T5.3
  | .SCX_FEC_TOT_UNC_LO => ⟨.SCX, 0x250, 1, 4, 0, 0x0, 0xffffffff, 0x0, 0x0, 0x0, 0x0⟩ -- 05 T5.3
  | .SCX_FEC_TOT_UNC_HI => ⟨.SCX, 0x254, 1, 4, 0, 0x0, 0xffffffff, 0x0, 0x0, 0x0, 0x0⟩ -- 05 T5.3
  | .SCX_FEC_SEG_ERR => ⟨.SCX, 0x258, 1, 4, 0, 0x0, 0xffffffff, 0x0, 0x0, 0x0, 0xffffffff⟩ -- 05 T5.3
  | .LFM_SC_STATUS => ⟨.LFMS, 0x0, 1, 4, 0, 0x80, 0xff1fff, 0x0, 0x0, 0x0, 0x0⟩ -- 06 T6.18
  | .LFM_SC_EVT => ⟨.LFMS, 0x4, 1, 4, 0, 0x0, 0x7ff, 0x0, 0x7ff, 0x0, 0x0⟩ -- 06 T6.19
  | .LFM_SC_EVT_EN => ⟨.LFMS, 0x8, 1, 4, 0, 0x0, 0x7ff, 0x7ff, 0x0, 0x0, 0x0⟩ -- 06 T6.19
  | .LFM_SC_CFG => ⟨.LFMS, 0xc, 1, 4, 0, 0x0, 0x1, 0x1, 0x0, 0x0, 0x0⟩ -- 06 T6.17
  | .LFM_OOF_CNT => ⟨.LFMS, 0x10, 1, 4, 0, 0x0, 0xffffffff, 0x0, 0x0, 0x0, 0xffffffff⟩ -- 06 T6.16
  | .LFM_ALIAS_CNT => ⟨.LFMS, 0x14, 1, 4, 0, 0x0, 0xffffffff, 0x0, 0x0, 0x0, 0xffffffff⟩ -- 06 T6.16
  | .LFM_SES_TH => ⟨.LFMS, 0x18, 1, 4, 0, 0x20000, 0xffffffff, 0xffffffff, 0x0, 0x0, 0x0⟩ -- 06 T6.16
  | .LFM_PM_TAG => ⟨.LFMS, 0x20, 1, 4, 0, 0x0, 0xffffffff, 0x0, 0x0, 0x0, 0x0⟩ -- 06 T6.16
  | .LFM_PM_NE_CORR_LO => ⟨.LFMS, 0x24, 1, 4, 0, 0x0, 0xffffffff, 0x0, 0x0, 0x0, 0x0⟩ -- 06 T6.16
  | .LFM_PM_NE_CORR_HI => ⟨.LFMS, 0x28, 1, 4, 0, 0x0, 0xff, 0x0, 0x0, 0x0, 0x0⟩ -- 06 T6.16
  | .LFM_PM_NE_UNC => ⟨.LFMS, 0x2c, 1, 4, 0, 0x0, 0xffffffff, 0x0, 0x0, 0x0, 0x0⟩ -- 06 T6.16
  | .LFM_PM_FE_CORR_LO => ⟨.LFMS, 0x30, 1, 4, 0, 0x0, 0xffffffff, 0x0, 0x0, 0x0, 0x0⟩ -- 06 T6.16
  | .LFM_PM_FE_CORR_HI => ⟨.LFMS, 0x34, 1, 4, 0, 0x0, 0xff, 0x0, 0x0, 0x0, 0x0⟩ -- 06 T6.16
  | .LFM_PM_FE_UNC => ⟨.LFMS, 0x38, 1, 4, 0, 0x0, 0xffffffff, 0x0, 0x0, 0x0, 0x0⟩ -- 06 T6.16
  | .LFM_PM_FLAGS => ⟨.LFMS, 0x3c, 1, 4, 0, 0x0, 0xffffffff, 0x0, 0x0, 0x0, 0x0⟩ -- 06 T6.16
  | .LFM_TOT_NE_ES => ⟨.LFMS, 0x40, 1, 4, 0, 0x0, 0xffffffff, 0x0, 0x0, 0x0, 0x0⟩ -- 06 T6.16
  | .LFM_TOT_NE_SES => ⟨.LFMS, 0x44, 1, 4, 0, 0x0, 0xffffffff, 0x0, 0x0, 0x0, 0x0⟩ -- 06 T6.16
  | .LFM_TOT_FE_ES => ⟨.LFMS, 0x48, 1, 4, 0, 0x0, 0xffffffff, 0x0, 0x0, 0x0, 0x0⟩ -- 06 T6.16
  | .LFM_TOT_FE_SES => ⟨.LFMS, 0x4c, 1, 4, 0, 0x0, 0xffffffff, 0x0, 0x0, 0x0, 0x0⟩ -- 06 T6.16
  | .LFM_SLOT_MAP_TX => ⟨.LFMS, 0x100, 10, 4, 0, 0x0, 0xffff00ff, 0xffff00ff, 0x0, 0x0, 0x0⟩ -- 06 T6.20
  | .LFM_SLOT_MAP_RX => ⟨.LFMS, 0x140, 10, 4, 0, 0x0, 0xffff00ff, 0xffff00ff, 0x0, 0x0, 0x0⟩ -- 06 T6.20
  | .LFM_MSI_RX => ⟨.LFMS, 0x180, 10, 4, 0, 0x0, 0xcfff00ff, 0x0, 0x0, 0x0, 0x0⟩ -- 06 R148
  | .LFM_MAP_CTRL => ⟨.LFMS, 0x1c0, 1, 4, 0, 0x0, 0x10300, 0x0, 0x0, 0x0, 0x0⟩ -- 06 T6.21
  | .LFM_CA_CFG => ⟨.LFMC, 0x0, 1, 4, 0, 0x0, 0x1f, 0x1f, 0x0, 0x0, 0x0⟩ -- 06 T6.22
  | .LFM_CA_STATUS => ⟨.LFMC, 0x4, 1, 4, 0, 0x1f, 0x1ffff7f, 0x0, 0x0, 0x0, 0x0⟩ -- 06 T6.23
  | .LFM_CA_EVT => ⟨.LFMC, 0x8, 1, 4, 0, 0x0, 0x3f, 0x0, 0x3f, 0x0, 0x0⟩ -- 06 T6.24
  | .LFM_CA_EVT_EN => ⟨.LFMC, 0xc, 1, 4, 0, 0x0, 0x3f, 0x3f, 0x0, 0x0, 0x0⟩ -- 06 T6.24
  | .LFM_SR_TX => ⟨.LFMC, 0x10, 1, 4, 0, 0x0, 0xffff, 0xffff, 0x0, 0x0, 0x0⟩ -- 06 R148
  | .LFM_SR_RX => ⟨.LFMC, 0x14, 1, 4, 0, 0x0, 0xc000ffff, 0x0, 0x0, 0x0, 0x0⟩ -- 06 R148
  | .LFM_TTI_TX => ⟨.LFMC, 0x40, 16, 4, 0, 0x0, 0xffffffff, 0xffffffff, 0x0, 0x0, 0x0⟩ -- 06 R148
  | .LFM_TTI_EXP => ⟨.LFMC, 0x80, 16, 4, 0, 0x0, 0xffffffff, 0xffffffff, 0x0, 0x0, 0x0⟩ -- 06 R148
  | .LFM_TTI_ACC => ⟨.LFMC, 0xc0, 16, 4, 0, 0x0, 0xffffffff, 0x0, 0x0, 0x0, 0x0⟩ -- 06 R148
  | .LFM_GRP_CFG => ⟨.LFMG, 0x0, 1, 4, 0, 0x0, 0xffff00ff, 0xffff00ff, 0x0, 0x0, 0x0⟩ -- 06 T6.25
  | .LFM_GRP_STATUS => ⟨.LFMG, 0x4, 1, 4, 0, 0x0, 0x7ffff, 0x0, 0x0, 0x0, 0x0⟩ -- 06 T6.25
  | .LFM_GRP_SKEW => ⟨.LFMG, 0x8, 1, 4, 0, 0x0, 0x80ffffff, 0x0, 0x0, 0x0, 0x0⟩ -- 06 T6.25
  | .LFM_GRP_EVT => ⟨.LFMG, 0xc, 1, 4, 0, 0x0, 0x3f, 0x0, 0x3f, 0x0, 0x0⟩ -- 06 T6.25
  | .LFM_GRP_EVT_EN => ⟨.LFMG, 0x10, 1, 4, 0, 0x0, 0x3f, 0x3f, 0x0, 0x0, 0x0⟩ -- 06 T6.25
  | .LFM_GRP_FAIL_CNT => ⟨.LFMG, 0x14, 1, 4, 0, 0x0, 0xffffffff, 0x0, 0x0, 0x0, 0xffffffff⟩ -- 06 T6.25
  | .SOF_PORT_CFG => ⟨.SOFP, 0x0, 1, 4, 0, 0x2400, 0xbf1fffff, 0xbf1fffff, 0x0, 0x0, 0x0⟩ -- 07 T7.4
  | .SOF_PORT_STATUS => ⟨.SOFP, 0x4, 1, 4, 0, 0x0, 0xcfffff01, 0x0, 0x0, 0x0, 0x0⟩ -- 07 T7.5
  | .SOF_PFC_CFG => ⟨.SOFP, 0x8, 1, 4, 0, 0xffffffff, 0xffffffff, 0xffffffff, 0x0, 0x0, 0x0⟩ -- 07 T7.6
  | .SOF_DEF_FLOW => ⟨.SOFP, 0xc, 1, 4, 0, 0x0, 0x80000fff, 0x80000fff, 0x0, 0x0, 0x0⟩ -- 07 T7.6
  | .SOF_PORT_CTRL => ⟨.SOFP, 0x10, 1, 4, 0, 0x0, 0x0, 0x0, 0x0, 0x0, 0x0⟩ -- 07 T7.6
  | .SOF_RX_OK_LO => ⟨.SOFP, 0x100, 1, 4, 0, 0x0, 0xffffffff, 0x0, 0x0, 0x0, 0x0⟩ -- 07 T7.7
  | .SOF_RX_OK_HI => ⟨.SOFP, 0x104, 1, 4, 0, 0x0, 0xffffffff, 0x0, 0x0, 0x0, 0x0⟩ -- 07 T7.7
  | .SOF_RX_FCS_LO => ⟨.SOFP, 0x108, 1, 4, 0, 0x0, 0xffffffff, 0x0, 0x0, 0x0, 0x0⟩ -- 07 T7.7
  | .SOF_RX_FCS_HI => ⟨.SOFP, 0x10c, 1, 4, 0, 0x0, 0xffffffff, 0x0, 0x0, 0x0, 0x0⟩ -- 07 T7.7
  | .SOF_RX_RUNT_LO => ⟨.SOFP, 0x110, 1, 4, 0, 0x0, 0xffffffff, 0x0, 0x0, 0x0, 0x0⟩ -- 07 T7.7
  | .SOF_RX_RUNT_HI => ⟨.SOFP, 0x114, 1, 4, 0, 0x0, 0xffffffff, 0x0, 0x0, 0x0, 0x0⟩ -- 07 T7.7
  | .SOF_RX_OVERSIZE_LO => ⟨.SOFP, 0x118, 1, 4, 0, 0x0, 0xffffffff, 0x0, 0x0, 0x0, 0x0⟩ -- 07 T7.7
  | .SOF_RX_OVERSIZE_HI => ⟨.SOFP, 0x11c, 1, 4, 0, 0x0, 0xffffffff, 0x0, 0x0, 0x0, 0x0⟩ -- 07 T7.7
  | .SOF_RX_UNCLASS_LO => ⟨.SOFP, 0x120, 1, 4, 0, 0x0, 0xffffffff, 0x0, 0x0, 0x0, 0x0⟩ -- 07 T7.7
  | .SOF_RX_UNCLASS_HI => ⟨.SOFP, 0x124, 1, 4, 0, 0x0, 0xffffffff, 0x0, 0x0, 0x0, 0x0⟩ -- 07 T7.7
  | .SOF_RX_PAUSE_LO => ⟨.SOFP, 0x128, 1, 4, 0, 0x0, 0xffffffff, 0x0, 0x0, 0x0, 0x0⟩ -- 07 T7.7
  | .SOF_RX_PAUSE_HI => ⟨.SOFP, 0x12c, 1, 4, 0, 0x0, 0xffffffff, 0x0, 0x0, 0x0, 0x0⟩ -- 07 T7.7
  | .SOF_TX_OK_LO => ⟨.SOFP, 0x130, 1, 4, 0, 0x0, 0xffffffff, 0x0, 0x0, 0x0, 0x0⟩ -- 07 T7.7
  | .SOF_TX_OK_HI => ⟨.SOFP, 0x134, 1, 4, 0, 0x0, 0xffffffff, 0x0, 0x0, 0x0, 0x0⟩ -- 07 T7.7
  | .SOF_TX_PAUSE_LO => ⟨.SOFP, 0x138, 1, 4, 0, 0x0, 0xffffffff, 0x0, 0x0, 0x0, 0x0⟩ -- 07 T7.7
  | .SOF_TX_PAUSE_HI => ⟨.SOFP, 0x13c, 1, 4, 0, 0x0, 0xffffffff, 0x0, 0x0, 0x0, 0x0⟩ -- 07 T7.7
  | .SOF_PH_CMD => ⟨.SOF, 0x0, 1, 4, 0, 0x0, 0x0, 0x0, 0x0, 0x0, 0x0⟩ -- 07 T7.16
  | .SOF_PH_RESULT => ⟨.SOF, 0x4, 1, 4, 0, 0x0, 0xcfff000f, 0x0, 0x0, 0x0, 0x0⟩ -- 07 T7.16
  | .SOF_EVT => ⟨.SOF, 0x8, 1, 4, 0, 0x0, 0x3f, 0x0, 0x3f, 0x0, 0x0⟩ -- 07 T7.16
  | .SOF_EVT_EN => ⟨.SOF, 0xc, 1, 4, 0, 0x0, 0x3f, 0x3f, 0x0, 0x0, 0x0⟩ -- 07 T7.16
  | .SOF_SHED_POOL => ⟨.SOF, 0x10, 1, 4, 0, 0xc000a0, 0xffffffff, 0xffffffff, 0x0, 0x0, 0x0⟩ -- 07 T7.16
  | .SOF_HAY_POOL => ⟨.SOF, 0x14, 1, 4, 0, 0x70006800, 0xffffffff, 0xffffffff, 0x0, 0x0, 0x0⟩ -- 07 T7.16
  | .SOF_POOL_STATUS => ⟨.SOF, 0x18, 1, 4, 0, 0x0, 0xc7fff7ff, 0x0, 0x0, 0x0, 0x0⟩ -- 07 T7.16
  | .SOF_QUOTA_SUM => ⟨.SOF, 0x1c, 1, 4, 0, 0x0, 0x3ff, 0x0, 0x0, 0x0, 0x0⟩ -- 07 T7.16
  | .SOF_LINE_UNCLASS => ⟨.SOF, 0x20, 1, 4, 0, 0x0, 0xffffffff, 0x0, 0x0, 0x0, 0xffffffff⟩ -- 07 T7.16
  | .SOF_SHED_CE => ⟨.SOF, 0x24, 1, 4, 0, 0x0, 0xffffffff, 0x0, 0x0, 0x0, 0xffffffff⟩ -- 08 T8.12
  | .SOF_SHED_UE => ⟨.SOF, 0x28, 1, 4, 0, 0x0, 0xffffffff, 0x0, 0x0, 0x0, 0xffffffff⟩ -- 08 T8.12
  | .SOF_GRP_TXHOLD => ⟨.SOF, 0x400, 160, 4, 0, 0x3, 0xc0000003, 0x3, 0x0, 0x0, 0x0⟩ -- 07 T7.16
  | .SOF_GRP_DELIN_CNT => ⟨.SOF, 0x800, 160, 4, 0, 0x0, 0xffffffff, 0x0, 0x0, 0x0, 0xffffffff⟩ -- 07 T7.16
  | .SOF_PH_W0 => ⟨.SOFH, 0x0, 1, 4, 0, 0x0, 0xffffffff, 0xffffffff, 0x0, 0x0, 0x0⟩ -- 07 T7.9
  | .SOF_PH_W1 => ⟨.SOFH, 0x4, 1, 4, 0, 0x0, 0xffffffff, 0xffffffff, 0x0, 0x0, 0x0⟩ -- 07 T7.9
  | .SOF_PH_W2 => ⟨.SOFH, 0x8, 1, 4, 0, 0x0, 0xffffff00, 0xffffff00, 0x0, 0x0, 0x0⟩ -- 07 T7.9
  | .SOF_PH_W3 => ⟨.SOFH, 0xc, 1, 4, 0, 0x0, 0xffffffff, 0xffffffff, 0x0, 0x0, 0x0⟩ -- 07 T7.9
  | .SOF_PH_W4 => ⟨.SOFH, 0x10, 1, 4, 0, 0x0, 0xffffffff, 0xffffffff, 0x0, 0x0, 0x0⟩ -- 07 T7.9
  | .SOF_PH_W5 => ⟨.SOFH, 0x14, 1, 4, 0, 0x0, 0xffffff00, 0xffffff00, 0x0, 0x0, 0x0⟩ -- 07 T7.9
  | .SOF_PH_W6 => ⟨.SOFH, 0x18, 1, 4, 0, 0x0, 0xff000fff, 0xff000fff, 0x0, 0x0, 0x0⟩ -- 07 T7.9
  | .SOF_PH_W7 => ⟨.SOFH, 0x1c, 1, 4, 0, 0x0, 0x0, 0x0, 0x0, 0x0, 0x0⟩ -- 07 T7.9
  | .SOF_FP_W0 => ⟨.SOFF, 0x0, 1, 4, 0, 0x0, 0xffffffff, 0xffffffff, 0x0, 0x0, 0x0⟩ -- 07 T7.13
  | .SOF_FP_W1 => ⟨.SOFF, 0x4, 1, 4, 0, 0x0, 0xffffffff, 0xffffffff, 0x0, 0x0, 0x0⟩ -- 07 T7.13
  | .SOF_FP_W2 => ⟨.SOFF, 0x8, 1, 4, 0, 0x10000c, 0xffffffff, 0xffffffff, 0x0, 0x0, 0x0⟩ -- 07 T7.13
  | .SOF_FP_W3 => ⟨.SOFF, 0xc, 1, 4, 0, 0x80101, 0xffffffff, 0xffffffff, 0x0, 0x0, 0x0⟩ -- 07 T7.13
  | .SOF_FP_W4 => ⟨.SOFF, 0x10, 1, 4, 0, 0x0, 0xf8ffffff, 0x0, 0x0, 0x0, 0x0⟩ -- 07 T7.13
  | .SOF_FP_W5 => ⟨.SOFF, 0x14, 1, 4, 0, 0x0, 0x0, 0x0, 0x0, 0x0, 0x0⟩ -- 07 T7.13
  | .SOF_FP_W6 => ⟨.SOFF, 0x18, 1, 4, 0, 0x0, 0x0, 0x0, 0x0, 0x0, 0x0⟩ -- 07 T7.13
  | .SOF_FP_W7 => ⟨.SOFF, 0x1c, 1, 4, 0, 0x0, 0x0, 0x0, 0x0, 0x0, 0x0⟩ -- 07 T7.13
  | .SOF_ACC_FRM_LO => ⟨.SOFC, 0x0, 1, 4, 0, 0x0, 0xffffffff, 0x0, 0x0, 0x0, 0x0⟩ -- 07 T7.14
  | .SOF_ACC_FRM_HI => ⟨.SOFC, 0x4, 1, 4, 0, 0x0, 0xffffffff, 0x0, 0x0, 0x0, 0x0⟩ -- 07 T7.14
  | .SOF_ACC_BYTE_LO => ⟨.SOFC, 0x8, 1, 4, 0, 0x0, 0xffffffff, 0x0, 0x0, 0x0, 0x0⟩ -- 07 T7.14
  | .SOF_ACC_BYTE_MID => ⟨.SOFC, 0xc, 1, 4, 0, 0x0, 0xffffffff, 0x0, 0x0, 0x0, 0x0⟩ -- 07 T7.14
  | .SOF_ACC_BYTE_HI => ⟨.SOFC, 0x10, 1, 4, 0, 0x0, 0xff, 0x0, 0x0, 0x0, 0x0⟩ -- 07 T7.14
  | .SOF_OUT_FRM_LO => ⟨.SOFC, 0x18, 1, 4, 0, 0x0, 0xffffffff, 0x0, 0x0, 0x0, 0x0⟩ -- 07 T7.14
  | .SOF_OUT_FRM_HI => ⟨.SOFC, 0x1c, 1, 4, 0, 0x0, 0xffffffff, 0x0, 0x0, 0x0, 0x0⟩ -- 07 T7.14
  | .SOF_OUT_BYTE_LO => ⟨.SOFC, 0x20, 1, 4, 0, 0x0, 0xffffffff, 0x0, 0x0, 0x0, 0x0⟩ -- 07 T7.14
  | .SOF_OUT_BYTE_MID => ⟨.SOFC, 0x24, 1, 4, 0, 0x0, 0xffffffff, 0x0, 0x0, 0x0, 0x0⟩ -- 07 T7.14
  | .SOF_OUT_BYTE_HI => ⟨.SOFC, 0x28, 1, 4, 0, 0x0, 0xff, 0x0, 0x0, 0x0, 0x0⟩ -- 07 T7.14
  | .SOF_POL_DROP_LO => ⟨.SOFC, 0x30, 1, 4, 0, 0x0, 0xffffffff, 0x0, 0x0, 0x0, 0x0⟩ -- 07 T7.14
  | .SOF_POL_DROP_HI => ⟨.SOFC, 0x34, 1, 4, 0, 0x0, 0xffffffff, 0x0, 0x0, 0x0, 0x0⟩ -- 07 T7.14
  | .SOF_QUE_DROP_LO => ⟨.SOFC, 0x38, 1, 4, 0, 0x0, 0xffffffff, 0x0, 0x0, 0x0, 0x0⟩ -- 07 T7.14
  | .SOF_QUE_DROP_HI => ⟨.SOFC, 0x3c, 1, 4, 0, 0x0, 0xffffffff, 0x0, 0x0, 0x0, 0x0⟩ -- 07 T7.14
  | .SOF_ERR_DROP_LO => ⟨.SOFC, 0x40, 1, 4, 0, 0x0, 0xffffffff, 0x0, 0x0, 0x0, 0x0⟩ -- 07 T7.14
  | .SOF_ERR_DROP_HI => ⟨.SOFC, 0x44, 1, 4, 0, 0x0, 0xffffffff, 0x0, 0x0, 0x0, 0x0⟩ -- 07 T7.14
  | .SOF_KEY_DROP_LO => ⟨.SOFC, 0x48, 1, 4, 0, 0x0, 0xffffffff, 0x0, 0x0, 0x0, 0x0⟩ -- 07 T7.14
  | .SOF_KEY_DROP_HI => ⟨.SOFC, 0x4c, 1, 4, 0, 0x0, 0xffffffff, 0x0, 0x0, 0x0, 0x0⟩ -- 07 T7.14
  | .SOF_PATH_DROP_LO => ⟨.SOFC, 0x50, 1, 4, 0, 0x0, 0xffffffff, 0x0, 0x0, 0x0, 0x0⟩ -- 07 T7.14
  | .SOF_PATH_DROP_HI => ⟨.SOFC, 0x54, 1, 4, 0, 0x0, 0xffffffff, 0x0, 0x0, 0x0, 0x0⟩ -- 07 T7.14
  | .SOF_POISON_DROP_LO => ⟨.SOFC, 0x58, 1, 4, 0, 0x0, 0xffffffff, 0x0, 0x0, 0x0, 0x0⟩ -- 07 T7.14
  | .SOF_POISON_DROP_HI => ⟨.SOFC, 0x5c, 1, 4, 0, 0x0, 0xffffffff, 0x0, 0x0, 0x0, 0x0⟩ -- 07 T7.14
  | .SOF_XOFF_CNT_LO => ⟨.SOFC, 0x60, 1, 4, 0, 0x0, 0xffffffff, 0x0, 0x0, 0x0, 0x0⟩ -- 07 T7.14
  | .SOF_XOFF_CNT_HI => ⟨.SOFC, 0x64, 1, 4, 0, 0x0, 0xffffffff, 0x0, 0x0, 0x0, 0x0⟩ -- 07 T7.14
  | .HAY_CFG => ⟨.HAY, 0x0, 1, 4, 0, 0x6400, 0x3f3fff01, 0x3f3fff01, 0x0, 0x0, 0x0⟩ -- 08 T8.11
  | .HAY_STATUS => ⟨.HAY, 0x4, 1, 4, 0, 0x0, 0xe1ffffff, 0x0, 0x0, 0x0, 0x0⟩ -- 08 T8.11
  | .HAY_SCRUB_CFG => ⟨.HAY, 0x8, 1, 4, 0, 0x258, 0x3ff, 0x3ff, 0x0, 0x0, 0x0⟩ -- 08 T8.11
  | .HAY_SCRUB_STATUS => ⟨.HAY, 0xc, 1, 4, 0, 0x0, 0xffff007f, 0x0, 0x0, 0x0, 0x0⟩ -- 08 T8.11
  | .HAY_EVT => ⟨.HAY, 0x10, 1, 4, 0, 0x0, 0x7fff, 0x0, 0x7fff, 0x0, 0x0⟩ -- 08 T8.11
  | .HAY_EVT_EN => ⟨.HAY, 0x14, 1, 4, 0, 0x0, 0x7fff, 0x7fff, 0x0, 0x0, 0x0⟩ -- 08 T8.11
  | .HAY_APERTURE_PAGE => ⟨.HAY, 0x18, 1, 4, 0, 0x0, 0x1ff, 0x1ff, 0x0, 0x0, 0x0⟩ -- 08 T8.11
  | .HAY_APT_STATUS => ⟨.HAY, 0x1c, 1, 4, 0, 0x0, 0xf, 0x0, 0xf, 0x0, 0x0⟩ -- 08 T8.11
  | .HAY_CE_TOT_LO => ⟨.HAY, 0x20, 1, 4, 0, 0x0, 0xffffffff, 0x0, 0x0, 0x0, 0x0⟩ -- 08 T8.11
  | .HAY_CE_TOT_HI => ⟨.HAY, 0x24, 1, 4, 0, 0x0, 0xffffffff, 0x0, 0x0, 0x0, 0x0⟩ -- 08 T8.11
  | .HAY_UE_TOT => ⟨.HAY, 0x28, 1, 4, 0, 0x0, 0xffffffff, 0x0, 0x0, 0x0, 0x0⟩ -- 08 T8.11
  | .HAY_ACC_TO_CNT => ⟨.HAY, 0x2c, 1, 4, 0, 0x0, 0xffffffff, 0x0, 0x0, 0x0, 0xffffffff⟩ -- 08 T8.11
  | .HAY_RET_CMD => ⟨.HAY, 0x30, 1, 4, 0, 0x0, 0x0, 0x0, 0x0, 0x0, 0x0⟩ -- 08 T8.11
  | .HAY_RET_STATUS => ⟨.HAY, 0x34, 1, 4, 0, 0x0, 0xc7003fff, 0x0, 0x0, 0x0, 0x0⟩ -- 08 T8.11
  | .HAY_RET_DATA => ⟨.HAY, 0x38, 1, 4, 0, 0x0, 0xc1ffffff, 0x0, 0x0, 0x0, 0x0⟩ -- 08 T8.11
  | .HAY_LEAK_PAGES => ⟨.HAY, 0x3c, 1, 4, 0, 0x0, 0x1ffffff, 0x0, 0x0, 0x0, 0x0⟩ -- 08 T8.11
  | .HAY_LOG_STATUS => ⟨.HAY, 0x40, 1, 4, 0, 0x0, 0xffff003f, 0x0, 0x0, 0x0, 0xffff0000⟩ -- 08 T8.11
  | .HAY_CAP_CFG => ⟨.HAY, 0x50, 1, 4, 0, 0x0, 0xc0000fff, 0xc0000fff, 0x0, 0x0, 0x0⟩ -- 08 T8.11
  | .HAY_CAP_PTR => ⟨.HAY, 0x54, 1, 4, 0, 0x0, 0xffffffff, 0x0, 0x0, 0x0, 0x0⟩ -- 08 T8.11
  | .HAY_CAP_SEQ => ⟨.HAY, 0x58, 1, 4, 0, 0x0, 0xffffffff, 0x0, 0x0, 0x0, 0x0⟩ -- 08 T8.11
  | .HAY_CAP_DROP => ⟨.HAY, 0x5c, 1, 4, 0, 0x0, 0xffffffff, 0x0, 0x0, 0x0, 0xffffffff⟩ -- 08 T8.11
  | .HAY_LOG_W0 => ⟨.HAY, 0x100, 64, 16, 0, 0x0, 0xffc0ffff, 0x0, 0x80000000, 0x0, 0x0⟩ -- 08 T8.6
  | .HAY_LOG_W1 => ⟨.HAY, 0x104, 64, 16, 0, 0x0, 0x7fffffff, 0x0, 0x0, 0x0, 0x0⟩ -- 08 T8.6
  | .HAY_LOG_W2 => ⟨.HAY, 0x108, 64, 16, 0, 0x0, 0xffffffff, 0x0, 0x0, 0x0, 0x0⟩ -- 08 T8.6
  | .HAY_LOG_W3 => ⟨.HAY, 0x10c, 64, 16, 0, 0x0, 0xbfffffff, 0x0, 0x0, 0x0, 0x0⟩ -- 08 T8.6
  | .CIP_CFG => ⟨.CIP, 0x0, 1, 4, 0, 0x1, 0x1, 0x1, 0x0, 0x0, 0x0⟩ -- 09 T9.6
  | .CIP_STATUS => ⟨.CIP, 0x4, 1, 4, 0, 0x0, 0xf9ff00ff, 0x0, 0x0, 0x0, 0x0⟩ -- 09 T9.6
  | .CIP_EVT => ⟨.CIP, 0x8, 1, 4, 0, 0x0, 0x1fff, 0x0, 0x1fff, 0x0, 0x0⟩ -- 09 T9.6
  | .CIP_EVT_EN => ⟨.CIP, 0xc, 1, 4, 0, 0x0, 0x1fff, 0x1fff, 0x0, 0x0, 0x0⟩ -- 09 T9.6
  | .CIP_KEY_CMD => ⟨.CIP, 0x10, 1, 4, 0, 0x0, 0x0, 0x0, 0x0, 0x0, 0x0⟩ -- 09 T9.6
  | .CIP_KEY_RESULT => ⟨.CIP, 0x14, 1, 4, 0, 0x0, 0x8000000f, 0x0, 0x0, 0x0, 0x0⟩ -- 09 T9.6
  | .CIP_PN_WARN_FLOW => ⟨.CIP, 0x18, 1, 4, 0, 0x0, 0xfff, 0x0, 0x0, 0x0, 0x0⟩ -- 09 T9.6
  | .CIP_KEY_DATA => ⟨.CIP, 0x20, 10, 4, 0, 0x0, 0x0, 0x0, 0x0, 0x0, 0x0⟩ -- 09 T9.6
  | .CIP_KEY_SALT => ⟨.CIP, 0x48, 3, 4, 0, 0x0, 0x0, 0x0, 0x0, 0x0, 0x0⟩ -- 09 T9.6
  | .CIP_NO_SC_CNT => ⟨.CIP, 0x60, 1, 4, 0, 0x0, 0xffffffff, 0x0, 0x0, 0x0, 0xffffffff⟩ -- 09 T9.6
  | .CIP_TIMEOUT_CNT => ⟨.CIP, 0x64, 1, 4, 0, 0x0, 0xffffffff, 0x0, 0x0, 0x0, 0xffffffff⟩ -- 09 T9.6
  | .CIP_ENT_FAIL_CNT => ⟨.CIP, 0x68, 1, 4, 0, 0x0, 0xffffffff, 0x0, 0x0, 0x0, 0xffffffff⟩ -- 09 T9.6
  | .CIP_CTX_CFG => ⟨.CIPF, 0x0, 1, 4, 0, 0xf0000000, 0xf3ff0000, 0xf3000000, 0x0, 0x0, 0x0⟩ -- 09 T9.7
  | .CIP_SCI_HI => ⟨.CIPF, 0x4, 1, 4, 0, 0x0, 0xffffffff, 0xffffffff, 0x0, 0x0, 0x0⟩ -- 09 T9.7
  | .CIP_SCI_LO => ⟨.CIPF, 0x8, 1, 4, 0, 0x0, 0xffffffff, 0xffffffff, 0x0, 0x0, 0x0⟩ -- 09 T9.7
  | .CIP_SSCI => ⟨.CIPF, 0xc, 1, 4, 0, 0x0, 0xffffffff, 0xffffffff, 0x0, 0x0, 0x0⟩ -- 09 T9.7
  | .CIP_REPLAY_WIN => ⟨.CIPF, 0x10, 1, 4, 0, 0x0, 0x3fffffff, 0x3fffffff, 0x0, 0x0, 0x0⟩ -- 09 T9.7
  | .CIP_TX_PN_LO => ⟨.CIPF, 0x18, 1, 4, 0, 0x1, 0xffffffff, 0x0, 0x0, 0x0, 0x0⟩ -- 09 T9.7
  | .CIP_TX_PN_HI => ⟨.CIPF, 0x1c, 1, 4, 0, 0x0, 0xffffffff, 0x0, 0x0, 0x0, 0x0⟩ -- 09 T9.7
  | .CIP_ENC_FRM_LO => ⟨.CIPF, 0x20, 1, 4, 0, 0x0, 0xffffffff, 0x0, 0x0, 0x0, 0x0⟩ -- 09 T9.7
  | .CIP_ENC_FRM_HI => ⟨.CIPF, 0x24, 1, 4, 0, 0x0, 0xffffffff, 0x0, 0x0, 0x0, 0x0⟩ -- 09 T9.7
  | .CIP_AUTH_FAIL_LO => ⟨.CIPF, 0x28, 1, 4, 0, 0x0, 0xffffffff, 0x0, 0x0, 0x0, 0x0⟩ -- 09 T9.7
  | .CIP_AUTH_FAIL_HI => ⟨.CIPF, 0x2c, 1, 4, 0, 0x0, 0xffffffff, 0x0, 0x0, 0x0, 0x0⟩ -- 09 T9.7
  | .CIP_REPLAY_DROP_LO => ⟨.CIPF, 0x30, 1, 4, 0, 0x0, 0xffffffff, 0x0, 0x0, 0x0, 0x0⟩ -- 09 T9.7
  | .CIP_REPLAY_DROP_HI => ⟨.CIPF, 0x34, 1, 4, 0, 0x0, 0xffffffff, 0x0, 0x0, 0x0, 0x0⟩ -- 09 T9.7
  | .CIP_NO_SA_DROP_LO => ⟨.CIPF, 0x38, 1, 4, 0, 0x0, 0xffffffff, 0x0, 0x0, 0x0, 0x0⟩ -- 09 T9.7
  | .CIP_NO_SA_DROP_HI => ⟨.CIPF, 0x3c, 1, 4, 0, 0x0, 0xffffffff, 0x0, 0x0, 0x0, 0x0⟩ -- 09 T9.7
  | .CIP_RXC => ⟨.CIPR, 0x0, 1, 4, 0, 0x0, 0x8fff0fff, 0x8fff0fff, 0x0, 0x0, 0x0⟩ -- 09 T9.8
  | .CIP_RXC_SCI_HI => ⟨.CIPR, 0x4, 1, 4, 0, 0x0, 0xffffffff, 0xffffffff, 0x0, 0x0, 0x0⟩ -- 09 T9.8
  | .CIP_RXC_SCI_LO => ⟨.CIPR, 0x8, 1, 4, 0, 0x0, 0xffffffff, 0xffffffff, 0x0, 0x0, 0x0⟩ -- 09 T9.8
  | .CIP_GCX_CFG => ⟨.CIPG, 0x0, 1, 4, 0, 0xf000, 0x3ffffff, 0x300ffff, 0x0, 0x0, 0x0⟩ -- 09 T9.9
  | .CIP_SEAL_OK_LO => ⟨.CIPG, 0x8, 1, 4, 0, 0x0, 0xffffffff, 0x0, 0x0, 0x0, 0x0⟩ -- 09 T9.9
  | .CIP_SEAL_OK_HI => ⟨.CIPG, 0xc, 1, 4, 0, 0x0, 0xffffffff, 0x0, 0x0, 0x0, 0x0⟩ -- 09 T9.9
  | .CIP_SEAL_FAIL_LO => ⟨.CIPG, 0x10, 1, 4, 0, 0x0, 0xffffffff, 0x0, 0x0, 0x0, 0x0⟩ -- 09 T9.9
  | .CIP_SEAL_FAIL_HI => ⟨.CIPG, 0x14, 1, 4, 0, 0x0, 0xffffffff, 0x0, 0x0, 0x0, 0x0⟩ -- 09 T9.9
  | .CIP_SEAL_LOSS => ⟨.CIPG, 0x18, 1, 4, 0, 0x0, 0xffffffff, 0x0, 0x0, 0x0, 0xffffffff⟩ -- 09 T9.9
  | .CIP_SEAL_REPLAY => ⟨.CIPG, 0x1c, 1, 4, 0, 0x0, 0xffffffff, 0x0, 0x0, 0x0, 0xffffffff⟩ -- 09 T9.9
  | .HLN_LANE_CFG => ⟨.HLN, 0x0, 1, 4, 0, 0x10000000, 0xf1000000, 0xf1000000, 0x0, 0x0, 0x0⟩ -- 14 T14.5
  | .HLN_TX_EQ => ⟨.HLN, 0x4, 1, 4, 0, 0x3ad00, 0x3fffffff, 0x3fffffff, 0x0, 0x0, 0x0⟩ -- 14 T14.5
  | .HLN_TX_EQ_ACT => ⟨.HLN, 0x8, 1, 4, 0, 0x3ad00, 0x3fffffff, 0x0, 0x0, 0x0, 0x0⟩ -- 14 T14.5
  | .HLN_TRAIN_STATUS => ⟨.HLN, 0xc, 1, 4, 0, 0x0, 0xe00000ff, 0x0, 0x0, 0x0, 0x0⟩ -- 14 T14.5
  | .HLN_RX_STATUS => ⟨.HLN, 0x10, 1, 4, 0, 0x0, 0xc0000fff, 0x0, 0x0, 0x0, 0x0⟩ -- 14 T14.5
  | .HLN_PRBS_CFG => ⟨.HLN, 0x20, 1, 4, 0, 0x0, 0xcff00000, 0xcff00000, 0x0, 0x0, 0x0⟩ -- 14 T14.5
  | .HLN_PRBS_STATUS => ⟨.HLN, 0x24, 1, 4, 0, 0x0, 0x8000ffff, 0x0, 0x0, 0x0, 0x0⟩ -- 14 T14.5
  | .HLN_PRBS_BITS_LO => ⟨.HLN, 0x28, 1, 4, 0, 0x0, 0xffffffff, 0x0, 0x0, 0x0, 0x0⟩ -- 14 T14.4
  | .HLN_PRBS_BITS_HI => ⟨.HLN, 0x2c, 1, 4, 0, 0x0, 0xffffffff, 0x0, 0x0, 0x0, 0x0⟩ -- 14 T14.4
  | .HLN_PRBS_ERR_LO => ⟨.HLN, 0x30, 1, 4, 0, 0x0, 0xffffffff, 0x0, 0x0, 0x0, 0x0⟩ -- 14 T14.4
  | .HLN_PRBS_ERR_HI => ⟨.HLN, 0x34, 1, 4, 0, 0x0, 0xffffffff, 0x0, 0x0, 0x0, 0x0⟩ -- 14 T14.4
  | .HLN_FEC_SYM_ERR_LO => ⟨.HLN, 0x38, 1, 4, 0, 0x0, 0xffffffff, 0x0, 0x0, 0x0, 0x0⟩ -- 14 T14.4
  | .HLN_FEC_SYM_ERR_HI => ⟨.HLN, 0x3c, 1, 4, 0, 0x0, 0xffffffff, 0x0, 0x0, 0x0, 0x0⟩ -- 14 T14.4
  | .HLN_LANE_EVT => ⟨.HLN, 0x40, 1, 4, 0, 0x0, 0x3f, 0x0, 0x3f, 0x0, 0x0⟩ -- 14 T14.5
  | .HLN_LANE_EVT_EN => ⟨.HLN, 0x44, 1, 4, 0, 0x0, 0x3f, 0x3f, 0x0, 0x0, 0x0⟩ -- 14 T14.5
  | .HLN_LANE_CTRL => ⟨.HLN, 0x48, 1, 4, 0, 0x0, 0x0, 0x0, 0x0, 0x0, 0x0⟩ -- 14 T14.5
  | .YLN_YARD_CFG => ⟨.YLN, 0x0, 1, 4, 0, 0x40000000, 0xc0000000, 0xc0000000, 0x0, 0x0, 0x0⟩ -- 14 T14.12
  | .YLN_ID_STATUS => ⟨.YLN, 0x4, 1, 4, 0, 0x0, 0xe0000003, 0x0, 0x0, 0x0, 0x0⟩ -- 14 T14.12
  | .YLN_ID_EVT => ⟨.YLN, 0x8, 1, 4, 0, 0x0, 0xf, 0x0, 0xf, 0x0, 0x0⟩ -- 14 T14.12
  | .YLN_ID_EVT_EN => ⟨.YLN, 0xc, 1, 4, 0, 0x0, 0xf, 0xf, 0x0, 0x0, 0x0⟩ -- 14 T14.12
  | .YLN_IMG_FWD => ⟨.YLN, 0x14, 3, 4, 1, 0x0, 0x7, 0x0, 0x0, 0x0, 0x0⟩ -- 14 T14.12
  | .YLN_RMT_CMD => ⟨.YLN, 0x20, 1, 4, 0, 0x0, 0x0, 0x0, 0x0, 0x0, 0x0⟩ -- 14 T14.12
  | .YLN_RMT_ADDR => ⟨.YLN, 0x24, 1, 4, 0, 0x0, 0xffffffff, 0xffffffff, 0x0, 0x0, 0x0⟩ -- 14 T14.12
  | .YLN_RMT_DATA => ⟨.YLN, 0x28, 1, 4, 0, 0x0, 0xffffffff, 0xffffffff, 0x0, 0x0, 0x0⟩ -- 14 T14.12
  | .YLN_RMT_STATUS => ⟨.YLN, 0x2c, 1, 4, 0, 0x0, 0x8000000f, 0x0, 0x0, 0x0, 0x0⟩ -- 14 T14.12
  | .YL_CFG => ⟨.YLL, 0x0, 1, 4, 0, 0x0, 0xc0000000, 0xc0000000, 0x0, 0x0, 0x0⟩ -- 14 T14.13
  | .YL_EQ => ⟨.YLL, 0x4, 1, 4, 0, 0xeb34, 0x3fffffff, 0x3fffffff, 0x0, 0x0, 0x0⟩ -- 14 T14.13
  | .YL_RX => ⟨.YLL, 0x8, 1, 4, 0, 0x88, 0x9f, 0x9f, 0x0, 0x0, 0x0⟩ -- 14 T14.13
  | .YL_STATUS => ⟨.YLL, 0xc, 1, 4, 0, 0x0, 0xe000003f, 0x0, 0x0, 0x0, 0x0⟩ -- 14 T14.13
  | .YLN_UNC_CW => ⟨.YLL, 0x10, 1, 4, 0, 0x0, 0xffffffff, 0x0, 0x0, 0x0, 0xffffffff⟩ -- 14 T14.13
  | .YLN_BAD_BLK => ⟨.YLL, 0x14, 1, 4, 0, 0x0, 0xffffffff, 0x0, 0x0, 0x0, 0xffffffff⟩ -- 14 T14.13
  | .YLN_FILL_DEL_LO => ⟨.YLL, 0x18, 1, 4, 0, 0x0, 0xffffffff, 0x0, 0x0, 0x0, 0x0⟩ -- 14 T14.13
  | .YLN_FILL_DEL_HI => ⟨.YLL, 0x1c, 1, 4, 0, 0x0, 0xffffffff, 0x0, 0x0, 0x0, 0x0⟩ -- 14 T14.13
  | .YL_PRBS_CFG => ⟨.YLL, 0x20, 1, 4, 0, 0x0, 0xcff00000, 0xcff00000, 0x0, 0x0, 0x0⟩ -- 14 T14.13
  | .YL_PRBS_STATUS => ⟨.YLL, 0x24, 1, 4, 0, 0x0, 0x8000ffff, 0x0, 0x0, 0x0, 0x0⟩ -- 14 T14.13
  | .YL_PRBS_BITS_LO => ⟨.YLL, 0x28, 1, 4, 0, 0x0, 0xffffffff, 0x0, 0x0, 0x0, 0x0⟩ -- 14 T14.13
  | .YL_PRBS_BITS_HI => ⟨.YLL, 0x2c, 1, 4, 0, 0x0, 0xffffffff, 0x0, 0x0, 0x0, 0x0⟩ -- 14 T14.13
  | .YL_PRBS_ERR_LO => ⟨.YLL, 0x30, 1, 4, 0, 0x0, 0xffffffff, 0x0, 0x0, 0x0, 0x0⟩ -- 14 T14.13
  | .YL_PRBS_ERR_HI => ⟨.YLL, 0x34, 1, 4, 0, 0x0, 0xffffffff, 0x0, 0x0, 0x0, 0x0⟩ -- 14 T14.13
  | .YLN_FILL_INS_LO => ⟨.YLL, 0x40, 1, 4, 0, 0x0, 0xffffffff, 0x0, 0x0, 0x0, 0x0⟩ -- 14 T14.13
  | .YLN_FILL_INS_HI => ⟨.YLL, 0x44, 1, 4, 0, 0x0, 0xffffffff, 0x0, 0x0, 0x0, 0x0⟩ -- 14 T14.13
  | .YLN_LINK_STATUS => ⟨.YLK, 0x0, 1, 4, 0, 0x0, 0xfbff0000, 0x0, 0x0, 0x0, 0x0⟩ -- 14 T14.14
  | .YLN_LINK_EVT => ⟨.YLK, 0x4, 1, 4, 0, 0x0, 0xf, 0x0, 0xf, 0x0, 0x0⟩ -- 14 T14.14
  | .YLN_LINK_EVT_EN => ⟨.YLK, 0x8, 1, 4, 0, 0x0, 0xf, 0xf, 0x0, 0x0, 0x0⟩ -- 14 T14.14
  | .YLN_LINK_CTRL => ⟨.YLK, 0xc, 1, 4, 0, 0x0, 0x0, 0x0, 0x0, 0x0, 0x0⟩ -- 14 T14.14
  | .YLN_FWD_TX => ⟨.YLK, 0x40, 14, 4, 0, 0x0, 0x8fff00ff, 0x8fff00ff, 0x0, 0x0, 0x0⟩ -- 14 T14.14
  | .YLN_FWD_RX => ⟨.YLK, 0x80, 14, 4, 0, 0x0, 0x8fff00ff, 0x8fff00ff, 0x0, 0x0, 0x0⟩ -- 14 T14.14
  | .MON_CFG => ⟨.MON, 0x0, 1, 4, 0, 0x14200000, 0xffff0033, 0xffff0033, 0x0, 0x0, 0x0⟩ -- 12 T12.5
  | .MON_STATUS => ⟨.MON, 0x4, 1, 4, 0, 0x0, 0x8f0f0f00, 0x0, 0x0, 0x0, 0x0⟩ -- 12 T12.5
  | .MON_EVT => ⟨.MON, 0x8, 1, 4, 0, 0x0, 0x7f, 0x0, 0x7f, 0x0, 0x0⟩ -- 12 T12.5
  | .MON_EVT_EN => ⟨.MON, 0xc, 1, 4, 0, 0x0, 0x7f, 0x7f, 0x0, 0x0, 0x0⟩ -- 12 T12.5
  | .MON_CTRL => ⟨.MON, 0x10, 1, 4, 0, 0x0, 0x0, 0x0, 0x0, 0x0, 0x0⟩ -- 12 T12.5
  | .MON_TRIG_CFG => ⟨.MON, 0x14, 1, 4, 0, 0x2000000, 0xffff0001, 0xffff0001, 0x0, 0x0, 0x0⟩ -- 12 T12.5
  | .MON_COMPAT_CFG => ⟨.MON, 0x18, 1, 4, 0, 0x10000000, 0xf80fffff, 0xf80fffff, 0x0, 0x0, 0x0⟩ -- 12 T12.5
  | .MON_TIMER => ⟨.MON, 0x1c, 1, 4, 0, 0x0, 0xffff, 0xffff, 0x0, 0x0, 0x0⟩ -- 12 T12.5
  | .MON_TRIG_OVR_CNT => ⟨.MON, 0x20, 1, 4, 0, 0x0, 0xffffffff, 0x0, 0x0, 0x0, 0xffffffff⟩ -- 12 T12.5
  | .MON_CHK_FAIL_CNT => ⟨.MON, 0x24, 1, 4, 0, 0x0, 0xffffffff, 0x0, 0x0, 0x0, 0xffffffff⟩ -- 12 T12.5
  | .MON_LIM_STAT => ⟨.MON, 0x28, 1, 4, 0, 0x0, 0xffffffff, 0x0, 0xffffffff, 0x0, 0x0⟩ -- 12 T12.5
  | .MON_SNAP => ⟨.MON, 0x30, 4, 4, 0, 0x0, 0xc0ffffff, 0x0, 0x0, 0x0, 0x0⟩ -- 12 T12.5
  | .MON_SNAP_SEC => ⟨.MON, 0x40, 1, 4, 0, 0x0, 0xffffffff, 0x0, 0x0, 0x0, 0x0⟩ -- 12 T12.5
  | .MON_SNAP_NS => ⟨.MON, 0x44, 1, 4, 0, 0x0, 0xbfffffff, 0x0, 0x0, 0x0, 0x0⟩ -- 12 T12.5
  | .MON_PAIR_CFG => ⟨.MONP, 0x0, 1, 4, 0, 0x100001, 0xfffe000f, 0xeffe000f, 0x0, 0x0, 0x0⟩ -- 12 T12.6
  | .MON_NOTCH_LEN => ⟨.MONP, 0x4, 1, 4, 0, 0x30000, 0xffffff, 0xffffff, 0x0, 0x0, 0x0⟩ -- 12 T12.6
  | .MON_SHIFT => ⟨.MONP, 0x8, 1, 4, 0, 0x0, 0xbf3f3f00, 0xbf3f3f00, 0x0, 0x0, 0x0⟩ -- 12 T12.6
  | .MON_PAIR_STATUS => ⟨.MONP, 0xc, 1, 4, 0, 0x0, 0xdf00000f, 0x0, 0x0, 0x0, 0x0⟩ -- 12 T12.6
  | .MON_LAST => ⟨.MONP, 0x10, 1, 4, 0, 0x0, 0xe0ffffff, 0x0, 0x0, 0x0, 0x0⟩ -- 12 T12.6
  | .MON_TRIG_RES => ⟨.MONP, 0x14, 1, 4, 0, 0x0, 0xe0ffffff, 0x0, 0x0, 0x0, 0x0⟩ -- 12 T12.6
  | .MON_TRIG_SEC => ⟨.MONP, 0x18, 1, 4, 0, 0x0, 0xffffffff, 0x0, 0x0, 0x0, 0x0⟩ -- 12 T12.6
  | .MON_TRIG_NS => ⟨.MONP, 0x1c, 1, 4, 0, 0x0, 0xbfffffff, 0x0, 0x0, 0x0, 0x0⟩ -- 12 T12.6
  | .MON_SEQ => ⟨.MONP, 0x40, 16, 4, 0, 0x1000000, 0xffff0007, 0xffff0007, 0x0, 0x0, 0x0⟩ -- 12 T12.6
  | .MON_RESULT => ⟨.MONC, 0x0, 1, 4, 0, 0x0, 0xf3ffffff, 0x0, 0x0, 0x0, 0x0⟩ -- 12 T12.7
  | .MON_RES_SEC => ⟨.MONC, 0x4, 1, 4, 0, 0x0, 0xffffffff, 0x0, 0x0, 0x0, 0x0⟩ -- 12 T12.7
  | .MON_LIM => ⟨.MONC, 0x8, 1, 4, 0, 0x7fff8000, 0xffffffff, 0xffffffff, 0x0, 0x0, 0x0⟩ -- 12 T12.7
  | .MON_CH_CFG => ⟨.MONC, 0xc, 1, 4, 0, 0x0, 0x80000007, 0x80000007, 0x0, 0x0, 0x0⟩ -- 12 T12.7
  | .MON_BIN_CFG => ⟨.MONB, 0x0, 1, 4, 0, 0xa0000, 0xffdf0000, 0xbfdf0000, 0x0, 0x0, 0x0⟩ -- 12 T12.8
  | .MON_BIN_FREQ => ⟨.MONB, 0x4, 1, 4, 0, 0x0, 0xffffff, 0xffffff, 0x0, 0x0, 0x0⟩ -- 12 T12.8
  | .MON_BIN_MAG => ⟨.MONB, 0x8, 1, 4, 0, 0x0, 0x80ffffff, 0x0, 0x0, 0x0, 0x80000000⟩ -- 12 T12.8
  | .MON_BIN_PHASE => ⟨.MONB, 0xc, 1, 4, 0, 0x0, 0xffff, 0x0, 0x0, 0x0, 0x0⟩ -- 12 T12.8
  | .MON_BIN_SEC => ⟨.MONB, 0x10, 1, 4, 0, 0x0, 0xffffffff, 0x0, 0x0, 0x0, 0x0⟩ -- 12 T12.8
  | .MON_BIN_NS => ⟨.MONB, 0x14, 1, 4, 0, 0x0, 0xbfffffff, 0x0, 0x0, 0x0, 0x0⟩ -- 12 T12.8
  | .MON_BIN_MISS => ⟨.MONB, 0x18, 1, 4, 0, 0x0, 0xffffffff, 0x0, 0x0, 0x0, 0xffffffff⟩ -- 12 T12.8
  | .PCC_CFG => ⟨.PCC, 0x0, 1, 4, 0, 0xff, 0xf81f1fff, 0xf81f1fff, 0x0, 0x0, 0x0⟩ -- 13 T13.6
  | .PCC_NODE_ID => ⟨.PCC, 0x4, 1, 4, 0, 0x0, 0xffff, 0xffff, 0x0, 0x0, 0x0⟩ -- 13 T13.6
  | .PCC_STATUS => ⟨.PCC, 0x8, 1, 4, 0, 0x0, 0xc01f000f, 0x0, 0x0, 0x0, 0x0⟩ -- 13 T13.6
  | .PCC_EVT => ⟨.PCC, 0xc, 1, 4, 0, 0x0, 0x7ff, 0x0, 0x7ff, 0x0, 0x0⟩ -- 13 T13.6
  | .PCC_EVT_EN => ⟨.PCC, 0x10, 1, 4, 0, 0x0, 0x7ff, 0x7ff, 0x0, 0x0, 0x0⟩ -- 13 T13.6
  | .PCC_RX_POP => ⟨.PCC, 0x14, 1, 4, 0, 0x0, 0x0, 0x0, 0x0, 0x0, 0x0⟩ -- 13 T13.6
  | .PCC_RX_HEAD => ⟨.PCC, 0x18, 1, 4, 0, 0x0, 0x8700ffff, 0x0, 0x0, 0x0, 0x0⟩ -- 13 T13.6
  | .PCC_RX_LEVEL => ⟨.PCC, 0x1c, 1, 4, 0, 0x0, 0xffff, 0x0, 0x0, 0x0, 0x0⟩ -- 13 T13.6
  | .PCC_RX_SEC => ⟨.PCC, 0x20, 1, 4, 0, 0x0, 0xffffffff, 0x0, 0x0, 0x0, 0x0⟩ -- 13 T13.6
  | .PCC_RX_NS => ⟨.PCC, 0x24, 1, 4, 0, 0x0, 0xbfffffff, 0x0, 0x0, 0x0, 0x0⟩ -- 13 T13.6
  | .PCC_RX_DATA => ⟨.PCC, 0x40, 16, 4, 0, 0x0, 0xffffffff, 0x0, 0x0, 0x0, 0x0⟩ -- 13 T13.6
  | .PCC_RX_OVR_CNT => ⟨.PCC, 0x80, 1, 4, 0, 0x0, 0xffffffff, 0x0, 0x0, 0x0, 0xffffffff⟩ -- 13 T13.6
  | .PCC_TX_CFG => ⟨.PCCC, 0x0, 1, 4, 0, 0x68000190, 0xfff003ff, 0xfff003ff, 0x0, 0x0, 0x0⟩ -- 13 T13.7
  | .PCC_TX_AUTO => ⟨.PCCC, 0x4, 1, 4, 0, 0xf00a0214, 0xf0ffffff, 0xf0ffffff, 0x0, 0x0, 0x0⟩ -- 13 T13.7
  | .PCC_TX_CMD => ⟨.PCCC, 0x8, 1, 4, 0, 0x0, 0x0, 0x0, 0x0, 0x0, 0x0⟩ -- 13 T13.7
  | .PCC_TX_STATUS => ⟨.PCCC, 0xc, 1, 4, 0, 0x0, 0xf00700ff, 0x0, 0x0, 0x0, 0x0⟩ -- 13 T13.7
  | .PCC_TX_DATA => ⟨.PCCC, 0x40, 16, 4, 0, 0x0, 0x0, 0x0, 0x0, 0x0, 0x0⟩ -- 13 T13.7
  | .PCC_TX_SENT => ⟨.PCCC, 0x80, 1, 4, 0, 0x0, 0xffffffff, 0x0, 0x0, 0x0, 0xffffffff⟩ -- 13 T13.7
  | .PCC_TX_ABORT_CNT => ⟨.PCCC, 0x84, 1, 4, 0, 0x0, 0xffffffff, 0x0, 0x0, 0x0, 0xffffffff⟩ -- 13 T13.7
  | .PCC_TX_EXPIRED_CNT => ⟨.PCCC, 0x88, 1, 4, 0, 0x0, 0xffffffff, 0x0, 0x0, 0x0, 0xffffffff⟩ -- 13 T13.7
  | .PCC_SLOT_CFG => ⟨.PCCS, 0x0, 1, 4, 0, 0x30000190, 0xfc0003ff, 0xfc0003ff, 0x0, 0x0, 0x0⟩ -- 13 T13.8
  | .PCC_SLOT_STATUS => ⟨.PCCS, 0x4, 1, 4, 0, 0x8000, 0xfdffffff, 0x0, 0x0, 0x0, 0x0⟩ -- 13 T13.8
  | .PCC_DET_LVL => ⟨.PCCS, 0x8, 1, 4, 0, 0xfce0, 0xffff, 0xffff, 0x0, 0x0, 0x0⟩ -- 13 T13.8
  | .PCC_LOCK_LVL => ⟨.PCCS, 0xc, 1, 4, 0, 0x0, 0xffff, 0x0, 0x0, 0x0, 0x0⟩ -- 13 T13.8
  | .PCC_PEER => ⟨.PCCS, 0x10, 1, 4, 0, 0x0, 0xffff, 0x0, 0x0, 0x0, 0x0⟩ -- 13 T13.8
  | .PCC_EXP_ID => ⟨.PCCS, 0x14, 1, 4, 0, 0x0, 0x8000ffff, 0x8000ffff, 0x0, 0x0, 0x0⟩ -- 13 T13.8
  | .PCC_FAR_DEF => ⟨.PCCS, 0x18, 1, 4, 0, 0x0, 0x800007ff, 0x0, 0x0, 0x0, 0x0⟩ -- 13 T13.8
  | .PCC_SR_RX => ⟨.PCCS, 0x1c, 1, 4, 0, 0x0, 0x8000ffff, 0x0, 0x0, 0x0, 0x0⟩ -- 13 T13.8
  | .PCC_LAST_SEQ => ⟨.PCCS, 0x20, 1, 4, 0, 0x0, 0xff, 0x0, 0x0, 0x0, 0x0⟩ -- 13 T13.8
  | .PCC_RX_OK => ⟨.PCCS, 0x40, 1, 4, 0, 0x0, 0xffffffff, 0x0, 0x0, 0x0, 0xffffffff⟩ -- 13 T13.8
  | .PCC_CRC_FAIL => ⟨.PCCS, 0x44, 1, 4, 0, 0x0, 0xffffffff, 0x0, 0x0, 0x0, 0xffffffff⟩ -- 13 T13.8
  | .PCC_FALSE_DET => ⟨.PCCS, 0x48, 1, 4, 0, 0x0, 0xffffffff, 0x0, 0x0, 0x0, 0xffffffff⟩ -- 13 T13.8
  | .PCC_PREEMPT_CNT => ⟨.PCCS, 0x4c, 1, 4, 0, 0x0, 0xffffffff, 0x0, 0x0, 0x0, 0xffffffff⟩ -- 13 T13.8
  | .PCC_HDR_BAD => ⟨.PCCS, 0x50, 1, 4, 0, 0x0, 0xffffffff, 0x0, 0x0, 0x0, 0xffffffff⟩ -- 13 T13.8
  | .PCC_DUP => ⟨.PCCS, 0x54, 1, 4, 0, 0x0, 0xffffffff, 0x0, 0x0, 0x0, 0xffffffff⟩ -- 13 T13.8
  | .PCC_SEQ_GAP => ⟨.PCCS, 0x58, 1, 4, 0, 0x0, 0xffffffff, 0x0, 0x0, 0x0, 0xffffffff⟩ -- 13 T13.8
  | .PCC_STALE => ⟨.PCCS, 0x5c, 1, 4, 0, 0x0, 0xffffffff, 0x0, 0x0, 0x0, 0xffffffff⟩ -- 13 T13.8
  | .CAL_CFG => ⟨.CAL, 0x0, 1, 4, 0, 0xc0140a00, 0xc0ffff00, 0xc0ffff00, 0x0, 0x0, 0x0⟩ -- 16 T16.10
  | .CAL_STATUS => ⟨.CAL, 0x4, 1, 4, 0, 0x0, 0xef000000, 0x0, 0x0, 0x0, 0x0⟩ -- 16 T16.10
  | .CAL_EVT => ⟨.CAL, 0x8, 1, 4, 0, 0x0, 0x1ff, 0x0, 0x1ff, 0x0, 0x0⟩ -- 16 T16.10
  | .CAL_EVT_EN => ⟨.CAL, 0xc, 1, 4, 0, 0x0, 0x1ff, 0x1ff, 0x0, 0x0, 0x0⟩ -- 16 T16.10
  | .CAL_CMD => ⟨.CAL, 0x10, 1, 4, 0, 0x0, 0x0, 0x0, 0x0, 0x0, 0x0⟩ -- 16 T16.10
  | .CAL_RESULT => ⟨.CAL, 0x14, 1, 4, 0, 0x0, 0x8000000f, 0x0, 0x0, 0x0, 0x0⟩ -- 16 T16.10
  | .CAL_VREF_VAL => ⟨.CAL, 0x18, 1, 4, 0, 0x0, 0x3fffff, 0x3fffff, 0x0, 0x0, 0x0⟩ -- 16 T16.10
  | .CAL_TEMP_REF => ⟨.CAL, 0x1c, 1, 4, 0, 0x0, 0xffff, 0xffff, 0x0, 0x0, 0x0⟩ -- 16 T16.10
  | .CAL_TR_BANK => ⟨.CAL, 0x20, 1, 4, 0, 0x0, 0x7, 0x7, 0x0, 0x0, 0x0⟩ -- 16 T16.10
  | .CAL_TR_STATUS => ⟨.CAL, 0x24, 1, 4, 0, 0x0, 0x80000000, 0x0, 0x0, 0x0, 0x0⟩ -- 16 T16.10
  | .CAL_TR_CE => ⟨.CAL, 0x28, 1, 4, 0, 0x0, 0xffffffff, 0x0, 0x0, 0x0, 0xffffffff⟩ -- 16 T16.10
  | .CAL_TR_UE => ⟨.CAL, 0x2c, 1, 4, 0, 0x0, 0xffffffff, 0x0, 0x0, 0x0, 0xffffffff⟩ -- 16 T16.10
  | .CAL_DISCARD_CNT => ⟨.CALC, 0x0, 4, 4, 0, 0x0, 0xffffffff, 0x0, 0x0, 0x0, 0xffffffff⟩ -- 16 T16.11
  | .CAL_DAC_DISCARD_CNT => ⟨.CALC, 0x10, 1, 4, 0, 0x0, 0xffffffff, 0x0, 0x0, 0x0, 0xffffffff⟩ -- 16 T16.11
  | .CAL_PASS_CNT => ⟨.CALC, 0x20, 4, 4, 0, 0x0, 0xffffffff, 0x0, 0x0, 0x0, 0x0⟩ -- 16 T16.11
  | .CAL_SLICE_SEL => ⟨.CALC, 0x40, 1, 4, 0, 0x0, 0x3007f, 0x3007f, 0x0, 0x0, 0x0⟩ -- 16 T16.11
  | .CAL_SLICE_OFS => ⟨.CALC, 0x44, 1, 4, 0, 0x0, 0xffff, 0x0, 0x0, 0x0, 0x0⟩ -- 16 T16.11
  | .CAL_SLICE_GAIN => ⟨.CALC, 0x48, 1, 4, 0, 0x0, 0xffff, 0x0, 0x0, 0x0, 0x0⟩ -- 16 T16.11
  | .CAL_SLICE_TAP => ⟨.CALC, 0x4c, 1, 4, 0, 0x1000100, 0x1ff01ff, 0x0, 0x0, 0x0, 0x0⟩ -- 16 T16.11
  | .CAL_LAST_STORE => ⟨.CALC, 0x50, 1, 4, 0, 0x0, 0xffffffff, 0x0, 0x0, 0x0, 0x0⟩ -- 16 T16.11
  | .BST_CMD => ⟨.BST, 0x0, 1, 4, 0, 0x0, 0x0, 0x0, 0x0, 0x0, 0x0⟩ -- 16 T16.12
  | .BST_RESULT => ⟨.BST, 0x4, 1, 4, 0, 0x0, 0xf, 0x0, 0x0, 0x0, 0x0⟩ -- 16 T16.12
  | .BST_CAP => ⟨.BST, 0x8, 1, 4, 0, 0x35c, 0x3ff, 0x3ff, 0x0, 0x0, 0x0⟩ -- 16 T16.12
  | .BST_STATUS => ⟨.BST, 0xc, 1, 4, 0, 0x0, 0x8f1f03ff, 0x0, 0x0, 0x0, 0x0⟩ -- 16 T16.12
  | .BST_EVT => ⟨.BST, 0x10, 1, 4, 0, 0x0, 0x1f, 0x0, 0x1f, 0x0, 0x0⟩ -- 16 T16.12
  | .BST_EVT_EN => ⟨.BST, 0x14, 1, 4, 0, 0x0, 0x1f, 0x1f, 0x0, 0x0, 0x0⟩ -- 16 T16.12
  | .BST_QUEUE_TO => ⟨.BST, 0x18, 1, 4, 0, 0x3c, 0xffff, 0xffff, 0x0, 0x0, 0x0⟩ -- 16 T16.12
  | .BST_RES => ⟨.BST, 0x100, 116, 4, 0, 0x0, 0xf8ffffff, 0x0, 0x0, 0x0, 0x0⟩ -- 16 T16.12
  | .PMC_CFG => ⟨.PMC, 0x0, 1, 4, 0, 0x0, 0xc0000000, 0xc0000000, 0x0, 0x0, 0x0⟩ -- 17 T17.8
  | .PMC_EVT => ⟨.PMC, 0x4, 1, 4, 0, 0x0, 0x1f, 0x0, 0x1f, 0x0, 0x0⟩ -- 17 T17.8
  | .PMC_EVT_EN => ⟨.PMC, 0x8, 1, 4, 0, 0x0, 0x1f, 0x1f, 0x0, 0x0, 0x0⟩ -- 17 T17.8
  | .PMC_OVF => ⟨.PMC, 0xc, 1, 4, 0, 0x0, 0xffffffff, 0x0, 0xffffffff, 0x0, 0x0⟩ -- 17 T17.8
  | .PMC_DUMP_CFG => ⟨.PMC, 0x10, 1, 4, 0, 0x3e8, 0xc00fffff, 0xc00fffff, 0x0, 0x0, 0x0⟩ -- 17 T17.8
  | .PMC_DUMP_MASK => ⟨.PMC, 0x14, 1, 4, 0, 0x0, 0xffffffff, 0xffffffff, 0x0, 0x0, 0x0⟩ -- 17 T17.8
  | .PMC_DUMP_BASE => ⟨.PMC, 0x18, 1, 4, 0, 0x0, 0xffffffc0, 0xffffffc0, 0x0, 0x0, 0x0⟩ -- 17 T17.8
  | .PMC_DUMP_SIZE => ⟨.PMC, 0x1c, 1, 4, 0, 0x0, 0xffffffc0, 0xffffffc0, 0x0, 0x0, 0x0⟩ -- 17 T17.8
  | .PMC_DUMP_PTR => ⟨.PMC, 0x20, 1, 4, 0, 0x0, 0xffffffff, 0x0, 0x0, 0x0, 0x0⟩ -- 17 T17.8
  | .PMC_DUMP_SEQ => ⟨.PMC, 0x24, 1, 4, 0, 0x0, 0xffffffff, 0x0, 0x0, 0x0, 0x0⟩ -- 17 T17.8
  | .PMC_DUMP_DROP => ⟨.PMC, 0x28, 1, 4, 0, 0x0, 0xffffffff, 0x0, 0x0, 0x0, 0xffffffff⟩ -- 17 T17.8
  | .PMC_DUMP_WRAP => ⟨.PMC, 0x2c, 1, 4, 0, 0x0, 0xffffffff, 0x0, 0x0, 0x0, 0x0⟩ -- 17 T17.8
  | .PMC_SAMPLE_SRC => ⟨.PMC, 0x30, 1, 4, 0, 0x0, 0xdf000003, 0x0, 0x80000000, 0x0, 0x0⟩ -- 17 T17.8
  | .PMC_SAMPLE_PC => ⟨.PMC, 0x34, 1, 4, 0, 0x0, 0xffffffff, 0x0, 0x0, 0x0, 0x0⟩ -- 17 T17.8
  | .PMC_SAMPLE_SEG => ⟨.PMC, 0x38, 1, 4, 0, 0x0, 0xfffffff, 0x0, 0x0, 0x0, 0x0⟩ -- 17 T17.8
  | .PMC_CTR_CFG => ⟨.PMC, 0x100, 32, 16, 0, 0xfff0000, 0xefff03ff, 0xefff03ff, 0x0, 0x0, 0x0⟩ -- 17 T17.8
  | .PMC_CTR_LO => ⟨.PMC, 0x104, 32, 16, 0, 0x0, 0xffffffff, 0xffffffff, 0x0, 0x0, 0x0⟩ -- 17 T17.8
  | .PMC_CTR_HI => ⟨.PMC, 0x108, 32, 16, 0, 0x0, 0xffff, 0xffff, 0x0, 0x0, 0x0⟩ -- 17 T17.8
  | .PMC_SNAP_LO => ⟨.PMC, 0x400, 32, 8, 0, 0x0, 0xffffffff, 0x0, 0x0, 0x0, 0x0⟩ -- 17 T17.8
  | .PMC_SNAP_HI => ⟨.PMC, 0x404, 32, 8, 0, 0x0, 0xffff, 0x0, 0x0, 0x0, 0x0⟩ -- 17 T17.8
  | .PMC_USER_LO => ⟨.PMCU, 0x0, 32, 8, 0, 0x0, 0xffffffff, 0x0, 0x0, 0x0, 0x0⟩ -- 17 R406
  | .PMC_USER_HI => ⟨.PMCU, 0x4, 32, 8, 0, 0x0, 0xffff, 0x0, 0x0, 0x0, 0x0⟩ -- 17 R406
  | .PMC_LOG_NEXT => ⟨.PMCL, 0x0, 1, 4, 0, 0x0, 0xffffffff, 0x0, 0x0, 0x0, 0x0⟩ -- 17 R400
  | .PMC_LOG_OVR => ⟨.PMCL, 0x4, 1, 4, 0, 0x0, 0xffffffff, 0x0, 0x0, 0x0, 0x0⟩ -- 17 R400
  | .PMC_LOG_DROP => ⟨.PMCL, 0x8, 1, 4, 0, 0x0, 0xffffffff, 0x0, 0x0, 0x0, 0xffffffff⟩ -- 17 R400
  | .SAF_FAULT_STATUS => ⟨.SAF, 0x0, 1, 4, 0, 0x0, 0x3ff, 0x0, 0x0, 0x0, 0x0⟩ -- 17 T17.9
  | .SAF_FAULT_EVT => ⟨.SAF, 0x4, 1, 4, 0, 0x0, 0x3ff, 0x0, 0x3ff, 0x0, 0x0⟩ -- 17 T17.9
  | .SAF_FAULT_EVT_EN => ⟨.SAF, 0x8, 1, 4, 0, 0x0, 0x3ff, 0x3ff, 0x0, 0x0, 0x0⟩ -- 17 T17.9
  | .SAF_FAULT_CAUSE => ⟨.SAF, 0xc, 1, 4, 0, 0x1, 0x7, 0x0, 0x0, 0x0, 0x0⟩ -- 17 T17.9
  | .SAF_CFG_ERR => ⟨.SAF, 0x10, 1, 4, 0, 0x0, 0xfffff001, 0x0, 0x1, 0x0, 0x0⟩ -- 17 T17.9
  | .SAF_FO_PEND => ⟨.SAF, 0x14, 1, 4, 0, 0x0, 0x3, 0x0, 0x3, 0x0, 0x0⟩ -- 17 T17.9
  | .SAF_REACT => ⟨.SAF, 0x40, 10, 4, 0, 0x0, 0x1f, 0x1f, 0x0, 0x0, 0x0⟩ -- 17 T17.9
  | .SAF_FAULT_CNT => ⟨.SAF, 0x80, 10, 4, 0, 0x0, 0xffffffff, 0x0, 0x0, 0x0, 0xffffffff⟩ -- 17 T17.9
  | .SAF_WIN_CTRL => ⟨.SAFT, 0x0, 1, 4, 0, 0x3c, 0x20000fff, 0x20000fff, 0x0, 0x0, 0x0⟩ -- 17 T17.11
  | .SAF_WIN_STATUS => ⟨.SAFT, 0x4, 1, 4, 0, 0x0, 0xc0000fff, 0x0, 0x0, 0x0, 0x0⟩ -- 17 T17.11
  | .SAF_EVT => ⟨.SAFT, 0x8, 1, 4, 0, 0x0, 0x7, 0x0, 0x7, 0x0, 0x0⟩ -- 17 T17.11
  | .SAF_EVT_EN => ⟨.SAFT, 0xc, 1, 4, 0, 0x0, 0x7, 0x7, 0x0, 0x0, 0x0⟩ -- 17 T17.11
  | .SAF_INJ_CFG => ⟨.SAFT, 0x40, 8, 16, 0, 0x0, 0xff0fffff, 0xbf0fffff, 0x0, 0x0, 0x0⟩ -- 17 T17.11
  | .SAF_INJ_ARG => ⟨.SAFT, 0x44, 8, 16, 0, 0x0, 0xffffffff, 0xffffffff, 0x0, 0x0, 0x0⟩ -- 17 T17.11
  | .SAF_INJ_DUR => ⟨.SAFT, 0x48, 8, 16, 0, 0x0, 0xffffffff, 0xffffffff, 0x0, 0x0, 0x0⟩ -- 17 T17.11
  | .LB_CMD => ⟨.LB, 0x0, 1, 4, 0, 0x0, 0x0, 0x0, 0x0, 0x0, 0x0⟩ -- 17 T17.4
  | .LB_STATUS => ⟨.LB, 0x4, 1, 4, 0, 0x0, 0xe300000f, 0x0, 0x60000000, 0x0, 0x0⟩ -- 17 T17.4
  | .LB_ARG => ⟨.LB, 0x40, 32, 4, 0, 0x0, 0xffffffff, 0xffffffff, 0x0, 0x0, 0x0⟩ -- 17 T17.4
  | .LB_RSP => ⟨.LB, 0xc0, 32, 4, 0, 0x0, 0xffffffff, 0x0, 0x0, 0x0, 0x0⟩ -- 17 T17.4
  | .CORE_MPU_BASE => ⟨.CORE, 0x0, 16, 8, 0, 0x0, 0xfffff000, 0xfffff000, 0x0, 0x0, 0x0⟩ -- 17 T17.2
  | .CORE_MPU_CFG => ⟨.CORE, 0x4, 16, 8, 0, 0xc00, 0xe0001f07, 0xe0001f07, 0x0, 0x0, 0x0⟩ -- 17 T17.2
  | .CORE_MPU_FAULT => ⟨.CORE, 0x80, 1, 4, 0, 0x0, 0xffffffff, 0x0, 0x0, 0x0, 0x0⟩ -- 17 T17.2
  | .CORE_MPU_FAULT_INFO => ⟨.CORE, 0x84, 1, 4, 0, 0x0, 0x8003ffff, 0x0, 0x80000000, 0x0, 0x0⟩ -- 17 T17.2
  | .CORE_WDT_CFG => ⟨.CORE, 0x90, 1, 4, 0, 0x80000032, 0x8000007f, 0x8000007f, 0x0, 0x0, 0x0⟩ -- 17 T17.2
  | .CORE_WDT_KICK => ⟨.CORE, 0x94, 1, 4, 0, 0x0, 0x0, 0x0, 0x0, 0x0, 0x0⟩ -- 17 T17.2
  | .CORE_WDT_LEFT => ⟨.CORE, 0x98, 1, 4, 0, 0x32, 0x7f, 0x0, 0x0, 0x0, 0x0⟩ -- 17 T17.2
  | .PMK_CFG => ⟨.PMK, 0x0, 1, 4, 0, 0x8000000a, 0x8c00ffff, 0x8c00ffff, 0x0, 0x0, 0x0⟩ -- 11 T11.7
  | .PMK_STATUS => ⟨.PMK, 0x4, 1, 4, 0, 0x8000000, 0xf800ffff, 0x0, 0x0, 0x0, 0x0⟩ -- 11 T11.7
  | .PMK_EVT => ⟨.PMK, 0x8, 1, 4, 0, 0x0, 0x1ff, 0x0, 0x1ff, 0x0, 0x0⟩ -- 11 T11.7
  | .PMK_EVT_EN => ⟨.PMK, 0xc, 1, 4, 0, 0x0, 0x1ff, 0x1ff, 0x0, 0x0, 0x0⟩ -- 11 T11.7
  | .PMK_CTRL => ⟨.PMK, 0x10, 1, 4, 0, 0x0, 0x0, 0x0, 0x0, 0x0, 0x0⟩ -- 11 T11.7
  | .PMK_TIME_SET_S_HI => ⟨.PMK, 0x14, 1, 4, 0, 0x0, 0xffff, 0xffff, 0x0, 0x0, 0x0⟩ -- 11 T11.7
  | .PMK_TIME_SET_S_LO => ⟨.PMK, 0x18, 1, 4, 0, 0x0, 0xffffffff, 0xffffffff, 0x0, 0x0, 0x0⟩ -- 11 T11.7
  | .PMK_TIME_SET_NS => ⟨.PMK, 0x1c, 1, 4, 0, 0x0, 0x3fffffff, 0x3fffffff, 0x0, 0x0, 0x0⟩ -- 11 T11.7
  | .PMK_TIME_NS => ⟨.PMK, 0x20, 1, 4, 0, 0x0, 0x3fffffff, 0x0, 0x0, 0x0, 0x0⟩ -- 11 T11.7
  | .PMK_TIME_S_HI => ⟨.PMK, 0x24, 1, 4, 0, 0x0, 0xffff, 0x0, 0x0, 0x0, 0x0⟩ -- 11 T11.7
  | .PMK_TIME_S_LO => ⟨.PMK, 0x28, 1, 4, 0, 0x0, 0xffffffff, 0x0, 0x0, 0x0, 0x0⟩ -- 11 T11.7
  | .PMK_TIME_FRAC => ⟨.PMK, 0x2c, 1, 4, 0, 0x0, 0xffff, 0x0, 0x0, 0x0, 0x0⟩ -- 11 T11.7
  | .PMK_ADJ => ⟨.PMK, 0x30, 1, 4, 0, 0x0, 0xffffffff, 0xffffffff, 0x0, 0x0, 0x0⟩ -- 11 T11.7
  | .PMK_UTC => ⟨.PMK, 0x34, 1, 4, 0, 0x250000, 0xffff0003, 0xffff0003, 0x0, 0x0, 0x0⟩ -- 11 T11.7
  | .PMK_PPS_CFG => ⟨.PMK, 0x38, 1, 4, 0, 0x40640000, 0xc3ffffff, 0xc3ffffff, 0x0, 0x0, 0x0⟩ -- 11 T11.7
  | .PMK_TOD_CFG => ⟨.PMK, 0x3c, 1, 4, 0, 0x30000000, 0xbb000000, 0xbb000000, 0x0, 0x0, 0x0⟩ -- 11 T11.7
  | .PMK_TCH_CFG => ⟨.PMK, 0x40, 1, 4, 0, 0x0, 0x800fffff, 0x800fffff, 0x0, 0x0, 0x0⟩ -- 11 T11.7
  | .PMK_TCH_STATUS => ⟨.PMK, 0x44, 1, 4, 0, 0xf, 0xb000000f, 0x0, 0x0, 0x0, 0x0⟩ -- 11 T11.7
  | .PMK_TCH_CRC_CNT => ⟨.PMK, 0x48, 1, 4, 0, 0x0, 0xffffffff, 0x0, 0x0, 0x0, 0xffffffff⟩ -- 11 T11.7
  | .PMK_GNSS_ERR_CNT => ⟨.PMK, 0x4c, 1, 4, 0, 0x0, 0xffffffff, 0x0, 0x0, 0x0, 0xffffffff⟩ -- 11 T11.7
  | .PMK_PTP_RX_DROP => ⟨.PMK, 0x50, 1, 4, 0, 0x0, 0xffffffff, 0x0, 0x0, 0x0, 0xffffffff⟩ -- 11 T11.7
  | .PMK_PTP_TX_DROP => ⟨.PMK, 0x54, 1, 4, 0, 0x0, 0xffffffff, 0x0, 0x0, 0x0, 0xffffffff⟩ -- 11 T11.7
  | .PMK_PC_CFG => ⟨.PMK, 0x60, 1, 4, 0, 0xa0000, 0x80ff0001, 0x80ff0001, 0x0, 0x0, 0x0⟩ -- 11 T11.7
  | .PMK_PC_OFS => ⟨.PMK, 0x64, 1, 4, 0, 0x0, 0xffffffff, 0x0, 0x0, 0x0, 0x0⟩ -- 11 T11.7
  | .PMK_PC_TAG => ⟨.PMK, 0x68, 1, 4, 0, 0x0, 0xffffffff, 0x0, 0x0, 0x0, 0x0⟩ -- 11 T11.7
  | .PMK_TT_CFG => ⟨.PMKC, 0x0, 1, 4, 0, 0x40000000, 0xc0000000, 0xc0000000, 0x0, 0x0, 0x0⟩ -- 11 T11.8
  | .PMK_TX_FREQ => ⟨.PMKC, 0x4, 1, 4, 0, 0x0, 0xffffffff, 0xffffffff, 0x0, 0x0, 0x0⟩ -- 11 T11.8
  | .PMK_OPT_DLY_TX => ⟨.PMKC, 0x8, 1, 4, 0, 0x0, 0xfffff, 0xfffff, 0x0, 0x0, 0x0⟩ -- 11 T11.8
  | .PMK_OPT_DLY_RX => ⟨.PMKC, 0xc, 1, 4, 0, 0x0, 0xfffff, 0xfffff, 0x0, 0x0, 0x0⟩ -- 11 T11.8
  | .PMK_FIBRE_ASYM => ⟨.PMKC, 0x10, 1, 4, 0, 0x0, 0xffffffff, 0xffffffff, 0x0, 0x0, 0x0⟩ -- 11 T11.8
  | .PMK_TT_STATUS => ⟨.PMKC, 0x14, 1, 4, 0, 0x0, 0xef000000, 0x0, 0x0, 0x0, 0x0⟩ -- 11 T11.8
  | .PMK_TT_EVT => ⟨.PMKC, 0x18, 1, 4, 0, 0x0, 0xf, 0x0, 0xf, 0x0, 0x0⟩ -- 11 T11.8
  | .PMK_TT_EVT_EN => ⟨.PMKC, 0x1c, 1, 4, 0, 0x0, 0xf, 0xf, 0x0, 0x0, 0x0⟩ -- 11 T11.8
  | .PMK_TT_TAG => ⟨.PMKC, 0x20, 1, 4, 0, 0x0, 0xffffffff, 0x0, 0x0, 0x0, 0x0⟩ -- 11 T11.8
  | .PMK_TT_OFS_LO => ⟨.PMKC, 0x24, 1, 4, 0, 0x0, 0xffffffff, 0x0, 0x0, 0x0, 0x0⟩ -- 11 T11.8
  | .PMK_TT_OFS_HI => ⟨.PMKC, 0x28, 1, 4, 0, 0x0, 0xffffffff, 0x0, 0x0, 0x0, 0x0⟩ -- 11 T11.8
  | .PMK_TT_RTT => ⟨.PMKC, 0x2c, 1, 4, 0, 0x0, 0xffffffff, 0x0, 0x0, 0x0, 0x0⟩ -- 11 T11.8
  | .PMK_TT_ASYM => ⟨.PMKC, 0x30, 1, 4, 0, 0x0, 0xffffffff, 0x0, 0x0, 0x0, 0x0⟩ -- 11 T11.8
  | .PMK_TT_N => ⟨.PMKC, 0x34, 1, 4, 0, 0x0, 0xffffffff, 0x0, 0x0, 0x0, 0x0⟩ -- 11 T11.8
  | .PMK_TT_BAD_CNT => ⟨.PMKC, 0x38, 1, 4, 0, 0x0, 0xffffffff, 0x0, 0x0, 0x0, 0xffffffff⟩ -- 11 T11.8
  | .PMK_FAR_FREQ => ⟨.PMKC, 0x3c, 1, 4, 0, 0x0, 0xffffffff, 0x0, 0x0, 0x0, 0x0⟩ -- 11 T11.8
  | .PMK_FAR_CD => ⟨.PMKC, 0x40, 1, 4, 0, 0x0, 0xfffff, 0x0, 0x0, 0x0, 0x0⟩ -- 11 T11.8
  | .PMK_PTP_CFG => ⟨.PMKP, 0x0, 1, 4, 0, 0x0, 0x80000000, 0x80000000, 0x0, 0x0, 0x0⟩ -- 11 T11.9
  | .PMK_RX_DLY => ⟨.PMKP, 0x4, 1, 4, 0, 0x0, 0xffff, 0xffff, 0x0, 0x0, 0x0⟩ -- 11 T11.9
  | .PMK_TX_DLY => ⟨.PMKP, 0x8, 1, 4, 0, 0x0, 0xffff, 0xffff, 0x0, 0x0, 0x0⟩ -- 11 T11.9

/-- The registers of each page kind, in the order of their offsets. -/
def Page.regs : Page → List RegId
  | .DEV => [.DEV_ID, .DEV_STEPPING, .DEV_VARIANT, .DEV_LC, .DEV_LC_CMD, .DEV_LC_STATUS, .DEV_UID_LO, .DEV_UID_HI,
      .DEV_BOOT_STATUS, .DEV_CFG_APPLIED, .DEV_EVT, .DEV_EVT_EN, .DEV_DECODE_ERR, .DEV_DECODE_ADDR, .DEV_OPT,
      .DEV_IRQ_STATUS, .DEV_IRQ_EN, .DEV_CORE_IRQ_EN, .DEV_IRQ_DETAIL, .DEV_GROUP_MASK]
  | .PMU => [.PMU_CFG, .PMU_EVT, .PMU_EVT_EN, .PMU_WAKE_SRC, .PMU_PAD_HOLD, .PMU_ACCESS_ERR, .PMU_ACCESS_ERR_ADDR,
      .PMU_WAKE_MASK, .PMU_WAKE_TBL, .PMU_DOM]
  | .RST => [.RST_CAUSE, .RST_LAST, .RST_ACTIVE, .RST_MAP_LO, .RST_MAP_HI, .RST_SW_CMD, .RST_HOST_RST,
      .RST_IDLE_TO, .RST_EVT, .RST_EVT_EN, .RST_IDLE_LOG]
  | .AON => [.AON_CFG, .AON_SLOW_CNT, .AON_TIMER_CMP, .AON_TIMER_CTRL, .AON_SLOW_STATUS, .AON_EVT, .AON_EVT_EN]
  | .STB => [.STB_CFG, .STB_SEL_CMD, .STB_STATUS, .STB_EVT, .STB_EVT_EN, .STB_REF_SUM, .STB_STEER_LO,
      .STB_STEER_HI, .STB_STEER_SRV_LO, .STB_STEER_SRV_HI, .STB_STEER_MAN_LO, .STB_STEER_MAN_HI, .STB_STEER_CFG,
      .STB_MODEL_PRED, .STB_HO_BOUND, .STB_HO_CFG, .STB_MODEL_STATUS, .STB_PRUNE, .STB_ONSET, .STB_SWITCH_CNT,
      .STB_HO_SEC, .STB_FW_BEAT, .STB_TEMP_CFG, .STB_ESMC_TX, .STB_CLK_ID_HI, .STB_CLK_ID_LO]
  | .STBR => [.STB_REF_CFG, .STB_REF_QUAL, .STB_REF_LOS, .STB_REF_STATUS, .STB_REF_FOFS, .STB_REF_DRIFT,
      .STB_REF_WTR, .STB_REF_FW, .STB_REF_EVT, .STB_REF_EVT_EN, .STB_REF_DISQ_CNT, .STB_REF_LOS_CNT]
  | .CAX => [.CAX_TX_PROFILE, .CAX_TX_NEXT, .CAX_RX_PROFILE, .CAX_CHG_CTRL, .CAX_CHG_STATUS, .CAX_LINE_EVT,
      .CAX_LINE_EVT_EN, .CAX_TX_CTRL, .CAX_TX_STATUS, .CAX_TX_SHAPE, .CAX_TX_SWING, .CAX_TX_PRE_APPLY,
      .CAX_TX_SKEW, .CAX_TX_EVT, .CAX_TX_EVT_EN, .CAX_TX_ENTROPY, .CAX_TX_CLIP_CNT, .CAX_TX_SEG_ERR, .CAX_RX_CTRL,
      .CAX_RX_STATUS, .CAX_RX_SHAPE, .CAX_RX_LOS_CFG, .CAX_RX_CD_EST, .CAX_RX_FOFS, .CAX_RX_CLK_OFS, .CAX_RX_EVT,
      .CAX_RX_EVT_EN, .CAX_RX_ILV_STATUS, .CAX_RX_LOS_CNT, .CAX_RX_RELOCK_CNT, .CAX_RX_ACQ_CNT,
      .CAX_RX_ADC_CLIP_CNT, .CAX_TX_PRE]
  | .SCX => [.SCX_RX_CFG, .SCX_RX_STATUS, .SCX_RX_SNR, .SCX_RX_SOP, .SCX_RX_EVT, .SCX_RX_EVT_EN, .SCX_RX_SLIP_CNT,
      .SCX_RX_RECONV_CNT, .SCX_FEC_CFG, .SCX_FEC_STATUS, .SCX_FEC_EVT, .SCX_FEC_EVT_EN, .SCX_FEC_CTRL,
      .SCX_FEC_SEC_TAG, .SCX_FEC_SEC_BITS_LO, .SCX_FEC_SEC_BITS_HI, .SCX_FEC_SEC_CORR_LO, .SCX_FEC_SEC_CORR_HI,
      .SCX_FEC_SEC_CW, .SCX_FEC_SEC_UNC, .SCX_FEC_SEC_PEAK, .SCX_FEC_TOT_CW_LO, .SCX_FEC_TOT_CW_HI,
      .SCX_FEC_TOT_CORR_LO, .SCX_FEC_TOT_CORR_HI, .SCX_FEC_TOT_UNC_LO, .SCX_FEC_TOT_UNC_HI, .SCX_FEC_SEG_ERR]
  | .LFMS => [.LFM_SC_STATUS, .LFM_SC_EVT, .LFM_SC_EVT_EN, .LFM_SC_CFG, .LFM_OOF_CNT, .LFM_ALIAS_CNT, .LFM_SES_TH,
      .LFM_PM_TAG, .LFM_PM_NE_CORR_LO, .LFM_PM_NE_CORR_HI, .LFM_PM_NE_UNC, .LFM_PM_FE_CORR_LO, .LFM_PM_FE_CORR_HI,
      .LFM_PM_FE_UNC, .LFM_PM_FLAGS, .LFM_TOT_NE_ES, .LFM_TOT_NE_SES, .LFM_TOT_FE_ES, .LFM_TOT_FE_SES,
      .LFM_SLOT_MAP_TX, .LFM_SLOT_MAP_RX, .LFM_MSI_RX, .LFM_MAP_CTRL]
  | .LFMC => [.LFM_CA_CFG, .LFM_CA_STATUS, .LFM_CA_EVT, .LFM_CA_EVT_EN, .LFM_SR_TX, .LFM_SR_RX, .LFM_TTI_TX,
      .LFM_TTI_EXP, .LFM_TTI_ACC]
  | .LFMG => [.LFM_GRP_CFG, .LFM_GRP_STATUS, .LFM_GRP_SKEW, .LFM_GRP_EVT, .LFM_GRP_EVT_EN, .LFM_GRP_FAIL_CNT]
  | .SOFP => [.SOF_PORT_CFG, .SOF_PORT_STATUS, .SOF_PFC_CFG, .SOF_DEF_FLOW, .SOF_PORT_CTRL, .SOF_RX_OK_LO,
      .SOF_RX_OK_HI, .SOF_RX_FCS_LO, .SOF_RX_FCS_HI, .SOF_RX_RUNT_LO, .SOF_RX_RUNT_HI, .SOF_RX_OVERSIZE_LO,
      .SOF_RX_OVERSIZE_HI, .SOF_RX_UNCLASS_LO, .SOF_RX_UNCLASS_HI, .SOF_RX_PAUSE_LO, .SOF_RX_PAUSE_HI,
      .SOF_TX_OK_LO, .SOF_TX_OK_HI, .SOF_TX_PAUSE_LO, .SOF_TX_PAUSE_HI]
  | .SOF => [.SOF_PH_CMD, .SOF_PH_RESULT, .SOF_EVT, .SOF_EVT_EN, .SOF_SHED_POOL, .SOF_HAY_POOL, .SOF_POOL_STATUS,
      .SOF_QUOTA_SUM, .SOF_LINE_UNCLASS, .SOF_SHED_CE, .SOF_SHED_UE, .SOF_GRP_TXHOLD, .SOF_GRP_DELIN_CNT]
  | .SOFH => [.SOF_PH_W0, .SOF_PH_W1, .SOF_PH_W2, .SOF_PH_W3, .SOF_PH_W4, .SOF_PH_W5, .SOF_PH_W6, .SOF_PH_W7]
  | .SOFF => [.SOF_FP_W0, .SOF_FP_W1, .SOF_FP_W2, .SOF_FP_W3, .SOF_FP_W4, .SOF_FP_W5, .SOF_FP_W6, .SOF_FP_W7]
  | .SOFC => [.SOF_ACC_FRM_LO, .SOF_ACC_FRM_HI, .SOF_ACC_BYTE_LO, .SOF_ACC_BYTE_MID, .SOF_ACC_BYTE_HI,
      .SOF_OUT_FRM_LO, .SOF_OUT_FRM_HI, .SOF_OUT_BYTE_LO, .SOF_OUT_BYTE_MID, .SOF_OUT_BYTE_HI, .SOF_POL_DROP_LO,
      .SOF_POL_DROP_HI, .SOF_QUE_DROP_LO, .SOF_QUE_DROP_HI, .SOF_ERR_DROP_LO, .SOF_ERR_DROP_HI, .SOF_KEY_DROP_LO,
      .SOF_KEY_DROP_HI, .SOF_PATH_DROP_LO, .SOF_PATH_DROP_HI, .SOF_POISON_DROP_LO, .SOF_POISON_DROP_HI,
      .SOF_XOFF_CNT_LO, .SOF_XOFF_CNT_HI]
  | .HAY => [.HAY_CFG, .HAY_STATUS, .HAY_SCRUB_CFG, .HAY_SCRUB_STATUS, .HAY_EVT, .HAY_EVT_EN, .HAY_APERTURE_PAGE,
      .HAY_APT_STATUS, .HAY_CE_TOT_LO, .HAY_CE_TOT_HI, .HAY_UE_TOT, .HAY_ACC_TO_CNT, .HAY_RET_CMD, .HAY_RET_STATUS,
      .HAY_RET_DATA, .HAY_LEAK_PAGES, .HAY_LOG_STATUS, .HAY_CAP_CFG, .HAY_CAP_PTR, .HAY_CAP_SEQ, .HAY_CAP_DROP,
      .HAY_LOG_W0, .HAY_LOG_W1, .HAY_LOG_W2, .HAY_LOG_W3]
  | .CIP => [.CIP_CFG, .CIP_STATUS, .CIP_EVT, .CIP_EVT_EN, .CIP_KEY_CMD, .CIP_KEY_RESULT, .CIP_PN_WARN_FLOW,
      .CIP_KEY_DATA, .CIP_KEY_SALT, .CIP_NO_SC_CNT, .CIP_TIMEOUT_CNT, .CIP_ENT_FAIL_CNT]
  | .CIPF => [.CIP_CTX_CFG, .CIP_SCI_HI, .CIP_SCI_LO, .CIP_SSCI, .CIP_REPLAY_WIN, .CIP_TX_PN_LO, .CIP_TX_PN_HI,
      .CIP_ENC_FRM_LO, .CIP_ENC_FRM_HI, .CIP_AUTH_FAIL_LO, .CIP_AUTH_FAIL_HI, .CIP_REPLAY_DROP_LO,
      .CIP_REPLAY_DROP_HI, .CIP_NO_SA_DROP_LO, .CIP_NO_SA_DROP_HI]
  | .CIPR => [.CIP_RXC, .CIP_RXC_SCI_HI, .CIP_RXC_SCI_LO]
  | .CIPG => [.CIP_GCX_CFG, .CIP_SEAL_OK_LO, .CIP_SEAL_OK_HI, .CIP_SEAL_FAIL_LO, .CIP_SEAL_FAIL_HI, .CIP_SEAL_LOSS,
      .CIP_SEAL_REPLAY]
  | .HLN => [.HLN_LANE_CFG, .HLN_TX_EQ, .HLN_TX_EQ_ACT, .HLN_TRAIN_STATUS, .HLN_RX_STATUS, .HLN_PRBS_CFG,
      .HLN_PRBS_STATUS, .HLN_PRBS_BITS_LO, .HLN_PRBS_BITS_HI, .HLN_PRBS_ERR_LO, .HLN_PRBS_ERR_HI,
      .HLN_FEC_SYM_ERR_LO, .HLN_FEC_SYM_ERR_HI, .HLN_LANE_EVT, .HLN_LANE_EVT_EN, .HLN_LANE_CTRL]
  | .YLN => [.YLN_YARD_CFG, .YLN_ID_STATUS, .YLN_ID_EVT, .YLN_ID_EVT_EN, .YLN_IMG_FWD, .YLN_RMT_CMD, .YLN_RMT_ADDR,
      .YLN_RMT_DATA, .YLN_RMT_STATUS]
  | .YLL => [.YL_CFG, .YL_EQ, .YL_RX, .YL_STATUS, .YLN_UNC_CW, .YLN_BAD_BLK, .YLN_FILL_DEL_LO, .YLN_FILL_DEL_HI,
      .YL_PRBS_CFG, .YL_PRBS_STATUS, .YL_PRBS_BITS_LO, .YL_PRBS_BITS_HI, .YL_PRBS_ERR_LO, .YL_PRBS_ERR_HI,
      .YLN_FILL_INS_LO, .YLN_FILL_INS_HI]
  | .YLK => [.YLN_LINK_STATUS, .YLN_LINK_EVT, .YLN_LINK_EVT_EN, .YLN_LINK_CTRL, .YLN_FWD_TX, .YLN_FWD_RX]
  | .MON => [.MON_CFG, .MON_STATUS, .MON_EVT, .MON_EVT_EN, .MON_CTRL, .MON_TRIG_CFG, .MON_COMPAT_CFG, .MON_TIMER,
      .MON_TRIG_OVR_CNT, .MON_CHK_FAIL_CNT, .MON_LIM_STAT, .MON_SNAP, .MON_SNAP_SEC, .MON_SNAP_NS]
  | .MONP => [.MON_PAIR_CFG, .MON_NOTCH_LEN, .MON_SHIFT, .MON_PAIR_STATUS, .MON_LAST, .MON_TRIG_RES, .MON_TRIG_SEC,
      .MON_TRIG_NS, .MON_SEQ]
  | .MONC => [.MON_RESULT, .MON_RES_SEC, .MON_LIM, .MON_CH_CFG]
  | .MONB => [.MON_BIN_CFG, .MON_BIN_FREQ, .MON_BIN_MAG, .MON_BIN_PHASE, .MON_BIN_SEC, .MON_BIN_NS, .MON_BIN_MISS]
  | .PCC => [.PCC_CFG, .PCC_NODE_ID, .PCC_STATUS, .PCC_EVT, .PCC_EVT_EN, .PCC_RX_POP, .PCC_RX_HEAD, .PCC_RX_LEVEL,
      .PCC_RX_SEC, .PCC_RX_NS, .PCC_RX_DATA, .PCC_RX_OVR_CNT]
  | .PCCC => [.PCC_TX_CFG, .PCC_TX_AUTO, .PCC_TX_CMD, .PCC_TX_STATUS, .PCC_TX_DATA, .PCC_TX_SENT,
      .PCC_TX_ABORT_CNT, .PCC_TX_EXPIRED_CNT]
  | .PCCS => [.PCC_SLOT_CFG, .PCC_SLOT_STATUS, .PCC_DET_LVL, .PCC_LOCK_LVL, .PCC_PEER, .PCC_EXP_ID, .PCC_FAR_DEF,
      .PCC_SR_RX, .PCC_LAST_SEQ, .PCC_RX_OK, .PCC_CRC_FAIL, .PCC_FALSE_DET, .PCC_PREEMPT_CNT, .PCC_HDR_BAD,
      .PCC_DUP, .PCC_SEQ_GAP, .PCC_STALE]
  | .CAL => [.CAL_CFG, .CAL_STATUS, .CAL_EVT, .CAL_EVT_EN, .CAL_CMD, .CAL_RESULT, .CAL_VREF_VAL, .CAL_TEMP_REF,
      .CAL_TR_BANK, .CAL_TR_STATUS, .CAL_TR_CE, .CAL_TR_UE]
  | .CALC => [.CAL_DISCARD_CNT, .CAL_DAC_DISCARD_CNT, .CAL_PASS_CNT, .CAL_SLICE_SEL, .CAL_SLICE_OFS,
      .CAL_SLICE_GAIN, .CAL_SLICE_TAP, .CAL_LAST_STORE]
  | .BST => [.BST_CMD, .BST_RESULT, .BST_CAP, .BST_STATUS, .BST_EVT, .BST_EVT_EN, .BST_QUEUE_TO, .BST_RES]
  | .PMC => [.PMC_CFG, .PMC_EVT, .PMC_EVT_EN, .PMC_OVF, .PMC_DUMP_CFG, .PMC_DUMP_MASK, .PMC_DUMP_BASE,
      .PMC_DUMP_SIZE, .PMC_DUMP_PTR, .PMC_DUMP_SEQ, .PMC_DUMP_DROP, .PMC_DUMP_WRAP, .PMC_SAMPLE_SRC,
      .PMC_SAMPLE_PC, .PMC_SAMPLE_SEG, .PMC_CTR_CFG, .PMC_CTR_LO, .PMC_CTR_HI, .PMC_SNAP_LO, .PMC_SNAP_HI]
  | .PMCU => [.PMC_USER_LO, .PMC_USER_HI]
  | .PMCL => [.PMC_LOG_NEXT, .PMC_LOG_OVR, .PMC_LOG_DROP]
  | .SAF => [.SAF_FAULT_STATUS, .SAF_FAULT_EVT, .SAF_FAULT_EVT_EN, .SAF_FAULT_CAUSE, .SAF_CFG_ERR, .SAF_FO_PEND,
      .SAF_REACT, .SAF_FAULT_CNT]
  | .SAFT => [.SAF_WIN_CTRL, .SAF_WIN_STATUS, .SAF_EVT, .SAF_EVT_EN, .SAF_INJ_CFG, .SAF_INJ_ARG, .SAF_INJ_DUR]
  | .LB => [.LB_CMD, .LB_STATUS, .LB_ARG, .LB_RSP]
  | .CORE => [.CORE_MPU_BASE, .CORE_MPU_CFG, .CORE_MPU_FAULT, .CORE_MPU_FAULT_INFO, .CORE_WDT_CFG, .CORE_WDT_KICK,
      .CORE_WDT_LEFT]
  | .PMK => [.PMK_CFG, .PMK_STATUS, .PMK_EVT, .PMK_EVT_EN, .PMK_CTRL, .PMK_TIME_SET_S_HI, .PMK_TIME_SET_S_LO,
      .PMK_TIME_SET_NS, .PMK_TIME_NS, .PMK_TIME_S_HI, .PMK_TIME_S_LO, .PMK_TIME_FRAC, .PMK_ADJ, .PMK_UTC,
      .PMK_PPS_CFG, .PMK_TOD_CFG, .PMK_TCH_CFG, .PMK_TCH_STATUS, .PMK_TCH_CRC_CNT, .PMK_GNSS_ERR_CNT,
      .PMK_PTP_RX_DROP, .PMK_PTP_TX_DROP, .PMK_PC_CFG, .PMK_PC_OFS, .PMK_PC_TAG]
  | .PMKC => [.PMK_TT_CFG, .PMK_TX_FREQ, .PMK_OPT_DLY_TX, .PMK_OPT_DLY_RX, .PMK_FIBRE_ASYM, .PMK_TT_STATUS,
      .PMK_TT_EVT, .PMK_TT_EVT_EN, .PMK_TT_TAG, .PMK_TT_OFS_LO, .PMK_TT_OFS_HI, .PMK_TT_RTT, .PMK_TT_ASYM,
      .PMK_TT_N, .PMK_TT_BAD_CNT, .PMK_FAR_FREQ, .PMK_FAR_CD]
  | .PMKP => [.PMK_PTP_CFG, .PMK_RX_DLY, .PMK_TX_DLY]

/-- Every page kind, in address order. -/
def Page.all : List Page := [.DEV, .PMU, .RST, .AON, .STB, .STBR, .CAX, .SCX, .LFMS, .LFMC, .LFMG, .SOFP, .SOF, .SOFH, .SOFF, .SOFC, .HAY, .CIP, .CIPF, .CIPR, .CIPG, .HLN, .YLN, .YLL, .YLK, .MON, .MONP, .MONC, .MONB, .PCC, .PCCC, .PCCS, .CAL, .CALC, .BST, .PMC, .PMCU, .PMCL, .SAF, .SAFT, .LB, .CORE, .PMK, .PMKC, .PMKP]

end Sys2Proof.Machine
end

