-- ==== Sys2Proof/Machine/Fields.lean ====
section
/-! DEFINITION. The named bit fields of the registers, from the field maps of spec/: each is its register, the number
of its lowest bit and its width. The name is the register's name and the field's. -/

namespace Sys2Proof.Machine

/-- A field of a register: the register, its lowest bit, its width. -/
structure Fld where
  reg : RegId
  lo : Nat
  len : Nat
  deriving DecidableEq, Repr

-- DEV_ID: 18 T18.5
def F.DEV_ID_DEVICE : Fld := ⟨.DEV_ID, 16, 16⟩
def F.DEV_ID_VENDOR : Fld := ⟨.DEV_ID, 0, 16⟩
-- DEV_VARIANT: 00 T0.2
def F.DEV_VARIANT_PART : Fld := ⟨.DEV_VARIANT, 8, 8⟩
def F.DEV_VARIANT_SCREEN : Fld := ⟨.DEV_VARIANT, 0, 1⟩
-- DEV_LC: 15 T15.18
def F.DEV_LC_KEK0 : Fld := ⟨.DEV_LC, 9, 1⟩
def F.DEV_LC_KEYHASH : Fld := ⟨.DEV_LC, 8, 1⟩
def F.DEV_LC_STATE : Fld := ⟨.DEV_LC, 0, 3⟩
-- DEV_LC_CMD: 15 T15.18
def F.DEV_LC_CMD_KEY : Fld := ⟨.DEV_LC_CMD, 16, 16⟩
def F.DEV_LC_CMD_TARGET : Fld := ⟨.DEV_LC_CMD, 0, 3⟩
-- DEV_LC_STATUS: 15 T15.18
def F.DEV_LC_STATUS_CODE : Fld := ⟨.DEV_LC_STATUS, 0, 4⟩
-- DEV_BOOT_STATUS: 15 T15.18
def F.DEV_BOOT_STATUS_STAGE : Fld := ⟨.DEV_BOOT_STATUS, 28, 4⟩
def F.DEV_BOOT_STATUS_COPY : Fld := ⟨.DEV_BOOT_STATUS, 27, 1⟩
def F.DEV_BOOT_STATUS_OPT_SRC : Fld := ⟨.DEV_BOOT_STATUS, 25, 2⟩
def F.DEV_BOOT_STATUS_CODE_A : Fld := ⟨.DEV_BOOT_STATUS, 20, 4⟩
def F.DEV_BOOT_STATUS_CODE_B : Fld := ⟨.DEV_BOOT_STATUS, 16, 4⟩
def F.DEV_BOOT_STATUS_VERSION : Fld := ⟨.DEV_BOOT_STATUS, 0, 16⟩
-- DEV_EVT: 18 T18.5
def F.DEV_EVT_PRIV_ERR : Fld := ⟨.DEV_EVT, 2, 1⟩
def F.DEV_EVT_WIDTH_ERR : Fld := ⟨.DEV_EVT, 1, 1⟩
def F.DEV_EVT_DECODE_ERR : Fld := ⟨.DEV_EVT, 0, 1⟩
-- DEV_DECODE_ERR: 18 T18.5
def F.DEV_DECODE_ERR_VALID : Fld := ⟨.DEV_DECODE_ERR, 31, 1⟩
def F.DEV_DECODE_ERR_WRITE : Fld := ⟨.DEV_DECODE_ERR, 30, 1⟩
def F.DEV_DECODE_ERR_KIND : Fld := ⟨.DEV_DECODE_ERR, 28, 2⟩
def F.DEV_DECODE_ERR_MASTER : Fld := ⟨.DEV_DECODE_ERR, 24, 4⟩
def F.DEV_DECODE_ERR_CNT : Fld := ⟨.DEV_DECODE_ERR, 0, 16⟩
-- PMU_CFG: 15 T15.15
def F.PMU_CFG_CONV1_KEEP : Fld := ⟨.PMU_CFG, 17, 1⟩
def F.PMU_CFG_CONV0_KEEP : Fld := ⟨.PMU_CFG, 16, 1⟩
def F.PMU_CFG_HS_LIMIT : Fld := ⟨.PMU_CFG, 8, 8⟩
def F.PMU_CFG_WAKE_RETRY : Fld := ⟨.PMU_CFG, 0, 2⟩
-- PMU_EVT: 15 T15.15
def F.PMU_EVT_ACCESS_ERR : Fld := ⟨.PMU_EVT, 4, 1⟩
def F.PMU_EVT_WAKE_EXHAUSTED : Fld := ⟨.PMU_EVT, 3, 1⟩
def F.PMU_EVT_WAKE_FAIL : Fld := ⟨.PMU_EVT, 2, 1⟩
def F.PMU_EVT_HS_REFUSED : Fld := ⟨.PMU_EVT, 1, 1⟩
def F.PMU_EVT_WAKE_DONE : Fld := ⟨.PMU_EVT, 0, 1⟩
-- PMU_PAD_HOLD: 15 T15.15
def F.PMU_PAD_HOLD_MON : Fld := ⟨.PMU_PAD_HOLD, 2, 1⟩
def F.PMU_PAD_HOLD_TMG : Fld := ⟨.PMU_PAD_HOLD, 1, 1⟩
def F.PMU_PAD_HOLD_MGMT : Fld := ⟨.PMU_PAD_HOLD, 0, 1⟩
-- PMU_ACCESS_ERR: 15 T15.15
def F.PMU_ACCESS_ERR_VALID : Fld := ⟨.PMU_ACCESS_ERR, 31, 1⟩
def F.PMU_ACCESS_ERR_WRITE : Fld := ⟨.PMU_ACCESS_ERR, 30, 1⟩
def F.PMU_ACCESS_ERR_IN_RESET : Fld := ⟨.PMU_ACCESS_ERR, 29, 1⟩
def F.PMU_ACCESS_ERR_DOMAIN : Fld := ⟨.PMU_ACCESS_ERR, 24, 4⟩
def F.PMU_ACCESS_ERR_CNT : Fld := ⟨.PMU_ACCESS_ERR, 0, 16⟩
-- PMU_ACCESS_ERR_ADDR: 15 T15.15
def F.PMU_ACCESS_ERR_ADDR_ADDR : Fld := ⟨.PMU_ACCESS_ERR_ADDR, 0, 32⟩
-- PMU_WAKE_MASK: 15 T15.15
def F.PMU_WAKE_MASK_DOMAINS : Fld := ⟨.PMU_WAKE_MASK, 1, 13⟩
-- PMU_WAKE_TBL: 15 T15.15
def F.PMU_WAKE_TBL_DELAY : Fld := ⟨.PMU_WAKE_TBL, 16, 16⟩
def F.PMU_WAKE_TBL_TIMEOUT : Fld := ⟨.PMU_WAKE_TBL, 0, 16⟩
-- PMU_DOM: 15 T15.15
def F.PMU_DOM_WAKE_FAIL : Fld := ⟨.PMU_DOM, 31, 1⟩
def F.PMU_DOM_EXHAUSTED : Fld := ⟨.PMU_DOM, 30, 1⟩
def F.PMU_DOM_FAIL_STEP : Fld := ⟨.PMU_DOM, 27, 3⟩
def F.PMU_DOM_RESULT : Fld := ⟨.PMU_DOM, 24, 3⟩
def F.PMU_DOM_RETRY_LEFT : Fld := ⟨.PMU_DOM, 22, 2⟩
def F.PMU_DOM_PENDING_ON : Fld := ⟨.PMU_DOM, 8, 1⟩
def F.PMU_DOM_STATE : Fld := ⟨.PMU_DOM, 4, 3⟩
def F.PMU_DOM_REQ : Fld := ⟨.PMU_DOM, 0, 2⟩
-- RST_SW_CMD: 15 T15.16
def F.RST_SW_CMD_KIND : Fld := ⟨.RST_SW_CMD, 28, 4⟩
def F.RST_SW_CMD_HOLD : Fld := ⟨.RST_SW_CMD, 27, 1⟩
def F.RST_SW_CMD_DOMAIN : Fld := ⟨.RST_SW_CMD, 20, 4⟩
def F.RST_SW_CMD_PAGE : Fld := ⟨.RST_SW_CMD, 0, 20⟩
-- RST_HOST_RST: 15 T15.16
def F.RST_HOST_RST_GO : Fld := ⟨.RST_HOST_RST, 0, 1⟩
-- RST_EVT: 15 T15.16
def F.RST_EVT_SW_BUSY : Fld := ⟨.RST_EVT, 2, 1⟩
def F.RST_EVT_IDLE_TIMEOUT : Fld := ⟨.RST_EVT, 1, 1⟩
def F.RST_EVT_RESET_DONE : Fld := ⟨.RST_EVT, 0, 1⟩
-- RST_IDLE_LOG: 15 T15.16
def F.RST_IDLE_LOG_PAGE : Fld := ⟨.RST_IDLE_LOG, 12, 20⟩
def F.RST_IDLE_LOG_DOMAIN : Fld := ⟨.RST_IDLE_LOG, 0, 4⟩
-- AON_CFG: 15 T15.17
def F.AON_CFG_TWI_WAKE : Fld := ⟨.AON_CFG, 31, 1⟩
def F.AON_CFG_STRETCH : Fld := ⟨.AON_CFG, 30, 1⟩
def F.AON_CFG_TWI_ADDR : Fld := ⟨.AON_CFG, 0, 7⟩
-- AON_TIMER_CTRL: 15 T15.17
def F.AON_TIMER_CTRL_ARM : Fld := ⟨.AON_TIMER_CTRL, 0, 1⟩
-- AON_SLOW_STATUS: 15 T15.17
def F.AON_SLOW_STATUS_XTAL_OK : Fld := ⟨.AON_SLOW_STATUS, 31, 1⟩
def F.AON_SLOW_STATUS_SRC : Fld := ⟨.AON_SLOW_STATUS, 30, 1⟩
-- AON_EVT: 15 T15.17
def F.AON_EVT_TIMER : Fld := ⟨.AON_EVT, 2, 1⟩
def F.AON_EVT_XTAL_FAIL : Fld := ⟨.AON_EVT, 1, 1⟩
def F.AON_EVT_TWI_AON : Fld := ⟨.AON_EVT, 0, 1⟩
-- STB_CFG: 10 T10.10
def F.STB_CFG_MODE : Fld := ⟨.STB_CFG, 30, 2⟩
def F.STB_CFG_REVERTIVE : Fld := ⟨.STB_CFG, 29, 1⟩
def F.STB_CFG_QL_EN : Fld := ⟨.STB_CFG, 28, 1⟩
def F.STB_CFG_QL_OPT : Fld := ⟨.STB_CFG, 27, 1⟩
def F.STB_CFG_WTR : Fld := ⟨.STB_CFG, 20, 7⟩
def F.STB_CFG_HO_QL : Fld := ⟨.STB_CFG, 16, 4⟩
def F.STB_CFG_FREE_QL : Fld := ⟨.STB_CFG, 12, 4⟩
def F.STB_CFG_LIMIT_DNU : Fld := ⟨.STB_CFG, 11, 1⟩
-- STB_SEL_CMD: 10 T10.10
def F.STB_SEL_CMD_CMD : Fld := ⟨.STB_SEL_CMD, 30, 2⟩
def F.STB_SEL_CMD_IDX : Fld := ⟨.STB_SEL_CMD, 0, 4⟩
-- STB_STATUS: 10 T10.10
def F.STB_STATUS_STATE : Fld := ⟨.STB_STATUS, 29, 3⟩
def F.STB_STATUS_HOLDOFF : Fld := ⟨.STB_STATUS, 28, 1⟩
def F.STB_STATUS_BUILDOUT : Fld := ⟨.STB_STATUS, 27, 1⟩
def F.STB_STATUS_PRUNING : Fld := ⟨.STB_STATUS, 26, 1⟩
def F.STB_STATUS_CLAMPED : Fld := ⟨.STB_STATUS, 25, 1⟩
def F.STB_STATUS_FW_OK : Fld := ⟨.STB_STATUS, 24, 1⟩
def F.STB_STATUS_SEL : Fld := ⟨.STB_STATUS, 20, 4⟩
def F.STB_STATUS_OUT_QL : Fld := ⟨.STB_STATUS, 16, 4⟩
def F.STB_STATUS_AVAIL : Fld := ⟨.STB_STATUS, 0, 15⟩
-- STB_EVT: 10 T10.10
def F.STB_EVT_STEER_CLAMP : Fld := ⟨.STB_EVT, 12, 1⟩
def F.STB_EVT_FW_LOST : Fld := ⟨.STB_EVT, 11, 1⟩
def F.STB_EVT_MODEL_UNTRAINED : Fld := ⟨.STB_EVT, 10, 1⟩
def F.STB_EVT_MODEL_TRAINED : Fld := ⟨.STB_EVT, 9, 1⟩
def F.STB_EVT_PEER_CONFLICT : Fld := ⟨.STB_EVT, 8, 1⟩
def F.STB_EVT_PRUNE_DONE : Fld := ⟨.STB_EVT, 7, 1⟩
def F.STB_EVT_BUILDOUT_DONE : Fld := ⟨.STB_EVT, 6, 1⟩
def F.STB_EVT_SWITCH : Fld := ⟨.STB_EVT, 5, 1⟩
def F.STB_EVT_ENTER_HO_LIMIT : Fld := ⟨.STB_EVT, 4, 1⟩
def F.STB_EVT_ENTER_HOLDOVER : Fld := ⟨.STB_EVT, 3, 1⟩
def F.STB_EVT_ENTER_LOCKED : Fld := ⟨.STB_EVT, 2, 1⟩
def F.STB_EVT_ENTER_ACQUIRE : Fld := ⟨.STB_EVT, 1, 1⟩
def F.STB_EVT_ENTER_FREERUN : Fld := ⟨.STB_EVT, 0, 1⟩
-- STB_STEER_CFG: 10 T10.10
def F.STB_STEER_CFG_STEER_LIM : Fld := ⟨.STB_STEER_CFG, 8, 8⟩
def F.STB_STEER_CFG_SLEW : Fld := ⟨.STB_STEER_CFG, 0, 8⟩
-- STB_MODEL_PRED: 10 T10.10
def F.STB_MODEL_PRED_PRED : Fld := ⟨.STB_MODEL_PRED, 0, 32⟩
-- STB_HO_BOUND: 10 T10.10
def F.STB_HO_BOUND_BOUND : Fld := ⟨.STB_HO_BOUND, 0, 32⟩
-- STB_HO_CFG: 10 T10.10
def F.STB_HO_CFG_TE_LIMIT : Fld := ⟨.STB_HO_CFG, 16, 16⟩
def F.STB_HO_CFG_TRAIN_MIN : Fld := ⟨.STB_HO_CFG, 8, 8⟩
def F.STB_HO_CFG_FROZEN_LIM : Fld := ⟨.STB_HO_CFG, 0, 8⟩
-- STB_MODEL_STATUS: 10 T10.10
def F.STB_MODEL_STATUS_TRAINED : Fld := ⟨.STB_MODEL_STATUS, 31, 1⟩
def F.STB_MODEL_STATUS_EXT_TEMP_OK : Fld := ⟨.STB_MODEL_STATUS, 30, 1⟩
def F.STB_MODEL_STATUS_SAMPLES10 : Fld := ⟨.STB_MODEL_STATUS, 16, 11⟩
def F.STB_MODEL_STATUS_SAMPLES1 : Fld := ⟨.STB_MODEL_STATUS, 0, 12⟩
-- STB_PRUNE: 10 T10.10
def F.STB_PRUNE_PRUNED10 : Fld := ⟨.STB_PRUNE, 16, 16⟩
def F.STB_PRUNE_PRUNED1 : Fld := ⟨.STB_PRUNE, 0, 16⟩
-- STB_ONSET: 10 T10.10
def F.STB_ONSET_SEC : Fld := ⟨.STB_ONSET, 0, 32⟩
-- STB_TEMP_CFG: 10 T10.10
def F.STB_TEMP_CFG_EXT_EN : Fld := ⟨.STB_TEMP_CFG, 31, 1⟩
def F.STB_TEMP_CFG_CH : Fld := ⟨.STB_TEMP_CFG, 0, 5⟩
-- STB_REF_CFG: 10 T10.11
def F.STB_REF_CFG_EN : Fld := ⟨.STB_REF_CFG, 31, 1⟩
def F.STB_REF_CFG_BW : Fld := ⟨.STB_REF_CFG, 28, 3⟩
def F.STB_REF_CFG_PRIO : Fld := ⟨.STB_REF_CFG, 24, 4⟩
def F.STB_REF_CFG_QL_SRC : Fld := ⟨.STB_REF_CFG, 20, 4⟩
def F.STB_REF_CFG_QL_FIX : Fld := ⟨.STB_REF_CFG, 16, 4⟩
def F.STB_REF_CFG_HOLDOFF : Fld := ⟨.STB_REF_CFG, 11, 5⟩
def F.STB_REF_CFG_PORT : Fld := ⟨.STB_REF_CFG, 7, 4⟩
def F.STB_REF_CFG_EXT_KIND : Fld := ⟨.STB_REF_CFG, 4, 3⟩
-- STB_REF_QUAL: 10 T10.11
def F.STB_REF_QUAL_FREQ_LIM : Fld := ⟨.STB_REF_QUAL, 20, 12⟩
def F.STB_REF_QUAL_DRIFT_LIM : Fld := ⟨.STB_REF_QUAL, 10, 10⟩
def F.STB_REF_QUAL_PERSIST : Fld := ⟨.STB_REF_QUAL, 0, 10⟩
-- STB_REF_LOS: 10 T10.11
def F.STB_REF_LOS_LOS_PPM : Fld := ⟨.STB_REF_LOS, 24, 8⟩
def F.STB_REF_LOS_PPS_WIN : Fld := ⟨.STB_REF_LOS, 16, 8⟩
def F.STB_REF_LOS_PC_SENDER : Fld := ⟨.STB_REF_LOS, 0, 16⟩
-- STB_REF_STATUS: 10 T10.11
def F.STB_REF_STATUS_PRESENT : Fld := ⟨.STB_REF_STATUS, 31, 1⟩
def F.STB_REF_STATUS_AVAIL : Fld := ⟨.STB_REF_STATUS, 30, 1⟩
def F.STB_REF_STATUS_DISQ : Fld := ⟨.STB_REF_STATUS, 29, 1⟩
def F.STB_REF_STATUS_WTR : Fld := ⟨.STB_REF_STATUS, 28, 1⟩
def F.STB_REF_STATUS_PREWARN : Fld := ⟨.STB_REF_STATUS, 27, 1⟩
def F.STB_REF_STATUS_QL : Fld := ⟨.STB_REF_STATUS, 20, 4⟩
-- STB_REF_FW: 10 T10.11
def F.STB_REF_FW_PRESENT : Fld := ⟨.STB_REF_FW, 31, 1⟩
def F.STB_REF_FW_QL : Fld := ⟨.STB_REF_FW, 0, 4⟩
-- STB_REF_EVT: 10 T10.11
def F.STB_REF_EVT_DESELECTED : Fld := ⟨.STB_REF_EVT, 9, 1⟩
def F.STB_REF_EVT_SELECTED : Fld := ⟨.STB_REF_EVT, 8, 1⟩
def F.STB_REF_EVT_QL_BAD : Fld := ⟨.STB_REF_EVT, 7, 1⟩
def F.STB_REF_EVT_QL_TIMEOUT : Fld := ⟨.STB_REF_EVT, 6, 1⟩
def F.STB_REF_EVT_DISQ : Fld := ⟨.STB_REF_EVT, 5, 1⟩
def F.STB_REF_EVT_PREWARN : Fld := ⟨.STB_REF_EVT, 4, 1⟩
def F.STB_REF_EVT_QL_CHANGE : Fld := ⟨.STB_REF_EVT, 3, 1⟩
def F.STB_REF_EVT_AVAIL : Fld := ⟨.STB_REF_EVT, 2, 1⟩
def F.STB_REF_EVT_PRESENT : Fld := ⟨.STB_REF_EVT, 1, 1⟩
def F.STB_REF_EVT_LOST : Fld := ⟨.STB_REF_EVT, 0, 1⟩
-- CAX_TX_PROFILE: 02 T2.8
def F.CAX_TX_PROFILE_MODE : Fld := ⟨.CAX_TX_PROFILE, 28, 3⟩
def F.CAX_TX_PROFILE_RATE : Fld := ⟨.CAX_TX_PROFILE, 16, 12⟩
def F.CAX_TX_PROFILE_SLOTS : Fld := ⟨.CAX_TX_PROFILE, 12, 4⟩
def F.CAX_TX_PROFILE_EXPRESS : Fld := ⟨.CAX_TX_PROFILE, 0, 8⟩
-- CAX_TX_NEXT: 02 T2.8
def F.CAX_TX_NEXT_MODE : Fld := ⟨.CAX_TX_NEXT, 28, 3⟩
def F.CAX_TX_NEXT_RATE : Fld := ⟨.CAX_TX_NEXT, 16, 12⟩
def F.CAX_TX_NEXT_SLOTS : Fld := ⟨.CAX_TX_NEXT, 12, 4⟩
def F.CAX_TX_NEXT_EXPRESS : Fld := ⟨.CAX_TX_NEXT, 0, 8⟩
-- CAX_RX_PROFILE: 02 T2.8
def F.CAX_RX_PROFILE_MODE : Fld := ⟨.CAX_RX_PROFILE, 28, 3⟩
def F.CAX_RX_PROFILE_RATE : Fld := ⟨.CAX_RX_PROFILE, 16, 12⟩
def F.CAX_RX_PROFILE_SLOTS : Fld := ⟨.CAX_RX_PROFILE, 12, 4⟩
def F.CAX_RX_PROFILE_EXPRESS : Fld := ⟨.CAX_RX_PROFILE, 0, 8⟩
-- CAX_CHG_CTRL: 02 T2.10
def F.CAX_CHG_CTRL_FOLLOW : Fld := ⟨.CAX_CHG_CTRL, 8, 1⟩
def F.CAX_CHG_CTRL_CANCEL : Fld := ⟨.CAX_CHG_CTRL, 1, 1⟩
def F.CAX_CHG_CTRL_GO : Fld := ⟨.CAX_CHG_CTRL, 0, 1⟩
-- CAX_CHG_STATUS: 02 T2.11
def F.CAX_CHG_STATUS_REFUSE : Fld := ⟨.CAX_CHG_STATUS, 16, 4⟩
def F.CAX_CHG_STATUS_COUNT : Fld := ⟨.CAX_CHG_STATUS, 8, 8⟩
def F.CAX_CHG_STATUS_EXP_CD_OUT : Fld := ⟨.CAX_CHG_STATUS, 4, 1⟩
def F.CAX_CHG_STATUS_STATE : Fld := ⟨.CAX_CHG_STATUS, 0, 2⟩
-- CAX_LINE_EVT: 02 T2.13
def F.CAX_LINE_EVT_HOLD_TIMEOUT : Fld := ⟨.CAX_LINE_EVT, 6, 1⟩
def F.CAX_LINE_EVT_EXP_CD_RANGE : Fld := ⟨.CAX_LINE_EVT, 5, 1⟩
def F.CAX_LINE_EVT_PROFILE_MISMATCH : Fld := ⟨.CAX_LINE_EVT, 4, 1⟩
def F.CAX_LINE_EVT_RX_FOLLOWED : Fld := ⟨.CAX_LINE_EVT, 3, 1⟩
def F.CAX_LINE_EVT_CHG_CANCELLED : Fld := ⟨.CAX_LINE_EVT, 2, 1⟩
def F.CAX_LINE_EVT_CHG_REFUSED : Fld := ⟨.CAX_LINE_EVT, 1, 1⟩
def F.CAX_LINE_EVT_CHG_DONE : Fld := ⟨.CAX_LINE_EVT, 0, 1⟩
-- CAX_TX_CTRL: 03 T3.8
def F.CAX_TX_CTRL_SETTLE : Fld := ⟨.CAX_TX_CTRL, 16, 8⟩
def F.CAX_TX_CTRL_SQUELCH_LASER : Fld := ⟨.CAX_TX_CTRL, 2, 1⟩
def F.CAX_TX_CTRL_MUTE : Fld := ⟨.CAX_TX_CTRL, 1, 1⟩
def F.CAX_TX_CTRL_LASER_ON : Fld := ⟨.CAX_TX_CTRL, 0, 1⟩
-- CAX_TX_STATUS: 03 T3.9
def F.CAX_TX_STATUS_CFG : Fld := ⟨.CAX_TX_STATUS, 15, 1⟩
def F.CAX_TX_STATUS_PWR : Fld := ⟨.CAX_TX_STATUS, 14, 1⟩
def F.CAX_TX_STATUS_TEST : Fld := ⟨.CAX_TX_STATUS, 13, 1⟩
def F.CAX_TX_STATUS_SW_OFF : Fld := ⟨.CAX_TX_STATUS, 12, 1⟩
def F.CAX_TX_STATUS_CLK : Fld := ⟨.CAX_TX_STATUS, 11, 1⟩
def F.CAX_TX_STATUS_LFM : Fld := ⟨.CAX_TX_STATUS, 10, 1⟩
def F.CAX_TX_STATUS_RECONF : Fld := ⟨.CAX_TX_STATUS, 9, 1⟩
def F.CAX_TX_STATUS_SW_MUTE : Fld := ⟨.CAX_TX_STATUS, 8, 1⟩
def F.CAX_TX_STATUS_TXSTATE : Fld := ⟨.CAX_TX_STATUS, 0, 3⟩
-- CAX_TX_SHAPE: 03 T3.3
def F.CAX_TX_SHAPE_ROLLOFF_ACT : Fld := ⟨.CAX_TX_SHAPE, 24, 4⟩
def F.CAX_TX_SHAPE_PENDING : Fld := ⟨.CAX_TX_SHAPE, 16, 1⟩
def F.CAX_TX_SHAPE_BOOST : Fld := ⟨.CAX_TX_SHAPE, 12, 3⟩
def F.CAX_TX_SHAPE_LANE_POL : Fld := ⟨.CAX_TX_SHAPE, 8, 4⟩
def F.CAX_TX_SHAPE_XY_SWAP : Fld := ⟨.CAX_TX_SHAPE, 5, 1⟩
def F.CAX_TX_SHAPE_SPEC_INV : Fld := ⟨.CAX_TX_SHAPE, 4, 1⟩
def F.CAX_TX_SHAPE_ROLLOFF : Fld := ⟨.CAX_TX_SHAPE, 0, 4⟩
-- CAX_TX_SWING: 03 T3.5
def F.CAX_TX_SWING_SW_YQ : Fld := ⟨.CAX_TX_SWING, 24, 6⟩
def F.CAX_TX_SWING_SW_YI : Fld := ⟨.CAX_TX_SWING, 16, 6⟩
def F.CAX_TX_SWING_SW_XQ : Fld := ⟨.CAX_TX_SWING, 8, 6⟩
def F.CAX_TX_SWING_SW_XI : Fld := ⟨.CAX_TX_SWING, 0, 6⟩
-- CAX_TX_PRE_APPLY: 03 R60
def F.CAX_TX_PRE_APPLY_APPLY : Fld := ⟨.CAX_TX_PRE_APPLY, 0, 1⟩
def F.CAX_TX_PRE_APPLY_PENDING : Fld := ⟨.CAX_TX_PRE_APPLY, 1, 1⟩
-- CAX_TX_SKEW: 03 T3.4
def F.CAX_TX_SKEW_RAMPING : Fld := ⟨.CAX_TX_SKEW, 31, 1⟩
def F.CAX_TX_SKEW_CLAMPED : Fld := ⟨.CAX_TX_SKEW, 30, 1⟩
def F.CAX_TX_SKEW_CAL_TERM : Fld := ⟨.CAX_TX_SKEW, 16, 10⟩
def F.CAX_TX_SKEW_BOARD : Fld := ⟨.CAX_TX_SKEW, 0, 10⟩
-- CAX_TX_EVT: 03 T3.10
def F.CAX_TX_EVT_SKEW_CLAMP : Fld := ⟨.CAX_TX_EVT, 6, 1⟩
def F.CAX_TX_EVT_SEG_ERR : Fld := ⟨.CAX_TX_EVT, 5, 1⟩
def F.CAX_TX_EVT_CLIP : Fld := ⟨.CAX_TX_EVT, 4, 1⟩
def F.CAX_TX_EVT_CLK_FAULT : Fld := ⟨.CAX_TX_EVT, 3, 1⟩
def F.CAX_TX_EVT_SERVICE_ENTERED : Fld := ⟨.CAX_TX_EVT, 2, 1⟩
def F.CAX_TX_EVT_MUTED : Fld := ⟨.CAX_TX_EVT, 1, 1⟩
def F.CAX_TX_EVT_DARKENED : Fld := ⟨.CAX_TX_EVT, 0, 1⟩
-- CAX_TX_ENTROPY: 03 T3.2
def F.CAX_TX_ENTROPY_CONST : Fld := ⟨.CAX_TX_ENTROPY, 28, 2⟩
def F.CAX_TX_ENTROPY_K : Fld := ⟨.CAX_TX_ENTROPY, 0, 13⟩
-- CAX_RX_CTRL: 04 T4.13
def F.CAX_RX_CTRL_STATE_AGE : Fld := ⟨.CAX_RX_CTRL, 8, 8⟩
def F.CAX_RX_CTRL_ACQ_RESTART : Fld := ⟨.CAX_RX_CTRL, 2, 1⟩
def F.CAX_RX_CTRL_RELOCK_EN : Fld := ⟨.CAX_RX_CTRL, 1, 1⟩
def F.CAX_RX_CTRL_RX_EN : Fld := ⟨.CAX_RX_CTRL, 0, 1⟩
-- CAX_RX_STATUS: 04 T4.14
def F.CAX_RX_STATUS_SC_LOCKED : Fld := ⟨.CAX_RX_STATUS, 16, 8⟩
def F.CAX_RX_STATUS_CFG : Fld := ⟨.CAX_RX_STATUS, 15, 1⟩
def F.CAX_RX_STATUS_ORIENT : Fld := ⟨.CAX_RX_STATUS, 14, 1⟩
def F.CAX_RX_STATUS_SIG : Fld := ⟨.CAX_RX_STATUS, 13, 1⟩
def F.CAX_RX_STATUS_STORE_VALID : Fld := ⟨.CAX_RX_STATUS, 12, 1⟩
def F.CAX_RX_STATUS_FOFS_LOCK : Fld := ⟨.CAX_RX_STATUS, 11, 1⟩
def F.CAX_RX_STATUS_CLK_LOCK : Fld := ⟨.CAX_RX_STATUS, 10, 1⟩
def F.CAX_RX_STATUS_ACQ_STEP : Fld := ⟨.CAX_RX_STATUS, 4, 4⟩
def F.CAX_RX_STATUS_RXSTATE : Fld := ⟨.CAX_RX_STATUS, 0, 3⟩
-- CAX_RX_SHAPE: 04 T4.3
def F.CAX_RX_SHAPE_ROLLOFF_ACT : Fld := ⟨.CAX_RX_SHAPE, 24, 4⟩
def F.CAX_RX_SHAPE_BOOST_MEAS : Fld := ⟨.CAX_RX_SHAPE, 20, 3⟩
def F.CAX_RX_SHAPE_BOOST : Fld := ⟨.CAX_RX_SHAPE, 12, 3⟩
def F.CAX_RX_SHAPE_SPEC_INV : Fld := ⟨.CAX_RX_SHAPE, 4, 1⟩
def F.CAX_RX_SHAPE_ROLLOFF : Fld := ⟨.CAX_RX_SHAPE, 0, 4⟩
-- CAX_RX_LOS_CFG: 04 T4.12
def F.CAX_RX_LOS_CFG_RMS : Fld := ⟨.CAX_RX_LOS_CFG, 16, 8⟩
def F.CAX_RX_LOS_CFG_LOS_HYST : Fld := ⟨.CAX_RX_LOS_CFG, 8, 8⟩
def F.CAX_RX_LOS_CFG_LOS_TH : Fld := ⟨.CAX_RX_LOS_CFG, 0, 8⟩
-- CAX_RX_CD_EST: 04 T4.4
def F.CAX_RX_CD_EST_CD_VALID : Fld := ⟨.CAX_RX_CD_EST, 31, 1⟩
def F.CAX_RX_CD_EST_CD_FINE : Fld := ⟨.CAX_RX_CD_EST, 30, 1⟩
def F.CAX_RX_CD_EST_EXP_STEP : Fld := ⟨.CAX_RX_CD_EST, 27, 3⟩
def F.CAX_RX_CD_EST_CD : Fld := ⟨.CAX_RX_CD_EST, 0, 20⟩
-- CAX_RX_FOFS: 04 R84
def F.CAX_RX_FOFS_OFS : Fld := ⟨.CAX_RX_FOFS, 0, 16⟩
def F.CAX_RX_FOFS_FOFS_VALID : Fld := ⟨.CAX_RX_FOFS, 31, 1⟩
-- CAX_RX_EVT: 04 T4.15
def F.CAX_RX_EVT_LOS_CLEAR : Fld := ⟨.CAX_RX_EVT, 15, 1⟩
def F.CAX_RX_EVT_ACQ_COMPLETE : Fld := ⟨.CAX_RX_EVT, 14, 1⟩
def F.CAX_RX_EVT_ADC_CLK_FAULT : Fld := ⟨.CAX_RX_EVT, 13, 1⟩
def F.CAX_RX_EVT_ILV_EXHAUSTED : Fld := ⟨.CAX_RX_EVT, 12, 1⟩
def F.CAX_RX_EVT_ILV_SPARE_USED : Fld := ⟨.CAX_RX_EVT, 11, 1⟩
def F.CAX_RX_EVT_ADC_CLIP : Fld := ⟨.CAX_RX_EVT, 10, 1⟩
def F.CAX_RX_EVT_BOOST_MISMATCH : Fld := ⟨.CAX_RX_EVT, 9, 1⟩
def F.CAX_RX_EVT_ORIENT : Fld := ⟨.CAX_RX_EVT, 8, 1⟩
def F.CAX_RX_EVT_FOFS_RANGE : Fld := ⟨.CAX_RX_EVT, 7, 1⟩
def F.CAX_RX_EVT_CD_RANGE : Fld := ⟨.CAX_RX_EVT, 6, 1⟩
def F.CAX_RX_EVT_CLK_LOL : Fld := ⟨.CAX_RX_EVT, 5, 1⟩
def F.CAX_RX_EVT_ACQ_TIMEOUT : Fld := ⟨.CAX_RX_EVT, 4, 1⟩
def F.CAX_RX_EVT_RELOCK_FAIL : Fld := ⟨.CAX_RX_EVT, 3, 1⟩
def F.CAX_RX_EVT_RELOCK_OK : Fld := ⟨.CAX_RX_EVT, 2, 1⟩
def F.CAX_RX_EVT_LOS : Fld := ⟨.CAX_RX_EVT, 1, 1⟩
def F.CAX_RX_EVT_LOCKED : Fld := ⟨.CAX_RX_EVT, 0, 1⟩
-- CAX_RX_ILV_STATUS: 04 T4.2
def F.CAX_RX_ILV_STATUS_SWAP_CNT : Fld := ⟨.CAX_RX_ILV_STATUS, 16, 16⟩
def F.CAX_RX_ILV_STATUS_SPARES_FREE : Fld := ⟨.CAX_RX_ILV_STATUS, 8, 2⟩
def F.CAX_RX_ILV_STATUS_SLICE : Fld := ⟨.CAX_RX_ILV_STATUS, 0, 7⟩
-- SCX_RX_CFG: 04 T4.6
def F.SCX_RX_CFG_DEG_TH : Fld := ⟨.SCX_RX_CFG, 16, 8⟩
def F.SCX_RX_CFG_MU : Fld := ⟨.SCX_RX_CFG, 8, 3⟩
def F.SCX_RX_CFG_TAPS : Fld := ⟨.SCX_RX_CFG, 0, 5⟩
-- SCX_RX_STATUS: 04 T4.16
def F.SCX_RX_STATUS_EXPRESS : Fld := ⟨.SCX_RX_STATUS, 9, 1⟩
def F.SCX_RX_STATUS_DEG : Fld := ⟨.SCX_RX_STATUS, 8, 1⟩
def F.SCX_RX_STATUS_SCSTATE : Fld := ⟨.SCX_RX_STATUS, 0, 3⟩
-- SCX_RX_SNR: 04 R86
def F.SCX_RX_SNR_SNR : Fld := ⟨.SCX_RX_SNR, 0, 12⟩
def F.SCX_RX_SNR_SNR_MIN : Fld := ⟨.SCX_RX_SNR, 16, 12⟩
-- SCX_RX_SOP: 04 R86
def F.SCX_RX_SOP_SOP_MAX : Fld := ⟨.SCX_RX_SOP, 0, 16⟩
def F.SCX_RX_SOP_DGD : Fld := ⟨.SCX_RX_SOP, 16, 16⟩
-- SCX_RX_EVT: 04 T4.17
def F.SCX_RX_EVT_EXP_OUT : Fld := ⟨.SCX_RX_EVT, 6, 1⟩
def F.SCX_RX_EVT_SOP_TRANSIENT : Fld := ⟨.SCX_RX_EVT, 5, 1⟩
def F.SCX_RX_EVT_SLIP : Fld := ⟨.SCX_RX_EVT, 4, 1⟩
def F.SCX_RX_EVT_DEG_CLEAR : Fld := ⟨.SCX_RX_EVT, 3, 1⟩
def F.SCX_RX_EVT_DEG_SET : Fld := ⟨.SCX_RX_EVT, 2, 1⟩
def F.SCX_RX_EVT_LOST : Fld := ⟨.SCX_RX_EVT, 1, 1⟩
def F.SCX_RX_EVT_LOCKED : Fld := ⟨.SCX_RX_EVT, 0, 1⟩
-- SCX_FEC_CFG: 05 T5.4
def F.SCX_FEC_CFG_DEG_PCT : Fld := ⟨.SCX_FEC_CFG, 16, 8⟩
def F.SCX_FEC_CFG_EXP_ITER_MAX : Fld := ⟨.SCX_FEC_CFG, 8, 4⟩
def F.SCX_FEC_CFG_BULK_ITER_MAX : Fld := ⟨.SCX_FEC_CFG, 4, 4⟩
def F.SCX_FEC_CFG_EARLY_STOP : Fld := ⟨.SCX_FEC_CFG, 0, 1⟩
-- SCX_FEC_STATUS: 05 T5.5
def F.SCX_FEC_STATUS_MEAN_ITER : Fld := ⟨.SCX_FEC_STATUS, 8, 8⟩
def F.SCX_FEC_STATUS_XOVER : Fld := ⟨.SCX_FEC_STATUS, 3, 1⟩
def F.SCX_FEC_STATUS_UNC_DEFECT : Fld := ⟨.SCX_FEC_STATUS, 2, 1⟩
def F.SCX_FEC_STATUS_PREFEC_DEG : Fld := ⟨.SCX_FEC_STATUS, 1, 1⟩
def F.SCX_FEC_STATUS_CODE : Fld := ⟨.SCX_FEC_STATUS, 0, 1⟩
-- SCX_FEC_EVT: 05 T5.6
def F.SCX_FEC_EVT_SEG_ERR : Fld := ⟨.SCX_FEC_EVT, 5, 1⟩
def F.SCX_FEC_EVT_PREFEC_DEG_CLEAR : Fld := ⟨.SCX_FEC_EVT, 4, 1⟩
def F.SCX_FEC_EVT_PREFEC_DEG_SET : Fld := ⟨.SCX_FEC_EVT, 3, 1⟩
def F.SCX_FEC_EVT_UNC_DEFECT_CLEAR : Fld := ⟨.SCX_FEC_EVT, 2, 1⟩
def F.SCX_FEC_EVT_UNC_DEFECT_SET : Fld := ⟨.SCX_FEC_EVT, 1, 1⟩
def F.SCX_FEC_EVT_UNC : Fld := ⟨.SCX_FEC_EVT, 0, 1⟩
-- SCX_FEC_CTRL: 05 T5.7
def F.SCX_FEC_CTRL_TOT_CLR : Fld := ⟨.SCX_FEC_CTRL, 0, 1⟩
-- LFM_SC_STATUS: 06 T6.18
def F.LFM_SC_STATUS_FN : Fld := ⟨.LFM_SC_STATUS, 16, 8⟩
def F.LFM_SC_STATUS_JC_LOCK : Fld := ⟨.LFM_SC_STATUS, 12, 1⟩
def F.LFM_SC_STATUS_HYP : Fld := ⟨.LFM_SC_STATUS, 8, 4⟩
def F.LFM_SC_STATUS_SF : Fld := ⟨.LFM_SC_STATUS, 7, 1⟩
def F.LFM_SC_STATUS_SCID_MIS : Fld := ⟨.LFM_SC_STATUS, 6, 1⟩
def F.LFM_SC_STATUS_OOM : Fld := ⟨.LFM_SC_STATUS, 5, 1⟩
def F.LFM_SC_STATUS_LOF : Fld := ⟨.LFM_SC_STATUS, 4, 1⟩
def F.LFM_SC_STATUS_OOF : Fld := ⟨.LFM_SC_STATUS, 3, 1⟩
def F.LFM_SC_STATUS_FSTATE : Fld := ⟨.LFM_SC_STATUS, 0, 3⟩
-- LFM_SC_EVT: 06 T6.19
def F.LFM_SC_EVT_DESC_BAD : Fld := ⟨.LFM_SC_EVT, 10, 1⟩
def F.LFM_SC_EVT_FE_GAP : Fld := ⟨.LFM_SC_EVT, 9, 1⟩
def F.LFM_SC_EVT_MSIM : Fld := ⟨.LFM_SC_EVT, 8, 1⟩
def F.LFM_SC_EVT_SF_CLR : Fld := ⟨.LFM_SC_EVT, 7, 1⟩
def F.LFM_SC_EVT_SF_SET : Fld := ⟨.LFM_SC_EVT, 6, 1⟩
def F.LFM_SC_EVT_ALIAS : Fld := ⟨.LFM_SC_EVT, 5, 1⟩
def F.LFM_SC_EVT_OOM : Fld := ⟨.LFM_SC_EVT, 4, 1⟩
def F.LFM_SC_EVT_LOF_CLR : Fld := ⟨.LFM_SC_EVT, 3, 1⟩
def F.LFM_SC_EVT_LOF_SET : Fld := ⟨.LFM_SC_EVT, 2, 1⟩
def F.LFM_SC_EVT_OOF : Fld := ⟨.LFM_SC_EVT, 1, 1⟩
def F.LFM_SC_EVT_IM_ENTER : Fld := ⟨.LFM_SC_EVT, 0, 1⟩
-- LFM_SC_CFG: 06 T6.17
def F.LFM_SC_CFG_TOT_CLR : Fld := ⟨.LFM_SC_CFG, 1, 1⟩
def F.LFM_SC_CFG_MCC_EN : Fld := ⟨.LFM_SC_CFG, 0, 1⟩
-- LFM_SLOT_MAP_TX: 06 T6.20
def F.LFM_SLOT_MAP_TX_VALID : Fld := ⟨.LFM_SLOT_MAP_TX, 31, 1⟩
def F.LFM_SLOT_MAP_TX_ENC : Fld := ⟨.LFM_SLOT_MAP_TX, 30, 1⟩
def F.LFM_SLOT_MAP_TX_HOME : Fld := ⟨.LFM_SLOT_MAP_TX, 28, 2⟩
def F.LFM_SLOT_MAP_TX_GID : Fld := ⟨.LFM_SLOT_MAP_TX, 16, 12⟩
def F.LFM_SLOT_MAP_TX_MSN : Fld := ⟨.LFM_SLOT_MAP_TX, 0, 8⟩
-- LFM_SLOT_MAP_RX: 06 T6.20
def F.LFM_SLOT_MAP_RX_VALID : Fld := ⟨.LFM_SLOT_MAP_RX, 31, 1⟩
def F.LFM_SLOT_MAP_RX_ENC : Fld := ⟨.LFM_SLOT_MAP_RX, 30, 1⟩
def F.LFM_SLOT_MAP_RX_HOME : Fld := ⟨.LFM_SLOT_MAP_RX, 28, 2⟩
def F.LFM_SLOT_MAP_RX_GID : Fld := ⟨.LFM_SLOT_MAP_RX, 16, 12⟩
def F.LFM_SLOT_MAP_RX_MSN : Fld := ⟨.LFM_SLOT_MAP_RX, 0, 8⟩
-- LFM_MSI_RX: 06 R148
def F.LFM_MSI_RX_MSN : Fld := ⟨.LFM_MSI_RX, 0, 8⟩
def F.LFM_MSI_RX_GID : Fld := ⟨.LFM_MSI_RX, 16, 12⟩
def F.LFM_MSI_RX_ENC : Fld := ⟨.LFM_MSI_RX, 30, 1⟩
def F.LFM_MSI_RX_VALID : Fld := ⟨.LFM_MSI_RX, 31, 1⟩
-- LFM_MAP_CTRL: 06 T6.21
def F.LFM_MAP_CTRL_REFUSED : Fld := ⟨.LFM_MAP_CTRL, 16, 1⟩
def F.LFM_MAP_CTRL_PEND_RX : Fld := ⟨.LFM_MAP_CTRL, 9, 1⟩
def F.LFM_MAP_CTRL_PEND_TX : Fld := ⟨.LFM_MAP_CTRL, 8, 1⟩
def F.LFM_MAP_CTRL_COMMIT_RX : Fld := ⟨.LFM_MAP_CTRL, 1, 1⟩
def F.LFM_MAP_CTRL_COMMIT_TX : Fld := ⟨.LFM_MAP_CTRL, 0, 1⟩
-- LFM_CA_CFG: 06 T6.22
def F.LFM_CA_CFG_REI_INHIBIT : Fld := ⟨.LFM_CA_CFG, 4, 1⟩
def F.LFM_CA_CFG_RDI_FORCE : Fld := ⟨.LFM_CA_CFG, 3, 1⟩
def F.LFM_CA_CFG_TIM_ACT : Fld := ⟨.LFM_CA_CFG, 2, 1⟩
def F.LFM_CA_CFG_TIM_MODE : Fld := ⟨.LFM_CA_CFG, 0, 2⟩
-- LFM_CA_STATUS: 06 T6.23
def F.LFM_CA_STATUS_TTI_VALID : Fld := ⟨.LFM_CA_STATUS, 24, 1⟩
def F.LFM_CA_STATUS_RDI_MAP_TX : Fld := ⟨.LFM_CA_STATUS, 16, 8⟩
def F.LFM_CA_STATUS_RDI_MAP_RX : Fld := ⟨.LFM_CA_STATUS, 8, 8⟩
def F.LFM_CA_STATUS_TIM : Fld := ⟨.LFM_CA_STATUS, 6, 1⟩
def F.LFM_CA_STATUS_RDI_C_RX : Fld := ⟨.LFM_CA_STATUS, 5, 1⟩
def F.LFM_CA_STATUS_RDI_C_TX : Fld := ⟨.LFM_CA_STATUS, 4, 1⟩
def F.LFM_CA_STATUS_SRC : Fld := ⟨.LFM_CA_STATUS, 0, 4⟩
-- LFM_CA_EVT: 06 T6.24
def F.LFM_CA_EVT_TTI_CHANGE : Fld := ⟨.LFM_CA_EVT, 5, 1⟩
def F.LFM_CA_EVT_SR_CHANGE : Fld := ⟨.LFM_CA_EVT, 4, 1⟩
def F.LFM_CA_EVT_TIM_CLR : Fld := ⟨.LFM_CA_EVT, 3, 1⟩
def F.LFM_CA_EVT_TIM_SET : Fld := ⟨.LFM_CA_EVT, 2, 1⟩
def F.LFM_CA_EVT_RDI_CLR : Fld := ⟨.LFM_CA_EVT, 1, 1⟩
def F.LFM_CA_EVT_RDI_SET : Fld := ⟨.LFM_CA_EVT, 0, 1⟩
-- LFM_SR_RX: 06 R148
def F.LFM_SR_RX_SR : Fld := ⟨.LFM_SR_RX, 0, 16⟩
def F.LFM_SR_RX_UNLISTED : Fld := ⟨.LFM_SR_RX, 30, 1⟩
def F.LFM_SR_RX_VALID : Fld := ⟨.LFM_SR_RX, 31, 1⟩
-- LFM_GRP_CFG: 06 T6.25
def F.LFM_GRP_CFG_EN : Fld := ⟨.LFM_GRP_CFG, 31, 1⟩
def F.LFM_GRP_CFG_EXPRESS : Fld := ⟨.LFM_GRP_CFG, 30, 1⟩
def F.LFM_GRP_CFG_HAY_OK : Fld := ⟨.LFM_GRP_CFG, 29, 1⟩
def F.LFM_GRP_CFG_ENC : Fld := ⟨.LFM_GRP_CFG, 28, 1⟩
def F.LFM_GRP_CFG_GID : Fld := ⟨.LFM_GRP_CFG, 16, 12⟩
def F.LFM_GRP_CFG_MEMBERS : Fld := ⟨.LFM_GRP_CFG, 0, 8⟩
-- LFM_GRP_STATUS: 06 T6.25
def F.LFM_GRP_STATUS_STATE : Fld := ⟨.LFM_GRP_STATUS, 16, 3⟩
def F.LFM_GRP_STATUS_MISSING : Fld := ⟨.LFM_GRP_STATUS, 8, 8⟩
def F.LFM_GRP_STATUS_ALIGNED : Fld := ⟨.LFM_GRP_STATUS, 0, 8⟩
-- LFM_GRP_SKEW: 06 T6.25
def F.LFM_GRP_SKEW_VALID : Fld := ⟨.LFM_GRP_SKEW, 31, 1⟩
def F.LFM_GRP_SKEW_SKEW : Fld := ⟨.LFM_GRP_SKEW, 0, 24⟩
-- LFM_GRP_EVT: 06 T6.25
def F.LFM_GRP_EVT_CFG_DISCARD : Fld := ⟨.LFM_GRP_EVT, 5, 1⟩
def F.LFM_GRP_EVT_SLIP : Fld := ⟨.LFM_GRP_EVT, 4, 1⟩
def F.LFM_GRP_EVT_LOA : Fld := ⟨.LFM_GRP_EVT, 3, 1⟩
def F.LFM_GRP_EVT_SKEW_OVR : Fld := ⟨.LFM_GRP_EVT, 2, 1⟩
def F.LFM_GRP_EVT_DOWN : Fld := ⟨.LFM_GRP_EVT, 1, 1⟩
def F.LFM_GRP_EVT_UP : Fld := ⟨.LFM_GRP_EVT, 0, 1⟩
-- SOF_PORT_CFG: 07 T7.4
def F.SOF_PORT_CFG_EN : Fld := ⟨.SOF_PORT_CFG, 31, 1⟩
def F.SOF_PORT_CFG_OIF_CA : Fld := ⟨.SOF_PORT_CFG, 28, 2⟩
def F.SOF_PORT_CFG_RATE : Fld := ⟨.SOF_PORT_CFG, 24, 4⟩
def F.SOF_PORT_CFG_FIRST_LANE : Fld := ⟨.SOF_PORT_CFG, 16, 5⟩
def F.SOF_PORT_CFG_FC_MODE : Fld := ⟨.SOF_PORT_CFG, 14, 2⟩
def F.SOF_PORT_CFG_MAX_FRM : Fld := ⟨.SOF_PORT_CFG, 0, 14⟩
-- SOF_PORT_STATUS: 07 T7.5
def F.SOF_PORT_STATUS_UP : Fld := ⟨.SOF_PORT_STATUS, 31, 1⟩
def F.SOF_PORT_STATUS_REFUSED : Fld := ⟨.SOF_PORT_STATUS, 30, 1⟩
def F.SOF_PORT_STATUS_REF_CODE : Fld := ⟨.SOF_PORT_STATUS, 24, 4⟩
def F.SOF_PORT_STATUS_TX_XOFF : Fld := ⟨.SOF_PORT_STATUS, 16, 8⟩
def F.SOF_PORT_STATUS_RX_PAUSED : Fld := ⟨.SOF_PORT_STATUS, 8, 8⟩
def F.SOF_PORT_STATUS_PAUSED_ALL : Fld := ⟨.SOF_PORT_STATUS, 0, 1⟩
-- SOF_PFC_CFG: 07 T7.6
def F.SOF_PFC_CFG_QUANTA : Fld := ⟨.SOF_PFC_CFG, 16, 16⟩
def F.SOF_PFC_CFG_RX_EN : Fld := ⟨.SOF_PFC_CFG, 8, 8⟩
def F.SOF_PFC_CFG_TX_EN : Fld := ⟨.SOF_PFC_CFG, 0, 8⟩
-- SOF_DEF_FLOW: 07 T7.6
def F.SOF_DEF_FLOW_DEF_EN : Fld := ⟨.SOF_DEF_FLOW, 31, 1⟩
def F.SOF_DEF_FLOW_DEF : Fld := ⟨.SOF_DEF_FLOW, 0, 12⟩
-- SOF_PORT_CTRL: 07 T7.6
def F.SOF_PORT_CTRL_CNT_CLR : Fld := ⟨.SOF_PORT_CTRL, 0, 1⟩
-- SOF_PH_CMD: 07 T7.16
def F.SOF_PH_CMD_CMD : Fld := ⟨.SOF_PH_CMD, 28, 4⟩
def F.SOF_PH_CMD_FLOW : Fld := ⟨.SOF_PH_CMD, 16, 12⟩
def F.SOF_PH_CMD_ARG : Fld := ⟨.SOF_PH_CMD, 0, 12⟩
-- SOF_PH_RESULT: 07 T7.16
def F.SOF_PH_RESULT_BUSY : Fld := ⟨.SOF_PH_RESULT, 31, 1⟩
def F.SOF_PH_RESULT_KIND : Fld := ⟨.SOF_PH_RESULT, 30, 1⟩
def F.SOF_PH_RESULT_FLOW : Fld := ⟨.SOF_PH_RESULT, 16, 12⟩
def F.SOF_PH_RESULT_CODE : Fld := ⟨.SOF_PH_RESULT, 0, 4⟩
-- SOF_EVT: 07 T7.16
def F.SOF_EVT_DELIN_LOSS : Fld := ⟨.SOF_EVT, 5, 1⟩
def F.SOF_EVT_HAY_XOFF : Fld := ⟨.SOF_EVT, 4, 1⟩
def F.SOF_EVT_SHED_XOFF : Fld := ⟨.SOF_EVT, 3, 1⟩
def F.SOF_EVT_CMD_DONE : Fld := ⟨.SOF_EVT, 2, 1⟩
def F.SOF_EVT_PH_WR_DISCARD : Fld := ⟨.SOF_EVT, 1, 1⟩
def F.SOF_EVT_PH_REFUSED : Fld := ⟨.SOF_EVT, 0, 1⟩
-- SOF_SHED_POOL: 07 T7.16
def F.SOF_SHED_POOL_XOFF : Fld := ⟨.SOF_SHED_POOL, 16, 16⟩
def F.SOF_SHED_POOL_XON : Fld := ⟨.SOF_SHED_POOL, 0, 16⟩
-- SOF_HAY_POOL: 07 T7.16
def F.SOF_HAY_POOL_XOFF : Fld := ⟨.SOF_HAY_POOL, 16, 16⟩
def F.SOF_HAY_POOL_XON : Fld := ⟨.SOF_HAY_POOL, 0, 16⟩
-- SOF_POOL_STATUS: 07 T7.16
def F.SOF_POOL_STATUS_SHED_XOFF : Fld := ⟨.SOF_POOL_STATUS, 31, 1⟩
def F.SOF_POOL_STATUS_HAY_XOFF : Fld := ⟨.SOF_POOL_STATUS, 30, 1⟩
def F.SOF_POOL_STATUS_HAY_OCC : Fld := ⟨.SOF_POOL_STATUS, 12, 15⟩
def F.SOF_POOL_STATUS_SHED_OCC : Fld := ⟨.SOF_POOL_STATUS, 0, 11⟩
-- SOF_QUOTA_SUM: 07 T7.16
def F.SOF_QUOTA_SUM_SUM : Fld := ⟨.SOF_QUOTA_SUM, 0, 10⟩
-- SOF_GRP_TXHOLD: 07 T7.16
def F.SOF_GRP_TXHOLD_HELD : Fld := ⟨.SOF_GRP_TXHOLD, 31, 1⟩
def F.SOF_GRP_TXHOLD_BUSY : Fld := ⟨.SOF_GRP_TXHOLD, 30, 1⟩
def F.SOF_GRP_TXHOLD_LOCAL : Fld := ⟨.SOF_GRP_TXHOLD, 1, 1⟩
def F.SOF_GRP_TXHOLD_REMOTE : Fld := ⟨.SOF_GRP_TXHOLD, 0, 1⟩
-- SOF_PH_W0: 07 T7.9
def F.SOF_PH_W0_SRC : Fld := ⟨.SOF_PH_W0, 19, 13⟩
def F.SOF_PH_W0_OTAG : Fld := ⟨.SOF_PH_W0, 18, 1⟩
def F.SOF_PH_W0_ITAG : Fld := ⟨.SOF_PH_W0, 17, 1⟩
def F.SOF_PH_W0_PCP : Fld := ⟨.SOF_PH_W0, 14, 3⟩
def F.SOF_PH_W0_L3 : Fld := ⟨.SOF_PH_W0, 12, 2⟩
def F.SOF_PH_W0_OVID : Fld := ⟨.SOF_PH_W0, 0, 12⟩
-- SOF_PH_W1: 07 T7.9
def F.SOF_PH_W1_IVID : Fld := ⟨.SOF_PH_W1, 20, 12⟩
def F.SOF_PH_W1_LABEL : Fld := ⟨.SOF_PH_W1, 0, 20⟩
-- SOF_PH_W2: 07 T7.9
def F.SOF_PH_W2_ECPRI_TYPE : Fld := ⟨.SOF_PH_W2, 24, 8⟩
def F.SOF_PH_W2_ECPRI_ID : Fld := ⟨.SOF_PH_W2, 8, 16⟩
-- SOF_PH_W6: 07 T7.9
def F.SOF_PH_W6_VALID : Fld := ⟨.SOF_PH_W6, 31, 1⟩
def F.SOF_PH_W6_EXPRESS : Fld := ⟨.SOF_PH_W6, 30, 1⟩
def F.SOF_PH_W6_SPILL : Fld := ⟨.SOF_PH_W6, 29, 1⟩
def F.SOF_PH_W6_CIP_EN : Fld := ⟨.SOF_PH_W6, 28, 1⟩
def F.SOF_PH_W6_BP_EN : Fld := ⟨.SOF_PH_W6, 27, 1⟩
def F.SOF_PH_W6_PRIO : Fld := ⟨.SOF_PH_W6, 24, 3⟩
def F.SOF_PH_W6_EGRESS : Fld := ⟨.SOF_PH_W6, 0, 12⟩
-- SOF_FP_W0: 07 T7.13
def F.SOF_FP_W0_PO_RATE : Fld := ⟨.SOF_FP_W0, 12, 20⟩
def F.SOF_FP_W0_PO_BURST : Fld := ⟨.SOF_FP_W0, 0, 12⟩
-- SOF_FP_W1: 07 T7.13
def F.SOF_FP_W1_SH_RATE : Fld := ⟨.SOF_FP_W1, 12, 20⟩
def F.SOF_FP_W1_SH_BURST : Fld := ⟨.SOF_FP_W1, 0, 12⟩
-- SOF_FP_W2: 07 T7.13
def F.SOF_FP_W2_QLIMIT : Fld := ⟨.SOF_FP_W2, 16, 16⟩
def F.SOF_FP_W2_XOFF : Fld := ⟨.SOF_FP_W2, 0, 16⟩
-- SOF_FP_W3: 07 T7.13
def F.SOF_FP_W3_XON : Fld := ⟨.SOF_FP_W3, 16, 16⟩
def F.SOF_FP_W3_SHED_QUOTA : Fld := ⟨.SOF_FP_W3, 8, 8⟩
def F.SOF_FP_W3_WEIGHT : Fld := ⟨.SOF_FP_W3, 0, 8⟩
-- SOF_FP_W4: 07 T7.13
def F.SOF_FP_W4_STATE : Fld := ⟨.SOF_FP_W4, 30, 2⟩
def F.SOF_FP_W4_XOFF_ST : Fld := ⟨.SOF_FP_W4, 29, 1⟩
def F.SOF_FP_W4_HELD : Fld := ⟨.SOF_FP_W4, 28, 1⟩
def F.SOF_FP_W4_HAY : Fld := ⟨.SOF_FP_W4, 27, 1⟩
def F.SOF_FP_W4_OCC : Fld := ⟨.SOF_FP_W4, 0, 24⟩
-- HAY_CFG: 08 T8.11
def F.HAY_CFG_DSK_SIZE : Fld := ⟨.HAY_CFG, 24, 6⟩
def F.HAY_CFG_CAP_SIZE : Fld := ⟨.HAY_CFG, 16, 6⟩
def F.HAY_CFG_DRAIN_LIMIT : Fld := ⟨.HAY_CFG, 8, 8⟩
def F.HAY_CFG_ADMIT_EN : Fld := ⟨.HAY_CFG, 0, 1⟩
-- HAY_STATUS: 08 T8.11
def F.HAY_STATUS_READY : Fld := ⟨.HAY_STATUS, 31, 1⟩
def F.HAY_STATUS_DRAINING : Fld := ⟨.HAY_STATUS, 30, 1⟩
def F.HAY_STATUS_ADMIT : Fld := ⟨.HAY_STATUS, 29, 1⟩
def F.HAY_STATUS_DSK_RES : Fld := ⟨.HAY_STATUS, 16, 9⟩
def F.HAY_STATUS_FREE : Fld := ⟨.HAY_STATUS, 0, 16⟩
-- HAY_SCRUB_CFG: 08 T8.11
def F.HAY_SCRUB_CFG_PERIOD : Fld := ⟨.HAY_SCRUB_CFG, 0, 10⟩
-- HAY_SCRUB_STATUS: 08 T8.11
def F.HAY_SCRUB_STATUS_PASS_CNT : Fld := ⟨.HAY_SCRUB_STATUS, 16, 16⟩
def F.HAY_SCRUB_STATUS_PROGRESS : Fld := ⟨.HAY_SCRUB_STATUS, 0, 7⟩
-- HAY_EVT: 08 T8.11
def F.HAY_EVT_SCRUB_PASS : Fld := ⟨.HAY_EVT, 14, 1⟩
def F.HAY_EVT_APT_DENIED : Fld := ⟨.HAY_EVT, 13, 1⟩
def F.HAY_EVT_CAP_REFUSED : Fld := ⟨.HAY_EVT, 12, 1⟩
def F.HAY_EVT_CAP_FULL : Fld := ⟨.HAY_EVT, 11, 1⟩
def F.HAY_EVT_DRAIN_REFUSED : Fld := ⟨.HAY_EVT, 10, 1⟩
def F.HAY_EVT_CFG_DISCARD : Fld := ⟨.HAY_EVT, 9, 1⟩
def F.HAY_EVT_NO_ROOM : Fld := ⟨.HAY_EVT, 8, 1⟩
def F.HAY_EVT_RET_REFUSED : Fld := ⟨.HAY_EVT, 7, 1⟩
def F.HAY_EVT_RET_DONE : Fld := ⟨.HAY_EVT, 6, 1⟩
def F.HAY_EVT_LOG_OVR : Fld := ⟨.HAY_EVT, 5, 1⟩
def F.HAY_EVT_META_LOSS : Fld := ⟨.HAY_EVT, 4, 1⟩
def F.HAY_EVT_TIMEOUT : Fld := ⟨.HAY_EVT, 3, 1⟩
def F.HAY_EVT_POISON_READ : Fld := ⟨.HAY_EVT, 2, 1⟩
def F.HAY_EVT_UE : Fld := ⟨.HAY_EVT, 1, 1⟩
def F.HAY_EVT_CE : Fld := ⟨.HAY_EVT, 0, 1⟩
-- HAY_APERTURE_PAGE: 08 T8.11
def F.HAY_APERTURE_PAGE_PAGE : Fld := ⟨.HAY_APERTURE_PAGE, 0, 9⟩
-- HAY_APT_STATUS: 08 T8.11
def F.HAY_APT_STATUS_DENIED : Fld := ⟨.HAY_APT_STATUS, 3, 1⟩
def F.HAY_APT_STATUS_RETIRED : Fld := ⟨.HAY_APT_STATUS, 2, 1⟩
def F.HAY_APT_STATUS_UNOPENED : Fld := ⟨.HAY_APT_STATUS, 1, 1⟩
def F.HAY_APT_STATUS_POISON : Fld := ⟨.HAY_APT_STATUS, 0, 1⟩
-- HAY_RET_CMD: 08 T8.11
def F.HAY_RET_CMD_CMD : Fld := ⟨.HAY_RET_CMD, 30, 2⟩
def F.HAY_RET_CMD_ARG : Fld := ⟨.HAY_RET_CMD, 0, 25⟩
-- HAY_RET_STATUS: 08 T8.11
def F.HAY_RET_STATUS_BUSY : Fld := ⟨.HAY_RET_STATUS, 31, 1⟩
def F.HAY_RET_STATUS_PENDING : Fld := ⟨.HAY_RET_STATUS, 30, 1⟩
def F.HAY_RET_STATUS_CODE : Fld := ⟨.HAY_RET_STATUS, 24, 3⟩
def F.HAY_RET_STATUS_COUNT : Fld := ⟨.HAY_RET_STATUS, 0, 14⟩
-- HAY_RET_DATA: 08 T8.11
def F.HAY_RET_DATA_VALID : Fld := ⟨.HAY_RET_DATA, 31, 1⟩
def F.HAY_RET_DATA_PENDING : Fld := ⟨.HAY_RET_DATA, 30, 1⟩
def F.HAY_RET_DATA_PAGE : Fld := ⟨.HAY_RET_DATA, 0, 25⟩
-- HAY_LOG_STATUS: 08 T8.11
def F.HAY_LOG_STATUS_OVR : Fld := ⟨.HAY_LOG_STATUS, 16, 16⟩
def F.HAY_LOG_STATUS_LAST : Fld := ⟨.HAY_LOG_STATUS, 0, 6⟩
-- HAY_CAP_CFG: 08 T8.11
def F.HAY_CAP_CFG_EN : Fld := ⟨.HAY_CAP_CFG, 31, 1⟩
def F.HAY_CAP_CFG_WRAP : Fld := ⟨.HAY_CAP_CFG, 30, 1⟩
def F.HAY_CAP_CFG_CLR : Fld := ⟨.HAY_CAP_CFG, 29, 1⟩
def F.HAY_CAP_CFG_FLOW : Fld := ⟨.HAY_CAP_CFG, 0, 12⟩
-- HAY_LOG_W0: 08 T8.6
def F.HAY_LOG_W0_VALID : Fld := ⟨.HAY_LOG_W0, 31, 1⟩
def F.HAY_LOG_W0_TYPE : Fld := ⟨.HAY_LOG_W0, 28, 3⟩
def F.HAY_LOG_W0_SYM : Fld := ⟨.HAY_LOG_W0, 22, 6⟩
def F.HAY_LOG_W0_REPEAT : Fld := ⟨.HAY_LOG_W0, 0, 16⟩
-- HAY_LOG_W1: 08 T8.6
def F.HAY_LOG_W1_LINE : Fld := ⟨.HAY_LOG_W1, 0, 31⟩
-- HAY_LOG_W2: 08 T8.6
def F.HAY_LOG_W2_SEC : Fld := ⟨.HAY_LOG_W2, 0, 32⟩
-- HAY_LOG_W3: 08 T8.6
def F.HAY_LOG_W3_TAG_VALID : Fld := ⟨.HAY_LOG_W3, 31, 1⟩
def F.HAY_LOG_W3_NS : Fld := ⟨.HAY_LOG_W3, 0, 30⟩
-- CIP_CFG: 09 T9.6
def F.CIP_CFG_ENT_HALT : Fld := ⟨.CIP_CFG, 0, 1⟩
-- CIP_STATUS: 09 T9.6
def F.CIP_STATUS_ENT_OK : Fld := ⟨.CIP_STATUS, 31, 1⟩
def F.CIP_STATUS_KEK0 : Fld := ⟨.CIP_STATUS, 30, 1⟩
def F.CIP_STATUS_KEK_VALID : Fld := ⟨.CIP_STATUS, 27, 3⟩
def F.CIP_STATUS_INFLIGHT : Fld := ⟨.CIP_STATUS, 16, 9⟩
def F.CIP_STATUS_SUSP_FULL : Fld := ⟨.CIP_STATUS, 0, 8⟩
-- CIP_EVT: 09 T9.6
def F.CIP_EVT_ENT_OK_EVT : Fld := ⟨.CIP_EVT, 12, 1⟩
def F.CIP_EVT_ENT_FAIL : Fld := ⟨.CIP_EVT, 11, 1⟩
def F.CIP_EVT_SUSP_FULL : Fld := ⟨.CIP_EVT, 10, 1⟩
def F.CIP_EVT_TIMEOUT : Fld := ⟨.CIP_EVT, 9, 1⟩
def F.CIP_EVT_SEAL_LOSS : Fld := ⟨.CIP_EVT, 8, 1⟩
def F.CIP_EVT_SEAL_FAIL : Fld := ⟨.CIP_EVT, 7, 1⟩
def F.CIP_EVT_NO_SC : Fld := ⟨.CIP_EVT, 6, 1⟩
def F.CIP_EVT_REPLAY : Fld := ⟨.CIP_EVT, 5, 1⟩
def F.CIP_EVT_AUTH_FAIL : Fld := ⟨.CIP_EVT, 4, 1⟩
def F.CIP_EVT_TX_PN_EXHAUST : Fld := ⟨.CIP_EVT, 3, 1⟩
def F.CIP_EVT_TX_PN_WARN : Fld := ⟨.CIP_EVT, 2, 1⟩
def F.CIP_EVT_KEY_REFUSED : Fld := ⟨.CIP_EVT, 1, 1⟩
def F.CIP_EVT_KEY_DONE : Fld := ⟨.CIP_EVT, 0, 1⟩
-- CIP_KEY_CMD: 09 T9.6
def F.CIP_KEY_CMD_CMD : Fld := ⟨.CIP_KEY_CMD, 28, 4⟩
def F.CIP_KEY_CMD_KEK : Fld := ⟨.CIP_KEY_CMD, 26, 2⟩
def F.CIP_KEY_CMD_SLOT : Fld := ⟨.CIP_KEY_CMD, 0, 14⟩
-- CIP_KEY_RESULT: 09 T9.6
def F.CIP_KEY_RESULT_BUSY : Fld := ⟨.CIP_KEY_RESULT, 31, 1⟩
def F.CIP_KEY_RESULT_CODE : Fld := ⟨.CIP_KEY_RESULT, 0, 4⟩
-- CIP_PN_WARN_FLOW: 09 T9.6
def F.CIP_PN_WARN_FLOW_FLOW : Fld := ⟨.CIP_PN_WARN_FLOW, 0, 12⟩
-- CIP_CTX_CFG: 09 T9.7
def F.CIP_CTX_CFG_XPN : Fld := ⟨.CIP_CTX_CFG, 31, 1⟩
def F.CIP_CTX_CFG_SCI_EN : Fld := ⟨.CIP_CTX_CFG, 30, 1⟩
def F.CIP_CTX_CFG_CONF : Fld := ⟨.CIP_CTX_CFG, 29, 1⟩
def F.CIP_CTX_CFG_REPLAY_EN : Fld := ⟨.CIP_CTX_CFG, 28, 1⟩
def F.CIP_CTX_CFG_TX_AN : Fld := ⟨.CIP_CTX_CFG, 24, 2⟩
def F.CIP_CTX_CFG_SLOT_VALID : Fld := ⟨.CIP_CTX_CFG, 20, 4⟩
def F.CIP_CTX_CFG_SLOT_BUSY : Fld := ⟨.CIP_CTX_CFG, 16, 4⟩
-- CIP_SSCI: 09 T9.7
def F.CIP_SSCI_SSCI : Fld := ⟨.CIP_SSCI, 0, 32⟩
-- CIP_REPLAY_WIN: 09 T9.7
def F.CIP_REPLAY_WIN_WIN : Fld := ⟨.CIP_REPLAY_WIN, 0, 30⟩
-- CIP_RXC: 09 T9.8
def F.CIP_RXC_VALID : Fld := ⟨.CIP_RXC, 31, 1⟩
def F.CIP_RXC_GID : Fld := ⟨.CIP_RXC, 16, 12⟩
def F.CIP_RXC_KEYSET : Fld := ⟨.CIP_RXC, 0, 12⟩
-- CIP_GCX_CFG: 09 T9.9
def F.CIP_GCX_CFG_TX_AN : Fld := ⟨.CIP_GCX_CFG, 24, 2⟩
def F.CIP_GCX_CFG_SLOT_VALID : Fld := ⟨.CIP_GCX_CFG, 20, 4⟩
def F.CIP_GCX_CFG_SLOT_BUSY : Fld := ⟨.CIP_GCX_CFG, 16, 4⟩
def F.CIP_GCX_CFG_SEAL_MAX : Fld := ⟨.CIP_GCX_CFG, 12, 4⟩
def F.CIP_GCX_CFG_KEYSET : Fld := ⟨.CIP_GCX_CFG, 0, 12⟩
-- HLN_LANE_CFG: 14 T14.5
def F.HLN_LANE_CFG_TX_INV : Fld := ⟨.HLN_LANE_CFG, 31, 1⟩
def F.HLN_LANE_CFG_RX_INV : Fld := ⟨.HLN_LANE_CFG, 30, 1⟩
def F.HLN_LANE_CFG_EQ_MODE : Fld := ⟨.HLN_LANE_CFG, 28, 2⟩
def F.HLN_LANE_CFG_TEST_RATE : Fld := ⟨.HLN_LANE_CFG, 24, 1⟩
-- HLN_TX_EQ: 14 T14.5
def F.HLN_TX_EQ_CM3 : Fld := ⟨.HLN_TX_EQ, 24, 6⟩
def F.HLN_TX_EQ_CM2 : Fld := ⟨.HLN_TX_EQ, 18, 6⟩
def F.HLN_TX_EQ_CM1 : Fld := ⟨.HLN_TX_EQ, 12, 6⟩
def F.HLN_TX_EQ_C0 : Fld := ⟨.HLN_TX_EQ, 6, 6⟩
def F.HLN_TX_EQ_C1 : Fld := ⟨.HLN_TX_EQ, 0, 6⟩
-- HLN_TX_EQ_ACT: 14 T14.5
def F.HLN_TX_EQ_ACT_CM3 : Fld := ⟨.HLN_TX_EQ_ACT, 24, 6⟩
def F.HLN_TX_EQ_ACT_CM2 : Fld := ⟨.HLN_TX_EQ_ACT, 18, 6⟩
def F.HLN_TX_EQ_ACT_CM1 : Fld := ⟨.HLN_TX_EQ_ACT, 12, 6⟩
def F.HLN_TX_EQ_ACT_C0 : Fld := ⟨.HLN_TX_EQ_ACT, 6, 6⟩
def F.HLN_TX_EQ_ACT_C1 : Fld := ⟨.HLN_TX_EQ_ACT, 0, 6⟩
-- HLN_TRAIN_STATUS: 14 T14.5
def F.HLN_TRAIN_STATUS_STATE : Fld := ⟨.HLN_TRAIN_STATUS, 29, 3⟩
def F.HLN_TRAIN_STATUS_FAIL_CNT : Fld := ⟨.HLN_TRAIN_STATUS, 0, 8⟩
-- HLN_RX_STATUS: 14 T14.5
def F.HLN_RX_STATUS_SIG : Fld := ⟨.HLN_RX_STATUS, 31, 1⟩
def F.HLN_RX_STATUS_CDR_LOCK : Fld := ⟨.HLN_RX_STATUS, 30, 1⟩
def F.HLN_RX_STATUS_SNR : Fld := ⟨.HLN_RX_STATUS, 0, 12⟩
-- HLN_PRBS_CFG: 14 T14.5
def F.HLN_PRBS_CFG_GEN_EN : Fld := ⟨.HLN_PRBS_CFG, 31, 1⟩
def F.HLN_PRBS_CFG_CHK_EN : Fld := ⟨.HLN_PRBS_CFG, 30, 1⟩
def F.HLN_PRBS_CFG_GEN_PAT : Fld := ⟨.HLN_PRBS_CFG, 24, 4⟩
def F.HLN_PRBS_CFG_CHK_PAT : Fld := ⟨.HLN_PRBS_CFG, 20, 4⟩
def F.HLN_PRBS_CFG_ERR_INJ : Fld := ⟨.HLN_PRBS_CFG, 0, 1⟩
-- HLN_PRBS_STATUS: 14 T14.5
def F.HLN_PRBS_STATUS_CHK_LOCK : Fld := ⟨.HLN_PRBS_STATUS, 31, 1⟩
def F.HLN_PRBS_STATUS_LOCK_LOSS : Fld := ⟨.HLN_PRBS_STATUS, 0, 16⟩
-- HLN_LANE_EVT: 14 T14.5
def F.HLN_LANE_EVT_EQ_CLAMP : Fld := ⟨.HLN_LANE_EVT, 5, 1⟩
def F.HLN_LANE_EVT_PRBS_LOSS : Fld := ⟨.HLN_LANE_EVT, 4, 1⟩
def F.HLN_LANE_EVT_PRBS_LOCK : Fld := ⟨.HLN_LANE_EVT, 3, 1⟩
def F.HLN_LANE_EVT_CDR_LOL : Fld := ⟨.HLN_LANE_EVT, 2, 1⟩
def F.HLN_LANE_EVT_TRAIN_FAIL : Fld := ⟨.HLN_LANE_EVT, 1, 1⟩
def F.HLN_LANE_EVT_TRAIN_DONE : Fld := ⟨.HLN_LANE_EVT, 0, 1⟩
-- HLN_LANE_CTRL: 14 T14.5
def F.HLN_LANE_CTRL_CNT_CLR : Fld := ⟨.HLN_LANE_CTRL, 0, 1⟩
-- YLN_YARD_CFG: 14 T14.12
def F.YLN_YARD_CFG_RUN_READY : Fld := ⟨.YLN_YARD_CFG, 31, 1⟩
def F.YLN_YARD_CFG_SPARE_EN : Fld := ⟨.YLN_YARD_CFG, 30, 1⟩
-- YLN_ID_STATUS: 14 T14.12
def F.YLN_ID_STATUS_DUP_ID : Fld := ⟨.YLN_ID_STATUS, 31, 1⟩
def F.YLN_ID_STATUS_IMG : Fld := ⟨.YLN_ID_STATUS, 29, 2⟩
def F.YLN_ID_STATUS_DEV_ID : Fld := ⟨.YLN_ID_STATUS, 0, 2⟩
-- YLN_ID_EVT: 14 T14.12
def F.YLN_ID_EVT_IMG_DONE : Fld := ⟨.YLN_ID_EVT, 3, 1⟩
def F.YLN_ID_EVT_RMT_DONE : Fld := ⟨.YLN_ID_EVT, 2, 1⟩
def F.YLN_ID_EVT_WIRING : Fld := ⟨.YLN_ID_EVT, 1, 1⟩
def F.YLN_ID_EVT_DUP_ID : Fld := ⟨.YLN_ID_EVT, 0, 1⟩
-- YLN_IMG_FWD: 14 T14.12
def F.YLN_IMG_FWD_STATE : Fld := ⟨.YLN_IMG_FWD, 0, 3⟩
-- YLN_RMT_CMD: 14 T14.12
def F.YLN_RMT_CMD_GO : Fld := ⟨.YLN_RMT_CMD, 31, 1⟩
def F.YLN_RMT_CMD_WRITE : Fld := ⟨.YLN_RMT_CMD, 30, 1⟩
def F.YLN_RMT_CMD_DEV : Fld := ⟨.YLN_RMT_CMD, 0, 2⟩
-- YLN_RMT_STATUS: 14 T14.12
def F.YLN_RMT_STATUS_BUSY : Fld := ⟨.YLN_RMT_STATUS, 31, 1⟩
def F.YLN_RMT_STATUS_CODE : Fld := ⟨.YLN_RMT_STATUS, 0, 4⟩
-- YL_CFG: 14 T14.13
def F.YL_CFG_TX_INV : Fld := ⟨.YL_CFG, 31, 1⟩
def F.YL_CFG_RX_INV : Fld := ⟨.YL_CFG, 30, 1⟩
-- YL_EQ: 14 T14.13
def F.YL_EQ_CM3 : Fld := ⟨.YL_EQ, 24, 6⟩
def F.YL_EQ_CM2 : Fld := ⟨.YL_EQ, 18, 6⟩
def F.YL_EQ_CM1 : Fld := ⟨.YL_EQ, 12, 6⟩
def F.YL_EQ_C0 : Fld := ⟨.YL_EQ, 6, 6⟩
def F.YL_EQ_C1 : Fld := ⟨.YL_EQ, 0, 6⟩
-- YL_RX: 14 T14.13
def F.YL_RX_DFE_EN : Fld := ⟨.YL_RX, 7, 1⟩
def F.YL_RX_CTLE : Fld := ⟨.YL_RX, 0, 5⟩
-- YL_STATUS: 14 T14.13
def F.YL_STATUS_BLK_LOCK : Fld := ⟨.YL_STATUS, 31, 1⟩
def F.YL_STATUS_MODE : Fld := ⟨.YL_STATUS, 29, 2⟩
def F.YL_STATUS_FILL : Fld := ⟨.YL_STATUS, 0, 6⟩
-- YL_PRBS_CFG: 14 T14.13
def F.YL_PRBS_CFG_GEN_EN : Fld := ⟨.YL_PRBS_CFG, 31, 1⟩
def F.YL_PRBS_CFG_CHK_EN : Fld := ⟨.YL_PRBS_CFG, 30, 1⟩
def F.YL_PRBS_CFG_GEN_PAT : Fld := ⟨.YL_PRBS_CFG, 24, 4⟩
def F.YL_PRBS_CFG_CHK_PAT : Fld := ⟨.YL_PRBS_CFG, 20, 4⟩
def F.YL_PRBS_CFG_ERR_INJ : Fld := ⟨.YL_PRBS_CFG, 0, 1⟩
-- YL_PRBS_STATUS: 14 T14.13
def F.YL_PRBS_STATUS_CHK_LOCK : Fld := ⟨.YL_PRBS_STATUS, 31, 1⟩
def F.YL_PRBS_STATUS_LOCK_LOSS : Fld := ⟨.YL_PRBS_STATUS, 0, 16⟩
-- YLN_LINK_STATUS: 14 T14.14
def F.YLN_LINK_STATUS_STATE : Fld := ⟨.YLN_LINK_STATUS, 29, 3⟩
def F.YLN_LINK_STATUS_SPARE : Fld := ⟨.YLN_LINK_STATUS, 28, 1⟩
def F.YLN_LINK_STATUS_WIRING : Fld := ⟨.YLN_LINK_STATUS, 27, 1⟩
def F.YLN_LINK_STATUS_PEER_ID : Fld := ⟨.YLN_LINK_STATUS, 24, 2⟩
def F.YLN_LINK_STATUS_TX_USED : Fld := ⟨.YLN_LINK_STATUS, 20, 4⟩
def F.YLN_LINK_STATUS_RX_USED : Fld := ⟨.YLN_LINK_STATUS, 16, 4⟩
-- YLN_LINK_EVT: 14 T14.14
def F.YLN_LINK_EVT_FWD_REFUSED : Fld := ⟨.YLN_LINK_EVT, 3, 1⟩
def F.YLN_LINK_EVT_SPARE_IN : Fld := ⟨.YLN_LINK_EVT, 2, 1⟩
def F.YLN_LINK_EVT_DOWN : Fld := ⟨.YLN_LINK_EVT, 1, 1⟩
def F.YLN_LINK_EVT_UP : Fld := ⟨.YLN_LINK_EVT, 0, 1⟩
-- YLN_LINK_CTRL: 14 T14.14
def F.YLN_LINK_CTRL_REVERT : Fld := ⟨.YLN_LINK_CTRL, 0, 1⟩
-- YLN_FWD_TX: 14 T14.14
def F.YLN_FWD_TX_VALID : Fld := ⟨.YLN_FWD_TX, 31, 1⟩
def F.YLN_FWD_TX_GID : Fld := ⟨.YLN_FWD_TX, 16, 12⟩
def F.YLN_FWD_TX_MSN : Fld := ⟨.YLN_FWD_TX, 0, 8⟩
-- YLN_FWD_RX: 14 T14.14
def F.YLN_FWD_RX_VALID : Fld := ⟨.YLN_FWD_RX, 31, 1⟩
def F.YLN_FWD_RX_GID : Fld := ⟨.YLN_FWD_RX, 16, 12⟩
def F.YLN_FWD_RX_MSN : Fld := ⟨.YLN_FWD_RX, 0, 8⟩
-- MON_CFG: 12 T12.5
def F.MON_CFG_COMPAT : Fld := ⟨.MON_CFG, 31, 1⟩
def F.MON_CFG_CHK_N : Fld := ⟨.MON_CFG, 24, 7⟩
def F.MON_CFG_CHK_TOL : Fld := ⟨.MON_CFG, 16, 8⟩
def F.MON_CFG_TRIG_EDGE : Fld := ⟨.MON_CFG, 4, 2⟩
def F.MON_CFG_TRIG_MASK : Fld := ⟨.MON_CFG, 0, 2⟩
-- MON_STATUS: 12 T12.5
def F.MON_STATUS_CHK_RUN : Fld := ⟨.MON_STATUS, 31, 1⟩
def F.MON_STATUS_FAULT : Fld := ⟨.MON_STATUS, 24, 4⟩
def F.MON_STATUS_SETTLING : Fld := ⟨.MON_STATUS, 16, 4⟩
def F.MON_STATUS_REF_CODE : Fld := ⟨.MON_STATUS, 8, 4⟩
-- MON_EVT: 12 T12.5
def F.MON_EVT_LIM : Fld := ⟨.MON_EVT, 6, 1⟩
def F.MON_EVT_SNAP_DONE : Fld := ⟨.MON_EVT, 5, 1⟩
def F.MON_EVT_TRIG_OVR : Fld := ⟨.MON_EVT, 4, 1⟩
def F.MON_EVT_CFG_REFUSED : Fld := ⟨.MON_EVT, 3, 1⟩
def F.MON_EVT_CHK_FAIL : Fld := ⟨.MON_EVT, 2, 1⟩
def F.MON_EVT_FAULT : Fld := ⟨.MON_EVT, 1, 1⟩
def F.MON_EVT_TRIG_DONE : Fld := ⟨.MON_EVT, 0, 1⟩
-- MON_CTRL: 12 T12.5
def F.MON_CTRL_SOFT_TRIG : Fld := ⟨.MON_CTRL, 1, 1⟩
def F.MON_CTRL_FAULT_CLR : Fld := ⟨.MON_CTRL, 0, 1⟩
-- MON_TRIG_CFG: 12 T12.5
def F.MON_TRIG_CFG_CH : Fld := ⟨.MON_TRIG_CFG, 27, 5⟩
def F.MON_TRIG_CFG_PRESET : Fld := ⟨.MON_TRIG_CFG, 24, 3⟩
def F.MON_TRIG_CFG_AVG : Fld := ⟨.MON_TRIG_CFG, 16, 8⟩
def F.MON_TRIG_CFG_SINC5 : Fld := ⟨.MON_TRIG_CFG, 0, 1⟩
-- MON_COMPAT_CFG: 12 T12.5
def F.MON_COMPAT_CFG_FREE : Fld := ⟨.MON_COMPAT_CFG, 31, 1⟩
def F.MON_COMPAT_CFG_PRESET : Fld := ⟨.MON_COMPAT_CFG, 28, 3⟩
def F.MON_COMPAT_CFG_SINC5 : Fld := ⟨.MON_COMPAT_CFG, 27, 1⟩
def F.MON_COMPAT_CFG_CH3 : Fld := ⟨.MON_COMPAT_CFG, 15, 5⟩
def F.MON_COMPAT_CFG_CH2 : Fld := ⟨.MON_COMPAT_CFG, 10, 5⟩
def F.MON_COMPAT_CFG_CH1 : Fld := ⟨.MON_COMPAT_CFG, 5, 5⟩
def F.MON_COMPAT_CFG_CH0 : Fld := ⟨.MON_COMPAT_CFG, 0, 5⟩
-- MON_SNAP: 12 T12.5
def F.MON_SNAP_VALID : Fld := ⟨.MON_SNAP, 31, 1⟩
def F.MON_SNAP_OVF : Fld := ⟨.MON_SNAP, 30, 1⟩
def F.MON_SNAP_VALUE : Fld := ⟨.MON_SNAP, 0, 24⟩
-- MON_SNAP_NS: 12 T12.5
def F.MON_SNAP_NS_TAG_VALID : Fld := ⟨.MON_SNAP_NS, 31, 1⟩
def F.MON_SNAP_NS_NS : Fld := ⟨.MON_SNAP_NS, 0, 30⟩
-- MON_PAIR_CFG: 12 T12.6
def F.MON_PAIR_CFG_EN : Fld := ⟨.MON_PAIR_CFG, 31, 1⟩
def F.MON_PAIR_CFG_CONT : Fld := ⟨.MON_PAIR_CFG, 30, 1⟩
def F.MON_PAIR_CFG_LP : Fld := ⟨.MON_PAIR_CFG, 29, 1⟩
def F.MON_PAIR_CFG_PCC : Fld := ⟨.MON_PAIR_CFG, 28, 1⟩
def F.MON_PAIR_CFG_CH : Fld := ⟨.MON_PAIR_CFG, 23, 5⟩
def F.MON_PAIR_CFG_PRESET : Fld := ⟨.MON_PAIR_CFG, 20, 3⟩
def F.MON_PAIR_CFG_SINC5 : Fld := ⟨.MON_PAIR_CFG, 19, 1⟩
def F.MON_PAIR_CFG_MINPH : Fld := ⟨.MON_PAIR_CFG, 18, 1⟩
def F.MON_PAIR_CFG_NOTCH : Fld := ⟨.MON_PAIR_CFG, 17, 1⟩
def F.MON_PAIR_CFG_SEQ_LEN : Fld := ⟨.MON_PAIR_CFG, 0, 4⟩
-- MON_SHIFT: 12 T12.6
def F.MON_SHIFT_MAN : Fld := ⟨.MON_SHIFT, 31, 1⟩
def F.MON_SHIFT_SH1 : Fld := ⟨.MON_SHIFT, 24, 6⟩
def F.MON_SHIFT_SH2 : Fld := ⟨.MON_SHIFT, 16, 6⟩
def F.MON_SHIFT_SH3 : Fld := ⟨.MON_SHIFT, 8, 6⟩
-- MON_PAIR_STATUS: 12 T12.6
def F.MON_PAIR_STATUS_SETTLED : Fld := ⟨.MON_PAIR_STATUS, 31, 1⟩
def F.MON_PAIR_STATUS_PENDING : Fld := ⟨.MON_PAIR_STATUS, 30, 1⟩
def F.MON_PAIR_STATUS_CH_NOW : Fld := ⟨.MON_PAIR_STATUS, 24, 5⟩
def F.MON_PAIR_STATUS_SLOT_NOW : Fld := ⟨.MON_PAIR_STATUS, 0, 4⟩
-- MON_LAST: 12 T12.6
def F.MON_LAST_VALID : Fld := ⟨.MON_LAST, 31, 1⟩
def F.MON_LAST_OVF : Fld := ⟨.MON_LAST, 30, 1⟩
def F.MON_LAST_FLT : Fld := ⟨.MON_LAST, 29, 1⟩
def F.MON_LAST_VALUE : Fld := ⟨.MON_LAST, 0, 24⟩
-- MON_TRIG_RES: 12 T12.6
def F.MON_TRIG_RES_VALID : Fld := ⟨.MON_TRIG_RES, 31, 1⟩
def F.MON_TRIG_RES_OVF : Fld := ⟨.MON_TRIG_RES, 30, 1⟩
def F.MON_TRIG_RES_FLT : Fld := ⟨.MON_TRIG_RES, 29, 1⟩
def F.MON_TRIG_RES_VALUE : Fld := ⟨.MON_TRIG_RES, 0, 24⟩
-- MON_TRIG_NS: 12 T12.6
def F.MON_TRIG_NS_TAG_VALID : Fld := ⟨.MON_TRIG_NS, 31, 1⟩
def F.MON_TRIG_NS_NS : Fld := ⟨.MON_TRIG_NS, 0, 30⟩
-- MON_SEQ: 12 T12.6
def F.MON_SEQ_CH : Fld := ⟨.MON_SEQ, 27, 5⟩
def F.MON_SEQ_PRESET : Fld := ⟨.MON_SEQ, 24, 3⟩
def F.MON_SEQ_AVG : Fld := ⟨.MON_SEQ, 16, 8⟩
def F.MON_SEQ_SINC5 : Fld := ⟨.MON_SEQ, 2, 1⟩
def F.MON_SEQ_MINPH : Fld := ⟨.MON_SEQ, 1, 1⟩
def F.MON_SEQ_NOTCH : Fld := ⟨.MON_SEQ, 0, 1⟩
-- MON_RESULT: 12 T12.7
def F.MON_RESULT_VALID : Fld := ⟨.MON_RESULT, 31, 1⟩
def F.MON_RESULT_OVF : Fld := ⟨.MON_RESULT, 30, 1⟩
def F.MON_RESULT_FLT : Fld := ⟨.MON_RESULT, 29, 1⟩
def F.MON_RESULT_TAG_VALID : Fld := ⟨.MON_RESULT, 28, 1⟩
def F.MON_RESULT_SRC : Fld := ⟨.MON_RESULT, 24, 2⟩
def F.MON_RESULT_VALUE : Fld := ⟨.MON_RESULT, 0, 24⟩
-- MON_LIM: 12 T12.7
def F.MON_LIM_HI : Fld := ⟨.MON_LIM, 16, 16⟩
def F.MON_LIM_LO : Fld := ⟨.MON_LIM, 0, 16⟩
-- MON_CH_CFG: 12 T12.7
def F.MON_CH_CFG_LIM_EN : Fld := ⟨.MON_CH_CFG, 31, 1⟩
def F.MON_CH_CFG_TIA : Fld := ⟨.MON_CH_CFG, 0, 3⟩
-- MON_BIN_CFG: 12 T12.8
def F.MON_BIN_CFG_EN : Fld := ⟨.MON_BIN_CFG, 31, 1⟩
def F.MON_BIN_CFG_OWNER : Fld := ⟨.MON_BIN_CFG, 30, 1⟩
def F.MON_BIN_CFG_PAIR : Fld := ⟨.MON_BIN_CFG, 28, 2⟩
def F.MON_BIN_CFG_CH : Fld := ⟨.MON_BIN_CFG, 23, 5⟩
def F.MON_BIN_CFG_HANN : Fld := ⟨.MON_BIN_CFG, 22, 1⟩
def F.MON_BIN_CFG_LOG2N : Fld := ⟨.MON_BIN_CFG, 16, 5⟩
-- MON_BIN_FREQ: 12 T12.8
def F.MON_BIN_FREQ_F : Fld := ⟨.MON_BIN_FREQ, 0, 24⟩
-- MON_BIN_MAG: 12 T12.8
def F.MON_BIN_MAG_NEW : Fld := ⟨.MON_BIN_MAG, 31, 1⟩
def F.MON_BIN_MAG_MAG : Fld := ⟨.MON_BIN_MAG, 0, 24⟩
-- MON_BIN_NS: 12 T12.8
def F.MON_BIN_NS_TAG_VALID : Fld := ⟨.MON_BIN_NS, 31, 1⟩
def F.MON_BIN_NS_NS : Fld := ⟨.MON_BIN_NS, 0, 30⟩
-- PCC_CFG: 13 T13.6
def F.PCC_CFG_MODE_A : Fld := ⟨.PCC_CFG, 30, 2⟩
def F.PCC_CFG_MODE_B : Fld := ⟨.PCC_CFG, 28, 2⟩
def F.PCC_CFG_WAKE_EN : Fld := ⟨.PCC_CFG, 27, 1⟩
def F.PCC_CFG_CH_B : Fld := ⟨.PCC_CFG, 16, 5⟩
def F.PCC_CFG_CH_A : Fld := ⟨.PCC_CFG, 8, 5⟩
def F.PCC_CFG_RX_MASK : Fld := ⟨.PCC_CFG, 0, 8⟩
-- PCC_STATUS: 13 T13.6
def F.PCC_STATUS_NO_INPUT_A : Fld := ⟨.PCC_STATUS, 31, 1⟩
def F.PCC_STATUS_NO_INPUT_B : Fld := ⟨.PCC_STATUS, 30, 1⟩
def F.PCC_STATUS_RX_COUNT : Fld := ⟨.PCC_STATUS, 16, 5⟩
def F.PCC_STATUS_REF_CODE : Fld := ⟨.PCC_STATUS, 0, 4⟩
-- PCC_EVT: 13 T13.6
def F.PCC_EVT_CFG_REFUSED : Fld := ⟨.PCC_EVT, 10, 1⟩
def F.PCC_EVT_ID_MIS : Fld := ⟨.PCC_EVT, 9, 1⟩
def F.PCC_EVT_PREEMPT : Fld := ⟨.PCC_EVT, 8, 1⟩
def F.PCC_EVT_TX_ABORT : Fld := ⟨.PCC_EVT, 7, 1⟩
def F.PCC_EVT_TX_EXPIRED : Fld := ⟨.PCC_EVT, 6, 1⟩
def F.PCC_EVT_TX_DONE : Fld := ⟨.PCC_EVT, 5, 1⟩
def F.PCC_EVT_WAKE_RX : Fld := ⟨.PCC_EVT, 4, 1⟩
def F.PCC_EVT_SR_RX : Fld := ⟨.PCC_EVT, 3, 1⟩
def F.PCC_EVT_DEFECT_RX : Fld := ⟨.PCC_EVT, 2, 1⟩
def F.PCC_EVT_RX_OVR : Fld := ⟨.PCC_EVT, 1, 1⟩
def F.PCC_EVT_RX_READY : Fld := ⟨.PCC_EVT, 0, 1⟩
-- PCC_RX_POP: 13 T13.6
def F.PCC_RX_POP_POP : Fld := ⟨.PCC_RX_POP, 0, 1⟩
-- PCC_RX_HEAD: 13 T13.6
def F.PCC_RX_HEAD_VALID : Fld := ⟨.PCC_RX_HEAD, 31, 1⟩
def F.PCC_RX_HEAD_SLOT : Fld := ⟨.PCC_RX_HEAD, 24, 3⟩
def F.PCC_RX_HEAD_HEADER : Fld := ⟨.PCC_RX_HEAD, 0, 16⟩
-- PCC_RX_LEVEL: 13 T13.6
def F.PCC_RX_LEVEL_LEVEL : Fld := ⟨.PCC_RX_LEVEL, 0, 16⟩
-- PCC_RX_NS: 13 T13.6
def F.PCC_RX_NS_TAG_VALID : Fld := ⟨.PCC_RX_NS, 31, 1⟩
def F.PCC_RX_NS_NS : Fld := ⟨.PCC_RX_NS, 0, 30⟩
-- PCC_TX_CFG: 13 T13.7
def F.PCC_TX_CFG_EN : Fld := ⟨.PCC_TX_CFG, 31, 1⟩
def F.PCC_TX_CFG_RATE : Fld := ⟨.PCC_TX_CFG, 29, 2⟩
def F.PCC_TX_CFG_DEPTH : Fld := ⟨.PCC_TX_CFG, 25, 4⟩
def F.PCC_TX_CFG_REPEAT : Fld := ⟨.PCC_TX_CFG, 23, 2⟩
def F.PCC_TX_CFG_PEER_SLOT : Fld := ⟨.PCC_TX_CFG, 20, 3⟩
def F.PCC_TX_CFG_TONE : Fld := ⟨.PCC_TX_CFG, 0, 10⟩
-- PCC_TX_AUTO: 13 T13.7
def F.PCC_TX_AUTO_ID_EN : Fld := ⟨.PCC_TX_AUTO, 31, 1⟩
def F.PCC_TX_AUTO_QL_EN : Fld := ⟨.PCC_TX_AUTO, 30, 1⟩
def F.PCC_TX_AUTO_DEF_EN : Fld := ⟨.PCC_TX_AUTO, 29, 1⟩
def F.PCC_TX_AUTO_SR_EN : Fld := ⟨.PCC_TX_AUTO, 28, 1⟩
def F.PCC_TX_AUTO_ID_PERIOD : Fld := ⟨.PCC_TX_AUTO, 16, 8⟩
def F.PCC_TX_AUTO_QL_PERIOD : Fld := ⟨.PCC_TX_AUTO, 8, 8⟩
def F.PCC_TX_AUTO_TX_TTL : Fld := ⟨.PCC_TX_AUTO, 0, 8⟩
-- PCC_TX_CMD: 13 T13.7
def F.PCC_TX_CMD_TYPE : Fld := ⟨.PCC_TX_CMD, 29, 3⟩
def F.PCC_TX_CMD_LEN : Fld := ⟨.PCC_TX_CMD, 24, 5⟩
-- PCC_TX_STATUS: 13 T13.7
def F.PCC_TX_STATUS_ACTIVE : Fld := ⟨.PCC_TX_STATUS, 31, 1⟩
def F.PCC_TX_STATUS_TYPE : Fld := ⟨.PCC_TX_STATUS, 28, 3⟩
def F.PCC_TX_STATUS_QUEUED : Fld := ⟨.PCC_TX_STATUS, 16, 3⟩
def F.PCC_TX_STATUS_SEQ : Fld := ⟨.PCC_TX_STATUS, 0, 8⟩
-- PCC_SLOT_CFG: 13 T13.8
def F.PCC_SLOT_CFG_EN : Fld := ⟨.PCC_SLOT_CFG, 31, 1⟩
def F.PCC_SLOT_CFG_RX : Fld := ⟨.PCC_SLOT_CFG, 30, 1⟩
def F.PCC_SLOT_CFG_RATE : Fld := ⟨.PCC_SLOT_CFG, 28, 2⟩
def F.PCC_SLOT_CFG_AUTO_DSP : Fld := ⟨.PCC_SLOT_CFG, 27, 1⟩
def F.PCC_SLOT_CFG_CAR : Fld := ⟨.PCC_SLOT_CFG, 26, 1⟩
def F.PCC_SLOT_CFG_TONE : Fld := ⟨.PCC_SLOT_CFG, 0, 10⟩
-- PCC_SLOT_STATUS: 13 T13.8
def F.PCC_SLOT_STATUS_STATE : Fld := ⟨.PCC_SLOT_STATUS, 30, 2⟩
def F.PCC_SLOT_STATUS_FROZEN : Fld := ⟨.PCC_SLOT_STATUS, 29, 1⟩
def F.PCC_SLOT_STATUS_DSP : Fld := ⟨.PCC_SLOT_STATUS, 28, 1⟩
def F.PCC_SLOT_STATUS_BOUND : Fld := ⟨.PCC_SLOT_STATUS, 27, 1⟩
def F.PCC_SLOT_STATUS_ID_MIS : Fld := ⟨.PCC_SLOT_STATUS, 26, 1⟩
def F.PCC_SLOT_STATUS_GAIN : Fld := ⟨.PCC_SLOT_STATUS, 16, 9⟩
def F.PCC_SLOT_STATUS_LEVEL : Fld := ⟨.PCC_SLOT_STATUS, 0, 16⟩
-- PCC_PEER: 13 T13.8
def F.PCC_PEER_PEER_ID : Fld := ⟨.PCC_PEER, 0, 16⟩
-- PCC_EXP_ID: 13 T13.8
def F.PCC_EXP_ID_CHK : Fld := ⟨.PCC_EXP_ID, 31, 1⟩
def F.PCC_EXP_ID_ID : Fld := ⟨.PCC_EXP_ID, 0, 16⟩
-- PCC_FAR_DEF: 13 T13.8
def F.PCC_FAR_DEF_VALID : Fld := ⟨.PCC_FAR_DEF, 31, 1⟩
def F.PCC_FAR_DEF_FLAGS : Fld := ⟨.PCC_FAR_DEF, 8, 3⟩
def F.PCC_FAR_DEF_RDI_MAP : Fld := ⟨.PCC_FAR_DEF, 0, 8⟩
-- PCC_SR_RX: 13 T13.8
def F.PCC_SR_RX_VALID : Fld := ⟨.PCC_SR_RX, 31, 1⟩
def F.PCC_SR_RX_SR : Fld := ⟨.PCC_SR_RX, 0, 16⟩
-- CAL_CFG: 16 T16.10
def F.CAL_CFG_BG_EN : Fld := ⟨.CAL_CFG, 31, 1⟩
def F.CAL_CFG_USE_REF_IN : Fld := ⟨.CAL_CFG, 30, 1⟩
def F.CAL_CFG_PACE : Fld := ⟨.CAL_CFG, 16, 8⟩
def F.CAL_CFG_STORE_MIN : Fld := ⟨.CAL_CFG, 8, 8⟩
-- CAL_STATUS: 16 T16.10
def F.CAL_STATUS_REF_IN_OK : Fld := ⟨.CAL_STATUS, 31, 1⟩
def F.CAL_STATUS_REF_IN_100 : Fld := ⟨.CAL_STATUS, 30, 1⟩
def F.CAL_STATUS_PROD_VALID : Fld := ⟨.CAL_STATUS, 29, 1⟩
def F.CAL_STATUS_STUCK_ITEM : Fld := ⟨.CAL_STATUS, 24, 4⟩
-- CAL_EVT: 16 T16.10
def F.CAL_EVT_PROD_DONE : Fld := ⟨.CAL_EVT, 8, 1⟩
def F.CAL_EVT_NO_RECORD : Fld := ⟨.CAL_EVT, 7, 1⟩
def F.CAL_EVT_STORE_FAIL : Fld := ⟨.CAL_EVT, 6, 1⟩
def F.CAL_EVT_TR_UE : Fld := ⟨.CAL_EVT, 5, 1⟩
def F.CAL_EVT_TR_WR_DENIED : Fld := ⟨.CAL_EVT, 4, 1⟩
def F.CAL_EVT_REF_LOST : Fld := ⟨.CAL_EVT, 3, 1⟩
def F.CAL_EVT_STUCK : Fld := ⟨.CAL_EVT, 2, 1⟩
def F.CAL_EVT_DISCARD : Fld := ⟨.CAL_EVT, 1, 1⟩
def F.CAL_EVT_DONE : Fld := ⟨.CAL_EVT, 0, 1⟩
-- CAL_CMD: 16 T16.10
def F.CAL_CMD_CMD : Fld := ⟨.CAL_CMD, 28, 4⟩
-- CAL_RESULT: 16 T16.10
def F.CAL_RESULT_BUSY : Fld := ⟨.CAL_RESULT, 31, 1⟩
def F.CAL_RESULT_CODE : Fld := ⟨.CAL_RESULT, 0, 4⟩
-- CAL_TR_STATUS: 16 T16.10
def F.CAL_TR_STATUS_BUSY : Fld := ⟨.CAL_TR_STATUS, 31, 1⟩
-- CAL_SLICE_SEL: 16 T16.11
def F.CAL_SLICE_SEL_LANE : Fld := ⟨.CAL_SLICE_SEL, 16, 2⟩
def F.CAL_SLICE_SEL_SLICE : Fld := ⟨.CAL_SLICE_SEL, 0, 7⟩
-- CAL_SLICE_TAP: 16 T16.11
def F.CAL_SLICE_TAP_TARGET : Fld := ⟨.CAL_SLICE_TAP, 16, 9⟩
def F.CAL_SLICE_TAP_TAP : Fld := ⟨.CAL_SLICE_TAP, 0, 9⟩
-- BST_CMD: 16 T16.12
def F.BST_CMD_CMD : Fld := ⟨.BST_CMD, 28, 4⟩
def F.BST_CMD_HOLD_ON_FAIL : Fld := ⟨.BST_CMD, 27, 1⟩
def F.BST_CMD_TARGET : Fld := ⟨.BST_CMD, 0, 8⟩
-- BST_RESULT: 16 T16.12
def F.BST_RESULT_CODE : Fld := ⟨.BST_RESULT, 0, 4⟩
-- BST_STATUS: 16 T16.12
def F.BST_STATUS_FULL_RUN : Fld := ⟨.BST_STATUS, 31, 1⟩
def F.BST_STATUS_RUNNING : Fld := ⟨.BST_STATUS, 24, 4⟩
def F.BST_STATUS_QUEUED : Fld := ⟨.BST_STATUS, 16, 5⟩
def F.BST_STATUS_HEADROOM : Fld := ⟨.BST_STATUS, 0, 10⟩
-- BST_EVT: 16 T16.12
def F.BST_EVT_EXPIRED : Fld := ⟨.BST_EVT, 4, 1⟩
def F.BST_EVT_REFUSED : Fld := ⟨.BST_EVT, 3, 1⟩
def F.BST_EVT_ABORTED : Fld := ⟨.BST_EVT, 2, 1⟩
def F.BST_EVT_FAIL : Fld := ⟨.BST_EVT, 1, 1⟩
def F.BST_EVT_DONE : Fld := ⟨.BST_EVT, 0, 1⟩
-- BST_RES: 16 T16.12
def F.BST_RES_OUTCOME : Fld := ⟨.BST_RES, 28, 4⟩
def F.BST_RES_HELD : Fld := ⟨.BST_RES, 27, 1⟩
def F.BST_RES_DETAIL : Fld := ⟨.BST_RES, 16, 8⟩
def F.BST_RES_RUN_CNT : Fld := ⟨.BST_RES, 0, 16⟩
-- PMC_CFG: 17 T17.8
def F.PMC_CFG_EN : Fld := ⟨.PMC_CFG, 31, 1⟩
def F.PMC_CFG_USER_RD : Fld := ⟨.PMC_CFG, 30, 1⟩
def F.PMC_CFG_SNAP : Fld := ⟨.PMC_CFG, 0, 1⟩
-- PMC_EVT: 17 T17.8
def F.PMC_EVT_LOG_DROP : Fld := ⟨.PMC_EVT, 4, 1⟩
def F.PMC_EVT_DUMP_REFUSED : Fld := ⟨.PMC_EVT, 3, 1⟩
def F.PMC_EVT_DUMP_WRAP : Fld := ⟨.PMC_EVT, 2, 1⟩
def F.PMC_EVT_DUMP_DROP : Fld := ⟨.PMC_EVT, 1, 1⟩
def F.PMC_EVT_SAMPLE : Fld := ⟨.PMC_EVT, 0, 1⟩
-- PMC_DUMP_CFG: 17 T17.8
def F.PMC_DUMP_CFG_EN : Fld := ⟨.PMC_DUMP_CFG, 31, 1⟩
def F.PMC_DUMP_CFG_DEST : Fld := ⟨.PMC_DUMP_CFG, 30, 1⟩
def F.PMC_DUMP_CFG_INTERVAL : Fld := ⟨.PMC_DUMP_CFG, 0, 20⟩
-- PMC_SAMPLE_SRC: 17 T17.8
def F.PMC_SAMPLE_SRC_VALID : Fld := ⟨.PMC_SAMPLE_SRC, 31, 1⟩
def F.PMC_SAMPLE_SRC_PRIV : Fld := ⟨.PMC_SAMPLE_SRC, 30, 1⟩
def F.PMC_SAMPLE_SRC_CTR : Fld := ⟨.PMC_SAMPLE_SRC, 24, 5⟩
def F.PMC_SAMPLE_SRC_CORE : Fld := ⟨.PMC_SAMPLE_SRC, 0, 2⟩
-- PMC_SAMPLE_SEG: 17 T17.8
def F.PMC_SAMPLE_SEG_FLOW : Fld := ⟨.PMC_SAMPLE_SEG, 16, 12⟩
def F.PMC_SAMPLE_SEG_SEG : Fld := ⟨.PMC_SAMPLE_SEG, 0, 16⟩
-- PMC_CTR_CFG: 17 T17.8
def F.PMC_CTR_CFG_EN : Fld := ⟨.PMC_CTR_CFG, 31, 1⟩
def F.PMC_CTR_CFG_CHAIN : Fld := ⟨.PMC_CTR_CFG, 30, 1⟩
def F.PMC_CTR_CFG_SAMPLE : Fld := ⟨.PMC_CTR_CFG, 29, 1⟩
def F.PMC_CTR_CFG_QUAL : Fld := ⟨.PMC_CTR_CFG, 16, 12⟩
def F.PMC_CTR_CFG_EVENT : Fld := ⟨.PMC_CTR_CFG, 0, 10⟩
-- SAF_FAULT_CAUSE: 17 T17.9
def F.SAF_FAULT_CAUSE_WAKE : Fld := ⟨.SAF_FAULT_CAUSE, 2, 1⟩
def F.SAF_FAULT_CAUSE_REACTION : Fld := ⟨.SAF_FAULT_CAUSE, 1, 1⟩
def F.SAF_FAULT_CAUSE_NOT_CONFIGURED : Fld := ⟨.SAF_FAULT_CAUSE, 0, 1⟩
-- SAF_CFG_ERR: 17 T17.9
def F.SAF_CFG_ERR_PAGE : Fld := ⟨.SAF_CFG_ERR, 12, 20⟩
def F.SAF_CFG_ERR_VALID : Fld := ⟨.SAF_CFG_ERR, 0, 1⟩
-- SAF_FO_PEND: 17 T17.9
def F.SAF_FO_PEND_FO1 : Fld := ⟨.SAF_FO_PEND, 1, 1⟩
def F.SAF_FO_PEND_FO0 : Fld := ⟨.SAF_FO_PEND, 0, 1⟩
-- SAF_REACT: 17 T17.9
def F.SAF_REACT_FO1 : Fld := ⟨.SAF_REACT, 4, 1⟩
def F.SAF_REACT_FO0 : Fld := ⟨.SAF_REACT, 3, 1⟩
def F.SAF_REACT_DNU : Fld := ⟨.SAF_REACT, 2, 1⟩
def F.SAF_REACT_PPS_SQ : Fld := ⟨.SAF_REACT, 1, 1⟩
def F.SAF_REACT_FAULT : Fld := ⟨.SAF_REACT, 0, 1⟩
-- SAF_WIN_CTRL: 17 T17.11
def F.SAF_WIN_CTRL_OPEN : Fld := ⟨.SAF_WIN_CTRL, 31, 1⟩
def F.SAF_WIN_CTRL_CLOSE : Fld := ⟨.SAF_WIN_CTRL, 30, 1⟩
def F.SAF_WIN_CTRL_NO_REACT : Fld := ⟨.SAF_WIN_CTRL, 29, 1⟩
def F.SAF_WIN_CTRL_LEN : Fld := ⟨.SAF_WIN_CTRL, 0, 12⟩
-- SAF_WIN_STATUS: 17 T17.11
def F.SAF_WIN_STATUS_OPEN : Fld := ⟨.SAF_WIN_STATUS, 31, 1⟩
def F.SAF_WIN_STATUS_NEEDED : Fld := ⟨.SAF_WIN_STATUS, 30, 1⟩
def F.SAF_WIN_STATUS_REMAIN : Fld := ⟨.SAF_WIN_STATUS, 0, 12⟩
-- SAF_EVT: 17 T17.11
def F.SAF_EVT_INJ_END : Fld := ⟨.SAF_EVT, 2, 1⟩
def F.SAF_EVT_WIN_CLOSED : Fld := ⟨.SAF_EVT, 1, 1⟩
def F.SAF_EVT_WIN_DENIED : Fld := ⟨.SAF_EVT, 0, 1⟩
-- SAF_INJ_CFG: 17 T17.11
def F.SAF_INJ_CFG_EN : Fld := ⟨.SAF_INJ_CFG, 31, 1⟩
def F.SAF_INJ_CFG_ACTIVE : Fld := ⟨.SAF_INJ_CFG, 30, 1⟩
def F.SAF_INJ_CFG_CODE : Fld := ⟨.SAF_INJ_CFG, 24, 6⟩
def F.SAF_INJ_CFG_TARGET : Fld := ⟨.SAF_INJ_CFG, 0, 20⟩
-- LB_CMD: 17 T17.4
def F.LB_CMD_CMD : Fld := ⟨.LB_CMD, 24, 8⟩
-- LB_STATUS: 17 T17.4
def F.LB_STATUS_BUSY : Fld := ⟨.LB_STATUS, 31, 1⟩
def F.LB_STATUS_DONE : Fld := ⟨.LB_STATUS, 30, 1⟩
def F.LB_STATUS_REJECT : Fld := ⟨.LB_STATUS, 29, 1⟩
def F.LB_STATUS_OWNER : Fld := ⟨.LB_STATUS, 24, 2⟩
def F.LB_STATUS_CODE : Fld := ⟨.LB_STATUS, 0, 4⟩
-- CORE_MPU_BASE: 17 T17.2
def F.CORE_MPU_BASE_BASE : Fld := ⟨.CORE_MPU_BASE, 12, 20⟩
-- CORE_MPU_CFG: 17 T17.2
def F.CORE_MPU_CFG_EN : Fld := ⟨.CORE_MPU_CFG, 31, 1⟩
def F.CORE_MPU_CFG_LOCK : Fld := ⟨.CORE_MPU_CFG, 30, 1⟩
def F.CORE_MPU_CFG_M : Fld := ⟨.CORE_MPU_CFG, 29, 1⟩
def F.CORE_MPU_CFG_SIZE : Fld := ⟨.CORE_MPU_CFG, 8, 5⟩
def F.CORE_MPU_CFG_R : Fld := ⟨.CORE_MPU_CFG, 2, 1⟩
def F.CORE_MPU_CFG_W : Fld := ⟨.CORE_MPU_CFG, 1, 1⟩
def F.CORE_MPU_CFG_X : Fld := ⟨.CORE_MPU_CFG, 0, 1⟩
-- CORE_MPU_FAULT: 17 T17.2
def F.CORE_MPU_FAULT_ADDR : Fld := ⟨.CORE_MPU_FAULT, 0, 32⟩
-- CORE_MPU_FAULT_INFO: 17 T17.2
def F.CORE_MPU_FAULT_INFO_VALID : Fld := ⟨.CORE_MPU_FAULT_INFO, 31, 1⟩
def F.CORE_MPU_FAULT_INFO_KIND : Fld := ⟨.CORE_MPU_FAULT_INFO, 16, 2⟩
def F.CORE_MPU_FAULT_INFO_CNT : Fld := ⟨.CORE_MPU_FAULT_INFO, 0, 16⟩
-- CORE_WDT_CFG: 17 T17.2
def F.CORE_WDT_CFG_EN : Fld := ⟨.CORE_WDT_CFG, 31, 1⟩
def F.CORE_WDT_CFG_TIMEOUT : Fld := ⟨.CORE_WDT_CFG, 0, 7⟩
-- PMK_CFG: 11 T11.7
def F.PMK_CFG_AUTO_STEP : Fld := ⟨.PMK_CFG, 31, 1⟩
def F.PMK_CFG_T_SRC : Fld := ⟨.PMK_CFG, 26, 2⟩
def F.PMK_CFG_STEP_TH : Fld := ⟨.PMK_CFG, 0, 16⟩
-- PMK_STATUS: 11 T11.7
def F.PMK_STATUS_TIME_VALID : Fld := ⟨.PMK_STATUS, 31, 1⟩
def F.PMK_STATUS_TIME_FAULT : Fld := ⟨.PMK_STATUS, 30, 1⟩
def F.PMK_STATUS_ADJ_BUSY : Fld := ⟨.PMK_STATUS, 29, 1⟩
def F.PMK_STATUS_STEP_PEND : Fld := ⟨.PMK_STATUS, 28, 1⟩
def F.PMK_STATUS_PPS_SQ : Fld := ⟨.PMK_STATUS, 27, 1⟩
def F.PMK_STATUS_STEP_CNT : Fld := ⟨.PMK_STATUS, 0, 16⟩
-- PMK_EVT: 11 T11.7
def F.PMK_EVT_SEC_MIS : Fld := ⟨.PMK_EVT, 8, 1⟩
def F.PMK_EVT_PTP_DROP : Fld := ⟨.PMK_EVT, 7, 1⟩
def F.PMK_EVT_ADJ_REFUSED : Fld := ⟨.PMK_EVT, 6, 1⟩
def F.PMK_EVT_ADJ_DONE : Fld := ⟨.PMK_EVT, 5, 1⟩
def F.PMK_EVT_STEPPED : Fld := ⟨.PMK_EVT, 4, 1⟩
def F.PMK_EVT_TCH_SYNC_LOST : Fld := ⟨.PMK_EVT, 3, 1⟩
def F.PMK_EVT_TIME_FAULT : Fld := ⟨.PMK_EVT, 2, 1⟩
def F.PMK_EVT_PPS_SQ_SET : Fld := ⟨.PMK_EVT, 1, 1⟩
def F.PMK_EVT_TIME_VALID_SET : Fld := ⟨.PMK_EVT, 0, 1⟩
-- PMK_CTRL: 11 T11.7
def F.PMK_CTRL_STEP_CANCEL : Fld := ⟨.PMK_CTRL, 1, 1⟩
def F.PMK_CTRL_STEP : Fld := ⟨.PMK_CTRL, 0, 1⟩
-- PMK_UTC: 11 T11.7
def F.PMK_UTC_UTC_OFS : Fld := ⟨.PMK_UTC, 16, 16⟩
def F.PMK_UTC_LEAP61 : Fld := ⟨.PMK_UTC, 1, 1⟩
def F.PMK_UTC_LEAP59 : Fld := ⟨.PMK_UTC, 0, 1⟩
-- PMK_PPS_CFG: 11 T11.7
def F.PMK_PPS_CFG_EN : Fld := ⟨.PMK_PPS_CFG, 31, 1⟩
def F.PMK_PPS_CFG_SQ_FREERUN : Fld := ⟨.PMK_PPS_CFG, 30, 1⟩
def F.PMK_PPS_CFG_WIDTH : Fld := ⟨.PMK_PPS_CFG, 16, 10⟩
def F.PMK_PPS_CFG_COMP : Fld := ⟨.PMK_PPS_CFG, 0, 16⟩
-- PMK_TOD_CFG: 11 T11.7
def F.PMK_TOD_CFG_EN : Fld := ⟨.PMK_TOD_CFG, 31, 1⟩
def F.PMK_TOD_CFG_BAUD : Fld := ⟨.PMK_TOD_CFG, 28, 2⟩
def F.PMK_TOD_CFG_GNSS_ALIGN : Fld := ⟨.PMK_TOD_CFG, 27, 1⟩
def F.PMK_TOD_CFG_GNSS_BAUD : Fld := ⟨.PMK_TOD_CFG, 24, 2⟩
-- PMK_TCH_CFG: 11 T11.7
def F.PMK_TCH_CFG_OUT_EN : Fld := ⟨.PMK_TCH_CFG, 31, 1⟩
def F.PMK_TCH_CFG_CHAIN_DLY : Fld := ⟨.PMK_TCH_CFG, 0, 20⟩
-- PMK_TCH_STATUS: 11 T11.7
def F.PMK_TCH_STATUS_IN_SYNC : Fld := ⟨.PMK_TCH_STATUS, 31, 1⟩
def F.PMK_TCH_STATUS_HOPS_IN : Fld := ⟨.PMK_TCH_STATUS, 28, 2⟩
def F.PMK_TCH_STATUS_QL_IN : Fld := ⟨.PMK_TCH_STATUS, 0, 4⟩
-- PMK_PC_CFG: 11 T11.7
def F.PMK_PC_CFG_EN : Fld := ⟨.PMK_PC_CFG, 31, 1⟩
def F.PMK_PC_CFG_PERIOD : Fld := ⟨.PMK_PC_CFG, 16, 8⟩
def F.PMK_PC_CFG_CARRIER : Fld := ⟨.PMK_PC_CFG, 0, 1⟩
-- PMK_PC_TAG: 11 T11.7
def F.PMK_PC_TAG_VALID : Fld := ⟨.PMK_PC_TAG, 31, 1⟩
def F.PMK_PC_TAG_SEC : Fld := ⟨.PMK_PC_TAG, 0, 31⟩
-- PMK_TT_CFG: 11 T11.8
def F.PMK_TT_CFG_EN : Fld := ⟨.PMK_TT_CFG, 31, 1⟩
def F.PMK_TT_CFG_SINGLE_FIBRE : Fld := ⟨.PMK_TT_CFG, 30, 1⟩
-- PMK_TT_STATUS: 11 T11.8
def F.PMK_TT_STATUS_RUN : Fld := ⟨.PMK_TT_STATUS, 31, 1⟩
def F.PMK_TT_STATUS_FAR_VALID : Fld := ⟨.PMK_TT_STATUS, 30, 1⟩
def F.PMK_TT_STATUS_FAR_CD_FINE : Fld := ⟨.PMK_TT_STATUS, 29, 1⟩
def F.PMK_TT_STATUS_PAIRS : Fld := ⟨.PMK_TT_STATUS, 24, 4⟩
-- PMK_TT_EVT: 11 T11.8
def F.PMK_TT_EVT_HIST_MISS : Fld := ⟨.PMK_TT_EVT, 3, 1⟩
def F.PMK_TT_EVT_MSG_BAD : Fld := ⟨.PMK_TT_EVT, 2, 1⟩
def F.PMK_TT_EVT_PAUSE : Fld := ⟨.PMK_TT_EVT, 1, 1⟩
def F.PMK_TT_EVT_RUN : Fld := ⟨.PMK_TT_EVT, 0, 1⟩
-- PMK_TT_TAG: 11 T11.8
def F.PMK_TT_TAG_VALID : Fld := ⟨.PMK_TT_TAG, 31, 1⟩
def F.PMK_TT_TAG_SEC : Fld := ⟨.PMK_TT_TAG, 0, 31⟩
-- PMK_TT_N: 11 T11.8
def F.PMK_TT_N_SPREAD : Fld := ⟨.PMK_TT_N, 16, 16⟩
def F.PMK_TT_N_N : Fld := ⟨.PMK_TT_N, 0, 16⟩
-- PMK_PTP_CFG: 11 T11.9
def F.PMK_PTP_CFG_PTP_EN : Fld := ⟨.PMK_PTP_CFG, 31, 1⟩

end Sys2Proof.Machine
end

