-- ==== Sys2Proof/Machine/Tab.lean ====
section
/-! DEFINITION. Finite tables held as lists in one canonical form: keys strictly rising, no entry equal to what an
unlisted key reads as. The register file, the memories and the per-instance records are such tables, so that equal
contents are equal data. -/

namespace Sys2Proof.Machine

variable {κ α : Type} [DecidableEq κ] [DecidableEq α]

/-- The first entry under key `k`, if there is one. -/
def Tab.look (k : κ) : List (κ × α) → Option α
  | [] => none
  | (k', v) :: t => if k' = k then some v else Tab.look k t

/-- What key `k` holds: its entry, or `d` where none is listed. -/
def Tab.get (d : α) (k : κ) (t : List (κ × α)) : α := (Tab.look k t).getD d

/-- The table without any entry under key `k`. -/
def Tab.erase (k : κ) : List (κ × α) → List (κ × α)
  | [] => []
  | (k', v) :: t => if k' = k then Tab.erase k t else (k', v) :: Tab.erase k t

/-- The table with an entry for `k` placed before the first greater key. -/
def Tab.ins (lt : κ → κ → Bool) (k : κ) (v : α) : List (κ × α) → List (κ × α)
  | [] => [(k, v)]
  | (k', v') :: t => if lt k k' then (k, v) :: (k', v') :: t else (k', v') :: Tab.ins lt k v t

/-- The table with `k` holding `v`; writing what an unlisted key reads as removes the entry. -/
def Tab.set (lt : κ → κ → Bool) (d : α) (k : κ) (v : α) (t : List (κ × α)) : List (κ × α) :=
  if v = d then Tab.erase k t else Tab.ins lt k v (Tab.erase k t)

/-- Every key of the list is above `k`. -/
def Tab.above (lt : κ → κ → Bool) (k : κ) (t : List (κ × α)) : Bool := t.all fun e => lt k e.1

/-- The canonical form: keys strictly rising, and no entry equal to what its unlisted key reads as. -/
def Tab.wf (lt : κ → κ → Bool) (d : κ → α) : List (κ × α) → Bool
  | [] => true
  | (k, v) :: t => Tab.above lt k t && decide (v ≠ d k) && Tab.wf lt d t

/-- The order of tables keyed by a number. -/
def natLt (a b : Nat) : Bool := decide (a < b)

/-- A table keyed by an instance number: the records of the carriers, subcarriers, flows and so on. -/
abbrev NTab (α : Type) := List (Nat × α)

/-- Record `k` of a numbered table whose unlisted records are `d`. DESIGN CHOICE, unsafe (log 7). -/
def NTab.get (d : α) (t : NTab α) (k : Nat) : α := Tab.get d k t

/-- The numbered table with record `k` replaced. -/
def NTab.set (d : α) (t : NTab α) (k : Nat) (v : α) : NTab α := Tab.set natLt d k v t

/-- The numbered table with record `k` changed by `f`. -/
def NTab.mod (d : α) (t : NTab α) (k : Nat) (f : α → α) : NTab α := NTab.set d t k (f (NTab.get d t k))

/-- The numbered table with every listed record changed by `f`; a record that becomes what an unlisted one reads as
goes. -/
def NTab.mapAll (d : α) (t : NTab α) (f : α → α) : NTab α :=
  (List.map (fun e => (e.1, f e.2)) t).filter fun e => decide (e.2 ≠ d)

end Sys2Proof.Machine
end

