-- ==== Sys2Proof/Machine/State.lean ====
section
/-! DEFINITION. The state of the block, as plain data: the register file of the address map, the memories, and beside
them the state that no register shows (spec/ names it in the rules cited), one record per function. State.reset is the
device right after the release of the power-on reset. -/

namespace Sys2Proof.Machine

/-! ## Keys of the register file -/

/-- One register: its name, its instance (or its element, on a page of one instance) and its element. -/
structure RegKey where
  id : RegId
  i : Nat
  j : Nat
  deriving DecidableEq, Repr

/-- The order of the register file's entries: by name, instance, element. -/
def RegKey.lt (a b : RegKey) : Bool :=
  if a.id.ctorIdx = b.id.ctorIdx then
    if a.i = b.i then decide (a.j < b.j) else decide (a.i < b.i)
  else decide (a.id.ctorIdx < b.id.ctorIdx)

/-- The key of register `id`, instance `i`, element `j`. -/
abbrev R (id : RegId) (i : Nat := 0) (j : Nat := 0) : RegKey := ⟨id, i, j⟩

/-- The reset value of a register: the field maps' value, with the registers whose reset value differs by instance or
comes from the option defaults of Table 15.7 (DEV.OPT, PMU_CFG.WAKE_RETRY, RST.IDLE_TO, AON_CFG), the wake sequence of
Table 15.4, the reactions of Table 17.6 and the main taps of R60
and the deskew limit of a ZQ4000 (Table 8.11). DESIGN CHOICE, safe (log 1). -/
def RegKey.reset (k : RegKey) : W32 :=
  match k.id with
  | .DEV_OPT => match k.i with
    | 0 => 0x000301BA | 1 => 0x30000002 | 2 => 0x00030900 | 3 => 0x00006400 | _ => 0
  | .PMU_CFG => 0x00036401
  | .RST_IDLE_TO => 0x64
  | .AON_CFG => 0xC000003A
  | .PMU_WAKE_TBL => match k.i with
    | 1 => 0x03E84E20 | 2 => 0x001400C8 | 3 => 0x00004E20 | 4 => 0x000A01F4 | 5 => 0x00001388 | 6 => 0x00000064 | _ => 0
  | .PMU_DOM => if k.i = 1 then 2 else 0
  | .SAF_REACT => match k.i with
    | 0 => 1 | 3 => 7 | 4 => 1 | 5 => 1 | 6 => 5 | 9 => 2 | _ => 0
  | .STB_REF_CFG => if 10 ≤ k.i ∧ k.i ≤ 12 then 0x100F1810 else 0x200F1810
  | .HAY_CFG => 0x14006400
  | .CAX_TX_PRE => if k.j % 32 = 8 then 0x400 else 0
  | _ => k.id.info.rst

/-! ## Fuses and straps -/

/-- What the fuses and the DEV_ID balls give (R5, R8, R25, R357, R367, R430): the variant, the extended screening, the
unique identity, the life-cycle state (0 BLANK, 1 MANUFACTURE, 2 DEPLOYED, 3 RETURNED), whether KEK0 and the key hash
are programmed and what they are, the reset-source levels and the strap. -/
structure Fuses where
  zq2000 : Bool
  screen : Bool
  uid : BitVec 64
  lc : Nat
  kek0 : Option (BitVec 256)
  keyHash : Option (BitVec 384)
  rstMap : List Nat
  devId : Nat
  deriving DecidableEq, Repr

/-! ## Records of the line chapters -/

/-- A kept snapshot of the receiver (R88): its age in milliseconds, the gain, the frequency offset, dispersion and clock
registers, the express step, and of each subcarrier its state and its MIMO taps and carrier phase, which stand here as
two words. -/
structure Snap where
  age : Nat
  gain : Nat
  fofs : W32
  cd : W32
  clk : W32
  scs : List Nat
  eqs : List (Option (W32 × W32))
  deriving DecidableEq, Repr

/-- The sequence a receiver runs (Tables 4.10 and 4.11). -/
inductive AcqSeq where
  | none
  | cold
  | warm
  deriving DecidableEq, Repr

/-- A persistence filter (R129, R133): the candidate value and how often in a row it has come. -/
structure Filt where
  val : Nat
  n : Nat
  deriving DecidableEq, Repr

/-- The copy of a 64-byte field being collected, the last complete copy and how many in a row were equal (R134, R139).
-/
structure Copy64 where
  buf : List Byte
  last : List Byte
  n : Nat
  deriving DecidableEq, Repr

/-- What a carrier holds beside its registers. Transmit: the latched change descriptor (R45), whether the change alters
RATE or MODE (R43), whether its announcement is on the line (R44), whether it waits for an OIF frame boundary, the hold
of R49, whether a whole multiframe of FILL was sent (R66), TX_SHAPE in force (R59), the pre-emphasis in force (R60), the
skew applied per lane in 0.1 ps (R62), the transmit FN and JC (R115). Receive: the profile in force (R40), the armed
announcement with the multiframes left (R46), the sequence running (R89), the snapshots (R88), the digital gain in 1/256
(R73), the ADC clock fault (R86), the pending RX_SHAPE and the pilot boost in force (R76), the profile mismatch that
holds subcarriers (R47), the alignment of an OIF signal (R71), the subcarrier in the pilot search and whether its search
is full (R89), the snapshot that the running relock uses (R91). Line frame: the carrier-wide filters and the trace (R127
to R134), the differing descriptor last read (R47), the time message's bytes received in this multiframe, by FN, with
whether any was discarded, and those being sent (R135), and the headers and coded overheads of the frames last sent on
the eight subcarriers. -/
structure Carrier where
  latched : W32
  rateChg : Bool
  onLine : Bool
  oifWait : Bool
  hold : Bool
  fillMf : Bool
  shape : W32
  pre : List (Nat × W32)
  skew : NTab Int
  fn : Nat
  jc : Nat
  rxForce : W32
  armed : Option (W32 × Nat)
  seq : AcqSeq
  snaps : List Snap
  gain : Nat
  adcFault : Bool
  shapePend : Bool
  boost : Nat
  mismatch : Nat
  oifAlign : Bool
  search : Option (Nat × Bool)
  relock : Option Snap
  rdiF : Filt
  mapF : Filt
  srF : Filt
  tti : Copy64
  rdDesc : Option W32
  ttm : List (Nat × Byte × Byte)
  ttmBad : Bool
  ttmOut : List Byte
  out : List (Header × Overhead)
  deriving DecidableEq, Repr

/-- A carrier after reset. -/
def Carrier.init : Carrier :=
  { latched := 0x0800A000, rateChg := false, onLine := false, oifWait := false, hold := false, fillMf := false
    shape := 5, pre := [], skew := [], fn := 0, jc := 0, rxForce := 0x0800A000, armed := none, seq := .none, snaps := []
    gain := 0, adcFault := false, shapePend := false, boost := 0, mismatch := 0, oifAlign := false, search := none
    relock := none, rdiF := ⟨0, 0⟩, mapF := ⟨0, 0⟩, srF := ⟨0, 0⟩, tti := ⟨[], [], 0⟩, rdDesc := none, ttm := []
    ttmBad := false, ttmOut := [], out := [] }

/-- The descriptor bytes read from one multiframe (R123): FN mod 4, the byte, PEND and COUNT. -/
structure DescByte where
  pos : Nat
  byte : Nat
  pend : Bool
  count : Nat
  deriving DecidableEq, Repr

/-- A remote error record (R130): multiframes covered, corrected bits, uncorrectable codewords. -/
structure ErrRec where
  nmf : Nat
  corr : Nat
  unc : Nat
  deriving DecidableEq, Repr

/-- The receiver's and the decoder's sums over a Postmark second (R81, R86, R109): line bits, corrected bits, codewords,
uncorrectable ones, the peak and the iterations; the lowest SNR and the highest SOP rate. -/
structure FecAcc where
  bits : Nat
  corr : Nat
  cw : Nat
  unc : Nat
  peak : Nat
  iter : Nat
  snrMin : Option Nat
  sop : Nat
  deriving DecidableEq, Repr

/-- Nothing counted. -/
def FecAcc.zero : FecAcc := ⟨0, 0, 0, 0, 0, 0, none, 0⟩

/-- The line frame's sums over a Postmark second (R146): near-end and far-end corrected bits and uncorrectable
codewords, the far end's multiframes, and the flags NE_DEF, FE_DEF, FE_GAP and OOF_SEEN in bits 0 to 3. -/
structure PmAcc where
  corr : Nat
  unc : Nat
  feCorr : Nat
  feUnc : Nat
  feMf : Nat
  flags : Nat
  deriving DecidableEq, Repr

/-- Nothing counted. -/
def PmAcc.zero : PmAcc := ⟨0, 0, 0, 0, 0, 0⟩

/-- The decoder's 1 ms windows (R106, R108): the Postmark millisecond that is open, whether it holds an uncorrectable
codeword, its corrected and line bits, and how many closed windows in a row held an uncorrectable codeword, held none,
had an estimate above the degrade limit, had one below 0.8 of it. -/
structure DecWin where
  ms : Nat
  unc : Bool
  corr : Nat
  bits : Nat
  uncRun : Nat
  clean : Nat
  deg : Nat
  fine : Nat
  deriving DecidableEq, Repr

/-- What a subcarrier holds beside its registers. Receiver: its MIMO taps and carrier phase, as two words, none for the
default centre taps (R91, R92). Decoder: the sums of the second that is open and of what comes after it, with the second
itself (R11, R109), the multiframe's counts (R110), the time from which codewords are decoded and whether one has been
(R100), the iteration limits of the codeword being decoded and EARLY_STOP (R99), the 1 ms windows, the frames left of a
crossover (R103), the segments marked errored, by FN and place (R104). Line frame: the frame position, the hypotheses
and those that qualified (R117, R118), the failed matches (R119), the header runs (R120), the running JC and whether the
payload of the frame is discarded (R121), the descriptor bytes of this multiframe and the last complete descriptor
(R123), the remote error record parts (R131), the received MSI (R139), the maps in force, the copies that passed their
check and those that wait for STATE (R138), the slots in MSIM, the pending and the sent remote error record with its
number (R130), the per-second sums as above (R146). -/
structure Sc where
  eq : Option (W32 × W32)
  fecSec : Nat
  fecCur : FecAcc
  fecNext : FecAcc
  mCorr : Nat
  mUnc : Nat
  decFrom : Option Nat
  live : Bool
  lim : Option (Nat × Nat × Bool)
  win : Option DecWin
  xover : Nat
  marks : List (Nat × Nat)
  pos : Nat
  hyps : List (Nat × Nat)
  qual : List Nat
  awFail : Nat
  lastFn : Option Nat
  wrongFn : Nat
  noHdr : Nat
  scidBad : Nat
  scidOk : Nat
  jcPrev : Option Nat
  jcRun : Option Nat
  jcDis : Nat
  payDrop : Bool
  descs : List DescByte
  lastDesc : Option W32
  rei : List (Nat × Byte × Byte)
  reiSeq : Option Nat
  reiGot : Bool
  msi : Copy64
  mapTx : List W32
  mapRx : List W32
  passTx : Option (List W32)
  passRx : Option (List W32)
  waitTx : Option (List W32)
  waitRx : Option (List W32)
  msim : List Nat
  pend : ErrRec
  sent : ErrRec
  seq : Nat
  pmSec : Nat
  pmCur : PmAcc
  pmNext : PmAcc
  deriving DecidableEq, Repr

/-- A subcarrier after reset: no slot mapped in either direction. -/
def Sc.init : Sc :=
  { eq := none, fecSec := 0, fecCur := FecAcc.zero, fecNext := FecAcc.zero, mCorr := 0, mUnc := 0, decFrom := none
    live := false, lim := none, win := none, xover := 0, marks := [], pos := 0, hyps := [], qual := [], awFail := 0
    lastFn := none, wrongFn := 0, noHdr := 0, scidBad := 0, scidOk := 0, jcPrev := none, jcRun := none, jcDis := 0
    payDrop := false, descs := [], lastDesc := none, rei := [], reiSeq := none, reiGot := false, msi := ⟨[], [], 0⟩
    mapTx := [], mapRx := [], passTx := none, passRx := none, waitTx := none, waitRx := none, msim := []
    pend := ⟨0, 0, 0⟩, sent := ⟨0, 0, 0⟩, seq := 0, pmSec := 0, pmCur := PmAcc.zero, pmNext := PmAcc.zero }

/-- A group member's marker alignment (R141): the markers received, newest first, as ROUND and arrival time in ns, the
ROUND of the marker that comes next, whether its position is confirmed, the markers in a row missing or invalid, and
whether alignment is lost. -/
structure Member where
  hist : List (Nat × Nat)
  next : Option Nat
  ok : Bool
  miss : Nat
  loa : Bool
  deriving DecidableEq, Repr

/-- A concatenated group: its members by MSN, whether its deskew mode is the Hayloft (R142), the deskew pages reserved
for it and those of them in use (R185), and on the transmit side the bytes of its stream sent since the last group
markers, the ROUND of the next ones, what was last sent of the stream and what of it each member was dealt, markers
included (R140, R160). -/
structure Group where
  mem : NTab Member
  hay : Bool
  pages : Nat
  dsk : List Nat
  pos : Nat
  round : Nat
  out : List Byte
  dealt : List (List Byte)
  deriving DecidableEq, Repr

/-- A member before its first marker. -/
def Member.init : Member := ⟨[], none, false, 0, false⟩

/-- A group after reset. -/
def Group.init : Group := ⟨[], false, 0, [], 0, 0, [], []⟩

/-! ## The fabric and the management interfaces -/

/-- An access that waits in the fabric (R420): the master, the address, the width in bytes and the word it writes
(`none`: a read). -/
structure WaitAcc where
  m : Master
  addr : Nat
  size : Nat
  w : Option W32
  deriving DecidableEq, Repr

/-- The fabric beside its registers: the word each master last read, each master's capture of a HI word and its held
LO halves (R420), the accesses that wait, the SPI target's ERR flag and the bytes it last drove (R424), the
two-wire pointer and the words it last drove (R425), and since when, in µs, SCL is stretched (R351). -/
structure Fabric where
  rdata : NTab W32
  cap : NTab (List (RegKey × W32))
  held : List (Nat × RegKey × W32)
  waits : List WaitAcc
  spiErr : Bool
  spiOut : List Byte
  twiPtr : Nat
  twiOut : List W32
  stretched : Option Nat
  deriving DecidableEq, Repr

/-- The fabric after reset. -/
def Fabric.init : Fabric := ⟨[], [], [], [], false, [], 0, [], none⟩

/-! ## The event log -/

/-- An entry waiting for the event log (Table 17.5, without SEQ and CRC). -/
structure LogEnt where
  source : Nat
  type : Nat
  inst : Nat
  sec : W32
  ns : W32
  dropped : Bool
  injected : Bool
  detail : List W32
  deriving DecidableEq, Repr

/-! ## Resets -/

/-- An asserted reset source (R357, R358): its bit, its level, its target domain and page, whether HOLD keeps it, and
whether it still waits for its target to go idle (R360), and since when, in µs, it waits or is asserted. -/
structure Asserted where
  src : Nat
  level : Nat
  dom : Nat
  page : Nat
  hold : Bool
  asking : Bool
  since : Nat
  deriving DecidableEq, Repr

/-! ## The Postcard channel -/

/-- A Postcard's type, payload length in words, payload and sequence number (R301 to R303), and when, in µs, software
queued it (R306). -/
structure Postcard where
  type : Nat
  len : Nat
  data : List W32
  seq : Nat
  since : Nat
  deriving DecidableEq, Repr

/-- A carrier's Postcard transmitter beside its registers: the staged TX_DATA words, the automatic types pending (R305),
the software queue (R306), the Postcard being sent, its copies left and when, in µs, the present one begins (R305),
since when the tone is unmodulated (R305, R307), and when each timer last fired (Table 13.3). -/
structure PccTx where
  stage : NTab W32
  autos : List Nat
  queue : List Postcard
  active : Option Postcard
  left : Nat
  start : Nat
  tone : Nat
  timer : NTab Nat
  deriving DecidableEq, Repr

/-- A Postcard transmitter after reset. -/
def PccTx.init : PccTx := ⟨[], [], [], none, 0, 0, 0, []⟩

/-- A receive slot beside its registers: whether the next Postcard is accepted whatever its SEQ (R304), the level of the
detection that armed it and of the one that froze its gain, in 0.1 dB (R313), the counter at the last bit of the sync
word with its tag (R315); when, in µs, it was armed (Table 13.4), last accepted a Postcard (R304) and last confirmed its
peer (Table 13.5); and the bin's last eight magnitudes, newest first (R309). -/
structure PccRx where
  anySeq : Bool
  armLevel : Int
  frozeLevel : Int
  syncAt : Nat
  syncTag : W32 × W32
  armAt : Nat
  okAt : Nat
  bindAt : Nat
  mags : List Nat
  deriving DecidableEq, Repr

/-- A receive slot after reset. -/
def PccRx.init : PccRx := ⟨true, 0, 0, 0, (0, 0), 0, 0, 0, []⟩

/-- An entry of the receive FIFO (R315, R316). -/
structure PccEntry where
  slot : Nat
  header : Nat
  level : Nat
  tag : W32 × W32
  data : List W32
  deriving DecidableEq, Repr

/-! ## The Sorting Office, the Shed and the Hayloft -/

/-- Where a queued frame is (R175, R179). -/
inductive Place where
  | quota
  | shared
  | hayloft
  deriving DecidableEq, Repr

/-- A queued frame: its bytes as stored and their number, where it is and from which byte of the flow's Hayloft queue,
its egress (a GID where `line`, or a port), its class and host priority, the cipher message it waits for (R203), and
whether it is to be discarded at the queue's head, as errored (R105, R176) or as poisoned (R192).
DESIGN CHOICE, unsafe (log 20). -/
structure Frm where
  bytes : List Byte
  len : Nat
  place : Place
  off : Nat
  line : Bool
  egress : Nat
  exp : Bool
  prio : Nat
  msg : Option Nat
  errored : Bool
  poison : Bool
  deriving DecidableEq, Repr

/-- A flow beside its registers: its queue, oldest first, the bits in its policer and shaper buckets (R158, R162),
whether its own threshold has it in XOFF (R167), its deficit in bytes (R162), and its Hayloft queue since that was last
empty (R179, R180): the bytes taken from it and appended to it, its pages, the bytes of its part-filled tail line, the
line up to which read-back has been asked for, and the lines that have arrived in the Shed. DESIGN CHOICE, unsafe
(log 20). -/
structure Flow where
  q : List Frm
  pol : Nat
  shp : Int
  own : Bool
  dfc : Nat
  hayOut : Nat
  hayIn : Nat
  hayPg : List Nat
  hayTail : List Byte
  hayRd : Nat
  hayGot : List Nat
  deriving DecidableEq, Repr

/-- A flow after reset. -/
def Flow.init : Flow := ⟨[], 0, 0, false, 0, 0, 0, [], [], 0, []⟩

/-- A group stream's delineator (R161): 0 HUNT, 1 one valid header seen, 2 SYNC; the frame whose next header is still to
come, and whether poisoned deskew data marks the next one (R192). -/
structure Delin where
  st : Nat
  held : Option Frame
  dirty : Bool
  deriving DecidableEq, Repr

/-- A delineator in HUNT. -/
def Delin.init : Delin := ⟨0, none, false⟩

/-- A pause frame (R168): PFC or PAUSE, the priorities it speaks of and the quanta of each of the eight, for PAUSE the
one quanta. -/
structure PauseFrame where
  pfc : Bool
  en : Nat
  quanta : List Nat
  deriving DecidableEq, Repr

/-- What a host port last sent: a frame, and a pause frame. -/
structure PortOut where
  frame : List Byte
  pause : Option PauseFrame
  deriving DecidableEq, Repr

/-- A port that has sent nothing. -/
def PortOut.init : PortOut := ⟨[], none⟩

/-- A Hayloft page in the retirement table (R198). -/
structure RetPage where
  page : Nat
  pend : Bool
  deriving DecidableEq, Repr

/-- A merge-buffer entry (R193): its line, and the bytes it holds by their place in the line. -/
structure Merge where
  line : Nat
  bytes : NTab (Option Byte)
  deriving DecidableEq, Repr

/-- A line access of the Sorting Office that is asked for (R186): the line, what it serves, and the data of a write. -/
structure HayReq where
  line : Nat
  use : HayUse
  data : List Byte
  deriving DecidableEq, Repr

/-- The Hayloft beside its registers and its bytes: the open blocks (R194), the poisoned lines (R191), the merge buffer,
oldest merge first (R193), the retirement table (R198), the log's slots from oldest to newest (R197), the line accesses
asked for, oldest first, of which up to 512 are in flight (R186), the pages lost under R196, the scrubber's next line
(R195), the capture records that wait to be written, oldest first (R200), and the lines that an injection has given
wrong check symbols (Table 17.10). -/
structure Hay where
  blocks : List Nat
  poison : List Nat
  merge : List Merge
  ret : List RetPage
  logOrder : List Nat
  acc : List HayReq
  leak : List Nat
  scrub : Nat
  cap : List (List Byte)
  wrong : List Nat
  deriving DecidableEq, Repr

/-- The Hayloft after reset: every block closed. -/
def Hay.init : Hay := ⟨[], [], [], [], [], [], [], 0, [], []⟩

/-! ## The cipher engine -/

/-- A key slot (R206, R207, R212): its key and salt, the next transmit PN, whether that is exhausted, and the next PN
expected on receive. -/
structure CipKey where
  key : BitVec 256
  salt : BitVec 96
  txPn : Nat
  spent : Bool
  rxPn : Nat
  deriving DecidableEq, Repr

/-- What a message is (Table 9.1): MACsec protect of a flow, MACsec verify of a frame of a group under a key set, the
seal of a group, the opening of a group's seal. -/
inductive MsgKind where
  | protect (f : Nat)
  | verify (g k : Nat)
  | seal (g : Nat)
  | opening (g : Nat)
  deriving DecidableEq, Repr

/-- A message of the engine (R216 to R219): its number, its kind and class, its input bytes' number, its association
number and PN, the key it started with (R214), its IV and additional data (R206, R208), its data (the bytes to seal or
protect, the received frame to verify), whether a received frame is confidential (R205), how many bytes of each flow it
holds (R204), whether a received frame is marked (R161) and whether a dropped seal follows it (R218), the bare idle
before a seal that is sent (R209), and its result once complete: the tag verified, and the output. -/
structure Msg where
  id : Nat
  kind : MsgKind
  express : Bool
  len : Nat
  an : Nat
  pn : Nat
  key : BitVec 256
  iv : BitVec 96
  aad : List Byte
  data : List Byte
  conf : Bool
  own : List (Nat × Nat)
  mark : Bool
  gap : Bool
  lead : Nat
  fin : Option (Bool × List Byte)
  deriving DecidableEq, Repr

/-- A message of a kind and a class under a key, with nothing else filled in. -/
def Msg.base (k : MsgKind) (express : Bool) (len an pn : Nat) (key : BitVec 256) : Msg :=
  { id := 0, kind := k, express := express, len := len, an := an, pn := pn, key := key, iv := 0, aad := [], data := []
    conf := true, own := [], mark := false, gap := false, lead := 0, fin := none }

/-- A cipher core (R216): the message it runs, those it has suspended, oldest first, and the express messages waiting
for it. -/
structure CipCore where
  cur : Option Nat
  susp : List Nat
  wait : List Nat
  deriving DecidableEq, Repr

/-- A core with no work. -/
def CipCore.init : CipCore := ⟨none, [], []⟩

/-- A group's cipher context beside its registers (R209, R210): the PN last sent and the last PN accepted per
association; the seal under construction, the ciphertext bytes it may take and where in the marker round it stands, or
the next one is to; the opened bytes not yet delineated; whether the stream is discarded up to the next round boundary;
and the frames without a SecTAG that wait behind a verification, by its message (R13). -/
structure GrpCtx where
  txPn : NTab Nat
  rxPn : NTab Nat
  build : Option Msg
  cap : Nat
  pos : Nat
  clear : List Byte
  skip : Bool
  behind : List (Nat × Frame)
  deriving DecidableEq, Repr

/-- A group context after reset. -/
def GrpCtx.init : GrpCtx := ⟨[], [], none, 0, 0, [], false, []⟩

/-- The cipher engine beside its registers: the key slots, KEK1 to KEK3, the staged KEY_DATA and KEY_SALT words, the
messages in flight in their order of acceptance and those waiting at the input (R216), the next message's number, the
cores and the group contexts. -/
structure Cip where
  slots : NTab (Option CipKey)
  keks : NTab (Option (BitVec 256))
  data : NTab W32
  salt : NTab W32
  msgs : List Msg
  wait : List Msg
  next : Nat
  cores : NTab CipCore
  grp : NTab GrpCtx
  deriving DecidableEq, Repr

/-- The cipher engine after reset. -/
def Cip.init : Cip := ⟨[], [], [], [], [], [], 0, [], []⟩
/-! ## The Stable -/

/-- A kept quality level (R226, R227): its rank, its arrival, and the cascade counts of eEEC and EEC it came with. -/
structure QLevel where
  rank : Nat
  arr : Nat
  eeec : Nat
  eec : Nat
  deriving DecidableEq, Repr

/-- A candidate beside its registers: whether its next presence is its first (R233), the windows in a row above a limit
and below 40 % of every limit (R230), the time of the first pre-warning of the episode, the apparent offsets of the
last 70 minutes, newest first (R229), the second it was last selected (R232), and the end of its wait-to-restore. -/
structure Cand where
  first : Bool
  above : Nat
  low : Nat
  warnAt : Option Nat
  offs : List Int
  lastSel : Option Nat
  wtrEnd : Nat
  deriving DecidableEq, Repr

/-- A candidate after reset. -/
def Cand.init : Cand := ⟨true, 0, 0, none, [], none, 0⟩

/-- A training sample (R247): its window's start in seconds, the mean applied steering word, the temperatures, the
selected candidate and its rank. The external temperature is there while EXT_EN is 1. -/
structure Sample where
  start : Nat
  word : Int
  tInt : Int
  tExt : Option Int
  cand : Nat
  rank : Nat
  deriving DecidableEq, Repr

/-- The Stable beside its registers: the kept quality levels by source (R226), the candidates, whether the model holds a
usable frequency (R242) with the time the present state was entered, the start of the holdover episode, the time of the
last heartbeat and the time the word was held for want of one (R243, R251), the end of the hold-off that runs (R238),
whether the heartbeat is missing (R243), the held word (R238), the candidate whose hold-off runs, the lost candidate
behind fault 1 or 2 and that fault (Table 17.6), the sum, number and last complete mean of the applied word over a
second, and its sum and number over ten minutes (R247), the slew's remainder (R245), the two histories (R247) with
whether their running windows are clean so far, the new 10-minute samples since a gap (R248), the samples the model is
fitted to and those it entered holdover with (R249), the onset of a removal under way (R252), the build-out offset
(R240), the servo's BW in force (R246), the ranks last reported per carrier (R302), the PDU last sent per port (R227),
and whether the Tack Room holds a trained model (R250). -/
structure Stb where
  lvl : NTab (Option QLevel)
  cand : NTab Cand
  usable : Bool
  stAt : Nat
  hoStart : Nat
  beat : Nat
  lostAt : Nat
  holdEnd : Nat
  fwLost : Bool
  held : Int
  holdFor : Nat
  lostRef : Nat
  fault : Nat
  wSum : Int
  wN : Nat
  wMean : Int
  w10Sum : Int
  w10N : Nat
  slewAcc : Nat
  s10 : List Sample
  s1 : List Sample
  clean10 : Bool
  clean1 : Bool
  fresh : Nat
  model : List Sample
  entry : List Sample
  onset : Option Nat
  boOfs : Int
  band : Nat
  sentQl : NTab Nat
  sent : NTab (Option EsmcPdu)
  tack : Bool
  deriving DecidableEq, Repr

/-- The Stable after reset. -/
def Stb.init : Stb :=
  { lvl := [], cand := [], usable := false, stAt := 0, hoStart := 0, beat := 0, lostAt := 0, holdEnd := 0,
    fwLost := false, held := 0, holdFor := 15
    lostRef := 15, fault := 0, wSum := 0, wN := 0, wMean := 0, w10Sum := 0, w10N := 0, slewAcc := 0, s10 := [], s1 :=
        [], clean10 := false
    clean1 := false, fresh := 0, model := [], entry := [], onset := none, boOfs := 0, band := 0, sentQl := [], sent :=
        [], tack := false }
/-! ## Postmark -/

/-- A carrier of the time transfer (R270 to R273): the SEQ of the next transmitted multiframe, the last 64 marker
transmit times by SEQ and the last 64 marker receive times, newest first, the far SEQ of the newest marker received, the
message last sent, and the exchanges not yet latched as the second that holds t4 (R273), θ and round trip, all times in
2⁻¹⁶ ns. -/
structure PmkCar where
  seq : Nat
  tx : List (Nat × Nat)
  rx : List (Option Nat)
  far : Option Nat
  msg : Option TimeMsg
  ex : List (Nat × Int × Int)
  deriving DecidableEq, Repr

/-- A carrier of the time transfer after reset. -/
def PmkCar.init : PmkCar := ⟨0, [], [], none, none, []⟩

/-- A received PTP frame held for firmware (R262): its port, its bytes, its receive time in 2⁻¹⁶ ns. -/
structure PtpFrm where
  port : Nat
  bytes : List Byte
  time : Int
  deriving DecidableEq, Repr

/-- Postmark beside its registers: what the second copy of the counter is ahead of the first (R258), the adjustment left
and its remainder (R256), the remainder of the steered rate (R255), the second a step was last applied in (R265), the
counter as each master's read of TIME_NS captured it, the end of the running PPS_OUT pulse in µs, the messages last sent
on TOD_OUT and TCH_OUT and one-step, the label of GNSS with whether it names the following pulse (R267), the timing
chain's label with its runs of good and bad frames (R277), how many labels of either in a row have disagreed with the
counter (R257), the received PTP frames (R262), the carriers, and the time Postcards sent and received, by header
sequence, newest first (R278). The counter itself is pmkTime. -/
structure Pmk where
  diff : Int
  adj : Int
  adjAcc : Nat
  rateAcc : Int
  stepSec : Option Nat
  cap : NTab Nat
  ppsEnd : Nat
  tod : List Byte
  tch : Option (BitVec 128)
  sync : Option (Nat × List Byte)
  gnss : Option (Nat × Bool)
  tchSec : Option Nat
  tchOk : Nat
  tchBad : Nat
  gnssMis : Nat
  tchMis : Nat
  ptp : List PtpFrm
  car : NTab PmkCar
  pcTx : List (Nat × Int)
  pcRx : List (Nat × Int)
  deriving DecidableEq, Repr

/-- Postmark after reset. -/
def Pmk.init : Pmk :=
  { diff := 0, adj := 0, adjAcc := 0, rateAcc := 0, stepSec := none, cap := [], ppsEnd := 0, tod := [], tch := none,
    sync := none
    gnss := none, tchSec := none, tchOk := 0, tchBad := 0, gnssMis := 0, tchMis := 0, ptp := [], car := [], pcTx := [],
        pcRx := [] }
/-! ## The monitor -/

/-- A pair of monitor converters beside its registers: whether its sequence has abandoned a slot for the running
triggered conversion, and whether that slot runs again (R291), the edge time of the triggered conversion that runs and
of the one pending, as seconds and TAG_VALID with nanoseconds, the failing windows in a row (R292), whether the decision
of Table 12.3 is under way, the slot's configuration as it was when the slot began (R296), and when, in µs, the chains
last restarted and when they had settled (R287). -/
structure MonPair where
  aband : Bool
  redo : Bool
  trig : Option (W32 × W32)
  pend : Option (W32 × W32)
  run : Nat
  deciding : Bool
  slot : W32
  since : Nat
  flow : Nat
  deriving DecidableEq, Repr

/-- A pair after reset: its slot is SEQ's reset value. -/
def MonPair.init : MonPair := ⟨false, false, none, none, 0, false, 0x01000000, 0, 0⟩
/-! ## The power manager -/

/-- The power manager beside its registers: the wake step of each domain (Table 15.4) and which wake from RETENTION, the
target of each domain's handshake (0 OFF, 1 RETENTION), the rails enabled (0 CORE, 1 and 2 CONV0 and CONV1, 3 HAY, 4
SER) and those whose power-good is high (R355); when, in µs, each domain's handshake and its wake step, or wait for a
retry, began (R346, R348), and when each rail was enabled. -/
structure Pwr where
  step : NTab Nat
  ret : List Nat
  target : NTab Nat
  en : List Nat
  pg : List Nat
  askAt : NTab Nat
  stepAt : NTab Nat
  enAt : NTab Nat
  deriving DecidableEq, Repr

/-- The power manager at the release of the power-on reset of a ZQ4000: EN_CONV0 and EN_CONV1 are high (R355). -/
def Pwr.init : Pwr := ⟨[], [], [], [1, 2], [], [], [], []⟩
/-! ## Host and yard lanes -/

/-- A link beside its registers (R337 to R341): what the partner's HELLO last said of RUN_READY and of its image (0
NONE, 1 WANT, 2 VALID, 3 BAD), whether the change to RUN is under way, whether a spare swap is, the lane of the pair
that the spare has replaced (R339), the lanes that have failed, the run of tiles being received, as the GID and MSN that
a forwarding entry accepts, with what is left of it (R333, R335), the last side-band message received, whether one sent
waits for its acknowledgement, how often that was repeated (R340), and which part of the image it is (R341), the
forwarding entry served next and what is left of the run being sent (R336); when, in µs, the last HELLO (R337), the last
STATUS (R336) and the last image message came, and when the unacknowledged message was last sent or the transfer last
abandoned (R340, R341). -/
structure Link where
  rr : Bool
  img : Nat
  switching : Bool
  swap : Bool
  out : Option Nat
  bad : List Nat
  take : Option (Nat × Nat)
  left : Nat
  rxSeq : Option Nat
  unacked : Bool
  repeats : Nat
  part : Nat
  next : Nat
  run : Nat
  helloAt : Nat
  statusAt : Nat
  imgAt : Nat
  sentAt : Nat
  deriving DecidableEq, Repr

/-- A link after reset. -/
def Link.init : Link :=
  { rr := false, img := 0, switching := false, swap := false, out := none, bad := [], take := none, left := 0,
    rxSeq := none
    unacked := false, repeats := 0, part := 0, next := 0, run := 0, helloAt := 0, statusAt := 0, imgAt := 0, sentAt :=
        0 }

/-- A yard block as it is sent (Table 14.8): filler, ALIGN with lane, pair and count, SELECT, a tile, a side-band
fragment, STATUS with the sender's identity and two bits per forwarding entry, HELLO with the lane's MODE. -/
inductive YardOut where
  | filler
  | align (lane pair count : Nat)
  | select (gid msn k : Nat)
  | tile
  | fragment
  | status (dev : Nat) (bits : List Nat)
  | hello (h : Hello) (mode : Nat)
  deriving DecidableEq, Repr

/-- A yard lane's transmitter (R333, R334): the non-filler blocks sent, the blocks sent since the last FILLER, the uses
made of the reserved positions, and the block last sent. -/
structure YardTx where
  n : Nat
  gap : Nat
  uses : Nat
  last : Option YardOut
  deriving DecidableEq, Repr

/-- A yard transmitter after reset. -/
def YardTx.init : YardTx := ⟨0, 0, 0, none⟩
/-! ## The Farrier, the Paddock and the control complex -/

/-- A slice at its built-in defaults (R384). -/
def SliceVal.init : SliceVal := ⟨0, 0, 256⟩

/-- A calibration record of a carrier (Table 16.4): its SEQ, the seconds of the store, the slices by 128 × lane + slice,
CAL_TERM by DAC lane, and the marker delays in ps. -/
structure CalRec where
  seq : Nat
  secs : W32
  vals : NTab SliceVal
  terms : NTab Int
  marks : Nat × Nat
  deriving DecidableEq, Repr

/-- The device's production record (Table 16.4): the monitor references by converter, the host lanes' delays in ps, the
sensors' offsets by channel from 24, OSC_IN's ratio in parts of 10⁹ and the comparator's trim. -/
structure DevRec where
  seq : Nat
  secs : W32
  refs : NTab Int
  hostDly : NTab Nat
  sensors : NTab Int
  ratio : Nat
  trim : Int
  deriving DecidableEq, Repr

/-- Background calibration of an ADC lane (R373, R374): the slice out of service, the swap requested and not yet made
(R74: the slice, whether it goes out, when it was requested), the slice visited next, the results discarded in a row by
slice, and the retired slices (R75). -/
structure CalLane where
  cur : Option Nat
  want : Option (Nat × Bool × Nat)
  next : Nat
  runs : NTab Nat
  retired : List Nat
  deriving DecidableEq, Repr

/-- A lane before its first cycle. -/
def CalLane.init : CalLane := ⟨none, none, 0, [], []⟩

/-- What the Farrier holds of a carrier: the slices' values in force and those the ramps head for (R375), its lanes, the
discards in a row of each DAC lane, the marker delays in ps (R377), whether a value has changed since the last store and
when, in µs, that was (R383), and the two copies of the live and of the production record (R382). -/
structure CalCar where
  force : NTab SliceVal
  target : NTab SliceVal
  lanes : NTab CalLane
  dacRun : NTab Nat
  marks : Nat × Nat
  dirty : Bool
  storeAt : Option Nat
  liveA : Option CalRec
  liveB : Option CalRec
  prodA : Option CalRec
  prodB : Option CalRec
  deriving DecidableEq, Repr

/-- A carrier without records. -/
def CalCar.init : CalCar :=
  { force := [], target := [], lanes := [], dacRun := [], marks := (0, 0), dirty := false, storeAt := none
    liveA := none, liveB := none, prodA := none, prodB := none }

/-- The Farrier beside its registers: its carriers, the monitor references in force with the discards in a row of each
pair (R378), the host lanes' delays in ps, the signal-detect thresholds in mV by lane, yard lanes from 32 (Table 16.1),
the two copies of the device's production record, and each master's held LO half of a Tack Room word (R380).
DESIGN CHOICE, safe (log 42). -/
structure Cal where
  car : NTab CalCar
  refs : NTab Int
  refRun : NTab Nat
  hostDly : NTab Nat
  thresh : NTab Nat
  devA : Option DevRec
  devB : Option DevRec
  held : List (Nat × Nat × W32)
  deriving DecidableEq, Repr

/-- The Farrier of a device without records. -/
def Cal.init : Cal := ⟨[], [], [], [], [], none, none, []⟩

/-- A self-test that is queued, runs or is held (R386 to R388): its target, HOLD_ON_FAIL, when it was queued, and the
registers saved of its pages. -/
structure BstTest where
  target : Nat
  hold : Bool
  since : Nat
  saved : List (RegKey × W32)
  deriving DecidableEq, Repr

/-- The Paddock beside its registers: the queue, the tests that run, the targets held after failure, and what is left of
FULL (R390). -/
structure Bst where
  queue : List BstTest
  running : List BstTest
  held : List BstTest
  full : Option (List Nat)
  deriving DecidableEq, Repr

/-- The Paddock after reset. -/
def Bst.init : Bst := ⟨[], [], [], none⟩

/-- Boot (R364, R366): whether an option load and a boot wait for MGMT, whether the reset before it left TMG alone, the
domains whose sections are still to be applied, the lengths of the image copies that were read, the image booted from,
which device 0 forwards (R341), and whether a duplicate identity keeps the device out of service (R25). -/
structure Boot where
  pend : Bool
  skipTmg : Bool
  doms : List Nat
  lens : NTab Nat
  image : List Byte
  dup : Bool
  deriving DecidableEq, Repr

/-- Boot at the release of the power-on reset. -/
def Boot.init : Boot := ⟨true, false, [], [], [], false⟩

/-! ## The stops -/

/-- Why the block stops with a fault. No command of the spec's table stops the block: nobody raises it (safe). -/
inductive Fault where
  /-- Raised by nobody: kept so that the type of faults has a name to grow under. Safe. -/
  | unused
  deriving DecidableEq, Repr

/-- Why a command has no meaning here. -/
inductive Refusal where
  /-- The command's meaning has not been written: raised by exec's refused arms alone. Safe: nothing is claimed. -/
  | notModelled (mnemonic : String)
  deriving DecidableEq, Repr

/-! ## The state -/

/-- The whole block. `regs` is the register file of the address map; the other fields are what no register shows. -/
structure State where
  /-- The register file of the address map: the registers that differ from their reset values.
  DESIGN CHOICE, safe (log 1). -/
  regs : List (RegKey × W32)
  /-- The fuses and straps. DESIGN CHOICE, unsafe (log 9). -/
  fuse : Fuses
  /-- The carriers. -/
  cars : NTab Carrier
  /-- The subcarriers. -/
  scs : NTab Sc
  /-- The concatenated groups, by group page. -/
  grps : NTab Group
  /-- The fabric and the management interfaces. -/
  fab : Fabric
  /-- The entries waiting for the event log (R400). -/
  logQ : List LogEnt
  /-- The entries dropped since the last one queued (R400). -/
  logLost : Nat
  /-- When, in µs, the last entries were written to the Tack Room, newest first (R400). -/
  logAt : List Nat
  /-- The time counter, in units of 2⁻¹⁶ ns (R255). -/
  pmkTime : Nat
  /-- The reset sources asserted or asking for idle (R357 to R360). -/
  asserted : List Asserted
  /-- The Postcard transmitters, by carrier. -/
  pccTx : NTab PccTx
  /-- The Postcard receive slots. -/
  pccRx : NTab PccRx
  /-- The receive FIFO, oldest first (R316). -/
  pccFifo : List PccEntry
  /-- The flows. -/
  flows : NTab Flow
  /-- The record delineators by group page (R161). -/
  delin : NTab Delin
  /-- What the host ports last sent (R162, R168). -/
  ports : NTab PortOut
  /-- The Hayloft. -/
  hay : Hay
  /-- The bytes of the Hayloft that capture and the aperture have written, by physical address (R199, R200).
  DESIGN CHOICE, unsafe (log 7). -/
  hayMem : NTab Byte
  /-- The cipher engine. -/
  cip : Cip
  /-- The states the yard gives its members, by 256 × GID + MSN (R336). -/
  yardSt : NTab Nat
  /-- The transmit rings of the management channel, by carrier (R132). -/
  mccTx : NTab (List Byte)
  /-- The receive rings, each byte with its mark. -/
  mccRx : NTab (List (Byte × Bool))
  /-- The flow each egress and class served last (R162). -/
  drr : NTab Nat
  /-- The Stable. -/
  stb : Stb
  /-- The clocks that have stopped (R67, R86, Table 17.6). -/
  plls : List Nat
  /-- The configuration words with a mismatch (R412). -/
  cfgBad : List RegKey
  /-- Postmark. -/
  pmk : Pmk
  /-- The pairs of monitor converters. -/
  mon : NTab MonPair
  /-- The edge time of the compatible snapshot under way (R294). -/
  monSnap : Option (W32 × W32)
  /-- The compatible mode has seen its first trigger (R294). -/
  monFree : Bool
  /-- When, in µs, the compatibility timer last triggered or started (R294). -/
  monAt : Nat
  /-- The outputs of the detector bins' blocks in progress with their tags, oldest first (R295). -/
  bins : NTab (List (Int × W32 × W32))
  /-- The power manager. -/
  pwr : Pwr
  /-- The lanes that wait to train again, each with the µs at which its training failed (R324).
  DEDUCED, unsafe (log 39). -/
  retryLane : List (Nat × Nat)
  /-- The bits counted towards the next 1,024, by lane; yard lanes from 32 (R327). -/
  prbsAcc : NTab Nat
  /-- The errors still to inject, by lane; yard lanes from 32 (R326). -/
  prbsInj : NTab Nat
  /-- The yard links. -/
  links : NTab Link
  /-- The remote access under way (R342): its target device, whether it writes and when, in µs, it started. -/
  rmt : Option (Nat × Bool × Nat)
  /-- The state of the own image (R341). -/
  img : Nat
  /-- The bytes of the forwarded image received so far (R341). -/
  imgRx : List Byte
  /-- The yard transmitters, by lane. -/
  yardTx : NTab YardTx
  /-- The Tack Room, by byte (R379). DESIGN CHOICE, unsafe (log 7). -/
  tack : NTab Byte
  /-- The shared SRAM and the local memories of the cores, by byte address (Table 17.1).
  DESIGN CHOICE, unsafe (log 7). -/
  ram : NTab Byte
  /-- The Farrier. -/
  cal : Cal
  /-- The Paddock. -/
  bst : Bst
  /-- Boot. -/
  boot : Boot
  /-- The widest level of the reset whose sequence has still to run (R361). -/
  seqLevel : Option Nat
  /-- The life-cycle state that a running move heads for (R367). -/
  lcMove : Option Nat
  /-- A return has been authorised (R398). -/
  lcAuth : Bool
  /-- The authorisation words received so far (R398). -/
  auth : List W32
  /-- The Letterbox command that runs (R396). -/
  lbCmd : Nat
  /-- The SEQ of the next log entry (R399). -/
  logSeq : Nat
  /-- When the test window closes, in µs (R413). -/
  winEnd : Nat
  /-- When each injection slot ends, in µs (R414). -/
  injAt : NTab Nat
  /-- The targets of SEG_CRC whose next segment is still to come (Table 17.10). -/
  segBad : List Nat
  /-- When, in µs, the last counter snapshot was dumped (R405). -/
  dumpAt : Nat
  /-- Microseconds since the start of time: the model's clock. DESIGN CHOICE, unsafe (log 5). -/
  us : Nat
  /-- How many free values have been used: the model's own field, not the spec's. DESIGN CHOICE, safe (log 6). -/
  free : Nat
  /-- The commands that wait, first in first out. -/
  pending : List Instr
  deriving DecidableEq, Repr

/-- The fuses of the device the model starts as: a ZQ4000 as it leaves Yelur (R9), with the default reset map of Table
15.6, no key programmed, strapped 0. DESIGN CHOICE, unsafe (log 9). -/
def Fuses.init : Fuses :=
  { zq2000 := false, screen := false, uid := 0, lc := 1, kek0 := none, keyHash := none
    rstMap := [0, 1, 1, 1, 1, 1, 1, 2, 2, 2, 3, 3, 4, 4, 1, 7], devId := 0 }

/-- The device right after the release of the power-on reset: every register at its reset value, every domain but AON
OFF with MGMT requested ON (R356), every hold armed (R354), nothing in any memory, no command waiting.
DESIGN CHOICE, unsafe (log 2, 9). -/
def State.reset : State :=
  { regs := [], fuse := Fuses.init, cars := [], scs := [], grps := [], fab := Fabric.init
    logQ := []
    logLost := 0
    logAt := []
    pmkTime := 0
    asserted := []
    pccTx := []
    pccRx := []
    pccFifo := []
    flows := []
    delin := []
    ports := []
    hay := Hay.init
    hayMem := []
    cip := Cip.init
    yardSt := []
    mccTx := []
    mccRx := []
    drr := []
    stb := Stb.init
    plls := []
    cfgBad := []
    pmk := Pmk.init
    mon := []
    monSnap := none
    monFree := false
    monAt := 0
    bins := []
    pwr := Pwr.init
    retryLane := []
    prbsAcc := []
    prbsInj := []
    links := []
    rmt := none
    img := 0
    imgRx := []
    yardTx := []
    tack := []
    ram := []
    cal := Cal.init
    bst := Bst.init
    boot := Boot.init
    seqLevel := none
    lcMove := none
    lcAuth := false
    auth := []
    lbCmd := 0
    logSeq := 0
    winEnd := 0
    injAt := []
    segBad := []
    dumpAt := 0
    us := 0, free := 0, pending := [] }

end Sys2Proof.Machine
end

