-- ==== Sys2Proof/Machine/Ops.lean ====
section
/-! DEFINITION. The named operations over the register file and the shared records: reading and writing registers and
fields, counters, domains, the decode and power checks of the fabric (R353, R418), events, the event log. -/

namespace Sys2Proof.Machine

/-! ## Bit fields -/

/-- The bits of a field, as a mask of its register. -/
def Fld.mask (f : Fld) : W32 := BitVec.ofNat 32 ((2 ^ f.len - 1) * 2 ^ f.lo)

/-- The value of a field in a word. -/
def Fld.get (f : Fld) (w : W32) : Nat := w.toNat / 2 ^ f.lo % 2 ^ f.len

/-- The word with a field replaced by `n` (its low bits). DESIGN CHOICE, safe (log 58). -/
def Fld.put (f : Fld) (n : Nat) (w : W32) : W32 :=
  (w &&& ~~~f.mask) ||| BitVec.ofNat 32 (n % 2 ^ f.len * 2 ^ f.lo)

/-- Bit `b` of a word. -/
def bitOf (w : W32) (b : Nat) : Bool := w.getLsbD b

/-- A number of `n` bits read as two's complement. -/
def signed (n v : Nat) : Int := if v % 2 ^ n < 2 ^ (n - 1) then ((v % 2 ^ n : Nat) : Int)
    else ((v % 2 ^ n : Nat) : Int) - 2 ^ n

/-- The `n`-bit two's complement of an integer. -/
def unsigned (n : Nat) (z : Int) : Nat := (z % (2 ^ n : Int)).toNat

/-- A Bool as a bit. -/
def bit (b : Bool) : Nat := if b then 1 else 0

/-! ## Registers -/

/-- The bits that exist in a register; the rest are reserved and read 0 (R10). -/
def RegKey.mask (k : RegKey) : W32 := k.id.info.mask

/-- What a register holds. DESIGN CHOICE, safe (log 1). -/
def State.rd (s : State) (k : RegKey) : W32 := Tab.get k.reset k s.regs

/-- The state with a register holding `v`, its reserved bits 0 (R10). Every change of a register goes through here.
DESIGN CHOICE, safe (log 1). -/
def State.wr (s : State) (k : RegKey) (v : W32) : State :=
  { s with regs := Tab.set RegKey.lt k.reset k (v &&& k.mask) s.regs }

/-- A register as a number. -/
def State.rdN (s : State) (k : RegKey) : Nat := (s.rd k).toNat

/-- A register set to a number (its low 32 bits). DESIGN CHOICE, safe (log 58). -/
def State.wrN (s : State) (k : RegKey) (n : Nat) : State := s.wr k (BitVec.ofNat 32 n)

/-- A field of a register. -/
def State.fld (s : State) (f : Fld) (i : Nat := 0) (j : Nat := 0) : Nat := f.get (s.rd ⟨f.reg, i, j⟩)

/-- A one-bit field of a register. -/
def State.flag (s : State) (f : Fld) (i : Nat := 0) (j : Nat := 0) : Bool := s.fld f i j == 1

/-- A field of a register replaced. -/
def State.setFld (s : State) (f : Fld) (n : Nat) (i : Nat := 0) (j : Nat := 0) : State :=
  s.wr ⟨f.reg, i, j⟩ (f.put n (s.rd ⟨f.reg, i, j⟩))

/-- A one-bit field of a register replaced. -/
def State.setFlag (s : State) (f : Fld) (b : Bool) (i : Nat := 0) (j : Nat := 0) : State := s.setFld f (bit b) i j

/-- An event bit set; a repeat leaves it set (R426). -/
def State.raise (s : State) (f : Fld) (i : Nat := 0) (j : Nat := 0) : State := s.setFld f 1 i j

/-- A 32-bit counter raised by one, saturating at all ones. DESIGN CHOICE, safe (log 58). -/
def State.bump (s : State) (k : RegKey) : State :=
  s.wrN k (min (s.rdN k + 1) 0xFFFFFFFF)

/-- A field that counts and saturates at all ones. -/
def State.bumpFld (s : State) (f : Fld) (i : Nat := 0) (j : Nat := 0) : State :=
  s.setFld f (min (s.fld f i j + 1) (2 ^ f.len - 1)) i j

/-- A value held in a LO and a HI register. -/
def State.rd64 (s : State) (lo hi : RegKey) : Nat := s.rdN lo + 2 ^ 32 * s.rdN hi

/-- A value placed in a LO and a HI register. -/
def State.wr64 (s : State) (lo hi : RegKey) (n : Nat) : State := (s.wrN lo (n % 2 ^ 32)).wrN hi (n / 2 ^ 32)

/-- A 64-bit counter raised by `n`. -/
def State.add64 (s : State) (lo hi : RegKey) (n : Nat) : State := s.wr64 lo hi ((s.rd64 lo hi + n) % 2 ^ 64)

/-- A register back at its reset value. -/
def State.clr (s : State) (k : RegKey) : State := s.wr k k.reset

/-! ## Plumbing of the meanings -/

/-- `f`, where the condition holds. -/
def State.when (s : State) (b : Bool) (f : State → State) : State := if b then f s else s

/-- `f` for 0, 1, … n − 1, in that order. -/
def State.upto (s : State) : Nat → (Nat → State → State) → State
  | 0, _ => s
  | n + 1, f => f n (State.upto s n f)

/-- `f` for each element of a list, in order. -/
def State.each {α : Type} (s : State) : List α → (α → State → State) → State
  | [], _ => s
  | x :: xs, f => State.each (f x s) xs f

/-- The next free value's number, and the state that has used it. DESIGN CHOICE, safe (log 6). -/
def State.useFree (s : State) : State := { s with free := s.free + 1 }

/-- Of two copies of a record the one that is valid, and of two valid ones the newer: its SEQ leads by 1 to 32,767
modulo 2¹⁶ (R382). DESIGN CHOICE, safe (log 42). -/
def newer {α : Type} (seq : α → Nat) (a b : Option α) : Option α :=
  match a, b with
  | none, _ => b
  | _, none => a
  | some x, some y => if 1 ≤ (seq x + 65536 - seq y) % 65536 && (seq x + 65536 - seq y) % 65536 ≤ 32767 then a else b

/-- A new record goes into the older copy, with SEQ one above the newer copy's; a store that fails leaves that copy
invalid (R383). DESIGN CHOICE, safe (log 42). -/
def storeIn {α : Type} [DecidableEq α] (seq : α → Nat) (a b : Option α) (ok : Bool) (r : Nat → α) : Option α × Option α :=
  let n := newer seq a b
  let x := if ok then some (r (((n.map seq).getD 0xFFFF + 1) % 65536)) else none
  if n.isNone || n = b then (x, b) else (a, x)

/-! ## Records -/

def State.car (s : State) (c : Nat) : Carrier := s.cars.get Carrier.init c
def State.modCar (s : State) (c : Nat) (f : Carrier → Carrier) : State := { s with cars := s.cars.mod Carrier.init c f }
def State.sc (s : State) (i : Nat) : Sc := s.scs.get Sc.init i
def State.modSc (s : State) (i : Nat) (f : Sc → Sc) : State := { s with scs := s.scs.mod Sc.init i f }
def State.grp (s : State) (g : Nat) : Group := s.grps.get Group.init g
def State.modGrp (s : State) (g : Nat) (f : Group → Group) : State := { s with grps := s.grps.mod Group.init g f }
def State.modFab (s : State) (f : Fabric → Fabric) : State := { s with fab := f s.fab }

/-! ## Domains -/

/-- The domain (code of Table 15.1) of a page instance, from Table 18.1. The fault page of SAF is in AON (R411). -/
def Page.domain (p : Page) (i : Nat) : Nat :=
  match p with
  | .DEV | .PMU | .RST | .AON | .SAF => 0
  | .STB | .STBR | .PMK | .PMKC | .PMKP => 2
  | .MON | .MONP | .MONC | .MONB | .PCC | .PCCC | .PCCS => 3
  | .CAX => 4 + i
  | .SCX => 4 + i / 8
  | .LFMS | .LFMC | .LFMG | .CIP | .CIPF | .CIPR | .CIPG => 6
  | .SOFP | .SOF | .SOFH | .SOFF | .SOFC => 7
  | .HAY => 8
  | .HLN => 9 + i / 8
  | .YLN | .YLL | .YLK => 13
  | .CAL | .CALC | .BST | .PMC | .PMCU | .PMCL | .SAFT | .LB | .CORE => 1

/-- The domain a register is in. -/
def RegKey.domain (k : RegKey) : Nat := k.id.info.page.domain k.i

/-- A domain is ON: AON always, another in state ON or ASKING (Table 15.2: ASKING is still ON).
DESIGN CHOICE, safe (log 4). -/
def State.domOn (s : State) (d : Nat) : Bool :=
  d == 0 || s.fld F.PMU_DOM_STATE d == 2 || s.fld F.PMU_DOM_STATE d == 3

/-- A domain's shutdown handshake is running. -/
def State.asking (s : State) (d : Nat) : Bool := s.fld F.PMU_DOM_STATE d == 3

/-- The domains a ZQ2000 lacks (R5): CA1, HQ2, HQ3. -/
def State.fusedOff (s : State) (d : Nat) : Bool := s.fuse.zq2000 && (d == 5 || d == 11 || d == 12)

/-- The carriers that exist. -/
def State.nCar (s : State) : Nat := if s.fuse.zq2000 then 1 else 2

/-- The domains a reset level covers, AON apart (Table 15.5). -/
def levelCovers (level dom target : Nat) : Bool :=
  match level with
  | 0 | 1 => dom != 0
  | 2 => dom != 0 && dom != 2
  | 3 => dom == target
  | _ => false

/-- A register's block is held in reset: a source that has asserted (no longer asking for idle) covers it. AON stays
reachable, so that a held source can be released (R358). -/
def State.inReset (s : State) (dom page : Nat) : Bool :=
  s.asserted.any fun a => !a.asking && (levelCovers a.level dom a.dom || (a.level == 4 && a.page == page && dom != 0))

/-! ## Addresses -/

/-- The byte address of a register (R417). -/
def RegKey.addr (k : RegKey) : Nat :=
  let r := k.id.info
  let p := r.page.info
  if p.n = 1 then p.base + r.off + r.stride * (k.i - r.first)
  else p.base + p.stride * k.i + r.off + r.stride * (k.j - r.first)

/-- The test targets of Table 16.5. -/
def bstTarget (t : Nat) : Bool :=
  t == 0 || t == 1 || (0x10 ≤ t && t ≤ 0x1F) || (0x20 ≤ t && t ≤ 0x3F) || (0x40 ≤ t && t ≤ 0x47) ||
  (0x50 ≤ t && t ≤ 0x57) || t == 0x58 || t == 0x59 || (0x61 ≤ t && t ≤ 0x63) || (0x70 ≤ t && t ≤ 0x73)

/-- The key names a register of the map. DESIGN CHOICE, safe (log 59). -/
def RegKey.valid (k : RegKey) : Bool :=
  let r := k.id.info
  let p := r.page.info
  if p.n = 1 then
    decide (r.first ≤ k.i) && decide (k.i < r.first + r.count) && k.j == 0 &&
      (k.id != .BST_RES || bstTarget k.i)
  else
    decide (k.i < p.n) && decide (r.first ≤ k.j) && decide (k.j < r.first + r.count) &&
      (k.id != .CAX_TX_PRE || decide (k.j % 32 ≤ 16))

/-- A self-test has target `t`: it runs, or the target is held after it failed (R386, R387). -/
def State.underTest (s : State) (t : Nat) : Bool :=
  s.bst.running.any (fun x => x.target == t) || s.bst.held.any fun x => x.target == t

/-! ## Errors of an access -/

/-- DECODE_ERR.MASTER's code of a master (Table 18.5). -/
def masterCode : Master → Nat
  | .spi => 0
  | .twi => 1
  | .core n | .user n => 2 + n % 4
  | .remote => 6
  | .debug => 7

/-- The SPI target's ERR flag, set by a read of its own that was answered 0x0FF0_0FF0 and by an access of its own that
was recorded in DECODE_ERR (R424). -/
def State.spiErr (s : State) (m : Master) : State :=
  if m = .spi then s.modFab fun f => { f with spiErr := true } else s

/-- R353: PMU.ACCESS_ERR keeps the first error until VALID is cleared and counts later ones; the event is set. -/
def State.accessErr (s : State) (m : Master) (write inRst : Bool) (dom addr : Nat) : State :=
  let s := s.raise F.PMU_EVT_ACCESS_ERR
  let s := if write then s else s.spiErr m
  if s.flag F.PMU_ACCESS_ERR_VALID then s.bumpFld F.PMU_ACCESS_ERR_CNT
  else
    (((((s.setFld F.PMU_ACCESS_ERR_VALID 1).setFlag F.PMU_ACCESS_ERR_WRITE write).setFlag F.PMU_ACCESS_ERR_IN_RESET
      inRst).setFld F.PMU_ACCESS_ERR_DOMAIN dom).setFld F.PMU_ACCESS_ERR_CNT 0).wrN (R .PMU_ACCESS_ERR_ADDR) addr

/-- R418, R419, R429: DEV.DECODE_ERR keeps the first error until VALID is cleared and counts later ones; KIND 0 is an
unused address, 1 a width or alignment, 2 a privilege, and each sets its own event. -/
def State.decodeErr (s : State) (m : Master) (write : Bool) (kind addr : Nat) : State :=
  let s := match kind with
    | 0 => s.raise F.DEV_EVT_DECODE_ERR
    | 1 => s.raise F.DEV_EVT_WIDTH_ERR
    | _ => s.raise F.DEV_EVT_PRIV_ERR
  let s := s.spiErr m
  if s.flag F.DEV_DECODE_ERR_VALID then s.bumpFld F.DEV_DECODE_ERR_CNT
  else
    (((((s.setFld F.DEV_DECODE_ERR_VALID 1).setFlag F.DEV_DECODE_ERR_WRITE write).setFld F.DEV_DECODE_ERR_KIND
      kind).setFld F.DEV_DECODE_ERR_MASTER (masterCode m)).setFld F.DEV_DECODE_ERR_CNT 0).wrN (R .DEV_DECODE_ADDR) addr

/-- The block of an access can answer: it is in AON, or MGMT is ON (R352, R418), its domain is ON and nothing holds it
in reset. -/
def State.blockOn (s : State) (dom page : Nat) : Bool :=
  dom == 0 || (s.domOn 1 && !s.inReset 1 0 && s.domOn dom && !s.inReset dom page)

/-- The domain R353 logs for an access that cannot be answered: MGMT while it is not ON, else the block's own. -/
def State.errDom (s : State) (dom : Nat) : Nat := if s.domOn 1 && !s.inReset 1 0 then dom else 1

/-- The plain effect of a write on a register's own bits: `rw` bits take the value, W1C bits clear where it is 1, W1S
bits set where it is 1, every other bit stays. -/
def State.plainWrite (s : State) (k : RegKey) (v : W32) : State :=
  let r := k.id.info
  let old := s.rd k
  s.wr k (((old &&& ~~~r.rw) ||| (v &&& r.rw)) &&& ~~~(v &&& r.w1c) ||| (v &&& r.w1s))

/-! ## Values held in a LO and a HI register (R420) -/

/-- A write of the LO half by master `m`: held until the HI half is written. -/
def State.holdLo (m : Master) (lo : RegKey) (v : W32) (s : State) : State :=
  s.modFab fun f => { f with held := (masterCode m, lo, v) :: f.held.filter fun e => !(e.1 == masterCode m && e.2.1 == lo) }

/-- The LO half that master `m` holds for a pair; the register's own half where it holds none. -/
def State.heldLo (s : State) (m : Master) (lo : RegKey) : W32 :=
  match s.fab.held.find? fun e => e.1 == masterCode m && e.2.1 == lo with
  | some e => e.2.2
  | none => s.rd lo

/-- A write of the HI half by master `m` commits both halves. -/
def State.commitPair (m : Master) (lo hi : RegKey) (v : W32) (s : State) : State :=
  ((s.wr lo (s.heldLo m lo)).wr hi v).modFab fun f =>
    { f with held := f.held.filter fun e => !(e.1 == masterCode m && e.2.1 == lo) }

/-! ## Time tags and the event log -/

/-- One second, in the time counter's units of 2⁻¹⁶ ns. -/
def oneSec : Nat := 1000000000 * 65536

/-- Postmark seconds now. -/
def State.sec (s : State) : Nat := s.pmkTime / oneSec

/-- Postmark nanoseconds now. -/
def State.ns (s : State) : Nat := s.pmkTime % oneSec / 65536

/-- A time tag taken now is valid: TMG is ON and TIME_VALID is 1. -/
def State.tagValid (s : State) : Bool := s.domOn 2 && s.flag F.PMK_STATUS_TIME_VALID

/-- The tag of a one-second window that ends now: TAG_VALID and the low 31 bits of the seconds at its start (Table 5.3).
-/
def State.secTag (s : State) : Nat := (s.sec - 1) % 2 ^ 31 + 2 ^ 31 * bit s.tagValid

/-- An entry offered to the event log (R400): queued while MGMT is ON and fewer than 256 wait; one that finds the queue
full is dropped and counted in LOG_DROP. DESIGN CHOICE, safe (log 12). -/
def State.log (s : State) (source type inst : Nat) (detail : List W32) (injected : Bool := false) : State :=
  if !s.domOn 1 then s
  else if s.logQ.length < 256 then
    { s with logQ := s.logQ ++ [{
        source := source, type := type, inst := inst, sec := BitVec.ofNat 32 s.sec
        ns := BitVec.ofNat 32 (s.ns + 2 ^ 31 * bit s.tagValid), dropped := false, injected := injected, detail :=
            detail }] }
  else
    ({ s with logLost := s.logLost + 1 }.bump (R .PMC_LOG_DROP)).raise F.PMC_EVT_LOG_DROP

/-! ## Performance counters (R401 to R403, R407) -/

/-- An overflow of counter `n` that is not counted by a chained neighbour: its OVF bit, and a sample with SAMPLE = 1,
whose place is a free value (R407 lets it skid). -/
def State.pmcOver (n : Nat) (s : State) : State :=
  let s := s.wr (R .PMC_OVF) (s.rd (R .PMC_OVF) ||| BitVec.ofNat 32 (2 ^ n))
  if s.flag F.PMC_CTR_CFG_SAMPLE n then
    ((((s.wr (R .PMC_SAMPLE_SRC) (Config.freeWord s.free)).setFld F.PMC_SAMPLE_SRC_VALID 1).setFld F.PMC_SAMPLE_SRC_CTR
      n).wr (R .PMC_SAMPLE_PC) (Config.freeWord (s.free + 1))).wr (R .PMC_SAMPLE_SEG) (Config.freeWord (s.free + 2))
      |>.raise F.PMC_EVT_SAMPLE |> fun s => { s with free := s.free + 3 }
  else s

/-- What counter `n` holds (R401). -/
def State.pmcVal (s : State) (n : Nat) : Nat := s.rd64 (R .PMC_CTR_LO n) (R .PMC_CTR_HI n)

/-- Counter `n` gains `k` counts: it wraps past 2⁴⁸ − 1, and its overflows go to the odd counter chained to it. -/
def State.pmcGain (n k : Nat) (s : State) : State :=
  if !(s.flag F.PMC_CFG_EN && s.flag F.PMC_CTR_CFG_EN n) then s
  else
    let v := s.pmcVal n + k
    let s := s.wr64 (R .PMC_CTR_LO n) (R .PMC_CTR_HI n) (v % 2 ^ 48)
    if v < 2 ^ 48 then s
    else if n % 2 == 0 && s.flag F.PMC_CTR_CFG_CHAIN (n + 1) then
      if s.flag F.PMC_CTR_CFG_EN (n + 1) then
        let w := s.pmcVal (n + 1) + v / 2 ^ 48
        (s.wr64 (R .PMC_CTR_LO (n + 1)) (R .PMC_CTR_HI (n + 1)) (w % 2 ^ 48)).when (2 ^ 48 ≤ w) (State.pmcOver (n + 1))
      else s
    else s.pmcOver n

/-- The event has no instances, and QUAL selects nothing (Table 17.7). -/
def pmcPlain (ev : Nat) : Bool := ev ≤ 3 || (0x080 ≤ ev && decide (ev ≤ 0x084)) || (0x0C0 ≤ ev && decide (ev ≤ 0x0C6))

/-- `k` counts of event `ev` in instance `inst` (Table 17.7): every counter set to the event and to that instance, or to
every instance, gains them (R401 to R403). -/
def State.count (ev inst k : Nat) (s : State) : State :=
  if !(s.domOn 1 && s.flag F.PMC_CFG_EN) then s
  else s.upto 32 fun n s =>
    if s.fld F.PMC_CTR_CFG_EVENT n == ev && (pmcPlain ev || s.fld F.PMC_CTR_CFG_QUAL n == 0xFFF ||
        s.fld F.PMC_CTR_CFG_QUAL n == inst) &&
       !(n % 2 == 1 && s.flag F.PMC_CTR_CFG_CHAIN n)
    then s.pmcGain n k else s

/-- An entry of the event log whose TYPE and detail the spec does not give: free values.
DESIGN CHOICE, safe (log 12). -/
def State.logFree (source inst : Nat) (injected : Bool) (s : State) : State :=
  { s.log source (Config.freeNat s.free % 256) inst
      ((List.range 10).map fun k => Config.freeWord (s.free + 1 + k)) injected with free := s.free + 11 }

/-! ## The cores' protection regions (R393) -/

/-- log2 of a region's size: below 12 applies as 12. -/
def mpuSize (cfg : W32) : Nat := max 12 (F.CORE_MPU_CFG_SIZE.get cfg)

/-- Region `r` of core `c` is enabled and contains the address; bits of BASE below the size are ignored. -/
def State.mpuHit (s : State) (c r addr : Nat) : Bool :=
  let cfg := s.rd (R .CORE_MPU_CFG c r)
  F.CORE_MPU_CFG_EN.get cfg == 1 && s.rdN (R .CORE_MPU_BASE c r) / 2 ^ mpuSize cfg == addr % 2 ^ 32 / 2 ^ mpuSize cfg

/-- The right that an access of a kind asks for: 0 read, 1 write, 2 execute. -/
def mpuRight (kind : Nat) : Fld :=
  match kind with
  | 0 => F.CORE_MPU_CFG_R
  | 1 => F.CORE_MPU_CFG_W
  | _ => F.CORE_MPU_CFG_X

/-- An address of the counter block (Table 18.1). -/
def inPmc (addr : Nat) : Bool := 0x00E00000 ≤ addr && decide (addr < 0x00F00000)

/-- Core `c` denies the access (R393, R406). -/
def State.mpuDenies (s : State) (c addr kind : Nat) (machine : Bool) : Bool :=
  match (List.range 16).find? fun r => s.mpuHit c r addr with
  | none => !machine
  | some r =>
    let grant := s.flag (mpuRight kind) c r
    if machine then s.flag F.CORE_MPU_CFG_M c r && !grant
    else !grant || (inPmc addr && !(kind == 0 && addr / 4096 == 0x00E10 && s.flag F.PMC_CFG_USER_RD))

/-- A denied access is recorded and logged. -/
def State.mpuFault (c addr kind : Nat) (s : State) : State :=
  let s := if s.flag F.CORE_MPU_FAULT_INFO_VALID c then s.bumpFld F.CORE_MPU_FAULT_INFO_CNT c
    else (((s.setFld F.CORE_MPU_FAULT_INFO_VALID 1 c).setFld F.CORE_MPU_FAULT_INFO_KIND kind c).setFld
      F.CORE_MPU_FAULT_INFO_CNT 0 c).wrN (R .CORE_MPU_FAULT c) addr
  (s.logFree 0x01F1 c false).count 0x017 c 1

/-! ## An access on its way to the fabric -/

/-- Master `m` can issue an access: a core while MGMT is ON, the debug module in MANUFACTURE and RETURNED (R391). -/
def State.canIssue (s : State) (m : Master) : Bool :=
  match m with
  | .core _ | .user _ => s.domOn 1 && !s.inReset 1 0
  | .debug => s.fuse.lc == 1 || s.fuse.lc == 3
  | _ => true

/-- The regions of the core that issues the access deny it (R393); the other masters have none. -/
def State.denied (s : State) (m : Master) (addr kind : Nat) : Bool :=
  match m with
  | .core n => s.mpuDenies (n % 4) addr kind true
  | .user n => s.mpuDenies (n % 4) addr kind false
  | _ => false

/-- The core of a master. -/
def coreOf : Master → Nat
  | .core n | .user n => n % 4
  | _ => 0

/-- An earlier access of `m` waits in the fabric. -/
def State.holdsBack (s : State) (m : Master) : Bool := s.fab.waits.any fun e => masterCode e.m == masterCode m

/-- The access waits in the fabric (R420). DESIGN CHOICE, unsafe (log 55). -/
def State.park (m : Master) (addr size : Nat) (w : Option W32) (s : State) : State :=
  s.modFab fun f => { f with waits := f.waits ++ [⟨m, addr, size, w⟩] }

/-- An access by `m` of `size` bytes, a write of `w` or a read, whose effect is `f`: a core's regions check it before
any fabric transaction (R393), and it waits behind an earlier access of the same master that waits (R420). DESIGN
CHOICE, safe (log 14). -/
def State.issue (m : Master) (addr : Nat) (w : Option W32) (f : State → State) (s : State) (size : Nat := 4) : State :=
  if !s.canIssue m then s
  else if s.denied m addr (bit w.isSome) then s.mpuFault (coreOf m) addr (bit w.isSome)
  else if s.holdsBack m then s.park m addr size w
  else f s

/-- On a ZQ2000 the register's page belongs to a carrier, subcarrier or lane that does not exist: it behaves as a page
of a powered-off domain (R5). DESIGN CHOICE, unsafe (log 53). -/
def State.lacks (s : State) (k : RegKey) : Bool :=
  s.fuse.zq2000 &&
    match k.id.info.page with
    | .CAX | .CALC | .PCCC | .LFMC | .PMKC => decide (1 ≤ k.i)
    | .SCX | .LFMS => decide (8 ≤ k.i)
    | .HLN => decide (16 ≤ k.i)
    | _ => false

/-- Register `k` answers (R418, R5). -/
def State.regOn (s : State) (k : RegKey) : Bool := s.blockOn k.domain (k.addr / 4096) && !s.lacks k

/-- A write to register `k` waits: TX_PRE while a copy runs (R60), RMT_CMD while an access runs (R342). -/
def State.stalls (s : State) (k : RegKey) : Bool :=
  match k.id with
  | .CAX_TX_PRE => s.flag F.CAX_TX_PRE_APPLY_PENDING k.i
  | .YLN_RMT_CMD => s.flag F.YLN_RMT_STATUS_BUSY
  | _ => false

/-- A write of `v` by `m` to register `k`, whose effect is `f`, once the fabric has it (R418): an unused address is
recorded in DECODE_ERR, a block that is not ON or is held in reset in ACCESS_ERR, and both discard it. An accepted write
rewrites the register's fields, which clears a mismatch in them (R412). -/
def State.putReg (m : Master) (k : RegKey) (v : W32) (f : State → State) (s : State) : State :=
  if !k.valid then s.decodeErr m true 0 k.addr
  else if !s.regOn k then
    s.accessErr m true (s.inReset k.domain (k.addr / 4096)) (s.errDom k.domain) k.addr
  else if s.stalls k then s.park m k.addr 4 (some v)
  else f { s with cfgBad := s.cfgBad.filter (· != k) }

/-- A write of `v` by `m` to register `k`, whose effect is `f`. DESIGN CHOICE, safe (log 14). -/
def State.guardW (s : State) (m : Master) (k : RegKey) (v : W32) (f : State → State) : State :=
  s.issue m k.addr (some v) (State.putReg m k v f)

end Sys2Proof.Machine
end

