-- ==== Sys2Proof/Machine/Queues.lean ====
section
/-! DEFINITION. Shared operations of the traffic side: the maps and groups, the flow queues with their place in the
Shed and the Hayloft (R175 to R181), back-pressure (R167, R168), and the holding of groups (R163). -/

namespace Sys2Proof.Machine

/-! ## Instances that have been written -/

/-- The instances of register `id` that differ from its reset value, ascending. -/
def State.insts (s : State) (id : RegId) : List Nat :=
  s.regs.filterMap fun e => if e.1.id = id then some e.1.i else none

/-! ## Slot-map entries and groups -/

/-- Entry `e` of a slot map is valid. -/
def mapValid (e : W32) : Bool := F.LFM_SLOT_MAP_TX_VALID.get e == 1
/-- Entry `e`'s GID. -/
def mapGid (e : W32) : Nat := F.LFM_SLOT_MAP_TX_GID.get e
/-- Entry `e`'s member number. -/
def mapMsn (e : W32) : Nat := F.LFM_SLOT_MAP_TX_MSN.get e

/-- Group page `g` is its GID's home group (R137): MEMBERS lies from 1 to 160. -/
def State.isHome (s : State) (g : Nat) : Bool :=
  decide (1 ≤ s.fld F.LFM_GRP_CFG_MEMBERS g) && decide (s.fld F.LFM_GRP_CFG_MEMBERS g ≤ 160)

/-- The home group of a GID, if the device has one (R137). -/
def State.homeOf (s : State) (gid : Nat) : Option Nat :=
  (s.insts .LFM_GRP_CFG).find? fun g => s.isHome g && s.fld F.LFM_GRP_CFG_GID g == gid

/-- The GID of group page `g`. -/
def State.gid (s : State) (g : Nat) : Nat := s.fld F.LFM_GRP_CFG_GID g

/-- Some entry of a map names member `msn` of `gid`. -/
def mapHas (m : List W32) (gid msn : Nat) : Bool := m.any fun e => mapValid e && mapGid e == gid && mapMsn e == msn

/-- The subcarriers of this device whose transmit map in force names member `msn` of `gid`. -/
def State.txScs (s : State) (gid msn : Nat) : List Nat :=
  (List.range 16).filter fun i => mapHas (s.sc i).mapTx gid msn

/-- A carrier's transmitter is in SERVICE (Table 3.6). -/
def State.inService (s : State) (c : Nat) : Bool := s.domOn (4 + c) && s.fld F.CAX_TX_STATUS_TXSTATE c == 4

/-- An injection slot acts with this code and target (R414). -/
def State.inj (s : State) (code target : Nat) : Bool :=
  (s.insts .SAF_INJ_CFG).any fun k => s.flag F.SAF_INJ_CFG_ACTIVE k && s.fld F.SAF_INJ_CFG_CODE k == code &&
    s.fld F.SAF_INJ_CFG_TARGET k == target

/-- What keeps a member on this device's subcarrier `i` from being sent (R163). -/
def State.scHolds (s : State) (g i : Nat) : Bool :=
  let c := i / 8
  !s.inService c || (s.car c).hold ||
  (s.flag F.SOF_GRP_TXHOLD_REMOTE g &&
    (s.flag F.LFM_CA_STATUS_RDI_C_RX c || s.fld F.LFM_CA_STATUS_RDI_MAP_RX c / 2 ^ (i % 8) % 2 == 1)) ||
  (s.flag F.SOF_GRP_TXHOLD_LOCAL g && s.flag F.LFM_SC_STATUS_SF i)

/-- A member on another device is reported in SERVICE by a STATUS block of the last 20 µs (R336). -/
def State.yardUp (s : State) (gid msn : Nat) : Bool := s.yardSt.get 0 (gid * 256 + msn) % 2 == 1

/-- A condition of R163 holds for group page `g`. -/
def State.holdCond (s : State) (g : Nat) : Bool :=
  !s.flag F.LFM_GRP_CFG_EN g || s.inj 0x10 g ||
  (List.range (s.fld F.LFM_GRP_CFG_MEMBERS g)).any fun msn =>
    match s.txScs (s.gid g) msn with
    | [] => !s.yardUp (s.gid g) msn
    | l => l.any (s.scHolds g)

/-- Group page `g` is held: a condition holds, or none holds any more and no record boundary has passed since. -/
def State.grpHeld (s : State) (g : Nat) : Bool := s.flag F.SOF_GRP_TXHOLD_HELD g || s.holdCond g

/-! ## Flows -/

def State.flow (s : State) (f : Nat) : Flow := s.flows.get Flow.init f
def State.modFlow (s : State) (f : Nat) (h : Flow → Flow) : State := { s with flows := s.flows.mod Flow.init f h }

/-- The flow's direction is host to line (Table 7.8, SRC bit 12). -/
def State.toLine (s : State) (f : Nat) : Bool := !bitOf (s.rd (R .SOF_PH_W0 f)) 31

/-- A flow's egress as the entry has it (Table 7.9): a GID, or a port in [3:0]. -/
def State.egressOf (s : State) (f : Nat) : Nat :=
  if s.toLine f then s.fld F.SOF_PH_W6_EGRESS f else s.fld F.SOF_PH_W6_EGRESS f % 16

/-- The bytes of flow `f` in a list of shares. -/
def shareOf (f : Nat) (l : List (Nat × Nat)) : Nat := ((l.filter fun e => e.1 = f).map Prod.snd).sum

/-- The bytes of flow `f` that wait in the cipher engine to be sealed, or are being sealed (R204). -/
def State.sealing (s : State) (f : Nat) : Nat :=
  ((s.cip.msgs ++ s.cip.wait).map fun m => shareOf f m.own).sum + (s.cip.grp.map fun e => ((e.2.build.map fun m =>
      shareOf f m.own).getD 0)).sum

/-- O of R159: the bytes a flow holds in the Shed, the Hayloft and the cipher engine. -/
def State.occ (s : State) (f : Nat) : Nat := ((s.flow f).q.map Frm.len).sum + s.sealing f

/-- The performance event that a flow counter's counts are (Table 17.7). -/
def flowEvent (lo : RegId) : Option Nat :=
  match lo with
  | .SOF_ACC_FRM_LO => some 0x090
  | .SOF_OUT_FRM_LO => some 0x092
  | .SOF_POL_DROP_LO => some 0x093
  | .SOF_QUE_DROP_LO => some 0x094
  | _ => none

/-- `n` counts of flow `f` under the event of a flow counter. -/
def State.flowCount (lo : RegId) (f n : Nat) (s : State) : State :=
  match flowEvent lo with
  | some e => s.count e f n
  | none => s

/-- A counter of a flow raised by one. -/
def State.bumpFlow (s : State) (lo hi : RegId) (f : Nat) : State := (s.add64 (R lo f) (R hi f) 1).flowCount lo f 1

/-- A 72-bit byte counter raised by `n` (R170). -/
def State.addBytes (s : State) (lo mid hi : RegId) (f n : Nat) : State :=
  let v := s.rdN (R lo f) + 2 ^ 32 * s.rdN (R mid f) + 2 ^ 64 * s.rdN (R hi f) + n
  ((s.wrN (R lo f) (v % 2 ^ 32)).wrN (R mid f) (v / 2 ^ 32 % 2 ^ 32)).wrN (R hi f) (v / 2 ^ 64)

/-- The Shed cells of a stored frame with its descriptor (R174). -/
def shedCells (len : Nat) : Nat := (len + 16 + 255) / 256

/-- The cells a flow's queue uses in a part of the Shed. -/
def Flow.cells (fl : Flow) (p : Place) : Nat := ((fl.q.filter fun x => x.place = p).map fun x => shedCells x.len).sum

/-- The flow's Hayloft queue holds data (R179). -/
def Flow.inHay (fl : Flow) : Bool := fl.q.any fun x => x.place = .hayloft

/-- The sum of the valid flows' SHED_QUOTA, in 64 KB units. -/
def State.quotaSum (s : State) : Nat :=
  ((s.insts .SOF_PH_W6).map fun f => if s.flag F.SOF_PH_W6_VALID f then s.fld F.SOF_FP_W3_SHED_QUOTA f else 0).sum

/-- Output of the engine that waits for its tag in Shed cells (R217). -/
def Msg.cells (m : Msg) : Nat :=
  match m.kind with
  | .verify _ _ => if m.express && decide (m.len ≤ 2048) then 0 else shedCells m.len
  | .opening _ => if m.express then 0 else shedCells m.len
  | _ => 0

/-- The Shed pool occupancy of R167 and R175, in cells. -/
def State.shedPool (s : State) : Nat :=
  (s.flows.map fun e => e.2.cells .shared).sum + (s.cip.msgs.map Msg.cells).sum

/-- The cells of the shared space: 60 MB less the quotas (R174). -/
def State.sharedSize (s : State) : Nat := 245760 - s.quotaSum * 256

/-! ## The Hayloft's areas -/

/-- The installed capacity in bytes (R177). -/
def State.hayBytes (s : State) : Nat := if s.fuse.zq2000 then 2 ^ 36 else 2 ^ 37
/-- Where the metadata area begins (Table 8.1). -/
def State.hayMeta (s : State) : Nat := if s.fuse.zq2000 then 0x0FE0000000 else 0x1FC0000000
/-- CAP_SIZE as it applies, in bytes. -/
def State.capBytes (s : State) : Nat := min (s.fld F.HAY_CFG_CAP_SIZE) (if s.fuse.zq2000 then 16 else 32) * 2 ^ 26
/-- DSK_SIZE as it applies, in bytes. -/
def State.dskBytes (s : State) : Nat := min (s.fld F.HAY_CFG_DSK_SIZE) (if s.fuse.zq2000 then 20 else 40) * 2 ^ 28
/-- The pages of the flow area F (R177). -/
def State.flowPages (s : State) : Nat :=
  (s.hayMeta - s.capBytes - s.dskBytes) / 4096 - (s.hay.ret.filter fun r => !r.pend).length
/-- Where the capture area begins. -/
def State.capBase (s : State) : Nat := s.hayMeta - s.capBytes
/-- A byte address lies in the capture area. -/
def State.inCap (s : State) (a : Nat) : Bool := decide (s.capBase ≤ a) && decide (a < s.hayMeta)
/-- The pages of the pool that flows hold, that deskew uses, and that are lost (R177, R196). -/
def State.takenPages (s : State) : List Nat :=
  (s.flows.flatMap fun e => e.2.hayPg) ++ (s.grps.flatMap fun e => e.2.dsk) ++ s.hay.leak
/-- Page `p` is retired. -/
def State.isRetired (s : State) (p : Nat) : Bool := s.hay.ret.any fun r => !r.pend && r.page == p
/-- The flow-area pages in use, with those lost under R196. -/
def State.usedPages (s : State) : Nat := (s.flows.map fun e => e.2.hayPg.length).sum + s.rdN (R .HAY_LEAK_PAGES)
/-- The Hayloft bytes held for flows (R167). -/
def State.hayPool (s : State) : Nat := (s.flows.map fun e => e.2.hayPg.length).sum * 4096
/-- The member reservations held (R185). -/
def State.dskRes (s : State) : Nat := (s.grps.map fun e => e.2.pages).sum / 8192
/-- Spill admission is active (R179). -/
def State.spillOn (s : State) : Bool :=
  s.domOn 8 && s.flag F.HAY_STATUS_READY && s.flag F.HAY_CFG_ADMIT_EN && !s.flag F.HAY_STATUS_DRAINING

/-! ## Back-pressure (R167, R168) -/

/-- A threshold pair in units of `u` bytes with its hysteresis: at `xoff` or above in, at `xon` or below out; an `xon`
at or above `xoff` applies as `xoff` less one unit. -/
def hyst (was : Bool) (v u xoff xon : Nat) : Bool :=
  if xoff * u ≤ v then true else if v ≤ (if xoff ≤ xon then xoff - 1 else xon) * u then false else was

/-- A flow's XOFF_ST as R167 gives it: its own threshold, the pool of its placement, or an injection (Table 17.10).
DESIGN CHOICE, unsafe (log 21). -/
def State.flowXoff (s : State) (f : Nat) : Bool :=
  (s.flag F.SOF_PH_W6_BP_EN f && ((s.flow f).own ||
    (if s.flag F.SOF_PH_W6_SPILL f && s.spillOn then s.flag F.SOF_POOL_STATUS_HAY_XOFF
     else s.flag F.SOF_POOL_STATUS_SHED_XOFF))) || s.inj 0x11 f

/-- XOFF_ST brought up to date; an entry counts. DESIGN CHOICE, unsafe (log 21). -/
def State.xoffFlow (f : Nat) (s : State) : State :=
  let x := s.flowXoff f
  if x == s.flag F.SOF_FP_W4_XOFF_ST f then s
  else (s.setFlag F.SOF_FP_W4_XOFF_ST x f).when x fun s => s.bumpFlow .SOF_XOFF_CNT_LO .SOF_XOFF_CNT_HI f

/-- Flow `f`'s key, under its mask, covers host port `p`. -/
def State.covers (s : State) (f p : Nat) : Bool :=
  let m := s.rdN (R .SOF_PH_W3 f) / 2 ^ 19
  (Nat.xor (s.fld F.SOF_PH_W0_SRC f) p) &&& m == 0

/-- The priorities of port `p` in TX_XOFF (R168). -/
def State.txXoff (s : State) (p : Nat) : Nat :=
  ((List.range 8).map fun q =>
    if bitOf (s.rd (R .SOF_PFC_CFG p)) q && (s.insts .SOF_PH_W6).any (fun f =>
      s.flag F.SOF_PH_W6_VALID f && s.toLine f && s.flag F.SOF_FP_W4_XOFF_ST f && s.fld F.SOF_PH_W6_PRIO f == q &&
      s.covers f p) then 2 ^ q else 0).sum

/-- Host port `p` takes frames: it is enabled and UP (R164). -/
def State.portUp (s : State) (p : Nat) : Bool := s.flag F.SOF_PORT_CFG_EN p && s.flag F.SOF_PORT_STATUS_UP p

def State.port (s : State) (p : Nat) : PortOut := s.ports.get PortOut.init p
def State.modPort (p : Nat) (f : PortOut → PortOut) (s : State) : State :=
  { s with ports := s.ports.mod PortOut.init p f }

/-- The pause frame of port `p` (R168): PFC speaks of the priorities `old` and `new`, with QUANTA for those in TX_XOFF
and 0 for those that have left it; PAUSE has QUANTA while any is in TX_XOFF. -/
def State.pauseFrame (s : State) (p old new : Nat) : PauseFrame :=
  let q := s.fld F.SOF_PFC_CFG_QUANTA p
  if s.fld F.SOF_PORT_CFG_FC_MODE p == 2 then
    { pfc := true, en := Nat.lor old new, quanta := (List.range 8).map fun k => if new.testBit k then q else 0 }
  else { pfc := false, en := 0, quanta := [if new = 0 then 0 else q] }

/-- Port `p`, where it is enabled and UP, sends a pause frame. -/
def State.pauseSend (p old new : Nat) (s : State) : State :=
  s.when (s.portUp p) fun s =>
    (s.modPort p fun x => { x with pause := some (s.pauseFrame p old new) }).add64 (R .SOF_TX_PAUSE_LO p)
      (R .SOF_TX_PAUSE_HI p) 1

/-- TX_XOFF of port `p` brought up to date; a change sends a pause frame where FC_MODE has one to send (R168): PFC for
any change, PAUSE when the port enters or leaves XOFF as a whole. -/
def State.pausePort (p : Nat) (s : State) : State :=
  let old := s.fld F.SOF_PORT_STATUS_TX_XOFF p
  let new := s.txXoff p
  if old == new then s
  else
    let mode := s.fld F.SOF_PORT_CFG_FC_MODE p
    (s.setFld F.SOF_PORT_STATUS_TX_XOFF new p).when (mode == 2 || (mode == 1 && ((old == 0) != (new == 0))))
      (State.pauseSend p old new)

/-- While the condition lasts, port `p` repeats its pause frame, and sends one as it comes UP in it (R168). -/
def State.pauseAgain (p : Nat) (s : State) : State :=
  let x := s.fld F.SOF_PORT_STATUS_TX_XOFF p
  let mode := s.fld F.SOF_PORT_CFG_FC_MODE p
  s.when (x != 0 && (mode == 1 || mode == 2)) (State.pauseSend p x x)

/-- Every port's TX_XOFF brought up to date. -/
def State.pauseAll (s : State) : State := s.upto 16 State.pausePort

/-- The thresholds compared, after an admission or a departure of flow `f` (R167). DESIGN CHOICE, unsafe (log 21). -/
def State.thresholds (f : Nat) (s : State) : State :=
  let own := hyst (s.flow f).own (s.occ f) 65536 (s.fld F.SOF_FP_W2_XOFF f) (s.fld F.SOF_FP_W3_XON f)
  let s := s.modFlow f fun fl => { fl with own := own }
  let sh := s.flag F.SOF_POOL_STATUS_SHED_XOFF
  let sh' := hyst sh (s.shedPool * 256) 65536 (s.fld F.SOF_SHED_POOL_XOFF) (s.fld F.SOF_SHED_POOL_XON)
  let hy := s.flag F.SOF_POOL_STATUS_HAY_XOFF
  let hy' := hyst hy s.hayPool (2 ^ 22) (s.fld F.SOF_HAY_POOL_XOFF) (s.fld F.SOF_HAY_POOL_XON)
  let s := ((s.setFlag F.SOF_POOL_STATUS_SHED_XOFF sh').setFlag F.SOF_POOL_STATUS_HAY_XOFF hy').when (sh' && !sh)
    (fun s => s.raise F.SOF_EVT_SHED_XOFF)
  let s := s.when (hy' && !hy) fun s => s.raise F.SOF_EVT_HAY_XOFF
  let s := if sh == sh' && hy == hy' then s.xoffFlow f else s.each (s.insts .SOF_PH_W6) State.xoffFlow
  s.pauseAll

/-! ## Retirement (R198) -/

/-- A page is in use: a merge entry's, the capture area's while capture runs, a flow's, a group's or a lost one. -/
def State.pageUsed (s : State) (p : Nat) : Bool :=
  s.hay.merge.any (fun m => m.line / 64 == p) || (s.inCap (4096 * p) && s.flag F.HAY_CAP_CFG_EN) ||
      s.takenPages.contains p

/-- RET_STATUS's PENDING and COUNT from the table. -/
def State.retShow (s : State) : State :=
  (s.setFlag F.HAY_RET_STATUS_PENDING (s.hay.ret.any RetPage.pend)).setFld F.HAY_RET_STATUS_COUNT s.hay.ret.length

/-- Pending pages that have been freed are retired. -/
def State.retSettle (s : State) : State :=
  if s.hay.ret.any RetPage.pend then
    ({ s with hay := { s.hay with ret := s.hay.ret.map fun r => { r with pend := r.pend && s.pageUsed r.page } } } : State).retShow
  else s

/-! ## Leaving a queue -/

/-- A flow whose Hayloft queue has become empty holds no page and nothing read back. -/
def Flow.hayEnd (fl : Flow) : Flow :=
  if fl.inHay then fl else { fl with hayIn := 0, hayOut := 0, hayPg := [], hayTail := [], hayRd := 0, hayGot := [] }

/-- What follows when flow `f` has lost frames: its Hayloft pages are free once the Hayloft queue is empty, a DRAINING
flow becomes IDLE when O is 0, a MOVING flow ACTIVE when its old backlog has left (R171, R172), and the thresholds are
compared. -/
def State.departed (f : Nat) (s : State) : State :=
  let s := (s.modFlow f Flow.hayEnd).retSettle
  let st := s.fld F.SOF_FP_W4_STATE f
  let s :=
    if st == 2 && s.occ f == 0 then s.setFld F.SOF_FP_W4_STATE 0 f
    else if st == 3 && (s.flow f).q.all (fun x => x.egress == s.egressOf f) then
      s.setFld F.SOF_FP_W4_STATE 1 f
    else s
  s.thresholds f

/-- The Hayloft queue of a flow consumed up to byte `n`: the pages behind it are free, the lines read back go. -/
def Flow.hayTake (n : Nat) (fl : Flow) : Flow :=
  { fl with hayOut := n, hayPg := fl.hayPg.drop (n / 4096 - fl.hayOut / 4096), hayGot := fl.hayGot.filter (n / 64 ≤ ·) }

/-- The frame at the head of flow `f` leaves its place; what it held in the Hayloft is consumed. -/
def State.popHead (f : Nat) (s : State) : State :=
  s.modFlow f fun fl =>
    match fl.q with
    | [] => fl
    | x :: q => if x.place = .hayloft then ({ fl with q := q } : Flow).hayTake (x.off + x.len) else { fl with q := q }

/-- Frames that are to be discarded at the head of their queue are discarded there, each counted once (R105, R192). -/
def State.purgeN (f : Nat) : Nat → State → State
  | 0, s => s
  | n + 1, s =>
    match (s.flow f).q with
    | [] => s
    | x :: _ =>
      if x.msg.isNone && x.poison then
        State.purgeN f n ((s.bumpFlow .SOF_POISON_DROP_LO .SOF_POISON_DROP_HI f).popHead f)
      else if x.msg.isNone && x.errored then
        State.purgeN f n ((s.bumpFlow .SOF_ERR_DROP_LO .SOF_ERR_DROP_HI f).popHead f)
      else s

/-- The head of flow `f` cleared of frames to be discarded. -/
def State.purge (f : Nat) (s : State) : State := s.purgeN f (s.flow f).q.length

/-- Every frame of flow `f` that satisfies `p` is discarded and counted in a counter of the flow. -/
def State.dropFrames (f : Nat) (p : Frm → Bool) (lo hi : RegId) (s : State) : State :=
  let n := ((s.flow f).q.filter p).length
  if n = 0 then s
  else
    let s := s.modFlow f fun fl => { fl with q := fl.q.filter fun x => !p x }
    ((s.add64 (R lo f) (R hi f) n).flowCount lo f n).departed f

/-! ## Holding (R163, R164) -/

/-- The express frames queued for a GID, or for a port, are discarded and counted in PATH_DROP. -/
def State.dropExpress (line : Bool) (e : Nat) (s : State) : State :=
  s.each (s.flows.map Prod.fst) fun f s =>
    s.dropFrames f (fun x => x.line == line && x.exp && x.egress == e) .SOF_PATH_DROP_LO .SOF_PATH_DROP_HI

/-- Group page `g`'s hold begins where it is its GID's home group and a condition of R163 holds. -/
def State.holdGrp (g : Nat) (s : State) : State :=
  if s.domOn 7 && s.isHome g && !s.flag F.SOF_GRP_TXHOLD_HELD g && s.holdCond g then
    (s.setFld F.SOF_GRP_TXHOLD_HELD 1 g).dropExpress true (s.gid g)
  else s

/-- The holds of every configured group brought up to date. -/
def State.holds (s : State) : State := s.each (s.insts .LFM_GRP_CFG) State.holdGrp

/-- Express frames queued for a port that has gone down are discarded and counted in PATH_DROP (R164). -/
def State.holdPort (p : Nat) (s : State) : State := if s.portUp p then s else s.dropExpress false p

/-- An egress, a GID where `line` or a port, is held (R163, R164). -/
def State.held (s : State) (line : Bool) (e : Nat) : Bool :=
  if line then
    match s.homeOf e with
    | some g => s.grpHeld g
    | none => true
  else !s.portUp e

/-- The egress of flow `f` is held (Table 7.13, HELD). -/
def State.egressHeld (s : State) (f e : Nat) : Bool := s.held (s.toLine f) e

end Sys2Proof.Machine
end

