-- ==== Sys2Proof/Machine/TxCore.lean ====
section
/-! DEFINITION. The transmitter's state machine (Tables 3.6 and 3.7) with what follows from a change of its state, the
pending automatic Postcards (R302, R305), and the detection of a fault with its fail-over reactions (R409). -/

namespace Sys2Proof.Machine

/-! ## Postcard transmitters -/

def State.pccT (s : State) (c : Nat) : PccTx := s.pccTx.get PccTx.init c
def State.modPccT (s : State) (c : Nat) (f : PccTx → PccTx) : State := { s with pccTx := s.pccTx.mod PccTx.init c f }

/-- The enable bit of TX_AUTO for automatic type `t` (R302); Postmark enables its own. -/
def State.pccAuto (s : State) (c t : Nat) : Bool :=
  match t with
  | 0 => s.flag F.PCC_TX_AUTO_ID_EN c
  | 1 => s.flag F.PCC_TX_AUTO_QL_EN c
  | 2 => s.flag F.PCC_TX_AUTO_DEF_EN c
  | 5 => s.flag F.PCC_TX_AUTO_SR_EN c
  | _ => true

/-- An automatic Postcard of type `t` becomes pending on carrier `c`, at most one of each type (R302, R305). -/
def State.pccPend (c t : Nat) (s : State) : State :=
  if s.pccAuto c t && s.domOn 3 && !(s.pccT c).autos.contains t then s.modPccT c fun p =>
      { p with autos := p.autos ++ [t] } else s

/-- A Postcard in progress stops at once and is not sent again (R307). -/
def State.pccStop (c : Nat) (s : State) : State :=
  if (s.pccT c).active.isNone then s
  else (((s.modPccT c fun p => { p with active := none, left := 0, tone := s.us }).bump (R .PCC_TX_ABORT_CNT c)).raise
    F.PCC_EVT_TX_ABORT).setFlag F.PCC_TX_STATUS_ACTIVE false c

/-! ## TX_SHAPE (R59) -/

/-- A TX_SHAPE or RX_SHAPE value as it comes into force: ROLLOFF 2 to 10, BOOST at most 6. -/
def shapeForce (w : W32) : W32 :=
  let r := F.CAX_TX_SHAPE_ROLLOFF.get w
  let b := F.CAX_TX_SHAPE_BOOST.get w
  F.CAX_TX_SHAPE_ROLLOFF.put (min (max r 2) 10) (F.CAX_TX_SHAPE_BOOST.put (min b 6) (w &&& 0x00007F3F))

/-- PENDING and ROLLOFF_ACT of TX_SHAPE from the shadow and the values in force. -/
def State.shapeShow (c : Nat) (s : State) : State :=
  let sh := s.rd (R .CAX_TX_SHAPE c)
  (s.setFlag F.CAX_TX_SHAPE_PENDING (decide (shapeForce sh ≠ (s.car c).shape)) c).setFld F.CAX_TX_SHAPE_ROLLOFF_ACT
    (F.CAX_TX_SHAPE_ROLLOFF.get (s.car c).shape) c

/-- TX_SHAPE copied into force. -/
def State.shapeCopy (c : Nat) (s : State) : State :=
  (s.modCar c fun k => { k with shape := shapeForce (s.rd (R .CAX_TX_SHAPE c)) }).shapeShow c

/-! ## The state machine -/

/-- The page number of CAX[c]. -/
def caxPage (c : Nat) : Nat := (R .CAX_TX_CTRL c).addr / 4096

/-- A level 3 or 4 reset asks the carrier for idle (R360). -/
def State.idleAsked (s : State) (dom page : Nat) : Bool :=
  s.asserted.any fun a => a.asking && ((a.level == 3 && a.dom == dom) || (a.level == 4 && a.page == page))

/-- The cause bits of TX_STATUS that follow from levels elsewhere (Table 3.7). CLK, RECONF and TEST are set and
cleared by their events. -/
def State.txCauses (c : Nat) (s : State) : State :=
  let d := 4 + c
  ((((s.setFlag F.CAX_TX_STATUS_CFG (!bitOf (s.rd (R .DEV_CFG_APPLIED)) d) c).setFlag F.CAX_TX_STATUS_PWR
    (s.asking d || s.idleAsked d (caxPage c)) c).setFlag F.CAX_TX_STATUS_SW_OFF (!s.flag F.CAX_TX_CTRL_LASER_ON c)
    c).setFlag F.CAX_TX_STATUS_LFM (!s.domOn 6 || s.asking 6) c).setFlag F.CAX_TX_STATUS_SW_MUTE
    (s.flag F.CAX_TX_CTRL_MUTE c) c

/-- A dark cause is present (Table 3.7). -/
def State.txDark (s : State) (c : Nat) : Bool :=
  s.flag F.CAX_TX_STATUS_CFG c || s.flag F.CAX_TX_STATUS_PWR c || s.flag F.CAX_TX_STATUS_TEST c ||
  s.flag F.CAX_TX_STATUS_SW_OFF c || (s.flag F.CAX_TX_STATUS_CLK c && s.flag F.CAX_TX_CTRL_SQUELCH_LASER c)

/-- A mute cause is present (Table 3.7). -/
def State.txMute (s : State) (c : Nat) : Bool :=
  s.flag F.CAX_TX_STATUS_LFM c || s.flag F.CAX_TX_STATUS_RECONF c || s.flag F.CAX_TX_STATUS_SW_MUTE c ||
  (s.flag F.CAX_TX_STATUS_CLK c && !s.flag F.CAX_TX_CTRL_SQUELCH_LASER c)

/-- Entering FILL: TX_SHAPE comes into force (R59), FN and JC restart (R115), a whole multiframe is still to be sent,
and the dither starts unmodulated (R307). -/
def State.txFill (c : Nat) (s : State) : State :=
  (((s.setFld F.CAX_TX_STATUS_TXSTATE 3 c).modCar c fun k => { k with fn := 0, jc := 0, fillMf := false }).modPccT c
    fun p => { p with tone := s.us }).shapeCopy c

/-- The transmitter follows its causes (R67, Table 3.6). `settled` is the end of SETTLE. Leaving FILL or SERVICE stops a
Postcard in progress (R307); a skew still ramping arrives at once outside FILL and SERVICE (R62). -/
def State.txMove (c : Nat) (settled : Bool) (s : State) : State :=
  let st := s.fld F.CAX_TX_STATUS_TXSTATE c
  let live := st == 3 || st == 4
  if s.txDark c then
    if st == 0 then s
    else ((s.setFld F.CAX_TX_STATUS_TXSTATE 0 c).raise F.CAX_TX_EVT_DARKENED c).when live (State.pccStop c)
  else if st == 0 then s.setFld F.CAX_TX_STATUS_TXSTATE 1 c
  else if st == 1 then
    if settled then if s.txMute c then s.setFld F.CAX_TX_STATUS_TXSTATE 2 c else s.txFill c else s
  else if s.txMute c then
    if live then ((s.setFld F.CAX_TX_STATUS_TXSTATE 2 c).raise F.CAX_TX_EVT_MUTED c).pccStop c else s
  else if st == 2 then s.txFill c
  else s

/-- The applied skew of lane `l` as its bounded sum asks (R62): the nearest limit outside ±400. -/
def State.skewSum (s : State) (c l : Nat) : Int :=
  signed 10 (s.fld F.CAX_TX_SKEW_BOARD c l) + signed 10 (s.fld F.CAX_TX_SKEW_CAL_TERM c l)

/-- `z` brought into −400 to 400. -/
def skewClamp (z : Int) : Int := max (-400) (min 400 z)

/-- Outside FILL and SERVICE a new sum applies at once; inside, a ramp towards it runs while it has not arrived. -/
def State.skewSettle (c l : Nat) (s : State) : State :=
  let t := skewClamp (s.skewSum c l)
  let st := s.fld F.CAX_TX_STATUS_TXSTATE c
  if st == 3 || st == 4 then s.setFlag F.CAX_TX_SKEW_RAMPING (decide ((s.car c).skew.get 0 l ≠ t)) c l
  else (s.modCar c fun k => { k with skew := k.skew.set 0 l t }).setFlag F.CAX_TX_SKEW_RAMPING false c l

/-- The causes of carrier `c` and the transmitter's state brought up to date, and with them the held groups (R163). -/
def State.txEval (c : Nat) (s : State) : State :=
  if s.domOn (4 + c) && !s.inReset (4 + c) (caxPage c) then
    (((s.txCauses c).txMove c false).upto 4 fun l s => s.skewSettle c l).holds
  else s

/-! ## Faults (R409) -/

/-- The fault class of an injection code (Table 17.10), for fault `f`. -/
def injClass (code f : Nat) : Bool :=
  match code with
  | 0x01 => f == 0
  | 0x02 => f == 1 || f == 2
  | 0x03 => f == 2
  | 0x04 => f == 3
  | 0x05 => f == 4
  | 0x06 => f == 5
  | 0x07 => f == 6
  | 0x08 => f == 7
  | 0x09 => f == 8
  | _ => false

/-- A slot of fault class `f` acts (R414). DESIGN CHOICE, safe (log 25). -/
def State.injActs (s : State) (f : Nat) : Bool :=
  (s.insts .SAF_INJ_CFG).any fun k => s.flag F.SAF_INJ_CFG_ACTIVE k && injClass (s.fld F.SAF_INJ_CFG_CODE k) f

/-- The reactions of fault `f` are suppressed (R415). -/
def State.noReact (s : State) (f : Nat) : Bool := s.flag F.SAF_WIN_CTRL_NO_REACT && s.injActs f

/-- FAULT_STATUS bit `f` (Table 17.6). -/
def State.faultLevel (s : State) (f : Nat) : Bool :=
  match f with
  | 0 => s.plls.any s.domOn || s.flag F.CAX_TX_STATUS_CLK 0 || s.flag F.CAX_TX_STATUS_CLK 1 ||
      (s.car 0).adcFault || (s.car 1).adcFault
  | 1 => s.stb.fault == 1
  | 2 => s.stb.fault == 2
  | 3 => s.flag F.PMK_STATUS_TIME_FAULT
  | 4 => s.fld F.MON_STATUS_FAULT != 0
  | 5 => (s.cfgBad.any fun k => s.domOn k.domain) || (s.insts .SAF_INJ_CFG).any fun k =>
      s.flag F.SAF_INJ_CFG_ACTIVE k && s.fld F.SAF_INJ_CFG_CODE k == 6
  | 9 => s.fld F.STB_STATUS_STATE == 4
  | _ => false

/-- Some fault has the reaction `r` acting (R409): from detection until FAULT_STATUS and FAULT_EVT are both 0, on REACT
as it stands; not while NO_REACT suppresses it (R415). -/
def State.reacts (s : State) (r : Fld) : Bool :=
  (List.range 10).any fun f =>
    s.flag r f && (s.faultLevel f || bitOf (s.rd (R .SAF_FAULT_EVT)) f) && !s.noReact f

/-- PPS_OUT is squelched (R265). -/
def State.ppsSq (s : State) : Bool :=
  !s.domOn 2 || !s.flag F.PMK_PPS_CFG_EN || !s.flag F.PMK_STATUS_TIME_VALID ||
  (s.fld F.STB_STATUS_STATE == 0 && s.flag F.PMK_PPS_CFG_SQ_FREERUN) || s.reacts F.SAF_REACT_PPS_SQ ||
  s.pmk.stepSec == some s.sec

/-- STATUS.PPS_SQ brought up to date; a squelch that begins is an event. -/
def State.ppsEval (s : State) : State :=
  if !s.domOn 2 || s.ppsSq = s.flag F.PMK_STATUS_PPS_SQ then s
  else (s.setFlag F.PMK_STATUS_PPS_SQ s.ppsSq).when s.ppsSq fun s => s.raise F.PMK_EVT_PPS_SQ_SET

/-- FO0 or FO1 acts: MUTE = 1 where the carrier's domain is ON, else kept pending in FO_PEND; FO1 has no effect on a
ZQ2000 (R409). -/
def State.failOver (c : Nat) (s : State) : State :=
  if s.nCar ≤ c then s
  else if s.domOn (4 + c) then (s.setFlag F.CAX_TX_CTRL_MUTE true c).txEval c
  else if c = 0 then s.raise F.SAF_FO_PEND_FO0 else s.raise F.SAF_FO_PEND_FO1

/-- The fail-overs of fault `f`, on REACT[f] as it stands. DESIGN CHOICE, unsafe (log 49). -/
def State.failOvers (f : Nat) (s : State) : State :=
  let a := s.flag F.SAF_REACT_FO0 f
  let b := s.flag F.SAF_REACT_FO1 f
  (s.when a (State.failOver 0)).when b (State.failOver 1)

/-- Fault `f` is detected (R409): its FAULT_EVT bit, its count, a log entry, and the fail-over reactions. -/
def State.detect (f : Nat) (s : State) : State :=
  let e := s.rd (R .SAF_FAULT_EVT)
  let s := ((s.wr (R .SAF_FAULT_EVT) (e ||| BitVec.ofNat 32 (2 ^ f))).bump (R .SAF_FAULT_CNT f)).logFree 0x00F0 f
    (s.injActs f)
  if s.noReact f then s else (s.failOvers f).ppsEval

end Sys2Proof.Machine
end

