-- ==== Sys2Proof/Machine/Groups.lean ====
section
/-! DEFINITION. Concatenated groups on the receive side: a slot in service, the group states of Table 6.12, the choice
of the deskew mode (R142) with its reservation (R185), and their commands. -/

namespace Sys2Proof.Machine

/-- The received MSI of a slot agrees with its receive-map entry in OCC, ENC, GID and MSN (R139). -/
def msiMatch (msi e : W32) : Bool := (msi ^^^ e) &&& 0xCFFF00FF == 0

/-- A slot of this device is in service, its member's marker alignment apart: its subcarrier is in IM and not in signal
fail, its decoder delivers (R100), and its accepted MSI matches (notes to Table 6.12). -/
def State.slotUp (s : State) (i slot : Nat) : Bool :=
  s.domOn 6 && s.fld F.LFM_SC_STATUS_FSTATE i == 3 && !s.flag F.LFM_SC_STATUS_SF i && (s.sc i).live &&
    msiMatch (s.rd (R .LFM_MSI_RX i slot)) ((s.sc i).mapRx.getD slot 0)

/-- The slots of this device that receive member `msn` of `gid`: subcarrier and slot. -/
def State.rxSlots (s : State) (gid msn : Nat) : List (Nat × Nat) :=
  (List.range 16).flatMap fun i =>
    ((List.range 10).filter fun e =>
      let w := (s.sc i).mapRx.getD e 0
      mapValid w && mapGid w == gid && mapMsn w == msn).map fun e => (i, e)

/-- Member `msn` of group page `g` is in service: its slot here, or its slot as another device reports it (R336). -/
def State.memberUp (s : State) (g msn : Nat) : Bool :=
  !((s.grp g).mem.get Member.init msn).loa &&
  match s.rxSlots (s.gid g) msn with
  | [] => s.yardSt.get 0 (s.gid g * 256 + msn) / 2 % 2 == 1
  | l => l.all fun x => s.slotUp x.1 x.2

/-- The payload of a group's members is delivered: no subcarrier that receives one of them discards its frame's payload
(R121). -/
def State.grpPays (s : State) (g : Nat) : Bool :=
  (List.range (s.fld F.LFM_GRP_CFG_MEMBERS g)).all fun m => (s.rxSlots (s.gid g) m).all fun x => !(s.sc x.1).payDrop

/-- The members of a group. -/
def State.members (s : State) (g : Nat) : List Nat := List.range (s.fld F.LFM_GRP_CFG_MEMBERS g)

/-- The group is in service: SERVICE_DIE or SERVICE_HAY. -/
def State.grpUp (s : State) (g : Nat) : Bool :=
  s.fld F.LFM_GRP_STATUS_STATE g == 4 || s.fld F.LFM_GRP_STATUS_STATE g == 5

/-- A core's entry without some messages, none where nothing is left. -/
def CipCore.without (ids : List Nat) (e : Nat × CipCore) : Option (Nat × CipCore) :=
  let c : CipCore := ⟨e.2.cur.filter fun x => !ids.contains x, e.2.susp.filter fun x => !ids.contains x,
    e.2.wait.filter fun x => !ids.contains x⟩
  if c = CipCore.init then none else some (e.1, c)

/-- The seals of a group that are still open when it leaves service are dropped and counted in SEAL_LOSS, and what was
opened and not delineated is discarded (R210). -/
def State.sealsLost (g : Nat) (s : State) : State :=
  let l := s.cip.msgs.filter fun m => m.kind = MsgKind.opening g
  let ids := l.map Msg.id
  let s := { s with cip := { s.cip with
    msgs := s.cip.msgs.filter fun m => m.kind ≠ MsgKind.opening g
    wait := s.cip.wait.filter fun m => m.kind ≠ MsgKind.opening g
    cores := s.cip.cores.filterMap (CipCore.without ids)
    grp := s.cip.grp.mod GrpCtx.init g fun x => { x with clear := [], skip := false } } }
  s.each l fun _ s => (s.bump (R .CIP_SEAL_LOSS g)).raise F.CIP_EVT_SEAL_LOSS

/-- A group goes to `st` (DOWN or WAIT): where it was in service it leaves it, with its event and count (R143), its
stream back in HUNT (R161); a deskew reservation is released (R185). -/
def State.grpLeave (g st : Nat) (s : State) : State :=
  let s := s.when (s.grpUp g) fun s =>
    { ((s.raise F.LFM_GRP_EVT_DOWN g).bump (R .LFM_GRP_FAIL_CNT g)).sealsLost g with delin := s.delin.set Delin.init g Delin.init }
  ((s.setFld F.LFM_GRP_STATUS_STATE st g).modGrp g fun x => { x with pages := 0, dsk := [], hay := false }).retSettle

/-- A group brought up to date with its members (Table 6.12): DOWN while it is not enabled or MEMBERS lies outside 1 to
160, WAIT while a member is out of service, ALIGN once all are in, when the markers are to be confirmed afresh. -/
def State.grpEval (g : Nat) (s : State) : State :=
  let st := s.fld F.LFM_GRP_STATUS_STATE g
  let ms := s.members g
  let up := ms.filter (s.memberUp g)
  let s :=
    if !(s.flag F.LFM_GRP_CFG_EN g && s.isHome g) then if st = 0 then s else s.grpLeave g 0
    else if up.length < ms.length then if st = 1 then s else s.grpLeave g 1
    else if st ≤ 1 then
      (s.setFld F.LFM_GRP_STATUS_STATE 2 g).modGrp g fun x =>
        { x with mem := x.mem.mapAll Member.init fun m => { m with ok := false } }
    else s
  (s.setFld F.LFM_GRP_STATUS_MISSING (ms.length - up.length) g).setFld F.LFM_GRP_STATUS_ALIGNED
    ((ms.filter fun m => ((s.grp g).mem.get Member.init m).ok).length) g

/-- Every configured group brought up to date, then the holds of R163. -/
def State.grpsEval (s : State) : State := (s.each (s.insts .LFM_GRP_CFG) State.grpEval).holds

/-! ## Skew and mode -/

/-- The arrival times of marker `round` on a group's members, where every member has had it. -/
def State.arrivals (s : State) (g round : Nat) : Option (List Nat) :=
  (s.members g).mapM fun m => Tab.look round ((s.grp g).mem.get Member.init m).hist

/-- The spread of a list of times (R141). -/
def spread (l : List Nat) : Nat := (l.foldl max 0) - (l.foldl min (l.headD 0))

/-- The Hayloft can take a group's deskew (R142, R185): bulk, HAY_OK, HAY ON and not draining; the reservation fits. -/
def State.hayAble (s : State) (g : Nat) : Bool :=
  !s.flag F.LFM_GRP_CFG_EXPRESS g && s.flag F.LFM_GRP_CFG_HAY_OK g && s.domOn 8 && !s.flag F.HAY_STATUS_DRAINING

/-- The reservation of R185 fits within DSK_SIZE: 32 MB for each member. -/
def State.dskFits (s : State) (g : Nat) : Bool :=
  (s.dskRes + s.fld F.LFM_GRP_CFG_MEMBERS g) * 2 ^ 25 ≤ s.dskBytes

/-- The deskew mode chosen on a skew in ns (R142): on die up to 19 µs, through the Hayloft up to 9.5 ms, SKEW_OVR else;
`entry` says that this is a bring-up, whose failure sets the event, and no later check. -/
def State.grpMode (g skew : Nat) (entry : Bool) (s : State) : State :=
  if skew ≤ 19000 then (s.setFld F.LFM_GRP_STATUS_STATE 3 g).modGrp g fun x => { x with hay := false }
  else if skew ≤ 9500000 && s.hayAble g && s.dskFits g then
    (s.setFld F.LFM_GRP_STATUS_STATE 3 g).modGrp g fun x =>
      { x with hay := true, pages := 8192 * s.fld F.LFM_GRP_CFG_MEMBERS g }
  else
    let s := s.when (skew ≤ 9500000 && s.hayAble g && s.domOn 8) fun s => s.raise F.HAY_EVT_NO_ROOM
    (s.setFld F.LFM_GRP_STATUS_STATE 6 g).when entry fun s => s.raise F.LFM_GRP_EVT_SKEW_OVR g

/-! ## The commands -/

/-- A marker round of group page `g` begins: a stream discarded up to the round boundary is parsed again (R210).
DESIGN CHOICE, unsafe (log 79). -/
def State.roundStart (g : Nat) (s : State) : State :=
  { s with cip := { s.cip with grp := s.cip.grp.mod GrpCtx.init g fun x => { x with skip := false } } }

/-- A marker on member `msn` (R141): `round` is none for one missing or invalid, `gap` the bytes since the place of the
last marker, `arrival` its time in ns. ROUND goes on by one at each place, whether the marker came or not. -/
def State.marker (g msn : Nat) (round : Option Nat) (gap arrival : Nat) (s : State) : State :=
  let m := (s.grp g).mem.get Member.init msn
  let good := match round, m.next with
    | some r, some e => gap == 32784 && r == e
    | some _, none => !m.ok
    | none, _ => false
  let miss := if good then 0 else m.miss + 1
  let lost := !good && 3 ≤ miss && m.ok
  let m' : Member :=
    { hist := match round with
        | some r => (r, arrival) :: m.hist.take 1023
        | none => m.hist
      next := match round with
        | some r => some ((r + 1) % 2 ^ 32)
        | none => m.next.map fun e => (e + 1) % 2 ^ 32
      ok := if lost then false else if good && !m.hist.isEmpty then true else m.ok
      miss := min miss 3
      loa := if lost then true else if good && !m.hist.isEmpty then false else m.loa }
  let s := s.modGrp g fun x => { x with mem := x.mem.set Member.init msn m' }
  let s := s.when (msn == 0 && round.isSome) (State.roundStart g)
  let s := (s.when lost fun s => s.raise F.LFM_GRP_EVT_LOA g).grpEval g
  match round.bind (s.arrivals g) with
  | none => s
  | some l =>
    let k := spread l
    let s := s.wr (R .LFM_GRP_SKEW g) (F.LFM_GRP_SKEW_SKEW.put (min k 0xFFFFFF) (F.LFM_GRP_SKEW_VALID.put 1 0))
    let st := s.fld F.LFM_GRP_STATUS_STATE g
    if st = 2 && (s.members g).all (fun x => ((s.grp g).mem.get Member.init x).ok) then s.grpMode g k true
    else if (st = 4 && 20000 < k) || (st = 5 && 10000000 < k) then
      (((s.raise F.LFM_GRP_EVT_SKEW_OVR g).grpLeave g 1).grpEval g)
    else s

/-- GROUP_MARKER (R141). -/
def execGroupMarker (g msn : Nat) (round : Option Nat) (gap arrival : Nat) (s : State) :
    Host.Outcome State Fault Refusal :=
  .next (if s.domOn 6 && g < 160 && msn < s.fld F.LFM_GRP_CFG_MEMBERS g then s.marker g msn round gap arrival else s)

/-- SKEW_CHECK (R142): a group in SKEW_OVR is checked again, against the skew last measured. -/
def execSkewCheck (g : Nat) (s : State) : Host.Outcome State Fault Refusal :=
  .next (if s.domOn 6 && s.fld F.LFM_GRP_STATUS_STATE g == 6 then s.grpMode g (s.fld F.LFM_GRP_SKEW_SKEW g) false else s)

/-- GRP_UP (R142, Table 6.13 step 3): a group in FILL enters service in its mode, its stream in HUNT (R161). -/
def execGrpUp (g : Nat) (s : State) : Host.Outcome State Fault Refusal :=
  .next (if s.domOn 6 && s.fld F.LFM_GRP_STATUS_STATE g == 3 then
    { (s.setFld F.LFM_GRP_STATUS_STATE (if (s.grp g).hay then 5 else 4) g).raise F.LFM_GRP_EVT_UP g with
      delin := s.delin.set Delin.init g Delin.init }
  else s)

/-- GRP_SLIP (R144): a slip of the elastic store of a member that comes from another device is a member failure, in
every state of the group but DOWN. -/
def execGrpSlip (g msn : Nat) (s : State) : Host.Outcome State Fault Refusal :=
  .next (if s.domOn 6 && s.fld F.LFM_GRP_STATUS_STATE g != 0 && msn < s.fld F.LFM_GRP_CFG_MEMBERS g &&
      (s.rxSlots (s.gid g) msn).isEmpty then
    (((s.raise F.LFM_GRP_EVT_SLIP g).grpLeave g 1).grpEval g)
  else s)

/-- Another group page than `g` holds `gid` with MEMBERS from 1 to 160 (R444). -/
def State.gidTaken (s : State) (g gid : Nat) : Bool :=
  (s.insts .LFM_GRP_CFG).any fun h => h != g && s.isHome h && s.gid h == gid

/-- The slot maps of a subcarrier that a commit has captured and not refused: in force, passed and waiting (R138). -/
def Sc.committed (x : Sc) : List W32 :=
  x.mapTx ++ x.mapRx ++ x.passTx.getD [] ++ x.passRx.getD [] ++ x.waitTx.getD [] ++ x.waitRx.getD []

/-- Some valid host-to-line flow leaves to `gid`, or a committed slot-map entry names it (R444). -/
def State.gidUsed (s : State) (gid : Nat) : Bool :=
  ((s.insts .SOF_PH_W6).any fun f => s.flag F.SOF_PH_W6_VALID f && s.toLine f && s.fld F.SOF_PH_W6_EGRESS f == gid) ||
  (s.scs.any fun e => e.2.committed.any fun w => mapValid w && mapGid w == gid)

/-- A write to GRP_CFG (R444). -/
def State.grpCfgWrite (g : Nat) (v : W32) (s : State) : State :=
  let v := v &&& (R .LFM_GRP_CFG g).mask
  let old := s.rd (R .LFM_GRP_CFG g)
  let en := s.flag F.LFM_GRP_CFG_EN g
  let fixed := (old ^^^ v) &&& 0x5FFF00FF
  let m := F.LFM_GRP_CFG_MEMBERS.get v
  let bad := (en && fixed != 0) ||
    (decide (1 ≤ m) && decide (m ≤ 160) && s.gidTaken g (F.LFM_GRP_CFG_GID.get v)) ||
    (F.LFM_GRP_CFG_EXPRESS.get old != F.LFM_GRP_CFG_EXPRESS.get v &&
      (s.gidUsed (F.LFM_GRP_CFG_GID.get old) || s.gidUsed (F.LFM_GRP_CFG_GID.get v)))
  if bad then s.raise F.LFM_GRP_EVT_CFG_DISCARD g
  else
    let s' := s.wr (R .LFM_GRP_CFG g) v
    ((s'.when (en && F.LFM_GRP_CFG_EN.get v == 0) fun s => s.holdGrp g).grpEval g).holdGrp g

/-- GRP_CFG_WRITE (R444). -/
def execGrpCfgWrite (m : Master) (g : Nat) (v : W32) (s : State) : Host.Outcome State Fault Refusal :=
  .next (s.guardW m (R .LFM_GRP_CFG g) v (State.grpCfgWrite g v))

end Sys2Proof.Machine
end

