-- ==== Sys2Proof/Machine/Operands.lean ====
section
/-! DEFINITION. The operand forms: the byte fields of frames and messages with their checksum, and which register a byte
address names (spec/18). -/

namespace Sys2Proof.Machine

/-! ## Checksums and byte fields -/

/-- Byte `k` of a frame. -/
def byteAt (l : List Byte) (k : Nat) : Nat := (l.getD k 0).toNat

/-- The 16-bit field at byte `k`, most significant byte first. -/
def half (l : List Byte) (k : Nat) : Nat := byteAt l k * 256 + byteAt l (k + 1)

/-- One bit of the CRC-32 of IEEE 802.3, least significant first. -/
def crc32Bit (c : Nat) : Nat := if c % 2 = 1 then Nat.xor (c / 2) 0xEDB88320 else c / 2

/-- One byte of it. -/
def crc32Byte (c : Nat) (b : Byte) : Nat :=
  crc32Bit (crc32Bit (crc32Bit (crc32Bit (crc32Bit (crc32Bit (crc32Bit (crc32Bit (Nat.xor c b.toNat))))))))

/-- The CRC-32 of IEEE 802.3. PRESUMED, safe (log 10). -/
def crc32 (l : List Byte) : Nat := Nat.xor (l.foldl crc32Byte 0xFFFFFFFF) 0xFFFFFFFF

/-- A number as `n` bytes, most significant first. -/
def beBytes : Nat → Nat → List Byte
  | 0, _ => []
  | n + 1, v => beBytes n (v / 256) ++ [BitVec.ofNat 8 v]

/-- A number as `n` bytes, least significant first. -/
def leBytes : Nat → Nat → List Byte
  | 0, _ => []
  | n + 1, v => BitVec.ofNat 8 v :: leBytes n (v / 256)

/-- The number in `n` bytes from byte `k`, most significant first. -/
def beAt (l : List Byte) (k : Nat) : Nat → Nat
  | 0 => 0
  | n + 1 => beAt l k n * 256 + byteAt l (k + n)

/-- The ESMC PDU of an Ethernet frame, of ITU-T G.8264: the heading, the QL TLV, and an extended QL TLV after it;
nothing where the PDU is malformed or has no QL TLV. PRESUMED, unsafe (log 11). -/
def esmcOf (l : List Byte) : Option EsmcPdu :=
  if beAt l 15 3 ≠ 0x0019A7 || half l 18 != 1 || byteAt l 20 / 16 != 1 || byteAt l 24 != 1 || half l 25 != 4 then none
  else some {
    event := byteAt l 20 / 8 % 2 == 1
    ssm := byteAt l 27 % 16
    ext :=
      if byteAt l 28 = 2 && half l 29 == 20 then
        some (byteAt l 31, BitVec.ofNat 64 (beAt l 32 8), byteAt l 41, byteAt l 42)
      else none }

/-- `b` in place of the bytes from byte `k`. PRESUMED, unsafe (log 11). -/
def overlay (l : List Byte) (k : Nat) (b : List Byte) : List Byte := l.take k ++ b ++ l.drop (k + b.length)

/-! ## Registers -/

/-- The element of a register array that stands at offset `off` of its page. -/
def RegInfo.elem (r : RegInfo) (off : Nat) : Option Nat :=
  if off < r.off then none
  else
    let d := off - r.off
    let st := max r.stride 1
    if d % st = 0 && d / st < r.count then some (r.first + d / st) else none

/-- The register at address `a` among those of page kind `p`. -/
def Page.at (p : Page) (a : Nat) : Option RegKey :=
  let q := p.info
  if a < q.base then none
  else if q.n = 1 then
    p.regs.findSome? fun id => (id.info.elem (a - q.base)).map fun e => ⟨id, e, 0⟩
  else
    let i := (a - q.base) / q.stride
    if q.n ≤ i then none
    else p.regs.findSome? fun id => (id.info.elem ((a - q.base) % q.stride)).map fun e => ⟨id, i, e⟩

/-- The register whose first byte is at address `a` (R417); nothing at an unused address. -/
def regAt (a : Nat) : Option RegKey := (Page.all.findSome? fun p => p.at a).filter RegKey.valid

/-! ## Time (R11) -/

/-- The millisecond now, on Postmark, or on the device's clock while TMG is OFF. DESIGN CHOICE, unsafe (log 90). -/
def State.msNow (s : State) : Nat := if s.domOn 2 then s.pmkTime / (1000000 * 65536) else s.us / 1000

end Sys2Proof.Machine
end

