-- ==== Sys2Proof/Machine/Stable.lean ====
section
/-! DEFINITION. The Stable (spec/10): the monitors' reports, quality levels, qualification, selection and switching,
the states, the steering stage, and the holdover model's samples. -/

namespace Sys2Proof.Machine

def State.modStb (s : State) (f : Stb → Stb) : State := { s with stb := f s.stb }
def State.cand (s : State) (i : Nat) : Cand := s.stb.cand.get Cand.init i
def State.modCand (s : State) (i : Nat) (f : Cand → Cand) : State :=
  s.modStb fun b => { b with cand := b.cand.mod Cand.init i f }

/-- The Stable runs: TMG is ON and not held in reset. DESIGN CHOICE, safe (log 4). -/
def State.stbOn (s : State) : Bool := s.domOn 2 && !s.inReset 2 0

/-- The Stable's state (Table 10.7). -/
def State.stbSt (s : State) : Nat := s.fld F.STB_STATUS_STATE
/-- The selected candidate, 15 for none. -/
def State.stbSel (s : State) : Nat := s.fld F.STB_STATUS_SEL
/-- The mode in force: 3 applies as 0. -/
def State.stbMode (s : State) : Nat := if s.fld F.STB_CFG_MODE = 3 then 0 else s.fld F.STB_CFG_MODE

/-! ## Quality levels (R225 to R228) -/

/-- A rank field as it applies (R225): unused values as DNU, and 0x8 as 0x6 in option 2. DEDUCED, unsafe (log 34). -/
def State.rankOf (s : State) (r : Nat) : Nat :=
  if r = 0 || (9 ≤ r && r ≤ 13) then 15 else if r = 8 && s.flag F.STB_CFG_QL_OPT then 6 else r

/-- The rank sent towards candidate `t`'s source (15: elsewhere), by R228 and R19. DESIGN CHOICE, unsafe (log 29). -/
def State.outQl (s : State) (t : Nat := 15) : Nat :=
  if !s.stbOn || s.reacts F.SAF_REACT_DNU then 15
  else if t ≠ 15 && t = s.stbSel then 15
  else match s.stbSt with
    | 2 => if s.stbSel = 15 then s.rankOf (s.fld F.STB_CFG_HO_QL) else s.fld F.STB_REF_STATUS_QL s.stbSel
    | 0 => s.rankOf (s.fld F.STB_CFG_FREE_QL)
    | 4 => if s.flag F.STB_CFG_LIMIT_DNU then 15 else s.rankOf (s.fld F.STB_CFG_HO_QL)
    | _ => s.rankOf (s.fld F.STB_CFG_HO_QL)

/-- A carrier whose outgoing rank has changed gets a QL Postcard pending (Table 13.3). -/
def State.qlEval (s : State) : State :=
  s.upto 2 fun c s =>
    if s.stb.sentQl.get 15 c = s.outQl (8 + c) then s
    else (s.modStb fun b => { b with sentQl := b.sentQl.set 15 c (s.outQl (8 + c)) }).pccPend c 1

/-- The source of candidate `i`'s level (Table 10.4): the key of its kept level, or nothing for the fixed value. Keys:
0 to 15 the ports, 16 and 17 the carriers' time messages, 32 + i REF_FW, 64 + n Postcard sender n. -/
def State.qlKey (s : State) (i : Nat) : Option Nat :=
  match s.fld F.STB_REF_CFG_QL_SRC i with
  | 1 => if i ≤ 7 then some (s.fld F.STB_REF_CFG_PORT i) else none
  | 2 => if i = 8 || i = 9 then some (i + 8) else none
  | 3 => some (64 + s.fld F.STB_REF_LOS_PC_SENDER i)
  | 4 => some (32 + i)
  | _ => none

/-- The timeout of a source, in µs. -/
def qlTimeout (key : Nat) : Nat :=
  if key < 16 then 5000000 else if key < 18 then 1000000 else if key < 64 then 5000000 else 10000000

/-- Candidate `i` is available (R234). -/
def State.availNow (s : State) (i : Nat) : Bool :=
  s.flag F.STB_REF_CFG_EN i && s.flag F.STB_REF_STATUS_PRESENT i && !s.flag F.STB_REF_STATUS_DISQ i &&
  !s.flag F.STB_REF_STATUS_WTR i && (!s.flag F.STB_CFG_QL_EN || s.fld F.STB_REF_STATUS_QL i < 14)

/-- AVAIL of every candidate brought up to date. -/
def State.availEval (s : State) : State :=
  s.upto 15 fun i s =>
    let a := s.availNow i
    if a = s.flag F.STB_REF_STATUS_AVAIL i then s
    else
      let s := (s.setFlag F.STB_REF_STATUS_AVAIL a i).when a fun s => s.raise F.STB_REF_EVT_AVAIL i
      let m := s.fld F.STB_STATUS_AVAIL
      s.setFld F.STB_STATUS_AVAIL (if a then m ||| 2 ^ i else m &&& (0x7FFF - 2 ^ i))

/-- The rank of candidate `i` becomes `r` (R226). -/
def State.setQl (i r : Nat) (s : State) : State :=
  if s.fld F.STB_REF_STATUS_QL i = r then s
  else (((s.setFld F.STB_REF_STATUS_QL r i).raise F.STB_REF_EVT_QL_CHANGE i).when (r == 14) fun s =>
    s.raise F.STB_REF_EVT_QL_TIMEOUT i).availEval.qlEval

/-- Candidate `i` takes the level of its source as it stands (R226). -/
def State.takeQl (i : Nat) (s : State) : State :=
  match s.qlKey i with
  | none => s.setQl i (s.rankOf (s.fld F.STB_REF_CFG_QL_FIX i))
  | some k => match s.stb.lvl.get none k with
    | some l => s.setQl i (if s.us < l.arr + qlTimeout k then s.rankOf l.rank else 14)
    | none => s.setQl i 14

/-- A source delivers a level: it is kept, and the candidates that name the source take it; `bad` sets QL_BAD of them
(R225, R226). -/
def State.deliver (key rank : Nat) (bad : Bool) (eeec eec : Nat) (s : State) : State :=
  if !s.stbOn then s
  else
    let s := s.modStb fun b => { b with lvl := b.lvl.set none key (some ⟨rank, s.us, eeec, eec⟩) }
    s.upto 15 fun i s =>
      if s.qlKey i = some key then (s.when bad fun s => s.raise F.STB_REF_EVT_QL_BAD i).setQl i (s.rankOf rank) else s

/-- A rank received in a time message, a timing-chain frame or a QL Postcard (R225). DEDUCED, unsafe (log 34). -/
def State.deliverRank (key r : Nat) (s : State) : State :=
  let bad := r = 0 || (9 ≤ r && r ≤ 13)
  s.deliver key (if bad then 15 else r) bad 0 0

/-- The rank of an SSM code with its extended code (Table 10.3); nothing for a pair that is not listed. -/
def ssmRank (opt2 : Bool) (ssm : Nat) (ext : Option Nat) : Option Nat :=
  if opt2 then
    match ssm with
    | 0x1 => some 1 | 0x0 => some 2 | 0x7 => some 3 | 0x4 => some 4 | 0xD => some 5 | 0xA => some 6 | 0xE => some 7
    | 0xF => some 15
    | _ => none
  else
    match ssm, ext with
    | 0x2, some 0x21 => some 1
    | 0x2, some 0x20 => some 2
    | 0x2, some 0x23 => some 3
    | 0x2, none => some 4
    | 0x4, none => some 5
    | 0x8, none => some 6
    | 0xB, some 0x22 => some 7
    | 0xB, none => some 8
    | 0xF, none => some 15
    | _, _ => none

/-- The SSM code and the extended code of a rank (Table 10.3); what has none goes out as DNU. -/
def rankSsm (opt2 : Bool) (r : Nat) : Nat × Nat :=
  if opt2 then
    match r with
    | 1 => (0x1, 0xFF) | 2 => (0x0, 0xFF) | 3 => (0x7, 0xFF) | 4 => (0x4, 0xFF) | 5 => (0xD, 0xFF) | 6 => (0xA, 0xFF)
    | 7 => (0xE, 0xFF) | _ => (0xF, 0xFF)
  else
    match r with
    | 1 => (0x2, 0x21) | 2 => (0x2, 0x20) | 3 => (0x2, 0x23) | 4 => (0x2, 0xFF) | 5 => (0x4, 0xFF) | 6 => (0x8, 0xFF)
    | 7 => (0xB, 0x22) | 8 => (0xB, 0xFF) | _ => (0xF, 0xFF)

/-- STB.CLK_ID. -/
def State.clkId (s : State) : BitVec 64 := BitVec.ofNat 64 (s.rd64 (R .STB_CLK_ID_LO) (R .STB_CLK_ID_HI))

/-- An ESMC PDU on a port that is UP (R227). -/
def State.esmcRx (p : Nat) (pdu : Option EsmcPdu) (s : State) : State :=
  if !(s.stbOn && s.portUp p) then s
  else match pdu with
  | none => s.upto 8 fun i s => if s.qlKey i = some p then s.raise F.STB_REF_EVT_QL_BAD i else s
  | some d =>
    let opt2 := s.flag F.STB_CFG_QL_OPT
    let ext := if opt2 then none else d.ext.filter fun e => e.1 != 0xFF
    let loop := !opt2 && d.ext.any fun e => e.2.1 == s.clkId
    let r := ssmRank opt2 d.ssm (ext.map fun e => e.1)
    let cnt := if opt2 then (0, 0) else match d.ext with
      | some e => (e.2.2.1, e.2.2.2)
      | none => (0, 0)
    s.deliver p (if loop then 15 else r.getD 15) (loop || r.isNone) cnt.1 cnt.2

/-- The PDU sent on port `p` now (R227): the extended TLV in option 1, with the selected reference's cascade count
raised by one. -/
def State.esmcPdu (s : State) (p : Nat) (event : Bool) : EsmcPdu :=
  let t := if s.stbSel ≤ 7 && s.fld F.STB_REF_CFG_PORT s.stbSel == p then s.stbSel else 15
  let r := s.outQl t
  let opt2 := s.flag F.STB_CFG_QL_OPT
  let c := rankSsm opt2 r
  let cnt := match (s.qlKey s.stbSel).bind fun k => s.stb.lvl.get none k with
    | some l => (l.eeec, l.eec)
    | none => (0, 0)
  { event := event, ssm := c.1
    ext := if opt2 then none else some (c.2, s.clkId, (cnt.1 + bit (r == 7)) % 256, (cnt.2 + bit (r == 8)) % 256) }

/-- A PDU goes out on port `p`. -/
def State.esmcSend (p : Nat) (event : Bool) (s : State) : State :=
  s.modStb fun b => { b with sent := b.sent.set none p (some (s.esmcPdu p event)) }

/-! ## The windows of the samples (R247) -/

/-- Samples may be taken: LOCKED, no hold-off, build-out, clamp, missing heartbeat or removal under way. -/
def State.sampleOk (s : State) : Bool :=
  s.stbOn && s.stbSt == 2 && !s.flag F.STB_STATUS_HOLDOFF && !s.flag F.STB_STATUS_BUILDOUT &&
  !s.flag F.STB_STATUS_CLAMPED && !s.stb.fwLost && !s.flag F.STB_STATUS_PRUNING

/-- A condition that fails spoils the windows under way. DEDUCED, unsafe (log 32). -/
def State.cleanEval (s : State) : State :=
  if s.sampleOk then s else s.modStb fun b => { b with clean10 := false, clean1 := false }

/-- TRAINED becomes `t`, with its event (R248). DEDUCED, unsafe (log 32). -/
def State.setTrained (t : Bool) (s : State) : State :=
  if s.flag F.STB_MODEL_STATUS_TRAINED = t then s
  else (s.setFlag F.STB_MODEL_STATUS_TRAINED t).raise
    (if t then F.STB_EVT_MODEL_TRAINED else F.STB_EVT_MODEL_UNTRAINED)

/-- The counts of MODEL_STATUS and TRAINED as the histories stand (R248). -/
def State.trainEval (s : State) : State :=
  let s := (s.setFld F.STB_MODEL_STATUS_SAMPLES10 s.stb.s10.length).setFld F.STB_MODEL_STATUS_SAMPLES1 s.stb.s1.length
  let need := 6 * max 1 (s.fld F.STB_HO_CFG_TRAIN_MIN)
  let t := need ≤ s.stb.s10.length && (s.flag F.STB_MODEL_STATUS_TRAINED || 36 ≤ s.stb.fresh)
  (s.setTrained t).modStb fun b => { b with tack := t }

/-! ## States (R242) -/

/-- The model holds a usable frequency (R242). -/
def State.modelUsable (s : State) : Bool :=
  s.stb.usable || (s.stbSt == 2 && s.stb.stAt + 60000000 ≤ s.us)

/-- The event bit of an entry into a state. -/
def enterEvt (st : Nat) : Fld :=
  match st with
  | 0 => F.STB_EVT_ENTER_FREERUN
  | 1 => F.STB_EVT_ENTER_ACQUIRE
  | 2 => F.STB_EVT_ENTER_LOCKED
  | 3 => F.STB_EVT_ENTER_HOLDOVER
  | _ => F.STB_EVT_ENTER_HO_LIMIT

/-- The Stable enters state `st`. HOLDOVER_LIMIT is fault 9 (Table 17.6). -/
def State.stbEnter (st : Nat) (s : State) : State :=
  let old := s.stbSt
  if old = st then s
  else
    let s := s.modStb fun b => { b with
      usable := s.modelUsable
      stAt := s.us
      entry := if st = 3 then (if b.s1.isEmpty then b.s10.take 1 else b.s1.take 60) else b.entry
      hoStart := if st = 3 && old != 4 then s.us else b.hoStart }
    let s := (s.setFld F.STB_STATUS_STATE st).raise (enterEvt st)
    let s := s.when (st == 3) fun s => s.wr (R .STB_HO_SEC) 0
    ((s.when (st == 4) (State.detect 9)).cleanEval).qlEval.ppsEval

/-- From LOCKED or ACQUIRE: HOLDOVER, or FREERUN where the model holds no usable frequency. -/
def State.stbLose (s : State) : State :=
  if s.stbSt = 1 || s.stbSt = 2 then s.stbEnter (if s.modelUsable then 3 else 0) else s

/-- A selected candidate in MODE AUTO with the heartbeat present takes FREERUN and holdover to ACQUIRE. -/
def State.stbAcq (s : State) : State :=
  let st := s.stbSt
  if (st = 0 || st = 3 || st = 4) && s.stbMode = 0 && s.stbSel ≠ 15 && !s.stb.fwLost && !s.flag F.STB_STATUS_HOLDOFF
  then s.stbEnter 1 else s

/-! ## Loss and hold-off (R224, R238) -/

/-- The fault of a loss of the selected candidate `i` (Table 17.6). -/
def State.lossFault (s : State) (i : Nat) : Nat :=
  if i = 10 || i = 11 || ((i = 13 || i = 14) && s.fld F.STB_REF_CFG_EXT_KIND i = 0) then 2 else 1

/-- The hold-off of candidate `i` starts: the word is held at the mean of the last complete second (R238).
DEDUCED, unsafe (log 27). -/
def State.refHoldStart (i : Nat) (s : State) : State :=
  let f := s.lossFault i
  let new := s.stb.fault != f
  let s := s.modStb fun b => { b with
    held := b.wMean, holdFor := i, holdEnd := s.us + 100000 * min 18 (s.fld F.STB_REF_CFG_HOLDOFF i), lostRef := i,
        fault := f }
  ((s.setFlag F.STB_STATUS_HOLDOFF true).when new (State.detect f)).cleanEval

/-- The loss behind fault 1 or 2 is over: the candidate is back, or a switch has committed. -/
def State.lossOver (s : State) : State := s.modStb fun b => { b with fault := 0, lostRef := 15 }

/-- The wait-to-restore of candidate `i` starts (R233): 10 s of validation at its first presence, else WTR × 10 s. -/
def State.wtrStart (i : Nat) (s : State) : State :=
  let secs := if (s.cand i).first then 10 else 10 * min 72 (s.fld F.STB_CFG_WTR)
  (s.modCand i fun k => { k with first := false, wtrEnd := s.us + 1000000 * secs }).setFlag F.STB_REF_STATUS_WTR
    (secs != 0) i

/-- Candidate `i` is declared lost (R224). -/
def State.candLost (i : Nat) (s : State) : State :=
  if !(s.stbOn && i < 15 && s.flag F.STB_REF_STATUS_PRESENT i) then s
  else
    let s := ((s.setFlag F.STB_REF_STATUS_PRESENT false i).raise F.STB_REF_EVT_LOST i).bump (R .STB_REF_LOS_CNT i)
    let s := (s.setFlag F.STB_REF_STATUS_WTR false i).modCand i fun k => { k with offs := [], above := 0, low := 0 }
    let s := (s.wr (R .STB_REF_FOFS i) 0).wr (R .STB_REF_DRIFT i) 0
    let s := s.when (i == s.stbSel && s.flag F.STB_REF_CFG_EN i && !s.flag F.STB_STATUS_BUILDOUT &&
      !s.flag F.STB_STATUS_HOLDOFF) (State.refHoldStart i)
    s.availEval

/-- Candidate `i` can be present at all: the conditions of Table 10.2 that the state shows (R223, R224). -/
def State.canBePresent (s : State) (i : Nat) : Bool :=
  if i ≤ 7 then s.portUp (s.fld F.STB_REF_CFG_PORT i)
  else if i = 8 || i = 9 then
    decide (i - 8 < s.nCar) && s.flag F.CAX_RX_STATUS_CLK_LOCK (i - 8) && s.fld F.CAX_RX_STATUS_RXSTATE (i - 8) == 2
  else i != 11 || s.flag F.STB_REF_FW_PRESENT 11

/-- Candidate `i` is declared present (R224). One that is selected and back within its hold-off serves no time.
DEDUCED, unsafe (log 27). -/
def State.candPresent (i : Nat) (s : State) : State :=
  if !(s.stbOn && i < 15 && s.canBePresent i && !s.flag F.STB_REF_STATUS_PRESENT i &&
      !s.inj 0x02 i && !s.inj 0x03 i) then s
  else
    let s := (s.setFlag F.STB_REF_STATUS_PRESENT true i).raise F.STB_REF_EVT_PRESENT i
    let back := i == s.stbSel && s.flag F.STB_REF_CFG_EN i
    let held := s.flag F.STB_STATUS_HOLDOFF && s.stb.holdFor == i
    let s := s.when (!back && !s.flag F.STB_REF_STATUS_DISQ i) (State.wtrStart i)
    let s := s.when held fun s => (s.setFlag F.STB_STATUS_HOLDOFF false).cleanEval
    (s.when (s.stb.lostRef == i) State.lossOver).availEval

/-! ## Selection (R234 to R241) -/

/-- The better of two candidates by the keys of R235. -/
def State.better (s : State) (a b : Nat) : Nat :=
  if a = 15 then b
  else
    let ra := if s.flag F.STB_CFG_QL_EN then s.fld F.STB_REF_STATUS_QL a else 0
    let rb := if s.flag F.STB_CFG_QL_EN then s.fld F.STB_REF_STATUS_QL b else 0
    let pa := s.fld F.STB_REF_CFG_PRIO a
    let pb := s.fld F.STB_REF_CFG_PRIO b
    if rb < ra || (rb == ra && pb < pa) then b else a

/-- The best available candidate, 15 for none (R235). -/
def State.bestRef (s : State) : Nat :=
  (List.range 15).foldl (fun a i => if s.flag F.STB_REF_STATUS_AVAIL i then s.better a i else a) 15

/-- A forced candidate can be chosen: present and EN = 1. -/
def State.forceOk (s : State) (i : Nat) : Bool :=
  i < 15 && s.flag F.STB_REF_STATUS_PRESENT i && s.flag F.STB_REF_CFG_EN i

/-- The candidate the selector names (R235 to R237). DEDUCED, unsafe (log 26). -/
def State.choose (s : State) : Nat :=
  let idx := s.fld F.STB_SEL_CMD_IDX
  let cmd := s.fld F.STB_SEL_CMD_CMD
  if cmd = 2 then if s.forceOk idx then idx else 15
  else if cmd = 1 && idx < 15 && s.flag F.STB_REF_STATUS_AVAIL idx then idx
  else
    let best := s.bestRef
    let sel := s.stbSel
    if sel < 15 && s.flag F.STB_REF_STATUS_AVAIL sel && !s.flag F.STB_CFG_REVERTIVE &&
      !(s.flag F.STB_CFG_QL_EN && s.fld F.STB_REF_STATUS_QL best < s.fld F.STB_REF_STATUS_QL sel) then sel
    else best

/-- The selector's choice commits (R239). A first selection is no switch; no candidate at all is none either.
DEDUCED, unsafe (log 26, 28). -/
def State.commitSel (want : Nat) (s : State) : State :=
  let old := s.stbSel
  let s := s.when (old != 15) fun s =>
    (s.raise F.STB_REF_EVT_DESELECTED old).modCand old fun k => { k with lastSel := some s.sec }
  let s := s.setFld F.STB_STATUS_SEL want
  if want = 15 then s.stbLose.qlEval
  else
    let s := ((s.raise F.STB_REF_EVT_SELECTED want).modStb fun b =>
        { b with band := s.fld F.STB_REF_CFG_BW want }).lossOver
    (s.when (old != 15) fun s =>
      (((s.raise F.STB_EVT_SWITCH).bump (R .STB_SWITCH_CNT)).setFlag F.STB_STATUS_BUILDOUT true).cleanEval).qlEval

/-- The selected candidate calls for a reselection without hold-off (R236, R238): EN = 0, or, unless forced,
disqualified or of rank FAILED or DNU. DEDUCED, unsafe (log 26). -/
def State.reselect (s : State) : Bool :=
  let i := s.stbSel
  i != 15 && (!s.flag F.STB_REF_CFG_EN i || (s.fld F.STB_SEL_CMD_CMD != 2 &&
    (s.flag F.STB_REF_STATUS_DISQ i || (s.flag F.STB_CFG_QL_EN && 14 ≤ s.fld F.STB_REF_STATUS_QL i))))

/-- A forced candidate that is not present is treated as a selected candidate that is lost (R236): its hold-off starts.
DEDUCED, unsafe (log 27). -/
def State.forceLost (s : State) : Bool :=
  s.fld F.STB_SEL_CMD_CMD == 2 && s.stbSel != 15 && s.stbSel != s.fld F.STB_SEL_CMD_IDX &&
    decide (s.fld F.STB_SEL_CMD_IDX < 15) && s.flag F.STB_REF_CFG_EN (s.fld F.STB_SEL_CMD_IDX) &&
    !s.flag F.STB_REF_STATUS_PRESENT (s.fld F.STB_SEL_CMD_IDX)

/-- One decision of the selector (R235). -/
def State.selTick (s : State) : State :=
  if !s.stbOn || s.flag F.STB_STATUS_BUILDOUT then s
  else if s.flag F.STB_STATUS_HOLDOFF then
    if s.reselect then (((s.setFlag F.STB_STATUS_HOLDOFF false).cleanEval).commitSel s.choose).stbAcq else s
  else if s.forceLost then s.refHoldStart (s.fld F.STB_SEL_CMD_IDX)
  else (s.when (s.choose != s.stbSel) (State.commitSel s.choose)).stbAcq

/-- The end of a hold-off (R238, R239). DEDUCED, unsafe (log 27). -/
def State.refHoldEnd (s : State) : State :=
  if !(s.stbOn && s.flag F.STB_STATUS_HOLDOFF && s.stb.holdEnd ≤ s.us) then s
  else
    let s := (s.setFlag F.STB_STATUS_HOLDOFF false).cleanEval
    (s.when (s.choose != s.stbSel) (State.commitSel s.choose)).stbAcq

/-! ## The steering stage (R245) -/

/-- A steering word held in a LO and a HI register: signed 40 bits. -/
def State.word40 (s : State) (lo hi : RegKey) : Int := signed 40 (s.rd64 lo hi)

/-- The applied word. DEDUCED, unsafe (log 31). -/
def State.steer (s : State) : Int := s.word40 (R .STB_STEER_LO) (R .STB_STEER_HI)

/-- The limit STEER_LIM applies, in the word's LSB: 1 ppm is 1,024,000,000 of them. -/
def State.steerLim (s : State) : Int := 1024000000 * (max 1 (min 90 (s.fld F.STB_STEER_CFG_STEER_LIM)) : Nat)

/-- The word is held (R238, R243, R252). DEDUCED, unsafe (log 31). -/
def State.wordHeld (s : State) : Bool :=
  s.stb.fwLost || s.flag F.STB_STATUS_HOLDOFF || (s.flag F.STB_STATUS_PRUNING && (s.stbSt == 3 || s.stbSt == 4))

/-- The commanded word, before the clamp (R245). DEDUCED, unsafe (log 31). -/
def State.cmdWord (s : State) : Int :=
  if s.wordHeld then s.stb.held
  else if s.stbSt = 0 then s.word40 (R .STB_STEER_MAN_LO) (R .STB_STEER_MAN_HI)
  else s.word40 (R .STB_STEER_SRV_LO) (R .STB_STEER_SRV_HI)

/-- The clamp's report, and with it the windows of the samples. -/
def State.clampEval (s : State) : State :=
  let c := s.stbOn && decide (s.steerLim < s.cmdWord.natAbs)
  if c = s.flag F.STB_STATUS_CLAMPED then s
  else ((s.setFlag F.STB_STATUS_CLAMPED c).when c fun s => s.raise F.STB_EVT_STEER_CLAMP).cleanEval

/-- One microsecond of the stage: the applied value moves towards the clamped command by no more than the slew allows
(0.1 ppb/s a unit of SLEW, 2 ppm/s in ACQUIRE), and the means of the second and of the ten minutes gain it; a second's
mean is complete in the first two microseconds of the next. -/
def State.stbTick (s : State) : State :=
  if !s.stbOn then s
  else
    let s := s.clampEval
    let cmd := max (-s.steerLim) (min s.steerLim s.cmdWord)
    let rate := if s.stbSt = 1 then 20000 else s.fld F.STB_STEER_CFG_SLEW
    let acc := s.stb.slewAcc + rate * 1024
    let lim : Int := acc / 10000
    let w := s.steer
    let w := if rate = 0 then cmd else max (w - lim) (min (w + lim) cmd)
    let s := s.wr64 (R .STB_STEER_LO) (R .STB_STEER_HI) (unsigned 40 w)
    let s := s.modStb fun b => { b with
      slewAcc := if rate = 0 then 0 else acc % 10000, wSum := b.wSum + w, wN := b.wN + 1, w10Sum := b.w10Sum + w
      w10N := b.w10N + 1 }
    let s := s.when (s.pmkTime % oneSec / 65536 < 2000 && 1000 < s.stb.wN) fun s =>
      s.modStb fun b => { b with wMean := b.wSum / b.wN, wSum := 0, wN := 0 }
    s.when (s.stbSt == 3 || s.stbSt == 4) fun s =>
      s.wrN (R .STB_HO_SEC) (min ((s.us - s.stb.hoStart) / 1000000) 0xFFFFFFFF)

/-- TMG comes ON (R244, R250): FREERUN, every level FAILED but the fixed ones, the history restored from the Tack Room.
DESIGN CHOICE, unsafe (log 29, 38). DEDUCED, unsafe (log 32). -/
def State.stbStart (s : State) : State :=
  if !s.stbOn then s
  else
    let s := (s.raise F.STB_EVT_ENTER_FREERUN).modStb fun b => { Stb.init with
      s10 := b.s10, tack := b.tack, usable := b.tack, fresh := 36, beat := s.us, model := b.s10, sentQl := b.sentQl,
          sent := b.sent }
    let s := (s.wr (R .STB_MODEL_STATUS) (F.STB_MODEL_STATUS_TRAINED.put 0 (F.STB_MODEL_STATUS_SAMPLES1.put 0
      (s.rd (R .STB_MODEL_STATUS))))).setFld F.STB_MODEL_STATUS_SAMPLES10 s.stb.s10.length
    (s.upto 15 fun i s => s.setFld F.STB_REF_STATUS_QL
      (if (s.qlKey i).isSome then 14 else s.rankOf (s.fld F.STB_REF_CFG_QL_FIX i)) i).qlEval

/-- TMG leaves ON or a reset covers it (R244): what no register holds is lost too, but for the 10-minute history that
firmware has written to the Tack Room (R250). -/
def State.stbStop (s : State) : State :=
  (s.modStb fun b => { Stb.init with s10 := b.s10, tack := b.tack, sentQl := b.sentQl, sent := b.sent }).qlEval

/-! ## Qualification (R229 to R232) -/

/-- The mean of a list, rounded towards minus infinity. -/
def meanOf (l : List Int) : Int := l.sum / (l.length : Int)

/-- The drift rate from the offsets of the last 70 minutes, newest first (R229). -/
def driftOf (l : List Int) : Int :=
  if l.length < 4200 then 0 else meanOf (l.take 600) - meanOf ((l.drop 3600).take 600)

/-- A list of integers sorted, for the median. -/
def insertInt (x : Int) : List Int → List Int
  | [] => [x]
  | y :: l => if x ≤ y then x :: y :: l else y :: insertInt x l

/-- The median of a list: with an even number, the mean of the middle two. -/
def median (l : List Int) : Int :=
  let l := l.foldr insertInt []
  let n := l.length
  if n % 2 = 1 then l.getD (n / 2) 0 else (l.getD (n / 2 - 1) 0 + l.getD (n / 2) 0) / 2

/-- REF_FOFS as a number. DEDUCED, unsafe (log 33). -/
def State.fofsOf (s : State) (i : Nat) : Int := signed 32 (s.rdN (R .STB_REF_FOFS i))
/-- REF_DRIFT as a number. -/
def State.driftNow (s : State) (i : Nat) : Int := signed 32 (s.rdN (R .STB_REF_DRIFT i))

/-- The candidates that are present and qualified. -/
def State.qualified (s : State) : List Nat :=
  (List.range 15).filter fun i => s.flag F.STB_REF_STATUS_PRESENT i && !s.flag F.STB_REF_STATUS_DISQ i

/-- The differences of candidate `i` against its reference points (R230), as pairs of frequency and drift. -/
def State.diffs (s : State) (i : Nat) : List (Nat × Nat) :=
  let peers := s.qualified.filter (· != i)
  let o := s.fofsOf i
  let d := s.driftNow i
  (if s.flag F.STB_MODEL_STATUS_TRAINED then [(o.natAbs, d.natAbs)] else []) ++
  (if peers.isEmpty then [] else
    [((o - median (peers.map s.fofsOf)).natAbs, (d - median (peers.map s.driftNow)).natAbs)])

/-- Some difference exceeds `pct` per cent of its limit (the limits are in units of 100 ppt and 100 ppt/h). -/
def State.exceeds (s : State) (i pct : Nat) : Bool :=
  (s.diffs i).any fun d => decide (pct * s.fld F.STB_REF_QUAL_FREQ_LIM i < d.1) ||
    decide (pct * s.fld F.STB_REF_QUAL_DRIFT_LIM i < d.2)

/-- Every difference is below 40 % of its limit. -/
def State.below40 (s : State) (i : Nat) : Bool :=
  (s.diffs i).all fun d => decide (d.1 < 40 * s.fld F.STB_REF_QUAL_FREQ_LIM i) &&
    decide (d.2 < 40 * s.fld F.STB_REF_QUAL_DRIFT_LIM i)

/-- PERSIST as it applies. -/
def State.persist (s : State) (i : Nat) : Nat := max 1 (s.fld F.STB_REF_QUAL_PERSIST i)

/-- Two qualified candidates alone, with no trained model, differ by more than a limit (R231). -/
def State.peerConflict (s : State) : Bool :=
  s.qualified.length == 2 && !s.flag F.STB_MODEL_STATUS_TRAINED && s.qualified.any fun i => s.exceeds i 100

/-- The comparisons of candidate `i` at the end of a window (R230, R231). -/
def State.compare (conflict : Bool) (i : Nat) (s : State) : State :=
  if !s.flag F.STB_REF_STATUS_PRESENT i then s
  else
    let past := s.exceeds i 100 && !(conflict && !s.flag F.STB_REF_STATUS_DISQ i)
    let low := s.below40 i
    let warn := s.exceeds i 50
    let s := s.modCand i fun k => { k with above := if past then k.above + 1 else 0,
                                           low := if low then k.low + 1 else 0 }
    let s := s.when (warn && !s.flag F.STB_REF_STATUS_PREWARN i) fun s =>
      ((s.setFlag F.STB_REF_STATUS_PREWARN true i).raise F.STB_REF_EVT_PREWARN i).modCand i fun k =>
        { k with warnAt := some s.sec }
    s.when (!warn && 60 ≤ (s.cand i).low) fun s =>
      (s.setFlag F.STB_REF_STATUS_PREWARN false i).modCand i fun k => { k with warnAt := none }

/-- What injection adds to the apparent offset of candidate `i` over the window that ends now (Table 17.10), in ppt: the
ramp of REF_DRIFT since its slot's start, and a REF_STEP whose slot started in the window, 1 ns over 1 s being 1,000
ppt. -/
def State.injOffset (s : State) (i : Nat) : Int :=
  ((s.insts .SAF_INJ_CFG).map fun k =>
    let arg := signed 32 (s.rdN (R .SAF_INJ_ARG k))
    let t := s.injAt.get 0 k
    if s.fld F.SAF_INJ_CFG_TARGET k != i || t == 0 then 0
    else if s.fld F.SAF_INJ_CFG_CODE k == 0x15 && s.flag F.SAF_INJ_CFG_ACTIVE k then arg * ((s.us +
        1 - t : Nat) : Int) / 3600000000
    else if s.fld F.SAF_INJ_CFG_CODE k == 0x14 && decide (t ≤ s.us) && decide (s.us ≤ t +
        999999) then 1000 * arg else 0).sum

/-- A 1 s window ends with the measured offsets against the steered output, in ppt (R229). DEDUCED, unsafe (log 33). -/
def State.qualWindow (l : List (Nat × Int)) (s : State) : State :=
  if !s.stbOn then s
  else
    let s := s.each l fun e s =>
      if !(e.1 < 15 && s.flag F.STB_REF_STATUS_PRESENT e.1) then s
      else
        let o := e.2 + s.steer / 1024 + signed 32 (s.fld F.STB_MODEL_PRED_PRED) + s.injOffset e.1
        let s := s.modCand e.1 fun k => { k with offs := (o :: k.offs).take 4200 }
        (s.wrN (R .STB_REF_FOFS e.1) (unsigned 32 o)).wrN (R .STB_REF_DRIFT e.1)
          (unsigned 32 (driftOf (s.cand e.1).offs))
    let c := s.peerConflict
    (s.when c fun s => s.raise F.STB_EVT_PEER_CONFLICT).upto 15 (State.compare c)

/-- The onset of a drift that R252 estimates, `base` being the baseline. -/
def State.onsetOf (s : State) (i : Nat) (base : Int) : Nat :=
  let d := (s.driftNow i).natAbs
  let warn := (s.cand i).warnAt.getD s.sec
  let t := if 10 * s.fld F.STB_REF_QUAL_DRIFT_LIM i ≤ d && 0 < d
    then s.sec - (s.fofsOf i - base).natAbs * 3600 / d else warn
  let old := (s.stb.s10.map Sample.start).min?.getD 0
  max old (min t warn) / 600 * 600

/-- Candidate `i` is disqualified (R230, R232). -/
def State.disqualify (i : Nat) (base : Int) (s : State) : State :=
  if !(s.stbOn && i < 15 && !s.flag F.STB_REF_STATUS_DISQ i && s.persist i ≤ (s.cand i).above) then s
  else
    let t0 := s.onsetOf i base
    let s := ((s.setFlag F.STB_REF_STATUS_DISQ true i).raise F.STB_REF_EVT_DISQ i).bump (R .STB_REF_DISQ_CNT i)
    let s := s.setFlag F.STB_REF_STATUS_WTR false i
    let hit := i == s.stbSel || (s.cand i).lastSel.any fun t => t0 ≤ t
    let s := s.when hit fun s => ((s.setFlag F.STB_STATUS_PRUNING true).modStb fun b => { b with
      onset := some t0, held := if s.wordHeld then b.held else b.wMean }).cleanEval
    s.availEval

/-- The removal under way completes (R252). -/
def State.pruneDone (s : State) : State :=
  match s.stb.onset with
  | none => s
  | some t0 =>
    let s10 := s.stb.s10.filter fun x => x.start + 600 ≤ t0
    let s1 := s.stb.s1.filter fun x => x.start < t0
    let s := (s.setFld F.STB_PRUNE_PRUNED10 (s.stb.s10.length - s10.length)).setFld F.STB_PRUNE_PRUNED1
      (s.stb.s1.length - s1.length)
    let s := (s.wrN (R .STB_ONSET) t0).modStb fun b => { b with
      s10 := s10, s1 := s1, model := s10, onset := none
      entry := if s.stbSt = 3 then (if s1.isEmpty then s10.take 1 else s1.take 60) else b.entry }
    ((s.setFlag F.STB_STATUS_PRUNING false).raise F.STB_EVT_PRUNE_DONE).trainEval

/-! ## Registers of the Stable -/

/-- A write of STB.CFG. MODE acts at once (R242); another option reads the kept levels anew (R225). -/
def State.stbCfgWrite (v : W32) (s : State) : State :=
  let opt := s.flag F.STB_CFG_QL_OPT
  let s := s.plainWrite (R .STB_CFG) v
  let new := s.flag F.STB_CFG_QL_OPT != opt
  let s := (s.upto 15 fun i s => if new || (s.qlKey i).isNone then s.takeQl i else s).availEval
  let s := match s.stbMode with
    | 1 => s.stbLose
    | 2 => s.stbEnter 0
    | _ => s
  s.qlEval

/-- A write of REF_CFG[i]. A new quality-level source delivers at once (R226), EN set anew asks for a validation time
(R233). -/
def State.refCfgWrite (i : Nat) (v : W32) (s : State) : State :=
  let key := s.qlKey i
  let en := s.flag F.STB_REF_CFG_EN i
  let s := s.plainWrite (R .STB_REF_CFG i) v
  let s := if s.qlKey i = key && key.isSome then s else s.takeQl i
  let s := s.when (!en && s.flag F.STB_REF_CFG_EN i) fun s =>
    (s.modCand i fun k => { k with first := true }).when
      (s.flag F.STB_REF_STATUS_PRESENT i && !s.flag F.STB_REF_STATUS_DISQ i) (State.wtrStart i)
  s.availEval.qlEval

/-- A write of REF_LOS[i]: PC_SENDER may name another source. -/
def State.refLosWrite (i : Nat) (v : W32) (s : State) : State :=
  let key := s.qlKey i
  let s := s.plainWrite (R .STB_REF_LOS i) v
  if s.qlKey i = key then s else s.takeQl i

/-- A write of REF_FW[i]: a level for QL_SRC 0x4, and the presence of candidate 11 (Table 10.2).
DEDUCED, unsafe (log 30). -/
def State.refFwWrite (i : Nat) (v : W32) (s : State) : State :=
  let s := (s.plainWrite (R .STB_REF_FW i) v).deliver (32 + i) (F.STB_REF_FW_QL.get v) false 0 0
  if i = 11 then if s.flag F.STB_REF_FW_PRESENT 11 then s.candPresent 11 else s.candLost 11 else s

/-- A write of FW_BEAT (R243). DEDUCED, unsafe (log 30). -/
def State.fwBeat (s : State) : State :=
  let gap := s.stb.fwLost
  let s := (s.setFlag F.STB_STATUS_FW_OK true).modStb fun b => { b with fwLost := false, beat := s.us }
  s.when gap fun s => (s.clampEval).stbAcq

/-- A write of MODEL_STATUS by firmware: a change of TRAINED is an event (R248). DEDUCED, unsafe (log 32). -/
def State.modelWrite (v : W32) (s : State) : State :=
  (s.setTrained (bitOf v 31)).plainWrite (R .STB_MODEL_STATUS) v

/-- A write of SEL_CMD (R236). -/
def State.selWrite (v : W32) (s : State) : State := s.plainWrite (R .STB_SEL_CMD) v

/-! ## The commands -/

/-- The monitor of candidate `i` can declare it lost (Table 10.2): for a symbol clock and for PTP, what loses it stands
in the state. -/
def State.canBeLost (s : State) (i : Nat) : Bool := !(i == 8 || i == 9 || i == 11) || !s.canBePresent i

/-- LOST (R224). -/
def execRefLost (i : Nat) (s : State) : Host.Outcome State Fault Refusal :=
  .next (if s.canBeLost i then s.candLost i else s)

/-- PRESENT (R224). -/
def execRefPresent (i : Nat) (s : State) : Host.Outcome State Fault Refusal := .next (s.candPresent i)

/-- ESMC_PDU (R227). -/
def execEsmcPdu (p : Nat) (pdu : Option EsmcPdu) (s : State) : Host.Outcome State Fault Refusal :=
  .next (s.esmcRx p pdu)

/-- R226: the source of candidate `i` has given no level within its timeout. -/
def execQlTimeout (i : Nat) (s : State) : Host.Outcome State Fault Refusal :=
  .next (match if s.stbOn && i < 15 then s.qlKey i else none with
    | some k => if (s.stb.lvl.get none k).all fun l => decide (l.arr + qlTimeout k ≤ s.us) then s.setQl i 14 else s
    | none => s)

/-- QL_SRC_WRITE (R226). -/
def execQlSrcWrite (m : Master) (i : Nat) (v : W32) (s : State) : Host.Outcome State Fault Refusal :=
  .next (s.guardW m (R .STB_REF_CFG i) v (State.refCfgWrite i v))

/-- QUAL_WINDOW (R229). -/
def execQualWindow (l : List (Nat × Int)) (s : State) : Host.Outcome State Fault Refusal := .next (s.qualWindow l)

/-- DISQ (R230). -/
def execDisq (i : Nat) (base : Int) (s : State) : Host.Outcome State Fault Refusal := .next (s.disqualify i base)

/-- R230: DISQ clears after PERSIST seconds below 40 %, and the wait-to-restore starts. -/
def execRequalification (i : Nat) (s : State) : Host.Outcome State Fault Refusal :=
  .next (if s.stbOn && i < 15 && s.flag F.STB_REF_STATUS_DISQ i && s.persist i ≤ (s.cand i).low then
    ((s.setFlag F.STB_REF_STATUS_DISQ false i).when (s.flag F.STB_REF_STATUS_PRESENT i) (State.wtrStart i)).availEval
  else s)

/-- R233: the time has run out. -/
def execWtrExpiry (i : Nat) (s : State) : Host.Outcome State Fault Refusal :=
  .next (if s.stbOn && i < 15 && s.flag F.STB_REF_STATUS_WTR i && (s.cand i).wtrEnd ≤ s.us then
    (s.setFlag F.STB_REF_STATUS_WTR false i).availEval else s)

/-- SELECTOR_TICK (R235). -/
def execSelectorTick (s : State) : Host.Outcome State Fault Refusal := .next s.selTick

/-- MANUAL (R236). -/
def execSelManual (m : Master) (idx : Nat) (s : State) : Host.Outcome State Fault Refusal :=
  let v := BitVec.ofNat 32 (2 ^ 30 + idx % 16)
  .next (s.guardW m (R .STB_SEL_CMD) v (State.selWrite v))

/-- FORCED (R236). -/
def execSelForced (m : Master) (idx : Nat) (s : State) : Host.Outcome State Fault Refusal :=
  let v := BitVec.ofNat 32 (2 ^ 31 + idx % 16)
  .next (s.guardW m (R .STB_SEL_CMD) v (State.selWrite v))

/-- CLEAR (R236). -/
def execSelClear (m : Master) (idx : Nat) (s : State) : Host.Outcome State Fault Refusal :=
  let v := BitVec.ofNat 32 (idx % 16)
  .next (s.guardW m (R .STB_SEL_CMD) v (State.selWrite v))

/-- HOLDOFF_END (R238). -/
def execHoldoffEnd (s : State) : Host.Outcome State Fault Refusal := .next s.refHoldEnd

/-- R240, Table 10.6: the build-out ends whatever has happened meanwhile; a heartbeat lost meanwhile takes effect, the
state follows the new candidate's offset, and a candidate lost meanwhile starts its hold-off.
DEDUCED, unsafe (log 28). -/
def execBuildoutDone (ofs : Int) (s : State) : Host.Outcome State Fault Refusal :=
  .next <|
    if !(s.stbOn && s.flag F.STB_STATUS_BUILDOUT) then s
    else
      let s := ((s.setFlag F.STB_STATUS_BUILDOUT false).raise F.STB_EVT_BUILDOUT_DONE).modStb fun b =>
        { b with boOfs := ofs }
      let i := s.stbSel
      let out := s.steer / 1024 + signed 32 (s.fld F.STB_MODEL_PRED_PRED)
      let near := decide ((s.fofsOf i - out).natAbs ≤ 5000)
      let s := if s.stb.fwLost then s.when (s.stbSt == 1 || s.stbSt == 2) (State.stbEnter 3)
        else s.when (s.stbSt == 2 && !near) (State.stbEnter 1)
      (s.when (i < 15 && s.flag F.STB_REF_CFG_EN i &&
          !s.flag F.STB_REF_STATUS_PRESENT i) (State.refHoldStart i)).cleanEval

/-- R242: the errors have lain within the limits for 30 s without a break, all of them in ACQUIRE. -/
def execEnterLocked (s : State) : Host.Outcome State Fault Refusal :=
  .next (if s.stbOn && s.stbSt = 1 && !s.wordHeld && s.stbSel ≠ 15 && s.stb.stAt +
      30000000 ≤ s.us then s.stbEnter 2 else s)

/-- ENTER_ACQUIRE (R242). -/
def execEnterAcquire (s : State) : Host.Outcome State Fault Refusal :=
  .next (if s.stbOn && s.stbSt = 2 then s.stbEnter 1 else s)

/-- MODE (R242). -/
def execStbMode (m : Master) (v : W32) (s : State) : Host.Outcome State Fault Refusal :=
  .next (s.guardW m (R .STB_CFG) v (State.stbCfgWrite v))

/-- DESIGN CHOICE, safe (log 62). -/
def execFwBeat (m : Master) (v : W32) (s : State) : Host.Outcome State Fault Refusal :=
  .next (s.guardW m (R .STB_FW_BEAT) v fun s => (s.plainWrite (R .STB_FW_BEAT) v).fwBeat)

/-- R243: 100 ms have passed without a heartbeat. PTP is lost with it (Table 10.2). A build-out under way completes
first. -/
def execFwLost (s : State) : Host.Outcome State Fault Refusal :=
  .next <|
    if !s.stbOn || s.stb.fwLost || s.us < s.stb.beat + 100000 then s
    else
      let s := ((s.raise F.STB_EVT_FW_LOST).setFlag F.STB_STATUS_FW_OK false).modStb fun b =>
        { b with fwLost := true, lostAt := s.us, held := s.steer }
      let s := s.candLost 11
      (s.when (!s.flag F.STB_STATUS_BUILDOUT && (s.stbSt == 1 || s.stbSt == 2)) (State.stbEnter 3)).cleanEval

/-- HO_BOUND_CHECK (R251). -/
def execHoBoundCheck (s : State) : Host.Outcome State Fault Refusal :=
  .next (if s.stbOn && s.stbSt = 3 && s.fld F.STB_HO_CFG_TE_LIMIT ≤ s.fld F.STB_HO_BOUND_BOUND then s.stbEnter 4 else s)

/-- R251: the word has been held for FROZEN_LIM minutes. -/
def execFrozenLim (s : State) : Host.Outcome State Fault Refusal :=
  .next (if s.stbOn && s.stbSt = 3 && s.stb.fwLost &&
      s.stb.lostAt + 60000000 * max 1 (s.fld F.STB_HO_CFG_FROZEN_LIM) ≤ s.us then s.stbEnter 4 else s)

/-- STEER_SRV (R245). -/
def execSteerSrv (m : Master) (v : W32) (s : State) : Host.Outcome State Fault Refusal :=
  .next (s.guardW m (R .STB_STEER_SRV_HI) v fun s =>
    (s.commitPair m (R .STB_STEER_SRV_LO) (R .STB_STEER_SRV_HI) v).clampEval)

/-- STEER_MAN (R245). -/
def execSteerMan (m : Master) (v : W32) (s : State) : Host.Outcome State Fault Refusal :=
  .next (s.guardW m (R .STB_STEER_MAN_HI) v fun s =>
    (s.commitPair m (R .STB_STEER_MAN_LO) (R .STB_STEER_MAN_HI) v).clampEval)

/-- The window of `len` seconds from second `start` is aligned to Postmark time and the last to have ended (R247). -/
def State.windowOver (s : State) (len start : Nat) : Bool :=
  start % len == 0 && decide (start + len ≤ s.sec) && decide (s.sec < start + 2 * len)

/-- The sample of the window from second `start` on. -/
def State.sampleNow (s : State) (start : Nat) (word tInt tExt : Int) : Sample :=
  { start := start, word := word, tInt := tInt, tExt := if s.flag F.STB_TEMP_CFG_EXT_EN then some tExt else none,
    cand := s.stbSel
    rank := s.fld F.STB_REF_STATUS_QL s.stbSel }

/-- R247, R248: a 10-minute window ends. One that was clean throughout leaves a sample; after a gap of more than 24 h
the count of new samples starts again; the model is fitted anew (R249). DESIGN CHOICE, safe (log 62). -/
def execSample10min (start : Nat) (tInt tExt : Int) (s : State) : Host.Outcome State Fault Refusal :=
  .next <| if !s.windowOver 600 start then s else
    let ok := s.sampleOk && s.stb.clean10
    let x := s.sampleNow start (s.stb.w10Sum / s.stb.w10N) tInt tExt
    let gap := (s.stb.s10.head?.map Sample.start).all fun t => decide (t + 87000 < start)
    let s := s.when ok fun s => (s.modStb fun b => { b with
      s10 := (x :: b.s10).take 1008, model := (x :: b.s10).take 1008, fresh := if gap &&
          !b.s10.isEmpty then 1 else if b.s10.isEmpty then 36 else b.fresh + 1
      }).trainEval
    s.modStb fun b => { b with clean10 := s.sampleOk, w10Sum := 0, w10N := 0 }

/-- R247: a 1-second window ends. -/
def execSample1s (start : Nat) (tInt tExt : Int) (s : State) : Host.Outcome State Fault Refusal :=
  .next <| if !s.windowOver 1 start then s else
    let ok := s.sampleOk && s.stb.clean1
    let x := s.sampleNow start s.stb.wMean tInt tExt
    let s := s.when ok fun s => (s.modStb fun b => { b with s1 := (x :: b.s1).take 3600 }).trainEval
    s.modStb fun b => { b with clean1 := s.sampleOk }

/-- DESIGN CHOICE, safe (log 62). -/
def execPruneDone (s : State) : Host.Outcome State Fault Refusal :=
  .next (if s.stbOn && s.flag F.STB_STATUS_PRUNING then s.pruneDone else s)

/-- ESMC PDUs leave on port `p` (R227): its bit is set; while TMG is not ON, the ports that sent before go on, with DNU
(R19, R228). DESIGN CHOICE, unsafe (log 71). -/
def State.esmcOn (s : State) (p : Nat) : Bool :=
  decide (p < 16) && if s.stbOn then bitOf (s.rd (R .STB_ESMC_TX)) p else (s.stb.sent.get none p).isSome

/-- R227: one information PDU a second on each port whose bit is set. -/
def execEsmcTx (p : Nat) (s : State) : Host.Outcome State Fault Refusal :=
  .next (if s.esmcOn p then s.esmcSend p false else s)

/-- R227: an event PDU when the outgoing level has changed. -/
def execEventPdu (p : Nat) (s : State) : Host.Outcome State Fault Refusal :=
  .next (if s.esmcOn p && ((s.stb.sent.get none p).map fun d => (d.ssm, d.ext.map fun e => e.1)) !=
      some ((s.esmcPdu p true).ssm, (s.esmcPdu p true).ext.map fun e => e.1) then s.esmcSend p true else s)

end Sys2Proof.Machine
end

