-- ==== Sys2Proof/Machine/PmkCore.lean ====
section
/-! DEFINITION. Postmark's counter and the markers of the time transfer (spec/11): the counter's steps and adjustments,
the marker times and the time message a carrier sends. -/

namespace Sys2Proof.Machine

def State.modPmk (s : State) (f : Pmk → Pmk) : State := { s with pmk := f s.pmk }
def State.pmkCar (s : State) (c : Nat) : PmkCar := s.pmk.car.get PmkCar.init c
def State.modPmkCar (s : State) (c : Nat) (f : PmkCar → PmkCar) : State :=
  s.modPmk fun p => { p with car := p.car.mod PmkCar.init c f }

/-- Picoseconds in units of 2⁻¹⁶ ns. DESIGN CHOICE, unsafe (log 36). -/
def psUnits (ps : Int) : Int := ps * 65536 / 1000

/-- Postmark's time is valid and not at fault. -/
def State.timeOk (s : State) : Bool :=
  s.stbOn && s.flag F.PMK_STATUS_TIME_VALID && !s.flag F.PMK_STATUS_TIME_FAULT

/-- The time message carrier `c` sends in the multiframe that starts now (R270, Table 11.3). -/
def State.timeMsg (s : State) (c : Nat) : TimeMsg :=
  let k := s.pmkCar c
  let en := s.flag F.PMK_TT_CFG_EN c
  let seen := k.rx.findIdx? Option.isSome
  { valid := en && s.timeOk
    cdValid := s.flag F.CAX_RX_CD_EST_CD_VALID c
    cdFine := s.flag F.CAX_RX_CD_EST_CD_FINE c
    rank := s.outQl (8 + c)
    seq := k.seq
    tTx := if en then (k.tx.head?.map Prod.snd).getD 0 else 0
    rxSeq := if en then match k.far, seen with
      | some f, some n => (f + 2 ^ 32 - n) % 2 ^ 32
      | _, _ => 0 else 0
    tRx := if en then ((seen.bind fun n => k.rx.getD n none).filter fun _ => k.far.isSome).getD 0 else 0
    cd := s.fld F.CAX_RX_CD_EST_CD c
    freq := s.rdN (R .PMK_TX_FREQ c)
    utc := s.fld F.PMK_UTC_UTC_OFS
    leap61 := s.flag F.PMK_UTC_LEAP61
    leap59 := s.flag F.PMK_UTC_LEAP59 }

/-- A PTP frame that Postmark terminates is held with its timestamp, or dropped where 256 are held (R259, R262). -/
def State.ptpIn (p : Nat) (l : List Byte) (s : State) : State :=
  let t := (s.pmkTime : Int) + psUnits (signed 16 (s.rdN (R .PMK_RX_DLY p)))
  if s.pmk.ptp.length < 256 then s.modPmk fun k => { k with ptp := k.ptp ++ [⟨p, l, t⟩] }
  else (s.bump (R .PMK_PTP_RX_DROP)).raise F.PMK_EVT_PTP_DROP

/-! ## The 512-byte message (Table 11.3) -/

/-- A time as 48-bit seconds, 32-bit nanoseconds and a 16-bit fraction. -/
def stamp96 (t : Nat) : List Byte :=
  beBytes 6 (t / oneSec) ++ beBytes 4 (t % oneSec / 65536) ++ beBytes 2 (t % 65536)

/-- The time in the twelve bytes from byte `k`. -/
def stampAt (l : List Byte) (k : Nat) : Nat := beAt l k 6 * oneSec + beAt l (k + 6) 4 * 65536 + beAt l (k + 10) 2

/-- Bytes 0 to 507 of a time message. -/
def timeBody (x : TimeMsg) : List Byte :=
  [1, BitVec.ofNat 8 (bit x.valid * 128 + bit x.cdValid * 64 + bit x.cdFine * 32 + x.rank % 16)] ++ beBytes 4 x.seq ++
    stamp96 x.tTx ++ beBytes 4 x.rxSeq ++ stamp96 x.tRx ++ beBytes 3 (x.cd % 2 ^ 20) ++ beBytes 4 x.freq ++
    beBytes 2 x.utc ++ [BitVec.ofNat 8 (2 * bit x.leap61 + bit x.leap59)] ++ List.replicate 464 0

/-- The message with its CRC-32. DESIGN CHOICE, unsafe (log 73). -/
def timeBytes (x : TimeMsg) : List Byte := timeBody x ++ beBytes 4 (crc32 (timeBody x))

/-- The message that 512 bytes spell, where their CRC checks; reserved bits are ignored. -/
def timeOf (l : List Byte) : Option TimeMsg :=
  if beAt l 508 4 ≠ crc32 (l.take 508) then none
  else some {
    valid := byteAt l 1 / 128 == 1, cdValid := byteAt l 1 / 64 % 2 == 1, cdFine := byteAt l 1 / 32 % 2 == 1
    rank := byteAt l 1 % 16, seq := beAt l 2 4, tTx := stampAt l 6, rxSeq := beAt l 18 4, tRx := stampAt l 22
    cd := beAt l 34 3 % 2 ^ 20, freq := beAt l 37 4, utc := beAt l 41 2, leap61 := byteAt l 43 / 2 % 2 == 1
    leap59 := byteAt l 43 % 2 == 1 }

/-- A native-mode transmitter starts a multiframe: its marker's time is kept (R268, R271), and its message goes out in
the TTM bytes of the multiframe's frames (R135). -/
def State.markTx (c : Nat) (s : State) : State :=
  let t := (s.pmkTime : Int) + psUnits (s.rdN (R .PMK_OPT_DLY_TX c))
  let x := s.timeMsg c
  (s.modCar c fun k => { k with ttmOut := timeBytes x }).modPmkCar c fun k => { k with
    msg := some x, tx := ((k.seq, t.toNat) :: k.tx).take 64, seq := (k.seq + 1) % 2 ^ 32 }

/-- A symmetric pair (j, 7 − j) of carrier `c` can be used: both members in IM and not in signal fail (R269). -/
def State.pairOk (s : State) (c j : Nat) : Bool :=
  [8 * c + j, 8 * c + 7 - j].all fun i => s.fld F.LFM_SC_STATUS_FSTATE i == 3 && !s.flag F.LFM_SC_STATUS_SF i

/-- The markers of a multiframe arrive on carrier `c`: `marks` gives, per symmetric pair, the mean of its two arrivals
against the counter now, in 2⁻¹⁶ ns (R268, R269). -/
def State.markRx (c : Nat) (marks : List (Nat × Int)) (s : State) : State :=
  if !s.stbOn then s
  else
    let use := marks.filter fun e => decide (e.1 < 4) && s.pairOk c e.1
    let t := (s.pmkTime : Int) + (use.map Prod.snd).sum / (use.length : Int) - psUnits (s.rdN (R .PMK_OPT_DLY_RX c))
    let bits := (use.map fun e => 2 ^ e.1).foldl Nat.lor 0
    (s.modPmkCar c fun k => { k with
      rx := ((if use.isEmpty then none else some t.toNat) :: k.rx).take 64
      far := k.far.map fun f => (f + 1) % 2 ^ 32 }).setFld F.PMK_TT_STATUS_PAIRS bits c

/-! ## Steps and adjustments (R256, R257) -/

/-- The counter is set to `t` in both copies: an applied step. -/
def State.applyStep (t : Nat) (s : State) : State :=
  let s := { s with pmkTime := t % (2 ^ 48 * oneSec) }
  let s := s.modPmk fun p => { p with diff := 0, adj := 0, adjAcc := 0, stepSec := some s.sec }
  let s := (s.setFlag F.PMK_STATUS_ADJ_BUSY false).setFlag F.PMK_STATUS_TIME_FAULT false
  let s := s.when (!s.flag F.PMK_STATUS_TIME_VALID) fun s =>
    (s.setFlag F.PMK_STATUS_TIME_VALID true).raise F.PMK_EVT_TIME_VALID_SET
  let s := s.setFld F.PMK_STATUS_STEP_CNT ((s.fld F.PMK_STATUS_STEP_CNT + 1) % 65536)
  (s.raise F.PMK_EVT_STEPPED).ppsEval

/-- The counter moved by `d` units. -/
def State.moveTime (d : Int) (s : State) : State :=
  { s with pmkTime := ((s.pmkTime : Int) + d).toNat % (2 ^ 48 * oneSec) }

/-- The slew of an adjustment completes. -/
def State.adjDone (s : State) : State :=
  (((s.moveTime s.pmk.adj).modPmk fun p => { p with adj := 0, adjAcc := 0 }).setFlag F.PMK_STATUS_ADJ_BUSY false).raise
    F.PMK_EVT_ADJ_DONE

/-- The copies of the counter differ (R258). -/
def State.timeFault (s : State) : State :=
  if s.flag F.PMK_STATUS_TIME_FAULT || s.pmk.diff = 0 then s
  else ((((s.setFlag F.PMK_STATUS_TIME_FAULT true).raise F.PMK_EVT_TIME_FAULT).setFlag F.PMK_STATUS_TIME_VALID
    false).ppsEval).detect 3

/-- One microsecond of OSC_IN on the counter, which advances on the steered output (R18, R255): a word of one LSB adds
2⁻¹⁰ × 10⁻¹² of it (R245). -/
def State.rateTick (s : State) : State :=
  let z := s.pmk.rateAcc + 64 * s.steer
  (s.moveTime (65536000 + z / 1000000000)).modPmk fun p => { p with rateAcc := z % 1000000000 }

/-- One microsecond of the counter, with the slew of an adjustment: 1 µs per second of counter time. -/
def State.pmkTick (s : State) : State :=
  if !s.stbOn then s
  else
    let s := s.rateTick
    let busy := s.flag F.PMK_STATUS_ADJ_BUSY
    let acc := s.pmk.adjAcc + 65536
    let d : Int := max (-((acc / 1000 : Nat) : Int)) (min ((acc / 1000 : Nat) : Int) s.pmk.adj)
    let s := s.when busy fun s => (s.moveTime d).modPmk fun p => { p with adj := p.adj - d, adjAcc := acc % 1000 }
    let s := s.when (busy && s.pmk.adj == 0) State.adjDone
    s.timeFault.ppsEval

/-- TMG comes ON, leaves ON or is reset (R279): what no register holds starts afresh. DESIGN CHOICE, unsafe (log 38). -/
def State.pmkClear (s : State) : State := { s with pmk := Pmk.init, pmkTime := 0 }

end Sys2Proof.Machine
end

