-- ==== Sys2Proof/Machine/Line.lean ====
section
/-! DEFINITION. Profile changes of a carrier's transmitter (spec/02, R40 to R49), and the transmitter's commands
(spec/03). The receive-side commands of spec/02 are with the receiver. -/

namespace Sys2Proof.Machine

/-! ## Profiles -/

/-- MODE of a profile word (Table 2.8). -/
def pMode (w : W32) : Nat := F.CAX_TX_NEXT_MODE.get w
/-- RATE of a profile word, in 0.125 GBd. -/
def pRate (w : W32) : Nat := F.CAX_TX_NEXT_RATE.get w
/-- SLOTS of a profile word: N. -/
def pSlots (w : W32) : Nat := F.CAX_TX_NEXT_SLOTS.get w
/-- EXPRESS of a profile word. -/
def pExp (w : W32) : Nat := F.CAX_TX_NEXT_EXPRESS.get w
/-- Subcarrier `k` is express in a profile. -/
def pExpBit (w : W32) (k : Nat) : Bool := pExp w / 2 ^ k % 2 == 1

/-- The slots a subcarrier carries (R28): floor(16/19 · N) on an express one; none in an OIF mode. -/
def pScSlots (w : W32) (k : Nat) : Nat :=
  if pMode w ≠ 0 then 0 else if pExpBit w k then 16 * pSlots w / 19 else pSlots w

/-- RATE and SLOTS are legal under R27. -/
def rateLegal (r n : Nat) : Bool :=
  decide (0x180 ≤ r) && decide (r ≤ 0x800) && decide (1 ≤ n) && decide (n ≤ 10) && decide (2048 * n ≤ 10 * r) &&
    decide (r ≤ 553 * n)

/-- How many subcarriers a profile makes express. -/
def expCount (w : W32) : Nat := ((List.range 8).filter (pExpBit w)).length

/-- The code of R41 that names a profile's fault, the lowest of those it has; 0 for a legal profile. -/
def profCode (w : W32) : Nat :=
  if 2 < pMode w then 2
  else if pMode w = 0 then
    if !rateLegal (pRate w) (pSlots w) then 2
    else if 4 < expCount w then 4
    else if pSlots w = 1 && pExp w != 0 then 5
    else 0
  else if pExp w ≠ 0 then 6 else 0

/-- A host port is bound to carrier `c` as the client of OIF mode `mode` (R153): enabled, at a rate of that mode. -/
def State.oifBound (s : State) (c mode : Nat) : Bool :=
  (s.insts .SOF_PORT_CFG).any fun p =>
    s.flag F.SOF_PORT_CFG_EN p && s.fld F.SOF_PORT_CFG_OIF_CA p == c + 1 &&
      (let r := s.fld F.SOF_PORT_CFG_RATE p
       if mode = 1 then r == 4 || r == 5 else r == 6 || r == 7)

/-- A transmit-map entry carries more than idle fill: it is valid, and on its home device its group is enabled (R137,
R173). -/
def State.feeds (s : State) (e : W32) : Bool :=
  mapValid e && (F.LFM_SLOT_MAP_TX_HOME.get e != s.fuse.devId ||
      s.flag F.LFM_GRP_CFG_EN ((s.homeOf (mapGid e)).getD 160))

/-- A slot of carrier `c` that carries a group would vanish or change class under profile `w` (code 0x3 of Table 2.12).
-/
def State.wouldLose (s : State) (c : Nat) (w : W32) : Bool :=
  let old := s.rd (R .CAX_TX_PROFILE c)
  (List.range 8).any fun k =>
    (List.range 10).any fun e =>
      s.feeds ((s.sc (8 * c + k)).mapTx.getD e 0) &&
        (decide (pScSlots w k ≤ e) || pExpBit w k != pExpBit old k)

/-- The code with which a GO to profile `w` is refused, the lowest that applies; 0 where it is accepted (R42, R43).
DESIGN CHOICE, unsafe (log 13). -/
def State.goCode (s : State) (c : Nat) (w : W32) : Nat :=
  let p := profCode w
  if s.fld F.CAX_CHG_STATUS_STATE c ≠ 0 then 1
  else if p = 2 then 2
  else if s.wouldLose c w then 3
  else if p ≠ 0 then p
  else if pMode w ≠ 0 && !s.oifBound c (pMode w) then 6
  else 0

/-- A refusal of carrier `c` (R41). -/
def State.chgRefuse (c code : Nat) (s : State) : State :=
  (s.setFld F.CAX_CHG_STATUS_REFUSE code c).raise F.CAX_LINE_EVT_CHG_REFUSED c

/-- TX_ENTROPY of a profile (R54, R55): K is the smallest integer not below 1,024 · H; both fields 0 in OIF modes. -/
def entropy (w : W32) : W32 :=
  if pMode w ≠ 0 then 0
  else
    let d := pRate w * 723292
    let k := (819200 * pSlots w * 1000000 + d - 1) / d
    F.CAX_TX_ENTROPY_CONST.put (if k ≤ 3584 then 1 else 2) (F.CAX_TX_ENTROPY_K.put k 0)

/-- The hold of R49 ends. -/
def State.holdEnd (c : Nat) (s : State) : State :=
  if !(s.car c).hold then s
  else
    let s := s.modCar c fun k => { k with hold := false }
    s.when (s.fld F.CAX_CHG_STATUS_STATE c == 3) fun s => s.setFld F.CAX_CHG_STATUS_STATE 0 c

/-- The switch: the latched copy is installed (R44, R45). A rate or mode change relocks the transmit clock with RECONF,
restarts FN and JC (R115), brings TX_SHAPE into force (R59) and starts the hold of R49; any other change is done at
once. Entering an OIF mode clears the Postcard's TX_CFG.EN (R299). -/
def State.install (c : Nat) (s : State) : State :=
  let w := (s.car c).latched
  let toOif := pMode w ≠ 0 && pMode w ≠ pMode (s.rd (R .CAX_TX_PROFILE c))
  let s := ((s.wr (R .CAX_TX_PROFILE c) w).wr (R .CAX_TX_ENTROPY c) (entropy w)).setFld F.CAX_CHG_STATUS_COUNT 0 c
  let s := s.when (toOif && s.domOn 3) fun s => (s.setFlag F.PCC_TX_CFG_EN false c).pccStop c
  let s := s.modCar c fun k => { k with onLine := false, oifWait := false }
  if (s.car c).rateChg then
    ((((s.setFld F.CAX_CHG_STATUS_STATE 2 c).modCar c fun k => { k with hold := true, fn := 0, jc := 0 }).shapeCopy
      c).setFlag F.CAX_TX_STATUS_RECONF true c).txEval c
  else
    (((s.setFld F.CAX_CHG_STATUS_STATE 0 c).raise F.CAX_LINE_EVT_CHG_DONE c).holds)

/-- A GO that has been accepted: the copy is latched; it is announced in native mode, awaits a frame boundary in an OIF
mode, and is installed at once while the transmitter is not in service (R44). The spec does not say what STATE shows
while the boundary is awaited: here SWITCH. DESIGN CHOICE, unsafe (log 63). -/
def State.goAccept (c : Nat) (s : State) : State :=
  let w := s.rd (R .CAX_TX_NEXT c)
  let old := s.rd (R .CAX_TX_PROFILE c)
  let rc := pRate w ≠ pRate old || pMode w ≠ pMode old
  let st := s.fld F.CAX_TX_STATUS_TXSTATE c
  let s := s.modCar c fun k => { k with latched := w, rateChg := rc, onLine := false, oifWait := false }
  if st = 3 || st = 4 then
    if pMode old = 0 then (s.setFld F.CAX_CHG_STATUS_STATE 1 c).setFld F.CAX_CHG_STATUS_COUNT 16 c
    else (s.setFld F.CAX_CHG_STATUS_STATE 2 c).modCar c fun k => { k with oifWait := true }
  else s.install c

/-- A write of GO (R42, R43). -/
def State.go (c : Nat) (s : State) : State :=
  let w := s.rd (R .CAX_TX_NEXT c)
  if s.fld F.CAX_CHG_STATUS_STATE c = 0 && w = s.rd (R .CAX_TX_PROFILE c) then s.raise F.CAX_LINE_EVT_CHG_DONE c
  else
    let code := s.goCode c w
    if code = 0 then s.goAccept c else s.chgRefuse c code

/-- A write of CANCEL (R48). -/
def State.cancel (c : Nat) (s : State) : State :=
  if s.fld F.CAX_CHG_STATUS_STATE c = 1 && 2 ≤ s.fld F.CAX_CHG_STATUS_COUNT c then
    (((s.setFld F.CAX_CHG_STATUS_STATE 0 c).setFld F.CAX_CHG_STATUS_COUNT 0 c).modCar c fun k =>
      { k with onLine := false }).raise F.CAX_LINE_EVT_CHG_CANCELLED c
  else s.chgRefuse c 7

/-- A write of CHG_CTRL (Table 2.10): FOLLOW, then CANCEL, then GO. DESIGN CHOICE, safe (log 14). -/
def State.chgCtrlWrite (c : Nat) (v : W32) (s : State) : State :=
  let s := s.plainWrite (R .CAX_CHG_CTRL c) v
  let s := s.when (F.CAX_CHG_CTRL_CANCEL.get v == 1) (State.cancel c)
  s.when (F.CAX_CHG_CTRL_GO.get v == 1) (State.go c)

/-- GO (R42). -/
def execGo (m : Master) (c : Nat) (v : W32) (s : State) : Host.Outcome State Fault Refusal :=
  .next (s.guardW m (R .CAX_CHG_CTRL c) v (State.chgCtrlWrite c v))

/-- CANCEL (R48). -/
def execCancel (m : Master) (c : Nat) (v : W32) (s : State) : Host.Outcome State Fault Refusal :=
  .next (s.guardW m (R .CAX_CHG_CTRL c) v (State.chgCtrlWrite c v))

/-- A carrier's domain answers its events: it is ON and not in reset. DESIGN CHOICE, safe (log 4). -/
def State.carOn (s : State) (c : Nat) : Bool := decide (c < s.nCar) && s.domOn (4 + c) && !s.inReset (4 + c) (caxPage c)

/-- ANNOUNCE (R44): the announcement of an accepted change reaches the line. -/
def execAnnounce (c : Nat) (s : State) : Host.Outcome State Fault Refusal :=
  .next (if s.carOn c && s.fld F.CAX_CHG_STATUS_STATE c == 1 then s.modCar c fun k => { k with onLine := true } else s)

/-- A remote error record is closed and sent (R130). -/
def Sc.sendRei (inhibit : Bool) (x : Sc) : Sc :=
  { x with seq := (x.seq + 1) % 256, sent := if inhibit then ⟨0, 0, 0⟩ else x.pend, pend := ⟨0, 0, 0⟩ }

/-- A transmitted multiframe boundary (R44, R66, R130): the countdown of an announcement on the line, the end of FILL's
first multiframe, and in native mode the time-transfer marker and the remote error records of the carrier's subcarriers
(Table 2.3, R149). -/
def State.multiframeTx (c : Nat) (s : State) : State :=
  let n := s.fld F.CAX_CHG_STATUS_COUNT c
  let s := s.when (s.fld F.CAX_CHG_STATUS_STATE c == 1 && (s.car c).onLine && decide (2 ≤ n)) fun s =>
    s.setFld F.CAX_CHG_STATUS_COUNT (n - 1) c
  let st := s.fld F.CAX_TX_STATUS_TXSTATE c
  let s := s.when (st == 3) fun s => s.modCar c fun k => { k with fillMf := true }
  let native := (st == 3 || st == 4) && pMode (s.rd (R .CAX_TX_PROFILE c)) == 0
  let s := s.when native (State.markTx c)
  s.when (native && s.domOn 6) fun s =>
    s.upto 8 fun k s => s.modSc (8 * c + k) (Sc.sendRei (s.flag F.LFM_CA_CFG_REI_INHIBIT c))

/-- MULTIFRAME_TX (R130). -/
def execMultiframeTx (c : Nat) (s : State) : Host.Outcome State Fault Refusal :=
  .next (if s.carOn c then s.multiframeTx c else s)

/-- SWITCH (R44): the countdown reaches zero, or an OIF frame boundary arrives for a waiting change. -/
def execSwitch (c : Nat) (s : State) : Host.Outcome State Fault Refusal :=
  .next (if s.carOn c &&
      ((s.fld F.CAX_CHG_STATUS_STATE c == 1 && (s.car c).onLine && s.fld F.CAX_CHG_STATUS_COUNT c == 1) ||
       (s.fld F.CAX_CHG_STATUS_STATE c == 2 && (s.car c).oifWait)) then s.install c else s)

/-- CHG_DONE (R43, Table 2.15 step 3): the transmitter runs the new profile, its clock relocked. -/
def execChgDone (c : Nat) (s : State) : Host.Outcome State Fault Refusal :=
  .next (if s.carOn c && s.fld F.CAX_CHG_STATUS_STATE c == 2 && !(s.car c).oifWait &&
      !s.flag F.CAX_TX_STATUS_RECONF c then
    (s.raise F.CAX_LINE_EVT_CHG_DONE c).setFld F.CAX_CHG_STATUS_STATE (if (s.car c).hold then 3 else 0) c
  else s)

/-- HOLD_TIMEOUT (R49). -/
def execHoldTimeout (c : Nat) (s : State) : Host.Outcome State Fault Refusal :=
  .next (if s.carOn c && (s.car c).hold then (s.holdEnd c).raise F.CAX_LINE_EVT_HOLD_TIMEOUT c else s)

/-! ## The transmitter -/

/-- A write of TX_CTRL (Table 3.8): LASER_ON, MUTE, SQUELCH_LASER and SETTLE take it, and the causes act (R67).
DESIGN CHOICE, safe (log 14). -/
def State.txCtrlWrite (c : Nat) (v : W32) (s : State) : State := (s.plainWrite (R .CAX_TX_CTRL c) v).txEval c

/-- LASER_ON (R67). -/
def execLaserOn (m : Master) (c : Nat) (v : W32) (s : State) : Host.Outcome State Fault Refusal :=
  .next (s.guardW m (R .CAX_TX_CTRL c) v (State.txCtrlWrite c v))

/-- MUTE (R67). -/
def execMute (m : Master) (c : Nat) (v : W32) (s : State) : Host.Outcome State Fault Refusal :=
  .next (s.guardW m (R .CAX_TX_CTRL c) v (State.txCtrlWrite c v))

/-- SETTLE_ELAPSED (R66): SETTLE ends, to MUTE with a mute cause present and to FILL without. -/
def execSettleElapsed (c : Nat) (s : State) : Host.Outcome State Fault Refusal :=
  .next (if s.carOn c && s.fld F.CAX_TX_STATUS_TXSTATE c == 1 then
    (((s.txCauses c).txMove c true).upto 4 fun l s => s.skewSettle c l).holds
  else s)

/-- SERVICE_ENTERED (R66): one complete multiframe of FILL sent and no hold of R49. -/
def execServiceEntered (c : Nat) (s : State) : Host.Outcome State Fault Refusal :=
  .next (if s.carOn c && s.fld F.CAX_TX_STATUS_TXSTATE c == 3 && (s.car c).fillMf && !(s.car c).hold then
    (s.setFld F.CAX_TX_STATUS_TXSTATE 4 c).raise F.CAX_TX_EVT_SERVICE_ENTERED c
  else s)

/-- The transmit clock of carrier `c` loses lock (R67, R408); a clock failure of an ON domain is fault 0. -/
def State.clkFault (c : Nat) (s : State) : State :=
  if s.carOn c then
    (((s.setFlag F.CAX_TX_STATUS_CLK true c).raise F.CAX_TX_EVT_CLK_FAULT c).txEval c).detect 0
  else s

/-- CLK_FAULT (R67). -/
def execClkFault (c : Nat) (s : State) : Host.Outcome State Fault Refusal := .next (s.clkFault c)

/-- TX_CLK_LOCK (R67): the transmit clock is locked again; CLK and RECONF clear. Not while CLK_STOP acts (Table 17.10).
-/
def execTxClkLock (c : Nat) (s : State) : Host.Outcome State Fault Refusal :=
  .next (if s.carOn c && !s.inj 0x01 (2 * c) then
    ((s.setFlag F.CAX_TX_STATUS_CLK false c).setFlag F.CAX_TX_STATUS_RECONF false c).txEval c
  else s)

/-- A segment that carrier `c` transmits fails its check and is replaced (R52). -/
def State.segErr (c : Nat) (s : State) : State :=
  (((s.bump (R .CAX_TX_SEG_ERR c)).raise F.CAX_TX_EVT_SEG_ERR c).count 0x04B c 1).detect 8

/-- The next segment of carrier `c` is one that an injection has corrupted (Table 17.10). -/
def State.segInj (c : Nat) (s : State) : State :=
  if s.segBad.contains c then { s with segBad := s.segBad.filter (· != c) }.segErr c else s

/-- SEG_ERR (R52): only in FILL and SERVICE are segments checked. -/
def execSegErr (c : Nat) (s : State) : Host.Outcome State Fault Refusal :=
  .next (if s.carOn c && (s.fld F.CAX_TX_STATUS_TXSTATE c == 3 || s.fld F.CAX_TX_STATUS_TXSTATE c == 4) then s.segErr c
  else s)

/-- A write of TX_PRE_APPLY (R60): APPLY starts the copy, PENDING reads 1 until it has finished. -/
def State.applyWrite (c : Nat) (v : W32) (s : State) : State :=
  if F.CAX_TX_PRE_APPLY_APPLY.get v = 1 then s.setFlag F.CAX_TX_PRE_APPLY_PENDING true c else s

/-- APPLY (R60). -/
def execTxPreApply (m : Master) (c : Nat) (v : W32) (s : State) : Host.Outcome State Fault Refusal :=
  .next (s.guardW m (R .CAX_TX_PRE_APPLY c) v (State.applyWrite c v))

/-- The pre-emphasis shadow of carrier `c` copied into force (R60): the coefficients that differ from their reset
values, by their place 32 · lane + tap. -/
def State.preCopy (c : Nat) (s : State) : State :=
  let l := s.regs.filterMap fun e => if e.1.id = .CAX_TX_PRE ∧ e.1.i = c then some (e.1.j, e.2) else none
  (s.modCar c fun k => { k with pre := l }).setFlag F.CAX_TX_PRE_APPLY_PENDING false c

/-- CLIP (R61). -/
def execClip (c lane : Nat) (s : State) : Host.Outcome State Fault Refusal :=
  .next (if s.carOn c && lane < 4 then
    ((s.bump (R .CAX_TX_CLIP_CNT c lane)).raise F.CAX_TX_EVT_CLIP c).count 0x04A c 1
  else s)

/-- A new skew sum of lane `l` (R62): CLAMPED and its event where the sum lies outside ±40 ps, and its effect. -/
def State.skewNew (c l : Nat) (s : State) : State :=
  let out := skewClamp (s.skewSum c l) != s.skewSum c l
  let s := s.setFlag F.CAX_TX_SKEW_CLAMPED out c l
  (s.when out fun s => s.raise F.CAX_TX_EVT_SKEW_CLAMP c).skewSettle c l

/-- A write of TX_SKEW (R62). -/
def State.skewWrite (c l : Nat) (v : W32) (s : State) : State := (s.plainWrite (R .CAX_TX_SKEW c l) v).skewNew c l

/-- TX_SKEW_WRITE (R62). -/
def execTxSkewWrite (m : Master) (c lane : Nat) (v : W32) (s : State) : Host.Outcome State Fault Refusal :=
  .next (s.guardW m (R .CAX_TX_SKEW c lane) v (State.skewWrite c lane v))

/-- SKEW_RAMP (R62): in FILL or SERVICE the applied skew moves 0.1 ps towards its sum. -/
def execSkewRamp (c lane : Nat) (s : State) : Host.Outcome State Fault Refusal :=
  let t := skewClamp (s.skewSum c lane)
  let a := (s.car c).skew.get 0 lane
  .next (if s.carOn c && lane < 4 && s.flag F.CAX_TX_SKEW_RAMPING c lane then
    (s.modCar c fun k => { k with skew := k.skew.set 0 lane (if a < t then a + 1 else if t < a then a - 1 else a) }).skewSettle
      c lane
  else s)

end Sys2Proof.Machine
end

