-- ==== Sys2Proof/Machine/Frame.lean ====
section
/-! DEFINITION. The line frame of a subcarrier (spec/06): signal fail and its consequences, the alignment search, header
and coded overhead, and their commands. -/

namespace Sys2Proof.Machine

/-! ## The receiver as the line frame sees it -/

/-- The carrier of subcarrier `i`, device-wide. -/
def scCar (i : Nat) : Nat := i / 8

/-- The mode a receive direction runs. -/
def State.rxMode (s : State) (c : Nat) : Nat := pMode (s.car c).rxForce

/-- A subcarrier is in service: neither HELD nor EXP_OUT (R85). -/
def State.scIn (s : State) (i : Nat) : Bool :=
  s.fld F.SCX_RX_STATUS_SCSTATE i != 4 && s.fld F.SCX_RX_STATUS_SCSTATE i != 5

/-- A subcarrier is LOCKED and its carrier answers. -/
def State.scLocked (s : State) (i : Nat) : Bool := s.domOn (4 + scCar i) && s.fld F.SCX_RX_STATUS_SCSTATE i == 2

/-- A subcarrier is in frame: IF or IM, or in an OIF mode LOCKED with the agreement's framing in alignment (R71). -/
def State.inFrame (s : State) (i : Nat) : Bool :=
  if s.rxMode (scCar i) = 0 then decide (2 ≤ s.fld F.LFM_SC_STATUS_FSTATE i)
  else s.scLocked i && (s.car (scCar i)).oifAlign

/-- The subcarriers of a carrier. -/
def scsOf (c : Nat) : List Nat := (List.range 8).map (8 * c + ·)

/-! ## Subcarrier states -/

/-- The decoder of subcarrier `i` stops (R101): the codewords in progress are abandoned uncounted, the crossover and the
1 ms windows end, and UNC_DEFECT clears without its event (R106). No slot of the subcarrier is in service until the
decoder delivers again. -/
def State.decStop (i : Nat) (s : State) : State :=
  let s := s.when (s.domOn (4 + scCar i)) fun s =>
    (s.setFlag F.SCX_FEC_STATUS_UNC_DEFECT false i).setFlag F.SCX_FEC_STATUS_XOVER false i
  s.modSc i fun x => { x with decFrom := none, live := false, lim := none, win := none, xover := 0, marks := []
                              mCorr := 0, mUnc := 0 }

/-- Subcarrier `i` goes to state `st` of Table 4.8; entering and leaving LOCKED, and entering EXP_OUT, are events, and
SC_LOCKED shows the locked ones. -/
def State.scTo (i st : Nat) (s : State) : State :=
  let old := s.fld F.SCX_RX_STATUS_SCSTATE i
  if old = st then s
  else
    let s := s.setFld F.SCX_RX_STATUS_SCSTATE st i
    let s := s.when (st == 2) fun s => s.raise F.SCX_RX_EVT_LOCKED i
    let s := s.when (old == 2) fun s => (s.raise F.SCX_RX_EVT_LOST i).decStop i
    let s := s.when (st == 4) fun s => s.raise F.SCX_RX_EVT_EXP_OUT i
    if st == 2 || old == 2 then
      let c := scCar i
      let m := s.fld F.CAX_RX_STATUS_SC_LOCKED c
      (s.setFld F.CAX_RX_STATUS_SC_LOCKED (if st == 2 then m ||| 2 ^ (i % 8)
          else m &&& (255 - 2 ^ (i % 8))) c).pccPend c 2
    else s

/-- Subcarrier `i` is express on the receive side. -/
def State.rxExp (s : State) (i : Nat) : Bool :=
  s.rxMode (scCar i) == 0 && pExpBit (s.car (scCar i)).rxForce (i % 8)

/-! ## The pilot search (R89, R90) -/

/-- The order of R89: express subcarriers in ascending index, then bulk ones. -/
def State.searchOrder (s : State) (c : Nat) : List Nat :=
  (scsOf c).filter s.rxExp ++ (scsOf c).filter fun i => !s.rxExp i

/-- The pilot search runs: the carrier is at step 5 or later (Table 4.10), and the orientation agrees (R76). -/
def State.searches (s : State) (c : Nat) : Bool :=
  let st := s.fld F.CAX_RX_STATUS_RXSTATE c
  let step := s.fld F.CAX_RX_STATUS_ACQ_STEP c
  (st == 2 || ((st == 1 || st == 3) && 4 ≤ step && step ≤ 7)) && !s.flag F.CAX_RX_STATUS_ORIENT c

/-- The page number of SCX[i]. -/
def scxPage (i : Nat) : Nat := (R .SCX_RX_CFG i).addr / 4096

/-- Nothing holds subcarrier `i` in reset. -/
def State.scNotReset (s : State) (i : Nat) : Bool := !s.inReset (4 + scCar i) (scxPage i)

/-- A subcarrier that the pilot search is still to serve: IDLE, or in CONVERGE, and not held in reset. -/
def State.unserved (s : State) (i : Nat) : Bool := s.fld F.SCX_RX_STATUS_SCSTATE i ≤ 1 && s.scNotReset i

/-- The pilot search takes up the first of a list of subcarriers that it is still to serve: full while none is LOCKED,
narrow about the first one's timing after that; an IDLE one it reaches goes to CONVERGE (R85, R89). -/
def State.searchNext (c : Nat) (l : List Nat) (s : State) : State :=
  match l.find? s.unserved with
  | some i =>
    (s.scTo i 1).modCar c fun k => { k with search := some (i, s.fld F.CAX_RX_STATUS_SC_LOCKED c == 0) }
  | none => s.modCar c fun k => { k with search := none }

/-- The order of R89 begun behind subcarrier `i`, which has been served and comes last (R90). -/
def State.searchAfter (s : State) (c i : Nat) : List Nat :=
  let l := s.searchOrder c
  (l.dropWhile (· != i)).drop 1 ++ l.takeWhile (· != i) ++ [i]

/-- The pilot search brought up to date with its carrier: a subcarrier that has left CONVERGE gives way to the next. -/
def State.searchEval (c : Nat) (s : State) : State :=
  if !s.searches c then s.modCar c fun k => { k with search := none }
  else match (s.car c).search with
    | some (i, _) => if s.fld F.SCX_RX_STATUS_SCSTATE i = 1 then s else s.searchNext c (s.searchAfter c i)
    | none => s.searchNext c (s.searchOrder c)

/-- A search without success: a narrow one is widened, a full one goes on to the next subcarrier in turn (R89, R90). -/
def State.searchFail (c : Nat) (s : State) : State :=
  match (s.car c).search with
  | some (i, false) => s.modCar c fun k => { k with search := some (i, true) }
  | some (i, true) => s.searchNext c (s.searchAfter c i)
  | none => s

/-! ## The end of a sequence -/

/-- ACQ_COMPLETE, once every in-service subcarrier is LOCKED and in frame while a sequence runs (R89, R91). The spec
does not say when ACQ_STEP shows 7: here it goes to "none" at once. DESIGN CHOICE, unsafe (log 66). -/
def State.acqCheck (c : Nat) (s : State) : State :=
  let l := (scsOf c).filter s.scIn
  let step := s.fld F.CAX_RX_STATUS_ACQ_STEP c
  if (s.car c).seq = .none || step < 5 || l.isEmpty then s
  else if l.all (fun i => s.scLocked i && s.inFrame i) then
    let warm := (s.car c).seq = .warm
    let s := ((s.raise F.CAX_RX_EVT_ACQ_COMPLETE c).setFld F.CAX_RX_STATUS_ACQ_STEP 15 c).modCar c fun k =>
      { k with seq := .none }
    s.when warm fun s => (s.raise F.CAX_RX_EVT_RELOCK_OK c).bump (R .CAX_RX_RELOCK_CNT c)
  else if (s.car c).seq = .cold && step = 5 && l.all s.scLocked then s.setFld F.CAX_RX_STATUS_ACQ_STEP 6 c
  else s

/-! ## Per-second sums -/

/-- A change of subcarrier `i`'s sums of the line frame, in the second that holds the present Postmark time (R11, R146).
-/
def State.pmAdd (i : Nat) (g : PmAcc → PmAcc) (s : State) : State :=
  s.modSc i fun x => if s.sec ≤ x.pmSec then { x with pmCur := g x.pmCur } else { x with pmNext := g x.pmNext }

/-- Flag bits set in the second's flags. -/
def State.pmFlag (i m : Nat) (s : State) : State := s.pmAdd i fun a => { a with flags := a.flags ||| m }

/-! ## Frame state -/

/-- A subcarrier's frame state becomes `st`, with the defects that state has: OOF is present in SEARCH (Table 6.3). -/
def State.fstate (i st : Nat) (s : State) : State :=
  let s := (s.setFld F.LFM_SC_STATUS_FSTATE st i).setFlag F.LFM_SC_STATUS_OOF (st == 1) i
  s.when (st == 1) (State.pmFlag i 8)

/-- What ends when a subcarrier leaves frame: the decoder (R101), the hypotheses, the running header and overhead state,
and OOM. SCID_MIS stays until three valid headers clear it (R120). That OOM clears here and at IM entry is the model's
choice: the spec does not say when it clears. DESIGN CHOICE, unsafe (log 69). -/
def State.leaveFrame (i : Nat) (s : State) : State :=
  let s := (((s.setFlag F.LFM_SC_STATUS_OOM false i).setFlag F.LFM_SC_STATUS_JC_LOCK false i).setFld
    F.LFM_SC_STATUS_HYP 0 i).decStop i
  s.modSc i fun x => { x with hyps := [], qual := [], awFail := 0, lastFn := none, wrongFn := 0, noHdr := 0,
                              scidBad := 0
                              scidOk := 0, jcPrev := none, jcRun := none, jcDis := 0, payDrop := false, descs := []
                              lastDesc := none, rei := [], reiGot := false, msi := { x.msi with buf := [] } }

/-- NOSIG follows LOCKED (Table 6.3); in an OIF mode the page stays in NOSIG (R149). -/
def State.sigEval (i : Nat) (s : State) : State :=
  let sig := s.scLocked i && s.rxMode (scCar i) == 0
  let st := s.fld F.LFM_SC_STATUS_FSTATE i
  if sig && st == 0 then s.fstate i 1
  else if !sig && st != 0 then (s.leaveFrame i).fstate i 0
  else s

/-- The defects of Table 6.14 that put subcarrier `i` into signal fail. -/
def State.sfCond (s : State) (i : Nat) : Bool :=
  let c := scCar i
  s.scIn i && (s.fld F.LFM_SC_STATUS_FSTATE i ≤ 1 || s.flag F.LFM_SC_STATUS_LOF i || s.flag F.LFM_SC_STATUS_OOM i ||
    s.flag F.LFM_SC_STATUS_SCID_MIS i || s.flag F.SCX_FEC_STATUS_UNC_DEFECT i ||
    (s.flag F.LFM_CA_STATUS_TIM c && s.flag F.LFM_CA_CFG_TIM_ACT c))

/-- SF brought up to date, with its events and the second's NE_DEF. -/
def State.sfEval (i : Nat) (s : State) : State :=
  let sf := s.sfCond i
  let old := s.flag F.LFM_SC_STATUS_SF i
  let s := s.when sf (State.pmFlag i 1)
  if sf == old then s
  else (s.setFlag F.LFM_SC_STATUS_SF sf i).raise (if sf then F.LFM_SC_EVT_SF_SET else F.LFM_SC_EVT_SF_CLR) i

/-- The source subcarrier of R127: in service, in IM, not in signal fail; 0xF with none. -/
def State.srcOf (s : State) (c : Nat) : Nat :=
  ((List.range 8).find? fun k =>
    let i := 8 * c + k
    s.scIn i && s.fld F.LFM_SC_STATUS_FSTATE i == 3 && !s.flag F.LFM_SC_STATUS_SF i).getD 15

/-- SRC brought up to date; a change restarts the carrier-wide filters (R127). -/
def State.srcEval (c : Nat) (s : State) : State :=
  let src := s.srcOf c
  if src = s.fld F.LFM_CA_STATUS_SRC c then s
  else (s.setFld F.LFM_CA_STATUS_SRC src c).modCar c fun k =>
    { k with rdiF := ⟨0, 0⟩, mapF := ⟨0, 0⟩, srF := ⟨0, 0⟩, tti := ⟨[], k.tti.last, 0⟩ }

/-- The pilot search, the line frame and the sequence of a carrier brought up to date after any change of its receiver
or its defects. -/
def State.lineEval (c : Nat) (s : State) : State :=
  let s := s.searchEval c
  let s := s.when (s.domOn 6) fun s => ((s.each (scsOf c) State.sigEval).each (scsOf c) State.sfEval).srcEval c
  (s.acqCheck c).when (s.domOn 6) State.grpsEval

/-! ## Alignment search -/

/-- A candidate or hypothesis checked in SEARCH (R117): `errs` of the 64 symbols disagree. -/
def State.hypCheck (i pos errs : Nat) (s : State) : State :=
  let x := s.sc i
  let hit := errs ≤ 6
  let hyps := match Tab.look pos x.hyps with
    | some n => if hit then (pos, n + 1) :: x.hyps.filter (fun h => h.1 ≠ pos) else x.hyps.filter (fun h => h.1 ≠ pos)
    | none => if hit && x.hyps.length < 8 then (pos, 1) :: x.hyps else x.hyps
  let qual := if Tab.look pos hyps = some 3 then pos :: x.qual else x.qual.filter fun p => hit || p ≠ pos
  (s.modSc i fun x => { x with hyps := hyps, qual := qual }).setFld F.LFM_SC_STATUS_HYP hyps.length i

/-- HYPOTHESIS_CHECK (R117). -/
def execHypothesisCheck (sc pos errs : Nat) (s : State) : Host.Outcome State Fault Refusal :=
  .next (if s.domOn 6 && sc < 16 && pos < 256 &&
      s.fld F.LFM_SC_STATUS_FSTATE sc == 1 then s.hypCheck sc pos errs else s)

/-- The end of a search interval (R118): one qualification declares in-frame, two or more discard all. That HYP shows 0
once in frame is the model's choice: the spec does not say whether the qualified hypothesis still counts.
DESIGN CHOICE, unsafe (log 68). -/
def State.searchEnd (i : Nat) (s : State) : State :=
  match (s.sc i).qual with
  | [] => s
  | [p] =>
    (((s.modSc i fun x => { x with pos := p, hyps := [], qual := [], awFail := 0 }).setFld F.LFM_SC_STATUS_HYP 0
      i).fstate i 2).lineEval (scCar i)
  | _ =>
    (((s.modSc i fun x => { x with hyps := [], qual := [] }).setFld F.LFM_SC_STATUS_HYP 0 i).bump
      (R .LFM_ALIAS_CNT i)).raise F.LFM_SC_EVT_ALIAS i

/-- SEARCH_INTERVAL (R118). -/
def execSearchInterval (sc : Nat) (s : State) : Host.Outcome State Fault Refusal :=
  .next (if s.domOn 6 && s.fld F.LFM_SC_STATUS_FSTATE sc == 1 then s.searchEnd sc else s)

/-! ## Header -/

/-- The descriptor of four bytes, by FN mod 4 (Table 6.5), as a profile word. -/
def descWord (b0 b1 b2 b3 : Nat) : W32 :=
  F.CAX_TX_NEXT_MODE.put (b0 / 32) (F.CAX_TX_NEXT_SLOTS.put (b0 / 2 % 16) (F.CAX_TX_NEXT_RATE.put (b1 * 16 + b2 / 16)
    (F.CAX_TX_NEXT_EXPRESS.put b3 0)))

/-- The complete descriptor among the bytes of one multiframe with one PEND and one COUNT (R123). -/
def descOf (l : List DescByte) (pend : Bool) (count : Nat) : Option W32 :=
  let m := l.filter fun d => d.pend == pend && d.count == count
  match m.find? (·.pos = 0), m.find? (·.pos = 1), m.find? (·.pos = 2), m.find? (·.pos = 3) with
  | some a, some b, some c, some d => some (descWord a.byte b.byte c.byte d.byte)
  | _, _, _, _ => none

/-- A complete descriptor with PEND = 1 arms a receiver with FOLLOW = 1, one with PEND = 0 disarms it (R46, R123); an
unusable one counts as not read (R124). -/
def State.descSeen (i : Nat) (pend : Bool) (count : Nat) (w : W32) (s : State) : State :=
  let c := scCar i
  if profCode w ≠ 0 then s.raise F.LFM_SC_EVT_DESC_BAD i
  else if pend then
    s.when (s.flag F.CAX_CHG_CTRL_FOLLOW c) fun s => s.modCar c fun k => { k with armed := some (w, count) }
  else s.modCar c fun k => { k with armed := none }

/-- A descriptor byte of a valid header in IM. -/
def State.descByte (i fn : Nat) (h : Header) (s : State) : State :=
  let d : DescByte := ⟨fn % 4, h.desc, h.pend, h.count⟩
  let l := d :: (s.sc i).descs.filter fun e => e.pos ≠ d.pos
  let s := s.modSc i fun x => { x with descs := l }
  match descOf l h.pend h.count with
  | some w => if (s.sc i).descs.length = 4 then s.descSeen i h.pend h.count w else s
  | none => s

/-- A persistence filter fed a value; accepted at the third in a row. -/
def Filt.feed (v : Nat) (f : Filt) : Filt := if f.val = v then ⟨v, min (f.n + 1) 3⟩ else ⟨v, 1⟩

/-- RDI_C of a valid header of the source subcarrier (R129); its acceptance as 0 ends the hold of R49. -/
def State.rdiHdr (c : Nat) (v : Bool) (s : State) : State :=
  let f := (s.car c).rdiF.feed (bit v)
  let s := s.modCar c fun k => { k with rdiF := f }
  if f.n < 3 || v == s.flag F.LFM_CA_STATUS_RDI_C_RX c then s
  else
    let s := s.setFlag F.LFM_CA_STATUS_RDI_C_RX v c
    if v then ((s.raise F.LFM_CA_EVT_RDI_SET c).each (scsOf c) fun i s => s.pmFlag i 2).holds
    else ((s.raise F.LFM_CA_EVT_RDI_CLR c).holdEnd c).holds

/-- The runs of SCID_MIS (R120): `ok` for a valid header, `bad` for one that is valid but for its SCID. Three headers
with the wrong SCID count in consecutive frames; the valid headers that clear it need only be consecutive among headers,
so a frame without one stops the first run and not the second. DESIGN CHOICE, unsafe (log 69). -/
def State.scidRun (i : Nat) (ok bad : Bool) (s : State) : State :=
  let x := s.sc i
  let b := if bad then x.scidBad + 1 else 0
  let o := if ok then x.scidOk + 1 else if bad then 0 else x.scidOk
  let s := s.modSc i fun x => { x with scidBad := min b 3, scidOk := min o 3 }
  if 3 ≤ b then s.setFlag F.LFM_SC_STATUS_SCID_MIS true i
  else if 3 ≤ o then s.setFlag F.LFM_SC_STATUS_SCID_MIS false i
  else s

/-- Out of multiframe (R120). -/
def State.oom (i : Nat) (s : State) : State :=
  (((s.setFlag F.LFM_SC_STATUS_OOM true i).raise F.LFM_SC_EVT_OOM i).modSc i fun x =>
    { x with wrongFn := 0, noHdr := 0, lastFn := none, descs := [], msi := { x.msi with buf := [] } }).fstate i 2

/-- The header of a frame in IF: two consecutive frames with valid headers and successive FN enter IM; 512 frames
without a valid header declare OOM (R120). That OOM clears here is the model's choice. DESIGN CHOICE, unsafe (log 69).
-/
def State.hdrIf (i : Nat) (h : Option Header) (s : State) : State :=
  match h with
  | none =>
    let s := s.modSc i fun x => { x with lastFn := none, noHdr := x.noHdr + 1 }
    s.when (decide (512 ≤ (s.sc i).noHdr)) (State.oom i)
  | some h =>
    let s := s.modSc i fun x => { x with noHdr := 0 }
    if (s.sc i).lastFn = some ((h.fn + 255) % 256) then
      ((((s.fstate i 3).setFld F.LFM_SC_STATUS_FN h.fn i).setFlag F.LFM_SC_STATUS_OOM false i).raise
        F.LFM_SC_EVT_IM_ENTER i).modSc i fun x => { x with wrongFn := 0, noHdr := 0, lastFn := none, descs := [] }
    else s.modSc i fun x => { x with lastFn := some h.fn }

/-- The header of a frame in IM, where the line frame keeps FN itself. A valid header counts for RDI_C whatever its FN
(R129). -/
def State.hdrIm (i : Nat) (h : Option Header) (s : State) : State :=
  let fn := (s.fld F.LFM_SC_STATUS_FN i + 1) % 256
  let s := (s.setFld F.LFM_SC_STATUS_FN fn i).count 0x047 i 1
  match h with
  | none =>
    let s := s.modSc i fun x => { x with noHdr := x.noHdr + 1 }
    s.when (decide (512 ≤ (s.sc i).noHdr)) (State.oom i)
  | some h =>
    let s := s.modSc i fun x => { x with noHdr := 0, wrongFn := if h.fn = fn then 0 else x.wrongFn + 1 }
    let s := s.when (s.fld F.LFM_CA_STATUS_SRC (scCar i) == i % 8) (State.rdiHdr (scCar i) h.rdi)
    if 5 ≤ (s.sc i).wrongFn then s.oom i else if h.fn = fn then s.descByte i fn h else s

/-! ## Coded overhead -/

/-- The running count and agreement of JC for one frame (R121), `jc` the accepted value; the payload of a frame whose JC
disagrees is discarded. -/
def State.jcFrame (i : Nat) (jc : Option Nat) (s : State) : State :=
  let rate := max (pRate (s.car (scCar i)).rxForce) 1
  let x := s.sc i
  let next (n : Nat) : Nat := (n + 1) % rate
  match x.jcRun, jc with
  | some r, some v =>
    let d := if v = next r then 0 else x.jcDis + 1
    s.modSc i fun x => { x with
      jcRun := some (if 3 ≤ d then v else next r), jcDis := if 3 ≤ d then 0 else d, payDrop := decide (v ≠ next r) }
  | some r, none => s.modSc i fun x => { x with jcRun := some (next r), payDrop := false }
  | none, some v =>
    if x.jcPrev.map next = some v then
      (s.modSc i fun x => { x with jcRun := some v, jcPrev := none, jcDis := 0 }).setFlag F.LFM_SC_STATUS_JC_LOCK true i
    else s.modSc i fun x => { x with jcPrev := some v }
  | none, none => s.modSc i fun x => { x with jcPrev := x.jcPrev.map next }

/-- A 64-byte field fed its byte number `k` (R134): a copy with a byte missing never completes. -/
def Copy64.feed (k : Nat) (b : Byte) (f : Copy64) : Copy64 :=
  let buf := if k = 0 then [b] else if f.buf.length = k then f.buf ++ [b] else []
  if buf.length = 64 then ⟨[], buf, if f.n = 0 then 1 else if f.last = buf then min (f.n + 1) 3 else 1⟩
  else ⟨buf, f.last, f.n⟩

/-- Word `w` of a 64-byte field held least significant byte first (TTI registers). -/
def leWord (l : List Byte) (w : Nat) : W32 :=
  BitVec.ofNat 32 ((l.getD (4 * w) 0).toNat + 256 * (l.getD (4 * w + 1) 0).toNat + 65536 * (l.getD (4 * w +
      2) 0).toNat +
    16777216 * (l.getD (4 * w + 3) 0).toNat)

/-- TIM from the accepted trace and the expected one (R134). -/
def State.timEval (c : Nat) (s : State) : State :=
  let n := match s.fld F.LFM_CA_CFG_TIM_MODE c with
    | 0 => 0
    | 1 => 8
    | _ => 16
  let tim := s.flag F.LFM_CA_STATUS_TTI_VALID c &&
    (List.range n).any fun w => s.rd (R .LFM_TTI_ACC c w) != s.rd (R .LFM_TTI_EXP c w)
  if tim == s.flag F.LFM_CA_STATUS_TIM c then s
  else (s.setFlag F.LFM_CA_STATUS_TIM tim c).raise (if tim then F.LFM_CA_EVT_TIM_SET else F.LFM_CA_EVT_TIM_CLR) c

/-- The trace byte of an accepted overhead of the source subcarrier (R134). -/
def State.ttiByte (c fn : Nat) (b : Byte) (s : State) : State :=
  let f := (s.car c).tti.feed (fn % 64) b
  let s := s.modCar c fun k => { k with tti := f }
  if fn % 64 = 63 && 3 ≤ f.n && f.buf.isEmpty then
    let same := s.flag F.LFM_CA_STATUS_TTI_VALID c &&
      (List.range 16).all fun w => s.rd (R .LFM_TTI_ACC c w) == leWord f.last w
    if same then s
    else
      ((s.upto 16 fun w s => s.wr (R .LFM_TTI_ACC c w) (leWord f.last w)).setFlag F.LFM_CA_STATUS_TTI_VALID true
        c).raise F.LFM_CA_EVT_TTI_CHANGE c |>.timEval c
  else s

/-- The REQ codes of Table 6.9. -/
def reqListed (sr : Nat) : Bool := [0x0, 0x1, 0x2, 0x4, 0x5, 0x7, 0x9, 0xB, 0xD, 0xE, 0xF].contains (sr / 4096)

/-- The carrier-wide fields of an accepted overhead of the source subcarrier (R129, R133, R134). -/
def State.ovhCarrier (c fn : Nat) (o : Overhead) (s : State) : State :=
  let mf := (s.car c).mapF.feed o.rdiMap
  let sf := (s.car c).srF.feed o.sr
  let s := s.modCar c fun k => { k with mapF := mf, srF := sf }
  let s := s.when (3 ≤ mf.n) fun s =>
    (s.setFld F.LFM_CA_STATUS_RDI_MAP_RX o.rdiMap c).each (scsOf c) fun i s =>
      s.when (o.rdiMap / 2 ^ (i % 8) % 2 == 1) (State.pmFlag i 2)
  let s := s.when (3 ≤ sf.n && (!s.flag F.LFM_SR_RX_VALID c || s.fld F.LFM_SR_RX_SR c != o.sr)) fun s =>
    ((s.wr (R .LFM_SR_RX c) (F.LFM_SR_RX_SR.put o.sr (F.LFM_SR_RX_VALID.put 1 0))).setFlag F.LFM_SR_RX_UNLISTED
      (!reqListed o.sr) c).raise F.LFM_CA_EVT_SR_CHANGE c
  s.ttiByte c fn o.tti

/-- Entry `e` of an accepted MSI as MSI_RX shows it (Table 6.10, R139). -/
def msiWord (l : List Byte) (e : Nat) : W32 :=
  let b (k : Nat) : Nat := (l.getD (4 * e + k) 0).toNat
  F.LFM_MSI_RX_VALID.put (b 0 / 128) (F.LFM_MSI_RX_ENC.put (b 0 / 64) (F.LFM_MSI_RX_GID.put (b 0 % 16 * 256 + b 1)
    (F.LFM_MSI_RX_MSN.put (b 3) 0)))

/-- The slots in MSIM brought up to date with the accepted MSI and the map in force; entries raise the event (R139). -/
def State.msimEval (i : Nat) (s : State) : State :=
  let bad := (List.range 10).filter fun e => !msiMatch (s.rd (R .LFM_MSI_RX i e)) ((s.sc i).mapRx.getD e 0)
  let new := bad.any fun e => !(s.sc i).msim.contains e
  (s.modSc i fun x => { x with msim := bad }).when new fun s => s.raise F.LFM_SC_EVT_MSIM i

/-- The multiplex-structure byte of an accepted overhead (R139). -/
def State.msiByte (i fn : Nat) (b : Byte) (s : State) : State :=
  let f := (s.sc i).msi.feed (fn % 64) b
  let s := s.modSc i fun x => { x with msi := f }
  if fn % 64 = 63 && 3 ≤ f.n && f.buf.isEmpty then
    (s.upto 10 fun e s => s.wr (R .LFM_MSI_RX i e) (msiWord f.last e)).msimEval i
  else s

/-- A remote error record accepted (R131). -/
def State.reiAccept (i seq nmf corr unc : Nat) (s : State) : State :=
  let x := s.sc i
  if x.reiSeq = some seq then s.modSc i fun x => { x with reiGot := true }
  else
    let gap := match x.reiSeq with
      | some p => seq != (p + 1) % 256
      | none => false
    ((s.modSc i fun x => { x with reiSeq := some seq, reiGot := true }).pmAdd i fun a => { a with
      feCorr := a.feCorr + corr, feUnc := a.feUnc + unc, feMf := min (a.feMf + nmf) 0xFFFF
      flags := if gap then a.flags ||| 4 else a.flags }).when gap fun s => s.raise F.LFM_SC_EVT_FE_GAP i

/-- A part of the remote error record (Table 6.7): once all four of the multiframe are held, the record is accepted. -/
def State.reiPart (i fn : Nat) (p : Byte × Byte) (s : State) : State :=
  let l := (fn % 4, p.1, p.2) :: (s.sc i).rei.filter fun e => e.1 ≠ fn % 4
  let s := s.modSc i fun x => { x with rei := l }
  match l.find? (·.1 = 0), l.find? (·.1 = 1), l.find? (·.1 = 2), l.find? (·.1 = 3) with
  | some (_, sq, n), some (_, u1, u0), some (_, c2, c1), some (_, c0, _) =>
    s.reiAccept i sq.toNat (n.toNat / 16) (c2.toNat * 65536 + c1.toNat * 256 + c0.toNat) (u1.toNat * 256 + u0.toNat)
  | _, _, _, _ => s

/-- The MCC bytes of a frame into the carrier's 4 KB receive ring, with an error flag where they were discarded; a full
ring takes none (R136). -/
def State.mccIn (i : Nat) (p : Byte × Byte) (err : Bool) (s : State) : State :=
  let c := scCar i
  let l := s.mccRx.get [] c
  if s.flag F.LFM_SC_CFG_MCC_EN i && l.length + 2 ≤ 4096 then
    { s with mccRx := s.mccRx.set [] c (l ++ [(p.1, err), (p.2, err)]) }
  else s

/-- Segment `k` of frame `fn` of subcarrier `i` is marked errored (R104): by an uncorrectable codeword, or because no
decoder has delivered it (R101). -/
def State.segMarked (s : State) (i fn k : Nat) : Bool := !(s.sc i).live || (s.sc i).marks.contains (fn, k)

/-- The time message's bytes of frame `fn`, from the source subcarrier (R135): collected from FN 0 on, and lost for the
whole multiframe where one frame's are discarded. -/
def State.ttmByte (c fn : Nat) (p : Option (Byte × Byte)) (s : State) : State :=
  s.modCar c fun k =>
    let k := if fn = 0 then { k with ttm := [], ttmBad := false } else k
    match p with
    | some p => { k with ttm := k.ttm ++ [(fn, p)] }
    | none => { k with ttmBad := true }

/-- The coded overhead of a frame in IM (R126): `none` where its bytes lie in an errored segment, when it is discarded
whole, and a copy of the trace or of the multiplex structure under collection stays incomplete (R134). -/
def State.ovhFrame (i : Nat) (o : Option Overhead) (s : State) : State :=
  let fn := s.fld F.LFM_SC_STATUS_FN i
  let o := if s.segMarked i fn 0 then none else o
  let s := s.jcFrame i (o.map (·.jc))
  let src := s.fld F.LFM_CA_STATUS_SRC (scCar i) == i % 8
  let s := s.when src (State.ttmByte (scCar i) fn (o.map (·.ttm)))
  match o with
  | none =>
    let w := Config.freeWord s.free
    let s := s.modSc i fun x => { x with msi := { x.msi with buf := [] } }
    let s := s.when src fun s => s.modCar (scCar i) fun k => { k with tti := { k.tti with buf := [] } }
    s.useFree.mccIn i (w.extractLsb' 0 8, w.extractLsb' 8 8) true
  | some o =>
    let s := s.when src (State.ovhCarrier (scCar i) fn o)
    (((s.msiByte i fn o.msi).reiPart i fn o.rei).mccIn i o.mcc false)

/-- The frame boundary of subcarrier `i` as the decoder sees it: the first one in frame lets codewords begin (R83,
R100), one frame of a crossover is over (R103), and the marks of all frames but the last two have travelled on (R104).
-/
def State.frameDec (i : Nat) (s : State) : State :=
  let fn := s.fld F.LFM_SC_STATUS_FN i
  let s := s.modSc i fun x => { x with
    decFrom := some (x.decFrom.getD s.us), xover := x.xover - 1
    marks := x.marks.filter fun m => m.1 == fn || m.1 == (fn + 255) % 256 || m.1 == (fn + 1) % 256 }
  s.when ((s.sc i).xover == 0 && s.flag F.SCX_FEC_STATUS_XOVER i) fun s => s.setFlag F.SCX_FEC_STATUS_XOVER false i

/-! ## A received frame -/

/-- A failed match of the alignment word (R119); the fifth in a row declares OOF, and the old position is a hypothesis
with a count of 0. -/
def State.oofDeclare (i : Nat) (s : State) : State :=
  let pos := (s.sc i).pos
  ((((((s.leaveFrame i).bump (R .LFM_OOF_CNT i)).raise F.LFM_SC_EVT_OOF i).modSc i fun x =>
    { x with hyps := [(pos, 0)] }).setFld F.LFM_SC_STATUS_HYP 1 i).fstate i 1)

/-- A received frame of a subcarrier in frame (R119 to R121, R126): `errs` of the 64 alignment symbols disagree, `hdr`
is the header whose CRC checks, `ovh` the coded overhead outside errored segments. -/
def State.frameRx (i errs : Nat) (hdr : Option Header) (ovh : Option Overhead) (s : State) : State :=
  let h := hdr.filter fun h => decide (h.count ≤ 16)
  let good := h.filter fun h => h.scid == i % 8
  let s := s.scidRun i good.isSome (h.isSome && good.isNone)
  let im := s.fld F.LFM_SC_STATUS_FSTATE i == 3
  let s := if im then s.hdrIm i good else s.hdrIf i good
  let s := if s.fld F.LFM_SC_STATUS_FSTATE i == 3 then s.ovhFrame i ovh else s.jcFrame i none
  let s := s.frameDec i
  let n := if 6 < errs then (s.sc i).awFail + 1 else 0
  let s := s.modSc i fun x => { x with awFail := n }
  (s.when (5 ≤ n) (State.oofDeclare i)).lineEval (scCar i)

/-- A frame of an OIF signal (R71): the carrier's framing under the agreement is in alignment while its alignment word
is found, here with at most 6 of 64 symbols in error as in native mode, which the agreement and not the spec decides.
The decoder of slice SC0 may begin with it. DESIGN CHOICE, unsafe (log 64). -/
def State.oifFrame (c errs : Nat) (s : State) : State :=
  let ok := decide (errs ≤ 6)
  let s := s.modCar c fun k => { k with oifAlign := ok }
  (if ok then s.modSc (8 * c) fun x => { x with decFrom := some (x.decFrom.getD s.us) } else s.decStop (8 * c)).lineEval c

/-- FRAME_RX (R119); in an OIF mode the frames are those of the agreement, reported through slice SC0 (R71). -/
def execFrameRx (sc errs : Nat) (hdr : Option Header) (ovh : Option Overhead) (s : State) :
    Host.Outcome State Fault Refusal :=
  .next (if s.rxMode (scCar sc) != 0 then
      if s.carOn (scCar sc) && sc % 8 == 0 && s.fld F.CAX_RX_STATUS_SC_LOCKED (scCar sc) != 0 then
        s.oifFrame (scCar sc) errs
      else s
    else if s.domOn 6 && sc < 16 && 2 ≤ s.fld F.LFM_SC_STATUS_FSTATE sc then s.frameRx sc errs hdr ovh
    else s)

/-- LOF_SET (R121): the subcarrier has been in NOSIG or SEARCH for 3 ms. -/
def execLofSet (sc : Nat) (s : State) : Host.Outcome State Fault Refusal :=
  .next (if s.domOn 6 && sc < 16 && s.fld F.LFM_SC_STATUS_FSTATE sc ≤ 1 then
    ((s.setFlag F.LFM_SC_STATUS_LOF true sc).raise F.LFM_SC_EVT_LOF_SET sc).lineEval (scCar sc)
  else s)

/-- LOF_CLR (R121): the subcarrier has been in IF or IM for 3 ms. -/
def execLofClr (sc : Nat) (s : State) : Host.Outcome State Fault Refusal :=
  .next (if s.domOn 6 && 2 ≤ s.fld F.LFM_SC_STATUS_FSTATE sc && s.flag F.LFM_SC_STATUS_LOF sc then
    ((s.setFlag F.LFM_SC_STATUS_LOF false sc).raise F.LFM_SC_EVT_LOF_CLR sc).lineEval (scCar sc)
  else s)

/-! ## A transmitted frame -/

/-- RDI_C to be sent (R128). -/
def State.rdiOut (s : State) (c : Nat) : Bool :=
  s.fld F.CAX_RX_STATUS_RXSTATE c != 2 || (scsOf c).any (fun i => s.scIn i && s.flag F.LFM_SC_STATUS_SF i) ||
    s.flag F.LFM_CA_CFG_RDI_FORCE c

/-- RDI_MAP to be sent (R128). -/
def State.mapOut (s : State) (c : Nat) : Nat :=
  ((List.range 8).map fun k => if s.flag F.LFM_SC_STATUS_SF (8 * c + k) then 2 ^ k else 0).sum

/-- Byte number `j` of the MSI sent for a map in force (Table 6.10). -/
def msiOut (m : List W32) (j : Nat) : Byte :=
  let e := m.getD (j / 4) 0
  if 40 ≤ j || !mapValid e then 0
  else match j % 4 with
    | 0 => BitVec.ofNat 8 (128 + 64 * F.LFM_SLOT_MAP_TX_ENC.get e + mapGid e / 256)
    | 1 => BitVec.ofNat 8 (mapGid e)
    | 3 => BitVec.ofNat 8 (mapMsn e)
    | _ => 0

/-- The remote error record's bytes 7 and 8 in a frame (Table 6.7). -/
def reiOut (x : Sc) (fn : Nat) : Byte × Byte :=
  match fn % 4 with
  | 0 => (BitVec.ofNat 8 x.seq, BitVec.ofNat 8 (min x.sent.nmf 15 * 16))
  | 1 => let u := min x.sent.unc 0xFFFF; (BitVec.ofNat 8 (u / 256), BitVec.ofNat 8 u)
  | 2 => let n := min x.sent.corr 0xFFFFFF; (BitVec.ofNat 8 (n / 65536), BitVec.ofNat 8 (n / 256))
  | _ => (BitVec.ofNat 8 (min x.sent.corr 0xFFFFFF), 0)

/-- The header and overhead subcarrier `k` sends in the frame that starts now (Tables 6.4 to 6.7, R123, R128, R132,
R134, R135, R139), with the MCC bytes `mcc`. -/
def State.ovhOut (s : State) (c k : Nat) (mcc : Byte × Byte) : Header × Overhead :=
  let car := s.car c
  let pend := s.fld F.CAX_CHG_STATUS_STATE c == 1 && car.onLine
  let w := if pend then car.latched else s.rd (R .CAX_TX_PROFILE c)
  let d := match car.fn % 4 with
    | 0 => pMode w * 32 + pSlots w * 2
    | 1 => pRate w / 16
    | 2 => pRate w % 16 * 16
    | _ => pExp w
  let j := car.fn % 64
  let x := s.sc (8 * c + k)
  ({ fn := car.fn, pend := pend, count := if pend then s.fld F.CAX_CHG_STATUS_COUNT c else 0, desc := d
     rdi := s.flag F.LFM_CA_STATUS_RDI_C_TX c, scid := k },
   { rdiMap := s.fld F.LFM_CA_STATUS_RDI_MAP_TX c, jc := car.jc, sr := s.rdN (R .LFM_SR_TX c)
     tti := (s.rd (R .LFM_TTI_TX c (j / 4))).extractLsb' (8 * (j % 4)) 8, msi := msiOut x.mapTx j
     rei := reiOut x car.fn, ttm := (car.ttmOut.getD (2 * car.fn) 0, car.ttmOut.getD (2 * car.fn + 1) 0), mcc := mcc })

/-- The MCC bytes of subcarrier `k`: zeros with MCC_EN = 0, the next two of the ring, 0x7E from an empty ring (R136). -/
def State.mccOut (c k : Nat) (s : State) : (Byte × Byte) × State :=
  if !s.flag F.LFM_SC_CFG_MCC_EN (8 * c + k) then ((0, 0), s)
  else
    let l := s.mccTx.get [] c
    ((l.getD 0 0x7E, l.getD 1 0x7E), { s with mccTx := s.mccTx.set [] c (l.drop 2) })

/-- The frames of the subcarriers below `n`, in ascending k. -/
def State.framesOut (c : Nat) : Nat → State → List (Header × Overhead) × State
  | 0, s => ([], s)
  | n + 1, s =>
    let (l, s) := State.framesOut c n s
    let (m, s) := s.mccOut c n
    (l ++ [s.ovhOut c n m], s)

/-- A transmitted frame (R115, R128): the RDI fields take the receiver's state, the frame goes out, FN and JC advance. A
change of what is sent makes a DEFECT Postcard pending (R302). -/
def State.frameTx (c : Nat) (s : State) : State :=
  let s := s.segInj c
  let r := s.rdiOut c
  let m := s.mapOut c
  let ch := r != s.flag F.LFM_CA_STATUS_RDI_C_TX c || m != s.fld F.LFM_CA_STATUS_RDI_MAP_TX c
  let s := ((s.setFlag F.LFM_CA_STATUS_RDI_C_TX r c).setFld F.LFM_CA_STATUS_RDI_MAP_TX m c).when ch (State.pccPend c 2)
  let (l, s) := s.framesOut c 8
  let rate := max (pRate (s.rd (R .CAX_TX_PROFILE c))) 1
  s.modCar c fun k => { k with out := l, fn := (k.fn + 1) % 256, jc := (k.jc + 1) % rate }

/-- FRAME_TX (R128). -/
def execFrameTx (c : Nat) (s : State) : Host.Outcome State Fault Refusal :=
  .next (if s.carOn c && s.domOn 6 && pMode (s.rd (R .CAX_TX_PROFILE c)) == 0 &&
      (s.fld F.CAX_TX_STATUS_TXSTATE c == 3 || s.fld F.CAX_TX_STATUS_TXSTATE c == 4) then s.frameTx c else s)

end Sys2Proof.Machine
end

