-- ==== Sys2Proof/Machine/Maps.lean ====
section
/-! DEFINITION. The slot maps with their commits (R138) and the line frame's per-second counters (R146, R147). -/

namespace Sys2Proof.Machine

/-- The profile in force of a direction of a carrier. -/
def State.dirProf (s : State) (c : Nat) (tx : Bool) : W32 :=
  if tx then s.rd (R .CAX_TX_PROFILE c) else (s.car c).rxForce

/-- The map in force of a direction. -/
def Sc.map (x : Sc) (tx : Bool) : List W32 := if tx then x.mapTx else x.mapRx

/-- A GID appears with the same MSN twice in a list of entries. -/
def dupMember : List W32 → Bool
  | [] => false
  | e :: l => (mapValid e && l.any fun f => mapValid f && mapGid f == mapGid e && mapMsn f == mapMsn e) || dupMember l

/-- The copy of a direction that passed its check and awaits its boundary. -/
def Sc.passed (x : Sc) (tx : Bool) : Option (List W32) := if tx then x.passTx else x.passRx

/-- The copy of a direction that waits for STATE to return to IDLE. -/
def Sc.waits (x : Sc) (tx : Bool) : Option (List W32) := if tx then x.waitTx else x.waitRx

/-- The passed copy of a direction replaced. -/
def Sc.setPassed (tx : Bool) (l : Option (List W32)) (x : Sc) : Sc :=
  if tx then { x with passTx := l } else { x with passRx := l }

/-- The waiting copy of a direction replaced. -/
def Sc.setWaits (tx : Bool) (l : Option (List W32)) (x : Sc) : Sc :=
  if tx then { x with waitTx := l } else { x with waitRx := l }

/-- The map of a direction as it will stand: the copy that passed, else the map in force. -/
def Sc.mapNext (x : Sc) (tx : Bool) : List W32 := (x.passed tx).getD (x.map tx)

/-- A captured map passes its check on subcarrier `i` (R138, R149): its slots exist (R28), its groups are of the
subcarrier's class, and with the maps the other subcarriers run or are about to run no member appears twice. -/
def State.commitOk (s : State) (i : Nat) (tx : Bool) (l : List W32) : Bool :=
  let w := s.dirProf (scCar i) tx
  let exp := pExpBit w (i % 8)
  pMode w == 0 &&
  (List.range 10).all (fun e => !mapValid (l.getD e 0) || decide (e < pScSlots w (i % 8))) &&
  l.all (fun e => !mapValid e || F.LFM_SLOT_MAP_TX_HOME.get e != s.fuse.devId ||
    match s.homeOf (mapGid e) with
    | some g => s.flag F.LFM_GRP_CFG_EXPRESS g == exp
    | none => true) &&
  !dupMember (l ++ (((List.range 16).filter (· ≠ i)).flatMap fun j => (s.sc j).mapNext tx))

/-- PEND_TX or PEND_RX. -/
def pendFld (tx : Bool) : Fld := if tx then F.LFM_MAP_CTRL_PEND_TX else F.LFM_MAP_CTRL_PEND_RX

/-- A captured copy is checked: one that passes awaits the multiframe boundary, another is refused whole and leaves an
earlier copy that passed. -/
def State.commitCheck (i : Nat) (tx : Bool) (l : List W32) (s : State) : State :=
  if s.commitOk i tx l then
    (s.modSc i (Sc.setPassed tx (some l))).setFlag F.LFM_MAP_CTRL_REFUSED false i
  else s.setFlag F.LFM_MAP_CTRL_REFUSED true i

/-- A commit captures the shadow; it waits while a change is in progress (R138). -/
def State.commit (i : Nat) (tx : Bool) (s : State) : State :=
  let id := if tx then RegId.LFM_SLOT_MAP_TX else RegId.LFM_SLOT_MAP_RX
  let l := (List.range 10).map fun e => s.rd (R id i e)
  if s.fld F.CAX_CHG_STATUS_STATE (scCar i) = 0 then s.commitCheck i tx l
  else (s.modSc i (Sc.setWaits tx (some l))).setFlag (pendFld tx) true i

/-- A write of MAP_CTRL: COMMIT_TX and COMMIT_RX. -/
def State.mapCtrlWrite (i : Nat) (v : W32) (s : State) : State :=
  let s := s.when (F.LFM_MAP_CTRL_COMMIT_TX.get v == 1) (State.commit i true)
  s.when (F.LFM_MAP_CTRL_COMMIT_RX.get v == 1) (State.commit i false)

/-- COMMIT_TX (R138). -/
def execCommitTx (m : Master) (sc : Nat) (v : W32) (s : State) : Host.Outcome State Fault Refusal :=
  .next (s.guardW m (R .LFM_MAP_CTRL sc) v (State.mapCtrlWrite sc v))

/-- COMMIT_RX (R138). -/
def execCommitRx (m : Master) (sc : Nat) (v : W32) (s : State) : Host.Outcome State Fault Refusal :=
  .next (s.guardW m (R .LFM_MAP_CTRL sc) v (State.mapCtrlWrite sc v))

/-- The wait of subcarrier `i`'s commit ends with its check against the new profile. -/
def State.pendEnd (i : Nat) (tx : Bool) (l : List W32) (s : State) : State :=
  ((s.modSc i (Sc.setWaits tx none)).setFlag (pendFld tx) false i).commitCheck i tx l

/-- PENDING_COMMIT (R138): a waiting commit is checked once STATE is IDLE. -/
def execPendingCommit (sc : Nat) (tx : Bool) (s : State) : Host.Outcome State Fault Refusal :=
  .next (match (s.sc sc).waits tx with
    | some l => if s.domOn 6 && s.fld F.CAX_CHG_STATUS_STATE (scCar sc) == 0 then s.pendEnd sc tx l else s
    | none => s)

/-- The GIDs whose members differ between two maps. -/
def gidsChanged (a b : List W32) : List Nat :=
  (((List.range 10).filter fun e => a.getD e 0 != b.getD e 0).flatMap fun e =>
    ([a.getD e 0, b.getD e 0].filter mapValid).map mapGid).dedup

/-- A checked map comes into force at a multiframe boundary; a group whose membership changed leaves service and runs
bring-up again (R138). -/
def State.mapInForce (i : Nat) (tx : Bool) (l : List W32) (s : State) : State :=
  let gids := gidsChanged ((s.sc i).map tx) l
  let s := s.modSc i fun x => { (x.setPassed tx none) with mapTx := if tx then l else x.mapTx,
                                                           mapRx := if tx then x.mapRx else l }
  let s := s.when (!tx) (State.msimEval i)
  let s := s.each gids fun gid s =>
    match s.homeOf gid with
    | some g => if s.fld F.LFM_GRP_STATUS_STATE g ≤ 1 then s else s.grpLeave g 1
    | none => s
  s.grpsEval

/-- SLOT_MAP_IN_FORCE (R138). -/
def execSlotMapInForce (sc : Nat) (tx : Bool) (s : State) : Host.Outcome State Fault Refusal :=
  .next (match (s.sc sc).passed tx with
    | some l => if s.domOn 6 then s.mapInForce sc tx l else s
    | none => s)

/-- A write of SC_CFG (Table 6.17): MCC_EN, and TOT_CLR clears the four TOT counters together. -/
def State.scCfgWrite (i : Nat) (v : W32) (s : State) : State :=
  let s := s.plainWrite (R .LFM_SC_CFG i) v
  s.when (F.LFM_SC_CFG_TOT_CLR.get v == 1) fun s =>
    (((s.wr (R .LFM_TOT_NE_ES i) 0).wr (R .LFM_TOT_NE_SES i) 0).wr (R .LFM_TOT_FE_ES i) 0).wr (R .LFM_TOT_FE_SES i) 0

/-- LFM_TOT_CLR (R146). -/
def execLfmTotClr (m : Master) (sc : Nat) (v : W32) (s : State) : Host.Outcome State Fault Refusal :=
  .next (s.guardW m (R .LFM_SC_CFG sc) v (State.scCfgWrite sc v))

/-- A total raised by one where `b` holds. -/
def State.bumpIf (s : State) (b : Bool) (k : RegKey) : State := if b then s.bump k else s

/-- The levels that set a second's flags from its start on: SF, the accepted remote defects, OOF (R145, R147). -/
def State.pmLevels (s : State) (i : Nat) : Nat :=
  let c := scCar i
  bit (s.flag F.LFM_SC_STATUS_SF i) + 2 * bit (s.flag F.LFM_CA_STATUS_RDI_C_RX c ||
    s.fld F.LFM_CA_STATUS_RDI_MAP_RX c / 2 ^ (i % 8) % 2 == 1) + 8 * bit (s.flag F.LFM_SC_STATUS_OOF i)

/-- The latch of subcarrier `i`'s per-second counters and flags (R146, R147). What came after the second's end belongs
to the next one (R11), which begins with the levels as they stand. -/
def State.pmSc (i : Nat) (s : State) : State :=
  let x := (s.sc i).pmCur
  let f := x.flags ||| s.pmLevels i
  let fd := f / 2 % 2 == 1
  let nd := f % 2 == 1
  let oof := f / 8 % 2 == 1
  let th := s.rdN (R .LFM_SES_TH i)
  let nes := nd || decide (0 < x.unc)
  let nses := nd || decide (th ≤ x.unc)
  let fes := !nd && (fd || decide (0 < x.feUnc))
  let fses := !nd && (fd || decide (th ≤ x.feUnc))
  let flags := bit nd + 2 * bit fd + 4 * (f / 4 % 2) + 8 * bit oof + 16 * bit nes + 32 * bit nses + 64 * bit fes +
    128 * bit fses + 65536 * min x.feMf 0xFFFF
  let s := (((((s.wrN (R .LFM_PM_TAG i) s.secTag).wr64 (R .LFM_PM_NE_CORR_LO i) (R .LFM_PM_NE_CORR_HI i)
    (x.corr % 2 ^ 40)).wrN (R .LFM_PM_NE_UNC i) x.unc).wr64 (R .LFM_PM_FE_CORR_LO i) (R .LFM_PM_FE_CORR_HI i)
    (x.feCorr % 2 ^ 40)).wrN (R .LFM_PM_FE_UNC i) x.feUnc).wrN (R .LFM_PM_FLAGS i) flags
  let s := (((s.bumpIf nes (R .LFM_TOT_NE_ES i)).bumpIf nses (R .LFM_TOT_NE_SES i)).bumpIf fes
    (R .LFM_TOT_FE_ES i)).bumpIf fses (R .LFM_TOT_FE_SES i)
  let lv := s.pmLevels i
  s.modSc i fun x => { x with
    pmSec := s.sec, pmCur := { x.pmNext with flags := x.pmNext.flags ||| lv }, pmNext := PmAcc.zero }

/-- PM_LATCH (R146): every subcarrier whose direction runs native mode latches (R149). -/
def execPmLatch (s : State) : Host.Outcome State Fault Refusal :=
  .next (if s.domOn 6 then s.upto (8 * s.nCar) fun i s => if s.rxMode (scCar i) = 0 then s.pmSc i else s else s)

end Sys2Proof.Machine
end

