-- ==== Sys2Proof/Machine/Rx.lean ====
section
/-! DEFINITION. The receiver of a carrier (spec/04): its states, acquisition and relock sequences, loss and degradation,
stored state, and the receive side of the profiles (spec/02 R31, R32, R40, R46, R47). -/

namespace Sys2Proof.Machine

/-! ## Subcarrier states -/

/-- Every subcarrier of carrier `c` not HELD goes to IDLE. -/
def State.scsIdle (c : Nat) (s : State) : State :=
  s.each (scsOf c) fun i s => if s.fld F.SCX_RX_STATUS_SCSTATE i = 5 then s else s.scTo i 0

/-! ## Dispersion (R31, R32, R78) -/

/-- The dispersion estimate, in 0.125 ps/nm. -/
def State.cdNow (s : State) (c : Nat) : Int := signed 20 (s.fld F.CAX_RX_CD_EST_CD c)

/-- The bound of express step `k`, in 0.125 ps/nm (Table 2.5). -/
def stepBound (k : Nat) : Nat := 5440 * (k + 1)

/-- The step chosen at acquisition for a magnitude in 0.125 ps/nm (R32); 0 beyond 3,400 ps/nm. -/
def expStep (cd : Nat) : Nat :=
  if cd + 800 ≤ stepBound 1 then 1
  else if cd + 800 ≤ stepBound 2 then 2
  else if cd + 800 ≤ stepBound 3 then 3
  else if cd ≤ 27200 then 4 else 0

/-- Some subcarrier of the carrier is express on the receive side. -/
def State.anyExp (s : State) (c : Nat) : Bool := (scsOf c).any s.rxExp

/-- CD_VALID and CD_FINE clear, and EXP_CD_OUT with them (R31, R78). -/
def State.cdClear (c : Nat) (s : State) : State :=
  ((s.setFlag F.CAX_RX_CD_EST_CD_VALID false c).setFlag F.CAX_RX_CD_EST_CD_FINE false c).setFlag
    F.CAX_CHG_STATUS_EXP_CD_OUT false c

/-- The carrier's express subcarriers leave service when the dispersion is out of range (R31). -/
def State.expOut (c : Nat) (s : State) : State :=
  s.each (scsOf c) fun i s =>
    if s.rxExp i && s.fld F.SCX_RX_STATUS_SCSTATE i ≤ 3 then s.scTo i 4 else s

/-- Subcarriers in EXP_OUT come back to CONVERGE, with a filter step in force (R32). -/
def State.expBack (c : Nat) (s : State) : State :=
  let s := s.when (s.anyExp c && s.fld F.CAX_RX_CD_EST_EXP_STEP c == 0) fun s =>
    s.setFld F.CAX_RX_CD_EST_EXP_STEP (expStep (s.cdNow c).natAbs) c
  s.each (scsOf c) fun i s => if s.fld F.SCX_RX_STATUS_SCSTATE i = 4 then s.scTo i 1 else s

/-- A new dispersion estimate (R31, R78). In native mode it is compared with the express range while CD_VALID is 1. -/
def State.cdNew (c : Nat) (cd : Int) (s : State) : State :=
  let s := s.setFld F.CAX_RX_CD_EST_CD (unsigned 20 cd) c
  if !s.flag F.CAX_RX_CD_EST_CD_VALID c || s.rxMode c != 0 then s
  else if 27200 < cd.natAbs then
    (s.when (!s.flag F.CAX_CHG_STATUS_EXP_CD_OUT c) fun s =>
      (s.setFlag F.CAX_CHG_STATUS_EXP_CD_OUT true c).raise F.CAX_LINE_EVT_EXP_CD_RANGE c).expOut c
  else if cd.natAbs ≤ 26400 then (s.setFlag F.CAX_CHG_STATUS_EXP_CD_OUT false c).expBack c
  else s

/-! ## The sequences -/

/-- The receiver's state becomes `st` (Table 4.7); a DEFECT Postcard reports a change. Outside LOCKED an OIF signal is
not in alignment (R71). -/
def State.rxTo (c st : Nat) (s : State) : State :=
  if s.fld F.CAX_RX_STATUS_RXSTATE c = st then s
  else ((s.setFld F.CAX_RX_STATUS_RXSTATE st c).modCar c fun k =>
      { k with oifAlign := k.oifAlign && st == 2 }).pccPend c 2

/-- The digital gain, in 1/256, that brings a mean code to 32, from 0.5 to 8 (R73). -/
def digGain (rms : Nat) : Nat := max 128 (min 2048 (32 * 256 / max rms 1))

/-- A new mean RMS code, 0 to 127, and the digital gain that follows from it (R73). -/
def State.rmsNew (c rms : Nat) (s : State) : State :=
  (s.setFld F.CAX_RX_LOS_CFG_RMS (min rms 127) c).modCar c fun k => { k with gain := digGain (min rms 127) }

/-- The LOS threshold as it applies. -/
def State.losTh (s : State) (c : Nat) : Nat := max (s.fld F.CAX_RX_LOS_CFG_LOS_TH c) 1

/-- The locks of a sequence are gone, and the dispersion estimate's validity with them. -/
def State.locksClear (c : Nat) (s : State) : State :=
  (((s.setFlag F.CAX_RX_STATUS_FOFS_LOCK false c).setFlag F.CAX_RX_FOFS_FOFS_VALID false c).setFlag
    F.CAX_RX_STATUS_CLK_LOCK false c).cdClear c

/-- A snapshot that R88 lets a warm relock use: the newest kept, no older than STATE_AGE. -/
def State.snapOk (s : State) (c : Nat) : Option Snap :=
  (s.car c).snaps.head?.filter fun x => decide (x.age ≤ 1000 * max (s.fld F.CAX_RX_CTRL_STATE_AGE c) 1)

/-- STORE_VALID brought up to date (R88). -/
def State.storeEval (c : Nat) (s : State) : State := s.setFlag F.CAX_RX_STATUS_STORE_VALID (s.snapOk c).isSome c

/-- A trigger that leaves LOCKED keeps the newest snapshot taken at least 1 ms before (R88). -/
def State.keepSnap (c : Nat) (s : State) : State :=
  if s.fld F.CAX_RX_STATUS_RXSTATE c = 2 then
    (s.modCar c fun k => { k with snaps := (k.snaps.filter fun x => 1 ≤ x.age).take 1 }).storeEval c
  else (s.modCar c fun k => { k with snaps := k.snaps.take 1 }).storeEval c

/-- A cold acquisition starts from step 0 (R89). That ORIENT clears at the start of a sequence is the model's choice:
the spec does not say when it clears. DESIGN CHOICE, unsafe (log 65). -/
def State.coldStart (c : Nat) (s : State) : State :=
  ((((((s.locksClear c).rxTo c 1).setFld F.CAX_RX_STATUS_ACQ_STEP 0 c).setFlag F.CAX_RX_STATUS_ORIENT false c).setFld
    F.CAX_RX_CD_EST_EXP_STEP 0 c).bump (R .CAX_RX_ACQ_CNT c)).scsIdle c |>.modCar c fun k => { k with seq := .cold }

/-- A cold trigger: it acts in every state but OFF and LOS (R84, R93). -/
def State.coldTrigger (c : Nat) (s : State) : State :=
  let st := s.fld F.CAX_RX_STATUS_RXSTATE c
  if st = 0 || st = 4 then s else s.coldStart c

/-- A warm relock starts with STORE_VALID and RELOCK_EN set, a cold acquisition without (R91). It runs on the snapshot
that is valid at its start, whatever becomes of STORE_VALID after. DESIGN CHOICE, unsafe (log 65). -/
def State.warmStart (c : Nat) (s : State) : State :=
  if s.flag F.CAX_RX_STATUS_STORE_VALID c && s.flag F.CAX_RX_CTRL_RELOCK_EN c then
    (((((s.locksClear c).rxTo c 3).setFld F.CAX_RX_STATUS_ACQ_STEP 0 c).setFlag F.CAX_RX_STATUS_ORIENT false c).scsIdle
      c).modCar c fun k => { k with seq := .warm, relock := s.snapOk c }
  else s.coldStart c

/-- A warm trigger of a LOCKED carrier. -/
def State.warmTrigger (c : Nat) (s : State) : State := (s.keepSnap c).warmStart c

/-- The receiver goes to `st`, OFF or LOS, abandoning any sequence (R93). -/
def State.rxDown (c st : Nat) (s : State) : State :=
  (((((s.locksClear c).rxTo c st).setFld F.CAX_RX_STATUS_ACQ_STEP 15 c).setFlag F.CAX_RX_STATUS_SIG false c).scsIdle
    c).modCar c fun k => { k with seq := .none }

/-- The receiver enters LOS (R86). -/
def State.losEnter (c : Nat) (s : State) : State :=
  (((s.keepSnap c).rxDown c 4).raise F.CAX_RX_EVT_LOS c).bump (R .CAX_RX_LOS_CNT c)

/-- The receiver enters OFF (R79, R84, R88): the stored state is no longer valid, RX_CLK_OFS returns to 0, and no
subcarrier stays HELD. -/
def State.rxOff (c : Nat) (s : State) : State :=
  let s := (s.rxDown c 0).modCar c fun k => { k with snaps := [], mismatch := 0, rdDesc := none }
  ((s.each (scsOf c) fun i s => s.scTo i 0).storeEval c).wr (R .CAX_RX_CLK_OFS c) 0

/-- An OFF cause of Table 4.7 is present, or a Paddock test holds the carrier (R392). -/
def State.rxOffCause (s : State) (c : Nat) : Bool :=
  !s.flag F.CAX_RX_CTRL_RX_EN c || s.flag F.CAX_RX_STATUS_CFG c || s.asking (4 + c) || s.idleAsked (4 +
      c) (caxPage c) ||
    s.flag F.CAX_TX_STATUS_TEST c

/-- The receiver brought up to date with its OFF causes (R84, R93). It leaves OFF to ACQUIRE, or to LOS while its ADC
clock has failed, which outranks the cold trigger. -/
def State.rxEval (c : Nat) (s : State) : State :=
  if s.carOn c then
    let s := s.setFlag F.CAX_RX_STATUS_CFG (!bitOf (s.rd (R .DEV_CFG_APPLIED)) (4 + c)) c
    let st := s.fld F.CAX_RX_STATUS_RXSTATE c
    if s.rxOffCause c then if st = 0 then s else (s.rxOff c).lineEval c
    else if st = 0 then (if (s.car c).adcFault then s.losEnter c else s.coldStart c).lineEval c
    else s
  else s

/-- A failed cold step: ACQ_TIMEOUT, and the sequence starts again (R90). -/
def State.acqAgain (c : Nat) (s : State) : State := (s.raise F.CAX_RX_EVT_ACQ_TIMEOUT c).coldStart c

/-- A warm step misses its limit: acquisition goes on cold from the same step, what is complete staying so (R91). In
step 5 the stored taps and phase are discarded. -/
def State.fallBack (c : Nat) (s : State) : State :=
  let step := s.fld F.CAX_RX_STATUS_ACQ_STEP c
  let s := ((((s.raise F.CAX_RX_EVT_RELOCK_FAIL c).bump (R .CAX_RX_ACQ_CNT c)).rxTo c 1).modCar c fun k =>
    { k with seq := .cold })
  s.when (step == 4) fun s => s.each (scsOf c) fun i s => s.modSc i fun x => { x with eq := none }

/-- Step `n` of the running sequence is complete. -/
def State.stepDone (c n : Nat) (s : State) : State := s.setFld F.CAX_RX_STATUS_ACQ_STEP n c

/-- The frequency offset is found. -/
def State.fofsFound (c : Nat) (v : Int) (s : State) : State :=
  (((s.setFlag F.CAX_RX_STATUS_FOFS_LOCK true c).setFlag F.CAX_RX_FOFS_FOFS_VALID true c).setFld F.CAX_RX_FOFS_OFS
    (unsigned 16 v) c).stepDone c 2

/-- The dispersion is found: CD_VALID, the express step chosen afresh in a cold acquisition, kept or made larger in a
warm relock (R32, R91). -/
def State.cdFound (c : Nat) (v : Int) (s : State) : State :=
  let k := expStep v.natAbs
  let old := if (s.car c).seq = .warm then s.fld F.CAX_RX_CD_EST_EXP_STEP c else 0
  let s := s.setFlag F.CAX_RX_CD_EST_CD_VALID true c
  let s := s.setFld F.CAX_RX_CD_EST_EXP_STEP (if s.anyExp c then max k old else 0) c
  (s.cdNew c v).stepDone c 3

/-- Clock recovery is locked, and step 5 begins: the subcarriers start from their stored taps and phase in a warm
relock, from the default centre taps in a cold acquisition; the pilot search brings them up (R89, R91). -/
def State.clkFound (c : Nat) (v : Int) (s : State) : State :=
  let eqs := if (s.car c).seq = .warm then ((s.car c).relock.map Snap.eqs).getD [] else []
  let s := ((s.setFlag F.CAX_RX_STATUS_CLK_LOCK true c).wrN (R .CAX_RX_CLK_OFS c) (unsigned 32 v)).stepDone c 4
  s.each (scsOf c) fun i s => s.modSc i fun x => { x with eq := eqs.getD (i % 8) none }

/-- The pilot search finds the orientation wrong (R76): the carrier does not lock until a sequence starts again. -/
def State.orientFound (c : Nat) (s : State) : State :=
  if s.rxMode c = 0 then (s.setFlag F.CAX_RX_STATUS_ORIENT true c).raise F.CAX_RX_EVT_ORIENT c else s

/-- The end of the running step of a cold acquisition (Table 4.10). An offset beyond the search of ±3.8 GHz or a
dispersion beyond that of ±62,000 ps/nm is not found: the step runs to its timeout (R77, R82). -/
def State.coldStep (c : Nat) (e : AcqEnd) (s : State) : State :=
  match s.fld F.CAX_RX_STATUS_ACQ_STEP c, e with
  | 0, .done v =>
    let s := s.rmsNew c v.toNat
    if v.toNat < s.losTh c then s.losEnter c else (s.setFlag F.CAX_RX_STATUS_SIG true c).stepDone c 1
  | 0, .absent => s.losEnter c
  | 1, .done v =>
    if v.natAbs ≤ 3600 then s.fofsFound c v
    else if v.natAbs ≤ 3800 then (s.raise F.CAX_RX_EVT_FOFS_RANGE c).acqAgain c
    else s
  | 1, .fofsRange => (s.raise F.CAX_RX_EVT_FOFS_RANGE c).acqAgain c
  | 2, .done v =>
    if v.natAbs ≤ 480000 then s.cdFound c v
    else if v.natAbs ≤ 496000 then (s.raise F.CAX_RX_EVT_CD_RANGE c).acqAgain c
    else s
  | 2, .cdRange => (s.raise F.CAX_RX_EVT_CD_RANGE c).acqAgain c
  | 3, .done v => if v.natAbs ≤ 1000000000 then s.clkFound c v else (s.raise F.CAX_RX_EVT_CLK_LOL c).acqAgain c
  | 3, .clkRange => (s.raise F.CAX_RX_EVT_CLK_LOL c).acqAgain c
  | 4, .orient => s.orientFound c
  | _, _ => s

/-- The end of the running step of a warm relock (Table 4.11), against the snapshot it started with: step 1 restores
that one's gain and frequency offset. -/
def State.warmStep (c : Nat) (e : AcqEnd) (s : State) : State :=
  match (s.car c).relock with
  | none => s
  | some x =>
    let f := signed 16 (F.CAX_RX_FOFS_OFS.get x.fofs)
    match s.fld F.CAX_RX_STATUS_ACQ_STEP c, e with
    | 0, .done v =>
      let s := s.rmsNew c v.toNat
      if v.toNat < s.losTh c then s.losEnter c
      else
        (((s.setFlag F.CAX_RX_STATUS_SIG true c).modCar c fun k => { k with gain := x.gain }).setFld F.CAX_RX_FOFS_OFS
          (unsigned 16 f) c).stepDone c 1
    | 0, .absent => s.losEnter c
    | 1, .done v =>
      if 3600 < v.natAbs then (s.raise F.CAX_RX_EVT_FOFS_RANGE c).fallBack c
      else if (v - f).natAbs ≤ 300 then s.fofsFound c v else s.fallBack c
    | 1, .fofsRange => (s.raise F.CAX_RX_EVT_FOFS_RANGE c).fallBack c
    | 2, .done v =>
      if 480000 < v.natAbs then (s.raise F.CAX_RX_EVT_CD_RANGE c).fallBack c
      else if (v - signed 20 (F.CAX_RX_CD_EST_CD.get x.cd)).natAbs ≤ 3200 then
        (s.setFld F.CAX_RX_CD_EST_EXP_STEP (F.CAX_RX_CD_EST_EXP_STEP.get x.cd) c).cdFound c v
      else s.fallBack c
    | 2, .cdRange => (s.raise F.CAX_RX_EVT_CD_RANGE c).fallBack c
    | 3, .done v =>
      if v.natAbs ≤ 1000000000 then s.clkFound c v else (s.raise F.CAX_RX_EVT_CLK_LOL c).fallBack c
    | 3, .clkRange => (s.raise F.CAX_RX_EVT_CLK_LOL c).fallBack c
    | 4, .orient => s.orientFound c
    | _, _ => s

/-- A step of the running sequence ends; without one only the pilot search goes on (R90). -/
def State.acqStep (c : Nat) (e : AcqEnd) (s : State) : State :=
  if e = .searchFail then s.searchFail c
  else match (s.car c).seq with
    | .none => s
    | .cold => s.coldStep c e
    | .warm => s.warmStep c e

/-- ACQ_STEP (R89, R91). -/
def execAcqStep (c : Nat) (e : AcqEnd) (s : State) : Host.Outcome State Fault Refusal :=
  .next (if s.carOn c then (s.acqStep c e).lineEval c else s)

/-- ACQ_TIMEOUT (R90): steps 2 to 5 of a cold acquisition; step 1 ends with the signal absent. -/
def execAcqTimeout (c : Nat) (s : State) : Host.Outcome State Fault Refusal :=
  .next (if s.carOn c && (s.car c).seq = .cold then
    match s.fld F.CAX_RX_STATUS_ACQ_STEP c with
    | 0 => (s.losEnter c).lineEval c
    | 1 | 2 | 3 | 4 => (s.acqAgain c).lineEval c
    | _ => s
  else s)

/-- RELOCK_FAIL (R91): steps 2 to 5 of a warm relock. -/
def execRelockFail (c : Nat) (s : State) : Host.Outcome State Fault Refusal :=
  .next (if s.carOn c && (s.car c).seq = .warm then
    match s.fld F.CAX_RX_STATUS_ACQ_STEP c with
    | 0 => (s.losEnter c).lineEval c
    | 1 | 2 | 3 | 4 => (s.fallBack c).lineEval c
    | _ => s
  else s)

/-! ## Register writes -/

/-- A write of RX_CTRL (Table 4.13). -/
def State.rxCtrlWrite (c : Nat) (v : W32) (s : State) : State :=
  let s := ((s.plainWrite (R .CAX_RX_CTRL c) v).storeEval c).rxEval c
  s.when (F.CAX_RX_CTRL_ACQ_RESTART.get v == 1) fun s => (s.coldTrigger c).lineEval c

/-- RX_EN (R93). -/
def execRxEn (m : Master) (c : Nat) (v : W32) (s : State) : Host.Outcome State Fault Refusal :=
  .next (s.guardW m (R .CAX_RX_CTRL c) v (State.rxCtrlWrite c v))

/-- ACQ_RESTART (R89). -/
def execAcqRestart (m : Master) (c : Nat) (v : W32) (s : State) : Host.Outcome State Fault Refusal :=
  .next (s.guardW m (R .CAX_RX_CTRL c) v (State.rxCtrlWrite c v))

/-- RX_SHAPE as it comes into force (R76). -/
def State.rxShapeIn (c : Nat) (s : State) : State :=
  (s.modCar c fun k => { k with shapePend := false, boost := min (s.fld F.CAX_RX_SHAPE_BOOST c) 6 }).setFld
    F.CAX_RX_SHAPE_ROLLOFF_ACT (min (max (s.fld F.CAX_RX_SHAPE_ROLLOFF c) 2) 10) c

/-- A write of RX_SHAPE (R76). -/
def State.rxShapeWrite (c : Nat) (v : W32) (s : State) : State :=
  let flip := F.CAX_RX_SHAPE_SPEC_INV.get v != s.fld F.CAX_RX_SHAPE_SPEC_INV c
  let s := s.plainWrite (R .CAX_RX_SHAPE c) v
  let s := s.when flip fun s =>
    ((((s.modCar c fun k => { k with snaps := [] }).storeEval c).coldTrigger c).lineEval c)
  if s.fld F.CAX_RX_STATUS_RXSTATE c = 2 then s.modCar c fun k => { k with shapePend := true } else s.rxShapeIn c

/-- RX_SHAPE_WRITE (R76). -/
def execRxShapeWrite (m : Master) (c : Nat) (v : W32) (s : State) : Host.Outcome State Fault Refusal :=
  .next (s.guardW m (R .CAX_RX_SHAPE c) v (State.rxShapeWrite c v))

/-! ## The profile in force -/

/-- The subcarriers held by a mismatch of SLOTS or EXPRESS between a descriptor and RX_PROFILE (R47), as a mask. -/
def mismatchMask (w d : W32) : Nat :=
  if pSlots w ≠ pSlots d then 255 else Nat.xor (pExp w) (pExp d)

/-- The HELD subcarriers brought up to date with the descriptor last read (R47). -/
def State.mismatchEval (c : Nat) (s : State) : State :=
  let m := match (s.car c).rdDesc with
    | some d => if s.flag F.CAX_CHG_CTRL_FOLLOW c then 0 else mismatchMask (s.rd (R .CAX_RX_PROFILE c)) d
    | none => 0
  let old := (s.car c).mismatch
  let s := (s.modCar c fun k => { k with mismatch := m }).when (m != 0 && old == 0) fun s =>
    s.raise F.CAX_LINE_EVT_PROFILE_MISMATCH c
  let run := 4 ≤ s.fld F.CAX_RX_STATUS_ACQ_STEP c && s.fld F.CAX_RX_STATUS_RXSTATE c != 0 &&
    s.fld F.CAX_RX_STATUS_RXSTATE c != 4
  s.each (scsOf c) fun i s =>
    if m / 2 ^ (i % 8) % 2 = 1 then s.scTo i 5
    else if s.fld F.SCX_RX_STATUS_SCSTATE i = 5 then s.scTo i (if run then 1 else 0) else s

/-- The frames that one span of a code takes at most (R95, R103, Table 5.1): 8,000 symbol periods for express, 102,400
for bulk, of 8,192 a frame. -/
def codeSpan (express : Bool) : Nat := if express then 1 else 13

/-- The class of each subcarrier shown as the profile in force has it; a change under way in frame (`cross`) crosses the
codes over for at most a span of the old one (R103). -/
def State.classShow (c : Nat) (cross : Bool) (s : State) : State :=
  s.each (scsOf c) fun i s =>
    let e := s.rxExp i
    if e == s.flag F.SCX_RX_STATUS_EXPRESS i then s
    else
      let s := ((s.setFlag F.SCX_RX_STATUS_EXPRESS e i).setFlag F.SCX_FEC_STATUS_CODE e i).modSc i fun x =>
        { x with xover := if cross && s.inFrame i && x.live then codeSpan (!e) else 0 }
      s.setFlag F.SCX_FEC_STATUS_XOVER ((s.sc i).xover != 0) i

/-- The counters of a slice that keeps none in an OIF mode read 0 (R112). -/
def State.fecZero (i : Nat) (s : State) : State :=
  let s := ((((s.wr64 (R .SCX_FEC_SEC_BITS_LO i) (R .SCX_FEC_SEC_BITS_HI i) 0).wr64 (R .SCX_FEC_SEC_CORR_LO i)
    (R .SCX_FEC_SEC_CORR_HI i) 0).wr64 (R .SCX_FEC_TOT_CW_LO i) (R .SCX_FEC_TOT_CW_HI i) 0).wr64
    (R .SCX_FEC_TOT_CORR_LO i) (R .SCX_FEC_TOT_CORR_HI i) 0).wr64 (R .SCX_FEC_TOT_UNC_LO i) (R .SCX_FEC_TOT_UNC_HI i) 0
  let s := (((s.wrN (R .SCX_FEC_SEC_CW i) 0).wrN (R .SCX_FEC_SEC_UNC i) 0).wrN (R .SCX_FEC_SEC_PEAK i) 0).wrN
    (R .SCX_FEC_SEG_ERR i) 0
  ((s.setFld F.SCX_FEC_STATUS_MEAN_ITER 0 i).setFlag F.SCX_FEC_STATUS_PREFEC_DEG false i).modSc i fun x =>
    { x with fecCur := { FecAcc.zero with snrMin := x.fecCur.snrMin, sop := x.fecCur.sop }, fecNext := FecAcc.zero }

/-- Profile `w` comes into force on the receive side (R40, R93): subcarriers that become express take the step of the
current estimate and leave service beyond 3,400 ps/nm, those that become bulk come back. `cross`: no other field changes
but SLOTS and EXPRESS. A direction that enters an OIF mode clears the carrier's TX_CFG.EN (R299).
DEDUCED, unsafe (log 86). -/
def State.rxInstall (c : Nat) (w : W32) (cross : Bool) (s : State) : State :=
  let s := s.when (pMode w != 0 && pMode w != s.rxMode c && s.domOn 3) fun s =>
    (s.setFlag F.PCC_TX_CFG_EN false c).pccStop c
  let s := (s.modCar c fun k => { k with rxForce := w }).classShow c cross
  let s := s.when (s.rxMode c != 0) fun s => s.each ((scsOf c).drop 1) State.fecZero
  let s := if s.flag F.CAX_RX_CD_EST_CD_VALID c then
      s.setFld F.CAX_RX_CD_EST_EXP_STEP
        (if s.anyExp c then max (s.fld F.CAX_RX_CD_EST_EXP_STEP c) (expStep (s.cdNow c).natAbs) else 0) c
    else s
  let s := s.each (scsOf c) fun i s =>
    if s.fld F.SCX_RX_STATUS_SCSTATE i = 4 && !s.rxExp i then s.scTo i 1 else s
  s.when (s.flag F.CAX_RX_CD_EST_CD_VALID c && decide (27200 < (s.cdNow c).natAbs)) (State.expOut c)

/-- Some subcarrier is LOCKED. -/
def State.hasLock (s : State) (c : Nat) : Bool := s.fld F.CAX_RX_STATUS_SC_LOCKED c != 0

/-- A carrier none of whose subcarriers is LOCKED any more, after some have been lost, relocks warm (R92): `had` says
that one was. -/
def State.lossCheck (c : Nat) (had : Bool) (s : State) : State :=
  if had && s.fld F.CAX_RX_STATUS_RXSTATE c == 2 && !s.hasLock c then s.warmTrigger c else s

/-- A change of carrier `c`'s subcarriers, after which a carrier left without lock relocks and its line frame follows.
-/
def State.losing (c : Nat) (f : State → State) (s : State) : State := ((f s).lossCheck c (s.hasLock c)).lineEval c

/-- Subcarrier `i` comes out of a reset of its own (Table 16.5): in a LOCKED carrier it reconverges (R92), unless the
express range or a mismatch keeps it out of service; a sequence takes it up. -/
def State.scRise (i : Nat) (s : State) : State :=
  let c := scCar i
  if s.fld F.CAX_RX_STATUS_RXSTATE c = 2 && s.scNotReset i then
    if (s.car c).mismatch / 2 ^ (i % 8) % 2 = 1 then s.scTo i 5
    else if s.rxExp i && s.flag F.CAX_CHG_STATUS_EXP_CD_OUT c then s.scTo i 4
    else s.scTo i 3
  else s

/-- RX_PROFILE holds `w` from now on (R40, R88, R93): a change of MODE or RATE is a cold trigger and in force at once,
another comes into force at the next received multiframe boundary. While the receiver is OFF there is none, and the
model brings it into force at once, on which the spec is silent. DESIGN CHOICE, unsafe (log 64). -/
def State.rxProfile (c : Nat) (w : W32) (now : Bool) (s : State) : State :=
  let old := s.rd (R .CAX_RX_PROFILE c)
  s.losing c fun s =>
    let s := s.wr (R .CAX_RX_PROFILE c) w
    let s :=
      if pMode w ≠ pMode old || pRate w ≠ pRate old then
        (((s.modCar c fun k => { k with snaps := [], rdDesc := none }).storeEval c).rxInstall c w false).coldTrigger c
      else if now || s.fld F.CAX_RX_STATUS_RXSTATE c = 0 then s.rxInstall c w true
      else s
    s.mismatchEval c

/-- A write of RX_PROFILE: an illegal profile is discarded and reported (R41). -/
def State.rxProfileWrite (c : Nat) (v : W32) (s : State) : State :=
  let w := v &&& (R .CAX_RX_PROFILE c).mask
  let code := profCode w
  if code ≠ 0 then s.chgRefuse c code else s.rxProfile c w false

/-- RX_PROFILE_WRITE (R40). -/
def execRxProfileWrite (m : Master) (c : Nat) (v : W32) (s : State) : Host.Outcome State Fault Refusal :=
  .next (s.guardW m (R .CAX_RX_PROFILE c) v (State.rxProfileWrite c v))

/-- The descriptor subcarrier `i` read over the two multiframes that end here with PEND = 0 and one value (R123). -/
def State.descRead (i : Nat) (s : State) : State :=
  let c := scCar i
  let x := s.sc i
  let d := if x.descs.all (fun e => !e.pend) then (descOf x.descs false ((x.descs.map (·.count)).headD 0)) else none
  let d := d.filter fun w => profCode w = 0
  let s := s.modSc i fun x => { x with descs := [], lastDesc := d }
  match d with
  | none => s
  | some w =>
    if x.lastDesc ≠ some w then s
    else if mismatchMask (s.rd (R .CAX_RX_PROFILE c)) w = 0 then (s.modCar c fun k =>
        { k with rdDesc := none }).mismatchEval c
    else (s.modCar c fun k => { k with rdDesc := some w }).mismatchEval c

/-- A multiframe's counts of subcarrier `i` go to the line frame (R110, R130), and a multiframe of an IM subcarrier with
no remote error record accepted is a far-end gap (R131). -/
def State.mfCounts (i : Nat) (s : State) : State :=
  let x := s.sc i
  let gap := s.fld F.LFM_SC_STATUS_FSTATE i == 3 && !x.reiGot
  let s := s.modSc i fun x => { x with
    pend := ⟨min (x.pend.nmf + 1) 15, min (x.pend.corr + x.mCorr) 0xFFFFFF, min (x.pend.unc + x.mUnc) 0xFFFF⟩
    mCorr := 0, mUnc := 0, rei := [], reiGot := false }
  let s := s.pmAdd i fun a => { a with
    corr := a.corr + x.mCorr, unc := a.unc + x.mUnc, flags := if gap then a.flags ||| 4 else a.flags }
  s.when gap fun s => s.raise F.LFM_SC_EVT_FE_GAP i

/-- A received multiframe boundary of carrier `c` (R40, R76, R93): in native mode the counts and the descriptors of the
multiframe, in every mode the pending RX_SHAPE and profile, which in an OIF mode wait for the agreement's multiframe
(R443). -/
def State.multiframeRx (c : Nat) (s : State) : State :=
  s.losing c fun s =>
    let s := s.when (s.domOn 6 && s.rxMode c == 0) fun s =>
        (s.each (scsOf c) State.mfCounts).each (scsOf c) State.descRead
    let s := s.modCar c fun k => { k with armed := k.armed.map fun a => (a.1, max (a.2 - 1) 1) }
    let s := s.when (s.car c).shapePend (State.rxShapeIn c)
    let w := s.rd (R .CAX_RX_PROFILE c)
    if w ≠ (s.car c).rxForce && (scsOf c).any s.inFrame then s.rxInstall c w true else s

/-- MULTIFRAME_RX (R110). The markers' receive times are those of R269; an OIF signal has none (Table 2.3). -/
def execMultiframeRx (c : Nat) (marks : List (Nat × Int)) (s : State) : Host.Outcome State Fault Refusal :=
  .next (if s.carOn c then (s.when (s.rxMode c == 0) (State.markRx c marks)).multiframeRx c else s)

/-- RX_FOLLOWED (R46): at the announced boundary an armed receiver takes the announced profile. -/
def execRxFollowed (c : Nat) (s : State) : Host.Outcome State Fault Refusal :=
  .next (match (s.car c).armed with
    | some (w, 1) =>
      if s.carOn c then
        ((s.modCar c fun k => { k with armed := none }).raise F.CAX_LINE_EVT_RX_FOLLOWED c).rxProfile c w true
      else s
    | _ => s)

/-- DESC_ADOPTED (R47): a receiver with FOLLOW = 1 takes the descriptor that differs. -/
def execDescAdopted (c : Nat) (s : State) : Host.Outcome State Fault Refusal :=
  .next (match (s.car c).rdDesc with
    | some w =>
      if s.carOn c && s.flag F.CAX_CHG_CTRL_FOLLOW c then
        ((s.modCar c fun k => { k with rdDesc := none }).raise F.CAX_LINE_EVT_RX_FOLLOWED c).rxProfile c w true
      else s
    | none => s)

/-! ## Express dispersion range -/

/-- EXP_CD_RANGE (R31). -/
def execExpCdRange (c : Nat) (cd : Int) (s : State) : Host.Outcome State Fault Refusal :=
  .next (if s.carOn c && 27200 < cd.natAbs && s.flag F.CAX_RX_CD_EST_CD_VALID c then
    s.losing c (State.cdNew c cd) else s)

/-- EXP_CD_RETURN (R31). -/
def execExpCdReturn (c : Nat) (cd : Int) (s : State) : Host.Outcome State Fault Refusal :=
  .next (if s.carOn c && cd.natAbs ≤ 26400 && s.flag F.CAX_RX_CD_EST_CD_VALID c then (s.cdNew c cd).lineEval c else s)

/-- EXP_STEP_MOVE (R32): within 50 ps/nm of the step's bound, the next step. -/
def execExpStepMove (c : Nat) (cd : Int) (s : State) : Host.Outcome State Fault Refusal :=
  let k := s.fld F.CAX_RX_CD_EST_EXP_STEP c
  .next (if s.carOn c && s.fld F.CAX_RX_STATUS_RXSTATE c == 2 && 1 ≤ k && k ≤ 3 && stepBound k ≤ cd.natAbs + 400 then
    ((s.cdNew c cd).setFld F.CAX_RX_CD_EST_EXP_STEP (k + 1) c).lineEval c
  else s)

/-! ## Loss -/

/-- LOS (R86): the mean code of a 10 µs window. -/
def execLos (c rms : Nat) (s : State) : Host.Outcome State Fault Refusal :=
  .next (if s.carOn c then
    let s := s.rmsNew c rms
    let st := s.fld F.CAX_RX_STATUS_RXSTATE c
    if rms < s.losTh c && st != 0 && st != 4 then (s.losEnter c).lineEval c else s
  else s)

/-- LOS_CLEAR (R86): the signal is present again, over every window of 100 µs. -/
def execLosClear (c rms : Nat) (s : State) : Host.Outcome State Fault Refusal :=
  .next (if s.carOn c then
    let s := s.rmsNew c rms
    if s.fld F.CAX_RX_STATUS_RXSTATE c == 4 && !(s.car c).adcFault && s.losTh c +
        s.fld F.CAX_RX_LOS_CFG_LOS_HYST c ≤ rms then
      (((((s.setFlag F.CAX_RX_STATUS_SIG true c).raise F.CAX_RX_EVT_LOS_CLEAR c).storeEval c).warmStart c).lineEval c)
    else s
  else s)

/-- The ADC clock of carrier `c` fails (R86, R408). -/
def State.adcClkFault (c : Nat) (s : State) : State :=
  if s.carOn c then
    let st := s.fld F.CAX_RX_STATUS_RXSTATE c
    let s := (s.modCar c fun k => { k with adcFault := true }).raise F.CAX_RX_EVT_ADC_CLK_FAULT c
    (s.when (st != 0 && st != 4) fun s => (s.losEnter c).lineEval c).detect 0
  else s

/-- ADC_CLK_FAULT (R86). -/
def execAdcClkFault (c : Nat) (s : State) : Host.Outcome State Fault Refusal := .next (s.adcClkFault c)

/-- ADC_CLK_LOCK (R86): the receive PLL has been locked for 1 ms. -/
def execAdcClkLock (c : Nat) (s : State) : Host.Outcome State Fault Refusal :=
  .next (if s.carOn c && !s.inj 0x01 (2 * c + 1) then s.modCar c fun k => { k with adcFault := false } else s)

/-- Clock recovery loses lock (R86): a warm trigger of a LOCKED carrier. In ACQUIRE and RELOCK, which Table 4.7 lets no
warm trigger leave, only the lock and the event change, and the sequence goes on. DESIGN CHOICE, unsafe (log 66). -/
def State.clkLost (c : Nat) (s : State) : State :=
  let s := (s.raise F.CAX_RX_EVT_CLK_LOL c).setFlag F.CAX_RX_STATUS_CLK_LOCK false c
  if s.fld F.CAX_RX_STATUS_RXSTATE c = 2 then s.warmTrigger c else s

/-- CLK_LOL (R86). -/
def execClkLol (c : Nat) (s : State) : Host.Outcome State Fault Refusal :=
  .next (if s.carOn c && s.flag F.CAX_RX_STATUS_CLK_LOCK c then (s.clkLost c).lineEval c else s)

/-- The taps and phase that the kept snapshot holds of subcarrier `i`. -/
def State.snapEq (s : State) (i : Nat) : Option (W32 × W32) :=
  ((s.snapOk (scCar i)).map fun x => x.eqs.getD (i % 8) none).getD none

/-- SC_LOST (R92): RECONV from the snapshot's taps and phase while another subcarrier is LOCKED, a warm trigger for the
carrier with none. -/
def execScLost (sc : Nat) (s : State) : Host.Outcome State Fault Refusal :=
  let c := scCar sc
  .next (if s.carOn c && s.fld F.SCX_RX_STATUS_SCSTATE sc == 2 then
    s.losing c fun s => (s.scTo sc 3).modSc sc fun x => { x with eq := s.snapEq sc }
  else s)

/-- RECONV_TIMEOUT (R92): the subcarrier starts again from its default centre taps. -/
def execReconvTimeout (sc : Nat) (s : State) : Host.Outcome State Fault Refusal :=
  .next (if s.carOn (scCar sc) && s.fld F.SCX_RX_STATUS_SCSTATE sc == 3 then
    s.modSc sc fun x => { x with eq := none } else s)

/-- SC_LOCKED (R85, R89): a subcarrier in RECONV, or the one in the pilot search, locks; the first takes the carrier to
LOCKED and completes step 5; a reconvergence counts. Its taps and phase are from now on what they have converged to,
which the spec gives no values for: free values. -/
def execScLocked (sc : Nat) (s : State) : Host.Outcome State Fault Refusal :=
  let c := scCar sc
  let st := s.fld F.CAX_RX_STATUS_RXSTATE c
  let old := s.fld F.SCX_RX_STATUS_SCSTATE sc
  .next (if s.carOn c && (1 ≤ st && st ≤ 3) &&
      (old == 3 || (old == 1 && s.searches c && (s.car c).search.map Prod.fst == some sc)) then
    let s := s.scTo sc 2
    let s := { s.modSc sc fun x => { x with eq := some (Config.freeWord s.free, Config.freeWord (s.free + 1)) } with
      free := s.free + 2 }
    let s := s.when (old == 3) fun s => (s.bump (R .SCX_RX_RECONV_CNT sc)).count 0x044 sc 1
    let s := s.when (st != 2) fun s => ((s.rxTo c 2).raise F.CAX_RX_EVT_LOCKED c).stepDone c 5
    s.lineEval c
  else s)

/-! ## Degradation and measurements -/

/-- DEG_SET (R86). -/
def execDegSet (sc : Nat) (s : State) : Host.Outcome State Fault Refusal :=
  .next (if s.carOn (scCar sc) && s.fld F.SCX_RX_CFG_DEG_TH sc != 0 && !s.flag F.SCX_RX_STATUS_DEG sc then
    (s.setFlag F.SCX_RX_STATUS_DEG true sc).raise F.SCX_RX_EVT_DEG_SET sc else s)

/-- DEG_CLEAR (R86). -/
def execDegClear (sc : Nat) (s : State) : Host.Outcome State Fault Refusal :=
  .next (if s.carOn (scCar sc) && s.flag F.SCX_RX_STATUS_DEG sc then
    (s.setFlag F.SCX_RX_STATUS_DEG false sc).raise F.SCX_RX_EVT_DEG_CLEAR sc else s)

/-- The tracking figure of MU in 0.1 Mrad/s (Table 4.5). -/
def muFigure (mu : Nat) : Nat := [25, 50, 100, 150, 200, 300, 400, 500].getD mu 500

/-- A change of subcarrier `i`'s sums of the receiver and the decoder, in the second that holds the present Postmark
time (R11, R109). -/
def State.fecAdd (i : Nat) (g : FecAcc → FecAcc) (s : State) : State :=
  s.modSc i fun x => if s.sec ≤ x.fecSec then { x with fecCur := g x.fecCur } else { x with fecNext := g x.fecNext }

/-- The estimated SOP rate of subcarrier `i` in 0.1 Mrad/s, which is an event above the tracking figure (R81). -/
def State.sopNew (i rate : Nat) (s : State) : State :=
  (s.fecAdd i fun a => { a with sop := max a.sop (min rate 0xFFFF) }).when
    (decide (muFigure (s.fld F.SCX_RX_CFG_MU i) < rate)) fun s => s.raise F.SCX_RX_EVT_SOP_TRANSIENT i

/-- SOP_TRANSIENT (R81): the estimated rate, in 0.1 Mrad/s. -/
def execSopTransient (sc rate : Nat) (s : State) : Host.Outcome State Fault Refusal :=
  .next (if s.carOn (scCar sc) && muFigure (s.fld F.SCX_RX_CFG_MU sc) < rate then
    s.sopNew sc rate else s)

/-- SLIP (R82). -/
def execSlip (sc : Nat) (s : State) : Host.Outcome State Fault Refusal :=
  .next (if s.carOn (scCar sc) && s.scLocked sc then
    ((s.bump (R .SCX_RX_SLIP_CNT sc)).raise F.SCX_RX_EVT_SLIP sc).count 0x043 sc 1 else s)

/-- The frequency offset as carrier recovery tracks it, in MHz (R82): past ±3.8 GHz, or more than 100 MHz from its value
1 ms before, it sets FOFS_RANGE; the loss of the subcarriers follows by Table 4.9. -/
def State.fofsNew (c : Nat) (v : Int) (s : State) : State :=
  let old := signed 16 (s.fld F.CAX_RX_FOFS_OFS c)
  (s.setFld F.CAX_RX_FOFS_OFS (unsigned 16 v) c).when (decide (3800 < v.natAbs) ||
      decide (100 < (v - old).natAbs)) fun s =>
    s.raise F.CAX_RX_EVT_FOFS_RANGE c

/-- FOFS_RANGE (R82): the offset in MHz that carrier recovery finds in tracking. -/
def execFofsRange (x : CarVal) (s : State) : Host.Outcome State Fault Refusal :=
  .next (if s.carOn x.car && s.fld F.CAX_RX_STATUS_RXSTATE x.car == 2 then s.fofsNew x.car x.val else s)

/-- BOOST_MISMATCH (R76): 16 multiframes with the measured boost `meas`, against the boost in force. -/
def execBoostMismatch (c meas : Nat) (s : State) : Host.Outcome State Fault Refusal :=
  .next (if s.carOn c && s.fld F.CAX_RX_STATUS_RXSTATE c == 2 && s.rxMode c == 0 then
    let s := s.setFld F.CAX_RX_SHAPE_BOOST_MEAS meas c
    s.when (s.fld F.CAX_RX_SHAPE_BOOST_MEAS c != (s.car c).boost) fun s =>
      s.raise F.CAX_RX_EVT_BOOST_MISMATCH c
  else s)

/-- The 1 ms measurements of subcarrier `i` (R81, R86). -/
def State.scMeas (x : RxMeas) (i : Nat) (s : State) : State :=
  let (snr, sop, dgd, pil, llr) := x.sc.getD (i % 8) (0, 0, 0, 0, 0)
  let s := (s.count 0x045 i pil).count 0x046 i llr
  if s.fld F.SCX_RX_STATUS_SCSTATE i = 2 then
    (((s.setFld F.SCX_RX_SNR_SNR (min snr 0xFFF) i).setFld F.SCX_RX_SOP_DGD (min dgd 0xFFFF) i).fecAdd i fun a =>
      { a with snrMin := some (min (a.snrMin.getD 0xFFF) (min snr 0xFFF)) }).sopNew i sop
  else s

/-- The measured symbol-rate offset while CLK_LOCK is 1 (R79). Clock recovery that finds it beyond ±100 ppm is out of
its range and loses lock. DESIGN CHOICE, unsafe (log 66). -/
def State.clkMeas (c : Nat) (v : Int) (s : State) : State :=
  if !s.flag F.CAX_RX_STATUS_CLK_LOCK c then s
  else if v.natAbs ≤ 1000000000 then s.wrN (R .CAX_RX_CLK_OFS c) (unsigned 32 v)
  else s.clkLost c

/-- A snapshot of a LOCKED carrier (R88), the newest two of which are kept. -/
def State.snapTake (c : Nat) (s : State) : State :=
  let n : Snap := { age := 0, gain := (s.car c).gain, fofs := s.rd (R .CAX_RX_FOFS c), cd := s.rd (R .CAX_RX_CD_EST c)
                    clk := s.rd (R .CAX_RX_CLK_OFS c), scs := (scsOf c).map fun i => s.fld F.SCX_RX_STATUS_SCSTATE i
                    eqs := (scsOf c).map fun i => (s.sc i).eq }
  (s.modCar c fun k => { k with snaps := n :: (k.snaps.map fun y => { y with age := y.age + 1 }).take 1 }).storeEval c

/-- The measurements of a LOCKED carrier's millisecond, and its snapshot. -/
def State.track (c : Nat) (x : RxMeas) (s : State) : State :=
  ((((s.fofsNew c x.fofs).cdNew c x.cd).each (scsOf c) (State.scMeas x))).snapTake c

/-- SNAPSHOT (R88): what the receiver measures every millisecond (R79, R86): the RMS code, whose fall below LOS_TH is a
loss of signal, and the symbol-rate offset while a signal is there; in LOCKED the rest, and a snapshot. -/
def execSnapshot (c : Nat) (x : RxMeas) (s : State) : Host.Outcome State Fault Refusal :=
  let st := s.fld F.CAX_RX_STATUS_RXSTATE c
  .next (if s.carOn c && 1 ≤ st && st ≤ 3 then
    let s := s.rmsNew c x.rms
    if x.rms < s.losTh c then (s.losEnter c).lineEval c
    else
      let s := s.clkMeas c x.clk
      if s.fld F.CAX_RX_STATUS_RXSTATE c = 2 then s.losing c (State.track c x) else s.lineEval c
  else s)

/-- STORE_EXPIRED (R88): the kept snapshot of a carrier that takes no new ones has grown too old. -/
def execStoreExpired (c : Nat) (s : State) : Host.Outcome State Fault Refusal :=
  .next (if s.carOn c && s.fld F.CAX_RX_STATUS_RXSTATE c != 2 then
    (s.modCar c fun k => { k with snaps := [] }).storeEval c else s)

/-- CD_FINE (R78). -/
def execCdFine (c : Nat) (s : State) : Host.Outcome State Fault Refusal :=
  .next (if s.carOn c && s.fld F.CAX_RX_STATUS_RXSTATE c == 2 && s.flag F.CAX_RX_CD_EST_CD_VALID c then
    s.setFlag F.CAX_RX_CD_EST_CD_FINE true c else s)

/-- ADC_CLIP (R73). -/
def execAdcClip (c lane : Nat) (s : State) : Host.Outcome State Fault Refusal :=
  .next (if s.carOn c && lane < 4 then
    ((s.bump (R .CAX_RX_ADC_CLIP_CNT c lane)).raise F.CAX_RX_EVT_ADC_CLIP c).count 0x049 c 1 else s)

end Sys2Proof.Machine
end

