-- ==== Sys2Proof/Machine/Fec.lean ====
section
/-! DEFINITION. The decoders of a subcarrier (spec/05): codewords, their defects and counters. -/

namespace Sys2Proof.Machine

/-- The subcarrier's decoder works: in frame, and in an OIF mode the slice SC0, which stands for the carrier (R100,
R112). -/
def State.fecOn (s : State) (i : Nat) : Bool :=
  decide (i < 16) && s.carOn (scCar i) && s.scLocked i && s.inFrame i && (s.rxMode (scCar i) == 0 || i % 8 == 0)

/-! ## The codes (R95, R99) -/

/-- Information bits and line bits of a codeword (Table 5.1). -/
def codeword (express : Bool) : Nat × Nat := if express then (1280, 2000) else (19456, 25600)

/-- The iteration limit of the bulk decoder of subcarrier `i` (R99, Table 5.1). -/
def State.bulkIter (s : State) (i : Nat) : Nat := max 4 (min 12 (s.fld F.SCX_FEC_CFG_BULK_ITER_MAX i))

/-- The iteration limit of the express decoder of subcarrier `i` (R99, Table 5.1). -/
def State.expIter (s : State) (i : Nat) : Nat := max 2 (min 6 (s.fld F.SCX_FEC_CFG_EXP_ITER_MAX i))

/-- FEC_CFG as the next codeword takes it: both limits and EARLY_STOP. -/
def State.limNow (s : State) (i : Nat) : Nat × Nat × Bool :=
  (s.bulkIter i, s.expIter i, s.flag F.SCX_FEC_CFG_EARLY_STOP i)

/-- The pre-FEC threshold of the code in force, in thousandths: Table 5.1's at the default limits, or the agreement's
(R108, R112). -/
def State.fecTh (s : State) (i : Nat) : Nat :=
  if s.rxMode (scCar i) ≠ 0 then Config.oifThreshold (s.rxMode (scCar i))
  else if s.flag F.SCX_FEC_STATUS_CODE i then 11 else 24

/-- The iterations that the decoder spends on a codeword (R99): what it needs within the limit taken when its decoding
began, the limit itself without EARLY_STOP and on an express codeword whose checks are never satisfied. In an OIF mode
the limits are the agreement's. -/
def State.decIter (s : State) (i : Nat) (w : Codeword) : Nat :=
  let (b, e, early) := (s.sc i).lim.getD (s.limNow i)
  let m := if w.express then e else b
  if s.rxMode (scCar i) ≠ 0 then w.iters else if !early || (w.unc && w.express) then m else min w.iters m

/-- The 256-byte segments that hold any of `n` information bytes from byte `b` of frame `fn`, whose information stream
has `len` bytes (R104): by FN and place. -/
def segsOf (fn b len n : Nat) : List (Nat × Nat) :=
  ((List.range ((min (b + n) len + 255) / 256)).drop (b / 256)).map (fn, ·) ++
    (List.range ((b + n - len + 255) / 256)).map ((fn + 1) % 256, ·)

/-! ## The 1 ms windows (R106, R108) -/

/-- A window closes with an estimate compared with `pct` % of `th` thousandths; a window with no codeword has none. -/
def DecWin.close (pct th : Nat) (w : DecWin) : DecWin :=
  { ms := w.ms + 1, unc := false, corr := 0, bits := 0
    uncRun := if w.unc then min (w.uncRun + 1) 3 else 0
    clean := if w.unc then 0 else min (w.clean + 1) 10
    deg := if w.bits * pct * th < w.corr * 100000 then min (w.deg + 1) 10 else 0
    fine := if w.corr * 1000000 < w.bits * 8 * pct * th then min (w.fine + 1) 100 else 0 }

/-- The windows up to millisecond `m`: the open one closes, and those between it and `m` hold no codeword. -/
def DecWin.roll (pct th m : Nat) (w : DecWin) : DecWin :=
  if m = w.ms then w
  else
    let c := w.close pct th
    if m ≤ c.ms then { c with ms := m }
    else { c with ms := m, uncRun := 0, clean := min (c.clean + (m - c.ms)) 10, deg := 0, fine := 0 }

/-- The windows of subcarrier `i` as they stand now. -/
def State.winNow (s : State) (i : Nat) : DecWin :=
  match (s.sc i).win with
  | some w => w.roll (min (s.fld F.SCX_FEC_CFG_DEG_PCT i) 100) (s.fecTh i) s.msNow
  | none => ⟨s.msNow, false, 0, 0, 0, 0, 0, 0⟩

/-! ## Decoding -/

/-- A codeword is the decoder's (R95, R100, R103): the decoder works, the codeword's span began when it was to, and its
code is the one in force, or either in a crossover. -/
def State.decodes (s : State) (i : Nat) (w : Codeword) : Bool :=
  s.fecOn i && ((s.sc i).decFrom.map fun t => decide (t ≤ w.since)).getD false &&
    (s.rxMode (scCar i) != 0 || w.express == s.flag F.SCX_FEC_STATUS_CODE i || (s.sc i).xover != 0)

/-- A codeword that cannot be corrected: the decoder shows it, or one of its memories failed its parity (R104, R107). -/
def cwBad (w : Codeword) : Bool := w.unc || w.parity

/-- The line bits of a codeword: those of its code, or as the agreement has it. -/
def State.cwBits (s : State) (i : Nat) (w : Codeword) : Nat :=
  if s.rxMode (scCar i) ≠ 0 then w.lineBits else (codeword w.express).2

/-- The segments that a codeword marks errored (R104, R107): all that hold its information where it is uncorrectable,
the first where only an output segment failed its check. The client stream of an OIF mode has no such segments. -/
def State.cwMarks (s : State) (i : Nat) (w : Codeword) : List (Nat × Nat) :=
  if s.rxMode (scCar i) ≠ 0 then []
  else
    let l := segsOf w.fn w.byte w.len ((codeword w.express).1 / 8)
    if cwBad w then l else if w.segErr then l.take 1 else []

/-- An internal check of the decoder failed (R107). -/
def State.fecFault (i : Nat) (s : State) : State :=
  ((s.bump (R .SCX_FEC_SEG_ERR i)).raise F.SCX_FEC_EVT_SEG_ERR i).detect 8

/-- A decoded codeword (R98, R104, R107, R109, R110): its counts, its marks, UNC, the internal checks, and the end of a
crossover (R103). The codeword that follows takes FEC_CFG as it stands (R99). -/
def State.decode (i : Nat) (w : Codeword) (s : State) : State :=
  let corr := if cwBad w then 0 else w.corrected
  let bits := s.cwBits i w
  let it := s.decIter i w
  let win := s.winNow i
  let seg := w.segErr || s.segBad.contains (i + 2)
  let marks := s.cwMarks i { w with segErr := seg }
  let lim := s.limNow i
  let s := s.fecAdd i fun a => { a with
    bits := a.bits + bits, corr := a.corr + corr, cw := a.cw + 1, unc := a.unc + bit (cwBad w), peak := max a.peak corr
    iter := a.iter + it }
  let s := s.modSc i fun x => { x with
    mCorr := x.mCorr + corr, mUnc := x.mUnc + bit (cwBad w), live := true, lim := some lim, marks := x.marks ++ marks
    xover := if w.lastOld then 0 else x.xover
    win := some { win with unc := win.unc || cwBad w, corr := win.corr + corr, bits := win.bits + bits } }
  let s := (s.add64 (R .SCX_FEC_TOT_CW_LO i) (R .SCX_FEC_TOT_CW_HI i) 1).add64 (R .SCX_FEC_TOT_CORR_LO i)
    (R .SCX_FEC_TOT_CORR_HI i) corr
  let s := (s.count 0x040 i 1).count 0x042 i corr
  let s := s.when (cwBad w) fun s =>
    ((s.add64 (R .SCX_FEC_TOT_UNC_LO i) (R .SCX_FEC_TOT_UNC_HI i) 1).raise F.SCX_FEC_EVT_UNC i).count 0x041 i 1
  let s := { s.when w.parity (State.fecFault i) with segBad := s.segBad.filter (· != i + 2) }.when seg (State.fecFault i)
  (s.when w.lastOld fun s => s.setFlag F.SCX_FEC_STATUS_XOVER false i).lineEval (scCar i)

/-- DECODE (R98). -/
def execDecode (sc : Nat) (cw : Codeword) (s : State) : Host.Outcome State Fault Refusal :=
  .next (if s.decodes sc cw then s.decode sc cw else s)

/-- UNC_DEFECT_SET (R106): 3 windows in a row have each held an uncorrectable codeword. -/
def execUncDefectSet (sc : Nat) (s : State) : Host.Outcome State Fault Refusal :=
  .next (if s.fecOn sc && !s.flag F.SCX_FEC_STATUS_UNC_DEFECT sc && 3 ≤ (s.winNow sc).uncRun then
    ((s.setFlag F.SCX_FEC_STATUS_UNC_DEFECT true sc).raise F.SCX_FEC_EVT_UNC_DEFECT_SET sc).lineEval (scCar sc)
  else s)

/-- UNC_DEFECT_CLEAR (R106): 10 windows in a row have held none. -/
def execUncDefectClear (sc : Nat) (s : State) : Host.Outcome State Fault Refusal :=
  .next (if s.fecOn sc && s.flag F.SCX_FEC_STATUS_UNC_DEFECT sc && 10 ≤ (s.winNow sc).clean then
    ((s.setFlag F.SCX_FEC_STATUS_UNC_DEFECT false sc).raise F.SCX_FEC_EVT_UNC_DEFECT_CLEAR sc).lineEval (scCar sc)
  else s)

/-- PREFEC_DEG_SET (R108): the estimate has been above the limit for 10 windows. Reported only. -/
def execPrefecDegSet (sc : Nat) (s : State) : Host.Outcome State Fault Refusal :=
  .next (if s.fecOn sc && s.fld F.SCX_FEC_CFG_DEG_PCT sc != 0 && !s.flag F.SCX_FEC_STATUS_PREFEC_DEG sc &&
      10 ≤ (s.winNow sc).deg then
    (s.setFlag F.SCX_FEC_STATUS_PREFEC_DEG true sc).raise F.SCX_FEC_EVT_PREFEC_DEG_SET sc
  else s)

/-- PREFEC_DEG_CLEAR (R108): the estimate has stayed below 0.8 of the limit for 100 windows, or the detection is off, of
which the spec does not say that it clears the defect. DESIGN CHOICE, unsafe (log 67). -/
def execPrefecDegClear (sc : Nat) (s : State) : Host.Outcome State Fault Refusal :=
  .next (if s.fecOn sc && s.flag F.SCX_FEC_STATUS_PREFEC_DEG sc &&
      (100 ≤ (s.winNow sc).fine || s.fld F.SCX_FEC_CFG_DEG_PCT sc == 0) then
    (s.setFlag F.SCX_FEC_STATUS_PREFEC_DEG false sc).raise F.SCX_FEC_EVT_PREFEC_DEG_CLEAR sc
  else s)

/-- A write of FEC_CTRL: TOT_CLR clears the three totals together (R111). -/
def State.fecCtrlWrite (i : Nat) (v : W32) (s : State) : State :=
  if F.SCX_FEC_CTRL_TOT_CLR.get v = 1 then
    ((s.wr64 (R .SCX_FEC_TOT_CW_LO i) (R .SCX_FEC_TOT_CW_HI i) 0).wr64 (R .SCX_FEC_TOT_CORR_LO i)
      (R .SCX_FEC_TOT_CORR_HI i) 0).wr64 (R .SCX_FEC_TOT_UNC_LO i) (R .SCX_FEC_TOT_UNC_HI i) 0
  else s

/-- FEC_TOT_CLR (R111). -/
def execFecTotClr (m : Master) (sc : Nat) (v : W32) (s : State) : Host.Outcome State Fault Refusal :=
  .next (s.guardW m (R .SCX_FEC_CTRL sc) v (State.fecCtrlWrite sc v))

/-- The mean iterations of a second's codewords in 1/16: rounded down, and 0 for a second without one; the spec says
neither. DESIGN CHOICE, unsafe (log 67). -/
def FecAcc.meanIter (a : FecAcc) : Nat := min (16 * a.iter / max a.cw 1) 255

/-- The per-second latch of subcarrier `i`: the counters of Table 5.3 and MEAN_ITER of the second that has ended, which
a slice that keeps none in an OIF mode leaves at 0 (R112), and the receiver's SNR_MIN and SOP_MAX (R81, R86). What was
counted after the second's end goes into the next (R11). -/
def State.fecLatch (i : Nat) (s : State) : State :=
  let a := (s.sc i).fecCur
  let s := s.when (s.rxMode (scCar i) == 0 || i % 8 == 0) fun s =>
    ((((((s.wrN (R .SCX_FEC_SEC_TAG i) s.secTag).wr64 (R .SCX_FEC_SEC_BITS_LO i) (R .SCX_FEC_SEC_BITS_HI i)
      a.bits).wr64 (R .SCX_FEC_SEC_CORR_LO i) (R .SCX_FEC_SEC_CORR_HI i) a.corr).wrN (R .SCX_FEC_SEC_CW i) a.cw).wrN
      (R .SCX_FEC_SEC_UNC i) a.unc).wrN (R .SCX_FEC_SEC_PEAK i) a.peak).setFld F.SCX_FEC_STATUS_MEAN_ITER a.meanIter i
  let s := (s.setFld F.SCX_RX_SNR_SNR_MIN (a.snrMin.getD 0) i).setFld F.SCX_RX_SOP_SOP_MAX a.sop i
  s.modSc i fun x => { x with fecSec := s.sec, fecCur := x.fecNext, fecNext := FecAcc.zero }

/-- FEC_SEC_LATCH (R109): at each Postmark second, on every carrier that is ON. -/
def execFecSecLatch (s : State) : Host.Outcome State Fault Refusal :=
  .next (s.upto 16 fun i s => if s.carOn (scCar i) then s.fecLatch i else s)

end Sys2Proof.Machine
end

