-- ==== Sys2Proof/Machine/CipCore.lean ====
section
/-! DEFINITION. The shared operations of the cipher engine (spec/09): key slots and who may use them (R212), transmit
packet numbers (R206, R209), and the scheduler that places messages on cores (R216). -/

namespace Sys2Proof.Machine

/-! ## Keys -/

/-- What a key slot holds. -/
def State.keySlot (s : State) (n : Nat) : Option CipKey := s.cip.slots.get none n

/-- A key slot replaced. -/
def State.setSlot (n : Nat) (k : Option CipKey) (s : State) : State :=
  { s with cip := { s.cip with slots := s.cip.slots.set none n k } }

/-- The engine's record changed. -/
def State.modCip (f : Cip → Cip) (s : State) : State := { s with cip := f s.cip }

def State.gctx (s : State) (g : Nat) : GrpCtx := s.cip.grp.get GrpCtx.init g
def State.modGctx (g : Nat) (f : GrpCtx → GrpCtx) (s : State) : State :=
  s.modCip fun c => { c with grp := c.grp.mod GrpCtx.init g f }

/-- Key set `k` serves only groups: some group context with ENC = 1 names it (R212). -/
def State.groupKey (s : State) (k : Nat) : Bool :=
  (s.insts .LFM_GRP_CFG).any fun g => s.flag F.LFM_GRP_CFG_ENC g && s.fld F.CIP_GCX_CFG_KEYSET g == k

/-- The key a flow or receive channel finds in association `an` of key set `k` (R212). -/
def State.flowKey (s : State) (k an : Nat) : Option CipKey := if s.groupKey k then none else s.keySlot (4 * k + an)

/-- The largest PN of flow context `f`'s suite (R206). -/
def State.pnMax (s : State) (f : Nat) : Nat := if s.flag F.CIP_CTX_CFG_XPN f then 2 ^ 64 - 1 else 2 ^ 32 - 1

/-- The PN at which flow context `f` warns (R206). -/
def State.pnWarn (s : State) (f : Nat) : Nat := if s.flag F.CIP_CTX_CFG_XPN f then 2 ^ 63 else 0xF0000000

/-- The active transmit slot of flow context `f` has a key that can take a frame (R14, R206). -/
def State.txKeyOk (s : State) (f : Nat) : Bool :=
  match s.flowKey f (s.fld F.CIP_CTX_CFG_TX_AN f) with
  | some k => !k.spent && decide (k.txPn ≤ s.pnMax f)
  | none => false

/-- The key of group page `g`'s active transmit slot (R209). -/
def State.grpKey (s : State) (g an : Nat) : Option CipKey := s.keySlot (4 * s.fld F.CIP_GCX_CFG_KEYSET g + an)

/-- A frame of flow `f` finds its association exhausted (R206): the slot stays so, with its event. -/
def State.pnSpent (f : Nat) (s : State) : State :=
  let n := 4 * f + s.fld F.CIP_CTX_CFG_TX_AN f
  match s.flowKey f (s.fld F.CIP_CTX_CFG_TX_AN f) with
  | some k =>
    if k.spent || decide (s.pnMax f < k.txPn) then
      ((s.setSlot n (some { k with spent := true })).raise F.CIP_EVT_TX_PN_EXHAUST).setFld F.CIP_PN_WARN_FLOW_FLOW f
    else s
  | none => s

/-- The next PN of flow `f`'s active slot is taken (R206). -/
def State.takePn (f : Nat) (s : State) : State :=
  let n := 4 * f + s.fld F.CIP_CTX_CFG_TX_AN f
  match s.keySlot n with
  | none => s
  | some k =>
    (s.setSlot n (some { k with txPn := k.txPn + 1 })).when (k.txPn + 1 == s.pnWarn f) fun s =>
      (s.raise F.CIP_EVT_TX_PN_WARN).setFld F.CIP_PN_WARN_FLOW_FLOW f

/-! ## The scheduler (R216) -/

def State.core (s : State) (c : Nat) : CipCore := s.cip.cores.get CipCore.init c

/-- Core `c` changed; SUSP_FULL shows whether its 16 suspend slots are all in use, and using the last sets the event. -/
def State.modCore (c : Nat) (f : CipCore → CipCore) (s : State) : State :=
  let s := s.modCip fun x => { x with cores := x.cores.mod CipCore.init c f }
  let m := s.fld F.CIP_STATUS_SUSP_FULL
  let was := m / 2 ^ c % 2 == 1
  let is := decide (16 ≤ (s.core c).susp.length)
  if was == is then s
  else (s.setFld F.CIP_STATUS_SUSP_FULL (if is then m + 2 ^ c else m - 2 ^ c)).when is fun s =>
      s.raise F.CIP_EVT_SUSP_FULL

/-- The message with a number. -/
def State.msg (s : State) (id : Nat) : Option Msg := s.cip.msgs.find? fun m => m.id == id

/-- Message `id` is of the express class. -/
def State.msgExp (s : State) (id : Nat) : Bool := ((s.msg id).map Msg.express).getD false

/-- The cores that no self-test has isolated (Table 16.5). -/
def State.coresIn (s : State) : List Nat := (List.range 8).filter fun c => !s.underTest (0x50 + c)

/-- The core with the most free suspend slots, the lowest-numbered on a tie. -/
def State.roomiest (s : State) : Nat :=
  s.coresIn.foldl (fun b c => if (s.core c).susp.length < (s.core b).susp.length then c else b) (s.coresIn.headD 0)

/-- A message taken by core `c` counts there (Table 17.7). -/
def State.cipCount (c : Nat) (m : Msg) (s : State) : State :=
  ((s.count 0x0E0 c 1).count 0x0E1 c ((m.len + 15) / 16)).when m.express fun s => s.count 0x0E4 c 1

/-- Message `id` has a core: one that runs it, has suspended it or has it waiting. -/
def State.onCore (s : State) (id : Nat) : Bool :=
  (List.range 8).any fun c => (s.core c).cur == some id || (s.core c).susp.contains id || (s.core c).wait.contains id

/-- The oldest bulk message that no core has taken: bulk messages wait in arrival order (R204). -/
def State.bulkNext (s : State) : Option Msg :=
  s.cip.msgs.find? fun m => m.fin.isNone && !m.express && !s.onCore m.id

/-- Core `c` runs a message. -/
def State.coreRun (c : Nat) (m : Msg) (s : State) : State := (s.modCore c fun x =>
    { x with cur := some m.id }).cipCount c m

/-- A message is given to an idle core, the lowest-numbered. Where there is none, an express message goes to the
roomiest, which suspends a bulk message for it with a slot free; a bulk message waits for the first core to be free. -/
def State.place (m : Msg) (s : State) : State :=
  match s.coresIn.find? fun c => (s.core c).cur.isNone with
  | some c => s.coreRun c m
  | none =>
    if m.express then
      let c := s.roomiest
      match (s.core c).cur with
      | some r =>
        if !s.msgExp r && (s.core c).susp.length < 16 then
          ((s.modCore c fun x => { x with cur := some m.id, susp := x.susp ++ [r] }).cipCount c m).count 0x0E2 c 1
        else (s.modCore c fun x => { x with wait := x.wait ++ [m.id] }).cipCount c m
      | none => s
    else s

/-- A free entry takes a message of this class: 256 in flight, at most 224 bulk (R216). -/
def State.entryFree (s : State) (express : Bool) : Bool :=
  decide (s.cip.msgs.length < 256) && (express || decide ((s.cip.msgs.filter fun m => !m.express).length < 224))

/-- The messages in flight counted in CIP_STATUS. -/
def State.inflight (s : State) : State := s.setFld F.CIP_STATUS_INFLIGHT s.cip.msgs.length

/-- A message accepted into an entry. -/
def State.accept (m : Msg) (s : State) : State :=
  ((s.modCip fun c => { c with msgs := c.msgs ++ [m] }).place m).inflight

/-- A new message at the engine's input: accepted where an entry of its class is free and none of its class waits, or
else waiting in order. -/
def State.newMsg (x : Msg) (s : State) : State :=
  let m : Msg := { x with id := s.cip.next }
  let s := s.modCip fun c => { c with next := c.next + 1 }
  if s.entryFree m.express && !(s.cip.wait.any fun y => y.express == m.express) then s.accept m
  else s.modCip fun c => { c with wait := c.wait ++ [m] }

/-- The work core `c` takes when it is free: an express message waiting for it, its oldest suspended message, the oldest
bulk message that waits. -/
def State.coreNext (c : Nat) (s : State) : State :=
  let x := s.core c
  match x.wait with
  | id :: l => s.modCore c fun x => { x with cur := some id, wait := l }
  | [] =>
    match x.susp with
    | id :: l => s.modCore c fun x => { x with cur := some id, susp := l }
    | [] =>
      match s.bulkNext with
      | some m => if s.coresIn.contains c then s.coreRun c m else s
      | none => s

/-- A message is the opening of a bulk seal, whose input arrives at line rate (R216). -/
def State.atLineRate (s : State) (id : Nat) : Bool :=
  match (s.msg id).map Msg.kind with
  | some (.opening _) => !s.msgExp id
  | _ => false

/-- Core `c` in a microsecond (R216): a message whose input runs dry is suspended while a slot is free, and the core
takes other work; an idle core resumes its oldest suspended message once that is ready. When an input is dry is a free
choice. DESIGN CHOICE, safe (log 82). -/
def State.coreDry (c : Nat) (s : State) : State :=
  let x := s.core c
  let t := s.useFree
  match x.cur with
  | some id =>
    if !s.atLineRate id || 16 ≤ x.susp.length then s
    else if !Config.freeBool s.free then t
    else
      let t := (t.modCore c fun x => { x with cur := none, susp := x.susp ++ [id] }).count 0x0E2 c 1
      if !(x.wait.isEmpty && x.susp.isEmpty) then t.coreNext c
      else match t.bulkNext with
        | some m => t.coreRun c m
        | none => t
  | none => if x.susp.isEmpty then s else t.when (Config.freeBool s.free) (State.coreNext c)

/-- A message leaves its core, wherever it stands there. -/
def State.coreDrop (id : Nat) (s : State) : State :=
  s.upto 8 fun c s =>
    let x := s.core c
    if x.cur = some id then (s.modCore c fun x => { x with cur := none }).coreNext c
    else if x.susp.contains id || x.wait.contains id then
      s.modCore c fun x => { x with susp := x.susp.erase id, wait := x.wait.erase id }
    else s

/-- Messages at the input accepted while entries of their class are free, oldest first. -/
def State.admitMsgs : Nat → State → State
  | 0, s => s
  | n + 1, s =>
    match s.cip.wait.find? fun m => s.entryFree m.express with
    | none => s
    | some m => State.admitMsgs n ((s.modCip fun c => { c with wait := c.wait.filter fun x => x.id ≠ m.id }).accept m)

/-- A message leaves its entry, released or discarded, and the input moves up. -/
def State.msgGone (id : Nat) (s : State) : State :=
  let s := (s.modCip fun c => { c with msgs := c.msgs.filter fun m => m.id ≠ id }).inflight
  s.admitMsgs s.cip.wait.length

end Sys2Proof.Machine
end

