-- ==== Sys2Proof/Machine/Records.lean ====
section
/-! DEFINITION. The words of a group's stream: the CRC-16 of R122, the group marker (Table 6.11), the record (Table
7.11) and the seal (Table 9.3). -/

namespace Sys2Proof.Machine

/-- CRC-16 of R122 over the low `n` bits of a number, most significant first. -/
def crc16 : Nat → Nat → Nat
  | 0, _ => 0xFFFF
  | n + 1, v =>
    let c := crc16 n (v / 2)
    let top := c / 32768 + v % 2
    let c := c % 32768 * 2
    if top = 1 then Nat.xor c 0x1021 else c

/-- `n` bits, with the CRC-16 of R122 behind them. -/
def withCrc (n : Nat) (v : Nat) : Nat := v % 2 ^ n * 65536 + crc16 n (v % 2 ^ n)

/-- The first `n` bytes, zeros where there are fewer. -/
def fit (n : Nat) (l : List Byte) : List Byte := l.take n ++ List.replicate (n - l.length) 0

/-- A number's `n` low bits, the most significant first. -/
def msbBits (n v : Nat) : List Bool := (List.range n).map fun k => v.testBit (n - 1 - k)

/-! ## Tiles and markers (R140) -/

/-- The member, by its MSN, to which tile `t` of a group of `m` members is dealt (R140). -/
def tileMember (t m : Nat) : Nat := t % m

/-- Bytes from one group marker to the next on a member: 1,024 tiles of 32 bytes and the marker (R140). -/
def markerPeriod : Nat := 1024 * 32 + 16

/-- A group marker, byte 0 first (Table 6.11). -/
def groupMarker (gid round msn : Nat) : BitVec 128 :=
  BitVec.ofNat 128 (withCrc 112 (0x5109A7E4 * 2 ^ 80 + gid % 4096 * 2 ^ 64 + round % 2 ^ 32 * 2 ^ 32 +
      msn % 256 * 2 ^ 24))

/-- The bytes of `l`, at position `p` of a marker round, that go to member `msn` of `m`. -/
def dealBytes (m p msn : Nat) (l : List Byte) : List Byte :=
  (l.zipIdx.filter fun b => tileMember ((p + b.2) / 32) m == msn).map Prod.fst

/-! ## Records (R160) -/

/-- A record header (Table 7.11). -/
def recordHeader (len type : Nat) : W32 := BitVec.ofNat 32 (withCrc 16 (len % 2 ^ 14 * 4 + type % 4))

/-- The bytes of a frame's record: its header, the frame, and zeros to the next multiple of four (R160). -/
def recordBytes (len : Nat) : Nat := 4 + (len + 3) / 4 * 4

/-- A frame's record. -/
def frameRecord (l : List Byte) : List Byte :=
  beBytes 4 (recordHeader l.length 1).toNat ++ fit ((l.length + 3) / 4 * 4) l

/-- An idle record. -/
def idleRecord : List Byte := [0x00, 0x00, 0x1D, 0x0F]

/-- A record header is valid (R161): its HEC, its TYPE, a frame's LEN; idle has LEN 0. -/
def recOk (w : Nat) : Bool :=
  let len := w / 2 ^ 18 % 2 ^ 14
  let type := w / 65536 % 4
  crc16 16 (w / 65536) == w % 65536 && (if type = 1 then decide (64 ≤ len) && decide (len ≤ 9248) else type == 0)

/-! ## Seals (R208, R209) -/

/-- A seal's header, byte 0 first (Table 9.3). -/
def sealBits (an wlen gid pn : Nat) : BitVec 128 :=
  BitVec.ofNat 128 (withCrc 112 ((an % 4 * 2 ^ 14 + 2 ^ 13 + wlen % 2 ^ 13) * 2 ^ 96 + gid % 4096 * 2 ^ 80 +
    pn % 2 ^ 64 * 2 ^ 16))

/-- The 16 bytes of a seal's header (Table 9.3). -/
def sealList (an wlen gid pn : Nat) : List Byte := beBytes 16 (sealBits an wlen gid pn).toNat

/-- The 96-bit IV of a seal: the slot's salt with GID and PN (R208). -/
def sealIv (salt : BitVec 96) (gid pn : Nat) : BitVec 96 :=
  salt ^^^ BitVec.ofNat 96 (gid % 4096 * 2 ^ 64 + pn % 2 ^ 64)

/-- The bytes of a seal with `wlen` words of ciphertext: header, ciphertext, tag (R208). -/
def sealBytes (wlen : Nat) : Nat := 16 + 4 * wlen + 16

/-- The seal that begins at position `p` of a round of `r` bytes, or behind the bare idle up to its end where too little
is left (R209): the bytes of idle, where its header stands, and the ciphertext it may take under a limit. -/
def sealPlace (r limit p : Nat) : Nat × Nat × Nat :=
  if r - p ≤ 32 then (r - p, 0, min limit (r - 32)) else (0, p, min limit (r - p - 32))

/-- How many seals `n` bytes lie in that follow a seal which has `got` of `cap` bytes (none is open where `cap` is 0)
and stands at `p`, or is to. -/
def sealSpan (r limit : Nat) : Nat → Nat → Nat → Nat → Nat → Nat
  | 0, _, _, _, _ => 0
  | k + 1, p, got, cap, n =>
    if n = 0 then 0
    else
      let x := if cap = 0 then sealPlace r limit p else (0, p, cap)
      let left := x.2.2 - (if cap = 0 then 0 else got)
      if n ≤ left then 1 else 1 + sealSpan r limit k ((x.2.1 + 32 + x.2.2) % r) 0 0 (n - left)

end Sys2Proof.Machine
end

