-- ==== Sys2Proof/Machine/Hayloft.lean ====
section
/-! DEFINITION. The Hayloft (spec/08): stored-data integrity, the error log (R197), the merge buffer (R193), retirement
(R198), the aperture (R199) and capture (R200), with their commands. -/

namespace Sys2Proof.Machine

def State.modHay (f : Hay → Hay) (s : State) : State := { s with hay := f s.hay }

/-- The Hayloft answers its events: HAY is ON and READY. -/
def State.hayOn (s : State) : Bool := s.domOn 8 && !s.inReset 8 0 && s.flag F.HAY_STATUS_READY

/-! ## Error log -/

/-- The slots in use from oldest to newest. -/
def State.hayOrder (s : State) : List Nat := s.hay.logOrder.filter fun i => s.flag F.HAY_LOG_W0_VALID i

/-- A log entry written into slot `i`, which becomes the newest. -/
def State.hayEntry (type sym line i : Nat) (s : State) : State :=
  let l := s.hayOrder.filter (· ≠ i) ++ [i]
  let w0 := F.HAY_LOG_W0_VALID.put 1 (F.HAY_LOG_W0_TYPE.put type (F.HAY_LOG_W0_SYM.put sym 0))
  (((((s.wr (R .HAY_LOG_W0 i) w0).wrN (R .HAY_LOG_W1 i) line).wrN (R .HAY_LOG_W2 i) s.sec).wrN (R .HAY_LOG_W3 i)
    (s.ns + 2 ^ 31 * bit s.tagValid)).setFld F.HAY_LOG_STATUS_LAST i).modHay fun h => { h with logOrder := l }

/-- An entry displaced or dropped. -/
def State.hayOvr (s : State) : State := (s.bumpFld F.HAY_LOG_STATUS_OVR).raise F.HAY_EVT_LOG_OVR

/-- An event of the error log (R197), copied to the device event log. -/
def State.hayLog (type sym line : Nat) (s : State) : State :=
  let s := s.log 0x0060 type 0 [BitVec.ofNat 32 line]
  let last := s.fld F.HAY_LOG_STATUS_LAST
  let ord := s.hayOrder
  if ord.getLast? = some last && s.fld F.HAY_LOG_W0_TYPE last == type && s.fld F.HAY_LOG_W1_LINE last == line then
    s.bumpFld F.HAY_LOG_W0_REPEAT last
  else
    match (List.range 64).find? fun i => !s.flag F.HAY_LOG_W0_VALID i with
    | some i => s.hayEntry type sym line i
    | none =>
      if type = 1 then
        match ord.find? fun i => s.fld F.HAY_LOG_W0_TYPE i == 1 with
        | some i => s.hayOvr.hayEntry type sym line i
        | none => s.hayOvr
      else
        match ord.head? with
        | some i => s.hayOvr.hayEntry type sym line i
        | none => s

/-- A decode as it is taken (R189): one that would correct an address symbol is uncorrectable. -/
def eccTaken : HayEcc → HayEcc
  | .ce sym => if sym ≤ 34 then .ce sym else .ue
  | e => e

/-- A decode whose outcome nothing gives. -/
def State.freeEcc (s : State) : HayEcc :=
  match Config.freeNat s.free % 3 with
  | 0 => .clean
  | 1 => .ce (Config.freeNat (s.free + 1) % 35)
  | _ => .ue

/-- A corrected error (R190). -/
def State.hayCe (sym line : Nat) (s : State) : State :=
  (((s.add64 (R .HAY_CE_TOT_LO) (R .HAY_CE_TOT_HI) 1).raise F.HAY_EVT_CE).count 0x0C5 0 1).hayLog 1 sym line

/-- A line becomes poisoned. -/
def State.poisonLine (line : Nat) (s : State) : State :=
  s.modHay fun h => { h with poison := if h.poison.contains line then h.poison else line :: h.poison }

/-- An uncorrectable error (R191), found by the scrubber or by a read. The scrubber's is fault 7 (Table 17.6). -/
def State.hayUe (line : Nat) (scrub : Bool) (s : State) : State :=
  ((((s.poisonLine line).bump (R .HAY_UE_TOT)).raise F.HAY_EVT_UE).hayLog (if scrub then 2 else 3) 0x3F line).when scrub
    (State.detect 7)

/-- A block is open (R194). -/
def State.blockOpen (s : State) (b : Nat) : Bool := s.hay.blocks.contains b

/-- The outcome of a line's decode: uncorrectable where an injection has given it two wrong check symbols (Table 17.10).
-/
def State.eccOf (s : State) (line : Nat) (e : HayEcc) : HayEcc :=
  if s.hay.wrong.contains line then .ue else eccTaken e

/-- Line `l` has the check symbols of its contents again. -/
def State.eccMend (l : Nat) (s : State) : State := s.modHay fun h => { h with wrong := h.wrong.filter (· ≠ l) }

/-- The decode of a line that is read, its errors dealt with (R190, R191). -/
def State.hayDecode (line : Nat) (e : HayEcc) (scrub : Bool) (s : State) : State :=
  match s.eccOf line e with
  | .clean => s
  | .ce sym => s.hayCe sym line
  | .ue => (s.hayUe line scrub).eccMend line

/-- A foreground read of a line: whether its data come flagged as poisoned, and its errors (R190, R191). An unopened
block reads as zeros without a check (R194). -/
def State.hayRead (line : Nat) (e : HayEcc) (s : State) : Bool × State :=
  if !s.blockOpen (line / 1024) then (false, s)
  else
    let was := s.hay.poison.contains line
    (was || s.eccOf line e == .ue,
      (s.hayDecode line e false).when was fun s => (s.raise F.HAY_EVT_POISON_READ).hayLog 4 0x3F line)

/-- Bytes laid into the memory from address `a` on. -/
def State.hayPut (a : Nat) (l : List Byte) (s : State) : State :=
  { s with hayMem := l.zipIdx.foldl (fun t b => NTab.set 0 t (a + b.2) b.1) s.hayMem }

/-- The first write to a block opens it, with zeros and valid check symbols in all its lines (R194). -/
def State.hayOpen (b : Nat) (s : State) : State :=
  if s.blockOpen b then s
  else
    let s := s.modHay fun h => { h with
      blocks := b :: h.blocks, poison := h.poison.filter (· / 1024 ≠ b), wrong := h.wrong.filter (· / 1024 ≠ b) }
    { s with hayMem := s.hayMem.filter fun e => e.1 / 65536 ≠ b }

/-- A write of a whole line opens its block and clears its poison (R192, R194). -/
def State.hayWhole (line : Nat) (l : List Byte) (s : State) : State :=
  ((s.hayOpen (line / 1024)).modHay fun h => { h with
    poison := h.poison.filter (· ≠ line), wrong := h.wrong.filter (· ≠ line) }).hayPut (64 * line) (l.take 64)

/-! ## Merge buffer -/

/-- An entry written back (R193): whole with no read, partial by reading its line, whose errors are logged and whose
poison stays. -/
def State.mergeOut (m : Merge) (e : HayEcc) (s : State) : State :=
  let s := s.modHay fun h => { h with merge := h.merge.filter fun x => x.line ≠ m.line }
  let s :=
    if 64 ≤ m.bytes.length then s.hayWhole m.line []
    else (((s.hayRead m.line e).2).hayOpen (m.line / 1024)).count 0x0C0 0 1
  (m.bytes.foldl (fun (s : State) b => s.when b.2.isSome (State.hayPut (64 * m.line +
      b.1) b.2.toList)) s).count 0x0C1 0 1

/-- The merge buffer has room for one more entry: with all 256 in use the oldest is written back. -/
def State.mergeRoom (s : State) : State :=
  match s.hay.merge with
  | m :: _ => if s.hay.merge.length < 256 then s else { (s.mergeOut m s.freeEcc) with free := s.free + 2 }
  | [] => s

/-- A narrow write of bytes within one line, from a physical byte address on, enters the merge buffer (R193); an entry
whose mask is full is written back. -/
def State.mergeIn (a : Nat) (l : List Byte) (s : State) : State :=
  let line := a / 64
  let put (b : NTab (Option Byte)) : NTab (Option Byte) :=
    l.zipIdx.foldl (fun t x => NTab.set none t (a % 64 + x.2) (some x.1)) b
  let s : State := match s.hay.merge.find? (·.line = line) with
    | some m =>
      (s.modHay fun h => { h with merge := h.merge.filter (·.line ≠ line) ++ [⟨line, put m.bytes⟩] }).count 0x0C4 0 1
    | none => s.mergeRoom.modHay fun h => { h with merge := h.merge ++ [⟨line, put []⟩] }
  match s.hay.merge.find? (·.line = line) with
  | some m => s.when (64 ≤ m.bytes.length) (State.mergeOut m .clean)
  | none => s

/-! ## A flow's Hayloft queue (R177, R179, R180, R186) -/

/-- A page of the pool that is not in use and not in the retirement table; which one is a free choice (R177). -/
def State.freePage (s : State) : Nat :=
  let l := s.takenPages ++ s.hay.ret.map RetPage.page
  (((List.range (l.length + 1)).map fun k => (Config.freeNat s.free + k) % max 1 (s.capBase / 4096)).find?
    fun p => !l.contains p).getD 0

/-- The line of the first or the second copy of a page's descriptor (R196). DESIGN CHOICE, unsafe (log 74). -/
def State.descrLine (s : State) (page : Nat) (second : Bool) : Nat :=
  let h := (s.hayBytes - s.hayMeta) / 2
  (s.hayMeta + if second then h + (16 * page + 4096) % h else 16 * page) / 64

/-- A line access is asked for. -/
def State.hayAsk (line : Nat) (use : HayUse) (data : List Byte) (s : State) : State :=
  s.modHay fun h => { h with acc := h.acc ++ [⟨line, use, data⟩] }

/-- Flow `f` takes `n` more pages, with the writes of their descriptors. -/
def State.takePages (f : Nat) : Nat → State → State
  | 0, s => s
  | n + 1, s =>
    let p := s.freePage
    let s := s.useFree.modFlow f fun fl => { fl with hayPg := fl.hayPg ++ [p] }
    State.takePages f n ((s.hayAsk (s.descrLine p false) (.descrWrite f p false) []).hayAsk (s.descrLine p true)
      (.descrWrite f p true) [])

/-- The line that holds line `j` of a flow's Hayloft queue. -/
def Flow.lineAt (fl : Flow) (j : Nat) : Option Nat :=
  (fl.hayPg[j / 64 - fl.hayOut / 4096]?).map fun p => 64 * p + j % 64

/-- The line of a flow's Hayloft queue that line `line` holds. -/
def Flow.lineIdx (fl : Flow) (line : Nat) : Option Nat :=
  (fl.hayPg.idxOf? (line / 64)).map fun i => (fl.hayOut / 4096 + i) * 64 + line % 64

/-- The pages that `n` more bytes of a flow's Hayloft queue need. -/
def Flow.newPages (fl : Flow) (n : Nat) : Nat := (fl.hayIn + n + 4095) / 4096 - (fl.hayIn + 4095) / 4096

/-- The whole lines among the tail of flow `f`'s Hayloft queue are written. -/
def State.writeLines (f : Nat) : Nat → Nat → State → State
  | 0, _, s => s
  | n + 1, j, s =>
    let fl := s.flow f
    if fl.hayTail.length < 64 then s
    else
      let s := s.modFlow f fun fl => { fl with hayTail := fl.hayTail.drop 64 }
      State.writeLines f n (j + 1) (match fl.lineAt j with
        | some line => s.hayAsk line (.flowWrite f) (fl.hayTail.take 64)
        | none => s)

/-- A frame's bytes appended to flow `f`'s Hayloft queue (R179). -/
def State.hayAppend (f : Nat) (l : List Byte) (s : State) : State :=
  let s := s.takePages f ((s.flow f).newPages l.length)
  let j := (s.flow f).hayIn / 64
  (s.modFlow f fun fl => { fl with hayIn := fl.hayIn + l.length, hayTail := fl.hayTail ++ l }).writeLines f
    (l.length / 64 + 1) j

/-- The part-filled tail line of flow `f` is closed for read-back (R193): its bytes enter the merge buffer, and the next
frame begins a line of its own. DESIGN CHOICE, safe (log 76). -/
def State.closeTail (f : Nat) (s : State) : State :=
  let fl := s.flow f
  let s := s.modFlow f fun fl => { fl with hayIn := (fl.hayIn + 63) / 64 * 64, hayTail := [] }
  match fl.lineAt (fl.hayIn / 64) with
  | some line => s.mergeIn (64 * line) fl.hayTail
  | none => s

/-- The next line of flow `f` is asked for, with its page's descriptor at the start of a page. -/
def State.readLine (f : Nat) (s : State) : State :=
  let fl := s.flow f
  let s := s.modFlow f fun fl => { fl with hayRd := fl.hayRd + 1 }
  match fl.lineAt fl.hayRd with
  | some line =>
    (s.when (fl.hayRd % 64 == 0) fun s =>
        s.hayAsk (s.descrLine (line / 64) false) (.descrRead f (line / 64) false) []).hayAsk
      line (.flowRead f) []
  | none => s

/-- Flow `f`'s oldest lines are asked for, up to 64 KB (R180). -/
def State.readLines (f : Nat) : Nat → State → State
  | 0, s => s
  | n + 1, s =>
    let fl := s.flow f
    if fl.hayIn ≤ 64 * fl.hayRd || fl.hayOut / 64 + 1024 ≤ fl.hayRd then s
    else State.readLines f n ((if fl.hayIn < 64 * fl.hayRd + 64 then s.closeTail f else s).readLine f)

/-- The flows that hold Hayloft data. -/
def State.hayFlows (s : State) : List Nat := (s.flows.filter fun e => e.2.inHay).map Prod.fst

/-- How many flows the scheduler of flow `f`'s egress serves before it comes to `f`. -/
def State.turn (s : State) (f : Nat) : Nat :=
  match (s.flow f).q.head? with
  | some x => (f + 4095 - s.drr.get 0 ((x.egress * 2 + bit x.line) * 2 + bit x.exp)) % 4096
  | none => 4095

/-- Flow `f` has read-back data in the Shed, or on its way there. -/
def State.reading (s : State) (f : Nat) : Bool := (s.flow f).hayOut < 64 * (s.flow f).hayRd

/-- Flow `f` has one of the 64 read-back windows (R180): it is among the next 64 in their schedulers' rounds, and it has
read or a window is free. DESIGN CHOICE, safe (log 76). -/
def State.hasWindow (s : State) (f : Nat) : Bool :=
  decide ((s.hayFlows.filter fun g => s.turn g < s.turn f || (s.turn g == s.turn f && g < f)).length < 64) &&
    (s.reading f || decide ((s.hayFlows.filter s.reading).length < 64))

/-- Read-back brought up to date, while HAY is ON. -/
def State.readBack (s : State) : State :=
  if s.hayOn then s.each s.hayFlows fun f s => if s.hasWindow f then s.readLines f 1025 else s else s

/-- Every line of a frame in the Hayloft is in the Shed (R180, R186). -/
def Flow.arrived (fl : Flow) (x : Frm) : Bool :=
  x.place != .hayloft || (List.range ((x.off + x.len + 63) / 64 - x.off / 64)).all fun k =>
    fl.hayGot.contains (x.off / 64 + k)

/-- A line of flow `f` has arrived in the Shed. -/
def State.lineGot (f line : Nat) (s : State) : State :=
  match (s.flow f).lineIdx line with
  | some j => s.modFlow f fun fl => { fl with hayGot := j :: fl.hayGot.filter (· ≠ j) }
  | none => s

/-- Frame `x` has bytes in line `j` of its flow's Hayloft queue. -/
def Frm.inLine (x : Frm) (j : Nat) : Bool :=
  x.place == .hayloft && decide (x.off < 64 * j + 64) && decide (64 * j < x.off + x.len)

/-- The frames of flow `f` with bytes in a line whose data came flagged: each is discarded at the head of its queue
(R188, R192). -/
def State.poisonFrames (f line : Nat) (s : State) : State :=
  match (s.flow f).lineIdx line with
  | some j =>
    ((s.modFlow f fun fl => { fl with q := fl.q.map fun x => if x.inLine j then { x with poison := true } else x }).purge f
      ).departed f
  | none => s

/-- Both copies of the descriptor of page `page` are lost (R196): flow `f` loses its Hayloft data from that page on, and
the pages from it on. DESIGN CHOICE, unsafe (log 74). -/
def State.metaLoss (f page line : Nat) (s : State) : State :=
  let s := (s.raise F.HAY_EVT_META_LOSS).hayLog 6 0x3F line
  let fl := s.flow f
  match fl.hayPg.idxOf? page with
  | none => s
  | some i =>
    let x0 := (fl.hayOut / 4096 + i) * 4096
    let q := fl.q.filter fun x => x.place != .hayloft || decide (x.off + x.len ≤ x0)
    let lost := fl.hayPg.drop i
    let s := (s.modFlow f fun fl => { fl with
        q := q, hayIn := x0, hayPg := fl.hayPg.take i, hayTail := [], hayRd := min fl.hayRd (x0 / 64)
        hayGot := fl.hayGot.filter (· < x0 / 64) }).modHay fun h => { h with leak := h.leak ++ lost }
    (((s.add64 (R .SOF_POISON_DROP_LO f) (R .SOF_POISON_DROP_HI f) (fl.q.length - q.length)).wrN (R .HAY_LEAK_PAGES)
      (s.rdN (R .HAY_LEAK_PAGES) + lost.length)).purge f).departed f

/-! ## Retirement (R198) -/

/-- A retirement command ends with a code. -/
def State.retCode (code : Nat) (s : State) : State :=
  (s.setFld F.HAY_RET_STATUS_CODE code).raise (if code = 0 then F.HAY_EVT_RET_DONE else F.HAY_EVT_RET_REFUSED)

/-- A write of RET_CMD (Tables 8.8 and 8.9); the lowest code that applies is given.
DESIGN CHOICE, unsafe (log 13, 15). -/
def State.retCmdWrite (v : W32) (s : State) : State :=
  let arg := F.HAY_RET_CMD_ARG.get v
  let inTab := s.hay.ret.any fun r => r.page == arg
  match F.HAY_RET_CMD_CMD.get v with
  | 1 =>
    if 8192 ≤ s.hay.ret.length then s.retCode 1
    else if inTab then s.retCode 2
    else if s.hayMeta ≤ 4096 * arg then s.retCode 4
    else ((s.modHay fun h => { h with ret := h.ret ++ [⟨arg, s.pageUsed arg⟩] }).retShow).retCode 0
  | 2 =>
    if inTab then ((s.modHay fun h => { h with ret := h.ret.filter fun r => r.page ≠ arg }).retShow).retCode 0
    else s.retCode 3
  | 3 =>
    match s.hay.ret[arg]? with
    | some r =>
      (s.wr (R .HAY_RET_DATA) (F.HAY_RET_DATA_VALID.put 1 (F.HAY_RET_DATA_PENDING.put (bit r.pend)
        (F.HAY_RET_DATA_PAGE.put r.page 0)))).retCode 0
    | none => s.retCode 3
  | _ => s.retCode 5

/-- RET_ADD (R198). -/
def execRetAdd (m : Master) (v : W32) (s : State) : Host.Outcome State Fault Refusal :=
  .next (s.guardW m (R .HAY_RET_CMD) v (State.retCmdWrite v))

/-- RET_REMOVE (R198). -/
def execRetRemove (m : Master) (v : W32) (s : State) : Host.Outcome State Fault Refusal :=
  .next (s.guardW m (R .HAY_RET_CMD) v (State.retCmdWrite v))

/-- RET_READ (R198). -/
def execRetRead (m : Master) (v : W32) (s : State) : Host.Outcome State Fault Refusal :=
  .next (s.guardW m (R .HAY_RET_CMD) v (State.retCmdWrite v))

/-! ## Capture (R200) -/

/-- A word's bytes, least significant first. -/
def bytesOf (w : W32) : List Byte := (List.range 4).map fun k => w.extractLsb' (8 * k) 8

/-- A capture record: its 32-byte header and the frame, padded to 64 bytes. -/
def State.capRecord (s : State) (f : Nat) (frame : List Byte) : List Byte :=
  let h := bytesOf (BitVec.ofNat 32 (frame.length * 65536 + f)) ++ bytesOf (BitVec.ofNat 32 s.sec) ++
    bytesOf (BitVec.ofNat 32 (s.ns + 2 ^ 31 * bit s.tagValid)) ++ bytesOf (s.rd (R .HAY_CAP_SEQ)) ++ List.replicate 16 0
  let r := h ++ frame
  r ++ List.replicate ((64 - r.length % 64) % 64) 0

/-- Where `n` lines of capture go from offset `o` of the area on, which is `size` bytes: the lines' offsets, those of
retired pages skipped (R198), and the offset behind them. -/
def State.capGo (s : State) (size : Nat) : Nat → Nat → Nat → List Nat × Nat
  | 0, _, o => ([], o)
  | k + 1, n, o =>
    if n = 0 then ([], o)
    else if s.isRetired ((s.capBase + o % size) / 4096) then State.capGo s size k n ((o / 4096 + 1) * 4096)
    else
      let r := State.capGo s size k (n - 1) (o + 64)
      (o % size :: r.1, r.2)

/-- The lines of a record of `n` bytes at offset `o`. -/
def State.capLines (s : State) (n o : Nat) : List Nat × Nat :=
  s.capGo (max s.capBytes 1) (n / 64 + s.hay.ret.length + 1) (n / 64) o

/-- The offset behind the records that wait. -/
def State.capEnd (s : State) : Nat :=
  s.hay.cap.foldl (fun o r => (s.capLines r.length o).2) (s.rdN (R .HAY_CAP_PTR))

/-- A frame admitted to the captured flow: its record waits to be written; one that the area cannot take stops the
capture, where the area is no ring. DESIGN CHOICE, safe (log 19). -/
def State.capture (f : Nat) (frame : List Byte) (s : State) : State :=
  if !(s.hayOn && s.flag F.HAY_CAP_CFG_EN && s.fld F.HAY_CAP_CFG_FLOW == f && !s.flag F.SOF_PH_W6_EXPRESS f) then s
  else
    let r := s.capRecord f frame
    let x := s.capLines r.length s.capEnd
    if s.capBytes < r.length || x.1.length < r.length / 64 || (!s.flag F.HAY_CAP_CFG_WRAP && s.capBytes < x.2) then
      (s.setFlag F.HAY_CAP_CFG_EN false).raise F.HAY_EVT_CAP_FULL |>.retSettle
    else
      (s.modHay fun h => { h with cap := h.cap ++ [r] }).wrN (R .HAY_CAP_SEQ) ((s.rdN (R .HAY_CAP_SEQ) + 1) % 2 ^ 32)

/-- The oldest waiting record is written at CAP_PTR, which moves past it (wrapping in a ring). -/
def State.capWrite (s : State) : State :=
  match s.hay.cap with
  | [] => s
  | r :: l =>
    let x := s.capLines r.length (s.rdN (R .HAY_CAP_PTR))
    let s' := (s.modHay fun h => { h with cap := l }).each x.1.zipIdx fun o t =>
      t.hayWhole ((s.capBase + o.1) / 64) (r.drop (64 * o.2))
    s'.wrN (R .HAY_CAP_PTR) (if s.flag F.HAY_CAP_CFG_WRAP then x.2 % max s.capBytes 1 else x.2)

/-- A write of CAP_CFG. -/
def State.capCfgWrite (v : W32) (s : State) : State :=
  let en := s.flag F.HAY_CAP_CFG_EN
  let exp := s.flag F.SOF_PH_W6_EXPRESS (F.HAY_CAP_CFG_FLOW.get v)
  let refuse := F.HAY_CAP_CFG_EN.get v == 1 && exp
  let s := s.plainWrite (R .HAY_CAP_CFG) v
  let s := s.when refuse fun s => (s.setFlag F.HAY_CAP_CFG_EN false).raise F.HAY_EVT_CAP_REFUSED
  let s := s.when (F.HAY_CAP_CFG_CLR.get v == 1 && !en) fun s =>
    (({ s.modHay fun h => { h with blocks := h.blocks.filter fun b => !s.inCap (65536 * b) } with
      hayMem := s.hayMem.filter fun e => !s.inCap e.1 }).wr (R .HAY_CAP_PTR) 0).wr (R .HAY_CAP_SEQ) 0
  s.retSettle

/-- CAP_CFG_WRITE (R200). -/
def execCapCfgWrite (m : Master) (v : W32) (s : State) : Host.Outcome State Fault Refusal :=
  .next (s.guardW m (R .HAY_CAP_CFG) v (State.capCfgWrite v))

/-- CAP_CLR (R200). -/
def execCapClr (m : Master) (v : W32) (s : State) : Host.Outcome State Fault Refusal :=
  .next (s.guardW m (R .HAY_CAP_CFG) v (State.capCfgWrite v))

/-- CAP_DROP (R200): the oldest waiting record was not written within 100 µs. -/
def execCapDrop (s : State) : Host.Outcome State Fault Refusal :=
  .next (if s.hayOn && !s.hay.cap.isEmpty then (s.modHay fun h => { h with cap := h.cap.tail }).bump (R .HAY_CAP_DROP)
      else s)

/-! ## Accesses -/

/-- Group page `g` may use line `line` for its deskew data (R177, R185): it holds a reservation and is in FILL or
SERVICE_HAY, and the line's page is one of its own, or a page of the pool that is free where the reservation has one
left. -/
def State.deskewOk (s : State) (g line : Nat) : Bool :=
  let p := line / 64
  let x := s.grp g
  x.hay && decide (x.pages ≠ 0) && (s.fld F.LFM_GRP_STATUS_STATE g == 3 || s.fld F.LFM_GRP_STATUS_STATE g == 5) &&
    (x.dsk.contains p || (decide (x.dsk.length < x.pages) && decide (4096 * p + 4096 ≤ s.capBase) &&
      !s.takenPages.contains p && !(s.hay.ret.any fun r => r.page == p)))

/-- Poisoned deskew data of group page `g` (Table 8.5): the segment is marked, so that the next frame delineated is. -/
def State.deskewBad (g : Nat) (s : State) : State :=
  { s with delin := s.delin.mod Delin.init g fun d => { d with dirty := true } }

/-- A copy of the descriptor of flow `f`'s page has been read, `bad` or not (R196): where the first is bad the second is
asked for, and the first rewritten from it. -/
def State.descrDone (f page : Nat) (second bad : Bool) (s : State) : State :=
  if !(s.flow f).hayPg.contains page then s
  else if !second then s.when bad fun s => s.hayAsk (s.descrLine page true) (.descrRead f page true) []
  else if bad then s.metaLoss f page (s.descrLine page true)
  else s.modHay fun h => { h with poison := h.poison.filter (· ≠ s.descrLine page false) }

/-- What a completed access of the Sorting Office does, its data flagged (`bad`) or not. -/
def State.reqDone (r : HayReq) (bad : Bool) (s : State) : State :=
  match r.use with
  | .flowWrite f => if bad then s.poisonFrames f r.line else s.hayWhole r.line r.data
  | .flowRead f => (s.lineGot f r.line).when bad (State.poisonFrames f r.line)
  | .descrWrite _ _ _ => s.when (!bad) (State.hayOpen (r.line / 1024))
  | .descrRead f p second => s.descrDone f p second bad
  | .deskewWrite g data => (s.modGrp g fun x => { x with
      dsk := if x.dsk.contains (r.line / 64) then x.dsk else r.line / 64 :: x.dsk }).when (!bad)
        (State.hayWhole r.line (fit 64 data))
  | .deskewRead g => s.when bad (State.deskewBad g)
  | .capWrite => s.capWrite

/-- The access is a read. -/
def isRead : HayUse → Bool
  | .flowRead _ | .descrRead _ _ _ | .deskewRead _ => true
  | _ => false

/-- The access under way that `a` completes (R186): for the Sorting Office's, the oldest of its line among the first 512
asked for; a deskew access of a group with a reservation; the oldest waiting capture record, at its place. -/
def State.inFlight (s : State) (a : HayAcc) : Option HayReq :=
  match a.use with
  | .deskewWrite g _ => if s.deskewOk g a.line then some ⟨a.line, a.use, []⟩ else none
  | .deskewRead g => if (s.grp g).dsk.contains (a.line / 64) then some ⟨a.line, a.use, []⟩ else none
  | .capWrite =>
    match s.hay.cap with
    | r :: _ =>
      if ((s.capLines r.length (s.rdN (R .HAY_CAP_PTR))).1.map fun o => (s.capBase + o) / 64).head? = some a.line then
        some ⟨a.line, a.use, []⟩ else none
    | [] => none
  | _ => ((s.hay.acc.take 512).find? (·.line = a.line)).filter (·.use = a.use)

/-- HAY_ACCESS_DONE (R186, R190 to R192): a line access completes and frees its entry. -/
def State.accessDone (a : HayAcc) (r : HayReq) (s : State) : State :=
  let s := (s.modHay fun h => { h with acc := h.acc.erase r }).count (if isRead a.use then 0x0C0 else 0x0C1) 0 1
  let x := if isRead a.use then s.hayRead a.line a.ecc else (false, s)
  (x.2.reqDone r x.1).readBack

/-- HAY_ACCESS_DONE (R186). -/
def execHayAccessDone (a : HayAcc) (s : State) : Host.Outcome State Fault Refusal :=
  .next (match s.inFlight a with
    | some r => if s.hayOn && 64 * a.line < s.hayBytes then s.accessDone a r else s
    | none => s)

/-- An access that has not completed after 20 µs (R188): it completes with its data flagged, and its entry is free; the
line itself is not marked. -/
def State.accessLate (a : HayAcc) (r : HayReq) (s : State) : State :=
  let s := ((((s.modHay fun h => { h with acc := h.acc.erase r }).hayLog 5 0x3F a.line).bump (R .HAY_ACC_TO_CNT)).raise
    F.HAY_EVT_TIMEOUT).detect 8 |>.count 0x0C6 0 1
  (s.reqDone r true).readBack

/-- ACC_TIMEOUT (R188). -/
def execAccTimeout (a : HayAcc) (s : State) : Host.Outcome State Fault Refusal :=
  .next (match s.inFlight a with
    | some r => if s.hayOn && 64 * a.line < s.hayBytes then s.accessLate a r else s
    | none => s)

/-- MERGE_WRITE_BACK (R193). -/
def execMergeWriteBack (line : Nat) (e : HayEcc) (s : State) : Host.Outcome State Fault Refusal :=
  .next (match s.hay.merge.find? (·.line = line) with
    | some m => if s.hayOn then (s.mergeOut m e).retSettle else s
    | none => s)

/-- The lowest line from `n` on that the scrubber reads: in an open block and not in a retired page (R195). -/
def State.scrubNext (s : State) (n : Nat) : Option Nat :=
  ((s.hay.blocks.flatMap fun b => (List.range 16).map fun k => 16 * b + k).filterMap fun p =>
    if s.isRetired p || 64 * p + 64 ≤ n then none else some (max n (64 * p))).min?

/-- SCRUB_READ (R195): the scrubber reads the next line on its way up; a pass ends with the last line that it has to
read. -/
def execScrubRead (line : Nat) (e : HayEcc) (s : State) : Host.Outcome State Fault Refusal :=
  .next (if s.hayOn && s.scrubNext s.hay.scrub == some line then
    let s := ((s.count 0x0C3 0 1).count 0x0C0 0 1).hayDecode line e true
    if (s.scrubNext (line + 1)).isNone then
      (((s.modHay fun h => { h with scrub := 0 }).setFld F.HAY_SCRUB_STATUS_PASS_CNT
        (s.fld F.HAY_SCRUB_STATUS_PASS_CNT + 1)).setFld F.HAY_SCRUB_STATUS_PROGRESS 0).raise F.HAY_EVT_SCRUB_PASS
    else (s.modHay fun h => { h with scrub := line + 1 }).setFld F.HAY_SCRUB_STATUS_PROGRESS
      ((line + 1) * 100 / (s.hayBytes / 64))
  else s)

/-! ## Aperture (R199) -/

/-- What a read answers when nothing answers it (R353, R418). -/
def badWord : W32 := 0x0FF00FF0

/-- The word a master reads. -/
def State.answer (m : Master) (w : W32) (s : State) : State :=
  s.modFab fun f => { f with rdata := f.rdata.set 0 (masterCode m) w }

/-- A byte of a line, the merge buffer's where it holds one; an unopened block reads as zeros. -/
def State.hayByte (s : State) (a : Nat) : Byte :=
  match (s.hay.merge.find? (·.line = a / 64)).bind fun m => NTab.get none m.bytes (a % 64) with
  | some b => b
  | none => if s.blockOpen (a / 65536) then s.hayMem.get 0 a else 0

/-- The word at a physical address; in an open block of the metadata area, whose contents the spec does not give, a free
value. -/
def State.hayWord (s : State) (a : Nat) : W32 :=
  if s.hayMeta ≤ a && s.blockOpen (a / 65536) then Config.freeWord s.free
  else BitVec.ofNat 32 ((List.range 4).map fun k => (s.hayByte (a / 4 * 4 + k)).toNat * 256 ^ k).sum

/-- A read through the aperture of the word at a physical address. DESIGN CHOICE, safe (log 75). -/
def State.apertureRead (m : Master) (a : Nat) (e : HayEcc) (s : State) : State :=
  let line := a / 64
  let w := s.hayWord a
  let s := s.useFree.when (s.isRetired (a / 4096)) fun s => s.raise F.HAY_APT_STATUS_RETIRED
  let s :=
    if s.blockOpen (a / 65536) then
      (s.hayDecode line e false).when (s.hay.poison.contains line || s.eccOf line e == .ue) fun s =>
          s.raise F.HAY_APT_STATUS_POISON
    else s.raise F.HAY_APT_STATUS_UNOPENED
  s.answer m w

/-- A write through the aperture: discarded outside the capture area but for an open test window. -/
def State.apertureWrite (a : Nat) (v : W32) (s : State) : State :=
  let s := s.when (s.isRetired (a / 4096)) fun s => s.raise F.HAY_APT_STATUS_RETIRED
  if s.inCap a || s.flag F.SAF_WIN_STATUS_OPEN then s.mergeIn a (bytesOf v)
  else (s.raise F.HAY_APT_STATUS_DENIED).raise F.HAY_EVT_APT_DENIED

/-- The physical address of an aperture offset. -/
def State.aptPhys (s : State) (off : Nat) : Nat := s.fld F.HAY_APERTURE_PAGE_PAGE * 2 ^ 28 + off % 2 ^ 28

/-- The fabric's address of the word at offset `off` of the window. -/
def aptBus (off : Nat) : Nat := 0x80000000 + off % 2 ^ 28 / 4 * 4

/-- An access of the aperture window finds HAY answering, or is recorded (R353); beyond the capacity of a ZQ2000 it
meets a domain that is fused off (R5). -/
def State.aptGuard (m : Master) (write : Bool) (off : Nat) (f : State → State) (s : State) : State :=
  let addr := aptBus off
  if s.blockOn 8 0x80000 then
    if s.hayBytes ≤ s.aptPhys off then
      let s := s.accessErr m write false 8 addr
      if write then s else s.answer m badWord
    else f s
  else
    let s := s.accessErr m write (s.inReset 8 0x80000) (s.errDom 8) addr
    if write then s else s.answer m badWord

/-- APERTURE_READ (R199): the 32-bit word at offset `off` of the window. -/
def execApertureRead (m : Master) (off : Nat) (e : HayEcc) (s : State) : Host.Outcome State Fault Refusal :=
  .next (s.issue m (aptBus off) none (State.aptGuard m false off fun s => s.apertureRead m (s.aptPhys off / 4 * 4) e))

/-- APERTURE_WRITE (R199). -/
def execApertureWrite (m : Master) (off : Nat) (v : W32) (s : State) : Host.Outcome State Fault Refusal :=
  .next (s.issue m (aptBus off) (some v) (State.aptGuard m true off fun s => s.apertureWrite (s.aptPhys off / 4 * 4) v))

/-! ## Configuration -/

/-- A write of HAY_CFG: the sizes take it only while ADMIT_EN is 0, no reservation is held and capture is off, judged on
the state before (Table 8.11). -/
def State.hayCfgWrite (v : W32) (s : State) : State :=
  let open' := !s.flag F.HAY_CFG_ADMIT_EN && s.dskRes == 0 && !s.flag F.HAY_CAP_CFG_EN
  let old := s.rd (R .HAY_CFG)
  let s := s.plainWrite (R .HAY_CFG) v
  if open' then s
  else
    (s.wr (R .HAY_CFG) (F.HAY_CFG_DSK_SIZE.put (F.HAY_CFG_DSK_SIZE.get old) (F.HAY_CFG_CAP_SIZE.put
      (F.HAY_CFG_CAP_SIZE.get old) (s.rd (R .HAY_CFG))))).when
      (F.HAY_CFG_DSK_SIZE.get old != F.HAY_CFG_DSK_SIZE.get v || F.HAY_CFG_CAP_SIZE.get old != F.HAY_CFG_CAP_SIZE.get v)
      fun s => s.raise F.HAY_EVT_CFG_DISCARD

/-- HAY_CFG_WRITE (R179): ADMIT_EN decides between the two pools' back-pressure, which is brought up to date. -/
def execHayCfgWrite (m : Master) (v : W32) (s : State) : Host.Outcome State Fault Refusal :=
  .next (s.guardW m (R .HAY_CFG) v fun s => ((s.hayCfgWrite v).each (s.insts .SOF_PH_W6) State.xoffFlow).pauseAll)

end Sys2Proof.Machine
end

