-- ==== Sys2Proof/Machine/MacSec.lean ====
section
/-! DEFINITION. MACsec on host-side flows (R205 to R207): the SecTAG, the IV, a protected frame and what a verified
frame becomes. Table 9.2 leaves the layout to IEEE 802.1AE. -/

namespace Sys2Proof.Machine

/-- What AES-256-GCM makes of a plaintext: a ciphertext of its length, and the 16-byte tag. PRESUMED, safe (log 10). -/
def gcmSeal (key : BitVec 256) (iv : BitVec 96) (aad pt : List Byte) : List Byte :=
  let x := Config.gcm key iv aad pt
  fit pt.length x.1 ++ fit 16 x.2

/-- A frame's FCS. PRESUMED, safe (log 10). -/
def fcsOf (l : List Byte) : List Byte := leBytes 4 (crc32 l)

/-! ## The SecTAG -/

/-- A SecTAG (IEEE 802.1AE): whether it carries an SCI, its AN, the 32 bits of its PN, and the SCI.
PRESUMED, unsafe (log 11). -/
structure SecTag where
  sc : Bool
  an : Nat
  pn : Nat
  sci : Nat
  deriving DecidableEq, Repr

/-- The bytes of a SecTAG, its EtherType first. PRESUMED, unsafe (log 11). -/
def SecTag.size (t : SecTag) : Nat := if t.sc then 16 else 8

/-- The SecTAG that is sent over `n` bytes of secure data (Table 9.2): ES = 0, SCB = 0, E and C with confidentiality,
the short length below 48 bytes. PRESUMED, unsafe (log 11). -/
def SecTag.bytes (t : SecTag) (conf : Bool) (n : Nat) : List Byte :=
  [0x88, 0xE5, BitVec.ofNat 8 (32 * bit t.sc + 12 * bit conf + t.an % 4), BitVec.ofNat 8 (if n < 48 then n else 0)] ++
    beBytes 4 t.pn ++ (if t.sc then beBytes 8 t.sci else [])

/-- The SecTAG after the source address; nothing where it is malformed. PRESUMED, unsafe (log 11). -/
def parseTag (l : List Byte) : Option SecTag :=
  let tci := byteAt l 14
  let sc := tci / 32 % 2 == 1
  let n := if sc then 28 else 20
  if l.length < n + 20 || 128 ≤ tci || (sc && (tci / 64 % 2 == 1 || tci / 16 % 2 == 1)) || 64 ≤ byteAt l 15 then none
  else some { sc := sc, an := tci % 4, pn := beAt l 16 4, sci := if sc then beAt l 20 8 else 0 }

/-- The IV of a frame (R206): SCI and PN for GCM-AES-256, the salt with SSCI and the 64-bit PN for GCM-AES-XPN-256.
PRESUMED, unsafe (log 11). -/
def State.macIv (s : State) (k : Nat) (salt : BitVec 96) (sci pn : Nat) : BitVec 96 :=
  if s.flag F.CIP_CTX_CFG_XPN k then salt ^^^ BitVec.ofNat 96 (s.rdN (R .CIP_SSCI k) * 2 ^ 64 + pn % 2 ^ 64)
  else BitVec.ofNat 96 (sci % 2 ^ 64 * 2 ^ 32 + pn % 2 ^ 32)

/-! ## Protection and its removal -/

/-- The SecTAG of flow `f`'s next frame, at packet number `pn` (R205, R206). -/
def State.txTag (s : State) (f pn : Nat) : SecTag :=
  { sc := s.flag F.CIP_CTX_CFG_SCI_EN f, an := s.fld F.CIP_CTX_CFG_TX_AN f, pn := pn % 2 ^ 32
    sci := s.rdN (R .CIP_SCI_HI f) * 2 ^ 32 + s.rdN (R .CIP_SCI_LO f) }

/-- A frame of flow `f` under a key (R205, R206): the SecTAG after the source address, the rest up to the FCS with
confidentiality or in clear, the ICV, and the FCS anew. PRESUMED, unsafe (log 11). -/
def State.protect (s : State) (f : Nat) (k : CipKey) (l : List Byte) : List Byte :=
  let t := s.txTag f k.txPn
  let conf := s.flag F.CIP_CTX_CFG_CONF f
  let body := (l.drop 12).take (l.length - 16)
  let head := l.take 12 ++ t.bytes conf body.length
  let iv := s.macIv f k.salt t.sci k.txPn
  let x := head ++ (if conf then gcmSeal k.key iv head body else body ++ gcmSeal k.key iv (head ++ body) [])
  x ++ fcsOf x

/-- The bytes of a received frame that its tag covers in clear: up to the SecTAG's end, or up to the ICV where the
context has no confidentiality. PRESUMED, unsafe (log 11). -/
def macAad (l : List Byte) (t : SecTag) (conf : Bool) : List Byte :=
  if conf then l.take (12 + t.size) else l.take (l.length - 20)

/-- A verified frame loses its SecTAG and its ICV (R207): its addresses, the data, as decrypted or as received, and the
FCS anew. PRESUMED, unsafe (log 11). -/
def untag (l : List Byte) (conf : Bool) (out : List Byte) : List Byte :=
  match parseTag l with
  | none => l
  | some t =>
    let n := l.length - 12 - t.size - 20
    let x := l.take 12 ++ (if conf then fit n out else (l.drop (12 + t.size)).take n)
    x ++ fcsOf x

/-! ## Received frames -/

/-- The receive channel a SecTAG on group `gid` belongs to (R207). PRESUMED, unsafe (log 11). -/
def State.rxChannel (s : State) (gid : Nat) (t : SecTag) : Option Nat :=
  (s.insts .CIP_RXC).find? fun i =>
    s.flag F.CIP_RXC_VALID i && s.fld F.CIP_RXC_GID i == gid &&
      s.rdN (R .CIP_RXC_SCI_HI i) * 2 ^ 32 + s.rdN (R .CIP_RXC_SCI_LO i) == t.sci

/-- The lowest PN context `k` accepts in an association whose next expected PN is `next` (R207). -/
def State.lowPn (s : State) (k next : Nat) : Nat := max (next - s.fld F.CIP_REPLAY_WIN_WIN k) 1

/-- The 64-bit PN of a received frame: as sent for GCM-AES-256, recovered from the lowest acceptable one for XPN.
PRESUMED, unsafe (log 11). -/
def State.fullPn (s : State) (k next pn : Nat) : Nat :=
  if !s.flag F.CIP_CTX_CFG_XPN k then pn
  else
    let low := s.lowPn k next
    let hi := low / 2 ^ 32
    (if pn < 2 ^ 31 && 2 ^ 31 ≤ low % 2 ^ 32 then hi + 1 else hi) * 2 ^ 32 + pn

end Sys2Proof.Machine
end

