-- ==== Sys2Proof/Machine/Stream.lean ====
section
/-! DEFINITION. The transmit stream of a group: its tiles and markers (R140), the idle records (R160) and the seals of
an encrypted group (R208, R209, R211). -/

namespace Sys2Proof.Machine

/-! ## Tiles and markers (R140) -/

/-- The bytes of a marker round of group page `g`: 32 KB for each member. -/
def State.roundBytes (s : State) (g : Nat) : Nat := 32768 * max 1 (s.fld F.LFM_GRP_CFG_MEMBERS g)

/-- Bytes of group page `g`'s stream, dealt to its members in tiles; where a round ends, every member has its marker. -/
def State.streamOut (g : Nat) (l : List Byte) (s : State) : State :=
  let m := s.fld F.LFM_GRP_CFG_MEMBERS g
  let r := s.roundBytes g
  let x := s.grp g
  let p := x.pos % r
  let full := decide (r ≤ p + l.length)
  let one := fun n => dealBytes m p n (l.take (r - p)) ++
    if full then beBytes 16 (groupMarker (s.gid g) x.round n).toNat ++ dealBytes m 0 n (l.drop (r - p)) else []
  s.modGrp g fun x => { x with
    out := l, dealt := (List.range m).map one
    pos := if full then p + l.length - r else p + l.length
    round := if full then (x.round + 1) % 2 ^ 32 else x.round }

/-! ## Seals -/

/-- Where the ciphertext of a seal of group page `g` closes it (R209). -/
def State.sealLimit (s : State) (g : Nat) : Nat :=
  if s.flag F.LFM_GRP_CFG_EXPRESS g then 2048 else 1024 * (s.fld F.CIP_GCX_CFG_SEAL_MAX g + 1)

/-- Seals of group page `g` are on their way through the engine. -/
def State.sealsBusy (s : State) (g : Nat) : Bool := (s.cip.msgs ++ s.cip.wait).any fun m => m.kind == .seal g

/-- Where the next seal of group page `g` is to stand: behind those under way, or where the stream is. -/
def State.sealPos (s : State) (g : Nat) : Nat :=
  (if s.sealsBusy g then (s.gctx g).pos else (s.grp g).pos) % s.roundBytes g

/-- The key and the association of group page `g`'s active transmit slot, while LFM is ON (R209). -/
def State.sealKey (s : State) (g : Nat) : Option CipKey :=
  if s.domOn 6 then s.grpKey g (s.fld F.CIP_GCX_CFG_TX_AN g) else none

/-- A seal of group page `g` begins: it takes the next PN of the active slot, its key and its place (R209). -/
def State.sealOpen (g : Nat) (s : State) : State :=
  let an := s.fld F.CIP_GCX_CFG_TX_AN g
  let pn := (s.gctx g).txPn.get 0 an + 1
  let w := sealPlace (s.roundBytes g) (s.sealLimit g) (s.sealPos g)
  match s.sealKey g with
  | none => s
  | some k => s.modGctx g fun x => { x with
      txPn := x.txPn.set 0 an pn, cap := w.2.2, pos := w.2.1
      build := some { Msg.base (.seal g) (s.flag F.LFM_GRP_CFG_EXPRESS g) 0 an pn k.key with
        iv := sealIv k.salt (s.gid g) pn, lead := w.1 } }

/-- The seal under construction of group page `g` is complete: the engine takes it, with its header as additional data
(R208). -/
def State.sealClose (g : Nat) (s : State) : State :=
  match (s.gctx g).build with
  | none => s
  | some m =>
    let n := m.data.length
    (s.modGctx g fun x => { x with build := none, pos := (x.pos + 32 + n) % s.roundBytes g }).newMsg
      { m with len := n, aad := (sealList m.an (n / 4) (s.gid g) m.pn).take 14 }

/-- A flow's share of a message's bytes made larger by `n`. -/
def addShare (f n : Nat) (l : List (Nat × Nat)) : List (Nat × Nat) :=
  if l.any fun e => e.1 = f then l.map fun e => if e.1 = f then (f, e.2 + n) else e else l ++ [(f, n)]

/-- Bytes of a record of flow `f` laid into the seals of group page `g`, which close as they are full (R209). -/
def State.sealGo (g f : Nat) : Nat → List Byte → State → State
  | 0, _, s => s
  | n + 1, l, s =>
    if l.isEmpty then s
    else
      let s := if (s.gctx g).build.isNone then s.sealOpen g else s
      match (s.gctx g).build with
      | none => s
      | some m =>
        let k := min l.length ((s.gctx g).cap - m.data.length)
        let s := s.modGctx g fun x => { x with build := some { m with
          data := m.data ++ l.take k, own := addShare f k m.own } }
        State.sealGo g f n (l.drop k) (if (s.gctx g).cap ≤ m.data.length + k then s.sealClose g else s)

/-- A record of flow `f` enters the seals of group page `g` (R209): in an express group a seal closes with every record,
in either class where no further frame is ready (`more` false). -/
def State.sealAdd (g f : Nat) (l : List Byte) (more : Bool) (s : State) : State :=
  (s.sealGo g f (l.length + 1) l).when (s.flag F.LFM_GRP_CFG_EXPRESS g || !more) (State.sealClose g)

/-- A seal that has passed the engine goes into the stream (R208): the bare idle before it, header, ciphertext and tag;
one that was discarded leaves zeros (R217). -/
def State.sealSent (g : Nat) (m : Msg) (ok : Bool) (s : State) : State :=
  let x := Config.gcm m.key m.iv m.aad m.data
  let l := sealList m.an (m.data.length / 4) (s.gid g) m.pn ++ fit m.data.length x.1 ++ fit 16 x.2
  s.streamOut g (((List.replicate (m.lead / 4) idleRecord).flatten) ++ if ok then l else List.replicate l.length 0)

/-! ## What is sent -/

/-- Group page `g` is encrypted. -/
def State.grpEnc (s : State) (g : Nat) : Bool := s.flag F.LFM_GRP_CFG_ENC g

/-- What a record of `n` bytes costs its flow at group page `g` (R211): in an encrypted group the header and the tag of
every seal it lies in count as bytes of it. DEDUCED, unsafe (log 77). -/
def State.sealCost (s : State) (g n : Nat) : Nat :=
  if !s.grpEnc g then 0
  else
    let b := (s.gctx g).build
    32 * sealSpan (s.roundBytes g) (s.sealLimit g) 24 (if b.isSome then (s.gctx g).pos else s.sealPos g)
      ((b.map fun m => m.data.length).getD 0) (if b.isSome then (s.gctx g).cap else 0) n

/-- No frame is ready at group page `g` (R160, R209): an idle record goes out; in an encrypted group the seal under
construction closes, idle goes out between seals, and one whose active slot has no key sends its tiles as zeros.
DESIGN CHOICE, safe (log 24). -/
def State.sendIdle (g : Nat) (s : State) : State :=
  if !s.grpEnc g then s.streamOut g idleRecord
  else if (s.sealKey g).isNone then s.streamOut g (List.replicate (32 - (s.grp g).pos % 32) 0)
  else if (s.gctx g).build.isSome then s.sealClose g
  else if s.sealsBusy g then s
  else s.streamOut g idleRecord

end Sys2Proof.Machine
end

