-- ==== Sys2Proof/Machine/Admit.lean ====
section
/-! DEFINITION. The Sorting Office's traffic (spec/07): the key of a frame and its flow, policing, key check, admission
and placement (R154 to R159, R175, R179, R181), delineation (R161), and the schedulers (R162). -/

namespace Sys2Proof.Machine

/-! ## The key of a frame (R154, Table 7.8) -/

/-- A frame has a first tag. -/
def tagged (l : List Byte) : Bool := half l 12 == 0x8100 || half l 12 == 0x88A8

/-- A frame has a second tag. -/
def tagged2 (l : List Byte) : Bool := tagged l && half l 16 == 0x8100

/-- Where the type after the tags stands. PRESUMED, unsafe (log 11). -/
def typeAt (l : List Byte) : Nat := if tagged2 l then 20 else if tagged l then 16 else 12

/-- The type after the tags, as the key has it. PRESUMED, unsafe (log 11). -/
def l3Of (l : List Byte) : Nat :=
  match half l (typeAt l) with
  | 0x8847 | 0x8848 => 1
  | 0xAEFE => 2
  | _ => 0

/-- The three key words of a frame from source `src`, laid out as words 0 to 2 of an entry.
PRESUMED, unsafe (log 11). -/
def keyOf (src : Nat) (l : List Byte) : W32 × W32 × W32 :=
  let t := tagged l
  let l3 := l3Of l
  let p := typeAt l + 2
  let et := if l3 = 2 then byteAt l (p + 1) else 0
  (F.SOF_PH_W0_SRC.put src (F.SOF_PH_W0_OTAG.put (bit t) (F.SOF_PH_W0_ITAG.put (bit (tagged2 l))
    (F.SOF_PH_W0_PCP.put (if t then byteAt l 14 / 32 else 0) (F.SOF_PH_W0_L3.put l3
      (F.SOF_PH_W0_OVID.put (if t then half l 14 else 0) 0))))),
   F.SOF_PH_W1_IVID.put (if tagged2 l then half l 18 else 0)
     (F.SOF_PH_W1_LABEL.put (if l3 = 1 then byteAt l p * 4096 + half l (p + 1) / 16 else 0) 0),
   F.SOF_PH_W2_ECPRI_TYPE.put et (F.SOF_PH_W2_ECPRI_ID.put (if l3 = 2 && et ≤ 2 then half l (p + 4) else 0) 0))

/-- Entry `f` is valid and matches a key under its mask. -/
def State.entryHit (s : State) (k : W32 × W32 × W32) (f : Nat) : Bool :=
  s.flag F.SOF_PH_W6_VALID f &&
  (k.1 ^^^ s.rd (R .SOF_PH_W0 f)) &&& s.rd (R .SOF_PH_W3 f) == 0 &&
  (k.2.1 ^^^ s.rd (R .SOF_PH_W1 f)) &&& s.rd (R .SOF_PH_W4 f) == 0 &&
  (k.2.2 ^^^ s.rd (R .SOF_PH_W2 f)) &&& s.rd (R .SOF_PH_W5 f) == 0

/-- The lowest-numbered entry that matches. -/
def State.classify (s : State) (src : Nat) (l : List Byte) : Option Nat :=
  (s.insts .SOF_PH_W6).find? (s.entryHit (keyOf src l))

/-! ## Policing, key check, admission -/

/-- The policer takes a frame of `len` bytes (R158): whether it conforms, and the bucket after.
DESIGN CHOICE, unsafe (log 22). -/
def State.police (f len : Nat) (s : State) : Bool × State :=
  if s.fld F.SOF_FP_W0_PO_RATE f = 0 then (true, s)
  else
    let b := min (s.flow f).pol (s.fld F.SOF_FP_W0_PO_BURST f * 32768)
    if 8 * len ≤ b then (true, s.modFlow f fun fl => { fl with pol := b - 8 * len }) else (false, s)

/-- The association of a frame of flow `f` can be applied (R14, R156, R209): a protected flow and an encrypted group
have a valid key in their active slot and LFM is ON (Table 1.3), a line-to-host flow with CIP_EN takes verified frames
alone. -/
def State.keyCheck (s : State) (f : Nat) (verified : Bool) : Bool :=
  let cip := s.flag F.SOF_PH_W6_CIP_EN f
  if s.toLine f then
    (!cip || (s.domOn 6 && s.txKeyOk f)) &&
      match s.homeOf (s.fld F.SOF_PH_W6_EGRESS f) with
      | some g => !s.grpEnc g || (s.sealKey g).isSome
      | none => true
  else !cip || verified

/-- The stored length of a frame of flow `f`: with its MACsec expansion (R159, Table 9.2). -/
def State.stored (s : State) (f len : Nat) : Nat :=
  if s.toLine f && s.flag F.SOF_PH_W6_CIP_EN f then len + (if s.flag F.CIP_CTX_CFG_SCI_EN f then 32 else 24) else len

/-- Where a frame of `n` stored bytes of flow `f` goes (R175, R179, R181); nothing where its space is refused, or while
SOF is asked to stop (Table 15.3). -/
def State.placeFrm (s : State) (f n : Nat) : Option Place :=
  if s.asking 7 then none else
  let fl := s.flow f
  let fitsQuota := fl.cells .quota + shedCells n ≤ 256 * s.fld F.SOF_FP_W3_SHED_QUOTA f
  if s.flag F.SOF_PH_W6_SPILL f && (s.spillOn || (fl.inHay && s.domOn 8)) then
    if !fl.inHay && fitsQuota then some .quota
    else
      if fl.newPages n + s.usedPages ≤ s.flowPages then some .hayloft else none
  else if fitsQuota then some .quota
  else if s.shedPool + shedCells n ≤ s.sharedSize then some .shared
  else none

/-- The frame of flow `f` that is stored: protected with the active slot's key where the flow has a cipher association.
-/
def State.storedBytes (s : State) (f : Nat) (l : List Byte) : List Byte :=
  if s.toLine f && s.flag F.SOF_PH_W6_CIP_EN f then
    match s.flowKey f (s.fld F.CIP_CTX_CFG_TX_AN f) with
    | some k => s.protect f k l
    | none => l
  else l

/-- The message that protects a frame of flow `f`, `n` bytes as stored (R206). -/
def State.protectMsg (s : State) (f n : Nat) (l : List Byte) (k : CipKey) : Msg :=
  let t := s.txTag f k.txPn
  { Msg.base (.protect f) (s.flag F.SOF_PH_W6_EXPRESS f) n t.an k.txPn k.key with
    iv := s.macIv f k.salt t.sci k.txPn
    aad := l.take 12 ++ t.bytes (s.flag F.CIP_CTX_CFG_CONF f) (l.length - 16)
    data := l, conf := s.flag F.CIP_CTX_CFG_CONF f }

/-- A frame admitted to flow `f` at place `p` (R159): counted, captured, given to the engine where the flow is
protected, and queued for the flow's egress. DESIGN CHOICE, safe (log 19). DESIGN CHOICE, unsafe (log 20). -/
def State.enqueue (f : Nat) (bytes : List Byte) (p : Place) (s : State) : State :=
  let protect := s.toLine f && s.flag F.SOF_PH_W6_CIP_EN f
  let data := s.storedBytes f bytes
  let n := data.length
  let s := ((s.bumpFlow .SOF_ACC_FRM_LO .SOF_ACC_FRM_HI f).addBytes .SOF_ACC_BYTE_LO .SOF_ACC_BYTE_MID .SOF_ACC_BYTE_HI
    f n).count 0x091 f ((n + 63) / 64)
  let s := s.capture f data
  let x : Frm := { bytes := data, len := n, place := p, off := (s.flow f).hayIn, line := s.toLine f
                   egress := s.egressOf f, exp := s.flag F.SOF_PH_W6_EXPRESS f, prio := s.fld F.SOF_PH_W6_PRIO f
                   msg := if protect then some s.cip.next else none, errored := false, poison := false }
  let s := s.modFlow f fun fl => { fl with q := fl.q ++ [x] }
  let s := s.when (p == .hayloft) (State.hayAppend f data)
  let s := match if protect then s.flowKey f (s.fld F.CIP_CTX_CFG_TX_AN f) else none with
    | some k => (s.takePn f).newMsg (s.protectMsg f n bytes k)
    | none => s
  s.readBack.thresholds f

/-- A classified frame of flow `f` is policed, key-checked and admitted or discarded, in that order (R159, R163). -/
def State.frameIn (f : Nat) (bytes : List Byte) (verified marked : Bool) (s : State) : State :=
  if marked then s.bumpFlow .SOF_ERR_DROP_LO .SOF_ERR_DROP_HI f
  else
    let (ok, s) := s.police f bytes.length
    if !ok then s.bumpFlow .SOF_POL_DROP_LO .SOF_POL_DROP_HI f
    else if !s.keyCheck f verified then
      (s.when (s.toLine f && s.flag F.SOF_PH_W6_CIP_EN f) (State.pnSpent f)).bumpFlow .SOF_KEY_DROP_LO .SOF_KEY_DROP_HI f
    else if s.flag F.SOF_PH_W6_EXPRESS f && s.egressHeld f (s.egressOf f) then
      s.bumpFlow .SOF_PATH_DROP_LO .SOF_PATH_DROP_HI f
    else if 65536 * s.fld F.SOF_FP_W2_QLIMIT f < s.occ f + s.stored f bytes.length then
      s.bumpFlow .SOF_QUE_DROP_LO .SOF_QUE_DROP_HI f
    else
      match s.placeFrm f (s.stored f bytes.length) with
      | some p => s.enqueue f bytes p
      | none => s.bumpFlow .SOF_QUE_DROP_LO .SOF_QUE_DROP_HI f

/-! ## Frames of a group stream -/

/-- A line-to-host frame of group page `g` is classified (R154, R156). -/
def State.lineClass (g : Nat) (bytes : List Byte) (verified marked : Bool) (s : State) : State :=
  match s.classify (4096 + s.gid g) bytes with
  | some f => s.frameIn f bytes verified marked
  | none => s.bump (R .SOF_LINE_UNCLASS)

/-- A frame with a SecTAG on group page `g` (R207): its receive channel and key, and the verification's message. A
marked frame keeps its mark, for R105 discards it once it is classified. -/
def State.secIn (g : Nat) (fr : Frame) (s : State) : State :=
  match (parseTag fr.bytes).bind fun t => (s.rxChannel (s.gid g) t).map fun i => (t, i) with
  | none => (s.bump (R .CIP_NO_SC_CNT)).raise F.CIP_EVT_NO_SC
  | some (t, i) =>
    let k := s.fld F.CIP_RXC_KEYSET i
    match s.flowKey k t.an with
    | none => s.add64 (R .CIP_NO_SA_DROP_LO k) (R .CIP_NO_SA_DROP_HI k) 1
    | some key =>
      let pn := s.fullPn k key.rxPn t.pn
      let conf := s.flag F.CIP_CTX_CFG_CONF k
      s.newMsg { Msg.base (.verify g k) (s.flag F.LFM_GRP_CFG_EXPRESS g) fr.bytes.length t.an pn key.key with
        iv := s.macIv k key.salt t.sci pn, aad := macAad fr.bytes t conf, data := fr.bytes, conf := conf
        mark := fr.marked }

/-- The newest verification of group page `g` that has not been released. -/
def State.lastVerify (s : State) (g : Nat) : Option Nat :=
  (((s.cip.msgs ++ s.cip.wait).filter fun m => match m.kind with
    | .verify h _ => h == g
    | _ => false).map Msg.id).max?

/-- A frame of group page `g` without a SecTAG: it waits behind the group's verifications, so that every flow keeps its
order (R13, R17). -/
def State.plainIn (g : Nat) (fr : Frame) (s : State) : State :=
  match s.lastVerify g with
  | some id => s.modGctx g fun x => { x with behind := x.behind ++ [(id, fr)] }
  | none => s.lineClass g fr.bytes false fr.marked

/-- A delineated frame of group page `g`: one whose key bytes are marked cannot be classified and counts in
GRP_DELIN_CNT alone (R161). -/
def State.lineFrame (g : Nat) (fr : Frame) (s : State) : State :=
  if fr.keyMarked then s.bump (R .SOF_GRP_DELIN_CNT g)
  else if half fr.bytes 12 = 0x88E5 then s.secIn g fr
  else s.plainIn g fr

/-- The frames that wait behind message `id` of group page `g` are classified. -/
def State.flushBehind (g id : Nat) (s : State) : State :=
  let l := (s.gctx g).behind.filter fun e => e.1 = id
  if l.isEmpty then s
  else
    (s.modGctx g fun x => { x with behind := x.behind.filter fun e => e.1 ≠ id }).each l fun e s =>
      s.lineClass g e.2.bytes false e.2.marked

/-- The delineator of group page `g`. -/
def State.dl (s : State) (g : Nat) : Delin := s.delin.get Delin.init g

/-- A group stream returns to HUNT (R161): the frame after the last valid header is discarded, and in SYNC the loss is
counted. -/
def State.delinLoss (g : Nat) (s : State) : State :=
  let was := (s.dl g).st
  let s := { s with delin := s.delin.set Delin.init g Delin.init }
  s.when (was == 2) fun s => (s.bump (R .SOF_GRP_DELIN_CNT g)).raise F.SOF_EVT_DELIN_LOSS

/-- A record header at the position the stream has reached (R161): `fr` is the frame of a frame record, which is
delivered once the next header is found valid. What stands before the first SYNC is discarded. -/
def State.recHeader (g w : Nat) (marked : Bool) (fr : Frame) (s : State) : State :=
  let d := s.dl g
  if marked || !recOk w then s.delinLoss g
  else
    let next := if w / 65536 % 4 = 1 then some { fr with marked := fr.marked || d.dirty } else none
    let d' : Delin := if d.st = 0 then ⟨1, none, d.dirty⟩ else ⟨2, next, d.dirty && next.isNone⟩
    let s := { s with delin := s.delin.set Delin.init g d' }
    match if d.st = 2 then d.held else none with
    | some x => s.lineFrame g x
    | none => s

/-- RECORD_HEADER (R161): on a group in service whose payload is delivered. An encrypted group's records come from its
opened seals (R203). -/
def execRecordHeader (g word : Nat) (marked : Bool) (fr : Frame) (s : State) : Host.Outcome State Fault Refusal :=
  .next (if s.domOn 7 && s.domOn 6 && g < 160 && s.grpUp g && s.grpPays g && !s.grpEnc g then
    s.recHeader g word marked fr else s)

/-- The records in the opened bytes of group page `g` are delineated, the last as far as it has come (R203). -/
def State.openRecords (g : Nat) : Nat → State → State
  | 0, s => s
  | n + 1, s =>
    let l := (s.gctx g).clear
    let w := beAt l 0 4
    let len := w / 2 ^ 18
    let size := if recOk w && w / 65536 % 4 == 1 then recordBytes len else 4
    if l.length < max 4 size then s
    else
      let fr : Frame := { bytes := (l.drop 4).take len, fcsOk := true, keyMarked := false, marked := false }
      State.openRecords g n ((s.modGctx g fun x => { x with clear := l.drop size }).recHeader g w false fr)

/-! ## Schedulers (R162) -/

/-- A host pauses priority `prio` of port `e`, or the whole port (R169). -/
def State.paused (s : State) (e prio : Nat) : Bool :=
  s.flag F.SOF_PORT_STATUS_PAUSED_ALL e || s.fld F.SOF_PORT_STATUS_RX_PAUSED e / 2 ^ prio % 2 == 1

/-- The length of the frame at a flow's head. -/
def State.headLen (s : State) (f : Nat) : Nat := ((s.flow f).q.head?.map Frm.len).getD 0

/-- What the frame at flow `f`'s head costs it in deficit and shaper (R162, R211). -/
def State.headCost (s : State) (f : Nat) : Nat :=
  match (s.flow f).q.head? with
  | some x => x.len + match if x.line then s.homeOf x.egress else none with
      | some g => s.sealCost g (recordBytes x.len)
      | none => 0
  | none => 0

/-- Flow `f` has a frame that may leave to egress `e` (a group's GID, or a port): its lines are in the Shed (R180), the
shaper lets it, and neither a hold nor the host stops it. A port bound to an OIF carrier takes none (R153). -/
def State.eligible (s : State) (line : Bool) (e : Nat) (express : Bool) (f : Nat) : Bool :=
  match (s.flow f).q with
  | [] => false
  | x :: _ =>
    x.line == line && x.exp == express && x.egress == e && x.msg.isNone && (s.flow f).arrived x &&
      (s.fld F.SOF_FP_W1_SH_RATE f == 0 || decide (0 ≤ (s.flow f).shp)) && !s.held line e &&
      (line || (!s.paused e x.prio && s.fld F.SOF_PORT_CFG_OIF_CA e == 0))

/-- The flows of a class that may send to an egress, ascending. -/
def State.ready (s : State) (line : Bool) (e : Nat) (express : Bool) : List Nat :=
  (s.flows.map (·.1)).filter (s.eligible line e express)

/-- Deficit round robin over the ready flows from flow `c` on, ascending: the flow that sends. -/
def State.drrGo (l : List Nat) : Nat → Nat → State → Nat × State
  | 0, c, s => (c, s)
  | n + 1, c, s =>
    if l.contains c && s.headCost c ≤ (s.flow c).dfc then (c, s)
    else
      let c := (l.find? (c < ·)).getD (l.headD 0)
      State.drrGo l n c (s.modFlow c fun fl => { fl with dfc := fl.dfc + 1024 * max (s.fld F.SOF_FP_W3_WEIGHT c) 1 })

/-- A frame of flow `f` goes to egress `e`: into the group's stream as a record, through the engine where the group is
encrypted, or out of the port. -/
def State.emit (f : Nat) (line : Bool) (e : Nat) (l : List Byte) (s : State) : State :=
  match if line then s.homeOf e else none with
  | some g =>
    if s.grpEnc g then
      s.sealAdd g f (frameRecord l) (!(s.ready true e (s.flag F.LFM_GRP_CFG_EXPRESS g)).isEmpty)
    else s.streamOut g (frameRecord l)
  | none =>
    s.when (!line) fun s => (s.modPort e fun x => { x with frame := l }).add64 (R .SOF_TX_OK_LO e) (R .SOF_TX_OK_HI e) 1

/-- A frame of egress `e` finds an encrypted group whose active slot has no key (R209). -/
def State.noKey (s : State) (line : Bool) (e : Nat) : Bool :=
  match if line then s.homeOf e else none with
  | some g => s.grpEnc g && (s.sealKey g).isNone
  | none => false

/-- The frame at the head of flow `f` is taken from its queue, and what it costs from deficit and shaper. -/
def State.takeHead (f : Nat) (s : State) : State :=
  let n := s.headCost f
  let s := s.modFlow f fun fl => { fl with
    dfc := fl.dfc - n, shp := if s.fld F.SOF_FP_W1_SH_RATE f = 0 then fl.shp else fl.shp - 8 * (n : Int) }
  (s.popHead f).modFlow f fun fl => { fl with dfc := if fl.q.isEmpty then 0 else fl.dfc }

/-- The Shed's words as the head frame is read (R176): a double-bit error marks a segment of the frame. -/
def State.shedRead (ecc : HayEcc) (s : State) : State :=
  match ecc with
  | .clean => s
  | .ce _ => s.bump (R .SOF_SHED_CE)
  | .ue => (s.bump (R .SOF_SHED_UE)).detect 8

/-- The frame at the head of flow `f` leaves to egress `e`. One with a marked segment (R176), or of an encrypted group
without a key (R209), is discarded instead. -/
def State.sendHead (f : Nat) (line : Bool) (e : Nat) (ecc : HayEcc) (s : State) : State :=
  let l := ((s.flow f).q.head?.map Frm.bytes).getD []
  let ecc := if s.segBad.contains 18 then .ue else ecc
  let s := ({ s with segBad := s.segBad.filter (· != 18) }.shedRead ecc).takeHead f
  let s :=
    if ecc = .ue then s.bumpFlow .SOF_ERR_DROP_LO .SOF_ERR_DROP_HI f
    else if s.noKey line e then s.bumpFlow .SOF_KEY_DROP_LO .SOF_KEY_DROP_HI f
    else
      ((s.bumpFlow .SOF_OUT_FRM_LO .SOF_OUT_FRM_HI f).addBytes .SOF_OUT_BYTE_LO .SOF_OUT_BYTE_MID .SOF_OUT_BYTE_HI f
        l.length).emit f line e l
  ((s.purge f).readBack).departed f

/-- Port `e` is the client of a carrier that receives in an OIF mode and is in frame (R153, R33). -/
def State.oifClient (s : State) (e : Nat) : Bool :=
  let c := s.fld F.SOF_PORT_CFG_OIF_CA e
  c != 0 && s.portUp e && s.rxMode (c - 1) != 0 && s.inFrame (8 * (c - 1))

/-- A scheduler sends one frame to its egress: express flows ahead of bulk, deficit round robin within the class. A
group without a frame ready sends idle; a port bound to an OIF carrier sends its client's frame past the Sorting Office.
-/
def State.frameSent (line : Bool) (e : Nat) (ecc : HayEcc) (s : State) : State :=
  let exp := !(s.ready line e true).isEmpty
  let l := s.ready line e exp
  if l.isEmpty then
    match if line then s.homeOf e else none with
    | some g => s.sendIdle g
    | none => s.when (!line && s.oifClient e) fun s => s.add64 (R .SOF_TX_OK_LO e) (R .SOF_TX_OK_HI e) 1
  else
    let key := (e * 2 + bit line) * 2 + bit exp
    let (f, s) := s.drrGo l (12 * l.length + 1) (s.drr.get 0 key)
    ({ s with drr := s.drr.set 0 key f }).sendHead f line e ecc

/-- FRAME_SENT (R162): the scheduler of an egress. -/
def execFrameSent (e : Egress) (ecc : HayEcc) (s : State) : Host.Outcome State Fault Refusal :=
  .next (if s.domOn 7 && !s.inReset 7 0 then s.frameSent e.line e.id ecc else s)

/-- GRP_HOLD_END (R163). -/
def execGrpHoldEnd (g : Nat) (s : State) : Host.Outcome State Fault Refusal :=
  .next (if s.domOn 7 && s.flag F.SOF_GRP_TXHOLD_HELD g && !s.holdCond g then s.setFld F.SOF_GRP_TXHOLD_HELD 0 g else s)

end Sys2Proof.Machine
end

