-- ==== Sys2Proof/Machine/Postmark.lean ====
section
/-! DEFINITION. Postmark's commands (spec/11): steps, adjustments, PTP, PPS_OUT and the time-of-day lines, time over the
wavelength, the timing chain and the time Postcards. -/

namespace Sys2Proof.Machine

/-! ## Steps and adjustments -/

/-- TIME_SET as the counter loads it (R256). -/
def State.timeSet (s : State) : Nat :=
  (s.rdN (R .PMK_TIME_SET_S_HI) * 2 ^ 32 + s.rdN (R .PMK_TIME_SET_S_LO)) * oneSec +
    min (s.rdN (R .PMK_TIME_SET_NS)) 999999999 * 65536

/-- A write of PMK.CTRL. -/
def State.pmkCtrlWrite (v : W32) (s : State) : State :=
  let s := s.when (F.PMK_CTRL_STEP.get v == 1) fun s => s.setFlag F.PMK_STATUS_STEP_PEND true
  s.when (F.PMK_CTRL_STEP_CANCEL.get v == 1) fun s => s.setFlag F.PMK_STATUS_STEP_PEND false

/-- A write of ADJ (R256): refused beyond ±1,000,000 ns, else it replaces what remains of the last. -/
def State.adjWrite (v : W32) (s : State) : State :=
  let z := signed 32 v.toNat
  if 1000000 < z.natAbs then s.raise F.PMK_EVT_ADJ_REFUSED
  else ((s.wr (R .PMK_ADJ) v).modPmk fun p => { p with adj := z * 65536,
                                                       adjAcc := 0 }).setFlag F.PMK_STATUS_ADJ_BUSY true

/-- STEP (R256). -/
def execPmkStep (m : Master) (s : State) : Host.Outcome State Fault Refusal :=
  .next (s.guardW m (R .PMK_CTRL) 1 (State.pmkCtrlWrite 1))

/-- STEP_CANCEL (R256). -/
def execStepCancel (m : Master) (s : State) : Host.Outcome State Fault Refusal :=
  .next (s.guardW m (R .PMK_CTRL) 2 (State.pmkCtrlWrite 2))

/-- R256: the pending step is applied at the second boundary. -/
def execStepped (s : State) : Host.Outcome State Fault Refusal :=
  .next (if s.stbOn && s.flag F.PMK_STATUS_STEP_PEND then
    (s.setFlag F.PMK_STATUS_STEP_PEND false).applyStep s.timeSet else s)

/-- ADJ (R256). -/
def execAdj (m : Master) (v : W32) (s : State) : Host.Outcome State Fault Refusal :=
  .next (s.guardW m (R .PMK_ADJ) v (State.adjWrite v))

/-- ADJ_DONE (R256). -/
def execAdjDone (s : State) : Host.Outcome State Fault Refusal :=
  .next (if s.stbOn && s.flag F.PMK_STATUS_ADJ_BUSY then s.adjDone else s)

/-- Candidate `i` carries phase (Table 10.1). -/
def State.timeCapable (s : State) (i : Nat) : Bool :=
  i == 10 || i == 11 || i == 12 || ((i == 13 || i == 14) && s.fld F.STB_REF_CFG_EXT_KIND i == 0)

/-- R257: `err` is the counter less the candidate's time over the previous second, in 2⁻¹⁶ ns. An EXT candidate steps
the sub-second part only; a software step due at the same boundary goes first. -/
def execAutoStep (err : Int) (s : State) : Host.Outcome State Fault Refusal :=
  .next <|
    let half : Int := (oneSec / 2 : Nat)
    let e := if 13 ≤ s.stbSel then (err + half) % (oneSec : Int) - half else err
    let th := 100 * 65536 * max 1 (s.fld F.PMK_CFG_STEP_TH)
    if s.stbOn && s.flag F.PMK_CFG_AUTO_STEP && s.stbSt == 1 && s.timeCapable s.stbSel &&
        !s.flag F.PMK_STATUS_STEP_PEND &&
        decide (th < e.natAbs) then
      (s.applyStep ((s.pmkTime : Int) - e).toNat).modStb fun b => { b with boOfs := b.boOfs - e }
    else s

/-- R257: the label of GNSS, or of the timing chain in sync, has disagreed for three seconds in LOCKED, HOLDOVER or
HOLDOVER_LIMIT. -/
def execSecMis (s : State) : Host.Outcome State Fault Refusal :=
  .next (if s.stbOn && 2 ≤ s.stbSt && s.stbSt ≤ 4 &&
      (3 ≤ s.pmk.gnssMis || (s.flag F.PMK_TCH_STATUS_IN_SYNC &&
          3 ≤ s.pmk.tchMis)) then s.raise F.PMK_EVT_SEC_MIS else s)

/-- R258: the second copy moves by `d` against the first, and the comparison finds them different. -/
def execTimeFault (d : Int) (s : State) : Host.Outcome State Fault Refusal :=
  .next (if s.stbOn then (s.modPmk fun p => { p with diff := p.diff + d }).timeFault else s)

/-! ## PTP -/

/-- R259, R262: firmware has taken `taken` held frames since the last; the frame is held with its timestamp, or dropped
where 256 are held. -/
def execPtpRx (p taken : Nat) (l : List Byte) (s : State) : Host.Outcome State Fault Refusal :=
  .next (if s.stbOn && s.domOn 1 && p < 16 && s.portUp p && s.flag F.PMK_PTP_CFG_PTP_EN p then
    (s.modPmk fun k => { k with ptp := k.ptp.drop taken }).ptpIn p l else s)

/-- R261: a one-step Sync leaves with its egress time in originTimestamp, the fraction added to correctionField and its
FCS anew; without TIME_VALID it is discarded and counted. -/
def execOneStepSync (p : Nat) (l : List Byte) (s : State) : Host.Outcome State Fault Refusal :=
  .next <|
    if !(s.stbOn && s.domOn 1 && p < 16 && s.portUp p) then s
    else if !s.timeOk then s.bump (R .PMK_PTP_TX_DROP)
    else
      let t := ((s.pmkTime : Int) + psUnits (signed 16 (s.rdN (R .PMK_TX_DLY p)))).toNat
      let ts := beBytes 6 (t / oneSec) ++ beBytes 4 (t % oneSec / 65536)
      let b := overlay (overlay l 22 (beBytes 8 ((beAt l 22 8 + t % 65536) % 2 ^ 64))) 48 ts
      let body := b.take (b.length - 4)
      s.modPmk fun k => { k with sync := some (p, body ++ leBytes 4 (crc32 body)) }

/-! ## PPS_OUT and the time-of-day lines -/

/-- R264, R265: the pulse of a second boundary rises, unless squelched. -/
def execPpsOut (s : State) : Host.Outcome State Fault Refusal :=
  .next <|
    if !s.stbOn then s
    else
      let s := s.ppsEval
      if s.ppsSq then s
      else s.modPmk fun k => { k with ppsEnd := s.us + 1000 * max 1 (min 500 (s.fld F.PMK_PPS_CFG_WIDTH)) }

/-- PPS_WIDTH_END (R264): WIDTH ms after its rising edge PPS_OUT falls. -/
def execPpsWidthEnd (s : State) : Host.Outcome State Fault Refusal :=
  .next (if s.stbOn && s.pmk.ppsEnd != 0 && decide (s.pmk.ppsEnd ≤ s.us) then s.modPmk fun k =>
      { k with ppsEnd := 0 } else s)

/-- The message of Table 11.2 for the second that has begun. -/
def State.todMsg (s : State) : List Byte :=
  let utc := s.rd (R .PMK_UTC)
  let b := [0x59#8, 0xA6#8, 0x01#8] ++ beBytes 6 s.sec ++ beBytes 2 (F.PMK_UTC_UTC_OFS.get utc) ++
    [BitVec.ofNat 8 (128 * bit (!s.ppsSq) + 64 * bit (s.flag F.PMK_STATUS_TIME_VALID) +
        32 * bit (s.flag F.PMK_UTC_LEAP61) +
        16 * bit (s.flag F.PMK_UTC_LEAP59) + s.outQl),
      BitVec.ofNat 8 (32 * s.stbSt), 0#8]
  b ++ beBytes 2 (crc16 112 (beAt b 0 14))

/-- R266. -/
def execTodMessage (s : State) : Host.Outcome State Fault Refusal :=
  .next (if s.stbOn && s.flag F.PMK_TOD_CFG_EN then s.modPmk fun k => { k with tod := s.todMsg } else s)

/-- R267: a ZDA sentence labels a pulse, or fails its checksum. -/
def execZda (ok : Bool) (utc : Nat) (s : State) : Host.Outcome State Fault Refusal :=
  .next <|
    if !s.stbOn then s
    else if !ok then s.bump (R .PMK_GNSS_ERR_CNT)
    else
      let tai := ((utc : Int) + signed 16 (s.fld F.PMK_UTC_UTC_OFS)).toNat
      let next := s.flag F.PMK_TOD_CFG_GNSS_ALIGN
      s.modPmk fun k => { k with
        gnss := some (tai, next), gnssMis := if tai = s.sec + bit next then 0 else k.gnssMis + 1 }

/-! ## Time over the wavelength -/

/-- The wavelength times 1,000 of a frequency in MHz, in pm, is c / f (R272). `A` in ps: the dispersions in 0.125 ps/nm,
both frequencies non-zero. -/
def asymPs (cdN cdF : Int) (fN fF : Nat) : Int :=
  (cdN + cdF) * 299792458000 * ((fF : Int) - (fN : Int)) / (16 * (fN : Int) * (fF : Int))

/-- The A of carrier `c` (R272); nothing where a frequency it needs is zero. -/
def State.asym (s : State) (c : Nat) : Option Int :=
  let extra := signed 32 (s.rdN (R .PMK_FIBRE_ASYM c))
  if !s.flag F.PMK_TT_CFG_SINGLE_FIBRE c then some extra
  else
    let fN := s.rdN (R .PMK_TX_FREQ c)
    let fF := s.rdN (R .PMK_FAR_FREQ c)
    if fN = 0 || fF = 0 then none
    else some (asymPs (s.cdNow c) (signed 20 (s.rdN (R .PMK_FAR_CD c))) fN fF + extra)

/-- A usable time message forms an exchange (R271 to R273). -/
def State.exchange (c : Nat) (x : TimeMsg) (s : State) : State :=
  let k := s.pmkCar c
  match (k.tx.find? fun e => e.1 == x.rxSeq), (k.rx.drop 1).head? with
  | some (_, t1), some t4 =>
    let s := match s.asym c with
      | some a => s.wrN (R .PMK_TT_ASYM c) (unsigned 32 a)
      | none => s
    match t4, s.asym c with
    | some t4, some a =>
      if x.valid && s.timeOk && x.cdValid && s.flag F.CAX_RX_CD_EST_CD_VALID c then
        let out := (x.tRx : Int) - (t1 : Int)
        let back := (t4 : Int) - (x.tTx : Int)
        s.modPmkCar c fun k => { k with ex := (t4 / oneSec, (out - back - psUnits a) / 2, out + back) :: k.ex }
      else s
    | _, _ => s
  | _, _ => s.raise F.PMK_TT_EVT_HIST_MISS c

/-- The time message of the multiframe that carrier `c`'s source subcarrier has brought: nothing where a part of it is
missing or was discarded (R126, R135), or where its CRC fails. -/
def State.msgIn (s : State) (c : Nat) : Option TimeMsg :=
  let k := s.car c
  if k.ttmBad || k.ttm.map Prod.fst != List.range 256 then none else timeOf (k.ttm.flatMap fun e => [e.2.1, e.2.2])

/-- TIME_MESSAGE (R270): the time message of a multiframe on subcarrier `sc`, taken from the source subcarrier of a LOCKED
native receiver. -/
def execTimeMessage (c sc : Nat) (s : State) : Host.Outcome State Fault Refusal :=
  .next <|
    if !(s.stbOn && c < s.nCar && s.domOn (4 + c) && s.fld F.CAX_RX_STATUS_RXSTATE c == 2 &&
        s.fld F.LFM_CA_STATUS_SRC c == sc && sc != 15) then s
    else match s.msgIn c with
    | none => (s.bump (R .PMK_TT_BAD_CNT c)).raise F.PMK_TT_EVT_MSG_BAD c
    | some x =>
      let s := s.deliverRank (16 + c) x.rank
      let s := (s.setFlag F.PMK_TT_STATUS_FAR_VALID x.valid c).setFlag F.PMK_TT_STATUS_FAR_CD_FINE x.cdFine c
      let s := (s.wrN (R .PMK_FAR_FREQ c) x.freq).wrN (R .PMK_FAR_CD c) x.cd
      let s := s.modPmkCar c fun k => { k with far := some x.seq }
      s.when (s.flag F.PMK_TT_CFG_EN c) (State.exchange c x)

/-- The per-second latch of carrier `c` (R273): the exchanges whose t4 lies in the second that has ended (R11).
DESIGN CHOICE, unsafe (log 36). -/
def State.ttLatch (c : Nat) (s : State) : State :=
  let ex := ((s.pmkCar c).ex.filter fun e => e.1 + 1 = s.sec).map Prod.snd
  let s := s.modPmkCar c fun k => { k with ex := k.ex.filter fun e => s.sec ≤ e.1 }
  if ex.isEmpty then
    s.when (s.flag F.PMK_TT_CFG_EN c || s.flag F.PMK_TT_STATUS_RUN c) fun s =>
      (((s.setFlag F.PMK_TT_STATUS_RUN false c).raise F.PMK_TT_EVT_PAUSE c).wr (R .PMK_TT_N c) 0).setFlag
        F.PMK_TT_TAG_VALID false c
  else
    let th := ex.map Prod.fst
    let n : Int := ex.length
    let ofs := unsigned 64 (th.sum / n)
    let spread := ((th.max?.getD 0 - th.min?.getD 0) * 1000 / 65536).toNat
    let s := s.wr64 (R .PMK_TT_OFS_LO c) (R .PMK_TT_OFS_HI c) ofs
    let s := s.wrN (R .PMK_TT_RTT c) (unsigned 32 ((ex.map Prod.snd).sum / n / 4096))
    let s := (s.setFld F.PMK_TT_N_SPREAD (min spread 0xFFFF) c).setFld F.PMK_TT_N_N (min ex.length 0xFFFF) c
    let s := s.wrN (R .PMK_TT_TAG c) s.secTag
    if s.flag F.PMK_TT_STATUS_RUN c then s
    else (s.setFlag F.PMK_TT_STATUS_RUN true c).raise F.PMK_TT_EVT_RUN c

/-- TT_LATCH (R273). -/
def execTtLatch (s : State) : Host.Outcome State Fault Refusal :=
  .next (if s.stbOn then s.upto s.nCar State.ttLatch else s)

/-! ## The board timing chain -/

/-- The frame of Table 11.5 after the marker of the second that has begun. DESIGN CHOICE, unsafe (log 36). -/
def State.tchFrame (s : State) : BitVec 128 :=
  let hops := if s.stbSel = 12 then (s.fld F.PMK_TCH_STATUS_HOPS_IN + 1) % 4 else 0
  let v := ((((((s.sec * 16 + s.outQl) * 8 + s.stbSt) * 2 + bit (s.flag F.PMK_STATUS_TIME_VALID)) * 4 + hops) * 2 +
    bit (s.flag F.PMK_UTC_LEAP61)) * 2 + bit (s.flag F.PMK_UTC_LEAP59)) * 2 ^ 52 + s.fld F.PMK_UTC_UTC_OFS * 2 ^ 36
  BitVec.ofNat 128 (v * 65536 + crc16 112 v)

/-- R276. -/
def execTchFrameTx (s : State) : Host.Outcome State Fault Refusal :=
  .next (if s.stbOn && s.flag F.PMK_TCH_CFG_OUT_EN then s.modPmk fun k => { k with tch := some s.tchFrame } else s)

/-- The timing chain's level reaches candidate 12 under QL_SRC 0x0 while the chain is in sync (R277). -/
def State.tchQl (r : Nat) (s : State) : State :=
  let bad := r = 0 || (9 ≤ r && r ≤ 13)
  if s.flag F.PMK_TCH_STATUS_IN_SYNC && (s.qlKey 12).isNone then
    (s.when bad fun s => s.raise F.STB_REF_EVT_QL_BAD 12).setQl 12 (s.rankOf (if bad then 15 else r))
  else s

/-- A frame that is missing or rejected (R277). -/
def State.tchMiss (s : State) : State :=
  let s := s.modPmk fun k => { k with tchOk := 0, tchBad := k.tchBad + 1 }
  if 3 ≤ s.pmk.tchBad && s.flag F.PMK_TCH_STATUS_IN_SYNC then
    let s := (s.setFlag F.PMK_TCH_STATUS_IN_SYNC false).raise F.PMK_EVT_TCH_SYNC_LOST
    s.when (s.qlKey 12).isNone (State.takeQl 12)
  else s

/-- R277: a frame on TCH_IN, or none in its second. -/
def execTchFrameRx (x : Option (BitVec 128)) (s : State) : Host.Outcome State Fault Refusal :=
  .next <|
    if !s.stbOn then s
    else match x with
    | none => s.tchMiss
    | some w =>
      let v := w.toNat
      if crc16 112 (v / 65536) ≠ v % 65536 then (s.bump (R .PMK_TCH_CRC_CNT)).tchMiss
      else
        let sec := v / 2 ^ 80
        let n := if s.pmk.tchSec = some (sec - 1) && 0 < sec && 0 < s.pmk.tchOk then s.pmk.tchOk + 1 else 1
        let s := s.modPmk fun k => { k with
          tchSec := some sec, tchOk := min n 3, tchBad := 0, tchMis := if sec = s.sec then 0 else k.tchMis + 1 }
        let r := v / 2 ^ 76 % 16
        let s := (s.setFld F.PMK_TCH_STATUS_HOPS_IN (v / 2 ^ 70 % 4)).setFld F.PMK_TCH_STATUS_QL_IN r
        (s.when (3 ≤ n) fun s => s.setFlag F.PMK_TCH_STATUS_IN_SYNC true).tchQl r

/-! ## Time Postcards (R278) -/

/-- R278: the time Postcard becomes pending. -/
def execTimePostcard (s : State) : Host.Outcome State Fault Refusal :=
  .next (if s.stbOn && s.flag F.PMK_PC_CFG_EN then s.pccPend (s.fld F.PMK_PC_CFG_CARRIER) 3 else s)

end Sys2Proof.Machine
end

