-- ==== Sys2Proof/Machine/CalCore.lean ====
section
/-! DEFINITION. The Tack Room's bytes (R379), the calibration values of a carrier with their records (R375, R382) and
their load (R384). -/

namespace Sys2Proof.Machine

/-! ## The Tack Room -/

/-- `n` bytes of the Tack Room from offset `a`. -/
def State.tackBytes (s : State) (a n : Nat) : List Byte := (List.range n).map fun k => s.tack.get 0 (a + k)

/-- The SEQ in slot `k` of the event log, where its CRC checks (R399). -/
def State.logSlot (s : State) (k : Nat) : Option Nat :=
  let l := s.tackBytes (0x010000 + 64 * k) 64
  if beAt l 60 4 = crc32 (l.take 60) then some (beAt l 0 4) else none

/-- The next SEQ of the event log, one above the highest valid one, compared modulo 2³² (R399). -/
def State.logScan (s : State) : Nat :=
  let slots := ((s.tack.map fun e => e.1 / 64).filter fun k => decide (0x400 ≤ k) && decide (k < 0x1400)).eraseDups
  let best := (slots.filterMap fun k => s.logSlot (k - 0x400)).foldl (fun (b : Option Nat) x =>
    if b.all fun y => decide ((x + 2 ^ 32 - y) % 2 ^ 32 < 2 ^ 31) then some x else b) none
  best.elim 0 fun x => (x + 1) % 2 ^ 32

/-- Bytes placed in a memory from address `a`. -/
def putBytes (t : NTab Byte) (a : Nat) : List Byte → NTab Byte
  | [] => t
  | b :: l => putBytes (t.set 0 a b) (a + 1) l

/-- Bytes placed in the Tack Room. -/
def State.tackPut (a : Nat) (l : List Byte) (s : State) : State := { s with tack := putBytes s.tack a l }

/-- A word of the Tack Room: the byte at offset n of a word is its bits [8n + 7:8n] (R419). -/
def State.tackWord (s : State) (a : Nat) : W32 :=
  BitVec.ofNat 32 ((List.range 4).map fun k => (s.tack.get 0 (a + k)).toNat * 256 ^ k).sum

/-! ## Carriers -/

def State.calCar (s : State) (c : Nat) : CalCar := s.cal.car.get CalCar.init c
def State.modCal (f : Cal → Cal) (s : State) : State := { s with cal := f s.cal }
def State.modCalCar (c : Nat) (f : CalCar → CalCar) (s : State) : State :=
  s.modCal fun x => { x with car := x.car.mod CalCar.init c f }

/-- The background calibration of an ADC lane. -/
def State.calLane (s : State) (c l : Nat) : CalLane := (s.calCar c).lanes.get CalLane.init l
def State.modCalLane (c l : Nat) (f : CalLane → CalLane) (s : State) : State :=
  s.modCalCar c fun k => { k with lanes := k.lanes.mod CalLane.init l f }

/-- The key of a slice of a lane. -/
def sliceKey (lane sl : Nat) : Nat := 128 * lane + sl

/-- CAL_TERM of a DAC lane. -/
def State.calTerm (s : State) (c l : Nat) : Int := signed 10 (s.fld F.CAX_TX_SKEW_CAL_TERM c l)

/-- CAL_TERM of a DAC lane replaced; R62 governs how the new sum takes effect. -/
def State.setTerm (c l : Nat) (z : Int) (s : State) : State :=
  (s.setFld F.CAX_TX_SKEW_CAL_TERM (unsigned 10 (max (-512) (min 511 z))) c l).skewNew c l

/-! ## Records (R382) -/

/-- The seconds field of a record stored now. -/
def State.storeSec (s : State) : W32 := if s.domOn 2 then BitVec.ofNat 32 s.sec else 0

/-- What a live record of carrier `c` holds. -/
def State.calNow (s : State) (c seq : Nat) : CalRec :=
  { seq := seq, secs := s.storeSec, vals := (s.calCar c).force, marks := (s.calCar c).marks
    terms := (List.range 4).foldl (fun (t : NTab Int) l => t.set 0 l (s.calTerm c l)) [] }

/-- A lane's cycle is abandoned: nothing is out of service and no swap is requested. -/
def CalLane.drop (x : CalLane) : CalLane := { x with cur := none, want := none }

/-- SPARES_FREE and SLICE of carrier `c`'s lanes (Table 4.2). -/
def State.sparesShow (c : Nat) (s : State) : State :=
  s.upto 4 fun l s => (s.setFld F.CAX_RX_ILV_STATUS_SPARES_FREE (2 - (s.calLane c l).retired.length) c l).setFld
    F.CAX_RX_ILV_STATUS_SLICE (((s.calLane c l).cur).getD 0x7F) c l

/-- Calibration values are loaded on carrier `c` (R384): the newer valid live copy, else the newer valid production
copy, else the defaults with NO_RECORD. -/
def State.calLoad (c : Nat) (s : State) : State :=
  let x := s.calCar c
  let r := match newer CalRec.seq x.liveA x.liveB with
    | some r => some r
    | none => newer CalRec.seq x.prodA x.prodB
  let v := (r.map CalRec.vals).getD []
  let t := (r.map CalRec.terms).getD []
  let s := s.modCalCar c fun k => { k with force := v, target := v, lanes := k.lanes.mapAll CalLane.init CalLane.drop }
  let s := s.sparesShow c
  (s.upto 4 fun l s => s.setTerm c l (t.get 0 l)).when (r.isNone && s.domOn 1) fun s => s.raise F.CAL_EVT_NO_RECORD

/-- The marker delays of carrier `c` are measured at its wake (R377): the spec gives no values, up to 10 ns: free
values. DESIGN CHOICE, safe (log 85). -/
def State.marksWake (c : Nat) (s : State) : State :=
  (s.modCalCar c fun k =>
    { k with marks := (Config.freeNat s.free % 10001, Config.freeNat (s.free + 1) % 10001),
             dirty := true }).useFree.useFree

/-- The signal-detect thresholds of lanes are measured at their domain's wake (Table 16.1), from 10 to 150 mV: free
values. DESIGN CHOICE, safe (log 85). -/
def State.threshWake (lanes : List Nat) (s : State) : State :=
  s.each lanes fun l s =>
    (s.modCal fun x => { x with thresh := x.thresh.set 0 l (10 + Config.freeNat s.free % 141) }).useFree

/-- The device's production record (R382). -/
def State.devRec (s : State) : Option DevRec := newer DevRec.seq s.cal.devA s.cal.devB

/-- The Farrier's time base is CAL_REF_IN itself (R372). -/
def State.refBase (s : State) : Bool := s.flag F.CAL_CFG_USE_REF_IN && s.flag F.CAL_STATUS_REF_IN_OK

/-- A length counted by the Farrier's time base, in true units (R372): OSC_IN counts are scaled by the ratio stored at
production; without a record the model takes OSC_IN as exact. DESIGN CHOICE, unsafe (log 85). -/
def State.timeBase (s : State) (n : Nat) : Nat :=
  if s.refBase then n else n * ((s.devRec.map DevRec.ratio).getD 1000000000) / 1000000000

/-- A delay in taps of the nominal 0.05 ps as taps of the measured length `len`, in 10⁻⁴ ps: corrected where `len`
differs by more than 10 % (R372). -/
def tapsFor (len t : Nat) : Nat := if 50 < ((len : Int) - 500).natAbs then min 511 (t * 500 / max len 1) else t

/-- Background calibration of carrier `c` is abandoned (R373, R375): a slice out of service returns with the values it
had, and a ramp stays where it stands. -/
def State.calAbandon (c : Nat) (s : State) : State :=
  (s.modCalCar c fun k => { k with target := k.force, lanes := k.lanes.mapAll CalLane.init CalLane.drop }).sparesShow c

end Sys2Proof.Machine
end

