-- ==== Sys2Proof/Machine/LaneCore.lean ====
section
/-! DEFINITION. Host lanes: the taps in force (R322), the start and the abort of training (R324), and with them whether
a port is UP (R324, R325, R328). -/

namespace Sys2Proof.Machine

/-- LANES of a RATE code (Table 7.1); 0 for a code not listed. -/
def portLanes (rate : Nat) : Nat := [0, 1, 2, 1, 4, 2, 8, 4, 8].getD rate 0

/-- The lane rate of a RATE code is 212.5 Gb/s (Table 7.1). -/
def portFast (rate : Nat) : Bool := [3, 5, 7, 8].contains rate

/-- The lanes of a port's configuration. -/
def cfgLanes (v : W32) : List Nat :=
  (List.range (portLanes (F.SOF_PORT_CFG_RATE.get v))).map (F.SOF_PORT_CFG_FIRST_LANE.get v + ·)

/-- The enabled port that contains lane `l`. -/
def State.laneOwner (s : State) (l : Nat) : Option Nat :=
  (s.insts .SOF_PORT_CFG).find? fun p => s.flag F.SOF_PORT_CFG_EN p && (cfgLanes (s.rd (R .SOF_PORT_CFG p))).contains l

/-- The option bytes in force, as OPT[0] to OPT[15] hold them: byte 4i in bits [31:24]. -/
def State.optByte (s : State) (k : Nat) : Nat := s.rdN (R .DEV_OPT (k / 4)) / 256 ^ (3 - k % 4) % 256

/-- The page number of HLN lane `l`. -/
def hlnPage (l : Nat) : Nat := (R .HLN_LANE_CFG l).addr / 4096

/-- Lane `l` works: its HQ domain is ON and nothing holds it in reset. -/
def State.laneOn (s : State) (l : Nat) : Bool :=
  decide (l < 32) && s.domOn (9 + l / 8) && !s.inReset (9 + l / 8) (hlnPage l)

/-- The bits a lane receives in 1 µs (R320): its port's rate, or TEST_RATE outside enabled ports. -/
def State.laneRate (s : State) (l : Nat) : Nat :=
  let fast := match s.laneOwner l with
    | some p => portFast (s.fld F.SOF_PORT_CFG_RATE p)
    | none => s.flag F.HLN_LANE_CFG_TEST_RATE l
  if fast then 212500 else 106250

/-- The magnitudes of the taps beside c(0). -/
def sideTaps (w : W32) : Nat :=
  ([F.HLN_TX_EQ_CM3, F.HLN_TX_EQ_CM2, F.HLN_TX_EQ_CM1, F.HLN_TX_EQ_C1].map fun f => (signed 6 (f.get w)).natAbs).sum

/-- Taps as they apply (R322): c(0) at least 16, and reduced where the magnitudes sum to more than 64, with whether they
were reduced. -/
def tapsApply (w : W32) : W32 × Bool :=
  let c := max (F.HLN_TX_EQ_C0.get w) 16
  if sideTaps w + c ≤ 64 then (F.HLN_TX_EQ_C0.put c w, false) else (F.HLN_TX_EQ_C0.put (64 - sideTaps w) w, true)

/-- TX_EQ comes into force on lane `l`. -/
def State.laneTaps (l : Nat) (s : State) : State :=
  let t := tapsApply (s.rd (R .HLN_TX_EQ l))
  (s.wr (R .HLN_TX_EQ_ACT l) t.1).when t.2 fun s => s.raise F.HLN_LANE_EVT_EQ_CLAMP l

/-- The conditions of a training (R324). -/
def State.trainable (s : State) (l : Nat) : Bool :=
  s.fld F.HLN_LANE_CFG_EQ_MODE l == 1 && (s.laneOwner l).isSome && s.laneOn l && !s.flag F.HLN_PRBS_CFG_GEN_EN l

/-- Lane `l` waits for no retry any more. -/
def State.retryDrop (l : Nat) (s : State) : State := { s with retryLane := s.retryLane.filter fun e => e.1 != l }

/-- When the training of lane `l` failed, where it waits to train again (R324). -/
def State.retryOf (s : State) (l : Nat) : Option Nat := (s.retryLane.find? fun e => e.1 == l).map Prod.snd

/-- Lane `l` starts a training from the beginning. -/
def State.trainStart (l : Nat) (s : State) : State := ((s.retryDrop l).setFld F.HLN_TRAIN_STATUS_STATE 1 l).laneTaps l

/-- Lane `l` follows its mode (R322, R324): static lanes apply TX_EQ, a lane that meets the conditions of a training
trains, and one that does not is idle with its taps as they stand. -/
def State.laneEval (l : Nat) (s : State) : State :=
  let st := s.fld F.HLN_TRAIN_STATUS_STATE l
  if !s.laneOn l then s
  else if s.fld F.HLN_LANE_CFG_EQ_MODE l != 1 then
    ((s.retryDrop l).setFld F.HLN_TRAIN_STATUS_STATE 3 l).when (st != 3) (State.laneTaps l)
  else if s.trainable l then
    if st == 1 || st == 2 || (s.retryOf l).isSome then s else s.trainStart l
  else (s.retryDrop l).setFld F.HLN_TRAIN_STATUS_STATE 0 l

/-- Lane `l` lets its port be UP: it is ON, sends no PRBS, its clock recovery is locked and it is trained or static. -/
def State.laneOk (s : State) (l : Nat) : Bool :=
  s.laneOn l && !s.flag F.HLN_PRBS_CFG_GEN_EN l && s.flag F.HLN_RX_STATUS_CDR_LOCK l &&
  (s.fld F.HLN_TRAIN_STATUS_STATE l == 2 || s.fld F.HLN_TRAIN_STATUS_STATE l == 3)

/-- Every lane of an enabled port lets it be UP. -/
def State.portAble (s : State) (p : Nat) : Bool :=
  s.flag F.SOF_PORT_CFG_EN p && (cfgLanes (s.rd (R .SOF_PORT_CFG p))).all s.laneOk

/-- Port `p` goes down where its lanes no longer let it be UP (R325, R328); its queues then behave under R164. -/
def State.portEval (p : Nat) (s : State) : State :=
  if s.flag F.SOF_PORT_STATUS_UP p && !s.portAble p then ((s.setFld F.SOF_PORT_STATUS_UP 0 p).holdPort p).pausePort p
  else s

/-- The ports' UP brought up to date. -/
def State.portsEval (s : State) : State := s.each (s.insts .SOF_PORT_CFG) State.portEval

/-- Lane `l` and its port brought up to date. -/
def State.laneEvals (l : Nat) (s : State) : State := (s.laneEval l).portsEval

/-- The lanes of a list and every port brought up to date. -/
def State.lanesEval (ls : List Nat) (s : State) : State := (s.each ls State.laneEval).portsEval

end Sys2Proof.Machine
end

