-- ==== Sys2Proof/Machine/Lanes.lean ====
section
/-! DEFINITION. Host lanes, with their commands (spec/14 R320 to R328). The pseudo-random checks of yard lanes are here
too; what a generator does to a yard link is in Yard. -/

namespace Sys2Proof.Machine

/-! ## Training and lock -/

/-- TRAIN_DONE (R323): both ends are trained; the taps that the training left are in force. -/
def execTrainDone (l : Nat) (eq : W32) (snr : Nat) (s : State) : Host.Outcome State Fault Refusal :=
  .next (if s.laneOn l && s.fld F.HLN_TRAIN_STATUS_STATE l == 1 then
    (((s.setFld F.HLN_TRAIN_STATUS_STATE 2 l).wr (R .HLN_TX_EQ_ACT l) (tapsApply eq).1).setFld F.HLN_RX_STATUS_SNR snr
      l).raise F.HLN_LANE_EVT_TRAIN_DONE l
  else s)

/-- TRAIN_FAIL (R324): FAIL_CNT counts it; the lane is idle until it trains again 10 ms later.
DEDUCED, unsafe (log 39). -/
def execTrainFail (l : Nat) (s : State) : Host.Outcome State Fault Refusal :=
  .next (if s.laneOn l && s.fld F.HLN_TRAIN_STATUS_STATE l == 1 then
    { ((s.bumpFld F.HLN_TRAIN_STATUS_FAIL_CNT l).raise F.HLN_LANE_EVT_TRAIN_FAIL l).setFld F.HLN_TRAIN_STATUS_STATE 0 l with
      retryLane := (l, s.us) :: s.retryLane.filter fun e => e.1 != l }
  else s)

/-- TRAIN_RETRY (R324): training starts again, 10 ms after its failure, as long as its conditions hold. -/
def execTrainRetry (l : Nat) (s : State) : Host.Outcome State Fault Refusal :=
  .next (if ((s.retryOf l).any fun t => decide (t + 10000 ≤ s.us)) && s.trainable l then s.trainStart l else s)

/-- CDR_LOCK (R325, Table 14.2): the receiver detects a signal and its clock recovery locks. -/
def execCdrLock (l : Nat) (s : State) : Host.Outcome State Fault Refusal :=
  .next (if s.laneOn l then (s.setFld F.HLN_RX_STATUS_SIG 1 l).setFld F.HLN_RX_STATUS_CDR_LOCK 1 l else s)

/-- CDR_LOL (R325, R324): the port goes down and a trained lane trains again. -/
def execCdrLol (l : Nat) (s : State) : Host.Outcome State Fault Refusal :=
  .next (if s.laneOn l && s.flag F.HLN_RX_STATUS_CDR_LOCK l then
    let s := ((s.setFld F.HLN_RX_STATUS_CDR_LOCK 0 l).setFld F.HLN_PRBS_STATUS_CHK_LOCK 0 l).raise F.HLN_LANE_EVT_CDR_LOL l
    (s.when (s.fld F.HLN_TRAIN_STATUS_STATE l == 2) (State.trainStart l)).portsEval
  else s)

/-- PORT_UP (R324, Table 14.2): lane alignment and FEC lock are complete, on lanes that let the port be UP. -/
def execPortUp (p : Nat) (s : State) : Host.Outcome State Fault Refusal :=
  .next (if s.domOn 7 && !s.inReset 7 0 && decide (p < 16) && s.portAble p then
    ((s.setFld F.SOF_PORT_STATUS_UP 1 p).when (!s.flag F.SOF_PORT_STATUS_UP p) (State.pauseAgain p)).pausePort p else s)

/-- Every 1 ms a locked receiver reports its SNR, and the symbols its port's FEC has corrected on the lane (R325): both
are measured, so free values. -/
def State.laneReport (l : Nat) (s : State) : State :=
  if s.laneOn l && s.flag F.HLN_RX_STATUS_CDR_LOCK l then
    let up := match s.laneOwner l with
      | some p => s.flag F.SOF_PORT_STATUS_UP p
      | none => false
    let s' := s.setFld F.HLN_RX_STATUS_SNR (Config.freeNat s.free) l
    let n := min (s.rd64 (R .HLN_FEC_SYM_ERR_LO l) (R .HLN_FEC_SYM_ERR_HI l) + Config.freeNat (s.free + 1)) (2 ^ 64 - 1)
    { s'.when up (fun s => s.wr64 (R .HLN_FEC_SYM_ERR_LO l) (R .HLN_FEC_SYM_ERR_HI l) n) with free := s.free + 2 }
  else s

/-! ## Generators and checkers -/

/-- A pattern code as it applies (Table 14.3). -/
def prbsPat (n : Nat) : Nat := if 6 ≤ n then 0 else n

/-- The level of a PAM4 symbol that carries two bits, Gray-coded, the first bit first (Table 14.3). -/
def grayLevel (a b : Bool) : Nat := 2 * bit a + bit (a != b)

/-- The PAM4 levels that carry a stream of bits. -/
def grayLevels : List Bool → List Nat
  | a :: b :: l => grayLevel a b :: grayLevels l
  | _ => []

/-- `n` bits of the sequence of x^`deg` + x^`tap` + 1, whose last `deg` bits are `l`, newest first. -/
def prbsBits (deg tap : Nat) : List Bool → Nat → List Bool
  | _, 0 => []
  | l, n + 1 =>
    let b := l.getD (deg - 1) false != l.getD (tap - 1) false
    b :: prbsBits deg tap ((b :: l).take deg) n

/-- The levels of `n` symbols that a generator sends (Table 14.3, R326), given the bits it sent last, newest first, and
how many symbols it has sent. IEEE 802.3 gives the patterns 0 to 2. -/
def prbsLevels (pat : Nat) (l : List Bool) (k n : Nat) : List Nat :=
  match prbsPat pat with
  | 3 => grayLevels (prbsBits 7 6 l (2 * n))
  | 4 => grayLevels (prbsBits 9 5 l (2 * n))
  | 5 => (List.range n).map fun i => if (k + i) % 16 < 8 then 3 else 0
  | p => Config.ieeePattern p k n

/-- What a host lane's transmitter drives (R321, R326): nothing without the lane supply, the pattern of its generator,
electrical idle outside enabled ports or while its domain is not ON, else the traffic of its port. -/
inductive HostOut where
  | off
  | idle
  | pattern (p : Nat)
  | traffic (port : Nat)
  deriving DecidableEq, Repr

/-- What host lane `l` drives. -/
def State.hostOut (s : State) (l : Nat) : HostOut :=
  if !s.pwr.pg.contains 4 then .off
  else if !s.laneOn l then .idle
  else if s.flag F.HLN_PRBS_CFG_GEN_EN l then .pattern (prbsPat (s.fld F.HLN_PRBS_CFG_GEN_PAT l))
  else match s.laneOwner l with
    | some p => .traffic p
    | none => .idle

/-- A level on the balls: TX_INV and RX_INV turn the polarity round (R321). -/
def polarity (inv : Bool) (level : Nat) : Nat := if inv then 3 - level else level

/-- A host checker can lock: it is on, its pattern is checkable, and the lane carries no traffic. -/
def State.checkable (s : State) (l : Nat) : Bool :=
  s.laneOn l && s.flag F.HLN_PRBS_CFG_CHK_EN l && prbsPat (s.fld F.HLN_PRBS_CFG_CHK_PAT l) != 5 &&
  (match s.laneOwner l with
    | some p => !s.flag F.SOF_PORT_STATUS_UP p
    | none => true)

/-- 1 µs of a locked host checker (R327, Table 14.4): PRBS_BITS counts in units of 1,024 bits. -/
def State.prbsTick (l : Nat) (s : State) : State :=
  if s.laneOn l && s.flag F.HLN_PRBS_STATUS_CHK_LOCK l then
    let v := s.prbsAcc.get 0 l + s.laneRate l
    { s.add64 (R .HLN_PRBS_BITS_LO l) (R .HLN_PRBS_BITS_HI l) (v / 1024) with prbsAcc := s.prbsAcc.set 0 l (v % 1024) }
  else s

/-- A write of PRBS_CFG of a host lane (R326, R328). A checker that is switched off or set anew seeds itself again. -/
def State.prbsWrite (l : Nat) (v : W32) (s : State) : State :=
  let old := s.rd (R .HLN_PRBS_CFG l)
  let s := s.plainWrite (R .HLN_PRBS_CFG l) v
  let s := s.when (F.HLN_PRBS_CFG_CHK_PAT.get old != F.HLN_PRBS_CFG_CHK_PAT.get v || F.HLN_PRBS_CFG_CHK_EN.get v == 0)
    fun s => { s.setFld F.HLN_PRBS_STATUS_CHK_LOCK 0 l with prbsAcc := s.prbsAcc.set 0 l 0 }
  let s := s.when (F.HLN_PRBS_CFG_ERR_INJ.get v == 1 && s.flag F.HLN_PRBS_CFG_GEN_EN l) fun s =>
    { s with prbsInj := s.prbsInj.mod 0 l (· + 1) }
  s.laneEvals l

/-- A write of LANE_CFG (R321, R322): the mode and the polarity apply at once. -/
def State.laneCfgWrite (l : Nat) (v : W32) (s : State) : State := (s.plainWrite (R .HLN_LANE_CFG l) v).laneEvals l

/-- A write of TX_EQ (R322): a static lane applies it at once. -/
def State.txEqWrite (l : Nat) (v : W32) (s : State) : State :=
  let s := s.plainWrite (R .HLN_TX_EQ l) v
  s.when (s.fld F.HLN_TRAIN_STATUS_STATE l == 3) (State.laneTaps l)

/-- A write of LANE_CTRL (R328, Tables 14.4 and 14.5): CNT_CLR clears every counter of the lane. -/
def State.laneCtrlWrite (l : Nat) (v : W32) (s : State) : State :=
  s.when (F.HLN_LANE_CTRL_CNT_CLR.get v == 1) fun s =>
    (((((s.wr64 (R .HLN_PRBS_BITS_LO l) (R .HLN_PRBS_BITS_HI l) 0).wr64 (R .HLN_PRBS_ERR_LO l) (R .HLN_PRBS_ERR_HI l)
      0).wr64 (R .HLN_FEC_SYM_ERR_LO l) (R .HLN_FEC_SYM_ERR_HI l) 0).setFld F.HLN_TRAIN_STATUS_FAIL_CNT 0 l).setFld
      F.HLN_PRBS_STATUS_LOCK_LOSS 0 l)

/-- LANE_CNT_CLR (R328). -/
def execLaneCntClr (m : Master) (l : Nat) (v : W32) (s : State) : Host.Outcome State Fault Refusal :=
  .next (s.guardW m (R .HLN_LANE_CTRL l) v (State.laneCtrlWrite l v))

end Sys2Proof.Machine
end

