-- ==== Sys2Proof/Machine/Yard.lean ====
section
/-! DEFINITION. Yard lanes, links, forwarding, image forwarding and remote access, with their commands (spec/14 R329 to
R343). -/

namespace Sys2Proof.Machine

/-! ## Links and their lanes -/

def State.link (s : State) (j : Nat) : Link := s.links.get Link.init j
def State.modLink (j : Nat) (f : Link → Link) (s : State) : State := { s with links := s.links.mod Link.init j f }

/-- The yard works. -/
def State.yrdOn (s : State) : Bool := s.domOn 13 && !s.inReset 13 0

/-- A link's state (Table 14.9). -/
def State.linkSt (s : State) (j : Nat) : Nat := s.fld F.YLN_LINK_STATUS_STATE j

/-- The link of a lane: a pair's own, or for a spare the link whose spare it is (R331). -/
def linkOf (l : Nat) : Nat := if l < 6 then l / 2 else if l = 6 then 0 else 2

/-- The spare of link `j` (R331). -/
def spareOf (j : Nat) : Option Nat := if j = 0 then some 6 else if j = 2 then some 7 else none

/-- The device that link `j` reaches (R330). -/
def State.partner (s : State) (j : Nat) : Nat := (s.fuse.devId + j + 1) % 4

/-- The link to device `d` (R330), for another device. -/
def State.linkTo (s : State) (d : Nat) : Nat := (d + 7 - s.fuse.devId) % 4

/-- The lanes of link `j`: its pair, with the spare in place of the lane it has replaced. -/
def State.lanesOf (s : State) (j : Nat) : List Nat :=
  [2 * j, 2 * j + 1].map fun l => if (s.link j).out = some l then (spareOf j).getD l else l

/-- Lane `l` of link `j` works. -/
def State.laneWorks (s : State) (j l : Nat) : Bool := !(s.link j).bad.contains l && !s.flag F.YL_PRBS_CFG_GEN_EN l

/-- The working lanes of link `j`. -/
def State.working (s : State) (j : Nat) : List Nat := (s.lanesOf j).filter (s.laneWorks j)

/-- Lane `l` carries the cargo of its link: a working lane of the pair in use. -/
def State.inUse (s : State) (l : Nat) : Bool := (s.working (linkOf l)).contains l

/-- The spare of link `j` can be swapped in (R339): SPARE_EN is 1, and the spare has block lock and has not failed. -/
def State.spareReady (s : State) (j : Nat) : Bool :=
  match spareOf j with
  | some l => s.flag F.YLN_YARD_CFG_SPARE_EN && s.flag F.YL_STATUS_BLK_LOCK l && s.laneWorks j l &&
      !s.flag F.YLN_LINK_STATUS_SPARE j
  | none => false

/-- The equalisation in force on a yard lane (R329): a built-in preset of Table 14.6 in BOOT, where a YARD_BOOT of 8 or
more is 3; in RUN the taps of YL_EQ with the receiver settings of YL_RX. -/
inductive YardEq where
  | preset (n : Nat)
  | written (taps rx : W32)
  deriving DecidableEq, Repr

/-- The equalisation of lane `l`, where it runs. -/
def State.yardEq (s : State) (l : Nat) : Option YardEq :=
  match s.fld F.YL_STATUS_MODE l with
  | 1 => some (.preset (if s.optByte 9 ≤ 7 then s.optByte 9 else 3))
  | 2 => some (.written (s.rd (R .YL_EQ l)) (s.rd (R .YL_RX l)))
  | _ => none

/-- The mode of each lane (R329, R331): a pair's lanes run in BOOT until their link is in RUN or SB_ONLY; a spare runs
in RUN once RUN_READY is set and its partner is present. -/
def State.modeEval (s : State) : State :=
  if !s.yrdOn then s
  else s.upto 8 fun l s =>
    let st := s.linkSt (linkOf l)
    let run := if l < 6 then st == 2 || st == 3 else s.flag F.YLN_YARD_CFG_RUN_READY && st != 0
    s.setFld F.YL_STATUS_MODE (if run then 2 else 1) l

/-- The members of a link's forwarding entries. -/
def State.fwdMembers (s : State) (j : Nat) : List (Nat × Nat) :=
  (List.range 14).flatMap fun n =>
    (if s.flag F.YLN_FWD_TX_VALID j n then [(s.fld F.YLN_FWD_TX_GID j n, s.fld F.YLN_FWD_TX_MSN j n)] else []) ++
    (if s.flag F.YLN_FWD_RX_VALID j n then [(s.fld F.YLN_FWD_RX_GID j n, s.fld F.YLN_FWD_RX_MSN j n)] else [])

/-- The groups and their holds after a change of what the yard reports (R143, R163). -/
def State.yardGroups (s : State) : State := if s.domOn 6 then s.grpsEval else s.holds

/-- Every member forwarded over link `j` is out of service: the tiles in flight are lost (R335, R339, R343). -/
def State.linkLost (j : Nat) (s : State) : State :=
  { (s.modLink j fun k => { k with take := none, left := 0, run := 0 }) with
    yardSt := (s.fwdMembers j).foldl (fun (t : NTab Nat) (m : Nat × Nat) => t.set 0 (m.1 * 256 +
        m.2) 0) s.yardSt }.yardGroups

/-- Link `j` enters state `st`; RUN entered and RUN left are events. -/
def State.linkTo' (j st : Nat) (s : State) : State :=
  let old := s.linkSt j
  let s := s.setFld F.YLN_LINK_STATUS_STATE st j
  ((s.when (st == 2 && old != 2) fun s => s.raise F.YLN_LINK_EVT_UP j).when (old == 2 && st != 2)
    fun s => s.raise F.YLN_LINK_EVT_DOWN j).modeEval

/-- Link `j` goes DOWN (Table 14.9): the pair is back on its own lanes, and nothing is known of the partner.
DESIGN CHOICE, unsafe (log 40). -/
def State.linkDown (j : Nat) (s : State) : State :=
  if s.linkSt j = 0 then s
  else
    let s := ((s.setFld F.YLN_LINK_STATUS_SPARE 0 j).setFld F.YLN_LINK_STATUS_WIRING 0 j).modLink j fun k =>
      { k with rr := false, img := 0, switching := false, swap := false, out := none, rxSeq := none, unacked := false
               repeats := 0 }
    (s.linkTo' j 0).linkLost j

/-- The reaction to a lane that has failed on link `j` (R339, Table 14.9): with no lane left the link goes DOWN; a RUN
link agrees a swap where it can, or enters SB_ONLY. DEDUCED, unsafe (log 39). -/
def State.linkFail (j : Nat) (s : State) : State :=
  let st := s.linkSt j
  let w := (s.working j).length
  if st == 2 || st == 3 then
    if w = 0 then s.linkDown j
    else if 2 ≤ w then s
    else
      if s.spareReady j then (s.modLink j fun k => { k with swap := true }).linkLost j
      else
        let s := s.modLink j fun k => { k with swap := false }
        if st == 2 then (s.linkTo' j 3).linkLost j else s
  else s

/-- Lane `l` has failed (R338): the link reacts where the lane is in use, or is the spare of a swap under way. -/
def State.laneFail (l : Nat) (s : State) : State :=
  let j := linkOf l
  let was := s.inUse l || ((s.link j).swap && spareOf j == some l)
  let s := s.modLink j fun k => { k with bad := if k.bad.contains l then k.bad else l :: k.bad }
  if was then s.linkFail j else s

/-- LANE_FAILURE (R338, R339); `lock`: block lock is lost. -/
def execLaneFailure (l : Nat) (lock : Bool) (s : State) : Host.Outcome State Fault Refusal :=
  .next (if s.yrdOn && l < 8 then (s.when lock fun s => s.setFld F.YL_STATUS_BLK_LOCK 0 l).laneFail l else s)

/-- Link `j` is back on its own lanes. -/
def State.ownLanes (j : Nat) (s : State) : State :=
  (s.setFld F.YLN_LINK_STATUS_SPARE 0 j).modLink j fun k => { k with out := none }

/-- A SB_ONLY link runs again once two lanes work (Table 14.9): those in use, its own two, or one and the spare, after a
swap. DEDUCED, unsafe (log 39). -/
def State.linkMend (j : Nat) (s : State) : State :=
  if s.linkSt j = 3 then
    if 2 ≤ (s.working j).length then s.linkTo' j 2
    else if s.laneWorks j (2 * j) && s.laneWorks j (2 * j + 1) then (s.ownLanes j).linkTo' j 2
    else s.linkFail j
  else s

/-- BLOCK_LOCK (R337): a lane gains block lock, and counts as working again. -/
def execBlockLock (l : Nat) (s : State) : Host.Outcome State Fault Refusal :=
  .next (if s.yrdOn && l < 8 && !s.flag F.YL_PRBS_CFG_GEN_EN l then
    ((s.setFld F.YL_STATUS_BLK_LOCK 1 l).modLink (linkOf l) fun k => { k with bad := k.bad.filter (· != l) }).linkMend
      (linkOf l)
  else s)

/-- SPARE_IN (R339): cargo resumes on the surviving lane and the spare. -/
def execSpareIn (j : Nat) (s : State) : Host.Outcome State Fault Refusal :=
  .next (if s.yrdOn && j < 3 && (s.link j).swap && s.spareReady j then
    let lost := if s.laneWorks j (2 * j) then 2 * j + 1 else 2 * j
    (((s.modLink j fun k => { k with swap := false, out := some lost }).setFld F.YLN_LINK_STATUS_SPARE 1 j).raise
      F.YLN_LINK_EVT_SPARE_IN j).linkTo' j 2
  else s)

/-- A write of LINK_CTRL (R339): REVERT returns the link to its own lanes, at the cost of the tiles in flight.
DESIGN CHOICE, unsafe (log 40). -/
def State.linkCtrlWrite (j : Nat) (v : W32) (s : State) : State :=
  if F.YLN_LINK_CTRL_REVERT.get v == 1 && s.flag F.YLN_LINK_STATUS_SPARE j then
    ((s.ownLanes j).linkLost j).linkFail j
  else s

/-- REVERT (R339). -/
def execRevert (m : Master) (j : Nat) (v : W32) (s : State) : Host.Outcome State Fault Refusal :=
  .next (s.guardW m (R .YLN_LINK_CTRL j) v (State.linkCtrlWrite j v))

/-! ## Into RUN -/

/-- The change to RUN begins on a link in BOOT once both ends are RUN_READY (R337); a wiring mismatch stays in BOOT
(R340). -/
def State.switchEval (j : Nat) (s : State) : State :=
  let on := s.linkSt j == 1 && !s.flag F.YLN_LINK_STATUS_WIRING j && s.flag F.YLN_YARD_CFG_RUN_READY
  s.modLink j fun k => { k with switching := on && k.rr }

/-- A write of YARD_CFG. -/
def State.yardCfgWrite (v : W32) (s : State) : State :=
  ((s.plainWrite (R .YLN_YARD_CFG) v).upto 3 State.switchEval).modeEval

/-- RUN_READY (R337). -/
def execRunReady (m : Master) (v : W32) (s : State) : Host.Outcome State Fault Refusal :=
  .next (s.guardW m (R .YLN_YARD_CFG) v (State.yardCfgWrite v))

/-- RUN_SWITCH (R337): both lanes run at 212.5 Gb/s. -/
def execRunSwitch (j : Nat) (s : State) : Host.Outcome State Fault Refusal :=
  .next (if s.yrdOn && j < 3 && (s.link j).switching && decide (2 ≤ (s.working j).length) then
    (s.modLink j fun k => { k with switching := false }).linkTo' j 2 else s)

/-! ## HELLO (R340) -/

/-- Device 0 hears what device `d` says of its image (R341): BAD ends the forwarding as REJECTED. -/
def State.imgSaid (d img : Nat) (s : State) : State :=
  if s.fuse.devId = 0 && img = 3 && 1 ≤ d && d ≤ 3 && s.fld F.YLN_IMG_FWD_STATE d != 4 then
    (s.setFld F.YLN_IMG_FWD_STATE 4 d).when (s.fld F.YLN_IMG_FWD_STATE d == 1) fun s => s.raise F.YLN_ID_EVT_IMG_DONE
  else s

/-- A HELLO carries this device's own identity, which keeps it out of service until the straps are read again (R25). -/
def State.dupId (s : State) : State :=
  { (s.setFld F.YLN_ID_STATUS_DUP_ID 1).raise F.YLN_ID_EVT_DUP_ID with boot := { s.boot with dup := true } }

/-- HELLO (R340): a link that is DOWN enters BOOT, and the two checks are made; the second tells from R330 which device
and pair the lane reaches, and a spare's lane the device alone. -/
def execHello (l : Nat) (h : Hello) (s : State) : Host.Outcome State Fault Refusal :=
  .next (if !(s.yrdOn && l < 8) then s
  else
    let j := linkOf l
    let ok := h.dev == s.partner j && (6 ≤ l || (h.pair == 2 - j && h.lane == l % 2))
    let s := s.when (h.dev == s.fuse.devId) State.dupId
    let s := (s.when (s.linkSt j == 0 && l < 6) (State.linkTo' j 1)).modLink j fun k => { k with helloAt := s.us }
    if !ok then
      ((s.setFld F.YLN_LINK_STATUS_WIRING 1 j).raise F.YLN_ID_EVT_WIRING).switchEval j
    else
      (((s.setFld F.YLN_LINK_STATUS_PEER_ID h.dev j).modLink j fun k => { k with rr := h.rr, img := h.img }).switchEval
        j).imgSaid h.dev h.img)

/-- HELLO_LOST (R337): no partner HELLO has come for 100 µs. -/
def execHelloLost (j : Nat) (s : State) : Host.Outcome State Fault Refusal :=
  .next (if s.yrdOn && j < 3 && decide ((s.link j).helloAt + 100 ≤ s.us) then s.linkDown j else s)

/-! ## Blocks -/

/-- Entry `n` of a link's receive table names this member. -/
def State.fwdRx (s : State) (j gid msn : Nat) : Bool :=
  (List.range 14).any fun n => s.flag F.YLN_FWD_RX_VALID j n && s.fld F.YLN_FWD_RX_GID j n == gid &&
    s.fld F.YLN_FWD_RX_MSN j n == msn

/-- The bits of a STATUS block (R336): entry `n` of the sender's FWD_TX is this device's FWD_RX entry `n`, and the
sender's FWD_RX, 14 places on, this device's FWD_TX. DESIGN CHOICE, unsafe (log 40). -/
def State.statusIn (j : Nat) (bits : List Nat) (s : State) : State :=
  let put (v : Bool) (gid msn b : Nat) (s : State) : State :=
    if v then { s with yardSt := s.yardSt.set 0 (gid * 256 + msn) (b % 4) } else s
  (s.upto 14 fun n s =>
    put (s.flag F.YLN_FWD_TX_VALID j n && decide (14 + n < bits.length)) (s.fld F.YLN_FWD_TX_GID j n)
      (s.fld F.YLN_FWD_TX_MSN j n) (bits.getD (14 + n) 0)
      (put (s.flag F.YLN_FWD_RX_VALID j n && decide (n < bits.length)) (s.fld F.YLN_FWD_RX_GID j n)
        (s.fld F.YLN_FWD_RX_MSN j n) (bits.getD n 0) s)).yardGroups

/-- A tile of the run being received is errored: the frames that hold its bytes are discarded at the home device, which
is this one where the group's home is here (R332, R105). -/
def State.tileErr (j : Nat) (s : State) : State :=
  match (s.link j).take, (s.link j).left with
  | some (gid, _), _ + 1 =>
    match s.homeOf gid with
    | some g => { s with delin := s.delin.mod Delin.init g fun d => { d with dirty := true } }
    | none => s
  | _, _ => s

/-- What a block does, by its kind (R332, R333, R335). A run of none or of more than 16 tiles is no SELECT (Table 14.8).
-/
def State.yardBlk (l : Nat) (b : YardBlk) (s : State) : State :=
  let j := linkOf l
  let run := s.linkSt j == 2 && s.inUse l
  let bad := s.bump (R .YLN_BAD_BLK l)
  match b with
  | .data =>
    let k := s.link j
    if run && k.left ≠ 0 then
      (s.modLink j fun k => { k with left := k.left - 1 }).when k.take.isNone fun s => s.bump (R .YLN_BAD_BLK l)
    else bad
  | .select gid msn n =>
    if run && 1 ≤ n && n ≤ 16 then
      s.modLink j fun k => { k with left := n, take := if s.fwdRx j gid msn then some (gid, msn) else none }
    else bad
  | .status dev bits =>
    if dev == s.partner j && s.linkSt j == 2 && !(s.link j).swap then
      (s.modLink j fun k => { k with statusAt := s.us }).statusIn j bits
    else s
  | .bad => bad
  | .uncorrectable => ((s.when run (State.tileErr j)).bump (R .YLN_UNC_CW l)).count 0x0F3 l 1
  | .filler => s
  | .align => s
  | .sideband => s

/-- YARD_BLOCK (R332 to R334): the store's fill is shown, a received filler is deleted above 40 blocks and one inserted
below 24, and the block has its effect. -/
def execYardBlock (l fill : Nat) (b : YardBlk) (s : State) : Host.Outcome State Fault Refusal :=
  .next (if s.yrdOn && l < 8 && s.flag F.YL_STATUS_BLK_LOCK l then
    let s := s.setFld F.YL_STATUS_FILL fill l
    let s := s.when (40 < fill && b == .filler) fun s =>
        (s.add64 (R .YLN_FILL_DEL_LO l) (R .YLN_FILL_DEL_HI l) 1).count 0x0F2 l 1
    let s := s.when (fill < 24) fun s => (s.add64 (R .YLN_FILL_INS_LO l) (R .YLN_FILL_INS_HI l) 1).count 0x0F1 l 1
    s.yardBlk l b
  else s)

/-- No valid STATUS has come for a member in the last 20 µs over any link that forwards it (R336). -/
def State.statusStale (s : State) (gid msn : Nat) : Bool :=
  (List.range 3).all fun j => !(s.fwdMembers j).contains (gid, msn) || decide ((s.link j).statusAt + 20 ≤ s.us)

/-- STATUS_TIMEOUT (R336): the member counts as not in SERVICE. -/
def execStatusTimeout (gid msn : Nat) (s : State) : Host.Outcome State Fault Refusal :=
  .next (if s.yrdOn && s.statusStale gid msn then { s with yardSt := s.yardSt.set 0 (gid * 256 + msn) 0 }.yardGroups else s)

/-- The two bits that this device reports of a member (R336). -/
def State.statusBits (s : State) (gid msn : Nat) : Nat :=
  let tx := s.txScs gid msn
  let rx := s.rxSlots gid msn
  bit (!tx.isEmpty && tx.all fun i => s.inService (i / 8)) +
    2 * bit (!rx.isEmpty && rx.all fun x => s.slotUp x.1 x.2)

/-- A STATUS block of link `j`. DESIGN CHOICE, unsafe (log 40). -/
def State.statusOut (s : State) (j : Nat) : YardOut :=
  .status s.fuse.devId
    ((List.range 14).map (fun n => if s.flag F.YLN_FWD_TX_VALID j n then
        s.statusBits (s.fld F.YLN_FWD_TX_GID j n) (s.fld F.YLN_FWD_TX_MSN j n) else 0) ++
     (List.range 14).map fun n => if s.flag F.YLN_FWD_RX_VALID j n then
        s.statusBits (s.fld F.YLN_FWD_RX_GID j n) (s.fld F.YLN_FWD_RX_MSN j n) else 0)

/-- A HELLO block of lane `l`; a spare names the pair it stands by. -/
def State.helloOut (s : State) (l : Nat) : YardOut :=
  .hello { dev := s.fuse.devId, pair := linkOf l, lane := l % 2, img := s.img, rr := s.flag F.YLN_YARD_CFG_RUN_READY }
    (s.fld F.YL_STATUS_MODE l)

/-- What a reserved position of lane `l` carries (R333): ALIGN on every 32nd use, else HELLO, STATUS and a side-band
fragment in turn, and HELLO where the link's state does not carry that (Table 14.9) or no fragment waits.
DESIGN CHOICE, unsafe (log 40). -/
def State.reservedOut (s : State) (l : Nat) (frag : Bool) : YardOut :=
  let j := linkOf l
  let st := s.linkSt j
  let x := s.yardTx.get YardTx.init l
  if s.flag F.YLN_LINK_STATUS_WIRING j || st = 0 then s.helloOut l
  else if x.uses % 32 = 31 && st = 2 then .align (l % 2) j x.n
  else if x.uses % 3 = 1 && 2 ≤ st then s.statusOut j
  else if x.uses % 3 = 2 && frag then .fragment
  else s.helloOut l

/-- The forwarding entry that is served next (R336), counting from `n`, given the tiles that wait for each. -/
def State.nextEntry (s : State) (j : Nat) (tiles : List Nat) : Option Nat :=
  ((List.range 14).map fun k => ((s.link j).next + k) % 14).find? fun n =>
    s.flag F.YLN_FWD_TX_VALID j n && tiles.getD n 0 != 0

/-- The cargo block that lane `l` sends, if there is one: the next tile of the run, or the SELECT of the next run. -/
def State.cargoOut (l : Nat) (tiles : List Nat) (s : State) : Option YardOut × State :=
  let j := linkOf l
  if !(s.linkSt j == 2 && s.inUse l && !(s.link j).swap) then (none, s)
  else if (s.link j).run ≠ 0 then (some .tile, s.modLink j fun k => { k with run := k.run - 1 })
  else match s.nextEntry j tiles with
    | some n =>
      let k := min 16 (tiles.getD n 0)
      (some (.select (s.fld F.YLN_FWD_TX_GID j n) (s.fld F.YLN_FWD_TX_MSN j n) k),
        s.modLink j fun x => { x with run := k, next := (n + 1) % 14 })
    | none => (none, s)

/-- Lane `l` sends a block. -/
def State.yardOut (l : Nat) (b : YardOut) (reserved : Bool) (s : State) : State :=
  let sent := fun (x : YardTx) =>
    if b = YardOut.filler then { x with gap := 0, last := some b }
    else { n := (x.n + 1) % 2 ^ 32, gap := x.gap + 1, uses := x.uses + bit reserved, last := some b }
  State.count 0x0F0 l 1 { s with yardTx := s.yardTx.mod YardTx.init l sent }

/-- YARD_BLOCK_TX (R333, R334, R336): a filler after 1,023 other blocks; at a reserved position a control block; else
cargo, and filler where none waits. A generator replaces all of it (R326). -/
def execYardBlockTx (l : Nat) (tiles : List Nat) (frag : Bool) (s : State) : Host.Outcome State Fault Refusal :=
  let x := s.yardTx.get YardTx.init l
  .next (if !(s.yrdOn && l < 8) || s.flag F.YL_PRBS_CFG_GEN_EN l then s
  else if 1023 ≤ x.gap || (6 ≤ l && !s.inUse l) then s.yardOut l .filler false
  else if x.n % 128 = 0 then s.yardOut l (s.reservedOut l frag) true
  else match s.cargoOut l tiles with
    | (some b, s) => s.yardOut l b false
    | (none, s) => s.yardOut l .filler false)

/-! ## Forwarding entries (R335) -/

/-- TX_USED and RX_USED of link `j` show its valid entries. -/
def State.fwdShow (j : Nat) (s : State) : State :=
  let used (f : Fld) := ((List.range 14).filter fun n => s.flag f j n).length
  (s.setFld F.YLN_LINK_STATUS_TX_USED (used F.YLN_FWD_TX_VALID) j).setFld F.YLN_LINK_STATUS_RX_USED
    (used F.YLN_FWD_RX_VALID) j

/-- A write of FWD_TX[n] or FWD_RX[n] of link `j`: with 14 entries in each direction no more than 14 can be valid. -/
def State.fwdWrite (j : Nat) (tx : Bool) (n : Nat) (v : W32) (s : State) : State :=
  (s.plainWrite (R (if tx then .YLN_FWD_TX else .YLN_FWD_RX) j n) v).fwdShow j

/-- FWD_WRITE (R335). -/
def execFwdWrite (m : Master) (j : Nat) (tx : Bool) (n : Nat) (v : W32) (s : State) : Host.Outcome State Fault Refusal :=
  .next (s.guardW m (R (if tx then .YLN_FWD_TX else .YLN_FWD_RX) j n) v (State.fwdWrite j tx n v))

/-! ## Image forwarding (R341) and side-band messages (R340) -/

/-- Device 0 begins to send its image to device `d`. -/
def State.imgSend (d : Nat) (s : State) : State :=
  (s.setFld F.YLN_IMG_FWD_STATE 1 d).modLink (d - 1) fun k =>
    { k with unacked := true, repeats := 0, part := 0, sentAt := s.us }

/-- The message of the image that is sent to device `d` (R341): 4 KB of the image booted from. -/
def State.imgPart (s : State) (d : Nat) : List Byte := (s.boot.image.drop (4096 * (s.link (d - 1)).part)).take 4096

/-- IMG_WANT (R341): device 0, whose own check has passed, serves a device that announces WANT. -/
def execImgWant (j : Nat) (s : State) : Host.Outcome State Fault Refusal :=
  .next (if s.yrdOn && j < 3 && s.fuse.devId = 0 && s.img = 2 && (s.link j).img = 1 && s.linkSt j != 0 &&
      !s.flag F.YLN_LINK_STATUS_WIRING j && (s.fld F.YLN_IMG_FWD_STATE (j + 1) == 0 || s.fld F.YLN_IMG_FWD_STATE (j +
          1) == 2)
    then s.imgSend (j + 1) else s)

/-- IMG_RESTART (R341): 10 s after it was abandoned, the transfer starts again. -/
def execImgRestart (d : Nat) (s : State) : Host.Outcome State Fault Refusal :=
  .next (if s.yrdOn && 1 ≤ d && d ≤ 3 && s.fuse.devId = 0 && s.fld F.YLN_IMG_FWD_STATE d == 3 &&
      s.linkSt (d - 1) != 0 &&
      !s.flag F.YLN_LINK_STATUS_WIRING (d - 1) && decide ((s.link (d - 1)).sentAt + 10000000 ≤ s.us) then
    s.imgSend d else s)

/-- IMG_WAIT_TIMEOUT (R341): after 1 s without a message the receiving device drops what it has and is back at WANT. -/
def execImgWaitTimeout (s : State) : Host.Outcome State Fault Refusal :=
  .next (if s.yrdOn && s.fuse.devId ≠ 0 && s.img = 1 && decide ((s.link (s.linkTo 0)).imgAt + 1000000 ≤ s.us) then
    { s with imgRx := [] } else s)

/-- SIDEBAND_MESSAGE (R340, R341): an acknowledgement ends the wait for it, and that of an image's last message the
forwarding; another message is acknowledged, and taken unless it repeats the last. -/
def execSidebandMessage (j seq : Nat) (msg : SbMsg) (s : State) : Host.Outcome State Fault Refusal :=
  .next (if !(s.yrdOn && j < 3 && s.linkSt j != 0 && !s.flag F.YLN_LINK_STATUS_WIRING j) then s
  else match msg with
    | .ack =>
      if !(s.link j).unacked then s
      else
        let send := s.fuse.devId == 0 && s.fld F.YLN_IMG_FWD_STATE (j + 1) == 1
        let last := decide (s.boot.image.length ≤ 4096 * ((s.link j).part + 1))
        let s := s.modLink j fun k =>
          { k with unacked := send && !last, repeats := 0, part := k.part + 1, sentAt := s.us }
        if send && last then (s.setFld F.YLN_IMG_FWD_STATE 2 (j + 1)).raise F.YLN_ID_EVT_IMG_DONE else s
    | .image data =>
      let new := (s.link j).rxSeq != some seq
      let s := s.modLink j fun k => { k with rxSeq := some seq }
      if new && s.fuse.devId ≠ 0 && s.img = 1 && j = s.linkTo 0 then
        { s.modLink j (fun k => { k with imgAt := s.us }) with imgRx := s.imgRx ++ data }
      else s
    | .other => s.modLink j fun k => { k with rxSeq := some seq })

/-- SIDEBAND_REPEAT (R340, R341): a message that is unacknowledged after 1 ms is repeated; after 8 repeats it has
failed, and with it a transfer it is part of. -/
def execSidebandRepeat (j : Nat) (s : State) : Host.Outcome State Fault Refusal :=
  .next (if s.yrdOn && j < 3 && (s.link j).unacked && decide ((s.link j).sentAt + 1000 ≤ s.us) then
    if (s.link j).repeats < 8 then s.modLink j fun k => { k with repeats := k.repeats + 1, sentAt := s.us }
    else
      let s := s.modLink j fun k => { k with unacked := false, repeats := 0, sentAt := s.us }
      if s.fuse.devId = 0 && s.fld F.YLN_IMG_FWD_STATE (j + 1) == 1 then
        (s.setFld F.YLN_IMG_FWD_STATE 3 (j + 1)).raise F.YLN_ID_EVT_IMG_DONE
      else s
  else s)

/-! ## Remote access (R342) -/

/-- A write of RMT_CMD: GO starts an access. -/
def State.rmtCmdWrite (v : W32) (s : State) : State :=
  if F.YLN_RMT_CMD_GO.get v == 0 then s
  else { s.setFld F.YLN_RMT_STATUS_BUSY 1 with rmt := some (F.YLN_RMT_CMD_DEV.get v, F.YLN_RMT_CMD_WRITE.get v == 1, s.us) }

/-- RMT_CMD (R342). -/
def execRmtCmd (m : Master) (v : W32) (s : State) : Host.Outcome State Fault Refusal :=
  .next (s.guardW m (R .YLN_RMT_CMD) v (State.rmtCmdWrite v))

/-- The remote access (R342, Table 14.11) ends at once where it has no target, else with the target's answer, or without
one after 20 µs. -/
def State.rmtDone (ans : Option W32) (s : State) : State :=
  match s.rmt with
  | none => s
  | some (d, w, t) =>
    let j := s.linkTo d
    let code :=
      if d = s.fuse.devId then 2
      else if s.linkSt j = 0 || s.flag F.YLN_LINK_STATUS_WIRING j then 1
      else if ans.isNone then 3 else 0
    if !s.yrdOn || (code = 3 && s.us < t + 20) then s
    else
      let s := { (s.setFld F.YLN_RMT_STATUS_CODE code).setFld F.YLN_RMT_STATUS_BUSY 0 with rmt := none }
      let s := s.when (code == 0 && !w) fun s => s.wr (R .YLN_RMT_DATA) (ans.getD 0)
      s.raise F.YLN_ID_EVT_RMT_DONE

/-! ## Pseudo-random generators and checkers (R326 to R328) -/

/-- A yard checker can lock: its lane carries no traffic. -/
def State.yardCheckable (s : State) (l : Nat) : Bool :=
  s.yrdOn && decide (l < 8) && s.flag F.YL_PRBS_CFG_CHK_EN l && prbsPat (s.fld F.YL_PRBS_CFG_CHK_PAT l) != 5 &&
  (s.linkSt (linkOf l) == 0 || !s.inUse l)

/-- 1 µs of a locked yard checker. -/
def State.yardPrbsTick (l : Nat) (s : State) : State :=
  if s.yrdOn && s.flag F.YL_PRBS_STATUS_CHK_LOCK l then
    let v := s.prbsAcc.get 0 (32 + l) + (if s.fld F.YL_STATUS_MODE l == 2 then 212500 else 106250)
    { s.add64 (R .YL_PRBS_BITS_LO l) (R .YL_PRBS_BITS_HI l) (v / 1024) with
      prbsAcc := s.prbsAcc.set 0 (32 + l) (v % 1024) }
  else s

/-- A write of PRBS_CFG of a yard lane: its generator takes it out of its link as a lane failure, and generators on both
lanes take the link DOWN (Table 14.9). -/
def State.yardPrbsWrite (l : Nat) (v : W32) (s : State) : State :=
  let old := s.rd (R .YL_PRBS_CFG l)
  let use := s.inUse l
  let s := s.plainWrite (R .YL_PRBS_CFG l) v
  let s := s.when (F.YL_PRBS_CFG_CHK_PAT.get old != F.YL_PRBS_CFG_CHK_PAT.get v || F.YL_PRBS_CFG_CHK_EN.get v == 0)
    fun s => { s.setFld F.YL_PRBS_STATUS_CHK_LOCK 0 l with prbsAcc := s.prbsAcc.set 0 (32 + l) 0 }
  let s := s.when (F.YL_PRBS_CFG_ERR_INJ.get v == 1 && s.flag F.YL_PRBS_CFG_GEN_EN l) fun s =>
    { s with prbsInj := s.prbsInj.mod 0 (32 + l) (· + 1) }
  if F.YL_PRBS_CFG_GEN_EN.get old == 0 && F.YL_PRBS_CFG_GEN_EN.get v == 1 then
    let s := (s.modLink (linkOf l) fun k => { k with bad := if k.bad.contains l then k.bad else l :: k.bad }).when use
      (State.linkFail (linkOf l))
    s.when (l < 6 && s.flag F.YL_PRBS_CFG_GEN_EN (2 * (l / 2)) && s.flag F.YL_PRBS_CFG_GEN_EN (2 * (l / 2) + 1))
      (State.linkDown (l / 2))
  else s

/-- A write of PRBS_CFG of a lane, host or yard. -/
def State.genWrite (m : Master) (yard : Bool) (l : Nat) (v : W32) (s : State) : State :=
  if yard then s.guardW m (R .YL_PRBS_CFG l) v (State.yardPrbsWrite l v)
  else s.guardW m (R .HLN_PRBS_CFG l) v (State.prbsWrite l v)

/-- GEN_EN (R328). -/
def execGenEn (m : Master) (yard : Bool) (l : Nat) (v : W32) (s : State) : Host.Outcome State Fault Refusal :=
  .next (s.genWrite m yard l v)

/-- ERR_INJ (R326). -/
def execErrInj (m : Master) (yard : Bool) (l : Nat) (v : W32) (s : State) : Host.Outcome State Fault Refusal :=
  .next (s.genWrite m yard l v)

/-- PRBS_LOCK (R327): 256 bits in a row without an error. -/
def execPrbsLock (yard : Bool) (l : Nat) (s : State) : Host.Outcome State Fault Refusal :=
  .next (if yard then
    if s.yardCheckable l then s.setFld F.YL_PRBS_STATUS_CHK_LOCK 1 l else s
  else if s.checkable l then (s.setFld F.HLN_PRBS_STATUS_CHK_LOCK 1 l).raise F.HLN_LANE_EVT_PRBS_LOCK l else s)

/-- PRBS_LOSS (R327): `errs` bit errors were counted while locked; the loss is counted and the checker seeds itself
again. -/
def execPrbsLoss (yard : Bool) (l errs : Nat) (s : State) : Host.Outcome State Fault Refusal :=
  let sat (lo hi : RegKey) (s : State) : State := s.wr64 lo hi (min (s.rd64 lo hi + errs) (2 ^ 64 - 1))
  .next (if yard then
    if s.yrdOn && s.flag F.YL_PRBS_STATUS_CHK_LOCK l then
      ((sat (R .YL_PRBS_ERR_LO l) (R .YL_PRBS_ERR_HI l) s).bumpFld F.YL_PRBS_STATUS_LOCK_LOSS l).setFld
        F.YL_PRBS_STATUS_CHK_LOCK 0 l
    else s
  else if s.laneOn l && s.flag F.HLN_PRBS_STATUS_CHK_LOCK l then
    (((sat (R .HLN_PRBS_ERR_LO l) (R .HLN_PRBS_ERR_HI l) s).bumpFld F.HLN_PRBS_STATUS_LOCK_LOSS l).setFld
      F.HLN_PRBS_STATUS_CHK_LOCK 0 l).raise F.HLN_LANE_EVT_PRBS_LOSS l
  else s)

end Sys2Proof.Machine
end

