-- ==== Sys2Proof/Machine/BstCore.lean ====
section
/-! DEFINITION. The targets of self-tests (Table 16.5), the power cap (R388), and the end of a test that another event
cuts short (R389). -/

namespace Sys2Proof.Machine

/-- The domain of a target (Table 16.5). -/
def bstDom (t : Nat) : Nat :=
  if t < 2 then 4 + t
  else if t < 0x20 then 4 + (t - 0x10) / 8
  else if t < 0x40 then 9 + (t - 0x20) / 8
  else if t < 0x50 then 13
  else if t < 0x58 then 6
  else if t < 0x60 then 3
  else if t < 0x70 then 1
  else [8, 7, 6, 2].getD (t - 0x70) 0

/-- The excess power of a test, in 0.01 W (Table 16.5). -/
def bstPower (t : Nat) : Nat :=
  if t < 2 then 250
  else if t < 0x20 then 40
  else if t < 0x50 then 20
  else if t < 0x58 then 30
  else if t < 0x60 then 5
  else if t < 0x70 then 10 else 0

/-- The pages of a target whose registers are saved and reset (R386). -/
def bstPages (t : Nat) : List Nat :=
  if t < 2 then (R .CAX_TX_CTRL t).addr / 4096 :: (List.range 8).map fun k => (R .SCX_RX_CFG (8 * t + k)).addr / 4096
  else if t < 0x20 then [(R .SCX_RX_CFG (t - 0x10)).addr / 4096]
  else if t < 0x40 then [(R .HLN_LANE_CFG (t - 0x20)).addr / 4096]
  else if t < 0x50 then [(R .YL_CFG (t - 0x40)).addr / 4096]
  else if t < 0x58 then []
  else if t < 0x60 then [(R .MON_PAIR_CFG (t - 0x58)).addr / 4096]
  else if 0x61 ≤ t && t < 0x70 then [(R .CORE_WDT_CFG (t - 0x60)).addr / 4096] else []

/-- BST_CAP as it applies, in 0.01 W. -/
def State.bstCap (s : State) : Nat := 10 * min (s.rdN (R .BST_CAP)) 860

/-- The shares counted against the cap, in 0.01 W (Table 16.8). -/
def State.shares (s : State) : Nat :=
  150 + (if s.domOn 1 || s.domOn 2 || s.domOn 3 then 260 else 0) +
    ([(4, 1850), (5, 1850), (9, 335), (10, 335), (11, 335), (12, 335), (13, 300), (7, 600), (8, 1800), (6, 450)].map
      fun e => if s.domOn e.1 then e.2 else 0).sum

/-- The headroom, in 0.01 W (R388). -/
def State.headroom (s : State) : Nat := s.bstCap - s.shares - (s.bst.running.map fun x => bstPower x.target).sum

def State.modBst (f : Bst → Bst) (s : State) : State := { s with bst := f s.bst }

/-- RES[t] with an outcome (Table 16.12). -/
def State.bstOutcome (t n : Nat) (s : State) : State := s.setFld F.BST_RES_OUTCOME n t

/-- The PADDOCK sources of a target release. -/
def State.paddockOff (t : Nat) (s : State) : State :=
  { s with asserted := s.asserted.filter fun a => !(a.src == 13 && (bstPages t).contains a.page) }

/-- The registers of a target's pages that hold other than their reset value, with their RW fields. -/
def State.testSave (s : State) (t : Nat) : List (RegKey × W32) :=
  (s.regs.filter fun e => (bstPages t).contains (e.1.addr / 4096)).map fun e => (e.1, e.2 &&& e.1.id.info.rw)

/-- The test of a target is still bringing it idle (step 1 of Table 16.7). -/
def State.testAsking (s : State) (t : Nat) : Bool :=
  s.asserted.any fun a => a.asking && a.src == 13 && (bstPages t).contains a.page

/-- Step 2 of Table 16.7: what the running test of the target with page `page` saves. -/
def State.testSaved (page : Nat) (s : State) : State :=
  s.modBst fun b => { b with running := b.running.map fun x =>
    if (bstPages x.target).contains page then { x with saved := s.testSave x.target } else x }

/-- A carrier or its parts run again after a test, or a test's end, brought up to date. -/
def State.testLift (t : Nat) (s : State) : State :=
  if t < 2 then (s.setFlag F.CAX_TX_STATUS_TEST false t) else s

/-- Every test, queued, running or held, whose target satisfies `p` ends with the outcome ABORTED (R389). -/
def State.bstAbort (p : Nat → Bool) (s : State) : State :=
  let l := (s.bst.queue ++ s.bst.running ++ s.bst.held).filter fun x => p x.target
  let keep := fun (x : BstTest) => !p x.target
  let s := s.modBst fun b =>
    { b with queue := b.queue.filter keep, running := b.running.filter keep, held := b.held.filter keep }
  s.each l fun x s =>
    (((s.paddockOff x.target).testLift x.target).bstOutcome x.target 6).raise F.BST_EVT_ABORTED

end Sys2Proof.Machine
end

