-- ==== Sys2Proof/Machine/PmuCore.lean ====
section
/-! DEFINITION. The start of a domain's wake, and the wake sources (spec/15 R345, R348, R350, R355). -/

namespace Sys2Proof.Machine

def State.modPwr (s : State) (f : Pwr → Pwr) : State := { s with pwr := f s.pwr }

/-- A domain's state (Table 15.2). -/
def State.domSt (s : State) (d : Nat) : Nat := s.fld F.PMU_DOM_STATE d
/-- A domain's state set. -/
def State.setDom (d st : Nat) (s : State) : State := s.setFld F.PMU_DOM_STATE st d
/-- The result of a domain's last request (Table 15.2). -/
def State.domRes (d r : Nat) (s : State) : State := s.setFld F.PMU_DOM_RESULT r d

/-- The rails of a domain (Table 15.1): 0 CORE, 1 CONV0, 2 CONV1, 3 HAY, 4 SER. -/
def railsOf (d : Nat) : List Nat :=
  match d with
  | 0 => []
  | 4 => [0, 1]
  | 5 => [0, 2]
  | 8 => [0, 3]
  | 9 | 10 | 11 | 12 | 13 => [0, 4]
  | _ => [0]

/-- An attempt of domain `d`'s wake starts at step 1, with its rails enabled (R348, R355). -/
def State.wakeTry (d : Nat) (s : State) : State :=
  (s.setDom d 1).modPwr fun p => { p with
    step := p.step.set 0 d 1, stepAt := p.stepAt.set 0 d s.us
    enAt := (railsOf d).foldl (fun (t : NTab Nat) r => if p.en.contains r then t else t.set 0 r s.us) p.enAt
    en := (railsOf d).foldl (fun l r => if l.contains r then l else r :: l) p.en }

/-- The DELAY of domain `d`'s step can have passed since its condition first held (R348). The rails of step 1 have their
power-good no earlier than their enable, OSC_IN of step 3 may have been there before, and the conditions of the other
steps are the domain's own work. -/
def State.stepDue (s : State) (d : Nat) : Bool :=
  let k := s.pwr.step.get 0 d
  let delay := s.fld F.PMU_WAKE_TBL_DELAY k
  if k = 1 then (railsOf d).all fun r => decide (s.pwr.enAt.get 0 r + delay ≤ s.us)
  else k == 3 || decide (s.pwr.stepAt.get 0 d + delay ≤ s.us)

/-- Domain `d`'s step can have timed out (R349): its TIMEOUT has passed, and its rails are not all up in step 1. -/
def State.stepOver (s : State) (d : Nat) : Bool :=
  let k := s.pwr.step.get 0 d
  decide (s.pwr.stepAt.get 0 d + s.fld F.PMU_WAKE_TBL_TIMEOUT k ≤ s.us) &&
    !(k == 1 && (railsOf d).all fun r => s.pwr.pg.contains r)

/-- A request ON of a domain that is OFF or in RETENTION is accepted (R345, R349). -/
def State.wakeBegin (d : Nat) (s : State) : State :=
  let ret := s.domSt d = 5
  let s := (s.setFld F.PMU_DOM_REQ 2 d).setFld F.PMU_DOM_RETRY_LEFT (s.fld F.PMU_CFG_WAKE_RETRY) d
  (s.modPwr fun p => { p with ret := if ret then d :: p.ret.filter (· != d) else p.ret.filter (· != d) }).wakeTry d

/-- Wake source `m` fires (R350): it is recorded, and every masked domain that exists and is OFF or in RETENTION wakes;
one in STOPPING has its ON queued (R347). -/
def State.wakeSource (m : Nat) (s : State) : State :=
  let s := s.wr (R .PMU_WAKE_SRC) (s.rd (R .PMU_WAKE_SRC) ||| BitVec.ofNat 32 (2 ^ m))
  let mask := s.rd (R .PMU_WAKE_MASK m)
  s.upto 14 fun d s =>
    if d == 0 || s.fusedOff d || !(bitOf mask d || (m == 0 && d == 1)) then s
    else match s.domSt d with
    | 0 | 5 => s.wakeBegin d
    | 4 => (s.setFlag F.PMU_DOM_PENDING_ON true d).setFld F.PMU_DOM_REQ 2 d
    | _ => s

end Sys2Proof.Machine
end

