-- ==== Sys2Proof/Machine/BootCore.lean ====
section
/-! DEFINITION. Option bytes (R364) and the application of an image's sections by domain (R366). -/

namespace Sys2Proof.Machine

def State.modBoot (f : Boot → Boot) (s : State) : State := { s with boot := f s.boot }

/-! ## Option bytes -/

/-- An option copy is valid when byte 0 is 0xA5 and the CRC-32 in bytes 60 to 63 checks. -/
def optOk (l : List Byte) : Bool := byteAt l 0 == 0xA5 && beAt l 60 4 == crc32 (l.take 60)

/-- The defaults of Table 15.7, with bytes 0 and 60 to 63 reading 0x00. -/
def optDefault : List Byte :=
  [0x00, 0x03, 0x01, 0xBA, 0x30, 0x00, 0x00, 0x02, 0x00, 0x03, 0x09, 0x00, 0x00, 0x00, 0x64] ++ List.replicate 49 0

/-- The default timeout of wake step `k`, in µs (Table 15.4). -/
def wakeDefault (k : Nat) : Nat := [0, 20000, 200, 20000, 500, 5000, 100].getD k 0

/-- The option bytes loaded: OPT and the option-derived fields, a WAKE_Tn of 0 giving the default of Table 15.4. -/
def State.optApply (l : List Byte) (s : State) : State :=
  let s := s.upto 16 fun i s => s.wrN (R .DEV_OPT i) (beAt l (4 * i) 4)
  let s := s.setFld F.PMU_CFG_WAKE_RETRY (byteAt l 10)
  let s := s.setFld F.AON_CFG_TWI_WAKE (byteAt l 10 / 8)
  let s := s.setFld F.AON_CFG_STRETCH (byteAt l 3 / 128)
  let s := s.setFld F.AON_CFG_TWI_ADDR (byteAt l 3)
  let s := s.wrN (R .RST_IDLE_TO) (half l 13)
  let s := s.setFlag F.AON_SLOW_STATUS_SRC (s.flag F.AON_SLOW_STATUS_XTAL_OK && byteAt l 2 % 2 == 1)
  s.upto 6 fun k s => s.setFld F.PMU_WAKE_TBL_TIMEOUT
    (if byteAt l (16 + k) = 0 then wakeDefault (k + 1) else 100 * byteAt l (16 + k)) (k + 1)

/-- The load of the option bytes: the first valid copy, else the defaults, with OPT_SRC. -/
def State.optLoad (s : State) : State :=
  let a := s.tackBytes 0 64
  let b := s.tackBytes 0x40 64
  if optOk a then (s.optApply a).setFld F.DEV_BOOT_STATUS_OPT_SRC 0
  else if optOk b then (s.optApply b).setFld F.DEV_BOOT_STATUS_OPT_SRC 1
  else (s.optApply optDefault).setFld F.DEV_BOOT_STATUS_OPT_SRC 2

/-! ## Boot -/

/-- The boot firmware starts (R366, R341): device 0 reads its first copy, another device waits for its image over the
yard and announces WANT. -/
def State.bootStart (s : State) : State :=
  let s := s.modBoot fun b => { b with doms := [], lens := [], image := [] }
  let s := ((s.setFld F.DEV_BOOT_STATUS_CODE_A 0).setFld F.DEV_BOOT_STATUS_CODE_B 0).setFld F.DEV_BOOT_STATUS_VERSION 0
  if s.fuse.devId = 0 then
    { (s.setFld F.DEV_BOOT_STATUS_STAGE 1).setFld F.DEV_BOOT_STATUS_COPY (s.optByte 10 / 4) with img := 0 }
  else { s.setFld F.DEV_BOOT_STATUS_STAGE 6 with img := 1, imgRx := [] }

/-- MGMT has come ON, or a CORE reset has ended with it ON: a load and a boot that wait for it run. -/
def State.bootWake (s : State) : State :=
  if s.boot.pend && s.domOn 1 && !s.inReset 1 0 then
    (s.optLoad.modBoot fun b => { b with pend := false }).bootStart
  else s

/-- The pads of a domain that is held (Table 15.15, PAD_HOLD). -/
def padFld (d : Nat) : Option Fld :=
  if d = 1 then some F.PMU_PAD_HOLD_MGMT else if d = 2 then some F.PMU_PAD_HOLD_TMG
  else if d = 3 then some F.PMU_PAD_HOLD_MON else none

/-- Domain `d`'s sections are applied: its pad hold is released and its bit of CFG_APPLIED set. -/
def State.domApplied (d : Nat) (s : State) : State :=
  let s := match padFld d with
    | some f => s.setFld f 0
    | none => s
  s.wr (R .DEV_CFG_APPLIED) (s.rd (R .DEV_CFG_APPLIED) ||| BitVec.ofNat 32 (2 ^ d))

/-- A domain holds up the end of the boot: its sections are still to be applied, it is not held in reset (R361) and its
wake has not exhausted its retries. -/
def State.domPending (s : State) (d : Nat) : Bool := !s.inReset d 0 && !s.flag F.PMU_DOM_EXHAUSTED d

/-- The boot goes on (R366): the sections of every domain that is ON and not held in reset are applied; once none is
left but deferred ones, MGMT's bit is set last. A device with a duplicate identity does not enter service (R25). -/
def State.bootGo (s : State) : State :=
  if s.boot.dup then s else
  let go := s.boot.doms.filter fun d => s.domOn d && !s.inReset d 0
  let s := (s.each go State.domApplied).modBoot fun b => { b with doms := b.doms.filter fun d => !go.contains d }
  if s.fld F.DEV_BOOT_STATUS_STAGE == 3 && !s.boot.doms.any s.domPending then
    (s.domApplied 1).setFld F.DEV_BOOT_STATUS_STAGE 4
  else s

/-! ## Images (R365) -/

/-- The entries of an image's section table (Table 15.9): the domains to wake, the offset, the length and the CRC. -/
def imageSects (l : List Byte) : List (Nat × Nat × Nat × Nat) :=
  (List.range (half l 12)).map fun i =>
    let p := 256 + 16 * i
    (half l (p + 2), beAt l (p + 4) 4, beAt l (p + 8) 4, beAt l (p + 12) 4)

/-- LENGTH of an image (Table 15.8). -/
def imageLen (l : List Byte) : Nat := beAt l 8 4

/-- The domains that the sections of an image wake: the union of their bits [13:1]. -/
def imageDoms (l : List Byte) : List Nat :=
  (List.range 14).filter fun d => d != 0 && (imageSects l).any fun x => x.1 / 2 ^ d % 2 == 1

/-- The digest that an image's signature covers: bytes 112 to 207 count as zero. -/
def imageDigest (l : List Byte) : BitVec 384 :=
  Config.sha384 (l.take 112 ++ List.replicate 96 0 ++ (l.take (imageLen l)).drop 208)

/-- The key hash that the life-cycle state names (Table 15.12), where it asks for a signature. -/
def State.bootKey (s : State) : Option (BitVec 384) := if s.fuse.lc = 3 then some Config.returnHash else s.fuse.keyHash

/-- The code of an image that was read (Tables 15.10 and 15.12); no bytes: the flash does not respond. VERSION is looked
at once everything else is valid. DESIGN CHOICE, safe (log 62). -/
def State.imageCode (s : State) (l : List Byte) : Nat :=
  let sects := imageSects l
  if s.fuse.lc = 0 then 0xB
  else if l.all (· == 0xFF) then 3
  else if beAt l 0 4 != 0x4E474F4E || half l 4 != 1 then 4
  else if beAt l 252 4 != crc32 (l.take 252) then 5
  else if 2 ^ 25 < imageLen l || half l 12 = 0 || 255 < half l 12 ||
      sects.any fun x => decide (imageLen l < x.2.1 + x.2.2.1) then 6
  else if sects.any fun x => crc32 ((l.drop x.2.1).take x.2.2.1) != x.2.2.2 then 7
  else
    let bad := match s.bootKey with
      | none => if s.fuse.lc = 2 then 8 else 0
      | some h =>
        let key := (l.drop 16).take 96
        if Config.sha384 key != h then 8
        else if !Config.ecdsa key (imageDigest l) ((l.drop 112).take 96) then 9 else 0
    if bad != 0 then bad
    else if half l 6 < s.optByte 11 * 256 + s.optByte 12 then 0xA else 1

/-- A valid image is applied (R366): the domains its sections name are woken, but for those the reset before it did not
cover. DESIGN CHOICE, safe (log 45). -/
def State.bootApply (l : List Byte) (s : State) : State :=
  let doms := (imageDoms l).filter fun d => 2 ≤ d && !s.fusedOff d && !(d == 2 && s.boot.skipTmg)
  let s := ({ s with img := 2 }.modBoot fun b => { b with doms := doms, image := l.take (imageLen l) }).setFld
    F.DEV_BOOT_STATUS_VERSION (half l 6)
  let s := s.setFld F.DEV_BOOT_STATUS_STAGE 3
  (s.each doms fun d s => if s.domSt d == 0 || s.domSt d == 5 then s.wakeBegin d else s).bootGo

end Sys2Proof.Machine
end

