-- ==== Sys2Proof/Machine/Sorting.lean ====
section
/-! DEFINITION. Host ports (R150 to R153), pause (R168, R169) and the changes of flows (R157, R171, R172), with their
commands. -/

namespace Sys2Proof.Machine

/-! ## Ports -/

/-- The lanes of the other enabled ports. -/
def State.otherLanes (s : State) (p : Nat) : List Nat :=
  (s.insts .SOF_PORT_CFG).flatMap fun q =>
    if q ≠ p && s.flag F.SOF_PORT_CFG_EN q then cfgLanes (s.rd (R .SOF_PORT_CFG q)) else []

/-- The code with which enabling a port is refused, the lowest that applies; 0 where it passes (Table 7.2).
DESIGN CHOICE, unsafe (log 13). -/
def State.portCode (s : State) (p : Nat) (v : W32) : Nat :=
  let rate := F.SOF_PORT_CFG_RATE.get v
  let n := portLanes rate
  let f := F.SOF_PORT_CFG_FIRST_LANE.get v
  let oif := F.SOF_PORT_CFG_OIF_CA.get v
  if (cfgLanes v).any fun l => (s.otherLanes p).contains l then 1
  else if n ≠ 0 && (f % n != 0 || f / 8 != (f + n - 1) / 8) then 2
  else if s.fuse.zq2000 && (cfgLanes v).any fun l => 16 ≤ l then 3
  else if oif ≠ 0 && (oif == 3 || rate < 4 || 7 < rate ||
      (s.insts .SOF_PORT_CFG).any fun q => q != p && s.flag F.SOF_PORT_CFG_EN q &&
          s.fld F.SOF_PORT_CFG_OIF_CA q == oif) then 4
  else if n = 0 then 5 else 0

/-- A refused port write. -/
def State.portRefuse (p code : Nat) (s : State) : State :=
  (s.setFld F.SOF_PORT_STATUS_REFUSED 1 p).setFld F.SOF_PORT_STATUS_REF_CODE code p

/-- A write of PORT_CFG (R151). A refused change leaves the running configuration, a refused enable leaves EN 0 and
stores the other fields. DESIGN CHOICE, unsafe (log 78). -/
def State.portCfgWrite (p : Nat) (v : W32) (s : State) : State :=
  let v := v &&& (R .SOF_PORT_CFG p).mask
  let old := s.rd (R .SOF_PORT_CFG p)
  let en := F.SOF_PORT_CFG_EN.get old == 1
  let en' := F.SOF_PORT_CFG_EN.get v == 1
  if en then
    if (old ^^^ v) &&& 0x3F1F0000 != 0 then s.portRefuse p 6
    else
      let s := (s.wr (R .SOF_PORT_CFG p) v).setFld F.SOF_PORT_STATUS_REFUSED 0 p
      (if en' then s else ((s.setFld F.SOF_PORT_STATUS_UP 0 p).holdPort p).lanesEval (cfgLanes v)).pausePort p
  else if en' then
    let code := s.portCode p v
    if code ≠ 0 then (s.wr (R .SOF_PORT_CFG p) (F.SOF_PORT_CFG_EN.put 0 v)).portRefuse p code
    else ((s.wr (R .SOF_PORT_CFG p) v).setFld F.SOF_PORT_STATUS_REFUSED 0 p).lanesEval (cfgLanes v)
  else (s.wr (R .SOF_PORT_CFG p) v).setFld F.SOF_PORT_STATUS_REFUSED 0 p

/-- PORT_CFG_WRITE (R151). -/
def execPortCfgWrite (m : Master) (p : Nat) (v : W32) (s : State) : Host.Outcome State Fault Refusal :=
  .next (s.guardW m (R .SOF_PORT_CFG p) v (State.portCfgWrite p v))

/-- The port counters of Table 7.7. -/
def portCounters : List (RegId × RegId) :=
  [(.SOF_RX_OK_LO, .SOF_RX_OK_HI), (.SOF_RX_FCS_LO, .SOF_RX_FCS_HI), (.SOF_RX_RUNT_LO, .SOF_RX_RUNT_HI),
   (.SOF_RX_OVERSIZE_LO, .SOF_RX_OVERSIZE_HI), (.SOF_RX_UNCLASS_LO, .SOF_RX_UNCLASS_HI),
   (.SOF_RX_PAUSE_LO, .SOF_RX_PAUSE_HI), (.SOF_TX_OK_LO, .SOF_TX_OK_HI), (.SOF_TX_PAUSE_LO, .SOF_TX_PAUSE_HI)]

/-- A write of PORT_CTRL: CNT_CLR clears all port counters together. -/
def State.portCtrlWrite (p : Nat) (v : W32) (s : State) : State :=
  s.when (F.SOF_PORT_CTRL_CNT_CLR.get v == 1) fun s =>
    s.each portCounters fun r s => s.wr64 (R r.1 p) (R r.2 p) 0

/-- PORT_CNT_CLR (R153, Table 7.6). -/
def execPortCntClr (m : Master) (p : Nat) (v : W32) (s : State) : Host.Outcome State Fault Refusal :=
  .next (s.guardW m (R .SOF_PORT_CTRL p) v (State.portCtrlWrite p v))

/-! ## Pause -/

/-- A received PAUSE or PFC frame (R169): a priority that the frame names and RX_EN honours is paused for non-zero
quanta and released by quanta 0; PAUSE does it for the whole port. -/
def State.pauseRx (p : Nat) (pfc : Bool) (en : Nat) (quanta : List Nat) (s : State) : State :=
  let s := s.add64 (R .SOF_RX_PAUSE_LO p) (R .SOF_RX_PAUSE_HI p) 1
  if pfc then
    s.upto 8 fun q s =>
      let m := s.fld F.SOF_PORT_STATUS_RX_PAUSED p
      if en / 2 ^ q % 2 = 1 && s.fld F.SOF_PFC_CFG_RX_EN p / 2 ^ q % 2 == 1 then
        s.setFld F.SOF_PORT_STATUS_RX_PAUSED (if quanta.getD q 0 = 0 then m &&& (255 - 2 ^ q) else m ||| 2 ^ q) p
      else s
  else s.setFlag F.SOF_PORT_STATUS_PAUSED_ALL (quanta.getD 0 0 != 0) p

/-- Port `p` receives: SOF answers, and the port is enabled and UP. -/
def State.portRx (s : State) (p : Nat) : Bool := s.domOn 7 && !s.inReset 7 0 && decide (p < 16) && s.portUp p

/-- PAUSE_RECEIVED (R169). -/
def execPauseReceived (p : Nat) (pfc : Bool) (en : Nat) (quanta : List Nat) (s : State) :
    Host.Outcome State Fault Refusal :=
  .next (if s.portRx p then (s.add64 (R .SOF_RX_OK_LO p) (R .SOF_RX_OK_HI p) 1).pauseRx p pfc en quanta else s)

/-- PAUSE_EXPIRY (R169): the quanta of a priority, or of the whole port, run out. -/
def execPauseExpiry (p : Nat) (prio : Option Nat) (s : State) : Host.Outcome State Fault Refusal :=
  .next (if s.domOn 7 && p < 16 then
    match prio with
    | some q => s.setFld F.SOF_PORT_STATUS_RX_PAUSED
        (s.fld F.SOF_PORT_STATUS_RX_PAUSED p &&& (255 - 2 ^ (q % 8))) p
    | none => s.setFld F.SOF_PORT_STATUS_PAUSED_ALL 0 p
  else s)

/-- PAUSE_REFRESH (R168): while the condition lasts, the pause frame is sent again. -/
def execPauseRefresh (p : Nat) (s : State) : Host.Outcome State Fault Refusal :=
  .next (if s.portRx p then s.pauseAgain p else s)

/-! ## Frames from the host -/

/-- MAX_FRM as it applies. -/
def State.maxFrm (s : State) (p : Nat) : Nat := min (max (s.fld F.SOF_PORT_CFG_MAX_FRM p) 1518) 9216

/-- A PTP frame that Postmark terminates on a port with PTP_EN (R260).
PRESUMED, unsafe (log 11). DESIGN CHOICE, unsafe (log 17). -/
def State.ptpTaken (s : State) (p : Nat) (l : List Byte) : Bool :=
  let da := (half l 0 * 65536 + half l 2) * 65536 + half l 4
  s.flag F.PMK_PTP_CFG_PTP_EN p && half l 12 == 0x88F7 && (da == 0x011B19000000 || da == 0x0180C200000E)

/-- A MAC control frame (R152): PAUSE and PFC are honoured, other opcodes discarded.
PRESUMED, unsafe (log 11). DESIGN CHOICE, unsafe (log 17). -/
def State.macControl (p : Nat) (l : List Byte) (s : State) : State :=
  match half l 14 with
  | 0x0001 => s.pauseRx p false 0 [half l 16]
  | 0x0101 => s.pauseRx p true (half l 16) ((List.range 8).map fun q => half l (18 + 2 * q))
  | _ => s

/-- A frame of port `p` that is classified, or goes by the default flow (R154, R156). -/
def State.hostClass (p : Nat) (l : List Byte) (s : State) : State :=
  match s.classify p l with
  | some f => s.frameIn f l false false
  | none =>
    let d := s.fld F.SOF_DEF_FLOW_DEF p
    if s.flag F.SOF_DEF_FLOW_DEF_EN p && s.flag F.SOF_PH_W6_VALID d then s.frameIn d l false false
    else s.add64 (R .SOF_RX_UNCLASS_LO p) (R .SOF_RX_UNCLASS_HI p) 1

/-- A frame that has arrived whole on port `p` (R152, Table 7.3). DESIGN CHOICE, unsafe (log 17). -/
def State.hostFrame (p : Nat) (fr : Frame) (s : State) : State :=
  let l := fr.bytes
  let c := s.fld F.SOF_PORT_CFG_OIF_CA p
  if !fr.fcsOk then s.add64 (R .SOF_RX_FCS_LO p) (R .SOF_RX_FCS_HI p) 1
  else if l.length < 64 then s.add64 (R .SOF_RX_RUNT_LO p) (R .SOF_RX_RUNT_HI p) 1
  else if s.maxFrm p < l.length then s.add64 (R .SOF_RX_OVERSIZE_LO p) (R .SOF_RX_OVERSIZE_HI p) 1
  else
    let s := s.add64 (R .SOF_RX_OK_LO p) (R .SOF_RX_OK_HI p) 1
    if half l 12 = 0x8808 then s.macControl p l
    else if half l 12 == 0x8809 && byteAt l 14 == 0x0A then s.esmcRx p (esmcOf l)
    else if s.ptpTaken p l then s.when (s.stbOn && s.domOn 1) (State.ptpIn p l)
    else if c ≠ 0 then
      if pMode (s.rd (R .CAX_TX_PROFILE (c - 1))) = 0 then s.add64 (R .SOF_RX_UNCLASS_LO p) (R .SOF_RX_UNCLASS_HI p) 1 else s
    else s.hostClass p l

/-- HOST_FRAME (R154). -/
def execHostFrame (p : Nat) (fr : Frame) (s : State) : Host.Outcome State Fault Refusal :=
  .next (if s.portRx p then s.hostFrame p fr else s)

/-! ## Flows -/

/-- The home group of `gid` exists and is of class `express` (code 0x2 of Table 7.10). -/
def State.groupFits (s : State) (gid : Nat) (express : Bool) : Bool :=
  match s.homeOf gid with
  | some g => s.flag F.LFM_GRP_CFG_EXPRESS g == express
  | none => false

/-- A port can be the egress of a flow (code 0x3). -/
def State.portFits (s : State) (e : Nat) : Bool :=
  decide (e % 16 = e) && s.flag F.SOF_PORT_CFG_EN e && s.fld F.SOF_PORT_CFG_OIF_CA e == 0

/-- The code with which word 6 `v` with VALID = 1 is refused for entry `f`, the lowest that applies (Table 7.10).
DESIGN CHOICE, unsafe (log 13). -/
def State.validCode (s : State) (f : Nat) (v : W32) : Nat :=
  let exp := F.SOF_PH_W6_EXPRESS.get v == 1
  let eg := F.SOF_PH_W6_EGRESS.get v
  let dir := bitOf (s.rd (R .SOF_PH_W3 f)) 31
  if exp && F.SOF_PH_W6_SPILL.get v == 1 then 1
  else if dir && s.toLine f && !s.groupFits eg exp then 2
  else if dir && !s.toLine f && !s.portFits (eg % 16) then 3
  else if 768 < s.quotaSum + s.fld F.SOF_FP_W3_SHED_QUOTA f then 4
  else if 2 ≤ s.fld F.SOF_FP_W4_STATE f then 5
  else if !dir then 6 else 0

/-- PH_RESULT. -/
def State.phResult (kind f code : Nat) (s : State) : State :=
  (s.wr (R .SOF_PH_RESULT) (F.SOF_PH_RESULT_KIND.put kind (F.SOF_PH_RESULT_FLOW.put f (F.SOF_PH_RESULT_CODE.put code
    0)))).when (code != 0) fun s => s.raise F.SOF_EVT_PH_REFUSED

/-- A write of word 6 (R157, R171): validation, removal, or the other bits of an entry that is not valid. A write that
keeps a valid entry valid is discarded; a refused validation stores the other bits. DESIGN CHOICE, unsafe (log 16, 80).
-/
def State.w6Write (f : Nat) (v : W32) (s : State) : State :=
  let new := F.SOF_PH_W6_VALID.get v == 1
  if s.flag F.SOF_PH_W6_VALID f then
    if new then s.raise F.SOF_EVT_PH_WR_DISCARD
    else ((s.setFld F.SOF_PH_W6_VALID 0 f).setFld F.SOF_FP_W4_STATE (if s.occ f = 0 then 0 else 2) f).thresholds f
  else if new then
    let code := s.validCode f v
    if code ≠ 0 then (s.plainWrite (R .SOF_PH_W6 f) (F.SOF_PH_W6_VALID.put 0 v)).phResult 0 f code
    else (((s.plainWrite (R .SOF_PH_W6 f) v).setFld F.SOF_FP_W4_STATE 1 f).phResult 0 f 0).thresholds f
  else s.plainWrite (R .SOF_PH_W6 f) v

/-- VALIDATE (R157). -/
def execValidate (m : Master) (f : Nat) (v : W32) (s : State) : Host.Outcome State Fault Refusal :=
  .next (s.guardW m (R .SOF_PH_W6 f) v (State.w6Write f v))

/-- FLOW_REMOVE (R171). -/
def execFlowRemove (m : Master) (f : Nat) (v : W32) (s : State) : Host.Outcome State Fault Refusal :=
  .next (s.guardW m (R .SOF_PH_W6 f) v (State.w6Write f v))

/-- Words 0 to 5 of an entry. -/
def phWord (w : Nat) : RegId := [.SOF_PH_W0, .SOF_PH_W1, .SOF_PH_W2, .SOF_PH_W3, .SOF_PH_W4].getD w .SOF_PH_W5

/-- A write of words 0 to 5 (R157). -/
def State.phWrite (f w : Nat) (v : W32) (s : State) : State :=
  if s.flag F.SOF_PH_W6_VALID f then s.raise F.SOF_EVT_PH_WR_DISCARD else s.plainWrite (R (phWord w) f) v

/-- PH_ENTRY_WRITE (R157). -/
def execPhEntryWrite (m : Master) (f word : Nat) (v : W32) (s : State) : Host.Outcome State Fault Refusal :=
  .next (s.guardW m (R (phWord word) f) v (State.phWrite f word v))

/-- A write of word 3 of a flow's parameters: a SHED_QUOTA that would break the sum of 48 MB is discarded with code 0x4
(Table 7.13); its other fields are stored, and KIND is 0. DESIGN CHOICE, unsafe (log 81). -/
def State.fpQuotaWrite (f : Nat) (v : W32) (s : State) : State :=
  let q := F.SOF_FP_W3_SHED_QUOTA.get v
  if s.flag F.SOF_PH_W6_VALID f && 768 < s.quotaSum - s.fld F.SOF_FP_W3_SHED_QUOTA f + q then
    (s.plainWrite (R .SOF_FP_W3 f) (F.SOF_FP_W3_SHED_QUOTA.put (s.fld F.SOF_FP_W3_SHED_QUOTA f) v)).phResult 0 f 4
  else s.plainWrite (R .SOF_FP_W3 f) v

/-- The flow counters of Table 7.14. -/
def flowCounters : List RegId :=
  [.SOF_ACC_FRM_LO, .SOF_ACC_FRM_HI, .SOF_ACC_BYTE_LO, .SOF_ACC_BYTE_MID, .SOF_ACC_BYTE_HI, .SOF_OUT_FRM_LO,
   .SOF_OUT_FRM_HI, .SOF_OUT_BYTE_LO, .SOF_OUT_BYTE_MID, .SOF_OUT_BYTE_HI, .SOF_POL_DROP_LO, .SOF_POL_DROP_HI,
   .SOF_QUE_DROP_LO, .SOF_QUE_DROP_HI, .SOF_ERR_DROP_LO, .SOF_ERR_DROP_HI, .SOF_KEY_DROP_LO, .SOF_KEY_DROP_HI,
   .SOF_PATH_DROP_LO, .SOF_PATH_DROP_HI, .SOF_POISON_DROP_LO, .SOF_POISON_DROP_HI, .SOF_XOFF_CNT_LO, .SOF_XOFF_CNT_HI]

/-- MOVE (Table 7.15). -/
def State.moveFlow (f e : Nat) (s : State) : State :=
  let exp := s.flag F.SOF_PH_W6_EXPRESS f
  let code :=
    if s.flag F.SOF_PH_W6_VALID f && s.toLine f && !s.groupFits e exp then 2
    else if s.flag F.SOF_PH_W6_VALID f && !s.toLine f && !s.portFits (e % 16) then 3
    else if 2 ≤ s.fld F.SOF_FP_W4_STATE f then 5
    else if !s.flag F.SOF_PH_W6_VALID f then 7 else 0
  if code ≠ 0 then s.phResult 1 f code
  else
    let s := s.setFld F.SOF_PH_W6_EGRESS e f
    (s.setFld F.SOF_FP_W4_STATE (if (s.flow f).q.all (·.egress == s.egressOf f) then 1 else 3) f).phResult 1 f 0

/-- FLUSH (Table 7.15): every frame discarded; a DRAINING flow becomes IDLE, a MOVING one ACTIVE. -/
def State.flushFlow (f : Nat) (s : State) : State :=
  let n := (s.flow f).q.length
  let s := (((s.modFlow f fun fl => { fl with q := [], dfc := 0 }).add64 (R .SOF_QUE_DROP_LO f) (R .SOF_QUE_DROP_HI f)
    n).flowCount .SOF_QUE_DROP_LO f n).departed f
  let st := s.fld F.SOF_FP_W4_STATE f
  (s.setFld F.SOF_FP_W4_STATE (if st = 2 then 0 else if st = 3 then 1 else st) f).phResult 1 f 0

/-- A write of PH_CMD (R172). DESIGN CHOICE, unsafe (log 15). -/
def State.phCmdWrite (v : W32) (s : State) : State :=
  let f := F.SOF_PH_CMD_FLOW.get v
  (match F.SOF_PH_CMD_CMD.get v with
    | 1 => s.moveFlow f (F.SOF_PH_CMD_ARG.get v)
    | 2 => s.flushFlow f
    | 3 => (s.each flowCounters fun r s => s.wr (R r f) 0).phResult 1 f 0
    | _ => s.phResult 1 f 8).raise F.SOF_EVT_CMD_DONE

/-- MOVE (R172). -/
def execFlowMove (m : Master) (v : W32) (s : State) : Host.Outcome State Fault Refusal :=
  .next (s.guardW m (R .SOF_PH_CMD) v (State.phCmdWrite v))

/-- FLUSH (R172). -/
def execFlowFlush (m : Master) (v : W32) (s : State) : Host.Outcome State Fault Refusal :=
  .next (s.guardW m (R .SOF_PH_CMD) v (State.phCmdWrite v))

/-- CLR_CNT (R172). -/
def execClrCnt (m : Master) (v : W32) (s : State) : Host.Outcome State Fault Refusal :=
  .next (s.guardW m (R .SOF_PH_CMD) v (State.phCmdWrite v))

end Sys2Proof.Machine
end

