-- ==== Sys2Proof/Machine/Cipher.lean ====
section
/-! DEFINITION. The cipher engine's commands (spec/09): completion and ordered release (R217 to R220), seals (R210),
keys (R213, R214), associations (R215) and the entropy source (R221). -/

namespace Sys2Proof.Machine

/-! ## Release -/

/-- The flow or group whose order a message keeps (R219): a code of its operation, and its number. -/
def Msg.owner (m : Msg) : Nat × Nat :=
  match m.kind with
  | .protect f => (0, f)
  | .verify g _ => (1, g)
  | .seal g => (2, g)
  | .opening g => (3, g)

/-- The stream of group page `g` loses a seal: errored zeros reach delineation, and frames with bytes of it are
discarded (R218). -/
def State.sealGap (g : Nat) (s : State) : State := (s.modGctx g fun x => { x with clear := [] }).delinLoss g

/-- A seal of group page `g` that gets no further than its header: its gap follows the seals that are under way (R219).
-/
def State.sealDrop (g : Nat) (s : State) : State :=
  match ((s.cip.msgs ++ s.cip.wait).filter fun m => m.kind == .opening g).map Msg.id |>.max? with
  | none => s.sealGap g
  | some id =>
    let mark := fun (m : Msg) => if m.id = id then { m with gap := true } else m
    s.modCip fun c => { c with msgs := c.msgs.map mark, wait := c.wait.map mark }

/-- A seal of group page `g` fails, or finds no key (R210, R217). -/
def State.sealFail (g : Nat) (s : State) : State :=
  (s.add64 (R .CIP_SEAL_FAIL_LO g) (R .CIP_SEAL_FAIL_HI g) 1).raise F.CIP_EVT_SEAL_FAIL

/-- A seal of group page `g` is a replay (R210). -/
def State.sealReplay (g : Nat) (s : State) : State := (s.bump (R .CIP_SEAL_REPLAY g)).raise F.CIP_EVT_REPLAY

/-- The frame of flow `f` that waited for message `id`: released into its queue, or discarded. -/
def State.protectDone (f id : Nat) (ok : Bool) (s : State) : State :=
  if ok then
    (((s.modFlow f fun fl => { fl with q := fl.q.map fun x => if x.msg = some id then { x with msg := none } else x }).add64
      (R .CIP_ENC_FRM_LO f) (R .CIP_ENC_FRM_HI f) 1).purge f).departed f
  else
    (((s.modFlow f fun fl => { fl with q := fl.q.filter fun x => x.msg ≠ some id }).add64 (R .CIP_AUTH_FAIL_LO f)
      (R .CIP_AUTH_FAIL_HI f) 1).raise F.CIP_EVT_AUTH_FAIL).departed f

/-- A verification ends (R207): a failed tag and a replay discard the frame, a good one loses its SecTAG and ICV and
goes to classification marked verified. -/
def State.verifyDone (g k : Nat) (m : Msg) (ok : Bool) (out : List Byte) (s : State) : State :=
  let next := ((s.keySlot (4 * k + m.an)).map CipKey.rxPn).getD 1
  if !ok then (s.add64 (R .CIP_AUTH_FAIL_LO k) (R .CIP_AUTH_FAIL_HI k) 1).raise F.CIP_EVT_AUTH_FAIL
  else if s.flag F.CIP_CTX_CFG_REPLAY_EN k && m.pn < s.lowPn k next then
    (s.add64 (R .CIP_REPLAY_DROP_LO k) (R .CIP_REPLAY_DROP_HI k) 1).raise F.CIP_EVT_REPLAY
  else
    ((s.setSlot (4 * k + m.an) ((s.keySlot (4 * k + m.an)).map fun x => { x with rxPn := max x.rxPn (m.pn + 1) })).add64
      (R .CIP_ENC_FRM_LO k) (R .CIP_ENC_FRM_HI k) 1).lineClass g (untag m.data m.conf out) true m.mark

/-- The opening of a seal ends (R210, R217, R218): its records are delineated. -/
def State.openDone (g : Nat) (m : Msg) (ok : Bool) (out : List Byte) (s : State) : State :=
  if !ok then (s.sealFail g).sealGap g
  else if m.pn ≤ (s.gctx g).rxPn.get 0 m.an then (s.sealReplay g).sealGap g
  else
    let s := (s.modGctx g fun x => { x with rxPn := x.rxPn.set 0 m.an m.pn, clear := x.clear ++ fit m.len out }).add64
      (R .CIP_SEAL_OK_LO g) (R .CIP_SEAL_OK_HI g) 1
    s.openRecords g ((s.gctx g).clear.length / 4 + 1)

/-- The flows whose bytes a message has held are compared with their thresholds again (R204). -/
def State.sharesGone (m : Msg) (s : State) : State := s.each m.own fun e s => s.departed e.1

/-- A finished message is released or discarded, and leaves its entry. -/
def State.release (m : Msg) (ok : Bool) (out : List Byte) (s : State) : State :=
  let s := s.msgGone m.id
  match m.kind with
  | .protect f => s.protectDone f m.id ok
  | .verify g k => (s.verifyDone g k m ok out).flushBehind g m.id
  | .seal g => ((s.sealSent g m ok).when (!ok) (State.sealFail g)).sharesGone m
  | .opening g => (s.openDone g m ok out).when m.gap (State.sealGap g)

/-- The messages of an owner released while the oldest is finished (R219). -/
def State.releases (o : Nat × Nat) : Nat → State → State
  | 0, s => s
  | n + 1, s =>
    match s.cip.msgs.find? fun m => m.owner == o with
    | none => s
    | some m =>
      match m.fin with
      | none => s
      | some (ok, out) => State.releases o n (s.release m ok out)

/-- A message finishes: its core takes other work, and what its owner's order lets go is released. -/
def State.finish (m : Msg) (ok : Bool) (out : List Byte) (s : State) : State :=
  let s := (s.modCip fun c => { c with
    msgs := c.msgs.map fun x => if x.id = m.id then { x with fin := some (ok, out) } else x }).coreDrop m.id
  s.releases m.owner s.cip.msgs.length

/-- CIPHER_DONE (R217): message `id` completes, its tag verified or not, with its output. -/
def execCipherDone (id : Nat) (ok : Bool) (out : List Byte) (s : State) : Host.Outcome State Fault Refusal :=
  .next (match s.msg id with
    | some m => if s.domOn 6 && m.fin.isNone then s.finish m ok out else s
    | none => s)

/-- CIPHER_TIMEOUT (R220): the message is discarded like a failed one, and its core taken up afresh. -/
def execCipherTimeout (id : Nat) (s : State) : Host.Outcome State Fault Refusal :=
  .next (match s.msg id with
    | some m =>
      if s.domOn 6 && m.fin.isNone then
        let at' := (List.range 8).find? fun c =>
          (s.core c).cur == some id || (s.core c).susp.contains id || (s.core c).wait.contains id
        let s := match at' with
          | some c => s.count 0x0E5 c 1
          | none => s
        (((s.finish m false []).bump (R .CIP_TIMEOUT_CNT)).raise F.CIP_EVT_TIMEOUT).detect 8
      else s
    | none => s)

/-! ## Seals -/

/-- A seal header of 16 bytes on group page `g` (R210, Table 9.3); after an invalid one the stream is discarded up to
the next round boundary. -/
def State.sealHeader (g : Nat) (h : List Byte) (s : State) : State :=
  let w := half h 0
  let v := beAt h 0 14
  let pn := beAt h 4 8
  let wlen := w % 2 ^ 13
  let an := w / 2 ^ 14
  if h.length ≠ 16 || crc16 112 v ≠ half h 14 || w / 2 ^ 13 % 2 = 0 || half h 2 % 4096 ≠ s.gid g || 4096 < wlen then
    (((s.bump (R .CIP_SEAL_LOSS g)).raise F.CIP_EVT_SEAL_LOSS).modGctx g fun x => { x with skip := true }).sealDrop g
  else
    match s.grpKey g an with
    | none => (s.sealFail g).sealDrop g
    | some k =>
      if pn ≤ (s.gctx g).rxPn.get 0 an then (s.sealReplay g).sealDrop g
      else
        s.newMsg { Msg.base (.opening g) (s.flag F.LFM_GRP_CFG_EXPRESS g) (4 * wlen) an pn k.key with
          iv := sealIv k.salt (s.gid g) pn, aad := h.take 14 }

/-- SEAL_HEADER (R210): in the tile stream of an encrypted group in service whose payload is delivered. A word of bare
idle is skipped. -/
def execSealHeader (g : Nat) (h : List Byte) (s : State) : Host.Outcome State Fault Refusal :=
  .next (if s.domOn 6 && s.domOn 7 && g < 160 && s.grpEnc g && s.grpUp g && s.grpPays g &&
      !(s.gctx g).skip && half h 0 * 65536 + half h 2 != 0x00001D0F then s.sealHeader g h else s)

/-! ## Key commands -/

/-- Slot `n` is the active transmit slot of a flow context or of an enabled group context (code 0x2 of Table 9.5).
DEDUCED, unsafe (log 18). -/
def State.activeSlot (s : State) (n : Nat) : Bool :=
  n % 4 == s.fld F.CIP_CTX_CFG_TX_AN (n / 4) ||
    (s.insts .LFM_GRP_CFG).any fun g => s.flag F.LFM_GRP_CFG_EN g && s.fld F.CIP_GCX_CFG_KEYSET g == n / 4 &&
      s.fld F.CIP_GCX_CFG_TX_AN g == n % 4

/-- KEK0 can be used: programmed, and in a life-cycle state that shows it (R213). -/
def State.kek0 (s : State) : Option (BitVec 256) := if s.fuse.lc = 0 || s.fuse.lc = 3 then none else s.fuse.kek0

/-- KEK1 to KEK3. -/
def State.kek (s : State) (n : Nat) : Option (BitVec 256) := s.cip.keks.get none n

/-- The ten staged words of KEY_DATA. -/
def State.keyWords (s : State) : List W32 := (List.range 10).map fun i => s.cip.data.get 0 i

/-- The staged salt, KEY_SALT[0] first. -/
def State.saltNow (s : State) : BitVec 96 := s.cip.salt.get 0 0 ++ s.cip.salt.get 0 1 ++ s.cip.salt.get 0 2

/-- A key command ends with a code: the staging is cleared, and the event set.
DESIGN CHOICE, unsafe (log 13). DEDUCED, unsafe (log 18). -/
def State.keyResult (code : Nat) (s : State) : State :=
  ((s.modCip fun c => { c with data := [], salt := [] }).setFld F.CIP_KEY_RESULT_CODE code).raise
    (if code = 0 then F.CIP_EVT_KEY_DONE else F.CIP_EVT_KEY_REFUSED)

/-- Key commands are refused while the entropy source is unhealthy and ENT_HALT is 1. -/
def State.entHalt (s : State) : Bool := s.flag F.CIP_CFG_ENT_HALT && !s.flag F.CIP_STATUS_ENT_OK

/-- The PNs of the groups that use slot `n` start afresh (R209). -/
def State.grpPns (n : Nat) (s : State) : State :=
  s.each ((s.insts .LFM_GRP_CFG).filter fun g => s.fld F.CIP_GCX_CFG_KEYSET g == n / 4) fun g s =>
    s.modGctx g fun x => { x with txPn := x.txPn.set 0 (n % 4) 0, rxPn := x.rxPn.set 0 (n % 4) 0 }

/-- LOAD_KEY (Table 9.4), refused with the lowest code that applies; the unwrap is tried where none does. -/
def State.loadKey (v : W32) (s : State) : State :=
  let n := F.CIP_KEY_CMD_SLOT.get v
  let k := F.CIP_KEY_CMD_KEK.get v
  if s.activeSlot n then s.keyResult 2
  else
    match if k = 0 then none else s.kek k with
    | none => s.keyResult 3
    | some kek =>
      if s.entHalt then s.keyResult 4
      else
        match Config.unwrap kek s.keyWords with
        | none => s.keyResult 1
        | some key =>
          ((s.setSlot n (some { key := key, salt := s.saltNow, txPn := 1, spent := false,
                                rxPn := 1 })).grpPns n).keyResult 0

/-- KEK_VALID from the KEKs held. -/
def State.kekShow (s : State) : State :=
  s.setFld F.CIP_STATUS_KEK_VALID (((List.range 3).map fun i => if (s.kek (i + 1)).isSome then 2 ^ i else 0).sum)

/-- KEK `n` replaced. -/
def State.setKek (n : Nat) (k : Option (BitVec 256)) (s : State) : State :=
  (s.modCip fun c => { c with keks := c.keks.set none n k }).kekShow

/-- LOAD_KEK (Table 9.4). -/
def State.loadKek (v : W32) (s : State) : State :=
  let n := F.CIP_KEY_CMD_SLOT.get v % 4
  if n = 0 then s.keyResult 3
  else if s.entHalt then s.keyResult 4
  else
    match s.kek0 with
    | none => s.keyResult 5
    | some k0 =>
      match Config.unwrap k0 s.keyWords with
      | none => s.keyResult 1
      | some key => (s.setKek n (some key)).keyResult 0

/-- A write of KEY_CMD (Table 9.4). DESIGN CHOICE, unsafe (log 15). -/
def State.keyCmdWrite (v : W32) (s : State) : State :=
  let n := F.CIP_KEY_CMD_SLOT.get v
  match F.CIP_KEY_CMD_CMD.get v with
  | 1 => s.loadKey v
  | 2 => s.loadKek v
  | 3 => if s.entHalt then s.keyResult 4 else (s.setSlot n none).keyResult 0
  | 4 => if n % 4 = 0 then s.keyResult 3 else if s.entHalt then s.keyResult 4 else (s.setKek (n % 4) none).keyResult 0
  | _ => s.keyResult 6

/-- LOAD_KEY (R213). -/
def execLoadKey (m : Master) (v : W32) (s : State) : Host.Outcome State Fault Refusal :=
  .next (s.guardW m (R .CIP_KEY_CMD) v (State.keyCmdWrite v))

/-- LOAD_KEK (R213). -/
def execLoadKek (m : Master) (v : W32) (s : State) : Host.Outcome State Fault Refusal :=
  .next (s.guardW m (R .CIP_KEY_CMD) v (State.keyCmdWrite v))

/-- ERASE (R214). -/
def execErase (m : Master) (v : W32) (s : State) : Host.Outcome State Fault Refusal :=
  .next (s.guardW m (R .CIP_KEY_CMD) v (State.keyCmdWrite v))

/-- ERASE_KEK (R213). -/
def execEraseKek (m : Master) (v : W32) (s : State) : Host.Outcome State Fault Refusal :=
  .next (s.guardW m (R .CIP_KEY_CMD) v (State.keyCmdWrite v))

/-- TX_AN_WRITE (R215): a write of a flow's or group's context, which applies to messages accepted from now on. -/
def execTxAnWrite (m : Master) (grp : Bool) (i : Nat) (v : W32) (s : State) : Host.Outcome State Fault Refusal :=
  let k := if grp then R .CIP_GCX_CFG i else R .CIP_CTX_CFG i
  .next (s.guardW m k v fun s => s.plainWrite k v)

/-! ## Entropy source (R221) -/

/-- ENT_FAIL (R221): a health test fails. -/
def execEntFail (s : State) : Host.Outcome State Fault Refusal :=
  .next (if s.domOn 6 then
    ((s.setFlag F.CIP_STATUS_ENT_OK false).raise F.CIP_EVT_ENT_FAIL).bump (R .CIP_ENT_FAIL_CNT) else s)

/-- ENT_OK (R221): three windows in a row pass, or the start-up samples of a domain that has come ON. -/
def execEntOk (s : State) : Host.Outcome State Fault Refusal :=
  .next (if s.domOn 6 && !s.flag F.CIP_STATUS_ENT_OK then
    (s.setFlag F.CIP_STATUS_ENT_OK true).raise F.CIP_EVT_ENT_OK_EVT else s)

end Sys2Proof.Machine
end

