-- ==== Sys2Proof/Machine/Inject.lean ====
section
/-! DEFINITION. The test window and the injection slots (spec/17 R413 to R415): which slots act, and what happens at a
slot's start and end. -/

namespace Sys2Proof.Machine

/-- The target lies in its code's range (Table 17.10); an unlisted code has none. -/
def State.injValid (s : State) (code t : Nat) : Bool :=
  match code with
  | 0x01 => decide (t ≤ 7) && !(s.fuse.zq2000 && (t == 2 || t == 3))
  | 0x02 | 0x14 | 0x15 => decide (t ≤ 14)
  | 0x03 => t == 10 || t == 13 || t == 14
  | 0x04 | 0x08 | 0x12 => t == 0
  | 0x05 | 0x07 => decide (t ≤ 3)
  | 0x06 => Page.all.any fun p => decide (p.info.base ≤ 4096 * t) && decide (4096 * t < p.info.base +
      p.info.n * p.info.stride)
  | 0x09 => decide (t ≤ 18)
  | 0x10 => decide (t < 160)
  | 0x11 => decide (t < 4096)
  | 0x13 => decide (t ≤ 7) || t == 0xFF
  | _ => false

/-- The life-cycle state and the window let slots act (R413). -/
def State.injAllowed (s : State) : Bool :=
  s.fuse.lc == 1 || s.fuse.lc == 3 || (s.fuse.lc == 2 && s.flag F.SAF_WIN_STATUS_OPEN)

/-- Slot `k` is enabled and its code and target are valid. -/
def State.injWants (s : State) (k : Nat) : Bool :=
  s.flag F.SAF_INJ_CFG_EN k && s.injAllowed && s.injValid (s.fld F.SAF_INJ_CFG_CODE k) (s.fld F.SAF_INJ_CFG_TARGET k)

/-- Slot `k` acts: of two slots with the same code and target, only the lower-numbered one does. -/
def State.injShould (s : State) (k : Nat) : Bool :=
  s.injWants k && !(List.range k).any fun j => s.injWants j &&
    s.fld F.SAF_INJ_CFG_CODE j == s.fld F.SAF_INJ_CFG_CODE k &&
        s.fld F.SAF_INJ_CFG_TARGET j == s.fld F.SAF_INJ_CFG_TARGET k

/-- The domain whose PLL CLK_STOP names: TMG, SOF, HAY, LFM. -/
def stopDom (t : Nat) : Nat := [2, 7, 8, 6].getD (t - 4) 2

/-- A monitored PLL of domain `d` loses its clock: fault 0 (Table 17.6). -/
def State.pllLost (d : Nat) (s : State) : State :=
  if s.domOn d && !s.plls.contains d then { s with plls := s.plls ++ [d] }.detect 0 else s

/-- CFG_ERR keeps the page of the first mismatch (R412). -/
def State.cfgErr (page : Nat) (s : State) : State :=
  if s.flag F.SAF_CFG_ERR_VALID then s else (s.setFld F.SAF_CFG_ERR_PAGE page).setFld F.SAF_CFG_ERR_VALID 1

/-- Slot `k` starts to act: what its code does at its start. The codes that act on what a detector receives later
(PPS_MISS, MON_OFFSET, CORE_STALL, the delays, REF_STEP and REF_DRIFT) do nothing here.
DESIGN CHOICE, safe (log 25). -/
def State.injStart (k : Nat) (s : State) : State :=
  let t := s.fld F.SAF_INJ_CFG_TARGET k
  let s := s.setFld F.SAF_INJ_CFG_ACTIVE 1 k
  match s.fld F.SAF_INJ_CFG_CODE k with
  | 0x01 => if 4 ≤ t then s.pllLost (stopDom t) else if t % 2 = 0 then s.clkFault (t / 2) else s.adcClkFault (t / 2)
  | 0x02 => s.candLost t
  | 0x04 => { s with pmk := { s.pmk with diff := s.pmk.diff + 65536 } }
  | 0x06 => (s.cfgErr t).detect 5
  | 0x08 =>
    let l := s.rdN (R .SAF_INJ_ARG k)
    if s.domOn 8 then { s with hay := { s.hay with wrong := if s.hay.wrong.contains l then s.hay.wrong else l :: s.hay.wrong } }
    else s
  | 0x09 => { s with segBad := if s.segBad.contains t then s.segBad else t :: s.segBad }
  | 0x10 => s.holds
  | 0x11 => s.xoffFlow t
  | _ => s

/-- Slot `k` stops acting: its input is removed, and reactions that it suppressed apply where the fault still shows
(R415). DESIGN CHOICE, safe (log 25). DESIGN CHOICE, unsafe (log 49). -/
def State.injStop (k : Nat) (s : State) : State :=
  let code := s.fld F.SAF_INJ_CFG_CODE k
  let t := s.fld F.SAF_INJ_CFG_TARGET k
  let was := s.flag F.SAF_WIN_CTRL_NO_REACT
  let s := s.setFld F.SAF_INJ_CFG_ACTIVE 0 k
  let s := s.when (code == 1 && 4 ≤ t) fun s => { s with plls := s.plls.filter (· != stopDom t) }
  let s := s.when (code == 0x11) (State.xoffFlow t)
  let s := s.upto 10 fun f s =>
    s.when (was && injClass code f && !s.injActs f && (s.faultLevel f ||
        bitOf (s.rd (R .SAF_FAULT_EVT)) f)) (State.failOvers f)
  (s.holds.ppsEval).qlEval

/-- ACTIVE of every slot brought up to date. -/
def State.injEval (s : State) : State :=
  s.upto 8 fun k s =>
    if s.injShould k && !s.flag F.SAF_INJ_CFG_ACTIVE k then s.injStart k
    else if !s.injShould k && s.flag F.SAF_INJ_CFG_ACTIVE k then s.injStop k else s

/-- The test window closes (R413): every slot's EN clears, and its effects are removed. -/
def State.winShut (s : State) : State :=
  let s := { s with winEnd := 0 }.when (s.flag F.SAF_WIN_STATUS_OPEN) fun s =>
    (s.setFld F.SAF_WIN_STATUS_OPEN 0).raise F.SAF_EVT_WIN_CLOSED
  (s.upto 8 fun k s => s.setFld F.SAF_INJ_CFG_EN 0 k).injEval

/-- The test window opens for `len` seconds: 0 applies as 1, above 3,600 as 3,600 (Table 17.11). -/
def State.winOpen (len : Nat) (s : State) : State :=
  ({ s with winEnd := s.us + 1000000 * max 1 (min 3600 len) }.setFld F.SAF_WIN_STATUS_OPEN 1).injEval

/-- The test window's seconds left. -/
def State.winLeft (s : State) : Nat := if s.flag F.SAF_WIN_STATUS_OPEN then (s.winEnd - s.us + 999999) / 1000000 else 0

end Sys2Proof.Machine
end

