-- ==== Sys2Proof/Machine/Decimate.lean ====
section
/-! DEFINITION. The decimation chain of a monitor converter (spec/12 R282 to R286) and the arithmetic of a detector bin
(R295). -/

namespace Sys2Proof.Machine

/-- A chain's configuration: channel, preset, order, phase option, notch. -/
structure ChainCfg where
  ch : Nat
  preset : Nat
  sinc5 : Bool
  minph : Bool
  notch : Bool
  deriving DecidableEq, Repr

/-! ## Times (Table 12.2) -/

/-- The output period of a preset, in ns. -/
def presetPeriod (preset : Nat) : Nat :=
  match preset with
  | 0 => 20000000
  | 2 => 100000
  | 3 => 4000
  | _ => 1000000

/-- The length of the notch, in ns: NOTCH_LEN modulator periods, at least 16 (R286). -/
def notchNs (lp : Bool) (len : Nat) : Nat := max 16 len * (if lp then 50000 else 3125) / 32

/-- A chain's delay in ns (R283, R285, R286). -/
def chainDelay (c : ChainCfg) (lp : Bool) (notchLen : Nat) : Nat :=
  let base := if c.preset = 3 then (if c.sinc5 then 9760 else 8200)
    else ((if c.minph then 160 else 205) + (if c.sinc5 then 100 else 0)) * presetPeriod c.preset / 100
  base + if c.notch then notchNs lp notchLen / 2 else 0

/-- A chain's settling time in ns (R283, R286). -/
def chainSettle (c : ChainCfg) (lp : Bool) (notchLen : Nat) : Nat :=
  let base := if c.preset = 3 then (if c.sinc5 then 19500 else 16400)
    else (410 + if c.sinc5 then 200 else 0) * presetPeriod c.preset / 100
  base + if c.notch then notchNs lp notchLen else 0

/-! ## The stages (R283) -/

/-- The moving sum over `n` samples; before the first there is nothing. -/
def movSum (n : Nat) (x : List Int) : List Int :=
  (List.range x.length).map fun k => ((x.take (k + 1)).drop (k + 1 - n)).sum

/-- One sample in `m`. -/
def everyNth (m : Nat) (x : List Int) : List Int :=
  (List.range (x.length / m)).map fun k => x.getD (m * (k + 1) - 1) 0

/-- The programmable notch: a moving average with unity gain at DC (R286). -/
def notchStage (len : Nat) (x : List Int) : List Int := (movSum (max 16 len) x).map (· / (max 16 len : Nat))

/-- The overall ratio D of a preset (Table 12.2), a sixteenth of it in low-power mode (R282); for Tone its sinc window.
-/
def sincWindow (preset : Nat) (lp : Bool) : Nat :=
  match preset with
  | 0 => if lp then 12800 else 204800
  | 2 => if lp then 64 else 1024
  | 3 => 16
  | _ => if lp then 640 else 10240

/-- The sinc stage: three or five moving sums, one output every D/16 modulator periods; in Tone one every 16. -/
def sincStage (c : ChainCfg) (lp : Bool) (x : List Int) : List Int :=
  let d := sincWindow c.preset lp
  everyNth (if c.preset = 3 then 16 else d / 16) ((movSum d)^[if c.sinc5 then 5 else 3] x)

/-- The half-band FIR. -/
def halfStage (c : ChainCfg) (x : List Int) : List Int := everyNth 2 (Config.halfBand (c.minph && c.preset != 3) x)

/-- The final FIR; in Tone it resamples by 25/32. -/
def finalStage (c : ChainCfg) (x : List Int) : List Int :=
  if c.preset = 3 then Config.resample x else everyNth 8 (Config.finalFir c.minph x)

/-- A shift right with rounding. DESIGN CHOICE, unsafe (log 83). -/
def roundShift (n : Nat) (z : Int) : Int := (2 * z + 2 ^ n) / 2 ^ (n + 1)

/-- The result of stage `k` brought back to its width: by the manual shifts, or by the preset's own (R284). -/
def stageShift (c : ChainCfg) (lp : Bool) (man : Option (List Nat)) (k : Nat) (x : List Int) : List Int :=
  match man with
  | some l => x.map (roundShift (l.getD k 0))
  | none => x.map (Config.presetShift c.preset c.sinc5 lp k)

/-- A code saturated to 24 bits, with whether it was (R284). -/
def satCode (z : Int) : MonOut :=
  ⟨max (-8388608) (min 8388607 z), decide (z < -8388608) || decide (8388607 < z)⟩

/-- The outputs that a converter's chain makes of the modulator's, in the order of R283. -/
def chainOut (c : ChainCfg) (lp : Bool) (notchLen : Nat) (man : Option (List Nat)) (x : List Int) : List MonOut :=
  let x := if c.notch then notchStage notchLen x else x
  let x := stageShift c lp man 0 (sincStage c lp x)
  let x := stageShift c lp man 1 (halfStage c x)
  (stageShift c lp man 2 (finalStage c x)).map satCode

/-! ## A detector bin (R295) -/

/-- The window of a block of `n` outputs at output `k`, in 2⁻³¹: rectangular, or Hann. -/
def binWindow (hann : Bool) (n k : Nat) : Int := if hann then 2 ^ 30 - (Config.rotor (k * 2 ^ 24 / n)).1 else 2 ^ 31

/-- The sum Σ w[n] x[n] e^(−j2π F n / 2²⁴), in 2⁻⁶¹, by its real and imaginary parts. -/
def binSum (hann : Bool) (f : Nat) (x : List Int) : Int × Int :=
  (List.range x.length).foldl (fun a k =>
    let r := Config.rotor (f * k % 2 ^ 24)
    let y := binWindow hann x.length k * x.getD k 0
    (a.1 + y * r.1, a.2 - y * r.2)) (0, 0)

/-- MAG: twice the sum's magnitude over that of the window, in LSB. DESIGN CHOICE, unsafe (log 83). -/
def binMag (hann : Bool) (f : Nat) (x : List Int) : Nat :=
  let z := binSum hann f x
  let w := ((List.range x.length).map (binWindow hann x.length)).sum
  2 * Nat.sqrt (z.1 * z.1 + z.2 * z.2).natAbs / (2 ^ 30 * w.natAbs)

/-- PHASE: the sum's, in 2π / 65,536. -/
def binPhase (hann : Bool) (f : Nat) (x : List Int) : Nat := Config.angle (binSum hann f x) % 65536

end Sys2Proof.Machine
end

