-- ==== Sys2Proof/Machine/Monitor.lean ====
section
/-! DEFINITION. The monitor converters (spec/12): sequences and continuous pairs, triggers, compatibility mode, the pair
cross-check, the detector bins, and the configuration writes with their refusals. -/

namespace Sys2Proof.Machine

def State.pair (s : State) (p : Nat) : MonPair := s.mon.get MonPair.init p
def State.modPair (s : State) (p : Nat) (f : MonPair → MonPair) : State := { s with mon := s.mon.mod MonPair.init p f }

/-- The monitor runs. -/
def State.monOn (s : State) : Bool := s.domOn 3 && !s.inReset 3 0

/-- Compatibility mode (R294). -/
def State.compat (s : State) : Bool := s.flag F.MON_CFG_COMPAT

/-- The pair runs, in native mode. -/
def State.pairOn (s : State) (p : Nat) : Bool :=
  s.monOn && p < 2 && !s.compat && s.flag F.MON_PAIR_CFG_EN p && !s.underTest (0x58 + p)

/-- The time tag of this instant. -/
def State.tagNow (s : State) : W32 × W32 :=
  (BitVec.ofNat 32 s.sec, BitVec.ofNat 32 (s.ns + 2 ^ 31 * bit s.tagValid))

/-- The time tag of an instant `d` ns ago. -/
def State.tagBefore (s : State) (d : Nat) : W32 × W32 :=
  let t := s.pmkTime - d * 65536
  (BitVec.ofNat 32 (t / oneSec), BitVec.ofNat 32 (t % oneSec / 65536 + 2 ^ 31 * bit s.tagValid))

/-! ## The chains -/

/-- The number of a slot as it applies: SEQ_LEN 0 applies as 16. -/
def State.seqLen (s : State) (p : Nat) : Nat :=
  if s.fld F.MON_PAIR_CFG_SEQ_LEN p = 0 then 16 else s.fld F.MON_PAIR_CFG_SEQ_LEN p

/-- What pair `p`'s chains run now. -/
def State.chain (s : State) (p : Nat) : ChainCfg :=
  let k := s.pair p
  if k.deciding then ⟨30, s.fld F.MON_PAIR_CFG_PRESET p, false, false, false⟩
  else if k.trig.isSome then
    ⟨s.fld F.MON_TRIG_CFG_CH, s.fld F.MON_TRIG_CFG_PRESET, s.flag F.MON_TRIG_CFG_SINC5, false, false⟩
  else if s.flag F.MON_PAIR_CFG_CONT p then
    ⟨s.fld F.MON_PAIR_CFG_CH p, s.fld F.MON_PAIR_CFG_PRESET p, s.flag F.MON_PAIR_CFG_SINC5 p,
      s.flag F.MON_PAIR_CFG_MINPH p && !s.flag F.MON_PAIR_CFG_PCC p, s.flag F.MON_PAIR_CFG_NOTCH p⟩
  else ⟨F.MON_SEQ_CH.get k.slot, F.MON_SEQ_PRESET.get k.slot, F.MON_SEQ_SINC5.get k.slot == 1,
    F.MON_SEQ_MINPH.get k.slot == 1, F.MON_SEQ_NOTCH.get k.slot == 1⟩

/-- What the four chains run in compatibility mode: no notch, linear phase (R294). -/
def State.compatChain (s : State) : ChainCfg :=
  ⟨0, s.fld F.MON_COMPAT_CFG_PRESET, s.flag F.MON_COMPAT_CFG_SINC5, false, false⟩

/-- The delay of pair `p`'s chains now. -/
def State.pairDelay (s : State) (p : Nat) : Nat :=
  chainDelay (s.chain p) (s.flag F.MON_PAIR_CFG_LP p) (s.rdN (R .MON_NOTCH_LEN p))

/-- The settling time of pair `p`'s chains, in ns. -/
def State.pairSettle (s : State) (p : Nat) : Nat :=
  if s.compat then chainSettle s.compatChain false 0
  else chainSettle (s.chain p) (s.flag F.MON_PAIR_CFG_LP p) (s.rdN (R .MON_NOTCH_LEN p))

/-- What the converters of pair `p` deliver for their modulators' outputs `x` (R283, R284). -/
def State.convOut (s : State) (p : Nat) (x : List Int) : List MonOut :=
  let man := if s.flag F.MON_SHIFT_MAN p then
      some [s.fld F.MON_SHIFT_SH1 p, s.fld F.MON_SHIFT_SH2 p, s.fld F.MON_SHIFT_SH3 p] else none
  if s.compat then chainOut s.compatChain false 0 man x
  else chainOut (s.chain p) (s.flag F.MON_PAIR_CFG_LP p) (s.rdN (R .MON_NOTCH_LEN p)) man x

/-- The outputs that the pair's slot or triggered conversion averages, AVG + 1 (R288, R291). -/
def State.pairAvg (s : State) (p : Nat) : Nat :=
  1 + if (s.pair p).trig.isSome then s.fld F.MON_TRIG_CFG_AVG else F.MON_SEQ_AVG.get (s.pair p).slot

/-- CHK_RUN: native mode, some pair running. -/
def State.chkShow (s : State) : State :=
  s.setFlag F.MON_STATUS_CHK_RUN (!s.compat && (s.flag F.MON_PAIR_CFG_EN 0 || s.flag F.MON_PAIR_CFG_EN 1))

/-- The channel a pair has selected, in its status register. -/
def State.chShow (p : Nat) (s : State) : State := s.setFld F.MON_PAIR_STATUS_CH_NOW (s.chain p).ch p

/-- A bin's source: pairs 2 and 3 apply as 0. -/
def State.binPair (s : State) (b : Nat) : Nat :=
    if s.fld F.MON_BIN_CFG_PAIR b < 2 then s.fld F.MON_BIN_CFG_PAIR b else 0

/-- The blocks in progress of the bins that pair `p` feeds are discarded (R295). -/
def State.binsDrop (p : Nat) (s : State) : State := { s with bins := s.bins.filter fun e => s.binPair e.1 != p }

/-- The chains of pair `p` restart (R287): no output until they have settled. -/
def State.pairRestart (p : Nat) (s : State) : State :=
  let s := (s.setFld F.MON_STATUS_SETTLING (s.fld F.MON_STATUS_SETTLING ||| (3 * 4 ^ p))).setFlag F.MON_PAIR_STATUS_SETTLED
    false p
  ((s.modPair p fun k => { k with since := s.us }).binsDrop p).chShow p

/-- The slot of pair `p` that begins takes its configuration (R296). -/
def State.slotTake (p : Nat) (s : State) : State :=
  s.modPair p fun k => { k with slot := s.rd (R .MON_SEQ p (s.fld F.MON_PAIR_STATUS_SLOT_NOW p)) }

/-- The chains of pair `p` restart where what they run differs from `old`. -/
def State.pairMoved (p : Nat) (old : ChainCfg) (s : State) : State :=
  if s.chain p = old then s.chShow p else s.pairRestart p

/-- Both converters of pair `p` deliver outputs. -/
def State.pairSettled (s : State) (p : Nat) : Bool := s.flag F.MON_PAIR_STATUS_SETTLED p

/-! ## Results (R288 to R290) -/

/-- A code as its 24 bits. -/
def code24 (z : Int) : Nat := unsigned 24 (max (-8388608) (min 8388607 z))

/-- A converter is at fault. -/
def State.convBad (s : State) (n : Nat) : Bool := s.fld F.MON_STATUS_FAULT / 2 ^ n % 2 == 1

/-- The pair's result from its converters' outputs: their mean, or the one that is not at fault; whether it is
saturated; and whether it comes from a converter at fault. DESIGN CHOICE, unsafe (log 37). -/
def State.pairOut (s : State) (p : Nat) (x y : MonOut) : Int × Bool × Bool :=
  match s.convBad (2 * p), s.convBad (2 * p + 1) with
  | true, false => (y.val, y.ovf, false)
  | false, true => (x.val, x.ovf, false)
  | b, _ => ((x.val + y.val) / 2, x.ovf || y.ovf, b)

/-- A result register's word, without its tag. -/
def resWord (r : Int × Bool × Bool) : Nat :=
  2 ^ 31 + 2 ^ 30 * bit (r.2.1 || (satCode r.1).ovf) + 2 ^ 29 * bit r.2.2 + code24 r.1

/-- RESULT of channel `ch` from pair `p`, tagged with the input instant, and the limit check (R290). -/
def State.resultIn (p ch : Nat) (r : Int × Bool × Bool) (s : State) : State :=
  let tag := s.tagBefore (s.pairDelay p)
  let s := (s.wrN (R .MON_RESULT ch) (resWord r + 2 ^ 28 * bit s.tagValid + 2 ^ 24 * p)).wr (R .MON_RES_SEC ch) tag.1
  let top := (signed 24 (code24 r.1)) / 256
  let bad := decide (top < signed 16 (s.fld F.MON_LIM_LO ch)) || decide (signed 16 (s.fld F.MON_LIM_HI ch) < top)
  s.when (s.flag F.MON_CH_CFG_LIM_EN ch && bad) fun s =>
    (s.wr (R .MON_LIM_STAT) (s.rd (R .MON_LIM_STAT) ||| BitVec.ofNat 32 (2 ^ ch))).raise F.MON_EVT_LIM

/-! ## Triggered conversions (R291) -/

/-- A triggered conversion starts on pair `p`. -/
def State.trigStart (p : Nat) (tag : W32 × W32) (aband : Bool) (s : State) : State :=
  (s.modPair p fun k => { k with trig := some tag, aband := aband }).pairRestart p

/-- A recognised edge for pair `p`. -/
def State.trigEdge (p : Nat) (s : State) : State :=
  let k := s.pair p
  if k.deciding || k.trig.isSome || k.redo then
    if k.pend.isSome then (s.bump (R .MON_TRIG_OVR_CNT)).raise F.MON_EVT_TRIG_OVR
    else (s.modPair p fun k => { k with pend := some s.tagNow }).setFlag F.MON_PAIR_STATUS_PENDING true p
  else s.trigStart p s.tagNow true

/-- The slot of pair `p` begins, or the pending conversion before it. -/
def State.slotNext (p : Nat) (old : ChainCfg) (s : State) : State :=
  match (s.pair p).pend with
  | some t => ((s.modPair p fun k => { k with pend := none, redo := false }).setFlag F.MON_PAIR_STATUS_PENDING false
      p).trigStart p t false
  | none => ((s.modPair p fun k => { k with redo := false }).slotTake p).pairMoved p old

/-- Pair `p`'s chain delivers: it is settled, and neither a triggered conversion nor a decision has it. -/
def State.pairRuns (s : State) (p : Nat) : Bool :=
  s.pairOn p && s.pairSettled p && (s.pair p).trig.isNone && !(s.pair p).deciding

/-- The mean of a converter's outputs. DESIGN CHOICE, unsafe (log 37). -/
def outMean (l : List MonOut) : MonOut := ⟨meanOf (l.map MonOut.val), l.any MonOut.ovf⟩

/-- The outputs `x` and `y` of pair `p`'s converters are those its conversion averages, and their periods have passed
since the chains settled. -/
def State.avgDone (s : State) (p : Nat) (x y : List MonOut) : Bool :=
  x.length == s.pairAvg p && y.length == s.pairAvg p &&
    decide (1000 * (s.pair p).flow + s.pairAvg p * presetPeriod (s.chain p).preset ≤ 1000 * s.us + 999)

/-- SLOT_DONE (R288): a slot completes with the outputs `x` and `y` of the pair, and the next one begins. -/
def execSlotDone (p : Nat) (x y : List MonOut) (s : State) : Host.Outcome State Fault Refusal :=
  .next <|
    if !s.pairRuns p || s.flag F.MON_PAIR_CFG_CONT p || !s.avgDone p x y then s
    else
      let c := s.chain p
      let s := s.resultIn p c.ch (s.pairOut p (outMean x) (outMean y))
      let n := s.fld F.MON_PAIR_STATUS_SLOT_NOW p + 1
      let s := s.setFld F.MON_PAIR_STATUS_SLOT_NOW (if n < s.seqLen p then n else 0) p
      (s.modPair p fun k => { k with flow := s.us }).slotNext p c

/-- The channel COMPAT_CFG names for converter `n`. -/
def State.compatCh (s : State) (n : Nat) : Nat := s.rdN (R .MON_COMPAT_CFG) / 32 ^ n % 32

/-- The bin's source is settled on its channel. -/
def State.binFed (s : State) (b : Nat) : Bool :=
  let p := s.binPair b
  s.flag F.MON_BIN_CFG_EN b &&
  if s.compat then s.compatCh (2 * p) == s.fld F.MON_BIN_CFG_CH b && s.monFree &&
      s.fld F.MON_STATUS_SETTLING / 4 ^ p % 2 == 0
  else s.flag F.MON_PAIR_CFG_EN p && s.flag F.MON_PAIR_CFG_CONT p && s.pairSettled p &&
      (s.chain p).ch == s.fld F.MON_BIN_CFG_CH b

/-- An output of pair `p`'s stream, with its tag, goes to the bins it feeds (R289, R295). -/
def State.binsIn (p : Nat) (z : Int) (tag : W32 × W32) (s : State) : State :=
  s.upto 8 fun b s =>
    if s.binFed b && s.binPair b == p then { s with bins := s.bins.mod [] b fun l => l ++ [(z, tag)] } else s

/-- PAIR_OUTPUT (R289): an output of a continuous pair. -/
def execPairOutput (p : Nat) (x y : MonOut) (s : State) : Host.Outcome State Fault Refusal :=
  .next <|
    if !(s.pairRuns p && s.flag F.MON_PAIR_CFG_CONT p) then s
    else
      let r := s.pairOut p x y
      ((s.resultIn p (s.chain p).ch r).wrN (R .MON_LAST p) (resWord r)).binsIn p (signed 24 (code24 r.1))
        (s.tagBefore (s.pairDelay p))

/-- A compatibility trigger (R294): all four chains restart; a snapshot still incomplete makes the trigger ignored. -/
def State.compatTrig (s : State) : State :=
  let free := s.flag F.MON_COMPAT_CFG_FREE
  if !free && s.monSnap.isSome then (s.bump (R .MON_TRIG_OVR_CNT)).raise F.MON_EVT_TRIG_OVR
  else { (s.pairRestart 0).pairRestart 1 with monSnap := if free then none else some s.tagNow, monFree := free }

/-- MON_TRIG (R291, R294): an edge on the pin. -/
def execMonTrig (rising : Bool) (s : State) : Host.Outcome State Fault Refusal :=
  .next <|
    let e := s.fld F.MON_CFG_TRIG_EDGE
    if !(s.monOn && (e == 2 || (rising && e != 1) || (!rising && e == 1))) then s
    else if s.compat then s.compatTrig
    else s.upto 2 fun p s =>
      if s.pairOn p && !s.flag F.MON_PAIR_CFG_CONT p && s.fld F.MON_CFG_TRIG_MASK / 2 ^ p % 2 == 1 then s.trigEdge p
      else s

/-- TRIG_DONE (R291): the result of the outputs `x` and `y` with the edge's tag, and the abandoned slot starts again. -/
def execTrigDone (p : Nat) (x y : List MonOut) (s : State) : Host.Outcome State Fault Refusal :=
  .next <|
    match (s.pair p).trig with
    | none => s
    | some t =>
      if !(s.pairOn p && s.pairSettled p && s.avgDone p x y) then s
      else
        let r := s.pairOut p (outMean x) (outMean y)
        let s := ((s.wrN (R .MON_TRIG_RES p) (resWord r)).wr (R .MON_TRIG_SEC p) t.1).wr (R .MON_TRIG_NS p) t.2
        let s := s.raise F.MON_EVT_TRIG_DONE
        ((s.modPair p fun k => { k with trig := none, redo := k.aband, aband := false }).slotTake p).pairRestart p

/-- A write of MON.CTRL: a trigger in compatibility mode (R294), and FAULT cleared (R293). -/
def State.monCtrlWrite (v : W32) (s : State) : State :=
  let s := s.when (F.MON_CTRL_SOFT_TRIG.get v == 1 && s.compat) State.compatTrig
  s.when (F.MON_CTRL_FAULT_CLR.get v == 1) fun s =>
    ((s.setFld F.MON_STATUS_FAULT 0).modPair 0 fun k => { k with run := 0 }).modPair 1 fun k => { k with run := 0 }

/-- SOFT_TRIG (R294). -/
def execSoftTrig (m : Master) (s : State) : Host.Outcome State Fault Refusal :=
  .next (s.guardW m (R .MON_CTRL) 2 (State.monCtrlWrite 2))

/-- COMPAT_TIMER (R294): TIMER × 10 µs have passed. -/
def execCompatTimer (s : State) : Host.Outcome State Fault Refusal :=
  let t := s.rdN (R .MON_TIMER)
  .next (if s.monOn && s.compat && t != 0 && decide (s.monAt + 10 * t ≤ s.us) then
    { s with monAt := s.us }.compatTrig else s)

/-- SNAP_DONE (R294): the four converters' outputs. With FREE = 1 the tag is the input instant. -/
def execSnapDone (l : List MonOut) (s : State) : Host.Outcome State Fault Refusal :=
  .next <|
    if !(s.monOn && s.compat && s.fld F.MON_STATUS_SETTLING == 0 && (s.monFree || s.monSnap.isSome)) then s
    else
      let tag := s.monSnap.getD (s.tagBefore (chainDelay s.compatChain false 0))
      let s := s.upto 2 fun p s => s.binsIn p (signed 24 (code24 ((l.getD (2 * p) ⟨0, false⟩).val))) tag
      let s := s.upto 4 fun n s =>
        let x := l.getD n ⟨0, false⟩
        s.wrN (R .MON_SNAP n) (resWord (x.val, x.ovf, false))
      let s := ((s.wr (R .MON_SNAP_SEC) tag.1).wr (R .MON_SNAP_NS) tag.2).raise F.MON_EVT_SNAP_DONE
      { s with monSnap := none }

/-- SETTLED (R287): converter `n`'s outputs start, its pair's settling time after the restart. -/
def execSettled (n : Nat) (s : State) : Host.Outcome State Fault Refusal :=
  let p := n / 2
  .next <|
    if !(s.monOn && n < 4 && (s.compat || s.pairOn p) &&
        decide (1000 * (s.pair p).since + s.pairSettle p ≤ 1000 * s.us + 999)) then s
    else
      let m := s.fld F.MON_STATUS_SETTLING &&& (15 - 2 ^ n)
      ((s.setFld F.MON_STATUS_SETTLING m).setFlag F.MON_PAIR_STATUS_SETTLED (m / 4 ^ p % 4 == 0) p).modPair p fun k =>
        { k with flow := s.us }

/-! ## The cross-check (R292, R293) -/

/-- The tolerance in LSB: CHK_TOL 0 applies as 1. -/
def State.chkTol (s : State) : Nat := 256 * max 1 (s.fld F.MON_CFG_CHK_TOL)

/-- What MON_OFFSET adds to the check output of converter `n` (Table 17.10), in LSB. -/
def State.monOffset (s : State) (n : Nat) : Int :=
  match (s.insts .SAF_INJ_CFG).find? fun k => s.flag F.SAF_INJ_CFG_ACTIVE k && s.fld F.SAF_INJ_CFG_CODE k == 5 &&
    s.fld F.SAF_INJ_CFG_TARGET k == n with
  | some k => 256 * signed 32 (s.rdN (R .SAF_INJ_ARG k))
  | none => 0

/-- The check filters' settling time and their window, in µs (Table 12.3, R292). -/
def chkSpan : Nat := 1410

/-- CHK_WINDOW: the window of millisecond `ms` has ended with the check outputs `x` and `y`; one in which a check filter was settling does
not count. The CHK_N-th failing window in a row starts the decision: what runs is abandoned, and both converters select
channel 30. -/
def execChkWindow (p ms : Nat) (x y : Int) (s : State) : Host.Outcome State Fault Refusal :=
  .next <|
    if !(s.pairOn p && !(s.pair p).deciding && ms + 1 == s.msNow && decide ((s.pair p).since + chkSpan ≤ s.us)) then s
    else if ((x + s.monOffset (2 * p)) - (y + s.monOffset (2 * p + 1))).natAbs ≤ s.chkTol then
      s.modPair p fun k => { k with run := 0 }
    else
      let s := (s.bump (R .MON_CHK_FAIL_CNT)).raise F.MON_EVT_CHK_FAIL
      let s := s.modPair p fun k => { k with run := k.run + 1 }
      s.when (max 4 (min 64 (s.fld F.MON_CFG_CHK_N)) ≤ (s.pair p).run) fun s =>
        (s.modPair p fun k => { k with deciding := true, trig := none, aband := false, redo := false }).pairRestart p

/-- Converter `n`'s check output `z` on channel 30 lies too far from the stored reference value. Without a production
record there is none, and what is found is a free choice. DESIGN CHOICE, safe (log 84). -/
def State.refOff (s : State) (n : Nat) (z : Int) : Bool :=
  if (newer DevRec.seq s.cal.devA s.cal.devB).isNone then Config.freeBool (s.free + n % 2)
  else decide (s.chkTol < (z + s.monOffset n - s.cal.refs.get 0 n).natAbs)

/-- MON_FAULT (Table 12.3): `x` and `y` are the check outputs of the pair's converters on channel 30; the pair returns
to its channel and restarts its slot or stream. -/
def execMonFault (p : Nat) (x y : Int) (s : State) : Host.Outcome State Fault Refusal :=
  .next <|
    if !(s.pairOn p && (s.pair p).deciding && decide ((s.pair p).since + chkSpan ≤ s.us)) then s
    else
      let a := s.refOff (2 * p) x
      let b := s.refOff (2 * p + 1) y
      let bits := if a = b then 3 else if a then 1 else 2
      let s := s.useFree.useFree.setFld F.MON_STATUS_FAULT (s.fld F.MON_STATUS_FAULT ||| bits * 4 ^ p)
      ((((s.raise F.MON_EVT_FAULT).modPair p fun k => { k with deciding := false, run := 0 }).slotTake p).pairRestart
        p).detect 4

/-- FAULT_CLR (R293). -/
def execFaultClr (m : Master) (s : State) : Host.Outcome State Fault Refusal :=
  .next (s.guardW m (R .MON_CTRL) 1 (State.monCtrlWrite 1))

/-! ## Configuration writes (R296) -/

/-- A write refused with code `c` of Table 12.4. -/
def State.monRefuse (c : Nat) (s : State) : State := (s.raise F.MON_EVT_CFG_REFUSED).setFld F.MON_STATUS_REF_CODE c

/-- A slot, the triggered conversion or the continuous channel of pair `p` uses Tone. -/
def State.usesTone (s : State) (p : Nat) : Bool :=
  s.fld F.MON_TRIG_CFG_PRESET == 3 || (List.range 16).any fun k => s.fld F.MON_SEQ_PRESET p k == 3

/-- Some pair has LP = 1. -/
def State.anyLp (s : State) : Bool := s.flag F.MON_PAIR_CFG_LP 0 || s.flag F.MON_PAIR_CFG_LP 1

/-- Some pair is claimed by the Postcard channel. -/
def State.anyClaim (s : State) : Bool := s.flag F.MON_PAIR_CFG_PCC 0 || s.flag F.MON_PAIR_CFG_PCC 1

/-- A write of PAIR_CFG. -/
def State.pairCfgWrite (p : Nat) (v : W32) (s : State) : State :=
  let old := s.rd (R .MON_PAIR_CFG p)
  let lp := F.MON_PAIR_CFG_LP.get v == 1
  let moved := [F.MON_PAIR_CFG_CONT, F.MON_PAIR_CFG_CH, F.MON_PAIR_CFG_PRESET, F.MON_PAIR_CFG_LP].any fun f =>
      f.get v != f.get old
  if lp && (F.MON_PAIR_CFG_PRESET.get v == 3 || s.usesTone p) then s.monRefuse 1
  else if s.flag F.MON_PAIR_CFG_PCC p && moved then s.monRefuse 2
  else
    let c := s.chain p
    let en := s.flag F.MON_PAIR_CFG_EN p
    let cont := s.flag F.MON_PAIR_CFG_CONT p
    let s := (s.plainWrite (R .MON_PAIR_CFG p) v).chkShow
    let fresh := s.flag F.MON_PAIR_CFG_EN p && !en || s.flag F.MON_PAIR_CFG_CONT p != cont
    let s := s.when (fresh || !s.flag F.MON_PAIR_CFG_EN p) fun s =>
      (((s.modPair p fun k => { MonPair.init with run := k.run }).setFld F.MON_PAIR_STATUS_SLOT_NOW 0 p).setFlag
        F.MON_PAIR_STATUS_PENDING false p).slotTake p
    if fresh || !s.flag F.MON_PAIR_CFG_EN p || F.MON_PAIR_CFG_LP.get v != F.MON_PAIR_CFG_LP.get old then s.pairRestart p
    else if s.flag F.MON_PAIR_CFG_CONT p then s.pairMoved p c else s

/-- A write of a register of the monitor. -/
def State.monWrite (k : RegKey) (v : W32) (s : State) : State :=
  match k.id with
  | .MON_CFG =>
    if F.MON_CFG_COMPAT.get v == 1 && s.anyClaim && !s.compat then s.monRefuse 2
    else
      let old := s.compat
      let s := (s.plainWrite k v).chkShow
      if s.compat = old then s
      else
        let s := (({ s with mon := [], monSnap := none, monFree := false,
                            monAt := s.us }.setFld F.MON_PAIR_STATUS_SLOT_NOW
          0 0).setFld F.MON_PAIR_STATUS_SLOT_NOW 0 1)
        (((s.slotTake 0).slotTake 1).pairRestart 0).pairRestart 1
  | .MON_TIMER => { s.plainWrite k v with monAt := s.us }
  | .MON_CTRL => s.monCtrlWrite v
  | .MON_TRIG_CFG =>
    if F.MON_TRIG_CFG_PRESET.get v == 3 && s.anyLp then s.monRefuse 1
    else
      let c := s.chain
      (s.plainWrite k v).upto 2 fun p s => s.pairMoved p (c p)
  | .MON_COMPAT_CFG =>
    let old := s.rd k
    let s := s.plainWrite k v
    if s.compat && s.rd k != old then (s.pairRestart 0).pairRestart 1 else s
  | .MON_PAIR_CFG => s.pairCfgWrite k.i v
  | .MON_NOTCH_LEN | .MON_SHIFT =>
    let old := s.rd k
    let s := s.plainWrite k v
    if s.rd k != old && (k.id == .MON_SHIFT || (s.chain k.i).notch) then s.pairRestart k.i else s
  | .MON_SEQ =>
    if F.MON_SEQ_PRESET.get v == 3 && s.flag F.MON_PAIR_CFG_LP k.i then s.monRefuse 1 else s.plainWrite k v
  | .MON_CH_CFG => if F.MON_CH_CFG_TIA.get v != 0 && 4 ≤ k.i then s.monRefuse 3 else s.plainWrite k v
  | .MON_BIN_CFG | .MON_BIN_FREQ =>
    if s.flag F.MON_BIN_CFG_OWNER k.i then s
    else
      let old := s.rd k
      let s := s.plainWrite k v
      if s.rd k = old then s else { s with bins := s.bins.filter fun e => e.1 != k.i }
  | _ => s.plainWrite k v

/-- The pages of the monitor. -/
def monPage (k : RegKey) : Bool :=
  match k.id.info.page with
  | .MON | .MONP | .MONC | .MONB => true
  | _ => false

/-- MON comes ON (R287): every chain restarts. -/
def State.monStart (s : State) : State :=
  let s := { s with mon := [], monSnap := none, monFree := false, monAt := s.us, bins := [] }.chkShow
  (((s.slotTake 0).slotTake 1).pairRestart 0).pairRestart 1

end Sys2Proof.Machine
end

