-- ==== Sys2Proof/Machine/Pcc.lean ====
section
/-! DEFINITION. The Postcard channel (spec/13): the transmitters, the claims of the receivers, the receive slots, and
what an accepted Postcard does. -/

namespace Sys2Proof.Machine

/-- The channel runs. -/
def State.pccOn (s : State) : Bool := s.domOn 3 && !s.inReset 3 0
def State.pccR (s : State) (k : Nat) : PccRx := s.pccRx.get PccRx.init k
def State.modPccR (s : State) (k : Nat) (f : PccRx → PccRx) : State := { s with pccRx := s.pccRx.mod PccRx.init k f }

/-! ## Transmitters (R298 to R307) -/

/-- A transmitter may send: enabled, its carrier in FILL or SERVICE (R298, R307). -/
def State.pccSends (s : State) (c : Nat) : Bool :=
  let st := s.fld F.CAX_TX_STATUS_TXSTATE c
  s.pccOn && decide (c < s.nCar) && s.flag F.PCC_TX_CFG_EN c && s.domOn (4 + c) && (st == 3 || st == 4)

/-- The bits of byte 1 of a DEFECT payload (Table 13.3). -/
def State.defectBits (s : State) (c : Nat) : Nat :=
  4 * bit (s.fld F.CAX_RX_STATUS_RXSTATE c != 2) + 2 * bit (s.fld F.CAX_RX_STATUS_RXSTATE c == 4) +
    bit (s.flag F.LFM_CA_STATUS_RDI_C_TX c)

/-- A time of 48-bit seconds and 32-bit nanoseconds, in ten bytes' worth of bits. -/
def stamp80 (t : Nat) : Nat := t / oneSec % 2 ^ 48 * 2 ^ 32 + t % oneSec / 65536

/-- A number of `n` 32-bit words as words, the first byte in the top bits of the first. -/
def wordsOf : Nat → Nat → List W32
  | 0, _ => []
  | n + 1, v => wordsOf n (v / 2 ^ 32) ++ [BitVec.ofNat 32 v]

/-- The payload of an automatic Postcard, as the state is when its transmission starts (Table 13.3, Table 11.6). -/
def State.autoData (s : State) (c t : Nat) : List W32 :=
  match t with
  | 0 => [BitVec.ofNat 32 (s.rdN (R .PCC_NODE_ID) * 65536 + c * 256), s.rd (R .PMK_TX_FREQ c)]
  | 1 => [BitVec.ofNat 32 ((128 * s.fld F.STB_CFG_QL_OPT + s.outQl (8 + c)) * 2 ^ 24 + s.stbSt * 65536)]
  | 2 => [BitVec.ofNat 32 (s.fld F.LFM_CA_STATUS_RDI_MAP_TX c * 2 ^ 24 + s.defectBits c * 65536)]
  | 3 =>
    let tx := s.pmk.pcTx.head?.getD (0, 0)
    let rx := s.pmk.pcRx.head?.getD (0, 0)
    let v := (stamp80 tx.2.toNat * 256 + tx.1) * 2 ^ 88 + (stamp80 rx.2.toNat * 256 + rx.1)
    wordsOf 6 (v * 65536 + (128 * bit s.timeOk + s.outQl (8 + c)) * 256)
  | _ => [BitVec.ofNat 32 (s.rdN (R .LFM_SR_TX c) * 65536)]

/-- The highest-ranking pending Postcard (R305), and the transmitter without it. -/
def State.pccPick (s : State) (c : Nat) : Option (Postcard × PccTx) :=
  let k := s.pccT c
  let auto := fun t => if k.autos.contains t && s.pccAuto c t then
    some (⟨t, [2, 1, 1, 6, 1, 1].getD t 0, s.autoData c t, 0, 0⟩, { k with autos := k.autos.filter (· != t) }) else none
  let soft := fun t => (k.queue.find? fun p => p.type == t).map fun p => (p, { k with queue := k.queue.erase p })
  ((auto 5).orElse fun _ => (auto 2).orElse fun _ => (soft 4).orElse fun _ => (auto 1).orElse fun _ =>
    (auto 3).orElse fun _ => (auto 0).orElse fun _ => soft 6)

/-- A Postcard's header (Table 13.2). -/
def Postcard.header (p : Postcard) : Nat := p.type % 8 * 2 ^ 13 + p.len % 32 * 2 ^ 8 + p.seq % 256

/-- The CRC of a Postcard's header and payload (Table 13.1). -/
def cardCrc (hdr : Nat) (data : List W32) : Nat :=
  crc16 (16 + 32 * data.length) (data.foldl (fun a w => a * 2 ^ 32 + w.toNat) (hdr % 65536))

/-- The sync word (Table 13.1). -/
def syncWord : Nat := 0x3D5BE609

/-- The bits of a Postcard in the order they are sent (Table 13.1). -/
def postcardBits (p : Postcard) : List Bool :=
  msbBits 32 0xAAAAAAAA ++ msbBits 32 syncWord ++ msbBits 16 p.header ++ p.data.flatMap (fun w => msbBits 32 w.toNat) ++
    msbBits 16 (cardCrc p.header p.data)

/-- R of carrier `c`'s transmitter, in kb/s (R298). -/
def State.pccRate (s : State) (c : Nat) : Nat := s.fld F.PCC_TX_CFG_RATE c + 1

/-- `n` bit times of carrier `c`'s transmitter, in µs (R301). -/
def State.txBits (s : State) (c n : Nat) : Nat := (n * 1000 + s.pccRate c - 1) / s.pccRate c

/-- QUEUED of TX_STATUS. -/
def State.queuedShow (c : Nat) (s : State) : State := s.setFld F.PCC_TX_STATUS_QUEUED (s.pccT c).queue.length c

/-- POSTCARD_TX_START (R303, R305): an idle transmitter, after at least 8 bit times of tone, starts the highest pending
Postcard. The time of the last bit of
a time Postcard's sync word, 64 bit times on, is kept (R278). -/
def execPostcardTxStart (c : Nat) (s : State) : Host.Outcome State Fault Refusal :=
  .next <|
    if !(s.pccSends c && (s.pccT c).active.isNone && decide ((s.pccT c).tone + s.txBits c 8 ≤ s.us)) then s
    else match s.pccPick c with
    | none => s
    | some (p, k) =>
      let seq := s.fld F.PCC_TX_STATUS_SEQ c
      let t : Int := s.pmkTime + (64000000 * 65536 / (s.fld F.PCC_TX_CFG_RATE c + 1) / 1000 : Nat)
      let s := s.modPccT c fun _ => { k with
        active := some { p with seq := seq }, left := s.fld F.PCC_TX_CFG_REPEAT c, start := s.us }
      let s := ((s.setFld F.PCC_TX_STATUS_SEQ ((seq + 1) % 256) c).setFlag F.PCC_TX_STATUS_ACTIVE true c).setFld
        F.PCC_TX_STATUS_TYPE p.type c
      (s.when (p.type == 3) fun s => s.modPmk fun q => { q with pcTx := ((seq, t) :: q.pcTx).take 64 }).queuedShow c

/-- TX_DONE (R301, R305, R306): a transmission completes; the next copy follows 8 bit times on, and after the last one
the Postcard is complete. DEDUCED, unsafe (log 35). -/
def execTxDone (c : Nat) (s : State) : Host.Outcome State Fault Refusal :=
  .next <|
    match (s.pccT c).active with
    | none => s
    | some p =>
      if !s.pccOn || decide (s.us < (s.pccT c).start + s.txBits c (96 + 32 * p.len)) then s
      else if 0 < (s.pccT c).left then s.modPccT c fun k => { k with left := k.left - 1, start := s.us + s.txBits c 8 }
      else
        let s := (s.modPccT c fun k => { k with active := none, tone := s.us }).bump (R .PCC_TX_SENT c)
        (s.setFlag F.PCC_TX_STATUS_ACTIVE false c).when (p.type == 4 || p.type == 6) fun s => s.raise F.PCC_EVT_TX_DONE

/-- A write refused with code `r` of Table 13.9. DESIGN CHOICE, unsafe (log 13). -/
def State.pccRefuse (r : Nat) (s : State) : State := (s.raise F.PCC_EVT_CFG_REFUSED).setFld F.PCC_STATUS_REF_CODE r

/-- A write of TX_CMD (R306): the lowest code that applies refuses it. -/
def State.txCmdWrite (c : Nat) (v : W32) (s : State) : State :=
  let t := F.PCC_TX_CMD_TYPE.get v
  let n := F.PCC_TX_CMD_LEN.get v
  let k := s.pccT c
  if 4 ≤ k.queue.length then s.pccRefuse 4
  else if !(t == 4 || t == 6) || 16 < n || (t == 4 && n != 1) then s.pccRefuse 5
  else (s.modPccT c fun k => { k with
    queue := k.queue ++ [⟨t, n, (List.range n).map fun i => k.stage.get 0 i, 0, s.us⟩] }).queuedShow c

/-- TX_CMD (R306). -/
def execTxCmd (m : Master) (c : Nat) (v : W32) (s : State) : Host.Outcome State Fault Refusal :=
  .next (s.guardW m (R .PCC_TX_CMD c) v (State.txCmdWrite c v))

/-- TX_EXPIRED (R306): the oldest queued software Postcard has waited TX_TTL × 100 ms, and is dropped. -/
def execTxExpired (c : Nat) (s : State) : Host.Outcome State Fault Refusal :=
  .next (if !s.pccOn then s
  else match (s.pccT c).queue with
    | [] => s
    | p :: l =>
      if p.since + 100000 * max 1 (s.fld F.PCC_TX_AUTO_TX_TTL c) ≤ s.us then
        (((s.modPccT c fun k => { k with queue := l }).queuedShow c).bump (R .PCC_TX_EXPIRED_CNT c)).raise F.PCC_EVT_TX_EXPIRED
      else s)

/-- The timer of automatic type `t` fires on carrier `c`, `per` seconds after the last time (Table 13.3). -/
def State.cardTimer (c t per : Nat) (s : State) : State :=
  if c < s.nCar && s.domOn 3 && decide ((s.pccT c).timer.get 0 t + 1000000 * per ≤ s.us) then
    (s.modPccT c fun k => { k with timer := k.timer.set 0 t s.us }).pccPend c t
  else s

/-- IDENT_TIMER (Table 13.3). -/
def execIdentTimer (c : Nat) (s : State) : Host.Outcome State Fault Refusal :=
  .next (s.cardTimer c 0 (max 1 (s.fld F.PCC_TX_AUTO_ID_PERIOD c)))

/-- QL_TIMER (Table 13.3). -/
def execQlTimer (c : Nat) (s : State) : Host.Outcome State Fault Refusal :=
  .next (s.cardTimer c 1 (max 1 (s.fld F.PCC_TX_AUTO_QL_PERIOD c)))

/-- DEFECT_TIMER (Table 13.3): while any bit of the payload is 1. -/
def execDefectTimer (c : Nat) (s : State) : Host.Outcome State Fault Refusal :=
  .next (if s.fld F.LFM_CA_STATUS_RDI_MAP_TX c != 0 || s.defectBits c != 0 then s.cardTimer c 2 1 else s)

/-- SR_TIMER (Table 13.3): while the carrier has no source subcarrier. -/
def execSrTimer (c : Nat) (s : State) : Host.Outcome State Fault Refusal :=
  .next (if s.fld F.LFM_CA_STATUS_SRC c == 15 then s.cardTimer c 5 1 else s)

/-! ## Receivers and slots (R308 to R314) -/

/-- The mode of receiver `r`: 3 applies as 0. -/
def rxModeOf (cfg : W32) (r : Nat) : Nat :=
  let m := if r = 0 then F.PCC_CFG_MODE_A.get cfg else F.PCC_CFG_MODE_B.get cfg
  if m = 3 then 0 else m

/-- Receiver `r`'s channel. -/
def State.rxCh (s : State) (r : Nat) : Nat := if r = 0 then s.fld F.PCC_CFG_CH_A else s.fld F.PCC_CFG_CH_B

/-- Receiver `r`'s mode in force. -/
def State.rxModeR (s : State) (r : Nat) : Nat := rxModeOf (s.rd (R .PCC_CFG)) r

/-- Receiver `r` has no samples in compatibility mode (R308). -/
def State.noInput (s : State) (r : Nat) : Bool :=
  s.compat && s.rxModeR r != 0 &&
    !(s.compatCh (2 * r) == s.rxCh r && s.fld F.MON_COMPAT_CFG_PRESET == 3 && s.flag F.MON_COMPAT_CFG_FREE)

/-- TONE as it applies, in 100 Hz. -/
def toneOf (t : Nat) : Nat := max 100 (min 1000 t)

/-- The receiver of slot `k`. -/
def State.slotRx (s : State) (k : Nat) : Nat := s.fld F.PCC_SLOT_CFG_RX k

/-- The bin of an enabled slot is claimed and set (R309). -/
def State.binClaim (k : Nat) (s : State) : State :=
  let r := s.slotRx k
  if s.flag F.PCC_SLOT_CFG_EN k && s.rxModeR r != 0 then
    let n := [7, 6, 6, 5].getD (s.fld F.PCC_SLOT_CFG_RATE k) 5
    let f := (toneOf (s.fld F.PCC_SLOT_CFG_TONE k) * 100 * 2 ^ 24 + 125000) / 250000
    ((((((s.setFlag F.MON_BIN_CFG_EN true k).setFlag F.MON_BIN_CFG_OWNER true k).setFld F.MON_BIN_CFG_PAIR r k).setFld
      F.MON_BIN_CFG_CH (s.rxCh r) k).setFlag F.MON_BIN_CFG_HANN false k).setFld F.MON_BIN_CFG_LOG2N n k).wrN
      (R .MON_BIN_FREQ k) f
  else s.setFlag F.MON_BIN_CFG_OWNER false k

/-- A receiver claims its pair in native mode, or gives it up (R308). -/
def State.pairClaim (r : Nat) (s : State) : State :=
  if s.rxModeR r = 0 || s.compat then s.setFlag F.MON_PAIR_CFG_PCC false r
  else
    let old := s.chain r
    let was := s.flag F.MON_PAIR_CFG_PCC r
    let w : W32 := BitVec.ofNat 32 (0xD0000000 + s.rxCh r * 2 ^ 23 + 3 * 2 ^ 20) |||
      (s.rd (R .MON_PAIR_CFG r) &&& 0xF)
    let s := (s.wr (R .MON_PAIR_CFG r) w).chkShow
    if was then s.pairMoved r old else s.pairRestart r

/-- Slot `k` may leave OFF (Table 13.4). -/
def State.slotOn (s : State) (k : Nat) : Bool :=
  s.pccOn && s.flag F.PCC_SLOT_CFG_EN k && s.rxModeR (s.slotRx k) != 0 && !s.noInput (s.slotRx k)

/-- The source of a slot changes only in OFF or SEARCH (R310). -/
def State.slotDsp (k : Nat) (s : State) : State :=
  let d := s.flag F.PCC_SLOT_CFG_AUTO_DSP k && s.fld F.CAX_RX_STATUS_RXSTATE (s.fld F.PCC_SLOT_CFG_CAR k) == 2
  if s.fld F.PCC_SLOT_STATUS_STATE k ≤ 1 then s.setFlag F.PCC_SLOT_STATUS_DSP d k else s

/-- Slot `k` brought up to date with its OFF conditions. -/
def State.slotEval (k : Nat) (s : State) : State :=
  let st := s.fld F.PCC_SLOT_STATUS_STATE k
  let s := if s.slotOn k then
      if st = 0 then (s.setFld F.PCC_SLOT_STATUS_STATE 1 k).modPccR k fun x => { x with anySeq := true } else s
    else (s.setFld F.PCC_SLOT_STATUS_STATE 0 k).setFlag F.PCC_SLOT_STATUS_FROZEN false k
  s.slotDsp k

/-- The channel brought up to date: inputs, claims, bins and slots. -/
def State.pccEval (s : State) : State :=
  if !s.pccOn then s
  else
    let s := (s.setFlag F.PCC_STATUS_NO_INPUT_A (s.noInput 0)).setFlag F.PCC_STATUS_NO_INPUT_B (s.noInput 1)
    ((s.upto 2 State.pairClaim).upto 8 State.binClaim).upto 8 State.slotEval

/-- Receiver `r` of configuration `cfg` would be single-tone with more than one enabled slot (code 1). -/
def State.slotsMany (s : State) (cfg : W32) : Bool :=
  [0, 1].any fun r => rxModeOf cfg r == 1 &&
    1 < ((List.range 8).filter fun k => s.flag F.PCC_SLOT_CFG_EN k && s.slotRx k == r).length

/-- Two enabled slots of one receiver are closer than three times the higher of their rates (code 2). -/
def State.slotsClose (s : State) : Bool :=
  (List.range 8).any fun a => (List.range a).any fun b =>
    let hz := fun k => 100 * toneOf (s.fld F.PCC_SLOT_CFG_TONE k)
    s.flag F.PCC_SLOT_CFG_EN a && s.flag F.PCC_SLOT_CFG_EN b && s.slotRx a == s.slotRx b &&
      decide ((hz a - hz b) + (hz b - hz a) <
        3000 * (max (s.fld F.PCC_SLOT_CFG_RATE a) (s.fld F.PCC_SLOT_CFG_RATE b) + 1))

/-- A write of PCC_CFG (R308, R319). -/
def State.pccCfgWrite (v : W32) (s : State) : State :=
  if s.slotsMany v then s.pccRefuse 1 else (s.plainWrite (R .PCC_CFG) v).pccEval

/-- A write of SLOT_CFG[k] (R309, R319). -/
def State.slotCfgWrite (k : Nat) (v : W32) (s : State) : State :=
  let t := s.plainWrite (R .PCC_SLOT_CFG k) v
  if t.slotsMany (s.rd (R .PCC_CFG)) then s.pccRefuse 1
  else if t.slotsClose then s.pccRefuse 2
  else t.pccEval

/-- A write of NODE_ID (R319). -/
def State.nodeIdWrite (v : W32) (s : State) : State :=
  if v.toNat % 65536 = 0xFFFF then s.pccRefuse 3 else s.plainWrite (R .PCC_NODE_ID) v

/-- A write of TX_CFG[c]: EN = 0 stops a Postcard in progress (R307); EN = 1 starts the dither unmodulated. -/
def State.txCfgWrite (c : Nat) (v : W32) (s : State) : State :=
  let was := s.flag F.PCC_TX_CFG_EN c
  let s := s.plainWrite (R .PCC_TX_CFG c) v
  if s.flag F.PCC_TX_CFG_EN c then s.when (!was) fun s => s.modPccT c fun k => { k with tone := s.us } else s.pccStop c

/-- PCC_CFG_WRITE (R308). -/
def execPccCfgWrite (m : Master) (v : W32) (s : State) : Host.Outcome State Fault Refusal :=
  .next (s.guardW m (R .PCC_CFG) v (State.pccCfgWrite v))

/-- A write of a register of the monitor; the Postcard receivers follow the configuration (R308). -/
def State.monPccWrite (k : RegKey) (v : W32) (s : State) : State := (s.monWrite k v).pccEval

/-- MON_CFG_WRITE (R296): a write to the register of the monitor at `addr`; an address that names none is unused.
DESIGN CHOICE, safe (log 57). -/
def execMonCfgWrite (m : Master) (addr : Nat) (v : W32) (s : State) : Host.Outcome State Fault Refusal :=
  .next (match (regAt addr).filter monPage with
    | some k => s.guardW m k v (State.monPccWrite k v)
    | none => s)

/-- The gain of a level, clamped to 0 to 48 dB, in 0.1 dB (R311). -/
def gainOf (lvl : Int) : Nat := (max 0 (min 480 (-180 - lvl))).toNat

/-- The gain of the bank: steps of 1.5 dB. -/
def bankGain (lvl : Int) : Nat := (max 0 (min 480 ((-180 - lvl) / 15 * 15))).toNat

/-- Slot `k`'s gain follows its level where R311 lets it: `force` at a capture. -/
def State.gainStep (k : Nat) (lvl : Int) (force : Bool) (s : State) : State :=
  if s.rxModeR (s.slotRx k) = 1 then s.setFld F.PCC_SLOT_STATUS_GAIN (gainOf lvl) k
  else
    let g : Int := s.fld F.PCC_SLOT_STATUS_GAIN k
    if force || 30 < (-180 - lvl - g).natAbs then s.setFld F.PCC_SLOT_STATUS_GAIN (bankGain lvl) k else s

/-- LEVEL of a slot. -/
def State.levelShow (k : Nat) (lvl : Int) (s : State) : State := s.setFld F.PCC_SLOT_STATUS_LEVEL (unsigned 16 lvl) k

/-- PREAMBLE_DETECTION (R311 to R313): eight alternating bits with LEVEL `lvl`. -/
def execPreambleDetection (k : Nat) (lvl : Int) (s : State) : Host.Outcome State Fault Refusal :=
  .next <|
    let st := s.fld F.PCC_SLOT_STATUS_STATE k
    if !(s.pccOn && k < 8 && (st == 1 || st == 2) && signed 16 (s.rdN (R .PCC_DET_LVL k)) ≤ lvl) then s
    else
      let single := s.rxModeR (s.slotRx k) == 1
      let far := 60 < (lvl - (s.pccR k).frozeLevel).natAbs
      let s := s.levelShow k lvl
      let s := s.when (!single || st == 1 || far) (State.gainStep k lvl false)
      let s := s.modPccR k fun x => { x with
        armAt := s.us
        armLevel := lvl, frozeLevel := if st = 1 || far then lvl else x.frozeLevel }
      (s.setFld F.PCC_SLOT_STATUS_STATE 2 k).setFlag F.PCC_SLOT_STATUS_FROZEN single k

/-- A slot returns to SEARCH, its gain released. -/
def State.slotSearch (k : Nat) (s : State) : State :=
  ((s.setFld F.PCC_SLOT_STATUS_STATE 1 k).setFlag F.PCC_SLOT_STATUS_FROZEN false k).slotDsp k

/-- FALSE_DET (Table 13.4): 64 bit times since the latest detection. -/
def execFalseDet (k : Nat) (s : State) : Host.Outcome State Fault Refusal :=
  .next (if s.pccOn && k < 8 && s.fld F.PCC_SLOT_STATUS_STATE k == 2 &&
      decide ((s.pccR k).armAt + 64000 / (s.fld F.PCC_SLOT_CFG_RATE k +
          1) ≤ s.us) then (s.slotSearch k).bump (R .PCC_FALSE_DET k)
  else s)

/-- The bits in which the latest 32 bit decisions differ from the sync word (R314). -/
def syncErrs (bits : W32) : Nat := ((List.range 32).filter fun n => bits.getLsbD n != syncWord.testBit n).length

/-- The fixed delay of slot `k`'s source, in ns, which the timestamps leave out (R310). -/
def State.slotDelay (s : State) (k : Nat) : Nat :=
  if s.flag F.PCC_SLOT_STATUS_DSP k then Config.dspDelay
  else if s.compat then chainDelay s.compatChain false 0 else s.pairDelay (s.slotRx k)

/-- SYNC_MATCH (R314): the latest 32 decisions match with at most three bits in error, which enters RECEIVE, or preempts
it at 6 dB above. -/
def execSyncMatch (k : Nat) (lvl : Int) (bits : W32) (s : State) : Host.Outcome State Fault Refusal :=
  .next <|
    let st := s.fld F.PCC_SLOT_STATUS_STATE k
    let take := fun s : State => (((s.levelShow k lvl).wrN (R .PCC_LOCK_LVL k) (unsigned 16 lvl)).setFlag
      F.PCC_SLOT_STATUS_FROZEN true k).modPccR k fun x => { x with
        syncAt := s.pmkTime - s.slotDelay k * 65536, syncTag := s.tagBefore (s.slotDelay k) }
    if !(s.pccOn && k < 8 && syncErrs bits ≤ 3) then s
    else if st = 2 then take (s.setFld F.PCC_SLOT_STATUS_STATE 3 k)
    else if st = 3 && signed 16 (s.rdN (R .PCC_LOCK_LVL k)) + 60 ≤ lvl then
      take (((s.bump (R .PCC_PREEMPT_CNT k)).raise F.PCC_EVT_PREEMPT).gainStep k lvl true)
    else s

/-! ## Detector bins (R295, R309) -/

/-- Bin `b` of a slot has a new magnitude: LEVEL is that of the last eight, and where R311 lets the gain follow it does:
in SEARCH, for the bank in ARMED too. -/
def State.slotLevel (b mag : Nat) (s : State) : State :=
  if s.flag F.MON_BIN_CFG_OWNER b && s.slotOn b && !s.flag F.PCC_SLOT_STATUS_DSP b then
    let s := s.modPccR b fun x => { x with mags := (mag :: x.mags).take 8 }
    let lvl := Config.levelOf (s.fld F.PCC_SLOT_CFG_RATE b) (s.pccR b).mags
    let st := s.fld F.PCC_SLOT_STATUS_STATE b
    (s.levelShow b lvl).when (st == 1 || (st == 2 && s.rxModeR (s.slotRx b) != 1)) (State.gainStep b lvl false)
  else s

/-- BIN_BLOCK: bin `b` has the outputs of the block whose first output carries the tag `sec`, `ns`; a result overwritten
while NEW is 1 counts as missed. -/
def execBinBlock (b : Nat) (sec ns : W32) (s : State) : Host.Outcome State Fault Refusal :=
  let n := 2 ^ max 4 (min 16 (s.fld F.MON_BIN_CFG_LOG2N b))
  let l := s.bins.get [] b
  let x := (l.take n).map Prod.fst
  let hann := s.flag F.MON_BIN_CFG_HANN b
  let f := s.rdN (R .MON_BIN_FREQ b)
  let mag := binMag hann f x % 2 ^ 24
  .next <|
    if !(s.monOn && b < 8 && n ≤ l.length && l.head?.map Prod.snd == some (sec, ns)) then s
    else
      let s := s.when (s.flag F.MON_BIN_MAG_NEW b) fun s => s.bump (R .MON_BIN_MISS b)
      let s := (s.wrN (R .MON_BIN_MAG b) (2 ^ 31 + mag)).wrN (R .MON_BIN_PHASE b) (binPhase hann f x)
      { (s.wr (R .MON_BIN_SEC b) sec).wr (R .MON_BIN_NS b) ns with bins := s.bins.set [] b (l.drop n) }.slotLevel b mag

/-! ## What an accepted Postcard does (R315 to R317) -/

/-- The FIFO's count. -/
def State.fifoShow (s : State) : State := s.setFld F.PCC_STATUS_RX_COUNT s.pccFifo.length

/-- An accepted Postcard goes to the FIFO, or finds it full. -/
def State.fifoPut (e : PccEntry) (s : State) : State :=
  if s.pccFifo.length < 16 then ({ s with pccFifo := s.pccFifo ++ [e] }.fifoShow).raise F.PCC_EVT_RX_READY
  else (s.bump (R .PCC_RX_OVR_CNT)).raise F.PCC_EVT_RX_OVR

/-- A received time Postcard forms an exchange (R278): its payload's bytes as one number. -/
def State.timeCard (k seq v : Nat) (s : State) : State :=
  let at80 := fun t : Nat => (t / 2 ^ 32 * oneSec + t % 2 ^ 32 * 65536 : Nat)
  let prevSeq := v / 2 ^ 104 % 256
  let mySeq := v / 2 ^ 16 % 256
  let t3 : Int := at80 (v / 2 ^ 112 % 2 ^ 80)
  let t2 : Int := at80 (v / 2 ^ 24 % 2 ^ 80)
  let ok := v / 2 ^ 15 % 2 == 1 && s.timeOk
  let t1 := (s.pmk.pcTx.find? fun e => e.1 == mySeq).map Prod.snd
  let t4 := (s.pmk.pcRx.find? fun e => e.1 == prevSeq).map Prod.snd
  let s := match t1, t4 with
    | some t1, some t4 =>
      if ok then
        (s.wrN (R .PMK_PC_OFS) (unsigned 32 (((t2 - t1) - (t4 - t3)) / 2 / 65536))).wrN (R .PMK_PC_TAG)
          (s.sec % 2 ^ 31 + 2 ^ 31)
      else s
    | _, _ => s
  s.modPmk fun q => { q with pcRx := ((seq, ((s.pccR k).syncAt : Int)) :: q.pcRx).take 64 }

/-- The words of a payload as one number. -/
def joinWords (l : List W32) : Nat := l.foldl (fun a w => a * 2 ^ 32 + w.toNat) 0

/-- The actions of Table 13.5 on a Postcard of type `t` from slot `k`. -/
def State.cardAct (k t seq : Nat) (data : List W32) (s : State) : State :=
  let w := (data.getD 0 0).toNat
  let id := w / 65536
  let trusted := s.flag F.PCC_SLOT_STATUS_BOUND k && !s.flag F.PCC_SLOT_STATUS_ID_MIS k
  match t with
  | 0 =>
    if !s.flag F.PCC_EXP_ID_CHK k || s.fld F.PCC_EXP_ID_ID k = id then
      let new := s.fld F.PCC_PEER_PEER_ID k != id
      (((s.setFld F.PCC_PEER_PEER_ID id k).setFlag F.PCC_SLOT_STATUS_BOUND true k).setFlag F.PCC_SLOT_STATUS_ID_MIS false
        k).modPccR k fun x => { x with bindAt := s.us, anySeq := x.anySeq || new }
    else (s.setFlag F.PCC_SLOT_STATUS_ID_MIS true k).raise F.PCC_EVT_ID_MIS
  | 1 =>
    if !trusted then s
    else
      let key := 64 + s.fld F.PCC_PEER_PEER_ID k
      if w / 2 ^ 31 = s.fld F.STB_CFG_QL_OPT then s.deliverRank key (w / 2 ^ 24 % 16) else s.deliver key 15 true 0 0
  | 2 =>
    let v := (id / 256) + (id % 8) * 256 + 2 ^ 31
    if s.rdN (R .PCC_FAR_DEF k) = v then s else (s.wrN (R .PCC_FAR_DEF k) v).raise F.PCC_EVT_DEFECT_RX
  | 3 =>
    let c := s.fld F.PMK_PC_CFG_CARRIER
    if trusted && s.stbOn && s.fld F.PCC_TX_CFG_PEER_SLOT c = k then s.timeCard k seq (joinWords data) else s
  | 4 =>
    if s.flag F.PCC_CFG_WAKE_EN && (id == s.rdN (R .PCC_NODE_ID) || id == 0xFFFF) then
      (s.raise F.PCC_EVT_WAKE_RX).wakeSource 3
    else s
  | 5 =>
    let v := id + 2 ^ 31
    if s.rdN (R .PCC_SR_RX k) = v then s else (s.wrN (R .PCC_SR_RX k) v).raise F.PCC_EVT_SR_RX
  | _ => s

/-- A Postcard whose CRC and header check, by its SEQ (R304). -/
def State.cardSeq (k hdr : Nat) (data : List W32) (s : State) : State :=
  let seq := hdr % 256
  let d := (seq + 256 - s.rdN (R .PCC_LAST_SEQ k)) % 256
  let any := (s.pccR k).anySeq
  if !any && d = 0 then s.bump (R .PCC_DUP k)
  else if !any && 128 ≤ d then s.bump (R .PCC_STALE k)
  else
    let s := s.when (!any) fun s => s.wrN (R .PCC_SEQ_GAP k) (min (s.rdN (R .PCC_SEQ_GAP k) + d - 1) 0xFFFFFFFF)
    let s := (s.wrN (R .PCC_LAST_SEQ k) seq).modPccR k fun x => { x with anySeq := false, okAt := s.us }
    let t := hdr / 8192
    let s := (s.bump (R .PCC_RX_OK k)).cardAct k t seq data
    s.when (bitOf (s.rd (R .PCC_CFG)) t) (State.fifoPut
      { slot := k, header := hdr, level := s.rdN (R .PCC_LOCK_LVL k), tag := (s.pccR k).syncTag, data := data })

/-- POSTCARD_END (R302, R315): the slot returns to SEARCH with the header, payload and CRC it has received. A LEN above
16 ends reception before any CRC. -/
def execPostcardEnd (k hdr : Nat) (data : List W32) (crc : Nat) (s : State) : Host.Outcome State Fault Refusal :=
  .next <|
    if !(s.pccOn && k < 8 && s.fld F.PCC_SLOT_STATUS_STATE k == 3) then s
    else
      let t := hdr / 8192 % 8
      let len := hdr / 256 % 32
      let want := [2, 1, 1, 6, 1, 1, len].getD t 99
      let d := (List.range len).map fun i => data.getD i 0
      let s := s.slotSearch k
      if 16 < len then s.bump (R .PCC_HDR_BAD k)
      else if cardCrc hdr d != crc then s.bump (R .PCC_CRC_FAIL k)
      else if len ≠ want then s.bump (R .PCC_HDR_BAD k)
      else s.cardSeq k (hdr % 65536) d

/-- BOUND_TIMEOUT (Table 13.5): 35 s after the last IDENT that bound or confirmed the peer BOUND clears, and the binding
with it. -/
def execBoundTimeout (k : Nat) (s : State) : Host.Outcome State Fault Refusal :=
  .next (if s.pccOn && k < 8 && s.flag F.PCC_SLOT_STATUS_BOUND k && decide ((s.pccR k).bindAt + 35000000 ≤ s.us) then
    (s.setFlag F.PCC_SLOT_STATUS_BOUND false k).modPccR k fun x => { x with anySeq := true } else s)

/-- SEQ_WINDOW_RESET (R304): 30 s have passed without an accepted Postcard. -/
def execSeqWindowReset (k : Nat) (s : State) : Host.Outcome State Fault Refusal :=
  .next (if s.pccOn && k < 8 && decide ((s.pccR k).okAt + 30000000 ≤ s.us) then s.modPccR k fun x =>
      { x with anySeq := true } else s)

/-- A write of RX_POP (R316). -/
def State.rxPopWrite (v : W32) (s : State) : State :=
  if bitOf v 0 then { s with pccFifo := s.pccFifo.drop 1 }.fifoShow else s

/-- RX_POP (R316). -/
def execRxPop (m : Master) (v : W32) (s : State) : Host.Outcome State Fault Refusal :=
  .next (s.guardW m (R .PCC_RX_POP) v (State.rxPopWrite v))

/-- MON leaves ON or is reset (R318): what no register holds starts afresh; the Postcards pending are lost too. -/
def State.pccClear (s : State) : State := { s with pccTx := [], pccRx := [], pccFifo := [] }

end Sys2Proof.Machine
end

