-- ==== Sys2Proof/Machine/Power.lean ====
section
/-! DEFINITION. Power domains with their commands (spec/15 R344 to R355): what a domain loses, its entry into RETENTION
or OFF, its wake, the wake sources and the pads. -/

namespace Sys2Proof.Machine

/-! ## What depends on a domain -/

/-- Everything that follows from the states of the domains brought up to date (Table 1.3, R346): the transmitters and
receivers, the line, the groups with their holds, the ports, the yard's modes, the Postcard channel, PPS_OUT and the
outgoing quality levels. -/
def State.evalAll (s : State) : State :=
  let s := ((s.txEval 0).txEval 1).rxEval 0 |>.rxEval 1
  let s := s.when (s.domOn 6) fun s => ((s.lineEval 0).lineEval 1).grpsEval
  (s.holds.portsEval.modeEval.pccEval).ppsEval.qlEval

/-- The groups in Hayloft mode leave service (R142, R201). -/
def State.hayGroups (s : State) : State :=
  if s.domOn 6 then
    (s.each (s.insts .LFM_GRP_CFG) fun g s => if s.fld F.LFM_GRP_STATUS_STATE g == 5 ||
        (s.grp g).pages != 0 then s.grpLeave g 1 else s).grpsEval
  else s

/-! ## What a domain loses (R344, Table 15.1) -/

/-- The registers that satisfy `p` back at their reset values. DEDUCED, unsafe (log 41). -/
def State.dropRegs (p : RegKey → Bool) (s : State) : State :=
  { s with regs := s.regs.filter (fun e => !p e.1), cfgBad := s.cfgBad.filter fun k => !p k }

/-- The registers that satisfy `p` keep only what software configures; the rest of them is at its reset value.
DEDUCED, unsafe (log 41). -/
def State.keepCfg (p : RegKey → Bool) (s : State) : State :=
  s.each (s.regs.filter fun e => p e.1) fun e s =>
    let r := e.1.id.info
    s.wr e.1 ((e.2 &&& r.rw) ||| (e.1.reset &&& ~~~r.rw))

/-- A subcarrier's record without what belongs to its carrier's domain: the receiver's and the decoder's. -/
def scNoCar (x : Sc) : Sc :=
  { x with eq := none, fecSec := 0, fecCur := FecAcc.zero, fecNext := FecAcc.zero, mCorr := 0, mUnc := 0,
           decFrom := none
           live := false, lim := none, win := none, xover := 0, marks := [] }

/-- A subcarrier's record without what belongs to LFM. -/
def scNoLfm (x : Sc) : Sc :=
  { Sc.init with eq := x.eq, fecSec := x.fecSec, fecCur := x.fecCur, fecNext := x.fecNext, mCorr := x.mCorr
                 mUnc := x.mUnc, decFrom := x.decFrom, live := x.live, lim := x.lim, win := x.win, xover := x.xover
                 marks := x.marks }

/-- A carrier's record without what belongs to LFM. -/
def carNoLfm (x : Carrier) : Carrier :=
  { x with fn := 0, jc := 0, rdiF := ⟨0, 0⟩, mapF := ⟨0, 0⟩, srF := ⟨0, 0⟩, tti := ⟨[], [], 0⟩, rdDesc := none,
           ttm := []
           ttmBad := false, ttmOut := [], out := [] }

/-- Carrier `c` loses what no register holds: in RETENTION only the snapshots and the sequences, else everything. -/
def State.carLoss (c : Nat) (keep : Bool) (s : State) : State :=
  let s := s.modCar c fun x =>
    if keep then { x with snaps := [], seq := .none, fillMf := false, hold := false, onLine := false, oifAlign := false
                          search := none, relock := none } else Carrier.init
  (s.each (scsOf c) fun i s => s.modSc i scNoCar).calAbandon c

/-- A frame that waits for the engine is lost with its message: dropped and counted against its flow (R14).
DEDUCED, unsafe (log 41). -/
def State.msgsLost (s : State) : State :=
  s.each (s.flows.map Prod.fst) fun f s => s.dropFrames f (fun x => x.msg.isSome) .SOF_KEY_DROP_LO .SOF_KEY_DROP_HI

/-- LFM loses what no register holds; the key slots, KEK1 to KEK3, PN state and contexts stay in RETENTION (R222). -/
def State.lfmLoss (keep : Bool) (s : State) : State :=
  let s := s.msgsLost
  let s := { s with grps := [], delin := [], mccTx := [], mccRx := [] }
  let s := (s.upto 16 fun i s => s.modSc i scNoLfm).upto 2 fun c s => s.modCar c carNoLfm
  ({ s with cip := if keep then { s.cip with
      data := [], salt := [], msgs := [], wait := [], cores := []
      grp := s.cip.grp.mapAll GrpCtx.init fun x => { GrpCtx.init with txPn := x.txPn,
                                                                      rxPn := x.rxPn } } else Cip.init } : State).kekShow

/-- The registers of the cipher contexts, which RETENTION keeps with the keys. DEDUCED, unsafe (log 41). -/
def cipKept (k : RegKey) : Bool :=
  match k.id.info.page with
  | .CIPF | .CIPR | .CIPG => true
  | _ => false

/-- SOF loses its queues: the Shed is empty. -/
def State.sofLoss (keep : Bool) (s : State) : State :=
  { s with drr := [], delin := [], ports := []
           flows := if keep then s.flows.mapAll Flow.init fun x => { Flow.init with pol := x.pol,
                                                                                    shp := x.shp } else [] }.retSettle

/-- The registers of HAY that a CORE reset and RETENTION keep (Table 8.10, R201). DEDUCED, unsafe (log 41). -/
def hayKept (retention : Bool) (k : RegKey) : Bool :=
  match k.id with
  | .HAY_CAP_PTR | .HAY_CAP_SEQ | .HAY_RET_STATUS => true
  | .HAY_SCRUB_STATUS | .HAY_LEAK_PAGES => retention
  | _ => false

/-- A reset of the Hayloft's controller that keeps the DRAM (Table 8.10): the capture contents, the retirement table and
the valid bits of the capture area are kept, all other blocks closed. -/
def State.hayReset (s : State) : State :=
  let base := s.capBase
  (s.dropRegs fun k => k.domain == 8 && !hayKept false k).modHay fun h =>
    { h with blocks := h.blocks.filter fun b => decide (base ≤ 65536 * b) && decide (65536 * b < s.hayMeta)
             merge := h.merge.filter fun m => s.inCap (64 * m.line), acc := [], leak := [], scrub := 0, cap := []
             logOrder := [] }

/-- DSK_SIZE's reset value on a ZQ2000 (Table 8.11). -/
def State.hayFuse (s : State) : State := if s.fuse.zq2000 then s.setFld F.HAY_CFG_DSK_SIZE 10 else s

/-- The Hayloft loses what RETENTION does not keep, or everything. -/
def State.hayLoss (keep : Bool) (s : State) : State :=
  (if keep then (s.dropRegs fun k => k.domain == 8 && !hayKept true k).modHay fun h => { h with acc := [], cap := [],
                                                                                                logOrder := [] }
  else { (s.dropRegs fun k => k.domain == 8).modHay fun _ => Hay.init with hayMem := [] }).hayFuse

/-- The yard loses its links; FWD tables and YL_EQ stay in RETENTION (R343). -/
def yardKept (k : RegKey) : Bool :=
  match k.id with
  | .YLN_FWD_TX | .YLN_FWD_RX | .YL_EQ => true
  | _ => false

/-- The links' own state, their blocks and the yard's commands are gone. -/
def State.yardClear (s : State) : State := { s with links := [], yardTx := [], yardSt := [], rmt := none, imgRx := [] }

/-- Domain `d` loses what it holds: everything, or with `keep` all but what RETENTION keeps (Table 15.1).
DEDUCED, unsafe (log 41). -/
def State.domLoss (d : Nat) (keep : Bool) (s : State) : State :=
  let s := { s with plls := s.plls.filter (· != d) }
  match d with
  | 1 =>
    let s := s.bstAbort fun _ => true
    let s := s.modCal fun x => { x with held := [] }
    if keep then s
    else
      let s := s.winShut.dropRegs fun k => k.domain == 1
      { s with logQ := [], logLost := 0, segBad := [], ram := [], bst := Bst.init, auth := [], lbCmd := 0, winEnd := 0,
               injAt := [] }
  | 2 => if keep then (s.keepCfg fun k => k.domain == 2).stbStop.pmkClear
    else (s.dropRegs fun k => k.domain == 2).stbStop.pmkClear
  | 3 =>
    let s := { s with mon := [], monSnap := none, monFree := false, monAt := 0, bins := [] }.pccClear
    if keep then s.keepCfg fun k => k.domain == 3 else s.dropRegs fun k => k.domain == 3
  | 4 | 5 => (if keep then s else s.dropRegs fun k => k.domain == d).carLoss (d - 4) keep
  | 6 => (s.dropRegs fun k => k.domain == 6 && !(keep && cipKept k)).lfmLoss keep
  | 7 => (if keep then s else s.dropRegs fun k => k.domain == 7).sofLoss keep
  | 8 => s.hayLoss keep
  | 9 | 10 | 11 | 12 =>
    let s := if keep then s else s.dropRegs fun k => k.domain == d
    { s with retryLane := s.retryLane.filter fun e => e.1 / 8 != d - 9 }
  | 13 =>
    let s := s.dropRegs fun k => k.domain == 13 && !(keep && yardKept k)
    (s.upto 3 State.fwdShow).yardClear
  | _ => s

/-! ## The rails (R355) -/

/-- EN of the rails after domain `d` has reached OFF: a rail whose every domain is OFF goes low, but for EN_CONVn while
CONVn_KEEP is 1. -/
def State.railsEval (s : State) : State :=
  let stays := fun r : Nat =>
    (List.range 14).any (fun d => d != 0 && (railsOf d).contains r && s.domSt d != 0) ||
    (r == 1 && s.flag F.PMU_CFG_CONV0_KEEP) || (r == 2 && s.flag F.PMU_CFG_CONV1_KEEP)
  s.modPwr fun p => { p with en := p.en.filter stays }

/-! ## Entering RETENTION or OFF (R345 to R347) -/

/-- The Hayloft holds flow data or a deskew reservation, for which it delays its acceptance (R201). -/
def State.hayBusy (s : State) : Bool := (s.flows.any fun e => e.2.inHay) || s.dskRes != 0

/-- Domain `d` is asked (R346): state ASKING with its target; what the request itself brings about begins. -/
def State.ask (d target : Nat) (s : State) : State :=
  let s := (s.setDom d 3).modPwr fun p => { p with target := p.target.set 0 d target, askAt := p.askAt.set 0 d s.us }
  let s := s.when (d == 8 && s.hayBusy) fun s => (s.setFld F.HAY_STATUS_DRAINING 1).hayGroups
  s.evalAll

/-- The handshake of domain `d` ends with the domain ON: refused or withdrawn, with RESULT. -/
def State.askOver (d result : Nat) (s : State) : State :=
  let s := ((s.setDom d 2).setFld F.PMU_DOM_REQ 2 d).domRes d result
  (s.when (d == 8) fun s => s.setFld F.HAY_STATUS_DRAINING 0).evalAll

/-- Domain `d`, which is in RETENTION, goes OFF (R345). -/
def State.retentionOff (d : Nat) (s : State) : State :=
  (((s.domLoss d false).setDom d 0).domRes d 1).railsEval

/-- A request of state `r` for domain `d` (R345, R347). -/
def State.domReq (d r : Nat) (s : State) : State :=
  if s.fusedOff d then s.domRes d 5
  else
    let set := fun (s : State) => s.setFld F.PMU_DOM_REQ r d
    match s.domSt d with
    | 0 => if r = 2 then s.wakeBegin d else if r = 1 then (set s).domRes d 4 else set s
    | 5 => if r = 2 then s.wakeBegin d else if r = 0 then (set s).retentionOff d else set s
    | 2 => if r = 2 then set s else (set s).ask d r
    | 3 => if r = 2 then s.askOver d 6 else (set s).modPwr fun p => { p with target := p.target.set 0 d r }
    | 4 =>
      if r = 2 then (set s).setFld F.PMU_DOM_PENDING_ON 1 d
      else if s.flag F.PMU_DOM_PENDING_ON d then ((set s).setFld F.PMU_DOM_PENDING_ON 0 d).domRes d 7
      else set s
    | _ => set s

/-- A write of DOM[d]: WAKE_FAIL is cleared by 1, and EXHAUSTED with it; REQ 3 applies as 2. -/
def State.domWrite (d : Nat) (v : W32) (s : State) : State :=
  let s := s.when (F.PMU_DOM_WAKE_FAIL.get v == 1) fun s =>
    (s.setFld F.PMU_DOM_WAKE_FAIL 0 d).setFld F.PMU_DOM_EXHAUSTED 0 d
  s.domReq d (min (F.PMU_DOM_REQ.get v) 2)

/-- DOM_REQ (R345). -/
def execDomReq (m : Master) (d : Nat) (v : W32) (s : State) : Host.Outcome State Fault Refusal :=
  .next (s.guardW m (R .PMU_DOM d) v (State.domWrite d v))

/-- Every block of domain `d` can accept (Table 15.3); a self-test in it delays it. That the control cores wait for
interrupt is what the command itself says for MGMT. -/
def State.acceptOk (s : State) (d : Nat) : Bool :=
  !(s.bst.running.any fun x => bstDom x.target == d) &&
  match d with
  | 4 | 5 => s.fld F.CAX_TX_STATUS_TXSTATE (d - 4) == 0 && s.flag F.CAX_TX_STATUS_PWR (d - 4) &&
      s.fld F.CAX_RX_STATUS_RXSTATE (d - 4) == 0
  | 6 => s.cip.msgs.isEmpty && s.cip.wait.isEmpty && s.cip.grp.all fun e => e.2.build.isNone
  | 7 => s.flows.all fun e => e.2.q.all fun x => x.place = .hayloft
  | 8 => !s.hayBusy
  | _ => true

/-- Domain `d` has accepted (R346): STOPPING, its pads held; for OFF the keys are erased first (R222). What needs the
domain finds it not ON from here on. -/
def State.accepted (d : Nat) (s : State) : State :=
  let s := s.bstAbort fun t => bstDom t == d
  let s := s.when (d == 13) fun s => s.upto 3 State.linkDown
  let s := s.when (d == 6 && s.pwr.target.get 0 6 == 0) fun s => { s with cip := Cip.init }
  let s := match padFld d with
    | some f => s.setFld f 1
    | none => s
  let s := s.when (d == 8 && s.flag F.PMC_DUMP_CFG_EN && s.flag F.PMC_DUMP_CFG_DEST) fun s =>
    (s.setFld F.PMC_DUMP_CFG_EN 0).raise F.PMC_EVT_DUMP_REFUSED
  let s := s.when (d == 4 || d == 5) (State.calAbandon (d - 4))
  (s.setDom d 4).evalAll

/-- HANDSHAKE_ACCEPT (R346). -/
def execHandshakeAccept (d : Nat) (s : State) : Host.Outcome State Fault Refusal :=
  .next (if s.asking d && s.acceptOk d then s.accepted d else s)

/-- `n` × 10 ms have passed since domain `d` was asked; 0 applies as 1. -/
def State.askOld (s : State) (d n : Nat) : Bool := decide (s.pwr.askAt.get 0 d + 10000 * max n 1 ≤ s.us)

/-- HS_REFUSED (R346): a block refuses, or with `limit` HS_LIMIT has expired. -/
def execHsRefused (d : Nat) (limit : Bool) (s : State) : Host.Outcome State Fault Refusal :=
  .next (if s.asking d && (!limit || s.askOld d (s.fld F.PMU_CFG_HS_LIMIT)) then
    (s.askOver d (if limit then 3 else 2)).raise F.PMU_EVT_HS_REFUSED else s)

/-- DRAIN_REFUSED (R201): data remains when DRAIN_LIMIT expires, and the Hayloft refuses. -/
def execDrainRefused (s : State) : Host.Outcome State Fault Refusal :=
  .next (if s.asking 8 && s.flag F.HAY_STATUS_DRAINING && s.hayBusy && s.askOld 8 (s.fld F.HAY_CFG_DRAIN_LIMIT) then
    ((s.askOver 8 2).raise F.PMU_EVT_HS_REFUSED).raise F.HAY_EVT_DRAIN_REFUSED else s)

/-- The shutdown of domain `d` is complete (R345, R347): it is in its handshake's target, and a queued ON or the latest
request is then served. -/
def State.stopped (d : Nat) (s : State) : State :=
  let t := s.pwr.target.get 0 d
  let s := (((s.domLoss d (t == 1)).setDom d (if t = 1 then 5 else 0)).domRes d 1).railsEval
  if s.flag F.PMU_DOM_PENDING_ON d then (s.setFld F.PMU_DOM_PENDING_ON 0 d).wakeBegin d
  else
    let r := s.fld F.PMU_DOM_REQ d
    if t = 1 && r == 0 then s.retentionOff d
    else if t = 0 && r == 1 then s.domRes d 4 else s

/-- SHUTDOWN_DONE (R347). -/
def execShutdownDone (d : Nat) (s : State) : Host.Outcome State Fault Refusal :=
  .next (if s.domSt d == 4 && 1 ≤ d && d ≤ 13 then (s.stopped d).evalAll else s)

/-! ## Waking (R348, R349) -/

/-- MGMT asks to be ON and has not begun to wake: the state after a POWER or CHIP reset (R356). -/
def State.mgmtStart (s : State) : State :=
  if s.domSt 1 == 0 && s.fld F.PMU_DOM_REQ 1 == 2 && !s.flag F.PMU_DOM_WAKE_FAIL 1 && !s.inReset 1 0 then s.wakeBegin 1
  else s

/-- A domain that is ON, or comes out of reset, starts its functions: `ret` where it comes from RETENTION. -/
def State.domUp (d : Nat) (ret : Bool) (s : State) : State :=
  (match d with
  | 1 =>
    let s := { s with logSeq := s.logScan }
    (((s.wrN (R .PMC_LOG_NEXT) s.logSeq).wrN (R .PMC_LOG_OVR) (s.logSeq - 4096)).setFlag F.CAL_STATUS_PROD_VALID
      s.devRec.isSome).modFab fun f => { f with stretched := none }
  | 2 => s.pmkClear.stbStart
  | 3 => s.monStart.pccClear
  | 4 | 5 =>
    let s := (s.calLoad (d - 4)).when (s.domOn 1) (State.marksWake (d - 4))
    let p := if d = 4 then F.SAF_FO_PEND_FO0 else F.SAF_FO_PEND_FO1
    s.when (s.flag p) fun s => (s.setFld F.CAX_TX_CTRL_MUTE 1 (d - 4)).setFld p 0
  | 8 => ((s.setFld F.HAY_STATUS_READY 1).setFld F.HAY_STATUS_DRAINING 0).when (!ret) fun s => s.hayFuse
  | 9 | 10 | 11 | 12 =>
    let l := (List.range 8).map (8 * (d - 9) + ·)
    (s.when (s.domOn 1) (State.threshWake l)).lanesEval l
  | 13 => s.when (s.domOn 1) (State.threshWake ((List.range 8).map (32 + ·)))
  | _ => s).evalAll.bootWake.bootGo.evalAll

/-- Domain `d` reaches ON (R348); a request that has waited for the wake then starts its handshake (R345). -/
def State.wakeDone (d : Nat) (s : State) : State :=
  let ret := s.pwr.ret.contains d
  let s := (((s.setDom d 2).domRes d 1).raise F.PMU_EVT_WAKE_DONE).modPwr fun p =>
    { p with step := p.step.set 0 d 0, ret := p.ret.filter (· != d) }
  let s := s.domUp d ret
  if s.fld F.PMU_DOM_REQ d < 2 then s.ask d (s.fld F.PMU_DOM_REQ d) else s

/-- WAKE_STEP (R348): the condition of domain `d`'s step holds for its DELAY. The rails' power-good is the condition of
step 1. -/
def execWakeStep (d : Nat) (s : State) : Host.Outcome State Fault Refusal :=
  let s := if d = 1 then s.mgmtStart else s
  .next (if s.domSt d == 1 && 1 ≤ d && d ≤ 13 && s.stepDue d then
    let k := s.pwr.step.get 0 d
    let s := s.when (k == 1) fun s => s.modPwr fun p =>
      { p with pg := (railsOf d).foldl (fun l r => if l.contains r then l else r :: l) p.pg }
    if k < 6 then s.modPwr fun p => { p with step := p.step.set 0 d (k + 1), stepAt := p.stepAt.set 0 d s.us }
    else s.wakeDone d
  else s)

/-- WAKE_FAIL (R349): the step times out and the domain is OFF; it waits for its retry, or is EXHAUSTED. -/
def execWakeFail (d : Nat) (s : State) : Host.Outcome State Fault Refusal :=
  .next (if s.domSt d == 1 && 1 ≤ d && d ≤ 13 && s.stepOver d then
    let k := s.pwr.step.get 0 d
    let s := ((s.domLoss d false).modPwr fun p =>
      { p with step := p.step.set 0 d 0, stepAt := p.stepAt.set 0 d s.us, ret := p.ret.filter (· != d) })
    let s := ((s.setFld F.PMU_DOM_WAKE_FAIL 1 d).setFld F.PMU_DOM_FAIL_STEP k d).raise F.PMU_EVT_WAKE_FAIL
    if s.fld F.PMU_DOM_RETRY_LEFT d = 0 then
      let s := (((s.setDom d 0).setFld F.PMU_DOM_EXHAUSTED 1 d).raise F.PMU_EVT_WAKE_EXHAUSTED).railsEval
      (s.when (s.fld F.PMU_DOM_REQ d == 1) (State.domRes d 4)).bootGo
    else s.setDom d 6
  else s)

/-- RETRY (R349): 1 ms has passed in RETRY_WAIT. -/
def execWakeRetry (d : Nat) (s : State) : Host.Outcome State Fault Refusal :=
  .next (if s.domSt d == 6 && 1 ≤ d && d ≤ 13 && decide (s.pwr.stepAt.get 0 d + 1000 ≤ s.us) then
    (s.setFld F.PMU_DOM_RETRY_LEFT (s.fld F.PMU_DOM_RETRY_LEFT d - 1) d).wakeTry d else s)

/-! ## Wake sources (R350, R351) -/

/-- TWI_ADDRESS_MATCH (R351): while MGMT is not ON, TWI_WAKE = 1 fires wake source 0, and STRETCH = 1 holds SCL low. -/
def execTwiAddressMatch (addr : Nat) (s : State) : Host.Outcome State Fault Refusal :=
  .next (if addr == s.fld F.AON_CFG_TWI_ADDR && !s.domOn 1 && s.flag F.AON_CFG_TWI_WAKE then
    (s.wakeSource 0).when (s.flag F.AON_CFG_STRETCH) fun s => s.modFab fun f => { f with stretched := some s.us }
  else s)

/-- TWI_AON (R351): MGMT's wake has failed or 25 ms have passed; the transaction is served from AON. -/
def execTwiAon (s : State) : Host.Outcome State Fault Refusal :=
  .next (if s.fab.stretched.any fun t => s.domSt 1 == 0 || s.domSt 1 == 6 || decide (t + 25000 ≤ s.us) then
    (s.modFab fun f => { f with stretched := none }).raise F.AON_EVT_TWI_AON
  else s)

/-- WAKE_N (R350). -/
def execWakeN (s : State) : Host.Outcome State Fault Refusal := .next (s.wakeSource 1)

/-- TIMER (R350): ARM clears. -/
def execAonTimer (s : State) : Host.Outcome State Fault Refusal :=
  .next (if s.flag F.AON_TIMER_CTRL_ARM && s.rd (R .AON_SLOW_CNT) == s.rd (R .AON_TIMER_CMP) then
    ((s.setFld F.AON_TIMER_CTRL_ARM 0).raise F.AON_EVT_TIMER).wakeSource 2 else s)

/-! ## Pads (R354) -/

/-- A write of PAD_HOLD: 1 releases the pads of a domain that is ON. -/
def State.padWrite (v : W32) (s : State) : State :=
  s.each [1, 2, 3] fun d s =>
    match padFld d with
    | some f => if f.get v == 1 && s.domOn d then s.setFld f 0 else s
    | none => s

/-- PAD_HOLD (R354). -/
def execPadHold (m : Master) (v : W32) (s : State) : Host.Outcome State Fault Refusal :=
  .next (s.guardW m (R .PMU_PAD_HOLD) v (State.padWrite v))

end Sys2Proof.Machine
end

