-- ==== Sys2Proof/Machine/Resets.lean ====
section
/-! DEFINITION. Resets (spec/15 R356 to R363): the levels and their sources, what a reset does to the state, its
release, and the commands of the reset controller. -/

namespace Sys2Proof.Machine

/-! ## Sources and levels (R357) -/

/-- The domain of a page of the register map (Table 18.1). -/
def pageDom (page : Nat) : Option Nat :=
  Page.all.findSome? fun p =>
    let q := p.info
    if q.base ≤ 4096 * page && decide (4096 * page < q.base + q.n * q.stride) then
      some (p.domain ((4096 * page - q.base) / q.stride))
    else none

/-- The level of a source under RST_MAP; nothing where the map ignores it. POR and LC_CHANGE are fixed. -/
def State.srcLevel (s : State) (src : Nat) : Option Nat :=
  if src = 0 then some 0
  else if src = 5 then some 1
  else match s.fuse.rstMap.getD src 7 with
    | 7 => none
    | 5 | 6 => some 1
    | 4 => if src = 10 || src = 11 then some 3 else if src = 12 || src = 13 then some 4 else some 2
    | 3 => if src = 10 || src = 11 || src = 12 || src = 13 then some 3 else some 2
    | v => some v

/-- The target of a level 3 or 4 reset is ON (R363): a domain other than AON, ON or still ASKING.
DESIGN CHOICE, unsafe (log 43). -/
def State.targetOn (s : State) (a : Asserted) : Bool :=
  1 ≤ a.dom && a.dom ≤ 13 && s.domOn a.dom

/-- RST_ACTIVE shows the sources asserted now (R362). -/
def State.rstShow (s : State) : State :=
  s.wrN (R .RST_ACTIVE)
    (((List.range 16).filter fun b => s.asserted.any fun a => !a.asking && a.src == b).map fun b => 2 ^ b).sum

/-- A source is recorded (R362): RST_CAUSE, and RST_LAST, which begins anew where no source was asserted. -/
def State.rstRecord (src : Nat) (s : State) : State :=
  let b := BitVec.ofNat 32 (2 ^ src)
  let fresh := s.asserted.all fun a => a.asking
  let s := s.wr (R .RST_CAUSE) (s.rd (R .RST_CAUSE) ||| b)
  s.wr (R .RST_LAST) (if fresh then b else s.rd (R .RST_LAST) ||| b)

/-! ## What a reset does (Table 15.5) -/

/-- The Tack Room keeps the calibration records (R379). -/
def CalCar.records (x : CalCar) : CalCar :=
  { CalCar.init with liveA := x.liveA, liveB := x.liveB, prodA := x.prodA, prodB := x.prodB }

/-- A POWER reset, or with `chip` a CHIP reset: the device is as after the power-on reset, but for the fuses, the Tack
Room and what Table 15.5 leaves alone. A held software source survives a CHIP reset, as do the sources that the pins,
the monitors and the debug module still assert. DESIGN CHOICE, unsafe (log 44). -/
def State.chipReset (chip : Bool) (src : Nat) (s : State) : State :=
  let stays := fun (a : Asserted) => a.src == src || (chip && a.hold) ||
    (!a.asking && [0, 1, 2, 3, 4, 5, 8, 9, 10, 14, 15].contains a.src)
  { State.reset with
    regs := if chip then s.regs.filter fun e =>
      e.1.id == .RST_CAUSE || e.1.id == .RST_LAST || e.1.id == .RST_ACTIVE else []
    fuse := s.fuse
    asserted := (s.asserted.filter stays).map fun a => { a with asking := false }
    stb := { Stb.init with tack := s.stb.tack, s10 := s.stb.s10 }
    pwr := { Pwr.init with enAt := NTab.set 0 (NTab.set 0 [] 1 s.us) 2 s.us,
                           en := if s.fuse.zq2000 then [1] else [1, 2], pg := s.pwr.pg.filter fun r => r == 1 || r == 2 }
    cal := { s.cal with car := s.cal.car.mapAll CalCar.init CalCar.records, held := [] }
    tack := s.tack
    logSeq := s.logSeq
    seqLevel := s.seqLevel
    lcMove := s.lcMove
    us := s.us
    free := s.free
    pending := s.pending }

/-- A CORE reset abandons what is under way in domain `d` (R363): ASKING ends ON; WAKING, RETRY_WAIT and STOPPING end
OFF. -/
def State.abandon (d : Nat) (s : State) : State :=
  let fin := fun (st req : Nat) (s : State) =>
    ((((s.setDom d st).setFld F.PMU_DOM_REQ req d).domRes d 0).setFld F.PMU_DOM_PENDING_ON 0 d).modPwr fun p =>
      { p with step := p.step.set 0 d 0, ret := p.ret.filter (· != d) }
  match s.domSt d with
  | 3 => fin 2 2 s
  | 1 | 4 | 6 => (fin 0 0 (s.domLoss d false)).railsEval
  | _ => s

/-- The domains a CORE reset covers (Table 15.5). -/
def coreDoms : List Nat := [1, 3, 4, 5, 6, 7, 8, 9, 10, 11, 12, 13]

/-- The CFG_APPLIED bits of domains clear with a reset that covers them (R366). -/
def State.cfgClear (l : List Nat) (s : State) : State :=
  s.wr (R .DEV_CFG_APPLIED) (s.rd (R .DEV_CFG_APPLIED) &&& ~~~BitVec.ofNat 32 (l.map fun d => 2 ^ d).sum)

/-- The pages lost under R196 return to the flow area with a reset covering SOF. -/
def State.leakBack (s : State) : State :=
  ((s.modHay fun h => { h with leak := [] }).wr (R .HAY_LEAK_PAGES) 0).retSettle

/-- What a domain that is ON loses by a reset: everything, but for the Hayloft's contents (Table 8.10). -/
def State.domReset (d : Nat) (s : State) : State :=
  if d = 8 then s.hayReset.hayFuse.retSettle
  else (s.domLoss d false).when (d == 7) State.leakBack

/-- A CORE reset (Table 15.5, R363): AON and TMG are left alone; the received PTP frames held for the firmware are lost
with it (R262). DESIGN CHOICE, safe (log 45). -/
def State.coreReset (s : State) : State :=
  let s := s.each coreDoms State.abandon
  let lost := s.pmk.ptp
  let s := (s.each lost fun _ s => s.bump (R .PMK_PTP_RX_DROP)).modPmk fun p => { p with ptp := [] }
  let s := s.each coreDoms fun d s => s.when (s.domOn d) (State.domReset d)
  (s.cfgClear coreDoms).evalAll

/-- A reset of domain `d` (level 3): the firmware applies its sections again at its release, where they were applied
before. DESIGN CHOICE, unsafe (log 43). -/
def State.domainReset (d : Nat) (s : State) : State :=
  let had := bitOf (s.rd (R .DEV_CFG_APPLIED)) d
  let s := (s.domReset d).cfgClear [d]
  (s.when (had && !s.boot.doms.contains d) fun s => s.modBoot fun b => { b with doms := b.doms ++ [d] }).evalAll

/-- The instances of page kind `p` whose registers lie in the page numbered `page`. -/
def instsOf (p : Page) (page : Nat) : List Nat :=
  let q := p.info
  (List.range q.n).filter fun i => (q.base + i * q.stride) / 4096 == page

/-- What an instance of a page holds beside its registers, and loses with a reset of the page (level 4). Retired slices
stay retired (R75). DESIGN CHOICE, unsafe (log 43). -/
def State.kindLoss (p : Page) (i : Nat) (s : State) : State :=
  match p with
  | .CAX => (s.modCar i fun _ => Carrier.init).calAbandon i
  | .SCX => s.modSc i scNoCar
  | .LFMS => s.modSc i scNoLfm
  | .LFMC => s.modCar i carNoLfm
  | .LFMG => { s with grps := s.grps.filter fun e => e.1 != i, delin := s.delin.filter fun e => e.1 != i }.retSettle
  | .SOFP => { s with ports := s.ports.filter fun e => e.1 != i }
  | .SOFF => { s with flows := s.flows.filter fun e => e.1 != i }.retSettle
  | .HAY => s.hayReset.hayFuse.retSettle
  | .CIP => s.msgsLost.modCip fun x => { x with data := [], salt := [], msgs := [], wait := [], cores := [] }
  | .CIPG => s.modCip fun x => { x with grp := x.grp.filter fun e => e.1 != i }
  | .HLN => { s with retryLane := s.retryLane.filter (·.1 != i), prbsAcc := s.prbsAcc.set 0 i 0,
                     prbsInj := s.prbsInj.set 0 i 0 }
  | .YLL => { s with prbsAcc := s.prbsAcc.set 0 (32 + i) 0, prbsInj := s.prbsInj.set 0 (32 + i) 0
                     yardTx := s.yardTx.filter fun e => e.1 != i }
  | .YLK => { s with links := s.links.filter fun e => e.1 != i }
  | .STB => s.stbStop
  | .PMK => s.pmkClear
  | .MON => { s with monSnap := none, monFree := false, monAt := s.us }
  | .MONP => { s with mon := s.mon.filter fun e => e.1 != i }
  | .MONB => { s with bins := s.bins.filter fun e => e.1 != i }
  | .PCC => { s with pccFifo := [] }
  | .PCCC => { s with pccTx := s.pccTx.filter fun e => e.1 != i }
  | .PCCS => { s with pccRx := s.pccRx.filter fun e => e.1 != i }
  | .CAL => s.modCal fun x => { x with held := [] }
  | .BST => (s.bstAbort fun _ => true).modBst fun _ => Bst.init
  | .SAFT => { s with winEnd := 0, injAt := [] }
  | .LB => { s with lbCmd := 0, auth := [] }
  | _ => s

/-- The subcarriers of a page that is reset leave LOCKED, and a carrier left without lock relocks (Table 16.5, R92). -/
def State.scxLost (page : Nat) (s : State) : State :=
  s.upto 16 fun i s => s.when (scxPage i == page) fun s => s.losing (scCar i) (State.scTo i 0)

/-- A reset of one page (level 4): its registers, and what its instances hold beside them. -/
def State.blockReset (page : Nat) (s : State) : State :=
  let s := s.scxLost page
  let s := s.each Page.all fun p s => s.each (instsOf p page) fun i s => s.kindLoss p i
  let s := s.dropRegs fun k => k.addr / 4096 == page
  let s := s.upto 2 fun c s => s.when (caxPage c == page) (State.sparesShow c)
  (s.when (page == (R .HAY_CFG).addr / 4096) State.hayFuse).evalAll

/-- What a page's instances start with when its own reset releases: a subcarrier reconverges, lanes, converters and the
clock start again. DESIGN CHOICE, unsafe (log 43). -/
def State.pageRise (page : Nat) (s : State) : State :=
  let s := s.upto 16 fun i s => s.when (scxPage i == page) (State.scRise i)
  let s := s.upto 32 fun l s => s.when (hlnPage l == page) (State.lanesEval [l])
  let s := s.upto 2 fun p s => s.when ((R .MON_PAIR_CFG p).addr / 4096 == page) fun s => (s.slotTake p).pairRestart p
  s.when (page == (R .STB_CFG).addr / 4096) State.stbStart

/-- Source `a` asserts (R359): it is recorded, and its reach enters reset. -/
def State.assertNow (a : Asserted) (s : State) : State :=
  let s := s.rstRecord a.src
  if 3 ≤ a.level && !s.targetOn a then s
  else
    let rest := s.asserted.filter fun x => !(x.src == a.src && x.dom == a.dom && x.page == a.page)
    let s := { s with
      asserted := rest ++ [{ a with asking := false, since := s.us }]
      seqLevel := if a.level ≤ 2 then some (min a.level (s.seqLevel.getD 2)) else s.seqLevel }
    let s := match a.level with
      | 0 => (s.chipReset false a.src).rstRecord a.src
      | 1 => s.chipReset true a.src
      | 2 => s.coreReset
      | 3 => (s.when (a.src != 13) (State.bstAbort fun t => bstDom t == a.dom)).domainReset a.dom
      | _ => s.blockReset a.page
    s.rstShow

/-- A source that asked its target for idle asserts. The Paddock's takes all the pages of its target at once, and saves
their RW fields first (Table 16.7). -/
def State.assertAsked (a : Asserted) (s : State) : State :=
  if a.src = 13 then
    let s := s.testSaved a.page
    let l := s.asserted.filter fun x => x.asking && x.src == 13 && x.dom == a.dom && s.bst.running.any fun t =>
      (bstPages t.target).contains x.page && (bstPages t.target).contains a.page
    s.each l State.assertNow
  else s.assertNow a

/-- A source's condition begins (R357, R360): an ignored source is recorded in RST_CAUSE alone; levels 0 to 2 assert at
once, levels 3 and 4 ask their target for idle first. DESIGN CHOICE, unsafe (log 44). -/
def State.srcBegin (src dom page : Nat) (hold : Bool) (s : State) : State :=
  match s.srcLevel src with
  | none => s.wr (R .RST_CAUSE) (s.rd (R .RST_CAUSE) ||| BitVec.ofNat 32 (2 ^ src))
  | some l =>
    let a : Asserted := { src := src, level := l, dom := dom, page := page, hold := hold, asking := 3 ≤ l,
                          since := s.us }
    if 3 ≤ l && s.targetOn a then { s with asserted := s.asserted ++ [a] }.evalAll else s.assertNow a

/-! ## Release (R359, R361) -/

/-- A carrier that a reset covered starts again with the others of its domain. -/
def State.domRise (d : Nat) (s : State) : State := if s.domOn d && !s.inReset d 0 then s.domUp d false else s

/-- The sequence of the widest level runs once (R361): after a CORE reset the domains that are ON start again and the
boot applies covered domains alone; after a CHIP or POWER reset MGMT wakes. DESIGN CHOICE, unsafe (log 44). -/
def State.seqRun (s : State) : State :=
  let l := s.seqLevel.getD 2
  let s := { s with seqLevel := none }
  if l = 2 then
    (s.modBoot fun b => { b with pend := true, skipTmg := true }).each coreDoms State.domRise
  else s.mgmtStart

/-- The fuses of a life-cycle move are burnt (R367); RETURNED erases the Tack Room's user areas (Table 15.12). -/
def State.lcBurn (s : State) : State :=
  match s.lcMove with
  | none => s
  | some l =>
    let s := { s with fuse := { s.fuse with lc := l }, lcMove := none }
    if l = 3 then
      { s with tack := s.tack.filter fun e => !(0x050000 ≤ e.1 && decide (e.1 < 0x060000)) && decide (e.1 < 0x100000)
               stb := { s.stb with tack := false, s10 := [] } }
    else s

/-- The sources that satisfy `p` release. DESIGN CHOICE, unsafe (log 44). -/
def State.srcRelease (p : Asserted → Bool) (s : State) : State :=
  let gone := s.asserted.filter p
  if gone.isEmpty then s
  else
    let s := { s with asserted := s.asserted.filter fun a => !p a }.rstShow
    let wide := gone.any (fun a => a.level ≤ 2) && !s.asserted.any fun a => !a.asking && decide (a.level ≤ 2)
    let s := s.when wide State.seqRun
    let s := s.each (gone.filter fun a => a.level == 3 && !a.asking) fun a s => s.domRise a.dom
    let s := s.each (gone.filter fun a => a.level == 4 && !a.asking && a.src != 13) fun a s => s.pageRise a.page
    let s := s.evalAll
    s.when (gone.any (fun a => !a.asking) && s.asserted.all fun a => a.asking) fun s => s.raise F.RST_EVT_RESET_DONE

/-! ## The commands -/

/-- PG_FALL (R355): a fall while a domain on the rail is ON asserts BOR_CORE, or REG_FAULT for the rail's domains. Rail
5 is VDDA_MON, whose fall the device detects itself and which is MON's alone (R436). -/
def execPgFall (rail : Nat) (s : State) : Host.Outcome State Fault Refusal :=
  .next (if rail = 5 then s.when (s.domOn 3) (State.srcBegin 10 3 0 false)
  else if s.pwr.pg.contains rail then
    let on := (List.range 14).filter fun d => d != 0 && (railsOf d).contains rail && s.domOn d
    let s := s.modPwr fun p => { p with pg := p.pg.filter (· != rail) }
    if on.isEmpty then s
    else if rail = 0 then s.srcBegin 1 0 0 false
    else if s.srcLevel 10 = some 3 then s.each on fun d s => s.srcBegin 10 d 0 false
    else s.srcBegin 10 (on.headD 0) 0 false
  else s)

/-- The sources whose condition comes from outside the registers: the pins, the monitors and the debug module. -/
def pinSources : List Nat := [0, 2, 3, 4, 9, 15]

/-- The target of a source that asks for idle can be idle: a carrier's transmitter is DARK with cause PWR (R360). -/
def State.idleNow (s : State) (a : Asserted) : Bool :=
  (List.range 2).all fun c => !(a.dom == 4 + c && (a.level == 3 || a.page == caxPage c)) ||
    (s.fld F.CAX_TX_STATUS_TXSTATE c == 0 && s.flag F.CAX_TX_STATUS_PWR c)

/-- RESET_ASSERT (R359): a source that asks its target for idle finds it idle; or the condition of a source from outside
begins. -/
def execResetAssert (src dom page : Nat) (s : State) : Host.Outcome State Fault Refusal :=
  .next (match s.asserted.find? fun a => a.asking && a.src == src && a.dom == dom && a.page == page with
    | some a => if s.idleNow a then s.assertAsked a else s
    | none => if pinSources.contains src && !(s.asserted.any fun a =>
        a.src == src) then s.srcBegin src 0 0 false else s)

/-- IDLE_TIMEOUT (R360): the target was not idle within IDLE_TO, and the reset asserts anyway. -/
def execIdleTimeout (src : Nat) (s : State) : Host.Outcome State Fault Refusal :=
  .next (match s.asserted.find? fun a => a.asking && a.src == src &&
      decide (a.since + 10 * max (s.rdN (R .RST_IDLE_TO)) 1 ≤ s.us) with
    | some a =>
      (((s.raise F.RST_EVT_IDLE_TIMEOUT).setFld F.RST_IDLE_LOG_PAGE a.page).setFld F.RST_IDLE_LOG_DOMAIN
        a.dom).assertAsked a
    | none => s)

/-- How many µs a source stays asserted at least (R358, Table 15.6). -/
def srcStays (src : Nat) : Nat :=
  match src with
  | 6 | 7 | 11 | 12 => 10
  | 8 | 14 => 100
  | 15 => 1000
  | _ => 0

/-- RESET_RELEASE (R361, Table 15.6): the condition of a source has ended. HOLD keeps a software source; the Paddock
releases its own. -/
def execResetRelease (src : Nat) (s : State) : Host.Outcome State Fault Refusal :=
  .next (if src = 13 && !(s.bst.running ++ s.bst.held).isEmpty then s
  else
    let s := s.when ((src == 1 || src == 10) && s.asserted.any fun a => a.src == src) fun s =>
      s.modPwr fun p => { p with pg := p.en.foldl (fun l r => if l.contains r then l else r :: l) p.pg }
    let s := s.when (src == 5 && s.asserted.any fun a => a.src == 5) State.lcBurn
    s.srcRelease fun a => a.src == src && !a.hold && !a.asking && decide (a.since + srcStays src ≤ s.us))

/-- The source of a kind of SW_CMD. -/
def swSrc (kind : Nat) : Nat := [6, 7, 11, 12].getD (kind - 1) 6

/-- A write of SW_CMD (R358). -/
def State.swWrite (v : W32) (s : State) : State :=
  let k := F.RST_SW_CMD_KIND.get v
  let hold := F.RST_SW_CMD_HOLD.get v == 1
  let page := F.RST_SW_CMD_PAGE.get v
  let go := fun (dom page : Nat) (s : State) =>
    if s.asserted.any fun a => a.src == swSrc k then s.raise F.RST_EVT_SW_BUSY else s.srcBegin (swSrc k) dom page hold
  match k with
  | 1 | 2 => go 0 0 s
  | 3 => go (F.RST_SW_CMD_DOMAIN.get v) 0 s
  | 4 => go ((pageDom page).getD 0) page s
  | 9 | 10 | 11 | 12 => s.srcRelease fun a => a.hold && a.src == swSrc (k - 8)
  | _ => s

/-- SW_CHIP (R358). -/
def execSwChip (m : Master) (v : W32) (s : State) : Host.Outcome State Fault Refusal :=
  .next (s.guardW m (R .RST_SW_CMD) v (State.swWrite v))

/-- SW_CORE (R358). -/
def execSwCore (m : Master) (v : W32) (s : State) : Host.Outcome State Fault Refusal :=
  .next (s.guardW m (R .RST_SW_CMD) v (State.swWrite v))

/-- SW_DOMAIN (R358). -/
def execSwDomain (m : Master) (v : W32) (s : State) : Host.Outcome State Fault Refusal :=
  .next (s.guardW m (R .RST_SW_CMD) v (State.swWrite v))

/-- SW_BLOCK (R358). -/
def execSwBlock (m : Master) (v : W32) (s : State) : Host.Outcome State Fault Refusal :=
  .next (s.guardW m (R .RST_SW_CMD) v (State.swWrite v))

/-- SW_RELEASE (R358). -/
def execSwRelease (m : Master) (v : W32) (s : State) : Host.Outcome State Fault Refusal :=
  .next (s.guardW m (R .RST_SW_CMD) v (State.swWrite v))

/-- A write of HOST_RST: GO from a management interface asserts source 14 (R357, R358). -/
def State.hostRstWrite (m : Master) (v : W32) (s : State) : State :=
  if F.RST_HOST_RST_GO.get v == 1 && (m = .spi || m = .twi) && !(s.asserted.any fun a => a.src == 14) then
    s.srcBegin 14 0 0 false
  else s

/-- HOST_RST (R357). -/
def execHostRst (m : Master) (v : W32) (s : State) : Host.Outcome State Fault Refusal :=
  .next (s.guardW m (R .RST_HOST_RST) v (State.hostRstWrite m v))

end Sys2Proof.Machine
end

