-- ==== Sys2Proof/Machine/Boot.lean ====
section
/-! DEFINITION. Start-up (spec/15 R364 to R367, spec/14 R341): the image checks, the life-cycle moves and the slow
clock's crystal. -/

namespace Sys2Proof.Machine

/-! ## Images (R366, R341) -/

/-- The code of image copy `b` (false: A) recorded in BOOT_STATUS. -/
def State.copyCode (b : Bool) (code : Nat) (s : State) : State :=
  s.setFld (if b then F.DEV_BOOT_STATUS_CODE_B else F.DEV_BOOT_STATUS_CODE_A) code

/-- The copy that device 0 is reading has been read and checked (Table 15.10): a valid copy is applied; after an invalid
first copy the other is read, after an invalid second one the boot halts. DESIGN CHOICE, safe (log 45). -/
def State.imageCheck (l : List Byte) (s : State) : State :=
  let b := s.flag F.DEV_BOOT_STATUS_COPY
  let n := s.imageCode l
  let s := s.copyCode b n
  if n = 1 then (s.modBoot fun x => { x with lens := x.lens.set 0 (bit b) (imageLen l) }).bootApply l
  else if s.fld F.DEV_BOOT_STATUS_STAGE == 1 then
    (s.setFld F.DEV_BOOT_STATUS_STAGE 2).setFlag F.DEV_BOOT_STATUS_COPY (!b)
  else s.setFld F.DEV_BOOT_STATUS_STAGE 5

/-- IMAGE_CHECK (R366): what the flash gives from the copy's place on, as the 16 bytes before the public key, the key,
the signature and the rest (Table 15.8). -/
def execImageCheck (fore key sig rest : List Byte) (s : State) : Host.Outcome State Fault Refusal :=
  .next (if s.fuse.devId = 0 && s.domOn 1 && !s.inReset 1 0 && !s.boot.pend &&
      (s.fld F.DEV_BOOT_STATUS_STAGE == 1 || s.fld F.DEV_BOOT_STATUS_STAGE == 2) then
    s.imageCheck (fore ++ key ++ sig ++ rest) else s)

/-- IMG_CHECKED (R341): the forwarded image, as the 16 bytes before the key, the key with the signature, and the rest, is
applied, or the device halts with IMG = BAD. -/
def execImgChecked (fore keys rest : List Byte) (s : State) : Host.Outcome State Fault Refusal :=
  .next (if s.fuse.devId ≠ 0 && s.img = 1 && !s.imgRx.isEmpty && s.imgRx == fore ++ keys ++ rest &&
      s.domOn 1 && !s.inReset 1 0 then
    let n := s.imageCode s.imgRx
    let s := s.copyCode false n
    if n = 1 then s.bootApply s.imgRx else { s.setFld F.DEV_BOOT_STATUS_STAGE 5 with img := 3 }
  else s)

/-! ## Life cycle (R367) -/

/-- The refusal code of a move to state `t`, 0 where it is accepted (Table 15.11). -/
def State.lcCode (s : State) (key t : Nat) : Nat :=
  if key ≠ 0x4C43 then 4
  else match s.fuse.lc, t with
    | 0, 1 => 3
    | 1, 2 => if s.fuse.keyHash.isSome then 0 else 2
    | 1, 3 | 2, 3 => if s.lcAuth then 0 else 3
    | _, _ => 1

/-- A move is requested: an accepted one asserts LC_CHANGE, a refused one leaves its code. -/
def State.lcRequest (key t : Nat) (s : State) : State :=
  let c := s.lcCode key t
  if c = 0 then { s.setFld F.DEV_LC_STATUS_CODE 0 with lcMove := some t }.srcBegin 5 0 0 false
  else s.setFld F.DEV_LC_STATUS_CODE c

/-- A write of LC_CMD. -/
def State.lcWrite (v : W32) (s : State) : State :=
  s.lcRequest (F.DEV_LC_CMD_KEY.get v) (F.DEV_LC_CMD_TARGET.get v)

/-- LC_CMD (R367). -/
def execLcCmd (m : Master) (v : W32) (s : State) : Host.Outcome State Fault Refusal :=
  .next (s.guardW m (R .DEV_LC_CMD) v (State.lcWrite v))

/-! ## The slow clock (R364) -/

/-- XTAL_OK: the crystal is stable; the slow clock changes to it where the options enable it. -/
def execXtalOk (s : State) : Host.Outcome State Fault Refusal :=
  .next ((s.setFld F.AON_SLOW_STATUS_XTAL_OK 1).setFlag F.AON_SLOW_STATUS_SRC (s.optByte 2 % 2 == 1))

/-- XTAL_FAIL: the crystal has not run stably within 2 s; the slow clock stays on the on-die RC. -/
def execXtalFail (s : State) : Host.Outcome State Fault Refusal :=
  .next (if s.flag F.AON_SLOW_STATUS_XTAL_OK then s else s.raise F.AON_EVT_XTAL_FAIL)

end Sys2Proof.Machine
end

