-- ==== Sys2Proof/Machine/Farrier.lean ====
section
/-! DEFINITION. The Farrier with its commands (spec/16 R369 to R384): background and production calibration, the
calibration records, and the Tack Room window. -/

namespace Sys2Proof.Machine

/-! ## Background calibration of slices (R373 to R375) -/

/-- MGMT is ON and out of reset: the Farrier runs (R369). -/
def State.mgmtOn (s : State) : Bool := s.domOn 1 && !s.inReset 1 0

/-- A lane's slices all stand at the values their ramps head for. -/
def State.rampDone (s : State) (c l : Nat) : Bool :=
  let k := s.calCar c
  (List.range 66).all fun n => k.force.get SliceVal.init (sliceKey l n) == k.target.get SliceVal.init (sliceKey l n)

/-- The slice a lane visits next, in ascending order, skipping retired slices. -/
def CalLane.slice (x : CalLane) : Option Nat :=
  let free := (List.range 66).filter fun n => !x.retired.contains n
  match free.find? fun n => decide (x.next ≤ n) with
  | some n => some n
  | none => free.head?

/-- Slice `n` of a lane is a free spare (R75): slices 64 and 65 are the spares, and each retired slice has taken the
lowest that was free. DEDUCED, unsafe (log 72). -/
def CalLane.isSpare (x : CalLane) (n : Nat) : Bool :=
  let free := [64, 65].filter fun m => !x.retired.contains m
  (free.drop (x.retired.filter (· < 64)).length).contains n

/-- Slice `n` is out of service (R373): SLICE shows it. -/
def State.sliceOut (c l n : Nat) (s : State) : State :=
  (s.modCalLane c l fun k => { k with cur := some n, want := none }).setFld F.CAX_RX_ILV_STATUS_SLICE n c l

/-- A swap of slice `n` is requested (R74); a free spare needs none. -/
def State.swapAsk (c l n : Nat) (out : Bool) (s : State) : State :=
  s.modCalLane c l fun k => { k with want := some (n, out, s.us) }

/-- SLICE_CYCLE (R373, R75): a cycle starts on a lane with a spare left, no cycle under way and no ramp running. -/
def execSliceCycle (c lane : Nat) (s : State) : Host.Outcome State Fault Refusal :=
  let x := s.calLane c lane
  .next (if s.mgmtOn && s.carOn c && lane < 4 && s.flag F.CAL_CFG_BG_EN && !s.underTest c && x.retired.length < 2 &&
      x.cur.isNone && x.want.isNone && s.rampDone c lane then
    match x.slice with
    | none => s
    | some n => if x.isSpare n then s.sliceOut c lane n else s.swapAsk c lane n true
  else s)

/-- Two runs of a slice agree (Table 16.1): offset within 4, gain within 50, timing within 2. -/
def sliceAgree (a b : SliceVal) : Bool :=
  (a.ofs - b.ofs).natAbs ≤ 4 && (a.gain - b.gain).natAbs ≤ 50 && ((a.tap : Int) - b.tap).natAbs ≤ 2

/-- The mean of two runs, within the ranges of Table 16.1. DESIGN CHOICE, unsafe (log 46). -/
def sliceMean (a b : SliceVal) : SliceVal :=
  ⟨max (-128) (min 128 ((a.ofs + b.ofs) / 2)), max (-500) (min 500 ((a.gain + b.gain) / 2)), min 511 ((a.tap +
      b.tap) / 2)⟩

/-- A lane's cycle on slice `n` ends: the next one is visited; past the last a pass is complete. -/
def State.cycleEnd (c l n : Nat) (s : State) : State :=
  let s := (s.modCalLane c l fun k => { k with cur := none, want := none, next := n + 1 }).setFld
    F.CAX_RX_ILV_STATUS_SLICE 0x7F c l
  if (List.range 66).any fun m => decide (n < m) && !(s.calLane c l).retired.contains m then s
  else (s.wrN (R .CAL_PASS_CNT c l) (s.rdN (R .CAL_PASS_CNT c l) + 1)).modCalLane c l fun k => { k with next := 0 }

/-- A discarded result (R374): the event and its log entry. -/
def State.discard (inst : Nat) (s : State) : State := (s.raise F.CAL_EVT_DISCARD).logFree 0x00C0 inst false

/-- Slice `n` of a lane is retired (R75): a spare takes its place; with none left the lane's calibration stops. -/
def State.retire (c l n : Nat) (s : State) : State :=
  let s := s.modCalLane c l fun k => { k with retired := n :: k.retired }
  let left := 2 - (s.calLane c l).retired.length
  let s := (s.setFld F.CAX_RX_ILV_STATUS_SPARES_FREE left c l).raise F.CAX_RX_EVT_ILV_SPARE_USED c
  s.when (left == 0) fun s => s.raise F.CAX_RX_EVT_ILV_EXHAUSTED c

/-- SLICE_RESULT (R373, R374): the two runs of the slice out of service, with the length of its delay-line tap as the
time base counts it, in 10⁻⁴ ps (R372). -/
def execSliceResult (c lane : Nat) (ab : SliceVal × SliceVal) (tap : Nat) (s : State) :
    Host.Outcome State Fault Refusal :=
  let m := sliceMean ab.1 ab.2
  let v := { m with tap := tapsFor (s.timeBase tap) m.tap }
  .next (if !(s.mgmtOn && s.carOn c && lane < 4) then s
  else match (s.calLane c lane).cur, (s.calLane c lane).want with
    | some n, none =>
      let s := if sliceAgree ab.1 ab.2 then
          (s.modCalCar c fun k => { k with target := k.target.set SliceVal.init (sliceKey lane n) v }).modCalLane
            c lane fun k => { k with runs := k.runs.set 0 n 0 }
        else
          let s := ((s.bump (R .CAL_DISCARD_CNT c lane)).discard c).modCalLane c lane fun k =>
            { k with runs := k.runs.set 0 n (k.runs.get 0 n + 1) }
          s.when (3 ≤ (s.calLane c lane).runs.get 0 n) fun s => s.retire c lane n
      if (s.calLane c lane).isSpare n || (s.calLane c lane).retired.contains n then s.cycleEnd c lane n
      else s.swapAsk c lane n false
    | _, _ => s)

/-- The swap requested at `since` may be made (R74): after the 1 ms window it came in and outside steps 2 to 4 of a
sequence, that is while ACQ_STEP does not show 1 to 3 as the last step complete; after 10 ms whatever the receiver
does. -/
def State.swapMay (s : State) (c since : Nat) : Bool :=
  let step := s.fld F.CAX_RX_STATUS_ACQ_STEP c
  (decide (since / 1000 < s.us / 1000) && !(decide (1 ≤ step) && decide (step ≤ 3))) || decide (since + 10000 ≤ s.us)

/-- SLICE_SWAP (R74): the swap of slice `n` that a lane waits for is made and counted. -/
def execSliceSwap (c lane n : Nat) (s : State) : Host.Outcome State Fault Refusal :=
  .next (match (s.calLane c lane).want with
    | some (k, out, since) =>
      if s.carOn c && lane < 4 && k == n && s.swapMay c since then
        let s := (s.setFld F.CAX_RX_ILV_STATUS_SWAP_CNT (s.fld F.CAX_RX_ILV_STATUS_SWAP_CNT c lane +
            1) c lane).count 0x048 c 1
        if out then s.sliceOut c lane n else s.cycleEnd c lane n
      else s
    | none => s)

/-- A value one unit towards its target. -/
def stepTo (x t : Int) : Int := if x < t then x + 1 else if t < x then x - 1 else x

/-- A slice one step of Table 16.1 towards its new value. -/
def sliceStep (x t : SliceVal) : SliceVal :=
  ⟨stepTo x.ofs t.ofs, stepTo x.gain t.gain, (stepTo x.tap t.tap).toNat⟩

/-- SLICE_RAMP (R375): every slice of a lane moves one step towards its new value. -/
def execSliceRamp (c lane : Nat) (s : State) : Host.Outcome State Fault Refusal :=
  .next (if s.mgmtOn && s.carOn c && lane < 4 && !s.rampDone c lane then
    s.modCalCar c fun k =>
      { k with dirty := true
               force := (List.range 66).foldl (fun (t : NTab SliceVal) n =>
                 let y := sliceKey lane n
                 t.set SliceVal.init y (sliceStep (t.get SliceVal.init y) (k.target.get SliceVal.init y))) k.force }
  else s)

/-! ## DAC skew and monitor references (R376, R378) -/

/-- The transmitter is in FILL or SERVICE. -/
def State.fillOrService (s : State) (c : Nat) : Bool :=
  s.fld F.CAX_TX_STATUS_TXSTATE c == 3 || s.fld F.CAX_TX_STATUS_TXSTATE c == 4

/-- The `n`-th discard in a row of an item other than a slice: at three STUCK, with the item's row of Table 16.1. -/
def State.stuck (n item : Nat) (s : State) : State :=
  s.when (n == 3) fun s => (s.raise F.CAL_EVT_STUCK).setFld F.CAL_STATUS_STUCK_ITEM item

/-- DAC_SKEW_CAL (R376): two runs of a DAC lane's skew, in 0.1 ps. DESIGN CHOICE, unsafe (log 46). -/
def execDacSkewCal (c lane : Nat) (a b : Int) (s : State) : Host.Outcome State Fault Refusal :=
  .next (if s.mgmtOn && s.carOn c && lane < 4 && s.fillOrService c then
    if (a - b).natAbs ≤ 2 then
      (s.setTerm c lane ((a + b) / 2)).modCalCar c fun k => { k with dirty := true, dacRun := k.dacRun.set 0 lane 0 }
    else
      let n := (s.calCar c).dacRun.get 0 lane + 1
      ((((s.bump (R .CAL_DAC_DISCARD_CNT c)).discard c).modCalCar c fun k =>
        { k with dacRun := k.dacRun.set 0 lane (n % 3) })).stuck n 4
  else s)

/-- MON_REF_REFRESH (R378): pair `p` measures channel 30 again, `x` and `y` by its two converters. -/
def execMonRefRefresh (p : Nat) (x y : Int) (s : State) : Host.Outcome State Fault Refusal :=
  let near := fun (n : Nat) (v : Int) => decide ((v - ((s.devRec.map DevRec.refs).getD []).get 0 n).natAbs ≤ 64)
  .next (if s.mgmtOn && s.monOn && p < 2 && s.devRec.isSome then
    if !(near (2 * p) x && near (2 * p + 1) y) then
      let n := s.cal.refRun.get 0 p + 1
      ((s.discard p).modCal fun k => { k with refRun := k.refRun.set 0 p (n % 3) }).stuck n 7
    else if (x - y).natAbs ≤ s.chkTol && s.fld F.MON_STATUS_FAULT / 4 ^ p % 4 == 0 then
      s.modCal fun k => { k with refs := (k.refs.set 0 (2 * p) x).set 0 (2 * p + 1) y, refRun := k.refRun.set 0 p 0 }
    else s
  else s)

/-! ## Records (R382, R383) -/

/-- Carrier `c`'s live record is stored, or with `ok` = false the store fails. DESIGN CHOICE, unsafe (log 46). -/
def State.storeLive (c : Nat) (ok : Bool) (s : State) : State :=
  let x := s.calCar c
  let ab := storeIn CalRec.seq x.liveA x.liveB ok (s.calNow c)
  let s := s.modCalCar c fun k => { k with liveA := ab.1, liveB := ab.2, dirty := !ok, storeAt := some s.us }
  if ok then s.wr (R .CAL_LAST_STORE c) s.storeSec else s.raise F.CAL_EVT_STORE_FAIL

/-- A store of carrier `c` is due: a value has changed and no test has the carrier (Table 16.9). -/
def State.storeDue (s : State) (c : Nat) : Bool := s.mgmtOn && decide (c < s.nCar) && (s.calCar c).dirty &&
    !s.underTest c

/-- STORE_MIN minutes, 0 as 1, have passed since carrier `c`'s last store, one that failed included (R383). -/
def State.storeMay (s : State) (c : Nat) : Bool :=
  match (s.calCar c).storeAt with
  | none => true
  | some t => decide (t + 60000000 * max 1 (s.fld F.CAL_CFG_STORE_MIN) ≤ s.us)

/-- LIVE_STORE (R383). -/
def execLiveStore (c : Nat) (ok : Bool) (s : State) : Host.Outcome State Fault Refusal :=
  .next (if s.storeDue c && s.storeMay c then s.storeLive c ok else s)

/-! ## Production calibration and CAL_CMD (R371) -/

/-- The domains that Table 16.1's items belong to. -/
def State.calDoms (s : State) : List Nat := [1, 3, 4, 5, 9, 10, 11, 12, 13].filter fun d => !s.fusedOff d

/-- The code of Table 16.2 that refuses PROD, the lowest that applies; 0 where it starts.
DESIGN CHOICE, unsafe (log 13). -/
def State.prodCode (s : State) : Nat :=
  let v := s.rdN (R .CAL_VREF_VAL)
  let t := signed 16 (s.rdN (R .CAL_TEMP_REF))
  if !(s.fuse.lc == 1 || s.fuse.lc == 3) then 1
  else if !s.flag F.CAL_STATUS_REF_IN_OK then 2
  else if !(1000000 ≤ v && v ≤ 2400000 && (-4000) ≤ t && t ≤ 11000) then 3
  else if !s.calDoms.all s.domOn then 4 else 0

/-- A write of CAL_CMD; one that finds a command running has no effect. DESIGN CHOICE, unsafe (log 46). -/
def State.calCmdWrite (v : W32) (s : State) : State :=
  if s.flag F.CAL_RESULT_BUSY then s
  else match F.CAL_CMD_CMD.get v with
    | 1 =>
      let c := s.prodCode
      (s.setFld F.CAL_RESULT_CODE c).setFlag F.CAL_RESULT_BUSY (c == 0)
    | 2 =>
      ((s.upto 2 fun c s => s.when (s.storeDue c) (State.storeLive c true)).setFld F.CAL_RESULT_CODE 0).raise F.CAL_EVT_DONE
    | _ => s.setFld F.CAL_RESULT_CODE 6

/-- PROD (R371). -/
def execProd (m : Master) (v : W32) (s : State) : Host.Outcome State Fault Refusal :=
  .next (s.guardW m (R .CAL_CMD) v (State.calCmdWrite v))

/-- STORE_NOW (R383). -/
def execStoreNow (m : Master) (v : W32) (s : State) : Host.Outcome State Fault Refusal :=
  .next (s.guardW m (R .CAL_CMD) v (State.calCmdWrite v))

/-- The first `n` of a list of measurements as a table. -/
def listTab {α : Type} [DecidableEq α] (d : α) (n : Nat) (l : List α) : NTab α :=
  (List.range n).foldl (fun (t : NTab α) k => t.set d k (l.getD k d)) []

/-- What a production calibration measured comes into force, and its records are written. -/
def State.prodRecords (x : ProdVals) (s : State) : State :=
  let s := s.each x.slices fun e s => s.modCalCar e.1 fun k =>
    { k with target := k.target.set SliceVal.init (sliceKey e.2.1 e.2.2.1) e.2.2.2 }
  let s := s.each x.terms fun e s => s.setTerm e.1 e.2.1 e.2.2
  let s := s.upto s.nCar fun c s =>
    let r := fun seq => { s.calNow c seq with vals := (s.calCar c).target, marks := x.marks.getD c (0, 0) }
    let ab := storeIn CalRec.seq (s.calCar c).prodA (s.calCar c).prodB true r
    s.modCalCar c fun k => { k with prodA := ab.1, prodB := ab.2, marks := x.marks.getD c (0, 0), dirty := true }
  let refs := listTab 0 4 x.refs
  let hostDly := listTab 0 32 x.hostDly
  let r := fun seq => (⟨seq, s.storeSec, refs, hostDly, listTab 0 4 x.sensors, x.ratio, x.trim⟩ : DevRec)
  let ab := storeIn DevRec.seq s.cal.devA s.cal.devB true r
  (s.modCal fun k => { k with refs := refs, hostDly := hostDly, refRun := [], devA := ab.1, devB := ab.2 }).setFld
    F.CAL_STATUS_PROD_VALID 1

/-- PROD_DONE (R371): `vrefOk`: CAL_VREF lay within 2 % of VREF_VAL; `agree`: every item agreed.
DESIGN CHOICE, unsafe (log 46). -/
def execProdDone (vrefOk agree : Bool) (x : ProdVals) (s : State) : Host.Outcome State Fault Refusal :=
  .next (if s.mgmtOn && s.flag F.CAL_RESULT_BUSY then
    let s := ((s.setFld F.CAL_RESULT_BUSY 0).setFld F.CAL_RESULT_CODE (if !vrefOk then 3 else if !agree then 5 else 0)).raise
      F.CAL_EVT_PROD_DONE
    s.when (vrefOk && agree) (State.prodRecords x)
  else s)

/-! ## CAL_REF_IN (R370) -/

/-- REF_LOST. -/
def execCalRefLost (s : State) : Host.Outcome State Fault Refusal :=
  .next (if s.mgmtOn && s.flag F.CAL_STATUS_REF_IN_OK then
    (s.setFld F.CAL_STATUS_REF_IN_OK 0).raise F.CAL_EVT_REF_LOST else s)

/-- CAL_REF_IN_PRESENT: at 100 MHz where `fast`, else at 10 MHz. -/
def execCalRefInPresent (fast : Bool) (s : State) : Host.Outcome State Fault Refusal :=
  .next (if s.mgmtOn then (s.setFld F.CAL_STATUS_REF_IN_OK 1).setFlag F.CAL_STATUS_REF_IN_100 fast else s)

/-! ## The Tack Room window (R379 to R381) -/

/-- MIN_VERSION of the option copy at `a`. -/
def minVersion (t : NTab Byte) (a : Nat) : Nat := (t.get 0 (a + 11)).toNat * 256 + (t.get 0 (a + 12)).toNat

/-- The master is a control core in machine mode: the firmware (R391). -/
def machineMode : Master → Bool
  | .core _ => true
  | _ => false

/-- Table 16.3 accepts a write by `m` at Tack Room address `a`. -/
def State.tackAccepts (s : State) (m : Master) (a : Nat) : Bool :=
  if a < 0x1000 then s.fuse.lc == 1 || s.fuse.lc == 2
  else if 0x050000 ≤ a && a < 0x060000 then machineMode m
  else decide (0x100000 ≤ a)

/-- The four bytes of a word, the byte at the lowest address first (R419). DESIGN CHOICE, unsafe (log 50). -/
def wordBytes (v : W32) : List Byte := (List.range 4).map fun k => BitVec.ofNat 8 (v.toNat / 256 ^ k)

/-- A write refused by Table 16.3. -/
def State.tackDenied (s : State) : State := s.raise F.CAL_EVT_TR_WR_DENIED

/-- A write by `m` at Tack Room address `a` (of a word): the LO word of a 64-bit word is held, its HI word writes both.
-/
def State.tackWrite (m : Master) (a : Nat) (v : W32) (s : State) : State :=
  if !s.tackAccepts m a then s.tackDenied
  else if a % 8 < 4 then
    s.modCal fun k => { k with held := (masterCode m, a, v) :: k.held.filter fun e => !(e.1 == masterCode m && e.2.1 == a) }
  else
    let lo := s.cal.held.find? fun e => e.1 == masterCode m && e.2.1 == a - 4
    let s := s.modCal fun k => { k with held := k.held.filter fun e => !(e.1 == masterCode m && e.2.1 == a - 4) }
    let t := match lo with
      | some e => putBytes s.tack (a - 4) (wordBytes e.2.2)
      | none => s.tack
    let t := putBytes t a (wordBytes v)
    if a < 0x1000 && (minVersion t 0 < minVersion s.tack 0 ||
        minVersion t 0x40 < minVersion s.tack 0x40) then s.tackDenied
    else { s with tack := t }

/-- The Tack Room address that the window shows at offset `off`. -/
def State.trAddr (s : State) (off : Nat) : Nat := 0x80000 * s.rdN (R .CAL_TR_BANK) + off % 0x80000 / 4 * 4

/-- The page of the fabric's address in the window. -/
def trPage (off : Nat) : Nat := 0xC80 + off % 0x80000 / 4096

/-- The fabric's address of the word at offset `off` of the window. -/
def trBus (off : Nat) : Nat := 0xC80000 + off % 0x80000 / 4 * 4

/-- An access of the window is answered, or recorded under R353. -/
def State.trGuard (m : Master) (write : Bool) (off : Nat) (f : State → State) (s : State) : State :=
  if s.blockOn 1 (trPage off) then f s
  else
    let s := s.accessErr m write (s.inReset 1 (trPage off)) 1 (trBus off)
    if write then s else s.answer m badWord

/-- TACK_ROOM_WRITE (R380). -/
def execTackRoomWrite (m : Master) (off : Nat) (v : W32) (s : State) : Host.Outcome State Fault Refusal :=
  .next (s.issue m (trBus off) (some v) (State.trGuard m true off fun s => s.tackWrite m (s.trAddr off) v))

/-- A read of the word at Tack Room address `a`. The factory signatures and the layout of the calibration records are
not the spec's: a word of those regions reads as a free value. DESIGN CHOICE, safe (log 42). -/
def State.tackRead (m : Master) (a : Nat) (e : TrEcc) (s : State) : State :=
  let s := match e with
    | .clean => s
    | .corrected => s.bump (R .CAL_TR_CE)
    | .uncorrectable => (s.bump (R .CAL_TR_UE)).raise F.CAL_EVT_TR_UE
  if (0x1000 ≤ a && a < 0x10000) || (0x060000 ≤ a && a < 0x080000) then
    s.useFree.answer m (Config.freeWord s.free)
  else s.answer m (s.tackWord a)

/-- TACK_ROOM_READ (R380, R381). -/
def execTackRoomRead (m : Master) (off : Nat) (e : TrEcc) (s : State) : Host.Outcome State Fault Refusal :=
  .next (s.issue m (trBus off) none (State.trGuard m false off fun s => s.tackRead m (s.trAddr off) e))

end Sys2Proof.Machine
end

