-- ==== Sys2Proof/Machine/Paddock.lean ====
section
/-! DEFINITION. The Paddock with its commands (spec/16 R385 to R390): self-tests of the targets of Table 16.5. -/

namespace Sys2Proof.Machine

/-! ## Commands (Table 16.13) -/

/-- The order of FULL (R390), without the targets a ZQ2000 lacks: control core 0, whose state is kept, comes first. -/
def State.fullOrder (s : State) : List Nat :=
  ([0x60, 0x61, 0x62, 0x63, 0x58, 0x59] ++ (List.range 32).map (0x20 + ·) ++ (List.range 8).map (0x40 + ·) ++
    (List.range 8).map (0x50 + ·) ++ [0, 1] ++ (List.range 16).map (0x10 + ·) ++ [0x71, 0x72, 0x73,
        0x70]).filter fun t =>
      !s.fusedOff (bstDom t)

/-- The conditions of FULL (R390). -/
def State.fullOk (s : State) : Bool :=
  ((List.range 16).all fun p => !s.flag F.SOF_PORT_CFG_EN p) &&
  ((List.range s.nCar).all fun c => s.fld F.CAX_TX_STATUS_TXSTATE c == 0 && !s.flag F.CAX_TX_CTRL_LASER_ON c) &&
  !s.flag F.HAY_CFG_ADMIT_EN && (List.range 14).all fun d => s.fusedOff d || s.domOn d

/-- The code that refuses RUN of target `t`, the lowest that applies; 0 where it is accepted. Whether a control core
waits for interrupt is not in the state: `waits`. DESIGN CHOICE, unsafe (log 47). -/
def State.runCode (s : State) (t : Nat) (waits : Bool) : Nat :=
  if s.fuse.lc == 0 || (0x70 ≤ t && t ≤ 0x73) then 1
  else if !bstTarget t then 9
  else if s.fusedOff (bstDom t) || !s.domOn (bstDom t) then 2
  else if s.underTest t || s.bst.queue.any fun x => x.target == t then 3
  else if 16 ≤ s.bst.queue.length then 4
  else if s.bstCap < bstPower t + 410 then 5
  else if 0x61 ≤ t && t ≤ 0x63 && !waits then 6 else 0

/-- BST_RESULT.CODE with its event where the command is refused. DESIGN CHOICE, unsafe (log 13, 47). -/
def State.bstCode (c : Nat) (s : State) : State := (s.setFld F.BST_RESULT_CODE c).when (c != 0) fun s =>
    s.raise F.BST_EVT_REFUSED

/-- Step 5 of Table 16.7: PADDOCK released, the saved fields restored, a carrier's Farrier values reloaded. -/
def State.testRestore (x : BstTest) (s : State) : State :=
  let t := x.target
  let s := (s.paddockOff t).rstShow
  let s := s.each x.saved fun e s => s.wr e.1 ((s.rd e.1 &&& ~~~e.1.id.info.rw) ||| e.2)
  let s := s.testLift t
  let s := s.when (t < 2) fun s =>
    (((s.rxInstall t (s.rd (R .CAX_RX_PROFILE t)) false).rxShapeIn t).shapeShow t).calLoad t
  let s := s.each (bstPages t) State.pageRise
  let s := s.when (s.srcLevel 13 == some 3) (State.domRise (bstDom t))
  let s := s.evalAll
  s.when (!(s.asserted.any fun a => !a.asking)) fun s => s.when (!(bstPages t).isEmpty) fun s =>
      s.raise F.RST_EVT_RESET_DONE

/-- A write of BST_CMD (Table 16.12). DESIGN CHOICE, unsafe (log 47). -/
def State.bstCmdWrite (v : W32) (s : State) : State :=
  let t := F.BST_CMD_TARGET.get v
  match F.BST_CMD_CMD.get v with
  | 1 =>
    let core := decide (0x61 ≤ t) && decide (t ≤ 0x63)
    let c := s.runCode t (Config.freeBool s.free)
    let s := if core then s.useFree else s
    (s.when (c == 0) fun s => s.modBst fun b =>
      { b with queue := b.queue ++ [⟨t, F.BST_CMD_HOLD_ON_FAIL.get v == 1, s.us, []⟩] }).bstCode c
  | 2 =>
    let c := if !(s.fuse.lc == 1 || s.fuse.lc == 3) then 1 else if s.bst.full.isSome then 3 else if !s.fullOk then 7 else 0
    (s.when (c == 0) fun s => s.modBst fun b => { b with full := some s.fullOrder }).bstCode c
  | 3 =>
    if s.bst.queue.any fun x => x.target == t then
      (((s.modBst fun b => { b with queue := b.queue.filter fun x => x.target != t }).bstOutcome t 6).raise
        F.BST_EVT_ABORTED).bstCode 0
    else s.bstCode 8
  | 4 =>
    match s.bst.held.find? fun x => x.target == t with
    | some x =>
      (((s.modBst fun b => { b with held := b.held.filter fun y => y.target != t }).setFld F.BST_RES_HELD 0 t).testRestore
        x).bstCode 0
    | none => s.bstCode 8
  | _ => s.bstCode 9

/-- RUN (R386). -/
def execBstRun (m : Master) (v : W32) (s : State) : Host.Outcome State Fault Refusal :=
  .next (s.guardW m (R .BST_CMD) v (State.bstCmdWrite v))

/-- FULL (R390). -/
def execBstFull (m : Master) (v : W32) (s : State) : Host.Outcome State Fault Refusal :=
  .next (s.guardW m (R .BST_CMD) v (State.bstCmdWrite v))

/-- BST_CANCEL (R389). -/
def execBstCancel (m : Master) (v : W32) (s : State) : Host.Outcome State Fault Refusal :=
  .next (s.guardW m (R .BST_CMD) v (State.bstCmdWrite v))

/-- RELEASE (R387). -/
def execBstRelease (m : Master) (v : W32) (s : State) : Host.Outcome State Fault Refusal :=
  .next (s.guardW m (R .BST_CMD) v (State.bstCmdWrite v))

/-! ## Admission (R388) -/

/-- Two targets conflict: a carrier and one of its subcarriers. -/
def bstClash (a b : Nat) : Bool :=
  (decide (a < 2) && 0x10 ≤ b && decide (b < 0x20) && (b - 0x10) / 8 == a) ||
  (decide (b < 2) && 0x10 ≤ a && decide (a < 0x20) && (a - 0x10) / 8 == b)

/-- No slice of the carrier under test is being swapped. -/
def State.noSwap (s : State) (t : Nat) : Bool := !decide (t < 2) || (List.range 4).all fun l =>
  (s.calLane t l).cur.isNone && (s.calLane t l).want.isNone

/-- Steps 0 and 1 of Table 16.7: the target is taken, and asked for idle where PADDOCK is of level 3 or 4. -/
def State.testStart (x : BstTest) (s : State) : State :=
  let t := x.target
  let s := ((s.modBst fun b => { b with running := b.running ++ [x] }).setFld F.BST_RES_OUTCOME 0 t).when (decide (t < 2))
    fun s => (s.setFlag F.CAX_TX_STATUS_TEST true t).calAbandon t
  let s := s.when (0x40 ≤ t && t < 0x48) (State.laneFail (t - 0x40))
  match s.srcLevel 13 with
  | none => (s.srcBegin 13 (bstDom t) 0 false).evalAll
  | some l =>
    let pages := if l ≤ 3 then (bstPages t).take 1 else bstPages t
    if l ≤ 2 then s.each pages fun p s => s.srcBegin 13 (bstDom t) p false
    else
      let asks := pages.map fun p =>
        ({ src := 13, level := l, dom := bstDom t, page := p, hold := false, asking := true, since := s.us } : Asserted)
      { s with asserted := s.asserted ++ asks }.evalAll

/-- The end of FULL (R390): every tested domain other than MGMT is OFF, and a summary is logged. -/
def State.fullEnd (s : State) : State :=
  let l := [2, 3, 4, 5, 6, 7, 8, 9, 10, 11, 12, 13].filter fun d => !s.fusedOff d
  let s := s.modBst fun b => { b with full := none }
  let s := s.each l fun d s => (((s.domLoss d false).setDom d 0).setFld F.PMU_DOM_REQ 0 d).modPwr fun p =>
    { p with step := p.step.set 0 d 0 }
  (s.railsEval.evalAll).logFree 0x00D0 0xFF false

/-- TEST_ADMIT (R388, R390): the test at the head is admitted. FULL's targets come one by one, outside the cap. -/
def execTestAdmit (s : State) : Host.Outcome State Fault Refusal :=
  .next (if !s.mgmtOn then s
  else match s.bst.full with
    | some (t :: l) =>
      if !s.bst.running.isEmpty then s
      else
        let s := s.modBst fun b => { b with full := some l }
        if s.domOn (bstDom t) then s.testStart ⟨t, false, s.us, []⟩ else (s.bstOutcome t 6).raise F.BST_EVT_ABORTED
    | some [] => if s.bst.running.isEmpty then s.fullEnd else s
    | none => match s.bst.queue with
      | [] => s
      | x :: l =>
        if bstPower x.target ≤ s.headroom && s.domOn (bstDom x.target) &&
           !(s.bst.running.any fun y => bstClash x.target y.target) && !(s.bst.held.any fun y =>
               bstClash x.target y.target) &&
           s.noSwap x.target then
          (s.modBst fun b => { b with queue := l }).testStart x
        else s)

/-! ## The end of a test -/

/-- The outcome of a test (Table 16.12). -/
def bstEndCode : BstEnd → Nat
  | .pass => 1
  | .logic => 2
  | .memory => 3
  | .analogue => 4
  | .noReference => 5

/-- The test failed. -/
def bstFailed : BstEnd → Bool
  | .logic | .memory | .analogue => true
  | _ => false

/-- Step 6 of Table 16.7. DESIGN CHOICE, unsafe (log 47). -/
def State.testReport (t : Nat) (e : BstEnd) (detail : Nat) (s : State) : State :=
  let s := (((s.bstOutcome t (bstEndCode e)).setFld F.BST_RES_DETAIL (if e = .pass then 0 else detail) t).bumpFld
    F.BST_RES_RUN_CNT t)
  (if e = .pass then s.raise F.BST_EVT_DONE else s.raise F.BST_EVT_FAIL).logFree 0x00D0 t false

/-- A cipher core under test has finished the messages it had (Table 16.5). -/
def State.coreIdle (s : State) (t : Nat) : Bool :=
  !(0x50 ≤ t && t < 0x58) || ((s.core (t - 0x50)).cur.isNone && (s.core (t - 0x50)).susp.isEmpty &&
    (s.core (t - 0x50)).wait.isEmpty)

/-- TEST_DONE (R386): the checks of the test on target `t` end with `e`. -/
def execTestDone (t : Nat) (e : BstEnd) (detail : Nat) (s : State) : Host.Outcome State Fault Refusal :=
  .next (if s.testAsking t || !s.coreIdle t then s
  else match s.bst.running.find? fun x => x.target == t with
    | none => s
    | some x =>
      let s := s.modBst fun b => { b with running := b.running.filter fun y => y.target != t }
      let s := if x.hold && bstFailed e then (s.modBst fun b =>
          { b with held := b.held ++ [x] }).setFld F.BST_RES_HELD 1 t
        else s.testRestore x
      let s := s.testReport t e detail
      if s.bst.full = some [] && s.bst.running.isEmpty then s.fullEnd else s)

/-- EXPIRED (R388): a queued test has waited BST_QUEUE_TO seconds. -/
def execBstExpired (t : Nat) (s : State) : Host.Outcome State Fault Refusal :=
  let q := s.rdN (R .BST_QUEUE_TO)
  .next (if q != 0 && s.bst.queue.any fun x => x.target == t && decide (x.since + 1000000 * q ≤ s.us) then
    (((s.modBst fun b => { b with queue := b.queue.filter fun x => x.target != t }).bstOutcome t 7).raise F.BST_EVT_EXPIRED)
  else s)

end Sys2Proof.Machine
end

