-- ==== Sys2Proof/Machine/Saf.lean ====
section
/-! DEFINITION. Faults, configuration integrity and injection with their commands (spec/17 R408 to R415). -/

namespace Sys2Proof.Machine

/-- FAULT_DETECTED (R409): a mechanism of Table 17.6 that no other command reports detects fault `f`: a PLL monitor of
domain `k` for fault 0 (16 + d: the PLL of domain d has its clock again), else faults 6 to 8. The other faults are
detected by the commands of their own chapters. -/
def execFaultDetected (f k : Nat) (s : State) : Host.Outcome State Fault Refusal :=
  .next (match f with
    | 0 =>
      if k < 16 then s.pllLost k
      else if (s.insts .SAF_INJ_CFG).any fun j => s.flag F.SAF_INJ_CFG_ACTIVE j && s.fld F.SAF_INJ_CFG_CODE j == 1 &&
          4 ≤ s.fld F.SAF_INJ_CFG_TARGET j && stopDom (s.fld F.SAF_INJ_CFG_TARGET j) == k - 16 then s
      else ({ s with plls := s.plls.filter (· != k - 16) }.ppsEval).qlEval
    | 6 | 7 | 8 => (s.detect f).qlEval
    | _ => s)

/-! ## Configuration integrity (R412) -/

/-- A register whose RW fields are checked now: its domain is ON and nothing holds it in reset. -/
def State.checked (s : State) (k : RegKey) : Bool :=
  s.domOn k.domain && !s.inReset k.domain (k.addr / 4096) && k.id.info.rw != 0

/-- What shows beside the fields of a register, brought up to date after they changed: PENDING of TX_SHAPE (R59),
CLAMPED of TX_SKEW with its event (R62). -/
def State.upsetShow (k : RegKey) (s : State) : State :=
  match k.id with
  | .CAX_TX_SHAPE => s.shapeShow k.i
  | .CAX_TX_SKEW => s.skewNew k.i k.j
  | _ => s

/-- The RW fields of register `k` are upset to those of `v`: the machine runs on with them, the page is recorded and
fault 5 raised. -/
def State.upset (k : RegKey) (v : W32) (s : State) : State :=
  let rw := k.id.info.rw
  let s := (s.wr k ((s.rd k &&& ~~~rw) ||| (v &&& rw))).upsetShow k
  (({ s with cfgBad := k :: s.cfgBad.filter (· != k) }.cfgErr (k.addr / 4096)).detect 5).evalAll

/-- CFG_PARITY_ERR (R412): the parity check finds the register at `addr` upset to `v`. -/
def execCfgParityErr (addr : Nat) (v : W32) (s : State) : Host.Outcome State Fault Refusal :=
  .next (match regAt addr with
    | some k => if s.checked k && (s.rd k &&& k.id.info.rw) != (v &&& k.id.info.rw) then s.upset k v else s
    | none => s)

/-- CFG_SCAN (R412): the scanner finds the registers at the addresses `bad` upset in a way parity does not see: their
fields are free values. -/
def execCfgScan (bad : List Nat) (s : State) : Host.Outcome State Fault Refusal :=
  .next (s.each bad fun a s =>
    match regAt a with
    | some k => if s.checked k && !s.cfgBad.contains k then (s.useFree).upset k (Config.freeWord s.free) else s
    | none => s)

/-! ## The test window (R413) -/

/-- A write of WIN_CTRL or INJ_CFG by `m` is let through. -/
def State.winMay (s : State) (m : Master) : Bool := s.fuse.lc != 2 || machineMode m

/-- A write of WIN_CTRL. DESIGN CHOICE, unsafe (log 49). -/
def State.winCtrlWrite (m : Master) (v : W32) (s : State) : State :=
  if !s.winMay m then s.raise F.SAF_EVT_WIN_DENIED
  else
    let s := (s.plainWrite (R .SAF_WIN_CTRL) v).ppsEval.qlEval
    if F.SAF_WIN_CTRL_CLOSE.get v == 1 then s.winShut
    else if F.SAF_WIN_CTRL_OPEN.get v == 1 then s.winOpen (F.SAF_WIN_CTRL_LEN.get v) else s

/-- OPEN (R413). -/
def execWinOpen (m : Master) (v : W32) (s : State) : Host.Outcome State Fault Refusal :=
  .next (s.guardW m (R .SAF_WIN_CTRL) v (State.winCtrlWrite m v))

/-- CLOSE (R413). -/
def execWinClose (m : Master) (v : W32) (s : State) : Host.Outcome State Fault Refusal :=
  .next (s.guardW m (R .SAF_WIN_CTRL) v (State.winCtrlWrite m v))

/-- WINDOW_EXPIRY (R413): REMAIN reaches 0. -/
def execWindowExpiry (s : State) : Host.Outcome State Fault Refusal :=
  .next (if s.flag F.SAF_WIN_STATUS_OPEN && decide (s.winEnd ≤ s.us) then s.winShut else s)

/-! ## Injection slots (R414) -/

/-- A write of INJ_CFG[k]: a running slot ends, and EN = 1 starts it. DESIGN CHOICE, safe (log 25). -/
def State.injWrite (m : Master) (k : Nat) (v : W32) (s : State) : State :=
  if !s.winMay m then s.raise F.SAF_EVT_WIN_DENIED
  else
    let s := (s.setFld F.SAF_INJ_CFG_EN 0 k).injEval
    ({ s.plainWrite (R .SAF_INJ_CFG k) v with injAt := s.injAt.set 0 k (s.us + 1) }).injEval

/-- INJ_CFG_WRITE (R414). -/
def execInjCfgWrite (m : Master) (k : Nat) (v : W32) (s : State) : Host.Outcome State Fault Refusal :=
  .next (s.guardW m (R .SAF_INJ_CFG k) v (State.injWrite m k v))

/-- INJ_END (R414): DUR µs have passed since the slot's start. -/
def execInjEnd (k : Nat) (s : State) : Host.Outcome State Fault Refusal :=
  let d := s.rdN (R .SAF_INJ_DUR k)
  .next (if k < 8 && s.flag F.SAF_INJ_CFG_EN k && d != 0 && decide (s.injAt.get 0 k + d ≤ s.us + 1) then
    ((s.setFld F.SAF_INJ_CFG_EN 0 k).raise F.SAF_EVT_INJ_END).injEval else s)

end Sys2Proof.Machine
end

