-- ==== Sys2Proof/Machine/Pmc.lean ====
section
/-! DEFINITION. The event log's writer and the performance counters with their commands (spec/17 R399 to R407). -/

namespace Sys2Proof.Machine

/-! ## The event log (R399, R400) -/

/-- The words 0 to 14 of an entry (Table 17.5). -/
def LogEnt.words (e : LogEnt) (seq : Nat) : List W32 :=
  [BitVec.ofNat 32 seq, e.sec, e.ns, BitVec.ofNat 32 (e.source % 65536 * 65536 + e.type % 256 * 256 + e.inst % 256),
    BitVec.ofNat 32 (2 * bit e.dropped + bit e.injected)] ++ (List.range 10).map fun k => e.detail.getD k 0

/-- The 64 bytes of an entry, with its CRC-32. DESIGN CHOICE, unsafe (log 50). -/
def LogEnt.bytes (e : LogEnt) (seq : Nat) : List Byte :=
  let l := (e.words seq).flatMap wordBytes
  l ++ wordBytes (BitVec.ofNat 32 (crc32 l))

/-- An entry written into the Tack Room under the next SEQ. -/
def State.logWrite (e : LogEnt) (s : State) : State :=
  let n := s.logSeq
  let s := { s.tackPut (0x010000 + 64 * (n % 4096)) (e.bytes n) with
    logSeq := (n + 1) % 2 ^ 32, logAt := (s.us :: s.logAt).take 64 }
  (s.wrN (R .PMC_LOG_NEXT) s.logSeq).wrN (R .PMC_LOG_OVR) (s.logSeq - 4096)

/-- The DROPPED entry for `n` entries lost (R400): words 5 and 6 give their number. DESIGN CHOICE, safe (log 12). -/
def State.lostEntry (s : State) (n : Nat) : LogEnt :=
  { source := 0x00E0, type := 0, inst := 0, sec := BitVec.ofNat 32 s.sec,
    ns := BitVec.ofNat 32 (s.ns + 2 ^ 31 * bit s.tagValid)
    dropped := true, injected := false, detail := [BitVec.ofNat 32 n, BitVec.ofNat 32 (n / 2 ^ 32)] }

/-- 64 entries have been written in the last 1 s (R400). -/
def State.logFull (s : State) : Bool := s.logAt.length = 64 && s.logAt.all fun t => decide (s.us < t + 1000000)

/-- LOG_DRAIN (R400): the oldest queued entry is written; after a loss the DROPPED entry comes first. At most 64 are
written in any second. -/
def execLogDrain (s : State) : Host.Outcome State Fault Refusal :=
  .next (if !s.mgmtOn || s.logFull then s
  else if 0 < s.logLost then { s.logWrite (s.lostEntry s.logLost) with logLost := 0 }
  else match s.logQ with
    | [] => s
    | e :: l => { s.logWrite e with logQ := l })

/-! ## Snapshots (R405) -/

/-- All 32 counters copied at once. -/
def State.pmcSnap (s : State) : State :=
  s.upto 32 fun n s => (s.wr (R .PMC_SNAP_LO n) (s.rd (R .PMC_CTR_LO n))).wr (R .PMC_SNAP_HI n) (s.rd (R .PMC_CTR_HI n))

/-- A write of PMC_CFG. -/
def State.pmcCfgWrite (v : W32) (s : State) : State :=
  (s.plainWrite (R .PMC_CFG) v).when (F.PMC_CFG_SNAP.get v == 1) State.pmcSnap

/-- SNAP (R405). -/
def execSnap (m : Master) (v : W32) (s : State) : Host.Outcome State Fault Refusal :=
  .next (s.guardW m (R .PMC_CFG) v (State.pmcCfgWrite v))

/-! ## Dumps (R405) -/

/-- A dump record: header, the masked counters in order, zeros up to a 64-byte boundary. -/
def State.dumpRecord (s : State) : List Byte :=
  let mask := s.rd (R .PMC_DUMP_MASK)
  let head := [s.rd (R .PMC_DUMP_SEQ), BitVec.ofNat 32 s.sec, BitVec.ofNat 32 (s.ns + 2 ^ 31 * bit s.tagValid), mask,
      0, 0, 0, 0]
  let body := ((List.range 32).filter fun n => bitOf mask n).flatMap fun n =>
    [s.rd (R .PMC_CTR_LO n), s.rd (R .PMC_CTR_HI n)]
  let l := (head ++ body).flatMap wordBytes
  l ++ List.replicate ((64 - l.length % 64) % 64) 0

/-- The ring's size: one smaller than a record applies as one record. -/
def State.dumpSize (s : State) : Nat := max (s.rdN (R .PMC_DUMP_SIZE)) s.dumpRecord.length

/-- A record's bytes placed in the ring from offset `p`: in shared SRAM, or in the capture area. Bytes beyond the memory
go nowhere. DESIGN CHOICE, unsafe (log 50). -/
def State.dumpPut (p : Nat) (l : List Byte) (s : State) : State :=
  let size := s.dumpSize
  let base := s.rdN (R .PMC_DUMP_BASE)
  if s.flag F.PMC_DUMP_CFG_DEST then
    s.upto (l.length / 64) fun k s =>
      let o := base + (p + 64 * k) % size
      s.when (o < s.capBytes) (State.hayWhole ((s.capBase + o) / 64) (l.drop (64 * k)))
  else
    { s with ram := l.zipIdx.foldl (fun (t : NTab Byte) b =>
        let o := base + (p + b.2) % size
        if o < 0x200000 then NTab.set 0 t (0x01100000 + o) b.1 else t) s.ram }

/-- INTERVAL as it applies, in µs (Table 17.8). -/
def State.dumpEvery (s : State) : Nat := max 1 (min 1000000 (s.fld F.PMC_DUMP_CFG_INTERVAL))

/-- DUMP (R405): INTERVAL µs after the last one a record is written, and DUMP_PTR moves past it. Whether the memory took
it in time is a free choice: a late one is dropped. -/
def execDump (s : State) : Host.Outcome State Fault Refusal :=
  .next (if !(s.mgmtOn && s.flag F.PMC_DUMP_CFG_EN && decide (s.dumpAt + s.dumpEvery ≤ s.us)) then s
  else
    let late := Config.freeBool s.free
    let s := { s.useFree with dumpAt := s.us }
    if late then (s.bump (R .PMC_DUMP_DROP)).raise F.PMC_EVT_DUMP_DROP
    else
      let l := s.dumpRecord
      let size := s.dumpSize
      let p := s.rdN (R .PMC_DUMP_PTR) % size
      let s := (s.dumpPut p l).wrN (R .PMC_DUMP_SEQ) (s.rdN (R .PMC_DUMP_SEQ) + 1)
      let s := s.wrN (R .PMC_DUMP_PTR) ((p + l.length) % size)
      s.when (size ≤ p + l.length) fun s =>
        (s.wrN (R .PMC_DUMP_WRAP) (s.rdN (R .PMC_DUMP_WRAP) + 1)).raise F.PMC_EVT_DUMP_WRAP)

/-- A write of DUMP_CFG: enabling a dump into the Hayloft is refused while capture is on, the ring exceeds CAP_SIZE, or
HAY is not ON. -/
def State.dumpCfgWrite (v : W32) (s : State) : State :=
  let on := s.flag F.PMC_DUMP_CFG_EN
  let s := (s.plainWrite (R .PMC_DUMP_CFG) v).when (!on) fun s => { s with dumpAt := s.us }
  if s.flag F.PMC_DUMP_CFG_EN && s.flag F.PMC_DUMP_CFG_DEST &&
     (s.flag F.HAY_CAP_CFG_EN || decide (s.capBytes < s.dumpSize) || !s.domOn 8) then
    (s.setFld F.PMC_DUMP_CFG_EN 0).raise F.PMC_EVT_DUMP_REFUSED
  else s

/-- DUMP_CFG_WRITE (R405). -/
def execDumpCfgWrite (m : Master) (v : W32) (s : State) : Host.Outcome State Fault Refusal :=
  .next (s.guardW m (R .PMC_DUMP_CFG) v (State.dumpCfgWrite v))

/-! ## Overflow and loading (R401, R407) -/

/-- An event of the control cores, which no other command counts (Table 17.7). DEDUCED, unsafe (log 56). -/
def coreEvent (ev : Nat) : Bool := 0x010 ≤ ev && decide (ev ≤ 0x016)

/-- OVF (R401, R407): counter `n`, set to an event of a core, gains `gain` counts. Where it overflows and is sampled,
the place is `pc`, with the segment word `seg`. -/
def execOvf (n gain : Nat) (pc seg : W32) (s : State) : Host.Outcome State Fault Refusal :=
  .next (if !(s.mgmtOn && n < 32 && coreEvent (s.fld F.PMC_CTR_CFG_EVENT n) &&
      (s.fld F.PMC_CTR_CFG_QUAL n == 0xFFF || s.fld F.PMC_CTR_CFG_QUAL n < 4) &&
      !(n % 2 == 1 && s.flag F.PMC_CTR_CFG_CHAIN n)) then s
  else
    let t := s.pmcGain n gain
    if t.free == s.free then t
    else
      let t := (t.wr (R .PMC_SAMPLE_PC) pc).wr (R .PMC_SAMPLE_SEG) seg
      if s.fld F.PMC_CTR_CFG_QUAL n < 4 then t.setFld F.PMC_SAMPLE_SRC_CORE (s.fld F.PMC_CTR_CFG_QUAL n) else t)

/-- CTR_LOAD (R401, R420): the write of CTR_HI loads both halves. -/
def execCtrLoad (m : Master) (n : Nat) (v : W32) (s : State) : Host.Outcome State Fault Refusal :=
  .next (s.guardW m (R .PMC_CTR_HI n) v (State.commitPair m (R .PMC_CTR_LO n) (R .PMC_CTR_HI n) v))

end Sys2Proof.Machine
end

