-- ==== Sys2Proof/Machine/Cores.lean ====
section
/-! DEFINITION. The control cores' pages and the Letterbox with their commands (spec/17 R391 to R398). -/

namespace Sys2Proof.Machine

/-! ## Rights of Table 17.1 -/

/-- A write that Table 17.1 does not allow is discarded and logged under R353 with domain MGMT. -/
def State.notAllowed (m : Master) (addr : Nat) (s : State) : State := s.accessErr m true false 1 addr

/-- `m` is machine mode of core `c`. -/
def ownCore (m : Master) (c : Nat) : Bool :=
  match m with
  | .core n => n % 4 == c
  | _ => false

/-- A write of a register of core page `c`, with effect `f`; a stalled core issues none (Table 17.10). -/
def State.coreWrite (m : Master) (k : RegKey) (f : State → State) (s : State) : State :=
  if !ownCore m k.i then s.notAllowed m k.addr else if s.inj 0x07 k.i then s else f s

/-! ## Watchdogs (R395) -/

/-- TIMEOUT as it applies. -/
def State.wdtTime (s : State) (c : Nat) : Nat := max 10 (min 100 (s.fld F.CORE_WDT_CFG_TIMEOUT c))

/-- Core `c`'s watchdog runs: enabled, and neither in a test nor waiting in MGMT's handshake. -/
def State.wdtRuns (s : State) (c : Nat) : Bool :=
  s.mgmtOn && decide (c < 4) && s.flag F.CORE_WDT_CFG_EN c && !s.underTest (0x60 + c) && s.domSt 1 != 4

/-- WDT_EXPIRY (R395): TIMEOUT ms have run out; the watchdog reloads, fault 6 is raised, source WDT asserts, and the
core is logged. DESIGN CHOICE, unsafe (log 48). -/
def execWdtExpiry (c : Nat) (s : State) : Host.Outcome State Fault Refusal :=
  .next (if s.wdtRuns c && s.rdN (R .CORE_WDT_LEFT c) == 0 then
    (((s.wrN (R .CORE_WDT_LEFT c) (s.wdtTime c)).detect 6).qlEval.srcBegin 8 0 0 false).logFree 0x01F1 c (s.injActs 6)
  else s)

/-- WDT_KICK (R395): any write restarts the watchdog. -/
def execWdtKick (m : Master) (c : Nat) (v : W32) (s : State) : Host.Outcome State Fault Refusal :=
  .next (s.guardW m (R .CORE_WDT_KICK c) v (State.coreWrite m (R .CORE_WDT_KICK c) fun s =>
    s.wrN (R .CORE_WDT_LEFT c) (s.wdtTime c)))

/-- A write of WDT_CFG: in DEPLOYED, EN = 0 is ignored. -/
def State.wdtCfgWrite (c : Nat) (v : W32) (s : State) : State :=
  let en := s.flag F.CORE_WDT_CFG_EN c
  let s := s.plainWrite (R .CORE_WDT_CFG c) v
  if s.fuse.lc == 2 && en then s.setFld F.CORE_WDT_CFG_EN 1 c else s

/-! ## Protection regions (R393, R394) -/

/-- ACCESS_FAULT (R393): core `c`, in machine mode or not, issues an access of a kind that its regions deny. -/
def execAccessFault (c addr kind : Nat) (machine : Bool) (s : State) : Host.Outcome State Fault Refusal :=
  .next (if s.mgmtOn && c < 4 && kind ≤ 2 && s.mpuDenies c addr kind machine then s.mpuFault c addr kind else s)

/-- A write of a region's register: discarded and logged where the region is locked. -/
def State.mpuWrite (c r : Nat) (cfg : Bool) (v : W32) (s : State) : State :=
  if s.flag F.CORE_MPU_CFG_LOCK c r then s.logFree 0x01F1 c false
  else s.plainWrite (if cfg then R .CORE_MPU_CFG c r else R .CORE_MPU_BASE c r) v

/-- MPU_WRITE (R394): of MPU_CFG[r] where `cfg`, else of MPU_BASE[r]. -/
def execMpuWrite (m : Master) (c r : Nat) (cfg : Bool) (v : W32) (s : State) : Host.Outcome State Fault Refusal :=
  let k := if cfg then R .CORE_MPU_CFG c r else R .CORE_MPU_BASE c r
  .next (s.guardW m k v (State.coreWrite m k (State.mpuWrite c r cfg v)))

/-! ## The Letterbox (R396 to R398) -/

/-- `m` may write the Letterbox (Table 17.1). DESIGN CHOICE, unsafe (log 51). -/
def lbMay : Master → Bool
  | .user _ => false
  | _ => true

/-- OWNER's code. -/
def lbOwner : Master → Nat
  | .spi => 0
  | .twi => 1
  | .core _ | .user _ => 2
  | .remote | .debug => 3

/-- A write of the Letterbox's registers: discarded with REJECT while a command runs. DESIGN CHOICE, unsafe (log 51). -/
def State.lbWrite (m : Master) (k : RegKey) (f : State → State) (s : State) : State :=
  if !lbMay m then s.notAllowed m k.addr
  else if s.flag F.LB_STATUS_BUSY then s.setFld F.LB_STATUS_REJECT 1 else f s

/-- A write of LB_CMD starts the command. -/
def State.lbCmdWrite (m : Master) (v : W32) (s : State) : State :=
  s.lbWrite m (R .LB_CMD) fun s =>
    { (s.setFld F.LB_STATUS_BUSY 1).setFld F.LB_STATUS_OWNER (lbOwner m) with lbCmd := F.LB_CMD_CMD.get v }

/-- INFO (R397). -/
def execLbInfo (m : Master) (v : W32) (s : State) : Host.Outcome State Fault Refusal :=
  .next (s.guardW m (R .LB_CMD) v (State.lbCmdWrite m v))

/-- FLASH_READ (R397). -/
def execFlashRead (m : Master) (v : W32) (s : State) : Host.Outcome State Fault Refusal :=
  .next (s.guardW m (R .LB_CMD) v (State.lbCmdWrite m v))

/-- FLASH_ERASE (R398). -/
def execFlashErase (m : Master) (v : W32) (s : State) : Host.Outcome State Fault Refusal :=
  .next (s.guardW m (R .LB_CMD) v (State.lbCmdWrite m v))

/-- FLASH_PROG (R398). -/
def execFlashProg (m : Master) (v : W32) (s : State) : Host.Outcome State Fault Refusal :=
  .next (s.guardW m (R .LB_CMD) v (State.lbCmdWrite m v))

/-- LOG_READ (R397). -/
def execLogRead (m : Master) (v : W32) (s : State) : Host.Outcome State Fault Refusal :=
  .next (s.guardW m (R .LB_CMD) v (State.lbCmdWrite m v))

/-- TEST_WINDOW (R398). -/
def execTestWindow (m : Master) (v : W32) (s : State) : Host.Outcome State Fault Refusal :=
  .next (s.guardW m (R .LB_CMD) v (State.lbCmdWrite m v))

/-- RETURN_AUTH (R398). -/
def execReturnAuth (m : Master) (v : W32) (s : State) : Host.Outcome State Fault Refusal :=
  .next (s.guardW m (R .LB_CMD) v (State.lbCmdWrite m v))

/-- An argument word. -/
def State.lbArg (s : State) (i : Nat) : Nat := s.rdN (R .LB_ARG i)

/-- The flash range of image copy `b` (0 A, 1 B): its offset from the option bytes, its length as read. -/
def State.copyAt (s : State) (b : Nat) : Nat × Nat :=
  (65536 * (s.optByte (5 + 2 * b) * 256 + s.optByte (6 + 2 * b)), s.boot.lens.get 0 b)

/-- Image copy `b` is the only valid one (R398). -/
def State.onlyCopy (s : State) (b : Nat) : Bool :=
  let code := fun (x : Nat) => s.fld (if x = 0 then F.DEV_BOOT_STATUS_CODE_A else F.DEV_BOOT_STATUS_CODE_B)
  code b == 1 && code (1 - b) != 1 && code (1 - b) != 2

/-- Flash bytes `a` to `a` + `n` − 1 overlap the only valid image copy. -/
def State.flashKeeps (s : State) (a n : Nat) : Bool :=
  (List.range 2).any fun b => s.onlyCopy b && decide (a < (s.copyAt b).1 + (s.copyAt b).2) &&
      decide ((s.copyAt b).1 < a + n)

/-- The code of a flash command on bytes `a` to `a` + `n` − 1, in range or not, that writes or not.
DESIGN CHOICE, unsafe (log 51). -/
def State.flashCode (s : State) (a n : Nat) (ok wr err : Bool) : Nat :=
  if !ok then 3 else if wr && s.flashKeeps a n then 4 else if s.fuse.devId ≠ 0 || err then 5 else 0

/-- The entry SEQ `n` is one the log holds. -/
def State.logHas (s : State) (n : Nat) : Bool :=
  let d := (s.logSeq + 2 ^ 32 - n) % 2 ^ 32
  1 ≤ d && decide (d ≤ 4096)

/-- The result code of the running command (Table 17.4), the lowest that applies. DESIGN CHOICE, unsafe (log 13). -/
def State.lbCode (s : State) (e : LbEnd) : Nat :=
  let a := s.lbArg 0
  let n := s.lbArg 1
  let halt := s.fld F.DEV_BOOT_STATUS_STAGE == 5
  match s.lbCmd with
  | 1 => 0
  | 2 => s.flashCode a n (1 ≤ n && decide (n ≤ 128)) false e.flashErr
  | 3 => s.flashCode a 65536 (a % 65536 == 0) true e.flashErr
  | 4 => s.flashCode a n (1 ≤ n && decide (n ≤ 120)) true e.flashErr
  | 5 => if s.logHas a then 0 else 3
  | 6 => if halt then 2 else if 3600 < a then 3 else if s.fuse.lc == 0 then 6 else 0
  | 7 =>
    if halt then 2 else if !(1 ≤ n && n ≤ 120) then 3 else if !(s.fuse.lc == 1 || s.fuse.lc == 2) then 6
    else if bitOf (s.rd (R .LB_ARG 0)) 31 && !e.authOk then 7 else 0
  | _ => 2

/-- WIN_STATUS as it reads. -/
def State.winStatus (s : State) : W32 :=
  BitVec.ofNat 32 (2 ^ 31 * bit (s.flag F.SAF_WIN_STATUS_OPEN) + 2 ^ 30 * bit (s.fuse.lc == 2) + s.winLeft)

/-- DEV.LC as it reads (Table 15.18). -/
def State.lcWord (s : State) : W32 :=
  BitVec.ofNat 32 (s.fuse.lc % 8 + 256 * bit s.fuse.keyHash.isSome + 512 * bit s.fuse.kek0.isSome)

/-- The response words of a command that has succeeded. DESIGN CHOICE, unsafe (log 50). -/
def State.lbResponse (s : State) (e : LbEnd) : List W32 :=
  match s.lbCmd with
  | 1 => [e.version, s.rd (R .DEV_BOOT_STATUS), s.lcWord]
  | 2 => e.data.take ((s.lbArg 1 + 3) / 4)
  | 5 => (List.range 16).map fun k => s.tackWord (0x010000 + 64 * (s.lbArg 0 % 4096) + 4 * k)
  | 6 => [s.winStatus]
  | _ => []

/-- What a command that has succeeded does beside its response. -/
def State.lbEffect (s : State) : State :=
  let a := s.lbArg 0
  match s.lbCmd with
  | 6 => if a = 0 then s.winShut else s.winOpen a
  | 7 =>
    let data := (List.range ((s.lbArg 1 + 3) / 4)).map fun k => s.rd (R .LB_ARG (2 + k))
    { s with auth := (if a % 2 ^ 31 = 0 then [] else s.auth) ++ data }
  | _ => s

/-- The running command completes with `c` and its response. -/
def State.lbFinish (c : Nat) (rsp : List W32) (s : State) : State :=
  let s := s.upto 32 fun k s => s.wr (R .LB_RSP k) (rsp.getD k 0)
  ((s.setFld F.LB_STATUS_BUSY 0).setFld F.LB_STATUS_DONE 1).setFld F.LB_STATUS_CODE c

/-- LB_DONE (R396 to R398): the firmware completes the command; the last chunk of an authorisation that verifies issues
the life-cycle command. DESIGN CHOICE, safe (log 62). -/
def execLbDone (e : LbEnd) (s : State) : Host.Outcome State Fault Refusal :=
  .next (if !(s.mgmtOn && s.flag F.LB_STATUS_BUSY) then s
  else
    let c := s.lbCode e
    let s := s.when (c == 0) State.lbEffect
    let rsp := if c = 0 then s.lbResponse e else []
    let last := c == 0 && s.lbCmd == 7 && bitOf (s.rd (R .LB_ARG 0)) 31
    let s := s.lbFinish c rsp
    if last then { s with lcAuth := true }.lcRequest 0x4C43 3 else s)

end Sys2Proof.Machine
end

