-- ==== Sys2Proof/Machine/Flags.lean ====
section
/-! DEFINITION. Flags computed from the state: the interrupt tree of Table 18.4 (R426 to R429), the fault status and
causes (R409, R410) and the pins they drive. -/

namespace Sys2Proof.Machine

/-! ## The interrupt tree (R426, R427) -/

/-- The event registers of each source of Table 18.4, each with its _EN register and, where its instances have detail
bits, the detail bit of instance 0. -/
def irqSources : List (List (RegId × RegId × Option Nat)) :=
  [[(.DEV_EVT, .DEV_EVT_EN, none)], [(.PMU_EVT, .PMU_EVT_EN, none)], [(.RST_EVT, .RST_EVT_EN, none)],
   [(.AON_EVT, .AON_EVT_EN, none)], [(.SAF_FAULT_EVT, .SAF_FAULT_EVT_EN, none), (.SAF_EVT, .SAF_EVT_EN, none)],
   [(.STB_EVT, .STB_EVT_EN, none), (.STB_REF_EVT, .STB_REF_EVT_EN, none)],
   [(.PMK_EVT, .PMK_EVT_EN, none), (.PMK_TT_EVT, .PMK_TT_EVT_EN, some 2)],
   [(.CAX_LINE_EVT, .CAX_LINE_EVT_EN, some 0), (.CAX_TX_EVT, .CAX_TX_EVT_EN, some 0),
    (.CAX_RX_EVT, .CAX_RX_EVT_EN, some 0)],
   [(.SCX_RX_EVT, .SCX_RX_EVT_EN, some 16), (.SCX_FEC_EVT, .SCX_FEC_EVT_EN, some 16)],
   [(.LFM_SC_EVT, .LFM_SC_EVT_EN, some 32), (.LFM_CA_EVT, .LFM_CA_EVT_EN, some 48),
    (.LFM_GRP_EVT, .LFM_GRP_EVT_EN, some 64)],
   [(.SOF_EVT, .SOF_EVT_EN, none)], [(.HAY_EVT, .HAY_EVT_EN, none)], [(.CIP_EVT, .CIP_EVT_EN, none)],
   [(.HLN_LANE_EVT, .HLN_LANE_EVT_EN, some 224)],
   [(.YLN_ID_EVT, .YLN_ID_EVT_EN, none), (.YLN_LINK_EVT, .YLN_LINK_EVT_EN, some 4)], [(.MON_EVT, .MON_EVT_EN, none)],
   [(.PCC_EVT, .PCC_EVT_EN, none)], [(.CAL_EVT, .CAL_EVT_EN, none)], [(.BST_EVT, .BST_EVT_EN, none)],
   [(.PMC_EVT, .PMC_EVT_EN, none)]]

/-- The instances of event register `ev` that raise their interrupt: a bit is 1 in it and in its _EN register, and its
domain is ON. -/
def State.raising (s : State) (ev en : RegId) : List Nat :=
  s.regs.filterMap fun e =>
    if e.1.id = ev && e.2 &&& s.rd ⟨en, e.1.i, e.1.j⟩ != 0 && s.domOn e.1.domain then some e.1.i else none

/-- Source `b` interrupts. Source 20 is LB_STATUS.DONE, which has no _EN register. -/
def State.irqSource (s : State) (b : Nat) : Bool :=
  if b = 20 then s.flag F.LB_STATUS_DONE && s.domOn 1
  else (irqSources.getD b []).any fun e => !(s.raising e.1 e.2.1).isEmpty

/-- DEV.IRQ_STATUS. -/
def State.irqStatus (s : State) : W32 :=
  BitVec.ofNat 32 ((List.range 21).map fun b => if s.irqSource b then 2 ^ b else 0).sum

/-- The detail bits that are 1. -/
def State.irqDetails (s : State) : List Nat :=
  irqSources.flatten.flatMap fun e =>
    match e.2.2 with
    | some base => (s.raising e.1 e.2.1).map (base + ·)
    | none => []

/-- DEV.IRQ_DETAIL[w]. -/
def State.irqDetail (s : State) (w : Nat) : W32 :=
  let l := s.irqDetails
  BitVec.ofNat 32 ((List.range 32).map fun b => if l.contains (32 * w + b) then 2 ^ b else 0).sum

/-- STB.REF_SUM. -/
def State.refSum (s : State) : W32 :=
  let l := s.raising .STB_REF_EVT .STB_REF_EVT_EN
  BitVec.ofNat 32 ((List.range 15).map fun b => if l.contains b then 2 ^ b else 0).sum

/-- Core `c`'s external interrupt (R429). -/
def State.coreIrq (s : State) (c : Nat) : W32 := s.irqStatus &&& s.rd (R .DEV_CORE_IRQ_EN c)

/-! ## Faults -/

/-- SAF.FAULT_STATUS (Table 17.6). -/
def State.faultStatus (s : State) : W32 :=
  BitVec.ofNat 32 ((List.range 10).map fun f => if s.faultLevel f then 2 ^ f else 0).sum

/-- The MGMT bit of CFG_APPLIED is 0. -/
def State.notConfigured (s : State) : Bool := !bitOf (s.rd (R .DEV_CFG_APPLIED)) 1

/-- A domain has EXHAUSTED set. -/
def State.wakeFault (s : State) : Bool := (List.range 14).any fun d => s.flag F.PMU_DOM_EXHAUSTED d

/-- SAF.FAULT_CAUSE (R410). -/
def State.faultCause (s : State) : W32 :=
  BitVec.ofNat 32 (bit s.notConfigured + 2 * bit (s.reacts F.SAF_REACT_FAULT) + 4 * bit s.wakeFault)

/-! ## Pins -/

/-- IRQ_N is pulled low (R428). DESIGN CHOICE, safe (log 61). -/
def State.irqLow (s : State) : Bool := s.irqStatus &&& s.rd (R .DEV_IRQ_EN) != 0

/-- FAULT_N is driven low (R410). DESIGN CHOICE, safe (log 61). -/
def State.faultLow (s : State) : Bool := s.notConfigured || s.reacts F.SAF_REACT_FAULT || s.wakeFault

/-- TXOFFn is low, so that the laser may be on (R66). DESIGN CHOICE, safe (log 61). -/
def State.laserOn (s : State) (c : Nat) : Bool :=
  s.domOn (4 + c) && !s.inReset (4 + c) 0 && s.fld F.CAX_TX_STATUS_TXSTATE c != 0

/-- The DAC lanes carry the line signal (R65). DESIGN CHOICE, safe (log 61). -/
def State.dacOn (s : State) (c : Nat) : Bool :=
  s.laserOn c && (s.fld F.CAX_TX_STATUS_TXSTATE c == 3 || s.fld F.CAX_TX_STATUS_TXSTATE c == 4)

/-- What a DAC output does (R63, R65). -/
inductive DacOut where
  | line
  | silent
  | highZ
  deriving DecidableEq, Repr

/-- The output of carrier `c`'s DAC lanes: high-impedance without their supply, else the line signal or common mode with
zero differential (R65). DESIGN CHOICE, safe (log 61). -/
def State.dacOut (s : State) (c : Nat) : DacOut :=
  if !s.pwr.pg.contains (1 + c) then .highZ else if s.dacOn c then .line else .silent

/-- PPS_OUT is high: a pulse that has started completes its width (R264, R265), unless the pad is held (R354).
DESIGN CHOICE, safe (log 61). -/
def State.ppsHigh (s : State) : Bool := s.stbOn && !s.flag F.PMU_PAD_HOLD_TMG && s.pmk.ppsEnd != 0

/-- The regulator enable of a rail is high (R355): 0 CORE, 1 and 2 CONV0 and CONV1, 3 HAY, 4 SER.
DESIGN CHOICE, safe (log 61). -/
def State.enHigh (s : State) (rail : Nat) : Bool := s.pwr.en.contains rail

end Sys2Proof.Machine
end

