-- ==== Sys2Proof/Machine/View.lean ====
section
/-! DEFINITION. What a read of a register shows: the register file's contents, but for the registers and fields that
the machine computes from the rest of its state. -/

namespace Sys2Proof.Machine

/-- A set of bits as a field's value. -/
def bitSet (n : Nat) (p : Nat → Bool) : Nat := ((List.range n).map fun k => if p k then 2 ^ k else 0).sum

/-- FP word 4 (Table 7.13). -/
def State.viewFp4 (s : State) (f : Nat) : W32 :=
  F.SOF_FP_W4_HELD.put (bit (s.egressHeld f (s.egressOf f))) (F.SOF_FP_W4_HAY.put (bit (s.flow f).inHay)
    (F.SOF_FP_W4_OCC.put ((s.occ f + 4095) / 4096) (s.rd (R .SOF_FP_W4 f))))

/-- POOL_STATUS. -/
def State.viewPool (s : State) : W32 :=
  F.SOF_POOL_STATUS_HAY_OCC.put (s.hayPool / 2 ^ 22) (F.SOF_POOL_STATUS_SHED_OCC.put (s.shedPool * 256 / 65536)
    (s.rd (R .SOF_POOL_STATUS)))

/-- GRP_TXHOLD: HELD and the frames queued for the group. -/
def State.viewHold (s : State) (g : Nat) : W32 :=
  let queued := s.flows.any fun e => e.2.q.any fun x => x.line && x.egress == s.gid g
  F.SOF_GRP_TXHOLD_HELD.put (bit (s.isHome g && s.grpHeld g)) (F.SOF_GRP_TXHOLD_BUSY.put (bit (s.isHome g && queued))
    (s.rd (R .SOF_GRP_TXHOLD g)))

/-- HAY_STATUS. -/
def State.viewHay (s : State) : W32 :=
  F.HAY_STATUS_ADMIT.put (bit s.spillOn) (F.HAY_STATUS_DSK_RES.put s.dskRes (F.HAY_STATUS_FREE.put
    ((s.flowPages - s.usedPages) / 1024) (s.rd (R .HAY_STATUS))))

/-- SLOT_VALID, from the keys its user finds usable, and SLOT_BUSY, from the messages that satisfy `p`.
DESIGN CHOICE, unsafe (log 23). -/
def State.viewSlots (s : State) (key : Nat → Option CipKey) (p : MsgKind → Bool) (w : W32) : W32 :=
  F.CIP_CTX_CFG_SLOT_VALID.put (bitSet 4 fun a => ((key a).filter fun k => !k.spent).isSome)
    (F.CIP_CTX_CFG_SLOT_BUSY.put (bitSet 4 fun a => (s.cip.msgs ++ s.cip.wait).any fun x => x.an == a && p x.kind) w)

/-- The message is a flow's, under key set `f`. -/
def MsgKind.ofFlow (f : Nat) : MsgKind → Bool
  | .protect x => x == f
  | .verify _ k => k == f
  | _ => false

/-- The message is the seal, or the opening, of group page `g`. -/
def MsgKind.ofGroup (g : Nat) : MsgKind → Bool
  | .seal x | .opening x => x == g
  | _ => false

/-- TX_PN of flow context `f`: the next PN of the active slot. -/
def State.viewTxPn (s : State) (f : Nat) : Nat :=
  match s.keySlot (4 * f + s.fld F.CIP_CTX_CFG_TX_AN f) with
  | some k => k.txPn % 2 ^ 64
  | none => 1

/-- REF_WTR: the seconds left. -/
def State.viewWtr (s : State) (i : Nat) : Nat :=
  if s.flag F.STB_REF_STATUS_WTR i then min (((s.cand i).wtrEnd - s.us + 999999) / 1000000) 65535 else 0

/-- The oldest entry of the Postcard FIFO. -/
def State.viewFifo (s : State) (k : RegKey) : W32 :=
  match s.pccFifo with
  | [] => 0
  | e :: _ =>
    match k.id with
    | .PCC_RX_HEAD => BitVec.ofNat 32 (2 ^ 31 + e.slot * 2 ^ 24 + e.header)
    | .PCC_RX_LEVEL => BitVec.ofNat 32 e.level
    | .PCC_RX_SEC => e.tag.1
    | .PCC_RX_NS => e.tag.2
    | _ => e.data.getD k.i 0

/-- The slice that SLICE_SEL names. -/
def State.sliceKey (s : State) (c : Nat) : Nat := 128 * s.fld F.CAL_SLICE_SEL_LANE c + s.fld F.CAL_SLICE_SEL_SLICE c

/-- SLICE_OFS, SLICE_GAIN and SLICE_TAP. -/
def State.viewSlice (s : State) (k : RegKey) : W32 :=
  let x := (s.calCar k.i).force.get SliceVal.init (s.sliceKey k.i)
  match k.id with
  | .CAL_SLICE_OFS => BitVec.ofNat 32 (unsigned 16 x.ofs)
  | .CAL_SLICE_GAIN => BitVec.ofNat 32 (unsigned 16 x.gain)
  | _ =>
    let t := (s.calCar k.i).target.get SliceVal.init (s.sliceKey k.i)
    F.CAL_SLICE_TAP_TARGET.put t.tap (F.CAL_SLICE_TAP_TAP.put x.tap 0)

/-- BST_STATUS. -/
def State.viewBst (s : State) : W32 :=
  F.BST_STATUS_FULL_RUN.put (bit s.bst.full.isSome) (F.BST_STATUS_RUNNING.put s.bst.running.length
    (F.BST_STATUS_QUEUED.put s.bst.queue.length (F.BST_STATUS_HEADROOM.put (s.headroom / 10) 0)))

/-- A word of the reset map's fuses: 3 bits a source from `lo`, `n` of them. -/
def State.viewMap (s : State) (lo n : Nat) : W32 :=
  BitVec.ofNat 32 ((List.range n).map fun k => s.fuse.rstMap.getD (lo + k) 7 % 8 * 8 ^ k).sum

/-- The time counter as master `m`'s last read of TIME_NS captured it (Table 11.7). -/
def State.viewTime (s : State) (m : Master) (k : RegKey) : W32 :=
  let t := s.pmk.cap.get 0 (masterCode m)
  match k.id with
  | .PMK_TIME_S_HI => BitVec.ofNat 32 (t / oneSec / 2 ^ 32)
  | .PMK_TIME_S_LO => BitVec.ofNat 32 (t / oneSec)
  | _ => BitVec.ofNat 32 (t % 65536)

/-- What register `k` shows master `m`. DESIGN CHOICE, safe (log 1). DESIGN CHOICE, unsafe (log 15). -/
def State.view (s : State) (m : Master) (k : RegKey) : W32 :=
  match k.id with
  | .DEV_VARIANT => BitVec.ofNat 32 ((if s.fuse.zq2000 then 0x2000 else 0x4000) + bit s.fuse.screen)
  | .DEV_LC => s.lcWord
  | .DEV_UID_LO => s.fuse.uid.setWidth 32
  | .DEV_UID_HI => (s.fuse.uid >>> 32).setWidth 32
  | .DEV_IRQ_STATUS => s.irqStatus
  | .DEV_IRQ_DETAIL => s.irqDetail k.i
  | .RST_MAP_LO => s.viewMap 0 10
  | .RST_MAP_HI => s.viewMap 10 6
  | .STB_STATUS => F.STB_STATUS_OUT_QL.put s.outQl (s.rd k)
  | .STB_REF_SUM => s.refSum
  | .STB_REF_WTR => BitVec.ofNat 32 (s.viewWtr k.i)
  | .SOF_FP_W4 => s.viewFp4 k.i
  | .SOF_POOL_STATUS => s.viewPool
  | .SOF_QUOTA_SUM => BitVec.ofNat 32 s.quotaSum
  | .SOF_GRP_TXHOLD => s.viewHold k.i
  | .HAY_STATUS => s.viewHay
  | .CIP_STATUS => F.CIP_STATUS_KEK0.put (bit s.kek0.isSome) (s.rd k)
  | .CIP_CTX_CFG => s.viewSlots (s.flowKey k.i) (MsgKind.ofFlow k.i) (s.rd k)
  | .CIP_GCX_CFG => s.viewSlots (s.grpKey k.i) (MsgKind.ofGroup k.i) (s.rd k)
  | .CIP_TX_PN_LO => BitVec.ofNat 32 (s.viewTxPn k.i)
  | .CIP_TX_PN_HI => BitVec.ofNat 32 (s.viewTxPn k.i / 2 ^ 32)
  | .YLN_ID_STATUS => F.YLN_ID_STATUS_IMG.put s.img (F.YLN_ID_STATUS_DEV_ID.put s.fuse.devId (s.rd k))
  | .PCC_RX_HEAD | .PCC_RX_LEVEL | .PCC_RX_SEC | .PCC_RX_NS | .PCC_RX_DATA => s.viewFifo k
  | .CAL_SLICE_OFS | .CAL_SLICE_GAIN | .CAL_SLICE_TAP => s.viewSlice k
  | .BST_STATUS => s.viewBst
  | .PMC_USER_LO => s.rd (R .PMC_CTR_LO k.i)
  | .PMC_USER_HI => s.rd (R .PMC_CTR_HI k.i)
  | .SAF_FAULT_STATUS => s.faultStatus
  | .SAF_FAULT_CAUSE => s.faultCause
  | .SAF_WIN_STATUS => s.winStatus
  | .PMK_TIME_NS => BitVec.ofNat 32 s.ns
  | .PMK_TIME_S_HI | .PMK_TIME_S_LO | .PMK_TIME_FRAC => s.viewTime m k
  | _ => s.rd k

end Sys2Proof.Machine
end

