-- ==== Sys2Proof/Machine/Effects.lean ====
section
/-! DEFINITION. What a write of each register does beside the plain rules of its bits (RW, W1C, W1S): one function over
the whole register file, so that a write reaches a register in the same way from every interface. -/

namespace Sys2Proof.Machine

/-! ## Registers of the device, the power manager and the cores -/

/-- An error record whose VALID is written 1: VALID and CNT clear. -/
def State.errClear (valid cnt : Fld) (i : Nat) (v : W32) (s : State) : State :=
  s.when (valid.get v == 1) fun s => (s.setFld valid 0 i).setFld cnt 0 i

/-- The instances of alias set `i` that exist (Table 18.2). -/
def State.setSize (s : State) (i : Nat) : Nat :=
  if s.fuse.zq2000 then [15, 1, 8, 8, 16, 16, 8, 2, 8, 16].getD i 0 else [15, 2, 16, 16, 16, 32, 8, 2, 8, 16].getD i 0

/-- A write of GROUP_MASK[i]: on a ZQ2000 the bits of instances that do not exist are ignored (R421). -/
def State.maskWrite (i : Nat) (v : W32) (s : State) : State :=
  s.plainWrite (R .DEV_GROUP_MASK i) (if s.fuse.zq2000 then v &&& BitVec.ofNat 32 (2 ^ s.setSize i - 1) else v)

/-- A write of CORE_IRQ_EN[c]: only machine mode of core `c` may (R429). -/
def State.coreIrqWrite (m : Master) (c : Nat) (v : W32) (s : State) : State :=
  if ownCore m c then s.plainWrite (R .DEV_CORE_IRQ_EN c) v else s.decodeErr m true 2 (R .DEV_CORE_IRQ_EN c).addr

/-- A write of CFG_APPLIED: the causes that follow it. -/
def State.appliedWrite (v : W32) (s : State) : State := (s.plainWrite (R .DEV_CFG_APPLIED) v).evalAll

/-- A write of WAKE_MASK[m]: MGMT stays in the mask of the two-wire match. -/
def State.wakeMaskWrite (i : Nat) (v : W32) (s : State) : State :=
  s.plainWrite (R .PMU_WAKE_MASK i) (if i = 0 then v ||| 2 else v)

/-- A write of LB_STATUS. -/
def State.lbStatusWrite (m : Master) (v : W32) (s : State) : State :=
  if lbMay m then s.plainWrite (R .LB_STATUS) v else s.notAllowed m (R .LB_STATUS).addr

/-- A write of a register of core page `k.i`. -/
def State.corePageWrite (m : Master) (k : RegKey) (v : W32) : State → State :=
  State.coreWrite m k fun s =>
    match k.id with
    | .CORE_MPU_BASE => s.mpuWrite k.i k.j false v
    | .CORE_MPU_CFG => s.mpuWrite k.i k.j true v
    | .CORE_MPU_FAULT_INFO => s.errClear F.CORE_MPU_FAULT_INFO_VALID F.CORE_MPU_FAULT_INFO_CNT k.i v
    | .CORE_WDT_CFG => s.wdtCfgWrite k.i v
    | .CORE_WDT_KICK => s.wrN (R .CORE_WDT_LEFT k.i) (s.wdtTime k.i)
    | _ => s.plainWrite k v

/-! ## Every register -/

/-- A write of a register of the lines, the yard, the monitor or the Postcards; any other register takes what it holds.
-/
def State.sideWrite (k : RegKey) (v : W32) (s : State) : State :=
  match k.id with
  | .HLN_LANE_CFG => s.laneCfgWrite k.i v
  | .HLN_TX_EQ => s.txEqWrite k.i v
  | .HLN_PRBS_CFG => s.prbsWrite k.i v
  | .HLN_LANE_CTRL => s.laneCtrlWrite k.i v
  | .YLN_YARD_CFG => s.yardCfgWrite v
  | .YLN_RMT_CMD => s.rmtCmdWrite v
  | .YL_PRBS_CFG => s.yardPrbsWrite k.i v
  | .YLN_LINK_CTRL => s.linkCtrlWrite k.i v
  | .YLN_FWD_TX => s.fwdWrite k.i true k.j v
  | .YLN_FWD_RX => s.fwdWrite k.i false k.j v
  | .MON_CFG | .MON_CTRL | .MON_TIMER | .MON_TRIG_CFG | .MON_COMPAT_CFG | .MON_PAIR_CFG | .MON_NOTCH_LEN | .MON_SHIFT | .MON_SEQ
  | .MON_CH_CFG | .MON_BIN_CFG | .MON_BIN_FREQ => s.monPccWrite k v
  | .PCC_CFG => s.pccCfgWrite v
  | .PCC_NODE_ID => s.nodeIdWrite v
  | .PCC_RX_POP => s.rxPopWrite v
  | .PCC_TX_CFG => s.txCfgWrite k.i v
  | .PCC_TX_CMD => s.txCmdWrite k.i v
  | .PCC_TX_DATA => s.modPccT k.i fun t => { t with stage := t.stage.set 0 k.j v }
  | .PCC_SLOT_CFG => s.slotCfgWrite k.i v
  | _ => s.plainWrite k v

/-- A write of a register of the data path: carriers, framers, Sorting Office, Hayloft, cipher. -/
def State.dataWrite (k : RegKey) (v : W32) (s : State) : State :=
  match k.id with
  | .CAX_RX_PROFILE => s.rxProfileWrite k.i v
  | .CAX_CHG_CTRL => s.chgCtrlWrite k.i v
  | .CAX_TX_CTRL => s.txCtrlWrite k.i v
  | .CAX_TX_SHAPE => (s.plainWrite k v).shapeShow k.i
  | .CAX_TX_PRE_APPLY => s.applyWrite k.i v
  | .CAX_TX_SKEW => s.skewWrite k.i k.j v
  | .CAX_RX_CTRL => s.rxCtrlWrite k.i v
  | .CAX_RX_SHAPE => s.rxShapeWrite k.i v
  | .SCX_FEC_CTRL => s.fecCtrlWrite k.i v
  | .LFM_SC_CFG => s.scCfgWrite k.i v
  | .LFM_MAP_CTRL => s.mapCtrlWrite k.i v
  | .LFM_SR_TX => (s.plainWrite k v).when ((s.plainWrite k v).rd k != s.rd k) (State.pccPend k.i 5)
  | .LFM_CA_CFG | .LFM_TTI_EXP => ((s.plainWrite k v).timEval k.i).lineEval k.i
  | .LFM_GRP_CFG => s.grpCfgWrite k.i v
  | .SOF_PORT_CFG => s.portCfgWrite k.i v
  | .SOF_PORT_CTRL => s.portCtrlWrite k.i v
  | .SOF_PFC_CFG => (s.plainWrite k v).pausePort k.i
  | .SOF_GRP_TXHOLD => (s.plainWrite k v).holds
  | .SOF_PH_CMD => s.phCmdWrite v
  | .SOF_PH_W0 => s.phWrite k.i 0 v
  | .SOF_PH_W1 => s.phWrite k.i 1 v
  | .SOF_PH_W2 => s.phWrite k.i 2 v
  | .SOF_PH_W3 => s.phWrite k.i 3 v
  | .SOF_PH_W4 => s.phWrite k.i 4 v
  | .SOF_PH_W5 => s.phWrite k.i 5 v
  | .SOF_PH_W6 => s.w6Write k.i v
  | .SOF_FP_W3 => s.fpQuotaWrite k.i v
  | .HAY_CFG => ((s.hayCfgWrite v).each (s.insts .SOF_PH_W6) State.xoffFlow).pauseAll
  | .HAY_RET_CMD => s.retCmdWrite v
  | .HAY_CAP_CFG => s.capCfgWrite v
  | .CIP_KEY_CMD => s.keyCmdWrite v
  | .CIP_KEY_DATA => s.modCip fun c => { c with data := c.data.set 0 k.i v }
  | .CIP_KEY_SALT => s.modCip fun c => { c with salt := c.salt.set 0 k.i v }
  | _ => s.sideWrite k v

/-- A write of `v` by `m` to register `k` that the fabric has let through. -/
def State.regWrite (m : Master) (k : RegKey) (v : W32) (s : State) : State :=
  match k.id with
  | .DEV_LC_CMD => s.lcWrite v
  | .DEV_CFG_APPLIED => s.appliedWrite v
  | .DEV_DECODE_ERR => s.errClear F.DEV_DECODE_ERR_VALID F.DEV_DECODE_ERR_CNT 0 v
  | .DEV_CORE_IRQ_EN => s.coreIrqWrite m k.i v
  | .DEV_GROUP_MASK => s.maskWrite k.i v
  | .PMU_CFG => (s.plainWrite k v).railsEval
  | .PMU_PAD_HOLD => s.padWrite v
  | .PMU_ACCESS_ERR => s.errClear F.PMU_ACCESS_ERR_VALID F.PMU_ACCESS_ERR_CNT 0 v
  | .PMU_WAKE_MASK => s.wakeMaskWrite k.i v
  | .PMU_DOM => s.domWrite k.i v
  | .RST_SW_CMD => s.swWrite v
  | .RST_HOST_RST => s.hostRstWrite m v
  | .STB_CFG => s.stbCfgWrite v
  | .STB_FW_BEAT => (s.plainWrite k v).fwBeat
  | .STB_STEER_SRV_LO | .STB_STEER_MAN_LO | .STB_CLK_ID_LO | .PMC_CTR_LO => State.holdLo m k v s
  | .STB_STEER_SRV_HI => (State.commitPair m (R .STB_STEER_SRV_LO) k v s).clampEval
  | .STB_STEER_MAN_HI => (State.commitPair m (R .STB_STEER_MAN_LO) k v s).clampEval
  | .STB_CLK_ID_HI => State.commitPair m (R .STB_CLK_ID_LO) k v s
  | .STB_STEER_CFG => (s.plainWrite k v).clampEval
  | .STB_MODEL_STATUS => s.modelWrite v
  | .STB_REF_CFG => s.refCfgWrite k.i v
  | .STB_REF_LOS => s.refLosWrite k.i v
  | .STB_REF_FW => s.refFwWrite k.i v
  | .CAL_CMD => s.calCmdWrite v
  | .BST_CMD => s.bstCmdWrite v
  | .PMC_CFG => s.pmcCfgWrite v
  | .PMC_DUMP_CFG => s.dumpCfgWrite v
  | .PMC_CTR_HI => State.commitPair m (R .PMC_CTR_LO k.i) k v s
  | .SAF_FAULT_EVT | .SAF_REACT => ((s.plainWrite k v).ppsEval).qlEval
  | .SAF_WIN_CTRL => s.winCtrlWrite m v
  | .SAF_INJ_CFG => s.injWrite m k.i v
  | .LB_CMD => s.lbCmdWrite m v
  | .LB_STATUS => s.lbStatusWrite m v
  | .LB_ARG => State.lbWrite m k (fun s => s.plainWrite k v) s
  | .LB_RSP => if lbMay m then s.plainWrite k v else s.notAllowed m k.addr
  | .CORE_MPU_BASE | .CORE_MPU_CFG | .CORE_MPU_FAULT | .CORE_MPU_FAULT_INFO | .CORE_WDT_CFG | .CORE_WDT_KICK
  | .CORE_WDT_LEFT => State.corePageWrite m k v s
  | .PMK_CTRL => s.pmkCtrlWrite v
  | .PMK_ADJ => s.adjWrite v
  | .PMK_PPS_CFG => (s.plainWrite k v).ppsEval
  | _ => s.dataWrite k v

end Sys2Proof.Machine
end

