-- ==== Sys2Proof/Machine/Fabric.lean ====
section
/-! DEFINITION. The fabric (spec/18): decoding an access, the memories of Table 17.1, registers read with their side
effects, the alias pages (R421 to R423), the accesses that wait (R420), and the SPI and two-wire targets (R424, R425).
-/

namespace Sys2Proof.Machine

/-! ## Decoding (R417, R418, R421) -/

/-- What an address names. `set` is a page of alias set `i`: the register of its instance 0, and whether every instance
is meant. -/
inductive Target where
  | reg (k : RegKey)
  | set (i : Nat) (k : RegKey) (all : Bool)
  | tack (off : Nat)
  | apt (off : Nat)
  | rom
  | ram (core : Option Nat)
  | unused
  deriving DecidableEq, Repr

/-- The alias sets of Table 18.2: the region's base and the page kind of the instances. -/
def setPages : List (Nat × Page) :=
  [(0x00100000, .STBR), (0x00200000, .CAX), (0x00300000, .SCX), (0x00400000, .LFMS), (0x00500000, .SOFP),
   (0x00800000, .HLN), (0x00900000, .YLL), (0x00A00000, .MONP), (0x00B00000, .PCCS), (0x02000000, .PMKP)]

/-- The alias set that a word address names, if it lies in page 0xFE or 0xFF of a listed region and its offset is a
register of the instances' field map. DESIGN CHOICE, unsafe (log 53). -/
def setAt (a : Nat) : Option (Nat × RegKey × Bool) :=
  setPages.zipIdx.findSome? fun e =>
    if e.1.1 + 0xFE000 ≤ a && a < e.1.1 + 0x100000 then
      ((e.1.2.at (e.1.2.info.base + a % 4096)).filter RegKey.valid).map fun k => (e.2, k, e.1.1 + 0xFF000 ≤ a)
    else none

/-- What the byte address `a` names. -/
def target (a : Nat) : Target :=
  if 0x00C80000 ≤ a && a < 0x00D00000 then .tack (a - 0x00C80000)
  else if 0x80000000 ≤ a && a < 0x90000000 then .apt (a - 0x80000000)
  else if 0x01000000 ≤ a && a < 0x01010000 then .rom
  else if 0x01100000 ≤ a && a < 0x01300000 then .ram none
  else if 0x01400000 ≤ a && a < 0x01800000 && a % 0x100000 < 0x40000 then .ram (some ((a - 0x01400000) / 0x100000))
  else match setAt (a / 4 * 4) with
    | some e => .set e.1 e.2.1 e.2.2
    | none => match regAt (a / 4 * 4) with
      | some k => .reg k
      | none => .unused

/-- The DECODE_ERR kind with which an access of `n` bytes at `a` is refused (R418, R419): an unused address; a width or
an alignment that the place does not take. DESIGN CHOICE, unsafe (log 54). -/
def decodeKind (a n : Nat) (write : Bool) : Option Nat :=
  match target a with
  | .unused => some 0
  | .reg _ | .set _ _ _ | .tack _ => if a % n ≠ 0 || (write && n != 4) then some 1 else none
  | .apt _ => if n ≠ 4 || a % 4 ≠ 0 then some 1 else none
  | .rom | .ram _ => if a % n ≠ 0 then some 1 else none

/-! ## Registers read (R10, R419, R420) -/

/-- The words above a LO word that a read of it captures. DESIGN CHOICE, unsafe (log 52). -/
def upper : RegId → List RegId
  | .SCX_FEC_SEC_BITS_LO => [.SCX_FEC_SEC_BITS_HI]
  | .SCX_FEC_SEC_CORR_LO => [.SCX_FEC_SEC_CORR_HI]
  | .SCX_FEC_TOT_CW_LO => [.SCX_FEC_TOT_CW_HI]
  | .SCX_FEC_TOT_CORR_LO => [.SCX_FEC_TOT_CORR_HI]
  | .SCX_FEC_TOT_UNC_LO => [.SCX_FEC_TOT_UNC_HI]
  | .LFM_PM_NE_CORR_LO => [.LFM_PM_NE_CORR_HI]
  | .LFM_PM_FE_CORR_LO => [.LFM_PM_FE_CORR_HI]
  | .SOF_RX_OK_LO => [.SOF_RX_OK_HI]
  | .SOF_RX_FCS_LO => [.SOF_RX_FCS_HI]
  | .SOF_RX_RUNT_LO => [.SOF_RX_RUNT_HI]
  | .SOF_RX_OVERSIZE_LO => [.SOF_RX_OVERSIZE_HI]
  | .SOF_RX_UNCLASS_LO => [.SOF_RX_UNCLASS_HI]
  | .SOF_RX_PAUSE_LO => [.SOF_RX_PAUSE_HI]
  | .SOF_TX_OK_LO => [.SOF_TX_OK_HI]
  | .SOF_TX_PAUSE_LO => [.SOF_TX_PAUSE_HI]
  | .SOF_ACC_FRM_LO => [.SOF_ACC_FRM_HI]
  | .SOF_ACC_BYTE_LO => [.SOF_ACC_BYTE_MID, .SOF_ACC_BYTE_HI]
  | .SOF_OUT_FRM_LO => [.SOF_OUT_FRM_HI]
  | .SOF_OUT_BYTE_LO => [.SOF_OUT_BYTE_MID, .SOF_OUT_BYTE_HI]
  | .SOF_POL_DROP_LO => [.SOF_POL_DROP_HI]
  | .SOF_QUE_DROP_LO => [.SOF_QUE_DROP_HI]
  | .SOF_ERR_DROP_LO => [.SOF_ERR_DROP_HI]
  | .SOF_KEY_DROP_LO => [.SOF_KEY_DROP_HI]
  | .SOF_PATH_DROP_LO => [.SOF_PATH_DROP_HI]
  | .SOF_POISON_DROP_LO => [.SOF_POISON_DROP_HI]
  | .SOF_XOFF_CNT_LO => [.SOF_XOFF_CNT_HI]
  | .HAY_CE_TOT_LO => [.HAY_CE_TOT_HI]
  | .CIP_TX_PN_LO => [.CIP_TX_PN_HI]
  | .CIP_ENC_FRM_LO => [.CIP_ENC_FRM_HI]
  | .CIP_AUTH_FAIL_LO => [.CIP_AUTH_FAIL_HI]
  | .CIP_REPLAY_DROP_LO => [.CIP_REPLAY_DROP_HI]
  | .CIP_NO_SA_DROP_LO => [.CIP_NO_SA_DROP_HI]
  | .CIP_SEAL_OK_LO => [.CIP_SEAL_OK_HI]
  | .CIP_SEAL_FAIL_LO => [.CIP_SEAL_FAIL_HI]
  | .STB_STEER_LO => [.STB_STEER_HI]
  | .STB_STEER_SRV_LO => [.STB_STEER_SRV_HI]
  | .STB_STEER_MAN_LO => [.STB_STEER_MAN_HI]
  | .STB_CLK_ID_LO => [.STB_CLK_ID_HI]
  | .PMK_TT_OFS_LO => [.PMK_TT_OFS_HI]
  | .HLN_PRBS_BITS_LO => [.HLN_PRBS_BITS_HI]
  | .HLN_PRBS_ERR_LO => [.HLN_PRBS_ERR_HI]
  | .HLN_FEC_SYM_ERR_LO => [.HLN_FEC_SYM_ERR_HI]
  | .YLN_FILL_DEL_LO => [.YLN_FILL_DEL_HI]
  | .YLN_FILL_INS_LO => [.YLN_FILL_INS_HI]
  | .YL_PRBS_BITS_LO => [.YL_PRBS_BITS_HI]
  | .YL_PRBS_ERR_LO => [.YL_PRBS_ERR_HI]
  | .PMC_CTR_LO => [.PMC_CTR_HI]
  | .PMC_SNAP_LO => [.PMC_SNAP_HI]
  | .PMC_USER_LO => [.PMC_USER_HI]
  | _ => []

/-- The word master `m` reads from register `k`: a HI word it has captured, or what the register shows.
DESIGN CHOICE, unsafe (log 52). -/
def State.readWord (s : State) (m : Master) (k : RegKey) : W32 :=
  match (s.fab.cap.get [] (masterCode m)).find? fun e => e.1 == k with
  | some e => e.2
  | none => s.view m k &&& k.mask

/-- The side effects of a read: an RC field clears, a LO word captures the words above it, TIME_NS captures the counter.
 DESIGN CHOICE, unsafe (log 52). -/
def State.readEffect (m : Master) (k : RegKey) (s : State) : State :=
  let up := (upper k.id).map fun h => (⟨h, k.i, k.j⟩ : RegKey)
  let s := s.when (!up.isEmpty) fun s =>
    s.modFab fun f => { f with cap := f.cap.set [] (masterCode m) (up.map fun h => (h, s.view m h &&& h.mask)) }
  let s := s.when (k.id == .PMK_TIME_NS) fun s => s.modPmk fun p =>
      { p with cap := p.cap.set 0 (masterCode m) s.pmkTime }
  s.when (k.id.info.rc != 0) fun s => s.wr k (s.rd k &&& ~~~k.id.info.rc)

/-- A read of register `k` by `m` (R418, R353). -/
def State.readReg (m : Master) (k : RegKey) (s : State) : State :=
  if s.regOn k then (s.readEffect m k).answer m (s.readWord m k)
  else (s.accessErr m false (s.inReset k.domain (k.addr / 4096)) (s.errDom k.domain) k.addr).answer m badWord

/-! ## Memories (Table 17.1) -/

/-- `m` may write the memory: the shared SRAM, or the local memory of a core. DESIGN CHOICE, unsafe (log 54). -/
def State.ramMay (s : State) (m : Master) (core : Option Nat) : Bool :=
  match core, m with
  | none, _ => true
  | some c, .core n | some c, .user n => n % 4 == c
  | some _, _ => s.fuse.lc == 1 || s.fuse.lc == 3

/-- The `n` bytes at `a`, as one number. -/
def State.ramWord (s : State) (a n : Nat) : W32 :=
  BitVec.ofNat 32 ((List.range n).map fun k => (s.ram.get 0 (a + k)).toNat * 256 ^ k).sum

/-- The `n` low bytes of a word written at `a`. -/
def State.ramPut (a n : Nat) (v : W32) (s : State) : State := { s with ram := putBytes s.ram a ((wordBytes v).take n) }

/-- A memory of the control complex is reached while MGMT is ON (R418); else the access is logged (R353). -/
def State.ramGuard (m : Master) (write : Bool) (a : Nat) (f : State → State) (s : State) : State :=
  if s.blockOn 1 (a / 4096) then f s
  else
    let s := s.accessErr m write (s.inReset 1 (a / 4096)) 1 a
    if write then s else s.answer m badWord

/-! ## The alias pages (R422, R423) -/

/-- The selected instances of set `i` that exist, ascending. -/
def State.selected (s : State) (i : Nat) (all : Bool) : List Nat :=
  (List.range (s.setSize i)).filter fun n => all || bitOf (s.rd (R .DEV_GROUP_MASK i)) n

/-- An alias write: each instance in turn, under its own rules; behind an instance that waits, the rest waits.
DESIGN CHOICE, unsafe (log 53). -/
def State.setWrite (m : Master) (i : Nat) (k : RegKey) (all : Bool) (a : Nat) (v : W32) (s : State) : State :=
  let l := s.selected i all
  if l.isEmpty then s.accessErr m true false (s.errDom k.domain) a
  else s.each l fun n s =>
    let k : RegKey := ⟨k.id, n, k.j⟩
    if s.holdsBack m then s.park m k.addr 4 (some v) else State.putReg m k v (State.regWrite m k v) s

/-- An alias read: the lowest selected instance. DESIGN CHOICE, unsafe (log 53). -/
def State.setRead (m : Master) (i : Nat) (k : RegKey) (all : Bool) (a : Nat) (s : State) : State :=
  match s.selected i all with
  | [] => (s.accessErr m false false (s.errDom k.domain) a).answer m badWord
  | n :: _ => s.readReg m ⟨k.id, n, k.j⟩

/-! ## An access in the fabric -/

/-- The read's answer cut to the addressed bytes. -/
def State.narrow (m : Master) (a n : Nat) (s : State) : State :=
  if n = 4 then s
  else s.answer m (BitVec.ofNat 32 ((s.fab.rdata.get 0 (masterCode m)).toNat / 256 ^ (a % 4) % 256 ^ n))

/-- A write of `v`. -/
def State.performWrite (m : Master) (a n : Nat) (v : W32) (s : State) : State :=
  match target a with
  | .reg k => State.putReg m k v (State.regWrite m k v) s
  | .set i k all => s.setWrite m i k all a v
  | .tack off => State.trGuard m true off (fun s => s.tackWrite m (s.trAddr off) v) s
  | .apt off => State.aptGuard m true off (fun s => s.apertureWrite (s.aptPhys off / 4 * 4) v) s
  | .rom => State.ramGuard m true a (State.notAllowed m a) s
  | .ram c => State.ramGuard m true a (fun s => if s.ramMay m c then s.ramPut a n v else s.notAllowed m a) s
  | .unused => s

/-- A read. The boot ROM's contents are not the spec's: free. DESIGN CHOICE, unsafe (log 54). -/
def State.performRead (m : Master) (a n : Nat) (s : State) : State :=
  match target a with
  | .reg k => (s.readReg m k).narrow m a n
  | .set i k all => (s.setRead m i k all a).narrow m a n
  | .tack off => (State.trGuard m false off (fun s => s.tackRead m (s.trAddr off) .clean) s).narrow m a n
  | .apt off => State.aptGuard m false off (fun s => s.apertureRead m (s.aptPhys off / 4 * 4) .clean) s
  | .rom => State.ramGuard m false a (fun s =>
      s.useFree.answer m (Config.freeWord s.free &&& BitVec.ofNat 32 (256 ^ n - 1))) s
  | .ram _ => State.ramGuard m false a (fun s => s.answer m (s.ramWord a n)) s
  | .unused => s

/-- An access of `n` bytes at `a`, a write of `w` or a read. -/
def State.perform (m : Master) (a n : Nat) (w : Option W32) (s : State) : State :=
  match decodeKind a n w.isSome, w with
  | some kind, some _ => s.decodeErr m true kind a
  | some kind, none => (s.decodeErr m false kind a).answer m 0
  | none, some v => s.performWrite m a n v
  | none, none => s.performRead m a n

/-- The management interfaces and remote access carry whole words (R419). -/
def wordOnly : Master → Bool
  | .spi | .twi | .remote => true
  | _ => false

/-- `m` is a control core. -/
def isCore : Master → Bool
  | .core _ | .user _ => true
  | _ => false

/-- A width in bytes: 1, 2 or 4. -/
def width (n : Nat) : Nat := if n = 1 || n = 2 then n else 4

/-- An access by `m` (R419): an interface of whole words ignores address bits 1 and 0, and a core's misaligned access
never reaches the fabric. -/
def State.access (m : Master) (addr size : Nat) (w : Option W32) (s : State) : State :=
  let n := if wordOnly m then 4 else width size
  let a := if wordOnly m then addr % 2 ^ 32 / 4 * 4 else addr % 2 ^ 32
  if isCore m && a % n != 0 then s else s.issue m a w (State.perform m a n w) n

/-! ## Accesses that wait (R420) -/

/-- The bytes of a word, most significant first. -/
def msbBytes (w : W32) : List Byte := (wordBytes w).reverse

/-- The word that an interface has read goes out on its pins: the SPI target's after the 0xA5 marker. -/
def State.handOver (m : Master) (s : State) : State :=
  let w := s.fab.rdata.get 0 (masterCode m)
  match m with
  | .spi => s.modFab fun f => { f with spiOut := f.spiOut ++ 0xA5 :: msbBytes w }
  | .twi => s.modFab fun f => { f with twiOut := f.twiOut ++ [w] }
  | _ => s

/-- A word read by an interface, now or once what it waits for is done. DESIGN CHOICE, unsafe (log 55). -/
def State.readOut (m : Master) (a : Nat) (s : State) : State :=
  if s.holdsBack m then s.park m a 4 none else (s.perform m a 4 none).handOver m

/-- A waiting access tried again. -/
def State.serveOne (e : WaitAcc) (s : State) : State :=
  if s.holdsBack e.m then s.park e.m e.addr e.size e.w
  else
    let s := s.perform e.m e.addr e.size e.w
    if e.w.isNone then s.handOver e.m else s

/-- The waiting accesses tried again, in their order. DESIGN CHOICE, unsafe (log 55). -/
def State.serve (s : State) : State :=
  if s.fab.waits.isEmpty then s else (s.modFab fun f => { f with waits := [] }).each s.fab.waits State.serveOne

/-- TX_PRE_COPY_DONE (R60): the copy completes, and the writes that waited for it go on. -/
def execTxPreCopyDone (c : Nat) (s : State) : Host.Outcome State Fault Refusal :=
  .next (if s.carOn c && s.flag F.CAX_TX_PRE_APPLY_PENDING c then (s.preCopy c).serve else s)

/-- RMT_DONE (R342): the access ends, and a write of RMT_CMD that waited goes on. -/
def execRmtDone (ans : Option W32) (s : State) : Host.Outcome State Fault Refusal := .next (s.rmtDone ans).serve

/-! ## Commands over any address -/

/-- REGISTER_WRITE (R420): a word written to any address. -/
def execRegisterWrite (m : Master) (addr : Nat) (v : W32) (s : State) : Host.Outcome State Fault Refusal :=
  .next (s.access m addr 4 (some v))

/-- RC_READ (R419): a read of 1, 2 or 4 bytes at any address, with every side effect of a read of that word. -/
def execRcRead (m : Master) (addr size : Nat) (s : State) : Host.Outcome State Fault Refusal :=
  .next (s.access m addr size none)

/-- The address is a register of an alias page. -/
def isSet (addr : Nat) : Bool :=
  match target (addr % 2 ^ 32) with
  | .set _ _ _ => true
  | _ => false

/-- ALIAS_WRITE (R422). -/
def execAliasWrite (m : Master) (addr : Nat) (v : W32) (s : State) : Host.Outcome State Fault Refusal :=
  .next (if isSet addr then s.access m addr 4 (some v) else s)

/-- ALIAS_READ (R423). -/
def execAliasRead (m : Master) (addr : Nat) (s : State) : Host.Outcome State Fault Refusal :=
  .next (if isSet addr then s.access m addr 4 none else s)

/-- DECODE_ERR (R418, R419): an access of `size` bytes that the decode refuses. -/
def execDecodeErr (m : Master) (write : Bool) (addr size : Nat) (s : State) : Host.Outcome State Fault Refusal :=
  let n := if wordOnly m then 4 else width size
  let a := if wordOnly m then addr % 2 ^ 32 / 4 * 4 else addr % 2 ^ 32
  .next (if (decodeKind a n write).isSome then s.access m addr size (if write then some 0 else none) else s)

/-- The block at a word address cannot answer (R353). -/
def State.deaf (s : State) (a : Nat) : Bool :=
  match target a with
  | .reg k => !s.regOn k
  | .tack _ | .rom | .ram _ => !s.blockOn 1 (a / 4096)
  | .apt off => !s.blockOn 8 0x80000 || decide (s.hayBytes ≤ s.aptPhys off)
  | _ => false

/-- ACCESS_ERR (R353): an access of a word reaches a block that is not ON or is held in reset. -/
def execAccessErr (m : Master) (write : Bool) (addr : Nat) (s : State) : Host.Outcome State Fault Refusal :=
  .next (if s.deaf (addr % 2 ^ 32 / 4 * 4) then
    s.access m (addr / 4 * 4) 4 (if write then some 0 else none) else s)

/-! ## The SPI target (R424) -/

/-- SPI_WRITE: word `i` is written to address + 4 · i. -/
def execSpiWrite (addr : Nat) (ws : List W32) (s : State) : Host.Outcome State Fault Refusal :=
  .next (s.each ws.zipIdx fun e s => s.access .spi (addr + 4 * e.2) 4 (some e.1))

/-- SPI_READ: `n` words, each sent after fill bytes and 0xA5. DESIGN CHOICE, unsafe (log 55). -/
def execSpiRead (addr n : Nat) (s : State) : Host.Outcome State Fault Refusal :=
  .next ((s.modFab fun f => { f with spiOut := [] }).each (List.range n) fun i s =>
    s.readOut .spi ((addr + 4 * i) % 2 ^ 32 / 4 * 4))

/-- SPI_STATUS: WRITE_PEND and ERR; the read clears ERR. -/
def execSpiStatus (s : State) : Host.Outcome State Fault Refusal :=
  let pend := s.fab.waits.any fun e => e.m == .spi && e.w.isSome
  .next (s.modFab fun f => { f with spiOut := [BitVec.ofNat 8 (bit pend + 2 * bit f.spiErr)], spiErr := false })

/-! ## The two-wire target (R425) -/

/-- A transaction is served: MGMT is ON, or TWI_WAKE is 0, or its SCL has been released to be served from AON. -/
def State.twiServed (s : State) : Bool :=
  s.fab.stretched.isNone && (s.domOn 1 || !s.flag F.AON_CFG_TWI_WAKE || s.flag F.AON_CFG_STRETCH)

/-- The words of a list of bytes, most significant byte first; an incomplete one is discarded. -/
def msbWords : List Byte → List W32
  | a :: b :: c :: d :: l => (a ++ b ++ c ++ d : BitVec 32) :: msbWords l
  | _ => []

/-- TWI_WRITE: four address bytes, then words. -/
def execTwiWrite (bytes : List Byte) (s : State) : Host.Outcome State Fault Refusal :=
  .next (match msbWords bytes with
  | [] => s
  | a :: ws =>
    if !s.twiServed then s
    else
      let s := s.each ws.zipIdx fun e s => s.access .twi (a.toNat + 4 * e.2) 4 (some e.1)
      s.modFab fun f => { f with twiPtr := (a.toNat + 4 * ws.length) % 2 ^ 32 })

/-- TWI_READ: `n` words from the address written before them, or from the pointer. DESIGN CHOICE, unsafe (log 55). -/
def execTwiRead (addr : List Byte) (n : Nat) (s : State) : Host.Outcome State Fault Refusal :=
  .next (if !s.twiServed then s
  else
    let a := match msbWords addr with
      | w :: _ => w.toNat
      | [] => s.fab.twiPtr
    let s := (s.modFab fun f => { f with twiOut := [] }).each (List.range n) fun i s =>
      s.readOut .twi ((a + 4 * i) % 2 ^ 32 / 4 * 4)
    s.modFab fun f => { f with twiPtr := (a + 4 * n) % 2 ^ 32 })

end Sys2Proof.Machine
end

