-- ==== Sys2Proof/Machine/Dispatch.lean ====
section
/-! DEFINITION. exec: each command's meaning, one arm per row of the table. -/

namespace Sys2Proof.Machine

def exec (i : Instr) (s : State) : Host.Outcome State Fault Refusal :=
  match i with
  | .go m c v => Sys2Proof.Machine.execGo m c v s
  | .cancel m c v => Sys2Proof.Machine.execCancel m c v s
  | .rxProfileWrite m c v => Sys2Proof.Machine.execRxProfileWrite m c v s
  | .announce c => Sys2Proof.Machine.execAnnounce c s
  | .multiframeTx c => Sys2Proof.Machine.execMultiframeTx c s
  | .switch c => Sys2Proof.Machine.execSwitch c s
  | .chgDone c => Sys2Proof.Machine.execChgDone c s
  | .holdTimeout c => Sys2Proof.Machine.execHoldTimeout c s
  | .multiframeRx c marks => Sys2Proof.Machine.execMultiframeRx c marks s
  | .rxFollowed c => Sys2Proof.Machine.execRxFollowed c s
  | .descAdopted c => Sys2Proof.Machine.execDescAdopted c s
  | .expCdRange c cd => Sys2Proof.Machine.execExpCdRange c cd s
  | .expCdReturn c cd => Sys2Proof.Machine.execExpCdReturn c cd s
  | .expStepMove c cd => Sys2Proof.Machine.execExpStepMove c cd s
  | .laserOn m c v => Sys2Proof.Machine.execLaserOn m c v s
  | .mute m c v => Sys2Proof.Machine.execMute m c v s
  | .settleElapsed c => Sys2Proof.Machine.execSettleElapsed c s
  | .serviceEntered c => Sys2Proof.Machine.execServiceEntered c s
  | .clkFault c => Sys2Proof.Machine.execClkFault c s
  | .txClkLock c => Sys2Proof.Machine.execTxClkLock c s
  | .segErr c => Sys2Proof.Machine.execSegErr c s
  | .txPreApply m c v => Sys2Proof.Machine.execTxPreApply m c v s
  | .txPreCopyDone c => Sys2Proof.Machine.execTxPreCopyDone c s
  | .clip c lane => Sys2Proof.Machine.execClip c lane s
  | .txSkewWrite m c lane v => Sys2Proof.Machine.execTxSkewWrite m c lane v s
  | .skewRamp c lane => Sys2Proof.Machine.execSkewRamp c lane s
  | .rxEn m c v => Sys2Proof.Machine.execRxEn m c v s
  | .acqRestart m c v => Sys2Proof.Machine.execAcqRestart m c v s
  | .acqStep c e => Sys2Proof.Machine.execAcqStep c e s
  | .acqTimeout c => Sys2Proof.Machine.execAcqTimeout c s
  | .relockFail c => Sys2Proof.Machine.execRelockFail c s
  | .los c rms => Sys2Proof.Machine.execLos c rms s
  | .losClear c rms => Sys2Proof.Machine.execLosClear c rms s
  | .adcClkFault c => Sys2Proof.Machine.execAdcClkFault c s
  | .clkLol c => Sys2Proof.Machine.execClkLol c s
  | .scLost sc => Sys2Proof.Machine.execScLost sc s
  | .reconvTimeout sc => Sys2Proof.Machine.execReconvTimeout sc s
  | .scLocked sc => Sys2Proof.Machine.execScLocked sc s
  | .degSet sc => Sys2Proof.Machine.execDegSet sc s
  | .degClear sc => Sys2Proof.Machine.execDegClear sc s
  | .sopTransient sc rate => Sys2Proof.Machine.execSopTransient sc rate s
  | .slip sc => Sys2Proof.Machine.execSlip sc s
  | .fofsRange x => Sys2Proof.Machine.execFofsRange x s
  | .boostMismatch c meas => Sys2Proof.Machine.execBoostMismatch c meas s
  | .rxShapeWrite m c v => Sys2Proof.Machine.execRxShapeWrite m c v s
  | .snapshot c x => Sys2Proof.Machine.execSnapshot c x s
  | .storeExpired c => Sys2Proof.Machine.execStoreExpired c s
  | .cdFine c => Sys2Proof.Machine.execCdFine c s
  | .sliceSwap c lane n => Sys2Proof.Machine.execSliceSwap c lane n s
  | .decode sc cw => Sys2Proof.Machine.execDecode sc cw s
  | .uncDefectSet sc => Sys2Proof.Machine.execUncDefectSet sc s
  | .uncDefectClear sc => Sys2Proof.Machine.execUncDefectClear sc s
  | .prefecDegSet sc => Sys2Proof.Machine.execPrefecDegSet sc s
  | .prefecDegClear sc => Sys2Proof.Machine.execPrefecDegClear sc s
  | .fecTotClr m sc v => Sys2Proof.Machine.execFecTotClr m sc v s
  | .fecSecLatch => Sys2Proof.Machine.execFecSecLatch s
  | .hypothesisCheck sc pos errs => Sys2Proof.Machine.execHypothesisCheck sc pos errs s
  | .searchInterval sc => Sys2Proof.Machine.execSearchInterval sc s
  | .frameRx sc errs hdr ovh => Sys2Proof.Machine.execFrameRx sc errs hdr ovh s
  | .lofSet sc => Sys2Proof.Machine.execLofSet sc s
  | .lofClr sc => Sys2Proof.Machine.execLofClr sc s
  | .commitTx m sc v => Sys2Proof.Machine.execCommitTx m sc v s
  | .commitRx m sc v => Sys2Proof.Machine.execCommitRx m sc v s
  | .pendingCommit sc tx => Sys2Proof.Machine.execPendingCommit sc tx s
  | .slotMapInForce sc tx => Sys2Proof.Machine.execSlotMapInForce sc tx s
  | .grpCfgWrite m g v => Sys2Proof.Machine.execGrpCfgWrite m g v s
  | .lfmTotClr m sc v => Sys2Proof.Machine.execLfmTotClr m sc v s
  | .groupMarker g msn round gap arrival => Sys2Proof.Machine.execGroupMarker g msn round gap arrival s
  | .skewCheck g => Sys2Proof.Machine.execSkewCheck g s
  | .grpUp g => Sys2Proof.Machine.execGrpUp g s
  | .grpSlip g msn => Sys2Proof.Machine.execGrpSlip g msn s
  | .pmLatch => Sys2Proof.Machine.execPmLatch s
  | .portCfgWrite m p v => Sys2Proof.Machine.execPortCfgWrite m p v s
  | .portCntClr m p v => Sys2Proof.Machine.execPortCntClr m p v s
  | .hostFrame p fr => Sys2Proof.Machine.execHostFrame p fr s
  | .pauseRefresh p => Sys2Proof.Machine.execPauseRefresh p s
  | .pauseReceived p pfc en quanta => Sys2Proof.Machine.execPauseReceived p pfc en quanta s
  | .pauseExpiry p prio => Sys2Proof.Machine.execPauseExpiry p prio s
  | .phEntryWrite m f word v => Sys2Proof.Machine.execPhEntryWrite m f word v s
  | .validate m f v => Sys2Proof.Machine.execValidate m f v s
  | .flowRemove m f v => Sys2Proof.Machine.execFlowRemove m f v s
  | .flowMove m v => Sys2Proof.Machine.execFlowMove m v s
  | .flowFlush m v => Sys2Proof.Machine.execFlowFlush m v s
  | .clrCnt m v => Sys2Proof.Machine.execClrCnt m v s
  | .frameSent e ecc => Sys2Proof.Machine.execFrameSent e ecc s
  | .grpHoldEnd g => Sys2Proof.Machine.execGrpHoldEnd g s
  | .recordHeader g word marked fr => Sys2Proof.Machine.execRecordHeader g word marked fr s
  | .sealHeader g h => Sys2Proof.Machine.execSealHeader g h s
  | .cipherDone id ok out => Sys2Proof.Machine.execCipherDone id ok out s
  | .cipherTimeout id => Sys2Proof.Machine.execCipherTimeout id s
  | .loadKey m v => Sys2Proof.Machine.execLoadKey m v s
  | .loadKek m v => Sys2Proof.Machine.execLoadKek m v s
  | .erase m v => Sys2Proof.Machine.execErase m v s
  | .eraseKek m v => Sys2Proof.Machine.execEraseKek m v s
  | .txAnWrite m grp k v => Sys2Proof.Machine.execTxAnWrite m grp k v s
  | .entFail => Sys2Proof.Machine.execEntFail s
  | .entOk => Sys2Proof.Machine.execEntOk s
  | .hayAccessDone a => Sys2Proof.Machine.execHayAccessDone a s
  | .accTimeout a => Sys2Proof.Machine.execAccTimeout a s
  | .mergeWriteBack line e => Sys2Proof.Machine.execMergeWriteBack line e s
  | .scrubRead line e => Sys2Proof.Machine.execScrubRead line e s
  | .retAdd m v => Sys2Proof.Machine.execRetAdd m v s
  | .retRemove m v => Sys2Proof.Machine.execRetRemove m v s
  | .retRead m v => Sys2Proof.Machine.execRetRead m v s
  | .apertureRead m off e => Sys2Proof.Machine.execApertureRead m off e s
  | .apertureWrite m off v => Sys2Proof.Machine.execApertureWrite m off v s
  | .capCfgWrite m v => Sys2Proof.Machine.execCapCfgWrite m v s
  | .capClr m v => Sys2Proof.Machine.execCapClr m v s
  | .capDrop => Sys2Proof.Machine.execCapDrop s
  | .hayCfgWrite m v => Sys2Proof.Machine.execHayCfgWrite m v s
  | .drainRefused => Sys2Proof.Machine.execDrainRefused s
  | .refLost k => Sys2Proof.Machine.execRefLost k s
  | .refPresent k => Sys2Proof.Machine.execRefPresent k s
  | .esmcPdu p pdu => Sys2Proof.Machine.execEsmcPdu p pdu s
  | .qlTimeout k => Sys2Proof.Machine.execQlTimeout k s
  | .qlSrcWrite m k v => Sys2Proof.Machine.execQlSrcWrite m k v s
  | .qualWindow l => Sys2Proof.Machine.execQualWindow l s
  | .disq k base => Sys2Proof.Machine.execDisq k base s
  | .requalification k => Sys2Proof.Machine.execRequalification k s
  | .wtrExpiry k => Sys2Proof.Machine.execWtrExpiry k s
  | .selectorTick => Sys2Proof.Machine.execSelectorTick s
  | .selManual m idx => Sys2Proof.Machine.execSelManual m idx s
  | .selForced m idx => Sys2Proof.Machine.execSelForced m idx s
  | .selClear m idx => Sys2Proof.Machine.execSelClear m idx s
  | .holdoffEnd => Sys2Proof.Machine.execHoldoffEnd s
  | .buildoutDone ofs => Sys2Proof.Machine.execBuildoutDone ofs s
  | .enterLocked => Sys2Proof.Machine.execEnterLocked s
  | .enterAcquire => Sys2Proof.Machine.execEnterAcquire s
  | .stbMode m v => Sys2Proof.Machine.execStbMode m v s
  | .fwBeat m v => Sys2Proof.Machine.execFwBeat m v s
  | .fwLost => Sys2Proof.Machine.execFwLost s
  | .hoBoundCheck => Sys2Proof.Machine.execHoBoundCheck s
  | .frozenLim => Sys2Proof.Machine.execFrozenLim s
  | .steerSrv m v => Sys2Proof.Machine.execSteerSrv m v s
  | .steerMan m v => Sys2Proof.Machine.execSteerMan m v s
  | .sample10min start tInt tExt => Sys2Proof.Machine.execSample10min start tInt tExt s
  | .sample1s start tInt tExt => Sys2Proof.Machine.execSample1s start tInt tExt s
  | .pruneDone => Sys2Proof.Machine.execPruneDone s
  | .esmcTx p => Sys2Proof.Machine.execEsmcTx p s
  | .eventPdu p => Sys2Proof.Machine.execEventPdu p s
  | .pmkStep m => Sys2Proof.Machine.execPmkStep m s
  | .stepped => Sys2Proof.Machine.execStepped s
  | .stepCancel m => Sys2Proof.Machine.execStepCancel m s
  | .adj m v => Sys2Proof.Machine.execAdj m v s
  | .adjDone => Sys2Proof.Machine.execAdjDone s
  | .autoStep err => Sys2Proof.Machine.execAutoStep err s
  | .secMis => Sys2Proof.Machine.execSecMis s
  | .timeFault d => Sys2Proof.Machine.execTimeFault d s
  | .ptpRx p taken l => Sys2Proof.Machine.execPtpRx p taken l s
  | .oneStepSync p l => Sys2Proof.Machine.execOneStepSync p l s
  | .ppsOut => Sys2Proof.Machine.execPpsOut s
  | .todMessage => Sys2Proof.Machine.execTodMessage s
  | .zda ok utc => Sys2Proof.Machine.execZda ok utc s
  | .timeMessage c sc => Sys2Proof.Machine.execTimeMessage c sc s
  | .ttLatch => Sys2Proof.Machine.execTtLatch s
  | .tchFrameTx => Sys2Proof.Machine.execTchFrameTx s
  | .tchFrameRx x => Sys2Proof.Machine.execTchFrameRx x s
  | .timePostcard => Sys2Proof.Machine.execTimePostcard s
  | .slotDone p x y => Sys2Proof.Machine.execSlotDone p x y s
  | .monTrig rising => Sys2Proof.Machine.execMonTrig rising s
  | .trigDone p x y => Sys2Proof.Machine.execTrigDone p x y s
  | .softTrig m => Sys2Proof.Machine.execSoftTrig m s
  | .compatTimer => Sys2Proof.Machine.execCompatTimer s
  | .snapDone l => Sys2Proof.Machine.execSnapDone l s
  | .settled n => Sys2Proof.Machine.execSettled n s
  | .chkWindow p ms x y => Sys2Proof.Machine.execChkWindow p ms x y s
  | .monFault p x y => Sys2Proof.Machine.execMonFault p x y s
  | .faultClr m => Sys2Proof.Machine.execFaultClr m s
  | .binBlock b sec ns => Sys2Proof.Machine.execBinBlock b sec ns s
  | .monCfgWrite m addr v => Sys2Proof.Machine.execMonCfgWrite m addr v s
  | .postcardTxStart c => Sys2Proof.Machine.execPostcardTxStart c s
  | .txDone c => Sys2Proof.Machine.execTxDone c s
  | .txCmd m c v => Sys2Proof.Machine.execTxCmd m c v s
  | .txExpired c => Sys2Proof.Machine.execTxExpired c s
  | .identTimer c => Sys2Proof.Machine.execIdentTimer c s
  | .qlTimer c => Sys2Proof.Machine.execQlTimer c s
  | .defectTimer c => Sys2Proof.Machine.execDefectTimer c s
  | .srTimer c => Sys2Proof.Machine.execSrTimer c s
  | .preambleDetection k lvl => Sys2Proof.Machine.execPreambleDetection k lvl s
  | .falseDet k => Sys2Proof.Machine.execFalseDet k s
  | .syncMatch k lvl bits => Sys2Proof.Machine.execSyncMatch k lvl bits s
  | .postcardEnd k hdr data crc => Sys2Proof.Machine.execPostcardEnd k hdr data crc s
  | .boundTimeout k => Sys2Proof.Machine.execBoundTimeout k s
  | .seqWindowReset k => Sys2Proof.Machine.execSeqWindowReset k s
  | .rxPop m v => Sys2Proof.Machine.execRxPop m v s
  | .pccCfgWrite m v => Sys2Proof.Machine.execPccCfgWrite m v s
  | .trainDone l eq snr => Sys2Proof.Machine.execTrainDone l eq snr s
  | .trainFail l => Sys2Proof.Machine.execTrainFail l s
  | .trainRetry l => Sys2Proof.Machine.execTrainRetry l s
  | .cdrLol l => Sys2Proof.Machine.execCdrLol l s
  | .prbsLock yard l => Sys2Proof.Machine.execPrbsLock yard l s
  | .prbsLoss yard l errs => Sys2Proof.Machine.execPrbsLoss yard l errs s
  | .errInj m yard l v => Sys2Proof.Machine.execErrInj m yard l v s
  | .genEn m yard l v => Sys2Proof.Machine.execGenEn m yard l v s
  | .laneCntClr m l v => Sys2Proof.Machine.execLaneCntClr m l v s
  | .yardBlock l fill b => Sys2Proof.Machine.execYardBlock l fill b s
  | .hello l h => Sys2Proof.Machine.execHello l h s
  | .helloLost j => Sys2Proof.Machine.execHelloLost j s
  | .runReady m v => Sys2Proof.Machine.execRunReady m v s
  | .runSwitch j => Sys2Proof.Machine.execRunSwitch j s
  | .laneFailure l lock => Sys2Proof.Machine.execLaneFailure l lock s
  | .spareIn j => Sys2Proof.Machine.execSpareIn j s
  | .revert m j v => Sys2Proof.Machine.execRevert m j v s
  | .sidebandMessage j seq msg => Sys2Proof.Machine.execSidebandMessage j seq msg s
  | .sidebandRepeat j => Sys2Proof.Machine.execSidebandRepeat j s
  | .imgWant j => Sys2Proof.Machine.execImgWant j s
  | .imgRestart d => Sys2Proof.Machine.execImgRestart d s
  | .imgWaitTimeout => Sys2Proof.Machine.execImgWaitTimeout s
  | .imgChecked fore keys rest => Sys2Proof.Machine.execImgChecked fore keys rest s
  | .rmtCmd m v => Sys2Proof.Machine.execRmtCmd m v s
  | .rmtDone ans => Sys2Proof.Machine.execRmtDone ans s
  | .fwdWrite m j tx n v => Sys2Proof.Machine.execFwdWrite m j tx n v s
  | .statusTimeout gid msn => Sys2Proof.Machine.execStatusTimeout gid msn s
  | .domReq m d v => Sys2Proof.Machine.execDomReq m d v s
  | .handshakeAccept d => Sys2Proof.Machine.execHandshakeAccept d s
  | .hsRefused d limit => Sys2Proof.Machine.execHsRefused d limit s
  | .shutdownDone d => Sys2Proof.Machine.execShutdownDone d s
  | .wakeStep d => Sys2Proof.Machine.execWakeStep d s
  | .wakeFail d => Sys2Proof.Machine.execWakeFail d s
  | .wakeRetry d => Sys2Proof.Machine.execWakeRetry d s
  | .twiAddressMatch addr => Sys2Proof.Machine.execTwiAddressMatch addr s
  | .twiAon => Sys2Proof.Machine.execTwiAon s
  | .wakeN => Sys2Proof.Machine.execWakeN s
  | .aonTimer => Sys2Proof.Machine.execAonTimer s
  | .padHold m v => Sys2Proof.Machine.execPadHold m v s
  | .pgFall rail => Sys2Proof.Machine.execPgFall rail s
  | .resetAssert src dom page => Sys2Proof.Machine.execResetAssert src dom page s
  | .idleTimeout src => Sys2Proof.Machine.execIdleTimeout src s
  | .resetRelease src => Sys2Proof.Machine.execResetRelease src s
  | .swChip m v => Sys2Proof.Machine.execSwChip m v s
  | .swCore m v => Sys2Proof.Machine.execSwCore m v s
  | .swDomain m v => Sys2Proof.Machine.execSwDomain m v s
  | .swBlock m v => Sys2Proof.Machine.execSwBlock m v s
  | .swRelease m v => Sys2Proof.Machine.execSwRelease m v s
  | .hostRst m v => Sys2Proof.Machine.execHostRst m v s
  | .imageCheck fore key sig rest => Sys2Proof.Machine.execImageCheck fore key sig rest s
  | .lcCmd m v => Sys2Proof.Machine.execLcCmd m v s
  | .xtalOk => Sys2Proof.Machine.execXtalOk s
  | .xtalFail => Sys2Proof.Machine.execXtalFail s
  | .accessErr m write addr => Sys2Proof.Machine.execAccessErr m write addr s
  | .sliceCycle c lane => Sys2Proof.Machine.execSliceCycle c lane s
  | .sliceResult c lane ab tap => Sys2Proof.Machine.execSliceResult c lane ab tap s
  | .sliceRamp c lane => Sys2Proof.Machine.execSliceRamp c lane s
  | .dacSkewCal c lane a b => Sys2Proof.Machine.execDacSkewCal c lane a b s
  | .monRefRefresh p x y => Sys2Proof.Machine.execMonRefRefresh p x y s
  | .prod m v => Sys2Proof.Machine.execProd m v s
  | .storeNow m v => Sys2Proof.Machine.execStoreNow m v s
  | .liveStore c ok => Sys2Proof.Machine.execLiveStore c ok s
  | .calRefLost => Sys2Proof.Machine.execCalRefLost s
  | .tackRoomWrite m off v => Sys2Proof.Machine.execTackRoomWrite m off v s
  | .tackRoomRead m off e => Sys2Proof.Machine.execTackRoomRead m off e s
  | .bstRun m v => Sys2Proof.Machine.execBstRun m v s
  | .bstFull m v => Sys2Proof.Machine.execBstFull m v s
  | .bstCancel m v => Sys2Proof.Machine.execBstCancel m v s
  | .bstRelease m v => Sys2Proof.Machine.execBstRelease m v s
  | .testAdmit => Sys2Proof.Machine.execTestAdmit s
  | .testDone t e detail => Sys2Proof.Machine.execTestDone t e detail s
  | .bstExpired t => Sys2Proof.Machine.execBstExpired t s
  | .wdtExpiry c => Sys2Proof.Machine.execWdtExpiry c s
  | .wdtKick m c v => Sys2Proof.Machine.execWdtKick m c v s
  | .accessFault c addr kind machine => Sys2Proof.Machine.execAccessFault c addr kind machine s
  | .mpuWrite m c r cfg v => Sys2Proof.Machine.execMpuWrite m c r cfg v s
  | .lbInfo m v => Sys2Proof.Machine.execLbInfo m v s
  | .flashRead m v => Sys2Proof.Machine.execFlashRead m v s
  | .flashErase m v => Sys2Proof.Machine.execFlashErase m v s
  | .flashProg m v => Sys2Proof.Machine.execFlashProg m v s
  | .logRead m v => Sys2Proof.Machine.execLogRead m v s
  | .testWindow m v => Sys2Proof.Machine.execTestWindow m v s
  | .returnAuth m v => Sys2Proof.Machine.execReturnAuth m v s
  | .lbDone e => Sys2Proof.Machine.execLbDone e s
  | .logDrain => Sys2Proof.Machine.execLogDrain s
  | .snap m v => Sys2Proof.Machine.execSnap m v s
  | .dump => Sys2Proof.Machine.execDump s
  | .dumpCfgWrite m v => Sys2Proof.Machine.execDumpCfgWrite m v s
  | .ovf n gain pc seg => Sys2Proof.Machine.execOvf n gain pc seg s
  | .ctrLoad m n v => Sys2Proof.Machine.execCtrLoad m n v s
  | .faultDetected f k => Sys2Proof.Machine.execFaultDetected f k s
  | .cfgParityErr addr v => Sys2Proof.Machine.execCfgParityErr addr v s
  | .cfgScan bad => Sys2Proof.Machine.execCfgScan bad s
  | .winOpen m v => Sys2Proof.Machine.execWinOpen m v s
  | .winClose m v => Sys2Proof.Machine.execWinClose m v s
  | .windowExpiry => Sys2Proof.Machine.execWindowExpiry s
  | .injCfgWrite m k v => Sys2Proof.Machine.execInjCfgWrite m k v s
  | .injEnd k => Sys2Proof.Machine.execInjEnd k s
  | .decodeErr m write addr size => Sys2Proof.Machine.execDecodeErr m write addr size s
  | .aliasWrite m addr v => Sys2Proof.Machine.execAliasWrite m addr v s
  | .aliasRead m addr => Sys2Proof.Machine.execAliasRead m addr s
  | .spiWrite addr ws => Sys2Proof.Machine.execSpiWrite addr ws s
  | .spiRead addr n => Sys2Proof.Machine.execSpiRead addr n s
  | .spiStatus => Sys2Proof.Machine.execSpiStatus s
  | .twiWrite bytes => Sys2Proof.Machine.execTwiWrite bytes s
  | .twiRead addr n => Sys2Proof.Machine.execTwiRead addr n s
  | .rcRead m addr size => Sys2Proof.Machine.execRcRead m addr size s
  | .registerWrite m addr v => Sys2Proof.Machine.execRegisterWrite m addr v s
  | .frameTx c => Sys2Proof.Machine.execFrameTx c s
  | .adcClip c lane => Sys2Proof.Machine.execAdcClip c lane s
  | .adcClkLock c => Sys2Proof.Machine.execAdcClkLock c s
  | .cdrLock l => Sys2Proof.Machine.execCdrLock l s
  | .portUp p => Sys2Proof.Machine.execPortUp p s
  | .blockLock l => Sys2Proof.Machine.execBlockLock l s
  | .yardBlockTx l tiles frag => Sys2Proof.Machine.execYardBlockTx l tiles frag s
  | .pairOutput p x y => Sys2Proof.Machine.execPairOutput p x y s
  | .ppsWidthEnd => Sys2Proof.Machine.execPpsWidthEnd s
  | .calRefInPresent fast => Sys2Proof.Machine.execCalRefInPresent fast s
  | .prodDone vrefOk agree x => Sys2Proof.Machine.execProdDone vrefOk agree x s

end Sys2Proof.Machine
end

