-- ==== Sys2Proof/Machine/Tick.lean ====
section
/-! DEFINITION. What one microsecond changes by itself while no command waits: the clocks, the time counter, the
steering of the frequency, the token buckets, the cycle counters, the checkers, and what is due every millisecond.
Everything else that time brings is a command of the table, sent by the environment. -/

namespace Sys2Proof.Machine

/-- The slow clock's ticks since the start of time, at 32,768 Hz (R350). -/
def slowAt (us : Nat) : Nat := us * 32768 / 1000000

/-- The slow clock: SLOW_CNT wraps, and stands at 0 under a POWER or CHIP reset (Table 15.17). -/
def State.slowTick (s : State) : State :=
  if s.asserted.any fun a => !a.asking && decide (a.level ≤ 1) then s
  else
    let n := slowAt s.us - slowAt (s.us - 1)
    (s.wrN (R .AON_SLOW_CNT) (s.rdN (R .AON_SLOW_CNT) + n)).count 0x003 0 n

/-- The policer's bucket of flow `f`: PO_RATE × 10 bits a microsecond, up to PO_BURST × 4 KB (R158).
DESIGN CHOICE, unsafe (log 22). -/
def State.polFill (f : Nat) (s : State) : State :=
  s.modFlow f fun fl => { fl with
    pol := min (fl.pol + 10 * s.fld F.SOF_FP_W0_PO_RATE f) (s.fld F.SOF_FP_W0_PO_BURST f * 32768) }

/-- The shaper's bucket of flow `f`: SH_RATE × 10 bits a microsecond, up to SH_BURST × 4 KB (R162).
DESIGN CHOICE, unsafe (log 22). -/
def State.shpFill (f : Nat) (s : State) : State :=
  s.modFlow f fun fl => { fl with
    shp := min (fl.shp + 10 * (s.fld F.SOF_FP_W1_SH_RATE f : Int)) (s.fld F.SOF_FP_W1_SH_BURST f * 32768 : Nat) }

/-- The token buckets of the Sorting Office. A flow without a rate has no bucket. -/
def State.bucketTick (s : State) : State :=
  if !s.domOn 7 then s
  else
    (s.each (s.insts .SOF_FP_W0) fun f s => s.when (s.fld F.SOF_FP_W0_PO_RATE f != 0) (State.polFill f)).each
      (s.insts .SOF_FP_W1) fun f s => s.when (s.fld F.SOF_FP_W1_SH_RATE f != 0) (State.shpFill f)

/-- The slots of the Sorting Office's pipeline in a microsecond, 4 in each of 2,000 cycles (R404): each in one class;
which is not the model's to say, so the split is free and its sum is not. -/
def State.slotTick (s : State) : State :=
  if !s.domOn 7 then s
  else
    let a := Config.freeNat s.free % 8001
    let b := Config.freeNat (s.free + 1) % (8001 - a)
    let c := Config.freeNat (s.free + 2) % (8001 - a - b)
    let s := { s with free := s.free + 3 }
    ((((s.count 0x080 0 8000).count 0x081 0 a).count 0x082 0 b).count 0x083 0 c).count 0x084 0 (8000 - a - b - c)

/-- A flow's entry is valid and its egress is held. -/
def State.flowHeld (s : State) (f : Nat) : Bool := s.flag F.SOF_PH_W6_VALID f && s.egressHeld f (s.egressOf f)

/-- The cycle events of the performance counters (Table 17.7), counted while a counter runs: the DSP clock at 2.0 GHz
and the control cores' at 1.0 GHz. DEDUCED, unsafe (log 56). -/
def State.cycleTick (s : State) : State :=
  if !(s.domOn 1 && s.flag F.PMC_CFG_EN) then s
  else
    let s := ((s.count 0x001 0 2000).count 0x002 0 1000).slotTick
    let s := s.when (s.domOn 7) fun s =>
      (s.each ((s.insts .SOF_FP_W4).filter fun f => s.flag F.SOF_FP_W4_XOFF_ST f) fun f s => s.count 0x095 f 2000).each
        ((s.insts .SOF_PH_W6).filter s.flowHeld) fun f s => s.count 0x096 f 2000
    let s := s.when s.hayOn fun s => s.count 0x0C2 0 (2000 * min s.hay.acc.length 512)
    s.when (s.domOn 6) fun s => s.upto 8 fun c s =>
      s.when (decide (16 ≤ (s.core c).susp.length)) fun s => s.count 0x0E3 c 2000

/-- The cores of the cipher engine. -/
def State.cipTick (s : State) : State := if s.domOn 6 then s.upto 8 State.coreDry else s

/-- What is due every millisecond: the lanes' reports (R325) and the watchdogs' counts (R395). -/
def State.milliTick (s : State) : State :=
  (s.upto 32 fun l s => s.laneReport l).upto 4 fun c s =>
    s.when (s.wdtRuns c) fun s => s.wrN (R .CORE_WDT_LEFT c) (s.rdN (R .CORE_WDT_LEFT c) - 1)

/-- The yard's and the lanes' checkers. -/
def State.checkTick (s : State) : State := (s.upto 32 fun l s => s.prbsTick l).upto 8 fun l s => s.yardPrbsTick l

/-- One microsecond in which no command arrives. DESIGN CHOICE, unsafe (log 5, 60). -/
def State.tick (s : State) : State :=
  let s := { s with us := s.us + 1 }
  let s := s.slowTick.mgmtStart.pmkTick.stbTick.ppsEval.qlEval
  let s := s.bucketTick.cipTick.cycleTick.checkTick.retSettle
  (s.when (s.us % 1000 == 0) State.milliTick).serve

end Sys2Proof.Machine
end

