-- ==== Sys2Proof/Machine/Signal.lean ====
section
/-! DEFINITION. What leaves the block on the line, as words (the header and the coded overhead of spec/06), where each
position of a frame lies, and what the settings of the converters, the codes, the servo and the time outputs amount to
(spec/02 to spec/05, spec/10 to spec/12). -/

namespace Sys2Proof.Machine

/-! ## Positions of a line frame -/

/-- The alignment word of a polarisation, X where `y` is false (R113). -/
def alignWord (y : Bool) : BitVec 64 := if y then 0x3CE1A94F07B6582D else 0x8F3A61D42B97C05E

/-- The bits of the four guard symbols: the complement of the first four symbols of the alignment word (R113). -/
def guardBits (y : Bool) : Byte := ~~~(alignWord y).extractLsb' 56 8

/-- What a non-pilot position of a frame carries (Table 6.1). -/
inductive LinePos where
  | align
  | guardSym
  | headerSym
  | coded
  deriving DecidableEq, Repr

/-- The content of non-pilot index `n`, 0 to 7,935 (Table 6.1). -/
def linePos (n : Nat) : LinePos :=
  if n < 32 then .align else if n < 36 then .guardSym else if n < 48 then .headerSym else .coded

/-- Symbol index `i` of a frame is a pilot in both polarisations (R56). -/
def isPilot (i : Nat) : Bool := i % 32 == 0

/-- The non-pilot index of symbol `i`, where it is no pilot (R113). -/
def nonPilot (i : Nat) : Nat := i - i / 32 - 1

/-- The seed of the pilot sequence of subcarrier `k` of its carrier, in polarisation X or Y (R56). -/
def pilotSeed (y : Bool) (k : Nat) : Nat := 0x0A00 + 8 * bit y + k

/-- The seed of the scrambler in frame `fn` of subcarrier `k` (R116). -/
def scrambleSeed (k fn : Nat) : Nat := Nat.lor 0x40001D5B (Nat.lor (k * 2 ^ 24) (fn * 2 ^ 16))

/-- The slot to which payload byte `b` belongs, of `n` slots (R114). -/
def slotOfByte (b n : Nat) : Nat := b % n

/-! ## The header and the coded overhead -/

/-- Bits [47:16] of a header (Table 6.4). -/
def headerTop (h : Header) : Nat :=
  h.fn % 256 * 2 ^ 24 + bit h.pend * 2 ^ 23 + h.count % 32 * 2 ^ 18 + h.desc % 256 * 2 ^ 8 + bit h.rdi * 2 ^ 7 +
    h.scid % 8 * 2 ^ 4

/-- The 48 data bits of a header, with their CRC (R122). -/
def headerBits (h : Header) : BitVec 48 := BitVec.ofNat 48 (headerTop h * 65536 + crc16 32 (headerTop h))

/-- The header's bits on the data symbols of a polarisation: [47:24] on X, [23:0] on Y (R122). -/
def headerSymbols (h : Header) (y : Bool) : BitVec 24 :=
  if y then (headerBits h).extractLsb' 0 24 else (headerBits h).extractLsb' 24 24

/-- The header that 48 received bits spell, where their CRC checks; reserved bits are ignored (R122, Table 6.4). -/
def headerOf (v : BitVec 48) : Option Header :=
  let w := v.toNat
  if crc16 32 (w / 65536) = w % 65536 then
    some { fn := w / 2 ^ 40, pend := w / 2 ^ 39 % 2 == 1, count := w / 2 ^ 34 % 32, desc := w / 2 ^ 24 % 256,
           rdi := w / 2 ^ 23 % 2 == 1, scid := w / 2 ^ 20 % 8 }
  else none

/-- The 16 bytes of coded overhead (Table 6.6). -/
def overheadBytes (o : Overhead) : List Byte :=
  [BitVec.ofNat 8 o.rdiMap, BitVec.ofNat 8 (o.jc / 256 % 8), BitVec.ofNat 8 o.jc, BitVec.ofNat 8 (o.sr / 256),
   BitVec.ofNat 8 o.sr, o.tti, o.msi, o.rei.1, o.rei.2, o.ttm.1, o.ttm.2, o.mcc.1, o.mcc.2, 0, 0, 0]

/-- The overhead that 16 received bytes spell; reserved bits are ignored (Table 6.6). -/
def overheadOf (l : List Byte) : Overhead :=
  let b := fun n => l.getD n 0
  { rdiMap := (b 0).toNat, jc := (b 1).toNat % 8 * 256 + (b 2).toNat, sr := (b 3).toNat * 256 + (b 4).toNat, tti := b 5
    msi := b 6, rei := (b 7, b 8), ttm := (b 9, b 10), mcc := (b 11, b 12) }

/-! ## Settings in force -/

/-- The MIMO taps of subcarrier `i` (R80). -/
def State.taps (s : State) (i : Nat) : Nat :=
  let t := s.fld F.SCX_RX_CFG_TAPS i
  max 7 (t + (1 - t % 2))

/-- The code of subcarrier `k` of carrier `c`: express where bit k of the running profile is set (R53); none in an OIF
mode, whose code is the agreement's (R51). -/
def State.expressCode (s : State) (c k : Nat) : Bool :=
  pMode (s.rd (R .CAX_TX_PROFILE c)) == 0 && pExpBit (s.rd (R .CAX_TX_PROFILE c)) k

/-- The pilot energy above the mean payload symbol's, in units of 0.5 dB (R57, R59); BOOST takes no part in an OIF mode
(R51). -/
def State.pilotBoost (s : State) (c : Nat) : Nat :=
  if pMode (s.rd (R .CAX_TX_PROFILE c)) = 0 then F.CAX_TX_SHAPE_BOOST.get (s.car c).shape else 0

/-- K of the transmit direction, from its running profile (R54). -/
def State.txK (s : State) (c : Nat) : Nat := F.CAX_TX_ENTROPY_K.get (entropy (s.rd (R .CAX_TX_PROFILE c)))

/-- K that the receiver uses, from the profile in force (R83). -/
def State.rxK (s : State) (c : Nat) : Nat := F.CAX_TX_ENTROPY_K.get (entropy (s.car c).rxForce)

/-- What a clock is derived from (R18, R19). -/
inductive ClkSource where
  | steered
  | oscIn
  deriving DecidableEq, Repr

/-- The source of the transmit symbol clocks and of the host lanes' transmit clocks: the Stable's steered output while
TMG is ON, else OSC_IN (R18, R19). -/
def State.txClock (s : State) : ClkSource := if s.domOn 2 then .steered else .oscIn

/-- The source of the yard lanes' clocks: a PLL on OSC_IN without steering (R18). -/
def State.yardClock (_ : State) : ClkSource := .oscIn

/-- The lane order of R58: the logical lane (0 XI, 1 XQ, 2 YI, 3 YQ) that the balls of lane `l` carry, and whether it
is inverted there. -/
def State.laneOut (s : State) (c l : Nat) : Nat × Bool :=
  let w := (s.car c).shape
  let src := if F.CAX_TX_SHAPE_XY_SWAP.get w = 1 then (l + 2) % 4 else l
  (src, (F.CAX_TX_SHAPE_SPEC_INV.get w == 1 && src % 2 == 1) != (F.CAX_TX_SHAPE_LANE_POL.get w / 2 ^ l % 2 == 1))

/-- A DAC lane's full-scale swing in mV peak-to-peak differential (R63). -/
def State.swing (s : State) (c l : Nat) : Nat :=
  300 + 10 * min 60 (s.fld (match l with
    | 0 => F.CAX_TX_SWING_SW_XI
    | 1 => F.CAX_TX_SWING_SW_XQ
    | 2 => F.CAX_TX_SWING_SW_YI
    | _ => F.CAX_TX_SWING_SW_YQ) c)

/-- The counter time of the rising edge of the pulse of the present second, in 2⁻¹⁶ ns, advanced by COMP (R264). -/
def State.ppsEdge (s : State) : Int :=
  ((s.sec * oneSec : Nat) : Int) - signed 16 (s.fld F.PMK_PPS_CFG_COMP) * 65536 / 10

/-- The bits of bytes as UART 8N1: a start bit, eight bits from the least significant, a stop bit (R266). -/
def uart (l : List Byte) : List Bool := l.flatMap fun b => false :: (List.range 8).map (b.getLsbD ·) ++ [true]

/-- The rate of a BAUD field (Table 11.7). -/
def baudOf (v : Nat) : Nat := [9600, 19200, 38400].getD v 115200

/-- What TOD_OUT sends after a second boundary; without it the line is high (R266, R279). -/
def State.todBits (s : State) : List Bool := if s.stbOn && s.flag F.PMK_TOD_CFG_EN then uart s.pmk.tod else []

/-- The duty of cycle `n` of TCH_OUT after a second marker, in per cent; 0 where the pin is driven low (R276, R279). -/
def State.tchDuty (s : State) (n : Nat) : Nat :=
  if !(s.stbOn && s.flag F.PMK_TCH_CFG_OUT_EN) then 0
  else if n = 0 then 20
  else match s.pmk.tch with
    | some w => if n ≤ 128 then (if w.getLsbD (128 - n) then 60 else 40) else 50
    | none => 50

/-- The servo's bandwidth in force, in mHz (R246, Table 10.8). -/
def State.servoBand (s : State) : Nat :=
  match s.stb.band with
  | 0 => 50
  | 1 => 100
  | 2 => 1000
  | 3 => 3000
  | _ => 10000

/-- The full scale of channel `ch`'s transimpedance stage in nA; none in voltage mode (R281). -/
def State.tiaScale (s : State) (ch : Nat) : Option Nat :=
  if 4 ≤ ch then none
  else match s.fld F.MON_CH_CFG_TIA ch with
    | 1 => some 2500000
    | 2 => some 250000
    | 3 => some 25000
    | 4 => some 2500
    | _ => none

/-- The code of a voltage of `uv` microvolts and whether it is above the range (R280). -/
def voltCode (uv : Int) : Int × Bool :=
  let z := (uv * 2 ^ 24 + 2500000) / 5000000
  (min z 0x7FFFFF, decide (2500000 < uv))

/-- The voltage of an on-die temperature sensor in microvolts, at `mc` thousandths of a degree Celsius (R280). -/
def tempVolt (mc : Int) : Int := 900000 + 4 * mc

/-- The preset a value selects (Table 12.2). -/
def presetOf (v : Nat) : Nat := if 4 ≤ v then 1 else v

/-- A preset's overall decimation ratio times 25, with the modulator at full rate or in low-power mode (R282,
Table 12.2); Tone has no low-power form. -/
def decimation (v : Nat) (lp : Bool) : Nat :=
  let d := match presetOf v with
    | 0 => 204800 * 25
    | 2 => 1024 * 25
    | 3 => 1024
    | _ => 10240 * 25
  if lp then d / 16 else d

/-- The modulator's rate in Hz (R282). -/
def modulatorRate (lp : Bool) : Nat := if lp then 640000 else 10240000

/-! ## Geometry of a carrier -/

/-- The frequency of the centre of subcarrier `k` from the carrier's, (k − 3.5) × (1 + β) × rs/8 with β in hundredths,
in 1/1600 of the unit of the symbol rate `rs` (R29). -/
def scCentre (rs beta : Nat) (k : Nat) : Int := (2 * (k : Int) - 7) * (100 + beta) * rs

/-- The converters' sample rate, 1.125 × `rs`, in eighths of the unit of `rs` (R58, R72). -/
def sampleRate (rs : Nat) : Nat := 9 * rs

end Sys2Proof.Machine
end

