-- ==== Sys2Proof/Machine/Transmit.lean ====
section
/-! DEFINITION. What a carrier puts on its DAC lanes: the symbols of a line frame (R113 to R116), the pilots (R56, R57)
and the stages of Table 3.1 in their order (R50), as functions of the state. The arithmetic that the spec names and does
not state is in Config (log 70). -/

namespace Sys2Proof.Machine

/-! ## Generators -/

/-- `n` bits of the generator x^d + x^t + 1 from its register: the bit of stage d is sent, and the sum of stages d and t
enters at stage 1. DESIGN CHOICE, unsafe (log 70). -/
def lfsr (d t : Nat) : Nat → Nat → List Bool
  | 0, _ => []
  | n + 1, r =>
    let o := r.testBit (d - 1)
    o :: lfsr d t n ((2 * r + bit (o != r.testBit (t - 1))) % 2 ^ d)

/-- The bits of bytes, each byte's most significant bit first. -/
def byteBits (l : List Byte) : List Bool := l.flatMap fun b => msbBits 8 b.toNat

/-- Bits two by two: the first of a pair sets the sign of I, the second that of Q (R56, R113). -/
def bitPairs : List Bool → List (Bool × Bool)
  | a :: b :: l => (a, b) :: bitPairs l
  | _ => []

/-- The sign a bit stands for: 0 positive, 1 negative (R113). -/
def signOf (b : Bool) : Int := if b then -1 else 1

/-- A QPSK point of a level. -/
def qpsk (lv : Int) (p : Bool × Bool) : Int × Int := (signOf p.1 * lv, signOf p.2 * lv)

/-! ## The line frame (stages 1 and 2) -/

/-- Wf: the bytes a slot carries in the frame with justification count `jc` (R115). -/
def slotBytes (rate jc : Nat) : Nat := (jc + 1) * 1638400 / rate - jc * 1638400 / rate

/-- The payload of a frame: byte b belongs to slot b mod `n`, and a slot without bytes carries zeros (R114, R137). -/
def payload (n wf : Nat) (slot : Nat → List Byte) : List Byte :=
  (List.range (n * wf)).map fun b => (slot (slotOfByte b n)).getD (b / n) 0

/-- Slot `e` of subcarrier `i` carries its group's bytes: the transmitter is in SERVICE (Table 3.6), the slot exists for
the subcarrier's class (R28) and is mapped to a group that is sent (R137). -/
def State.slotFeed (s : State) (i e : Nat) : Bool :=
  s.fld F.CAX_TX_STATUS_TXSTATE (i / 8) == 4 && decide (e < pScSlots (s.rd (R .CAX_TX_PROFILE (i / 8))) (i % 8)) &&
    s.feeds ((s.sc i).mapTx.getD e 0)

/-- The bytes of a subcarrier's slots, `pay` being those of the groups: idle fill is zeros (R15, R28, R137). -/
def State.slotOut (s : State) (i : Nat) (pay : Nat → List Byte) (e : Nat) : List Byte :=
  if s.slotFeed i e then pay e else []

/-- The coded overhead, payload and padding of a frame, scrambled (R114, R116); `pad` is the number of padding bits. -/
def State.frameInfo (s : State) (i pad : Nat) (h : Header) (o : Overhead) (pay : Nat → List Byte) : List Bool :=
  let p := s.rd (R .CAX_TX_PROFILE (i / 8))
  let b := byteBits (overheadBytes o ++ payload (pSlots p) (slotBytes (pRate p) o.jc) (s.slotOut i pay)) ++
    List.replicate pad false
  List.zipWith (fun x y => x != y) b (lfsr 31 28 b.length (scrambleSeed (i % 8) h.fn))

/-- The 48 symbols of a polarisation that are sent unshaped: alignment word, guard and header (Table 6.1). -/
def knownSymbols (y : Bool) (h : Header) : List (Bool × Bool) :=
  bitPairs (msbBits 64 (alignWord y).toNat ++ msbBits 8 (guardBits y).toNat ++ msbBits 24 (headerSymbols h y).toNat)

/-! ## Coding, mapping and pilots (stages 3 to 6) -/

/-- Stage 3: the frame's information bits, the header and guard first, under the subcarrier's code (R53, R113). -/
def State.coded (s : State) (i pad : Nat) (h : Header) (o : Overhead) (pay : Nat → List Byte) : List Bool :=
  Config.encode (s.expressCode (i / 8) (i % 8))
    (msbBits 48 (headerBits h).toNat ++ msbBits 8 (guardBits false).toNat ++ msbBits 8 (guardBits true).toNat ++
      s.frameInfo i pad h o pay)

/-- The amplitudes of a dimension at the entropy K: ±1 and ±3 up to 3,584, else to ±7 (R55). -/
def amplitude (k a : Nat) : Int := 2 * ((a % (if k ≤ 3584 then 2 else 4) : Nat) : Int) + 1

/-- Stage 5: amplitudes with their signs two by two as points. -/
def points (k : Nat) : List (Nat × Bool) → List (Int × Int)
  | a :: b :: l =>
    (signOf a.2 * amplitude k a.1 * Config.level 2 k, signOf b.2 * amplitude k b.1 * Config.level 2 k) :: points k l
  | _ => []

/-- The bits of pilot `j` of a frame: the generator is clocked twice a pilot (R56). -/
def pilotBits (y : Bool) (k j : Nat) : Bool × Bool :=
  let l := lfsr 15 14 (2 * j + 2) (pilotSeed y k)
  (l.getD (2 * j) false, l.getD (2 * j + 1) false)

/-- Stage 6: the 8,192 symbols of a frame in one polarisation: pilots at every 32nd index, the unshaped symbols at the
first 48 others, the shaped ones behind (R56, R113). -/
def State.symbols (s : State) (i pad : Nat) (y : Bool) (h : Header) (o : Overhead) (pay : Nat → List Byte) :
    List (Int × Int) :=
  let k := s.txK (i / 8)
  let known := (knownSymbols y h).map (qpsk (Config.level 0 0))
  let shaped := points k (Config.matcher k y (s.coded i pad h o pay))
  (List.range 8192).map fun n =>
    if isPilot n then qpsk (Config.level 1 (s.pilotBoost (i / 8))) (pilotBits y (i % 8) (n / 32))
    else (known ++ shaped).getD (nonPilot n) (0, 0)

/-! ## The waveforms (stages 7 to 11) -/

/-- The sum of two signals. -/
def addSignals (a b : List (Int × Int)) : List (Int × Int) := List.zipWith (fun x y => (x.1 + y.1, x.2 + y.2)) a b

/-- Stages 7 and 8: the eight subcarriers shaped with the roll-off in force, moved to their centres and summed (R29,
R58). -/
def State.multiplex (s : State) (c : Nat) (sym : Nat → List (Int × Int)) : List (Int × Int) :=
  let beta := F.CAX_TX_SHAPE_ROLLOFF.get (s.car c).shape
  let one := fun k => Config.shift (scCentre (pRate (s.rd (R .CAX_TX_PROFILE c))) beta k) (Config.pulse beta (sym k))
  (List.range 7).foldl (fun a k => addSignals a (one (k + 1))) (one 0)

/-- What the carrier's eight subcarriers, or the client of an OIF mode, have to send: the headers and overheads of a
frame, its padding, the groups' bytes by subcarrier and slot, and the client's bytes. -/
structure LineData where
  out : Nat → Header × Overhead
  pad : Nat
  pay : Nat → Nat → List Byte
  client : List Byte

/-- The complex signal of a polarisation after stage 8: the stages of Table 3.1, or the agreement's (R50, R51). -/
def State.lineSignal (s : State) (c : Nat) (y : Bool) (d : LineData) : List (Int × Int) :=
  let m := pMode (s.rd (R .CAX_TX_PROFILE c))
  if m = 0 then s.multiplex c fun k => s.symbols (8 * c + k) d.pad y (d.out k).1 (d.out k).2 (d.pay k)
  else Config.oifSignal m y d.client

/-- The depth of carrier `c`'s dither, in hundredths of a per cent (R298). -/
def State.ditherDepth (s : State) (c : Nat) : Nat := (8 + min 8 (s.fld F.PCC_TX_CFG_DEPTH c)) * 25

/-- The bit of the Postcard in progress that the dither of carrier `c` carries now; nothing between Postcards and in the
gaps (R298, R305). -/
def State.ditherBit (s : State) (c : Nat) : Option Bool :=
  ((s.pccT c).active).bind fun p =>
    if (s.pccT c).start ≤ s.us then (postcardBits p)[((s.us - (s.pccT c).start) * s.pccRate c) / 1000]? else none

/-- The frequency of carrier `c`'s dither now, in Hz: the tone, or half the rate above it for a 1 and below it for a 0
(R298). -/
def State.ditherHz (s : State) (c : Nat) : Nat :=
  let f := 100 * toneOf (s.fld F.PCC_TX_CFG_TONE c)
  match s.ditherBit c with
  | some true => f + 500 * s.pccRate c
  | some false => f - 500 * s.pccRate c
  | none => f

/-- The dither's gain d × sin φ at the phase `p`, in 2π / 2²⁴, in 10⁻⁴; without a dither 0 (R298). -/
def State.ditherGain (s : State) (c p : Nat) : Int :=
  if s.pccSends c then s.ditherDepth c * (Config.rotor (p % 2 ^ 24)).2 / 2 ^ 30 else 0

/-- The Postcard dither between stages 8 and 9: a gain of 1 + g/10,000 on all lanes together (R50, R298). -/
def dither (g : Int) (l : List (Int × Int)) : List (Int × Int) :=
  l.map fun x => (x.1 * (10000 + g) / 10000, x.2 * (10000 + g) / 10000)

/-- The logical lanes onto the DAC lanes: SPEC_INV, XY_SWAP and LANE_POL (R58). -/
def State.laneSignal (s : State) (c l : Nat) (x y : List (Int × Int)) : List Int :=
  let m := s.laneOut c l
  let src := if m.1 < 2 then x else y
  let v := if m.1 % 2 = 0 then src.map Prod.fst else src.map Prod.snd
  if m.2 then v.map fun z => -z else v

/-- Tap `t` of lane `l`'s pre-emphasis in force; 0x400 is 1.0 (R60). -/
def State.preTap (s : State) (c l t : Nat) : Int :=
  signed 12 (((s.car c).pre.lookup (32 * l + t)).getD (RegKey.reset (R .CAX_TX_PRE c (32 * l + t)))).toNat

/-- Stage 9: the 17-tap filter of a lane. -/
def State.preEmphasis (s : State) (c l : Nat) (v : List Int) : List Int :=
  (List.range v.length).map fun n =>
    ((List.range 17).map fun t => s.preTap c l t * (if t ≤ n then v.getD (n - t) 0 else 0)).sum / 1024

/-- A DAC word saturated to the 8-bit range (R61). -/
def saturate8 (z : Int) : Int := max (-128) (min 127 z)

/-- Stages 9 to 11 of lane `l`: pre-emphasis, the skew applied, the swing, the saturation (R60 to R63). -/
def State.dacWords (s : State) (c l : Nat) (v : List Int) : List Int :=
  (Config.delay ((s.car c).skew.get 0 l) (s.preEmphasis c l v)).map fun z => saturate8 (Config.dacWord (s.swing c l) z)

/-- The words of DAC lane `l` of carrier `c` at the dither's phase `p`: the whole of Table 3.1 in FILL and SERVICE, zero
differential in every other state (R50, R65). -/
def State.laneWords (s : State) (c l p : Nat) (d : LineData) : List Int :=
  let g := s.ditherGain c p
  if s.dacOn c then
    s.dacWords c l (s.laneSignal c l (dither g (s.lineSignal c false d)) (dither g (s.lineSignal c true d)))
  else []

end Sys2Proof.Machine
end

