-- ==== Sys2Proof/Safety.lean ====
section
/-! DEFINITION. What a well-kept state is, and how claims speak of a command that completes. -/

namespace Sys2Proof.Machine

/-- A memory is in its canonical form: addresses strictly rising, no byte listed that reads as an unlisted one does. -/
def Memory.wf (t : NTab Byte) : Bool := Tab.wf natLt (fun _ => 0) t

/-- The register file is in its canonical form, and no listed register has a reserved bit set (R10). -/
def State.regsOk (s : State) : Bool :=
  Tab.wf RegKey.lt RegKey.reset s.regs && s.regs.all fun e => e.2 &&& ~~~e.1.mask == 0

/-- The invariant of every step: the register file and the three memories are in their canonical form. -/
def State.Inv (s : State) : Prop :=
  s.regsOk = true ∧ Memory.wf s.tack = true ∧ Memory.wf s.ram = true ∧ Memory.wf s.hayMem = true

/-- The command is executed, and the state after it is as `P` says. -/
def Completes (c : Instr) (s : State) (P : State → Prop) : Prop := ∃ t, exec c s = .next t ∧ P t

/-- The parts of the state beside the register file and the queue, under the names of their fields. -/
inductive Piece where
  | fuse | cars | scs | grps | fab | logQ | logLost | logAt | pmkTime | asserted | pccTx | pccRx | pccFifo | flows |
  delin | ports | hay | hayMem | cip | yardSt | mccTx | mccRx | drr | stb | plls | cfgBad | pmk | mon | monSnap |
  monFree | monAt | bins | pwr | retryLane | prbsAcc | prbsInj | links | rmt | img | imgRx | yardTx | tack | ram |
  cal | bst | boot | seqLevel | lcMove | lcAuth | auth | lbCmd | logSeq | winEnd | injAt | segBad | dumpAt | us |
  free
  deriving DecidableEq, Repr

/-- A part is the same after as before; a memory is where every byte of it reads as before. -/
def Piece.same (s t : State) : Piece → Prop
  | .fuse => t.fuse = s.fuse
  | .cars => t.cars = s.cars
  | .scs => t.scs = s.scs
  | .grps => t.grps = s.grps
  | .fab => t.fab = s.fab
  | .logQ => t.logQ = s.logQ
  | .logLost => t.logLost = s.logLost
  | .logAt => t.logAt = s.logAt
  | .pmkTime => t.pmkTime = s.pmkTime
  | .asserted => t.asserted = s.asserted
  | .pccTx => t.pccTx = s.pccTx
  | .pccRx => t.pccRx = s.pccRx
  | .pccFifo => t.pccFifo = s.pccFifo
  | .flows => t.flows = s.flows
  | .delin => t.delin = s.delin
  | .ports => t.ports = s.ports
  | .hay => t.hay = s.hay
  | .hayMem => ∀ a, t.hayMem.get 0 a = s.hayMem.get 0 a
  | .cip => t.cip = s.cip
  | .yardSt => t.yardSt = s.yardSt
  | .mccTx => t.mccTx = s.mccTx
  | .mccRx => t.mccRx = s.mccRx
  | .drr => t.drr = s.drr
  | .stb => t.stb = s.stb
  | .plls => t.plls = s.plls
  | .cfgBad => t.cfgBad = s.cfgBad
  | .pmk => t.pmk = s.pmk
  | .mon => t.mon = s.mon
  | .monSnap => t.monSnap = s.monSnap
  | .monFree => t.monFree = s.monFree
  | .monAt => t.monAt = s.monAt
  | .bins => t.bins = s.bins
  | .pwr => t.pwr = s.pwr
  | .retryLane => t.retryLane = s.retryLane
  | .prbsAcc => t.prbsAcc = s.prbsAcc
  | .prbsInj => t.prbsInj = s.prbsInj
  | .links => t.links = s.links
  | .rmt => t.rmt = s.rmt
  | .img => t.img = s.img
  | .imgRx => t.imgRx = s.imgRx
  | .yardTx => t.yardTx = s.yardTx
  | .tack => ∀ a, t.tack.get 0 a = s.tack.get 0 a
  | .ram => ∀ a, t.ram.get 0 a = s.ram.get 0 a
  | .cal => t.cal = s.cal
  | .bst => t.bst = s.bst
  | .boot => t.boot = s.boot
  | .seqLevel => t.seqLevel = s.seqLevel
  | .lcMove => t.lcMove = s.lcMove
  | .lcAuth => t.lcAuth = s.lcAuth
  | .auth => t.auth = s.auth
  | .lbCmd => t.lbCmd = s.lbCmd
  | .logSeq => t.logSeq = s.logSeq
  | .winEnd => t.winEnd = s.winEnd
  | .injAt => t.injAt = s.injAt
  | .segBad => t.segBad = s.segBad
  | .dumpAt => t.dumpAt = s.dumpAt
  | .us => t.us = s.us
  | .free => t.free = s.free

/-- Registers and pieces of the state that go together. -/
structure Reach where
  regs : List RegId
  pieces : List Piece

/-- What counting an event may change: the performance counters set to it (R401), their overflows and the sample. -/
def Reach.count : Reach :=
  ⟨[.PMC_EVT, .PMC_OVF, .PMC_SAMPLE_SRC, .PMC_SAMPLE_PC, .PMC_SAMPLE_SEG, .PMC_CTR_LO, .PMC_CTR_HI], [.free]⟩

/-- What an entry offered to the event log may change (R400). -/
def Reach.log : Reach :=
  ⟨[.PMC_EVT, .PMC_LOG_DROP], [.logQ, .logLost, .free]⟩

/-- What a register write that the fabric does not let through may change: the record of the error, or of the denied
access, and the accesses that wait; and the mismatches that a write clears (R353, R393, R412, R418, R420). -/
def Reach.write : Reach :=
  ⟨[.DEV_EVT, .DEV_DECODE_ERR, .DEV_DECODE_ADDR, .PMU_EVT, .PMU_ACCESS_ERR, .PMU_ACCESS_ERR_ADDR, .PMC_EVT,
    .PMC_OVF, .PMC_SAMPLE_SRC, .PMC_SAMPLE_PC, .PMC_SAMPLE_SEG, .PMC_CTR_LO, .PMC_CTR_HI, .PMC_LOG_DROP,
    .CORE_MPU_FAULT, .CORE_MPU_FAULT_INFO], [.fab, .logQ, .logLost, .cfgBad, .free]⟩

/-- What follows a change of the held groups: the holds, and the thresholds and the pause that they lead to (R163,
R167). -/
def Reach.holds : Reach :=
  ⟨[.SOF_PORT_STATUS, .SOF_TX_PAUSE_LO, .SOF_TX_PAUSE_HI, .SOF_EVT, .SOF_POOL_STATUS, .SOF_GRP_TXHOLD, .SOF_FP_W4,
    .SOF_PATH_DROP_LO, .SOF_PATH_DROP_HI, .SOF_XOFF_CNT_LO, .SOF_XOFF_CNT_HI, .HAY_RET_STATUS, .PMC_EVT, .PMC_OVF,
    .PMC_SAMPLE_SRC, .PMC_SAMPLE_PC, .PMC_SAMPLE_SEG, .PMC_CTR_LO, .PMC_CTR_HI], [.flows, .ports, .hay, .free]⟩

/-- What follows a change of a group's members (Table 6.12). -/
def Reach.group : Reach :=
  ⟨[.LFM_GRP_STATUS, .LFM_GRP_EVT, .LFM_GRP_FAIL_CNT, .SOF_PORT_STATUS, .SOF_TX_PAUSE_LO, .SOF_TX_PAUSE_HI,
    .SOF_EVT, .SOF_POOL_STATUS, .SOF_GRP_TXHOLD, .SOF_FP_W4, .SOF_PATH_DROP_LO, .SOF_PATH_DROP_HI,
    .SOF_XOFF_CNT_LO, .SOF_XOFF_CNT_HI, .HAY_RET_STATUS, .CIP_EVT, .CIP_SEAL_LOSS, .PMC_EVT, .PMC_OVF,
    .PMC_SAMPLE_SRC, .PMC_SAMPLE_PC, .PMC_SAMPLE_SEG, .PMC_CTR_LO, .PMC_CTR_HI], [.grps, .flows, .delin, .ports,
    .hay, .cip, .free]⟩

/-- What follows a change of a transmitter's causes, with the held groups (R163). -/
def Reach.tx : Reach :=
  ⟨[.CAX_TX_STATUS, .CAX_TX_SHAPE, .CAX_TX_SKEW, .CAX_TX_EVT, .SOF_PORT_STATUS, .SOF_TX_PAUSE_LO, .SOF_TX_PAUSE_HI,
    .SOF_EVT, .SOF_POOL_STATUS, .SOF_GRP_TXHOLD, .SOF_FP_W4, .SOF_PATH_DROP_LO, .SOF_PATH_DROP_HI,
    .SOF_XOFF_CNT_LO, .SOF_XOFF_CNT_HI, .HAY_RET_STATUS, .PCC_EVT, .PCC_TX_STATUS, .PCC_TX_ABORT_CNT, .PMC_EVT,
    .PMC_OVF, .PMC_SAMPLE_SRC, .PMC_SAMPLE_PC, .PMC_SAMPLE_SEG, .PMC_CTR_LO, .PMC_CTR_HI], [.cars, .pccTx, .flows,
    .ports, .hay, .free]⟩

/-- What the detection of a fault may change (R409). -/
def Reach.fault : Reach :=
  ⟨[.CAX_TX_CTRL, .CAX_TX_STATUS, .CAX_TX_SHAPE, .CAX_TX_SKEW, .CAX_TX_EVT, .SOF_PORT_STATUS, .SOF_TX_PAUSE_LO,
    .SOF_TX_PAUSE_HI, .SOF_EVT, .SOF_POOL_STATUS, .SOF_GRP_TXHOLD, .SOF_FP_W4, .SOF_PATH_DROP_LO,
    .SOF_PATH_DROP_HI, .SOF_XOFF_CNT_LO, .SOF_XOFF_CNT_HI, .HAY_RET_STATUS, .PCC_EVT, .PCC_TX_STATUS,
    .PCC_TX_ABORT_CNT, .PMC_EVT, .PMC_OVF, .PMC_SAMPLE_SRC, .PMC_SAMPLE_PC, .PMC_SAMPLE_SEG, .PMC_CTR_LO,
    .PMC_CTR_HI, .PMC_LOG_DROP, .SAF_FAULT_EVT, .SAF_FO_PEND, .SAF_FAULT_CNT, .PMK_STATUS, .PMK_EVT], [.cars,
    .logQ, .logLost, .pccTx, .flows, .ports, .hay, .free]⟩

/-- What follows a change of a carrier's receiver or of its defects, down to its groups. -/
def Reach.line : Reach :=
  ⟨[.CAX_RX_STATUS, .CAX_RX_EVT, .CAX_RX_RELOCK_CNT, .SCX_RX_STATUS, .SCX_RX_EVT, .SCX_FEC_STATUS, .LFM_SC_STATUS,
    .LFM_SC_EVT, .LFM_CA_STATUS, .LFM_GRP_STATUS, .LFM_GRP_EVT, .LFM_GRP_FAIL_CNT, .SOF_PORT_STATUS,
    .SOF_TX_PAUSE_LO, .SOF_TX_PAUSE_HI, .SOF_EVT, .SOF_POOL_STATUS, .SOF_GRP_TXHOLD, .SOF_FP_W4, .SOF_PATH_DROP_LO,
    .SOF_PATH_DROP_HI, .SOF_XOFF_CNT_LO, .SOF_XOFF_CNT_HI, .HAY_RET_STATUS, .CIP_EVT, .CIP_SEAL_LOSS, .PMC_EVT,
    .PMC_OVF, .PMC_SAMPLE_SRC, .PMC_SAMPLE_PC, .PMC_SAMPLE_SEG, .PMC_CTR_LO, .PMC_CTR_HI], [.cars, .scs, .grps,
    .pccTx, .flows, .delin, .ports, .hay, .cip, .free]⟩

/-- What follows a change of a receiver's OFF causes (R84, R93). -/
def Reach.rx : Reach :=
  ⟨[.CAX_CHG_STATUS, .CAX_RX_STATUS, .CAX_RX_CD_EST, .CAX_RX_FOFS, .CAX_RX_CLK_OFS, .CAX_RX_EVT, .CAX_RX_LOS_CNT,
    .CAX_RX_RELOCK_CNT, .CAX_RX_ACQ_CNT, .SCX_RX_STATUS, .SCX_RX_EVT, .SCX_FEC_STATUS, .LFM_SC_STATUS, .LFM_SC_EVT,
    .LFM_CA_STATUS, .LFM_GRP_STATUS, .LFM_GRP_EVT, .LFM_GRP_FAIL_CNT, .SOF_PORT_STATUS, .SOF_TX_PAUSE_LO,
    .SOF_TX_PAUSE_HI, .SOF_EVT, .SOF_POOL_STATUS, .SOF_GRP_TXHOLD, .SOF_FP_W4, .SOF_PATH_DROP_LO,
    .SOF_PATH_DROP_HI, .SOF_XOFF_CNT_LO, .SOF_XOFF_CNT_HI, .HAY_RET_STATUS, .CIP_EVT, .CIP_SEAL_LOSS, .PMC_EVT,
    .PMC_OVF, .PMC_SAMPLE_SRC, .PMC_SAMPLE_PC, .PMC_SAMPLE_SEG, .PMC_CTR_LO, .PMC_CTR_HI], [.cars, .scs, .grps,
    .pccTx, .flows, .delin, .ports, .hay, .cip, .free]⟩

/-- What follows a change of an outgoing quality level (Table 13.3). -/
def Reach.level : Reach :=
  ⟨[], [.pccTx, .stb]⟩

/-- What follows a change of a domain or a reset: every carrier, subcarrier, group, port and candidate brought up to
date. -/
def Reach.all : Reach :=
  ⟨[.CAX_CHG_STATUS, .CAX_TX_STATUS, .CAX_TX_SHAPE, .CAX_TX_SKEW, .CAX_TX_EVT, .CAX_RX_STATUS, .CAX_RX_CD_EST,
    .CAX_RX_FOFS, .CAX_RX_CLK_OFS, .CAX_RX_EVT, .CAX_RX_LOS_CNT, .CAX_RX_RELOCK_CNT, .CAX_RX_ACQ_CNT,
    .SCX_RX_STATUS, .SCX_RX_EVT, .SCX_FEC_STATUS, .LFM_SC_STATUS, .LFM_SC_EVT, .LFM_CA_STATUS, .LFM_GRP_STATUS,
    .LFM_GRP_EVT, .LFM_GRP_FAIL_CNT, .SOF_PORT_STATUS, .SOF_TX_PAUSE_LO, .SOF_TX_PAUSE_HI, .SOF_EVT,
    .SOF_POOL_STATUS, .SOF_GRP_TXHOLD, .SOF_FP_W4, .SOF_PATH_DROP_LO, .SOF_PATH_DROP_HI, .SOF_XOFF_CNT_LO,
    .SOF_XOFF_CNT_HI, .HAY_RET_STATUS, .CIP_EVT, .CIP_SEAL_LOSS, .YL_STATUS, .MON_STATUS, .MON_PAIR_CFG,
    .MON_PAIR_STATUS, .MON_BIN_CFG, .MON_BIN_FREQ, .PCC_STATUS, .PCC_EVT, .PCC_TX_STATUS, .PCC_TX_ABORT_CNT,
    .PCC_SLOT_STATUS, .PMC_EVT, .PMC_OVF, .PMC_SAMPLE_SRC, .PMC_SAMPLE_PC, .PMC_SAMPLE_SEG, .PMC_CTR_LO,
    .PMC_CTR_HI, .PMK_STATUS, .PMK_EVT], [.cars, .scs, .grps, .pccTx, .pccRx, .flows, .delin, .ports, .hay, .cip,
    .stb, .mon, .bins, .free]⟩

/-- Every register. -/
def Reach.registers : Reach := ⟨Page.all.flatMap Page.regs, []⟩

/-- The command `c` leaves unchanged every register and every piece of the state but those named in `regs` and `pieces`
and those of `near`. -/
def Leaves (near : List Reach) (regs : List RegId) (pieces : List Piece) (c : Instr) : Prop :=
  ∀ s t, exec c s = .next t →
    (∀ k : RegKey, k.id ∉ regs → (∀ r ∈ near, k.id ∉ r.regs) → t.rd k = s.rd k) ∧
    ∀ p, p ∉ pieces → (∀ r ∈ near, p ∉ r.pieces) → p.same s t

/-- The command `c` leaves the named pieces of the state unchanged. -/
def Keeps (pieces : List Piece) (c : Instr) : Prop := ∀ s t, exec c s = .next t → ∀ p ∈ pieces, p.same s t

/-- Of the registers `regs`, the command `c` changes only those of instance `i`. -/
def Only (regs : List RegId) (i : Nat) (c : Instr) : Prop :=
  ∀ s t, exec c s = .next t → ∀ k : RegKey, k.id ∈ regs → k.i ≠ i → t.rd k = s.rd k

/-- The read-back is up to date (R180): no flow with a window has a line left to ask for. -/
def State.readUp (s : State) : Bool :=
  s.hayFlows.all fun f => !s.hasWindow f || decide ((s.flow f).hayIn ≤ 64 * (s.flow f).hayRd) ||
    decide ((s.flow f).hayOut / 64 + 1024 ≤ (s.flow f).hayRd)

/-- A write by `m` to register `k` reaches the register: the master may issue it, no protection region denies it,
nothing holds it back, the address is a register's, and its block is ON and out of reset (R353, R393, R418, R420). -/
def State.accepts (s : State) (m : Master) (k : RegKey) : Bool :=
  s.canIssue m && !s.denied m k.addr 1 && !s.holdsBack m && k.valid && s.regOn k && !s.stalls k

/-- The state as an accepted write finds it: a mismatch in the register's fields is gone (R412). -/
def State.rewritten (s : State) (k : RegKey) : State := { s with cfgBad := s.cfgBad.filter (· != k) }

end Sys2Proof.Machine
end

