-- ==== Sys2Proof/Certificates/Slice0/Obligations.lean ====
section
/-! DEFINITION. The statements about the model, for the provers: each command completes with its effect, what it leaves
unchanged, and the rules of the whole block. -/

section Statements

open Sys2Proof Sys2Proof.Machine

/-- The commands about changes of a carrier's line profile complete, each with its effect as the clause says: GO,
  CANCEL, ANNOUNCE, MULTIFRAME_TX, SWITCH, CHG_DONE, HOLD_TIMEOUT. -/
def Obligations.CarrierChangeCommandsComplete : Prop :=
  (∀ s m c v, s.accepts m (R .CAX_CHG_CTRL c) = true → F.CAX_CHG_CTRL_GO.get v = 1 →
    F.CAX_CHG_CTRL_CANCEL.get v = 0 → s.fld F.CAX_CHG_STATUS_STATE c = 0 →
    s.rd (R .CAX_TX_NEXT c) ≠ s.rd (R .CAX_TX_PROFILE c) → profCode (s.rd (R .CAX_TX_NEXT c)) = 0 →
    s.wouldLose c (s.rd (R .CAX_TX_NEXT c)) = false → pMode (s.rd (R .CAX_TX_NEXT c)) = 0 →
    pMode (s.rd (R .CAX_TX_PROFILE c)) = 0 → s.fld F.CAX_TX_STATUS_TXSTATE c = 4 →
    Completes (.go m c v) s fun t => t.fld F.CAX_CHG_STATUS_STATE c = 1 ∧ t.fld F.CAX_CHG_STATUS_COUNT c = 16 ∧
    (t.car c).latched = s.rd (R .CAX_TX_NEXT c)) ∧
  (∀ s m c v, s.accepts m (R .CAX_CHG_CTRL c) = true → F.CAX_CHG_CTRL_GO.get v = 0 →
    F.CAX_CHG_CTRL_CANCEL.get v = 1 → s.fld F.CAX_CHG_STATUS_STATE c = 1 → 2 ≤ s.fld F.CAX_CHG_STATUS_COUNT c →
    Completes (.cancel m c v) s fun t => t.fld F.CAX_CHG_STATUS_STATE c = 0 ∧
    t.flag F.CAX_LINE_EVT_CHG_CANCELLED c = true) ∧
  (∀ s c, s.carOn c = true → s.fld F.CAX_CHG_STATUS_STATE c = 1 →
    Completes (.announce c) s fun t => (t.car c).onLine = true) ∧
  (∀ s c, s.carOn c = true → s.fld F.CAX_CHG_STATUS_STATE c = 1 → (s.car c).onLine = true →
    2 ≤ s.fld F.CAX_CHG_STATUS_COUNT c → Completes (.multiframeTx c) s fun t => t.fld F.CAX_CHG_STATUS_COUNT c =
    s.fld F.CAX_CHG_STATUS_COUNT c - 1) ∧
  (∀ s c, s.carOn c = true → s.fld F.CAX_CHG_STATUS_STATE c = 1 → (s.car c).onLine = true →
    s.fld F.CAX_CHG_STATUS_COUNT c = 1 → (s.car c).rateChg = false →
    Completes (.switch c) s fun t => t.fld F.CAX_CHG_STATUS_STATE c = 0 ∧ t.flag F.CAX_LINE_EVT_CHG_DONE c = true ∧
    t.rd (R .CAX_TX_PROFILE c) = (s.car c).latched &&& (R .CAX_TX_PROFILE c).mask) ∧
  (∀ s c, s.carOn c = true → s.fld F.CAX_CHG_STATUS_STATE c = 2 → (s.car c).oifWait = false →
    s.flag F.CAX_TX_STATUS_RECONF c = false → Completes (.chgDone c) s fun t => t.flag F.CAX_LINE_EVT_CHG_DONE c =
    true ∧ t.fld F.CAX_CHG_STATUS_STATE c = if (s.car c).hold then 3 else 0) ∧
  (∀ s c, s.carOn c = true → (s.car c).hold = true → Completes (.holdTimeout c) s fun t => (t.car c).hold = false ∧
    t.flag F.CAX_LINE_EVT_HOLD_TIMEOUT c = true)

/-- The commands about the transmitter of a carrier: its states, mutes, clocks, pre-emphasis and skew complete,
  each with its effect as the clause says: LASER_ON, MUTE, SETTLE_ELAPSED, SERVICE_ENTERED, CLK_FAULT, TX_CLK_LOCK,
  SEG_ERR, APPLY, TX_PRE_COPY_DONE, CLIP, TX_SKEW_WRITE, SKEW_RAMP. -/
def Obligations.TransmitterCommandsComplete : Prop :=
  (∀ s m c v, s.accepts m (R .CAX_TX_CTRL c) = true → F.CAX_TX_CTRL_LASER_ON.get v = 1 →
    Completes (.laserOn m c v) s fun t => t.flag F.CAX_TX_CTRL_LASER_ON c = true) ∧
  (∀ s m c v, s.accepts m (R .CAX_TX_CTRL c) = true → F.CAX_TX_CTRL_MUTE.get v = 1 →
    Completes (.mute m c v) s fun t => t.flag F.CAX_TX_CTRL_MUTE c = true) ∧
  (∀ s c, s.carOn c = true → s.fld F.CAX_TX_STATUS_TXSTATE c = 1 → (s.txCauses c).txDark c = false →
    (s.txCauses c).txMute c = false → Completes (.settleElapsed c) s fun t => t.fld F.CAX_TX_STATUS_TXSTATE c = 3) ∧
  (∀ s c, s.carOn c = true → s.fld F.CAX_TX_STATUS_TXSTATE c = 3 → (s.car c).fillMf = true →
    (s.car c).hold = false → Completes (.serviceEntered c) s fun t => t.fld F.CAX_TX_STATUS_TXSTATE c = 4 ∧
    t.flag F.CAX_TX_EVT_SERVICE_ENTERED c = true) ∧
  (∀ s c, s.carOn c = true → Completes (.clkFault c) s fun t => t.rdN (R .SAF_FAULT_CNT 0) = min (s.rdN (R
    .SAF_FAULT_CNT 0) + 1) 0xFFFFFFFF) ∧
  (∀ s c, s.carOn c = true → s.inj 0x01 (2 * c) = false →
    Completes (.txClkLock c) s fun t => t.flag F.CAX_TX_STATUS_CLK c = false ∧
    t.flag F.CAX_TX_STATUS_RECONF c = false) ∧
  (∀ s c, s.carOn c = true → s.fld F.CAX_TX_STATUS_TXSTATE c = 4 →
    Completes (.segErr c) s fun t => t.rdN (R .CAX_TX_SEG_ERR c) = min (s.rdN (R .CAX_TX_SEG_ERR c) + 1) 0xFFFFFFFF
    ∧ t.rdN (R .SAF_FAULT_CNT 8) = min (s.rdN (R .SAF_FAULT_CNT 8) + 1) 0xFFFFFFFF) ∧
  (∀ s m c v, s.accepts m (R .CAX_TX_PRE_APPLY c) = true → F.CAX_TX_PRE_APPLY_APPLY.get v = 1 →
    Completes (.txPreApply m c v) s fun t => t.flag F.CAX_TX_PRE_APPLY_PENDING c = true) ∧
  (∀ s c, s.carOn c = true → s.flag F.CAX_TX_PRE_APPLY_PENDING c = true → s.fab.waits = [] →
    Completes (.txPreCopyDone c) s fun t => t.flag F.CAX_TX_PRE_APPLY_PENDING c = false) ∧
  (∀ s c l, s.carOn c = true → l < 4 → Completes (.clip c l) s fun t => t.rdN (R .CAX_TX_CLIP_CNT c l) = min (s.rdN
    (R .CAX_TX_CLIP_CNT c l) + 1) 0xFFFFFFFF ∧ t.flag F.CAX_TX_EVT_CLIP c = true) ∧
  (∀ s m c l v, s.accepts m (R .CAX_TX_SKEW c l) = true →
    Completes (.txSkewWrite m c l v) s fun t => t.fld F.CAX_TX_SKEW_BOARD c l = F.CAX_TX_SKEW_BOARD.get v) ∧
  (∀ s c l, s.carOn c = true → l < 4 → s.flag F.CAX_TX_SKEW_RAMPING c l = true →
    s.fld F.CAX_TX_STATUS_TXSTATE c = 4 → (s.car c).skew.get 0 l < skewClamp (s.skewSum c l) →
    Completes (.skewRamp c l) s fun t => (t.car c).skew.get 0 l = (s.car c).skew.get 0 l + 1)

/-- The commands about the receiver following the far end's profile and dispersion range complete,
  each with its effect as the clause says: RX_PROFILE_WRITE, MULTIFRAME_RX, RX_FOLLOWED, DESC_ADOPTED, EXP_CD_RANGE,
  EXP_CD_RETURN, EXP_STEP_MOVE. -/
def Obligations.ReceiverProfileCommandsComplete : Prop :=
  (∀ s m c v, s.accepts m (R .CAX_RX_PROFILE c) = true → profCode (v &&& (R .CAX_RX_PROFILE c).mask) = 0 →
    Completes (.rxProfileWrite m c v) s fun t => t.rd (R .CAX_RX_PROFILE c) = v &&& (R .CAX_RX_PROFILE c).mask) ∧
  (∀ s c marks, s.carOn c = true → s.rxMode c = 0 → (s.car c).shapePend = true →
    Completes (.multiframeRx c marks) s fun t => t.fld F.CAX_RX_SHAPE_ROLLOFF_ACT c = min (max (s.fld
    F.CAX_RX_SHAPE_ROLLOFF c) 2) 10) ∧
  (∀ s c w, s.carOn c = true → (s.car c).armed = some (w, 1) →
    Completes (.rxFollowed c) s fun t => t.rd (R .CAX_RX_PROFILE c) = w &&& (R .CAX_RX_PROFILE c).mask ∧
    t.flag F.CAX_LINE_EVT_RX_FOLLOWED c = true) ∧
  (∀ s c w, s.carOn c = true → (s.car c).rdDesc = some w → s.flag F.CAX_CHG_CTRL_FOLLOW c = true →
    Completes (.descAdopted c) s fun t => t.rd (R .CAX_RX_PROFILE c) = w &&& (R .CAX_RX_PROFILE c).mask ∧
    t.flag F.CAX_LINE_EVT_RX_FOLLOWED c = true) ∧
  (∀ s c cd, s.carOn c = true → 27200 < cd.natAbs → s.flag F.CAX_RX_CD_EST_CD_VALID c = true → s.rxMode c = 0 →
    s.flag F.CAX_CHG_STATUS_EXP_CD_OUT c = false → Completes (.expCdRange c cd) s fun t => t.flag
    F.CAX_LINE_EVT_EXP_CD_RANGE c = true) ∧
  (∀ s c cd, s.carOn c = true → cd.natAbs ≤ 26400 → s.flag F.CAX_RX_CD_EST_CD_VALID c = true → s.rxMode c = 0 →
    Completes (.expCdReturn c cd) s fun t => t.flag F.CAX_CHG_STATUS_EXP_CD_OUT c = false ∧
    t.fld F.CAX_RX_CD_EST_CD c = unsigned 20 cd) ∧
  (∀ s c cd, s.carOn c = true → s.fld F.CAX_RX_STATUS_RXSTATE c = 2 → 1 ≤ s.fld F.CAX_RX_CD_EST_EXP_STEP c →
    s.fld F.CAX_RX_CD_EST_EXP_STEP c ≤ 3 → 5440 * (s.fld F.CAX_RX_CD_EST_EXP_STEP c + 1) ≤ cd.natAbs + 400 →
    Completes (.expStepMove c cd) s fun t => t.fld F.CAX_RX_CD_EST_EXP_STEP c = s.fld F.CAX_RX_CD_EST_EXP_STEP c +
    1)

/-- The commands about a receiver's acquisition, loss of signal and clock faults complete,
  each with its effect as the clause says: RX_EN, ACQ_RESTART, ACQ_STEP, ACQ_TIMEOUT, RELOCK_FAIL, LOS, LOS_CLEAR,
  ADC_CLK_FAULT, ADC_CLK_LOCK, CLK_LOL. -/
def Obligations.AcquisitionCommandsComplete : Prop :=
  (∀ s m c v, s.accepts m (R .CAX_RX_CTRL c) = true → s.carOn c = true → F.CAX_RX_CTRL_RX_EN.get v = 0 →
    1 ≤ s.fld F.CAX_RX_STATUS_RXSTATE c → F.CAX_RX_CTRL_ACQ_RESTART.get v = 0 →
    Completes (.rxEn m c v) s fun t => t.fld F.CAX_RX_STATUS_RXSTATE c = 0 ∧ t.flag F.CAX_RX_CTRL_RX_EN c = false) ∧
  (∀ s m c v, s.accepts m (R .CAX_RX_CTRL c) = true → F.CAX_RX_CTRL_RX_EN.get v = 1 →
    F.CAX_RX_CTRL_ACQ_RESTART.get v = 1 → s.fld F.CAX_RX_STATUS_RXSTATE c = 2 → s.carOn c = true →
    s.asking (4 + c) = false → s.idleAsked (4 + c) (caxPage c) = false → s.flag F.CAX_TX_STATUS_TEST c = false →
    bitOf (s.rd (R .DEV_CFG_APPLIED)) (4 + c) = true → Completes (.acqRestart m c v) s fun t => t.fld
    F.CAX_RX_STATUS_RXSTATE c = 1 ∧ t.fld F.CAX_RX_CD_EST_EXP_STEP c = 0 ∧
    t.rdN (R .CAX_RX_ACQ_CNT c) = min (s.rdN (R .CAX_RX_ACQ_CNT c) + 1) 0xFFFFFFFF) ∧
  (∀ s c v, s.carOn c = true → (s.car c).seq = .cold → s.fld F.CAX_RX_STATUS_ACQ_STEP c = 0 →
    max (s.fld F.CAX_RX_LOS_CFG_LOS_TH c) 1 ≤ v.toNat →
    Completes (.acqStep c (.done v)) s fun t => t.flag F.CAX_RX_STATUS_SIG c = true) ∧
  (∀ s c v, s.carOn c = true → (s.car c).seq = .cold → s.fld F.CAX_RX_STATUS_ACQ_STEP c = 1 → v.natAbs ≤ 3600 →
    Completes (.acqStep c (.done v)) s fun t => t.flag F.CAX_RX_STATUS_FOFS_LOCK c = true ∧
    t.flag F.CAX_RX_FOFS_FOFS_VALID c = true ∧ t.fld F.CAX_RX_FOFS_OFS c = unsigned 16 v) ∧
  (∀ s c v, s.carOn c = true → (s.car c).seq = .cold → s.fld F.CAX_RX_STATUS_ACQ_STEP c = 2 → v.natAbs ≤ 480000 →
    Completes (.acqStep c (.done v)) s fun t => t.flag F.CAX_RX_CD_EST_CD_VALID c = true) ∧
  (∀ s c v, s.carOn c = true → (s.car c).seq = .cold → s.fld F.CAX_RX_STATUS_ACQ_STEP c = 3 →
    v.natAbs ≤ 1000000000 → Completes (.acqStep c (.done v)) s fun t => t.flag F.CAX_RX_STATUS_CLK_LOCK c = true ∧
    t.rdN (R .CAX_RX_CLK_OFS c) = unsigned 32 v) ∧
  (∀ s c, s.carOn c = true → (s.car c).seq = .cold → s.fld F.CAX_RX_STATUS_ACQ_STEP c = 4 → s.rxMode c = 0 →
    Completes (.acqStep c .orient) s fun t => t.flag F.CAX_RX_STATUS_ORIENT c = true ∧
    t.flag F.CAX_RX_EVT_ORIENT c = true) ∧
  (∀ s c, s.carOn c = true → (s.car c).seq = .cold → 1 ≤ s.fld F.CAX_RX_STATUS_ACQ_STEP c →
    s.fld F.CAX_RX_STATUS_ACQ_STEP c ≤ 4 → Completes (.acqTimeout c) s fun t => t.fld F.CAX_RX_STATUS_RXSTATE c = 1
    ∧ t.flag F.CAX_RX_EVT_ACQ_TIMEOUT c = true ∧ t.rdN (R .CAX_RX_ACQ_CNT c) = min (s.rdN (R .CAX_RX_ACQ_CNT c) + 1)
    0xFFFFFFFF) ∧
  (∀ s c, s.carOn c = true → (s.car c).seq = .warm → 1 ≤ s.fld F.CAX_RX_STATUS_ACQ_STEP c →
    s.fld F.CAX_RX_STATUS_ACQ_STEP c ≤ 4 → Completes (.relockFail c) s fun t => t.fld F.CAX_RX_STATUS_RXSTATE c = 1
    ∧ t.flag F.CAX_RX_EVT_RELOCK_FAIL c = true ∧ t.rdN (R .CAX_RX_ACQ_CNT c) = min (s.rdN (R .CAX_RX_ACQ_CNT c) + 1)
    0xFFFFFFFF) ∧
  (∀ s c rms, s.carOn c = true → s.fld F.CAX_RX_STATUS_RXSTATE c = 2 →
    rms < max (s.fld F.CAX_RX_LOS_CFG_LOS_TH c) 1 → Completes (.los c rms) s fun t => t.fld F.CAX_RX_STATUS_RXSTATE
    c = 4 ∧ t.flag F.CAX_RX_EVT_LOS c = true ∧ t.rdN (R .CAX_RX_LOS_CNT c) = min (s.rdN (R .CAX_RX_LOS_CNT c) + 1)
    0xFFFFFFFF) ∧
  (∀ s c rms, s.carOn c = true → s.fld F.CAX_RX_STATUS_RXSTATE c = 4 → (s.car c).adcFault = false →
    max (s.fld F.CAX_RX_LOS_CFG_LOS_TH c) 1 + s.fld F.CAX_RX_LOS_CFG_LOS_HYST c ≤ rms →
    Completes (.losClear c rms) s fun t => t.flag F.CAX_RX_STATUS_SIG c = true ∧
    t.flag F.CAX_RX_EVT_LOS_CLEAR c = true) ∧
  (∀ s c, s.carOn c = true → s.fld F.CAX_RX_STATUS_RXSTATE c = 2 →
    Completes (.adcClkFault c) s fun t => t.fld F.CAX_RX_STATUS_RXSTATE c = 4 ∧
    t.flag F.CAX_RX_EVT_ADC_CLK_FAULT c = true) ∧
  (∀ s c, s.carOn c = true → s.inj 0x01 (2 * c + 1) = false →
    Completes (.adcClkLock c) s fun t => (t.car c).adcFault = false) ∧
  (∀ s c, s.carOn c = true → s.flag F.CAX_RX_STATUS_CLK_LOCK c = true →
    Completes (.clkLol c) s fun t => t.flag F.CAX_RX_STATUS_CLK_LOCK c = false ∧
    t.flag F.CAX_RX_EVT_CLK_LOL c = true)

/-- The commands about a receiver's locks, degradations, measurements and snapshots complete,
  each with its effect as the clause says: SC_LOST, RECONV_TIMEOUT, SC_LOCKED, DEG_SET, DEG_CLEAR, SOP_TRANSIENT,
  SLIP, FOFS_RANGE, BOOST_MISMATCH, RX_SHAPE_WRITE, SNAPSHOT, STORE_EXPIRED, CD_FINE, SLICE_SWAP, ADC_CLIP. -/
def Obligations.ReceiverMeasurementCommandsComplete : Prop :=
  (∀ s i, s.carOn (scCar i) = true → s.fld F.SCX_RX_STATUS_SCSTATE i = 2 →
    s.fld F.CAX_RX_STATUS_SC_LOCKED (scCar i) &&& (255 - 2 ^ (i % 8)) ≠ 0 →
    Completes (.scLost i) s fun t => t.flag F.SCX_RX_EVT_LOST i = true ∧ t.fld F.SCX_RX_STATUS_SCSTATE i = 3) ∧
  (∀ s i, s.carOn (scCar i) = true → s.fld F.SCX_RX_STATUS_SCSTATE i = 3 →
    Completes (.reconvTimeout i) s fun t => (t.sc i).eq = none) ∧
  (∀ s i, s.carOn (scCar i) = true → s.fld F.CAX_RX_STATUS_RXSTATE (scCar i) = 2 →
    s.fld F.SCX_RX_STATUS_SCSTATE i = 3 → Completes (.scLocked i) s fun t => t.fld F.SCX_RX_STATUS_SCSTATE i = 2 ∧
    t.flag F.SCX_RX_EVT_LOCKED i = true ∧ t.rdN (R .SCX_RX_RECONV_CNT i) = min (s.rdN (R .SCX_RX_RECONV_CNT i) + 1)
    0xFFFFFFFF) ∧
  (∀ s i w, s.carOn (scCar i) = true → 1 ≤ s.fld F.CAX_RX_STATUS_RXSTATE (scCar i) →
    s.fld F.CAX_RX_STATUS_RXSTATE (scCar i) ≤ 3 → s.fld F.SCX_RX_STATUS_SCSTATE i = 1 →
    s.searches (scCar i) = true → (s.car (scCar i)).search = some (i, w) →
    Completes (.scLocked i) s fun t => t.fld F.SCX_RX_STATUS_SCSTATE i = 2 ∧ t.flag F.SCX_RX_EVT_LOCKED i = true ∧
    t.fld F.CAX_RX_STATUS_RXSTATE (scCar i) = 2) ∧
  (∀ s i, s.carOn (scCar i) = true → 1 ≤ s.fld F.SCX_RX_CFG_DEG_TH i → s.flag F.SCX_RX_STATUS_DEG i = false →
    Completes (.degSet i) s fun t => t.flag F.SCX_RX_STATUS_DEG i = true ∧ t.flag F.SCX_RX_EVT_DEG_SET i = true) ∧
  (∀ s i, s.carOn (scCar i) = true → s.flag F.SCX_RX_STATUS_DEG i = true →
    Completes (.degClear i) s fun t => t.flag F.SCX_RX_STATUS_DEG i = false ∧
    t.flag F.SCX_RX_EVT_DEG_CLEAR i = true) ∧
  (∀ s i rate, s.carOn (scCar i) = true → muFigure (s.fld F.SCX_RX_CFG_MU i) < rate →
    Completes (.sopTransient i rate) s fun t => t.flag F.SCX_RX_EVT_SOP_TRANSIENT i = true ∧
    (t.sc i).fecCur.sop = if s.sec ≤ (s.sc i).fecSec then max (s.sc i).fecCur.sop (min rate 0xFFFF) else (s.sc
    i).fecCur.sop) ∧
  (∀ s i, s.carOn (scCar i) = true → s.fld F.SCX_RX_STATUS_SCSTATE i = 2 →
    Completes (.slip i) s fun t => t.flag F.SCX_RX_EVT_SLIP i = true ∧
    t.rdN (R .SCX_RX_SLIP_CNT i) = min (s.rdN (R .SCX_RX_SLIP_CNT i) + 1) 0xFFFFFFFF) ∧
  (∀ s c v, s.carOn c = true → s.fld F.CAX_RX_STATUS_RXSTATE c = 2 →
    3800 < v.natAbs ∨ 100 < (v - signed 16 (s.fld F.CAX_RX_FOFS_OFS c)).natAbs → Completes (.fofsRange ⟨c,
    v⟩) s fun t => t.flag F.CAX_RX_EVT_FOFS_RANGE c = true ∧ t.fld F.CAX_RX_FOFS_OFS c = unsigned 16 v) ∧
  (∀ s c meas, s.carOn c = true → s.fld F.CAX_RX_STATUS_RXSTATE c = 2 → s.rxMode c = 0 → meas < 8 →
    meas ≠ (s.car c).boost → Completes (.boostMismatch c meas) s fun t => t.flag F.CAX_RX_EVT_BOOST_MISMATCH c =
    true ∧ t.fld F.CAX_RX_SHAPE_BOOST_MEAS c = meas) ∧
  (∀ s m c v, s.accepts m (R .CAX_RX_SHAPE c) = true → s.fld F.CAX_RX_STATUS_RXSTATE c = 0 →
    F.CAX_RX_SHAPE_SPEC_INV.get v = s.fld F.CAX_RX_SHAPE_SPEC_INV c →
    Completes (.rxShapeWrite m c v) s fun t => t.fld F.CAX_RX_SHAPE_ROLLOFF_ACT c = min (max
    (F.CAX_RX_SHAPE_ROLLOFF.get v) 2) 10) ∧
  (∀ s m c v, s.accepts m (R .CAX_RX_SHAPE c) = true → s.fld F.CAX_RX_STATUS_RXSTATE c = 2 →
    F.CAX_RX_SHAPE_SPEC_INV.get v = s.fld F.CAX_RX_SHAPE_SPEC_INV c →
    Completes (.rxShapeWrite m c v) s fun t => t.fld F.CAX_RX_SHAPE_ROLLOFF_ACT c = s.fld F.CAX_RX_SHAPE_ROLLOFF_ACT
    c ∧ (t.car c).shapePend = true) ∧
  (∀ s c x, s.carOn c = true → s.fld F.CAX_RX_STATUS_RXSTATE c = 2 →
    max (s.fld F.CAX_RX_LOS_CFG_LOS_TH c) 1 ≤ x.rms → x.clk.natAbs ≤ 1000000000 →
    Completes (.snapshot c x) s fun t => t.fld F.CAX_RX_FOFS_OFS c = unsigned 16 x.fofs ∧
    t.fld F.CAX_RX_LOS_CFG_RMS c = min x.rms 127) ∧
  (∀ s c, s.carOn c = true → s.fld F.CAX_RX_STATUS_RXSTATE c ≠ 2 →
    Completes (.storeExpired c) s fun t => (t.car c).snaps = [] ∧ t.flag F.CAX_RX_STATUS_STORE_VALID c = false) ∧
  (∀ s c, s.carOn c = true → s.fld F.CAX_RX_STATUS_RXSTATE c = 2 → s.flag F.CAX_RX_CD_EST_CD_VALID c = true →
    Completes (.cdFine c) s fun t => t.flag F.CAX_RX_CD_EST_CD_FINE c = true) ∧
  (∀ s c l n since, s.carOn c = true → l < 4 → (s.calLane c l).want = some (n, true, since) →
    s.swapMay c since = true → Completes (.sliceSwap c l n) s fun t => t.fld F.CAX_RX_ILV_STATUS_SLICE c l = n % 2 ^
    7 ∧ t.fld F.CAX_RX_ILV_STATUS_SWAP_CNT c l = (s.fld F.CAX_RX_ILV_STATUS_SWAP_CNT c l + 1) % 2 ^ 16 ∧
    (t.calLane c l).cur = some n ∧ (t.calLane c l).want = none) ∧
  (∀ s c l, s.carOn c = true → l < 4 → Completes (.adcClip c l) s fun t => t.flag F.CAX_RX_EVT_ADC_CLIP c = true ∧
    t.rdN (R .CAX_RX_ADC_CLIP_CNT c l) = min (s.rdN (R .CAX_RX_ADC_CLIP_CNT c l) + 1) 0xFFFFFFFF)

/-- The commands about the forward error correction of a subcarrier complete,
  each with its effect as the clause says: DECODE, UNC_DEFECT_SET, UNC_DEFECT_CLEAR, PREFEC_DEG_SET,
  PREFEC_DEG_CLEAR, FEC_TOT_CLR, FEC_SEC_LATCH. -/
def Obligations.DecoderCommandsComplete : Prop :=
  (∀ s i w, s.decodes i w = true → w.unc = false → w.parity = false →
    Completes (.decode i w) s fun t => t.rd64 (R .SCX_FEC_TOT_CW_LO i) (R .SCX_FEC_TOT_CW_HI i) = (s.rd64 (R
    .SCX_FEC_TOT_CW_LO i) (R .SCX_FEC_TOT_CW_HI i) + 1) % 2 ^ 64 ∧
    t.rd64 (R .SCX_FEC_TOT_CORR_LO i) (R .SCX_FEC_TOT_CORR_HI i) = (s.rd64 (R .SCX_FEC_TOT_CORR_LO i) (R
    .SCX_FEC_TOT_CORR_HI i) + w.corrected) % 2 ^ 64) ∧
  (∀ s i w, s.decodes i w = true → w.unc = true → Completes (.decode i w) s fun t => t.flag F.SCX_FEC_EVT_UNC i =
    true ∧ t.rd64 (R .SCX_FEC_TOT_CW_LO i) (R .SCX_FEC_TOT_CW_HI i) = (s.rd64 (R .SCX_FEC_TOT_CW_LO i) (R
    .SCX_FEC_TOT_CW_HI i) + 1) % 2 ^ 64 ∧ t.rd64 (R .SCX_FEC_TOT_UNC_LO i) (R .SCX_FEC_TOT_UNC_HI i) = (s.rd64 (R
    .SCX_FEC_TOT_UNC_LO i) (R .SCX_FEC_TOT_UNC_HI i) + 1) % 2 ^ 64) ∧
  (∀ s i, s.fecOn i = true → s.flag F.SCX_FEC_STATUS_UNC_DEFECT i = false → 3 ≤ (s.winNow i).uncRun →
    Completes (.uncDefectSet i) s fun t => t.flag F.SCX_FEC_EVT_UNC_DEFECT_SET i = true) ∧
  (∀ s i, s.fecOn i = true → s.flag F.SCX_FEC_STATUS_UNC_DEFECT i = true → 10 ≤ (s.winNow i).clean →
    Completes (.uncDefectClear i) s fun t => t.flag F.SCX_FEC_EVT_UNC_DEFECT_CLEAR i = true) ∧
  (∀ s i, s.fecOn i = true → 1 ≤ s.fld F.SCX_FEC_CFG_DEG_PCT i → s.flag F.SCX_FEC_STATUS_PREFEC_DEG i = false →
    10 ≤ (s.winNow i).deg → Completes (.prefecDegSet i) s fun t => t.flag F.SCX_FEC_STATUS_PREFEC_DEG i = true ∧
    t.flag F.SCX_FEC_EVT_PREFEC_DEG_SET i = true) ∧
  (∀ s i, s.fecOn i = true → s.flag F.SCX_FEC_STATUS_PREFEC_DEG i = true → 100 ≤ (s.winNow i).fine →
    Completes (.prefecDegClear i) s fun t => t.flag F.SCX_FEC_STATUS_PREFEC_DEG i = false ∧
    t.flag F.SCX_FEC_EVT_PREFEC_DEG_CLEAR i = true) ∧
  (∀ s m i v, s.accepts m (R .SCX_FEC_CTRL i) = true → F.SCX_FEC_CTRL_TOT_CLR.get v = 1 →
    Completes (.fecTotClr m i v) s fun t => t.rd64 (R .SCX_FEC_TOT_CW_LO i) (R .SCX_FEC_TOT_CW_HI i) = 0 ∧
    t.rd64 (R .SCX_FEC_TOT_CORR_LO i) (R .SCX_FEC_TOT_CORR_HI i) = 0 ∧
    t.rd64 (R .SCX_FEC_TOT_UNC_LO i) (R .SCX_FEC_TOT_UNC_HI i) = 0) ∧
  (∀ s i, i < 16 → s.carOn (scCar i) = true → s.rxMode (scCar i) = 0 ∨ i % 8 = 0 →
    Completes (.fecSecLatch) s fun t => t.rdN (R .SCX_FEC_SEC_CW i) = (s.sc i).fecCur.cw % 2 ^ 32 ∧
    t.rdN (R .SCX_FEC_SEC_UNC i) = (s.sc i).fecCur.unc % 2 ^ 32 ∧ (t.sc i).fecCur = (s.sc i).fecNext)

/-- The commands about frame search, framing defects, frames sent and the performance monitor's latch complete,
  each with its effect as the clause says: HYPOTHESIS_CHECK, SEARCH_INTERVAL, FRAME_RX, LOF_SET, LOF_CLR, FRAME_TX,
  PM_LATCH. -/
def Obligations.LineFrameCommandsComplete : Prop :=
  (∀ s i pos errs, s.domOn 6 = true → i < 16 → pos < 256 → s.fld F.LFM_SC_STATUS_FSTATE i = 1 → errs ≤ 6 →
    Tab.look pos (s.sc i).hyps = none → (s.sc i).hyps.length < 8 →
    Completes (.hypothesisCheck i pos errs) s fun t => (t.sc i).hyps = (pos, 1) :: (s.sc i).hyps ∧
    t.fld F.LFM_SC_STATUS_HYP i = (s.sc i).hyps.length + 1) ∧
  (∀ s i p, s.domOn 6 = true → s.fld F.LFM_SC_STATUS_FSTATE i = 1 → s.scLocked i = true → s.rxMode (scCar i) = 0 →
    (s.sc i).qual = [p] → Completes (.searchInterval i) s fun t => t.fld F.LFM_SC_STATUS_FSTATE i = 2) ∧
  (∀ s i p q l, s.domOn 6 = true → s.fld F.LFM_SC_STATUS_FSTATE i = 1 → (s.sc i).qual = p :: q :: l →
    Completes (.searchInterval i) s fun t => t.flag F.LFM_SC_EVT_ALIAS i = true ∧ (t.sc i).hyps = [] ∧
    t.rdN (R .LFM_ALIAS_CNT i) = min (s.rdN (R .LFM_ALIAS_CNT i) + 1) 0xFFFFFFFF) ∧
  (∀ s i errs h o, s.domOn 6 = true → i < 16 → 2 ≤ s.fld F.LFM_SC_STATUS_FSTATE i → s.rxMode (scCar i) = 0 →
    6 < errs → 4 ≤ (s.sc i).awFail → Completes (.frameRx i errs h o) s fun t => t.flag F.LFM_SC_EVT_OOF i = true ∧
    t.rdN (R .LFM_OOF_CNT i) = min (s.rdN (R .LFM_OOF_CNT i) + 1) 0xFFFFFFFF) ∧
  (∀ s i, s.domOn 6 = true → i < 16 → s.fld F.LFM_SC_STATUS_FSTATE i ≤ 1 →
    Completes (.lofSet i) s fun t => t.flag F.LFM_SC_STATUS_LOF i = true ∧ t.flag F.LFM_SC_EVT_LOF_SET i = true) ∧
  (∀ s i, s.domOn 6 = true → 2 ≤ s.fld F.LFM_SC_STATUS_FSTATE i → s.flag F.LFM_SC_STATUS_LOF i = true →
    Completes (.lofClr i) s fun t => t.flag F.LFM_SC_STATUS_LOF i = false ∧ t.flag F.LFM_SC_EVT_LOF_CLR i = true) ∧
  (∀ s c, s.carOn c = true → s.domOn 6 = true → pMode (s.rd (R .CAX_TX_PROFILE c)) = 0 →
    s.fld F.CAX_TX_STATUS_TXSTATE c = 4 → s.segBad.contains c = false →
    Completes (.frameTx c) s fun t => (t.car c).fn = ((s.car c).fn + 1) % 256 ∧
    t.flag F.LFM_CA_STATUS_RDI_C_TX c = s.rdiOut c) ∧
  (∀ s i, s.domOn 6 = true → i < 8 * s.nCar → s.rxMode (scCar i) = 0 →
    Completes (.pmLatch) s fun t => t.rdN (R .LFM_PM_NE_UNC i) = (s.sc i).pmCur.unc % 2 ^ 32 ∧
    t.rdN (R .LFM_PM_FE_UNC i) = (s.sc i).pmCur.feUnc % 2 ^ 32 ∧ (t.sc i).pmNext = PmAcc.zero)

/-- The commands about commits of the slot maps and the clearing of totals complete,
  each with its effect as the clause says: COMMIT_TX, COMMIT_RX, PENDING_COMMIT, SLOT_MAP_IN_FORCE, LFM_TOT_CLR. -/
def Obligations.SlotMapCommandsComplete : Prop :=
  (∀ s m i v, s.accepts m (R .LFM_MAP_CTRL i) = true → F.LFM_MAP_CTRL_COMMIT_TX.get v = 1 →
    F.LFM_MAP_CTRL_COMMIT_RX.get v = 0 → s.fld F.CAX_CHG_STATUS_STATE (scCar i) = 0 →
    s.commitOk i true ((List.range 10).map fun e => s.rd (R .LFM_SLOT_MAP_TX i e)) = true →
    Completes (.commitTx m i v) s fun t => (t.sc i).passTx = some ((List.range 10).map fun e => s.rd (R
    .LFM_SLOT_MAP_TX i e)) ∧ t.flag F.LFM_MAP_CTRL_REFUSED i = false ∧ (t.sc i).mapTx = (s.sc i).mapTx) ∧
  (∀ s m i v, s.accepts m (R .LFM_MAP_CTRL i) = true → F.LFM_MAP_CTRL_COMMIT_TX.get v = 1 →
    F.LFM_MAP_CTRL_COMMIT_RX.get v = 0 → s.fld F.CAX_CHG_STATUS_STATE (scCar i) = 0 →
    s.commitOk i true ((List.range 10).map fun e => s.rd (R .LFM_SLOT_MAP_TX i e)) = false →
    Completes (.commitTx m i v) s fun t => (t.sc i).passTx = (s.sc i).passTx ∧ (t.sc i).mapTx = (s.sc i).mapTx ∧
    t.flag F.LFM_MAP_CTRL_REFUSED i = true) ∧
  (∀ s m i v, s.accepts m (R .LFM_MAP_CTRL i) = true → F.LFM_MAP_CTRL_COMMIT_TX.get v = 1 →
    F.LFM_MAP_CTRL_COMMIT_RX.get v = 0 → s.fld F.CAX_CHG_STATUS_STATE (scCar i) ≠ 0 →
    Completes (.commitTx m i v) s fun t => (t.sc i).waitTx = some ((List.range 10).map fun e => s.rd (R
    .LFM_SLOT_MAP_TX i e)) ∧ t.flag F.LFM_MAP_CTRL_PEND_TX i = true ∧ (t.sc i).mapTx = (s.sc i).mapTx) ∧
  (∀ s m i v, s.accepts m (R .LFM_MAP_CTRL i) = true → F.LFM_MAP_CTRL_COMMIT_TX.get v = 0 →
    F.LFM_MAP_CTRL_COMMIT_RX.get v = 1 → s.fld F.CAX_CHG_STATUS_STATE (scCar i) = 0 →
    s.commitOk i false ((List.range 10).map fun e => s.rd (R .LFM_SLOT_MAP_RX i e)) = true →
    Completes (.commitRx m i v) s fun t => (t.sc i).passRx = some ((List.range 10).map fun e => s.rd (R
    .LFM_SLOT_MAP_RX i e)) ∧ t.flag F.LFM_MAP_CTRL_REFUSED i = false ∧ (t.sc i).mapRx = (s.sc i).mapRx) ∧
  (∀ s m i v, s.accepts m (R .LFM_MAP_CTRL i) = true → F.LFM_MAP_CTRL_COMMIT_TX.get v = 0 →
    F.LFM_MAP_CTRL_COMMIT_RX.get v = 1 → s.fld F.CAX_CHG_STATUS_STATE (scCar i) = 0 →
    s.commitOk i false ((List.range 10).map fun e => s.rd (R .LFM_SLOT_MAP_RX i e)) = false →
    Completes (.commitRx m i v) s fun t => (t.sc i).passRx = (s.sc i).passRx ∧ (t.sc i).mapRx = (s.sc i).mapRx ∧
    t.flag F.LFM_MAP_CTRL_REFUSED i = true) ∧
  (∀ s m i v, s.accepts m (R .LFM_MAP_CTRL i) = true → F.LFM_MAP_CTRL_COMMIT_TX.get v = 0 →
    F.LFM_MAP_CTRL_COMMIT_RX.get v = 1 → s.fld F.CAX_CHG_STATUS_STATE (scCar i) ≠ 0 →
    Completes (.commitRx m i v) s fun t => (t.sc i).waitRx = some ((List.range 10).map fun e => s.rd (R
    .LFM_SLOT_MAP_RX i e)) ∧ t.flag F.LFM_MAP_CTRL_PEND_RX i = true ∧ (t.sc i).mapRx = (s.sc i).mapRx) ∧
  (∀ s i l, s.domOn 6 = true → (s.sc i).waitTx = some l → s.fld F.CAX_CHG_STATUS_STATE (scCar i) = 0 →
    s.commitOk i true l = true → Completes (.pendingCommit i true) s fun t => (t.sc i).passTx = some l ∧
    (t.sc i).waitTx = none ∧ t.flag F.LFM_MAP_CTRL_PEND_TX i = false) ∧
  (∀ s i l, s.domOn 6 = true → (s.sc i).waitRx = some l → s.fld F.CAX_CHG_STATUS_STATE (scCar i) = 0 →
    s.commitOk i false l = false → Completes (.pendingCommit i false) s fun t => (t.sc i).passRx = (s.sc i).passRx ∧
    (t.sc i).waitRx = none ∧ t.flag F.LFM_MAP_CTRL_PEND_RX i = false ∧ t.flag F.LFM_MAP_CTRL_REFUSED i = true) ∧
  (∀ s i l, s.domOn 6 = true → (s.sc i).passTx = some l →
    Completes (.slotMapInForce i true) s fun t => (t.sc i).mapTx = l ∧ (t.sc i).passTx = none) ∧
  (∀ s i l, s.domOn 6 = true → (s.sc i).passRx = some l →
    Completes (.slotMapInForce i false) s fun t => (t.sc i).mapRx = l ∧ (t.sc i).passRx = none) ∧
  (∀ s m i v, s.accepts m (R .LFM_SC_CFG i) = true → F.LFM_SC_CFG_TOT_CLR.get v = 1 →
    Completes (.lfmTotClr m i v) s fun t => t.rd (R .LFM_TOT_NE_ES i) = 0 ∧ t.rd (R .LFM_TOT_NE_SES i) = 0 ∧
    t.rd (R .LFM_TOT_FE_ES i) = 0 ∧ t.rd (R .LFM_TOT_FE_SES i) = 0)

/-- The commands about concatenated groups: configuration, markers, skew and slips complete,
  each with its effect as the clause says: GRP_CFG_WRITE, GROUP_MARKER, SKEW_CHECK, GRP_UP, GRP_SLIP. -/
def Obligations.GroupCommandsComplete : Prop :=
  (∀ s m g v, s.accepts m (R .LFM_GRP_CFG g) = true → s.flag F.LFM_GRP_CFG_EN g = false →
    F.LFM_GRP_CFG_EXPRESS.get v = s.fld F.LFM_GRP_CFG_EXPRESS g → s.gidTaken g (F.LFM_GRP_CFG_GID.get v) = false →
    Completes (.grpCfgWrite m g v) s fun t => t.rd (R .LFM_GRP_CFG g) = v &&& (R .LFM_GRP_CFG g).mask) ∧
  (∀ s m g v, s.accepts m (R .LFM_GRP_CFG g) = true → s.flag F.LFM_GRP_CFG_EN g = true →
    F.LFM_GRP_CFG_GID.get v ≠ s.fld F.LFM_GRP_CFG_GID g →
    Completes (.grpCfgWrite m g v) s fun t => t.flag F.LFM_GRP_EVT_CFG_DISCARD g = true ∧
    t.rd (R .LFM_GRP_CFG g) = s.rd (R .LFM_GRP_CFG g)) ∧
  (∀ s g n gap a, s.domOn 6 = true → g < 160 → n < s.fld F.LFM_GRP_CFG_MEMBERS g →
    ((s.grp g).mem.get Member.init n).ok = true → 2 ≤ ((s.grp g).mem.get Member.init n).miss →
    Completes (.groupMarker g n none gap a) s fun t => t.flag F.LFM_GRP_EVT_LOA g = true) ∧
  (∀ s g, s.domOn 6 = true → s.fld F.LFM_GRP_STATUS_STATE g = 6 → s.fld F.LFM_GRP_SKEW_SKEW g ≤ 19000 →
    Completes (.skewCheck g) s fun t => t.fld F.LFM_GRP_STATUS_STATE g = 3) ∧
  (∀ s g, s.domOn 6 = true → s.fld F.LFM_GRP_STATUS_STATE g = 3 →
    Completes (.grpUp g) s fun t => t.fld F.LFM_GRP_STATUS_STATE g = (if (s.grp g).hay then 5 else 4) ∧
    t.flag F.LFM_GRP_EVT_UP g = true) ∧
  (∀ s g n, s.domOn 6 = true → s.fld F.LFM_GRP_STATUS_STATE g ≠ 0 → n < s.fld F.LFM_GRP_CFG_MEMBERS g →
    s.rxSlots (s.gid g) n = [] → Completes (.grpSlip g n) s fun t => t.flag F.LFM_GRP_EVT_SLIP g = true)

/-- The commands about host ports: configuration, counters, frames and pauses complete,
  each with its effect as the clause says: PORT_CFG_WRITE, PORT_CNT_CLR, HOST_FRAME, PAUSE_REFRESH, PAUSE_RECEIVED,
  PAUSE_EXPIRY. -/
def Obligations.PortCommandsComplete : Prop :=
  (∀ s m p v, s.accepts m (R .SOF_PORT_CFG p) = true → s.flag F.SOF_PORT_CFG_EN p = false →
    F.SOF_PORT_CFG_EN.get v = 1 → s.portCode p (v &&& (R .SOF_PORT_CFG p).mask) = 0 →
    Completes (.portCfgWrite m p v) s fun t => t.rd (R .SOF_PORT_CFG p) = v &&& (R .SOF_PORT_CFG p).mask) ∧
  (∀ s m p v, s.accepts m (R .SOF_PORT_CFG p) = true → s.flag F.SOF_PORT_CFG_EN p = false →
    F.SOF_PORT_CFG_EN.get v = 1 → s.portCode p (v &&& (R .SOF_PORT_CFG p).mask) = 1 →
    Completes (.portCfgWrite m p v) s fun t => t.flag F.SOF_PORT_CFG_EN p = false ∧
    t.flag F.SOF_PORT_STATUS_REFUSED p = true ∧ t.fld F.SOF_PORT_STATUS_REF_CODE p = 1) ∧
  (∀ s m p v, s.accepts m (R .SOF_PORT_CTRL p) = true → F.SOF_PORT_CTRL_CNT_CLR.get v = 1 →
    Completes (.portCntClr m p v) s fun t => t.rd64 (R .SOF_RX_OK_LO p) (R .SOF_RX_OK_HI p) = 0 ∧
    t.rd64 (R .SOF_RX_FCS_LO p) (R .SOF_RX_FCS_HI p) = 0 ∧ t.rd64 (R .SOF_TX_OK_LO p) (R .SOF_TX_OK_HI p) = 0) ∧
  (∀ s p x, s.portRx p = true → x.fcsOk = false → Completes (.hostFrame p x) s fun t => t.rd64 (R .SOF_RX_FCS_LO p)
    (R .SOF_RX_FCS_HI p) = (s.rd64 (R .SOF_RX_FCS_LO p) (R .SOF_RX_FCS_HI p) + 1) % 2 ^ 64) ∧
  (∀ s p x, s.portRx p = true → x.fcsOk = true → 64 ≤ x.bytes.length → x.bytes.length ≤ s.maxFrm p →
    Completes (.hostFrame p x) s fun t => t.rd64 (R .SOF_RX_OK_LO p) (R .SOF_RX_OK_HI p) = (s.rd64 (R .SOF_RX_OK_LO
    p) (R .SOF_RX_OK_HI p) + 1) % 2 ^ 64) ∧
  (∀ s p, s.portRx p = true → s.portUp p = true → 1 ≤ s.fld F.SOF_PORT_STATUS_TX_XOFF p →
    s.fld F.SOF_PORT_CFG_FC_MODE p = 2 → Completes (.pauseRefresh p) s fun t => t.rd64 (R .SOF_TX_PAUSE_LO p) (R
    .SOF_TX_PAUSE_HI p) = (s.rd64 (R .SOF_TX_PAUSE_LO p) (R .SOF_TX_PAUSE_HI p) + 1) % 2 ^ 64) ∧
  (∀ s p q l, s.portRx p = true → Completes (.pauseReceived p false q l) s fun t => t.flag
    F.SOF_PORT_STATUS_PAUSED_ALL p = decide (l.getD 0 0 ≠ 0) ∧
    t.rd64 (R .SOF_RX_PAUSE_LO p) (R .SOF_RX_PAUSE_HI p) = (s.rd64 (R .SOF_RX_PAUSE_LO p) (R .SOF_RX_PAUSE_HI p) +
    1) % 2 ^ 64) ∧
  (∀ s p, s.domOn 7 = true → p < 16 → Completes (.pauseExpiry p none) s fun t => t.flag F.SOF_PORT_STATUS_PAUSED_ALL
    p = false) ∧
  (∀ s p q, s.domOn 7 = true → p < 16 → Completes (.pauseExpiry p (some q)) s fun t => t.fld
    F.SOF_PORT_STATUS_RX_PAUSED p = s.fld F.SOF_PORT_STATUS_RX_PAUSED p &&& (255 - 2 ^ (q % 8)))

/-- The commands about the flow table: entries, validation, removal and its commands complete,
  each with its effect as the clause says: PH_ENTRY_WRITE, VALIDATE, FLOW_REMOVE, MOVE, FLUSH, CLR_CNT. -/
def Obligations.PigeonholeCommandsComplete : Prop :=
  (∀ s m f w v, s.accepts m (R (phWord w) f) = true → s.flag F.SOF_PH_W6_VALID f = false →
    Completes (.phEntryWrite m f w v) s fun t => t.rd (R (phWord w) f) = v &&& (R (phWord w) f).mask) ∧
  (∀ s m f w v, s.accepts m (R (phWord w) f) = true → s.flag F.SOF_PH_W6_VALID f = true →
    Completes (.phEntryWrite m f w v) s fun t => t.rd (R (phWord w) f) = s.rd (R (phWord w) f) ∧
    t.flag F.SOF_EVT_PH_WR_DISCARD = true) ∧
  (∀ s m f v, s.accepts m (R .SOF_PH_W6 f) = true → s.flag F.SOF_PH_W6_VALID f = false →
    F.SOF_PH_W6_VALID.get v = 1 → s.validCode f v = 0 →
    Completes (.validate m f v) s fun t => t.flag F.SOF_PH_W6_VALID f = true ∧ t.fld F.SOF_PH_RESULT_CODE = 0) ∧
  (∀ s m f v, s.accepts m (R .SOF_PH_W6 f) = true → s.flag F.SOF_PH_W6_VALID f = false →
    F.SOF_PH_W6_VALID.get v = 1 → s.validCode f v = 4 →
    Completes (.validate m f v) s fun t => t.flag F.SOF_PH_W6_VALID f = false ∧ t.fld F.SOF_PH_RESULT_CODE = 4 ∧
    t.flag F.SOF_EVT_PH_REFUSED = true) ∧
  (∀ s m f v, s.accepts m (R .SOF_PH_W6 f) = true → s.flag F.SOF_PH_W6_VALID f = true →
    F.SOF_PH_W6_VALID.get v = 0 → Completes (.flowRemove m f v) s fun t => t.flag F.SOF_PH_W6_VALID f = false) ∧
  (∀ s m v f, s.accepts m (R .SOF_PH_CMD) = true → F.SOF_PH_CMD_CMD.get v = 1 → F.SOF_PH_CMD_FLOW.get v = f →
    s.flag F.SOF_PH_W6_VALID f = true → s.fld F.SOF_FP_W4_STATE f = 1 → s.toLine f = true →
    s.groupFits (F.SOF_PH_CMD_ARG.get v) (s.flag F.SOF_PH_W6_EXPRESS f) = true →
    Completes (.flowMove m v) s fun t => t.fld F.SOF_PH_W6_EGRESS f = F.SOF_PH_CMD_ARG.get v ∧
    t.fld F.SOF_PH_RESULT_CODE = 0 ∧ t.flag F.SOF_EVT_CMD_DONE = true) ∧
  (∀ s m v f, s.accepts m (R .SOF_PH_CMD) = true → F.SOF_PH_CMD_CMD.get v = 2 → F.SOF_PH_CMD_FLOW.get v = f →
    Completes (.flowFlush m v) s fun t => t.rd64 (R .SOF_QUE_DROP_LO f) (R .SOF_QUE_DROP_HI f) = (s.rd64 (R
    .SOF_QUE_DROP_LO f) (R .SOF_QUE_DROP_HI f) + (s.flow f).q.length) % 2 ^ 64 ∧ t.fld F.SOF_PH_RESULT_CODE = 0 ∧
    t.flag F.SOF_EVT_CMD_DONE = true) ∧
  (∀ s m v f r, s.accepts m (R .SOF_PH_CMD) = true → F.SOF_PH_CMD_CMD.get v = 3 → F.SOF_PH_CMD_FLOW.get v = f →
    r ∈ flowCounters → Completes (.clrCnt m v) s fun t => t.rd (R r f) = 0 ∧ t.flag F.SOF_EVT_CMD_DONE = true)

/-- The commands about frames sent, group holds and record delineation complete,
  each with its effect as the clause says: FRAME_SENT, GRP_HOLD_END, RECORD_HEADER. -/
def Obligations.TrafficCommandsComplete : Prop :=
  (∀ s e f ecc, s.domOn 7 = true → s.inReset 7 0 = false → s.ready false e true = [f] →
    s.drr.get 0 (4 * e + 1) = f → s.headCost f ≤ (s.flow f).dfc → ecc ≠ .ue → s.segBad.contains 18 = false →
    Completes (.frameSent ⟨false, e⟩ ecc) s fun t => t.rd64 (R .SOF_OUT_FRM_LO f) (R .SOF_OUT_FRM_HI f) = (s.rd64 (R
    .SOF_OUT_FRM_LO f) (R .SOF_OUT_FRM_HI f) + 1) % 2 ^ 64 ∧
    t.rd64 (R .SOF_TX_OK_LO e) (R .SOF_TX_OK_HI e) = (s.rd64 (R .SOF_TX_OK_LO e) (R .SOF_TX_OK_HI e) + 1) % 2 ^ 64) ∧
  (∀ s g, s.domOn 7 = true → s.flag F.SOF_GRP_TXHOLD_HELD g = true → s.holdCond g = false →
    Completes (.grpHoldEnd g) s fun t => t.flag F.SOF_GRP_TXHOLD_HELD g = false) ∧
  (∀ s g w x, s.domOn 7 = true → s.domOn 6 = true → g < 160 → s.grpUp g = true → s.grpPays g = true →
    s.grpEnc g = false → recOk w = true → (s.dl g).st = 0 →
    Completes (.recordHeader g w false x) s fun t => (t.dl g).st = 1) ∧
  (∀ s g w x, s.domOn 7 = true → s.domOn 6 = true → g < 160 → s.grpUp g = true → s.grpPays g = true →
    s.grpEnc g = false → recOk w = true → (s.dl g).st = 1 →
    Completes (.recordHeader g w false x) s fun t => (t.dl g).st = 2) ∧
  (∀ s g w x, s.domOn 7 = true → s.domOn 6 = true → g < 160 → s.grpUp g = true → s.grpPays g = true →
    s.grpEnc g = false → recOk w = false → (s.dl g).st = 2 →
    Completes (.recordHeader g w false x) s fun t => (t.dl g).st = 0 ∧ t.flag F.SOF_EVT_DELIN_LOSS = true ∧
    t.rdN (R .SOF_GRP_DELIN_CNT g) = min (s.rdN (R .SOF_GRP_DELIN_CNT g) + 1) 0xFFFFFFFF)

/-- The commands about the cipher engine: seals, messages, keys and entropy complete,
  each with its effect as the clause says: SEAL_HEADER, CIPHER_DONE, CIPHER_TIMEOUT, LOAD_KEY, LOAD_KEK, ERASE,
  ERASE_KEK, TX_AN_WRITE, ENT_FAIL, ENT_OK. -/
def Obligations.CipherCommandsComplete : Prop :=
  (∀ s g h, s.domOn 6 = true → s.domOn 7 = true → g < 160 → s.grpEnc g = true → s.grpUp g = true →
    s.grpPays g = true → (s.gctx g).skip = false → half h 0 * 65536 + half h 2 ≠ 0x00001D0F →
    h.length ≠ 16 ∨ crc16 112 (beAt h 0 14) ≠ half h 14 ∨ half h 0 / 2 ^ 13 % 2 = 0 ∨ half h 2 % 4096 ≠ s.gid g ∨
    4096 < half h 0 % 2 ^ 13 → Completes (.sealHeader g h) s fun t => t.flag F.CIP_EVT_SEAL_LOSS = true ∧
    t.rdN (R .CIP_SEAL_LOSS g) = min (s.rdN (R .CIP_SEAL_LOSS g) + 1) 0xFFFFFFFF) ∧
  (∀ s g h, s.domOn 6 = true → s.domOn 7 = true → g < 160 → s.grpEnc g = true → s.grpUp g = true →
    s.grpPays g = true → (s.gctx g).skip = false → half h 0 * 65536 + half h 2 ≠ 0x00001D0F → h.length = 16 →
    crc16 112 (beAt h 0 14) = half h 14 → half h 0 / 2 ^ 13 % 2 = 1 → half h 2 % 4096 = s.gid g →
    half h 0 % 2 ^ 13 ≤ 4096 → s.grpKey g (half h 0 / 2 ^ 14) = none →
    Completes (.sealHeader g h) s fun t => t.flag F.CIP_EVT_SEAL_FAIL = true ∧
    t.rd64 (R .CIP_SEAL_FAIL_LO g) (R .CIP_SEAL_FAIL_HI g) = (s.rd64 (R .CIP_SEAL_FAIL_LO g) (R .CIP_SEAL_FAIL_HI g)
    + 1) % 2 ^ 64) ∧
  (∀ s g h k, s.domOn 6 = true → s.domOn 7 = true → g < 160 → s.grpEnc g = true → s.grpUp g = true →
    s.grpPays g = true → (s.gctx g).skip = false → half h 0 * 65536 + half h 2 ≠ 0x00001D0F → h.length = 16 →
    crc16 112 (beAt h 0 14) = half h 14 → half h 0 / 2 ^ 13 % 2 = 1 → half h 2 % 4096 = s.gid g →
    half h 0 % 2 ^ 13 ≤ 4096 → s.grpKey g (half h 0 / 2 ^ 14) = some k →
    beAt h 4 8 ≤ (s.gctx g).rxPn.get 0 (half h 0 / 2 ^ 14) →
    Completes (.sealHeader g h) s fun t => t.flag F.CIP_EVT_REPLAY = true ∧
    t.rdN (R .CIP_SEAL_REPLAY g) = min (s.rdN (R .CIP_SEAL_REPLAY g) + 1) 0xFFFFFFFF) ∧
  (∀ s g h k, s.domOn 6 = true → s.domOn 7 = true → g < 160 → s.grpEnc g = true → s.grpUp g = true →
    s.grpPays g = true → (s.gctx g).skip = false → half h 0 * 65536 + half h 2 ≠ 0x00001D0F → h.length = 16 →
    crc16 112 (beAt h 0 14) = half h 14 → half h 0 / 2 ^ 13 % 2 = 1 → half h 2 % 4096 = s.gid g →
    half h 0 % 2 ^ 13 ≤ 4096 → s.grpKey g (half h 0 / 2 ^ 14) = some k →
    (s.gctx g).rxPn.get 0 (half h 0 / 2 ^ 14) < beAt h 4 8 →
    Completes (.sealHeader g h) s fun t => ∃ m ∈ t.cip.msgs ++ t.cip.wait, m.id = s.cip.next ∧ m.kind = .opening g ∧
    m.len = 4 * (half h 0 % 2 ^ 13) ∧ m.an = half h 0 / 2 ^ 14 ∧ m.pn = beAt h 4 8 ∧ m.key = k.key ∧
    m.iv = sealIv k.salt (s.gid g) (beAt h 4 8) ∧ m.aad = h.take 14) ∧
  (∀ s id ok out x y, s.domOn 6 = true → s.msg id = some x → x.fin = none →
    s.cip.msgs.find? (fun m => m.owner == x.owner) = some y → y.fin = none → y.id ≠ id →
    Completes (.cipherDone id ok out) s fun t => t.cip.msgs = s.cip.msgs.map fun m => if m.id = id then
    {m with fin := some (ok, out)} else m) ∧
  (∀ s id out x f, s.domOn 6 = true → s.msg id = some x → x.fin = none → x.kind = .protect f →
    s.cip.msgs.filter (fun m => m.owner == x.owner) = [x] → (∀ m ∈ s.cip.wait, m.owner ≠ x.owner) →
    Completes (.cipherDone id true out) s fun t => t.rd64 (R .CIP_ENC_FRM_LO f) (R .CIP_ENC_FRM_HI f) = (s.rd64 (R
    .CIP_ENC_FRM_LO f) (R .CIP_ENC_FRM_HI f) + 1) % 2 ^ 64) ∧
  (∀ s id out x f, s.domOn 6 = true → s.msg id = some x → x.fin = none → x.kind = .protect f →
    s.cip.msgs.filter (fun m => m.owner == x.owner) = [x] → (∀ m ∈ s.cip.wait, m.owner ≠ x.owner) →
    Completes (.cipherDone id false out) s fun t => t.flag F.CIP_EVT_AUTH_FAIL = true ∧
    t.rd64 (R .CIP_AUTH_FAIL_LO f) (R .CIP_AUTH_FAIL_HI f) = (s.rd64 (R .CIP_AUTH_FAIL_LO f) (R .CIP_AUTH_FAIL_HI f)
    + 1) % 2 ^ 64) ∧
  (∀ s id x, s.domOn 6 = true → s.msg id = some x → x.fin = none →
    Completes (.cipherTimeout id) s fun t => t.flag F.CIP_EVT_TIMEOUT = true ∧
    t.rdN (R .CIP_TIMEOUT_CNT) = min (s.rdN (R .CIP_TIMEOUT_CNT) + 1) 0xFFFFFFFF) ∧
  (∀ s m v k, s.accepts m (R .CIP_KEY_CMD) = true → F.CIP_KEY_CMD_CMD.get v = 1 →
    s.activeSlot (F.CIP_KEY_CMD_SLOT.get v) = false → 1 ≤ F.CIP_KEY_CMD_KEK.get v →
    s.kek (F.CIP_KEY_CMD_KEK.get v) = some k → s.entHalt = false →
    Completes (.loadKey m v) s fun t => t.keySlot (F.CIP_KEY_CMD_SLOT.get v) = ((Config.unwrap k s.keyWords).elim
    (s.keySlot (F.CIP_KEY_CMD_SLOT.get v)) fun key => some ⟨key, s.saltNow, 1, false, 1⟩) ∧ t.cip.data = [] ∧
    t.cip.salt = [] ∧ t.fld F.CIP_KEY_RESULT_CODE =
    (match Config.unwrap k s.keyWords with | none => 1 | some _ => 0)) ∧
  (∀ s m v k, s.accepts m (R .CIP_KEY_CMD) = true → F.CIP_KEY_CMD_CMD.get v = 2 → 1 ≤ F.CIP_KEY_CMD_SLOT.get v % 4 →
    s.entHalt = false → s.kek0 = some k → Completes (.loadKek m v) s fun t => t.kek (F.CIP_KEY_CMD_SLOT.get v % 4) =
    (match Config.unwrap k s.keyWords with | none => s.kek (F.CIP_KEY_CMD_SLOT.get v % 4) | some key => some key) ∧
    t.fld F.CIP_KEY_RESULT_CODE = (match Config.unwrap k s.keyWords with | none => 1 | some _ => 0)) ∧
  (∀ s m v, s.accepts m (R .CIP_KEY_CMD) = true → F.CIP_KEY_CMD_CMD.get v = 3 → s.entHalt = false →
    Completes (.erase m v) s fun t => t.keySlot (F.CIP_KEY_CMD_SLOT.get v) = none ∧
    t.fld F.CIP_KEY_RESULT_CODE = 0 ∧ t.flag F.CIP_EVT_KEY_DONE = true) ∧
  (∀ s m v, s.accepts m (R .CIP_KEY_CMD) = true → F.CIP_KEY_CMD_CMD.get v = 4 → 1 ≤ F.CIP_KEY_CMD_SLOT.get v % 4 →
    s.entHalt = false → Completes (.eraseKek m v) s fun t => t.kek (F.CIP_KEY_CMD_SLOT.get v % 4) = none ∧
    t.fld F.CIP_KEY_RESULT_CODE = 0 ∧ t.flag F.CIP_EVT_KEY_DONE = true) ∧
  (∀ s m i v, s.accepts m (R .CIP_CTX_CFG i) = true → Completes (.txAnWrite m false i v) s fun t => t.fld
    F.CIP_CTX_CFG_TX_AN i = F.CIP_CTX_CFG_TX_AN.get v) ∧
  (∀ s m i v, s.accepts m (R .CIP_GCX_CFG i) = true → Completes (.txAnWrite m true i v) s fun t => t.fld
    F.CIP_GCX_CFG_TX_AN i = F.CIP_GCX_CFG_TX_AN.get v) ∧
  (∀ s, s.domOn 6 = true → Completes (.entFail) s fun t => t.flag F.CIP_STATUS_ENT_OK = false ∧
    t.flag F.CIP_EVT_ENT_FAIL = true ∧ t.rdN (R .CIP_ENT_FAIL_CNT) = min (s.rdN (R .CIP_ENT_FAIL_CNT) + 1)
    0xFFFFFFFF) ∧
  (∀ s, s.domOn 6 = true → s.flag F.CIP_STATUS_ENT_OK = false →
    Completes (.entOk) s fun t => t.flag F.CIP_STATUS_ENT_OK = true ∧ t.flag F.CIP_EVT_ENT_OK_EVT = true)

/-- The commands about the Hayloft: accesses, merge buffer, scrubbing, retirement, capture and the aperture complete,
  each with its effect as the clause says: HAY_ACCESS_DONE, ACC_TIMEOUT, MERGE_WRITE_BACK, SCRUB_READ, RET_ADD,
  RET_REMOVE, RET_READ, APERTURE_READ, APERTURE_WRITE, CAP_CFG_WRITE, CAP_CLR, CAP_DROP, HAY_CFG_WRITE. -/
def Obligations.HayloftCommandsComplete : Prop :=
  (∀ s a g, s.hayOn = true → 64 * a.line < s.hayBytes → a.use = .deskewRead g → a.ecc = .ue →
    (s.grp g).dsk.contains (a.line / 64) = true → s.blockOpen (a.line / 1024) = true → s.readUp = true →
    Completes (.hayAccessDone a) s fun t => a.line ∈ t.hay.poison ∧
    t.rdN (R .HAY_UE_TOT) = min (s.rdN (R .HAY_UE_TOT) + 1) 0xFFFFFFFF ∧ (t.delin.get Delin.init g).dirty = true) ∧
  (∀ s a f r, s.hayOn = true → 64 * a.line < s.hayBytes → a.use = .flowWrite f → s.inFlight a = some r →
    s.readUp = true → Completes (.hayAccessDone a) s fun t => t.hay.acc = s.hay.acc.erase r ∧
    a.line ∉ t.hay.poison ∧ a.line / 1024 ∈ t.hay.blocks ∧ ∀ k b, k < 64 → r.data[k]? = some b →
    t.hayMem.get 0 (64 * a.line + k) = b) ∧
  (∀ s a f r j, s.hayOn = true → 64 * a.line < s.hayBytes → a.use = .flowRead f → a.ecc = .clean →
    s.inFlight a = some r → (s.lineGot f a.line).readUp = true → s.hay.poison.contains a.line = false →
    s.hay.wrong.contains a.line = false → (s.flow f).lineIdx a.line = some j →
    Completes (.hayAccessDone a) s fun t => t.hay.acc = s.hay.acc.erase r ∧ j ∈ (t.flow f).hayGot) ∧
  (∀ s a r, s.hayOn = true → 64 * a.line < s.hayBytes → s.inFlight a = some r →
    Completes (.accTimeout a) s fun t => t.rdN (R .HAY_ACC_TO_CNT) = min (s.rdN (R .HAY_ACC_TO_CNT) + 1) 0xFFFFFFFF) ∧
  (∀ s a g, s.hayOn = true → 64 * a.line < s.hayBytes → a.use = .deskewRead g →
    (s.grp g).dsk.contains (a.line / 64) = true → s.readUp = true → s.flag F.SAF_REACT_FO0 8 = false →
    s.flag F.SAF_REACT_FO1 8 = false → Completes (.accTimeout a) s fun t => t.flag F.HAY_EVT_TIMEOUT = true ∧
    (t.delin.get Delin.init g).dirty = true ∧ t.hay.poison = s.hay.poison) ∧
  (∀ s line e x, s.hayOn = true → s.hay.merge.find? (fun y => y.line = line) = some x → 64 ≤ x.bytes.length →
    (x.bytes.map Prod.fst).Nodup → Completes (.mergeWriteBack line e) s fun t => t.hay.merge = s.hay.merge.filter
    (fun y => y.line ≠ line) ∧ line ∉ t.hay.poison ∧ line / 1024 ∈ t.hay.blocks ∧ ∀ k b,
    NTab.get none x.bytes k = some b → t.hayMem.get 0 (64 * line + k) = b) ∧
  (∀ s line n, s.hayOn = true → s.scrubNext s.hay.scrub = some line → s.hay.wrong.contains line = false →
    s.scrubNext (line + 1) = some n → Completes (.scrubRead line .clean) s fun t => t.hay.scrub = line + 1 ∧
    t.fld F.HAY_SCRUB_STATUS_PROGRESS = (line + 1) * 100 / (s.hayBytes / 64) % 128) ∧
  (∀ s line, s.hayOn = true → s.scrubNext s.hay.scrub = some line → s.hay.wrong.contains line = false →
    s.scrubNext (line + 1) = none → Completes (.scrubRead line .clean) s fun t => t.hay.scrub = 0 ∧
    t.fld F.HAY_SCRUB_STATUS_PROGRESS = 0 ∧ t.flag F.HAY_EVT_SCRUB_PASS = true) ∧
  (∀ s m v, s.accepts m (R .HAY_RET_CMD) = true → F.HAY_RET_CMD_CMD.get v = 1 → s.hay.ret.length < 8192 →
    s.hay.ret.any (fun r => r.page == F.HAY_RET_CMD_ARG.get v) = false →
    4096 * F.HAY_RET_CMD_ARG.get v < s.hayMeta → Completes (.retAdd m v) s fun t => t.hay.ret = s.hay.ret ++
    [⟨F.HAY_RET_CMD_ARG.get v, s.pageUsed (F.HAY_RET_CMD_ARG.get v)⟩] ∧ t.fld F.HAY_RET_STATUS_CODE = 0 ∧
    t.flag F.HAY_EVT_RET_DONE = true) ∧
  (∀ s m v, s.accepts m (R .HAY_RET_CMD) = true → F.HAY_RET_CMD_CMD.get v = 1 → 8192 ≤ s.hay.ret.length →
    Completes (.retAdd m v) s fun t => t.hay.ret = s.hay.ret ∧ t.fld F.HAY_RET_STATUS_CODE = 1 ∧
    t.flag F.HAY_EVT_RET_REFUSED = true) ∧
  (∀ s m v, s.accepts m (R .HAY_RET_CMD) = true → F.HAY_RET_CMD_CMD.get v = 2 →
    s.hay.ret.any (fun r => r.page == F.HAY_RET_CMD_ARG.get v) = true →
    Completes (.retRemove m v) s fun t => t.hay.ret = s.hay.ret.filter (fun r => r.page ≠ F.HAY_RET_CMD_ARG.get v) ∧
    t.fld F.HAY_RET_STATUS_CODE = 0) ∧
  (∀ s m v r, s.accepts m (R .HAY_RET_CMD) = true → F.HAY_RET_CMD_CMD.get v = 3 →
    s.hay.ret[F.HAY_RET_CMD_ARG.get v]? = some r → Completes (.retRead m v) s fun t => t.flag F.HAY_RET_DATA_VALID =
    true ∧ t.fld F.HAY_RET_DATA_PAGE = r.page % 2 ^ F.HAY_RET_DATA_PAGE.len ∧
    t.flag F.HAY_RET_DATA_PENDING = r.pend ∧ t.fld F.HAY_RET_STATUS_CODE = 0) ∧
  (∀ s m off e, s.canIssue m = true → s.denied m (aptBus off) 0 = false → s.holdsBack m = false →
    s.blockOn 8 0x80000 = true → s.aptPhys off < s.hayBytes → s.blockOpen (s.aptPhys off / 4 * 4 / 65536) = false →
    Completes (.apertureRead m off e) s fun t => t.fab.rdata.get 0 (masterCode m) = s.hayWord (s.aptPhys off / 4 *
    4) ∧ t.flag F.HAY_APT_STATUS_UNOPENED = true) ∧
  (∀ s m off, s.canIssue m = true → s.denied m (aptBus off) 0 = false → s.holdsBack m = false →
    s.blockOn 8 0x80000 = true → s.aptPhys off < s.hayBytes → s.blockOpen (s.aptPhys off / 4 * 4 / 65536) = true →
    Completes (.apertureRead m off .clean) s fun t => t.fab.rdata.get 0 (masterCode m) = s.hayWord (s.aptPhys off /
    4 * 4)) ∧
  (∀ s m off v, s.canIssue m = true → s.denied m (aptBus off) 1 = false → s.holdsBack m = false →
    s.blockOn 8 0x80000 = true → s.aptPhys off < s.hayBytes → s.inCap (s.aptPhys off / 4 * 4) = true →
    s.hay.merge.find? (fun y => y.line = s.aptPhys off / 4 * 4 / 64) = none → s.hay.merge.length < 256 →
    Completes (.apertureWrite m off v) s fun t => (∀ k, k < 4 →
    t.hayByte (s.aptPhys off / 4 * 4 + k) = v.extractLsb' (8 * k) 8) ∧ t.hayMem = s.hayMem) ∧
  (∀ s m off v x, s.canIssue m = true → s.denied m (aptBus off) 1 = false → s.holdsBack m = false →
    s.blockOn 8 0x80000 = true → s.aptPhys off < s.hayBytes → s.inCap (s.aptPhys off / 4 * 4) = true →
    s.hay.merge.find? (fun y => y.line = s.aptPhys off / 4 * 4 / 64) = some x → x.bytes.length + 4 < 64 →
    Completes (.apertureWrite m off v) s fun t => (∀ k, k < 4 →
    t.hayByte (s.aptPhys off / 4 * 4 + k) = v.extractLsb' (8 * k) 8) ∧ t.hayMem = s.hayMem) ∧
  (∀ s m off v, s.canIssue m = true → s.denied m (aptBus off) 1 = false → s.holdsBack m = false →
    s.blockOn 8 0x80000 = true → s.aptPhys off < s.hayBytes → s.inCap (s.aptPhys off / 4 * 4) = false →
    s.flag F.SAF_WIN_STATUS_OPEN = false → Completes (.apertureWrite m off v) s fun t => t.flag
    F.HAY_APT_STATUS_DENIED = true ∧ t.flag F.HAY_EVT_APT_DENIED = true ∧ t.hay.merge = s.hay.merge ∧
    t.hayMem = s.hayMem) ∧
  (∀ s m v, s.accepts m (R .HAY_CAP_CFG) = true → F.HAY_CAP_CFG_EN.get v = 1 → F.HAY_CAP_CFG_CLR.get v = 0 →
    s.flag F.SOF_PH_W6_EXPRESS (F.HAY_CAP_CFG_FLOW.get v) = false →
    Completes (.capCfgWrite m v) s fun t => t.flag F.HAY_CAP_CFG_EN = true ∧
    t.fld F.HAY_CAP_CFG_FLOW = F.HAY_CAP_CFG_FLOW.get v) ∧
  (∀ s m v, s.accepts m (R .HAY_CAP_CFG) = true → F.HAY_CAP_CFG_EN.get v = 1 →
    s.flag F.SOF_PH_W6_EXPRESS (F.HAY_CAP_CFG_FLOW.get v) = true →
    Completes (.capCfgWrite m v) s fun t => t.flag F.HAY_CAP_CFG_EN = false ∧ t.flag F.HAY_EVT_CAP_REFUSED = true) ∧
  (∀ s m v, s.accepts m (R .HAY_CAP_CFG) = true → F.HAY_CAP_CFG_EN.get v = 0 → F.HAY_CAP_CFG_CLR.get v = 1 →
    s.flag F.HAY_CAP_CFG_EN = false → Completes (.capClr m v) s fun t => t.rd (R .HAY_CAP_PTR) = 0 ∧
    t.rd (R .HAY_CAP_SEQ) = 0 ∧ t.hayMem = s.hayMem.filter (fun e => !s.inCap e.1) ∧
    t.hay.blocks = s.hay.blocks.filter (fun b => !s.inCap (65536 * b))) ∧
  (∀ s, s.hayOn = true → s.hay.cap ≠ [] → Completes (.capDrop) s fun t => t.hay.cap = s.hay.cap.tail ∧
    t.rdN (R .HAY_CAP_DROP) = min (s.rdN (R .HAY_CAP_DROP) + 1) 0xFFFFFFFF) ∧
  (∀ s m v, s.accepts m (R .HAY_CFG) = true → s.flag F.HAY_CFG_ADMIT_EN = false → s.dskRes = 0 →
    s.flag F.HAY_CAP_CFG_EN = false → Completes (.hayCfgWrite m v) s fun t => t.rd (R .HAY_CFG) = v &&& (R
    .HAY_CFG).mask) ∧
  (∀ s m v, s.accepts m (R .HAY_CFG) = true → s.flag F.HAY_CFG_ADMIT_EN = true →
    Completes (.hayCfgWrite m v) s fun t => t.fld F.HAY_CFG_DSK_SIZE = s.fld F.HAY_CFG_DSK_SIZE ∧
    t.fld F.HAY_CFG_CAP_SIZE = s.fld F.HAY_CFG_CAP_SIZE ∧
    t.flag F.HAY_CFG_ADMIT_EN = decide (F.HAY_CFG_ADMIT_EN.get v = 1))

/-- The commands about the Stable: candidates, quality levels, selection, loop states, heartbeat and training complete,
  each with its effect as the clause says: LOST, PRESENT, ESMC_PDU, QL_TIMEOUT, QL_SRC_WRITE, QUAL_WINDOW, DISQ,
  REQUALIFICATION, WTR_EXPIRY, SELECTOR_TICK, MANUAL, FORCED, CLEAR, HOLDOFF_END, BUILDOUT_DONE, ENTER_LOCKED,
  ENTER_ACQUIRE, MODE, FW_BEAT, FW_LOST, HO_BOUND_CHECK, FROZEN_LIM, STEER_SRV, STEER_MAN, SAMPLE_10MIN, SAMPLE_1S,
  PRUNE_DONE, ESMC_TX, EVENT_PDU. -/
def Obligations.StableCommandsComplete : Prop :=
  (∀ s i, s.stbOn = true → i < 15 → s.flag F.STB_REF_STATUS_PRESENT i = true → s.canBeLost i = true →
    Completes (.refLost i) s fun t => t.flag F.STB_REF_STATUS_PRESENT i = false ∧
    t.flag F.STB_REF_EVT_LOST i = true ∧ t.rdN (R .STB_REF_LOS_CNT i) = min (s.rdN (R .STB_REF_LOS_CNT i) + 1)
    0xFFFFFFFF) ∧
  (∀ s i, s.stbOn = true → i < 15 → s.canBePresent i = true → s.flag F.STB_REF_STATUS_PRESENT i = false →
    s.inj 0x02 i = false → s.inj 0x03 i = false → Completes (.refPresent i) s fun t => t.flag
    F.STB_REF_STATUS_PRESENT i = true ∧ t.flag F.STB_REF_EVT_PRESENT i = true) ∧
  (∀ s p d i r, s.stbOn = true → s.portUp p = true → i < 15 → s.qlKey i = some p → s.flag F.STB_CFG_QL_OPT = true →
    ssmRank true d.ssm none = some r → Completes (.esmcPdu p (some d)) s fun t => t.fld F.STB_REF_STATUS_QL i =
    s.rankOf r) ∧
  (∀ s i k, s.stbOn = true → i < 15 → s.qlKey i = some k →
    ((s.stb.lvl.get none k).all fun l => decide (l.arr + qlTimeout k ≤ s.us)) = true →
    Completes (.qlTimeout i) s fun t => t.fld F.STB_REF_STATUS_QL i = 14) ∧
  (∀ s m i v, s.accepts m (R .STB_REF_CFG i) = true → Completes (.qlSrcWrite m i v) s fun t => t.rd (R .STB_REF_CFG
    i) = v &&& (R .STB_REF_CFG i).mask) ∧
  (∀ s i o, s.stbOn = true → i < 15 → s.flag F.STB_REF_STATUS_PRESENT i = true → Completes (.qualWindow [(i,
    o)]) s fun t => t.rdN (R .STB_REF_FOFS i) = unsigned 32 (o + s.steer / 1024 + signed 32 (s.fld
    F.STB_MODEL_PRED_PRED) + s.injOffset i)) ∧
  (∀ s i base, s.stbOn = true → i < 15 → s.flag F.STB_REF_STATUS_DISQ i = false → s.persist i ≤ (s.cand i).above →
    Completes (.disq i base) s fun t => t.flag F.STB_REF_STATUS_DISQ i = true ∧ t.flag F.STB_REF_EVT_DISQ i = true ∧
    t.rdN (R .STB_REF_DISQ_CNT i) = min (s.rdN (R .STB_REF_DISQ_CNT i) + 1) 0xFFFFFFFF) ∧
  (∀ s i, s.stbOn = true → i < 15 → s.flag F.STB_REF_STATUS_DISQ i = true → s.persist i ≤ (s.cand i).low →
    Completes (.requalification i) s fun t => t.flag F.STB_REF_STATUS_DISQ i = false) ∧
  (∀ s i, s.stbOn = true → i < 15 → s.flag F.STB_REF_STATUS_WTR i = true → (s.cand i).wtrEnd ≤ s.us →
    Completes (.wtrExpiry i) s fun t => t.flag F.STB_REF_STATUS_WTR i = false) ∧
  (∀ s w, s.stbOn = true → s.flag F.STB_STATUS_BUILDOUT = false → s.flag F.STB_STATUS_HOLDOFF = false →
    s.forceLost = false → s.stbSel = 15 → s.choose = w → w < 15 →
    Completes (.selectorTick) s fun t => t.stbSel = w ∧ t.flag F.STB_REF_EVT_SELECTED w = true) ∧
  (∀ s w, s.stbOn = true → s.flag F.STB_STATUS_BUILDOUT = false → s.flag F.STB_STATUS_HOLDOFF = false →
    s.forceLost = false → s.stbSel ≠ 15 → s.stbSel ≠ w → s.choose = w → w < 15 →
    Completes (.selectorTick) s fun t => t.stbSel = w ∧ t.flag F.STB_STATUS_BUILDOUT = true ∧
    t.rdN (R .STB_SWITCH_CNT) = min (s.rdN (R .STB_SWITCH_CNT) + 1) 0xFFFFFFFF) ∧
  (∀ s m i, s.accepts m (R .STB_SEL_CMD) = true → i < 15 →
    Completes (.selManual m i) s fun t => t.fld F.STB_SEL_CMD_CMD = 1 ∧ t.fld F.STB_SEL_CMD_IDX = i) ∧
  (∀ s m i, s.accepts m (R .STB_SEL_CMD) = true → i < 15 →
    Completes (.selForced m i) s fun t => t.fld F.STB_SEL_CMD_CMD = 2 ∧ t.fld F.STB_SEL_CMD_IDX = i) ∧
  (∀ s m i, s.accepts m (R .STB_SEL_CMD) = true → i < 15 →
    Completes (.selClear m i) s fun t => t.fld F.STB_SEL_CMD_CMD = 0 ∧ t.fld F.STB_SEL_CMD_IDX = i) ∧
  (∀ s, s.stbOn = true → s.flag F.STB_STATUS_HOLDOFF = true → s.stb.holdEnd ≤ s.us →
    Completes (.holdoffEnd) s fun t => t.flag F.STB_STATUS_HOLDOFF = false) ∧
  (∀ s ofs, s.stbOn = true → s.flag F.STB_STATUS_BUILDOUT = true →
    Completes (.buildoutDone ofs) s fun t => t.flag F.STB_STATUS_BUILDOUT = false) ∧
  (∀ s, s.stbOn = true → s.stbSt = 1 → s.wordHeld = false → s.stbSel ≠ 15 → s.stb.stAt + 30000000 ≤ s.us →
    Completes (.enterLocked) s fun t => t.stbSt = 2 ∧ t.flag F.STB_EVT_ENTER_LOCKED = true) ∧
  (∀ s, s.stbOn = true → s.stbSt = 2 → Completes (.enterAcquire) s fun t => t.stbSt = 1 ∧
    t.flag F.STB_EVT_ENTER_ACQUIRE = true) ∧
  (∀ s m v, s.accepts m (R .STB_CFG) = true → Completes (.stbMode m v) s fun t => t.rd (R .STB_CFG) = v &&& (R
    .STB_CFG).mask) ∧
  (∀ s m v, s.accepts m (R .STB_FW_BEAT) = true → Completes (.fwBeat m v) s fun t => t.flag F.STB_STATUS_FW_OK =
    true ∧ t.stb.fwLost = false) ∧
  (∀ s, s.stbOn = true → s.stb.fwLost = false → s.stb.beat + 100000 ≤ s.us →
    Completes (.fwLost) s fun t => t.flag F.STB_STATUS_FW_OK = false ∧ t.stb.fwLost = true) ∧
  (∀ s, s.stbOn = true → s.stbSt = 3 → s.fld F.STB_HO_CFG_TE_LIMIT ≤ s.fld F.STB_HO_BOUND_BOUND →
    Completes (.hoBoundCheck) s fun t => t.stbSt = 4 ∧ t.flag F.STB_EVT_ENTER_HO_LIMIT = true) ∧
  (∀ s, s.stbOn = true → s.stbSt = 3 → s.stb.fwLost = true →
    s.stb.lostAt + 60000000 * max 1 (s.fld F.STB_HO_CFG_FROZEN_LIM) ≤ s.us →
    Completes (.frozenLim) s fun t => t.stbSt = 4 ∧ t.flag F.STB_EVT_ENTER_HO_LIMIT = true) ∧
  (∀ s m v, s.accepts m (R .STB_STEER_SRV_HI) = true →
    Completes (.steerSrv m v) s fun t => t.rd (R .STB_STEER_SRV_HI) = v &&& (R .STB_STEER_SRV_HI).mask ∧
    t.rd (R .STB_STEER_SRV_LO) = s.heldLo m (R .STB_STEER_SRV_LO)) ∧
  (∀ s m v, s.accepts m (R .STB_STEER_MAN_HI) = true →
    Completes (.steerMan m v) s fun t => t.rd (R .STB_STEER_MAN_HI) = v &&& (R .STB_STEER_MAN_HI).mask ∧
    t.rd (R .STB_STEER_MAN_LO) = s.heldLo m (R .STB_STEER_MAN_LO)) ∧
  (∀ s w a b, s.windowOver 600 w = true → s.sampleOk = true → s.stb.clean10 = true →
    Completes (.sample10min w a b) s fun t => t.stb.s10 = (s.sampleNow w (s.stb.w10Sum / s.stb.w10N) a b ::
    s.stb.s10).take 1008) ∧
  (∀ s w a b, s.windowOver 1 w = true → s.sampleOk = true → s.stb.clean1 = true →
    Completes (.sample1s w a b) s fun t => t.stb.s1 = (s.sampleNow w s.stb.wMean a b :: s.stb.s1).take 3600) ∧
  (∀ s t0, s.stbOn = true → s.flag F.STB_STATUS_PRUNING = true → s.stb.onset = some t0 →
    Completes (.pruneDone) s fun t => t.flag F.STB_STATUS_PRUNING = false ∧ t.rdN (R .STB_ONSET) = t0 % 2 ^ 32 ∧
    t.stb.s10 = s.stb.s10.filter (fun x => x.start + 600 ≤ t0) ∧ t.stb.s1 = s.stb.s1.filter fun x => x.start < t0) ∧
  (∀ s p, s.stbOn = true → p < 16 → bitOf (s.rd (R .STB_ESMC_TX)) p = true →
    Completes (.esmcTx p) s fun t => t.stb.sent.get none p = some (s.esmcPdu p false)) ∧
  (∀ s p, s.stbOn = true → p < 16 → bitOf (s.rd (R .STB_ESMC_TX)) p = true → s.stb.sent.get none p = none →
    Completes (.eventPdu p) s fun t => t.stb.sent.get none p = some (s.esmcPdu p true))

/-- The commands about Postmark: steps, adjustments, packets, pulses, time messages and the timing chain complete,
  each with its effect as the clause says: STEP, STEPPED, STEP_CANCEL, ADJ, ADJ_DONE, AUTO_STEP, SEC_MIS,
  TIME_FAULT, PTP_RX, ONE_STEP_SYNC, PPS_OUT, TOD_MESSAGE, ZDA, TIME_MESSAGE, TT_LATCH, TCH_FRAME_TX, TCH_FRAME_RX,
  TIME_POSTCARD, PPS_WIDTH_END. -/
def Obligations.PostmarkCommandsComplete : Prop :=
  (∀ s m, s.accepts m (R .PMK_CTRL) = true → Completes (.pmkStep m) s fun t => t.flag F.PMK_STATUS_STEP_PEND = true) ∧
  (∀ s, s.stbOn = true → s.flag F.PMK_STATUS_STEP_PEND = true →
    Completes (.stepped) s fun t => t.flag F.PMK_STATUS_STEP_PEND = false ∧ t.flag F.PMK_STATUS_TIME_VALID = true ∧
    t.flag F.PMK_EVT_STEPPED = true ∧ t.pmkTime = s.timeSet % (2 ^ 48 * oneSec)) ∧
  (∀ s m, s.accepts m (R .PMK_CTRL) = true → Completes (.stepCancel m) s fun t => t.flag F.PMK_STATUS_STEP_PEND =
    false) ∧
  (∀ s m v, s.accepts m (R .PMK_ADJ) = true → (signed 32 v.toNat).natAbs ≤ 1000000 →
    Completes (.adj m v) s fun t => t.pmk.adj = signed 32 v.toNat * 65536 ∧ t.flag F.PMK_STATUS_ADJ_BUSY = true) ∧
  (∀ s m v, s.accepts m (R .PMK_ADJ) = true → 1000000 < (signed 32 v.toNat).natAbs →
    Completes (.adj m v) s fun t => t.pmk.adj = s.pmk.adj ∧ t.flag F.PMK_EVT_ADJ_REFUSED = true) ∧
  (∀ s, s.stbOn = true → s.flag F.PMK_STATUS_ADJ_BUSY = true →
    Completes (.adjDone) s fun t => t.flag F.PMK_STATUS_ADJ_BUSY = false ∧ t.flag F.PMK_EVT_ADJ_DONE = true ∧
    t.pmk.adj = 0 ∧ t.pmkTime = ((s.pmkTime : Int) + s.pmk.adj).toNat % (2 ^ 48 * oneSec)) ∧
  (∀ s err, s.stbOn = true → s.flag F.PMK_CFG_AUTO_STEP = true → s.stbSt = 1 → s.stbSel = 10 →
    s.flag F.PMK_STATUS_STEP_PEND = false → 100 * 65536 * max 1 (s.fld F.PMK_CFG_STEP_TH) < err.natAbs →
    Completes (.autoStep err) s fun t => t.pmkTime = ((s.pmkTime : Int) - err).toNat % (2 ^ 48 * oneSec) ∧
    t.flag F.PMK_EVT_STEPPED = true) ∧
  (∀ s, s.stbOn = true → 2 ≤ s.stbSt → s.stbSt ≤ 4 → 3 ≤ s.pmk.gnssMis ∨ (s.flag F.PMK_TCH_STATUS_IN_SYNC = true ∧
    3 ≤ s.pmk.tchMis) → Completes (.secMis) s fun t => t.flag F.PMK_EVT_SEC_MIS = true) ∧
  (∀ s d, s.stbOn = true → s.flag F.PMK_STATUS_TIME_FAULT = false → s.pmk.diff + d ≠ 0 →
    Completes (.timeFault d) s fun t => t.pmk.diff = s.pmk.diff + d ∧
    t.rdN (R .SAF_FAULT_CNT 3) = min (s.rdN (R .SAF_FAULT_CNT 3) + 1) 0xFFFFFFFF) ∧
  (∀ s p n l, s.stbOn = true → p < 16 → s.domOn 1 = true → s.portUp p = true →
    s.flag F.PMK_PTP_CFG_PTP_EN p = true → (s.pmk.ptp.drop n).length < 256 →
    Completes (.ptpRx p n l) s fun t => t.pmk.ptp = s.pmk.ptp.drop n ++ [⟨p, l,
    (s.pmkTime : Int) + psUnits (signed 16 (s.rdN (R .PMK_RX_DLY p)))⟩]) ∧
  (∀ s p n l, s.stbOn = true → p < 16 → s.domOn 1 = true → s.portUp p = true →
    s.flag F.PMK_PTP_CFG_PTP_EN p = true → 256 ≤ (s.pmk.ptp.drop n).length →
    Completes (.ptpRx p n l) s fun t => t.pmk.ptp = s.pmk.ptp.drop n ∧ t.flag F.PMK_EVT_PTP_DROP = true ∧
    t.rdN (R .PMK_PTP_RX_DROP) = min (s.rdN (R .PMK_PTP_RX_DROP) + 1) 0xFFFFFFFF) ∧
  (∀ s p l, s.stbOn = true → s.domOn 1 = true → p < 16 → s.portUp p = true → s.timeOk = false →
    Completes (.oneStepSync p l) s fun t => t.rdN (R .PMK_PTP_TX_DROP) = min (s.rdN (R .PMK_PTP_TX_DROP) + 1)
    0xFFFFFFFF ∧ t.pmk.sync = s.pmk.sync) ∧
  (∀ s p l, s.stbOn = true → s.domOn 1 = true → p < 16 → s.portUp p = true → s.timeOk = true →
    Completes (.oneStepSync p l) s fun t => ∃ b : List Byte, t.pmk.sync = some (p, b ++ leBytes 4 (crc32 b))) ∧
  (∀ s, s.stbOn = true → s.ppsSq = false → s.ppsEval.ppsSq = false →
    Completes (.ppsOut) s fun t => t.pmk.ppsEnd = s.us + 1000 * max 1 (min 500 (s.fld F.PMK_PPS_CFG_WIDTH))) ∧
  (∀ s, s.stbOn = true → s.flag F.PMK_TOD_CFG_EN = true → Completes (.todMessage) s fun t => t.pmk.tod = s.todMsg) ∧
  (∀ s utc, s.stbOn = true → Completes (.zda true utc) s fun t => t.pmk.gnss = some (((utc : Int) + signed 16 (s.fld
    F.PMK_UTC_UTC_OFS)).toNat, s.flag F.PMK_TOD_CFG_GNSS_ALIGN)) ∧
  (∀ s utc, s.stbOn = true → Completes (.zda false utc) s fun t => t.rdN (R .PMK_GNSS_ERR_CNT) = min (s.rdN (R
    .PMK_GNSS_ERR_CNT) + 1) 0xFFFFFFFF ∧ t.pmk.gnss = s.pmk.gnss) ∧
  (∀ s c, s.stbOn = true → c < s.nCar → s.domOn (4 + c) = true → s.fld F.CAX_RX_STATUS_RXSTATE c = 2 →
    s.fld F.LFM_CA_STATUS_SRC c ≠ 15 → s.msgIn c = none →
    Completes (.timeMessage c (s.fld F.LFM_CA_STATUS_SRC c)) s fun t => t.flag F.PMK_TT_EVT_MSG_BAD c = true ∧
    t.rdN (R .PMK_TT_BAD_CNT c) = min (s.rdN (R .PMK_TT_BAD_CNT c) + 1) 0xFFFFFFFF) ∧
  (∀ s c x, s.stbOn = true → c < s.nCar → s.domOn (4 + c) = true → s.fld F.CAX_RX_STATUS_RXSTATE c = 2 →
    s.fld F.LFM_CA_STATUS_SRC c ≠ 15 → s.msgIn c = some x → s.flag F.PMK_TT_CFG_EN c = false →
    Completes (.timeMessage c (s.fld F.LFM_CA_STATUS_SRC c)) s fun t => t.flag F.PMK_TT_STATUS_FAR_VALID c = x.valid
    ∧ t.flag F.PMK_TT_STATUS_FAR_CD_FINE c = x.cdFine ∧ t.rdN (R .PMK_FAR_FREQ c) = x.freq % 2 ^ 32) ∧
  (∀ s, s.stbOn = true → 0 < s.nCar → s.flag F.PMK_TT_CFG_EN 0 = true →
    (s.pmkCar 0).ex.filter (fun e => e.1 + 1 = s.sec) = [] →
    Completes (.ttLatch) s fun t => t.flag F.PMK_TT_STATUS_RUN 0 = false ∧ t.rd (R .PMK_TT_N 0) = 0 ∧
    t.flag F.PMK_TT_TAG_VALID 0 = false) ∧
  (∀ s l, s.stbOn = true → 0 < s.nCar → (s.pmkCar 0).ex.filter (fun e => e.1 + 1 = s.sec) = l → l ≠ [] →
    Completes (.ttLatch) s fun t => t.flag F.PMK_TT_STATUS_RUN 0 = true ∧
    t.fld F.PMK_TT_N_N 0 = min l.length 0xFFFF ∧ t.rdN (R .PMK_TT_TAG 0) = s.secTag) ∧
  (∀ s, s.stbOn = true → s.flag F.PMK_TCH_CFG_OUT_EN = true →
    Completes (.tchFrameTx) s fun t => t.pmk.tch = some s.tchFrame) ∧
  (∀ s w, s.stbOn = true → crc16 112 (BitVec.toNat w / 65536) = BitVec.toNat w % 65536 →
    Completes (.tchFrameRx (some w)) s fun t => t.fld F.PMK_TCH_STATUS_QL_IN = BitVec.toNat w / 2 ^ 76 % 16 ∧
    t.fld F.PMK_TCH_STATUS_HOPS_IN = BitVec.toNat w / 2 ^ 70 % 4) ∧
  (∀ s w, s.stbOn = true → crc16 112 (BitVec.toNat w / 65536) ≠ BitVec.toNat w % 65536 →
    Completes (.tchFrameRx (some w)) s fun t => t.rdN (R .PMK_TCH_CRC_CNT) = min (s.rdN (R .PMK_TCH_CRC_CNT) + 1)
    0xFFFFFFFF ∧ t.pmk.tchOk = 0) ∧
  (∀ s, s.stbOn = true → s.flag F.PMK_PC_CFG_EN = true →
    Completes (.timePostcard) s fun t => t.pccTx = (s.pccPend (s.fld F.PMK_PC_CFG_CARRIER) 3).pccTx) ∧
  (∀ s, s.stbOn = true → s.pmk.ppsEnd ≠ 0 → s.pmk.ppsEnd ≤ s.us →
    Completes (.ppsWidthEnd) s fun t => t.pmk.ppsEnd = 0)

/-- The commands about the monitor converters: triggers, results, checks and tone bins complete,
  each with its effect as the clause says: SLOT_DONE, MON_TRIG, TRIG_DONE, SOFT_TRIG, COMPAT_TIMER, SNAP_DONE,
  SETTLED, CHK_WINDOW, MON_FAULT, FAULT_CLR, BIN_BLOCK, PAIR_OUTPUT. -/
def Obligations.MonitorCommandsComplete : Prop :=
  (∀ s p x y, s.pairRuns p = true → s.flag F.MON_PAIR_CFG_CONT p = false → s.avgDone p x y = true →
    Completes (.slotDone p x y) s fun t => t.fld F.MON_PAIR_STATUS_SLOT_NOW p = (if s.fld F.MON_PAIR_STATUS_SLOT_NOW
    p + 1 < s.seqLen p then s.fld F.MON_PAIR_STATUS_SLOT_NOW p + 1 else 0) ∧
    t.rd (R .MON_RESULT (s.chain p).ch) = BitVec.ofNat 32 (resWord (s.pairOut p (outMean x) (outMean y)) + 2 ^ 28 *
    bit s.tagValid + 2 ^ 24 * p) &&& (R .MON_RESULT (s.chain p).ch).mask) ∧
  (∀ s p, s.monOn = true → s.compat = false → s.fld F.MON_CFG_TRIG_EDGE = 0 → p < 2 → s.pairOn p = true →
    s.flag F.MON_PAIR_CFG_CONT p = false → s.fld F.MON_CFG_TRIG_MASK / 2 ^ p % 2 = 1 → (s.pair p).deciding = false →
    (s.pair p).trig = none → (s.pair p).redo = false → Completes (.monTrig true) s fun t => (t.pair p).trig = some
    s.tagNow) ∧
  (∀ s p x y g, (s.pair p).trig = some g → s.pairOn p = true → s.pairSettled p = true → s.avgDone p x y = true →
    Completes (.trigDone p x y) s fun t => (t.pair p).trig = none ∧
    t.rd (R .MON_TRIG_RES p) = BitVec.ofNat 32 (resWord (s.pairOut p (outMean x) (outMean y))) &&& (R .MON_TRIG_RES
    p).mask ∧ t.rd (R .MON_TRIG_SEC p) = g.1 &&& (R .MON_TRIG_SEC p).mask ∧ t.flag F.MON_EVT_TRIG_DONE = true) ∧
  (∀ s m, s.accepts m (R .MON_CTRL) = true → s.compat = true → s.flag F.MON_COMPAT_CFG_FREE = false →
    s.monSnap = none → Completes (.softTrig m) s fun t => t.monSnap = some s.tagNow ∧ t.monFree = false) ∧
  (∀ s, s.monOn = true → s.compat = true → s.rdN (R .MON_TIMER) ≠ 0 → s.flag F.MON_COMPAT_CFG_FREE = false →
    s.monSnap.isSome = true → s.monAt + 10 * s.rdN (R .MON_TIMER) ≤ s.us →
    Completes (.compatTimer) s fun t => t.flag F.MON_EVT_TRIG_OVR = true ∧ t.monSnap = s.monSnap ∧
    t.rdN (R .MON_TRIG_OVR_CNT) = min (s.rdN (R .MON_TRIG_OVR_CNT) + 1) 0xFFFFFFFF) ∧
  (∀ s l g, s.monOn = true → s.compat = true → s.fld F.MON_STATUS_SETTLING = 0 → s.monSnap = some g →
    Completes (.snapDone l) s fun t => t.monSnap = none ∧ t.flag F.MON_EVT_SNAP_DONE = true ∧
    t.rd (R .MON_SNAP_SEC) = g.1) ∧
  (∀ s n, s.monOn = true → n < 4 → s.compat = true ∨ s.pairOn (n / 2) = true →
    1000 * (s.pair (n / 2)).since + s.pairSettle (n / 2) ≤ 1000 * s.us + 999 →
    Completes (.settled n) s fun t => t.fld F.MON_STATUS_SETTLING = (s.fld F.MON_STATUS_SETTLING &&& (15 - 2 ^ n)) %
    16) ∧
  (∀ s p ms x y, s.pairOn p = true → (s.pair p).deciding = false → ms + 1 = s.msNow →
    (s.pair p).since + chkSpan ≤ s.us → ((x + s.monOffset (2 * p)) - (y + s.monOffset (2 * p + 1))).natAbs ≤
    s.chkTol → Completes (.chkWindow p ms x y) s fun t => (t.pair p).run = 0) ∧
  (∀ s p ms x y, s.pairOn p = true → (s.pair p).deciding = false → ms + 1 = s.msNow →
    (s.pair p).since + chkSpan ≤ s.us → s.chkTol < ((x + s.monOffset (2 * p)) - (y + s.monOffset (2 * p +
    1))).natAbs → Completes (.chkWindow p ms x y) s fun t => t.flag F.MON_EVT_CHK_FAIL = true ∧
    (t.pair p).run = (s.pair p).run + 1 ∧ t.rdN (R .MON_CHK_FAIL_CNT) = min (s.rdN (R .MON_CHK_FAIL_CNT) + 1)
    0xFFFFFFFF) ∧
  (∀ s p x y, s.pairOn p = true → (s.pair p).deciding = true → (s.pair p).since + chkSpan ≤ s.us →
    Completes (.monFault p x y) s fun t => t.flag F.MON_EVT_FAULT = true ∧ (t.pair p).deciding = false ∧
    (t.pair p).run = 0 ∧ t.rdN (R .SAF_FAULT_CNT 4) = min (s.rdN (R .SAF_FAULT_CNT 4) + 1) 0xFFFFFFFF) ∧
  (∀ s m, s.accepts m (R .MON_CTRL) = true → Completes (.faultClr m) s fun t => t.fld F.MON_STATUS_FAULT = 0) ∧
  (∀ s b n l g h, s.monOn = true → b < 8 → n = 2 ^ max 4 (min 16 (s.fld F.MON_BIN_CFG_LOG2N b)) →
    l = s.bins.get [] b → n ≤ l.length → l.head?.map Prod.snd = some (g, h) →
    Completes (.binBlock b g h) s fun t => t.rd (R .MON_BIN_SEC b) = g &&& (R .MON_BIN_SEC b).mask ∧
    t.rd (R .MON_BIN_NS b) = h &&& (R .MON_BIN_NS b).mask ∧ t.flag F.MON_BIN_MAG_NEW b = true ∧
    t.fld F.MON_BIN_MAG_MAG b = binMag (s.flag F.MON_BIN_CFG_HANN b) (s.rdN (R .MON_BIN_FREQ b)) ((l.take n).map
    Prod.fst) % 2 ^ 24 ∧ t.bins.get [] b = l.drop n) ∧
  (∀ s p x y, s.pairRuns p = true → s.flag F.MON_PAIR_CFG_CONT p = true →
    Completes (.pairOutput p x y) s fun t => t.rd (R .MON_LAST p) = BitVec.ofNat 32 (resWord (s.pairOut p x y)) &&&
    (R .MON_LAST p).mask ∧ t.rd (R .MON_RESULT (s.chain p).ch) = BitVec.ofNat 32 (resWord (s.pairOut p x y) + 2 ^ 28
    * bit s.tagValid + 2 ^ 24 * p) &&& (R .MON_RESULT (s.chain p).ch).mask)

/-- The commands about the Postcard channel: its transmitters, slots and receive FIFO complete,
  each with its effect as the clause says: MON_CFG_WRITE, POSTCARD_TX_START, TX_DONE, TX_CMD, TX_EXPIRED,
  IDENT_TIMER, QL_TIMER, DEFECT_TIMER, SR_TIMER, PREAMBLE_DETECTION, FALSE_DET, SYNC_MATCH, POSTCARD_END,
  BOUND_TIMEOUT, SEQ_WINDOW_RESET, RX_POP, PCC_CFG_WRITE. -/
def Obligations.PostcardCommandsComplete : Prop :=
  (∀ s m addr v n, (regAt addr).filter monPage = some (R .MON_CH_CFG n) → s.accepts m (R .MON_CH_CFG n) = true →
    n < 4 → Completes (.monCfgWrite m addr v) s fun t => t.rd (R .MON_CH_CFG n) = v &&& (R .MON_CH_CFG n).mask) ∧
  (∀ s c p k, s.pccSends c = true → (s.pccT c).active = none → (s.pccT c).tone + s.txBits c 8 ≤ s.us →
    s.pccPick c = some (p, k) → Completes (.postcardTxStart c) s fun t => (t.pccT c).left = s.fld
    F.PCC_TX_CFG_REPEAT c ∧ (t.pccT c).active = some { p with seq := s.fld F.PCC_TX_STATUS_SEQ c } ∧
    t.flag F.PCC_TX_STATUS_ACTIVE c = true ∧ t.fld F.PCC_TX_STATUS_SEQ c = (s.fld F.PCC_TX_STATUS_SEQ c + 1) % 256) ∧
  (∀ s c p, s.pccOn = true → (s.pccT c).active = some p → (s.pccT c).start + s.txBits c (96 + 32 * p.len) ≤ s.us →
    0 < (s.pccT c).left → Completes (.txDone c) s fun t => (t.pccT c).active = some p ∧
    (t.pccT c).left = (s.pccT c).left - 1 ∧ (t.pccT c).start = s.us + s.txBits c 8) ∧
  (∀ s c p, s.pccOn = true → (s.pccT c).active = some p → (s.pccT c).start + s.txBits c (96 + 32 * p.len) ≤ s.us →
    (s.pccT c).left = 0 → Completes (.txDone c) s fun t => (t.pccT c).active = none ∧
    t.flag F.PCC_TX_STATUS_ACTIVE c = false ∧ t.rdN (R .PCC_TX_SENT c) = min (s.rdN (R .PCC_TX_SENT c) + 1)
    0xFFFFFFFF) ∧
  (∀ s m c v, s.accepts m (R .PCC_TX_CMD c) = true → (s.pccT c).queue.length < 4 → F.PCC_TX_CMD_TYPE.get v = 6 →
    F.PCC_TX_CMD_LEN.get v ≤ 16 → Completes (.txCmd m c v) s fun t => (t.pccT c).queue = (s.pccT c).queue ++ [⟨6,
    F.PCC_TX_CMD_LEN.get v, (List.range (F.PCC_TX_CMD_LEN.get v)).map fun i => (s.pccT c).stage.get 0 i, 0, s.us⟩]) ∧
  (∀ s m c v, s.accepts m (R .PCC_TX_CMD c) = true → 4 ≤ (s.pccT c).queue.length →
    Completes (.txCmd m c v) s fun t => t.flag F.PCC_EVT_CFG_REFUSED = true ∧ t.fld F.PCC_STATUS_REF_CODE = 4 ∧
    (t.pccT c).queue = (s.pccT c).queue) ∧
  (∀ s c p l, s.pccOn = true → (s.pccT c).queue = p :: l →
    p.since + 100000 * max 1 (s.fld F.PCC_TX_AUTO_TX_TTL c) ≤ s.us →
    Completes (.txExpired c) s fun t => (t.pccT c).queue = l ∧ t.flag F.PCC_EVT_TX_EXPIRED = true ∧
    t.rdN (R .PCC_TX_EXPIRED_CNT c) = min (s.rdN (R .PCC_TX_EXPIRED_CNT c) + 1) 0xFFFFFFFF) ∧
  (∀ s c, c < s.nCar → s.domOn 3 = true → s.pccAuto c 0 = true →
    (s.pccT c).timer.get 0 0 + 1000000 * max 1 (s.fld F.PCC_TX_AUTO_ID_PERIOD c) ≤ s.us →
    Completes (.identTimer c) s fun t => (t.pccT c).autos.contains 0 = true ∧ (t.pccT c).timer.get 0 0 = s.us) ∧
  (∀ s c, c < s.nCar → s.domOn 3 = true → s.pccAuto c 1 = true →
    (s.pccT c).timer.get 0 1 + 1000000 * max 1 (s.fld F.PCC_TX_AUTO_QL_PERIOD c) ≤ s.us →
    Completes (.qlTimer c) s fun t => (t.pccT c).autos.contains 1 = true ∧ (t.pccT c).timer.get 0 1 = s.us) ∧
  (∀ s c, c < s.nCar → s.domOn 3 = true → s.pccAuto c 2 = true →
    s.fld F.LFM_CA_STATUS_RDI_MAP_TX c ≠ 0 ∨ s.defectBits c ≠ 0 → (s.pccT c).timer.get 0 2 + 1000000 * 1 ≤ s.us →
    Completes (.defectTimer c) s fun t => (t.pccT c).autos.contains 2 = true ∧ (t.pccT c).timer.get 0 2 = s.us) ∧
  (∀ s c, c < s.nCar → s.domOn 3 = true → s.pccAuto c 5 = true → s.fld F.LFM_CA_STATUS_SRC c = 15 →
    (s.pccT c).timer.get 0 5 + 1000000 * 1 ≤ s.us → Completes (.srTimer c) s fun t => (t.pccT c).autos.contains 5 =
    true ∧ (t.pccT c).timer.get 0 5 = s.us) ∧
  (∀ s k lvl, s.pccOn = true → k < 8 → s.fld F.PCC_SLOT_STATUS_STATE k = 1 →
    signed 16 (s.rdN (R .PCC_DET_LVL k)) ≤ lvl → Completes (.preambleDetection k lvl) s fun t => t.fld
    F.PCC_SLOT_STATUS_STATE k = 2 ∧ (t.pccR k).armLevel = lvl) ∧
  (∀ s k, s.pccOn = true → k < 8 → s.fld F.PCC_SLOT_STATUS_STATE k = 2 →
    (s.pccR k).armAt + 64000 / (s.fld F.PCC_SLOT_CFG_RATE k + 1) ≤ s.us →
    Completes (.falseDet k) s fun t => t.fld F.PCC_SLOT_STATUS_STATE k = 1 ∧
    t.flag F.PCC_SLOT_STATUS_FROZEN k = false ∧ t.rdN (R .PCC_FALSE_DET k) = min (s.rdN (R .PCC_FALSE_DET k) + 1)
    0xFFFFFFFF) ∧
  (∀ s k lvl w, s.pccOn = true → k < 8 → syncErrs w ≤ 3 → s.fld F.PCC_SLOT_STATUS_STATE k = 2 →
    Completes (.syncMatch k lvl w) s fun t => t.fld F.PCC_SLOT_STATUS_STATE k = 3 ∧
    t.flag F.PCC_SLOT_STATUS_FROZEN k = true ∧ t.rdN (R .PCC_LOCK_LVL k) = unsigned 16 lvl) ∧
  (∀ s k hdr data crc, s.pccOn = true → k < 8 → s.fld F.PCC_SLOT_STATUS_STATE k = 3 → hdr / 256 % 32 ≤ 16 →
    cardCrc hdr ((List.range (hdr / 256 % 32)).map fun i => data.getD i 0) ≠ crc →
    Completes (.postcardEnd k hdr data crc) s fun t => t.fld F.PCC_SLOT_STATUS_STATE k = 1 ∧
    t.rdN (R .PCC_CRC_FAIL k) = min (s.rdN (R .PCC_CRC_FAIL k) + 1) 0xFFFFFFFF) ∧
  (∀ s k hdr data crc, s.pccOn = true → k < 8 → s.fld F.PCC_SLOT_STATUS_STATE k = 3 → 16 < hdr / 256 % 32 →
    Completes (.postcardEnd k hdr data crc) s fun t => t.fld F.PCC_SLOT_STATUS_STATE k = 1 ∧
    t.rdN (R .PCC_HDR_BAD k) = min (s.rdN (R .PCC_HDR_BAD k) + 1) 0xFFFFFFFF) ∧
  (∀ s k hdr data d, s.pccOn = true → k < 8 → s.fld F.PCC_SLOT_STATUS_STATE k = 3 → hdr < 65536 → hdr / 8192 = 6 →
    hdr / 256 % 32 ≤ 16 → (s.pccR k).anySeq = true → d = ((List.range (hdr / 256 % 32)).map fun i => data.getD i 0)
    → Completes (.postcardEnd k hdr data (cardCrc hdr d)) s fun t => t.fld F.PCC_SLOT_STATUS_STATE k = 1 ∧
    t.rdN (R .PCC_LAST_SEQ k) = hdr % 256 ∧ (t.pccR k).anySeq = false ∧
    t.rdN (R .PCC_RX_OK k) = min (s.rdN (R .PCC_RX_OK k) + 1) 0xFFFFFFFF ∧ (bitOf (s.rd (R .PCC_CFG)) 6 = true →
    s.pccFifo.length < 16 → t.pccFifo = s.pccFifo ++ [⟨k, hdr, s.rdN (R .PCC_LOCK_LVL k), (s.pccR k).syncTag, d⟩] ∧
    t.flag F.PCC_EVT_RX_READY = true)) ∧
  (∀ s k, s.pccOn = true → k < 8 → s.flag F.PCC_SLOT_STATUS_BOUND k = true → (s.pccR k).bindAt + 35000000 ≤ s.us →
    Completes (.boundTimeout k) s fun t => t.flag F.PCC_SLOT_STATUS_BOUND k = false ∧ (t.pccR k).anySeq = true) ∧
  (∀ s k, s.pccOn = true → k < 8 → (s.pccR k).okAt + 30000000 ≤ s.us →
    Completes (.seqWindowReset k) s fun t => (t.pccR k).anySeq = true) ∧
  (∀ s m v, s.accepts m (R .PCC_RX_POP) = true → bitOf v 0 = true →
    Completes (.rxPop m v) s fun t => t.pccFifo = s.pccFifo.tail) ∧
  (∀ s m v, s.accepts m (R .PCC_CFG) = true → s.slotsMany v = true →
    Completes (.pccCfgWrite m v) s fun t => t.rd (R .PCC_CFG) = s.rd (R .PCC_CFG) ∧
    t.flag F.PCC_EVT_CFG_REFUSED = true ∧ t.fld F.PCC_STATUS_REF_CODE = 1) ∧
  (∀ s m v, s.accepts m (R .PCC_CFG) = true → s.slotsMany v = false →
    Completes (.pccCfgWrite m v) s fun t => t.rd (R .PCC_CFG) = v &&& (R .PCC_CFG).mask)

/-- The commands about host lanes: training, clock recovery and ports coming up complete,
  each with its effect as the clause says: TRAIN_DONE, TRAIN_FAIL, TRAIN_RETRY, CDR_LOL, LANE_CNT_CLR, CDR_LOCK,
  PORT_UP. -/
def Obligations.HostLaneCommandsComplete : Prop :=
  (∀ s l eq snr, s.laneOn l = true → s.fld F.HLN_TRAIN_STATUS_STATE l = 1 →
    Completes (.trainDone l eq snr) s fun t => t.fld F.HLN_TRAIN_STATUS_STATE l = 2 ∧
    t.flag F.HLN_LANE_EVT_TRAIN_DONE l = true ∧ t.rd (R .HLN_TX_EQ_ACT l) = (tapsApply eq).1 &&& (R .HLN_TX_EQ_ACT
    l).mask) ∧
  (∀ s l, s.laneOn l = true → s.fld F.HLN_TRAIN_STATUS_STATE l = 1 →
    Completes (.trainFail l) s fun t => t.fld F.HLN_TRAIN_STATUS_STATE l = 0 ∧
    t.flag F.HLN_LANE_EVT_TRAIN_FAIL l = true ∧ t.retryLane = (l, s.us) :: s.retryLane.filter (fun e => e.1 != l)) ∧
  (∀ s l a, s.retryOf l = some a → a + 10000 ≤ s.us → s.trainable l = true →
    Completes (.trainRetry l) s fun t => t.fld F.HLN_TRAIN_STATUS_STATE l = 1 ∧
    t.retryLane = s.retryLane.filter (fun e => e.1 != l)) ∧
  (∀ s l, s.laneOn l = true → s.flag F.HLN_RX_STATUS_CDR_LOCK l = true →
    Completes (.cdrLol l) s fun t => t.flag F.HLN_RX_STATUS_CDR_LOCK l = false ∧
    t.flag F.HLN_PRBS_STATUS_CHK_LOCK l = false) ∧
  (∀ s m l v, s.accepts m (R .HLN_LANE_CTRL l) = true → F.HLN_LANE_CTRL_CNT_CLR.get v = 1 →
    Completes (.laneCntClr m l v) s fun t => t.rd64 (R .HLN_FEC_SYM_ERR_LO l) (R .HLN_FEC_SYM_ERR_HI l) = 0) ∧
  (∀ s l, s.laneOn l = true → Completes (.cdrLock l) s fun t => t.flag F.HLN_RX_STATUS_CDR_LOCK l = true ∧
    t.flag F.HLN_RX_STATUS_SIG l = true) ∧
  (∀ s p, s.domOn 7 = true → s.inReset 7 0 = false → p < 16 → s.portAble p = true →
    Completes (.portUp p) s fun t => t.flag F.SOF_PORT_STATUS_UP p = true)

/-- The commands about test patterns, yard links, forwarding, images and remote access complete,
  each with its effect as the clause says: PRBS_LOCK, PRBS_LOSS, ERR_INJ, GEN_EN, YARD_BLOCK, HELLO, HELLO_LOST,
  RUN_READY, RUN_SWITCH, LANE_FAILURE, SPARE_IN, REVERT, SIDEBAND_MESSAGE, SIDEBAND_REPEAT, IMG_WANT, IMG_RESTART,
  IMG_WAIT_TIMEOUT, RMT_CMD, FWD_WRITE, STATUS_TIMEOUT, BLOCK_LOCK, YARD_BLOCK_TX. -/
def Obligations.YardCommandsComplete : Prop :=
  (∀ s l, s.checkable l = true → Completes (.prbsLock false l) s fun t => t.flag F.HLN_PRBS_STATUS_CHK_LOCK l = true
    ∧ t.flag F.HLN_LANE_EVT_PRBS_LOCK l = true) ∧
  (∀ s l, s.yardCheckable l = true → Completes (.prbsLock true l) s fun t => t.flag F.YL_PRBS_STATUS_CHK_LOCK l =
    true) ∧
  (∀ s l n, s.laneOn l = true → s.flag F.HLN_PRBS_STATUS_CHK_LOCK l = true →
    Completes (.prbsLoss false l n) s fun t => t.flag F.HLN_PRBS_STATUS_CHK_LOCK l = false ∧
    t.flag F.HLN_LANE_EVT_PRBS_LOSS l = true ∧ t.rd64 (R .HLN_PRBS_ERR_LO l) (R .HLN_PRBS_ERR_HI l) = min (s.rd64 (R
    .HLN_PRBS_ERR_LO l) (R .HLN_PRBS_ERR_HI l) + n) (2 ^ 64 - 1)) ∧
  (∀ s l n, s.yrdOn = true → s.flag F.YL_PRBS_STATUS_CHK_LOCK l = true →
    Completes (.prbsLoss true l n) s fun t => t.flag F.YL_PRBS_STATUS_CHK_LOCK l = false ∧
    t.rd64 (R .YL_PRBS_ERR_LO l) (R .YL_PRBS_ERR_HI l) = min (s.rd64 (R .YL_PRBS_ERR_LO l) (R .YL_PRBS_ERR_HI l) +
    n) (2 ^ 64 - 1)) ∧
  (∀ s m l v, s.accepts m (R .HLN_PRBS_CFG l) = true → F.HLN_PRBS_CFG_ERR_INJ.get v = 1 →
    F.HLN_PRBS_CFG_GEN_EN.get v = 1 → Completes (.errInj m false l v) s fun t => t.prbsInj.get 0 l = s.prbsInj.get 0
    l + 1) ∧
  (∀ s m l v, s.accepts m (R .YL_PRBS_CFG l) = true → F.YL_PRBS_CFG_ERR_INJ.get v = 1 →
    F.YL_PRBS_CFG_GEN_EN.get v = 1 → Completes (.errInj m true l v) s fun t => t.prbsInj.get 0 (32 + l) =
    s.prbsInj.get 0 (32 + l) + 1) ∧
  (∀ s m l v, s.accepts m (R .HLN_PRBS_CFG l) = true → F.HLN_PRBS_CFG_GEN_EN.get v = 1 →
    Completes (.genEn m false l v) s fun t => t.flag F.HLN_PRBS_CFG_GEN_EN l = true) ∧
  (∀ s m l v, s.accepts m (R .YL_PRBS_CFG l) = true → F.YL_PRBS_CFG_GEN_EN.get v = 1 →
    Completes (.genEn m true l v) s fun t => t.flag F.YL_PRBS_CFG_GEN_EN l = true) ∧
  (∀ s l fill, s.yrdOn = true → l < 8 → s.flag F.YL_STATUS_BLK_LOCK l = true →
    Completes (.yardBlock l fill .bad) s fun t => t.rdN (R .YLN_BAD_BLK l) = min (s.rdN (R .YLN_BAD_BLK l) + 1)
    0xFFFFFFFF) ∧
  (∀ s l fill g n k, s.yrdOn = true → l < 8 → s.flag F.YL_STATUS_BLK_LOCK l = true → s.linkSt (linkOf l) = 2 →
    s.inUse l = true → 1 ≤ k → k ≤ 16 → Completes (.yardBlock l fill (.select g n k)) s fun t => (t.link (linkOf
    l)).left = k ∧ (t.link (linkOf l)).take = if s.fwdRx (linkOf l) g n then some (g, n) else none) ∧
  (∀ s l fill, s.yrdOn = true → l < 8 → s.flag F.YL_STATUS_BLK_LOCK l = true → s.linkSt (linkOf l) = 2 →
    s.inUse l = true → (s.link (linkOf l)).left ≠ 0 → Completes (.yardBlock l fill .data) s fun t => (t.link (linkOf
    l)).left = (s.link (linkOf l)).left - 1) ∧
  (∀ s l h, s.yrdOn = true → l < 6 → h.dev ≠ s.fuse.devId → h.dev = s.partner (linkOf l) → h.pair = 2 - linkOf l →
    h.lane = l % 2 → s.linkSt (linkOf l) = 0 → h.img = 0 →
    Completes (.hello l h) s fun t => t.linkSt (linkOf l) = 1 ∧
    t.fld F.YLN_LINK_STATUS_PEER_ID (linkOf l) = h.dev % 2 ^ F.YLN_LINK_STATUS_PEER_ID.len ∧
    (t.link (linkOf l)).rr = h.rr ∧ (t.link (linkOf l)).helloAt = s.us) ∧
  (∀ s l h, s.yrdOn = true → l < 8 → h.dev = s.fuse.devId →
    Completes (.hello l h) s fun t => t.flag F.YLN_ID_STATUS_DUP_ID = true ∧ t.flag F.YLN_ID_EVT_DUP_ID = true ∧
    t.boot.dup = true) ∧
  (∀ s j, s.yrdOn = true → j < 3 → s.linkSt j ≠ 0 → (s.link j).helloAt + 100 ≤ s.us →
    Completes (.helloLost j) s fun t => t.linkSt j = 0 ∧ t.flag F.YLN_LINK_STATUS_SPARE j = false) ∧
  (∀ s m v, s.accepts m (R .YLN_YARD_CFG) = true → F.YLN_YARD_CFG_RUN_READY.get v = 1 →
    Completes (.runReady m v) s fun t => t.flag F.YLN_YARD_CFG_RUN_READY = true) ∧
  (∀ s j, s.yrdOn = true → j < 3 → (s.link j).switching = true → 2 ≤ (s.working j).length →
    Completes (.runSwitch j) s fun t => t.linkSt j = 2 ∧ (t.link j).switching = false) ∧
  (∀ s l, s.yrdOn = true → l < 8 → s.inUse l = false →
    Completes (.laneFailure l true) s fun t => t.flag F.YL_STATUS_BLK_LOCK l = false ∧ l ∈ (t.link (linkOf l)).bad) ∧
  (∀ s j, s.yrdOn = true → j < 3 → (s.link j).swap = true → s.spareReady j = true →
    Completes (.spareIn j) s fun t => t.linkSt j = 2 ∧ t.flag F.YLN_LINK_STATUS_SPARE j = true ∧
    t.flag F.YLN_LINK_EVT_SPARE_IN j = true ∧ (t.link j).swap = false) ∧
  (∀ s m j v, s.accepts m (R .YLN_LINK_CTRL j) = true → F.YLN_LINK_CTRL_REVERT.get v = 1 →
    s.flag F.YLN_LINK_STATUS_SPARE j = true → Completes (.revert m j v) s fun t => t.flag F.YLN_LINK_STATUS_SPARE j
    = false) ∧
  (∀ s j seq, s.yrdOn = true → j < 3 → s.linkSt j ≠ 0 → s.flag F.YLN_LINK_STATUS_WIRING j = false →
    Completes (.sidebandMessage j seq .other) s fun t => (t.link j).rxSeq = some seq) ∧
  (∀ s j seq, s.yrdOn = true → j < 3 → s.linkSt j ≠ 0 → s.flag F.YLN_LINK_STATUS_WIRING j = false →
    (s.link j).unacked = true → s.fuse.devId = 0 → s.fld F.YLN_IMG_FWD_STATE (j + 1) = 1 →
    s.boot.image.length ≤ 4096 * ((s.link j).part + 1) →
    Completes (.sidebandMessage j seq .ack) s fun t => t.fld F.YLN_IMG_FWD_STATE (j + 1) = 2 ∧
    t.flag F.YLN_ID_EVT_IMG_DONE = true ∧ (t.link j).unacked = false) ∧
  (∀ s j seq, s.yrdOn = true → j < 3 → s.linkSt j ≠ 0 → s.flag F.YLN_LINK_STATUS_WIRING j = false →
    (s.link j).unacked = true → s.fuse.devId = 0 → s.fld F.YLN_IMG_FWD_STATE (j + 1) = 1 →
    4096 * ((s.link j).part + 1) < s.boot.image.length →
    Completes (.sidebandMessage j seq .ack) s fun t => t.imgPart (j + 1) = (s.boot.image.drop (4096 * ((s.link
    j).part + 1))).take 4096 ∧ (t.link j).unacked = true) ∧
  (∀ s j seq d, s.yrdOn = true → j < 3 → s.linkSt j ≠ 0 → s.flag F.YLN_LINK_STATUS_WIRING j = false →
    (s.link j).rxSeq ≠ some seq → s.fuse.devId ≠ 0 → s.img = 1 → j = s.linkTo 0 →
    Completes (.sidebandMessage j seq (.image d)) s fun t => t.imgRx = s.imgRx ++ d ∧ (t.link j).rxSeq = some seq) ∧
  (∀ s j, s.yrdOn = true → j < 3 → (s.link j).unacked = true → (s.link j).repeats < 8 →
    (s.link j).sentAt + 1000 ≤ s.us → Completes (.sidebandRepeat j) s fun t => (t.link j).repeats = (s.link
    j).repeats + 1) ∧
  (∀ s j, s.yrdOn = true → j < 3 → s.fuse.devId = 0 → s.img = 2 → (s.link j).img = 1 → s.linkSt j ≠ 0 →
    s.flag F.YLN_LINK_STATUS_WIRING j = false → s.fld F.YLN_IMG_FWD_STATE (j + 1) = 0 →
    Completes (.imgWant j) s fun t => t.fld F.YLN_IMG_FWD_STATE (j + 1) = 1 ∧ (t.link j).unacked = true) ∧
  (∀ s d, s.yrdOn = true → 1 ≤ d → d ≤ 3 → s.fuse.devId = 0 → s.fld F.YLN_IMG_FWD_STATE d = 3 →
    s.linkSt (d - 1) ≠ 0 → s.flag F.YLN_LINK_STATUS_WIRING (d - 1) = false →
    (s.link (d - 1)).sentAt + 10000000 ≤ s.us → Completes (.imgRestart d) s fun t => t.fld F.YLN_IMG_FWD_STATE d = 1
    ∧ (t.link (d - 1)).unacked = true) ∧
  (∀ s, s.yrdOn = true → s.fuse.devId ≠ 0 → s.img = 1 → (s.link (s.linkTo 0)).imgAt + 1000000 ≤ s.us →
    Completes (.imgWaitTimeout) s fun t => t.imgRx = []) ∧
  (∀ s m v, s.accepts m (R .YLN_RMT_CMD) = true → F.YLN_RMT_CMD_GO.get v = 1 →
    Completes (.rmtCmd m v) s fun t => t.flag F.YLN_RMT_STATUS_BUSY = true ∧ t.rmt = some (F.YLN_RMT_CMD_DEV.get v,
    F.YLN_RMT_CMD_WRITE.get v == 1, s.us)) ∧
  (∀ s m j n v, s.accepts m (R .YLN_FWD_TX j n) = true →
    Completes (.fwdWrite m j true n v) s fun t => t.rd (R .YLN_FWD_TX j n) = v &&& (R .YLN_FWD_TX j n).mask) ∧
  (∀ s g n, s.yrdOn = true → s.statusStale g n = true →
    Completes (.statusTimeout g n) s fun t => t.yardSt.get 0 (g * 256 + n) = 0) ∧
  (∀ s l, s.yrdOn = true → l < 8 → s.flag F.YL_PRBS_CFG_GEN_EN l = false →
    Completes (.blockLock l) s fun t => t.flag F.YL_STATUS_BLK_LOCK l = true ∧ l ∉ (t.link (linkOf l)).bad) ∧
  (∀ s l ts fr, s.yrdOn = true → l < 8 → s.flag F.YL_PRBS_CFG_GEN_EN l = false →
    1023 ≤ (s.yardTx.get YardTx.init l).gap → Completes (.yardBlockTx l ts fr) s fun t => (t.yardTx.get YardTx.init
    l).last = some .filler ∧ (t.yardTx.get YardTx.init l).gap = 0)

/-- The commands about power domains: requests, handshakes, shutdown, wake and pads complete,
  each with its effect as the clause says: DOM_REQ, HANDSHAKE_ACCEPT, HS_REFUSED, DRAIN_REFUSED, SHUTDOWN_DONE,
  WAKE_STEP, WAKE_FAIL, RETRY, TWI_ADDRESS_MATCH, TWI_AON, WAKE_N, TIMER, PAD_HOLD. -/
def Obligations.PowerCommandsComplete : Prop :=
  (∀ s m d v, s.accepts m (R .PMU_DOM d) = true → s.fusedOff d = false → s.domSt d = 2 →
    F.PMU_DOM_WAKE_FAIL.get v = 0 → F.PMU_DOM_REQ.get v = 0 → Completes (.domReq m d v) s fun t => t.domSt d = 3 ∧
    t.fld F.PMU_DOM_REQ d = 0 ∧ t.pwr.target.get 0 d = 0) ∧
  (∀ s m d v, s.accepts m (R .PMU_DOM d) = true → s.fusedOff d = false → s.domSt d = 0 →
    F.PMU_DOM_WAKE_FAIL.get v = 0 → F.PMU_DOM_REQ.get v = 2 → Completes (.domReq m d v) s fun t => t.domSt d = 1 ∧
    t.pwr.step.get 0 d = 1) ∧
  (∀ s m d v, s.accepts m (R .PMU_DOM d) = true → s.fusedOff d = true → F.PMU_DOM_WAKE_FAIL.get v = 0 →
    Completes (.domReq m d v) s fun t => t.fld F.PMU_DOM_RESULT d = 5 ∧ t.domSt d = s.domSt d) ∧
  (∀ s d, s.asking d = true → s.acceptOk d = true → Completes (.handshakeAccept d) s fun t => t.domSt d = 4) ∧
  (∀ s d b, s.asking d = true → (b = true → s.askOld d (s.fld F.PMU_CFG_HS_LIMIT) = true) →
    Completes (.hsRefused d b) s fun t => t.domSt d = 2 ∧ t.fld F.PMU_DOM_RESULT d = (if b then 3 else 2) ∧
    t.flag F.PMU_EVT_HS_REFUSED = true) ∧
  (∀ s, s.asking 8 = true → s.flag F.HAY_STATUS_DRAINING = true → s.hayBusy = true →
    s.askOld 8 (s.fld F.HAY_CFG_DRAIN_LIMIT) = true → Completes (.drainRefused) s fun t => t.domSt 8 = 2 ∧
    t.fld F.PMU_DOM_RESULT 8 = 2 ∧ t.flag F.HAY_EVT_DRAIN_REFUSED = true ∧ t.flag F.HAY_STATUS_DRAINING = false) ∧
  (∀ s d, s.domSt d = 4 → 1 ≤ d → d ≤ 13 → s.pwr.target.get 0 d = 0 → s.flag F.PMU_DOM_PENDING_ON d = false →
    s.fld F.PMU_DOM_REQ d = 0 → Completes (.shutdownDone d) s fun t => t.domSt d = 0 ∧ t.fld F.PMU_DOM_RESULT d = 1) ∧
  (∀ s d, s.domSt d = 1 → 2 ≤ d → d ≤ 13 → s.pwr.step.get 0 d < 6 → s.stepDue d = true →
    Completes (.wakeStep d) s fun t => t.pwr.step.get 0 d = s.pwr.step.get 0 d + 1 ∧ t.domSt d = 1) ∧
  (∀ s d, s.domSt d = 1 → 2 ≤ d → d ≤ 13 → 6 ≤ s.pwr.step.get 0 d → s.stepDue d = true → s.fld F.PMU_DOM_REQ d = 2 →
    Completes (.wakeStep d) s fun t => t.domSt d = 2 ∧ t.fld F.PMU_DOM_RESULT d = 1 ∧
    t.flag F.PMU_EVT_WAKE_DONE = true) ∧
  (∀ s d, s.domSt d = 1 → 1 ≤ d → d ≤ 13 → s.stepOver d = true → s.fld F.PMU_DOM_RETRY_LEFT d ≠ 0 →
    Completes (.wakeFail d) s fun t => t.domSt d = 6 ∧ t.flag F.PMU_DOM_WAKE_FAIL d = true ∧
    t.flag F.PMU_EVT_WAKE_FAIL = true) ∧
  (∀ s d, s.domSt d = 6 → 1 ≤ d → d ≤ 13 → s.pwr.stepAt.get 0 d + 1000 ≤ s.us →
    Completes (.wakeRetry d) s fun t => t.domSt d = 1 ∧ t.pwr.step.get 0 d = 1) ∧
  (∀ s a, a = s.fld F.AON_CFG_TWI_ADDR → s.domOn 1 = false → s.flag F.AON_CFG_TWI_WAKE = true →
    s.flag F.AON_CFG_STRETCH = true → Completes (.twiAddressMatch a) s fun t => bitOf (t.rd (R .PMU_WAKE_SRC)) 0 =
    true ∧ t.fab.stretched = some s.us) ∧
  (∀ s u, s.fab.stretched = some u → u + 25000 ≤ s.us → Completes (.twiAon) s fun t => t.fab.stretched = none ∧
    t.flag F.AON_EVT_TWI_AON = true) ∧
  (∀ s, Completes (.wakeN) s fun t => bitOf (t.rd (R .PMU_WAKE_SRC)) 1 = true) ∧
  (∀ s, s.flag F.AON_TIMER_CTRL_ARM = true → s.rd (R .AON_SLOW_CNT) = s.rd (R .AON_TIMER_CMP) →
    Completes (.aonTimer) s fun t => t.flag F.AON_TIMER_CTRL_ARM = false ∧ t.flag F.AON_EVT_TIMER = true ∧
    bitOf (t.rd (R .PMU_WAKE_SRC)) 2 = true) ∧
  (∀ s m v d f, s.accepts m (R .PMU_PAD_HOLD) = true → padFld d = some f → f.get v = 1 → s.domOn d = true →
    Completes (.padHold m v) s fun t => t.flag f = false)

/-- The commands about resets: sources, assertion, release and software resets complete,
  each with its effect as the clause says: PG_FALL, RESET_ASSERT, IDLE_TIMEOUT, RESET_RELEASE, SW_CHIP, SW_CORE,
  SW_DOMAIN, SW_BLOCK, SW_RELEASE, HOST_RST. -/
def Obligations.ResetCommandsComplete : Prop :=
  (∀ s r, r ≠ 5 → s.pwr.pg.contains r = true → ((List.range 14).filter fun d => d != 0 && (railsOf d).contains r &&
    s.domOn d) = [] → Completes (.pgFall r) s fun t => t.pwr.pg = s.pwr.pg.filter (· != r)) ∧
  (∀ s src dom page, pinSources.contains src = true → (s.asserted.any fun a => a.src == src) = false →
    Completes (.resetAssert src dom page) s fun t => bitOf (t.rd (R .RST_CAUSE)) src = true) ∧
  (∀ s src a, s.asserted.find? (fun a => a.asking && a.src == src && decide (a.since + 10 * max (s.rdN (R
    .RST_IDLE_TO)) 1 ≤ s.us)) = some a → a.level = 3 → (∀ x ∈ s.asserted, x.src = 13 → x.level = 3) →
    Completes (.idleTimeout src) s fun t => t.flag F.RST_EVT_IDLE_TIMEOUT = true ∧
    t.fld F.RST_IDLE_LOG_DOMAIN = a.dom % 2 ^ F.RST_IDLE_LOG_DOMAIN.len) ∧
  (∀ s src a, s.asserted = [a] → a.src = src → src ≠ 13 → a.hold = false → a.asking = false →
    a.since + srcStays src ≤ s.us → Completes (.resetRelease src) s fun t => t.asserted = [] ∧
    t.flag F.RST_EVT_RESET_DONE = true) ∧
  (∀ s m v, s.accepts m (R .RST_SW_CMD) = true → F.RST_SW_CMD_KIND.get v = 1 →
    (s.asserted.any fun a => a.src == 6) = false → Completes (.swChip m v) s fun t => bitOf (t.rd (R .RST_CAUSE)) 6
    = true) ∧
  (∀ s m v, s.accepts m (R .RST_SW_CMD) = true → F.RST_SW_CMD_KIND.get v = 2 →
    (s.asserted.any fun a => a.src == 7) = false → Completes (.swCore m v) s fun t => bitOf (t.rd (R .RST_CAUSE)) 7
    = true) ∧
  (∀ s m v d, s.accepts m (R .RST_SW_CMD) = true → F.RST_SW_CMD_KIND.get v = 3 →
    (s.asserted.any fun a => a.src == 11) = false → s.srcLevel 11 = some 3 → F.RST_SW_CMD_DOMAIN.get v = d → 1 ≤ d →
    d ≤ 13 → s.domOn d = true → Completes (.swDomain m v) s fun t => t.asserted = s.asserted ++ [⟨11, 3, d, 0,
    F.RST_SW_CMD_HOLD.get v == 1, true, s.us⟩]) ∧
  (∀ s m v, s.accepts m (R .RST_SW_CMD) = true → F.RST_SW_CMD_KIND.get v = 3 →
    (s.asserted.any fun a => a.src == 11) = true → Completes (.swDomain m v) s fun t => t.flag F.RST_EVT_SW_BUSY =
    true ∧ t.asserted = s.asserted) ∧
  (∀ s m v d, s.accepts m (R .RST_SW_CMD) = true → F.RST_SW_CMD_KIND.get v = 4 →
    (s.asserted.any fun a => a.src == 12) = false → s.srcLevel 12 = some 4 →
    pageDom (F.RST_SW_CMD_PAGE.get v) = some d → 1 ≤ d → d ≤ 13 → s.domOn d = true →
    Completes (.swBlock m v) s fun t => t.asserted = s.asserted ++ [⟨12, 4, d, F.RST_SW_CMD_PAGE.get v,
    F.RST_SW_CMD_HOLD.get v == 1, true, s.us⟩]) ∧
  (∀ s m v a, s.accepts m (R .RST_SW_CMD) = true → F.RST_SW_CMD_KIND.get v = 9 → s.asserted = [a] → a.src = 6 →
    a.hold = true → a.asking = false → Completes (.swRelease m v) s fun t => t.asserted = [] ∧
    t.flag F.RST_EVT_RESET_DONE = true) ∧
  (∀ s v, s.accepts .spi (R .RST_HOST_RST) = true → F.RST_HOST_RST_GO.get v = 1 →
    (s.asserted.any fun a => a.src == 14) = false → Completes (.hostRst .spi v) s fun t => bitOf (t.rd (R
    .RST_CAUSE)) 14 = true)

/-- The commands about image checks, the life cycle and the crystal complete,
  each with its effect as the clause says: IMAGE_CHECK, IMG_CHECKED, LC_CMD, XTAL_OK, XTAL_FAIL. -/
def Obligations.StartUpCommandsComplete : Prop :=
  (∀ s a b c d l, l = a ++ b ++ c ++ d → s.fuse.devId = 0 → s.domOn 1 = true → s.inReset 1 0 = false →
    s.boot.pend = false → s.fld F.DEV_BOOT_STATUS_STAGE = 1 → s.imageCode l ≠ 1 →
    Completes (.imageCheck a b c d) s fun t => t.fld F.DEV_BOOT_STATUS_STAGE = 2 ∧
    t.flag F.DEV_BOOT_STATUS_COPY = !s.flag F.DEV_BOOT_STATUS_COPY) ∧
  (∀ s a b c d l, l = a ++ b ++ c ++ d → s.fuse.devId = 0 → s.domOn 1 = true → s.inReset 1 0 = false →
    s.boot.pend = false → s.fld F.DEV_BOOT_STATUS_STAGE = 1 → s.imageCode l = 1 →
    Completes (.imageCheck a b c d) s fun t => t.img = 2 ∧ t.boot.image = l.take (imageLen l) ∧
    t.fld F.DEV_BOOT_STATUS_VERSION = half l 6 % 2 ^ F.DEV_BOOT_STATUS_VERSION.len) ∧
  (∀ s a b c, s.fuse.devId ≠ 0 → s.img = 1 → s.imgRx = a ++ b ++ c → s.imgRx.isEmpty = false → s.domOn 1 = true →
    s.inReset 1 0 = false → s.imageCode s.imgRx ≠ 1 → Completes (.imgChecked a b c) s fun t => t.fld
    F.DEV_BOOT_STATUS_STAGE = 5 ∧ t.img = 3 ∧ t.fld F.DEV_BOOT_STATUS_CODE_A = s.imageCode s.imgRx % 16) ∧
  (∀ s m v, s.accepts m (R .DEV_LC_CMD) = true → s.lcCode (F.DEV_LC_CMD_KEY.get v) (F.DEV_LC_CMD_TARGET.get v) = 0 →
    Completes (.lcCmd m v) s fun t => t.lcMove = some (F.DEV_LC_CMD_TARGET.get v) ∧
    bitOf (t.rd (R .RST_CAUSE)) 5 = true) ∧
  (∀ s m v, s.accepts m (R .DEV_LC_CMD) = true → F.DEV_LC_CMD_KEY.get v ≠ 0x4C43 →
    Completes (.lcCmd m v) s fun t => t.fld F.DEV_LC_STATUS_CODE = 4 ∧ t.lcMove = s.lcMove) ∧
  (∀ s, Completes (.xtalOk) s fun t => t.flag F.AON_SLOW_STATUS_XTAL_OK = true ∧
    t.flag F.AON_SLOW_STATUS_SRC = decide (s.optByte 2 % 2 = 1)) ∧
  (∀ s, s.flag F.AON_SLOW_STATUS_XTAL_OK = false → Completes (.xtalFail) s fun t => t.flag F.AON_EVT_XTAL_FAIL =
    true)

/-- The commands about calibration cycles, production calibration, records and the Tack Room complete,
  each with its effect as the clause says: SLICE_CYCLE, SLICE_RESULT, SLICE_RAMP, DAC_SKEW_CAL, MON_REF_REFRESH,
  PROD, STORE_NOW, LIVE_STORE, REF_LOST, TACK_ROOM_WRITE, TACK_ROOM_READ, CAL_REF_IN_PRESENT, PROD_DONE. -/
def Obligations.FarrierCommandsComplete : Prop :=
  (∀ s c l n, s.mgmtOn = true → s.carOn c = true → l < 4 → s.flag F.CAL_CFG_BG_EN = true → s.underTest c = false →
    (s.calLane c l).retired.length < 2 → (s.calLane c l).cur = none → (s.calLane c l).want = none →
    s.rampDone c l = true → (s.calLane c l).slice = some n → (s.calLane c l).isSpare n = true →
    Completes (.sliceCycle c l) s fun t => (t.calLane c l).cur = some n ∧
    t.fld F.CAX_RX_ILV_STATUS_SLICE c l = n % 128) ∧
  (∀ s c l n, s.mgmtOn = true → s.carOn c = true → l < 4 → s.flag F.CAL_CFG_BG_EN = true → s.underTest c = false →
    (s.calLane c l).retired.length < 2 → (s.calLane c l).cur = none → (s.calLane c l).want = none →
    s.rampDone c l = true → (s.calLane c l).slice = some n → (s.calLane c l).isSpare n = false →
    Completes (.sliceCycle c l) s fun t => (t.calLane c l).want = some (n, true, s.us) ∧ (t.calLane c l).cur = none) ∧
  (∀ s c l a b tap n, s.mgmtOn = true → s.carOn c = true → l < 4 → (s.calLane c l).cur = some n →
    (s.calLane c l).want = none → sliceAgree a b = true → (s.calLane c l).isSpare n = false →
    n ∉ (s.calLane c l).retired → Completes (.sliceResult c l (a,
    b) tap) s fun t => (t.calCar c).target.get SliceVal.init (sliceKey l n) =
    { sliceMean a b with tap := tapsFor (s.timeBase tap) (sliceMean a b).tap } ∧ (t.calLane c l).want = some (n,
    false, s.us)) ∧
  (∀ s c l a b tap n, s.mgmtOn = true → s.carOn c = true → l < 4 → (s.calLane c l).cur = some n →
    (s.calLane c l).want = none → sliceAgree a b = true → (s.calLane c l).isSpare n = true →
    Completes (.sliceResult c l (a, b) tap) s fun t => (t.calCar c).target.get SliceVal.init (sliceKey l n) =
    { sliceMean a b with tap := tapsFor (s.timeBase tap) (sliceMean a b).tap } ∧ (t.calLane c l).cur = none) ∧
  (∀ s c l a b tap n, s.mgmtOn = true → s.carOn c = true → l < 4 → (s.calLane c l).cur = some n →
    (s.calLane c l).want = none → sliceAgree a b = false → Completes (.sliceResult c l (a,
    b) tap) s fun t => t.rdN (R .CAL_DISCARD_CNT c l) = min (s.rdN (R .CAL_DISCARD_CNT c l) + 1) 0xFFFFFFFF ∧
    (t.calCar c).target = (s.calCar c).target ∧ t.flag F.CAL_EVT_DISCARD = true) ∧
  (∀ s c l, s.mgmtOn = true → s.carOn c = true → l < 4 → s.rampDone c l = false →
    Completes (.sliceRamp c l) s fun t => (t.calCar c).force.get SliceVal.init (sliceKey l 0) = sliceStep ((s.calCar
    c).force.get SliceVal.init (sliceKey l 0)) ((s.calCar c).target.get SliceVal.init (sliceKey l 0)) ∧
    (t.calCar c).dirty = true) ∧
  (∀ s c l a b, s.mgmtOn = true → s.carOn c = true → l < 4 → s.fillOrService c = true → (a - b).natAbs ≤ 2 →
    Completes (.dacSkewCal c l a b) s fun t => t.calTerm c l = max (-512) (min 511 ((a + b) / 2)) ∧
    (t.calCar c).dirty = true) ∧
  (∀ s c l a b, s.mgmtOn = true → s.carOn c = true → l < 4 → s.fillOrService c = true → 2 < (a - b).natAbs →
    Completes (.dacSkewCal c l a b) s fun t => t.rdN (R .CAL_DAC_DISCARD_CNT c) = min (s.rdN (R .CAL_DAC_DISCARD_CNT
    c) + 1) 0xFFFFFFFF ∧ t.flag F.CAL_EVT_DISCARD = true) ∧
  (∀ s p x y r, s.mgmtOn = true → s.monOn = true → p < 2 → s.devRec = some r →
    (x - r.refs.get 0 (2 * p)).natAbs ≤ 64 → (y - r.refs.get 0 (2 * p + 1)).natAbs ≤ 64 →
    (x - y).natAbs ≤ s.chkTol → s.fld F.MON_STATUS_FAULT / 4 ^ p % 4 = 0 →
    Completes (.monRefRefresh p x y) s fun t => t.cal.refs.get 0 (2 * p) = x ∧ t.cal.refs.get 0 (2 * p + 1) = y) ∧
  (∀ s m v, s.accepts m (R .CAL_CMD) = true → s.flag F.CAL_RESULT_BUSY = false → F.CAL_CMD_CMD.get v = 1 →
    s.prodCode = 0 → Completes (.prod m v) s fun t => t.flag F.CAL_RESULT_BUSY = true ∧ t.fld F.CAL_RESULT_CODE = 0) ∧
  (∀ s m v, s.accepts m (R .CAL_CMD) = true → s.flag F.CAL_RESULT_BUSY = false → F.CAL_CMD_CMD.get v = 1 →
    s.prodCode ≠ 0 → s.prodCode < 5 → Completes (.prod m v) s fun t => t.flag F.CAL_RESULT_BUSY = false ∧
    t.fld F.CAL_RESULT_CODE = s.prodCode) ∧
  (∀ s m v, s.accepts m (R .CAL_CMD) = true → s.flag F.CAL_RESULT_BUSY = false → F.CAL_CMD_CMD.get v = 2 →
    Completes (.storeNow m v) s fun t => t.fld F.CAL_RESULT_CODE = 0 ∧ t.flag F.CAL_EVT_DONE = true) ∧
  (∀ s c, s.storeDue c = true → s.storeMay c = true → Completes (.liveStore c true) s fun t => (t.calCar c).liveA =
    (storeIn CalRec.seq (s.calCar c).liveA (s.calCar c).liveB true (s.calNow c)).1 ∧
    (t.calCar c).liveB = (storeIn CalRec.seq (s.calCar c).liveA (s.calCar c).liveB true (s.calNow c)).2 ∧
    (t.calCar c).dirty = false) ∧
  (∀ s c, s.storeDue c = true → s.storeMay c = true → Completes (.liveStore c false) s fun t => t.flag
    F.CAL_EVT_STORE_FAIL = true ∧ (t.calCar c).dirty = true) ∧
  (∀ s, s.mgmtOn = true → s.flag F.CAL_STATUS_REF_IN_OK = true →
    Completes (.calRefLost) s fun t => t.flag F.CAL_STATUS_REF_IN_OK = false ∧ t.flag F.CAL_EVT_REF_LOST = true) ∧
  (∀ s m off v, s.canIssue m = true → s.denied m (trBus off) 1 = false → s.holdsBack m = false →
    s.blockOn 1 (trPage off) = true → s.tackAccepts m (s.trAddr off) = true → s.trAddr off % 8 < 4 →
    Completes (.tackRoomWrite m off v) s fun t => t.tack = s.tack ∧
    t.cal.held.find? (fun e => e.1 == masterCode m && e.2.1 == s.trAddr off) = some (masterCode m, s.trAddr off, v)) ∧
  (∀ s m off v, s.canIssue m = true → s.denied m (trBus off) 1 = false → s.holdsBack m = false →
    s.blockOn 1 (trPage off) = true → s.tackAccepts m (s.trAddr off) = true → 4 ≤ s.trAddr off % 8 →
    0x1000 ≤ s.trAddr off → s.cal.held = [] → Completes (.tackRoomWrite m off v) s fun t => t.tack = putBytes s.tack
    (s.trAddr off) (wordBytes v)) ∧
  (∀ s m off v, s.canIssue m = true → s.denied m (trBus off) 1 = false → s.holdsBack m = false →
    s.blockOn 1 (trPage off) = true → s.tackAccepts m (s.trAddr off) = false →
    Completes (.tackRoomWrite m off v) s fun t => t.tack = s.tack ∧ t.flag F.CAL_EVT_TR_WR_DENIED = true) ∧
  (∀ s m off, s.canIssue m = true → s.denied m (trBus off) 0 = false → s.holdsBack m = false →
    s.blockOn 1 (trPage off) = true → 0x100000 ≤ s.trAddr off →
    Completes (.tackRoomRead m off .clean) s fun t => t.fab.rdata.get 0 (masterCode m) = s.tackWord (s.trAddr off)) ∧
  (∀ s fast, s.mgmtOn = true → Completes (.calRefInPresent fast) s fun t => t.flag F.CAL_STATUS_REF_IN_OK = true ∧
    t.flag F.CAL_STATUS_REF_IN_100 = fast) ∧
  (∀ s agree x, s.mgmtOn = true → s.flag F.CAL_RESULT_BUSY = true →
    Completes (.prodDone false agree x) s fun t => t.flag F.CAL_RESULT_BUSY = false ∧ t.fld F.CAL_RESULT_CODE = 3 ∧
    t.flag F.CAL_EVT_PROD_DONE = true) ∧
  (∀ s x, s.mgmtOn = true → s.flag F.CAL_RESULT_BUSY = true →
    Completes (.prodDone true true x) s fun t => t.flag F.CAL_RESULT_BUSY = false ∧ t.fld F.CAL_RESULT_CODE = 0 ∧
    t.flag F.CAL_STATUS_PROD_VALID = true ∧ t.cal.refs = listTab 0 4 x.refs ∧
    t.cal.hostDly = listTab 0 32 x.hostDly)

/-- The commands about in-field tests: admission, outcome, cancel, release and expiry complete,
  each with its effect as the clause says: RUN, FULL, BST_CANCEL, RELEASE, TEST_ADMIT, TEST_DONE, EXPIRED. -/
def Obligations.PaddockCommandsComplete : Prop :=
  (∀ s m v, s.accepts m (R .BST_CMD) = true → F.BST_CMD_CMD.get v = 1 → F.BST_CMD_TARGET.get v = 2 ^ 6 + 16 →
    s.runCode 80 (Config.freeBool s.free) = 0 → Completes (.bstRun m v) s fun t => t.bst.queue = s.bst.queue ++
    [⟨80, F.BST_CMD_HOLD_ON_FAIL.get v == 1, s.us, []⟩] ∧ t.fld F.BST_RESULT_CODE = 0) ∧
  (∀ s m v, s.accepts m (R .BST_CMD) = true → F.BST_CMD_CMD.get v = 1 → s.fuse.lc = 0 →
    Completes (.bstRun m v) s fun t => t.bst.queue = s.bst.queue ∧ t.fld F.BST_RESULT_CODE = 1 ∧
    t.flag F.BST_EVT_REFUSED = true) ∧
  (∀ s m v, s.accepts m (R .BST_CMD) = true → F.BST_CMD_CMD.get v = 2 → s.fuse.lc = 1 → s.bst.full = none →
    s.fullOk = true → Completes (.bstFull m v) s fun t => t.bst.full = some s.fullOrder ∧
    t.fld F.BST_RESULT_CODE = 0) ∧
  (∀ s m v, s.accepts m (R .BST_CMD) = true → F.BST_CMD_CMD.get v = 3 →
    (s.bst.queue.any fun x => x.target == F.BST_CMD_TARGET.get v) = true →
    Completes (.bstCancel m v) s fun t => t.bst.queue = s.bst.queue.filter (fun x => x.target !=
    F.BST_CMD_TARGET.get v) ∧ t.fld F.BST_RES_OUTCOME (F.BST_CMD_TARGET.get v) = 6 ∧
    t.flag F.BST_EVT_ABORTED = true) ∧
  (∀ s m v x, s.accepts m (R .BST_CMD) = true → F.BST_CMD_CMD.get v = 4 →
    s.bst.held.find? (fun y => y.target == F.BST_CMD_TARGET.get v) = some x →
    Completes (.bstRelease m v) s fun t => t.bst.held = s.bst.held.filter (fun y => y.target != F.BST_CMD_TARGET.get
    v) ∧ t.fld F.BST_RESULT_CODE = 0) ∧
  (∀ s m v, s.accepts m (R .BST_CMD) = true → F.BST_CMD_CMD.get v = 4 →
    s.bst.held.find? (fun y => y.target == F.BST_CMD_TARGET.get v) = none →
    Completes (.bstRelease m v) s fun t => t.fld F.BST_RESULT_CODE = 8 ∧ t.flag F.BST_EVT_REFUSED = true) ∧
  (∀ s t0 l, s.mgmtOn = true → s.bst.full = some (t0 :: l) → s.bst.running = [] → s.domOn (bstDom t0) = false →
    Completes (.testAdmit) s fun t => t.bst.full = some l ∧ t.fld F.BST_RES_OUTCOME t0 = 6 ∧
    t.flag F.BST_EVT_ABORTED = true) ∧
  (∀ s x, s.mgmtOn = true → s.bst.full = none → s.bst.queue = [x] → 80 ≤ x.target → x.target < 88 →
    bstPower x.target ≤ s.headroom → s.domOn (bstDom x.target) = true → s.bst.running = [] → s.bst.held = [] →
    Completes (.testAdmit) s fun t => t.bst.queue = [] ∧ t.bst.running = [x]) ∧
  (∀ s k x d, s.bst.running = [x] → x.target = k → s.bst.full = none → x.hold = false → s.testAsking k = false →
    s.coreIdle k = true → Completes (.testDone k .pass d) s fun t => t.bst.running = [] ∧
    t.fld F.BST_RES_OUTCOME k = 1 ∧ t.flag F.BST_EVT_DONE = true) ∧
  (∀ s k, s.rdN (R .BST_QUEUE_TO) ≠ 0 → (s.bst.queue.any fun x => x.target == k && decide (x.since + 1000000 * s.rdN
    (R .BST_QUEUE_TO) ≤ s.us)) = true → Completes (.bstExpired k) s fun t => t.bst.queue = s.bst.queue.filter (fun x
    => x.target != k) ∧ t.fld F.BST_RES_OUTCOME k = 7 ∧ t.flag F.BST_EVT_EXPIRED = true)

/-- The commands about the cores' watchdogs and protection regions complete,
  each with its effect as the clause says: WDT_EXPIRY, WDT_KICK, ACCESS_FAULT, MPU_WRITE. -/
def Obligations.CoreCommandsComplete : Prop :=
  (∀ s c, s.wdtRuns c = true → s.rdN (R .CORE_WDT_LEFT c) = 0 → (s.asserted.any fun a => a.src == 8) = false →
    Completes (.wdtExpiry c) s fun t => bitOf (t.rd (R .RST_CAUSE)) 8 = true) ∧
  (∀ s m c v, s.accepts m (R .CORE_WDT_KICK c) = true → ownCore m c = true → s.inj 7 c = false →
    Completes (.wdtKick m c v) s fun t => t.rdN (R .CORE_WDT_LEFT c) = s.wdtTime c) ∧
  (∀ s c addr kind mach, s.mgmtOn = true → c < 4 → kind ≤ 2 → s.mpuDenies c addr kind mach = true →
    s.flag F.CORE_MPU_FAULT_INFO_VALID c = false → Completes (.accessFault c addr kind mach) s fun t => t.flag
    F.CORE_MPU_FAULT_INFO_VALID c = true ∧ t.fld F.CORE_MPU_FAULT_INFO_KIND c = kind ∧
    t.rdN (R .CORE_MPU_FAULT c) = addr % 2 ^ 32) ∧
  (∀ s c addr kind mach, s.mgmtOn = true → c < 4 → kind ≤ 2 → s.mpuDenies c addr kind mach = true →
    s.flag F.CORE_MPU_FAULT_INFO_VALID c = true → Completes (.accessFault c addr kind mach) s fun t => t.rd (R
    .CORE_MPU_FAULT c) = s.rd (R .CORE_MPU_FAULT c)) ∧
  (∀ s m c r v, s.accepts m (R .CORE_MPU_BASE c r) = true → ownCore m c = true → s.inj 7 c = false →
    s.flag F.CORE_MPU_CFG_LOCK c r = false → Completes (.mpuWrite m c r false v) s fun t => t.rd (R .CORE_MPU_BASE c
    r) = v &&& (R .CORE_MPU_BASE).mask) ∧
  (∀ s m c r v, s.accepts m (R .CORE_MPU_CFG c r) = true → ownCore m c = true →
    s.flag F.CORE_MPU_CFG_LOCK c r = true → Completes (.mpuWrite m c r true v) s fun t => t.rd (R .CORE_MPU_CFG c r)
    = s.rd (R .CORE_MPU_CFG c r))

/-- The commands about Letterbox commands accepted and their completion complete,
  each with its effect as the clause says: INFO, FLASH_READ, FLASH_ERASE, FLASH_PROG, LOG_READ, TEST_WINDOW,
  RETURN_AUTH, LB_DONE. -/
def Obligations.LetterboxCommandsComplete : Prop :=
  (∀ s m v, s.accepts m (R .LB_CMD) = true → lbMay m = true → s.flag F.LB_STATUS_BUSY = false →
    Completes (.lbInfo m v) s fun t => t.flag F.LB_STATUS_BUSY = true ∧ t.fld F.LB_STATUS_OWNER = lbOwner m ∧
    t.lbCmd = F.LB_CMD_CMD.get v) ∧
  (∀ s m v, s.accepts m (R .LB_CMD) = true → lbMay m = true → s.flag F.LB_STATUS_BUSY = false →
    Completes (.flashRead m v) s fun t => t.flag F.LB_STATUS_BUSY = true ∧ t.fld F.LB_STATUS_OWNER = lbOwner m ∧
    t.lbCmd = F.LB_CMD_CMD.get v) ∧
  (∀ s m v, s.accepts m (R .LB_CMD) = true → lbMay m = true → s.flag F.LB_STATUS_BUSY = false →
    Completes (.flashErase m v) s fun t => t.flag F.LB_STATUS_BUSY = true ∧ t.fld F.LB_STATUS_OWNER = lbOwner m ∧
    t.lbCmd = F.LB_CMD_CMD.get v) ∧
  (∀ s m v, s.accepts m (R .LB_CMD) = true → lbMay m = true → s.flag F.LB_STATUS_BUSY = false →
    Completes (.flashProg m v) s fun t => t.flag F.LB_STATUS_BUSY = true ∧ t.fld F.LB_STATUS_OWNER = lbOwner m ∧
    t.lbCmd = F.LB_CMD_CMD.get v) ∧
  (∀ s m v, s.accepts m (R .LB_CMD) = true → lbMay m = true → s.flag F.LB_STATUS_BUSY = false →
    Completes (.logRead m v) s fun t => t.flag F.LB_STATUS_BUSY = true ∧ t.fld F.LB_STATUS_OWNER = lbOwner m ∧
    t.lbCmd = F.LB_CMD_CMD.get v) ∧
  (∀ s m v, s.accepts m (R .LB_CMD) = true → lbMay m = true → s.flag F.LB_STATUS_BUSY = false →
    Completes (.testWindow m v) s fun t => t.flag F.LB_STATUS_BUSY = true ∧ t.fld F.LB_STATUS_OWNER = lbOwner m ∧
    t.lbCmd = F.LB_CMD_CMD.get v) ∧
  (∀ s m v, s.accepts m (R .LB_CMD) = true → lbMay m = true → s.flag F.LB_STATUS_BUSY = false →
    Completes (.returnAuth m v) s fun t => t.flag F.LB_STATUS_BUSY = true ∧ t.fld F.LB_STATUS_OWNER = lbOwner m ∧
    t.lbCmd = F.LB_CMD_CMD.get v) ∧
  (∀ s e, s.mgmtOn = true → s.flag F.LB_STATUS_BUSY = true → s.lbCmd ≠ 7 →
    Completes (.lbDone e) s fun t => t.flag F.LB_STATUS_BUSY = false ∧ t.flag F.LB_STATUS_DONE = true ∧
    t.fld F.LB_STATUS_CODE = s.lbCode e % 2 ^ F.LB_STATUS_CODE.len) ∧
  (∀ s e, s.mgmtOn = true → s.flag F.LB_STATUS_BUSY = true → s.lbCmd = 1 →
    Completes (.lbDone e) s fun t => t.rd (R .LB_RSP 0) = e.version ∧
    t.rd (R .LB_RSP 1) = s.rd (R .DEV_BOOT_STATUS) ∧ t.rd (R .LB_RSP 2) = s.lcWord)

/-- The commands about the event log, counters, snapshots and dumps complete,
  each with its effect as the clause says: LOG_DRAIN, SNAP, DUMP, DUMP_CFG_WRITE, OVF, CTR_LOAD. -/
def Obligations.CounterCommandsComplete : Prop :=
  (∀ s e l, s.mgmtOn = true → s.logFull = false → s.logLost = 0 → s.logQ = e :: l →
    Completes (.logDrain) s fun t => t.logQ = l ∧ t.logSeq = (s.logSeq + 1) % 2 ^ 32 ∧
    t.tack = putBytes s.tack (0x010000 + 64 * (s.logSeq % 4096)) (e.bytes s.logSeq)) ∧
  (∀ s, s.mgmtOn = true → s.logFull = false → 0 < s.logLost → Completes (.logDrain) s fun t => t.logLost = 0 ∧
    t.logQ = s.logQ ∧ t.tack = putBytes s.tack (0x010000 + 64 * (s.logSeq % 4096)) ((s.lostEntry s.logLost).bytes
    s.logSeq)) ∧
  (∀ s m v n, s.accepts m (R .PMC_CFG) = true → F.PMC_CFG_SNAP.get v = 1 → n < 32 →
    Completes (.snap m v) s fun t => t.rd (R .PMC_SNAP_LO n) = s.rd (R .PMC_CTR_LO n) ∧
    t.rd (R .PMC_SNAP_HI n) = s.rd (R .PMC_CTR_HI n)) ∧
  (∀ s, s.mgmtOn = true → s.flag F.PMC_DUMP_CFG_EN = true → s.flag F.PMC_DUMP_CFG_DEST = false →
    s.dumpAt + s.dumpEvery ≤ s.us → Completes (.dump) s fun t => (Config.freeBool s.free = true →
    t.rdN (R .PMC_DUMP_DROP) = min (s.rdN (R .PMC_DUMP_DROP) + 1) 0xFFFFFFFF ∧ t.flag F.PMC_EVT_DUMP_DROP = true ∧
    t.ram = s.ram) ∧ (Config.freeBool s.free = false → t.ram = (s.dumpPut (s.rdN (R .PMC_DUMP_PTR) % s.dumpSize)
    s.dumpRecord).ram ∧ t.rdN (R .PMC_DUMP_SEQ) = (s.rdN (R .PMC_DUMP_SEQ) + 1) % 2 ^ 32 ∧
    t.rdN (R .PMC_DUMP_PTR) = (s.rdN (R .PMC_DUMP_PTR) % s.dumpSize + s.dumpRecord.length) % s.dumpSize % 2 ^ 32)) ∧
  (∀ s m v, s.accepts m (R .PMC_DUMP_CFG) = true → F.PMC_DUMP_CFG_EN.get v = 1 → F.PMC_DUMP_CFG_DEST.get v = 1 →
    s.flag F.HAY_CAP_CFG_EN = true → Completes (.dumpCfgWrite m v) s fun t => t.flag F.PMC_DUMP_CFG_EN = false ∧
    t.flag F.PMC_EVT_DUMP_REFUSED = true) ∧
  (∀ s m v, s.accepts m (R .PMC_DUMP_CFG) = true → F.PMC_DUMP_CFG_DEST.get v = 0 →
    Completes (.dumpCfgWrite m v) s fun t => t.rd (R .PMC_DUMP_CFG) = v &&& (R .PMC_DUMP_CFG).mask) ∧
  (∀ s n gain pc seg, s.mgmtOn = true → n < 32 → coreEvent (s.fld F.PMC_CTR_CFG_EVENT n) = true →
    s.fld F.PMC_CTR_CFG_QUAL n < 4 → s.flag F.PMC_CTR_CFG_CHAIN n = false → s.flag F.PMC_CFG_EN = true →
    s.flag F.PMC_CTR_CFG_EN n = true → s.pmcVal n + gain < 2 ^ 48 →
    Completes (.ovf n gain pc seg) s fun t => t.rd64 (R .PMC_CTR_LO n) (R .PMC_CTR_HI n) = s.rd64 (R .PMC_CTR_LO n)
    (R .PMC_CTR_HI n) + gain) ∧
  (∀ s m n v, s.accepts m (R .PMC_CTR_HI n) = true → Completes (.ctrLoad m n v) s fun t => t.rd (R .PMC_CTR_LO n) =
    s.heldLo m (R .PMC_CTR_LO n) ∧ t.rd (R .PMC_CTR_HI n) = v &&& 0xFFFF)

/-- The commands about faults, configuration parity, the test window and injection complete,
  each with its effect as the clause says: FAULT_DETECTED, CFG_PARITY_ERR, CFG_SCAN, OPEN, CLOSE, WINDOW_EXPIRY,
  INJ_CFG_WRITE, INJ_END. -/
def Obligations.SafetyCommandsComplete : Prop :=
  (∀ s k, k < 16 → s.domOn k = true → s.plls.contains k = false →
    Completes (.faultDetected 0 k) s fun t => t.plls = s.plls ++ [k] ∧
    t.rdN (R .SAF_FAULT_CNT 0) = min (s.rdN (R .SAF_FAULT_CNT 0) + 1) 0xFFFFFFFF) ∧
  (∀ s f k, 6 ≤ f → f ≤ 8 → Completes (.faultDetected f k) s fun t => t.rdN (R .SAF_FAULT_CNT f) = min (s.rdN (R
    .SAF_FAULT_CNT f) + 1) 0xFFFFFFFF) ∧
  (∀ s addr v k, regAt addr = some k → s.checked k = true → s.rd k &&& k.id.info.rw ≠ v &&& k.id.info.rw →
    Completes (.cfgParityErr addr v) s fun t => t.cfgBad = k :: s.cfgBad.filter (· != k)) ∧
  (∀ s addr k, regAt addr = some k → s.checked k = true → s.cfgBad.contains k = false →
    Completes (.cfgScan [addr]) s fun t => t.cfgBad = k :: s.cfgBad.filter (· != k)) ∧
  (∀ s m v, s.accepts m (R .SAF_WIN_CTRL) = true → s.winMay m = true → F.SAF_WIN_CTRL_CLOSE.get v = 0 →
    F.SAF_WIN_CTRL_OPEN.get v = 1 → Completes (.winOpen m v) s fun t => t.flag F.SAF_WIN_STATUS_OPEN = true ∧
    t.winEnd = s.us + 1000000 * max 1 (min 3600 (F.SAF_WIN_CTRL_LEN.get v))) ∧
  (∀ s m v, s.accepts m (R .SAF_WIN_CTRL) = true → s.winMay m = false →
    Completes (.winOpen m v) s fun t => t.flag F.SAF_EVT_WIN_DENIED = true ∧ t.winEnd = s.winEnd) ∧
  (∀ s m v, s.accepts m (R .SAF_WIN_CTRL) = true → s.winMay m = true → F.SAF_WIN_CTRL_CLOSE.get v = 1 →
    Completes (.winClose m v) s fun t => t.flag F.SAF_WIN_STATUS_OPEN = false ∧ t.winEnd = 0) ∧
  (∀ s, s.flag F.SAF_WIN_STATUS_OPEN = true → s.winEnd ≤ s.us →
    Completes (.windowExpiry) s fun t => t.flag F.SAF_WIN_STATUS_OPEN = false ∧ t.flag F.SAF_EVT_WIN_CLOSED = true) ∧
  (∀ s m k v, s.accepts m (R .SAF_INJ_CFG k) = true → s.winMay m = true →
    Completes (.injCfgWrite m k v) s fun t => t.injAt.get 0 k = s.us + 1 ∧
    t.fld F.SAF_INJ_CFG_CODE k = F.SAF_INJ_CFG_CODE.get v) ∧
  (∀ s m k v, s.accepts m (R .SAF_INJ_CFG k) = true → s.winMay m = false →
    Completes (.injCfgWrite m k v) s fun t => t.flag F.SAF_EVT_WIN_DENIED = true ∧
    t.rd (R .SAF_INJ_CFG k) = s.rd (R .SAF_INJ_CFG k)) ∧
  (∀ s k, k < 8 → s.flag F.SAF_INJ_CFG_EN k = true → s.rdN (R .SAF_INJ_DUR k) ≠ 0 →
    s.injAt.get 0 k + s.rdN (R .SAF_INJ_DUR k) ≤ s.us + 1 →
    Completes (.injEnd k) s fun t => t.flag F.SAF_INJ_CFG_EN k = false ∧ t.flag F.SAF_EVT_INJ_END = true)

/-- The commands about accesses by address: registers, aliases, refused decodes and deaf blocks complete,
  each with its effect as the clause says: REGISTER_WRITE, RC_READ, ALIAS_WRITE, ALIAS_READ, DECODE_ERR, ACCESS_ERR. -/
def Obligations.AddressCommandsComplete : Prop :=
  (∀ s m k v, s.accepts m k = true → k.addr < 2 ^ 32 → k.addr % 4 = 0 → target k.addr = .reg k →
    Completes (.registerWrite m k.addr v) s fun t => t = State.regWrite m k v (s.rewritten k)) ∧
  (∀ s m v, s.accepts m (R .DEV_IRQ_EN) = true → Completes (.registerWrite m (R .DEV_IRQ_EN).addr v) s fun t => t.rd
    (R .DEV_IRQ_EN) = v &&& (R .DEV_IRQ_EN).mask) ∧
  (∀ s m k, s.canIssue m = true → s.denied m k.addr 0 = false → s.holdsBack m = false → k.addr < 2 ^ 32 →
    k.addr % 4 = 0 → target k.addr = .reg k → s.regOn k = true →
    Completes (.rcRead m k.addr 4) s fun t => t.fab.rdata.get 0 (masterCode m) = s.readWord m k ∧
    t.rd k &&& k.id.info.rc = 0) ∧
  (∀ s m addr i k all v, s.canIssue m = true → s.holdsBack m = false → s.denied m addr 1 = false → addr < 2 ^ 32 →
    addr % 4 = 0 → target addr = .set i k all → s.selected i all ≠ [] →
    Completes (.aliasWrite m addr v) s fun t => t = s.each (s.selected i all) (fun n s => if s.holdsBack m then
    s.park m (RegKey.addr ⟨k.id, n, k.j⟩) 4 (some v) else State.putReg m ⟨k.id, n, k.j⟩ v (State.regWrite m ⟨k.id,
    n, k.j⟩ v) s)) ∧
  (∀ s m addr i k all n l, s.canIssue m = true → s.holdsBack m = false → s.denied m addr 0 = false → addr < 2 ^ 32 →
    addr % 4 = 0 → target addr = .set i k all → s.selected i all = n :: l → s.regOn ⟨k.id, n, k.j⟩ = true →
    Completes (.aliasRead m addr) s fun t => t.fab.rdata.get 0 (masterCode m) = s.readWord m ⟨k.id, n, k.j⟩) ∧
  (∀ s m addr kind, s.canIssue m = true → s.holdsBack m = false → s.denied m addr 1 = false → addr < 2 ^ 32 →
    addr % 4 = 0 → decodeKind addr 4 true = some kind → kind < 4 → s.flag F.DEV_DECODE_ERR_VALID = false →
    Completes (.decodeErr m true addr 4) s fun t => t.flag F.DEV_DECODE_ERR_VALID = true ∧
    t.flag F.DEV_DECODE_ERR_WRITE = true ∧ t.fld F.DEV_DECODE_ERR_KIND = kind ∧
    t.fld F.DEV_DECODE_ERR_MASTER = masterCode m ∧ t.rdN (R .DEV_DECODE_ADDR) = addr) ∧
  (∀ s m addr kind, s.canIssue m = true → s.holdsBack m = false → s.denied m addr 1 = false → addr < 2 ^ 32 →
    addr % 4 = 0 → decodeKind addr 4 true = some kind → s.flag F.DEV_DECODE_ERR_VALID = true →
    Completes (.decodeErr m true addr 4) s fun t => t.rd (R .DEV_DECODE_ADDR) = s.rd (R .DEV_DECODE_ADDR) ∧
    t.fld F.DEV_DECODE_ERR_CNT = min (s.fld F.DEV_DECODE_ERR_CNT + 1) (2 ^ F.DEV_DECODE_ERR_CNT.len - 1)) ∧
  (∀ s m k, s.canIssue m = true → s.denied m k.addr 1 = false → s.holdsBack m = false → k.addr < 2 ^ 32 →
    k.addr % 4 = 0 → target k.addr = .reg k → s.regOn k = false → s.flag F.PMU_ACCESS_ERR_VALID = false →
    Completes (.accessErr m true k.addr) s fun t => t.flag F.PMU_ACCESS_ERR_VALID = true ∧
    t.flag F.PMU_ACCESS_ERR_WRITE = true ∧ t.rdN (R .PMU_ACCESS_ERR_ADDR) = k.addr) ∧
  (∀ s m k, s.canIssue m = true → s.denied m k.addr 0 = false → s.holdsBack m = false → k.addr < 2 ^ 32 →
    k.addr % 4 = 0 → target k.addr = .reg k → s.regOn k = false →
    Completes (.accessErr m false k.addr) s fun t => t.fab.rdata.get 0 (masterCode m) = badWord ∧
    t.flag F.PMU_EVT_ACCESS_ERR = true)

/-- The commands about the SPI and two-wire targets and the end of a remote access complete,
  each with its effect as the clause says: SPI_WRITE, SPI_READ, SPI_STATUS, TWI_WRITE, TWI_READ, RMT_DONE. -/
def Obligations.InterfaceCommandsComplete : Prop :=
  (∀ s addr ws, Completes (.spiWrite addr ws) s fun t => t = s.each ws.zipIdx fun e s => s.access .spi (addr + 4 *
    e.2) 4 (some e.1)) ∧
  (∀ s k, s.holdsBack .spi = false → k.addr < 2 ^ 32 → k.addr % 4 = 0 → target k.addr = .reg k → s.regOn k = true →
    Completes (.spiRead k.addr 1) s fun t => t.fab.spiOut = 0xA5 :: msbBytes (s.readWord .spi k)) ∧
  (∀ s, Completes (.spiStatus) s fun t => t.fab.spiOut = [BitVec.ofNat 8 (bit (s.fab.waits.any fun e => e.m == .spi
    && e.w.isSome) + 2 * bit s.fab.spiErr)] ∧ t.fab.spiErr = false ∧ t.regs = s.regs) ∧
  (∀ s bytes a ws, s.twiServed = true → msbWords bytes = a :: ws →
    Completes (.twiWrite bytes) s fun t => t.fab.twiPtr = (a.toNat + 4 * ws.length) % 2 ^ 32) ∧
  (∀ s bytes a, s.twiServed = true → msbWords bytes = [a] → Completes (.twiWrite bytes) s fun t => t.regs = s.regs) ∧
  (∀ s k, s.twiServed = true → s.holdsBack .twi = false → k.addr < 2 ^ 32 → k.addr % 4 = 0 →
    target k.addr = .reg k → s.regOn k = true → s.fab.twiPtr = k.addr →
    Completes (.twiRead [] 1) s fun t => t.fab.twiOut = [s.readWord .twi k] ∧ t.fab.twiPtr = (k.addr + 4) % 2 ^ 32) ∧
  (∀ s ans d w t0, s.yrdOn = true → s.rmt = some (d, w, t0) → t0 + 20 ≤ s.us → s.fab.waits = [] →
    Completes (.rmtDone ans) s fun t => t.flag F.YLN_RMT_STATUS_BUSY = false ∧ t.flag F.YLN_ID_EVT_RMT_DONE = true ∧
    t.rmt = none) ∧
  (∀ s x d t0, s.yrdOn = true → s.rmt = some (d, false, t0) → d ≠ s.fuse.devId → s.linkSt (s.linkTo d) ≠ 0 →
    s.flag F.YLN_LINK_STATUS_WIRING (s.linkTo d) = false → s.fab.waits = [] →
    Completes (.rmtDone (some x)) s fun t => t.rd (R .YLN_RMT_DATA) = x ∧ t.fld F.YLN_RMT_STATUS_CODE = 0 ∧
    t.rmt = none)

/-- For every command and every state there is a state that exec answers as the next one: no command faults and none is
  refused. -/
def Obligations.EveryCommandIsExecuted : Prop :=
  (∀ c s, ∃ t, exec c s = .next t)

/-- For every state whose queue is a command c followed by a rest,
  step answers what exec answers for c on that state with the rest as its queue. -/
def Obligations.StepRunsFrontCommand : Prop :=
  (∀ (s : State) c rest, s.pending = c :: rest → step s = exec c { s with pending := rest })

/-- For every state with an empty queue, step answers as next state the tick of that state; its clock is one microsecond
  later and its queue is empty. That time passes there is the model's choice (log entry 5). -/
def Obligations.EmptyQueueIsAMicrosecond : Prop :=
  (∀ s : State, s.pending = [] → step s = .next s.tick ∧ s.tick.us = s.us + 1 ∧ s.tick.pending = [])

/-- For every command c and states s and t with exec c s = next t,
  the queue and the microsecond clock of t are those of s. That commands take no time is the model's choice (log
  entry 5). -/
def Obligations.ExecKeepsQueue : Prop :=
  (∀ c s t, exec c s = .next t → t.pending = s.pending ∧ t.us = s.us)

/-- In the state after reset the register file and the three memories are in their canonical form and no register has a
  reserved bit set. -/
def Obligations.ResetMeetsInvariant : Prop :=
  (State.reset.Inv)

/-- For all states s and t: if s meets the invariant (register file, Tack Room, SRAM and Hayloft in canonical form,
  no reserved bit set in any listed register) and step s answers next t, then t meets it. -/
def Obligations.StepKeepsInvariant : Prop :=
  (∀ s t : State, s.Inv → step s = .next t → t.Inv)

/-- After reset: the eighteen registers named, one or more of each kind of block,
  read the reset words that the field maps give; the Hayloft's memory, the flows, the log queue,
  the test queue and the Postcard FIFO are empty. That the queues are empty is the model's reading of a device that
  has done nothing (log entry 2). -/
def Obligations.ResetValues : Prop :=
  (State.reset.rd (R .DEV_ID) = 0x04000D61 ∧ State.reset.rd (R .DEV_STEPPING) = 0xB0 ∧
    State.reset.rd (R .RST_CAUSE) = 1 ∧ State.reset.rd (R .RST_LAST) = 1 ∧
    State.reset.rd (R .CAX_TX_PROFILE 1) = 0x0800A000 ∧ State.reset.rd (R .SCX_FEC_CFG 15) = 0x6C1 ∧
    State.reset.rd (R .SOF_PFC_CFG 3) = 0xFFFFFFFF ∧ State.reset.rd (R .HAY_SCRUB_CFG) = 0x258 ∧
    State.reset.rd (R .CIP_TX_PN_LO 7) = 1 ∧ State.reset.rd (R .STB_SEL_CMD) = 0xF ∧
    State.reset.rd (R .MON_LIM 0 2) = 0x7FFF8000 ∧ State.reset.rd (R .PCC_CFG) = 0xFF ∧
    State.reset.rd (R .YLN_YARD_CFG) = 0x40000000 ∧ State.reset.rd (R .BST_CAP) = 0x35C ∧
    State.reset.rd (R .CORE_WDT_CFG 2) = 0x80000032 ∧ State.reset.rd (R .PMC_CTR_CFG 31) = 0x0FFF0000 ∧
    State.reset.rd (R .SAF_WIN_CTRL) = 0x3C ∧ State.reset.rd (R .PMK_UTC) = 0x250000) ∧
  (State.reset.hayMem = [] ∧ State.reset.flows = [] ∧ State.reset.logQ = [] ∧ State.reset.bst.queue = [] ∧
    State.reset.pccFifo = [])

/-- For every state, bit count and word: decodeTableWord answers none and withFetchWord answers the state itself. How
  commands arrive is the model's choice (log entry 8). -/
def Obligations.NoWordSpellsACommand : Prop :=
  (∀ s nbits w, Sys2Proof.decodeTableWord nbits w = none ∧ State.withFetchWord s nbits w = s)

/-- For every command c and states s, t with exec c s = next t: the variant,
  screen and identifier fuses of t are those of s. For every state and master,
  DEV.VARIANT reads 0x20 or 0x40 in bits 15 to 8, by the variant fuse, and the screen fuse in bit 0. -/
def Obligations.VariantNeverChanges : Prop :=
  (∀ c s t, exec c s = .next t → t.fuse.zq2000 = s.fuse.zq2000 ∧ t.fuse.screen = s.fuse.screen ∧
    t.fuse.uid = s.fuse.uid) ∧
  (∀ (s : State) (m : Master), s.view m (R .DEV_VARIANT) = BitVec.ofNat 32 ((if s.fuse.zq2000 then 0x20 else 0x40) *
    256 + bit s.fuse.screen))

/-- A write that reaches CORE_IRQ_EN[c] from machine mode of core c replaces its implemented bits. From any other master
  it changes nothing in the register, sets PRIV_ERR, and is recorded in DECODE_ERR with KIND 2 and the master's
  number, or, with a record already held, raises its count. Core c's interrupt is IRQ_STATUS AND CORE_IRQ_EN[c]. -/
def Obligations.CoreInterruptEnables : Prop :=
  (∀ s m c v, s.accepts m (R .DEV_CORE_IRQ_EN c) = true → c < 4 → ownCore m c = true →
    Completes (.registerWrite m (R .DEV_CORE_IRQ_EN c).addr v) s fun t => t.rd (R .DEV_CORE_IRQ_EN c) = v &&& (R
    .DEV_CORE_IRQ_EN).mask) ∧
  (∀ s m c v, s.accepts m (R .DEV_CORE_IRQ_EN c) = true → c < 4 → ownCore m c = false →
    s.flag F.DEV_DECODE_ERR_VALID = false → Completes (.registerWrite m (R .DEV_CORE_IRQ_EN c).addr v) s fun t =>
    t.rd (R .DEV_CORE_IRQ_EN c) = s.rd (R .DEV_CORE_IRQ_EN c) ∧ t.flag F.DEV_DECODE_ERR_VALID = true ∧
    t.fld F.DEV_DECODE_ERR_KIND = 2 ∧ t.fld F.DEV_DECODE_ERR_MASTER = masterCode m ∧
    t.flag F.DEV_EVT_PRIV_ERR = true) ∧
  (∀ s m c v, s.accepts m (R .DEV_CORE_IRQ_EN c) = true → c < 4 → ownCore m c = false →
    s.flag F.DEV_DECODE_ERR_VALID = true → Completes (.registerWrite m (R .DEV_CORE_IRQ_EN c).addr v) s fun t =>
    t.rd (R .DEV_CORE_IRQ_EN c) = s.rd (R .DEV_CORE_IRQ_EN c) ∧ t.flag F.DEV_DECODE_ERR_VALID = true ∧
    t.fld F.DEV_DECODE_ERR_CNT = min (s.fld F.DEV_DECODE_ERR_CNT + 1) 0xFFFF ∧ t.flag F.DEV_EVT_PRIV_ERR = true) ∧
  (∀ (s : State) (c : Nat), s.coreIrq c = s.irqStatus &&& s.rd (R .DEV_CORE_IRQ_EN c))

/-- In a state that meets the invariant, bit b below 20 of IRQ_STATUS is 1 exactly when some event register of source b,
  at some instance, has a bit in common with its enable register while its domain is ON. Bit 20 is LB_STATUS.DONE
  while MGMT is ON. IRQ_N is low exactly when IRQ_STATUS AND IRQ_EN is not 0. -/
def Obligations.InterruptTree : Prop :=
  (∀ (s : State) (b : Nat), s.Inv → b < 20 → (bitOf s.irqStatus b = true ↔ ∃ e ∈ irqSources.getD b [], ∃ i j,
    s.rd ⟨e.1, i, j⟩ &&& s.rd ⟨e.2.1, i, j⟩ ≠ 0 ∧ s.domOn (RegKey.domain ⟨e.1, i, j⟩) = true)) ∧
  (∀ s : State, bitOf s.irqStatus 20 = true ↔ s.flag F.LB_STATUS_DONE = true ∧ s.domOn 1 = true) ∧
  (∀ s : State, s.irqLow = true ↔ s.irqStatus &&& s.rd (R .DEV_IRQ_EN) ≠ 0)

/-- With both counters of a pair enabled, the odd one chained and counting on: an increase of the even one by n adds n
  to the 96-bit pair modulo 2^96, and sets OVF of the odd half when the pair passes 2^96; an event that makes the
  even half overflow no further leaves the odd half as it is,
  whatever its own EVENT; the OVF command with a gain does the same to the pair. -/
def Obligations.ChainedCounters : Prop :=
  (∀ (s : State) (k n : Nat), s.Inv → s.mgmtOn = true → k < 16 → s.flag F.PMC_CFG_EN = true →
    s.flag F.PMC_CTR_CFG_EN (2 * k) = true → s.flag F.PMC_CTR_CFG_EN (2 * k + 1) = true →
    s.flag F.PMC_CTR_CFG_CHAIN (2 * k + 1) = true → ∀ t, t = s.pmcGain (2 * k) n →
    (t.pmcVal (2 * k) + 2 ^ 48 * t.pmcVal (2 * k + 1)) = ((s.pmcVal (2 * k) + 2 ^ 48 * s.pmcVal (2 * k + 1)) + n) %
    2 ^ 96 ∧ (2 ^ 96 ≤ (s.pmcVal (2 * k) + 2 ^ 48 * s.pmcVal (2 * k + 1)) + n →
    bitOf (t.rd (R .PMC_OVF)) (2 * k + 1) = true)) ∧
  (∀ (s : State) (k ev inst n : Nat), s.Inv → s.mgmtOn = true → k < 16 → s.flag F.PMC_CFG_EN = true →
    s.flag F.PMC_CTR_CFG_EN (2 * k) = true → s.flag F.PMC_CTR_CFG_EN (2 * k + 1) = true →
    s.flag F.PMC_CTR_CFG_CHAIN (2 * k + 1) = true → (s.fld F.PMC_CTR_CFG_EVENT (2 * k) = ev →
    s.pmcVal (2 * k) + n < 2 ^ 48) → (s.count ev inst n).pmcVal (2 * k + 1) = s.pmcVal (2 * k + 1)) ∧
  (∀ s k gain pc seg, s.Inv → s.mgmtOn = true → k < 16 → s.flag F.PMC_CFG_EN = true →
    s.flag F.PMC_CTR_CFG_EN (2 * k) = true → s.flag F.PMC_CTR_CFG_EN (2 * k + 1) = true →
    s.flag F.PMC_CTR_CFG_CHAIN (2 * k + 1) = true → coreEvent (s.fld F.PMC_CTR_CFG_EVENT (2 * k)) = true →
    s.fld F.PMC_CTR_CFG_QUAL (2 * k) = 0xFFF → Completes (.ovf (2 * k) gain pc seg) s fun t => (t.pmcVal (2 * k) + 2
    ^ 48 * t.pmcVal (2 * k + 1)) = ((s.pmcVal (2 * k) + 2 ^ 48 * s.pmcVal (2 * k + 1)) + gain) % 2 ^ 96 ∧
    (2 ^ 96 ≤ (s.pmcVal (2 * k) + 2 ^ 48 * s.pmcVal (2 * k + 1)) + gain →
    bitOf (t.rd (R .PMC_OVF)) (2 * k + 1) = true))

/-- On a ZQ2000: an alias write with some existing instance selected is the direct write to each of them in turn,
  and no other; an alias read answers the lowest of them; an alias read with none selected answers 0x0FF00FF0 and
  sets PMU.ACCESS_ERR with its event. -/
def Obligations.AliasesOnAZq2000 : Prop :=
  (∀ s m addr i k all v, s.fuse.zq2000 = true → s.canIssue m = true → s.holdsBack m = false → addr < 2 ^ 32 →
    addr % 4 = 0 → target addr = .set i k all → s.denied m addr 1 = false → s.selected i all ≠ [] →
    Completes (.aliasWrite m addr v) s fun t => (∀ n ∈ s.selected i all, n < s.setSize i) ∧
    t = s.each (s.selected i all) (fun n s => if s.holdsBack m then s.park m (RegKey.addr ⟨k.id, n,
    k.j⟩) 4 (some v) else State.putReg m ⟨k.id, n, k.j⟩ v (State.regWrite m ⟨k.id, n, k.j⟩ v) s)) ∧
  (∀ s m addr i k all n l, s.fuse.zq2000 = true → s.canIssue m = true → s.holdsBack m = false → addr < 2 ^ 32 →
    addr % 4 = 0 → target addr = .set i k all → s.denied m addr 0 = false → s.selected i all = n :: l →
    s.regOn ⟨k.id, n, k.j⟩ = true → Completes (.aliasRead m addr) s fun t => n < s.setSize i ∧ (∀ x ∈ l, n < x) ∧
    t.fab.rdata.get 0 (masterCode m) = s.readWord m ⟨k.id, n, k.j⟩) ∧
  (∀ s m addr i k all, s.fuse.zq2000 = true → s.canIssue m = true → s.holdsBack m = false → addr < 2 ^ 32 →
    addr % 4 = 0 → target addr = .set i k all → s.denied m addr 0 = false → s.selected i all = [] →
    Completes (.aliasRead m addr) s fun t => t.fab.rdata.get 0 (masterCode m) = 0x0FF00FF0 ∧
    t.flag F.PMU_ACCESS_ERR_VALID = true ∧ t.flag F.PMU_EVT_ACCESS_ERR = true)

/-- Where the accesses are let through and MGMT answers: a word written to the shared SRAM reads back in the next read
  of the same master; a LO word and then a HI word written to the Tack Room by one master read back as written. -/
def Obligations.MemoryReadBack : Prop :=
  (∀ s m a v, s.canIssue m = true → s.holdsBack m = false → 0x01100000 ≤ a → a < 0x01300000 → a % 4 = 0 →
    s.denied m a 1 = false → s.denied m a 0 = false → s.blockOn 1 (a / 4096) = true →
    Completes (.registerWrite m a v) s fun t => Completes (.rcRead m a 4) t fun u => u.fab.rdata.get 0 (masterCode
    m) = v) ∧
  (∀ s m off v (w : W32), s.canIssue m = true → s.holdsBack m = false → off % 8 = 0 → off + 8 ≤ 0x80000 →
    s.denied m (trBus off) 1 = false → s.denied m (trBus (off + 4)) 1 = false → s.denied m (trBus off) 0 = false →
    s.denied m (trBus (off + 4)) 0 = false → s.blockOn 1 (trPage off) = true →
    s.tackAccepts m (s.trAddr off) = true → 0x50000 ≤ s.trAddr off →
    s.trAddr off < 0x60000 ∨ 0x100000 ≤ s.trAddr off → Completes (.tackRoomWrite m off v) s fun t => t.tack = s.tack
    ∧ Completes (.tackRoomWrite m (off + 4) w) t fun u => u.tackWord (s.trAddr off) = v ∧
    u.tackWord (s.trAddr off + 4) = w)

/-- Where the writes are accepted: a write of CTR_LO changes no register until the same master writes CTR_HI,
  when both halves take their values; a write of LO by another master between the two does not disturb the pair. -/
def Obligations.PairedHalves : Prop :=
  (∀ s m n lo (hi : W32), s.accepts m (R .PMC_CTR_LO n) = true → s.accepts m (R .PMC_CTR_HI n) = true →
    Completes (.registerWrite m (R .PMC_CTR_LO n).addr lo) s fun t => t.regs = s.regs ∧
    Completes (.ctrLoad m n hi) t fun u => u.rd (R .PMC_CTR_LO n) = lo ∧ u.rd (R .PMC_CTR_HI n) = hi &&& 0xFFFF) ∧
  (∀ s m m2 n lo (lo2 : W32) (hi : W32), s.accepts m (R .PMC_CTR_LO n) = true →
    s.accepts m2 (R .PMC_CTR_LO n) = true → s.accepts m (R .PMC_CTR_HI n) = true → masterCode m ≠ masterCode m2 →
    Completes (.registerWrite m (R .PMC_CTR_LO n).addr lo) s fun t => Completes (.registerWrite m2 (R .PMC_CTR_LO
    n).addr lo2) t fun u => Completes (.ctrLoad m n hi) u fun x => x.rd (R .PMC_CTR_LO n) = lo ∧
    x.rd (R .PMC_CTR_HI n) = hi &&& 0xFFFF)

/-- For sixteen event registers, one or more of every block that has one: an accepted write of v leaves of the
  implemented bits those that were 1 and are 0 in v. -/
def Obligations.EventBitsClearWhereOneIsWritten : Prop :=
  (∀ s m i v, s.accepts m (R .CAX_RX_EVT i) = true → Completes (.registerWrite m (R .CAX_RX_EVT i).addr v) s fun t
    => t.rd (R .CAX_RX_EVT i) = s.rd (R .CAX_RX_EVT i) &&& ~~~(v &&& (R .CAX_RX_EVT).mask) &&& (R .CAX_RX_EVT).mask) ∧
  (∀ s m i v, s.accepts m (R .SCX_FEC_EVT i) = true → Completes (.registerWrite m (R .SCX_FEC_EVT i).addr v) s fun t
    => t.rd (R .SCX_FEC_EVT i) = s.rd (R .SCX_FEC_EVT i) &&& ~~~(v &&& (R .SCX_FEC_EVT).mask) &&& (R
    .SCX_FEC_EVT).mask) ∧
  (∀ s m i v, s.accepts m (R .LFM_CA_EVT i) = true → Completes (.registerWrite m (R .LFM_CA_EVT i).addr v) s fun t
    => t.rd (R .LFM_CA_EVT i) = s.rd (R .LFM_CA_EVT i) &&& ~~~(v &&& (R .LFM_CA_EVT).mask) &&& (R .LFM_CA_EVT).mask) ∧
  (∀ s m i v, s.accepts m (R .LFM_GRP_EVT i) = true → Completes (.registerWrite m (R .LFM_GRP_EVT i).addr v) s fun t
    => t.rd (R .LFM_GRP_EVT i) = s.rd (R .LFM_GRP_EVT i) &&& ~~~(v &&& (R .LFM_GRP_EVT).mask) &&& (R
    .LFM_GRP_EVT).mask) ∧
  (∀ s m i v, s.accepts m (R .HLN_LANE_EVT i) = true →
    Completes (.registerWrite m (R .HLN_LANE_EVT i).addr v) s fun t => t.rd (R .HLN_LANE_EVT i) = s.rd (R
    .HLN_LANE_EVT i) &&& ~~~(v &&& (R .HLN_LANE_EVT).mask) &&& (R .HLN_LANE_EVT).mask) ∧
  (∀ s m i v, s.accepts m (R .YLN_LINK_EVT i) = true →
    Completes (.registerWrite m (R .YLN_LINK_EVT i).addr v) s fun t => t.rd (R .YLN_LINK_EVT i) = s.rd (R
    .YLN_LINK_EVT i) &&& ~~~(v &&& (R .YLN_LINK_EVT).mask) &&& (R .YLN_LINK_EVT).mask) ∧
  (∀ s m v, s.accepts m (R .SOF_EVT) = true → Completes (.registerWrite m (R .SOF_EVT).addr v) s fun t => t.rd (R
    .SOF_EVT) = s.rd (R .SOF_EVT) &&& ~~~(v &&& (R .SOF_EVT).mask) &&& (R .SOF_EVT).mask) ∧
  (∀ s m v, s.accepts m (R .HAY_EVT) = true → Completes (.registerWrite m (R .HAY_EVT).addr v) s fun t => t.rd (R
    .HAY_EVT) = s.rd (R .HAY_EVT) &&& ~~~(v &&& (R .HAY_EVT).mask) &&& (R .HAY_EVT).mask) ∧
  (∀ s m v, s.accepts m (R .CIP_EVT) = true → Completes (.registerWrite m (R .CIP_EVT).addr v) s fun t => t.rd (R
    .CIP_EVT) = s.rd (R .CIP_EVT) &&& ~~~(v &&& (R .CIP_EVT).mask) &&& (R .CIP_EVT).mask) ∧
  (∀ s m v, s.accepts m (R .PMU_EVT) = true → Completes (.registerWrite m (R .PMU_EVT).addr v) s fun t => t.rd (R
    .PMU_EVT) = s.rd (R .PMU_EVT) &&& ~~~(v &&& (R .PMU_EVT).mask) &&& (R .PMU_EVT).mask) ∧
  (∀ s m v, s.accepts m (R .RST_EVT) = true → Completes (.registerWrite m (R .RST_EVT).addr v) s fun t => t.rd (R
    .RST_EVT) = s.rd (R .RST_EVT) &&& ~~~(v &&& (R .RST_EVT).mask) &&& (R .RST_EVT).mask) ∧
  (∀ s m v, s.accepts m (R .STB_EVT) = true → Completes (.registerWrite m (R .STB_EVT).addr v) s fun t => t.rd (R
    .STB_EVT) = s.rd (R .STB_EVT) &&& ~~~(v &&& (R .STB_EVT).mask) &&& (R .STB_EVT).mask) ∧
  (∀ s m v, s.accepts m (R .MON_EVT) = true → Completes (.registerWrite m (R .MON_EVT).addr v) s fun t => t.rd (R
    .MON_EVT) = s.rd (R .MON_EVT) &&& ~~~(v &&& (R .MON_EVT).mask) &&& (R .MON_EVT).mask) ∧
  (∀ s m v, s.accepts m (R .PCC_EVT) = true → Completes (.registerWrite m (R .PCC_EVT).addr v) s fun t => t.rd (R
    .PCC_EVT) = s.rd (R .PCC_EVT) &&& ~~~(v &&& (R .PCC_EVT).mask) &&& (R .PCC_EVT).mask) ∧
  (∀ s m v, s.accepts m (R .CAL_EVT) = true → Completes (.registerWrite m (R .CAL_EVT).addr v) s fun t => t.rd (R
    .CAL_EVT) = s.rd (R .CAL_EVT) &&& ~~~(v &&& (R .CAL_EVT).mask) &&& (R .CAL_EVT).mask) ∧
  (∀ s m v, s.accepts m (R .BST_EVT) = true → Completes (.registerWrite m (R .BST_EVT).addr v) s fun t => t.rd (R
    .BST_EVT) = s.rd (R .BST_EVT) &&& ~~~(v &&& (R .BST_EVT).mask) &&& (R .BST_EVT).mask)

/-- With no record held, a read by user mode of core c, or a write by machine mode of core c,
  that the regions deny leaves the fabric (and for the write the SRAM) as it was and sets the core's fault record
  with its kind and address. With no region covering the address, user mode is denied and machine mode is not. -/
def Obligations.DeniedAccessesHaveNoEffect : Prop :=
  (∀ s c addr size, c < 4 → s.canIssue (.user c) = true → addr < 2 ^ 32 → addr % width size = 0 →
    s.mpuDenies c addr 0 false = true → s.flag F.CORE_MPU_FAULT_INFO_VALID c = false →
    Completes (.rcRead (.user c) addr size) s fun t => t.fab = s.fab ∧ t.flag F.CORE_MPU_FAULT_INFO_VALID c = true ∧
    t.fld F.CORE_MPU_FAULT_INFO_KIND c = 0 ∧ t.rdN (R .CORE_MPU_FAULT c) = addr) ∧
  (∀ s c addr v, c < 4 → s.canIssue (.core c) = true → addr < 2 ^ 32 → addr % 4 = 0 →
    s.mpuDenies c addr 1 true = true → s.flag F.CORE_MPU_FAULT_INFO_VALID c = false →
    Completes (.registerWrite (.core c) addr v) s fun t => t.fab = s.fab ∧ t.ram = s.ram ∧
    t.flag F.CORE_MPU_FAULT_INFO_VALID c = true ∧ t.fld F.CORE_MPU_FAULT_INFO_KIND c = 1 ∧
    t.rdN (R .CORE_MPU_FAULT c) = addr) ∧
  (∀ (s : State) (c addr kind : Nat), (∀ r, r < 16 → s.mpuHit c r addr = false) →
    s.mpuDenies c addr kind false = true ∧ s.mpuDenies c addr kind true = false)

/-- For each command named, whenever exec answers a next state,
  every register is unchanged but those named in its clause (by name, or by a named group of what follows it),
  and every piece of state beside the registers, each memory byte by byte, is unchanged but those named. -/
def Obligations.LineFrames : Prop :=
  (∀ m c v, Leaves [.tx, .write] [.CAX_TX_PROFILE, .CAX_CHG_CTRL, .CAX_CHG_STATUS, .CAX_LINE_EVT, .CAX_TX_ENTROPY,
    .PCC_TX_CFG] [] (.go m c v)) ∧
  (∀ m c v, Leaves [.tx, .write] [.CAX_TX_PROFILE, .CAX_CHG_CTRL, .CAX_CHG_STATUS, .CAX_LINE_EVT, .CAX_TX_ENTROPY,
    .PCC_TX_CFG] [] (.cancel m c v)) ∧
  (∀ m c v, Leaves [.line, .write] [.CAX_RX_PROFILE, .CAX_CHG_STATUS, .CAX_LINE_EVT, .CAX_RX_CD_EST, .CAX_RX_FOFS,
    .CAX_RX_ACQ_CNT, .SCX_FEC_SEC_BITS_LO, .SCX_FEC_SEC_BITS_HI, .SCX_FEC_SEC_CORR_LO, .SCX_FEC_SEC_CORR_HI,
    .SCX_FEC_SEC_CW, .SCX_FEC_SEC_UNC, .SCX_FEC_SEC_PEAK, .SCX_FEC_TOT_CW_LO, .SCX_FEC_TOT_CW_HI,
    .SCX_FEC_TOT_CORR_LO, .SCX_FEC_TOT_CORR_HI, .SCX_FEC_TOT_UNC_LO, .SCX_FEC_TOT_UNC_HI, .SCX_FEC_SEG_ERR,
    .PCC_EVT, .PCC_TX_CFG, .PCC_TX_STATUS, .PCC_TX_ABORT_CNT] [] (.rxProfileWrite m c v)) ∧
  (∀ c, Leaves [] [] [.cars] (.announce c)) ∧
  (∀ c, Leaves [] [.CAX_CHG_STATUS] [.cars, .scs, .pmk] (.multiframeTx c)) ∧
  (∀ c, Leaves [.tx] [.CAX_TX_PROFILE, .CAX_CHG_STATUS, .CAX_LINE_EVT, .CAX_TX_ENTROPY, .PCC_TX_CFG] [] (.switch c)) ∧
  (∀ c, Leaves [] [.CAX_CHG_STATUS, .CAX_LINE_EVT] [] (.chgDone c)) ∧
  (∀ c, Leaves [] [.CAX_CHG_STATUS, .CAX_LINE_EVT] [.cars] (.holdTimeout c)) ∧
  (∀ c marks, Leaves [.line] [.CAX_CHG_STATUS, .CAX_LINE_EVT, .CAX_RX_SHAPE, .CAX_RX_CD_EST, .CAX_RX_FOFS,
    .CAX_RX_ACQ_CNT, .SCX_FEC_SEC_BITS_LO, .SCX_FEC_SEC_BITS_HI, .SCX_FEC_SEC_CORR_LO, .SCX_FEC_SEC_CORR_HI,
    .SCX_FEC_SEC_CW, .SCX_FEC_SEC_UNC, .SCX_FEC_SEC_PEAK, .SCX_FEC_TOT_CW_LO, .SCX_FEC_TOT_CW_HI,
    .SCX_FEC_TOT_CORR_LO, .SCX_FEC_TOT_CORR_HI, .SCX_FEC_TOT_UNC_LO, .SCX_FEC_TOT_UNC_HI, .SCX_FEC_SEG_ERR,
    .PCC_EVT, .PCC_TX_CFG, .PCC_TX_STATUS, .PCC_TX_ABORT_CNT, .PMK_TT_STATUS] [.pmk] (.multiframeRx c marks)) ∧
  (∀ c, Leaves [.line] [.CAX_RX_PROFILE, .CAX_CHG_STATUS, .CAX_LINE_EVT, .CAX_RX_CD_EST, .CAX_RX_FOFS,
    .CAX_RX_ACQ_CNT, .SCX_FEC_SEC_BITS_LO, .SCX_FEC_SEC_BITS_HI, .SCX_FEC_SEC_CORR_LO, .SCX_FEC_SEC_CORR_HI,
    .SCX_FEC_SEC_CW, .SCX_FEC_SEC_UNC, .SCX_FEC_SEC_PEAK, .SCX_FEC_TOT_CW_LO, .SCX_FEC_TOT_CW_HI,
    .SCX_FEC_TOT_CORR_LO, .SCX_FEC_TOT_CORR_HI, .SCX_FEC_TOT_UNC_LO, .SCX_FEC_TOT_UNC_HI, .SCX_FEC_SEG_ERR,
    .PCC_EVT, .PCC_TX_CFG, .PCC_TX_STATUS, .PCC_TX_ABORT_CNT] [] (.rxFollowed c)) ∧
  (∀ c, Leaves [.line] [.CAX_RX_PROFILE, .CAX_CHG_STATUS, .CAX_LINE_EVT, .CAX_RX_CD_EST, .CAX_RX_FOFS,
    .CAX_RX_ACQ_CNT, .SCX_FEC_SEC_BITS_LO, .SCX_FEC_SEC_BITS_HI, .SCX_FEC_SEC_CORR_LO, .SCX_FEC_SEC_CORR_HI,
    .SCX_FEC_SEC_CW, .SCX_FEC_SEC_UNC, .SCX_FEC_SEC_PEAK, .SCX_FEC_TOT_CW_LO, .SCX_FEC_TOT_CW_HI,
    .SCX_FEC_TOT_CORR_LO, .SCX_FEC_TOT_CORR_HI, .SCX_FEC_TOT_UNC_LO, .SCX_FEC_TOT_UNC_HI, .SCX_FEC_SEG_ERR,
    .PCC_EVT, .PCC_TX_CFG, .PCC_TX_STATUS, .PCC_TX_ABORT_CNT] [] (.descAdopted c)) ∧
  (∀ c cd, Leaves [.line] [.CAX_CHG_STATUS, .CAX_LINE_EVT, .CAX_RX_CD_EST, .CAX_RX_FOFS,
    .CAX_RX_ACQ_CNT] [] (.expCdRange c cd)) ∧
  (∀ c cd, Leaves [.line] [.CAX_CHG_STATUS, .CAX_LINE_EVT, .CAX_RX_CD_EST] [] (.expCdReturn c cd)) ∧
  (∀ c cd, Leaves [.line] [.CAX_CHG_STATUS, .CAX_LINE_EVT, .CAX_RX_CD_EST] [] (.expStepMove c cd)) ∧
  (∀ m c v, Leaves [.tx, .write] [.CAX_TX_CTRL] [] (.laserOn m c v)) ∧
  (∀ m c v, Leaves [.tx, .write] [.CAX_TX_CTRL] [] (.mute m c v)) ∧
  (∀ c, Leaves [.tx] [] [] (.settleElapsed c)) ∧
  (∀ c, Leaves [] [.CAX_TX_STATUS, .CAX_TX_EVT] [] (.serviceEntered c)) ∧
  (∀ c, Leaves [.fault] [] [] (.clkFault c)) ∧
  (∀ c, Leaves [.tx] [] [] (.txClkLock c)) ∧
  (∀ c, Leaves [.fault] [.CAX_TX_SEG_ERR] [] (.segErr c)) ∧
  (∀ m c v, Leaves [.write] [.CAX_TX_PRE_APPLY] [] (.txPreApply m c v)) ∧
  (∀ c lane, Leaves [.count] [.CAX_TX_EVT, .CAX_TX_CLIP_CNT] [] (.clip c lane)) ∧
  (∀ m c lane v, Leaves [.write] [.CAX_TX_SKEW, .CAX_TX_EVT] [.cars] (.txSkewWrite m c lane v)) ∧
  (∀ c lane, Leaves [] [.CAX_TX_SKEW] [.cars] (.skewRamp c lane)) ∧
  (∀ m c v, Leaves [.rx, .write] [.CAX_RX_CTRL] [] (.rxEn m c v)) ∧
  (∀ m c v, Leaves [.rx, .write] [.CAX_RX_CTRL] [] (.acqRestart m c v)) ∧
  (∀ c e, Leaves [.rx] [.CAX_LINE_EVT, .CAX_RX_LOS_CFG] [] (.acqStep c e)) ∧
  (∀ c, Leaves [.line] [.CAX_CHG_STATUS, .CAX_RX_CD_EST, .CAX_RX_FOFS, .CAX_RX_LOS_CNT,
    .CAX_RX_ACQ_CNT] [] (.acqTimeout c)) ∧
  (∀ c, Leaves [.line] [.CAX_CHG_STATUS, .CAX_RX_CD_EST, .CAX_RX_FOFS, .CAX_RX_LOS_CNT,
    .CAX_RX_ACQ_CNT] [] (.relockFail c)) ∧
  (∀ c rms, Leaves [.line] [.CAX_CHG_STATUS, .CAX_RX_LOS_CFG, .CAX_RX_CD_EST, .CAX_RX_FOFS,
    .CAX_RX_LOS_CNT] [] (.los c rms)) ∧
  (∀ c rms, Leaves [.line] [.CAX_CHG_STATUS, .CAX_RX_LOS_CFG, .CAX_RX_CD_EST, .CAX_RX_FOFS,
    .CAX_RX_ACQ_CNT] [] (.losClear c rms)) ∧
  (∀ c, Leaves [.fault, .line] [.CAX_CHG_STATUS, .CAX_RX_CD_EST, .CAX_RX_FOFS, .CAX_RX_LOS_CNT] [] (.adcClkFault c)) ∧
  (∀ c, Leaves [.line] [.CAX_CHG_STATUS, .CAX_RX_CD_EST, .CAX_RX_FOFS, .CAX_RX_ACQ_CNT] [] (.clkLol c)) ∧
  (∀ sc, Leaves [.line] [.CAX_CHG_STATUS, .CAX_RX_CD_EST, .CAX_RX_FOFS, .CAX_RX_ACQ_CNT] [] (.scLost sc)) ∧
  (∀ sc, Leaves [] [] [.scs] (.reconvTimeout sc)) ∧
  (∀ sc, Leaves [.line] [.SCX_RX_RECONV_CNT] [] (.scLocked sc)) ∧
  (∀ sc, Leaves [] [.SCX_RX_STATUS, .SCX_RX_EVT] [] (.degSet sc)) ∧
  (∀ sc, Leaves [] [.SCX_RX_STATUS, .SCX_RX_EVT] [] (.degClear sc)) ∧
  (∀ sc rate, Leaves [] [.SCX_RX_EVT] [.scs] (.sopTransient sc rate)) ∧
  (∀ sc, Leaves [.count] [.SCX_RX_EVT, .SCX_RX_SLIP_CNT] [] (.slip sc)) ∧
  (∀ x, Leaves [] [.CAX_RX_FOFS, .CAX_RX_EVT] [] (.fofsRange x)) ∧
  (∀ c meas, Leaves [] [.CAX_RX_SHAPE, .CAX_RX_EVT] [] (.boostMismatch c meas)) ∧
  (∀ m c v, Leaves [.line, .write] [.CAX_CHG_STATUS, .CAX_RX_SHAPE, .CAX_RX_CD_EST, .CAX_RX_FOFS,
    .CAX_RX_ACQ_CNT] [] (.rxShapeWrite m c v)) ∧
  (∀ c x, Leaves [.rx] [.CAX_LINE_EVT, .CAX_RX_LOS_CFG, .SCX_RX_SNR, .SCX_RX_SOP] [] (.snapshot c x)) ∧
  (∀ c, Leaves [] [.CAX_RX_STATUS] [.cars] (.storeExpired c)) ∧
  (∀ c, Leaves [] [.CAX_RX_CD_EST] [] (.cdFine c)) ∧
  (∀ sc cw, Leaves [.fault, .line] [.SCX_FEC_EVT, .SCX_FEC_TOT_CW_LO, .SCX_FEC_TOT_CW_HI, .SCX_FEC_TOT_CORR_LO,
    .SCX_FEC_TOT_CORR_HI, .SCX_FEC_TOT_UNC_LO, .SCX_FEC_TOT_UNC_HI, .SCX_FEC_SEG_ERR] [.segBad] (.decode sc cw)) ∧
  (∀ sc, Leaves [.line] [.SCX_FEC_EVT] [] (.uncDefectSet sc)) ∧
  (∀ sc, Leaves [.line] [.SCX_FEC_EVT] [] (.uncDefectClear sc)) ∧
  (∀ sc, Leaves [] [.SCX_FEC_STATUS, .SCX_FEC_EVT] [] (.prefecDegSet sc)) ∧
  (∀ sc, Leaves [] [.SCX_FEC_STATUS, .SCX_FEC_EVT] [] (.prefecDegClear sc)) ∧
  (∀ m sc v, Leaves [.write] [.SCX_FEC_TOT_CW_LO, .SCX_FEC_TOT_CW_HI, .SCX_FEC_TOT_CORR_LO, .SCX_FEC_TOT_CORR_HI,
    .SCX_FEC_TOT_UNC_LO, .SCX_FEC_TOT_UNC_HI] [] (.fecTotClr m sc v)) ∧
  (Leaves [] [.SCX_RX_SNR, .SCX_RX_SOP, .SCX_FEC_STATUS, .SCX_FEC_SEC_TAG, .SCX_FEC_SEC_BITS_LO,
    .SCX_FEC_SEC_BITS_HI, .SCX_FEC_SEC_CORR_LO, .SCX_FEC_SEC_CORR_HI, .SCX_FEC_SEC_CW, .SCX_FEC_SEC_UNC,
    .SCX_FEC_SEC_PEAK] [.scs] .fecSecLatch) ∧
  (∀ sc pos errs, Leaves [] [.LFM_SC_STATUS] [.scs] (.hypothesisCheck sc pos errs)) ∧
  (∀ sc, Leaves [.line] [.LFM_ALIAS_CNT] [] (.searchInterval sc)) ∧
  (∀ sc errs hdr ovh, Leaves [.line] [.CAX_CHG_STATUS, .LFM_OOF_CNT, .LFM_MSI_RX, .LFM_CA_EVT, .LFM_SR_RX,
    .LFM_TTI_ACC] [.mccRx] (.frameRx sc errs hdr ovh)) ∧
  (∀ sc, Leaves [.line] [] [] (.lofSet sc)) ∧
  (∀ sc, Leaves [.line] [] [] (.lofClr sc)) ∧
  (∀ m sc v, Leaves [.write] [.LFM_MAP_CTRL] [.scs] (.commitTx m sc v)) ∧
  (∀ m sc v, Leaves [.write] [.LFM_MAP_CTRL] [.scs] (.commitRx m sc v)) ∧
  (∀ sc tx, Leaves [] [.LFM_MAP_CTRL] [.scs] (.pendingCommit sc tx)) ∧
  (∀ sc tx, Leaves [.group] [.LFM_SC_EVT] [.scs] (.slotMapInForce sc tx)) ∧
  (∀ m g v, Leaves [.group, .write] [.LFM_GRP_CFG] [] (.grpCfgWrite m g v)) ∧
  (∀ m sc v, Leaves [.write] [.LFM_SC_CFG, .LFM_TOT_NE_ES, .LFM_TOT_NE_SES, .LFM_TOT_FE_ES,
    .LFM_TOT_FE_SES] [] (.lfmTotClr m sc v)) ∧
  (∀ g msn round gap arrival, Leaves [] [.LFM_GRP_STATUS, .LFM_GRP_SKEW, .LFM_GRP_EVT, .LFM_GRP_FAIL_CNT, .HAY_EVT,
    .HAY_RET_STATUS, .CIP_EVT, .CIP_SEAL_LOSS] [.grps, .delin, .hay, .cip] (.groupMarker g msn round gap arrival)) ∧
  (∀ g, Leaves [] [.LFM_GRP_STATUS, .LFM_GRP_EVT, .HAY_EVT] [.grps] (.skewCheck g)) ∧
  (∀ g, Leaves [] [.LFM_GRP_STATUS, .LFM_GRP_EVT] [.delin] (.grpUp g)) ∧
  (∀ g msn, Leaves [] [.LFM_GRP_STATUS, .LFM_GRP_EVT, .LFM_GRP_FAIL_CNT, .HAY_RET_STATUS, .CIP_EVT,
    .CIP_SEAL_LOSS] [.grps, .delin, .hay, .cip] (.grpSlip g msn)) ∧
  (Leaves [] [.LFM_PM_TAG, .LFM_PM_NE_CORR_LO, .LFM_PM_NE_CORR_HI, .LFM_PM_NE_UNC, .LFM_PM_FE_CORR_LO,
    .LFM_PM_FE_CORR_HI, .LFM_PM_FE_UNC, .LFM_PM_FLAGS, .LFM_TOT_NE_ES, .LFM_TOT_NE_SES, .LFM_TOT_FE_ES,
    .LFM_TOT_FE_SES] [.scs] .pmLatch) ∧
  (∀ c, Leaves [.fault] [.CAX_TX_SEG_ERR, .LFM_CA_STATUS] [.mccTx, .segBad] (.frameTx c)) ∧
  (∀ c lane, Leaves [.count] [.CAX_RX_EVT, .CAX_RX_ADC_CLIP_CNT] [] (.adcClip c lane)) ∧
  (∀ c, Leaves [] [] [.cars] (.adcClkLock c))

/-- For each command named, whenever exec answers a next state,
  every register is unchanged but those named in its clause (by name, or by a named group of what follows it),
  and every piece of state beside the registers, each memory byte by byte, is unchanged but those named. -/
def Obligations.TrafficFrames : Prop :=
  (∀ m p v, Leaves [.write] [.SOF_PORT_CFG, .SOF_PORT_STATUS, .SOF_TX_PAUSE_LO, .SOF_TX_PAUSE_HI, .SOF_EVT,
    .SOF_POOL_STATUS, .SOF_FP_W4, .SOF_PATH_DROP_LO, .SOF_PATH_DROP_HI, .SOF_XOFF_CNT_LO, .SOF_XOFF_CNT_HI,
    .HAY_RET_STATUS, .HLN_TX_EQ_ACT, .HLN_TRAIN_STATUS, .HLN_LANE_EVT] [.flows, .ports, .hay,
    .retryLane] (.portCfgWrite m p v)) ∧
  (∀ m p v, Leaves [.write] [.SOF_RX_OK_LO, .SOF_RX_OK_HI, .SOF_RX_FCS_LO, .SOF_RX_FCS_HI, .SOF_RX_RUNT_LO,
    .SOF_RX_RUNT_HI, .SOF_RX_OVERSIZE_LO, .SOF_RX_OVERSIZE_HI, .SOF_RX_UNCLASS_LO, .SOF_RX_UNCLASS_HI,
    .SOF_RX_PAUSE_LO, .SOF_RX_PAUSE_HI, .SOF_TX_OK_LO, .SOF_TX_OK_HI, .SOF_TX_PAUSE_LO,
    .SOF_TX_PAUSE_HI] [] (.portCntClr m p v)) ∧
  (∀ p fr, Leaves [.fault, .level] [.STB_STATUS, .STB_REF_STATUS, .STB_REF_EVT, .SOF_RX_OK_LO, .SOF_RX_OK_HI,
    .SOF_RX_FCS_LO, .SOF_RX_FCS_HI, .SOF_RX_RUNT_LO, .SOF_RX_RUNT_HI, .SOF_RX_OVERSIZE_LO, .SOF_RX_OVERSIZE_HI,
    .SOF_RX_UNCLASS_LO, .SOF_RX_UNCLASS_HI, .SOF_RX_PAUSE_LO, .SOF_RX_PAUSE_HI, .SOF_ACC_FRM_LO, .SOF_ACC_FRM_HI,
    .SOF_ACC_BYTE_LO, .SOF_ACC_BYTE_MID, .SOF_ACC_BYTE_HI, .SOF_POL_DROP_LO, .SOF_POL_DROP_HI, .SOF_QUE_DROP_LO,
    .SOF_QUE_DROP_HI, .SOF_ERR_DROP_LO, .SOF_ERR_DROP_HI, .SOF_KEY_DROP_LO, .SOF_KEY_DROP_HI, .HAY_EVT,
    .HAY_CE_TOT_LO, .HAY_CE_TOT_HI, .HAY_UE_TOT, .HAY_LOG_STATUS, .HAY_CAP_CFG, .HAY_CAP_SEQ, .HAY_LOG_W0,
    .HAY_LOG_W1, .HAY_LOG_W2, .HAY_LOG_W3, .CIP_STATUS, .CIP_EVT, .CIP_PN_WARN_FLOW, .PMK_PTP_RX_DROP] [.hayMem,
    .cip, .pmk] (.hostFrame p fr)) ∧
  (∀ p, Leaves [] [.SOF_TX_PAUSE_LO, .SOF_TX_PAUSE_HI] [.ports] (.pauseRefresh p)) ∧
  (∀ p pfc en quanta, Leaves [] [.SOF_PORT_STATUS, .SOF_RX_OK_LO, .SOF_RX_OK_HI, .SOF_RX_PAUSE_LO,
    .SOF_RX_PAUSE_HI] [] (.pauseReceived p pfc en quanta)) ∧
  (∀ p prio, Leaves [] [.SOF_PORT_STATUS] [] (.pauseExpiry p prio)) ∧
  (∀ m f word v, Leaves [.write] [.SOF_EVT, .SOF_PH_W0, .SOF_PH_W1, .SOF_PH_W2, .SOF_PH_W3, .SOF_PH_W4, .SOF_PH_W5,
    .SOF_PH_W6] [] (.phEntryWrite m f word v)) ∧
  (∀ m f v, Leaves [.write] [.SOF_PORT_STATUS, .SOF_TX_PAUSE_LO, .SOF_TX_PAUSE_HI, .SOF_PH_RESULT, .SOF_EVT,
    .SOF_POOL_STATUS, .SOF_PH_W6, .SOF_FP_W4, .SOF_XOFF_CNT_LO, .SOF_XOFF_CNT_HI] [.flows,
    .ports] (.validate m f v)) ∧
  (∀ m f v, Leaves [.write] [.SOF_PORT_STATUS, .SOF_TX_PAUSE_LO, .SOF_TX_PAUSE_HI, .SOF_PH_RESULT, .SOF_EVT,
    .SOF_POOL_STATUS, .SOF_PH_W6, .SOF_FP_W4, .SOF_XOFF_CNT_LO, .SOF_XOFF_CNT_HI] [.flows,
    .ports] (.flowRemove m f v)) ∧
  (∀ m v, Leaves [.write] [.SOF_PORT_STATUS, .SOF_TX_PAUSE_LO, .SOF_TX_PAUSE_HI, .SOF_PH_RESULT, .SOF_EVT,
    .SOF_POOL_STATUS, .SOF_PH_W6, .SOF_FP_W4, .SOF_ACC_FRM_LO, .SOF_ACC_FRM_HI, .SOF_ACC_BYTE_LO, .SOF_ACC_BYTE_MID,
    .SOF_ACC_BYTE_HI, .SOF_OUT_FRM_LO, .SOF_OUT_FRM_HI, .SOF_OUT_BYTE_LO, .SOF_OUT_BYTE_MID, .SOF_OUT_BYTE_HI,
    .SOF_POL_DROP_LO, .SOF_POL_DROP_HI, .SOF_QUE_DROP_LO, .SOF_QUE_DROP_HI, .SOF_ERR_DROP_LO, .SOF_ERR_DROP_HI,
    .SOF_KEY_DROP_LO, .SOF_KEY_DROP_HI, .SOF_PATH_DROP_LO, .SOF_PATH_DROP_HI, .SOF_POISON_DROP_LO,
    .SOF_POISON_DROP_HI, .SOF_XOFF_CNT_LO, .SOF_XOFF_CNT_HI, .HAY_RET_STATUS] [.flows, .ports,
    .hay] (.flowMove m v)) ∧
  (∀ m v, Leaves [.write] [.SOF_PORT_STATUS, .SOF_TX_PAUSE_LO, .SOF_TX_PAUSE_HI, .SOF_PH_RESULT, .SOF_EVT,
    .SOF_POOL_STATUS, .SOF_PH_W6, .SOF_FP_W4, .SOF_ACC_FRM_LO, .SOF_ACC_FRM_HI, .SOF_ACC_BYTE_LO, .SOF_ACC_BYTE_MID,
    .SOF_ACC_BYTE_HI, .SOF_OUT_FRM_LO, .SOF_OUT_FRM_HI, .SOF_OUT_BYTE_LO, .SOF_OUT_BYTE_MID, .SOF_OUT_BYTE_HI,
    .SOF_POL_DROP_LO, .SOF_POL_DROP_HI, .SOF_QUE_DROP_LO, .SOF_QUE_DROP_HI, .SOF_ERR_DROP_LO, .SOF_ERR_DROP_HI,
    .SOF_KEY_DROP_LO, .SOF_KEY_DROP_HI, .SOF_PATH_DROP_LO, .SOF_PATH_DROP_HI, .SOF_POISON_DROP_LO,
    .SOF_POISON_DROP_HI, .SOF_XOFF_CNT_LO, .SOF_XOFF_CNT_HI, .HAY_RET_STATUS] [.flows, .ports,
    .hay] (.flowFlush m v)) ∧
  (∀ m v, Leaves [.write] [.SOF_PORT_STATUS, .SOF_TX_PAUSE_LO, .SOF_TX_PAUSE_HI, .SOF_PH_RESULT, .SOF_EVT,
    .SOF_POOL_STATUS, .SOF_PH_W6, .SOF_FP_W4, .SOF_ACC_FRM_LO, .SOF_ACC_FRM_HI, .SOF_ACC_BYTE_LO, .SOF_ACC_BYTE_MID,
    .SOF_ACC_BYTE_HI, .SOF_OUT_FRM_LO, .SOF_OUT_FRM_HI, .SOF_OUT_BYTE_LO, .SOF_OUT_BYTE_MID, .SOF_OUT_BYTE_HI,
    .SOF_POL_DROP_LO, .SOF_POL_DROP_HI, .SOF_QUE_DROP_LO, .SOF_QUE_DROP_HI, .SOF_ERR_DROP_LO, .SOF_ERR_DROP_HI,
    .SOF_KEY_DROP_LO, .SOF_KEY_DROP_HI, .SOF_PATH_DROP_LO, .SOF_PATH_DROP_HI, .SOF_POISON_DROP_LO,
    .SOF_POISON_DROP_HI, .SOF_XOFF_CNT_LO, .SOF_XOFF_CNT_HI, .HAY_RET_STATUS] [.flows, .ports, .hay] (.clrCnt m v)) ∧
  (∀ e ecc, Leaves [.fault] [.SOF_TX_OK_LO, .SOF_TX_OK_HI, .SOF_SHED_CE, .SOF_SHED_UE, .SOF_OUT_FRM_LO,
    .SOF_OUT_FRM_HI, .SOF_OUT_BYTE_LO, .SOF_OUT_BYTE_MID, .SOF_OUT_BYTE_HI, .SOF_ERR_DROP_LO, .SOF_ERR_DROP_HI,
    .SOF_KEY_DROP_LO, .SOF_KEY_DROP_HI, .SOF_POISON_DROP_LO, .SOF_POISON_DROP_HI, .HAY_EVT, .HAY_CE_TOT_LO,
    .HAY_CE_TOT_HI, .HAY_UE_TOT, .HAY_LOG_STATUS, .HAY_LOG_W0, .HAY_LOG_W1, .HAY_LOG_W2, .HAY_LOG_W3, .CIP_STATUS,
    .CIP_EVT] [.grps, .hayMem, .cip, .drr, .segBad] (.frameSent e ecc)) ∧
  (∀ g, Leaves [] [.SOF_GRP_TXHOLD] [] (.grpHoldEnd g)) ∧
  (∀ g word marked fr, Leaves [.fault] [.SOF_LINE_UNCLASS, .SOF_GRP_DELIN_CNT, .SOF_ACC_FRM_LO, .SOF_ACC_FRM_HI,
    .SOF_ACC_BYTE_LO, .SOF_ACC_BYTE_MID, .SOF_ACC_BYTE_HI, .SOF_POL_DROP_LO, .SOF_POL_DROP_HI, .SOF_QUE_DROP_LO,
    .SOF_QUE_DROP_HI, .SOF_ERR_DROP_LO, .SOF_ERR_DROP_HI, .SOF_KEY_DROP_LO, .SOF_KEY_DROP_HI, .HAY_EVT,
    .HAY_CE_TOT_LO, .HAY_CE_TOT_HI, .HAY_UE_TOT, .HAY_LOG_STATUS, .HAY_CAP_CFG, .HAY_CAP_SEQ, .HAY_LOG_W0,
    .HAY_LOG_W1, .HAY_LOG_W2, .HAY_LOG_W3, .CIP_STATUS, .CIP_EVT, .CIP_PN_WARN_FLOW, .CIP_NO_SC_CNT,
    .CIP_NO_SA_DROP_LO, .CIP_NO_SA_DROP_HI] [.delin, .hayMem, .cip] (.recordHeader g word marked fr)) ∧
  (∀ g h, Leaves [.count] [.SOF_EVT, .SOF_GRP_DELIN_CNT, .CIP_STATUS, .CIP_EVT, .CIP_SEAL_FAIL_LO,
    .CIP_SEAL_FAIL_HI, .CIP_SEAL_LOSS, .CIP_SEAL_REPLAY] [.delin, .cip] (.sealHeader g h)) ∧
  (∀ id ok out, Leaves [.fault] [.SOF_LINE_UNCLASS, .SOF_GRP_DELIN_CNT, .SOF_ACC_FRM_LO, .SOF_ACC_FRM_HI,
    .SOF_ACC_BYTE_LO, .SOF_ACC_BYTE_MID, .SOF_ACC_BYTE_HI, .SOF_POL_DROP_LO, .SOF_POL_DROP_HI, .SOF_QUE_DROP_LO,
    .SOF_QUE_DROP_HI, .SOF_ERR_DROP_LO, .SOF_ERR_DROP_HI, .SOF_KEY_DROP_LO, .SOF_KEY_DROP_HI, .SOF_POISON_DROP_LO,
    .SOF_POISON_DROP_HI, .HAY_EVT, .HAY_CE_TOT_LO, .HAY_CE_TOT_HI, .HAY_UE_TOT, .HAY_LOG_STATUS, .HAY_CAP_CFG,
    .HAY_CAP_SEQ, .HAY_LOG_W0, .HAY_LOG_W1, .HAY_LOG_W2, .HAY_LOG_W3, .CIP_STATUS, .CIP_EVT, .CIP_PN_WARN_FLOW,
    .CIP_NO_SC_CNT, .CIP_ENC_FRM_LO, .CIP_ENC_FRM_HI, .CIP_AUTH_FAIL_LO, .CIP_AUTH_FAIL_HI, .CIP_REPLAY_DROP_LO,
    .CIP_REPLAY_DROP_HI, .CIP_NO_SA_DROP_LO, .CIP_NO_SA_DROP_HI, .CIP_SEAL_OK_LO, .CIP_SEAL_OK_HI,
    .CIP_SEAL_FAIL_LO, .CIP_SEAL_FAIL_HI, .CIP_SEAL_REPLAY] [.grps, .delin, .hayMem, .cip] (.cipherDone id ok out)) ∧
  (∀ id, Leaves [.fault] [.SOF_LINE_UNCLASS, .SOF_GRP_DELIN_CNT, .SOF_ACC_FRM_LO, .SOF_ACC_FRM_HI, .SOF_ACC_BYTE_LO,
    .SOF_ACC_BYTE_MID, .SOF_ACC_BYTE_HI, .SOF_POL_DROP_LO, .SOF_POL_DROP_HI, .SOF_QUE_DROP_LO, .SOF_QUE_DROP_HI,
    .SOF_ERR_DROP_LO, .SOF_ERR_DROP_HI, .SOF_KEY_DROP_LO, .SOF_KEY_DROP_HI, .SOF_POISON_DROP_LO,
    .SOF_POISON_DROP_HI, .HAY_EVT, .HAY_CE_TOT_LO, .HAY_CE_TOT_HI, .HAY_UE_TOT, .HAY_LOG_STATUS, .HAY_CAP_CFG,
    .HAY_CAP_SEQ, .HAY_LOG_W0, .HAY_LOG_W1, .HAY_LOG_W2, .HAY_LOG_W3, .CIP_STATUS, .CIP_EVT, .CIP_PN_WARN_FLOW,
    .CIP_NO_SC_CNT, .CIP_TIMEOUT_CNT, .CIP_ENC_FRM_LO, .CIP_ENC_FRM_HI, .CIP_AUTH_FAIL_LO, .CIP_AUTH_FAIL_HI,
    .CIP_REPLAY_DROP_LO, .CIP_REPLAY_DROP_HI, .CIP_NO_SA_DROP_LO, .CIP_NO_SA_DROP_HI, .CIP_SEAL_OK_LO,
    .CIP_SEAL_OK_HI, .CIP_SEAL_FAIL_LO, .CIP_SEAL_FAIL_HI, .CIP_SEAL_REPLAY] [.grps, .delin, .hayMem,
    .cip] (.cipherTimeout id)) ∧
  (∀ m v, Leaves [.write] [.CIP_STATUS, .CIP_EVT, .CIP_KEY_RESULT] [.cip] (.loadKey m v)) ∧
  (∀ m v, Leaves [.write] [.CIP_STATUS, .CIP_EVT, .CIP_KEY_RESULT] [.cip] (.loadKek m v)) ∧
  (∀ m v, Leaves [.write] [.CIP_STATUS, .CIP_EVT, .CIP_KEY_RESULT] [.cip] (.erase m v)) ∧
  (∀ m v, Leaves [.write] [.CIP_STATUS, .CIP_EVT, .CIP_KEY_RESULT] [.cip] (.eraseKek m v)) ∧
  (∀ m grp k v, Leaves [.write] [.CIP_CTX_CFG, .CIP_GCX_CFG] [] (.txAnWrite m grp k v)) ∧
  (Leaves [] [.CIP_STATUS, .CIP_EVT, .CIP_ENT_FAIL_CNT] [] .entFail) ∧
  (Leaves [] [.CIP_STATUS, .CIP_EVT] [] .entOk) ∧
  (∀ a, Leaves [.fault] [.SOF_ERR_DROP_LO, .SOF_ERR_DROP_HI, .SOF_POISON_DROP_LO, .SOF_POISON_DROP_HI, .HAY_EVT,
    .HAY_CE_TOT_LO, .HAY_CE_TOT_HI, .HAY_UE_TOT, .HAY_LEAK_PAGES, .HAY_LOG_STATUS, .HAY_CAP_PTR, .HAY_LOG_W0,
    .HAY_LOG_W1, .HAY_LOG_W2, .HAY_LOG_W3] [.grps, .delin, .hayMem] (.hayAccessDone a)) ∧
  (∀ a, Leaves [.fault] [.SOF_ERR_DROP_LO, .SOF_ERR_DROP_HI, .SOF_POISON_DROP_LO, .SOF_POISON_DROP_HI, .HAY_EVT,
    .HAY_CE_TOT_LO, .HAY_CE_TOT_HI, .HAY_UE_TOT, .HAY_ACC_TO_CNT, .HAY_LEAK_PAGES, .HAY_LOG_STATUS, .HAY_CAP_PTR,
    .HAY_LOG_W0, .HAY_LOG_W1, .HAY_LOG_W2, .HAY_LOG_W3] [.grps, .delin, .hayMem] (.accTimeout a)) ∧
  (∀ line e, Leaves [.fault] [.HAY_EVT, .HAY_CE_TOT_LO, .HAY_CE_TOT_HI, .HAY_UE_TOT, .HAY_LOG_STATUS, .HAY_LOG_W0,
    .HAY_LOG_W1, .HAY_LOG_W2, .HAY_LOG_W3] [.hayMem] (.mergeWriteBack line e)) ∧
  (∀ line e, Leaves [.fault] [.HAY_SCRUB_STATUS, .HAY_EVT, .HAY_CE_TOT_LO, .HAY_CE_TOT_HI, .HAY_UE_TOT,
    .HAY_LOG_STATUS, .HAY_LOG_W0, .HAY_LOG_W1, .HAY_LOG_W2, .HAY_LOG_W3] [] (.scrubRead line e)) ∧
  (∀ m v, Leaves [.write] [.HAY_EVT, .HAY_RET_STATUS, .HAY_RET_DATA] [.hay] (.retAdd m v)) ∧
  (∀ m v, Leaves [.write] [.HAY_EVT, .HAY_RET_STATUS, .HAY_RET_DATA] [.hay] (.retRemove m v)) ∧
  (∀ m v, Leaves [.write] [.HAY_EVT, .HAY_RET_STATUS, .HAY_RET_DATA] [.hay] (.retRead m v)) ∧
  (∀ m off e, Leaves [.fault] [.PMU_EVT, .PMU_ACCESS_ERR, .PMU_ACCESS_ERR_ADDR, .HAY_EVT, .HAY_APT_STATUS,
    .HAY_CE_TOT_LO, .HAY_CE_TOT_HI, .HAY_UE_TOT, .HAY_LOG_STATUS, .HAY_LOG_W0, .HAY_LOG_W1, .HAY_LOG_W2,
    .HAY_LOG_W3, .CORE_MPU_FAULT, .CORE_MPU_FAULT_INFO] [.fab] (.apertureRead m off e)) ∧
  (∀ m off v, Leaves [.fault] [.PMU_EVT, .PMU_ACCESS_ERR, .PMU_ACCESS_ERR_ADDR, .HAY_EVT, .HAY_APT_STATUS,
    .HAY_CE_TOT_LO, .HAY_CE_TOT_HI, .HAY_UE_TOT, .HAY_LOG_STATUS, .HAY_LOG_W0, .HAY_LOG_W1, .HAY_LOG_W2,
    .HAY_LOG_W3, .CORE_MPU_FAULT, .CORE_MPU_FAULT_INFO] [.fab, .hayMem] (.apertureWrite m off v)) ∧
  (∀ m v, Leaves [.write] [.HAY_EVT, .HAY_RET_STATUS, .HAY_CAP_CFG, .HAY_CAP_PTR, .HAY_CAP_SEQ] [.hay,
    .hayMem] (.capCfgWrite m v)) ∧
  (∀ m v, Leaves [.write] [.HAY_EVT, .HAY_RET_STATUS, .HAY_CAP_CFG, .HAY_CAP_PTR, .HAY_CAP_SEQ] [.hay,
    .hayMem] (.capClr m v)) ∧
  (Leaves [] [.HAY_CAP_DROP] [.hay] .capDrop) ∧
  (∀ m v, Leaves [.write] [.SOF_PORT_STATUS, .SOF_TX_PAUSE_LO, .SOF_TX_PAUSE_HI, .SOF_FP_W4, .SOF_XOFF_CNT_LO,
    .SOF_XOFF_CNT_HI, .HAY_CFG, .HAY_EVT] [.ports] (.hayCfgWrite m v))

/-- For each command named, whenever exec answers a next state,
  every register is unchanged but those named in its clause (by name, or by a named group of what follows it),
  and every piece of state beside the registers, each memory byte by byte, is unchanged but those named. -/
def Obligations.TimingFrames : Prop :=
  (∀ k, Leaves [.fault, .level] [.STB_STATUS, .STB_REF_STATUS, .STB_REF_FOFS, .STB_REF_DRIFT, .STB_REF_EVT,
    .STB_REF_LOS_CNT] [] (.refLost k)) ∧
  (∀ k, Leaves [] [.STB_STATUS, .STB_REF_STATUS, .STB_REF_EVT] [.stb] (.refPresent k)) ∧
  (∀ p pdu, Leaves [.level] [.STB_STATUS, .STB_REF_STATUS, .STB_REF_EVT] [] (.esmcPdu p pdu)) ∧
  (∀ k, Leaves [.level] [.STB_STATUS, .STB_REF_STATUS, .STB_REF_EVT] [] (.qlTimeout k)) ∧
  (∀ m k v, Leaves [.write, .level] [.STB_STATUS, .STB_REF_CFG, .STB_REF_STATUS,
    .STB_REF_EVT] [] (.qlSrcWrite m k v)) ∧
  (∀ l, Leaves [] [.STB_EVT, .STB_REF_STATUS, .STB_REF_FOFS, .STB_REF_DRIFT, .STB_REF_EVT] [.stb] (.qualWindow l)) ∧
  (∀ k base, Leaves [] [.STB_STATUS, .STB_REF_STATUS, .STB_REF_EVT, .STB_REF_DISQ_CNT] [.stb] (.disq k base)) ∧
  (∀ k, Leaves [] [.STB_STATUS, .STB_REF_STATUS, .STB_REF_EVT] [.stb] (.requalification k)) ∧
  (∀ k, Leaves [] [.STB_STATUS, .STB_REF_STATUS, .STB_REF_EVT] [] (.wtrExpiry k)) ∧
  (Leaves [.fault, .level] [.STB_STATUS, .STB_EVT, .STB_SWITCH_CNT, .STB_HO_SEC, .STB_REF_EVT] [] .selectorTick) ∧
  (∀ m idx, Leaves [.write] [.STB_SEL_CMD] [] (.selManual m idx)) ∧
  (∀ m idx, Leaves [.write] [.STB_SEL_CMD] [] (.selForced m idx)) ∧
  (∀ m idx, Leaves [.write] [.STB_SEL_CMD] [] (.selClear m idx)) ∧
  (Leaves [.fault, .level] [.STB_STATUS, .STB_EVT, .STB_SWITCH_CNT, .STB_HO_SEC, .STB_REF_EVT] [] .holdoffEnd) ∧
  (∀ ofs, Leaves [.fault, .level] [.STB_STATUS, .STB_EVT, .STB_HO_SEC] [] (.buildoutDone ofs)) ∧
  (Leaves [.fault, .level] [.STB_STATUS, .STB_EVT, .STB_HO_SEC] [] .enterLocked) ∧
  (Leaves [.fault, .level] [.STB_STATUS, .STB_EVT, .STB_HO_SEC] [] .enterAcquire) ∧
  (∀ m v, Leaves [.fault, .write, .level] [.STB_CFG, .STB_STATUS, .STB_EVT, .STB_HO_SEC, .STB_REF_STATUS,
    .STB_REF_EVT] [] (.stbMode m v)) ∧
  (∀ m v, Leaves [.fault, .write, .level] [.STB_STATUS, .STB_EVT, .STB_HO_SEC, .STB_FW_BEAT] [] (.fwBeat m v)) ∧
  (Leaves [.fault, .level] [.STB_STATUS, .STB_EVT, .STB_HO_SEC, .STB_REF_STATUS, .STB_REF_FOFS, .STB_REF_DRIFT,
    .STB_REF_EVT, .STB_REF_LOS_CNT] [] .fwLost) ∧
  (Leaves [.fault, .level] [.STB_STATUS, .STB_EVT, .STB_HO_SEC] [] .hoBoundCheck) ∧
  (Leaves [.fault, .level] [.STB_STATUS, .STB_EVT, .STB_HO_SEC] [] .frozenLim) ∧
  (∀ m v, Leaves [.write] [.STB_STATUS, .STB_EVT, .STB_STEER_SRV_LO, .STB_STEER_SRV_HI] [.stb] (.steerSrv m v)) ∧
  (∀ m v, Leaves [.write] [.STB_STATUS, .STB_EVT, .STB_STEER_MAN_LO, .STB_STEER_MAN_HI] [.stb] (.steerMan m v)) ∧
  (∀ start tInt tExt, Leaves [] [.STB_EVT, .STB_MODEL_STATUS] [.stb] (.sample10min start tInt tExt)) ∧
  (∀ start tInt tExt, Leaves [] [.STB_EVT, .STB_MODEL_STATUS] [.stb] (.sample1s start tInt tExt)) ∧
  (Leaves [] [.STB_STATUS, .STB_EVT, .STB_MODEL_STATUS, .STB_PRUNE, .STB_ONSET] [.stb] .pruneDone) ∧
  (∀ p, Leaves [] [] [.stb] (.esmcTx p)) ∧
  (∀ p, Leaves [] [] [.stb] (.eventPdu p)) ∧
  (∀ m, Leaves [.write] [.PMK_STATUS] [] (.pmkStep m)) ∧
  (Leaves [] [.PMK_STATUS, .PMK_EVT] [.pmkTime, .pmk] .stepped) ∧
  (∀ m, Leaves [.write] [.PMK_STATUS] [] (.stepCancel m)) ∧
  (∀ m v, Leaves [.write] [.PMK_STATUS, .PMK_EVT, .PMK_ADJ] [.pmk] (.adj m v)) ∧
  (Leaves [] [.PMK_STATUS, .PMK_EVT] [.pmkTime, .pmk] .adjDone) ∧
  (∀ err, Leaves [] [.PMK_STATUS, .PMK_EVT] [.pmkTime, .stb, .pmk] (.autoStep err)) ∧
  (Leaves [] [.PMK_EVT] [] .secMis) ∧
  (∀ d, Leaves [.fault] [] [.pmk] (.timeFault d)) ∧
  (∀ p taken l, Leaves [] [.PMK_EVT, .PMK_PTP_RX_DROP] [.pmk] (.ptpRx p taken l)) ∧
  (∀ p l, Leaves [] [.PMK_PTP_TX_DROP] [.pmk] (.oneStepSync p l)) ∧
  (Leaves [] [.PMK_STATUS, .PMK_EVT] [.pmk] .ppsOut) ∧
  (Leaves [] [] [.pmk] .todMessage) ∧
  (∀ ok utc, Leaves [] [.PMK_GNSS_ERR_CNT] [.pmk] (.zda ok utc)) ∧
  (∀ c sc, Leaves [.level] [.STB_STATUS, .STB_REF_STATUS, .STB_REF_EVT, .PMK_TT_STATUS, .PMK_TT_EVT, .PMK_TT_ASYM,
    .PMK_TT_BAD_CNT, .PMK_FAR_FREQ, .PMK_FAR_CD] [.pmk] (.timeMessage c sc)) ∧
  (Leaves [] [.PMK_TT_STATUS, .PMK_TT_EVT, .PMK_TT_TAG, .PMK_TT_OFS_LO, .PMK_TT_OFS_HI, .PMK_TT_RTT,
    .PMK_TT_N] [.pmk] .ttLatch) ∧
  (Leaves [] [] [.pmk] .tchFrameTx) ∧
  (∀ x, Leaves [.level] [.STB_STATUS, .STB_REF_STATUS, .STB_REF_EVT, .PMK_EVT, .PMK_TCH_STATUS,
    .PMK_TCH_CRC_CNT] [.pmk] (.tchFrameRx x)) ∧
  (Leaves [] [] [.pccTx] .timePostcard) ∧
  (Leaves [] [] [.pmk] .ppsWidthEnd)

/-- For each command named, whenever exec answers a next state,
  every register is unchanged but those named in its clause (by name, or by a named group of what follows it),
  and every piece of state beside the registers, each memory byte by byte, is unchanged but those named. -/
def Obligations.SideFrames : Prop :=
  (∀ p x y, Leaves [] [.MON_STATUS, .MON_EVT, .MON_LIM_STAT, .MON_PAIR_STATUS, .MON_RESULT, .MON_RES_SEC] [.mon,
    .bins] (.slotDone p x y)) ∧
  (∀ rising, Leaves [] [.MON_STATUS, .MON_EVT, .MON_TRIG_OVR_CNT, .MON_PAIR_STATUS] [.mon, .monSnap, .monFree,
    .bins] (.monTrig rising)) ∧
  (∀ p x y, Leaves [] [.MON_STATUS, .MON_EVT, .MON_PAIR_STATUS, .MON_TRIG_RES, .MON_TRIG_SEC, .MON_TRIG_NS] [.mon,
    .bins] (.trigDone p x y)) ∧
  (∀ m, Leaves [.write] [.MON_STATUS, .MON_EVT, .MON_TRIG_OVR_CNT, .MON_PAIR_STATUS] [.mon, .monSnap, .monFree,
    .bins] (.softTrig m)) ∧
  (Leaves [] [.MON_STATUS, .MON_EVT, .MON_TRIG_OVR_CNT, .MON_PAIR_STATUS] [.mon, .monSnap, .monFree, .monAt,
    .bins] .compatTimer) ∧
  (∀ l, Leaves [] [.MON_EVT, .MON_SNAP, .MON_SNAP_SEC, .MON_SNAP_NS] [.monSnap, .bins] (.snapDone l)) ∧
  (∀ n, Leaves [] [.MON_STATUS, .MON_PAIR_STATUS] [.mon] (.settled n)) ∧
  (∀ p ms x y, Leaves [] [.MON_STATUS, .MON_EVT, .MON_CHK_FAIL_CNT, .MON_PAIR_STATUS] [.mon,
    .bins] (.chkWindow p ms x y)) ∧
  (∀ p x y, Leaves [.fault] [.MON_STATUS, .MON_EVT, .MON_PAIR_STATUS] [.mon, .bins] (.monFault p x y)) ∧
  (∀ m, Leaves [.write] [.MON_STATUS, .MON_EVT, .MON_TRIG_OVR_CNT, .MON_PAIR_STATUS] [.mon, .monSnap, .monFree,
    .bins] (.faultClr m)) ∧
  (∀ b sec ns, Leaves [] [.MON_BIN_MAG, .MON_BIN_PHASE, .MON_BIN_SEC, .MON_BIN_NS, .MON_BIN_MISS,
    .PCC_SLOT_STATUS] [.pccRx, .bins] (.binBlock b sec ns)) ∧
  (∀ m addr v, Leaves [.registers] [] [.fab, .logQ, .logLost, .pccRx, .cfgBad, .mon, .monSnap, .monFree, .monAt,
    .bins, .free] (.monCfgWrite m addr v)) ∧
  (∀ c, Leaves [] [.PCC_TX_STATUS] [.pccTx, .pmk] (.postcardTxStart c)) ∧
  (∀ c, Leaves [] [.PCC_EVT, .PCC_TX_STATUS, .PCC_TX_SENT] [.pccTx] (.txDone c)) ∧
  (∀ m c v, Leaves [.write] [.PCC_STATUS, .PCC_EVT, .PCC_TX_STATUS] [.pccTx] (.txCmd m c v)) ∧
  (∀ c, Leaves [] [.PCC_EVT, .PCC_TX_STATUS, .PCC_TX_EXPIRED_CNT] [.pccTx] (.txExpired c)) ∧
  (∀ c, Leaves [] [] [.pccTx] (.identTimer c)) ∧
  (∀ c, Leaves [] [] [.pccTx] (.qlTimer c)) ∧
  (∀ c, Leaves [] [] [.pccTx] (.defectTimer c)) ∧
  (∀ c, Leaves [] [] [.pccTx] (.srTimer c)) ∧
  (∀ k lvl, Leaves [] [.PCC_SLOT_STATUS] [.pccRx] (.preambleDetection k lvl)) ∧
  (∀ k, Leaves [] [.PCC_SLOT_STATUS, .PCC_FALSE_DET] [] (.falseDet k)) ∧
  (∀ k lvl bits, Leaves [] [.PCC_EVT, .PCC_SLOT_STATUS, .PCC_LOCK_LVL,
    .PCC_PREEMPT_CNT] [.pccRx] (.syncMatch k lvl bits)) ∧
  (∀ k hdr data crc, Leaves [.level] [.PMU_WAKE_SRC, .PMU_DOM, .STB_STATUS, .STB_REF_STATUS, .STB_REF_EVT,
    .PCC_STATUS, .PCC_EVT, .PCC_RX_OVR_CNT, .PCC_SLOT_STATUS, .PCC_PEER, .PCC_FAR_DEF, .PCC_SR_RX, .PCC_LAST_SEQ,
    .PCC_RX_OK, .PCC_CRC_FAIL, .PCC_HDR_BAD, .PCC_DUP, .PCC_SEQ_GAP, .PCC_STALE, .PMK_PC_OFS, .PMK_PC_TAG] [.pccRx,
    .pccFifo, .pmk, .pwr] (.postcardEnd k hdr data crc)) ∧
  (∀ k, Leaves [] [.PCC_SLOT_STATUS] [.pccRx] (.boundTimeout k)) ∧
  (∀ k, Leaves [] [] [.pccRx] (.seqWindowReset k)) ∧
  (∀ m v, Leaves [.write] [.PCC_STATUS] [.pccFifo] (.rxPop m v)) ∧
  (∀ m v, Leaves [.write] [.MON_STATUS, .MON_PAIR_CFG, .MON_PAIR_STATUS, .MON_BIN_CFG, .MON_BIN_FREQ, .PCC_CFG,
    .PCC_STATUS, .PCC_EVT, .PCC_SLOT_STATUS] [.pccRx, .mon, .bins] (.pccCfgWrite m v)) ∧
  (∀ l eq snr, Leaves [] [.HLN_TX_EQ_ACT, .HLN_TRAIN_STATUS, .HLN_RX_STATUS,
    .HLN_LANE_EVT] [] (.trainDone l eq snr)) ∧
  (∀ l, Leaves [] [.HLN_TRAIN_STATUS, .HLN_LANE_EVT] [.retryLane] (.trainFail l)) ∧
  (∀ l, Leaves [] [.HLN_TX_EQ_ACT, .HLN_TRAIN_STATUS, .HLN_LANE_EVT] [.retryLane] (.trainRetry l)) ∧
  (∀ l, Leaves [.count] [.SOF_PORT_STATUS, .SOF_TX_PAUSE_LO, .SOF_TX_PAUSE_HI, .SOF_EVT, .SOF_POOL_STATUS,
    .SOF_FP_W4, .SOF_PATH_DROP_LO, .SOF_PATH_DROP_HI, .SOF_XOFF_CNT_LO, .SOF_XOFF_CNT_HI, .HAY_RET_STATUS,
    .HLN_TX_EQ_ACT, .HLN_TRAIN_STATUS, .HLN_RX_STATUS, .HLN_PRBS_STATUS, .HLN_LANE_EVT] [.flows, .ports, .hay,
    .retryLane] (.cdrLol l)) ∧
  (∀ yard l, Leaves [] [.HLN_PRBS_STATUS, .HLN_LANE_EVT, .YL_PRBS_STATUS] [] (.prbsLock yard l)) ∧
  (∀ yard l errs, Leaves [] [.HLN_PRBS_STATUS, .HLN_PRBS_ERR_LO, .HLN_PRBS_ERR_HI, .HLN_LANE_EVT, .YL_PRBS_STATUS,
    .YL_PRBS_ERR_LO, .YL_PRBS_ERR_HI] [] (.prbsLoss yard l errs)) ∧
  (∀ m yard l v, Leaves [.group, .write] [.HLN_TX_EQ_ACT, .HLN_TRAIN_STATUS, .HLN_PRBS_CFG, .HLN_PRBS_STATUS,
    .HLN_LANE_EVT, .YL_STATUS, .YL_PRBS_CFG, .YL_PRBS_STATUS, .YLN_LINK_STATUS, .YLN_LINK_EVT] [.yardSt, .retryLane,
    .prbsAcc, .prbsInj, .links] (.errInj m yard l v)) ∧
  (∀ m yard l v, Leaves [.group, .write] [.HLN_TX_EQ_ACT, .HLN_TRAIN_STATUS, .HLN_PRBS_CFG, .HLN_PRBS_STATUS,
    .HLN_LANE_EVT, .YL_STATUS, .YL_PRBS_CFG, .YL_PRBS_STATUS, .YLN_LINK_STATUS, .YLN_LINK_EVT] [.yardSt, .retryLane,
    .prbsAcc, .prbsInj, .links] (.genEn m yard l v)) ∧
  (∀ m l v, Leaves [.write] [.HLN_TRAIN_STATUS, .HLN_PRBS_STATUS, .HLN_PRBS_BITS_LO, .HLN_PRBS_BITS_HI,
    .HLN_PRBS_ERR_LO, .HLN_PRBS_ERR_HI, .HLN_FEC_SYM_ERR_LO, .HLN_FEC_SYM_ERR_HI] [] (.laneCntClr m l v)) ∧
  (∀ l fill b, Leaves [.group] [.YL_STATUS, .YLN_UNC_CW, .YLN_BAD_BLK, .YLN_FILL_DEL_LO, .YLN_FILL_DEL_HI,
    .YLN_FILL_INS_LO, .YLN_FILL_INS_HI] [.yardSt, .links] (.yardBlock l fill b)) ∧
  (∀ l h, Leaves [] [.YLN_ID_STATUS, .YLN_ID_EVT, .YLN_IMG_FWD, .YL_STATUS, .YLN_LINK_STATUS,
    .YLN_LINK_EVT] [.links, .boot] (.hello l h)) ∧
  (∀ j, Leaves [.group] [.YL_STATUS, .YLN_LINK_STATUS, .YLN_LINK_EVT] [.yardSt, .links] (.helloLost j)) ∧
  (∀ m v, Leaves [.write] [.YLN_YARD_CFG, .YL_STATUS] [.links] (.runReady m v)) ∧
  (∀ j, Leaves [] [.YL_STATUS, .YLN_LINK_STATUS, .YLN_LINK_EVT] [.links] (.runSwitch j)) ∧
  (∀ l lock, Leaves [.group] [.YL_STATUS, .YLN_LINK_STATUS, .YLN_LINK_EVT] [.yardSt, .links] (.laneFailure l lock)) ∧
  (∀ j, Leaves [] [.YL_STATUS, .YLN_LINK_STATUS, .YLN_LINK_EVT] [.links] (.spareIn j)) ∧
  (∀ m j v, Leaves [.group, .write] [.YL_STATUS, .YLN_LINK_STATUS, .YLN_LINK_EVT] [.yardSt, .links] (.revert m j v)) ∧
  (∀ j seq msg, Leaves [] [.YLN_ID_EVT, .YLN_IMG_FWD] [.links, .imgRx] (.sidebandMessage j seq msg)) ∧
  (∀ j, Leaves [] [.YLN_ID_EVT, .YLN_IMG_FWD] [.links] (.sidebandRepeat j)) ∧
  (∀ j, Leaves [] [.YLN_IMG_FWD] [.links] (.imgWant j)) ∧
  (∀ d, Leaves [] [.YLN_IMG_FWD] [.links] (.imgRestart d)) ∧
  (Leaves [] [] [.imgRx] .imgWaitTimeout) ∧
  (∀ m v, Leaves [.write] [.YLN_RMT_STATUS] [.rmt] (.rmtCmd m v)) ∧
  (∀ m j tx n v, Leaves [.write] [.YLN_LINK_STATUS, .YLN_FWD_TX, .YLN_FWD_RX] [] (.fwdWrite m j tx n v)) ∧
  (∀ gid msn, Leaves [.group] [] [.yardSt] (.statusTimeout gid msn)) ∧
  (∀ l, Leaves [] [.HLN_RX_STATUS] [] (.cdrLock l)) ∧
  (∀ p, Leaves [] [.SOF_PORT_STATUS, .SOF_TX_PAUSE_LO, .SOF_TX_PAUSE_HI] [.ports] (.portUp p)) ∧
  (∀ l, Leaves [.group] [.YL_STATUS, .YLN_LINK_STATUS, .YLN_LINK_EVT] [.yardSt, .links] (.blockLock l)) ∧
  (∀ l tiles frag, Leaves [.count] [] [.links, .yardTx] (.yardBlockTx l tiles frag)) ∧
  (∀ p x y, Leaves [] [.MON_EVT, .MON_LIM_STAT, .MON_LAST, .MON_RESULT, .MON_RES_SEC] [.bins] (.pairOutput p x y))

/-- For each command named, whenever exec answers a next state,
  every register is unchanged but those named in its clause (by name, or by a named group of what follows it),
  and every piece of state beside the registers, each memory byte by byte, is unchanged but those named. -/
def Obligations.ManagementFrames : Prop :=
  (∀ c lane n, Leaves [.count] [.CAX_RX_ILV_STATUS, .CAL_PASS_CNT] [.cal] (.sliceSwap c lane n)) ∧
  (Leaves [.all] [.PMU_EVT, .PMU_DOM, .HAY_STATUS, .HAY_EVT] [] .drainRefused) ∧
  (∀ fore keys rest, Leaves [] [.DEV_BOOT_STATUS, .DEV_CFG_APPLIED, .PMU_PAD_HOLD, .PMU_DOM] [.pwr, .img,
    .boot] (.imgChecked fore keys rest)) ∧
  (∀ d, Leaves [.all] [.PMU_PAD_HOLD, .PMU_DOM, .CAX_RX_ILV_STATUS, .YLN_LINK_STATUS, .YLN_LINK_EVT, .BST_EVT,
    .BST_RES, .PMC_DUMP_CFG] [.asserted, .yardSt, .links, .cal, .bst] (.handshakeAccept d)) ∧
  (∀ d limit, Leaves [.all] [.PMU_EVT, .PMU_DOM, .HAY_STATUS] [] (.hsRefused d limit)) ∧
  (∀ d, Leaves [.all] [.DEV_BOOT_STATUS, .DEV_CFG_APPLIED, .DEV_OPT, .PMU_CFG, .PMU_EVT, .PMU_PAD_HOLD,
    .PMU_WAKE_TBL, .PMU_DOM, .RST_IDLE_TO, .AON_CFG, .AON_SLOW_STATUS, .STB_EVT, .STB_MODEL_STATUS, .STB_REF_STATUS,
    .CAX_TX_CTRL, .CAX_RX_ILV_STATUS, .HAY_CFG, .HAY_STATUS, .HLN_TX_EQ_ACT, .HLN_TRAIN_STATUS, .HLN_LANE_EVT,
    .CAL_STATUS, .CAL_EVT, .PMC_LOG_NEXT, .PMC_LOG_OVR, .SAF_FO_PEND] [.fab, .pmkTime, .pccFifo, .pmk, .monSnap,
    .monFree, .monAt, .pwr, .retryLane, .img, .imgRx, .cal, .boot, .logSeq] (.wakeStep d)) ∧
  (∀ d, Leaves [] [.PMU_DOM] [.pwr] (.wakeRetry d)) ∧
  (∀ addr, Leaves [] [.PMU_WAKE_SRC, .PMU_DOM] [.fab, .pwr] (.twiAddressMatch addr)) ∧
  (Leaves [] [.AON_EVT] [.fab] .twiAon) ∧
  (Leaves [] [.PMU_WAKE_SRC, .PMU_DOM] [.pwr] .wakeN) ∧
  (Leaves [] [.PMU_WAKE_SRC, .PMU_DOM, .AON_TIMER_CTRL, .AON_EVT] [.pwr] .aonTimer) ∧
  (∀ m v, Leaves [.write] [.PMU_PAD_HOLD] [] (.padHold m v)) ∧
  (∀ src, Leaves [.all] [.DEV_BOOT_STATUS, .DEV_CFG_APPLIED, .DEV_OPT, .PMU_CFG, .PMU_PAD_HOLD, .PMU_WAKE_TBL,
    .PMU_DOM, .RST_ACTIVE, .RST_IDLE_TO, .RST_EVT, .AON_CFG, .AON_SLOW_STATUS, .STB_EVT, .STB_MODEL_STATUS,
    .STB_REF_STATUS, .CAX_TX_CTRL, .CAX_RX_ILV_STATUS, .HAY_CFG, .HAY_STATUS, .HLN_TX_EQ_ACT, .HLN_TRAIN_STATUS,
    .HLN_LANE_EVT, .CAL_STATUS, .CAL_EVT, .PMC_LOG_NEXT, .PMC_LOG_OVR, .SAF_FO_PEND] [.fuse, .fab, .pmkTime,
    .asserted, .pccFifo, .pmk, .monSnap, .monFree, .monAt, .pwr, .retryLane, .img, .imgRx, .tack, .cal, .boot,
    .seqLevel, .lcMove, .logSeq] (.resetRelease src)) ∧
  (∀ fore key sig rest, Leaves [] [.DEV_BOOT_STATUS, .DEV_CFG_APPLIED, .PMU_PAD_HOLD, .PMU_DOM] [.pwr, .img,
    .boot] (.imageCheck fore key sig rest)) ∧
  (Leaves [] [.AON_SLOW_STATUS] [] .xtalOk) ∧
  (Leaves [] [.AON_EVT] [] .xtalFail) ∧
  (∀ c lane, Leaves [] [.CAX_RX_ILV_STATUS] [.cal] (.sliceCycle c lane)) ∧
  (∀ c lane ab tap, Leaves [.log] [.CAX_RX_EVT, .CAX_RX_ILV_STATUS, .CAL_EVT, .CAL_DISCARD_CNT,
    .CAL_PASS_CNT] [.cal] (.sliceResult c lane ab tap)) ∧
  (∀ c lane, Leaves [] [] [.cal] (.sliceRamp c lane)) ∧
  (∀ c lane a b, Leaves [.log] [.CAX_TX_SKEW, .CAX_TX_EVT, .CAL_STATUS, .CAL_EVT, .CAL_DAC_DISCARD_CNT] [.cars,
    .cal] (.dacSkewCal c lane a b)) ∧
  (∀ p x y, Leaves [.log] [.CAL_STATUS, .CAL_EVT] [.cal] (.monRefRefresh p x y)) ∧
  (∀ m v, Leaves [.write] [.CAL_EVT, .CAL_RESULT, .CAL_LAST_STORE] [.cal] (.prod m v)) ∧
  (∀ m v, Leaves [.write] [.CAL_EVT, .CAL_RESULT, .CAL_LAST_STORE] [.cal] (.storeNow m v)) ∧
  (∀ c ok, Leaves [] [.CAL_EVT, .CAL_LAST_STORE] [.cal] (.liveStore c ok)) ∧
  (Leaves [] [.CAL_STATUS, .CAL_EVT] [] .calRefLost) ∧
  (∀ m off v, Leaves [.count, .log] [.PMU_EVT, .PMU_ACCESS_ERR, .PMU_ACCESS_ERR_ADDR, .CAL_EVT, .CORE_MPU_FAULT,
    .CORE_MPU_FAULT_INFO] [.fab, .tack, .cal] (.tackRoomWrite m off v)) ∧
  (∀ m off e, Leaves [.count, .log] [.PMU_EVT, .PMU_ACCESS_ERR, .PMU_ACCESS_ERR_ADDR, .CAL_EVT, .CAL_TR_CE,
    .CAL_TR_UE, .CORE_MPU_FAULT, .CORE_MPU_FAULT_INFO] [.fab] (.tackRoomRead m off e)) ∧
  (∀ m v, Leaves [.registers] [] [.cars, .scs, .grps, .fab, .logQ, .logLost, .pmkTime, .asserted, .pccTx, .pccRx,
    .pccFifo, .flows, .delin, .ports, .hay, .cip, .stb, .cfgBad, .pmk, .mon, .monSnap, .monFree, .monAt, .bins,
    .retryLane, .img, .imgRx, .cal, .bst, .boot, .logSeq, .free] (.bstRun m v)) ∧
  (∀ m v, Leaves [.registers] [] [.cars, .scs, .grps, .fab, .logQ, .logLost, .pmkTime, .asserted, .pccTx, .pccRx,
    .pccFifo, .flows, .delin, .ports, .hay, .cip, .stb, .cfgBad, .pmk, .mon, .monSnap, .monFree, .monAt, .bins,
    .retryLane, .img, .imgRx, .cal, .bst, .boot, .logSeq, .free] (.bstFull m v)) ∧
  (∀ m v, Leaves [.registers] [] [.cars, .scs, .grps, .fab, .logQ, .logLost, .pmkTime, .asserted, .pccTx, .pccRx,
    .pccFifo, .flows, .delin, .ports, .hay, .cip, .stb, .cfgBad, .pmk, .mon, .monSnap, .monFree, .monAt, .bins,
    .retryLane, .img, .imgRx, .cal, .bst, .boot, .logSeq, .free] (.bstCancel m v)) ∧
  (∀ m v, Leaves [.registers] [] [.cars, .scs, .grps, .fab, .logQ, .logLost, .pmkTime, .asserted, .pccTx, .pccRx,
    .pccFifo, .flows, .delin, .ports, .hay, .cip, .stb, .cfgBad, .pmk, .mon, .monSnap, .monFree, .monAt, .bins,
    .retryLane, .img, .imgRx, .cal, .bst, .boot, .logSeq, .free] (.bstRelease m v)) ∧
  (∀ t, Leaves [] [.BST_EVT, .BST_RES] [.bst] (.bstExpired t)) ∧
  (∀ m c v, Leaves [.write] [.CORE_WDT_LEFT] [] (.wdtKick m c v)) ∧
  (∀ c addr kind machine, Leaves [.count, .log] [.CORE_MPU_FAULT,
    .CORE_MPU_FAULT_INFO] [] (.accessFault c addr kind machine)) ∧
  (∀ m c r cfg v, Leaves [.write] [.CORE_MPU_BASE, .CORE_MPU_CFG] [] (.mpuWrite m c r cfg v)) ∧
  (∀ m v, Leaves [.write] [.LB_STATUS] [.lbCmd] (.lbInfo m v)) ∧
  (∀ m v, Leaves [.write] [.LB_STATUS] [.lbCmd] (.flashRead m v)) ∧
  (∀ m v, Leaves [.write] [.LB_STATUS] [.lbCmd] (.flashErase m v)) ∧
  (∀ m v, Leaves [.write] [.LB_STATUS] [.lbCmd] (.flashProg m v)) ∧
  (∀ m v, Leaves [.write] [.LB_STATUS] [.lbCmd] (.logRead m v)) ∧
  (∀ m v, Leaves [.write] [.LB_STATUS] [.lbCmd] (.testWindow m v)) ∧
  (∀ m v, Leaves [.write] [.LB_STATUS] [.lbCmd] (.returnAuth m v)) ∧
  (Leaves [] [.PMC_LOG_NEXT, .PMC_LOG_OVR] [.logQ, .logLost, .logAt, .tack, .logSeq] .logDrain) ∧
  (∀ m v, Leaves [.write] [.PMC_CFG, .PMC_SNAP_LO, .PMC_SNAP_HI] [] (.snap m v)) ∧
  (Leaves [] [.PMC_EVT, .PMC_DUMP_PTR, .PMC_DUMP_SEQ, .PMC_DUMP_DROP, .PMC_DUMP_WRAP] [.hay, .hayMem, .ram, .dumpAt,
    .free] .dump) ∧
  (∀ m v, Leaves [.write] [.PMC_DUMP_CFG] [.dumpAt] (.dumpCfgWrite m v)) ∧
  (∀ n gain pc seg, Leaves [.count] [] [] (.ovf n gain pc seg)) ∧
  (∀ m n v, Leaves [.write] [] [] (.ctrLoad m n v)) ∧
  (∀ f k, Leaves [.fault, .level] [] [.plls] (.faultDetected f k)) ∧
  (∀ addr v, Leaves [.registers] [] [.cars, .scs, .grps, .logQ, .logLost, .pccTx, .pccRx, .flows, .delin, .ports,
    .hay, .cip, .stb, .cfgBad, .mon, .bins, .free] (.cfgParityErr addr v)) ∧
  (∀ bad, Leaves [.registers] [] [.cars, .scs, .grps, .logQ, .logLost, .pccTx, .pccRx, .flows, .delin, .ports, .hay,
    .cip, .stb, .cfgBad, .mon, .bins, .free] (.cfgScan bad)) ∧
  (∀ m v, Leaves [.fault, .line, .write, .level] [.STB_STATUS, .STB_REF_STATUS, .STB_REF_FOFS, .STB_REF_DRIFT,
    .STB_REF_EVT, .STB_REF_LOS_CNT, .CAX_CHG_STATUS, .CAX_RX_CD_EST, .CAX_RX_FOFS, .CAX_RX_LOS_CNT, .SAF_CFG_ERR,
    .SAF_WIN_CTRL, .SAF_WIN_STATUS, .SAF_EVT, .SAF_INJ_CFG] [.plls, .pmk, .winEnd, .segBad] (.winOpen m v)) ∧
  (∀ m v, Leaves [.fault, .line, .write, .level] [.STB_STATUS, .STB_REF_STATUS, .STB_REF_FOFS, .STB_REF_DRIFT,
    .STB_REF_EVT, .STB_REF_LOS_CNT, .CAX_CHG_STATUS, .CAX_RX_CD_EST, .CAX_RX_FOFS, .CAX_RX_LOS_CNT, .SAF_CFG_ERR,
    .SAF_WIN_CTRL, .SAF_WIN_STATUS, .SAF_EVT, .SAF_INJ_CFG] [.plls, .pmk, .winEnd, .segBad] (.winClose m v)) ∧
  (Leaves [.fault, .line, .level] [.STB_STATUS, .STB_REF_STATUS, .STB_REF_FOFS, .STB_REF_DRIFT, .STB_REF_EVT,
    .STB_REF_LOS_CNT, .CAX_CHG_STATUS, .CAX_RX_CD_EST, .CAX_RX_FOFS, .CAX_RX_LOS_CNT, .SAF_CFG_ERR, .SAF_WIN_STATUS,
    .SAF_EVT, .SAF_INJ_CFG] [.plls, .pmk, .winEnd, .segBad] .windowExpiry) ∧
  (∀ m k v, Leaves [.fault, .line, .write, .level] [.STB_STATUS, .STB_REF_STATUS, .STB_REF_FOFS, .STB_REF_DRIFT,
    .STB_REF_EVT, .STB_REF_LOS_CNT, .CAX_CHG_STATUS, .CAX_RX_CD_EST, .CAX_RX_FOFS, .CAX_RX_LOS_CNT, .SAF_CFG_ERR,
    .SAF_EVT, .SAF_INJ_CFG] [.plls, .pmk, .injAt, .segBad] (.injCfgWrite m k v)) ∧
  (∀ k, Leaves [.fault, .line, .level] [.STB_STATUS, .STB_REF_STATUS, .STB_REF_FOFS, .STB_REF_DRIFT, .STB_REF_EVT,
    .STB_REF_LOS_CNT, .CAX_CHG_STATUS, .CAX_RX_CD_EST, .CAX_RX_FOFS, .CAX_RX_LOS_CNT, .SAF_CFG_ERR, .SAF_EVT,
    .SAF_INJ_CFG] [.plls, .pmk, .segBad] (.injEnd k)) ∧
  (Leaves [] [] [.fab] .spiStatus) ∧
  (∀ fast, Leaves [] [.CAL_STATUS] [] (.calRefInPresent fast)) ∧
  (∀ vrefOk agree x, Leaves [] [.CAX_TX_SKEW, .CAX_TX_EVT, .CAL_STATUS, .CAL_EVT, .CAL_RESULT] [.cars,
    .cal] (.prodDone vrefOk agree x))

/-- For each command named, which may reach any register, whenever exec answers a next state,
  the pieces of state named in its clause are unchanged. -/
def Obligations.WideFrames : Prop :=
  (∀ c, Keeps [.fuse, .us] (.txPreCopyDone c)) ∧
  (∀ ans, Keeps [.fuse, .us] (.rmtDone ans)) ∧
  (∀ m d v, Keeps [.fuse, .logAt, .prbsAcc, .prbsInj, .img, .tack, .boot, .seqLevel, .lcMove, .lcAuth, .logSeq,
    .dumpAt, .us] (.domReq m d v)) ∧
  (∀ d, Keeps [.fuse, .fab, .logAt, .prbsAcc, .prbsInj, .img, .tack, .boot, .seqLevel, .lcMove, .lcAuth, .logSeq,
    .dumpAt, .us] (.shutdownDone d)) ∧
  (∀ d, Keeps [.fuse, .fab, .logAt, .prbsAcc, .prbsInj, .img, .tack, .seqLevel, .lcMove, .lcAuth, .logSeq, .dumpAt,
    .us] (.wakeFail d)) ∧
  (∀ rail, Keeps [.fuse, .tack, .lcMove, .logSeq, .us] (.pgFall rail)) ∧
  (∀ src dom page, Keeps [.fuse, .tack, .lcMove, .logSeq, .us] (.resetAssert src dom page)) ∧
  (∀ src, Keeps [.fuse, .tack, .lcMove, .logSeq, .us] (.idleTimeout src)) ∧
  (∀ m v, Keeps [.fuse, .tack, .lcMove, .us] (.swChip m v)) ∧
  (∀ m v, Keeps [.fuse, .tack, .lcMove, .us] (.swCore m v)) ∧
  (∀ m v, Keeps [.fuse, .tack, .lcMove, .us] (.swDomain m v)) ∧
  (∀ m v, Keeps [.fuse, .tack, .lcMove, .us] (.swBlock m v)) ∧
  (∀ m v, Keeps [.fuse, .tack, .lcMove, .us] (.swRelease m v)) ∧
  (∀ m v, Keeps [.fuse, .tack, .lcMove, .logSeq, .us] (.hostRst m v)) ∧
  (∀ m v, Keeps [.fuse, .tack, .logSeq, .us] (.lcCmd m v)) ∧
  (∀ m write addr, Keeps [.fuse, .us] (.accessErr m write addr)) ∧
  (Keeps [.fuse, .tack, .lcMove, .logSeq, .us] .testAdmit) ∧
  (∀ t e detail, Keeps [.fuse, .logAt, .prbsAcc, .prbsInj, .tack, .seqLevel, .lcMove, .lcAuth, .dumpAt,
    .us] (.testDone t e detail)) ∧
  (∀ c, Keeps [.fuse, .tack, .lcMove, .logSeq, .us] (.wdtExpiry c)) ∧
  (∀ e, Keeps [.fuse, .tack, .logSeq, .us] (.lbDone e)) ∧
  (∀ m write addr size, Keeps [.fuse, .us] (.decodeErr m write addr size)) ∧
  (∀ m addr v, Keeps [.fuse, .us] (.aliasWrite m addr v)) ∧
  (∀ m addr, Keeps [.fuse, .us] (.aliasRead m addr)) ∧
  (∀ addr ws, Keeps [.fuse, .us] (.spiWrite addr ws)) ∧
  (∀ addr n, Keeps [.fuse, .us] (.spiRead addr n)) ∧
  (∀ bytes, Keeps [.fuse, .us] (.twiWrite bytes)) ∧
  (∀ addr n, Keeps [.fuse, .us] (.twiRead addr n)) ∧
  (∀ m addr size, Keeps [.fuse, .us] (.rcRead m addr size)) ∧
  (∀ m addr v, Keeps [.fuse, .us] (.registerWrite m addr v))

/-- For each event named and each of its registers listed: whenever exec answers a next state,
  the same register of every other instance (carrier, subcarrier, group, port, slot, lane, bin, link,
  domain) reads as before. -/
def Obligations.InstanceFrames : Prop :=
  (∀ c, Only [.CAX_CHG_STATUS, .CAX_LINE_EVT] c (.chgDone c)) ∧
  (∀ c, Only [.CAX_CHG_STATUS, .CAX_LINE_EVT] c (.holdTimeout c)) ∧
  (∀ c, Only [.CAX_TX_STATUS, .CAX_TX_EVT] c (.serviceEntered c)) ∧
  (∀ c lane, Only [.CAX_TX_SKEW] c (.skewRamp c lane)) ∧
  (∀ x, Only [.CAX_RX_EVT] x.car (.fofsRange x)) ∧
  (∀ c meas, Only [.CAX_RX_SHAPE, .CAX_RX_EVT] c (.boostMismatch c meas)) ∧
  (∀ c, Only [.CAX_RX_STATUS] c (.storeExpired c)) ∧
  (∀ c, Only [.CAX_RX_CD_EST] c (.cdFine c)) ∧
  (∀ sc, Only [.SCX_RX_STATUS, .SCX_RX_EVT] sc (.degSet sc)) ∧
  (∀ sc, Only [.SCX_RX_STATUS, .SCX_RX_EVT] sc (.degClear sc)) ∧
  (∀ sc rate, Only [.SCX_RX_EVT] sc (.sopTransient sc rate)) ∧
  (∀ sc, Only [.SCX_FEC_STATUS, .SCX_FEC_EVT] sc (.prefecDegSet sc)) ∧
  (∀ sc, Only [.SCX_FEC_STATUS, .SCX_FEC_EVT] sc (.prefecDegClear sc)) ∧
  (∀ sc pos errs, Only [.LFM_SC_STATUS] sc (.hypothesisCheck sc pos errs)) ∧
  (∀ g, Only [.LFM_GRP_STATUS, .LFM_GRP_EVT] g (.grpUp g)) ∧
  (∀ p, Only [.SOF_TX_PAUSE_LO, .SOF_TX_PAUSE_HI] p (.pauseRefresh p)) ∧
  (∀ p prio, Only [.SOF_PORT_STATUS] p (.pauseExpiry p prio)) ∧
  (∀ p pfc en quanta, Only [.SOF_PORT_STATUS, .SOF_RX_OK_LO, .SOF_RX_OK_HI, .SOF_RX_PAUSE_LO,
    .SOF_RX_PAUSE_HI] p (.pauseReceived p pfc en quanta)) ∧
  (∀ g, Only [.SOF_GRP_TXHOLD] g (.grpHoldEnd g)) ∧
  (∀ p, Only [.SOF_PORT_STATUS, .SOF_TX_PAUSE_LO, .SOF_TX_PAUSE_HI] p (.portUp p)) ∧
  (∀ c, Only [.PCC_TX_STATUS, .PCC_TX_SENT] c (.txDone c)) ∧
  (∀ c, Only [.PCC_TX_STATUS, .PCC_TX_EXPIRED_CNT] c (.txExpired c)) ∧
  (∀ k lvl, Only [.PCC_SLOT_STATUS] k (.preambleDetection k lvl)) ∧
  (∀ k, Only [.PCC_SLOT_STATUS] k (.boundTimeout k)) ∧
  (∀ l eq snr, Only [.HLN_TX_EQ_ACT, .HLN_TRAIN_STATUS, .HLN_RX_STATUS, .HLN_LANE_EVT] l (.trainDone l eq snr)) ∧
  (∀ l, Only [.HLN_TRAIN_STATUS, .HLN_LANE_EVT] l (.trainFail l)) ∧
  (∀ l, Only [.HLN_RX_STATUS] l (.cdrLock l)) ∧
  (∀ n, Only [.MON_PAIR_STATUS] (n / 2) (.settled n)) ∧
  (∀ b sec ns, Only [.MON_BIN_MAG, .MON_BIN_PHASE, .MON_BIN_SEC, .MON_BIN_NS, .MON_BIN_MISS] b (.binBlock b sec ns)) ∧
  (∀ j, Only [.YLN_IMG_FWD] (j + 1) (.imgWant j)) ∧
  (∀ d, Only [.YLN_IMG_FWD] d (.imgRestart d)) ∧
  (∀ t, Only [.BST_RES] t (.bstExpired t)) ∧
  (∀ c ok, Only [.CAL_LAST_STORE] c (.liveStore c ok)) ∧
  (∀ d, Only [.PMU_DOM] d (.wakeRetry d))

/-- Whenever exec answers a next state: TACK_ROOM_WRITE changes only the 64-bit word that holds its address,
  and nothing where the word is a LO half or refused; LOG_DRAIN only the 64 bytes of the entry; REGISTER_WRITE into
  an SRAM only its four bytes; DUMP only its ring, in the SRAM or in the capture area; APERTURE_WRITE with room in
  the merge buffer only its four bytes as read through the buffer; MERGE_WRITE_BACK only the bytes its entry holds;
  of HAY_ACCESS_DONE a flow's or a deskew write only its line, a descriptor's write and a deskew read no byte,
  a capture write only the capture area; the writes of CAP_CFG only the capture area. -/
def Obligations.MemoryStores : Prop :=
  (∀ s t m off v, exec (.tackRoomWrite m off v) s = .next t → ∀ x,
    x < s.trAddr off / 8 * 8 ∨ s.trAddr off / 8 * 8 + 8 ≤ x → t.tack.get 0 x = s.tack.get 0 x) ∧
  (∀ s t m off v, exec (.tackRoomWrite m off v) s = .next t →
    s.trAddr off % 8 < 4 ∨ s.tackAccepts m (s.trAddr off) = false → t.tack = s.tack) ∧
  (∀ s t , exec (.logDrain) s = .next t → ∀ x, x < 0x10000 + 64 * (s.logSeq % 4096) ∨ 0x10000 + 64 * (s.logSeq %
    4096) + 64 ≤ x → t.tack.get 0 x = s.tack.get 0 x) ∧
  (∀ s t m a c v, exec (.registerWrite m a v) s = .next t → target (a % 2 ^ 32 / 4 * 4) = .ram c → t.tack = s.tack ∧
    t.hayMem = s.hayMem ∧ ∀ x, x < a % 2 ^ 32 / 4 * 4 ∨ a % 2 ^ 32 / 4 * 4 + 4 ≤ x → t.ram.get 0 x = s.ram.get 0 x) ∧
  (∀ s t , exec (.dump) s = .next t → s.flag F.PMC_DUMP_CFG_DEST = false → t.hayMem = s.hayMem ∧ ∀ x,
    x < 0x01100000 + s.rdN (R .PMC_DUMP_BASE) ∨ 0x01100000 + s.rdN (R .PMC_DUMP_BASE) + s.dumpSize ≤ x →
    t.ram.get 0 x = s.ram.get 0 x) ∧
  (∀ s t , exec (.dump) s = .next t → s.Inv → s.flag F.PMC_DUMP_CFG_DEST = true → t.ram = s.ram ∧ ∀ x,
    x < s.capBase + s.rdN (R .PMC_DUMP_BASE) ∨ s.capBase + s.rdN (R .PMC_DUMP_BASE) + s.dumpSize ≤ x →
    t.hayByte x = s.hayByte x) ∧
  (∀ s t m off v, exec (.apertureWrite m off v) s = .next t → s.hay.merge.length < 256 → (∀ y ∈ s.hay.merge,
    y.line = s.aptPhys off / 64 → y.bytes.length < 60) → t.hayMem = s.hayMem ∧ ∀ x,
    x < s.aptPhys off / 4 * 4 ∨ s.aptPhys off / 4 * 4 + 4 ≤ x → t.hayByte x = s.hayByte x) ∧
  (∀ s t line e y, exec (.mergeWriteBack line e) s = .next t → s.hay.merge.find? (fun y => y.line = line) = some y →
    s.blockOpen (line / 1024) = true → ∀ x, (∀ b ∈ y.bytes, x ≠ 64 * y.line + b.1) →
    t.hayMem.get 0 x = s.hayMem.get 0 x) ∧
  (∀ s t a, exec (.hayAccessDone a) s = .next t → s.readUp = true → (∃ f, a.use = .flowWrite f) ∨ (∃ g d,
    a.use = .deskewWrite g d) → ∀ x, x < 64 * a.line ∨ 64 * a.line + 64 ≤ x → t.hayByte x = s.hayByte x) ∧
  (∀ s t a, exec (.hayAccessDone a) s = .next t → s.readUp = true → (∃ f p b, a.use = .descrWrite f p b) ∨ (∃ g,
    a.use = .deskewRead g) → ∀ x, t.hayByte x = s.hayByte x) ∧
  (∀ s t a, exec (.hayAccessDone a) s = .next t → s.readUp = true → a.use = .capWrite → 0 < s.capBytes → ∀ x,
    s.inCap x = false → t.hayByte x = s.hayByte x) ∧
  (∀ s t m v, exec (.capCfgWrite m v) s = .next t → ∀ x, s.inCap x = false → t.hayMem.get 0 x = s.hayMem.get 0 x) ∧
  (∀ s t m v, exec (.capClr m v) s = .next t → ∀ x, s.inCap x = false → t.hayMem.get 0 x = s.hayMem.get 0 x)

/-- FAULT_N is low exactly when the MGMT bit of CFG_APPLIED is 0,
  or some fault with its FAULT reaction set is in FAULT_STATUS or FAULT_EVT and not suppressed,
  or a domain has EXHAUSTED set; and the three fields of SAF.FAULT_CAUSE read 1 exactly for those of the three that
  hold. -/
def Obligations.FaultPin : Prop :=
  (∀ s : State, s.faultLow = true ↔ bitOf (s.rd (R .DEV_CFG_APPLIED)) 1 = false ∨ (∃ f, f < 10 ∧
    s.flag F.SAF_REACT_FAULT f = true ∧ (s.faultLevel f = true ∨ bitOf (s.rd (R .SAF_FAULT_EVT)) f = true) ∧
    s.noReact f = false) ∨ ∃ d, d < 14 ∧ s.flag F.PMU_DOM_EXHAUSTED d = true) ∧
  (∀ (s : State) (m : Master), (F.SAF_FAULT_CAUSE_NOT_CONFIGURED.get (s.view m (R .SAF_FAULT_CAUSE)) = 1 ↔ bitOf
    (s.rd (R .DEV_CFG_APPLIED)) 1 = false) ∧ (F.SAF_FAULT_CAUSE_REACTION.get (s.view m (R .SAF_FAULT_CAUSE)) = 1 ↔
    s.reacts F.SAF_REACT_FAULT = true) ∧ (F.SAF_FAULT_CAUSE_WAKE.get (s.view m (R .SAF_FAULT_CAUSE)) = 1 ↔ ∃ d,
    d < 14 ∧ s.flag F.PMU_DOM_EXHAUSTED d = true))

/-- An alias read with a selected instance is the direct read of the lowest one; an RC register is cleared in that
  instance alone; a read of a LO word captures that instance's HI words; with its domain not ON the read returns
  0x0FF00FF0 and no higher instance is read. -/
def Obligations.AliasReadIsOneDirectRead : Prop :=
  (∀ s m addr i k all n l, s.canIssue m = true → s.holdsBack m = false → addr < 2 ^ 32 → addr % 4 = 0 →
    target addr = .set i k all → s.denied m addr 0 = false → s.selected i all = n :: l →
    Completes (.aliasRead m addr) s fun t => t = s.readReg m ⟨k.id, n, k.j⟩ ∧ n < s.setSize i ∧ ∀ x ∈ l, n < x) ∧
  (∀ s m addr i k all n l, s.canIssue m = true → s.holdsBack m = false → addr < 2 ^ 32 → addr % 4 = 0 →
    target addr = .set i k all → s.denied m addr 0 = false → s.selected i all = n :: l → s.regOn ⟨k.id, n,
    k.j⟩ = true → k.id.info.rc ≠ 0 → Completes (.aliasRead m addr) s fun t => t.rd ⟨k.id, n, k.j⟩ = s.rd ⟨k.id, n,
    k.j⟩ &&& ~~~k.id.info.rc &&& k.mask ∧ ∀ x, x ≠ n → t.rd ⟨k.id, x, k.j⟩ = s.rd ⟨k.id, x, k.j⟩) ∧
  (∀ s m addr i k all n l, s.canIssue m = true → s.holdsBack m = false → addr < 2 ^ 32 → addr % 4 = 0 →
    target addr = .set i k all → s.denied m addr 0 = false → s.selected i all = n :: l → s.regOn ⟨k.id, n,
    k.j⟩ = true → upper k.id ≠ [] → Completes (.aliasRead m addr) s fun t => t.fab.cap.get [] (masterCode m) =
    (upper k.id).map fun h => (⟨h, n, k.j⟩, s.view m ⟨h, n, k.j⟩ &&& RegKey.mask ⟨h, n, k.j⟩)) ∧
  (∀ s m addr i k all n l, s.canIssue m = true → s.holdsBack m = false → addr < 2 ^ 32 → addr % 4 = 0 →
    target addr = .set i k all → s.denied m addr 0 = false → s.selected i all = n :: l → s.regOn ⟨k.id, n,
    k.j⟩ = false → Completes (.aliasRead m addr) s fun t => t.fab.rdata.get 0 (masterCode m) = 0x0FF00FF0 ∧ ∀ x,
    t.rd ⟨k.id, x, k.j⟩ = s.rd ⟨k.id, x, k.j⟩)

/-- A header whose fields are in range, laid out with its CRC in 48 bits,
  is read back from those bits; coded overhead laid out in its 16 bytes is read back whatever the time message
  bytes; and a frame record's header with its HEC is valid and gives the frame's length,
  for every length from 64 to 9,248. -/
def Obligations.LineWordsRoundTrip : Prop :=
  (∀ h : Header, h.fn < 256 → h.count < 32 → h.desc < 256 → h.scid < 8 → headerOf (headerBits h) = some h) ∧
  (∀ o : Overhead, o.rdiMap < 256 → o.jc < 2048 → o.sr < 65536 → (overheadBytes o).length = 16 ∧
    overheadOf (overheadBytes o) = o) ∧
  (∀ len : Nat, 64 ≤ len → len ≤ 9248 → recOk (recordHeader len 1).toNat = true ∧
    (recordHeader len 1).toNat / 2 ^ 18 = len)

/-- For every state, subcarrier, polarisation, header, overhead and payload: the symbol at every 32nd index is the pilot
  of that number at the boost in force; the first 48 other symbols are the alignment word, the guard and the header,
  unshaped; a payload byte of a slot without bytes is 0,
  and an unmapped slot has none; and every word of a DAC lane lies from -128 to 127. -/
def Obligations.TransmittedSymbols : Prop :=
  (∀ (s : State) (i pad : Nat) (y : Bool) (h : Header) (o : Overhead) (pay : Nat → List Byte) (j : Nat), j < 256 →
    (s.symbols i pad y h o pay)[32 * j]? = some (qpsk (Config.level 1 (s.pilotBoost (i / 8))) (pilotBits y (i % 8)
    j))) ∧
  (∀ (s : State) (i pad : Nat) (y : Bool) (h : Header) (o : Overhead) (pay : Nat → List Byte) (n : Nat), n < 48 →
    (s.symbols i pad y h o pay)[n + n / 31 + 1]? = (knownSymbols y h)[n]?.map (qpsk (Config.level 0 0))) ∧
  (∀ (n wf b : Nat) (slot : Nat → List Byte), b < n * wf → slot (b % n) = [] → (payload n wf slot)[b]? = some 0) ∧
  (∀ (s : State) (i e : Nat) (pay : Nat → List Byte), mapValid ((s.sc i).mapTx.getD e 0) = false →
    s.slotOut i pay e = []) ∧
  (∀ (s : State) (c l k : Nat) (v : List Int), -128 ≤ (s.dacWords c l v).getD k 0 ∧
    (s.dacWords c l v).getD k 0 ≤ 127)

end Statements
end

