-- ==== Sys2Proof/Laws/Tab.lean ====
section
/-! SUPPORT. The laws of the canonical tables: a read after a write, and that every operation keeps the canonical form. -/

namespace Sys2Proof.Machine

variable {κ α : Type} [DecidableEq κ] [DecidableEq α]

set_option linter.unusedSectionVars false

/-! ## A read after a write -/

theorem Tab.look_erase_same (k : κ) (t : List (κ × α)) : Tab.look k (Tab.erase k t) = none := by
  induction t with
  | nil => rfl
  | cons e t ih => obtain ⟨a, v⟩ := e; by_cases h : a = k <;> simp [Tab.erase, Tab.look, h, ih]

theorem Tab.look_erase_ne {k k' : κ} (h : k' ≠ k) (t : List (κ × α)) :
    Tab.look k' (Tab.erase k t) = Tab.look k' t := by
  induction t with
  | nil => rfl
  | cons e t ih =>
    obtain ⟨a, v⟩ := e
    by_cases ha : a = k
    · have : a ≠ k' := by rintro rfl; exact h ha
      simp [Tab.erase, Tab.look, ha, ih, Ne.symm h]
    · simp [Tab.erase, Tab.look, ha, ih]

theorem Tab.look_ins_same (lt : κ → κ → Bool) (k : κ) (v : α) (t : List (κ × α)) (h : Tab.look k t = none) :
    Tab.look k (Tab.ins lt k v t) = some v := by
  induction t with
  | nil => simp [Tab.ins, Tab.look]
  | cons e t ih =>
    obtain ⟨a, w⟩ := e
    by_cases ha : a = k
    · simp [Tab.look, ha] at h
    · simp only [Tab.look, ha, if_false] at h
      by_cases hl : lt k a <;> simp [Tab.ins, Tab.look, hl, ha, ih h]

theorem Tab.look_ins_ne (lt : κ → κ → Bool) {k k' : κ} (h : k' ≠ k) (v : α) (t : List (κ × α)) :
    Tab.look k' (Tab.ins lt k v t) = Tab.look k' t := by
  induction t with
  | nil => simp [Tab.ins, Tab.look, Ne.symm h]
  | cons e t ih =>
    obtain ⟨a, w⟩ := e
    by_cases hl : lt k a
    · simp [Tab.ins, hl, Tab.look, Ne.symm h]
    · simp [Tab.ins, hl, Tab.look, ih]

/-- A read of the key just written gives the value written. -/
@[simp] theorem Tab.get_set_same (lt : κ → κ → Bool) (d : α) (k : κ) (v : α) (t : List (κ × α)) :
    Tab.get d k (Tab.set lt d k v t) = v := by
  unfold Tab.get Tab.set
  split
  · simp [Tab.look_erase_same, *]
  · simp [Tab.look_ins_same lt k v _ (Tab.look_erase_same k t)]

/-- A write leaves every other key alone. -/
theorem Tab.get_set_ne (lt : κ → κ → Bool) (d d' : α) {k k' : κ} (h : k' ≠ k) (v : α) (t : List (κ × α)) :
    Tab.get d' k' (Tab.set lt d k v t) = Tab.get d' k' t := by
  unfold Tab.get Tab.set
  split
  · rw [Tab.look_erase_ne h]
  · rw [Tab.look_ins_ne lt h, Tab.look_erase_ne h]

@[simp] theorem Tab.get_nil (d : α) (k : κ) : Tab.get d k ([] : List (κ × α)) = d := rfl

/-! ## The canonical form -/

/-- A strict linear order, as the tables need it. -/
structure Tab.Ord (lt : κ → κ → Bool) : Prop where
  trans : ∀ a b c, lt a b = true → lt b c = true → lt a c = true
  tri : ∀ a b, lt a b = false → a ≠ b → lt b a = true

theorem Tab.above_trans {lt : κ → κ → Bool} (o : Tab.Ord lt) {a b : κ} (h : lt a b = true) {t : List (κ × α)}
    (hb : Tab.above lt b t = true) : Tab.above lt a t = true := by
  simp only [Tab.above, List.all_eq_true] at *
  exact fun e he => o.trans _ _ _ h (hb e he)

theorem Tab.above_erase {lt : κ → κ → Bool} (k : κ) {a : κ} {t : List (κ × α)} (h : Tab.above lt a t = true) :
    Tab.above lt a (Tab.erase k t) = true := by
  induction t with
  | nil => rfl
  | cons e t ih =>
    obtain ⟨b, v⟩ := e
    simp only [Tab.above, List.all_cons, Bool.and_eq_true] at h
    by_cases hb : b = k
    · simpa [Tab.erase, hb] using ih h.2
    · simp only [Tab.erase, hb, if_false, Tab.above, List.all_cons, Bool.and_eq_true]
      exact ⟨h.1, ih h.2⟩

theorem Tab.wf_erase {lt : κ → κ → Bool} {d : κ → α} (k : κ) {t : List (κ × α)} (h : Tab.wf lt d t = true) :
    Tab.wf lt d (Tab.erase k t) = true := by
  induction t with
  | nil => rfl
  | cons e t ih =>
    obtain ⟨b, v⟩ := e
    simp only [Tab.wf, Bool.and_eq_true] at h
    by_cases hb : b = k
    · simpa [Tab.erase, hb] using ih h.2
    · simp only [Tab.erase, hb, if_false, Tab.wf, Bool.and_eq_true]
      exact ⟨⟨Tab.above_erase k h.1.1, h.1.2⟩, ih h.2⟩

theorem Tab.above_ins {lt : κ → κ → Bool} {a k : κ} (v : α) {t : List (κ × α)} (hk : lt a k = true)
    (h : Tab.above lt a t = true) : Tab.above lt a (Tab.ins lt k v t) = true := by
  induction t with
  | nil => simp [Tab.ins, Tab.above, hk]
  | cons e t ih =>
    obtain ⟨b, w⟩ := e
    simp only [Tab.above, List.all_cons, Bool.and_eq_true] at h
    by_cases hl : lt k b
    · simpa [Tab.ins, hl, Tab.above, hk, h.1] using h.2
    · have := ih h.2
      simp only [Tab.above] at this
      simp [Tab.ins, hl, Tab.above, h.1, this]

theorem Tab.wf_ins {lt : κ → κ → Bool} (o : Tab.Ord lt) {d : κ → α} {k : κ} {v : α} (hv : v ≠ d k) {t : List (κ × α)}
    (hn : Tab.look k t = none) (h : Tab.wf lt d t = true) : Tab.wf lt d (Tab.ins lt k v t) = true := by
  induction t with
  | nil => simp [Tab.ins, Tab.wf, Tab.above, hv]
  | cons e t ih =>
    obtain ⟨b, w⟩ := e
    simp only [Tab.wf, Bool.and_eq_true] at h
    by_cases hb : b = k
    · simp [Tab.look, hb] at hn
    · simp only [Tab.look, hb, if_false] at hn
      by_cases hl : lt k b
      · have ha := Tab.above_trans o hl h.1.1
        have ha' : Tab.above lt k ((b, w) :: t) = true := by
          simp only [Tab.above, List.all_cons, Bool.and_eq_true] at ha ⊢
          exact ⟨hl, ha⟩
        rw [Tab.ins, if_pos hl]
        simp only [Tab.wf, Bool.and_eq_true]
        exact ⟨⟨ha', by simpa using hv⟩, ⟨h.1, h.2⟩⟩
      · rw [Tab.ins, if_neg hl]
        simp only [Tab.wf, Bool.and_eq_true]
        exact ⟨⟨Tab.above_ins v (o.tri _ _ (by simpa using hl) (Ne.symm hb)) h.1.1, h.1.2⟩, ih hn h.2⟩

/-- A write keeps the canonical form. -/
theorem Tab.wf_set {lt : κ → κ → Bool} (o : Tab.Ord lt) {d : κ → α} (k : κ) (v : α) {t : List (κ × α)}
    (h : Tab.wf lt d t = true) : Tab.wf lt d (Tab.set lt (d k) k v t) = true := by
  unfold Tab.set
  split
  · exact Tab.wf_erase k h
  · exact Tab.wf_ins o ‹_› (Tab.look_erase_same k t) (Tab.wf_erase k h)

/-- A part of a canonical table is canonical. -/
theorem Tab.wf_filter {lt : κ → κ → Bool} {d : κ → α} (p : κ × α → Bool) {t : List (κ × α)} (h : Tab.wf lt d t = true) :
    Tab.wf lt d (t.filter p) = true := by
  induction t with
  | nil => rfl
  | cons e t ih =>
    obtain ⟨b, v⟩ := e
    simp only [Tab.wf, Bool.and_eq_true] at h
    by_cases hp : p (b, v) = true
    · rw [List.filter_cons_of_pos hp]
      simp only [Tab.wf, Bool.and_eq_true]
      refine ⟨⟨?_, h.1.2⟩, ih h.2⟩
      simp only [Tab.above, List.all_eq_true] at h ⊢
      exact fun e he => h.1.1 e (List.mem_filter.1 he).1
    · rw [List.filter_cons_of_neg hp]
      exact ih h.2

/-! ## Tables keyed by a number -/

theorem natLt_ord : Tab.Ord natLt :=
  ⟨fun a b c => by simp only [natLt, decide_eq_true_eq]; omega,
   fun a b => by simp only [natLt, decide_eq_false_iff_not, decide_eq_true_eq]; omega⟩

@[simp] theorem NTab.get_set_same (d : α) (t : NTab α) (k : Nat) (v : α) : NTab.get d (NTab.set d t k v) k = v :=
  Tab.get_set_same ..

theorem NTab.get_set_ne (d : α) (t : NTab α) {k k' : Nat} (h : k' ≠ k) (v : α) :
    NTab.get d (NTab.set d t k v) k' = NTab.get d t k' := Tab.get_set_ne _ _ _ h _ _

@[simp] theorem NTab.get_mod_same (d : α) (t : NTab α) (k : Nat) (f : α → α) :
    NTab.get d (NTab.mod d t k f) k = f (NTab.get d t k) := NTab.get_set_same ..

theorem NTab.get_mod_ne (d : α) (t : NTab α) {k k' : Nat} (h : k' ≠ k) (f : α → α) :
    NTab.get d (NTab.mod d t k f) k' = NTab.get d t k' := NTab.get_set_ne _ _ h _

@[simp] theorem NTab.get_nil (d : α) (k : Nat) : NTab.get d ([] : NTab α) k = d := rfl

/-- A write keeps a numbered table's canonical form. -/
theorem NTab.wf_set {d : α} {t : NTab α} (k : Nat) (v : α) (h : Tab.wf natLt (fun _ => d) t = true) :
    Tab.wf natLt (fun _ => d) (NTab.set d t k v) = true := Tab.wf_set natLt_ord k v h

end Sys2Proof.Machine
end

