-- ==== Sys2Proof/Laws/State.lean ====
section
/-! SUPPORT. The laws of the register file: a read after a write, fields, and the order of its keys. -/

namespace Sys2Proof.Machine

/-! ## The order of the keys -/

theorem RegId.ctorIdx_inj {a b : RegId} (h : a.ctorIdx = b.ctorIdx) : a = b := by
  rw [← RegId.ofNat_ctorIdx a, ← RegId.ofNat_ctorIdx b, h]

theorem RegKey.lt_iff (a b : RegKey) : RegKey.lt a b = true ↔
    a.id.ctorIdx < b.id.ctorIdx ∨ (a.id.ctorIdx = b.id.ctorIdx ∧ (a.i < b.i ∨ (a.i = b.i ∧ a.j < b.j))) := by
  unfold RegKey.lt
  split
  · split <;> simp only [decide_eq_true_eq] <;> omega
  · simp only [decide_eq_true_eq]; omega

theorem RegKey.lt_ord : Tab.Ord RegKey.lt := by
  constructor
  · intro a b c h h'
    rw [RegKey.lt_iff] at *
    omega
  · intro a b h hne
    rw [← Bool.not_eq_true, RegKey.lt_iff] at h
    rw [RegKey.lt_iff]
    have : ¬(a.id.ctorIdx = b.id.ctorIdx ∧ a.i = b.i ∧ a.j = b.j) := by
      rintro ⟨h1, h2, h3⟩
      apply hne
      cases a; cases b
      simp only at h1 h2 h3
      simp [RegId.ctorIdx_inj h1, h2, h3]
    omega

/-! ## A read after a write -/

/-- A register holds what was written, its reserved bits 0. -/
@[simp] theorem State.rd_wr_same (s : State) (k : RegKey) (v : W32) : (s.wr k v).rd k = v &&& k.mask :=
  Tab.get_set_same ..

/-- A write leaves every other register alone. -/
theorem State.rd_wr_ne (s : State) {k k' : RegKey} (h : k' ≠ k) (v : W32) : (s.wr k v).rd k' = s.rd k' :=
  Tab.get_set_ne _ _ _ h _ _

/-- A write of another register's name. -/
theorem State.rd_wr_id (s : State) {k k' : RegKey} (h : k'.id ≠ k.id) (v : W32) : (s.wr k v).rd k' = s.rd k' :=
  s.rd_wr_ne (fun e => h (congrArg RegKey.id e)) v

/-! ## Fields -/

theorem Fld.mask_toNat (f : Fld) (h : f.lo + f.len ≤ 32) : f.mask.toNat = (2 ^ f.len - 1) * 2 ^ f.lo := by
  have h1 : 2 ^ f.len * 2 ^ f.lo ≤ 2 ^ 32 := by rw [← pow_add]; exact Nat.pow_le_pow_right (by omega) (by omega)
  have h2 : 0 < 2 ^ f.len := Nat.two_pow_pos _
  have h3 : 0 < 2 ^ f.lo := Nat.two_pow_pos _
  simp only [Fld.mask, BitVec.toNat_ofNat]
  apply Nat.mod_eq_of_lt
  calc (2 ^ f.len - 1) * 2 ^ f.lo < 2 ^ f.len * 2 ^ f.lo := Nat.mul_lt_mul_of_pos_right (by omega) h3
    _ ≤ 2 ^ 32 := h1

theorem Fld.mask_getLsbD (f : Fld) (h : f.lo + f.len ≤ 32) (i : Nat) :
    f.mask.getLsbD i = (decide (f.lo ≤ i) && decide (i < f.lo + f.len)) := by
  rw [BitVec.getLsbD, Fld.mask_toNat f h, Nat.testBit_mul_two_pow, Nat.testBit_two_pow_sub_one]
  by_cases h1 : f.lo ≤ i
  · simp only [h1, decide_true, Bool.true_and]
    congr 1
    simp only [eq_iff_iff]; omega
  · simp [h1]

theorem Fld.get_testBit (f : Fld) (w : W32) (i : Nat) :
    (f.get w).testBit i = (decide (i < f.len) && w.getLsbD (f.lo + i)) := by
  rw [Fld.get, Nat.testBit_mod_two_pow, ← Nat.shiftRight_eq_div_pow, Nat.testBit_shiftRight, BitVec.getLsbD]

theorem Fld.val_getLsbD (f : Fld) (n i : Nat) (hi : i < 32) :
    (BitVec.ofNat 32 (n % 2 ^ f.len * 2 ^ f.lo)).getLsbD i
      = (decide (f.lo ≤ i) && (decide (i - f.lo < f.len) && n.testBit (i - f.lo))) := by
  rw [BitVec.getLsbD_ofNat, Nat.testBit_mul_two_pow, Nat.testBit_mod_two_pow]
  simp [hi]

/-- A field holds what was put in it. -/
theorem Fld.get_put (f : Fld) (h : f.lo + f.len ≤ 32) (n : Nat) (w : W32) : f.get (f.put n w) = n % 2 ^ f.len := by
  apply Nat.eq_of_testBit_eq
  intro i
  rw [Fld.get_testBit, Nat.testBit_mod_two_pow]
  by_cases hi : i < f.len
  · have : f.lo + i < 32 := by omega
    simp only [hi, decide_true, Bool.true_and, Fld.put, BitVec.getLsbD_or, BitVec.getLsbD_and, BitVec.getLsbD_not,
      Fld.mask_getLsbD f h, Fld.val_getLsbD f n _ this]
    simp [hi]
  · simp [hi]

/-- Putting a value in a field leaves a field beside it alone. -/
theorem Fld.get_put_ne (f g : Fld) (hf : f.lo + f.len ≤ 32) (hg : g.lo + g.len ≤ 32)
    (h : f.lo + f.len ≤ g.lo ∨ g.lo + g.len ≤ f.lo) (n : Nat) (w : W32) : g.get (f.put n w) = g.get w := by
  apply Nat.eq_of_testBit_eq
  intro i
  rw [Fld.get_testBit, Fld.get_testBit]
  by_cases hi : i < g.len
  · have h32 : g.lo + i < 32 := by omega
    have hne : (decide (f.lo ≤ g.lo + i) && decide (g.lo + i < f.lo + f.len)) = false := by
      simp only [Bool.and_eq_false_iff, decide_eq_false_iff_not]; omega
    have hne' : (decide (f.lo ≤ g.lo + i) && (decide (g.lo + i - f.lo < f.len) && n.testBit (g.lo + i - f.lo))) = false := by
      by_cases h1 : f.lo ≤ g.lo + i
      · have : ¬ (g.lo + i - f.lo < f.len) := by simp only [h1, decide_true, Bool.true_and, decide_eq_false_iff_not] at hne; omega
        simp [this]
      · simp [h1]
    simp only [hi, decide_true, Bool.true_and, Fld.put, BitVec.getLsbD_or, BitVec.getLsbD_and, BitVec.getLsbD_not,
      Fld.mask_getLsbD f hf, Fld.val_getLsbD f n _ h32, hne, hne']
    simp [h32]
  · simp [hi]

/-- A field inside a register's bits survives the mask. -/
theorem Fld.get_and_mask (f : Fld) (h : f.lo + f.len ≤ 32) (w m : W32) (hm : f.mask &&& m = f.mask) :
    f.get (w &&& m) = f.get w := by
  apply Nat.eq_of_testBit_eq
  intro i
  rw [Fld.get_testBit, Fld.get_testBit]
  by_cases hi : i < f.len
  · have : (f.mask &&& m).getLsbD (f.lo + i) = f.mask.getLsbD (f.lo + i) := by rw [hm]
    rw [BitVec.getLsbD_and, Fld.mask_getLsbD f h] at this
    simp only [Nat.le_add_right, decide_true, Bool.true_and, Nat.add_lt_add_iff_left, hi] at this
    simp [hi, this]
  · simp [hi]

/-- The field lies inside its register. -/
def Fld.ok (f : Fld) : Bool := decide (f.lo + f.len ≤ 32) && f.mask &&& f.reg.info.mask == f.mask

/-- A field holds what was written to it. -/
theorem State.fld_setFld (s : State) (f : Fld) (n i j : Nat) (h : f.ok = true) :
    (s.setFld f n i j).fld f i j = n % 2 ^ f.len := by
  simp only [Fld.ok, Bool.and_eq_true, decide_eq_true_eq, beq_iff_eq] at h
  rw [State.fld, State.setFld, State.rd_wr_same, Fld.get_and_mask f h.1 _ (RegKey.mask ⟨f.reg, i, j⟩) h.2, Fld.get_put f h.1]

/-- Writing a field leaves a field beside it alone. -/
theorem State.fld_setFld_ne (s : State) (f g : Fld) (n i j i' j' : Nat) (hf : f.ok = true) (hg : g.ok = true)
    (h : f.reg ≠ g.reg ∨ i ≠ i' ∨ j ≠ j' ∨ f.lo + f.len ≤ g.lo ∨ g.lo + g.len ≤ f.lo) :
    (s.setFld f n i j).fld g i' j' = s.fld g i' j' := by
  simp only [Fld.ok, Bool.and_eq_true, decide_eq_true_eq, beq_iff_eq] at hf hg
  unfold State.fld State.setFld
  by_cases hk : (⟨g.reg, i', j'⟩ : RegKey) = ⟨f.reg, i, j⟩
  · have e : g.reg = f.reg ∧ i' = i ∧ j' = j := by simpa using hk
    rw [hk, State.rd_wr_same, Fld.get_and_mask g hg.1 _ _ (by rw [RegKey.mask]; simpa [e.1] using hg.2)]
    apply Fld.get_put_ne f g hf.1 hg.1
    rcases h with h | h | h | h
    · exact absurd e.1.symm h
    · exact absurd e.2.1.symm h
    · exact absurd e.2.2.symm h
    · exact h
  · rw [State.rd_wr_ne _ hk]

/-- A register of another name keeps its value when a field is written. -/
theorem State.rd_setFld_ne (s : State) (f : Fld) (n i j : Nat) {k : RegKey} (h : k ≠ ⟨f.reg, i, j⟩) :
    (s.setFld f n i j).rd k = s.rd k := s.rd_wr_ne h _

end Sys2Proof.Machine
end

