-- ==== Sys2Proof/Laws/Access.lean ====
section
/-! SUPPORT. A write of a register: what it comes to when the fabric accepts it, and what the register's own bits become. -/

namespace Sys2Proof.Machine

/-- An accepted write has the effect of the register. -/
theorem State.guardW_accepts {s : State} {m : Master} {k : RegKey} (h : s.accepts m k = true) (v : W32)
    (f : State → State) : s.guardW m k v f = f (s.rewritten k) := by
  simp only [State.accepts, Bool.and_eq_true, Bool.not_eq_true'] at h
  obtain ⟨⟨⟨⟨⟨h1, h2⟩, h3⟩, h4⟩, h5⟩, h6⟩ := h
  have h2' : s.denied m k.addr (bit true) = false := h2
  simp [State.guardW, State.issue, State.putReg, h1, h2', h3, h4, h5, h6, State.rewritten]

@[simp] theorem State.rd_rewritten (s : State) (k k' : RegKey) : (s.rewritten k).rd k' = s.rd k' := rfl

@[simp] theorem State.fld_rewritten (s : State) (k : RegKey) (f : Fld) (i j : Nat) :
    (s.rewritten k).fld f i j = s.fld f i j := rfl

theorem Fld.get_ext (f : Fld) (h : f.lo + f.len ≤ 32) {v w : W32} (e : v &&& f.mask = w &&& f.mask) : f.get v = f.get w := by
  apply Nat.eq_of_testBit_eq
  intro i
  rw [Fld.get_testBit, Fld.get_testBit]
  by_cases hi : i < f.len
  · have : (v &&& f.mask).getLsbD (f.lo + i) = (w &&& f.mask).getLsbD (f.lo + i) := by rw [e]
    rw [BitVec.getLsbD_and, BitVec.getLsbD_and, Fld.mask_getLsbD f h] at this
    simpa [hi] using this
  · simp [hi]

/-- A field of RW bits takes the written value. -/
theorem State.fld_plainWrite (s : State) (f : Fld) (v : W32) (i j : Nat) (hok : f.ok = true)
    (hrw : f.mask &&& f.reg.info.rw = f.mask) (hc : f.mask &&& f.reg.info.w1c = 0) (hs : f.mask &&& f.reg.info.w1s = 0) :
    (s.plainWrite ⟨f.reg, i, j⟩ v).fld f i j = f.get v := by
  simp only [Fld.ok, Bool.and_eq_true, decide_eq_true_eq, beq_iff_eq] at hok
  rw [State.fld, State.plainWrite, State.rd_wr_same, Fld.get_and_mask f hok.1 _ (RegKey.mask ⟨f.reg, i, j⟩) hok.2]
  apply Fld.get_ext f hok.1
  apply BitVec.eq_of_getLsbD_eq
  intro n hn
  have b1 : (f.mask &&& f.reg.info.rw).getLsbD n = f.mask.getLsbD n := by rw [hrw]
  have b2 : (f.mask &&& f.reg.info.w1c).getLsbD n = false := by rw [hc]; simp
  have b3 : (f.mask &&& f.reg.info.w1s).getLsbD n = false := by rw [hs]; simp
  simp only [BitVec.getLsbD_and, BitVec.getLsbD_or, BitVec.getLsbD_not] at *
  cases h : f.mask.getLsbD n <;> simp_all

/-- A field of bits that a write cannot change stays. -/
theorem State.fld_plainWrite_ro (s : State) (f : Fld) (v : W32) (i j : Nat) (hok : f.ok = true)
    (hrw : f.mask &&& f.reg.info.rw = 0) (hc : f.mask &&& f.reg.info.w1c = 0) (hs : f.mask &&& f.reg.info.w1s = 0) :
    (s.plainWrite ⟨f.reg, i, j⟩ v).fld f i j = s.fld f i j := by
  simp only [Fld.ok, Bool.and_eq_true, decide_eq_true_eq, beq_iff_eq] at hok
  rw [State.fld, State.fld, State.plainWrite, State.rd_wr_same, Fld.get_and_mask f hok.1 _ (RegKey.mask ⟨f.reg, i, j⟩) hok.2]
  apply Fld.get_ext f hok.1
  apply BitVec.eq_of_getLsbD_eq
  intro n hn
  have b1 : (f.mask &&& f.reg.info.rw).getLsbD n = false := by rw [hrw]; simp
  have b2 : (f.mask &&& f.reg.info.w1c).getLsbD n = false := by rw [hc]; simp
  have b3 : (f.mask &&& f.reg.info.w1s).getLsbD n = false := by rw [hs]; simp
  simp only [BitVec.getLsbD_and, BitVec.getLsbD_or, BitVec.getLsbD_not] at *
  cases h : f.mask.getLsbD n <;> simp_all

/-- A write leaves the fields of other registers alone. -/
theorem State.fld_plainWrite_ne (s : State) (k : RegKey) (f : Fld) (v : W32) (i j : Nat) (h : (⟨f.reg, i, j⟩ : RegKey) ≠ k) :
    (s.plainWrite k v).fld f i j = s.fld f i j := by
  rw [State.fld, State.fld, State.plainWrite, State.rd_wr_ne _ h]

/-- A counter of 32 bits gains one, and stays at all ones. -/
theorem State.rdN_bump (s : State) (k : RegKey) (h : k.mask = BitVec.allOnes 32) :
    (s.bump k).rdN k = min (s.rdN k + 1) 0xFFFFFFFF := by
  rw [State.rdN, State.bump, State.wrN, State.rd_wr_same, h, BitVec.and_allOnes, BitVec.toNat_ofNat]
  exact Nat.mod_eq_of_lt (by omega)

/-- A register takes a number that fits its bits. -/
theorem State.rdN_wrN (s : State) (k : RegKey) (n : Nat) (h : k.mask = BitVec.allOnes 32) : (s.wrN k n).rdN k = n % 2 ^ 32 := by
  rw [State.rdN, State.wrN, State.rd_wr_same, h, BitVec.and_allOnes, BitVec.toNat_ofNat]

/-- A field holds a number of its width. -/
theorem State.fld_lt (s : State) (f : Fld) (i j : Nat) : s.fld f i j < 2 ^ f.len := Nat.mod_lt _ (Nat.two_pow_pos _)

end Sys2Proof.Machine
end

