-- ==== Sys2Proof/Laws/Fields.lean ====
section
/-! SUPPORT. An update of a register leaves every other part of the state alone: one lemma for each field and update. -/

namespace Sys2Proof.Machine

variable (s : State)

@[simp] theorem State.wr_fuse (k : RegKey) (v : W32) : (s.wr k v).fuse = s.fuse := rfl
@[simp] theorem State.wr_cars (k : RegKey) (v : W32) : (s.wr k v).cars = s.cars := rfl
@[simp] theorem State.wr_scs (k : RegKey) (v : W32) : (s.wr k v).scs = s.scs := rfl
@[simp] theorem State.wr_grps (k : RegKey) (v : W32) : (s.wr k v).grps = s.grps := rfl
@[simp] theorem State.wr_fab (k : RegKey) (v : W32) : (s.wr k v).fab = s.fab := rfl
@[simp] theorem State.wr_logQ (k : RegKey) (v : W32) : (s.wr k v).logQ = s.logQ := rfl
@[simp] theorem State.wr_logLost (k : RegKey) (v : W32) : (s.wr k v).logLost = s.logLost := rfl
@[simp] theorem State.wr_pmkTime (k : RegKey) (v : W32) : (s.wr k v).pmkTime = s.pmkTime := rfl
@[simp] theorem State.wr_asserted (k : RegKey) (v : W32) : (s.wr k v).asserted = s.asserted := rfl
@[simp] theorem State.wr_pccTx (k : RegKey) (v : W32) : (s.wr k v).pccTx = s.pccTx := rfl
@[simp] theorem State.wr_pccRx (k : RegKey) (v : W32) : (s.wr k v).pccRx = s.pccRx := rfl
@[simp] theorem State.wr_pccFifo (k : RegKey) (v : W32) : (s.wr k v).pccFifo = s.pccFifo := rfl
@[simp] theorem State.wr_flows (k : RegKey) (v : W32) : (s.wr k v).flows = s.flows := rfl
@[simp] theorem State.wr_delin (k : RegKey) (v : W32) : (s.wr k v).delin = s.delin := rfl
@[simp] theorem State.wr_hay (k : RegKey) (v : W32) : (s.wr k v).hay = s.hay := rfl
@[simp] theorem State.wr_hayMem (k : RegKey) (v : W32) : (s.wr k v).hayMem = s.hayMem := rfl
@[simp] theorem State.wr_cip (k : RegKey) (v : W32) : (s.wr k v).cip = s.cip := rfl
@[simp] theorem State.wr_yardSt (k : RegKey) (v : W32) : (s.wr k v).yardSt = s.yardSt := rfl
@[simp] theorem State.wr_mccTx (k : RegKey) (v : W32) : (s.wr k v).mccTx = s.mccTx := rfl
@[simp] theorem State.wr_mccRx (k : RegKey) (v : W32) : (s.wr k v).mccRx = s.mccRx := rfl
@[simp] theorem State.wr_drr (k : RegKey) (v : W32) : (s.wr k v).drr = s.drr := rfl
@[simp] theorem State.wr_stb (k : RegKey) (v : W32) : (s.wr k v).stb = s.stb := rfl
@[simp] theorem State.wr_plls (k : RegKey) (v : W32) : (s.wr k v).plls = s.plls := rfl
@[simp] theorem State.wr_cfgBad (k : RegKey) (v : W32) : (s.wr k v).cfgBad = s.cfgBad := rfl
@[simp] theorem State.wr_pmk (k : RegKey) (v : W32) : (s.wr k v).pmk = s.pmk := rfl
@[simp] theorem State.wr_mon (k : RegKey) (v : W32) : (s.wr k v).mon = s.mon := rfl
@[simp] theorem State.wr_monSnap (k : RegKey) (v : W32) : (s.wr k v).monSnap = s.monSnap := rfl
@[simp] theorem State.wr_monFree (k : RegKey) (v : W32) : (s.wr k v).monFree = s.monFree := rfl
@[simp] theorem State.wr_pwr (k : RegKey) (v : W32) : (s.wr k v).pwr = s.pwr := rfl
@[simp] theorem State.wr_retryLane (k : RegKey) (v : W32) : (s.wr k v).retryLane = s.retryLane := rfl
@[simp] theorem State.wr_prbsAcc (k : RegKey) (v : W32) : (s.wr k v).prbsAcc = s.prbsAcc := rfl
@[simp] theorem State.wr_prbsInj (k : RegKey) (v : W32) : (s.wr k v).prbsInj = s.prbsInj := rfl
@[simp] theorem State.wr_links (k : RegKey) (v : W32) : (s.wr k v).links = s.links := rfl
@[simp] theorem State.wr_rmt (k : RegKey) (v : W32) : (s.wr k v).rmt = s.rmt := rfl
@[simp] theorem State.wr_img (k : RegKey) (v : W32) : (s.wr k v).img = s.img := rfl
@[simp] theorem State.wr_imgRx (k : RegKey) (v : W32) : (s.wr k v).imgRx = s.imgRx := rfl
@[simp] theorem State.wr_yardTx (k : RegKey) (v : W32) : (s.wr k v).yardTx = s.yardTx := rfl
@[simp] theorem State.wr_tack (k : RegKey) (v : W32) : (s.wr k v).tack = s.tack := rfl
@[simp] theorem State.wr_ram (k : RegKey) (v : W32) : (s.wr k v).ram = s.ram := rfl
@[simp] theorem State.wr_cal (k : RegKey) (v : W32) : (s.wr k v).cal = s.cal := rfl
@[simp] theorem State.wr_bst (k : RegKey) (v : W32) : (s.wr k v).bst = s.bst := rfl
@[simp] theorem State.wr_boot (k : RegKey) (v : W32) : (s.wr k v).boot = s.boot := rfl
@[simp] theorem State.wr_seqLevel (k : RegKey) (v : W32) : (s.wr k v).seqLevel = s.seqLevel := rfl
@[simp] theorem State.wr_lcMove (k : RegKey) (v : W32) : (s.wr k v).lcMove = s.lcMove := rfl
@[simp] theorem State.wr_lcAuth (k : RegKey) (v : W32) : (s.wr k v).lcAuth = s.lcAuth := rfl
@[simp] theorem State.wr_auth (k : RegKey) (v : W32) : (s.wr k v).auth = s.auth := rfl
@[simp] theorem State.wr_lbCmd (k : RegKey) (v : W32) : (s.wr k v).lbCmd = s.lbCmd := rfl
@[simp] theorem State.wr_logSeq (k : RegKey) (v : W32) : (s.wr k v).logSeq = s.logSeq := rfl
@[simp] theorem State.wr_winEnd (k : RegKey) (v : W32) : (s.wr k v).winEnd = s.winEnd := rfl
@[simp] theorem State.wr_injAt (k : RegKey) (v : W32) : (s.wr k v).injAt = s.injAt := rfl
@[simp] theorem State.wr_us (k : RegKey) (v : W32) : (s.wr k v).us = s.us := rfl
@[simp] theorem State.wr_free (k : RegKey) (v : W32) : (s.wr k v).free = s.free := rfl
@[simp] theorem State.wr_pending (k : RegKey) (v : W32) : (s.wr k v).pending = s.pending := rfl

@[simp] theorem State.wrN_fuse (k : RegKey) (n : Nat) : (s.wrN k n).fuse = s.fuse := rfl
@[simp] theorem State.wrN_cars (k : RegKey) (n : Nat) : (s.wrN k n).cars = s.cars := rfl
@[simp] theorem State.wrN_scs (k : RegKey) (n : Nat) : (s.wrN k n).scs = s.scs := rfl
@[simp] theorem State.wrN_grps (k : RegKey) (n : Nat) : (s.wrN k n).grps = s.grps := rfl
@[simp] theorem State.wrN_fab (k : RegKey) (n : Nat) : (s.wrN k n).fab = s.fab := rfl
@[simp] theorem State.wrN_logQ (k : RegKey) (n : Nat) : (s.wrN k n).logQ = s.logQ := rfl
@[simp] theorem State.wrN_logLost (k : RegKey) (n : Nat) : (s.wrN k n).logLost = s.logLost := rfl
@[simp] theorem State.wrN_pmkTime (k : RegKey) (n : Nat) : (s.wrN k n).pmkTime = s.pmkTime := rfl
@[simp] theorem State.wrN_asserted (k : RegKey) (n : Nat) : (s.wrN k n).asserted = s.asserted := rfl
@[simp] theorem State.wrN_pccTx (k : RegKey) (n : Nat) : (s.wrN k n).pccTx = s.pccTx := rfl
@[simp] theorem State.wrN_pccRx (k : RegKey) (n : Nat) : (s.wrN k n).pccRx = s.pccRx := rfl
@[simp] theorem State.wrN_pccFifo (k : RegKey) (n : Nat) : (s.wrN k n).pccFifo = s.pccFifo := rfl
@[simp] theorem State.wrN_flows (k : RegKey) (n : Nat) : (s.wrN k n).flows = s.flows := rfl
@[simp] theorem State.wrN_delin (k : RegKey) (n : Nat) : (s.wrN k n).delin = s.delin := rfl
@[simp] theorem State.wrN_hay (k : RegKey) (n : Nat) : (s.wrN k n).hay = s.hay := rfl
@[simp] theorem State.wrN_hayMem (k : RegKey) (n : Nat) : (s.wrN k n).hayMem = s.hayMem := rfl
@[simp] theorem State.wrN_cip (k : RegKey) (n : Nat) : (s.wrN k n).cip = s.cip := rfl
@[simp] theorem State.wrN_yardSt (k : RegKey) (n : Nat) : (s.wrN k n).yardSt = s.yardSt := rfl
@[simp] theorem State.wrN_mccTx (k : RegKey) (n : Nat) : (s.wrN k n).mccTx = s.mccTx := rfl
@[simp] theorem State.wrN_mccRx (k : RegKey) (n : Nat) : (s.wrN k n).mccRx = s.mccRx := rfl
@[simp] theorem State.wrN_drr (k : RegKey) (n : Nat) : (s.wrN k n).drr = s.drr := rfl
@[simp] theorem State.wrN_stb (k : RegKey) (n : Nat) : (s.wrN k n).stb = s.stb := rfl
@[simp] theorem State.wrN_plls (k : RegKey) (n : Nat) : (s.wrN k n).plls = s.plls := rfl
@[simp] theorem State.wrN_cfgBad (k : RegKey) (n : Nat) : (s.wrN k n).cfgBad = s.cfgBad := rfl
@[simp] theorem State.wrN_pmk (k : RegKey) (n : Nat) : (s.wrN k n).pmk = s.pmk := rfl
@[simp] theorem State.wrN_mon (k : RegKey) (n : Nat) : (s.wrN k n).mon = s.mon := rfl
@[simp] theorem State.wrN_monSnap (k : RegKey) (n : Nat) : (s.wrN k n).monSnap = s.monSnap := rfl
@[simp] theorem State.wrN_monFree (k : RegKey) (n : Nat) : (s.wrN k n).monFree = s.monFree := rfl
@[simp] theorem State.wrN_pwr (k : RegKey) (n : Nat) : (s.wrN k n).pwr = s.pwr := rfl
@[simp] theorem State.wrN_retryLane (k : RegKey) (n : Nat) : (s.wrN k n).retryLane = s.retryLane := rfl
@[simp] theorem State.wrN_prbsAcc (k : RegKey) (n : Nat) : (s.wrN k n).prbsAcc = s.prbsAcc := rfl
@[simp] theorem State.wrN_prbsInj (k : RegKey) (n : Nat) : (s.wrN k n).prbsInj = s.prbsInj := rfl
@[simp] theorem State.wrN_links (k : RegKey) (n : Nat) : (s.wrN k n).links = s.links := rfl
@[simp] theorem State.wrN_rmt (k : RegKey) (n : Nat) : (s.wrN k n).rmt = s.rmt := rfl
@[simp] theorem State.wrN_img (k : RegKey) (n : Nat) : (s.wrN k n).img = s.img := rfl
@[simp] theorem State.wrN_imgRx (k : RegKey) (n : Nat) : (s.wrN k n).imgRx = s.imgRx := rfl
@[simp] theorem State.wrN_yardTx (k : RegKey) (n : Nat) : (s.wrN k n).yardTx = s.yardTx := rfl
@[simp] theorem State.wrN_tack (k : RegKey) (n : Nat) : (s.wrN k n).tack = s.tack := rfl
@[simp] theorem State.wrN_ram (k : RegKey) (n : Nat) : (s.wrN k n).ram = s.ram := rfl
@[simp] theorem State.wrN_cal (k : RegKey) (n : Nat) : (s.wrN k n).cal = s.cal := rfl
@[simp] theorem State.wrN_bst (k : RegKey) (n : Nat) : (s.wrN k n).bst = s.bst := rfl
@[simp] theorem State.wrN_boot (k : RegKey) (n : Nat) : (s.wrN k n).boot = s.boot := rfl
@[simp] theorem State.wrN_seqLevel (k : RegKey) (n : Nat) : (s.wrN k n).seqLevel = s.seqLevel := rfl
@[simp] theorem State.wrN_lcMove (k : RegKey) (n : Nat) : (s.wrN k n).lcMove = s.lcMove := rfl
@[simp] theorem State.wrN_lcAuth (k : RegKey) (n : Nat) : (s.wrN k n).lcAuth = s.lcAuth := rfl
@[simp] theorem State.wrN_auth (k : RegKey) (n : Nat) : (s.wrN k n).auth = s.auth := rfl
@[simp] theorem State.wrN_lbCmd (k : RegKey) (n : Nat) : (s.wrN k n).lbCmd = s.lbCmd := rfl
@[simp] theorem State.wrN_logSeq (k : RegKey) (n : Nat) : (s.wrN k n).logSeq = s.logSeq := rfl
@[simp] theorem State.wrN_winEnd (k : RegKey) (n : Nat) : (s.wrN k n).winEnd = s.winEnd := rfl
@[simp] theorem State.wrN_injAt (k : RegKey) (n : Nat) : (s.wrN k n).injAt = s.injAt := rfl
@[simp] theorem State.wrN_us (k : RegKey) (n : Nat) : (s.wrN k n).us = s.us := rfl
@[simp] theorem State.wrN_free (k : RegKey) (n : Nat) : (s.wrN k n).free = s.free := rfl
@[simp] theorem State.wrN_pending (k : RegKey) (n : Nat) : (s.wrN k n).pending = s.pending := rfl

@[simp] theorem State.setFld_fuse (f : Fld) (n i j : Nat) : (s.setFld f n i j).fuse = s.fuse := rfl
@[simp] theorem State.setFld_cars (f : Fld) (n i j : Nat) : (s.setFld f n i j).cars = s.cars := rfl
@[simp] theorem State.setFld_scs (f : Fld) (n i j : Nat) : (s.setFld f n i j).scs = s.scs := rfl
@[simp] theorem State.setFld_grps (f : Fld) (n i j : Nat) : (s.setFld f n i j).grps = s.grps := rfl
@[simp] theorem State.setFld_fab (f : Fld) (n i j : Nat) : (s.setFld f n i j).fab = s.fab := rfl
@[simp] theorem State.setFld_logQ (f : Fld) (n i j : Nat) : (s.setFld f n i j).logQ = s.logQ := rfl
@[simp] theorem State.setFld_logLost (f : Fld) (n i j : Nat) : (s.setFld f n i j).logLost = s.logLost := rfl
@[simp] theorem State.setFld_pmkTime (f : Fld) (n i j : Nat) : (s.setFld f n i j).pmkTime = s.pmkTime := rfl
@[simp] theorem State.setFld_asserted (f : Fld) (n i j : Nat) : (s.setFld f n i j).asserted = s.asserted := rfl
@[simp] theorem State.setFld_pccTx (f : Fld) (n i j : Nat) : (s.setFld f n i j).pccTx = s.pccTx := rfl
@[simp] theorem State.setFld_pccRx (f : Fld) (n i j : Nat) : (s.setFld f n i j).pccRx = s.pccRx := rfl
@[simp] theorem State.setFld_pccFifo (f : Fld) (n i j : Nat) : (s.setFld f n i j).pccFifo = s.pccFifo := rfl
@[simp] theorem State.setFld_flows (f : Fld) (n i j : Nat) : (s.setFld f n i j).flows = s.flows := rfl
@[simp] theorem State.setFld_delin (f : Fld) (n i j : Nat) : (s.setFld f n i j).delin = s.delin := rfl
@[simp] theorem State.setFld_hay (f : Fld) (n i j : Nat) : (s.setFld f n i j).hay = s.hay := rfl
@[simp] theorem State.setFld_hayMem (f : Fld) (n i j : Nat) : (s.setFld f n i j).hayMem = s.hayMem := rfl
@[simp] theorem State.setFld_cip (f : Fld) (n i j : Nat) : (s.setFld f n i j).cip = s.cip := rfl
@[simp] theorem State.setFld_yardSt (f : Fld) (n i j : Nat) : (s.setFld f n i j).yardSt = s.yardSt := rfl
@[simp] theorem State.setFld_mccTx (f : Fld) (n i j : Nat) : (s.setFld f n i j).mccTx = s.mccTx := rfl
@[simp] theorem State.setFld_mccRx (f : Fld) (n i j : Nat) : (s.setFld f n i j).mccRx = s.mccRx := rfl
@[simp] theorem State.setFld_drr (f : Fld) (n i j : Nat) : (s.setFld f n i j).drr = s.drr := rfl
@[simp] theorem State.setFld_stb (f : Fld) (n i j : Nat) : (s.setFld f n i j).stb = s.stb := rfl
@[simp] theorem State.setFld_plls (f : Fld) (n i j : Nat) : (s.setFld f n i j).plls = s.plls := rfl
@[simp] theorem State.setFld_cfgBad (f : Fld) (n i j : Nat) : (s.setFld f n i j).cfgBad = s.cfgBad := rfl
@[simp] theorem State.setFld_pmk (f : Fld) (n i j : Nat) : (s.setFld f n i j).pmk = s.pmk := rfl
@[simp] theorem State.setFld_mon (f : Fld) (n i j : Nat) : (s.setFld f n i j).mon = s.mon := rfl
@[simp] theorem State.setFld_monSnap (f : Fld) (n i j : Nat) : (s.setFld f n i j).monSnap = s.monSnap := rfl
@[simp] theorem State.setFld_monFree (f : Fld) (n i j : Nat) : (s.setFld f n i j).monFree = s.monFree := rfl
@[simp] theorem State.setFld_pwr (f : Fld) (n i j : Nat) : (s.setFld f n i j).pwr = s.pwr := rfl
@[simp] theorem State.setFld_retryLane (f : Fld) (n i j : Nat) : (s.setFld f n i j).retryLane = s.retryLane := rfl
@[simp] theorem State.setFld_prbsAcc (f : Fld) (n i j : Nat) : (s.setFld f n i j).prbsAcc = s.prbsAcc := rfl
@[simp] theorem State.setFld_prbsInj (f : Fld) (n i j : Nat) : (s.setFld f n i j).prbsInj = s.prbsInj := rfl
@[simp] theorem State.setFld_links (f : Fld) (n i j : Nat) : (s.setFld f n i j).links = s.links := rfl
@[simp] theorem State.setFld_rmt (f : Fld) (n i j : Nat) : (s.setFld f n i j).rmt = s.rmt := rfl
@[simp] theorem State.setFld_img (f : Fld) (n i j : Nat) : (s.setFld f n i j).img = s.img := rfl
@[simp] theorem State.setFld_imgRx (f : Fld) (n i j : Nat) : (s.setFld f n i j).imgRx = s.imgRx := rfl
@[simp] theorem State.setFld_yardTx (f : Fld) (n i j : Nat) : (s.setFld f n i j).yardTx = s.yardTx := rfl
@[simp] theorem State.setFld_tack (f : Fld) (n i j : Nat) : (s.setFld f n i j).tack = s.tack := rfl
@[simp] theorem State.setFld_ram (f : Fld) (n i j : Nat) : (s.setFld f n i j).ram = s.ram := rfl
@[simp] theorem State.setFld_cal (f : Fld) (n i j : Nat) : (s.setFld f n i j).cal = s.cal := rfl
@[simp] theorem State.setFld_bst (f : Fld) (n i j : Nat) : (s.setFld f n i j).bst = s.bst := rfl
@[simp] theorem State.setFld_boot (f : Fld) (n i j : Nat) : (s.setFld f n i j).boot = s.boot := rfl
@[simp] theorem State.setFld_seqLevel (f : Fld) (n i j : Nat) : (s.setFld f n i j).seqLevel = s.seqLevel := rfl
@[simp] theorem State.setFld_lcMove (f : Fld) (n i j : Nat) : (s.setFld f n i j).lcMove = s.lcMove := rfl
@[simp] theorem State.setFld_lcAuth (f : Fld) (n i j : Nat) : (s.setFld f n i j).lcAuth = s.lcAuth := rfl
@[simp] theorem State.setFld_auth (f : Fld) (n i j : Nat) : (s.setFld f n i j).auth = s.auth := rfl
@[simp] theorem State.setFld_lbCmd (f : Fld) (n i j : Nat) : (s.setFld f n i j).lbCmd = s.lbCmd := rfl
@[simp] theorem State.setFld_logSeq (f : Fld) (n i j : Nat) : (s.setFld f n i j).logSeq = s.logSeq := rfl
@[simp] theorem State.setFld_winEnd (f : Fld) (n i j : Nat) : (s.setFld f n i j).winEnd = s.winEnd := rfl
@[simp] theorem State.setFld_injAt (f : Fld) (n i j : Nat) : (s.setFld f n i j).injAt = s.injAt := rfl
@[simp] theorem State.setFld_us (f : Fld) (n i j : Nat) : (s.setFld f n i j).us = s.us := rfl
@[simp] theorem State.setFld_free (f : Fld) (n i j : Nat) : (s.setFld f n i j).free = s.free := rfl
@[simp] theorem State.setFld_pending (f : Fld) (n i j : Nat) : (s.setFld f n i j).pending = s.pending := rfl

@[simp] theorem State.setFlag_fuse (f : Fld) (b : Bool) (i j : Nat) : (s.setFlag f b i j).fuse = s.fuse := rfl
@[simp] theorem State.setFlag_cars (f : Fld) (b : Bool) (i j : Nat) : (s.setFlag f b i j).cars = s.cars := rfl
@[simp] theorem State.setFlag_scs (f : Fld) (b : Bool) (i j : Nat) : (s.setFlag f b i j).scs = s.scs := rfl
@[simp] theorem State.setFlag_grps (f : Fld) (b : Bool) (i j : Nat) : (s.setFlag f b i j).grps = s.grps := rfl
@[simp] theorem State.setFlag_fab (f : Fld) (b : Bool) (i j : Nat) : (s.setFlag f b i j).fab = s.fab := rfl
@[simp] theorem State.setFlag_logQ (f : Fld) (b : Bool) (i j : Nat) : (s.setFlag f b i j).logQ = s.logQ := rfl
@[simp] theorem State.setFlag_logLost (f : Fld) (b : Bool) (i j : Nat) : (s.setFlag f b i j).logLost = s.logLost := rfl
@[simp] theorem State.setFlag_pmkTime (f : Fld) (b : Bool) (i j : Nat) : (s.setFlag f b i j).pmkTime = s.pmkTime := rfl
@[simp] theorem State.setFlag_asserted (f : Fld) (b : Bool) (i j : Nat) : (s.setFlag f b i j).asserted = s.asserted := rfl
@[simp] theorem State.setFlag_pccTx (f : Fld) (b : Bool) (i j : Nat) : (s.setFlag f b i j).pccTx = s.pccTx := rfl
@[simp] theorem State.setFlag_pccRx (f : Fld) (b : Bool) (i j : Nat) : (s.setFlag f b i j).pccRx = s.pccRx := rfl
@[simp] theorem State.setFlag_pccFifo (f : Fld) (b : Bool) (i j : Nat) : (s.setFlag f b i j).pccFifo = s.pccFifo := rfl
@[simp] theorem State.setFlag_flows (f : Fld) (b : Bool) (i j : Nat) : (s.setFlag f b i j).flows = s.flows := rfl
@[simp] theorem State.setFlag_delin (f : Fld) (b : Bool) (i j : Nat) : (s.setFlag f b i j).delin = s.delin := rfl
@[simp] theorem State.setFlag_hay (f : Fld) (b : Bool) (i j : Nat) : (s.setFlag f b i j).hay = s.hay := rfl
@[simp] theorem State.setFlag_hayMem (f : Fld) (b : Bool) (i j : Nat) : (s.setFlag f b i j).hayMem = s.hayMem := rfl
@[simp] theorem State.setFlag_cip (f : Fld) (b : Bool) (i j : Nat) : (s.setFlag f b i j).cip = s.cip := rfl
@[simp] theorem State.setFlag_yardSt (f : Fld) (b : Bool) (i j : Nat) : (s.setFlag f b i j).yardSt = s.yardSt := rfl
@[simp] theorem State.setFlag_mccTx (f : Fld) (b : Bool) (i j : Nat) : (s.setFlag f b i j).mccTx = s.mccTx := rfl
@[simp] theorem State.setFlag_mccRx (f : Fld) (b : Bool) (i j : Nat) : (s.setFlag f b i j).mccRx = s.mccRx := rfl
@[simp] theorem State.setFlag_drr (f : Fld) (b : Bool) (i j : Nat) : (s.setFlag f b i j).drr = s.drr := rfl
@[simp] theorem State.setFlag_stb (f : Fld) (b : Bool) (i j : Nat) : (s.setFlag f b i j).stb = s.stb := rfl
@[simp] theorem State.setFlag_plls (f : Fld) (b : Bool) (i j : Nat) : (s.setFlag f b i j).plls = s.plls := rfl
@[simp] theorem State.setFlag_cfgBad (f : Fld) (b : Bool) (i j : Nat) : (s.setFlag f b i j).cfgBad = s.cfgBad := rfl
@[simp] theorem State.setFlag_pmk (f : Fld) (b : Bool) (i j : Nat) : (s.setFlag f b i j).pmk = s.pmk := rfl
@[simp] theorem State.setFlag_mon (f : Fld) (b : Bool) (i j : Nat) : (s.setFlag f b i j).mon = s.mon := rfl
@[simp] theorem State.setFlag_monSnap (f : Fld) (b : Bool) (i j : Nat) : (s.setFlag f b i j).monSnap = s.monSnap := rfl
@[simp] theorem State.setFlag_monFree (f : Fld) (b : Bool) (i j : Nat) : (s.setFlag f b i j).monFree = s.monFree := rfl
@[simp] theorem State.setFlag_pwr (f : Fld) (b : Bool) (i j : Nat) : (s.setFlag f b i j).pwr = s.pwr := rfl
@[simp] theorem State.setFlag_retryLane (f : Fld) (b : Bool) (i j : Nat) : (s.setFlag f b i j).retryLane = s.retryLane := rfl
@[simp] theorem State.setFlag_prbsAcc (f : Fld) (b : Bool) (i j : Nat) : (s.setFlag f b i j).prbsAcc = s.prbsAcc := rfl
@[simp] theorem State.setFlag_prbsInj (f : Fld) (b : Bool) (i j : Nat) : (s.setFlag f b i j).prbsInj = s.prbsInj := rfl
@[simp] theorem State.setFlag_links (f : Fld) (b : Bool) (i j : Nat) : (s.setFlag f b i j).links = s.links := rfl
@[simp] theorem State.setFlag_rmt (f : Fld) (b : Bool) (i j : Nat) : (s.setFlag f b i j).rmt = s.rmt := rfl
@[simp] theorem State.setFlag_img (f : Fld) (b : Bool) (i j : Nat) : (s.setFlag f b i j).img = s.img := rfl
@[simp] theorem State.setFlag_imgRx (f : Fld) (b : Bool) (i j : Nat) : (s.setFlag f b i j).imgRx = s.imgRx := rfl
@[simp] theorem State.setFlag_yardTx (f : Fld) (b : Bool) (i j : Nat) : (s.setFlag f b i j).yardTx = s.yardTx := rfl
@[simp] theorem State.setFlag_tack (f : Fld) (b : Bool) (i j : Nat) : (s.setFlag f b i j).tack = s.tack := rfl
@[simp] theorem State.setFlag_ram (f : Fld) (b : Bool) (i j : Nat) : (s.setFlag f b i j).ram = s.ram := rfl
@[simp] theorem State.setFlag_cal (f : Fld) (b : Bool) (i j : Nat) : (s.setFlag f b i j).cal = s.cal := rfl
@[simp] theorem State.setFlag_bst (f : Fld) (b : Bool) (i j : Nat) : (s.setFlag f b i j).bst = s.bst := rfl
@[simp] theorem State.setFlag_boot (f : Fld) (b : Bool) (i j : Nat) : (s.setFlag f b i j).boot = s.boot := rfl
@[simp] theorem State.setFlag_seqLevel (f : Fld) (b : Bool) (i j : Nat) : (s.setFlag f b i j).seqLevel = s.seqLevel := rfl
@[simp] theorem State.setFlag_lcMove (f : Fld) (b : Bool) (i j : Nat) : (s.setFlag f b i j).lcMove = s.lcMove := rfl
@[simp] theorem State.setFlag_lcAuth (f : Fld) (b : Bool) (i j : Nat) : (s.setFlag f b i j).lcAuth = s.lcAuth := rfl
@[simp] theorem State.setFlag_auth (f : Fld) (b : Bool) (i j : Nat) : (s.setFlag f b i j).auth = s.auth := rfl
@[simp] theorem State.setFlag_lbCmd (f : Fld) (b : Bool) (i j : Nat) : (s.setFlag f b i j).lbCmd = s.lbCmd := rfl
@[simp] theorem State.setFlag_logSeq (f : Fld) (b : Bool) (i j : Nat) : (s.setFlag f b i j).logSeq = s.logSeq := rfl
@[simp] theorem State.setFlag_winEnd (f : Fld) (b : Bool) (i j : Nat) : (s.setFlag f b i j).winEnd = s.winEnd := rfl
@[simp] theorem State.setFlag_injAt (f : Fld) (b : Bool) (i j : Nat) : (s.setFlag f b i j).injAt = s.injAt := rfl
@[simp] theorem State.setFlag_us (f : Fld) (b : Bool) (i j : Nat) : (s.setFlag f b i j).us = s.us := rfl
@[simp] theorem State.setFlag_free (f : Fld) (b : Bool) (i j : Nat) : (s.setFlag f b i j).free = s.free := rfl
@[simp] theorem State.setFlag_pending (f : Fld) (b : Bool) (i j : Nat) : (s.setFlag f b i j).pending = s.pending := rfl

@[simp] theorem State.raise_fuse (f : Fld) (i j : Nat) : (s.raise f i j).fuse = s.fuse := rfl
@[simp] theorem State.raise_cars (f : Fld) (i j : Nat) : (s.raise f i j).cars = s.cars := rfl
@[simp] theorem State.raise_scs (f : Fld) (i j : Nat) : (s.raise f i j).scs = s.scs := rfl
@[simp] theorem State.raise_grps (f : Fld) (i j : Nat) : (s.raise f i j).grps = s.grps := rfl
@[simp] theorem State.raise_fab (f : Fld) (i j : Nat) : (s.raise f i j).fab = s.fab := rfl
@[simp] theorem State.raise_logQ (f : Fld) (i j : Nat) : (s.raise f i j).logQ = s.logQ := rfl
@[simp] theorem State.raise_logLost (f : Fld) (i j : Nat) : (s.raise f i j).logLost = s.logLost := rfl
@[simp] theorem State.raise_pmkTime (f : Fld) (i j : Nat) : (s.raise f i j).pmkTime = s.pmkTime := rfl
@[simp] theorem State.raise_asserted (f : Fld) (i j : Nat) : (s.raise f i j).asserted = s.asserted := rfl
@[simp] theorem State.raise_pccTx (f : Fld) (i j : Nat) : (s.raise f i j).pccTx = s.pccTx := rfl
@[simp] theorem State.raise_pccRx (f : Fld) (i j : Nat) : (s.raise f i j).pccRx = s.pccRx := rfl
@[simp] theorem State.raise_pccFifo (f : Fld) (i j : Nat) : (s.raise f i j).pccFifo = s.pccFifo := rfl
@[simp] theorem State.raise_flows (f : Fld) (i j : Nat) : (s.raise f i j).flows = s.flows := rfl
@[simp] theorem State.raise_delin (f : Fld) (i j : Nat) : (s.raise f i j).delin = s.delin := rfl
@[simp] theorem State.raise_hay (f : Fld) (i j : Nat) : (s.raise f i j).hay = s.hay := rfl
@[simp] theorem State.raise_hayMem (f : Fld) (i j : Nat) : (s.raise f i j).hayMem = s.hayMem := rfl
@[simp] theorem State.raise_cip (f : Fld) (i j : Nat) : (s.raise f i j).cip = s.cip := rfl
@[simp] theorem State.raise_yardSt (f : Fld) (i j : Nat) : (s.raise f i j).yardSt = s.yardSt := rfl
@[simp] theorem State.raise_mccTx (f : Fld) (i j : Nat) : (s.raise f i j).mccTx = s.mccTx := rfl
@[simp] theorem State.raise_mccRx (f : Fld) (i j : Nat) : (s.raise f i j).mccRx = s.mccRx := rfl
@[simp] theorem State.raise_drr (f : Fld) (i j : Nat) : (s.raise f i j).drr = s.drr := rfl
@[simp] theorem State.raise_stb (f : Fld) (i j : Nat) : (s.raise f i j).stb = s.stb := rfl
@[simp] theorem State.raise_plls (f : Fld) (i j : Nat) : (s.raise f i j).plls = s.plls := rfl
@[simp] theorem State.raise_cfgBad (f : Fld) (i j : Nat) : (s.raise f i j).cfgBad = s.cfgBad := rfl
@[simp] theorem State.raise_pmk (f : Fld) (i j : Nat) : (s.raise f i j).pmk = s.pmk := rfl
@[simp] theorem State.raise_mon (f : Fld) (i j : Nat) : (s.raise f i j).mon = s.mon := rfl
@[simp] theorem State.raise_monSnap (f : Fld) (i j : Nat) : (s.raise f i j).monSnap = s.monSnap := rfl
@[simp] theorem State.raise_monFree (f : Fld) (i j : Nat) : (s.raise f i j).monFree = s.monFree := rfl
@[simp] theorem State.raise_pwr (f : Fld) (i j : Nat) : (s.raise f i j).pwr = s.pwr := rfl
@[simp] theorem State.raise_retryLane (f : Fld) (i j : Nat) : (s.raise f i j).retryLane = s.retryLane := rfl
@[simp] theorem State.raise_prbsAcc (f : Fld) (i j : Nat) : (s.raise f i j).prbsAcc = s.prbsAcc := rfl
@[simp] theorem State.raise_prbsInj (f : Fld) (i j : Nat) : (s.raise f i j).prbsInj = s.prbsInj := rfl
@[simp] theorem State.raise_links (f : Fld) (i j : Nat) : (s.raise f i j).links = s.links := rfl
@[simp] theorem State.raise_rmt (f : Fld) (i j : Nat) : (s.raise f i j).rmt = s.rmt := rfl
@[simp] theorem State.raise_img (f : Fld) (i j : Nat) : (s.raise f i j).img = s.img := rfl
@[simp] theorem State.raise_imgRx (f : Fld) (i j : Nat) : (s.raise f i j).imgRx = s.imgRx := rfl
@[simp] theorem State.raise_yardTx (f : Fld) (i j : Nat) : (s.raise f i j).yardTx = s.yardTx := rfl
@[simp] theorem State.raise_tack (f : Fld) (i j : Nat) : (s.raise f i j).tack = s.tack := rfl
@[simp] theorem State.raise_ram (f : Fld) (i j : Nat) : (s.raise f i j).ram = s.ram := rfl
@[simp] theorem State.raise_cal (f : Fld) (i j : Nat) : (s.raise f i j).cal = s.cal := rfl
@[simp] theorem State.raise_bst (f : Fld) (i j : Nat) : (s.raise f i j).bst = s.bst := rfl
@[simp] theorem State.raise_boot (f : Fld) (i j : Nat) : (s.raise f i j).boot = s.boot := rfl
@[simp] theorem State.raise_seqLevel (f : Fld) (i j : Nat) : (s.raise f i j).seqLevel = s.seqLevel := rfl
@[simp] theorem State.raise_lcMove (f : Fld) (i j : Nat) : (s.raise f i j).lcMove = s.lcMove := rfl
@[simp] theorem State.raise_lcAuth (f : Fld) (i j : Nat) : (s.raise f i j).lcAuth = s.lcAuth := rfl
@[simp] theorem State.raise_auth (f : Fld) (i j : Nat) : (s.raise f i j).auth = s.auth := rfl
@[simp] theorem State.raise_lbCmd (f : Fld) (i j : Nat) : (s.raise f i j).lbCmd = s.lbCmd := rfl
@[simp] theorem State.raise_logSeq (f : Fld) (i j : Nat) : (s.raise f i j).logSeq = s.logSeq := rfl
@[simp] theorem State.raise_winEnd (f : Fld) (i j : Nat) : (s.raise f i j).winEnd = s.winEnd := rfl
@[simp] theorem State.raise_injAt (f : Fld) (i j : Nat) : (s.raise f i j).injAt = s.injAt := rfl
@[simp] theorem State.raise_us (f : Fld) (i j : Nat) : (s.raise f i j).us = s.us := rfl
@[simp] theorem State.raise_free (f : Fld) (i j : Nat) : (s.raise f i j).free = s.free := rfl
@[simp] theorem State.raise_pending (f : Fld) (i j : Nat) : (s.raise f i j).pending = s.pending := rfl

@[simp] theorem State.plainWrite_fuse (k : RegKey) (v : W32) : (s.plainWrite k v).fuse = s.fuse := rfl
@[simp] theorem State.plainWrite_cars (k : RegKey) (v : W32) : (s.plainWrite k v).cars = s.cars := rfl
@[simp] theorem State.plainWrite_scs (k : RegKey) (v : W32) : (s.plainWrite k v).scs = s.scs := rfl
@[simp] theorem State.plainWrite_grps (k : RegKey) (v : W32) : (s.plainWrite k v).grps = s.grps := rfl
@[simp] theorem State.plainWrite_fab (k : RegKey) (v : W32) : (s.plainWrite k v).fab = s.fab := rfl
@[simp] theorem State.plainWrite_logQ (k : RegKey) (v : W32) : (s.plainWrite k v).logQ = s.logQ := rfl
@[simp] theorem State.plainWrite_logLost (k : RegKey) (v : W32) : (s.plainWrite k v).logLost = s.logLost := rfl
@[simp] theorem State.plainWrite_pmkTime (k : RegKey) (v : W32) : (s.plainWrite k v).pmkTime = s.pmkTime := rfl
@[simp] theorem State.plainWrite_asserted (k : RegKey) (v : W32) : (s.plainWrite k v).asserted = s.asserted := rfl
@[simp] theorem State.plainWrite_pccTx (k : RegKey) (v : W32) : (s.plainWrite k v).pccTx = s.pccTx := rfl
@[simp] theorem State.plainWrite_pccRx (k : RegKey) (v : W32) : (s.plainWrite k v).pccRx = s.pccRx := rfl
@[simp] theorem State.plainWrite_pccFifo (k : RegKey) (v : W32) : (s.plainWrite k v).pccFifo = s.pccFifo := rfl
@[simp] theorem State.plainWrite_flows (k : RegKey) (v : W32) : (s.plainWrite k v).flows = s.flows := rfl
@[simp] theorem State.plainWrite_delin (k : RegKey) (v : W32) : (s.plainWrite k v).delin = s.delin := rfl
@[simp] theorem State.plainWrite_hay (k : RegKey) (v : W32) : (s.plainWrite k v).hay = s.hay := rfl
@[simp] theorem State.plainWrite_hayMem (k : RegKey) (v : W32) : (s.plainWrite k v).hayMem = s.hayMem := rfl
@[simp] theorem State.plainWrite_cip (k : RegKey) (v : W32) : (s.plainWrite k v).cip = s.cip := rfl
@[simp] theorem State.plainWrite_yardSt (k : RegKey) (v : W32) : (s.plainWrite k v).yardSt = s.yardSt := rfl
@[simp] theorem State.plainWrite_mccTx (k : RegKey) (v : W32) : (s.plainWrite k v).mccTx = s.mccTx := rfl
@[simp] theorem State.plainWrite_mccRx (k : RegKey) (v : W32) : (s.plainWrite k v).mccRx = s.mccRx := rfl
@[simp] theorem State.plainWrite_drr (k : RegKey) (v : W32) : (s.plainWrite k v).drr = s.drr := rfl
@[simp] theorem State.plainWrite_stb (k : RegKey) (v : W32) : (s.plainWrite k v).stb = s.stb := rfl
@[simp] theorem State.plainWrite_plls (k : RegKey) (v : W32) : (s.plainWrite k v).plls = s.plls := rfl
@[simp] theorem State.plainWrite_cfgBad (k : RegKey) (v : W32) : (s.plainWrite k v).cfgBad = s.cfgBad := rfl
@[simp] theorem State.plainWrite_pmk (k : RegKey) (v : W32) : (s.plainWrite k v).pmk = s.pmk := rfl
@[simp] theorem State.plainWrite_mon (k : RegKey) (v : W32) : (s.plainWrite k v).mon = s.mon := rfl
@[simp] theorem State.plainWrite_monSnap (k : RegKey) (v : W32) : (s.plainWrite k v).monSnap = s.monSnap := rfl
@[simp] theorem State.plainWrite_monFree (k : RegKey) (v : W32) : (s.plainWrite k v).monFree = s.monFree := rfl
@[simp] theorem State.plainWrite_pwr (k : RegKey) (v : W32) : (s.plainWrite k v).pwr = s.pwr := rfl
@[simp] theorem State.plainWrite_retryLane (k : RegKey) (v : W32) : (s.plainWrite k v).retryLane = s.retryLane := rfl
@[simp] theorem State.plainWrite_prbsAcc (k : RegKey) (v : W32) : (s.plainWrite k v).prbsAcc = s.prbsAcc := rfl
@[simp] theorem State.plainWrite_prbsInj (k : RegKey) (v : W32) : (s.plainWrite k v).prbsInj = s.prbsInj := rfl
@[simp] theorem State.plainWrite_links (k : RegKey) (v : W32) : (s.plainWrite k v).links = s.links := rfl
@[simp] theorem State.plainWrite_rmt (k : RegKey) (v : W32) : (s.plainWrite k v).rmt = s.rmt := rfl
@[simp] theorem State.plainWrite_img (k : RegKey) (v : W32) : (s.plainWrite k v).img = s.img := rfl
@[simp] theorem State.plainWrite_imgRx (k : RegKey) (v : W32) : (s.plainWrite k v).imgRx = s.imgRx := rfl
@[simp] theorem State.plainWrite_yardTx (k : RegKey) (v : W32) : (s.plainWrite k v).yardTx = s.yardTx := rfl
@[simp] theorem State.plainWrite_tack (k : RegKey) (v : W32) : (s.plainWrite k v).tack = s.tack := rfl
@[simp] theorem State.plainWrite_ram (k : RegKey) (v : W32) : (s.plainWrite k v).ram = s.ram := rfl
@[simp] theorem State.plainWrite_cal (k : RegKey) (v : W32) : (s.plainWrite k v).cal = s.cal := rfl
@[simp] theorem State.plainWrite_bst (k : RegKey) (v : W32) : (s.plainWrite k v).bst = s.bst := rfl
@[simp] theorem State.plainWrite_boot (k : RegKey) (v : W32) : (s.plainWrite k v).boot = s.boot := rfl
@[simp] theorem State.plainWrite_seqLevel (k : RegKey) (v : W32) : (s.plainWrite k v).seqLevel = s.seqLevel := rfl
@[simp] theorem State.plainWrite_lcMove (k : RegKey) (v : W32) : (s.plainWrite k v).lcMove = s.lcMove := rfl
@[simp] theorem State.plainWrite_lcAuth (k : RegKey) (v : W32) : (s.plainWrite k v).lcAuth = s.lcAuth := rfl
@[simp] theorem State.plainWrite_auth (k : RegKey) (v : W32) : (s.plainWrite k v).auth = s.auth := rfl
@[simp] theorem State.plainWrite_lbCmd (k : RegKey) (v : W32) : (s.plainWrite k v).lbCmd = s.lbCmd := rfl
@[simp] theorem State.plainWrite_logSeq (k : RegKey) (v : W32) : (s.plainWrite k v).logSeq = s.logSeq := rfl
@[simp] theorem State.plainWrite_winEnd (k : RegKey) (v : W32) : (s.plainWrite k v).winEnd = s.winEnd := rfl
@[simp] theorem State.plainWrite_injAt (k : RegKey) (v : W32) : (s.plainWrite k v).injAt = s.injAt := rfl
@[simp] theorem State.plainWrite_us (k : RegKey) (v : W32) : (s.plainWrite k v).us = s.us := rfl
@[simp] theorem State.plainWrite_free (k : RegKey) (v : W32) : (s.plainWrite k v).free = s.free := rfl
@[simp] theorem State.plainWrite_pending (k : RegKey) (v : W32) : (s.plainWrite k v).pending = s.pending := rfl

@[simp] theorem State.bump_fuse (k : RegKey) : (s.bump k).fuse = s.fuse := rfl
@[simp] theorem State.bump_cars (k : RegKey) : (s.bump k).cars = s.cars := rfl
@[simp] theorem State.bump_scs (k : RegKey) : (s.bump k).scs = s.scs := rfl
@[simp] theorem State.bump_grps (k : RegKey) : (s.bump k).grps = s.grps := rfl
@[simp] theorem State.bump_fab (k : RegKey) : (s.bump k).fab = s.fab := rfl
@[simp] theorem State.bump_logQ (k : RegKey) : (s.bump k).logQ = s.logQ := rfl
@[simp] theorem State.bump_logLost (k : RegKey) : (s.bump k).logLost = s.logLost := rfl
@[simp] theorem State.bump_pmkTime (k : RegKey) : (s.bump k).pmkTime = s.pmkTime := rfl
@[simp] theorem State.bump_asserted (k : RegKey) : (s.bump k).asserted = s.asserted := rfl
@[simp] theorem State.bump_pccTx (k : RegKey) : (s.bump k).pccTx = s.pccTx := rfl
@[simp] theorem State.bump_pccRx (k : RegKey) : (s.bump k).pccRx = s.pccRx := rfl
@[simp] theorem State.bump_pccFifo (k : RegKey) : (s.bump k).pccFifo = s.pccFifo := rfl
@[simp] theorem State.bump_flows (k : RegKey) : (s.bump k).flows = s.flows := rfl
@[simp] theorem State.bump_delin (k : RegKey) : (s.bump k).delin = s.delin := rfl
@[simp] theorem State.bump_hay (k : RegKey) : (s.bump k).hay = s.hay := rfl
@[simp] theorem State.bump_hayMem (k : RegKey) : (s.bump k).hayMem = s.hayMem := rfl
@[simp] theorem State.bump_cip (k : RegKey) : (s.bump k).cip = s.cip := rfl
@[simp] theorem State.bump_yardSt (k : RegKey) : (s.bump k).yardSt = s.yardSt := rfl
@[simp] theorem State.bump_mccTx (k : RegKey) : (s.bump k).mccTx = s.mccTx := rfl
@[simp] theorem State.bump_mccRx (k : RegKey) : (s.bump k).mccRx = s.mccRx := rfl
@[simp] theorem State.bump_drr (k : RegKey) : (s.bump k).drr = s.drr := rfl
@[simp] theorem State.bump_stb (k : RegKey) : (s.bump k).stb = s.stb := rfl
@[simp] theorem State.bump_plls (k : RegKey) : (s.bump k).plls = s.plls := rfl
@[simp] theorem State.bump_cfgBad (k : RegKey) : (s.bump k).cfgBad = s.cfgBad := rfl
@[simp] theorem State.bump_pmk (k : RegKey) : (s.bump k).pmk = s.pmk := rfl
@[simp] theorem State.bump_mon (k : RegKey) : (s.bump k).mon = s.mon := rfl
@[simp] theorem State.bump_monSnap (k : RegKey) : (s.bump k).monSnap = s.monSnap := rfl
@[simp] theorem State.bump_monFree (k : RegKey) : (s.bump k).monFree = s.monFree := rfl
@[simp] theorem State.bump_pwr (k : RegKey) : (s.bump k).pwr = s.pwr := rfl
@[simp] theorem State.bump_retryLane (k : RegKey) : (s.bump k).retryLane = s.retryLane := rfl
@[simp] theorem State.bump_prbsAcc (k : RegKey) : (s.bump k).prbsAcc = s.prbsAcc := rfl
@[simp] theorem State.bump_prbsInj (k : RegKey) : (s.bump k).prbsInj = s.prbsInj := rfl
@[simp] theorem State.bump_links (k : RegKey) : (s.bump k).links = s.links := rfl
@[simp] theorem State.bump_rmt (k : RegKey) : (s.bump k).rmt = s.rmt := rfl
@[simp] theorem State.bump_img (k : RegKey) : (s.bump k).img = s.img := rfl
@[simp] theorem State.bump_imgRx (k : RegKey) : (s.bump k).imgRx = s.imgRx := rfl
@[simp] theorem State.bump_yardTx (k : RegKey) : (s.bump k).yardTx = s.yardTx := rfl
@[simp] theorem State.bump_tack (k : RegKey) : (s.bump k).tack = s.tack := rfl
@[simp] theorem State.bump_ram (k : RegKey) : (s.bump k).ram = s.ram := rfl
@[simp] theorem State.bump_cal (k : RegKey) : (s.bump k).cal = s.cal := rfl
@[simp] theorem State.bump_bst (k : RegKey) : (s.bump k).bst = s.bst := rfl
@[simp] theorem State.bump_boot (k : RegKey) : (s.bump k).boot = s.boot := rfl
@[simp] theorem State.bump_seqLevel (k : RegKey) : (s.bump k).seqLevel = s.seqLevel := rfl
@[simp] theorem State.bump_lcMove (k : RegKey) : (s.bump k).lcMove = s.lcMove := rfl
@[simp] theorem State.bump_lcAuth (k : RegKey) : (s.bump k).lcAuth = s.lcAuth := rfl
@[simp] theorem State.bump_auth (k : RegKey) : (s.bump k).auth = s.auth := rfl
@[simp] theorem State.bump_lbCmd (k : RegKey) : (s.bump k).lbCmd = s.lbCmd := rfl
@[simp] theorem State.bump_logSeq (k : RegKey) : (s.bump k).logSeq = s.logSeq := rfl
@[simp] theorem State.bump_winEnd (k : RegKey) : (s.bump k).winEnd = s.winEnd := rfl
@[simp] theorem State.bump_injAt (k : RegKey) : (s.bump k).injAt = s.injAt := rfl
@[simp] theorem State.bump_us (k : RegKey) : (s.bump k).us = s.us := rfl
@[simp] theorem State.bump_free (k : RegKey) : (s.bump k).free = s.free := rfl
@[simp] theorem State.bump_pending (k : RegKey) : (s.bump k).pending = s.pending := rfl

@[simp] theorem State.clr_fuse (k : RegKey) : (s.clr k).fuse = s.fuse := rfl
@[simp] theorem State.clr_cars (k : RegKey) : (s.clr k).cars = s.cars := rfl
@[simp] theorem State.clr_scs (k : RegKey) : (s.clr k).scs = s.scs := rfl
@[simp] theorem State.clr_grps (k : RegKey) : (s.clr k).grps = s.grps := rfl
@[simp] theorem State.clr_fab (k : RegKey) : (s.clr k).fab = s.fab := rfl
@[simp] theorem State.clr_logQ (k : RegKey) : (s.clr k).logQ = s.logQ := rfl
@[simp] theorem State.clr_logLost (k : RegKey) : (s.clr k).logLost = s.logLost := rfl
@[simp] theorem State.clr_pmkTime (k : RegKey) : (s.clr k).pmkTime = s.pmkTime := rfl
@[simp] theorem State.clr_asserted (k : RegKey) : (s.clr k).asserted = s.asserted := rfl
@[simp] theorem State.clr_pccTx (k : RegKey) : (s.clr k).pccTx = s.pccTx := rfl
@[simp] theorem State.clr_pccRx (k : RegKey) : (s.clr k).pccRx = s.pccRx := rfl
@[simp] theorem State.clr_pccFifo (k : RegKey) : (s.clr k).pccFifo = s.pccFifo := rfl
@[simp] theorem State.clr_flows (k : RegKey) : (s.clr k).flows = s.flows := rfl
@[simp] theorem State.clr_delin (k : RegKey) : (s.clr k).delin = s.delin := rfl
@[simp] theorem State.clr_hay (k : RegKey) : (s.clr k).hay = s.hay := rfl
@[simp] theorem State.clr_hayMem (k : RegKey) : (s.clr k).hayMem = s.hayMem := rfl
@[simp] theorem State.clr_cip (k : RegKey) : (s.clr k).cip = s.cip := rfl
@[simp] theorem State.clr_yardSt (k : RegKey) : (s.clr k).yardSt = s.yardSt := rfl
@[simp] theorem State.clr_mccTx (k : RegKey) : (s.clr k).mccTx = s.mccTx := rfl
@[simp] theorem State.clr_mccRx (k : RegKey) : (s.clr k).mccRx = s.mccRx := rfl
@[simp] theorem State.clr_drr (k : RegKey) : (s.clr k).drr = s.drr := rfl
@[simp] theorem State.clr_stb (k : RegKey) : (s.clr k).stb = s.stb := rfl
@[simp] theorem State.clr_plls (k : RegKey) : (s.clr k).plls = s.plls := rfl
@[simp] theorem State.clr_cfgBad (k : RegKey) : (s.clr k).cfgBad = s.cfgBad := rfl
@[simp] theorem State.clr_pmk (k : RegKey) : (s.clr k).pmk = s.pmk := rfl
@[simp] theorem State.clr_mon (k : RegKey) : (s.clr k).mon = s.mon := rfl
@[simp] theorem State.clr_monSnap (k : RegKey) : (s.clr k).monSnap = s.monSnap := rfl
@[simp] theorem State.clr_monFree (k : RegKey) : (s.clr k).monFree = s.monFree := rfl
@[simp] theorem State.clr_pwr (k : RegKey) : (s.clr k).pwr = s.pwr := rfl
@[simp] theorem State.clr_retryLane (k : RegKey) : (s.clr k).retryLane = s.retryLane := rfl
@[simp] theorem State.clr_prbsAcc (k : RegKey) : (s.clr k).prbsAcc = s.prbsAcc := rfl
@[simp] theorem State.clr_prbsInj (k : RegKey) : (s.clr k).prbsInj = s.prbsInj := rfl
@[simp] theorem State.clr_links (k : RegKey) : (s.clr k).links = s.links := rfl
@[simp] theorem State.clr_rmt (k : RegKey) : (s.clr k).rmt = s.rmt := rfl
@[simp] theorem State.clr_img (k : RegKey) : (s.clr k).img = s.img := rfl
@[simp] theorem State.clr_imgRx (k : RegKey) : (s.clr k).imgRx = s.imgRx := rfl
@[simp] theorem State.clr_yardTx (k : RegKey) : (s.clr k).yardTx = s.yardTx := rfl
@[simp] theorem State.clr_tack (k : RegKey) : (s.clr k).tack = s.tack := rfl
@[simp] theorem State.clr_ram (k : RegKey) : (s.clr k).ram = s.ram := rfl
@[simp] theorem State.clr_cal (k : RegKey) : (s.clr k).cal = s.cal := rfl
@[simp] theorem State.clr_bst (k : RegKey) : (s.clr k).bst = s.bst := rfl
@[simp] theorem State.clr_boot (k : RegKey) : (s.clr k).boot = s.boot := rfl
@[simp] theorem State.clr_seqLevel (k : RegKey) : (s.clr k).seqLevel = s.seqLevel := rfl
@[simp] theorem State.clr_lcMove (k : RegKey) : (s.clr k).lcMove = s.lcMove := rfl
@[simp] theorem State.clr_lcAuth (k : RegKey) : (s.clr k).lcAuth = s.lcAuth := rfl
@[simp] theorem State.clr_auth (k : RegKey) : (s.clr k).auth = s.auth := rfl
@[simp] theorem State.clr_lbCmd (k : RegKey) : (s.clr k).lbCmd = s.lbCmd := rfl
@[simp] theorem State.clr_logSeq (k : RegKey) : (s.clr k).logSeq = s.logSeq := rfl
@[simp] theorem State.clr_winEnd (k : RegKey) : (s.clr k).winEnd = s.winEnd := rfl
@[simp] theorem State.clr_injAt (k : RegKey) : (s.clr k).injAt = s.injAt := rfl
@[simp] theorem State.clr_us (k : RegKey) : (s.clr k).us = s.us := rfl
@[simp] theorem State.clr_free (k : RegKey) : (s.clr k).free = s.free := rfl
@[simp] theorem State.clr_pending (k : RegKey) : (s.clr k).pending = s.pending := rfl

@[simp] theorem State.rewritten_fuse (k : RegKey) : (s.rewritten k).fuse = s.fuse := rfl
@[simp] theorem State.rewritten_cars (k : RegKey) : (s.rewritten k).cars = s.cars := rfl
@[simp] theorem State.rewritten_scs (k : RegKey) : (s.rewritten k).scs = s.scs := rfl
@[simp] theorem State.rewritten_grps (k : RegKey) : (s.rewritten k).grps = s.grps := rfl
@[simp] theorem State.rewritten_fab (k : RegKey) : (s.rewritten k).fab = s.fab := rfl
@[simp] theorem State.rewritten_logQ (k : RegKey) : (s.rewritten k).logQ = s.logQ := rfl
@[simp] theorem State.rewritten_logLost (k : RegKey) : (s.rewritten k).logLost = s.logLost := rfl
@[simp] theorem State.rewritten_pmkTime (k : RegKey) : (s.rewritten k).pmkTime = s.pmkTime := rfl
@[simp] theorem State.rewritten_asserted (k : RegKey) : (s.rewritten k).asserted = s.asserted := rfl
@[simp] theorem State.rewritten_pccTx (k : RegKey) : (s.rewritten k).pccTx = s.pccTx := rfl
@[simp] theorem State.rewritten_pccRx (k : RegKey) : (s.rewritten k).pccRx = s.pccRx := rfl
@[simp] theorem State.rewritten_pccFifo (k : RegKey) : (s.rewritten k).pccFifo = s.pccFifo := rfl
@[simp] theorem State.rewritten_flows (k : RegKey) : (s.rewritten k).flows = s.flows := rfl
@[simp] theorem State.rewritten_delin (k : RegKey) : (s.rewritten k).delin = s.delin := rfl
@[simp] theorem State.rewritten_hay (k : RegKey) : (s.rewritten k).hay = s.hay := rfl
@[simp] theorem State.rewritten_hayMem (k : RegKey) : (s.rewritten k).hayMem = s.hayMem := rfl
@[simp] theorem State.rewritten_cip (k : RegKey) : (s.rewritten k).cip = s.cip := rfl
@[simp] theorem State.rewritten_yardSt (k : RegKey) : (s.rewritten k).yardSt = s.yardSt := rfl
@[simp] theorem State.rewritten_mccTx (k : RegKey) : (s.rewritten k).mccTx = s.mccTx := rfl
@[simp] theorem State.rewritten_mccRx (k : RegKey) : (s.rewritten k).mccRx = s.mccRx := rfl
@[simp] theorem State.rewritten_drr (k : RegKey) : (s.rewritten k).drr = s.drr := rfl
@[simp] theorem State.rewritten_stb (k : RegKey) : (s.rewritten k).stb = s.stb := rfl
@[simp] theorem State.rewritten_plls (k : RegKey) : (s.rewritten k).plls = s.plls := rfl
@[simp] theorem State.rewritten_pmk (k : RegKey) : (s.rewritten k).pmk = s.pmk := rfl
@[simp] theorem State.rewritten_mon (k : RegKey) : (s.rewritten k).mon = s.mon := rfl
@[simp] theorem State.rewritten_monSnap (k : RegKey) : (s.rewritten k).monSnap = s.monSnap := rfl
@[simp] theorem State.rewritten_monFree (k : RegKey) : (s.rewritten k).monFree = s.monFree := rfl
@[simp] theorem State.rewritten_pwr (k : RegKey) : (s.rewritten k).pwr = s.pwr := rfl
@[simp] theorem State.rewritten_retryLane (k : RegKey) : (s.rewritten k).retryLane = s.retryLane := rfl
@[simp] theorem State.rewritten_prbsAcc (k : RegKey) : (s.rewritten k).prbsAcc = s.prbsAcc := rfl
@[simp] theorem State.rewritten_prbsInj (k : RegKey) : (s.rewritten k).prbsInj = s.prbsInj := rfl
@[simp] theorem State.rewritten_links (k : RegKey) : (s.rewritten k).links = s.links := rfl
@[simp] theorem State.rewritten_rmt (k : RegKey) : (s.rewritten k).rmt = s.rmt := rfl
@[simp] theorem State.rewritten_img (k : RegKey) : (s.rewritten k).img = s.img := rfl
@[simp] theorem State.rewritten_imgRx (k : RegKey) : (s.rewritten k).imgRx = s.imgRx := rfl
@[simp] theorem State.rewritten_yardTx (k : RegKey) : (s.rewritten k).yardTx = s.yardTx := rfl
@[simp] theorem State.rewritten_tack (k : RegKey) : (s.rewritten k).tack = s.tack := rfl
@[simp] theorem State.rewritten_ram (k : RegKey) : (s.rewritten k).ram = s.ram := rfl
@[simp] theorem State.rewritten_cal (k : RegKey) : (s.rewritten k).cal = s.cal := rfl
@[simp] theorem State.rewritten_bst (k : RegKey) : (s.rewritten k).bst = s.bst := rfl
@[simp] theorem State.rewritten_boot (k : RegKey) : (s.rewritten k).boot = s.boot := rfl
@[simp] theorem State.rewritten_seqLevel (k : RegKey) : (s.rewritten k).seqLevel = s.seqLevel := rfl
@[simp] theorem State.rewritten_lcMove (k : RegKey) : (s.rewritten k).lcMove = s.lcMove := rfl
@[simp] theorem State.rewritten_lcAuth (k : RegKey) : (s.rewritten k).lcAuth = s.lcAuth := rfl
@[simp] theorem State.rewritten_auth (k : RegKey) : (s.rewritten k).auth = s.auth := rfl
@[simp] theorem State.rewritten_lbCmd (k : RegKey) : (s.rewritten k).lbCmd = s.lbCmd := rfl
@[simp] theorem State.rewritten_logSeq (k : RegKey) : (s.rewritten k).logSeq = s.logSeq := rfl
@[simp] theorem State.rewritten_winEnd (k : RegKey) : (s.rewritten k).winEnd = s.winEnd := rfl
@[simp] theorem State.rewritten_injAt (k : RegKey) : (s.rewritten k).injAt = s.injAt := rfl
@[simp] theorem State.rewritten_us (k : RegKey) : (s.rewritten k).us = s.us := rfl
@[simp] theorem State.rewritten_free (k : RegKey) : (s.rewritten k).free = s.free := rfl
@[simp] theorem State.rewritten_pending (k : RegKey) : (s.rewritten k).pending = s.pending := rfl

@[simp] theorem State.when_true (f : State → State) : s.when true f = f s := rfl

@[simp] theorem State.when_false (f : State → State) : s.when false f = s := rfl

end Sys2Proof.Machine
end

