-- ==== Sys2Proof/Laws/Mem.lean ====
section
/-! SUPPORT. The memories: every operation on their bytes keeps the canonical form, and what a byte reads as afterwards. -/

namespace Sys2Proof.Machine

theorem Memory.wf_nil : Memory.wf [] = true := rfl

theorem Memory.wf_set {t : NTab Byte} (h : Memory.wf t = true) (a : Nat) (b : Byte) :
    Memory.wf (NTab.set 0 t a b) = true := NTab.wf_set a b h

theorem Memory.wf_filter {t : NTab Byte} (h : Memory.wf t = true) (p : Nat × Byte → Bool) :
    Memory.wf (t.filter p) = true := Tab.wf_filter p h

theorem Memory.wf_foldl {α : Type} {f : NTab Byte → α → NTab Byte}
    (hf : ∀ t a, Memory.wf t = true → Memory.wf (f t a) = true) (l : List α) {t : NTab Byte} (h : Memory.wf t = true) :
    Memory.wf (l.foldl f t) = true := by
  induction l generalizing t with
  | nil => exact h
  | cons a l ih => exact ih (hf _ _ h)

theorem Memory.wf_putBytes (l : List Byte) {t : NTab Byte} (h : Memory.wf t = true) (a : Nat) :
    Memory.wf (putBytes t a l) = true := by
  induction l generalizing t a with
  | nil => exact h
  | cons b l ih => exact ih (Memory.wf_set h a b) (a + 1)

/-- Bytes placed from `a` on leave every byte outside them alone. -/
theorem get_putBytes_of_not_mem (l : List Byte) {t : NTab Byte} {a x : Nat} (h : x < a ∨ a + l.length ≤ x) :
    (putBytes t a l).get 0 x = t.get 0 x := by
  induction l generalizing t a with
  | nil => rfl
  | cons b l ih =>
    have hx : x ≠ a := by rintro rfl; simp only [List.length_cons] at h; omega
    have h' : x < a + 1 ∨ a + 1 + l.length ≤ x := by simp only [List.length_cons] at h; omega
    rw [putBytes, ih h', NTab.get_set_ne _ _ hx]

/-- Bytes placed from `a` on read back as they were placed. -/
theorem get_putBytes (l : List Byte) {t : NTab Byte} {a i : Nat} (h : i < l.length) :
    (putBytes t a l).get 0 (a + i) = l[i] := by
  induction l generalizing t a i with
  | nil => simp at h
  | cons b l ih =>
    cases i with
    | zero => rw [putBytes, get_putBytes_of_not_mem l (by omega)]; simp
    | succ i =>
      simp only [List.length_cons] at h
      rw [putBytes, show a + (i + 1) = (a + 1) + i by omega, ih (by omega)]
      simp

/-- A part of the register file is as well kept as the whole. -/
theorem State.regsOk_filter {s : State} (p : RegKey × W32 → Bool) (h : s.regsOk = true) :
    ({ s with regs := s.regs.filter p } : State).regsOk = true := by
  simp only [State.regsOk, Bool.and_eq_true, List.all_eq_true, List.mem_filter] at *
  exact ⟨Tab.wf_filter p h.1, fun e he => h.2 e he.1⟩

end Sys2Proof.Machine
end

