-- ==== Sys2Proof/Laws/Upd.lean ====
section
/-! SUPPORT. What an operation may change: its footprint, a set of bits (bit n below 600 for the register whose name has
index n, the bits from 600 on for the other fields of the state in their order), with the promise that it keeps the
invariant and the queue. The combinators of the meanings (when, upto, each) keep footprints. -/

namespace Sys2Proof.Machine

/-- `t` comes from `s` by changes within the footprint `w`. -/
structure Upd (w : Nat) (s t : State) : Prop where
  reg : ∀ k : RegKey, w.testBit k.id.ctorIdx = false → t.rd k = s.rd k
  inv : s.Inv → t.Inv
  pending : t.pending = s.pending
  fuse : w.testBit 600 = false → t.fuse = s.fuse
  cars : w.testBit 601 = false → t.cars = s.cars
  scs : w.testBit 602 = false → t.scs = s.scs
  grps : w.testBit 603 = false → t.grps = s.grps
  fab : w.testBit 604 = false → t.fab = s.fab
  logQ : w.testBit 605 = false → t.logQ = s.logQ
  logLost : w.testBit 606 = false → t.logLost = s.logLost
  logAt : w.testBit 607 = false → t.logAt = s.logAt
  pmkTime : w.testBit 608 = false → t.pmkTime = s.pmkTime
  asserted : w.testBit 609 = false → t.asserted = s.asserted
  pccTx : w.testBit 610 = false → t.pccTx = s.pccTx
  pccRx : w.testBit 611 = false → t.pccRx = s.pccRx
  pccFifo : w.testBit 612 = false → t.pccFifo = s.pccFifo
  flows : w.testBit 613 = false → t.flows = s.flows
  delin : w.testBit 614 = false → t.delin = s.delin
  ports : w.testBit 615 = false → t.ports = s.ports
  hay : w.testBit 616 = false → t.hay = s.hay
  hayMem : w.testBit 617 = false → t.hayMem = s.hayMem
  cip : w.testBit 618 = false → t.cip = s.cip
  yardSt : w.testBit 619 = false → t.yardSt = s.yardSt
  mccTx : w.testBit 620 = false → t.mccTx = s.mccTx
  mccRx : w.testBit 621 = false → t.mccRx = s.mccRx
  drr : w.testBit 622 = false → t.drr = s.drr
  stb : w.testBit 623 = false → t.stb = s.stb
  plls : w.testBit 624 = false → t.plls = s.plls
  cfgBad : w.testBit 625 = false → t.cfgBad = s.cfgBad
  pmk : w.testBit 626 = false → t.pmk = s.pmk
  mon : w.testBit 627 = false → t.mon = s.mon
  monSnap : w.testBit 628 = false → t.monSnap = s.monSnap
  monFree : w.testBit 629 = false → t.monFree = s.monFree
  monAt : w.testBit 630 = false → t.monAt = s.monAt
  bins : w.testBit 631 = false → t.bins = s.bins
  pwr : w.testBit 632 = false → t.pwr = s.pwr
  retryLane : w.testBit 633 = false → t.retryLane = s.retryLane
  prbsAcc : w.testBit 634 = false → t.prbsAcc = s.prbsAcc
  prbsInj : w.testBit 635 = false → t.prbsInj = s.prbsInj
  links : w.testBit 636 = false → t.links = s.links
  rmt : w.testBit 637 = false → t.rmt = s.rmt
  img : w.testBit 638 = false → t.img = s.img
  imgRx : w.testBit 639 = false → t.imgRx = s.imgRx
  yardTx : w.testBit 640 = false → t.yardTx = s.yardTx
  tack : w.testBit 641 = false → t.tack = s.tack
  ram : w.testBit 642 = false → t.ram = s.ram
  cal : w.testBit 643 = false → t.cal = s.cal
  bst : w.testBit 644 = false → t.bst = s.bst
  boot : w.testBit 645 = false → t.boot = s.boot
  seqLevel : w.testBit 646 = false → t.seqLevel = s.seqLevel
  lcMove : w.testBit 647 = false → t.lcMove = s.lcMove
  lcAuth : w.testBit 648 = false → t.lcAuth = s.lcAuth
  auth : w.testBit 649 = false → t.auth = s.auth
  lbCmd : w.testBit 650 = false → t.lbCmd = s.lbCmd
  logSeq : w.testBit 651 = false → t.logSeq = s.logSeq
  winEnd : w.testBit 652 = false → t.winEnd = s.winEnd
  injAt : w.testBit 653 = false → t.injAt = s.injAt
  segBad : w.testBit 654 = false → t.segBad = s.segBad
  dumpAt : w.testBit 655 = false → t.dumpAt = s.dumpAt
  us : w.testBit 656 = false → t.us = s.us
  free : w.testBit 657 = false → t.free = s.free

variable {w w' : Nat} {s t u : State}

theorem Upd.refl (w : Nat) (s : State) : Upd w s s := by constructor <;> intros <;> first | rfl | assumption

theorem Upd.trans (h : Upd w s t) (g : Upd w t u) : Upd w s u where
  reg k hk := (g.reg k hk).trans (h.reg k hk)
  inv hi := g.inv (h.inv hi)
  pending := g.pending.trans h.pending
  fuse hw := (g.fuse hw).trans (h.fuse hw)
  cars hw := (g.cars hw).trans (h.cars hw)
  scs hw := (g.scs hw).trans (h.scs hw)
  grps hw := (g.grps hw).trans (h.grps hw)
  fab hw := (g.fab hw).trans (h.fab hw)
  logQ hw := (g.logQ hw).trans (h.logQ hw)
  logLost hw := (g.logLost hw).trans (h.logLost hw)
  logAt hw := (g.logAt hw).trans (h.logAt hw)
  pmkTime hw := (g.pmkTime hw).trans (h.pmkTime hw)
  asserted hw := (g.asserted hw).trans (h.asserted hw)
  pccTx hw := (g.pccTx hw).trans (h.pccTx hw)
  pccRx hw := (g.pccRx hw).trans (h.pccRx hw)
  pccFifo hw := (g.pccFifo hw).trans (h.pccFifo hw)
  flows hw := (g.flows hw).trans (h.flows hw)
  delin hw := (g.delin hw).trans (h.delin hw)
  ports hw := (g.ports hw).trans (h.ports hw)
  hay hw := (g.hay hw).trans (h.hay hw)
  hayMem hw := (g.hayMem hw).trans (h.hayMem hw)
  cip hw := (g.cip hw).trans (h.cip hw)
  yardSt hw := (g.yardSt hw).trans (h.yardSt hw)
  mccTx hw := (g.mccTx hw).trans (h.mccTx hw)
  mccRx hw := (g.mccRx hw).trans (h.mccRx hw)
  drr hw := (g.drr hw).trans (h.drr hw)
  stb hw := (g.stb hw).trans (h.stb hw)
  plls hw := (g.plls hw).trans (h.plls hw)
  cfgBad hw := (g.cfgBad hw).trans (h.cfgBad hw)
  pmk hw := (g.pmk hw).trans (h.pmk hw)
  mon hw := (g.mon hw).trans (h.mon hw)
  monSnap hw := (g.monSnap hw).trans (h.monSnap hw)
  monFree hw := (g.monFree hw).trans (h.monFree hw)
  monAt hw := (g.monAt hw).trans (h.monAt hw)
  bins hw := (g.bins hw).trans (h.bins hw)
  pwr hw := (g.pwr hw).trans (h.pwr hw)
  retryLane hw := (g.retryLane hw).trans (h.retryLane hw)
  prbsAcc hw := (g.prbsAcc hw).trans (h.prbsAcc hw)
  prbsInj hw := (g.prbsInj hw).trans (h.prbsInj hw)
  links hw := (g.links hw).trans (h.links hw)
  rmt hw := (g.rmt hw).trans (h.rmt hw)
  img hw := (g.img hw).trans (h.img hw)
  imgRx hw := (g.imgRx hw).trans (h.imgRx hw)
  yardTx hw := (g.yardTx hw).trans (h.yardTx hw)
  tack hw := (g.tack hw).trans (h.tack hw)
  ram hw := (g.ram hw).trans (h.ram hw)
  cal hw := (g.cal hw).trans (h.cal hw)
  bst hw := (g.bst hw).trans (h.bst hw)
  boot hw := (g.boot hw).trans (h.boot hw)
  seqLevel hw := (g.seqLevel hw).trans (h.seqLevel hw)
  lcMove hw := (g.lcMove hw).trans (h.lcMove hw)
  lcAuth hw := (g.lcAuth hw).trans (h.lcAuth hw)
  auth hw := (g.auth hw).trans (h.auth hw)
  lbCmd hw := (g.lbCmd hw).trans (h.lbCmd hw)
  logSeq hw := (g.logSeq hw).trans (h.logSeq hw)
  winEnd hw := (g.winEnd hw).trans (h.winEnd hw)
  injAt hw := (g.injAt hw).trans (h.injAt hw)
  segBad hw := (g.segBad hw).trans (h.segBad hw)
  dumpAt hw := (g.dumpAt hw).trans (h.dumpAt hw)
  us hw := (g.us hw).trans (h.us hw)
  free hw := (g.free hw).trans (h.free hw)

theorem testBit_sub {a b : Nat} (h : Nat.land a b = a) {i : Nat} (hb : b.testBit i = false) : a.testBit i = false := by
  have : (a &&& b).testBit i = a.testBit i := congrArg (Nat.testBit · i) h
  rw [← this, Nat.testBit_and, hb, Bool.and_false]

theorem testBit_up {a b : Nat} (h : Nat.land a b = a) {i : Nat} (ha : a.testBit i = true) : b.testBit i = true := by
  have : (a &&& b).testBit i = a.testBit i := congrArg (Nat.testBit · i) h
  rw [Nat.testBit_and, ha, Bool.true_and] at this
  exact this

theorem land_trans {a b c : Nat} (h : Nat.land a b = a) (g : Nat.land b c = b) : Nat.land a c = a := by
  apply Nat.eq_of_testBit_eq
  intro i
  show (a &&& c).testBit i = a.testBit i
  rw [Nat.testBit_and]
  cases ha : a.testBit i with
  | false => rfl
  | true => rw [testBit_up g (testBit_up h ha)]; rfl

theorem bit_clash {p : Prop} {i : Nat} (h : w.testBit i = true) (g : w.testBit i = false) : p := by
  rw [h] at g; cases g

/-- A smaller footprint is also within a larger one. -/
theorem Upd.mono (h : Upd w s t) (hw : Nat.land w w' = w) : Upd w' s t where
  reg k hk := h.reg k (testBit_sub hw hk)
  inv := h.inv
  pending := h.pending
  fuse hb := h.fuse (testBit_sub hw hb)
  cars hb := h.cars (testBit_sub hw hb)
  scs hb := h.scs (testBit_sub hw hb)
  grps hb := h.grps (testBit_sub hw hb)
  fab hb := h.fab (testBit_sub hw hb)
  logQ hb := h.logQ (testBit_sub hw hb)
  logLost hb := h.logLost (testBit_sub hw hb)
  logAt hb := h.logAt (testBit_sub hw hb)
  pmkTime hb := h.pmkTime (testBit_sub hw hb)
  asserted hb := h.asserted (testBit_sub hw hb)
  pccTx hb := h.pccTx (testBit_sub hw hb)
  pccRx hb := h.pccRx (testBit_sub hw hb)
  pccFifo hb := h.pccFifo (testBit_sub hw hb)
  flows hb := h.flows (testBit_sub hw hb)
  delin hb := h.delin (testBit_sub hw hb)
  ports hb := h.ports (testBit_sub hw hb)
  hay hb := h.hay (testBit_sub hw hb)
  hayMem hb := h.hayMem (testBit_sub hw hb)
  cip hb := h.cip (testBit_sub hw hb)
  yardSt hb := h.yardSt (testBit_sub hw hb)
  mccTx hb := h.mccTx (testBit_sub hw hb)
  mccRx hb := h.mccRx (testBit_sub hw hb)
  drr hb := h.drr (testBit_sub hw hb)
  stb hb := h.stb (testBit_sub hw hb)
  plls hb := h.plls (testBit_sub hw hb)
  cfgBad hb := h.cfgBad (testBit_sub hw hb)
  pmk hb := h.pmk (testBit_sub hw hb)
  mon hb := h.mon (testBit_sub hw hb)
  monSnap hb := h.monSnap (testBit_sub hw hb)
  monFree hb := h.monFree (testBit_sub hw hb)
  monAt hb := h.monAt (testBit_sub hw hb)
  bins hb := h.bins (testBit_sub hw hb)
  pwr hb := h.pwr (testBit_sub hw hb)
  retryLane hb := h.retryLane (testBit_sub hw hb)
  prbsAcc hb := h.prbsAcc (testBit_sub hw hb)
  prbsInj hb := h.prbsInj (testBit_sub hw hb)
  links hb := h.links (testBit_sub hw hb)
  rmt hb := h.rmt (testBit_sub hw hb)
  img hb := h.img (testBit_sub hw hb)
  imgRx hb := h.imgRx (testBit_sub hw hb)
  yardTx hb := h.yardTx (testBit_sub hw hb)
  tack hb := h.tack (testBit_sub hw hb)
  ram hb := h.ram (testBit_sub hw hb)
  cal hb := h.cal (testBit_sub hw hb)
  bst hb := h.bst (testBit_sub hw hb)
  boot hb := h.boot (testBit_sub hw hb)
  seqLevel hb := h.seqLevel (testBit_sub hw hb)
  lcMove hb := h.lcMove (testBit_sub hw hb)
  lcAuth hb := h.lcAuth (testBit_sub hw hb)
  auth hb := h.auth (testBit_sub hw hb)
  lbCmd hb := h.lbCmd (testBit_sub hw hb)
  logSeq hb := h.logSeq (testBit_sub hw hb)
  winEnd hb := h.winEnd (testBit_sub hw hb)
  injAt hb := h.injAt (testBit_sub hw hb)
  segBad hb := h.segBad (testBit_sub hw hb)
  dumpAt hb := h.dumpAt (testBit_sub hw hb)
  us hb := h.us (testBit_sub hw hb)
  free hb := h.free (testBit_sub hw hb)

/-- One more operation. -/
theorem Upd.step (h : Upd w' s t) (g : Upd w t u) (hw : Nat.land w w' = w) : Upd w' s u := h.trans (g.mono hw)

theorem Upd.cut (h : Upd w s t) (g : Upd w s t → Upd w s u) : Upd w s u := g h

theorem Upd.ite {c : Prop} [Decidable c] (h : Upd w s t) (g : Upd w s u) : Upd w s (if c then t else u) := by
  split <;> assumption

theorem Upd.pair {α : Type} {a : α} (h : Upd w s t) : Upd w s (a, t).2 := h

theorem Upd.iteSnd {α : Type} {c : Prop} [Decidable c] {p q : α × State} (h : Upd w s p.2) (g : Upd w s q.2) :
    Upd w s (if c then p else q).2 := by
  split <;> assumption

theorem Upd.when {b : Bool} {f : State → State} (h : Upd w s t) (hf : ∀ x, Upd w s x → Upd w s (f x)) :
    Upd w s (t.when b f) := by
  unfold State.when
  exact Upd.ite (hf _ h) h

theorem Upd.upto {f : Nat → State → State} (h : Upd w s t) (hf : ∀ n x, Upd w s x → Upd w s (f n x)) (n : Nat) :
    Upd w s (t.upto n f) := by
  induction n with
  | zero => exact h
  | succ n ih => exact hf _ _ ih

theorem Upd.each {α : Type} {f : α → State → State} (h : Upd w s t) (hf : ∀ a x, Upd w s x → Upd w s (f a x))
    (l : List α) : Upd w s (t.each l f) := by
  induction l generalizing t with
  | nil => exact h
  | cons a l ih => exact ih (hf _ _ h)

theorem Upd.eachMem {α : Type} {f : α → State → State} {l : List α} (h : Upd w s t)
    (hf : ∀ a ∈ l, ∀ x, Upd w s x → Upd w s (f a x)) : Upd w s (t.each l f) := by
  induction l generalizing t with
  | nil => exact h
  | cons a l ih => exact ih (hf a (by simp) _ h) fun b hb => hf b (by simp [hb])

theorem Upd.foldl {α : Type} {f : State → α → State} (h : Upd w s t) (hf : ∀ x a, Upd w s x → Upd w s (f x a))
    (l : List α) : Upd w s (l.foldl f t) := by
  induction l generalizing t with
  | nil => exact h
  | cons a l ih => exact ih (hf _ _ h)

/-! ## One field of the state replaced -/

theorem Upd.set_fuse {v : Fuses} (h : Upd w s t) (hw : w.testBit 600 = true) :
    Upd w s { t with fuse := v } :=
  { h with reg := h.reg, inv := h.inv, fuse := fun hb => by rw [hw] at hb; cases hb }

theorem Upd.set_cars {v : NTab Carrier} (h : Upd w s t) (hw : w.testBit 601 = true) :
    Upd w s { t with cars := v } :=
  { h with reg := h.reg, inv := h.inv, cars := fun hb => by rw [hw] at hb; cases hb }

theorem Upd.set_scs {v : NTab Sc} (h : Upd w s t) (hw : w.testBit 602 = true) :
    Upd w s { t with scs := v } :=
  { h with reg := h.reg, inv := h.inv, scs := fun hb => by rw [hw] at hb; cases hb }

theorem Upd.set_grps {v : NTab Group} (h : Upd w s t) (hw : w.testBit 603 = true) :
    Upd w s { t with grps := v } :=
  { h with reg := h.reg, inv := h.inv, grps := fun hb => by rw [hw] at hb; cases hb }

theorem Upd.set_fab {v : Fabric} (h : Upd w s t) (hw : w.testBit 604 = true) :
    Upd w s { t with fab := v } :=
  { h with reg := h.reg, inv := h.inv, fab := fun hb => by rw [hw] at hb; cases hb }

theorem Upd.set_logQ {v : List LogEnt} (h : Upd w s t) (hw : w.testBit 605 = true) :
    Upd w s { t with logQ := v } :=
  { h with reg := h.reg, inv := h.inv, logQ := fun hb => by rw [hw] at hb; cases hb }

theorem Upd.set_logLost {v : Nat} (h : Upd w s t) (hw : w.testBit 606 = true) :
    Upd w s { t with logLost := v } :=
  { h with reg := h.reg, inv := h.inv, logLost := fun hb => by rw [hw] at hb; cases hb }

theorem Upd.set_logAt {v : List Nat} (h : Upd w s t) (hw : w.testBit 607 = true) :
    Upd w s { t with logAt := v } :=
  { h with reg := h.reg, inv := h.inv, logAt := fun hb => by rw [hw] at hb; cases hb }

theorem Upd.set_pmkTime {v : Nat} (h : Upd w s t) (hw : w.testBit 608 = true) :
    Upd w s { t with pmkTime := v } :=
  { h with reg := h.reg, inv := h.inv, pmkTime := fun hb => by rw [hw] at hb; cases hb }

theorem Upd.set_asserted {v : List Asserted} (h : Upd w s t) (hw : w.testBit 609 = true) :
    Upd w s { t with asserted := v } :=
  { h with reg := h.reg, inv := h.inv, asserted := fun hb => by rw [hw] at hb; cases hb }

theorem Upd.set_pccTx {v : NTab PccTx} (h : Upd w s t) (hw : w.testBit 610 = true) :
    Upd w s { t with pccTx := v } :=
  { h with reg := h.reg, inv := h.inv, pccTx := fun hb => by rw [hw] at hb; cases hb }

theorem Upd.set_pccRx {v : NTab PccRx} (h : Upd w s t) (hw : w.testBit 611 = true) :
    Upd w s { t with pccRx := v } :=
  { h with reg := h.reg, inv := h.inv, pccRx := fun hb => by rw [hw] at hb; cases hb }

theorem Upd.set_pccFifo {v : List PccEntry} (h : Upd w s t) (hw : w.testBit 612 = true) :
    Upd w s { t with pccFifo := v } :=
  { h with reg := h.reg, inv := h.inv, pccFifo := fun hb => by rw [hw] at hb; cases hb }

theorem Upd.set_flows {v : NTab Flow} (h : Upd w s t) (hw : w.testBit 613 = true) :
    Upd w s { t with flows := v } :=
  { h with reg := h.reg, inv := h.inv, flows := fun hb => by rw [hw] at hb; cases hb }

theorem Upd.set_delin {v : NTab Delin} (h : Upd w s t) (hw : w.testBit 614 = true) :
    Upd w s { t with delin := v } :=
  { h with reg := h.reg, inv := h.inv, delin := fun hb => by rw [hw] at hb; cases hb }

theorem Upd.set_ports {v : NTab PortOut} (h : Upd w s t) (hw : w.testBit 615 = true) :
    Upd w s { t with ports := v } :=
  { h with reg := h.reg, inv := h.inv, ports := fun hb => by rw [hw] at hb; cases hb }

theorem Upd.set_hay {v : Hay} (h : Upd w s t) (hw : w.testBit 616 = true) :
    Upd w s { t with hay := v } :=
  { h with reg := h.reg, inv := h.inv, hay := fun hb => by rw [hw] at hb; cases hb }

theorem Upd.set_hayMem {v : NTab Byte} (h : Upd w s t) (hw : w.testBit 617 = true) (hv : Memory.wf t.hayMem = true → Memory.wf v = true) :
    Upd w s { t with hayMem := v } :=
  { h with reg := h.reg, inv := fun hi => let ⟨a, b, c, d⟩ := h.inv hi; ⟨a, b, c, hv d⟩, hayMem := fun hb => by rw [hw] at hb; cases hb }

theorem Upd.set_cip {v : Cip} (h : Upd w s t) (hw : w.testBit 618 = true) :
    Upd w s { t with cip := v } :=
  { h with reg := h.reg, inv := h.inv, cip := fun hb => by rw [hw] at hb; cases hb }

theorem Upd.set_yardSt {v : NTab Nat} (h : Upd w s t) (hw : w.testBit 619 = true) :
    Upd w s { t with yardSt := v } :=
  { h with reg := h.reg, inv := h.inv, yardSt := fun hb => by rw [hw] at hb; cases hb }

theorem Upd.set_mccTx {v : NTab (List Byte)} (h : Upd w s t) (hw : w.testBit 620 = true) :
    Upd w s { t with mccTx := v } :=
  { h with reg := h.reg, inv := h.inv, mccTx := fun hb => by rw [hw] at hb; cases hb }

theorem Upd.set_mccRx {v : NTab (List (Byte × Bool))} (h : Upd w s t) (hw : w.testBit 621 = true) :
    Upd w s { t with mccRx := v } :=
  { h with reg := h.reg, inv := h.inv, mccRx := fun hb => by rw [hw] at hb; cases hb }

theorem Upd.set_drr {v : NTab Nat} (h : Upd w s t) (hw : w.testBit 622 = true) :
    Upd w s { t with drr := v } :=
  { h with reg := h.reg, inv := h.inv, drr := fun hb => by rw [hw] at hb; cases hb }

theorem Upd.set_stb {v : Stb} (h : Upd w s t) (hw : w.testBit 623 = true) :
    Upd w s { t with stb := v } :=
  { h with reg := h.reg, inv := h.inv, stb := fun hb => by rw [hw] at hb; cases hb }

theorem Upd.set_plls {v : List Nat} (h : Upd w s t) (hw : w.testBit 624 = true) :
    Upd w s { t with plls := v } :=
  { h with reg := h.reg, inv := h.inv, plls := fun hb => by rw [hw] at hb; cases hb }

theorem Upd.set_cfgBad {v : List RegKey} (h : Upd w s t) (hw : w.testBit 625 = true) :
    Upd w s { t with cfgBad := v } :=
  { h with reg := h.reg, inv := h.inv, cfgBad := fun hb => by rw [hw] at hb; cases hb }

theorem Upd.set_pmk {v : Pmk} (h : Upd w s t) (hw : w.testBit 626 = true) :
    Upd w s { t with pmk := v } :=
  { h with reg := h.reg, inv := h.inv, pmk := fun hb => by rw [hw] at hb; cases hb }

theorem Upd.set_mon {v : NTab MonPair} (h : Upd w s t) (hw : w.testBit 627 = true) :
    Upd w s { t with mon := v } :=
  { h with reg := h.reg, inv := h.inv, mon := fun hb => by rw [hw] at hb; cases hb }

theorem Upd.set_monSnap {v : Option (W32 × W32)} (h : Upd w s t) (hw : w.testBit 628 = true) :
    Upd w s { t with monSnap := v } :=
  { h with reg := h.reg, inv := h.inv, monSnap := fun hb => by rw [hw] at hb; cases hb }

theorem Upd.set_monFree {v : Bool} (h : Upd w s t) (hw : w.testBit 629 = true) :
    Upd w s { t with monFree := v } :=
  { h with reg := h.reg, inv := h.inv, monFree := fun hb => by rw [hw] at hb; cases hb }

theorem Upd.set_monAt {v : Nat} (h : Upd w s t) (hw : w.testBit 630 = true) :
    Upd w s { t with monAt := v } :=
  { h with reg := h.reg, inv := h.inv, monAt := fun hb => by rw [hw] at hb; cases hb }

theorem Upd.set_bins {v : NTab (List (Int × W32 × W32))} (h : Upd w s t) (hw : w.testBit 631 = true) :
    Upd w s { t with bins := v } :=
  { h with reg := h.reg, inv := h.inv, bins := fun hb => by rw [hw] at hb; cases hb }

theorem Upd.set_pwr {v : Pwr} (h : Upd w s t) (hw : w.testBit 632 = true) :
    Upd w s { t with pwr := v } :=
  { h with reg := h.reg, inv := h.inv, pwr := fun hb => by rw [hw] at hb; cases hb }

theorem Upd.set_retryLane {v : List (Nat × Nat)} (h : Upd w s t) (hw : w.testBit 633 = true) :
    Upd w s { t with retryLane := v } :=
  { h with reg := h.reg, inv := h.inv, retryLane := fun hb => by rw [hw] at hb; cases hb }

theorem Upd.set_prbsAcc {v : NTab Nat} (h : Upd w s t) (hw : w.testBit 634 = true) :
    Upd w s { t with prbsAcc := v } :=
  { h with reg := h.reg, inv := h.inv, prbsAcc := fun hb => by rw [hw] at hb; cases hb }

theorem Upd.set_prbsInj {v : NTab Nat} (h : Upd w s t) (hw : w.testBit 635 = true) :
    Upd w s { t with prbsInj := v } :=
  { h with reg := h.reg, inv := h.inv, prbsInj := fun hb => by rw [hw] at hb; cases hb }

theorem Upd.set_links {v : NTab Link} (h : Upd w s t) (hw : w.testBit 636 = true) :
    Upd w s { t with links := v } :=
  { h with reg := h.reg, inv := h.inv, links := fun hb => by rw [hw] at hb; cases hb }

theorem Upd.set_rmt {v : Option (Nat × Bool × Nat)} (h : Upd w s t) (hw : w.testBit 637 = true) :
    Upd w s { t with rmt := v } :=
  { h with reg := h.reg, inv := h.inv, rmt := fun hb => by rw [hw] at hb; cases hb }

theorem Upd.set_img {v : Nat} (h : Upd w s t) (hw : w.testBit 638 = true) :
    Upd w s { t with img := v } :=
  { h with reg := h.reg, inv := h.inv, img := fun hb => by rw [hw] at hb; cases hb }

theorem Upd.set_imgRx {v : List Byte} (h : Upd w s t) (hw : w.testBit 639 = true) :
    Upd w s { t with imgRx := v } :=
  { h with reg := h.reg, inv := h.inv, imgRx := fun hb => by rw [hw] at hb; cases hb }

theorem Upd.set_yardTx {v : NTab YardTx} (h : Upd w s t) (hw : w.testBit 640 = true) :
    Upd w s { t with yardTx := v } :=
  { h with reg := h.reg, inv := h.inv, yardTx := fun hb => by rw [hw] at hb; cases hb }

theorem Upd.set_tack {v : NTab Byte} (h : Upd w s t) (hw : w.testBit 641 = true) (hv : Memory.wf t.tack = true → Memory.wf v = true) :
    Upd w s { t with tack := v } :=
  { h with reg := h.reg, inv := fun hi => let ⟨a, b, c, d⟩ := h.inv hi; ⟨a, hv b, c, d⟩, tack := fun hb => by rw [hw] at hb; cases hb }

theorem Upd.set_ram {v : NTab Byte} (h : Upd w s t) (hw : w.testBit 642 = true) (hv : Memory.wf t.ram = true → Memory.wf v = true) :
    Upd w s { t with ram := v } :=
  { h with reg := h.reg, inv := fun hi => let ⟨a, b, c, d⟩ := h.inv hi; ⟨a, b, hv c, d⟩, ram := fun hb => by rw [hw] at hb; cases hb }

theorem Upd.set_cal {v : Cal} (h : Upd w s t) (hw : w.testBit 643 = true) :
    Upd w s { t with cal := v } :=
  { h with reg := h.reg, inv := h.inv, cal := fun hb => by rw [hw] at hb; cases hb }

theorem Upd.set_bst {v : Bst} (h : Upd w s t) (hw : w.testBit 644 = true) :
    Upd w s { t with bst := v } :=
  { h with reg := h.reg, inv := h.inv, bst := fun hb => by rw [hw] at hb; cases hb }

theorem Upd.set_boot {v : Boot} (h : Upd w s t) (hw : w.testBit 645 = true) :
    Upd w s { t with boot := v } :=
  { h with reg := h.reg, inv := h.inv, boot := fun hb => by rw [hw] at hb; cases hb }

theorem Upd.set_seqLevel {v : Option Nat} (h : Upd w s t) (hw : w.testBit 646 = true) :
    Upd w s { t with seqLevel := v } :=
  { h with reg := h.reg, inv := h.inv, seqLevel := fun hb => by rw [hw] at hb; cases hb }

theorem Upd.set_lcMove {v : Option Nat} (h : Upd w s t) (hw : w.testBit 647 = true) :
    Upd w s { t with lcMove := v } :=
  { h with reg := h.reg, inv := h.inv, lcMove := fun hb => by rw [hw] at hb; cases hb }

theorem Upd.set_lcAuth {v : Bool} (h : Upd w s t) (hw : w.testBit 648 = true) :
    Upd w s { t with lcAuth := v } :=
  { h with reg := h.reg, inv := h.inv, lcAuth := fun hb => by rw [hw] at hb; cases hb }

theorem Upd.set_auth {v : List W32} (h : Upd w s t) (hw : w.testBit 649 = true) :
    Upd w s { t with auth := v } :=
  { h with reg := h.reg, inv := h.inv, auth := fun hb => by rw [hw] at hb; cases hb }

theorem Upd.set_lbCmd {v : Nat} (h : Upd w s t) (hw : w.testBit 650 = true) :
    Upd w s { t with lbCmd := v } :=
  { h with reg := h.reg, inv := h.inv, lbCmd := fun hb => by rw [hw] at hb; cases hb }

theorem Upd.set_logSeq {v : Nat} (h : Upd w s t) (hw : w.testBit 651 = true) :
    Upd w s { t with logSeq := v } :=
  { h with reg := h.reg, inv := h.inv, logSeq := fun hb => by rw [hw] at hb; cases hb }

theorem Upd.set_winEnd {v : Nat} (h : Upd w s t) (hw : w.testBit 652 = true) :
    Upd w s { t with winEnd := v } :=
  { h with reg := h.reg, inv := h.inv, winEnd := fun hb => by rw [hw] at hb; cases hb }

theorem Upd.set_injAt {v : NTab Nat} (h : Upd w s t) (hw : w.testBit 653 = true) :
    Upd w s { t with injAt := v } :=
  { h with reg := h.reg, inv := h.inv, injAt := fun hb => by rw [hw] at hb; cases hb }

theorem Upd.set_segBad {v : List Nat} (h : Upd w s t) (hw : w.testBit 654 = true) :
    Upd w s { t with segBad := v } :=
  { h with reg := h.reg, inv := h.inv, segBad := fun hb => by rw [hw] at hb; cases hb }

theorem Upd.set_dumpAt {v : Nat} (h : Upd w s t) (hw : w.testBit 655 = true) :
    Upd w s { t with dumpAt := v } :=
  { h with reg := h.reg, inv := h.inv, dumpAt := fun hb => by rw [hw] at hb; cases hb }

theorem Upd.set_us {v : Nat} (h : Upd w s t) (hw : w.testBit 656 = true) :
    Upd w s { t with us := v } :=
  { h with reg := h.reg, inv := h.inv, us := fun hb => by rw [hw] at hb; cases hb }

theorem Upd.set_free {v : Nat} (h : Upd w s t) (hw : w.testBit 657 = true) :
    Upd w s { t with free := v } :=
  { h with reg := h.reg, inv := h.inv, free := fun hb => by rw [hw] at hb; cases hb }

/-! ## Several fields replaced at once -/

theorem Upd.set_asserted_seqLevel {v0 : List Asserted} {v1 : Option Nat} (h : Upd w s t)
    (g0 : w.testBit 609 = true) (g1 : w.testBit 646 = true) :
    Upd w s { t with asserted := v0, seqLevel := v1 } :=
  { h with reg := h.reg, inv := h.inv, asserted := bit_clash g0, seqLevel := bit_clash g1 }

theorem Upd.set_auth_lbCmd {v0 : List W32} {v1 : Nat} (h : Upd w s t)
    (g0 : w.testBit 649 = true) (g1 : w.testBit 650 = true) :
    Upd w s { t with auth := v0, lbCmd := v1 } :=
  { h with reg := h.reg, inv := h.inv, auth := bit_clash g0, lbCmd := bit_clash g1 }

theorem Upd.set_flows_delin_ports_drr {v0 : NTab Flow} {v1 : NTab Delin} {v2 : NTab PortOut} {v3 : NTab Nat} (h : Upd w s t)
    (g0 : w.testBit 613 = true) (g1 : w.testBit 614 = true) (g2 : w.testBit 615 = true) (g3 : w.testBit 622 = true) :
    Upd w s { t with flows := v0, delin := v1, ports := v2, drr := v3 } :=
  { h with reg := h.reg, inv := h.inv, flows := bit_clash g0, delin := bit_clash g1, ports := bit_clash g2, drr := bit_clash g3 }

theorem Upd.set_fuse_lcMove {v0 : Fuses} {v1 : Option Nat} (h : Upd w s t)
    (g0 : w.testBit 600 = true) (g1 : w.testBit 647 = true) :
    Upd w s { t with fuse := v0, lcMove := v1 } :=
  { h with reg := h.reg, inv := h.inv, fuse := bit_clash g0, lcMove := bit_clash g1 }

theorem Upd.set_grps_delin {v0 : NTab Group} {v1 : NTab Delin} (h : Upd w s t)
    (g0 : w.testBit 603 = true) (g1 : w.testBit 614 = true) :
    Upd w s { t with grps := v0, delin := v1 } :=
  { h with reg := h.reg, inv := h.inv, grps := bit_clash g0, delin := bit_clash g1 }

theorem Upd.set_grps_delin_mccTx_mccRx {v0 : NTab Group} {v1 : NTab Delin} {v2 : NTab (List Byte)} {v3 : NTab (List (Byte × Bool))} (h : Upd w s t)
    (g0 : w.testBit 603 = true) (g1 : w.testBit 614 = true) (g2 : w.testBit 620 = true) (g3 : w.testBit 621 = true) :
    Upd w s { t with grps := v0, delin := v1, mccTx := v2, mccRx := v3 } :=
  { h with reg := h.reg, inv := h.inv, grps := bit_clash g0, delin := bit_clash g1, mccTx := bit_clash g2, mccRx := bit_clash g3 }

theorem Upd.set_img_imgRx {v0 : Nat} {v1 : List Byte} (h : Upd w s t)
    (g0 : w.testBit 638 = true) (g1 : w.testBit 639 = true) :
    Upd w s { t with img := v0, imgRx := v1 } :=
  { h with reg := h.reg, inv := h.inv, img := bit_clash g0, imgRx := bit_clash g1 }

theorem Upd.set_logAt_logSeq {v0 : List Nat} {v1 : Nat} (h : Upd w s t)
    (g0 : w.testBit 607 = true) (g1 : w.testBit 651 = true) :
    Upd w s { t with logAt := v0, logSeq := v1 } :=
  { h with reg := h.reg, inv := h.inv, logAt := bit_clash g0, logSeq := bit_clash g1 }

theorem Upd.set_monSnap_monFree {v0 : Option (W32 × W32)} {v1 : Bool} (h : Upd w s t)
    (g0 : w.testBit 628 = true) (g1 : w.testBit 629 = true) :
    Upd w s { t with monSnap := v0, monFree := v1 } :=
  { h with reg := h.reg, inv := h.inv, monSnap := bit_clash g0, monFree := bit_clash g1 }

theorem Upd.set_monSnap_monFree_monAt {v0 : Option (W32 × W32)} {v1 : Bool} {v2 : Nat} (h : Upd w s t)
    (g0 : w.testBit 628 = true) (g1 : w.testBit 629 = true) (g2 : w.testBit 630 = true) :
    Upd w s { t with monSnap := v0, monFree := v1, monAt := v2 } :=
  { h with reg := h.reg, inv := h.inv, monSnap := bit_clash g0, monFree := bit_clash g1, monAt := bit_clash g2 }

theorem Upd.set_mon_monSnap_monFree_monAt {v0 : NTab MonPair} {v1 : Option (W32 × W32)} {v2 : Bool} {v3 : Nat} (h : Upd w s t)
    (g0 : w.testBit 627 = true) (g1 : w.testBit 628 = true) (g2 : w.testBit 629 = true) (g3 : w.testBit 630 = true) :
    Upd w s { t with mon := v0, monSnap := v1, monFree := v2, monAt := v3 } :=
  { h with reg := h.reg, inv := h.inv, mon := bit_clash g0, monSnap := bit_clash g1, monFree := bit_clash g2, monAt := bit_clash g3 }

theorem Upd.set_mon_monSnap_monFree_monAt_bins {v0 : NTab MonPair} {v1 : Option (W32 × W32)} {v2 : Bool} {v3 : Nat} {v4 : NTab (List (Int × W32 × W32))} (h : Upd w s t)
    (g0 : w.testBit 627 = true) (g1 : w.testBit 628 = true) (g2 : w.testBit 629 = true) (g3 : w.testBit 630 = true) (g4 : w.testBit 631 = true) :
    Upd w s { t with mon := v0, monSnap := v1, monFree := v2, monAt := v3, bins := v4 } :=
  { h with reg := h.reg, inv := h.inv, mon := bit_clash g0, monSnap := bit_clash g1, monFree := bit_clash g2, monAt := bit_clash g3, bins := bit_clash g4 }

theorem Upd.set_pccTx_pccRx_pccFifo {v0 : NTab PccTx} {v1 : NTab PccRx} {v2 : List PccEntry} (h : Upd w s t)
    (g0 : w.testBit 610 = true) (g1 : w.testBit 611 = true) (g2 : w.testBit 612 = true) :
    Upd w s { t with pccTx := v0, pccRx := v1, pccFifo := v2 } :=
  { h with reg := h.reg, inv := h.inv, pccTx := bit_clash g0, pccRx := bit_clash g1, pccFifo := bit_clash g2 }

theorem Upd.set_pmkTime_pmk {v0 : Nat} {v1 : Pmk} (h : Upd w s t)
    (g0 : w.testBit 608 = true) (g1 : w.testBit 626 = true) :
    Upd w s { t with pmkTime := v0, pmk := v1 } :=
  { h with reg := h.reg, inv := h.inv, pmkTime := bit_clash g0, pmk := bit_clash g1 }

theorem Upd.set_prbsAcc_prbsInj_yardTx {v0 : NTab Nat} {v1 : NTab Nat} {v2 : NTab YardTx} (h : Upd w s t)
    (g0 : w.testBit 634 = true) (g1 : w.testBit 635 = true) (g2 : w.testBit 640 = true) :
    Upd w s { t with prbsAcc := v0, prbsInj := v1, yardTx := v2 } :=
  { h with reg := h.reg, inv := h.inv, prbsAcc := bit_clash g0, prbsInj := bit_clash g1, yardTx := bit_clash g2 }

theorem Upd.set_retryLane_prbsAcc_prbsInj {v0 : List (Nat × Nat)} {v1 : NTab Nat} {v2 : NTab Nat} (h : Upd w s t)
    (g0 : w.testBit 633 = true) (g1 : w.testBit 634 = true) (g2 : w.testBit 635 = true) :
    Upd w s { t with retryLane := v0, prbsAcc := v1, prbsInj := v2 } :=
  { h with reg := h.reg, inv := h.inv, retryLane := bit_clash g0, prbsAcc := bit_clash g1, prbsInj := bit_clash g2 }

theorem Upd.set_winEnd_injAt {v0 : Nat} {v1 : NTab Nat} (h : Upd w s t)
    (g0 : w.testBit 652 = true) (g1 : w.testBit 653 = true) :
    Upd w s { t with winEnd := v0, injAt := v1 } :=
  { h with reg := h.reg, inv := h.inv, winEnd := bit_clash g0, injAt := bit_clash g1 }

theorem Upd.set_yardSt_links_rmt_imgRx_yardTx {v0 : NTab Nat} {v1 : NTab Link} {v2 : Option (Nat × Bool × Nat)} {v3 : List Byte} {v4 : NTab YardTx} (h : Upd w s t)
    (g0 : w.testBit 619 = true) (g1 : w.testBit 636 = true) (g2 : w.testBit 637 = true) (g3 : w.testBit 639 = true) (g4 : w.testBit 640 = true) :
    Upd w s { t with yardSt := v0, links := v1, rmt := v2, imgRx := v3, yardTx := v4 } :=
  { h with reg := h.reg, inv := h.inv, yardSt := bit_clash g0, links := bit_clash g1, rmt := bit_clash g2, imgRx := bit_clash g3, yardTx := bit_clash g4 }

/-! ## The register file -/

theorem State.regsOk_wr (k : RegKey) (v : W32) (h : s.regsOk = true) : (s.wr k v).regsOk = true := by
  simp only [State.regsOk, Bool.and_eq_true] at *
  refine ⟨Tab.wf_set RegKey.lt_ord k _ h.1, ?_⟩
  have mem_erase : ∀ (t : List (RegKey × W32)) e, e ∈ Tab.erase k t → e ∈ t := by
    intro t
    induction t with
    | nil => simp [Tab.erase]
    | cons a t ih =>
      intro e he
      obtain ⟨b, x⟩ := a
      simp only [Tab.erase] at he
      split at he
      · exact List.mem_cons_of_mem _ (ih e he)
      · rcases List.mem_cons.1 he with h | h
        · exact h ▸ List.mem_cons_self
        · exact List.mem_cons_of_mem _ (ih e h)
  have mem_ins : ∀ (x : W32) (t : List (RegKey × W32)) e, e ∈ Tab.ins RegKey.lt k x t → e = (k, x) ∨ e ∈ t := by
    intro x t
    induction t with
    | nil => simp [Tab.ins]
    | cons a t ih =>
      intro e he
      obtain ⟨b, y⟩ := a
      simp only [Tab.ins] at he
      split at he
      · rcases List.mem_cons.1 he with h | h
        · exact .inl h
        · exact .inr h
      · rcases List.mem_cons.1 he with h | h
        · exact .inr (h ▸ List.mem_cons_self)
        · exact (ih e h).imp_right (List.mem_cons_of_mem _)
  rw [List.all_eq_true] at *
  intro e he
  simp only [State.wr, Tab.set] at he
  split at he
  · exact h.2 e (mem_erase _ e he)
  · rcases mem_ins _ _ e he with he | he
    · subst he
      simp only [beq_iff_eq]
      apply BitVec.eq_of_getLsbD_eq
      intro i hi
      simp [hi]
    · exact h.2 e (mem_erase _ e he)

theorem Upd.wr {id : RegId} {i j : Nat} {v : W32} (h : Upd w s t) (hw : w.testBit id.ctorIdx = true) :
    Upd w s (t.wr ⟨id, i, j⟩ v) :=
  { h with
    reg := fun k' hk' => by
      rw [State.rd_wr_ne]
      · exact h.reg k' hk'
      · rintro rfl; rw [hw] at hk'; cases hk'
    inv := fun hi => ⟨State.regsOk_wr _ v (h.inv hi).1, (h.inv hi).2⟩ }

theorem Upd.wrN {id : RegId} {i j : Nat} {n : Nat} (h : Upd w s t) (hw : w.testBit id.ctorIdx = true) :
    Upd w s (t.wrN ⟨id, i, j⟩ n) := h.wr hw
theorem Upd.setFld {f : Fld} {n i j : Nat} (h : Upd w s t) (hw : w.testBit f.reg.ctorIdx = true) :
    Upd w s (t.setFld f n i j) := h.wr hw
theorem Upd.setFlag {f : Fld} {b : Bool} {i j : Nat} (h : Upd w s t) (hw : w.testBit f.reg.ctorIdx = true) :
    Upd w s (t.setFlag f b i j) := h.wr hw
theorem Upd.raise {f : Fld} {i j : Nat} (h : Upd w s t) (hw : w.testBit f.reg.ctorIdx = true) :
    Upd w s (t.raise f i j) := h.wr hw
theorem Upd.bumpFld {f : Fld} {i j : Nat} (h : Upd w s t) (hw : w.testBit f.reg.ctorIdx = true) :
    Upd w s (t.bumpFld f i j) := h.wr hw
theorem Upd.bump {id : RegId} {i j : Nat} (h : Upd w s t) (hw : w.testBit id.ctorIdx = true) :
    Upd w s (t.bump ⟨id, i, j⟩) := h.wr hw
theorem Upd.clr {id : RegId} {i j : Nat} (h : Upd w s t) (hw : w.testBit id.ctorIdx = true) :
    Upd w s (t.clr ⟨id, i, j⟩) := h.wr hw
theorem Upd.plainWrite {id : RegId} {i j : Nat} {v : W32} (h : Upd w s t) (hw : w.testBit id.ctorIdx = true) :
    Upd w s (t.plainWrite ⟨id, i, j⟩ v) := h.wr hw
theorem Upd.wr64 {id id' : RegId} {i j i' j' n : Nat} (h : Upd w s t) (hl : w.testBit id.ctorIdx = true)
    (hh : w.testBit id'.ctorIdx = true) :
    Upd w s (t.wr64 ⟨id, i, j⟩ ⟨id', i', j'⟩ n) := (h.wrN hl).wrN hh
theorem Upd.add64 {id id' : RegId} {i j i' j' n : Nat} (h : Upd w s t) (hl : w.testBit id.ctorIdx = true)
    (hh : w.testBit id'.ctorIdx = true) :
    Upd w s (t.add64 ⟨id, i, j⟩ ⟨id', i', j'⟩ n) := h.wr64 hl hh

/-! ## Every register -/

theorem RegId.ctorIdx_lt (id : RegId) : id.ctorIdx < 563 := by cases id <;> decide

theorem RegId.all_bit (h : Nat.land 0x7ffffffffffffffffffffffffffffffffffffffffffffffffffffffffffffffffffffffffffffffffffffffffffffffffffffffffffffffffffffffffffffffffffffffffffff w =
    0x7ffffffffffffffffffffffffffffffffffffffffffffffffffffffffffffffffffffffffffffffffffffffffffffffffffffffffffffffffffffffffffffffffffffffffffff) (id : RegId) : w.testBit id.ctorIdx = true :=
  testBit_up h (List.all_eq_true.mp (show (List.range 563).all (Nat.testBit 0x7ffffffffffffffffffffffffffffffffffffffffffffffffffffffffffffffffffffffffffffffffffffffffffffffffffffffffffffffffffffffffffffffffffffffffffff) = true by decide +kernel) _
    (List.mem_range.mpr id.ctorIdx_lt))

end Sys2Proof.Machine
end

