-- ==== Sys2Proof/Laws/FootOps.lean ====
section
/-! SUPPORT. The footprints of the operations of Machine/Ops.lean: what each may change. -/

set_option linter.unreachableTactic false
set_option linter.unusedTactic false
set_option linter.unusedVariables false

namespace Sys2Proof.Machine

theorem State.useFree_upd (s : State) :
    Upd 0x200000000000000000000000000000000000000000000000000000000000000000000000000000000000000000000000000000000000000000000000000000000000000000000000000000000000000000000 s (State.useFree s) := by
  unfold State.useFree
  refine Upd.set_free ?_ rfl
  exact Upd.refl _ _

theorem State.modCar_upd (s : State) (a1 : ℕ) (a2 : Carrier → Carrier) :
    Upd 0x2000000000000000000000000000000000000000000000000000000000000000000000000000000000000000000000000000000000000000000000000000000000000000000000000000000 s (State.modCar s a1 a2) := by
  unfold State.modCar
  refine Upd.set_cars ?_ rfl
  exact Upd.refl _ _

theorem State.modSc_upd (s : State) (a1 : ℕ) (a2 : Sc → Sc) :
    Upd 0x4000000000000000000000000000000000000000000000000000000000000000000000000000000000000000000000000000000000000000000000000000000000000000000000000000000 s (State.modSc s a1 a2) := by
  unfold State.modSc
  refine Upd.set_scs ?_ rfl
  exact Upd.refl _ _

theorem State.modGrp_upd (s : State) (a1 : ℕ) (a2 : Group → Group) :
    Upd 0x8000000000000000000000000000000000000000000000000000000000000000000000000000000000000000000000000000000000000000000000000000000000000000000000000000000 s (State.modGrp s a1 a2) := by
  unfold State.modGrp
  refine Upd.set_grps ?_ rfl
  exact Upd.refl _ _

theorem State.modFab_upd (s : State) (a1 : Fabric → Fabric) :
    Upd 0x10000000000000000000000000000000000000000000000000000000000000000000000000000000000000000000000000000000000000000000000000000000000000000000000000000000 s (State.modFab s a1) := by
  unfold State.modFab
  refine Upd.set_fab ?_ rfl
  exact Upd.refl _ _

theorem State.spiErr_upd (s : State) (a1 : Master) :
    Upd 0x10000000000000000000000000000000000000000000000000000000000000000000000000000000000000000000000000000000000000000000000000000000000000000000000000000000 s (State.spiErr s a1) := by
  unfold State.spiErr
  refine Upd.ite ?_ ?_
  · refine Upd.step ?_ (State.modFab_upd ..) rfl
    exact Upd.refl _ _
  · exact Upd.refl _ _

theorem State.accessErr_upd (s : State) (a1 : Master) (a2 : Bool) (a3 : Bool) (a4 : ℕ) (a5 : ℕ) :
    Upd 0x10000000000000000000000000000000000000000000000000000000000000000000000000000000000000000000000000000000000000000000000000000000000000000000000006200000 s (State.accessErr s a1 a2 a3 a4 a5) := by
  unfold State.accessErr
  extract_lets +onlyGivenNames -underBinder -merge -useContext x1
  refine Upd.cut (t := x1) ?_ (fun h1 => ?_)
  · unfold x1
    refine Upd.raise ?_ rfl
    exact Upd.refl _ _
  clear_value x1
  extract_lets +onlyGivenNames -underBinder -merge -useContext x2
  refine Upd.cut (t := x2) ?_ (fun h2 => ?_)
  · unfold x2
    refine Upd.ite ?_ ?_
    · exact h1
    · refine Upd.step ?_ (State.spiErr_upd ..) rfl
      exact h1
  clear_value x2
  refine Upd.ite ?_ ?_
  · refine Upd.bumpFld ?_ rfl
    exact h2
  · refine Upd.wrN ?_ rfl
    refine Upd.setFld ?_ rfl
    refine Upd.setFld ?_ rfl
    refine Upd.setFlag ?_ rfl
    refine Upd.setFlag ?_ rfl
    refine Upd.setFld ?_ rfl
    exact h2

theorem State.decodeErr_upd (s : State) (a1 : Master) (a2 : Bool) (a3 : ℕ) (a4 : ℕ) :
    Upd 0x10000000000000000000000000000000000000000000000000000000000000000000000000000000000000000000000000000000000000000000000000000000000000000000000000003400 s (State.decodeErr s a1 a2 a3 a4) := by
  unfold State.decodeErr
  extract_lets +onlyGivenNames -underBinder -merge -useContext x1
  refine Upd.cut (t := x1) ?_ (fun h1 => ?_)
  · unfold x1
    split
    · refine Upd.raise ?_ rfl
      exact Upd.refl _ _
    · refine Upd.raise ?_ rfl
      exact Upd.refl _ _
    · refine Upd.raise ?_ rfl
      exact Upd.refl _ _
  clear_value x1
  extract_lets +onlyGivenNames -underBinder -merge -useContext x2
  refine Upd.cut (t := x2) ?_ (fun h2 => ?_)
  · unfold x2
    refine Upd.step ?_ (State.spiErr_upd ..) rfl
    exact h1
  clear_value x2
  refine Upd.ite ?_ ?_
  · refine Upd.bumpFld ?_ rfl
    exact h2
  · refine Upd.wrN ?_ rfl
    refine Upd.setFld ?_ rfl
    refine Upd.setFld ?_ rfl
    refine Upd.setFld ?_ rfl
    refine Upd.setFlag ?_ rfl
    refine Upd.setFld ?_ rfl
    exact h2

theorem State.holdLo_upd (a1 : Master) (a2 : RegKey) (a3 : W32) (s : State) :
    Upd 0x10000000000000000000000000000000000000000000000000000000000000000000000000000000000000000000000000000000000000000000000000000000000000000000000000000000 s (State.holdLo a1 a2 a3 s) := by
  unfold State.holdLo
  refine Upd.step ?_ (State.modFab_upd ..) rfl
  exact Upd.refl _ _

theorem Upd.commitPair {w : Nat} {s t : State} {m : Master} {id id' : RegId} {i j i' j' : Nat} {v : W32} (h : Upd w s t)
    (hl : w.testBit id.ctorIdx = true) (hh : w.testBit id'.ctorIdx = true) (hw : Nat.land 0x10000000000000000000000000000000000000000000000000000000000000000000000000000000000000000000000000000000000000000000000000000000000000000000000000000000 w = 0x10000000000000000000000000000000000000000000000000000000000000000000000000000000000000000000000000000000000000000000000000000000000000000000000000000000) :
    Upd w s (State.commitPair m ⟨id, i, j⟩ ⟨id', i', j'⟩ v t) := by
  unfold State.commitPair
  repeat' first
    | with_reducible assumption
    | with_reducible exact Upd.refl _ _
    | (show Nat.testBit _ _ = true; with_reducible assumption)
    | (show Nat.land _ _ = _; exact land_trans (b := 0x10000000000000000000000000000000000000000000000000000000000000000000000000000000000000000000000000000000000000000000000000000000000000000000000000000000) rfl hw)
    | (show Nat.testBit _ _ = true; exact testBit_up (a := 0x10000000000000000000000000000000000000000000000000000000000000000000000000000000000000000000000000000000000000000000000000000000000000000000000000000000) hw rfl)
    | (extract_lets +onlyGivenNames x; refine Upd.cut (t := x) ?_ (fun hx => ?_); (on_goal 2 => clear_value x); unfold x; clear x)
    | (extract_lets +onlyGivenNames x; clear_value x)
    | with_reducible apply Upd.ite
    | with_reducible refine Upd.wr ?_ ?_
    | with_reducible refine Upd.step ?_ (State.modFab_upd ..) ?_
    | split

theorem State.log_upd (s : State) (a1 : ℕ) (a2 : ℕ) (a3 : ℕ) (a4 : List W32) (a5 : Bool) :
    Upd 0x60000000000000000000000000000800001000000000000000000000000000000000000000000000000000000000000000000000000000000000000000000000000000000000000000000000 s (State.log s a1 a2 a3 a4 a5) := by
  unfold State.log
  refine Upd.ite ?_ ?_
  · exact Upd.refl _ _
  · refine Upd.ite ?_ ?_
    · refine Upd.set_logQ ?_ rfl
      exact Upd.refl _ _
    · refine Upd.raise ?_ rfl
      refine Upd.bump ?_ rfl
      refine Upd.set_logLost ?_ rfl
      exact Upd.refl _ _

theorem State.pmcOver_upd (a1 : ℕ) (s : State) :
    Upd 0x200000000000000000000000000000000000000000003805000000000000000000000000000000000000000000000000000000000000000000000000000000000000000000000000000000000000000000000 s (State.pmcOver a1 s) := by
  unfold State.pmcOver
  extract_lets +onlyGivenNames -underBinder -merge -useContext x1
  refine Upd.cut (t := x1) ?_ (fun h1 => ?_)
  · unfold x1
    refine Upd.wr ?_ rfl
    exact Upd.refl _ _
  clear_value x1
  refine Upd.ite ?_ ?_
  · refine Upd.set_free ?_ rfl
    refine Upd.raise ?_ rfl
    refine Upd.wr ?_ rfl
    refine Upd.wr ?_ rfl
    refine Upd.setFld ?_ rfl
    refine Upd.setFld ?_ rfl
    refine Upd.wr ?_ rfl
    exact h1
  · exact h1

theorem State.pmcGain_upd (a1 : ℕ) (a2 : ℕ) (s : State) :
    Upd 0x20000000000000000000000000000000000000000001b805000000000000000000000000000000000000000000000000000000000000000000000000000000000000000000000000000000000000000000000 s (State.pmcGain a1 a2 s) := by
  unfold State.pmcGain
  refine Upd.ite ?_ ?_
  · exact Upd.refl _ _
  · extract_lets +onlyGivenNames -underBinder -merge -useContext x1
    try clear_value x1
    extract_lets +onlyGivenNames -underBinder -merge -useContext x2
    refine Upd.cut (t := x2) ?_ (fun h2 => ?_)
    · unfold x2
      refine Upd.wr64 ?_ rfl rfl
      exact Upd.refl _ _
    clear_value x2
    refine Upd.ite ?_ ?_
    · exact h2
    · refine Upd.ite ?_ ?_
      · refine Upd.ite ?_ ?_
        · extract_lets +onlyGivenNames -underBinder -merge -useContext x3
          try clear_value x3
          refine Upd.when ?_ (fun x4 h4 => ?_)
          · refine Upd.wr64 ?_ rfl rfl
            exact h2
          · refine Upd.step ?_ (State.pmcOver_upd ..) rfl
            exact h4
        · exact h2
      · refine Upd.step ?_ (State.pmcOver_upd ..) rfl
        exact h2

theorem State.count_upd (a1 : ℕ) (a2 : ℕ) (a3 : ℕ) (s : State) :
    Upd 0x20000000000000000000000000000000000000000001b805000000000000000000000000000000000000000000000000000000000000000000000000000000000000000000000000000000000000000000000 s (State.count a1 a2 a3 s) := by
  unfold State.count
  refine Upd.ite ?_ ?_
  · exact Upd.refl _ _
  · refine Upd.upto ?_ (fun n1 x1 h1 => ?_) _
    · exact Upd.refl _ _
    · refine Upd.ite ?_ ?_
      · refine Upd.step ?_ (State.pmcGain_upd ..) rfl
        exact h1
      · exact h1

theorem State.logFree_upd (a1 : ℕ) (a2 : ℕ) (a3 : Bool) (s : State) :
    Upd 0x200000000000060000000000000000000000000000800001000000000000000000000000000000000000000000000000000000000000000000000000000000000000000000000000000000000000000000000 s (State.logFree a1 a2 a3 s) := by
  unfold State.logFree
  refine Upd.set_free ?_ rfl
  refine Upd.step ?_ (State.log_upd ..) rfl
  exact Upd.refl _ _

theorem State.mpuFault_upd (a1 : ℕ) (a2 : ℕ) (a3 : ℕ) (s : State) :
    Upd 0x20000000000006000000000000000000000060000081b805000000000000000000000000000000000000000000000000000000000000000000000000000000000000000000000000000000000000000000000 s (State.mpuFault a1 a2 a3 s) := by
  unfold State.mpuFault
  extract_lets +onlyGivenNames -underBinder -merge -useContext x1
  refine Upd.cut (t := x1) ?_ (fun h1 => ?_)
  · unfold x1
    refine Upd.ite ?_ ?_
    · refine Upd.bumpFld ?_ rfl
      exact Upd.refl _ _
    · refine Upd.wrN ?_ rfl
      refine Upd.setFld ?_ rfl
      refine Upd.setFld ?_ rfl
      refine Upd.setFld ?_ rfl
      exact Upd.refl _ _
  clear_value x1
  refine Upd.step ?_ (State.count_upd ..) rfl
  refine Upd.step ?_ (State.logFree_upd ..) rfl
  exact h1

theorem State.park_upd (a1 : Master) (a2 : ℕ) (a3 : ℕ) (a4 : Option W32) (s : State) :
    Upd 0x10000000000000000000000000000000000000000000000000000000000000000000000000000000000000000000000000000000000000000000000000000000000000000000000000000000 s (State.park a1 a2 a3 a4 s) := by
  unfold State.park
  refine Upd.step ?_ (State.modFab_upd ..) rfl
  exact Upd.refl _ _

theorem Upd.issue {w : Nat} {s t : State} {m : Master} {addr : Nat} {v : Option W32} {f : State → State} {size : Nat} (h : Upd w s t) (hf : ∀ x, Upd w s x → Upd w s (f x))
    (hw : Nat.land 0x20000000000007000000000000000000000060000081b805000000000000000000000000000000000000000000000000000000000000000000000000000000000000000000000000000000000000000000000 w = 0x20000000000007000000000000000000000060000081b805000000000000000000000000000000000000000000000000000000000000000000000000000000000000000000000000000000000000000000000) :
    Upd w s (State.issue m addr v f t size) := by
  unfold State.issue
  repeat' first
    | with_reducible assumption
    | with_reducible exact Upd.refl _ _
    | (show Nat.testBit _ _ = true; with_reducible assumption)
    | (show Nat.land _ _ = _; exact land_trans (b := 0x20000000000007000000000000000000000060000081b805000000000000000000000000000000000000000000000000000000000000000000000000000000000000000000000000000000000000000000000) rfl hw)
    | (show Nat.testBit _ _ = true; exact testBit_up (a := 0x20000000000007000000000000000000000060000081b805000000000000000000000000000000000000000000000000000000000000000000000000000000000000000000000000000000000000000000000) hw rfl)
    | with_reducible refine hf _ ?_
    | (extract_lets +onlyGivenNames x; refine Upd.cut (t := x) ?_ (fun hx => ?_); (on_goal 2 => clear_value x); unfold x; clear x)
    | (extract_lets +onlyGivenNames x; clear_value x)
    | with_reducible apply Upd.ite
    | with_reducible refine Upd.step ?_ (State.park_upd ..) ?_
    | with_reducible refine Upd.step ?_ (State.mpuFault_upd ..) ?_
    | split

theorem Upd.putReg {w : Nat} {s t : State} {m : Master} {k : RegKey} {v : W32} {f : State → State} (h : Upd w s t) (hf : ∀ x, Upd w s x → Upd w s (f x))
    (hw : Nat.land 0x2000010000000000000000000000000000000000000000000000000000000000000000000000000000000000000000000000000000000000000000000000000000000000000000000000006203400 w = 0x2000010000000000000000000000000000000000000000000000000000000000000000000000000000000000000000000000000000000000000000000000000000000000000000000000006203400) :
    Upd w s (State.putReg m k v f t) := by
  unfold State.putReg
  repeat' first
    | with_reducible assumption
    | with_reducible exact Upd.refl _ _
    | (show Nat.testBit _ _ = true; with_reducible assumption)
    | (show Nat.land _ _ = _; exact land_trans (b := 0x2000010000000000000000000000000000000000000000000000000000000000000000000000000000000000000000000000000000000000000000000000000000000000000000000000006203400) rfl hw)
    | (show Nat.testBit _ _ = true; exact testBit_up (a := 0x2000010000000000000000000000000000000000000000000000000000000000000000000000000000000000000000000000000000000000000000000000000000000000000000000000006203400) hw rfl)
    | with_reducible refine hf _ ?_
    | (extract_lets +onlyGivenNames x; refine Upd.cut (t := x) ?_ (fun hx => ?_); (on_goal 2 => clear_value x); unfold x; clear x)
    | (extract_lets +onlyGivenNames x; clear_value x)
    | with_reducible apply Upd.ite
    | with_reducible refine Upd.step ?_ (State.park_upd ..) ?_
    | with_reducible refine Upd.step ?_ (State.accessErr_upd ..) ?_
    | with_reducible refine Upd.step ?_ (State.decodeErr_upd ..) ?_
    | split
    | refine Upd.set_cfgBad ?_ ?_

theorem Upd.guardW {w : Nat} {s t : State} {m : Master} {k : RegKey} {v : W32} {f : State → State} (h : Upd w s t) (hf : ∀ x, Upd w s x → Upd w s (f x))
    (hw : Nat.land 0x20000000200007000000000000000000000060000081b805000000000000000000000000000000000000000000000000000000000000000000000000000000000000000000000000000000000000006203400 w = 0x20000000200007000000000000000000000060000081b805000000000000000000000000000000000000000000000000000000000000000000000000000000000000000000000000000000000000006203400) :
    Upd w s (State.guardW t m k v f) := by
  unfold State.guardW
  repeat' first
    | with_reducible assumption
    | with_reducible exact Upd.refl _ _
    | (show Nat.testBit _ _ = true; with_reducible assumption)
    | (show Nat.land _ _ = _; exact land_trans (b := 0x20000000200007000000000000000000000060000081b805000000000000000000000000000000000000000000000000000000000000000000000000000000000000000000000000000000000000006203400) rfl hw)
    | (show Nat.testBit _ _ = true; exact testBit_up (a := 0x20000000200007000000000000000000000060000081b805000000000000000000000000000000000000000000000000000000000000000000000000000000000000000000000000000000000000006203400) hw rfl)
    | with_reducible refine hf _ ?_
    | (extract_lets +onlyGivenNames x; refine Upd.cut (t := x) ?_ (fun hx => ?_); (on_goal 2 => clear_value x); unfold x; clear x)
    | (extract_lets +onlyGivenNames x; clear_value x)
    | with_reducible apply Upd.ite
    | with_reducible refine Upd.putReg ?_ (fun x hx => ?_) ?_
    | with_reducible refine Upd.issue ?_ (fun x hx => ?_) ?_
    | split

end Sys2Proof.Machine
end

