-- ==== Sys2Proof/Laws/FootQueues.lean ====
section
/-! SUPPORT. The footprints of the operations of Machine/Queues.lean: what each may change. -/

set_option linter.unreachableTactic false
set_option linter.unusedTactic false
set_option linter.unusedVariables false

namespace Sys2Proof.Machine

theorem State.modFlow_upd (s : State) (a1 : ℕ) (a2 : Flow → Flow) :
    Upd 0x2000000000000000000000000000000000000000000000000000000000000000000000000000000000000000000000000000000000000000000000000000000000000000000000000000000000 s (State.modFlow s a1 a2) := by
  unfold State.modFlow
  refine Upd.set_flows ?_ rfl
  exact Upd.refl _ _

theorem State.flowCount_upd (a1 : RegId) (a2 : ℕ) (a3 : ℕ) (s : State) :
    Upd 0x20000000000000000000000000000000000000000001b805000000000000000000000000000000000000000000000000000000000000000000000000000000000000000000000000000000000000000000000 s (State.flowCount a1 a2 a3 s) := by
  unfold State.flowCount
  split
  · refine Upd.step ?_ (State.count_upd ..) rfl
    exact Upd.refl _ _
  · exact Upd.refl _ _

theorem Upd.bumpFlow {w : Nat} {s t : State} {id id' : RegId} {f : Nat} (h : Upd w s t)
    (hl : w.testBit id.ctorIdx = true) (hh : w.testBit id'.ctorIdx = true) (hw : Nat.land 0x20000000000000000000000000000000000000000001b805000000000000000000000000000000000000000000000000000000000000000000000000000000000000000000000000000000000000000000000 w = 0x20000000000000000000000000000000000000000001b805000000000000000000000000000000000000000000000000000000000000000000000000000000000000000000000000000000000000000000000) :
    Upd w s (t.bumpFlow id id' f) := by
  unfold State.bumpFlow
  repeat' first
    | with_reducible assumption
    | with_reducible exact Upd.refl _ _
    | (show Nat.testBit _ _ = true; with_reducible assumption)
    | (show Nat.land _ _ = _; exact land_trans (b := 0x20000000000000000000000000000000000000000001b805000000000000000000000000000000000000000000000000000000000000000000000000000000000000000000000000000000000000000000000) rfl hw)
    | (show Nat.testBit _ _ = true; exact testBit_up (a := 0x20000000000000000000000000000000000000000001b805000000000000000000000000000000000000000000000000000000000000000000000000000000000000000000000000000000000000000000000) hw rfl)
    | (extract_lets +onlyGivenNames x; refine Upd.cut (t := x) ?_ (fun hx => ?_); (on_goal 2 => clear_value x); unfold x; clear x)
    | (extract_lets +onlyGivenNames x; clear_value x)
    | with_reducible apply Upd.ite
    | with_reducible refine Upd.add64 ?_ ?_ ?_
    | with_reducible refine Upd.step ?_ (State.flowCount_upd ..) ?_
    | split

theorem Upd.addBytes {w : Nat} {s t : State} {id id' id'' : RegId} {f n : Nat} (h : Upd w s t)
    (hl : w.testBit id.ctorIdx = true) (hh : w.testBit id'.ctorIdx = true) (hm : w.testBit id''.ctorIdx = true) (hw : Nat.land 0x0 w = 0x0) :
    Upd w s (t.addBytes id id' id'' f n) := by
  unfold State.addBytes
  repeat' first
    | with_reducible assumption
    | with_reducible exact Upd.refl _ _
    | (show Nat.testBit _ _ = true; with_reducible assumption)
    | (show Nat.land _ _ = _; exact land_trans (b := 0x0) rfl hw)
    | (show Nat.testBit _ _ = true; exact testBit_up (a := 0x0) hw rfl)
    | (extract_lets +onlyGivenNames x; refine Upd.cut (t := x) ?_ (fun hx => ?_); (on_goal 2 => clear_value x); unfold x; clear x)
    | (extract_lets +onlyGivenNames x; clear_value x)
    | with_reducible apply Upd.ite
    | with_reducible refine Upd.wrN ?_ ?_
    | split

theorem State.xoffFlow_upd (a1 : ℕ) (s : State) :
    Upd 0x20000000000000000000000000000000000000000001b805000000000000000000000000000000000000000000000000000060000008000000000000000000000000000000000000000000000000000000000 s (State.xoffFlow a1 s) := by
  unfold State.xoffFlow
  extract_lets +onlyGivenNames -underBinder -merge -useContext x1
  try clear_value x1
  refine Upd.ite ?_ ?_
  · exact Upd.refl _ _
  · refine Upd.when ?_ (fun x2 h2 => ?_)
    · refine Upd.setFlag ?_ rfl
      exact Upd.refl _ _
    · refine Upd.bumpFlow ?_ rfl rfl rfl
      exact h2

theorem State.modPort_upd (a1 : ℕ) (a2 : PortOut → PortOut) (s : State) :
    Upd 0x8000000000000000000000000000000000000000000000000000000000000000000000000000000000000000000000000000000000000000000000000000000000000000000000000000000000 s (State.modPort a1 a2 s) := by
  unfold State.modPort
  refine Upd.set_ports ?_ rfl
  exact Upd.refl _ _

theorem State.pauseSend_upd (a1 : ℕ) (a2 : ℕ) (a3 : ℕ) (s : State) :
    Upd 0x8000000000000000000000000000000000000000000000000000000000000000000000000000000000000000000000000000003000000000000000000000000000000000000000000000000000 s (State.pauseSend a1 a2 a3 s) := by
  unfold State.pauseSend
  refine Upd.when ?_ (fun x1 h1 => ?_)
  · exact Upd.refl _ _
  · refine Upd.add64 ?_ rfl rfl
    refine Upd.step ?_ (State.modPort_upd ..) rfl
    exact h1

theorem State.pausePort_upd (a1 : ℕ) (s : State) :
    Upd 0x8000000000000000000000000000000000000000000000000000000000000000000000000000000000000000000000000000003000040000000000000000000000000000000000000000000000 s (State.pausePort a1 s) := by
  unfold State.pausePort
  extract_lets +onlyGivenNames -underBinder -merge -useContext x1
  try clear_value x1
  extract_lets +onlyGivenNames -underBinder -merge -useContext x2
  try clear_value x2
  refine Upd.ite ?_ ?_
  · exact Upd.refl _ _
  · extract_lets +onlyGivenNames -underBinder -merge -useContext x3
    try clear_value x3
    refine Upd.when ?_ (fun x4 h4 => ?_)
    · refine Upd.setFld ?_ rfl
      exact Upd.refl _ _
    · refine Upd.step ?_ (State.pauseSend_upd ..) rfl
      exact h4

theorem State.pauseAgain_upd (a1 : ℕ) (s : State) :
    Upd 0x8000000000000000000000000000000000000000000000000000000000000000000000000000000000000000000000000000003000000000000000000000000000000000000000000000000000 s (State.pauseAgain a1 s) := by
  unfold State.pauseAgain
  extract_lets +onlyGivenNames -underBinder -merge -useContext x1
  try clear_value x1
  extract_lets +onlyGivenNames -underBinder -merge -useContext x2
  try clear_value x2
  refine Upd.when ?_ (fun x3 h3 => ?_)
  · exact Upd.refl _ _
  · refine Upd.step ?_ (State.pauseSend_upd ..) rfl
    exact h3

theorem State.pauseAll_upd (s : State) :
    Upd 0x8000000000000000000000000000000000000000000000000000000000000000000000000000000000000000000000000000003000040000000000000000000000000000000000000000000000 s (State.pauseAll s) := by
  unfold State.pauseAll
  refine Upd.upto ?_ (fun n1 x1 h1 => ?_) _
  · exact Upd.refl _ _
  · refine Upd.step ?_ (State.pausePort_upd ..) rfl
    exact h1

theorem State.thresholds_upd (a1 : ℕ) (s : State) :
    Upd 0x20000000000a00000000000000000000000000000001b805000000000000000000000000000000000000000000000000000060000008000113000040000000000000000000000000000000000000000000000 s (State.thresholds a1 s) := by
  unfold State.thresholds
  extract_lets +onlyGivenNames -underBinder -merge -useContext x1
  try clear_value x1
  extract_lets +onlyGivenNames -underBinder -merge -useContext x2
  refine Upd.cut (t := x2) ?_ (fun h2 => ?_)
  · unfold x2
    refine Upd.step ?_ (State.modFlow_upd ..) rfl
    exact Upd.refl _ _
  clear_value x2
  extract_lets +onlyGivenNames -underBinder -merge -useContext x3
  try clear_value x3
  extract_lets +onlyGivenNames -underBinder -merge -useContext x4
  try clear_value x4
  extract_lets +onlyGivenNames -underBinder -merge -useContext x5
  try clear_value x5
  extract_lets +onlyGivenNames -underBinder -merge -useContext x6
  try clear_value x6
  extract_lets +onlyGivenNames -underBinder -merge -useContext x7
  refine Upd.cut (t := x7) ?_ (fun h7 => ?_)
  · unfold x7
    refine Upd.when ?_ (fun x8 h8 => ?_)
    · refine Upd.setFlag ?_ rfl
      refine Upd.setFlag ?_ rfl
      exact h2
    · refine Upd.raise ?_ rfl
      exact h8
  clear_value x7
  extract_lets +onlyGivenNames -underBinder -merge -useContext x9
  refine Upd.cut (t := x9) ?_ (fun h9 => ?_)
  · unfold x9
    refine Upd.when ?_ (fun x10 h10 => ?_)
    · exact h7
    · refine Upd.raise ?_ rfl
      exact h10
  clear_value x9
  extract_lets +onlyGivenNames -underBinder -merge -useContext x11
  refine Upd.cut (t := x11) ?_ (fun h11 => ?_)
  · unfold x11
    refine Upd.ite ?_ ?_
    · refine Upd.step ?_ (State.xoffFlow_upd ..) rfl
      exact h9
    · refine Upd.each ?_ (fun n12 x12 h12 => ?_) _
      · exact h9
      · refine Upd.step ?_ (State.xoffFlow_upd ..) rfl
        exact h12
  clear_value x11
  refine Upd.step ?_ (State.pauseAll_upd ..) rfl
  exact h11

theorem State.retShow_upd (s : State) :
    Upd 0x100000000000000000000000000000000000000000000000000000000000000000000 s (State.retShow s) := by
  unfold State.retShow
  refine Upd.setFld ?_ rfl
  refine Upd.setFlag ?_ rfl
  exact Upd.refl _ _

theorem State.retSettle_upd (s : State) :
    Upd 0x10000000000000000000000000000000000000000000000000000000000000000000000000000000000000100000000000000000000000000000000000000000000000000000000000000000000 s (State.retSettle s) := by
  unfold State.retSettle
  refine Upd.ite ?_ ?_
  · refine Upd.step ?_ (State.retShow_upd ..) rfl
    refine Upd.set_hay ?_ rfl
    exact Upd.refl _ _
  · exact Upd.refl _ _

theorem State.departed_upd (a1 : ℕ) (s : State) :
    Upd 0x20000000001a00000000000000000000000000000001b805000000000000000000000000000000000000000000000000100060000008000113000040000000000000000000000000000000000000000000000 s (State.departed a1 s) := by
  unfold State.departed
  extract_lets +onlyGivenNames -underBinder -merge -useContext x1
  refine Upd.cut (t := x1) ?_ (fun h1 => ?_)
  · unfold x1
    refine Upd.step ?_ (State.retSettle_upd ..) rfl
    refine Upd.step ?_ (State.modFlow_upd ..) rfl
    exact Upd.refl _ _
  clear_value x1
  extract_lets +onlyGivenNames -underBinder -merge -useContext x2
  try clear_value x2
  extract_lets +onlyGivenNames -underBinder -merge -useContext x3
  refine Upd.cut (t := x3) ?_ (fun h3 => ?_)
  · unfold x3
    refine Upd.ite ?_ ?_
    · refine Upd.setFld ?_ rfl
      exact h1
    · refine Upd.ite ?_ ?_
      · refine Upd.setFld ?_ rfl
        exact h1
      · exact h1
  clear_value x3
  refine Upd.step ?_ (State.thresholds_upd ..) rfl
  exact h3

theorem State.popHead_upd (a1 : ℕ) (s : State) :
    Upd 0x2000000000000000000000000000000000000000000000000000000000000000000000000000000000000000000000000000000000000000000000000000000000000000000000000000000000 s (State.popHead a1 s) := by
  unfold State.popHead
  refine Upd.step ?_ (State.modFlow_upd ..) rfl
  exact Upd.refl _ _

theorem State.purgeN_upd (a1 : ℕ) (a2 : ℕ) (s : State) : Upd 0x20000000000200000000000000000000000000000001b805000000000000000000000000000000000000000000000000000018600000000000000000000000000000000000000000000000000000000000000 s (State.purgeN a1 a2 s) := by
  induction a2 generalizing a1 s with
  | zero => exact Upd.refl _ _
  | succ n ih =>
    unfold State.purgeN
    repeat' first
      | with_reducible assumption
      | with_reducible exact Upd.refl _ _
      | with_reducible refine Upd.step ?_ (ih ..) ?_
      | (show Nat.land _ _ = _; rfl)
      | (show Nat.testBit _ _ = true; rfl)
      | (extract_lets +onlyGivenNames x; refine Upd.cut (t := x) ?_ (fun hx => ?_); (on_goal 2 => clear_value x); unfold x; clear x)
      | (extract_lets +onlyGivenNames x; clear_value x)
      | with_reducible apply Upd.ite
      | with_reducible refine Upd.bumpFlow ?_ ?_ ?_ ?_
      | with_reducible refine Upd.step ?_ (State.popHead_upd ..) ?_
      | split

theorem State.purge_upd (a1 : ℕ) (s : State) :
    Upd 0x20000000000200000000000000000000000000000001b805000000000000000000000000000000000000000000000000000018600000000000000000000000000000000000000000000000000000000000000 s (State.purge a1 s) := by
  unfold State.purge
  refine Upd.step ?_ (State.purgeN_upd ..) rfl
  exact Upd.refl _ _

theorem Upd.dropFrames {w : Nat} {s t : State} {f : Nat} {p : Frm → Bool} {id id' : RegId} (h : Upd w s t)
    (hl : w.testBit id.ctorIdx = true) (hh : w.testBit id'.ctorIdx = true) (hw : Nat.land 0x20000000001a00000000000000000000000000000001b805000000000000000000000000000000000000000000000000100060000008000113000040000000000000000000000000000000000000000000000 w = 0x20000000001a00000000000000000000000000000001b805000000000000000000000000000000000000000000000000100060000008000113000040000000000000000000000000000000000000000000000) :
    Upd w s (State.dropFrames f p id id' t) := by
  unfold State.dropFrames
  repeat' first
    | with_reducible assumption
    | with_reducible exact Upd.refl _ _
    | (show Nat.testBit _ _ = true; with_reducible assumption)
    | (show Nat.land _ _ = _; exact land_trans (b := 0x20000000001a00000000000000000000000000000001b805000000000000000000000000000000000000000000000000100060000008000113000040000000000000000000000000000000000000000000000) rfl hw)
    | (show Nat.testBit _ _ = true; exact testBit_up (a := 0x20000000001a00000000000000000000000000000001b805000000000000000000000000000000000000000000000000100060000008000113000040000000000000000000000000000000000000000000000) hw rfl)
    | (extract_lets +onlyGivenNames x; refine Upd.cut (t := x) ?_ (fun hx => ?_); (on_goal 2 => clear_value x); unfold x; clear x)
    | (extract_lets +onlyGivenNames x; clear_value x)
    | with_reducible apply Upd.ite
    | with_reducible refine Upd.add64 ?_ ?_ ?_
    | with_reducible refine Upd.step ?_ (State.flowCount_upd ..) ?_
    | with_reducible refine Upd.step ?_ (State.departed_upd ..) ?_
    | with_reducible refine Upd.step ?_ (State.modFlow_upd ..) ?_
    | split

theorem State.dropExpress_upd (a1 : Bool) (a2 : ℕ) (s : State) :
    Upd 0x20000000001a00000000000000000000000000000001b805000000000000000000000000000000000000000000000000100066000008000113000040000000000000000000000000000000000000000000000 s (State.dropExpress a1 a2 s) := by
  unfold State.dropExpress
  refine Upd.each ?_ (fun n1 x1 h1 => ?_) _
  · exact Upd.refl _ _
  · refine Upd.dropFrames ?_ rfl rfl rfl
    exact h1

theorem State.holdGrp_upd (a1 : ℕ) (s : State) :
    Upd 0x20000000001a00000000000000000000000000000001b805000000000000000000000000000000000000000000000000100066000008002113000040000000000000000000000000000000000000000000000 s (State.holdGrp a1 s) := by
  unfold State.holdGrp
  refine Upd.ite ?_ ?_
  · refine Upd.step ?_ (State.dropExpress_upd ..) rfl
    refine Upd.setFld ?_ rfl
    exact Upd.refl _ _
  · exact Upd.refl _ _

theorem State.holds_upd (s : State) :
    Upd 0x20000000001a00000000000000000000000000000001b805000000000000000000000000000000000000000000000000100066000008002113000040000000000000000000000000000000000000000000000 s (State.holds s) := by
  unfold State.holds
  refine Upd.each ?_ (fun n1 x1 h1 => ?_) _
  · exact Upd.refl _ _
  · refine Upd.step ?_ (State.holdGrp_upd ..) rfl
    exact h1

theorem State.holdPort_upd (a1 : ℕ) (s : State) :
    Upd 0x20000000001a00000000000000000000000000000001b805000000000000000000000000000000000000000000000000100066000008000113000040000000000000000000000000000000000000000000000 s (State.holdPort a1 s) := by
  unfold State.holdPort
  refine Upd.ite ?_ ?_
  · exact Upd.refl _ _
  · refine Upd.step ?_ (State.dropExpress_upd ..) rfl
    exact Upd.refl _ _

end Sys2Proof.Machine
end

