-- ==== Sys2Proof/Laws/FootTxCore.lean ====
section
/-! SUPPORT. The footprints of the operations of Machine/TxCore.lean: what each may change. -/

set_option linter.unreachableTactic false
set_option linter.unusedTactic false
set_option linter.unusedVariables false

namespace Sys2Proof.Machine

theorem State.modPccT_upd (s : State) (a1 : ℕ) (a2 : PccTx → PccTx) :
    Upd 0x400000000000000000000000000000000000000000000000000000000000000000000000000000000000000000000000000000000000000000000000000000000000000000000000000000000 s (State.modPccT s a1 a2) := by
  unfold State.modPccT
  refine Upd.set_pccTx ?_ rfl
  exact Upd.refl _ _

theorem State.pccPend_upd (a1 : ℕ) (a2 : ℕ) (s : State) :
    Upd 0x400000000000000000000000000000000000000000000000000000000000000000000000000000000000000000000000000000000000000000000000000000000000000000000000000000000 s (State.pccPend a1 a2 s) := by
  unfold State.pccPend
  refine Upd.ite ?_ ?_
  · refine Upd.step ?_ (State.modPccT_upd ..) rfl
    exact Upd.refl _ _
  · exact Upd.refl _ _

theorem State.pccStop_upd (a1 : ℕ) (s : State) :
    Upd 0x400000000000000000000000000000000000000000000001200200000000000000000000000000000000000000000000000000000000000000000000000000000000000000000000000000000 s (State.pccStop a1 s) := by
  unfold State.pccStop
  refine Upd.ite ?_ ?_
  · exact Upd.refl _ _
  · refine Upd.setFlag ?_ rfl
    refine Upd.raise ?_ rfl
    refine Upd.bump ?_ rfl
    refine Upd.step ?_ (State.modPccT_upd ..) rfl
    exact Upd.refl _ _

theorem State.shapeShow_upd (a1 : ℕ) (s : State) :
    Upd 0x800000000000000000000000 s (State.shapeShow a1 s) := by
  unfold State.shapeShow
  extract_lets +onlyGivenNames -underBinder -merge -useContext x1
  try clear_value x1
  refine Upd.setFld ?_ rfl
  refine Upd.setFlag ?_ rfl
  exact Upd.refl _ _

theorem State.shapeCopy_upd (a1 : ℕ) (s : State) :
    Upd 0x2000000000000000000000000000000000000000000000000000000000000000000000000000000000000000000000000000000000000000000000000000000800000000000000000000000 s (State.shapeCopy a1 s) := by
  unfold State.shapeCopy
  refine Upd.step ?_ (State.shapeShow_upd ..) rfl
  refine Upd.step ?_ (State.modCar_upd ..) rfl
  exact Upd.refl _ _

theorem State.txCauses_upd (a1 : ℕ) (s : State) :
    Upd 0x400000000000000000000000 s (State.txCauses a1 s) := by
  unfold State.txCauses
  extract_lets +onlyGivenNames -underBinder -merge -useContext x1
  try clear_value x1
  refine Upd.setFlag ?_ rfl
  refine Upd.setFlag ?_ rfl
  refine Upd.setFlag ?_ rfl
  refine Upd.setFlag ?_ rfl
  refine Upd.setFlag ?_ rfl
  exact Upd.refl _ _

theorem State.txFill_upd (a1 : ℕ) (s : State) :
    Upd 0x402000000000000000000000000000000000000000000000000000000000000000000000000000000000000000000000000000000000000000000000000000000c00000000000000000000000 s (State.txFill a1 s) := by
  unfold State.txFill
  refine Upd.step ?_ (State.shapeCopy_upd ..) rfl
  refine Upd.step ?_ (State.modPccT_upd ..) rfl
  refine Upd.step ?_ (State.modCar_upd ..) rfl
  refine Upd.setFld ?_ rfl
  exact Upd.refl _ _

theorem State.txMove_upd (a1 : ℕ) (a2 : Bool) (s : State) :
    Upd 0x402000000000000000000000000000000000000000000001200200000000000000000000000000000000000000000000000000000000000000000000000000008c00000000000000000000000 s (State.txMove a1 a2 s) := by
  unfold State.txMove
  extract_lets +onlyGivenNames -underBinder -merge -useContext x1
  try clear_value x1
  extract_lets +onlyGivenNames -underBinder -merge -useContext x2
  try clear_value x2
  refine Upd.ite ?_ ?_
  · refine Upd.ite ?_ ?_
    · exact Upd.refl _ _
    · refine Upd.when ?_ (fun x3 h3 => ?_)
      · refine Upd.raise ?_ rfl
        refine Upd.setFld ?_ rfl
        exact Upd.refl _ _
      · refine Upd.step ?_ (State.pccStop_upd ..) rfl
        exact h3
  · refine Upd.ite ?_ ?_
    · refine Upd.setFld ?_ rfl
      exact Upd.refl _ _
    · refine Upd.ite ?_ ?_
      · refine Upd.ite ?_ ?_
        · refine Upd.ite ?_ ?_
          · refine Upd.setFld ?_ rfl
            exact Upd.refl _ _
          · refine Upd.step ?_ (State.txFill_upd ..) rfl
            exact Upd.refl _ _
        · exact Upd.refl _ _
      · refine Upd.ite ?_ ?_
        · refine Upd.ite ?_ ?_
          · refine Upd.step ?_ (State.pccStop_upd ..) rfl
            refine Upd.raise ?_ rfl
            refine Upd.setFld ?_ rfl
            exact Upd.refl _ _
          · exact Upd.refl _ _
        · refine Upd.ite ?_ ?_
          · refine Upd.step ?_ (State.txFill_upd ..) rfl
            exact Upd.refl _ _
          · exact Upd.refl _ _

theorem State.skewSettle_upd (a1 : ℕ) (a2 : ℕ) (s : State) :
    Upd 0x2000000000000000000000000000000000000000000000000000000000000000000000000000000000000000000000000000000000000000000000000000004000000000000000000000000 s (State.skewSettle a1 a2 s) := by
  unfold State.skewSettle
  extract_lets +onlyGivenNames -underBinder -merge -useContext x1
  try clear_value x1
  extract_lets +onlyGivenNames -underBinder -merge -useContext x2
  try clear_value x2
  refine Upd.ite ?_ ?_
  · refine Upd.setFlag ?_ rfl
    exact Upd.refl _ _
  · refine Upd.setFlag ?_ rfl
    refine Upd.step ?_ (State.modCar_upd ..) rfl
    exact Upd.refl _ _

theorem State.txEval_upd (a1 : ℕ) (s : State) :
    Upd 0x20000000001a40200000000000000000000000000001b80500000000000120020000000000000000000000000000000010006600000800211300004000000000000000000000cc00000000000000000000000 s (State.txEval a1 s) := by
  unfold State.txEval
  refine Upd.ite ?_ ?_
  · refine Upd.step ?_ (State.holds_upd ..) rfl
    refine Upd.upto ?_ (fun n1 x1 h1 => ?_) _
    · refine Upd.step ?_ (State.txMove_upd ..) rfl
      refine Upd.step ?_ (State.txCauses_upd ..) rfl
      exact Upd.refl _ _
    · refine Upd.step ?_ (State.skewSettle_upd ..) rfl
      exact h1
  · exact Upd.refl _ _

theorem State.ppsEval_upd (s : State) :
    Upd 0x18000000000000000000000000000000000000000000000000000000000000000000000000000000000000000000000000000000000000000000000000000000000 s (State.ppsEval s) := by
  unfold State.ppsEval
  refine Upd.ite ?_ ?_
  · exact Upd.refl _ _
  · refine Upd.when ?_ (fun x1 h1 => ?_)
    · refine Upd.setFlag ?_ rfl
      exact Upd.refl _ _
    · refine Upd.raise ?_ rfl
      exact h1

theorem State.failOver_upd (a1 : ℕ) (s : State) :
    Upd 0x20000000001a40200000000000000000000000002001b80500000000000120020000000000000000000000000000000010006600000800211300004000000000000000000000ce00000000000000000000000 s (State.failOver a1 s) := by
  unfold State.failOver
  refine Upd.ite ?_ ?_
  · exact Upd.refl _ _
  · refine Upd.ite ?_ ?_
    · refine Upd.step ?_ (State.txEval_upd ..) rfl
      refine Upd.setFlag ?_ rfl
      exact Upd.refl _ _
    · refine Upd.ite ?_ ?_
      · refine Upd.raise ?_ rfl
        exact Upd.refl _ _
      · refine Upd.raise ?_ rfl
        exact Upd.refl _ _

theorem State.failOvers_upd (a1 : ℕ) (s : State) :
    Upd 0x20000000001a40200000000000000000000000002001b80500000000000120020000000000000000000000000000000010006600000800211300004000000000000000000000ce00000000000000000000000 s (State.failOvers a1 s) := by
  unfold State.failOvers
  extract_lets +onlyGivenNames -underBinder -merge -useContext x1
  try clear_value x1
  extract_lets +onlyGivenNames -underBinder -merge -useContext x2
  try clear_value x2
  refine Upd.when ?_ (fun x4 h4 => ?_)
  · refine Upd.when ?_ (fun x3 h3 => ?_)
    · exact Upd.refl _ _
    · refine Upd.step ?_ (State.failOver_upd ..) rfl
      exact h3
  · refine Upd.step ?_ (State.failOver_upd ..) rfl
    exact h4

theorem State.detect_upd (a1 : ℕ) (s : State) :
    Upd 0x20000000001a4620000000000000000000180000a281b80500000000000120020000000000000000000000000000000010006600000800211300004000000000000000000000ce00000000000000000000000 s (State.detect a1 s) := by
  unfold State.detect
  extract_lets +onlyGivenNames -underBinder -merge -useContext x1
  try clear_value x1
  extract_lets +onlyGivenNames -underBinder -merge -useContext x2
  refine Upd.cut (t := x2) ?_ (fun h2 => ?_)
  · unfold x2
    refine Upd.step ?_ (State.logFree_upd ..) rfl
    refine Upd.bump ?_ rfl
    refine Upd.wr ?_ rfl
    exact Upd.refl _ _
  clear_value x2
  refine Upd.ite ?_ ?_
  · exact h2
  · refine Upd.step ?_ (State.ppsEval_upd ..) rfl
    refine Upd.step ?_ (State.failOvers_upd ..) rfl
    exact h2

end Sys2Proof.Machine
end

