-- ==== Sys2Proof/Laws/FootGroups.lean ====
section
/-! SUPPORT. The footprints of the operations of Machine/Groups.lean: what each may change. -/

set_option linter.unreachableTactic false
set_option linter.unusedTactic false
set_option linter.unusedVariables false

namespace Sys2Proof.Machine

theorem State.sealsLost_upd (a1 : ℕ) (s : State) :
    Upd 0x40000000000000000000000000000000000000000000000000000000000000000000000000080000000400000000000000000000000000000000000000000000000000000000000000000000000 s (State.sealsLost a1 s) := by
  unfold State.sealsLost
  extract_lets +onlyGivenNames -underBinder -merge -useContext x1
  try clear_value x1
  extract_lets +onlyGivenNames -underBinder -merge -useContext x2
  try clear_value x2
  extract_lets +onlyGivenNames -underBinder -merge -useContext y3_0 x3
  refine Upd.cut (t := x3) ?_ (fun h3 => ?_)
  · unfold x3
    try unfold y3_0
    refine Upd.set_cip ?_ rfl
    exact Upd.refl _ _
  clear_value x3 y3_0
  refine Upd.each ?_ (fun n4 x4 h4 => ?_) _
  · exact h3
  · refine Upd.raise ?_ rfl
    refine Upd.bump ?_ rfl
    exact h4

theorem State.grpLeave_upd (a1 : ℕ) (a2 : ℕ) (s : State) :
    Upd 0x54008000000000000000000000000000000000000000000000000000000000000000000000080000000400100000000000000000000015000000000000000000000000000000000000000000000 s (State.grpLeave a1 a2 s) := by
  unfold State.grpLeave
  extract_lets +onlyGivenNames -underBinder -merge -useContext x1
  refine Upd.cut (t := x1) ?_ (fun h1 => ?_)
  · unfold x1
    refine Upd.when ?_ (fun x2 h2 => ?_)
    · exact Upd.refl _ _
    · refine Upd.set_delin ?_ rfl
      refine Upd.step ?_ (State.sealsLost_upd ..) rfl
      refine Upd.bump ?_ rfl
      refine Upd.raise ?_ rfl
      exact h2
  clear_value x1
  refine Upd.step ?_ (State.retSettle_upd ..) rfl
  refine Upd.step ?_ (State.modGrp_upd ..) rfl
  refine Upd.setFld ?_ rfl
  exact h1

theorem State.grpEval_upd (a1 : ℕ) (s : State) :
    Upd 0x54008000000000000000000000000000000000000000000000000000000000000000000000080000000400100000000000000000000015000000000000000000000000000000000000000000000 s (State.grpEval a1 s) := by
  unfold State.grpEval
  extract_lets +onlyGivenNames -underBinder -merge -useContext x1
  try clear_value x1
  extract_lets +onlyGivenNames -underBinder -merge -useContext x2
  try clear_value x2
  extract_lets +onlyGivenNames -underBinder -merge -useContext x3
  try clear_value x3
  extract_lets +onlyGivenNames -underBinder -merge -useContext x4
  refine Upd.cut (t := x4) ?_ (fun h4 => ?_)
  · unfold x4
    refine Upd.ite ?_ ?_
    · refine Upd.ite ?_ ?_
      · exact Upd.refl _ _
      · refine Upd.step ?_ (State.grpLeave_upd ..) rfl
        exact Upd.refl _ _
    · refine Upd.ite ?_ ?_
      · refine Upd.ite ?_ ?_
        · exact Upd.refl _ _
        · refine Upd.step ?_ (State.grpLeave_upd ..) rfl
          exact Upd.refl _ _
      · refine Upd.ite ?_ ?_
        · refine Upd.step ?_ (State.modGrp_upd ..) rfl
          refine Upd.setFld ?_ rfl
          exact Upd.refl _ _
        · exact Upd.refl _ _
  clear_value x4
  refine Upd.setFld ?_ rfl
  refine Upd.setFld ?_ rfl
  exact h4

theorem State.grpsEval_upd (s : State) :
    Upd 0x20000000005e00800000000000000000000000000001b805000000000000000000000000000000000000080000000400100066000008002113000055000000000000000000000000000000000000000000000 s (State.grpsEval s) := by
  unfold State.grpsEval
  refine Upd.step ?_ (State.holds_upd ..) rfl
  refine Upd.each ?_ (fun n1 x1 h1 => ?_) _
  · exact Upd.refl _ _
  · refine Upd.step ?_ (State.grpEval_upd ..) rfl
    exact h1

theorem State.grpMode_upd (a1 : ℕ) (a2 : ℕ) (a3 : Bool) (s : State) :
    Upd 0x8000000000000000000000000000000000000000000000000000000000000000000000000000000000000800000000000000000005000000000000000000000000000000000000000000000 s (State.grpMode a1 a2 a3 s) := by
  unfold State.grpMode
  refine Upd.ite ?_ ?_
  · refine Upd.step ?_ (State.modGrp_upd ..) rfl
    refine Upd.setFld ?_ rfl
    exact Upd.refl _ _
  · refine Upd.ite ?_ ?_
    · refine Upd.step ?_ (State.modGrp_upd ..) rfl
      refine Upd.setFld ?_ rfl
      exact Upd.refl _ _
    · extract_lets +onlyGivenNames -underBinder -merge -useContext x1
      refine Upd.cut (t := x1) ?_ (fun h1 => ?_)
      · unfold x1
        refine Upd.when ?_ (fun x2 h2 => ?_)
        · exact Upd.refl _ _
        · refine Upd.raise ?_ rfl
          exact h2
      clear_value x1
      refine Upd.when ?_ (fun x3 h3 => ?_)
      · refine Upd.setFld ?_ rfl
        exact h1
      · refine Upd.raise ?_ rfl
        exact h3

theorem State.roundStart_upd (a1 : ℕ) (s : State) :
    Upd 0x40000000000000000000000000000000000000000000000000000000000000000000000000000000000000000000000000000000000000000000000000000000000000000000000000000000000 s (State.roundStart a1 s) := by
  unfold State.roundStart
  refine Upd.set_cip ?_ rfl
  exact Upd.refl _ _

theorem State.marker_upd (a1 : ℕ) (a2 : ℕ) (a3 : Option ℕ) (a4 : ℕ) (a5 : ℕ) (s : State) :
    Upd 0x54008000000000000000000000000000000000000000000000000000000000000000000000080000000400100800000000000000000017000000000000000000000000000000000000000000000 s (State.marker a1 a2 a3 a4 a5 s) := by
  unfold State.marker
  extract_lets +onlyGivenNames -underBinder -merge -useContext x1
  try clear_value x1
  extract_lets +onlyGivenNames -underBinder -merge -useContext x2
  try clear_value x2
  extract_lets +onlyGivenNames -underBinder -merge -useContext x3
  try clear_value x3
  extract_lets +onlyGivenNames -underBinder -merge -useContext x4
  try clear_value x4
  extract_lets +onlyGivenNames -underBinder -merge -useContext x5
  try clear_value x5
  extract_lets +onlyGivenNames -underBinder -merge -useContext x6
  refine Upd.cut (t := x6) ?_ (fun h6 => ?_)
  · unfold x6
    refine Upd.step ?_ (State.modGrp_upd ..) rfl
    exact Upd.refl _ _
  clear_value x6
  extract_lets +onlyGivenNames -underBinder -merge -useContext x7
  refine Upd.cut (t := x7) ?_ (fun h7 => ?_)
  · unfold x7
    refine Upd.when ?_ (fun x8 h8 => ?_)
    · exact h6
    · refine Upd.step ?_ (State.roundStart_upd ..) rfl
      exact h8
  clear_value x7
  extract_lets +onlyGivenNames -underBinder -merge -useContext x9
  refine Upd.cut (t := x9) ?_ (fun h9 => ?_)
  · unfold x9
    refine Upd.step ?_ (State.grpEval_upd ..) rfl
    refine Upd.when ?_ (fun x10 h10 => ?_)
    · exact h7
    · refine Upd.raise ?_ rfl
      exact h10
  clear_value x9
  split
  · exact h9
  · extract_lets +onlyGivenNames -underBinder -merge -useContext x11
    try clear_value x11
    extract_lets +onlyGivenNames -underBinder -merge -useContext x12
    refine Upd.cut (t := x12) ?_ (fun h12 => ?_)
    · unfold x12
      refine Upd.wr ?_ rfl
      exact h9
    clear_value x12
    extract_lets +onlyGivenNames -underBinder -merge -useContext x13
    try clear_value x13
    refine Upd.ite ?_ ?_
    · refine Upd.step ?_ (State.grpMode_upd ..) rfl
      exact h12
    · refine Upd.ite ?_ ?_
      · refine Upd.step ?_ (State.grpEval_upd ..) rfl
        refine Upd.step ?_ (State.grpLeave_upd ..) rfl
        refine Upd.raise ?_ rfl
        exact h12
      · exact h12

theorem execGroupMarker_upd (a1 : ℕ) (a2 : ℕ) (a3 : Option ℕ) (a4 : ℕ) (a5 : ℕ) (s : State) :
    ∃ t, execGroupMarker a1 a2 a3 a4 a5 s = .next t ∧ Upd 0x54008000000000000000000000000000000000000000000000000000000000000000000000080000000400100800000000000000000017000000000000000000000000000000000000000000000 s t := by
  unfold execGroupMarker
  refine ⟨_, rfl, ?_⟩
  refine Upd.ite ?_ ?_
  · refine Upd.step ?_ (State.marker_upd ..) rfl
    exact Upd.refl _ _
  · exact Upd.refl _ _

theorem execSkewCheck_upd (a1 : ℕ) (s : State) :
    ∃ t, execSkewCheck a1 s = .next t ∧ Upd 0x8000000000000000000000000000000000000000000000000000000000000000000000000000000000000800000000000000000005000000000000000000000000000000000000000000000 s t := by
  unfold execSkewCheck
  refine ⟨_, rfl, ?_⟩
  refine Upd.ite ?_ ?_
  · refine Upd.step ?_ (State.grpMode_upd ..) rfl
    exact Upd.refl _ _
  · exact Upd.refl _ _

theorem execGrpUp_upd (a1 : ℕ) (s : State) :
    ∃ t, execGrpUp a1 s = .next t ∧ Upd 0x4000000000000000000000000000000000000000000000000000000000000000000000000000000000000000000000000000000000005000000000000000000000000000000000000000000000 s t := by
  unfold execGrpUp
  refine ⟨_, rfl, ?_⟩
  refine Upd.ite ?_ ?_
  · refine Upd.set_delin ?_ rfl
    refine Upd.raise ?_ rfl
    refine Upd.setFld ?_ rfl
    exact Upd.refl _ _
  · exact Upd.refl _ _

theorem execGrpSlip_upd (a1 : ℕ) (a2 : ℕ) (s : State) :
    ∃ t, execGrpSlip a1 a2 s = .next t ∧ Upd 0x54008000000000000000000000000000000000000000000000000000000000000000000000080000000400100000000000000000000015000000000000000000000000000000000000000000000 s t := by
  unfold execGrpSlip
  refine ⟨_, rfl, ?_⟩
  refine Upd.ite ?_ ?_
  · refine Upd.step ?_ (State.grpEval_upd ..) rfl
    refine Upd.step ?_ (State.grpLeave_upd ..) rfl
    refine Upd.raise ?_ rfl
    exact Upd.refl _ _
  · exact Upd.refl _ _

theorem State.grpCfgWrite_upd (a1 : ℕ) (a2 : W32) (s : State) :
    Upd 0x20000000005e00800000000000000000000000000001b805000000000000000000000000000000000000080000000400100066000008002113000055800000000000000000000000000000000000000000000 s (State.grpCfgWrite a1 a2 s) := by
  unfold State.grpCfgWrite
  extract_lets +onlyGivenNames -underBinder -merge -useContext x1
  try clear_value x1
  extract_lets +onlyGivenNames -underBinder -merge -useContext x2
  try clear_value x2
  extract_lets +onlyGivenNames -underBinder -merge -useContext x3
  try clear_value x3
  extract_lets +onlyGivenNames -underBinder -merge -useContext x4
  try clear_value x4
  extract_lets +onlyGivenNames -underBinder -merge -useContext x5
  try clear_value x5
  extract_lets +onlyGivenNames -underBinder -merge -useContext x6
  try clear_value x6
  refine Upd.ite ?_ ?_
  · refine Upd.raise ?_ rfl
    exact Upd.refl _ _
  · extract_lets +onlyGivenNames -underBinder -merge -useContext x7
    refine Upd.cut (t := x7) ?_ (fun h7 => ?_)
    · unfold x7
      refine Upd.wr ?_ rfl
      exact Upd.refl _ _
    clear_value x7
    refine Upd.step ?_ (State.holdGrp_upd ..) rfl
    refine Upd.step ?_ (State.grpEval_upd ..) rfl
    refine Upd.when ?_ (fun x8 h8 => ?_)
    · exact h7
    · refine Upd.step ?_ (State.holdGrp_upd ..) rfl
      exact h8

theorem execGrpCfgWrite_upd (a1 : Master) (a2 : ℕ) (a3 : W32) (s : State) :
    ∃ t, execGrpCfgWrite a1 a2 a3 s = .next t ∧ Upd 0x20000000205e07800000000000000000000060000081b805000000000000000000000000000000000000080000000400100066000008002113000055800000000000000000000000000000000000006203400 s t := by
  unfold execGrpCfgWrite
  refine ⟨_, rfl, ?_⟩
  refine Upd.guardW ?_ (fun x1 h1 => ?_) rfl
  · exact Upd.refl _ _
  · refine Upd.step ?_ (State.grpCfgWrite_upd ..) rfl
    exact h1

end Sys2Proof.Machine
end

