-- ==== Sys2Proof/Laws/FootStable.lean ====
section
/-! SUPPORT. The footprints of the operations of Machine/Stable.lean: what each may change. -/

set_option linter.unreachableTactic false
set_option linter.unusedTactic false
set_option linter.unusedVariables false

namespace Sys2Proof.Machine

theorem State.modStb_upd (s : State) (a1 : Stb → Stb) :
    Upd 0x800000000000000000000000000000000000000000000000000000000000000000000000000000000000000000000000000000000000000000000000000000000000000000000000000000000000 s (State.modStb s a1) := by
  unfold State.modStb
  refine Upd.set_stb ?_ rfl
  exact Upd.refl _ _

theorem State.modCand_upd (s : State) (a1 : ℕ) (a2 : Cand → Cand) :
    Upd 0x800000000000000000000000000000000000000000000000000000000000000000000000000000000000000000000000000000000000000000000000000000000000000000000000000000000000 s (State.modCand s a1 a2) := by
  unfold State.modCand
  refine Upd.step ?_ (State.modStb_upd ..) rfl
  exact Upd.refl _ _

theorem State.qlEval_upd (s : State) :
    Upd 0x800400000000000000000000000000000000000000000000000000000000000000000000000000000000000000000000000000000000000000000000000000000000000000000000000000000000 s (State.qlEval s) := by
  unfold State.qlEval
  refine Upd.upto ?_ (fun n1 x1 h1 => ?_) _
  · exact Upd.refl _ _
  · refine Upd.ite ?_ ?_
    · exact h1
    · refine Upd.step ?_ (State.pccPend_upd ..) rfl
      refine Upd.step ?_ (State.modStb_upd ..) rfl
      exact h1

theorem State.availEval_upd (s : State) :
    Upd 0x420000004000000000000 s (State.availEval s) := by
  unfold State.availEval
  refine Upd.upto ?_ (fun n1 x1 h1 => ?_) _
  · exact Upd.refl _ _
  · extract_lets +onlyGivenNames -underBinder -merge -useContext x2
    try clear_value x2
    refine Upd.ite ?_ ?_
    · exact h1
    · extract_lets +onlyGivenNames -underBinder -merge -useContext x3
      refine Upd.cut (t := x3) ?_ (fun h3 => ?_)
      · unfold x3
        refine Upd.when ?_ (fun x4 h4 => ?_)
        · refine Upd.setFlag ?_ rfl
          exact h1
        · refine Upd.raise ?_ rfl
          exact h4
      clear_value x3
      extract_lets +onlyGivenNames -underBinder -merge -useContext x5
      try clear_value x5
      refine Upd.setFld ?_ rfl
      exact h3

theorem State.setQl_upd (a1 : ℕ) (a2 : ℕ) (s : State) :
    Upd 0x800400000000000000000000000000000000000000000000000000000000000000000000000000000000000000000000000000000000000000000000000000000000000420000004000000000000 s (State.setQl a1 a2 s) := by
  unfold State.setQl
  refine Upd.ite ?_ ?_
  · exact Upd.refl _ _
  · refine Upd.step ?_ (State.qlEval_upd ..) rfl
    refine Upd.step ?_ (State.availEval_upd ..) rfl
    refine Upd.when ?_ (fun x1 h1 => ?_)
    · refine Upd.raise ?_ rfl
      refine Upd.setFld ?_ rfl
      exact Upd.refl _ _
    · refine Upd.raise ?_ rfl
      exact h1

theorem State.takeQl_upd (a1 : ℕ) (s : State) :
    Upd 0x800400000000000000000000000000000000000000000000000000000000000000000000000000000000000000000000000000000000000000000000000000000000000420000004000000000000 s (State.takeQl a1 s) := by
  unfold State.takeQl
  split
  · refine Upd.step ?_ (State.setQl_upd ..) rfl
    exact Upd.refl _ _
  · split
    · refine Upd.step ?_ (State.setQl_upd ..) rfl
      exact Upd.refl _ _
    · refine Upd.step ?_ (State.setQl_upd ..) rfl
      exact Upd.refl _ _

theorem State.deliver_upd (a1 : ℕ) (a2 : ℕ) (a3 : Bool) (a4 : ℕ) (a5 : ℕ) (s : State) :
    Upd 0x800400000000000000000000000000000000000000000000000000000000000000000000000000000000000000000000000000000000000000000000000000000000000420000004000000000000 s (State.deliver a1 a2 a3 a4 a5 s) := by
  unfold State.deliver
  refine Upd.ite ?_ ?_
  · exact Upd.refl _ _
  · extract_lets +onlyGivenNames -underBinder -merge -useContext x1
    refine Upd.cut (t := x1) ?_ (fun h1 => ?_)
    · unfold x1
      refine Upd.step ?_ (State.modStb_upd ..) rfl
      exact Upd.refl _ _
    clear_value x1
    refine Upd.upto ?_ (fun n2 x2 h2 => ?_) _
    · exact h1
    · refine Upd.ite ?_ ?_
      · refine Upd.step ?_ (State.setQl_upd ..) rfl
        refine Upd.when ?_ (fun x3 h3 => ?_)
        · exact h2
        · refine Upd.raise ?_ rfl
          exact h3
      · exact h2

theorem State.deliverRank_upd (a1 : ℕ) (a2 : ℕ) (s : State) :
    Upd 0x800400000000000000000000000000000000000000000000000000000000000000000000000000000000000000000000000000000000000000000000000000000000000420000004000000000000 s (State.deliverRank a1 a2 s) := by
  unfold State.deliverRank
  extract_lets +onlyGivenNames -underBinder -merge -useContext x1
  try clear_value x1
  refine Upd.step ?_ (State.deliver_upd ..) rfl
  exact Upd.refl _ _

theorem State.esmcRx_upd (a1 : ℕ) (a2 : Option EsmcPdu) (s : State) :
    Upd 0x800400000000000000000000000000000000000000000000000000000000000000000000000000000000000000000000000000000000000000000000000000000000000420000004000000000000 s (State.esmcRx a1 a2 s) := by
  unfold State.esmcRx
  refine Upd.ite ?_ ?_
  · exact Upd.refl _ _
  · split
    · refine Upd.upto ?_ (fun n1 x1 h1 => ?_) _
      · exact Upd.refl _ _
      · refine Upd.ite ?_ ?_
        · refine Upd.raise ?_ rfl
          exact h1
        · exact h1
    · extract_lets +onlyGivenNames -underBinder -merge -useContext x2
      try clear_value x2
      extract_lets +onlyGivenNames -underBinder -merge -useContext x3
      try clear_value x3
      extract_lets +onlyGivenNames -underBinder -merge -useContext x4
      try clear_value x4
      extract_lets +onlyGivenNames -underBinder -merge -useContext x5
      try clear_value x5
      extract_lets +onlyGivenNames -underBinder -merge -useContext x6
      try clear_value x6
      refine Upd.step ?_ (State.deliver_upd ..) rfl
      exact Upd.refl _ _

theorem State.esmcSend_upd (a1 : ℕ) (a2 : Bool) (s : State) :
    Upd 0x800000000000000000000000000000000000000000000000000000000000000000000000000000000000000000000000000000000000000000000000000000000000000000000000000000000000 s (State.esmcSend a1 a2 s) := by
  unfold State.esmcSend
  refine Upd.step ?_ (State.modStb_upd ..) rfl
  exact Upd.refl _ _

theorem State.cleanEval_upd (s : State) :
    Upd 0x800000000000000000000000000000000000000000000000000000000000000000000000000000000000000000000000000000000000000000000000000000000000000000000000000000000000 s (State.cleanEval s) := by
  unfold State.cleanEval
  refine Upd.ite ?_ ?_
  · exact Upd.refl _ _
  · refine Upd.step ?_ (State.modStb_upd ..) rfl
    exact Upd.refl _ _

theorem State.setTrained_upd (a1 : Bool) (s : State) :
    Upd 0x10008000000000000 s (State.setTrained a1 s) := by
  unfold State.setTrained
  refine Upd.ite ?_ ?_
  · exact Upd.refl _ _
  · refine Upd.raise ?_ (by first | rfl | (split <;> rfl) | (unfold enterEvt; split <;> rfl) | (unfold pendFld; split <;> rfl) | (rw [padFld_reg (by assumption)]; rfl) | (unfold phWord; rcases a2 with _ | _ | _ | _ | _ | a2 <;> rfl) | exact RegId.all_bit rfl _)
    refine Upd.setFlag ?_ (by first | rfl | (split <;> rfl) | (unfold enterEvt; split <;> rfl) | (unfold pendFld; split <;> rfl) | (rw [padFld_reg (by assumption)]; rfl) | (unfold phWord; rcases a2 with _ | _ | _ | _ | _ | a2 <;> rfl) | exact RegId.all_bit rfl _)
    exact Upd.refl _ _

theorem State.trainEval_upd (s : State) :
    Upd 0x800000000000000000000000000000000000000000000000000000000000000000000000000000000000000000000000000000000000000000000000000000000000000000010008000000000000 s (State.trainEval s) := by
  unfold State.trainEval
  extract_lets +onlyGivenNames -underBinder -merge -useContext x1
  refine Upd.cut (t := x1) ?_ (fun h1 => ?_)
  · unfold x1
    refine Upd.setFld ?_ rfl
    refine Upd.setFld ?_ rfl
    exact Upd.refl _ _
  clear_value x1
  extract_lets +onlyGivenNames -underBinder -merge -useContext x2
  try clear_value x2
  extract_lets +onlyGivenNames -underBinder -merge -useContext x3
  try clear_value x3
  refine Upd.step ?_ (State.modStb_upd ..) rfl
  refine Upd.step ?_ (State.setTrained_upd ..) rfl
  exact h1

theorem State.stbEnter_upd (a1 : ℕ) (s : State) :
    Upd 0x20000000081a4620000000000000000000180000a281b80500000000000120020000000000000000000000000000000010006600000800211300004000000000000000000000ce0000010000c000000000000 s (State.stbEnter a1 s) := by
  unfold State.stbEnter
  extract_lets +onlyGivenNames -underBinder -merge -useContext x1
  try clear_value x1
  refine Upd.ite ?_ ?_
  · exact Upd.refl _ _
  · extract_lets +onlyGivenNames -underBinder -merge -useContext x2
    refine Upd.cut (t := x2) ?_ (fun h2 => ?_)
    · unfold x2
      refine Upd.step ?_ (State.modStb_upd ..) (by first | rfl | (split <;> rfl) | (unfold enterEvt; split <;> rfl) | (unfold pendFld; split <;> rfl) | (rw [padFld_reg (by assumption)]; rfl) | (unfold phWord; rcases a2 with _ | _ | _ | _ | _ | a2 <;> rfl) | exact RegId.all_bit rfl _)
      exact Upd.refl _ _
    clear_value x2
    extract_lets +onlyGivenNames -underBinder -merge -useContext x3
    refine Upd.cut (t := x3) ?_ (fun h3 => ?_)
    · unfold x3
      refine Upd.raise ?_ (by first | rfl | (split <;> rfl) | (unfold enterEvt; split <;> rfl) | (unfold pendFld; split <;> rfl) | (rw [padFld_reg (by assumption)]; rfl) | (unfold phWord; rcases a2 with _ | _ | _ | _ | _ | a2 <;> rfl) | exact RegId.all_bit rfl _)
      refine Upd.setFld ?_ (by first | rfl | (split <;> rfl) | (unfold enterEvt; split <;> rfl) | (unfold pendFld; split <;> rfl) | (rw [padFld_reg (by assumption)]; rfl) | (unfold phWord; rcases a2 with _ | _ | _ | _ | _ | a2 <;> rfl) | exact RegId.all_bit rfl _)
      exact h2
    clear_value x3
    extract_lets +onlyGivenNames -underBinder -merge -useContext x4
    refine Upd.cut (t := x4) ?_ (fun h4 => ?_)
    · unfold x4
      refine Upd.when ?_ (fun x5 h5 => ?_)
      · exact h3
      · refine Upd.wr ?_ (by first | rfl | (split <;> rfl) | (unfold enterEvt; split <;> rfl) | (unfold pendFld; split <;> rfl) | (rw [padFld_reg (by assumption)]; rfl) | (unfold phWord; rcases a2 with _ | _ | _ | _ | _ | a2 <;> rfl) | exact RegId.all_bit rfl _)
        exact h5
    clear_value x4
    refine Upd.step ?_ (State.ppsEval_upd ..) (by first | rfl | (split <;> rfl) | (unfold enterEvt; split <;> rfl) | (unfold pendFld; split <;> rfl) | (rw [padFld_reg (by assumption)]; rfl) | (unfold phWord; rcases a2 with _ | _ | _ | _ | _ | a2 <;> rfl) | exact RegId.all_bit rfl _)
    refine Upd.step ?_ (State.qlEval_upd ..) (by first | rfl | (split <;> rfl) | (unfold enterEvt; split <;> rfl) | (unfold pendFld; split <;> rfl) | (rw [padFld_reg (by assumption)]; rfl) | (unfold phWord; rcases a2 with _ | _ | _ | _ | _ | a2 <;> rfl) | exact RegId.all_bit rfl _)
    refine Upd.step ?_ (State.cleanEval_upd ..) (by first | rfl | (split <;> rfl) | (unfold enterEvt; split <;> rfl) | (unfold pendFld; split <;> rfl) | (rw [padFld_reg (by assumption)]; rfl) | (unfold phWord; rcases a2 with _ | _ | _ | _ | _ | a2 <;> rfl) | exact RegId.all_bit rfl _)
    refine Upd.when ?_ (fun x6 h6 => ?_)
    · exact h4
    · refine Upd.step ?_ (State.detect_upd ..) (by first | rfl | (split <;> rfl) | (unfold enterEvt; split <;> rfl) | (unfold pendFld; split <;> rfl) | (rw [padFld_reg (by assumption)]; rfl) | (unfold phWord; rcases a2 with _ | _ | _ | _ | _ | a2 <;> rfl) | exact RegId.all_bit rfl _)
      exact h6

theorem State.stbLose_upd (s : State) :
    Upd 0x20000000081a4620000000000000000000180000a281b80500000000000120020000000000000000000000000000000010006600000800211300004000000000000000000000ce0000010000c000000000000 s (State.stbLose s) := by
  unfold State.stbLose
  refine Upd.ite ?_ ?_
  · refine Upd.step ?_ (State.stbEnter_upd ..) rfl
    exact Upd.refl _ _
  · exact Upd.refl _ _

theorem State.stbAcq_upd (s : State) :
    Upd 0x20000000081a4620000000000000000000180000a281b80500000000000120020000000000000000000000000000000010006600000800211300004000000000000000000000ce0000010000c000000000000 s (State.stbAcq s) := by
  unfold State.stbAcq
  extract_lets +onlyGivenNames -underBinder -merge -useContext x1
  try clear_value x1
  refine Upd.ite ?_ ?_
  · refine Upd.step ?_ (State.stbEnter_upd ..) rfl
    exact Upd.refl _ _
  · exact Upd.refl _ _

theorem State.refHoldStart_upd (a1 : ℕ) (s : State) :
    Upd 0x20000000081a4620000000000000000000180000a281b80500000000000120020000000000000000000000000000000010006600000800211300004000000000000000000000ce00000000004000000000000 s (State.refHoldStart a1 s) := by
  unfold State.refHoldStart
  extract_lets +onlyGivenNames -underBinder -merge -useContext x1
  try clear_value x1
  extract_lets +onlyGivenNames -underBinder -merge -useContext x2
  try clear_value x2
  extract_lets +onlyGivenNames -underBinder -merge -useContext x3
  refine Upd.cut (t := x3) ?_ (fun h3 => ?_)
  · unfold x3
    refine Upd.step ?_ (State.modStb_upd ..) rfl
    exact Upd.refl _ _
  clear_value x3
  refine Upd.step ?_ (State.cleanEval_upd ..) rfl
  refine Upd.when ?_ (fun x4 h4 => ?_)
  · refine Upd.setFlag ?_ rfl
    exact h3
  · refine Upd.step ?_ (State.detect_upd ..) rfl
    exact h4

theorem State.lossOver_upd (s : State) :
    Upd 0x800000000000000000000000000000000000000000000000000000000000000000000000000000000000000000000000000000000000000000000000000000000000000000000000000000000000 s (State.lossOver s) := by
  unfold State.lossOver
  refine Upd.step ?_ (State.modStb_upd ..) rfl
  exact Upd.refl _ _

theorem State.wtrStart_upd (a1 : ℕ) (s : State) :
    Upd 0x800000000000000000000000000000000000000000000000000000000000000000000000000000000000000000000000000000000000000000000000000000000000000020000000000000000000 s (State.wtrStart a1 s) := by
  unfold State.wtrStart
  extract_lets +onlyGivenNames -underBinder -merge -useContext x1
  try clear_value x1
  refine Upd.setFlag ?_ rfl
  refine Upd.step ?_ (State.modCand_upd ..) rfl
  exact Upd.refl _ _

theorem State.candLost_upd (a1 : ℕ) (s : State) :
    Upd 0x20000000081a4620000000000000000000180000a281b80500000000000120020000000000000000000000000000000010006600000800211300004000000000000000000000ce024e0000004000000000000 s (State.candLost a1 s) := by
  unfold State.candLost
  refine Upd.ite ?_ ?_
  · exact Upd.refl _ _
  · extract_lets +onlyGivenNames -underBinder -merge -useContext x1
    refine Upd.cut (t := x1) ?_ (fun h1 => ?_)
    · unfold x1
      refine Upd.bump ?_ rfl
      refine Upd.raise ?_ rfl
      refine Upd.setFlag ?_ rfl
      exact Upd.refl _ _
    clear_value x1
    extract_lets +onlyGivenNames -underBinder -merge -useContext x2
    refine Upd.cut (t := x2) ?_ (fun h2 => ?_)
    · unfold x2
      refine Upd.step ?_ (State.modCand_upd ..) rfl
      refine Upd.setFlag ?_ rfl
      exact h1
    clear_value x2
    extract_lets +onlyGivenNames -underBinder -merge -useContext x3
    refine Upd.cut (t := x3) ?_ (fun h3 => ?_)
    · unfold x3
      refine Upd.wr ?_ rfl
      refine Upd.wr ?_ rfl
      exact h2
    clear_value x3
    extract_lets +onlyGivenNames -underBinder -merge -useContext x4
    refine Upd.cut (t := x4) ?_ (fun h4 => ?_)
    · unfold x4
      refine Upd.when ?_ (fun x5 h5 => ?_)
      · exact h3
      · refine Upd.step ?_ (State.refHoldStart_upd ..) rfl
        exact h5
    clear_value x4
    refine Upd.step ?_ (State.availEval_upd ..) rfl
    exact h4

theorem State.candPresent_upd (a1 : ℕ) (s : State) :
    Upd 0x800000000000000000000000000000000000000000000000000000000000000000000000000000000000000000000000000000000000000000000000000000000000000420000004000000000000 s (State.candPresent a1 s) := by
  unfold State.candPresent
  refine Upd.ite ?_ ?_
  · exact Upd.refl _ _
  · extract_lets +onlyGivenNames -underBinder -merge -useContext x1
    refine Upd.cut (t := x1) ?_ (fun h1 => ?_)
    · unfold x1
      refine Upd.raise ?_ rfl
      refine Upd.setFlag ?_ rfl
      exact Upd.refl _ _
    clear_value x1
    extract_lets +onlyGivenNames -underBinder -merge -useContext x2
    try clear_value x2
    extract_lets +onlyGivenNames -underBinder -merge -useContext x3
    try clear_value x3
    extract_lets +onlyGivenNames -underBinder -merge -useContext x4
    refine Upd.cut (t := x4) ?_ (fun h4 => ?_)
    · unfold x4
      refine Upd.when ?_ (fun x5 h5 => ?_)
      · exact h1
      · refine Upd.step ?_ (State.wtrStart_upd ..) rfl
        exact h5
    clear_value x4
    extract_lets +onlyGivenNames -underBinder -merge -useContext x6
    refine Upd.cut (t := x6) ?_ (fun h6 => ?_)
    · unfold x6
      refine Upd.when ?_ (fun x7 h7 => ?_)
      · exact h4
      · refine Upd.step ?_ (State.cleanEval_upd ..) rfl
        refine Upd.setFlag ?_ rfl
        exact h7
    clear_value x6
    refine Upd.step ?_ (State.availEval_upd ..) rfl
    refine Upd.when ?_ (fun x8 h8 => ?_)
    · exact h6
    · refine Upd.step ?_ (State.lossOver_upd ..) rfl
      exact h8

theorem State.commitSel_upd (a1 : ℕ) (s : State) :
    Upd 0x20000000081a4620000000000000000000180000a281b80500000000000120020000000000000000000000000000000010006600000800211300004000000000000000000000ce0040018000c000000000000 s (State.commitSel a1 s) := by
  unfold State.commitSel
  extract_lets +onlyGivenNames -underBinder -merge -useContext x1
  try clear_value x1
  extract_lets +onlyGivenNames -underBinder -merge -useContext x2
  refine Upd.cut (t := x2) ?_ (fun h2 => ?_)
  · unfold x2
    refine Upd.when ?_ (fun x3 h3 => ?_)
    · exact Upd.refl _ _
    · refine Upd.step ?_ (State.modCand_upd ..) rfl
      refine Upd.raise ?_ rfl
      exact h3
  clear_value x2
  extract_lets +onlyGivenNames -underBinder -merge -useContext x4
  refine Upd.cut (t := x4) ?_ (fun h4 => ?_)
  · unfold x4
    refine Upd.setFld ?_ rfl
    exact h2
  clear_value x4
  refine Upd.ite ?_ ?_
  · refine Upd.step ?_ (State.qlEval_upd ..) rfl
    refine Upd.step ?_ (State.stbLose_upd ..) rfl
    exact h4
  · extract_lets +onlyGivenNames -underBinder -merge -useContext x5
    refine Upd.cut (t := x5) ?_ (fun h5 => ?_)
    · unfold x5
      refine Upd.step ?_ (State.lossOver_upd ..) rfl
      refine Upd.step ?_ (State.modStb_upd ..) rfl
      refine Upd.raise ?_ rfl
      exact h4
    clear_value x5
    refine Upd.step ?_ (State.qlEval_upd ..) rfl
    refine Upd.when ?_ (fun x6 h6 => ?_)
    · exact h5
    · refine Upd.step ?_ (State.cleanEval_upd ..) rfl
      refine Upd.setFlag ?_ rfl
      refine Upd.bump ?_ rfl
      refine Upd.raise ?_ rfl
      exact h6

theorem State.selTick_upd (s : State) :
    Upd 0x20000000081a4620000000000000000000180000a281b80500000000000120020000000000000000000000000000000010006600000800211300004000000000000000000000ce0040018000c000000000000 s (State.selTick s) := by
  unfold State.selTick
  refine Upd.ite ?_ ?_
  · exact Upd.refl _ _
  · refine Upd.ite ?_ ?_
    · refine Upd.ite ?_ ?_
      · refine Upd.step ?_ (State.stbAcq_upd ..) rfl
        refine Upd.step ?_ (State.commitSel_upd ..) rfl
        refine Upd.step ?_ (State.cleanEval_upd ..) rfl
        refine Upd.setFlag ?_ rfl
        exact Upd.refl _ _
      · exact Upd.refl _ _
    · refine Upd.ite ?_ ?_
      · refine Upd.step ?_ (State.refHoldStart_upd ..) rfl
        exact Upd.refl _ _
      · refine Upd.step ?_ (State.stbAcq_upd ..) rfl
        refine Upd.when ?_ (fun x1 h1 => ?_)
        · exact Upd.refl _ _
        · refine Upd.step ?_ (State.commitSel_upd ..) rfl
          exact h1

theorem State.refHoldEnd_upd (s : State) :
    Upd 0x20000000081a4620000000000000000000180000a281b80500000000000120020000000000000000000000000000000010006600000800211300004000000000000000000000ce0040018000c000000000000 s (State.refHoldEnd s) := by
  unfold State.refHoldEnd
  refine Upd.ite ?_ ?_
  · exact Upd.refl _ _
  · extract_lets +onlyGivenNames -underBinder -merge -useContext x1
    refine Upd.cut (t := x1) ?_ (fun h1 => ?_)
    · unfold x1
      refine Upd.step ?_ (State.cleanEval_upd ..) rfl
      refine Upd.setFlag ?_ rfl
      exact Upd.refl _ _
    clear_value x1
    refine Upd.step ?_ (State.stbAcq_upd ..) rfl
    refine Upd.when ?_ (fun x2 h2 => ?_)
    · exact h1
    · refine Upd.step ?_ (State.commitSel_upd ..) rfl
      exact h2

theorem State.clampEval_upd (s : State) :
    Upd 0x80000000000000000000000000000000000000000000000000000000000000000000000000000000000000000000000000000000000000000000000000000000000000000000000c000000000000 s (State.clampEval s) := by
  unfold State.clampEval
  extract_lets +onlyGivenNames -underBinder -merge -useContext x1
  try clear_value x1
  refine Upd.ite ?_ ?_
  · exact Upd.refl _ _
  · refine Upd.step ?_ (State.cleanEval_upd ..) rfl
    refine Upd.when ?_ (fun x2 h2 => ?_)
    · refine Upd.setFlag ?_ rfl
      exact Upd.refl _ _
    · refine Upd.raise ?_ rfl
      exact h2

theorem State.stbTick_upd (s : State) :
    Upd 0x8000000000000000000000000000000000000000000000000000000000000000000000000000000000000000000000000000000000000000000000000000000000000000001000cc000000000000 s (State.stbTick s) := by
  unfold State.stbTick
  refine Upd.ite ?_ ?_
  · exact Upd.refl _ _
  · extract_lets +onlyGivenNames -underBinder -merge -useContext x1
    refine Upd.cut (t := x1) ?_ (fun h1 => ?_)
    · unfold x1
      refine Upd.step ?_ (State.clampEval_upd ..) rfl
      exact Upd.refl _ _
    clear_value x1
    extract_lets +onlyGivenNames -underBinder -merge -useContext x2
    try clear_value x2
    extract_lets +onlyGivenNames -underBinder -merge -useContext x3
    try clear_value x3
    extract_lets +onlyGivenNames -underBinder -merge -useContext x4
    try clear_value x4
    extract_lets +onlyGivenNames -underBinder -merge -useContext x5
    try clear_value x5
    extract_lets +onlyGivenNames -underBinder -merge -useContext x6
    try clear_value x6
    extract_lets +onlyGivenNames -underBinder -merge -useContext x7
    try clear_value x7
    extract_lets +onlyGivenNames -underBinder -merge -useContext x8
    refine Upd.cut (t := x8) ?_ (fun h8 => ?_)
    · unfold x8
      refine Upd.wr64 ?_ rfl rfl
      exact h1
    clear_value x8
    extract_lets +onlyGivenNames -underBinder -merge -useContext x9
    refine Upd.cut (t := x9) ?_ (fun h9 => ?_)
    · unfold x9
      refine Upd.step ?_ (State.modStb_upd ..) rfl
      exact h8
    clear_value x9
    extract_lets +onlyGivenNames -underBinder -merge -useContext x10
    refine Upd.cut (t := x10) ?_ (fun h10 => ?_)
    · unfold x10
      refine Upd.when ?_ (fun x11 h11 => ?_)
      · exact h9
      · refine Upd.step ?_ (State.modStb_upd ..) rfl
        exact h11
    clear_value x10
    refine Upd.when ?_ (fun x12 h12 => ?_)
    · exact h10
    · refine Upd.wrN ?_ rfl
      exact h12

theorem State.stbStart_upd (s : State) :
    Upd 0x800400000000000000000000000000000000000000000000000000000000000000000000000000000000000000000000000000000000000000000000000000000000000020010008000000000000 s (State.stbStart s) := by
  unfold State.stbStart
  refine Upd.ite ?_ ?_
  · exact Upd.refl _ _
  · extract_lets +onlyGivenNames -underBinder -merge -useContext x1
    refine Upd.cut (t := x1) ?_ (fun h1 => ?_)
    · unfold x1
      refine Upd.step ?_ (State.modStb_upd ..) (by first | rfl | (split <;> rfl) | (unfold enterEvt; split <;> rfl) | (unfold pendFld; split <;> rfl) | (rw [padFld_reg (by assumption)]; rfl) | (unfold phWord; rcases a2 with _ | _ | _ | _ | _ | a2 <;> rfl) | exact RegId.all_bit rfl _)
      refine Upd.raise ?_ (by first | rfl | (split <;> rfl) | (unfold enterEvt; split <;> rfl) | (unfold pendFld; split <;> rfl) | (rw [padFld_reg (by assumption)]; rfl) | (unfold phWord; rcases a2 with _ | _ | _ | _ | _ | a2 <;> rfl) | exact RegId.all_bit rfl _)
      exact Upd.refl _ _
    clear_value x1
    extract_lets +onlyGivenNames -underBinder -merge -useContext x2
    refine Upd.cut (t := x2) ?_ (fun h2 => ?_)
    · unfold x2
      refine Upd.setFld ?_ (by first | rfl | (split <;> rfl) | (unfold enterEvt; split <;> rfl) | (unfold pendFld; split <;> rfl) | (rw [padFld_reg (by assumption)]; rfl) | (unfold phWord; rcases a2 with _ | _ | _ | _ | _ | a2 <;> rfl) | exact RegId.all_bit rfl _)
      refine Upd.wr ?_ (by first | rfl | (split <;> rfl) | (unfold enterEvt; split <;> rfl) | (unfold pendFld; split <;> rfl) | (rw [padFld_reg (by assumption)]; rfl) | (unfold phWord; rcases a2 with _ | _ | _ | _ | _ | a2 <;> rfl) | exact RegId.all_bit rfl _)
      exact h1
    clear_value x2
    refine Upd.step ?_ (State.qlEval_upd ..) (by first | rfl | (split <;> rfl) | (unfold enterEvt; split <;> rfl) | (unfold pendFld; split <;> rfl) | (rw [padFld_reg (by assumption)]; rfl) | (unfold phWord; rcases a2 with _ | _ | _ | _ | _ | a2 <;> rfl) | exact RegId.all_bit rfl _)
    refine Upd.upto ?_ (fun n3 x3 h3 => ?_) _
    · exact h2
    · refine Upd.setFld ?_ (by first | rfl | (split <;> rfl) | (unfold enterEvt; split <;> rfl) | (unfold pendFld; split <;> rfl) | (rw [padFld_reg (by assumption)]; rfl) | (unfold phWord; rcases a2 with _ | _ | _ | _ | _ | a2 <;> rfl) | exact RegId.all_bit rfl _)
      exact h3

theorem State.stbStop_upd (s : State) :
    Upd 0x800400000000000000000000000000000000000000000000000000000000000000000000000000000000000000000000000000000000000000000000000000000000000000000000000000000000 s (State.stbStop s) := by
  unfold State.stbStop
  refine Upd.step ?_ (State.qlEval_upd ..) rfl
  refine Upd.step ?_ (State.modStb_upd ..) rfl
  exact Upd.refl _ _

theorem State.compare_upd (a1 : Bool) (a2 : ℕ) (s : State) :
    Upd 0x800000000000000000000000000000000000000000000000000000000000000000000000000000000000000000000000000000000000000000000000000000000000000420000000000000000000 s (State.compare a1 a2 s) := by
  unfold State.compare
  refine Upd.ite ?_ ?_
  · exact Upd.refl _ _
  · extract_lets +onlyGivenNames -underBinder -merge -useContext x1
    try clear_value x1
    extract_lets +onlyGivenNames -underBinder -merge -useContext x2
    try clear_value x2
    extract_lets +onlyGivenNames -underBinder -merge -useContext x3
    try clear_value x3
    extract_lets +onlyGivenNames -underBinder -merge -useContext x4
    refine Upd.cut (t := x4) ?_ (fun h4 => ?_)
    · unfold x4
      refine Upd.step ?_ (State.modCand_upd ..) rfl
      exact Upd.refl _ _
    clear_value x4
    extract_lets +onlyGivenNames -underBinder -merge -useContext x5
    refine Upd.cut (t := x5) ?_ (fun h5 => ?_)
    · unfold x5
      refine Upd.when ?_ (fun x6 h6 => ?_)
      · exact h4
      · refine Upd.step ?_ (State.modCand_upd ..) rfl
        refine Upd.raise ?_ rfl
        refine Upd.setFlag ?_ rfl
        exact h6
    clear_value x5
    refine Upd.when ?_ (fun x7 h7 => ?_)
    · exact h5
    · refine Upd.step ?_ (State.modCand_upd ..) rfl
      refine Upd.setFlag ?_ rfl
      exact h7

theorem State.qualWindow_upd (a1 : List (ℕ × ℤ)) (s : State) :
    Upd 0x8000000000000000000000000000000000000000000000000000000000000000000000000000000000000000000000000000000000000000000000000000000000000004e0000008000000000000 s (State.qualWindow a1 s) := by
  unfold State.qualWindow
  refine Upd.ite ?_ ?_
  · exact Upd.refl _ _
  · extract_lets +onlyGivenNames -underBinder -merge -useContext x1
    refine Upd.cut (t := x1) ?_ (fun h1 => ?_)
    · unfold x1
      refine Upd.each ?_ (fun n2 x2 h2 => ?_) _
      · exact Upd.refl _ _
      · refine Upd.ite ?_ ?_
        · exact h2
        · extract_lets +onlyGivenNames -underBinder -merge -useContext x3
          try clear_value x3
          extract_lets +onlyGivenNames -underBinder -merge -useContext x4
          refine Upd.cut (t := x4) ?_ (fun h4 => ?_)
          · unfold x4
            refine Upd.step ?_ (State.modCand_upd ..) rfl
            exact h2
          clear_value x4
          refine Upd.wrN ?_ rfl
          refine Upd.wrN ?_ rfl
          exact h4
    clear_value x1
    extract_lets +onlyGivenNames -underBinder -merge -useContext x5
    try clear_value x5
    refine Upd.upto ?_ (fun n7 x7 h7 => ?_) _
    · refine Upd.when ?_ (fun x6 h6 => ?_)
      · exact h1
      · refine Upd.raise ?_ rfl
        exact h6
    · refine Upd.step ?_ (State.compare_upd ..) rfl
      exact h7

theorem State.disqualify_upd (a1 : ℕ) (a2 : ℤ) (s : State) :
    Upd 0x800000000000000000000000000000000000000000000000000000000000000000000000000000000000000000000000000000000000000000000000000000000000001420000004000000000000 s (State.disqualify a1 a2 s) := by
  unfold State.disqualify
  refine Upd.ite ?_ ?_
  · exact Upd.refl _ _
  · extract_lets +onlyGivenNames -underBinder -merge -useContext x1
    try clear_value x1
    extract_lets +onlyGivenNames -underBinder -merge -useContext x2
    refine Upd.cut (t := x2) ?_ (fun h2 => ?_)
    · unfold x2
      refine Upd.bump ?_ rfl
      refine Upd.raise ?_ rfl
      refine Upd.setFlag ?_ rfl
      exact Upd.refl _ _
    clear_value x2
    extract_lets +onlyGivenNames -underBinder -merge -useContext x3
    refine Upd.cut (t := x3) ?_ (fun h3 => ?_)
    · unfold x3
      refine Upd.setFlag ?_ rfl
      exact h2
    clear_value x3
    extract_lets +onlyGivenNames -underBinder -merge -useContext x4
    try clear_value x4
    extract_lets +onlyGivenNames -underBinder -merge -useContext x5
    refine Upd.cut (t := x5) ?_ (fun h5 => ?_)
    · unfold x5
      refine Upd.when ?_ (fun x6 h6 => ?_)
      · exact h3
      · refine Upd.step ?_ (State.cleanEval_upd ..) rfl
        refine Upd.step ?_ (State.modStb_upd ..) rfl
        refine Upd.setFlag ?_ rfl
        exact h6
    clear_value x5
    refine Upd.step ?_ (State.availEval_upd ..) rfl
    exact h5

theorem State.pruneDone_upd (s : State) :
    Upd 0x80000000000000000000000000000000000000000000000000000000000000000000000000000000000000000000000000000000000000000000000000000000000000000007000c000000000000 s (State.pruneDone s) := by
  unfold State.pruneDone
  split
  · exact Upd.refl _ _
  · extract_lets +onlyGivenNames -underBinder -merge -useContext x1
    try clear_value x1
    extract_lets +onlyGivenNames -underBinder -merge -useContext x2
    try clear_value x2
    extract_lets +onlyGivenNames -underBinder -merge -useContext x3
    refine Upd.cut (t := x3) ?_ (fun h3 => ?_)
    · unfold x3
      refine Upd.setFld ?_ rfl
      refine Upd.setFld ?_ rfl
      exact Upd.refl _ _
    clear_value x3
    extract_lets +onlyGivenNames -underBinder -merge -useContext x4
    refine Upd.cut (t := x4) ?_ (fun h4 => ?_)
    · unfold x4
      refine Upd.step ?_ (State.modStb_upd ..) rfl
      refine Upd.wrN ?_ rfl
      exact h3
    clear_value x4
    refine Upd.step ?_ (State.trainEval_upd ..) rfl
    refine Upd.raise ?_ rfl
    refine Upd.setFlag ?_ rfl
    exact h4

theorem State.stbCfgWrite_upd (a1 : W32) (s : State) :
    Upd 0x20000000081a4620000000000000000000180000a281b80500000000000120020000000000000000000000000000000010006600000800211300004000000000000000000000ce0042010000d000000000000 s (State.stbCfgWrite a1 s) := by
  unfold State.stbCfgWrite
  extract_lets +onlyGivenNames -underBinder -merge -useContext x1
  try clear_value x1
  extract_lets +onlyGivenNames -underBinder -merge -useContext x2
  refine Upd.cut (t := x2) ?_ (fun h2 => ?_)
  · unfold x2
    refine Upd.plainWrite ?_ rfl
    exact Upd.refl _ _
  clear_value x2
  extract_lets +onlyGivenNames -underBinder -merge -useContext x3
  try clear_value x3
  extract_lets +onlyGivenNames -underBinder -merge -useContext x4
  refine Upd.cut (t := x4) ?_ (fun h4 => ?_)
  · unfold x4
    refine Upd.step ?_ (State.availEval_upd ..) rfl
    refine Upd.upto ?_ (fun n5 x5 h5 => ?_) _
    · exact h2
    · refine Upd.ite ?_ ?_
      · refine Upd.step ?_ (State.takeQl_upd ..) rfl
        exact h5
      · exact h5
  clear_value x4
  extract_lets +onlyGivenNames -underBinder -merge -useContext x6
  refine Upd.cut (t := x6) ?_ (fun h6 => ?_)
  · unfold x6
    split
    · refine Upd.step ?_ (State.stbLose_upd ..) rfl
      exact h4
    · refine Upd.step ?_ (State.stbEnter_upd ..) rfl
      exact h4
    · exact h4
  clear_value x6
  refine Upd.step ?_ (State.qlEval_upd ..) rfl
  exact h6

theorem State.refCfgWrite_upd (a1 : ℕ) (a2 : W32) (s : State) :
    Upd 0x800400000000000000000000000000000000000000000000000000000000000000000000000000000000000000000000000000000000000000000000000000000000000424000004000000000000 s (State.refCfgWrite a1 a2 s) := by
  unfold State.refCfgWrite
  extract_lets +onlyGivenNames -underBinder -merge -useContext x1
  try clear_value x1
  extract_lets +onlyGivenNames -underBinder -merge -useContext x2
  try clear_value x2
  extract_lets +onlyGivenNames -underBinder -merge -useContext x3
  refine Upd.cut (t := x3) ?_ (fun h3 => ?_)
  · unfold x3
    refine Upd.plainWrite ?_ rfl
    exact Upd.refl _ _
  clear_value x3
  extract_lets +onlyGivenNames -underBinder -merge -useContext x4
  refine Upd.cut (t := x4) ?_ (fun h4 => ?_)
  · unfold x4
    refine Upd.ite ?_ ?_
    · exact h3
    · refine Upd.step ?_ (State.takeQl_upd ..) rfl
      exact h3
  clear_value x4
  extract_lets +onlyGivenNames -underBinder -merge -useContext x5
  refine Upd.cut (t := x5) ?_ (fun h5 => ?_)
  · unfold x5
    refine Upd.when ?_ (fun x6 h6 => ?_)
    · exact h4
    · refine Upd.when ?_ (fun x7 h7 => ?_)
      · refine Upd.step ?_ (State.modCand_upd ..) rfl
        exact h6
      · refine Upd.step ?_ (State.wtrStart_upd ..) rfl
        exact h7
  clear_value x5
  refine Upd.step ?_ (State.qlEval_upd ..) rfl
  refine Upd.step ?_ (State.availEval_upd ..) rfl
  exact h5

theorem State.refLosWrite_upd (a1 : ℕ) (a2 : W32) (s : State) :
    Upd 0x800400000000000000000000000000000000000000000000000000000000000000000000000000000000000000000000000000000000000000000000000000000000000430000004000000000000 s (State.refLosWrite a1 a2 s) := by
  unfold State.refLosWrite
  extract_lets +onlyGivenNames -underBinder -merge -useContext x1
  try clear_value x1
  extract_lets +onlyGivenNames -underBinder -merge -useContext x2
  refine Upd.cut (t := x2) ?_ (fun h2 => ?_)
  · unfold x2
    refine Upd.plainWrite ?_ rfl
    exact Upd.refl _ _
  clear_value x2
  refine Upd.ite ?_ ?_
  · exact h2
  · refine Upd.step ?_ (State.takeQl_upd ..) rfl
    exact h2

theorem State.refFwWrite_upd (a1 : ℕ) (a2 : W32) (s : State) :
    Upd 0x20000000081a4620000000000000000000180000a281b80500000000000120020000000000000000000000000000000010006600000800211300004000000000000000000000ce026e0000004000000000000 s (State.refFwWrite a1 a2 s) := by
  unfold State.refFwWrite
  extract_lets +onlyGivenNames -underBinder -merge -useContext x1
  refine Upd.cut (t := x1) ?_ (fun h1 => ?_)
  · unfold x1
    refine Upd.step ?_ (State.deliver_upd ..) rfl
    refine Upd.plainWrite ?_ rfl
    exact Upd.refl _ _
  clear_value x1
  refine Upd.ite ?_ ?_
  · refine Upd.ite ?_ ?_
    · refine Upd.step ?_ (State.candPresent_upd ..) rfl
      exact h1
    · refine Upd.step ?_ (State.candLost_upd ..) rfl
      exact h1
  · exact h1

theorem State.fwBeat_upd (s : State) :
    Upd 0x20000000081a4620000000000000000000180000a281b80500000000000120020000000000000000000000000000000010006600000800211300004000000000000000000000ce0000010000c000000000000 s (State.fwBeat s) := by
  unfold State.fwBeat
  extract_lets +onlyGivenNames -underBinder -merge -useContext x1
  try clear_value x1
  extract_lets +onlyGivenNames -underBinder -merge -useContext x2
  refine Upd.cut (t := x2) ?_ (fun h2 => ?_)
  · unfold x2
    refine Upd.step ?_ (State.modStb_upd ..) rfl
    refine Upd.setFlag ?_ rfl
    exact Upd.refl _ _
  clear_value x2
  refine Upd.when ?_ (fun x3 h3 => ?_)
  · exact h2
  · refine Upd.step ?_ (State.stbAcq_upd ..) rfl
    refine Upd.step ?_ (State.clampEval_upd ..) rfl
    exact h3

theorem State.modelWrite_upd (a1 : W32) (s : State) :
    Upd 0x10008000000000000 s (State.modelWrite a1 s) := by
  unfold State.modelWrite
  refine Upd.plainWrite ?_ rfl
  refine Upd.step ?_ (State.setTrained_upd ..) rfl
  exact Upd.refl _ _

theorem State.selWrite_upd (a1 : W32) (s : State) :
    Upd 0x2000000000000 s (State.selWrite a1 s) := by
  unfold State.selWrite
  refine Upd.plainWrite ?_ rfl
  exact Upd.refl _ _

theorem execRefLost_upd (a1 : ℕ) (s : State) :
    ∃ t, execRefLost a1 s = .next t ∧ Upd 0x20000000081a4620000000000000000000180000a281b80500000000000120020000000000000000000000000000000010006600000800211300004000000000000000000000ce024e0000004000000000000 s t := by
  unfold execRefLost
  refine ⟨_, rfl, ?_⟩
  refine Upd.ite ?_ ?_
  · refine Upd.step ?_ (State.candLost_upd ..) rfl
    exact Upd.refl _ _
  · exact Upd.refl _ _

theorem execRefPresent_upd (a1 : ℕ) (s : State) :
    ∃ t, execRefPresent a1 s = .next t ∧ Upd 0x800000000000000000000000000000000000000000000000000000000000000000000000000000000000000000000000000000000000000000000000000000000000000420000004000000000000 s t := by
  unfold execRefPresent
  refine ⟨_, rfl, ?_⟩
  refine Upd.step ?_ (State.candPresent_upd ..) rfl
  exact Upd.refl _ _

theorem execEsmcPdu_upd (a1 : ℕ) (a2 : Option EsmcPdu) (s : State) :
    ∃ t, execEsmcPdu a1 a2 s = .next t ∧ Upd 0x800400000000000000000000000000000000000000000000000000000000000000000000000000000000000000000000000000000000000000000000000000000000000420000004000000000000 s t := by
  unfold execEsmcPdu
  refine ⟨_, rfl, ?_⟩
  refine Upd.step ?_ (State.esmcRx_upd ..) rfl
  exact Upd.refl _ _

theorem execQlTimeout_upd (a1 : ℕ) (s : State) :
    ∃ t, execQlTimeout a1 s = .next t ∧ Upd 0x800400000000000000000000000000000000000000000000000000000000000000000000000000000000000000000000000000000000000000000000000000000000000420000004000000000000 s t := by
  unfold execQlTimeout
  refine ⟨_, rfl, ?_⟩
  split
  · refine Upd.ite ?_ ?_
    · refine Upd.step ?_ (State.setQl_upd ..) rfl
      exact Upd.refl _ _
    · exact Upd.refl _ _
  · exact Upd.refl _ _

theorem execQlSrcWrite_upd (a1 : Master) (a2 : ℕ) (a3 : W32) (s : State) :
    ∃ t, execQlSrcWrite a1 a2 a3 s = .next t ∧ Upd 0x20000000280047000000000000000000000060000081b805000000000000000000000000000000000000000000000000000000000000000000000000000000000000000000000000424000004000006203400 s t := by
  unfold execQlSrcWrite
  refine ⟨_, rfl, ?_⟩
  refine Upd.guardW ?_ (fun x1 h1 => ?_) rfl
  · exact Upd.refl _ _
  · refine Upd.step ?_ (State.refCfgWrite_upd ..) rfl
    exact h1

theorem execQualWindow_upd (a1 : List (ℕ × ℤ)) (s : State) :
    ∃ t, execQualWindow a1 s = .next t ∧ Upd 0x8000000000000000000000000000000000000000000000000000000000000000000000000000000000000000000000000000000000000000000000000000000000000004e0000008000000000000 s t := by
  unfold execQualWindow
  refine ⟨_, rfl, ?_⟩
  refine Upd.step ?_ (State.qualWindow_upd ..) rfl
  exact Upd.refl _ _

theorem execDisq_upd (a1 : ℕ) (a2 : ℤ) (s : State) :
    ∃ t, execDisq a1 a2 s = .next t ∧ Upd 0x800000000000000000000000000000000000000000000000000000000000000000000000000000000000000000000000000000000000000000000000000000000000001420000004000000000000 s t := by
  unfold execDisq
  refine ⟨_, rfl, ?_⟩
  refine Upd.step ?_ (State.disqualify_upd ..) rfl
  exact Upd.refl _ _

theorem execRequalification_upd (a1 : ℕ) (s : State) :
    ∃ t, execRequalification a1 s = .next t ∧ Upd 0x800000000000000000000000000000000000000000000000000000000000000000000000000000000000000000000000000000000000000000000000000000000000000420000004000000000000 s t := by
  unfold execRequalification
  refine ⟨_, rfl, ?_⟩
  refine Upd.ite ?_ ?_
  · refine Upd.step ?_ (State.availEval_upd ..) rfl
    refine Upd.when ?_ (fun x1 h1 => ?_)
    · refine Upd.setFlag ?_ rfl
      exact Upd.refl _ _
    · refine Upd.step ?_ (State.wtrStart_upd ..) rfl
      exact h1
  · exact Upd.refl _ _

theorem execWtrExpiry_upd (a1 : ℕ) (s : State) :
    ∃ t, execWtrExpiry a1 s = .next t ∧ Upd 0x420000004000000000000 s t := by
  unfold execWtrExpiry
  refine ⟨_, rfl, ?_⟩
  refine Upd.ite ?_ ?_
  · refine Upd.step ?_ (State.availEval_upd ..) rfl
    refine Upd.setFlag ?_ rfl
    exact Upd.refl _ _
  · exact Upd.refl _ _

theorem execSelectorTick_upd (s : State) :
    ∃ t, execSelectorTick s = .next t ∧ Upd 0x20000000081a4620000000000000000000180000a281b80500000000000120020000000000000000000000000000000010006600000800211300004000000000000000000000ce0040018000c000000000000 s t := by
  unfold execSelectorTick
  refine ⟨_, rfl, ?_⟩
  refine Upd.step ?_ (State.selTick_upd ..) rfl
  exact Upd.refl _ _

theorem execSelManual_upd (a1 : Master) (a2 : ℕ) (s : State) :
    ∃ t, execSelManual a1 a2 s = .next t ∧ Upd 0x20000000200007000000000000000000000060000081b805000000000000000000000000000000000000000000000000000000000000000000000000000000000000000000000000000000002000006203400 s t := by
  unfold execSelManual
  refine ⟨_, rfl, ?_⟩
  refine Upd.guardW ?_ (fun x1 h1 => ?_) rfl
  · exact Upd.refl _ _
  · refine Upd.step ?_ (State.selWrite_upd ..) rfl
    exact h1

theorem execSelForced_upd (a1 : Master) (a2 : ℕ) (s : State) :
    ∃ t, execSelForced a1 a2 s = .next t ∧ Upd 0x20000000200007000000000000000000000060000081b805000000000000000000000000000000000000000000000000000000000000000000000000000000000000000000000000000000002000006203400 s t := by
  unfold execSelForced
  refine ⟨_, rfl, ?_⟩
  refine Upd.guardW ?_ (fun x1 h1 => ?_) rfl
  · exact Upd.refl _ _
  · refine Upd.step ?_ (State.selWrite_upd ..) rfl
    exact h1

theorem execSelClear_upd (a1 : Master) (a2 : ℕ) (s : State) :
    ∃ t, execSelClear a1 a2 s = .next t ∧ Upd 0x20000000200007000000000000000000000060000081b805000000000000000000000000000000000000000000000000000000000000000000000000000000000000000000000000000000002000006203400 s t := by
  unfold execSelClear
  refine ⟨_, rfl, ?_⟩
  refine Upd.guardW ?_ (fun x1 h1 => ?_) rfl
  · exact Upd.refl _ _
  · refine Upd.step ?_ (State.selWrite_upd ..) rfl
    exact h1

theorem execHoldoffEnd_upd (s : State) :
    ∃ t, execHoldoffEnd s = .next t ∧ Upd 0x20000000081a4620000000000000000000180000a281b80500000000000120020000000000000000000000000000000010006600000800211300004000000000000000000000ce0040018000c000000000000 s t := by
  unfold execHoldoffEnd
  refine ⟨_, rfl, ?_⟩
  refine Upd.step ?_ (State.refHoldEnd_upd ..) rfl
  exact Upd.refl _ _

theorem execBuildoutDone_upd (a1 : ℤ) (s : State) :
    ∃ t, execBuildoutDone a1 s = .next t ∧ Upd 0x20000000081a4620000000000000000000180000a281b80500000000000120020000000000000000000000000000000010006600000800211300004000000000000000000000ce0000010000c000000000000 s t := by
  unfold execBuildoutDone
  refine ⟨_, rfl, ?_⟩
  refine Upd.ite ?_ ?_
  · exact Upd.refl _ _
  · extract_lets +onlyGivenNames -underBinder -merge -useContext x1
    refine Upd.cut (t := x1) ?_ (fun h1 => ?_)
    · unfold x1
      refine Upd.step ?_ (State.modStb_upd ..) rfl
      refine Upd.raise ?_ rfl
      refine Upd.setFlag ?_ rfl
      exact Upd.refl _ _
    clear_value x1
    extract_lets +onlyGivenNames -underBinder -merge -useContext x2
    try clear_value x2
    extract_lets +onlyGivenNames -underBinder -merge -useContext x3
    try clear_value x3
    extract_lets +onlyGivenNames -underBinder -merge -useContext x4
    try clear_value x4
    extract_lets +onlyGivenNames -underBinder -merge -useContext x5
    refine Upd.cut (t := x5) ?_ (fun h5 => ?_)
    · unfold x5
      refine Upd.ite ?_ ?_
      · refine Upd.when ?_ (fun x6 h6 => ?_)
        · exact h1
        · refine Upd.step ?_ (State.stbEnter_upd ..) rfl
          exact h6
      · refine Upd.when ?_ (fun x7 h7 => ?_)
        · exact h1
        · refine Upd.step ?_ (State.stbEnter_upd ..) rfl
          exact h7
    clear_value x5
    refine Upd.step ?_ (State.cleanEval_upd ..) rfl
    refine Upd.when ?_ (fun x8 h8 => ?_)
    · exact h5
    · refine Upd.step ?_ (State.refHoldStart_upd ..) rfl
      exact h8

theorem execEnterLocked_upd (s : State) :
    ∃ t, execEnterLocked s = .next t ∧ Upd 0x20000000081a4620000000000000000000180000a281b80500000000000120020000000000000000000000000000000010006600000800211300004000000000000000000000ce0000010000c000000000000 s t := by
  unfold execEnterLocked
  refine ⟨_, rfl, ?_⟩
  refine Upd.ite ?_ ?_
  · refine Upd.step ?_ (State.stbEnter_upd ..) rfl
    exact Upd.refl _ _
  · exact Upd.refl _ _

theorem execEnterAcquire_upd (s : State) :
    ∃ t, execEnterAcquire s = .next t ∧ Upd 0x20000000081a4620000000000000000000180000a281b80500000000000120020000000000000000000000000000000010006600000800211300004000000000000000000000ce0000010000c000000000000 s t := by
  unfold execEnterAcquire
  refine ⟨_, rfl, ?_⟩
  refine Upd.ite ?_ ?_
  · refine Upd.step ?_ (State.stbEnter_upd ..) rfl
    exact Upd.refl _ _
  · exact Upd.refl _ _

theorem execStbMode_upd (a1 : Master) (a2 : W32) (s : State) :
    ∃ t, execStbMode a1 a2 s = .next t ∧ Upd 0x20000000281a4720000000000000000000186000a281b80500000000000120020000000000000000000000000000000010006600000800211300004000000000000000000000ce0042010000d000006203400 s t := by
  unfold execStbMode
  refine ⟨_, rfl, ?_⟩
  refine Upd.guardW ?_ (fun x1 h1 => ?_) rfl
  · exact Upd.refl _ _
  · refine Upd.step ?_ (State.stbCfgWrite_upd ..) rfl
    exact h1

theorem execFwBeat_upd (a1 : Master) (a2 : W32) (s : State) :
    ∃ t, execFwBeat a1 a2 s = .next t ∧ Upd 0x20000000281a4720000000000000000000186000a281b80500000000000120020000000000000000000000000000000010006600000800211300004000000000000000000000ce0000030000c000006203400 s t := by
  unfold execFwBeat
  refine ⟨_, rfl, ?_⟩
  refine Upd.guardW ?_ (fun x1 h1 => ?_) rfl
  · exact Upd.refl _ _
  · refine Upd.step ?_ (State.fwBeat_upd ..) rfl
    refine Upd.plainWrite ?_ rfl
    exact h1

theorem execFwLost_upd (s : State) :
    ∃ t, execFwLost s = .next t ∧ Upd 0x20000000081a4620000000000000000000180000a281b80500000000000120020000000000000000000000000000000010006600000800211300004000000000000000000000ce024e010000c000000000000 s t := by
  unfold execFwLost
  refine ⟨_, rfl, ?_⟩
  refine Upd.ite ?_ ?_
  · exact Upd.refl _ _
  · extract_lets +onlyGivenNames -underBinder -merge -useContext x1
    refine Upd.cut (t := x1) ?_ (fun h1 => ?_)
    · unfold x1
      refine Upd.step ?_ (State.modStb_upd ..) rfl
      refine Upd.setFlag ?_ rfl
      refine Upd.raise ?_ rfl
      exact Upd.refl _ _
    clear_value x1
    extract_lets +onlyGivenNames -underBinder -merge -useContext x2
    refine Upd.cut (t := x2) ?_ (fun h2 => ?_)
    · unfold x2
      refine Upd.step ?_ (State.candLost_upd ..) rfl
      exact h1
    clear_value x2
    refine Upd.step ?_ (State.cleanEval_upd ..) rfl
    refine Upd.when ?_ (fun x3 h3 => ?_)
    · exact h2
    · refine Upd.step ?_ (State.stbEnter_upd ..) rfl
      exact h3

theorem execHoBoundCheck_upd (s : State) :
    ∃ t, execHoBoundCheck s = .next t ∧ Upd 0x20000000081a4620000000000000000000180000a281b80500000000000120020000000000000000000000000000000010006600000800211300004000000000000000000000ce0000010000c000000000000 s t := by
  unfold execHoBoundCheck
  refine ⟨_, rfl, ?_⟩
  refine Upd.ite ?_ ?_
  · refine Upd.step ?_ (State.stbEnter_upd ..) rfl
    exact Upd.refl _ _
  · exact Upd.refl _ _

theorem execFrozenLim_upd (s : State) :
    ∃ t, execFrozenLim s = .next t ∧ Upd 0x20000000081a4620000000000000000000180000a281b80500000000000120020000000000000000000000000000000010006600000800211300004000000000000000000000ce0000010000c000000000000 s t := by
  unfold execFrozenLim
  refine ⟨_, rfl, ?_⟩
  refine Upd.ite ?_ ?_
  · refine Upd.step ?_ (State.stbEnter_upd ..) rfl
    exact Upd.refl _ _
  · exact Upd.refl _ _

theorem execSteerSrv_upd (a1 : Master) (a2 : W32) (s : State) :
    ∃ t, execSteerSrv a1 a2 s = .next t ∧ Upd 0x20000000280007000000000000000000000060000081b80500000000000000000000000000000000000000000000000000000000000000000000000000000000000000000000000000000030c000006203400 s t := by
  unfold execSteerSrv
  refine ⟨_, rfl, ?_⟩
  refine Upd.guardW ?_ (fun x1 h1 => ?_) rfl
  · exact Upd.refl _ _
  · refine Upd.step ?_ (State.clampEval_upd ..) rfl
    refine Upd.commitPair ?_ rfl rfl rfl
    exact h1

theorem execSteerMan_upd (a1 : Master) (a2 : W32) (s : State) :
    ∃ t, execSteerMan a1 a2 s = .next t ∧ Upd 0x20000000280007000000000000000000000060000081b805000000000000000000000000000000000000000000000000000000000000000000000000000000000000000000000000000000c0c000006203400 s t := by
  unfold execSteerMan
  refine ⟨_, rfl, ?_⟩
  refine Upd.guardW ?_ (fun x1 h1 => ?_) rfl
  · exact Upd.refl _ _
  · refine Upd.step ?_ (State.clampEval_upd ..) rfl
    refine Upd.commitPair ?_ rfl rfl rfl
    exact h1

theorem execSample10min_upd (a1 : ℕ) (a2 : ℤ) (a3 : ℤ) (s : State) :
    ∃ t, execSample10min a1 a2 a3 s = .next t ∧ Upd 0x800000000000000000000000000000000000000000000000000000000000000000000000000000000000000000000000000000000000000000000000000000000000000000010008000000000000 s t := by
  unfold execSample10min
  refine ⟨_, rfl, ?_⟩
  refine Upd.ite (Upd.refl _ _) ?_
  extract_lets +onlyGivenNames -underBinder -merge -useContext x1
  try clear_value x1
  extract_lets +onlyGivenNames -underBinder -merge -useContext x2
  try clear_value x2
  extract_lets +onlyGivenNames -underBinder -merge -useContext x3
  try clear_value x3
  extract_lets +onlyGivenNames -underBinder -merge -useContext x4
  refine Upd.cut (t := x4) ?_ (fun h4 => ?_)
  · unfold x4
    refine Upd.when ?_ (fun x5 h5 => ?_)
    · exact Upd.refl _ _
    · refine Upd.step ?_ (State.trainEval_upd ..) rfl
      refine Upd.step ?_ (State.modStb_upd ..) rfl
      exact h5
  clear_value x4
  refine Upd.step ?_ (State.modStb_upd ..) rfl
  exact h4

theorem execSample1s_upd (a1 : ℕ) (a2 : ℤ) (a3 : ℤ) (s : State) :
    ∃ t, execSample1s a1 a2 a3 s = .next t ∧ Upd 0x800000000000000000000000000000000000000000000000000000000000000000000000000000000000000000000000000000000000000000000000000000000000000000010008000000000000 s t := by
  unfold execSample1s
  refine ⟨_, rfl, ?_⟩
  refine Upd.ite (Upd.refl _ _) ?_
  extract_lets +onlyGivenNames -underBinder -merge -useContext x1
  try clear_value x1
  extract_lets +onlyGivenNames -underBinder -merge -useContext x2
  try clear_value x2
  extract_lets +onlyGivenNames -underBinder -merge -useContext x3
  refine Upd.cut (t := x3) ?_ (fun h3 => ?_)
  · unfold x3
    refine Upd.when ?_ (fun x4 h4 => ?_)
    · exact Upd.refl _ _
    · refine Upd.step ?_ (State.trainEval_upd ..) rfl
      refine Upd.step ?_ (State.modStb_upd ..) rfl
      exact h4
  clear_value x3
  refine Upd.step ?_ (State.modStb_upd ..) rfl
  exact h3

theorem execPruneDone_upd (s : State) :
    ∃ t, execPruneDone s = .next t ∧ Upd 0x80000000000000000000000000000000000000000000000000000000000000000000000000000000000000000000000000000000000000000000000000000000000000000007000c000000000000 s t := by
  unfold execPruneDone
  refine ⟨_, rfl, ?_⟩
  refine Upd.ite ?_ ?_
  · refine Upd.step ?_ (State.pruneDone_upd ..) rfl
    exact Upd.refl _ _
  · exact Upd.refl _ _

theorem execEsmcTx_upd (a1 : ℕ) (s : State) :
    ∃ t, execEsmcTx a1 s = .next t ∧ Upd 0x800000000000000000000000000000000000000000000000000000000000000000000000000000000000000000000000000000000000000000000000000000000000000000000000000000000000 s t := by
  unfold execEsmcTx
  refine ⟨_, rfl, ?_⟩
  refine Upd.ite ?_ ?_
  · refine Upd.step ?_ (State.esmcSend_upd ..) rfl
    exact Upd.refl _ _
  · exact Upd.refl _ _

theorem execEventPdu_upd (a1 : ℕ) (s : State) :
    ∃ t, execEventPdu a1 s = .next t ∧ Upd 0x800000000000000000000000000000000000000000000000000000000000000000000000000000000000000000000000000000000000000000000000000000000000000000000000000000000000 s t := by
  unfold execEventPdu
  refine ⟨_, rfl, ?_⟩
  refine Upd.ite ?_ ?_
  · refine Upd.step ?_ (State.esmcSend_upd ..) rfl
    exact Upd.refl _ _
  · exact Upd.refl _ _

end Sys2Proof.Machine
end

