-- ==== Sys2Proof/Laws/FootPmkCore.lean ====
section
/-! SUPPORT. The footprints of the operations of Machine/PmkCore.lean: what each may change. -/

set_option linter.unreachableTactic false
set_option linter.unusedTactic false
set_option linter.unusedVariables false

namespace Sys2Proof.Machine

theorem State.modPmk_upd (s : State) (a1 : Pmk → Pmk) :
    Upd 0x4000000000000000000000000000000000000000000000000000000000000000000000000000000000000000000000000000000000000000000000000000000000000000000000000000000000000 s (State.modPmk s a1) := by
  unfold State.modPmk
  refine Upd.set_pmk ?_ rfl
  exact Upd.refl _ _

theorem State.modPmkCar_upd (s : State) (a1 : ℕ) (a2 : PmkCar → PmkCar) :
    Upd 0x4000000000000000000000000000000000000000000000000000000000000000000000000000000000000000000000000000000000000000000000000000000000000000000000000000000000000 s (State.modPmkCar s a1 a2) := by
  unfold State.modPmkCar
  refine Upd.step ?_ (State.modPmk_upd ..) rfl
  exact Upd.refl _ _

theorem State.ptpIn_upd (a1 : ℕ) (a2 : List Byte) (s : State) :
    Upd 0x4000000000000000000000400010000000000000000000000000000000000000000000000000000000000000000000000000000000000000000000000000000000000000000000000000000000000 s (State.ptpIn a1 a2 s) := by
  unfold State.ptpIn
  extract_lets +onlyGivenNames -underBinder -merge -useContext x1
  try clear_value x1
  refine Upd.ite ?_ ?_
  · refine Upd.step ?_ (State.modPmk_upd ..) rfl
    exact Upd.refl _ _
  · refine Upd.raise ?_ rfl
    refine Upd.bump ?_ rfl
    exact Upd.refl _ _

theorem State.markTx_upd (a1 : ℕ) (s : State) :
    Upd 0x4000002000000000000000000000000000000000000000000000000000000000000000000000000000000000000000000000000000000000000000000000000000000000000000000000000000000 s (State.markTx a1 s) := by
  unfold State.markTx
  extract_lets +onlyGivenNames -underBinder -merge -useContext x1
  try clear_value x1
  extract_lets +onlyGivenNames -underBinder -merge -useContext x2
  try clear_value x2
  refine Upd.step ?_ (State.modPmkCar_upd ..) rfl
  refine Upd.step ?_ (State.modCar_upd ..) rfl
  exact Upd.refl _ _

theorem State.markRx_upd (a1 : ℕ) (a2 : List (ℕ × ℤ)) (s : State) :
    Upd 0x4000000000000000000100000000000000000000000000000000000000000000000000000000000000000000000000000000000000000000000000000000000000000000000000000000000000000 s (State.markRx a1 a2 s) := by
  unfold State.markRx
  refine Upd.ite ?_ ?_
  · exact Upd.refl _ _
  · extract_lets +onlyGivenNames -underBinder -merge -useContext x1
    try clear_value x1
    extract_lets +onlyGivenNames -underBinder -merge -useContext x2
    try clear_value x2
    extract_lets +onlyGivenNames -underBinder -merge -useContext x3
    try clear_value x3
    refine Upd.setFld ?_ rfl
    refine Upd.step ?_ (State.modPmkCar_upd ..) rfl
    exact Upd.refl _ _

theorem State.applyStep_upd (a1 : ℕ) (s : State) :
    Upd 0x4000100000000000000000000018000000000000000000000000000000000000000000000000000000000000000000000000000000000000000000000000000000000000000000000000000000000 s (State.applyStep a1 s) := by
  unfold State.applyStep
  extract_lets +onlyGivenNames -underBinder -merge -useContext x1
  refine Upd.cut (t := x1) ?_ (fun h1 => ?_)
  · unfold x1
    refine Upd.set_pmkTime ?_ rfl
    exact Upd.refl _ _
  clear_value x1
  extract_lets +onlyGivenNames -underBinder -merge -useContext x2
  refine Upd.cut (t := x2) ?_ (fun h2 => ?_)
  · unfold x2
    refine Upd.step ?_ (State.modPmk_upd ..) rfl
    exact h1
  clear_value x2
  extract_lets +onlyGivenNames -underBinder -merge -useContext x3
  refine Upd.cut (t := x3) ?_ (fun h3 => ?_)
  · unfold x3
    refine Upd.setFlag ?_ rfl
    refine Upd.setFlag ?_ rfl
    exact h2
  clear_value x3
  extract_lets +onlyGivenNames -underBinder -merge -useContext x4
  refine Upd.cut (t := x4) ?_ (fun h4 => ?_)
  · unfold x4
    refine Upd.when ?_ (fun x5 h5 => ?_)
    · exact h3
    · refine Upd.raise ?_ rfl
      refine Upd.setFlag ?_ rfl
      exact h5
  clear_value x4
  extract_lets +onlyGivenNames -underBinder -merge -useContext x6
  refine Upd.cut (t := x6) ?_ (fun h6 => ?_)
  · unfold x6
    refine Upd.setFld ?_ rfl
    exact h4
  clear_value x6
  refine Upd.step ?_ (State.ppsEval_upd ..) rfl
  refine Upd.raise ?_ rfl
  exact h6

theorem State.moveTime_upd (a1 : ℤ) (s : State) :
    Upd 0x100000000000000000000000000000000000000000000000000000000000000000000000000000000000000000000000000000000000000000000000000000000000000000000000000000000 s (State.moveTime a1 s) := by
  unfold State.moveTime
  refine Upd.set_pmkTime ?_ rfl
  exact Upd.refl _ _

theorem State.adjDone_upd (s : State) :
    Upd 0x4000100000000000000000000018000000000000000000000000000000000000000000000000000000000000000000000000000000000000000000000000000000000000000000000000000000000 s (State.adjDone s) := by
  unfold State.adjDone
  refine Upd.raise ?_ rfl
  refine Upd.setFlag ?_ rfl
  refine Upd.step ?_ (State.modPmk_upd ..) rfl
  refine Upd.step ?_ (State.moveTime_upd ..) rfl
  exact Upd.refl _ _

theorem State.timeFault_upd (s : State) :
    Upd 0x20000000001a4620000000000000000000180000a281b80500000000000120020000000000000000000000000000000010006600000800211300004000000000000000000000ce00000000000000000000000 s (State.timeFault s) := by
  unfold State.timeFault
  refine Upd.ite ?_ ?_
  · exact Upd.refl _ _
  · refine Upd.step ?_ (State.detect_upd ..) rfl
    refine Upd.step ?_ (State.ppsEval_upd ..) rfl
    refine Upd.setFlag ?_ rfl
    refine Upd.raise ?_ rfl
    refine Upd.setFlag ?_ rfl
    exact Upd.refl _ _

theorem State.rateTick_upd (s : State) :
    Upd 0x4000100000000000000000000000000000000000000000000000000000000000000000000000000000000000000000000000000000000000000000000000000000000000000000000000000000000 s (State.rateTick s) := by
  unfold State.rateTick
  extract_lets +onlyGivenNames -underBinder -merge -useContext x1
  try clear_value x1
  refine Upd.step ?_ (State.modPmk_upd ..) rfl
  refine Upd.step ?_ (State.moveTime_upd ..) rfl
  exact Upd.refl _ _

theorem State.pmkTick_upd (s : State) :
    Upd 0x20000000401a5620000000000000000000180000a281b80500000000000120020000000000000000000000000000000010006600000800211300004000000000000000000000ce00000000000000000000000 s (State.pmkTick s) := by
  unfold State.pmkTick
  refine Upd.ite ?_ ?_
  · exact Upd.refl _ _
  · extract_lets +onlyGivenNames -underBinder -merge -useContext x1
    refine Upd.cut (t := x1) ?_ (fun h1 => ?_)
    · unfold x1
      refine Upd.step ?_ (State.rateTick_upd ..) rfl
      exact Upd.refl _ _
    clear_value x1
    extract_lets +onlyGivenNames -underBinder -merge -useContext x2
    try clear_value x2
    extract_lets +onlyGivenNames -underBinder -merge -useContext x3
    try clear_value x3
    extract_lets +onlyGivenNames -underBinder -merge -useContext x4
    try clear_value x4
    extract_lets +onlyGivenNames -underBinder -merge -useContext x5
    refine Upd.cut (t := x5) ?_ (fun h5 => ?_)
    · unfold x5
      refine Upd.when ?_ (fun x6 h6 => ?_)
      · exact h1
      · refine Upd.step ?_ (State.modPmk_upd ..) rfl
        refine Upd.step ?_ (State.moveTime_upd ..) rfl
        exact h6
    clear_value x5
    extract_lets +onlyGivenNames -underBinder -merge -useContext x7
    refine Upd.cut (t := x7) ?_ (fun h7 => ?_)
    · unfold x7
      refine Upd.when ?_ (fun x8 h8 => ?_)
      · exact h5
      · refine Upd.step ?_ (State.adjDone_upd ..) rfl
        exact h8
    clear_value x7
    refine Upd.step ?_ (State.ppsEval_upd ..) rfl
    refine Upd.step ?_ (State.timeFault_upd ..) rfl
    exact h7

theorem State.pmkClear_upd (s : State) :
    Upd 0x4000100000000000000000000000000000000000000000000000000000000000000000000000000000000000000000000000000000000000000000000000000000000000000000000000000000000 s (State.pmkClear s) := by
  unfold State.pmkClear
  refine Upd.set_pmkTime_pmk ?_ rfl rfl
  exact Upd.refl _ _

end Sys2Proof.Machine
end

