-- ==== Sys2Proof/Laws/FootLine.lean ====
section
/-! SUPPORT. The footprints of the operations of Machine/Line.lean: what each may change. -/

set_option linter.unreachableTactic false
set_option linter.unusedTactic false
set_option linter.unusedVariables false

namespace Sys2Proof.Machine

theorem State.chgRefuse_upd (a1 : ℕ) (a2 : ℕ) (s : State) :
    Upd 0xc0000000000000000000000 s (State.chgRefuse a1 a2 s) := by
  unfold State.chgRefuse
  refine Upd.raise ?_ rfl
  refine Upd.setFld ?_ rfl
  exact Upd.refl _ _

theorem State.holdEnd_upd (a1 : ℕ) (s : State) :
    Upd 0x2000000000000000000000000000000000000000000000000000000000000000000000000000000000000000000000000000000000000000000000000000000040000000000000000000000 s (State.holdEnd a1 s) := by
  unfold State.holdEnd
  refine Upd.ite ?_ ?_
  · exact Upd.refl _ _
  · extract_lets +onlyGivenNames -underBinder -merge -useContext x1
    refine Upd.cut (t := x1) ?_ (fun h1 => ?_)
    · unfold x1
      refine Upd.step ?_ (State.modCar_upd ..) rfl
      exact Upd.refl _ _
    clear_value x1
    refine Upd.when ?_ (fun x2 h2 => ?_)
    · exact h1
    · refine Upd.setFld ?_ rfl
      exact h2

theorem State.install_upd (a1 : ℕ) (s : State) :
    Upd 0x20000000001a40200000000000000000000000000001b80500000000000124020000000000000000000000000000000010006600000800211300004000000000000000000002ccc4000000000000000000000 s (State.install a1 s) := by
  unfold State.install
  extract_lets +onlyGivenNames -underBinder -merge -useContext x1
  try clear_value x1
  extract_lets +onlyGivenNames -underBinder -merge -useContext x2
  try clear_value x2
  extract_lets +onlyGivenNames -underBinder -merge -useContext x3
  refine Upd.cut (t := x3) ?_ (fun h3 => ?_)
  · unfold x3
    refine Upd.setFld ?_ rfl
    refine Upd.wr ?_ rfl
    refine Upd.wr ?_ rfl
    exact Upd.refl _ _
  clear_value x3
  extract_lets +onlyGivenNames -underBinder -merge -useContext x4
  refine Upd.cut (t := x4) ?_ (fun h4 => ?_)
  · unfold x4
    refine Upd.when ?_ (fun x5 h5 => ?_)
    · exact h3
    · refine Upd.step ?_ (State.pccStop_upd ..) rfl
      refine Upd.setFlag ?_ rfl
      exact h5
  clear_value x4
  extract_lets +onlyGivenNames -underBinder -merge -useContext x6
  refine Upd.cut (t := x6) ?_ (fun h6 => ?_)
  · unfold x6
    refine Upd.step ?_ (State.modCar_upd ..) rfl
    exact h4
  clear_value x6
  refine Upd.ite ?_ ?_
  · refine Upd.step ?_ (State.txEval_upd ..) rfl
    refine Upd.setFlag ?_ rfl
    refine Upd.step ?_ (State.shapeCopy_upd ..) rfl
    refine Upd.step ?_ (State.modCar_upd ..) rfl
    refine Upd.setFld ?_ rfl
    exact h6
  · refine Upd.step ?_ (State.holds_upd ..) rfl
    refine Upd.raise ?_ rfl
    refine Upd.setFld ?_ rfl
    exact h6

theorem State.goAccept_upd (a1 : ℕ) (s : State) :
    Upd 0x20000000001a40200000000000000000000000000001b80500000000000124020000000000000000000000000000000010006600000800211300004000000000000000000002ccc4000000000000000000000 s (State.goAccept a1 s) := by
  unfold State.goAccept
  extract_lets +onlyGivenNames -underBinder -merge -useContext x1
  try clear_value x1
  extract_lets +onlyGivenNames -underBinder -merge -useContext x2
  try clear_value x2
  extract_lets +onlyGivenNames -underBinder -merge -useContext x3
  try clear_value x3
  extract_lets +onlyGivenNames -underBinder -merge -useContext x4
  try clear_value x4
  extract_lets +onlyGivenNames -underBinder -merge -useContext x5
  refine Upd.cut (t := x5) ?_ (fun h5 => ?_)
  · unfold x5
    refine Upd.step ?_ (State.modCar_upd ..) rfl
    exact Upd.refl _ _
  clear_value x5
  refine Upd.ite ?_ ?_
  · refine Upd.ite ?_ ?_
    · refine Upd.setFld ?_ rfl
      refine Upd.setFld ?_ rfl
      exact h5
    · refine Upd.step ?_ (State.modCar_upd ..) rfl
      refine Upd.setFld ?_ rfl
      exact h5
  · refine Upd.step ?_ (State.install_upd ..) rfl
    exact h5

theorem State.go_upd (a1 : ℕ) (s : State) :
    Upd 0x20000000001a40200000000000000000000000000001b80500000000000124020000000000000000000000000000000010006600000800211300004000000000000000000002ccc4000000000000000000000 s (State.go a1 s) := by
  unfold State.go
  extract_lets +onlyGivenNames -underBinder -merge -useContext x1
  try clear_value x1
  refine Upd.ite ?_ ?_
  · refine Upd.raise ?_ rfl
    exact Upd.refl _ _
  · extract_lets +onlyGivenNames -underBinder -merge -useContext x2
    try clear_value x2
    refine Upd.ite ?_ ?_
    · refine Upd.step ?_ (State.goAccept_upd ..) rfl
      exact Upd.refl _ _
    · refine Upd.step ?_ (State.chgRefuse_upd ..) rfl
      exact Upd.refl _ _

theorem State.cancel_upd (a1 : ℕ) (s : State) :
    Upd 0x20000000000000000000000000000000000000000000000000000000000000000000000000000000000000000000000000000000000000000000000000000000c0000000000000000000000 s (State.cancel a1 s) := by
  unfold State.cancel
  refine Upd.ite ?_ ?_
  · refine Upd.raise ?_ rfl
    refine Upd.step ?_ (State.modCar_upd ..) rfl
    refine Upd.setFld ?_ rfl
    refine Upd.setFld ?_ rfl
    exact Upd.refl _ _
  · refine Upd.step ?_ (State.chgRefuse_upd ..) rfl
    exact Upd.refl _ _

theorem State.chgCtrlWrite_upd (a1 : ℕ) (a2 : W32) (s : State) :
    Upd 0x20000000001a40200000000000000000000000000001b80500000000000124020000000000000000000000000000000010006600000800211300004000000000000000000002cce4000000000000000000000 s (State.chgCtrlWrite a1 a2 s) := by
  unfold State.chgCtrlWrite
  extract_lets +onlyGivenNames -underBinder -merge -useContext x1
  refine Upd.cut (t := x1) ?_ (fun h1 => ?_)
  · unfold x1
    refine Upd.plainWrite ?_ rfl
    exact Upd.refl _ _
  clear_value x1
  extract_lets +onlyGivenNames -underBinder -merge -useContext x2
  refine Upd.cut (t := x2) ?_ (fun h2 => ?_)
  · unfold x2
    refine Upd.when ?_ (fun x3 h3 => ?_)
    · exact h1
    · refine Upd.step ?_ (State.cancel_upd ..) rfl
      exact h3
  clear_value x2
  refine Upd.when ?_ (fun x4 h4 => ?_)
  · exact h2
  · refine Upd.step ?_ (State.go_upd ..) rfl
    exact h4

theorem execGo_upd (a1 : Master) (a2 : ℕ) (a3 : W32) (s : State) :
    ∃ t, execGo a1 a2 a3 s = .next t ∧ Upd 0x20000000201a47200000000000000000000060000081b80500000000000124020000000000000000000000000000000010006600000800211300004000000000000000000002cce4000000000000006203400 s t := by
  unfold execGo
  refine ⟨_, rfl, ?_⟩
  refine Upd.guardW ?_ (fun x1 h1 => ?_) rfl
  · exact Upd.refl _ _
  · refine Upd.step ?_ (State.chgCtrlWrite_upd ..) rfl
    exact h1

theorem execCancel_upd (a1 : Master) (a2 : ℕ) (a3 : W32) (s : State) :
    ∃ t, execCancel a1 a2 a3 s = .next t ∧ Upd 0x20000000201a47200000000000000000000060000081b80500000000000124020000000000000000000000000000000010006600000800211300004000000000000000000002cce4000000000000006203400 s t := by
  unfold execCancel
  refine ⟨_, rfl, ?_⟩
  refine Upd.guardW ?_ (fun x1 h1 => ?_) rfl
  · exact Upd.refl _ _
  · refine Upd.step ?_ (State.chgCtrlWrite_upd ..) rfl
    exact h1

theorem execAnnounce_upd (a1 : ℕ) (s : State) :
    ∃ t, execAnnounce a1 s = .next t ∧ Upd 0x2000000000000000000000000000000000000000000000000000000000000000000000000000000000000000000000000000000000000000000000000000000000000000000000000000000 s t := by
  unfold execAnnounce
  refine ⟨_, rfl, ?_⟩
  refine Upd.ite ?_ ?_
  · refine Upd.step ?_ (State.modCar_upd ..) rfl
    exact Upd.refl _ _
  · exact Upd.refl _ _

theorem State.multiframeTx_upd (a1 : ℕ) (s : State) :
    Upd 0x4000006000000000000000000000000000000000000000000000000000000000000000000000000000000000000000000000000000000000000000000000000000000040000000000000000000000 s (State.multiframeTx a1 s) := by
  unfold State.multiframeTx
  extract_lets +onlyGivenNames -underBinder -merge -useContext x1
  try clear_value x1
  extract_lets +onlyGivenNames -underBinder -merge -useContext x2
  refine Upd.cut (t := x2) ?_ (fun h2 => ?_)
  · unfold x2
    refine Upd.when ?_ (fun x3 h3 => ?_)
    · exact Upd.refl _ _
    · refine Upd.setFld ?_ rfl
      exact h3
  clear_value x2
  extract_lets +onlyGivenNames -underBinder -merge -useContext x4
  try clear_value x4
  extract_lets +onlyGivenNames -underBinder -merge -useContext x5
  refine Upd.cut (t := x5) ?_ (fun h5 => ?_)
  · unfold x5
    refine Upd.when ?_ (fun x6 h6 => ?_)
    · exact h2
    · refine Upd.step ?_ (State.modCar_upd ..) rfl
      exact h6
  clear_value x5
  extract_lets +onlyGivenNames -underBinder -merge -useContext x7
  try clear_value x7
  extract_lets +onlyGivenNames -underBinder -merge -useContext x8
  refine Upd.cut (t := x8) ?_ (fun h8 => ?_)
  · unfold x8
    refine Upd.when ?_ (fun x9 h9 => ?_)
    · exact h5
    · refine Upd.step ?_ (State.markTx_upd ..) rfl
      exact h9
  clear_value x8
  refine Upd.when ?_ (fun x10 h10 => ?_)
  · exact h8
  · refine Upd.upto ?_ (fun n11 x11 h11 => ?_) _
    · exact h10
    · refine Upd.step ?_ (State.modSc_upd ..) rfl
      exact h11

theorem execMultiframeTx_upd (a1 : ℕ) (s : State) :
    ∃ t, execMultiframeTx a1 s = .next t ∧ Upd 0x4000006000000000000000000000000000000000000000000000000000000000000000000000000000000000000000000000000000000000000000000000000000000040000000000000000000000 s t := by
  unfold execMultiframeTx
  refine ⟨_, rfl, ?_⟩
  refine Upd.ite ?_ ?_
  · refine Upd.step ?_ (State.multiframeTx_upd ..) rfl
    exact Upd.refl _ _
  · exact Upd.refl _ _

theorem execSwitch_upd (a1 : ℕ) (s : State) :
    ∃ t, execSwitch a1 s = .next t ∧ Upd 0x20000000001a40200000000000000000000000000001b80500000000000124020000000000000000000000000000000010006600000800211300004000000000000000000002ccc4000000000000000000000 s t := by
  unfold execSwitch
  refine ⟨_, rfl, ?_⟩
  refine Upd.ite ?_ ?_
  · refine Upd.step ?_ (State.install_upd ..) rfl
    exact Upd.refl _ _
  · exact Upd.refl _ _

theorem execChgDone_upd (a1 : ℕ) (s : State) :
    ∃ t, execChgDone a1 s = .next t ∧ Upd 0xc0000000000000000000000 s t := by
  unfold execChgDone
  refine ⟨_, rfl, ?_⟩
  refine Upd.ite ?_ ?_
  · refine Upd.setFld ?_ rfl
    refine Upd.raise ?_ rfl
    exact Upd.refl _ _
  · exact Upd.refl _ _

theorem execHoldTimeout_upd (a1 : ℕ) (s : State) :
    ∃ t, execHoldTimeout a1 s = .next t ∧ Upd 0x20000000000000000000000000000000000000000000000000000000000000000000000000000000000000000000000000000000000000000000000000000000c0000000000000000000000 s t := by
  unfold execHoldTimeout
  refine ⟨_, rfl, ?_⟩
  refine Upd.ite ?_ ?_
  · refine Upd.raise ?_ rfl
    refine Upd.step ?_ (State.holdEnd_upd ..) rfl
    exact Upd.refl _ _
  · exact Upd.refl _ _

theorem State.txCtrlWrite_upd (a1 : ℕ) (a2 : W32) (s : State) :
    Upd 0x20000000001a40200000000000000000000000000001b80500000000000120020000000000000000000000000000000010006600000800211300004000000000000000000000ce00000000000000000000000 s (State.txCtrlWrite a1 a2 s) := by
  unfold State.txCtrlWrite
  refine Upd.step ?_ (State.txEval_upd ..) rfl
  refine Upd.plainWrite ?_ rfl
  exact Upd.refl _ _

theorem execLaserOn_upd (a1 : Master) (a2 : ℕ) (a3 : W32) (s : State) :
    ∃ t, execLaserOn a1 a2 a3 s = .next t ∧ Upd 0x20000000201a47200000000000000000000060000081b80500000000000120020000000000000000000000000000000010006600000800211300004000000000000000000000ce00000000000000006203400 s t := by
  unfold execLaserOn
  refine ⟨_, rfl, ?_⟩
  refine Upd.guardW ?_ (fun x1 h1 => ?_) rfl
  · exact Upd.refl _ _
  · refine Upd.step ?_ (State.txCtrlWrite_upd ..) rfl
    exact h1

theorem execMute_upd (a1 : Master) (a2 : ℕ) (a3 : W32) (s : State) :
    ∃ t, execMute a1 a2 a3 s = .next t ∧ Upd 0x20000000201a47200000000000000000000060000081b80500000000000120020000000000000000000000000000000010006600000800211300004000000000000000000000ce00000000000000006203400 s t := by
  unfold execMute
  refine ⟨_, rfl, ?_⟩
  refine Upd.guardW ?_ (fun x1 h1 => ?_) rfl
  · exact Upd.refl _ _
  · refine Upd.step ?_ (State.txCtrlWrite_upd ..) rfl
    exact h1

theorem execSettleElapsed_upd (a1 : ℕ) (s : State) :
    ∃ t, execSettleElapsed a1 s = .next t ∧ Upd 0x20000000001a40200000000000000000000000000001b80500000000000120020000000000000000000000000000000010006600000800211300004000000000000000000000cc00000000000000000000000 s t := by
  unfold execSettleElapsed
  refine ⟨_, rfl, ?_⟩
  refine Upd.ite ?_ ?_
  · refine Upd.step ?_ (State.holds_upd ..) rfl
    refine Upd.upto ?_ (fun n1 x1 h1 => ?_) _
    · refine Upd.step ?_ (State.txMove_upd ..) rfl
      refine Upd.step ?_ (State.txCauses_upd ..) rfl
      exact Upd.refl _ _
    · refine Upd.step ?_ (State.skewSettle_upd ..) rfl
      exact h1
  · exact Upd.refl _ _

theorem execServiceEntered_upd (a1 : ℕ) (s : State) :
    ∃ t, execServiceEntered a1 s = .next t ∧ Upd 0x8400000000000000000000000 s t := by
  unfold execServiceEntered
  refine ⟨_, rfl, ?_⟩
  refine Upd.ite ?_ ?_
  · refine Upd.raise ?_ rfl
    refine Upd.setFld ?_ rfl
    exact Upd.refl _ _
  · exact Upd.refl _ _

theorem State.clkFault_upd (a1 : ℕ) (s : State) :
    Upd 0x20000000001a4620000000000000000000180000a281b80500000000000120020000000000000000000000000000000010006600000800211300004000000000000000000000ce00000000000000000000000 s (State.clkFault a1 s) := by
  unfold State.clkFault
  refine Upd.ite ?_ ?_
  · refine Upd.step ?_ (State.detect_upd ..) rfl
    refine Upd.step ?_ (State.txEval_upd ..) rfl
    refine Upd.raise ?_ rfl
    refine Upd.setFlag ?_ rfl
    exact Upd.refl _ _
  · exact Upd.refl _ _

theorem execClkFault_upd (a1 : ℕ) (s : State) :
    ∃ t, execClkFault a1 s = .next t ∧ Upd 0x20000000001a4620000000000000000000180000a281b80500000000000120020000000000000000000000000000000010006600000800211300004000000000000000000000ce00000000000000000000000 s t := by
  unfold execClkFault
  refine ⟨_, rfl, ?_⟩
  refine Upd.step ?_ (State.clkFault_upd ..) rfl
  exact Upd.refl _ _

theorem execTxClkLock_upd (a1 : ℕ) (s : State) :
    ∃ t, execTxClkLock a1 s = .next t ∧ Upd 0x20000000001a40200000000000000000000000000001b80500000000000120020000000000000000000000000000000010006600000800211300004000000000000000000000cc00000000000000000000000 s t := by
  unfold execTxClkLock
  refine ⟨_, rfl, ?_⟩
  refine Upd.ite ?_ ?_
  · refine Upd.step ?_ (State.txEval_upd ..) rfl
    refine Upd.setFlag ?_ rfl
    refine Upd.setFlag ?_ rfl
    exact Upd.refl _ _
  · exact Upd.refl _ _

theorem State.segErr_upd (a1 : ℕ) (s : State) :
    Upd 0x20000000001a4620000000000000000000180000a281b80500000000000120020000000000000000000000000000000010006600000800211300004000000000000000000008ce00000000000000000000000 s (State.segErr a1 s) := by
  unfold State.segErr
  refine Upd.step ?_ (State.detect_upd ..) rfl
  refine Upd.step ?_ (State.count_upd ..) rfl
  refine Upd.raise ?_ rfl
  refine Upd.bump ?_ rfl
  exact Upd.refl _ _

theorem State.segInj_upd (a1 : ℕ) (s : State) :
    Upd 0x24000000001a4620000000000000000000180000a281b80500000000000120020000000000000000000000000000000010006600000800211300004000000000000000000008ce00000000000000000000000 s (State.segInj a1 s) := by
  unfold State.segInj
  refine Upd.ite ?_ ?_
  · refine Upd.step ?_ (State.segErr_upd ..) rfl
    refine Upd.set_segBad ?_ rfl
    exact Upd.refl _ _
  · exact Upd.refl _ _

theorem execSegErr_upd (a1 : ℕ) (s : State) :
    ∃ t, execSegErr a1 s = .next t ∧ Upd 0x20000000001a4620000000000000000000180000a281b80500000000000120020000000000000000000000000000000010006600000800211300004000000000000000000008ce00000000000000000000000 s t := by
  unfold execSegErr
  refine ⟨_, rfl, ?_⟩
  refine Upd.ite ?_ ?_
  · refine Upd.step ?_ (State.segErr_upd ..) rfl
    exact Upd.refl _ _
  · exact Upd.refl _ _

theorem State.applyWrite_upd (a1 : ℕ) (a2 : W32) (s : State) :
    Upd 0x2000000000000000000000000 s (State.applyWrite a1 a2 s) := by
  unfold State.applyWrite
  refine Upd.ite ?_ ?_
  · refine Upd.setFlag ?_ rfl
    exact Upd.refl _ _
  · exact Upd.refl _ _

theorem execTxPreApply_upd (a1 : Master) (a2 : ℕ) (a3 : W32) (s : State) :
    ∃ t, execTxPreApply a1 a2 a3 s = .next t ∧ Upd 0x20000000200007000000000000000000000060000081b805000000000000000000000000000000000000000000000000000000000000000000000000000000000000000000002000000000000000006203400 s t := by
  unfold execTxPreApply
  refine ⟨_, rfl, ?_⟩
  refine Upd.guardW ?_ (fun x1 h1 => ?_) rfl
  · exact Upd.refl _ _
  · refine Upd.step ?_ (State.applyWrite_upd ..) rfl
    exact h1

theorem State.preCopy_upd (a1 : ℕ) (s : State) :
    Upd 0x2000000000000000000000000000000000000000000000000000000000000000000000000000000000000000000000000000000000000000000000000000002000000000000000000000000 s (State.preCopy a1 s) := by
  unfold State.preCopy
  extract_lets +onlyGivenNames -underBinder -merge -useContext x1
  try clear_value x1
  refine Upd.setFlag ?_ rfl
  refine Upd.step ?_ (State.modCar_upd ..) rfl
  exact Upd.refl _ _

theorem execClip_upd (a1 : ℕ) (a2 : ℕ) (s : State) :
    ∃ t, execClip a1 a2 s = .next t ∧ Upd 0x20000000000000000000000000000000000000000001b805000000000000000000000000000000000000000000000000000000000000000000000000000000000000000000048000000000000000000000000 s t := by
  unfold execClip
  refine ⟨_, rfl, ?_⟩
  refine Upd.ite ?_ ?_
  · refine Upd.step ?_ (State.count_upd ..) rfl
    refine Upd.raise ?_ rfl
    refine Upd.bump ?_ rfl
    exact Upd.refl _ _
  · exact Upd.refl _ _

theorem State.skewNew_upd (a1 : ℕ) (a2 : ℕ) (s : State) :
    Upd 0x200000000000000000000000000000000000000000000000000000000000000000000000000000000000000000000000000000000000000000000000000000c000000000000000000000000 s (State.skewNew a1 a2 s) := by
  unfold State.skewNew
  extract_lets +onlyGivenNames -underBinder -merge -useContext x1
  try clear_value x1
  extract_lets +onlyGivenNames -underBinder -merge -useContext x2
  refine Upd.cut (t := x2) ?_ (fun h2 => ?_)
  · unfold x2
    refine Upd.setFlag ?_ rfl
    exact Upd.refl _ _
  clear_value x2
  refine Upd.step ?_ (State.skewSettle_upd ..) rfl
  refine Upd.when ?_ (fun x3 h3 => ?_)
  · exact h2
  · refine Upd.raise ?_ rfl
    exact h3

theorem State.skewWrite_upd (a1 : ℕ) (a2 : ℕ) (a3 : W32) (s : State) :
    Upd 0x200000000000000000000000000000000000000000000000000000000000000000000000000000000000000000000000000000000000000000000000000000c000000000000000000000000 s (State.skewWrite a1 a2 a3 s) := by
  unfold State.skewWrite
  refine Upd.step ?_ (State.skewNew_upd ..) rfl
  refine Upd.plainWrite ?_ rfl
  exact Upd.refl _ _

theorem execTxSkewWrite_upd (a1 : Master) (a2 : ℕ) (a3 : ℕ) (a4 : W32) (s : State) :
    ∃ t, execTxSkewWrite a1 a2 a3 a4 s = .next t ∧ Upd 0x20000000200007200000000000000000000060000081b80500000000000000000000000000000000000000000000000000000000000000000000000000000000000000000000c000000000000000006203400 s t := by
  unfold execTxSkewWrite
  refine ⟨_, rfl, ?_⟩
  refine Upd.guardW ?_ (fun x1 h1 => ?_) rfl
  · exact Upd.refl _ _
  · refine Upd.step ?_ (State.skewWrite_upd ..) rfl
    exact h1

theorem execSkewRamp_upd (a1 : ℕ) (a2 : ℕ) (s : State) :
    ∃ t, execSkewRamp a1 a2 s = .next t ∧ Upd 0x2000000000000000000000000000000000000000000000000000000000000000000000000000000000000000000000000000000000000000000000000000004000000000000000000000000 s t := by
  unfold execSkewRamp
  refine ⟨_, rfl, ?_⟩
  refine Upd.ite ?_ ?_
  · refine Upd.step ?_ (State.skewSettle_upd ..) rfl
    refine Upd.step ?_ (State.modCar_upd ..) rfl
    exact Upd.refl _ _
  · exact Upd.refl _ _

end Sys2Proof.Machine
end

