-- ==== Sys2Proof/Laws/FootFrame.lean ====
section
/-! SUPPORT. The footprints of the operations of Machine/Frame.lean: what each may change. -/

set_option linter.unreachableTactic false
set_option linter.unusedTactic false
set_option linter.unusedVariables false

namespace Sys2Proof.Machine

theorem State.decStop_upd (a1 : ℕ) (s : State) :
    Upd 0x4000000000000000000000000000000000000000000000000000000000000000000000000000000000000000000000000000000000000000000000100000000000000000000000000000000 s (State.decStop a1 s) := by
  unfold State.decStop
  extract_lets +onlyGivenNames -underBinder -merge -useContext x1
  refine Upd.cut (t := x1) ?_ (fun h1 => ?_)
  · unfold x1
    refine Upd.when ?_ (fun x2 h2 => ?_)
    · exact Upd.refl _ _
    · refine Upd.setFlag ?_ rfl
      refine Upd.setFlag ?_ rfl
      exact h2
  clear_value x1
  refine Upd.step ?_ (State.modSc_upd ..) rfl
  exact h1

theorem State.scTo_upd (a1 : ℕ) (a2 : ℕ) (s : State) :
    Upd 0x404000000000000000000000000000000000000000000000000000000000000000000000000000000000000000000000000000000000000000000000109000200000000000000000000000000 s (State.scTo a1 a2 s) := by
  unfold State.scTo
  extract_lets +onlyGivenNames -underBinder -merge -useContext x1
  try clear_value x1
  refine Upd.ite ?_ ?_
  · exact Upd.refl _ _
  · extract_lets +onlyGivenNames -underBinder -merge -useContext x2
    refine Upd.cut (t := x2) ?_ (fun h2 => ?_)
    · unfold x2
      refine Upd.setFld ?_ rfl
      exact Upd.refl _ _
    clear_value x2
    extract_lets +onlyGivenNames -underBinder -merge -useContext x3
    refine Upd.cut (t := x3) ?_ (fun h3 => ?_)
    · unfold x3
      refine Upd.when ?_ (fun x4 h4 => ?_)
      · exact h2
      · refine Upd.raise ?_ rfl
        exact h4
    clear_value x3
    extract_lets +onlyGivenNames -underBinder -merge -useContext x5
    refine Upd.cut (t := x5) ?_ (fun h5 => ?_)
    · unfold x5
      refine Upd.when ?_ (fun x6 h6 => ?_)
      · exact h3
      · refine Upd.step ?_ (State.decStop_upd ..) rfl
        refine Upd.raise ?_ rfl
        exact h6
    clear_value x5
    extract_lets +onlyGivenNames -underBinder -merge -useContext x7
    refine Upd.cut (t := x7) ?_ (fun h7 => ?_)
    · unfold x7
      refine Upd.when ?_ (fun x8 h8 => ?_)
      · exact h5
      · refine Upd.raise ?_ rfl
        exact h8
    clear_value x7
    refine Upd.ite ?_ ?_
    · extract_lets +onlyGivenNames -underBinder -merge -useContext x9
      try clear_value x9
      extract_lets +onlyGivenNames -underBinder -merge -useContext x10
      try clear_value x10
      refine Upd.step ?_ (State.pccPend_upd ..) rfl
      refine Upd.setFld ?_ rfl
      exact h7
    · exact h7

theorem State.searchNext_upd (a1 : ℕ) (a2 : List ℕ) (s : State) :
    Upd 0x406000000000000000000000000000000000000000000000000000000000000000000000000000000000000000000000000000000000000000000000109000200000000000000000000000000 s (State.searchNext a1 a2 s) := by
  unfold State.searchNext
  split
  · refine Upd.step ?_ (State.modCar_upd ..) rfl
    refine Upd.step ?_ (State.scTo_upd ..) rfl
    exact Upd.refl _ _
  · refine Upd.step ?_ (State.modCar_upd ..) rfl
    exact Upd.refl _ _

theorem State.searchEval_upd (a1 : ℕ) (s : State) :
    Upd 0x406000000000000000000000000000000000000000000000000000000000000000000000000000000000000000000000000000000000000000000000109000200000000000000000000000000 s (State.searchEval a1 s) := by
  unfold State.searchEval
  refine Upd.ite ?_ ?_
  · refine Upd.step ?_ (State.modCar_upd ..) rfl
    exact Upd.refl _ _
  · split
    · refine Upd.ite ?_ ?_
      · exact Upd.refl _ _
      · refine Upd.step ?_ (State.searchNext_upd ..) rfl
        exact Upd.refl _ _
    · refine Upd.step ?_ (State.searchNext_upd ..) rfl
      exact Upd.refl _ _

theorem State.searchFail_upd (a1 : ℕ) (s : State) :
    Upd 0x406000000000000000000000000000000000000000000000000000000000000000000000000000000000000000000000000000000000000000000000109000200000000000000000000000000 s (State.searchFail a1 s) := by
  unfold State.searchFail
  split
  · refine Upd.step ?_ (State.modCar_upd ..) rfl
    exact Upd.refl _ _
  · refine Upd.step ?_ (State.searchNext_upd ..) rfl
    exact Upd.refl _ _
  · exact Upd.refl _ _

theorem State.acqCheck_upd (a1 : ℕ) (s : State) :
    Upd 0x2000000000000000000000000000000000000000000000000000000000000000000000000000000000000000000000000000000000000000000000000088200000000000000000000000000 s (State.acqCheck a1 s) := by
  unfold State.acqCheck
  extract_lets +onlyGivenNames -underBinder -merge -useContext x1
  try clear_value x1
  extract_lets +onlyGivenNames -underBinder -merge -useContext x2
  try clear_value x2
  refine Upd.ite ?_ ?_
  · exact Upd.refl _ _
  · refine Upd.ite ?_ ?_
    · extract_lets +onlyGivenNames -underBinder -merge -useContext x3
      try clear_value x3
      extract_lets +onlyGivenNames -underBinder -merge -useContext x4
      refine Upd.cut (t := x4) ?_ (fun h4 => ?_)
      · unfold x4
        refine Upd.step ?_ (State.modCar_upd ..) rfl
        refine Upd.setFld ?_ rfl
        refine Upd.raise ?_ rfl
        exact Upd.refl _ _
      clear_value x4
      refine Upd.when ?_ (fun x5 h5 => ?_)
      · exact h4
      · refine Upd.bump ?_ rfl
        refine Upd.raise ?_ rfl
        exact h5
    · refine Upd.ite ?_ ?_
      · refine Upd.setFld ?_ rfl
        exact Upd.refl _ _
      · exact Upd.refl _ _

theorem State.pmAdd_upd (a1 : ℕ) (a2 : PmAcc → PmAcc) (s : State) :
    Upd 0x4000000000000000000000000000000000000000000000000000000000000000000000000000000000000000000000000000000000000000000000000000000000000000000000000000000 s (State.pmAdd a1 a2 s) := by
  unfold State.pmAdd
  refine Upd.step ?_ (State.modSc_upd ..) rfl
  exact Upd.refl _ _

theorem State.pmFlag_upd (a1 : ℕ) (a2 : ℕ) (s : State) :
    Upd 0x4000000000000000000000000000000000000000000000000000000000000000000000000000000000000000000000000000000000000000000000000000000000000000000000000000000 s (State.pmFlag a1 a2 s) := by
  unfold State.pmFlag
  refine Upd.step ?_ (State.pmAdd_upd ..) rfl
  exact Upd.refl _ _

theorem State.fstate_upd (a1 : ℕ) (a2 : ℕ) (s : State) :
    Upd 0x4000000000000000000000000000000000000000000000000000000000000000000000000000000000000000000000000000000000000000008000000000000000000000000000000000000 s (State.fstate a1 a2 s) := by
  unfold State.fstate
  extract_lets +onlyGivenNames -underBinder -merge -useContext x1
  refine Upd.cut (t := x1) ?_ (fun h1 => ?_)
  · unfold x1
    refine Upd.setFlag ?_ rfl
    refine Upd.setFld ?_ rfl
    exact Upd.refl _ _
  clear_value x1
  refine Upd.when ?_ (fun x2 h2 => ?_)
  · exact h1
  · refine Upd.step ?_ (State.pmFlag_upd ..) rfl
    exact h2

theorem State.leaveFrame_upd (a1 : ℕ) (s : State) :
    Upd 0x4000000000000000000000000000000000000000000000000000000000000000000000000000000000000000000000000000000000000000008000100000000000000000000000000000000 s (State.leaveFrame a1 s) := by
  unfold State.leaveFrame
  extract_lets +onlyGivenNames -underBinder -merge -useContext x1
  refine Upd.cut (t := x1) ?_ (fun h1 => ?_)
  · unfold x1
    refine Upd.step ?_ (State.decStop_upd ..) rfl
    refine Upd.setFld ?_ rfl
    refine Upd.setFlag ?_ rfl
    refine Upd.setFlag ?_ rfl
    exact Upd.refl _ _
  clear_value x1
  refine Upd.step ?_ (State.modSc_upd ..) rfl
  exact h1

theorem State.sigEval_upd (a1 : ℕ) (s : State) :
    Upd 0x4000000000000000000000000000000000000000000000000000000000000000000000000000000000000000000000000000000000000000008000100000000000000000000000000000000 s (State.sigEval a1 s) := by
  unfold State.sigEval
  extract_lets +onlyGivenNames -underBinder -merge -useContext x1
  try clear_value x1
  extract_lets +onlyGivenNames -underBinder -merge -useContext x2
  try clear_value x2
  refine Upd.ite ?_ ?_
  · refine Upd.step ?_ (State.fstate_upd ..) rfl
    exact Upd.refl _ _
  · refine Upd.ite ?_ ?_
    · refine Upd.step ?_ (State.fstate_upd ..) rfl
      refine Upd.step ?_ (State.leaveFrame_upd ..) rfl
      exact Upd.refl _ _
    · exact Upd.refl _ _

theorem State.sfEval_upd (a1 : ℕ) (s : State) :
    Upd 0x4000000000000000000000000000000000000000000000000000000000000000000000000000000000000000000000000000000000000000018000000000000000000000000000000000000 s (State.sfEval a1 s) := by
  unfold State.sfEval
  extract_lets +onlyGivenNames -underBinder -merge -useContext x1
  try clear_value x1
  extract_lets +onlyGivenNames -underBinder -merge -useContext x2
  try clear_value x2
  extract_lets +onlyGivenNames -underBinder -merge -useContext x3
  refine Upd.cut (t := x3) ?_ (fun h3 => ?_)
  · unfold x3
    refine Upd.when ?_ (fun x4 h4 => ?_)
    · exact Upd.refl _ _
    · refine Upd.step ?_ (State.pmFlag_upd ..) (by first | rfl | (split <;> rfl) | (unfold enterEvt; split <;> rfl) | (unfold pendFld; split <;> rfl) | (rw [padFld_reg (by assumption)]; rfl) | (unfold phWord; rcases a2 with _ | _ | _ | _ | _ | a2 <;> rfl) | exact RegId.all_bit rfl _)
      exact h4
  clear_value x3
  refine Upd.ite ?_ ?_
  · exact h3
  · refine Upd.raise ?_ (by first | rfl | (split <;> rfl) | (unfold enterEvt; split <;> rfl) | (unfold pendFld; split <;> rfl) | (rw [padFld_reg (by assumption)]; rfl) | (unfold phWord; rcases a2 with _ | _ | _ | _ | _ | a2 <;> rfl) | exact RegId.all_bit rfl _)
    refine Upd.setFlag ?_ (by first | rfl | (split <;> rfl) | (unfold enterEvt; split <;> rfl) | (unfold pendFld; split <;> rfl) | (rw [padFld_reg (by assumption)]; rfl) | (unfold phWord; rcases a2 with _ | _ | _ | _ | _ | a2 <;> rfl) | exact RegId.all_bit rfl _)
    exact h3

theorem State.srcEval_upd (a1 : ℕ) (s : State) :
    Upd 0x2000000000000000000000000000000000000000000000000000000000000000000000000000000000000000000000000000000000008000000000000000000000000000000000000000000 s (State.srcEval a1 s) := by
  unfold State.srcEval
  extract_lets +onlyGivenNames -underBinder -merge -useContext x1
  try clear_value x1
  refine Upd.ite ?_ ?_
  · exact Upd.refl _ _
  · refine Upd.step ?_ (State.modCar_upd ..) rfl
    refine Upd.setFld ?_ rfl
    exact Upd.refl _ _

theorem State.lineEval_upd (a1 : ℕ) (s : State) :
    Upd 0x20000000005e40e00000000000000000000000000001b805000000000000000000000000000000000000080000000400100066000008002113000055008000018000109088200000000000000000000000000 s (State.lineEval a1 s) := by
  unfold State.lineEval
  extract_lets +onlyGivenNames -underBinder -merge -useContext x1
  refine Upd.cut (t := x1) ?_ (fun h1 => ?_)
  · unfold x1
    refine Upd.step ?_ (State.searchEval_upd ..) rfl
    exact Upd.refl _ _
  clear_value x1
  extract_lets +onlyGivenNames -underBinder -merge -useContext x2
  refine Upd.cut (t := x2) ?_ (fun h2 => ?_)
  · unfold x2
    refine Upd.when ?_ (fun x3 h3 => ?_)
    · exact h1
    · refine Upd.step ?_ (State.srcEval_upd ..) rfl
      refine Upd.each ?_ (fun n5 x5 h5 => ?_) _
      · refine Upd.each ?_ (fun n4 x4 h4 => ?_) _
        · exact h3
        · refine Upd.step ?_ (State.sigEval_upd ..) rfl
          exact h4
      · refine Upd.step ?_ (State.sfEval_upd ..) rfl
        exact h5
  clear_value x2
  refine Upd.when ?_ (fun x6 h6 => ?_)
  · refine Upd.step ?_ (State.acqCheck_upd ..) rfl
    exact h2
  · refine Upd.step ?_ (State.grpsEval_upd ..) rfl
    exact h6

theorem State.hypCheck_upd (a1 : ℕ) (a2 : ℕ) (a3 : ℕ) (s : State) :
    Upd 0x4000000000000000000000000000000000000000000000000000000000000000000000000000000000000000000000000000000000000000008000000000000000000000000000000000000 s (State.hypCheck a1 a2 a3 s) := by
  unfold State.hypCheck
  extract_lets +onlyGivenNames -underBinder -merge -useContext x1
  try clear_value x1
  extract_lets +onlyGivenNames -underBinder -merge -useContext x2
  try clear_value x2
  extract_lets +onlyGivenNames -underBinder -merge -useContext x3
  try clear_value x3
  extract_lets +onlyGivenNames -underBinder -merge -useContext x4
  try clear_value x4
  refine Upd.setFld ?_ rfl
  refine Upd.step ?_ (State.modSc_upd ..) rfl
  exact Upd.refl _ _

theorem execHypothesisCheck_upd (a1 : ℕ) (a2 : ℕ) (a3 : ℕ) (s : State) :
    ∃ t, execHypothesisCheck a1 a2 a3 s = .next t ∧ Upd 0x4000000000000000000000000000000000000000000000000000000000000000000000000000000000000000000000000000000000000000008000000000000000000000000000000000000 s t := by
  unfold execHypothesisCheck
  refine ⟨_, rfl, ?_⟩
  refine Upd.ite ?_ ?_
  · refine Upd.step ?_ (State.hypCheck_upd ..) rfl
    exact Upd.refl _ _
  · exact Upd.refl _ _

theorem State.searchEnd_upd (a1 : ℕ) (s : State) :
    Upd 0x20000000005e40e00000000000000000000000000001b805000000000000000000000000000000000000080000000400100066000008002113000055008000118000109088200000000000000000000000000 s (State.searchEnd a1 s) := by
  unfold State.searchEnd
  split
  · exact Upd.refl _ _
  · refine Upd.step ?_ (State.lineEval_upd ..) rfl
    refine Upd.step ?_ (State.fstate_upd ..) rfl
    refine Upd.setFld ?_ rfl
    refine Upd.step ?_ (State.modSc_upd ..) rfl
    exact Upd.refl _ _
  · refine Upd.raise ?_ rfl
    refine Upd.bump ?_ rfl
    refine Upd.setFld ?_ rfl
    refine Upd.step ?_ (State.modSc_upd ..) rfl
    exact Upd.refl _ _

theorem execSearchInterval_upd (a1 : ℕ) (s : State) :
    ∃ t, execSearchInterval a1 s = .next t ∧ Upd 0x20000000005e40e00000000000000000000000000001b805000000000000000000000000000000000000080000000400100066000008002113000055008000118000109088200000000000000000000000000 s t := by
  unfold execSearchInterval
  refine ⟨_, rfl, ?_⟩
  refine Upd.ite ?_ ?_
  · refine Upd.step ?_ (State.searchEnd_upd ..) rfl
    exact Upd.refl _ _
  · exact Upd.refl _ _

theorem State.descSeen_upd (a1 : ℕ) (a2 : Bool) (a3 : ℕ) (a4 : W32) (s : State) :
    Upd 0x2000000000000000000000000000000000000000000000000000000000000000000000000000000000000000000000000000000000000000010000000000000000000000000000000000000 s (State.descSeen a1 a2 a3 a4 s) := by
  unfold State.descSeen
  extract_lets +onlyGivenNames -underBinder -merge -useContext x1
  try clear_value x1
  refine Upd.ite ?_ ?_
  · refine Upd.raise ?_ rfl
    exact Upd.refl _ _
  · refine Upd.ite ?_ ?_
    · refine Upd.when ?_ (fun x2 h2 => ?_)
      · exact Upd.refl _ _
      · refine Upd.step ?_ (State.modCar_upd ..) rfl
        exact h2
    · refine Upd.step ?_ (State.modCar_upd ..) rfl
      exact Upd.refl _ _

theorem State.descByte_upd (a1 : ℕ) (a2 : ℕ) (a3 : Header) (s : State) :
    Upd 0x6000000000000000000000000000000000000000000000000000000000000000000000000000000000000000000000000000000000000000010000000000000000000000000000000000000 s (State.descByte a1 a2 a3 s) := by
  unfold State.descByte
  extract_lets +onlyGivenNames -underBinder -merge -useContext x1
  try clear_value x1
  extract_lets +onlyGivenNames -underBinder -merge -useContext x2
  try clear_value x2
  extract_lets +onlyGivenNames -underBinder -merge -useContext x3
  refine Upd.cut (t := x3) ?_ (fun h3 => ?_)
  · unfold x3
    refine Upd.step ?_ (State.modSc_upd ..) rfl
    exact Upd.refl _ _
  clear_value x3
  split
  · refine Upd.ite ?_ ?_
    · refine Upd.step ?_ (State.descSeen_upd ..) rfl
      exact h3
    · exact h3
  · exact h3

theorem State.rdiHdr_upd (a1 : ℕ) (a2 : Bool) (s : State) :
    Upd 0x20000000001a00600000000000000000000000000001b805000000000000000000000000000000000000000000000000100066000008002113000040018000000000000000000040000000000000000000000 s (State.rdiHdr a1 a2 s) := by
  unfold State.rdiHdr
  extract_lets +onlyGivenNames -underBinder -merge -useContext x1
  try clear_value x1
  extract_lets +onlyGivenNames -underBinder -merge -useContext x2
  refine Upd.cut (t := x2) ?_ (fun h2 => ?_)
  · unfold x2
    refine Upd.step ?_ (State.modCar_upd ..) rfl
    exact Upd.refl _ _
  clear_value x2
  refine Upd.ite ?_ ?_
  · exact h2
  · extract_lets +onlyGivenNames -underBinder -merge -useContext x3
    refine Upd.cut (t := x3) ?_ (fun h3 => ?_)
    · unfold x3
      refine Upd.setFlag ?_ rfl
      exact h2
    clear_value x3
    refine Upd.ite ?_ ?_
    · refine Upd.step ?_ (State.holds_upd ..) rfl
      refine Upd.each ?_ (fun n4 x4 h4 => ?_) _
      · refine Upd.raise ?_ rfl
        exact h3
      · refine Upd.step ?_ (State.pmFlag_upd ..) rfl
        exact h4
    · refine Upd.step ?_ (State.holds_upd ..) rfl
      refine Upd.step ?_ (State.holdEnd_upd ..) rfl
      refine Upd.raise ?_ rfl
      exact h3

theorem State.scidRun_upd (a1 : ℕ) (a2 : Bool) (a3 : Bool) (s : State) :
    Upd 0x4000000000000000000000000000000000000000000000000000000000000000000000000000000000000000000000000000000000000000008000000000000000000000000000000000000 s (State.scidRun a1 a2 a3 s) := by
  unfold State.scidRun
  extract_lets +onlyGivenNames -underBinder -merge -useContext x1
  try clear_value x1
  extract_lets +onlyGivenNames -underBinder -merge -useContext x2
  try clear_value x2
  extract_lets +onlyGivenNames -underBinder -merge -useContext x3
  try clear_value x3
  extract_lets +onlyGivenNames -underBinder -merge -useContext x4
  refine Upd.cut (t := x4) ?_ (fun h4 => ?_)
  · unfold x4
    refine Upd.step ?_ (State.modSc_upd ..) rfl
    exact Upd.refl _ _
  clear_value x4
  refine Upd.ite ?_ ?_
  · refine Upd.setFlag ?_ rfl
    exact h4
  · refine Upd.ite ?_ ?_
    · refine Upd.setFlag ?_ rfl
      exact h4
    · exact h4

theorem State.oom_upd (a1 : ℕ) (s : State) :
    Upd 0x4000000000000000000000000000000000000000000000000000000000000000000000000000000000000000000000000000000000000000018000000000000000000000000000000000000 s (State.oom a1 s) := by
  unfold State.oom
  refine Upd.step ?_ (State.fstate_upd ..) rfl
  refine Upd.step ?_ (State.modSc_upd ..) rfl
  refine Upd.raise ?_ rfl
  refine Upd.setFlag ?_ rfl
  exact Upd.refl _ _

theorem State.hdrIf_upd (a1 : ℕ) (a2 : Option Header) (s : State) :
    Upd 0x4000000000000000000000000000000000000000000000000000000000000000000000000000000000000000000000000000000000000000018000000000000000000000000000000000000 s (State.hdrIf a1 a2 s) := by
  unfold State.hdrIf
  split
  · extract_lets +onlyGivenNames -underBinder -merge -useContext x1
    refine Upd.cut (t := x1) ?_ (fun h1 => ?_)
    · unfold x1
      refine Upd.step ?_ (State.modSc_upd ..) rfl
      exact Upd.refl _ _
    clear_value x1
    refine Upd.when ?_ (fun x2 h2 => ?_)
    · exact h1
    · refine Upd.step ?_ (State.oom_upd ..) rfl
      exact h2
  · extract_lets +onlyGivenNames -underBinder -merge -useContext x3
    refine Upd.cut (t := x3) ?_ (fun h3 => ?_)
    · unfold x3
      refine Upd.step ?_ (State.modSc_upd ..) rfl
      exact Upd.refl _ _
    clear_value x3
    refine Upd.ite ?_ ?_
    · refine Upd.step ?_ (State.modSc_upd ..) rfl
      refine Upd.raise ?_ rfl
      refine Upd.setFlag ?_ rfl
      refine Upd.setFld ?_ rfl
      refine Upd.step ?_ (State.fstate_upd ..) rfl
      exact h3
    · refine Upd.step ?_ (State.modSc_upd ..) rfl
      exact h3

theorem State.hdrIm_upd (a1 : ℕ) (a2 : Option Header) (s : State) :
    Upd 0x20000000001a00600000000000000000000000000001b805000000000000000000000000000000000000000000000000100066000008002113000040018000018000000000000040000000000000000000000 s (State.hdrIm a1 a2 s) := by
  unfold State.hdrIm
  extract_lets +onlyGivenNames -underBinder -merge -useContext x1
  try clear_value x1
  extract_lets +onlyGivenNames -underBinder -merge -useContext x2
  refine Upd.cut (t := x2) ?_ (fun h2 => ?_)
  · unfold x2
    refine Upd.step ?_ (State.count_upd ..) rfl
    refine Upd.setFld ?_ rfl
    exact Upd.refl _ _
  clear_value x2
  split
  · extract_lets +onlyGivenNames -underBinder -merge -useContext x3
    refine Upd.cut (t := x3) ?_ (fun h3 => ?_)
    · unfold x3
      refine Upd.step ?_ (State.modSc_upd ..) rfl
      exact h2
    clear_value x3
    refine Upd.when ?_ (fun x4 h4 => ?_)
    · exact h3
    · refine Upd.step ?_ (State.oom_upd ..) rfl
      exact h4
  · extract_lets +onlyGivenNames -underBinder -merge -useContext x5
    refine Upd.cut (t := x5) ?_ (fun h5 => ?_)
    · unfold x5
      refine Upd.step ?_ (State.modSc_upd ..) rfl
      exact h2
    clear_value x5
    extract_lets +onlyGivenNames -underBinder -merge -useContext x6
    refine Upd.cut (t := x6) ?_ (fun h6 => ?_)
    · unfold x6
      refine Upd.when ?_ (fun x7 h7 => ?_)
      · exact h5
      · refine Upd.step ?_ (State.rdiHdr_upd ..) rfl
        exact h7
    clear_value x6
    refine Upd.ite ?_ ?_
    · refine Upd.step ?_ (State.oom_upd ..) rfl
      exact h6
    · refine Upd.ite ?_ ?_
      · refine Upd.step ?_ (State.descByte_upd ..) rfl
        exact h6
      · exact h6

theorem State.jcFrame_upd (a1 : ℕ) (a2 : Option ℕ) (s : State) :
    Upd 0x4000000000000000000000000000000000000000000000000000000000000000000000000000000000000000000000000000000000000000008000000000000000000000000000000000000 s (State.jcFrame a1 a2 s) := by
  unfold State.jcFrame
  extract_lets +onlyGivenNames -underBinder -merge -useContext x1
  try clear_value x1
  extract_lets +onlyGivenNames -underBinder -merge -useContext x2
  try clear_value x2
  extract_lets +onlyGivenNames -underBinder -merge -useContext x3
  try clear_value x3
  split
  · extract_lets +onlyGivenNames -underBinder -merge -useContext x4
    try clear_value x4
    refine Upd.step ?_ (State.modSc_upd ..) rfl
    exact Upd.refl _ _
  · refine Upd.step ?_ (State.modSc_upd ..) rfl
    exact Upd.refl _ _
  · refine Upd.ite ?_ ?_
    · refine Upd.setFlag ?_ rfl
      refine Upd.step ?_ (State.modSc_upd ..) rfl
      exact Upd.refl _ _
    · refine Upd.step ?_ (State.modSc_upd ..) rfl
      exact Upd.refl _ _
  · refine Upd.step ?_ (State.modSc_upd ..) rfl
    exact Upd.refl _ _

theorem State.timEval_upd (a1 : ℕ) (s : State) :
    Upd 0x18000000000000000000000000000000000000000000 s (State.timEval a1 s) := by
  unfold State.timEval
  extract_lets +onlyGivenNames -underBinder -merge -useContext x1
  try clear_value x1
  extract_lets +onlyGivenNames -underBinder -merge -useContext x2
  try clear_value x2
  refine Upd.ite ?_ ?_
  · exact Upd.refl _ _
  · refine Upd.raise ?_ (by first | rfl | (split <;> rfl) | (unfold enterEvt; split <;> rfl) | (unfold pendFld; split <;> rfl) | (rw [padFld_reg (by assumption)]; rfl) | (unfold phWord; rcases a2 with _ | _ | _ | _ | _ | a2 <;> rfl) | exact RegId.all_bit rfl _)
    refine Upd.setFlag ?_ (by first | rfl | (split <;> rfl) | (unfold enterEvt; split <;> rfl) | (unfold pendFld; split <;> rfl) | (rw [padFld_reg (by assumption)]; rfl) | (unfold phWord; rcases a2 with _ | _ | _ | _ | _ | a2 <;> rfl) | exact RegId.all_bit rfl _)
    exact Upd.refl _ _

theorem State.ttiByte_upd (a1 : ℕ) (a2 : ℕ) (a3 : Byte) (s : State) :
    Upd 0x2000000000000000000000000000000000000000000000000000000000000000000000000000000000000000000000000000000000418000000000000000000000000000000000000000000 s (State.ttiByte a1 a2 a3 s) := by
  unfold State.ttiByte
  extract_lets +onlyGivenNames -underBinder -merge -useContext x1
  try clear_value x1
  extract_lets +onlyGivenNames -underBinder -merge -useContext x2
  refine Upd.cut (t := x2) ?_ (fun h2 => ?_)
  · unfold x2
    refine Upd.step ?_ (State.modCar_upd ..) rfl
    exact Upd.refl _ _
  clear_value x2
  refine Upd.ite ?_ ?_
  · extract_lets +onlyGivenNames -underBinder -merge -useContext x3
    try clear_value x3
    refine Upd.ite ?_ ?_
    · exact h2
    · refine Upd.step ?_ (State.timEval_upd ..) rfl
      refine Upd.raise ?_ rfl
      refine Upd.setFlag ?_ rfl
      refine Upd.upto ?_ (fun n4 x4 h4 => ?_) _
      · exact h2
      · refine Upd.wr ?_ rfl
        exact h4
  · exact h2

theorem State.ovhCarrier_upd (a1 : ℕ) (a2 : ℕ) (a3 : Overhead) (s : State) :
    Upd 0x6000000000000000000000000000000000000000000000000000000000000000000000000000000000000000000000000000000000498000000000000000000000000000000000000000000 s (State.ovhCarrier a1 a2 a3 s) := by
  unfold State.ovhCarrier
  extract_lets +onlyGivenNames -underBinder -merge -useContext x1
  try clear_value x1
  extract_lets +onlyGivenNames -underBinder -merge -useContext x2
  try clear_value x2
  extract_lets +onlyGivenNames -underBinder -merge -useContext x3
  refine Upd.cut (t := x3) ?_ (fun h3 => ?_)
  · unfold x3
    refine Upd.step ?_ (State.modCar_upd ..) rfl
    exact Upd.refl _ _
  clear_value x3
  extract_lets +onlyGivenNames -underBinder -merge -useContext x4
  refine Upd.cut (t := x4) ?_ (fun h4 => ?_)
  · unfold x4
    refine Upd.when ?_ (fun x5 h5 => ?_)
    · exact h3
    · refine Upd.each ?_ (fun n6 x6 h6 => ?_) _
      · refine Upd.setFld ?_ rfl
        exact h5
      · refine Upd.when ?_ (fun x7 h7 => ?_)
        · exact h6
        · refine Upd.step ?_ (State.pmFlag_upd ..) rfl
          exact h7
  clear_value x4
  extract_lets +onlyGivenNames -underBinder -merge -useContext x8
  refine Upd.cut (t := x8) ?_ (fun h8 => ?_)
  · unfold x8
    refine Upd.when ?_ (fun x9 h9 => ?_)
    · exact h4
    · refine Upd.raise ?_ rfl
      refine Upd.setFlag ?_ rfl
      refine Upd.wr ?_ rfl
      exact h9
  clear_value x8
  refine Upd.step ?_ (State.ttiByte_upd ..) rfl
  exact h8

theorem State.msimEval_upd (a1 : ℕ) (s : State) :
    Upd 0x4000000000000000000000000000000000000000000000000000000000000000000000000000000000000000000000000000000000000000010000000000000000000000000000000000000 s (State.msimEval a1 s) := by
  unfold State.msimEval
  extract_lets +onlyGivenNames -underBinder -merge -useContext x1
  try clear_value x1
  extract_lets +onlyGivenNames -underBinder -merge -useContext x2
  try clear_value x2
  refine Upd.when ?_ (fun x3 h3 => ?_)
  · refine Upd.step ?_ (State.modSc_upd ..) rfl
    exact Upd.refl _ _
  · refine Upd.raise ?_ rfl
    exact h3

theorem State.msiByte_upd (a1 : ℕ) (a2 : ℕ) (a3 : Byte) (s : State) :
    Upd 0x4000000000000000000000000000000000000000000000000000000000000000000000000000000000000000000000000000000000001000010000000000000000000000000000000000000 s (State.msiByte a1 a2 a3 s) := by
  unfold State.msiByte
  extract_lets +onlyGivenNames -underBinder -merge -useContext x1
  try clear_value x1
  extract_lets +onlyGivenNames -underBinder -merge -useContext x2
  refine Upd.cut (t := x2) ?_ (fun h2 => ?_)
  · unfold x2
    refine Upd.step ?_ (State.modSc_upd ..) rfl
    exact Upd.refl _ _
  clear_value x2
  refine Upd.ite ?_ ?_
  · refine Upd.step ?_ (State.msimEval_upd ..) rfl
    refine Upd.upto ?_ (fun n3 x3 h3 => ?_) _
    · exact h2
    · refine Upd.wr ?_ rfl
      exact h3
  · exact h2

theorem State.reiAccept_upd (a1 : ℕ) (a2 : ℕ) (a3 : ℕ) (a4 : ℕ) (a5 : ℕ) (s : State) :
    Upd 0x4000000000000000000000000000000000000000000000000000000000000000000000000000000000000000000000000000000000000000010000000000000000000000000000000000000 s (State.reiAccept a1 a2 a3 a4 a5 s) := by
  unfold State.reiAccept
  extract_lets +onlyGivenNames -underBinder -merge -useContext x1
  try clear_value x1
  refine Upd.ite ?_ ?_
  · refine Upd.step ?_ (State.modSc_upd ..) rfl
    exact Upd.refl _ _
  · extract_lets +onlyGivenNames -underBinder -merge -useContext x2
    try clear_value x2
    refine Upd.when ?_ (fun x3 h3 => ?_)
    · refine Upd.step ?_ (State.pmAdd_upd ..) rfl
      refine Upd.step ?_ (State.modSc_upd ..) rfl
      exact Upd.refl _ _
    · refine Upd.raise ?_ rfl
      exact h3

theorem State.reiPart_upd (a1 : ℕ) (a2 : ℕ) (a3 : Byte × Byte) (s : State) :
    Upd 0x4000000000000000000000000000000000000000000000000000000000000000000000000000000000000000000000000000000000000000010000000000000000000000000000000000000 s (State.reiPart a1 a2 a3 s) := by
  unfold State.reiPart
  extract_lets +onlyGivenNames -underBinder -merge -useContext x1
  try clear_value x1
  extract_lets +onlyGivenNames -underBinder -merge -useContext x2
  refine Upd.cut (t := x2) ?_ (fun h2 => ?_)
  · unfold x2
    refine Upd.step ?_ (State.modSc_upd ..) rfl
    exact Upd.refl _ _
  clear_value x2
  split
  · refine Upd.step ?_ (State.reiAccept_upd ..) rfl
    exact h2
  · exact h2

theorem State.mccIn_upd (a1 : ℕ) (a2 : Byte × Byte) (a3 : Bool) (s : State) :
    Upd 0x200000000000000000000000000000000000000000000000000000000000000000000000000000000000000000000000000000000000000000000000000000000000000000000000000000000000 s (State.mccIn a1 a2 a3 s) := by
  unfold State.mccIn
  extract_lets +onlyGivenNames -underBinder -merge -useContext x1
  try clear_value x1
  extract_lets +onlyGivenNames -underBinder -merge -useContext x2
  try clear_value x2
  refine Upd.ite ?_ ?_
  · refine Upd.set_mccRx ?_ rfl
    exact Upd.refl _ _
  · exact Upd.refl _ _

theorem State.ttmByte_upd (a1 : ℕ) (a2 : ℕ) (a3 : Option (Byte × Byte)) (s : State) :
    Upd 0x2000000000000000000000000000000000000000000000000000000000000000000000000000000000000000000000000000000000000000000000000000000000000000000000000000000 s (State.ttmByte a1 a2 a3 s) := by
  unfold State.ttmByte
  refine Upd.step ?_ (State.modCar_upd ..) rfl
  exact Upd.refl _ _

theorem State.ovhFrame_upd (a1 : ℕ) (a2 : Option Overhead) (s : State) :
    Upd 0x200000000200006000000000000000000000000000000000000000000000000000000000000000000000000000000000000000000000000000000000499000018000000000000000000000000000000000000 s (State.ovhFrame a1 a2 s) := by
  unfold State.ovhFrame
  extract_lets +onlyGivenNames -underBinder -merge -useContext x1
  try clear_value x1
  extract_lets +onlyGivenNames -underBinder -merge -useContext x2
  try clear_value x2
  extract_lets +onlyGivenNames -underBinder -merge -useContext x3
  refine Upd.cut (t := x3) ?_ (fun h3 => ?_)
  · unfold x3
    refine Upd.step ?_ (State.jcFrame_upd ..) rfl
    exact Upd.refl _ _
  clear_value x3
  extract_lets +onlyGivenNames -underBinder -merge -useContext x4
  try clear_value x4
  extract_lets +onlyGivenNames -underBinder -merge -useContext x5
  refine Upd.cut (t := x5) ?_ (fun h5 => ?_)
  · unfold x5
    refine Upd.when ?_ (fun x6 h6 => ?_)
    · exact h3
    · refine Upd.step ?_ (State.ttmByte_upd ..) rfl
      exact h6
  clear_value x5
  split
  · extract_lets +onlyGivenNames -underBinder -merge -useContext x7
    try clear_value x7
    extract_lets +onlyGivenNames -underBinder -merge -useContext x8
    refine Upd.cut (t := x8) ?_ (fun h8 => ?_)
    · unfold x8
      refine Upd.step ?_ (State.modSc_upd ..) rfl
      exact h5
    clear_value x8
    extract_lets +onlyGivenNames -underBinder -merge -useContext x9
    refine Upd.cut (t := x9) ?_ (fun h9 => ?_)
    · unfold x9
      refine Upd.when ?_ (fun x10 h10 => ?_)
      · exact h8
      · refine Upd.step ?_ (State.modCar_upd ..) rfl
        exact h10
    clear_value x9
    refine Upd.step ?_ (State.mccIn_upd ..) rfl
    refine Upd.step ?_ (State.useFree_upd ..) rfl
    exact h9
  · extract_lets +onlyGivenNames -underBinder -merge -useContext x11
    refine Upd.cut (t := x11) ?_ (fun h11 => ?_)
    · unfold x11
      refine Upd.when ?_ (fun x12 h12 => ?_)
      · exact h5
      · refine Upd.step ?_ (State.ovhCarrier_upd ..) rfl
        exact h12
    clear_value x11
    refine Upd.step ?_ (State.mccIn_upd ..) rfl
    refine Upd.step ?_ (State.reiPart_upd ..) rfl
    refine Upd.step ?_ (State.msiByte_upd ..) rfl
    exact h11

theorem State.frameDec_upd (a1 : ℕ) (s : State) :
    Upd 0x4000000000000000000000000000000000000000000000000000000000000000000000000000000000000000000000000000000000000000000000100000000000000000000000000000000 s (State.frameDec a1 s) := by
  unfold State.frameDec
  extract_lets +onlyGivenNames -underBinder -merge -useContext x1
  try clear_value x1
  extract_lets +onlyGivenNames -underBinder -merge -useContext x2
  refine Upd.cut (t := x2) ?_ (fun h2 => ?_)
  · unfold x2
    refine Upd.step ?_ (State.modSc_upd ..) rfl
    exact Upd.refl _ _
  clear_value x2
  refine Upd.when ?_ (fun x3 h3 => ?_)
  · exact h2
  · refine Upd.setFlag ?_ rfl
    exact h3

theorem State.oofDeclare_upd (a1 : ℕ) (s : State) :
    Upd 0x4000000000000000000000000000000000000000000000000000000000000000000000000000000000000000000000000000000000000000098000100000000000000000000000000000000 s (State.oofDeclare a1 s) := by
  unfold State.oofDeclare
  extract_lets +onlyGivenNames -underBinder -merge -useContext x1
  try clear_value x1
  refine Upd.step ?_ (State.fstate_upd ..) rfl
  refine Upd.setFld ?_ rfl
  refine Upd.step ?_ (State.modSc_upd ..) rfl
  refine Upd.raise ?_ rfl
  refine Upd.bump ?_ rfl
  refine Upd.step ?_ (State.leaveFrame_upd ..) rfl
  exact Upd.refl _ _

theorem State.frameRx_upd (a1 : ℕ) (a2 : ℕ) (a3 : Option Header) (a4 : Option Overhead) (s : State) :
    Upd 0x20000000025e40e00000000000000000000000000001b805000000000000000000000000000000000000080000000400100066000008002113000055499000098000109088200040000000000000000000000 s (State.frameRx a1 a2 a3 a4 s) := by
  unfold State.frameRx
  extract_lets +onlyGivenNames -underBinder -merge -useContext x1
  try clear_value x1
  extract_lets +onlyGivenNames -underBinder -merge -useContext x2
  try clear_value x2
  extract_lets +onlyGivenNames -underBinder -merge -useContext x3
  refine Upd.cut (t := x3) ?_ (fun h3 => ?_)
  · unfold x3
    refine Upd.step ?_ (State.scidRun_upd ..) rfl
    exact Upd.refl _ _
  clear_value x3
  extract_lets +onlyGivenNames -underBinder -merge -useContext x4
  try clear_value x4
  extract_lets +onlyGivenNames -underBinder -merge -useContext x5
  refine Upd.cut (t := x5) ?_ (fun h5 => ?_)
  · unfold x5
    refine Upd.ite ?_ ?_
    · refine Upd.step ?_ (State.hdrIm_upd ..) rfl
      exact h3
    · refine Upd.step ?_ (State.hdrIf_upd ..) rfl
      exact h3
  clear_value x5
  extract_lets +onlyGivenNames -underBinder -merge -useContext x6
  refine Upd.cut (t := x6) ?_ (fun h6 => ?_)
  · unfold x6
    refine Upd.ite ?_ ?_
    · refine Upd.step ?_ (State.ovhFrame_upd ..) rfl
      exact h5
    · refine Upd.step ?_ (State.jcFrame_upd ..) rfl
      exact h5
  clear_value x6
  extract_lets +onlyGivenNames -underBinder -merge -useContext x7
  refine Upd.cut (t := x7) ?_ (fun h7 => ?_)
  · unfold x7
    refine Upd.step ?_ (State.frameDec_upd ..) rfl
    exact h6
  clear_value x7
  extract_lets +onlyGivenNames -underBinder -merge -useContext x8
  try clear_value x8
  extract_lets +onlyGivenNames -underBinder -merge -useContext x9
  refine Upd.cut (t := x9) ?_ (fun h9 => ?_)
  · unfold x9
    refine Upd.step ?_ (State.modSc_upd ..) rfl
    exact h7
  clear_value x9
  refine Upd.step ?_ (State.lineEval_upd ..) rfl
  refine Upd.when ?_ (fun x10 h10 => ?_)
  · exact h9
  · refine Upd.step ?_ (State.oofDeclare_upd ..) rfl
    exact h10

theorem State.oifFrame_upd (a1 : ℕ) (a2 : ℕ) (s : State) :
    Upd 0x20000000005e40e00000000000000000000000000001b805000000000000000000000000000000000000080000000400100066000008002113000055008000018000109088200000000000000000000000000 s (State.oifFrame a1 a2 s) := by
  unfold State.oifFrame
  extract_lets +onlyGivenNames -underBinder -merge -useContext x1
  try clear_value x1
  extract_lets +onlyGivenNames -underBinder -merge -useContext x2
  refine Upd.cut (t := x2) ?_ (fun h2 => ?_)
  · unfold x2
    refine Upd.step ?_ (State.modCar_upd ..) rfl
    exact Upd.refl _ _
  clear_value x2
  refine Upd.step ?_ (State.lineEval_upd ..) rfl
  refine Upd.ite ?_ ?_
  · refine Upd.step ?_ (State.modSc_upd ..) rfl
    exact h2
  · refine Upd.step ?_ (State.decStop_upd ..) rfl
    exact h2

theorem execFrameRx_upd (a1 : ℕ) (a2 : ℕ) (a3 : Option Header) (a4 : Option Overhead) (s : State) :
    ∃ t, execFrameRx a1 a2 a3 a4 s = .next t ∧ Upd 0x20000000025e40e00000000000000000000000000001b805000000000000000000000000000000000000080000000400100066000008002113000055499000098000109088200040000000000000000000000 s t := by
  unfold execFrameRx
  refine ⟨_, rfl, ?_⟩
  refine Upd.ite ?_ ?_
  · refine Upd.ite ?_ ?_
    · refine Upd.step ?_ (State.oifFrame_upd ..) rfl
      exact Upd.refl _ _
    · exact Upd.refl _ _
  · refine Upd.ite ?_ ?_
    · refine Upd.step ?_ (State.frameRx_upd ..) rfl
      exact Upd.refl _ _
    · exact Upd.refl _ _

theorem execLofSet_upd (a1 : ℕ) (s : State) :
    ∃ t, execLofSet a1 s = .next t ∧ Upd 0x20000000005e40e00000000000000000000000000001b805000000000000000000000000000000000000080000000400100066000008002113000055008000018000109088200000000000000000000000000 s t := by
  unfold execLofSet
  refine ⟨_, rfl, ?_⟩
  refine Upd.ite ?_ ?_
  · refine Upd.step ?_ (State.lineEval_upd ..) rfl
    refine Upd.raise ?_ rfl
    refine Upd.setFlag ?_ rfl
    exact Upd.refl _ _
  · exact Upd.refl _ _

theorem execLofClr_upd (a1 : ℕ) (s : State) :
    ∃ t, execLofClr a1 s = .next t ∧ Upd 0x20000000005e40e00000000000000000000000000001b805000000000000000000000000000000000000080000000400100066000008002113000055008000018000109088200000000000000000000000000 s t := by
  unfold execLofClr
  refine ⟨_, rfl, ?_⟩
  refine Upd.ite ?_ ?_
  · refine Upd.step ?_ (State.lineEval_upd ..) rfl
    refine Upd.raise ?_ rfl
    refine Upd.setFlag ?_ rfl
    exact Upd.refl _ _
  · exact Upd.refl _ _

theorem State.mccOut_upd (a1 : ℕ) (a2 : ℕ) (s : State) :
    Upd 0x100000000000000000000000000000000000000000000000000000000000000000000000000000000000000000000000000000000000000000000000000000000000000000000000000000000000 s (State.mccOut a1 a2 s).2 := by
  unfold State.mccOut
  refine Upd.iteSnd ?_ ?_
  · refine Upd.pair ?_
    exact Upd.refl _ _
  · extract_lets +onlyGivenNames -underBinder -merge -useContext x1
    try clear_value x1
    refine Upd.pair ?_
    refine Upd.set_mccTx ?_ rfl
    exact Upd.refl _ _

theorem State.framesOut_upd (a1 : ℕ) (a2 : ℕ) (s : State) : Upd 0x100000000000000000000000000000000000000000000000000000000000000000000000000000000000000000000000000000000000000000000000000000000000000000000000000000000000 s (State.framesOut a1 a2 s).2 := by
  induction a2 generalizing a1 s with
  | zero => exact Upd.refl _ _
  | succ n ih =>
    unfold State.framesOut
    repeat' first
      | with_reducible assumption
      | with_reducible exact Upd.refl _ _
      | with_reducible refine Upd.step ?_ (ih ..) ?_
      | (show Nat.land _ _ = _; rfl)
      | (show Nat.testBit _ _ = true; rfl)
      | (extract_lets +onlyGivenNames x; refine Upd.cut (t := x) ?_ (fun hx => ?_); (on_goal 2 => clear_value x); unfold x; clear x)
      | (extract_lets +onlyGivenNames x; clear_value x)
      | with_reducible apply Upd.ite
      | with_reducible refine Upd.step ?_ (State.mccOut_upd ..) ?_
      | split

theorem State.frameTx_upd (a1 : ℕ) (s : State) : Upd 0x24000000011a4620000000000000000000180000a281b80500000000000120020000000000000000000000000000000010006600000800211300004000800000000000000008ce00000000000000000000000 s (State.frameTx a1 s) := by
  unfold State.frameTx
  repeat' first
    | with_reducible assumption
    | with_reducible exact Upd.refl _ _
    | (show Nat.land _ _ = _; rfl)
    | (show Nat.testBit _ _ = true; rfl)
    | (extract_lets +onlyGivenNames x; refine Upd.cut (t := x) ?_ (fun hx => ?_); (on_goal 2 => clear_value x); unfold x; clear x)
    | (extract_lets +onlyGivenNames x; clear_value x)
    | with_reducible apply Upd.ite
    | with_reducible refine Upd.when ?_ (fun x hx => ?_)
    | with_reducible refine Upd.setFlag ?_ ?_
    | with_reducible refine Upd.setFld ?_ ?_
    | with_reducible refine Upd.step ?_ (State.modCar_upd ..) ?_
    | with_reducible refine Upd.step ?_ (State.framesOut_upd ..) ?_
    | with_reducible refine Upd.step ?_ (State.pccPend_upd ..) ?_
    | with_reducible refine Upd.step ?_ (State.segInj_upd ..) ?_
    | split

theorem execFrameTx_upd (a1 : ℕ) (s : State) :
    ∃ t, execFrameTx a1 s = .next t ∧ Upd 0x24000000011a4620000000000000000000180000a281b80500000000000120020000000000000000000000000000000010006600000800211300004000800000000000000008ce00000000000000000000000 s t := by
  unfold execFrameTx
  refine ⟨_, rfl, ?_⟩
  refine Upd.ite ?_ ?_
  · refine Upd.step ?_ (State.frameTx_upd ..) rfl
    exact Upd.refl _ _
  · exact Upd.refl _ _

end Sys2Proof.Machine
end

