-- ==== Sys2Proof/Laws/FootMaps.lean ====
section
/-! SUPPORT. The footprints of the operations of Machine/Maps.lean: what each may change. -/

set_option linter.unreachableTactic false
set_option linter.unusedTactic false
set_option linter.unusedVariables false

namespace Sys2Proof.Machine

theorem State.commitCheck_upd (a1 : ℕ) (a2 : Bool) (a3 : List W32) (s : State) :
    Upd 0x4000000000000000000000000000000000000000000000000000000000000000000000000000000000000000000000000000000000002000000000000000000000000000000000000000000 s (State.commitCheck a1 a2 a3 s) := by
  unfold State.commitCheck
  refine Upd.ite ?_ ?_
  · refine Upd.setFlag ?_ (by first | rfl | (split <;> rfl) | (unfold enterEvt; split <;> rfl) | (unfold pendFld; split <;> rfl) | (rw [padFld_reg (by assumption)]; rfl) | (unfold phWord; rcases a2 with _ | _ | _ | _ | _ | a2 <;> rfl) | exact RegId.all_bit rfl _)
    refine Upd.step ?_ (State.modSc_upd ..) (by first | rfl | (split <;> rfl) | (unfold enterEvt; split <;> rfl) | (unfold pendFld; split <;> rfl) | (rw [padFld_reg (by assumption)]; rfl) | (unfold phWord; rcases a2 with _ | _ | _ | _ | _ | a2 <;> rfl) | exact RegId.all_bit rfl _)
    exact Upd.refl _ _
  · refine Upd.setFlag ?_ (by first | rfl | (split <;> rfl) | (unfold enterEvt; split <;> rfl) | (unfold pendFld; split <;> rfl) | (rw [padFld_reg (by assumption)]; rfl) | (unfold phWord; rcases a2 with _ | _ | _ | _ | _ | a2 <;> rfl) | exact RegId.all_bit rfl _)
    exact Upd.refl _ _

theorem State.commit_upd (a1 : ℕ) (a2 : Bool) (s : State) :
    Upd 0x4000000000000000000000000000000000000000000000000000000000000000000000000000000000000000000000000000000000002000000000000000000000000000000000000000000 s (State.commit a1 a2 s) := by
  unfold State.commit
  extract_lets +onlyGivenNames -underBinder -merge -useContext x1
  unfold x1
  beta_reduce
  clear x1
  extract_lets +onlyGivenNames -underBinder -merge -useContext x2
  try clear_value x2
  refine Upd.ite ?_ ?_
  · refine Upd.step ?_ (State.commitCheck_upd ..) (by first | rfl | (split <;> rfl) | (unfold enterEvt; split <;> rfl) | (unfold pendFld; split <;> rfl) | (rw [padFld_reg (by assumption)]; rfl) | (unfold phWord; rcases a2 with _ | _ | _ | _ | _ | a2 <;> rfl) | exact RegId.all_bit rfl _)
    exact Upd.refl _ _
  · refine Upd.setFlag ?_ (by first | rfl | (split <;> rfl) | (unfold enterEvt; split <;> rfl) | (unfold pendFld; split <;> rfl) | (rw [padFld_reg (by assumption)]; rfl) | (unfold phWord; rcases a2 with _ | _ | _ | _ | _ | a2 <;> rfl) | exact RegId.all_bit rfl _)
    refine Upd.step ?_ (State.modSc_upd ..) (by first | rfl | (split <;> rfl) | (unfold enterEvt; split <;> rfl) | (unfold pendFld; split <;> rfl) | (rw [padFld_reg (by assumption)]; rfl) | (unfold phWord; rcases a2 with _ | _ | _ | _ | _ | a2 <;> rfl) | exact RegId.all_bit rfl _)
    exact Upd.refl _ _

theorem State.mapCtrlWrite_upd (a1 : ℕ) (a2 : W32) (s : State) :
    Upd 0x4000000000000000000000000000000000000000000000000000000000000000000000000000000000000000000000000000000000002000000000000000000000000000000000000000000 s (State.mapCtrlWrite a1 a2 s) := by
  unfold State.mapCtrlWrite
  extract_lets +onlyGivenNames -underBinder -merge -useContext x1
  refine Upd.cut (t := x1) ?_ (fun h1 => ?_)
  · unfold x1
    refine Upd.when ?_ (fun x2 h2 => ?_)
    · exact Upd.refl _ _
    · refine Upd.step ?_ (State.commit_upd ..) rfl
      exact h2
  clear_value x1
  refine Upd.when ?_ (fun x3 h3 => ?_)
  · exact h1
  · refine Upd.step ?_ (State.commit_upd ..) rfl
    exact h3

theorem execCommitTx_upd (a1 : Master) (a2 : ℕ) (a3 : W32) (s : State) :
    ∃ t, execCommitTx a1 a2 a3 s = .next t ∧ Upd 0x20000000200007400000000000000000000060000081b805000000000000000000000000000000000000000000000000000000000000000000000000002000000000000000000000000000000000006203400 s t := by
  unfold execCommitTx
  refine ⟨_, rfl, ?_⟩
  refine Upd.guardW ?_ (fun x1 h1 => ?_) rfl
  · exact Upd.refl _ _
  · refine Upd.step ?_ (State.mapCtrlWrite_upd ..) rfl
    exact h1

theorem execCommitRx_upd (a1 : Master) (a2 : ℕ) (a3 : W32) (s : State) :
    ∃ t, execCommitRx a1 a2 a3 s = .next t ∧ Upd 0x20000000200007400000000000000000000060000081b805000000000000000000000000000000000000000000000000000000000000000000000000002000000000000000000000000000000000006203400 s t := by
  unfold execCommitRx
  refine ⟨_, rfl, ?_⟩
  refine Upd.guardW ?_ (fun x1 h1 => ?_) rfl
  · exact Upd.refl _ _
  · refine Upd.step ?_ (State.mapCtrlWrite_upd ..) rfl
    exact h1

theorem State.pendEnd_upd (a1 : ℕ) (a2 : Bool) (a3 : List W32) (s : State) :
    Upd 0x4000000000000000000000000000000000000000000000000000000000000000000000000000000000000000000000000000000000002000000000000000000000000000000000000000000 s (State.pendEnd a1 a2 a3 s) := by
  unfold State.pendEnd
  refine Upd.step ?_ (State.commitCheck_upd ..) (by first | rfl | (split <;> rfl) | (unfold enterEvt; split <;> rfl) | (unfold pendFld; split <;> rfl) | (rw [padFld_reg (by assumption)]; rfl) | (unfold phWord; rcases a2 with _ | _ | _ | _ | _ | a2 <;> rfl) | exact RegId.all_bit rfl _)
  refine Upd.setFlag ?_ (by first | rfl | (split <;> rfl) | (unfold enterEvt; split <;> rfl) | (unfold pendFld; split <;> rfl) | (rw [padFld_reg (by assumption)]; rfl) | (unfold phWord; rcases a2 with _ | _ | _ | _ | _ | a2 <;> rfl) | exact RegId.all_bit rfl _)
  refine Upd.step ?_ (State.modSc_upd ..) (by first | rfl | (split <;> rfl) | (unfold enterEvt; split <;> rfl) | (unfold pendFld; split <;> rfl) | (rw [padFld_reg (by assumption)]; rfl) | (unfold phWord; rcases a2 with _ | _ | _ | _ | _ | a2 <;> rfl) | exact RegId.all_bit rfl _)
  exact Upd.refl _ _

theorem execPendingCommit_upd (a1 : ℕ) (a2 : Bool) (s : State) :
    ∃ t, execPendingCommit a1 a2 s = .next t ∧ Upd 0x4000000000000000000000000000000000000000000000000000000000000000000000000000000000000000000000000000000000002000000000000000000000000000000000000000000 s t := by
  unfold execPendingCommit
  refine ⟨_, rfl, ?_⟩
  split
  · refine Upd.ite ?_ ?_
    · refine Upd.step ?_ (State.pendEnd_upd ..) rfl
      exact Upd.refl _ _
    · exact Upd.refl _ _
  · exact Upd.refl _ _

theorem State.mapInForce_upd (a1 : ℕ) (a2 : Bool) (a3 : List W32) (s : State) :
    Upd 0x20000000005e00c00000000000000000000000000001b805000000000000000000000000000000000000080000000400100066000008002113000055000000010000000000000000000000000000000000000 s (State.mapInForce a1 a2 a3 s) := by
  unfold State.mapInForce
  extract_lets +onlyGivenNames -underBinder -merge -useContext x1
  try clear_value x1
  extract_lets +onlyGivenNames -underBinder -merge -useContext x2
  refine Upd.cut (t := x2) ?_ (fun h2 => ?_)
  · unfold x2
    refine Upd.step ?_ (State.modSc_upd ..) rfl
    exact Upd.refl _ _
  clear_value x2
  extract_lets +onlyGivenNames -underBinder -merge -useContext x3
  refine Upd.cut (t := x3) ?_ (fun h3 => ?_)
  · unfold x3
    refine Upd.when ?_ (fun x4 h4 => ?_)
    · exact h2
    · refine Upd.step ?_ (State.msimEval_upd ..) rfl
      exact h4
  clear_value x3
  extract_lets +onlyGivenNames -underBinder -merge -useContext x5
  refine Upd.cut (t := x5) ?_ (fun h5 => ?_)
  · unfold x5
    refine Upd.each ?_ (fun n6 x6 h6 => ?_) _
    · exact h3
    · split
      · refine Upd.ite ?_ ?_
        · exact h6
        · refine Upd.step ?_ (State.grpLeave_upd ..) rfl
          exact h6
      · exact h6
  clear_value x5
  refine Upd.step ?_ (State.grpsEval_upd ..) rfl
  exact h5

theorem execSlotMapInForce_upd (a1 : ℕ) (a2 : Bool) (s : State) :
    ∃ t, execSlotMapInForce a1 a2 s = .next t ∧ Upd 0x20000000005e00c00000000000000000000000000001b805000000000000000000000000000000000000080000000400100066000008002113000055000000010000000000000000000000000000000000000 s t := by
  unfold execSlotMapInForce
  refine ⟨_, rfl, ?_⟩
  split
  · refine Upd.ite ?_ ?_
    · refine Upd.step ?_ (State.mapInForce_upd ..) rfl
      exact Upd.refl _ _
    · exact Upd.refl _ _
  · exact Upd.refl _ _

theorem State.scCfgWrite_upd (a1 : ℕ) (a2 : W32) (s : State) :
    Upd 0x3c0040000000000000000000000000000000000000 s (State.scCfgWrite a1 a2 s) := by
  unfold State.scCfgWrite
  extract_lets +onlyGivenNames -underBinder -merge -useContext x1
  refine Upd.cut (t := x1) ?_ (fun h1 => ?_)
  · unfold x1
    refine Upd.plainWrite ?_ rfl
    exact Upd.refl _ _
  clear_value x1
  refine Upd.when ?_ (fun x2 h2 => ?_)
  · exact h1
  · refine Upd.wr ?_ rfl
    refine Upd.wr ?_ rfl
    refine Upd.wr ?_ rfl
    refine Upd.wr ?_ rfl
    exact h2

theorem execLfmTotClr_upd (a1 : Master) (a2 : ℕ) (a3 : W32) (s : State) :
    ∃ t, execLfmTotClr a1 a2 a3 s = .next t ∧ Upd 0x20000000200007000000000000000000000060000081b8050000000000000000000000000000000000000000000000000000000000000000000000000003c0040000000000000000000000000000006203400 s t := by
  unfold execLfmTotClr
  refine ⟨_, rfl, ?_⟩
  refine Upd.guardW ?_ (fun x1 h1 => ?_) rfl
  · exact Upd.refl _ _
  · refine Upd.step ?_ (State.scCfgWrite_upd ..) rfl
    exact h1

theorem Upd.bumpIf {w : Nat} {s t : State} {b : Bool} {id : RegId} {i j : Nat} (h : Upd w s t)
    (hl : w.testBit id.ctorIdx = true) (hw : Nat.land 0x0 w = 0x0) :
    Upd w s (t.bumpIf b ⟨id, i, j⟩) := by
  unfold State.bumpIf
  repeat' first
    | with_reducible assumption
    | with_reducible exact Upd.refl _ _
    | (show Nat.testBit _ _ = true; with_reducible assumption)
    | (show Nat.land _ _ = _; exact land_trans (b := 0x0) rfl hw)
    | (show Nat.testBit _ _ = true; exact testBit_up (a := 0x0) hw rfl)
    | (extract_lets +onlyGivenNames x; refine Upd.cut (t := x) ?_ (fun hx => ?_); (on_goal 2 => clear_value x); unfold x; clear x)
    | (extract_lets +onlyGivenNames x; clear_value x)
    | with_reducible apply Upd.ite
    | with_reducible refine Upd.bump ?_ ?_
    | split

theorem State.pmSc_upd (a1 : ℕ) (s : State) :
    Upd 0x40000000000000000000000000000000000000000000000000000000000000000000000000000000000000000000000000000000000003ffc00000000000000000000000000000000000000 s (State.pmSc a1 s) := by
  unfold State.pmSc
  extract_lets +onlyGivenNames -underBinder -merge -useContext x1
  try clear_value x1
  extract_lets +onlyGivenNames -underBinder -merge -useContext x2
  try clear_value x2
  extract_lets +onlyGivenNames -underBinder -merge -useContext x3
  try clear_value x3
  extract_lets +onlyGivenNames -underBinder -merge -useContext x4
  try clear_value x4
  extract_lets +onlyGivenNames -underBinder -merge -useContext x5
  try clear_value x5
  extract_lets +onlyGivenNames -underBinder -merge -useContext x6
  try clear_value x6
  extract_lets +onlyGivenNames -underBinder -merge -useContext x7
  try clear_value x7
  extract_lets +onlyGivenNames -underBinder -merge -useContext x8
  try clear_value x8
  extract_lets +onlyGivenNames -underBinder -merge -useContext x9
  try clear_value x9
  extract_lets +onlyGivenNames -underBinder -merge -useContext x10
  try clear_value x10
  extract_lets +onlyGivenNames -underBinder -merge -useContext x11
  try clear_value x11
  extract_lets +onlyGivenNames -underBinder -merge -useContext x12
  refine Upd.cut (t := x12) ?_ (fun h12 => ?_)
  · unfold x12
    refine Upd.wrN ?_ rfl
    refine Upd.wrN ?_ rfl
    refine Upd.wr64 ?_ rfl rfl
    refine Upd.wrN ?_ rfl
    refine Upd.wr64 ?_ rfl rfl
    refine Upd.wrN ?_ rfl
    exact Upd.refl _ _
  clear_value x12
  extract_lets +onlyGivenNames -underBinder -merge -useContext x13
  refine Upd.cut (t := x13) ?_ (fun h13 => ?_)
  · unfold x13
    refine Upd.bumpIf ?_ rfl rfl
    refine Upd.bumpIf ?_ rfl rfl
    refine Upd.bumpIf ?_ rfl rfl
    refine Upd.bumpIf ?_ rfl rfl
    exact h12
  clear_value x13
  extract_lets +onlyGivenNames -underBinder -merge -useContext x14
  try clear_value x14
  refine Upd.step ?_ (State.modSc_upd ..) rfl
  exact h13

theorem execPmLatch_upd (s : State) :
    ∃ t, execPmLatch s = .next t ∧ Upd 0x40000000000000000000000000000000000000000000000000000000000000000000000000000000000000000000000000000000000003ffc00000000000000000000000000000000000000 s t := by
  unfold execPmLatch
  refine ⟨_, rfl, ?_⟩
  refine Upd.ite ?_ ?_
  · refine Upd.upto ?_ (fun n1 x1 h1 => ?_) _
    · exact Upd.refl _ _
    · refine Upd.ite ?_ ?_
      · refine Upd.step ?_ (State.pmSc_upd ..) rfl
        exact h1
      · exact h1
  · exact Upd.refl _ _

end Sys2Proof.Machine
end

