-- ==== Sys2Proof/Laws/FootRx.lean ====
section
/-! SUPPORT. The footprints of the operations of Machine/Rx.lean: what each may change. -/

set_option linter.unreachableTactic false
set_option linter.unusedTactic false
set_option linter.unusedVariables false

namespace Sys2Proof.Machine

theorem State.scsIdle_upd (a1 : ℕ) (s : State) :
    Upd 0x404000000000000000000000000000000000000000000000000000000000000000000000000000000000000000000000000000000000000000000000109000200000000000000000000000000 s (State.scsIdle a1 s) := by
  unfold State.scsIdle
  refine Upd.each ?_ (fun n1 x1 h1 => ?_) _
  · exact Upd.refl _ _
  · refine Upd.ite ?_ ?_
    · exact h1
    · refine Upd.step ?_ (State.scTo_upd ..) rfl
      exact h1

theorem State.cdClear_upd (a1 : ℕ) (s : State) :
    Upd 0x1000040000000000000000000000 s (State.cdClear a1 s) := by
  unfold State.cdClear
  refine Upd.setFlag ?_ rfl
  refine Upd.setFlag ?_ rfl
  refine Upd.setFlag ?_ rfl
  exact Upd.refl _ _

theorem State.expOut_upd (a1 : ℕ) (s : State) :
    Upd 0x404000000000000000000000000000000000000000000000000000000000000000000000000000000000000000000000000000000000000000000000109000200000000000000000000000000 s (State.expOut a1 s) := by
  unfold State.expOut
  refine Upd.each ?_ (fun n1 x1 h1 => ?_) _
  · exact Upd.refl _ _
  · refine Upd.ite ?_ ?_
    · refine Upd.step ?_ (State.scTo_upd ..) rfl
      exact h1
    · exact h1

theorem State.expBack_upd (a1 : ℕ) (s : State) :
    Upd 0x404000000000000000000000000000000000000000000000000000000000000000000000000000000000000000000000000000000000000000000000109001200000000000000000000000000 s (State.expBack a1 s) := by
  unfold State.expBack
  extract_lets +onlyGivenNames -underBinder -merge -useContext x1
  refine Upd.cut (t := x1) ?_ (fun h1 => ?_)
  · unfold x1
    refine Upd.when ?_ (fun x2 h2 => ?_)
    · exact Upd.refl _ _
    · refine Upd.setFld ?_ rfl
      exact h2
  clear_value x1
  refine Upd.each ?_ (fun n3 x3 h3 => ?_) _
  · exact h1
  · refine Upd.ite ?_ ?_
    · refine Upd.step ?_ (State.scTo_upd ..) rfl
      exact h3
    · exact h3

theorem State.cdNew_upd (a1 : ℕ) (a2 : ℤ) (s : State) :
    Upd 0x4040000000000000000000000000000000000000000000000000000000000000000000000000000000000000000000000000000000000000000000001090012000c0000000000000000000000 s (State.cdNew a1 a2 s) := by
  unfold State.cdNew
  extract_lets +onlyGivenNames -underBinder -merge -useContext x1
  refine Upd.cut (t := x1) ?_ (fun h1 => ?_)
  · unfold x1
    refine Upd.setFld ?_ rfl
    exact Upd.refl _ _
  clear_value x1
  refine Upd.ite ?_ ?_
  · exact h1
  · refine Upd.ite ?_ ?_
    · refine Upd.step ?_ (State.expOut_upd ..) rfl
      refine Upd.when ?_ (fun x2 h2 => ?_)
      · exact h1
      · refine Upd.raise ?_ rfl
        refine Upd.setFlag ?_ rfl
        exact h2
    · refine Upd.ite ?_ ?_
      · refine Upd.step ?_ (State.expBack_upd ..) rfl
        refine Upd.setFlag ?_ rfl
        exact h1
      · exact h1

theorem State.rxTo_upd (a1 : ℕ) (a2 : ℕ) (s : State) :
    Upd 0x402000000000000000000000000000000000000000000000000000000000000000000000000000000000000000000000000000000000000000000000000000200000000000000000000000000 s (State.rxTo a1 a2 s) := by
  unfold State.rxTo
  refine Upd.ite ?_ ?_
  · exact Upd.refl _ _
  · refine Upd.step ?_ (State.pccPend_upd ..) rfl
    refine Upd.step ?_ (State.modCar_upd ..) rfl
    refine Upd.setFld ?_ rfl
    exact Upd.refl _ _

theorem State.rmsNew_upd (a1 : ℕ) (a2 : ℕ) (s : State) :
    Upd 0x2000000000000000000000000000000000000000000000000000000000000000000000000000000000000000000000000000000000000000000000000000800000000000000000000000000 s (State.rmsNew a1 a2 s) := by
  unfold State.rmsNew
  refine Upd.step ?_ (State.modCar_upd ..) rfl
  refine Upd.setFld ?_ rfl
  exact Upd.refl _ _

theorem State.locksClear_upd (a1 : ℕ) (s : State) :
    Upd 0x3200040000000000000000000000 s (State.locksClear a1 s) := by
  unfold State.locksClear
  refine Upd.step ?_ (State.cdClear_upd ..) rfl
  refine Upd.setFlag ?_ rfl
  refine Upd.setFlag ?_ rfl
  refine Upd.setFlag ?_ rfl
  exact Upd.refl _ _

theorem State.storeEval_upd (a1 : ℕ) (s : State) :
    Upd 0x200000000000000000000000000 s (State.storeEval a1 s) := by
  unfold State.storeEval
  refine Upd.setFlag ?_ rfl
  exact Upd.refl _ _

theorem State.keepSnap_upd (a1 : ℕ) (s : State) :
    Upd 0x2000000000000000000000000000000000000000000000000000000000000000000000000000000000000000000000000000000000000000000000000000200000000000000000000000000 s (State.keepSnap a1 s) := by
  unfold State.keepSnap
  refine Upd.ite ?_ ?_
  · refine Upd.step ?_ (State.storeEval_upd ..) rfl
    refine Upd.step ?_ (State.modCar_upd ..) rfl
    exact Upd.refl _ _
  · refine Upd.step ?_ (State.storeEval_upd ..) rfl
    refine Upd.step ?_ (State.modCar_upd ..) rfl
    exact Upd.refl _ _

theorem State.coldStart_upd (a1 : ℕ) (s : State) :
    Upd 0x406000000000000000000000000000000000000000000000000000000000000000000000000000000000000000000000000000000000000000000000109103200040000000000000000000000 s (State.coldStart a1 s) := by
  unfold State.coldStart
  refine Upd.step ?_ (State.modCar_upd ..) rfl
  refine Upd.step ?_ (State.scsIdle_upd ..) rfl
  refine Upd.bump ?_ rfl
  refine Upd.setFld ?_ rfl
  refine Upd.setFlag ?_ rfl
  refine Upd.setFld ?_ rfl
  refine Upd.step ?_ (State.rxTo_upd ..) rfl
  refine Upd.step ?_ (State.locksClear_upd ..) rfl
  exact Upd.refl _ _

theorem State.coldTrigger_upd (a1 : ℕ) (s : State) :
    Upd 0x406000000000000000000000000000000000000000000000000000000000000000000000000000000000000000000000000000000000000000000000109103200040000000000000000000000 s (State.coldTrigger a1 s) := by
  unfold State.coldTrigger
  extract_lets +onlyGivenNames -underBinder -merge -useContext x1
  try clear_value x1
  refine Upd.ite ?_ ?_
  · exact Upd.refl _ _
  · refine Upd.step ?_ (State.coldStart_upd ..) rfl
    exact Upd.refl _ _

theorem State.warmStart_upd (a1 : ℕ) (s : State) :
    Upd 0x406000000000000000000000000000000000000000000000000000000000000000000000000000000000000000000000000000000000000000000000109103200040000000000000000000000 s (State.warmStart a1 s) := by
  unfold State.warmStart
  refine Upd.ite ?_ ?_
  · refine Upd.step ?_ (State.modCar_upd ..) rfl
    refine Upd.step ?_ (State.scsIdle_upd ..) rfl
    refine Upd.setFlag ?_ rfl
    refine Upd.setFld ?_ rfl
    refine Upd.step ?_ (State.rxTo_upd ..) rfl
    refine Upd.step ?_ (State.locksClear_upd ..) rfl
    exact Upd.refl _ _
  · refine Upd.step ?_ (State.coldStart_upd ..) rfl
    exact Upd.refl _ _

theorem State.warmTrigger_upd (a1 : ℕ) (s : State) :
    Upd 0x406000000000000000000000000000000000000000000000000000000000000000000000000000000000000000000000000000000000000000000000109103200040000000000000000000000 s (State.warmTrigger a1 s) := by
  unfold State.warmTrigger
  refine Upd.step ?_ (State.warmStart_upd ..) rfl
  refine Upd.step ?_ (State.keepSnap_upd ..) rfl
  exact Upd.refl _ _

theorem State.rxDown_upd (a1 : ℕ) (a2 : ℕ) (s : State) :
    Upd 0x406000000000000000000000000000000000000000000000000000000000000000000000000000000000000000000000000000000000000000000000109003200040000000000000000000000 s (State.rxDown a1 a2 s) := by
  unfold State.rxDown
  refine Upd.step ?_ (State.modCar_upd ..) rfl
  refine Upd.step ?_ (State.scsIdle_upd ..) rfl
  refine Upd.setFlag ?_ rfl
  refine Upd.setFld ?_ rfl
  refine Upd.step ?_ (State.rxTo_upd ..) rfl
  refine Upd.step ?_ (State.locksClear_upd ..) rfl
  exact Upd.refl _ _

theorem State.losEnter_upd (a1 : ℕ) (s : State) :
    Upd 0x40600000000000000000000000000000000000000000000000000000000000000000000000000000000000000000000000000000000000000000000010904b200040000000000000000000000 s (State.losEnter a1 s) := by
  unfold State.losEnter
  refine Upd.bump ?_ rfl
  refine Upd.raise ?_ rfl
  refine Upd.step ?_ (State.rxDown_upd ..) rfl
  refine Upd.step ?_ (State.keepSnap_upd ..) rfl
  exact Upd.refl _ _

theorem State.rxOff_upd (a1 : ℕ) (s : State) :
    Upd 0x406000000000000000000000000000000000000000000000000000000000000000000000000000000000000000000000000000000000000000000000109007200040000000000000000000000 s (State.rxOff a1 s) := by
  unfold State.rxOff
  extract_lets +onlyGivenNames -underBinder -merge -useContext x1
  refine Upd.cut (t := x1) ?_ (fun h1 => ?_)
  · unfold x1
    refine Upd.step ?_ (State.modCar_upd ..) rfl
    refine Upd.step ?_ (State.rxDown_upd ..) rfl
    exact Upd.refl _ _
  clear_value x1
  refine Upd.wr ?_ rfl
  refine Upd.step ?_ (State.storeEval_upd ..) rfl
  refine Upd.each ?_ (fun n2 x2 h2 => ?_) _
  · exact h1
  · refine Upd.step ?_ (State.scTo_upd ..) rfl
    exact h2

theorem State.rxEval_upd (a1 : ℕ) (s : State) :
    Upd 0x20000000005e40e00000000000000000000000000001b8050000000000000000000000000000000000000800000004001000660000080021130000550080000180001091cf200040000000000000000000000 s (State.rxEval a1 s) := by
  unfold State.rxEval
  refine Upd.ite ?_ ?_
  · extract_lets +onlyGivenNames -underBinder -merge -useContext x1
    refine Upd.cut (t := x1) ?_ (fun h1 => ?_)
    · unfold x1
      refine Upd.setFlag ?_ rfl
      exact Upd.refl _ _
    clear_value x1
    extract_lets +onlyGivenNames -underBinder -merge -useContext x2
    try clear_value x2
    refine Upd.ite ?_ ?_
    · refine Upd.ite ?_ ?_
      · exact h1
      · refine Upd.step ?_ (State.lineEval_upd ..) rfl
        refine Upd.step ?_ (State.rxOff_upd ..) rfl
        exact h1
    · refine Upd.ite ?_ ?_
      · refine Upd.step ?_ (State.lineEval_upd ..) rfl
        refine Upd.ite ?_ ?_
        · refine Upd.step ?_ (State.losEnter_upd ..) rfl
          exact h1
        · refine Upd.step ?_ (State.coldStart_upd ..) rfl
          exact h1
      · exact h1
  · exact Upd.refl _ _

theorem State.acqAgain_upd (a1 : ℕ) (s : State) :
    Upd 0x40600000000000000000000000000000000000000000000000000000000000000000000000000000000000000000000000000000000000000000000010910b200040000000000000000000000 s (State.acqAgain a1 s) := by
  unfold State.acqAgain
  refine Upd.step ?_ (State.coldStart_upd ..) rfl
  refine Upd.raise ?_ rfl
  exact Upd.refl _ _

theorem State.fallBack_upd (a1 : ℕ) (s : State) :
    Upd 0x406000000000000000000000000000000000000000000000000000000000000000000000000000000000000000000000000000000000000000000000000108200000000000000000000000000 s (State.fallBack a1 s) := by
  unfold State.fallBack
  extract_lets +onlyGivenNames -underBinder -merge -useContext x1
  try clear_value x1
  extract_lets +onlyGivenNames -underBinder -merge -useContext x2
  refine Upd.cut (t := x2) ?_ (fun h2 => ?_)
  · unfold x2
    refine Upd.step ?_ (State.modCar_upd ..) rfl
    refine Upd.step ?_ (State.rxTo_upd ..) rfl
    refine Upd.bump ?_ rfl
    refine Upd.raise ?_ rfl
    exact Upd.refl _ _
  clear_value x2
  refine Upd.when ?_ (fun x3 h3 => ?_)
  · exact h2
  · refine Upd.each ?_ (fun n4 x4 h4 => ?_) _
    · exact h3
    · refine Upd.step ?_ (State.modSc_upd ..) rfl
      exact h4

theorem State.stepDone_upd (a1 : ℕ) (a2 : ℕ) (s : State) :
    Upd 0x200000000000000000000000000 s (State.stepDone a1 a2 s) := by
  unfold State.stepDone
  refine Upd.setFld ?_ rfl
  exact Upd.refl _ _

theorem State.fofsFound_upd (a1 : ℕ) (a2 : ℤ) (s : State) :
    Upd 0x2200000000000000000000000000 s (State.fofsFound a1 a2 s) := by
  unfold State.fofsFound
  refine Upd.step ?_ (State.stepDone_upd ..) rfl
  refine Upd.setFld ?_ rfl
  refine Upd.setFlag ?_ rfl
  refine Upd.setFlag ?_ rfl
  exact Upd.refl _ _

theorem State.cdFound_upd (a1 : ℕ) (a2 : ℤ) (s : State) :
    Upd 0x4040000000000000000000000000000000000000000000000000000000000000000000000000000000000000000000000000000000000000000000001090012000c0000000000000000000000 s (State.cdFound a1 a2 s) := by
  unfold State.cdFound
  extract_lets +onlyGivenNames -underBinder -merge -useContext x1
  try clear_value x1
  extract_lets +onlyGivenNames -underBinder -merge -useContext x2
  try clear_value x2
  extract_lets +onlyGivenNames -underBinder -merge -useContext x3
  refine Upd.cut (t := x3) ?_ (fun h3 => ?_)
  · unfold x3
    refine Upd.setFlag ?_ rfl
    exact Upd.refl _ _
  clear_value x3
  extract_lets +onlyGivenNames -underBinder -merge -useContext x4
  refine Upd.cut (t := x4) ?_ (fun h4 => ?_)
  · unfold x4
    refine Upd.setFld ?_ rfl
    exact h3
  clear_value x4
  refine Upd.step ?_ (State.stepDone_upd ..) rfl
  refine Upd.step ?_ (State.cdNew_upd ..) rfl
  exact h4

theorem State.clkFound_upd (a1 : ℕ) (a2 : ℤ) (s : State) :
    Upd 0x4000000000000000000000000000000000000000000000000000000000000000000000000000000000000000000000000000000000000000000000000004200000000000000000000000000 s (State.clkFound a1 a2 s) := by
  unfold State.clkFound
  extract_lets +onlyGivenNames -underBinder -merge -useContext x1
  try clear_value x1
  extract_lets +onlyGivenNames -underBinder -merge -useContext x2
  refine Upd.cut (t := x2) ?_ (fun h2 => ?_)
  · unfold x2
    refine Upd.step ?_ (State.stepDone_upd ..) rfl
    refine Upd.wrN ?_ rfl
    refine Upd.setFlag ?_ rfl
    exact Upd.refl _ _
  clear_value x2
  refine Upd.each ?_ (fun n3 x3 h3 => ?_) _
  · exact h2
  · refine Upd.step ?_ (State.modSc_upd ..) rfl
    exact h3

theorem State.orientFound_upd (a1 : ℕ) (s : State) :
    Upd 0x8200000000000000000000000000 s (State.orientFound a1 s) := by
  unfold State.orientFound
  refine Upd.ite ?_ ?_
  · refine Upd.raise ?_ rfl
    refine Upd.setFlag ?_ rfl
    exact Upd.refl _ _
  · exact Upd.refl _ _

theorem State.coldStep_upd (a1 : ℕ) (a2 : AcqEnd) (s : State) :
    Upd 0x40600000000000000000000000000000000000000000000000000000000000000000000000000000000000000000000000000000000000000000000010914fa000c0000000000000000000000 s (State.coldStep a1 a2 s) := by
  unfold State.coldStep
  split
  · extract_lets +onlyGivenNames -underBinder -merge -useContext x1
    refine Upd.cut (t := x1) ?_ (fun h1 => ?_)
    · unfold x1
      refine Upd.step ?_ (State.rmsNew_upd ..) rfl
      exact Upd.refl _ _
    clear_value x1
    refine Upd.ite ?_ ?_
    · refine Upd.step ?_ (State.losEnter_upd ..) rfl
      exact h1
    · refine Upd.step ?_ (State.stepDone_upd ..) rfl
      refine Upd.setFlag ?_ rfl
      exact h1
  · refine Upd.step ?_ (State.losEnter_upd ..) rfl
    exact Upd.refl _ _
  · refine Upd.ite ?_ ?_
    · refine Upd.step ?_ (State.fofsFound_upd ..) rfl
      exact Upd.refl _ _
    · refine Upd.ite ?_ ?_
      · refine Upd.step ?_ (State.acqAgain_upd ..) rfl
        refine Upd.raise ?_ rfl
        exact Upd.refl _ _
      · exact Upd.refl _ _
  · refine Upd.step ?_ (State.acqAgain_upd ..) rfl
    refine Upd.raise ?_ rfl
    exact Upd.refl _ _
  · refine Upd.ite ?_ ?_
    · refine Upd.step ?_ (State.cdFound_upd ..) rfl
      exact Upd.refl _ _
    · refine Upd.ite ?_ ?_
      · refine Upd.step ?_ (State.acqAgain_upd ..) rfl
        refine Upd.raise ?_ rfl
        exact Upd.refl _ _
      · exact Upd.refl _ _
  · refine Upd.step ?_ (State.acqAgain_upd ..) rfl
    refine Upd.raise ?_ rfl
    exact Upd.refl _ _
  · refine Upd.ite ?_ ?_
    · refine Upd.step ?_ (State.clkFound_upd ..) rfl
      exact Upd.refl _ _
    · refine Upd.step ?_ (State.acqAgain_upd ..) rfl
      refine Upd.raise ?_ rfl
      exact Upd.refl _ _
  · refine Upd.step ?_ (State.acqAgain_upd ..) rfl
    refine Upd.raise ?_ rfl
    exact Upd.refl _ _
  · refine Upd.step ?_ (State.orientFound_upd ..) rfl
    exact Upd.refl _ _
  · exact Upd.refl _ _

theorem State.warmStep_upd (a1 : ℕ) (a2 : AcqEnd) (s : State) :
    Upd 0x40600000000000000000000000000000000000000000000000000000000000000000000000000000000000000000000000000000000000000000000010914fa000c0000000000000000000000 s (State.warmStep a1 a2 s) := by
  unfold State.warmStep
  split
  · exact Upd.refl _ _
  · extract_lets +onlyGivenNames -underBinder -merge -useContext x1
    try clear_value x1
    split
    · extract_lets +onlyGivenNames -underBinder -merge -useContext x2
      refine Upd.cut (t := x2) ?_ (fun h2 => ?_)
      · unfold x2
        refine Upd.step ?_ (State.rmsNew_upd ..) rfl
        exact Upd.refl _ _
      clear_value x2
      refine Upd.ite ?_ ?_
      · refine Upd.step ?_ (State.losEnter_upd ..) rfl
        exact h2
      · refine Upd.step ?_ (State.stepDone_upd ..) rfl
        refine Upd.setFld ?_ rfl
        refine Upd.step ?_ (State.modCar_upd ..) rfl
        refine Upd.setFlag ?_ rfl
        exact h2
    · refine Upd.step ?_ (State.losEnter_upd ..) rfl
      exact Upd.refl _ _
    · refine Upd.ite ?_ ?_
      · refine Upd.step ?_ (State.fallBack_upd ..) rfl
        refine Upd.raise ?_ rfl
        exact Upd.refl _ _
      · refine Upd.ite ?_ ?_
        · refine Upd.step ?_ (State.fofsFound_upd ..) rfl
          exact Upd.refl _ _
        · refine Upd.step ?_ (State.fallBack_upd ..) rfl
          exact Upd.refl _ _
    · refine Upd.step ?_ (State.fallBack_upd ..) rfl
      refine Upd.raise ?_ rfl
      exact Upd.refl _ _
    · refine Upd.ite ?_ ?_
      · refine Upd.step ?_ (State.fallBack_upd ..) rfl
        refine Upd.raise ?_ rfl
        exact Upd.refl _ _
      · refine Upd.ite ?_ ?_
        · refine Upd.step ?_ (State.cdFound_upd ..) rfl
          refine Upd.setFld ?_ rfl
          exact Upd.refl _ _
        · refine Upd.step ?_ (State.fallBack_upd ..) rfl
          exact Upd.refl _ _
    · refine Upd.step ?_ (State.fallBack_upd ..) rfl
      refine Upd.raise ?_ rfl
      exact Upd.refl _ _
    · refine Upd.ite ?_ ?_
      · refine Upd.step ?_ (State.clkFound_upd ..) rfl
        exact Upd.refl _ _
      · refine Upd.step ?_ (State.fallBack_upd ..) rfl
        refine Upd.raise ?_ rfl
        exact Upd.refl _ _
    · refine Upd.step ?_ (State.fallBack_upd ..) rfl
      refine Upd.raise ?_ rfl
      exact Upd.refl _ _
    · refine Upd.step ?_ (State.orientFound_upd ..) rfl
      exact Upd.refl _ _
    · exact Upd.refl _ _

theorem State.acqStep_upd (a1 : ℕ) (a2 : AcqEnd) (s : State) :
    Upd 0x40600000000000000000000000000000000000000000000000000000000000000000000000000000000000000000000000000000000000000000000010914fa000c0000000000000000000000 s (State.acqStep a1 a2 s) := by
  unfold State.acqStep
  refine Upd.ite ?_ ?_
  · refine Upd.step ?_ (State.searchFail_upd ..) rfl
    exact Upd.refl _ _
  · split
    · exact Upd.refl _ _
    · refine Upd.step ?_ (State.coldStep_upd ..) rfl
      exact Upd.refl _ _
    · refine Upd.step ?_ (State.warmStep_upd ..) rfl
      exact Upd.refl _ _

theorem execAcqStep_upd (a1 : ℕ) (a2 : AcqEnd) (s : State) :
    ∃ t, execAcqStep a1 a2 s = .next t ∧ Upd 0x20000000005e40e00000000000000000000000000001b8050000000000000000000000000000000000000800000004001000660000080021130000550080000180001091cfa000c0000000000000000000000 s t := by
  unfold execAcqStep
  refine ⟨_, rfl, ?_⟩
  refine Upd.ite ?_ ?_
  · refine Upd.step ?_ (State.lineEval_upd ..) rfl
    refine Upd.step ?_ (State.acqStep_upd ..) rfl
    exact Upd.refl _ _
  · exact Upd.refl _ _

theorem execAcqTimeout_upd (a1 : ℕ) (s : State) :
    ∃ t, execAcqTimeout a1 s = .next t ∧ Upd 0x20000000005e40e00000000000000000000000000001b8050000000000000000000000000000000000000800000004001000660000080021130000550080000180001091cb200040000000000000000000000 s t := by
  unfold execAcqTimeout
  refine ⟨_, rfl, ?_⟩
  refine Upd.ite ?_ ?_
  · split
    · refine Upd.step ?_ (State.lineEval_upd ..) rfl
      refine Upd.step ?_ (State.losEnter_upd ..) rfl
      exact Upd.refl _ _
    · refine Upd.step ?_ (State.lineEval_upd ..) rfl
      refine Upd.step ?_ (State.acqAgain_upd ..) rfl
      exact Upd.refl _ _
    · refine Upd.step ?_ (State.lineEval_upd ..) rfl
      refine Upd.step ?_ (State.acqAgain_upd ..) rfl
      exact Upd.refl _ _
    · refine Upd.step ?_ (State.lineEval_upd ..) rfl
      refine Upd.step ?_ (State.acqAgain_upd ..) rfl
      exact Upd.refl _ _
    · refine Upd.step ?_ (State.lineEval_upd ..) rfl
      refine Upd.step ?_ (State.acqAgain_upd ..) rfl
      exact Upd.refl _ _
    · exact Upd.refl _ _
  · exact Upd.refl _ _

theorem execRelockFail_upd (a1 : ℕ) (s : State) :
    ∃ t, execRelockFail a1 s = .next t ∧ Upd 0x20000000005e40e00000000000000000000000000001b8050000000000000000000000000000000000000800000004001000660000080021130000550080000180001091cb200040000000000000000000000 s t := by
  unfold execRelockFail
  refine ⟨_, rfl, ?_⟩
  refine Upd.ite ?_ ?_
  · split
    · refine Upd.step ?_ (State.lineEval_upd ..) rfl
      refine Upd.step ?_ (State.losEnter_upd ..) rfl
      exact Upd.refl _ _
    · refine Upd.step ?_ (State.lineEval_upd ..) rfl
      refine Upd.step ?_ (State.fallBack_upd ..) rfl
      exact Upd.refl _ _
    · refine Upd.step ?_ (State.lineEval_upd ..) rfl
      refine Upd.step ?_ (State.fallBack_upd ..) rfl
      exact Upd.refl _ _
    · refine Upd.step ?_ (State.lineEval_upd ..) rfl
      refine Upd.step ?_ (State.fallBack_upd ..) rfl
      exact Upd.refl _ _
    · refine Upd.step ?_ (State.lineEval_upd ..) rfl
      refine Upd.step ?_ (State.fallBack_upd ..) rfl
      exact Upd.refl _ _
    · exact Upd.refl _ _
  · exact Upd.refl _ _

theorem State.rxCtrlWrite_upd (a1 : ℕ) (a2 : W32) (s : State) :
    Upd 0x20000000005e40e00000000000000000000000000001b8050000000000000000000000000000000000000800000004001000660000080021130000550080000180001091cf300040000000000000000000000 s (State.rxCtrlWrite a1 a2 s) := by
  unfold State.rxCtrlWrite
  extract_lets +onlyGivenNames -underBinder -merge -useContext x1
  refine Upd.cut (t := x1) ?_ (fun h1 => ?_)
  · unfold x1
    refine Upd.step ?_ (State.rxEval_upd ..) rfl
    refine Upd.step ?_ (State.storeEval_upd ..) rfl
    refine Upd.plainWrite ?_ rfl
    exact Upd.refl _ _
  clear_value x1
  refine Upd.when ?_ (fun x2 h2 => ?_)
  · exact h1
  · refine Upd.step ?_ (State.lineEval_upd ..) rfl
    refine Upd.step ?_ (State.coldTrigger_upd ..) rfl
    exact h2

theorem execRxEn_upd (a1 : Master) (a2 : ℕ) (a3 : W32) (s : State) :
    ∃ t, execRxEn a1 a2 a3 s = .next t ∧ Upd 0x20000000205e47e00000000000000000000060000081b8050000000000000000000000000000000000000800000004001000660000080021130000550080000180001091cf300040000000000000006203400 s t := by
  unfold execRxEn
  refine ⟨_, rfl, ?_⟩
  refine Upd.guardW ?_ (fun x1 h1 => ?_) rfl
  · exact Upd.refl _ _
  · refine Upd.step ?_ (State.rxCtrlWrite_upd ..) rfl
    exact h1

theorem execAcqRestart_upd (a1 : Master) (a2 : ℕ) (a3 : W32) (s : State) :
    ∃ t, execAcqRestart a1 a2 a3 s = .next t ∧ Upd 0x20000000205e47e00000000000000000000060000081b8050000000000000000000000000000000000000800000004001000660000080021130000550080000180001091cf300040000000000000006203400 s t := by
  unfold execAcqRestart
  refine ⟨_, rfl, ?_⟩
  refine Upd.guardW ?_ (fun x1 h1 => ?_) rfl
  · exact Upd.refl _ _
  · refine Upd.step ?_ (State.rxCtrlWrite_upd ..) rfl
    exact h1

theorem State.rxShapeIn_upd (a1 : ℕ) (s : State) :
    Upd 0x2000000000000000000000000000000000000000000000000000000000000000000000000000000000000000000000000000000000000000000000000000400000000000000000000000000 s (State.rxShapeIn a1 s) := by
  unfold State.rxShapeIn
  refine Upd.setFld ?_ rfl
  refine Upd.step ?_ (State.modCar_upd ..) rfl
  exact Upd.refl _ _

theorem State.rxShapeWrite_upd (a1 : ℕ) (a2 : W32) (s : State) :
    Upd 0x20000000005e40e00000000000000000000000000001b80500000000000000000000000000000000000008000000040010006600000800211300005500800001800010918b600040000000000000000000000 s (State.rxShapeWrite a1 a2 s) := by
  unfold State.rxShapeWrite
  extract_lets +onlyGivenNames -underBinder -merge -useContext x1
  try clear_value x1
  extract_lets +onlyGivenNames -underBinder -merge -useContext x2
  refine Upd.cut (t := x2) ?_ (fun h2 => ?_)
  · unfold x2
    refine Upd.plainWrite ?_ rfl
    exact Upd.refl _ _
  clear_value x2
  extract_lets +onlyGivenNames -underBinder -merge -useContext x3
  refine Upd.cut (t := x3) ?_ (fun h3 => ?_)
  · unfold x3
    refine Upd.when ?_ (fun x4 h4 => ?_)
    · exact h2
    · refine Upd.step ?_ (State.lineEval_upd ..) rfl
      refine Upd.step ?_ (State.coldTrigger_upd ..) rfl
      refine Upd.step ?_ (State.storeEval_upd ..) rfl
      refine Upd.step ?_ (State.modCar_upd ..) rfl
      exact h4
  clear_value x3
  refine Upd.ite ?_ ?_
  · refine Upd.step ?_ (State.modCar_upd ..) rfl
    exact h3
  · refine Upd.step ?_ (State.rxShapeIn_upd ..) rfl
    exact h3

theorem execRxShapeWrite_upd (a1 : Master) (a2 : ℕ) (a3 : W32) (s : State) :
    ∃ t, execRxShapeWrite a1 a2 a3 s = .next t ∧ Upd 0x20000000205e47e00000000000000000000060000081b80500000000000000000000000000000000000008000000040010006600000800211300005500800001800010918b600040000000000000006203400 s t := by
  unfold execRxShapeWrite
  refine ⟨_, rfl, ?_⟩
  refine Upd.guardW ?_ (fun x1 h1 => ?_) rfl
  · exact Upd.refl _ _
  · refine Upd.step ?_ (State.rxShapeWrite_upd ..) rfl
    exact h1

theorem State.mismatchEval_upd (a1 : ℕ) (s : State) :
    Upd 0x406000000000000000000000000000000000000000000000000000000000000000000000000000000000000000000000000000000000000000000000109000200080000000000000000000000 s (State.mismatchEval a1 s) := by
  unfold State.mismatchEval
  extract_lets +onlyGivenNames -underBinder -merge -useContext x1
  try clear_value x1
  extract_lets +onlyGivenNames -underBinder -merge -useContext x2
  try clear_value x2
  extract_lets +onlyGivenNames -underBinder -merge -useContext x3
  refine Upd.cut (t := x3) ?_ (fun h3 => ?_)
  · unfold x3
    refine Upd.when ?_ (fun x4 h4 => ?_)
    · refine Upd.step ?_ (State.modCar_upd ..) rfl
      exact Upd.refl _ _
    · refine Upd.raise ?_ rfl
      exact h4
  clear_value x3
  extract_lets +onlyGivenNames -underBinder -merge -useContext x5
  try clear_value x5
  refine Upd.each ?_ (fun n6 x6 h6 => ?_) _
  · exact h3
  · refine Upd.ite ?_ ?_
    · refine Upd.step ?_ (State.scTo_upd ..) rfl
      exact h6
    · refine Upd.ite ?_ ?_
      · refine Upd.step ?_ (State.scTo_upd ..) rfl
        exact h6
      · exact h6

theorem State.classShow_upd (a1 : ℕ) (a2 : Bool) (s : State) :
    Upd 0x4000000000000000000000000000000000000000000000000000000000000000000000000000000000000000000000000000000000000000000000101000000000000000000000000000000 s (State.classShow a1 a2 s) := by
  unfold State.classShow
  refine Upd.each ?_ (fun n1 x1 h1 => ?_) _
  · exact Upd.refl _ _
  · extract_lets +onlyGivenNames -underBinder -merge -useContext x2
    try clear_value x2
    refine Upd.ite ?_ ?_
    · exact h1
    · extract_lets +onlyGivenNames -underBinder -merge -useContext x3
      refine Upd.cut (t := x3) ?_ (fun h3 => ?_)
      · unfold x3
        refine Upd.step ?_ (State.modSc_upd ..) rfl
        refine Upd.setFlag ?_ rfl
        refine Upd.setFlag ?_ rfl
        exact h1
      clear_value x3
      refine Upd.setFlag ?_ rfl
      exact h3

theorem State.fecZero_upd (a1 : ℕ) (s : State) :
    Upd 0x4000000000000000000000000000000000000000000000000000000000000000000000000000000000000000000000000000000000000000007ffe100000000000000000000000000000000 s (State.fecZero a1 s) := by
  unfold State.fecZero
  extract_lets +onlyGivenNames -underBinder -merge -useContext x1
  refine Upd.cut (t := x1) ?_ (fun h1 => ?_)
  · unfold x1
    refine Upd.wr64 ?_ rfl rfl
    refine Upd.wr64 ?_ rfl rfl
    refine Upd.wr64 ?_ rfl rfl
    refine Upd.wr64 ?_ rfl rfl
    refine Upd.wr64 ?_ rfl rfl
    exact Upd.refl _ _
  clear_value x1
  extract_lets +onlyGivenNames -underBinder -merge -useContext x2
  refine Upd.cut (t := x2) ?_ (fun h2 => ?_)
  · unfold x2
    refine Upd.wrN ?_ rfl
    refine Upd.wrN ?_ rfl
    refine Upd.wrN ?_ rfl
    refine Upd.wrN ?_ rfl
    exact h1
  clear_value x2
  refine Upd.step ?_ (State.modSc_upd ..) rfl
  refine Upd.setFlag ?_ rfl
  refine Upd.setFld ?_ rfl
  exact h2

theorem State.rxInstall_upd (a1 : ℕ) (a2 : W32) (a3 : Bool) (s : State) :
    Upd 0x406000000000000000000000000000000000000000000001240200000000000000000000000000000000000000000000000000000000000000007ffe109001200000000000000000000000000 s (State.rxInstall a1 a2 a3 s) := by
  unfold State.rxInstall
  extract_lets +onlyGivenNames -underBinder -merge -useContext x1
  refine Upd.cut (t := x1) ?_ (fun h1 => ?_)
  · unfold x1
    refine Upd.when ?_ (fun x2 h2 => ?_)
    · exact Upd.refl _ _
    · refine Upd.step ?_ (State.pccStop_upd ..) rfl
      refine Upd.setFlag ?_ rfl
      exact h2
  clear_value x1
  extract_lets +onlyGivenNames -underBinder -merge -useContext x3
  refine Upd.cut (t := x3) ?_ (fun h3 => ?_)
  · unfold x3
    refine Upd.step ?_ (State.classShow_upd ..) rfl
    refine Upd.step ?_ (State.modCar_upd ..) rfl
    exact h1
  clear_value x3
  extract_lets +onlyGivenNames -underBinder -merge -useContext x4
  refine Upd.cut (t := x4) ?_ (fun h4 => ?_)
  · unfold x4
    refine Upd.when ?_ (fun x5 h5 => ?_)
    · exact h3
    · refine Upd.each ?_ (fun n6 x6 h6 => ?_) _
      · exact h5
      · refine Upd.step ?_ (State.fecZero_upd ..) rfl
        exact h6
  clear_value x4
  extract_lets +onlyGivenNames -underBinder -merge -useContext x7
  refine Upd.cut (t := x7) ?_ (fun h7 => ?_)
  · unfold x7
    refine Upd.ite ?_ ?_
    · refine Upd.setFld ?_ rfl
      exact h4
    · exact h4
  clear_value x7
  extract_lets +onlyGivenNames -underBinder -merge -useContext x8
  refine Upd.cut (t := x8) ?_ (fun h8 => ?_)
  · unfold x8
    refine Upd.each ?_ (fun n9 x9 h9 => ?_) _
    · exact h7
    · refine Upd.ite ?_ ?_
      · refine Upd.step ?_ (State.scTo_upd ..) rfl
        exact h9
      · exact h9
  clear_value x8
  refine Upd.when ?_ (fun x10 h10 => ?_)
  · exact h8
  · refine Upd.step ?_ (State.expOut_upd ..) rfl
    exact h10

theorem State.lossCheck_upd (a1 : ℕ) (a2 : Bool) (s : State) :
    Upd 0x406000000000000000000000000000000000000000000000000000000000000000000000000000000000000000000000000000000000000000000000109103200040000000000000000000000 s (State.lossCheck a1 a2 s) := by
  unfold State.lossCheck
  refine Upd.ite ?_ ?_
  · refine Upd.step ?_ (State.warmTrigger_upd ..) rfl
    exact Upd.refl _ _
  · exact Upd.refl _ _

theorem Upd.losing {w : Nat} {s t : State} {c : Nat} {f : State → State} (h : Upd w s t) (hf : ∀ x, Upd w s x → Upd w s (f x))
    (hw : Nat.land 0x20000000005e40e00000000000000000000000000001b80500000000000000000000000000000000000008000000040010006600000800211300005500800001800010918b200040000000000000000000000 w = 0x20000000005e40e00000000000000000000000000001b80500000000000000000000000000000000000008000000040010006600000800211300005500800001800010918b200040000000000000000000000) :
    Upd w s (State.losing c f t) := by
  unfold State.losing
  repeat' first
    | with_reducible assumption
    | with_reducible exact Upd.refl _ _
    | (show Nat.testBit _ _ = true; with_reducible assumption)
    | (show Nat.land _ _ = _; exact land_trans (b := 0x20000000005e40e00000000000000000000000000001b80500000000000000000000000000000000000008000000040010006600000800211300005500800001800010918b200040000000000000000000000) rfl hw)
    | (show Nat.testBit _ _ = true; exact testBit_up (a := 0x20000000005e40e00000000000000000000000000001b80500000000000000000000000000000000000008000000040010006600000800211300005500800001800010918b200040000000000000000000000) hw rfl)
    | with_reducible refine hf _ ?_
    | (extract_lets +onlyGivenNames x; refine Upd.cut (t := x) ?_ (fun hx => ?_); (on_goal 2 => clear_value x); unfold x; clear x)
    | (extract_lets +onlyGivenNames x; clear_value x)
    | with_reducible apply Upd.ite
    | with_reducible refine Upd.step ?_ (State.lossCheck_upd ..) ?_
    | with_reducible refine Upd.step ?_ (State.lineEval_upd ..) ?_
    | split

theorem State.scRise_upd (a1 : ℕ) (s : State) :
    Upd 0x404000000000000000000000000000000000000000000000000000000000000000000000000000000000000000000000000000000000000000000000109000200000000000000000000000000 s (State.scRise a1 s) := by
  unfold State.scRise
  extract_lets +onlyGivenNames -underBinder -merge -useContext x1
  try clear_value x1
  refine Upd.ite ?_ ?_
  · refine Upd.ite ?_ ?_
    · refine Upd.step ?_ (State.scTo_upd ..) rfl
      exact Upd.refl _ _
    · refine Upd.ite ?_ ?_
      · refine Upd.step ?_ (State.scTo_upd ..) rfl
        exact Upd.refl _ _
      · refine Upd.step ?_ (State.scTo_upd ..) rfl
        exact Upd.refl _ _
  · exact Upd.refl _ _

theorem State.rxProfile_upd (a1 : ℕ) (a2 : W32) (a3 : Bool) (s : State) :
    Upd 0x20000000005e40e00000000000000000000000000001b80500000000000124020000000000000000000008000000040010006600000800211300005500800001fffe10918b2000d0000000000000000000000 s (State.rxProfile a1 a2 a3 s) := by
  unfold State.rxProfile
  extract_lets +onlyGivenNames -underBinder -merge -useContext x1
  try clear_value x1
  refine Upd.losing ?_ (fun x2 h2 => ?_) rfl
  · exact Upd.refl _ _
  · extract_lets +onlyGivenNames -underBinder -merge -useContext x3
    refine Upd.cut (t := x3) ?_ (fun h3 => ?_)
    · unfold x3
      refine Upd.wr ?_ rfl
      exact h2
    clear_value x3
    extract_lets +onlyGivenNames -underBinder -merge -useContext x4
    refine Upd.cut (t := x4) ?_ (fun h4 => ?_)
    · unfold x4
      refine Upd.ite ?_ ?_
      · refine Upd.step ?_ (State.coldTrigger_upd ..) rfl
        refine Upd.step ?_ (State.rxInstall_upd ..) rfl
        refine Upd.step ?_ (State.storeEval_upd ..) rfl
        refine Upd.step ?_ (State.modCar_upd ..) rfl
        exact h3
      · refine Upd.ite ?_ ?_
        · refine Upd.step ?_ (State.rxInstall_upd ..) rfl
          exact h3
        · exact h3
    clear_value x4
    refine Upd.step ?_ (State.mismatchEval_upd ..) rfl
    exact h4

theorem State.rxProfileWrite_upd (a1 : ℕ) (a2 : W32) (s : State) :
    Upd 0x20000000005e40e00000000000000000000000000001b80500000000000124020000000000000000000008000000040010006600000800211300005500800001fffe10918b2000d0000000000000000000000 s (State.rxProfileWrite a1 a2 s) := by
  unfold State.rxProfileWrite
  extract_lets +onlyGivenNames -underBinder -merge -useContext x1
  try clear_value x1
  extract_lets +onlyGivenNames -underBinder -merge -useContext x2
  try clear_value x2
  refine Upd.ite ?_ ?_
  · refine Upd.step ?_ (State.chgRefuse_upd ..) rfl
    exact Upd.refl _ _
  · refine Upd.step ?_ (State.rxProfile_upd ..) rfl
    exact Upd.refl _ _

theorem execRxProfileWrite_upd (a1 : Master) (a2 : ℕ) (a3 : W32) (s : State) :
    ∃ t, execRxProfileWrite a1 a2 a3 s = .next t ∧ Upd 0x20000000205e47e00000000000000000000060000081b80500000000000124020000000000000000000008000000040010006600000800211300005500800001fffe10918b2000d0000000000000006203400 s t := by
  unfold execRxProfileWrite
  refine ⟨_, rfl, ?_⟩
  refine Upd.guardW ?_ (fun x1 h1 => ?_) rfl
  · exact Upd.refl _ _
  · refine Upd.step ?_ (State.rxProfileWrite_upd ..) rfl
    exact h1

theorem State.descRead_upd (a1 : ℕ) (s : State) :
    Upd 0x406000000000000000000000000000000000000000000000000000000000000000000000000000000000000000000000000000000000000000000000109000200080000000000000000000000 s (State.descRead a1 s) := by
  unfold State.descRead
  extract_lets +onlyGivenNames -underBinder -merge -useContext x1
  try clear_value x1
  extract_lets +onlyGivenNames -underBinder -merge -useContext x2
  try clear_value x2
  extract_lets +onlyGivenNames -underBinder -merge -useContext x3
  try clear_value x3
  extract_lets +onlyGivenNames -underBinder -merge -useContext x4
  try clear_value x4
  extract_lets +onlyGivenNames -underBinder -merge -useContext x5
  refine Upd.cut (t := x5) ?_ (fun h5 => ?_)
  · unfold x5
    refine Upd.step ?_ (State.modSc_upd ..) rfl
    exact Upd.refl _ _
  clear_value x5
  split
  · exact h5
  · refine Upd.ite ?_ ?_
    · exact h5
    · refine Upd.ite ?_ ?_
      · refine Upd.step ?_ (State.mismatchEval_upd ..) rfl
        refine Upd.step ?_ (State.modCar_upd ..) rfl
        exact h5
      · refine Upd.step ?_ (State.mismatchEval_upd ..) rfl
        refine Upd.step ?_ (State.modCar_upd ..) rfl
        exact h5

theorem State.mfCounts_upd (a1 : ℕ) (s : State) :
    Upd 0x4000000000000000000000000000000000000000000000000000000000000000000000000000000000000000000000000000000000000000010000000000000000000000000000000000000 s (State.mfCounts a1 s) := by
  unfold State.mfCounts
  extract_lets +onlyGivenNames -underBinder -merge -useContext x1
  try clear_value x1
  extract_lets +onlyGivenNames -underBinder -merge -useContext x2
  try clear_value x2
  extract_lets +onlyGivenNames -underBinder -merge -useContext x3
  refine Upd.cut (t := x3) ?_ (fun h3 => ?_)
  · unfold x3
    refine Upd.step ?_ (State.modSc_upd ..) rfl
    exact Upd.refl _ _
  clear_value x3
  extract_lets +onlyGivenNames -underBinder -merge -useContext x4
  refine Upd.cut (t := x4) ?_ (fun h4 => ?_)
  · unfold x4
    refine Upd.step ?_ (State.pmAdd_upd ..) rfl
    exact h3
  clear_value x4
  refine Upd.when ?_ (fun x5 h5 => ?_)
  · exact h4
  · refine Upd.raise ?_ rfl
    exact h5

theorem State.multiframeRx_upd (a1 : ℕ) (s : State) :
    Upd 0x20000000005e40e00000000000000000000000000001b80500000000000124020000000000000000000008000000040010006600000800211300005500800001fffe10918b6000c0000000000000000000000 s (State.multiframeRx a1 s) := by
  unfold State.multiframeRx
  refine Upd.losing ?_ (fun x1 h1 => ?_) rfl
  · exact Upd.refl _ _
  · extract_lets +onlyGivenNames -underBinder -merge -useContext x2
    refine Upd.cut (t := x2) ?_ (fun h2 => ?_)
    · unfold x2
      refine Upd.when ?_ (fun x3 h3 => ?_)
      · exact h1
      · refine Upd.each ?_ (fun n5 x5 h5 => ?_) _
        · refine Upd.each ?_ (fun n4 x4 h4 => ?_) _
          · exact h3
          · refine Upd.step ?_ (State.mfCounts_upd ..) rfl
            exact h4
        · refine Upd.step ?_ (State.descRead_upd ..) rfl
          exact h5
    clear_value x2
    extract_lets +onlyGivenNames -underBinder -merge -useContext x6
    refine Upd.cut (t := x6) ?_ (fun h6 => ?_)
    · unfold x6
      refine Upd.step ?_ (State.modCar_upd ..) rfl
      exact h2
    clear_value x6
    extract_lets +onlyGivenNames -underBinder -merge -useContext x7
    refine Upd.cut (t := x7) ?_ (fun h7 => ?_)
    · unfold x7
      refine Upd.when ?_ (fun x8 h8 => ?_)
      · exact h6
      · refine Upd.step ?_ (State.rxShapeIn_upd ..) rfl
        exact h8
    clear_value x7
    extract_lets +onlyGivenNames -underBinder -merge -useContext x9
    try clear_value x9
    refine Upd.ite ?_ ?_
    · refine Upd.step ?_ (State.rxInstall_upd ..) rfl
      exact h7
    · exact h7

theorem execMultiframeRx_upd (a1 : ℕ) (a2 : List (ℕ × ℤ)) (s : State) :
    ∃ t, execMultiframeRx a1 a2 s = .next t ∧ Upd 0x20000000405e40e00000000000010000000000000001b80500000000000124020000000000000000000008000000040010006600000800211300005500800001fffe10918b6000c0000000000000000000000 s t := by
  unfold execMultiframeRx
  refine ⟨_, rfl, ?_⟩
  refine Upd.ite ?_ ?_
  · refine Upd.step ?_ (State.multiframeRx_upd ..) rfl
    refine Upd.when ?_ (fun x1 h1 => ?_)
    · exact Upd.refl _ _
    · refine Upd.step ?_ (State.markRx_upd ..) rfl
      exact h1
  · exact Upd.refl _ _

theorem execRxFollowed_upd (a1 : ℕ) (s : State) :
    ∃ t, execRxFollowed a1 s = .next t ∧ Upd 0x20000000005e40e00000000000000000000000000001b80500000000000124020000000000000000000008000000040010006600000800211300005500800001fffe10918b2000d0000000000000000000000 s t := by
  unfold execRxFollowed
  refine ⟨_, rfl, ?_⟩
  split
  · refine Upd.ite ?_ ?_
    · refine Upd.step ?_ (State.rxProfile_upd ..) rfl
      refine Upd.raise ?_ rfl
      refine Upd.step ?_ (State.modCar_upd ..) rfl
      exact Upd.refl _ _
    · exact Upd.refl _ _
  · exact Upd.refl _ _

theorem execDescAdopted_upd (a1 : ℕ) (s : State) :
    ∃ t, execDescAdopted a1 s = .next t ∧ Upd 0x20000000005e40e00000000000000000000000000001b80500000000000124020000000000000000000008000000040010006600000800211300005500800001fffe10918b2000d0000000000000000000000 s t := by
  unfold execDescAdopted
  refine ⟨_, rfl, ?_⟩
  split
  · refine Upd.ite ?_ ?_
    · refine Upd.step ?_ (State.rxProfile_upd ..) rfl
      refine Upd.raise ?_ rfl
      refine Upd.step ?_ (State.modCar_upd ..) rfl
      exact Upd.refl _ _
    · exact Upd.refl _ _
  · exact Upd.refl _ _

theorem execExpCdRange_upd (a1 : ℕ) (a2 : ℤ) (s : State) :
    ∃ t, execExpCdRange a1 a2 s = .next t ∧ Upd 0x20000000005e40e00000000000000000000000000001b80500000000000000000000000000000000000008000000040010006600000800211300005500800001800010918b2000c0000000000000000000000 s t := by
  unfold execExpCdRange
  refine ⟨_, rfl, ?_⟩
  refine Upd.ite ?_ ?_
  · refine Upd.losing ?_ (fun x1 h1 => ?_) rfl
    · exact Upd.refl _ _
    · refine Upd.step ?_ (State.cdNew_upd ..) rfl
      exact h1
  · exact Upd.refl _ _

theorem execExpCdReturn_upd (a1 : ℕ) (a2 : ℤ) (s : State) :
    ∃ t, execExpCdReturn a1 a2 s = .next t ∧ Upd 0x20000000005e40e00000000000000000000000000001b8050000000000000000000000000000000000000800000004001000660000080021130000550080000180001090892000c0000000000000000000000 s t := by
  unfold execExpCdReturn
  refine ⟨_, rfl, ?_⟩
  refine Upd.ite ?_ ?_
  · refine Upd.step ?_ (State.lineEval_upd ..) rfl
    refine Upd.step ?_ (State.cdNew_upd ..) rfl
    exact Upd.refl _ _
  · exact Upd.refl _ _

theorem execExpStepMove_upd (a1 : ℕ) (a2 : ℤ) (s : State) :
    ∃ t, execExpStepMove a1 a2 s = .next t ∧ Upd 0x20000000005e40e00000000000000000000000000001b8050000000000000000000000000000000000000800000004001000660000080021130000550080000180001090892000c0000000000000000000000 s t := by
  unfold execExpStepMove
  refine ⟨_, rfl, ?_⟩
  refine Upd.ite ?_ ?_
  · refine Upd.step ?_ (State.lineEval_upd ..) rfl
    refine Upd.setFld ?_ rfl
    refine Upd.step ?_ (State.cdNew_upd ..) rfl
    exact Upd.refl _ _
  · exact Upd.refl _ _

theorem execLos_upd (a1 : ℕ) (a2 : ℕ) (s : State) :
    ∃ t, execLos a1 a2 s = .next t ∧ Upd 0x20000000005e40e00000000000000000000000000001b8050000000000000000000000000000000000000800000004001000660000080021130000550080000180001090cba00040000000000000000000000 s t := by
  unfold execLos
  refine ⟨_, rfl, ?_⟩
  refine Upd.ite ?_ ?_
  · extract_lets +onlyGivenNames -underBinder -merge -useContext x1
    refine Upd.cut (t := x1) ?_ (fun h1 => ?_)
    · unfold x1
      refine Upd.step ?_ (State.rmsNew_upd ..) rfl
      exact Upd.refl _ _
    clear_value x1
    extract_lets +onlyGivenNames -underBinder -merge -useContext x2
    try clear_value x2
    refine Upd.ite ?_ ?_
    · refine Upd.step ?_ (State.lineEval_upd ..) rfl
      refine Upd.step ?_ (State.losEnter_upd ..) rfl
      exact h1
    · exact h1
  · exact Upd.refl _ _

theorem execLosClear_upd (a1 : ℕ) (a2 : ℕ) (s : State) :
    ∃ t, execLosClear a1 a2 s = .next t ∧ Upd 0x20000000005e40e00000000000000000000000000001b80500000000000000000000000000000000000008000000040010006600000800211300005500800001800010918ba00040000000000000000000000 s t := by
  unfold execLosClear
  refine ⟨_, rfl, ?_⟩
  refine Upd.ite ?_ ?_
  · extract_lets +onlyGivenNames -underBinder -merge -useContext x1
    refine Upd.cut (t := x1) ?_ (fun h1 => ?_)
    · unfold x1
      refine Upd.step ?_ (State.rmsNew_upd ..) rfl
      exact Upd.refl _ _
    clear_value x1
    refine Upd.ite ?_ ?_
    · refine Upd.step ?_ (State.lineEval_upd ..) rfl
      refine Upd.step ?_ (State.warmStart_upd ..) rfl
      refine Upd.step ?_ (State.storeEval_upd ..) rfl
      refine Upd.raise ?_ rfl
      refine Upd.setFlag ?_ rfl
      exact h1
    · exact h1
  · exact Upd.refl _ _

theorem State.adcClkFault_upd (a1 : ℕ) (s : State) :
    Upd 0x20000000005e46e0000000000000000000180000a281b8050000000000012002000000000000000000000800000004001000660000080021130000550080000180001090cb20ce40000000000000000000000 s (State.adcClkFault a1 s) := by
  unfold State.adcClkFault
  refine Upd.ite ?_ ?_
  · extract_lets +onlyGivenNames -underBinder -merge -useContext x1
    try clear_value x1
    extract_lets +onlyGivenNames -underBinder -merge -useContext x2
    refine Upd.cut (t := x2) ?_ (fun h2 => ?_)
    · unfold x2
      refine Upd.raise ?_ rfl
      refine Upd.step ?_ (State.modCar_upd ..) rfl
      exact Upd.refl _ _
    clear_value x2
    refine Upd.step ?_ (State.detect_upd ..) rfl
    refine Upd.when ?_ (fun x3 h3 => ?_)
    · exact h2
    · refine Upd.step ?_ (State.lineEval_upd ..) rfl
      refine Upd.step ?_ (State.losEnter_upd ..) rfl
      exact h3
  · exact Upd.refl _ _

theorem execAdcClkFault_upd (a1 : ℕ) (s : State) :
    ∃ t, execAdcClkFault a1 s = .next t ∧ Upd 0x20000000005e46e0000000000000000000180000a281b8050000000000012002000000000000000000000800000004001000660000080021130000550080000180001090cb20ce40000000000000000000000 s t := by
  unfold execAdcClkFault
  refine ⟨_, rfl, ?_⟩
  refine Upd.step ?_ (State.adcClkFault_upd ..) rfl
  exact Upd.refl _ _

theorem execAdcClkLock_upd (a1 : ℕ) (s : State) :
    ∃ t, execAdcClkLock a1 s = .next t ∧ Upd 0x2000000000000000000000000000000000000000000000000000000000000000000000000000000000000000000000000000000000000000000000000000000000000000000000000000000 s t := by
  unfold execAdcClkLock
  refine ⟨_, rfl, ?_⟩
  refine Upd.ite ?_ ?_
  · refine Upd.step ?_ (State.modCar_upd ..) rfl
    exact Upd.refl _ _
  · exact Upd.refl _ _

theorem State.clkLost_upd (a1 : ℕ) (s : State) :
    Upd 0x40600000000000000000000000000000000000000000000000000000000000000000000000000000000000000000000000000000000000000000000010910b200040000000000000000000000 s (State.clkLost a1 s) := by
  unfold State.clkLost
  extract_lets +onlyGivenNames -underBinder -merge -useContext x1
  refine Upd.cut (t := x1) ?_ (fun h1 => ?_)
  · unfold x1
    refine Upd.setFlag ?_ rfl
    refine Upd.raise ?_ rfl
    exact Upd.refl _ _
  clear_value x1
  refine Upd.ite ?_ ?_
  · refine Upd.step ?_ (State.warmTrigger_upd ..) rfl
    exact h1
  · exact h1

theorem execClkLol_upd (a1 : ℕ) (s : State) :
    ∃ t, execClkLol a1 s = .next t ∧ Upd 0x20000000005e40e00000000000000000000000000001b80500000000000000000000000000000000000008000000040010006600000800211300005500800001800010918b200040000000000000000000000 s t := by
  unfold execClkLol
  refine ⟨_, rfl, ?_⟩
  refine Upd.ite ?_ ?_
  · refine Upd.step ?_ (State.lineEval_upd ..) rfl
    refine Upd.step ?_ (State.clkLost_upd ..) rfl
    exact Upd.refl _ _
  · exact Upd.refl _ _

theorem execScLost_upd (a1 : ℕ) (s : State) :
    ∃ t, execScLost a1 s = .next t ∧ Upd 0x20000000005e40e00000000000000000000000000001b80500000000000000000000000000000000000008000000040010006600000800211300005500800001800010918b200040000000000000000000000 s t := by
  unfold execScLost
  refine ⟨_, rfl, ?_⟩
  refine Upd.ite ?_ ?_
  · refine Upd.losing ?_ (fun x1 h1 => ?_) rfl
    · exact Upd.refl _ _
    · refine Upd.step ?_ (State.modSc_upd ..) rfl
      refine Upd.step ?_ (State.scTo_upd ..) rfl
      exact h1
  · exact Upd.refl _ _

theorem execReconvTimeout_upd (a1 : ℕ) (s : State) :
    ∃ t, execReconvTimeout a1 s = .next t ∧ Upd 0x4000000000000000000000000000000000000000000000000000000000000000000000000000000000000000000000000000000000000000000000000000000000000000000000000000000 s t := by
  unfold execReconvTimeout
  refine ⟨_, rfl, ?_⟩
  refine Upd.ite ?_ ?_
  · refine Upd.step ?_ (State.modSc_upd ..) rfl
    exact Upd.refl _ _
  · exact Upd.refl _ _

theorem execScLocked_upd (a1 : ℕ) (s : State) :
    ∃ t, execScLocked a1 s = .next t ∧ Upd 0x20000000005e40e00000000000000000000000000001b805000000000000000000000000000000000000080000000400100066000008002113000055008000018000149088200000000000000000000000000 s t := by
  unfold execScLocked
  refine ⟨_, rfl, ?_⟩
  refine Upd.ite ?_ ?_
  · extract_lets +onlyGivenNames -underBinder -merge -useContext x1
    refine Upd.cut (t := x1) ?_ (fun h1 => ?_)
    · unfold x1
      refine Upd.step ?_ (State.scTo_upd ..) rfl
      exact Upd.refl _ _
    clear_value x1
    extract_lets +onlyGivenNames -underBinder -merge -useContext y2_0 x2
    refine Upd.cut (t := x2) ?_ (fun h2 => ?_)
    · unfold x2
      try unfold y2_0
      refine Upd.set_free ?_ rfl
      refine Upd.step ?_ (State.modSc_upd ..) rfl
      exact h1
    clear_value x2 y2_0
    extract_lets +onlyGivenNames -underBinder -merge -useContext x3
    refine Upd.cut (t := x3) ?_ (fun h3 => ?_)
    · unfold x3
      refine Upd.when ?_ (fun x4 h4 => ?_)
      · exact h2
      · refine Upd.step ?_ (State.count_upd ..) rfl
        refine Upd.bump ?_ rfl
        exact h4
    clear_value x3
    extract_lets +onlyGivenNames -underBinder -merge -useContext x5
    refine Upd.cut (t := x5) ?_ (fun h5 => ?_)
    · unfold x5
      refine Upd.when ?_ (fun x6 h6 => ?_)
      · exact h3
      · refine Upd.step ?_ (State.stepDone_upd ..) rfl
        refine Upd.raise ?_ rfl
        refine Upd.step ?_ (State.rxTo_upd ..) rfl
        exact h6
    clear_value x5
    refine Upd.step ?_ (State.lineEval_upd ..) rfl
    exact h5
  · exact Upd.refl _ _

theorem execDegSet_upd (a1 : ℕ) (s : State) :
    ∃ t, execDegSet a1 s = .next t ∧ Upd 0x9000000000000000000000000000000 s t := by
  unfold execDegSet
  refine ⟨_, rfl, ?_⟩
  refine Upd.ite ?_ ?_
  · refine Upd.raise ?_ rfl
    refine Upd.setFlag ?_ rfl
    exact Upd.refl _ _
  · exact Upd.refl _ _

theorem execDegClear_upd (a1 : ℕ) (s : State) :
    ∃ t, execDegClear a1 s = .next t ∧ Upd 0x9000000000000000000000000000000 s t := by
  unfold execDegClear
  refine ⟨_, rfl, ?_⟩
  refine Upd.ite ?_ ?_
  · refine Upd.raise ?_ rfl
    refine Upd.setFlag ?_ rfl
    exact Upd.refl _ _
  · exact Upd.refl _ _

theorem State.fecAdd_upd (a1 : ℕ) (a2 : FecAcc → FecAcc) (s : State) :
    Upd 0x4000000000000000000000000000000000000000000000000000000000000000000000000000000000000000000000000000000000000000000000000000000000000000000000000000000 s (State.fecAdd a1 a2 s) := by
  unfold State.fecAdd
  refine Upd.step ?_ (State.modSc_upd ..) rfl
  exact Upd.refl _ _

theorem State.sopNew_upd (a1 : ℕ) (a2 : ℕ) (s : State) :
    Upd 0x4000000000000000000000000000000000000000000000000000000000000000000000000000000000000000000000000000000000000000000000008000000000000000000000000000000 s (State.sopNew a1 a2 s) := by
  unfold State.sopNew
  refine Upd.when ?_ (fun x1 h1 => ?_)
  · refine Upd.step ?_ (State.fecAdd_upd ..) rfl
    exact Upd.refl _ _
  · refine Upd.raise ?_ rfl
    exact h1

theorem execSopTransient_upd (a1 : ℕ) (a2 : ℕ) (s : State) :
    ∃ t, execSopTransient a1 a2 s = .next t ∧ Upd 0x4000000000000000000000000000000000000000000000000000000000000000000000000000000000000000000000000000000000000000000000008000000000000000000000000000000 s t := by
  unfold execSopTransient
  refine ⟨_, rfl, ?_⟩
  refine Upd.ite ?_ ?_
  · refine Upd.step ?_ (State.sopNew_upd ..) rfl
    exact Upd.refl _ _
  · exact Upd.refl _ _

theorem execSlip_upd (a1 : ℕ) (s : State) :
    ∃ t, execSlip a1 s = .next t ∧ Upd 0x20000000000000000000000000000000000000000001b805000000000000000000000000000000000000000000000000000000000000000000000000000000000000028000000000000000000000000000000 s t := by
  unfold execSlip
  refine ⟨_, rfl, ?_⟩
  refine Upd.ite ?_ ?_
  · refine Upd.step ?_ (State.count_upd ..) rfl
    refine Upd.raise ?_ rfl
    refine Upd.bump ?_ rfl
    exact Upd.refl _ _
  · exact Upd.refl _ _

theorem State.fofsNew_upd (a1 : ℕ) (a2 : ℤ) (s : State) :
    Upd 0xa000000000000000000000000000 s (State.fofsNew a1 a2 s) := by
  unfold State.fofsNew
  extract_lets +onlyGivenNames -underBinder -merge -useContext x1
  try clear_value x1
  refine Upd.when ?_ (fun x2 h2 => ?_)
  · refine Upd.setFld ?_ rfl
    exact Upd.refl _ _
  · refine Upd.raise ?_ rfl
    exact h2

theorem execFofsRange_upd (a1 : CarVal) (s : State) :
    ∃ t, execFofsRange a1 s = .next t ∧ Upd 0xa000000000000000000000000000 s t := by
  unfold execFofsRange
  refine ⟨_, rfl, ?_⟩
  refine Upd.ite ?_ ?_
  · refine Upd.step ?_ (State.fofsNew_upd ..) rfl
    exact Upd.refl _ _
  · exact Upd.refl _ _

theorem execBoostMismatch_upd (a1 : ℕ) (a2 : ℕ) (s : State) :
    ∃ t, execBoostMismatch a1 a2 s = .next t ∧ Upd 0x8400000000000000000000000000 s t := by
  unfold execBoostMismatch
  refine ⟨_, rfl, ?_⟩
  refine Upd.ite ?_ ?_
  · extract_lets +onlyGivenNames -underBinder -merge -useContext x1
    refine Upd.cut (t := x1) ?_ (fun h1 => ?_)
    · unfold x1
      refine Upd.setFld ?_ rfl
      exact Upd.refl _ _
    clear_value x1
    refine Upd.when ?_ (fun x2 h2 => ?_)
    · exact h1
    · refine Upd.raise ?_ rfl
      exact h2
  · exact Upd.refl _ _

theorem State.scMeas_upd (a1 : RxMeas) (a2 : ℕ) (s : State) :
    Upd 0x20000000000000400000000000000000000000000001b80500000000000000000000000000000000000000000000000000000000000000000000000000000000000000e000000000000000000000000000000 s (State.scMeas a1 a2 s) := by
  unfold State.scMeas
  split
  · extract_lets +onlyGivenNames -underBinder -merge -useContext x1
    refine Upd.cut (t := x1) ?_ (fun h1 => ?_)
    · unfold x1
      refine Upd.step ?_ (State.count_upd ..) rfl
      refine Upd.step ?_ (State.count_upd ..) rfl
      exact Upd.refl _ _
    clear_value x1
    refine Upd.ite ?_ ?_
    · refine Upd.step ?_ (State.sopNew_upd ..) rfl
      refine Upd.step ?_ (State.fecAdd_upd ..) rfl
      refine Upd.setFld ?_ rfl
      refine Upd.setFld ?_ rfl
      exact h1
    · exact h1

theorem State.clkMeas_upd (a1 : ℕ) (a2 : ℤ) (s : State) :
    Upd 0x40600000000000000000000000000000000000000000000000000000000000000000000000000000000000000000000000000000000000000000000010910f200040000000000000000000000 s (State.clkMeas a1 a2 s) := by
  unfold State.clkMeas
  refine Upd.ite ?_ ?_
  · exact Upd.refl _ _
  · refine Upd.ite ?_ ?_
    · refine Upd.wrN ?_ rfl
      exact Upd.refl _ _
    · refine Upd.step ?_ (State.clkLost_upd ..) rfl
      exact Upd.refl _ _

theorem State.snapTake_upd (a1 : ℕ) (s : State) :
    Upd 0x2000000000000000000000000000000000000000000000000000000000000000000000000000000000000000000000000000000000000000000000000000200000000000000000000000000 s (State.snapTake a1 s) := by
  unfold State.snapTake
  extract_lets +onlyGivenNames -underBinder -merge -useContext x1
  try clear_value x1
  refine Upd.step ?_ (State.storeEval_upd ..) rfl
  refine Upd.step ?_ (State.modCar_upd ..) rfl
  exact Upd.refl _ _

theorem State.track_upd (a1 : ℕ) (a2 : RxMeas) (s : State) :
    Upd 0x20000000000040600000000000000000000000000001b80500000000000000000000000000000000000000000000000000000000000000000000000000000000000010f00b2000c0000000000000000000000 s (State.track a1 a2 s) := by
  unfold State.track
  refine Upd.step ?_ (State.snapTake_upd ..) rfl
  refine Upd.each ?_ (fun n1 x1 h1 => ?_) _
  · refine Upd.step ?_ (State.cdNew_upd ..) rfl
    refine Upd.step ?_ (State.fofsNew_upd ..) rfl
    exact Upd.refl _ _
  · refine Upd.step ?_ (State.scMeas_upd ..) rfl
    exact h1

theorem execSnapshot_upd (a1 : ℕ) (a2 : RxMeas) (s : State) :
    ∃ t, execSnapshot a1 a2 s = .next t ∧ Upd 0x20000000005e40e00000000000000000000000000001b80500000000000000000000000000000000000008000000040010006600000800211300005500800001800010f1cfa000c0000000000000000000000 s t := by
  unfold execSnapshot
  refine ⟨_, rfl, ?_⟩
  refine Upd.ite ?_ ?_
  · extract_lets +onlyGivenNames -underBinder -merge -useContext x1
    refine Upd.cut (t := x1) ?_ (fun h1 => ?_)
    · unfold x1
      refine Upd.step ?_ (State.rmsNew_upd ..) rfl
      exact Upd.refl _ _
    clear_value x1
    refine Upd.ite ?_ ?_
    · refine Upd.step ?_ (State.lineEval_upd ..) rfl
      refine Upd.step ?_ (State.losEnter_upd ..) rfl
      exact h1
    · extract_lets +onlyGivenNames -underBinder -merge -useContext x2
      refine Upd.cut (t := x2) ?_ (fun h2 => ?_)
      · unfold x2
        refine Upd.step ?_ (State.clkMeas_upd ..) rfl
        exact h1
      clear_value x2
      refine Upd.ite ?_ ?_
      · refine Upd.losing ?_ (fun x3 h3 => ?_) rfl
        · exact h2
        · refine Upd.step ?_ (State.track_upd ..) rfl
          exact h3
      · refine Upd.step ?_ (State.lineEval_upd ..) rfl
        exact h2
  · exact Upd.refl _ _

theorem execStoreExpired_upd (a1 : ℕ) (s : State) :
    ∃ t, execStoreExpired a1 s = .next t ∧ Upd 0x2000000000000000000000000000000000000000000000000000000000000000000000000000000000000000000000000000000000000000000000000000200000000000000000000000000 s t := by
  unfold execStoreExpired
  refine ⟨_, rfl, ?_⟩
  refine Upd.ite ?_ ?_
  · refine Upd.step ?_ (State.storeEval_upd ..) rfl
    refine Upd.step ?_ (State.modCar_upd ..) rfl
    exact Upd.refl _ _
  · exact Upd.refl _ _

theorem execCdFine_upd (a1 : ℕ) (s : State) :
    ∃ t, execCdFine a1 s = .next t ∧ Upd 0x1000000000000000000000000000 s t := by
  unfold execCdFine
  refine ⟨_, rfl, ?_⟩
  refine Upd.ite ?_ ?_
  · refine Upd.setFlag ?_ rfl
    exact Upd.refl _ _
  · exact Upd.refl _ _

theorem execAdcClip_upd (a1 : ℕ) (a2 : ℕ) (s : State) :
    ∃ t, execAdcClip a1 a2 s = .next t ∧ Upd 0x20000000000000000000000000000000000000000001b805000000000000000000000000000000000000000000000000000000000000000000000000000000000000000208000000000000000000000000000 s t := by
  unfold execAdcClip
  refine ⟨_, rfl, ?_⟩
  refine Upd.ite ?_ ?_
  · refine Upd.step ?_ (State.count_upd ..) rfl
    refine Upd.raise ?_ rfl
    refine Upd.bump ?_ rfl
    exact Upd.refl _ _
  · exact Upd.refl _ _

end Sys2Proof.Machine
end

