-- ==== Sys2Proof/Laws/FootFec.lean ====
section
/-! SUPPORT. The footprints of the operations of Machine/Fec.lean: what each may change. -/

set_option linter.unreachableTactic false
set_option linter.unusedTactic false
set_option linter.unusedVariables false

namespace Sys2Proof.Machine

theorem State.fecFault_upd (a1 : ℕ) (s : State) :
    Upd 0x20000000001a4620000000000000000000180000a281b80500000000000120020000000000000000000000000000000010006600000800211300004000000000400020000000ce00000000000000000000000 s (State.fecFault a1 s) := by
  unfold State.fecFault
  refine Upd.step ?_ (State.detect_upd ..) rfl
  refine Upd.raise ?_ rfl
  refine Upd.bump ?_ rfl
  exact Upd.refl _ _

theorem State.decode_upd (a1 : ℕ) (a2 : Codeword) (s : State) :
    Upd 0x24000000005e46e0000000000000000000180000a281b80500000000000120020000000000000000000008000000040010006600000800211300005500800001ff0030908820ce00000000000000000000000 s (State.decode a1 a2 s) := by
  unfold State.decode
  extract_lets +onlyGivenNames -underBinder -merge -useContext x1
  try clear_value x1
  extract_lets +onlyGivenNames -underBinder -merge -useContext x2
  try clear_value x2
  extract_lets +onlyGivenNames -underBinder -merge -useContext x3
  try clear_value x3
  extract_lets +onlyGivenNames -underBinder -merge -useContext x4
  try clear_value x4
  extract_lets +onlyGivenNames -underBinder -merge -useContext x5
  try clear_value x5
  extract_lets +onlyGivenNames -underBinder -merge -useContext x6
  try clear_value x6
  extract_lets +onlyGivenNames -underBinder -merge -useContext x7
  try clear_value x7
  extract_lets +onlyGivenNames -underBinder -merge -useContext x8
  refine Upd.cut (t := x8) ?_ (fun h8 => ?_)
  · unfold x8
    refine Upd.step ?_ (State.fecAdd_upd ..) rfl
    exact Upd.refl _ _
  clear_value x8
  extract_lets +onlyGivenNames -underBinder -merge -useContext x9
  refine Upd.cut (t := x9) ?_ (fun h9 => ?_)
  · unfold x9
    refine Upd.step ?_ (State.modSc_upd ..) rfl
    exact h8
  clear_value x9
  extract_lets +onlyGivenNames -underBinder -merge -useContext x10
  refine Upd.cut (t := x10) ?_ (fun h10 => ?_)
  · unfold x10
    refine Upd.add64 ?_ rfl rfl
    refine Upd.add64 ?_ rfl rfl
    exact h9
  clear_value x10
  extract_lets +onlyGivenNames -underBinder -merge -useContext x11
  refine Upd.cut (t := x11) ?_ (fun h11 => ?_)
  · unfold x11
    refine Upd.step ?_ (State.count_upd ..) rfl
    refine Upd.step ?_ (State.count_upd ..) rfl
    exact h10
  clear_value x11
  extract_lets +onlyGivenNames -underBinder -merge -useContext x12
  refine Upd.cut (t := x12) ?_ (fun h12 => ?_)
  · unfold x12
    refine Upd.when ?_ (fun x13 h13 => ?_)
    · exact h11
    · refine Upd.step ?_ (State.count_upd ..) rfl
      refine Upd.raise ?_ rfl
      refine Upd.add64 ?_ rfl rfl
      exact h13
  clear_value x12
  extract_lets +onlyGivenNames -underBinder -merge -useContext y14_0 x14
  refine Upd.cut (t := x14) ?_ (fun h14 => ?_)
  · unfold x14
    try unfold y14_0
    refine Upd.when ?_ (fun x16 h16 => ?_)
    · refine Upd.set_segBad ?_ rfl
      refine Upd.when ?_ (fun x15 h15 => ?_)
      · exact h12
      · refine Upd.step ?_ (State.fecFault_upd ..) rfl
        exact h15
    · refine Upd.step ?_ (State.fecFault_upd ..) rfl
      exact h16
  clear_value x14 y14_0
  refine Upd.step ?_ (State.lineEval_upd ..) rfl
  refine Upd.when ?_ (fun x17 h17 => ?_)
  · exact h14
  · refine Upd.setFlag ?_ rfl
    exact h17

theorem execDecode_upd (a1 : ℕ) (a2 : Codeword) (s : State) :
    ∃ t, execDecode a1 a2 s = .next t ∧ Upd 0x24000000005e46e0000000000000000000180000a281b80500000000000120020000000000000000000008000000040010006600000800211300005500800001ff0030908820ce00000000000000000000000 s t := by
  unfold execDecode
  refine ⟨_, rfl, ?_⟩
  refine Upd.ite ?_ ?_
  · refine Upd.step ?_ (State.decode_upd ..) rfl
    exact Upd.refl _ _
  · exact Upd.refl _ _

theorem execUncDefectSet_upd (a1 : ℕ) (s : State) :
    ∃ t, execUncDefectSet a1 s = .next t ∧ Upd 0x20000000005e40e00000000000000000000000000001b805000000000000000000000000000000000000080000000400100066000008002113000055008000018000309088200000000000000000000000000 s t := by
  unfold execUncDefectSet
  refine ⟨_, rfl, ?_⟩
  refine Upd.ite ?_ ?_
  · refine Upd.step ?_ (State.lineEval_upd ..) rfl
    refine Upd.raise ?_ rfl
    refine Upd.setFlag ?_ rfl
    exact Upd.refl _ _
  · exact Upd.refl _ _

theorem execUncDefectClear_upd (a1 : ℕ) (s : State) :
    ∃ t, execUncDefectClear a1 s = .next t ∧ Upd 0x20000000005e40e00000000000000000000000000001b805000000000000000000000000000000000000080000000400100066000008002113000055008000018000309088200000000000000000000000000 s t := by
  unfold execUncDefectClear
  refine ⟨_, rfl, ?_⟩
  refine Upd.ite ?_ ?_
  · refine Upd.step ?_ (State.lineEval_upd ..) rfl
    refine Upd.raise ?_ rfl
    refine Upd.setFlag ?_ rfl
    exact Upd.refl _ _
  · exact Upd.refl _ _

theorem execPrefecDegSet_upd (a1 : ℕ) (s : State) :
    ∃ t, execPrefecDegSet a1 s = .next t ∧ Upd 0x300000000000000000000000000000000 s t := by
  unfold execPrefecDegSet
  refine ⟨_, rfl, ?_⟩
  refine Upd.ite ?_ ?_
  · refine Upd.raise ?_ rfl
    refine Upd.setFlag ?_ rfl
    exact Upd.refl _ _
  · exact Upd.refl _ _

theorem execPrefecDegClear_upd (a1 : ℕ) (s : State) :
    ∃ t, execPrefecDegClear a1 s = .next t ∧ Upd 0x300000000000000000000000000000000 s t := by
  unfold execPrefecDegClear
  refine ⟨_, rfl, ?_⟩
  refine Upd.ite ?_ ?_
  · refine Upd.raise ?_ rfl
    refine Upd.setFlag ?_ rfl
    exact Upd.refl _ _
  · exact Upd.refl _ _

theorem State.fecCtrlWrite_upd (a1 : ℕ) (a2 : W32) (s : State) :
    Upd 0x3f00000000000000000000000000000000000 s (State.fecCtrlWrite a1 a2 s) := by
  unfold State.fecCtrlWrite
  refine Upd.ite ?_ ?_
  · refine Upd.wr64 ?_ rfl rfl
    refine Upd.wr64 ?_ rfl rfl
    refine Upd.wr64 ?_ rfl rfl
    exact Upd.refl _ _
  · exact Upd.refl _ _

theorem execFecTotClr_upd (a1 : Master) (a2 : ℕ) (a3 : W32) (s : State) :
    ∃ t, execFecTotClr a1 a2 a3 s = .next t ∧ Upd 0x20000000200007000000000000000000000060000081b805000000000000000000000000000000000000000000000000000000000000000000000000000000003f00000000000000000000000000006203400 s t := by
  unfold execFecTotClr
  refine ⟨_, rfl, ?_⟩
  refine Upd.guardW ?_ (fun x1 h1 => ?_) rfl
  · exact Upd.refl _ _
  · refine Upd.step ?_ (State.fecCtrlWrite_upd ..) rfl
    exact h1

theorem State.fecLatch_upd (a1 : ℕ) (s : State) :
    Upd 0x40000000000000000000000000000000000000000000000000000000000000000000000000000000000000000000000000000000000000000000ff106000000000000000000000000000000 s (State.fecLatch a1 s) := by
  unfold State.fecLatch
  extract_lets +onlyGivenNames -underBinder -merge -useContext x1
  try clear_value x1
  extract_lets +onlyGivenNames -underBinder -merge -useContext x2
  refine Upd.cut (t := x2) ?_ (fun h2 => ?_)
  · unfold x2
    refine Upd.when ?_ (fun x3 h3 => ?_)
    · exact Upd.refl _ _
    · refine Upd.setFld ?_ rfl
      refine Upd.wrN ?_ rfl
      refine Upd.wrN ?_ rfl
      refine Upd.wrN ?_ rfl
      refine Upd.wr64 ?_ rfl rfl
      refine Upd.wr64 ?_ rfl rfl
      refine Upd.wrN ?_ rfl
      exact h3
  clear_value x2
  extract_lets +onlyGivenNames -underBinder -merge -useContext x4
  refine Upd.cut (t := x4) ?_ (fun h4 => ?_)
  · unfold x4
    refine Upd.setFld ?_ rfl
    refine Upd.setFld ?_ rfl
    exact h2
  clear_value x4
  refine Upd.step ?_ (State.modSc_upd ..) rfl
  exact h4

theorem execFecSecLatch_upd (s : State) :
    ∃ t, execFecSecLatch s = .next t ∧ Upd 0x40000000000000000000000000000000000000000000000000000000000000000000000000000000000000000000000000000000000000000000ff106000000000000000000000000000000 s t := by
  unfold execFecSecLatch
  refine ⟨_, rfl, ?_⟩
  refine Upd.upto ?_ (fun n1 x1 h1 => ?_) _
  · exact Upd.refl _ _
  · refine Upd.ite ?_ ?_
    · refine Upd.step ?_ (State.fecLatch_upd ..) rfl
      exact h1
    · exact h1

end Sys2Proof.Machine
end

