-- ==== Sys2Proof/Laws/FootCipCore.lean ====
section
/-! SUPPORT. The footprints of the operations of Machine/CipCore.lean: what each may change. -/

set_option linter.unreachableTactic false
set_option linter.unusedTactic false
set_option linter.unusedVariables false

namespace Sys2Proof.Machine

theorem State.setSlot_upd (a1 : ℕ) (a2 : Option CipKey) (s : State) :
    Upd 0x40000000000000000000000000000000000000000000000000000000000000000000000000000000000000000000000000000000000000000000000000000000000000000000000000000000000 s (State.setSlot a1 a2 s) := by
  unfold State.setSlot
  refine Upd.set_cip ?_ rfl
  exact Upd.refl _ _

theorem State.modCip_upd (a1 : Cip → Cip) (s : State) :
    Upd 0x40000000000000000000000000000000000000000000000000000000000000000000000000000000000000000000000000000000000000000000000000000000000000000000000000000000000 s (State.modCip a1 s) := by
  unfold State.modCip
  refine Upd.set_cip ?_ rfl
  exact Upd.refl _ _

theorem State.modGctx_upd (a1 : ℕ) (a2 : GrpCtx → GrpCtx) (s : State) :
    Upd 0x40000000000000000000000000000000000000000000000000000000000000000000000000000000000000000000000000000000000000000000000000000000000000000000000000000000000 s (State.modGctx a1 a2 s) := by
  unfold State.modGctx
  refine Upd.step ?_ (State.modCip_upd ..) rfl
  exact Upd.refl _ _

theorem State.pnSpent_upd (a1 : ℕ) (s : State) :
    Upd 0x40000000000000000000000000000000000000000000000000000000000000000000000000000000004400000000000000000000000000000000000000000000000000000000000000000000000 s (State.pnSpent a1 s) := by
  unfold State.pnSpent
  extract_lets +onlyGivenNames -underBinder -merge -useContext x1
  try clear_value x1
  split
  · refine Upd.ite ?_ ?_
    · refine Upd.setFld ?_ rfl
      refine Upd.raise ?_ rfl
      refine Upd.step ?_ (State.setSlot_upd ..) rfl
      exact Upd.refl _ _
    · exact Upd.refl _ _
  · exact Upd.refl _ _

theorem State.takePn_upd (a1 : ℕ) (s : State) :
    Upd 0x40000000000000000000000000000000000000000000000000000000000000000000000000000000004400000000000000000000000000000000000000000000000000000000000000000000000 s (State.takePn a1 s) := by
  unfold State.takePn
  extract_lets +onlyGivenNames -underBinder -merge -useContext x1
  try clear_value x1
  split
  · exact Upd.refl _ _
  · refine Upd.when ?_ (fun x2 h2 => ?_)
    · refine Upd.step ?_ (State.setSlot_upd ..) rfl
      exact Upd.refl _ _
    · refine Upd.setFld ?_ rfl
      refine Upd.raise ?_ rfl
      exact h2

theorem State.modCore_upd (a1 : ℕ) (a2 : CipCore → CipCore) (s : State) :
    Upd 0x40000000000000000000000000000000000000000000000000000000000000000000000000000000000600000000000000000000000000000000000000000000000000000000000000000000000 s (State.modCore a1 a2 s) := by
  unfold State.modCore
  extract_lets +onlyGivenNames -underBinder -merge -useContext x1
  refine Upd.cut (t := x1) ?_ (fun h1 => ?_)
  · unfold x1
    refine Upd.step ?_ (State.modCip_upd ..) rfl
    exact Upd.refl _ _
  clear_value x1
  extract_lets +onlyGivenNames -underBinder -merge -useContext x2
  try clear_value x2
  extract_lets +onlyGivenNames -underBinder -merge -useContext x3
  try clear_value x3
  extract_lets +onlyGivenNames -underBinder -merge -useContext x4
  try clear_value x4
  refine Upd.ite ?_ ?_
  · exact h1
  · refine Upd.when ?_ (fun x5 h5 => ?_)
    · refine Upd.setFld ?_ rfl
      exact h1
    · refine Upd.raise ?_ rfl
      exact h5

theorem State.cipCount_upd (a1 : ℕ) (a2 : Msg) (s : State) :
    Upd 0x20000000000000000000000000000000000000000001b805000000000000000000000000000000000000000000000000000000000000000000000000000000000000000000000000000000000000000000000 s (State.cipCount a1 a2 s) := by
  unfold State.cipCount
  refine Upd.when ?_ (fun x1 h1 => ?_)
  · refine Upd.step ?_ (State.count_upd ..) rfl
    refine Upd.step ?_ (State.count_upd ..) rfl
    exact Upd.refl _ _
  · refine Upd.step ?_ (State.count_upd ..) rfl
    exact h1

theorem State.coreRun_upd (a1 : ℕ) (a2 : Msg) (s : State) :
    Upd 0x20000000004000000000000000000000000000000001b805000000000000000000000000000000000000000000000600000000000000000000000000000000000000000000000000000000000000000000000 s (State.coreRun a1 a2 s) := by
  unfold State.coreRun
  refine Upd.step ?_ (State.cipCount_upd ..) rfl
  refine Upd.step ?_ (State.modCore_upd ..) rfl
  exact Upd.refl _ _

theorem State.place_upd (a1 : Msg) (s : State) :
    Upd 0x20000000004000000000000000000000000000000001b805000000000000000000000000000000000000000000000600000000000000000000000000000000000000000000000000000000000000000000000 s (State.place a1 s) := by
  unfold State.place
  split
  · refine Upd.step ?_ (State.coreRun_upd ..) rfl
    exact Upd.refl _ _
  · refine Upd.ite ?_ ?_
    · extract_lets +onlyGivenNames -underBinder -merge -useContext x1
      try clear_value x1
      split
      · refine Upd.ite ?_ ?_
        · refine Upd.step ?_ (State.count_upd ..) rfl
          refine Upd.step ?_ (State.cipCount_upd ..) rfl
          refine Upd.step ?_ (State.modCore_upd ..) rfl
          exact Upd.refl _ _
        · refine Upd.step ?_ (State.cipCount_upd ..) rfl
          refine Upd.step ?_ (State.modCore_upd ..) rfl
          exact Upd.refl _ _
      · exact Upd.refl _ _
    · exact Upd.refl _ _

theorem State.inflight_upd (s : State) :
    Upd 0x200000000000000000000000000000000000000000000000000000000000000000000000 s (State.inflight s) := by
  unfold State.inflight
  refine Upd.setFld ?_ rfl
  exact Upd.refl _ _

theorem State.accept_upd (a1 : Msg) (s : State) :
    Upd 0x20000000004000000000000000000000000000000001b805000000000000000000000000000000000000000000000600000000000000000000000000000000000000000000000000000000000000000000000 s (State.accept a1 s) := by
  unfold State.accept
  refine Upd.step ?_ (State.inflight_upd ..) rfl
  refine Upd.step ?_ (State.place_upd ..) rfl
  refine Upd.step ?_ (State.modCip_upd ..) rfl
  exact Upd.refl _ _

theorem State.newMsg_upd (a1 : Msg) (s : State) :
    Upd 0x20000000004000000000000000000000000000000001b805000000000000000000000000000000000000000000000600000000000000000000000000000000000000000000000000000000000000000000000 s (State.newMsg a1 s) := by
  unfold State.newMsg
  extract_lets +onlyGivenNames -underBinder -merge -useContext x1
  try clear_value x1
  extract_lets +onlyGivenNames -underBinder -merge -useContext x2
  refine Upd.cut (t := x2) ?_ (fun h2 => ?_)
  · unfold x2
    refine Upd.step ?_ (State.modCip_upd ..) rfl
    exact Upd.refl _ _
  clear_value x2
  refine Upd.ite ?_ ?_
  · refine Upd.step ?_ (State.accept_upd ..) rfl
    exact h2
  · refine Upd.step ?_ (State.modCip_upd ..) rfl
    exact h2

theorem State.coreNext_upd (a1 : ℕ) (s : State) :
    Upd 0x20000000004000000000000000000000000000000001b805000000000000000000000000000000000000000000000600000000000000000000000000000000000000000000000000000000000000000000000 s (State.coreNext a1 s) := by
  unfold State.coreNext
  extract_lets +onlyGivenNames -underBinder -merge -useContext x1
  try clear_value x1
  split
  · refine Upd.step ?_ (State.modCore_upd ..) rfl
    exact Upd.refl _ _
  · split
    · refine Upd.step ?_ (State.modCore_upd ..) rfl
      exact Upd.refl _ _
    · split
      · refine Upd.ite ?_ ?_
        · refine Upd.step ?_ (State.coreRun_upd ..) rfl
          exact Upd.refl _ _
        · exact Upd.refl _ _
      · exact Upd.refl _ _

theorem State.coreDry_upd (a1 : ℕ) (s : State) :
    Upd 0x20000000004000000000000000000000000000000001b805000000000000000000000000000000000000000000000600000000000000000000000000000000000000000000000000000000000000000000000 s (State.coreDry a1 s) := by
  unfold State.coreDry
  extract_lets +onlyGivenNames -underBinder -merge -useContext x1
  try clear_value x1
  extract_lets +onlyGivenNames -underBinder -merge -useContext x2
  refine Upd.cut (t := x2) ?_ (fun h2 => ?_)
  · unfold x2
    refine Upd.step ?_ (State.useFree_upd ..) rfl
    exact Upd.refl _ _
  clear_value x2
  split
  · refine Upd.ite ?_ ?_
    · exact Upd.refl _ _
    · refine Upd.ite ?_ ?_
      · exact h2
      · extract_lets +onlyGivenNames -underBinder -merge -useContext x3
        refine Upd.cut (t := x3) ?_ (fun h3 => ?_)
        · unfold x3
          refine Upd.step ?_ (State.count_upd ..) rfl
          refine Upd.step ?_ (State.modCore_upd ..) rfl
          exact h2
        clear_value x3
        refine Upd.ite ?_ ?_
        · refine Upd.step ?_ (State.coreNext_upd ..) rfl
          exact h3
        · split
          · refine Upd.step ?_ (State.coreRun_upd ..) rfl
            exact h3
          · exact h3
  · refine Upd.ite ?_ ?_
    · exact Upd.refl _ _
    · refine Upd.when ?_ (fun x4 h4 => ?_)
      · exact h2
      · refine Upd.step ?_ (State.coreNext_upd ..) rfl
        exact h4

theorem State.coreDrop_upd (a1 : ℕ) (s : State) :
    Upd 0x20000000004000000000000000000000000000000001b805000000000000000000000000000000000000000000000600000000000000000000000000000000000000000000000000000000000000000000000 s (State.coreDrop a1 s) := by
  unfold State.coreDrop
  refine Upd.upto ?_ (fun n1 x1 h1 => ?_) _
  · exact Upd.refl _ _
  · extract_lets +onlyGivenNames -underBinder -merge -useContext x2
    try clear_value x2
    refine Upd.ite ?_ ?_
    · refine Upd.step ?_ (State.coreNext_upd ..) rfl
      refine Upd.step ?_ (State.modCore_upd ..) rfl
      exact h1
    · refine Upd.ite ?_ ?_
      · refine Upd.step ?_ (State.modCore_upd ..) rfl
        exact h1
      · exact h1

theorem State.admitMsgs_upd (a1 : ℕ) (s : State) : Upd 0x20000000004000000000000000000000000000000001b805000000000000000000000000000000000000000000000600000000000000000000000000000000000000000000000000000000000000000000000 s (State.admitMsgs a1 s) := by
  induction a1 generalizing s with
  | zero => exact Upd.refl _ _
  | succ n ih =>
    unfold State.admitMsgs
    repeat' first
      | with_reducible assumption
      | with_reducible exact Upd.refl _ _
      | with_reducible refine Upd.step ?_ (ih ..) ?_
      | (show Nat.land _ _ = _; rfl)
      | (show Nat.testBit _ _ = true; rfl)
      | (extract_lets +onlyGivenNames x; refine Upd.cut (t := x) ?_ (fun hx => ?_); (on_goal 2 => clear_value x); unfold x; clear x)
      | (extract_lets +onlyGivenNames x; clear_value x)
      | with_reducible apply Upd.ite
      | with_reducible refine Upd.step ?_ (State.modCip_upd ..) ?_
      | with_reducible refine Upd.step ?_ (State.accept_upd ..) ?_
      | split

theorem State.msgGone_upd (a1 : ℕ) (s : State) :
    Upd 0x20000000004000000000000000000000000000000001b805000000000000000000000000000000000000000000000600000000000000000000000000000000000000000000000000000000000000000000000 s (State.msgGone a1 s) := by
  unfold State.msgGone
  extract_lets +onlyGivenNames -underBinder -merge -useContext x1
  refine Upd.cut (t := x1) ?_ (fun h1 => ?_)
  · unfold x1
    refine Upd.step ?_ (State.inflight_upd ..) rfl
    refine Upd.step ?_ (State.modCip_upd ..) rfl
    exact Upd.refl _ _
  clear_value x1
  refine Upd.step ?_ (State.admitMsgs_upd ..) rfl
  exact h1

end Sys2Proof.Machine
end

