-- ==== Sys2Proof/Laws/FootHayloft.lean ====
section
/-! SUPPORT. The footprints of the operations of Machine/Hayloft.lean: what each may change. -/

set_option linter.unreachableTactic false
set_option linter.unusedTactic false
set_option linter.unusedVariables false

namespace Sys2Proof.Machine

theorem State.modHay_upd (a1 : Hay → Hay) (s : State) :
    Upd 0x10000000000000000000000000000000000000000000000000000000000000000000000000000000000000000000000000000000000000000000000000000000000000000000000000000000000 s (State.modHay a1 s) := by
  unfold State.modHay
  refine Upd.set_hay ?_ rfl
  exact Upd.refl _ _

theorem State.hayEntry_upd (a1 : ℕ) (a2 : ℕ) (a3 : ℕ) (a4 : ℕ) (s : State) :
    Upd 0x100000000000000000000000000000000000000000000000000000000000000000000000000000000000f0800000000000000000000000000000000000000000000000000000000000000000000 s (State.hayEntry a1 a2 a3 a4 s) := by
  unfold State.hayEntry
  extract_lets +onlyGivenNames -underBinder -merge -useContext x1
  try clear_value x1
  extract_lets +onlyGivenNames -underBinder -merge -useContext x2
  try clear_value x2
  refine Upd.step ?_ (State.modHay_upd ..) rfl
  refine Upd.setFld ?_ rfl
  refine Upd.wrN ?_ rfl
  refine Upd.wrN ?_ rfl
  refine Upd.wrN ?_ rfl
  refine Upd.wr ?_ rfl
  exact Upd.refl _ _

theorem State.hayOvr_upd (s : State) :
    Upd 0x800800000000000000000000000000000000000000000000000000000000000000000 s (State.hayOvr s) := by
  unfold State.hayOvr
  refine Upd.raise ?_ rfl
  refine Upd.bumpFld ?_ rfl
  exact Upd.refl _ _

theorem State.hayLog_upd (a1 : ℕ) (a2 : ℕ) (a3 : ℕ) (s : State) :
    Upd 0x100600000000000000000000000000008000010000000000000000000000000000000000000000000000f0800800000000000000000000000000000000000000000000000000000000000000000 s (State.hayLog a1 a2 a3 s) := by
  unfold State.hayLog
  extract_lets +onlyGivenNames -underBinder -merge -useContext x1
  refine Upd.cut (t := x1) ?_ (fun h1 => ?_)
  · unfold x1
    refine Upd.step ?_ (State.log_upd ..) rfl
    exact Upd.refl _ _
  clear_value x1
  extract_lets +onlyGivenNames -underBinder -merge -useContext x2
  try clear_value x2
  extract_lets +onlyGivenNames -underBinder -merge -useContext x3
  try clear_value x3
  refine Upd.ite ?_ ?_
  · refine Upd.bumpFld ?_ rfl
    exact h1
  · split
    · refine Upd.step ?_ (State.hayEntry_upd ..) rfl
      exact h1
    · refine Upd.ite ?_ ?_
      · split
        · refine Upd.step ?_ (State.hayEntry_upd ..) rfl
          refine Upd.step ?_ (State.hayOvr_upd ..) rfl
          exact h1
        · refine Upd.step ?_ (State.hayOvr_upd ..) rfl
          exact h1
      · split
        · refine Upd.step ?_ (State.hayEntry_upd ..) rfl
          refine Upd.step ?_ (State.hayOvr_upd ..) rfl
          exact h1
        · exact h1

theorem State.hayCe_upd (a1 : ℕ) (a2 : ℕ) (s : State) :
    Upd 0x20000000001006000000000000000000000000000081b8050000000000000000000000000000000000000000000000f0818800000000000000000000000000000000000000000000000000000000000000000 s (State.hayCe a1 a2 s) := by
  unfold State.hayCe
  refine Upd.step ?_ (State.hayLog_upd ..) rfl
  refine Upd.step ?_ (State.count_upd ..) rfl
  refine Upd.raise ?_ rfl
  refine Upd.add64 ?_ rfl rfl
  exact Upd.refl _ _

theorem State.poisonLine_upd (a1 : ℕ) (s : State) :
    Upd 0x10000000000000000000000000000000000000000000000000000000000000000000000000000000000000000000000000000000000000000000000000000000000000000000000000000000000 s (State.poisonLine a1 s) := by
  unfold State.poisonLine
  refine Upd.step ?_ (State.modHay_upd ..) rfl
  exact Upd.refl _ _

theorem State.hayUe_upd (a1 : ℕ) (a2 : Bool) (s : State) :
    Upd 0x20000000001a4620000000000000000000180000a281b8050000000000012002000000000000000000000000000000f092086600000800211300004000000000000000000000ce00000000000000000000000 s (State.hayUe a1 a2 s) := by
  unfold State.hayUe
  refine Upd.when ?_ (fun x1 h1 => ?_)
  · refine Upd.step ?_ (State.hayLog_upd ..) rfl
    refine Upd.raise ?_ rfl
    refine Upd.bump ?_ rfl
    refine Upd.step ?_ (State.poisonLine_upd ..) rfl
    exact Upd.refl _ _
  · refine Upd.step ?_ (State.detect_upd ..) rfl
    exact h1

theorem State.eccMend_upd (a1 : ℕ) (s : State) :
    Upd 0x10000000000000000000000000000000000000000000000000000000000000000000000000000000000000000000000000000000000000000000000000000000000000000000000000000000000 s (State.eccMend a1 s) := by
  unfold State.eccMend
  refine Upd.step ?_ (State.modHay_upd ..) rfl
  exact Upd.refl _ _

theorem State.hayDecode_upd (a1 : ℕ) (a2 : HayEcc) (a3 : Bool) (s : State) :
    Upd 0x20000000001a4620000000000000000000180000a281b8050000000000012002000000000000000000000000000000f093886600000800211300004000000000000000000000ce00000000000000000000000 s (State.hayDecode a1 a2 a3 s) := by
  unfold State.hayDecode
  split
  · exact Upd.refl _ _
  · refine Upd.step ?_ (State.hayCe_upd ..) rfl
    exact Upd.refl _ _
  · refine Upd.step ?_ (State.eccMend_upd ..) rfl
    refine Upd.step ?_ (State.hayUe_upd ..) rfl
    exact Upd.refl _ _

theorem State.hayRead_upd (a1 : ℕ) (a2 : HayEcc) (s : State) :
    Upd 0x20000000001a4620000000000000000000180000a281b8050000000000012002000000000000000000000000000000f093886600000800211300004000000000000000000000ce00000000000000000000000 s (State.hayRead a1 a2 s).2 := by
  unfold State.hayRead
  refine Upd.iteSnd ?_ ?_
  · refine Upd.pair ?_
    exact Upd.refl _ _
  · extract_lets +onlyGivenNames -underBinder -merge -useContext x1
    try clear_value x1
    refine Upd.pair ?_
    refine Upd.when ?_ (fun x2 h2 => ?_)
    · refine Upd.step ?_ (State.hayDecode_upd ..) rfl
      exact Upd.refl _ _
    · refine Upd.step ?_ (State.hayLog_upd ..) rfl
      refine Upd.raise ?_ rfl
      exact h2

theorem State.hayPut_upd (a1 : ℕ) (a2 : List Byte) (s : State) :
    Upd 0x20000000000000000000000000000000000000000000000000000000000000000000000000000000000000000000000000000000000000000000000000000000000000000000000000000000000 s (State.hayPut a1 a2 s) := by
  unfold State.hayPut
  exact Upd.set_hayMem (Upd.refl _ _) rfl fun h => Memory.wf_foldl (fun t b ht => Memory.wf_set ht _ _) _ h

theorem State.hayOpen_upd (a1 : ℕ) (s : State) :
    Upd 0x30000000000000000000000000000000000000000000000000000000000000000000000000000000000000000000000000000000000000000000000000000000000000000000000000000000000 s (State.hayOpen a1 s) := by
  unfold State.hayOpen
  refine Upd.ite (Upd.refl _ _) ?_
  exact Upd.set_hayMem (Upd.step (Upd.refl _ _) (State.modHay_upd ..) rfl) rfl fun h => Memory.wf_filter h _

theorem State.hayWhole_upd (a1 : ℕ) (a2 : List Byte) (s : State) :
    Upd 0x30000000000000000000000000000000000000000000000000000000000000000000000000000000000000000000000000000000000000000000000000000000000000000000000000000000000 s (State.hayWhole a1 a2 s) := by
  unfold State.hayWhole
  refine Upd.step ?_ (State.hayPut_upd ..) rfl
  refine Upd.step ?_ (State.modHay_upd ..) rfl
  refine Upd.step ?_ (State.hayOpen_upd ..) rfl
  exact Upd.refl _ _

theorem State.mergeOut_upd (a1 : Merge) (a2 : HayEcc) (s : State) :
    Upd 0x20000000003a4620000000000000000000180000a281b8050000000000012002000000000000000000000000000000f093886600000800211300004000000000000000000000ce00000000000000000000000 s (State.mergeOut a1 a2 s) := by
  unfold State.mergeOut
  extract_lets +onlyGivenNames -underBinder x y
  have hx : Upd 0x20000000003a4620000000000000000000180000a281b8050000000000012002000000000000000000000000000000f093886600000800211300004000000000000000000000ce00000000000000000000000 s x := Upd.step (Upd.refl _ _) (State.modHay_upd ..) rfl
  clear_value x
  have hy : Upd 0x20000000003a4620000000000000000000180000a281b8050000000000012002000000000000000000000000000000f093886600000800211300004000000000000000000000ce00000000000000000000000 s y := Upd.ite (Upd.step hx (State.hayWhole_upd ..) rfl)
    (Upd.step (Upd.step (Upd.step hx (State.hayRead_upd ..) rfl) (State.hayOpen_upd ..) rfl) (State.count_upd ..) rfl)
  clear_value y
  refine Upd.step (Upd.foldl hy (fun z b hz => ?_) _) (State.count_upd ..) rfl
  exact Upd.when hz fun u hu => Upd.step hu (State.hayPut_upd ..) rfl

theorem State.mergeRoom_upd (s : State) :
    Upd 0x20000000003a4620000000000000000000180000a281b8050000000000012002000000000000000000000000000000f093886600000800211300004000000000000000000000ce00000000000000000000000 s (State.mergeRoom s) := by
  unfold State.mergeRoom
  split
  · refine Upd.ite ?_ ?_
    · exact Upd.refl _ _
    · refine Upd.set_free ?_ rfl
      refine Upd.step ?_ (State.mergeOut_upd ..) rfl
      exact Upd.refl _ _
  · exact Upd.refl _ _

theorem State.mergeIn_upd (a1 : ℕ) (a2 : List Byte) (s : State) :
    Upd 0x20000000003a4620000000000000000000180000a281b8050000000000012002000000000000000000000000000000f093886600000800211300004000000000000000000000ce00000000000000000000000 s (State.mergeIn a1 a2 s) := by
  unfold State.mergeIn
  extract_lets +onlyGivenNames -underBinder -merge -useContext x1
  try clear_value x1
  extract_lets +onlyGivenNames -underBinder -merge -useContext x2
  try clear_value x2
  extract_lets +onlyGivenNames -underBinder -merge -useContext x3
  refine Upd.cut (t := x3) ?_ (fun h3 => ?_)
  · unfold x3
    split
    · refine Upd.step ?_ (State.count_upd ..) rfl
      refine Upd.step ?_ (State.modHay_upd ..) rfl
      exact Upd.refl _ _
    · refine Upd.step ?_ (State.modHay_upd ..) rfl
      refine Upd.step ?_ (State.mergeRoom_upd ..) rfl
      exact Upd.refl _ _
  clear_value x3
  split
  · refine Upd.when ?_ (fun x4 h4 => ?_)
    · exact h3
    · refine Upd.step ?_ (State.mergeOut_upd ..) rfl
      exact h4
  · exact h3

theorem State.hayAsk_upd (a1 : ℕ) (a2 : HayUse) (a3 : List Byte) (s : State) :
    Upd 0x10000000000000000000000000000000000000000000000000000000000000000000000000000000000000000000000000000000000000000000000000000000000000000000000000000000000 s (State.hayAsk a1 a2 a3 s) := by
  unfold State.hayAsk
  refine Upd.step ?_ (State.modHay_upd ..) rfl
  exact Upd.refl _ _

theorem State.takePages_upd (a1 : ℕ) (a2 : ℕ) (s : State) : Upd 0x200000000012000000000000000000000000000000000000000000000000000000000000000000000000000000000000000000000000000000000000000000000000000000000000000000000000000000000 s (State.takePages a1 a2 s) := by
  induction a2 generalizing a1 s with
  | zero => exact Upd.refl _ _
  | succ n ih =>
    unfold State.takePages
    repeat' first
      | with_reducible assumption
      | with_reducible exact Upd.refl _ _
      | with_reducible refine Upd.step ?_ (ih ..) ?_
      | (show Nat.land _ _ = _; rfl)
      | (show Nat.testBit _ _ = true; rfl)
      | (extract_lets +onlyGivenNames x; refine Upd.cut (t := x) ?_ (fun hx => ?_); (on_goal 2 => clear_value x); unfold x; clear x)
      | (extract_lets +onlyGivenNames x; clear_value x)
      | with_reducible apply Upd.ite
      | with_reducible refine Upd.step ?_ (State.hayAsk_upd ..) ?_
      | with_reducible refine Upd.step ?_ (State.useFree_upd ..) ?_
      | with_reducible refine Upd.step ?_ (State.modFlow_upd ..) ?_
      | split

theorem State.writeLines_upd (a1 : ℕ) (a2 : ℕ) (a3 : ℕ) (s : State) : Upd 0x12000000000000000000000000000000000000000000000000000000000000000000000000000000000000000000000000000000000000000000000000000000000000000000000000000000000 s (State.writeLines a1 a2 a3 s) := by
  induction a2 generalizing a1 a3 s with
  | zero => exact Upd.refl _ _
  | succ n ih =>
    unfold State.writeLines
    repeat' first
      | with_reducible assumption
      | with_reducible exact Upd.refl _ _
      | with_reducible refine Upd.step ?_ (ih ..) ?_
      | (show Nat.land _ _ = _; rfl)
      | (show Nat.testBit _ _ = true; rfl)
      | (extract_lets +onlyGivenNames x; refine Upd.cut (t := x) ?_ (fun hx => ?_); (on_goal 2 => clear_value x); unfold x; clear x)
      | (extract_lets +onlyGivenNames x; clear_value x)
      | with_reducible apply Upd.ite
      | with_reducible refine Upd.step ?_ (State.hayAsk_upd ..) ?_
      | with_reducible refine Upd.step ?_ (State.modFlow_upd ..) ?_
      | split

theorem State.hayAppend_upd (a1 : ℕ) (a2 : List Byte) (s : State) :
    Upd 0x200000000012000000000000000000000000000000000000000000000000000000000000000000000000000000000000000000000000000000000000000000000000000000000000000000000000000000000 s (State.hayAppend a1 a2 s) := by
  unfold State.hayAppend
  extract_lets +onlyGivenNames -underBinder -merge -useContext x1
  refine Upd.cut (t := x1) ?_ (fun h1 => ?_)
  · unfold x1
    refine Upd.step ?_ (State.takePages_upd ..) rfl
    exact Upd.refl _ _
  clear_value x1
  extract_lets +onlyGivenNames -underBinder -merge -useContext x2
  try clear_value x2
  refine Upd.step ?_ (State.writeLines_upd ..) rfl
  refine Upd.step ?_ (State.modFlow_upd ..) rfl
  exact h1

theorem State.closeTail_upd (a1 : ℕ) (s : State) :
    Upd 0x20000000003a4620000000000000000000180000a281b8050000000000012002000000000000000000000000000000f093886600000800211300004000000000000000000000ce00000000000000000000000 s (State.closeTail a1 s) := by
  unfold State.closeTail
  extract_lets +onlyGivenNames -underBinder -merge -useContext x1
  try clear_value x1
  extract_lets +onlyGivenNames -underBinder -merge -useContext x2
  refine Upd.cut (t := x2) ?_ (fun h2 => ?_)
  · unfold x2
    refine Upd.step ?_ (State.modFlow_upd ..) rfl
    exact Upd.refl _ _
  clear_value x2
  split
  · refine Upd.step ?_ (State.mergeIn_upd ..) rfl
    exact h2
  · exact h2

theorem State.readLine_upd (a1 : ℕ) (s : State) :
    Upd 0x12000000000000000000000000000000000000000000000000000000000000000000000000000000000000000000000000000000000000000000000000000000000000000000000000000000000 s (State.readLine a1 s) := by
  unfold State.readLine
  extract_lets +onlyGivenNames -underBinder -merge -useContext x1
  try clear_value x1
  extract_lets +onlyGivenNames -underBinder -merge -useContext x2
  refine Upd.cut (t := x2) ?_ (fun h2 => ?_)
  · unfold x2
    refine Upd.step ?_ (State.modFlow_upd ..) rfl
    exact Upd.refl _ _
  clear_value x2
  split
  · refine Upd.step ?_ (State.hayAsk_upd ..) rfl
    refine Upd.when ?_ (fun x3 h3 => ?_)
    · exact h2
    · refine Upd.step ?_ (State.hayAsk_upd ..) rfl
      exact h3
  · exact h2

theorem State.readLines_upd (a1 : ℕ) (a2 : ℕ) (s : State) : Upd 0x20000000003a4620000000000000000000180000a281b8050000000000012002000000000000000000000000000000f093886600000800211300004000000000000000000000ce00000000000000000000000 s (State.readLines a1 a2 s) := by
  induction a2 generalizing a1 s with
  | zero => exact Upd.refl _ _
  | succ n ih =>
    unfold State.readLines
    repeat' first
      | with_reducible assumption
      | with_reducible exact Upd.refl _ _
      | with_reducible refine Upd.step ?_ (ih ..) ?_
      | (show Nat.land _ _ = _; rfl)
      | (show Nat.testBit _ _ = true; rfl)
      | (extract_lets +onlyGivenNames x; refine Upd.cut (t := x) ?_ (fun hx => ?_); (on_goal 2 => clear_value x); unfold x; clear x)
      | (extract_lets +onlyGivenNames x; clear_value x)
      | with_reducible apply Upd.ite
      | with_reducible refine Upd.step ?_ (State.closeTail_upd ..) ?_
      | with_reducible refine Upd.step ?_ (State.readLine_upd ..) ?_
      | split

theorem State.readBack_upd (s : State) :
    Upd 0x20000000003a4620000000000000000000180000a281b8050000000000012002000000000000000000000000000000f093886600000800211300004000000000000000000000ce00000000000000000000000 s (State.readBack s) := by
  unfold State.readBack
  refine Upd.ite ?_ ?_
  · refine Upd.each ?_ (fun n1 x1 h1 => ?_) _
    · exact Upd.refl _ _
    · refine Upd.ite ?_ ?_
      · refine Upd.step ?_ (State.readLines_upd ..) rfl
        exact h1
      · exact h1
  · exact Upd.refl _ _

theorem State.lineGot_upd (a1 : ℕ) (a2 : ℕ) (s : State) :
    Upd 0x2000000000000000000000000000000000000000000000000000000000000000000000000000000000000000000000000000000000000000000000000000000000000000000000000000000000 s (State.lineGot a1 a2 s) := by
  unfold State.lineGot
  split
  · refine Upd.step ?_ (State.modFlow_upd ..) rfl
    exact Upd.refl _ _
  · exact Upd.refl _ _

theorem State.poisonFrames_upd (a1 : ℕ) (a2 : ℕ) (s : State) :
    Upd 0x20000000001a00000000000000000000000000000001b805000000000000000000000000000000000000000000000000100078600008000113000040000000000000000000000000000000000000000000000 s (State.poisonFrames a1 a2 s) := by
  unfold State.poisonFrames
  split
  · refine Upd.step ?_ (State.departed_upd ..) rfl
    refine Upd.step ?_ (State.purge_upd ..) rfl
    refine Upd.step ?_ (State.modFlow_upd ..) rfl
    exact Upd.refl _ _
  · exact Upd.refl _ _

theorem State.metaLoss_upd (a1 : ℕ) (a2 : ℕ) (a3 : ℕ) (s : State) :
    Upd 0x20000000001a06000000000000000000000000000081b8050000000000000000000000000000000000000000000000f0d00878600008000113000040000000000000000000000000000000000000000000000 s (State.metaLoss a1 a2 a3 s) := by
  unfold State.metaLoss
  extract_lets +onlyGivenNames -underBinder -merge -useContext x1
  refine Upd.cut (t := x1) ?_ (fun h1 => ?_)
  · unfold x1
    refine Upd.step ?_ (State.hayLog_upd ..) rfl
    refine Upd.raise ?_ rfl
    exact Upd.refl _ _
  clear_value x1
  extract_lets +onlyGivenNames -underBinder -merge -useContext x2
  try clear_value x2
  split
  · exact h1
  · extract_lets +onlyGivenNames -underBinder -merge -useContext x3
    try clear_value x3
    extract_lets +onlyGivenNames -underBinder -merge -useContext x4
    try clear_value x4
    extract_lets +onlyGivenNames -underBinder -merge -useContext x5
    try clear_value x5
    extract_lets +onlyGivenNames -underBinder -merge -useContext x6
    refine Upd.cut (t := x6) ?_ (fun h6 => ?_)
    · unfold x6
      refine Upd.step ?_ (State.modHay_upd ..) rfl
      refine Upd.step ?_ (State.modFlow_upd ..) rfl
      exact h1
    clear_value x6
    refine Upd.step ?_ (State.departed_upd ..) rfl
    refine Upd.step ?_ (State.purge_upd ..) rfl
    refine Upd.wrN ?_ rfl
    refine Upd.add64 ?_ rfl rfl
    exact h6

theorem State.retCode_upd (a1 : ℕ) (s : State) :
    Upd 0x100800000000000000000000000000000000000000000000000000000000000000000 s (State.retCode a1 s) := by
  unfold State.retCode
  refine Upd.raise ?_ (by first | rfl | (split <;> rfl) | (unfold enterEvt; split <;> rfl) | (unfold pendFld; split <;> rfl) | (rw [padFld_reg (by assumption)]; rfl) | (unfold phWord; rcases a2 with _ | _ | _ | _ | _ | a2 <;> rfl) | exact RegId.all_bit rfl _)
  refine Upd.setFld ?_ (by first | rfl | (split <;> rfl) | (unfold enterEvt; split <;> rfl) | (unfold pendFld; split <;> rfl) | (rw [padFld_reg (by assumption)]; rfl) | (unfold phWord; rcases a2 with _ | _ | _ | _ | _ | a2 <;> rfl) | exact RegId.all_bit rfl _)
  exact Upd.refl _ _

theorem State.retCmdWrite_upd (a1 : W32) (s : State) :
    Upd 0x10000000000000000000000000000000000000000000000000000000000000000000000000000000000000300800000000000000000000000000000000000000000000000000000000000000000 s (State.retCmdWrite a1 s) := by
  unfold State.retCmdWrite
  extract_lets +onlyGivenNames -underBinder -merge -useContext x1
  try clear_value x1
  extract_lets +onlyGivenNames -underBinder -merge -useContext x2
  try clear_value x2
  split
  · refine Upd.ite ?_ ?_
    · refine Upd.step ?_ (State.retCode_upd ..) rfl
      exact Upd.refl _ _
    · refine Upd.ite ?_ ?_
      · refine Upd.step ?_ (State.retCode_upd ..) rfl
        exact Upd.refl _ _
      · refine Upd.ite ?_ ?_
        · refine Upd.step ?_ (State.retCode_upd ..) rfl
          exact Upd.refl _ _
        · refine Upd.step ?_ (State.retCode_upd ..) rfl
          refine Upd.step ?_ (State.retShow_upd ..) rfl
          refine Upd.step ?_ (State.modHay_upd ..) rfl
          exact Upd.refl _ _
  · refine Upd.ite ?_ ?_
    · refine Upd.step ?_ (State.retCode_upd ..) rfl
      refine Upd.step ?_ (State.retShow_upd ..) rfl
      refine Upd.step ?_ (State.modHay_upd ..) rfl
      exact Upd.refl _ _
    · refine Upd.step ?_ (State.retCode_upd ..) rfl
      exact Upd.refl _ _
  · split
    · refine Upd.step ?_ (State.retCode_upd ..) rfl
      refine Upd.wr ?_ rfl
      exact Upd.refl _ _
    · refine Upd.step ?_ (State.retCode_upd ..) rfl
      exact Upd.refl _ _
  · refine Upd.step ?_ (State.retCode_upd ..) rfl
    exact Upd.refl _ _

theorem execRetAdd_upd (a1 : Master) (a2 : W32) (s : State) :
    ∃ t, execRetAdd a1 a2 s = .next t ∧ Upd 0x20000000201007000000000000000000000060000081b805000000000000000000000000000000000000000000000000300800000000000000000000000000000000000000000000000000000000006203400 s t := by
  unfold execRetAdd
  refine ⟨_, rfl, ?_⟩
  refine Upd.guardW ?_ (fun x1 h1 => ?_) rfl
  · exact Upd.refl _ _
  · refine Upd.step ?_ (State.retCmdWrite_upd ..) rfl
    exact h1

theorem execRetRemove_upd (a1 : Master) (a2 : W32) (s : State) :
    ∃ t, execRetRemove a1 a2 s = .next t ∧ Upd 0x20000000201007000000000000000000000060000081b805000000000000000000000000000000000000000000000000300800000000000000000000000000000000000000000000000000000000006203400 s t := by
  unfold execRetRemove
  refine ⟨_, rfl, ?_⟩
  refine Upd.guardW ?_ (fun x1 h1 => ?_) rfl
  · exact Upd.refl _ _
  · refine Upd.step ?_ (State.retCmdWrite_upd ..) rfl
    exact h1

theorem execRetRead_upd (a1 : Master) (a2 : W32) (s : State) :
    ∃ t, execRetRead a1 a2 s = .next t ∧ Upd 0x20000000201007000000000000000000000060000081b805000000000000000000000000000000000000000000000000300800000000000000000000000000000000000000000000000000000000006203400 s t := by
  unfold execRetRead
  refine ⟨_, rfl, ?_⟩
  refine Upd.guardW ?_ (fun x1 h1 => ?_) rfl
  · exact Upd.refl _ _
  · refine Upd.step ?_ (State.retCmdWrite_upd ..) rfl
    exact h1

theorem State.capture_upd (a1 : ℕ) (a2 : List Byte) (s : State) :
    Upd 0x10000000000000000000000000000000000000000000000000000000000000000000000000000000000005100800000000000000000000000000000000000000000000000000000000000000000 s (State.capture a1 a2 s) := by
  unfold State.capture
  refine Upd.ite ?_ ?_
  · exact Upd.refl _ _
  · extract_lets +onlyGivenNames -underBinder -merge -useContext x1
    try clear_value x1
    extract_lets +onlyGivenNames -underBinder -merge -useContext x2
    try clear_value x2
    refine Upd.ite ?_ ?_
    · refine Upd.step ?_ (State.retSettle_upd ..) rfl
      refine Upd.raise ?_ rfl
      refine Upd.setFlag ?_ rfl
      exact Upd.refl _ _
    · refine Upd.wrN ?_ rfl
      refine Upd.step ?_ (State.modHay_upd ..) rfl
      exact Upd.refl _ _

theorem State.capWrite_upd (s : State) :
    Upd 0x30000000000000000000000000000000000000000000000000000000000000000000000000000000000002000000000000000000000000000000000000000000000000000000000000000000000 s (State.capWrite s) := by
  unfold State.capWrite
  split
  · exact Upd.refl _ _
  · extract_lets +onlyGivenNames -underBinder -merge -useContext x1
    try clear_value x1
    extract_lets +onlyGivenNames -underBinder -merge -useContext x2
    refine Upd.cut (t := x2) ?_ (fun h2 => ?_)
    · unfold x2
      refine Upd.each ?_ (fun n3 x3 h3 => ?_) _
      · refine Upd.step ?_ (State.modHay_upd ..) rfl
        exact Upd.refl _ _
      · refine Upd.step ?_ (State.hayWhole_upd ..) rfl
        exact h3
    clear_value x2
    refine Upd.wrN ?_ rfl
    exact h2

theorem State.capCfgWrite_upd (a1 : W32) (s : State) :
    Upd 0x30000000000000000000000000000000000000000000000000000000000000000000000000000000000007100800000000000000000000000000000000000000000000000000000000000000000 s (State.capCfgWrite a1 s) := by
  unfold State.capCfgWrite
  refine Upd.step ?_ (State.retSettle_upd ..) rfl
  refine Upd.when ?_ (fun x hx => ?_)
  · refine Upd.when ?_ (fun x hx => ?_)
    · exact (Upd.refl _ _).plainWrite rfl
    · exact (hx.setFlag rfl).raise rfl
  · refine Upd.wr (Upd.wr ?_ rfl) rfl
    exact Upd.set_hayMem (Upd.step hx (State.modHay_upd ..) rfl) rfl fun h => Memory.wf_filter h _

theorem execCapCfgWrite_upd (a1 : Master) (a2 : W32) (s : State) :
    ∃ t, execCapCfgWrite a1 a2 s = .next t ∧ Upd 0x20000000203007000000000000000000000060000081b805000000000000000000000000000000000000000000000007100800000000000000000000000000000000000000000000000000000000006203400 s t := by
  unfold execCapCfgWrite
  refine ⟨_, rfl, ?_⟩
  refine Upd.guardW ?_ (fun x1 h1 => ?_) rfl
  · exact Upd.refl _ _
  · refine Upd.step ?_ (State.capCfgWrite_upd ..) rfl
    exact h1

theorem execCapClr_upd (a1 : Master) (a2 : W32) (s : State) :
    ∃ t, execCapClr a1 a2 s = .next t ∧ Upd 0x20000000203007000000000000000000000060000081b805000000000000000000000000000000000000000000000007100800000000000000000000000000000000000000000000000000000000006203400 s t := by
  unfold execCapClr
  refine ⟨_, rfl, ?_⟩
  refine Upd.guardW ?_ (fun x1 h1 => ?_) rfl
  · exact Upd.refl _ _
  · refine Upd.step ?_ (State.capCfgWrite_upd ..) rfl
    exact h1

theorem execCapDrop_upd (s : State) :
    ∃ t, execCapDrop s = .next t ∧ Upd 0x10000000000000000000000000000000000000000000000000000000000000000000000000000000000008000000000000000000000000000000000000000000000000000000000000000000000 s t := by
  unfold execCapDrop
  refine ⟨_, rfl, ?_⟩
  refine Upd.ite ?_ ?_
  · refine Upd.bump ?_ rfl
    refine Upd.step ?_ (State.modHay_upd ..) rfl
    exact Upd.refl _ _
  · exact Upd.refl _ _

theorem State.deskewBad_upd (a1 : ℕ) (s : State) :
    Upd 0x4000000000000000000000000000000000000000000000000000000000000000000000000000000000000000000000000000000000000000000000000000000000000000000000000000000000 s (State.deskewBad a1 s) := by
  unfold State.deskewBad
  refine Upd.set_delin ?_ rfl
  exact Upd.refl _ _

theorem State.descrDone_upd (a1 : ℕ) (a2 : ℕ) (a3 : Bool) (a4 : Bool) (s : State) :
    Upd 0x20000000001a06000000000000000000000000000081b8050000000000000000000000000000000000000000000000f0d00878600008000113000040000000000000000000000000000000000000000000000 s (State.descrDone a1 a2 a3 a4 s) := by
  unfold State.descrDone
  refine Upd.ite ?_ ?_
  · exact Upd.refl _ _
  · refine Upd.ite ?_ ?_
    · refine Upd.when ?_ (fun x1 h1 => ?_)
      · exact Upd.refl _ _
      · refine Upd.step ?_ (State.hayAsk_upd ..) rfl
        exact h1
    · refine Upd.ite ?_ ?_
      · refine Upd.step ?_ (State.metaLoss_upd ..) rfl
        exact Upd.refl _ _
      · refine Upd.step ?_ (State.modHay_upd ..) rfl
        exact Upd.refl _ _

theorem State.reqDone_upd (a1 : HayReq) (a2 : Bool) (s : State) :
    Upd 0x20000000003e06800000000000000000000000000081b8050000000000000000000000000000000000000000000000f2d00878600008000113000040000000000000000000000000000000000000000000000 s (State.reqDone a1 a2 s) := by
  unfold State.reqDone
  split
  · refine Upd.ite ?_ ?_
    · refine Upd.step ?_ (State.poisonFrames_upd ..) rfl
      exact Upd.refl _ _
    · refine Upd.step ?_ (State.hayWhole_upd ..) rfl
      exact Upd.refl _ _
  · refine Upd.when ?_ (fun x1 h1 => ?_)
    · refine Upd.step ?_ (State.lineGot_upd ..) rfl
      exact Upd.refl _ _
    · refine Upd.step ?_ (State.poisonFrames_upd ..) rfl
      exact h1
  · refine Upd.when ?_ (fun x2 h2 => ?_)
    · exact Upd.refl _ _
    · refine Upd.step ?_ (State.hayOpen_upd ..) rfl
      exact h2
  · refine Upd.step ?_ (State.descrDone_upd ..) rfl
    exact Upd.refl _ _
  · refine Upd.when ?_ (fun x3 h3 => ?_)
    · refine Upd.step ?_ (State.modGrp_upd ..) rfl
      exact Upd.refl _ _
    · refine Upd.step ?_ (State.hayWhole_upd ..) rfl
      exact h3
  · refine Upd.when ?_ (fun x4 h4 => ?_)
    · exact Upd.refl _ _
    · refine Upd.step ?_ (State.deskewBad_upd ..) rfl
      exact h4
  · refine Upd.step ?_ (State.capWrite_upd ..) rfl
    exact Upd.refl _ _

theorem State.accessDone_upd (a1 : HayAcc) (a2 : HayReq) (s : State) :
    Upd 0x20000000003e46a0000000000000000000180000a281b8050000000000012002000000000000000000000000000000f2d3887e60000800211300004000000000000000000000ce00000000000000000000000 s (State.accessDone a1 a2 s) := by
  unfold State.accessDone
  extract_lets +onlyGivenNames -underBinder x y
  have hx : Upd 0x20000000003e46a0000000000000000000180000a281b8050000000000012002000000000000000000000000000000f2d3887e60000800211300004000000000000000000000ce00000000000000000000000 s x := by
    unfold x
    split <;> exact Upd.step (Upd.step (Upd.refl _ _) (State.modHay_upd ..) rfl) (State.count_upd ..) rfl
  clear_value x
  have hy : Upd 0x20000000003e46a0000000000000000000180000a281b8050000000000012002000000000000000000000000000000f2d3887e60000800211300004000000000000000000000ce00000000000000000000000 s y.2 := Upd.iteSnd (Upd.step hx (State.hayRead_upd ..) rfl) hx
  clear_value y
  exact Upd.step (Upd.step hy (State.reqDone_upd ..) rfl) (State.readBack_upd ..) rfl

theorem execHayAccessDone_upd (a1 : HayAcc) (s : State) :
    ∃ t, execHayAccessDone a1 s = .next t ∧ Upd 0x20000000003e46a0000000000000000000180000a281b8050000000000012002000000000000000000000000000000f2d3887e60000800211300004000000000000000000000ce00000000000000000000000 s t := by
  unfold execHayAccessDone
  refine ⟨_, rfl, ?_⟩
  split
  · refine Upd.ite ?_ ?_
    · refine Upd.step ?_ (State.accessDone_upd ..) rfl
      exact Upd.refl _ _
    · exact Upd.refl _ _
  · exact Upd.refl _ _

theorem State.accessLate_upd (a1 : HayAcc) (a2 : HayReq) (s : State) :
    Upd 0x20000000003e46a0000000000000000000180000a281b8050000000000012002000000000000000000000000000000f2d7887e60000800211300004000000000000000000000ce00000000000000000000000 s (State.accessLate a1 a2 s) := by
  unfold State.accessLate
  extract_lets +onlyGivenNames -underBinder -merge -useContext x1
  refine Upd.cut (t := x1) ?_ (fun h1 => ?_)
  · unfold x1
    refine Upd.step ?_ (State.count_upd ..) rfl
    refine Upd.step ?_ (State.detect_upd ..) rfl
    refine Upd.raise ?_ rfl
    refine Upd.bump ?_ rfl
    refine Upd.step ?_ (State.hayLog_upd ..) rfl
    refine Upd.step ?_ (State.modHay_upd ..) rfl
    exact Upd.refl _ _
  clear_value x1
  refine Upd.step ?_ (State.readBack_upd ..) rfl
  refine Upd.step ?_ (State.reqDone_upd ..) rfl
  exact h1

theorem execAccTimeout_upd (a1 : HayAcc) (s : State) :
    ∃ t, execAccTimeout a1 s = .next t ∧ Upd 0x20000000003e46a0000000000000000000180000a281b8050000000000012002000000000000000000000000000000f2d7887e60000800211300004000000000000000000000ce00000000000000000000000 s t := by
  unfold execAccTimeout
  refine ⟨_, rfl, ?_⟩
  split
  · refine Upd.ite ?_ ?_
    · refine Upd.step ?_ (State.accessLate_upd ..) rfl
      exact Upd.refl _ _
    · exact Upd.refl _ _
  · exact Upd.refl _ _

theorem execMergeWriteBack_upd (a1 : ℕ) (a2 : HayEcc) (s : State) :
    ∃ t, execMergeWriteBack a1 a2 s = .next t ∧ Upd 0x20000000003a4620000000000000000000180000a281b8050000000000012002000000000000000000000000000000f093886600000800211300004000000000000000000000ce00000000000000000000000 s t := by
  unfold execMergeWriteBack
  refine ⟨_, rfl, ?_⟩
  split
  · refine Upd.ite ?_ ?_
    · refine Upd.step ?_ (State.retSettle_upd ..) rfl
      refine Upd.step ?_ (State.mergeOut_upd ..) rfl
      exact Upd.refl _ _
    · exact Upd.refl _ _
  · exact Upd.refl _ _

theorem execScrubRead_upd (a1 : ℕ) (a2 : HayEcc) (s : State) :
    ∃ t, execScrubRead a1 a2 s = .next t ∧ Upd 0x20000000001a4620000000000000000000180000a281b8050000000000012002000000000000000000000000000000f0938c6600000800211300004000000000000000000000ce00000000000000000000000 s t := by
  unfold execScrubRead
  refine ⟨_, rfl, ?_⟩
  refine Upd.ite ?_ ?_
  · extract_lets +onlyGivenNames -underBinder -merge -useContext x1
    refine Upd.cut (t := x1) ?_ (fun h1 => ?_)
    · unfold x1
      refine Upd.step ?_ (State.hayDecode_upd ..) rfl
      refine Upd.step ?_ (State.count_upd ..) rfl
      refine Upd.step ?_ (State.count_upd ..) rfl
      exact Upd.refl _ _
    clear_value x1
    refine Upd.ite ?_ ?_
    · refine Upd.raise ?_ rfl
      refine Upd.setFld ?_ rfl
      refine Upd.setFld ?_ rfl
      refine Upd.step ?_ (State.modHay_upd ..) rfl
      exact h1
    · refine Upd.setFld ?_ rfl
      refine Upd.step ?_ (State.modHay_upd ..) rfl
      exact h1
  · exact Upd.refl _ _

theorem State.answer_upd (a1 : Master) (a2 : W32) (s : State) :
    Upd 0x10000000000000000000000000000000000000000000000000000000000000000000000000000000000000000000000000000000000000000000000000000000000000000000000000000000 s (State.answer a1 a2 s) := by
  unfold State.answer
  refine Upd.step ?_ (State.modFab_upd ..) rfl
  exact Upd.refl _ _

theorem State.apertureRead_upd (a1 : Master) (a2 : ℕ) (a3 : HayEcc) (s : State) :
    Upd 0x20000000001a4720000000000000000000180000a281b8050000000000012002000000000000000000000000000000f093c86600000800211300004000000000000000000000ce00000000000000000000000 s (State.apertureRead a1 a2 a3 s) := by
  unfold State.apertureRead
  extract_lets +onlyGivenNames -underBinder -merge -useContext x1
  try clear_value x1
  extract_lets +onlyGivenNames -underBinder -merge -useContext x2
  try clear_value x2
  extract_lets +onlyGivenNames -underBinder -merge -useContext x3
  refine Upd.cut (t := x3) ?_ (fun h3 => ?_)
  · unfold x3
    refine Upd.when ?_ (fun x4 h4 => ?_)
    · refine Upd.step ?_ (State.useFree_upd ..) rfl
      exact Upd.refl _ _
    · refine Upd.raise ?_ rfl
      exact h4
  clear_value x3
  extract_lets +onlyGivenNames -underBinder -merge -useContext x5
  refine Upd.cut (t := x5) ?_ (fun h5 => ?_)
  · unfold x5
    refine Upd.ite ?_ ?_
    · refine Upd.when ?_ (fun x6 h6 => ?_)
      · refine Upd.step ?_ (State.hayDecode_upd ..) rfl
        exact h3
      · refine Upd.raise ?_ rfl
        exact h6
    · refine Upd.raise ?_ rfl
      exact h3
  clear_value x5
  refine Upd.step ?_ (State.answer_upd ..) rfl
  exact h5

theorem State.apertureWrite_upd (a1 : ℕ) (a2 : W32) (s : State) :
    Upd 0x20000000003a4620000000000000000000180000a281b8050000000000012002000000000000000000000000000000f093c86600000800211300004000000000000000000000ce00000000000000000000000 s (State.apertureWrite a1 a2 s) := by
  unfold State.apertureWrite
  extract_lets +onlyGivenNames -underBinder -merge -useContext x1
  refine Upd.cut (t := x1) ?_ (fun h1 => ?_)
  · unfold x1
    refine Upd.when ?_ (fun x2 h2 => ?_)
    · exact Upd.refl _ _
    · refine Upd.raise ?_ rfl
      exact h2
  clear_value x1
  refine Upd.ite ?_ ?_
  · refine Upd.step ?_ (State.mergeIn_upd ..) rfl
    exact h1
  · refine Upd.raise ?_ rfl
    refine Upd.raise ?_ rfl
    exact h1

theorem Upd.aptGuard {w : Nat} {s t : State} {m : Master} {b : Bool} {off : Nat} {f : State → State} (h : Upd w s t) (hf : ∀ x, Upd w s x → Upd w s (f x))
    (hw : Nat.land 0x10000000000000000000000000000000000000000000000000000000000000000000000000000000000000000000000000000000000000000000000000000000000000000000000006200000 w = 0x10000000000000000000000000000000000000000000000000000000000000000000000000000000000000000000000000000000000000000000000000000000000000000000000006200000) :
    Upd w s (State.aptGuard m b off f t) := by
  unfold State.aptGuard
  repeat' first
    | with_reducible assumption
    | with_reducible exact Upd.refl _ _
    | (show Nat.testBit _ _ = true; with_reducible assumption)
    | (show Nat.land _ _ = _; exact land_trans (b := 0x10000000000000000000000000000000000000000000000000000000000000000000000000000000000000000000000000000000000000000000000000000000000000000000000006200000) rfl hw)
    | (show Nat.testBit _ _ = true; exact testBit_up (a := 0x10000000000000000000000000000000000000000000000000000000000000000000000000000000000000000000000000000000000000000000000000000000000000000000000006200000) hw rfl)
    | with_reducible refine hf _ ?_
    | (extract_lets +onlyGivenNames x; refine Upd.cut (t := x) ?_ (fun hx => ?_); (on_goal 2 => clear_value x); unfold x; clear x)
    | (extract_lets +onlyGivenNames x; clear_value x)
    | with_reducible apply Upd.ite
    | with_reducible refine Upd.step ?_ (State.answer_upd ..) ?_
    | with_reducible refine Upd.step ?_ (State.accessErr_upd ..) ?_
    | split

theorem execApertureRead_upd (a1 : Master) (a2 : ℕ) (a3 : HayEcc) (s : State) :
    ∃ t, execApertureRead a1 a2 a3 s = .next t ∧ Upd 0x20000000001a4720000000000000000000186000a281b8050000000000012002000000000000000000000000000000f093c86600000800211300004000000000000000000000ce00000000000000006200000 s t := by
  unfold execApertureRead
  refine ⟨_, rfl, ?_⟩
  refine Upd.issue ?_ (fun x1 h1 => ?_) rfl
  · exact Upd.refl _ _
  · refine Upd.aptGuard ?_ (fun x2 h2 => ?_) rfl
    · exact h1
    · refine Upd.step ?_ (State.apertureRead_upd ..) rfl
      exact h2

theorem execApertureWrite_upd (a1 : Master) (a2 : ℕ) (a3 : W32) (s : State) :
    ∃ t, execApertureWrite a1 a2 a3 s = .next t ∧ Upd 0x20000000003a4720000000000000000000186000a281b8050000000000012002000000000000000000000000000000f093c86600000800211300004000000000000000000000ce00000000000000006200000 s t := by
  unfold execApertureWrite
  refine ⟨_, rfl, ?_⟩
  refine Upd.issue ?_ (fun x1 h1 => ?_) rfl
  · exact Upd.refl _ _
  · refine Upd.aptGuard ?_ (fun x2 h2 => ?_) rfl
    · exact h1
    · refine Upd.step ?_ (State.apertureWrite_upd ..) rfl
      exact h2

theorem State.hayCfgWrite_upd (a1 : W32) (s : State) :
    Upd 0x880000000000000000000000000000000000000000000000000000000000000000 s (State.hayCfgWrite a1 s) := by
  unfold State.hayCfgWrite
  extract_lets +onlyGivenNames -underBinder -merge -useContext x1
  try clear_value x1
  extract_lets +onlyGivenNames -underBinder -merge -useContext x2
  try clear_value x2
  extract_lets +onlyGivenNames -underBinder -merge -useContext x3
  refine Upd.cut (t := x3) ?_ (fun h3 => ?_)
  · unfold x3
    refine Upd.plainWrite ?_ rfl
    exact Upd.refl _ _
  clear_value x3
  refine Upd.ite ?_ ?_
  · exact h3
  · refine Upd.when ?_ (fun x4 h4 => ?_)
    · refine Upd.wr ?_ rfl
      exact h3
    · refine Upd.raise ?_ rfl
      exact h4

theorem execHayCfgWrite_upd (a1 : Master) (a2 : W32) (s : State) :
    ∃ t, execHayCfgWrite a1 a2 s = .next t ∧ Upd 0x20000000200807000000000000000000000060000081b8050000000000000000000000000000000000000000000000000008e0000008000003000040000000000000000000000000000000000000006203400 s t := by
  unfold execHayCfgWrite
  refine ⟨_, rfl, ?_⟩
  refine Upd.guardW ?_ (fun x1 h1 => ?_) rfl
  · exact Upd.refl _ _
  · refine Upd.step ?_ (State.pauseAll_upd ..) rfl
    refine Upd.each ?_ (fun n2 x2 h2 => ?_) _
    · refine Upd.step ?_ (State.hayCfgWrite_upd ..) rfl
      exact h1
    · refine Upd.step ?_ (State.xoffFlow_upd ..) rfl
      exact h2

end Sys2Proof.Machine
end

