-- ==== Sys2Proof/Laws/FootStream.lean ====
section
/-! SUPPORT. The footprints of the operations of Machine/Stream.lean: what each may change. -/

set_option linter.unreachableTactic false
set_option linter.unusedTactic false
set_option linter.unusedVariables false

namespace Sys2Proof.Machine

theorem State.streamOut_upd (a1 : ℕ) (a2 : List Byte) (s : State) :
    Upd 0x8000000000000000000000000000000000000000000000000000000000000000000000000000000000000000000000000000000000000000000000000000000000000000000000000000000 s (State.streamOut a1 a2 s) := by
  unfold State.streamOut
  extract_lets +onlyGivenNames -underBinder -merge -useContext x1
  try clear_value x1
  extract_lets +onlyGivenNames -underBinder -merge -useContext x2
  try clear_value x2
  extract_lets +onlyGivenNames -underBinder -merge -useContext x3
  try clear_value x3
  extract_lets +onlyGivenNames -underBinder -merge -useContext x4
  try clear_value x4
  extract_lets +onlyGivenNames -underBinder -merge -useContext x5
  try clear_value x5
  extract_lets +onlyGivenNames -underBinder -merge -useContext x6
  try clear_value x6
  refine Upd.step ?_ (State.modGrp_upd ..) rfl
  exact Upd.refl _ _

theorem State.sealOpen_upd (a1 : ℕ) (s : State) :
    Upd 0x40000000000000000000000000000000000000000000000000000000000000000000000000000000000000000000000000000000000000000000000000000000000000000000000000000000000 s (State.sealOpen a1 s) := by
  unfold State.sealOpen
  extract_lets +onlyGivenNames -underBinder -merge -useContext x1
  try clear_value x1
  extract_lets +onlyGivenNames -underBinder -merge -useContext x2
  try clear_value x2
  extract_lets +onlyGivenNames -underBinder -merge -useContext x3
  try clear_value x3
  split
  · exact Upd.refl _ _
  · refine Upd.step ?_ (State.modGctx_upd ..) rfl
    exact Upd.refl _ _

theorem State.sealClose_upd (a1 : ℕ) (s : State) :
    Upd 0x20000000004000000000000000000000000000000001b805000000000000000000000000000000000000000000000600000000000000000000000000000000000000000000000000000000000000000000000 s (State.sealClose a1 s) := by
  unfold State.sealClose
  split
  · exact Upd.refl _ _
  · extract_lets +onlyGivenNames -underBinder -merge -useContext x1
    try clear_value x1
    refine Upd.step ?_ (State.newMsg_upd ..) rfl
    refine Upd.step ?_ (State.modGctx_upd ..) rfl
    exact Upd.refl _ _

theorem State.sealGo_upd (a1 : ℕ) (a2 : ℕ) (a3 : ℕ) (a4 : List Byte) (s : State) : Upd 0x20000000004000000000000000000000000000000001b805000000000000000000000000000000000000000000000600000000000000000000000000000000000000000000000000000000000000000000000 s (State.sealGo a1 a2 a3 a4 s) := by
  induction a3 generalizing a1 a2 a4 s with
  | zero => exact Upd.refl _ _
  | succ n ih =>
    unfold State.sealGo
    repeat' first
      | with_reducible assumption
      | with_reducible exact Upd.refl _ _
      | with_reducible refine Upd.step ?_ (ih ..) ?_
      | (show Nat.land _ _ = _; rfl)
      | (show Nat.testBit _ _ = true; rfl)
      | (extract_lets +onlyGivenNames x; refine Upd.cut (t := x) ?_ (fun hx => ?_); (on_goal 2 => clear_value x); unfold x; clear x)
      | (extract_lets +onlyGivenNames x; clear_value x)
      | with_reducible apply Upd.ite
      | with_reducible refine Upd.step ?_ (State.sealClose_upd ..) ?_
      | with_reducible refine Upd.step ?_ (State.modGctx_upd ..) ?_
      | with_reducible refine Upd.step ?_ (State.sealOpen_upd ..) ?_
      | split

theorem State.sealAdd_upd (a1 : ℕ) (a2 : ℕ) (a3 : List Byte) (a4 : Bool) (s : State) :
    Upd 0x20000000004000000000000000000000000000000001b805000000000000000000000000000000000000000000000600000000000000000000000000000000000000000000000000000000000000000000000 s (State.sealAdd a1 a2 a3 a4 s) := by
  unfold State.sealAdd
  refine Upd.when ?_ (fun x1 h1 => ?_)
  · refine Upd.step ?_ (State.sealGo_upd ..) rfl
    exact Upd.refl _ _
  · refine Upd.step ?_ (State.sealClose_upd ..) rfl
    exact h1

theorem State.sealSent_upd (a1 : ℕ) (a2 : Msg) (a3 : Bool) (s : State) :
    Upd 0x8000000000000000000000000000000000000000000000000000000000000000000000000000000000000000000000000000000000000000000000000000000000000000000000000000000 s (State.sealSent a1 a2 a3 s) := by
  unfold State.sealSent
  extract_lets +onlyGivenNames -underBinder -merge -useContext x1
  try clear_value x1
  extract_lets +onlyGivenNames -underBinder -merge -useContext x2
  try clear_value x2
  refine Upd.step ?_ (State.streamOut_upd ..) rfl
  exact Upd.refl _ _

theorem State.sendIdle_upd (a1 : ℕ) (s : State) :
    Upd 0x20000000004000800000000000000000000000000001b805000000000000000000000000000000000000000000000600000000000000000000000000000000000000000000000000000000000000000000000 s (State.sendIdle a1 s) := by
  unfold State.sendIdle
  refine Upd.ite ?_ ?_
  · refine Upd.step ?_ (State.streamOut_upd ..) rfl
    exact Upd.refl _ _
  · refine Upd.ite ?_ ?_
    · refine Upd.step ?_ (State.streamOut_upd ..) rfl
      exact Upd.refl _ _
    · refine Upd.ite ?_ ?_
      · refine Upd.step ?_ (State.sealClose_upd ..) rfl
        exact Upd.refl _ _
      · refine Upd.ite ?_ ?_
        · exact Upd.refl _ _
        · refine Upd.step ?_ (State.streamOut_upd ..) rfl
          exact Upd.refl _ _

end Sys2Proof.Machine
end

