-- ==== Sys2Proof/Laws/FootAdmit.lean ====
section
/-! SUPPORT. The footprints of the operations of Machine/Admit.lean: what each may change. -/

set_option linter.unreachableTactic false
set_option linter.unusedTactic false
set_option linter.unusedVariables false

namespace Sys2Proof.Machine

theorem State.police_upd (a1 : ℕ) (a2 : ℕ) (s : State) :
    Upd 0x2000000000000000000000000000000000000000000000000000000000000000000000000000000000000000000000000000000000000000000000000000000000000000000000000000000000 s (State.police a1 a2 s).2 := by
  unfold State.police
  refine Upd.iteSnd ?_ ?_
  · refine Upd.pair ?_
    exact Upd.refl _ _
  · extract_lets +onlyGivenNames -underBinder -merge -useContext x1
    try clear_value x1
    refine Upd.iteSnd ?_ ?_
    · refine Upd.pair ?_
      refine Upd.step ?_ (State.modFlow_upd ..) rfl
      exact Upd.refl _ _
    · refine Upd.pair ?_
      exact Upd.refl _ _

theorem State.enqueue_upd (a1 : ℕ) (a2 : List Byte) (a3 : Place) (s : State) :
    Upd 0x20000000007a4620000000000000000000180000a281b8050000000000012002000000000000000000000000000046f5938866000f8800211300004000000000000000000000ce00000000000000000000000 s (State.enqueue a1 a2 a3 s) := by
  unfold State.enqueue
  extract_lets +onlyGivenNames -underBinder -merge -useContext x1
  try clear_value x1
  extract_lets +onlyGivenNames -underBinder -merge -useContext x2
  try clear_value x2
  extract_lets +onlyGivenNames -underBinder -merge -useContext x3
  try clear_value x3
  extract_lets +onlyGivenNames -underBinder -merge -useContext x4
  refine Upd.cut (t := x4) ?_ (fun h4 => ?_)
  · unfold x4
    refine Upd.step ?_ (State.count_upd ..) rfl
    refine Upd.addBytes ?_ rfl rfl rfl rfl
    refine Upd.bumpFlow ?_ rfl rfl rfl
    exact Upd.refl _ _
  clear_value x4
  extract_lets +onlyGivenNames -underBinder -merge -useContext x5
  refine Upd.cut (t := x5) ?_ (fun h5 => ?_)
  · unfold x5
    refine Upd.step ?_ (State.capture_upd ..) rfl
    exact h4
  clear_value x5
  extract_lets +onlyGivenNames -underBinder -merge -useContext x6
  try clear_value x6
  extract_lets +onlyGivenNames -underBinder -merge -useContext x7
  refine Upd.cut (t := x7) ?_ (fun h7 => ?_)
  · unfold x7
    refine Upd.step ?_ (State.modFlow_upd ..) rfl
    exact h5
  clear_value x7
  extract_lets +onlyGivenNames -underBinder -merge -useContext x8
  refine Upd.cut (t := x8) ?_ (fun h8 => ?_)
  · unfold x8
    refine Upd.when ?_ (fun x9 h9 => ?_)
    · exact h7
    · refine Upd.step ?_ (State.hayAppend_upd ..) rfl
      exact h9
  clear_value x8
  extract_lets +onlyGivenNames -underBinder -merge -useContext x10
  refine Upd.cut (t := x10) ?_ (fun h10 => ?_)
  · unfold x10
    split
    · refine Upd.step ?_ (State.newMsg_upd ..) rfl
      refine Upd.step ?_ (State.takePn_upd ..) rfl
      exact h8
    · exact h8
  clear_value x10
  refine Upd.step ?_ (State.thresholds_upd ..) rfl
  refine Upd.step ?_ (State.readBack_upd ..) rfl
  exact h10

theorem State.frameIn_upd (a1 : ℕ) (a2 : List Byte) (a3 : Bool) (a4 : Bool) (s : State) : Upd 0x20000000007a4620000000000000000000180000a281b8050000000000012002000000000000000000000000000046f5938867fe0f8800211300004000000000000000000000ce00000000000000000000000 s (State.frameIn a1 a2 a3 a4 s) := by
  unfold State.frameIn
  repeat' first
    | with_reducible assumption
    | with_reducible exact Upd.refl _ _
    | (show Nat.land _ _ = _; rfl)
    | (show Nat.testBit _ _ = true; rfl)
    | (extract_lets +onlyGivenNames x; refine Upd.cut (t := x) ?_ (fun hx => ?_); (on_goal 2 => clear_value x); unfold x; clear x)
    | (extract_lets +onlyGivenNames x; clear_value x)
    | with_reducible apply Upd.ite
    | with_reducible refine Upd.when ?_ (fun x hx => ?_)
    | with_reducible refine Upd.bumpFlow ?_ ?_ ?_ ?_
    | with_reducible refine Upd.step ?_ (State.enqueue_upd ..) ?_
    | with_reducible refine Upd.step ?_ (State.pnSpent_upd ..) ?_
    | with_reducible refine Upd.step ?_ (State.police_upd ..) ?_
    | split

theorem State.lineClass_upd (a1 : ℕ) (a2 : List Byte) (a3 : Bool) (a4 : Bool) (s : State) :
    Upd 0x20000000007a4620000000000000000000180000a281b8050000000000012002000000000000000000000000000046f5938867fe0f8800251300004000000000000000000000ce00000000000000000000000 s (State.lineClass a1 a2 a3 a4 s) := by
  unfold State.lineClass
  split
  · refine Upd.step ?_ (State.frameIn_upd ..) rfl
    exact Upd.refl _ _
  · refine Upd.bump ?_ rfl
    exact Upd.refl _ _

theorem State.secIn_upd (a1 : ℕ) (a2 : Frame) (s : State) :
    Upd 0x20000000004000000000000000000000000000000001b805000000000000000000000000000000000000000600020600000000000000000000000000000000000000000000000000000000000000000000000 s (State.secIn a1 a2 s) := by
  unfold State.secIn
  split
  · refine Upd.raise ?_ rfl
    refine Upd.bump ?_ rfl
    exact Upd.refl _ _
  · extract_lets +onlyGivenNames -underBinder -merge -useContext x1
    try clear_value x1
    split
    · refine Upd.add64 ?_ rfl rfl
      exact Upd.refl _ _
    · extract_lets +onlyGivenNames -underBinder -merge -useContext x2
      try clear_value x2
      extract_lets +onlyGivenNames -underBinder -merge -useContext x3
      try clear_value x3
      refine Upd.step ?_ (State.newMsg_upd ..) rfl
      exact Upd.refl _ _

theorem State.plainIn_upd (a1 : ℕ) (a2 : Frame) (s : State) :
    Upd 0x20000000007a4620000000000000000000180000a281b8050000000000012002000000000000000000000000000046f5938867fe0f8800251300004000000000000000000000ce00000000000000000000000 s (State.plainIn a1 a2 s) := by
  unfold State.plainIn
  split
  · refine Upd.step ?_ (State.modGctx_upd ..) rfl
    exact Upd.refl _ _
  · refine Upd.step ?_ (State.lineClass_upd ..) rfl
    exact Upd.refl _ _

theorem State.lineFrame_upd (a1 : ℕ) (a2 : Frame) (s : State) :
    Upd 0x20000000007a4620000000000000000000180000a281b8050000000000012002000000000000000000000006000246f5938867fe0f8800651300004000000000000000000000ce00000000000000000000000 s (State.lineFrame a1 a2 s) := by
  unfold State.lineFrame
  refine Upd.ite ?_ ?_
  · refine Upd.bump ?_ rfl
    exact Upd.refl _ _
  · refine Upd.ite ?_ ?_
    · refine Upd.step ?_ (State.secIn_upd ..) rfl
      exact Upd.refl _ _
    · refine Upd.step ?_ (State.plainIn_upd ..) rfl
      exact Upd.refl _ _

theorem State.flushBehind_upd (a1 : ℕ) (a2 : ℕ) (s : State) :
    Upd 0x20000000007a4620000000000000000000180000a281b8050000000000012002000000000000000000000000000046f5938867fe0f8800251300004000000000000000000000ce00000000000000000000000 s (State.flushBehind a1 a2 s) := by
  unfold State.flushBehind
  extract_lets +onlyGivenNames -underBinder -merge -useContext x1
  try clear_value x1
  refine Upd.ite ?_ ?_
  · exact Upd.refl _ _
  · refine Upd.each ?_ (fun n2 x2 h2 => ?_) _
    · refine Upd.step ?_ (State.modGctx_upd ..) rfl
      exact Upd.refl _ _
    · refine Upd.step ?_ (State.lineClass_upd ..) rfl
      exact h2

theorem State.delinLoss_upd (a1 : ℕ) (s : State) :
    Upd 0x4000000000000000000000000000000000000000000000000000000000000000000000000000000000000000000000000004010000000000000000000000000000000000000000000000000000 s (State.delinLoss a1 s) := by
  unfold State.delinLoss
  extract_lets +onlyGivenNames -underBinder -merge -useContext x1
  try clear_value x1
  extract_lets +onlyGivenNames -underBinder -merge -useContext x2
  refine Upd.cut (t := x2) ?_ (fun h2 => ?_)
  · unfold x2
    refine Upd.set_delin ?_ rfl
    exact Upd.refl _ _
  clear_value x2
  refine Upd.when ?_ (fun x3 h3 => ?_)
  · exact h2
  · refine Upd.raise ?_ rfl
    refine Upd.bump ?_ rfl
    exact h3

theorem State.recHeader_upd (a1 : ℕ) (a2 : ℕ) (a3 : Bool) (a4 : Frame) (s : State) :
    Upd 0x20000000007e4620000000000000000000180000a281b8050000000000012002000000000000000000000006000246f5938867fe0f8800651300004000000000000000000000ce00000000000000000000000 s (State.recHeader a1 a2 a3 a4 s) := by
  unfold State.recHeader
  extract_lets +onlyGivenNames -underBinder -merge -useContext x1
  try clear_value x1
  refine Upd.ite ?_ ?_
  · refine Upd.step ?_ (State.delinLoss_upd ..) rfl
    exact Upd.refl _ _
  · extract_lets +onlyGivenNames -underBinder -merge -useContext x2
    try clear_value x2
    extract_lets +onlyGivenNames -underBinder -merge -useContext x3
    try clear_value x3
    extract_lets +onlyGivenNames -underBinder -merge -useContext x4
    refine Upd.cut (t := x4) ?_ (fun h4 => ?_)
    · unfold x4
      refine Upd.set_delin ?_ rfl
      exact Upd.refl _ _
    clear_value x4
    split
    · refine Upd.step ?_ (State.lineFrame_upd ..) rfl
      exact h4
    · exact h4

theorem execRecordHeader_upd (a1 : ℕ) (a2 : ℕ) (a3 : Bool) (a4 : Frame) (s : State) :
    ∃ t, execRecordHeader a1 a2 a3 a4 s = .next t ∧ Upd 0x20000000007e4620000000000000000000180000a281b8050000000000012002000000000000000000000006000246f5938867fe0f8800651300004000000000000000000000ce00000000000000000000000 s t := by
  unfold execRecordHeader
  refine ⟨_, rfl, ?_⟩
  refine Upd.ite ?_ ?_
  · refine Upd.step ?_ (State.recHeader_upd ..) rfl
    exact Upd.refl _ _
  · exact Upd.refl _ _

theorem State.openRecords_upd (a1 : ℕ) (a2 : ℕ) (s : State) : Upd 0x20000000007e4620000000000000000000180000a281b8050000000000012002000000000000000000000006000246f5938867fe0f8800651300004000000000000000000000ce00000000000000000000000 s (State.openRecords a1 a2 s) := by
  induction a2 generalizing a1 s with
  | zero => exact Upd.refl _ _
  | succ n ih =>
    unfold State.openRecords
    repeat' first
      | with_reducible assumption
      | with_reducible exact Upd.refl _ _
      | with_reducible refine Upd.step ?_ (ih ..) ?_
      | (show Nat.land _ _ = _; rfl)
      | (show Nat.testBit _ _ = true; rfl)
      | (extract_lets +onlyGivenNames x; refine Upd.cut (t := x) ?_ (fun hx => ?_); (on_goal 2 => clear_value x); unfold x; clear x)
      | (extract_lets +onlyGivenNames x; clear_value x)
      | with_reducible apply Upd.ite
      | with_reducible refine Upd.step ?_ (State.modGctx_upd ..) ?_
      | with_reducible refine Upd.step ?_ (State.recHeader_upd ..) ?_
      | split

theorem State.drrGo_upd (a1 : List ℕ) (a2 : ℕ) (a3 : ℕ) (s : State) : Upd 0x2000000000000000000000000000000000000000000000000000000000000000000000000000000000000000000000000000000000000000000000000000000000000000000000000000000000 s (State.drrGo a1 a2 a3 s).2 := by
  induction a2 generalizing a1 a3 s with
  | zero => exact Upd.refl _ _
  | succ n ih =>
    unfold State.drrGo
    repeat' first
      | with_reducible assumption
      | with_reducible exact Upd.refl _ _
      | with_reducible refine Upd.step ?_ (ih ..) ?_
      | (show Nat.land _ _ = _; rfl)
      | (show Nat.testBit _ _ = true; rfl)
      | (extract_lets +onlyGivenNames x; refine Upd.cut (t := x) ?_ (fun hx => ?_); (on_goal 2 => clear_value x); unfold x; clear x)
      | (extract_lets +onlyGivenNames x; clear_value x)
      | with_reducible apply Upd.ite
      | with_reducible refine Upd.step ?_ (State.modFlow_upd ..) ?_
      | split

theorem State.emit_upd (a1 : ℕ) (a2 : Bool) (a3 : ℕ) (a4 : List Byte) (s : State) :
    Upd 0x20000000004800800000000000000000000000000001b805000000000000000000000000000000000000000000000600000000000000000000c00000000000000000000000000000000000000000000000000 s (State.emit a1 a2 a3 a4 s) := by
  unfold State.emit
  split
  · refine Upd.ite ?_ ?_
    · refine Upd.step ?_ (State.sealAdd_upd ..) rfl
      exact Upd.refl _ _
    · refine Upd.step ?_ (State.streamOut_upd ..) rfl
      exact Upd.refl _ _
  · refine Upd.when ?_ (fun x1 h1 => ?_)
    · exact Upd.refl _ _
    · refine Upd.add64 ?_ rfl rfl
      refine Upd.step ?_ (State.modPort_upd ..) rfl
      exact h1

theorem State.takeHead_upd (a1 : ℕ) (s : State) :
    Upd 0x2000000000000000000000000000000000000000000000000000000000000000000000000000000000000000000000000000000000000000000000000000000000000000000000000000000000 s (State.takeHead a1 s) := by
  unfold State.takeHead
  extract_lets +onlyGivenNames -underBinder -merge -useContext x1
  try clear_value x1
  extract_lets +onlyGivenNames -underBinder -merge -useContext x2
  refine Upd.cut (t := x2) ?_ (fun h2 => ?_)
  · unfold x2
    refine Upd.step ?_ (State.modFlow_upd ..) rfl
    exact Upd.refl _ _
  clear_value x2
  refine Upd.step ?_ (State.modFlow_upd ..) rfl
  refine Upd.step ?_ (State.popHead_upd ..) rfl
  exact h2

theorem State.shedRead_upd (a1 : HayEcc) (s : State) :
    Upd 0x20000000001a4620000000000000000000180000a281b80500000000000120020000000000000000000000000000000010006600000800391300004000000000000000000000ce00000000000000000000000 s (State.shedRead a1 s) := by
  unfold State.shedRead
  split
  · exact Upd.refl _ _
  · refine Upd.bump ?_ rfl
    exact Upd.refl _ _
  · refine Upd.step ?_ (State.detect_upd ..) rfl
    refine Upd.bump ?_ rfl
    exact Upd.refl _ _

theorem State.sendHead_upd (a1 : ℕ) (a2 : Bool) (a3 : ℕ) (a4 : HayEcc) (s : State) :
    Upd 0x24000000007a46a0000000000000000000180000a281b8050000000000012002000000000000000000000000000006f093887fe1f008003913c0004000000000000000000000ce00000000000000000000000 s (State.sendHead a1 a2 a3 a4 s) := by
  unfold State.sendHead
  extract_lets +onlyGivenNames -underBinder -merge -useContext x1
  try clear_value x1
  extract_lets +onlyGivenNames -underBinder -merge -useContext x2
  try clear_value x2
  extract_lets +onlyGivenNames -underBinder -merge -useContext x3
  refine Upd.cut (t := x3) ?_ (fun h3 => ?_)
  · unfold x3
    refine Upd.step ?_ (State.takeHead_upd ..) rfl
    refine Upd.step ?_ (State.shedRead_upd ..) rfl
    refine Upd.set_segBad ?_ rfl
    exact Upd.refl _ _
  clear_value x3
  extract_lets +onlyGivenNames -underBinder -merge -useContext x4
  refine Upd.cut (t := x4) ?_ (fun h4 => ?_)
  · unfold x4
    refine Upd.ite ?_ ?_
    · refine Upd.bumpFlow ?_ rfl rfl rfl
      exact h3
    · refine Upd.ite ?_ ?_
      · refine Upd.bumpFlow ?_ rfl rfl rfl
        exact h3
      · refine Upd.step ?_ (State.emit_upd ..) rfl
        refine Upd.addBytes ?_ rfl rfl rfl rfl
        refine Upd.bumpFlow ?_ rfl rfl rfl
        exact h3
  clear_value x4
  refine Upd.step ?_ (State.departed_upd ..) rfl
  refine Upd.step ?_ (State.readBack_upd ..) rfl
  refine Upd.step ?_ (State.purge_upd ..) rfl
  exact h4

theorem State.frameSent_upd (a1 : Bool) (a2 : ℕ) (a3 : HayEcc) (s : State) : Upd 0x24000000047a46a0000000000000000000180000a281b8050000000000012002000000000000000000000000000006f093887fe1f008003913c0004000000000000000000000ce00000000000000000000000 s (State.frameSent a1 a2 a3 s) := by
  unfold State.frameSent
  repeat' first
    | with_reducible assumption
    | with_reducible exact Upd.refl _ _
    | (show Nat.land _ _ = _; rfl)
    | (show Nat.testBit _ _ = true; rfl)
    | (extract_lets +onlyGivenNames x; refine Upd.cut (t := x) ?_ (fun hx => ?_); (on_goal 2 => clear_value x); unfold x; clear x)
    | (extract_lets +onlyGivenNames x; clear_value x)
    | with_reducible apply Upd.ite
    | with_reducible refine Upd.when ?_ (fun x hx => ?_)
    | with_reducible refine Upd.add64 ?_ ?_ ?_
    | with_reducible refine Upd.step ?_ (State.sendHead_upd ..) ?_
    | with_reducible refine Upd.step ?_ (State.drrGo_upd ..) ?_
    | with_reducible refine Upd.step ?_ (State.sendIdle_upd ..) ?_
    | split
    | refine Upd.set_drr ?_ ?_

theorem execFrameSent_upd (a1 : Egress) (a2 : HayEcc) (s : State) :
    ∃ t, execFrameSent a1 a2 s = .next t ∧ Upd 0x24000000047a46a0000000000000000000180000a281b8050000000000012002000000000000000000000000000006f093887fe1f008003913c0004000000000000000000000ce00000000000000000000000 s t := by
  unfold execFrameSent
  refine ⟨_, rfl, ?_⟩
  refine Upd.ite ?_ ?_
  · refine Upd.step ?_ (State.frameSent_upd ..) rfl
    exact Upd.refl _ _
  · exact Upd.refl _ _

theorem execGrpHoldEnd_upd (a1 : ℕ) (s : State) :
    ∃ t, execGrpHoldEnd a1 s = .next t ∧ Upd 0x2000000000000000000000000000000000000000000000000000000 s t := by
  unfold execGrpHoldEnd
  refine ⟨_, rfl, ?_⟩
  refine Upd.ite ?_ ?_
  · refine Upd.setFld ?_ rfl
    exact Upd.refl _ _
  · exact Upd.refl _ _

end Sys2Proof.Machine
end

