-- ==== Sys2Proof/Laws/FootPostmark.lean ====
section
/-! SUPPORT. The footprints of the operations of Machine/Postmark.lean: what each may change. -/

set_option linter.unreachableTactic false
set_option linter.unusedTactic false
set_option linter.unusedVariables false

namespace Sys2Proof.Machine

theorem State.pmkCtrlWrite_upd (a1 : W32) (s : State) :
    Upd 0x8000000000000000000000000000000000000000000000000000000000000000000000000000000000000000000000000000000000000000000000000000000000 s (State.pmkCtrlWrite a1 s) := by
  unfold State.pmkCtrlWrite
  extract_lets +onlyGivenNames -underBinder -merge -useContext x1
  refine Upd.cut (t := x1) ?_ (fun h1 => ?_)
  · unfold x1
    refine Upd.when ?_ (fun x2 h2 => ?_)
    · exact Upd.refl _ _
    · refine Upd.setFlag ?_ rfl
      exact h2
  clear_value x1
  refine Upd.when ?_ (fun x3 h3 => ?_)
  · exact h1
  · refine Upd.setFlag ?_ rfl
    exact h3

theorem State.adjWrite_upd (a1 : W32) (s : State) :
    Upd 0x4000000000000000000000004018000000000000000000000000000000000000000000000000000000000000000000000000000000000000000000000000000000000000000000000000000000000 s (State.adjWrite a1 s) := by
  unfold State.adjWrite
  extract_lets +onlyGivenNames -underBinder -merge -useContext x1
  try clear_value x1
  refine Upd.ite ?_ ?_
  · refine Upd.raise ?_ rfl
    exact Upd.refl _ _
  · refine Upd.setFlag ?_ rfl
    refine Upd.step ?_ (State.modPmk_upd ..) rfl
    refine Upd.wr ?_ rfl
    exact Upd.refl _ _

theorem execPmkStep_upd (a1 : Master) (s : State) :
    ∃ t, execPmkStep a1 s = .next t ∧ Upd 0x20000000200007000000000000000000000860000081b805000000000000000000000000000000000000000000000000000000000000000000000000000000000000000000000000000000000000006203400 s t := by
  unfold execPmkStep
  refine ⟨_, rfl, ?_⟩
  refine Upd.guardW ?_ (fun x1 h1 => ?_) rfl
  · exact Upd.refl _ _
  · refine Upd.step ?_ (State.pmkCtrlWrite_upd ..) rfl
    exact h1

theorem execStepCancel_upd (a1 : Master) (s : State) :
    ∃ t, execStepCancel a1 s = .next t ∧ Upd 0x20000000200007000000000000000000000860000081b805000000000000000000000000000000000000000000000000000000000000000000000000000000000000000000000000000000000000006203400 s t := by
  unfold execStepCancel
  refine ⟨_, rfl, ?_⟩
  refine Upd.guardW ?_ (fun x1 h1 => ?_) rfl
  · exact Upd.refl _ _
  · refine Upd.step ?_ (State.pmkCtrlWrite_upd ..) rfl
    exact h1

theorem execStepped_upd (s : State) :
    ∃ t, execStepped s = .next t ∧ Upd 0x4000100000000000000000000018000000000000000000000000000000000000000000000000000000000000000000000000000000000000000000000000000000000000000000000000000000000 s t := by
  unfold execStepped
  refine ⟨_, rfl, ?_⟩
  refine Upd.ite ?_ ?_
  · refine Upd.step ?_ (State.applyStep_upd ..) rfl
    refine Upd.setFlag ?_ rfl
    exact Upd.refl _ _
  · exact Upd.refl _ _

theorem execAdj_upd (a1 : Master) (a2 : W32) (s : State) :
    ∃ t, execAdj a1 a2 s = .next t ∧ Upd 0x20000000600007000000000000000000401860000081b805000000000000000000000000000000000000000000000000000000000000000000000000000000000000000000000000000000000000006203400 s t := by
  unfold execAdj
  refine ⟨_, rfl, ?_⟩
  refine Upd.guardW ?_ (fun x1 h1 => ?_) rfl
  · exact Upd.refl _ _
  · refine Upd.step ?_ (State.adjWrite_upd ..) rfl
    exact h1

theorem execAdjDone_upd (s : State) :
    ∃ t, execAdjDone s = .next t ∧ Upd 0x4000100000000000000000000018000000000000000000000000000000000000000000000000000000000000000000000000000000000000000000000000000000000000000000000000000000000 s t := by
  unfold execAdjDone
  refine ⟨_, rfl, ?_⟩
  refine Upd.ite ?_ ?_
  · refine Upd.step ?_ (State.adjDone_upd ..) rfl
    exact Upd.refl _ _
  · exact Upd.refl _ _

theorem execAutoStep_upd (a1 : ℤ) (s : State) :
    ∃ t, execAutoStep a1 s = .next t ∧ Upd 0x4800100000000000000000000018000000000000000000000000000000000000000000000000000000000000000000000000000000000000000000000000000000000000000000000000000000000 s t := by
  unfold execAutoStep
  refine ⟨_, rfl, ?_⟩
  extract_lets +onlyGivenNames -underBinder -merge -useContext x1
  try clear_value x1
  extract_lets +onlyGivenNames -underBinder -merge -useContext x2
  try clear_value x2
  extract_lets +onlyGivenNames -underBinder -merge -useContext x3
  try clear_value x3
  refine Upd.ite ?_ ?_
  · refine Upd.step ?_ (State.modStb_upd ..) rfl
    refine Upd.step ?_ (State.applyStep_upd ..) rfl
    exact Upd.refl _ _
  · exact Upd.refl _ _

theorem execSecMis_upd (s : State) :
    ∃ t, execSecMis s = .next t ∧ Upd 0x10000000000000000000000000000000000000000000000000000000000000000000000000000000000000000000000000000000000000000000000000000000000 s t := by
  unfold execSecMis
  refine ⟨_, rfl, ?_⟩
  refine Upd.ite ?_ ?_
  · refine Upd.raise ?_ rfl
    exact Upd.refl _ _
  · exact Upd.refl _ _

theorem execTimeFault_upd (a1 : ℤ) (s : State) :
    ∃ t, execTimeFault a1 s = .next t ∧ Upd 0x20000000401a4620000000000000000000180000a281b80500000000000120020000000000000000000000000000000010006600000800211300004000000000000000000000ce00000000000000000000000 s t := by
  unfold execTimeFault
  refine ⟨_, rfl, ?_⟩
  refine Upd.ite ?_ ?_
  · refine Upd.step ?_ (State.timeFault_upd ..) rfl
    refine Upd.step ?_ (State.modPmk_upd ..) rfl
    exact Upd.refl _ _
  · exact Upd.refl _ _

theorem execPtpRx_upd (a1 : ℕ) (a2 : ℕ) (a3 : List Byte) (s : State) :
    ∃ t, execPtpRx a1 a2 a3 s = .next t ∧ Upd 0x4000000000000000000000400010000000000000000000000000000000000000000000000000000000000000000000000000000000000000000000000000000000000000000000000000000000000 s t := by
  unfold execPtpRx
  refine ⟨_, rfl, ?_⟩
  refine Upd.ite ?_ ?_
  · refine Upd.step ?_ (State.ptpIn_upd ..) rfl
    refine Upd.step ?_ (State.modPmk_upd ..) rfl
    exact Upd.refl _ _
  · exact Upd.refl _ _

theorem execOneStepSync_upd (a1 : ℕ) (a2 : List Byte) (s : State) :
    ∃ t, execOneStepSync a1 a2 s = .next t ∧ Upd 0x4000000000000000000000800000000000000000000000000000000000000000000000000000000000000000000000000000000000000000000000000000000000000000000000000000000000000 s t := by
  unfold execOneStepSync
  refine ⟨_, rfl, ?_⟩
  refine Upd.ite ?_ ?_
  · exact Upd.refl _ _
  · refine Upd.ite ?_ ?_
    · refine Upd.bump ?_ rfl
      exact Upd.refl _ _
    · extract_lets +onlyGivenNames -underBinder -merge -useContext x1
      try clear_value x1
      extract_lets +onlyGivenNames -underBinder -merge -useContext x2
      try clear_value x2
      extract_lets +onlyGivenNames -underBinder -merge -useContext x3
      try clear_value x3
      extract_lets +onlyGivenNames -underBinder -merge -useContext x4
      try clear_value x4
      refine Upd.step ?_ (State.modPmk_upd ..) rfl
      exact Upd.refl _ _

theorem execPpsOut_upd (s : State) :
    ∃ t, execPpsOut s = .next t ∧ Upd 0x4000000000000000000000000018000000000000000000000000000000000000000000000000000000000000000000000000000000000000000000000000000000000000000000000000000000000 s t := by
  unfold execPpsOut
  refine ⟨_, rfl, ?_⟩
  refine Upd.ite ?_ ?_
  · exact Upd.refl _ _
  · extract_lets +onlyGivenNames -underBinder -merge -useContext x1
    refine Upd.cut (t := x1) ?_ (fun h1 => ?_)
    · unfold x1
      refine Upd.step ?_ (State.ppsEval_upd ..) rfl
      exact Upd.refl _ _
    clear_value x1
    refine Upd.ite ?_ ?_
    · exact h1
    · refine Upd.step ?_ (State.modPmk_upd ..) rfl
      exact h1

theorem execPpsWidthEnd_upd (s : State) :
    ∃ t, execPpsWidthEnd s = .next t ∧ Upd 0x4000000000000000000000000000000000000000000000000000000000000000000000000000000000000000000000000000000000000000000000000000000000000000000000000000000000000 s t := by
  unfold execPpsWidthEnd
  refine ⟨_, rfl, ?_⟩
  refine Upd.ite ?_ ?_
  · refine Upd.step ?_ (State.modPmk_upd ..) rfl
    exact Upd.refl _ _
  · exact Upd.refl _ _

theorem execTodMessage_upd (s : State) :
    ∃ t, execTodMessage s = .next t ∧ Upd 0x4000000000000000000000000000000000000000000000000000000000000000000000000000000000000000000000000000000000000000000000000000000000000000000000000000000000000 s t := by
  unfold execTodMessage
  refine ⟨_, rfl, ?_⟩
  refine Upd.ite ?_ ?_
  · refine Upd.step ?_ (State.modPmk_upd ..) rfl
    exact Upd.refl _ _
  · exact Upd.refl _ _

theorem execZda_upd (a1 : Bool) (a2 : ℕ) (s : State) :
    ∃ t, execZda a1 a2 s = .next t ∧ Upd 0x4000000000000000000000200000000000000000000000000000000000000000000000000000000000000000000000000000000000000000000000000000000000000000000000000000000000000 s t := by
  unfold execZda
  refine ⟨_, rfl, ?_⟩
  refine Upd.ite ?_ ?_
  · exact Upd.refl _ _
  · refine Upd.ite ?_ ?_
    · refine Upd.bump ?_ rfl
      exact Upd.refl _ _
    · extract_lets +onlyGivenNames -underBinder -merge -useContext x1
      try clear_value x1
      extract_lets +onlyGivenNames -underBinder -merge -useContext x2
      try clear_value x2
      refine Upd.step ?_ (State.modPmk_upd ..) rfl
      exact Upd.refl _ _

theorem State.exchange_upd (a1 : ℕ) (a2 : TimeMsg) (s : State) :
    Upd 0x4000000000000000008200000000000000000000000000000000000000000000000000000000000000000000000000000000000000000000000000000000000000000000000000000000000000000 s (State.exchange a1 a2 s) := by
  unfold State.exchange
  extract_lets +onlyGivenNames -underBinder -merge -useContext x1
  try clear_value x1
  split
  · extract_lets +onlyGivenNames -underBinder -merge -useContext x2
    refine Upd.cut (t := x2) ?_ (fun h2 => ?_)
    · unfold x2
      split
      · refine Upd.wrN ?_ rfl
        exact Upd.refl _ _
      · exact Upd.refl _ _
    clear_value x2
    split
    · refine Upd.ite ?_ ?_
      · extract_lets +onlyGivenNames -underBinder -merge -useContext x3
        try clear_value x3
        extract_lets +onlyGivenNames -underBinder -merge -useContext x4
        try clear_value x4
        refine Upd.step ?_ (State.modPmkCar_upd ..) rfl
        exact h2
      · exact h2
    · exact h2
  · refine Upd.raise ?_ rfl
    exact Upd.refl _ _

theorem execTimeMessage_upd (a1 : ℕ) (a2 : ℕ) (s : State) :
    ∃ t, execTimeMessage a1 a2 s = .next t ∧ Upd 0x48004000000000000e8300000000000000000000000000000000000000000000000000000000000000000000000000000000000000000000000000000000000000000000420000004000000000000 s t := by
  unfold execTimeMessage
  refine ⟨_, rfl, ?_⟩
  refine Upd.ite ?_ ?_
  · exact Upd.refl _ _
  · split
    · refine Upd.raise ?_ rfl
      refine Upd.bump ?_ rfl
      exact Upd.refl _ _
    · extract_lets +onlyGivenNames -underBinder -merge -useContext x1
      refine Upd.cut (t := x1) ?_ (fun h1 => ?_)
      · unfold x1
        refine Upd.step ?_ (State.deliverRank_upd ..) rfl
        exact Upd.refl _ _
      clear_value x1
      extract_lets +onlyGivenNames -underBinder -merge -useContext x2
      refine Upd.cut (t := x2) ?_ (fun h2 => ?_)
      · unfold x2
        refine Upd.setFlag ?_ rfl
        refine Upd.setFlag ?_ rfl
        exact h1
      clear_value x2
      extract_lets +onlyGivenNames -underBinder -merge -useContext x3
      refine Upd.cut (t := x3) ?_ (fun h3 => ?_)
      · unfold x3
        refine Upd.wrN ?_ rfl
        refine Upd.wrN ?_ rfl
        exact h2
      clear_value x3
      extract_lets +onlyGivenNames -underBinder -merge -useContext x4
      refine Upd.cut (t := x4) ?_ (fun h4 => ?_)
      · unfold x4
        refine Upd.step ?_ (State.modPmkCar_upd ..) rfl
        exact h3
      clear_value x4
      refine Upd.when ?_ (fun x5 h5 => ?_)
      · exact h4
      · refine Upd.step ?_ (State.exchange_upd ..) rfl
        exact h5

theorem State.ttLatch_upd (a1 : ℕ) (s : State) :
    Upd 0x4000000000000000017b00000000000000000000000000000000000000000000000000000000000000000000000000000000000000000000000000000000000000000000000000000000000000000 s (State.ttLatch a1 s) := by
  unfold State.ttLatch
  extract_lets +onlyGivenNames -underBinder -merge -useContext x1
  try clear_value x1
  extract_lets +onlyGivenNames -underBinder -merge -useContext x2
  refine Upd.cut (t := x2) ?_ (fun h2 => ?_)
  · unfold x2
    refine Upd.step ?_ (State.modPmkCar_upd ..) rfl
    exact Upd.refl _ _
  clear_value x2
  refine Upd.ite ?_ ?_
  · refine Upd.when ?_ (fun x3 h3 => ?_)
    · exact h2
    · refine Upd.setFlag ?_ rfl
      refine Upd.wr ?_ rfl
      refine Upd.raise ?_ rfl
      refine Upd.setFlag ?_ rfl
      exact h3
  · extract_lets +onlyGivenNames -underBinder -merge -useContext x4
    try clear_value x4
    extract_lets +onlyGivenNames -underBinder -merge -useContext x5
    try clear_value x5
    extract_lets +onlyGivenNames -underBinder -merge -useContext x6
    try clear_value x6
    extract_lets +onlyGivenNames -underBinder -merge -useContext x7
    try clear_value x7
    extract_lets +onlyGivenNames -underBinder -merge -useContext x8
    refine Upd.cut (t := x8) ?_ (fun h8 => ?_)
    · unfold x8
      refine Upd.wr64 ?_ rfl rfl
      exact h2
    clear_value x8
    extract_lets +onlyGivenNames -underBinder -merge -useContext x9
    refine Upd.cut (t := x9) ?_ (fun h9 => ?_)
    · unfold x9
      refine Upd.wrN ?_ rfl
      exact h8
    clear_value x9
    extract_lets +onlyGivenNames -underBinder -merge -useContext x10
    refine Upd.cut (t := x10) ?_ (fun h10 => ?_)
    · unfold x10
      refine Upd.setFld ?_ rfl
      refine Upd.setFld ?_ rfl
      exact h9
    clear_value x10
    extract_lets +onlyGivenNames -underBinder -merge -useContext x11
    refine Upd.cut (t := x11) ?_ (fun h11 => ?_)
    · unfold x11
      refine Upd.wrN ?_ rfl
      exact h10
    clear_value x11
    refine Upd.ite ?_ ?_
    · exact h11
    · refine Upd.raise ?_ rfl
      refine Upd.setFlag ?_ rfl
      exact h11

theorem execTtLatch_upd (s : State) :
    ∃ t, execTtLatch s = .next t ∧ Upd 0x4000000000000000017b00000000000000000000000000000000000000000000000000000000000000000000000000000000000000000000000000000000000000000000000000000000000000000 s t := by
  unfold execTtLatch
  refine ⟨_, rfl, ?_⟩
  refine Upd.ite ?_ ?_
  · refine Upd.upto ?_ (fun n1 x1 h1 => ?_) _
    · exact Upd.refl _ _
    · refine Upd.step ?_ (State.ttLatch_upd ..) rfl
      exact h1
  · exact Upd.refl _ _

theorem execTchFrameTx_upd (s : State) :
    ∃ t, execTchFrameTx s = .next t ∧ Upd 0x4000000000000000000000000000000000000000000000000000000000000000000000000000000000000000000000000000000000000000000000000000000000000000000000000000000000000 s t := by
  unfold execTchFrameTx
  refine ⟨_, rfl, ?_⟩
  refine Upd.ite ?_ ?_
  · refine Upd.step ?_ (State.modPmk_upd ..) rfl
    exact Upd.refl _ _
  · exact Upd.refl _ _

theorem State.tchQl_upd (a1 : ℕ) (s : State) :
    Upd 0x800400000000000000000000000000000000000000000000000000000000000000000000000000000000000000000000000000000000000000000000000000000000000420000004000000000000 s (State.tchQl a1 s) := by
  unfold State.tchQl
  extract_lets +onlyGivenNames -underBinder -merge -useContext x1
  try clear_value x1
  refine Upd.ite ?_ ?_
  · refine Upd.step ?_ (State.setQl_upd ..) rfl
    refine Upd.when ?_ (fun x2 h2 => ?_)
    · exact Upd.refl _ _
    · refine Upd.raise ?_ rfl
      exact h2
  · exact Upd.refl _ _

theorem State.tchMiss_upd (s : State) :
    Upd 0x4800400000000000000000080010000000000000000000000000000000000000000000000000000000000000000000000000000000000000000000000000000000000000420000004000000000000 s (State.tchMiss s) := by
  unfold State.tchMiss
  extract_lets +onlyGivenNames -underBinder -merge -useContext x1
  refine Upd.cut (t := x1) ?_ (fun h1 => ?_)
  · unfold x1
    refine Upd.step ?_ (State.modPmk_upd ..) rfl
    exact Upd.refl _ _
  clear_value x1
  refine Upd.ite ?_ ?_
  · extract_lets +onlyGivenNames -underBinder -merge -useContext x2
    refine Upd.cut (t := x2) ?_ (fun h2 => ?_)
    · unfold x2
      refine Upd.raise ?_ rfl
      refine Upd.setFlag ?_ rfl
      exact h1
    clear_value x2
    refine Upd.when ?_ (fun x3 h3 => ?_)
    · exact h2
    · refine Upd.step ?_ (State.takeQl_upd ..) rfl
      exact h3
  · exact h1

theorem execTchFrameRx_upd (a1 : Option (BitVec 128)) (s : State) :
    ∃ t, execTchFrameRx a1 s = .next t ∧ Upd 0x4800400000000000000000180010000000000000000000000000000000000000000000000000000000000000000000000000000000000000000000000000000000000000420000004000000000000 s t := by
  unfold execTchFrameRx
  refine ⟨_, rfl, ?_⟩
  refine Upd.ite ?_ ?_
  · exact Upd.refl _ _
  · split
    · refine Upd.step ?_ (State.tchMiss_upd ..) rfl
      exact Upd.refl _ _
    · extract_lets +onlyGivenNames -underBinder -merge -useContext x1
      try clear_value x1
      refine Upd.ite ?_ ?_
      · refine Upd.step ?_ (State.tchMiss_upd ..) rfl
        refine Upd.bump ?_ rfl
        exact Upd.refl _ _
      · extract_lets +onlyGivenNames -underBinder -merge -useContext x2
        try clear_value x2
        extract_lets +onlyGivenNames -underBinder -merge -useContext x3
        try clear_value x3
        extract_lets +onlyGivenNames -underBinder -merge -useContext x4
        refine Upd.cut (t := x4) ?_ (fun h4 => ?_)
        · unfold x4
          refine Upd.step ?_ (State.modPmk_upd ..) rfl
          exact Upd.refl _ _
        clear_value x4
        extract_lets +onlyGivenNames -underBinder -merge -useContext x5
        try clear_value x5
        extract_lets +onlyGivenNames -underBinder -merge -useContext x6
        refine Upd.cut (t := x6) ?_ (fun h6 => ?_)
        · unfold x6
          refine Upd.setFld ?_ rfl
          refine Upd.setFld ?_ rfl
          exact h4
        clear_value x6
        refine Upd.step ?_ (State.tchQl_upd ..) rfl
        refine Upd.when ?_ (fun x7 h7 => ?_)
        · exact h6
        · refine Upd.setFlag ?_ rfl
          exact h7

theorem execTimePostcard_upd (s : State) :
    ∃ t, execTimePostcard s = .next t ∧ Upd 0x400000000000000000000000000000000000000000000000000000000000000000000000000000000000000000000000000000000000000000000000000000000000000000000000000000000 s t := by
  unfold execTimePostcard
  refine ⟨_, rfl, ?_⟩
  refine Upd.ite ?_ ?_
  · refine Upd.step ?_ (State.pccPend_upd ..) rfl
    exact Upd.refl _ _
  · exact Upd.refl _ _

end Sys2Proof.Machine
end

