-- ==== Sys2Proof/Laws/FootCalCore.lean ====
section
/-! SUPPORT. The footprints of the operations of Machine/CalCore.lean: what each may change. -/

set_option linter.unreachableTactic false
set_option linter.unusedTactic false
set_option linter.unusedVariables false

namespace Sys2Proof.Machine

theorem State.tackPut_upd (a1 : ℕ) (a2 : List Byte) (s : State) :
    Upd 0x20000000000000000000000000000000000000000000000000000000000000000000000000000000000000000000000000000000000000000000000000000000000000000000000000000000000000000 s (State.tackPut a1 a2 s) := by
  unfold State.tackPut
  exact Upd.set_tack (Upd.refl _ _) rfl fun h => Memory.wf_putBytes _ h _

theorem State.modCal_upd (a1 : Cal → Cal) (s : State) :
    Upd 0x80000000000000000000000000000000000000000000000000000000000000000000000000000000000000000000000000000000000000000000000000000000000000000000000000000000000000000 s (State.modCal a1 s) := by
  unfold State.modCal
  refine Upd.set_cal ?_ rfl
  exact Upd.refl _ _

theorem State.modCalCar_upd (a1 : ℕ) (a2 : CalCar → CalCar) (s : State) :
    Upd 0x80000000000000000000000000000000000000000000000000000000000000000000000000000000000000000000000000000000000000000000000000000000000000000000000000000000000000000 s (State.modCalCar a1 a2 s) := by
  unfold State.modCalCar
  refine Upd.step ?_ (State.modCal_upd ..) rfl
  exact Upd.refl _ _

theorem State.modCalLane_upd (a1 : ℕ) (a2 : ℕ) (a3 : CalLane → CalLane) (s : State) :
    Upd 0x80000000000000000000000000000000000000000000000000000000000000000000000000000000000000000000000000000000000000000000000000000000000000000000000000000000000000000 s (State.modCalLane a1 a2 a3 s) := by
  unfold State.modCalLane
  refine Upd.step ?_ (State.modCalCar_upd ..) rfl
  exact Upd.refl _ _

theorem State.setTerm_upd (a1 : ℕ) (a2 : ℕ) (a3 : ℤ) (s : State) :
    Upd 0x200000000000000000000000000000000000000000000000000000000000000000000000000000000000000000000000000000000000000000000000000000c000000000000000000000000 s (State.setTerm a1 a2 a3 s) := by
  unfold State.setTerm
  refine Upd.step ?_ (State.skewNew_upd ..) rfl
  refine Upd.setFld ?_ rfl
  exact Upd.refl _ _

theorem State.sparesShow_upd (a1 : ℕ) (s : State) :
    Upd 0x20000000000000000000000000000 s (State.sparesShow a1 s) := by
  unfold State.sparesShow
  refine Upd.upto ?_ (fun n1 x1 h1 => ?_) _
  · exact Upd.refl _ _
  · refine Upd.setFld ?_ rfl
    refine Upd.setFld ?_ rfl
    exact h1

theorem State.calLoad_upd (a1 : ℕ) (s : State) :
    Upd 0x8000000000200000000000000000000000000000000000000020000000000000000000000000000000000000000000000000000000000000000000000000000000002000c000000000000000000000000 s (State.calLoad a1 s) := by
  unfold State.calLoad
  extract_lets +onlyGivenNames -underBinder -merge -useContext x1
  try clear_value x1
  extract_lets +onlyGivenNames -underBinder -merge -useContext x2
  try clear_value x2
  extract_lets +onlyGivenNames -underBinder -merge -useContext x3
  try clear_value x3
  extract_lets +onlyGivenNames -underBinder -merge -useContext x4
  try clear_value x4
  extract_lets +onlyGivenNames -underBinder -merge -useContext x5
  refine Upd.cut (t := x5) ?_ (fun h5 => ?_)
  · unfold x5
    refine Upd.step ?_ (State.modCalCar_upd ..) rfl
    exact Upd.refl _ _
  clear_value x5
  extract_lets +onlyGivenNames -underBinder -merge -useContext x6
  refine Upd.cut (t := x6) ?_ (fun h6 => ?_)
  · unfold x6
    refine Upd.step ?_ (State.sparesShow_upd ..) rfl
    exact h5
  clear_value x6
  refine Upd.when ?_ (fun x8 h8 => ?_)
  · refine Upd.upto ?_ (fun n7 x7 h7 => ?_) _
    · exact h6
    · refine Upd.step ?_ (State.setTerm_upd ..) rfl
      exact h7
  · refine Upd.raise ?_ rfl
    exact h8

theorem State.marksWake_upd (a1 : ℕ) (s : State) :
    Upd 0x200080000000000000000000000000000000000000000000000000000000000000000000000000000000000000000000000000000000000000000000000000000000000000000000000000000000000000000 s (State.marksWake a1 s) := by
  unfold State.marksWake
  refine Upd.step ?_ (State.useFree_upd ..) rfl
  refine Upd.step ?_ (State.useFree_upd ..) rfl
  refine Upd.step ?_ (State.modCalCar_upd ..) rfl
  exact Upd.refl _ _

theorem State.threshWake_upd (a1 : List ℕ) (s : State) :
    Upd 0x200080000000000000000000000000000000000000000000000000000000000000000000000000000000000000000000000000000000000000000000000000000000000000000000000000000000000000000 s (State.threshWake a1 s) := by
  unfold State.threshWake
  refine Upd.each ?_ (fun n1 x1 h1 => ?_) _
  · exact Upd.refl _ _
  · refine Upd.step ?_ (State.useFree_upd ..) rfl
    refine Upd.step ?_ (State.modCal_upd ..) rfl
    exact h1

theorem State.calAbandon_upd (a1 : ℕ) (s : State) :
    Upd 0x80000000000000000000000000000000000000000000000000000000000000000000000000000000000000000000000000000000000000000000000000000000000020000000000000000000000000000 s (State.calAbandon a1 s) := by
  unfold State.calAbandon
  refine Upd.step ?_ (State.sparesShow_upd ..) rfl
  refine Upd.step ?_ (State.modCalCar_upd ..) rfl
  exact Upd.refl _ _

end Sys2Proof.Machine
end

