-- ==== Sys2Proof/Laws/FootLaneCore.lean ====
section
/-! SUPPORT. The footprints of the operations of Machine/LaneCore.lean: what each may change. -/

set_option linter.unreachableTactic false
set_option linter.unusedTactic false
set_option linter.unusedVariables false

namespace Sys2Proof.Machine

theorem State.laneTaps_upd (a1 : ℕ) (s : State) :
    Upd 0x400800000000000000000000000000000000000000000000000000000000000000000000000000000000 s (State.laneTaps a1 s) := by
  unfold State.laneTaps
  extract_lets +onlyGivenNames -underBinder -merge -useContext x1
  try clear_value x1
  refine Upd.when ?_ (fun x2 h2 => ?_)
  · refine Upd.wr ?_ rfl
    exact Upd.refl _ _
  · refine Upd.raise ?_ rfl
    exact h2

theorem State.retryDrop_upd (a1 : ℕ) (s : State) :
    Upd 0x200000000000000000000000000000000000000000000000000000000000000000000000000000000000000000000000000000000000000000000000000000000000000000000000000000000000000 s (State.retryDrop a1 s) := by
  unfold State.retryDrop
  refine Upd.set_retryLane ?_ rfl
  exact Upd.refl _ _

theorem State.trainStart_upd (a1 : ℕ) (s : State) :
    Upd 0x200000000000000000000000000000000000000000000000000000000000000000000000000401800000000000000000000000000000000000000000000000000000000000000000000000000000000 s (State.trainStart a1 s) := by
  unfold State.trainStart
  refine Upd.step ?_ (State.laneTaps_upd ..) rfl
  refine Upd.setFld ?_ rfl
  refine Upd.step ?_ (State.retryDrop_upd ..) rfl
  exact Upd.refl _ _

theorem State.laneEval_upd (a1 : ℕ) (s : State) :
    Upd 0x200000000000000000000000000000000000000000000000000000000000000000000000000401800000000000000000000000000000000000000000000000000000000000000000000000000000000 s (State.laneEval a1 s) := by
  unfold State.laneEval
  extract_lets +onlyGivenNames -underBinder -merge -useContext x1
  try clear_value x1
  refine Upd.ite ?_ ?_
  · exact Upd.refl _ _
  · refine Upd.ite ?_ ?_
    · refine Upd.when ?_ (fun x2 h2 => ?_)
      · refine Upd.setFld ?_ rfl
        refine Upd.step ?_ (State.retryDrop_upd ..) rfl
        exact Upd.refl _ _
      · refine Upd.step ?_ (State.laneTaps_upd ..) rfl
        exact h2
    · refine Upd.ite ?_ ?_
      · refine Upd.ite ?_ ?_
        · exact Upd.refl _ _
        · refine Upd.step ?_ (State.trainStart_upd ..) rfl
          exact Upd.refl _ _
      · refine Upd.setFld ?_ rfl
        refine Upd.step ?_ (State.retryDrop_upd ..) rfl
        exact Upd.refl _ _

theorem State.portEval_upd (a1 : ℕ) (s : State) :
    Upd 0x20000000001a00000000000000000000000000000001b805000000000000000000000000000000000000000000000000100066000008000113000040000000000000000000000000000000000000000000000 s (State.portEval a1 s) := by
  unfold State.portEval
  refine Upd.ite ?_ ?_
  · refine Upd.step ?_ (State.pausePort_upd ..) rfl
    refine Upd.step ?_ (State.holdPort_upd ..) rfl
    refine Upd.setFld ?_ rfl
    exact Upd.refl _ _
  · exact Upd.refl _ _

theorem State.portsEval_upd (s : State) :
    Upd 0x20000000001a00000000000000000000000000000001b805000000000000000000000000000000000000000000000000100066000008000113000040000000000000000000000000000000000000000000000 s (State.portsEval s) := by
  unfold State.portsEval
  refine Upd.each ?_ (fun n1 x1 h1 => ?_) _
  · exact Upd.refl _ _
  · refine Upd.step ?_ (State.portEval_upd ..) rfl
    exact h1

theorem State.laneEvals_upd (a1 : ℕ) (s : State) :
    Upd 0x20000020001a00000000000000000000000000000001b805000000000000000000000000000000000401800000000000100066000008000113000040000000000000000000000000000000000000000000000 s (State.laneEvals a1 s) := by
  unfold State.laneEvals
  refine Upd.step ?_ (State.portsEval_upd ..) rfl
  refine Upd.step ?_ (State.laneEval_upd ..) rfl
  exact Upd.refl _ _

theorem State.lanesEval_upd (a1 : List ℕ) (s : State) :
    Upd 0x20000020001a00000000000000000000000000000001b805000000000000000000000000000000000401800000000000100066000008000113000040000000000000000000000000000000000000000000000 s (State.lanesEval a1 s) := by
  unfold State.lanesEval
  refine Upd.step ?_ (State.portsEval_upd ..) rfl
  refine Upd.each ?_ (fun n1 x1 h1 => ?_) _
  · exact Upd.refl _ _
  · refine Upd.step ?_ (State.laneEval_upd ..) rfl
    exact h1

end Sys2Proof.Machine
end

