-- ==== Sys2Proof/Laws/FootLanes.lean ====
section
/-! SUPPORT. The footprints of the operations of Machine/Lanes.lean: what each may change. -/

set_option linter.unreachableTactic false
set_option linter.unusedTactic false
set_option linter.unusedVariables false

namespace Sys2Proof.Machine

theorem execTrainDone_upd (a1 : ℕ) (a2 : W32) (a3 : ℕ) (s : State) :
    ∃ t, execTrainDone a1 a2 a3 s = .next t ∧ Upd 0x403800000000000000000000000000000000000000000000000000000000000000000000000000000000 s t := by
  unfold execTrainDone
  refine ⟨_, rfl, ?_⟩
  refine Upd.ite ?_ ?_
  · refine Upd.raise ?_ rfl
    refine Upd.setFld ?_ rfl
    refine Upd.wr ?_ rfl
    refine Upd.setFld ?_ rfl
    exact Upd.refl _ _
  · exact Upd.refl _ _

theorem execTrainFail_upd (a1 : ℕ) (s : State) :
    ∃ t, execTrainFail a1 s = .next t ∧ Upd 0x200000000000000000000000000000000000000000000000000000000000000000000000000401000000000000000000000000000000000000000000000000000000000000000000000000000000000 s t := by
  unfold execTrainFail
  refine ⟨_, rfl, ?_⟩
  refine Upd.ite ?_ ?_
  · refine Upd.set_retryLane ?_ rfl
    refine Upd.setFld ?_ rfl
    refine Upd.raise ?_ rfl
    refine Upd.bumpFld ?_ rfl
    exact Upd.refl _ _
  · exact Upd.refl _ _

theorem execTrainRetry_upd (a1 : ℕ) (s : State) :
    ∃ t, execTrainRetry a1 s = .next t ∧ Upd 0x200000000000000000000000000000000000000000000000000000000000000000000000000401800000000000000000000000000000000000000000000000000000000000000000000000000000000 s t := by
  unfold execTrainRetry
  refine ⟨_, rfl, ?_⟩
  refine Upd.ite ?_ ?_
  · refine Upd.step ?_ (State.trainStart_upd ..) rfl
    exact Upd.refl _ _
  · exact Upd.refl _ _

theorem execCdrLock_upd (a1 : ℕ) (s : State) :
    ∃ t, execCdrLock a1 s = .next t ∧ Upd 0x2000000000000000000000000000000000000000000000000000000000000000000000000000000000 s t := by
  unfold execCdrLock
  refine ⟨_, rfl, ?_⟩
  refine Upd.ite ?_ ?_
  · refine Upd.setFld ?_ rfl
    refine Upd.setFld ?_ rfl
    exact Upd.refl _ _
  · exact Upd.refl _ _

theorem execCdrLol_upd (a1 : ℕ) (s : State) :
    ∃ t, execCdrLol a1 s = .next t ∧ Upd 0x20000020001a00000000000000000000000000000001b80500000000000000000000000000000000040b800000000000100066000008000113000040000000000000000000000000000000000000000000000 s t := by
  unfold execCdrLol
  refine ⟨_, rfl, ?_⟩
  refine Upd.ite ?_ ?_
  · extract_lets +onlyGivenNames -underBinder -merge -useContext x1
    refine Upd.cut (t := x1) ?_ (fun h1 => ?_)
    · unfold x1
      refine Upd.raise ?_ rfl
      refine Upd.setFld ?_ rfl
      refine Upd.setFld ?_ rfl
      exact Upd.refl _ _
    clear_value x1
    refine Upd.step ?_ (State.portsEval_upd ..) rfl
    refine Upd.when ?_ (fun x2 h2 => ?_)
    · exact h1
    · refine Upd.step ?_ (State.trainStart_upd ..) rfl
      exact h2
  · exact Upd.refl _ _

theorem execPortUp_upd (a1 : ℕ) (s : State) :
    ∃ t, execPortUp a1 s = .next t ∧ Upd 0x8000000000000000000000000000000000000000000000000000000000000000000000000000000000000000000000000000003000040000000000000000000000000000000000000000000000 s t := by
  unfold execPortUp
  refine ⟨_, rfl, ?_⟩
  refine Upd.ite ?_ ?_
  · refine Upd.step ?_ (State.pausePort_upd ..) rfl
    refine Upd.when ?_ (fun x1 h1 => ?_)
    · refine Upd.setFld ?_ rfl
      exact Upd.refl _ _
    · refine Upd.step ?_ (State.pauseAgain_upd ..) rfl
      exact h1
  · exact Upd.refl _ _

theorem State.laneReport_upd (a1 : ℕ) (s : State) :
    Upd 0x200000000000000000000000000000000000000000000000000000000000000000000000000000000302000000000000000000000000000000000000000000000000000000000000000000000000000000000 s (State.laneReport a1 s) := by
  unfold State.laneReport
  refine Upd.ite ?_ ?_
  · extract_lets +onlyGivenNames -underBinder -merge -useContext x1
    try clear_value x1
    extract_lets +onlyGivenNames -underBinder -merge -useContext x2
    refine Upd.cut (t := x2) ?_ (fun h2 => ?_)
    · unfold x2
      refine Upd.setFld ?_ rfl
      exact Upd.refl _ _
    clear_value x2
    extract_lets +onlyGivenNames -underBinder -merge -useContext x3
    try clear_value x3
    refine Upd.set_free ?_ rfl
    refine Upd.when ?_ (fun x5 h5 => ?_)
    · exact h2
    · refine Upd.wr64 ?_ rfl rfl
      exact h5
  · exact Upd.refl _ _

theorem State.prbsTick_upd (a1 : ℕ) (s : State) :
    Upd 0x400000000000000000000000000000000000000000000000000000000000000000000000000030000000000000000000000000000000000000000000000000000000000000000000000000000000000 s (State.prbsTick a1 s) := by
  unfold State.prbsTick
  refine Upd.ite ?_ ?_
  · extract_lets +onlyGivenNames -underBinder -merge -useContext x1
    try clear_value x1
    refine Upd.set_prbsAcc ?_ rfl
    refine Upd.add64 ?_ rfl rfl
    exact Upd.refl _ _
  · exact Upd.refl _ _

theorem State.prbsWrite_upd (a1 : ℕ) (a2 : W32) (s : State) :
    Upd 0x200000e0001a00000000000000000000000000000001b80500000000000000000000000000000000040d800000000000100066000008000113000040000000000000000000000000000000000000000000000 s (State.prbsWrite a1 a2 s) := by
  unfold State.prbsWrite
  extract_lets +onlyGivenNames -underBinder -merge -useContext x1
  try clear_value x1
  extract_lets +onlyGivenNames -underBinder -merge -useContext x2
  refine Upd.cut (t := x2) ?_ (fun h2 => ?_)
  · unfold x2
    refine Upd.plainWrite ?_ rfl
    exact Upd.refl _ _
  clear_value x2
  extract_lets +onlyGivenNames -underBinder -merge -useContext x3
  refine Upd.cut (t := x3) ?_ (fun h3 => ?_)
  · unfold x3
    refine Upd.when ?_ (fun x4 h4 => ?_)
    · exact h2
    · refine Upd.set_prbsAcc ?_ rfl
      refine Upd.setFld ?_ rfl
      exact h4
  clear_value x3
  extract_lets +onlyGivenNames -underBinder -merge -useContext x6
  refine Upd.cut (t := x6) ?_ (fun h6 => ?_)
  · unfold x6
    refine Upd.when ?_ (fun x7 h7 => ?_)
    · exact h3
    · refine Upd.set_prbsInj ?_ rfl
      exact h7
  clear_value x6
  refine Upd.step ?_ (State.laneEvals_upd ..) rfl
  exact h6

theorem State.laneCfgWrite_upd (a1 : ℕ) (a2 : W32) (s : State) :
    Upd 0x20000020001a00000000000000000000000000000001b805000000000000000000000000000000000401a00000000000100066000008000113000040000000000000000000000000000000000000000000000 s (State.laneCfgWrite a1 a2 s) := by
  unfold State.laneCfgWrite
  refine Upd.step ?_ (State.laneEvals_upd ..) rfl
  refine Upd.plainWrite ?_ rfl
  exact Upd.refl _ _

theorem State.txEqWrite_upd (a1 : ℕ) (a2 : W32) (s : State) :
    Upd 0x400c00000000000000000000000000000000000000000000000000000000000000000000000000000000 s (State.txEqWrite a1 a2 s) := by
  unfold State.txEqWrite
  extract_lets +onlyGivenNames -underBinder -merge -useContext x1
  refine Upd.cut (t := x1) ?_ (fun h1 => ?_)
  · unfold x1
    refine Upd.plainWrite ?_ rfl
    exact Upd.refl _ _
  clear_value x1
  refine Upd.when ?_ (fun x2 h2 => ?_)
  · exact h1
  · refine Upd.step ?_ (State.laneTaps_upd ..) rfl
    exact h2

theorem State.laneCtrlWrite_upd (a1 : ℕ) (a2 : W32) (s : State) :
    Upd 0x3f9000000000000000000000000000000000000000000000000000000000000000000000000000000000 s (State.laneCtrlWrite a1 a2 s) := by
  unfold State.laneCtrlWrite
  refine Upd.when ?_ (fun x1 h1 => ?_)
  · exact Upd.refl _ _
  · refine Upd.setFld ?_ rfl
    refine Upd.setFld ?_ rfl
    refine Upd.wr64 ?_ rfl rfl
    refine Upd.wr64 ?_ rfl rfl
    refine Upd.wr64 ?_ rfl rfl
    exact h1

theorem execLaneCntClr_upd (a1 : Master) (a2 : ℕ) (a3 : W32) (s : State) :
    ∃ t, execLaneCntClr a1 a2 a3 s = .next t ∧ Upd 0x20000000200007000000000000000000000060000081b8050000000000000000000000000000000003f9000000000000000000000000000000000000000000000000000000000000000000000000006203400 s t := by
  unfold execLaneCntClr
  refine ⟨_, rfl, ?_⟩
  refine Upd.guardW ?_ (fun x1 h1 => ?_) rfl
  · exact Upd.refl _ _
  · refine Upd.step ?_ (State.laneCtrlWrite_upd ..) rfl
    exact h1

end Sys2Proof.Machine
end

