-- ==== Sys2Proof/Laws/FootYard.lean ====
section
/-! SUPPORT. The footprints of the operations of Machine/Yard.lean: what each may change. -/

set_option linter.unreachableTactic false
set_option linter.unusedTactic false
set_option linter.unusedVariables false

namespace Sys2Proof.Machine

theorem State.modLink_upd (a1 : ℕ) (a2 : Link → Link) (s : State) :
    Upd 0x1000000000000000000000000000000000000000000000000000000000000000000000000000000000000000000000000000000000000000000000000000000000000000000000000000000000000000 s (State.modLink a1 a2 s) := by
  unfold State.modLink
  refine Upd.set_links ?_ rfl
  exact Upd.refl _ _

theorem State.modeEval_upd (s : State) :
    Upd 0x2000000000000000000000000000000000000000000000000000000000000000000000000000000000000000 s (State.modeEval s) := by
  unfold State.modeEval
  refine Upd.ite ?_ ?_
  · exact Upd.refl _ _
  · refine Upd.upto ?_ (fun n1 x1 h1 => ?_) _
    · exact Upd.refl _ _
    · extract_lets +onlyGivenNames -underBinder -merge -useContext x2
      try clear_value x2
      extract_lets +onlyGivenNames -underBinder -merge -useContext x3
      try clear_value x3
      refine Upd.setFld ?_ rfl
      exact h1

theorem State.yardGroups_upd (s : State) :
    Upd 0x20000000005e00800000000000000000000000000001b805000000000000000000000000000000000000080000000400100066000008002113000055000000000000000000000000000000000000000000000 s (State.yardGroups s) := by
  unfold State.yardGroups
  refine Upd.ite ?_ ?_
  · refine Upd.step ?_ (State.grpsEval_upd ..) rfl
    exact Upd.refl _ _
  · refine Upd.step ?_ (State.holds_upd ..) rfl
    exact Upd.refl _ _

theorem State.linkLost_upd (a1 : ℕ) (s : State) :
    Upd 0x2000010000de00800000000000000000000000000001b805000000000000000000000000000000000000080000000400100066000008002113000055000000000000000000000000000000000000000000000 s (State.linkLost a1 s) := by
  unfold State.linkLost
  refine Upd.step ?_ (State.yardGroups_upd ..) rfl
  refine Upd.set_yardSt ?_ rfl
  refine Upd.step ?_ (State.modLink_upd ..) rfl
  exact Upd.refl _ _

theorem State.linkTo'_upd (a1 : ℕ) (a2 : ℕ) (s : State) :
    Upd 0xc002000000000000000000000000000000000000000000000000000000000000000000000000000000000000000 s (State.linkTo' a1 a2 s) := by
  unfold State.linkTo'
  extract_lets +onlyGivenNames -underBinder -merge -useContext x1
  try clear_value x1
  extract_lets +onlyGivenNames -underBinder -merge -useContext x2
  refine Upd.cut (t := x2) ?_ (fun h2 => ?_)
  · unfold x2
    refine Upd.setFld ?_ rfl
    exact Upd.refl _ _
  clear_value x2
  refine Upd.step ?_ (State.modeEval_upd ..) rfl
  refine Upd.when ?_ (fun x4 h4 => ?_)
  · refine Upd.when ?_ (fun x3 h3 => ?_)
    · exact h2
    · refine Upd.raise ?_ rfl
      exact h3
  · refine Upd.raise ?_ rfl
    exact h4

theorem State.linkDown_upd (a1 : ℕ) (s : State) :
    Upd 0x2000010000de00800000000000000000000000000001b80500000000000000000000000000c002000000080000000400100066000008002113000055000000000000000000000000000000000000000000000 s (State.linkDown a1 s) := by
  unfold State.linkDown
  refine Upd.ite ?_ ?_
  · exact Upd.refl _ _
  · extract_lets +onlyGivenNames -underBinder -merge -useContext x1
    refine Upd.cut (t := x1) ?_ (fun h1 => ?_)
    · unfold x1
      refine Upd.step ?_ (State.modLink_upd ..) rfl
      refine Upd.setFld ?_ rfl
      refine Upd.setFld ?_ rfl
      exact Upd.refl _ _
    clear_value x1
    refine Upd.step ?_ (State.linkLost_upd ..) rfl
    refine Upd.step ?_ (State.linkTo'_upd ..) rfl
    exact h1

theorem State.linkFail_upd (a1 : ℕ) (s : State) :
    Upd 0x2000010000de00800000000000000000000000000001b80500000000000000000000000000c002000000080000000400100066000008002113000055000000000000000000000000000000000000000000000 s (State.linkFail a1 s) := by
  unfold State.linkFail
  extract_lets +onlyGivenNames -underBinder -merge -useContext x1
  try clear_value x1
  extract_lets +onlyGivenNames -underBinder -merge -useContext x2
  try clear_value x2
  refine Upd.ite ?_ ?_
  · refine Upd.ite ?_ ?_
    · refine Upd.step ?_ (State.linkDown_upd ..) rfl
      exact Upd.refl _ _
    · refine Upd.ite ?_ ?_
      · exact Upd.refl _ _
      · refine Upd.ite ?_ ?_
        · refine Upd.step ?_ (State.linkLost_upd ..) rfl
          refine Upd.step ?_ (State.modLink_upd ..) rfl
          exact Upd.refl _ _
        · extract_lets +onlyGivenNames -underBinder -merge -useContext x3
          refine Upd.cut (t := x3) ?_ (fun h3 => ?_)
          · unfold x3
            refine Upd.step ?_ (State.modLink_upd ..) rfl
            exact Upd.refl _ _
          clear_value x3
          refine Upd.ite ?_ ?_
          · refine Upd.step ?_ (State.linkLost_upd ..) rfl
            refine Upd.step ?_ (State.linkTo'_upd ..) rfl
            exact h3
          · exact h3
  · exact Upd.refl _ _

theorem State.laneFail_upd (a1 : ℕ) (s : State) :
    Upd 0x2000010000de00800000000000000000000000000001b80500000000000000000000000000c002000000080000000400100066000008002113000055000000000000000000000000000000000000000000000 s (State.laneFail a1 s) := by
  unfold State.laneFail
  extract_lets +onlyGivenNames -underBinder -merge -useContext x1
  try clear_value x1
  extract_lets +onlyGivenNames -underBinder -merge -useContext x2
  try clear_value x2
  extract_lets +onlyGivenNames -underBinder -merge -useContext x3
  refine Upd.cut (t := x3) ?_ (fun h3 => ?_)
  · unfold x3
    refine Upd.step ?_ (State.modLink_upd ..) rfl
    exact Upd.refl _ _
  clear_value x3
  refine Upd.ite ?_ ?_
  · refine Upd.step ?_ (State.linkFail_upd ..) rfl
    exact h3
  · exact h3

theorem execLaneFailure_upd (a1 : ℕ) (a2 : Bool) (s : State) :
    ∃ t, execLaneFailure a1 a2 s = .next t ∧ Upd 0x2000010000de00800000000000000000000000000001b80500000000000000000000000000c002000000080000000400100066000008002113000055000000000000000000000000000000000000000000000 s t := by
  unfold execLaneFailure
  refine ⟨_, rfl, ?_⟩
  refine Upd.ite ?_ ?_
  · refine Upd.step ?_ (State.laneFail_upd ..) rfl
    refine Upd.when ?_ (fun x1 h1 => ?_)
    · exact Upd.refl _ _
    · refine Upd.setFld ?_ rfl
      exact h1
  · exact Upd.refl _ _

theorem State.ownLanes_upd (a1 : ℕ) (s : State) :
    Upd 0x1000000000000000000000000000000000000000000000000000000000000000000004000000000000000000000000000000000000000000000000000000000000000000000000000000000000000000 s (State.ownLanes a1 s) := by
  unfold State.ownLanes
  refine Upd.step ?_ (State.modLink_upd ..) rfl
  refine Upd.setFld ?_ rfl
  exact Upd.refl _ _

theorem State.linkMend_upd (a1 : ℕ) (s : State) :
    Upd 0x2000010000de00800000000000000000000000000001b80500000000000000000000000000c002000000080000000400100066000008002113000055000000000000000000000000000000000000000000000 s (State.linkMend a1 s) := by
  unfold State.linkMend
  refine Upd.ite ?_ ?_
  · refine Upd.ite ?_ ?_
    · refine Upd.step ?_ (State.linkTo'_upd ..) rfl
      exact Upd.refl _ _
    · refine Upd.ite ?_ ?_
      · refine Upd.step ?_ (State.linkTo'_upd ..) rfl
        refine Upd.step ?_ (State.ownLanes_upd ..) rfl
        exact Upd.refl _ _
      · refine Upd.step ?_ (State.linkFail_upd ..) rfl
        exact Upd.refl _ _
  · exact Upd.refl _ _

theorem execBlockLock_upd (a1 : ℕ) (s : State) :
    ∃ t, execBlockLock a1 s = .next t ∧ Upd 0x2000010000de00800000000000000000000000000001b80500000000000000000000000000c002000000080000000400100066000008002113000055000000000000000000000000000000000000000000000 s t := by
  unfold execBlockLock
  refine ⟨_, rfl, ?_⟩
  refine Upd.ite ?_ ?_
  · refine Upd.step ?_ (State.linkMend_upd ..) rfl
    refine Upd.step ?_ (State.modLink_upd ..) rfl
    refine Upd.setFld ?_ rfl
    exact Upd.refl _ _
  · exact Upd.refl _ _

theorem execSpareIn_upd (a1 : ℕ) (s : State) :
    ∃ t, execSpareIn a1 s = .next t ∧ Upd 0x100000000000000000000000000000000000000000000000000000000000000000000c002000000000000000000000000000000000000000000000000000000000000000000000000000000000000000 s t := by
  unfold execSpareIn
  refine ⟨_, rfl, ?_⟩
  refine Upd.ite ?_ ?_
  · extract_lets +onlyGivenNames -underBinder -merge -useContext x1
    try clear_value x1
    refine Upd.step ?_ (State.linkTo'_upd ..) rfl
    refine Upd.raise ?_ rfl
    refine Upd.setFld ?_ rfl
    refine Upd.step ?_ (State.modLink_upd ..) rfl
    exact Upd.refl _ _
  · exact Upd.refl _ _

theorem State.linkCtrlWrite_upd (a1 : ℕ) (a2 : W32) (s : State) :
    Upd 0x2000010000de00800000000000000000000000000001b80500000000000000000000000000c002000000080000000400100066000008002113000055000000000000000000000000000000000000000000000 s (State.linkCtrlWrite a1 a2 s) := by
  unfold State.linkCtrlWrite
  refine Upd.ite ?_ ?_
  · refine Upd.step ?_ (State.linkFail_upd ..) rfl
    refine Upd.step ?_ (State.linkLost_upd ..) rfl
    refine Upd.step ?_ (State.ownLanes_upd ..) rfl
    exact Upd.refl _ _
  · exact Upd.refl _ _

theorem execRevert_upd (a1 : Master) (a2 : ℕ) (a3 : W32) (s : State) :
    ∃ t, execRevert a1 a2 a3 s = .next t ∧ Upd 0x2000010020de07800000000000000000000060000081b80500000000000000000000000000c002000000080000000400100066000008002113000055000000000000000000000000000000000000006203400 s t := by
  unfold execRevert
  refine ⟨_, rfl, ?_⟩
  refine Upd.guardW ?_ (fun x1 h1 => ?_) rfl
  · exact Upd.refl _ _
  · refine Upd.step ?_ (State.linkCtrlWrite_upd ..) rfl
    exact h1

theorem State.switchEval_upd (a1 : ℕ) (s : State) :
    Upd 0x1000000000000000000000000000000000000000000000000000000000000000000000000000000000000000000000000000000000000000000000000000000000000000000000000000000000000000 s (State.switchEval a1 s) := by
  unfold State.switchEval
  extract_lets +onlyGivenNames -underBinder -merge -useContext x1
  try clear_value x1
  refine Upd.step ?_ (State.modLink_upd ..) rfl
  exact Upd.refl _ _

theorem State.yardCfgWrite_upd (a1 : W32) (s : State) :
    Upd 0x1000000000000000000000000000000000000000000000000000000000000000000000002002000000000000000000000000000000000000000000000000000000000000000000000000000000000000 s (State.yardCfgWrite a1 s) := by
  unfold State.yardCfgWrite
  refine Upd.step ?_ (State.modeEval_upd ..) rfl
  refine Upd.upto ?_ (fun n1 x1 h1 => ?_) _
  · refine Upd.plainWrite ?_ rfl
    exact Upd.refl _ _
  · refine Upd.step ?_ (State.switchEval_upd ..) rfl
    exact h1

theorem execRunReady_upd (a1 : Master) (a2 : W32) (s : State) :
    ∃ t, execRunReady a1 a2 s = .next t ∧ Upd 0x20000100200007000000000000000000000060000081b805000000000000000000000000000002002000000000000000000000000000000000000000000000000000000000000000000000000000006203400 s t := by
  unfold execRunReady
  refine ⟨_, rfl, ?_⟩
  refine Upd.guardW ?_ (fun x1 h1 => ?_) rfl
  · exact Upd.refl _ _
  · refine Upd.step ?_ (State.yardCfgWrite_upd ..) rfl
    exact h1

theorem execRunSwitch_upd (a1 : ℕ) (s : State) :
    ∃ t, execRunSwitch a1 s = .next t ∧ Upd 0x100000000000000000000000000000000000000000000000000000000000000000000c002000000000000000000000000000000000000000000000000000000000000000000000000000000000000000 s t := by
  unfold execRunSwitch
  refine ⟨_, rfl, ?_⟩
  refine Upd.ite ?_ ?_
  · refine Upd.step ?_ (State.linkTo'_upd ..) rfl
    refine Upd.step ?_ (State.modLink_upd ..) rfl
    exact Upd.refl _ _
  · exact Upd.refl _ _

theorem State.imgSaid_upd (a1 : ℕ) (a2 : ℕ) (s : State) :
    Upd 0x28000000000000000000000000000000000000000000000000000000000000000000000000000000000000 s (State.imgSaid a1 a2 s) := by
  unfold State.imgSaid
  refine Upd.ite ?_ ?_
  · refine Upd.when ?_ (fun x1 h1 => ?_)
    · refine Upd.setFld ?_ rfl
      exact Upd.refl _ _
    · refine Upd.raise ?_ rfl
      exact h1
  · exact Upd.refl _ _

theorem State.dupId_upd (s : State) :
    Upd 0x20000000000000000000000000000000000000000000000000000000000000000000000000000c000000000000000000000000000000000000000000000000000000000000000000000000000000000000 s (State.dupId s) := by
  unfold State.dupId
  refine Upd.set_boot ?_ rfl
  refine Upd.raise ?_ rfl
  refine Upd.setFld ?_ rfl
  exact Upd.refl _ _

theorem execHello_upd (a1 : ℕ) (a2 : Hello) (s : State) :
    ∃ t, execHello a1 a2 s = .next t ∧ Upd 0x20100000000000000000000000000000000000000000000000000000000000000000000c00202c000000000000000000000000000000000000000000000000000000000000000000000000000000000000 s t := by
  unfold execHello
  refine ⟨_, rfl, ?_⟩
  refine Upd.ite ?_ ?_
  · exact Upd.refl _ _
  · extract_lets +onlyGivenNames -underBinder -merge -useContext x1
    try clear_value x1
    extract_lets +onlyGivenNames -underBinder -merge -useContext x2
    try clear_value x2
    extract_lets +onlyGivenNames -underBinder -merge -useContext x3
    refine Upd.cut (t := x3) ?_ (fun h3 => ?_)
    · unfold x3
      refine Upd.when ?_ (fun x4 h4 => ?_)
      · exact Upd.refl _ _
      · refine Upd.step ?_ (State.dupId_upd ..) rfl
        exact h4
    clear_value x3
    extract_lets +onlyGivenNames -underBinder -merge -useContext x5
    refine Upd.cut (t := x5) ?_ (fun h5 => ?_)
    · unfold x5
      refine Upd.step ?_ (State.modLink_upd ..) rfl
      refine Upd.when ?_ (fun x6 h6 => ?_)
      · exact h3
      · refine Upd.step ?_ (State.linkTo'_upd ..) rfl
        exact h6
    clear_value x5
    refine Upd.ite ?_ ?_
    · refine Upd.step ?_ (State.switchEval_upd ..) rfl
      refine Upd.raise ?_ rfl
      refine Upd.setFld ?_ rfl
      exact h5
    · refine Upd.step ?_ (State.imgSaid_upd ..) rfl
      refine Upd.step ?_ (State.switchEval_upd ..) rfl
      refine Upd.step ?_ (State.modLink_upd ..) rfl
      refine Upd.setFld ?_ rfl
      exact h5

theorem execHelloLost_upd (a1 : ℕ) (s : State) :
    ∃ t, execHelloLost a1 s = .next t ∧ Upd 0x2000010000de00800000000000000000000000000001b80500000000000000000000000000c002000000080000000400100066000008002113000055000000000000000000000000000000000000000000000 s t := by
  unfold execHelloLost
  refine ⟨_, rfl, ?_⟩
  refine Upd.ite ?_ ?_
  · refine Upd.step ?_ (State.linkDown_upd ..) rfl
    exact Upd.refl _ _
  · exact Upd.refl _ _

theorem State.statusIn_upd (a1 : ℕ) (a2 : List ℕ) (s : State) :
    Upd 0x2000000000de00800000000000000000000000000001b805000000000000000000000000000000000000080000000400100066000008002113000055000000000000000000000000000000000000000000000 s (State.statusIn a1 a2 s) := by
  unfold State.statusIn
  extract_lets +onlyGivenNames -underBinder -merge -useContext x1
  unfold x1
  beta_reduce
  clear x1
  refine Upd.step ?_ (State.yardGroups_upd ..) rfl
  refine Upd.upto ?_ (fun n2 x2 h2 => ?_) _
  · exact Upd.refl _ _
  · refine Upd.ite ?_ ?_
    · refine Upd.set_yardSt ?_ rfl
      refine Upd.ite ?_ ?_
      · refine Upd.set_yardSt ?_ rfl
        exact h2
      · exact h2
    · refine Upd.ite ?_ ?_
      · refine Upd.set_yardSt ?_ rfl
        exact h2
      · exact h2

theorem State.tileErr_upd (a1 : ℕ) (s : State) :
    Upd 0x4000000000000000000000000000000000000000000000000000000000000000000000000000000000000000000000000000000000000000000000000000000000000000000000000000000000 s (State.tileErr a1 s) := by
  unfold State.tileErr
  split
  · split
    · refine Upd.set_delin ?_ rfl
      exact Upd.refl _ _
    · exact Upd.refl _ _
  · exact Upd.refl _ _

theorem State.yardBlk_upd (a1 : ℕ) (a2 : YardBlk) (s : State) :
    Upd 0x2000010000de00800000000000000000000000000001b80500000000000000000000000000000c000000080000000400100066000008002113000055000000000000000000000000000000000000000000000 s (State.yardBlk a1 a2 s) := by
  unfold State.yardBlk
  extract_lets +onlyGivenNames -underBinder -merge -useContext x1
  try clear_value x1
  extract_lets +onlyGivenNames -underBinder -merge -useContext x2
  try clear_value x2
  extract_lets +onlyGivenNames -underBinder -merge -useContext x3
  refine Upd.cut (t := x3) ?_ (fun h3 => ?_)
  · unfold x3
    refine Upd.bump ?_ rfl
    exact Upd.refl _ _
  clear_value x3
  split
  · extract_lets +onlyGivenNames -underBinder -merge -useContext x4
    try clear_value x4
    refine Upd.ite ?_ ?_
    · refine Upd.when ?_ (fun x5 h5 => ?_)
      · refine Upd.step ?_ (State.modLink_upd ..) rfl
        exact Upd.refl _ _
      · refine Upd.bump ?_ rfl
        exact h5
    · exact h3
  · refine Upd.ite ?_ ?_
    · refine Upd.step ?_ (State.modLink_upd ..) rfl
      exact Upd.refl _ _
    · exact h3
  · refine Upd.ite ?_ ?_
    · refine Upd.step ?_ (State.statusIn_upd ..) rfl
      refine Upd.step ?_ (State.modLink_upd ..) rfl
      exact Upd.refl _ _
    · exact Upd.refl _ _
  · exact h3
  · refine Upd.step ?_ (State.count_upd ..) rfl
    refine Upd.bump ?_ rfl
    refine Upd.when ?_ (fun x6 h6 => ?_)
    · exact Upd.refl _ _
    · refine Upd.step ?_ (State.tileErr_upd ..) rfl
      exact h6
  · exact Upd.refl _ _
  · exact Upd.refl _ _
  · exact Upd.refl _ _

theorem execYardBlock_upd (a1 : ℕ) (a2 : ℕ) (a3 : YardBlk) (s : State) :
    ∃ t, execYardBlock a1 a2 a3 s = .next t ∧ Upd 0x2000010000de00800000000000000000000000000001b80500000000000000000000000000303e000000080000000400100066000008002113000055000000000000000000000000000000000000000000000 s t := by
  unfold execYardBlock
  refine ⟨_, rfl, ?_⟩
  refine Upd.ite ?_ ?_
  · extract_lets +onlyGivenNames -underBinder -merge -useContext x1
    refine Upd.cut (t := x1) ?_ (fun h1 => ?_)
    · unfold x1
      refine Upd.setFld ?_ rfl
      exact Upd.refl _ _
    clear_value x1
    extract_lets +onlyGivenNames -underBinder -merge -useContext x2
    refine Upd.cut (t := x2) ?_ (fun h2 => ?_)
    · unfold x2
      refine Upd.when ?_ (fun x3 h3 => ?_)
      · exact h1
      · refine Upd.step ?_ (State.count_upd ..) rfl
        refine Upd.add64 ?_ rfl rfl
        exact h3
    clear_value x2
    extract_lets +onlyGivenNames -underBinder -merge -useContext x4
    refine Upd.cut (t := x4) ?_ (fun h4 => ?_)
    · unfold x4
      refine Upd.when ?_ (fun x5 h5 => ?_)
      · exact h2
      · refine Upd.step ?_ (State.count_upd ..) rfl
        refine Upd.add64 ?_ rfl rfl
        exact h5
    clear_value x4
    refine Upd.step ?_ (State.yardBlk_upd ..) rfl
    exact h4
  · exact Upd.refl _ _

theorem execStatusTimeout_upd (a1 : ℕ) (a2 : ℕ) (s : State) :
    ∃ t, execStatusTimeout a1 a2 s = .next t ∧ Upd 0x2000000000de00800000000000000000000000000001b805000000000000000000000000000000000000080000000400100066000008002113000055000000000000000000000000000000000000000000000 s t := by
  unfold execStatusTimeout
  refine ⟨_, rfl, ?_⟩
  refine Upd.ite ?_ ?_
  · refine Upd.step ?_ (State.yardGroups_upd ..) rfl
    refine Upd.set_yardSt ?_ rfl
    exact Upd.refl _ _
  · exact Upd.refl _ _

theorem State.cargoOut_upd (a1 : ℕ) (a2 : List ℕ) (s : State) :
    Upd 0x1000000000000000000000000000000000000000000000000000000000000000000000000000000000000000000000000000000000000000000000000000000000000000000000000000000000000000 s (State.cargoOut a1 a2 s).2 := by
  unfold State.cargoOut
  extract_lets +onlyGivenNames -underBinder -merge -useContext x1
  try clear_value x1
  refine Upd.iteSnd ?_ ?_
  · refine Upd.pair ?_
    exact Upd.refl _ _
  · refine Upd.iteSnd ?_ ?_
    · refine Upd.pair ?_
      refine Upd.step ?_ (State.modLink_upd ..) rfl
      exact Upd.refl _ _
    · split
      · extract_lets +onlyGivenNames -underBinder -merge -useContext x2
        try clear_value x2
        refine Upd.pair ?_
        refine Upd.step ?_ (State.modLink_upd ..) rfl
        exact Upd.refl _ _
      · refine Upd.pair ?_
        exact Upd.refl _ _

theorem State.yardOut_upd (a1 : ℕ) (a2 : YardOut) (a3 : Bool) (s : State) :
    Upd 0x20001000000000000000000000000000000000000001b805000000000000000000000000000000000000000000000000000000000000000000000000000000000000000000000000000000000000000000000 s (State.yardOut a1 a2 a3 s) := by
  unfold State.yardOut
  extract_lets +onlyGivenNames -underBinder -merge -useContext x1
  try clear_value x1
  refine Upd.step ?_ (State.count_upd ..) rfl
  refine Upd.set_yardTx ?_ rfl
  exact Upd.refl _ _

theorem execYardBlockTx_upd (a1 : ℕ) (a2 : List ℕ) (a3 : Bool) (s : State) :
    ∃ t, execYardBlockTx a1 a2 a3 s = .next t ∧ Upd 0x20001100000000000000000000000000000000000001b805000000000000000000000000000000000000000000000000000000000000000000000000000000000000000000000000000000000000000000000 s t := by
  refine ⟨_, rfl, ?_⟩
  refine Upd.ite (Upd.refl _ _) ?_
  refine Upd.ite (Upd.step (Upd.refl _ _) (State.yardOut_upd ..) rfl) ?_
  refine Upd.ite (Upd.step (Upd.refl _ _) (State.yardOut_upd ..) rfl) ?_
  have h := State.cargoOut_upd a1 a2 s
  split <;> rename_i heq <;> rw [heq] at h <;> exact Upd.step (h.mono rfl) (State.yardOut_upd ..) rfl

theorem State.fwdShow_upd (a1 : ℕ) (s : State) :
    Upd 0x4000000000000000000000000000000000000000000000000000000000000000000000000000000000000000000 s (State.fwdShow a1 s) := by
  unfold State.fwdShow
  extract_lets +onlyGivenNames -underBinder -merge -useContext x1
  unfold x1
  beta_reduce
  clear x1
  refine Upd.setFld ?_ rfl
  refine Upd.setFld ?_ rfl
  exact Upd.refl _ _

theorem State.fwdWrite_upd (a1 : ℕ) (a2 : Bool) (a3 : ℕ) (a4 : W32) (s : State) :
    Upd 0xc4000000000000000000000000000000000000000000000000000000000000000000000000000000000000000000 s (State.fwdWrite a1 a2 a3 a4 s) := by
  unfold State.fwdWrite
  refine Upd.step ?_ (State.fwdShow_upd ..) (by first | rfl | (split <;> rfl) | (unfold enterEvt; split <;> rfl) | (unfold pendFld; split <;> rfl) | (rw [padFld_reg (by assumption)]; rfl) | (unfold phWord; rcases a2 with _ | _ | _ | _ | _ | a2 <;> rfl) | exact RegId.all_bit rfl _)
  refine Upd.plainWrite ?_ (by first | rfl | (split <;> rfl) | (unfold enterEvt; split <;> rfl) | (unfold pendFld; split <;> rfl) | (rw [padFld_reg (by assumption)]; rfl) | (unfold phWord; rcases a2 with _ | _ | _ | _ | _ | a2 <;> rfl) | exact RegId.all_bit rfl _)
  exact Upd.refl _ _

theorem execFwdWrite_upd (a1 : Master) (a2 : ℕ) (a3 : Bool) (a4 : ℕ) (a5 : W32) (s : State) :
    ∃ t, execFwdWrite a1 a2 a3 a4 a5 s = .next t ∧ Upd 0x20000000200007000000000000000000000060000081b8050000000000000000000000000c4000000000000000000000000000000000000000000000000000000000000000000000000000000000006203400 s t := by
  unfold execFwdWrite
  refine ⟨_, rfl, ?_⟩
  refine Upd.guardW ?_ (fun x1 h1 => ?_) rfl
  · exact Upd.refl _ _
  · refine Upd.step ?_ (State.fwdWrite_upd ..) rfl
    exact h1

theorem State.imgSend_upd (a1 : ℕ) (s : State) :
    Upd 0x1000000000000000000000000000000000000000000000000000000000000000000000000020000000000000000000000000000000000000000000000000000000000000000000000000000000000000 s (State.imgSend a1 s) := by
  unfold State.imgSend
  refine Upd.step ?_ (State.modLink_upd ..) rfl
  refine Upd.setFld ?_ rfl
  exact Upd.refl _ _

theorem execImgWant_upd (a1 : ℕ) (s : State) :
    ∃ t, execImgWant a1 s = .next t ∧ Upd 0x1000000000000000000000000000000000000000000000000000000000000000000000000020000000000000000000000000000000000000000000000000000000000000000000000000000000000000 s t := by
  unfold execImgWant
  refine ⟨_, rfl, ?_⟩
  refine Upd.ite ?_ ?_
  · refine Upd.step ?_ (State.imgSend_upd ..) rfl
    exact Upd.refl _ _
  · exact Upd.refl _ _

theorem execImgRestart_upd (a1 : ℕ) (s : State) :
    ∃ t, execImgRestart a1 s = .next t ∧ Upd 0x1000000000000000000000000000000000000000000000000000000000000000000000000020000000000000000000000000000000000000000000000000000000000000000000000000000000000000 s t := by
  unfold execImgRestart
  refine ⟨_, rfl, ?_⟩
  refine Upd.ite ?_ ?_
  · refine Upd.step ?_ (State.imgSend_upd ..) rfl
    exact Upd.refl _ _
  · exact Upd.refl _ _

theorem execImgWaitTimeout_upd (s : State) :
    ∃ t, execImgWaitTimeout s = .next t ∧ Upd 0x8000000000000000000000000000000000000000000000000000000000000000000000000000000000000000000000000000000000000000000000000000000000000000000000000000000000000000 s t := by
  unfold execImgWaitTimeout
  refine ⟨_, rfl, ?_⟩
  refine Upd.ite ?_ ?_
  · refine Upd.set_imgRx ?_ rfl
    exact Upd.refl _ _
  · exact Upd.refl _ _

theorem execSidebandMessage_upd (a1 : ℕ) (a2 : ℕ) (a3 : SbMsg) (s : State) :
    ∃ t, execSidebandMessage a1 a2 a3 s = .next t ∧ Upd 0x9000000000000000000000000000000000000000000000000000000000000000000000000028000000000000000000000000000000000000000000000000000000000000000000000000000000000000 s t := by
  unfold execSidebandMessage
  refine ⟨_, rfl, ?_⟩
  refine Upd.ite ?_ ?_
  · exact Upd.refl _ _
  · split
    · refine Upd.ite ?_ ?_
      · exact Upd.refl _ _
      · extract_lets +onlyGivenNames -underBinder -merge -useContext x1
        try clear_value x1
        extract_lets +onlyGivenNames -underBinder -merge -useContext x2
        try clear_value x2
        extract_lets +onlyGivenNames -underBinder -merge -useContext x3
        refine Upd.cut (t := x3) ?_ (fun h3 => ?_)
        · unfold x3
          refine Upd.step ?_ (State.modLink_upd ..) rfl
          exact Upd.refl _ _
        clear_value x3
        refine Upd.ite ?_ ?_
        · refine Upd.raise ?_ rfl
          refine Upd.setFld ?_ rfl
          exact h3
        · exact h3
    · extract_lets +onlyGivenNames -underBinder -merge -useContext x4
      try clear_value x4
      extract_lets +onlyGivenNames -underBinder -merge -useContext x5
      refine Upd.cut (t := x5) ?_ (fun h5 => ?_)
      · unfold x5
        refine Upd.step ?_ (State.modLink_upd ..) rfl
        exact Upd.refl _ _
      clear_value x5
      refine Upd.ite ?_ ?_
      · refine Upd.set_imgRx ?_ rfl
        refine Upd.step ?_ (State.modLink_upd ..) rfl
        exact h5
      · exact h5
    · refine Upd.step ?_ (State.modLink_upd ..) rfl
      exact Upd.refl _ _

theorem execSidebandRepeat_upd (a1 : ℕ) (s : State) :
    ∃ t, execSidebandRepeat a1 s = .next t ∧ Upd 0x1000000000000000000000000000000000000000000000000000000000000000000000000028000000000000000000000000000000000000000000000000000000000000000000000000000000000000 s t := by
  unfold execSidebandRepeat
  refine ⟨_, rfl, ?_⟩
  refine Upd.ite ?_ ?_
  · refine Upd.ite ?_ ?_
    · refine Upd.step ?_ (State.modLink_upd ..) rfl
      exact Upd.refl _ _
    · extract_lets +onlyGivenNames -underBinder -merge -useContext x1
      refine Upd.cut (t := x1) ?_ (fun h1 => ?_)
      · unfold x1
        refine Upd.step ?_ (State.modLink_upd ..) rfl
        exact Upd.refl _ _
      clear_value x1
      refine Upd.ite ?_ ?_
      · refine Upd.raise ?_ rfl
        refine Upd.setFld ?_ rfl
        exact h1
      · exact h1
  · exact Upd.refl _ _

theorem State.rmtCmdWrite_upd (a1 : W32) (s : State) :
    Upd 0x2000000000000000000000000000000000000000000000000000000000000000000000000200000000000000000000000000000000000000000000000000000000000000000000000000000000000000 s (State.rmtCmdWrite a1 s) := by
  unfold State.rmtCmdWrite
  refine Upd.ite ?_ ?_
  · exact Upd.refl _ _
  · refine Upd.set_rmt ?_ rfl
    refine Upd.setFld ?_ rfl
    exact Upd.refl _ _

theorem execRmtCmd_upd (a1 : Master) (a2 : W32) (s : State) :
    ∃ t, execRmtCmd a1 a2 s = .next t ∧ Upd 0x20000200200007000000000000000000000060000081b805000000000000000000000000000000200000000000000000000000000000000000000000000000000000000000000000000000000000006203400 s t := by
  unfold execRmtCmd
  refine ⟨_, rfl, ?_⟩
  refine Upd.guardW ?_ (fun x1 h1 => ?_) rfl
  · exact Upd.refl _ _
  · refine Upd.step ?_ (State.rmtCmdWrite_upd ..) rfl
    exact h1

theorem State.rmtDone_upd (a1 : Option W32) (s : State) :
    Upd 0x2000000000000000000000000000000000000000000000000000000000000000000000000308000000000000000000000000000000000000000000000000000000000000000000000000000000000000 s (State.rmtDone a1 s) := by
  unfold State.rmtDone
  split
  · exact Upd.refl _ _
  · extract_lets +onlyGivenNames -underBinder -merge -useContext x1
    try clear_value x1
    extract_lets +onlyGivenNames -underBinder -merge -useContext x2
    try clear_value x2
    refine Upd.ite ?_ ?_
    · exact Upd.refl _ _
    · extract_lets +onlyGivenNames -underBinder -merge -useContext y3_0 x3
      refine Upd.cut (t := x3) ?_ (fun h3 => ?_)
      · unfold x3
        try unfold y3_0
        refine Upd.set_rmt ?_ rfl
        refine Upd.setFld ?_ rfl
        refine Upd.setFld ?_ rfl
        exact Upd.refl _ _
      clear_value x3 y3_0
      extract_lets +onlyGivenNames -underBinder -merge -useContext x4
      refine Upd.cut (t := x4) ?_ (fun h4 => ?_)
      · unfold x4
        refine Upd.when ?_ (fun x5 h5 => ?_)
        · exact h3
        · refine Upd.wr ?_ rfl
          exact h5
      clear_value x4
      refine Upd.raise ?_ rfl
      exact h4

theorem State.yardPrbsTick_upd (a1 : ℕ) (s : State) :
    Upd 0x400000000000000000000000000000000000000000000000000000000000000000000300000000000000000000000000000000000000000000000000000000000000000000000000000000000000000 s (State.yardPrbsTick a1 s) := by
  unfold State.yardPrbsTick
  refine Upd.ite ?_ ?_
  · extract_lets +onlyGivenNames -underBinder -merge -useContext x1
    try clear_value x1
    refine Upd.set_prbsAcc ?_ rfl
    refine Upd.add64 ?_ rfl rfl
    exact Upd.refl _ _
  · exact Upd.refl _ _

theorem State.yardPrbsWrite_upd (a1 : ℕ) (a2 : W32) (s : State) :
    Upd 0x200001c000de00800000000000000000000000000001b80500000000000000000000000000c0c2000000080000000400100066000008002113000055000000000000000000000000000000000000000000000 s (State.yardPrbsWrite a1 a2 s) := by
  unfold State.yardPrbsWrite
  extract_lets +onlyGivenNames -underBinder -merge -useContext x1
  try clear_value x1
  extract_lets +onlyGivenNames -underBinder -merge -useContext x2
  try clear_value x2
  extract_lets +onlyGivenNames -underBinder -merge -useContext x3
  refine Upd.cut (t := x3) ?_ (fun h3 => ?_)
  · unfold x3
    refine Upd.plainWrite ?_ rfl
    exact Upd.refl _ _
  clear_value x3
  extract_lets +onlyGivenNames -underBinder -merge -useContext x4
  refine Upd.cut (t := x4) ?_ (fun h4 => ?_)
  · unfold x4
    refine Upd.when ?_ (fun x5 h5 => ?_)
    · exact h3
    · refine Upd.set_prbsAcc ?_ rfl
      refine Upd.setFld ?_ rfl
      exact h5
  clear_value x4
  extract_lets +onlyGivenNames -underBinder -merge -useContext x7
  refine Upd.cut (t := x7) ?_ (fun h7 => ?_)
  · unfold x7
    refine Upd.when ?_ (fun x8 h8 => ?_)
    · exact h4
    · refine Upd.set_prbsInj ?_ rfl
      exact h8
  clear_value x7
  refine Upd.ite ?_ ?_
  · extract_lets +onlyGivenNames -underBinder -merge -useContext x9
    refine Upd.cut (t := x9) ?_ (fun h9 => ?_)
    · unfold x9
      refine Upd.when ?_ (fun x10 h10 => ?_)
      · refine Upd.step ?_ (State.modLink_upd ..) rfl
        exact h7
      · refine Upd.step ?_ (State.linkFail_upd ..) rfl
        exact h10
    clear_value x9
    refine Upd.when ?_ (fun x11 h11 => ?_)
    · exact h9
    · refine Upd.step ?_ (State.linkDown_upd ..) rfl
      exact h11
  · exact h7

theorem State.genWrite_upd (a1 : Master) (a2 : Bool) (a3 : ℕ) (a4 : W32) (s : State) :
    Upd 0x200001e020de07800000000000000000000060000081b80500000000000000000000000000c0c200040d880000000400100066000008002113000055000000000000000000000000000000000000006203400 s (State.genWrite a1 a2 a3 a4 s) := by
  unfold State.genWrite
  refine Upd.ite ?_ ?_
  · refine Upd.guardW ?_ (fun x1 h1 => ?_) rfl
    · exact Upd.refl _ _
    · refine Upd.step ?_ (State.yardPrbsWrite_upd ..) rfl
      exact h1
  · refine Upd.guardW ?_ (fun x2 h2 => ?_) rfl
    · exact Upd.refl _ _
    · refine Upd.step ?_ (State.prbsWrite_upd ..) rfl
      exact h2

theorem execGenEn_upd (a1 : Master) (a2 : Bool) (a3 : ℕ) (a4 : W32) (s : State) :
    ∃ t, execGenEn a1 a2 a3 a4 s = .next t ∧ Upd 0x200001e020de07800000000000000000000060000081b80500000000000000000000000000c0c200040d880000000400100066000008002113000055000000000000000000000000000000000000006203400 s t := by
  unfold execGenEn
  refine ⟨_, rfl, ?_⟩
  refine Upd.step ?_ (State.genWrite_upd ..) rfl
  exact Upd.refl _ _

theorem execErrInj_upd (a1 : Master) (a2 : Bool) (a3 : ℕ) (a4 : W32) (s : State) :
    ∃ t, execErrInj a1 a2 a3 a4 s = .next t ∧ Upd 0x200001e020de07800000000000000000000060000081b80500000000000000000000000000c0c200040d880000000400100066000008002113000055000000000000000000000000000000000000006203400 s t := by
  unfold execErrInj
  refine ⟨_, rfl, ?_⟩
  refine Upd.step ?_ (State.genWrite_upd ..) rfl
  exact Upd.refl _ _

theorem execPrbsLock_upd (a1 : Bool) (a2 : ℕ) (s : State) :
    ∃ t, execPrbsLock a1 a2 s = .next t ∧ Upd 0x80000408000000000000000000000000000000000000000000000000000000000000000000000000000000000 s t := by
  unfold execPrbsLock
  refine ⟨_, rfl, ?_⟩
  refine Upd.ite ?_ ?_
  · refine Upd.ite ?_ ?_
    · refine Upd.setFld ?_ rfl
      exact Upd.refl _ _
    · exact Upd.refl _ _
  · refine Upd.ite ?_ ?_
    · refine Upd.raise ?_ rfl
      refine Upd.setFld ?_ rfl
      exact Upd.refl _ _
    · exact Upd.refl _ _

theorem execPrbsLoss_upd (a1 : Bool) (a2 : ℕ) (a3 : ℕ) (s : State) :
    ∃ t, execPrbsLoss a1 a2 a3 s = .next t ∧ Upd 0xc800004c8000000000000000000000000000000000000000000000000000000000000000000000000000000000 s t := by
  unfold execPrbsLoss
  refine ⟨_, rfl, ?_⟩
  refine Upd.ite ?_ ?_
  · refine Upd.ite ?_ ?_
    · refine Upd.setFld ?_ rfl
      refine Upd.bumpFld ?_ rfl
      refine Upd.wr64 ?_ rfl rfl
      exact Upd.refl _ _
    · exact Upd.refl _ _
  · refine Upd.ite ?_ ?_
    · refine Upd.raise ?_ rfl
      refine Upd.setFld ?_ rfl
      refine Upd.bumpFld ?_ rfl
      refine Upd.wr64 ?_ rfl rfl
      exact Upd.refl _ _
    · exact Upd.refl _ _

end Sys2Proof.Machine
end

