-- ==== Sys2Proof/Laws/FootBstCore.lean ====
section
/-! SUPPORT. The footprints of the operations of Machine/BstCore.lean: what each may change. -/

set_option linter.unreachableTactic false
set_option linter.unusedTactic false
set_option linter.unusedVariables false

namespace Sys2Proof.Machine

theorem State.modBst_upd (a1 : Bst → Bst) (s : State) :
    Upd 0x100000000000000000000000000000000000000000000000000000000000000000000000000000000000000000000000000000000000000000000000000000000000000000000000000000000000000000 s (State.modBst a1 s) := by
  unfold State.modBst
  refine Upd.set_bst ?_ rfl
  exact Upd.refl _ _

theorem State.bstOutcome_upd (a1 : ℕ) (a2 : ℕ) (s : State) :
    Upd 0x400000000000000000000000000000000000000000000000000000000000000000000000000000000000000000000000000000000000000000000 s (State.bstOutcome a1 a2 s) := by
  unfold State.bstOutcome
  refine Upd.setFld ?_ rfl
  exact Upd.refl _ _

theorem State.paddockOff_upd (a1 : ℕ) (s : State) :
    Upd 0x200000000000000000000000000000000000000000000000000000000000000000000000000000000000000000000000000000000000000000000000000000000000000000000000000000000 s (State.paddockOff a1 s) := by
  unfold State.paddockOff
  refine Upd.set_asserted ?_ rfl
  exact Upd.refl _ _

theorem State.testSaved_upd (a1 : ℕ) (s : State) :
    Upd 0x100000000000000000000000000000000000000000000000000000000000000000000000000000000000000000000000000000000000000000000000000000000000000000000000000000000000000000 s (State.testSaved a1 s) := by
  unfold State.testSaved
  refine Upd.step ?_ (State.modBst_upd ..) rfl
  exact Upd.refl _ _

theorem State.testLift_upd (a1 : ℕ) (s : State) :
    Upd 0x400000000000000000000000 s (State.testLift a1 s) := by
  unfold State.testLift
  refine Upd.ite ?_ ?_
  · refine Upd.setFlag ?_ rfl
    exact Upd.refl _ _
  · exact Upd.refl _ _

theorem State.bstAbort_upd (a1 : ℕ → Bool) (s : State) :
    Upd 0x100000000200000000000000000000000000000000000480000000000000000000000000000000000000000000000000000000000000000000000000000000000000000000400000000000000000000000 s (State.bstAbort a1 s) := by
  unfold State.bstAbort
  extract_lets +onlyGivenNames -underBinder -merge -useContext x1
  try clear_value x1
  extract_lets +onlyGivenNames -underBinder -merge -useContext x2
  try clear_value x2
  extract_lets +onlyGivenNames -underBinder -merge -useContext x3
  refine Upd.cut (t := x3) ?_ (fun h3 => ?_)
  · unfold x3
    refine Upd.step ?_ (State.modBst_upd ..) rfl
    exact Upd.refl _ _
  clear_value x3
  refine Upd.each ?_ (fun n4 x4 h4 => ?_) _
  · exact h3
  · refine Upd.raise ?_ rfl
    refine Upd.step ?_ (State.bstOutcome_upd ..) rfl
    refine Upd.step ?_ (State.testLift_upd ..) rfl
    refine Upd.step ?_ (State.paddockOff_upd ..) rfl
    exact h4

end Sys2Proof.Machine
end

