-- ==== Sys2Proof/Laws/FootPmuCore.lean ====
section
/-! SUPPORT. The footprints of the operations of Machine/PmuCore.lean: what each may change. -/

set_option linter.unreachableTactic false
set_option linter.unusedTactic false
set_option linter.unusedVariables false

namespace Sys2Proof.Machine

theorem State.modPwr_upd (s : State) (a1 : Pwr → Pwr) :
    Upd 0x100000000000000000000000000000000000000000000000000000000000000000000000000000000000000000000000000000000000000000000000000000000000000000000000000000000000000 s (State.modPwr s a1) := by
  unfold State.modPwr
  refine Upd.set_pwr ?_ rfl
  exact Upd.refl _ _

theorem State.setDom_upd (a1 : ℕ) (a2 : ℕ) (s : State) :
    Upd 0x20000000 s (State.setDom a1 a2 s) := by
  unfold State.setDom
  refine Upd.setFld ?_ rfl
  exact Upd.refl _ _

theorem State.domRes_upd (a1 : ℕ) (a2 : ℕ) (s : State) :
    Upd 0x20000000 s (State.domRes a1 a2 s) := by
  unfold State.domRes
  refine Upd.setFld ?_ rfl
  exact Upd.refl _ _

theorem State.wakeTry_upd (a1 : ℕ) (s : State) :
    Upd 0x100000000000000000000000000000000000000000000000000000000000000000000000000000000000000000000000000000000000000000000000000000000000000000000000000000020000000 s (State.wakeTry a1 s) := by
  unfold State.wakeTry
  refine Upd.step ?_ (State.modPwr_upd ..) rfl
  refine Upd.step ?_ (State.setDom_upd ..) rfl
  exact Upd.refl _ _

theorem State.wakeBegin_upd (a1 : ℕ) (s : State) :
    Upd 0x100000000000000000000000000000000000000000000000000000000000000000000000000000000000000000000000000000000000000000000000000000000000000000000000000000020000000 s (State.wakeBegin a1 s) := by
  unfold State.wakeBegin
  extract_lets +onlyGivenNames -underBinder -merge -useContext x1
  try clear_value x1
  extract_lets +onlyGivenNames -underBinder -merge -useContext x2
  refine Upd.cut (t := x2) ?_ (fun h2 => ?_)
  · unfold x2
    refine Upd.setFld ?_ rfl
    refine Upd.setFld ?_ rfl
    exact Upd.refl _ _
  clear_value x2
  refine Upd.step ?_ (State.wakeTry_upd ..) rfl
  refine Upd.step ?_ (State.modPwr_upd ..) rfl
  exact h2

theorem State.wakeSource_upd (a1 : ℕ) (s : State) :
    Upd 0x100000000000000000000000000000000000000000000000000000000000000000000000000000000000000000000000000000000000000000000000000000000000000000000000000000020800000 s (State.wakeSource a1 s) := by
  unfold State.wakeSource
  extract_lets +onlyGivenNames -underBinder -merge -useContext x1
  refine Upd.cut (t := x1) ?_ (fun h1 => ?_)
  · unfold x1
    refine Upd.wr ?_ rfl
    exact Upd.refl _ _
  clear_value x1
  extract_lets +onlyGivenNames -underBinder -merge -useContext x2
  try clear_value x2
  refine Upd.upto ?_ (fun n3 x3 h3 => ?_) _
  · exact h1
  · refine Upd.ite ?_ ?_
    · exact h3
    · split
      · refine Upd.step ?_ (State.wakeBegin_upd ..) rfl
        exact h3
      · refine Upd.step ?_ (State.wakeBegin_upd ..) rfl
        exact h3
      · refine Upd.setFld ?_ rfl
        refine Upd.setFlag ?_ rfl
        exact h3
      · exact h3

end Sys2Proof.Machine
end

