-- ==== Sys2Proof/Laws/FootBootCore.lean ====
section
/-! SUPPORT. The footprints of the operations of Machine/BootCore.lean: what each may change. -/

set_option linter.unreachableTactic false
set_option linter.unusedTactic false
set_option linter.unusedVariables false

namespace Sys2Proof.Machine

theorem State.modBoot_upd (a1 : Boot → Boot) (s : State) :
    Upd 0x200000000000000000000000000000000000000000000000000000000000000000000000000000000000000000000000000000000000000000000000000000000000000000000000000000000000000000 s (State.modBoot a1 s) := by
  unfold State.modBoot
  refine Upd.set_boot ?_ rfl
  exact Upd.refl _ _

theorem State.optApply_upd (a1 : List Byte) (s : State) :
    Upd 0x222010104000 s (State.optApply a1 s) := by
  unfold State.optApply
  extract_lets +onlyGivenNames -underBinder -merge -useContext x1
  refine Upd.cut (t := x1) ?_ (fun h1 => ?_)
  · unfold x1
    refine Upd.upto ?_ (fun n2 x2 h2 => ?_) _
    · exact Upd.refl _ _
    · refine Upd.wrN ?_ rfl
      exact h2
  clear_value x1
  extract_lets +onlyGivenNames -underBinder -merge -useContext x3
  refine Upd.cut (t := x3) ?_ (fun h3 => ?_)
  · unfold x3
    refine Upd.setFld ?_ rfl
    exact h1
  clear_value x3
  extract_lets +onlyGivenNames -underBinder -merge -useContext x4
  refine Upd.cut (t := x4) ?_ (fun h4 => ?_)
  · unfold x4
    refine Upd.setFld ?_ rfl
    exact h3
  clear_value x4
  extract_lets +onlyGivenNames -underBinder -merge -useContext x5
  refine Upd.cut (t := x5) ?_ (fun h5 => ?_)
  · unfold x5
    refine Upd.setFld ?_ rfl
    exact h4
  clear_value x5
  extract_lets +onlyGivenNames -underBinder -merge -useContext x6
  refine Upd.cut (t := x6) ?_ (fun h6 => ?_)
  · unfold x6
    refine Upd.setFld ?_ rfl
    exact h5
  clear_value x6
  extract_lets +onlyGivenNames -underBinder -merge -useContext x7
  refine Upd.cut (t := x7) ?_ (fun h7 => ?_)
  · unfold x7
    refine Upd.wrN ?_ rfl
    exact h6
  clear_value x7
  extract_lets +onlyGivenNames -underBinder -merge -useContext x8
  refine Upd.cut (t := x8) ?_ (fun h8 => ?_)
  · unfold x8
    refine Upd.setFlag ?_ rfl
    exact h7
  clear_value x8
  refine Upd.upto ?_ (fun n9 x9 h9 => ?_) _
  · exact h8
  · refine Upd.setFld ?_ rfl
    exact h9

theorem State.optLoad_upd (s : State) :
    Upd 0x222010104100 s (State.optLoad s) := by
  unfold State.optLoad
  extract_lets +onlyGivenNames -underBinder -merge -useContext x1
  try clear_value x1
  extract_lets +onlyGivenNames -underBinder -merge -useContext x2
  try clear_value x2
  refine Upd.ite ?_ ?_
  · refine Upd.setFld ?_ rfl
    refine Upd.step ?_ (State.optApply_upd ..) rfl
    exact Upd.refl _ _
  · refine Upd.ite ?_ ?_
    · refine Upd.setFld ?_ rfl
      refine Upd.step ?_ (State.optApply_upd ..) rfl
      exact Upd.refl _ _
    · refine Upd.setFld ?_ rfl
      refine Upd.step ?_ (State.optApply_upd ..) rfl
      exact Upd.refl _ _

theorem State.bootStart_upd (s : State) :
    Upd 0x20c000000000000000000000000000000000000000000000000000000000000000000000000000000000000000000000000000000000000000000000000000000000000000000000000000000000000100 s (State.bootStart s) := by
  unfold State.bootStart
  extract_lets +onlyGivenNames -underBinder -merge -useContext x1
  refine Upd.cut (t := x1) ?_ (fun h1 => ?_)
  · unfold x1
    refine Upd.step ?_ (State.modBoot_upd ..) rfl
    exact Upd.refl _ _
  clear_value x1
  extract_lets +onlyGivenNames -underBinder -merge -useContext x2
  refine Upd.cut (t := x2) ?_ (fun h2 => ?_)
  · unfold x2
    refine Upd.setFld ?_ rfl
    refine Upd.setFld ?_ rfl
    refine Upd.setFld ?_ rfl
    exact h1
  clear_value x2
  refine Upd.ite ?_ ?_
  · refine Upd.set_img ?_ rfl
    refine Upd.setFld ?_ rfl
    refine Upd.setFld ?_ rfl
    exact h2
  · refine Upd.set_img_imgRx ?_ rfl rfl
    refine Upd.setFld ?_ rfl
    exact h2

theorem State.bootWake_upd (s : State) :
    Upd 0x20c000000000000000000000000000000000000000000000000000000000000000000000000000000000000000000000000000000000000000000000000000000000000000000000000000222010104100 s (State.bootWake s) := by
  unfold State.bootWake
  refine Upd.ite ?_ ?_
  · refine Upd.step ?_ (State.bootStart_upd ..) rfl
    refine Upd.step ?_ (State.modBoot_upd ..) rfl
    refine Upd.step ?_ (State.optLoad_upd ..) rfl
    exact Upd.refl _ _
  · exact Upd.refl _ _

theorem padFld_reg {d : Nat} {f : Fld} (h : padFld d = some f) : f.reg = .PMU_PAD_HOLD := by
  unfold padFld at h
  repeat' split at h
  all_goals first | (cases h; rfl) | cases h

theorem State.domApplied_upd (a1 : ℕ) (s : State) :
    Upd 0x1000200 s (State.domApplied a1 s) := by
  unfold State.domApplied
  extract_lets +onlyGivenNames -underBinder -merge -useContext x1
  refine Upd.cut (t := x1) ?_ (fun h1 => ?_)
  · unfold x1
    split
    · refine Upd.setFld ?_ (by first | rfl | (split <;> rfl) | (unfold enterEvt; split <;> rfl) | (unfold pendFld; split <;> rfl) | (rw [padFld_reg (by assumption)]; rfl) | (unfold phWord; rcases a2 with _ | _ | _ | _ | _ | a2 <;> rfl) | exact RegId.all_bit rfl _)
      exact Upd.refl _ _
    · exact Upd.refl _ _
  clear_value x1
  refine Upd.wr ?_ (by first | rfl | (split <;> rfl) | (unfold enterEvt; split <;> rfl) | (unfold pendFld; split <;> rfl) | (rw [padFld_reg (by assumption)]; rfl) | (unfold phWord; rcases a2 with _ | _ | _ | _ | _ | a2 <;> rfl) | exact RegId.all_bit rfl _)
  exact h1

theorem State.bootGo_upd (s : State) :
    Upd 0x200000000000000000000000000000000000000000000000000000000000000000000000000000000000000000000000000000000000000000000000000000000000000000000000000000000001000300 s (State.bootGo s) := by
  unfold State.bootGo
  refine Upd.ite ?_ ?_
  · exact Upd.refl _ _
  · extract_lets +onlyGivenNames -underBinder -merge -useContext x1
    try clear_value x1
    extract_lets +onlyGivenNames -underBinder -merge -useContext x2
    refine Upd.cut (t := x2) ?_ (fun h2 => ?_)
    · unfold x2
      refine Upd.step ?_ (State.modBoot_upd ..) rfl
      refine Upd.each ?_ (fun n3 x3 h3 => ?_) _
      · exact Upd.refl _ _
      · refine Upd.step ?_ (State.domApplied_upd ..) rfl
        exact h3
    clear_value x2
    refine Upd.ite ?_ ?_
    · refine Upd.setFld ?_ rfl
      refine Upd.step ?_ (State.domApplied_upd ..) rfl
      exact h2
    · exact h2

theorem State.bootApply_upd (a1 : List Byte) (s : State) :
    Upd 0x204100000000000000000000000000000000000000000000000000000000000000000000000000000000000000000000000000000000000000000000000000000000000000000000000000000021000300 s (State.bootApply a1 s) := by
  unfold State.bootApply
  extract_lets +onlyGivenNames -underBinder -merge -useContext x1
  try clear_value x1
  extract_lets +onlyGivenNames -underBinder -merge -useContext x2
  refine Upd.cut (t := x2) ?_ (fun h2 => ?_)
  · unfold x2
    refine Upd.setFld ?_ rfl
    refine Upd.step ?_ (State.modBoot_upd ..) rfl
    refine Upd.set_img ?_ rfl
    exact Upd.refl _ _
  clear_value x2
  extract_lets +onlyGivenNames -underBinder -merge -useContext x3
  refine Upd.cut (t := x3) ?_ (fun h3 => ?_)
  · unfold x3
    refine Upd.setFld ?_ rfl
    exact h2
  clear_value x3
  refine Upd.step ?_ (State.bootGo_upd ..) rfl
  refine Upd.each ?_ (fun n4 x4 h4 => ?_) _
  · exact h3
  · refine Upd.ite ?_ ?_
    · refine Upd.step ?_ (State.wakeBegin_upd ..) rfl
      exact h4
    · exact h4

end Sys2Proof.Machine
end

