-- ==== Sys2Proof/Laws/FootSorting.lean ====
section
/-! SUPPORT. The footprints of the operations of Machine/Sorting.lean: what each may change. -/

set_option linter.unreachableTactic false
set_option linter.unusedTactic false
set_option linter.unusedVariables false

namespace Sys2Proof.Machine

theorem State.portRefuse_upd (a1 : ℕ) (a2 : ℕ) (s : State) :
    Upd 0x40000000000000000000000000000000000000000000000 s (State.portRefuse a1 a2 s) := by
  unfold State.portRefuse
  refine Upd.setFld ?_ rfl
  refine Upd.setFld ?_ rfl
  exact Upd.refl _ _

theorem State.portCfgWrite_upd (a1 : ℕ) (a2 : W32) (s : State) :
    Upd 0x20000020001a00000000000000000000000000000001b805000000000000000000000000000000000401800000000000100066000008000113000060000000000000000000000000000000000000000000000 s (State.portCfgWrite a1 a2 s) := by
  unfold State.portCfgWrite
  extract_lets +onlyGivenNames -underBinder -merge -useContext x1
  try clear_value x1
  extract_lets +onlyGivenNames -underBinder -merge -useContext x2
  try clear_value x2
  extract_lets +onlyGivenNames -underBinder -merge -useContext x3
  try clear_value x3
  extract_lets +onlyGivenNames -underBinder -merge -useContext x4
  try clear_value x4
  refine Upd.ite ?_ ?_
  · refine Upd.ite ?_ ?_
    · refine Upd.step ?_ (State.portRefuse_upd ..) rfl
      exact Upd.refl _ _
    · extract_lets +onlyGivenNames -underBinder -merge -useContext x5
      refine Upd.cut (t := x5) ?_ (fun h5 => ?_)
      · unfold x5
        refine Upd.setFld ?_ rfl
        refine Upd.wr ?_ rfl
        exact Upd.refl _ _
      clear_value x5
      refine Upd.step ?_ (State.pausePort_upd ..) rfl
      refine Upd.ite ?_ ?_
      · exact h5
      · refine Upd.step ?_ (State.lanesEval_upd ..) rfl
        refine Upd.step ?_ (State.holdPort_upd ..) rfl
        refine Upd.setFld ?_ rfl
        exact h5
  · refine Upd.ite ?_ ?_
    · extract_lets +onlyGivenNames -underBinder -merge -useContext x6
      try clear_value x6
      refine Upd.ite ?_ ?_
      · refine Upd.step ?_ (State.portRefuse_upd ..) rfl
        refine Upd.wr ?_ rfl
        exact Upd.refl _ _
      · refine Upd.step ?_ (State.lanesEval_upd ..) rfl
        refine Upd.setFld ?_ rfl
        refine Upd.wr ?_ rfl
        exact Upd.refl _ _
    · refine Upd.setFld ?_ rfl
      refine Upd.wr ?_ rfl
      exact Upd.refl _ _

theorem execPortCfgWrite_upd (a1 : Master) (a2 : ℕ) (a3 : W32) (s : State) :
    ∃ t, execPortCfgWrite a1 a2 a3 s = .next t ∧ Upd 0x20000020201a07000000000000000000000060000081b805000000000000000000000000000000000401800000000000100066000008000113000060000000000000000000000000000000000000006203400 s t := by
  unfold execPortCfgWrite
  refine ⟨_, rfl, ?_⟩
  refine Upd.guardW ?_ (fun x1 h1 => ?_) rfl
  · exact Upd.refl _ _
  · refine Upd.step ?_ (State.portCfgWrite_upd ..) rfl
    exact h1

theorem State.portCtrlWrite_upd (a1 : ℕ) (a2 : W32) (s : State) :
    Upd 0x3fffc00000000000000000000000000000000000000000000000 s (State.portCtrlWrite a1 a2 s) := by
  unfold State.portCtrlWrite
  refine Upd.when (Upd.refl _ _) (fun y hy => ?_)
  have hl : (portCounters.all fun r => Nat.testBit 0x3fffc00000000000000000000000000000000000000000000000 r.1.ctorIdx) = true := by decide +kernel
  have hh : (portCounters.all fun r => Nat.testBit 0x3fffc00000000000000000000000000000000000000000000000 r.2.ctorIdx) = true := by decide +kernel
  exact Upd.eachMem hy fun r hr x hx => hx.wr64 (List.all_eq_true.mp hl r hr) (List.all_eq_true.mp hh r hr)

theorem execPortCntClr_upd (a1 : Master) (a2 : ℕ) (a3 : W32) (s : State) :
    ∃ t, execPortCntClr a1 a2 a3 s = .next t ∧ Upd 0x20000000200007000000000000000000000060000081b805000000000000000000000000000000000000000000000000000000000000000003fffc00000000000000000000000000000000000000006203400 s t := by
  unfold execPortCntClr
  refine ⟨_, rfl, ?_⟩
  refine Upd.guardW ?_ (fun x1 h1 => ?_) rfl
  · exact Upd.refl _ _
  · refine Upd.step ?_ (State.portCtrlWrite_upd ..) rfl
    exact h1

theorem State.pauseRx_upd (a1 : ℕ) (a2 : Bool) (a3 : ℕ) (a4 : List ℕ) (s : State) :
    Upd 0x300040000000000000000000000000000000000000000000000 s (State.pauseRx a1 a2 a3 a4 s) := by
  unfold State.pauseRx
  extract_lets +onlyGivenNames -underBinder -merge -useContext x1
  refine Upd.cut (t := x1) ?_ (fun h1 => ?_)
  · unfold x1
    refine Upd.add64 ?_ rfl rfl
    exact Upd.refl _ _
  clear_value x1
  refine Upd.ite ?_ ?_
  · refine Upd.upto ?_ (fun n2 x2 h2 => ?_) _
    · exact h1
    · extract_lets +onlyGivenNames -underBinder -merge -useContext x3
      try clear_value x3
      refine Upd.ite ?_ ?_
      · refine Upd.setFld ?_ rfl
        exact h2
      · exact h2
  · refine Upd.setFlag ?_ rfl
    exact h1

theorem execPauseReceived_upd (a1 : ℕ) (a2 : Bool) (a3 : ℕ) (a4 : List ℕ) (s : State) :
    ∃ t, execPauseReceived a1 a2 a3 a4 s = .next t ∧ Upd 0x300c40000000000000000000000000000000000000000000000 s t := by
  unfold execPauseReceived
  refine ⟨_, rfl, ?_⟩
  refine Upd.ite ?_ ?_
  · refine Upd.step ?_ (State.pauseRx_upd ..) rfl
    refine Upd.add64 ?_ rfl rfl
    exact Upd.refl _ _
  · exact Upd.refl _ _

theorem execPauseExpiry_upd (a1 : ℕ) (a2 : Option ℕ) (s : State) :
    ∃ t, execPauseExpiry a1 a2 s = .next t ∧ Upd 0x40000000000000000000000000000000000000000000000 s t := by
  unfold execPauseExpiry
  refine ⟨_, rfl, ?_⟩
  refine Upd.ite ?_ ?_
  · split
    · refine Upd.setFld ?_ rfl
      exact Upd.refl _ _
    · refine Upd.setFld ?_ rfl
      exact Upd.refl _ _
  · exact Upd.refl _ _

theorem execPauseRefresh_upd (a1 : ℕ) (s : State) :
    ∃ t, execPauseRefresh a1 s = .next t ∧ Upd 0x8000000000000000000000000000000000000000000000000000000000000000000000000000000000000000000000000000003000000000000000000000000000000000000000000000000000 s t := by
  unfold execPauseRefresh
  refine ⟨_, rfl, ?_⟩
  refine Upd.ite ?_ ?_
  · refine Upd.step ?_ (State.pauseAgain_upd ..) rfl
    exact Upd.refl _ _
  · exact Upd.refl _ _

theorem State.macControl_upd (a1 : ℕ) (a2 : List Byte) (s : State) :
    Upd 0x300040000000000000000000000000000000000000000000000 s (State.macControl a1 a2 s) := by
  unfold State.macControl
  split
  · refine Upd.step ?_ (State.pauseRx_upd ..) rfl
    exact Upd.refl _ _
  · refine Upd.step ?_ (State.pauseRx_upd ..) rfl
    exact Upd.refl _ _
  · exact Upd.refl _ _

theorem State.hostClass_upd (a1 : ℕ) (a2 : List Byte) (s : State) :
    Upd 0x20000000007a4620000000000000000000180000a281b8050000000000012002000000000000000000000000000046f5938867fe0f880021130c004000000000000000000000ce00000000000000000000000 s (State.hostClass a1 a2 s) := by
  unfold State.hostClass
  split
  · refine Upd.step ?_ (State.frameIn_upd ..) rfl
    exact Upd.refl _ _
  · extract_lets +onlyGivenNames -underBinder -merge -useContext x1
    try clear_value x1
    refine Upd.ite ?_ ?_
    · refine Upd.step ?_ (State.frameIn_upd ..) rfl
      exact Upd.refl _ _
    · refine Upd.add64 ?_ rfl rfl
      exact Upd.refl _ _

theorem State.hostFrame_upd (a1 : ℕ) (a2 : Frame) (s : State) :
    Upd 0x20000000487a4620000000000000004000180000a281b8050000000000012002000000000000000000000000000046f5938867fe0f880021133ffc4000000000000000000000ce00420000004000000000000 s (State.hostFrame a1 a2 s) := by
  unfold State.hostFrame
  extract_lets +onlyGivenNames -underBinder -merge -useContext x1
  try clear_value x1
  extract_lets +onlyGivenNames -underBinder -merge -useContext x2
  try clear_value x2
  refine Upd.ite ?_ ?_
  · refine Upd.add64 ?_ rfl rfl
    exact Upd.refl _ _
  · refine Upd.ite ?_ ?_
    · refine Upd.add64 ?_ rfl rfl
      exact Upd.refl _ _
    · refine Upd.ite ?_ ?_
      · refine Upd.add64 ?_ rfl rfl
        exact Upd.refl _ _
      · extract_lets +onlyGivenNames -underBinder -merge -useContext x3
        refine Upd.cut (t := x3) ?_ (fun h3 => ?_)
        · unfold x3
          refine Upd.add64 ?_ rfl rfl
          exact Upd.refl _ _
        clear_value x3
        refine Upd.ite ?_ ?_
        · refine Upd.step ?_ (State.macControl_upd ..) rfl
          exact h3
        · refine Upd.ite ?_ ?_
          · refine Upd.step ?_ (State.esmcRx_upd ..) rfl
            exact h3
          · refine Upd.ite ?_ ?_
            · refine Upd.when ?_ (fun x4 h4 => ?_)
              · exact h3
              · refine Upd.step ?_ (State.ptpIn_upd ..) rfl
                exact h4
            · refine Upd.ite ?_ ?_
              · refine Upd.ite ?_ ?_
                · refine Upd.add64 ?_ rfl rfl
                  exact h3
                · exact h3
              · refine Upd.step ?_ (State.hostClass_upd ..) rfl
                exact h3

theorem execHostFrame_upd (a1 : ℕ) (a2 : Frame) (s : State) :
    ∃ t, execHostFrame a1 a2 s = .next t ∧ Upd 0x20000000487a4620000000000000004000180000a281b8050000000000012002000000000000000000000000000046f5938867fe0f880021133ffc4000000000000000000000ce00420000004000000000000 s t := by
  unfold execHostFrame
  refine ⟨_, rfl, ?_⟩
  refine Upd.ite ?_ ?_
  · refine Upd.step ?_ (State.hostFrame_upd ..) rfl
    exact Upd.refl _ _
  · exact Upd.refl _ _

theorem State.phResult_upd (a1 : ℕ) (a2 : ℕ) (a3 : ℕ) (s : State) :
    Upd 0x18000000000000000000000000000000000000000000000000000 s (State.phResult a1 a2 a3 s) := by
  unfold State.phResult
  refine Upd.when ?_ (fun x1 h1 => ?_)
  · refine Upd.wr ?_ rfl
    exact Upd.refl _ _
  · refine Upd.raise ?_ rfl
    exact h1

theorem State.w6Write_upd (a1 : ℕ) (a2 : W32) (s : State) :
    Upd 0x20000000000a00000000000000000000000000000001b80500000000000000000000000000000000000000000000000000006000000820011b000040000000000000000000000000000000000000000000000 s (State.w6Write a1 a2 s) := by
  unfold State.w6Write
  extract_lets +onlyGivenNames -underBinder -merge -useContext x1
  try clear_value x1
  refine Upd.ite ?_ ?_
  · refine Upd.ite ?_ ?_
    · refine Upd.raise ?_ rfl
      exact Upd.refl _ _
    · refine Upd.step ?_ (State.thresholds_upd ..) rfl
      refine Upd.setFld ?_ rfl
      refine Upd.setFld ?_ rfl
      exact Upd.refl _ _
  · refine Upd.ite ?_ ?_
    · extract_lets +onlyGivenNames -underBinder -merge -useContext x2
      try clear_value x2
      refine Upd.ite ?_ ?_
      · refine Upd.step ?_ (State.phResult_upd ..) rfl
        refine Upd.plainWrite ?_ rfl
        exact Upd.refl _ _
      · refine Upd.step ?_ (State.thresholds_upd ..) rfl
        refine Upd.step ?_ (State.phResult_upd ..) rfl
        refine Upd.setFld ?_ rfl
        refine Upd.plainWrite ?_ rfl
        exact Upd.refl _ _
    · refine Upd.plainWrite ?_ rfl
      exact Upd.refl _ _

theorem execValidate_upd (a1 : Master) (a2 : ℕ) (a3 : W32) (s : State) :
    ∃ t, execValidate a1 a2 a3 s = .next t ∧ Upd 0x20000000200a07000000000000000000000060000081b80500000000000000000000000000000000000000000000000000006000000820011b000040000000000000000000000000000000000000006203400 s t := by
  unfold execValidate
  refine ⟨_, rfl, ?_⟩
  refine Upd.guardW ?_ (fun x1 h1 => ?_) rfl
  · exact Upd.refl _ _
  · refine Upd.step ?_ (State.w6Write_upd ..) rfl
    exact h1

theorem execFlowRemove_upd (a1 : Master) (a2 : ℕ) (a3 : W32) (s : State) :
    ∃ t, execFlowRemove a1 a2 a3 s = .next t ∧ Upd 0x20000000200a07000000000000000000000060000081b80500000000000000000000000000000000000000000000000000006000000820011b000040000000000000000000000000000000000000006203400 s t := by
  unfold execFlowRemove
  refine ⟨_, rfl, ?_⟩
  refine Upd.guardW ?_ (fun x1 h1 => ?_) rfl
  · exact Upd.refl _ _
  · refine Upd.step ?_ (State.w6Write_upd ..) rfl
    exact h1

theorem State.phWrite_upd (a1 : ℕ) (a2 : ℕ) (a3 : W32) (s : State) :
    Upd 0x3f8010000000000000000000000000000000000000000000000000000 s (State.phWrite a1 a2 a3 s) := by
  unfold State.phWrite
  refine Upd.ite ((Upd.refl _ _).raise rfl) ?_
  refine Upd.plainWrite (Upd.refl _ _) ?_
  have hm : ∀ n, Nat.testBit 0x3f8010000000000000000000000000000000000000000000000000000 (phWord n).ctorIdx = true := by
    intro n
    unfold phWord
    match n with
    | 0 | 1 | 2 | 3 | 4 => rfl
    | n + 5 => rw [List.getD_eq_default _ _ (by simp)]; rfl
  exact hm a2

theorem execPhEntryWrite_upd (a1 : Master) (a2 : ℕ) (a3 : ℕ) (a4 : W32) (s : State) :
    ∃ t, execPhEntryWrite a1 a2 a3 a4 s = .next t ∧ Upd 0x20000000200007000000000000000000000060000081b8050000000000000000000000000000000000000000000000000000000000003f8010000000000000000000000000000000000000000000006203400 s t := by
  unfold execPhEntryWrite
  refine ⟨_, rfl, ?_⟩
  refine Upd.guardW ?_ (fun x1 h1 => ?_) rfl
  · exact Upd.refl _ _
  · refine Upd.step ?_ (State.phWrite_upd ..) rfl
    exact h1

theorem State.fpQuotaWrite_upd (a1 : ℕ) (a2 : W32) (s : State) :
    Upd 0x4000018000000000000000000000000000000000000000000000000000 s (State.fpQuotaWrite a1 a2 s) := by
  unfold State.fpQuotaWrite
  extract_lets +onlyGivenNames -underBinder -merge -useContext x1
  try clear_value x1
  refine Upd.ite ?_ ?_
  · refine Upd.step ?_ (State.phResult_upd ..) rfl
    refine Upd.plainWrite ?_ rfl
    exact Upd.refl _ _
  · refine Upd.plainWrite ?_ rfl
    exact Upd.refl _ _

theorem State.moveFlow_upd (a1 : ℕ) (a2 : ℕ) (s : State) :
    Upd 0x8200018000000000000000000000000000000000000000000000000000 s (State.moveFlow a1 a2 s) := by
  unfold State.moveFlow
  extract_lets +onlyGivenNames -underBinder -merge -useContext x1
  try clear_value x1
  extract_lets +onlyGivenNames -underBinder -merge -useContext x2
  try clear_value x2
  refine Upd.ite ?_ ?_
  · refine Upd.step ?_ (State.phResult_upd ..) rfl
    exact Upd.refl _ _
  · extract_lets +onlyGivenNames -underBinder -merge -useContext x3
    refine Upd.cut (t := x3) ?_ (fun h3 => ?_)
    · unfold x3
      refine Upd.setFld ?_ rfl
      exact Upd.refl _ _
    clear_value x3
    refine Upd.step ?_ (State.phResult_upd ..) rfl
    refine Upd.setFld ?_ rfl
    exact h3

theorem State.flushFlow_upd (a1 : ℕ) (s : State) :
    Upd 0x20000000001a00000000000000000000000000000001b80500000000000000000000000000000000000000000000000010006018000800011b000040000000000000000000000000000000000000000000000 s (State.flushFlow a1 s) := by
  unfold State.flushFlow
  extract_lets +onlyGivenNames -underBinder -merge -useContext x1
  try clear_value x1
  extract_lets +onlyGivenNames -underBinder -merge -useContext x2
  refine Upd.cut (t := x2) ?_ (fun h2 => ?_)
  · unfold x2
    refine Upd.step ?_ (State.departed_upd ..) rfl
    refine Upd.step ?_ (State.flowCount_upd ..) rfl
    refine Upd.add64 ?_ rfl rfl
    refine Upd.step ?_ (State.modFlow_upd ..) rfl
    exact Upd.refl _ _
  clear_value x2
  extract_lets +onlyGivenNames -underBinder -merge -useContext x3
  try clear_value x3
  refine Upd.step ?_ (State.phResult_upd ..) rfl
  refine Upd.setFld ?_ rfl
  exact h2

theorem State.phCmdWrite_upd (a1 : W32) (s : State) :
    Upd 0x20000000001a00000000000000000000000000000001b80500000000000000000000000000000000000000000000000010007fffff8820011b000040000000000000000000000000000000000000000000000 s (State.phCmdWrite a1 s) := by
  unfold State.phCmdWrite
  refine Upd.raise ?_ rfl
  split
  · exact Upd.step (Upd.refl _ _) (State.moveFlow_upd ..) rfl
  · exact Upd.step (Upd.refl _ _) (State.flushFlow_upd ..) rfl
  · refine Upd.step ?_ (State.phResult_upd ..) rfl
    have hm : (flowCounters.all fun r => Nat.testBit 0x20000000001a00000000000000000000000000000001b80500000000000000000000000000000000000000000000000010007fffff8820011b000040000000000000000000000000000000000000000000000 r.ctorIdx) = true := by decide +kernel
    exact Upd.eachMem (Upd.refl _ _) fun r hr x hx => hx.wr (List.all_eq_true.mp hm r hr)
  · exact Upd.step (Upd.refl _ _) (State.phResult_upd ..) rfl

theorem execFlowMove_upd (a1 : Master) (a2 : W32) (s : State) :
    ∃ t, execFlowMove a1 a2 s = .next t ∧ Upd 0x20000000201a07000000000000000000000060000081b80500000000000000000000000000000000000000000000000010007fffff8820011b000040000000000000000000000000000000000000006203400 s t := by
  unfold execFlowMove
  refine ⟨_, rfl, ?_⟩
  refine Upd.guardW ?_ (fun x1 h1 => ?_) rfl
  · exact Upd.refl _ _
  · refine Upd.step ?_ (State.phCmdWrite_upd ..) rfl
    exact h1

theorem execFlowFlush_upd (a1 : Master) (a2 : W32) (s : State) :
    ∃ t, execFlowFlush a1 a2 s = .next t ∧ Upd 0x20000000201a07000000000000000000000060000081b80500000000000000000000000000000000000000000000000010007fffff8820011b000040000000000000000000000000000000000000006203400 s t := by
  unfold execFlowFlush
  refine ⟨_, rfl, ?_⟩
  refine Upd.guardW ?_ (fun x1 h1 => ?_) rfl
  · exact Upd.refl _ _
  · refine Upd.step ?_ (State.phCmdWrite_upd ..) rfl
    exact h1

theorem execClrCnt_upd (a1 : Master) (a2 : W32) (s : State) :
    ∃ t, execClrCnt a1 a2 s = .next t ∧ Upd 0x20000000201a07000000000000000000000060000081b80500000000000000000000000000000000000000000000000010007fffff8820011b000040000000000000000000000000000000000000006203400 s t := by
  unfold execClrCnt
  refine ⟨_, rfl, ?_⟩
  refine Upd.guardW ?_ (fun x1 h1 => ?_) rfl
  · exact Upd.refl _ _
  · refine Upd.step ?_ (State.phCmdWrite_upd ..) rfl
    exact h1

end Sys2Proof.Machine
end

