-- ==== Sys2Proof/Laws/FootCipher.lean ====
section
/-! SUPPORT. The footprints of the operations of Machine/Cipher.lean: what each may change. -/

set_option linter.unreachableTactic false
set_option linter.unusedTactic false
set_option linter.unusedVariables false

namespace Sys2Proof.Machine

theorem State.sealGap_upd (a1 : ℕ) (s : State) :
    Upd 0x44000000000000000000000000000000000000000000000000000000000000000000000000000000000000000000000000004010000000000000000000000000000000000000000000000000000 s (State.sealGap a1 s) := by
  unfold State.sealGap
  refine Upd.step ?_ (State.delinLoss_upd ..) rfl
  refine Upd.step ?_ (State.modGctx_upd ..) rfl
  exact Upd.refl _ _

theorem State.sealDrop_upd (a1 : ℕ) (s : State) :
    Upd 0x44000000000000000000000000000000000000000000000000000000000000000000000000000000000000000000000000004010000000000000000000000000000000000000000000000000000 s (State.sealDrop a1 s) := by
  unfold State.sealDrop
  split
  · refine Upd.step ?_ (State.sealGap_upd ..) rfl
    exact Upd.refl _ _
  · extract_lets +onlyGivenNames -underBinder -merge -useContext x1
    try clear_value x1
    refine Upd.step ?_ (State.modCip_upd ..) rfl
    exact Upd.refl _ _

theorem State.sealFail_upd (a1 : ℕ) (s : State) :
    Upd 0x60000000400000000000000000000000000000000000000000000000000000000000000000000000 s (State.sealFail a1 s) := by
  unfold State.sealFail
  refine Upd.raise ?_ rfl
  refine Upd.add64 ?_ rfl rfl
  exact Upd.refl _ _

theorem State.sealReplay_upd (a1 : ℕ) (s : State) :
    Upd 0x100000000400000000000000000000000000000000000000000000000000000000000000000000000 s (State.sealReplay a1 s) := by
  unfold State.sealReplay
  refine Upd.raise ?_ rfl
  refine Upd.bump ?_ rfl
  exact Upd.refl _ _

theorem State.protectDone_upd (a1 : ℕ) (a2 : ℕ) (a3 : Bool) (s : State) :
    Upd 0x20000000001a00000000000000000000000000000001b805000000000000000000000000000000000000000078000400100078600008000113000040000000000000000000000000000000000000000000000 s (State.protectDone a1 a2 a3 s) := by
  unfold State.protectDone
  refine Upd.ite ?_ ?_
  · refine Upd.step ?_ (State.departed_upd ..) rfl
    refine Upd.step ?_ (State.purge_upd ..) rfl
    refine Upd.add64 ?_ rfl rfl
    refine Upd.step ?_ (State.modFlow_upd ..) rfl
    exact Upd.refl _ _
  · refine Upd.step ?_ (State.departed_upd ..) rfl
    refine Upd.raise ?_ rfl
    refine Upd.add64 ?_ rfl rfl
    refine Upd.step ?_ (State.modFlow_upd ..) rfl
    exact Upd.refl _ _

theorem State.verifyDone_upd (a1 : ℕ) (a2 : ℕ) (a3 : Msg) (a4 : Bool) (a5 : List Byte) (s : State) :
    Upd 0x20000000007a4620000000000000000000180000a281b8050000000000012002000000000000000000000001f80046f5938867fe0f8800251300004000000000000000000000ce00000000000000000000000 s (State.verifyDone a1 a2 a3 a4 a5 s) := by
  unfold State.verifyDone
  extract_lets +onlyGivenNames -underBinder -merge -useContext x1
  try clear_value x1
  refine Upd.ite ?_ ?_
  · refine Upd.raise ?_ rfl
    refine Upd.add64 ?_ rfl rfl
    exact Upd.refl _ _
  · refine Upd.ite ?_ ?_
    · refine Upd.raise ?_ rfl
      refine Upd.add64 ?_ rfl rfl
      exact Upd.refl _ _
    · refine Upd.step ?_ (State.lineClass_upd ..) rfl
      refine Upd.add64 ?_ rfl rfl
      refine Upd.step ?_ (State.setSlot_upd ..) rfl
      exact Upd.refl _ _

theorem State.openDone_upd (a1 : ℕ) (a2 : Msg) (a3 : Bool) (a4 : List Byte) (s : State) :
    Upd 0x20000000007e4620000000000000000000180000a281b8050000000000012002000000000000000000001786000246f5938867fe0f8800651300004000000000000000000000ce00000000000000000000000 s (State.openDone a1 a2 a3 a4 s) := by
  unfold State.openDone
  refine Upd.ite ?_ ?_
  · refine Upd.step ?_ (State.sealGap_upd ..) rfl
    refine Upd.step ?_ (State.sealFail_upd ..) rfl
    exact Upd.refl _ _
  · refine Upd.ite ?_ ?_
    · refine Upd.step ?_ (State.sealGap_upd ..) rfl
      refine Upd.step ?_ (State.sealReplay_upd ..) rfl
      exact Upd.refl _ _
    · extract_lets +onlyGivenNames -underBinder -merge -useContext x1
      refine Upd.cut (t := x1) ?_ (fun h1 => ?_)
      · unfold x1
        refine Upd.add64 ?_ rfl rfl
        refine Upd.step ?_ (State.modGctx_upd ..) rfl
        exact Upd.refl _ _
      clear_value x1
      refine Upd.step ?_ (State.openRecords_upd ..) rfl
      exact h1

theorem State.sharesGone_upd (a1 : Msg) (s : State) :
    Upd 0x20000000001a00000000000000000000000000000001b805000000000000000000000000000000000000000000000000100060000008000113000040000000000000000000000000000000000000000000000 s (State.sharesGone a1 s) := by
  unfold State.sharesGone
  refine Upd.each ?_ (fun n1 x1 h1 => ?_) _
  · exact Upd.refl _ _
  · refine Upd.step ?_ (State.departed_upd ..) rfl
    exact h1

theorem State.release_upd (a1 : Msg) (a2 : Bool) (a3 : List Byte) (s : State) :
    Upd 0x20000000007e46a0000000000000000000180000a281b8050000000000012002000000000000000000001787f80246f593887ffe0f8800651300004000000000000000000000ce00000000000000000000000 s (State.release a1 a2 a3 s) := by
  unfold State.release
  extract_lets +onlyGivenNames -underBinder -merge -useContext x1
  refine Upd.cut (t := x1) ?_ (fun h1 => ?_)
  · unfold x1
    refine Upd.step ?_ (State.msgGone_upd ..) rfl
    exact Upd.refl _ _
  clear_value x1
  split
  · refine Upd.step ?_ (State.protectDone_upd ..) rfl
    exact h1
  · refine Upd.step ?_ (State.flushBehind_upd ..) rfl
    refine Upd.step ?_ (State.verifyDone_upd ..) rfl
    exact h1
  · refine Upd.step ?_ (State.sharesGone_upd ..) rfl
    refine Upd.when ?_ (fun x2 h2 => ?_)
    · refine Upd.step ?_ (State.sealSent_upd ..) rfl
      exact h1
    · refine Upd.step ?_ (State.sealFail_upd ..) rfl
      exact h2
  · refine Upd.when ?_ (fun x3 h3 => ?_)
    · refine Upd.step ?_ (State.openDone_upd ..) rfl
      exact h1
    · refine Upd.step ?_ (State.sealGap_upd ..) rfl
      exact h3

theorem State.releases_upd (a1 : ℕ × ℕ) (a2 : ℕ) (s : State) : Upd 0x20000000007e46a0000000000000000000180000a281b8050000000000012002000000000000000000001787f80246f593887ffe0f8800651300004000000000000000000000ce00000000000000000000000 s (State.releases a1 a2 s) := by
  induction a2 generalizing a1 s with
  | zero => exact Upd.refl _ _
  | succ n ih =>
    unfold State.releases
    repeat' first
      | with_reducible assumption
      | with_reducible exact Upd.refl _ _
      | with_reducible refine Upd.step ?_ (ih ..) ?_
      | (show Nat.land _ _ = _; rfl)
      | (show Nat.testBit _ _ = true; rfl)
      | (extract_lets +onlyGivenNames x; refine Upd.cut (t := x) ?_ (fun hx => ?_); (on_goal 2 => clear_value x); unfold x; clear x)
      | (extract_lets +onlyGivenNames x; clear_value x)
      | with_reducible apply Upd.ite
      | with_reducible refine Upd.step ?_ (State.release_upd ..) ?_
      | split

theorem State.finish_upd (a1 : Msg) (a2 : Bool) (a3 : List Byte) (s : State) :
    Upd 0x20000000007e46a0000000000000000000180000a281b8050000000000012002000000000000000000001787f80246f593887ffe0f8800651300004000000000000000000000ce00000000000000000000000 s (State.finish a1 a2 a3 s) := by
  unfold State.finish
  extract_lets +onlyGivenNames -underBinder -merge -useContext x1
  refine Upd.cut (t := x1) ?_ (fun h1 => ?_)
  · unfold x1
    refine Upd.step ?_ (State.coreDrop_upd ..) rfl
    refine Upd.step ?_ (State.modCip_upd ..) rfl
    exact Upd.refl _ _
  clear_value x1
  refine Upd.step ?_ (State.releases_upd ..) rfl
  exact h1

theorem execCipherDone_upd (a1 : ℕ) (a2 : Bool) (a3 : List Byte) (s : State) :
    ∃ t, execCipherDone a1 a2 a3 s = .next t ∧ Upd 0x20000000007e46a0000000000000000000180000a281b8050000000000012002000000000000000000001787f80246f593887ffe0f8800651300004000000000000000000000ce00000000000000000000000 s t := by
  unfold execCipherDone
  refine ⟨_, rfl, ?_⟩
  split
  · refine Upd.ite ?_ ?_
    · refine Upd.step ?_ (State.finish_upd ..) rfl
      exact Upd.refl _ _
    · exact Upd.refl _ _
  · exact Upd.refl _ _

theorem execCipherTimeout_upd (a1 : ℕ) (s : State) :
    ∃ t, execCipherTimeout a1 s = .next t ∧ Upd 0x20000000007e46a0000000000000000000180000a281b8050000000000012002000000000000000000001787f80646f593887ffe0f8800651300004000000000000000000000ce00000000000000000000000 s t := by
  unfold execCipherTimeout
  refine ⟨_, rfl, ?_⟩
  split
  · refine Upd.ite ?_ ?_
    · extract_lets +onlyGivenNames -underBinder -merge -useContext x1
      try clear_value x1
      extract_lets +onlyGivenNames -underBinder -merge -useContext x2
      refine Upd.cut (t := x2) ?_ (fun h2 => ?_)
      · unfold x2
        split
        · refine Upd.step ?_ (State.count_upd ..) rfl
          exact Upd.refl _ _
        · exact Upd.refl _ _
      clear_value x2
      refine Upd.step ?_ (State.detect_upd ..) rfl
      refine Upd.raise ?_ rfl
      refine Upd.bump ?_ rfl
      refine Upd.step ?_ (State.finish_upd ..) rfl
      exact h2
    · exact Upd.refl _ _
  · exact Upd.refl _ _

theorem State.sealHeader_upd (a1 : ℕ) (a2 : List Byte) (s : State) :
    Upd 0x20000000004400000000000000000000000000000001b8050000000000000000000000000000000000001e0000000600000000000000004010000000000000000000000000000000000000000000000000000 s (State.sealHeader a1 a2 s) := by
  unfold State.sealHeader
  extract_lets +onlyGivenNames -underBinder -merge -useContext x1
  try clear_value x1
  extract_lets +onlyGivenNames -underBinder -merge -useContext x2
  try clear_value x2
  extract_lets +onlyGivenNames -underBinder -merge -useContext x3
  try clear_value x3
  extract_lets +onlyGivenNames -underBinder -merge -useContext x4
  try clear_value x4
  extract_lets +onlyGivenNames -underBinder -merge -useContext x5
  try clear_value x5
  refine Upd.ite ?_ ?_
  · refine Upd.step ?_ (State.sealDrop_upd ..) rfl
    refine Upd.step ?_ (State.modGctx_upd ..) rfl
    refine Upd.raise ?_ rfl
    refine Upd.bump ?_ rfl
    exact Upd.refl _ _
  · split
    · refine Upd.step ?_ (State.sealDrop_upd ..) rfl
      refine Upd.step ?_ (State.sealFail_upd ..) rfl
      exact Upd.refl _ _
    · refine Upd.ite ?_ ?_
      · refine Upd.step ?_ (State.sealDrop_upd ..) rfl
        refine Upd.step ?_ (State.sealReplay_upd ..) rfl
        exact Upd.refl _ _
      · refine Upd.step ?_ (State.newMsg_upd ..) rfl
        exact Upd.refl _ _

theorem execSealHeader_upd (a1 : ℕ) (a2 : List Byte) (s : State) :
    ∃ t, execSealHeader a1 a2 s = .next t ∧ Upd 0x20000000004400000000000000000000000000000001b8050000000000000000000000000000000000001e0000000600000000000000004010000000000000000000000000000000000000000000000000000 s t := by
  unfold execSealHeader
  refine ⟨_, rfl, ?_⟩
  refine Upd.ite ?_ ?_
  · refine Upd.step ?_ (State.sealHeader_upd ..) rfl
    exact Upd.refl _ _
  · exact Upd.refl _ _

theorem State.keyResult_upd (a1 : ℕ) (s : State) :
    Upd 0x40000000000000000000000000000000000000000000000000000000000000000000000000000000002400000000000000000000000000000000000000000000000000000000000000000000000 s (State.keyResult a1 s) := by
  unfold State.keyResult
  refine Upd.raise ?_ (by first | rfl | (split <;> rfl) | (unfold enterEvt; split <;> rfl) | (unfold pendFld; split <;> rfl) | (rw [padFld_reg (by assumption)]; rfl) | (unfold phWord; rcases a2 with _ | _ | _ | _ | _ | a2 <;> rfl) | exact RegId.all_bit rfl _)
  refine Upd.setFld ?_ (by first | rfl | (split <;> rfl) | (unfold enterEvt; split <;> rfl) | (unfold pendFld; split <;> rfl) | (rw [padFld_reg (by assumption)]; rfl) | (unfold phWord; rcases a2 with _ | _ | _ | _ | _ | a2 <;> rfl) | exact RegId.all_bit rfl _)
  refine Upd.step ?_ (State.modCip_upd ..) (by first | rfl | (split <;> rfl) | (unfold enterEvt; split <;> rfl) | (unfold pendFld; split <;> rfl) | (rw [padFld_reg (by assumption)]; rfl) | (unfold phWord; rcases a2 with _ | _ | _ | _ | _ | a2 <;> rfl) | exact RegId.all_bit rfl _)
  exact Upd.refl _ _

theorem State.grpPns_upd (a1 : ℕ) (s : State) :
    Upd 0x40000000000000000000000000000000000000000000000000000000000000000000000000000000000000000000000000000000000000000000000000000000000000000000000000000000000 s (State.grpPns a1 s) := by
  unfold State.grpPns
  refine Upd.each ?_ (fun n1 x1 h1 => ?_) _
  · exact Upd.refl _ _
  · refine Upd.step ?_ (State.modGctx_upd ..) rfl
    exact h1

theorem State.loadKey_upd (a1 : W32) (s : State) :
    Upd 0x40000000000000000000000000000000000000000000000000000000000000000000000000000000002400000000000000000000000000000000000000000000000000000000000000000000000 s (State.loadKey a1 s) := by
  unfold State.loadKey
  extract_lets +onlyGivenNames -underBinder -merge -useContext x1
  try clear_value x1
  extract_lets +onlyGivenNames -underBinder -merge -useContext x2
  try clear_value x2
  refine Upd.ite ?_ ?_
  · refine Upd.step ?_ (State.keyResult_upd ..) rfl
    exact Upd.refl _ _
  · split
    · refine Upd.step ?_ (State.keyResult_upd ..) rfl
      exact Upd.refl _ _
    · refine Upd.ite ?_ ?_
      · refine Upd.step ?_ (State.keyResult_upd ..) rfl
        exact Upd.refl _ _
      · split
        · refine Upd.step ?_ (State.keyResult_upd ..) rfl
          exact Upd.refl _ _
        · refine Upd.step ?_ (State.keyResult_upd ..) rfl
          refine Upd.step ?_ (State.grpPns_upd ..) rfl
          refine Upd.step ?_ (State.setSlot_upd ..) rfl
          exact Upd.refl _ _

theorem State.kekShow_upd (s : State) :
    Upd 0x200000000000000000000000000000000000000000000000000000000000000000000000 s (State.kekShow s) := by
  unfold State.kekShow
  refine Upd.setFld ?_ rfl
  exact Upd.refl _ _

theorem State.setKek_upd (a1 : ℕ) (a2 : Option (BitVec 256)) (s : State) :
    Upd 0x40000000000000000000000000000000000000000000000000000000000000000000000000000000000200000000000000000000000000000000000000000000000000000000000000000000000 s (State.setKek a1 a2 s) := by
  unfold State.setKek
  refine Upd.step ?_ (State.kekShow_upd ..) rfl
  refine Upd.step ?_ (State.modCip_upd ..) rfl
  exact Upd.refl _ _

theorem State.loadKek_upd (a1 : W32) (s : State) :
    Upd 0x40000000000000000000000000000000000000000000000000000000000000000000000000000000002600000000000000000000000000000000000000000000000000000000000000000000000 s (State.loadKek a1 s) := by
  unfold State.loadKek
  extract_lets +onlyGivenNames -underBinder -merge -useContext x1
  try clear_value x1
  refine Upd.ite ?_ ?_
  · refine Upd.step ?_ (State.keyResult_upd ..) rfl
    exact Upd.refl _ _
  · refine Upd.ite ?_ ?_
    · refine Upd.step ?_ (State.keyResult_upd ..) rfl
      exact Upd.refl _ _
    · split
      · refine Upd.step ?_ (State.keyResult_upd ..) rfl
        exact Upd.refl _ _
      · split
        · refine Upd.step ?_ (State.keyResult_upd ..) rfl
          exact Upd.refl _ _
        · refine Upd.step ?_ (State.keyResult_upd ..) rfl
          refine Upd.step ?_ (State.setKek_upd ..) rfl
          exact Upd.refl _ _

theorem State.keyCmdWrite_upd (a1 : W32) (s : State) :
    Upd 0x40000000000000000000000000000000000000000000000000000000000000000000000000000000002600000000000000000000000000000000000000000000000000000000000000000000000 s (State.keyCmdWrite a1 s) := by
  unfold State.keyCmdWrite
  extract_lets +onlyGivenNames -underBinder -merge -useContext x1
  try clear_value x1
  split
  · refine Upd.step ?_ (State.loadKey_upd ..) rfl
    exact Upd.refl _ _
  · refine Upd.step ?_ (State.loadKek_upd ..) rfl
    exact Upd.refl _ _
  · refine Upd.ite ?_ ?_
    · refine Upd.step ?_ (State.keyResult_upd ..) rfl
      exact Upd.refl _ _
    · refine Upd.step ?_ (State.keyResult_upd ..) rfl
      refine Upd.step ?_ (State.setSlot_upd ..) rfl
      exact Upd.refl _ _
  · refine Upd.ite ?_ ?_
    · refine Upd.step ?_ (State.keyResult_upd ..) rfl
      exact Upd.refl _ _
    · refine Upd.ite ?_ ?_
      · refine Upd.step ?_ (State.keyResult_upd ..) rfl
        exact Upd.refl _ _
      · refine Upd.step ?_ (State.keyResult_upd ..) rfl
        refine Upd.step ?_ (State.setKek_upd ..) rfl
        exact Upd.refl _ _
  · refine Upd.step ?_ (State.keyResult_upd ..) rfl
    exact Upd.refl _ _

theorem execLoadKey_upd (a1 : Master) (a2 : W32) (s : State) :
    ∃ t, execLoadKey a1 a2 s = .next t ∧ Upd 0x20000000204007000000000000000000000060000081b805000000000000000000000000000000000000000000002600000000000000000000000000000000000000000000000000000000000000006203400 s t := by
  unfold execLoadKey
  refine ⟨_, rfl, ?_⟩
  refine Upd.guardW ?_ (fun x1 h1 => ?_) rfl
  · exact Upd.refl _ _
  · refine Upd.step ?_ (State.keyCmdWrite_upd ..) rfl
    exact h1

theorem execLoadKek_upd (a1 : Master) (a2 : W32) (s : State) :
    ∃ t, execLoadKek a1 a2 s = .next t ∧ Upd 0x20000000204007000000000000000000000060000081b805000000000000000000000000000000000000000000002600000000000000000000000000000000000000000000000000000000000000006203400 s t := by
  unfold execLoadKek
  refine ⟨_, rfl, ?_⟩
  refine Upd.guardW ?_ (fun x1 h1 => ?_) rfl
  · exact Upd.refl _ _
  · refine Upd.step ?_ (State.keyCmdWrite_upd ..) rfl
    exact h1

theorem execErase_upd (a1 : Master) (a2 : W32) (s : State) :
    ∃ t, execErase a1 a2 s = .next t ∧ Upd 0x20000000204007000000000000000000000060000081b805000000000000000000000000000000000000000000002600000000000000000000000000000000000000000000000000000000000000006203400 s t := by
  unfold execErase
  refine ⟨_, rfl, ?_⟩
  refine Upd.guardW ?_ (fun x1 h1 => ?_) rfl
  · exact Upd.refl _ _
  · refine Upd.step ?_ (State.keyCmdWrite_upd ..) rfl
    exact h1

theorem execEraseKek_upd (a1 : Master) (a2 : W32) (s : State) :
    ∃ t, execEraseKek a1 a2 s = .next t ∧ Upd 0x20000000204007000000000000000000000060000081b805000000000000000000000000000000000000000000002600000000000000000000000000000000000000000000000000000000000000006203400 s t := by
  unfold execEraseKek
  refine ⟨_, rfl, ?_⟩
  refine Upd.guardW ?_ (fun x1 h1 => ?_) rfl
  · exact Upd.refl _ _
  · refine Upd.step ?_ (State.keyCmdWrite_upd ..) rfl
    exact h1

theorem execTxAnWrite_upd (a1 : Master) (a2 : Bool) (a3 : ℕ) (a4 : W32) (s : State) :
    ∃ t, execTxAnWrite a1 a2 a3 a4 s = .next t ∧ Upd 0x20000000200007000000000000000000000060000081b805000000000000000000000000000000000000004000100000000000000000000000000000000000000000000000000000000000000000006203400 s t := by
  refine ⟨_, rfl, ?_⟩
  refine Upd.guardW (Upd.refl _ _) (fun x h => ?_) rfl
  cases a2 <;> exact h.plainWrite rfl

theorem execEntFail_upd (s : State) :
    ∃ t, execEntFail s = .next t ∧ Upd 0x80600000000000000000000000000000000000000000000000000000000000000000000000 s t := by
  unfold execEntFail
  refine ⟨_, rfl, ?_⟩
  refine Upd.ite ?_ ?_
  · refine Upd.bump ?_ rfl
    refine Upd.raise ?_ rfl
    refine Upd.setFlag ?_ rfl
    exact Upd.refl _ _
  · exact Upd.refl _ _

theorem execEntOk_upd (s : State) :
    ∃ t, execEntOk s = .next t ∧ Upd 0x600000000000000000000000000000000000000000000000000000000000000000000000 s t := by
  unfold execEntOk
  refine ⟨_, rfl, ?_⟩
  refine Upd.ite ?_ ?_
  · refine Upd.raise ?_ rfl
    refine Upd.setFlag ?_ rfl
    exact Upd.refl _ _
  · exact Upd.refl _ _

end Sys2Proof.Machine
end

