-- ==== Sys2Proof/Laws/FootInject.lean ====
section
/-! SUPPORT. The footprints of the operations of Machine/Inject.lean: what each may change. -/

set_option linter.unreachableTactic false
set_option linter.unusedTactic false
set_option linter.unusedVariables false

namespace Sys2Proof.Machine

theorem State.pllLost_upd (a1 : ℕ) (s : State) :
    Upd 0x20000000101a4620000000000000000000180000a281b80500000000000120020000000000000000000000000000000010006600000800211300004000000000000000000000ce00000000000000000000000 s (State.pllLost a1 s) := by
  unfold State.pllLost
  refine Upd.ite ?_ ?_
  · refine Upd.step ?_ (State.detect_upd ..) rfl
    refine Upd.set_plls ?_ rfl
    exact Upd.refl _ _
  · exact Upd.refl _ _

theorem State.cfgErr_upd (a1 : ℕ) (s : State) :
    Upd 0x10000000000000000000000000000000000000000000000000000000000000000000000000000000000000000000000000000000000000000000000000000 s (State.cfgErr a1 s) := by
  unfold State.cfgErr
  refine Upd.ite ?_ ?_
  · exact Upd.refl _ _
  · refine Upd.setFld ?_ rfl
    refine Upd.setFld ?_ rfl
    exact Upd.refl _ _

theorem State.injStart_upd (a1 : ℕ) (s : State) :
    Upd 0x24000000585e46e0000000000000000000180010b281b8050000000000012002000000000000000000000800000004001000660000080021130000550080000180001090cb20ce424e0000004000000000000 s (State.injStart a1 s) := by
  unfold State.injStart
  extract_lets +onlyGivenNames -underBinder -merge -useContext x1
  try clear_value x1
  extract_lets +onlyGivenNames -underBinder -merge -useContext x2
  refine Upd.cut (t := x2) ?_ (fun h2 => ?_)
  · unfold x2
    refine Upd.setFld ?_ rfl
    exact Upd.refl _ _
  clear_value x2
  split
  · refine Upd.ite ?_ ?_
    · refine Upd.step ?_ (State.pllLost_upd ..) rfl
      exact h2
    · refine Upd.ite ?_ ?_
      · refine Upd.step ?_ (State.clkFault_upd ..) rfl
        exact h2
      · refine Upd.step ?_ (State.adcClkFault_upd ..) rfl
        exact h2
  · refine Upd.step ?_ (State.candLost_upd ..) rfl
    exact h2
  · refine Upd.set_pmk ?_ rfl
    exact h2
  · refine Upd.step ?_ (State.detect_upd ..) rfl
    refine Upd.step ?_ (State.cfgErr_upd ..) rfl
    exact h2
  · extract_lets +onlyGivenNames -underBinder -merge -useContext x3
    try clear_value x3
    refine Upd.ite ?_ ?_
    · refine Upd.set_hay ?_ rfl
      exact h2
    · exact h2
  · refine Upd.set_segBad ?_ rfl
    exact h2
  · refine Upd.step ?_ (State.holds_upd ..) rfl
    exact h2
  · refine Upd.step ?_ (State.xoffFlow_upd ..) rfl
    exact h2
  · exact h2

theorem State.injStop_upd (a1 : ℕ) (s : State) :
    Upd 0x20000000181a40200000000000000000001800102001b80500000000000120020000000000000000000000000000000010006600000800211300004000000000000000000000ce00000000000000000000000 s (State.injStop a1 s) := by
  unfold State.injStop
  extract_lets +onlyGivenNames -underBinder -merge -useContext x1
  try clear_value x1
  extract_lets +onlyGivenNames -underBinder -merge -useContext x2
  try clear_value x2
  extract_lets +onlyGivenNames -underBinder -merge -useContext x3
  try clear_value x3
  extract_lets +onlyGivenNames -underBinder -merge -useContext x4
  refine Upd.cut (t := x4) ?_ (fun h4 => ?_)
  · unfold x4
    refine Upd.setFld ?_ rfl
    exact Upd.refl _ _
  clear_value x4
  extract_lets +onlyGivenNames -underBinder -merge -useContext x5
  refine Upd.cut (t := x5) ?_ (fun h5 => ?_)
  · unfold x5
    refine Upd.when ?_ (fun x6 h6 => ?_)
    · exact h4
    · refine Upd.set_plls ?_ rfl
      exact h6
  clear_value x5
  extract_lets +onlyGivenNames -underBinder -merge -useContext x7
  refine Upd.cut (t := x7) ?_ (fun h7 => ?_)
  · unfold x7
    refine Upd.when ?_ (fun x8 h8 => ?_)
    · exact h5
    · refine Upd.step ?_ (State.xoffFlow_upd ..) rfl
      exact h8
  clear_value x7
  extract_lets +onlyGivenNames -underBinder -merge -useContext x9
  refine Upd.cut (t := x9) ?_ (fun h9 => ?_)
  · unfold x9
    refine Upd.upto ?_ (fun n10 x10 h10 => ?_) _
    · exact h7
    · refine Upd.when ?_ (fun x11 h11 => ?_)
      · exact h10
      · refine Upd.step ?_ (State.failOvers_upd ..) rfl
        exact h11
  clear_value x9
  refine Upd.step ?_ (State.qlEval_upd ..) rfl
  refine Upd.step ?_ (State.ppsEval_upd ..) rfl
  refine Upd.step ?_ (State.holds_upd ..) rfl
  exact h9

theorem State.injEval_upd (s : State) :
    Upd 0x24000000585e46e0000000000000000000180010b281b8050000000000012002000000000000000000000800000004001000660000080021130000550080000180001090cb20ce424e0000004000000000000 s (State.injEval s) := by
  unfold State.injEval
  refine Upd.upto ?_ (fun n1 x1 h1 => ?_) _
  · exact Upd.refl _ _
  · refine Upd.ite ?_ ?_
    · refine Upd.step ?_ (State.injStart_upd ..) rfl
      exact h1
    · refine Upd.ite ?_ ?_
      · refine Upd.step ?_ (State.injStop_upd ..) rfl
        exact h1
      · exact h1

theorem State.winShut_upd (s : State) :
    Upd 0x25000000585e46e0000000000000000000180016b281b8050000000000012002000000000000000000000800000004001000660000080021130000550080000180001090cb20ce424e0000004000000000000 s (State.winShut s) := by
  unfold State.winShut
  extract_lets +onlyGivenNames -underBinder -merge -useContext x1
  refine Upd.cut (t := x1) ?_ (fun h1 => ?_)
  · unfold x1
    refine Upd.when ?_ (fun x2 h2 => ?_)
    · refine Upd.set_winEnd ?_ rfl
      exact Upd.refl _ _
    · refine Upd.raise ?_ rfl
      refine Upd.setFld ?_ rfl
      exact h2
  clear_value x1
  refine Upd.step ?_ (State.injEval_upd ..) rfl
  refine Upd.upto ?_ (fun n3 x3 h3 => ?_) _
  · exact h1
  · refine Upd.setFld ?_ rfl
    exact h3

theorem State.winOpen_upd (a1 : ℕ) (s : State) :
    Upd 0x25000000585e46e0000000000000000000180012b281b8050000000000012002000000000000000000000800000004001000660000080021130000550080000180001090cb20ce424e0000004000000000000 s (State.winOpen a1 s) := by
  unfold State.winOpen
  refine Upd.step ?_ (State.injEval_upd ..) rfl
  refine Upd.setFld ?_ rfl
  refine Upd.set_winEnd ?_ rfl
  exact Upd.refl _ _

end Sys2Proof.Machine
end

