-- ==== Sys2Proof/Laws/FootMonitor.lean ====
section
/-! SUPPORT. The footprints of the operations of Machine/Monitor.lean: what each may change. -/

set_option linter.unreachableTactic false
set_option linter.unusedTactic false
set_option linter.unusedVariables false

namespace Sys2Proof.Machine

theorem State.modPair_upd (s : State) (a1 : ℕ) (a2 : MonPair → MonPair) :
    Upd 0x8000000000000000000000000000000000000000000000000000000000000000000000000000000000000000000000000000000000000000000000000000000000000000000000000000000000000 s (State.modPair s a1 a2) := by
  unfold State.modPair
  refine Upd.set_mon ?_ rfl
  exact Upd.refl _ _

theorem State.chkShow_upd (s : State) :
    Upd 0x200000000000000000000000000000000000000000000000000000000000000000000000000000000000000000000 s (State.chkShow s) := by
  unfold State.chkShow
  refine Upd.setFlag ?_ rfl
  exact Upd.refl _ _

theorem State.chShow_upd (a1 : ℕ) (s : State) :
    Upd 0x2000000000000000000000000000000000000000000000000000000000000000000000000000000000000000000000000 s (State.chShow a1 s) := by
  unfold State.chShow
  refine Upd.setFld ?_ rfl
  exact Upd.refl _ _

theorem State.binsDrop_upd (a1 : ℕ) (s : State) :
    Upd 0x80000000000000000000000000000000000000000000000000000000000000000000000000000000000000000000000000000000000000000000000000000000000000000000000000000000000000 s (State.binsDrop a1 s) := by
  unfold State.binsDrop
  refine Upd.set_bins ?_ rfl
  exact Upd.refl _ _

theorem State.pairRestart_upd (a1 : ℕ) (s : State) :
    Upd 0x88000000000000000000000000000000000000000000000000000000000002000200000000000000000000000000000000000000000000000000000000000000000000000000000000000000000000 s (State.pairRestart a1 s) := by
  unfold State.pairRestart
  extract_lets +onlyGivenNames -underBinder -merge -useContext x1
  refine Upd.cut (t := x1) ?_ (fun h1 => ?_)
  · unfold x1
    refine Upd.setFlag ?_ rfl
    refine Upd.setFld ?_ rfl
    exact Upd.refl _ _
  clear_value x1
  refine Upd.step ?_ (State.chShow_upd ..) rfl
  refine Upd.step ?_ (State.binsDrop_upd ..) rfl
  refine Upd.step ?_ (State.modPair_upd ..) rfl
  exact h1

theorem State.slotTake_upd (a1 : ℕ) (s : State) :
    Upd 0x8000000000000000000000000000000000000000000000000000000000000000000000000000000000000000000000000000000000000000000000000000000000000000000000000000000000000 s (State.slotTake a1 s) := by
  unfold State.slotTake
  refine Upd.step ?_ (State.modPair_upd ..) rfl
  exact Upd.refl _ _

theorem State.pairMoved_upd (a1 : ℕ) (a2 : ChainCfg) (s : State) :
    Upd 0x88000000000000000000000000000000000000000000000000000000000002000200000000000000000000000000000000000000000000000000000000000000000000000000000000000000000000 s (State.pairMoved a1 a2 s) := by
  unfold State.pairMoved
  refine Upd.ite ?_ ?_
  · refine Upd.step ?_ (State.chShow_upd ..) rfl
    exact Upd.refl _ _
  · refine Upd.step ?_ (State.pairRestart_upd ..) rfl
    exact Upd.refl _ _

theorem State.resultIn_upd (a1 : ℕ) (a2 : ℕ) (a3 : ℤ × Bool × Bool) (s : State) :
    Upd 0x180040400000000000000000000000000000000000000000000000000000000000000000000000000000000000000000000 s (State.resultIn a1 a2 a3 s) := by
  unfold State.resultIn
  extract_lets +onlyGivenNames -underBinder -merge -useContext x1
  try clear_value x1
  extract_lets +onlyGivenNames -underBinder -merge -useContext x2
  refine Upd.cut (t := x2) ?_ (fun h2 => ?_)
  · unfold x2
    refine Upd.wr ?_ rfl
    refine Upd.wrN ?_ rfl
    exact Upd.refl _ _
  clear_value x2
  extract_lets +onlyGivenNames -underBinder -merge -useContext x3
  try clear_value x3
  extract_lets +onlyGivenNames -underBinder -merge -useContext x4
  try clear_value x4
  refine Upd.when ?_ (fun x5 h5 => ?_)
  · exact h2
  · refine Upd.raise ?_ rfl
    refine Upd.wr ?_ rfl
    exact h5

theorem State.trigStart_upd (a1 : ℕ) (a2 : W32 × W32) (a3 : Bool) (s : State) :
    Upd 0x88000000000000000000000000000000000000000000000000000000000002000200000000000000000000000000000000000000000000000000000000000000000000000000000000000000000000 s (State.trigStart a1 a2 a3 s) := by
  unfold State.trigStart
  refine Upd.step ?_ (State.pairRestart_upd ..) rfl
  refine Upd.step ?_ (State.modPair_upd ..) rfl
  exact Upd.refl _ _

theorem State.trigEdge_upd (a1 : ℕ) (s : State) :
    Upd 0x88000000000000000000000000000000000000000000000000000000000002010600000000000000000000000000000000000000000000000000000000000000000000000000000000000000000000 s (State.trigEdge a1 s) := by
  unfold State.trigEdge
  extract_lets +onlyGivenNames -underBinder -merge -useContext x1
  try clear_value x1
  refine Upd.ite ?_ ?_
  · refine Upd.ite ?_ ?_
    · refine Upd.raise ?_ rfl
      refine Upd.bump ?_ rfl
      exact Upd.refl _ _
    · refine Upd.setFlag ?_ rfl
      refine Upd.step ?_ (State.modPair_upd ..) rfl
      exact Upd.refl _ _
  · refine Upd.step ?_ (State.trigStart_upd ..) rfl
    exact Upd.refl _ _

theorem State.slotNext_upd (a1 : ℕ) (a2 : ChainCfg) (s : State) :
    Upd 0x88000000000000000000000000000000000000000000000000000000000002000200000000000000000000000000000000000000000000000000000000000000000000000000000000000000000000 s (State.slotNext a1 a2 s) := by
  unfold State.slotNext
  split
  · refine Upd.step ?_ (State.trigStart_upd ..) rfl
    refine Upd.setFlag ?_ rfl
    refine Upd.step ?_ (State.modPair_upd ..) rfl
    exact Upd.refl _ _
  · refine Upd.step ?_ (State.pairMoved_upd ..) rfl
    refine Upd.step ?_ (State.slotTake_upd ..) rfl
    refine Upd.step ?_ (State.modPair_upd ..) rfl
    exact Upd.refl _ _

theorem execSlotDone_upd (a1 : ℕ) (a2 : List MonOut) (a3 : List MonOut) (s : State) :
    ∃ t, execSlotDone a1 a2 a3 s = .next t ∧ Upd 0x88000000000000000000000000000000000000000000000000000000000182040600000000000000000000000000000000000000000000000000000000000000000000000000000000000000000000 s t := by
  unfold execSlotDone
  refine ⟨_, rfl, ?_⟩
  refine Upd.ite ?_ ?_
  · exact Upd.refl _ _
  · extract_lets +onlyGivenNames -underBinder -merge -useContext x1
    try clear_value x1
    extract_lets +onlyGivenNames -underBinder -merge -useContext x2
    refine Upd.cut (t := x2) ?_ (fun h2 => ?_)
    · unfold x2
      refine Upd.step ?_ (State.resultIn_upd ..) rfl
      exact Upd.refl _ _
    clear_value x2
    extract_lets +onlyGivenNames -underBinder -merge -useContext x3
    try clear_value x3
    extract_lets +onlyGivenNames -underBinder -merge -useContext x4
    refine Upd.cut (t := x4) ?_ (fun h4 => ?_)
    · unfold x4
      refine Upd.setFld ?_ rfl
      exact h2
    clear_value x4
    refine Upd.step ?_ (State.slotNext_upd ..) rfl
    refine Upd.step ?_ (State.modPair_upd ..) rfl
    exact h4

theorem State.binsIn_upd (a1 : ℕ) (a2 : ℤ) (a3 : W32 × W32) (s : State) :
    Upd 0x80000000000000000000000000000000000000000000000000000000000000000000000000000000000000000000000000000000000000000000000000000000000000000000000000000000000000 s (State.binsIn a1 a2 a3 s) := by
  unfold State.binsIn
  refine Upd.upto ?_ (fun n1 x1 h1 => ?_) _
  · exact Upd.refl _ _
  · refine Upd.ite ?_ ?_
    · refine Upd.set_bins ?_ rfl
      exact h1
    · exact h1

theorem execPairOutput_upd (a1 : ℕ) (a2 : MonOut) (a3 : MonOut) (s : State) :
    ∃ t, execPairOutput a1 a2 a3 s = .next t ∧ Upd 0x80000000000000000000000000000000000000000000000000000000000184040400000000000000000000000000000000000000000000000000000000000000000000000000000000000000000000 s t := by
  unfold execPairOutput
  refine ⟨_, rfl, ?_⟩
  refine Upd.ite ?_ ?_
  · exact Upd.refl _ _
  · extract_lets +onlyGivenNames -underBinder -merge -useContext x1
    try clear_value x1
    refine Upd.step ?_ (State.binsIn_upd ..) rfl
    refine Upd.wrN ?_ rfl
    refine Upd.step ?_ (State.resultIn_upd ..) rfl
    exact Upd.refl _ _

theorem State.compatTrig_upd (s : State) :
    Upd 0xb8000000000000000000000000000000000000000000000000000000000002010600000000000000000000000000000000000000000000000000000000000000000000000000000000000000000000 s (State.compatTrig s) := by
  unfold State.compatTrig
  extract_lets +onlyGivenNames -underBinder -merge -useContext x1
  try clear_value x1
  refine Upd.ite ?_ ?_
  · refine Upd.raise ?_ rfl
    refine Upd.bump ?_ rfl
    exact Upd.refl _ _
  · refine Upd.set_monSnap_monFree ?_ rfl rfl
    refine Upd.step ?_ (State.pairRestart_upd ..) rfl
    refine Upd.step ?_ (State.pairRestart_upd ..) rfl
    exact Upd.refl _ _

theorem execMonTrig_upd (a1 : Bool) (s : State) :
    ∃ t, execMonTrig a1 s = .next t ∧ Upd 0xb8000000000000000000000000000000000000000000000000000000000002010600000000000000000000000000000000000000000000000000000000000000000000000000000000000000000000 s t := by
  unfold execMonTrig
  refine ⟨_, rfl, ?_⟩
  extract_lets +onlyGivenNames -underBinder -merge -useContext x1
  try clear_value x1
  refine Upd.ite ?_ ?_
  · exact Upd.refl _ _
  · refine Upd.ite ?_ ?_
    · refine Upd.step ?_ (State.compatTrig_upd ..) rfl
      exact Upd.refl _ _
    · refine Upd.upto ?_ (fun n2 x2 h2 => ?_) _
      · exact Upd.refl _ _
      · refine Upd.ite ?_ ?_
        · refine Upd.step ?_ (State.trigEdge_upd ..) rfl
          exact h2
        · exact h2

theorem execTrigDone_upd (a1 : ℕ) (a2 : List MonOut) (a3 : List MonOut) (s : State) :
    ∃ t, execTrigDone a1 a2 a3 s = .next t ∧ Upd 0x8800000000000000000000000000000000000000000000000000000000003a000600000000000000000000000000000000000000000000000000000000000000000000000000000000000000000000 s t := by
  unfold execTrigDone
  refine ⟨_, rfl, ?_⟩
  split
  · exact Upd.refl _ _
  · refine Upd.ite ?_ ?_
    · exact Upd.refl _ _
    · extract_lets +onlyGivenNames -underBinder -merge -useContext x1
      try clear_value x1
      extract_lets +onlyGivenNames -underBinder -merge -useContext x2
      refine Upd.cut (t := x2) ?_ (fun h2 => ?_)
      · unfold x2
        refine Upd.wr ?_ rfl
        refine Upd.wr ?_ rfl
        refine Upd.wrN ?_ rfl
        exact Upd.refl _ _
      clear_value x2
      extract_lets +onlyGivenNames -underBinder -merge -useContext x3
      refine Upd.cut (t := x3) ?_ (fun h3 => ?_)
      · unfold x3
        refine Upd.raise ?_ rfl
        exact h2
      clear_value x3
      refine Upd.step ?_ (State.pairRestart_upd ..) rfl
      refine Upd.step ?_ (State.slotTake_upd ..) rfl
      refine Upd.step ?_ (State.modPair_upd ..) rfl
      exact h3

theorem State.monCtrlWrite_upd (a1 : W32) (s : State) :
    Upd 0xb8000000000000000000000000000000000000000000000000000000000002010600000000000000000000000000000000000000000000000000000000000000000000000000000000000000000000 s (State.monCtrlWrite a1 s) := by
  unfold State.monCtrlWrite
  extract_lets +onlyGivenNames -underBinder -merge -useContext x1
  refine Upd.cut (t := x1) ?_ (fun h1 => ?_)
  · unfold x1
    refine Upd.when ?_ (fun x2 h2 => ?_)
    · exact Upd.refl _ _
    · refine Upd.step ?_ (State.compatTrig_upd ..) rfl
      exact h2
  clear_value x1
  refine Upd.when ?_ (fun x3 h3 => ?_)
  · exact h1
  · refine Upd.step ?_ (State.modPair_upd ..) rfl
    refine Upd.step ?_ (State.modPair_upd ..) rfl
    refine Upd.setFld ?_ rfl
    exact h3

theorem execSoftTrig_upd (a1 : Master) (s : State) :
    ∃ t, execSoftTrig a1 s = .next t ∧ Upd 0x2000000ba00007000000000000000000000060000081b805000000000000000000002010600000000000000000000000000000000000000000000000000000000000000000000000000000000000006203400 s t := by
  unfold execSoftTrig
  refine ⟨_, rfl, ?_⟩
  refine Upd.guardW ?_ (fun x1 h1 => ?_) rfl
  · exact Upd.refl _ _
  · refine Upd.step ?_ (State.monCtrlWrite_upd ..) rfl
    exact h1

theorem execCompatTimer_upd (s : State) :
    ∃ t, execCompatTimer s = .next t ∧ Upd 0xf8000000000000000000000000000000000000000000000000000000000002010600000000000000000000000000000000000000000000000000000000000000000000000000000000000000000000 s t := by
  unfold execCompatTimer
  refine ⟨_, rfl, ?_⟩
  refine Upd.ite ?_ ?_
  · refine Upd.step ?_ (State.compatTrig_upd ..) rfl
    refine Upd.set_monAt ?_ rfl
    exact Upd.refl _ _
  · exact Upd.refl _ _

theorem execSnapDone_upd (a1 : List MonOut) (s : State) :
    ∃ t, execSnapDone a1 s = .next t ∧ Upd 0x90000000000000000000000000000000000000000000000000000000000000380400000000000000000000000000000000000000000000000000000000000000000000000000000000000000000000 s t := by
  unfold execSnapDone
  refine ⟨_, rfl, ?_⟩
  refine Upd.ite ?_ ?_
  · exact Upd.refl _ _
  · extract_lets +onlyGivenNames -underBinder -merge -useContext x1
    try clear_value x1
    extract_lets +onlyGivenNames -underBinder -merge -useContext x2
    refine Upd.cut (t := x2) ?_ (fun h2 => ?_)
    · unfold x2
      refine Upd.upto ?_ (fun n3 x3 h3 => ?_) _
      · exact Upd.refl _ _
      · refine Upd.step ?_ (State.binsIn_upd ..) rfl
        exact h3
    clear_value x2
    extract_lets +onlyGivenNames -underBinder -merge -useContext x4
    refine Upd.cut (t := x4) ?_ (fun h4 => ?_)
    · unfold x4
      refine Upd.upto ?_ (fun n5 x5 h5 => ?_) _
      · exact h2
      · extract_lets +onlyGivenNames -underBinder -merge -useContext x6
        try clear_value x6
        refine Upd.wrN ?_ rfl
        exact h5
    clear_value x4
    extract_lets +onlyGivenNames -underBinder -merge -useContext x7
    refine Upd.cut (t := x7) ?_ (fun h7 => ?_)
    · unfold x7
      refine Upd.raise ?_ rfl
      refine Upd.wr ?_ rfl
      refine Upd.wr ?_ rfl
      exact h4
    clear_value x7
    refine Upd.set_monSnap ?_ rfl
    exact h7

theorem execSettled_upd (a1 : ℕ) (s : State) :
    ∃ t, execSettled a1 s = .next t ∧ Upd 0x8000000000000000000000000000000000000000000000000000000000002000200000000000000000000000000000000000000000000000000000000000000000000000000000000000000000000 s t := by
  unfold execSettled
  refine ⟨_, rfl, ?_⟩
  refine Upd.ite ?_ ?_
  · exact Upd.refl _ _
  · extract_lets +onlyGivenNames -underBinder -merge -useContext x1
    try clear_value x1
    refine Upd.step ?_ (State.modPair_upd ..) rfl
    refine Upd.setFlag ?_ rfl
    refine Upd.setFld ?_ rfl
    exact Upd.refl _ _

theorem execChkWindow_upd (a1 : ℕ) (a2 : ℕ) (a3 : ℤ) (a4 : ℤ) (s : State) :
    ∃ t, execChkWindow a1 a2 a3 a4 s = .next t ∧ Upd 0x88000000000000000000000000000000000000000000000000000000000002020600000000000000000000000000000000000000000000000000000000000000000000000000000000000000000000 s t := by
  unfold execChkWindow
  refine ⟨_, rfl, ?_⟩
  refine Upd.ite ?_ ?_
  · exact Upd.refl _ _
  · refine Upd.ite ?_ ?_
    · refine Upd.step ?_ (State.modPair_upd ..) rfl
      exact Upd.refl _ _
    · extract_lets +onlyGivenNames -underBinder -merge -useContext x1
      refine Upd.cut (t := x1) ?_ (fun h1 => ?_)
      · unfold x1
        refine Upd.raise ?_ rfl
        refine Upd.bump ?_ rfl
        exact Upd.refl _ _
      clear_value x1
      extract_lets +onlyGivenNames -underBinder -merge -useContext x2
      refine Upd.cut (t := x2) ?_ (fun h2 => ?_)
      · unfold x2
        refine Upd.step ?_ (State.modPair_upd ..) rfl
        exact h1
      clear_value x2
      refine Upd.when ?_ (fun x3 h3 => ?_)
      · exact h2
      · refine Upd.step ?_ (State.pairRestart_upd ..) rfl
        refine Upd.step ?_ (State.modPair_upd ..) rfl
        exact h3

theorem execMonFault_upd (a1 : ℕ) (a2 : ℤ) (a3 : ℤ) (s : State) :
    ∃ t, execMonFault a1 a2 a3 s = .next t ∧ Upd 0x20000008801a4620000000000000000000180000a281b80500000000000120020000200060000000000000000000000010006600000800211300004000000000000000000000ce00000000000000000000000 s t := by
  unfold execMonFault
  refine ⟨_, rfl, ?_⟩
  refine Upd.ite ?_ ?_
  · exact Upd.refl _ _
  · extract_lets +onlyGivenNames -underBinder -merge -useContext x1
    try clear_value x1
    extract_lets +onlyGivenNames -underBinder -merge -useContext x2
    try clear_value x2
    extract_lets +onlyGivenNames -underBinder -merge -useContext x3
    try clear_value x3
    extract_lets +onlyGivenNames -underBinder -merge -useContext x4
    refine Upd.cut (t := x4) ?_ (fun h4 => ?_)
    · unfold x4
      refine Upd.setFld ?_ rfl
      refine Upd.step ?_ (State.useFree_upd ..) rfl
      refine Upd.step ?_ (State.useFree_upd ..) rfl
      exact Upd.refl _ _
    clear_value x4
    refine Upd.step ?_ (State.detect_upd ..) rfl
    refine Upd.step ?_ (State.pairRestart_upd ..) rfl
    refine Upd.step ?_ (State.slotTake_upd ..) rfl
    refine Upd.step ?_ (State.modPair_upd ..) rfl
    refine Upd.raise ?_ rfl
    exact h4

theorem execFaultClr_upd (a1 : Master) (s : State) :
    ∃ t, execFaultClr a1 s = .next t ∧ Upd 0x2000000ba00007000000000000000000000060000081b805000000000000000000002010600000000000000000000000000000000000000000000000000000000000000000000000000000000000006203400 s t := by
  unfold execFaultClr
  refine ⟨_, rfl, ?_⟩
  refine Upd.guardW ?_ (fun x1 h1 => ?_) rfl
  · exact Upd.refl _ _
  · refine Upd.step ?_ (State.monCtrlWrite_upd ..) rfl
    exact h1

theorem State.monRefuse_upd (a1 : ℕ) (s : State) :
    Upd 0x600000000000000000000000000000000000000000000000000000000000000000000000000000000000000000000 s (State.monRefuse a1 s) := by
  unfold State.monRefuse
  refine Upd.setFld ?_ rfl
  refine Upd.raise ?_ rfl
  exact Upd.refl _ _

theorem State.pairCfgWrite_upd (a1 : ℕ) (a2 : W32) (s : State) :
    Upd 0x88000000000000000000000000000000000000000000000000000000000002400600000000000000000000000000000000000000000000000000000000000000000000000000000000000000000000 s (State.pairCfgWrite a1 a2 s) := by
  unfold State.pairCfgWrite
  extract_lets +onlyGivenNames -underBinder -merge -useContext x1
  try clear_value x1
  extract_lets +onlyGivenNames -underBinder -merge -useContext x2
  try clear_value x2
  extract_lets +onlyGivenNames -underBinder -merge -useContext x3
  try clear_value x3
  refine Upd.ite ?_ ?_
  · refine Upd.step ?_ (State.monRefuse_upd ..) rfl
    exact Upd.refl _ _
  · refine Upd.ite ?_ ?_
    · refine Upd.step ?_ (State.monRefuse_upd ..) rfl
      exact Upd.refl _ _
    · extract_lets +onlyGivenNames -underBinder -merge -useContext x4
      try clear_value x4
      extract_lets +onlyGivenNames -underBinder -merge -useContext x5
      try clear_value x5
      extract_lets +onlyGivenNames -underBinder -merge -useContext x6
      try clear_value x6
      extract_lets +onlyGivenNames -underBinder -merge -useContext x7
      refine Upd.cut (t := x7) ?_ (fun h7 => ?_)
      · unfold x7
        refine Upd.step ?_ (State.chkShow_upd ..) rfl
        refine Upd.plainWrite ?_ rfl
        exact Upd.refl _ _
      clear_value x7
      extract_lets +onlyGivenNames -underBinder -merge -useContext x8
      try clear_value x8
      extract_lets +onlyGivenNames -underBinder -merge -useContext x9
      refine Upd.cut (t := x9) ?_ (fun h9 => ?_)
      · unfold x9
        refine Upd.when ?_ (fun x10 h10 => ?_)
        · exact h7
        · refine Upd.step ?_ (State.slotTake_upd ..) rfl
          refine Upd.setFlag ?_ rfl
          refine Upd.setFld ?_ rfl
          refine Upd.step ?_ (State.modPair_upd ..) rfl
          exact h10
      clear_value x9
      refine Upd.ite ?_ ?_
      · refine Upd.step ?_ (State.pairRestart_upd ..) rfl
        exact h9
      · refine Upd.ite ?_ ?_
        · refine Upd.step ?_ (State.pairMoved_upd ..) rfl
          exact h9
        · exact h9

theorem State.monWrite_upd (a1 : RegKey) (a2 : W32) (s : State) :
    Upd 0xf80000000000000007ffffffffffffffffffffffffffffffffffffffffffffffffffffffffffffffffffffffffffffffffffffffffffffffffffffffffffffffffffffffffffffffffffffffffffff s (State.monWrite a1 a2 s) := by
  unfold State.monWrite
  split
  · refine Upd.ite ?_ ?_
    · refine Upd.step ?_ (State.monRefuse_upd ..) (by first | with_reducible exact RegId.all_bit rfl _ | rfl | (split <;> rfl) | (unfold enterEvt; split <;> rfl) | (unfold pendFld; split <;> rfl) | (rw [padFld_reg (by assumption)]; rfl) | (unfold phWord; rcases a2 with _ | _ | _ | _ | _ | a2 <;> rfl) | exact RegId.all_bit rfl _)
      exact Upd.refl _ _
    · extract_lets +onlyGivenNames -underBinder -merge -useContext x1
      try clear_value x1
      extract_lets +onlyGivenNames -underBinder -merge -useContext x2
      refine Upd.cut (t := x2) ?_ (fun h2 => ?_)
      · unfold x2
        refine Upd.step ?_ (State.chkShow_upd ..) (by first | with_reducible exact RegId.all_bit rfl _ | rfl | (split <;> rfl) | (unfold enterEvt; split <;> rfl) | (unfold pendFld; split <;> rfl) | (rw [padFld_reg (by assumption)]; rfl) | (unfold phWord; rcases a2 with _ | _ | _ | _ | _ | a2 <;> rfl) | exact RegId.all_bit rfl _)
        refine Upd.plainWrite ?_ (by first | with_reducible exact RegId.all_bit rfl _ | rfl | (split <;> rfl) | (unfold enterEvt; split <;> rfl) | (unfold pendFld; split <;> rfl) | (rw [padFld_reg (by assumption)]; rfl) | (unfold phWord; rcases a2 with _ | _ | _ | _ | _ | a2 <;> rfl) | exact RegId.all_bit rfl _)
        exact Upd.refl _ _
      clear_value x2
      refine Upd.ite ?_ ?_
      · exact h2
      · extract_lets +onlyGivenNames -underBinder -merge -useContext x3
        refine Upd.cut (t := x3) ?_ (fun h3 => ?_)
        · unfold x3
          refine Upd.setFld ?_ (by first | with_reducible exact RegId.all_bit rfl _ | rfl | (split <;> rfl) | (unfold enterEvt; split <;> rfl) | (unfold pendFld; split <;> rfl) | (rw [padFld_reg (by assumption)]; rfl) | (unfold phWord; rcases a2 with _ | _ | _ | _ | _ | a2 <;> rfl) | exact RegId.all_bit rfl _)
          refine Upd.setFld ?_ (by first | with_reducible exact RegId.all_bit rfl _ | rfl | (split <;> rfl) | (unfold enterEvt; split <;> rfl) | (unfold pendFld; split <;> rfl) | (rw [padFld_reg (by assumption)]; rfl) | (unfold phWord; rcases a2 with _ | _ | _ | _ | _ | a2 <;> rfl) | exact RegId.all_bit rfl _)
          refine Upd.set_mon_monSnap_monFree_monAt ?_ (by first | with_reducible exact RegId.all_bit rfl _ | rfl | (split <;> rfl) | (unfold enterEvt; split <;> rfl) | (unfold pendFld; split <;> rfl) | (rw [padFld_reg (by assumption)]; rfl) | (unfold phWord; rcases a2 with _ | _ | _ | _ | _ | a2 <;> rfl) | exact RegId.all_bit rfl _) (by first | with_reducible exact RegId.all_bit rfl _ | rfl | (split <;> rfl) | (unfold enterEvt; split <;> rfl) | (unfold pendFld; split <;> rfl) | (rw [padFld_reg (by assumption)]; rfl) | (unfold phWord; rcases a2 with _ | _ | _ | _ | _ | a2 <;> rfl) | exact RegId.all_bit rfl _) (by first | with_reducible exact RegId.all_bit rfl _ | rfl | (split <;> rfl) | (unfold enterEvt; split <;> rfl) | (unfold pendFld; split <;> rfl) | (rw [padFld_reg (by assumption)]; rfl) | (unfold phWord; rcases a2 with _ | _ | _ | _ | _ | a2 <;> rfl) | exact RegId.all_bit rfl _) (by first | with_reducible exact RegId.all_bit rfl _ | rfl | (split <;> rfl) | (unfold enterEvt; split <;> rfl) | (unfold pendFld; split <;> rfl) | (rw [padFld_reg (by assumption)]; rfl) | (unfold phWord; rcases a2 with _ | _ | _ | _ | _ | a2 <;> rfl) | exact RegId.all_bit rfl _)
          exact h2
        clear_value x3
        refine Upd.step ?_ (State.pairRestart_upd ..) (by first | with_reducible exact RegId.all_bit rfl _ | rfl | (split <;> rfl) | (unfold enterEvt; split <;> rfl) | (unfold pendFld; split <;> rfl) | (rw [padFld_reg (by assumption)]; rfl) | (unfold phWord; rcases a2 with _ | _ | _ | _ | _ | a2 <;> rfl) | exact RegId.all_bit rfl _)
        refine Upd.step ?_ (State.pairRestart_upd ..) (by first | with_reducible exact RegId.all_bit rfl _ | rfl | (split <;> rfl) | (unfold enterEvt; split <;> rfl) | (unfold pendFld; split <;> rfl) | (rw [padFld_reg (by assumption)]; rfl) | (unfold phWord; rcases a2 with _ | _ | _ | _ | _ | a2 <;> rfl) | exact RegId.all_bit rfl _)
        refine Upd.step ?_ (State.slotTake_upd ..) (by first | with_reducible exact RegId.all_bit rfl _ | rfl | (split <;> rfl) | (unfold enterEvt; split <;> rfl) | (unfold pendFld; split <;> rfl) | (rw [padFld_reg (by assumption)]; rfl) | (unfold phWord; rcases a2 with _ | _ | _ | _ | _ | a2 <;> rfl) | exact RegId.all_bit rfl _)
        refine Upd.step ?_ (State.slotTake_upd ..) (by first | with_reducible exact RegId.all_bit rfl _ | rfl | (split <;> rfl) | (unfold enterEvt; split <;> rfl) | (unfold pendFld; split <;> rfl) | (rw [padFld_reg (by assumption)]; rfl) | (unfold phWord; rcases a2 with _ | _ | _ | _ | _ | a2 <;> rfl) | exact RegId.all_bit rfl _)
        exact h3
  · refine Upd.set_monAt ?_ (by first | with_reducible exact RegId.all_bit rfl _ | rfl | (split <;> rfl) | (unfold enterEvt; split <;> rfl) | (unfold pendFld; split <;> rfl) | (rw [padFld_reg (by assumption)]; rfl) | (unfold phWord; rcases a2 with _ | _ | _ | _ | _ | a2 <;> rfl) | exact RegId.all_bit rfl _)
    refine Upd.plainWrite ?_ (by first | with_reducible exact RegId.all_bit rfl _ | rfl | (split <;> rfl) | (unfold enterEvt; split <;> rfl) | (unfold pendFld; split <;> rfl) | (rw [padFld_reg (by assumption)]; rfl) | (unfold phWord; rcases a2 with _ | _ | _ | _ | _ | a2 <;> rfl) | exact RegId.all_bit rfl _)
    exact Upd.refl _ _
  · refine Upd.step ?_ (State.monCtrlWrite_upd ..) (by first | with_reducible exact RegId.all_bit rfl _ | rfl | (split <;> rfl) | (unfold enterEvt; split <;> rfl) | (unfold pendFld; split <;> rfl) | (rw [padFld_reg (by assumption)]; rfl) | (unfold phWord; rcases a2 with _ | _ | _ | _ | _ | a2 <;> rfl) | exact RegId.all_bit rfl _)
    exact Upd.refl _ _
  · refine Upd.ite ?_ ?_
    · refine Upd.step ?_ (State.monRefuse_upd ..) (by first | with_reducible exact RegId.all_bit rfl _ | rfl | (split <;> rfl) | (unfold enterEvt; split <;> rfl) | (unfold pendFld; split <;> rfl) | (rw [padFld_reg (by assumption)]; rfl) | (unfold phWord; rcases a2 with _ | _ | _ | _ | _ | a2 <;> rfl) | exact RegId.all_bit rfl _)
      exact Upd.refl _ _
    · extract_lets +onlyGivenNames -underBinder -merge -useContext x5
      try clear_value x5
      refine Upd.upto ?_ (fun n6 x6 h6 => ?_) _
      · refine Upd.plainWrite ?_ (by first | with_reducible exact RegId.all_bit rfl _ | rfl | (split <;> rfl) | (unfold enterEvt; split <;> rfl) | (unfold pendFld; split <;> rfl) | (rw [padFld_reg (by assumption)]; rfl) | (unfold phWord; rcases a2 with _ | _ | _ | _ | _ | a2 <;> rfl) | exact RegId.all_bit rfl _)
        exact Upd.refl _ _
      · refine Upd.step ?_ (State.pairMoved_upd ..) (by first | with_reducible exact RegId.all_bit rfl _ | rfl | (split <;> rfl) | (unfold enterEvt; split <;> rfl) | (unfold pendFld; split <;> rfl) | (rw [padFld_reg (by assumption)]; rfl) | (unfold phWord; rcases a2 with _ | _ | _ | _ | _ | a2 <;> rfl) | exact RegId.all_bit rfl _)
        exact h6
  · extract_lets +onlyGivenNames -underBinder -merge -useContext x7
    try clear_value x7
    extract_lets +onlyGivenNames -underBinder -merge -useContext x8
    refine Upd.cut (t := x8) ?_ (fun h8 => ?_)
    · unfold x8
      refine Upd.plainWrite ?_ (by first | with_reducible exact RegId.all_bit rfl _ | rfl | (split <;> rfl) | (unfold enterEvt; split <;> rfl) | (unfold pendFld; split <;> rfl) | (rw [padFld_reg (by assumption)]; rfl) | (unfold phWord; rcases a2 with _ | _ | _ | _ | _ | a2 <;> rfl) | exact RegId.all_bit rfl _)
      exact Upd.refl _ _
    clear_value x8
    refine Upd.ite ?_ ?_
    · refine Upd.step ?_ (State.pairRestart_upd ..) (by first | with_reducible exact RegId.all_bit rfl _ | rfl | (split <;> rfl) | (unfold enterEvt; split <;> rfl) | (unfold pendFld; split <;> rfl) | (rw [padFld_reg (by assumption)]; rfl) | (unfold phWord; rcases a2 with _ | _ | _ | _ | _ | a2 <;> rfl) | exact RegId.all_bit rfl _)
      refine Upd.step ?_ (State.pairRestart_upd ..) (by first | with_reducible exact RegId.all_bit rfl _ | rfl | (split <;> rfl) | (unfold enterEvt; split <;> rfl) | (unfold pendFld; split <;> rfl) | (rw [padFld_reg (by assumption)]; rfl) | (unfold phWord; rcases a2 with _ | _ | _ | _ | _ | a2 <;> rfl) | exact RegId.all_bit rfl _)
      exact h8
    · exact h8
  · refine Upd.step ?_ (State.pairCfgWrite_upd ..) (by first | with_reducible exact RegId.all_bit rfl _ | rfl | (split <;> rfl) | (unfold enterEvt; split <;> rfl) | (unfold pendFld; split <;> rfl) | (rw [padFld_reg (by assumption)]; rfl) | (unfold phWord; rcases a2 with _ | _ | _ | _ | _ | a2 <;> rfl) | exact RegId.all_bit rfl _)
    exact Upd.refl _ _
  · extract_lets +onlyGivenNames -underBinder -merge -useContext x9
    try clear_value x9
    extract_lets +onlyGivenNames -underBinder -merge -useContext x10
    refine Upd.cut (t := x10) ?_ (fun h10 => ?_)
    · unfold x10
      refine Upd.plainWrite ?_ (by first | with_reducible exact RegId.all_bit rfl _ | rfl | (split <;> rfl) | (unfold enterEvt; split <;> rfl) | (unfold pendFld; split <;> rfl) | (rw [padFld_reg (by assumption)]; rfl) | (unfold phWord; rcases a2 with _ | _ | _ | _ | _ | a2 <;> rfl) | exact RegId.all_bit rfl _)
      exact Upd.refl _ _
    clear_value x10
    refine Upd.ite ?_ ?_
    · refine Upd.step ?_ (State.pairRestart_upd ..) (by first | with_reducible exact RegId.all_bit rfl _ | rfl | (split <;> rfl) | (unfold enterEvt; split <;> rfl) | (unfold pendFld; split <;> rfl) | (rw [padFld_reg (by assumption)]; rfl) | (unfold phWord; rcases a2 with _ | _ | _ | _ | _ | a2 <;> rfl) | exact RegId.all_bit rfl _)
      exact h10
    · exact h10
  · extract_lets +onlyGivenNames -underBinder -merge -useContext x11
    try clear_value x11
    extract_lets +onlyGivenNames -underBinder -merge -useContext x12
    refine Upd.cut (t := x12) ?_ (fun h12 => ?_)
    · unfold x12
      refine Upd.plainWrite ?_ (by first | with_reducible exact RegId.all_bit rfl _ | rfl | (split <;> rfl) | (unfold enterEvt; split <;> rfl) | (unfold pendFld; split <;> rfl) | (rw [padFld_reg (by assumption)]; rfl) | (unfold phWord; rcases a2 with _ | _ | _ | _ | _ | a2 <;> rfl) | exact RegId.all_bit rfl _)
      exact Upd.refl _ _
    clear_value x12
    refine Upd.ite ?_ ?_
    · refine Upd.step ?_ (State.pairRestart_upd ..) (by first | with_reducible exact RegId.all_bit rfl _ | rfl | (split <;> rfl) | (unfold enterEvt; split <;> rfl) | (unfold pendFld; split <;> rfl) | (rw [padFld_reg (by assumption)]; rfl) | (unfold phWord; rcases a2 with _ | _ | _ | _ | _ | a2 <;> rfl) | exact RegId.all_bit rfl _)
      exact h12
    · exact h12
  · refine Upd.ite ?_ ?_
    · refine Upd.step ?_ (State.monRefuse_upd ..) (by first | with_reducible exact RegId.all_bit rfl _ | rfl | (split <;> rfl) | (unfold enterEvt; split <;> rfl) | (unfold pendFld; split <;> rfl) | (rw [padFld_reg (by assumption)]; rfl) | (unfold phWord; rcases a2 with _ | _ | _ | _ | _ | a2 <;> rfl) | exact RegId.all_bit rfl _)
      exact Upd.refl _ _
    · refine Upd.plainWrite ?_ (by first | with_reducible exact RegId.all_bit rfl _ | rfl | (split <;> rfl) | (unfold enterEvt; split <;> rfl) | (unfold pendFld; split <;> rfl) | (rw [padFld_reg (by assumption)]; rfl) | (unfold phWord; rcases a2 with _ | _ | _ | _ | _ | a2 <;> rfl) | exact RegId.all_bit rfl _)
      exact Upd.refl _ _
  · refine Upd.ite ?_ ?_
    · refine Upd.step ?_ (State.monRefuse_upd ..) (by first | with_reducible exact RegId.all_bit rfl _ | rfl | (split <;> rfl) | (unfold enterEvt; split <;> rfl) | (unfold pendFld; split <;> rfl) | (rw [padFld_reg (by assumption)]; rfl) | (unfold phWord; rcases a2 with _ | _ | _ | _ | _ | a2 <;> rfl) | exact RegId.all_bit rfl _)
      exact Upd.refl _ _
    · refine Upd.plainWrite ?_ (by first | with_reducible exact RegId.all_bit rfl _ | rfl | (split <;> rfl) | (unfold enterEvt; split <;> rfl) | (unfold pendFld; split <;> rfl) | (rw [padFld_reg (by assumption)]; rfl) | (unfold phWord; rcases a2 with _ | _ | _ | _ | _ | a2 <;> rfl) | exact RegId.all_bit rfl _)
      exact Upd.refl _ _
  · refine Upd.ite ?_ ?_
    · exact Upd.refl _ _
    · extract_lets +onlyGivenNames -underBinder -merge -useContext x13
      try clear_value x13
      extract_lets +onlyGivenNames -underBinder -merge -useContext x14
      refine Upd.cut (t := x14) ?_ (fun h14 => ?_)
      · unfold x14
        refine Upd.plainWrite ?_ (by first | with_reducible exact RegId.all_bit rfl _ | rfl | (split <;> rfl) | (unfold enterEvt; split <;> rfl) | (unfold pendFld; split <;> rfl) | (rw [padFld_reg (by assumption)]; rfl) | (unfold phWord; rcases a2 with _ | _ | _ | _ | _ | a2 <;> rfl) | exact RegId.all_bit rfl _)
        exact Upd.refl _ _
      clear_value x14
      refine Upd.ite ?_ ?_
      · exact h14
      · refine Upd.set_bins ?_ (by first | with_reducible exact RegId.all_bit rfl _ | rfl | (split <;> rfl) | (unfold enterEvt; split <;> rfl) | (unfold pendFld; split <;> rfl) | (rw [padFld_reg (by assumption)]; rfl) | (unfold phWord; rcases a2 with _ | _ | _ | _ | _ | a2 <;> rfl) | exact RegId.all_bit rfl _)
        exact h14
  · refine Upd.ite ?_ ?_
    · exact Upd.refl _ _
    · extract_lets +onlyGivenNames -underBinder -merge -useContext x15
      try clear_value x15
      extract_lets +onlyGivenNames -underBinder -merge -useContext x16
      refine Upd.cut (t := x16) ?_ (fun h16 => ?_)
      · unfold x16
        refine Upd.plainWrite ?_ (by first | with_reducible exact RegId.all_bit rfl _ | rfl | (split <;> rfl) | (unfold enterEvt; split <;> rfl) | (unfold pendFld; split <;> rfl) | (rw [padFld_reg (by assumption)]; rfl) | (unfold phWord; rcases a2 with _ | _ | _ | _ | _ | a2 <;> rfl) | exact RegId.all_bit rfl _)
        exact Upd.refl _ _
      clear_value x16
      refine Upd.ite ?_ ?_
      · exact h16
      · refine Upd.set_bins ?_ (by first | with_reducible exact RegId.all_bit rfl _ | rfl | (split <;> rfl) | (unfold enterEvt; split <;> rfl) | (unfold pendFld; split <;> rfl) | (rw [padFld_reg (by assumption)]; rfl) | (unfold phWord; rcases a2 with _ | _ | _ | _ | _ | a2 <;> rfl) | exact RegId.all_bit rfl _)
        exact h16
  · refine Upd.plainWrite ?_ (by first | with_reducible exact RegId.all_bit rfl _ | rfl | (split <;> rfl) | (unfold enterEvt; split <;> rfl) | (unfold pendFld; split <;> rfl) | (rw [padFld_reg (by assumption)]; rfl) | (unfold phWord; rcases a2 with _ | _ | _ | _ | _ | a2 <;> rfl) | exact RegId.all_bit rfl _)
    exact Upd.refl _ _

theorem State.monStart_upd (s : State) :
    Upd 0xf8000000000000000000000000000000000000000000000000000000000002000200000000000000000000000000000000000000000000000000000000000000000000000000000000000000000000 s (State.monStart s) := by
  unfold State.monStart
  extract_lets +onlyGivenNames -underBinder -merge -useContext x1
  refine Upd.cut (t := x1) ?_ (fun h1 => ?_)
  · unfold x1
    refine Upd.step ?_ (State.chkShow_upd ..) rfl
    refine Upd.set_mon_monSnap_monFree_monAt_bins ?_ rfl rfl rfl rfl rfl
    exact Upd.refl _ _
  clear_value x1
  refine Upd.step ?_ (State.pairRestart_upd ..) rfl
  refine Upd.step ?_ (State.pairRestart_upd ..) rfl
  refine Upd.step ?_ (State.slotTake_upd ..) rfl
  refine Upd.step ?_ (State.slotTake_upd ..) rfl
  exact h1

end Sys2Proof.Machine
end

