-- ==== Sys2Proof/Laws/FootPcc.lean ====
section
/-! SUPPORT. The footprints of the operations of Machine/Pcc.lean: what each may change. -/

set_option linter.unreachableTactic false
set_option linter.unusedTactic false
set_option linter.unusedVariables false

namespace Sys2Proof.Machine

theorem State.modPccR_upd (s : State) (a1 : ℕ) (a2 : PccRx → PccRx) :
    Upd 0x800000000000000000000000000000000000000000000000000000000000000000000000000000000000000000000000000000000000000000000000000000000000000000000000000000000 s (State.modPccR s a1 a2) := by
  unfold State.modPccR
  refine Upd.set_pccRx ?_ rfl
  exact Upd.refl _ _

theorem State.queuedShow_upd (a1 : ℕ) (s : State) :
    Upd 0x200000000000000000000000000000000000000000000000000000000000000000000000000000000000000000000000000000000 s (State.queuedShow a1 s) := by
  unfold State.queuedShow
  refine Upd.setFld ?_ rfl
  exact Upd.refl _ _

theorem execPostcardTxStart_upd (a1 : ℕ) (s : State) :
    ∃ t, execPostcardTxStart a1 s = .next t ∧ Upd 0x4000400000000000000000000000000000000000000000000000200000000000000000000000000000000000000000000000000000000000000000000000000000000000000000000000000000000 s t := by
  unfold execPostcardTxStart
  refine ⟨_, rfl, ?_⟩
  refine Upd.ite ?_ ?_
  · exact Upd.refl _ _
  · split
    · exact Upd.refl _ _
    · extract_lets +onlyGivenNames -underBinder -merge -useContext x1
      try clear_value x1
      extract_lets +onlyGivenNames -underBinder -merge -useContext x2
      try clear_value x2
      extract_lets +onlyGivenNames -underBinder -merge -useContext x3
      refine Upd.cut (t := x3) ?_ (fun h3 => ?_)
      · unfold x3
        refine Upd.step ?_ (State.modPccT_upd ..) rfl
        exact Upd.refl _ _
      clear_value x3
      extract_lets +onlyGivenNames -underBinder -merge -useContext x4
      refine Upd.cut (t := x4) ?_ (fun h4 => ?_)
      · unfold x4
        refine Upd.setFld ?_ rfl
        refine Upd.setFlag ?_ rfl
        refine Upd.setFld ?_ rfl
        exact h3
      clear_value x4
      refine Upd.step ?_ (State.queuedShow_upd ..) rfl
      refine Upd.when ?_ (fun x5 h5 => ?_)
      · exact h4
      · refine Upd.step ?_ (State.modPmk_upd ..) rfl
        exact h5

theorem execTxDone_upd (a1 : ℕ) (s : State) :
    ∃ t, execTxDone a1 s = .next t ∧ Upd 0x400000000000000000000000000000000000000000000000a00200000000000000000000000000000000000000000000000000000000000000000000000000000000000000000000000000000 s t := by
  unfold execTxDone
  refine ⟨_, rfl, ?_⟩
  split
  · exact Upd.refl _ _
  · refine Upd.ite ?_ ?_
    · exact Upd.refl _ _
    · refine Upd.ite ?_ ?_
      · refine Upd.step ?_ (State.modPccT_upd ..) rfl
        exact Upd.refl _ _
      · extract_lets +onlyGivenNames -underBinder -merge -useContext x1
        refine Upd.cut (t := x1) ?_ (fun h1 => ?_)
        · unfold x1
          refine Upd.bump ?_ rfl
          refine Upd.step ?_ (State.modPccT_upd ..) rfl
          exact Upd.refl _ _
        clear_value x1
        refine Upd.when ?_ (fun x2 h2 => ?_)
        · refine Upd.setFlag ?_ rfl
          exact h1
        · refine Upd.raise ?_ rfl
          exact h2

theorem State.pccRefuse_upd (a1 : ℕ) (s : State) :
    Upd 0x300000000000000000000000000000000000000000000000000000000000000000000000000000000000000000000000000000 s (State.pccRefuse a1 s) := by
  unfold State.pccRefuse
  refine Upd.setFld ?_ rfl
  refine Upd.raise ?_ rfl
  exact Upd.refl _ _

theorem State.txCmdWrite_upd (a1 : ℕ) (a2 : W32) (s : State) :
    Upd 0x400000000000000000000000000000000000000000000000200300000000000000000000000000000000000000000000000000000000000000000000000000000000000000000000000000000 s (State.txCmdWrite a1 a2 s) := by
  unfold State.txCmdWrite
  extract_lets +onlyGivenNames -underBinder -merge -useContext x1
  try clear_value x1
  extract_lets +onlyGivenNames -underBinder -merge -useContext x2
  try clear_value x2
  extract_lets +onlyGivenNames -underBinder -merge -useContext x3
  try clear_value x3
  refine Upd.ite ?_ ?_
  · refine Upd.step ?_ (State.pccRefuse_upd ..) rfl
    exact Upd.refl _ _
  · refine Upd.ite ?_ ?_
    · refine Upd.step ?_ (State.pccRefuse_upd ..) rfl
      exact Upd.refl _ _
    · refine Upd.step ?_ (State.queuedShow_upd ..) rfl
      refine Upd.step ?_ (State.modPccT_upd ..) rfl
      exact Upd.refl _ _

theorem execTxCmd_upd (a1 : Master) (a2 : ℕ) (a3 : W32) (s : State) :
    ∃ t, execTxCmd a1 a2 a3 s = .next t ∧ Upd 0x20000000200047000000000000000000000060000081b805000000000000200300000000000000000000000000000000000000000000000000000000000000000000000000000000000000000000006203400 s t := by
  unfold execTxCmd
  refine ⟨_, rfl, ?_⟩
  refine Upd.guardW ?_ (fun x1 h1 => ?_) rfl
  · exact Upd.refl _ _
  · refine Upd.step ?_ (State.txCmdWrite_upd ..) rfl
    exact h1

theorem execTxExpired_upd (a1 : ℕ) (s : State) :
    ∃ t, execTxExpired a1 s = .next t ∧ Upd 0x400000000000000000000000000000000000000000000002200200000000000000000000000000000000000000000000000000000000000000000000000000000000000000000000000000000 s t := by
  unfold execTxExpired
  refine ⟨_, rfl, ?_⟩
  refine Upd.ite ?_ ?_
  · exact Upd.refl _ _
  · split
    · exact Upd.refl _ _
    · refine Upd.ite ?_ ?_
      · refine Upd.raise ?_ rfl
        refine Upd.bump ?_ rfl
        refine Upd.step ?_ (State.queuedShow_upd ..) rfl
        refine Upd.step ?_ (State.modPccT_upd ..) rfl
        exact Upd.refl _ _
      · exact Upd.refl _ _

theorem State.cardTimer_upd (a1 : ℕ) (a2 : ℕ) (a3 : ℕ) (s : State) :
    Upd 0x400000000000000000000000000000000000000000000000000000000000000000000000000000000000000000000000000000000000000000000000000000000000000000000000000000000 s (State.cardTimer a1 a2 a3 s) := by
  unfold State.cardTimer
  refine Upd.ite ?_ ?_
  · refine Upd.step ?_ (State.pccPend_upd ..) rfl
    refine Upd.step ?_ (State.modPccT_upd ..) rfl
    exact Upd.refl _ _
  · exact Upd.refl _ _

theorem execIdentTimer_upd (a1 : ℕ) (s : State) :
    ∃ t, execIdentTimer a1 s = .next t ∧ Upd 0x400000000000000000000000000000000000000000000000000000000000000000000000000000000000000000000000000000000000000000000000000000000000000000000000000000000 s t := by
  unfold execIdentTimer
  refine ⟨_, rfl, ?_⟩
  refine Upd.step ?_ (State.cardTimer_upd ..) rfl
  exact Upd.refl _ _

theorem execQlTimer_upd (a1 : ℕ) (s : State) :
    ∃ t, execQlTimer a1 s = .next t ∧ Upd 0x400000000000000000000000000000000000000000000000000000000000000000000000000000000000000000000000000000000000000000000000000000000000000000000000000000000 s t := by
  unfold execQlTimer
  refine ⟨_, rfl, ?_⟩
  refine Upd.step ?_ (State.cardTimer_upd ..) rfl
  exact Upd.refl _ _

theorem execDefectTimer_upd (a1 : ℕ) (s : State) :
    ∃ t, execDefectTimer a1 s = .next t ∧ Upd 0x400000000000000000000000000000000000000000000000000000000000000000000000000000000000000000000000000000000000000000000000000000000000000000000000000000000 s t := by
  unfold execDefectTimer
  refine ⟨_, rfl, ?_⟩
  refine Upd.ite ?_ ?_
  · refine Upd.step ?_ (State.cardTimer_upd ..) rfl
    exact Upd.refl _ _
  · exact Upd.refl _ _

theorem execSrTimer_upd (a1 : ℕ) (s : State) :
    ∃ t, execSrTimer a1 s = .next t ∧ Upd 0x400000000000000000000000000000000000000000000000000000000000000000000000000000000000000000000000000000000000000000000000000000000000000000000000000000000 s t := by
  unfold execSrTimer
  refine ⟨_, rfl, ?_⟩
  refine Upd.ite ?_ ?_
  · refine Upd.step ?_ (State.cardTimer_upd ..) rfl
    exact Upd.refl _ _
  · exact Upd.refl _ _

theorem State.binClaim_upd (a1 : ℕ) (s : State) :
    Upd 0x1800000000000000000000000000000000000000000000000000000000000000000000000000000000000000000000000000 s (State.binClaim a1 s) := by
  unfold State.binClaim
  extract_lets +onlyGivenNames -underBinder -merge -useContext x1
  try clear_value x1
  refine Upd.ite ?_ ?_
  · extract_lets +onlyGivenNames -underBinder -merge -useContext x2
    try clear_value x2
    extract_lets +onlyGivenNames -underBinder -merge -useContext x3
    try clear_value x3
    refine Upd.wrN ?_ rfl
    refine Upd.setFld ?_ rfl
    refine Upd.setFlag ?_ rfl
    refine Upd.setFld ?_ rfl
    refine Upd.setFld ?_ rfl
    refine Upd.setFlag ?_ rfl
    refine Upd.setFlag ?_ rfl
    exact Upd.refl _ _
  · refine Upd.setFlag ?_ rfl
    exact Upd.refl _ _

theorem State.pairClaim_upd (a1 : ℕ) (s : State) :
    Upd 0x88000000000000000000000000000000000000000000000000000000000002400200000000000000000000000000000000000000000000000000000000000000000000000000000000000000000000 s (State.pairClaim a1 s) := by
  unfold State.pairClaim
  refine Upd.ite ?_ ?_
  · refine Upd.setFlag ?_ rfl
    exact Upd.refl _ _
  · extract_lets +onlyGivenNames -underBinder -merge -useContext x1
    try clear_value x1
    extract_lets +onlyGivenNames -underBinder -merge -useContext x2
    try clear_value x2
    extract_lets +onlyGivenNames -underBinder -merge -useContext x3
    try clear_value x3
    extract_lets +onlyGivenNames -underBinder -merge -useContext x4
    refine Upd.cut (t := x4) ?_ (fun h4 => ?_)
    · unfold x4
      refine Upd.step ?_ (State.chkShow_upd ..) rfl
      refine Upd.wr ?_ rfl
      exact Upd.refl _ _
    clear_value x4
    refine Upd.ite ?_ ?_
    · refine Upd.step ?_ (State.pairMoved_upd ..) rfl
      exact h4
    · refine Upd.step ?_ (State.pairRestart_upd ..) rfl
      exact h4

theorem State.slotDsp_upd (a1 : ℕ) (s : State) :
    Upd 0x8000000000000000000000000000000000000000000000000000000000000000000000000000000000000000000000000000000000 s (State.slotDsp a1 s) := by
  unfold State.slotDsp
  extract_lets +onlyGivenNames -underBinder -merge -useContext x1
  try clear_value x1
  refine Upd.ite ?_ ?_
  · refine Upd.setFlag ?_ rfl
    exact Upd.refl _ _
  · exact Upd.refl _ _

theorem State.slotEval_upd (a1 : ℕ) (s : State) :
    Upd 0x800000000000000000000000000000000000000000000008000000000000000000000000000000000000000000000000000000000000000000000000000000000000000000000000000000000 s (State.slotEval a1 s) := by
  unfold State.slotEval
  extract_lets +onlyGivenNames -underBinder -merge -useContext x1
  try clear_value x1
  extract_lets +onlyGivenNames -underBinder -merge -useContext x2
  refine Upd.cut (t := x2) ?_ (fun h2 => ?_)
  · unfold x2
    refine Upd.ite ?_ ?_
    · refine Upd.ite ?_ ?_
      · refine Upd.step ?_ (State.modPccR_upd ..) rfl
        refine Upd.setFld ?_ rfl
        exact Upd.refl _ _
      · exact Upd.refl _ _
    · refine Upd.setFlag ?_ rfl
      refine Upd.setFld ?_ rfl
      exact Upd.refl _ _
  clear_value x2
  refine Upd.step ?_ (State.slotDsp_upd ..) rfl
  exact h2

theorem State.pccEval_upd (s : State) :
    Upd 0x88000800000000000000000000000000000000000000000000008000101802400200000000000000000000000000000000000000000000000000000000000000000000000000000000000000000000 s (State.pccEval s) := by
  unfold State.pccEval
  refine Upd.ite ?_ ?_
  · exact Upd.refl _ _
  · extract_lets +onlyGivenNames -underBinder -merge -useContext x1
    refine Upd.cut (t := x1) ?_ (fun h1 => ?_)
    · unfold x1
      refine Upd.setFlag ?_ rfl
      refine Upd.setFlag ?_ rfl
      exact Upd.refl _ _
    clear_value x1
    refine Upd.upto ?_ (fun n4 x4 h4 => ?_) _
    · refine Upd.upto ?_ (fun n3 x3 h3 => ?_) _
      · refine Upd.upto ?_ (fun n2 x2 h2 => ?_) _
        · exact h1
        · refine Upd.step ?_ (State.pairClaim_upd ..) rfl
          exact h2
      · refine Upd.step ?_ (State.binClaim_upd ..) rfl
        exact h3
    · refine Upd.step ?_ (State.slotEval_upd ..) rfl
      exact h4

theorem State.pccCfgWrite_upd (a1 : W32) (s : State) :
    Upd 0x88000800000000000000000000000000000000000000000000008000341802400200000000000000000000000000000000000000000000000000000000000000000000000000000000000000000000 s (State.pccCfgWrite a1 s) := by
  unfold State.pccCfgWrite
  refine Upd.ite ?_ ?_
  · refine Upd.step ?_ (State.pccRefuse_upd ..) rfl
    exact Upd.refl _ _
  · refine Upd.step ?_ (State.pccEval_upd ..) rfl
    refine Upd.plainWrite ?_ rfl
    exact Upd.refl _ _

theorem State.slotCfgWrite_upd (a1 : ℕ) (a2 : W32) (s : State) :
    Upd 0x8800080000000000000000000000000000000000000000000000c000301802400200000000000000000000000000000000000000000000000000000000000000000000000000000000000000000000 s (State.slotCfgWrite a1 a2 s) := by
  unfold State.slotCfgWrite
  extract_lets +onlyGivenNames -underBinder -merge -useContext x1
  refine Upd.cut (t := x1) ?_ (fun h1 => ?_)
  · unfold x1
    refine Upd.plainWrite ?_ rfl
    exact Upd.refl _ _
  clear_value x1
  refine Upd.ite ?_ ?_
  · refine Upd.step ?_ (State.pccRefuse_upd ..) rfl
    exact Upd.refl _ _
  · refine Upd.ite ?_ ?_
    · refine Upd.step ?_ (State.pccRefuse_upd ..) rfl
      exact Upd.refl _ _
    · refine Upd.step ?_ (State.pccEval_upd ..) rfl
      exact h1

theorem State.nodeIdWrite_upd (a1 : W32) (s : State) :
    Upd 0x380000000000000000000000000000000000000000000000000000000000000000000000000000000000000000000000000000 s (State.nodeIdWrite a1 s) := by
  unfold State.nodeIdWrite
  refine Upd.ite ?_ ?_
  · refine Upd.step ?_ (State.pccRefuse_upd ..) rfl
    exact Upd.refl _ _
  · refine Upd.plainWrite ?_ rfl
    exact Upd.refl _ _

theorem State.txCfgWrite_upd (a1 : ℕ) (a2 : W32) (s : State) :
    Upd 0x400000000000000000000000000000000000000000000001240200000000000000000000000000000000000000000000000000000000000000000000000000000000000000000000000000000 s (State.txCfgWrite a1 a2 s) := by
  unfold State.txCfgWrite
  extract_lets +onlyGivenNames -underBinder -merge -useContext x1
  try clear_value x1
  extract_lets +onlyGivenNames -underBinder -merge -useContext x2
  refine Upd.cut (t := x2) ?_ (fun h2 => ?_)
  · unfold x2
    refine Upd.plainWrite ?_ rfl
    exact Upd.refl _ _
  clear_value x2
  refine Upd.ite ?_ ?_
  · refine Upd.when ?_ (fun x3 h3 => ?_)
    · exact h2
    · refine Upd.step ?_ (State.modPccT_upd ..) rfl
      exact h3
  · refine Upd.step ?_ (State.pccStop_upd ..) rfl
    exact h2

theorem execPccCfgWrite_upd (a1 : Master) (a2 : W32) (s : State) :
    ∃ t, execPccCfgWrite a1 a2 s = .next t ∧ Upd 0x20000008a00087000000000000000000000060000081b805000000000008000341802400200000000000000000000000000000000000000000000000000000000000000000000000000000000000006203400 s t := by
  unfold execPccCfgWrite
  refine ⟨_, rfl, ?_⟩
  refine Upd.guardW ?_ (fun x1 h1 => ?_) rfl
  · exact Upd.refl _ _
  · refine Upd.step ?_ (State.pccCfgWrite_upd ..) rfl
    exact h1

theorem State.monPccWrite_upd (a1 : RegKey) (a2 : W32) (s : State) :
    Upd 0xf80008000000000007ffffffffffffffffffffffffffffffffffffffffffffffffffffffffffffffffffffffffffffffffffffffffffffffffffffffffffffffffffffffffffffffffffffffffffff s (State.monPccWrite a1 a2 s) := by
  unfold State.monPccWrite
  refine Upd.step ?_ (State.pccEval_upd ..) rfl
  refine Upd.step ?_ (State.monWrite_upd ..) rfl
  exact Upd.refl _ _

theorem execMonCfgWrite_upd (a1 : Master) (a2 : ℕ) (a3 : W32) (s : State) :
    ∃ t, execMonCfgWrite a1 a2 a3 s = .next t ∧ Upd 0x2000000fa0008700000000007ffffffffffffffffffffffffffffffffffffffffffffffffffffffffffffffffffffffffffffffffffffffffffffffffffffffffffffffffffffffffffffffffffffffffffff s t := by
  unfold execMonCfgWrite
  refine ⟨_, rfl, ?_⟩
  split
  · refine Upd.guardW ?_ (fun x1 h1 => ?_) rfl
    · exact Upd.refl _ _
    · refine Upd.step ?_ (State.monPccWrite_upd ..) rfl
      exact h1
  · exact Upd.refl _ _

theorem State.gainStep_upd (a1 : ℕ) (a2 : ℤ) (a3 : Bool) (s : State) :
    Upd 0x8000000000000000000000000000000000000000000000000000000000000000000000000000000000000000000000000000000000 s (State.gainStep a1 a2 a3 s) := by
  unfold State.gainStep
  refine Upd.ite ?_ ?_
  · refine Upd.setFld ?_ rfl
    exact Upd.refl _ _
  · extract_lets +onlyGivenNames -underBinder -merge -useContext x1
    try clear_value x1
    refine Upd.ite ?_ ?_
    · refine Upd.setFld ?_ rfl
      exact Upd.refl _ _
    · exact Upd.refl _ _

theorem State.levelShow_upd (a1 : ℕ) (a2 : ℤ) (s : State) :
    Upd 0x8000000000000000000000000000000000000000000000000000000000000000000000000000000000000000000000000000000000 s (State.levelShow a1 a2 s) := by
  unfold State.levelShow
  refine Upd.setFld ?_ rfl
  exact Upd.refl _ _

theorem execPreambleDetection_upd (a1 : ℕ) (a2 : ℤ) (s : State) :
    ∃ t, execPreambleDetection a1 a2 s = .next t ∧ Upd 0x800000000000000000000000000000000000000000000008000000000000000000000000000000000000000000000000000000000000000000000000000000000000000000000000000000000 s t := by
  unfold execPreambleDetection
  refine ⟨_, rfl, ?_⟩
  extract_lets +onlyGivenNames -underBinder -merge -useContext x1
  try clear_value x1
  refine Upd.ite ?_ ?_
  · exact Upd.refl _ _
  · extract_lets +onlyGivenNames -underBinder -merge -useContext x2
    try clear_value x2
    extract_lets +onlyGivenNames -underBinder -merge -useContext x3
    try clear_value x3
    extract_lets +onlyGivenNames -underBinder -merge -useContext x4
    refine Upd.cut (t := x4) ?_ (fun h4 => ?_)
    · unfold x4
      refine Upd.step ?_ (State.levelShow_upd ..) rfl
      exact Upd.refl _ _
    clear_value x4
    extract_lets +onlyGivenNames -underBinder -merge -useContext x5
    refine Upd.cut (t := x5) ?_ (fun h5 => ?_)
    · unfold x5
      refine Upd.when ?_ (fun x6 h6 => ?_)
      · exact h4
      · refine Upd.step ?_ (State.gainStep_upd ..) rfl
        exact h6
    clear_value x5
    extract_lets +onlyGivenNames -underBinder -merge -useContext x7
    refine Upd.cut (t := x7) ?_ (fun h7 => ?_)
    · unfold x7
      refine Upd.step ?_ (State.modPccR_upd ..) rfl
      exact h5
    clear_value x7
    refine Upd.setFlag ?_ rfl
    refine Upd.setFld ?_ rfl
    exact h7

theorem State.slotSearch_upd (a1 : ℕ) (s : State) :
    Upd 0x8000000000000000000000000000000000000000000000000000000000000000000000000000000000000000000000000000000000 s (State.slotSearch a1 s) := by
  unfold State.slotSearch
  refine Upd.step ?_ (State.slotDsp_upd ..) rfl
  refine Upd.setFlag ?_ rfl
  refine Upd.setFld ?_ rfl
  exact Upd.refl _ _

theorem execFalseDet_upd (a1 : ℕ) (s : State) :
    ∃ t, execFalseDet a1 s = .next t ∧ Upd 0x2008000000000000000000000000000000000000000000000000000000000000000000000000000000000000000000000000000000000 s t := by
  unfold execFalseDet
  refine ⟨_, rfl, ?_⟩
  refine Upd.ite ?_ ?_
  · refine Upd.bump ?_ rfl
    refine Upd.step ?_ (State.slotSearch_upd ..) rfl
    exact Upd.refl _ _
  · exact Upd.refl _ _

theorem execSyncMatch_upd (a1 : ℕ) (a2 : ℤ) (a3 : W32) (s : State) :
    ∃ t, execSyncMatch a1 a2 a3 s = .next t ∧ Upd 0x800000000000000000000000000000000000000000004028000200000000000000000000000000000000000000000000000000000000000000000000000000000000000000000000000000000 s t := by
  unfold execSyncMatch
  refine ⟨_, rfl, ?_⟩
  extract_lets +onlyGivenNames -underBinder -merge -useContext x1
  try clear_value x1
  extract_lets +onlyGivenNames -underBinder -merge -useContext x2
  unfold x2
  beta_reduce
  clear x2
  refine Upd.ite ?_ ?_
  · exact Upd.refl _ _
  · refine Upd.ite ?_ ?_
    · refine Upd.step ?_ (State.modPccR_upd ..) rfl
      refine Upd.setFlag ?_ rfl
      refine Upd.wrN ?_ rfl
      refine Upd.step ?_ (State.levelShow_upd ..) rfl
      refine Upd.setFld ?_ rfl
      exact Upd.refl _ _
    · refine Upd.ite ?_ ?_
      · refine Upd.step ?_ (State.modPccR_upd ..) rfl
        refine Upd.setFlag ?_ rfl
        refine Upd.wrN ?_ rfl
        refine Upd.step ?_ (State.levelShow_upd ..) rfl
        refine Upd.step ?_ (State.gainStep_upd ..) rfl
        refine Upd.raise ?_ rfl
        refine Upd.bump ?_ rfl
        exact Upd.refl _ _
      · exact Upd.refl _ _

theorem State.slotLevel_upd (a1 : ℕ) (a2 : ℕ) (s : State) :
    Upd 0x800000000000000000000000000000000000000000000008000000000000000000000000000000000000000000000000000000000000000000000000000000000000000000000000000000000 s (State.slotLevel a1 a2 s) := by
  unfold State.slotLevel
  refine Upd.ite ?_ ?_
  · extract_lets +onlyGivenNames -underBinder -merge -useContext x1
    refine Upd.cut (t := x1) ?_ (fun h1 => ?_)
    · unfold x1
      refine Upd.step ?_ (State.modPccR_upd ..) rfl
      exact Upd.refl _ _
    clear_value x1
    extract_lets +onlyGivenNames -underBinder -merge -useContext x2
    try clear_value x2
    extract_lets +onlyGivenNames -underBinder -merge -useContext x3
    try clear_value x3
    refine Upd.when ?_ (fun x4 h4 => ?_)
    · refine Upd.step ?_ (State.levelShow_upd ..) rfl
      exact h1
    · refine Upd.step ?_ (State.gainStep_upd ..) rfl
      exact h4
  · exact Upd.refl _ _

theorem execBinBlock_upd (a1 : ℕ) (a2 : W32) (a3 : W32) (s : State) :
    ∃ t, execBinBlock a1 a2 a3 s = .next t ∧ Upd 0x8000080000000000000000000000000000000000000000000000800003e000000000000000000000000000000000000000000000000000000000000000000000000000000000000000000000000000 s t := by
  unfold execBinBlock
  refine ⟨_, rfl, ?_⟩
  refine Upd.ite ?_ ?_
  · exact Upd.refl _ _
  · extract_lets +onlyGivenNames -underBinder -merge -useContext x2
    refine Upd.cut (t := x2) ?_ (fun h2 => ?_)
    · unfold x2
      refine Upd.when ?_ (fun x3 h3 => ?_)
      · exact Upd.refl _ _
      · refine Upd.bump ?_ rfl
        exact h3
    clear_value x2
    extract_lets +onlyGivenNames -underBinder -merge -useContext x4
    refine Upd.cut (t := x4) ?_ (fun h4 => ?_)
    · unfold x4
      refine Upd.wrN ?_ rfl
      refine Upd.wrN ?_ rfl
      exact h2
    clear_value x4
    refine Upd.step ?_ (State.slotLevel_upd ..) rfl
    refine Upd.set_bins ?_ rfl
    refine Upd.wr ?_ rfl
    refine Upd.wr ?_ rfl
    exact h4

theorem State.fifoShow_upd (s : State) :
    Upd 0x100000000000000000000000000000000000000000000000000000000000000000000000000000000000000000000000000000 s (State.fifoShow s) := by
  unfold State.fifoShow
  refine Upd.setFld ?_ rfl
  exact Upd.refl _ _

theorem State.fifoPut_upd (a1 : PccEntry) (s : State) :
    Upd 0x1000000000000000000000000000000000000000000000000020300000000000000000000000000000000000000000000000000000000000000000000000000000000000000000000000000000 s (State.fifoPut a1 s) := by
  unfold State.fifoPut
  refine Upd.ite ?_ ?_
  · refine Upd.raise ?_ rfl
    refine Upd.step ?_ (State.fifoShow_upd ..) rfl
    refine Upd.set_pccFifo ?_ rfl
    exact Upd.refl _ _
  · refine Upd.raise ?_ rfl
    refine Upd.bump ?_ rfl
    exact Upd.refl _ _

theorem State.timeCard_upd (a1 : ℕ) (a2 : ℕ) (a3 : ℕ) (s : State) :
    Upd 0x4000000000000000000006000000000000000000000000000000000000000000000000000000000000000000000000000000000000000000000000000000000000000000000000000000000000000 s (State.timeCard a1 a2 a3 s) := by
  unfold State.timeCard
  extract_lets +onlyGivenNames -underBinder -merge -useContext x1
  try clear_value x1
  extract_lets +onlyGivenNames -underBinder -merge -useContext x2
  try clear_value x2
  extract_lets +onlyGivenNames -underBinder -merge -useContext x3
  try clear_value x3
  extract_lets +onlyGivenNames -underBinder -merge -useContext x4
  try clear_value x4
  extract_lets +onlyGivenNames -underBinder -merge -useContext x5
  try clear_value x5
  extract_lets +onlyGivenNames -underBinder -merge -useContext x6
  try clear_value x6
  extract_lets +onlyGivenNames -underBinder -merge -useContext x7
  try clear_value x7
  extract_lets +onlyGivenNames -underBinder -merge -useContext x8
  try clear_value x8
  extract_lets +onlyGivenNames -underBinder -merge -useContext x9
  refine Upd.cut (t := x9) ?_ (fun h9 => ?_)
  · unfold x9
    split
    · refine Upd.ite ?_ ?_
      · refine Upd.wrN ?_ rfl
        refine Upd.wrN ?_ rfl
        exact Upd.refl _ _
      · exact Upd.refl _ _
    · exact Upd.refl _ _
  clear_value x9
  refine Upd.step ?_ (State.modPmk_upd ..) rfl
  exact h9

theorem State.cardAct_upd (a1 : ℕ) (a2 : ℕ) (a3 : ℕ) (a4 : List W32) (s : State) :
    Upd 0x104800c00000000000000006000000000000000000000000000348000200000000000000000000000000000000000000000000000000000000000000000000000000000000420000004000020800000 s (State.cardAct a1 a2 a3 a4 s) := by
  unfold State.cardAct
  extract_lets +onlyGivenNames -underBinder -merge -useContext x1
  try clear_value x1
  extract_lets +onlyGivenNames -underBinder -merge -useContext x2
  try clear_value x2
  extract_lets +onlyGivenNames -underBinder -merge -useContext x3
  try clear_value x3
  split
  · refine Upd.ite ?_ ?_
    · extract_lets +onlyGivenNames -underBinder -merge -useContext x4
      try clear_value x4
      refine Upd.step ?_ (State.modPccR_upd ..) rfl
      refine Upd.setFlag ?_ rfl
      refine Upd.setFlag ?_ rfl
      refine Upd.setFld ?_ rfl
      exact Upd.refl _ _
    · refine Upd.raise ?_ rfl
      refine Upd.setFlag ?_ rfl
      exact Upd.refl _ _
  · refine Upd.ite ?_ ?_
    · exact Upd.refl _ _
    · extract_lets +onlyGivenNames -underBinder -merge -useContext x5
      try clear_value x5
      refine Upd.ite ?_ ?_
      · refine Upd.step ?_ (State.deliverRank_upd ..) rfl
        exact Upd.refl _ _
      · refine Upd.step ?_ (State.deliver_upd ..) rfl
        exact Upd.refl _ _
  · extract_lets +onlyGivenNames -underBinder -merge -useContext x6
    try clear_value x6
    refine Upd.ite ?_ ?_
    · exact Upd.refl _ _
    · refine Upd.raise ?_ rfl
      refine Upd.wrN ?_ rfl
      exact Upd.refl _ _
  · extract_lets +onlyGivenNames -underBinder -merge -useContext x7
    try clear_value x7
    refine Upd.ite ?_ ?_
    · refine Upd.step ?_ (State.timeCard_upd ..) rfl
      exact Upd.refl _ _
    · exact Upd.refl _ _
  · refine Upd.ite ?_ ?_
    · refine Upd.step ?_ (State.wakeSource_upd ..) rfl
      refine Upd.raise ?_ rfl
      exact Upd.refl _ _
    · exact Upd.refl _ _
  · extract_lets +onlyGivenNames -underBinder -merge -useContext x8
    try clear_value x8
    refine Upd.ite ?_ ?_
    · exact Upd.refl _ _
    · refine Upd.raise ?_ rfl
      refine Upd.wrN ?_ rfl
      exact Upd.refl _ _
  · exact Upd.refl _ _

theorem State.cardSeq_upd (a1 : ℕ) (a2 : ℕ) (a3 : List W32) (s : State) :
    Upd 0x104801c00000000000000006000000000000000000000000070f48020300000000000000000000000000000000000000000000000000000000000000000000000000000000420000004000020800000 s (State.cardSeq a1 a2 a3 s) := by
  unfold State.cardSeq
  extract_lets +onlyGivenNames -underBinder -merge -useContext x1
  try clear_value x1
  extract_lets +onlyGivenNames -underBinder -merge -useContext x2
  try clear_value x2
  extract_lets +onlyGivenNames -underBinder -merge -useContext x3
  try clear_value x3
  refine Upd.ite ?_ ?_
  · refine Upd.bump ?_ rfl
    exact Upd.refl _ _
  · refine Upd.ite ?_ ?_
    · refine Upd.bump ?_ rfl
      exact Upd.refl _ _
    · extract_lets +onlyGivenNames -underBinder -merge -useContext x4
      refine Upd.cut (t := x4) ?_ (fun h4 => ?_)
      · unfold x4
        refine Upd.when ?_ (fun x5 h5 => ?_)
        · exact Upd.refl _ _
        · refine Upd.wrN ?_ rfl
          exact h5
      clear_value x4
      extract_lets +onlyGivenNames -underBinder -merge -useContext x6
      refine Upd.cut (t := x6) ?_ (fun h6 => ?_)
      · unfold x6
        refine Upd.step ?_ (State.modPccR_upd ..) rfl
        refine Upd.wrN ?_ rfl
        exact h4
      clear_value x6
      extract_lets +onlyGivenNames -underBinder -merge -useContext x7
      try clear_value x7
      extract_lets +onlyGivenNames -underBinder -merge -useContext x8
      refine Upd.cut (t := x8) ?_ (fun h8 => ?_)
      · unfold x8
        refine Upd.step ?_ (State.cardAct_upd ..) rfl
        refine Upd.bump ?_ rfl
        exact h6
      clear_value x8
      refine Upd.when ?_ (fun x9 h9 => ?_)
      · exact h8
      · refine Upd.step ?_ (State.fifoPut_upd ..) rfl
        exact h9

theorem execPostcardEnd_upd (a1 : ℕ) (a2 : ℕ) (a3 : List W32) (a4 : ℕ) (s : State) :
    ∃ t, execPostcardEnd a1 a2 a3 a4 s = .next t ∧ Upd 0x104801c00000000000000006000000000000000000000000079f48020300000000000000000000000000000000000000000000000000000000000000000000000000000000420000004000020800000 s t := by
  unfold execPostcardEnd
  refine ⟨_, rfl, ?_⟩
  refine Upd.ite ?_ ?_
  · exact Upd.refl _ _
  · extract_lets +onlyGivenNames -underBinder -merge -useContext x1
    try clear_value x1
    extract_lets +onlyGivenNames -underBinder -merge -useContext x2
    try clear_value x2
    extract_lets +onlyGivenNames -underBinder -merge -useContext x3
    try clear_value x3
    extract_lets +onlyGivenNames -underBinder -merge -useContext x4
    try clear_value x4
    extract_lets +onlyGivenNames -underBinder -merge -useContext x5
    refine Upd.cut (t := x5) ?_ (fun h5 => ?_)
    · unfold x5
      refine Upd.step ?_ (State.slotSearch_upd ..) rfl
      exact Upd.refl _ _
    clear_value x5
    refine Upd.ite ?_ ?_
    · refine Upd.bump ?_ rfl
      exact h5
    · refine Upd.ite ?_ ?_
      · refine Upd.bump ?_ rfl
        exact h5
      · refine Upd.ite ?_ ?_
        · refine Upd.bump ?_ rfl
          exact h5
        · refine Upd.step ?_ (State.cardSeq_upd ..) rfl
          exact h5

theorem execBoundTimeout_upd (a1 : ℕ) (s : State) :
    ∃ t, execBoundTimeout a1 s = .next t ∧ Upd 0x800000000000000000000000000000000000000000000008000000000000000000000000000000000000000000000000000000000000000000000000000000000000000000000000000000000 s t := by
  unfold execBoundTimeout
  refine ⟨_, rfl, ?_⟩
  refine Upd.ite ?_ ?_
  · refine Upd.step ?_ (State.modPccR_upd ..) rfl
    refine Upd.setFlag ?_ rfl
    exact Upd.refl _ _
  · exact Upd.refl _ _

theorem execSeqWindowReset_upd (a1 : ℕ) (s : State) :
    ∃ t, execSeqWindowReset a1 s = .next t ∧ Upd 0x800000000000000000000000000000000000000000000000000000000000000000000000000000000000000000000000000000000000000000000000000000000000000000000000000000000 s t := by
  unfold execSeqWindowReset
  refine ⟨_, rfl, ?_⟩
  refine Upd.ite ?_ ?_
  · refine Upd.step ?_ (State.modPccR_upd ..) rfl
    exact Upd.refl _ _
  · exact Upd.refl _ _

theorem State.rxPopWrite_upd (a1 : W32) (s : State) :
    Upd 0x1000000000000000000000000000000000000000000000000000100000000000000000000000000000000000000000000000000000000000000000000000000000000000000000000000000000 s (State.rxPopWrite a1 s) := by
  unfold State.rxPopWrite
  refine Upd.ite ?_ ?_
  · refine Upd.step ?_ (State.fifoShow_upd ..) rfl
    refine Upd.set_pccFifo ?_ rfl
    exact Upd.refl _ _
  · exact Upd.refl _ _

theorem execRxPop_upd (a1 : Master) (a2 : W32) (s : State) :
    ∃ t, execRxPop a1 a2 s = .next t ∧ Upd 0x20000000200107000000000000000000000060000081b805000000000000000100000000000000000000000000000000000000000000000000000000000000000000000000000000000000000000006203400 s t := by
  unfold execRxPop
  refine ⟨_, rfl, ?_⟩
  refine Upd.guardW ?_ (fun x1 h1 => ?_) rfl
  · exact Upd.refl _ _
  · refine Upd.step ?_ (State.rxPopWrite_upd ..) rfl
    exact h1

theorem State.pccClear_upd (s : State) :
    Upd 0x1c00000000000000000000000000000000000000000000000000000000000000000000000000000000000000000000000000000000000000000000000000000000000000000000000000000000 s (State.pccClear s) := by
  unfold State.pccClear
  refine Upd.set_pccTx_pccRx_pccFifo ?_ rfl rfl rfl
  exact Upd.refl _ _

end Sys2Proof.Machine
end

