-- ==== Sys2Proof/Laws/FootPower.lean ====
section
/-! SUPPORT. The footprints of the operations of Machine/Power.lean: what each may change. -/

set_option linter.unreachableTactic false
set_option linter.unusedTactic false
set_option linter.unusedVariables false

namespace Sys2Proof.Machine

theorem State.evalAll_upd (s : State) :
    Upd 0x20000008885ec0e00000000000000000001800000001b8050000000000092003018024002000020000000800000004001000660000080021130000550080000180001091cf20cc40000000000000000000000 s (State.evalAll s) := by
  unfold State.evalAll
  extract_lets +onlyGivenNames -underBinder -merge -useContext x1
  refine Upd.cut (t := x1) ?_ (fun h1 => ?_)
  · unfold x1
    refine Upd.step ?_ (State.rxEval_upd ..) rfl
    refine Upd.step ?_ (State.rxEval_upd ..) rfl
    refine Upd.step ?_ (State.txEval_upd ..) rfl
    refine Upd.step ?_ (State.txEval_upd ..) rfl
    exact Upd.refl _ _
  clear_value x1
  extract_lets +onlyGivenNames -underBinder -merge -useContext x2
  refine Upd.cut (t := x2) ?_ (fun h2 => ?_)
  · unfold x2
    refine Upd.when ?_ (fun x3 h3 => ?_)
    · exact h1
    · refine Upd.step ?_ (State.grpsEval_upd ..) rfl
      refine Upd.step ?_ (State.lineEval_upd ..) rfl
      refine Upd.step ?_ (State.lineEval_upd ..) rfl
      exact h3
  clear_value x2
  refine Upd.step ?_ (State.qlEval_upd ..) rfl
  refine Upd.step ?_ (State.ppsEval_upd ..) rfl
  refine Upd.step ?_ (State.pccEval_upd ..) rfl
  refine Upd.step ?_ (State.modeEval_upd ..) rfl
  refine Upd.step ?_ (State.portsEval_upd ..) rfl
  refine Upd.step ?_ (State.holds_upd ..) rfl
  exact h2

theorem State.hayGroups_upd (s : State) :
    Upd 0x20000000005e00800000000000000000000000000001b805000000000000000000000000000000000000080000000400100066000008002113000055000000000000000000000000000000000000000000000 s (State.hayGroups s) := by
  unfold State.hayGroups
  refine Upd.ite ?_ ?_
  · refine Upd.step ?_ (State.grpsEval_upd ..) rfl
    refine Upd.each ?_ (fun n1 x1 h1 => ?_) _
    · exact Upd.refl _ _
    · refine Upd.ite ?_ ?_
      · refine Upd.step ?_ (State.grpLeave_upd ..) rfl
        exact h1
      · exact h1
  · exact Upd.refl _ _

theorem State.dropRegs_upd (a1 : RegKey → Bool) (s : State) :
    Upd 0x20000000000000007ffffffffffffffffffffffffffffffffffffffffffffffffffffffffffffffffffffffffffffffffffffffffffffffffffffffffffffffffffffffffffffffffffffffffffff s (State.dropRegs a1 s) := by
  unfold State.dropRegs
  have h := Upd.refl 0x20000000000000007ffffffffffffffffffffffffffffffffffffffffffffffffffffffffffffffffffffffffffffffffffffffffffffffffffffffffffffffffffffffffffffffffffffffffffff s
  exact { h with
    reg := fun k hk => bit_clash (RegId.all_bit rfl k.id) hk
    inv := fun hi => ⟨State.regsOk_filter _ hi.1, hi.2⟩
    cfgBad := bit_clash (i := 625) rfl }

theorem State.keepCfg_upd (a1 : RegKey → Bool) (s : State) :
    Upd 0x7ffffffffffffffffffffffffffffffffffffffffffffffffffffffffffffffffffffffffffffffffffffffffffffffffffffffffffffffffffffffffffffffffffffffffffff s (State.keepCfg a1 s) := by
  unfold State.keepCfg
  refine Upd.each ?_ (fun n1 x1 h1 => ?_) _
  · exact Upd.refl _ _
  · extract_lets +onlyGivenNames -underBinder -merge -useContext x2
    try clear_value x2
    refine Upd.wr ?_ (by first | with_reducible exact RegId.all_bit rfl _ | rfl | (split <;> rfl) | (unfold enterEvt; split <;> rfl) | (unfold pendFld; split <;> rfl) | (rw [padFld_reg (by assumption)]; rfl) | (unfold phWord; rcases a2 with _ | _ | _ | _ | _ | a2 <;> rfl) | exact RegId.all_bit rfl _)
    exact h1

theorem State.carLoss_upd (a1 : ℕ) (a2 : Bool) (s : State) :
    Upd 0x80000000006000000000000000000000000000000000000000000000000000000000000000000000000000000000000000000000000000000000000000000000000020000000000000000000000000000 s (State.carLoss a1 a2 s) := by
  unfold State.carLoss
  extract_lets +onlyGivenNames -underBinder -merge -useContext x1
  refine Upd.cut (t := x1) ?_ (fun h1 => ?_)
  · unfold x1
    refine Upd.step ?_ (State.modCar_upd ..) rfl
    exact Upd.refl _ _
  clear_value x1
  refine Upd.step ?_ (State.calAbandon_upd ..) rfl
  refine Upd.each ?_ (fun n2 x2 h2 => ?_) _
  · exact h1
  · refine Upd.step ?_ (State.modSc_upd ..) rfl
    exact h2

theorem State.msgsLost_upd (s : State) :
    Upd 0x20000000001a00000000000000000000000000000001b805000000000000000000000000000000000000000000000000100061800008000113000040000000000000000000000000000000000000000000000 s (State.msgsLost s) := by
  unfold State.msgsLost
  refine Upd.each ?_ (fun n1 x1 h1 => ?_) _
  · exact Upd.refl _ _
  · refine Upd.dropFrames ?_ rfl rfl rfl
    exact h1

theorem State.lfmLoss_upd (a1 : Bool) (s : State) :
    Upd 0x20000000035e00e00000000000000000000000000001b805000000000000000000000000000000000000000000000200100061800008000113000040000000000000000000000000000000000000000000000 s (State.lfmLoss a1 s) := by
  unfold State.lfmLoss
  extract_lets +onlyGivenNames -underBinder -merge -useContext x1
  refine Upd.cut (t := x1) ?_ (fun h1 => ?_)
  · unfold x1
    refine Upd.step ?_ (State.msgsLost_upd ..) rfl
    exact Upd.refl _ _
  clear_value x1
  extract_lets +onlyGivenNames -underBinder -merge -useContext x2
  refine Upd.cut (t := x2) ?_ (fun h2 => ?_)
  · unfold x2
    refine Upd.set_grps_delin_mccTx_mccRx ?_ rfl rfl rfl rfl
    exact h1
  clear_value x2
  extract_lets +onlyGivenNames -underBinder -merge -useContext x3
  refine Upd.cut (t := x3) ?_ (fun h3 => ?_)
  · unfold x3
    refine Upd.upto ?_ (fun n5 x5 h5 => ?_) _
    · refine Upd.upto ?_ (fun n4 x4 h4 => ?_) _
      · exact h2
      · refine Upd.step ?_ (State.modSc_upd ..) rfl
        exact h4
    · refine Upd.step ?_ (State.modCar_upd ..) rfl
      exact h5
  clear_value x3
  refine Upd.step ?_ (State.kekShow_upd ..) rfl
  refine Upd.set_cip ?_ rfl
  exact h3

theorem State.sofLoss_upd (a1 : Bool) (s : State) :
    Upd 0x41e000000000000000000000000000000000000000000000000000000000000000000000000000000000000100000000000000000000000000000000000000000000000000000000000000000000 s (State.sofLoss a1 s) := by
  unfold State.sofLoss
  refine Upd.step ?_ (State.retSettle_upd ..) rfl
  refine Upd.set_flows_delin_ports_drr ?_ rfl rfl rfl rfl
  exact Upd.refl _ _

theorem State.hayReset_upd (s : State) :
    Upd 0x20100000000000007ffffffffffffffffffffffffffffffffffffffffffffffffffffffffffffffffffffffffffffffffffffffffffffffffffffffffffffffffffffffffffffffffffffffffffff s (State.hayReset s) := by
  unfold State.hayReset
  extract_lets +onlyGivenNames -underBinder -merge -useContext x1
  try clear_value x1
  refine Upd.step ?_ (State.modHay_upd ..) rfl
  refine Upd.step ?_ (State.dropRegs_upd ..) rfl
  exact Upd.refl _ _

theorem State.hayFuse_upd (s : State) :
    Upd 0x80000000000000000000000000000000000000000000000000000000000000000 s (State.hayFuse s) := by
  unfold State.hayFuse
  refine Upd.ite ?_ ?_
  · refine Upd.setFld ?_ rfl
    exact Upd.refl _ _
  · exact Upd.refl _ _

theorem State.hayLoss_upd (a1 : Bool) (s : State) :
    Upd 0x20300000000000007ffffffffffffffffffffffffffffffffffffffffffffffffffffffffffffffffffffffffffffffffffffffffffffffffffffffffffffffffffffffffffffffffffffffffffff s (State.hayLoss a1 s) := by
  unfold State.hayLoss
  refine Upd.step ?_ (State.hayFuse_upd ..) rfl
  refine Upd.ite ?_ ?_
  · refine Upd.step ?_ (State.modHay_upd ..) rfl
    exact Upd.step (Upd.refl _ _) (State.dropRegs_upd ..) rfl
  · refine Upd.set_hayMem ?_ rfl fun _ => rfl
    refine Upd.step ?_ (State.modHay_upd ..) rfl
    exact Upd.step (Upd.refl _ _) (State.dropRegs_upd ..) rfl

theorem State.yardClear_upd (s : State) :
    Upd 0x1b000080000000000000000000000000000000000000000000000000000000000000000000000000000000000000000000000000000000000000000000000000000000000000000000000000000000000 s (State.yardClear s) := by
  unfold State.yardClear
  refine Upd.set_yardSt_links_rmt_imgRx_yardTx ?_ rfl rfl rfl rfl rfl
  exact Upd.refl _ _

theorem State.domLoss_upd (a1 : ℕ) (a2 : Bool) (s : State) :
    Upd 0x2761db2ffffff6e0000000007ffffffffffffffffffffffffffffffffffffffffffffffffffffffffffffffffffffffffffffffffffffffffffffffffffffffffffffffffffffffffffffffffffffffffffff s (State.domLoss a1 a2 s) := by
  unfold State.domLoss
  extract_lets +onlyGivenNames -underBinder x
  have hx : Upd 0x2761db2ffffff6e0000000007ffffffffffffffffffffffffffffffffffffffffffffffffffffffffffffffffffffffffffffffffffffffffffffffffffffffffffffffffffffffffffffffffffffffffffff s x := Upd.set_plls (Upd.refl _ _) rfl
  clear_value x
  split
  · have h1 : Upd 0x2761db2ffffff6e0000000007ffffffffffffffffffffffffffffffffffffffffffffffffffffffffffffffffffffffffffffffffffffffffffffffffffffffffffffffffffffffffffffffffffffffffffff s (x.bstAbort fun _ => true) := Upd.step hx (State.bstAbort_upd ..) rfl
    have h2 : Upd 0x2761db2ffffff6e0000000007ffffffffffffffffffffffffffffffffffffffffffffffffffffffffffffffffffffffffffffffffffffffffffffffffffffffffffffffffffffffffffffffffffffffffffff s ((x.bstAbort fun _ => true).modCal fun x => { x with held := [] }) := Upd.step h1 (State.modCal_upd ..) rfl
    refine Upd.ite h2 ?_
    have h3 : Upd 0x2761db2ffffff6e0000000007ffffffffffffffffffffffffffffffffffffffffffffffffffffffffffffffffffffffffffffffffffffffffffffffffffffffffffffffffffffffffffffffffffffffffffff s (((x.bstAbort fun _ => true).modCal fun x => { x with held := [] }).winShut.dropRegs fun k => k.domain == 1) :=
      Upd.step (Upd.step h2 (State.winShut_upd ..) rfl) (State.dropRegs_upd ..) rfl
    exact { h3 with
      reg := h3.reg
      inv := fun hi => let ⟨a, b, _, d⟩ := h3.inv hi; ⟨a, b, rfl, d⟩
      logQ := bit_clash (i := 605) rfl, logLost := bit_clash (i := 606) rfl, ram := bit_clash (i := 642) rfl
      bst := bit_clash (i := 644) rfl, auth := bit_clash (i := 649) rfl, lbCmd := bit_clash (i := 650) rfl
      winEnd := bit_clash (i := 652) rfl, injAt := bit_clash (i := 653) rfl
      segBad := bit_clash (i := 654) rfl }
  · refine Upd.ite ?_ ?_
    · exact Upd.step (Upd.step (Upd.step hx (State.keepCfg_upd ..) rfl) (State.stbStop_upd ..) rfl) (State.pmkClear_upd ..) rfl
    · exact Upd.step (Upd.step (Upd.step hx (State.dropRegs_upd ..) rfl) (State.stbStop_upd ..) rfl) (State.pmkClear_upd ..) rfl
  · have h1 : Upd 0x2761db2ffffff6e0000000007ffffffffffffffffffffffffffffffffffffffffffffffffffffffffffffffffffffffffffffffffffffffffffffffffffffffffffffffffffffffffffffffffffffffffffff s (State.pccClear { x with mon := [], monSnap := none, monFree := false, monAt := 0, bins := [] }) :=
      Upd.step (Upd.set_mon_monSnap_monFree_monAt_bins hx rfl rfl rfl rfl rfl) (State.pccClear_upd ..) rfl
    exact Upd.ite (Upd.step h1 (State.keepCfg_upd ..) rfl) (Upd.step h1 (State.dropRegs_upd ..) rfl)
  · exact Upd.step (Upd.ite hx (Upd.step hx (State.dropRegs_upd ..) rfl)) (State.carLoss_upd ..) rfl
  · exact Upd.step (Upd.ite hx (Upd.step hx (State.dropRegs_upd ..) rfl)) (State.carLoss_upd ..) rfl
  · exact Upd.step (Upd.step hx (State.dropRegs_upd ..) rfl) (State.lfmLoss_upd ..) rfl
  · exact Upd.step (Upd.ite hx (Upd.step hx (State.dropRegs_upd ..) rfl)) (State.sofLoss_upd ..) rfl
  · exact Upd.step hx (State.hayLoss_upd ..) rfl
  iterate 4 exact Upd.set_retryLane (Upd.ite hx (Upd.step hx (State.dropRegs_upd ..) rfl)) rfl
  · refine Upd.step (Upd.upto ?_ (fun n y hy => ?_) _) (State.yardClear_upd ..) rfl
    · exact Upd.step hx (State.dropRegs_upd ..) rfl
    · exact Upd.step hy (State.fwdShow_upd ..) rfl
  · exact hx

theorem State.railsEval_upd (s : State) :
    Upd 0x100000000000000000000000000000000000000000000000000000000000000000000000000000000000000000000000000000000000000000000000000000000000000000000000000000000000000 s (State.railsEval s) := by
  unfold State.railsEval
  extract_lets +onlyGivenNames -underBinder -merge -useContext x1
  try clear_value x1
  refine Upd.step ?_ (State.modPwr_upd ..) rfl
  exact Upd.refl _ _

theorem State.ask_upd (a1 : ℕ) (a2 : ℕ) (s : State) :
    Upd 0x20000018885ec0e00000000000000000001800000001b8050000000000092003018024002000020000000800000004001001660000080021130000550080000180001091cf20cc40000000000000020000000 s (State.ask a1 a2 s) := by
  unfold State.ask
  extract_lets +onlyGivenNames -underBinder -merge -useContext x1
  refine Upd.cut (t := x1) ?_ (fun h1 => ?_)
  · unfold x1
    refine Upd.step ?_ (State.modPwr_upd ..) rfl
    refine Upd.step ?_ (State.setDom_upd ..) rfl
    exact Upd.refl _ _
  clear_value x1
  extract_lets +onlyGivenNames -underBinder -merge -useContext x2
  refine Upd.cut (t := x2) ?_ (fun h2 => ?_)
  · unfold x2
    refine Upd.when ?_ (fun x3 h3 => ?_)
    · exact h1
    · refine Upd.step ?_ (State.hayGroups_upd ..) rfl
      refine Upd.setFld ?_ rfl
      exact h3
  clear_value x2
  refine Upd.step ?_ (State.evalAll_upd ..) rfl
  exact h2

theorem State.askOver_upd (a1 : ℕ) (a2 : ℕ) (s : State) :
    Upd 0x20000008885ec0e00000000000000000001800000001b8050000000000092003018024002000020000000800000004001001660000080021130000550080000180001091cf20cc40000000000000020000000 s (State.askOver a1 a2 s) := by
  unfold State.askOver
  extract_lets +onlyGivenNames -underBinder -merge -useContext x1
  refine Upd.cut (t := x1) ?_ (fun h1 => ?_)
  · unfold x1
    refine Upd.step ?_ (State.domRes_upd ..) rfl
    refine Upd.setFld ?_ rfl
    refine Upd.step ?_ (State.setDom_upd ..) rfl
    exact Upd.refl _ _
  clear_value x1
  refine Upd.step ?_ (State.evalAll_upd ..) rfl
  refine Upd.when ?_ (fun x2 h2 => ?_)
  · exact h1
  · refine Upd.setFld ?_ rfl
    exact h2

theorem State.retentionOff_upd (a1 : ℕ) (s : State) :
    Upd 0x2761db3ffffff6e0000000007ffffffffffffffffffffffffffffffffffffffffffffffffffffffffffffffffffffffffffffffffffffffffffffffffffffffffffffffffffffffffffffffffffffffffffff s (State.retentionOff a1 s) := by
  unfold State.retentionOff
  refine Upd.step ?_ (State.railsEval_upd ..) rfl
  refine Upd.step ?_ (State.domRes_upd ..) rfl
  refine Upd.step ?_ (State.setDom_upd ..) rfl
  refine Upd.step ?_ (State.domLoss_upd ..) rfl
  exact Upd.refl _ _

theorem State.domReq_upd (a1 : ℕ) (a2 : ℕ) (s : State) :
    Upd 0x2761db3ffffff6e0000000007ffffffffffffffffffffffffffffffffffffffffffffffffffffffffffffffffffffffffffffffffffffffffffffffffffffffffffffffffffffffffffffffffffffffffffff s (State.domReq a1 a2 s) := by
  unfold State.domReq
  refine Upd.ite ?_ ?_
  · refine Upd.step ?_ (State.domRes_upd ..) rfl
    exact Upd.refl _ _
  · extract_lets +onlyGivenNames -underBinder -merge -useContext x1
    unfold x1
    beta_reduce
    clear x1
    split
    · refine Upd.ite ?_ ?_
      · refine Upd.step ?_ (State.wakeBegin_upd ..) rfl
        exact Upd.refl _ _
      · refine Upd.ite ?_ ?_
        · refine Upd.step ?_ (State.domRes_upd ..) rfl
          refine Upd.setFld ?_ rfl
          exact Upd.refl _ _
        · refine Upd.setFld ?_ rfl
          exact Upd.refl _ _
    · refine Upd.ite ?_ ?_
      · refine Upd.step ?_ (State.wakeBegin_upd ..) rfl
        exact Upd.refl _ _
      · refine Upd.ite ?_ ?_
        · refine Upd.step ?_ (State.retentionOff_upd ..) rfl
          refine Upd.setFld ?_ rfl
          exact Upd.refl _ _
        · refine Upd.setFld ?_ rfl
          exact Upd.refl _ _
    · refine Upd.ite ?_ ?_
      · refine Upd.setFld ?_ rfl
        exact Upd.refl _ _
      · refine Upd.step ?_ (State.ask_upd ..) rfl
        refine Upd.setFld ?_ rfl
        exact Upd.refl _ _
    · refine Upd.ite ?_ ?_
      · refine Upd.step ?_ (State.askOver_upd ..) rfl
        exact Upd.refl _ _
      · refine Upd.step ?_ (State.modPwr_upd ..) rfl
        refine Upd.setFld ?_ rfl
        exact Upd.refl _ _
    · refine Upd.ite ?_ ?_
      · refine Upd.setFld ?_ rfl
        refine Upd.setFld ?_ rfl
        exact Upd.refl _ _
      · refine Upd.ite ?_ ?_
        · refine Upd.step ?_ (State.domRes_upd ..) rfl
          refine Upd.setFld ?_ rfl
          refine Upd.setFld ?_ rfl
          exact Upd.refl _ _
        · refine Upd.setFld ?_ rfl
          exact Upd.refl _ _
    · refine Upd.setFld ?_ rfl
      exact Upd.refl _ _

theorem State.domWrite_upd (a1 : ℕ) (a2 : W32) (s : State) :
    Upd 0x2761db3ffffff6e0000000007ffffffffffffffffffffffffffffffffffffffffffffffffffffffffffffffffffffffffffffffffffffffffffffffffffffffffffffffffffffffffffffffffffffffffffff s (State.domWrite a1 a2 s) := by
  unfold State.domWrite
  extract_lets +onlyGivenNames -underBinder -merge -useContext x1
  refine Upd.cut (t := x1) ?_ (fun h1 => ?_)
  · unfold x1
    refine Upd.when ?_ (fun x2 h2 => ?_)
    · exact Upd.refl _ _
    · refine Upd.setFld ?_ rfl
      refine Upd.setFld ?_ rfl
      exact h2
  clear_value x1
  refine Upd.step ?_ (State.domReq_upd ..) rfl
  exact h1

theorem execDomReq_upd (a1 : Master) (a2 : ℕ) (a3 : W32) (s : State) :
    ∃ t, execDomReq a1 a2 a3 s = .next t ∧ Upd 0x2761db3ffffff7e0000000007ffffffffffffffffffffffffffffffffffffffffffffffffffffffffffffffffffffffffffffffffffffffffffffffffffffffffffffffffffffffffffffffffffffffffffff s t := by
  unfold execDomReq
  refine ⟨_, rfl, ?_⟩
  refine Upd.guardW ?_ (fun x1 h1 => ?_) rfl
  · exact Upd.refl _ _
  · refine Upd.step ?_ (State.domWrite_upd ..) rfl
    exact h1

theorem State.accepted_upd (a1 : ℕ) (s : State) :
    Upd 0x2001810888dee0e00000000000000000001800000001b80d48000000000920030180240020c0020000000800000004001000660000080021130000550080000180001091ef20cc40000000000000021000000 s (State.accepted a1 s) := by
  unfold State.accepted
  extract_lets +onlyGivenNames -underBinder -merge -useContext x1
  refine Upd.cut (t := x1) ?_ (fun h1 => ?_)
  · unfold x1
    refine Upd.step ?_ (State.bstAbort_upd ..) (by first | rfl | (split <;> rfl) | (unfold enterEvt; split <;> rfl) | (unfold pendFld; split <;> rfl) | (rw [padFld_reg (by assumption)]; rfl) | (unfold phWord; rcases a2 with _ | _ | _ | _ | _ | a2 <;> rfl) | exact RegId.all_bit rfl _)
    exact Upd.refl _ _
  clear_value x1
  extract_lets +onlyGivenNames -underBinder -merge -useContext x2
  refine Upd.cut (t := x2) ?_ (fun h2 => ?_)
  · unfold x2
    refine Upd.when ?_ (fun x3 h3 => ?_)
    · exact h1
    · refine Upd.upto ?_ (fun n4 x4 h4 => ?_) _
      · exact h3
      · refine Upd.step ?_ (State.linkDown_upd ..) (by first | rfl | (split <;> rfl) | (unfold enterEvt; split <;> rfl) | (unfold pendFld; split <;> rfl) | (rw [padFld_reg (by assumption)]; rfl) | (unfold phWord; rcases a2 with _ | _ | _ | _ | _ | a2 <;> rfl) | exact RegId.all_bit rfl _)
        exact h4
  clear_value x2
  extract_lets +onlyGivenNames -underBinder -merge -useContext x5
  refine Upd.cut (t := x5) ?_ (fun h5 => ?_)
  · unfold x5
    refine Upd.when ?_ (fun x6 h6 => ?_)
    · exact h2
    · refine Upd.set_cip ?_ (by first | rfl | (split <;> rfl) | (unfold enterEvt; split <;> rfl) | (unfold pendFld; split <;> rfl) | (rw [padFld_reg (by assumption)]; rfl) | (unfold phWord; rcases a2 with _ | _ | _ | _ | _ | a2 <;> rfl) | exact RegId.all_bit rfl _)
      exact h6
  clear_value x5
  extract_lets +onlyGivenNames -underBinder -merge -useContext x7
  refine Upd.cut (t := x7) ?_ (fun h7 => ?_)
  · unfold x7
    split
    · refine Upd.setFld ?_ (by first | rfl | (split <;> rfl) | (unfold enterEvt; split <;> rfl) | (unfold pendFld; split <;> rfl) | (rw [padFld_reg (by assumption)]; rfl) | (unfold phWord; rcases a2 with _ | _ | _ | _ | _ | a2 <;> rfl) | exact RegId.all_bit rfl _)
      exact h5
    · exact h5
  clear_value x7
  extract_lets +onlyGivenNames -underBinder -merge -useContext x8
  refine Upd.cut (t := x8) ?_ (fun h8 => ?_)
  · unfold x8
    refine Upd.when ?_ (fun x9 h9 => ?_)
    · exact h7
    · refine Upd.raise ?_ (by first | rfl | (split <;> rfl) | (unfold enterEvt; split <;> rfl) | (unfold pendFld; split <;> rfl) | (rw [padFld_reg (by assumption)]; rfl) | (unfold phWord; rcases a2 with _ | _ | _ | _ | _ | a2 <;> rfl) | exact RegId.all_bit rfl _)
      refine Upd.setFld ?_ (by first | rfl | (split <;> rfl) | (unfold enterEvt; split <;> rfl) | (unfold pendFld; split <;> rfl) | (rw [padFld_reg (by assumption)]; rfl) | (unfold phWord; rcases a2 with _ | _ | _ | _ | _ | a2 <;> rfl) | exact RegId.all_bit rfl _)
      exact h9
  clear_value x8
  extract_lets +onlyGivenNames -underBinder -merge -useContext x10
  refine Upd.cut (t := x10) ?_ (fun h10 => ?_)
  · unfold x10
    refine Upd.when ?_ (fun x11 h11 => ?_)
    · exact h8
    · refine Upd.step ?_ (State.calAbandon_upd ..) (by first | rfl | (split <;> rfl) | (unfold enterEvt; split <;> rfl) | (unfold pendFld; split <;> rfl) | (rw [padFld_reg (by assumption)]; rfl) | (unfold phWord; rcases a2 with _ | _ | _ | _ | _ | a2 <;> rfl) | exact RegId.all_bit rfl _)
      exact h11
  clear_value x10
  refine Upd.step ?_ (State.evalAll_upd ..) (by first | rfl | (split <;> rfl) | (unfold enterEvt; split <;> rfl) | (unfold pendFld; split <;> rfl) | (rw [padFld_reg (by assumption)]; rfl) | (unfold phWord; rcases a2 with _ | _ | _ | _ | _ | a2 <;> rfl) | exact RegId.all_bit rfl _)
  refine Upd.step ?_ (State.setDom_upd ..) (by first | rfl | (split <;> rfl) | (unfold enterEvt; split <;> rfl) | (unfold pendFld; split <;> rfl) | (rw [padFld_reg (by assumption)]; rfl) | (unfold phWord; rcases a2 with _ | _ | _ | _ | _ | a2 <;> rfl) | exact RegId.all_bit rfl _)
  exact h10

theorem execHandshakeAccept_upd (a1 : ℕ) (s : State) :
    ∃ t, execHandshakeAccept a1 s = .next t ∧ Upd 0x2001810888dee0e00000000000000000001800000001b80d48000000000920030180240020c0020000000800000004001000660000080021130000550080000180001091ef20cc40000000000000021000000 s t := by
  unfold execHandshakeAccept
  refine ⟨_, rfl, ?_⟩
  refine Upd.ite ?_ ?_
  · refine Upd.step ?_ (State.accepted_upd ..) rfl
    exact Upd.refl _ _
  · exact Upd.refl _ _

theorem execHsRefused_upd (a1 : ℕ) (a2 : Bool) (s : State) :
    ∃ t, execHsRefused a1 a2 s = .next t ∧ Upd 0x20000008885ec0e00000000000000000001800000001b8050000000000092003018024002000020000000800000004001001660000080021130000550080000180001091cf20cc40000000000000020200000 s t := by
  unfold execHsRefused
  refine ⟨_, rfl, ?_⟩
  refine Upd.ite ?_ ?_
  · refine Upd.raise ?_ rfl
    refine Upd.step ?_ (State.askOver_upd ..) rfl
    exact Upd.refl _ _
  · exact Upd.refl _ _

theorem execDrainRefused_upd (s : State) :
    ∃ t, execDrainRefused s = .next t ∧ Upd 0x20000008885ec0e00000000000000000001800000001b8050000000000092003018024002000020000000800000004001009660000080021130000550080000180001091cf20cc40000000000000020200000 s t := by
  unfold execDrainRefused
  refine ⟨_, rfl, ?_⟩
  refine Upd.ite ?_ ?_
  · refine Upd.raise ?_ rfl
    refine Upd.raise ?_ rfl
    refine Upd.step ?_ (State.askOver_upd ..) rfl
    exact Upd.refl _ _
  · exact Upd.refl _ _

theorem State.stopped_upd (a1 : ℕ) (s : State) :
    Upd 0x2761db3ffffff6e0000000007ffffffffffffffffffffffffffffffffffffffffffffffffffffffffffffffffffffffffffffffffffffffffffffffffffffffffffffffffffffffffffffffffffffffffffff s (State.stopped a1 s) := by
  unfold State.stopped
  extract_lets +onlyGivenNames -underBinder -merge -useContext x1
  try clear_value x1
  extract_lets +onlyGivenNames -underBinder -merge -useContext x2
  refine Upd.cut (t := x2) ?_ (fun h2 => ?_)
  · unfold x2
    refine Upd.step ?_ (State.railsEval_upd ..) rfl
    refine Upd.step ?_ (State.domRes_upd ..) rfl
    refine Upd.step ?_ (State.setDom_upd ..) rfl
    refine Upd.step ?_ (State.domLoss_upd ..) rfl
    exact Upd.refl _ _
  clear_value x2
  refine Upd.ite ?_ ?_
  · refine Upd.step ?_ (State.wakeBegin_upd ..) rfl
    refine Upd.setFld ?_ rfl
    exact h2
  · extract_lets +onlyGivenNames -underBinder -merge -useContext x3
    try clear_value x3
    refine Upd.ite ?_ ?_
    · refine Upd.step ?_ (State.retentionOff_upd ..) rfl
      exact h2
    · refine Upd.ite ?_ ?_
      · refine Upd.step ?_ (State.domRes_upd ..) rfl
        exact h2
      · exact h2

theorem execShutdownDone_upd (a1 : ℕ) (s : State) :
    ∃ t, execShutdownDone a1 s = .next t ∧ Upd 0x2761db3ffffff6e0000000007ffffffffffffffffffffffffffffffffffffffffffffffffffffffffffffffffffffffffffffffffffffffffffffffffffffffffffffffffffffffffffffffffffffffffffff s t := by
  unfold execShutdownDone
  refine ⟨_, rfl, ?_⟩
  refine Upd.ite ?_ ?_
  · refine Upd.step ?_ (State.evalAll_upd ..) rfl
    refine Upd.step ?_ (State.stopped_upd ..) rfl
    exact Upd.refl _ _
  · exact Upd.refl _ _

theorem State.mgmtStart_upd (s : State) :
    Upd 0x100000000000000000000000000000000000000000000000000000000000000000000000000000000000000000000000000000000000000000000000000000000000000000000000000000020000000 s (State.mgmtStart s) := by
  unfold State.mgmtStart
  refine Upd.ite ?_ ?_
  · refine Upd.step ?_ (State.wakeBegin_upd ..) rfl
    exact Upd.refl _ _
  · exact Upd.refl _ _

theorem State.domUp_upd (a1 : ℕ) (a2 : Bool) (s : State) :
    Upd 0x20828c2fc85fd1e00000000000000000001800002061b8050000003000092003018024002000020004018800000004001001e60000080021130000550080000180001091ef20ce40020010008222011104300 s (State.domUp a1 a2 s) := by
  unfold State.domUp
  refine Upd.step ?_ (State.evalAll_upd ..) (by first | rfl | (split <;> rfl) | (unfold enterEvt; split <;> rfl) | (unfold pendFld; split <;> rfl) | (rw [padFld_reg (by assumption)]; rfl) | (unfold phWord; rcases a2 with _ | _ | _ | _ | _ | a2 <;> rfl) | exact RegId.all_bit rfl _)
  refine Upd.step ?_ (State.bootGo_upd ..) (by first | rfl | (split <;> rfl) | (unfold enterEvt; split <;> rfl) | (unfold pendFld; split <;> rfl) | (rw [padFld_reg (by assumption)]; rfl) | (unfold phWord; rcases a2 with _ | _ | _ | _ | _ | a2 <;> rfl) | exact RegId.all_bit rfl _)
  refine Upd.step ?_ (State.bootWake_upd ..) (by first | rfl | (split <;> rfl) | (unfold enterEvt; split <;> rfl) | (unfold pendFld; split <;> rfl) | (rw [padFld_reg (by assumption)]; rfl) | (unfold phWord; rcases a2 with _ | _ | _ | _ | _ | a2 <;> rfl) | exact RegId.all_bit rfl _)
  refine Upd.step ?_ (State.evalAll_upd ..) (by first | rfl | (split <;> rfl) | (unfold enterEvt; split <;> rfl) | (unfold pendFld; split <;> rfl) | (rw [padFld_reg (by assumption)]; rfl) | (unfold phWord; rcases a2 with _ | _ | _ | _ | _ | a2 <;> rfl) | exact RegId.all_bit rfl _)
  split
  · extract_lets +onlyGivenNames -underBinder -merge -useContext x1
    refine Upd.cut (t := x1) ?_ (fun h1 => ?_)
    · unfold x1
      refine Upd.set_logSeq ?_ (by first | rfl | (split <;> rfl) | (unfold enterEvt; split <;> rfl) | (unfold pendFld; split <;> rfl) | (rw [padFld_reg (by assumption)]; rfl) | (unfold phWord; rcases a2 with _ | _ | _ | _ | _ | a2 <;> rfl) | exact RegId.all_bit rfl _)
      exact Upd.refl _ _
    clear_value x1
    refine Upd.step ?_ (State.modFab_upd ..) (by first | rfl | (split <;> rfl) | (unfold enterEvt; split <;> rfl) | (unfold pendFld; split <;> rfl) | (rw [padFld_reg (by assumption)]; rfl) | (unfold phWord; rcases a2 with _ | _ | _ | _ | _ | a2 <;> rfl) | exact RegId.all_bit rfl _)
    refine Upd.setFlag ?_ (by first | rfl | (split <;> rfl) | (unfold enterEvt; split <;> rfl) | (unfold pendFld; split <;> rfl) | (rw [padFld_reg (by assumption)]; rfl) | (unfold phWord; rcases a2 with _ | _ | _ | _ | _ | a2 <;> rfl) | exact RegId.all_bit rfl _)
    refine Upd.wrN ?_ (by first | rfl | (split <;> rfl) | (unfold enterEvt; split <;> rfl) | (unfold pendFld; split <;> rfl) | (rw [padFld_reg (by assumption)]; rfl) | (unfold phWord; rcases a2 with _ | _ | _ | _ | _ | a2 <;> rfl) | exact RegId.all_bit rfl _)
    refine Upd.wrN ?_ (by first | rfl | (split <;> rfl) | (unfold enterEvt; split <;> rfl) | (unfold pendFld; split <;> rfl) | (rw [padFld_reg (by assumption)]; rfl) | (unfold phWord; rcases a2 with _ | _ | _ | _ | _ | a2 <;> rfl) | exact RegId.all_bit rfl _)
    exact h1
  · refine Upd.step ?_ (State.stbStart_upd ..) (by first | rfl | (split <;> rfl) | (unfold enterEvt; split <;> rfl) | (unfold pendFld; split <;> rfl) | (rw [padFld_reg (by assumption)]; rfl) | (unfold phWord; rcases a2 with _ | _ | _ | _ | _ | a2 <;> rfl) | exact RegId.all_bit rfl _)
    refine Upd.step ?_ (State.pmkClear_upd ..) (by first | rfl | (split <;> rfl) | (unfold enterEvt; split <;> rfl) | (unfold pendFld; split <;> rfl) | (rw [padFld_reg (by assumption)]; rfl) | (unfold phWord; rcases a2 with _ | _ | _ | _ | _ | a2 <;> rfl) | exact RegId.all_bit rfl _)
    exact Upd.refl _ _
  · refine Upd.step ?_ (State.pccClear_upd ..) (by first | rfl | (split <;> rfl) | (unfold enterEvt; split <;> rfl) | (unfold pendFld; split <;> rfl) | (rw [padFld_reg (by assumption)]; rfl) | (unfold phWord; rcases a2 with _ | _ | _ | _ | _ | a2 <;> rfl) | exact RegId.all_bit rfl _)
    refine Upd.step ?_ (State.monStart_upd ..) (by first | rfl | (split <;> rfl) | (unfold enterEvt; split <;> rfl) | (unfold pendFld; split <;> rfl) | (rw [padFld_reg (by assumption)]; rfl) | (unfold phWord; rcases a2 with _ | _ | _ | _ | _ | a2 <;> rfl) | exact RegId.all_bit rfl _)
    exact Upd.refl _ _
  · extract_lets +onlyGivenNames -underBinder -merge -useContext x2
    refine Upd.cut (t := x2) ?_ (fun h2 => ?_)
    · unfold x2
      refine Upd.when ?_ (fun x3 h3 => ?_)
      · refine Upd.step ?_ (State.calLoad_upd ..) (by first | rfl | (split <;> rfl) | (unfold enterEvt; split <;> rfl) | (unfold pendFld; split <;> rfl) | (rw [padFld_reg (by assumption)]; rfl) | (unfold phWord; rcases a2 with _ | _ | _ | _ | _ | a2 <;> rfl) | exact RegId.all_bit rfl _)
        exact Upd.refl _ _
      · refine Upd.step ?_ (State.marksWake_upd ..) (by first | rfl | (split <;> rfl) | (unfold enterEvt; split <;> rfl) | (unfold pendFld; split <;> rfl) | (rw [padFld_reg (by assumption)]; rfl) | (unfold phWord; rcases a2 with _ | _ | _ | _ | _ | a2 <;> rfl) | exact RegId.all_bit rfl _)
        exact h3
    clear_value x2
    extract_lets +onlyGivenNames -underBinder -merge -useContext x4
    unfold x4
    beta_reduce
    clear x4
    refine Upd.when ?_ (fun x5 h5 => ?_)
    · exact h2
    · refine Upd.setFld ?_ (by first | rfl | (split <;> rfl) | (unfold enterEvt; split <;> rfl) | (unfold pendFld; split <;> rfl) | (rw [padFld_reg (by assumption)]; rfl) | (unfold phWord; rcases a2 with _ | _ | _ | _ | _ | a2 <;> rfl) | exact RegId.all_bit rfl _)
      refine Upd.setFld ?_ (by first | rfl | (split <;> rfl) | (unfold enterEvt; split <;> rfl) | (unfold pendFld; split <;> rfl) | (rw [padFld_reg (by assumption)]; rfl) | (unfold phWord; rcases a2 with _ | _ | _ | _ | _ | a2 <;> rfl) | exact RegId.all_bit rfl _)
      exact h5
  · extract_lets +onlyGivenNames -underBinder -merge -useContext x6
    refine Upd.cut (t := x6) ?_ (fun h6 => ?_)
    · unfold x6
      refine Upd.when ?_ (fun x7 h7 => ?_)
      · refine Upd.step ?_ (State.calLoad_upd ..) (by first | rfl | (split <;> rfl) | (unfold enterEvt; split <;> rfl) | (unfold pendFld; split <;> rfl) | (rw [padFld_reg (by assumption)]; rfl) | (unfold phWord; rcases a2 with _ | _ | _ | _ | _ | a2 <;> rfl) | exact RegId.all_bit rfl _)
        exact Upd.refl _ _
      · refine Upd.step ?_ (State.marksWake_upd ..) (by first | rfl | (split <;> rfl) | (unfold enterEvt; split <;> rfl) | (unfold pendFld; split <;> rfl) | (rw [padFld_reg (by assumption)]; rfl) | (unfold phWord; rcases a2 with _ | _ | _ | _ | _ | a2 <;> rfl) | exact RegId.all_bit rfl _)
        exact h7
    clear_value x6
    extract_lets +onlyGivenNames -underBinder -merge -useContext x8
    unfold x8
    beta_reduce
    clear x8
    refine Upd.when ?_ (fun x9 h9 => ?_)
    · exact h6
    · refine Upd.setFld ?_ (by first | rfl | (split <;> rfl) | (unfold enterEvt; split <;> rfl) | (unfold pendFld; split <;> rfl) | (rw [padFld_reg (by assumption)]; rfl) | (unfold phWord; rcases a2 with _ | _ | _ | _ | _ | a2 <;> rfl) | exact RegId.all_bit rfl _)
      refine Upd.setFld ?_ (by first | rfl | (split <;> rfl) | (unfold enterEvt; split <;> rfl) | (unfold pendFld; split <;> rfl) | (rw [padFld_reg (by assumption)]; rfl) | (unfold phWord; rcases a2 with _ | _ | _ | _ | _ | a2 <;> rfl) | exact RegId.all_bit rfl _)
      exact h9
  · refine Upd.when ?_ (fun x10 h10 => ?_)
    · refine Upd.setFld ?_ (by first | rfl | (split <;> rfl) | (unfold enterEvt; split <;> rfl) | (unfold pendFld; split <;> rfl) | (rw [padFld_reg (by assumption)]; rfl) | (unfold phWord; rcases a2 with _ | _ | _ | _ | _ | a2 <;> rfl) | exact RegId.all_bit rfl _)
      refine Upd.setFld ?_ (by first | rfl | (split <;> rfl) | (unfold enterEvt; split <;> rfl) | (unfold pendFld; split <;> rfl) | (rw [padFld_reg (by assumption)]; rfl) | (unfold phWord; rcases a2 with _ | _ | _ | _ | _ | a2 <;> rfl) | exact RegId.all_bit rfl _)
      exact Upd.refl _ _
    · refine Upd.step ?_ (State.hayFuse_upd ..) (by first | rfl | (split <;> rfl) | (unfold enterEvt; split <;> rfl) | (unfold pendFld; split <;> rfl) | (rw [padFld_reg (by assumption)]; rfl) | (unfold phWord; rcases a2 with _ | _ | _ | _ | _ | a2 <;> rfl) | exact RegId.all_bit rfl _)
      exact h10
  · extract_lets +onlyGivenNames -underBinder -merge -useContext x11
    try clear_value x11
    refine Upd.step ?_ (State.lanesEval_upd ..) (by first | rfl | (split <;> rfl) | (unfold enterEvt; split <;> rfl) | (unfold pendFld; split <;> rfl) | (rw [padFld_reg (by assumption)]; rfl) | (unfold phWord; rcases a2 with _ | _ | _ | _ | _ | a2 <;> rfl) | exact RegId.all_bit rfl _)
    refine Upd.when ?_ (fun x12 h12 => ?_)
    · exact Upd.refl _ _
    · refine Upd.step ?_ (State.threshWake_upd ..) (by first | rfl | (split <;> rfl) | (unfold enterEvt; split <;> rfl) | (unfold pendFld; split <;> rfl) | (rw [padFld_reg (by assumption)]; rfl) | (unfold phWord; rcases a2 with _ | _ | _ | _ | _ | a2 <;> rfl) | exact RegId.all_bit rfl _)
      exact h12
  · extract_lets +onlyGivenNames -underBinder -merge -useContext x13
    try clear_value x13
    refine Upd.step ?_ (State.lanesEval_upd ..) (by first | rfl | (split <;> rfl) | (unfold enterEvt; split <;> rfl) | (unfold pendFld; split <;> rfl) | (rw [padFld_reg (by assumption)]; rfl) | (unfold phWord; rcases a2 with _ | _ | _ | _ | _ | a2 <;> rfl) | exact RegId.all_bit rfl _)
    refine Upd.when ?_ (fun x14 h14 => ?_)
    · exact Upd.refl _ _
    · refine Upd.step ?_ (State.threshWake_upd ..) (by first | rfl | (split <;> rfl) | (unfold enterEvt; split <;> rfl) | (unfold pendFld; split <;> rfl) | (rw [padFld_reg (by assumption)]; rfl) | (unfold phWord; rcases a2 with _ | _ | _ | _ | _ | a2 <;> rfl) | exact RegId.all_bit rfl _)
      exact h14
  · extract_lets +onlyGivenNames -underBinder -merge -useContext x15
    try clear_value x15
    refine Upd.step ?_ (State.lanesEval_upd ..) (by first | rfl | (split <;> rfl) | (unfold enterEvt; split <;> rfl) | (unfold pendFld; split <;> rfl) | (rw [padFld_reg (by assumption)]; rfl) | (unfold phWord; rcases a2 with _ | _ | _ | _ | _ | a2 <;> rfl) | exact RegId.all_bit rfl _)
    refine Upd.when ?_ (fun x16 h16 => ?_)
    · exact Upd.refl _ _
    · refine Upd.step ?_ (State.threshWake_upd ..) (by first | rfl | (split <;> rfl) | (unfold enterEvt; split <;> rfl) | (unfold pendFld; split <;> rfl) | (rw [padFld_reg (by assumption)]; rfl) | (unfold phWord; rcases a2 with _ | _ | _ | _ | _ | a2 <;> rfl) | exact RegId.all_bit rfl _)
      exact h16
  · extract_lets +onlyGivenNames -underBinder -merge -useContext x17
    try clear_value x17
    refine Upd.step ?_ (State.lanesEval_upd ..) (by first | rfl | (split <;> rfl) | (unfold enterEvt; split <;> rfl) | (unfold pendFld; split <;> rfl) | (rw [padFld_reg (by assumption)]; rfl) | (unfold phWord; rcases a2 with _ | _ | _ | _ | _ | a2 <;> rfl) | exact RegId.all_bit rfl _)
    refine Upd.when ?_ (fun x18 h18 => ?_)
    · exact Upd.refl _ _
    · refine Upd.step ?_ (State.threshWake_upd ..) (by first | rfl | (split <;> rfl) | (unfold enterEvt; split <;> rfl) | (unfold pendFld; split <;> rfl) | (rw [padFld_reg (by assumption)]; rfl) | (unfold phWord; rcases a2 with _ | _ | _ | _ | _ | a2 <;> rfl) | exact RegId.all_bit rfl _)
      exact h18
  · refine Upd.when ?_ (fun x19 h19 => ?_)
    · exact Upd.refl _ _
    · refine Upd.step ?_ (State.threshWake_upd ..) (by first | rfl | (split <;> rfl) | (unfold enterEvt; split <;> rfl) | (unfold pendFld; split <;> rfl) | (rw [padFld_reg (by assumption)]; rfl) | (unfold phWord; rcases a2 with _ | _ | _ | _ | _ | a2 <;> rfl) | exact RegId.all_bit rfl _)
      exact h19
  · exact Upd.refl _ _

theorem State.wakeDone_upd (a1 : ℕ) (s : State) :
    Upd 0x20828c3fc85fd1e00000000000000000001800002061b8050000003000092003018024002000020004018800000004001001e60000080021130000550080000180001091ef20ce40020010008222031304300 s (State.wakeDone a1 s) := by
  unfold State.wakeDone
  extract_lets +onlyGivenNames -underBinder -merge -useContext x1
  try clear_value x1
  extract_lets +onlyGivenNames -underBinder -merge -useContext x2
  refine Upd.cut (t := x2) ?_ (fun h2 => ?_)
  · unfold x2
    refine Upd.step ?_ (State.modPwr_upd ..) rfl
    refine Upd.raise ?_ rfl
    refine Upd.step ?_ (State.domRes_upd ..) rfl
    refine Upd.step ?_ (State.setDom_upd ..) rfl
    exact Upd.refl _ _
  clear_value x2
  extract_lets +onlyGivenNames -underBinder -merge -useContext x3
  refine Upd.cut (t := x3) ?_ (fun h3 => ?_)
  · unfold x3
    refine Upd.step ?_ (State.domUp_upd ..) rfl
    exact h2
  clear_value x3
  refine Upd.ite ?_ ?_
  · refine Upd.step ?_ (State.ask_upd ..) rfl
    exact h3
  · exact h3

theorem execWakeStep_upd (a1 : ℕ) (s : State) :
    ∃ t, execWakeStep a1 s = .next t ∧ Upd 0x20828c3fc85fd1e00000000000000000001800002061b8050000003000092003018024002000020004018800000004001001e60000080021130000550080000180001091ef20ce40020010008222031304300 s t := by
  unfold execWakeStep
  refine ⟨_, rfl, ?_⟩
  refine Upd.ite ?_ ?_
  · extract_lets +onlyGivenNames -underBinder -merge -useContext x1
    try clear_value x1
    extract_lets +onlyGivenNames -underBinder -merge -useContext x2
    refine Upd.cut (t := x2) ?_ (fun h2 => ?_)
    · unfold x2
      refine Upd.when ?_ (fun x3 h3 => ?_)
      · refine Upd.ite ?_ ?_
        · refine Upd.step ?_ (State.mgmtStart_upd ..) rfl
          exact Upd.refl _ _
        · exact Upd.refl _ _
      · refine Upd.step ?_ (State.modPwr_upd ..) rfl
        exact h3
    clear_value x2
    refine Upd.ite ?_ ?_
    · refine Upd.step ?_ (State.modPwr_upd ..) rfl
      exact h2
    · refine Upd.step ?_ (State.wakeDone_upd ..) rfl
      exact h2
  · refine Upd.ite ?_ ?_
    · refine Upd.step ?_ (State.mgmtStart_upd ..) rfl
      exact Upd.refl _ _
    · exact Upd.refl _ _

theorem execWakeFail_upd (a1 : ℕ) (s : State) :
    ∃ t, execWakeFail a1 s = .next t ∧ Upd 0x2763db3ffffff6e0000000007ffffffffffffffffffffffffffffffffffffffffffffffffffffffffffffffffffffffffffffffffffffffffffffffffffffffffffffffffffffffffffffffffffffffffffff s t := by
  unfold execWakeFail
  refine ⟨_, rfl, ?_⟩
  refine Upd.ite ?_ ?_
  · extract_lets +onlyGivenNames -underBinder -merge -useContext x1
    try clear_value x1
    extract_lets +onlyGivenNames -underBinder -merge -useContext x2
    refine Upd.cut (t := x2) ?_ (fun h2 => ?_)
    · unfold x2
      refine Upd.step ?_ (State.modPwr_upd ..) rfl
      refine Upd.step ?_ (State.domLoss_upd ..) rfl
      exact Upd.refl _ _
    clear_value x2
    extract_lets +onlyGivenNames -underBinder -merge -useContext x3
    refine Upd.cut (t := x3) ?_ (fun h3 => ?_)
    · unfold x3
      refine Upd.raise ?_ rfl
      refine Upd.setFld ?_ rfl
      refine Upd.setFld ?_ rfl
      exact h2
    clear_value x3
    refine Upd.ite ?_ ?_
    · extract_lets +onlyGivenNames -underBinder -merge -useContext x4
      refine Upd.cut (t := x4) ?_ (fun h4 => ?_)
      · unfold x4
        refine Upd.step ?_ (State.railsEval_upd ..) rfl
        refine Upd.raise ?_ rfl
        refine Upd.setFld ?_ rfl
        refine Upd.step ?_ (State.setDom_upd ..) rfl
        exact h3
      clear_value x4
      refine Upd.step ?_ (State.bootGo_upd ..) rfl
      refine Upd.when ?_ (fun x5 h5 => ?_)
      · exact h4
      · refine Upd.step ?_ (State.domRes_upd ..) rfl
        exact h5
    · refine Upd.step ?_ (State.setDom_upd ..) rfl
      exact h3
  · exact Upd.refl _ _

theorem execWakeRetry_upd (a1 : ℕ) (s : State) :
    ∃ t, execWakeRetry a1 s = .next t ∧ Upd 0x100000000000000000000000000000000000000000000000000000000000000000000000000000000000000000000000000000000000000000000000000000000000000000000000000000020000000 s t := by
  unfold execWakeRetry
  refine ⟨_, rfl, ?_⟩
  refine Upd.ite ?_ ?_
  · refine Upd.step ?_ (State.wakeTry_upd ..) rfl
    refine Upd.setFld ?_ rfl
    exact Upd.refl _ _
  · exact Upd.refl _ _

theorem execTwiAddressMatch_upd (a1 : ℕ) (s : State) :
    ∃ t, execTwiAddressMatch a1 s = .next t ∧ Upd 0x100000010000000000000000000000000000000000000000000000000000000000000000000000000000000000000000000000000000000000000000000000000000000000000000000000020800000 s t := by
  unfold execTwiAddressMatch
  refine ⟨_, rfl, ?_⟩
  refine Upd.ite ?_ ?_
  · refine Upd.when ?_ (fun x1 h1 => ?_)
    · refine Upd.step ?_ (State.wakeSource_upd ..) rfl
      exact Upd.refl _ _
    · refine Upd.step ?_ (State.modFab_upd ..) rfl
      exact h1
  · exact Upd.refl _ _

theorem execTwiAon_upd (s : State) :
    ∃ t, execTwiAon s = .next t ∧ Upd 0x10000000000000000000000000000000000000000000000000000000000000000000000000000000000000000000000000000000000000000000000000000000000000000000400000000000 s t := by
  unfold execTwiAon
  refine ⟨_, rfl, ?_⟩
  refine Upd.ite ?_ ?_
  · refine Upd.raise ?_ rfl
    refine Upd.step ?_ (State.modFab_upd ..) rfl
    exact Upd.refl _ _
  · exact Upd.refl _ _

theorem execWakeN_upd (s : State) :
    ∃ t, execWakeN s = .next t ∧ Upd 0x100000000000000000000000000000000000000000000000000000000000000000000000000000000000000000000000000000000000000000000000000000000000000000000000000000020800000 s t := by
  unfold execWakeN
  refine ⟨_, rfl, ?_⟩
  refine Upd.step ?_ (State.wakeSource_upd ..) rfl
  exact Upd.refl _ _

theorem execAonTimer_upd (s : State) :
    ∃ t, execAonTimer s = .next t ∧ Upd 0x100000000000000000000000000000000000000000000000000000000000000000000000000000000000000000000000000000000000000000000000000000000000000000000000000500020800000 s t := by
  unfold execAonTimer
  refine ⟨_, rfl, ?_⟩
  refine Upd.ite ?_ ?_
  · refine Upd.step ?_ (State.wakeSource_upd ..) rfl
    refine Upd.raise ?_ rfl
    refine Upd.setFld ?_ rfl
    exact Upd.refl _ _
  · exact Upd.refl _ _

theorem State.padWrite_upd (a1 : W32) (s : State) :
    Upd 0x1000000 s (State.padWrite a1 s) := by
  unfold State.padWrite
  refine Upd.each ?_ (fun n1 x1 h1 => ?_) _
  · exact Upd.refl _ _
  · split
    · refine Upd.ite ?_ ?_
      · refine Upd.setFld ?_ (by first | rfl | (split <;> rfl) | (unfold enterEvt; split <;> rfl) | (unfold pendFld; split <;> rfl) | (rw [padFld_reg (by assumption)]; rfl) | (unfold phWord; rcases a2 with _ | _ | _ | _ | _ | a2 <;> rfl) | exact RegId.all_bit rfl _)
        exact h1
      · exact h1
    · exact h1

theorem execPadHold_upd (a1 : Master) (a2 : W32) (s : State) :
    ∃ t, execPadHold a1 a2 s = .next t ∧ Upd 0x20000000200007000000000000000000000060000081b805000000000000000000000000000000000000000000000000000000000000000000000000000000000000000000000000000000000000007203400 s t := by
  unfold execPadHold
  refine ⟨_, rfl, ?_⟩
  refine Upd.guardW ?_ (fun x1 h1 => ?_) rfl
  · exact Upd.refl _ _
  · refine Upd.step ?_ (State.padWrite_upd ..) rfl
    exact h1

end Sys2Proof.Machine
end

