-- ==== Sys2Proof/Laws/FootResets.lean ====
section
/-! SUPPORT. The footprints of the operations of Machine/Resets.lean: what each may change. -/

set_option linter.unreachableTactic false
set_option linter.unusedTactic false
set_option linter.unusedVariables false

namespace Sys2Proof.Machine

theorem State.rstShow_upd (s : State) :
    Upd 0x100000000 s (State.rstShow s) := by
  unfold State.rstShow
  refine Upd.wrN ?_ rfl
  exact Upd.refl _ _

theorem State.rstRecord_upd (a1 : ℕ) (s : State) :
    Upd 0xc0000000 s (State.rstRecord a1 s) := by
  unfold State.rstRecord
  extract_lets +onlyGivenNames -underBinder -merge -useContext x1
  try clear_value x1
  extract_lets +onlyGivenNames -underBinder -merge -useContext x2
  try clear_value x2
  extract_lets +onlyGivenNames -underBinder -merge -useContext x3
  refine Upd.cut (t := x3) ?_ (fun h3 => ?_)
  · unfold x3
    refine Upd.wr ?_ rfl
    exact Upd.refl _ _
  clear_value x3
  refine Upd.wr ?_ rfl
  exact h3

theorem State.chipReset_upd (a1 : Bool) (a2 : ℕ) (s : State) :
    Upd 0xf73dfffffffffe0000000007ffffffffffffffffffffffffffffffffffffffffffffffffffffffffffffffffffffffffffffffffffffffffffffffffffffffffffffffffffffffffffffffffffffffffffff s (State.chipReset a1 a2 s) := by
  unfold State.chipReset
  constructor
  case reg => exact fun k hk => bit_clash (RegId.all_bit rfl k.id) hk
  case inv =>
    intro hi
    refine ⟨?_, hi.2.1, rfl, rfl⟩
    cases a1
    · rfl
    · exact State.regsOk_filter _ hi.1
  case pending => rfl
  all_goals first | exact fun _ => rfl | exact bit_clash rfl

theorem State.abandon_upd (a1 : ℕ) (s : State) :
    Upd 0x2761db3ffffff6e0000000007ffffffffffffffffffffffffffffffffffffffffffffffffffffffffffffffffffffffffffffffffffffffffffffffffffffffffffffffffffffffffffffffffffffffffffff s (State.abandon a1 s) := by
  unfold State.abandon
  extract_lets +onlyGivenNames -underBinder -merge -useContext x1
  unfold x1
  beta_reduce
  clear x1
  split
  · refine Upd.step ?_ (State.modPwr_upd ..) rfl
    refine Upd.setFld ?_ rfl
    refine Upd.step ?_ (State.domRes_upd ..) rfl
    refine Upd.setFld ?_ rfl
    refine Upd.step ?_ (State.setDom_upd ..) rfl
    exact Upd.refl _ _
  · refine Upd.step ?_ (State.railsEval_upd ..) rfl
    refine Upd.step ?_ (State.modPwr_upd ..) rfl
    refine Upd.setFld ?_ rfl
    refine Upd.step ?_ (State.domRes_upd ..) rfl
    refine Upd.setFld ?_ rfl
    refine Upd.step ?_ (State.setDom_upd ..) rfl
    refine Upd.step ?_ (State.domLoss_upd ..) rfl
    exact Upd.refl _ _
  · refine Upd.step ?_ (State.railsEval_upd ..) rfl
    refine Upd.step ?_ (State.modPwr_upd ..) rfl
    refine Upd.setFld ?_ rfl
    refine Upd.step ?_ (State.domRes_upd ..) rfl
    refine Upd.setFld ?_ rfl
    refine Upd.step ?_ (State.setDom_upd ..) rfl
    refine Upd.step ?_ (State.domLoss_upd ..) rfl
    exact Upd.refl _ _
  · refine Upd.step ?_ (State.railsEval_upd ..) rfl
    refine Upd.step ?_ (State.modPwr_upd ..) rfl
    refine Upd.setFld ?_ rfl
    refine Upd.step ?_ (State.domRes_upd ..) rfl
    refine Upd.setFld ?_ rfl
    refine Upd.step ?_ (State.setDom_upd ..) rfl
    refine Upd.step ?_ (State.domLoss_upd ..) rfl
    exact Upd.refl _ _
  · exact Upd.refl _ _

theorem State.cfgClear_upd (a1 : List ℕ) (s : State) :
    Upd 0x200 s (State.cfgClear a1 s) := by
  unfold State.cfgClear
  refine Upd.wr ?_ rfl
  exact Upd.refl _ _

theorem State.leakBack_upd (s : State) :
    Upd 0x10000000000000000000000000000000000000000000000000000000000000000000000000000000000000500000000000000000000000000000000000000000000000000000000000000000000 s (State.leakBack s) := by
  unfold State.leakBack
  refine Upd.step ?_ (State.retSettle_upd ..) rfl
  refine Upd.wr ?_ rfl
  refine Upd.step ?_ (State.modHay_upd ..) rfl
  exact Upd.refl _ _

theorem State.domReset_upd (a1 : ℕ) (s : State) :
    Upd 0x2761db2ffffff6e0000000007ffffffffffffffffffffffffffffffffffffffffffffffffffffffffffffffffffffffffffffffffffffffffffffffffffffffffffffffffffffffffffffffffffffffffffff s (State.domReset a1 s) := by
  unfold State.domReset
  refine Upd.ite ?_ ?_
  · refine Upd.step ?_ (State.retSettle_upd ..) rfl
    refine Upd.step ?_ (State.hayFuse_upd ..) rfl
    refine Upd.step ?_ (State.hayReset_upd ..) rfl
    exact Upd.refl _ _
  · refine Upd.when ?_ (fun x1 h1 => ?_)
    · refine Upd.step ?_ (State.domLoss_upd ..) rfl
      exact Upd.refl _ _
    · refine Upd.step ?_ (State.leakBack_upd ..) rfl
      exact h1

theorem State.coreReset_upd (s : State) :
    Upd 0x2761db3ffffff6e0000000007ffffffffffffffffffffffffffffffffffffffffffffffffffffffffffffffffffffffffffffffffffffffffffffffffffffffffffffffffffffffffffffffffffffffffffff s (State.coreReset s) := by
  unfold State.coreReset
  extract_lets +onlyGivenNames -underBinder -merge -useContext x1
  refine Upd.cut (t := x1) ?_ (fun h1 => ?_)
  · unfold x1
    refine Upd.each ?_ (fun n2 x2 h2 => ?_) _
    · exact Upd.refl _ _
    · refine Upd.step ?_ (State.abandon_upd ..) rfl
      exact h2
  clear_value x1
  extract_lets +onlyGivenNames -underBinder -merge -useContext x3
  try clear_value x3
  extract_lets +onlyGivenNames -underBinder -merge -useContext x4
  refine Upd.cut (t := x4) ?_ (fun h4 => ?_)
  · unfold x4
    refine Upd.step ?_ (State.modPmk_upd ..) rfl
    refine Upd.each ?_ (fun n5 x5 h5 => ?_) _
    · exact h1
    · refine Upd.bump ?_ rfl
      exact h5
  clear_value x4
  extract_lets +onlyGivenNames -underBinder -merge -useContext x6
  refine Upd.cut (t := x6) ?_ (fun h6 => ?_)
  · unfold x6
    refine Upd.each ?_ (fun n7 x7 h7 => ?_) _
    · exact h4
    · refine Upd.when ?_ (fun x8 h8 => ?_)
      · exact h7
      · refine Upd.step ?_ (State.domReset_upd ..) rfl
        exact h8
  clear_value x6
  refine Upd.step ?_ (State.evalAll_upd ..) rfl
  refine Upd.step ?_ (State.cfgClear_upd ..) rfl
  exact h6

theorem State.domainReset_upd (a1 : ℕ) (s : State) :
    Upd 0x2763db2ffffff6e0000000007ffffffffffffffffffffffffffffffffffffffffffffffffffffffffffffffffffffffffffffffffffffffffffffffffffffffffffffffffffffffffffffffffffffffffffff s (State.domainReset a1 s) := by
  unfold State.domainReset
  extract_lets +onlyGivenNames -underBinder -merge -useContext x1
  try clear_value x1
  extract_lets +onlyGivenNames -underBinder -merge -useContext x2
  refine Upd.cut (t := x2) ?_ (fun h2 => ?_)
  · unfold x2
    refine Upd.step ?_ (State.cfgClear_upd ..) rfl
    refine Upd.step ?_ (State.domReset_upd ..) rfl
    exact Upd.refl _ _
  clear_value x2
  refine Upd.step ?_ (State.evalAll_upd ..) rfl
  refine Upd.when ?_ (fun x3 h3 => ?_)
  · exact h2
  · refine Upd.step ?_ (State.modBoot_upd ..) rfl
    exact h3

theorem State.kindLoss_upd (a1 : Page) (a2 : ℕ) (s : State) :
    Upd 0x236191efe85ff0e0000000007ffffffffffffffffffffffffffffffffffffffffffffffffffffffffffffffffffffffffffffffffffffffffffffffffffffffffffffffffffffffffffffffffffffffffffff s (State.kindLoss a1 a2 s) := by
  unfold State.kindLoss
  split
  · refine Upd.step ?_ (State.calAbandon_upd ..) rfl
    refine Upd.step ?_ (State.modCar_upd ..) rfl
    exact Upd.refl _ _
  · refine Upd.step ?_ (State.modSc_upd ..) rfl
    exact Upd.refl _ _
  · refine Upd.step ?_ (State.modSc_upd ..) rfl
    exact Upd.refl _ _
  · refine Upd.step ?_ (State.modCar_upd ..) rfl
    exact Upd.refl _ _
  · refine Upd.step ?_ (State.retSettle_upd ..) rfl
    refine Upd.set_grps_delin ?_ rfl rfl
    exact Upd.refl _ _
  · refine Upd.set_ports ?_ rfl
    exact Upd.refl _ _
  · refine Upd.step ?_ (State.retSettle_upd ..) rfl
    refine Upd.set_flows ?_ rfl
    exact Upd.refl _ _
  · refine Upd.step ?_ (State.retSettle_upd ..) rfl
    refine Upd.step ?_ (State.hayFuse_upd ..) rfl
    refine Upd.step ?_ (State.hayReset_upd ..) rfl
    exact Upd.refl _ _
  · refine Upd.step ?_ (State.modCip_upd ..) rfl
    refine Upd.step ?_ (State.msgsLost_upd ..) rfl
    exact Upd.refl _ _
  · refine Upd.step ?_ (State.modCip_upd ..) rfl
    exact Upd.refl _ _
  · refine Upd.set_retryLane_prbsAcc_prbsInj ?_ rfl rfl rfl
    exact Upd.refl _ _
  · refine Upd.set_prbsAcc_prbsInj_yardTx ?_ rfl rfl rfl
    exact Upd.refl _ _
  · refine Upd.set_links ?_ rfl
    exact Upd.refl _ _
  · refine Upd.step ?_ (State.stbStop_upd ..) rfl
    exact Upd.refl _ _
  · refine Upd.step ?_ (State.pmkClear_upd ..) rfl
    exact Upd.refl _ _
  · refine Upd.set_monSnap_monFree_monAt ?_ rfl rfl rfl
    exact Upd.refl _ _
  · refine Upd.set_mon ?_ rfl
    exact Upd.refl _ _
  · refine Upd.set_bins ?_ rfl
    exact Upd.refl _ _
  · refine Upd.set_pccFifo ?_ rfl
    exact Upd.refl _ _
  · refine Upd.set_pccTx ?_ rfl
    exact Upd.refl _ _
  · refine Upd.set_pccRx ?_ rfl
    exact Upd.refl _ _
  · refine Upd.step ?_ (State.modCal_upd ..) rfl
    exact Upd.refl _ _
  · refine Upd.step ?_ (State.modBst_upd ..) rfl
    refine Upd.step ?_ (State.bstAbort_upd ..) rfl
    exact Upd.refl _ _
  · refine Upd.set_winEnd_injAt ?_ rfl rfl
    exact Upd.refl _ _
  · refine Upd.set_auth_lbCmd ?_ rfl rfl
    exact Upd.refl _ _
  · exact Upd.refl _ _

theorem State.scxLost_upd (a1 : ℕ) (s : State) :
    Upd 0x20000000005e40e00000000000000000000000000001b80500000000000000000000000000000000000008000000040010006600000800211300005500800001800010918b200040000000000000000000000 s (State.scxLost a1 s) := by
  unfold State.scxLost
  refine Upd.upto ?_ (fun n1 x1 h1 => ?_) _
  · exact Upd.refl _ _
  · refine Upd.when ?_ (fun x2 h2 => ?_)
    · exact h1
    · refine Upd.losing ?_ (fun x3 h3 => ?_) rfl
      · exact h2
      · refine Upd.step ?_ (State.scTo_upd ..) rfl
        exact h3

theorem State.blockReset_upd (a1 : ℕ) (s : State) :
    Upd 0x236191efe85ff0e0000000007ffffffffffffffffffffffffffffffffffffffffffffffffffffffffffffffffffffffffffffffffffffffffffffffffffffffffffffffffffffffffffffffffffffffffffff s (State.blockReset a1 s) := by
  unfold State.blockReset
  extract_lets +onlyGivenNames -underBinder -merge -useContext x1
  refine Upd.cut (t := x1) ?_ (fun h1 => ?_)
  · unfold x1
    refine Upd.step ?_ (State.scxLost_upd ..) rfl
    exact Upd.refl _ _
  clear_value x1
  extract_lets +onlyGivenNames -underBinder -merge -useContext x2
  refine Upd.cut (t := x2) ?_ (fun h2 => ?_)
  · unfold x2
    refine Upd.each ?_ (fun n3 x3 h3 => ?_) _
    · exact h1
    · refine Upd.each ?_ (fun n4 x4 h4 => ?_) _
      · exact h3
      · refine Upd.step ?_ (State.kindLoss_upd ..) rfl
        exact h4
  clear_value x2
  extract_lets +onlyGivenNames -underBinder -merge -useContext x5
  refine Upd.cut (t := x5) ?_ (fun h5 => ?_)
  · unfold x5
    refine Upd.step ?_ (State.dropRegs_upd ..) rfl
    exact h2
  clear_value x5
  extract_lets +onlyGivenNames -underBinder -merge -useContext x6
  refine Upd.cut (t := x6) ?_ (fun h6 => ?_)
  · unfold x6
    refine Upd.upto ?_ (fun n7 x7 h7 => ?_) _
    · exact h5
    · refine Upd.when ?_ (fun x8 h8 => ?_)
      · exact h7
      · refine Upd.step ?_ (State.sparesShow_upd ..) rfl
        exact h8
  clear_value x6
  refine Upd.step ?_ (State.evalAll_upd ..) rfl
  refine Upd.when ?_ (fun x9 h9 => ?_)
  · exact h6
  · refine Upd.step ?_ (State.hayFuse_upd ..) rfl
    exact h9

theorem State.pageRise_upd (a1 : ℕ) (s : State) :
    Upd 0x20000028881a40400000000000000000000000000001b805000000000000000000002000200000000401800000000000100066000008000113000040000000000000109000200000020010008000000000000 s (State.pageRise a1 s) := by
  unfold State.pageRise
  extract_lets +onlyGivenNames -underBinder -merge -useContext x1
  refine Upd.cut (t := x1) ?_ (fun h1 => ?_)
  · unfold x1
    refine Upd.upto ?_ (fun n2 x2 h2 => ?_) _
    · exact Upd.refl _ _
    · refine Upd.when ?_ (fun x3 h3 => ?_)
      · exact h2
      · refine Upd.step ?_ (State.scRise_upd ..) rfl
        exact h3
  clear_value x1
  extract_lets +onlyGivenNames -underBinder -merge -useContext x4
  refine Upd.cut (t := x4) ?_ (fun h4 => ?_)
  · unfold x4
    refine Upd.upto ?_ (fun n5 x5 h5 => ?_) _
    · exact h1
    · refine Upd.when ?_ (fun x6 h6 => ?_)
      · exact h5
      · refine Upd.step ?_ (State.lanesEval_upd ..) rfl
        exact h6
  clear_value x4
  extract_lets +onlyGivenNames -underBinder -merge -useContext x7
  refine Upd.cut (t := x7) ?_ (fun h7 => ?_)
  · unfold x7
    refine Upd.upto ?_ (fun n8 x8 h8 => ?_) _
    · exact h4
    · refine Upd.when ?_ (fun x9 h9 => ?_)
      · exact h8
      · refine Upd.step ?_ (State.pairRestart_upd ..) rfl
        refine Upd.step ?_ (State.slotTake_upd ..) rfl
        exact h9
  clear_value x7
  refine Upd.when ?_ (fun x10 h10 => ?_)
  · exact h7
  · refine Upd.step ?_ (State.stbStart_upd ..) rfl
    exact h10

theorem State.assertNow_upd (a1 : Asserted) (s : State) :
    Upd 0x2f77dfffffffffe0000000007ffffffffffffffffffffffffffffffffffffffffffffffffffffffffffffffffffffffffffffffffffffffffffffffffffffffffffffffffffffffffffffffffffffffffffff s (State.assertNow a1 s) := by
  unfold State.assertNow
  extract_lets +onlyGivenNames -underBinder -merge -useContext x1
  refine Upd.cut (t := x1) ?_ (fun h1 => ?_)
  · unfold x1
    refine Upd.step ?_ (State.rstRecord_upd ..) rfl
    exact Upd.refl _ _
  clear_value x1
  refine Upd.ite ?_ ?_
  · exact h1
  · extract_lets +onlyGivenNames -underBinder -merge -useContext x2
    try clear_value x2
    extract_lets +onlyGivenNames -underBinder -merge -useContext x3
    refine Upd.cut (t := x3) ?_ (fun h3 => ?_)
    · unfold x3
      refine Upd.set_asserted_seqLevel ?_ rfl rfl
      exact h1
    clear_value x3
    extract_lets +onlyGivenNames -underBinder -merge -useContext x4
    refine Upd.cut (t := x4) ?_ (fun h4 => ?_)
    · unfold x4
      split
      · refine Upd.step ?_ (State.rstRecord_upd ..) rfl
        refine Upd.step ?_ (State.chipReset_upd ..) rfl
        exact h3
      · refine Upd.step ?_ (State.chipReset_upd ..) rfl
        exact h3
      · refine Upd.step ?_ (State.coreReset_upd ..) rfl
        exact h3
      · refine Upd.step ?_ (State.domainReset_upd ..) rfl
        refine Upd.when ?_ (fun x5 h5 => ?_)
        · exact h3
        · refine Upd.step ?_ (State.bstAbort_upd ..) rfl
          exact h5
      · refine Upd.step ?_ (State.blockReset_upd ..) rfl
        exact h3
    clear_value x4
    refine Upd.step ?_ (State.rstShow_upd ..) rfl
    exact h4

theorem State.assertAsked_upd (a1 : Asserted) (s : State) :
    Upd 0x2f77dfffffffffe0000000007ffffffffffffffffffffffffffffffffffffffffffffffffffffffffffffffffffffffffffffffffffffffffffffffffffffffffffffffffffffffffffffffffffffffffffff s (State.assertAsked a1 s) := by
  unfold State.assertAsked
  refine Upd.ite ?_ ?_
  · extract_lets +onlyGivenNames -underBinder -merge -useContext x1
    refine Upd.cut (t := x1) ?_ (fun h1 => ?_)
    · unfold x1
      refine Upd.step ?_ (State.testSaved_upd ..) rfl
      exact Upd.refl _ _
    clear_value x1
    extract_lets +onlyGivenNames -underBinder -merge -useContext x2
    try clear_value x2
    refine Upd.each ?_ (fun n3 x3 h3 => ?_) _
    · exact h1
    · refine Upd.step ?_ (State.assertNow_upd ..) rfl
      exact h3
  · refine Upd.step ?_ (State.assertNow_upd ..) rfl
    exact Upd.refl _ _

theorem State.srcBegin_upd (a1 : ℕ) (a2 : ℕ) (a3 : ℕ) (a4 : Bool) (s : State) :
    Upd 0x2f77dfffffffffe0000000007ffffffffffffffffffffffffffffffffffffffffffffffffffffffffffffffffffffffffffffffffffffffffffffffffffffffffffffffffffffffffffffffffffffffffffff s (State.srcBegin a1 a2 a3 a4 s) := by
  unfold State.srcBegin
  split
  · refine Upd.wr ?_ rfl
    exact Upd.refl _ _
  · extract_lets +onlyGivenNames -underBinder -merge -useContext x1
    try clear_value x1
    refine Upd.ite ?_ ?_
    · refine Upd.step ?_ (State.evalAll_upd ..) rfl
      refine Upd.set_asserted ?_ rfl
      exact Upd.refl _ _
    · refine Upd.step ?_ (State.assertNow_upd ..) rfl
      exact Upd.refl _ _

theorem State.domRise_upd (a1 : ℕ) (s : State) :
    Upd 0x20828c2fc85fd1e00000000000000000001800002061b8050000003000092003018024002000020004018800000004001001e60000080021130000550080000180001091ef20ce40020010008222011104300 s (State.domRise a1 s) := by
  unfold State.domRise
  refine Upd.ite ?_ ?_
  · refine Upd.step ?_ (State.domUp_upd ..) rfl
    exact Upd.refl _ _
  · exact Upd.refl _ _

theorem State.seqRun_upd (s : State) :
    Upd 0x20868c3fc85fd1e00000000000000000001800002061b8050000003000092003018024002000020004018800000004001001e60000080021130000550080000180001091ef20ce40020010008222031104300 s (State.seqRun s) := by
  unfold State.seqRun
  extract_lets +onlyGivenNames -underBinder -merge -useContext x1
  try clear_value x1
  extract_lets +onlyGivenNames -underBinder -merge -useContext x2
  refine Upd.cut (t := x2) ?_ (fun h2 => ?_)
  · unfold x2
    refine Upd.set_seqLevel ?_ rfl
    exact Upd.refl _ _
  clear_value x2
  refine Upd.ite ?_ ?_
  · refine Upd.each ?_ (fun n3 x3 h3 => ?_) _
    · refine Upd.step ?_ (State.modBoot_upd ..) rfl
      exact h2
    · refine Upd.step ?_ (State.domRise_upd ..) rfl
      exact h3
  · refine Upd.step ?_ (State.mgmtStart_upd ..) rfl
    exact h2

theorem State.lcBurn_upd (s : State) :
    Upd 0x820000800001000000000000000000000000000000000000000000000000000000000000000000000000000000000000000000000000000000000000000000000000000000000000000000000000000000 s (State.lcBurn s) := by
  unfold State.lcBurn
  split
  · exact Upd.refl _ _
  · refine Upd.ite ?_ ?_
    · rename_i l _
      have h : Upd 0x820000800001000000000000000000000000000000000000000000000000000000000000000000000000000000000000000000000000000000000000000000000000000000000000000000000000000000 s { s with fuse := { s.fuse with lc := l }, lcMove := none } :=
        Upd.set_fuse_lcMove (Upd.refl _ _) rfl rfl
      exact { h with
        reg := h.reg
        inv := fun hi => let ⟨a, b, c, d⟩ := h.inv hi; ⟨a, Memory.wf_filter b _, c, d⟩
        stb := bit_clash (i := 623) rfl
        tack := bit_clash (i := 641) rfl }
    · exact Upd.set_fuse_lcMove (Upd.refl _ _) rfl rfl

theorem State.srcRelease_upd (a1 : Asserted → Bool) (s : State) :
    Upd 0x20868c3fc85ff1e00000000000000000001800002061b8050000003000092003018024002000020004018800000004001001e60000080021130000550080000180001091ef20ce40020010008226131104300 s (State.srcRelease a1 s) := by
  unfold State.srcRelease
  extract_lets +onlyGivenNames -underBinder -merge -useContext x1
  try clear_value x1
  refine Upd.ite ?_ ?_
  · exact Upd.refl _ _
  · extract_lets +onlyGivenNames -underBinder -merge -useContext x2
    refine Upd.cut (t := x2) ?_ (fun h2 => ?_)
    · unfold x2
      refine Upd.step ?_ (State.rstShow_upd ..) rfl
      refine Upd.set_asserted ?_ rfl
      exact Upd.refl _ _
    clear_value x2
    extract_lets +onlyGivenNames -underBinder -merge -useContext x3
    try clear_value x3
    extract_lets +onlyGivenNames -underBinder -merge -useContext x4
    refine Upd.cut (t := x4) ?_ (fun h4 => ?_)
    · unfold x4
      refine Upd.when ?_ (fun x5 h5 => ?_)
      · exact h2
      · refine Upd.step ?_ (State.seqRun_upd ..) rfl
        exact h5
    clear_value x4
    extract_lets +onlyGivenNames -underBinder -merge -useContext x6
    refine Upd.cut (t := x6) ?_ (fun h6 => ?_)
    · unfold x6
      refine Upd.each ?_ (fun n7 x7 h7 => ?_) _
      · exact h4
      · refine Upd.step ?_ (State.domRise_upd ..) rfl
        exact h7
    clear_value x6
    extract_lets +onlyGivenNames -underBinder -merge -useContext x8
    refine Upd.cut (t := x8) ?_ (fun h8 => ?_)
    · unfold x8
      refine Upd.each ?_ (fun n9 x9 h9 => ?_) _
      · exact h6
      · refine Upd.step ?_ (State.pageRise_upd ..) rfl
        exact h9
    clear_value x8
    extract_lets +onlyGivenNames -underBinder -merge -useContext x10
    refine Upd.cut (t := x10) ?_ (fun h10 => ?_)
    · unfold x10
      refine Upd.step ?_ (State.evalAll_upd ..) rfl
      exact h8
    clear_value x10
    refine Upd.when ?_ (fun x11 h11 => ?_)
    · exact h10
    · refine Upd.raise ?_ rfl
      exact h11

theorem execPgFall_upd (a1 : ℕ) (s : State) :
    ∃ t, execPgFall a1 s = .next t ∧ Upd 0x2f77dfffffffffe0000000007ffffffffffffffffffffffffffffffffffffffffffffffffffffffffffffffffffffffffffffffffffffffffffffffffffffffffffffffffffffffffffffffffffffffffffff s t := by
  unfold execPgFall
  refine ⟨_, rfl, ?_⟩
  refine Upd.ite ?_ ?_
  · refine Upd.when ?_ (fun x1 h1 => ?_)
    · exact Upd.refl _ _
    · refine Upd.step ?_ (State.srcBegin_upd ..) rfl
      exact h1
  · refine Upd.ite ?_ ?_
    · extract_lets +onlyGivenNames -underBinder -merge -useContext x2
      try clear_value x2
      extract_lets +onlyGivenNames -underBinder -merge -useContext x3
      refine Upd.cut (t := x3) ?_ (fun h3 => ?_)
      · unfold x3
        refine Upd.step ?_ (State.modPwr_upd ..) rfl
        exact Upd.refl _ _
      clear_value x3
      refine Upd.ite ?_ ?_
      · exact h3
      · refine Upd.ite ?_ ?_
        · refine Upd.step ?_ (State.srcBegin_upd ..) rfl
          exact h3
        · refine Upd.ite ?_ ?_
          · refine Upd.each ?_ (fun n4 x4 h4 => ?_) _
            · exact h3
            · refine Upd.step ?_ (State.srcBegin_upd ..) rfl
              exact h4
          · refine Upd.step ?_ (State.srcBegin_upd ..) rfl
            exact h3
    · exact Upd.refl _ _

theorem execResetAssert_upd (a1 : ℕ) (a2 : ℕ) (a3 : ℕ) (s : State) :
    ∃ t, execResetAssert a1 a2 a3 s = .next t ∧ Upd 0x2f77dfffffffffe0000000007ffffffffffffffffffffffffffffffffffffffffffffffffffffffffffffffffffffffffffffffffffffffffffffffffffffffffffffffffffffffffffffffffffffffffffff s t := by
  unfold execResetAssert
  refine ⟨_, rfl, ?_⟩
  split
  · refine Upd.ite ?_ ?_
    · refine Upd.step ?_ (State.assertAsked_upd ..) rfl
      exact Upd.refl _ _
    · exact Upd.refl _ _
  · refine Upd.ite ?_ ?_
    · refine Upd.step ?_ (State.srcBegin_upd ..) rfl
      exact Upd.refl _ _
    · exact Upd.refl _ _

theorem execIdleTimeout_upd (a1 : ℕ) (s : State) :
    ∃ t, execIdleTimeout a1 s = .next t ∧ Upd 0x2f77dfffffffffe0000000007ffffffffffffffffffffffffffffffffffffffffffffffffffffffffffffffffffffffffffffffffffffffffffffffffffffffffffffffffffffffffffffffffffffffffffff s t := by
  unfold execIdleTimeout
  refine ⟨_, rfl, ?_⟩
  split
  · refine Upd.step ?_ (State.assertAsked_upd ..) rfl
    refine Upd.setFld ?_ rfl
    refine Upd.setFld ?_ rfl
    refine Upd.raise ?_ rfl
    exact Upd.refl _ _
  · exact Upd.refl _ _

theorem execResetRelease_upd (a1 : ℕ) (s : State) :
    ∃ t, execResetRelease a1 s = .next t ∧ Upd 0x208eac3fc85ff1f00000000000000000001800002061b8050000003000092003018024002000020004018800000004001001e60000080021130000550080000180001091ef20ce40020010008226131104300 s t := by
  unfold execResetRelease
  refine ⟨_, rfl, ?_⟩
  refine Upd.ite ?_ ?_
  · exact Upd.refl _ _
  · extract_lets +onlyGivenNames -underBinder -merge -useContext x1
    refine Upd.cut (t := x1) ?_ (fun h1 => ?_)
    · unfold x1
      refine Upd.when ?_ (fun x2 h2 => ?_)
      · exact Upd.refl _ _
      · refine Upd.step ?_ (State.modPwr_upd ..) rfl
        exact h2
    clear_value x1
    extract_lets +onlyGivenNames -underBinder -merge -useContext x3
    refine Upd.cut (t := x3) ?_ (fun h3 => ?_)
    · unfold x3
      refine Upd.when ?_ (fun x4 h4 => ?_)
      · exact h1
      · refine Upd.step ?_ (State.lcBurn_upd ..) rfl
        exact h4
    clear_value x3
    refine Upd.step ?_ (State.srcRelease_upd ..) rfl
    exact h3

theorem State.swWrite_upd (a1 : W32) (s : State) :
    Upd 0x2ff7dfffffffffe0000000007ffffffffffffffffffffffffffffffffffffffffffffffffffffffffffffffffffffffffffffffffffffffffffffffffffffffffffffffffffffffffffffffffffffffffffff s (State.swWrite a1 s) := by
  unfold State.swWrite
  extract_lets +onlyGivenNames -underBinder -merge -useContext x1
  try clear_value x1
  extract_lets +onlyGivenNames -underBinder -merge -useContext x2
  try clear_value x2
  extract_lets +onlyGivenNames -underBinder -merge -useContext x3
  try clear_value x3
  extract_lets +onlyGivenNames -underBinder -merge -useContext x4
  unfold x4
  beta_reduce
  clear x4
  split
  · refine Upd.ite ?_ ?_
    · refine Upd.raise ?_ (by first | rfl | (split <;> rfl) | (unfold enterEvt; split <;> rfl) | (unfold pendFld; split <;> rfl) | (rw [padFld_reg (by assumption)]; rfl) | (unfold phWord; rcases a2 with _ | _ | _ | _ | _ | a2 <;> rfl) | exact RegId.all_bit rfl _)
      exact Upd.refl _ _
    · refine Upd.step ?_ (State.srcBegin_upd ..) (by first | rfl | (split <;> rfl) | (unfold enterEvt; split <;> rfl) | (unfold pendFld; split <;> rfl) | (rw [padFld_reg (by assumption)]; rfl) | (unfold phWord; rcases a2 with _ | _ | _ | _ | _ | a2 <;> rfl) | exact RegId.all_bit rfl _)
      exact Upd.refl _ _
  · refine Upd.ite ?_ ?_
    · refine Upd.raise ?_ (by first | rfl | (split <;> rfl) | (unfold enterEvt; split <;> rfl) | (unfold pendFld; split <;> rfl) | (rw [padFld_reg (by assumption)]; rfl) | (unfold phWord; rcases a2 with _ | _ | _ | _ | _ | a2 <;> rfl) | exact RegId.all_bit rfl _)
      exact Upd.refl _ _
    · refine Upd.step ?_ (State.srcBegin_upd ..) (by first | rfl | (split <;> rfl) | (unfold enterEvt; split <;> rfl) | (unfold pendFld; split <;> rfl) | (rw [padFld_reg (by assumption)]; rfl) | (unfold phWord; rcases a2 with _ | _ | _ | _ | _ | a2 <;> rfl) | exact RegId.all_bit rfl _)
      exact Upd.refl _ _
  · refine Upd.ite ?_ ?_
    · refine Upd.raise ?_ (by first | rfl | (split <;> rfl) | (unfold enterEvt; split <;> rfl) | (unfold pendFld; split <;> rfl) | (rw [padFld_reg (by assumption)]; rfl) | (unfold phWord; rcases a2 with _ | _ | _ | _ | _ | a2 <;> rfl) | exact RegId.all_bit rfl _)
      exact Upd.refl _ _
    · refine Upd.step ?_ (State.srcBegin_upd ..) (by first | rfl | (split <;> rfl) | (unfold enterEvt; split <;> rfl) | (unfold pendFld; split <;> rfl) | (rw [padFld_reg (by assumption)]; rfl) | (unfold phWord; rcases a2 with _ | _ | _ | _ | _ | a2 <;> rfl) | exact RegId.all_bit rfl _)
      exact Upd.refl _ _
  · refine Upd.ite ?_ ?_
    · refine Upd.raise ?_ (by first | rfl | (split <;> rfl) | (unfold enterEvt; split <;> rfl) | (unfold pendFld; split <;> rfl) | (rw [padFld_reg (by assumption)]; rfl) | (unfold phWord; rcases a2 with _ | _ | _ | _ | _ | a2 <;> rfl) | exact RegId.all_bit rfl _)
      exact Upd.refl _ _
    · refine Upd.step ?_ (State.srcBegin_upd ..) (by first | rfl | (split <;> rfl) | (unfold enterEvt; split <;> rfl) | (unfold pendFld; split <;> rfl) | (rw [padFld_reg (by assumption)]; rfl) | (unfold phWord; rcases a2 with _ | _ | _ | _ | _ | a2 <;> rfl) | exact RegId.all_bit rfl _)
      exact Upd.refl _ _
  · refine Upd.step ?_ (State.srcRelease_upd ..) (by first | rfl | (split <;> rfl) | (unfold enterEvt; split <;> rfl) | (unfold pendFld; split <;> rfl) | (rw [padFld_reg (by assumption)]; rfl) | (unfold phWord; rcases a2 with _ | _ | _ | _ | _ | a2 <;> rfl) | exact RegId.all_bit rfl _)
    exact Upd.refl _ _
  · refine Upd.step ?_ (State.srcRelease_upd ..) (by first | rfl | (split <;> rfl) | (unfold enterEvt; split <;> rfl) | (unfold pendFld; split <;> rfl) | (rw [padFld_reg (by assumption)]; rfl) | (unfold phWord; rcases a2 with _ | _ | _ | _ | _ | a2 <;> rfl) | exact RegId.all_bit rfl _)
    exact Upd.refl _ _
  · refine Upd.step ?_ (State.srcRelease_upd ..) (by first | rfl | (split <;> rfl) | (unfold enterEvt; split <;> rfl) | (unfold pendFld; split <;> rfl) | (rw [padFld_reg (by assumption)]; rfl) | (unfold phWord; rcases a2 with _ | _ | _ | _ | _ | a2 <;> rfl) | exact RegId.all_bit rfl _)
    exact Upd.refl _ _
  · refine Upd.step ?_ (State.srcRelease_upd ..) (by first | rfl | (split <;> rfl) | (unfold enterEvt; split <;> rfl) | (unfold pendFld; split <;> rfl) | (rw [padFld_reg (by assumption)]; rfl) | (unfold phWord; rcases a2 with _ | _ | _ | _ | _ | a2 <;> rfl) | exact RegId.all_bit rfl _)
    exact Upd.refl _ _
  · exact Upd.refl _ _

theorem execSwChip_upd (a1 : Master) (a2 : W32) (s : State) :
    ∃ t, execSwChip a1 a2 s = .next t ∧ Upd 0x2ff7dfffffffffe0000000007ffffffffffffffffffffffffffffffffffffffffffffffffffffffffffffffffffffffffffffffffffffffffffffffffffffffffffffffffffffffffffffffffffffffffffff s t := by
  unfold execSwChip
  refine ⟨_, rfl, ?_⟩
  refine Upd.guardW ?_ (fun x1 h1 => ?_) rfl
  · exact Upd.refl _ _
  · refine Upd.step ?_ (State.swWrite_upd ..) rfl
    exact h1

theorem execSwCore_upd (a1 : Master) (a2 : W32) (s : State) :
    ∃ t, execSwCore a1 a2 s = .next t ∧ Upd 0x2ff7dfffffffffe0000000007ffffffffffffffffffffffffffffffffffffffffffffffffffffffffffffffffffffffffffffffffffffffffffffffffffffffffffffffffffffffffffffffffffffffffffff s t := by
  unfold execSwCore
  refine ⟨_, rfl, ?_⟩
  refine Upd.guardW ?_ (fun x1 h1 => ?_) rfl
  · exact Upd.refl _ _
  · refine Upd.step ?_ (State.swWrite_upd ..) rfl
    exact h1

theorem execSwDomain_upd (a1 : Master) (a2 : W32) (s : State) :
    ∃ t, execSwDomain a1 a2 s = .next t ∧ Upd 0x2ff7dfffffffffe0000000007ffffffffffffffffffffffffffffffffffffffffffffffffffffffffffffffffffffffffffffffffffffffffffffffffffffffffffffffffffffffffffffffffffffffffffff s t := by
  unfold execSwDomain
  refine ⟨_, rfl, ?_⟩
  refine Upd.guardW ?_ (fun x1 h1 => ?_) rfl
  · exact Upd.refl _ _
  · refine Upd.step ?_ (State.swWrite_upd ..) rfl
    exact h1

theorem execSwBlock_upd (a1 : Master) (a2 : W32) (s : State) :
    ∃ t, execSwBlock a1 a2 s = .next t ∧ Upd 0x2ff7dfffffffffe0000000007ffffffffffffffffffffffffffffffffffffffffffffffffffffffffffffffffffffffffffffffffffffffffffffffffffffffffffffffffffffffffffffffffffffffffffff s t := by
  unfold execSwBlock
  refine ⟨_, rfl, ?_⟩
  refine Upd.guardW ?_ (fun x1 h1 => ?_) rfl
  · exact Upd.refl _ _
  · refine Upd.step ?_ (State.swWrite_upd ..) rfl
    exact h1

theorem execSwRelease_upd (a1 : Master) (a2 : W32) (s : State) :
    ∃ t, execSwRelease a1 a2 s = .next t ∧ Upd 0x2ff7dfffffffffe0000000007ffffffffffffffffffffffffffffffffffffffffffffffffffffffffffffffffffffffffffffffffffffffffffffffffffffffffffffffffffffffffffffffffffffffffffff s t := by
  unfold execSwRelease
  refine ⟨_, rfl, ?_⟩
  refine Upd.guardW ?_ (fun x1 h1 => ?_) rfl
  · exact Upd.refl _ _
  · refine Upd.step ?_ (State.swWrite_upd ..) rfl
    exact h1

theorem State.hostRstWrite_upd (a1 : Master) (a2 : W32) (s : State) :
    Upd 0x2f77dfffffffffe0000000007ffffffffffffffffffffffffffffffffffffffffffffffffffffffffffffffffffffffffffffffffffffffffffffffffffffffffffffffffffffffffffffffffffffffffffff s (State.hostRstWrite a1 a2 s) := by
  unfold State.hostRstWrite
  refine Upd.ite ?_ ?_
  · refine Upd.step ?_ (State.srcBegin_upd ..) rfl
    exact Upd.refl _ _
  · exact Upd.refl _ _

theorem execHostRst_upd (a1 : Master) (a2 : W32) (s : State) :
    ∃ t, execHostRst a1 a2 s = .next t ∧ Upd 0x2f77dfffffffffe0000000007ffffffffffffffffffffffffffffffffffffffffffffffffffffffffffffffffffffffffffffffffffffffffffffffffffffffffffffffffffffffffffffffffffffffffffff s t := by
  unfold execHostRst
  refine ⟨_, rfl, ?_⟩
  refine Upd.guardW ?_ (fun x1 h1 => ?_) rfl
  · exact Upd.refl _ _
  · refine Upd.step ?_ (State.hostRstWrite_upd ..) rfl
    exact h1

end Sys2Proof.Machine
end

