-- ==== Sys2Proof/Laws/FootBoot.lean ====
section
/-! SUPPORT. The footprints of the operations of Machine/Boot.lean: what each may change. -/

set_option linter.unreachableTactic false
set_option linter.unusedTactic false
set_option linter.unusedVariables false

namespace Sys2Proof.Machine

theorem State.copyCode_upd (a1 : Bool) (a2 : ℕ) (s : State) :
    Upd 0x100 s (State.copyCode a1 a2 s) := by
  unfold State.copyCode
  refine Upd.setFld ?_ (by first | rfl | (split <;> rfl) | (unfold enterEvt; split <;> rfl) | (unfold pendFld; split <;> rfl) | (rw [padFld_reg (by assumption)]; rfl) | (unfold phWord; rcases a2 with _ | _ | _ | _ | _ | a2 <;> rfl) | exact RegId.all_bit rfl _)
  exact Upd.refl _ _

theorem State.imageCheck_upd (a1 : List Byte) (s : State) :
    Upd 0x204100000000000000000000000000000000000000000000000000000000000000000000000000000000000000000000000000000000000000000000000000000000000000000000000000000021000300 s (State.imageCheck a1 s) := by
  unfold State.imageCheck
  extract_lets +onlyGivenNames -underBinder -merge -useContext x1
  try clear_value x1
  extract_lets +onlyGivenNames -underBinder -merge -useContext x2
  try clear_value x2
  extract_lets +onlyGivenNames -underBinder -merge -useContext x3
  refine Upd.cut (t := x3) ?_ (fun h3 => ?_)
  · unfold x3
    refine Upd.step ?_ (State.copyCode_upd ..) rfl
    exact Upd.refl _ _
  clear_value x3
  refine Upd.ite ?_ ?_
  · refine Upd.step ?_ (State.bootApply_upd ..) rfl
    refine Upd.step ?_ (State.modBoot_upd ..) rfl
    exact h3
  · refine Upd.ite ?_ ?_
    · refine Upd.setFlag ?_ rfl
      refine Upd.setFld ?_ rfl
      exact h3
    · refine Upd.setFld ?_ rfl
      exact h3

theorem execImageCheck_upd (a1 a2 a3 a4 : List Byte) (s : State) :
    ∃ t, execImageCheck a1 a2 a3 a4 s = .next t ∧ Upd 0x204100000000000000000000000000000000000000000000000000000000000000000000000000000000000000000000000000000000000000000000000000000000000000000000000000000021000300 s t := by
  unfold execImageCheck
  refine ⟨_, rfl, ?_⟩
  refine Upd.ite ?_ ?_
  · refine Upd.step ?_ (State.imageCheck_upd ..) rfl
    exact Upd.refl _ _
  · exact Upd.refl _ _

theorem execImgChecked_upd (a1 a2 a3 : List Byte) (s : State) :
    ∃ t, execImgChecked a1 a2 a3 s = .next t ∧ Upd 0x204100000000000000000000000000000000000000000000000000000000000000000000000000000000000000000000000000000000000000000000000000000000000000000000000000000021000300 s t := by
  unfold execImgChecked
  refine ⟨_, rfl, ?_⟩
  refine Upd.ite ?_ ?_
  · extract_lets +onlyGivenNames -underBinder -merge -useContext x1
    try clear_value x1
    extract_lets +onlyGivenNames -underBinder -merge -useContext x2
    refine Upd.cut (t := x2) ?_ (fun h2 => ?_)
    · unfold x2
      refine Upd.step ?_ (State.copyCode_upd ..) rfl
      exact Upd.refl _ _
    clear_value x2
    refine Upd.ite ?_ ?_
    · refine Upd.step ?_ (State.bootApply_upd ..) rfl
      exact h2
    · refine Upd.set_img ?_ rfl
      refine Upd.setFld ?_ rfl
      exact h2
  · exact Upd.refl _ _

theorem State.lcRequest_upd (a1 : ℕ) (a2 : ℕ) (s : State) :
    Upd 0x2f7fdfffffffffe0000000007ffffffffffffffffffffffffffffffffffffffffffffffffffffffffffffffffffffffffffffffffffffffffffffffffffffffffffffffffffffffffffffffffffffffffffff s (State.lcRequest a1 a2 s) := by
  unfold State.lcRequest
  extract_lets +onlyGivenNames -underBinder -merge -useContext x1
  try clear_value x1
  refine Upd.ite ?_ ?_
  · refine Upd.step ?_ (State.srcBegin_upd ..) rfl
    refine Upd.set_lcMove ?_ rfl
    refine Upd.setFld ?_ rfl
    exact Upd.refl _ _
  · refine Upd.setFld ?_ rfl
    exact Upd.refl _ _

theorem State.lcWrite_upd (a1 : W32) (s : State) :
    Upd 0x2f7fdfffffffffe0000000007ffffffffffffffffffffffffffffffffffffffffffffffffffffffffffffffffffffffffffffffffffffffffffffffffffffffffffffffffffffffffffffffffffffffffffff s (State.lcWrite a1 s) := by
  unfold State.lcWrite
  refine Upd.step ?_ (State.lcRequest_upd ..) rfl
  exact Upd.refl _ _

theorem execLcCmd_upd (a1 : Master) (a2 : W32) (s : State) :
    ∃ t, execLcCmd a1 a2 s = .next t ∧ Upd 0x2f7fdfffffffffe0000000007ffffffffffffffffffffffffffffffffffffffffffffffffffffffffffffffffffffffffffffffffffffffffffffffffffffffffffffffffffffffffffffffffffffffffffff s t := by
  unfold execLcCmd
  refine ⟨_, rfl, ?_⟩
  refine Upd.guardW ?_ (fun x1 h1 => ?_) rfl
  · exact Upd.refl _ _
  · refine Upd.step ?_ (State.lcWrite_upd ..) rfl
    exact h1

theorem execXtalOk_upd (s : State) :
    ∃ t, execXtalOk s = .next t ∧ Upd 0x200000000000 s t := by
  unfold execXtalOk
  refine ⟨_, rfl, ?_⟩
  refine Upd.setFlag ?_ rfl
  refine Upd.setFld ?_ rfl
  exact Upd.refl _ _

theorem execXtalFail_upd (s : State) :
    ∃ t, execXtalFail s = .next t ∧ Upd 0x400000000000 s t := by
  unfold execXtalFail
  refine ⟨_, rfl, ?_⟩
  refine Upd.ite ?_ ?_
  · exact Upd.refl _ _
  · refine Upd.raise ?_ rfl
    exact Upd.refl _ _

end Sys2Proof.Machine
end

