-- ==== Sys2Proof/Laws/FootFarrier.lean ====
section
/-! SUPPORT. The footprints of the operations of Machine/Farrier.lean: what each may change. -/

set_option linter.unreachableTactic false
set_option linter.unusedTactic false
set_option linter.unusedVariables false

namespace Sys2Proof.Machine

theorem State.sliceOut_upd (a1 : ℕ) (a2 : ℕ) (a3 : ℕ) (s : State) :
    Upd 0x80000000000000000000000000000000000000000000000000000000000000000000000000000000000000000000000000000000000000000000000000000000000020000000000000000000000000000 s (State.sliceOut a1 a2 a3 s) := by
  unfold State.sliceOut
  refine Upd.setFld ?_ rfl
  refine Upd.step ?_ (State.modCalLane_upd ..) rfl
  exact Upd.refl _ _

theorem State.swapAsk_upd (a1 : ℕ) (a2 : ℕ) (a3 : ℕ) (a4 : Bool) (s : State) :
    Upd 0x80000000000000000000000000000000000000000000000000000000000000000000000000000000000000000000000000000000000000000000000000000000000000000000000000000000000000000 s (State.swapAsk a1 a2 a3 a4 s) := by
  unfold State.swapAsk
  refine Upd.step ?_ (State.modCalLane_upd ..) rfl
  exact Upd.refl _ _

theorem execSliceCycle_upd (a1 : ℕ) (a2 : ℕ) (s : State) :
    ∃ t, execSliceCycle a1 a2 s = .next t ∧ Upd 0x80000000000000000000000000000000000000000000000000000000000000000000000000000000000000000000000000000000000000000000000000000000000020000000000000000000000000000 s t := by
  unfold execSliceCycle
  refine ⟨_, rfl, ?_⟩
  refine Upd.ite ?_ ?_
  · split
    · exact Upd.refl _ _
    · refine Upd.ite ?_ ?_
      · refine Upd.step ?_ (State.sliceOut_upd ..) rfl
        exact Upd.refl _ _
      · refine Upd.step ?_ (State.swapAsk_upd ..) rfl
        exact Upd.refl _ _
  · exact Upd.refl _ _

theorem State.cycleEnd_upd (a1 : ℕ) (a2 : ℕ) (a3 : ℕ) (s : State) :
    Upd 0x80000000000000000000000000000000000000000000000200000000000000000000000000000000000000000000000000000000000000000000000000000000000020000000000000000000000000000 s (State.cycleEnd a1 a2 a3 s) := by
  unfold State.cycleEnd
  extract_lets +onlyGivenNames -underBinder -merge -useContext x1
  refine Upd.cut (t := x1) ?_ (fun h1 => ?_)
  · unfold x1
    refine Upd.setFld ?_ rfl
    refine Upd.step ?_ (State.modCalLane_upd ..) rfl
    exact Upd.refl _ _
  clear_value x1
  refine Upd.ite ?_ ?_
  · exact h1
  · refine Upd.step ?_ (State.modCalLane_upd ..) rfl
    refine Upd.wrN ?_ rfl
    exact h1

theorem State.discard_upd (a1 : ℕ) (s : State) :
    Upd 0x200000000000060000000000000000000000000000800001000000200000000000000000000000000000000000000000000000000000000000000000000000000000000000000000000000000000000000000 s (State.discard a1 s) := by
  unfold State.discard
  refine Upd.step ?_ (State.logFree_upd ..) rfl
  refine Upd.raise ?_ rfl
  exact Upd.refl _ _

theorem State.retire_upd (a1 : ℕ) (a2 : ℕ) (a3 : ℕ) (s : State) :
    Upd 0x80000000000000000000000000000000000000000000000000000000000000000000000000000000000000000000000000000000000000000000000000000000000028000000000000000000000000000 s (State.retire a1 a2 a3 s) := by
  unfold State.retire
  extract_lets +onlyGivenNames -underBinder -merge -useContext x1
  refine Upd.cut (t := x1) ?_ (fun h1 => ?_)
  · unfold x1
    refine Upd.step ?_ (State.modCalLane_upd ..) rfl
    exact Upd.refl _ _
  clear_value x1
  extract_lets +onlyGivenNames -underBinder -merge -useContext x2
  try clear_value x2
  extract_lets +onlyGivenNames -underBinder -merge -useContext x3
  refine Upd.cut (t := x3) ?_ (fun h3 => ?_)
  · unfold x3
    refine Upd.raise ?_ rfl
    refine Upd.setFld ?_ rfl
    exact h1
  clear_value x3
  refine Upd.when ?_ (fun x4 h4 => ?_)
  · exact h3
  · refine Upd.raise ?_ rfl
    exact h4

theorem execSliceResult_upd (a1 : ℕ) (a2 : ℕ) (a3 : SliceVal × SliceVal) (a4 : ℕ) (s : State) :
    ∃ t, execSliceResult a1 a2 a3 a4 s = .next t ∧ Upd 0x200080000000060000000000000000000000000000800001000280200000000000000000000000000000000000000000000000000000000000000000000000000000000028000000000000000000000000000 s t := by
  unfold execSliceResult
  refine ⟨_, rfl, ?_⟩
  refine Upd.ite ?_ ?_
  · exact Upd.refl _ _
  · split
    · extract_lets +onlyGivenNames -underBinder -merge -useContext y1_0 x1
      refine Upd.cut (t := x1) ?_ (fun h1 => ?_)
      · unfold x1
        try unfold y1_0
        refine Upd.ite ?_ ?_
        · refine Upd.step ?_ (State.modCalLane_upd ..) rfl
          refine Upd.step ?_ (State.modCalCar_upd ..) rfl
          exact Upd.refl _ _
        · refine Upd.when ?_ (fun x2 h2 => ?_)
          · refine Upd.step ?_ (State.modCalLane_upd ..) rfl
            refine Upd.step ?_ (State.discard_upd ..) rfl
            refine Upd.bump ?_ rfl
            exact Upd.refl _ _
          · refine Upd.step ?_ (State.retire_upd ..) rfl
            exact h2
      clear_value x1 y1_0
      refine Upd.ite ?_ ?_
      · refine Upd.step ?_ (State.cycleEnd_upd ..) rfl
        exact h1
      · refine Upd.step ?_ (State.swapAsk_upd ..) rfl
        exact h1
    · exact Upd.refl _ _

theorem execSliceSwap_upd (a1 : ℕ) (a2 : ℕ) (a3 : ℕ) (s : State) :
    ∃ t, execSliceSwap a1 a2 a3 s = .next t ∧ Upd 0x20008000000000000000000000000000000000000001b805000200000000000000000000000000000000000000000000000000000000000000000000000000000000000020000000000000000000000000000 s t := by
  unfold execSliceSwap
  refine ⟨_, rfl, ?_⟩
  split
  · refine Upd.ite ?_ ?_
    · extract_lets +onlyGivenNames -underBinder -merge -useContext x1
      refine Upd.cut (t := x1) ?_ (fun h1 => ?_)
      · unfold x1
        refine Upd.step ?_ (State.count_upd ..) rfl
        refine Upd.setFld ?_ rfl
        exact Upd.refl _ _
      clear_value x1
      refine Upd.ite ?_ ?_
      · refine Upd.step ?_ (State.sliceOut_upd ..) rfl
        exact h1
      · refine Upd.step ?_ (State.cycleEnd_upd ..) rfl
        exact h1
    · exact Upd.refl _ _
  · exact Upd.refl _ _

theorem execSliceRamp_upd (a1 : ℕ) (a2 : ℕ) (s : State) :
    ∃ t, execSliceRamp a1 a2 s = .next t ∧ Upd 0x80000000000000000000000000000000000000000000000000000000000000000000000000000000000000000000000000000000000000000000000000000000000000000000000000000000000000000 s t := by
  unfold execSliceRamp
  refine ⟨_, rfl, ?_⟩
  refine Upd.ite ?_ ?_
  · refine Upd.step ?_ (State.modCalCar_upd ..) rfl
    exact Upd.refl _ _
  · exact Upd.refl _ _

theorem State.stuck_upd (a1 : ℕ) (a2 : ℕ) (s : State) :
    Upd 0x300000000000000000000000000000000000000000000000000000000000000000000000000000000000000000000000000000000000000 s (State.stuck a1 a2 s) := by
  unfold State.stuck
  refine Upd.when ?_ (fun x1 h1 => ?_)
  · exact Upd.refl _ _
  · refine Upd.setFld ?_ rfl
    refine Upd.raise ?_ rfl
    exact h1

theorem execDacSkewCal_upd (a1 : ℕ) (a2 : ℕ) (a3 : ℤ) (a4 : ℤ) (s : State) :
    ∃ t, execDacSkewCal a1 a2 a3 a4 s = .next t ∧ Upd 0x20008000000006200000000000000000000000000080000100010030000000000000000000000000000000000000000000000000000000000000000000000000000000000000c000000000000000000000000 s t := by
  unfold execDacSkewCal
  refine ⟨_, rfl, ?_⟩
  refine Upd.ite ?_ ?_
  · refine Upd.ite ?_ ?_
    · refine Upd.step ?_ (State.modCalCar_upd ..) rfl
      refine Upd.step ?_ (State.setTerm_upd ..) rfl
      exact Upd.refl _ _
    · extract_lets +onlyGivenNames -underBinder -merge -useContext x1
      try clear_value x1
      refine Upd.step ?_ (State.stuck_upd ..) rfl
      refine Upd.step ?_ (State.modCalCar_upd ..) rfl
      refine Upd.step ?_ (State.discard_upd ..) rfl
      refine Upd.bump ?_ rfl
      exact Upd.refl _ _
  · exact Upd.refl _ _

theorem execMonRefRefresh_upd (a1 : ℕ) (a2 : ℤ) (a3 : ℤ) (s : State) :
    ∃ t, execMonRefRefresh a1 a2 a3 s = .next t ∧ Upd 0x200080000000060000000000000000000000000000800001000000300000000000000000000000000000000000000000000000000000000000000000000000000000000000000000000000000000000000000 s t := by
  unfold execMonRefRefresh
  refine ⟨_, rfl, ?_⟩
  refine Upd.ite ?_ ?_
  · refine Upd.ite ?_ ?_
    · extract_lets +onlyGivenNames -underBinder -merge -useContext x1
      try clear_value x1
      refine Upd.step ?_ (State.stuck_upd ..) rfl
      refine Upd.step ?_ (State.modCal_upd ..) rfl
      refine Upd.step ?_ (State.discard_upd ..) rfl
      exact Upd.refl _ _
    · refine Upd.ite ?_ ?_
      · refine Upd.step ?_ (State.modCal_upd ..) rfl
        exact Upd.refl _ _
      · exact Upd.refl _ _
  · exact Upd.refl _ _

theorem State.storeLive_upd (a1 : ℕ) (a2 : Bool) (s : State) :
    Upd 0x80000000000000000000000000000000000000000000004000200000000000000000000000000000000000000000000000000000000000000000000000000000000000000000000000000000000000000 s (State.storeLive a1 a2 s) := by
  unfold State.storeLive
  extract_lets +onlyGivenNames -underBinder -merge -useContext x1
  try clear_value x1
  extract_lets +onlyGivenNames -underBinder -merge -useContext x2
  try clear_value x2
  extract_lets +onlyGivenNames -underBinder -merge -useContext x3
  refine Upd.cut (t := x3) ?_ (fun h3 => ?_)
  · unfold x3
    refine Upd.step ?_ (State.modCalCar_upd ..) rfl
    exact Upd.refl _ _
  clear_value x3
  refine Upd.ite ?_ ?_
  · refine Upd.wr ?_ rfl
    exact h3
  · refine Upd.raise ?_ rfl
    exact h3

theorem execLiveStore_upd (a1 : ℕ) (a2 : Bool) (s : State) :
    ∃ t, execLiveStore a1 a2 s = .next t ∧ Upd 0x80000000000000000000000000000000000000000000004000200000000000000000000000000000000000000000000000000000000000000000000000000000000000000000000000000000000000000 s t := by
  unfold execLiveStore
  refine ⟨_, rfl, ?_⟩
  refine Upd.ite ?_ ?_
  · refine Upd.step ?_ (State.storeLive_upd ..) rfl
    exact Upd.refl _ _
  · exact Upd.refl _ _

theorem State.calCmdWrite_upd (a1 : W32) (s : State) :
    Upd 0x80000000000000000000000000000000000000000000004001200000000000000000000000000000000000000000000000000000000000000000000000000000000000000000000000000000000000000 s (State.calCmdWrite a1 s) := by
  unfold State.calCmdWrite
  refine Upd.ite ?_ ?_
  · exact Upd.refl _ _
  · split
    · extract_lets +onlyGivenNames -underBinder -merge -useContext x1
      try clear_value x1
      refine Upd.setFlag ?_ rfl
      refine Upd.setFld ?_ rfl
      exact Upd.refl _ _
    · refine Upd.raise ?_ rfl
      refine Upd.setFld ?_ rfl
      refine Upd.upto ?_ (fun n2 x2 h2 => ?_) _
      · exact Upd.refl _ _
      · refine Upd.when ?_ (fun x3 h3 => ?_)
        · exact h2
        · refine Upd.step ?_ (State.storeLive_upd ..) rfl
          exact h3
    · refine Upd.setFld ?_ rfl
      exact Upd.refl _ _

theorem execProd_upd (a1 : Master) (a2 : W32) (s : State) :
    ∃ t, execProd a1 a2 s = .next t ∧ Upd 0x20008000200007000000000000000000000060000081b805004001200000000000000000000000000000000000000000000000000000000000000000000000000000000000000000000000000000006203400 s t := by
  unfold execProd
  refine ⟨_, rfl, ?_⟩
  refine Upd.guardW ?_ (fun x1 h1 => ?_) rfl
  · exact Upd.refl _ _
  · refine Upd.step ?_ (State.calCmdWrite_upd ..) rfl
    exact h1

theorem execStoreNow_upd (a1 : Master) (a2 : W32) (s : State) :
    ∃ t, execStoreNow a1 a2 s = .next t ∧ Upd 0x20008000200007000000000000000000000060000081b805004001200000000000000000000000000000000000000000000000000000000000000000000000000000000000000000000000000000006203400 s t := by
  unfold execStoreNow
  refine ⟨_, rfl, ?_⟩
  refine Upd.guardW ?_ (fun x1 h1 => ?_) rfl
  · exact Upd.refl _ _
  · refine Upd.step ?_ (State.calCmdWrite_upd ..) rfl
    exact h1

theorem State.prodRecords_upd (a1 : ProdVals) (s : State) :
    Upd 0x8000000000200000000000000000000000000000000000000010000000000000000000000000000000000000000000000000000000000000000000000000000000000000c000000000000000000000000 s (State.prodRecords a1 s) := by
  unfold State.prodRecords
  extract_lets +onlyGivenNames -underBinder -merge -useContext x1
  refine Upd.cut (t := x1) ?_ (fun h1 => ?_)
  · unfold x1
    refine Upd.each ?_ (fun n2 x2 h2 => ?_) _
    · exact Upd.refl _ _
    · refine Upd.step ?_ (State.modCalCar_upd ..) rfl
      exact h2
  clear_value x1
  extract_lets +onlyGivenNames -underBinder -merge -useContext x3
  refine Upd.cut (t := x3) ?_ (fun h3 => ?_)
  · unfold x3
    refine Upd.each ?_ (fun n4 x4 h4 => ?_) _
    · exact h1
    · refine Upd.step ?_ (State.setTerm_upd ..) rfl
      exact h4
  clear_value x3
  extract_lets +onlyGivenNames -underBinder -merge -useContext x5
  refine Upd.cut (t := x5) ?_ (fun h5 => ?_)
  · unfold x5
    refine Upd.upto ?_ (fun n6 x6 h6 => ?_) _
    · exact h3
    · extract_lets +onlyGivenNames -underBinder -merge -useContext x7
      try clear_value x7
      extract_lets +onlyGivenNames -underBinder -merge -useContext x8
      try clear_value x8
      refine Upd.step ?_ (State.modCalCar_upd ..) rfl
      exact h6
  clear_value x5
  extract_lets +onlyGivenNames -underBinder -merge -useContext x9
  try clear_value x9
  extract_lets +onlyGivenNames -underBinder -merge -useContext x10
  try clear_value x10
  extract_lets +onlyGivenNames -underBinder -merge -useContext x11
  try clear_value x11
  extract_lets +onlyGivenNames -underBinder -merge -useContext x12
  try clear_value x12
  refine Upd.setFld ?_ rfl
  refine Upd.step ?_ (State.modCal_upd ..) rfl
  exact h5

theorem execProdDone_upd (a1 : Bool) (a2 : Bool) (a3 : ProdVals) (s : State) :
    ∃ t, execProdDone a1 a2 a3 s = .next t ∧ Upd 0x8000000000200000000000000000000000000000000000000130000000000000000000000000000000000000000000000000000000000000000000000000000000000000c000000000000000000000000 s t := by
  unfold execProdDone
  refine ⟨_, rfl, ?_⟩
  refine Upd.ite ?_ ?_
  · extract_lets +onlyGivenNames -underBinder -merge -useContext x1
    refine Upd.cut (t := x1) ?_ (fun h1 => ?_)
    · unfold x1
      refine Upd.raise ?_ rfl
      refine Upd.setFld ?_ rfl
      refine Upd.setFld ?_ rfl
      exact Upd.refl _ _
    clear_value x1
    refine Upd.when ?_ (fun x2 h2 => ?_)
    · exact h1
    · refine Upd.step ?_ (State.prodRecords_upd ..) rfl
      exact h2
  · exact Upd.refl _ _

theorem execCalRefLost_upd (s : State) :
    ∃ t, execCalRefLost s = .next t ∧ Upd 0x300000000000000000000000000000000000000000000000000000000000000000000000000000000000000000000000000000000000000 s t := by
  unfold execCalRefLost
  refine ⟨_, rfl, ?_⟩
  refine Upd.ite ?_ ?_
  · refine Upd.raise ?_ rfl
    refine Upd.setFld ?_ rfl
    exact Upd.refl _ _
  · exact Upd.refl _ _

theorem execCalRefInPresent_upd (a1 : Bool) (s : State) :
    ∃ t, execCalRefInPresent a1 s = .next t ∧ Upd 0x100000000000000000000000000000000000000000000000000000000000000000000000000000000000000000000000000000000000000 s t := by
  unfold execCalRefInPresent
  refine ⟨_, rfl, ?_⟩
  refine Upd.ite ?_ ?_
  · refine Upd.setFlag ?_ rfl
    refine Upd.setFld ?_ rfl
    exact Upd.refl _ _
  · exact Upd.refl _ _

theorem State.tackDenied_upd (s : State) :
    Upd 0x200000000000000000000000000000000000000000000000000000000000000000000000000000000000000000000000000000000000000 s (State.tackDenied s) := by
  unfold State.tackDenied
  refine Upd.raise ?_ rfl
  exact Upd.refl _ _

theorem State.tackWrite_upd (a1 : Master) (a2 : ℕ) (a3 : W32) (s : State) :
    Upd 0xa0000000000000000000000000000000000000000000000000200000000000000000000000000000000000000000000000000000000000000000000000000000000000000000000000000000000000000 s (State.tackWrite a1 a2 a3 s) := by
  unfold State.tackWrite
  refine Upd.ite (Upd.step (Upd.refl _ _) (State.tackDenied_upd ..) rfl) ?_
  refine Upd.ite (Upd.step (Upd.refl _ _) (State.modCal_upd ..) rfl) ?_
  extract_lets +onlyGivenNames -underBinder lo t
  have ht : Upd 0xa0000000000000000000000000000000000000000000000000200000000000000000000000000000000000000000000000000000000000000000000000000000000000000000000000000000000000000 s t := Upd.step (Upd.refl _ _) (State.modCal_upd ..) rfl
  clear_value t lo
  extract_lets +onlyGivenNames -underBinder t1 t2
  refine Upd.ite (Upd.step ht (State.tackDenied_upd ..) rfl) ?_
  refine Upd.set_tack ht rfl fun h => Memory.wf_putBytes _ ?_ _
  unfold t1
  split
  · exact Memory.wf_putBytes _ h _
  · exact h

theorem Upd.trGuard {w : Nat} {s t : State} {m : Master} {b : Bool} {off : Nat} {f : State → State} (h : Upd w s t) (hf : ∀ x, Upd w s x → Upd w s (f x))
    (hw : Nat.land 0x10000000000000000000000000000000000000000000000000000000000000000000000000000000000000000000000000000000000000000000000000000000000000000000000006200000 w = 0x10000000000000000000000000000000000000000000000000000000000000000000000000000000000000000000000000000000000000000000000000000000000000000000000006200000) :
    Upd w s (State.trGuard m b off f t) := by
  unfold State.trGuard
  repeat' first
    | with_reducible assumption
    | with_reducible exact Upd.refl _ _
    | (show Nat.testBit _ _ = true; with_reducible assumption)
    | (show Nat.land _ _ = _; exact land_trans (b := 0x10000000000000000000000000000000000000000000000000000000000000000000000000000000000000000000000000000000000000000000000000000000000000000000000006200000) rfl hw)
    | (show Nat.testBit _ _ = true; exact testBit_up (a := 0x10000000000000000000000000000000000000000000000000000000000000000000000000000000000000000000000000000000000000000000000000000000000000000000000006200000) hw rfl)
    | with_reducible refine hf _ ?_
    | (extract_lets +onlyGivenNames x; refine Upd.cut (t := x) ?_ (fun hx => ?_); (on_goal 2 => clear_value x); unfold x; clear x)
    | (extract_lets +onlyGivenNames x; clear_value x)
    | with_reducible apply Upd.ite
    | with_reducible refine Upd.step ?_ (State.answer_upd ..) ?_
    | with_reducible refine Upd.step ?_ (State.accessErr_upd ..) ?_
    | split

theorem execTackRoomWrite_upd (a1 : Master) (a2 : ℕ) (a3 : W32) (s : State) :
    ∃ t, execTackRoomWrite a1 a2 a3 s = .next t ∧ Upd 0x2000a000000007000000000000000000000060000081b805000000200000000000000000000000000000000000000000000000000000000000000000000000000000000000000000000000000000006200000 s t := by
  unfold execTackRoomWrite
  refine ⟨_, rfl, ?_⟩
  refine Upd.issue ?_ (fun x1 h1 => ?_) rfl
  · exact Upd.refl _ _
  · refine Upd.trGuard ?_ (fun x2 h2 => ?_) rfl
    · exact h1
    · refine Upd.step ?_ (State.tackWrite_upd ..) rfl
      exact h2

theorem State.tackRead_upd (a1 : Master) (a2 : ℕ) (a3 : TrEcc) (s : State) :
    Upd 0x200000000000010000000000000000000000000000000000000060200000000000000000000000000000000000000000000000000000000000000000000000000000000000000000000000000000000000000 s (State.tackRead a1 a2 a3 s) := by
  unfold State.tackRead
  extract_lets +onlyGivenNames -underBinder -merge -useContext x1
  refine Upd.cut (t := x1) ?_ (fun h1 => ?_)
  · unfold x1
    split
    · exact Upd.refl _ _
    · refine Upd.bump ?_ rfl
      exact Upd.refl _ _
    · refine Upd.raise ?_ rfl
      refine Upd.bump ?_ rfl
      exact Upd.refl _ _
  clear_value x1
  refine Upd.ite ?_ ?_
  · refine Upd.step ?_ (State.answer_upd ..) rfl
    refine Upd.step ?_ (State.useFree_upd ..) rfl
    exact h1
  · refine Upd.step ?_ (State.answer_upd ..) rfl
    exact h1

theorem execTackRoomRead_upd (a1 : Master) (a2 : ℕ) (a3 : TrEcc) (s : State) :
    ∃ t, execTackRoomRead a1 a2 a3 s = .next t ∧ Upd 0x20000000000007000000000000000000000060000081b805000060200000000000000000000000000000000000000000000000000000000000000000000000000000000000000000000000000000006200000 s t := by
  unfold execTackRoomRead
  refine ⟨_, rfl, ?_⟩
  refine Upd.issue ?_ (fun x1 h1 => ?_) rfl
  · exact Upd.refl _ _
  · refine Upd.trGuard ?_ (fun x2 h2 => ?_) rfl
    · exact h1
    · refine Upd.step ?_ (State.tackRead_upd ..) rfl
      exact h2

end Sys2Proof.Machine
end

