-- ==== Sys2Proof/Laws/FootPaddock.lean ====
section
/-! SUPPORT. The footprints of the operations of Machine/Paddock.lean: what each may change. -/

set_option linter.unreachableTactic false
set_option linter.unusedTactic false
set_option linter.unusedVariables false

namespace Sys2Proof.Machine

theorem State.bstCode_upd (a1 : ℕ) (s : State) :
    Upd 0x90000000000000000000000000000000000000000000000000000000000000000000000000000000000000000000000000000000000000000000 s (State.bstCode a1 s) := by
  unfold State.bstCode
  refine Upd.when ?_ (fun x1 h1 => ?_)
  · refine Upd.setFld ?_ rfl
    exact Upd.refl _ _
  · refine Upd.raise ?_ rfl
    exact h1

theorem State.testRestore_upd (a1 : BstTest) (s : State) :
    Upd 0x20828c2fc85ff1e0000000007ffffffffffffffffffffffffffffffffffffffffffffffffffffffffffffffffffffffffffffffffffffffffffffffffffffffffffffffffffffffffffffffffffffffffffff s (State.testRestore a1 s) := by
  unfold State.testRestore
  extract_lets +onlyGivenNames -underBinder -merge -useContext x1
  try clear_value x1
  extract_lets +onlyGivenNames -underBinder -merge -useContext x2
  refine Upd.cut (t := x2) ?_ (fun h2 => ?_)
  · unfold x2
    refine Upd.step ?_ (State.rstShow_upd ..) (by first | with_reducible exact RegId.all_bit rfl _ | rfl | (split <;> rfl) | (unfold enterEvt; split <;> rfl) | (unfold pendFld; split <;> rfl) | (rw [padFld_reg (by assumption)]; rfl) | (unfold phWord; rcases a2 with _ | _ | _ | _ | _ | a2 <;> rfl) | exact RegId.all_bit rfl _)
    refine Upd.step ?_ (State.paddockOff_upd ..) (by first | with_reducible exact RegId.all_bit rfl _ | rfl | (split <;> rfl) | (unfold enterEvt; split <;> rfl) | (unfold pendFld; split <;> rfl) | (rw [padFld_reg (by assumption)]; rfl) | (unfold phWord; rcases a2 with _ | _ | _ | _ | _ | a2 <;> rfl) | exact RegId.all_bit rfl _)
    exact Upd.refl _ _
  clear_value x2
  extract_lets +onlyGivenNames -underBinder -merge -useContext x3
  refine Upd.cut (t := x3) ?_ (fun h3 => ?_)
  · unfold x3
    refine Upd.each ?_ (fun n4 x4 h4 => ?_) _
    · exact h2
    · refine Upd.wr ?_ (by first | with_reducible exact RegId.all_bit rfl _ | rfl | (split <;> rfl) | (unfold enterEvt; split <;> rfl) | (unfold pendFld; split <;> rfl) | (rw [padFld_reg (by assumption)]; rfl) | (unfold phWord; rcases a2 with _ | _ | _ | _ | _ | a2 <;> rfl) | exact RegId.all_bit rfl _)
      exact h4
  clear_value x3
  extract_lets +onlyGivenNames -underBinder -merge -useContext x5
  refine Upd.cut (t := x5) ?_ (fun h5 => ?_)
  · unfold x5
    refine Upd.step ?_ (State.testLift_upd ..) (by first | with_reducible exact RegId.all_bit rfl _ | rfl | (split <;> rfl) | (unfold enterEvt; split <;> rfl) | (unfold pendFld; split <;> rfl) | (rw [padFld_reg (by assumption)]; rfl) | (unfold phWord; rcases a2 with _ | _ | _ | _ | _ | a2 <;> rfl) | exact RegId.all_bit rfl _)
    exact h3
  clear_value x5
  extract_lets +onlyGivenNames -underBinder -merge -useContext x6
  refine Upd.cut (t := x6) ?_ (fun h6 => ?_)
  · unfold x6
    refine Upd.when ?_ (fun x7 h7 => ?_)
    · exact h5
    · refine Upd.step ?_ (State.calLoad_upd ..) (by first | with_reducible exact RegId.all_bit rfl _ | rfl | (split <;> rfl) | (unfold enterEvt; split <;> rfl) | (unfold pendFld; split <;> rfl) | (rw [padFld_reg (by assumption)]; rfl) | (unfold phWord; rcases a2 with _ | _ | _ | _ | _ | a2 <;> rfl) | exact RegId.all_bit rfl _)
      refine Upd.step ?_ (State.shapeShow_upd ..) (by first | with_reducible exact RegId.all_bit rfl _ | rfl | (split <;> rfl) | (unfold enterEvt; split <;> rfl) | (unfold pendFld; split <;> rfl) | (rw [padFld_reg (by assumption)]; rfl) | (unfold phWord; rcases a2 with _ | _ | _ | _ | _ | a2 <;> rfl) | exact RegId.all_bit rfl _)
      refine Upd.step ?_ (State.rxShapeIn_upd ..) (by first | with_reducible exact RegId.all_bit rfl _ | rfl | (split <;> rfl) | (unfold enterEvt; split <;> rfl) | (unfold pendFld; split <;> rfl) | (rw [padFld_reg (by assumption)]; rfl) | (unfold phWord; rcases a2 with _ | _ | _ | _ | _ | a2 <;> rfl) | exact RegId.all_bit rfl _)
      refine Upd.step ?_ (State.rxInstall_upd ..) (by first | with_reducible exact RegId.all_bit rfl _ | rfl | (split <;> rfl) | (unfold enterEvt; split <;> rfl) | (unfold pendFld; split <;> rfl) | (rw [padFld_reg (by assumption)]; rfl) | (unfold phWord; rcases a2 with _ | _ | _ | _ | _ | a2 <;> rfl) | exact RegId.all_bit rfl _)
      exact h7
  clear_value x6
  extract_lets +onlyGivenNames -underBinder -merge -useContext x8
  refine Upd.cut (t := x8) ?_ (fun h8 => ?_)
  · unfold x8
    refine Upd.each ?_ (fun n9 x9 h9 => ?_) _
    · exact h6
    · refine Upd.step ?_ (State.pageRise_upd ..) (by first | with_reducible exact RegId.all_bit rfl _ | rfl | (split <;> rfl) | (unfold enterEvt; split <;> rfl) | (unfold pendFld; split <;> rfl) | (rw [padFld_reg (by assumption)]; rfl) | (unfold phWord; rcases a2 with _ | _ | _ | _ | _ | a2 <;> rfl) | exact RegId.all_bit rfl _)
      exact h9
  clear_value x8
  extract_lets +onlyGivenNames -underBinder -merge -useContext x10
  refine Upd.cut (t := x10) ?_ (fun h10 => ?_)
  · unfold x10
    refine Upd.when ?_ (fun x11 h11 => ?_)
    · exact h8
    · refine Upd.step ?_ (State.domRise_upd ..) (by first | with_reducible exact RegId.all_bit rfl _ | rfl | (split <;> rfl) | (unfold enterEvt; split <;> rfl) | (unfold pendFld; split <;> rfl) | (rw [padFld_reg (by assumption)]; rfl) | (unfold phWord; rcases a2 with _ | _ | _ | _ | _ | a2 <;> rfl) | exact RegId.all_bit rfl _)
      exact h11
  clear_value x10
  extract_lets +onlyGivenNames -underBinder -merge -useContext x12
  refine Upd.cut (t := x12) ?_ (fun h12 => ?_)
  · unfold x12
    refine Upd.step ?_ (State.evalAll_upd ..) (by first | with_reducible exact RegId.all_bit rfl _ | rfl | (split <;> rfl) | (unfold enterEvt; split <;> rfl) | (unfold pendFld; split <;> rfl) | (rw [padFld_reg (by assumption)]; rfl) | (unfold phWord; rcases a2 with _ | _ | _ | _ | _ | a2 <;> rfl) | exact RegId.all_bit rfl _)
    exact h10
  clear_value x12
  refine Upd.when ?_ (fun x13 h13 => ?_)
  · exact h12
  · refine Upd.when ?_ (fun x14 h14 => ?_)
    · exact h13
    · refine Upd.raise ?_ (by first | with_reducible exact RegId.all_bit rfl _ | rfl | (split <;> rfl) | (unfold enterEvt; split <;> rfl) | (unfold pendFld; split <;> rfl) | (rw [padFld_reg (by assumption)]; rfl) | (unfold phWord; rcases a2 with _ | _ | _ | _ | _ | a2 <;> rfl) | exact RegId.all_bit rfl _)
      exact h14

theorem State.bstCmdWrite_upd (a1 : W32) (s : State) :
    Upd 0x20838c2fc85ff1e0000000007ffffffffffffffffffffffffffffffffffffffffffffffffffffffffffffffffffffffffffffffffffffffffffffffffffffffffffffffffffffffffffffffffffffffffffff s (State.bstCmdWrite a1 s) := by
  unfold State.bstCmdWrite
  extract_lets +onlyGivenNames -underBinder -merge -useContext x1
  try clear_value x1
  split
  · extract_lets +onlyGivenNames -underBinder -merge -useContext x2
    try clear_value x2
    extract_lets +onlyGivenNames -underBinder -merge -useContext x3
    try clear_value x3
    extract_lets +onlyGivenNames -underBinder -merge -useContext x4
    refine Upd.cut (t := x4) ?_ (fun h4 => ?_)
    · unfold x4
      refine Upd.ite ?_ ?_
      · refine Upd.step ?_ (State.useFree_upd ..) rfl
        exact Upd.refl _ _
      · exact Upd.refl _ _
    clear_value x4
    refine Upd.step ?_ (State.bstCode_upd ..) rfl
    refine Upd.when ?_ (fun x5 h5 => ?_)
    · exact h4
    · refine Upd.step ?_ (State.modBst_upd ..) rfl
      exact h5
  · extract_lets +onlyGivenNames -underBinder -merge -useContext x6
    try clear_value x6
    refine Upd.step ?_ (State.bstCode_upd ..) rfl
    refine Upd.when ?_ (fun x7 h7 => ?_)
    · exact Upd.refl _ _
    · refine Upd.step ?_ (State.modBst_upd ..) rfl
      exact h7
  · refine Upd.ite ?_ ?_
    · refine Upd.step ?_ (State.bstCode_upd ..) rfl
      refine Upd.raise ?_ rfl
      refine Upd.step ?_ (State.bstOutcome_upd ..) rfl
      refine Upd.step ?_ (State.modBst_upd ..) rfl
      exact Upd.refl _ _
    · refine Upd.step ?_ (State.bstCode_upd ..) rfl
      exact Upd.refl _ _
  · split
    · refine Upd.step ?_ (State.bstCode_upd ..) rfl
      refine Upd.step ?_ (State.testRestore_upd ..) rfl
      refine Upd.setFld ?_ rfl
      refine Upd.step ?_ (State.modBst_upd ..) rfl
      exact Upd.refl _ _
    · refine Upd.step ?_ (State.bstCode_upd ..) rfl
      exact Upd.refl _ _
  · refine Upd.step ?_ (State.bstCode_upd ..) rfl
    exact Upd.refl _ _

theorem execBstRun_upd (a1 : Master) (a2 : W32) (s : State) :
    ∃ t, execBstRun a1 a2 s = .next t ∧ Upd 0x20838c2fe85ff7e0000000007ffffffffffffffffffffffffffffffffffffffffffffffffffffffffffffffffffffffffffffffffffffffffffffffffffffffffffffffffffffffffffffffffffffffffffff s t := by
  unfold execBstRun
  refine ⟨_, rfl, ?_⟩
  refine Upd.guardW ?_ (fun x1 h1 => ?_) rfl
  · exact Upd.refl _ _
  · refine Upd.step ?_ (State.bstCmdWrite_upd ..) rfl
    exact h1

theorem execBstFull_upd (a1 : Master) (a2 : W32) (s : State) :
    ∃ t, execBstFull a1 a2 s = .next t ∧ Upd 0x20838c2fe85ff7e0000000007ffffffffffffffffffffffffffffffffffffffffffffffffffffffffffffffffffffffffffffffffffffffffffffffffffffffffffffffffffffffffffffffffffffffffffff s t := by
  unfold execBstFull
  refine ⟨_, rfl, ?_⟩
  refine Upd.guardW ?_ (fun x1 h1 => ?_) rfl
  · exact Upd.refl _ _
  · refine Upd.step ?_ (State.bstCmdWrite_upd ..) rfl
    exact h1

theorem execBstCancel_upd (a1 : Master) (a2 : W32) (s : State) :
    ∃ t, execBstCancel a1 a2 s = .next t ∧ Upd 0x20838c2fe85ff7e0000000007ffffffffffffffffffffffffffffffffffffffffffffffffffffffffffffffffffffffffffffffffffffffffffffffffffffffffffffffffffffffffffffffffffffffffffff s t := by
  unfold execBstCancel
  refine ⟨_, rfl, ?_⟩
  refine Upd.guardW ?_ (fun x1 h1 => ?_) rfl
  · exact Upd.refl _ _
  · refine Upd.step ?_ (State.bstCmdWrite_upd ..) rfl
    exact h1

theorem execBstRelease_upd (a1 : Master) (a2 : W32) (s : State) :
    ∃ t, execBstRelease a1 a2 s = .next t ∧ Upd 0x20838c2fe85ff7e0000000007ffffffffffffffffffffffffffffffffffffffffffffffffffffffffffffffffffffffffffffffffffffffffffffffffffffffffffffffffffffffffffffffffffffffffffff s t := by
  unfold execBstRelease
  refine ⟨_, rfl, ?_⟩
  refine Upd.guardW ?_ (fun x1 h1 => ?_) rfl
  · exact Upd.refl _ _
  · refine Upd.step ?_ (State.bstCmdWrite_upd ..) rfl
    exact h1

theorem State.testStart_upd (a1 : BstTest) (s : State) :
    Upd 0x2f77dfffffffffe0000000007ffffffffffffffffffffffffffffffffffffffffffffffffffffffffffffffffffffffffffffffffffffffffffffffffffffffffffffffffffffffffffffffffffffffffffff s (State.testStart a1 s) := by
  unfold State.testStart
  extract_lets +onlyGivenNames -underBinder -merge -useContext x1
  try clear_value x1
  extract_lets +onlyGivenNames -underBinder -merge -useContext x2
  refine Upd.cut (t := x2) ?_ (fun h2 => ?_)
  · unfold x2
    refine Upd.when ?_ (fun x3 h3 => ?_)
    · refine Upd.setFld ?_ rfl
      refine Upd.step ?_ (State.modBst_upd ..) rfl
      exact Upd.refl _ _
    · refine Upd.step ?_ (State.calAbandon_upd ..) rfl
      refine Upd.setFlag ?_ rfl
      exact h3
  clear_value x2
  extract_lets +onlyGivenNames -underBinder -merge -useContext x4
  refine Upd.cut (t := x4) ?_ (fun h4 => ?_)
  · unfold x4
    refine Upd.when ?_ (fun x5 h5 => ?_)
    · exact h2
    · refine Upd.step ?_ (State.laneFail_upd ..) rfl
      exact h5
  clear_value x4
  split
  · refine Upd.step ?_ (State.evalAll_upd ..) rfl
    refine Upd.step ?_ (State.srcBegin_upd ..) rfl
    exact h4
  · extract_lets +onlyGivenNames -underBinder -merge -useContext x6
    try clear_value x6
    refine Upd.ite ?_ ?_
    · refine Upd.each ?_ (fun n7 x7 h7 => ?_) _
      · exact h4
      · refine Upd.step ?_ (State.srcBegin_upd ..) rfl
        exact h7
    · extract_lets +onlyGivenNames -underBinder -merge -useContext x8
      try clear_value x8
      refine Upd.step ?_ (State.evalAll_upd ..) rfl
      refine Upd.set_asserted ?_ rfl
      exact h4

theorem State.fullEnd_upd (s : State) :
    Upd 0x2761db3ffffff6e0000000007ffffffffffffffffffffffffffffffffffffffffffffffffffffffffffffffffffffffffffffffffffffffffffffffffffffffffffffffffffffffffffffffffffffffffffff s (State.fullEnd s) := by
  unfold State.fullEnd
  extract_lets +onlyGivenNames -underBinder -merge -useContext x1
  try clear_value x1
  extract_lets +onlyGivenNames -underBinder -merge -useContext x2
  refine Upd.cut (t := x2) ?_ (fun h2 => ?_)
  · unfold x2
    refine Upd.step ?_ (State.modBst_upd ..) rfl
    exact Upd.refl _ _
  clear_value x2
  extract_lets +onlyGivenNames -underBinder -merge -useContext x3
  refine Upd.cut (t := x3) ?_ (fun h3 => ?_)
  · unfold x3
    refine Upd.each ?_ (fun n4 x4 h4 => ?_) _
    · exact h2
    · refine Upd.step ?_ (State.modPwr_upd ..) rfl
      refine Upd.setFld ?_ rfl
      refine Upd.step ?_ (State.setDom_upd ..) rfl
      refine Upd.step ?_ (State.domLoss_upd ..) rfl
      exact h4
  clear_value x3
  refine Upd.step ?_ (State.logFree_upd ..) rfl
  refine Upd.step ?_ (State.evalAll_upd ..) rfl
  refine Upd.step ?_ (State.railsEval_upd ..) rfl
  exact h3

theorem execTestAdmit_upd (s : State) :
    ∃ t, execTestAdmit s = .next t ∧ Upd 0x2f77dfffffffffe0000000007ffffffffffffffffffffffffffffffffffffffffffffffffffffffffffffffffffffffffffffffffffffffffffffffffffffffffffffffffffffffffffffffffffffffffffff s t := by
  unfold execTestAdmit
  refine ⟨_, rfl, ?_⟩
  refine Upd.ite ?_ ?_
  · exact Upd.refl _ _
  · split
    · refine Upd.ite ?_ ?_
      · exact Upd.refl _ _
      · extract_lets +onlyGivenNames -underBinder -merge -useContext x1
        refine Upd.cut (t := x1) ?_ (fun h1 => ?_)
        · unfold x1
          refine Upd.step ?_ (State.modBst_upd ..) rfl
          exact Upd.refl _ _
        clear_value x1
        refine Upd.ite ?_ ?_
        · refine Upd.step ?_ (State.testStart_upd ..) rfl
          exact h1
        · refine Upd.raise ?_ rfl
          refine Upd.step ?_ (State.bstOutcome_upd ..) rfl
          exact h1
    · refine Upd.ite ?_ ?_
      · refine Upd.step ?_ (State.fullEnd_upd ..) rfl
        exact Upd.refl _ _
      · exact Upd.refl _ _
    · split
      · exact Upd.refl _ _
      · refine Upd.ite ?_ ?_
        · refine Upd.step ?_ (State.testStart_upd ..) rfl
          refine Upd.step ?_ (State.modBst_upd ..) rfl
          exact Upd.refl _ _
        · exact Upd.refl _ _

theorem State.testReport_upd (a1 : ℕ) (a2 : BstEnd) (a3 : ℕ) (s : State) :
    Upd 0x200000000000060000000000000000000000000000800001480000000000000000000000000000000000000000000000000000000000000000000000000000000000000000000000000000000000000000000 s (State.testReport a1 a2 a3 s) := by
  unfold State.testReport
  extract_lets +onlyGivenNames -underBinder -merge -useContext x1
  refine Upd.cut (t := x1) ?_ (fun h1 => ?_)
  · unfold x1
    refine Upd.bumpFld ?_ rfl
    refine Upd.setFld ?_ rfl
    refine Upd.step ?_ (State.bstOutcome_upd ..) rfl
    exact Upd.refl _ _
  clear_value x1
  refine Upd.step ?_ (State.logFree_upd ..) rfl
  refine Upd.ite ?_ ?_
  · refine Upd.raise ?_ rfl
    exact h1
  · refine Upd.raise ?_ rfl
    exact h1

theorem execTestDone_upd (a1 : ℕ) (a2 : BstEnd) (a3 : ℕ) (s : State) :
    ∃ t, execTestDone a1 a2 a3 s = .next t ∧ Upd 0x27e3df3ffffff7e0000000007ffffffffffffffffffffffffffffffffffffffffffffffffffffffffffffffffffffffffffffffffffffffffffffffffffffffffffffffffffffffffffffffffffffffffffff s t := by
  unfold execTestDone
  refine ⟨_, rfl, ?_⟩
  refine Upd.ite ?_ ?_
  · exact Upd.refl _ _
  · split
    · exact Upd.refl _ _
    · extract_lets +onlyGivenNames -underBinder -merge -useContext x1
      refine Upd.cut (t := x1) ?_ (fun h1 => ?_)
      · unfold x1
        refine Upd.step ?_ (State.modBst_upd ..) rfl
        exact Upd.refl _ _
      clear_value x1
      extract_lets +onlyGivenNames -underBinder -merge -useContext x2
      refine Upd.cut (t := x2) ?_ (fun h2 => ?_)
      · unfold x2
        refine Upd.ite ?_ ?_
        · refine Upd.setFld ?_ rfl
          refine Upd.step ?_ (State.modBst_upd ..) rfl
          exact h1
        · refine Upd.step ?_ (State.testRestore_upd ..) rfl
          exact h1
      clear_value x2
      extract_lets +onlyGivenNames -underBinder -merge -useContext x3
      refine Upd.cut (t := x3) ?_ (fun h3 => ?_)
      · unfold x3
        refine Upd.step ?_ (State.testReport_upd ..) rfl
        exact h2
      clear_value x3
      refine Upd.ite ?_ ?_
      · refine Upd.step ?_ (State.fullEnd_upd ..) rfl
        exact h3
      · exact h3

theorem execBstExpired_upd (a1 : ℕ) (s : State) :
    ∃ t, execBstExpired a1 s = .next t ∧ Upd 0x100000000000000000000000000000000000000000000480000000000000000000000000000000000000000000000000000000000000000000000000000000000000000000000000000000000000000000 s t := by
  unfold execBstExpired
  refine ⟨_, rfl, ?_⟩
  refine Upd.ite ?_ ?_
  · refine Upd.raise ?_ rfl
    refine Upd.step ?_ (State.bstOutcome_upd ..) rfl
    refine Upd.step ?_ (State.modBst_upd ..) rfl
    exact Upd.refl _ _
  · exact Upd.refl _ _

end Sys2Proof.Machine
end

