-- ==== Sys2Proof/Laws/FootSaf.lean ====
section
/-! SUPPORT. The footprints of the operations of Machine/Saf.lean: what each may change. -/

set_option linter.unreachableTactic false
set_option linter.unusedTactic false
set_option linter.unusedVariables false

namespace Sys2Proof.Machine

theorem execFaultDetected_upd (a1 : ℕ) (a2 : ℕ) (s : State) :
    ∃ t, execFaultDetected a1 a2 s = .next t ∧ Upd 0x20000000181a4620000000000000000000180000a281b80500000000000120020000000000000000000000000000000010006600000800211300004000000000000000000000ce00000000000000000000000 s t := by
  unfold execFaultDetected
  refine ⟨_, rfl, ?_⟩
  split
  · refine Upd.ite ?_ ?_
    · refine Upd.step ?_ (State.pllLost_upd ..) rfl
      exact Upd.refl _ _
    · refine Upd.ite ?_ ?_
      · exact Upd.refl _ _
      · refine Upd.step ?_ (State.qlEval_upd ..) rfl
        refine Upd.step ?_ (State.ppsEval_upd ..) rfl
        refine Upd.set_plls ?_ rfl
        exact Upd.refl _ _
  · refine Upd.step ?_ (State.qlEval_upd ..) rfl
    refine Upd.step ?_ (State.detect_upd ..) rfl
    exact Upd.refl _ _
  · refine Upd.step ?_ (State.qlEval_upd ..) rfl
    refine Upd.step ?_ (State.detect_upd ..) rfl
    exact Upd.refl _ _
  · refine Upd.step ?_ (State.qlEval_upd ..) rfl
    refine Upd.step ?_ (State.detect_upd ..) rfl
    exact Upd.refl _ _
  · exact Upd.refl _ _

theorem State.upsetShow_upd (a1 : RegKey) (s : State) :
    Upd 0x200000000000000000000000000000000000000000000000000000000000000000000000000000000000000000000000000000000000000000000000000000c800000000000000000000000 s (State.upsetShow a1 s) := by
  unfold State.upsetShow
  split
  · refine Upd.step ?_ (State.shapeShow_upd ..) rfl
    exact Upd.refl _ _
  · refine Upd.step ?_ (State.skewNew_upd ..) rfl
    exact Upd.refl _ _
  · exact Upd.refl _ _

theorem State.upset_upd (a1 : RegKey) (a2 : W32) (s : State) :
    Upd 0x20000008a85ec6e0000000007ffffffffffffffffffffffffffffffffffffffffffffffffffffffffffffffffffffffffffffffffffffffffffffffffffffffffffffffffffffffffffffffffffffffffffff s (State.upset a1 a2 s) := by
  unfold State.upset
  extract_lets +onlyGivenNames -underBinder -merge -useContext x1
  try clear_value x1
  extract_lets +onlyGivenNames -underBinder -merge -useContext x2
  refine Upd.cut (t := x2) ?_ (fun h2 => ?_)
  · unfold x2
    refine Upd.step ?_ (State.upsetShow_upd ..) (by first | with_reducible exact RegId.all_bit rfl _ | rfl | (split <;> rfl) | (unfold enterEvt; split <;> rfl) | (unfold pendFld; split <;> rfl) | (rw [padFld_reg (by assumption)]; rfl) | (unfold phWord; rcases a2 with _ | _ | _ | _ | _ | a2 <;> rfl) | exact RegId.all_bit rfl _)
    refine Upd.wr ?_ (by first | with_reducible exact RegId.all_bit rfl _ | rfl | (split <;> rfl) | (unfold enterEvt; split <;> rfl) | (unfold pendFld; split <;> rfl) | (rw [padFld_reg (by assumption)]; rfl) | (unfold phWord; rcases a2 with _ | _ | _ | _ | _ | a2 <;> rfl) | exact RegId.all_bit rfl _)
    exact Upd.refl _ _
  clear_value x2
  refine Upd.step ?_ (State.evalAll_upd ..) (by first | with_reducible exact RegId.all_bit rfl _ | rfl | (split <;> rfl) | (unfold enterEvt; split <;> rfl) | (unfold pendFld; split <;> rfl) | (rw [padFld_reg (by assumption)]; rfl) | (unfold phWord; rcases a2 with _ | _ | _ | _ | _ | a2 <;> rfl) | exact RegId.all_bit rfl _)
  refine Upd.step ?_ (State.detect_upd ..) (by first | with_reducible exact RegId.all_bit rfl _ | rfl | (split <;> rfl) | (unfold enterEvt; split <;> rfl) | (unfold pendFld; split <;> rfl) | (rw [padFld_reg (by assumption)]; rfl) | (unfold phWord; rcases a2 with _ | _ | _ | _ | _ | a2 <;> rfl) | exact RegId.all_bit rfl _)
  refine Upd.step ?_ (State.cfgErr_upd ..) (by first | with_reducible exact RegId.all_bit rfl _ | rfl | (split <;> rfl) | (unfold enterEvt; split <;> rfl) | (unfold pendFld; split <;> rfl) | (rw [padFld_reg (by assumption)]; rfl) | (unfold phWord; rcases a2 with _ | _ | _ | _ | _ | a2 <;> rfl) | exact RegId.all_bit rfl _)
  refine Upd.set_cfgBad ?_ (by first | with_reducible exact RegId.all_bit rfl _ | rfl | (split <;> rfl) | (unfold enterEvt; split <;> rfl) | (unfold pendFld; split <;> rfl) | (rw [padFld_reg (by assumption)]; rfl) | (unfold phWord; rcases a2 with _ | _ | _ | _ | _ | a2 <;> rfl) | exact RegId.all_bit rfl _)
  exact h2

theorem execCfgParityErr_upd (a1 : ℕ) (a2 : W32) (s : State) :
    ∃ t, execCfgParityErr a1 a2 s = .next t ∧ Upd 0x20000008a85ec6e0000000007ffffffffffffffffffffffffffffffffffffffffffffffffffffffffffffffffffffffffffffffffffffffffffffffffffffffffffffffffffffffffffffffffffffffffffff s t := by
  unfold execCfgParityErr
  refine ⟨_, rfl, ?_⟩
  split
  · refine Upd.ite ?_ ?_
    · refine Upd.step ?_ (State.upset_upd ..) rfl
      exact Upd.refl _ _
    · exact Upd.refl _ _
  · exact Upd.refl _ _

theorem execCfgScan_upd (a1 : List ℕ) (s : State) :
    ∃ t, execCfgScan a1 s = .next t ∧ Upd 0x20000008a85ec6e0000000007ffffffffffffffffffffffffffffffffffffffffffffffffffffffffffffffffffffffffffffffffffffffffffffffffffffffffffffffffffffffffffffffffffffffffffff s t := by
  unfold execCfgScan
  refine ⟨_, rfl, ?_⟩
  refine Upd.each ?_ (fun n1 x1 h1 => ?_) _
  · exact Upd.refl _ _
  · split
    · refine Upd.ite ?_ ?_
      · refine Upd.step ?_ (State.upset_upd ..) rfl
        refine Upd.step ?_ (State.useFree_upd ..) rfl
        exact h1
      · exact h1
    · exact h1

theorem State.winCtrlWrite_upd (a1 : Master) (a2 : W32) (s : State) :
    Upd 0x25000000585e46e0000000000000000000180017b281b8050000000000012002000000000000000000000800000004001000660000080021130000550080000180001090cb20ce424e0000004000000000000 s (State.winCtrlWrite a1 a2 s) := by
  unfold State.winCtrlWrite
  refine Upd.ite ?_ ?_
  · refine Upd.raise ?_ rfl
    exact Upd.refl _ _
  · extract_lets +onlyGivenNames -underBinder -merge -useContext x1
    refine Upd.cut (t := x1) ?_ (fun h1 => ?_)
    · unfold x1
      refine Upd.step ?_ (State.qlEval_upd ..) rfl
      refine Upd.step ?_ (State.ppsEval_upd ..) rfl
      refine Upd.plainWrite ?_ rfl
      exact Upd.refl _ _
    clear_value x1
    refine Upd.ite ?_ ?_
    · refine Upd.step ?_ (State.winShut_upd ..) rfl
      exact h1
    · refine Upd.ite ?_ ?_
      · refine Upd.step ?_ (State.winOpen_upd ..) rfl
        exact h1
      · exact h1

theorem execWinOpen_upd (a1 : Master) (a2 : W32) (s : State) :
    ∃ t, execWinOpen a1 a2 s = .next t ∧ Upd 0x25000000785e47e0000000000000000000186017b281b8050000000000012002000000000000000000000800000004001000660000080021130000550080000180001090cb20ce424e0000004000006203400 s t := by
  unfold execWinOpen
  refine ⟨_, rfl, ?_⟩
  refine Upd.guardW ?_ (fun x1 h1 => ?_) rfl
  · exact Upd.refl _ _
  · refine Upd.step ?_ (State.winCtrlWrite_upd ..) rfl
    exact h1

theorem execWinClose_upd (a1 : Master) (a2 : W32) (s : State) :
    ∃ t, execWinClose a1 a2 s = .next t ∧ Upd 0x25000000785e47e0000000000000000000186017b281b8050000000000012002000000000000000000000800000004001000660000080021130000550080000180001090cb20ce424e0000004000006203400 s t := by
  unfold execWinClose
  refine ⟨_, rfl, ?_⟩
  refine Upd.guardW ?_ (fun x1 h1 => ?_) rfl
  · exact Upd.refl _ _
  · refine Upd.step ?_ (State.winCtrlWrite_upd ..) rfl
    exact h1

theorem execWindowExpiry_upd (s : State) :
    ∃ t, execWindowExpiry s = .next t ∧ Upd 0x25000000585e46e0000000000000000000180016b281b8050000000000012002000000000000000000000800000004001000660000080021130000550080000180001090cb20ce424e0000004000000000000 s t := by
  unfold execWindowExpiry
  refine ⟨_, rfl, ?_⟩
  refine Upd.ite ?_ ?_
  · refine Upd.step ?_ (State.winShut_upd ..) rfl
    exact Upd.refl _ _
  · exact Upd.refl _ _

theorem State.injWrite_upd (a1 : Master) (a2 : ℕ) (a3 : W32) (s : State) :
    Upd 0x26000000585e46e0000000000000000000180014b281b8050000000000012002000000000000000000000800000004001000660000080021130000550080000180001090cb20ce424e0000004000000000000 s (State.injWrite a1 a2 a3 s) := by
  unfold State.injWrite
  refine Upd.ite ?_ ?_
  · refine Upd.raise ?_ rfl
    exact Upd.refl _ _
  · extract_lets +onlyGivenNames -underBinder -merge -useContext x1
    refine Upd.cut (t := x1) ?_ (fun h1 => ?_)
    · unfold x1
      refine Upd.step ?_ (State.injEval_upd ..) rfl
      refine Upd.setFld ?_ rfl
      exact Upd.refl _ _
    clear_value x1
    refine Upd.step ?_ (State.injEval_upd ..) rfl
    refine Upd.set_injAt ?_ rfl
    refine Upd.plainWrite ?_ rfl
    exact h1

theorem execInjCfgWrite_upd (a1 : Master) (a2 : ℕ) (a3 : W32) (s : State) :
    ∃ t, execInjCfgWrite a1 a2 a3 s = .next t ∧ Upd 0x26000000785e47e0000000000000000000186014b281b8050000000000012002000000000000000000000800000004001000660000080021130000550080000180001090cb20ce424e0000004000006203400 s t := by
  unfold execInjCfgWrite
  refine ⟨_, rfl, ?_⟩
  refine Upd.guardW ?_ (fun x1 h1 => ?_) rfl
  · exact Upd.refl _ _
  · refine Upd.step ?_ (State.injWrite_upd ..) rfl
    exact h1

theorem execInjEnd_upd (a1 : ℕ) (s : State) :
    ∃ t, execInjEnd a1 s = .next t ∧ Upd 0x24000000585e46e0000000000000000000180014b281b8050000000000012002000000000000000000000800000004001000660000080021130000550080000180001090cb20ce424e0000004000000000000 s t := by
  unfold execInjEnd
  refine ⟨_, rfl, ?_⟩
  refine Upd.ite ?_ ?_
  · refine Upd.step ?_ (State.injEval_upd ..) rfl
    refine Upd.raise ?_ rfl
    refine Upd.setFld ?_ rfl
    exact Upd.refl _ _
  · exact Upd.refl _ _

end Sys2Proof.Machine
end

