-- ==== Sys2Proof/Laws/FootPmc.lean ====
section
/-! SUPPORT. The footprints of the operations of Machine/Pmc.lean: what each may change. -/

set_option linter.unreachableTactic false
set_option linter.unusedTactic false
set_option linter.unusedVariables false

namespace Sys2Proof.Machine

theorem State.logWrite_upd (a1 : LogEnt) (s : State) :
    Upd 0x8020000000080000000000000000000000000000600000000000000000000000000000000000000000000000000000000000000000000000000000000000000000000000000000000000000000000000000 s (State.logWrite a1 s) := by
  unfold State.logWrite
  extract_lets +onlyGivenNames -underBinder -merge -useContext x1
  try clear_value x1
  extract_lets +onlyGivenNames -underBinder -merge -useContext y2_0 x2
  refine Upd.cut (t := x2) ?_ (fun h2 => ?_)
  · unfold x2
    try unfold y2_0
    refine Upd.set_logAt_logSeq ?_ rfl rfl
    refine Upd.step ?_ (State.tackPut_upd ..) rfl
    exact Upd.refl _ _
  clear_value x2 y2_0
  refine Upd.wrN ?_ rfl
  refine Upd.wrN ?_ rfl
  exact h2

theorem execLogDrain_upd (s : State) :
    ∃ t, execLogDrain s = .next t ∧ Upd 0x80200000000e0000000000000000000000000000600000000000000000000000000000000000000000000000000000000000000000000000000000000000000000000000000000000000000000000000000 s t := by
  unfold execLogDrain
  refine ⟨_, rfl, ?_⟩
  refine Upd.ite ?_ ?_
  · exact Upd.refl _ _
  · refine Upd.ite ?_ ?_
    · refine Upd.set_logLost ?_ rfl
      refine Upd.step ?_ (State.logWrite_upd ..) rfl
      exact Upd.refl _ _
    · split
      · exact Upd.refl _ _
      · refine Upd.set_logQ ?_ rfl
        refine Upd.step ?_ (State.logWrite_upd ..) rfl
        exact Upd.refl _ _

theorem State.pmcSnap_upd (s : State) :
    Upd 0x60000000000000000000000000000000000000000000000000000000000000000000000000000000000000000000000000000000000000000000000000 s (State.pmcSnap s) := by
  unfold State.pmcSnap
  refine Upd.upto ?_ (fun n1 x1 h1 => ?_) _
  · exact Upd.refl _ _
  · refine Upd.wr ?_ rfl
    refine Upd.wr ?_ rfl
    exact h1

theorem State.pmcCfgWrite_upd (a1 : W32) (s : State) :
    Upd 0x60000800000000000000000000000000000000000000000000000000000000000000000000000000000000000000000000000000000000000000000000 s (State.pmcCfgWrite a1 s) := by
  unfold State.pmcCfgWrite
  refine Upd.when ?_ (fun x1 h1 => ?_)
  · refine Upd.plainWrite ?_ rfl
    exact Upd.refl _ _
  · refine Upd.step ?_ (State.pmcSnap_upd ..) rfl
    exact h1

theorem execSnap_upd (a1 : Master) (a2 : W32) (s : State) :
    ∃ t, execSnap a1 a2 s = .next t ∧ Upd 0x20000000200007000000000000000000000060000087b805800000000000000000000000000000000000000000000000000000000000000000000000000000000000000000000000000000000000006203400 s t := by
  unfold execSnap
  refine ⟨_, rfl, ?_⟩
  refine Upd.guardW ?_ (fun x1 h1 => ?_) rfl
  · exact Upd.refl _ _
  · refine Upd.step ?_ (State.pmcCfgWrite_upd ..) rfl
    exact h1

theorem State.dumpPut_upd (a1 : ℕ) (a2 : List Byte) (s : State) :
    Upd 0x40000030000000000000000000000000000000000000000000000000000000000000000000000000000000000000000000000000000000000000000000000000000000000000000000000000000000000 s (State.dumpPut a1 a2 s) := by
  unfold State.dumpPut
  refine Upd.ite ?_ ?_
  · refine Upd.upto (Upd.refl _ _) (fun n x hx => ?_) _
    exact Upd.when hx fun y hy => Upd.step hy (State.hayWhole_upd ..) rfl
  · refine Upd.set_ram (Upd.refl _ _) rfl fun h => Memory.wf_foldl (fun t b ht => ?_) _ h
    dsimp only
    split
    · exact Memory.wf_set ht _ _
    · exact ht

theorem execDump_upd (s : State) :
    ∃ t, execDump s = .next t ∧ Upd 0x280040000030000000000000000000000000000000000781000000000000000000000000000000000000000000000000000000000000000000000000000000000000000000000000000000000000000000000 s t := by
  unfold execDump
  refine ⟨_, rfl, ?_⟩
  refine Upd.ite ?_ ?_
  · exact Upd.refl _ _
  · extract_lets +onlyGivenNames -underBinder -merge -useContext x1
    try clear_value x1
    extract_lets +onlyGivenNames -underBinder -merge -useContext y2_0 x2
    refine Upd.cut (t := x2) ?_ (fun h2 => ?_)
    · unfold x2
      try unfold y2_0
      refine Upd.set_dumpAt ?_ rfl
      refine Upd.step ?_ (State.useFree_upd ..) rfl
      exact Upd.refl _ _
    clear_value x2 y2_0
    refine Upd.ite ?_ ?_
    · refine Upd.raise ?_ rfl
      refine Upd.bump ?_ rfl
      exact h2
    · extract_lets +onlyGivenNames -underBinder -merge -useContext x3
      try clear_value x3
      extract_lets +onlyGivenNames -underBinder -merge -useContext x4
      try clear_value x4
      extract_lets +onlyGivenNames -underBinder -merge -useContext x5
      try clear_value x5
      extract_lets +onlyGivenNames -underBinder -merge -useContext x6
      refine Upd.cut (t := x6) ?_ (fun h6 => ?_)
      · unfold x6
        refine Upd.wrN ?_ rfl
        refine Upd.step ?_ (State.dumpPut_upd ..) rfl
        exact h2
      clear_value x6
      extract_lets +onlyGivenNames -underBinder -merge -useContext x7
      refine Upd.cut (t := x7) ?_ (fun h7 => ?_)
      · unfold x7
        refine Upd.wrN ?_ rfl
        exact h6
      clear_value x7
      refine Upd.when ?_ (fun x8 h8 => ?_)
      · exact h7
      · refine Upd.raise ?_ rfl
        refine Upd.wrN ?_ rfl
        exact h8

theorem State.dumpCfgWrite_upd (a1 : W32) (s : State) :
    Upd 0x80000000000000000000000000000000000000000000009000000000000000000000000000000000000000000000000000000000000000000000000000000000000000000000000000000000000000000000 s (State.dumpCfgWrite a1 s) := by
  unfold State.dumpCfgWrite
  extract_lets +onlyGivenNames -underBinder -merge -useContext x1
  try clear_value x1
  extract_lets +onlyGivenNames -underBinder -merge -useContext x2
  refine Upd.cut (t := x2) ?_ (fun h2 => ?_)
  · unfold x2
    refine Upd.when ?_ (fun x3 h3 => ?_)
    · refine Upd.plainWrite ?_ rfl
      exact Upd.refl _ _
    · refine Upd.set_dumpAt ?_ rfl
      exact h3
  clear_value x2
  refine Upd.ite ?_ ?_
  · refine Upd.raise ?_ rfl
    refine Upd.setFld ?_ rfl
    exact h2
  · exact h2

theorem execDumpCfgWrite_upd (a1 : Master) (a2 : W32) (s : State) :
    ∃ t, execDumpCfgWrite a1 a2 s = .next t ∧ Upd 0x28000000200007000000000000000000000060000081b80d000000000000000000000000000000000000000000000000000000000000000000000000000000000000000000000000000000000000006203400 s t := by
  unfold execDumpCfgWrite
  refine ⟨_, rfl, ?_⟩
  refine Upd.guardW ?_ (fun x1 h1 => ?_) rfl
  · exact Upd.refl _ _
  · refine Upd.step ?_ (State.dumpCfgWrite_upd ..) rfl
    exact h1

theorem execOvf_upd (a1 : ℕ) (a2 : ℕ) (a3 : W32) (a4 : W32) (s : State) :
    ∃ t, execOvf a1 a2 a3 a4 s = .next t ∧ Upd 0x20000000000000000000000000000000000000000001b805000000000000000000000000000000000000000000000000000000000000000000000000000000000000000000000000000000000000000000000 s t := by
  unfold execOvf
  refine ⟨_, rfl, ?_⟩
  refine Upd.ite ?_ ?_
  · exact Upd.refl _ _
  · extract_lets +onlyGivenNames -underBinder -merge -useContext x1
    refine Upd.cut (t := x1) ?_ (fun h1 => ?_)
    · unfold x1
      refine Upd.step ?_ (State.pmcGain_upd ..) rfl
      exact Upd.refl _ _
    clear_value x1
    refine Upd.ite ?_ ?_
    · exact h1
    · extract_lets +onlyGivenNames -underBinder -merge -useContext x2
      refine Upd.cut (t := x2) ?_ (fun h2 => ?_)
      · unfold x2
        refine Upd.wr ?_ rfl
        refine Upd.wr ?_ rfl
        exact h1
      clear_value x2
      refine Upd.ite ?_ ?_
      · refine Upd.setFld ?_ rfl
        exact h2
      · exact h2

theorem execCtrLoad_upd (a1 : Master) (a2 : ℕ) (a3 : W32) (s : State) :
    ∃ t, execCtrLoad a1 a2 a3 s = .next t ∧ Upd 0x20000000200007000000000000000000000060000081b805000000000000000000000000000000000000000000000000000000000000000000000000000000000000000000000000000000000000006203400 s t := by
  unfold execCtrLoad
  refine ⟨_, rfl, ?_⟩
  refine Upd.guardW ?_ (fun x1 h1 => ?_) rfl
  · exact Upd.refl _ _
  · refine Upd.commitPair ?_ rfl rfl rfl
    exact h1

end Sys2Proof.Machine
end

