-- ==== Sys2Proof/Laws/FootCores.lean ====
section
/-! SUPPORT. The footprints of the operations of Machine/Cores.lean: what each may change. -/

set_option linter.unreachableTactic false
set_option linter.unusedTactic false
set_option linter.unusedVariables false

namespace Sys2Proof.Machine

theorem State.notAllowed_upd (a1 : Master) (a2 : ℕ) (s : State) :
    Upd 0x10000000000000000000000000000000000000000000000000000000000000000000000000000000000000000000000000000000000000000000000000000000000000000000000006200000 s (State.notAllowed a1 a2 s) := by
  unfold State.notAllowed
  refine Upd.step ?_ (State.accessErr_upd ..) rfl
  exact Upd.refl _ _

theorem Upd.coreWrite {w : Nat} {s t : State} {m : Master} {k : RegKey} {f : State → State} (h : Upd w s t) (hf : ∀ x, Upd w s x → Upd w s (f x))
    (hw : Nat.land 0x10000000000000000000000000000000000000000000000000000000000000000000000000000000000000000000000000000000000000000000000000000000000000000000000006200000 w = 0x10000000000000000000000000000000000000000000000000000000000000000000000000000000000000000000000000000000000000000000000000000000000000000000000006200000) :
    Upd w s (State.coreWrite m k f t) := by
  unfold State.coreWrite
  repeat' first
    | with_reducible assumption
    | with_reducible exact Upd.refl _ _
    | (show Nat.testBit _ _ = true; with_reducible assumption)
    | (show Nat.land _ _ = _; exact land_trans (b := 0x10000000000000000000000000000000000000000000000000000000000000000000000000000000000000000000000000000000000000000000000000000000000000000000000006200000) rfl hw)
    | (show Nat.testBit _ _ = true; exact testBit_up (a := 0x10000000000000000000000000000000000000000000000000000000000000000000000000000000000000000000000000000000000000000000000000000000000000000000000006200000) hw rfl)
    | with_reducible refine hf _ ?_
    | (extract_lets +onlyGivenNames x; refine Upd.cut (t := x) ?_ (fun hx => ?_); (on_goal 2 => clear_value x); unfold x; clear x)
    | (extract_lets +onlyGivenNames x; clear_value x)
    | with_reducible apply Upd.ite
    | with_reducible refine Upd.step ?_ (State.notAllowed_upd ..) ?_
    | split

theorem execWdtExpiry_upd (a1 : ℕ) (s : State) :
    ∃ t, execWdtExpiry a1 s = .next t ∧ Upd 0x2f77dfffffffffe0000000007ffffffffffffffffffffffffffffffffffffffffffffffffffffffffffffffffffffffffffffffffffffffffffffffffffffffffffffffffffffffffffffffffffffffffffff s t := by
  unfold execWdtExpiry
  refine ⟨_, rfl, ?_⟩
  refine Upd.ite ?_ ?_
  · refine Upd.step ?_ (State.logFree_upd ..) rfl
    refine Upd.step ?_ (State.srcBegin_upd ..) rfl
    refine Upd.step ?_ (State.qlEval_upd ..) rfl
    refine Upd.step ?_ (State.detect_upd ..) rfl
    refine Upd.wrN ?_ rfl
    exact Upd.refl _ _
  · exact Upd.refl _ _

theorem execWdtKick_upd (a1 : Master) (a2 : ℕ) (a3 : W32) (s : State) :
    ∃ t, execWdtKick a1 a2 a3 s = .next t ∧ Upd 0x20000000200007000000000000000000000260000081b805000000000000000000000000000000000000000000000000000000000000000000000000000000000000000000000000000000000000006203400 s t := by
  unfold execWdtKick
  refine ⟨_, rfl, ?_⟩
  refine Upd.guardW ?_ (fun x1 h1 => ?_) rfl
  · exact Upd.refl _ _
  · refine Upd.coreWrite ?_ (fun x2 h2 => ?_) rfl
    · exact h1
    · refine Upd.wrN ?_ rfl
      exact h2

theorem State.wdtCfgWrite_upd (a1 : ℕ) (a2 : W32) (s : State) :
    Upd 0x800000000000000000000000000000000000000000000000000000000000000000000000000000000000000000000000000000000000000000000000000000000 s (State.wdtCfgWrite a1 a2 s) := by
  unfold State.wdtCfgWrite
  extract_lets +onlyGivenNames -underBinder -merge -useContext x1
  try clear_value x1
  extract_lets +onlyGivenNames -underBinder -merge -useContext x2
  refine Upd.cut (t := x2) ?_ (fun h2 => ?_)
  · unfold x2
    refine Upd.plainWrite ?_ rfl
    exact Upd.refl _ _
  clear_value x2
  refine Upd.ite ?_ ?_
  · refine Upd.setFld ?_ rfl
    exact h2
  · exact h2

theorem execAccessFault_upd (a1 : ℕ) (a2 : ℕ) (a3 : ℕ) (a4 : Bool) (s : State) :
    ∃ t, execAccessFault a1 a2 a3 a4 s = .next t ∧ Upd 0x20000000000006000000000000000000000060000081b805000000000000000000000000000000000000000000000000000000000000000000000000000000000000000000000000000000000000000000000 s t := by
  unfold execAccessFault
  refine ⟨_, rfl, ?_⟩
  refine Upd.ite ?_ ?_
  · refine Upd.step ?_ (State.mpuFault_upd ..) rfl
    exact Upd.refl _ _
  · exact Upd.refl _ _

theorem State.mpuWrite_upd (a1 : ℕ) (a2 : ℕ) (a3 : Bool) (a4 : W32) (s : State) :
    Upd 0x200000000000060000000000000000000000180000800001000000000000000000000000000000000000000000000000000000000000000000000000000000000000000000000000000000000000000000000 s (State.mpuWrite a1 a2 a3 a4 s) := by
  unfold State.mpuWrite
  refine Upd.ite (Upd.step (Upd.refl _ _) (State.logFree_upd ..) rfl) ?_
  cases a3 <;> exact Upd.plainWrite (Upd.refl _ _) rfl

theorem execMpuWrite_upd (a1 : Master) (a2 : ℕ) (a3 : ℕ) (a4 : Bool) (a5 : W32) (s : State) :
    ∃ t, execMpuWrite a1 a2 a3 a4 a5 s = .next t ∧ Upd 0x20000000200007000000000000000000000078000081b805000000000000000000000000000000000000000000000000000000000000000000000000000000000000000000000000000000000000006203400 s t := by
  unfold execMpuWrite
  refine ⟨_, rfl, ?_⟩
  refine Upd.guardW ?_ (fun x1 h1 => ?_) rfl
  · exact Upd.refl _ _
  · refine Upd.coreWrite ?_ (fun x2 h2 => ?_) rfl
    · exact h1
    · refine Upd.step ?_ (State.mpuWrite_upd ..) rfl
      exact h2

theorem Upd.lbWrite {w : Nat} {s t : State} {m : Master} {k : RegKey} {f : State → State} (h : Upd w s t) (hf : ∀ x, Upd w s x → Upd w s (f x))
    (hw : Nat.land 0x10000000000000000000000010000000000000000000000000000000000000000000000000000000000000000000000000000000000000000000000000000000000000000000000006200000 w = 0x10000000000000000000000010000000000000000000000000000000000000000000000000000000000000000000000000000000000000000000000000000000000000000000000006200000) :
    Upd w s (State.lbWrite m k f t) := by
  unfold State.lbWrite
  repeat' first
    | with_reducible assumption
    | with_reducible exact Upd.refl _ _
    | (show Nat.testBit _ _ = true; with_reducible assumption)
    | (show Nat.land _ _ = _; exact land_trans (b := 0x10000000000000000000000010000000000000000000000000000000000000000000000000000000000000000000000000000000000000000000000000000000000000000000000006200000) rfl hw)
    | (show Nat.testBit _ _ = true; exact testBit_up (a := 0x10000000000000000000000010000000000000000000000000000000000000000000000000000000000000000000000000000000000000000000000000000000000000000000000006200000) hw rfl)
    | with_reducible refine hf _ ?_
    | (extract_lets +onlyGivenNames x; refine Upd.cut (t := x) ?_ (fun hx => ?_); (on_goal 2 => clear_value x); unfold x; clear x)
    | (extract_lets +onlyGivenNames x; clear_value x)
    | with_reducible apply Upd.ite
    | with_reducible refine Upd.setFld ?_ ?_
    | with_reducible refine Upd.step ?_ (State.notAllowed_upd ..) ?_
    | split

theorem State.lbCmdWrite_upd (a1 : Master) (a2 : W32) (s : State) :
    Upd 0x4000000000010000000000000000000000010000000000000000000000000000000000000000000000000000000000000000000000000000000000000000000000000000000000000000000000006200000 s (State.lbCmdWrite a1 a2 s) := by
  unfold State.lbCmdWrite
  refine Upd.lbWrite ?_ (fun x1 h1 => ?_) rfl
  · exact Upd.refl _ _
  · refine Upd.set_lbCmd ?_ rfl
    refine Upd.setFld ?_ rfl
    refine Upd.setFld ?_ rfl
    exact h1

theorem execLbInfo_upd (a1 : Master) (a2 : W32) (s : State) :
    ∃ t, execLbInfo a1 a2 s = .next t ∧ Upd 0x20400000200007000000000000000000000061000081b805000000000000000000000000000000000000000000000000000000000000000000000000000000000000000000000000000000000000006203400 s t := by
  unfold execLbInfo
  refine ⟨_, rfl, ?_⟩
  refine Upd.guardW ?_ (fun x1 h1 => ?_) rfl
  · exact Upd.refl _ _
  · refine Upd.step ?_ (State.lbCmdWrite_upd ..) rfl
    exact h1

theorem execFlashRead_upd (a1 : Master) (a2 : W32) (s : State) :
    ∃ t, execFlashRead a1 a2 s = .next t ∧ Upd 0x20400000200007000000000000000000000061000081b805000000000000000000000000000000000000000000000000000000000000000000000000000000000000000000000000000000000000006203400 s t := by
  unfold execFlashRead
  refine ⟨_, rfl, ?_⟩
  refine Upd.guardW ?_ (fun x1 h1 => ?_) rfl
  · exact Upd.refl _ _
  · refine Upd.step ?_ (State.lbCmdWrite_upd ..) rfl
    exact h1

theorem execFlashErase_upd (a1 : Master) (a2 : W32) (s : State) :
    ∃ t, execFlashErase a1 a2 s = .next t ∧ Upd 0x20400000200007000000000000000000000061000081b805000000000000000000000000000000000000000000000000000000000000000000000000000000000000000000000000000000000000006203400 s t := by
  unfold execFlashErase
  refine ⟨_, rfl, ?_⟩
  refine Upd.guardW ?_ (fun x1 h1 => ?_) rfl
  · exact Upd.refl _ _
  · refine Upd.step ?_ (State.lbCmdWrite_upd ..) rfl
    exact h1

theorem execFlashProg_upd (a1 : Master) (a2 : W32) (s : State) :
    ∃ t, execFlashProg a1 a2 s = .next t ∧ Upd 0x20400000200007000000000000000000000061000081b805000000000000000000000000000000000000000000000000000000000000000000000000000000000000000000000000000000000000006203400 s t := by
  unfold execFlashProg
  refine ⟨_, rfl, ?_⟩
  refine Upd.guardW ?_ (fun x1 h1 => ?_) rfl
  · exact Upd.refl _ _
  · refine Upd.step ?_ (State.lbCmdWrite_upd ..) rfl
    exact h1

theorem execLogRead_upd (a1 : Master) (a2 : W32) (s : State) :
    ∃ t, execLogRead a1 a2 s = .next t ∧ Upd 0x20400000200007000000000000000000000061000081b805000000000000000000000000000000000000000000000000000000000000000000000000000000000000000000000000000000000000006203400 s t := by
  unfold execLogRead
  refine ⟨_, rfl, ?_⟩
  refine Upd.guardW ?_ (fun x1 h1 => ?_) rfl
  · exact Upd.refl _ _
  · refine Upd.step ?_ (State.lbCmdWrite_upd ..) rfl
    exact h1

theorem execTestWindow_upd (a1 : Master) (a2 : W32) (s : State) :
    ∃ t, execTestWindow a1 a2 s = .next t ∧ Upd 0x20400000200007000000000000000000000061000081b805000000000000000000000000000000000000000000000000000000000000000000000000000000000000000000000000000000000000006203400 s t := by
  unfold execTestWindow
  refine ⟨_, rfl, ?_⟩
  refine Upd.guardW ?_ (fun x1 h1 => ?_) rfl
  · exact Upd.refl _ _
  · refine Upd.step ?_ (State.lbCmdWrite_upd ..) rfl
    exact h1

theorem execReturnAuth_upd (a1 : Master) (a2 : W32) (s : State) :
    ∃ t, execReturnAuth a1 a2 s = .next t ∧ Upd 0x20400000200007000000000000000000000061000081b805000000000000000000000000000000000000000000000000000000000000000000000000000000000000000000000000000000000000006203400 s t := by
  unfold execReturnAuth
  refine ⟨_, rfl, ?_⟩
  refine Upd.guardW ?_ (fun x1 h1 => ?_) rfl
  · exact Upd.refl _ _
  · refine Upd.step ?_ (State.lbCmdWrite_upd ..) rfl
    exact h1

theorem State.lbEffect_upd (s : State) :
    Upd 0x25200000585e46e0000000000000000000180016b281b8050000000000012002000000000000000000000800000004001000660000080021130000550080000180001090cb20ce424e0000004000000000000 s (State.lbEffect s) := by
  unfold State.lbEffect
  extract_lets +onlyGivenNames -underBinder -merge -useContext x1
  try clear_value x1
  split
  · refine Upd.ite ?_ ?_
    · refine Upd.step ?_ (State.winShut_upd ..) rfl
      exact Upd.refl _ _
    · refine Upd.step ?_ (State.winOpen_upd ..) rfl
      exact Upd.refl _ _
  · extract_lets +onlyGivenNames -underBinder -merge -useContext x2
    try clear_value x2
    refine Upd.set_auth ?_ rfl
    exact Upd.refl _ _
  · exact Upd.refl _ _

theorem State.lbFinish_upd (a1 : ℕ) (a2 : List W32) (s : State) :
    Upd 0x50000000000000000000000000000000000000000000000000000000000000000000000000000000000000000000000000000000000000000000000000000000 s (State.lbFinish a1 a2 s) := by
  unfold State.lbFinish
  extract_lets +onlyGivenNames -underBinder -merge -useContext x1
  refine Upd.cut (t := x1) ?_ (fun h1 => ?_)
  · unfold x1
    refine Upd.upto ?_ (fun n2 x2 h2 => ?_) _
    · exact Upd.refl _ _
    · refine Upd.wr ?_ rfl
      exact h2
  clear_value x1
  refine Upd.setFld ?_ rfl
  refine Upd.setFld ?_ rfl
  refine Upd.setFld ?_ rfl
  exact h1

theorem execLbDone_upd (a1 : LbEnd) (s : State) :
    ∃ t, execLbDone a1 s = .next t ∧ Upd 0x2f7fdfffffffffe0000000007ffffffffffffffffffffffffffffffffffffffffffffffffffffffffffffffffffffffffffffffffffffffffffffffffffffffffffffffffffffffffffffffffffffffffffff s t := by
  unfold execLbDone
  refine ⟨_, rfl, ?_⟩
  refine Upd.ite ?_ ?_
  · exact Upd.refl _ _
  · extract_lets +onlyGivenNames -underBinder -merge -useContext x1
    try clear_value x1
    extract_lets +onlyGivenNames -underBinder -merge -useContext x2
    refine Upd.cut (t := x2) ?_ (fun h2 => ?_)
    · unfold x2
      refine Upd.when ?_ (fun x3 h3 => ?_)
      · exact Upd.refl _ _
      · refine Upd.step ?_ (State.lbEffect_upd ..) rfl
        exact h3
    clear_value x2
    extract_lets +onlyGivenNames -underBinder -merge -useContext x4
    try clear_value x4
    extract_lets +onlyGivenNames -underBinder -merge -useContext x5
    try clear_value x5
    extract_lets +onlyGivenNames -underBinder -merge -useContext x6
    refine Upd.cut (t := x6) ?_ (fun h6 => ?_)
    · unfold x6
      refine Upd.step ?_ (State.lbFinish_upd ..) rfl
      exact h2
    clear_value x6
    refine Upd.ite ?_ ?_
    · refine Upd.step ?_ (State.lcRequest_upd ..) rfl
      refine Upd.set_lcAuth ?_ rfl
      exact h6
    · exact h6

end Sys2Proof.Machine
end

