-- ==== Sys2Proof/Laws/FootEffects.lean ====
section
/-! SUPPORT. The footprints of the operations of Machine/Effects.lean: what each may change. -/

set_option linter.unreachableTactic false
set_option linter.unusedTactic false
set_option linter.unusedVariables false

namespace Sys2Proof.Machine

theorem Upd.errClear {w : Nat} {s t : State} {f g : Fld} {i : Nat} {v : W32} (h : Upd w s t)
    (hl : w.testBit f.reg.ctorIdx = true) (hh : w.testBit g.reg.ctorIdx = true) (hw : Nat.land 0x0 w = 0x0) :
    Upd w s (State.errClear f g i v t) := by
  unfold State.errClear
  repeat' first
    | with_reducible assumption
    | with_reducible exact Upd.refl _ _
    | (show Nat.testBit _ _ = true; with_reducible assumption)
    | (show Nat.land _ _ = _; exact land_trans (b := 0x0) rfl hw)
    | (show Nat.testBit _ _ = true; exact testBit_up (a := 0x0) hw rfl)
    | (extract_lets +onlyGivenNames x; refine Upd.cut (t := x) ?_ (fun hx => ?_); (on_goal 2 => clear_value x); unfold x; clear x)
    | (extract_lets +onlyGivenNames x; clear_value x)
    | with_reducible apply Upd.ite
    | with_reducible refine Upd.when ?_ (fun x hx => ?_)
    | with_reducible refine Upd.setFld ?_ ?_
    | split

theorem State.maskWrite_upd (a1 : ℕ) (a2 : W32) (s : State) :
    Upd 0x80000 s (State.maskWrite a1 a2 s) := by
  unfold State.maskWrite
  refine Upd.plainWrite ?_ rfl
  exact Upd.refl _ _

theorem State.coreIrqWrite_upd (a1 : Master) (a2 : ℕ) (a3 : W32) (s : State) :
    Upd 0x10000000000000000000000000000000000000000000000000000000000000000000000000000000000000000000000000000000000000000000000000000000000000000000000000023400 s (State.coreIrqWrite a1 a2 a3 s) := by
  unfold State.coreIrqWrite
  refine Upd.ite ?_ ?_
  · refine Upd.plainWrite ?_ rfl
    exact Upd.refl _ _
  · refine Upd.step ?_ (State.decodeErr_upd ..) rfl
    exact Upd.refl _ _

theorem State.appliedWrite_upd (a1 : W32) (s : State) :
    Upd 0x20000008885ec0e00000000000000000001800000001b8050000000000092003018024002000020000000800000004001000660000080021130000550080000180001091cf20cc40000000000000000000200 s (State.appliedWrite a1 s) := by
  unfold State.appliedWrite
  refine Upd.step ?_ (State.evalAll_upd ..) rfl
  refine Upd.plainWrite ?_ rfl
  exact Upd.refl _ _

theorem State.wakeMaskWrite_upd (a1 : ℕ) (a2 : W32) (s : State) :
    Upd 0x8000000 s (State.wakeMaskWrite a1 a2 s) := by
  unfold State.wakeMaskWrite
  refine Upd.plainWrite ?_ rfl
  exact Upd.refl _ _

theorem State.lbStatusWrite_upd (a1 : Master) (a2 : W32) (s : State) :
    Upd 0x10000000000000000000000010000000000000000000000000000000000000000000000000000000000000000000000000000000000000000000000000000000000000000000000006200000 s (State.lbStatusWrite a1 a2 s) := by
  unfold State.lbStatusWrite
  refine Upd.ite ?_ ?_
  · refine Upd.plainWrite ?_ rfl
    exact Upd.refl _ _
  · refine Upd.step ?_ (State.notAllowed_upd ..) rfl
    exact Upd.refl _ _

theorem State.corePageWrite_upd (a1 : Master) (a2 : RegKey) (a3 : W32) (s : State) :
    Upd 0x2000000000000700000000007ffffffffffffffffffffffffffffffffffffffffffffffffffffffffffffffffffffffffffffffffffffffffffffffffffffffffffffffffffffffffffffffffffffffffffff s (State.corePageWrite a1 a2 a3 s) := by
  unfold State.corePageWrite
  refine Upd.coreWrite ?_ (fun x1 h1 => ?_) (by first | with_reducible exact RegId.all_bit rfl _ | rfl | (split <;> rfl) | (unfold enterEvt; split <;> rfl) | (unfold pendFld; split <;> rfl) | (rw [padFld_reg (by assumption)]; rfl) | (unfold phWord; rcases a2 with _ | _ | _ | _ | _ | a2 <;> rfl) | exact RegId.all_bit rfl _)
  · exact Upd.refl _ _
  · split
    · refine Upd.step ?_ (State.mpuWrite_upd ..) (by first | with_reducible exact RegId.all_bit rfl _ | rfl | (split <;> rfl) | (unfold enterEvt; split <;> rfl) | (unfold pendFld; split <;> rfl) | (rw [padFld_reg (by assumption)]; rfl) | (unfold phWord; rcases a2 with _ | _ | _ | _ | _ | a2 <;> rfl) | exact RegId.all_bit rfl _)
      exact h1
    · refine Upd.step ?_ (State.mpuWrite_upd ..) (by first | with_reducible exact RegId.all_bit rfl _ | rfl | (split <;> rfl) | (unfold enterEvt; split <;> rfl) | (unfold pendFld; split <;> rfl) | (rw [padFld_reg (by assumption)]; rfl) | (unfold phWord; rcases a2 with _ | _ | _ | _ | _ | a2 <;> rfl) | exact RegId.all_bit rfl _)
      exact h1
    · refine Upd.errClear ?_ (by first | with_reducible exact RegId.all_bit rfl _ | rfl | (split <;> rfl) | (unfold enterEvt; split <;> rfl) | (unfold pendFld; split <;> rfl) | (rw [padFld_reg (by assumption)]; rfl) | (unfold phWord; rcases a2 with _ | _ | _ | _ | _ | a2 <;> rfl) | exact RegId.all_bit rfl _) (by first | with_reducible exact RegId.all_bit rfl _ | rfl | (split <;> rfl) | (unfold enterEvt; split <;> rfl) | (unfold pendFld; split <;> rfl) | (rw [padFld_reg (by assumption)]; rfl) | (unfold phWord; rcases a2 with _ | _ | _ | _ | _ | a2 <;> rfl) | exact RegId.all_bit rfl _) (by first | with_reducible exact RegId.all_bit rfl _ | rfl | (split <;> rfl) | (unfold enterEvt; split <;> rfl) | (unfold pendFld; split <;> rfl) | (rw [padFld_reg (by assumption)]; rfl) | (unfold phWord; rcases a2 with _ | _ | _ | _ | _ | a2 <;> rfl) | exact RegId.all_bit rfl _)
      exact h1
    · refine Upd.step ?_ (State.wdtCfgWrite_upd ..) (by first | with_reducible exact RegId.all_bit rfl _ | rfl | (split <;> rfl) | (unfold enterEvt; split <;> rfl) | (unfold pendFld; split <;> rfl) | (rw [padFld_reg (by assumption)]; rfl) | (unfold phWord; rcases a2 with _ | _ | _ | _ | _ | a2 <;> rfl) | exact RegId.all_bit rfl _)
      exact h1
    · refine Upd.wrN ?_ (by first | with_reducible exact RegId.all_bit rfl _ | rfl | (split <;> rfl) | (unfold enterEvt; split <;> rfl) | (unfold pendFld; split <;> rfl) | (rw [padFld_reg (by assumption)]; rfl) | (unfold phWord; rcases a2 with _ | _ | _ | _ | _ | a2 <;> rfl) | exact RegId.all_bit rfl _)
      exact h1
    · refine Upd.plainWrite ?_ (by first | with_reducible exact RegId.all_bit rfl _ | rfl | (split <;> rfl) | (unfold enterEvt; split <;> rfl) | (unfold pendFld; split <;> rfl) | (rw [padFld_reg (by assumption)]; rfl) | (unfold phWord; rcases a2 with _ | _ | _ | _ | _ | a2 <;> rfl) | exact RegId.all_bit rfl _)
      exact h1

theorem State.sideWrite_upd (a1 : RegKey) (a2 : W32) (s : State) :
    Upd 0x200003ef80dfc080000000007ffffffffffffffffffffffffffffffffffffffffffffffffffffffffffffffffffffffffffffffffffffffffffffffffffffffffffffffffffffffffffffffffffffffffffff s (State.sideWrite a1 a2 s) := by
  unfold State.sideWrite
  split
  · refine Upd.step ?_ (State.laneCfgWrite_upd ..) rfl
    exact Upd.refl _ _
  · refine Upd.step ?_ (State.txEqWrite_upd ..) rfl
    exact Upd.refl _ _
  · refine Upd.step ?_ (State.prbsWrite_upd ..) rfl
    exact Upd.refl _ _
  · refine Upd.step ?_ (State.laneCtrlWrite_upd ..) rfl
    exact Upd.refl _ _
  · refine Upd.step ?_ (State.yardCfgWrite_upd ..) rfl
    exact Upd.refl _ _
  · refine Upd.step ?_ (State.rmtCmdWrite_upd ..) rfl
    exact Upd.refl _ _
  · refine Upd.step ?_ (State.yardPrbsWrite_upd ..) rfl
    exact Upd.refl _ _
  · refine Upd.step ?_ (State.linkCtrlWrite_upd ..) rfl
    exact Upd.refl _ _
  · refine Upd.step ?_ (State.fwdWrite_upd ..) rfl
    exact Upd.refl _ _
  · refine Upd.step ?_ (State.fwdWrite_upd ..) rfl
    exact Upd.refl _ _
  · refine Upd.step ?_ (State.monPccWrite_upd ..) rfl
    exact Upd.refl _ _
  · refine Upd.step ?_ (State.monPccWrite_upd ..) rfl
    exact Upd.refl _ _
  · refine Upd.step ?_ (State.monPccWrite_upd ..) rfl
    exact Upd.refl _ _
  · refine Upd.step ?_ (State.monPccWrite_upd ..) rfl
    exact Upd.refl _ _
  · refine Upd.step ?_ (State.monPccWrite_upd ..) rfl
    exact Upd.refl _ _
  · refine Upd.step ?_ (State.monPccWrite_upd ..) rfl
    exact Upd.refl _ _
  · refine Upd.step ?_ (State.monPccWrite_upd ..) rfl
    exact Upd.refl _ _
  · refine Upd.step ?_ (State.monPccWrite_upd ..) rfl
    exact Upd.refl _ _
  · refine Upd.step ?_ (State.monPccWrite_upd ..) rfl
    exact Upd.refl _ _
  · refine Upd.step ?_ (State.monPccWrite_upd ..) rfl
    exact Upd.refl _ _
  · refine Upd.step ?_ (State.monPccWrite_upd ..) rfl
    exact Upd.refl _ _
  · refine Upd.step ?_ (State.monPccWrite_upd ..) rfl
    exact Upd.refl _ _
  · refine Upd.step ?_ (State.pccCfgWrite_upd ..) rfl
    exact Upd.refl _ _
  · refine Upd.step ?_ (State.nodeIdWrite_upd ..) rfl
    exact Upd.refl _ _
  · refine Upd.step ?_ (State.rxPopWrite_upd ..) rfl
    exact Upd.refl _ _
  · refine Upd.step ?_ (State.txCfgWrite_upd ..) rfl
    exact Upd.refl _ _
  · refine Upd.step ?_ (State.txCmdWrite_upd ..) rfl
    exact Upd.refl _ _
  · refine Upd.step ?_ (State.modPccT_upd ..) rfl
    exact Upd.refl _ _
  · refine Upd.step ?_ (State.slotCfgWrite_upd ..) rfl
    exact Upd.refl _ _
  · refine Upd.plainWrite ?_ (RegId.all_bit rfl _)
    exact Upd.refl _ _

theorem State.dataWrite_upd (a1 : RegKey) (a2 : W32) (s : State) :
    Upd 0x200003ef80ffc0e0000000007ffffffffffffffffffffffffffffffffffffffffffffffffffffffffffffffffffffffffffffffffffffffffffffffffffffffffffffffffffffffffffffffffffffffffffff s (State.dataWrite a1 a2 s) := by
  unfold State.dataWrite
  split
  · refine Upd.step ?_ (State.rxProfileWrite_upd ..) rfl
    exact Upd.refl _ _
  · refine Upd.step ?_ (State.chgCtrlWrite_upd ..) rfl
    exact Upd.refl _ _
  · refine Upd.step ?_ (State.txCtrlWrite_upd ..) rfl
    exact Upd.refl _ _
  · refine Upd.step ?_ (State.shapeShow_upd ..) rfl
    refine Upd.plainWrite ?_ (RegId.all_bit rfl _)
    exact Upd.refl _ _
  · refine Upd.step ?_ (State.applyWrite_upd ..) rfl
    exact Upd.refl _ _
  · refine Upd.step ?_ (State.skewWrite_upd ..) rfl
    exact Upd.refl _ _
  · refine Upd.step ?_ (State.rxCtrlWrite_upd ..) rfl
    exact Upd.refl _ _
  · refine Upd.step ?_ (State.rxShapeWrite_upd ..) rfl
    exact Upd.refl _ _
  · refine Upd.step ?_ (State.fecCtrlWrite_upd ..) rfl
    exact Upd.refl _ _
  · refine Upd.step ?_ (State.scCfgWrite_upd ..) rfl
    exact Upd.refl _ _
  · refine Upd.step ?_ (State.mapCtrlWrite_upd ..) rfl
    exact Upd.refl _ _
  · refine Upd.when ?_ (fun x1 h1 => ?_)
    · refine Upd.plainWrite ?_ (RegId.all_bit rfl _)
      exact Upd.refl _ _
    · refine Upd.step ?_ (State.pccPend_upd ..) rfl
      exact h1
  · refine Upd.step ?_ (State.lineEval_upd ..) rfl
    refine Upd.step ?_ (State.timEval_upd ..) rfl
    refine Upd.plainWrite ?_ (RegId.all_bit rfl _)
    exact Upd.refl _ _
  · refine Upd.step ?_ (State.lineEval_upd ..) rfl
    refine Upd.step ?_ (State.timEval_upd ..) rfl
    refine Upd.plainWrite ?_ (RegId.all_bit rfl _)
    exact Upd.refl _ _
  · refine Upd.step ?_ (State.grpCfgWrite_upd ..) rfl
    exact Upd.refl _ _
  · refine Upd.step ?_ (State.portCfgWrite_upd ..) rfl
    exact Upd.refl _ _
  · refine Upd.step ?_ (State.portCtrlWrite_upd ..) rfl
    exact Upd.refl _ _
  · refine Upd.step ?_ (State.pausePort_upd ..) rfl
    refine Upd.plainWrite ?_ (RegId.all_bit rfl _)
    exact Upd.refl _ _
  · refine Upd.step ?_ (State.holds_upd ..) rfl
    refine Upd.plainWrite ?_ (RegId.all_bit rfl _)
    exact Upd.refl _ _
  · refine Upd.step ?_ (State.phCmdWrite_upd ..) rfl
    exact Upd.refl _ _
  · refine Upd.step ?_ (State.phWrite_upd ..) rfl
    exact Upd.refl _ _
  · refine Upd.step ?_ (State.phWrite_upd ..) rfl
    exact Upd.refl _ _
  · refine Upd.step ?_ (State.phWrite_upd ..) rfl
    exact Upd.refl _ _
  · refine Upd.step ?_ (State.phWrite_upd ..) rfl
    exact Upd.refl _ _
  · refine Upd.step ?_ (State.phWrite_upd ..) rfl
    exact Upd.refl _ _
  · refine Upd.step ?_ (State.phWrite_upd ..) rfl
    exact Upd.refl _ _
  · refine Upd.step ?_ (State.w6Write_upd ..) rfl
    exact Upd.refl _ _
  · refine Upd.step ?_ (State.fpQuotaWrite_upd ..) rfl
    exact Upd.refl _ _
  · refine Upd.step ?_ (State.pauseAll_upd ..) rfl
    refine Upd.each ?_ (fun n2 x2 h2 => ?_) _
    · refine Upd.step ?_ (State.hayCfgWrite_upd ..) rfl
      exact Upd.refl _ _
    · refine Upd.step ?_ (State.xoffFlow_upd ..) rfl
      exact h2
  · refine Upd.step ?_ (State.retCmdWrite_upd ..) rfl
    exact Upd.refl _ _
  · refine Upd.step ?_ (State.capCfgWrite_upd ..) rfl
    exact Upd.refl _ _
  · refine Upd.step ?_ (State.keyCmdWrite_upd ..) rfl
    exact Upd.refl _ _
  · refine Upd.step ?_ (State.modCip_upd ..) rfl
    exact Upd.refl _ _
  · refine Upd.step ?_ (State.modCip_upd ..) rfl
    exact Upd.refl _ _
  · refine Upd.step ?_ (State.sideWrite_upd ..) rfl
    exact Upd.refl _ _

theorem State.regWrite_upd (a1 : Master) (a2 : RegKey) (a3 : W32) (s : State) :
    Upd 0x2fffdfffffffffe0000000007ffffffffffffffffffffffffffffffffffffffffffffffffffffffffffffffffffffffffffffffffffffffffffffffffffffffffffffffffffffffffffffffffffffffffffff s (State.regWrite a1 a2 a3 s) := by
  unfold State.regWrite
  split
  · refine Upd.step ?_ (State.lcWrite_upd ..) rfl
    exact Upd.refl _ _
  · refine Upd.step ?_ (State.appliedWrite_upd ..) rfl
    exact Upd.refl _ _
  · refine Upd.errClear ?_ rfl rfl rfl
    exact Upd.refl _ _
  · refine Upd.step ?_ (State.coreIrqWrite_upd ..) rfl
    exact Upd.refl _ _
  · refine Upd.step ?_ (State.maskWrite_upd ..) rfl
    exact Upd.refl _ _
  · refine Upd.step ?_ (State.railsEval_upd ..) rfl
    refine Upd.plainWrite ?_ (RegId.all_bit rfl _)
    exact Upd.refl _ _
  · refine Upd.step ?_ (State.padWrite_upd ..) rfl
    exact Upd.refl _ _
  · refine Upd.errClear ?_ rfl rfl rfl
    exact Upd.refl _ _
  · refine Upd.step ?_ (State.wakeMaskWrite_upd ..) rfl
    exact Upd.refl _ _
  · refine Upd.step ?_ (State.domWrite_upd ..) rfl
    exact Upd.refl _ _
  · refine Upd.step ?_ (State.swWrite_upd ..) rfl
    exact Upd.refl _ _
  · refine Upd.step ?_ (State.hostRstWrite_upd ..) rfl
    exact Upd.refl _ _
  · refine Upd.step ?_ (State.stbCfgWrite_upd ..) rfl
    exact Upd.refl _ _
  · refine Upd.step ?_ (State.fwBeat_upd ..) rfl
    refine Upd.plainWrite ?_ (RegId.all_bit rfl _)
    exact Upd.refl _ _
  · refine Upd.step ?_ (State.holdLo_upd ..) rfl
    exact Upd.refl _ _
  · refine Upd.step ?_ (State.holdLo_upd ..) rfl
    exact Upd.refl _ _
  · refine Upd.step ?_ (State.holdLo_upd ..) rfl
    exact Upd.refl _ _
  · refine Upd.step ?_ (State.holdLo_upd ..) rfl
    exact Upd.refl _ _
  · refine Upd.step ?_ (State.clampEval_upd ..) rfl
    refine Upd.commitPair ?_ (RegId.all_bit rfl _) (RegId.all_bit rfl _) rfl
    exact Upd.refl _ _
  · refine Upd.step ?_ (State.clampEval_upd ..) rfl
    refine Upd.commitPair ?_ (RegId.all_bit rfl _) (RegId.all_bit rfl _) rfl
    exact Upd.refl _ _
  · refine Upd.commitPair ?_ (RegId.all_bit rfl _) (RegId.all_bit rfl _) rfl
    exact Upd.refl _ _
  · refine Upd.step ?_ (State.clampEval_upd ..) rfl
    refine Upd.plainWrite ?_ (RegId.all_bit rfl _)
    exact Upd.refl _ _
  · refine Upd.step ?_ (State.modelWrite_upd ..) rfl
    exact Upd.refl _ _
  · refine Upd.step ?_ (State.refCfgWrite_upd ..) rfl
    exact Upd.refl _ _
  · refine Upd.step ?_ (State.refLosWrite_upd ..) rfl
    exact Upd.refl _ _
  · refine Upd.step ?_ (State.refFwWrite_upd ..) rfl
    exact Upd.refl _ _
  · refine Upd.step ?_ (State.calCmdWrite_upd ..) rfl
    exact Upd.refl _ _
  · refine Upd.step ?_ (State.bstCmdWrite_upd ..) rfl
    exact Upd.refl _ _
  · refine Upd.step ?_ (State.pmcCfgWrite_upd ..) rfl
    exact Upd.refl _ _
  · refine Upd.step ?_ (State.dumpCfgWrite_upd ..) rfl
    exact Upd.refl _ _
  · refine Upd.commitPair ?_ (RegId.all_bit rfl _) (RegId.all_bit rfl _) rfl
    exact Upd.refl _ _
  · refine Upd.step ?_ (State.qlEval_upd ..) rfl
    refine Upd.step ?_ (State.ppsEval_upd ..) rfl
    refine Upd.plainWrite ?_ (RegId.all_bit rfl _)
    exact Upd.refl _ _
  · refine Upd.step ?_ (State.qlEval_upd ..) rfl
    refine Upd.step ?_ (State.ppsEval_upd ..) rfl
    refine Upd.plainWrite ?_ (RegId.all_bit rfl _)
    exact Upd.refl _ _
  · refine Upd.step ?_ (State.winCtrlWrite_upd ..) rfl
    exact Upd.refl _ _
  · refine Upd.step ?_ (State.injWrite_upd ..) rfl
    exact Upd.refl _ _
  · refine Upd.step ?_ (State.lbCmdWrite_upd ..) rfl
    exact Upd.refl _ _
  · refine Upd.step ?_ (State.lbStatusWrite_upd ..) rfl
    exact Upd.refl _ _
  · refine Upd.lbWrite ?_ (fun x1 h1 => ?_) rfl
    · exact Upd.refl _ _
    · refine Upd.plainWrite ?_ (RegId.all_bit rfl _)
      exact h1
  · refine Upd.ite ?_ ?_
    · refine Upd.plainWrite ?_ (RegId.all_bit rfl _)
      exact Upd.refl _ _
    · refine Upd.step ?_ (State.notAllowed_upd ..) rfl
      exact Upd.refl _ _
  · refine Upd.step ?_ (State.corePageWrite_upd ..) rfl
    exact Upd.refl _ _
  · refine Upd.step ?_ (State.corePageWrite_upd ..) rfl
    exact Upd.refl _ _
  · refine Upd.step ?_ (State.corePageWrite_upd ..) rfl
    exact Upd.refl _ _
  · refine Upd.step ?_ (State.corePageWrite_upd ..) rfl
    exact Upd.refl _ _
  · refine Upd.step ?_ (State.corePageWrite_upd ..) rfl
    exact Upd.refl _ _
  · refine Upd.step ?_ (State.corePageWrite_upd ..) rfl
    exact Upd.refl _ _
  · refine Upd.step ?_ (State.corePageWrite_upd ..) rfl
    exact Upd.refl _ _
  · refine Upd.step ?_ (State.pmkCtrlWrite_upd ..) rfl
    exact Upd.refl _ _
  · refine Upd.step ?_ (State.adjWrite_upd ..) rfl
    exact Upd.refl _ _
  · refine Upd.step ?_ (State.ppsEval_upd ..) rfl
    refine Upd.plainWrite ?_ (RegId.all_bit rfl _)
    exact Upd.refl _ _
  · refine Upd.step ?_ (State.dataWrite_upd ..) rfl
    exact Upd.refl _ _

end Sys2Proof.Machine
end

