-- ==== Sys2Proof/Laws/FootFabric.lean ====
section
/-! SUPPORT. The footprints of the operations of Machine/Fabric.lean: what each may change. -/

set_option linter.unreachableTactic false
set_option linter.unusedTactic false
set_option linter.unusedVariables false

namespace Sys2Proof.Machine

theorem State.readEffect_upd (a1 : Master) (a2 : RegKey) (s : State) :
    Upd 0x40000100000000007ffffffffffffffffffffffffffffffffffffffffffffffffffffffffffffffffffffffffffffffffffffffffffffffffffffffffffffffffffffffffffffffffffffffffffff s (State.readEffect a1 a2 s) := by
  unfold State.readEffect
  extract_lets +onlyGivenNames -underBinder -merge -useContext x1
  unfold x1
  beta_reduce
  clear x1
  extract_lets +onlyGivenNames -underBinder -merge -useContext x2
  refine Upd.cut (t := x2) ?_ (fun h2 => ?_)
  · unfold x2
    refine Upd.when ?_ (fun x3 h3 => ?_)
    · exact Upd.refl _ _
    · refine Upd.step ?_ (State.modFab_upd ..) (by first | with_reducible exact RegId.all_bit rfl _ | rfl | (split <;> rfl) | (unfold enterEvt; split <;> rfl) | (unfold pendFld; split <;> rfl) | (rw [padFld_reg (by assumption)]; rfl) | (unfold phWord; rcases a2 with _ | _ | _ | _ | _ | a2 <;> rfl) | exact RegId.all_bit rfl _)
      exact h3
  clear_value x2
  extract_lets +onlyGivenNames -underBinder -merge -useContext x4
  refine Upd.cut (t := x4) ?_ (fun h4 => ?_)
  · unfold x4
    refine Upd.when ?_ (fun x5 h5 => ?_)
    · exact h2
    · refine Upd.step ?_ (State.modPmk_upd ..) (by first | with_reducible exact RegId.all_bit rfl _ | rfl | (split <;> rfl) | (unfold enterEvt; split <;> rfl) | (unfold pendFld; split <;> rfl) | (rw [padFld_reg (by assumption)]; rfl) | (unfold phWord; rcases a2 with _ | _ | _ | _ | _ | a2 <;> rfl) | exact RegId.all_bit rfl _)
      exact h5
  clear_value x4
  refine Upd.when ?_ (fun x6 h6 => ?_)
  · exact h4
  · refine Upd.wr ?_ (by first | with_reducible exact RegId.all_bit rfl _ | rfl | (split <;> rfl) | (unfold enterEvt; split <;> rfl) | (unfold pendFld; split <;> rfl) | (rw [padFld_reg (by assumption)]; rfl) | (unfold phWord; rcases a2 with _ | _ | _ | _ | _ | a2 <;> rfl) | exact RegId.all_bit rfl _)
    exact h6

theorem State.readReg_upd (a1 : Master) (a2 : RegKey) (s : State) :
    Upd 0x40000100000000007ffffffffffffffffffffffffffffffffffffffffffffffffffffffffffffffffffffffffffffffffffffffffffffffffffffffffffffffffffffffffffffffffffffffffffff s (State.readReg a1 a2 s) := by
  unfold State.readReg
  refine Upd.ite ?_ ?_
  · refine Upd.step ?_ (State.answer_upd ..) rfl
    refine Upd.step ?_ (State.readEffect_upd ..) rfl
    exact Upd.refl _ _
  · refine Upd.step ?_ (State.answer_upd ..) rfl
    refine Upd.step ?_ (State.accessErr_upd ..) rfl
    exact Upd.refl _ _

theorem State.ramPut_upd (a1 : ℕ) (a2 : ℕ) (a3 : W32) (s : State) :
    Upd 0x40000000000000000000000000000000000000000000000000000000000000000000000000000000000000000000000000000000000000000000000000000000000000000000000000000000000000000 s (State.ramPut a1 a2 a3 s) := by
  unfold State.ramPut
  exact Upd.set_ram (Upd.refl _ _) rfl fun h => Memory.wf_putBytes _ h _

theorem Upd.ramGuard {w : Nat} {s t : State} {m : Master} {b : Bool} {off : Nat} {f : State → State} (h : Upd w s t) (hf : ∀ x, Upd w s x → Upd w s (f x))
    (hw : Nat.land 0x10000000000000000000000000000000000000000000000000000000000000000000000000000000000000000000000000000000000000000000000000000000000000000000000006200000 w = 0x10000000000000000000000000000000000000000000000000000000000000000000000000000000000000000000000000000000000000000000000000000000000000000000000006200000) :
    Upd w s (State.ramGuard m b off f t) := by
  unfold State.ramGuard
  repeat' first
    | with_reducible assumption
    | with_reducible exact Upd.refl _ _
    | (show Nat.testBit _ _ = true; with_reducible assumption)
    | (show Nat.land _ _ = _; exact land_trans (b := 0x10000000000000000000000000000000000000000000000000000000000000000000000000000000000000000000000000000000000000000000000000000000000000000000000006200000) rfl hw)
    | (show Nat.testBit _ _ = true; exact testBit_up (a := 0x10000000000000000000000000000000000000000000000000000000000000000000000000000000000000000000000000000000000000000000000000000000000000000000000006200000) hw rfl)
    | with_reducible refine hf _ ?_
    | (extract_lets +onlyGivenNames x; refine Upd.cut (t := x) ?_ (fun hx => ?_); (on_goal 2 => clear_value x); unfold x; clear x)
    | (extract_lets +onlyGivenNames x; clear_value x)
    | with_reducible apply Upd.ite
    | with_reducible refine Upd.step ?_ (State.answer_upd ..) ?_
    | with_reducible refine Upd.step ?_ (State.accessErr_upd ..) ?_
    | split

theorem State.setWrite_upd (a1 : Master) (a2 : ℕ) (a3 : RegKey) (a4 : Bool) (a5 : ℕ) (a6 : W32) (s : State) :
    Upd 0x2fffdfffffffffe0000000007ffffffffffffffffffffffffffffffffffffffffffffffffffffffffffffffffffffffffffffffffffffffffffffffffffffffffffffffffffffffffffffffffffffffffffff s (State.setWrite a1 a2 a3 a4 a5 a6 s) := by
  unfold State.setWrite
  extract_lets +onlyGivenNames -underBinder -merge -useContext x1
  try clear_value x1
  refine Upd.ite ?_ ?_
  · refine Upd.step ?_ (State.accessErr_upd ..) rfl
    exact Upd.refl _ _
  · refine Upd.each ?_ (fun n2 x2 h2 => ?_) _
    · exact Upd.refl _ _
    · extract_lets +onlyGivenNames -underBinder -merge -useContext x3
      unfold x3
      beta_reduce
      clear x3
      refine Upd.ite ?_ ?_
      · refine Upd.step ?_ (State.park_upd ..) rfl
        exact h2
      · refine Upd.putReg ?_ (fun x4 h4 => ?_) rfl
        · exact h2
        · refine Upd.step ?_ (State.regWrite_upd ..) rfl
          exact h4

theorem State.setRead_upd (a1 : Master) (a2 : ℕ) (a3 : RegKey) (a4 : Bool) (a5 : ℕ) (s : State) :
    Upd 0x40000100000000007ffffffffffffffffffffffffffffffffffffffffffffffffffffffffffffffffffffffffffffffffffffffffffffffffffffffffffffffffffffffffffffffffffffffffffff s (State.setRead a1 a2 a3 a4 a5 s) := by
  unfold State.setRead
  split
  · refine Upd.step ?_ (State.answer_upd ..) rfl
    refine Upd.step ?_ (State.accessErr_upd ..) rfl
    exact Upd.refl _ _
  · refine Upd.step ?_ (State.readReg_upd ..) rfl
    exact Upd.refl _ _

theorem State.narrow_upd (a1 : Master) (a2 : ℕ) (a3 : ℕ) (s : State) :
    Upd 0x10000000000000000000000000000000000000000000000000000000000000000000000000000000000000000000000000000000000000000000000000000000000000000000000000000000 s (State.narrow a1 a2 a3 s) := by
  unfold State.narrow
  refine Upd.ite ?_ ?_
  · exact Upd.refl _ _
  · refine Upd.step ?_ (State.answer_upd ..) rfl
    exact Upd.refl _ _

theorem State.performWrite_upd (a1 : Master) (a2 : ℕ) (a3 : ℕ) (a4 : W32) (s : State) :
    Upd 0x2fffffffffffffe0000000007ffffffffffffffffffffffffffffffffffffffffffffffffffffffffffffffffffffffffffffffffffffffffffffffffffffffffffffffffffffffffffffffffffffffffffff s (State.performWrite a1 a2 a3 a4 s) := by
  unfold State.performWrite
  split
  · refine Upd.putReg ?_ (fun x1 h1 => ?_) rfl
    · exact Upd.refl _ _
    · refine Upd.step ?_ (State.regWrite_upd ..) rfl
      exact h1
  · refine Upd.step ?_ (State.setWrite_upd ..) rfl
    exact Upd.refl _ _
  · refine Upd.trGuard ?_ (fun x2 h2 => ?_) rfl
    · exact Upd.refl _ _
    · refine Upd.step ?_ (State.tackWrite_upd ..) rfl
      exact h2
  · refine Upd.aptGuard ?_ (fun x3 h3 => ?_) rfl
    · exact Upd.refl _ _
    · refine Upd.step ?_ (State.apertureWrite_upd ..) rfl
      exact h3
  · refine Upd.ramGuard ?_ (fun x4 h4 => ?_) rfl
    · exact Upd.refl _ _
    · refine Upd.step ?_ (State.notAllowed_upd ..) rfl
      exact h4
  · refine Upd.ramGuard ?_ (fun x5 h5 => ?_) rfl
    · exact Upd.refl _ _
    · refine Upd.ite ?_ ?_
      · refine Upd.step ?_ (State.ramPut_upd ..) rfl
        exact h5
      · refine Upd.step ?_ (State.notAllowed_upd ..) rfl
        exact h5
  · exact Upd.refl _ _

theorem State.performRead_upd (a1 : Master) (a2 : ℕ) (a3 : ℕ) (s : State) :
    Upd 0x20000000401a4720000000007ffffffffffffffffffffffffffffffffffffffffffffffffffffffffffffffffffffffffffffffffffffffffffffffffffffffffffffffffffffffffffffffffffffffffffff s (State.performRead a1 a2 a3 s) := by
  unfold State.performRead
  split
  · refine Upd.step ?_ (State.narrow_upd ..) rfl
    refine Upd.step ?_ (State.readReg_upd ..) rfl
    exact Upd.refl _ _
  · refine Upd.step ?_ (State.narrow_upd ..) rfl
    refine Upd.step ?_ (State.setRead_upd ..) rfl
    exact Upd.refl _ _
  · refine Upd.step ?_ (State.narrow_upd ..) rfl
    refine Upd.trGuard ?_ (fun x1 h1 => ?_) rfl
    · exact Upd.refl _ _
    · refine Upd.step ?_ (State.tackRead_upd ..) rfl
      exact h1
  · refine Upd.aptGuard ?_ (fun x2 h2 => ?_) rfl
    · exact Upd.refl _ _
    · refine Upd.step ?_ (State.apertureRead_upd ..) rfl
      exact h2
  · refine Upd.ramGuard ?_ (fun x3 h3 => ?_) rfl
    · exact Upd.refl _ _
    · refine Upd.step ?_ (State.answer_upd ..) rfl
      refine Upd.step ?_ (State.useFree_upd ..) rfl
      exact h3
  · refine Upd.ramGuard ?_ (fun x4 h4 => ?_) rfl
    · exact Upd.refl _ _
    · refine Upd.step ?_ (State.answer_upd ..) rfl
      exact h4
  · exact Upd.refl _ _

theorem State.perform_upd (a1 : Master) (a2 : ℕ) (a3 : ℕ) (a4 : Option W32) (s : State) :
    Upd 0x2fffffffffffffe0000000007ffffffffffffffffffffffffffffffffffffffffffffffffffffffffffffffffffffffffffffffffffffffffffffffffffffffffffffffffffffffffffffffffffffffffffff s (State.perform a1 a2 a3 a4 s) := by
  unfold State.perform
  split
  · refine Upd.step ?_ (State.decodeErr_upd ..) rfl
    exact Upd.refl _ _
  · refine Upd.step ?_ (State.answer_upd ..) rfl
    refine Upd.step ?_ (State.decodeErr_upd ..) rfl
    exact Upd.refl _ _
  · refine Upd.step ?_ (State.performWrite_upd ..) rfl
    exact Upd.refl _ _
  · refine Upd.step ?_ (State.performRead_upd ..) rfl
    exact Upd.refl _ _

theorem State.access_upd (a1 : Master) (a2 : ℕ) (a3 : ℕ) (a4 : Option W32) (s : State) :
    Upd 0x2fffffffffffffe0000000007ffffffffffffffffffffffffffffffffffffffffffffffffffffffffffffffffffffffffffffffffffffffffffffffffffffffffffffffffffffffffffffffffffffffffffff s (State.access a1 a2 a3 a4 s) := by
  unfold State.access
  extract_lets +onlyGivenNames -underBinder -merge -useContext x1
  try clear_value x1
  extract_lets +onlyGivenNames -underBinder -merge -useContext x2
  try clear_value x2
  refine Upd.ite ?_ ?_
  · exact Upd.refl _ _
  · refine Upd.issue ?_ (fun x3 h3 => ?_) rfl
    · exact Upd.refl _ _
    · refine Upd.step ?_ (State.perform_upd ..) rfl
      exact h3

theorem State.handOver_upd (a1 : Master) (s : State) :
    Upd 0x10000000000000000000000000000000000000000000000000000000000000000000000000000000000000000000000000000000000000000000000000000000000000000000000000000000 s (State.handOver a1 s) := by
  unfold State.handOver
  extract_lets +onlyGivenNames -underBinder -merge -useContext x1
  try clear_value x1
  split
  · refine Upd.step ?_ (State.modFab_upd ..) rfl
    exact Upd.refl _ _
  · refine Upd.step ?_ (State.modFab_upd ..) rfl
    exact Upd.refl _ _
  · exact Upd.refl _ _

theorem State.readOut_upd (a1 : Master) (a2 : ℕ) (s : State) :
    Upd 0x2fffffffffffffe0000000007ffffffffffffffffffffffffffffffffffffffffffffffffffffffffffffffffffffffffffffffffffffffffffffffffffffffffffffffffffffffffffffffffffffffffffff s (State.readOut a1 a2 s) := by
  unfold State.readOut
  refine Upd.ite ?_ ?_
  · refine Upd.step ?_ (State.park_upd ..) rfl
    exact Upd.refl _ _
  · refine Upd.step ?_ (State.handOver_upd ..) rfl
    refine Upd.step ?_ (State.perform_upd ..) rfl
    exact Upd.refl _ _

theorem State.serveOne_upd (a1 : WaitAcc) (s : State) :
    Upd 0x2fffffffffffffe0000000007ffffffffffffffffffffffffffffffffffffffffffffffffffffffffffffffffffffffffffffffffffffffffffffffffffffffffffffffffffffffffffffffffffffffffffff s (State.serveOne a1 s) := by
  unfold State.serveOne
  refine Upd.ite ?_ ?_
  · refine Upd.step ?_ (State.park_upd ..) rfl
    exact Upd.refl _ _
  · extract_lets +onlyGivenNames -underBinder -merge -useContext x1
    refine Upd.cut (t := x1) ?_ (fun h1 => ?_)
    · unfold x1
      refine Upd.step ?_ (State.perform_upd ..) rfl
      exact Upd.refl _ _
    clear_value x1
    refine Upd.ite ?_ ?_
    · refine Upd.step ?_ (State.handOver_upd ..) rfl
      exact h1
    · exact h1

theorem State.serve_upd (s : State) :
    Upd 0x2fffffffffffffe0000000007ffffffffffffffffffffffffffffffffffffffffffffffffffffffffffffffffffffffffffffffffffffffffffffffffffffffffffffffffffffffffffffffffffffffffffff s (State.serve s) := by
  unfold State.serve
  refine Upd.ite ?_ ?_
  · exact Upd.refl _ _
  · refine Upd.each ?_ (fun n1 x1 h1 => ?_) _
    · refine Upd.step ?_ (State.modFab_upd ..) rfl
      exact Upd.refl _ _
    · refine Upd.step ?_ (State.serveOne_upd ..) rfl
      exact h1

theorem execTxPreCopyDone_upd (a1 : ℕ) (s : State) :
    ∃ t, execTxPreCopyDone a1 s = .next t ∧ Upd 0x2fffffffffffffe0000000007ffffffffffffffffffffffffffffffffffffffffffffffffffffffffffffffffffffffffffffffffffffffffffffffffffffffffffffffffffffffffffffffffffffffffffff s t := by
  unfold execTxPreCopyDone
  refine ⟨_, rfl, ?_⟩
  refine Upd.ite ?_ ?_
  · refine Upd.step ?_ (State.serve_upd ..) rfl
    refine Upd.step ?_ (State.preCopy_upd ..) rfl
    exact Upd.refl _ _
  · exact Upd.refl _ _

theorem execRmtDone_upd (a1 : Option W32) (s : State) :
    ∃ t, execRmtDone a1 s = .next t ∧ Upd 0x2fffffffffffffe0000000007ffffffffffffffffffffffffffffffffffffffffffffffffffffffffffffffffffffffffffffffffffffffffffffffffffffffffffffffffffffffffffffffffffffffffffff s t := by
  unfold execRmtDone
  refine ⟨_, rfl, ?_⟩
  refine Upd.step ?_ (State.serve_upd ..) rfl
  refine Upd.step ?_ (State.rmtDone_upd ..) rfl
  exact Upd.refl _ _

theorem execRegisterWrite_upd (a1 : Master) (a2 : ℕ) (a3 : W32) (s : State) :
    ∃ t, execRegisterWrite a1 a2 a3 s = .next t ∧ Upd 0x2fffffffffffffe0000000007ffffffffffffffffffffffffffffffffffffffffffffffffffffffffffffffffffffffffffffffffffffffffffffffffffffffffffffffffffffffffffffffffffffffffffff s t := by
  unfold execRegisterWrite
  refine ⟨_, rfl, ?_⟩
  refine Upd.step ?_ (State.access_upd ..) rfl
  exact Upd.refl _ _

theorem execRcRead_upd (a1 : Master) (a2 : ℕ) (a3 : ℕ) (s : State) :
    ∃ t, execRcRead a1 a2 a3 s = .next t ∧ Upd 0x2fffffffffffffe0000000007ffffffffffffffffffffffffffffffffffffffffffffffffffffffffffffffffffffffffffffffffffffffffffffffffffffffffffffffffffffffffffffffffffffffffffff s t := by
  unfold execRcRead
  refine ⟨_, rfl, ?_⟩
  refine Upd.step ?_ (State.access_upd ..) rfl
  exact Upd.refl _ _

theorem execAliasWrite_upd (a1 : Master) (a2 : ℕ) (a3 : W32) (s : State) :
    ∃ t, execAliasWrite a1 a2 a3 s = .next t ∧ Upd 0x2fffffffffffffe0000000007ffffffffffffffffffffffffffffffffffffffffffffffffffffffffffffffffffffffffffffffffffffffffffffffffffffffffffffffffffffffffffffffffffffffffffff s t := by
  unfold execAliasWrite
  refine ⟨_, rfl, ?_⟩
  refine Upd.ite ?_ ?_
  · refine Upd.step ?_ (State.access_upd ..) rfl
    exact Upd.refl _ _
  · exact Upd.refl _ _

theorem execAliasRead_upd (a1 : Master) (a2 : ℕ) (s : State) :
    ∃ t, execAliasRead a1 a2 s = .next t ∧ Upd 0x2fffffffffffffe0000000007ffffffffffffffffffffffffffffffffffffffffffffffffffffffffffffffffffffffffffffffffffffffffffffffffffffffffffffffffffffffffffffffffffffffffffff s t := by
  unfold execAliasRead
  refine ⟨_, rfl, ?_⟩
  refine Upd.ite ?_ ?_
  · refine Upd.step ?_ (State.access_upd ..) rfl
    exact Upd.refl _ _
  · exact Upd.refl _ _

theorem execDecodeErr_upd (a1 : Master) (a2 : Bool) (a3 : ℕ) (a4 : ℕ) (s : State) :
    ∃ t, execDecodeErr a1 a2 a3 a4 s = .next t ∧ Upd 0x2fffffffffffffe0000000007ffffffffffffffffffffffffffffffffffffffffffffffffffffffffffffffffffffffffffffffffffffffffffffffffffffffffffffffffffffffffffffffffffffffffffff s t := by
  unfold execDecodeErr
  refine ⟨_, rfl, ?_⟩
  refine Upd.ite ?_ ?_
  · refine Upd.step ?_ (State.access_upd ..) rfl
    exact Upd.refl _ _
  · exact Upd.refl _ _

theorem execAccessErr_upd (a1 : Master) (a2 : Bool) (a3 : ℕ) (s : State) :
    ∃ t, execAccessErr a1 a2 a3 s = .next t ∧ Upd 0x2fffffffffffffe0000000007ffffffffffffffffffffffffffffffffffffffffffffffffffffffffffffffffffffffffffffffffffffffffffffffffffffffffffffffffffffffffffffffffffffffffffff s t := by
  unfold execAccessErr
  refine ⟨_, rfl, ?_⟩
  refine Upd.ite ?_ ?_
  · refine Upd.step ?_ (State.access_upd ..) rfl
    exact Upd.refl _ _
  · exact Upd.refl _ _

theorem execSpiWrite_upd (a1 : ℕ) (a2 : List W32) (s : State) :
    ∃ t, execSpiWrite a1 a2 s = .next t ∧ Upd 0x2fffffffffffffe0000000007ffffffffffffffffffffffffffffffffffffffffffffffffffffffffffffffffffffffffffffffffffffffffffffffffffffffffffffffffffffffffffffffffffffffffffff s t := by
  unfold execSpiWrite
  refine ⟨_, rfl, ?_⟩
  refine Upd.each ?_ (fun n1 x1 h1 => ?_) _
  · exact Upd.refl _ _
  · refine Upd.step ?_ (State.access_upd ..) rfl
    exact h1

theorem execSpiRead_upd (a1 : ℕ) (a2 : ℕ) (s : State) :
    ∃ t, execSpiRead a1 a2 s = .next t ∧ Upd 0x2fffffffffffffe0000000007ffffffffffffffffffffffffffffffffffffffffffffffffffffffffffffffffffffffffffffffffffffffffffffffffffffffffffffffffffffffffffffffffffffffffffff s t := by
  unfold execSpiRead
  refine ⟨_, rfl, ?_⟩
  refine Upd.each ?_ (fun n1 x1 h1 => ?_) _
  · refine Upd.step ?_ (State.modFab_upd ..) rfl
    exact Upd.refl _ _
  · refine Upd.step ?_ (State.readOut_upd ..) rfl
    exact h1

theorem execSpiStatus_upd (s : State) :
    ∃ t, execSpiStatus s = .next t ∧ Upd 0x10000000000000000000000000000000000000000000000000000000000000000000000000000000000000000000000000000000000000000000000000000000000000000000000000000000 s t := by
  unfold execSpiStatus
  refine ⟨_, rfl, ?_⟩
  refine Upd.step ?_ (State.modFab_upd ..) rfl
  exact Upd.refl _ _

theorem execTwiWrite_upd (a1 : List Byte) (s : State) :
    ∃ t, execTwiWrite a1 s = .next t ∧ Upd 0x2fffffffffffffe0000000007ffffffffffffffffffffffffffffffffffffffffffffffffffffffffffffffffffffffffffffffffffffffffffffffffffffffffffffffffffffffffffffffffffffffffffff s t := by
  unfold execTwiWrite
  refine ⟨_, rfl, ?_⟩
  split
  · exact Upd.refl _ _
  · refine Upd.ite ?_ ?_
    · exact Upd.refl _ _
    · extract_lets +onlyGivenNames -underBinder -merge -useContext x1
      refine Upd.cut (t := x1) ?_ (fun h1 => ?_)
      · unfold x1
        refine Upd.each ?_ (fun n2 x2 h2 => ?_) _
        · exact Upd.refl _ _
        · refine Upd.step ?_ (State.access_upd ..) rfl
          exact h2
      clear_value x1
      refine Upd.step ?_ (State.modFab_upd ..) rfl
      exact h1

theorem execTwiRead_upd (a1 : List Byte) (a2 : ℕ) (s : State) :
    ∃ t, execTwiRead a1 a2 s = .next t ∧ Upd 0x2fffffffffffffe0000000007ffffffffffffffffffffffffffffffffffffffffffffffffffffffffffffffffffffffffffffffffffffffffffffffffffffffffffffffffffffffffffffffffffffffffffff s t := by
  unfold execTwiRead
  refine ⟨_, rfl, ?_⟩
  refine Upd.ite ?_ ?_
  · exact Upd.refl _ _
  · extract_lets +onlyGivenNames -underBinder -merge -useContext x1
    try clear_value x1
    extract_lets +onlyGivenNames -underBinder -merge -useContext x2
    refine Upd.cut (t := x2) ?_ (fun h2 => ?_)
    · unfold x2
      refine Upd.each ?_ (fun n3 x3 h3 => ?_) _
      · refine Upd.step ?_ (State.modFab_upd ..) rfl
        exact Upd.refl _ _
      · refine Upd.step ?_ (State.readOut_upd ..) rfl
        exact h3
    clear_value x2
    refine Upd.step ?_ (State.modFab_upd ..) rfl
    exact h2

end Sys2Proof.Machine
end

