-- ==== Sys2Proof/Laws/FootTick.lean ====
section
/-! SUPPORT. The footprints of the operations of Machine/Tick.lean: what each may change. -/

set_option linter.unreachableTactic false
set_option linter.unusedTactic false
set_option linter.unusedVariables false

namespace Sys2Proof.Machine

theorem State.slowTick_upd (s : State) :
    Upd 0x20000000000000000000000000000000000000000001b805000000000000000000000000000000000000000000000000000000000000000000000000000000000000000000000000000000000040000000000 s (State.slowTick s) := by
  unfold State.slowTick
  refine Upd.ite ?_ ?_
  · exact Upd.refl _ _
  · extract_lets +onlyGivenNames -underBinder -merge -useContext x1
    try clear_value x1
    refine Upd.step ?_ (State.count_upd ..) rfl
    refine Upd.wrN ?_ rfl
    exact Upd.refl _ _

theorem State.polFill_upd (a1 : ℕ) (s : State) :
    Upd 0x2000000000000000000000000000000000000000000000000000000000000000000000000000000000000000000000000000000000000000000000000000000000000000000000000000000000 s (State.polFill a1 s) := by
  unfold State.polFill
  refine Upd.step ?_ (State.modFlow_upd ..) rfl
  exact Upd.refl _ _

theorem State.shpFill_upd (a1 : ℕ) (s : State) :
    Upd 0x2000000000000000000000000000000000000000000000000000000000000000000000000000000000000000000000000000000000000000000000000000000000000000000000000000000000 s (State.shpFill a1 s) := by
  unfold State.shpFill
  refine Upd.step ?_ (State.modFlow_upd ..) rfl
  exact Upd.refl _ _

theorem State.bucketTick_upd (s : State) :
    Upd 0x2000000000000000000000000000000000000000000000000000000000000000000000000000000000000000000000000000000000000000000000000000000000000000000000000000000000 s (State.bucketTick s) := by
  unfold State.bucketTick
  refine Upd.ite ?_ ?_
  · exact Upd.refl _ _
  · refine Upd.each ?_ (fun n3 x3 h3 => ?_) _
    · refine Upd.each ?_ (fun n1 x1 h1 => ?_) _
      · exact Upd.refl _ _
      · refine Upd.when ?_ (fun x2 h2 => ?_)
        · exact h1
        · refine Upd.step ?_ (State.polFill_upd ..) rfl
          exact h2
    · refine Upd.when ?_ (fun x4 h4 => ?_)
      · exact h3
      · refine Upd.step ?_ (State.shpFill_upd ..) rfl
        exact h4

theorem State.slotTick_upd (s : State) :
    Upd 0x20000000000000000000000000000000000000000001b805000000000000000000000000000000000000000000000000000000000000000000000000000000000000000000000000000000000000000000000 s (State.slotTick s) := by
  unfold State.slotTick
  refine Upd.ite ?_ ?_
  · exact Upd.refl _ _
  · extract_lets +onlyGivenNames -underBinder -merge -useContext x1
    try clear_value x1
    extract_lets +onlyGivenNames -underBinder -merge -useContext x2
    try clear_value x2
    extract_lets +onlyGivenNames -underBinder -merge -useContext x3
    try clear_value x3
    extract_lets +onlyGivenNames -underBinder -merge -useContext x4
    refine Upd.cut (t := x4) ?_ (fun h4 => ?_)
    · unfold x4
      refine Upd.set_free ?_ rfl
      exact Upd.refl _ _
    clear_value x4
    refine Upd.step ?_ (State.count_upd ..) rfl
    refine Upd.step ?_ (State.count_upd ..) rfl
    refine Upd.step ?_ (State.count_upd ..) rfl
    refine Upd.step ?_ (State.count_upd ..) rfl
    refine Upd.step ?_ (State.count_upd ..) rfl
    exact h4

theorem State.cycleTick_upd (s : State) :
    Upd 0x20000000000000000000000000000000000000000001b805000000000000000000000000000000000000000000000000000000000000000000000000000000000000000000000000000000000000000000000 s (State.cycleTick s) := by
  unfold State.cycleTick
  refine Upd.ite ?_ ?_
  · exact Upd.refl _ _
  · extract_lets +onlyGivenNames -underBinder -merge -useContext x1
    refine Upd.cut (t := x1) ?_ (fun h1 => ?_)
    · unfold x1
      refine Upd.step ?_ (State.slotTick_upd ..) rfl
      refine Upd.step ?_ (State.count_upd ..) rfl
      refine Upd.step ?_ (State.count_upd ..) rfl
      exact Upd.refl _ _
    clear_value x1
    extract_lets +onlyGivenNames -underBinder -merge -useContext x2
    refine Upd.cut (t := x2) ?_ (fun h2 => ?_)
    · unfold x2
      refine Upd.when ?_ (fun x3 h3 => ?_)
      · exact h1
      · refine Upd.each ?_ (fun n5 x5 h5 => ?_) _
        · refine Upd.each ?_ (fun n4 x4 h4 => ?_) _
          · exact h3
          · refine Upd.step ?_ (State.count_upd ..) rfl
            exact h4
        · refine Upd.step ?_ (State.count_upd ..) rfl
          exact h5
    clear_value x2
    extract_lets +onlyGivenNames -underBinder -merge -useContext x6
    refine Upd.cut (t := x6) ?_ (fun h6 => ?_)
    · unfold x6
      refine Upd.when ?_ (fun x7 h7 => ?_)
      · exact h2
      · refine Upd.step ?_ (State.count_upd ..) rfl
        exact h7
    clear_value x6
    refine Upd.when ?_ (fun x8 h8 => ?_)
    · exact h6
    · refine Upd.upto ?_ (fun n9 x9 h9 => ?_) _
      · exact h8
      · refine Upd.when ?_ (fun x10 h10 => ?_)
        · exact h9
        · refine Upd.step ?_ (State.count_upd ..) rfl
          exact h10

theorem State.cipTick_upd (s : State) :
    Upd 0x20000000004000000000000000000000000000000001b805000000000000000000000000000000000000000000000600000000000000000000000000000000000000000000000000000000000000000000000 s (State.cipTick s) := by
  unfold State.cipTick
  refine Upd.ite ?_ ?_
  · refine Upd.upto ?_ (fun n1 x1 h1 => ?_) _
    · exact Upd.refl _ _
    · refine Upd.step ?_ (State.coreDry_upd ..) rfl
      exact h1
  · exact Upd.refl _ _

theorem State.milliTick_upd (s : State) :
    Upd 0x200000000000000000000000000000000002000000000000000000000000000000000000000000000302000000000000000000000000000000000000000000000000000000000000000000000000000000000 s (State.milliTick s) := by
  unfold State.milliTick
  refine Upd.upto ?_ (fun n2 x2 h2 => ?_) _
  · refine Upd.upto ?_ (fun n1 x1 h1 => ?_) _
    · exact Upd.refl _ _
    · refine Upd.step ?_ (State.laneReport_upd ..) rfl
      exact h1
  · refine Upd.when ?_ (fun x3 h3 => ?_)
    · exact h2
    · refine Upd.wrN ?_ rfl
      exact h3

theorem State.checkTick_upd (s : State) :
    Upd 0x400000000000000000000000000000000000000000000000000000000000000000000300000030000000000000000000000000000000000000000000000000000000000000000000000000000000000 s (State.checkTick s) := by
  unfold State.checkTick
  refine Upd.upto ?_ (fun n2 x2 h2 => ?_) _
  · refine Upd.upto ?_ (fun n1 x1 h1 => ?_) _
    · exact Upd.refl _ _
    · refine Upd.step ?_ (State.prbsTick_upd ..) rfl
      exact h1
  · refine Upd.step ?_ (State.yardPrbsTick_upd ..) rfl
    exact h2

theorem State.tick_upd (s : State) :
    Upd 0x3fffffffffffffe0000000007ffffffffffffffffffffffffffffffffffffffffffffffffffffffffffffffffffffffffffffffffffffffffffffffffffffffffffffffffffffffffffffffffffffffffffff s (State.tick s) := by
  unfold State.tick
  extract_lets +onlyGivenNames -underBinder -merge -useContext x1
  refine Upd.cut (t := x1) ?_ (fun h1 => ?_)
  · unfold x1
    refine Upd.set_us ?_ rfl
    exact Upd.refl _ _
  clear_value x1
  extract_lets +onlyGivenNames -underBinder -merge -useContext x2
  refine Upd.cut (t := x2) ?_ (fun h2 => ?_)
  · unfold x2
    refine Upd.step ?_ (State.qlEval_upd ..) rfl
    refine Upd.step ?_ (State.ppsEval_upd ..) rfl
    refine Upd.step ?_ (State.stbTick_upd ..) rfl
    refine Upd.step ?_ (State.pmkTick_upd ..) rfl
    refine Upd.step ?_ (State.mgmtStart_upd ..) rfl
    refine Upd.step ?_ (State.slowTick_upd ..) rfl
    exact h1
  clear_value x2
  extract_lets +onlyGivenNames -underBinder -merge -useContext x3
  refine Upd.cut (t := x3) ?_ (fun h3 => ?_)
  · unfold x3
    refine Upd.step ?_ (State.retSettle_upd ..) rfl
    refine Upd.step ?_ (State.checkTick_upd ..) rfl
    refine Upd.step ?_ (State.cycleTick_upd ..) rfl
    refine Upd.step ?_ (State.cipTick_upd ..) rfl
    refine Upd.step ?_ (State.bucketTick_upd ..) rfl
    exact h2
  clear_value x3
  refine Upd.step ?_ (State.serve_upd ..) rfl
  refine Upd.when ?_ (fun x4 h4 => ?_)
  · exact h3
  · refine Upd.step ?_ (State.milliTick_upd ..) rfl
    exact h4

end Sys2Proof.Machine
end

