-- ==== Sys2Proof/Laws/Loops.lean ====
section
/-! SUPPORT. Runs over instances: what each application keeps, the run keeps; what one instance's application does, the run
does for that instance. -/

namespace Sys2Proof.Machine

variable (s : State)

/-- What each application keeps, a run over a list keeps. -/
theorem State.each_keeps {α β : Type} (p : State → β) (g : α → State → State) (h : ∀ x s, p (g x s) = p s) (l : List α) :
    p (s.each l g) = p s := by
  induction l generalizing s with
  | nil => rfl
  | cons a l ih => rw [State.each, ih, h]

theorem State.each_holds {α : Type} (p : State → Prop) (g : α → State → State) (h : ∀ x s, p s → p (g x s)) (l : List α)
    (hp : p s) : p (s.each l g) := by
  induction l generalizing s with
  | nil => exact hp
  | cons a l ih => exact ih _ (h _ _ hp)

theorem State.upto_keeps {β : Type} (p : State → β) (g : Nat → State → State) (n : Nat)
    (h : ∀ x s, x < n → p (g x s) = p s) : p (s.upto n g) = p s := by
  induction n with
  | zero => rfl
  | succ n ih => rw [State.upto, h n _ (by omega), ih fun x s hx => h x s (by omega)]

theorem State.upto_holds (p : State → Prop) (g : Nat → State → State) (n : Nat) (h : ∀ x s, x < n → p s → p (g x s))
    (hp : p s) : p (s.upto n g) := by
  induction n with
  | zero => exact hp
  | succ n ih => exact h n _ (by omega) (ih fun x s hx => h x s (by omega))

/-- What a run over 0 to n − 1 does to instance `i` is what the application to `i` does, found as the earlier ones leave
it. -/
theorem State.upto_at {β : Type} (p : State → β) (g : Nat → State → State) (n i : Nat) (hi : i < n)
    (h : ∀ x s, x ≠ i → p (g x s) = p s) : p (s.upto n g) = p (g i (s.upto i g)) := by
  induction n with
  | zero => omega
  | succ n ih =>
    rw [State.upto]
    by_cases e : n = i
    · subst e; rfl
    · rw [h _ _ e, ih (by omega)]

/-- A property that the application to `i` brings about and every other one keeps holds after the run. -/
theorem State.upto_brings (p q : State → Prop) (g : Nat → State → State) (n i : Nat) (hi : i < n)
    (hq : ∀ x s, x ≠ i → q s → q (g x s)) (hi' : ∀ s, q s → p (g i s)) (hp : ∀ x s, x ≠ i → p s → p (g x s)) (h : q s) :
    p (s.upto n g) := by
  have key : ∀ m, m ≤ i → q (s.upto m g) := by
    intro m
    induction m with
    | zero => intro _; exact h
    | succ m ih => intro hm; exact hq _ _ (by omega) (ih (by omega))
  induction n with
  | zero => omega
  | succ n ih =>
    rw [State.upto]
    by_cases e : n = i
    · subst e; exact hi' _ (key n le_rfl)
    · exact hp _ _ e (ih (by omega))

/-- A read of a register after a write, by cases. -/
theorem State.rd_wr_if (k k' : RegKey) (v : W32) : (s.wr k v).rd k' = if k' = k then v &&& k.mask else s.rd k' := by
  split
  · next h => rw [h, State.rd_wr_same]
  · next h => exact s.rd_wr_ne h v

/-- A write of a register changes the list of the instances of its own register alone. -/
theorem State.insts_wr_ne (k : RegKey) (v : W32) (id : RegId) (h : id ≠ k.id) : (s.wr k v).insts id = s.insts id := by
  have he : ∀ t : List (RegKey × W32), ((Tab.erase k t).filterMap fun e => if e.1.id = id then some e.1.i else none) =
      t.filterMap fun e => if e.1.id = id then some e.1.i else none := by
    intro t
    induction t with
    | nil => rfl
    | cons e t ih =>
      rw [Tab.erase]
      split
      · next hk => rw [List.filterMap_cons, if_neg (by rw [hk]; exact fun x => h x.symm), ih]
      · rw [List.filterMap_cons, List.filterMap_cons, ih]
  have hi : ∀ (w : W32) (t : List (RegKey × W32)), ((Tab.ins RegKey.lt k w t).filterMap fun e => if e.1.id = id then some e.1.i else none) =
      t.filterMap fun e => if e.1.id = id then some e.1.i else none := by
    intro w t
    induction t with
    | nil => rw [Tab.ins, List.filterMap_cons, if_neg (fun x => h x.symm)]
    | cons e t ih =>
      rw [Tab.ins]
      split
      · rw [List.filterMap_cons, if_neg (fun x => h x.symm)]
      · rw [List.filterMap_cons, List.filterMap_cons, ih]
  unfold State.insts State.wr Tab.set
  split
  · exact he _
  · rw [hi, he]

/-- A write of one instance's register leaves the registers of other instances alone. -/
theorem State.rd_wr_i (k k' : RegKey) (v : W32) (h : k'.i ≠ k.i) : (s.wr k v).rd k' = s.rd k' :=
  s.rd_wr_ne (fun e => h (congrArg RegKey.i e)) v

theorem State.rd_wrN_i (k k' : RegKey) (n : Nat) (h : k'.i ≠ k.i) : (s.wrN k n).rd k' = s.rd k' :=
  s.rd_wr_ne (fun e => h (congrArg RegKey.i e)) _

theorem State.rd_bump_i (k k' : RegKey) (h : k'.i ≠ k.i) : (s.bump k).rd k' = s.rd k' :=
  s.rd_wr_ne (fun e => h (congrArg RegKey.i e)) _

theorem State.rd_setFld_i (f : Fld) (n i j : Nat) (k' : RegKey) (h : k'.i ≠ i) : (s.setFld f n i j).rd k' = s.rd k' :=
  s.rd_wr_ne (fun e => h (congrArg RegKey.i e)) _

/-- Two words that agree on some bits agree on a field of those bits. -/
theorem Fld.get_of_xor (f : Fld) (h : f.lo + f.len ≤ 32) {a b k : W32} (hk : f.mask &&& k = f.mask)
    (hx : (a ^^^ b) &&& k = 0) : f.get a = f.get b := by
  apply Fld.get_ext f h
  apply BitVec.eq_of_getLsbD_eq
  intro n hn
  have h1 : (f.mask &&& k).getLsbD n = f.mask.getLsbD n := by rw [hk]
  have h2 : ((a ^^^ b) &&& k).getLsbD n = false := by rw [hx]; simp
  simp only [BitVec.getLsbD_and, BitVec.getLsbD_xor] at *
  cases h3 : f.mask.getLsbD n <;> simp_all

/-- Registers of one instance cleared one after another all read 0. -/
theorem State.rd_each_clear (f : Nat) (r : RegId) (l : List RegId) (h : r ∈ l) :
    (s.each l fun r s => s.wr (R r f) 0).rd (R r f) = 0 := by
  have key : ∀ (l : List RegId) (s : State), s.rd (R r f) = 0 → (s.each l fun r s => s.wr (R r f) 0).rd (R r f) = 0 :=
    fun l s hs => State.each_holds s (fun s => s.rd (R r f) = 0) _ (fun a s hs => by
      rw [State.rd_wr_if]; split
      · simp
      · exact hs) l hs
  induction l generalizing s with
  | nil => simp at h
  | cons a l ih =>
    rw [State.each]
    rcases List.mem_cons.mp h with e | e
    · subst e
      exact key l _ (by rw [State.rd_wr_same]; simp)
    · exact ih _ e

theorem State.fld_of_rd {s t : State} (f : Fld) {i j : Nat} (h : t.rd ⟨f.reg, i, j⟩ = s.rd ⟨f.reg, i, j⟩) :
    t.fld f i j = s.fld f i j := by unfold State.fld; rw [h]

/-- An operation whose footprint misses a register keeps its fields. -/
theorem Upd.fld {w : Nat} {s t : State} (h : Upd w s t) (f : Fld) (i j : Nat) (hb : w.testBit f.reg.ctorIdx = false) :
    t.fld f i j = s.fld f i j := State.fld_of_rd f (h.reg ⟨f.reg, i, j⟩ hb)

theorem State.fld_when (b : Bool) (g : State → State) (f : Fld) (i j : Nat) (h : (g s).fld f i j = s.fld f i j) :
    (s.when b g).fld f i j = s.fld f i j := by
  unfold State.when; split
  · exact h
  · rfl

theorem State.fld_when_raise (b : Bool) (g f : Fld) (x i j : Nat) (h : (s.raise g x).fld f i j = s.fld f i j) :
    (s.when b fun s => s.raise g x).fld f i j = s.fld f i j := s.fld_when b (fun s => s.raise g x) f i j h

/-- What both branches bring about, a conditional change brings about. -/
theorem State.when_holds (p : State → Prop) (b : Bool) (g : State → State) (h : p s) (hg : p s → p (g s)) : p (s.when b g) := by
  unfold State.when; split
  · exact hg h
  · exact h

/-- A one-bit field that is set stays set when an event bit is raised. -/
theorem State.fld_raise_of_set (f G : Fld) (i j a b : Nat) (hF : f.ok = true) (hG : G.ok = true) (lF : f.len = 1)
    (lG : G.len = 1) (h : s.fld f i j = 1) : (s.raise G a b).fld f i j = 1 := by
  unfold State.raise
  by_cases e : f.reg = G.reg ∧ i = a ∧ j = b ∧ f.lo = G.lo
  · obtain ⟨e1, rfl, rfl, e4⟩ := e
    have e : f = G := by cases f; cases G; simp_all
    subst e
    rw [State.fld_setFld _ _ _ _ _ hF, lF]
    rfl
  · rw [State.fld_setFld_ne _ _ _ _ _ _ _ _ hG hF, h]
    rw [lF, lG]
    by_cases e1 : G.reg = f.reg
    · by_cases e2 : a = i
      · by_cases e3 : b = j
        · right; right; right
          have : f.lo ≠ G.lo := fun e4 => e ⟨e1.symm, e2.symm, e3.symm, e4⟩
          omega
        · exact .inr (.inr (.inl e3))
      · exact .inr (.inl e2)
    · exact .inl e1

/-- A part of a record that a change keeps. -/
theorem State.modCar_keeps {α : Type} (p : Carrier → α) (g : Carrier → Carrier) (h : ∀ k, p (g k) = p k) (c x : Nat) :
    p ((s.modCar c g).car x) = p (s.car x) := by
  unfold State.modCar State.car
  by_cases e : x = c
  · subst e; exact (congrArg p (NTab.get_mod_same ..)).trans (h _)
  · exact congrArg p (NTab.get_mod_ne _ _ e _)

theorem State.modSc_keeps {α : Type} (p : Sc → α) (g : Sc → Sc) (h : ∀ k, p (g k) = p k) (c x : Nat) :
    p ((s.modSc c g).sc x) = p (s.sc x) := by
  unfold State.modSc State.sc
  by_cases e : x = c
  · subst e; exact (congrArg p (NTab.get_mod_same ..)).trans (h _)
  · exact congrArg p (NTab.get_mod_ne _ _ e _)

theorem State.sc_modSc_ne (g : Sc → Sc) {j i : Nat} (h : i ≠ j) : (s.modSc j g).sc i = s.sc i := NTab.get_mod_ne _ _ h _

theorem State.car_modCar_ne (g : Carrier → Carrier) {c x : Nat} (h : x ≠ c) : (s.modCar c g).car x = s.car x :=
  NTab.get_mod_ne _ _ h _

/-- An operation whose footprint misses a register keeps it. -/
theorem Upd.rd_of {w : Nat} {s t : State} (h : Upd w s t) (id : RegId) (i j : Nat) (hb : w.testBit id.ctorIdx = false) :
    t.rd (R id i j) = s.rd (R id i j) := h.reg _ hb

theorem Upd.car {w : Nat} {s t : State} (h : Upd w s t) (hb : w.testBit 601 = false) (x : Nat) : t.car x = s.car x := by
  unfold State.car; rw [h.cars hb]

theorem Upd.sc {w : Nat} {s t : State} (h : Upd w s t) (hb : w.testBit 602 = false) (x : Nat) : t.sc x = s.sc x := by
  unfold State.sc; rw [h.scs hb]

theorem Upd.grp {w : Nat} {s t : State} (h : Upd w s t) (hb : w.testBit 603 = false) (x : Nat) : t.grp x = s.grp x := by
  unfold State.grp; rw [h.grps hb]

end Sys2Proof.Machine
end

