-- ==== Sys2Proof/Laws/Domains.lean ====
section
/-! SUPPORT. What a domain's loss leaves of the power manager's own registers. -/

namespace Sys2Proof.Machine

variable (s : State)

/-- Registers that are not dropped keep their values. -/
theorem State.rd_dropRegs (p : RegKey → Bool) (k : RegKey) (h : p k = false) : (s.dropRegs p).rd k = s.rd k := by
  have key : ∀ t : List (RegKey × W32), Tab.look k (t.filter fun e => !p e.1) = Tab.look k t := by
    intro t
    induction t with
    | nil => rfl
    | cons e t ih =>
      obtain ⟨k', v⟩ := e
      rw [List.filter_cons]
      by_cases he : k' = k
      · rw [if_pos (by rw [he, h]; rfl), Tab.look, Tab.look, if_pos he, if_pos he]
      · split
        · rw [Tab.look, if_neg he, ih, Tab.look, if_neg he]
        · rw [ih, Tab.look, if_neg he]
  exact congrArg (Option.getD · _) (key _)

/-- A kept configuration writes only the registers it selects. -/
theorem State.rd_keepCfg (p : RegKey → Bool) (k : RegKey) (h : p k = false) : (s.keepCfg p).rd k = s.rd k := by
  have key : ∀ (l : List (RegKey × W32)) (s : State), (∀ e ∈ l, p e.1 = true) →
      (s.each l fun e s => s.wr e.1 ((e.2 &&& e.1.id.info.rw) ||| (e.1.reset &&& ~~~e.1.id.info.rw))).rd k = s.rd k := by
    intro l
    induction l with
    | nil => intro s _; rfl
    | cons e l ih =>
      intro s hl
      rw [State.each, ih _ fun e he => hl e (List.mem_cons_of_mem _ he)]
      exact s.rd_wr_ne (fun he => by
        have := hl e (List.mem_cons_self ..)
        rw [← he, h] at this
        exact absurd this (by decide)) _
  exact key _ s fun e he => (List.mem_filter.mp he).2

theorem State.dom_fwdShow (e : Nat) : (s.upto 3 State.fwdShow).rd (R .PMU_DOM e) = s.rd (R .PMU_DOM e) :=
  s.upto_keeps (fun x => x.rd (R .PMU_DOM e)) _ 3
    fun n x _ => (State.fwdShow_upd n x).rd_of .PMU_DOM e 0 (by decide)

/-- A domain's loss leaves the power manager's view of every domain alone. -/
theorem State.dom_domLoss (d e : Nat) (keep : Bool) : (s.domLoss d keep).rd (R .PMU_DOM e) = s.rd (R .PMU_DOM e) := by
  have hd : ∀ (s : State) (p : RegKey → Bool), p (R .PMU_DOM e) = false → (s.dropRegs p).rd (R .PMU_DOM e) = s.rd (R .PMU_DOM e) :=
    fun s p h => s.rd_dropRegs p _ h
  have hk : ∀ (s : State) (p : RegKey → Bool), p (R .PMU_DOM e) = false → (s.keepCfg p).rd (R .PMU_DOM e) = s.rd (R .PMU_DOM e) :=
    fun s p h => s.rd_keepCfg p _ h
  have h0 : (R .PMU_DOM e).domain = 0 := rfl
  unfold State.domLoss
  extract_lets s0 a1 a2 a3 m3 h9 y13
  have e0 : s0.rd (R .PMU_DOM e) = s.rd (R .PMU_DOM e) := rfl
  split
  · have e2 : a2.rd (R .PMU_DOM e) = s.rd (R .PMU_DOM e) :=
      ((State.bstAbort_upd _ s0).rd_of .PMU_DOM e 0 (by decide)).trans e0
    split
    · exact e2
    · have e3 : a3.rd (R .PMU_DOM e) = a2.rd (R .PMU_DOM e) :=
        (hd a2.winShut (fun k => k.domain == 1) (by rw [h0]; rfl)).trans ((State.winShut_upd a2).rd_of .PMU_DOM e 0 (by decide))
      exact e3.trans e2
  · split
    · exact ((State.pmkClear_upd _).rd_of .PMU_DOM e 0 (by decide)).trans
        (((State.stbStop_upd _).rd_of .PMU_DOM e 0 (by decide)).trans ((hk _ _ (by rw [h0]; rfl)).trans e0))
    · exact ((State.pmkClear_upd _).rd_of .PMU_DOM e 0 (by decide)).trans
        (((State.stbStop_upd _).rd_of .PMU_DOM e 0 (by decide)).trans ((hd _ _ (by rw [h0]; rfl)).trans e0))
  · have e3 : m3.rd (R .PMU_DOM e) = s.rd (R .PMU_DOM e) := (State.pccClear_upd _).rd_of .PMU_DOM e 0 (by decide)
    split
    · exact (hk m3 (fun k => k.domain == 3) (by rw [h0]; rfl)).trans e3
    · exact (hd m3 (fun k => k.domain == 3) (by rw [h0]; rfl)).trans e3
  · refine ((State.carLoss_upd _ _ _).rd_of .PMU_DOM e 0 (by decide)).trans ?_
    split
    · exact e0
    · exact (hd _ _ (by rw [h0]; rfl)).trans e0
  · refine ((State.carLoss_upd _ _ _).rd_of .PMU_DOM e 0 (by decide)).trans ?_
    split
    · exact e0
    · exact (hd _ _ (by rw [h0]; rfl)).trans e0
  · exact ((State.lfmLoss_upd _ _).rd_of .PMU_DOM e 0 (by decide)).trans ((hd _ _ (by rw [h0]; rfl)).trans e0)
  · refine ((State.sofLoss_upd _ _).rd_of .PMU_DOM e 0 (by decide)).trans ?_
    split
    · exact e0
    · exact (hd _ _ (by rw [h0]; rfl)).trans e0
  · unfold State.hayLoss
    refine ((State.hayFuse_upd _).rd_of .PMU_DOM e 0 (by decide)).trans ?_
    split
    · exact (hd s0 (fun k => k.domain == 8 && !hayKept true k) (by rw [h0]; rfl)).trans e0
    · exact (hd s0 (fun k => k.domain == 8) (by rw [h0]; rfl)).trans e0
  iterate 4
    show (if keep then s0 else s0.dropRegs _).rd _ = _
    split
    · exact e0
    · exact (hd s0 _ (by rfl)).trans e0
  · exact ((State.yardClear_upd _).rd_of .PMU_DOM e 0 (by decide)).trans
      ((State.dom_fwdShow _ e).trans ((hd s0 _ (by rw [h0]; rfl)).trans e0))
  · exact e0

end Sys2Proof.Machine
end

