-- ==== Sys2Proof/Laws/Frames.lean ====
section
/-! SUPPORT. From a command's footprint to what it leaves unchanged. -/

namespace Sys2Proof.Machine

/-- The bit of a piece of the state in a footprint. -/
def Piece.bit (p : Piece) : Nat := 600 + p.ctorIdx

/-- The footprint of a list of registers and a list of pieces. -/
def footOf (regs : List RegId) (parts : List Piece) : Nat :=
  parts.foldl (fun a p => a ||| 2 ^ p.bit) (regs.foldl (fun a r => a ||| 2 ^ r.ctorIdx) 0)

/-- The footprint `w` lies within the lists. -/
def within (w : Nat) (regs : List RegId) (parts : List Piece) : Bool :=
  w ||| footOf regs parts == footOf regs parts

theorem foldl_or_testBit {α : Type} (f : α → Nat) (l : List α) (a n : Nat) :
    (l.foldl (fun b x => b ||| 2 ^ f x) a).testBit n = true ↔ a.testBit n = true ∨ ∃ x ∈ l, f x = n := by
  induction l generalizing a with
  | nil => simp
  | cons y l ih => rw [List.foldl_cons, ih, Nat.testBit_or]; simp [Nat.testBit_two_pow, or_assoc]

theorem footOf_reg {regs : List RegId} {parts : List Piece} {r : RegId} (h : r ∉ regs) :
    (footOf regs parts).testBit r.ctorIdx = false := by
  rw [Bool.eq_false_iff]
  intro e
  rw [footOf, foldl_or_testBit, foldl_or_testBit] at e
  rcases e with (e | ⟨x, hx, e⟩) | ⟨p, -, e⟩
  · simp at e
  · exact h (RegId.ctorIdx_inj e ▸ hx)
  · have := RegId.ctorIdx_lt r
    simp only [Piece.bit] at e
    omega

theorem footOf_piece {regs : List RegId} {parts : List Piece} {p : Piece} (h : p ∉ parts) :
    (footOf regs parts).testBit p.bit = false := by
  rw [Bool.eq_false_iff]
  intro e
  rw [footOf, foldl_or_testBit, foldl_or_testBit] at e
  rcases e with (e | ⟨x, -, e⟩) | ⟨q, hq, e⟩
  · simp at e
  · have := RegId.ctorIdx_lt x
    simp only [Piece.bit] at e
    omega
  · refine h ?_
    have : q = p := by
      simp only [Piece.bit] at e
      cases q <;> cases p <;> first | rfl | (exfalso; revert e; decide)
    exact this ▸ hq

theorem within_clear {w n : Nat} {regs : List RegId} {parts : List Piece} (h : within w regs parts = true)
    (hf : (footOf regs parts).testBit n = false) : w.testBit n = false := by
  rw [within, beq_iff_eq] at h
  have b := congrArg (fun x => Nat.testBit x n) h
  simpa [hf] using b

/-- A piece whose bit is clear in the footprint stays as it is. -/
theorem Upd.same {w : Nat} {s t : State} (u : Upd w s t) {p : Piece} (hb : w.testBit p.bit = false) : p.same s t := by
  cases p
  · exact u.fuse hb
  · exact u.cars hb
  · exact u.scs hb
  · exact u.grps hb
  · exact u.fab hb
  · exact u.logQ hb
  · exact u.logLost hb
  · exact u.logAt hb
  · exact u.pmkTime hb
  · exact u.asserted hb
  · exact u.pccTx hb
  · exact u.pccRx hb
  · exact u.pccFifo hb
  · exact u.flows hb
  · exact u.delin hb
  · exact u.ports hb
  · exact u.hay hb
  · exact fun _ => by rw [u.hayMem hb]
  · exact u.cip hb
  · exact u.yardSt hb
  · exact u.mccTx hb
  · exact u.mccRx hb
  · exact u.drr hb
  · exact u.stb hb
  · exact u.plls hb
  · exact u.cfgBad hb
  · exact u.pmk hb
  · exact u.mon hb
  · exact u.monSnap hb
  · exact u.monFree hb
  · exact u.monAt hb
  · exact u.bins hb
  · exact u.pwr hb
  · exact u.retryLane hb
  · exact u.prbsAcc hb
  · exact u.prbsInj hb
  · exact u.links hb
  · exact u.rmt hb
  · exact u.img hb
  · exact u.imgRx hb
  · exact u.yardTx hb
  · exact fun _ => by rw [u.tack hb]
  · exact fun _ => by rw [u.ram hb]
  · exact u.cal hb
  · exact u.bst hb
  · exact u.boot hb
  · exact u.seqLevel hb
  · exact u.lcMove hb
  · exact u.lcAuth hb
  · exact u.auth hb
  · exact u.lbCmd hb
  · exact u.logSeq hb
  · exact u.winEnd hb
  · exact u.injAt hb
  · exact u.segBad hb
  · exact u.dumpAt hb
  · exact u.us hb
  · exact u.free hb

/-- An operation whose footprint lies within the lists leaves the rest unchanged. -/
theorem Upd.leaves {w : Nat} {s t : State} (u : Upd w s t) {regs : List RegId} {parts : List Piece}
    (h : within w regs parts = true) : (∀ k : RegKey, k.id ∉ regs → t.rd k = s.rd k) ∧ ∀ p, p ∉ parts → p.same s t :=
  ⟨fun k hk => u.reg k (within_clear h (footOf_reg hk)), fun _ hp => u.same (within_clear h (footOf_piece hp))⟩

/-- A command with a footprint leaves what lies outside it. -/
theorem leaves_of_upd {c : Instr} {w : Nat} (h : ∀ s, ∃ t, exec c s = .next t ∧ Upd w s t) {near : List Reach}
    {regs : List RegId} {pieces : List Piece}
    (hw : within w (regs ++ near.flatMap Reach.regs) (pieces ++ near.flatMap Reach.pieces) = true) :
    Leaves near regs pieces c := by
  intro s t e
  obtain ⟨t', e', u⟩ := h s
  rw [e] at e'
  cases e'
  have b := u.leaves hw
  refine ⟨fun k hk hr => b.1 k ?_, fun p hp hr => b.2 p ?_⟩
  · simp only [List.mem_append, List.mem_flatMap, not_or, not_exists, not_and]
    exact ⟨hk, hr⟩
  · simp only [List.mem_append, List.mem_flatMap, not_or, not_exists, not_and]
    exact ⟨hp, hr⟩

/-- A command with a footprint keeps the pieces outside it. -/
theorem keeps_of_upd {c : Instr} {w : Nat} (h : ∀ s, ∃ t, exec c s = .next t ∧ Upd w s t) {pieces : List Piece}
    (hw : (pieces.all fun p => !w.testBit p.bit) = true) : Keeps pieces c := by
  intro s t e p hp
  obtain ⟨t', e', u⟩ := h s
  rw [e] at e'
  cases e'
  exact u.same (by simpa using List.all_eq_true.mp hw p hp)

end Sys2Proof.Machine
end

