-- ==== Sys2Proof/Laws/Receiver.lean ====
section
/-! SUPPORT. What the receiver's shared operations leave of its status register, and that an event bit once set stays. -/

namespace Sys2Proof.Machine

variable (s : State)

theorem unsigned_lt (n : Nat) (z : Int) : unsigned n z < 2 ^ n := by
  have h : (0 : Int) < 2 ^ n := by positivity
  have h1 := Int.emod_lt_of_pos z h
  have h2 := Int.emod_nonneg z (Int.ne_of_gt h)
  unfold unsigned
  have : ((2 ^ n : Nat) : Int) = 2 ^ n := by push_cast; rfl
  omega

/-! ## The status register under a subcarrier's change of state -/

/-- A subcarrier's change of state writes SC_LOCKED of its carrier's status, and no other field of it. -/
theorem State.fld_scTo (i st : Nat) (f : Fld) (a b : Nat) (ho : f.ok = true) (hr : f.reg = .CAX_RX_STATUS)
    (hd : f.lo + f.len ≤ 16 ∨ 24 ≤ f.lo) : (s.scTo i st).fld f a b = s.fld f a b := by
  have h1 : ∀ (s : State) (n x : Nat), (s.setFld F.SCX_RX_STATUS_SCSTATE n x).fld f a b = s.fld f a b := fun s n x =>
    State.fld_setFld_ne _ _ _ _ _ _ _ _ rfl ho (.inl (by rw [hr]; decide))
  have h2 : ∀ (s : State) (x : Nat), (s.raise F.SCX_RX_EVT_LOCKED x).fld f a b = s.fld f a b := fun s x =>
    State.fld_setFld_ne _ _ _ _ _ _ _ _ rfl ho (.inl (by rw [hr]; decide))
  have h3 : ∀ (s : State) (x : Nat), ((s.raise F.SCX_RX_EVT_LOST x).decStop x).fld f a b = s.fld f a b := fun s x =>
    ((State.decStop_upd _ _).fld f a b (by rw [hr]; rfl)).trans
      (State.fld_setFld_ne _ _ _ _ _ _ _ _ rfl ho (.inl (by rw [hr]; decide)))
  have h4 : ∀ (s : State) (x : Nat), (s.raise F.SCX_RX_EVT_EXP_OUT x).fld f a b = s.fld f a b := fun s x =>
    State.fld_setFld_ne _ _ _ _ _ _ _ _ rfl ho (.inl (by rw [hr]; decide))
  have h5 : ∀ (s : State) (n x : Nat), (s.setFld F.CAX_RX_STATUS_SC_LOCKED n x).fld f a b = s.fld f a b := fun s n x =>
    State.fld_setFld_ne _ _ _ _ _ _ _ _ rfl ho (.inr (.inr (.inr (by rcases hd with h | h; exacts [.inr h, .inl h]))))
  have h6 : ∀ (s : State) (x y : Nat), (s.pccPend x y).fld f a b = s.fld f a b := fun s x y =>
    (State.pccPend_upd _ _ _).fld f a b (by rw [hr]; rfl)
  unfold State.scTo
  extract_lets old s1 s2 s3 s4 c m
  split
  · rfl
  · have e1 : s1.fld f a b = s.fld f a b := h1 ..
    have e2 : s2.fld f a b = s.fld f a b := (s1.fld_when_raise _ _ f i a b (h2 s1 i)).trans e1
    have e3 : s3.fld f a b = s.fld f a b := (s2.fld_when _ _ f a b (h3 s2 i)).trans e2
    have e4 : s4.fld f a b = s.fld f a b := (s3.fld_when_raise _ _ f i a b (h4 s3 i)).trans e3
    split
    · exact (h6 _ _ _).trans ((h5 _ _ _).trans e4)
    · exact e4

theorem State.fld_scsIdle (c : Nat) (f : Fld) (a b : Nat) (ho : f.ok = true) (hr : f.reg = .CAX_RX_STATUS)
    (hd : f.lo + f.len ≤ 16 ∨ 24 ≤ f.lo) : (s.scsIdle c).fld f a b = s.fld f a b := by
  unfold State.scsIdle
  refine State.each_keeps s (fun x => x.fld f a b) _ (fun i s => ?_) _
  split
  · rfl
  · exact s.fld_scTo i 0 f a b ho hr hd

theorem State.fld_expOut (c : Nat) (f : Fld) (a b : Nat) (ho : f.ok = true) (hr : f.reg = .CAX_RX_STATUS)
    (hd : f.lo + f.len ≤ 16 ∨ 24 ≤ f.lo) : (s.expOut c).fld f a b = s.fld f a b := by
  unfold State.expOut
  refine State.each_keeps s (fun x => x.fld f a b) _ (fun i s => ?_) _
  extract_lets
  split
  · exact s.fld_scTo i 4 f a b ho hr hd
  · rfl

theorem State.fld_expBack (c : Nat) (f : Fld) (a b : Nat) (ho : f.ok = true) (hr : f.reg = .CAX_RX_STATUS)
    (hd : f.lo + f.len ≤ 16 ∨ 24 ≤ f.lo) : (s.expBack c).fld f a b = s.fld f a b := by
  unfold State.expBack
  refine (State.each_keeps _ (fun x => x.fld f a b) _ (fun i s => ?_) _).trans ?_
  rotate_left
  · exact s.fld_when _ _ f a b (State.fld_setFld_ne _ _ _ _ _ _ _ _ rfl ho (.inl (by rw [hr]; decide)))
  split
  · exact s.fld_scTo i 1 f a b ho hr hd
  · rfl

/-- A new dispersion estimate leaves the status register's other fields alone. -/
theorem State.fld_cdNew (c : Nat) (cd : Int) (f : Fld) (a b : Nat) (ho : f.ok = true) (hr : f.reg = .CAX_RX_STATUS)
    (hd : f.lo + f.len ≤ 16 ∨ 24 ≤ f.lo) : (s.cdNew c cd).fld f a b = s.fld f a b := by
  have hne : ∀ (G : Fld) (s : State) (n x y : Nat), G.ok = true → G.reg ≠ .CAX_RX_STATUS →
      (s.setFld G n x y).fld f a b = s.fld f a b := fun G s n x y hG hg =>
    State.fld_setFld_ne _ _ _ _ _ _ _ _ hG ho (.inl (hr ▸ hg))
  unfold State.cdNew State.setFlag State.raise
  simp only []
  split
  · exact hne _ _ _ _ _ rfl (by decide)
  · split
    · rw [State.fld_expOut _ _ _ _ _ ho hr hd]
      unfold State.when
      split
      · rw [hne _ _ _ _ _ rfl (by decide), hne _ _ _ _ _ rfl (by decide), hne _ _ _ _ _ rfl (by decide)]
      · exact hne _ _ _ _ _ rfl (by decide)
    · split
      · rw [State.fld_expBack _ _ _ _ _ ho hr hd, hne _ _ _ _ _ rfl (by decide), hne _ _ _ _ _ rfl (by decide)]
      · exact hne _ _ _ _ _ rfl (by decide)

/-- STORE_VALID brought up to date writes no other field. -/
theorem State.fld_storeEval (c : Nat) (f : Fld) (a b : Nat) (ho : f.ok = true)
    (hd : f.reg ≠ .CAX_RX_STATUS ∨ f.lo + f.len ≤ 12 ∨ 13 ≤ f.lo) : (s.storeEval c).fld f a b = s.fld f a b :=
  State.fld_setFld_ne _ _ _ _ _ _ _ _ rfl ho (by
    rcases hd with h | h | h
    exacts [.inl (Ne.symm h), .inr (.inr (.inr (.inr h))), .inr (.inr (.inr (.inl h)))])

/-- The receiver's state becomes the one named. -/
theorem State.fld_rxTo_same (c st : Nat) : (s.rxTo c st).fld F.CAX_RX_STATUS_RXSTATE c = st % 8 := by
  unfold State.rxTo
  split
  · rename_i h; rw [h]
    have := s.fld_lt F.CAX_RX_STATUS_RXSTATE c 0
    rw [h] at this
    exact (Nat.mod_eq_of_lt this).symm
  · exact ((State.pccPend_upd _ _ _).fld F.CAX_RX_STATUS_RXSTATE c 0 rfl).trans ((State.fld_setFld _ _ _ _ _ rfl).trans rfl)

/-- A change of the receiver's state writes RXSTATE and no other field. -/
theorem State.fld_rxTo (c st : Nat) (f : Fld) (a b : Nat) (ho : f.ok = true) (hr : f.reg = .CAX_RX_STATUS)
    (hd : 3 ≤ f.lo) : (s.rxTo c st).fld f a b = s.fld f a b := by
  unfold State.rxTo
  split
  · rfl
  · exact ((State.pccPend_upd _ _ _).fld f a b (by rw [hr]; rfl)).trans
      (State.fld_setFld_ne _ _ _ _ _ _ _ _ rfl ho (.inr (.inr (.inr (.inl hd)))))

/-! ## The line frame brought up to date -/

/-- Of the receiver's status the line frame writes ACQ_STEP alone. -/
theorem State.fld_acqCheck (c : Nat) (f : Fld) (a b : Nat) (ho : f.ok = true) (hr : f.reg = .CAX_RX_STATUS)
    (hd : f.lo + f.len ≤ 4 ∨ 8 ≤ f.lo) : (s.acqCheck c).fld f a b = s.fld f a b := by
  have hs : ∀ (s : State) (n x : Nat), (s.setFld F.CAX_RX_STATUS_ACQ_STEP n x).fld f a b = s.fld f a b := fun s n x =>
    State.fld_setFld_ne _ _ _ _ _ _ _ _ rfl ho (.inr (.inr (.inr (by rcases hd with h | h; exacts [.inr h, .inl h]))))
  have hne : ∀ (G : Fld) (s : State) (x y : Nat), G.ok = true → G.reg ≠ .CAX_RX_STATUS →
      (s.raise G x y).fld f a b = s.fld f a b := fun G s x y hG hg =>
    State.fld_setFld_ne _ _ _ _ _ _ _ _ hG ho (.inl (hr ▸ hg))
  have hb : ∀ (s : State) (x : Nat), (s.bump (R .CAX_RX_RELOCK_CNT x)).fld f a b = s.fld f a b := fun s x =>
    State.fld_of_rd f (s.rd_wr_ne (fun e => by have := congrArg RegKey.id e; simp [hr] at this) _)
  unfold State.acqCheck
  simp only []
  split
  · rfl
  · split
    · unfold State.when
      split
      · rw [hb, hne _ _ _ _ rfl (by decide)]
        exact (hs _ _ _).trans (hne _ _ _ _ rfl (by decide))
      · exact (hs _ _ _).trans (hne _ _ _ _ rfl (by decide))
    · split
      · exact hs ..
      · rfl

/-- The pilot search writes, of the receiver's status, SC_LOCKED alone. -/
theorem State.fld_searchEval (c : Nat) (f : Fld) (a b : Nat) (ho : f.ok = true) (hr : f.reg = .CAX_RX_STATUS)
    (hd : f.lo + f.len ≤ 16 ∨ 24 ≤ f.lo) : (s.searchEval c).fld f a b = s.fld f a b := by
  have hn : ∀ l, (s.searchNext c l).fld f a b = s.fld f a b := by
    intro l
    unfold State.searchNext
    split
    · exact (s.fld_scTo _ 1 f a b ho hr hd)
    · rfl
  unfold State.searchEval
  split
  · rfl
  · split
    · split
      · rfl
      · exact hn _
    · exact hn _

theorem State.fld_lineEval (c : Nat) (f : Fld) (a b : Nat) (ho : f.ok = true) (hr : f.reg = .CAX_RX_STATUS)
    (hd : f.lo + f.len ≤ 4 ∨ 8 ≤ f.lo) (hc : f.lo + f.len ≤ 16 ∨ 24 ≤ f.lo) :
    (s.lineEval c).fld f a b = s.fld f a b := by
  unfold State.lineEval
  refine (State.fld_when _ _ _ f a b ((State.grpsEval_upd _).fld f a b (by rw [hr]; rfl))).trans ?_
  refine (State.fld_acqCheck _ _ _ _ _ ho hr hd).trans ?_
  refine (State.fld_when _ _ _ f a b ?_).trans (State.fld_searchEval _ _ _ _ _ ho hr hc)
  rw [(State.srcEval_upd _ _).fld f a b (by rw [hr]; rfl),
    State.each_keeps _ (fun x => x.fld f a b) _ (fun i s => (State.sfEval_upd i s).fld f a b (by rw [hr]; rfl)) _,
    State.each_keeps _ (fun x => x.fld f a b) _ (fun i s => (State.sigEval_upd i s).fld f a b (by rw [hr]; rfl)) _]

/-- An event of the receiver that is set stays set. -/
theorem State.fld_acqCheck_event (c : Nat) (f : Fld) (a b : Nat) (ho : f.ok = true) (hr : f.reg = .CAX_RX_EVT)
    (hl : f.len = 1) (h : s.fld f a b = 1) : (s.acqCheck c).fld f a b = 1 := by
  have hne : ∀ (s : State) (n x : Nat), (s.setFld F.CAX_RX_STATUS_ACQ_STEP n x).fld f a b = s.fld f a b := fun s n x =>
    State.fld_setFld_ne _ _ _ _ _ _ _ _ rfl ho (.inl (by rw [hr]; decide))
  have hb : ∀ (s : State) (x : Nat), (s.bump (R .CAX_RX_RELOCK_CNT x)).fld f a b = s.fld f a b := fun s x =>
    State.fld_of_rd f (s.rd_wr_ne (fun e => by have := congrArg RegKey.id e; simp [hr] at this) _)
  have h1 : ((s.raise F.CAX_RX_EVT_ACQ_COMPLETE c).setFld F.CAX_RX_STATUS_ACQ_STEP 15 c).fld f a b = 1 := by
    rw [hne]; exact s.fld_raise_of_set f _ a b c 0 ho rfl hl rfl h
  unfold State.acqCheck
  simp only []
  split
  · exact h
  · split
    · unfold State.when
      split
      · rw [hb]; exact State.fld_raise_of_set _ f _ a b c 0 ho rfl hl rfl h1
      · exact h1
    · split
      · rw [hne]; exact h
      · exact h

theorem State.fld_lineEval_event (c : Nat) (f : Fld) (a b : Nat) (ho : f.ok = true) (hr : f.reg = .CAX_RX_EVT)
    (hl : f.len = 1) (h : s.fld f a b = 1) : (s.lineEval c).fld f a b = 1 := by
  unfold State.lineEval
  refine (State.fld_when _ _ _ f a b ((State.grpsEval_upd _).fld f a b (by rw [hr]; rfl))).trans ?_
  refine State.fld_acqCheck_event _ _ _ _ _ ho hr hl ?_
  refine ((State.fld_when _ _ _ f a b ?_).trans ((State.searchEval_upd _ _).fld f a b (by rw [hr]; rfl))).trans h
  rw [(State.srcEval_upd _ _).fld f a b (by rw [hr]; rfl),
    State.each_keeps _ (fun x => x.fld f a b) _ (fun i s => (State.sfEval_upd i s).fld f a b (by rw [hr]; rfl)) _,
    State.each_keeps _ (fun x => x.fld f a b) _ (fun i s => (State.sigEval_upd i s).fld f a b (by rw [hr]; rfl)) _]

/-! ## The profile in force -/

/-- Bringing the held subcarriers up to date changes no more of a carrier's record than its mismatch. -/
theorem State.car_mismatchEval {α : Type} (p : Carrier → α) (h : ∀ k m, p { k with mismatch := m } = p k) (c x : Nat) :
    p ((s.mismatchEval c).car x) = p (s.car x) := by
  unfold State.mismatchEval
  extract_lets m old s' run
  have e : p (s'.car x) = p (s.car x) := by
    refine Eq.trans ?_ (s.modCar_keeps p (fun k => { k with mismatch := m }) (fun k => h k m) c x)
    unfold s' State.when
    split <;> rfl
  rw [← e]
  refine State.each_keeps s' (fun s => p (s.car x)) _ (fun i s => ?_) _
  extract_lets
  split
  · exact congrArg p ((State.scTo_upd _ _ _).car rfl x)
  · split
    · exact congrArg p ((State.scTo_upd _ _ _).car rfl x)
    · rfl

/-- Reading a descriptor changes no more of a carrier's record than the descriptor read and the mismatch. -/
theorem State.car_descRead {α : Type} (p : Carrier → α) (h : ∀ k m, p { k with mismatch := m } = p k)
    (h' : ∀ k d, p { k with rdDesc := d } = p k) (i x : Nat) : p ((s.descRead i).car x) = p (s.car x) := by
  unfold State.descRead
  extract_lets c y d d' s'
  have e : ∀ x, s'.car x = s.car x := fun _ => rfl
  clear_value s' d'
  rw [← e]
  cases d' with
  | none => rfl
  | some w =>
    simp only []
    split
    · rfl
    · split
      · rw [State.car_mismatchEval _ p h]
        exact s'.modCar_keeps p (fun k => { k with rdDesc := none }) (fun k => h' k _) c x
      · rw [State.car_mismatchEval _ p h]
        exact s'.modCar_keeps p (fun k => { k with rdDesc := some w }) (fun k => h' k _) c x

/-- An event of the line that is set stays set when the held subcarriers are brought up to date. -/
theorem State.fld_mismatchEval_event (c : Nat) (f : Fld) (a b : Nat) (ho : f.ok = true) (hr : f.reg = .CAX_LINE_EVT)
    (hl : f.len = 1) (h : s.fld f a b = 1) : (s.mismatchEval c).fld f a b = 1 := by
  unfold State.mismatchEval
  extract_lets m old s' run
  have e : s'.fld f a b = 1 := by
    unfold s' State.when
    split
    · exact State.fld_raise_of_set _ f _ a b c 0 ho rfl hl rfl h
    · exact h
  refine State.each_holds s' (fun s => s.fld f a b = 1) _ (fun i s hs => ?_) _ e
  extract_lets
  split
  · rw [(State.scTo_upd _ _ _).fld f a b (by rw [hr]; rfl)]; exact hs
  · split
    · rw [(State.scTo_upd _ _ _).fld f a b (by rw [hr]; rfl)]; exact hs
    · exact hs

end Sys2Proof.Machine
end

