-- ==== Sys2Proof/Laws/LineFrame.lean ====
section
/-! SUPPORT. What bringing the line frame and the groups up to date leaves alone: the loss-of-frame flag and the frame
number, the state of a subcarrier that stays locked, and events already set. -/

namespace Sys2Proof.Machine

variable (s : State)

/-- Fields of SC_STATUS that the frame states and defects do not write: LOF and FN. -/
def keptScFld (f : Fld) : Prop := f.ok = true ∧ f.reg = .LFM_SC_STATUS ∧ (f.lo = 4 ∧ f.len = 1 ∨ 16 ≤ f.lo)

theorem keptScFld.set {f : Fld} (h : keptScFld f) (g : Fld) (hg : g.ok = true)
    (hd : g.reg ≠ .LFM_SC_STATUS ∨ g.lo + g.len ≤ 4 ∨ 5 ≤ g.lo ∧ g.lo + g.len ≤ 16) (s : State) (n x y a b : Nat) :
    (s.setFld g n x y).fld f a b = s.fld f a b := by
  obtain ⟨ho, hr, hl⟩ := h
  refine State.fld_setFld_ne _ _ _ _ _ _ _ _ hg ho ?_
  rw [hr]
  rcases hd with h | h | ⟨h, h'⟩
  · exact .inl h
  · right; right; right; left; omega
  · right; right; right; omega

theorem keptScFld.fstate {f : Fld} (h : keptScFld f) (s : State) (i st a b : Nat) :
    (s.fstate i st).fld f a b = s.fld f a b := by
  unfold State.fstate
  extract_lets s'
  have e : s'.fld f a b = s.fld f a b :=
    (h.set F.LFM_SC_STATUS_OOF rfl (.inr (.inl (by decide))) _ _ _ _ _ _).trans (h.set _ rfl (.inr (.inl (by decide))) ..)
  unfold State.when
  split
  · exact e
  · exact e

theorem keptScFld.leaveFrame {f : Fld} (h : keptScFld f) (s : State) (i a b : Nat) :
    (s.leaveFrame i).fld f a b = s.fld f a b := by
  have hr := h.2.1
  have e : ∀ (x : State) (g : Sc → Sc), (x.modSc i g).fld f a b = x.fld f a b := fun _ _ => rfl
  unfold State.leaveFrame
  exact (e _ _).trans (((State.decStop_upd _ _).fld f a b (by rw [hr]; rfl)).trans
    ((h.set F.LFM_SC_STATUS_HYP rfl (.inr (.inr (by decide))) ..).trans
      ((h.set F.LFM_SC_STATUS_JC_LOCK rfl (.inr (.inr (by decide))) ..).trans
        (h.set F.LFM_SC_STATUS_OOM rfl (.inr (.inr (by decide))) ..))))

theorem keptScFld.sigEval {f : Fld} (h : keptScFld f) (s : State) (i a b : Nat) :
    (s.sigEval i).fld f a b = s.fld f a b := by
  unfold State.sigEval
  extract_lets sig st
  split
  · exact h.fstate ..
  · split
    · rw [h.fstate, h.leaveFrame]
    · rfl

theorem keptScFld.sfEval {f : Fld} (h : keptScFld f) (s : State) (i a b : Nat) :
    (s.sfEval i).fld f a b = s.fld f a b := by
  unfold State.sfEval
  extract_lets sf old s'
  have e : s'.fld f a b = s.fld f a b := by
    unfold s' State.when; split <;> rfl
  split
  · exact e
  · rw [← e]
    refine Eq.trans ?_ (h.set F.LFM_SC_STATUS_SF rfl (.inr (.inr (by decide))) s' (bit sf) i 0 a b)
    split
    · exact h.set F.LFM_SC_EVT_SF_SET rfl (.inl (by decide)) ..
    · exact h.set F.LFM_SC_EVT_SF_CLR rfl (.inl (by decide)) ..

/-- LOF and the frame number stay when the line frame is brought up to date. -/
theorem keptScFld.lineEval {f : Fld} (h : keptScFld f) (s : State) (c a b : Nat) :
    (s.lineEval c).fld f a b = s.fld f a b := by
  have hr := h.2.1
  unfold State.lineEval
  refine (State.fld_when _ _ _ f a b ((State.grpsEval_upd _).fld f a b (by rw [hr]; rfl))).trans ?_
  refine ((State.acqCheck_upd _ _).fld f a b (by rw [hr]; rfl)).trans ?_
  refine (State.fld_when _ _ _ f a b ?_).trans ((State.searchEval_upd _ _).fld f a b (by rw [hr]; rfl))
  rw [(State.srcEval_upd _ _).fld f a b (by rw [hr]; rfl),
    State.each_keeps _ (fun x => x.fld f a b) _ (fun i s => h.sfEval s i a b) _,
    State.each_keeps _ (fun x => x.fld f a b) _ (fun i s => h.sigEval s i a b) _]

theorem State.fld_lineEval_lof (c i : Nat) : (s.lineEval c).fld F.LFM_SC_STATUS_LOF i = s.fld F.LFM_SC_STATUS_LOF i :=
  keptScFld.lineEval ⟨rfl, rfl, .inl ⟨rfl, rfl⟩⟩ ..

theorem State.fld_lineEval_fn (c i : Nat) : (s.lineEval c).fld F.LFM_SC_STATUS_FN i = s.fld F.LFM_SC_STATUS_FN i :=
  keptScFld.lineEval ⟨rfl, rfl, .inr (by decide)⟩ ..

/-- The check of a captured map reads nothing of MAP_CTRL. -/
theorem State.commitOk_setFlag (tx b : Bool) (j i : Nat) (d : Bool) (l : List W32) :
    (s.setFlag (pendFld tx) b j).commitOk i d l = s.commitOk i d l := by
  have hreg : (pendFld tx).reg = .LFM_MAP_CTRL := by cases tx <;> rfl
  have hr : ∀ k : RegKey, k.id ≠ .LFM_MAP_CTRL → (s.setFlag (pendFld tx) b j).rd k = s.rd k := fun k hk =>
    s.rd_wr_ne (fun e => hk ((congrArg RegKey.id e).trans hreg)) _
  have hi : (s.setFlag (pendFld tx) b j).insts .LFM_GRP_CFG = s.insts .LFM_GRP_CFG :=
    s.insts_wr_ne _ _ _ (by show _ ≠ (pendFld tx).reg; rw [hreg]; decide)
  have hf : ∀ (f : Fld) (x y : Nat), f.reg ≠ .LFM_MAP_CTRL → (s.setFlag (pendFld tx) b j).fld f x y = s.fld f x y :=
    fun f x y h => State.fld_of_rd f (hr _ h)
  have hp : (s.setFlag (pendFld tx) b j).dirProf (scCar i) d = s.dirProf (scCar i) d := by
    unfold State.dirProf
    split
    · exact hr _ (show RegId.CAX_TX_PROFILE ≠ .LFM_MAP_CTRL by decide)
    · rfl
  have hh : ∀ gid, (s.setFlag (pendFld tx) b j).homeOf gid = s.homeOf gid := by
    intro gid
    unfold State.homeOf State.isHome
    rw [hi]
    simp only [hf _ _ _ (show F.LFM_GRP_CFG_MEMBERS.reg ≠ .LFM_MAP_CTRL by decide),
      hf _ _ _ (show F.LFM_GRP_CFG_GID.reg ≠ .LFM_MAP_CTRL by decide)]
  unfold State.commitOk
  simp only [hp, hh, State.flag, hf _ _ _ (show F.LFM_GRP_CFG_EXPRESS.reg ≠ .LFM_MAP_CTRL by decide)]
  rfl

/-! ## Events already set stay set -/

theorem State.fld_lineEval_scEvent (c : Nat) (f : Fld) (a b : Nat) (ho : f.ok = true) (hr : f.reg = .LFM_SC_EVT)
    (hl : f.len = 1) (h : s.fld f a b = 1) : (s.lineEval c).fld f a b = 1 := by
  unfold State.lineEval
  refine (State.fld_when _ _ _ f a b ((State.grpsEval_upd _).fld f a b (by rw [hr]; rfl))).trans ?_
  refine ((State.acqCheck_upd _ _).fld f a b (by rw [hr]; rfl)).trans ?_
  have h0 : (s.searchEval c).fld f a b = 1 := ((State.searchEval_upd _ _).fld f a b (by rw [hr]; rfl)).trans h
  refine State.when_holds _ (fun x => x.fld f a b = 1) _ _ h0 fun h1 => ?_
  refine ((State.srcEval_upd _ _).fld f a b (by rw [hr]; rfl)).trans ?_
  refine State.each_holds _ (fun x => x.fld f a b = 1) _ (fun i s hs => ?_) _ ?_
  · unfold State.sfEval
    extract_lets sf old s'
    have e : s'.fld f a b = 1 := by
      rw [← hs]; unfold s' State.when; split <;> rfl
    split
    · exact e
    · have e' : (s'.setFlag F.LFM_SC_STATUS_SF sf i).fld f a b = 1 := by
        rw [← e]; exact State.fld_setFld_ne _ _ _ _ _ _ _ _ rfl ho (.inl (by rw [hr]; decide))
      refine State.fld_raise_of_set _ f _ a b i 0 ho ?_ hl ?_ e' <;> split <;> rfl
  · refine State.each_holds _ (fun x => x.fld f a b = 1) _ (fun i s hs => ?_) _ h1
    rw [(State.sigEval_upd _ _).fld f a b (by rw [hr]; rfl)]; exact hs

theorem State.fld_grpLeave_event (g st : Nat) (f : Fld) (a b : Nat) (ho : f.ok = true) (hr : f.reg = .LFM_GRP_EVT)
    (hl : f.len = 1) (h : s.fld f a b = 1) : (s.grpLeave g st).fld f a b = 1 := by
  unfold State.grpLeave
  extract_lets s'
  have e : s'.fld f a b = 1 := by
    unfold s'
    refine State.when_holds _ (fun x => x.fld f a b = 1) _ _ h fun hs => ?_
    refine Eq.trans ?_ (s.fld_raise_of_set f F.LFM_GRP_EVT_DOWN a b g 0 ho rfl hl rfl hs)
    have e1 := (State.sealsLost_upd g ((s.raise F.LFM_GRP_EVT_DOWN g).bump (R .LFM_GRP_FAIL_CNT g))).fld f a b
      (by rw [hr]; rfl)
    refine Eq.trans ?_ (e1.trans ?_)
    · rfl
    · exact State.fld_of_rd f (State.rd_wr_ne _ (fun e => by have := congrArg RegKey.id e; simp [hr] at this) _)
  refine ((State.retSettle_upd _).fld f a b (by rw [hr]; rfl)).trans (Eq.trans ?_ e)
  exact State.fld_setFld_ne _ _ _ _ _ _ _ _ rfl ho (.inl (by rw [hr]; decide))

theorem State.fld_grpEval_event (g : Nat) (f : Fld) (a b : Nat) (ho : f.ok = true) (hr : f.reg = .LFM_GRP_EVT)
    (hl : f.len = 1) (h : s.fld f a b = 1) : (s.grpEval g).fld f a b = 1 := by
  have hne : ∀ (G : Fld) (s : State) (n x y : Nat), G.ok = true → G.reg ≠ .LFM_GRP_EVT →
      (s.setFld G n x y).fld f a b = s.fld f a b := fun G s n x y hG hg =>
    State.fld_setFld_ne _ _ _ _ _ _ _ _ hG ho (.inl (hr ▸ hg))
  unfold State.grpEval
  extract_lets st ms up s'
  have e : s'.fld f a b = 1 := by
    unfold s'
    split
    · split
      · exact h
      · exact s.fld_grpLeave_event g 0 f a b ho hr hl h
    · split
      · split
        · exact h
        · exact s.fld_grpLeave_event g 1 f a b ho hr hl h
      · split
        · exact (hne F.LFM_GRP_STATUS_STATE s 2 g 0 rfl (by decide)).trans h
        · exact h
  rw [hne _ _ _ _ _ rfl (by decide), hne _ _ _ _ _ rfl (by decide), e]

/-! ## A locked subcarrier stays in frame -/

/-- A change of one subcarrier's state leaves another's. -/
theorem State.fld_scTo_other (j i st : Nat) (h : j ≠ i) :
    (s.scTo j st).fld F.SCX_RX_STATUS_SCSTATE i = s.fld F.SCX_RX_STATUS_SCSTATE i := by
  have h1 : ∀ (s : State) (n : Nat), (s.setFld F.SCX_RX_STATUS_SCSTATE n j).fld F.SCX_RX_STATUS_SCSTATE i =
      s.fld F.SCX_RX_STATUS_SCSTATE i := fun s n => State.fld_setFld_ne _ _ _ _ _ _ _ _ rfl rfl (.inr (.inl h))
  have h2 : ∀ (s : State) (x : Nat), (s.raise F.SCX_RX_EVT_LOCKED x).fld F.SCX_RX_STATUS_SCSTATE i =
      s.fld F.SCX_RX_STATUS_SCSTATE i := fun s x => State.fld_setFld_ne _ _ _ _ _ _ _ _ rfl rfl (.inl (by decide))
  have h3 : ∀ (s : State) (x : Nat), ((s.raise F.SCX_RX_EVT_LOST x).decStop x).fld F.SCX_RX_STATUS_SCSTATE i =
      s.fld F.SCX_RX_STATUS_SCSTATE i := fun s x =>
    ((State.decStop_upd _ _).fld F.SCX_RX_STATUS_SCSTATE i 0 rfl).trans
      (State.fld_setFld_ne _ _ _ _ _ _ _ _ rfl rfl (.inl (by decide)))
  have h4 : ∀ (s : State) (x : Nat), (s.raise F.SCX_RX_EVT_EXP_OUT x).fld F.SCX_RX_STATUS_SCSTATE i =
      s.fld F.SCX_RX_STATUS_SCSTATE i := fun s x => State.fld_setFld_ne _ _ _ _ _ _ _ _ rfl rfl (.inl (by decide))
  have h5 : ∀ (s : State) (n x : Nat), (s.setFld F.CAX_RX_STATUS_SC_LOCKED n x).fld F.SCX_RX_STATUS_SCSTATE i =
      s.fld F.SCX_RX_STATUS_SCSTATE i := fun s n x => State.fld_setFld_ne _ _ _ _ _ _ _ _ rfl rfl (.inl (by decide))
  have h6 : ∀ (s : State) (x y : Nat), (s.pccPend x y).fld F.SCX_RX_STATUS_SCSTATE i =
      s.fld F.SCX_RX_STATUS_SCSTATE i := fun s x y => (State.pccPend_upd _ _ _).fld F.SCX_RX_STATUS_SCSTATE i 0 rfl
  unfold State.scTo
  extract_lets old s1 s2 s3 s4 c m
  split
  · rfl
  · have e1 : s1.fld F.SCX_RX_STATUS_SCSTATE i = s.fld F.SCX_RX_STATUS_SCSTATE i := h1 s st
    have e2 : s2.fld F.SCX_RX_STATUS_SCSTATE i = s.fld F.SCX_RX_STATUS_SCSTATE i :=
      (s1.fld_when_raise _ _ F.SCX_RX_STATUS_SCSTATE j i 0 (h2 s1 j)).trans e1
    have e3 : s3.fld F.SCX_RX_STATUS_SCSTATE i = s.fld F.SCX_RX_STATUS_SCSTATE i :=
      (s2.fld_when _ _ F.SCX_RX_STATUS_SCSTATE i 0 (h3 s2 j)).trans e2
    have e4 : s4.fld F.SCX_RX_STATUS_SCSTATE i = s.fld F.SCX_RX_STATUS_SCSTATE i :=
      (s3.fld_when_raise _ _ F.SCX_RX_STATUS_SCSTATE j i 0 (h4 s3 j)).trans e3
    clear_value s4
    split
    · exact (h6 _ _ _).trans ((h5 _ _ _).trans e4)
    · exact e4

/-- The pilot search leaves the profile in force. -/
theorem State.rxForce_searchEval (c x : Nat) : ((s.searchEval c).car x).rxForce = (s.car x).rxForce := by
  have hn : ∀ l, ((s.searchNext c l).car x).rxForce = (s.car x).rxForce := by
    intro l
    unfold State.searchNext
    split
    · exact (State.modCar_keeps _ Carrier.rxForce _ (by intro _; rfl) c x).trans
        (congrArg Carrier.rxForce ((State.scTo_upd _ _ _).car rfl x))
    · exact State.modCar_keeps _ Carrier.rxForce _ (by intro _; rfl) c x
  unfold State.searchEval
  split
  · exact State.modCar_keeps _ Carrier.rxForce _ (by intro _; rfl) c x
  · split
    · split
      · rfl
      · exact hn _
    · exact hn _


/-- A change of another subcarrier's frame state. -/
theorem State.fld_sigEval_other (i j : Nat) (h : j ≠ i) :
    (s.sigEval j).fld F.LFM_SC_STATUS_FSTATE i = s.fld F.LFM_SC_STATUS_FSTATE i := by
  have hs : ∀ (s : State) (g : Fld) (n : Nat), g.ok = true → (s.setFld g n j).fld F.LFM_SC_STATUS_FSTATE i =
      s.fld F.LFM_SC_STATUS_FSTATE i := fun s g n hg => State.fld_setFld_ne _ _ _ _ _ _ _ _ hg rfl (.inr (.inl h))
  have hf : ∀ (s : State) (st : Nat), (s.fstate j st).fld F.LFM_SC_STATUS_FSTATE i = s.fld F.LFM_SC_STATUS_FSTATE i := by
    intro s st
    unfold State.fstate
    extract_lets s'
    have e : s'.fld F.LFM_SC_STATUS_FSTATE i = s.fld F.LFM_SC_STATUS_FSTATE i := (hs _ _ _ rfl).trans (hs _ _ _ rfl)
    unfold State.when
    split
    · exact e
    · exact e
  have hl : ∀ s : State, (s.leaveFrame j).fld F.LFM_SC_STATUS_FSTATE i = s.fld F.LFM_SC_STATUS_FSTATE i := by
    intro s
    have e : ∀ (x : State) (g : Sc → Sc), (x.modSc j g).fld F.LFM_SC_STATUS_FSTATE i = x.fld F.LFM_SC_STATUS_FSTATE i :=
      fun _ _ => rfl
    unfold State.leaveFrame
    exact (e _ _).trans (((State.decStop_upd _ _).fld F.LFM_SC_STATUS_FSTATE i 0 rfl).trans
      ((hs _ _ _ rfl).trans ((hs _ _ _ rfl).trans (hs _ _ _ rfl))))
  unfold State.sigEval
  extract_lets sig st
  split
  · exact hf ..
  · split
    · rw [hf, hl]
    · rfl

/-- The pilot search leaves a locked subcarrier locked. -/
theorem State.scState_searchEval (c i : Nat) (hl : s.fld F.SCX_RX_STATUS_SCSTATE i = 2) :
    (s.searchEval c).fld F.SCX_RX_STATUS_SCSTATE i = 2 := by
  have hn : ∀ l, (s.searchNext c l).fld F.SCX_RX_STATUS_SCSTATE i = 2 := by
    intro l
    unfold State.searchNext
    split
    · rename_i j hj
      have hu := List.find?_some hj
      have hne : j ≠ i := by
        rintro rfl
        unfold State.unserved at hu
        rw [hl] at hu
        simp at hu
      exact (State.fld_scTo_other s j i 1 hne).trans hl
    · exact hl
  unfold State.searchEval
  split
  · exact hl
  · split
    · split
      · exact hl
      · exact hn _
    · exact hn _

/-- Bringing the line frame up to date keeps the frame state of a locked subcarrier in native mode. -/
theorem State.fld_lineEval_fstate (c i : Nat) (hl : s.scLocked i = true) (hm : s.rxMode (scCar i) = 0)
    (hf : 1 ≤ s.fld F.LFM_SC_STATUS_FSTATE i) :
    (s.lineEval c).fld F.LFM_SC_STATUS_FSTATE i = s.fld F.LFM_SC_STATUS_FSTATE i := by
  have hl' := hl
  unfold State.scLocked at hl'
  simp only [Bool.and_eq_true, beq_iff_eq] at hl'
  unfold State.lineEval
  refine (State.fld_when _ _ _ F.LFM_SC_STATUS_FSTATE i 0 ((State.grpsEval_upd _).fld F.LFM_SC_STATUS_FSTATE i 0 rfl)).trans ?_
  refine ((State.acqCheck_upd _ _).fld F.LFM_SC_STATUS_FSTATE i 0 rfl).trans ?_
  generalize hy : s.searchEval c = y
  have u0 := State.searchEval_upd c s
  rw [hy] at u0
  have y1 : y.scLocked i = true := by
    have h1 := State.scState_searchEval s c i hl'.2
    unfold State.scLocked State.domOn at hl ⊢
    rw [show y.fld F.SCX_RX_STATUS_SCSTATE i = 2 from hy ▸ h1, u0.fld F.PMU_DOM_STATE (4 + scCar i) 0 rfl]
    rw [hl'.2] at hl
    exact hl
  have y2 : y.rxMode (scCar i) = 0 := by
    rw [← hm]
    unfold State.rxMode
    exact congrArg pMode (hy ▸ State.rxForce_searchEval s c _)
  have y3 : y.fld F.LFM_SC_STATUS_FSTATE i = s.fld F.LFM_SC_STATUS_FSTATE i := u0.fld F.LFM_SC_STATUS_FSTATE i 0 rfl
  rw [← y3] at hf ⊢
  clear hy u0
  refine State.fld_when _ _ _ F.LFM_SC_STATUS_FSTATE i 0 ?_
  rw [(State.srcEval_upd _ _).fld F.LFM_SC_STATUS_FSTATE i 0 rfl]
  rw [State.each_keeps _ (fun x => x.fld F.LFM_SC_STATUS_FSTATE i) _ (fun j s => ?_) _]
  · have key := State.each_holds y (fun x => x.scLocked i = true ∧ x.rxMode (scCar i) = 0 ∧
      x.fld F.LFM_SC_STATUS_FSTATE i = y.fld F.LFM_SC_STATUS_FSTATE i) State.sigEval (fun j x hx => ?_) (scsOf c)
      ⟨y1, y2, rfl⟩
    · exact key.2.2
    · have u := State.sigEval_upd j x
      have e1 : (x.sigEval j).scLocked i = x.scLocked i := by
        unfold State.scLocked State.domOn
        rw [u.fld F.SCX_RX_STATUS_SCSTATE i 0 rfl, u.fld F.PMU_DOM_STATE (4 + scCar i) 0 rfl]
      have e2 : (x.sigEval j).rxMode (scCar i) = x.rxMode (scCar i) := by unfold State.rxMode; rw [u.car rfl]
      refine ⟨e1.trans hx.1, e2.trans hx.2.1, ?_⟩
      rw [← hx.2.2]
      by_cases e : j = i
      · subst e
        unfold State.sigEval
        have h0 : x.fld F.LFM_SC_STATUS_FSTATE j ≠ 0 := by rw [hx.2.2]; omega
        simp [hx.1, hx.2.1, h0]
      · exact x.fld_sigEval_other i j e
  · unfold State.sfEval
    extract_lets sf old s'
    have e : s'.fld F.LFM_SC_STATUS_FSTATE i = s.fld F.LFM_SC_STATUS_FSTATE i := by
      unfold s' State.when; split <;> rfl
    split
    · exact e
    · rw [← e]
      refine Eq.trans ?_ (State.fld_setFld_ne s' F.LFM_SC_STATUS_SF F.LFM_SC_STATUS_FSTATE (bit sf) j 0 i 0 rfl rfl
        (.inr (.inr (.inr (.inr (by decide))))))
      split
      · exact State.fld_setFld_ne _ F.LFM_SC_EVT_SF_SET _ _ _ _ _ _ rfl rfl (.inl (by decide))
      · exact State.fld_setFld_ne _ F.LFM_SC_EVT_SF_CLR _ _ _ _ _ _ rfl rfl (.inl (by decide))

/-! ## The count of failed alignment words -/

theorem State.sc_setFlag (f : Fld) (b : Bool) (x y i : Nat) : (s.setFlag f b x y).sc i = s.sc i := rfl

theorem State.sc_raise (f : Fld) (x y i : Nat) : (s.raise f x y).sc i = s.sc i := rfl

theorem State.awFail_modSc (g : Sc → Sc) (h : ∀ k, (g k).awFail = k.awFail) (j i : Nat) :
    ((s.modSc j g).sc i).awFail = (s.sc i).awFail := s.modSc_keeps Sc.awFail g h j i

theorem State.awFail_pmAdd (j : Nat) (g : PmAcc → PmAcc) (i : Nat) : ((s.pmAdd j g).sc i).awFail = (s.sc i).awFail :=
  s.awFail_modSc _ (fun k => by split <;> rfl) j i

theorem State.awFail_pmFlag (j m i : Nat) : ((s.pmFlag j m).sc i).awFail = (s.sc i).awFail := s.awFail_pmAdd j _ i

theorem State.awFail_fstate (j st i : Nat) : ((s.fstate j st).sc i).awFail = (s.sc i).awFail := by
  unfold State.fstate
  exact State.when_holds _ (fun x => (x.sc i).awFail = (s.sc i).awFail) _ _ rfl fun _ => State.awFail_pmFlag _ j 8 i

theorem State.awFail_scidRun (j : Nat) (ok bad : Bool) (i : Nat) : ((s.scidRun j ok bad).sc i).awFail = (s.sc i).awFail := by
  unfold State.scidRun
  extract_lets x b o s'
  have e : (s'.sc i).awFail = (s.sc i).awFail :=
    s.awFail_modSc (fun x => { x with scidBad := min b 3, scidOk := min o 3 }) (fun _ => rfl) _ _
  split
  · exact e
  · split
    · exact e
    · exact e

theorem State.awFail_oom (j i : Nat) : ((s.oom j).sc i).awFail = (s.sc i).awFail := by
  unfold State.oom
  rw [State.awFail_fstate]
  exact State.awFail_modSc _ _ (by intro _; rfl) _ _

theorem State.awFail_hdrIf (j : Nat) (h : Option Header) (i : Nat) : ((s.hdrIf j h).sc i).awFail = (s.sc i).awFail := by
  unfold State.hdrIf
  cases h with
  | none =>
    refine State.when_holds _ (fun x => (x.sc i).awFail = (s.sc i).awFail) _ _ ?_
      fun e => (State.awFail_oom _ j i).trans e
    exact s.awFail_modSc _ (by intro _; rfl) _ _
  | some h =>
    dsimp only
    generalize hs1 : (s.modSc j fun x => { x with noHdr := 0 }) = s1
    have e1 : (s1.sc i).awFail = (s.sc i).awFail := hs1 ▸ s.awFail_modSc _ (by intro _; rfl) _ _
    split
    · exact (State.awFail_modSc _ _ (by intro _; rfl) _ _).trans ((s1.awFail_fstate j 3 i).trans e1)
    · exact (s1.awFail_modSc _ (by intro _; rfl) _ _).trans e1

theorem State.awFail_descByte (j fn : Nat) (h : Header) (i : Nat) :
    ((s.descByte j fn h).sc i).awFail = (s.sc i).awFail := by
  unfold State.descByte
  extract_lets d l s'
  have e : (s'.sc i).awFail = (s.sc i).awFail := s.awFail_modSc (fun x => { x with descs := l }) (fun _ => rfl) _ _
  split
  · split
    · exact (congrArg Sc.awFail ((State.descSeen_upd _ _ _ _ s').sc rfl i)).trans e
    · exact e
  · exact e

theorem State.awFail_rdiHdr (c : Nat) (v : Bool) (i : Nat) : ((s.rdiHdr c v).sc i).awFail = (s.sc i).awFail := by
  unfold State.rdiHdr
  extract_lets f s' s2
  split
  · rfl
  · split
    · refine (congrArg Sc.awFail ((State.holds_upd _).sc rfl i)).trans ?_
      exact (State.each_keeps _ (fun s => (s.sc i).awFail) _ (fun j s => s.awFail_pmFlag j 2 i) _).trans rfl
    · exact congrArg Sc.awFail ((State.holds_upd _).sc rfl i) |>.trans
        (congrArg Sc.awFail ((State.holdEnd_upd _ _).sc rfl i))

theorem State.awFail_hdrIm (j : Nat) (h : Option Header) (i : Nat) : ((s.hdrIm j h).sc i).awFail = (s.sc i).awFail := by
  unfold State.hdrIm
  have e1 : ∀ (a b c d f : Nat) (x y : State), (x.sc i).awFail = (y.sc i).awFail →
      (((x.setFld F.LFM_SC_STATUS_FN a b).count c d f).sc i).awFail = (y.sc i).awFail := fun a b c d f x y e =>
    (congrArg Sc.awFail ((State.count_upd _ _ _ _).sc rfl i)).trans e
  cases h with
  | none =>
    refine State.when_holds _ (fun x => (x.sc i).awFail = (s.sc i).awFail) _ _ ?_
      fun e => (State.awFail_oom _ j i).trans e
    exact (State.awFail_modSc _ _ (by intro _; rfl) _ _).trans (e1 _ _ _ _ _ s s rfl)
  | some h =>
    dsimp only
    generalize hs1 : (s.setFld F.LFM_SC_STATUS_FN ((s.fld F.LFM_SC_STATUS_FN j + 1) % 256) j).count 0x047 j 1 = s1
    have g1 : (s1.sc i).awFail = (s.sc i).awFail := hs1 ▸ e1 _ _ _ _ _ s s rfl
    generalize hs2 : (s1.modSc j fun x =>
      { x with noHdr := 0, wrongFn := if h.fn = (s.fld F.LFM_SC_STATUS_FN j + 1) % 256 then 0 else x.wrongFn + 1 }) = s2
    have g2 : (s2.sc i).awFail = (s.sc i).awFail := hs2 ▸ (s1.awFail_modSc _ (by intro _; rfl) _ _).trans g1
    generalize hs3 : s2.when (s2.fld F.LFM_CA_STATUS_SRC (scCar j) == j % 8) (State.rdiHdr (scCar j) h.rdi) = s3
    have g3 : (s3.sc i).awFail = (s.sc i).awFail := hs3 ▸
      State.when_holds _ (fun x => (x.sc i).awFail = (s.sc i).awFail) _ _ g2 fun e => (State.awFail_rdiHdr _ _ _ i).trans e
    split
    · exact (State.awFail_oom _ j i).trans g3
    · split
      · exact (State.awFail_descByte ..).trans g3
      · exact g3

theorem State.awFail_jcFrame (j : Nat) (jc : Option Nat) (i : Nat) : ((s.jcFrame j jc).sc i).awFail = (s.sc i).awFail := by
  unfold State.jcFrame
  extract_lets rate x next
  split
  · show ((s.modSc j _).sc i).awFail = _; apply State.awFail_modSc; intro _; rfl
  · show ((s.modSc j _).sc i).awFail = _; apply State.awFail_modSc; intro _; rfl
  · split
    · rw [State.sc_setFlag]; apply State.awFail_modSc; intro _; rfl
    · show ((s.modSc j _).sc i).awFail = _; apply State.awFail_modSc; intro _; rfl
  · show ((s.modSc j _).sc i).awFail = _; apply State.awFail_modSc; intro _; rfl

theorem State.awFail_ovhCarrier (c fn : Nat) (o : Overhead) (i : Nat) :
    ((s.ovhCarrier c fn o).sc i).awFail = (s.sc i).awFail := by
  unfold State.ovhCarrier
  extract_lets mf sf s1 s2 s3
  have e1 : (s1.sc i).awFail = (s.sc i).awFail := rfl
  have e2 : (s2.sc i).awFail = (s.sc i).awFail := by
    rw [← e1]; unfold s2
    refine State.when_holds s1 (fun s => (s.sc i).awFail = (s1.sc i).awFail) _ _ rfl fun _ => ?_
    refine (State.each_keeps _ (fun s => (s.sc i).awFail) _ (fun j s => ?_) _).trans rfl
    refine State.when_holds s (fun x => (x.sc i).awFail = (s.sc i).awFail) _ _ rfl fun _ => ?_
    exact s.awFail_pmFlag j 2 i
  have e3 : (s3.sc i).awFail = (s.sc i).awFail := by
    rw [← e2]; unfold s3 State.when; split <;> rfl
  rw [← e3]
  exact congrArg Sc.awFail ((State.ttiByte_upd ..).sc rfl i)

theorem State.awFail_reiAccept (j a b c d i : Nat) : ((s.reiAccept j a b c d).sc i).awFail = (s.sc i).awFail := by
  unfold State.reiAccept
  extract_lets x gap
  split
  · exact s.awFail_modSc _ (by intro _; rfl) _ _
  · refine State.when_holds _ (fun x => (x.sc i).awFail = (s.sc i).awFail) _ _ ?_ fun e => e
    exact (State.awFail_pmAdd _ j _ i).trans (s.awFail_modSc _ (by intro _; rfl) _ _)

theorem State.awFail_reiPart (j fn : Nat) (p : Byte × Byte) (i : Nat) :
    ((s.reiPart j fn p).sc i).awFail = (s.sc i).awFail := by
  unfold State.reiPart
  extract_lets l s'
  have e : (s'.sc i).awFail = (s.sc i).awFail := s.awFail_modSc (fun x => { x with rei := l }) (fun _ => rfl) _ _
  split
  · rw [State.awFail_reiAccept, e]
  · exact e

theorem State.awFail_msiByte (j fn : Nat) (b : Byte) (i : Nat) : ((s.msiByte j fn b).sc i).awFail = (s.sc i).awFail := by
  unfold State.msiByte
  extract_lets f s'
  have e : (s'.sc i).awFail = (s.sc i).awFail := s.awFail_modSc (fun x => { x with msi := f }) (fun _ => rfl) _ _
  split
  · unfold State.msimEval
    extract_lets bad new
    have e4 := State.awFail_modSc (s'.upto 10 fun e s => s.wr (R .LFM_MSI_RX j e) (msiWord f.last e))
      (fun x => { x with msim := bad }) (fun _ => rfl) j i
    have e5 : ((s'.upto 10 fun e s => s.wr (R .LFM_MSI_RX j e) (msiWord f.last e)).sc i).awFail = (s'.sc i).awFail :=
      State.upto_keeps s' (fun s => (s.sc i).awFail) _ _ fun _ _ _ => rfl
    unfold State.when
    split
    · rw [State.sc_raise, e4, e5, e]
    · rw [e4, e5, e]
  · exact e

theorem State.sc_mccIn (j : Nat) (p : Byte × Byte) (err : Bool) (i : Nat) : (s.mccIn j p err).sc i = s.sc i :=
  (State.mccIn_upd ..).sc rfl i

theorem State.awFail_ovhFrame (j : Nat) (o : Option Overhead) (i : Nat) :
    ((s.ovhFrame j o).sc i).awFail = (s.sc i).awFail := by
  unfold State.ovhFrame
  extract_lets fn o' s1 src s2 w t1 t2
  have e1 : (s1.sc i).awFail = (s.sc i).awFail := s.awFail_jcFrame _ _ _
  have e2 : (s2.sc i).awFail = (s.sc i).awFail :=
    State.when_holds _ (fun x => (x.sc i).awFail = (s.sc i).awFail) _ _ e1 fun e =>
      (congrArg Sc.awFail ((State.ttmByte_upd ..).sc rfl i)).trans e
  have e3 : (t2.sc i).awFail = (s.sc i).awFail :=
    State.when_holds _ (fun x => (x.sc i).awFail = (s.sc i).awFail) _ _
      ((State.awFail_modSc _ _ (by intro _; rfl) _ _).trans e2) fun e => e
  clear_value t2 t1 s2 s1 o'
  cases o' with
  | none => exact (congrArg Sc.awFail (State.sc_mccIn ..)).trans e3
  | some o =>
    simp only [State.sc_mccIn, State.awFail_reiPart, State.awFail_msiByte]
    refine State.when_holds s2 (fun x => (x.sc i).awFail = (s.sc i).awFail) _ _ e2 fun e => ?_
    exact (State.awFail_ovhCarrier _ _ _ _ _).trans e

end Sys2Proof.Machine
end

