-- ==== Sys2Proof/Laws/Selector.lean ====
section
/-! SUPPORT. What the Stable's shared operations leave of its status registers, and that an event bit once set stays. -/

namespace Sys2Proof.Machine

variable (s : State)

/-- AVAIL brought up to date writes no field but the candidates' AVAIL and STB.STATUS.AVAIL, and raises events. -/
theorem State.fld_availEval (f : Fld) (a b : Nat) (ho : f.ok = true)
    (h1 : f.reg ≠ .STB_REF_STATUS ∨ f.lo + f.len ≤ F.STB_REF_STATUS_AVAIL.lo ∨ F.STB_REF_STATUS_AVAIL.lo + 1 ≤ f.lo)
    (h2 : f.reg ≠ .STB_STATUS ∨ f.lo + f.len ≤ F.STB_STATUS_AVAIL.lo ∨
      F.STB_STATUS_AVAIL.lo + F.STB_STATUS_AVAIL.len ≤ f.lo)
    (h3 : f.reg ≠ .STB_REF_EVT) : s.availEval.fld f a b = s.fld f a b := by
  unfold State.availEval
  refine State.upto_keeps s (fun x => x.fld f a b) _ _ (fun i s _ => ?_)
  extract_lets
  split
  · rfl
  · rename_i s1 m _
    have e0 : (s.setFlag F.STB_REF_STATUS_AVAIL (s.availNow i) i).fld f a b = s.fld f a b :=
      State.fld_setFld_ne _ _ _ _ _ _ _ _ rfl ho (by
        rcases h1 with h | h | h
        exacts [.inl (Ne.symm h), .inr (.inr (.inr (.inr h))), .inr (.inr (.inr (.inl h)))])
    have e1 : s1.fld f a b = s.fld f a b := (State.fld_when_raise _ _ _ _ _ _ _
      (State.fld_setFld_ne _ _ _ _ _ _ _ _ rfl ho (.inl (Ne.symm h3)))).trans e0
    exact (State.fld_setFld_ne _ _ _ _ _ _ _ _ rfl ho (by
        rcases h2 with h | h | h
        exacts [.inl (Ne.symm h), .inr (.inr (.inr (.inr h))), .inr (.inr (.inr (.inl h)))])).trans e1

/-- A candidate's event that is set stays set while AVAIL is brought up to date. -/
theorem State.fld_availEval_event (f : Fld) (a b : Nat) (ho : f.ok = true) (hr : f.reg = .STB_REF_EVT) (hl : f.len = 1)
    (h : s.fld f a b = 1) : s.availEval.fld f a b = 1 := by
  unfold State.availEval
  refine State.upto_holds s (fun x => x.fld f a b = 1) _ _ (fun i s _ h => ?_) h
  extract_lets
  split
  · exact h
  · rename_i s1 m _
    have e0 : (s.setFlag F.STB_REF_STATUS_AVAIL (s.availNow i) i).fld f a b = 1 :=
      (State.fld_setFld_ne _ _ _ _ _ _ _ _ rfl ho (.inl (by rw [hr]; decide))).trans h
    have e1 : s1.fld f a b = 1 :=
      State.when_holds _ (fun x => x.fld f a b = 1) _ _ e0 fun h => State.fld_raise_of_set _ _ _ _ _ _ _ ho rfl hl rfl h
    exact (State.fld_setFld_ne _ _ _ _ _ _ _ _ rfl ho (.inl (by rw [hr]; decide))).trans e1

/-! ## Levels -/

/-- The rank in force is one of 16. -/
theorem State.rankOf_lt (r : Nat) (h : r < 16) : s.rankOf r < 16 := by
  unfold State.rankOf; split
  · decide
  · split <;> omega

/-- A new rank stands in the candidate's status. -/
theorem State.fld_setQl_same (i r : Nat) (h : r < 16) : (s.setQl i r).fld F.STB_REF_STATUS_QL i = r := by
  unfold State.setQl
  split
  · assumption
  · refine ((State.qlEval_upd _).fld _ _ _ rfl).trans ((State.fld_availEval _ _ _ _ rfl (by decide) (by decide) (by decide)).trans ?_)
    refine (State.fld_when_raise _ _ _ _ _ _ _ (State.fld_setFld_ne _ _ _ _ _ _ _ _ rfl rfl (.inl (by decide)))).trans ?_
    refine (State.fld_setFld_ne _ _ _ _ _ _ _ _ rfl rfl (.inl (by decide))).trans ?_
    exact (State.fld_setFld _ _ _ _ _ rfl).trans (Nat.mod_eq_of_lt h)

/-- A new rank of one candidate leaves the rank of every other. -/
theorem State.fld_setQl_ne (i r a : Nat) (h : a ≠ i) : (s.setQl i r).fld F.STB_REF_STATUS_QL a = s.fld F.STB_REF_STATUS_QL a := by
  unfold State.setQl
  split
  · rfl
  · refine ((State.qlEval_upd _).fld _ _ _ rfl).trans ((State.fld_availEval _ _ _ _ rfl (by decide) (by decide) (by decide)).trans ?_)
    refine (State.fld_when_raise _ _ _ _ _ _ _ (State.fld_setFld_ne _ _ _ _ _ _ _ _ rfl rfl (.inl (by decide)))).trans ?_
    refine (State.fld_setFld_ne _ _ _ _ _ _ _ _ rfl rfl (.inl (by decide))).trans ?_
    exact State.fld_setFld_ne _ _ _ _ _ _ _ _ rfl rfl (.inr (.inl (Ne.symm h)))

/-- A level delivered reaches every candidate that names its source (R226). -/
theorem State.fld_deliver (key rank : Nat) (bad : Bool) (x y i : Nat) (hr : rank < 16) (hi : i < 15)
    (ho : s.stbOn = true) (hk : s.qlKey i = some key) :
    (s.deliver key rank bad x y).fld F.STB_REF_STATUS_QL i = s.rankOf rank := by
  unfold State.deliver
  rw [if_neg (by simp [ho])]
  extract_lets s1
  have hk1 : s1.qlKey i = some key := hk
  have hr1 : s1.rankOf rank = s.rankOf rank := rfl
  have key' : ∀ (j : Nat) (s : State), (s.when bad fun s => s.raise F.STB_REF_EVT_QL_BAD j).fld F.STB_REF_STATUS_QL i =
      s.fld F.STB_REF_STATUS_QL i := fun j s =>
    State.fld_when_raise _ _ _ _ _ _ _ (State.fld_setFld_ne _ _ _ _ _ _ _ _ rfl rfl (.inl (by decide)))
  have hq : ∀ (j r : Nat) (s : State) (k : RegId), (k = .STB_REF_CFG ∨ k = .STB_REF_LOS ∨ k = .STB_CFG) → ∀ a,
      ((s.when bad fun s => s.raise F.STB_REF_EVT_QL_BAD j).setQl j r).rd (R k a) = s.rd (R k a) := by
    intro j r s k hk a
    have hw : ∀ e : RegId, (k = e → False) → (s.when bad fun s => s.raise F.STB_REF_EVT_QL_BAD j).rd (R k a) = s.rd (R k a) ∨
        e ≠ .STB_REF_EVT := fun e he => by
      by_cases h : e = .STB_REF_EVT
      · left
        unfold State.when; split
        · exact State.rd_setFld_ne _ _ _ _ _ (fun x => he ((congrArg RegKey.id x).trans h.symm))
        · rfl
      · exact .inr h
    have hw' := (hw .STB_REF_EVT (by rcases hk with rfl | rfl | rfl <;> decide)).resolve_right (fun h => h rfl)
    refine Eq.trans ?_ hw'
    rcases hk with rfl | rfl | rfl <;> exact Upd.rd_of (State.setQl_upd _ _ _) _ _ _ (by decide)
  have hkey : ∀ (s t : State), (∀ k a, (k = RegId.STB_REF_CFG ∨ k = .STB_REF_LOS ∨ k = .STB_CFG) →
      t.rd (R k a) = s.rd (R k a)) → t.qlKey i = s.qlKey i ∧ t.rankOf rank = s.rankOf rank := by
    intro s t h
    constructor
    · unfold State.qlKey
      rw [State.fld_of_rd F.STB_REF_CFG_QL_SRC (h _ _ (by decide)),
        State.fld_of_rd F.STB_REF_CFG_PORT (h _ _ (by decide)),
        State.fld_of_rd F.STB_REF_LOS_PC_SENDER (h _ _ (by decide))]
    · unfold State.rankOf State.flag
      rw [State.fld_of_rd F.STB_CFG_QL_OPT (h _ _ (by decide))]
  refine State.upto_brings s1 (fun t => t.fld F.STB_REF_STATUS_QL i = s.rankOf rank)
    (fun t => t.qlKey i = some key ∧ t.rankOf rank = s.rankOf rank) _ 15 i hi ?_ ?_ ?_ ⟨hk1, hr1⟩
  · intro j s hj hs
    split
    · obtain ⟨e1, e2⟩ := hkey s _ (fun k a hk => hq j (s.rankOf rank) s k hk a)
      exact ⟨e1.trans hs.1, e2.trans hs.2⟩
    · exact hs
  · intro t ht
    rw [if_pos ht.1, State.fld_setQl_same _ _ _ (State.rankOf_lt _ _ hr), ht.2]
  · intro j t hj ht
    split
    · rw [State.fld_setQl_ne _ _ _ _ (Ne.symm hj), key']; exact ht
    · exact ht

/-! ## States -/

theorem State.fld_wr_other (k : RegKey) (v : W32) (f : Fld) (x y : Nat) (h : f.reg ≠ k.id) :
    (s.wr k v).fld f x y = s.fld f x y := State.fld_of_rd f (s.rd_wr_ne (fun e => h (congrArg RegKey.id e)) v)

theorem enterEvt_ok (st : Nat) : (enterEvt st).ok = true ∧ (enterEvt st).reg = .STB_EVT ∧ (enterEvt st).len = 1 := by
  unfold enterEvt; split <;> decide

/-- What follows an entry into a state leaves the Stable's registers alone. -/
theorem State.fld_stbEnter_tail (b : Bool) (f : Fld) (x y : Nat) (hr : f.reg = .STB_STATUS ∨ f.reg = .STB_EVT) :
    (((s.when b (State.detect 9)).cleanEval).qlEval.ppsEval).fld f x y = s.fld f x y := by
  refine ((State.ppsEval_upd _).fld f x y ?_).trans (((State.qlEval_upd _).fld f x y ?_).trans
    (((State.cleanEval_upd _).fld f x y ?_).trans (State.fld_when _ _ _ _ _ _ ((State.detect_upd _ _).fld f x y ?_)))) <;>
  rcases hr with h | h <;> rw [h] <;> decide

/-- The Stable is in the state entered. -/
theorem State.stbSt_stbEnter (st : Nat) (h : st < 8) : (s.stbEnter st).stbSt = st := by
  unfold State.stbEnter State.stbSt
  extract_lets old s1 s2 s3
  split
  · assumption
  · rw [State.fld_stbEnter_tail _ _ _ _ _ (.inl rfl)]
    have e3 : s3.fld F.STB_STATUS_STATE = s2.fld F.STB_STATUS_STATE :=
      State.fld_when _ _ _ _ _ _ (State.fld_wr_other _ _ _ _ _ _ (by decide))
    have e2 : s2.fld F.STB_STATUS_STATE = (s1.setFld F.STB_STATUS_STATE st).fld F.STB_STATUS_STATE :=
      State.fld_setFld_ne _ _ _ _ _ _ _ _ (enterEvt_ok st).1 rfl (.inl (by rw [(enterEvt_ok st).2.1]; decide))
    exact e3.trans (e2.trans ((State.fld_setFld _ _ _ _ _ rfl).trans (Nat.mod_eq_of_lt h)))

/-- An entry into a state writes STATE and no other field of STB.STATUS. -/
theorem State.fld_stbEnter (st : Nat) (f : Fld) (x y : Nat) (ho : f.ok = true) (hr : f.reg = .STB_STATUS)
    (hd : f.lo + f.len ≤ F.STB_STATUS_STATE.lo ∨ F.STB_STATUS_STATE.lo + F.STB_STATUS_STATE.len ≤ f.lo) :
    (s.stbEnter st).fld f x y = s.fld f x y := by
  unfold State.stbEnter
  extract_lets old s1 s2 s3
  split
  · rfl
  · rw [State.fld_stbEnter_tail _ _ _ _ _ (.inl hr)]
    have e3 : s3.fld f x y = s2.fld f x y :=
      State.fld_when _ _ _ _ _ _ (State.fld_wr_other _ _ _ _ _ _ (by rw [hr]; decide))
    have e2 : s2.fld f x y = (s1.setFld F.STB_STATUS_STATE st).fld f x y :=
      State.fld_setFld_ne _ _ _ _ _ _ _ _ (enterEvt_ok st).1 ho (.inl (by rw [(enterEvt_ok st).2.1, hr]; decide))
    refine e3.trans (e2.trans ?_)
    exact State.fld_setFld_ne _ _ _ _ _ _ _ _ rfl ho (by rcases hd with h | h; exacts [.inr (.inr (.inr (.inr h))), .inr (.inr (.inr (.inl h)))])

/-- An entry into another state sets its event. -/
theorem State.fld_stbEnter_own (st : Nat) (h : s.stbSt ≠ st) : (s.stbEnter st).fld (enterEvt st) = 1 := by
  unfold State.stbEnter
  extract_lets old s1 s2 s3
  rw [if_neg h, State.fld_stbEnter_tail _ _ _ _ _ (.inr (enterEvt_ok st).2.1)]
  have e3 : s3.fld (enterEvt st) = s2.fld (enterEvt st) :=
    State.fld_when _ _ _ _ _ _ (State.fld_wr_other _ _ _ _ _ _ (by rw [(enterEvt_ok st).2.1]; decide))
  have e2 : s2.fld (enterEvt st) = 1 % 2 ^ (enterEvt st).len := State.fld_setFld _ _ _ _ _ (enterEvt_ok st).1
  rw [e3, e2, (enterEvt_ok st).2.2]
  rfl

/-- An event of the Stable that is set stays set when a state is entered. -/
theorem State.fld_stbEnter_event (st : Nat) (f : Fld) (x y : Nat) (ho : f.ok = true) (hr : f.reg = .STB_EVT)
    (hl : f.len = 1) (h : s.fld f x y = 1) : (s.stbEnter st).fld f x y = 1 := by
  unfold State.stbEnter
  extract_lets old s1 s2 s3
  split
  · exact h
  · rw [State.fld_stbEnter_tail _ _ _ _ _ (.inr hr)]
    have e3 : s3.fld f x y = s2.fld f x y :=
      State.fld_when _ _ _ _ _ _ (State.fld_wr_other _ _ _ _ _ _ (by rw [hr]; decide))
    rw [e3]
    refine State.fld_raise_of_set _ _ _ _ _ _ _ ho (enterEvt_ok st).1 hl (enterEvt_ok st).2.2 ?_
    exact (State.fld_setFld_ne _ _ _ _ _ _ _ _ rfl ho (.inl (by rw [hr]; decide))).trans h

/-- The move to ACQUIRE, where it is due, leaves STB.STATUS's other fields alone. -/
theorem State.fld_stbAcq (f : Fld) (x y : Nat) (ho : f.ok = true) (hr : f.reg = .STB_STATUS)
    (hd : f.lo + f.len ≤ F.STB_STATUS_STATE.lo ∨ F.STB_STATUS_STATE.lo + F.STB_STATUS_STATE.len ≤ f.lo) :
    s.stbAcq.fld f x y = s.fld f x y := by
  unfold State.stbAcq
  extract_lets
  split
  · exact State.fld_stbEnter _ _ _ _ _ ho hr hd
  · rfl

/-- The loss of the selection leaves STB.STATUS's other fields alone. -/
theorem State.fld_stbLose (f : Fld) (x y : Nat) (ho : f.ok = true) (hr : f.reg = .STB_STATUS)
    (hd : f.lo + f.len ≤ F.STB_STATUS_STATE.lo ∨ F.STB_STATUS_STATE.lo + F.STB_STATUS_STATE.len ≤ f.lo) :
    s.stbLose.fld f x y = s.fld f x y := by
  unfold State.stbLose
  split
  · exact State.fld_stbEnter _ _ _ _ _ ho hr hd
  · rfl

/-- The clamp's report leaves the other fields alone. -/
theorem State.fld_clampEval (f : Fld) (x y : Nat) (ho : f.ok = true)
    (hd : f.reg ≠ .STB_STATUS ∨ f.lo + f.len ≤ F.STB_STATUS_CLAMPED.lo ∨ F.STB_STATUS_CLAMPED.lo + 1 ≤ f.lo)
    (he : f.reg ≠ .STB_EVT) : s.clampEval.fld f x y = s.fld f x y := by
  unfold State.clampEval
  extract_lets c
  split
  · rfl
  · refine ((State.cleanEval_upd _).fld f x y ?_).trans ?_
    · cases hf : f.reg <;> rfl
    · refine (State.fld_when_raise _ _ _ _ _ _ _ (State.fld_setFld_ne _ _ _ _ _ _ _ _ rfl ho (.inl (Ne.symm he)))).trans ?_
      exact State.fld_setFld_ne _ _ _ _ _ _ _ _ rfl ho (by
        rcases hd with h | h | h
        exacts [.inl (Ne.symm h), .inr (.inr (.inr (.inr h))), .inr (.inr (.inr (.inl h)))])

/-- What follows a commit to a candidate writes, of STB.STATUS, BUILDOUT alone. -/
theorem State.fld_commit_tail (w : Nat) (b : Bool) (g : Stb → Stb) (f : Fld) (x y : Nat) (ho : f.ok = true) (hr : f.reg = .STB_STATUS)
    (h3 : f.lo + f.len ≤ F.STB_STATUS_BUILDOUT.lo ∨ F.STB_STATUS_BUILDOUT.lo + 1 ≤ f.lo) :
    (((((s.raise F.STB_REF_EVT_SELECTED w).modStb g).lossOver).when b fun s =>
      (((s.raise F.STB_EVT_SWITCH).bump (R .STB_SWITCH_CNT)).setFlag F.STB_STATUS_BUILDOUT true).cleanEval).qlEval).fld f x y =
      s.fld f x y := by
  refine ((State.qlEval_upd _).fld _ _ _ (by rw [hr]; decide)).trans ?_
  refine (State.fld_when _ _ _ _ _ _ ?_).trans
    (State.fld_setFld_ne _ _ _ _ _ _ _ _ rfl ho (.inl (by rw [hr]; decide)))
  refine ((State.cleanEval_upd _).fld _ _ _ (by rw [hr]; decide)).trans ?_
  refine (State.fld_setFld_ne _ _ _ _ _ _ _ _ rfl ho (.inr (.inr (.inr h3.symm)))).trans ?_
  refine (State.fld_wr_other _ _ _ _ _ _ (by rw [hr]; decide)).trans ?_
  exact State.fld_setFld_ne _ _ _ _ _ _ _ _ rfl ho (.inl (by rw [hr]; decide))

/-- A commit of the selector names the candidate and leaves, of STB.STATUS, all but STATE, SEL and BUILDOUT alone. -/
theorem State.fld_commitSel_tail (w : Nat) (b : Bool) (g : Stb → Stb) (f : Fld) (x y : Nat) (ho : f.ok = true) (hr : f.reg = .STB_STATUS)
    (h1 : f.lo + f.len ≤ F.STB_STATUS_STATE.lo ∨ F.STB_STATUS_STATE.lo + F.STB_STATUS_STATE.len ≤ f.lo)
    (h3 : f.lo + f.len ≤ F.STB_STATUS_BUILDOUT.lo ∨ F.STB_STATUS_BUILDOUT.lo + 1 ≤ f.lo) :
    (if w = 15 then s.stbLose.qlEval
      else ((((s.raise F.STB_REF_EVT_SELECTED w).modStb g).lossOver).when b fun s =>
        (((s.raise F.STB_EVT_SWITCH).bump (R .STB_SWITCH_CNT)).setFlag F.STB_STATUS_BUILDOUT true).cleanEval).qlEval).fld f x y =
      s.fld f x y := by
  split
  · exact ((State.qlEval_upd s.stbLose).fld _ _ _ (by rw [hr]; decide)).trans (State.fld_stbLose s _ _ _ ho hr h1)
  · exact s.fld_commit_tail w b g f x y ho hr h3

theorem State.stbSel_commitSel (w : Nat) (h : w < 16) : (s.commitSel w).stbSel = w :=
  (State.fld_commitSel_tail _ w _ _ F.STB_STATUS_SEL 0 0 rfl rfl (by decide) (by decide)).trans
    ((State.fld_setFld _ _ _ _ _ rfl).trans (Nat.mod_eq_of_lt h))

theorem State.fld_commitSel (w : Nat) (f : Fld) (x y : Nat) (ho : f.ok = true) (hr : f.reg = .STB_STATUS)
    (h1 : f.lo + f.len ≤ F.STB_STATUS_STATE.lo ∨ F.STB_STATUS_STATE.lo + F.STB_STATUS_STATE.len ≤ f.lo)
    (h2 : f.lo + f.len ≤ F.STB_STATUS_SEL.lo ∨ F.STB_STATUS_SEL.lo + F.STB_STATUS_SEL.len ≤ f.lo)
    (h3 : f.lo + f.len ≤ F.STB_STATUS_BUILDOUT.lo ∨ F.STB_STATUS_BUILDOUT.lo + 1 ≤ f.lo) :
    (s.commitSel w).fld f x y = s.fld f x y := by
  refine (State.fld_commitSel_tail _ w _ _ f x y ho hr h1 h3).trans ?_
  refine (State.fld_setFld_ne _ _ _ _ _ _ _ _ rfl ho (.inr (.inr (.inr h2.symm)))).trans ?_
  refine State.fld_when _ _ _ _ _ _ ?_
  exact (State.modCand_upd _ _ _).fld f x y (by rw [hr]; decide) |>.trans
    (State.fld_setFld_ne _ _ _ _ _ _ _ _ rfl ho (.inl (by rw [hr]; decide)))

/-! ## The samples -/

/-- The counts and TRAINED brought up to date leave the histories alone. -/
theorem State.stb_trainEval : s.trainEval.stb.s10 = s.stb.s10 ∧ s.trainEval.stb.s1 = s.stb.s1 := by
  unfold State.trainEval State.setTrained
  extract_lets
  split <;> exact ⟨rfl, rfl⟩

/-! ## Postmark -/

/-- PPS_SQ brought up to date leaves the other fields alone. -/
theorem State.fld_ppsEval (f : Fld) (x y : Nat) (ho : f.ok = true)
    (hd : f.reg ≠ .PMK_STATUS ∨ f.lo + f.len ≤ F.PMK_STATUS_PPS_SQ.lo ∨ F.PMK_STATUS_PPS_SQ.lo + 1 ≤ f.lo)
    (he : f.reg ≠ .PMK_EVT) : s.ppsEval.fld f x y = s.fld f x y := by
  unfold State.ppsEval
  split
  · rfl
  · refine (State.fld_when_raise _ _ _ _ _ _ _ (State.fld_setFld_ne _ _ _ _ _ _ _ _ rfl ho (.inl (Ne.symm he)))).trans ?_
    exact State.fld_setFld_ne _ _ _ _ _ _ _ _ rfl ho (by
      rcases hd with h | h | h
      exacts [.inl (Ne.symm h), .inr (.inr (.inr (.inr h))), .inr (.inr (.inr (.inl h)))])

/-- An event of Postmark that is set stays set. -/
theorem State.fld_ppsEval_event (f : Fld) (x y : Nat) (ho : f.ok = true) (hr : f.reg = .PMK_EVT) (hl : f.len = 1)
    (h : s.fld f x y = 1) : s.ppsEval.fld f x y = 1 := by
  unfold State.ppsEval
  split
  · exact h
  · have e0 : (s.setFlag F.PMK_STATUS_PPS_SQ s.ppsSq).fld f x y = 1 :=
      (State.fld_setFld_ne _ _ _ _ _ _ _ _ rfl ho (.inl (by rw [hr]; decide))).trans h
    exact State.when_holds _ (fun x' => x'.fld f x y = 1) _ _ e0 fun h => State.fld_raise_of_set _ _ _ _ _ _ _ ho rfl hl rfl h

end Sys2Proof.Machine
end

