-- ==== Sys2Proof/WellFormed.lean ====
section
/-! DEFINITION. Which terms are commands: every operand that names a part of the block names one that some device has
(Table 18.1 and the tables cited), and every address and width is one the fabric can carry (R417, R419). -/

namespace Sys2Proof

/-- A master of the address space: four control cores. -/
def Master.wf : Master → Bool
  | .core n | .user n => decide (n < 4)
  | _ => true

/-- A carrier. -/
def isCar (c : Nat) : Bool := decide (c < 2)
/-- A converter lane of a carrier. -/
def isLane (l : Nat) : Bool := decide (l < 4)
/-- A subcarrier, eight a carrier. -/
def isSc (i : Nat) : Bool := decide (i < 16)
/-- A group page. -/
def isGroup (g : Nat) : Bool := decide (g < 160)
/-- A GID. -/
def isGid (g : Nat) : Bool := decide (g < 4096)
/-- A member number. -/
def isMsn (n : Nat) : Bool := decide (n < 160)
/-- A flow. -/
def isFlow (f : Nat) : Bool := decide (f < 4096)
/-- A host port. -/
def isPort (p : Nat) : Bool := decide (p < 16)
/-- A priority of PFC. -/
def isPrio (p : Nat) : Bool := decide (p < 8)
/-- A reference candidate. -/
def isCand (i : Nat) : Bool := decide (i < 15)
/-- A pair of monitor converters. -/
def isPair (p : Nat) : Bool := decide (p < 2)
/-- A monitor converter. -/
def isConv (n : Nat) : Bool := decide (n < 4)
/-- A detector bin. -/
def isBin (b : Nat) : Bool := decide (b < 8)
/-- A receive slot of the Postcard channel. -/
def isRxSlot (k : Nat) : Bool := decide (k < 8)
/-- A host lane. -/
def isHostLane (l : Nat) : Bool := decide (l < 32)
/-- A yard lane. -/
def isYardLane (l : Nat) : Bool := decide (l < 8)
/-- A yard link. -/
def isLink (j : Nat) : Bool := decide (j < 3)
/-- A power domain other than AON (Table 15.1). -/
def isDom (d : Nat) : Bool := decide (1 ≤ d) && decide (d < 14)
/-- A supply rail. -/
def isRail (r : Nat) : Bool := decide (r < 6)
/-- A reset source (Table 15.6). -/
def isSource (n : Nat) : Bool := decide (n < 16)
/-- A self-test target's number (Table 16.5). -/
def isTarget (t : Nat) : Bool := decide (t < 128)
/-- A control core. -/
def isCtrlCore (c : Nat) : Bool := decide (c < 4)
/-- A performance counter. -/
def isCounter (n : Nat) : Bool := decide (n < 32)
/-- A fault (Table 17.6). -/
def isFault (f : Nat) : Bool := decide (f < 10)
/-- An injector (R414). -/
def isInj (k : Nat) : Bool := decide (k < 8)
/-- A byte address. -/
def isAddr (a : Nat) : Bool := decide (a < 2 ^ 32)
/-- An access width in bytes. -/
def isSize (n : Nat) : Bool := n == 1 || n == 2 || n == 4
/-- A Hayloft line of 64 bytes. -/
def isLine (n : Nat) : Bool := decide (n < 2 ^ 31)

/-- The command is well-formed. -/
def Instr.wf : Instr → Bool
  | .go m c _ => m.wf && isCar c
  | .cancel m c _ => m.wf && isCar c
  | .rxProfileWrite m c _ => m.wf && isCar c
  | .announce c => isCar c
  | .multiframeTx c => isCar c
  | .switch c => isCar c
  | .chgDone c => isCar c
  | .holdTimeout c => isCar c
  | .multiframeRx c _ => isCar c
  | .rxFollowed c => isCar c
  | .descAdopted c => isCar c
  | .expCdRange c _ => isCar c
  | .expCdReturn c _ => isCar c
  | .expStepMove c _ => isCar c
  | .laserOn m c _ => m.wf && isCar c
  | .mute m c _ => m.wf && isCar c
  | .settleElapsed c => isCar c
  | .serviceEntered c => isCar c
  | .clkFault c => isCar c
  | .txClkLock c => isCar c
  | .segErr c => isCar c
  | .txPreApply m c _ => m.wf && isCar c
  | .txPreCopyDone c => isCar c
  | .clip c lane => isCar c && isLane lane
  | .txSkewWrite m c lane _ => m.wf && isCar c && isLane lane
  | .skewRamp c lane => isCar c && isLane lane
  | .rxEn m c _ => m.wf && isCar c
  | .acqRestart m c _ => m.wf && isCar c
  | .acqStep c _ => isCar c
  | .acqTimeout c => isCar c
  | .relockFail c => isCar c
  | .los c _ => isCar c
  | .losClear c _ => isCar c
  | .adcClkFault c => isCar c
  | .clkLol c => isCar c
  | .scLost sc => isSc sc
  | .reconvTimeout sc => isSc sc
  | .scLocked sc => isSc sc
  | .degSet sc => isSc sc
  | .degClear sc => isSc sc
  | .sopTransient sc _ => isSc sc
  | .slip sc => isSc sc
  | .fofsRange x => isCar x.car
  | .boostMismatch c _ => isCar c
  | .rxShapeWrite m c _ => m.wf && isCar c
  | .snapshot c _ => isCar c
  | .storeExpired c => isCar c
  | .cdFine c => isCar c
  | .sliceSwap c lane _ => isCar c && isLane lane
  | .decode sc _ => isSc sc
  | .uncDefectSet sc => isSc sc
  | .uncDefectClear sc => isSc sc
  | .prefecDegSet sc => isSc sc
  | .prefecDegClear sc => isSc sc
  | .fecTotClr m sc _ => m.wf && isSc sc
  | .fecSecLatch => true
  | .hypothesisCheck sc _ _ => isSc sc
  | .searchInterval sc => isSc sc
  | .frameRx sc _ _ _ => isSc sc
  | .lofSet sc => isSc sc
  | .lofClr sc => isSc sc
  | .commitTx m sc _ => m.wf && isSc sc
  | .commitRx m sc _ => m.wf && isSc sc
  | .pendingCommit sc _ => isSc sc
  | .slotMapInForce sc _ => isSc sc
  | .grpCfgWrite m g _ => m.wf && isGroup g
  | .lfmTotClr m sc _ => m.wf && isSc sc
  | .groupMarker g msn _ _ _ => isGroup g && isMsn msn
  | .skewCheck g => isGroup g
  | .grpUp g => isGroup g
  | .grpSlip g msn => isGroup g && isMsn msn
  | .pmLatch => true
  | .portCfgWrite m p _ => m.wf && isPort p
  | .portCntClr m p _ => m.wf && isPort p
  | .hostFrame p _ => isPort p
  | .pauseRefresh p => isPort p
  | .pauseReceived p _ en quanta => isPort p && decide (en < 2 ^ 16) && decide (quanta.length = 8)
  | .pauseExpiry p prio => isPort p && prio.all isPrio
  | .phEntryWrite m f word _ => m.wf && isFlow f && decide (word < 7)
  | .validate m f _ => m.wf && isFlow f
  | .flowRemove m f _ => m.wf && isFlow f
  | .flowMove m _ => m.wf
  | .flowFlush m _ => m.wf
  | .clrCnt m _ => m.wf
  | .frameSent e _ => (if e.line then isGid e.id else isPort e.id)
  | .grpHoldEnd g => isGroup g
  | .recordHeader g word _ _ => isGroup g && decide (word < 2 ^ 32)
  | .sealHeader g _ => isGroup g
  | .cipherDone _ _ _ => true
  | .cipherTimeout _ => true
  | .loadKey m _ => m.wf
  | .loadKek m _ => m.wf
  | .erase m _ => m.wf
  | .eraseKek m _ => m.wf
  | .txAnWrite m grp i _ => m.wf && (if grp then isGroup i else isFlow i)
  | .entFail => true
  | .entOk => true
  | .hayAccessDone a => isLine a.line
  | .accTimeout a => isLine a.line
  | .mergeWriteBack line _ => isLine line
  | .scrubRead line _ => isLine line
  | .retAdd m _ => m.wf
  | .retRemove m _ => m.wf
  | .retRead m _ => m.wf
  | .apertureRead m off _ => m.wf && decide (off < 2 ^ 28)
  | .apertureWrite m off _ => m.wf && decide (off < 2 ^ 28)
  | .capCfgWrite m _ => m.wf
  | .capClr m _ => m.wf
  | .capDrop => true
  | .hayCfgWrite m _ => m.wf
  | .drainRefused => true
  | .refLost i => isCand i
  | .refPresent i => isCand i
  | .esmcPdu p _ => isPort p
  | .qlTimeout i => isCand i
  | .qlSrcWrite m i _ => m.wf && isCand i
  | .qualWindow l => l.all (fun e => isCand e.1)
  | .disq i _ => isCand i
  | .requalification i => isCand i
  | .wtrExpiry i => isCand i
  | .selectorTick => true
  | .selManual m idx => m.wf && decide (idx < 16)
  | .selForced m idx => m.wf && decide (idx < 16)
  | .selClear m idx => m.wf && decide (idx < 16)
  | .holdoffEnd => true
  | .buildoutDone _ => true
  | .enterLocked => true
  | .enterAcquire => true
  | .stbMode m _ => m.wf
  | .fwBeat m _ => m.wf
  | .fwLost => true
  | .hoBoundCheck => true
  | .frozenLim => true
  | .steerSrv m _ => m.wf
  | .steerMan m _ => m.wf
  | .sample10min _ _ _ => true
  | .sample1s _ _ _ => true
  | .pruneDone => true
  | .esmcTx p => isPort p
  | .eventPdu p => isPort p
  | .pmkStep m => m.wf
  | .stepped => true
  | .stepCancel m => m.wf
  | .adj m _ => m.wf
  | .adjDone => true
  | .autoStep _ => true
  | .secMis => true
  | .timeFault _ => true
  | .ptpRx p _ _ => isPort p
  | .oneStepSync p _ => isPort p
  | .ppsOut => true
  | .todMessage => true
  | .zda _ _ => true
  | .timeMessage c sc => isCar c && decide (sc < 8)
  | .ttLatch => true
  | .tchFrameTx => true
  | .tchFrameRx _ => true
  | .timePostcard => true
  | .slotDone p _ _ => isPair p
  | .monTrig _ => true
  | .trigDone p _ _ => isPair p
  | .softTrig m => m.wf
  | .compatTimer => true
  | .snapDone _ => true
  | .settled n => isConv n
  | .chkWindow p _ _ _ => isPair p
  | .monFault p _ _ => isPair p
  | .faultClr m => m.wf
  | .binBlock b _ _ => isBin b
  | .monCfgWrite m addr _ => m.wf && isAddr addr
  | .postcardTxStart c => isCar c
  | .txDone c => isCar c
  | .txCmd m c _ => m.wf && isCar c
  | .txExpired c => isCar c
  | .identTimer c => isCar c
  | .qlTimer c => isCar c
  | .defectTimer c => isCar c
  | .srTimer c => isCar c
  | .preambleDetection k _ => isRxSlot k
  | .falseDet k => isRxSlot k
  | .syncMatch k _ _ => isRxSlot k
  | .postcardEnd k hdr _ _ => isRxSlot k && decide (hdr < 2 ^ 16)
  | .boundTimeout k => isRxSlot k
  | .seqWindowReset k => isRxSlot k
  | .rxPop m _ => m.wf
  | .pccCfgWrite m _ => m.wf
  | .trainDone l _ _ => isHostLane l
  | .trainFail l => isHostLane l
  | .trainRetry l => isHostLane l
  | .cdrLol l => isHostLane l
  | .prbsLock yard l => (if yard then isYardLane l else isHostLane l)
  | .prbsLoss yard l _ => (if yard then isYardLane l else isHostLane l)
  | .errInj m yard l _ => m.wf && (if yard then isYardLane l else isHostLane l)
  | .genEn m yard l _ => m.wf && (if yard then isYardLane l else isHostLane l)
  | .laneCntClr m l _ => m.wf && isHostLane l
  | .yardBlock l _ _ => isYardLane l
  | .hello l _ => isYardLane l
  | .helloLost j => isLink j
  | .runReady m _ => m.wf
  | .runSwitch j => isLink j
  | .laneFailure l _ => isYardLane l
  | .spareIn j => isLink j
  | .revert m j _ => m.wf && isLink j
  | .sidebandMessage j _ _ => isLink j
  | .sidebandRepeat j => isLink j
  | .imgWant j => isLink j
  | .imgRestart d => decide (d < 256)
  | .imgWaitTimeout => true
  | .imgChecked _ _ _ => true
  | .rmtCmd m _ => m.wf
  | .rmtDone _ => true
  | .fwdWrite m j _ n _ => m.wf && isLink j && decide (n < 16)
  | .statusTimeout _ msn => isMsn msn
  | .domReq m d _ => m.wf && isDom d
  | .handshakeAccept d => isDom d
  | .hsRefused d _ => isDom d
  | .shutdownDone d => isDom d
  | .wakeStep d => isDom d
  | .wakeFail d => isDom d
  | .wakeRetry d => isDom d
  | .twiAddressMatch addr => decide (addr < 128)
  | .twiAon => true
  | .wakeN => true
  | .aonTimer => true
  | .padHold m _ => m.wf
  | .pgFall rail => isRail rail
  | .resetAssert src _ _ => isSource src
  | .idleTimeout src => isSource src
  | .resetRelease src => isSource src
  | .swChip m _ => m.wf
  | .swCore m _ => m.wf
  | .swDomain m _ => m.wf
  | .swBlock m _ => m.wf
  | .swRelease m _ => m.wf
  | .hostRst m _ => m.wf
  | .imageCheck _ _ _ _ => true
  | .lcCmd m _ => m.wf
  | .xtalOk => true
  | .xtalFail => true
  | .accessErr m _ addr => m.wf && isAddr addr
  | .sliceCycle c lane => isCar c && isLane lane
  | .sliceResult c lane _ _ => isCar c && isLane lane
  | .sliceRamp c lane => isCar c && isLane lane
  | .dacSkewCal c lane _ _ => isCar c && isLane lane
  | .monRefRefresh p _ _ => isPair p
  | .prod m _ => m.wf
  | .storeNow m _ => m.wf
  | .liveStore c _ => isCar c
  | .calRefLost => true
  | .tackRoomWrite m off _ => m.wf && decide (off < 2 ^ 19)
  | .tackRoomRead m off _ => m.wf && decide (off < 2 ^ 19)
  | .bstRun m _ => m.wf
  | .bstFull m _ => m.wf
  | .bstCancel m _ => m.wf
  | .bstRelease m _ => m.wf
  | .testAdmit => true
  | .testDone t _ _ => isTarget t
  | .bstExpired t => isTarget t
  | .wdtExpiry c => isCtrlCore c
  | .wdtKick m c _ => m.wf && isCtrlCore c
  | .accessFault c addr kind _ => isCtrlCore c && isAddr addr && decide (kind < 3)
  | .mpuWrite m c r _ _ => m.wf && isCtrlCore c && decide (r < 16)
  | .lbInfo m _ => m.wf
  | .flashRead m _ => m.wf
  | .flashErase m _ => m.wf
  | .flashProg m _ => m.wf
  | .logRead m _ => m.wf
  | .testWindow m _ => m.wf
  | .returnAuth m _ => m.wf
  | .lbDone _ => true
  | .logDrain => true
  | .snap m _ => m.wf
  | .dump => true
  | .dumpCfgWrite m _ => m.wf
  | .ovf n _ _ _ => isCounter n
  | .ctrLoad m n _ => m.wf && isCounter n
  | .faultDetected f _ => isFault f
  | .cfgParityErr addr _ => isAddr addr
  | .cfgScan bad => bad.all isAddr
  | .winOpen m _ => m.wf
  | .winClose m _ => m.wf
  | .windowExpiry => true
  | .injCfgWrite m k _ => m.wf && isInj k
  | .injEnd k => isInj k
  | .decodeErr m _ addr size => m.wf && isAddr addr && isSize size
  | .aliasWrite m addr _ => m.wf && isAddr addr
  | .aliasRead m addr => m.wf && isAddr addr
  | .spiWrite addr _ => isAddr addr
  | .spiRead addr _ => isAddr addr
  | .spiStatus => true
  | .twiWrite _ => true
  | .twiRead _ _ => true
  | .rcRead m addr size => m.wf && isAddr addr && isSize size
  | .registerWrite m addr _ => m.wf && isAddr addr
  | .frameTx c => isCar c
  | .adcClip c lane => isCar c && isLane lane
  | .adcClkLock c => isCar c
  | .cdrLock l => isHostLane l
  | .portUp p => isPort p
  | .blockLock l => isYardLane l
  | .yardBlockTx l _ _ => isYardLane l
  | .pairOutput p _ _ => isPair p
  | .ppsWidthEnd => true
  | .calRefInPresent _ => true
  | .prodDone _ _ _ => true

end Sys2Proof
end

