-- ==== Sys2Proof/Tests/Slice0.lean ====
section
/-! SUPPORT. Witnesses: for each statement with conditions, states and operands that meet them, clause by clause. Then
one-step tests whose expected values are the spec's worked examples, and one ill-formed term for each check of
well-formedness. -/

namespace Sys2Proof.Tests

open Sys2Proof.Machine

set_option maxRecDepth 10000
set_option Elab.async false
set_option linter.unusedVariables false

/-- The state after reset with some registers set. -/
def State.put (s : State) (l : List (RegKey × W32)) : State := l.foldl (fun s e => s.wr e.1 e.2) s

/-- Every domain ON. -/
def onState : State := State.put State.reset ((List.range 14).map fun d => (R .PMU_DOM d, F.PMU_DOM_STATE.put 2 0))

/-- The state with `fuse` changed. -/
def upd_fuse (s : State) (g : Fuses → Fuses) : State := { s with fuse := g s.fuse }

/-- The state with `cip` changed. -/
def upd_cip (s : State) (g : Cip → Cip) : State := { s with cip := g s.cip }

/-- The state with `stb` changed. -/
def upd_stb (s : State) (g : Stb → Stb) : State := { s with stb := g s.stb }

/-- The state with `pmk` changed. -/
def upd_pmk (s : State) (g : Pmk → Pmk) : State := { s with pmk := g s.pmk }

/-- The state with `bst` changed. -/
def upd_bst (s : State) (g : Bst → Bst) : State := { s with bst := g s.bst }

/-- The state with `hay` changed. -/
def upd_hay (s : State) (g : Hay → Hay) : State := { s with hay := g s.hay }

/-- The state with `cal` changed. -/
def upd_cal (s : State) (g : Cal → Cal) : State := { s with cal := g s.cal }

/-- The state with `fab` changed. -/
def upd_fab (s : State) (g : Fabric → Fabric) : State := { s with fab := g s.fab }

/-- The state with `boot` changed. -/
def upd_boot (s : State) (g : Boot → Boot) : State := { s with boot := g s.boot }

/-! ## Witnesses -/

/-- What CarrierChangeCommandsComplete asks for can be met. -/
theorem wit_CarrierChangeCommandsComplete :
    (∃ s m c v t, exec (.go m c v) s = .next t ∧ (s.accepts m (R .CAX_CHG_CTRL c) = true) ∧
      (F.CAX_CHG_CTRL_GO.get v = 1) ∧ (F.CAX_CHG_CTRL_CANCEL.get v = 0) ∧ (s.fld F.CAX_CHG_STATUS_STATE c = 0) ∧
      (s.rd (R .CAX_TX_NEXT c) ≠ s.rd (R .CAX_TX_PROFILE c)) ∧ (profCode (s.rd (R .CAX_TX_NEXT c)) = 0) ∧
      (s.wouldLose c (s.rd (R .CAX_TX_NEXT c)) = false) ∧ (pMode (s.rd (R .CAX_TX_NEXT c)) = 0) ∧
      (pMode (s.rd (R .CAX_TX_PROFILE c)) = 0) ∧ (s.fld F.CAX_TX_STATUS_TXSTATE c = 4)) ∧
    (∃ s m c v t, exec (.cancel m c v) s = .next t ∧ (s.accepts m (R .CAX_CHG_CTRL c) = true) ∧
      (F.CAX_CHG_CTRL_GO.get v = 0) ∧ (F.CAX_CHG_CTRL_CANCEL.get v = 1) ∧ (s.fld F.CAX_CHG_STATUS_STATE c = 1) ∧
      (2 ≤ s.fld F.CAX_CHG_STATUS_COUNT c)) ∧
    (∃ s c t, exec (.announce c) s = .next t ∧ (s.carOn c = true) ∧ (s.fld F.CAX_CHG_STATUS_STATE c = 1)) ∧
    (∃ s c t, exec (.multiframeTx c) s = .next t ∧ (s.carOn c = true) ∧ (s.fld F.CAX_CHG_STATUS_STATE c = 1) ∧
      ((s.car c).onLine = true) ∧ (2 ≤ s.fld F.CAX_CHG_STATUS_COUNT c)) ∧
    (∃ s c t, exec (.switch c) s = .next t ∧ (s.carOn c = true) ∧ (s.fld F.CAX_CHG_STATUS_STATE c = 1) ∧
      ((s.car c).onLine = true) ∧ (s.fld F.CAX_CHG_STATUS_COUNT c = 1) ∧ ((s.car c).rateChg = false)) ∧
    (∃ s c t, exec (.chgDone c) s = .next t ∧ (s.carOn c = true) ∧ (s.fld F.CAX_CHG_STATUS_STATE c = 2) ∧
      ((s.car c).oifWait = false) ∧ (s.flag F.CAX_TX_STATUS_RECONF c = false)) ∧
    (∃ s c t, exec (.holdTimeout c) s = .next t ∧ (s.carOn c = true) ∧ ((s.car c).hold = true)) :=
  ⟨⟨(((onState.setFld F.CAX_CHG_STATUS_STATE 0 0).setFld F.CAX_TX_STATUS_TXSTATE 4 0).setFld F.CAX_TX_NEXT_EXPRESS
      1 0), .core 0, 0, (F.CAX_CHG_CTRL_GO.put 1 0), _, rfl, by decide +kernel⟩,
    ⟨((onState.setFld F.CAX_CHG_STATUS_STATE 1 0).setFld F.CAX_CHG_STATUS_COUNT 2 0), .core 0, 0,
      (F.CAX_CHG_CTRL_CANCEL.put 1 0), _, rfl, by decide +kernel⟩,
    ⟨(onState.setFld F.CAX_CHG_STATUS_STATE 1 0), 0, _, rfl, by decide +kernel⟩,
    ⟨(((onState.setFld F.CAX_CHG_STATUS_STATE 1 0).modCar 0 (fun x => { x with onLine := true })).setFld
      F.CAX_CHG_STATUS_COUNT 2 0), 0, _, rfl, by decide +kernel⟩,
    ⟨((((onState.setFld F.CAX_CHG_STATUS_STATE 1 0).modCar 0 (fun x => { x with onLine := true })).setFld
      F.CAX_CHG_STATUS_COUNT 1 0).modCar 0 (fun x => { x with rateChg := false })), 0, _, rfl, by decide +kernel⟩,
    ⟨(((onState.setFld F.CAX_CHG_STATUS_STATE 2 0).modCar 0 (fun x => { x with oifWait := false })).setFld
      F.CAX_TX_STATUS_RECONF 0 0), 0, _, rfl, by decide +kernel⟩,
    ⟨(onState.modCar 0 (fun x => { x with hold := true })), 0, _, rfl, by decide +kernel⟩⟩

/-- What TransmitterCommandsComplete asks for can be met. -/
theorem wit_TransmitterCommandsComplete :
    (∃ s m c v t, exec (.laserOn m c v) s = .next t ∧ (s.accepts m (R .CAX_TX_CTRL c) = true) ∧
      (F.CAX_TX_CTRL_LASER_ON.get v = 1)) ∧
    (∃ s m c v t, exec (.mute m c v) s = .next t ∧ (s.accepts m (R .CAX_TX_CTRL c) = true) ∧
      (F.CAX_TX_CTRL_MUTE.get v = 1)) ∧
    (∃ s c t, exec (.settleElapsed c) s = .next t ∧ (s.carOn c = true) ∧ (s.fld F.CAX_TX_STATUS_TXSTATE c = 1) ∧
      ((s.txCauses c).txDark c = false) ∧ ((s.txCauses c).txMute c = false)) ∧
    (∃ s c t, exec (.serviceEntered c) s = .next t ∧ (s.carOn c = true) ∧ (s.fld F.CAX_TX_STATUS_TXSTATE c = 3) ∧
      ((s.car c).fillMf = true) ∧ ((s.car c).hold = false)) ∧
    (∃ s c t, exec (.clkFault c) s = .next t ∧ (s.carOn c = true)) ∧
    (∃ s c t, exec (.txClkLock c) s = .next t ∧ (s.carOn c = true) ∧ (s.inj 0x01 (2 * c) = false)) ∧
    (∃ s c t, exec (.segErr c) s = .next t ∧ (s.carOn c = true) ∧ (s.fld F.CAX_TX_STATUS_TXSTATE c = 4)) ∧
    (∃ s m c v t, exec (.txPreApply m c v) s = .next t ∧ (s.accepts m (R .CAX_TX_PRE_APPLY c) = true) ∧
      (F.CAX_TX_PRE_APPLY_APPLY.get v = 1)) ∧
    (∃ s c t, exec (.txPreCopyDone c) s = .next t ∧ (s.carOn c = true) ∧
      (s.flag F.CAX_TX_PRE_APPLY_PENDING c = true) ∧ (s.fab.waits = [])) ∧
    (∃ s c l t, exec (.clip c l) s = .next t ∧ (s.carOn c = true) ∧ (l < 4)) ∧
    (∃ s m c l v t, exec (.txSkewWrite m c l v) s = .next t ∧ (s.accepts m (R .CAX_TX_SKEW c l) = true)) ∧
    (∃ s c l t, exec (.skewRamp c l) s = .next t ∧ (s.carOn c = true) ∧ (l < 4) ∧
      (s.flag F.CAX_TX_SKEW_RAMPING c l = true) ∧ (s.fld F.CAX_TX_STATUS_TXSTATE c = 4) ∧
      ((s.car c).skew.get 0 l < skewClamp (s.skewSum c l))) :=
  ⟨⟨onState, .core 0, 0, (F.CAX_TX_CTRL_LASER_ON.put 1 0), _, rfl, by decide +kernel⟩,
    ⟨onState, .core 0, 0, (F.CAX_TX_CTRL_MUTE.put 1 0), _, rfl, by decide +kernel⟩,
    ⟨((onState.setFld F.CAX_TX_STATUS_TXSTATE 1 0).wr (R .DEV_CFG_APPLIED) 0xFFFF |>.setFld F.CAX_TX_CTRL_LASER_ON 1
      0 |>.setFld F.CAX_TX_CTRL_MUTE 0 0), 0, _, rfl, by decide +kernel⟩,
    ⟨(((onState.setFld F.CAX_TX_STATUS_TXSTATE 3 0).modCar 0 (fun x => { x with fillMf := true })).modCar 0 (fun x
      => { x with hold := false })), 0, _, rfl, by decide +kernel⟩,
    ⟨onState, 0, _, rfl, by decide +kernel⟩,
    ⟨onState, 0, _, rfl, by decide +kernel⟩,
    ⟨(onState.setFld F.CAX_TX_STATUS_TXSTATE 4 0), 0, _, rfl, by decide +kernel⟩,
    ⟨onState, .core 0, 0, (F.CAX_TX_PRE_APPLY_APPLY.put 1 0), _, rfl, by decide +kernel⟩,
    ⟨(upd_fab (onState.setFld F.CAX_TX_PRE_APPLY_PENDING 1 0) fun x => { x with waits := [] }), 0, _, rfl,
      by decide +kernel⟩,
    ⟨onState, 0, 0, _, rfl, by decide +kernel⟩,
    ⟨onState, .core 0, 0, 0, 0, _, rfl, by decide +kernel⟩,
    ⟨(((onState.setFld F.CAX_TX_SKEW_RAMPING 1 0 0).setFld F.CAX_TX_STATUS_TXSTATE 4 0).setFld F.CAX_TX_SKEW_BOARD 5
      0 0), 0, 0, _, rfl, by decide +kernel⟩⟩

/-- What ReceiverProfileCommandsComplete asks for can be met. -/
theorem wit_ReceiverProfileCommandsComplete :
    (∃ s m c v t, exec (.rxProfileWrite m c v) s = .next t ∧ (s.accepts m (R .CAX_RX_PROFILE c) = true) ∧
      (profCode (v &&& (R .CAX_RX_PROFILE c).mask) = 0)) ∧
    (∃ s c marks t, exec (.multiframeRx c marks) s = .next t ∧ (s.carOn c = true) ∧ (s.rxMode c = 0) ∧
      ((s.car c).shapePend = true)) ∧
    (∃ s c w t, exec (.rxFollowed c) s = .next t ∧ (s.carOn c = true) ∧ ((s.car c).armed = some (w, 1))) ∧
    (∃ s c w t, exec (.descAdopted c) s = .next t ∧ (s.carOn c = true) ∧ ((s.car c).rdDesc = some w) ∧
      (s.flag F.CAX_CHG_CTRL_FOLLOW c = true)) ∧
    (∃ s c cd t, exec (.expCdRange c cd) s = .next t ∧ (s.carOn c = true) ∧ (27200 < cd.natAbs) ∧
      (s.flag F.CAX_RX_CD_EST_CD_VALID c = true) ∧ (s.rxMode c = 0) ∧
      (s.flag F.CAX_CHG_STATUS_EXP_CD_OUT c = false)) ∧
    (∃ s c cd t, exec (.expCdReturn c cd) s = .next t ∧ (s.carOn c = true) ∧ (cd.natAbs ≤ 26400) ∧
      (s.flag F.CAX_RX_CD_EST_CD_VALID c = true) ∧ (s.rxMode c = 0)) ∧
    (∃ s c cd t, exec (.expStepMove c cd) s = .next t ∧ (s.carOn c = true) ∧ (s.fld F.CAX_RX_STATUS_RXSTATE c = 2) ∧
      (1 ≤ s.fld F.CAX_RX_CD_EST_EXP_STEP c) ∧ (s.fld F.CAX_RX_CD_EST_EXP_STEP c ≤ 3) ∧
      (5440 * (s.fld F.CAX_RX_CD_EST_EXP_STEP c + 1) ≤ cd.natAbs + 400)) :=
  ⟨⟨onState, .core 0, 0, (R .CAX_TX_NEXT 0).reset, _, rfl, by decide +kernel⟩,
    ⟨(onState.modCar 0 (fun x => { x with shapePend := true })), 0, [], _, rfl, by decide +kernel⟩,
    ⟨(onState.modCar 0 (fun x => { x with armed := some (0, 1) })), 0, 0, _, rfl, by decide +kernel⟩,
    ⟨((onState.modCar 0 (fun x => { x with rdDesc := some 0 })).setFld F.CAX_CHG_CTRL_FOLLOW 1 0), 0, 0, _, rfl,
      by decide +kernel⟩,
    ⟨((onState.setFld F.CAX_RX_CD_EST_CD_VALID 1 0).setFld F.CAX_CHG_STATUS_EXP_CD_OUT 0 0), 0, 27201, _, rfl,
      by decide +kernel⟩,
    ⟨(onState.setFld F.CAX_RX_CD_EST_CD_VALID 1 0), 0, 0, _, rfl, by decide +kernel⟩,
    ⟨((onState.setFld F.CAX_RX_STATUS_RXSTATE 2 0).setFld F.CAX_RX_CD_EST_EXP_STEP 1 0), 0, 20000, _, rfl,
      by decide +kernel⟩⟩

/-- What AcquisitionCommandsComplete asks for can be met. -/
theorem wit_AcquisitionCommandsComplete :
    (∃ s m c v t, exec (.rxEn m c v) s = .next t ∧ (s.accepts m (R .CAX_RX_CTRL c) = true) ∧ (s.carOn c = true) ∧
      (F.CAX_RX_CTRL_RX_EN.get v = 0) ∧ (1 ≤ s.fld F.CAX_RX_STATUS_RXSTATE c) ∧
      (F.CAX_RX_CTRL_ACQ_RESTART.get v = 0)) ∧
    (∃ s m c v t, exec (.acqRestart m c v) s = .next t ∧ (s.accepts m (R .CAX_RX_CTRL c) = true) ∧
      (F.CAX_RX_CTRL_RX_EN.get v = 1) ∧ (F.CAX_RX_CTRL_ACQ_RESTART.get v = 1) ∧
      (s.fld F.CAX_RX_STATUS_RXSTATE c = 2) ∧ (s.carOn c = true) ∧ (s.asking (4 + c) = false) ∧
      (s.idleAsked (4 + c) (caxPage c) = false) ∧ (s.flag F.CAX_TX_STATUS_TEST c = false) ∧
      (bitOf (s.rd (R .DEV_CFG_APPLIED)) (4 + c) = true)) ∧
    (∃ s c v t, exec (.acqStep c (.done v)) s = .next t ∧ (s.carOn c = true) ∧ ((s.car c).seq = .cold) ∧
      (s.fld F.CAX_RX_STATUS_ACQ_STEP c = 0) ∧ (max (s.fld F.CAX_RX_LOS_CFG_LOS_TH c) 1 ≤ v.toNat)) ∧
    (∃ s c v t, exec (.acqStep c (.done v)) s = .next t ∧ (s.carOn c = true) ∧ ((s.car c).seq = .cold) ∧
      (s.fld F.CAX_RX_STATUS_ACQ_STEP c = 1) ∧ (v.natAbs ≤ 3600)) ∧
    (∃ s c v t, exec (.acqStep c (.done v)) s = .next t ∧ (s.carOn c = true) ∧ ((s.car c).seq = .cold) ∧
      (s.fld F.CAX_RX_STATUS_ACQ_STEP c = 2) ∧ (v.natAbs ≤ 480000)) ∧
    (∃ s c v t, exec (.acqStep c (.done v)) s = .next t ∧ (s.carOn c = true) ∧ ((s.car c).seq = .cold) ∧
      (s.fld F.CAX_RX_STATUS_ACQ_STEP c = 3) ∧ (v.natAbs ≤ 1000000000)) ∧
    (∃ s c t, exec (.acqStep c .orient) s = .next t ∧ (s.carOn c = true) ∧ ((s.car c).seq = .cold) ∧
      (s.fld F.CAX_RX_STATUS_ACQ_STEP c = 4) ∧ (s.rxMode c = 0)) ∧
    (∃ s c t, exec (.acqTimeout c) s = .next t ∧ (s.carOn c = true) ∧ ((s.car c).seq = .cold) ∧
      (1 ≤ s.fld F.CAX_RX_STATUS_ACQ_STEP c) ∧ (s.fld F.CAX_RX_STATUS_ACQ_STEP c ≤ 4)) ∧
    (∃ s c t, exec (.relockFail c) s = .next t ∧ (s.carOn c = true) ∧ ((s.car c).seq = .warm) ∧
      (1 ≤ s.fld F.CAX_RX_STATUS_ACQ_STEP c) ∧ (s.fld F.CAX_RX_STATUS_ACQ_STEP c ≤ 4)) ∧
    (∃ s c rms t, exec (.los c rms) s = .next t ∧ (s.carOn c = true) ∧ (s.fld F.CAX_RX_STATUS_RXSTATE c = 2) ∧
      (rms < max (s.fld F.CAX_RX_LOS_CFG_LOS_TH c) 1)) ∧
    (∃ s c rms t, exec (.losClear c rms) s = .next t ∧ (s.carOn c = true) ∧ (s.fld F.CAX_RX_STATUS_RXSTATE c = 4) ∧
      ((s.car c).adcFault = false) ∧ (max (s.fld F.CAX_RX_LOS_CFG_LOS_TH c) 1 + s.fld F.CAX_RX_LOS_CFG_LOS_HYST c ≤
      rms)) ∧
    (∃ s c t, exec (.adcClkFault c) s = .next t ∧ (s.carOn c = true) ∧ (s.fld F.CAX_RX_STATUS_RXSTATE c = 2)) ∧
    (∃ s c t, exec (.adcClkLock c) s = .next t ∧ (s.carOn c = true) ∧ (s.inj 0x01 (2 * c + 1) = false)) ∧
    (∃ s c t, exec (.clkLol c) s = .next t ∧ (s.carOn c = true) ∧ (s.flag F.CAX_RX_STATUS_CLK_LOCK c = true)) :=
  ⟨⟨(onState.setFld F.CAX_RX_STATUS_RXSTATE 1 0), .core 0, 0, 0, _, rfl, by decide +kernel⟩,
    ⟨(((onState.setFld F.CAX_RX_STATUS_RXSTATE 2 0).setFld F.CAX_TX_STATUS_TEST 0 0).wr (R .DEV_CFG_APPLIED)
      0xFFFF), .core 0, 0, (F.CAX_RX_CTRL_ACQ_RESTART.put 1 (F.CAX_RX_CTRL_RX_EN.put 1 0)), _, rfl,
      by decide +kernel⟩,
    ⟨((onState.modCar 0 (fun x => { x with seq := .cold })).setFld F.CAX_RX_STATUS_ACQ_STEP 0 0), 0, 300, _, rfl,
      by decide +kernel⟩,
    ⟨((onState.modCar 0 (fun x => { x with seq := .cold })).setFld F.CAX_RX_STATUS_ACQ_STEP 1 0), 0, 0, _, rfl,
      by decide +kernel⟩,
    ⟨((onState.modCar 0 (fun x => { x with seq := .cold })).setFld F.CAX_RX_STATUS_ACQ_STEP 2 0), 0, 0, _, rfl,
      by decide +kernel⟩,
    ⟨((onState.modCar 0 (fun x => { x with seq := .cold })).setFld F.CAX_RX_STATUS_ACQ_STEP 3 0), 0, 0, _, rfl,
      by decide +kernel⟩,
    ⟨((onState.modCar 0 (fun x => { x with seq := .cold })).setFld F.CAX_RX_STATUS_ACQ_STEP 4 0), 0, _, rfl,
      by decide +kernel⟩,
    ⟨((onState.modCar 0 (fun x => { x with seq := .cold })).setFld F.CAX_RX_STATUS_ACQ_STEP 1 0), 0, _, rfl,
      by decide +kernel⟩,
    ⟨((onState.modCar 0 (fun x => { x with seq := .warm })).setFld F.CAX_RX_STATUS_ACQ_STEP 1 0), 0, _, rfl,
      by decide +kernel⟩,
    ⟨(onState.setFld F.CAX_RX_STATUS_RXSTATE 2 0), 0, 0, _, rfl, by decide +kernel⟩,
    ⟨((onState.setFld F.CAX_RX_STATUS_RXSTATE 4 0).modCar 0 (fun x => { x with adcFault := false })), 0, 300, _,
      rfl, by decide +kernel⟩,
    ⟨(onState.setFld F.CAX_RX_STATUS_RXSTATE 2 0), 0, _, rfl, by decide +kernel⟩,
    ⟨onState, 0, _, rfl, by decide +kernel⟩,
    ⟨(onState.setFld F.CAX_RX_STATUS_CLK_LOCK 1 0), 0, _, rfl, by decide +kernel⟩⟩

/-- What ReceiverMeasurementCommandsComplete asks for can be met. -/
theorem wit_ReceiverMeasurementCommandsComplete :
    (∃ s i t, exec (.scLost i) s = .next t ∧ (s.carOn (scCar i) = true) ∧ (s.fld F.SCX_RX_STATUS_SCSTATE i = 2) ∧
      (s.fld F.CAX_RX_STATUS_SC_LOCKED (scCar i) &&& (255 - 2 ^ (i % 8)) ≠ 0)) ∧
    (∃ s i t, exec (.reconvTimeout i) s = .next t ∧ (s.carOn (scCar i) = true) ∧
      (s.fld F.SCX_RX_STATUS_SCSTATE i = 3)) ∧
    (∃ s i t, exec (.scLocked i) s = .next t ∧ (s.carOn (scCar i) = true) ∧
      (s.fld F.CAX_RX_STATUS_RXSTATE (scCar i) = 2) ∧ (s.fld F.SCX_RX_STATUS_SCSTATE i = 3)) ∧
    (∃ s i w t, exec (.scLocked i) s = .next t ∧ (s.carOn (scCar i) = true) ∧
      (1 ≤ s.fld F.CAX_RX_STATUS_RXSTATE (scCar i)) ∧ (s.fld F.CAX_RX_STATUS_RXSTATE (scCar i) ≤ 3) ∧
      (s.fld F.SCX_RX_STATUS_SCSTATE i = 1) ∧ (s.searches (scCar i) = true) ∧ ((s.car (scCar i)).search = some (i,
      w))) ∧
    (∃ s i t, exec (.degSet i) s = .next t ∧ (s.carOn (scCar i) = true) ∧ (1 ≤ s.fld F.SCX_RX_CFG_DEG_TH i) ∧
      (s.flag F.SCX_RX_STATUS_DEG i = false)) ∧
    (∃ s i t, exec (.degClear i) s = .next t ∧ (s.carOn (scCar i) = true) ∧ (s.flag F.SCX_RX_STATUS_DEG i = true)) ∧
    (∃ s i rate t, exec (.sopTransient i rate) s = .next t ∧ (s.carOn (scCar i) = true) ∧
      (muFigure (s.fld F.SCX_RX_CFG_MU i) < rate)) ∧
    (∃ s i t, exec (.slip i) s = .next t ∧ (s.carOn (scCar i) = true) ∧ (s.fld F.SCX_RX_STATUS_SCSTATE i = 2)) ∧
    (∃ s c v t, exec (.fofsRange ⟨c, v⟩) s = .next t ∧ (s.carOn c = true) ∧ (s.fld F.CAX_RX_STATUS_RXSTATE c = 2) ∧
      (3800 < v.natAbs ∨ 100 < (v - signed 16 (s.fld F.CAX_RX_FOFS_OFS c)).natAbs)) ∧
    (∃ s c meas t, exec (.boostMismatch c meas) s = .next t ∧ (s.carOn c = true) ∧
      (s.fld F.CAX_RX_STATUS_RXSTATE c = 2) ∧ (s.rxMode c = 0) ∧ (meas < 8) ∧ (meas ≠ (s.car c).boost)) ∧
    (∃ s m c v t, exec (.rxShapeWrite m c v) s = .next t ∧ (s.accepts m (R .CAX_RX_SHAPE c) = true) ∧
      (s.fld F.CAX_RX_STATUS_RXSTATE c = 0) ∧ (F.CAX_RX_SHAPE_SPEC_INV.get v = s.fld F.CAX_RX_SHAPE_SPEC_INV c)) ∧
    (∃ s m c v t, exec (.rxShapeWrite m c v) s = .next t ∧ (s.accepts m (R .CAX_RX_SHAPE c) = true) ∧
      (s.fld F.CAX_RX_STATUS_RXSTATE c = 2) ∧ (F.CAX_RX_SHAPE_SPEC_INV.get v = s.fld F.CAX_RX_SHAPE_SPEC_INV c)) ∧
    (∃ s c x t, exec (.snapshot c x) s = .next t ∧ (s.carOn c = true) ∧ (s.fld F.CAX_RX_STATUS_RXSTATE c = 2) ∧
      (max (s.fld F.CAX_RX_LOS_CFG_LOS_TH c) 1 ≤ x.rms) ∧ (x.clk.natAbs ≤ 1000000000)) ∧
    (∃ s c t, exec (.storeExpired c) s = .next t ∧ (s.carOn c = true) ∧ (s.fld F.CAX_RX_STATUS_RXSTATE c ≠ 2)) ∧
    (∃ s c t, exec (.cdFine c) s = .next t ∧ (s.carOn c = true) ∧ (s.fld F.CAX_RX_STATUS_RXSTATE c = 2) ∧
      (s.flag F.CAX_RX_CD_EST_CD_VALID c = true)) ∧
    (∃ s c l n since t, exec (.sliceSwap c l n) s = .next t ∧ (s.carOn c = true) ∧ (l < 4) ∧
      ((s.calLane c l).want = some (n, true, since)) ∧ (s.swapMay c since = true)) ∧
    (∃ s c l t, exec (.adcClip c l) s = .next t ∧ (s.carOn c = true) ∧ (l < 4)) :=
  ⟨⟨((onState.setFld F.SCX_RX_STATUS_SCSTATE 2 0).setFld F.CAX_RX_STATUS_SC_LOCKED 255 0), 0, _, rfl,
      by decide +kernel⟩,
    ⟨(onState.setFld F.SCX_RX_STATUS_SCSTATE 3 0), 0, _, rfl, by decide +kernel⟩,
    ⟨((onState.setFld F.CAX_RX_STATUS_RXSTATE 2 (scCar 0)).setFld F.SCX_RX_STATUS_SCSTATE 3 0), 0, _, rfl,
      by decide +kernel⟩,
    ⟨((((onState.setFld F.CAX_RX_STATUS_RXSTATE 1 (scCar 0)).setFld F.SCX_RX_STATUS_SCSTATE 1 0).modCar (scCar 0)
      (fun x => { x with search := some (0, false) })).setFld F.CAX_RX_STATUS_ACQ_STEP 4 0), 0, false, _, rfl,
      by decide +kernel⟩,
    ⟨((onState.setFld F.SCX_RX_CFG_DEG_TH 1 0).setFld F.SCX_RX_STATUS_DEG 0 0), 0, _, rfl, by decide +kernel⟩,
    ⟨(onState.setFld F.SCX_RX_STATUS_DEG 1 0), 0, _, rfl, by decide +kernel⟩,
    ⟨onState, 0, 100000, _, rfl, by decide +kernel⟩,
    ⟨(onState.setFld F.SCX_RX_STATUS_SCSTATE 2 0), 0, _, rfl, by decide +kernel⟩,
    ⟨(onState.setFld F.CAX_RX_STATUS_RXSTATE 2 0), 0, 4000, _, rfl, by decide +kernel⟩,
    ⟨(onState.setFld F.CAX_RX_STATUS_RXSTATE 2 0), 0, 7, _, rfl, by decide +kernel⟩,
    ⟨(onState.setFld F.CAX_RX_STATUS_RXSTATE 0 0), .core 0, 0, 0, _, rfl, by decide +kernel⟩,
    ⟨(onState.setFld F.CAX_RX_STATUS_RXSTATE 2 0), .core 0, 0, 0, _, rfl, by decide +kernel⟩,
    ⟨(onState.setFld F.CAX_RX_STATUS_RXSTATE 2 0), 0, ⟨300, 0, 0, 0, []⟩, _, rfl, by decide +kernel⟩,
    ⟨onState, 0, _, rfl, by decide +kernel⟩,
    ⟨((onState.setFld F.CAX_RX_STATUS_RXSTATE 2 0).setFld F.CAX_RX_CD_EST_CD_VALID 1 0), 0, _, rfl,
      by decide +kernel⟩,
    ⟨({ (onState.modCalLane 0 0 fun x => { x with want := some (5, true, 0) }) with us := 10000 } : State), 0, 0, 5,
      0, _, rfl, by decide +kernel⟩,
    ⟨onState, 0, 0, _, rfl, by decide +kernel⟩⟩

/-- What DecoderCommandsComplete asks for can be met. -/
theorem wit_DecoderCommandsComplete :
    (∃ s i w t, exec (.decode i w) s = .next t ∧ (s.decodes i w = true) ∧ (w.unc = false) ∧ (w.parity = false)) ∧
    (∃ s i w t, exec (.decode i w) s = .next t ∧ (s.decodes i w = true) ∧ (w.unc = true)) ∧
    (∃ s i t, exec (.uncDefectSet i) s = .next t ∧ (s.fecOn i = true) ∧
      (s.flag F.SCX_FEC_STATUS_UNC_DEFECT i = false) ∧ (3 ≤ (s.winNow i).uncRun)) ∧
    (∃ s i t, exec (.uncDefectClear i) s = .next t ∧ (s.fecOn i = true) ∧
      (s.flag F.SCX_FEC_STATUS_UNC_DEFECT i = true) ∧ (10 ≤ (s.winNow i).clean)) ∧
    (∃ s i t, exec (.prefecDegSet i) s = .next t ∧ (s.fecOn i = true) ∧ (1 ≤ s.fld F.SCX_FEC_CFG_DEG_PCT i) ∧
      (s.flag F.SCX_FEC_STATUS_PREFEC_DEG i = false) ∧ (10 ≤ (s.winNow i).deg)) ∧
    (∃ s i t, exec (.prefecDegClear i) s = .next t ∧ (s.fecOn i = true) ∧
      (s.flag F.SCX_FEC_STATUS_PREFEC_DEG i = true) ∧ (100 ≤ (s.winNow i).fine)) ∧
    (∃ s m i v t, exec (.fecTotClr m i v) s = .next t ∧ (s.accepts m (R .SCX_FEC_CTRL i) = true) ∧
      (F.SCX_FEC_CTRL_TOT_CLR.get v = 1)) ∧
    (∃ s i t, exec (.fecSecLatch) s = .next t ∧ (i < 16) ∧ (s.carOn (scCar i) = true) ∧
      (s.rxMode (scCar i) = 0 ∨ i % 8 = 0)) :=
  ⟨⟨(((onState.setFld F.SCX_RX_STATUS_SCSTATE 2 0).setFld F.LFM_SC_STATUS_FSTATE 3 0).modSc 0 fun x =>
      { x with decFrom := some 0 }), 0, ⟨false, 25600, 3, 1, 0, 10, 0, 1, false, false, false, false⟩, _, rfl,
      by decide +kernel⟩,
    ⟨(((onState.setFld F.SCX_RX_STATUS_SCSTATE 2 0).setFld F.LFM_SC_STATUS_FSTATE 3 0).modSc 0 fun x =>
      { x with decFrom := some 0 }), 0, ⟨false, 25600, 3, 1, 0, 10, 0, 1, true, false, false, false⟩, _, rfl,
      by decide +kernel⟩,
    ⟨((((onState.setFld F.SCX_RX_STATUS_SCSTATE 2 0).setFld F.LFM_SC_STATUS_FSTATE 3 0).setFld
      F.SCX_FEC_STATUS_UNC_DEFECT 0 0).modSc 0 fun x => { x with win := some ⟨0, false, 0, 0, 3, 0, 0, 0⟩ }), 0, _,
      rfl, by decide +kernel⟩,
    ⟨((((onState.setFld F.SCX_RX_STATUS_SCSTATE 2 0).setFld F.LFM_SC_STATUS_FSTATE 3 0).setFld
      F.SCX_FEC_STATUS_UNC_DEFECT 1 0).modSc 0 fun x => { x with win := some ⟨0, false, 0, 0, 0, 10, 0, 0⟩ }), 0, _,
      rfl, by decide +kernel⟩,
    ⟨(((((onState.setFld F.SCX_RX_STATUS_SCSTATE 2 0).setFld F.LFM_SC_STATUS_FSTATE 3 0).setFld
      F.SCX_FEC_CFG_DEG_PCT 1 0).setFld F.SCX_FEC_STATUS_PREFEC_DEG 0 0).modSc 0 fun x =>
      { x with win := some ⟨0, false, 0, 0, 0, 0, 10, 0⟩ }), 0, _, rfl, by decide +kernel⟩,
    ⟨((((onState.setFld F.SCX_RX_STATUS_SCSTATE 2 0).setFld F.LFM_SC_STATUS_FSTATE 3 0).setFld
      F.SCX_FEC_STATUS_PREFEC_DEG 1 0).modSc 0 fun x => { x with win := some ⟨0, false, 0, 0, 0, 0, 0, 100⟩ }), 0,
      _, rfl, by decide +kernel⟩,
    ⟨onState, .core 0, 0, (F.SCX_FEC_CTRL_TOT_CLR.put 1 0), _, rfl, by decide +kernel⟩,
    ⟨onState, 0, _, rfl, by decide +kernel⟩⟩

/-- What LineFrameCommandsComplete asks for can be met. -/
theorem wit_LineFrameCommandsComplete :
    (∃ s i pos errs t, exec (.hypothesisCheck i pos errs) s = .next t ∧ (s.domOn 6 = true) ∧ (i < 16) ∧
      (pos < 256) ∧ (s.fld F.LFM_SC_STATUS_FSTATE i = 1) ∧ (errs ≤ 6) ∧ (Tab.look pos (s.sc i).hyps = none) ∧
      ((s.sc i).hyps.length < 8)) ∧
    (∃ s i p t, exec (.searchInterval i) s = .next t ∧ (s.domOn 6 = true) ∧ (s.fld F.LFM_SC_STATUS_FSTATE i = 1) ∧
      (s.scLocked i = true) ∧ (s.rxMode (scCar i) = 0) ∧ ((s.sc i).qual = [p])) ∧
    (∃ s i p q l t, exec (.searchInterval i) s = .next t ∧ (s.domOn 6 = true) ∧
      (s.fld F.LFM_SC_STATUS_FSTATE i = 1) ∧ ((s.sc i).qual = p :: q :: l)) ∧
    (∃ s i errs h o t, exec (.frameRx i errs h o) s = .next t ∧ (s.domOn 6 = true) ∧ (i < 16) ∧
      (2 ≤ s.fld F.LFM_SC_STATUS_FSTATE i) ∧ (s.rxMode (scCar i) = 0) ∧ (6 < errs) ∧ (4 ≤ (s.sc i).awFail)) ∧
    (∃ s i t, exec (.lofSet i) s = .next t ∧ (s.domOn 6 = true) ∧ (i < 16) ∧ (s.fld F.LFM_SC_STATUS_FSTATE i ≤ 1)) ∧
    (∃ s i t, exec (.lofClr i) s = .next t ∧ (s.domOn 6 = true) ∧ (2 ≤ s.fld F.LFM_SC_STATUS_FSTATE i) ∧
      (s.flag F.LFM_SC_STATUS_LOF i = true)) ∧
    (∃ s c t, exec (.frameTx c) s = .next t ∧ (s.carOn c = true) ∧ (s.domOn 6 = true) ∧
      (pMode (s.rd (R .CAX_TX_PROFILE c)) = 0) ∧ (s.fld F.CAX_TX_STATUS_TXSTATE c = 4) ∧
      (s.segBad.contains c = false)) ∧
    (∃ s i t, exec (.pmLatch) s = .next t ∧ (s.domOn 6 = true) ∧ (i < 8 * s.nCar) ∧ (s.rxMode (scCar i) = 0)) :=
  ⟨⟨(onState.setFld F.LFM_SC_STATUS_FSTATE 1 0), 0, 0, 0, _, rfl, by decide +kernel⟩,
    ⟨(((onState.setFld F.LFM_SC_STATUS_FSTATE 1 0).modSc 0 (fun x => { x with qual := [0] })).setFld
      F.SCX_RX_STATUS_SCSTATE 2 0), 0, 0, _, rfl, by decide +kernel⟩,
    ⟨((onState.setFld F.LFM_SC_STATUS_FSTATE 1 0).modSc 0 (fun x => { x with qual := 1 :: 2 :: ([3]) })), 0, 1, 2,
      [3], _, rfl, by decide +kernel⟩,
    ⟨((onState.setFld F.LFM_SC_STATUS_FSTATE 2 0).modSc 0 fun x => { x with awFail := 4 }), 0, 7, none, none, _,
      rfl, by decide +kernel⟩,
    ⟨onState, 0, _, rfl, by decide +kernel⟩,
    ⟨((onState.setFld F.LFM_SC_STATUS_FSTATE 2 0).setFld F.LFM_SC_STATUS_LOF 1 0), 0, _, rfl, by decide +kernel⟩,
    ⟨(onState.setFld F.CAX_TX_STATUS_TXSTATE 4 0), 0, _, rfl, by decide +kernel⟩,
    ⟨onState, 0, _, rfl, by decide +kernel⟩⟩

/-- What SlotMapCommandsComplete asks for can be met. -/
theorem wit_SlotMapCommandsComplete :
    (∃ s m i v t, exec (.commitTx m i v) s = .next t ∧ (s.accepts m (R .LFM_MAP_CTRL i) = true) ∧
      (F.LFM_MAP_CTRL_COMMIT_TX.get v = 1) ∧ (F.LFM_MAP_CTRL_COMMIT_RX.get v = 0) ∧
      (s.fld F.CAX_CHG_STATUS_STATE (scCar i) = 0) ∧ (s.commitOk i true ((List.range 10).map fun e => s.rd (R
      .LFM_SLOT_MAP_TX i e)) = true)) ∧
    (∃ s m i v t, exec (.commitTx m i v) s = .next t ∧ (s.accepts m (R .LFM_MAP_CTRL i) = true) ∧
      (F.LFM_MAP_CTRL_COMMIT_TX.get v = 1) ∧ (F.LFM_MAP_CTRL_COMMIT_RX.get v = 0) ∧
      (s.fld F.CAX_CHG_STATUS_STATE (scCar i) = 0) ∧ (s.commitOk i true ((List.range 10).map fun e => s.rd (R
      .LFM_SLOT_MAP_TX i e)) = false)) ∧
    (∃ s m i v t, exec (.commitTx m i v) s = .next t ∧ (s.accepts m (R .LFM_MAP_CTRL i) = true) ∧
      (F.LFM_MAP_CTRL_COMMIT_TX.get v = 1) ∧ (F.LFM_MAP_CTRL_COMMIT_RX.get v = 0) ∧
      (s.fld F.CAX_CHG_STATUS_STATE (scCar i) ≠ 0)) ∧
    (∃ s m i v t, exec (.commitRx m i v) s = .next t ∧ (s.accepts m (R .LFM_MAP_CTRL i) = true) ∧
      (F.LFM_MAP_CTRL_COMMIT_TX.get v = 0) ∧ (F.LFM_MAP_CTRL_COMMIT_RX.get v = 1) ∧
      (s.fld F.CAX_CHG_STATUS_STATE (scCar i) = 0) ∧ (s.commitOk i false ((List.range 10).map fun e => s.rd (R
      .LFM_SLOT_MAP_RX i e)) = true)) ∧
    (∃ s m i v t, exec (.commitRx m i v) s = .next t ∧ (s.accepts m (R .LFM_MAP_CTRL i) = true) ∧
      (F.LFM_MAP_CTRL_COMMIT_TX.get v = 0) ∧ (F.LFM_MAP_CTRL_COMMIT_RX.get v = 1) ∧
      (s.fld F.CAX_CHG_STATUS_STATE (scCar i) = 0) ∧ (s.commitOk i false ((List.range 10).map fun e => s.rd (R
      .LFM_SLOT_MAP_RX i e)) = false)) ∧
    (∃ s m i v t, exec (.commitRx m i v) s = .next t ∧ (s.accepts m (R .LFM_MAP_CTRL i) = true) ∧
      (F.LFM_MAP_CTRL_COMMIT_TX.get v = 0) ∧ (F.LFM_MAP_CTRL_COMMIT_RX.get v = 1) ∧
      (s.fld F.CAX_CHG_STATUS_STATE (scCar i) ≠ 0)) ∧
    (∃ s i l t, exec (.pendingCommit i true) s = .next t ∧ (s.domOn 6 = true) ∧ ((s.sc i).waitTx = some l) ∧
      (s.fld F.CAX_CHG_STATUS_STATE (scCar i) = 0) ∧ (s.commitOk i true l = true)) ∧
    (∃ s i l t, exec (.pendingCommit i false) s = .next t ∧ (s.domOn 6 = true) ∧ ((s.sc i).waitRx = some l) ∧
      (s.fld F.CAX_CHG_STATUS_STATE (scCar i) = 0) ∧ (s.commitOk i false l = false)) ∧
    (∃ s i l t, exec (.slotMapInForce i true) s = .next t ∧ (s.domOn 6 = true) ∧ ((s.sc i).passTx = some l)) ∧
    (∃ s i l t, exec (.slotMapInForce i false) s = .next t ∧ (s.domOn 6 = true) ∧ ((s.sc i).passRx = some l)) ∧
    (∃ s m i v t, exec (.lfmTotClr m i v) s = .next t ∧ (s.accepts m (R .LFM_SC_CFG i) = true) ∧
      (F.LFM_SC_CFG_TOT_CLR.get v = 1)) :=
  ⟨⟨(onState.setFld F.CAX_CHG_STATUS_STATE 0 (scCar 0)), .core 0, 0, (F.LFM_MAP_CTRL_COMMIT_TX.put 1 0), _, rfl,
      by decide +kernel⟩,
    ⟨((onState.setFld F.CAX_CHG_STATUS_STATE 0 (scCar 0)).wr (R .LFM_SLOT_MAP_TX 0 0) 0xFFFFFFFF |>.wr (R
      .LFM_SLOT_MAP_TX 0 1) 0xFFFFFFFF), .core 0, 0, (F.LFM_MAP_CTRL_COMMIT_TX.put 1 0), _, rfl, by decide +kernel⟩,
    ⟨(onState.setFld F.CAX_CHG_STATUS_STATE 1 (scCar 0)), .core 0, 0, (F.LFM_MAP_CTRL_COMMIT_TX.put 1 0), _, rfl,
      by decide +kernel⟩,
    ⟨(onState.setFld F.CAX_CHG_STATUS_STATE 0 (scCar 0)), .core 0, 0, (F.LFM_MAP_CTRL_COMMIT_RX.put 1 0), _, rfl,
      by decide +kernel⟩,
    ⟨((onState.setFld F.CAX_CHG_STATUS_STATE 0 (scCar 0)).wr (R .LFM_SLOT_MAP_RX 0 0) 0xFFFFFFFF |>.wr (R
      .LFM_SLOT_MAP_RX 0 1) 0xFFFFFFFF), .core 0, 0, (F.LFM_MAP_CTRL_COMMIT_RX.put 1 0), _, rfl, by decide +kernel⟩,
    ⟨(onState.setFld F.CAX_CHG_STATUS_STATE 1 (scCar 0)), .core 0, 0, (F.LFM_MAP_CTRL_COMMIT_RX.put 1 0), _, rfl,
      by decide +kernel⟩,
    ⟨((onState.modSc 0 (fun x => { x with waitTx := some ([]) })).setFld F.CAX_CHG_STATUS_STATE 0 (scCar 0)), 0, [],
      _, rfl, by decide +kernel⟩,
    ⟨((onState.modSc 0 (fun x => { x with waitRx := some ([0xFFFFFFFF, 0xFFFFFFFF]) })).setFld
      F.CAX_CHG_STATUS_STATE 0 (scCar 0)), 0, [0xFFFFFFFF, 0xFFFFFFFF], _, rfl, by decide +kernel⟩,
    ⟨(onState.modSc 0 (fun x => { x with passTx := some ([]) })), 0, [], _, rfl, by decide +kernel⟩,
    ⟨(onState.modSc 0 (fun x => { x with passRx := some ([]) })), 0, [], _, rfl, by decide +kernel⟩,
    ⟨onState, .core 0, 0, (F.LFM_SC_CFG_TOT_CLR.put 1 0), _, rfl, by decide +kernel⟩⟩

/-- What GroupCommandsComplete asks for can be met. -/
theorem wit_GroupCommandsComplete :
    (∃ s m g v t, exec (.grpCfgWrite m g v) s = .next t ∧ (s.accepts m (R .LFM_GRP_CFG g) = true) ∧
      (s.flag F.LFM_GRP_CFG_EN g = false) ∧ (F.LFM_GRP_CFG_EXPRESS.get v = s.fld F.LFM_GRP_CFG_EXPRESS g) ∧
      (s.gidTaken g (F.LFM_GRP_CFG_GID.get v) = false)) ∧
    (∃ s m g v t, exec (.grpCfgWrite m g v) s = .next t ∧ (s.accepts m (R .LFM_GRP_CFG g) = true) ∧
      (s.flag F.LFM_GRP_CFG_EN g = true) ∧ (F.LFM_GRP_CFG_GID.get v ≠ s.fld F.LFM_GRP_CFG_GID g)) ∧
    (∃ s g n gap a t, exec (.groupMarker g n none gap a) s = .next t ∧ (s.domOn 6 = true) ∧ (g < 160) ∧
      (n < s.fld F.LFM_GRP_CFG_MEMBERS g) ∧ (((s.grp g).mem.get Member.init n).ok = true) ∧
      (2 ≤ ((s.grp g).mem.get Member.init n).miss)) ∧
    (∃ s g t, exec (.skewCheck g) s = .next t ∧ (s.domOn 6 = true) ∧ (s.fld F.LFM_GRP_STATUS_STATE g = 6) ∧
      (s.fld F.LFM_GRP_SKEW_SKEW g ≤ 19000)) ∧
    (∃ s g t, exec (.grpUp g) s = .next t ∧ (s.domOn 6 = true) ∧ (s.fld F.LFM_GRP_STATUS_STATE g = 3)) ∧
    (∃ s g n t, exec (.grpSlip g n) s = .next t ∧ (s.domOn 6 = true) ∧ (s.fld F.LFM_GRP_STATUS_STATE g ≠ 0) ∧
      (n < s.fld F.LFM_GRP_CFG_MEMBERS g) ∧ (s.rxSlots (s.gid g) n = [])) :=
  ⟨⟨(onState.setFld F.LFM_GRP_CFG_EN 0 0), .core 0, 0, 0, _, rfl, by decide +kernel⟩,
    ⟨(onState.setFld F.LFM_GRP_CFG_EN 1 0), .core 0, 0, (F.LFM_GRP_CFG_GID.put 1 0), _, rfl, by decide +kernel⟩,
    ⟨((onState.setFld F.LFM_GRP_CFG_MEMBERS 1 0).modGrp 0 (fun x =>
      { x with mem := NTab.set Member.init x.mem 0 ⟨[], none, true, 2, false⟩ })), 0, 0, 0, 0, _, rfl,
      by decide +kernel⟩,
    ⟨(onState.setFld F.LFM_GRP_STATUS_STATE 6 0), 0, _, rfl, by decide +kernel⟩,
    ⟨(onState.setFld F.LFM_GRP_STATUS_STATE 3 0), 0, _, rfl, by decide +kernel⟩,
    ⟨(((onState.setFld F.LFM_GRP_STATUS_STATE 4 0).setFld F.LFM_GRP_CFG_MEMBERS 1 0).setFld F.LFM_GRP_STATUS_STATE 1
      0), 0, 0, _, rfl, by decide +kernel⟩⟩

/-- What PortCommandsComplete asks for can be met. -/
theorem wit_PortCommandsComplete :
    (∃ s m p v t, exec (.portCfgWrite m p v) s = .next t ∧ (s.accepts m (R .SOF_PORT_CFG p) = true) ∧
      (s.flag F.SOF_PORT_CFG_EN p = false) ∧ (F.SOF_PORT_CFG_EN.get v = 1) ∧
      (s.portCode p (v &&& (R .SOF_PORT_CFG p).mask) = 0)) ∧
    (∃ s m p v t, exec (.portCfgWrite m p v) s = .next t ∧ (s.accepts m (R .SOF_PORT_CFG p) = true) ∧
      (s.flag F.SOF_PORT_CFG_EN p = false) ∧ (F.SOF_PORT_CFG_EN.get v = 1) ∧
      (s.portCode p (v &&& (R .SOF_PORT_CFG p).mask) = 1)) ∧
    (∃ s m p v t, exec (.portCntClr m p v) s = .next t ∧ (s.accepts m (R .SOF_PORT_CTRL p) = true) ∧
      (F.SOF_PORT_CTRL_CNT_CLR.get v = 1)) ∧
    (∃ s p x t, exec (.hostFrame p x) s = .next t ∧ (s.portRx p = true) ∧ (x.fcsOk = false)) ∧
    (∃ s p x t, exec (.hostFrame p x) s = .next t ∧ (s.portRx p = true) ∧ (x.fcsOk = true) ∧ (64 ≤ x.bytes.length) ∧
      (x.bytes.length ≤ s.maxFrm p)) ∧
    (∃ s p t, exec (.pauseRefresh p) s = .next t ∧ (s.portRx p = true) ∧ (s.portUp p = true) ∧
      (1 ≤ s.fld F.SOF_PORT_STATUS_TX_XOFF p) ∧ (s.fld F.SOF_PORT_CFG_FC_MODE p = 2)) ∧
    (∃ s p q l t, exec (.pauseReceived p false q l) s = .next t ∧ (s.portRx p = true)) ∧
    (∃ s p t, exec (.pauseExpiry p none) s = .next t ∧ (s.domOn 7 = true) ∧ (p < 16)) ∧
    (∃ s p q t, exec (.pauseExpiry p (some q)) s = .next t ∧ (s.domOn 7 = true) ∧ (p < 16)) :=
  ⟨⟨(onState.setFld F.SOF_PORT_CFG_EN 0 0), .core 0, 0, (F.SOF_PORT_CFG_EN.put 1 (F.SOF_PORT_CFG_RATE.put 1 0)), _,
      rfl, by decide +kernel⟩,
    ⟨((onState.setFld F.SOF_PORT_CFG_EN 0 0).setFld F.SOF_PORT_CFG_EN 1 1 |>.setFld F.SOF_PORT_CFG_RATE 1 1),
      .core 0, 0, (F.SOF_PORT_CFG_EN.put 1 (F.SOF_PORT_CFG_RATE.put 1 0)), _, rfl, by decide +kernel⟩,
    ⟨onState, .core 0, 0, (F.SOF_PORT_CTRL_CNT_CLR.put 1 0), _, rfl, by decide +kernel⟩,
    ⟨((onState.setFld F.SOF_PORT_CFG_EN 1 0).setFld F.SOF_PORT_STATUS_UP 1 0), 0, ⟨[], false, false, false⟩, _, rfl,
      by decide +kernel⟩,
    ⟨((onState.setFld F.SOF_PORT_CFG_EN 1 0).setFld F.SOF_PORT_STATUS_UP 1 0), 0, ⟨List.replicate 64 0, true, false,
      false⟩, _, rfl, by decide +kernel⟩,
    ⟨((((onState.setFld F.SOF_PORT_CFG_EN 1 0).setFld F.SOF_PORT_STATUS_UP 1 0).setFld F.SOF_PORT_STATUS_TX_XOFF 1
      0).setFld F.SOF_PORT_CFG_FC_MODE 2 0), 0, _, rfl, by decide +kernel⟩,
    ⟨((onState.setFld F.SOF_PORT_CFG_EN 1 0).setFld F.SOF_PORT_STATUS_UP 1 0), 0, 0, [], _, rfl, by decide +kernel⟩,
    ⟨onState, 0, _, rfl, by decide +kernel⟩,
    ⟨onState, 0, 0, _, rfl, by decide +kernel⟩⟩

/-- What PigeonholeCommandsComplete asks for can be met. -/
theorem wit_PigeonholeCommandsComplete :
    (∃ s m f w v t, exec (.phEntryWrite m f w v) s = .next t ∧ (s.accepts m (R (phWord w) f) = true) ∧
      (s.flag F.SOF_PH_W6_VALID f = false)) ∧
    (∃ s m f w v t, exec (.phEntryWrite m f w v) s = .next t ∧ (s.accepts m (R (phWord w) f) = true) ∧
      (s.flag F.SOF_PH_W6_VALID f = true)) ∧
    (∃ s m f v t, exec (.validate m f v) s = .next t ∧ (s.accepts m (R .SOF_PH_W6 f) = true) ∧
      (s.flag F.SOF_PH_W6_VALID f = false) ∧ (F.SOF_PH_W6_VALID.get v = 1) ∧ (s.validCode f v = 0)) ∧
    (∃ s m f v t, exec (.validate m f v) s = .next t ∧ (s.accepts m (R .SOF_PH_W6 f) = true) ∧
      (s.flag F.SOF_PH_W6_VALID f = false) ∧ (F.SOF_PH_W6_VALID.get v = 1) ∧ (s.validCode f v = 4)) ∧
    (∃ s m f v t, exec (.flowRemove m f v) s = .next t ∧ (s.accepts m (R .SOF_PH_W6 f) = true) ∧
      (s.flag F.SOF_PH_W6_VALID f = true) ∧ (F.SOF_PH_W6_VALID.get v = 0)) ∧
    (∃ s m v f t, exec (.flowMove m v) s = .next t ∧ (s.accepts m (R .SOF_PH_CMD) = true) ∧
      (F.SOF_PH_CMD_CMD.get v = 1) ∧ (F.SOF_PH_CMD_FLOW.get v = f) ∧ (s.flag F.SOF_PH_W6_VALID f = true) ∧
      (s.fld F.SOF_FP_W4_STATE f = 1) ∧ (s.toLine f = true) ∧
      (s.groupFits (F.SOF_PH_CMD_ARG.get v) (s.flag F.SOF_PH_W6_EXPRESS f) = true)) ∧
    (∃ s m v f t, exec (.flowFlush m v) s = .next t ∧ (s.accepts m (R .SOF_PH_CMD) = true) ∧
      (F.SOF_PH_CMD_CMD.get v = 2) ∧ (F.SOF_PH_CMD_FLOW.get v = f)) ∧
    (∃ s m v f r t, exec (.clrCnt m v) s = .next t ∧ (s.accepts m (R .SOF_PH_CMD) = true) ∧
      (F.SOF_PH_CMD_CMD.get v = 3) ∧ (F.SOF_PH_CMD_FLOW.get v = f) ∧ (r ∈ flowCounters)) :=
  ⟨⟨(onState.setFld F.SOF_PH_W6_VALID 0 0), .core 0, 0, 0, 0, _, rfl, by decide +kernel⟩,
    ⟨(onState.setFld F.SOF_PH_W6_VALID 1 0), .core 0, 0, 0, 0, _, rfl, by decide +kernel⟩,
    ⟨((onState.setFld F.SOF_PH_W6_VALID 0 0).wr (R .SOF_PH_W3 0) 0x80000000 |>.setFld F.LFM_GRP_CFG_MEMBERS 1 0),
      .core 0, 0, (F.SOF_PH_W6_VALID.put 1 0), _, rfl, by decide +kernel⟩,
    ⟨((onState.setFld F.SOF_PH_W6_VALID 0 0).wr (R .SOF_PH_W3 0) 0x80000000 |>.setFld F.LFM_GRP_CFG_MEMBERS 1 0
      |>.setFld F.SOF_PH_W6_VALID 1 1 |>.setFld F.SOF_FP_W3_SHED_QUOTA 255 1 |>.setFld F.SOF_PH_W6_VALID 1 2
      |>.setFld F.SOF_FP_W3_SHED_QUOTA 255 2 |>.setFld F.SOF_PH_W6_VALID 1 3 |>.setFld F.SOF_FP_W3_SHED_QUOTA 255 3
      |>.setFld F.SOF_PH_W6_VALID 1 4 |>.setFld F.SOF_FP_W3_SHED_QUOTA 255 4), .core 0, 0,
      (F.SOF_PH_W6_VALID.put 1 0), _, rfl, by decide +kernel⟩,
    ⟨(onState.setFld F.SOF_PH_W6_VALID 1 0), .core 0, 0, 0, _, rfl, by decide +kernel⟩,
    ⟨(((onState.setFld F.SOF_PH_W6_VALID 1 0).setFld F.SOF_FP_W4_STATE 1 0).setFld F.LFM_GRP_CFG_MEMBERS 1 0),
      .core 0, (F.SOF_PH_CMD_FLOW.put 0 (F.SOF_PH_CMD_CMD.put 1 0)), 0, _, rfl, by decide +kernel⟩,
    ⟨onState, .core 0, (F.SOF_PH_CMD_FLOW.put 0 (F.SOF_PH_CMD_CMD.put 2 0)), 0, _, rfl, by decide +kernel⟩,
    ⟨onState, .core 0, (F.SOF_PH_CMD_FLOW.put 0 (F.SOF_PH_CMD_CMD.put 3 0)), 0, .SOF_ACC_FRM_LO, _, rfl,
      by decide +kernel⟩⟩

/-- What TrafficCommandsComplete asks for can be met. -/
theorem wit_TrafficCommandsComplete :
    (∃ s e f ecc t, exec (.frameSent ⟨false, e⟩ ecc) s = .next t ∧ (s.domOn 7 = true) ∧ (s.inReset 7 0 = false) ∧
      (s.ready false e true = [f]) ∧ (s.drr.get 0 (4 * e + 1) = f) ∧ (s.headCost f ≤ (s.flow f).dfc) ∧ (ecc ≠ .ue) ∧
      (s.segBad.contains 18 = false)) ∧
    (∃ s g t, exec (.grpHoldEnd g) s = .next t ∧ (s.domOn 7 = true) ∧ (s.flag F.SOF_GRP_TXHOLD_HELD g = true) ∧
      (s.holdCond g = false)) ∧
    (∃ s g w x t, exec (.recordHeader g w false x) s = .next t ∧ (s.domOn 7 = true) ∧ (s.domOn 6 = true) ∧
      (g < 160) ∧ (s.grpUp g = true) ∧ (s.grpPays g = true) ∧ (s.grpEnc g = false) ∧ (recOk w = true) ∧
      ((s.dl g).st = 0)) ∧
    (∃ s g w x t, exec (.recordHeader g w false x) s = .next t ∧ (s.domOn 7 = true) ∧ (s.domOn 6 = true) ∧
      (g < 160) ∧ (s.grpUp g = true) ∧ (s.grpPays g = true) ∧ (s.grpEnc g = false) ∧ (recOk w = true) ∧
      ((s.dl g).st = 1)) ∧
    (∃ s g w x t, exec (.recordHeader g w false x) s = .next t ∧ (s.domOn 7 = true) ∧ (s.domOn 6 = true) ∧
      (g < 160) ∧ (s.grpUp g = true) ∧ (s.grpPays g = true) ∧ (s.grpEnc g = false) ∧ (recOk w = false) ∧
      ((s.dl g).st = 2)) :=
  ⟨⟨(((((onState.wr (R .SOF_PH_W0 2) 0x80000000).setFld F.SOF_PH_W6_EXPRESS 1 2).setFld F.SOF_PORT_CFG_EN 1
      0).setFld F.SOF_PORT_STATUS_UP 1 0).modFlow 2 (fun x =>
      { x with q := [⟨[], 64, .quota, 0, false, 0, true, 0, none, false, false⟩], dfc := 100 }) |> fun s =>
      { s with drr := NTab.set 0 s.drr 1 2 }), 0, 2, .clean, _, rfl, by decide +kernel⟩,
    ⟨(((onState.setFld F.LFM_GRP_CFG_EN 1 0).setFld F.LFM_GRP_CFG_MEMBERS 0 0).setFld F.SOF_GRP_TXHOLD_HELD 1 0), 0,
      _, rfl, by decide +kernel⟩,
    ⟨(onState.setFld F.LFM_GRP_STATUS_STATE 4 0), 0, (crc16 16 0), ⟨[], false, false, false⟩, _, rfl,
      by decide +kernel⟩,
    ⟨((onState.setFld F.LFM_GRP_STATUS_STATE 4 0) |> fun s =>
      { s with delin := NTab.set Delin.init s.delin 0 ⟨1, none, false⟩ }), 0, (crc16 16 0), ⟨[], false, false,
      false⟩, _, rfl, by decide +kernel⟩,
    ⟨((onState.setFld F.LFM_GRP_STATUS_STATE 4 0) |> fun s =>
      { s with delin := NTab.set Delin.init s.delin 0 ⟨2, none, false⟩ }), 0, 1, ⟨[], false, false, false⟩, _, rfl,
      by decide +kernel⟩⟩

/-- What CipherCommandsComplete asks for can be met. -/
theorem wit_CipherCommandsComplete :
    (∃ s g h t, exec (.sealHeader g h) s = .next t ∧ (s.domOn 6 = true) ∧ (s.domOn 7 = true) ∧ (g < 160) ∧
      (s.grpEnc g = true) ∧ (s.grpUp g = true) ∧ (s.grpPays g = true) ∧ ((s.gctx g).skip = false) ∧
      (half h 0 * 65536 + half h 2 ≠ 0x00001D0F) ∧ (h.length ≠ 16 ∨ crc16 112 (beAt h 0 14) ≠ half h 14 ∨ half h 0 /
      2 ^ 13 % 2 = 0 ∨ half h 2 % 4096 ≠ s.gid g ∨ 4096 < half h 0 % 2 ^ 13)) ∧
    (∃ s g h t, exec (.sealHeader g h) s = .next t ∧ (s.domOn 6 = true) ∧ (s.domOn 7 = true) ∧ (g < 160) ∧
      (s.grpEnc g = true) ∧ (s.grpUp g = true) ∧ (s.grpPays g = true) ∧ ((s.gctx g).skip = false) ∧
      (half h 0 * 65536 + half h 2 ≠ 0x00001D0F) ∧ (h.length = 16) ∧ (crc16 112 (beAt h 0 14) = half h 14) ∧
      (half h 0 / 2 ^ 13 % 2 = 1) ∧ (half h 2 % 4096 = s.gid g) ∧ (half h 0 % 2 ^ 13 ≤ 4096) ∧
      (s.grpKey g (half h 0 / 2 ^ 14) = none)) ∧
    (∃ s g h k t, exec (.sealHeader g h) s = .next t ∧ (s.domOn 6 = true) ∧ (s.domOn 7 = true) ∧ (g < 160) ∧
      (s.grpEnc g = true) ∧ (s.grpUp g = true) ∧ (s.grpPays g = true) ∧ ((s.gctx g).skip = false) ∧
      (half h 0 * 65536 + half h 2 ≠ 0x00001D0F) ∧ (h.length = 16) ∧ (crc16 112 (beAt h 0 14) = half h 14) ∧
      (half h 0 / 2 ^ 13 % 2 = 1) ∧ (half h 2 % 4096 = s.gid g) ∧ (half h 0 % 2 ^ 13 ≤ 4096) ∧
      (s.grpKey g (half h 0 / 2 ^ 14) = some k) ∧ (beAt h 4 8 ≤ (s.gctx g).rxPn.get 0 (half h 0 / 2 ^ 14))) ∧
    (∃ s g h k t, exec (.sealHeader g h) s = .next t ∧ (s.domOn 6 = true) ∧ (s.domOn 7 = true) ∧ (g < 160) ∧
      (s.grpEnc g = true) ∧ (s.grpUp g = true) ∧ (s.grpPays g = true) ∧ ((s.gctx g).skip = false) ∧
      (half h 0 * 65536 + half h 2 ≠ 0x00001D0F) ∧ (h.length = 16) ∧ (crc16 112 (beAt h 0 14) = half h 14) ∧
      (half h 0 / 2 ^ 13 % 2 = 1) ∧ (half h 2 % 4096 = s.gid g) ∧ (half h 0 % 2 ^ 13 ≤ 4096) ∧
      (s.grpKey g (half h 0 / 2 ^ 14) = some k) ∧ ((s.gctx g).rxPn.get 0 (half h 0 / 2 ^ 14) < beAt h 4 8)) ∧
    (∃ s id ok out x y t, exec (.cipherDone id ok out) s = .next t ∧ (s.domOn 6 = true) ∧ (s.msg id = some x) ∧
      (x.fin = none) ∧ (s.cip.msgs.find? (fun m => m.owner == x.owner) = some y) ∧ (y.fin = none) ∧ (y.id ≠ id)) ∧
    (∃ s id out x f t, exec (.cipherDone id true out) s = .next t ∧ (s.domOn 6 = true) ∧ (s.msg id = some x) ∧
      (x.fin = none) ∧ (x.kind = .protect f) ∧ (s.cip.msgs.filter (fun m => m.owner == x.owner) = [x]) ∧
      ((∀ m ∈ s.cip.wait, m.owner ≠ x.owner))) ∧
    (∃ s id out x f t, exec (.cipherDone id false out) s = .next t ∧ (s.domOn 6 = true) ∧ (s.msg id = some x) ∧
      (x.fin = none) ∧ (x.kind = .protect f) ∧ (s.cip.msgs.filter (fun m => m.owner == x.owner) = [x]) ∧
      ((∀ m ∈ s.cip.wait, m.owner ≠ x.owner))) ∧
    (∃ s id x t, exec (.cipherTimeout id) s = .next t ∧ (s.domOn 6 = true) ∧ (s.msg id = some x) ∧ (x.fin = none)) ∧
    (∃ s m v k t, exec (.loadKey m v) s = .next t ∧ (s.accepts m (R .CIP_KEY_CMD) = true) ∧
      (F.CIP_KEY_CMD_CMD.get v = 1) ∧ (s.activeSlot (F.CIP_KEY_CMD_SLOT.get v) = false) ∧
      (1 ≤ F.CIP_KEY_CMD_KEK.get v) ∧ (s.kek (F.CIP_KEY_CMD_KEK.get v) = some k) ∧ (s.entHalt = false)) ∧
    (∃ s m v k t, exec (.loadKek m v) s = .next t ∧ (s.accepts m (R .CIP_KEY_CMD) = true) ∧
      (F.CIP_KEY_CMD_CMD.get v = 2) ∧ (1 ≤ F.CIP_KEY_CMD_SLOT.get v % 4) ∧ (s.entHalt = false) ∧ (s.kek0 = some k)) ∧
    (∃ s m v t, exec (.erase m v) s = .next t ∧ (s.accepts m (R .CIP_KEY_CMD) = true) ∧
      (F.CIP_KEY_CMD_CMD.get v = 3) ∧ (s.entHalt = false)) ∧
    (∃ s m v t, exec (.eraseKek m v) s = .next t ∧ (s.accepts m (R .CIP_KEY_CMD) = true) ∧
      (F.CIP_KEY_CMD_CMD.get v = 4) ∧ (1 ≤ F.CIP_KEY_CMD_SLOT.get v % 4) ∧ (s.entHalt = false)) ∧
    (∃ s m i v t, exec (.txAnWrite m false i v) s = .next t ∧ (s.accepts m (R .CIP_CTX_CFG i) = true)) ∧
    (∃ s m i v t, exec (.txAnWrite m true i v) s = .next t ∧ (s.accepts m (R .CIP_GCX_CFG i) = true)) ∧
    (∃ s t, exec (.entFail) s = .next t ∧ (s.domOn 6 = true)) ∧
    (∃ s t, exec (.entOk) s = .next t ∧ (s.domOn 6 = true) ∧ (s.flag F.CIP_STATUS_ENT_OK = false)) :=
  ⟨⟨((onState.setFld F.LFM_GRP_STATUS_STATE 4 0).setFld F.LFM_GRP_CFG_ENC 1 0), 0, [], _, rfl, by decide +kernel⟩,
    ⟨((onState.setFld F.LFM_GRP_STATUS_STATE 4 0).setFld F.LFM_GRP_CFG_ENC 1 0), 0, [32, 0, 0, 0, 0, 0, 0, 0, 0, 0,
      0, 1, 0, 0, 3, 149], _, rfl, by decide +kernel⟩,
    ⟨((upd_cip ((onState.setFld F.LFM_GRP_STATUS_STATE 4 0).setFld F.LFM_GRP_CFG_ENC 1 0) fun x =>
      { x with slots := NTab.set none x.slots 0 (some ⟨1, 2, 1, false, 0⟩) }).modGctx 0 fun x =>
      { x with rxPn := NTab.set 0 x.rxPn 0 1 }), 0, [32, 0, 0, 0, 0, 0, 0, 0, 0, 0, 0, 1, 0, 0, 3, 149], ⟨1, 2, 1,
      false, 0⟩, _, rfl, by decide +kernel⟩,
    ⟨(upd_cip ((onState.setFld F.LFM_GRP_STATUS_STATE 4 0).setFld F.LFM_GRP_CFG_ENC 1 0) fun x =>
      { x with slots := NTab.set none x.slots 0 (some ⟨1, 2, 1, false, 0⟩) }), 0, [32, 0, 0, 0, 0, 0, 0, 0, 0, 0, 0,
      1, 0, 0, 3, 149], ⟨1, 2, 1, false, 0⟩, _, rfl, by decide +kernel⟩,
    ⟨(upd_cip onState fun x => { x with msgs := [⟨0, .protect 0, false, 0, 0, 1, 0, 0, [], [], true, [], false,
      false, 0, none⟩, ⟨1, .protect 0, false, 0, 0, 1, 0, 0, [], [], true, [], false, false, 0, none⟩] }), 1, true,
      [], ⟨1, .protect 0, false, 0, 0, 1, 0, 0, [], [], true, [], false, false, 0, none⟩, ⟨0, .protect 0, false, 0,
      0, 1, 0, 0, [], [], true, [], false, false, 0, none⟩, _, rfl, by decide +kernel⟩,
    ⟨(upd_cip onState fun x =>
      { x with msgs := [⟨0, .protect 0, false, 0, 0, 1, 0, 0, [], [], true, [], false, false, 0, none⟩] }), 0, [],
      ⟨0, .protect 0, false, 0, 0, 1, 0, 0, [], [], true, [], false, false, 0, none⟩, 0, _, rfl, by decide +kernel⟩,
    ⟨(upd_cip onState fun x =>
      { x with msgs := [⟨0, .protect 0, false, 0, 0, 1, 0, 0, [], [], true, [], false, false, 0, none⟩] }), 0, [],
      ⟨0, .protect 0, false, 0, 0, 1, 0, 0, [], [], true, [], false, false, 0, none⟩, 0, _, rfl, by decide +kernel⟩,
    ⟨(upd_cip onState fun x =>
      { x with msgs := [⟨0, .protect 0, false, 0, 0, 1, 0, 0, [], [], true, [], false, false, 0, none⟩] }), 0, ⟨0,
      .protect 0, false, 0, 0, 1, 0, 0, [], [], true, [], false, false, 0, none⟩, _, rfl, by decide +kernel⟩,
    ⟨(upd_cip (onState.setFld F.CIP_CFG_ENT_HALT 0) fun x => { x with keks := NTab.set none x.keks 1 (some 5) }),
      .core 0, (F.CIP_KEY_CMD_KEK.put 1 (F.CIP_KEY_CMD_SLOT.put 1 (F.CIP_KEY_CMD_CMD.put 1 0))), 5, _, rfl,
      by decide +kernel⟩,
    ⟨(upd_fuse (upd_fuse (onState.setFld F.CIP_CFG_ENT_HALT 0) fun x => { x with kek0 := some 5 }) fun x =>
      { x with lc := 1 }), .core 0, (F.CIP_KEY_CMD_SLOT.put 1 (F.CIP_KEY_CMD_CMD.put 2 0)), 5, _, rfl,
      by decide +kernel⟩,
    ⟨(onState.setFld F.CIP_CFG_ENT_HALT 0), .core 0, (F.CIP_KEY_CMD_CMD.put 3 0), _, rfl, by decide +kernel⟩,
    ⟨(onState.setFld F.CIP_CFG_ENT_HALT 0), .core 0, (F.CIP_KEY_CMD_SLOT.put 1 (F.CIP_KEY_CMD_CMD.put 4 0)), _, rfl,
      by decide +kernel⟩,
    ⟨onState, .core 0, 0, 0, _, rfl, by decide +kernel⟩,
    ⟨onState, .core 0, 0, 0, _, rfl, by decide +kernel⟩,
    ⟨onState, _, rfl, by decide +kernel⟩,
    ⟨(onState.setFld F.CIP_STATUS_ENT_OK 0), _, rfl, by decide +kernel⟩⟩

/-- What HayloftCommandsComplete asks for can be met. -/
theorem wit_HayloftCommandsComplete :
    (∃ s a g t, exec (.hayAccessDone a) s = .next t ∧ (s.hayOn = true) ∧ (64 * a.line < s.hayBytes) ∧
      (a.use = .deskewRead g) ∧ (a.ecc = .ue) ∧ ((s.grp g).dsk.contains (a.line / 64) = true) ∧
      (s.blockOpen (a.line / 1024) = true) ∧ (s.readUp = true)) ∧
    (∃ s a f r t, exec (.hayAccessDone a) s = .next t ∧ (s.hayOn = true) ∧ (64 * a.line < s.hayBytes) ∧
      (a.use = .flowWrite f) ∧ (s.inFlight a = some r) ∧ (s.readUp = true)) ∧
    (∃ s a f r j t, exec (.hayAccessDone a) s = .next t ∧ (s.hayOn = true) ∧ (64 * a.line < s.hayBytes) ∧
      (a.use = .flowRead f) ∧ (a.ecc = .clean) ∧ (s.inFlight a = some r) ∧ ((s.lineGot f a.line).readUp = true) ∧
      (s.hay.poison.contains a.line = false) ∧ (s.hay.wrong.contains a.line = false) ∧
      ((s.flow f).lineIdx a.line = some j)) ∧
    (∃ s a r t, exec (.accTimeout a) s = .next t ∧ (s.hayOn = true) ∧ (64 * a.line < s.hayBytes) ∧
      (s.inFlight a = some r)) ∧
    (∃ s a g t, exec (.accTimeout a) s = .next t ∧ (s.hayOn = true) ∧ (64 * a.line < s.hayBytes) ∧
      (a.use = .deskewRead g) ∧ ((s.grp g).dsk.contains (a.line / 64) = true) ∧ (s.readUp = true) ∧
      (s.flag F.SAF_REACT_FO0 8 = false) ∧ (s.flag F.SAF_REACT_FO1 8 = false)) ∧
    (∃ s line e x t, exec (.mergeWriteBack line e) s = .next t ∧ (s.hayOn = true) ∧
      (s.hay.merge.find? (fun y => y.line = line) = some x) ∧ (64 ≤ x.bytes.length) ∧
      ((x.bytes.map Prod.fst).Nodup)) ∧
    (∃ s line n t, exec (.scrubRead line .clean) s = .next t ∧ (s.hayOn = true) ∧
      (s.scrubNext s.hay.scrub = some line) ∧ (s.hay.wrong.contains line = false) ∧
      (s.scrubNext (line + 1) = some n)) ∧
    (∃ s line t, exec (.scrubRead line .clean) s = .next t ∧ (s.hayOn = true) ∧
      (s.scrubNext s.hay.scrub = some line) ∧ (s.hay.wrong.contains line = false) ∧ (s.scrubNext (line + 1) = none)) ∧
    (∃ s m v t, exec (.retAdd m v) s = .next t ∧ (s.accepts m (R .HAY_RET_CMD) = true) ∧
      (F.HAY_RET_CMD_CMD.get v = 1) ∧ (s.hay.ret.length < 8192) ∧
      (s.hay.ret.any (fun r => r.page == F.HAY_RET_CMD_ARG.get v) = false) ∧
      (4096 * F.HAY_RET_CMD_ARG.get v < s.hayMeta)) ∧
    (∃ s m v t, exec (.retAdd m v) s = .next t ∧ (s.accepts m (R .HAY_RET_CMD) = true) ∧
      (F.HAY_RET_CMD_CMD.get v = 1) ∧ (8192 ≤ s.hay.ret.length)) ∧
    (∃ s m v t, exec (.retRemove m v) s = .next t ∧ (s.accepts m (R .HAY_RET_CMD) = true) ∧
      (F.HAY_RET_CMD_CMD.get v = 2) ∧ (s.hay.ret.any (fun r => r.page == F.HAY_RET_CMD_ARG.get v) = true)) ∧
    (∃ s m v r t, exec (.retRead m v) s = .next t ∧ (s.accepts m (R .HAY_RET_CMD) = true) ∧
      (F.HAY_RET_CMD_CMD.get v = 3) ∧ (s.hay.ret[F.HAY_RET_CMD_ARG.get v]? = some r)) ∧
    (∃ s m off e t, exec (.apertureRead m off e) s = .next t ∧ (s.canIssue m = true) ∧
      (s.denied m (aptBus off) 0 = false) ∧ (s.holdsBack m = false) ∧ (s.blockOn 8 0x80000 = true) ∧
      (s.aptPhys off < s.hayBytes) ∧ (s.blockOpen (s.aptPhys off / 4 * 4 / 65536) = false)) ∧
    (∃ s m off t, exec (.apertureRead m off .clean) s = .next t ∧ (s.canIssue m = true) ∧
      (s.denied m (aptBus off) 0 = false) ∧ (s.holdsBack m = false) ∧ (s.blockOn 8 0x80000 = true) ∧
      (s.aptPhys off < s.hayBytes) ∧ (s.blockOpen (s.aptPhys off / 4 * 4 / 65536) = true)) ∧
    (∃ s m off v t, exec (.apertureWrite m off v) s = .next t ∧ (s.canIssue m = true) ∧
      (s.denied m (aptBus off) 1 = false) ∧ (s.holdsBack m = false) ∧ (s.blockOn 8 0x80000 = true) ∧
      (s.aptPhys off < s.hayBytes) ∧ (s.inCap (s.aptPhys off / 4 * 4) = true) ∧
      (s.hay.merge.find? (fun y => y.line = s.aptPhys off / 4 * 4 / 64) = none) ∧ (s.hay.merge.length < 256)) ∧
    (∃ s m off v x t, exec (.apertureWrite m off v) s = .next t ∧ (s.canIssue m = true) ∧
      (s.denied m (aptBus off) 1 = false) ∧ (s.holdsBack m = false) ∧ (s.blockOn 8 0x80000 = true) ∧
      (s.aptPhys off < s.hayBytes) ∧ (s.inCap (s.aptPhys off / 4 * 4) = true) ∧
      (s.hay.merge.find? (fun y => y.line = s.aptPhys off / 4 * 4 / 64) = some x) ∧ (x.bytes.length + 4 < 64)) ∧
    (∃ s m off v t, exec (.apertureWrite m off v) s = .next t ∧ (s.canIssue m = true) ∧
      (s.denied m (aptBus off) 1 = false) ∧ (s.holdsBack m = false) ∧ (s.blockOn 8 0x80000 = true) ∧
      (s.aptPhys off < s.hayBytes) ∧ (s.inCap (s.aptPhys off / 4 * 4) = false) ∧
      (s.flag F.SAF_WIN_STATUS_OPEN = false)) ∧
    (∃ s m v t, exec (.capCfgWrite m v) s = .next t ∧ (s.accepts m (R .HAY_CAP_CFG) = true) ∧
      (F.HAY_CAP_CFG_EN.get v = 1) ∧ (F.HAY_CAP_CFG_CLR.get v = 0) ∧
      (s.flag F.SOF_PH_W6_EXPRESS (F.HAY_CAP_CFG_FLOW.get v) = false)) ∧
    (∃ s m v t, exec (.capCfgWrite m v) s = .next t ∧ (s.accepts m (R .HAY_CAP_CFG) = true) ∧
      (F.HAY_CAP_CFG_EN.get v = 1) ∧ (s.flag F.SOF_PH_W6_EXPRESS (F.HAY_CAP_CFG_FLOW.get v) = true)) ∧
    (∃ s m v t, exec (.capClr m v) s = .next t ∧ (s.accepts m (R .HAY_CAP_CFG) = true) ∧
      (F.HAY_CAP_CFG_EN.get v = 0) ∧ (F.HAY_CAP_CFG_CLR.get v = 1) ∧ (s.flag F.HAY_CAP_CFG_EN = false)) ∧
    (∃ s t, exec (.capDrop) s = .next t ∧ (s.hayOn = true) ∧ (s.hay.cap ≠ [])) ∧
    (∃ s m v t, exec (.hayCfgWrite m v) s = .next t ∧ (s.accepts m (R .HAY_CFG) = true) ∧
      (s.flag F.HAY_CFG_ADMIT_EN = false) ∧ (s.dskRes = 0) ∧ (s.flag F.HAY_CAP_CFG_EN = false)) ∧
    (∃ s m v t, exec (.hayCfgWrite m v) s = .next t ∧ (s.accepts m (R .HAY_CFG) = true) ∧
      (s.flag F.HAY_CFG_ADMIT_EN = true)) :=
  ⟨⟨((upd_hay (onState.setFld F.HAY_STATUS_READY 1) fun x => { x with blocks := [0] }).modGrp 0 fun x =>
      { x with dsk := [0] }), ⟨0, .deskewRead 0, .ue⟩, 0, _, rfl, by decide +kernel⟩,
    ⟨(upd_hay (onState.setFld F.HAY_STATUS_READY 1) fun x => { x with acc := [⟨5, .flowWrite 0, []⟩] }), ⟨5,
      .flowWrite 0, .clean⟩, 0, ⟨5, .flowWrite 0, []⟩, _, rfl, by decide +kernel⟩,
    ⟨((upd_hay (onState.setFld F.HAY_STATUS_READY 1) fun x => { x with acc := [⟨0, .flowRead 0, []⟩] }).modFlow 0
      fun x => { x with hayPg := [0], hayIn := 64, hayRd := 1 }), ⟨0, .flowRead 0, .clean⟩, 0, ⟨0, .flowRead 0, []⟩,
      0, _, rfl, by decide +kernel⟩,
    ⟨(upd_hay (onState.setFld F.HAY_STATUS_READY 1) fun x => { x with acc := [⟨5, .flowWrite 0, []⟩] }), ⟨5,
      .flowWrite 0, .clean⟩, ⟨5, .flowWrite 0, []⟩, _, rfl, by decide +kernel⟩,
    ⟨((((onState.setFld F.HAY_STATUS_READY 1).setFld F.SAF_REACT_FO0 0 8).setFld F.SAF_REACT_FO1 0 8).modGrp 0 fun x
      => { x with dsk := [0] }), ⟨0, .deskewRead 0, .clean⟩, 0, _, rfl, by decide +kernel⟩,
    ⟨(upd_hay (onState.setFld F.HAY_STATUS_READY 1) fun x =>
      { x with merge := [⟨0, (List.range 64).map fun k => (k, some 1)⟩] }), 0, .clean, ⟨0,
      (List.range 64).map fun k => (k, some 1)⟩, _, rfl, by decide +kernel⟩,
    ⟨(upd_hay (onState.setFld F.HAY_STATUS_READY 1) fun x => { x with blocks := [0] }), 0, 1, _, rfl,
      by decide +kernel⟩,
    ⟨(upd_hay (onState.setFld F.HAY_STATUS_READY 1) fun x => { x with blocks := [0], scrub := 1023 }), 1023, _, rfl,
      by decide +kernel⟩,
    ⟨onState, .core 0, (F.HAY_RET_CMD_CMD.put 1 0), _, rfl, by decide +kernel⟩,
    ⟨(upd_hay onState fun x => { x with ret := List.replicate 8192 ⟨0, false⟩ }), .core 0,
      (F.HAY_RET_CMD_CMD.put 1 0), _, rfl, by decide +kernel⟩,
    ⟨(upd_hay onState fun x => { x with ret := [⟨0, false⟩] }), .core 0, (F.HAY_RET_CMD_CMD.put 2 0), _, rfl,
      by decide +kernel⟩,
    ⟨(upd_hay onState fun x => { x with ret := [⟨7, false⟩] }), .core 0, (F.HAY_RET_CMD_CMD.put 3 0), ⟨7, false⟩, _,
      rfl, by decide +kernel⟩,
    ⟨onState, .core 0, 0, .clean, _, rfl, by decide +kernel⟩,
    ⟨(upd_hay (onState.setFld F.HAY_STATUS_READY 1) fun x => { x with blocks := [0] }), .core 0, 0, _, rfl,
      by decide +kernel⟩,
    ⟨(((onState.setFld F.HAY_STATUS_READY 1).setFld F.HAY_CFG_CAP_SIZE 1).setFld F.HAY_APERTURE_PAGE_PAGE 507),
      .core 0, 0xC000000, 0, _, rfl, by decide +kernel⟩,
    ⟨(upd_hay (((onState.setFld F.HAY_STATUS_READY 1).setFld F.HAY_CFG_CAP_SIZE 1).setFld F.HAY_APERTURE_PAGE_PAGE
      507) fun x => { x with merge := [⟨0x7EF00000, []⟩] }), .core 0, 0xC000000, 0, ⟨0x7EF00000, []⟩, _, rfl,
      by decide +kernel⟩,
    ⟨(onState.setFld F.SAF_WIN_STATUS_OPEN 0), .core 0, 0, 0, _, rfl, by decide +kernel⟩,
    ⟨(upd_hay (onState.setFld F.HAY_STATUS_READY 1) fun x => { x with cap := [[]] }), .core 0,
      (F.HAY_CAP_CFG_EN.put 1 0), _, rfl, by decide +kernel⟩,
    ⟨(onState.setFld F.SOF_PH_W6_EXPRESS 1 0), .core 0, (F.HAY_CAP_CFG_EN.put 1 0), _, rfl, by decide +kernel⟩,
    ⟨(onState.setFld F.HAY_CAP_CFG_EN 0), .core 0, (F.HAY_CAP_CFG_CLR.put 1 0), _, rfl, by decide +kernel⟩,
    ⟨(upd_hay (onState.setFld F.HAY_STATUS_READY 1) fun x => { x with cap := [[1]] }), _, rfl, by decide +kernel⟩,
    ⟨((onState.setFld F.HAY_CFG_ADMIT_EN 0).setFld F.HAY_CAP_CFG_EN 0), .core 0, 0, _, rfl, by decide +kernel⟩,
    ⟨(onState.setFld F.HAY_CFG_ADMIT_EN 1), .core 0, 0, _, rfl, by decide +kernel⟩⟩

/-- What StableCommandsComplete asks for can be met. -/
theorem wit_StableCommandsComplete :
    (∃ s i t, exec (.refLost i) s = .next t ∧ (s.stbOn = true) ∧ (i < 15) ∧
      (s.flag F.STB_REF_STATUS_PRESENT i = true) ∧ (s.canBeLost i = true)) ∧
    (∃ s i t, exec (.refPresent i) s = .next t ∧ (s.stbOn = true) ∧ (i < 15) ∧ (s.canBePresent i = true) ∧
      (s.flag F.STB_REF_STATUS_PRESENT i = false) ∧ (s.inj 0x02 i = false) ∧ (s.inj 0x03 i = false)) ∧
    (∃ s p d i r t, exec (.esmcPdu p (some d)) s = .next t ∧ (s.stbOn = true) ∧ (s.portUp p = true) ∧ (i < 15) ∧
      (s.qlKey i = some p) ∧ (s.flag F.STB_CFG_QL_OPT = true) ∧ (ssmRank true d.ssm none = some r)) ∧
    (∃ s i k t, exec (.qlTimeout i) s = .next t ∧ (s.stbOn = true) ∧ (i < 15) ∧ (s.qlKey i = some k) ∧
      (((s.stb.lvl.get none k).all fun l => decide (l.arr + qlTimeout k ≤ s.us)) = true)) ∧
    (∃ s m i v t, exec (.qlSrcWrite m i v) s = .next t ∧ (s.accepts m (R .STB_REF_CFG i) = true)) ∧
    (∃ s i o t, exec (.qualWindow [(i, o)]) s = .next t ∧ (s.stbOn = true) ∧ (i < 15) ∧
      (s.flag F.STB_REF_STATUS_PRESENT i = true)) ∧
    (∃ s i base t, exec (.disq i base) s = .next t ∧ (s.stbOn = true) ∧ (i < 15) ∧
      (s.flag F.STB_REF_STATUS_DISQ i = false) ∧ (s.persist i ≤ (s.cand i).above)) ∧
    (∃ s i t, exec (.requalification i) s = .next t ∧ (s.stbOn = true) ∧ (i < 15) ∧
      (s.flag F.STB_REF_STATUS_DISQ i = true) ∧ (s.persist i ≤ (s.cand i).low)) ∧
    (∃ s i t, exec (.wtrExpiry i) s = .next t ∧ (s.stbOn = true) ∧ (i < 15) ∧
      (s.flag F.STB_REF_STATUS_WTR i = true) ∧ ((s.cand i).wtrEnd ≤ s.us)) ∧
    (∃ s w t, exec (.selectorTick) s = .next t ∧ (s.stbOn = true) ∧ (s.flag F.STB_STATUS_BUILDOUT = false) ∧
      (s.flag F.STB_STATUS_HOLDOFF = false) ∧ (s.forceLost = false) ∧ (s.stbSel = 15) ∧ (s.choose = w) ∧ (w < 15)) ∧
    (∃ s w t, exec (.selectorTick) s = .next t ∧ (s.stbOn = true) ∧ (s.flag F.STB_STATUS_BUILDOUT = false) ∧
      (s.flag F.STB_STATUS_HOLDOFF = false) ∧ (s.forceLost = false) ∧ (s.stbSel ≠ 15) ∧ (s.stbSel ≠ w) ∧
      (s.choose = w) ∧ (w < 15)) ∧
    (∃ s m i t, exec (.selManual m i) s = .next t ∧ (s.accepts m (R .STB_SEL_CMD) = true) ∧ (i < 15)) ∧
    (∃ s m i t, exec (.selForced m i) s = .next t ∧ (s.accepts m (R .STB_SEL_CMD) = true) ∧ (i < 15)) ∧
    (∃ s m i t, exec (.selClear m i) s = .next t ∧ (s.accepts m (R .STB_SEL_CMD) = true) ∧ (i < 15)) ∧
    (∃ s t, exec (.holdoffEnd) s = .next t ∧ (s.stbOn = true) ∧ (s.flag F.STB_STATUS_HOLDOFF = true) ∧
      (s.stb.holdEnd ≤ s.us)) ∧
    (∃ s ofs t, exec (.buildoutDone ofs) s = .next t ∧ (s.stbOn = true) ∧ (s.flag F.STB_STATUS_BUILDOUT = true)) ∧
    (∃ s t, exec (.enterLocked) s = .next t ∧ (s.stbOn = true) ∧ (s.stbSt = 1) ∧ (s.wordHeld = false) ∧
      (s.stbSel ≠ 15) ∧ (s.stb.stAt + 30000000 ≤ s.us)) ∧
    (∃ s t, exec (.enterAcquire) s = .next t ∧ (s.stbOn = true) ∧ (s.stbSt = 2)) ∧
    (∃ s m v t, exec (.stbMode m v) s = .next t ∧ (s.accepts m (R .STB_CFG) = true)) ∧
    (∃ s m v t, exec (.fwBeat m v) s = .next t ∧ (s.accepts m (R .STB_FW_BEAT) = true)) ∧
    (∃ s t, exec (.fwLost) s = .next t ∧ (s.stbOn = true) ∧ (s.stb.fwLost = false) ∧ (s.stb.beat + 100000 ≤ s.us)) ∧
    (∃ s t, exec (.hoBoundCheck) s = .next t ∧ (s.stbOn = true) ∧ (s.stbSt = 3) ∧
      (s.fld F.STB_HO_CFG_TE_LIMIT ≤ s.fld F.STB_HO_BOUND_BOUND)) ∧
    (∃ s t, exec (.frozenLim) s = .next t ∧ (s.stbOn = true) ∧ (s.stbSt = 3) ∧ (s.stb.fwLost = true) ∧
      (s.stb.lostAt + 60000000 * max 1 (s.fld F.STB_HO_CFG_FROZEN_LIM) ≤ s.us)) ∧
    (∃ s m v t, exec (.steerSrv m v) s = .next t ∧ (s.accepts m (R .STB_STEER_SRV_HI) = true)) ∧
    (∃ s m v t, exec (.steerMan m v) s = .next t ∧ (s.accepts m (R .STB_STEER_MAN_HI) = true)) ∧
    (∃ s w a b t, exec (.sample10min w a b) s = .next t ∧ (s.windowOver 600 w = true) ∧ (s.sampleOk = true) ∧
      (s.stb.clean10 = true)) ∧
    (∃ s w a b t, exec (.sample1s w a b) s = .next t ∧ (s.windowOver 1 w = true) ∧ (s.sampleOk = true) ∧
      (s.stb.clean1 = true)) ∧
    (∃ s t0 t, exec (.pruneDone) s = .next t ∧ (s.stbOn = true) ∧ (s.flag F.STB_STATUS_PRUNING = true) ∧
      (s.stb.onset = some t0)) ∧
    (∃ s p t, exec (.esmcTx p) s = .next t ∧ (s.stbOn = true) ∧ (p < 16) ∧ (bitOf (s.rd (R .STB_ESMC_TX)) p = true)) ∧
    (∃ s p t, exec (.eventPdu p) s = .next t ∧ (s.stbOn = true) ∧ (p < 16) ∧
      (bitOf (s.rd (R .STB_ESMC_TX)) p = true) ∧ (s.stb.sent.get none p = none)) :=
  ⟨⟨(onState.setFld F.STB_REF_STATUS_PRESENT 1 0), 0, _, rfl, by decide +kernel⟩,
    ⟨(onState.setFld F.STB_REF_STATUS_PRESENT 0 10), 10, _, rfl, by decide +kernel⟩,
    ⟨(((((onState.setFld F.SOF_PORT_CFG_EN 1 0).setFld F.SOF_PORT_STATUS_UP 1 0).setFld F.STB_REF_CFG_QL_SRC 1
      0).setFld F.STB_REF_CFG_PORT 0 0).setFld F.STB_CFG_QL_OPT 1), 0, ⟨false, 1, none⟩, 0,
      ((ssmRank true 1 none).getD 0), _, rfl, by decide +kernel⟩,
    ⟨((onState.setFld F.STB_REF_CFG_QL_SRC 1 0).setFld F.STB_REF_CFG_PORT 0 0), 0, 0, _, rfl, by decide +kernel⟩,
    ⟨onState, .core 0, 0, 0, _, rfl, by decide +kernel⟩,
    ⟨(onState.setFld F.STB_REF_STATUS_PRESENT 1 0), 0, 0, _, rfl, by decide +kernel⟩,
    ⟨((onState.setFld F.STB_REF_STATUS_DISQ 0 0).modCand 0 fun x => { x with above := 300 }), 0, 0, _, rfl,
      by decide +kernel⟩,
    ⟨((onState.setFld F.STB_REF_STATUS_DISQ 1 0).modCand 0 fun x => { x with low := 300 }), 0, _, rfl,
      by decide +kernel⟩,
    ⟨(onState.setFld F.STB_REF_STATUS_WTR 1 0), 0, _, rfl, by decide +kernel⟩,
    ⟨((((((onState.setFld F.STB_SEL_CMD_CMD 1).setFld F.STB_SEL_CMD_IDX 3).setFld F.STB_REF_STATUS_AVAIL 1 3).setFld
      F.STB_STATUS_SEL 15).setFld F.STB_STATUS_BUILDOUT 0).setFld F.STB_STATUS_HOLDOFF 0), 3, _, rfl,
      by decide +kernel⟩,
    ⟨((((((onState.setFld F.STB_SEL_CMD_CMD 1).setFld F.STB_SEL_CMD_IDX 3).setFld F.STB_REF_STATUS_AVAIL 1 3).setFld
      F.STB_STATUS_SEL 2).setFld F.STB_STATUS_BUILDOUT 0).setFld F.STB_STATUS_HOLDOFF 0), 3, _, rfl,
      by decide +kernel⟩,
    ⟨onState, .core 0, 0, _, rfl, by decide +kernel⟩,
    ⟨onState, .core 0, 0, _, rfl, by decide +kernel⟩,
    ⟨onState, .core 0, 0, _, rfl, by decide +kernel⟩,
    ⟨(onState.setFld F.STB_STATUS_HOLDOFF 1), _, rfl, by decide +kernel⟩,
    ⟨(onState.setFld F.STB_STATUS_BUILDOUT 1), 0, _, rfl, by decide +kernel⟩,
    ⟨({ ((onState.setFld F.STB_STATUS_STATE 1).setFld F.STB_STATUS_SEL 2) with us := 1000000000000 } : State), _,
      rfl, by decide +kernel⟩,
    ⟨(onState.setFld F.STB_STATUS_STATE 2), _, rfl, by decide +kernel⟩,
    ⟨onState, .core 0, 0, _, rfl, by decide +kernel⟩,
    ⟨onState, .core 0, 0, _, rfl, by decide +kernel⟩,
    ⟨(upd_stb ({ onState with us := 1000000000000 } : State) fun x => { x with fwLost := false }), _, rfl,
      by decide +kernel⟩,
    ⟨(((onState.setFld F.STB_STATUS_STATE 3).setFld F.STB_HO_CFG_TE_LIMIT 1).wr (R .STB_HO_BOUND) 0xFFFFFFFF), _,
      rfl, by decide +kernel⟩,
    ⟨(upd_stb ({ (onState.setFld F.STB_STATUS_STATE 3) with us := 1000000000000 } : State) fun x =>
      { x with fwLost := true }), _, rfl, by decide +kernel⟩,
    ⟨onState, .core 0, 0, _, rfl, by decide +kernel⟩,
    ⟨onState, .core 0, 0, _, rfl, by decide +kernel⟩,
    ⟨(upd_stb
      ({ ((onState.setFld F.STB_STATUS_STATE 2).setFld F.STB_STATUS_SEL 2) with pmkTime := 600 * 65536000000000 } :
      State) fun x => { x with clean10 := true }), 0, 0, 0, _, rfl, by decide +kernel⟩,
    ⟨(upd_stb ({ ((onState.setFld F.STB_STATUS_STATE 2).setFld F.STB_STATUS_SEL 2) with pmkTime := 65536000000000 }
      : State) fun x => { x with clean1 := true }), 0, 0, 0, _, rfl, by decide +kernel⟩,
    ⟨(upd_stb (onState.setFld F.STB_STATUS_PRUNING 1) fun x => { x with onset := some 0 }), 0, _, rfl,
      by decide +kernel⟩,
    ⟨(onState.wr (R .STB_ESMC_TX) 1), 0, _, rfl, by decide +kernel⟩,
    ⟨(onState.wr (R .STB_ESMC_TX) 1), 0, _, rfl, by decide +kernel⟩⟩

/-- What PostmarkCommandsComplete asks for can be met. -/
theorem wit_PostmarkCommandsComplete :
    (∃ s m t, exec (.pmkStep m) s = .next t ∧ (s.accepts m (R .PMK_CTRL) = true)) ∧
    (∃ s t, exec (.stepped) s = .next t ∧ (s.stbOn = true) ∧ (s.flag F.PMK_STATUS_STEP_PEND = true)) ∧
    (∃ s m t, exec (.stepCancel m) s = .next t ∧ (s.accepts m (R .PMK_CTRL) = true)) ∧
    (∃ s m v t, exec (.adj m v) s = .next t ∧ (s.accepts m (R .PMK_ADJ) = true) ∧
      ((signed 32 v.toNat).natAbs ≤ 1000000)) ∧
    (∃ s m v t, exec (.adj m v) s = .next t ∧ (s.accepts m (R .PMK_ADJ) = true) ∧
      (1000000 < (signed 32 v.toNat).natAbs)) ∧
    (∃ s t, exec (.adjDone) s = .next t ∧ (s.stbOn = true) ∧ (s.flag F.PMK_STATUS_ADJ_BUSY = true)) ∧
    (∃ s err t, exec (.autoStep err) s = .next t ∧ (s.stbOn = true) ∧ (s.flag F.PMK_CFG_AUTO_STEP = true) ∧
      (s.stbSt = 1) ∧ (s.stbSel = 10) ∧ (s.flag F.PMK_STATUS_STEP_PEND = false) ∧
      (100 * 65536 * max 1 (s.fld F.PMK_CFG_STEP_TH) < err.natAbs)) ∧
    (∃ s t, exec (.secMis) s = .next t ∧ (s.stbOn = true) ∧ (2 ≤ s.stbSt) ∧ (s.stbSt ≤ 4) ∧
      (3 ≤ s.pmk.gnssMis ∨ (s.flag F.PMK_TCH_STATUS_IN_SYNC = true ∧ 3 ≤ s.pmk.tchMis))) ∧
    (∃ s d t, exec (.timeFault d) s = .next t ∧ (s.stbOn = true) ∧ (s.flag F.PMK_STATUS_TIME_FAULT = false) ∧
      (s.pmk.diff + d ≠ 0)) ∧
    (∃ s p n l t, exec (.ptpRx p n l) s = .next t ∧ (s.stbOn = true) ∧ (p < 16) ∧ (s.domOn 1 = true) ∧
      (s.portUp p = true) ∧ (s.flag F.PMK_PTP_CFG_PTP_EN p = true) ∧ ((s.pmk.ptp.drop n).length < 256)) ∧
    (∃ s p n l t, exec (.ptpRx p n l) s = .next t ∧ (s.stbOn = true) ∧ (p < 16) ∧ (s.domOn 1 = true) ∧
      (s.portUp p = true) ∧ (s.flag F.PMK_PTP_CFG_PTP_EN p = true) ∧ (256 ≤ (s.pmk.ptp.drop n).length)) ∧
    (∃ s p l t, exec (.oneStepSync p l) s = .next t ∧ (s.stbOn = true) ∧ (s.domOn 1 = true) ∧ (p < 16) ∧
      (s.portUp p = true) ∧ (s.timeOk = false)) ∧
    (∃ s p l t, exec (.oneStepSync p l) s = .next t ∧ (s.stbOn = true) ∧ (s.domOn 1 = true) ∧ (p < 16) ∧
      (s.portUp p = true) ∧ (s.timeOk = true)) ∧
    (∃ s t, exec (.ppsOut) s = .next t ∧ (s.stbOn = true) ∧ (s.ppsSq = false) ∧ (s.ppsEval.ppsSq = false)) ∧
    (∃ s t, exec (.todMessage) s = .next t ∧ (s.stbOn = true) ∧ (s.flag F.PMK_TOD_CFG_EN = true)) ∧
    (∃ s utc t, exec (.zda true utc) s = .next t ∧ (s.stbOn = true)) ∧
    (∃ s utc t, exec (.zda false utc) s = .next t ∧ (s.stbOn = true)) ∧
    (∃ s c t, exec (.timeMessage c (s.fld F.LFM_CA_STATUS_SRC c)) s = .next t ∧ (s.stbOn = true) ∧ (c < s.nCar) ∧
      (s.domOn (4 + c) = true) ∧ (s.fld F.CAX_RX_STATUS_RXSTATE c = 2) ∧ (s.fld F.LFM_CA_STATUS_SRC c ≠ 15) ∧
      (s.msgIn c = none)) ∧
    (∃ s c x t, exec (.timeMessage c (s.fld F.LFM_CA_STATUS_SRC c)) s = .next t ∧ (s.stbOn = true) ∧ (c < s.nCar) ∧
      (s.domOn (4 + c) = true) ∧ (s.fld F.CAX_RX_STATUS_RXSTATE c = 2) ∧ (s.fld F.LFM_CA_STATUS_SRC c ≠ 15) ∧
      (s.msgIn c = some x) ∧ (s.flag F.PMK_TT_CFG_EN c = false)) ∧
    (∃ s t, exec (.ttLatch) s = .next t ∧ (s.stbOn = true) ∧ (0 < s.nCar) ∧ (s.flag F.PMK_TT_CFG_EN 0 = true) ∧
      ((s.pmkCar 0).ex.filter (fun e => e.1 + 1 = s.sec) = [])) ∧
    (∃ s l t, exec (.ttLatch) s = .next t ∧ (s.stbOn = true) ∧ (0 < s.nCar) ∧
      ((s.pmkCar 0).ex.filter (fun e => e.1 + 1 = s.sec) = l) ∧ (l ≠ [])) ∧
    (∃ s t, exec (.tchFrameTx) s = .next t ∧ (s.stbOn = true) ∧ (s.flag F.PMK_TCH_CFG_OUT_EN = true)) ∧
    (∃ s w t, exec (.tchFrameRx (some w)) s = .next t ∧ (s.stbOn = true) ∧
      (crc16 112 (BitVec.toNat w / 65536) = BitVec.toNat w % 65536)) ∧
    (∃ s w t, exec (.tchFrameRx (some w)) s = .next t ∧ (s.stbOn = true) ∧
      (crc16 112 (BitVec.toNat w / 65536) ≠ BitVec.toNat w % 65536)) ∧
    (∃ s t, exec (.timePostcard) s = .next t ∧ (s.stbOn = true) ∧ (s.flag F.PMK_PC_CFG_EN = true)) ∧
    (∃ s t, exec (.ppsWidthEnd) s = .next t ∧ (s.stbOn = true) ∧ (s.pmk.ppsEnd ≠ 0) ∧ (s.pmk.ppsEnd ≤ s.us)) :=
  ⟨⟨onState, .core 0, _, rfl, by decide +kernel⟩,
    ⟨(onState.setFld F.PMK_STATUS_STEP_PEND 1), _, rfl, by decide +kernel⟩,
    ⟨onState, .core 0, _, rfl, by decide +kernel⟩,
    ⟨onState, .core 0, 0, _, rfl, by decide +kernel⟩,
    ⟨onState, .core 0, 0x7FFFFFFF, _, rfl, by decide +kernel⟩,
    ⟨(onState.setFld F.PMK_STATUS_ADJ_BUSY 1), _, rfl, by decide +kernel⟩,
    ⟨((((onState.setFld F.STB_STATUS_STATE 1).setFld F.STB_STATUS_SEL 10).setFld F.PMK_CFG_AUTO_STEP 1).setFld
      F.PMK_STATUS_STEP_PEND 0), 10000000000, _, rfl, by decide +kernel⟩,
    ⟨(upd_pmk (onState.setFld F.STB_STATUS_STATE 2) fun x => { x with gnssMis := 3 }), _, rfl, by decide +kernel⟩,
    ⟨(onState.setFld F.PMK_STATUS_TIME_FAULT 0), 1, _, rfl, by decide +kernel⟩,
    ⟨(((onState.setFld F.SOF_PORT_CFG_EN 1 0).setFld F.SOF_PORT_STATUS_UP 1 0).setFld F.PMK_PTP_CFG_PTP_EN 1 0), 0,
      0, [], _, rfl, by decide +kernel⟩,
    ⟨((upd_pmk ((onState.setFld F.SOF_PORT_CFG_EN 1 0).setFld F.SOF_PORT_STATUS_UP 1 0) fun x =>
      { x with ptp := List.replicate 256 ⟨0, [], 0⟩ }).setFld F.PMK_PTP_CFG_PTP_EN 1 0), 0, 0, [], _, rfl,
      by decide +kernel⟩,
    ⟨((onState.setFld F.SOF_PORT_CFG_EN 1 0).setFld F.SOF_PORT_STATUS_UP 1 0), 0, [], _, rfl, by decide +kernel⟩,
    ⟨((((onState.setFld F.SOF_PORT_CFG_EN 1 0).setFld F.SOF_PORT_STATUS_UP 1 0).setFld F.PMK_STATUS_TIME_VALID
      1).setFld F.PMK_STATUS_TIME_FAULT 0), 0, [], _, rfl, by decide +kernel⟩,
    ⟨(((onState.setFld F.PMK_STATUS_TIME_VALID 1).setFld F.PMK_PPS_CFG_EN 1).setFld F.STB_STATUS_STATE 2), _, rfl,
      by decide +kernel⟩,
    ⟨(onState.setFld F.PMK_TOD_CFG_EN 1), _, rfl, by decide +kernel⟩,
    ⟨onState, 0, _, rfl, by decide +kernel⟩,
    ⟨onState, 0, _, rfl, by decide +kernel⟩,
    ⟨((onState.setFld F.CAX_RX_STATUS_RXSTATE 2 0).setFld F.LFM_CA_STATUS_SRC 0 0), 0, _, rfl, by decide +kernel⟩,
    ⟨(((onState.setFld F.CAX_RX_STATUS_RXSTATE 2 0).setFld F.PMK_TT_CFG_EN 0 0).setFld F.LFM_CA_STATUS_SRC 0 0
      |>.modCar 0 fun x =>
      { x with ttm := ((List.range 254).map fun k => (k, 0, 0)) ++ [(254, 15, 187), (255, 109, 84)] }), 0, ⟨false,
      false, false, 0, 0, 0, 0, 0, 0, 0, 0, false, false⟩, _, rfl, by decide +kernel⟩,
    ⟨(onState.setFld F.PMK_TT_CFG_EN 1 0), _, rfl, by decide +kernel⟩,
    ⟨(({ onState with pmkTime := oneSec } : State).modPmkCar 0 fun x => { x with ex := [(0, 0, 0)] }), [(0, 0, 0)],
      _, rfl, by decide +kernel⟩,
    ⟨(onState.setFld F.PMK_TCH_CFG_OUT_EN 1), _, rfl, by decide +kernel⟩,
    ⟨onState, (BitVec.ofNat 128 (crc16 112 0)), _, rfl, by decide +kernel⟩,
    ⟨onState, 0, _, rfl, by decide +kernel⟩,
    ⟨(({ (upd_pmk onState fun x => { x with ppsEnd := 1 }) with us := 1 } : State).setFld F.PMK_PC_CFG_EN 1), _,
      rfl, by decide +kernel⟩,
    ⟨({ (upd_pmk onState fun x => { x with ppsEnd := 1 }) with us := 1 } : State), _, rfl, by decide +kernel⟩⟩

/-- What MonitorCommandsComplete asks for can be met. -/
theorem wit_MonitorCommandsComplete :
    (∃ s p x y t, exec (.slotDone p x y) s = .next t ∧ (s.pairRuns p = true) ∧
      (s.flag F.MON_PAIR_CFG_CONT p = false) ∧ (s.avgDone p x y = true)) ∧
    (∃ s p t, exec (.monTrig true) s = .next t ∧ (s.monOn = true) ∧ (s.compat = false) ∧
      (s.fld F.MON_CFG_TRIG_EDGE = 0) ∧ (p < 2) ∧ (s.pairOn p = true) ∧ (s.flag F.MON_PAIR_CFG_CONT p = false) ∧
      (s.fld F.MON_CFG_TRIG_MASK / 2 ^ p % 2 = 1) ∧ ((s.pair p).deciding = false) ∧ ((s.pair p).trig = none) ∧
      ((s.pair p).redo = false)) ∧
    (∃ s p x y g t, exec (.trigDone p x y) s = .next t ∧ ((s.pair p).trig = some g) ∧ (s.pairOn p = true) ∧
      (s.pairSettled p = true) ∧ (s.avgDone p x y = true)) ∧
    (∃ s m t, exec (.softTrig m) s = .next t ∧ (s.accepts m (R .MON_CTRL) = true) ∧ (s.compat = true) ∧
      (s.flag F.MON_COMPAT_CFG_FREE = false) ∧ (s.monSnap = none)) ∧
    (∃ s t, exec (.compatTimer) s = .next t ∧ (s.monOn = true) ∧ (s.compat = true) ∧ (s.rdN (R .MON_TIMER) ≠ 0) ∧
      (s.flag F.MON_COMPAT_CFG_FREE = false) ∧ (s.monSnap.isSome = true) ∧
      (s.monAt + 10 * s.rdN (R .MON_TIMER) ≤ s.us)) ∧
    (∃ s l g t, exec (.snapDone l) s = .next t ∧ (s.monOn = true) ∧ (s.compat = true) ∧
      (s.fld F.MON_STATUS_SETTLING = 0) ∧ (s.monSnap = some g)) ∧
    (∃ s n t, exec (.settled n) s = .next t ∧ (s.monOn = true) ∧ (n < 4) ∧
      (s.compat = true ∨ s.pairOn (n / 2) = true) ∧ (1000 * (s.pair (n / 2)).since + s.pairSettle (n / 2) ≤ 1000 *
      s.us + 999)) ∧
    (∃ s p ms x y t, exec (.chkWindow p ms x y) s = .next t ∧ (s.pairOn p = true) ∧ ((s.pair p).deciding = false) ∧
      (ms + 1 = s.msNow) ∧ ((s.pair p).since + chkSpan ≤ s.us) ∧
      (((x + s.monOffset (2 * p)) - (y + s.monOffset (2 * p + 1))).natAbs ≤ s.chkTol)) ∧
    (∃ s p ms x y t, exec (.chkWindow p ms x y) s = .next t ∧ (s.pairOn p = true) ∧ ((s.pair p).deciding = false) ∧
      (ms + 1 = s.msNow) ∧ ((s.pair p).since + chkSpan ≤ s.us) ∧
      (s.chkTol < ((x + s.monOffset (2 * p)) - (y + s.monOffset (2 * p + 1))).natAbs)) ∧
    (∃ s p x y t, exec (.monFault p x y) s = .next t ∧ (s.pairOn p = true) ∧ ((s.pair p).deciding = true) ∧
      ((s.pair p).since + chkSpan ≤ s.us)) ∧
    (∃ s m t, exec (.faultClr m) s = .next t ∧ (s.accepts m (R .MON_CTRL) = true)) ∧
    (∃ s b n l g h t, exec (.binBlock b g h) s = .next t ∧ (s.monOn = true) ∧ (b < 8) ∧
      (n = 2 ^ max 4 (min 16 (s.fld F.MON_BIN_CFG_LOG2N b))) ∧ (l = s.bins.get [] b) ∧ (n ≤ l.length) ∧
      (l.head?.map Prod.snd = some (g, h))) ∧
    (∃ s p x y t, exec (.pairOutput p x y) s = .next t ∧ (s.pairRuns p = true) ∧
      (s.flag F.MON_PAIR_CFG_CONT p = true)) :=
  ⟨⟨(({ ((onState.setFld F.MON_PAIR_CFG_EN 1 0).setFld F.MON_PAIR_STATUS_SETTLED 1 0) with us := 1000000000000 } :
      State).setFld F.MON_PAIR_CFG_CONT 0 0), 0, [⟨0, false⟩], [⟨0, false⟩], _, rfl, by decide +kernel⟩,
    ⟨((((((onState.setFld F.MON_CFG_TRIG_EDGE 0).setFld F.MON_PAIR_CFG_CONT 0 0).modPair 0 (fun x =>
      { x with deciding := false })).modPair 0 (fun x => { x with trig := none })).modPair 0 (fun x =>
      { x with redo := false })).setFld F.MON_CFG_TRIG_MASK 1 |>.setFld F.MON_PAIR_CFG_EN 1 0), 0, _, rfl,
      by decide +kernel⟩,
    ⟨(({ ((onState.setFld F.MON_PAIR_CFG_EN 1 0).setFld F.MON_PAIR_STATUS_SETTLED 1 0) with us := 1000000000000 } :
      State).modPair 0 (fun x => { x with trig := some ((0, 0)) })), 0, [⟨0, false⟩], [⟨0, false⟩], (0, 0), _, rfl,
      by decide +kernel⟩,
    ⟨({ ((onState.setFld F.MON_CFG_COMPAT 1).setFld F.MON_COMPAT_CFG_FREE 0) with monSnap := none } : State),
      .core 0, _, rfl, by decide +kernel⟩,
    ⟨((({ ({ ((onState.setFld F.MON_CFG_COMPAT 1).wr (R .MON_TIMER) 5) with monSnap := some (0,
      0) } : State) with us := 1000000000000 } : State).wrN (R .MON_TIMER) 1).setFld F.MON_COMPAT_CFG_FREE 0), _,
      rfl, by decide +kernel⟩,
    ⟨({ ((onState.setFld F.MON_CFG_COMPAT 1).setFld F.MON_STATUS_SETTLING 0) with monSnap := some ((0, 0)) } :
      State), [], (0, 0), _, rfl, by decide +kernel⟩,
    ⟨({ (onState.setFld F.MON_PAIR_CFG_EN 1 0) with us := 1000000000000 } : State), 0, _, rfl, by decide +kernel⟩,
    ⟨(({ ({ (onState.setFld F.MON_PAIR_CFG_EN 1 0) with us := 1000000000000 } : State) with pmkTime := 65536000000 }
      : State).modPair 0 (fun x => { x with deciding := false })), 0, 0, 0, 0, _, rfl, by decide +kernel⟩,
    ⟨(({ ({ (onState.setFld F.MON_PAIR_CFG_EN 1 0) with us := 1000000000000 } : State) with pmkTime := 65536000000 }
      : State).modPair 0 (fun x => { x with deciding := false })), 0, 0, 30000, 0, _, rfl, by decide +kernel⟩,
    ⟨((({ (onState.setFld F.MON_PAIR_CFG_EN 1 0) with us := 1000000000000 } : State).modPair 0 (fun x =>
      { x with deciding := true })).modPair 0 fun x => { x with deciding := true }), 0, 0, 0, _, rfl,
      by decide +kernel⟩,
    ⟨onState, .core 0, _, rfl, by decide +kernel⟩,
    ⟨((((((onState.setFld F.MON_PAIR_CFG_EN 1 0).setFld F.MON_PAIR_CFG_CONT 1 0).setFld F.MON_PAIR_STATUS_SETTLED 1
      0).setFld F.MON_BIN_CFG_CH 0 0).setFld F.MON_BIN_CFG_LOG2N 4 0) |> fun s =>
      { s with bins := NTab.set [] s.bins 0 (List.replicate 16 0) }), 0, 16, (List.replicate 16 0), 0, 0, _, rfl,
      by decide +kernel⟩,
    ⟨(((onState.setFld F.MON_PAIR_CFG_EN 1 0).setFld F.MON_PAIR_STATUS_SETTLED 1 0).setFld F.MON_PAIR_CFG_CONT 1 0),
      0, ⟨0, false⟩, ⟨0, false⟩, _, rfl, by decide +kernel⟩⟩

/-- What PostcardCommandsComplete asks for can be met. -/
theorem wit_PostcardCommandsComplete :
    (∃ s m addr v n t, exec (.monCfgWrite m addr v) s = .next t ∧
      ((regAt addr).filter monPage = some (R .MON_CH_CFG n)) ∧ (s.accepts m (R .MON_CH_CFG n) = true) ∧ (n < 4)) ∧
    (∃ s c p k t, exec (.postcardTxStart c) s = .next t ∧ (s.pccSends c = true) ∧ ((s.pccT c).active = none) ∧
      ((s.pccT c).tone + s.txBits c 8 ≤ s.us) ∧ (s.pccPick c = some (p, k))) ∧
    (∃ s c p t, exec (.txDone c) s = .next t ∧ (s.pccOn = true) ∧ ((s.pccT c).active = some p) ∧
      ((s.pccT c).start + s.txBits c (96 + 32 * p.len) ≤ s.us) ∧ (0 < (s.pccT c).left)) ∧
    (∃ s c p t, exec (.txDone c) s = .next t ∧ (s.pccOn = true) ∧ ((s.pccT c).active = some p) ∧
      ((s.pccT c).start + s.txBits c (96 + 32 * p.len) ≤ s.us) ∧ ((s.pccT c).left = 0)) ∧
    (∃ s m c v t, exec (.txCmd m c v) s = .next t ∧ (s.accepts m (R .PCC_TX_CMD c) = true) ∧
      ((s.pccT c).queue.length < 4) ∧ (F.PCC_TX_CMD_TYPE.get v = 6) ∧ (F.PCC_TX_CMD_LEN.get v ≤ 16)) ∧
    (∃ s m c v t, exec (.txCmd m c v) s = .next t ∧ (s.accepts m (R .PCC_TX_CMD c) = true) ∧
      (4 ≤ (s.pccT c).queue.length)) ∧
    (∃ s c p l t, exec (.txExpired c) s = .next t ∧ (s.pccOn = true) ∧ ((s.pccT c).queue = p :: l) ∧
      (p.since + 100000 * max 1 (s.fld F.PCC_TX_AUTO_TX_TTL c) ≤ s.us)) ∧
    (∃ s c t, exec (.identTimer c) s = .next t ∧ (c < s.nCar) ∧ (s.domOn 3 = true) ∧ (s.pccAuto c 0 = true) ∧
      ((s.pccT c).timer.get 0 0 + 1000000 * max 1 (s.fld F.PCC_TX_AUTO_ID_PERIOD c) ≤ s.us)) ∧
    (∃ s c t, exec (.qlTimer c) s = .next t ∧ (c < s.nCar) ∧ (s.domOn 3 = true) ∧ (s.pccAuto c 1 = true) ∧
      ((s.pccT c).timer.get 0 1 + 1000000 * max 1 (s.fld F.PCC_TX_AUTO_QL_PERIOD c) ≤ s.us)) ∧
    (∃ s c t, exec (.defectTimer c) s = .next t ∧ (c < s.nCar) ∧ (s.domOn 3 = true) ∧ (s.pccAuto c 2 = true) ∧
      (s.fld F.LFM_CA_STATUS_RDI_MAP_TX c ≠ 0 ∨ s.defectBits c ≠ 0) ∧
      ((s.pccT c).timer.get 0 2 + 1000000 * 1 ≤ s.us)) ∧
    (∃ s c t, exec (.srTimer c) s = .next t ∧ (c < s.nCar) ∧ (s.domOn 3 = true) ∧ (s.pccAuto c 5 = true) ∧
      (s.fld F.LFM_CA_STATUS_SRC c = 15) ∧ ((s.pccT c).timer.get 0 5 + 1000000 * 1 ≤ s.us)) ∧
    (∃ s k lvl t, exec (.preambleDetection k lvl) s = .next t ∧ (s.pccOn = true) ∧ (k < 8) ∧
      (s.fld F.PCC_SLOT_STATUS_STATE k = 1) ∧ (signed 16 (s.rdN (R .PCC_DET_LVL k)) ≤ lvl)) ∧
    (∃ s k t, exec (.falseDet k) s = .next t ∧ (s.pccOn = true) ∧ (k < 8) ∧ (s.fld F.PCC_SLOT_STATUS_STATE k = 2) ∧
      ((s.pccR k).armAt + 64000 / (s.fld F.PCC_SLOT_CFG_RATE k + 1) ≤ s.us)) ∧
    (∃ s k lvl w t, exec (.syncMatch k lvl w) s = .next t ∧ (s.pccOn = true) ∧ (k < 8) ∧ (syncErrs w ≤ 3) ∧
      (s.fld F.PCC_SLOT_STATUS_STATE k = 2)) ∧
    (∃ s k hdr data crc t, exec (.postcardEnd k hdr data crc) s = .next t ∧ (s.pccOn = true) ∧ (k < 8) ∧
      (s.fld F.PCC_SLOT_STATUS_STATE k = 3) ∧ (hdr / 256 % 32 ≤ 16) ∧
      (cardCrc hdr ((List.range (hdr / 256 % 32)).map fun i => data.getD i 0) ≠ crc)) ∧
    (∃ s k hdr data crc t, exec (.postcardEnd k hdr data crc) s = .next t ∧ (s.pccOn = true) ∧ (k < 8) ∧
      (s.fld F.PCC_SLOT_STATUS_STATE k = 3) ∧ (16 < hdr / 256 % 32)) ∧
    (∃ s k hdr data d t, exec (.postcardEnd k hdr data (cardCrc hdr d)) s = .next t ∧ (s.pccOn = true) ∧ (k < 8) ∧
      (s.fld F.PCC_SLOT_STATUS_STATE k = 3) ∧ (hdr < 65536) ∧ (hdr / 8192 = 6) ∧ (hdr / 256 % 32 ≤ 16) ∧
      ((s.pccR k).anySeq = true) ∧ (d = ((List.range (hdr / 256 % 32)).map fun i => data.getD i 0))) ∧
    (∃ s k t, exec (.boundTimeout k) s = .next t ∧ (s.pccOn = true) ∧ (k < 8) ∧
      (s.flag F.PCC_SLOT_STATUS_BOUND k = true) ∧ ((s.pccR k).bindAt + 35000000 ≤ s.us)) ∧
    (∃ s k t, exec (.seqWindowReset k) s = .next t ∧ (s.pccOn = true) ∧ (k < 8) ∧
      ((s.pccR k).okAt + 30000000 ≤ s.us)) ∧
    (∃ s m v t, exec (.rxPop m v) s = .next t ∧ (s.accepts m (R .PCC_RX_POP) = true) ∧ (bitOf v 0 = true)) ∧
    (∃ s m v t, exec (.pccCfgWrite m v) s = .next t ∧ (s.accepts m (R .PCC_CFG) = true) ∧ (s.slotsMany v = true)) ∧
    (∃ s m v t, exec (.pccCfgWrite m v) s = .next t ∧ (s.accepts m (R .PCC_CFG) = true) ∧ (s.slotsMany v = false)) :=
  ⟨⟨onState, .core 0, (R .MON_CH_CFG 1).addr, 0, 1, _, rfl, by decide +kernel⟩,
    ⟨(({ (((onState.setFld F.PCC_TX_CFG_EN 1 0).setFld F.CAX_TX_STATUS_TXSTATE 4 0).modPccT 0 (fun x => { x with
      queue := [⟨4, 1, [], 0, 0⟩] })) with us := 1000000000000 } : State).modPccT 0 (fun x =>
      { x with active := none })), 0, ⟨4, 1, [], 0, 0⟩, ⟨[], [], [], none, 0, 0, 0, []⟩, _, rfl, by decide +kernel⟩,
    ⟨((({ onState with us := 1000000000000 } : State).modPccT 0 (fun x =>
      { x with active := some (⟨4, 1, [], 0, 0⟩) })).modPccT 0 fun x => { x with left := 1 }), 0, ⟨4, 1, [], 0, 0⟩,
      _, rfl, by decide +kernel⟩,
    ⟨((({ onState with us := 1000000000000 } : State).modPccT 0 (fun x =>
      { x with active := some (⟨4, 1, [], 0, 0⟩) })).modPccT 0 (fun x => { x with left := 0 })), 0, ⟨4, 1, [], 0,
      0⟩, _, rfl, by decide +kernel⟩,
    ⟨onState, .core 0, 0, (F.PCC_TX_CMD_TYPE.put 6 0), _, rfl, by decide +kernel⟩,
    ⟨(onState.modPccT 0 (fun x => { x with queue := List.replicate 4 ⟨4, 1, [], 0, 0⟩ })), .core 0, 0, 0, _, rfl,
      by decide +kernel⟩,
    ⟨(({ onState with us := 1000000000000 } : State).modPccT 0 (fun x =>
      { x with queue := (⟨4, 1, [], 0, 0⟩) :: ([]) })), 0, ⟨4, 1, [], 0, 0⟩, [], _, rfl, by decide +kernel⟩,
    ⟨({ (onState.setFld F.PCC_TX_AUTO_ID_EN 1 0) with us := 1000000000000 } : State), 0, _, rfl, by decide +kernel⟩,
    ⟨({ (onState.setFld F.PCC_TX_AUTO_QL_EN 1 0) with us := 1000000000000 } : State), 0, _, rfl, by decide +kernel⟩,
    ⟨({ (onState.setFld F.PCC_TX_AUTO_DEF_EN 1 0) with us := 1000000000000 } : State), 0, _, rfl, by decide +kernel⟩,
    ⟨(({ (onState.setFld F.PCC_TX_AUTO_SR_EN 1 0) with us := 1000000000000 } : State).setFld F.LFM_CA_STATUS_SRC 15
      0), 0, _, rfl, by decide +kernel⟩,
    ⟨(onState.setFld F.PCC_SLOT_STATUS_STATE 1 0), 0, 0, _, rfl, by decide +kernel⟩,
    ⟨(({ onState with us := 1000000000000 } : State).setFld F.PCC_SLOT_STATUS_STATE 2 0), 0, _, rfl,
      by decide +kernel⟩,
    ⟨(onState.setFld F.PCC_SLOT_STATUS_STATE 2 0), 0, 0, 0x3D5BE609, _, rfl, by decide +kernel⟩,
    ⟨(onState.setFld F.PCC_SLOT_STATUS_STATE 3 0), 0, 0, [], 1, _, rfl, by decide +kernel⟩,
    ⟨(onState.setFld F.PCC_SLOT_STATUS_STATE 3 0), 0, 0x1F00, [], 0, _, rfl, by decide +kernel⟩,
    ⟨((onState.setFld F.PCC_SLOT_STATUS_STATE 3 0).modPccR 0 fun x => { x with anySeq := true }), 0, 0xC000, [], [],
      _, rfl, by decide +kernel⟩,
    ⟨(({ onState with us := 1000000000000 } : State).setFld F.PCC_SLOT_STATUS_BOUND 1 0), 0, _, rfl,
      by decide +kernel⟩,
    ⟨({ onState with us := 1000000000000 } : State), 0, _, rfl, by decide +kernel⟩,
    ⟨onState, .core 0, 1, _, rfl, by decide +kernel⟩,
    ⟨((onState.setFld F.PCC_SLOT_CFG_EN 1 0).setFld F.PCC_SLOT_CFG_EN 1 1), .core 0,
      (F.PCC_CFG_MODE_A.put 1 (F.PCC_CFG_MODE_B.put 1 0)), _, rfl, by decide +kernel⟩,
    ⟨onState, .core 0, 0, _, rfl, by decide +kernel⟩⟩

/-- What HostLaneCommandsComplete asks for can be met. -/
theorem wit_HostLaneCommandsComplete :
    (∃ s l eq snr t, exec (.trainDone l eq snr) s = .next t ∧ (s.laneOn l = true) ∧
      (s.fld F.HLN_TRAIN_STATUS_STATE l = 1)) ∧
    (∃ s l t, exec (.trainFail l) s = .next t ∧ (s.laneOn l = true) ∧ (s.fld F.HLN_TRAIN_STATUS_STATE l = 1)) ∧
    (∃ s l a t, exec (.trainRetry l) s = .next t ∧ (s.retryOf l = some a) ∧ (a + 10000 ≤ s.us) ∧
      (s.trainable l = true)) ∧
    (∃ s l t, exec (.cdrLol l) s = .next t ∧ (s.laneOn l = true) ∧ (s.flag F.HLN_RX_STATUS_CDR_LOCK l = true)) ∧
    (∃ s m l v t, exec (.laneCntClr m l v) s = .next t ∧ (s.accepts m (R .HLN_LANE_CTRL l) = true) ∧
      (F.HLN_LANE_CTRL_CNT_CLR.get v = 1)) ∧
    (∃ s l t, exec (.cdrLock l) s = .next t ∧ (s.laneOn l = true)) ∧
    (∃ s p t, exec (.portUp p) s = .next t ∧ (s.domOn 7 = true) ∧ (s.inReset 7 0 = false) ∧ (p < 16) ∧
      (s.portAble p = true)) :=
  ⟨⟨(onState.setFld F.HLN_TRAIN_STATUS_STATE 1 0), 0, 0, 0, _, rfl, by decide +kernel⟩,
    ⟨(onState.setFld F.HLN_TRAIN_STATUS_STATE 1 0), 0, _, rfl, by decide +kernel⟩,
    ⟨({ ({ (((onState.setFld F.HLN_LANE_CFG_EQ_MODE 1 0).setFld F.SOF_PORT_CFG_EN 1 0).setFld F.SOF_PORT_CFG_RATE 2
      0) with retryLane := [(0, 0)] } : State) with us := 1000000000000 } : State), 0, 0, _, rfl, by decide +kernel⟩,
    ⟨(onState.setFld F.HLN_RX_STATUS_CDR_LOCK 1 0), 0, _, rfl, by decide +kernel⟩,
    ⟨onState, .core 0, 0, (F.HLN_LANE_CTRL_CNT_CLR.put 1 0), _, rfl, by decide +kernel⟩,
    ⟨onState, 0, _, rfl, by decide +kernel⟩,
    ⟨(onState.setFld F.SOF_PORT_CFG_EN 1 0), 0, _, rfl, by decide +kernel⟩⟩

/-- What YardCommandsComplete asks for can be met. -/
theorem wit_YardCommandsComplete :
    (∃ s l t, exec (.prbsLock false l) s = .next t ∧ (s.checkable l = true)) ∧
    (∃ s l t, exec (.prbsLock true l) s = .next t ∧ (s.yardCheckable l = true)) ∧
    (∃ s l n t, exec (.prbsLoss false l n) s = .next t ∧ (s.laneOn l = true) ∧
      (s.flag F.HLN_PRBS_STATUS_CHK_LOCK l = true)) ∧
    (∃ s l n t, exec (.prbsLoss true l n) s = .next t ∧ (s.yrdOn = true) ∧
      (s.flag F.YL_PRBS_STATUS_CHK_LOCK l = true)) ∧
    (∃ s m l v t, exec (.errInj m false l v) s = .next t ∧ (s.accepts m (R .HLN_PRBS_CFG l) = true) ∧
      (F.HLN_PRBS_CFG_ERR_INJ.get v = 1) ∧ (F.HLN_PRBS_CFG_GEN_EN.get v = 1)) ∧
    (∃ s m l v t, exec (.errInj m true l v) s = .next t ∧ (s.accepts m (R .YL_PRBS_CFG l) = true) ∧
      (F.YL_PRBS_CFG_ERR_INJ.get v = 1) ∧ (F.YL_PRBS_CFG_GEN_EN.get v = 1)) ∧
    (∃ s m l v t, exec (.genEn m false l v) s = .next t ∧ (s.accepts m (R .HLN_PRBS_CFG l) = true) ∧
      (F.HLN_PRBS_CFG_GEN_EN.get v = 1)) ∧
    (∃ s m l v t, exec (.genEn m true l v) s = .next t ∧ (s.accepts m (R .YL_PRBS_CFG l) = true) ∧
      (F.YL_PRBS_CFG_GEN_EN.get v = 1)) ∧
    (∃ s l fill t, exec (.yardBlock l fill .bad) s = .next t ∧ (s.yrdOn = true) ∧ (l < 8) ∧
      (s.flag F.YL_STATUS_BLK_LOCK l = true)) ∧
    (∃ s l fill g n k t, exec (.yardBlock l fill (.select g n k)) s = .next t ∧ (s.yrdOn = true) ∧ (l < 8) ∧
      (s.flag F.YL_STATUS_BLK_LOCK l = true) ∧ (s.linkSt (linkOf l) = 2) ∧ (s.inUse l = true) ∧ (1 ≤ k) ∧ (k ≤ 16)) ∧
    (∃ s l fill t, exec (.yardBlock l fill .data) s = .next t ∧ (s.yrdOn = true) ∧ (l < 8) ∧
      (s.flag F.YL_STATUS_BLK_LOCK l = true) ∧ (s.linkSt (linkOf l) = 2) ∧ (s.inUse l = true) ∧
      ((s.link (linkOf l)).left ≠ 0)) ∧
    (∃ s l h t, exec (.hello l h) s = .next t ∧ (s.yrdOn = true) ∧ (l < 6) ∧ (h.dev ≠ s.fuse.devId) ∧
      (h.dev = s.partner (linkOf l)) ∧ (h.pair = 2 - linkOf l) ∧ (h.lane = l % 2) ∧ (s.linkSt (linkOf l) = 0) ∧
      (h.img = 0)) ∧
    (∃ s l h t, exec (.hello l h) s = .next t ∧ (s.yrdOn = true) ∧ (l < 8) ∧ (h.dev = s.fuse.devId)) ∧
    (∃ s j t, exec (.helloLost j) s = .next t ∧ (s.yrdOn = true) ∧ (j < 3) ∧ (s.linkSt j ≠ 0) ∧
      ((s.link j).helloAt + 100 ≤ s.us)) ∧
    (∃ s m v t, exec (.runReady m v) s = .next t ∧ (s.accepts m (R .YLN_YARD_CFG) = true) ∧
      (F.YLN_YARD_CFG_RUN_READY.get v = 1)) ∧
    (∃ s j t, exec (.runSwitch j) s = .next t ∧ (s.yrdOn = true) ∧ (j < 3) ∧ ((s.link j).switching = true) ∧
      (2 ≤ (s.working j).length)) ∧
    (∃ s l t, exec (.laneFailure l true) s = .next t ∧ (s.yrdOn = true) ∧ (l < 8) ∧ (s.inUse l = false)) ∧
    (∃ s j t, exec (.spareIn j) s = .next t ∧ (s.yrdOn = true) ∧ (j < 3) ∧ ((s.link j).swap = true) ∧
      (s.spareReady j = true)) ∧
    (∃ s m j v t, exec (.revert m j v) s = .next t ∧ (s.accepts m (R .YLN_LINK_CTRL j) = true) ∧
      (F.YLN_LINK_CTRL_REVERT.get v = 1) ∧ (s.flag F.YLN_LINK_STATUS_SPARE j = true)) ∧
    (∃ s j seq t, exec (.sidebandMessage j seq .other) s = .next t ∧ (s.yrdOn = true) ∧ (j < 3) ∧ (s.linkSt j ≠ 0) ∧
      (s.flag F.YLN_LINK_STATUS_WIRING j = false)) ∧
    (∃ s j seq t, exec (.sidebandMessage j seq .ack) s = .next t ∧ (s.yrdOn = true) ∧ (j < 3) ∧ (s.linkSt j ≠ 0) ∧
      (s.flag F.YLN_LINK_STATUS_WIRING j = false) ∧ ((s.link j).unacked = true) ∧ (s.fuse.devId = 0) ∧
      (s.fld F.YLN_IMG_FWD_STATE (j + 1) = 1) ∧ (s.boot.image.length ≤ 4096 * ((s.link j).part + 1))) ∧
    (∃ s j seq t, exec (.sidebandMessage j seq .ack) s = .next t ∧ (s.yrdOn = true) ∧ (j < 3) ∧ (s.linkSt j ≠ 0) ∧
      (s.flag F.YLN_LINK_STATUS_WIRING j = false) ∧ ((s.link j).unacked = true) ∧ (s.fuse.devId = 0) ∧
      (s.fld F.YLN_IMG_FWD_STATE (j + 1) = 1) ∧ (4096 * ((s.link j).part + 1) < s.boot.image.length)) ∧
    (∃ s j seq d t, exec (.sidebandMessage j seq (.image d)) s = .next t ∧ (s.yrdOn = true) ∧ (j < 3) ∧
      (s.linkSt j ≠ 0) ∧ (s.flag F.YLN_LINK_STATUS_WIRING j = false) ∧ ((s.link j).rxSeq ≠ some seq) ∧
      (s.fuse.devId ≠ 0) ∧ (s.img = 1) ∧ (j = s.linkTo 0)) ∧
    (∃ s j t, exec (.sidebandRepeat j) s = .next t ∧ (s.yrdOn = true) ∧ (j < 3) ∧ ((s.link j).unacked = true) ∧
      ((s.link j).repeats < 8) ∧ ((s.link j).sentAt + 1000 ≤ s.us)) ∧
    (∃ s j t, exec (.imgWant j) s = .next t ∧ (s.yrdOn = true) ∧ (j < 3) ∧ (s.fuse.devId = 0) ∧ (s.img = 2) ∧
      ((s.link j).img = 1) ∧ (s.linkSt j ≠ 0) ∧ (s.flag F.YLN_LINK_STATUS_WIRING j = false) ∧
      (s.fld F.YLN_IMG_FWD_STATE (j + 1) = 0)) ∧
    (∃ s d t, exec (.imgRestart d) s = .next t ∧ (s.yrdOn = true) ∧ (1 ≤ d) ∧ (d ≤ 3) ∧ (s.fuse.devId = 0) ∧
      (s.fld F.YLN_IMG_FWD_STATE d = 3) ∧ (s.linkSt (d - 1) ≠ 0) ∧
      (s.flag F.YLN_LINK_STATUS_WIRING (d - 1) = false) ∧ ((s.link (d - 1)).sentAt + 10000000 ≤ s.us)) ∧
    (∃ s t, exec (.imgWaitTimeout) s = .next t ∧ (s.yrdOn = true) ∧ (s.fuse.devId ≠ 0) ∧ (s.img = 1) ∧
      ((s.link (s.linkTo 0)).imgAt + 1000000 ≤ s.us)) ∧
    (∃ s m v t, exec (.rmtCmd m v) s = .next t ∧ (s.accepts m (R .YLN_RMT_CMD) = true) ∧
      (F.YLN_RMT_CMD_GO.get v = 1)) ∧
    (∃ s m j n v t, exec (.fwdWrite m j true n v) s = .next t ∧ (s.accepts m (R .YLN_FWD_TX j n) = true)) ∧
    (∃ s g n t, exec (.statusTimeout g n) s = .next t ∧ (s.yrdOn = true) ∧ (s.statusStale g n = true)) ∧
    (∃ s l t, exec (.blockLock l) s = .next t ∧ (s.yrdOn = true) ∧ (l < 8) ∧
      (s.flag F.YL_PRBS_CFG_GEN_EN l = false)) ∧
    (∃ s l ts fr t, exec (.yardBlockTx l ts fr) s = .next t ∧ (s.yrdOn = true) ∧ (l < 8) ∧
      (s.flag F.YL_PRBS_CFG_GEN_EN l = false) ∧ (1023 ≤ (s.yardTx.get YardTx.init l).gap)) :=
  ⟨⟨(onState.setFld F.HLN_PRBS_CFG_CHK_EN 1 0), 0, _, rfl, by decide +kernel⟩,
    ⟨(onState.setFld F.YL_PRBS_CFG_CHK_EN 1 0), 0, _, rfl, by decide +kernel⟩,
    ⟨(onState.setFld F.HLN_PRBS_STATUS_CHK_LOCK 1 0), 0, 0, _, rfl, by decide +kernel⟩,
    ⟨(onState.setFld F.YL_PRBS_STATUS_CHK_LOCK 1 0), 0, 0, _, rfl, by decide +kernel⟩,
    ⟨onState, .core 0, 0, (F.HLN_PRBS_CFG_GEN_EN.put 1 (F.HLN_PRBS_CFG_ERR_INJ.put 1 0)), _, rfl, by decide +kernel⟩,
    ⟨onState, .core 0, 0, (F.YL_PRBS_CFG_GEN_EN.put 1 (F.YL_PRBS_CFG_ERR_INJ.put 1 0)), _, rfl, by decide +kernel⟩,
    ⟨onState, .core 0, 0, (F.HLN_PRBS_CFG_GEN_EN.put 1 0), _, rfl, by decide +kernel⟩,
    ⟨onState, .core 0, 0, (F.YL_PRBS_CFG_GEN_EN.put 1 0), _, rfl, by decide +kernel⟩,
    ⟨(onState.setFld F.YL_STATUS_BLK_LOCK 1 0), 0, 0, _, rfl, by decide +kernel⟩,
    ⟨((onState.setFld F.YLN_LINK_STATUS_STATE 2 0).setFld F.YL_STATUS_BLK_LOCK 1 0), 0, 0, 0, 0, 1, _, rfl,
      by decide +kernel⟩,
    ⟨(((onState.setFld F.YLN_LINK_STATUS_STATE 1 0).setFld F.YL_STATUS_BLK_LOCK 1 0).setFld F.YLN_LINK_STATUS_STATE
      2 0 |>.modLink 0 fun x => { x with left := 1 }), 0, 0, _, rfl, by decide +kernel⟩,
    ⟨onState, 0, ⟨1, 2, 0, 0, false⟩, _, rfl, by decide +kernel⟩,
    ⟨onState, 0, ⟨0, 0, 0, 0, false⟩, _, rfl, by decide +kernel⟩,
    ⟨({ (onState.setFld F.YLN_LINK_STATUS_STATE 1 0) with us := 1000000000000 } : State), 0, _, rfl,
      by decide +kernel⟩,
    ⟨onState, .core 0, (F.YLN_YARD_CFG_RUN_READY.put 1 0), _, rfl, by decide +kernel⟩,
    ⟨(onState.modLink 0 (fun x => { x with switching := true })), 0, _, rfl, by decide +kernel⟩,
    ⟨(onState.modLink 1 fun x => { x with bad := [2] }), 2, _, rfl, by decide +kernel⟩,
    ⟨(((onState.setFld F.YLN_YARD_CFG_SPARE_EN 1).setFld F.YL_STATUS_BLK_LOCK 1 6).modLink 0 (fun x =>
      { x with swap := true })), 0, _, rfl, by decide +kernel⟩,
    ⟨((onState.setFld F.YLN_LINK_STATUS_STATE 1 0).setFld F.YLN_LINK_STATUS_SPARE 1 0), .core 0, 0,
      (F.YLN_LINK_CTRL_REVERT.put 1 0), _, rfl, by decide +kernel⟩,
    ⟨((onState.setFld F.YLN_LINK_STATUS_STATE 1 0).setFld F.YLN_LINK_STATUS_WIRING 0 0), 0, 0, _, rfl,
      by decide +kernel⟩,
    ⟨((upd_fuse (((onState.setFld F.YLN_LINK_STATUS_STATE 1 0).setFld F.YLN_LINK_STATUS_WIRING 0 0).modLink 0 (fun x
      => { x with unacked := true })) fun x => { x with devId := 0 }).setFld F.YLN_IMG_FWD_STATE 1 (0 + 1)), 0, 0,
      _, rfl, by decide +kernel⟩,
    ⟨((upd_fuse (((upd_boot (onState.setFld F.YLN_LINK_STATUS_STATE 1 0) fun x =>
      { x with image := List.replicate 5000 0 }).setFld F.YLN_LINK_STATUS_WIRING 0 0).modLink 0 (fun x =>
      { x with unacked := true })) fun x => { x with devId := 0 }).setFld F.YLN_IMG_FWD_STATE 1 (0 + 1)), 0, 0, _,
      rfl, by decide +kernel⟩,
    ⟨({ (((upd_fuse onState fun x => { x with
      devId := 1 }).setFld F.YLN_LINK_STATUS_STATE 1 2).setFld F.YLN_LINK_STATUS_WIRING 0 2) with img := 1 } :
      State), 2, 0, [], _, rfl, by decide +kernel⟩,
    ⟨(({ onState with us := 1000000000000 } : State).modLink 0 (fun x => { x with unacked := true })), 0, _, rfl,
      by decide +kernel⟩,
    ⟨(((({ (upd_fuse (onState.setFld F.YLN_LINK_STATUS_STATE 1 0) fun x => { x with devId := 0 }) with img := 2 } :
      State).modLink 0 (fun x => { x with img := 1 })).setFld F.YLN_LINK_STATUS_WIRING 0 0).setFld
      F.YLN_IMG_FWD_STATE 0 (0 + 1)), 0, _, rfl, by decide +kernel⟩,
    ⟨((upd_fuse ({ (onState.setFld F.YLN_LINK_STATUS_STATE 1 0) with us := 1000000000000 } : State) fun x =>
      { x with devId := 0 }).setFld F.YLN_IMG_FWD_STATE 3 1), 1, _, rfl, by decide +kernel⟩,
    ⟨({ ({ (upd_fuse onState fun x => { x with devId := 1 }) with us := 1000000000000 } : State) with img := 1 } :
      State), _, rfl, by decide +kernel⟩,
    ⟨onState, .core 0, (F.YLN_RMT_CMD_GO.put 1 0), _, rfl, by decide +kernel⟩,
    ⟨({ onState with yardTx := NTab.set YardTx.init onState.yardTx 0 ⟨0, 1023, 0, none⟩ } : State), .core 0, 0, 0,
      0, _, rfl, by decide +kernel⟩,
    ⟨onState, 0, 0, _, rfl, by decide +kernel⟩,
    ⟨(onState.setFld F.YL_PRBS_CFG_GEN_EN 0 0), 0, _, rfl, by decide +kernel⟩,
    ⟨(({ onState with yardTx := NTab.set YardTx.init onState.yardTx 0 ⟨0, 1023, 0, none⟩ } : State).setFld
      F.YL_PRBS_CFG_GEN_EN 0 0), 0, [], false, _, rfl, by decide +kernel⟩⟩

/-- What PowerCommandsComplete asks for can be met. -/
theorem wit_PowerCommandsComplete :
    (∃ s m d v t, exec (.domReq m d v) s = .next t ∧ (s.accepts m (R .PMU_DOM d) = true) ∧ (s.fusedOff d = false) ∧
      (s.domSt d = 2) ∧ (F.PMU_DOM_WAKE_FAIL.get v = 0) ∧ (F.PMU_DOM_REQ.get v = 0)) ∧
    (∃ s m d v t, exec (.domReq m d v) s = .next t ∧ (s.accepts m (R .PMU_DOM d) = true) ∧ (s.fusedOff d = false) ∧
      (s.domSt d = 0) ∧ (F.PMU_DOM_WAKE_FAIL.get v = 0) ∧ (F.PMU_DOM_REQ.get v = 2)) ∧
    (∃ s m d v t, exec (.domReq m d v) s = .next t ∧ (s.accepts m (R .PMU_DOM d) = true) ∧ (s.fusedOff d = true) ∧
      (F.PMU_DOM_WAKE_FAIL.get v = 0)) ∧
    (∃ s d t, exec (.handshakeAccept d) s = .next t ∧ (s.asking d = true) ∧ (s.acceptOk d = true)) ∧
    (∃ s d b t, exec (.hsRefused d b) s = .next t ∧ (s.asking d = true) ∧ ((b = true →
      s.askOld d (s.fld F.PMU_CFG_HS_LIMIT) = true))) ∧
    (∃ s t, exec (.drainRefused) s = .next t ∧ (s.asking 8 = true) ∧ (s.flag F.HAY_STATUS_DRAINING = true) ∧
      (s.hayBusy = true) ∧ (s.askOld 8 (s.fld F.HAY_CFG_DRAIN_LIMIT) = true)) ∧
    (∃ s d t, exec (.shutdownDone d) s = .next t ∧ (s.domSt d = 4) ∧ (1 ≤ d) ∧ (d ≤ 13) ∧
      (s.pwr.target.get 0 d = 0) ∧ (s.flag F.PMU_DOM_PENDING_ON d = false) ∧ (s.fld F.PMU_DOM_REQ d = 0)) ∧
    (∃ s d t, exec (.wakeStep d) s = .next t ∧ (s.domSt d = 1) ∧ (2 ≤ d) ∧ (d ≤ 13) ∧ (s.pwr.step.get 0 d < 6) ∧
      (s.stepDue d = true)) ∧
    (∃ s d t, exec (.wakeStep d) s = .next t ∧ (s.domSt d = 1) ∧ (2 ≤ d) ∧ (d ≤ 13) ∧ (6 ≤ s.pwr.step.get 0 d) ∧
      (s.stepDue d = true) ∧ (s.fld F.PMU_DOM_REQ d = 2)) ∧
    (∃ s d t, exec (.wakeFail d) s = .next t ∧ (s.domSt d = 1) ∧ (1 ≤ d) ∧ (d ≤ 13) ∧ (s.stepOver d = true) ∧
      (s.fld F.PMU_DOM_RETRY_LEFT d ≠ 0)) ∧
    (∃ s d t, exec (.wakeRetry d) s = .next t ∧ (s.domSt d = 6) ∧ (1 ≤ d) ∧ (d ≤ 13) ∧
      (s.pwr.stepAt.get 0 d + 1000 ≤ s.us)) ∧
    (∃ s a t, exec (.twiAddressMatch a) s = .next t ∧ (a = s.fld F.AON_CFG_TWI_ADDR) ∧ (s.domOn 1 = false) ∧
      (s.flag F.AON_CFG_TWI_WAKE = true) ∧ (s.flag F.AON_CFG_STRETCH = true)) ∧
    (∃ s u t, exec (.twiAon) s = .next t ∧ (s.fab.stretched = some u) ∧ (u + 25000 ≤ s.us)) ∧
    (∃ s t, exec (.aonTimer) s = .next t ∧ (s.flag F.AON_TIMER_CTRL_ARM = true) ∧
      (s.rd (R .AON_SLOW_CNT) = s.rd (R .AON_TIMER_CMP))) ∧
    (∃ s m v d f t, exec (.padHold m v) s = .next t ∧ (s.accepts m (R .PMU_PAD_HOLD) = true) ∧ (padFld d = some f) ∧
      (f.get v = 1) ∧ (s.domOn d = true)) :=
  ⟨⟨onState, .core 0, 4, 0, _, rfl, by decide +kernel⟩,
    ⟨(onState.setFld F.PMU_DOM_STATE 0 4), .core 0, 4, (F.PMU_DOM_REQ.put 2 0), _, rfl, by decide +kernel⟩,
    ⟨(upd_fuse onState fun x => { x with zq2000 := true }), .core 0, 5, 0, _, rfl, by decide +kernel⟩,
    ⟨(onState.setFld F.PMU_DOM_STATE 3 9), 9, _, rfl, by decide +kernel⟩,
    ⟨(onState.setFld F.PMU_DOM_STATE 3 9), 9, 0, _, rfl, by decide +kernel⟩,
    ⟨((({ (onState.setFld F.PMU_DOM_STATE 3 8) with us := 1000000000000 } : State).setFld F.HAY_STATUS_DRAINING
      1).modFlow 0 fun x =>
      { x with hayIn := 64, q := [⟨[], 64, .hayloft, 0, false, 0, true, 0, none, false, false⟩] }), _, rfl,
      by decide +kernel⟩,
    ⟨(((onState.setFld F.PMU_DOM_STATE 4 9).setFld F.PMU_DOM_PENDING_ON 0 9).setFld F.PMU_DOM_REQ 0 9), 9, _, rfl,
      by decide +kernel⟩,
    ⟨(onState.setFld F.PMU_DOM_STATE 1 9), 9, _, rfl, by decide +kernel⟩,
    ⟨(((onState.setFld F.PMU_DOM_STATE 1 9).setFld F.PMU_DOM_REQ 2 9).modPwr fun p =>
      { p with step := NTab.set 0 p.step 9 6 }), 9, _, rfl, by decide +kernel⟩,
    ⟨((onState.setFld F.PMU_DOM_STATE 1 9).setFld F.PMU_DOM_RETRY_LEFT 1 9), 9, _, rfl, by decide +kernel⟩,
    ⟨({ (onState.setFld F.PMU_DOM_STATE 6 9) with us := 1000000000000 } : State), 9, _, rfl, by decide +kernel⟩,
    ⟨(((onState.setFld F.PMU_DOM_STATE 0 1).setFld F.AON_CFG_TWI_WAKE 1).setFld F.AON_CFG_STRETCH 1),
      (State.fld onState F.AON_CFG_TWI_ADDR), _, rfl, by decide +kernel⟩,
    ⟨(upd_fab ({ onState with us := 1000000000000 } : State) fun x => { x with stretched := some 0 }), 0, _, rfl,
      by decide +kernel⟩,
    ⟨(onState.setFld F.AON_TIMER_CTRL_ARM 1), _, rfl, by decide +kernel⟩,
    ⟨onState, .core 0, (F.PMU_PAD_HOLD_TMG.put 1 0), 2, F.PMU_PAD_HOLD_TMG, _, rfl, by decide +kernel⟩⟩

/-- What ResetCommandsComplete asks for can be met. -/
theorem wit_ResetCommandsComplete :
    (∃ s r t, exec (.pgFall r) s = .next t ∧ (r ≠ 5) ∧ (s.pwr.pg.contains r = true) ∧
      (((List.range 14).filter fun d => d != 0 && (railsOf d).contains r && s.domOn d) = [])) ∧
    (∃ s src dom page t, exec (.resetAssert src dom page) s = .next t ∧ (pinSources.contains src = true) ∧
      ((s.asserted.any fun a => a.src == src) = false)) ∧
    (∃ s src a t, exec (.idleTimeout src) s = .next t ∧
      (s.asserted.find? (fun a => a.asking && a.src == src && decide (a.since + 10 * max (s.rdN (R .RST_IDLE_TO)) 1
      ≤ s.us)) = some a) ∧ (a.level = 3) ∧ ((∀ x ∈ s.asserted, x.src = 13 → x.level = 3))) ∧
    (∃ s src a t, exec (.resetRelease src) s = .next t ∧ (s.asserted = [a]) ∧ (a.src = src) ∧ (src ≠ 13) ∧
      (a.hold = false) ∧ (a.asking = false) ∧ (a.since + srcStays src ≤ s.us)) ∧
    (∃ s m v t, exec (.swChip m v) s = .next t ∧ (s.accepts m (R .RST_SW_CMD) = true) ∧
      (F.RST_SW_CMD_KIND.get v = 1) ∧ ((s.asserted.any fun a => a.src == 6) = false)) ∧
    (∃ s m v t, exec (.swCore m v) s = .next t ∧ (s.accepts m (R .RST_SW_CMD) = true) ∧
      (F.RST_SW_CMD_KIND.get v = 2) ∧ ((s.asserted.any fun a => a.src == 7) = false)) ∧
    (∃ s m v d t, exec (.swDomain m v) s = .next t ∧ (s.accepts m (R .RST_SW_CMD) = true) ∧
      (F.RST_SW_CMD_KIND.get v = 3) ∧ ((s.asserted.any fun a => a.src == 11) = false) ∧ (s.srcLevel 11 = some 3) ∧
      (F.RST_SW_CMD_DOMAIN.get v = d) ∧ (1 ≤ d) ∧ (d ≤ 13) ∧ (s.domOn d = true)) ∧
    (∃ s m v t, exec (.swDomain m v) s = .next t ∧ (s.accepts m (R .RST_SW_CMD) = true) ∧
      (F.RST_SW_CMD_KIND.get v = 3) ∧ ((s.asserted.any fun a => a.src == 11) = true)) ∧
    (∃ s m v d t, exec (.swBlock m v) s = .next t ∧ (s.accepts m (R .RST_SW_CMD) = true) ∧
      (F.RST_SW_CMD_KIND.get v = 4) ∧ ((s.asserted.any fun a => a.src == 12) = false) ∧ (s.srcLevel 12 = some 4) ∧
      (pageDom (F.RST_SW_CMD_PAGE.get v) = some d) ∧ (1 ≤ d) ∧ (d ≤ 13) ∧ (s.domOn d = true)) ∧
    (∃ s m v a t, exec (.swRelease m v) s = .next t ∧ (s.accepts m (R .RST_SW_CMD) = true) ∧
      (F.RST_SW_CMD_KIND.get v = 9) ∧ (s.asserted = [a]) ∧ (a.src = 6) ∧ (a.hold = true) ∧ (a.asking = false)) ∧
    (∃ s v t, exec (.hostRst .spi v) s = .next t ∧ (s.accepts .spi (R .RST_HOST_RST) = true) ∧
      (F.RST_HOST_RST_GO.get v = 1) ∧ ((s.asserted.any fun a => a.src == 14) = false)) :=
  ⟨⟨((onState.setFld F.PMU_DOM_STATE 0 8).modPwr fun p => { p with pg := [3] }), 3, _, rfl, by decide +kernel⟩,
    ⟨onState, 0, 0, 0, _, rfl, by decide +kernel⟩,
    ⟨({ ({ onState with asserted := [⟨11, 3, 9, 0, false, true, 0⟩] } : State) with us := 1000000000000 } : State),
      11, ⟨11, 3, 9, 0, false, true, 0⟩, _, rfl, by decide +kernel⟩,
    ⟨({ ({ onState with asserted := [⟨11, 3, 9, 0, false, false, 0⟩] } : State) with us := 1000000000000 } : State),
      11, ⟨11, 3, 9, 0, false, false, 0⟩, _, rfl, by decide +kernel⟩,
    ⟨onState, .core 0, (F.RST_SW_CMD_KIND.put 1 0), _, rfl, by decide +kernel⟩,
    ⟨onState, .core 0, (F.RST_SW_CMD_KIND.put 2 0), _, rfl, by decide +kernel⟩,
    ⟨onState, .core 0, (F.RST_SW_CMD_DOMAIN.put 1 (F.RST_SW_CMD_KIND.put 3 0)), 1, _, rfl, by decide +kernel⟩,
    ⟨({ onState with asserted := [⟨11, 3, 9, 0, false, false, 0⟩] } : State), .core 0, (F.RST_SW_CMD_KIND.put 3 0),
      _, rfl, by decide +kernel⟩,
    ⟨onState, .core 0, (F.RST_SW_CMD_KIND.put 4 (F.RST_SW_CMD_PAGE.put 0x200 0)), 4, _, rfl, by decide +kernel⟩,
    ⟨({ onState with asserted := [⟨6, 3, 9, 0, true, false, 0⟩] } : State), .core 0, (F.RST_SW_CMD_KIND.put 9 0),
      ⟨6, 3, 9, 0, true, false, 0⟩, _, rfl, by decide +kernel⟩,
    ⟨onState, (F.RST_HOST_RST_GO.put 1 0), _, rfl, by decide +kernel⟩⟩

/-- What StartUpCommandsComplete asks for can be met. -/
theorem wit_StartUpCommandsComplete :
    (∃ s a b c d l t, exec (.imageCheck a b c d) s = .next t ∧ (l = a ++ b ++ c ++ d) ∧ (s.fuse.devId = 0) ∧
      (s.domOn 1 = true) ∧ (s.inReset 1 0 = false) ∧ (s.boot.pend = false) ∧ (s.fld F.DEV_BOOT_STATUS_STAGE = 1) ∧
      (s.imageCode l ≠ 1)) ∧
    (∃ s a b c d l t, exec (.imageCheck a b c d) s = .next t ∧ (l = a ++ b ++ c ++ d) ∧ (s.fuse.devId = 0) ∧
      (s.domOn 1 = true) ∧ (s.inReset 1 0 = false) ∧ (s.boot.pend = false) ∧ (s.fld F.DEV_BOOT_STATUS_STAGE = 1) ∧
      (s.imageCode l = 1)) ∧
    (∃ s a b c t, exec (.imgChecked a b c) s = .next t ∧ (s.fuse.devId ≠ 0) ∧ (s.img = 1) ∧
      (s.imgRx = a ++ b ++ c) ∧ (s.imgRx.isEmpty = false) ∧ (s.domOn 1 = true) ∧ (s.inReset 1 0 = false) ∧
      (s.imageCode s.imgRx ≠ 1)) ∧
    (∃ s m v t, exec (.lcCmd m v) s = .next t ∧ (s.accepts m (R .DEV_LC_CMD) = true) ∧
      (s.lcCode (F.DEV_LC_CMD_KEY.get v) (F.DEV_LC_CMD_TARGET.get v) = 0)) ∧
    (∃ s m v t, exec (.lcCmd m v) s = .next t ∧ (s.accepts m (R .DEV_LC_CMD) = true) ∧
      (F.DEV_LC_CMD_KEY.get v ≠ 0x4C43)) ∧
    (∃ s t, exec (.xtalFail) s = .next t ∧ (s.flag F.AON_SLOW_STATUS_XTAL_OK = false)) :=
  ⟨⟨((upd_boot (upd_fuse (upd_fuse onState fun x => { x with lc := 1 }) fun x => { x with devId := 0 }) fun x =>
      { x with pend := false }).setFld F.DEV_BOOT_STATUS_STAGE 1), [], [], [], [], [], _, rfl, by decide +kernel⟩,
    ⟨((upd_boot (upd_fuse (upd_fuse onState fun x => { x with lc := 1 }) fun x => { x with devId := 0 }) fun x =>
      { x with pend := false }).setFld F.DEV_BOOT_STATUS_STAGE 1), [78, 71, 79, 78, 0, 1, 255, 255, 0, 0, 1, 16, 0,
      1, 0, 0], (List.replicate 96 0), (List.replicate 96 0), (List.replicate 44 0 ++ [215, 198, 183, 50] ++ [0, 0,
      0, 0, 0, 0, 1, 16, 0, 0, 0, 0, 0, 0, 0, 0]), ([78, 71, 79, 78, 0, 1, 255, 255, 0, 0, 1, 16, 0,
      1] ++ List.replicate 238 0 ++ [215, 198, 183, 50] ++ [0, 0, 0, 0, 0, 0, 1, 16, 0, 0, 0, 0, 0, 0, 0, 0]), _,
      rfl, by decide +kernel⟩,
    ⟨({ ({ ({ (upd_fuse (upd_fuse onState fun x => { x with devId := 1 }) fun x => { x with lc := 1 }) with
      imgRx := [1] } : State) with img := 1 } : State) with imgRx := ([1]) ++ ([]) ++ ([]) } : State), [1], [], [],
      _, rfl, by decide +kernel⟩,
    ⟨(upd_fuse (upd_fuse onState fun x => { x with keyHash := some 1 }) fun x => { x with lc := 1 }), .core 0,
      (F.DEV_LC_CMD_KEY.put 0x4C43 (F.DEV_LC_CMD_TARGET.put 2 0)), _, rfl, by decide +kernel⟩,
    ⟨onState, .core 0, 0, _, rfl, by decide +kernel⟩,
    ⟨(onState.setFld F.AON_SLOW_STATUS_XTAL_OK 0), _, rfl, by decide +kernel⟩⟩

/-- What FarrierCommandsComplete asks for can be met. -/
theorem wit_FarrierCommandsComplete :
    (∃ s c l n t, exec (.sliceCycle c l) s = .next t ∧ (s.mgmtOn = true) ∧ (s.carOn c = true) ∧ (l < 4) ∧
      (s.flag F.CAL_CFG_BG_EN = true) ∧ (s.underTest c = false) ∧ ((s.calLane c l).retired.length < 2) ∧
      ((s.calLane c l).cur = none) ∧ ((s.calLane c l).want = none) ∧ (s.rampDone c l = true) ∧
      ((s.calLane c l).slice = some n) ∧ ((s.calLane c l).isSpare n = true)) ∧
    (∃ s c l n t, exec (.sliceCycle c l) s = .next t ∧ (s.mgmtOn = true) ∧ (s.carOn c = true) ∧ (l < 4) ∧
      (s.flag F.CAL_CFG_BG_EN = true) ∧ (s.underTest c = false) ∧ ((s.calLane c l).retired.length < 2) ∧
      ((s.calLane c l).cur = none) ∧ ((s.calLane c l).want = none) ∧ (s.rampDone c l = true) ∧
      ((s.calLane c l).slice = some n) ∧ ((s.calLane c l).isSpare n = false)) ∧
    (∃ s c l a b tap n t, exec (.sliceResult c l (a, b) tap) s = .next t ∧ (s.mgmtOn = true) ∧ (s.carOn c = true) ∧
      (l < 4) ∧ ((s.calLane c l).cur = some n) ∧ ((s.calLane c l).want = none) ∧ (sliceAgree a b = true) ∧
      ((s.calLane c l).isSpare n = false) ∧ (n ∉ (s.calLane c l).retired)) ∧
    (∃ s c l a b tap n t, exec (.sliceResult c l (a, b) tap) s = .next t ∧ (s.mgmtOn = true) ∧ (s.carOn c = true) ∧
      (l < 4) ∧ ((s.calLane c l).cur = some n) ∧ ((s.calLane c l).want = none) ∧ (sliceAgree a b = true) ∧
      ((s.calLane c l).isSpare n = true)) ∧
    (∃ s c l a b tap n t, exec (.sliceResult c l (a, b) tap) s = .next t ∧ (s.mgmtOn = true) ∧ (s.carOn c = true) ∧
      (l < 4) ∧ ((s.calLane c l).cur = some n) ∧ ((s.calLane c l).want = none) ∧ (sliceAgree a b = false)) ∧
    (∃ s c l t, exec (.sliceRamp c l) s = .next t ∧ (s.mgmtOn = true) ∧ (s.carOn c = true) ∧ (l < 4) ∧
      (s.rampDone c l = false)) ∧
    (∃ s c l a b t, exec (.dacSkewCal c l a b) s = .next t ∧ (s.mgmtOn = true) ∧ (s.carOn c = true) ∧ (l < 4) ∧
      (s.fillOrService c = true) ∧ ((a - b).natAbs ≤ 2)) ∧
    (∃ s c l a b t, exec (.dacSkewCal c l a b) s = .next t ∧ (s.mgmtOn = true) ∧ (s.carOn c = true) ∧ (l < 4) ∧
      (s.fillOrService c = true) ∧ (2 < (a - b).natAbs)) ∧
    (∃ s p x y r t, exec (.monRefRefresh p x y) s = .next t ∧ (s.mgmtOn = true) ∧ (s.monOn = true) ∧ (p < 2) ∧
      (s.devRec = some r) ∧ ((x - r.refs.get 0 (2 * p)).natAbs ≤ 64) ∧
      ((y - r.refs.get 0 (2 * p + 1)).natAbs ≤ 64) ∧ ((x - y).natAbs ≤ s.chkTol) ∧
      (s.fld F.MON_STATUS_FAULT / 4 ^ p % 4 = 0)) ∧
    (∃ s m v t, exec (.prod m v) s = .next t ∧ (s.accepts m (R .CAL_CMD) = true) ∧
      (s.flag F.CAL_RESULT_BUSY = false) ∧ (F.CAL_CMD_CMD.get v = 1) ∧ (s.prodCode = 0)) ∧
    (∃ s m v t, exec (.prod m v) s = .next t ∧ (s.accepts m (R .CAL_CMD) = true) ∧
      (s.flag F.CAL_RESULT_BUSY = false) ∧ (F.CAL_CMD_CMD.get v = 1) ∧ (s.prodCode ≠ 0) ∧ (s.prodCode < 5)) ∧
    (∃ s m v t, exec (.storeNow m v) s = .next t ∧ (s.accepts m (R .CAL_CMD) = true) ∧
      (s.flag F.CAL_RESULT_BUSY = false) ∧ (F.CAL_CMD_CMD.get v = 2)) ∧
    (∃ s c t, exec (.liveStore c true) s = .next t ∧ (s.storeDue c = true) ∧ (s.storeMay c = true)) ∧
    (∃ s c t, exec (.liveStore c false) s = .next t ∧ (s.storeDue c = true) ∧ (s.storeMay c = true)) ∧
    (∃ s t, exec (.calRefLost) s = .next t ∧ (s.mgmtOn = true) ∧ (s.flag F.CAL_STATUS_REF_IN_OK = true)) ∧
    (∃ s m off v t, exec (.tackRoomWrite m off v) s = .next t ∧ (s.canIssue m = true) ∧
      (s.denied m (trBus off) 1 = false) ∧ (s.holdsBack m = false) ∧ (s.blockOn 1 (trPage off) = true) ∧
      (s.tackAccepts m (s.trAddr off) = true) ∧ (s.trAddr off % 8 < 4)) ∧
    (∃ s m off v t, exec (.tackRoomWrite m off v) s = .next t ∧ (s.canIssue m = true) ∧
      (s.denied m (trBus off) 1 = false) ∧ (s.holdsBack m = false) ∧ (s.blockOn 1 (trPage off) = true) ∧
      (s.tackAccepts m (s.trAddr off) = true) ∧ (4 ≤ s.trAddr off % 8) ∧ (0x1000 ≤ s.trAddr off) ∧
      (s.cal.held = [])) ∧
    (∃ s m off v t, exec (.tackRoomWrite m off v) s = .next t ∧ (s.canIssue m = true) ∧
      (s.denied m (trBus off) 1 = false) ∧ (s.holdsBack m = false) ∧ (s.blockOn 1 (trPage off) = true) ∧
      (s.tackAccepts m (s.trAddr off) = false)) ∧
    (∃ s m off t, exec (.tackRoomRead m off .clean) s = .next t ∧ (s.canIssue m = true) ∧
      (s.denied m (trBus off) 0 = false) ∧ (s.holdsBack m = false) ∧ (s.blockOn 1 (trPage off) = true) ∧
      (0x100000 ≤ s.trAddr off)) ∧
    (∃ s fast t, exec (.calRefInPresent fast) s = .next t ∧ (s.mgmtOn = true)) ∧
    (∃ s agree x t, exec (.prodDone false agree x) s = .next t ∧ (s.mgmtOn = true) ∧
      (s.flag F.CAL_RESULT_BUSY = true)) ∧
    (∃ s x t, exec (.prodDone true true x) s = .next t ∧ (s.mgmtOn = true) ∧ (s.flag F.CAL_RESULT_BUSY = true)) :=
  ⟨⟨((onState.modCalLane 0 0 fun x => { x with next := 64 }).setFld F.CAL_CFG_BG_EN 1), 0, 0, 64, _, rfl,
      by decide +kernel⟩,
    ⟨(onState.setFld F.CAL_CFG_BG_EN 1), 0, 0, 0, _, rfl, by decide +kernel⟩,
    ⟨(onState.modCalLane 0 0 fun x => { x with cur := some 5 }), 0, 0, ⟨0, 0, 256⟩, ⟨0, 0, 257⟩, 0, 5, _, rfl,
      by decide +kernel⟩,
    ⟨(onState.modCalLane 0 0 fun x => { x with cur := some 64 }), 0, 0, ⟨0, 0, 256⟩, ⟨0, 0, 257⟩, 0, 64, _, rfl,
      by decide +kernel⟩,
    ⟨(onState.modCalLane 0 0 fun x => { x with cur := some 5 }), 0, 0, ⟨0, 0, 256⟩, ⟨0, 0, 300⟩, 0, 5, _, rfl,
      by decide +kernel⟩,
    ⟨(onState.modCalCar 0 fun x => { x with target := NTab.set SliceVal.init x.target 0 ⟨4, 0, 256⟩ }), 0, 0, _,
      rfl, by decide +kernel⟩,
    ⟨(onState.setFld F.CAX_TX_STATUS_TXSTATE 4 0), 0, 0, 0, 0, _, rfl, by decide +kernel⟩,
    ⟨(onState.setFld F.CAX_TX_STATUS_TXSTATE 4 0), 0, 0, 9, 0, _, rfl, by decide +kernel⟩,
    ⟨(upd_cal onState fun x => { x with devA := some ⟨0, 0, [], [], [], 0, 0⟩ }), 0, 0, 0, ⟨0, 0, [], [], [], 0, 0⟩,
      _, rfl, by decide +kernel⟩,
    ⟨((upd_fuse (((onState.setFld F.CAL_STATUS_REF_IN_OK 1).wrN (R .CAL_VREF_VAL) 1200000).wrN (R .CAL_TEMP_REF)
      2500) fun x => { x with lc := 1 }).setFld F.CAL_RESULT_BUSY 0), .core 0, (F.CAL_CMD_CMD.put 1 0), _, rfl,
      by decide +kernel⟩,
    ⟨(onState.setFld F.CAL_RESULT_BUSY 0), .core 0, (F.CAL_CMD_CMD.put 1 0), _, rfl, by decide +kernel⟩,
    ⟨(onState.setFld F.CAL_RESULT_BUSY 0), .core 0, (F.CAL_CMD_CMD.put 2 0), _, rfl, by decide +kernel⟩,
    ⟨(onState.modCalCar 0 fun x => { x with dirty := true }), 0, _, rfl, by decide +kernel⟩,
    ⟨(onState.modCalCar 0 fun x => { x with dirty := true }), 0, _, rfl, by decide +kernel⟩,
    ⟨(onState.setFld F.CAL_STATUS_REF_IN_OK 1), _, rfl, by decide +kernel⟩,
    ⟨onState, .core 0, 0x50000, 0, _, rfl, by decide +kernel⟩,
    ⟨(upd_cal onState fun x => { x with held := [] }), .core 0, 0x50004, 0, _, rfl, by decide +kernel⟩,
    ⟨onState, .core 0, 0x1000, 0, _, rfl, by decide +kernel⟩,
    ⟨(onState.wrN (R .CAL_TR_BANK) 2), .core 0, 0, _, rfl, by decide +kernel⟩,
    ⟨onState, 0, _, rfl, by decide +kernel⟩,
    ⟨(onState.setFld F.CAL_RESULT_BUSY 1), true, ⟨[], [], [], [], [], [], 0, 0⟩, _, rfl, by decide +kernel⟩,
    ⟨(onState.setFld F.CAL_RESULT_BUSY 1), ⟨[], [], [], [], [], [], 0, 0⟩, _, rfl, by decide +kernel⟩⟩

/-- What PaddockCommandsComplete asks for can be met. -/
theorem wit_PaddockCommandsComplete :
    (∃ s m v t, exec (.bstRun m v) s = .next t ∧ (s.accepts m (R .BST_CMD) = true) ∧ (F.BST_CMD_CMD.get v = 1) ∧
      (F.BST_CMD_TARGET.get v = 2 ^ 6 + 16) ∧ (s.runCode 80 (Config.freeBool s.free) = 0)) ∧
    (∃ s m v t, exec (.bstRun m v) s = .next t ∧ (s.accepts m (R .BST_CMD) = true) ∧ (F.BST_CMD_CMD.get v = 1) ∧
      (s.fuse.lc = 0)) ∧
    (∃ s m v t, exec (.bstFull m v) s = .next t ∧ (s.accepts m (R .BST_CMD) = true) ∧ (F.BST_CMD_CMD.get v = 2) ∧
      (s.fuse.lc = 1) ∧ (s.bst.full = none) ∧ (s.fullOk = true)) ∧
    (∃ s m v t, exec (.bstCancel m v) s = .next t ∧ (s.accepts m (R .BST_CMD) = true) ∧ (F.BST_CMD_CMD.get v = 3) ∧
      ((s.bst.queue.any fun x => x.target == F.BST_CMD_TARGET.get v) = true)) ∧
    (∃ s m v x t, exec (.bstRelease m v) s = .next t ∧ (s.accepts m (R .BST_CMD) = true) ∧
      (F.BST_CMD_CMD.get v = 4) ∧ (s.bst.held.find? (fun y => y.target == F.BST_CMD_TARGET.get v) = some x)) ∧
    (∃ s m v t, exec (.bstRelease m v) s = .next t ∧ (s.accepts m (R .BST_CMD) = true) ∧ (F.BST_CMD_CMD.get v = 4) ∧
      (s.bst.held.find? (fun y => y.target == F.BST_CMD_TARGET.get v) = none)) ∧
    (∃ s t0 l t, exec (.testAdmit) s = .next t ∧ (s.mgmtOn = true) ∧ (s.bst.full = some (t0 :: l)) ∧
      (s.bst.running = []) ∧ (s.domOn (bstDom t0) = false)) ∧
    (∃ s x t, exec (.testAdmit) s = .next t ∧ (s.mgmtOn = true) ∧ (s.bst.full = none) ∧ (s.bst.queue = [x]) ∧
      (80 ≤ x.target) ∧ (x.target < 88) ∧ (bstPower x.target ≤ s.headroom) ∧ (s.domOn (bstDom x.target) = true) ∧
      (s.bst.running = []) ∧ (s.bst.held = [])) ∧
    (∃ s k x d t, exec (.testDone k .pass d) s = .next t ∧ (s.bst.running = [x]) ∧ (x.target = k) ∧
      (s.bst.full = none) ∧ (x.hold = false) ∧ (s.testAsking k = false) ∧ (s.coreIdle k = true)) ∧
    (∃ s k t, exec (.bstExpired k) s = .next t ∧ (s.rdN (R .BST_QUEUE_TO) ≠ 0) ∧
      ((s.bst.queue.any fun x => x.target == k && decide (x.since + 1000000 * s.rdN (R .BST_QUEUE_TO) ≤ s.us)) =
      true)) :=
  ⟨⟨(upd_fuse onState fun x => { x with lc := 1 }), .core 0, (F.BST_CMD_CMD.put 1 (F.BST_CMD_TARGET.put 80 0)), _,
      rfl, by decide +kernel⟩,
    ⟨(upd_fuse onState fun x => { x with lc := 0 }), .core 0, (F.BST_CMD_CMD.put 1 0), _, rfl, by decide +kernel⟩,
    ⟨(upd_bst (upd_fuse onState fun x => { x with lc := 1 }) fun x => { x with full := none }), .core 0,
      (F.BST_CMD_CMD.put 2 0), _, rfl, by decide +kernel⟩,
    ⟨(upd_bst onState fun x => { x with queue := [⟨80, false, 0, []⟩] }), .core 0,
      (F.BST_CMD_CMD.put 3 (F.BST_CMD_TARGET.put 80 0)), _, rfl, by decide +kernel⟩,
    ⟨(upd_bst onState fun x => { x with held := [⟨80, false, 0, []⟩] }), .core 0,
      (F.BST_CMD_CMD.put 4 (F.BST_CMD_TARGET.put 80 0)), ⟨80, false, 0, []⟩, _, rfl, by decide +kernel⟩,
    ⟨onState, .core 0, (F.BST_CMD_CMD.put 4 0), _, rfl, by decide +kernel⟩,
    ⟨(upd_bst (upd_bst (onState.setFld F.PMU_DOM_STATE 0 9) fun x => { x with full := some (0x20 :: ([])) }) fun x
      => { x with running := [] }), 0x20, [], _, rfl, by decide +kernel⟩,
    ⟨((upd_bst (upd_bst (upd_bst (upd_bst (onState.wrN (R .BST_CAP) 860) fun x => { x with full := none }) fun x =>
      { x with queue := [(⟨80, false, 0, []⟩)] }) fun x => { x with running := [] }) fun x =>
      { x with held := [] }).setFld F.PMU_DOM_STATE 0 4 |>.setFld F.PMU_DOM_STATE 0 5), ⟨80, false, 0, []⟩, _, rfl,
      by decide +kernel⟩,
    ⟨(upd_bst (upd_bst onState fun x => { x with running := [(⟨80, false, 0, []⟩)] }) fun x =>
      { x with full := none }), 80, ⟨80, false, 0, []⟩, 0, _, rfl, by decide +kernel⟩,
    ⟨(({ (upd_bst onState fun x => { x with queue := [⟨80, false, 0, []⟩] }) with us := 60000000 } : State).wrN (R
      .BST_QUEUE_TO) 1), 80, _, rfl, by decide +kernel⟩⟩

/-- What CoreCommandsComplete asks for can be met. -/
theorem wit_CoreCommandsComplete :
    (∃ s c t, exec (.wdtExpiry c) s = .next t ∧ (s.wdtRuns c = true) ∧ (s.rdN (R .CORE_WDT_LEFT c) = 0) ∧
      ((s.asserted.any fun a => a.src == 8) = false)) ∧
    (∃ s m c v t, exec (.wdtKick m c v) s = .next t ∧ (s.accepts m (R .CORE_WDT_KICK c) = true) ∧
      (ownCore m c = true) ∧ (s.inj 7 c = false)) ∧
    (∃ s c addr kind mach t, exec (.accessFault c addr kind mach) s = .next t ∧ (s.mgmtOn = true) ∧ (c < 4) ∧
      (kind ≤ 2) ∧ (s.mpuDenies c addr kind mach = true) ∧ (s.flag F.CORE_MPU_FAULT_INFO_VALID c = false)) ∧
    (∃ s c addr kind mach t, exec (.accessFault c addr kind mach) s = .next t ∧ (s.mgmtOn = true) ∧ (c < 4) ∧
      (kind ≤ 2) ∧ (s.mpuDenies c addr kind mach = true) ∧ (s.flag F.CORE_MPU_FAULT_INFO_VALID c = true)) ∧
    (∃ s m c r v t, exec (.mpuWrite m c r false v) s = .next t ∧ (s.accepts m (R .CORE_MPU_BASE c r) = true) ∧
      (ownCore m c = true) ∧ (s.inj 7 c = false) ∧ (s.flag F.CORE_MPU_CFG_LOCK c r = false)) ∧
    (∃ s m c r v t, exec (.mpuWrite m c r true v) s = .next t ∧ (s.accepts m (R .CORE_MPU_CFG c r) = true) ∧
      (ownCore m c = true) ∧ (s.flag F.CORE_MPU_CFG_LOCK c r = true)) :=
  ⟨⟨((onState.setFld F.CORE_WDT_CFG_EN 1 0).wrN (R .CORE_WDT_LEFT 0) 0), 0, _, rfl, by decide +kernel⟩,
    ⟨onState, .core 0, 0, 0, _, rfl, by decide +kernel⟩,
    ⟨(onState.setFld F.CORE_MPU_FAULT_INFO_VALID 0 0), 0, 0, 0, 0, _, rfl, by decide +kernel⟩,
    ⟨(onState.setFld F.CORE_MPU_FAULT_INFO_VALID 1 0), 0, 0, 0, 0, _, rfl, by decide +kernel⟩,
    ⟨(onState.setFld F.CORE_MPU_CFG_LOCK 0 0 0), .core 0, 0, 0, 0, _, rfl, by decide +kernel⟩,
    ⟨(onState.setFld F.CORE_MPU_CFG_LOCK 1 0 0), .core 0, 0, 0, 0, _, rfl, by decide +kernel⟩⟩

/-- What LetterboxCommandsComplete asks for can be met. -/
theorem wit_LetterboxCommandsComplete :
    (∃ s m v t, exec (.lbInfo m v) s = .next t ∧ (s.accepts m (R .LB_CMD) = true) ∧ (lbMay m = true) ∧
      (s.flag F.LB_STATUS_BUSY = false)) ∧
    (∃ s m v t, exec (.flashRead m v) s = .next t ∧ (s.accepts m (R .LB_CMD) = true) ∧ (lbMay m = true) ∧
      (s.flag F.LB_STATUS_BUSY = false)) ∧
    (∃ s m v t, exec (.flashErase m v) s = .next t ∧ (s.accepts m (R .LB_CMD) = true) ∧ (lbMay m = true) ∧
      (s.flag F.LB_STATUS_BUSY = false)) ∧
    (∃ s m v t, exec (.flashProg m v) s = .next t ∧ (s.accepts m (R .LB_CMD) = true) ∧ (lbMay m = true) ∧
      (s.flag F.LB_STATUS_BUSY = false)) ∧
    (∃ s m v t, exec (.logRead m v) s = .next t ∧ (s.accepts m (R .LB_CMD) = true) ∧ (lbMay m = true) ∧
      (s.flag F.LB_STATUS_BUSY = false)) ∧
    (∃ s m v t, exec (.testWindow m v) s = .next t ∧ (s.accepts m (R .LB_CMD) = true) ∧ (lbMay m = true) ∧
      (s.flag F.LB_STATUS_BUSY = false)) ∧
    (∃ s m v t, exec (.returnAuth m v) s = .next t ∧ (s.accepts m (R .LB_CMD) = true) ∧ (lbMay m = true) ∧
      (s.flag F.LB_STATUS_BUSY = false)) ∧
    (∃ s e t, exec (.lbDone e) s = .next t ∧ (s.mgmtOn = true) ∧ (s.flag F.LB_STATUS_BUSY = true) ∧ (s.lbCmd ≠ 7)) ∧
    (∃ s e t, exec (.lbDone e) s = .next t ∧ (s.mgmtOn = true) ∧ (s.flag F.LB_STATUS_BUSY = true) ∧ (s.lbCmd = 1)) :=
  ⟨⟨(onState.setFld F.LB_STATUS_BUSY 0), .core 0, 0, _, rfl, by decide +kernel⟩,
    ⟨(onState.setFld F.LB_STATUS_BUSY 0), .core 0, 0, _, rfl, by decide +kernel⟩,
    ⟨(onState.setFld F.LB_STATUS_BUSY 0), .core 0, 0, _, rfl, by decide +kernel⟩,
    ⟨(onState.setFld F.LB_STATUS_BUSY 0), .core 0, 0, _, rfl, by decide +kernel⟩,
    ⟨(onState.setFld F.LB_STATUS_BUSY 0), .core 0, 0, _, rfl, by decide +kernel⟩,
    ⟨(onState.setFld F.LB_STATUS_BUSY 0), .core 0, 0, _, rfl, by decide +kernel⟩,
    ⟨(onState.setFld F.LB_STATUS_BUSY 0), .core 0, 0, _, rfl, by decide +kernel⟩,
    ⟨(onState.setFld F.LB_STATUS_BUSY 1), ⟨1, false, false, []⟩, _, rfl, by decide +kernel⟩,
    ⟨({ (onState.setFld F.LB_STATUS_BUSY 1) with lbCmd := 1 } : State), ⟨1, false, false, []⟩, _, rfl,
      by decide +kernel⟩⟩

/-- What CounterCommandsComplete asks for can be met. -/
theorem wit_CounterCommandsComplete :
    (∃ s e l t, exec (.logDrain) s = .next t ∧ (s.mgmtOn = true) ∧ (s.logFull = false) ∧ (s.logLost = 0) ∧
      (s.logQ = e :: l)) ∧
    (∃ s t, exec (.logDrain) s = .next t ∧ (s.mgmtOn = true) ∧ (s.logFull = false) ∧ (0 < s.logLost)) ∧
    (∃ s m v n t, exec (.snap m v) s = .next t ∧ (s.accepts m (R .PMC_CFG) = true) ∧ (F.PMC_CFG_SNAP.get v = 1) ∧
      (n < 32)) ∧
    (∃ s t, exec (.dump) s = .next t ∧ (s.mgmtOn = true) ∧ (s.flag F.PMC_DUMP_CFG_EN = true) ∧
      (s.flag F.PMC_DUMP_CFG_DEST = false) ∧ (s.dumpAt + s.dumpEvery ≤ s.us)) ∧
    (∃ s m v t, exec (.dumpCfgWrite m v) s = .next t ∧ (s.accepts m (R .PMC_DUMP_CFG) = true) ∧
      (F.PMC_DUMP_CFG_EN.get v = 1) ∧ (F.PMC_DUMP_CFG_DEST.get v = 1) ∧ (s.flag F.HAY_CAP_CFG_EN = true)) ∧
    (∃ s m v t, exec (.dumpCfgWrite m v) s = .next t ∧ (s.accepts m (R .PMC_DUMP_CFG) = true) ∧
      (F.PMC_DUMP_CFG_DEST.get v = 0)) ∧
    (∃ s n gain pc seg t, exec (.ovf n gain pc seg) s = .next t ∧ (s.mgmtOn = true) ∧ (n < 32) ∧
      (coreEvent (s.fld F.PMC_CTR_CFG_EVENT n) = true) ∧ (s.fld F.PMC_CTR_CFG_QUAL n < 4) ∧
      (s.flag F.PMC_CTR_CFG_CHAIN n = false) ∧ (s.flag F.PMC_CFG_EN = true) ∧ (s.flag F.PMC_CTR_CFG_EN n = true) ∧
      (s.pmcVal n + gain < 2 ^ 48)) ∧
    (∃ s m n v t, exec (.ctrLoad m n v) s = .next t ∧ (s.accepts m (R .PMC_CTR_HI n) = true)) :=
  ⟨⟨({ ({ onState with logLost := 0 } : State) with logQ := (⟨1, 2, 3, 0, 0, false, false, []⟩) :: ([]) } : State),
      ⟨1, 2, 3, 0, 0, false, false, []⟩, [], _, rfl, by decide +kernel⟩,
    ⟨({ onState with logLost := 1 } : State), _, rfl, by decide +kernel⟩,
    ⟨onState, .core 0, (F.PMC_CFG_SNAP.put 1 0), 0, _, rfl, by decide +kernel⟩,
    ⟨((({ onState with us := 1000000000000 } : State).setFld F.PMC_DUMP_CFG_EN 1).setFld F.PMC_DUMP_CFG_DEST 0), _,
      rfl, by decide +kernel⟩,
    ⟨(onState.setFld F.HAY_CAP_CFG_EN 1), .core 0, (F.PMC_DUMP_CFG_DEST.put 1 (F.PMC_DUMP_CFG_EN.put 1 0)), _, rfl,
      by decide +kernel⟩,
    ⟨onState, .core 0, 0, _, rfl, by decide +kernel⟩,
    ⟨(((((onState.setFld F.PMC_CTR_CFG_EVENT 0x10 0).setFld F.PMC_CTR_CFG_QUAL 0 0).setFld F.PMC_CTR_CFG_CHAIN 0
      0).setFld F.PMC_CFG_EN 1).setFld F.PMC_CTR_CFG_EN 1 0), 0, 1, 0, 0, _, rfl, by decide +kernel⟩,
    ⟨onState, .core 0, 0, 0, _, rfl, by decide +kernel⟩⟩

/-- What SafetyCommandsComplete asks for can be met. -/
theorem wit_SafetyCommandsComplete :
    (∃ s k t, exec (.faultDetected 0 k) s = .next t ∧ (k < 16) ∧ (s.domOn k = true) ∧ (s.plls.contains k = false)) ∧
    (∃ s f k t, exec (.faultDetected f k) s = .next t ∧ (6 ≤ f) ∧ (f ≤ 8)) ∧
    (∃ s addr v k t, exec (.cfgParityErr addr v) s = .next t ∧ (regAt addr = some k) ∧ (s.checked k = true) ∧
      (s.rd k &&& k.id.info.rw ≠ v &&& k.id.info.rw)) ∧
    (∃ s addr k t, exec (.cfgScan [addr]) s = .next t ∧ (regAt addr = some k) ∧ (s.checked k = true) ∧
      (s.cfgBad.contains k = false)) ∧
    (∃ s m v t, exec (.winOpen m v) s = .next t ∧ (s.accepts m (R .SAF_WIN_CTRL) = true) ∧ (s.winMay m = true) ∧
      (F.SAF_WIN_CTRL_CLOSE.get v = 0) ∧ (F.SAF_WIN_CTRL_OPEN.get v = 1)) ∧
    (∃ s m v t, exec (.winOpen m v) s = .next t ∧ (s.accepts m (R .SAF_WIN_CTRL) = true) ∧ (s.winMay m = false)) ∧
    (∃ s m v t, exec (.winClose m v) s = .next t ∧ (s.accepts m (R .SAF_WIN_CTRL) = true) ∧ (s.winMay m = true) ∧
      (F.SAF_WIN_CTRL_CLOSE.get v = 1)) ∧
    (∃ s t, exec (.windowExpiry) s = .next t ∧ (s.flag F.SAF_WIN_STATUS_OPEN = true) ∧ (s.winEnd ≤ s.us)) ∧
    (∃ s m k v t, exec (.injCfgWrite m k v) s = .next t ∧ (s.accepts m (R .SAF_INJ_CFG k) = true) ∧
      (s.winMay m = true)) ∧
    (∃ s m k v t, exec (.injCfgWrite m k v) s = .next t ∧ (s.accepts m (R .SAF_INJ_CFG k) = true) ∧
      (s.winMay m = false)) ∧
    (∃ s k t, exec (.injEnd k) s = .next t ∧ (k < 8) ∧ (s.flag F.SAF_INJ_CFG_EN k = true) ∧
      (s.rdN (R .SAF_INJ_DUR k) ≠ 0) ∧ (s.injAt.get 0 k + s.rdN (R .SAF_INJ_DUR k) ≤ s.us + 1)) :=
  ⟨⟨onState, 0, _, rfl, by decide +kernel⟩,
    ⟨onState, 6, 0, _, rfl, by decide +kernel⟩,
    ⟨onState, (R .DEV_IRQ_EN).addr, 1, (R .DEV_IRQ_EN), _, rfl, by decide +kernel⟩,
    ⟨onState, (R .DEV_IRQ_EN).addr, (R .DEV_IRQ_EN), _, rfl, by decide +kernel⟩,
    ⟨onState, .core 0, (F.SAF_WIN_CTRL_OPEN.put 1 0), _, rfl, by decide +kernel⟩,
    ⟨(upd_fuse onState fun x => { x with lc := 2 }), .spi, 0, _, rfl, by decide +kernel⟩,
    ⟨onState, .core 0, (F.SAF_WIN_CTRL_CLOSE.put 1 0), _, rfl, by decide +kernel⟩,
    ⟨(onState.setFld F.SAF_WIN_STATUS_OPEN 1), _, rfl, by decide +kernel⟩,
    ⟨onState, .core 0, 0, 0, _, rfl, by decide +kernel⟩,
    ⟨(upd_fuse onState fun x => { x with lc := 2 }), .spi, 0, 0, _, rfl, by decide +kernel⟩,
    ⟨((onState.setFld F.SAF_INJ_CFG_EN 1 0).wrN (R .SAF_INJ_DUR 0) 1), 0, _, rfl, by decide +kernel⟩⟩

/-- What AddressCommandsComplete asks for can be met. -/
theorem wit_AddressCommandsComplete :
    (∃ s m k v t, exec (.registerWrite m k.addr v) s = .next t ∧ (s.accepts m k = true) ∧ (k.addr < 2 ^ 32) ∧
      (k.addr % 4 = 0) ∧ (target k.addr = .reg k)) ∧
    (∃ s m v t, exec (.registerWrite m (R .DEV_IRQ_EN).addr v) s = .next t ∧ (s.accepts m (R .DEV_IRQ_EN) = true)) ∧
    (∃ s m k t, exec (.rcRead m k.addr 4) s = .next t ∧ (s.canIssue m = true) ∧ (s.denied m k.addr 0 = false) ∧
      (s.holdsBack m = false) ∧ (k.addr < 2 ^ 32) ∧ (k.addr % 4 = 0) ∧ (target k.addr = .reg k) ∧
      (s.regOn k = true)) ∧
    (∃ s m addr i k all v t, exec (.aliasWrite m addr v) s = .next t ∧ (s.canIssue m = true) ∧
      (s.holdsBack m = false) ∧ (s.denied m addr 1 = false) ∧ (addr < 2 ^ 32) ∧ (addr % 4 = 0) ∧
      (target addr = .set i k all) ∧ (s.selected i all ≠ [])) ∧
    (∃ s m addr i k all n l t, exec (.aliasRead m addr) s = .next t ∧ (s.canIssue m = true) ∧
      (s.holdsBack m = false) ∧ (s.denied m addr 0 = false) ∧ (addr < 2 ^ 32) ∧ (addr % 4 = 0) ∧
      (target addr = .set i k all) ∧ (s.selected i all = n :: l) ∧ (s.regOn ⟨k.id, n, k.j⟩ = true)) ∧
    (∃ s m addr kind t, exec (.decodeErr m true addr 4) s = .next t ∧ (s.canIssue m = true) ∧
      (s.holdsBack m = false) ∧ (s.denied m addr 1 = false) ∧ (addr < 2 ^ 32) ∧ (addr % 4 = 0) ∧
      (decodeKind addr 4 true = some kind) ∧ (kind < 4) ∧ (s.flag F.DEV_DECODE_ERR_VALID = false)) ∧
    (∃ s m addr kind t, exec (.decodeErr m true addr 4) s = .next t ∧ (s.canIssue m = true) ∧
      (s.holdsBack m = false) ∧ (s.denied m addr 1 = false) ∧ (addr < 2 ^ 32) ∧ (addr % 4 = 0) ∧
      (decodeKind addr 4 true = some kind) ∧ (s.flag F.DEV_DECODE_ERR_VALID = true)) ∧
    (∃ s m k t, exec (.accessErr m true k.addr) s = .next t ∧ (s.canIssue m = true) ∧
      (s.denied m k.addr 1 = false) ∧ (s.holdsBack m = false) ∧ (k.addr < 2 ^ 32) ∧ (k.addr % 4 = 0) ∧
      (target k.addr = .reg k) ∧ (s.regOn k = false) ∧ (s.flag F.PMU_ACCESS_ERR_VALID = false)) ∧
    (∃ s m k t, exec (.accessErr m false k.addr) s = .next t ∧ (s.canIssue m = true) ∧
      (s.denied m k.addr 0 = false) ∧ (s.holdsBack m = false) ∧ (k.addr < 2 ^ 32) ∧ (k.addr % 4 = 0) ∧
      (target k.addr = .reg k) ∧ (s.regOn k = false)) :=
  ⟨⟨onState, .core 0, (R .DEV_IRQ_EN), 1, _, rfl, by decide +kernel⟩,
    ⟨onState, .core 0, 0, _, rfl, by decide +kernel⟩,
    ⟨onState, .core 0, (R .DEV_IRQ_EN), _, rfl, by decide +kernel⟩,
    ⟨onState, .core 0, 0x2FF010, 1, (R .CAX_TX_PROFILE), true, 0, _, rfl, by decide +kernel⟩,
    ⟨onState, .core 0, 0x2FF010, 1, (R .CAX_TX_PROFILE), true, 0, [1], _, rfl, by decide +kernel⟩,
    ⟨(onState.setFld F.DEV_DECODE_ERR_VALID 0), .core 0, 0x01900000, 0, _, rfl, by decide +kernel⟩,
    ⟨(onState.setFld F.DEV_DECODE_ERR_VALID 1), .core 0, 0x01900000, 0, _, rfl, by decide +kernel⟩,
    ⟨((onState.setFld F.PMU_DOM_STATE 0 4).setFld F.PMU_ACCESS_ERR_VALID 0), .core 0, (R .CAX_TX_PROFILE), _, rfl,
      by decide +kernel⟩,
    ⟨(onState.setFld F.PMU_DOM_STATE 0 4), .core 0, (R .CAX_TX_PROFILE), _, rfl, by decide +kernel⟩⟩

/-- What InterfaceCommandsComplete asks for can be met. -/
theorem wit_InterfaceCommandsComplete :
    (∃ s k t, exec (.spiRead k.addr 1) s = .next t ∧ (s.holdsBack .spi = false) ∧ (k.addr < 2 ^ 32) ∧
      (k.addr % 4 = 0) ∧ (target k.addr = .reg k) ∧ (s.regOn k = true)) ∧
    (∃ s bytes a ws t, exec (.twiWrite bytes) s = .next t ∧ (s.twiServed = true) ∧ (msbWords bytes = a :: ws)) ∧
    (∃ s bytes a t, exec (.twiWrite bytes) s = .next t ∧ (s.twiServed = true) ∧ (msbWords bytes = [a])) ∧
    (∃ s k t, exec (.twiRead [] 1) s = .next t ∧ (s.twiServed = true) ∧ (s.holdsBack .twi = false) ∧
      (k.addr < 2 ^ 32) ∧ (k.addr % 4 = 0) ∧ (target k.addr = .reg k) ∧ (s.regOn k = true) ∧
      (s.fab.twiPtr = k.addr)) ∧
    (∃ s ans d w t0 t, exec (.rmtDone ans) s = .next t ∧ (s.yrdOn = true) ∧ (s.rmt = some (d, w, t0)) ∧
      (t0 + 20 ≤ s.us) ∧ (s.fab.waits = [])) ∧
    (∃ s x d t0 t, exec (.rmtDone (some x)) s = .next t ∧ (s.yrdOn = true) ∧ (s.rmt = some (d, false, t0)) ∧
      (d ≠ s.fuse.devId) ∧ (s.linkSt (s.linkTo d) ≠ 0) ∧ (s.flag F.YLN_LINK_STATUS_WIRING (s.linkTo d) = false) ∧
      (s.fab.waits = [])) :=
  ⟨⟨onState, (R .DEV_IRQ_EN), _, rfl, by decide +kernel⟩,
    ⟨onState, [0, 0, 0, 0x84, 0, 0, 0, 1], 0x84, [1], _, rfl, by decide +kernel⟩,
    ⟨onState, [0, 0, 0, 0x84], 0x84, _, rfl, by decide +kernel⟩,
    ⟨(upd_fab onState fun x => { x with twiPtr := (R .DEV_IRQ_EN).addr }), (R .DEV_IRQ_EN), _, rfl,
      by decide +kernel⟩,
    ⟨(upd_fab ({ ({ onState with us := 1000000000000 } : State) with rmt := some (1, false, 0) } : State) fun x =>
      { x with waits := [] }), none, 1, false, 0, _, rfl, by decide +kernel⟩,
    ⟨({ (onState.setFld F.YLN_LINK_STATUS_STATE 1 0) with rmt := some (1, false, 0) } : State), 0, 1, 0, _, rfl,
      by decide +kernel⟩⟩

/-- What StepRunsFrontCommand asks for can be met. -/
theorem wit_StepRunsFrontCommand :
    (∃ (s : State) (c : Instr) (rest : List Instr), s.pending = c :: rest) :=
  ⟨{ State.reset with pending := [.spiStatus, .pgFall 0] }, .spiStatus, [.pgFall 0], rfl⟩

/-- What EmptyQueueIsAMicrosecond asks for can be met. -/
theorem wit_EmptyQueueIsAMicrosecond :
    (∃ s : State, s.pending = []) :=
  ⟨State.reset, rfl⟩

/-- What ExecKeepsQueue asks for can be met. -/
theorem wit_ExecKeepsQueue :
    (∃ c s t, exec c s = .next t) :=
  ⟨.pgFall 0, State.reset, _, rfl⟩

/-- What StepKeepsInvariant asks for can be met. -/
theorem wit_StepKeepsInvariant :
    (∃ s t : State, s.Inv ∧ step s = .next t) :=
  ⟨State.reset, _, ⟨rfl, rfl, rfl, rfl⟩, rfl⟩

/-- What VariantNeverChanges asks for can be met. -/
theorem wit_VariantNeverChanges :
    (∃ c s t, exec c s = .next t) :=
  ⟨.pgFall 0, State.reset, _, rfl⟩

/-- What CoreInterruptEnables asks for can be met. -/
theorem wit_CoreInterruptEnables :
    (∃ s m c v t, exec (.registerWrite m (R .DEV_CORE_IRQ_EN c).addr v) s = .next t ∧
      (s.accepts m (R .DEV_CORE_IRQ_EN c) = true) ∧ (c < 4) ∧ (ownCore m c = true)) ∧
    (∃ s m c v t, exec (.registerWrite m (R .DEV_CORE_IRQ_EN c).addr v) s = .next t ∧
      (s.accepts m (R .DEV_CORE_IRQ_EN c) = true) ∧ (c < 4) ∧ (ownCore m c = false) ∧
      (s.flag F.DEV_DECODE_ERR_VALID = false)) ∧
    (∃ s m c v t, exec (.registerWrite m (R .DEV_CORE_IRQ_EN c).addr v) s = .next t ∧
      (s.accepts m (R .DEV_CORE_IRQ_EN c) = true) ∧ (c < 4) ∧ (ownCore m c = false) ∧
      (s.flag F.DEV_DECODE_ERR_VALID = true)) :=
  ⟨⟨onState, .core 0, 0, 0, _, rfl, by decide +kernel⟩,
    ⟨(onState.setFld F.DEV_DECODE_ERR_VALID 0), .spi, 0, 0, _, rfl, by decide +kernel⟩,
    ⟨(onState.setFld F.DEV_DECODE_ERR_VALID 1), .spi, 0, 0, _, rfl, by decide +kernel⟩⟩

/-- What InterruptTree asks for can be met. -/
theorem wit_InterruptTree :
    (∃ (s : State) (b : Nat), s.Inv ∧ b < 20) :=
  ⟨State.reset, 19, ⟨rfl, rfl, rfl, rfl⟩, by decide⟩

/-- What ChainedCounters asks for can be met. -/
theorem wit_ChainedCounters :
    (∃ (s t : State) (k n : Nat), t = s.pmcGain (2 * k) n ∧ (s.Inv) ∧ (s.mgmtOn = true) ∧ (k < 16) ∧
      (s.flag F.PMC_CFG_EN = true) ∧ (s.flag F.PMC_CTR_CFG_EN (2 * k) = true) ∧
      (s.flag F.PMC_CTR_CFG_EN (2 * k + 1) = true) ∧ (s.flag F.PMC_CTR_CFG_CHAIN (2 * k + 1) = true)) ∧
    (∃ (s : State) (k ev n : Nat), (s.Inv) ∧ (s.mgmtOn = true) ∧ (k < 16) ∧ (s.flag F.PMC_CFG_EN = true) ∧
      (s.flag F.PMC_CTR_CFG_EN (2 * k) = true) ∧ (s.flag F.PMC_CTR_CFG_EN (2 * k + 1) = true) ∧
      (s.flag F.PMC_CTR_CFG_CHAIN (2 * k + 1) = true) ∧ (s.fld F.PMC_CTR_CFG_EVENT (2 * k) = ev →
      s.pmcVal (2 * k) + n < 2 ^ 48)) ∧
    (∃ s k gain pc seg t, exec (.ovf (2 * k) gain pc seg) s = .next t ∧ (s.Inv) ∧ (s.mgmtOn = true) ∧ (k < 16) ∧
      (s.flag F.PMC_CFG_EN = true) ∧ (s.flag F.PMC_CTR_CFG_EN (2 * k) = true) ∧
      (s.flag F.PMC_CTR_CFG_EN (2 * k + 1) = true) ∧ (s.flag F.PMC_CTR_CFG_CHAIN (2 * k + 1) = true) ∧
      (coreEvent (s.fld F.PMC_CTR_CFG_EVENT (2 * k)) = true) ∧ (s.fld F.PMC_CTR_CFG_QUAL (2 * k) = 0xFFF)) :=
  ⟨⟨(((((onState.setFld F.PMC_CFG_EN 1).setFld F.PMC_CTR_CFG_EN 1 0).setFld F.PMC_CTR_CFG_EN 1 1).setFld
      F.PMC_CTR_CFG_CHAIN 1 1).setFld F.PMC_CTR_CFG_EVENT 1 0), _, 0, 2 ^ 48, rfl, ⟨by decide +kernel, rfl, rfl,
      rfl⟩, by decide +kernel⟩,
    ⟨(((((onState.setFld F.PMC_CFG_EN 1).setFld F.PMC_CTR_CFG_EN 1 0).setFld F.PMC_CTR_CFG_EN 1 1).setFld
      F.PMC_CTR_CFG_CHAIN 1 1).setFld F.PMC_CTR_CFG_EVENT 1 0), 0, 1, 5, ⟨by decide +kernel, rfl, rfl, rfl⟩,
      by decide +kernel⟩,
    ⟨((((((onState.setFld F.PMC_CTR_CFG_EVENT 0x10 0).setFld F.PMC_CFG_EN 1).setFld F.PMC_CTR_CFG_EN 1 (2 *
      0)).setFld F.PMC_CTR_CFG_EN 1 (2 * 0 + 1)).setFld F.PMC_CTR_CFG_CHAIN 1 (2 * 0 + 1)).setFld F.PMC_CTR_CFG_QUAL
      0xFFF (2 * 0)), 0, 0, 0, 0, _, rfl, ⟨by decide +kernel, rfl, rfl, rfl⟩, by decide +kernel⟩⟩

/-- What AliasesOnAZq2000 asks for can be met. -/
theorem wit_AliasesOnAZq2000 :
    (∃ s m addr i k all v t, exec (.aliasWrite m addr v) s = .next t ∧ (s.fuse.zq2000 = true) ∧
      (s.canIssue m = true) ∧ (s.holdsBack m = false) ∧ (addr < 2 ^ 32) ∧ (addr % 4 = 0) ∧
      (target addr = .set i k all) ∧ (s.denied m addr 1 = false) ∧ (s.selected i all ≠ [])) ∧
    (∃ s m addr i k all n l t, exec (.aliasRead m addr) s = .next t ∧ (s.fuse.zq2000 = true) ∧
      (s.canIssue m = true) ∧ (s.holdsBack m = false) ∧ (addr < 2 ^ 32) ∧ (addr % 4 = 0) ∧
      (target addr = .set i k all) ∧ (s.denied m addr 0 = false) ∧ (s.selected i all = n :: l) ∧ (s.regOn ⟨k.id, n,
      k.j⟩ = true)) ∧
    (∃ s m addr i k all t, exec (.aliasRead m addr) s = .next t ∧ (s.fuse.zq2000 = true) ∧ (s.canIssue m = true) ∧
      (s.holdsBack m = false) ∧ (addr < 2 ^ 32) ∧ (addr % 4 = 0) ∧ (target addr = .set i k all) ∧
      (s.denied m addr 0 = false) ∧ (s.selected i all = [])) :=
  ⟨⟨(upd_fuse (upd_fuse onState fun x => { x with zq2000 := true }) fun x => { x with zq2000 := true }), .core 0,
      0x2FF010, 1, (R .CAX_TX_PROFILE), true, 0, _, rfl, by decide +kernel⟩,
    ⟨(upd_fuse (upd_fuse onState fun x => { x with zq2000 := true }) fun x => { x with zq2000 := true }), .core 0,
      0x2FF010, 1, (R .CAX_TX_PROFILE), true, 0, [], _, rfl, by decide +kernel⟩,
    ⟨(upd_fuse (upd_fuse onState fun x => { x with zq2000 := true }) fun x => { x with zq2000 := true }), .core 0,
      0x2FE010, 1, (R .CAX_TX_PROFILE), false, _, rfl, by decide +kernel⟩⟩

/-- What MemoryReadBack asks for can be met. -/
theorem wit_MemoryReadBack :
    (∃ s m a v t, exec (.registerWrite m a v) s = .next t ∧ (s.canIssue m = true) ∧ (s.holdsBack m = false) ∧
      (0x01100000 ≤ a) ∧ (a < 0x01300000) ∧ (a % 4 = 0) ∧ (s.denied m a 1 = false) ∧ (s.denied m a 0 = false) ∧
      (s.blockOn 1 (a / 4096) = true)) ∧
    (∃ (s : _) (m : _) (off : _) (v : _) (w : W32) (t : _), exec (.tackRoomWrite m off v) s = .next t ∧
      (s.canIssue m = true) ∧ (s.holdsBack m = false) ∧ (off % 8 = 0) ∧ (off + 8 ≤ 0x80000) ∧
      (s.denied m (trBus off) 1 = false) ∧ (s.denied m (trBus (off + 4)) 1 = false) ∧
      (s.denied m (trBus off) 0 = false) ∧ (s.denied m (trBus (off + 4)) 0 = false) ∧
      (s.blockOn 1 (trPage off) = true) ∧ (s.tackAccepts m (s.trAddr off) = true) ∧ (0x50000 ≤ s.trAddr off) ∧
      (s.trAddr off < 0x60000 ∨ 0x100000 ≤ s.trAddr off)) :=
  ⟨⟨onState, .core 0, 0x01100000, 0x12345678, _, rfl, by decide +kernel⟩,
    ⟨onState, .core 0, 0x50000, 1, 2, _, rfl, by decide +kernel⟩⟩

/-- What PairedHalves asks for can be met. -/
theorem wit_PairedHalves :
    (∃ (s : _) (m : _) (n : _) (lo : _) (hi : W32) (t : _),
      exec (.registerWrite m (R .PMC_CTR_LO n).addr lo) s = .next t ∧ (s.accepts m (R .PMC_CTR_LO n) = true) ∧
      (s.accepts m (R .PMC_CTR_HI n) = true)) ∧
    (∃ (s : _) (m : _) (m2 : _) (n : _) (lo : _) (lo2 : W32) (hi : W32) (t : _),
      exec (.registerWrite m (R .PMC_CTR_LO n).addr lo) s = .next t ∧ (s.accepts m (R .PMC_CTR_LO n) = true) ∧
      (s.accepts m2 (R .PMC_CTR_LO n) = true) ∧ (s.accepts m (R .PMC_CTR_HI n) = true) ∧
      (masterCode m ≠ masterCode m2)) :=
  ⟨⟨onState, .core 0, 0, 5, 6, _, rfl, by decide +kernel⟩,
    ⟨onState, .core 0, .spi, 0, 5, 7, 6, _, rfl, by decide +kernel⟩⟩

/-- What EventBitsClearWhereOneIsWritten asks for can be met. -/
theorem wit_EventBitsClearWhereOneIsWritten :
    (∃ s m i v t, exec (.registerWrite m (R .CAX_RX_EVT i).addr v) s = .next t ∧
      (s.accepts m (R .CAX_RX_EVT i) = true)) ∧
    (∃ s m i v t, exec (.registerWrite m (R .SCX_FEC_EVT i).addr v) s = .next t ∧
      (s.accepts m (R .SCX_FEC_EVT i) = true)) ∧
    (∃ s m i v t, exec (.registerWrite m (R .LFM_CA_EVT i).addr v) s = .next t ∧
      (s.accepts m (R .LFM_CA_EVT i) = true)) ∧
    (∃ s m i v t, exec (.registerWrite m (R .LFM_GRP_EVT i).addr v) s = .next t ∧
      (s.accepts m (R .LFM_GRP_EVT i) = true)) ∧
    (∃ s m i v t, exec (.registerWrite m (R .HLN_LANE_EVT i).addr v) s = .next t ∧
      (s.accepts m (R .HLN_LANE_EVT i) = true)) ∧
    (∃ s m i v t, exec (.registerWrite m (R .YLN_LINK_EVT i).addr v) s = .next t ∧
      (s.accepts m (R .YLN_LINK_EVT i) = true)) ∧
    (∃ s m v t, exec (.registerWrite m (R .SOF_EVT).addr v) s = .next t ∧ (s.accepts m (R .SOF_EVT) = true)) ∧
    (∃ s m v t, exec (.registerWrite m (R .HAY_EVT).addr v) s = .next t ∧ (s.accepts m (R .HAY_EVT) = true)) ∧
    (∃ s m v t, exec (.registerWrite m (R .CIP_EVT).addr v) s = .next t ∧ (s.accepts m (R .CIP_EVT) = true)) ∧
    (∃ s m v t, exec (.registerWrite m (R .PMU_EVT).addr v) s = .next t ∧ (s.accepts m (R .PMU_EVT) = true)) ∧
    (∃ s m v t, exec (.registerWrite m (R .RST_EVT).addr v) s = .next t ∧ (s.accepts m (R .RST_EVT) = true)) ∧
    (∃ s m v t, exec (.registerWrite m (R .STB_EVT).addr v) s = .next t ∧ (s.accepts m (R .STB_EVT) = true)) ∧
    (∃ s m v t, exec (.registerWrite m (R .MON_EVT).addr v) s = .next t ∧ (s.accepts m (R .MON_EVT) = true)) ∧
    (∃ s m v t, exec (.registerWrite m (R .PCC_EVT).addr v) s = .next t ∧ (s.accepts m (R .PCC_EVT) = true)) ∧
    (∃ s m v t, exec (.registerWrite m (R .CAL_EVT).addr v) s = .next t ∧ (s.accepts m (R .CAL_EVT) = true)) ∧
    (∃ s m v t, exec (.registerWrite m (R .BST_EVT).addr v) s = .next t ∧ (s.accepts m (R .BST_EVT) = true)) :=
  ⟨⟨onState, .core 0, 0, 0, _, rfl, by decide +kernel⟩,
    ⟨onState, .core 0, 0, 0, _, rfl, by decide +kernel⟩,
    ⟨onState, .core 0, 0, 0, _, rfl, by decide +kernel⟩,
    ⟨onState, .core 0, 0, 0, _, rfl, by decide +kernel⟩,
    ⟨onState, .core 0, 0, 0, _, rfl, by decide +kernel⟩,
    ⟨onState, .core 0, 0, 0, _, rfl, by decide +kernel⟩,
    ⟨onState, .core 0, 0, _, rfl, by decide +kernel⟩,
    ⟨onState, .core 0, 0, _, rfl, by decide +kernel⟩,
    ⟨onState, .core 0, 0, _, rfl, by decide +kernel⟩,
    ⟨onState, .core 0, 0, _, rfl, by decide +kernel⟩,
    ⟨onState, .core 0, 0, _, rfl, by decide +kernel⟩,
    ⟨onState, .core 0, 0, _, rfl, by decide +kernel⟩,
    ⟨onState, .core 0, 0, _, rfl, by decide +kernel⟩,
    ⟨onState, .core 0, 0, _, rfl, by decide +kernel⟩,
    ⟨onState, .core 0, 0, _, rfl, by decide +kernel⟩,
    ⟨onState, .core 0, 0, _, rfl, by decide +kernel⟩⟩

/-- What DeniedAccessesHaveNoEffect asks for can be met. -/
theorem wit_DeniedAccessesHaveNoEffect :
    (∃ s c addr size t, exec (.rcRead (.user c) addr size) s = .next t ∧ (c < 4) ∧ (s.canIssue (.user c) = true) ∧
      (addr < 2 ^ 32) ∧ (addr % width size = 0) ∧ (s.mpuDenies c addr 0 false = true) ∧
      (s.flag F.CORE_MPU_FAULT_INFO_VALID c = false)) ∧
    (∃ s c addr v t, exec (.registerWrite (.core c) addr v) s = .next t ∧ (c < 4) ∧ (s.canIssue (.core c) = true) ∧
      (addr < 2 ^ 32) ∧ (addr % 4 = 0) ∧ (s.mpuDenies c addr 1 true = true) ∧
      (s.flag F.CORE_MPU_FAULT_INFO_VALID c = false)) ∧
    (∃ (s : State) (c addr : Nat), ∀ r, r < 16 → s.mpuHit c r addr = false) :=
  ⟨⟨(onState.setFld F.CORE_MPU_FAULT_INFO_VALID 0 0), 0, 0, 0, _, rfl, by decide +kernel⟩,
    ⟨(((onState.setFld F.CORE_MPU_CFG_EN 1 0 0).setFld F.CORE_MPU_CFG_M 1 0 0).setFld F.CORE_MPU_FAULT_INFO_VALID 0
      0), 0, 0, 0, _, rfl, by decide +kernel⟩,
    ⟨State.reset, 0, 0, by decide +kernel⟩⟩

/-- What LineFrames asks for can be met. -/
theorem wit_LineFrames :
    (∃ (s t : State) (k : RegKey), exec (.announce 0) s = .next t ∧ k.id = .DEV_ID) :=
  ⟨onState, _, R .DEV_ID, rfl, rfl⟩

/-- What TrafficFrames asks for can be met. -/
theorem wit_TrafficFrames :
    (∃ (s t : State) (k : RegKey), exec (.grpHoldEnd 0) s = .next t ∧ k.id = .DEV_ID) :=
  ⟨onState, _, R .DEV_ID, rfl, rfl⟩

/-- What TimingFrames asks for can be met. -/
theorem wit_TimingFrames :
    (∃ (s t : State) (k : RegKey), exec (.secMis) s = .next t ∧ k.id = .DEV_ID) :=
  ⟨onState, _, R .DEV_ID, rfl, rfl⟩

/-- What SideFrames asks for can be met. -/
theorem wit_SideFrames :
    (∃ (s t : State) (k : RegKey), exec (.cdrLock 0) s = .next t ∧ k.id = .DEV_ID) :=
  ⟨onState, _, R .DEV_ID, rfl, rfl⟩

/-- What ManagementFrames asks for can be met. -/
theorem wit_ManagementFrames :
    (∃ (s t : State) (k : RegKey), exec (.xtalOk) s = .next t ∧ k.id = .DEV_ID) :=
  ⟨onState, _, R .DEV_ID, rfl, rfl⟩

/-- What WideFrames asks for can be met. -/
theorem wit_WideFrames :
    (∃ (s t : State), exec (.testAdmit) s = .next t) :=
  ⟨onState, _, rfl⟩

/-- What InstanceFrames asks for can be met. -/
theorem wit_InstanceFrames :
    (∃ (s t : State) (k : RegKey), exec (.degSet 0) s = .next t ∧ k.id ∈ [RegId.SCX_RX_STATUS, RegId.SCX_RX_EVT] ∧
      k.i ≠ 0) :=
  ⟨onState, _, R .SCX_RX_STATUS 1, rfl, by decide, by decide⟩

/-- What MemoryStores asks for can be met. -/
theorem wit_MemoryStores :
    (∃ (s t : State) (x : Nat), exec (.tackRoomWrite (.core 0) 4 7) s = .next t ∧
      (x < s.trAddr 4 / 8 * 8 ∨ s.trAddr 4 / 8 * 8 + 8 ≤ x)) ∧
    (∃ (s t : State), exec (.tackRoomWrite (.core 0) 0 7) s = .next t ∧
      (s.trAddr 0 % 8 < 4 ∨ s.tackAccepts (.core 0) (s.trAddr 0) = false)) ∧
    (∃ (s t : State) (x : Nat), exec .logDrain s = .next t ∧
      (x < 0x10000 + 64 * (s.logSeq % 4096) ∨ 0x10000 + 64 * (s.logSeq % 4096) + 64 ≤ x)) ∧
    (∃ (s t : State) (c : Option Nat) (x : Nat), exec (.registerWrite (.core 0) 0x01100004 7) s = .next t ∧
      target (0x01100004 % 2 ^ 32 / 4 * 4) = .ram c ∧ (x < 0x01100004 % 2 ^ 32 / 4 * 4 ∨ 0x01100004 % 2 ^ 32 / 4 * 4
      + 4 ≤ x)) ∧
    (∃ (s t : State) (x : Nat), exec .dump s = .next t ∧ s.flag F.PMC_DUMP_CFG_DEST = false ∧
      (x < 0x01100000 + s.rdN (R .PMC_DUMP_BASE) ∨ 0x01100000 + s.rdN (R .PMC_DUMP_BASE) + s.dumpSize ≤ x)) ∧
    (∃ (s t : State) (x : Nat), exec .dump s = .next t ∧ s.Inv ∧ s.flag F.PMC_DUMP_CFG_DEST = true ∧
      (x < s.capBase + s.rdN (R .PMC_DUMP_BASE) ∨ s.capBase + s.rdN (R .PMC_DUMP_BASE) + s.dumpSize ≤ x)) ∧
    (∃ (s t : State) (x : Nat), exec (.apertureWrite (.core 0) 64 7) s = .next t ∧ s.hay.merge.length < 256 ∧
      (∀ y ∈ s.hay.merge, y.line = s.aptPhys 64 / 64 → y.bytes.length < 60) ∧
      (x < s.aptPhys 64 / 4 * 4 ∨ s.aptPhys 64 / 4 * 4 + 4 ≤ x)) ∧
    (∃ (s t : State) (y : Merge) (x : Nat), exec (.mergeWriteBack 5 .clean) s = .next t ∧
      s.hay.merge.find? (fun y => y.line = 5) = some y ∧ s.blockOpen (5 / 1024) = true ∧ ∀ b ∈ y.bytes,
      x ≠ 64 * y.line + b.1) ∧
    (∃ (s t : State) (x : Nat), exec (.hayAccessDone ⟨5, .flowWrite 3, .clean⟩) s = .next t ∧ s.readUp = true ∧
      (x < 64 * 5 ∨ 64 * 5 + 64 ≤ x)) ∧
    (∃ (s t : State), exec (.hayAccessDone ⟨5, .descrWrite 3 0 false, .clean⟩) s = .next t ∧ s.readUp = true) ∧
    (∃ (s t : State) (x : Nat), exec (.hayAccessDone ⟨5, .capWrite, .clean⟩) s = .next t ∧ s.readUp = true ∧
      0 < s.capBytes ∧ s.inCap x = false) ∧
    (∃ (s t : State) (x : Nat), exec (.capCfgWrite (.core 0) 1) s = .next t ∧ s.inCap x = false) ∧
    (∃ (s t : State) (x : Nat), exec (.capClr (.core 0) 1) s = .next t ∧ s.inCap x = false) :=
  ⟨⟨onState, _, 8, rfl, by decide +kernel⟩,
    ⟨onState, _, rfl, by decide +kernel⟩,
    ⟨onState, _, 0x10040, rfl, by decide +kernel⟩,
    ⟨onState, _, none, 0x01100008, rfl, by decide +kernel⟩,
    ⟨onState, _, 0, rfl, by decide +kernel⟩,
    ⟨State.put onState [(R .PMC_DUMP_CFG, F.PMC_DUMP_CFG_DEST.put 1 0)], _, 0, rfl, ⟨by decide +kernel, rfl, rfl, rfl⟩,
      by decide +kernel⟩,
    ⟨onState, _, 63, rfl, by decide +kernel⟩,
    ⟨upd_hay onState fun h => { h with merge := [⟨5, [(0, some 7)]⟩], blocks := [0] }, _, ⟨5, [(0, some 7)]⟩, 0,
      rfl, by decide +kernel⟩,
    ⟨upd_hay onState fun h => { h with acc := [⟨5, .flowWrite 3, [7]⟩] }, _, 0, rfl, by decide +kernel⟩,
    ⟨upd_hay onState fun h => { h with acc := [⟨5, .descrWrite 3 0 false, []⟩] }, _, rfl, by decide +kernel⟩,
    ⟨State.put onState [(R .HAY_CFG, F.HAY_CFG_CAP_SIZE.put 1 0)], _, 0, rfl, by decide +kernel⟩,
    ⟨onState, _, 0, rfl, by decide +kernel⟩,
    ⟨onState, _, 0, rfl, by decide +kernel⟩⟩

/-- What AliasReadIsOneDirectRead asks for can be met. -/
theorem wit_AliasReadIsOneDirectRead :
    (∃ s m addr i k all n l t, exec (.aliasRead m addr) s = .next t ∧ (s.canIssue m = true) ∧
      (s.holdsBack m = false) ∧ (addr < 2 ^ 32) ∧ (addr % 4 = 0) ∧ (target addr = .set i k all) ∧
      (s.denied m addr 0 = false) ∧ (s.selected i all = n :: l)) ∧
    (∃ s m addr i k all n l t, exec (.aliasRead m addr) s = .next t ∧ (s.canIssue m = true) ∧
      (s.holdsBack m = false) ∧ (addr < 2 ^ 32) ∧ (addr % 4 = 0) ∧ (target addr = .set i k all) ∧
      (s.denied m addr 0 = false) ∧ (s.selected i all = n :: l) ∧ (s.regOn ⟨k.id, n, k.j⟩ = true) ∧
      (k.id.info.rc ≠ 0)) ∧
    (∃ s m addr i k all n l t, exec (.aliasRead m addr) s = .next t ∧ (s.canIssue m = true) ∧
      (s.holdsBack m = false) ∧ (addr < 2 ^ 32) ∧ (addr % 4 = 0) ∧ (target addr = .set i k all) ∧
      (s.denied m addr 0 = false) ∧ (s.selected i all = n :: l) ∧ (s.regOn ⟨k.id, n, k.j⟩ = true) ∧
      (upper k.id ≠ [])) ∧
    (∃ s m addr i k all n l t, exec (.aliasRead m addr) s = .next t ∧ (s.canIssue m = true) ∧
      (s.holdsBack m = false) ∧ (addr < 2 ^ 32) ∧ (addr % 4 = 0) ∧ (target addr = .set i k all) ∧
      (s.denied m addr 0 = false) ∧ (s.selected i all = n :: l) ∧ (s.regOn ⟨k.id, n, k.j⟩ = false)) :=
  ⟨⟨onState, .core 0, 0x2FF010, 1, (R .CAX_TX_PROFILE), true, 0, [1], _, rfl, by decide +kernel⟩,
    ⟨onState, .core 0, 0x2FF340, 1, (R .CAX_RX_LOS_CNT), true, 0, [1], _, rfl, by decide +kernel⟩,
    ⟨onState, .core 0, 0x3FF224, 2, (R .SCX_FEC_SEC_BITS_LO), true, 0, [1, 2, 3, 4, 5, 6, 7, 8, 9, 10, 11, 12, 13,
      14, 15], _, rfl, by decide +kernel⟩,
    ⟨(onState.setFld F.PMU_DOM_STATE 0 4), .core 0, 0x2FF010, 1, (R .CAX_TX_PROFILE), true, 0, [1], _, rfl,
      by decide +kernel⟩⟩

/-- What LineWordsRoundTrip asks for can be met. -/
theorem wit_LineWordsRoundTrip :
    (∃ h : Header, h.fn < 256 ∧ h.count < 32 ∧ h.desc < 256 ∧ h.scid < 8) ∧
    (∃ o : Overhead, o.rdiMap < 256 ∧ o.jc < 2048 ∧ o.sr < 65536) ∧
    (∃ len : Nat, 64 ≤ len ∧ len ≤ 9248) :=
  ⟨⟨⟨255, true, 16, 255, true, 7⟩, by decide⟩,
    ⟨⟨255, 2047, 65535, 1, 2, (3, 4), (5, 6), (7, 8)⟩, by decide⟩,
    ⟨9248, by decide⟩⟩

/-- What TransmittedSymbols asks for can be met. -/
theorem wit_TransmittedSymbols :
    (∃ j : Nat, j < 256) ∧
    (∃ n : Nat, n < 48) ∧
    (∃ (n wf b : Nat) (slot : Nat → List Byte), b < n * wf ∧ slot (b % n) = []) ∧
    (∃ (s : State) (i e : Nat), mapValid ((s.sc i).mapTx.getD e 0) = false) :=
  ⟨⟨255, by decide⟩,
    ⟨47, by decide⟩,
    ⟨8, 2, 15, fun _ => [], by decide, rfl⟩,
    ⟨onState, 15, 9, by decide +kernel⟩⟩

/-! ## The spec's worked examples, one step each -/

/-- The entropy of L1600 with RATE 0x700 and SLOTS 8 (the worked example of spec/03): K is 5,057 with PCS-64QAM. -/
theorem test_entropy_of_l1600 : F.CAX_TX_ENTROPY_K.get (entropy 0x07008000) = 5057 ∧
    F.CAX_TX_ENTROPY_CONST.get (entropy 0x07008000) = 2 := by decide

/-- RATE 0x800 with SLOTS 8 and EXPRESS 0x18 is legal, and carries 60 slots where L2000 carries 76 (the worked
example of spec/02). -/
theorem test_profile_of_the_hub : profCode 0x08008018 = 0 ∧ ((List.range 8).map (pScSlots 0x08008018)).sum = 60 ∧
    ((List.range 8).map (pScSlots 0x0800A018)).sum = 76 := by decide

/-- 1,615 ps/nm falls in express step 2 (the worked example of spec/02). -/
theorem test_express_step : expStep (1615 * 8) = 2 := by decide

/-- Subcarrier SC3 of carrier 1 is instance 11, at page address 0x0030_B000 (the worked example of spec/00). -/
theorem test_subcarrier_address : target 0x0030B100 = .reg (R .SCX_RX_CFG 11) ∧ (R .SCX_RX_CFG 11).addr = 0x0030B100 :=
  by decide +kernel

/-- A GO that would take away mapped slots is refused with code 0x3 (the worked example of spec/02). -/
theorem test_go_refused : ∃ t, exec (.go (.core 0) 0 (F.CAX_CHG_CTRL_GO.put 1 0))
    (State.put { onState with scs := [(0, { Sc.init with mapTx := (List.replicate 9 0) ++ [0x80000000] })] }
      [(R .CAX_TX_NEXT, 0x08008018), (R .LFM_GRP_CFG 0, F.LFM_GRP_CFG_EN.put 1 (F.LFM_GRP_CFG_MEMBERS.put 1 0))]) =
    .next t ∧ t.fld F.CAX_CHG_STATUS_REFUSE = 3 :=
  ⟨_, rfl, by decide +kernel⟩

/-- The broadcast write of the worked example of spec/18: with CA1 in RETENTION, SCX[0] to SCX[7] take the value, and
PMU.ACCESS_ERR reads VALID 1, WRITE 1, DOMAIN 5, CNT 7 with address 0x0030_8100. -/
theorem test_broadcast_write : ∃ t, exec (.spiWrite 0x003FF100 [0x0000061F])
    (State.put onState [(R .PMU_DOM 5, F.PMU_DOM_STATE.put 1 0)]) = .next t ∧
    ((List.range 8).all fun n => t.rd (R .SCX_RX_CFG n) == 0x61F) = true ∧
    t.flag F.PMU_ACCESS_ERR_VALID = true ∧ t.flag F.PMU_ACCESS_ERR_WRITE = true ∧ t.fld F.PMU_ACCESS_ERR_DOMAIN = 5 ∧
    t.fld F.PMU_ACCESS_ERR_CNT = 7 ∧ t.rdN (R .PMU_ACCESS_ERR_ADDR) = 0x00308100 :=
  ⟨_, rfl, by decide +kernel⟩

/-- With that event enabled IRQ_STATUS reads 0x0000_0002 (the same example). -/
theorem test_irq_status : (State.put onState [(R .PMU_EVT, F.PMU_EVT_ACCESS_ERR.put 1 0),
    (R .PMU_EVT_EN, F.PMU_EVT_ACCESS_ERR.put 1 0)]).irqStatus = 2 := by decide +kernel

/-- An enabled UNC of SCX[3]: IRQ_STATUS reads 0x0000_0100 and IRQ_DETAIL[0] 0x0008_0000 (the same example). -/
theorem test_irq_detail : (State.put onState [(R .SCX_FEC_EVT 3, F.SCX_FEC_EVT_UNC.put 1 0),
    (R .SCX_FEC_EVT_EN 3, F.SCX_FEC_EVT_UNC.put 1 0)]).irqStatus = 0x100 ∧
    (State.put onState [(R .SCX_FEC_EVT 3, F.SCX_FEC_EVT_UNC.put 1 0),
      (R .SCX_FEC_EVT_EN 3, F.SCX_FEC_EVT_UNC.put 1 0)]).view .spi (R .DEV_IRQ_DETAIL 0 0) = 0x00080000 := by
  decide +kernel

/-- A group-alias read over SPI with mask 0x18 sends 0xA5 and FEC_SEC_UNC of SCX[3] (the same example). -/
theorem test_group_read : ∃ t, exec (.spiRead 0x003FE238 1)
    (State.put onState [(R .DEV_GROUP_MASK 2, 0x18), (R .SCX_FEC_SEC_UNC 3, 3), (R .SCX_FEC_SEC_UNC 4, 9)]) = .next t ∧
    t.fab.spiOut = [0xA5, 0, 0, 0, 3] :=
  ⟨_, rfl, by decide +kernel⟩

/-- A dump of six counters is 80 bytes padded to 128 (the worked example of spec/17). -/
theorem test_dump_record : (State.put onState [(R .PMC_DUMP_MASK, 0x3F)]).dumpRecord.length = 128 := by decide +kernel

/-- The asymmetry of the worked example of spec/11 is 8,156 ps. -/
theorem test_asymmetry : asymPs 8048 8267 193100000 194100000 = 8156 := by decide

/-- A level of -43.4 dB gives the bank a gain of 24.0 dB (the worked example of spec/13). -/
theorem test_bank_gain : bankGain (-434) = 240 := by decide

/-- Device 0's pair 0 reaches device 1 and its pair 1 device 2; device 2 reaches device 1 by pair 2 (the worked example
of spec/14). -/
theorem test_yard_wiring : State.reset.partner 0 = 1 ∧ State.reset.partner 1 = 2 ∧
    (upd_fuse State.reset fun f => { f with devId := 2 }).partner 2 = 1 := by decide +kernel

/-- A group's skew of 14.7 µs is taken on the die, one of 166.6 µs through the Hayloft (the worked example of
spec/06). -/
theorem test_deskew_mode :
    ((State.put onState [(R .LFM_GRP_CFG 5, F.LFM_GRP_CFG_HAY_OK.put 1 0),
      (R .HAY_CFG, F.HAY_CFG_DSK_SIZE.put 3 0)]).grpMode
      5 14700 true).grp 5 = Group.init ∧
    (((State.put onState [(R .LFM_GRP_CFG 5, F.LFM_GRP_CFG_HAY_OK.put 1 0),
      (R .HAY_CFG, F.HAY_CFG_DSK_SIZE.put 3 0)]).grpMode
      5 166600 true).grp 5).hay = true := by decide +kernel

/-- The slots of the Sorting Office's pipeline in a microsecond number 8,000: the count of event 0x080 (R404). -/
theorem test_slots : ((State.put onState [(R .PMC_CFG, F.PMC_CFG_EN.put 1 0), (R .PMC_CTR_CFG, F.PMC_CTR_CFG_EN.put 1
    (F.PMC_CTR_CFG_EVENT.put 0x080 (F.PMC_CTR_CFG_QUAL.put 0xFFF 0)))]).count 0x080 0 8000).pmcVal
    0 = 8000 := by decide +kernel

/-- The CRC-32 of the digits 1 to 9 is the standard's check value. -/
theorem test_crc32 : crc32 [0x31, 0x32, 0x33, 0x34, 0x35, 0x36, 0x37, 0x38, 0x39] = 0xCBF43926 := by decide +kernel

/-- The guard bits of a header are 0x70 in X and 0xC3 in Y (R113). -/
theorem test_guard_bits : guardBits false = 0x70 ∧ guardBits true = 0xC3 := by decide

/-- Every idle record reads 0x0000_1D0F (R160). -/
theorem test_idle_record : recordHeader 0 0 = 0x00001D0F := by decide +kernel

/-- A group's markers lie 32,784 bytes apart on a member (R140). -/
theorem test_marker_period : markerPeriod = 32784 := by decide

/-- At L1600 with a roll-off of 4, SC0 is centred at -101.92 GHz and the converters run at 252 GS/s (the worked example
of spec/03). -/
theorem test_geometry : scCentre 224 4 0 * 100 = -10192 * 1600 ∧ sampleRate 224 = 252 * 8 := by decide

/-- 105 °C at the die's sensor is the code 4,429,185, and 1.2 V the code 4,026,532 (the worked examples of spec/19 and
spec/12). -/
theorem test_volt_code : voltCode (tempVolt 105000) = (4429185, false) ∧ voltCode 1200000 = (4026532, false) := by
  decide

/-- The reset code of TX_SWING gives 600 mV (Table 3.5), and an even number of taps applies as the next odd one
(R80). -/
theorem test_settings : State.reset.swing 0 2 = 600 ∧
    (State.put State.reset [(R .SCX_RX_CFG 3, F.SCX_RX_CFG_TAPS.put 16 0)]).taps 3 = 17 ∧ State.reset.bulkIter 0 = 12 ∧
    State.reset.expIter 0 = 6 := by decide +kernel

/-- A seal's header carries a CRC that the far end's check accepts (R208, R210). -/
theorem test_seal_crc : (sealBits 2 4096 0x101 0x123456789A).toNat % 65536 =
    crc16 112 ((sealBits 2 4096 0x101 0x123456789A).toNat / 65536) ∧
    half (sealList 2 4096 0x101 0x123456789A) 0 = 2 * 16384 + 8192 + 4096 := by decide +kernel

/-! ## Well-formedness: one ill-formed term for each check -/

theorem test_wf_master : (Instr.go (.core 4) 0 0).wf = false := by decide
theorem test_wf_carrier : (Instr.announce 2).wf = false := by decide
theorem test_wf_lane : (Instr.skewRamp 0 4).wf = false := by decide
theorem test_wf_subcarrier : (Instr.scLost 16).wf = false := by decide
theorem test_wf_group : (Instr.grpUp 160).wf = false := by decide
theorem test_wf_gid : (Instr.frameSent ⟨true, 4096⟩ .clean).wf = false := by decide
theorem test_wf_member : (Instr.groupMarker 0 160 none 0 0).wf = false := by decide
theorem test_wf_flow : (Instr.flowRemove (.core 0) 4096 0).wf = false := by decide
theorem test_wf_port : (Instr.pauseRefresh 16).wf = false := by decide
theorem test_wf_priority : (Instr.pauseExpiry 0 (some 8)).wf = false := by decide
theorem test_wf_candidate : (Instr.refLost 15).wf = false := by decide
theorem test_wf_pair : (Instr.chkWindow 2 0 0 0).wf = false := by decide
theorem test_wf_converter : (Instr.settled 4).wf = false := by decide
theorem test_wf_bin : (Instr.binBlock 8 0 0).wf = false := by decide
theorem test_wf_receive_slot : (Instr.preambleDetection 8 0).wf = false := by decide
theorem test_wf_host_lane : (Instr.cdrLock 32).wf = false := by decide
theorem test_wf_yard_lane : (Instr.blockLock 8).wf = false := by decide
theorem test_wf_link : (Instr.helloLost 3).wf = false := by decide
theorem test_wf_domain : (Instr.domReq (.core 0) 0 0).wf = false := by decide
theorem test_wf_rail : (Instr.pgFall 6).wf = false := by decide
theorem test_wf_source : (Instr.resetRelease 16).wf = false := by decide
theorem test_wf_target : (Instr.bstExpired 128).wf = false := by decide
theorem test_wf_core : (Instr.wdtExpiry 4).wf = false := by decide
theorem test_wf_counter : (Instr.ctrLoad (.core 0) 32 0).wf = false := by decide
theorem test_wf_fault : (Instr.faultDetected 10 0).wf = false := by decide
theorem test_wf_injector : (Instr.injEnd 8).wf = false := by decide
theorem test_wf_address : (Instr.registerWrite (.core 0) (2 ^ 32) 0).wf = false := by decide
theorem test_wf_size : (Instr.rcRead (.core 0) 0 3).wf = false := by decide
theorem test_wf_line : (Instr.mergeWriteBack (2 ^ 31) .clean).wf = false := by decide
theorem test_wf_quanta : (Instr.pauseReceived 0 true 0 [1]).wf = false := by decide
theorem test_wf_entry_word : (Instr.phEntryWrite (.core 0) 0 7 0).wf = false := by decide
theorem test_wf_aperture : (Instr.apertureRead (.core 0) (2 ^ 28) .clean).wf = false := by decide
theorem test_wf_selection : (Instr.selForced (.core 0) 16).wf = false := by decide
theorem test_wf_forward_entry : (Instr.fwdWrite (.core 0) 0 true 16 0).wf = false := by decide
theorem test_wf_twi_address : (Instr.twiAddressMatch 128).wf = false := by decide
theorem test_wf_tack_room : (Instr.tackRoomWrite (.core 0) (2 ^ 19) 0).wf = false := by decide
theorem test_wf_region : (Instr.mpuWrite (.core 0) 0 16 0 0).wf = false := by decide
theorem test_wf_image_device : (Instr.imgRestart 256).wf = false := by decide

end Sys2Proof.Tests
end

section
/-! The aliased pages (spec/18, R422 and R423, under R6): what an aliased access comes to when nothing on the way to the
fabric stops it, which instances it selects, and what an access that no block answers leaves behind. -/

namespace Sys2Proof.Machine

/-! ## An aligned word on its way to the fabric -/

section AlignedWord

variable {s : State} {m : Master} {addr i : Nat} {k : RegKey} {all : Bool}
variable (hissue : s.canIssue m = true) (hfree : s.holdsBack m = false) (hlt : addr < 2 ^ 32) (hal : addr % 4 = 0)

include hissue hfree hlt hal in
/-- An aligned word that the master may issue, that its regions grant and that waits behind nothing is performed. -/
theorem State.access_eq_perform (w : Option W32) (hgrant : s.denied m addr (bit w.isSome) = false) :
    s.access m addr 4 w = s.perform m addr 4 w := by
  have hmod : addr % 4294967296 = addr := Nat.mod_eq_of_lt hlt
  have hword : addr / 4 * 4 = addr := by omega
  simp [State.access, State.issue, width, hmod, hword, hal, hissue, hgrant, hfree]

include hal in
/-- A word of an aliased page passes the decode. -/
theorem decodeKind_of_set (ht : target addr = .set i k all) (write : Bool) : decodeKind addr 4 write = none := by
  simp [decodeKind, ht, hal]

include hlt in
theorem isSet_of_target (ht : target addr = .set i k all) : isSet addr = true := by
  simp only [isSet, Nat.mod_eq_of_lt hlt, ht]

include hissue hfree hlt hal in
/-- ALIAS_WRITE let through is the write of the aliased page. -/
theorem exec_aliasWrite_of_target (ht : target addr = .set i k all) (hgrant : s.denied m addr 1 = false) (v : W32) :
    exec (.aliasWrite m addr v) s = .next (s.setWrite m i k all addr v) := by
  have hexec : exec (.aliasWrite m addr v) s = execAliasWrite m addr v s := rfl
  have hperform : s.perform m addr 4 (some v) = s.setWrite m i k all addr v := by
    simp only [State.perform, decodeKind_of_set hal ht, State.performWrite, ht]
  rw [hexec, execAliasWrite, if_pos (isSet_of_target hlt ht),
    State.access_eq_perform hissue hfree hlt hal (some v) hgrant, hperform]

include hissue hfree hlt hal in
/-- ALIAS_READ let through is the read of the aliased page. -/
theorem exec_aliasRead_of_target (ht : target addr = .set i k all) (hgrant : s.denied m addr 0 = false) :
    exec (.aliasRead m addr) s = .next (s.setRead m i k all addr) := by
  have hexec : exec (.aliasRead m addr) s = execAliasRead m addr s := rfl
  have hperform : s.perform m addr 4 none = s.setRead m i k all addr := by
    simp only [State.perform, Option.isSome_none, decodeKind_of_set hal ht, State.performRead, ht, State.narrow, if_true]
  rw [hexec, execAliasRead, if_pos (isSet_of_target hlt ht),
    State.access_eq_perform hissue hfree hlt hal none hgrant, hperform]

end AlignedWord

/-! ## The selected instances -/

/-- Every selected one exists. -/
theorem State.lt_setSize_of_mem_selected {s : State} {i n : Nat} {all : Bool} (h : n ∈ s.selected i all) :
    n < s.setSize i :=
  List.mem_range.1 (List.mem_filter.1 h).1

/-- The selected instances stand in ascending order. -/
theorem State.pairwise_lt_selected (s : State) (i : Nat) (all : Bool) : (s.selected i all).Pairwise (· < ·) :=
  List.pairwise_lt_range.filter _

/-- The first of the selected instances is below the others. -/
theorem State.lt_of_selected_eq_cons {s : State} {i n : Nat} {all : Bool} {l : List Nat}
    (h : s.selected i all = n :: l) : ∀ x ∈ l, n < x :=
  (List.pairwise_cons.1 (h ▸ s.pairwise_lt_selected i all)).1

/-! ## The write and the read of an aliased page -/

/-- With some selected, the write of an aliased page is the direct write to each of them in turn. -/
theorem State.setWrite_of_selected {s : State} {m : Master} {i : Nat} {k : RegKey} {all : Bool}
    (h : s.selected i all ≠ []) (a : Nat) (v : W32) :
    s.setWrite m i k all a v = s.each (s.selected i all) (fun n s => if s.holdsBack m then
      s.park m (RegKey.addr ⟨k.id, n, k.j⟩) 4 (some v)
      else State.putReg m ⟨k.id, n, k.j⟩ v (State.regWrite m ⟨k.id, n, k.j⟩ v) s) :=
  if_neg (by simpa using h)

/-- The read of an aliased page is the read of the first one selected. -/
theorem State.setRead_of_selected_cons {s : State} {m : Master} {i n : Nat} {k : RegKey} {all : Bool} {l : List Nat}
    (h : s.selected i all = n :: l) (a : Nat) : s.setRead m i k all a = s.readReg m ⟨k.id, n, k.j⟩ := by
  simp only [State.setRead, h]

/-- The read of an aliased page with nothing selected is an access error, answered with the error word. -/
theorem State.setRead_of_selected_nil {s : State} {m : Master} {i : Nat} {k : RegKey} {all : Bool}
    (h : s.selected i all = []) (a : Nat) :
    s.setRead m i k all a = (s.accessErr m false false (s.errDom k.domain) a).answer m badWord := by
  simp only [State.setRead, h]

/-! ## The word a master is answered -/

@[simp] theorem State.rdata_answer (s : State) (m : Master) (w : W32) :
    (s.answer m w).fab.rdata.get 0 (masterCode m) = w := NTab.get_set_same ..

@[simp] theorem State.flag_answer (s : State) (m : Master) (w : W32) (f : Fld) (i j : Nat) :
    (s.answer m w).flag f i j = s.flag f i j := rfl

/-- A register that answers gives the word it shows before the read's side effects. -/
theorem State.rdata_readReg {s : State} {k : RegKey} (h : s.regOn k = true) (m : Master) :
    (s.readReg m k).fab.rdata.get 0 (masterCode m) = s.readWord m k := by
  rw [State.readReg, if_pos h, State.rdata_answer]

/-! ## The access error (R353) -/

@[simp] theorem State.fld_spiErr (s : State) (m : Master) (f : Fld) (i j : Nat) :
    (s.spiErr m).fld f i j = s.fld f i j := by
  unfold State.spiErr
  split <;> rfl

/-- Writing a field leaves the fields of other registers alone. -/
theorem State.fld_setFld_other (s : State) (g : Fld) (n a b : Nat) (f : Fld) (i j : Nat) (h : f.reg ≠ g.reg) :
    (s.setFld g n a b).fld f i j = s.fld f i j := s.fld_wr_other _ _ f i j h

/-- An access error leaves a field outside ACCESS_ERR and its address as raising the event leaves it. -/
theorem State.fld_accessErr (s : State) (m : Master) (write inRst : Bool) (dom addr : Nat) (f : Fld) (i j : Nat)
    (hr : f.reg ≠ .PMU_ACCESS_ERR) (ha : f.reg ≠ .PMU_ACCESS_ERR_ADDR) :
    (s.accessErr m write inRst dom addr).fld f i j = (s.raise F.PMU_EVT_ACCESS_ERR).fld f i j := by
  have hset (t : State) (g : Fld) (n : Nat) (hg : g.reg = .PMU_ACCESS_ERR) : (t.setFld g n).fld f i j = t.fld f i j :=
    t.fld_setFld_other g n 0 0 f i j (hg ▸ hr)
  have haddr (t : State) (n : Nat) : (t.wrN (R .PMU_ACCESS_ERR_ADDR) n).fld f i j = t.fld f i j :=
    t.fld_wr_other _ _ f i j ha
  unfold State.accessErr
  extract_lets t u
  have hspi : u.fld f i j = t.fld f i j := by
    unfold u
    split
    · rfl
    · exact t.fld_spiErr m f i j
  split
  · exact (hset _ _ _ rfl).trans hspi
  · rw [haddr, hset _ _ _ rfl, hset _ _ _ rfl, State.setFlag, hset _ _ _ rfl, State.setFlag, hset _ _ _ rfl,
      hset _ _ _ rfl, hspi]

/-- After an access error ACCESS_ERR holds a record: the one it held, or a new one. -/
theorem State.flag_valid_accessErr (s : State) (m : Master) (write inRst : Bool) (dom addr : Nat) :
    (s.accessErr m write inRst dom addr).flag F.PMU_ACCESS_ERR_VALID = true := by
  have hset (t : State) (g : Fld) (n : Nat) (hg : g.ok = true) (hlo : g.lo + g.len ≤ 31) :
      (t.setFld g n).fld F.PMU_ACCESS_ERR_VALID = t.fld F.PMU_ACCESS_ERR_VALID :=
    t.fld_setFld_ne g _ n 0 0 0 0 hg rfl (.inr (.inr (.inr (.inl hlo))))
  have haddr (t : State) (n : Nat) :
      (t.wrN (R .PMU_ACCESS_ERR_ADDR) n).fld F.PMU_ACCESS_ERR_VALID = t.fld F.PMU_ACCESS_ERR_VALID :=
    t.fld_wr_other _ _ _ 0 0 (by decide)
  unfold State.accessErr
  extract_lets t u
  split
  case isTrue hheld => rwa [State.flag, State.bumpFld, hset _ _ _ rfl (by decide)]
  case isFalse =>
    rw [State.flag, haddr, hset _ _ _ rfl (by decide), hset _ _ _ rfl (by decide), State.setFlag,
      hset _ _ _ rfl (by decide), State.setFlag, hset _ _ _ rfl (by decide), State.fld_setFld _ _ _ _ _ rfl]
    rfl

/-- An access error sets its event. -/
theorem State.flag_event_accessErr (s : State) (m : Master) (write inRst : Bool) (dom addr : Nat) :
    (s.accessErr m write inRst dom addr).flag F.PMU_EVT_ACCESS_ERR = true := by
  rw [State.flag, State.fld_accessErr _ _ _ _ _ _ _ _ _ (by decide) (by decide)]
  exact beq_iff_eq.2 (State.fld_setFld _ _ _ _ _ rfl)

/-! ## R6 -/

/-- Settles O44. The three clauses are what an aliased access let through comes to with something selected and with nothing;
the set's size is what a ZQ2000 changes. -/
theorem aliasesOnAZq2000 : Obligations.AliasesOnAZq2000 := by
  unfold Obligations.AliasesOnAZq2000
  refine ⟨?write, ?readLowest, ?readNone⟩
  case write =>
    intro s m addr i k all v _ hissue hfree hlt hal ht hgrant hsel
    exact ⟨_, exec_aliasWrite_of_target hissue hfree hlt hal ht hgrant v,
      fun _ => State.lt_setSize_of_mem_selected, State.setWrite_of_selected hsel addr v⟩
  case readLowest =>
    intro s m addr i k all n l _ hissue hfree hlt hal ht hgrant hsel hon
    refine ⟨_, exec_aliasRead_of_target hissue hfree hlt hal ht hgrant,
      State.lt_setSize_of_mem_selected (hsel ▸ List.mem_cons_self), State.lt_of_selected_eq_cons hsel, ?_⟩
    rw [State.setRead_of_selected_cons hsel, State.rdata_readReg hon]
  case readNone =>
    intro s m addr i k all _ hissue hfree hlt hal ht hgrant hsel
    refine ⟨_, exec_aliasRead_of_target hissue hfree hlt hal ht hgrant, ?_⟩
    rw [State.setRead_of_selected_nil hsel]
    exact ⟨State.rdata_answer .., (State.flag_answer ..).trans (State.flag_valid_accessErr ..),
      (State.flag_answer ..).trans (State.flag_event_accessErr ..)⟩

end Sys2Proof.Machine
end

section
/-! The performance counters in pairs (spec/17, R401 and R402): what a counter holds after it is set, what a gain of one
counter leaves of another, and a chained pair as one count of 96 bits. -/

namespace Sys2Proof.Machine

/-! ## A register of a well-kept state has no reserved bit set (R10) -/

/-- What the lookup finds is an entry of the table. -/
theorem Tab.mem_of_look {κ α : Type} [DecidableEq κ] {k : κ} {v : α} {t : List (κ × α)} (h : Tab.look k t = some v) :
    (k, v) ∈ t := by
  induction t with
  | nil => cases h
  | cons e t ih =>
    obtain ⟨a, w⟩ := e
    rw [Tab.look] at h
    split at h
    case isTrue ha => cases h; exact ha ▸ List.mem_cons_self
    case isFalse => exact List.mem_cons_of_mem _ (ih h)

/-- A register whose reset value keeps to its bits holds no others. -/
theorem State.rd_and_mask {s : State} (h : s.regsOk = true) {k : RegKey} (hk : k.reset &&& ~~~k.mask = 0) :
    s.rd k &&& k.mask = s.rd k := by
  have hres : s.rd k &&& ~~~k.mask = 0 := by
    obtain ⟨_, hall⟩ := Bool.and_eq_true_iff.1 h
    rw [State.rd, Tab.get]
    cases hl : Tab.look k s.regs with
    | none => exact hk
    | some v => exact beq_iff_eq.1 (List.all_eq_true.1 hall _ (Tab.mem_of_look hl))
  apply BitVec.eq_of_getLsbD_eq
  intro i hi
  have hbit := congrArg (BitVec.getLsbD · i) hres
  simpa [hi] using hbit

/-! ## The value of a counter -/

/-- Counter `n` set to `v`. -/
def State.pmcPut (n v : Nat) (s : State) : State := s.wr64 (R .PMC_CTR_LO n) (R .PMC_CTR_HI n) v

/-- A counter holds 48 bits. -/
theorem State.pmcVal_lt {s : State} (h : s.Inv) (n : Nat) : s.pmcVal n < 2 ^ 48 := by
  have hhi : s.rdN (R .PMC_CTR_HI n) < 2 ^ 16 := by
    rw [State.rdN, ← State.rd_and_mask h.1 (k := R .PMC_CTR_HI n) BitVec.zero_and, BitVec.toNat_and]
    exact Nat.and_lt_two_pow _ (show (0xFFFF : Nat) < 2 ^ 16 by decide)
  have hlo : s.rdN (R .PMC_CTR_LO n) < 2 ^ 32 := (s.rd _).isLt
  rw [State.pmcVal, State.rd64]
  omega

/-- A counter holds what it was set to, in its 48 bits. -/
theorem State.pmcVal_pmcPut (s : State) (n v : Nat) : (s.pmcPut n v).pmcVal n = v % 2 ^ 48 := by
  have hlo : (s.pmcPut n v).rdN (R .PMC_CTR_LO n) = v % 2 ^ 32 := by
    have hother : (s.pmcPut n v).rdN (R .PMC_CTR_LO n) = (s.wrN (R .PMC_CTR_LO n) (v % 2 ^ 32)).rdN (R .PMC_CTR_LO n) :=
      congrArg BitVec.toNat (State.rd_wr_id _ (by simp) _)
    exact hother.trans ((s.rdN_wrN _ _ rfl).trans (Nat.mod_mod ..))
  have hhi : (s.pmcPut n v).rdN (R .PMC_CTR_HI n) = v / 2 ^ 32 % 2 ^ 16 := by
    rw [State.pmcPut, State.wr64, State.rdN, State.wrN, State.rd_wr_same,
      show (R .PMC_CTR_HI n).mask = 0xFFFF from rfl, BitVec.toNat_and, BitVec.toNat_ofNat]
    exact (Nat.and_two_pow_sub_one_eq_mod _ 16).trans (Nat.mod_mod_of_dvd _ (by decide))
  rw [State.pmcVal, State.rd64, hlo, hhi]
  omega

/-- A counter keeps its value while another one is set. -/
theorem State.pmcVal_pmcPut_ne (s : State) {n m : Nat} (h : m ≠ n) (v : Nat) : (s.pmcPut n v).pmcVal m = s.pmcVal m := by
  have hrd (id : RegId) : (s.pmcPut n v).rd (R id m) = s.rd (R id m) := by
    rw [State.pmcPut, State.wr64, State.rd_wrN_i _ _ _ _ h, State.rd_wrN_i _ _ _ _ h]
  simp only [State.pmcVal, State.rd64, State.rdN, hrd]

/-- Setting a counter leaves the fields of every other register alone. -/
theorem State.fld_pmcPut (s : State) (n v : Nat) (f : Fld) (i : Nat) (hlo : f.reg ≠ .PMC_CTR_LO)
    (hhi : f.reg ≠ .PMC_CTR_HI) : (s.pmcPut n v).fld f i = s.fld f i :=
  (State.fld_wr_other _ _ _ f i 0 hhi).trans (State.fld_wr_other _ _ _ f i 0 hlo)

/-! ## An overflow -/

/-- An overflow leaves every counter's value. -/
@[simp] theorem State.pmcVal_pmcOver (s : State) (n m : Nat) : (s.pmcOver n).pmcVal m = s.pmcVal m := by
  have hlo := (State.pmcOver_upd n s).rd_of .PMC_CTR_LO m 0 rfl
  have hhi := (State.pmcOver_upd n s).rd_of .PMC_CTR_HI m 0 rfl
  simp only [State.pmcVal, State.rd64, State.rdN, hlo, hhi]

@[simp] theorem State.rd_set_free (s : State) (n : Nat) (k : RegKey) : ({ s with free := n } : State).rd k = s.rd k := rfl

/-- An overflow of counter `n` adds its bit to OVF; the sample taken at it leaves OVF alone. -/
theorem State.rd_ovf_pmcOver (s : State) (n : Nat) :
    (s.pmcOver n).rd (R .PMC_OVF) = s.rd (R .PMC_OVF) ||| BitVec.ofNat 32 (2 ^ n) := by
  have hset (v : W32) : (s.wr (R .PMC_OVF) v).rd (R .PMC_OVF) = v := by
    rw [State.rd_wr_same, show (R .PMC_OVF).mask = BitVec.allOnes 32 from rfl, BitVec.and_allOnes]
  unfold State.pmcOver
  extract_lets t
  split
  · refine (State.rd_set_free ..).trans (Eq.trans ?_ (hset _))
    rw [State.raise, State.rd_setFld_ne _ _ _ _ _ (by decide), State.rd_wr_id _ (by decide), State.rd_wr_id _ (by decide),
      State.rd_setFld_ne _ _ _ _ _ (by decide), State.rd_setFld_ne _ _ _ _ _ (by decide),
      State.rd_wr_id _ (by decide)]
  · exact hset _

/-- An overflow of counter `n` sets its bit of OVF. -/
theorem State.bitOf_ovf_pmcOver (s : State) {n : Nat} (h : n < 32) :
    bitOf ((s.pmcOver n).rd (R .PMC_OVF)) n = true := by
  rw [State.rd_ovf_pmcOver, bitOf, BitVec.getLsbD_or, BitVec.getLsbD_ofNat, Nat.testBit_two_pow_self]
  simp [h]

/-- An overflow that depends on a condition leaves every counter's value too. -/
theorem State.pmcVal_when_pmcOver (s : State) (b : Bool) (n m : Nat) :
    (s.when b (State.pmcOver n)).pmcVal m = s.pmcVal m := by
  cases b
  · rfl
  · exact s.pmcVal_pmcOver n m

/-! ## A gain (R401, R402) -/

/-- A counter's gain leaves the value of another one, but where an even counter overflows into the odd one beside it. -/
theorem State.pmcVal_pmcGain_of_ne (s : State) {n m k : Nat} (hne : m ≠ n)
    (hover : m = n + 1 → n % 2 = 1 ∨ s.pmcVal n + k < 2 ^ 48) : (s.pmcGain n k).pmcVal m = s.pmcVal m := by
  unfold State.pmcGain
  extract_lets v t w
  have hput : t.pmcVal m = s.pmcVal m := s.pmcVal_pmcPut_ne hne _
  split
  case isTrue => rfl
  case isFalse =>
    split
    case isTrue => exact hput
    case isFalse hv =>
      split
      case isTrue hpair =>
        obtain ⟨hmod, _⟩ := Bool.and_eq_true_iff.1 hpair
        have heven : n % 2 = 0 := beq_iff_eq.1 hmod
        have hodd : m ≠ n + 1 := fun e => (hover e).elim (by omega) hv
        split
        case isTrue =>
          exact (State.pmcVal_when_pmcOver ..).trans ((t.pmcVal_pmcPut_ne hodd _).trans hput)
        case isFalse => exact hput
      case isFalse => exact (State.pmcVal_pmcOver ..).trans hput

/-- A gain leaves what the counters are set to count. -/
@[simp] theorem State.fld_ctrCfg_pmcGain (s : State) (n k : Nat) (f : Fld) (i : Nat) (hf : f.reg = .PMC_CTR_CFG) :
    (s.pmcGain n k).fld f i = s.fld f i :=
  (State.pmcGain_upd n k s).fld f i 0 (by rw [hf]; rfl)

/-- Counter 2k + 1 is chained to counter 2k, and both count. -/
structure State.Chains (s : State) (k : Nat) : Prop where
  unit : s.flag F.PMC_CFG_EN = true
  even : s.flag F.PMC_CTR_CFG_EN (2 * k) = true
  odd : s.flag F.PMC_CTR_CFG_EN (2 * k + 1) = true
  chain : s.flag F.PMC_CTR_CFG_CHAIN (2 * k + 1) = true

section Chained

variable {s : State} {k : Nat} (hc : s.Chains k)
include hc

/-- Below its overflow the even counter gains alone. -/
theorem State.pmcGain_of_lt {n : Nat} (h : s.pmcVal (2 * k) + n < 2 ^ 48) :
    s.pmcGain (2 * k) n = s.pmcPut (2 * k) (s.pmcVal (2 * k) + n) := by
  unfold State.pmcGain
  rw [hc.unit, hc.even, if_neg (by decide), if_pos h, Nat.mod_eq_of_lt h]
  rfl

/-- The overflows of the even counter, which comes to `v`, are gained by the odd one, which comes to `w`. -/
theorem State.pmcGain_of_le {n v w : Nat} (hv : v = s.pmcVal (2 * k) + n) (hw : w = s.pmcVal (2 * k + 1) + v / 2 ^ 48)
    (h : 2 ^ 48 ≤ v) : s.pmcGain (2 * k) n =
      ((s.pmcPut (2 * k) (v % 2 ^ 48)).pmcPut (2 * k + 1) (w % 2 ^ 48)).when (2 ^ 48 ≤ w) (State.pmcOver (2 * k + 1)) := by
  subst hv hw
  have hflag (f : Fld) (hf : f.reg = .PMC_CTR_CFG) (v : Nat) :
      (s.pmcPut (2 * k) v).flag f (2 * k + 1) = s.flag f (2 * k + 1) := by
    rw [State.flag, s.fld_pmcPut _ _ _ _ (by simp [hf]) (by simp [hf]), State.flag]
  have hodd (v : Nat) : (s.pmcPut (2 * k) v).pmcVal (2 * k + 1) = s.pmcVal (2 * k + 1) :=
    s.pmcVal_pmcPut_ne (by omega) v
  simp only [State.pmcPut] at hflag hodd ⊢
  simp only [State.pmcGain, hc.unit, hc.even, hflag F.PMC_CTR_CFG_CHAIN rfl, hflag F.PMC_CTR_CFG_EN rfl, hc.odd, hc.chain,
    hodd, Nat.not_lt.2 h, Nat.mul_mod_right]
  rfl

end Chained

/-! ## The pair -/

/-- Counters 2k and 2k + 1 as one count, the even one its low half. -/
def State.pmcPair (s : State) (k : Nat) : Nat := s.pmcVal (2 * k) + 2 ^ 48 * s.pmcVal (2 * k + 1)

/-- The pair of `t` is that of `s` with `n` counts more, in 96 bits, and OVF of the odd half tells where it wrapped. -/
def PairGains (k n : Nat) (s t : State) : Prop :=
  t.pmcPair k = (s.pmcPair k + n) % 2 ^ 96 ∧
  (2 ^ 96 ≤ s.pmcPair k + n → bitOf (t.rd (R .PMC_OVF)) (2 * k + 1) = true)

/-- A gain of the even counter of a chained pair is a gain of the pair. -/
theorem State.pairGains_pmcGain {s : State} {k : Nat} (hi : s.Inv) (hk : k < 16) (hc : s.Chains k) (n : Nat) :
    PairGains k n s (s.pmcGain (2 * k) n) := by
  have heven := State.pmcVal_lt hi (2 * k)
  have hodd := State.pmcVal_lt hi (2 * k + 1)
  unfold PairGains State.pmcPair
  obtain hlt | hle := Nat.lt_or_ge (s.pmcVal (2 * k) + n) (2 ^ 48)
  case inl =>
    rw [State.pmcGain_of_lt hc hlt, State.pmcVal_pmcPut, State.pmcVal_pmcPut_ne _ (by omega)]
    constructor <;> intros <;> omega
  case inr =>
    obtain ⟨v, hv⟩ : ∃ v, v = s.pmcVal (2 * k) + n := ⟨_, rfl⟩
    obtain ⟨w, hw⟩ : ∃ w, w = s.pmcVal (2 * k + 1) + v / 2 ^ 48 := ⟨_, rfl⟩
    rw [State.pmcGain_of_le hc hv hw (hv ▸ hle)]
    constructor
    · rw [State.pmcVal_when_pmcOver, State.pmcVal_when_pmcOver, State.pmcVal_pmcPut, State.pmcVal_pmcPut_ne _ (by omega),
        State.pmcVal_pmcPut]
      omega
    · intro hwrap
      rw [decide_eq_true (show 2 ^ 48 ≤ w by omega)]
      exact State.bitOf_ovf_pmcOver _ (by omega)

/-! ## What the counters count (R403) -/

/-- What counter `n` makes of `k` counts of event `ev`, qualified by `inst`: the step of `State.count`. -/
def State.countAt (ev inst k n : Nat) (s : State) : State :=
  if s.fld F.PMC_CTR_CFG_EVENT n == ev && (pmcPlain ev || s.fld F.PMC_CTR_CFG_QUAL n == 0xFFF ||
      s.fld F.PMC_CTR_CFG_QUAL n == inst) && !(n % 2 == 1 && s.flag F.PMC_CTR_CFG_CHAIN n)
  then s.pmcGain n k else s

/-- `State.count` goes through the 32 counters, while MGMT is ON and the unit counts. -/
theorem State.count_eq (ev inst k : Nat) (s : State) :
    s.count ev inst k = if !(s.domOn 1 && s.flag F.PMC_CFG_EN) then s else s.upto 32 (State.countAt ev inst k) := rfl

/-- A counter gains the counts of its own event, unless it is chained, or nothing. -/
theorem State.countAt_cases (ev inst k n : Nat) (s : State) : s.countAt ev inst k n = s ∨
    (s.countAt ev inst k n = s.pmcGain n k ∧ s.fld F.PMC_CTR_CFG_EVENT n = ev ∧
      (n % 2 = 1 → s.flag F.PMC_CTR_CFG_CHAIN n = false)) := by
  unfold State.countAt
  split
  case isTrue h =>
    simp only [Bool.and_eq_true, beq_iff_eq, Bool.not_eq_true', Bool.and_eq_false_imp] at h
    obtain ⟨⟨hev, _⟩, hfree⟩ := h
    exact .inr ⟨rfl, hev, hfree⟩
  case isFalse => exact .inl rfl

/-- The counts of an event leave what the counters are set to count. -/
theorem State.fld_ctrCfg_countAt (s : State) (ev inst k n : Nat) (f : Fld) (i : Nat) (hf : f.reg = .PMC_CTR_CFG) :
    (s.countAt ev inst k n).fld f i = s.fld f i := by
  obtain h | ⟨h, _⟩ := State.countAt_cases ev inst k n s
  · rw [h]
  · rw [h, s.fld_ctrCfg_pmcGain n k f i hf]

/-- The counts of an event for one counter leave the value of another one, but where an even counter of that event overflows
into the odd one beside it. -/
theorem State.pmcVal_countAt_of_ne (s : State) (ev inst k : Nat) {n m : Nat} (hne : m ≠ n)
    (hover : m = n + 1 → n % 2 = 1 ∨ (s.fld F.PMC_CTR_CFG_EVENT n = ev → s.pmcVal n + k < 2 ^ 48)) :
    (s.countAt ev inst k n).pmcVal m = s.pmcVal m := by
  obtain h | ⟨h, hev, _⟩ := State.countAt_cases ev inst k n s
  · rw [h]
  · rw [h, s.pmcVal_pmcGain_of_ne hne fun e => (hover e).imp_right fun hlt => hlt hev]

/-- A chained counter does not count its own event. -/
theorem State.countAt_of_chain {s : State} {n : Nat} (hodd : n % 2 = 1) (hch : s.flag F.PMC_CTR_CFG_CHAIN n = true)
    (ev inst k : Nat) : s.countAt ev inst k n = s := by
  obtain h | ⟨_, _, hfree⟩ := State.countAt_cases ev inst k n s
  · exact h
  · exact absurd (hfree hodd) (by simp [hch])

/-- Counter 2k + 1 of `t` is chained and holds what it holds in `s`. -/
def State.OddAs (s : State) (k : Nat) (t : State) : Prop :=
  t.flag F.PMC_CTR_CFG_CHAIN (2 * k + 1) = true ∧ t.pmcVal (2 * k + 1) = s.pmcVal (2 * k + 1)

/-- No counter's counts reach a chained odd counter but an overflow of the even one beside it. -/
theorem State.OddAs.countAt {s t : State} {k ev n x : Nat} (h : s.OddAs k t) (inst : Nat)
    (hlt : x = 2 * k → t.fld F.PMC_CTR_CFG_EVENT x = ev → t.pmcVal x + n < 2 ^ 48) :
    s.OddAs k (t.countAt ev inst n x) := by
  obtain ⟨hch, hval⟩ := h
  by_cases hx : x = 2 * k + 1
  case pos =>
    subst hx
    rw [State.countAt_of_chain (by omega) hch]
    exact ⟨hch, hval⟩
  case neg =>
    refine ⟨?_, ?_⟩
    · rw [State.flag, t.fld_ctrCfg_countAt ev inst n x F.PMC_CTR_CFG_CHAIN _ rfl]
      exact hch
    · rw [t.pmcVal_countAt_of_ne ev inst n (Ne.symm hx) fun e => .inr (hlt (by omega)), hval]

/-- Before its turn comes, counter 2k of `t` holds and counts what it does in `s`. -/
def State.EvenAs (s : State) (k : Nat) (t : State) : Prop :=
  t.fld F.PMC_CTR_CFG_EVENT (2 * k) = s.fld F.PMC_CTR_CFG_EVENT (2 * k) ∧ t.pmcVal (2 * k) = s.pmcVal (2 * k)

/-- An even counter gains nothing by another counter's counts. -/
theorem State.EvenAs.countAt {s t : State} {k x : Nat} (h : s.EvenAs k t) (hx : x ≠ 2 * k) (ev inst n : Nat) :
    s.EvenAs k (t.countAt ev inst n x) := by
  obtain ⟨hev, hval⟩ := h
  refine ⟨?_, ?_⟩
  · rw [t.fld_ctrCfg_countAt ev inst n x F.PMC_CTR_CFG_EVENT _ rfl, hev]
  · rw [t.pmcVal_countAt_of_ne ev inst n (Ne.symm hx) fun e => .inl (by omega), hval]

/-- Where the even counter of a chained pair does not overflow, the counts of an event leave the odd one. -/
theorem State.pmcVal_count_of_chain {s : State} {k ev n : Nat} (hk : k < 16)
    (hch : s.flag F.PMC_CTR_CFG_CHAIN (2 * k + 1) = true)
    (hlt : s.fld F.PMC_CTR_CFG_EVENT (2 * k) = ev → s.pmcVal (2 * k) + n < 2 ^ 48) (inst : Nat) :
    (s.count ev inst n).pmcVal (2 * k + 1) = s.pmcVal (2 * k + 1) := by
  rw [State.count_eq]
  split
  case isTrue => rfl
  case isFalse =>
    have hodd : s.OddAs k (s.upto 32 (State.countAt ev inst n)) := by
      refine s.upto_brings (s.OddAs k) (fun t => s.OddAs k t ∧ s.EvenAs k t) _ 32 (2 * k) (by omega) ?before ?turn ?after
        ⟨⟨hch, rfl⟩, rfl, rfl⟩
      case before =>
        intro x t hx ⟨hodd, heven⟩
        exact ⟨hodd.countAt inst fun e => absurd e hx, heven.countAt hx ev inst n⟩
      case turn =>
        intro t ⟨hodd, hev, hval⟩
        exact hodd.countAt inst fun _ => by rw [hev, hval]; exact hlt
      case after => exact fun x t hx hodd => hodd.countAt inst fun e => absurd e hx
    obtain ⟨_, hval⟩ := hodd
    exact hval

/-! ## The overflow command (R401, R407) -/

/-- OVF for an even counter of an event in every core: the counter gains; where a sample was taken, its place is
`pc` and `seg`. -/
theorem execOvf_of_every_core {s : State} {n : Nat} (hon : s.mgmtOn = true) (hn : n < 32) (heven : n % 2 = 0)
    (hev : coreEvent (s.fld F.PMC_CTR_CFG_EVENT n) = true) (hqual : s.fld F.PMC_CTR_CFG_QUAL n = 0xFFF) (gain : Nat)
    (pc seg : W32) : execOvf n gain pc seg s = .next (if (s.pmcGain n gain).free == s.free then s.pmcGain n gain else
      ((s.pmcGain n gain).wr (R .PMC_SAMPLE_PC) pc).wr (R .PMC_SAMPLE_SEG) seg) := by
  simp [execOvf, hon, hn, heven, hev, hqual]

/-- A write of a register that is no counter's and not OVF leaves the pair's gain as it is. -/
theorem PairGains.wr {s t : State} {k n : Nat} (h : PairGains k n s t) {key : RegKey} (hlo : .PMC_CTR_LO ≠ key.id)
    (hhi : .PMC_CTR_HI ≠ key.id) (hovf : .PMC_OVF ≠ key.id) (v : W32) : PairGains k n s (t.wr key v) := by
  have hval (m : Nat) : (t.wr key v).pmcVal m = t.pmcVal m := by
    simp only [State.pmcVal, State.rd64, State.rdN, t.rd_wr_id (k := key) (k' := R .PMC_CTR_LO m) hlo,
      t.rd_wr_id (k := key) (k' := R .PMC_CTR_HI m) hhi]
  have hrd : (t.wr key v).rd (R .PMC_OVF) = t.rd (R .PMC_OVF) := t.rd_wr_id hovf v
  unfold PairGains State.pmcPair
  rw [hval, hval, hrd]
  exact h

/-- Settles O43. A gain of the even counter is one of the pair; its own event passes a chained counter over, so that only
the even one's overflow reaches it; and the place of a sample is in registers of its own. -/
theorem chainedCounters : Obligations.ChainedCounters := by
  unfold Obligations.ChainedCounters
  refine ⟨?gain, ?event, ?command⟩
  case gain =>
    intro s k n hi _ hk hunit heven hodd hchain t ht
    exact ht ▸ State.pairGains_pmcGain hi hk ⟨hunit, heven, hodd, hchain⟩ n
  case event =>
    intro s k ev inst n _ _ hk _ _ _ hchain hlt
    exact State.pmcVal_count_of_chain hk hchain hlt inst
  case command =>
    intro s k gain pc seg hi hon hk hunit heven hodd hchain hev hqual
    refine ⟨_, execOvf_of_every_core hon (by omega) (by omega) hev hqual gain pc seg, ?_⟩
    have hgain := State.pairGains_pmcGain hi hk ⟨hunit, heven, hodd, hchain⟩ gain
    change PairGains k gain s _
    split
    · exact hgain
    · exact (hgain.wr (by decide) (by decide) (by decide) pc).wr (by decide) (by decide) (by decide) seg

end Sys2Proof.Machine
end

section
/-! The FAULT_N pin (spec/17, R410): its three causes and the fields of FAULT_CAUSE that show them. -/

namespace Sys2Proof.Machine

section Causes

variable (s : State)

/-! ## The three causes -/

/-- The first cause: the MGMT bit of CFG_APPLIED is 0. -/
theorem State.notConfigured_iff : s.notConfigured = true ↔ bitOf (s.rd (R .DEV_CFG_APPLIED)) 1 = false :=
  iff_of_eq (Bool.not_eq_true' _)

/-- The second cause, for any reaction: a fault that has it set is present or recorded, and is not suppressed (R409). -/
theorem State.reacts_iff (r : Fld) : s.reacts r = true ↔ ∃ f, f < 10 ∧ s.flag r f = true ∧
    (s.faultLevel f = true ∨ bitOf (s.rd (R .SAF_FAULT_EVT)) f = true) ∧ s.noReact f = false := by
  simp only [State.reacts, List.any_eq_true, List.mem_range, Bool.and_eq_true, Bool.or_eq_true, Bool.not_eq_true',
    and_assoc]

/-- The third cause: a domain that gave up waking (R349). -/
theorem State.wakeFault_iff : s.wakeFault = true ↔ ∃ d, d < 14 ∧ s.flag F.PMU_DOM_EXHAUSTED d = true := by
  simp only [State.wakeFault, List.any_eq_true, List.mem_range]

/-! ## The pin and the register -/

/-- FAULT_N is low while any cause holds. -/
theorem State.faultLow_iff :
    s.faultLow = true ↔ s.notConfigured = true ∨ s.reacts F.SAF_REACT_FAULT = true ∨ s.wakeFault = true := by
  simp only [State.faultLow, Bool.or_eq_true, or_assoc]

/-- FAULT_CAUSE shows every master the causes that hold. -/
theorem State.view_faultCause (m : Master) : s.view m (R .SAF_FAULT_CAUSE) = s.faultCause := rfl

end Causes

/-- Three bits laid side by side are read back by the fields of FAULT_CAUSE. -/
theorem faultCause_fields : ∀ a b c : Bool,
    F.SAF_FAULT_CAUSE_NOT_CONFIGURED.get (BitVec.ofNat 32 (bit a + 2 * bit b + 4 * bit c)) = bit a ∧
    F.SAF_FAULT_CAUSE_REACTION.get (BitVec.ofNat 32 (bit a + 2 * bit b + 4 * bit c)) = bit b ∧
    F.SAF_FAULT_CAUSE_WAKE.get (BitVec.ofNat 32 (bit a + 2 * bit b + 4 * bit c)) = bit c := by decide

theorem bit_eq_one_iff (b : Bool) : bit b = 1 ↔ b = true := by cases b <;> decide

/-- Settles O57. The pin is the disjunction of the three causes, and FAULT_CAUSE their bits side by side. -/
theorem faultPin : Obligations.FaultPin := by
  unfold Obligations.FaultPin
  refine ⟨?pin, ?causes⟩
  case pin =>
    intro s
    rw [s.faultLow_iff, s.notConfigured_iff, s.reacts_iff, s.wakeFault_iff]
  case causes =>
    intro s m
    obtain ⟨hconf, hreact, hwake⟩ := faultCause_fields s.notConfigured (s.reacts F.SAF_REACT_FAULT) s.wakeFault
    rw [s.view_faultCause, State.faultCause, hconf, hreact, hwake, bit_eq_one_iff, bit_eq_one_iff, bit_eq_one_iff]
    exact ⟨s.notConfigured_iff, Iff.rfl, s.wakeFault_iff⟩

end Sys2Proof.Machine
end

section
/-! The interrupt enables of the control cores (spec/18, R429): a register written at its address, what is recorded of a
write that is refused for want of a privilege, and the enables themselves. -/

namespace Sys2Proof.Machine

/-! ## A register written at its address -/

/-- A word sent to a register's address goes through the checks of a write of that register. -/
theorem State.access_eq_guardW (s : State) (m : Master) {k : RegKey} (hlt : k.addr < 2 ^ 32) (hal : k.addr % 4 = 0)
    (ht : target k.addr = .reg k) (v : W32) :
    s.access m k.addr 4 (some v) = s.guardW m k v (State.regWrite m k v) := by
  have hmod : k.addr % 4294967296 = k.addr := Nat.mod_eq_of_lt hlt
  have hword : k.addr / 4 * 4 = k.addr := by omega
  have hperform : State.perform m k.addr 4 (some v) = State.putReg m k v (State.regWrite m k v) := by
    funext t
    simp [State.perform, decodeKind, ht, hal, State.performWrite]
  simp [State.access, width, hmod, hword, hal, hperform, State.guardW]

/-- REGISTER_WRITE of an accepted register is the write of that register. -/
theorem exec_registerWrite_of_accepts {s : State} {m : Master} {k : RegKey} (h : s.accepts m k = true)
    (hlt : k.addr < 2 ^ 32) (hal : k.addr % 4 = 0) (ht : target k.addr = .reg k) (v : W32) :
    exec (.registerWrite m k.addr v) s = .next (State.regWrite m k v (s.rewritten k)) := by
  have hexec : exec (.registerWrite m k.addr v) s = .next (s.access m k.addr 4 (some v)) := rfl
  rw [hexec, s.access_eq_guardW m hlt hal ht, State.guardW_accepts h]

/-- A register whose bits are all RW takes the value written. -/
theorem State.rd_plainWrite_of_rw (s : State) {k : RegKey} (hrw : k.id.info.rw = k.mask) (hc : k.id.info.w1c = 0)
    (hs : k.id.info.w1s = 0) (v : W32) : (s.plainWrite k v).rd k = v &&& k.mask := by
  rw [State.plainWrite, State.rd_wr_same, hrw, hc, hs]
  apply BitVec.eq_of_getLsbD_eq
  intro n hn
  simp only [BitVec.getLsbD_and, BitVec.getLsbD_or, BitVec.getLsbD_not, hn, decide_true, Bool.true_and]
  cases k.mask.getLsbD n <;> simp

/-! ## A refused privilege in DECODE_ERR (R419, R429) -/

section Privilege

variable (s : State) (m : Master) (write : Bool) (addr : Nat)

/-- The event of a refused privilege leaves the record. -/
theorem State.flag_valid_raise_priv :
    ((s.raise F.DEV_EVT_PRIV_ERR).spiErr m).flag F.DEV_DECODE_ERR_VALID = s.flag F.DEV_DECODE_ERR_VALID := by
  rw [State.flag, State.fld_spiErr, State.raise, State.fld_setFld_other _ _ _ _ _ _ _ _ (by decide), State.flag]

/-- With a record held, a refused privilege raises the record's count. -/
theorem State.decodeErr_priv_of_held (h : s.flag F.DEV_DECODE_ERR_VALID = true) :
    s.decodeErr m write 2 addr = ((s.raise F.DEV_EVT_PRIV_ERR).spiErr m).bumpFld F.DEV_DECODE_ERR_CNT :=
  if_pos ((s.flag_valid_raise_priv m).trans h)

/-- With no record held, a refused privilege is recorded. -/
theorem State.decodeErr_priv_of_free (h : s.flag F.DEV_DECODE_ERR_VALID = false) :
    s.decodeErr m write 2 addr = (((((((s.raise F.DEV_EVT_PRIV_ERR).spiErr m).setFld F.DEV_DECODE_ERR_VALID 1).setFlag
      F.DEV_DECODE_ERR_WRITE write).setFld F.DEV_DECODE_ERR_KIND 2).setFld F.DEV_DECODE_ERR_MASTER (masterCode m)).setFld
      F.DEV_DECODE_ERR_CNT 0).wrN (R .DEV_DECODE_ADDR) addr :=
  if_neg (ne_true_of_eq_false ((s.flag_valid_raise_priv m).trans h))

/-- A field outside the record is left as raising the event leaves it. -/
theorem State.fld_decodeErr_priv (f : Fld) (i j : Nat) (hr : f.reg ≠ .DEV_DECODE_ERR) (ha : f.reg ≠ .DEV_DECODE_ADDR) :
    (s.decodeErr m write 2 addr).fld f i j = (s.raise F.DEV_EVT_PRIV_ERR).fld f i j := by
  have hset (t : State) (g : Fld) (n : Nat) (hg : g.reg = .DEV_DECODE_ERR) : (t.setFld g n).fld f i j = t.fld f i j :=
    t.fld_setFld_other g n 0 0 f i j (hg ▸ hr)
  have haddr (t : State) (n : Nat) : (t.wrN (R .DEV_DECODE_ADDR) n).fld f i j = t.fld f i j :=
    t.fld_wr_other _ _ f i j ha
  cases hv : s.flag F.DEV_DECODE_ERR_VALID
  case false =>
    rw [s.decodeErr_priv_of_free m write addr hv, haddr, hset _ _ _ rfl, hset _ _ _ rfl, hset _ _ _ rfl, State.setFlag,
      hset _ _ _ rfl, hset _ _ _ rfl, State.fld_spiErr]
  case true =>
    rw [s.decodeErr_priv_of_held m write addr hv, State.bumpFld, hset _ _ _ rfl, State.fld_spiErr]

/-- A refused privilege sets its event. -/
theorem State.flag_event_decodeErr_priv : (s.decodeErr m write 2 addr).flag F.DEV_EVT_PRIV_ERR = true := by
  rw [State.flag, s.fld_decodeErr_priv m write addr _ _ _ (by decide) (by decide)]
  exact beq_iff_eq.2 (State.fld_setFld _ _ _ _ _ rfl)

theorem masterCode_lt : masterCode m < 8 := by
  cases m <;> simp only [masterCode] <;> omega

/-- A new record is valid and gives the kind and the master. -/
theorem State.record_decodeErr_priv (h : s.flag F.DEV_DECODE_ERR_VALID = false) :
    (s.decodeErr m write 2 addr).flag F.DEV_DECODE_ERR_VALID = true ∧
    (s.decodeErr m write 2 addr).fld F.DEV_DECODE_ERR_KIND = 2 ∧
    (s.decodeErr m write 2 addr).fld F.DEV_DECODE_ERR_MASTER = masterCode m := by
  have haddr (t : State) (n : Nat) (f : Fld) (hf : f.reg = .DEV_DECODE_ERR) :
      (t.wrN (R .DEV_DECODE_ADDR) n).fld f = t.fld f := t.fld_wr_other _ _ _ 0 0 (by rw [hf]; decide)
  have hbeside (t : State) (f g : Fld) (n : Nat) (hf : f.ok = true) (hg : g.ok = true)
      (hd : f.lo + f.len ≤ g.lo ∨ g.lo + g.len ≤ f.lo) : (t.setFld f n).fld g = t.fld g :=
    t.fld_setFld_ne f g n 0 0 0 0 hf hg (.inr (.inr (.inr hd)))
  rw [s.decodeErr_priv_of_free m write addr h]
  refine ⟨?valid, ?kind, ?master⟩
  case valid =>
    rw [State.flag, haddr _ _ _ rfl, hbeside _ _ _ _ rfl rfl (by decide), hbeside _ _ _ _ rfl rfl (by decide),
      hbeside _ _ _ _ rfl rfl (by decide), State.setFlag, hbeside _ _ _ _ rfl rfl (by decide),
      State.fld_setFld _ _ _ _ _ rfl]
    rfl
  case kind =>
    rw [haddr _ _ _ rfl, hbeside _ _ _ _ rfl rfl (by decide), hbeside _ _ _ _ rfl rfl (by decide),
      State.fld_setFld _ _ _ _ _ rfl]
    rfl
  case master =>
    rw [haddr _ _ _ rfl, hbeside _ _ _ _ rfl rfl (by decide), State.fld_setFld _ _ _ _ _ rfl]
    exact Nat.mod_eq_of_lt ((masterCode_lt m).trans (show 8 < 2 ^ 4 by decide))

/-- A record that is held stays, and counts. -/
theorem State.count_decodeErr_priv (h : s.flag F.DEV_DECODE_ERR_VALID = true) :
    (s.decodeErr m write 2 addr).flag F.DEV_DECODE_ERR_VALID = true ∧
    (s.decodeErr m write 2 addr).fld F.DEV_DECODE_ERR_CNT = min (s.fld F.DEV_DECODE_ERR_CNT + 1) 0xFFFF := by
  rw [s.decodeErr_priv_of_held m write addr h, State.bumpFld]
  constructor
  · rw [State.flag, State.fld_setFld_ne _ _ _ _ _ _ _ _ rfl rfl (by decide)]
    exact (s.flag_valid_raise_priv m).trans h
  · rw [State.fld_setFld _ _ _ _ _ rfl, State.fld_spiErr, State.raise, State.fld_setFld_other _ _ _ _ _ _ _ _ (by decide)]
    exact Nat.mod_eq_of_lt ((Nat.min_le_right ..).trans_lt (by decide))

end Privilege

/-! ## CORE_IRQ_EN -/

/-- The address of each core's enables names them. -/
theorem target_coreIrqEn : ∀ c < 4, target (R .DEV_CORE_IRQ_EN c).addr = .reg (R .DEV_CORE_IRQ_EN c) := by decide

/-- The enables stand at aligned addresses. -/
theorem addr_coreIrqEn : ∀ c < 4, (R .DEV_CORE_IRQ_EN c).addr < 2 ^ 32 ∧ (R .DEV_CORE_IRQ_EN c).addr % 4 = 0 := by
  decide

section Enables

variable {s : State} {m : Master} {c : Nat} (hacc : s.accepts m (R .DEV_CORE_IRQ_EN c) = true) (hc : c < 4)
include hacc hc

/-- REGISTER_WRITE of a core's enables asks whose machine mode the write comes from. -/
theorem exec_registerWrite_coreIrqEn (v : W32) : exec (.registerWrite m (R .DEV_CORE_IRQ_EN c).addr v) s =
    .next ((s.rewritten (R .DEV_CORE_IRQ_EN c)).coreIrqWrite m c v) := by
  obtain ⟨hlt, hal⟩ := addr_coreIrqEn c hc
  exact exec_registerWrite_of_accepts hacc hlt hal (target_coreIrqEn c hc) v

/-- The core's own machine mode writes them. -/
theorem exec_registerWrite_coreIrqEn_own (hown : ownCore m c = true) (v : W32) :
    exec (.registerWrite m (R .DEV_CORE_IRQ_EN c).addr v) s =
      .next ((s.rewritten (R .DEV_CORE_IRQ_EN c)).plainWrite (R .DEV_CORE_IRQ_EN c) v) := by
  rw [exec_registerWrite_coreIrqEn hacc hc, State.coreIrqWrite, if_pos hown]

/-- Another master's write is refused. -/
theorem exec_registerWrite_coreIrqEn_other (hown : ownCore m c = false) (v : W32) :
    exec (.registerWrite m (R .DEV_CORE_IRQ_EN c).addr v) s =
      .next ((s.rewritten (R .DEV_CORE_IRQ_EN c)).decodeErr m true 2 (R .DEV_CORE_IRQ_EN c).addr) := by
  rw [exec_registerWrite_coreIrqEn hacc hc, State.coreIrqWrite, if_neg (ne_true_of_eq_false hown)]

end Enables

/-- A refused access leaves the enables. -/
theorem State.rd_coreIrqEn_decodeErr (s : State) (m : Master) (write : Bool) (kind addr c : Nat) :
    (s.decodeErr m write kind addr).rd (R .DEV_CORE_IRQ_EN c) = s.rd (R .DEV_CORE_IRQ_EN c) :=
  (s.decodeErr_upd m write kind addr).rd_of .DEV_CORE_IRQ_EN c 0 rfl

/-- Settles O41. A write that reaches the register is a plain one from the core's own machine mode, and otherwise a refused
privilege, which leaves the register and is recorded or counted. -/
theorem coreInterruptEnables : Obligations.CoreInterruptEnables := by
  unfold Obligations.CoreInterruptEnables
  refine ⟨?own, ?record, ?count, ?interrupt⟩
  case own =>
    intro s m c v hacc hc hown
    exact ⟨_, exec_registerWrite_coreIrqEn_own hacc hc hown v, State.rd_plainWrite_of_rw _ rfl rfl rfl v⟩
  case record =>
    intro s m c v hacc hc hown hfree
    obtain ⟨hvalid, hkind, hmaster⟩ :=
      (s.rewritten (R .DEV_CORE_IRQ_EN c)).record_decodeErr_priv m true (R .DEV_CORE_IRQ_EN c).addr hfree
    exact ⟨_, exec_registerWrite_coreIrqEn_other hacc hc hown v, State.rd_coreIrqEn_decodeErr .., hvalid, hkind, hmaster,
      State.flag_event_decodeErr_priv ..⟩
  case count =>
    intro s m c v hacc hc hown hheld
    obtain ⟨hvalid, hcount⟩ :=
      (s.rewritten (R .DEV_CORE_IRQ_EN c)).count_decodeErr_priv m true (R .DEV_CORE_IRQ_EN c).addr hheld
    exact ⟨_, exec_registerWrite_coreIrqEn_other hacc hc hown v, State.rd_coreIrqEn_decodeErr .., hvalid, hcount,
      State.flag_event_decodeErr_priv ..⟩
  case interrupt => exact fun _ _ => rfl

end Sys2Proof.Machine
end

section
/-! The read of an aliased page as one direct read (spec/18, R423): what a direct read leaves of every register, what it
captures, and that a page without an answer leaves the registers of the aliased pages alone. -/

namespace Sys2Proof.Machine

/-! ## A direct read of a register that answers (R10, R420) -/

@[simp] theorem State.rd_answer (s : State) (m : Master) (w : W32) (k : RegKey) : (s.answer m w).rd k = s.rd k := rfl

@[simp] theorem State.cap_answer (s : State) (m : Master) (w : W32) : (s.answer m w).fab.cap = s.fab.cap := rfl

/-- A conditional change that leaves a register, whichever way it goes. -/
theorem State.rd_when {s : State} {b : Bool} {f : State → State} {k : RegKey} (h : (f s).rd k = s.rd k) :
    (s.when b f).rd k = s.rd k := by
  cases b
  · rfl
  · exact h

section Effect

variable (s : State) (m : Master) {k : RegKey}

/-- A read clears the RC bits of its register. -/
theorem State.rd_readEffect_of_rc (hrc : k.id.info.rc ≠ 0) :
    (s.readEffect m k).rd k = s.rd k &&& ~~~k.id.info.rc &&& k.mask := by
  unfold State.readEffect
  extract_lets up t u
  have hrd : u.rd k = s.rd k := (State.rd_when rfl).trans (State.rd_when rfl)
  rw [bne_iff_ne.2 hrc, State.when_true, State.rd_wr_same, hrd]

/-- A read leaves the other registers. -/
theorem State.rd_readEffect_ne {k' : RegKey} (hne : k' ≠ k) : (s.readEffect m k).rd k' = s.rd k' := by
  unfold State.readEffect
  extract_lets up t u
  have hrd : u.rd k' = s.rd k' := (State.rd_when rfl).trans (State.rd_when rfl)
  exact (State.rd_when (State.rd_wr_ne _ hne _)).trans hrd

/-- A read of a LO word captures the words above it, as they show. -/
theorem State.cap_readEffect (hup : upper k.id ≠ []) : (s.readEffect m k).fab.cap.get [] (masterCode m) =
    (upper k.id).map fun h => (⟨h, k.i, k.j⟩, s.view m ⟨h, k.i, k.j⟩ &&& RegKey.mask ⟨h, k.i, k.j⟩) := by
  have hfab (t : State) (b : Bool) (f : State → State) (h : (f t).fab = t.fab) : (t.when b f).fab = t.fab := by
    cases b
    · rfl
    · exact h
  have hsome : (!((upper k.id).map fun h => (⟨h, k.i, k.j⟩ : RegKey)).isEmpty) = true := by simpa using hup
  unfold State.readEffect
  extract_lets up t u
  rw [hfab _ _ _ rfl, hfab _ _ _ rfl]
  unfold t
  rw [hsome, State.when_true]
  exact (NTab.get_set_same ..).trans (List.map_map ..)

/-- A register that answers is read with the read's side effects. -/
theorem State.readReg_of_regOn {s : State} (hon : s.regOn k = true) :
    s.readReg m k = (s.readEffect m k).answer m (s.readWord m k) := if_pos hon

/-- A register that does not answer gives the error word, and the access is logged. -/
theorem State.readReg_of_regOff {s : State} (hoff : s.regOn k = false) : s.readReg m k =
    (s.accessErr m false (s.inReset k.domain (k.addr / 4096)) (s.errDom k.domain) k.addr).answer m badWord :=
  if_neg (ne_true_of_eq_false hoff)

end Effect

/-! ## The registers of the aliased pages (R421) -/

/-- A search through register names that gives each name's own registers finds one of those names. -/
theorem id_mem_of_findSome? {ids : List RegId} {elem : RegId → Option Nat} {key : RegId → Nat → RegKey} {k : RegKey}
    (hkey : ∀ id e, (key id e).id = id) (h : ids.findSome? (fun id => (elem id).map (key id)) = some k) : k.id ∈ ids := by
  obtain ⟨id, hmem, he⟩ := List.exists_of_findSome?_eq_some h
  obtain ⟨e, _, rfl⟩ := Option.map_eq_some_iff.1 he
  exact (hkey id e).symm ▸ hmem

/-- The register that a page kind has at an address is one of that kind. -/
theorem Page.id_mem_of_at {p : Page} {a : Nat} {k : RegKey} (h : p.at a = some k) : k.id ∈ p.regs := by
  unfold Page.at at h
  extract_lets q i at h
  split at h
  case isTrue => cases h
  case isFalse =>
    split at h
    case isTrue => exact id_mem_of_findSome? (fun _ _ => rfl) h
    case isFalse =>
      split at h
      case isTrue => cases h
      case isFalse => exact id_mem_of_findSome? (fun _ _ => rfl) h

/-- The register of an aliased page is one of the page kind that stands behind it. -/
theorem id_mem_of_setAt {a i : Nat} {k : RegKey} {all : Bool} (h : setAt a = some (i, k, all)) :
    ∃ e ∈ setPages, k.id ∈ e.2.regs := by
  obtain ⟨e, hmem, he⟩ := List.exists_of_findSome?_eq_some h
  split at he
  case isTrue =>
    obtain ⟨k', hk', heq⟩ := Option.map_eq_some_iff.1 he
    obtain ⟨hat, _⟩ := Option.filter_eq_some_iff.1 hk'
    cases heq
    exact ⟨e.1, List.fst_mem_of_mem_zipIdx hmem, Page.id_mem_of_at hat⟩
  case isFalse => cases he

/-- An address that names an aliased page lies in one: every other place gives a target of its own kind. -/
theorem setAt_of_target {a i : Nat} {k : RegKey} {all : Bool} (h : target a = .set i k all) :
    setAt (a / 4 * 4) = some (i, k, all) := by
  unfold target at h
  repeat' split at h
  all_goals cases h
  assumption

/-- What keeps the registers of the aliased pages keeps them all, selected or not. -/
theorem Upd.rd_of_target {w : Nat} {s t : State} (hupd : Upd w s t)
    (hw : ∀ e ∈ setPages, ∀ id ∈ e.2.regs, w.testBit id.ctorIdx = false) {a i : Nat} {k : RegKey} {all : Bool}
    (h : target a = .set i k all) (x : Nat) : t.rd ⟨k.id, x, k.j⟩ = s.rd ⟨k.id, x, k.j⟩ := by
  obtain ⟨e, hmem, hid⟩ := id_mem_of_setAt (setAt_of_target h)
  exact hupd.reg _ (hw e hmem k.id hid)

/-- Logging an access error leaves the registers of the aliased pages, selected or not. -/
theorem State.rd_accessErr_of_target {a i : Nat} {k : RegKey} {all : Bool} (h : target a = .set i k all) (s : State)
    (m : Master) (write inRst : Bool) (dom addr x : Nat) :
    (s.accessErr m write inRst dom addr).rd ⟨k.id, x, k.j⟩ = s.rd ⟨k.id, x, k.j⟩ :=
  (s.accessErr_upd m write inRst dom addr).rd_of_target (by decide) h x

/-! ## R423 -/

/-- ALIAS_READ let through, with some selected, is the direct read of the first one. -/
theorem exec_aliasRead_of_selected {s : State} {m : Master} {addr i n : Nat} {k : RegKey} {all : Bool} {l : List Nat}
    (hissue : s.canIssue m = true) (hfree : s.holdsBack m = false) (hlt : addr < 2 ^ 32) (hal : addr % 4 = 0)
    (ht : target addr = .set i k all) (hgrant : s.denied m addr 0 = false) (hsel : s.selected i all = n :: l) :
    exec (.aliasRead m addr) s = .next (s.readReg m ⟨k.id, n, k.j⟩) := by
  rw [exec_aliasRead_of_target hissue hfree hlt hal ht hgrant, State.setRead_of_selected_cons hsel]

/-- Settles O58. The read is the direct one of the first selected; the rest says what a direct read changes when the register
answers, and that it leaves the aliased registers when it does not. -/
theorem aliasReadIsOneDirectRead : Obligations.AliasReadIsOneDirectRead := by
  unfold Obligations.AliasReadIsOneDirectRead
  refine ⟨?direct, ?clears, ?captures, ?off⟩
  case direct =>
    intro s m addr i k all n l hissue hfree hlt hal ht hgrant hsel
    exact ⟨_, exec_aliasRead_of_selected hissue hfree hlt hal ht hgrant hsel, rfl,
      State.lt_setSize_of_mem_selected (hsel ▸ List.mem_cons_self), State.lt_of_selected_eq_cons hsel⟩
  case clears =>
    intro s m addr i k all n l hissue hfree hlt hal ht hgrant hsel hon hrc
    refine ⟨_, exec_aliasRead_of_selected hissue hfree hlt hal ht hgrant hsel, ?_⟩
    rw [State.readReg_of_regOn m hon]
    exact ⟨s.rd_readEffect_of_rc m hrc, fun x hx => s.rd_readEffect_ne m fun e => hx (congrArg RegKey.i e)⟩
  case captures =>
    intro s m addr i k all n l hissue hfree hlt hal ht hgrant hsel hon hup
    refine ⟨_, exec_aliasRead_of_selected hissue hfree hlt hal ht hgrant hsel, ?_⟩
    rw [State.readReg_of_regOn m hon]
    exact s.cap_readEffect m hup
  case off =>
    intro s m addr i k all n l hissue hfree hlt hal ht hgrant hsel hoff
    refine ⟨_, exec_aliasRead_of_selected hissue hfree hlt hal ht hgrant hsel, ?_⟩
    rw [State.readReg_of_regOff m hoff]
    exact ⟨State.rdata_answer .., fun x => (State.rd_answer ..).trans (State.rd_accessErr_of_target ht ..)⟩

end Sys2Proof.Machine
end

section
/-! What every command keeps, read off the footprints of Laws/Foot*.lean: the invariant, the queue, the clock and the
fuses (O32 to O40), and the frames of the commands by family (O49 to O54). -/

namespace Sys2Proof.Machine

/-! ## Every command has a footprint -/

/-- What every command keeps of the state `s` it finds in the state `t` it leaves: the invariant, the queue, the clock and
the fuses but the life-cycle state. -/
structure Kept (s t : State) : Prop where
  inv : s.Inv → t.Inv
  pending : t.pending = s.pending
  us : t.us = s.us
  fuse : t.fuse = { s.fuse with lc := t.fuse.lc }

theorem Kept.trans {s t u : State} (h : Kept s t) (g : Kept t u) : Kept s u where
  inv hi := g.inv (h.inv hi)
  pending := g.pending.trans h.pending
  us := g.us.trans h.us
  fuse := by rw [g.fuse, h.fuse]

/-- A footprint that spares the clock and the fuses. -/
theorem Upd.kept {w : Nat} {s t : State} (h : Upd w s t) (hus : w.testBit 656 = false) (hfuse : w.testBit 600 = false) :
    Kept s t where
  inv := h.inv
  pending := h.pending
  us := h.us hus
  fuse := by rw [h.fuse hfuse]

/-- The command's meaning answers a next state, and keeps what every command keeps. -/
def Executed (o : Host.Outcome State Fault Refusal) (s : State) : Prop := ∃ t, o = .next t ∧ Kept s t

theorem Executed.of_upd {w : Nat} {o : Host.Outcome State Fault Refusal} {s : State}
    (h : ∃ t, o = .next t ∧ Upd w s t) (hus : w.testBit 656 = false) (hfuse : w.testBit 600 = false) : Executed o s :=
  let ⟨t, e, u⟩ := h
  ⟨t, e, u.kept hus hfuse⟩

/-- The one command that burns fuses writes the life-cycle state alone (R367). -/
theorem State.lcBurn_kept (s : State) : Kept s s.lcBurn where
  inv := s.lcBurn_upd.inv
  pending := s.lcBurn_upd.pending
  us := s.lcBurn_upd.us rfl
  fuse := by
    unfold State.lcBurn
    split
    · rfl
    · dsimp only
      split <;> rfl

theorem State.execResetRelease_kept (s : State) (src : Nat) : Executed (execResetRelease src s) s := by
  refine ⟨_, rfl, ?_⟩
  split
  · exact (Upd.refl 0 s).kept rfl rfl
  · refine Kept.trans ?_ ((State.srcRelease_upd _ _).kept rfl rfl)
    have rails : Kept s (s.when ((src == 1 || src == 10) && s.asserted.any fun a => a.src == src) fun s =>
        s.modPwr fun p => { p with pg := p.en.foldl (fun l r => if l.contains r then l else r :: l) p.pg }) :=
      s.when_holds (Kept s) _ _ ((Upd.refl 0 s).kept rfl rfl) fun _ => (s.modPwr_upd _).kept rfl rfl
    exact State.when_holds _ (Kept s) _ _ rails fun h => h.trans (State.lcBurn_kept _)

/-- Every command is executed and keeps the invariant, the queue, the clock and the fuses. -/
theorem exec_executed : ∀ (c : Instr) (s : State), Executed (exec c s) s
  | .go m c v, s => .of_upd (execGo_upd m c v s) rfl rfl
  | .cancel m c v, s => .of_upd (execCancel_upd m c v s) rfl rfl
  | .rxProfileWrite m c v, s => .of_upd (execRxProfileWrite_upd m c v s) rfl rfl
  | .announce c, s => .of_upd (execAnnounce_upd c s) rfl rfl
  | .multiframeTx c, s => .of_upd (execMultiframeTx_upd c s) rfl rfl
  | .switch c, s => .of_upd (execSwitch_upd c s) rfl rfl
  | .chgDone c, s => .of_upd (execChgDone_upd c s) rfl rfl
  | .holdTimeout c, s => .of_upd (execHoldTimeout_upd c s) rfl rfl
  | .multiframeRx c marks, s => .of_upd (execMultiframeRx_upd c marks s) rfl rfl
  | .rxFollowed c, s => .of_upd (execRxFollowed_upd c s) rfl rfl
  | .descAdopted c, s => .of_upd (execDescAdopted_upd c s) rfl rfl
  | .expCdRange c cd, s => .of_upd (execExpCdRange_upd c cd s) rfl rfl
  | .expCdReturn c cd, s => .of_upd (execExpCdReturn_upd c cd s) rfl rfl
  | .expStepMove c cd, s => .of_upd (execExpStepMove_upd c cd s) rfl rfl
  | .laserOn m c v, s => .of_upd (execLaserOn_upd m c v s) rfl rfl
  | .mute m c v, s => .of_upd (execMute_upd m c v s) rfl rfl
  | .settleElapsed c, s => .of_upd (execSettleElapsed_upd c s) rfl rfl
  | .serviceEntered c, s => .of_upd (execServiceEntered_upd c s) rfl rfl
  | .clkFault c, s => .of_upd (execClkFault_upd c s) rfl rfl
  | .txClkLock c, s => .of_upd (execTxClkLock_upd c s) rfl rfl
  | .segErr c, s => .of_upd (execSegErr_upd c s) rfl rfl
  | .txPreApply m c v, s => .of_upd (execTxPreApply_upd m c v s) rfl rfl
  | .txPreCopyDone c, s => .of_upd (execTxPreCopyDone_upd c s) rfl rfl
  | .clip c lane, s => .of_upd (execClip_upd c lane s) rfl rfl
  | .txSkewWrite m c lane v, s => .of_upd (execTxSkewWrite_upd m c lane v s) rfl rfl
  | .skewRamp c lane, s => .of_upd (execSkewRamp_upd c lane s) rfl rfl
  | .rxEn m c v, s => .of_upd (execRxEn_upd m c v s) rfl rfl
  | .acqRestart m c v, s => .of_upd (execAcqRestart_upd m c v s) rfl rfl
  | .acqStep c e, s => .of_upd (execAcqStep_upd c e s) rfl rfl
  | .acqTimeout c, s => .of_upd (execAcqTimeout_upd c s) rfl rfl
  | .relockFail c, s => .of_upd (execRelockFail_upd c s) rfl rfl
  | .los c rms, s => .of_upd (execLos_upd c rms s) rfl rfl
  | .losClear c rms, s => .of_upd (execLosClear_upd c rms s) rfl rfl
  | .adcClkFault c, s => .of_upd (execAdcClkFault_upd c s) rfl rfl
  | .clkLol c, s => .of_upd (execClkLol_upd c s) rfl rfl
  | .scLost sc, s => .of_upd (execScLost_upd sc s) rfl rfl
  | .reconvTimeout sc, s => .of_upd (execReconvTimeout_upd sc s) rfl rfl
  | .scLocked sc, s => .of_upd (execScLocked_upd sc s) rfl rfl
  | .degSet sc, s => .of_upd (execDegSet_upd sc s) rfl rfl
  | .degClear sc, s => .of_upd (execDegClear_upd sc s) rfl rfl
  | .sopTransient sc rate, s => .of_upd (execSopTransient_upd sc rate s) rfl rfl
  | .slip sc, s => .of_upd (execSlip_upd sc s) rfl rfl
  | .fofsRange x, s => .of_upd (execFofsRange_upd x s) rfl rfl
  | .boostMismatch c meas, s => .of_upd (execBoostMismatch_upd c meas s) rfl rfl
  | .rxShapeWrite m c v, s => .of_upd (execRxShapeWrite_upd m c v s) rfl rfl
  | .snapshot c x, s => .of_upd (execSnapshot_upd c x s) rfl rfl
  | .storeExpired c, s => .of_upd (execStoreExpired_upd c s) rfl rfl
  | .cdFine c, s => .of_upd (execCdFine_upd c s) rfl rfl
  | .sliceSwap c lane n, s => .of_upd (execSliceSwap_upd c lane n s) rfl rfl
  | .decode sc cw, s => .of_upd (execDecode_upd sc cw s) rfl rfl
  | .uncDefectSet sc, s => .of_upd (execUncDefectSet_upd sc s) rfl rfl
  | .uncDefectClear sc, s => .of_upd (execUncDefectClear_upd sc s) rfl rfl
  | .prefecDegSet sc, s => .of_upd (execPrefecDegSet_upd sc s) rfl rfl
  | .prefecDegClear sc, s => .of_upd (execPrefecDegClear_upd sc s) rfl rfl
  | .fecTotClr m sc v, s => .of_upd (execFecTotClr_upd m sc v s) rfl rfl
  | .fecSecLatch, s => .of_upd (execFecSecLatch_upd s) rfl rfl
  | .hypothesisCheck sc pos errs, s => .of_upd (execHypothesisCheck_upd sc pos errs s) rfl rfl
  | .searchInterval sc, s => .of_upd (execSearchInterval_upd sc s) rfl rfl
  | .frameRx sc errs hdr ovh, s => .of_upd (execFrameRx_upd sc errs hdr ovh s) rfl rfl
  | .lofSet sc, s => .of_upd (execLofSet_upd sc s) rfl rfl
  | .lofClr sc, s => .of_upd (execLofClr_upd sc s) rfl rfl
  | .commitTx m sc v, s => .of_upd (execCommitTx_upd m sc v s) rfl rfl
  | .commitRx m sc v, s => .of_upd (execCommitRx_upd m sc v s) rfl rfl
  | .pendingCommit sc tx, s => .of_upd (execPendingCommit_upd sc tx s) rfl rfl
  | .slotMapInForce sc tx, s => .of_upd (execSlotMapInForce_upd sc tx s) rfl rfl
  | .grpCfgWrite m g v, s => .of_upd (execGrpCfgWrite_upd m g v s) rfl rfl
  | .lfmTotClr m sc v, s => .of_upd (execLfmTotClr_upd m sc v s) rfl rfl
  | .groupMarker g msn round gap arrival, s => .of_upd (execGroupMarker_upd g msn round gap arrival s) rfl rfl
  | .skewCheck g, s => .of_upd (execSkewCheck_upd g s) rfl rfl
  | .grpUp g, s => .of_upd (execGrpUp_upd g s) rfl rfl
  | .grpSlip g msn, s => .of_upd (execGrpSlip_upd g msn s) rfl rfl
  | .pmLatch, s => .of_upd (execPmLatch_upd s) rfl rfl
  | .portCfgWrite m p v, s => .of_upd (execPortCfgWrite_upd m p v s) rfl rfl
  | .portCntClr m p v, s => .of_upd (execPortCntClr_upd m p v s) rfl rfl
  | .hostFrame p fr, s => .of_upd (execHostFrame_upd p fr s) rfl rfl
  | .pauseRefresh p, s => .of_upd (execPauseRefresh_upd p s) rfl rfl
  | .pauseReceived p pfc en quanta, s => .of_upd (execPauseReceived_upd p pfc en quanta s) rfl rfl
  | .pauseExpiry p prio, s => .of_upd (execPauseExpiry_upd p prio s) rfl rfl
  | .phEntryWrite m f word v, s => .of_upd (execPhEntryWrite_upd m f word v s) rfl rfl
  | .validate m f v, s => .of_upd (execValidate_upd m f v s) rfl rfl
  | .flowRemove m f v, s => .of_upd (execFlowRemove_upd m f v s) rfl rfl
  | .flowMove m v, s => .of_upd (execFlowMove_upd m v s) rfl rfl
  | .flowFlush m v, s => .of_upd (execFlowFlush_upd m v s) rfl rfl
  | .clrCnt m v, s => .of_upd (execClrCnt_upd m v s) rfl rfl
  | .frameSent e ecc, s => .of_upd (execFrameSent_upd e ecc s) rfl rfl
  | .grpHoldEnd g, s => .of_upd (execGrpHoldEnd_upd g s) rfl rfl
  | .recordHeader g word marked fr, s => .of_upd (execRecordHeader_upd g word marked fr s) rfl rfl
  | .sealHeader g h, s => .of_upd (execSealHeader_upd g h s) rfl rfl
  | .cipherDone id ok out, s => .of_upd (execCipherDone_upd id ok out s) rfl rfl
  | .cipherTimeout id, s => .of_upd (execCipherTimeout_upd id s) rfl rfl
  | .loadKey m v, s => .of_upd (execLoadKey_upd m v s) rfl rfl
  | .loadKek m v, s => .of_upd (execLoadKek_upd m v s) rfl rfl
  | .erase m v, s => .of_upd (execErase_upd m v s) rfl rfl
  | .eraseKek m v, s => .of_upd (execEraseKek_upd m v s) rfl rfl
  | .txAnWrite m grp i v, s => .of_upd (execTxAnWrite_upd m grp i v s) rfl rfl
  | .entFail, s => .of_upd (execEntFail_upd s) rfl rfl
  | .entOk, s => .of_upd (execEntOk_upd s) rfl rfl
  | .hayAccessDone a, s => .of_upd (execHayAccessDone_upd a s) rfl rfl
  | .accTimeout a, s => .of_upd (execAccTimeout_upd a s) rfl rfl
  | .mergeWriteBack line e, s => .of_upd (execMergeWriteBack_upd line e s) rfl rfl
  | .scrubRead line e, s => .of_upd (execScrubRead_upd line e s) rfl rfl
  | .retAdd m v, s => .of_upd (execRetAdd_upd m v s) rfl rfl
  | .retRemove m v, s => .of_upd (execRetRemove_upd m v s) rfl rfl
  | .retRead m v, s => .of_upd (execRetRead_upd m v s) rfl rfl
  | .apertureRead m off e, s => .of_upd (execApertureRead_upd m off e s) rfl rfl
  | .apertureWrite m off v, s => .of_upd (execApertureWrite_upd m off v s) rfl rfl
  | .capCfgWrite m v, s => .of_upd (execCapCfgWrite_upd m v s) rfl rfl
  | .capClr m v, s => .of_upd (execCapClr_upd m v s) rfl rfl
  | .capDrop, s => .of_upd (execCapDrop_upd s) rfl rfl
  | .hayCfgWrite m v, s => .of_upd (execHayCfgWrite_upd m v s) rfl rfl
  | .drainRefused, s => .of_upd (execDrainRefused_upd s) rfl rfl
  | .refLost i, s => .of_upd (execRefLost_upd i s) rfl rfl
  | .refPresent i, s => .of_upd (execRefPresent_upd i s) rfl rfl
  | .esmcPdu p pdu, s => .of_upd (execEsmcPdu_upd p pdu s) rfl rfl
  | .qlTimeout i, s => .of_upd (execQlTimeout_upd i s) rfl rfl
  | .qlSrcWrite m i v, s => .of_upd (execQlSrcWrite_upd m i v s) rfl rfl
  | .qualWindow l, s => .of_upd (execQualWindow_upd l s) rfl rfl
  | .disq i base, s => .of_upd (execDisq_upd i base s) rfl rfl
  | .requalification i, s => .of_upd (execRequalification_upd i s) rfl rfl
  | .wtrExpiry i, s => .of_upd (execWtrExpiry_upd i s) rfl rfl
  | .selectorTick, s => .of_upd (execSelectorTick_upd s) rfl rfl
  | .selManual m idx, s => .of_upd (execSelManual_upd m idx s) rfl rfl
  | .selForced m idx, s => .of_upd (execSelForced_upd m idx s) rfl rfl
  | .selClear m idx, s => .of_upd (execSelClear_upd m idx s) rfl rfl
  | .holdoffEnd, s => .of_upd (execHoldoffEnd_upd s) rfl rfl
  | .buildoutDone ofs, s => .of_upd (execBuildoutDone_upd ofs s) rfl rfl
  | .enterLocked, s => .of_upd (execEnterLocked_upd s) rfl rfl
  | .enterAcquire, s => .of_upd (execEnterAcquire_upd s) rfl rfl
  | .stbMode m v, s => .of_upd (execStbMode_upd m v s) rfl rfl
  | .fwBeat m v, s => .of_upd (execFwBeat_upd m v s) rfl rfl
  | .fwLost, s => .of_upd (execFwLost_upd s) rfl rfl
  | .hoBoundCheck, s => .of_upd (execHoBoundCheck_upd s) rfl rfl
  | .frozenLim, s => .of_upd (execFrozenLim_upd s) rfl rfl
  | .steerSrv m v, s => .of_upd (execSteerSrv_upd m v s) rfl rfl
  | .steerMan m v, s => .of_upd (execSteerMan_upd m v s) rfl rfl
  | .sample10min start tInt tExt, s => .of_upd (execSample10min_upd start tInt tExt s) rfl rfl
  | .sample1s start tInt tExt, s => .of_upd (execSample1s_upd start tInt tExt s) rfl rfl
  | .pruneDone, s => .of_upd (execPruneDone_upd s) rfl rfl
  | .esmcTx p, s => .of_upd (execEsmcTx_upd p s) rfl rfl
  | .eventPdu p, s => .of_upd (execEventPdu_upd p s) rfl rfl
  | .pmkStep m, s => .of_upd (execPmkStep_upd m s) rfl rfl
  | .stepped, s => .of_upd (execStepped_upd s) rfl rfl
  | .stepCancel m, s => .of_upd (execStepCancel_upd m s) rfl rfl
  | .adj m v, s => .of_upd (execAdj_upd m v s) rfl rfl
  | .adjDone, s => .of_upd (execAdjDone_upd s) rfl rfl
  | .autoStep err, s => .of_upd (execAutoStep_upd err s) rfl rfl
  | .secMis, s => .of_upd (execSecMis_upd s) rfl rfl
  | .timeFault d, s => .of_upd (execTimeFault_upd d s) rfl rfl
  | .ptpRx p taken l, s => .of_upd (execPtpRx_upd p taken l s) rfl rfl
  | .oneStepSync p l, s => .of_upd (execOneStepSync_upd p l s) rfl rfl
  | .ppsOut, s => .of_upd (execPpsOut_upd s) rfl rfl
  | .todMessage, s => .of_upd (execTodMessage_upd s) rfl rfl
  | .zda ok utc, s => .of_upd (execZda_upd ok utc s) rfl rfl
  | .timeMessage c sc, s => .of_upd (execTimeMessage_upd c sc s) rfl rfl
  | .ttLatch, s => .of_upd (execTtLatch_upd s) rfl rfl
  | .tchFrameTx, s => .of_upd (execTchFrameTx_upd s) rfl rfl
  | .tchFrameRx x, s => .of_upd (execTchFrameRx_upd x s) rfl rfl
  | .timePostcard, s => .of_upd (execTimePostcard_upd s) rfl rfl
  | .slotDone p x y, s => .of_upd (execSlotDone_upd p x y s) rfl rfl
  | .monTrig rising, s => .of_upd (execMonTrig_upd rising s) rfl rfl
  | .trigDone p x y, s => .of_upd (execTrigDone_upd p x y s) rfl rfl
  | .softTrig m, s => .of_upd (execSoftTrig_upd m s) rfl rfl
  | .compatTimer, s => .of_upd (execCompatTimer_upd s) rfl rfl
  | .snapDone l, s => .of_upd (execSnapDone_upd l s) rfl rfl
  | .settled n, s => .of_upd (execSettled_upd n s) rfl rfl
  | .chkWindow p ms x y, s => .of_upd (execChkWindow_upd p ms x y s) rfl rfl
  | .monFault p x y, s => .of_upd (execMonFault_upd p x y s) rfl rfl
  | .faultClr m, s => .of_upd (execFaultClr_upd m s) rfl rfl
  | .binBlock b sec ns, s => .of_upd (execBinBlock_upd b sec ns s) rfl rfl
  | .monCfgWrite m addr v, s => .of_upd (execMonCfgWrite_upd m addr v s) rfl rfl
  | .postcardTxStart c, s => .of_upd (execPostcardTxStart_upd c s) rfl rfl
  | .txDone c, s => .of_upd (execTxDone_upd c s) rfl rfl
  | .txCmd m c v, s => .of_upd (execTxCmd_upd m c v s) rfl rfl
  | .txExpired c, s => .of_upd (execTxExpired_upd c s) rfl rfl
  | .identTimer c, s => .of_upd (execIdentTimer_upd c s) rfl rfl
  | .qlTimer c, s => .of_upd (execQlTimer_upd c s) rfl rfl
  | .defectTimer c, s => .of_upd (execDefectTimer_upd c s) rfl rfl
  | .srTimer c, s => .of_upd (execSrTimer_upd c s) rfl rfl
  | .preambleDetection k lvl, s => .of_upd (execPreambleDetection_upd k lvl s) rfl rfl
  | .falseDet k, s => .of_upd (execFalseDet_upd k s) rfl rfl
  | .syncMatch k lvl bits, s => .of_upd (execSyncMatch_upd k lvl bits s) rfl rfl
  | .postcardEnd k hdr data crc, s => .of_upd (execPostcardEnd_upd k hdr data crc s) rfl rfl
  | .boundTimeout k, s => .of_upd (execBoundTimeout_upd k s) rfl rfl
  | .seqWindowReset k, s => .of_upd (execSeqWindowReset_upd k s) rfl rfl
  | .rxPop m v, s => .of_upd (execRxPop_upd m v s) rfl rfl
  | .pccCfgWrite m v, s => .of_upd (execPccCfgWrite_upd m v s) rfl rfl
  | .trainDone l eq snr, s => .of_upd (execTrainDone_upd l eq snr s) rfl rfl
  | .trainFail l, s => .of_upd (execTrainFail_upd l s) rfl rfl
  | .trainRetry l, s => .of_upd (execTrainRetry_upd l s) rfl rfl
  | .cdrLol l, s => .of_upd (execCdrLol_upd l s) rfl rfl
  | .prbsLock yard l, s => .of_upd (execPrbsLock_upd yard l s) rfl rfl
  | .prbsLoss yard l errs, s => .of_upd (execPrbsLoss_upd yard l errs s) rfl rfl
  | .errInj m yard l v, s => .of_upd (execErrInj_upd m yard l v s) rfl rfl
  | .genEn m yard l v, s => .of_upd (execGenEn_upd m yard l v s) rfl rfl
  | .laneCntClr m l v, s => .of_upd (execLaneCntClr_upd m l v s) rfl rfl
  | .yardBlock l fill b, s => .of_upd (execYardBlock_upd l fill b s) rfl rfl
  | .hello l h, s => .of_upd (execHello_upd l h s) rfl rfl
  | .helloLost j, s => .of_upd (execHelloLost_upd j s) rfl rfl
  | .runReady m v, s => .of_upd (execRunReady_upd m v s) rfl rfl
  | .runSwitch j, s => .of_upd (execRunSwitch_upd j s) rfl rfl
  | .laneFailure l lock, s => .of_upd (execLaneFailure_upd l lock s) rfl rfl
  | .spareIn j, s => .of_upd (execSpareIn_upd j s) rfl rfl
  | .revert m j v, s => .of_upd (execRevert_upd m j v s) rfl rfl
  | .sidebandMessage j seq msg, s => .of_upd (execSidebandMessage_upd j seq msg s) rfl rfl
  | .sidebandRepeat j, s => .of_upd (execSidebandRepeat_upd j s) rfl rfl
  | .imgWant j, s => .of_upd (execImgWant_upd j s) rfl rfl
  | .imgRestart d, s => .of_upd (execImgRestart_upd d s) rfl rfl
  | .imgWaitTimeout, s => .of_upd (execImgWaitTimeout_upd s) rfl rfl
  | .imgChecked fore keys rest, s => .of_upd (execImgChecked_upd fore keys rest s) rfl rfl
  | .rmtCmd m v, s => .of_upd (execRmtCmd_upd m v s) rfl rfl
  | .rmtDone ans, s => .of_upd (execRmtDone_upd ans s) rfl rfl
  | .fwdWrite m j tx n v, s => .of_upd (execFwdWrite_upd m j tx n v s) rfl rfl
  | .statusTimeout gid msn, s => .of_upd (execStatusTimeout_upd gid msn s) rfl rfl
  | .domReq m d v, s => .of_upd (execDomReq_upd m d v s) rfl rfl
  | .handshakeAccept d, s => .of_upd (execHandshakeAccept_upd d s) rfl rfl
  | .hsRefused d limit, s => .of_upd (execHsRefused_upd d limit s) rfl rfl
  | .shutdownDone d, s => .of_upd (execShutdownDone_upd d s) rfl rfl
  | .wakeStep d, s => .of_upd (execWakeStep_upd d s) rfl rfl
  | .wakeFail d, s => .of_upd (execWakeFail_upd d s) rfl rfl
  | .wakeRetry d, s => .of_upd (execWakeRetry_upd d s) rfl rfl
  | .twiAddressMatch addr, s => .of_upd (execTwiAddressMatch_upd addr s) rfl rfl
  | .twiAon, s => .of_upd (execTwiAon_upd s) rfl rfl
  | .wakeN, s => .of_upd (execWakeN_upd s) rfl rfl
  | .aonTimer, s => .of_upd (execAonTimer_upd s) rfl rfl
  | .padHold m v, s => .of_upd (execPadHold_upd m v s) rfl rfl
  | .pgFall rail, s => .of_upd (execPgFall_upd rail s) rfl rfl
  | .resetAssert src dom page, s => .of_upd (execResetAssert_upd src dom page s) rfl rfl
  | .idleTimeout src, s => .of_upd (execIdleTimeout_upd src s) rfl rfl
  | .resetRelease src, s => s.execResetRelease_kept src
  | .swChip m v, s => .of_upd (execSwChip_upd m v s) rfl rfl
  | .swCore m v, s => .of_upd (execSwCore_upd m v s) rfl rfl
  | .swDomain m v, s => .of_upd (execSwDomain_upd m v s) rfl rfl
  | .swBlock m v, s => .of_upd (execSwBlock_upd m v s) rfl rfl
  | .swRelease m v, s => .of_upd (execSwRelease_upd m v s) rfl rfl
  | .hostRst m v, s => .of_upd (execHostRst_upd m v s) rfl rfl
  | .imageCheck fore key sig rest, s => .of_upd (execImageCheck_upd fore key sig rest s) rfl rfl
  | .lcCmd m v, s => .of_upd (execLcCmd_upd m v s) rfl rfl
  | .xtalOk, s => .of_upd (execXtalOk_upd s) rfl rfl
  | .xtalFail, s => .of_upd (execXtalFail_upd s) rfl rfl
  | .accessErr m write addr, s => .of_upd (execAccessErr_upd m write addr s) rfl rfl
  | .sliceCycle c lane, s => .of_upd (execSliceCycle_upd c lane s) rfl rfl
  | .sliceResult c lane ab tap, s => .of_upd (execSliceResult_upd c lane ab tap s) rfl rfl
  | .sliceRamp c lane, s => .of_upd (execSliceRamp_upd c lane s) rfl rfl
  | .dacSkewCal c lane a b, s => .of_upd (execDacSkewCal_upd c lane a b s) rfl rfl
  | .monRefRefresh p x y, s => .of_upd (execMonRefRefresh_upd p x y s) rfl rfl
  | .prod m v, s => .of_upd (execProd_upd m v s) rfl rfl
  | .storeNow m v, s => .of_upd (execStoreNow_upd m v s) rfl rfl
  | .liveStore c ok, s => .of_upd (execLiveStore_upd c ok s) rfl rfl
  | .calRefLost, s => .of_upd (execCalRefLost_upd s) rfl rfl
  | .tackRoomWrite m off v, s => .of_upd (execTackRoomWrite_upd m off v s) rfl rfl
  | .tackRoomRead m off e, s => .of_upd (execTackRoomRead_upd m off e s) rfl rfl
  | .bstRun m v, s => .of_upd (execBstRun_upd m v s) rfl rfl
  | .bstFull m v, s => .of_upd (execBstFull_upd m v s) rfl rfl
  | .bstCancel m v, s => .of_upd (execBstCancel_upd m v s) rfl rfl
  | .bstRelease m v, s => .of_upd (execBstRelease_upd m v s) rfl rfl
  | .testAdmit, s => .of_upd (execTestAdmit_upd s) rfl rfl
  | .testDone t e detail, s => .of_upd (execTestDone_upd t e detail s) rfl rfl
  | .bstExpired t, s => .of_upd (execBstExpired_upd t s) rfl rfl
  | .wdtExpiry c, s => .of_upd (execWdtExpiry_upd c s) rfl rfl
  | .wdtKick m c v, s => .of_upd (execWdtKick_upd m c v s) rfl rfl
  | .accessFault c addr kind machine, s => .of_upd (execAccessFault_upd c addr kind machine s) rfl rfl
  | .mpuWrite m c r cfg v, s => .of_upd (execMpuWrite_upd m c r cfg v s) rfl rfl
  | .lbInfo m v, s => .of_upd (execLbInfo_upd m v s) rfl rfl
  | .flashRead m v, s => .of_upd (execFlashRead_upd m v s) rfl rfl
  | .flashErase m v, s => .of_upd (execFlashErase_upd m v s) rfl rfl
  | .flashProg m v, s => .of_upd (execFlashProg_upd m v s) rfl rfl
  | .logRead m v, s => .of_upd (execLogRead_upd m v s) rfl rfl
  | .testWindow m v, s => .of_upd (execTestWindow_upd m v s) rfl rfl
  | .returnAuth m v, s => .of_upd (execReturnAuth_upd m v s) rfl rfl
  | .lbDone e, s => .of_upd (execLbDone_upd e s) rfl rfl
  | .logDrain, s => .of_upd (execLogDrain_upd s) rfl rfl
  | .snap m v, s => .of_upd (execSnap_upd m v s) rfl rfl
  | .dump, s => .of_upd (execDump_upd s) rfl rfl
  | .dumpCfgWrite m v, s => .of_upd (execDumpCfgWrite_upd m v s) rfl rfl
  | .ovf n gain pc seg, s => .of_upd (execOvf_upd n gain pc seg s) rfl rfl
  | .ctrLoad m n v, s => .of_upd (execCtrLoad_upd m n v s) rfl rfl
  | .faultDetected f k, s => .of_upd (execFaultDetected_upd f k s) rfl rfl
  | .cfgParityErr addr v, s => .of_upd (execCfgParityErr_upd addr v s) rfl rfl
  | .cfgScan bad, s => .of_upd (execCfgScan_upd bad s) rfl rfl
  | .winOpen m v, s => .of_upd (execWinOpen_upd m v s) rfl rfl
  | .winClose m v, s => .of_upd (execWinClose_upd m v s) rfl rfl
  | .windowExpiry, s => .of_upd (execWindowExpiry_upd s) rfl rfl
  | .injCfgWrite m k v, s => .of_upd (execInjCfgWrite_upd m k v s) rfl rfl
  | .injEnd k, s => .of_upd (execInjEnd_upd k s) rfl rfl
  | .decodeErr m write addr size, s => .of_upd (execDecodeErr_upd m write addr size s) rfl rfl
  | .aliasWrite m addr v, s => .of_upd (execAliasWrite_upd m addr v s) rfl rfl
  | .aliasRead m addr, s => .of_upd (execAliasRead_upd m addr s) rfl rfl
  | .spiWrite addr ws, s => .of_upd (execSpiWrite_upd addr ws s) rfl rfl
  | .spiRead addr n, s => .of_upd (execSpiRead_upd addr n s) rfl rfl
  | .spiStatus, s => .of_upd (execSpiStatus_upd s) rfl rfl
  | .twiWrite bytes, s => .of_upd (execTwiWrite_upd bytes s) rfl rfl
  | .twiRead addr n, s => .of_upd (execTwiRead_upd addr n s) rfl rfl
  | .rcRead m addr size, s => .of_upd (execRcRead_upd m addr size s) rfl rfl
  | .registerWrite m addr v, s => .of_upd (execRegisterWrite_upd m addr v s) rfl rfl
  | .frameTx c, s => .of_upd (execFrameTx_upd c s) rfl rfl
  | .adcClip c lane, s => .of_upd (execAdcClip_upd c lane s) rfl rfl
  | .adcClkLock c, s => .of_upd (execAdcClkLock_upd c s) rfl rfl
  | .cdrLock l, s => .of_upd (execCdrLock_upd l s) rfl rfl
  | .portUp p, s => .of_upd (execPortUp_upd p s) rfl rfl
  | .blockLock l, s => .of_upd (execBlockLock_upd l s) rfl rfl
  | .yardBlockTx l tiles frag, s => .of_upd (execYardBlockTx_upd l tiles frag s) rfl rfl
  | .pairOutput p x y, s => .of_upd (execPairOutput_upd p x y s) rfl rfl
  | .ppsWidthEnd, s => .of_upd (execPpsWidthEnd_upd s) rfl rfl
  | .calRefInPresent fast, s => .of_upd (execCalRefInPresent_upd fast s) rfl rfl
  | .prodDone vrefOk agree x, s => .of_upd (execProdDone_upd vrefOk agree x s) rfl rfl

theorem Kept.of_exec {c : Instr} {s t : State} (h : exec c s = .next t) : Kept s t := by
  obtain ⟨u, e, k⟩ := exec_executed c s
  rw [h] at e
  cases e
  exact k

/-- Settles O32, by the footprint that every command has. -/
theorem everyCommandIsExecuted : Obligations.EveryCommandIsExecuted := fun c s =>
  let ⟨t, e, _⟩ := exec_executed c s
  ⟨t, e⟩

/-- Settles O33: `step` runs the front of the queue. -/
theorem stepRunsFrontCommand : Obligations.StepRunsFrontCommand := by
  intro s c rest h
  simp only [step, h]

/-- Settles O35, by the footprint that every command has. -/
theorem execKeepsQueue : Obligations.ExecKeepsQueue := fun _ _ _ h => ⟨(Kept.of_exec h).pending, (Kept.of_exec h).us⟩

/-! ## A microsecond -/

/-- One microsecond later: the clock, before what the microsecond brings. -/
theorem State.us_tick (s : State) : s.tick.us = s.us + 1 := by
  have ops : ∀ x : State, (x.slowTick.mgmtStart.pmkTick.stbTick.ppsEval.qlEval
      |>.bucketTick.cipTick.cycleTick.checkTick.retSettle).us = x.us := fun x => by
    rw [(State.retSettle_upd _).us rfl, (State.checkTick_upd _).us rfl, (State.cycleTick_upd _).us rfl,
      (State.cipTick_upd _).us rfl, (State.bucketTick_upd _).us rfl, (State.qlEval_upd _).us rfl,
      (State.ppsEval_upd _).us rfl, (State.stbTick_upd _).us rfl, (State.pmkTick_upd _).us rfl,
      (State.mgmtStart_upd _).us rfl, (State.slowTick_upd _).us rfl]
  unfold State.tick
  rw [(State.serve_upd _).us rfl]
  exact State.when_holds _ (fun t => t.us = s.us + 1) _ _ (ops _) fun h => ((State.milliTick_upd _).us rfl).trans h

/-- Settles O34. -/
theorem emptyQueueIsAMicrosecond : Obligations.EmptyQueueIsAMicrosecond := by
  intro s h
  refine ⟨?_, s.us_tick, s.tick_upd.pending.trans h⟩
  simp only [step, h]

/-! ## The invariant -/

/-- Settles O36: nothing is listed after reset. -/
theorem resetMeetsInvariant : Obligations.ResetMeetsInvariant := ⟨rfl, rfl, rfl, rfl⟩

/-- Settles O37: a step is a command's execution, which keeps the invariant, or a microsecond, whose footprint does. -/
theorem stepKeepsInvariant : Obligations.StepKeepsInvariant := by
  intro s t hi h
  unfold step at h
  split at h
  · cases h
    exact s.tick_upd.inv hi
  · next c rest _ =>
    exact (Kept.of_exec h).inv hi

/-- Settles O38. -/
theorem resetValues : Obligations.ResetValues := by
  unfold Obligations.ResetValues
  refine ⟨by decide, rfl, rfl, rfl, rfl, rfl⟩

/-- Settles O39. -/
theorem noWordSpellsACommand : Obligations.NoWordSpellsACommand := fun _ _ _ => ⟨rfl, rfl⟩

/-! ## The fuses -/

/-- DEV.VARIANT, from the fuses (R5). -/
theorem State.view_variant (s : State) (m : Master) : s.view m (R .DEV_VARIANT) =
    BitVec.ofNat 32 ((if s.fuse.zq2000 then 0x20 else 0x40) * 256 + bit s.fuse.screen) := by
  show BitVec.ofNat 32 ((if s.fuse.zq2000 then 0x2000 else 0x4000) + bit s.fuse.screen) = _
  split <;> rfl

/-- Settles O40: the fuses that a command may burn are those of the life-cycle state. -/
theorem variantNeverChanges : Obligations.VariantNeverChanges := by
  refine ⟨fun c s t h => ?_, fun s m => s.view_variant m⟩
  have e := (Kept.of_exec h).fuse
  exact ⟨by rw [e], by rw [e], by rw [e]⟩

/-! ## The frames of the commands, by family -/

/-- Settles O49, from the footprints of the commands. -/
theorem lineFrames : Obligations.LineFrames :=
  ⟨fun m c v => leaves_of_upd (c := .go m c v) (execGo_upd m c v) (by decide +kernel),
   fun m c v => leaves_of_upd (c := .cancel m c v) (execCancel_upd m c v) (by decide +kernel),
   fun m c v => leaves_of_upd (c := .rxProfileWrite m c v) (execRxProfileWrite_upd m c v) (by decide +kernel),
   fun c => leaves_of_upd (c := .announce c) (execAnnounce_upd c) (by decide +kernel),
   fun c => leaves_of_upd (c := .multiframeTx c) (execMultiframeTx_upd c) (by decide +kernel),
   fun c => leaves_of_upd (c := .switch c) (execSwitch_upd c) (by decide +kernel),
   fun c => leaves_of_upd (c := .chgDone c) (execChgDone_upd c) (by decide +kernel),
   fun c => leaves_of_upd (c := .holdTimeout c) (execHoldTimeout_upd c) (by decide +kernel),
   fun c marks => leaves_of_upd (c := .multiframeRx c marks) (execMultiframeRx_upd c marks) (by decide +kernel),
   fun c => leaves_of_upd (c := .rxFollowed c) (execRxFollowed_upd c) (by decide +kernel),
   fun c => leaves_of_upd (c := .descAdopted c) (execDescAdopted_upd c) (by decide +kernel),
   fun c cd => leaves_of_upd (c := .expCdRange c cd) (execExpCdRange_upd c cd) (by decide +kernel),
   fun c cd => leaves_of_upd (c := .expCdReturn c cd) (execExpCdReturn_upd c cd) (by decide +kernel),
   fun c cd => leaves_of_upd (c := .expStepMove c cd) (execExpStepMove_upd c cd) (by decide +kernel),
   fun m c v => leaves_of_upd (c := .laserOn m c v) (execLaserOn_upd m c v) (by decide +kernel),
   fun m c v => leaves_of_upd (c := .mute m c v) (execMute_upd m c v) (by decide +kernel),
   fun c => leaves_of_upd (c := .settleElapsed c) (execSettleElapsed_upd c) (by decide +kernel),
   fun c => leaves_of_upd (c := .serviceEntered c) (execServiceEntered_upd c) (by decide +kernel),
   fun c => leaves_of_upd (c := .clkFault c) (execClkFault_upd c) (by decide +kernel),
   fun c => leaves_of_upd (c := .txClkLock c) (execTxClkLock_upd c) (by decide +kernel),
   fun c => leaves_of_upd (c := .segErr c) (execSegErr_upd c) (by decide +kernel),
   fun m c v => leaves_of_upd (c := .txPreApply m c v) (execTxPreApply_upd m c v) (by decide +kernel),
   fun c lane => leaves_of_upd (c := .clip c lane) (execClip_upd c lane) (by decide +kernel),
   fun m c lane v => leaves_of_upd (c := .txSkewWrite m c lane v)
      (execTxSkewWrite_upd m c lane v) (by decide +kernel),
   fun c lane => leaves_of_upd (c := .skewRamp c lane) (execSkewRamp_upd c lane) (by decide +kernel),
   fun m c v => leaves_of_upd (c := .rxEn m c v) (execRxEn_upd m c v) (by decide +kernel),
   fun m c v => leaves_of_upd (c := .acqRestart m c v) (execAcqRestart_upd m c v) (by decide +kernel),
   fun c e => leaves_of_upd (c := .acqStep c e) (execAcqStep_upd c e) (by decide +kernel),
   fun c => leaves_of_upd (c := .acqTimeout c) (execAcqTimeout_upd c) (by decide +kernel),
   fun c => leaves_of_upd (c := .relockFail c) (execRelockFail_upd c) (by decide +kernel),
   fun c rms => leaves_of_upd (c := .los c rms) (execLos_upd c rms) (by decide +kernel),
   fun c rms => leaves_of_upd (c := .losClear c rms) (execLosClear_upd c rms) (by decide +kernel),
   fun c => leaves_of_upd (c := .adcClkFault c) (execAdcClkFault_upd c) (by decide +kernel),
   fun c => leaves_of_upd (c := .clkLol c) (execClkLol_upd c) (by decide +kernel),
   fun sc => leaves_of_upd (c := .scLost sc) (execScLost_upd sc) (by decide +kernel),
   fun sc => leaves_of_upd (c := .reconvTimeout sc) (execReconvTimeout_upd sc) (by decide +kernel),
   fun sc => leaves_of_upd (c := .scLocked sc) (execScLocked_upd sc) (by decide +kernel),
   fun sc => leaves_of_upd (c := .degSet sc) (execDegSet_upd sc) (by decide +kernel),
   fun sc => leaves_of_upd (c := .degClear sc) (execDegClear_upd sc) (by decide +kernel),
   fun sc rate => leaves_of_upd (c := .sopTransient sc rate) (execSopTransient_upd sc rate) (by decide +kernel),
   fun sc => leaves_of_upd (c := .slip sc) (execSlip_upd sc) (by decide +kernel),
   fun x => leaves_of_upd (c := .fofsRange x) (execFofsRange_upd x) (by decide +kernel),
   fun c meas => leaves_of_upd (c := .boostMismatch c meas) (execBoostMismatch_upd c meas) (by decide +kernel),
   fun m c v => leaves_of_upd (c := .rxShapeWrite m c v) (execRxShapeWrite_upd m c v) (by decide +kernel),
   fun c x => leaves_of_upd (c := .snapshot c x) (execSnapshot_upd c x) (by decide +kernel),
   fun c => leaves_of_upd (c := .storeExpired c) (execStoreExpired_upd c) (by decide +kernel),
   fun c => leaves_of_upd (c := .cdFine c) (execCdFine_upd c) (by decide +kernel),
   fun sc cw => leaves_of_upd (c := .decode sc cw) (execDecode_upd sc cw) (by decide +kernel),
   fun sc => leaves_of_upd (c := .uncDefectSet sc) (execUncDefectSet_upd sc) (by decide +kernel),
   fun sc => leaves_of_upd (c := .uncDefectClear sc) (execUncDefectClear_upd sc) (by decide +kernel),
   fun sc => leaves_of_upd (c := .prefecDegSet sc) (execPrefecDegSet_upd sc) (by decide +kernel),
   fun sc => leaves_of_upd (c := .prefecDegClear sc) (execPrefecDegClear_upd sc) (by decide +kernel),
   fun m sc v => leaves_of_upd (c := .fecTotClr m sc v) (execFecTotClr_upd m sc v) (by decide +kernel),
   leaves_of_upd (c := .fecSecLatch) execFecSecLatch_upd (by decide +kernel),
   fun sc pos errs => leaves_of_upd (c := .hypothesisCheck sc pos errs)
      (execHypothesisCheck_upd sc pos errs) (by decide +kernel),
   fun sc => leaves_of_upd (c := .searchInterval sc) (execSearchInterval_upd sc) (by decide +kernel),
   fun sc errs hdr ovh => leaves_of_upd (c := .frameRx sc errs hdr ovh)
      (execFrameRx_upd sc errs hdr ovh) (by decide +kernel),
   fun sc => leaves_of_upd (c := .lofSet sc) (execLofSet_upd sc) (by decide +kernel),
   fun sc => leaves_of_upd (c := .lofClr sc) (execLofClr_upd sc) (by decide +kernel),
   fun m sc v => leaves_of_upd (c := .commitTx m sc v) (execCommitTx_upd m sc v) (by decide +kernel),
   fun m sc v => leaves_of_upd (c := .commitRx m sc v) (execCommitRx_upd m sc v) (by decide +kernel),
   fun sc tx => leaves_of_upd (c := .pendingCommit sc tx) (execPendingCommit_upd sc tx) (by decide +kernel),
   fun sc tx => leaves_of_upd (c := .slotMapInForce sc tx) (execSlotMapInForce_upd sc tx) (by decide +kernel),
   fun m g v => leaves_of_upd (c := .grpCfgWrite m g v) (execGrpCfgWrite_upd m g v) (by decide +kernel),
   fun m sc v => leaves_of_upd (c := .lfmTotClr m sc v) (execLfmTotClr_upd m sc v) (by decide +kernel),
   fun g msn round gap arrival => leaves_of_upd (c := .groupMarker g msn round gap arrival)
      (execGroupMarker_upd g msn round gap arrival) (by decide +kernel),
   fun g => leaves_of_upd (c := .skewCheck g) (execSkewCheck_upd g) (by decide +kernel),
   fun g => leaves_of_upd (c := .grpUp g) (execGrpUp_upd g) (by decide +kernel),
   fun g msn => leaves_of_upd (c := .grpSlip g msn) (execGrpSlip_upd g msn) (by decide +kernel),
   leaves_of_upd (c := .pmLatch) execPmLatch_upd (by decide +kernel),
   fun c => leaves_of_upd (c := .frameTx c) (execFrameTx_upd c) (by decide +kernel),
   fun c lane => leaves_of_upd (c := .adcClip c lane) (execAdcClip_upd c lane) (by decide +kernel),
   fun c => leaves_of_upd (c := .adcClkLock c) (execAdcClkLock_upd c) (by decide +kernel)⟩

/-- Settles O50, from the footprints of the commands. -/
theorem trafficFrames : Obligations.TrafficFrames :=
  ⟨fun m p v => leaves_of_upd (c := .portCfgWrite m p v) (execPortCfgWrite_upd m p v) (by decide +kernel),
   fun m p v => leaves_of_upd (c := .portCntClr m p v) (execPortCntClr_upd m p v) (by decide +kernel),
   fun p fr => leaves_of_upd (c := .hostFrame p fr) (execHostFrame_upd p fr) (by decide +kernel),
   fun p => leaves_of_upd (c := .pauseRefresh p) (execPauseRefresh_upd p) (by decide +kernel),
   fun p pfc en quanta => leaves_of_upd (c := .pauseReceived p pfc en quanta)
      (execPauseReceived_upd p pfc en quanta) (by decide +kernel),
   fun p prio => leaves_of_upd (c := .pauseExpiry p prio) (execPauseExpiry_upd p prio) (by decide +kernel),
   fun m f word v => leaves_of_upd (c := .phEntryWrite m f word v)
      (execPhEntryWrite_upd m f word v) (by decide +kernel),
   fun m f v => leaves_of_upd (c := .validate m f v) (execValidate_upd m f v) (by decide +kernel),
   fun m f v => leaves_of_upd (c := .flowRemove m f v) (execFlowRemove_upd m f v) (by decide +kernel),
   fun m v => leaves_of_upd (c := .flowMove m v) (execFlowMove_upd m v) (by decide +kernel),
   fun m v => leaves_of_upd (c := .flowFlush m v) (execFlowFlush_upd m v) (by decide +kernel),
   fun m v => leaves_of_upd (c := .clrCnt m v) (execClrCnt_upd m v) (by decide +kernel),
   fun e ecc => leaves_of_upd (c := .frameSent e ecc) (execFrameSent_upd e ecc) (by decide +kernel),
   fun g => leaves_of_upd (c := .grpHoldEnd g) (execGrpHoldEnd_upd g) (by decide +kernel),
   fun g word marked fr => leaves_of_upd (c := .recordHeader g word marked fr)
      (execRecordHeader_upd g word marked fr) (by decide +kernel),
   fun g h => leaves_of_upd (c := .sealHeader g h) (execSealHeader_upd g h) (by decide +kernel),
   fun id ok out => leaves_of_upd (c := .cipherDone id ok out) (execCipherDone_upd id ok out) (by decide +kernel),
   fun id => leaves_of_upd (c := .cipherTimeout id) (execCipherTimeout_upd id) (by decide +kernel),
   fun m v => leaves_of_upd (c := .loadKey m v) (execLoadKey_upd m v) (by decide +kernel),
   fun m v => leaves_of_upd (c := .loadKek m v) (execLoadKek_upd m v) (by decide +kernel),
   fun m v => leaves_of_upd (c := .erase m v) (execErase_upd m v) (by decide +kernel),
   fun m v => leaves_of_upd (c := .eraseKek m v) (execEraseKek_upd m v) (by decide +kernel),
   fun m grp k v => leaves_of_upd (c := .txAnWrite m grp k v) (execTxAnWrite_upd m grp k v) (by decide +kernel),
   leaves_of_upd (c := .entFail) execEntFail_upd (by decide +kernel),
   leaves_of_upd (c := .entOk) execEntOk_upd (by decide +kernel),
   fun a => leaves_of_upd (c := .hayAccessDone a) (execHayAccessDone_upd a) (by decide +kernel),
   fun a => leaves_of_upd (c := .accTimeout a) (execAccTimeout_upd a) (by decide +kernel),
   fun line e => leaves_of_upd (c := .mergeWriteBack line e) (execMergeWriteBack_upd line e) (by decide +kernel),
   fun line e => leaves_of_upd (c := .scrubRead line e) (execScrubRead_upd line e) (by decide +kernel),
   fun m v => leaves_of_upd (c := .retAdd m v) (execRetAdd_upd m v) (by decide +kernel),
   fun m v => leaves_of_upd (c := .retRemove m v) (execRetRemove_upd m v) (by decide +kernel),
   fun m v => leaves_of_upd (c := .retRead m v) (execRetRead_upd m v) (by decide +kernel),
   fun m off e => leaves_of_upd (c := .apertureRead m off e) (execApertureRead_upd m off e) (by decide +kernel),
   fun m off v => leaves_of_upd (c := .apertureWrite m off v) (execApertureWrite_upd m off v) (by decide +kernel),
   fun m v => leaves_of_upd (c := .capCfgWrite m v) (execCapCfgWrite_upd m v) (by decide +kernel),
   fun m v => leaves_of_upd (c := .capClr m v) (execCapClr_upd m v) (by decide +kernel),
   leaves_of_upd (c := .capDrop) execCapDrop_upd (by decide +kernel),
   fun m v => leaves_of_upd (c := .hayCfgWrite m v) (execHayCfgWrite_upd m v) (by decide +kernel)⟩

/-- Settles O51, from the footprints of the commands. -/
theorem timingFrames : Obligations.TimingFrames :=
  ⟨fun k => leaves_of_upd (c := .refLost k) (execRefLost_upd k) (by decide +kernel),
   fun k => leaves_of_upd (c := .refPresent k) (execRefPresent_upd k) (by decide +kernel),
   fun p pdu => leaves_of_upd (c := .esmcPdu p pdu) (execEsmcPdu_upd p pdu) (by decide +kernel),
   fun k => leaves_of_upd (c := .qlTimeout k) (execQlTimeout_upd k) (by decide +kernel),
   fun m k v => leaves_of_upd (c := .qlSrcWrite m k v) (execQlSrcWrite_upd m k v) (by decide +kernel),
   fun l => leaves_of_upd (c := .qualWindow l) (execQualWindow_upd l) (by decide +kernel),
   fun k base => leaves_of_upd (c := .disq k base) (execDisq_upd k base) (by decide +kernel),
   fun k => leaves_of_upd (c := .requalification k) (execRequalification_upd k) (by decide +kernel),
   fun k => leaves_of_upd (c := .wtrExpiry k) (execWtrExpiry_upd k) (by decide +kernel),
   leaves_of_upd (c := .selectorTick) execSelectorTick_upd (by decide +kernel),
   fun m idx => leaves_of_upd (c := .selManual m idx) (execSelManual_upd m idx) (by decide +kernel),
   fun m idx => leaves_of_upd (c := .selForced m idx) (execSelForced_upd m idx) (by decide +kernel),
   fun m idx => leaves_of_upd (c := .selClear m idx) (execSelClear_upd m idx) (by decide +kernel),
   leaves_of_upd (c := .holdoffEnd) execHoldoffEnd_upd (by decide +kernel),
   fun ofs => leaves_of_upd (c := .buildoutDone ofs) (execBuildoutDone_upd ofs) (by decide +kernel),
   leaves_of_upd (c := .enterLocked) execEnterLocked_upd (by decide +kernel),
   leaves_of_upd (c := .enterAcquire) execEnterAcquire_upd (by decide +kernel),
   fun m v => leaves_of_upd (c := .stbMode m v) (execStbMode_upd m v) (by decide +kernel),
   fun m v => leaves_of_upd (c := .fwBeat m v) (execFwBeat_upd m v) (by decide +kernel),
   leaves_of_upd (c := .fwLost) execFwLost_upd (by decide +kernel),
   leaves_of_upd (c := .hoBoundCheck) execHoBoundCheck_upd (by decide +kernel),
   leaves_of_upd (c := .frozenLim) execFrozenLim_upd (by decide +kernel),
   fun m v => leaves_of_upd (c := .steerSrv m v) (execSteerSrv_upd m v) (by decide +kernel),
   fun m v => leaves_of_upd (c := .steerMan m v) (execSteerMan_upd m v) (by decide +kernel),
   fun start tInt tExt => leaves_of_upd (c := .sample10min start tInt tExt)
      (execSample10min_upd start tInt tExt) (by decide +kernel),
   fun start tInt tExt => leaves_of_upd (c := .sample1s start tInt tExt)
      (execSample1s_upd start tInt tExt) (by decide +kernel),
   leaves_of_upd (c := .pruneDone) execPruneDone_upd (by decide +kernel),
   fun p => leaves_of_upd (c := .esmcTx p) (execEsmcTx_upd p) (by decide +kernel),
   fun p => leaves_of_upd (c := .eventPdu p) (execEventPdu_upd p) (by decide +kernel),
   fun m => leaves_of_upd (c := .pmkStep m) (execPmkStep_upd m) (by decide +kernel),
   leaves_of_upd (c := .stepped) execStepped_upd (by decide +kernel),
   fun m => leaves_of_upd (c := .stepCancel m) (execStepCancel_upd m) (by decide +kernel),
   fun m v => leaves_of_upd (c := .adj m v) (execAdj_upd m v) (by decide +kernel),
   leaves_of_upd (c := .adjDone) execAdjDone_upd (by decide +kernel),
   fun err => leaves_of_upd (c := .autoStep err) (execAutoStep_upd err) (by decide +kernel),
   leaves_of_upd (c := .secMis) execSecMis_upd (by decide +kernel),
   fun d => leaves_of_upd (c := .timeFault d) (execTimeFault_upd d) (by decide +kernel),
   fun p taken l => leaves_of_upd (c := .ptpRx p taken l) (execPtpRx_upd p taken l) (by decide +kernel),
   fun p l => leaves_of_upd (c := .oneStepSync p l) (execOneStepSync_upd p l) (by decide +kernel),
   leaves_of_upd (c := .ppsOut) execPpsOut_upd (by decide +kernel),
   leaves_of_upd (c := .todMessage) execTodMessage_upd (by decide +kernel),
   fun ok utc => leaves_of_upd (c := .zda ok utc) (execZda_upd ok utc) (by decide +kernel),
   fun c sc => leaves_of_upd (c := .timeMessage c sc) (execTimeMessage_upd c sc) (by decide +kernel),
   leaves_of_upd (c := .ttLatch) execTtLatch_upd (by decide +kernel),
   leaves_of_upd (c := .tchFrameTx) execTchFrameTx_upd (by decide +kernel),
   fun x => leaves_of_upd (c := .tchFrameRx x) (execTchFrameRx_upd x) (by decide +kernel),
   leaves_of_upd (c := .timePostcard) execTimePostcard_upd (by decide +kernel),
   leaves_of_upd (c := .ppsWidthEnd) execPpsWidthEnd_upd (by decide +kernel)⟩

/-- Settles O52, from the footprints of the commands. -/
theorem sideFrames : Obligations.SideFrames :=
  ⟨fun p x y => leaves_of_upd (c := .slotDone p x y) (execSlotDone_upd p x y) (by decide +kernel),
   fun rising => leaves_of_upd (c := .monTrig rising) (execMonTrig_upd rising) (by decide +kernel),
   fun p x y => leaves_of_upd (c := .trigDone p x y) (execTrigDone_upd p x y) (by decide +kernel),
   fun m => leaves_of_upd (c := .softTrig m) (execSoftTrig_upd m) (by decide +kernel),
   leaves_of_upd (c := .compatTimer) execCompatTimer_upd (by decide +kernel),
   fun l => leaves_of_upd (c := .snapDone l) (execSnapDone_upd l) (by decide +kernel),
   fun n => leaves_of_upd (c := .settled n) (execSettled_upd n) (by decide +kernel),
   fun p ms x y => leaves_of_upd (c := .chkWindow p ms x y) (execChkWindow_upd p ms x y) (by decide +kernel),
   fun p x y => leaves_of_upd (c := .monFault p x y) (execMonFault_upd p x y) (by decide +kernel),
   fun m => leaves_of_upd (c := .faultClr m) (execFaultClr_upd m) (by decide +kernel),
   fun b sec ns => leaves_of_upd (c := .binBlock b sec ns) (execBinBlock_upd b sec ns) (by decide +kernel),
   fun m addr v => leaves_of_upd (c := .monCfgWrite m addr v) (execMonCfgWrite_upd m addr v) (by decide +kernel),
   fun c => leaves_of_upd (c := .postcardTxStart c) (execPostcardTxStart_upd c) (by decide +kernel),
   fun c => leaves_of_upd (c := .txDone c) (execTxDone_upd c) (by decide +kernel),
   fun m c v => leaves_of_upd (c := .txCmd m c v) (execTxCmd_upd m c v) (by decide +kernel),
   fun c => leaves_of_upd (c := .txExpired c) (execTxExpired_upd c) (by decide +kernel),
   fun c => leaves_of_upd (c := .identTimer c) (execIdentTimer_upd c) (by decide +kernel),
   fun c => leaves_of_upd (c := .qlTimer c) (execQlTimer_upd c) (by decide +kernel),
   fun c => leaves_of_upd (c := .defectTimer c) (execDefectTimer_upd c) (by decide +kernel),
   fun c => leaves_of_upd (c := .srTimer c) (execSrTimer_upd c) (by decide +kernel),
   fun k lvl => leaves_of_upd (c := .preambleDetection k lvl) (execPreambleDetection_upd k lvl) (by decide +kernel),
   fun k => leaves_of_upd (c := .falseDet k) (execFalseDet_upd k) (by decide +kernel),
   fun k lvl bits => leaves_of_upd (c := .syncMatch k lvl bits) (execSyncMatch_upd k lvl bits) (by decide +kernel),
   fun k hdr data crc => leaves_of_upd (c := .postcardEnd k hdr data crc)
      (execPostcardEnd_upd k hdr data crc) (by decide +kernel),
   fun k => leaves_of_upd (c := .boundTimeout k) (execBoundTimeout_upd k) (by decide +kernel),
   fun k => leaves_of_upd (c := .seqWindowReset k) (execSeqWindowReset_upd k) (by decide +kernel),
   fun m v => leaves_of_upd (c := .rxPop m v) (execRxPop_upd m v) (by decide +kernel),
   fun m v => leaves_of_upd (c := .pccCfgWrite m v) (execPccCfgWrite_upd m v) (by decide +kernel),
   fun l eq snr => leaves_of_upd (c := .trainDone l eq snr) (execTrainDone_upd l eq snr) (by decide +kernel),
   fun l => leaves_of_upd (c := .trainFail l) (execTrainFail_upd l) (by decide +kernel),
   fun l => leaves_of_upd (c := .trainRetry l) (execTrainRetry_upd l) (by decide +kernel),
   fun l => leaves_of_upd (c := .cdrLol l) (execCdrLol_upd l) (by decide +kernel),
   fun yard l => leaves_of_upd (c := .prbsLock yard l) (execPrbsLock_upd yard l) (by decide +kernel),
   fun yard l errs => leaves_of_upd (c := .prbsLoss yard l errs) (execPrbsLoss_upd yard l errs) (by decide +kernel),
   fun m yard l v => leaves_of_upd (c := .errInj m yard l v) (execErrInj_upd m yard l v) (by decide +kernel),
   fun m yard l v => leaves_of_upd (c := .genEn m yard l v) (execGenEn_upd m yard l v) (by decide +kernel),
   fun m l v => leaves_of_upd (c := .laneCntClr m l v) (execLaneCntClr_upd m l v) (by decide +kernel),
   fun l fill b => leaves_of_upd (c := .yardBlock l fill b) (execYardBlock_upd l fill b) (by decide +kernel),
   fun l h => leaves_of_upd (c := .hello l h) (execHello_upd l h) (by decide +kernel),
   fun j => leaves_of_upd (c := .helloLost j) (execHelloLost_upd j) (by decide +kernel),
   fun m v => leaves_of_upd (c := .runReady m v) (execRunReady_upd m v) (by decide +kernel),
   fun j => leaves_of_upd (c := .runSwitch j) (execRunSwitch_upd j) (by decide +kernel),
   fun l lock => leaves_of_upd (c := .laneFailure l lock) (execLaneFailure_upd l lock) (by decide +kernel),
   fun j => leaves_of_upd (c := .spareIn j) (execSpareIn_upd j) (by decide +kernel),
   fun m j v => leaves_of_upd (c := .revert m j v) (execRevert_upd m j v) (by decide +kernel),
   fun j seq msg => leaves_of_upd (c := .sidebandMessage j seq msg)
      (execSidebandMessage_upd j seq msg) (by decide +kernel),
   fun j => leaves_of_upd (c := .sidebandRepeat j) (execSidebandRepeat_upd j) (by decide +kernel),
   fun j => leaves_of_upd (c := .imgWant j) (execImgWant_upd j) (by decide +kernel),
   fun d => leaves_of_upd (c := .imgRestart d) (execImgRestart_upd d) (by decide +kernel),
   leaves_of_upd (c := .imgWaitTimeout) execImgWaitTimeout_upd (by decide +kernel),
   fun m v => leaves_of_upd (c := .rmtCmd m v) (execRmtCmd_upd m v) (by decide +kernel),
   fun m j tx n v => leaves_of_upd (c := .fwdWrite m j tx n v) (execFwdWrite_upd m j tx n v) (by decide +kernel),
   fun gid msn => leaves_of_upd (c := .statusTimeout gid msn) (execStatusTimeout_upd gid msn) (by decide +kernel),
   fun l => leaves_of_upd (c := .cdrLock l) (execCdrLock_upd l) (by decide +kernel),
   fun p => leaves_of_upd (c := .portUp p) (execPortUp_upd p) (by decide +kernel),
   fun l => leaves_of_upd (c := .blockLock l) (execBlockLock_upd l) (by decide +kernel),
   fun l tiles frag => leaves_of_upd (c := .yardBlockTx l tiles frag)
      (execYardBlockTx_upd l tiles frag) (by decide +kernel),
   fun p x y => leaves_of_upd (c := .pairOutput p x y) (execPairOutput_upd p x y) (by decide +kernel)⟩

/-- Settles O53, from the footprints of the commands. -/
theorem managementFrames : Obligations.ManagementFrames :=
  ⟨fun c lane n => leaves_of_upd (c := .sliceSwap c lane n) (execSliceSwap_upd c lane n) (by decide +kernel),
   leaves_of_upd (c := .drainRefused) execDrainRefused_upd (by decide +kernel),
   fun fore keys rest => leaves_of_upd (c := .imgChecked fore keys rest)
      (execImgChecked_upd fore keys rest) (by decide +kernel),
   fun d => leaves_of_upd (c := .handshakeAccept d) (execHandshakeAccept_upd d) (by decide +kernel),
   fun d limit => leaves_of_upd (c := .hsRefused d limit) (execHsRefused_upd d limit) (by decide +kernel),
   fun d => leaves_of_upd (c := .wakeStep d) (execWakeStep_upd d) (by decide +kernel),
   fun d => leaves_of_upd (c := .wakeRetry d) (execWakeRetry_upd d) (by decide +kernel),
   fun addr => leaves_of_upd (c := .twiAddressMatch addr) (execTwiAddressMatch_upd addr) (by decide +kernel),
   leaves_of_upd (c := .twiAon) execTwiAon_upd (by decide +kernel),
   leaves_of_upd (c := .wakeN) execWakeN_upd (by decide +kernel),
   leaves_of_upd (c := .aonTimer) execAonTimer_upd (by decide +kernel),
   fun m v => leaves_of_upd (c := .padHold m v) (execPadHold_upd m v) (by decide +kernel),
   fun src => leaves_of_upd (c := .resetRelease src) (execResetRelease_upd src) (by decide +kernel),
   fun fore key sig rest => leaves_of_upd (c := .imageCheck fore key sig rest)
      (execImageCheck_upd fore key sig rest) (by decide +kernel),
   leaves_of_upd (c := .xtalOk) execXtalOk_upd (by decide +kernel),
   leaves_of_upd (c := .xtalFail) execXtalFail_upd (by decide +kernel),
   fun c lane => leaves_of_upd (c := .sliceCycle c lane) (execSliceCycle_upd c lane) (by decide +kernel),
   fun c lane ab tap => leaves_of_upd (c := .sliceResult c lane ab tap)
      (execSliceResult_upd c lane ab tap) (by decide +kernel),
   fun c lane => leaves_of_upd (c := .sliceRamp c lane) (execSliceRamp_upd c lane) (by decide +kernel),
   fun c lane a b => leaves_of_upd (c := .dacSkewCal c lane a b) (execDacSkewCal_upd c lane a b) (by decide +kernel),
   fun p x y => leaves_of_upd (c := .monRefRefresh p x y) (execMonRefRefresh_upd p x y) (by decide +kernel),
   fun m v => leaves_of_upd (c := .prod m v) (execProd_upd m v) (by decide +kernel),
   fun m v => leaves_of_upd (c := .storeNow m v) (execStoreNow_upd m v) (by decide +kernel),
   fun c ok => leaves_of_upd (c := .liveStore c ok) (execLiveStore_upd c ok) (by decide +kernel),
   leaves_of_upd (c := .calRefLost) execCalRefLost_upd (by decide +kernel),
   fun m off v => leaves_of_upd (c := .tackRoomWrite m off v) (execTackRoomWrite_upd m off v) (by decide +kernel),
   fun m off e => leaves_of_upd (c := .tackRoomRead m off e) (execTackRoomRead_upd m off e) (by decide +kernel),
   fun m v => leaves_of_upd (c := .bstRun m v) (execBstRun_upd m v) (by decide +kernel),
   fun m v => leaves_of_upd (c := .bstFull m v) (execBstFull_upd m v) (by decide +kernel),
   fun m v => leaves_of_upd (c := .bstCancel m v) (execBstCancel_upd m v) (by decide +kernel),
   fun m v => leaves_of_upd (c := .bstRelease m v) (execBstRelease_upd m v) (by decide +kernel),
   fun t => leaves_of_upd (c := .bstExpired t) (execBstExpired_upd t) (by decide +kernel),
   fun m c v => leaves_of_upd (c := .wdtKick m c v) (execWdtKick_upd m c v) (by decide +kernel),
   fun c addr kind machine => leaves_of_upd (c := .accessFault c addr kind machine)
      (execAccessFault_upd c addr kind machine) (by decide +kernel),
   fun m c r cfg v => leaves_of_upd (c := .mpuWrite m c r cfg v) (execMpuWrite_upd m c r cfg v) (by decide +kernel),
   fun m v => leaves_of_upd (c := .lbInfo m v) (execLbInfo_upd m v) (by decide +kernel),
   fun m v => leaves_of_upd (c := .flashRead m v) (execFlashRead_upd m v) (by decide +kernel),
   fun m v => leaves_of_upd (c := .flashErase m v) (execFlashErase_upd m v) (by decide +kernel),
   fun m v => leaves_of_upd (c := .flashProg m v) (execFlashProg_upd m v) (by decide +kernel),
   fun m v => leaves_of_upd (c := .logRead m v) (execLogRead_upd m v) (by decide +kernel),
   fun m v => leaves_of_upd (c := .testWindow m v) (execTestWindow_upd m v) (by decide +kernel),
   fun m v => leaves_of_upd (c := .returnAuth m v) (execReturnAuth_upd m v) (by decide +kernel),
   leaves_of_upd (c := .logDrain) execLogDrain_upd (by decide +kernel),
   fun m v => leaves_of_upd (c := .snap m v) (execSnap_upd m v) (by decide +kernel),
   leaves_of_upd (c := .dump) execDump_upd (by decide +kernel),
   fun m v => leaves_of_upd (c := .dumpCfgWrite m v) (execDumpCfgWrite_upd m v) (by decide +kernel),
   fun n gain pc seg => leaves_of_upd (c := .ovf n gain pc seg) (execOvf_upd n gain pc seg) (by decide +kernel),
   fun m n v => leaves_of_upd (c := .ctrLoad m n v) (execCtrLoad_upd m n v) (by decide +kernel),
   fun f k => leaves_of_upd (c := .faultDetected f k) (execFaultDetected_upd f k) (by decide +kernel),
   fun addr v => leaves_of_upd (c := .cfgParityErr addr v) (execCfgParityErr_upd addr v) (by decide +kernel),
   fun bad => leaves_of_upd (c := .cfgScan bad) (execCfgScan_upd bad) (by decide +kernel),
   fun m v => leaves_of_upd (c := .winOpen m v) (execWinOpen_upd m v) (by decide +kernel),
   fun m v => leaves_of_upd (c := .winClose m v) (execWinClose_upd m v) (by decide +kernel),
   leaves_of_upd (c := .windowExpiry) execWindowExpiry_upd (by decide +kernel),
   fun m k v => leaves_of_upd (c := .injCfgWrite m k v) (execInjCfgWrite_upd m k v) (by decide +kernel),
   fun k => leaves_of_upd (c := .injEnd k) (execInjEnd_upd k) (by decide +kernel),
   leaves_of_upd (c := .spiStatus) execSpiStatus_upd (by decide +kernel),
   fun fast => leaves_of_upd (c := .calRefInPresent fast) (execCalRefInPresent_upd fast) (by decide +kernel),
   fun vrefOk agree x => leaves_of_upd (c := .prodDone vrefOk agree x)
      (execProdDone_upd vrefOk agree x) (by decide +kernel)⟩

/-- Settles O54, from the footprints of the commands. -/
theorem wideFrames : Obligations.WideFrames :=
  ⟨fun c => keeps_of_upd (c := .txPreCopyDone c) (execTxPreCopyDone_upd c) (by decide +kernel),
   fun ans => keeps_of_upd (c := .rmtDone ans) (execRmtDone_upd ans) (by decide +kernel),
   fun m d v => keeps_of_upd (c := .domReq m d v) (execDomReq_upd m d v) (by decide +kernel),
   fun d => keeps_of_upd (c := .shutdownDone d) (execShutdownDone_upd d) (by decide +kernel),
   fun d => keeps_of_upd (c := .wakeFail d) (execWakeFail_upd d) (by decide +kernel),
   fun rail => keeps_of_upd (c := .pgFall rail) (execPgFall_upd rail) (by decide +kernel),
   fun src dom page => keeps_of_upd (c := .resetAssert src dom page)
      (execResetAssert_upd src dom page) (by decide +kernel),
   fun src => keeps_of_upd (c := .idleTimeout src) (execIdleTimeout_upd src) (by decide +kernel),
   fun m v => keeps_of_upd (c := .swChip m v) (execSwChip_upd m v) (by decide +kernel),
   fun m v => keeps_of_upd (c := .swCore m v) (execSwCore_upd m v) (by decide +kernel),
   fun m v => keeps_of_upd (c := .swDomain m v) (execSwDomain_upd m v) (by decide +kernel),
   fun m v => keeps_of_upd (c := .swBlock m v) (execSwBlock_upd m v) (by decide +kernel),
   fun m v => keeps_of_upd (c := .swRelease m v) (execSwRelease_upd m v) (by decide +kernel),
   fun m v => keeps_of_upd (c := .hostRst m v) (execHostRst_upd m v) (by decide +kernel),
   fun m v => keeps_of_upd (c := .lcCmd m v) (execLcCmd_upd m v) (by decide +kernel),
   fun m write addr => keeps_of_upd (c := .accessErr m write addr)
      (execAccessErr_upd m write addr) (by decide +kernel),
   keeps_of_upd (c := .testAdmit) execTestAdmit_upd (by decide +kernel),
   fun t e detail => keeps_of_upd (c := .testDone t e detail) (execTestDone_upd t e detail) (by decide +kernel),
   fun c => keeps_of_upd (c := .wdtExpiry c) (execWdtExpiry_upd c) (by decide +kernel),
   fun e => keeps_of_upd (c := .lbDone e) (execLbDone_upd e) (by decide +kernel),
   fun m write addr size => keeps_of_upd (c := .decodeErr m write addr size)
      (execDecodeErr_upd m write addr size) (by decide +kernel),
   fun m addr v => keeps_of_upd (c := .aliasWrite m addr v) (execAliasWrite_upd m addr v) (by decide +kernel),
   fun m addr => keeps_of_upd (c := .aliasRead m addr) (execAliasRead_upd m addr) (by decide +kernel),
   fun addr ws => keeps_of_upd (c := .spiWrite addr ws) (execSpiWrite_upd addr ws) (by decide +kernel),
   fun addr n => keeps_of_upd (c := .spiRead addr n) (execSpiRead_upd addr n) (by decide +kernel),
   fun bytes => keeps_of_upd (c := .twiWrite bytes) (execTwiWrite_upd bytes) (by decide +kernel),
   fun addr n => keeps_of_upd (c := .twiRead addr n) (execTwiRead_upd addr n) (by decide +kernel),
   fun m addr size => keeps_of_upd (c := .rcRead m addr size) (execRcRead_upd m addr size) (by decide +kernel),
   fun m addr v => keeps_of_upd (c := .registerWrite m addr v) (execRegisterWrite_upd m addr v) (by decide +kernel)⟩


end Sys2Proof.Machine
end

section
/-! Tools for the statements that a command completes with its effect: a write that the fabric accepts, and a field or a
register read after other fields and registers were written. -/

namespace Sys2Proof.Machine

/-! ## A command that completes -/

theorem Completes.of_exec {c : Instr} {s t : State} {P : State → Prop} (he : exec c s = .next t) (hp : P t) :
    Completes c s P := ⟨t, he, hp⟩

/-- A register write that the fabric accepts completes as the register's own effect does, found on a state that differs
from `s` in its mismatches alone. -/
theorem Completes.of_guardW {c : Instr} {s : State} {m : Master} {k : RegKey} {v : W32} {f : State → State}
    {P : State → Prop} (ha : s.accepts m k = true) (he : exec c s = .next (s.guardW m k v f))
    (hp : P (f (s.rewritten k))) : Completes c s P :=
  ⟨_, he, by rwa [State.guardW_accepts ha]⟩

theorem State.flag_rewritten (s : State) (k : RegKey) (f : Fld) (i j : Nat) :
    (s.rewritten k).flag f i j = s.flag f i j := rfl

/-- A command whose condition holds completes as it then does. -/
theorem Completes.of_if {c : Instr} {s t : State} {b : Prop} [Decidable b] {P : State → Prop}
    (he : exec c s = .next (if b then t else s)) (hb : b) (hp : P t) : Completes c s P :=
  ⟨_, he, by rwa [if_pos hb]⟩

/-! ## Records read after their change -/

theorem State.car_modCar (s : State) (c : Nat) (g : Carrier → Carrier) : (s.modCar c g).car c = g (s.car c) :=
  NTab.get_mod_same ..

theorem State.fld_modCar (s : State) (c : Nat) (g : Carrier → Carrier) (f : Fld) (i j : Nat) :
    (s.modCar c g).fld f i j = s.fld f i j := rfl

theorem State.rd_modCar (s : State) (c : Nat) (g : Carrier → Carrier) (k : RegKey) : (s.modCar c g).rd k = s.rd k := rfl

theorem State.fld_modSc (s : State) (c : Nat) (g : Sc → Sc) (f : Fld) (i j : Nat) :
    (s.modSc c g).fld f i j = s.fld f i j := rfl

theorem State.rd_modSc (s : State) (c : Nat) (g : Sc → Sc) (k : RegKey) : (s.modSc c g).rd k = s.rd k := rfl

theorem State.sc_modSc (s : State) (i : Nat) (g : Sc → Sc) : (s.modSc i g).sc i = g (s.sc i) := NTab.get_mod_same ..

theorem State.sc_setFld (s : State) (f : Fld) (n x y i : Nat) : (s.setFld f n x y).sc i = s.sc i := rfl

theorem State.flow_modFlow (s : State) (i : Nat) (g : Flow → Flow) : (s.modFlow i g).flow i = g (s.flow i) :=
  NTab.get_mod_same ..

/-! ## Fields beside each other -/

/-- The fields `f` and `g` share no bit: they lie in different registers, or beside each other in one. -/
def Fld.apart (f g : Fld) : Bool :=
  decide (f.reg ≠ g.reg) || f.ok && g.ok && (decide (f.lo + f.len ≤ g.lo) || decide (g.lo + g.len ≤ f.lo))

/-- The field lies in register `id` and all its bits are RW. -/
def Fld.rwOf (f : Fld) (id : RegId) : Bool :=
  decide (f.reg = id) && f.ok && f.mask &&& f.reg.info.rw == f.mask && f.mask &&& f.reg.info.w1c == 0 &&
    f.mask &&& f.reg.info.w1s == 0

/-- A field of a register is kept when the register's reserved bits are cleared. -/
theorem Fld.get_regMask {f : Fld} {id : RegId} (h : f.ok = true) (hid : f.reg = id) (w : W32) (i j : Nat) :
    f.get (w &&& (R id i j).mask) = f.get w := by
  simp only [Fld.ok, Bool.and_eq_true, decide_eq_true_eq, beq_iff_eq] at h
  exact f.get_and_mask h.1 w _ (hid ▸ h.2)

section Reads

variable (s : State) {f g : Fld} {id id' : RegId}

/-- Writing a field leaves the fields apart from it alone, at every index. -/
theorem State.fld_setFld_apart (h : f.apart g = true) (n i j i' j' : Nat) :
    (s.setFld f n i j).fld g i' j' = s.fld g i' j' := by
  simp only [Fld.apart, Bool.or_eq_true, Bool.and_eq_true, decide_eq_true_eq] at h
  rcases h with h | ⟨⟨hf, hg⟩, h⟩
  · exact State.fld_of_rd _ (s.rd_setFld_ne f n i j fun e => h (congrArg RegKey.id e).symm)
  · exact s.fld_setFld_ne f g n i j i' j' hf hg (.inr (.inr (.inr h)))

theorem State.fld_setFlag_apart (h : f.apart g = true) (b : Bool) (i j i' j' : Nat) :
    (s.setFlag f b i j).fld g i' j' = s.fld g i' j' := s.fld_setFld_apart h ..

theorem State.fld_raise_apart (h : f.apart g = true) (i j i' j' : Nat) :
    (s.raise f i j).fld g i' j' = s.fld g i' j' := s.fld_setFld_apart h ..

theorem State.flag_setFld_apart (h : f.apart g = true) (n i j i' j' : Nat) :
    (s.setFld f n i j).flag g i' j' = s.flag g i' j' := congrArg (· == 1) (s.fld_setFld_apart h n i j i' j')

theorem State.flag_setFlag_apart (h : f.apart g = true) (b : Bool) (i j i' j' : Nat) :
    (s.setFlag f b i j).flag g i' j' = s.flag g i' j' := s.flag_setFld_apart h _ i j i' j'

theorem State.flag_raise_apart (h : f.apart g = true) (i j i' j' : Nat) :
    (s.raise f i j).flag g i' j' = s.flag g i' j' := s.flag_setFld_apart h _ i j i' j'

/-- A one-bit field reads what was put in it. -/
theorem State.flag_setFlag (h : f.ok = true) (hl : f.len = 1) (b : Bool) (i j : Nat) :
    (s.setFlag f b i j).flag f i j = b := by
  rw [State.flag, State.setFlag, s.fld_setFld f _ i j h, hl]
  cases b <;> rfl

/-- An event bit that is raised is set. -/
theorem State.flag_raise (h : f.ok = true) (hl : f.len = 1) (i j : Nat) : (s.raise f i j).flag f i j = true :=
  s.flag_setFlag h hl true i j

/-- A field holds a number of its width that was put in it. -/
theorem State.fld_setFld_lt (h : f.ok = true) {n : Nat} (hn : n < 2 ^ f.len) (i j : Nat) :
    (s.setFld f n i j).fld f i j = n := by
  rw [s.fld_setFld f n i j h, Nat.mod_eq_of_lt hn]

/-- A field of a register that is written reads what was written. -/
theorem State.fld_wr_same (h : f.ok = true) (hid : f.reg = id) (v : W32) (i j : Nat) :
    (s.wr (R id i j) v).fld f i j = f.get v := by
  subst hid
  rw [State.fld, show (s.wr (R f.reg i j) v).rd ⟨f.reg, i, j⟩ = _ from s.rd_wr_same _ _, Fld.get_regMask h rfl]

/-- A field reads as before when a register of another name is written. -/
theorem State.fld_wr_id (h : (f.reg == id) = false) (v : W32) (x y i j : Nat) :
    (s.wr (R id x y) v).fld f i j = s.fld f i j :=
  State.fld_of_rd f (s.rd_wr_id (beq_eq_false_iff_ne.mp h) v)

theorem State.fld_wrN_id (h : (f.reg == id) = false) (n x y i j : Nat) :
    (s.wrN (R id x y) n).fld f i j = s.fld f i j := s.fld_wr_id h _ x y i j

theorem State.fld_bump_id (h : (f.reg == id) = false) (x y i j : Nat) :
    (s.bump (R id x y)).fld f i j = s.fld f i j := s.fld_wr_id h _ x y i j

theorem State.fld_plainWrite_id (h : (f.reg == id) = false) (v : W32) (x y i j : Nat) :
    (s.plainWrite (R id x y) v).fld f i j = s.fld f i j := s.fld_wr_id h _ x y i j

/-- A register keeps its word when one of another name is written. -/
theorem State.rd_wr_name (h : (id == id') = false) (v : W32) (x y i j : Nat) :
    (s.wr (R id' x y) v).rd (R id i j) = s.rd (R id i j) :=
  s.rd_wr_id (beq_eq_false_iff_ne.mp h) v

theorem State.rd_wrN_name (h : (id == id') = false) (n x y i j : Nat) :
    (s.wrN (R id' x y) n).rd (R id i j) = s.rd (R id i j) := s.rd_wr_name h _ x y i j

theorem State.rd_bump_name (h : (id == id') = false) (x y i j : Nat) :
    (s.bump (R id' x y)).rd (R id i j) = s.rd (R id i j) := s.rd_wr_name h _ x y i j

theorem State.rd_plainWrite_name (h : (id == id') = false) (v : W32) (x y i j : Nat) :
    (s.plainWrite (R id' x y) v).rd (R id i j) = s.rd (R id i j) := s.rd_wr_name h _ x y i j

theorem State.rd_setFld_name (h : (id == f.reg) = false) (n x y i j : Nat) :
    (s.setFld f n x y).rd (R id i j) = s.rd (R id i j) := s.rd_wr_name h _ x y i j

theorem State.rd_setFlag_name (h : (id == f.reg) = false) (b : Bool) (x y i j : Nat) :
    (s.setFlag f b x y).rd (R id i j) = s.rd (R id i j) := s.rd_setFld_name h ..

theorem State.rd_raise_name (h : (id == f.reg) = false) (x y i j : Nat) :
    (s.raise f x y).rd (R id i j) = s.rd (R id i j) := s.rd_setFld_name h ..

/-- A field of RW bits takes the written value. -/
theorem State.fld_plainWrite_rw (h : f.rwOf id = true) (v : W32) (i j : Nat) :
    (s.plainWrite (R id i j) v).fld f i j = f.get v := by
  simp only [Fld.rwOf, Bool.and_eq_true, decide_eq_true_eq, beq_iff_eq] at h
  obtain ⟨⟨⟨⟨rfl, hok⟩, hrw⟩, hc⟩, hs⟩ := h
  exact s.fld_plainWrite f v i j hok hrw hc hs

/-- A register all of whose bits are RW takes the written word. -/
theorem State.rd_plainWrite_full (h : (id.info.mask &&& id.info.rw == id.info.mask && id.info.w1c == 0 &&
    id.info.w1s == 0) = true) (v : W32) (i j : Nat) :
    (s.plainWrite (R id i j) v).rd (R id i j) = v &&& (R id i j).mask := by
  simp only [Bool.and_eq_true, beq_iff_eq] at h
  obtain ⟨⟨hrw, hc⟩, hs⟩ := h
  refine (s.rd_wr_same _ _).trans ?_
  change (((s.rd (R id i j) &&& ~~~id.info.rw) ||| (v &&& id.info.rw)) &&& ~~~(v &&& id.info.w1c) ||| (v &&& id.info.w1s)) &&&
    id.info.mask = v &&& id.info.mask
  rw [hc, hs]
  simp only [BitVec.ofNat_eq_ofNat, BitVec.and_zero, BitVec.or_zero, BitVec.not_zero, BitVec.and_allOnes]
  apply BitVec.eq_of_getLsbD_eq
  intro n hn
  have bit := congrArg (BitVec.getLsbD · n) hrw
  simp only [BitVec.getLsbD_and] at bit
  cases hm : id.info.mask.getLsbD n
  · simp [hm]
  · rw [hm, Bool.true_and] at bit
    simp [hm, bit]

/-! ## Pairs of registers of 64 bits -/

/-- A register keeps its word when a pair of other names is written. -/
theorem State.rd_wr64_name {lo hi : RegId} (h : (id == lo) = false) (h' : (id == hi) = false) (n x y x' y' i j : Nat) :
    (s.wr64 (R lo x y) (R hi x' y') n).rd (R id i j) = s.rd (R id i j) :=
  (State.rd_wrN_name _ h' ..).trans (s.rd_wrN_name h ..)

theorem State.rd_add64_name {lo hi : RegId} (h : (id == lo) = false) (h' : (id == hi) = false) (n x y x' y' i j : Nat) :
    (s.add64 (R lo x y) (R hi x' y') n).rd (R id i j) = s.rd (R id i j) := s.rd_wr64_name h h' ..

theorem State.fld_wr64_id {lo hi : RegId} (h : (f.reg == lo) = false) (h' : (f.reg == hi) = false)
    (n x y x' y' i j : Nat) : (s.wr64 (R lo x y) (R hi x' y') n).fld f i j = s.fld f i j :=
  State.fld_of_rd f (s.rd_wr64_name h h' ..)

/-- A pair keeps its number when its two registers are kept. -/
theorem State.rd64_congr {s t : State} {lo hi : RegId} {x y x' y' : Nat} (h : t.rd (R lo x y) = s.rd (R lo x y))
    (h' : t.rd (R hi x' y') = s.rd (R hi x' y')) :
    t.rd64 (R lo x y) (R hi x' y') = s.rd64 (R lo x y) (R hi x' y') := by
  rw [State.rd64, State.rd64, State.rdN, State.rdN, h, h', State.rdN, State.rdN]

/-- A pair of full registers holds what was written to it. -/
theorem State.rd64_wr64 {lo hi : RegId} (hlo : lo.info.mask = BitVec.allOnes 32) (hhi : hi.info.mask = BitVec.allOnes 32)
    (hne : (lo == hi) = false) (n x y x' y' : Nat) :
    (s.wr64 (R lo x y) (R hi x' y') n).rd64 (R lo x y) (R hi x' y') = n % 2 ^ 64 := by
  have low : (s.wr64 (R lo x y) (R hi x' y') n).rdN (R lo x y) = n % 2 ^ 32 := by
    rw [State.rdN, State.wr64, State.rd_wrN_name _ hne]
    exact (s.rdN_wrN (R lo x y) _ hlo).trans (Nat.mod_mod ..)
  have high : (s.wr64 (R lo x y) (R hi x' y') n).rdN (R hi x' y') = n / 2 ^ 32 % 2 ^ 32 := State.rdN_wrN _ (R hi x' y') _ hhi
  rw [State.rd64, low, high]
  omega

/-- A pair of full registers counts modulo 2^64. -/
theorem State.rd64_add64 {lo hi : RegId} (hlo : lo.info.mask = BitVec.allOnes 32) (hhi : hi.info.mask = BitVec.allOnes 32)
    (hne : (lo == hi) = false) (n x y x' y' : Nat) :
    (s.add64 (R lo x y) (R hi x' y') n).rd64 (R lo x y) (R hi x' y') =
      (s.rd64 (R lo x y) (R hi x' y') + n) % 2 ^ 64 :=
  (s.rd64_wr64 hlo hhi hne ..).trans (Nat.mod_mod ..)

end Reads

/-- An operation whose footprint misses a field keeps the flag. -/
theorem Upd.flag {w : Nat} {s t : State} (h : Upd w s t) (f : Fld) (i j : Nat) (hb : w.testBit f.reg.ctorIdx = false) :
    t.flag f i j = s.flag f i j := congrArg (· == 1) (h.fld f i j hb)

/-- Whether a carrier answers depends on the variant fuse, the domains' states and the resets. -/
theorem State.carOn_congr {s t : State} (hf : t.fuse = s.fuse) (ha : t.asserted = s.asserted)
    (hd : ∀ d, t.fld F.PMU_DOM_STATE d = s.fld F.PMU_DOM_STATE d) (c : Nat) : t.carOn c = s.carOn c := by
  simp only [State.carOn, State.nCar, State.domOn, State.inReset, hf, ha, hd]
  rfl

/-- An operation whose footprint misses a register keeps its number. -/
theorem Upd.rdN_of {w : Nat} {s t : State} (h : Upd w s t) (id : RegId) (i j : Nat) (hb : w.testBit id.ctorIdx = false) :
    t.rdN (R id i j) = s.rdN (R id i j) := congrArg BitVec.toNat (h.rd_of id i j hb)

/-- An operation that touches no domain, fuse or reset leaves which carriers answer. -/
theorem Upd.carOn {w : Nat} {s t : State} (h : Upd w s t) (c : Nat) (hd : w.testBit (RegId.PMU_DOM).ctorIdx = false)
    (hf : w.testBit 600 = false) (ha : w.testBit 609 = false) : t.carOn c = s.carOn c :=
  State.carOn_congr (h.fuse hf) (h.asserted ha) (fun d => h.fld F.PMU_DOM_STATE d 0 hd) c

/-- An operation whose footprint misses a pair keeps its number. -/
theorem Upd.rd64_of {w : Nat} {s t : State} (h : Upd w s t) (lo hi : RegId) (x y x' y' : Nat)
    (hlo : w.testBit lo.ctorIdx = false) (hhi : w.testBit hi.ctorIdx = false) :
    t.rd64 (R lo x y) (R hi x' y') = s.rd64 (R lo x y) (R hi x' y') :=
  State.rd64_congr (h.rd_of lo x y hlo) (h.rd_of hi x' y' hhi)

end Sys2Proof.Machine
end

section
/-! Changes of a carrier's line profile (spec/02, R42 to R49): O1. -/

namespace Sys2Proof.Machine

/-! ## GO and CANCEL -/

/-- A write of CHG_CTRL is no part of what decides whether a profile loses a slot. -/
theorem State.wouldLose_plainWrite_chgCtrl (s : State) (c x : Nat) (v w : W32) :
    (s.plainWrite (R .CAX_CHG_CTRL x) v).wouldLose c w = s.wouldLose c w := by
  have hi : ∀ id, id ≠ .CAX_CHG_CTRL → (s.plainWrite (R .CAX_CHG_CTRL x) v).insts id = s.insts id := fun id h =>
    s.insts_wr_ne _ _ id h
  simp (disch := decide) only [State.wouldLose, State.feeds, State.homeOf, State.isHome, State.flag, hi,
    State.fld_plainWrite_id, State.rd_plainWrite_name, State.plainWrite_fuse, State.sc, State.plainWrite_scs]

/-- GO accepted in native mode with the transmitter in service: the change is announced with a countdown of 16 (R44). -/
theorem State.go_announced {s : State} {c : Nat} (hst : s.fld F.CAX_CHG_STATUS_STATE c = 0)
    (hne : s.rd (R .CAX_TX_NEXT c) ≠ s.rd (R .CAX_TX_PROFILE c)) (hp : profCode (s.rd (R .CAX_TX_NEXT c)) = 0)
    (hl : s.wouldLose c (s.rd (R .CAX_TX_NEXT c)) = false) (hm : pMode (s.rd (R .CAX_TX_NEXT c)) = 0)
    (hm' : pMode (s.rd (R .CAX_TX_PROFILE c)) = 0) (htx : s.fld F.CAX_TX_STATUS_TXSTATE c = 4) :
    (s.go c).fld F.CAX_CHG_STATUS_STATE c = 1 ∧ (s.go c).fld F.CAX_CHG_STATUS_COUNT c = 16 ∧
      ((s.go c).car c).latched = s.rd (R .CAX_TX_NEXT c) := by
  have hcode : s.goCode c (s.rd (R .CAX_TX_NEXT c)) = 0 := by simp [State.goCode, hst, hp, hl, hm]
  simp only [State.go, hst, hne, hcode, State.goAccept, htx, hm']
  refine ⟨?_, ?_, ?_⟩
  · simp (disch := decide) [State.fld_setFld_apart, State.fld_setFld_lt]
  · simp (disch := decide) [State.fld_setFld_lt]
  · simp [State.car, State.modCar]

/-- CANCEL of an announced change whose countdown has not reached 1 (R48). -/
theorem State.cancel_announced {s : State} {c : Nat} (hst : s.fld F.CAX_CHG_STATUS_STATE c = 1)
    (hn : 2 ≤ s.fld F.CAX_CHG_STATUS_COUNT c) :
    (s.cancel c).fld F.CAX_CHG_STATUS_STATE c = 0 ∧ (s.cancel c).flag F.CAX_LINE_EVT_CHG_CANCELLED c = true := by
  simp only [State.cancel, hst, hn]
  refine ⟨?_, State.flag_raise _ rfl rfl ..⟩
  show (((s.setFld F.CAX_CHG_STATUS_STATE 0 c).setFld F.CAX_CHG_STATUS_COUNT 0 c).raise F.CAX_LINE_EVT_CHG_CANCELLED
    c).fld F.CAX_CHG_STATUS_STATE c = 0
  simp (disch := decide) only [State.raise, State.fld_setFld_apart, State.fld_setFld_lt]

/-! ## The countdown and the switch -/

/-- A multiframe boundary counts the announcement down (R44). -/
theorem State.count_multiframeTx {s : State} {c : Nat} (hst : s.fld F.CAX_CHG_STATUS_STATE c = 1)
    (hl : (s.car c).onLine = true) (hn : 2 ≤ s.fld F.CAX_CHG_STATUS_COUNT c) :
    (s.multiframeTx c).fld F.CAX_CHG_STATUS_COUNT c = s.fld F.CAX_CHG_STATUS_COUNT c - 1 := by
  have hlt := s.fld_lt F.CAX_CHG_STATUS_COUNT c 0
  have reis : ∀ (b : Bool) (t : State) (g : State → Sc → Sc),
      (t.when b fun t => t.upto 8 fun k t => t.modSc (8 * c + k) (g t)).fld F.CAX_CHG_STATUS_COUNT c =
        t.fld F.CAX_CHG_STATUS_COUNT c := fun b t g =>
    t.fld_when _ _ _ _ _ (State.upto_keeps _ (fun t => t.fld F.CAX_CHG_STATUS_COUNT c) _ 8 fun _ _ _ => rfl)
  unfold State.multiframeTx
  extract_lets n s1 st s2 native s3
  refine (reis _ s3 _).trans ?_
  have e3 : s3.fld F.CAX_CHG_STATUS_COUNT c = s2.fld F.CAX_CHG_STATUS_COUNT c :=
    State.fld_when _ _ _ _ _ _ ((State.markTx_upd ..).fld _ _ _ rfl)
  have e2 : s2.fld F.CAX_CHG_STATUS_COUNT c = s1.fld F.CAX_CHG_STATUS_COUNT c := State.fld_when _ _ _ _ _ _ rfl
  have e1 : s1 = s.setFld F.CAX_CHG_STATUS_COUNT (n - 1) c := by simp [s1, State.when, hst, hl, hn, n]
  rw [e3, e2, e1, State.fld_setFld_lt _ rfl]
  show n - 1 < 2 ^ F.CAX_CHG_STATUS_COUNT.len
  exact lt_of_le_of_lt (Nat.sub_le ..) hlt

/-- The switch of a change that alters neither rate nor mode is done at once (R45). -/
theorem State.install_done {s : State} {c : Nat} (hr : (s.car c).rateChg = false) :
    (s.install c).fld F.CAX_CHG_STATUS_STATE c = 0 ∧ (s.install c).flag F.CAX_LINE_EVT_CHG_DONE c = true ∧
      (s.install c).rd (R .CAX_TX_PROFILE c) = (s.car c).latched &&& (R .CAX_TX_PROFILE c).mask := by
  unfold State.install
  extract_lets w toOif s1 s2 s3
  have hc : ∀ x, (s2.car x).rateChg = (s.car x).rateChg := fun x => by
    have e : s2.cars = s1.cars := by
      refine State.when_holds s1 (fun t => t.cars = s1.cars) _ _ rfl fun _ => ?_
      exact ((State.pccStop_upd ..).cars rfl).trans rfl
    simp only [State.car, e]
    rfl
  have h3 : (s3.car c).rateChg = false := by
    have e := hc c
    simp only [s3, State.car, State.modCar, NTab.get_mod_same] at e ⊢
    exact e.trans hr
  have p2 : s2.rd (R .CAX_TX_PROFILE c) = w &&& (R .CAX_TX_PROFILE c).mask := by
    have e1 : s1.rd (R .CAX_TX_PROFILE c) = w &&& (R .CAX_TX_PROFILE c).mask := by
      simp (disch := decide) only [s1, State.rd_setFld_name, State.rd_wr_name, State.rd_wr_same]
    refine State.when_holds s1 (fun t => t.rd (R .CAX_TX_PROFILE c) = w &&& (R .CAX_TX_PROFILE c).mask) _ _ e1 fun h => ?_
    rw [(State.pccStop_upd ..).rd_of _ _ _ rfl]
    exact (State.rd_setFld_name _ rfl ..).trans h
  rw [if_neg (by simp [h3])]
  refine ⟨?_, ?_, ?_⟩
  · simp (disch := decide) only [(State.holds_upd ..).fld, State.raise, State.fld_setFld_apart, State.fld_setFld_lt]
  · rw [(State.holds_upd ..).flag _ _ _ rfl]
    exact State.flag_raise _ rfl rfl ..
  · simp (disch := decide) only [(State.holds_upd ..).rd_of, State.raise, State.rd_setFld_name]
    exact p2

/-! ## The hold of R49 -/

/-- The end of the hold leaves no hold. -/
theorem State.hold_holdEnd (s : State) (c : Nat) : ((s.holdEnd c).car c).hold = false := by
  unfold State.holdEnd
  split
  · next h => simpa using h
  · extract_lets t
    refine State.when_holds t (fun t => (t.car c).hold = false) _ _ ?_ fun h => h
    simp [t, State.car, State.modCar]

/-- Settles O1. -/
theorem carrierChangeCommandsComplete : Obligations.CarrierChangeCommandsComplete := by
  refine ⟨?go, ?cancel, ?announce, ?multiframeTx, ?switch, ?chgDone, ?holdTimeout⟩
  case go =>
    intro s m c v ha hg hc hst hne hp hl hm hm' htx
    refine Completes.of_guardW ha rfl ?_
    simp only [State.chgCtrlWrite, State.when, hg, hc]
    have e := State.go_announced (s := (s.rewritten (R .CAX_CHG_CTRL c)).plainWrite (R .CAX_CHG_CTRL c) v) (c := c)
    simp (disch := decide) only [State.fld_plainWrite_id, State.rd_plainWrite_name,
      State.wouldLose_plainWrite_chgCtrl] at e
    exact e hst hne hp hl hm hm' htx
  case cancel =>
    intro s m c v ha hg hc hst hn
    refine Completes.of_guardW ha rfl ?_
    simp only [State.chgCtrlWrite, State.when, hg, hc]
    have e := State.cancel_announced (s := (s.rewritten (R .CAX_CHG_CTRL c)).plainWrite (R .CAX_CHG_CTRL c) v) (c := c)
    simp (disch := decide) only [State.fld_plainWrite_id] at e
    exact e hst hn
  case announce =>
    intro s c hon hst
    refine Completes.of_if rfl (by simp [hon, hst]) ?_
    simp [State.car, State.modCar]
  case multiframeTx =>
    intro s c hon hst hl hn
    exact Completes.of_if rfl hon (State.count_multiframeTx hst hl hn)
  case switch =>
    intro s c hon hst hl hn hr
    exact Completes.of_if rfl (by simp [hon, hst, hl, hn]) (State.install_done hr)
  case chgDone =>
    intro s c hon hst hw hr
    refine Completes.of_if rfl (by simp [hon, hst, hw, hr]) ⟨?_, ?_⟩
    · rw [State.flag, State.fld_setFld_apart _ rfl]
      exact beq_iff_eq.mpr (beq_iff_eq.mp (State.flag_raise _ rfl rfl ..))
    · exact State.fld_setFld_lt _ rfl (by split <;> decide) ..
  case holdTimeout =>
    intro s c hon hh
    exact Completes.of_if rfl (by simp [hon, hh]) ⟨s.hold_holdEnd c, State.flag_raise _ rfl rfl ..⟩

end Sys2Proof.Machine
end

section
/-! The transmitter of a carrier (spec/03, R52 to R67): O2. -/

namespace Sys2Proof.Machine

variable (s : State)

/-! ## The transmitter brought up to date -/

/-- The causes that follow from levels elsewhere leave the fields of TX_STATUS apart from their own. -/
theorem State.fld_txCauses (c : Nat) {f : Fld} (h : f = F.CAX_TX_STATUS_TXSTATE ∨ f = F.CAX_TX_STATUS_CLK ∨
    f = F.CAX_TX_STATUS_RECONF) (i j : Nat) : (s.txCauses c).fld f i j = s.fld f i j := by
  unfold State.txCauses
  rcases h with rfl | rfl | rfl <;>
    simp (disch := decide) only [State.setFlag, State.fld_setFld_apart]

/-- Entering FILL writes TXSTATE and no other field of TX_STATUS. -/
theorem State.fld_txFill (c : Nat) {f : Fld} (h : f = F.CAX_TX_STATUS_CLK ∨ f = F.CAX_TX_STATUS_RECONF) (i j : Nat) :
    (s.txFill c).fld f i j = s.fld f i j := by
  have e : (s.txFill c).fld f i j = (s.setFld F.CAX_TX_STATUS_TXSTATE 3 c).fld f i j := by
    rcases h with rfl | rfl <;> exact (State.shapeCopy_upd ..).fld _ _ _ rfl
  rw [e]
  rcases h with rfl | rfl <;> exact s.fld_setFld_apart rfl ..

/-- A move of the transmitter's state writes TXSTATE and no other field of TX_STATUS. -/
theorem State.fld_txMove (c : Nat) (b : Bool) {f : Fld} (h : f = F.CAX_TX_STATUS_CLK ∨ f = F.CAX_TX_STATUS_RECONF)
    (i j : Nat) : (s.txMove c b).fld f i j = s.fld f i j := by
  have moved : ∀ (t : State) n, (t.setFld F.CAX_TX_STATUS_TXSTATE n c).fld f i j = t.fld f i j := fun t n => by
    rcases h with rfl | rfl <;> exact t.fld_setFld_apart rfl ..
  have event : ∀ (t : State) g, g.reg = .CAX_TX_EVT → (t.raise g c).fld f i j = t.fld f i j := fun t g hg =>
    State.fld_of_rd f (t.rd_setFld_ne _ _ _ _ fun e => by
      have := congrArg RegKey.id e
      rcases h with rfl | rfl <;> simp [hg] at this <;> contradiction)
  have stopped : ∀ t : State, (t.pccStop c).fld f i j = t.fld f i j := fun t => by
    rcases h with rfl | rfl <;> exact (State.pccStop_upd c t).fld _ _ _ rfl
  unfold State.txMove
  extract_lets st live
  split
  · split
    · rfl
    · refine (State.fld_when _ _ _ _ _ _ (stopped _)).trans ?_
      rw [event _ _ rfl, moved]
  · split
    · exact moved _ _
    · split
      · split
        · split
          · exact moved _ _
          · exact s.fld_txFill c h i j
        · rfl
      · split
        · split
          · rw [stopped, event _ _ rfl, moved]
          · rfl
        · split
          · exact s.fld_txFill c h i j
          · rfl

/-- What follows a move: the skews settle and the groups' holds follow; neither is part of TX_STATUS. -/
theorem State.fld_skews_holds (c : Nat) {f : Fld} (h : f.reg = .CAX_TX_STATUS) (i j : Nat) :
    ((s.upto 4 fun l s => s.skewSettle c l).holds).fld f i j = s.fld f i j := by
  have e : ∀ (w : Nat) {a b : State}, Upd w a b → w.testBit RegId.CAX_TX_STATUS.ctorIdx = false →
      b.fld f i j = a.fld f i j := fun w a b u hw => u.fld f i j (by rw [h]; exact hw)
  rw [e _ (State.holds_upd _) rfl]
  exact State.upto_keeps s (fun t => t.fld f i j) _ 4 fun l t _ => e _ (State.skewSettle_upd ..) rfl

/-- Bringing the transmitter up to date leaves CLK and RECONF, which their own events set and clear. -/
theorem State.fld_txEval (c : Nat) {f : Fld} (h : f = F.CAX_TX_STATUS_CLK ∨ f = F.CAX_TX_STATUS_RECONF) (i j : Nat) :
    (s.txEval c).fld f i j = s.fld f i j := by
  unfold State.txEval
  split
  · rw [State.fld_skews_holds _ _ (by rcases h with rfl | rfl <;> rfl), State.fld_txMove _ _ _ h,
      State.fld_txCauses _ _ (.inr h)]
  · rfl

/-- SETTLE ends without a cause: FILL. -/
theorem State.txState_txMove_settled {s : State} {c : Nat} (hst : s.fld F.CAX_TX_STATUS_TXSTATE c = 1)
    (hd : s.txDark c = false) (hm : s.txMute c = false) : (s.txMove c true).fld F.CAX_TX_STATUS_TXSTATE c = 3 := by
  have e : s.txMove c true = s.txFill c := by simp [State.txMove, hst, hd, hm]
  rw [e]
  exact ((State.shapeCopy_upd ..).fld _ _ _ rfl).trans (s.fld_setFld_lt rfl (by decide) ..)

/-! ## Faults and counters -/

/-- The detection of a fault counts it (R409). -/
theorem State.faultCnt_detect (f : Nat) :
    (s.detect f).rdN (R .SAF_FAULT_CNT f) = min (s.rdN (R .SAF_FAULT_CNT f) + 1) 0xFFFFFFFF := by
  have counted : ∀ (t : State) v, ((t.wr (R .SAF_FAULT_EVT) v).bump (R .SAF_FAULT_CNT f)).rdN (R .SAF_FAULT_CNT f) =
      min (t.rdN (R .SAF_FAULT_CNT f) + 1) 0xFFFFFFFF := fun t v => by
    rw [State.rdN_bump _ _ rfl, State.rdN, t.rd_wr_name rfl, State.rdN]
  unfold State.detect
  extract_lets e t
  have ht : t.rdN (R .SAF_FAULT_CNT f) = min (s.rdN (R .SAF_FAULT_CNT f) + 1) 0xFFFFFFFF :=
    ((State.logFree_upd ..).rdN_of _ _ _ rfl).trans (counted s _)
  split
  · exact ht
  · rw [(State.ppsEval_upd _).rdN_of _ _ _ rfl, (State.failOvers_upd ..).rdN_of _ _ _ rfl, ht]

/-- A segment that fails its check is counted, and is fault 8 (R52). -/
theorem State.segErr_counts (c : Nat) :
    (s.segErr c).rdN (R .CAX_TX_SEG_ERR c) = min (s.rdN (R .CAX_TX_SEG_ERR c) + 1) 0xFFFFFFFF ∧
      (s.segErr c).rdN (R .SAF_FAULT_CNT 8) = min (s.rdN (R .SAF_FAULT_CNT 8) + 1) 0xFFFFFFFF := by
  unfold State.segErr
  refine ⟨?_, ?_⟩
  · rw [(State.detect_upd ..).rdN_of _ _ _ rfl, (State.count_upd ..).rdN_of _ _ _ rfl, State.rdN, State.raise,
      State.rd_setFld_name _ rfl]
    exact s.rdN_bump _ rfl
  · rw [State.faultCnt_detect, (State.count_upd ..).rdN_of _ _ _ rfl, State.rdN, State.raise,
      State.rd_setFld_name _ rfl, State.rd_bump_name _ rfl, State.rdN]

/-! ## Skew (R62) -/

/-- The skew of a ramping lane moves one step towards its sum. -/
theorem State.skew_skewSettle_ramping {s : State} {c l : Nat} (h : s.fld F.CAX_TX_STATUS_TXSTATE c = 4) :
    ((s.skewSettle c l).car c).skew = (s.car c).skew := by
  simp [State.skewSettle, h, State.car]

theorem State.board_skewNew (c l : Nat) : (s.skewNew c l).fld F.CAX_TX_SKEW_BOARD c l = s.fld F.CAX_TX_SKEW_BOARD c l := by
  have settle : ∀ t : State, (t.skewSettle c l).fld F.CAX_TX_SKEW_BOARD c l = t.fld F.CAX_TX_SKEW_BOARD c l := fun t => by
    unfold State.skewSettle
    extract_lets x st
    split
    · exact t.fld_setFld_apart rfl ..
    · exact State.fld_setFld_apart _ rfl ..
  unfold State.skewNew
  extract_lets out t
  rw [settle]
  refine (t.fld_when_raise out _ _ _ _ _ (t.fld_setFld_apart rfl 1 c 0 c l)).trans ?_
  exact s.fld_setFld_apart rfl ..

/-! ## The commands -/

/-- Settles O2. -/
theorem transmitterCommandsComplete : Obligations.TransmitterCommandsComplete := by
  refine ⟨?laserOn, ?mute, ?settleElapsed, ?serviceEntered, ?clkFault, ?txClkLock, ?segErr, ?txPreApply,
    ?txPreCopyDone, ?clip, ?txSkewWrite, ?skewRamp⟩
  case laserOn =>
    intro s m c v ha hv
    refine Completes.of_guardW ha rfl ?_
    rw [State.txCtrlWrite, (State.txEval_upd ..).flag _ _ _ rfl, State.flag,
      State.fld_plainWrite_rw _ rfl, hv]
    rfl
  case mute =>
    intro s m c v ha hv
    refine Completes.of_guardW ha rfl ?_
    rw [State.txCtrlWrite, (State.txEval_upd ..).flag _ _ _ rfl, State.flag,
      State.fld_plainWrite_rw _ rfl, hv]
    rfl
  case settleElapsed =>
    intro s c hon hst hd hm
    refine Completes.of_if rfl (by simp [hon, hst]) ?_
    rw [State.fld_skews_holds _ _ rfl]
    exact State.txState_txMove_settled ((s.fld_txCauses c (.inl rfl) c 0).trans hst) hd hm
  case serviceEntered =>
    intro s c hon hst hf hh
    refine Completes.of_if rfl (by simp [hon, hst, hf, hh]) ⟨?_, State.flag_raise _ rfl rfl ..⟩
    rw [State.raise, State.fld_setFld_apart _ rfl]
    exact s.fld_setFld_lt rfl (by decide) ..
  case clkFault =>
    intro s c hon
    refine Completes.of_if rfl hon ?_
    rw [State.faultCnt_detect, (State.txEval_upd ..).rdN_of _ _ _ rfl, State.rdN, State.raise,
      State.rd_setFld_name _ rfl, State.setFlag, State.rd_setFld_name _ rfl, State.rdN]
  case txClkLock =>
    intro s c hon hi
    refine Completes.of_if rfl (by simp [hon, hi]) ⟨?_, ?_⟩
    · rw [State.flag, State.fld_txEval _ _ (.inl rfl), State.setFlag, State.fld_setFld_apart _ rfl]
      exact s.flag_setFlag rfl rfl false c 0
    · rw [State.flag, State.fld_txEval _ _ (.inr rfl)]
      exact State.flag_setFlag _ rfl rfl false c 0
  case segErr =>
    intro s c hon hst
    exact Completes.of_if rfl (by simp [hon, hst]) (s.segErr_counts c)
  case txPreApply =>
    intro s m c v ha hv
    refine Completes.of_guardW ha rfl ?_
    rw [State.applyWrite, if_pos hv]
    exact State.flag_setFlag _ rfl rfl true c 0
  case txPreCopyDone =>
    intro s c hon hp hw
    refine Completes.of_if rfl (by simp [hon, hp]) ?_
    have idle : (s.preCopy c).serve = s.preCopy c := if_pos (by
      show s.fab.waits.isEmpty = true
      rw [hw]; rfl)
    rw [idle]
    exact State.flag_setFlag _ rfl rfl false c 0
  case clip =>
    intro s c l hon hl
    refine Completes.of_if rfl (by simp [hon, hl]) ⟨?_, ?_⟩
    · rw [(State.count_upd ..).rdN_of _ _ _ rfl, State.rdN, State.raise, State.rd_setFld_name _ rfl]
      exact s.rdN_bump _ rfl
    · rw [(State.count_upd ..).flag _ _ _ rfl]
      exact State.flag_raise _ rfl rfl ..
  case txSkewWrite =>
    intro s m c l v ha
    refine Completes.of_guardW ha rfl ?_
    rw [State.skewWrite, State.board_skewNew]
    exact State.fld_plainWrite_rw _ rfl ..
  case skewRamp =>
    intro s c l hon hl hr hst hlt
    refine Completes.of_if rfl (by simp [hon, hl, hr]) ?_
    rw [State.skew_skewSettle_ramping (by exact hst)]
    simp only [State.car, State.modCar, NTab.get_mod_same, NTab.get_set_same]
    exact if_pos hlt

end Sys2Proof.Machine
end

section
/-! The receiver following the far end's profile and dispersion range (spec/02, R31, R32, R40, R46, R47; spec/04, R76):
O3. -/

namespace Sys2Proof.Machine

variable (s : State)

/-! ## The profile in force -/

/-- A change of subcarriers, the loss check and the line frame behind it leave every field that none of them has. -/
theorem State.fld_losing (c : Nat) (g : State → State) (f : Fld) (i j : Nat)
    (hl : ∀ t had, (State.lossCheck c had t).fld f i j = t.fld f i j) (he : ∀ t, (State.lineEval c t).fld f i j = t.fld f i j) :
    (s.losing c g).fld f i j = (g s).fld f i j := (he _).trans (hl _ _)

/-- RX_PROFILE holds the profile that comes in, its reserved bits 0. -/
theorem State.rd_rxProfile (c : Nat) (w : W32) (now : Bool) :
    (s.rxProfile c w now).rd (R .CAX_RX_PROFILE c) = w &&& (R .CAX_RX_PROFILE c).mask := by
  unfold State.rxProfile State.losing
  extract_lets old
  rw [(State.lineEval_upd ..).rd_of _ _ _ rfl, (State.lossCheck_upd ..).rd_of _ _ _ rfl,
    (State.mismatchEval_upd ..).rd_of _ _ _ rfl]
  split
  · rw [(State.coldTrigger_upd ..).rd_of _ _ _ rfl, (State.rxInstall_upd ..).rd_of _ _ _ rfl,
      (State.storeEval_upd ..).rd_of _ _ _ rfl]
    exact s.rd_wr_same _ _
  · split
    · rw [(State.rxInstall_upd ..).rd_of _ _ _ rfl]
      exact s.rd_wr_same _ _
    · exact s.rd_wr_same _ _

/-- An event of the line that is set stays set when a profile comes in. -/
theorem State.fld_rxProfile_event (c : Nat) (w : W32) (now : Bool) {f : Fld} (a b : Nat) (ho : f.ok = true)
    (hr : f.reg = .CAX_LINE_EVT) (hl : f.len = 1) (h : s.fld f a b = 1) : (s.rxProfile c w now).fld f a b = 1 := by
  have e : (s.wr (R .CAX_RX_PROFILE c) w).fld f a b = 1 := (s.fld_wr_id (by rw [hr]; rfl) w c 0 a b).trans h
  unfold State.rxProfile State.losing
  extract_lets old
  rw [(State.lineEval_upd ..).fld _ _ _ (by rw [hr]; rfl), (State.lossCheck_upd ..).fld _ _ _ (by rw [hr]; rfl)]
  refine State.fld_mismatchEval_event _ c f a b ho hr hl ?_
  split
  · rw [(State.coldTrigger_upd ..).fld _ _ _ (by rw [hr]; rfl), (State.rxInstall_upd ..).fld _ _ _ (by rw [hr]; rfl),
      (State.storeEval_upd ..).fld _ _ _ (by rw [hr]; rfl)]
    exact e
  · split
    · rw [(State.rxInstall_upd ..).fld _ _ _ (by rw [hr]; rfl)]
      exact e
    · exact e

/-- A receiver that takes a profile for an event of the line has raised it, and holds the profile. -/
theorem State.rxProfile_followed (c : Nat) (w : W32) (g : Carrier → Carrier) :
    let t := ((s.modCar c g).raise F.CAX_LINE_EVT_RX_FOLLOWED c).rxProfile c w true
    t.rd (R .CAX_RX_PROFILE c) = w &&& (R .CAX_RX_PROFILE c).mask ∧ t.flag F.CAX_LINE_EVT_RX_FOLLOWED c = true :=
  ⟨State.rd_rxProfile .., beq_iff_eq.mpr <| State.fld_rxProfile_event _ c w true c 0 rfl rfl rfl
    (beq_iff_eq.mp (State.flag_raise _ rfl rfl ..))⟩

/-! ## A multiframe boundary -/

/-- At a multiframe boundary the pending RX_SHAPE comes into force (R76). -/
theorem State.rolloff_multiframeRx {c : Nat} (h : (s.car c).shapePend = true) :
    (s.multiframeRx c).fld F.CAX_RX_SHAPE_ROLLOFF_ACT c = min (max (s.fld F.CAX_RX_SHAPE_ROLLOFF c) 2) 10 := by
  unfold State.multiframeRx State.losing
  beta_reduce
  extract_lets a b d w
  rw [(State.lineEval_upd ..).fld _ _ _ rfl, (State.lossCheck_upd ..).fld _ _ _ rfl]
  have ha : (a.car c).shapePend = true ∧ a.fld F.CAX_RX_SHAPE_ROLLOFF c = s.fld F.CAX_RX_SHAPE_ROLLOFF c := by
    refine s.when_holds (fun t => (t.car c).shapePend = true ∧
      t.fld F.CAX_RX_SHAPE_ROLLOFF c = s.fld F.CAX_RX_SHAPE_ROLLOFF c) _ _ ⟨h, rfl⟩ fun _ => ?_
    refine ⟨(State.each_keeps _ (fun t => (t.car c).shapePend) _ (fun i t => ?_) _).trans
      ((State.each_keeps _ (fun t => (t.car c).shapePend) _ (fun i t => ?_) _).trans h),
      (State.each_keeps _ (fun t => t.fld F.CAX_RX_SHAPE_ROLLOFF c) _ (fun i t => ?_) _).trans
      (State.each_keeps _ (fun t => t.fld F.CAX_RX_SHAPE_ROLLOFF c) _ (fun i t => ?_) _)⟩
    · exact t.car_descRead Carrier.shapePend (fun _ _ => rfl) (fun _ _ => rfl) i c
    · exact congrArg Carrier.shapePend ((t.mfCounts_upd i).car rfl c)
    · exact (State.descRead_upd ..).fld _ _ _ rfl
    · exact (State.mfCounts_upd ..).fld _ _ _ rfl
  have hb : (b.car c).shapePend = true ∧ b.fld F.CAX_RX_SHAPE_ROLLOFF c = s.fld F.CAX_RX_SHAPE_ROLLOFF c :=
    ⟨(congrArg Carrier.shapePend (a.car_modCar c _)).trans ha.1, ha.2⟩
  have hd : d.fld F.CAX_RX_SHAPE_ROLLOFF_ACT c = min (max (s.fld F.CAX_RX_SHAPE_ROLLOFF c) 2) 10 := by
    simp only [d, hb.1, State.when, if_true]
    rw [State.rxShapeIn, State.fld_setFld_lt _ rfl, hb.2]
    show min (max (b.fld F.CAX_RX_SHAPE_ROLLOFF c) 2) 10 < 2 ^ 4
    omega
  split
  · exact ((State.rxInstall_upd ..).fld _ _ _ rfl).trans hd
  · exact hd

/-! ## Dispersion (R31, R32) -/

/-- A new estimate beyond the express range raises EXP_CD_RANGE where the carrier was within. -/
theorem State.flag_cdNew_range {s : State} {c : Nat} {cd : Int} (hcd : 27200 < cd.natAbs)
    (hv : s.flag F.CAX_RX_CD_EST_CD_VALID c = true) (hm : s.rxMode c = 0)
    (ho : s.flag F.CAX_CHG_STATUS_EXP_CD_OUT c = false) :
    (s.cdNew c cd).flag F.CAX_LINE_EVT_EXP_CD_RANGE c = true := by
  have hv' : (s.setFld F.CAX_RX_CD_EST_CD (unsigned 20 cd) c).flag F.CAX_RX_CD_EST_CD_VALID c = true := by
    rw [State.flag, State.fld_setFld_apart _ rfl]; exact hv
  have ho' : (s.setFld F.CAX_RX_CD_EST_CD (unsigned 20 cd) c).flag F.CAX_CHG_STATUS_EXP_CD_OUT c = false := by
    rw [State.flag, State.fld_setFld_apart _ rfl]; exact ho
  have hm' : (s.setFld F.CAX_RX_CD_EST_CD (unsigned 20 cd) c).rxMode c = 0 := hm
  simp only [State.cdNew, hv', hm', hcd, ho', State.when, Bool.not_true, Bool.not_false, Bool.false_or, bne_self_eq_false,
    Bool.false_eq_true, if_true, if_false]
  rw [(State.expOut_upd ..).flag _ _ _ rfl]
  exact State.flag_raise _ rfl rfl ..

/-- A new estimate within the express range is kept, and the carrier is in range. -/
theorem State.cdNew_return {s : State} {c : Nat} {cd : Int} (hcd : cd.natAbs ≤ 26400)
    (hv : s.flag F.CAX_RX_CD_EST_CD_VALID c = true) (hm : s.rxMode c = 0) :
    (s.cdNew c cd).flag F.CAX_CHG_STATUS_EXP_CD_OUT c = false ∧
      (s.cdNew c cd).fld F.CAX_RX_CD_EST_CD c = unsigned 20 cd := by
  have hv' : (s.setFld F.CAX_RX_CD_EST_CD (unsigned 20 cd) c).flag F.CAX_RX_CD_EST_CD_VALID c = true := by
    rw [State.flag, State.fld_setFld_apart _ rfl]; exact hv
  have hm' : (s.setFld F.CAX_RX_CD_EST_CD (unsigned 20 cd) c).rxMode c = 0 := hm
  have hcd' : ¬ 27200 < cd.natAbs := by omega
  simp only [State.cdNew, hv', hm', hcd, hcd', Bool.not_true, Bool.false_or, bne_self_eq_false, Bool.false_eq_true,
    if_true, if_false]
  refine ⟨?_, ?_⟩
  · rw [(State.expBack_upd ..).flag _ _ _ rfl]
    exact State.flag_setFlag _ rfl rfl false c 0
  · have e : ∀ t : State, (t.expBack c).fld F.CAX_RX_CD_EST_CD c = t.fld F.CAX_RX_CD_EST_CD c := fun t => by
      unfold State.expBack
      extract_lets u
      refine (State.each_keeps u (fun t => t.fld F.CAX_RX_CD_EST_CD c) _ (fun i t => ?_) _).trans ?_
      · split
        · exact (State.scTo_upd ..).fld _ _ _ rfl
        · rfl
      · exact t.when_holds (fun x => x.fld F.CAX_RX_CD_EST_CD c = t.fld F.CAX_RX_CD_EST_CD c) _ _ rfl fun _ =>
          t.fld_setFld_apart rfl ..
    rw [e, State.setFlag, State.fld_setFld_apart _ rfl, State.fld_setFld_lt _ rfl]
    exact unsigned_lt 20 cd

/-! ## The commands -/

/-- Settles O3. -/
theorem receiverProfileCommandsComplete : Obligations.ReceiverProfileCommandsComplete := by
  refine ⟨?rxProfileWrite, ?multiframeRx, ?rxFollowed, ?descAdopted, ?expCdRange, ?expCdReturn, ?expStepMove⟩
  case rxProfileWrite =>
    intro s m c v ha hp
    refine Completes.of_guardW ha rfl ?_
    simp only [State.rxProfileWrite, hp, ne_eq, not_true_eq_false, if_false]
    rw [State.rd_rxProfile, BitVec.and_assoc, BitVec.and_self]
  case multiframeRx =>
    intro s c marks hon hm hp
    refine Completes.of_if rfl hon ?_
    simp only [hm, State.when, beq_self_eq_true, if_true]
    have hp' : ((State.markRx c marks s).car c).shapePend = true := by
      rw [(State.markRx_upd ..).car rfl]; exact hp
    rw [State.rolloff_multiframeRx _ hp', (State.markRx_upd ..).fld _ _ _ rfl]
  case rxFollowed =>
    intro s c w hon ha
    refine ⟨_, rfl, ?_⟩
    simp only [ha, hon, if_true]
    exact s.rxProfile_followed c w _
  case descAdopted =>
    intro s c w hon hd hf
    refine ⟨_, rfl, ?_⟩
    simp only [hd, hon, hf, Bool.and_self, if_true]
    exact s.rxProfile_followed c w _
  case expCdRange =>
    intro s c cd hon hcd hv hm ho
    refine Completes.of_if rfl (by simp [hon, hcd, hv]) ?_
    rw [State.flag, State.fld_losing _ _ _ _ _ _ (fun _ _ => (State.lossCheck_upd ..).fld _ _ _ rfl)
      fun _ => (State.lineEval_upd ..).fld _ _ _ rfl]
    exact State.flag_cdNew_range hcd hv hm ho
  case expCdReturn =>
    intro s c cd hon hcd hv hm
    refine Completes.of_if rfl (by simp [hon, hcd, hv]) ?_
    rw [(State.lineEval_upd ..).flag _ _ _ rfl, (State.lineEval_upd ..).fld _ _ _ rfl]
    exact State.cdNew_return hcd hv hm
  case expStepMove =>
    intro s c cd hon hst h1 h3 hcd
    refine Completes.of_if rfl (by simp [hon, hst, h1, h3, stepBound, hcd]) ?_
    rw [(State.lineEval_upd ..).fld _ _ _ rfl, State.fld_setFld_lt _ rfl]
    show s.fld F.CAX_RX_CD_EST_EXP_STEP c + 1 < 2 ^ 3
    omega

end Sys2Proof.Machine
end

section
/-! A receiver's acquisition, loss of signal and clock faults (spec/04, R79, R84 to R93): O4. -/

namespace Sys2Proof.Machine

variable (s : State)

/-! ## The line frame behind a change of the receiver -/

/-- A flag of the receiver's status that the line frame does not write. -/
theorem State.flag_lineEval (c : Nat) (f : Fld) (a b : Nat) (ho : f.ok = true) (hr : f.reg = .CAX_RX_STATUS)
    (hd : f.lo + f.len ≤ 4 ∨ 8 ≤ f.lo) (hc : f.lo + f.len ≤ 16 ∨ 24 ≤ f.lo) : (s.lineEval c).flag f a b = s.flag f a b :=
  congrArg (· == 1) (s.fld_lineEval c f a b ho hr hd hc)

/-- An event of the receiver that is set stays set when the line frame follows. -/
theorem State.flag_lineEval_event (c : Nat) (f : Fld) (a b : Nat) (ho : f.ok = true) (hr : f.reg = .CAX_RX_EVT)
    (hl : f.len = 1) (h : s.flag f a b = true) : (s.lineEval c).flag f a b = true :=
  beq_iff_eq.mpr (s.fld_lineEval_event c f a b ho hr hl (beq_iff_eq.mp h))

/-! ## The starts and ends of a sequence -/

theorem State.rxState_coldStart (c : Nat) : (s.coldStart c).fld F.CAX_RX_STATUS_RXSTATE c = 1 := by
  simp (disch := decide) only [State.coldStart, State.fld_modCar, State.fld_scsIdle, State.fld_bump_id, State.setFlag, State.fld_setFld_apart,
    State.fld_rxTo_same]

theorem State.expStep_coldStart (c : Nat) : (s.coldStart c).fld F.CAX_RX_CD_EST_EXP_STEP c = 0 := by
  rw [State.coldStart, State.fld_modCar, (State.scsIdle_upd ..).fld _ _ _ rfl, State.fld_bump_id _ rfl, State.fld_setFld _ _ _ _ _ rfl]
  rfl

/-- A cold acquisition counts in ACQ_CNT. -/
theorem State.acqCnt_coldStart (c : Nat) :
    (s.coldStart c).rdN (R .CAX_RX_ACQ_CNT c) = min (s.rdN (R .CAX_RX_ACQ_CNT c) + 1) 0xFFFFFFFF := by
  rw [State.coldStart, State.rdN, State.rd_modCar, (State.scsIdle_upd ..).rd_of _ _ _ rfl]
  refine (State.rdN_bump _ _ rfl).trans ?_
  rw [State.rdN]
  simp (disch := decide) only [State.setFlag, State.rd_setFld_name, (State.rxTo_upd ..).rd_of,
    (State.locksClear_upd ..).rd_of, State.rdN]

theorem State.clkLock_locksClear (c : Nat) : (s.locksClear c).fld F.CAX_RX_STATUS_CLK_LOCK c = 0 := by
  rw [State.locksClear, (State.cdClear_upd ..).fld _ _ _ rfl, State.setFlag, State.fld_setFld _ _ _ _ _ rfl]
  rfl

/-- Clock recovery is not locked when a cold acquisition starts. -/
theorem State.clkLock_coldStart (c : Nat) : (s.coldStart c).fld F.CAX_RX_STATUS_CLK_LOCK c = 0 := by
  simp (disch := decide) only [State.coldStart, State.fld_modCar, State.fld_scsIdle, State.fld_bump_id, State.setFlag, State.fld_setFld_apart,
    State.fld_rxTo, State.clkLock_locksClear]

/-- Clock recovery is not locked when a relock starts, warm or cold. -/
theorem State.clkLock_warmStart (c : Nat) : (s.warmStart c).fld F.CAX_RX_STATUS_CLK_LOCK c = 0 := by
  unfold State.warmStart
  split
  · simp (disch := decide) only [State.fld_modCar, State.fld_scsIdle, State.setFlag, State.fld_setFld_apart, State.fld_rxTo,
      State.clkLock_locksClear]
  · exact s.clkLock_coldStart c

/-- The start of a warm relock leaves SIG. -/
theorem State.sig_warmStart (c : Nat) :
    (s.warmStart c).fld F.CAX_RX_STATUS_SIG c = s.fld F.CAX_RX_STATUS_SIG c := by
  have locks : (s.locksClear c).fld F.CAX_RX_STATUS_SIG c = s.fld F.CAX_RX_STATUS_SIG c := by
    rw [State.locksClear, (State.cdClear_upd ..).fld _ _ _ rfl]
    simp (disch := decide) only [State.setFlag, State.fld_setFld_apart]
  unfold State.warmStart
  split
  · simp (disch := decide) only [State.fld_modCar, State.fld_scsIdle, State.setFlag, State.fld_setFld_apart, State.fld_rxTo, locks]
  · simp (disch := decide) only [State.coldStart, State.fld_modCar, State.fld_scsIdle, State.fld_bump_id,
      State.setFlag, State.fld_setFld_apart, State.fld_rxTo, locks]

/-- A receiver that goes to OFF or LOS shows it. -/
theorem State.rxState_rxDown (c st : Nat) : (s.rxDown c st).fld F.CAX_RX_STATUS_RXSTATE c = st % 8 := by
  simp (disch := decide) only [State.rxDown, State.fld_modCar, State.fld_scsIdle, State.setFlag, State.fld_setFld_apart,
    State.fld_rxTo_same]

theorem State.rxState_rxOff (c : Nat) : (s.rxOff c).fld F.CAX_RX_STATUS_RXSTATE c = 0 := by
  unfold State.rxOff
  extract_lets t
  rw [State.fld_wr_id _ rfl, State.fld_storeEval _ _ _ _ _ rfl (by decide)]
  refine (State.each_keeps t (fun x => x.fld F.CAX_RX_STATUS_RXSTATE c) _ (fun i x => ?_) _).trans (s.rxState_rxDown c 0)
  exact x.fld_scTo i 0 _ c 0 rfl rfl (by decide)

/-- A receiver that loses its signal is in LOS, with the event and the count. -/
theorem State.losEnter_shows (c : Nat) : (s.losEnter c).fld F.CAX_RX_STATUS_RXSTATE c = 4 ∧
    (s.losEnter c).flag F.CAX_RX_EVT_LOS c = true ∧
    (s.losEnter c).rdN (R .CAX_RX_LOS_CNT c) = min (s.rdN (R .CAX_RX_LOS_CNT c) + 1) 0xFFFFFFFF := by
  refine ⟨?_, ?_, ?_⟩
  · rw [State.losEnter, State.fld_bump_id _ rfl, State.raise, State.fld_setFld_apart _ rfl]
    exact State.rxState_rxDown ..
  · rw [State.losEnter, State.flag, State.fld_bump_id _ rfl]
    exact State.flag_raise _ rfl rfl ..
  · rw [State.losEnter, State.rdN_bump _ _ rfl, State.rdN, State.raise, State.rd_setFld_name _ rfl,
      (State.rxDown_upd ..).rd_of _ _ _ rfl, (State.keepSnap_upd ..).rd_of _ _ _ rfl, State.rdN]

/-! ## The steps of a cold acquisition (Table 4.10) -/

/-- A dispersion that is found is valid. -/
theorem State.cdValid_cdFound (c : Nat) (v : Int) : (s.cdFound c v).flag F.CAX_RX_CD_EST_CD_VALID c = true := by
  have out : ∀ t : State, (t.expOut c).fld F.CAX_RX_CD_EST_CD_VALID c = t.fld F.CAX_RX_CD_EST_CD_VALID c := fun t =>
    (State.expOut_upd ..).fld _ _ _ rfl
  have back : ∀ t : State, (t.expBack c).fld F.CAX_RX_CD_EST_CD_VALID c = t.fld F.CAX_RX_CD_EST_CD_VALID c := fun t => by
    unfold State.expBack
    extract_lets u
    refine (State.each_keeps u (fun t => t.fld F.CAX_RX_CD_EST_CD_VALID c) _ (fun i t => ?_) _).trans ?_
    · split
      · exact (State.scTo_upd ..).fld _ _ _ rfl
      · rfl
    · exact t.when_holds (fun x => x.fld F.CAX_RX_CD_EST_CD_VALID c = t.fld F.CAX_RX_CD_EST_CD_VALID c) _ _ rfl fun _ =>
        t.fld_setFld_apart rfl ..
  have new : ∀ t : State, (t.cdNew c v).fld F.CAX_RX_CD_EST_CD_VALID c = t.fld F.CAX_RX_CD_EST_CD_VALID c := fun t => by
    have e : (t.setFld F.CAX_RX_CD_EST_CD (unsigned 20 v) c).fld F.CAX_RX_CD_EST_CD_VALID c =
        t.fld F.CAX_RX_CD_EST_CD_VALID c := t.fld_setFld_apart rfl ..
    unfold State.cdNew
    extract_lets u
    split
    · exact e
    · split
      · refine (out _).trans ((u.when_holds (fun x => x.fld F.CAX_RX_CD_EST_CD_VALID c =
          t.fld F.CAX_RX_CD_EST_CD_VALID c) _ _ e fun h => ?_))
        simp (disch := decide) only [State.raise, State.setFlag, State.fld_setFld_apart]
        exact h
      · split
        · rw [back, State.setFlag, State.fld_setFld_apart _ rfl]
          exact e
        · exact e
  unfold State.cdFound State.stepDone
  extract_lets k old t u
  rw [State.flag, State.fld_setFld_apart _ rfl, new, State.fld_setFld_apart _ rfl]
  exact s.flag_setFlag rfl rfl true c 0

/-- A clock that is found is locked, and its offset shown. -/
theorem State.clkFound_shows (c : Nat) (v : Int) : (s.clkFound c v).flag F.CAX_RX_STATUS_CLK_LOCK c = true ∧
    (s.clkFound c v).rdN (R .CAX_RX_CLK_OFS c) = unsigned 32 v := by
  unfold State.clkFound State.stepDone
  extract_lets eqs t
  have e : ∀ {β : Type} (p : State → β), (∀ x i g, p (State.modSc x i g) = p x) →
      p (t.each (scsOf c) fun i s => s.modSc i fun x => { x with eq := eqs.getD (i % 8) none }) = p t := fun p hp =>
    State.each_keeps t p _ (fun i x => hp x i _) _
  refine ⟨?_, ?_⟩
  · rw [e (fun x => x.flag F.CAX_RX_STATUS_CLK_LOCK c) fun _ _ _ => rfl, State.flag, State.fld_setFld_apart _ rfl,
      State.fld_wrN_id _ rfl]
    exact s.flag_setFlag rfl rfl true c 0
  · rw [e (fun x => x.rdN (R .CAX_RX_CLK_OFS c)) fun _ _ _ => rfl, State.rdN, State.rd_setFld_name _ rfl]
    exact (State.rdN_wrN _ _ _ rfl).trans (Nat.mod_eq_of_lt (unsigned_lt 32 v))

/-- A frequency offset that is found is locked, valid and shown. -/
theorem State.fofsFound_shows (c : Nat) (v : Int) : (s.fofsFound c v).flag F.CAX_RX_STATUS_FOFS_LOCK c = true ∧
    (s.fofsFound c v).flag F.CAX_RX_FOFS_FOFS_VALID c = true ∧ (s.fofsFound c v).fld F.CAX_RX_FOFS_OFS c = unsigned 16 v := by
  unfold State.fofsFound State.stepDone
  refine ⟨?_, ?_, ?_⟩
  · simp (disch := decide) only [State.flag, State.setFlag, State.fld_setFld_apart]
    exact s.flag_setFlag rfl rfl true c 0
  · simp (disch := decide) only [State.flag, State.setFlag, State.fld_setFld_apart]
    exact State.flag_setFlag _ rfl rfl true c 0
  · rw [State.fld_setFld_apart _ rfl]
    exact State.fld_setFld_lt _ rfl (unsigned_lt 16 v) ..

/-- A failed cold step starts the sequence again, with the event and the count (R90). -/
theorem State.acqAgain_shows (c : Nat) : (s.acqAgain c).fld F.CAX_RX_STATUS_RXSTATE c = 1 ∧
    (s.acqAgain c).flag F.CAX_RX_EVT_ACQ_TIMEOUT c = true ∧
    (s.acqAgain c).rdN (R .CAX_RX_ACQ_CNT c) = min (s.rdN (R .CAX_RX_ACQ_CNT c) + 1) 0xFFFFFFFF := by
  unfold State.acqAgain
  refine ⟨State.rxState_coldStart .., ?_, ?_⟩
  · rw [(State.coldStart_upd ..).flag _ _ _ rfl]
    exact State.flag_raise _ rfl rfl ..
  · rw [State.acqCnt_coldStart, State.rdN, State.raise, State.rd_setFld_name _ rfl, State.rdN]

/-- A failed warm step goes on cold, with the event and the count (R91). -/
theorem State.fallBack_shows (c : Nat) : (s.fallBack c).fld F.CAX_RX_STATUS_RXSTATE c = 1 ∧
    (s.fallBack c).flag F.CAX_RX_EVT_RELOCK_FAIL c = true ∧
    (s.fallBack c).rdN (R .CAX_RX_ACQ_CNT c) = min (s.rdN (R .CAX_RX_ACQ_CNT c) + 1) 0xFFFFFFFF := by
  unfold State.fallBack
  extract_lets step t
  have e : ∀ {β : Type} (p : State → β), (∀ x i g, p (State.modSc x i g) = p x) →
      p (t.when (step == 4) fun s => s.each (scsOf c) fun i s => s.modSc i fun x => { x with eq := none }) = p t :=
    fun p hp => t.when_holds (fun x => p x = p t) _ _ rfl fun _ => State.each_keeps t p _ (fun i x => hp x i _) _
  refine ⟨?_, ?_, ?_⟩
  · rw [e (fun x => x.fld F.CAX_RX_STATUS_RXSTATE c) fun _ _ _ => rfl]
    exact State.fld_rxTo_same ..
  · rw [e (fun x => x.flag F.CAX_RX_EVT_RELOCK_FAIL c) fun _ _ _ => rfl]
    show (((s.raise F.CAX_RX_EVT_RELOCK_FAIL c).bump (R .CAX_RX_ACQ_CNT c)).rxTo c 1).flag F.CAX_RX_EVT_RELOCK_FAIL c = true
    rw [(State.rxTo_upd ..).flag _ _ _ rfl, State.flag, State.fld_bump_id _ rfl]
    exact State.flag_raise _ rfl rfl ..
  · rw [e (fun x => x.rdN (R .CAX_RX_ACQ_CNT c)) fun _ _ _ => rfl]
    show (((s.raise F.CAX_RX_EVT_RELOCK_FAIL c).bump (R .CAX_RX_ACQ_CNT c)).rxTo c 1).rdN (R .CAX_RX_ACQ_CNT c) = _
    rw [(State.rxTo_upd ..).rdN_of _ _ _ rfl, State.rdN_bump _ _ rfl, State.rdN, State.raise,
      State.rd_setFld_name _ rfl, State.rdN]

/-! ## A write of RX_CTRL -/

/-- RX_EN taken away from a receiver that runs: OFF (R93). -/
theorem State.rxState_rxEval_off {s : State} {c : Nat} (hon : s.carOn c = true) (hen : s.flag F.CAX_RX_CTRL_RX_EN c = false)
    (hst : 1 ≤ s.fld F.CAX_RX_STATUS_RXSTATE c) : (s.rxEval c).fld F.CAX_RX_STATUS_RXSTATE c = 0 := by
  unfold State.rxEval
  extract_lets t st
  have hoff : t.rxOffCause c = true := by
    have e : t.flag F.CAX_RX_CTRL_RX_EN c = false := (s.flag_setFlag_apart rfl ..).trans hen
    simp [State.rxOffCause, e]
  have hst' : st ≠ 0 := by
    have e : st = s.fld F.CAX_RX_STATUS_RXSTATE c := s.fld_setFld_apart rfl ..
    omega
  rw [if_pos hon, if_pos hoff, if_neg hst', State.fld_lineEval _ _ _ _ _ rfl rfl (by decide) (by decide)]
  exact t.rxState_rxOff c

/-- A receiver that runs without an OFF cause only has its CFG cause shown. -/
theorem State.rxEval_runs {s : State} {c : Nat} (hon : s.carOn c = true) (hen : s.flag F.CAX_RX_CTRL_RX_EN c = true)
    (ha : s.asking (4 + c) = false) (hi : s.idleAsked (4 + c) (caxPage c) = false)
    (ht : s.flag F.CAX_TX_STATUS_TEST c = false) (hc : bitOf (s.rd (R .DEV_CFG_APPLIED)) (4 + c) = true)
    (hst : s.fld F.CAX_RX_STATUS_RXSTATE c = 2) : s.rxEval c = s.setFlag F.CAX_RX_STATUS_CFG false c := by
  unfold State.rxEval
  rw [if_pos hon, hc]
  extract_lets t st
  have apart : ∀ (f : Fld) (x : Nat), F.CAX_RX_STATUS_CFG.apart f = true → t.flag f x = s.flag f x := fun f x h =>
    s.flag_setFlag_apart h false c 0 x 0
  have hoff : t.rxOffCause c = false := by
    have cfg : t.flag F.CAX_RX_STATUS_CFG c = false := s.flag_setFlag rfl rfl false c 0
    have idle : t.idleAsked (4 + c) (caxPage c) = false := hi
    have ask : t.asking (4 + c) = false := (congrArg (· == 3) (s.fld_setFld_apart rfl ..)).trans ha
    simp [State.rxOffCause, cfg, idle, ask, apart F.CAX_RX_CTRL_RX_EN c rfl, hen, apart F.CAX_TX_STATUS_TEST c rfl, ht]
  have hst' : st = 2 := (s.fld_setFld_apart rfl ..).trans hst
  rw [if_neg (by simp [hoff]), if_neg (by omega)]
  rfl

/-! ## Timeouts and losses -/

/-- A cold step past the first that runs out starts the sequence again. -/
theorem execAcqTimeout_restarts {s : State} {c : Nat} (hon : s.carOn c = true) (hseq : (s.car c).seq = .cold)
    (h1 : 1 ≤ s.fld F.CAX_RX_STATUS_ACQ_STEP c) (h4 : s.fld F.CAX_RX_STATUS_ACQ_STEP c ≤ 4) :
    execAcqTimeout c s = .next ((s.acqAgain c).lineEval c) := by
  simp only [execAcqTimeout, hon, hseq, decide_true, Bool.and_self, if_true]
  generalize s.fld F.CAX_RX_STATUS_ACQ_STEP c = n at h1 h4
  interval_cases n <;> rfl

/-- A warm step past the first that runs out goes on cold. -/
theorem execRelockFail_fallsBack {s : State} {c : Nat} (hon : s.carOn c = true) (hseq : (s.car c).seq = .warm)
    (h1 : 1 ≤ s.fld F.CAX_RX_STATUS_ACQ_STEP c) (h4 : s.fld F.CAX_RX_STATUS_ACQ_STEP c ≤ 4) :
    execRelockFail c s = .next ((s.fallBack c).lineEval c) := by
  simp only [execRelockFail, hon, hseq, decide_true, Bool.and_self, if_true]
  generalize s.fld F.CAX_RX_STATUS_ACQ_STEP c = n at h1 h4
  interval_cases n <;> rfl

/-- A new mean code leaves the LOS threshold. -/
theorem State.losTh_rmsNew (c rms : Nat) : (s.rmsNew c rms).losTh c = s.losTh c := by
  rw [State.losTh, State.rmsNew, State.fld_modCar, State.fld_setFld_apart _ rfl, State.losTh]

theorem State.clkLock_clkLost (c : Nat) : (s.clkLost c).fld F.CAX_RX_STATUS_CLK_LOCK c = 0 := by
  unfold State.clkLost
  extract_lets t
  split
  · exact State.clkLock_warmStart ..
  · exact State.fld_setFld_lt _ rfl (by decide) ..

theorem State.flag_clkLost (c : Nat) : (s.clkLost c).flag F.CAX_RX_EVT_CLK_LOL c = true := by
  have e : ((s.raise F.CAX_RX_EVT_CLK_LOL c).setFlag F.CAX_RX_STATUS_CLK_LOCK false c).flag F.CAX_RX_EVT_CLK_LOL c = true := by
    rw [State.flag_setFlag_apart _ rfl]
    exact State.flag_raise _ rfl rfl ..
  unfold State.clkLost
  extract_lets t
  split
  · exact ((State.warmTrigger_upd ..).flag _ _ _ rfl).trans e
  · exact e

/-- A write of RX_CTRL taken into the register: the carrier still answers, RX_EN is as written, and the receiver's
state is as it was. -/
theorem State.rxCtrl_taken (c : Nat) (v : W32) :
    (∀ x, ((s.plainWrite (R .CAX_RX_CTRL c) v).storeEval c).carOn x = s.carOn x) ∧
      ((s.plainWrite (R .CAX_RX_CTRL c) v).storeEval c).flag F.CAX_RX_CTRL_RX_EN c = (F.CAX_RX_CTRL_RX_EN.get v == 1) ∧
      ∀ f, f.ok = true → f.reg = .CAX_RX_STATUS → f.lo + f.len ≤ 12 →
        ((s.plainWrite (R .CAX_RX_CTRL c) v).storeEval c).fld f c = s.fld f c := by
  refine ⟨fun x => State.carOn_congr (s := s) (t := (s.plainWrite (R .CAX_RX_CTRL c) v).storeEval c) rfl rfl
    (fun d => ?_) x, ?_, fun f ho hr hd => ?_⟩
  · rw [(State.storeEval_upd ..).fld _ _ _ rfl, State.fld_plainWrite_id _ rfl]
  · rw [(State.storeEval_upd ..).flag _ _ _ rfl, State.flag, State.fld_plainWrite_rw _ rfl]
  · rw [State.fld_storeEval _ _ _ _ _ ho (.inr (.inl hd)), State.fld_plainWrite_id _ (by rw [hr]; rfl)]

/-! ## The commands -/

/-- Settles O4. -/
theorem acquisitionCommandsComplete : Obligations.AcquisitionCommandsComplete := by
  refine ⟨?rxEn, ?acqRestart, ?signal, ?offset, ?dispersion, ?clock, ?orientation, ?acqTimeout, ?relockFail, ?los,
    ?losClear, ?adcClkFault, ?adcClkLock, ?clkLol⟩
  case rxEn =>
    intro s m c v ha hon hen hst hr
    refine Completes.of_guardW ha rfl ?_
    simp only [State.rxCtrlWrite, State.when, hr]
    obtain ⟨on, en, shown⟩ := State.rxCtrl_taken (s.rewritten (R .CAX_RX_CTRL c)) c v
    replace on := on c
    rw [hen] at en
    exact ⟨State.rxState_rxEval_off (on.trans hon) en (hst.trans_eq (shown _ rfl rfl (by decide)).symm),
      ((State.rxEval_upd ..).flag _ _ _ rfl).trans en⟩
  case acqRestart =>
    intro s m c v ha hen hr hst hon hask hidle ht hc
    refine Completes.of_guardW ha rfl ?_
    simp only [State.rxCtrlWrite, State.when, hr]
    obtain ⟨on, en, shown⟩ := State.rxCtrl_taken (s.rewritten (R .CAX_RX_CTRL c)) c v
    replace on := on c
    rw [hen] at en
    set t := ((s.rewritten (R .CAX_RX_CTRL c)).plainWrite (R .CAX_RX_CTRL c) v).storeEval c with htdef
    have apart : ∀ id x, (id == RegId.CAX_RX_CTRL) = false → (id == RegId.CAX_RX_STATUS) = false →
        t.rd (R id x) = s.rd (R id x) := fun id x h h' => by
      rw [htdef, State.storeEval, State.setFlag, State.rd_setFld_name _ h', State.rd_plainWrite_name _ h]; rfl
    have hst' : t.fld F.CAX_RX_STATUS_RXSTATE c = 2 := (shown _ rfl rfl (by decide)).trans hst
    have e : t.rxEval c = t.setFlag F.CAX_RX_STATUS_CFG false c :=
      State.rxEval_runs (on.trans hon) en
        ((congrArg (· == 3) (State.fld_of_rd F.PMU_DOM_STATE (apart .PMU_DOM (4 + c) rfl rfl))).trans hask) hidle
        ((congrArg (· == 1) (State.fld_of_rd F.CAX_TX_STATUS_TEST (apart .CAX_TX_STATUS c rfl rfl))).trans ht)
        ((congrArg (bitOf · (4 + c)) (apart .DEV_CFG_APPLIED 0 rfl rfl)).trans hc) hst'
    have cold : (t.setFlag F.CAX_RX_STATUS_CFG false c).coldTrigger c =
        (t.setFlag F.CAX_RX_STATUS_CFG false c).coldStart c := by
      simp (disch := decide) only [State.coldTrigger, State.setFlag, State.fld_setFld_apart, hst']
      rfl
    simp only [e, beq_self_eq_true, if_true, cold]
    refine ⟨?_, ?_, ?_⟩
    · rw [State.fld_lineEval _ _ _ _ _ rfl rfl (by decide) (by decide), State.rxState_coldStart]
    · rw [(State.lineEval_upd ..).fld _ _ _ rfl, State.expStep_coldStart]
    · rw [(State.lineEval_upd ..).rdN_of _ _ _ rfl, State.acqCnt_coldStart, State.rdN, State.setFlag,
        State.rd_setFld_name _ rfl, apart _ _ rfl rfl, State.rdN]
  case signal =>
    intro s c v hon hseq hst hv
    refine Completes.of_if rfl hon ?_
    have hth : ¬ v.toNat < (s.rmsNew c v.toNat).losTh c := by
      rw [State.losTh_rmsNew]
      exact not_lt.mpr hv
    simp only [State.acqStep, hseq, State.coldStep, hst, hth, reduceCtorEq, if_false]
    rw [State.flag_lineEval _ _ _ _ _ rfl rfl (by decide) (by decide), State.stepDone,
      State.flag_setFld_apart _ rfl]
    exact State.flag_setFlag _ rfl rfl true c 0
  case offset =>
    intro s c v hon hseq hst hv
    refine Completes.of_if rfl hon ?_
    simp only [State.acqStep, hseq, State.coldStep, hst, hv, reduceCtorEq, if_false, if_true]
    rw [State.flag_lineEval _ _ _ _ _ rfl rfl (by decide) (by decide), (State.lineEval_upd ..).flag _ _ _ rfl,
      (State.lineEval_upd ..).fld _ _ _ rfl]
    exact s.fofsFound_shows c v
  case dispersion =>
    intro s c v hon hseq hst hv
    refine Completes.of_if rfl hon ?_
    simp only [State.acqStep, hseq, State.coldStep, hst, hv, reduceCtorEq, if_false, if_true]
    rw [(State.lineEval_upd ..).flag _ _ _ rfl]
    exact s.cdValid_cdFound c v
  case clock =>
    intro s c v hon hseq hst hv
    refine Completes.of_if rfl hon ?_
    simp only [State.acqStep, hseq, State.coldStep, hst, hv, reduceCtorEq, if_false, if_true]
    rw [State.flag_lineEval _ _ _ _ _ rfl rfl (by decide) (by decide), (State.lineEval_upd ..).rdN_of _ _ _ rfl]
    exact s.clkFound_shows c v
  case orientation =>
    intro s c hon hseq hst hm
    refine Completes.of_if rfl hon ?_
    simp only [State.acqStep, hseq, State.coldStep, hst, State.orientFound, hm, reduceCtorEq, if_false, if_true]
    refine ⟨?_, State.flag_lineEval_event _ _ _ _ _ rfl rfl rfl (State.flag_raise _ rfl rfl ..)⟩
    rw [State.flag_lineEval _ _ _ _ _ rfl rfl (by decide) (by decide), State.flag, State.raise,
      State.fld_setFld_apart _ rfl]
    exact s.flag_setFlag rfl rfl true c 0
  case acqTimeout =>
    intro s c hon hseq h1 h4
    refine Completes.of_exec (execAcqTimeout_restarts hon hseq h1 h4) ?_
    rw [State.fld_lineEval _ _ _ _ _ rfl rfl (by decide) (by decide),
      (State.lineEval_upd ..).rdN_of _ _ _ rfl]
    obtain ⟨state, event, count⟩ := s.acqAgain_shows c
    exact ⟨state, State.flag_lineEval_event _ _ _ _ _ rfl rfl rfl event, count⟩
  case relockFail =>
    intro s c hon hseq h1 h4
    refine Completes.of_exec (execRelockFail_fallsBack hon hseq h1 h4) ?_
    rw [State.fld_lineEval _ _ _ _ _ rfl rfl (by decide) (by decide),
      (State.lineEval_upd ..).rdN_of _ _ _ rfl]
    obtain ⟨state, event, count⟩ := s.fallBack_shows c
    exact ⟨state, State.flag_lineEval_event _ _ _ _ _ rfl rfl rfl event, count⟩
  case los =>
    intro s c rms hon hst hr
    refine Completes.of_if rfl hon ?_
    have hth : rms < (s.rmsNew c rms).losTh c := by
      rw [State.losTh_rmsNew]; exact hr
    have hst' : (s.rmsNew c rms).fld F.CAX_RX_STATUS_RXSTATE c = 2 := ((State.rmsNew_upd ..).fld _ _ _ rfl).trans hst
    simp only [hth, hst', decide_true, Nat.reduceBNe, Bool.and_self, if_true]
    rw [State.fld_lineEval _ _ _ _ _ rfl rfl (by decide) (by decide), (State.lineEval_upd ..).rdN_of _ _ _ rfl]
    obtain ⟨state, event, count⟩ := (s.rmsNew c rms).losEnter_shows c
    exact ⟨state, State.flag_lineEval_event _ _ _ _ _ rfl rfl rfl event,
      count.trans (by rw [(State.rmsNew_upd ..).rdN_of _ _ _ rfl])⟩
  case losClear =>
    intro s c rms hon hst hf hr
    refine Completes.of_if rfl hon ?_
    have hst' : (s.rmsNew c rms).fld F.CAX_RX_STATUS_RXSTATE c = 4 := ((State.rmsNew_upd ..).fld _ _ _ rfl).trans hst
    have hf' : ((s.rmsNew c rms).car c).adcFault = false := by
      rw [State.rmsNew, State.car_modCar]; exact hf
    have hy : (s.rmsNew c rms).fld F.CAX_RX_LOS_CFG_LOS_HYST c = s.fld F.CAX_RX_LOS_CFG_LOS_HYST c :=
      s.fld_setFld_apart rfl ..
    have hr' : s.losTh c + s.fld F.CAX_RX_LOS_CFG_LOS_HYST c ≤ rms := hr
    simp only [hst', hf', hy, State.losTh_rmsNew, hr', decide_true, beq_self_eq_true, Bool.not_false, Bool.and_self,
      if_true]
    refine ⟨?_, State.flag_lineEval_event _ _ _ _ _ rfl rfl rfl ?_⟩
    · rw [State.flag_lineEval _ _ _ _ _ rfl rfl (by decide) (by decide), State.flag, State.sig_warmStart,
        State.fld_storeEval _ _ _ _ _ rfl (by decide), State.raise, State.fld_setFld_apart _ rfl]
      exact State.flag_setFlag _ rfl rfl true c 0
    · rw [(State.warmStart_upd ..).flag _ _ _ rfl, (State.storeEval_upd ..).flag _ _ _ rfl]
      exact State.flag_raise _ rfl rfl ..
  case adcClkFault =>
    intro s c hon hst
    refine Completes.of_if rfl hon ?_
    simp only [hst, State.when, Nat.reduceBNe, Bool.and_self, if_true]
    set t := (s.modCar c fun k => { k with adcFault := true }).raise F.CAX_RX_EVT_ADC_CLK_FAULT c
    refine ⟨?_, ?_⟩
    · rw [(State.detect_upd ..).fld _ _ _ rfl, State.fld_lineEval _ _ _ _ _ rfl rfl (by decide) (by decide)]
      exact (t.losEnter_shows c).1
    · rw [(State.detect_upd ..).flag _ _ _ rfl]
      refine State.flag_lineEval_event _ _ _ _ _ rfl rfl rfl ?_
      rw [State.losEnter, State.flag, State.fld_bump_id _ rfl, State.raise, State.fld_setFld_apart _ rfl,
        (State.rxDown_upd ..).fld _ _ _ rfl, (State.keepSnap_upd ..).fld _ _ _ rfl]
      exact State.flag_raise _ rfl rfl ..
  case adcClkLock =>
    intro s c hon hi
    refine Completes.of_if rfl (by simp [hon, hi]) ?_
    rw [State.car_modCar]
  case clkLol =>
    intro s c hon hl
    refine Completes.of_if rfl (by simp [hon, hl]) ⟨?_, State.flag_lineEval_event _ _ _ _ _ rfl rfl rfl ?_⟩
    · rw [State.flag_lineEval _ _ _ _ _ rfl rfl (by decide) (by decide), State.flag, State.clkLock_clkLost]
      rfl
    · exact State.flag_clkLost ..

end Sys2Proof.Machine
end

section
/-! A receiver's locks, degradations, measurements and snapshots (spec/04, R73 to R92): O5. -/

namespace Sys2Proof.Machine

variable (s : State)

/-! ## A subcarrier's change of state -/

/-- A subcarrier that changes is in the state named. -/
theorem State.scState_scTo (i st : Nat) (h : st < 8) : (s.scTo i st).fld F.SCX_RX_STATUS_SCSTATE i = st := by
  unfold State.scTo
  extract_lets old s1 s2 s3 s4 c m
  have e1 : s1.fld F.SCX_RX_STATUS_SCSTATE i = st := s.fld_setFld_lt rfl h i 0
  have e2 : s2.fld F.SCX_RX_STATUS_SCSTATE i = st := (s1.fld_when_raise _ _ _ i i 0 (s1.fld_setFld_apart rfl ..)).trans e1
  have e3 : s3.fld F.SCX_RX_STATUS_SCSTATE i = st :=
    (s2.fld_when _ (fun s => (s.raise F.SCX_RX_EVT_LOST i).decStop i) _ i 0
      (((State.decStop_upd ..).fld _ _ _ rfl).trans (s2.fld_setFld_apart rfl ..))).trans e2
  have e4 : s4.fld F.SCX_RX_STATUS_SCSTATE i = st := (s3.fld_when_raise _ _ _ i i 0 (s3.fld_setFld_apart rfl ..)).trans e3
  split
  · assumption
  · split
    · exact ((State.pccPend_upd ..).fld _ _ _ rfl).trans ((s4.fld_setFld_apart rfl ..).trans e4)
    · exact e4

/-- An event of a subcarrier that is set stays set when a subcarrier changes its state. -/
theorem State.flag_scTo_event (j st : Nat) {f : Fld} (i : Nat) (ho : f.ok = true) (hr : f.reg = .SCX_RX_EVT)
    (hl : f.len = 1) (h : s.flag f i = true) : (s.scTo j st).flag f i = true := by
  have hb : ∀ g : Fld, g.reg ≠ .SCX_RX_EVT → g.apart f = true := fun g hg => by
    simp only [Fld.apart, hr, hg, ne_eq, not_false_eq_true, decide_true, Bool.true_or]
  have up : ∀ (t : State) (g : Fld), g.ok = true → g.len = 1 → t.fld f i = 1 → (t.raise g j).fld f i = 1 :=
    fun t g hg hlg ht => t.fld_raise_of_set f g i 0 j 0 ho hg hl hlg ht
  unfold State.scTo
  extract_lets old s1 s2 s3 s4 c m
  have e1 : s1.fld f i = 1 := (s.fld_setFld_apart (hb _ (by decide)) ..).trans (beq_iff_eq.mp h)
  have e2 : s2.fld f i = 1 := s1.when_holds (fun t => t.fld f i = 1) _ _ e1 (up s1 _ rfl rfl)
  have e3 : s3.fld f i = 1 := s2.when_holds (fun t => t.fld f i = 1) _ _ e2 fun ht =>
    ((State.decStop_upd ..).fld _ _ _ (by rw [hr]; rfl)).trans (up s2 _ rfl rfl ht)
  have e4 : s4.fld f i = 1 := s3.when_holds (fun t => t.fld f i = 1) _ _ e3 (up s3 _ rfl rfl)
  split
  · exact h
  · split
    · exact beq_iff_eq.mpr (((State.pccPend_upd ..).fld _ _ _ (by rw [hr]; rfl)).trans
        ((s4.fld_setFld_apart (hb _ (by decide)) ..).trans e4))
    · exact beq_iff_eq.mpr e4

/-- A subcarrier that leaves LOCKED raises LOST and leaves the carrier's mask of locked subcarriers. -/
theorem State.scTo_lost {i st : Nat} (h : s.fld F.SCX_RX_STATUS_SCSTATE i = 2) (hst : st ≠ 2) :
    (s.scTo i st).flag F.SCX_RX_EVT_LOST i = true ∧ (s.scTo i st).fld F.CAX_RX_STATUS_SC_LOCKED (scCar i) =
      s.fld F.CAX_RX_STATUS_SC_LOCKED (scCar i) &&& (255 - 2 ^ (i % 8)) := by
  unfold State.scTo
  extract_lets old s1 s2 s3 s4 c m
  have hold : old = 2 := h
  have e3 : s3 = (s2.raise F.SCX_RX_EVT_LOST i).decStop i := by simp only [s3, State.when, hold, beq_self_eq_true, if_true]
  have lost : s4.fld F.SCX_RX_EVT_LOST i = 1 := s3.when_holds (fun t => t.fld F.SCX_RX_EVT_LOST i = 1) _ _
    (by rw [e3, (State.decStop_upd ..).fld _ _ _ rfl]; exact beq_iff_eq.mp (State.flag_raise _ rfl rfl ..))
    (s3.fld_raise_of_set _ _ i 0 i 0 rfl rfl rfl rfl)
  have mask : s4.fld F.CAX_RX_STATUS_SC_LOCKED c = s.fld F.CAX_RX_STATUS_SC_LOCKED c := by
    refine (s3.fld_when_raise _ _ _ i c 0 (s3.fld_setFld_apart rfl ..)).trans ?_
    rw [e3, (State.decStop_upd ..).fld _ _ _ rfl, State.raise, State.fld_setFld_apart _ rfl]
    exact (s1.fld_when_raise _ _ _ i c 0 (s1.fld_setFld_apart rfl ..)).trans (s.fld_setFld_apart rfl ..)
  have hne : (st == 2) = false := beq_eq_false_iff_ne.mpr hst
  simp only [hst.symm, hne, hold, beq_self_eq_true, Bool.or_true, if_true, if_false, Bool.false_eq_true]
  refine ⟨?_, ?_⟩
  · rw [(State.pccPend_upd ..).flag _ _ _ rfl, State.flag_setFld_apart _ rfl]
    exact beq_iff_eq.mpr lost
  · rw [(State.pccPend_upd ..).fld _ _ _ rfl, State.fld_setFld_lt _ rfl (lt_of_le_of_lt Nat.and_le_left (State.fld_lt ..))]
    exact congrArg (· &&& _) mask

/-- A subcarrier that locks raises LOCKED. -/
theorem State.scTo_locked {i : Nat} (h : s.fld F.SCX_RX_STATUS_SCSTATE i ≠ 2) :
    (s.scTo i 2).flag F.SCX_RX_EVT_LOCKED i = true := by
  unfold State.scTo
  extract_lets old s1 s2 s3 s4 c m
  have e2 : s2.fld F.SCX_RX_EVT_LOCKED i = 1 := beq_iff_eq.mp (State.flag_raise s1 rfl rfl i 0)
  have e3 : s3.fld F.SCX_RX_EVT_LOCKED i = 1 := s2.when_holds (fun t => t.fld F.SCX_RX_EVT_LOCKED i = 1) _ _ e2 fun ht =>
    ((State.decStop_upd ..).fld _ _ _ rfl).trans (s2.fld_raise_of_set _ _ i 0 i 0 rfl rfl rfl rfl ht)
  have e4 : s4.fld F.SCX_RX_EVT_LOCKED i = 1 := s3.when_holds (fun t => t.fld F.SCX_RX_EVT_LOCKED i = 1) _ _ e3
    (s3.fld_raise_of_set _ _ i 0 i 0 rfl rfl rfl rfl)
  rw [if_neg h, beq_self_eq_true, Bool.true_or, if_pos rfl, (State.pccPend_upd ..).flag _ _ _ rfl,
    State.flag_setFld_apart _ rfl]
  exact beq_iff_eq.mpr e4

/-! ## The subcarriers behind the line frame -/

/-- The line frame takes no subcarrier that was served to another state. -/
theorem State.scState_lineEval (c i : Nat) (h : 2 ≤ s.fld F.SCX_RX_STATUS_SCSTATE i) :
    (s.lineEval c).fld F.SCX_RX_STATUS_SCSTATE i = s.fld F.SCX_RX_STATUS_SCSTATE i := by
  have next : ∀ l, (s.searchNext c l).fld F.SCX_RX_STATUS_SCSTATE i = s.fld F.SCX_RX_STATUS_SCSTATE i := by
    intro l
    unfold State.searchNext
    split
    · next j hj =>
      have hne : j ≠ i := by
        rintro rfl
        have hu := List.find?_some hj
        simp only [State.unserved, Bool.and_eq_true, decide_eq_true_eq] at hu
        omega
      exact s.fld_scTo_other j i 1 hne
    · rfl
  have search : (s.searchEval c).fld F.SCX_RX_STATUS_SCSTATE i = s.fld F.SCX_RX_STATUS_SCSTATE i := by
    unfold State.searchEval
    split
    · rfl
    · split
      · split
        · rfl
        · exact next _
      · exact next _
  unfold State.lineEval
  extract_lets t u
  rw [State.fld_when _ _ _ _ _ _ ((State.grpsEval_upd _).fld _ _ _ rfl), (State.acqCheck_upd ..).fld _ _ _ rfl]
  refine (t.fld_when _ (fun s => ((s.each (scsOf c) State.sigEval).each (scsOf c) State.sfEval).srcEval c) _ i 0 ?_).trans
    search
  rw [(State.srcEval_upd ..).fld _ _ _ rfl]
  exact (State.each_keeps _ (fun x => x.fld F.SCX_RX_STATUS_SCSTATE i) _ (fun j x => (State.sfEval_upd j x).fld _ _ _ rfl)
    _).trans (State.each_keeps _ (fun x => x.fld F.SCX_RX_STATUS_SCSTATE i) _
      (fun j x => (State.sigEval_upd j x).fld _ _ _ rfl) _)

/-- An event of a subcarrier that is set stays set when the line frame follows. -/
theorem State.flag_lineEval_scEvent (c : Nat) {f : Fld} (i : Nat) (ho : f.ok = true) (hr : f.reg = .SCX_RX_EVT)
    (hl : f.len = 1) (h : s.flag f i = true) : (s.lineEval c).flag f i = true := by
  have next : ∀ l, (s.searchNext c l).flag f i = true := by
    intro l
    unfold State.searchNext
    split
    · next j hj => exact s.flag_scTo_event j 1 i ho hr hl h
    · exact h
  have search : (s.searchEval c).flag f i = true := by
    unfold State.searchEval
    split
    · exact h
    · split
      · split
        · exact h
        · exact next _
      · exact next _
  unfold State.lineEval
  extract_lets t u
  have keeps : ∀ {w : Nat} {x y : State}, Upd w x y → w.testBit (RegId.SCX_RX_EVT).ctorIdx = false →
      y.flag f i = x.flag f i := fun hu hb => hu.flag f i 0 (by rw [hr]; exact hb)
  refine State.when_holds _ (fun x => x.flag f i = true) _ _ ((keeps (State.acqCheck_upd ..) rfl).trans ?_) fun hx =>
    (keeps (State.grpsEval_upd ..) rfl).trans hx
  refine t.when_holds (fun x => x.flag f i = true) _ _ search fun hx => (keeps (State.srcEval_upd ..) rfl).trans ?_
  exact ((State.each_keeps _ (fun x => x.flag f i) _ (fun j x => keeps (State.sfEval_upd j x) rfl) _).trans
    (State.each_keeps _ (fun x => x.flag f i) _ (fun j x => keeps (State.sigEval_upd j x) rfl) _)).trans hx

/-! ## The measurements behind a loss check -/

/-- A warm relock leaves the frequency offset, its validity apart. -/
theorem State.ofs_lossCheck (c : Nat) (had : Bool) (x : Nat) :
    (s.lossCheck c had).fld F.CAX_RX_FOFS_OFS x = s.fld F.CAX_RX_FOFS_OFS x := by
  have locks : ∀ t : State, (t.locksClear c).fld F.CAX_RX_FOFS_OFS x = t.fld F.CAX_RX_FOFS_OFS x := fun t => by
    rw [State.locksClear, (State.cdClear_upd ..).fld _ _ _ rfl]
    simp (disch := decide) only [State.setFlag, State.fld_setFld_apart]
  have cold : ∀ t : State, (t.coldStart c).fld F.CAX_RX_FOFS_OFS x = t.fld F.CAX_RX_FOFS_OFS x := fun t => by
    simp (disch := decide) only [State.coldStart, State.fld_modCar, (State.scsIdle_upd ..).fld, State.fld_bump_id,
      State.setFlag, State.fld_setFld_apart, (State.rxTo_upd ..).fld, locks]
  have warm : ∀ t : State, (t.warmStart c).fld F.CAX_RX_FOFS_OFS x = t.fld F.CAX_RX_FOFS_OFS x := fun t => by
    unfold State.warmStart
    split
    · simp (disch := decide) only [State.fld_modCar, (State.scsIdle_upd ..).fld, State.setFlag, State.fld_setFld_apart,
        (State.rxTo_upd ..).fld, locks]
    · exact cold t
  unfold State.lossCheck
  split
  · rw [State.warmTrigger, warm, (State.keepSnap_upd ..).fld _ _ _ rfl]
  · rfl

/-- A tracked frequency offset is shown. -/
theorem State.ofs_fofsNew (c : Nat) (v : Int) : (s.fofsNew c v).fld F.CAX_RX_FOFS_OFS c = unsigned 16 v :=
  State.when_holds _ (fun t => t.fld F.CAX_RX_FOFS_OFS c = unsigned 16 v) _ _
    (s.fld_setFld_lt rfl (unsigned_lt 16 v) ..) fun h => (State.fld_setFld_apart _ rfl ..).trans h

/-- A symbol-rate offset within range writes CLK_OFS alone. -/
theorem State.fld_clkMeas (c : Nat) {v : Int} (h : v.natAbs ≤ 1000000000) (f : Fld) (i : Nat)
    (hf : (f.reg == RegId.CAX_RX_CLK_OFS) = false) : (s.clkMeas c v).fld f i = s.fld f i := by
  unfold State.clkMeas
  rw [if_pos h]
  split
  · rfl
  · exact s.fld_wrN_id hf ..

/-- The millisecond's measurements of a LOCKED carrier show its frequency offset and leave its mean code, whatever
becomes of its subcarriers. -/
theorem State.losing_track (c : Nat) (x : RxMeas) :
    (s.losing c (State.track c x)).fld F.CAX_RX_FOFS_OFS c = unsigned 16 x.fofs ∧
      (s.losing c (State.track c x)).fld F.CAX_RX_LOS_CFG_RMS c = s.fld F.CAX_RX_LOS_CFG_RMS c := by
  have run : ∀ (u : State) (f : Fld), (∀ i y, (State.scMeas x i y).fld f c = y.fld f c) →
      (u.each (scsOf c) (State.scMeas x)).fld f c = u.fld f c := fun u f h => State.each_keeps u (fun u => u.fld f c) _ h _
  unfold State.losing State.track
  refine ⟨?_, ?_⟩
  · rw [(State.lineEval_upd ..).fld _ _ _ rfl, State.ofs_lossCheck, (State.snapTake_upd ..).fld _ _ _ rfl,
      run _ _ fun i y => (State.scMeas_upd x i y).fld _ _ _ rfl, (State.cdNew_upd ..).fld _ _ _ rfl, State.ofs_fofsNew]
  · rw [(State.lineEval_upd ..).fld _ _ _ rfl, (State.lossCheck_upd ..).fld _ _ _ rfl,
      (State.snapTake_upd ..).fld _ _ _ rfl, run _ _ fun i y => (State.scMeas_upd x i y).fld _ _ _ rfl,
      (State.cdNew_upd ..).fld _ _ _ rfl, (State.fofsNew_upd ..).fld _ _ _ rfl]

/-- A subcarrier's record after a change of its sums. -/
theorem State.sc_fecAdd (i : Nat) (g : FecAcc → FecAcc) : (s.fecAdd i g).sc i =
    if s.sec ≤ (s.sc i).fecSec then { s.sc i with fecCur := g (s.sc i).fecCur }
    else { s.sc i with fecNext := g (s.sc i).fecNext } := s.sc_modSc i _

theorem State.calLane_modCalLane (c l : Nat) (g : CalLane → CalLane) :
    (s.modCalLane c l g).calLane c l = g (s.calLane c l) := by
  simp only [State.calLane, State.calCar, State.modCalLane, State.modCalCar, State.modCal, NTab.get_mod_same]

/-! ## The commands -/

/-- A subcarrier in RECONV that locks counts a reconvergence (R92). -/
theorem completes_scLocked_reconverged {s : State} {i : Nat} (hon : s.carOn (scCar i) = true)
    (hrx : s.fld F.CAX_RX_STATUS_RXSTATE (scCar i) = 2) (hst : s.fld F.SCX_RX_STATUS_SCSTATE i = 3) :
    Completes (.scLocked i) s fun t => t.fld F.SCX_RX_STATUS_SCSTATE i = 2 ∧ t.flag F.SCX_RX_EVT_LOCKED i = true ∧
      t.rdN (R .SCX_RX_RECONV_CNT i) = min (s.rdN (R .SCX_RX_RECONV_CNT i) + 1) 0xFFFFFFFF := by
  refine Completes.of_if rfl (by simp [hon, hrx, hst]) ?_
  simp only [hst, hrx, State.when, beq_self_eq_true, bne_self_eq_false, if_true, Bool.false_eq_true, if_false]
  refine ⟨?_, State.flag_lineEval_scEvent _ _ _ rfl rfl rfl ?_, ?_⟩
  · have state : ((s.scTo i 2).bump (R .SCX_RX_RECONV_CNT i)).fld F.SCX_RX_STATUS_SCSTATE i = 2 :=
      (State.fld_bump_id _ rfl ..).trans (s.scState_scTo i 2 (by decide))
    refine (State.scState_lineEval _ _ _ ?_).trans (((State.count_upd ..).fld _ _ _ rfl).trans state)
    rw [(State.count_upd ..).fld _ _ _ rfl]
    exact state.ge
  · rw [(State.count_upd ..).flag _ _ _ rfl, State.flag, State.fld_bump_id _ rfl]
    exact s.scTo_locked (hst.trans_ne (by decide))
  · rw [(State.lineEval_upd ..).rdN_of _ _ _ rfl, (State.count_upd ..).rdN_of _ _ _ rfl, State.rdN_bump _ _ rfl]
    exact congrArg (fun n => min (n + 1) 0xFFFFFFFF) ((State.scTo_upd ..).rdN_of _ _ _ rfl)

/-- The subcarrier that the pilot search is at locks, and its carrier with it (R85, R89). -/
theorem completes_scLocked_found {s : State} {i : Nat} {w : Bool} (hon : s.carOn (scCar i) = true)
    (h1 : 1 ≤ s.fld F.CAX_RX_STATUS_RXSTATE (scCar i)) (h3 : s.fld F.CAX_RX_STATUS_RXSTATE (scCar i) ≤ 3)
    (hst : s.fld F.SCX_RX_STATUS_SCSTATE i = 1) (hsearch : s.searches (scCar i) = true)
    (hw : (s.car (scCar i)).search = some (i, w)) :
    Completes (.scLocked i) s fun t => t.fld F.SCX_RX_STATUS_SCSTATE i = 2 ∧ t.flag F.SCX_RX_EVT_LOCKED i = true ∧
      t.fld F.CAX_RX_STATUS_RXSTATE (scCar i) = 2 := by
  refine Completes.of_if rfl (by simp [hon, h1, h3, hst, hsearch, hw]) ?_
  simp only [hst, State.when, Nat.reduceBEq, Bool.false_eq_true, if_false]
  have state := s.scState_scTo i 2 (by decide)
  have locked := s.scTo_locked (i := i) (hst.trans_ne (by decide))
  have rx : (s.scTo i 2).fld F.CAX_RX_STATUS_RXSTATE (scCar i) = s.fld F.CAX_RX_STATUS_RXSTATE (scCar i) :=
    s.fld_scTo i 2 _ _ _ rfl rfl (by decide)
  have line : ∀ u : State, u.fld F.SCX_RX_STATUS_SCSTATE i = 2 → u.flag F.SCX_RX_EVT_LOCKED i = true →
      u.fld F.CAX_RX_STATUS_RXSTATE (scCar i) = 2 → (u.lineEval (scCar i)).fld F.SCX_RX_STATUS_SCSTATE i = 2 ∧
      (u.lineEval (scCar i)).flag F.SCX_RX_EVT_LOCKED i = true ∧
      (u.lineEval (scCar i)).fld F.CAX_RX_STATUS_RXSTATE (scCar i) = 2 := fun u hs hl hr =>
    ⟨(u.scState_lineEval _ _ hs.ge).trans hs, u.flag_lineEval_scEvent _ _ rfl rfl rfl hl,
      (u.fld_lineEval _ _ _ _ rfl rfl (by decide) (by decide)).trans hr⟩
  refine line _ ?_ ?_ ?_
  all_goals split
  · rw [State.stepDone, State.fld_setFld_apart _ rfl, State.raise, State.fld_setFld_apart _ rfl,
      (State.rxTo_upd ..).fld _ _ _ rfl]
    exact state
  · exact state
  · rw [State.stepDone, State.flag_setFld_apart _ rfl, State.flag_raise_apart _ rfl, (State.rxTo_upd ..).flag _ _ _ rfl]
    exact locked
  · exact locked
  · rw [State.stepDone, State.fld_setFld_apart _ rfl, State.raise, State.fld_setFld_apart _ rfl, State.fld_rxTo_same]
  · next hrx => exact rx.trans (by simpa using hrx)

/-- Settles O5. -/
theorem receiverMeasurementCommandsComplete : Obligations.ReceiverMeasurementCommandsComplete := by
  refine ⟨?scLost, ?reconvTimeout, ?reconverged, ?searched, ?degSet, ?degClear, ?sopTransient, ?slip, ?fofsRange,
    ?boostMismatch, ?shapeOff, ?shapeLocked, ?snapshot, ?storeExpired, ?cdFine, ?sliceSwap, ?adcClip⟩
  case scLost =>
    intro s i hon hst hothers
    refine Completes.of_if rfl (by simp [hon, hst]) ?_
    obtain ⟨lost, mask⟩ := s.scTo_lost hst (st := 3) (by decide)
    have still : ((s.scTo i 3).modSc i fun x => { x with eq := s.snapEq i }).hasLock (scCar i) = true := by
      rw [State.hasLock, State.fld_modSc, mask]
      exact bne_iff_ne.mpr hothers
    simp only [State.losing, State.lossCheck, still, Bool.not_true, Bool.and_false, Bool.false_eq_true, if_false]
    have state := s.scState_scTo i 3 (by decide)
    refine ⟨State.flag_lineEval_scEvent _ _ _ rfl rfl rfl lost, ?_⟩
    rw [State.scState_lineEval _ _ _ (by rw [State.fld_modSc, state]; decide)]
    exact state
  case reconvTimeout =>
    intro s i hon hst
    refine Completes.of_if rfl (by simp [hon, hst]) ?_
    rw [State.sc_modSc]
  case reconverged =>
    intro s i hon hrx hst
    exact completes_scLocked_reconverged hon hrx hst
  case searched =>
    intro s i w hon h1 h3 hst hsearch hw
    exact completes_scLocked_found hon h1 h3 hst hsearch hw
  case degSet =>
    intro s i hon hth hdeg
    refine Completes.of_if rfl (by simp [hon, hdeg]; omega) ⟨?_, State.flag_raise _ rfl rfl ..⟩
    rw [State.flag_raise_apart _ rfl]
    exact s.flag_setFlag rfl rfl ..
  case degClear =>
    intro s i hon hdeg
    refine Completes.of_if rfl (by simp [hon, hdeg]) ⟨?_, State.flag_raise _ rfl rfl ..⟩
    rw [State.flag_raise_apart _ rfl]
    exact s.flag_setFlag rfl rfl ..
  case sopTransient =>
    intro s i rate hon hr
    refine Completes.of_if rfl (by simp [hon, hr]) ?_
    simp only [State.sopNew, State.when, hr, decide_true, if_true]
    refine ⟨State.flag_raise _ rfl rfl .., ?_⟩
    rw [State.sc_raise, State.sc_fecAdd]
    split <;> rfl
  case slip =>
    intro s i hon hst
    have hd : s.domOn (4 + scCar i) = true := by
      simp only [State.carOn, Bool.and_eq_true] at hon
      exact hon.1.2
    refine Completes.of_if rfl (by simp [hon, State.scLocked, hd, hst]) ⟨?_, ?_⟩
    · rw [(State.count_upd ..).flag _ _ _ rfl]
      exact State.flag_raise _ rfl rfl ..
    · rw [(State.count_upd ..).rdN_of _ _ _ rfl, State.rdN, State.raise, State.rd_setFld_name _ rfl]
      exact s.rdN_bump _ rfl
  case fofsRange =>
    intro s c v hon hst hv
    refine Completes.of_if rfl (by simp [hon, hst]) ⟨?_, State.ofs_fofsNew ..⟩
    have far : (decide (3800 < v.natAbs) || decide (100 < (v - signed 16 (s.fld F.CAX_RX_FOFS_OFS c)).natAbs)) = true := by
      simpa using hv
    simp only [State.fofsNew, State.when, far, if_true]
    exact State.flag_raise _ rfl rfl ..
  case boostMismatch =>
    intro s c meas hon hst hm hlt hne
    refine Completes.of_if rfl (by simp [hon, hst, hm]) ?_
    have e : (s.setFld F.CAX_RX_SHAPE_BOOST_MEAS meas c).fld F.CAX_RX_SHAPE_BOOST_MEAS c = meas :=
      s.fld_setFld_lt rfl hlt ..
    simp only [State.when, e, State.setFld_cars, State.car] at hne ⊢
    simp only [bne_iff_ne.mpr hne, if_true]
    exact ⟨State.flag_raise _ rfl rfl .., (State.fld_setFld_apart _ rfl ..).trans e⟩
  case shapeOff =>
    intro s m c v ha hst hflip
    refine Completes.of_guardW ha rfl ?_
    have e : ((s.rewritten (R .CAX_RX_SHAPE c)).plainWrite (R .CAX_RX_SHAPE c) v).fld F.CAX_RX_STATUS_RXSTATE c = 0 :=
      (State.fld_plainWrite_id _ rfl ..).trans hst
    simp only [State.rxShapeWrite, State.fld_rewritten, hflip, bne_self_eq_false, State.when, Bool.false_eq_true, if_false, e,
      OfNat.zero_ne_ofNat]
    rw [State.rxShapeIn, State.fld_setFld_lt _ rfl ((Nat.min_le_right ..).trans_lt (by decide)), State.fld_plainWrite_rw _ rfl]
  case shapeLocked =>
    intro s m c v ha hst hflip
    refine Completes.of_guardW ha rfl ?_
    have e : ((s.rewritten (R .CAX_RX_SHAPE c)).plainWrite (R .CAX_RX_SHAPE c) v).fld F.CAX_RX_STATUS_RXSTATE c = 2 :=
      (State.fld_plainWrite_id _ rfl ..).trans hst
    simp only [State.rxShapeWrite, State.fld_rewritten, hflip, bne_self_eq_false, State.when, Bool.false_eq_true, if_false, e, if_true]
    rw [State.fld_modCar, State.car_modCar]
    exact ⟨State.fld_plainWrite_ro (s.rewritten (R .CAX_RX_SHAPE c)) F.CAX_RX_SHAPE_ROLLOFF_ACT v c 0 rfl rfl rfl rfl, rfl⟩
  case snapshot =>
    intro s c x hon hst hrms hclk
    refine Completes.of_if rfl (by simp [hon, hst]) ?_
    have hth : ¬ x.rms < (s.rmsNew c x.rms).losTh c := by
      rw [State.losTh_rmsNew]
      exact not_lt.mpr hrms
    have hst' : ((s.rmsNew c x.rms).clkMeas c x.clk).fld F.CAX_RX_STATUS_RXSTATE c = 2 := by
      rw [State.fld_clkMeas _ _ hclk _ _ rfl, (State.rmsNew_upd ..).fld _ _ _ rfl, hst]
    simp only [hth, hst', if_true, if_false]
    obtain ⟨ofs, rms⟩ := State.losing_track ((s.rmsNew c x.rms).clkMeas c x.clk) c x
    refine ⟨ofs, rms.trans ?_⟩
    rw [State.fld_clkMeas _ _ hclk _ _ rfl]
    exact s.fld_setFld_lt rfl ((Nat.min_le_right ..).trans_lt (by decide)) ..
  case storeExpired =>
    intro s c hon hst
    refine Completes.of_if rfl (by simp [hon, hst]) ?_
    have none : (s.modCar c fun k => { k with snaps := [] }).snapOk c = none := by
      rw [State.snapOk, State.car_modCar]; rfl
    refine ⟨?_, ?_⟩
    · exact congrArg Carrier.snaps (s.car_modCar c fun k => { k with snaps := [] })
    · rw [State.storeEval, none]
      exact State.flag_setFlag _ rfl rfl ..
  case cdFine =>
    intro s c hon hst hv
    exact Completes.of_if rfl (by simp [hon, hst, hv]) (State.flag_setFlag _ rfl rfl ..)
  case sliceSwap =>
    intro s c l n since hon hl hw hmay
    refine Completes.of_exec (t := ((s.setFld F.CAX_RX_ILV_STATUS_SWAP_CNT (s.fld F.CAX_RX_ILV_STATUS_SWAP_CNT c l + 1) c l).count
      0x048 c 1).sliceOut c l n) (by
        simp only [exec, execSliceSwap, hw, hon, hl, hmay, decide_true, beq_self_eq_true, Bool.and_self, if_true]) ?_
    rw [State.sliceOut]
    refine ⟨State.fld_setFld _ _ _ _ _ rfl, ?_, ?_⟩
    · rw [State.fld_setFld_apart _ rfl]
      exact ((State.count_upd ..).fld F.CAX_RX_ILV_STATUS_SWAP_CNT c l rfl).trans (State.fld_setFld _ _ _ _ _ rfl)
    · set t := (s.setFld F.CAX_RX_ILV_STATUS_SWAP_CNT (s.fld F.CAX_RX_ILV_STATUS_SWAP_CNT c l + 1) c l).count 0x048 c 1
      have e : ((t.modCalLane c l fun k => { k with cur := some n, want := none }).setFld F.CAX_RX_ILV_STATUS_SLICE n c l).calLane c l
          = _ := t.calLane_modCalLane c l _
      rw [e]
      exact ⟨rfl, rfl⟩
  case adcClip =>
    intro s c l hon hl
    refine Completes.of_if rfl (by simp [hon, hl]) ⟨?_, ?_⟩
    · rw [(State.count_upd ..).flag _ _ _ rfl]
      exact State.flag_raise _ rfl rfl ..
    · rw [(State.count_upd ..).rdN_of _ _ _ rfl, State.rdN, State.raise, State.rd_setFld_name _ rfl]
      exact s.rdN_bump _ rfl

end Sys2Proof.Machine
end

section
/-! The forward error correction of a subcarrier (spec/05, R98 to R112): O6. -/

namespace Sys2Proof.Machine

variable (s : State)

/-! ## A decoded codeword -/

/-- A failed check inside the decoder leaves the totals of the decoder and an UNC event that is set. -/
theorem State.fecFault_keeps (i : Nat) (h : s.flag F.SCX_FEC_EVT_UNC i = true) :
    (s.fecFault i).flag F.SCX_FEC_EVT_UNC i = true := by
  rw [State.fecFault, (State.detect_upd ..).flag _ _ _ rfl, State.flag_raise_apart _ rfl, State.flag, State.fld_bump_id _ rfl]
  exact h

/-- What follows a codeword's counts, up to its end, keeps the decoder's totals and an UNC event that is set. -/
theorem State.decode_tail (i : Nat) (p seg last : Bool) (bad : State → List Nat) :
    let t := ((({ s.when p (State.fecFault i) with segBad := bad s } : State).when seg (State.fecFault i)).when last fun s =>
      s.setFlag F.SCX_FEC_STATUS_XOVER false i).lineEval (scCar i)
    (∀ id ∈ [RegId.SCX_FEC_TOT_CW_LO, .SCX_FEC_TOT_CW_HI, .SCX_FEC_TOT_CORR_LO, .SCX_FEC_TOT_CORR_HI, .SCX_FEC_TOT_UNC_LO,
      .SCX_FEC_TOT_UNC_HI], t.rd (R id i) = s.rd (R id i)) ∧
      (s.flag F.SCX_FEC_EVT_UNC i = true → t.flag F.SCX_FEC_EVT_UNC i = true) := by
  intro t
  refine ⟨fun id hid => ?_, fun h => ?_⟩
  · have fault : ∀ x : State, (x.fecFault i).rd (R id i) = x.rd (R id i) := fun x => by
      fin_cases hid <;> exact (State.fecFault_upd ..).rd_of _ _ _ rfl
    have line : ∀ x : State, (x.lineEval (scCar i)).rd (R id i) = x.rd (R id i) := fun x => by
      fin_cases hid <;> exact (State.lineEval_upd ..).rd_of _ _ _ rfl
    refine (line _).trans (State.when_holds _ (fun x => x.rd (R id i) = s.rd (R id i)) _ _ ?_ fun e => Eq.trans ?_ e)
    · refine State.when_holds _ (fun x => x.rd (R id i) = s.rd (R id i)) _ _ ?_ fun e => (fault _).trans e
      exact s.when_holds (fun x => x.rd (R id i) = s.rd (R id i)) _ _ rfl fun e => (fault _).trans e
    · fin_cases hid <;> exact State.rd_setFld_name _ rfl ..
  · rw [(State.lineEval_upd ..).flag _ _ _ rfl]
    refine State.when_holds _ (fun x => x.flag F.SCX_FEC_EVT_UNC i = true) _ _ ?_ fun e =>
      (State.flag_setFlag_apart _ rfl ..).trans e
    refine State.when_holds _ (fun x => x.flag F.SCX_FEC_EVT_UNC i = true) _ _ ?_ fun e => State.fecFault_keeps _ i e
    exact s.when_holds (fun x => x.flag F.SCX_FEC_EVT_UNC i = true) _ _ h fun e => State.fecFault_keeps _ i e

/-- The counts of a codeword: those of codewords and corrections, then the monitor's. -/
theorem State.decode_counts (i corr : Nat) :
    let t := (((s.add64 (R .SCX_FEC_TOT_CW_LO i) (R .SCX_FEC_TOT_CW_HI i) 1).add64 (R .SCX_FEC_TOT_CORR_LO i)
      (R .SCX_FEC_TOT_CORR_HI i) corr).count 0x040 i 1).count 0x042 i corr
    t.rd64 (R .SCX_FEC_TOT_CW_LO i) (R .SCX_FEC_TOT_CW_HI i) =
        (s.rd64 (R .SCX_FEC_TOT_CW_LO i) (R .SCX_FEC_TOT_CW_HI i) + 1) % 2 ^ 64 ∧
      t.rd64 (R .SCX_FEC_TOT_CORR_LO i) (R .SCX_FEC_TOT_CORR_HI i) =
        (s.rd64 (R .SCX_FEC_TOT_CORR_LO i) (R .SCX_FEC_TOT_CORR_HI i) + corr) % 2 ^ 64 ∧
      t.rd64 (R .SCX_FEC_TOT_UNC_LO i) (R .SCX_FEC_TOT_UNC_HI i) =
        s.rd64 (R .SCX_FEC_TOT_UNC_LO i) (R .SCX_FEC_TOT_UNC_HI i) := by
  refine ⟨?_, ?_, ?_⟩
  · rw [(State.count_upd ..).rd64_of _ _ _ _ _ _ rfl rfl, (State.count_upd ..).rd64_of _ _ _ _ _ _ rfl rfl,
      State.rd64_congr (State.rd_add64_name _ rfl rfl ..) (State.rd_add64_name _ rfl rfl ..)]
    exact s.rd64_add64 rfl rfl rfl ..
  · rw [(State.count_upd ..).rd64_of _ _ _ _ _ _ rfl rfl, (State.count_upd ..).rd64_of _ _ _ _ _ _ rfl rfl,
      State.rd64_add64 _ rfl rfl rfl, State.rd64_congr (s.rd_add64_name rfl rfl ..) (s.rd_add64_name rfl rfl ..)]
  · rw [(State.count_upd ..).rd64_of _ _ _ _ _ _ rfl rfl, (State.count_upd ..).rd64_of _ _ _ _ _ _ rfl rfl,
      State.rd64_congr (State.rd_add64_name _ rfl rfl ..) (State.rd_add64_name _ rfl rfl ..)]
    exact State.rd64_congr (s.rd_add64_name rfl rfl ..) (s.rd_add64_name rfl rfl ..)

/-- A codeword that is corrected counts in the totals of codewords and corrections. -/
theorem State.decode_good {i : Nat} {w : Codeword} (hb : cwBad w = false) :
    (s.decode i w).rd64 (R .SCX_FEC_TOT_CW_LO i) (R .SCX_FEC_TOT_CW_HI i) =
        (s.rd64 (R .SCX_FEC_TOT_CW_LO i) (R .SCX_FEC_TOT_CW_HI i) + 1) % 2 ^ 64 ∧
      (s.decode i w).rd64 (R .SCX_FEC_TOT_CORR_LO i) (R .SCX_FEC_TOT_CORR_HI i) =
        (s.rd64 (R .SCX_FEC_TOT_CORR_LO i) (R .SCX_FEC_TOT_CORR_HI i) + w.corrected) % 2 ^ 64 := by
  unfold State.decode
  extract_lets corr bits it win seg marks lim a b c d e f
  have hc : corr = w.corrected := by simp only [corr, hb, Bool.false_eq_true, if_false]
  have he : e = d := by simp only [e, State.when, hb, Bool.false_eq_true, if_false]
  obtain ⟨regs, -⟩ := State.decode_tail e i w.parity seg w.lastOld fun s => s.segBad.filter (· != i + 2)
  obtain ⟨cw, correct, -⟩ := State.decode_counts b i corr
  refine ⟨(State.rd64_congr (regs _ (by decide)) (regs _ (by decide))).trans ?_,
    (State.rd64_congr (regs _ (by decide)) (regs _ (by decide))).trans ?_⟩
  · rw [he]
    exact cw
  · rw [he, ← hc]
    exact correct

/-- A codeword that cannot be corrected raises UNC and counts in the totals of codewords and of those uncorrected. -/
theorem State.decode_bad {i : Nat} {w : Codeword} (hb : cwBad w = true) :
    (s.decode i w).flag F.SCX_FEC_EVT_UNC i = true ∧
      (s.decode i w).rd64 (R .SCX_FEC_TOT_CW_LO i) (R .SCX_FEC_TOT_CW_HI i) =
        (s.rd64 (R .SCX_FEC_TOT_CW_LO i) (R .SCX_FEC_TOT_CW_HI i) + 1) % 2 ^ 64 ∧
      (s.decode i w).rd64 (R .SCX_FEC_TOT_UNC_LO i) (R .SCX_FEC_TOT_UNC_HI i) =
        (s.rd64 (R .SCX_FEC_TOT_UNC_LO i) (R .SCX_FEC_TOT_UNC_HI i) + 1) % 2 ^ 64 := by
  unfold State.decode
  extract_lets corr bits it win seg marks lim a b c d e f
  have he : e = ((d.add64 (R .SCX_FEC_TOT_UNC_LO i) (R .SCX_FEC_TOT_UNC_HI i) 1).raise F.SCX_FEC_EVT_UNC i).count 0x041 i
    1 := by simp only [e, State.when, hb, if_true]
  obtain ⟨regs, unc⟩ := State.decode_tail e i w.parity seg w.lastOld fun s => s.segBad.filter (· != i + 2)
  obtain ⟨cw, -, uncs⟩ := State.decode_counts b i corr
  refine ⟨unc ?_, (State.rd64_congr (regs _ (by decide)) (regs _ (by decide))).trans ?_,
    (State.rd64_congr (regs _ (by decide)) (regs _ (by decide))).trans ?_⟩
  · rw [he, (State.count_upd ..).flag _ _ _ rfl]
    exact State.flag_raise _ rfl rfl ..
  · rw [he, (State.count_upd ..).rd64_of _ _ _ _ _ _ rfl rfl,
      State.rd64_congr (State.rd_raise_name _ rfl ..) (State.rd_raise_name _ rfl ..),
      State.rd64_congr (d.rd_add64_name rfl rfl ..) (d.rd_add64_name rfl rfl ..)]
    exact cw
  · rw [he, (State.count_upd ..).rd64_of _ _ _ _ _ _ rfl rfl,
      State.rd64_congr (State.rd_raise_name _ rfl ..) (State.rd_raise_name _ rfl ..), State.rd64_add64 _ rfl rfl rfl]
    exact congrArg (fun n => (n + 1) % 2 ^ 64) uncs

/-! ## The latch of a second -/

/-- A subcarrier's latch leaves the registers and the record of every other one. -/
theorem State.fecLatch_other {i j : Nat} (h : j ≠ i) :
    (∀ id, (s.fecLatch j).rd (R id i) = s.rd (R id i)) ∧ (s.fecLatch j).sc i = s.sc i := by
  unfold State.fecLatch
  extract_lets a t u
  refine ⟨fun id => ?_, (u.sc_modSc_ne _ h.symm).trans
    (s.when_holds (fun x => x.sc i = s.sc i) _ _ rfl fun _ => rfl)⟩
  have e : t.rd (R id i) = s.rd (R id i) := by
    refine s.when_holds (fun x => x.rd (R id i) = s.rd (R id i)) _ _ rfl fun _ => ?_
    simp only [State.wr64]
    rw [State.rd_setFld_i _ _ _ _ _ _ h.symm]
    iterate 8 rw [State.rd_wrN_i _ _ _ _ h.symm]
  rw [State.rd_modSc, State.rd_setFld_i _ _ _ _ _ _ h.symm, State.rd_setFld_i _ _ _ _ _ _ h.symm, e]

/-- A subcarrier that keeps counters latches those of the second that has ended. -/
theorem State.fecLatch_shows {i : Nat} (h : s.rxMode (scCar i) = 0 ∨ i % 8 = 0) :
    (s.fecLatch i).rdN (R .SCX_FEC_SEC_CW i) = (s.sc i).fecCur.cw % 2 ^ 32 ∧
      (s.fecLatch i).rdN (R .SCX_FEC_SEC_UNC i) = (s.sc i).fecCur.unc % 2 ^ 32 ∧
      ((s.fecLatch i).sc i).fecCur = (s.sc i).fecNext := by
  have hk : (s.rxMode (scCar i) == 0 || i % 8 == 0) = true := by simpa using h
  unfold State.fecLatch
  simp only [State.when, hk, if_true, State.sc_modSc, State.rdN, State.rd_modSc]
  refine ⟨?_, ?_, rfl⟩
  · rw [State.rd_setFld_name _ rfl, State.rd_setFld_name _ rfl, State.rd_setFld_name _ rfl, State.rd_wrN_name _ rfl,
      State.rd_wrN_name _ rfl]
    exact State.rdN_wrN _ _ _ rfl
  · rw [State.rd_setFld_name _ rfl, State.rd_setFld_name _ rfl, State.rd_setFld_name _ rfl, State.rd_wrN_name _ rfl]
    exact State.rdN_wrN _ _ _ rfl

/-- The latch of every carrier that is ON latches each of its subcarriers that keep counters. -/
theorem State.upto_fecLatch {i : Nat} (hi : i < 16) (hon : s.carOn (scCar i) = true)
    (hk : s.rxMode (scCar i) = 0 ∨ i % 8 = 0) :
    let t := s.upto 16 fun i s => if s.carOn (scCar i) then s.fecLatch i else s
    t.rdN (R .SCX_FEC_SEC_CW i) = (s.sc i).fecCur.cw % 2 ^ 32 ∧
      t.rdN (R .SCX_FEC_SEC_UNC i) = (s.sc i).fecCur.unc % 2 ^ 32 ∧ (t.sc i).fecCur = (s.sc i).fecNext := by
  have other : ∀ {j} (x : State), j ≠ i → (∀ id, (if x.carOn (scCar j) then x.fecLatch j else x).rd (R id i) =
      x.rd (R id i)) ∧ (if x.carOn (scCar j) then x.fecLatch j else x).sc i = x.sc i := fun x hj => by
    split
    · exact x.fecLatch_other hj
    · exact ⟨fun _ => rfl, rfl⟩
  refine s.upto_brings (fun t => t.rdN (R .SCX_FEC_SEC_CW i) = (s.sc i).fecCur.cw % 2 ^ 32 ∧
      t.rdN (R .SCX_FEC_SEC_UNC i) = (s.sc i).fecCur.unc % 2 ^ 32 ∧ (t.sc i).fecCur = (s.sc i).fecNext)
    (fun t => t.carOn (scCar i) = true ∧ t.rxMode (scCar i) = s.rxMode (scCar i) ∧ t.sc i = s.sc i) _ 16 i hi
    (fun j x hj hx => ?_) (fun x hx => ?_) (fun j x hj hx => ?_) ⟨hon, rfl, rfl⟩
  · obtain ⟨con, mode, sc⟩ := hx
    have e := other x hj
    refine ⟨?_, ?_, e.2.trans sc⟩
    · split
      · rwa [(State.fecLatch_upd ..).carOn _ rfl rfl rfl]
      · exact con
    · split
      · rwa [State.rxMode, (State.fecLatch_upd ..).car rfl]
      · exact mode
  · obtain ⟨con, mode, sc⟩ := hx
    rw [← sc]
    simp only [con, if_true]
    exact x.fecLatch_shows (mode ▸ hk)
  · obtain ⟨regs, sc⟩ := other x hj
    rw [State.rdN, State.rdN, regs, regs, sc]
    exact hx

/-! ## The commands -/

/-- Settles O6. -/
theorem decoderCommandsComplete : Obligations.DecoderCommandsComplete := by
  refine ⟨?decode, ?decodeUnc, ?uncSet, ?uncClear, ?degSet, ?degClear, ?totClr, ?secLatch⟩
  case decode =>
    intro s i w hd hu hp
    exact Completes.of_if rfl hd (s.decode_good (by simp [cwBad, hu, hp]))
  case decodeUnc =>
    intro s i w hd hu
    exact Completes.of_if rfl hd (s.decode_bad (by simp [cwBad, hu]))
  case uncSet =>
    intro s i hon hd hw
    refine Completes.of_if rfl (by simp [hon, hd, hw]) ?_
    rw [(State.lineEval_upd ..).flag _ _ _ rfl]
    exact State.flag_raise _ rfl rfl ..
  case uncClear =>
    intro s i hon hd hw
    refine Completes.of_if rfl (by simp [hon, hd, hw]) ?_
    rw [(State.lineEval_upd ..).flag _ _ _ rfl]
    exact State.flag_raise _ rfl rfl ..
  case degSet =>
    intro s i hon hp hd hw
    refine Completes.of_if rfl (by simp [hon, hd, hw]; omega) ⟨?_, State.flag_raise _ rfl rfl ..⟩
    rw [State.flag_raise_apart _ rfl]
    exact s.flag_setFlag rfl rfl ..
  case degClear =>
    intro s i hon hd hw
    refine Completes.of_if rfl (by simp [hon, hd, hw]) ⟨?_, State.flag_raise _ rfl rfl ..⟩
    rw [State.flag_raise_apart _ rfl]
    exact s.flag_setFlag rfl rfl ..
  case totClr =>
    intro s m i v ha hv
    refine Completes.of_guardW ha rfl ?_
    simp only [State.fecCtrlWrite, hv, if_true]
    refine ⟨?_, ?_, State.rd64_wr64 _ rfl rfl rfl ..⟩
    · rw [State.rd64_congr (State.rd_wr64_name _ rfl rfl ..) (State.rd_wr64_name _ rfl rfl ..),
        State.rd64_congr (State.rd_wr64_name _ rfl rfl ..) (State.rd_wr64_name _ rfl rfl ..)]
      exact State.rd64_wr64 _ rfl rfl rfl ..
    · rw [State.rd64_congr (State.rd_wr64_name _ rfl rfl ..) (State.rd_wr64_name _ rfl rfl ..)]
      exact State.rd64_wr64 _ rfl rfl rfl ..
  case secLatch =>
    intro s i hi hon hk
    exact Completes.of_exec rfl (s.upto_fecLatch hi hon hk)

end Sys2Proof.Machine
end

section
/-! Frame search, framing defects, frames sent and the performance monitor's latch (spec/06): O7. -/

namespace Sys2Proof.Machine

variable (s : State)

/-! ## Frame search -/

theorem State.fstate_fstate (i st : Nat) (h : st < 2 ^ F.LFM_SC_STATUS_FSTATE.len) :
    (s.fstate i st).fld F.LFM_SC_STATUS_FSTATE i = st := by
  unfold State.fstate
  extract_lets t
  have e : t.fld F.LFM_SC_STATUS_FSTATE i = st := (State.fld_setFlag_apart _ rfl ..).trans (s.fld_setFld_lt rfl h ..)
  exact (State.fld_when t _ (State.pmFlag i 8) _ i 0 ((State.pmFlag_upd ..).fld _ _ _ rfl)).trans e

/-- One position that qualifies is the frame's (R114). -/
theorem State.searchEnd_found {i p : Nat} (hl : s.scLocked i = true) (hm : s.rxMode (scCar i) = 0)
    (hq : (s.sc i).qual = [p]) : (s.searchEnd i).fld F.LFM_SC_STATUS_FSTATE i = 2 := by
  unfold State.searchEnd
  simp only [hq]
  set t := (s.modSc i fun x => { x with pos := p, hyps := [], qual := [], awFail := 0 }).setFld F.LFM_SC_STATUS_HYP 0 i with ht
  have state : (t.fstate i 2).fld F.LFM_SC_STATUS_FSTATE i = 2 := t.fstate_fstate i 2 (by decide)
  have locked : (t.fstate i 2).scLocked i = true := by
    rw [State.scLocked, State.domOn, (State.fstate_upd ..).fld _ _ _ rfl, (State.fstate_upd ..).fld _ _ _ rfl, ht,
      State.fld_setFld_apart _ rfl, State.fld_setFld_apart _ rfl]
    exact hl
  have mode : (t.fstate i 2).rxMode (scCar i) = 0 := by
    rw [State.rxMode, (State.fstate_upd ..).car rfl]
    exact hm
  rw [State.fld_lineEval_fstate _ _ _ locked mode (by rw [state]; decide), state]

/-- The search starts again where two positions qualify (R115). -/
theorem State.searchEnd_alias {i p q : Nat} {l : List Nat} (hq : (s.sc i).qual = p :: q :: l) :
    (s.searchEnd i).flag F.LFM_SC_EVT_ALIAS i = true ∧ ((s.searchEnd i).sc i).hyps = [] ∧
      (s.searchEnd i).rdN (R .LFM_ALIAS_CNT i) = min (s.rdN (R .LFM_ALIAS_CNT i) + 1) 0xFFFFFFFF := by
  unfold State.searchEnd
  simp only [hq]
  refine ⟨State.flag_raise _ rfl rfl .., ?_, ?_⟩
  · exact congrArg Sc.hyps (s.sc_modSc i fun x => { x with hyps := [], qual := [] })
  · rw [State.rdN, State.rd_raise_name _ rfl]
    refine (State.rdN_bump _ _ rfl).trans ?_
    rw [State.rdN, State.rd_setFld_name _ rfl]
    rfl

/-! ## A frame received -/

/-- An alignment that is lost is counted and raised (R118). -/
theorem State.oofDeclare_shows (i : Nat) : (s.oofDeclare i).flag F.LFM_SC_EVT_OOF i = true ∧
    (s.oofDeclare i).rdN (R .LFM_OOF_CNT i) = min (s.rdN (R .LFM_OOF_CNT i) + 1) 0xFFFFFFFF := by
  unfold State.oofDeclare
  extract_lets pos
  refine ⟨?_, ?_⟩
  · rw [(State.fstate_upd ..).flag _ _ _ rfl, State.flag_setFld_apart _ rfl]
    exact State.flag_raise _ rfl rfl ..
  · rw [(State.fstate_upd ..).rdN_of _ _ _ rfl, State.rdN, State.rd_setFld_name _ rfl, State.rd_modSc,
      State.rd_raise_name _ rfl]
    refine (State.rdN_bump _ _ rfl).trans ?_
    rw [(State.leaveFrame_upd ..).rdN_of _ _ _ rfl]

/-- The fifth failed alignment word in a row loses the alignment (R118). -/
theorem State.frameRx_oof {i errs : Nat} (h : Option Header) (o : Option Overhead) (he : 6 < errs)
    (ha : 4 ≤ (s.sc i).awFail) : (s.frameRx i errs h o).flag F.LFM_SC_EVT_OOF i = true ∧
      (s.frameRx i errs h o).rdN (R .LFM_OOF_CNT i) = min (s.rdN (R .LFM_OOF_CNT i) + 1) 0xFFFFFFFF := by
  unfold State.frameRx
  extract_lets hd good t1 im t2 t3 t4 n t5
  have cnt : t5.rdN (R .LFM_OOF_CNT i) = s.rdN (R .LFM_OOF_CNT i) := by
    have e1 : t1.rdN (R .LFM_OOF_CNT i) = s.rdN (R .LFM_OOF_CNT i) := (State.scidRun_upd ..).rdN_of _ _ _ rfl
    have e2 : t2.rdN (R .LFM_OOF_CNT i) = t1.rdN (R .LFM_OOF_CNT i) := by
      unfold t2
      split
      · exact (State.hdrIm_upd ..).rdN_of _ _ _ rfl
      · exact (State.hdrIf_upd ..).rdN_of _ _ _ rfl
    have e3 : t3.rdN (R .LFM_OOF_CNT i) = t2.rdN (R .LFM_OOF_CNT i) := by
      unfold t3
      split
      · exact (State.ovhFrame_upd ..).rdN_of _ _ _ rfl
      · exact (State.jcFrame_upd ..).rdN_of _ _ _ rfl
    exact ((State.frameDec_upd ..).rdN_of _ _ _ rfl).trans (e3.trans (e2.trans e1))
  have fails : (t4.sc i).awFail = (s.sc i).awFail := by
    have e1 : (t1.sc i).awFail = (s.sc i).awFail := s.awFail_scidRun ..
    have e2 : (t2.sc i).awFail = (t1.sc i).awFail := by
      unfold t2
      split
      · exact t1.awFail_hdrIm ..
      · exact t1.awFail_hdrIf ..
    have e3 : (t3.sc i).awFail = (t2.sc i).awFail := by
      unfold t3
      split
      · exact t2.awFail_ovhFrame ..
      · exact t2.awFail_jcFrame ..
    have e4 : (t4.sc i).awFail = (t3.sc i).awFail := by
      refine State.when_holds _ (fun x => (x.sc i).awFail = (t3.sc i).awFail) _ _ ?_ fun e => e
      apply t3.awFail_modSc
      exact fun _ => rfl
    exact e4.trans (e3.trans (e2.trans e1))
  have hn : decide (5 ≤ n) = true := by
    simp only [n, he, if_true, fails, decide_eq_true_eq]
    omega
  obtain ⟨event, count⟩ := t5.oofDeclare_shows i
  simp only [State.when, hn, if_true]
  exact ⟨beq_iff_eq.mpr (State.fld_lineEval_scEvent _ _ _ _ _ rfl rfl rfl (beq_iff_eq.mp event)),
    ((State.lineEval_upd ..).rdN_of _ _ _ rfl).trans (count.trans (by rw [cnt]))⟩

/-! ## A frame sent -/

/-- A frame sent numbers the next one and shows the RDI it carries. -/
theorem State.frameTx_shows {c : Nat} (h : s.segBad.contains c = false) :
    ((s.frameTx c).car c).fn = ((s.car c).fn + 1) % 256 ∧ (s.frameTx c).flag F.LFM_CA_STATUS_RDI_C_TX c = s.rdiOut c := by
  have hs : s.segInj c = s := if_neg (by rw [h]; decide)
  unfold State.frameTx
  rw [hs]
  extract_lets u r m ch t
  have e : t.car c = s.car c := by
    have upd : Upd (1 <<< 610) ((s.setFlag F.LFM_CA_STATUS_RDI_C_TX r c).setFld F.LFM_CA_STATUS_RDI_MAP_TX m c) t :=
      Upd.when (Upd.refl _ _) fun x hx => hx.step (State.pccPend_upd ..) rfl
    exact upd.car rfl c
  have rdi : t.flag F.LFM_CA_STATUS_RDI_C_TX c = s.rdiOut c := by
    refine State.when_holds _ (fun x => x.flag F.LFM_CA_STATUS_RDI_C_TX c = r) _ _ ?_ fun e =>
      ((State.pccPend_upd ..).flag _ _ _ rfl).trans e
    rw [State.flag_setFld_apart _ rfl]
    exact s.flag_setFlag rfl rfl ..
  refine ⟨?_, ((State.framesOut_upd c 8 t).flag _ _ _ rfl).trans rdi⟩
  rw [State.car_modCar, (State.framesOut_upd c 8 t).car rfl, e]

/-! ## The performance monitor's latch -/

theorem State.rd_bumpIf_name {id id' : RegId} (h : (id == id') = false) (b : Bool) (x i : Nat) :
    (s.bumpIf b (R id' x)).rd (R id i) = s.rd (R id i) := by
  unfold State.bumpIf
  split
  · exact s.rd_bump_name h ..
  · rfl

theorem State.sc_bumpIf (b : Bool) (k : RegKey) (i : Nat) : (s.bumpIf b k).sc i = s.sc i := by
  unfold State.bumpIf
  split <;> rfl

theorem State.rd_bumpIf_i (b : Bool) (k k' : RegKey) (h : k'.i ≠ k.i) : (s.bumpIf b k).rd k' = s.rd k' := by
  unfold State.bumpIf
  split
  · exact s.rd_bump_i k k' h
  · rfl

/-- A subcarrier's latch leaves the registers and the record of every other one. -/
theorem State.pmSc_other {i j : Nat} (h : j ≠ i) :
    (∀ id, (s.pmSc j).rd (R id i) = s.rd (R id i)) ∧ (s.pmSc j).sc i = s.sc i := by
  unfold State.pmSc
  extract_lets x f fd nd oof th nes nses fes fses flags t u lv
  refine ⟨fun id => ?_, ?_⟩
  · rw [State.rd_modSc]
    unfold u t
    simp only [State.wr64]
    iterate 4 rw [State.rd_bumpIf_i _ _ _ _ h.symm]
    iterate 8 rw [State.rd_wrN_i _ _ _ _ h.symm]
  · have e : u.sc i = s.sc i := by
      unfold u t
      iterate 4 rw [State.sc_bumpIf]
      rfl
    exact (u.sc_modSc_ne _ h.symm).trans e

/-- A subcarrier's latch shows the uncorrected codewords of both ends, and the next second's sums start at zero. -/
theorem State.pmSc_shows (i : Nat) : (s.pmSc i).rdN (R .LFM_PM_NE_UNC i) = (s.sc i).pmCur.unc % 2 ^ 32 ∧
    (s.pmSc i).rdN (R .LFM_PM_FE_UNC i) = (s.sc i).pmCur.feUnc % 2 ^ 32 ∧ ((s.pmSc i).sc i).pmNext = PmAcc.zero := by
  unfold State.pmSc
  extract_lets x f fd nd oof th nes nses fes fses flags t u lv
  have e : ∀ id, (id == RegId.LFM_TOT_NE_ES) = false → (id == RegId.LFM_TOT_NE_SES) = false →
      (id == RegId.LFM_TOT_FE_ES) = false → (id == RegId.LFM_TOT_FE_SES) = false → u.rd (R id i) = t.rd (R id i) :=
    fun id h1 h2 h3 h4 => by
      unfold u
      rw [State.rd_bumpIf_name _ h4, State.rd_bumpIf_name _ h3, State.rd_bumpIf_name _ h2, State.rd_bumpIf_name _ h1]
  refine ⟨?_, ?_, ?_⟩
  · rw [State.rdN, State.rd_modSc, e _ rfl rfl rfl rfl]
    unfold t
    rw [State.rd_wrN_name _ rfl, State.rd_wrN_name _ rfl, State.rd_wr64_name _ rfl rfl]
    exact State.rdN_wrN _ _ _ rfl
  · rw [State.rdN, State.rd_modSc, e _ rfl rfl rfl rfl]
    unfold t
    rw [State.rd_wrN_name _ rfl]
    exact State.rdN_wrN _ _ _ rfl
  · rw [State.sc_modSc]

/-- The latch of every subcarrier in native mode shows its sums. -/
theorem State.upto_pmSc {i : Nat} (hi : i < 8 * s.nCar) (hm : s.rxMode (scCar i) = 0) :
    let t := s.upto (8 * s.nCar) fun i s => if s.rxMode (scCar i) = 0 then s.pmSc i else s
    t.rdN (R .LFM_PM_NE_UNC i) = (s.sc i).pmCur.unc % 2 ^ 32 ∧
      t.rdN (R .LFM_PM_FE_UNC i) = (s.sc i).pmCur.feUnc % 2 ^ 32 ∧ (t.sc i).pmNext = PmAcc.zero := by
  have other : ∀ {j} (x : State), j ≠ i → (∀ id, (if x.rxMode (scCar j) = 0 then x.pmSc j else x).rd (R id i) =
      x.rd (R id i)) ∧ (if x.rxMode (scCar j) = 0 then x.pmSc j else x).sc i = x.sc i := fun x hj => by
    split
    · exact x.pmSc_other hj
    · exact ⟨fun _ => rfl, rfl⟩
  refine s.upto_brings (fun t => t.rdN (R .LFM_PM_NE_UNC i) = (s.sc i).pmCur.unc % 2 ^ 32 ∧
      t.rdN (R .LFM_PM_FE_UNC i) = (s.sc i).pmCur.feUnc % 2 ^ 32 ∧ (t.sc i).pmNext = PmAcc.zero)
    (fun t => t.rxMode (scCar i) = 0 ∧ t.sc i = s.sc i) _ _ i hi
    (fun j x hj hx => ?_) (fun x hx => ?_) (fun j x hj hx => ?_) ⟨hm, rfl⟩
  · obtain ⟨mode, sc⟩ := hx
    refine ⟨?_, (other x hj).2.trans sc⟩
    split
    · rwa [State.rxMode, (State.pmSc_upd ..).car rfl]
    · exact mode
  · obtain ⟨mode, sc⟩ := hx
    rw [← sc]
    simp only [mode, if_true]
    exact x.pmSc_shows i
  · obtain ⟨regs, sc⟩ := other x hj
    rw [State.rdN, State.rdN, regs, regs, sc]
    exact hx

/-! ## The commands -/

/-- Settles O7. -/
theorem lineFrameCommandsComplete : Obligations.LineFrameCommandsComplete := by
  refine ⟨?hypothesisCheck, ?found, ?twofold, ?frameRx, ?lofSet, ?lofClr, ?frameTx, ?pmLatch⟩
  case hypothesisCheck =>
    intro s i pos errs hd hi hp hst he hn hl
    refine Completes.of_if rfl (by simp [hd, hi, hp, hst]) ?_
    simp only [State.hypCheck, hn, he, hl, decide_true, Bool.and_self, if_true]
    refine ⟨?_, State.fld_setFld_lt _ rfl (by simpa using Nat.lt_of_lt_of_le (Nat.succ_lt_succ hl) (by decide)) ..⟩
    rw [State.sc_setFld, State.sc_modSc]
  case found =>
    intro s i p hd hst hl hm hq
    exact Completes.of_if rfl (by simp [hd, hst]) (s.searchEnd_found hl hm hq)
  case twofold =>
    intro s i p q l hd hst hq
    exact Completes.of_if rfl (by simp [hd, hst]) (s.searchEnd_alias hq)
  case frameRx =>
    intro s i errs h o hd hi hst hm he ha
    refine Completes.of_exec (t := s.frameRx i errs h o) ?_ (s.frameRx_oof h o he ha)
    simp only [exec, execFrameRx, hm, bne_self_eq_false, Bool.false_eq_true, if_false, hd, hi, hst, decide_true,
      Bool.and_self, if_true]
  case lofSet =>
    intro s i hd hi hst
    refine Completes.of_if rfl (by simp [hd, hi, hst]) ⟨?_, ?_⟩
    · rw [State.flag, State.fld_lineEval_lof, State.fld_raise_apart _ rfl]
      exact s.flag_setFlag rfl rfl true i 0
    · exact beq_iff_eq.mpr (State.fld_lineEval_scEvent _ _ _ _ _ rfl rfl rfl (beq_iff_eq.mp (State.flag_raise _ rfl rfl ..)))
  case lofClr =>
    intro s i hd hst hl
    refine Completes.of_if rfl (by simp [hd, hst, hl]) ⟨?_, ?_⟩
    · rw [State.flag, State.fld_lineEval_lof, State.fld_raise_apart _ rfl]
      exact s.flag_setFlag rfl rfl false i 0
    · exact beq_iff_eq.mpr (State.fld_lineEval_scEvent _ _ _ _ _ rfl rfl rfl (beq_iff_eq.mp (State.flag_raise _ rfl rfl ..)))
  case frameTx =>
    intro s c hon hd hm hst hb
    exact Completes.of_if rfl (by simp [hon, hd, hm, hst]) (s.frameTx_shows hb)
  case pmLatch =>
    intro s i hd hi hm
    exact Completes.of_if rfl hd (s.upto_pmSc hi hm)

end Sys2Proof.Machine
end

section
/-! Commits of the slot maps and the clearing of totals (spec/06, R138, R146): O8. -/

namespace Sys2Proof.Machine

variable (s : State)

/-- The passed and waiting copies and the maps in force, with a copy replaced. -/
theorem Sc.passed_setPassed (x : Sc) (tx : Bool) (l : Option (List W32)) : (x.setPassed tx l).passed tx = l := by
  cases tx <;> rfl

theorem Sc.waits_setWaits (x : Sc) (tx : Bool) (l : Option (List W32)) : (x.setWaits tx l).waits tx = l := by
  cases tx <;> rfl

theorem Sc.waits_setPassed (x : Sc) (tx tx' : Bool) (l : Option (List W32)) : (x.setPassed tx l).waits tx' = x.waits tx' := by
  cases tx <;> rfl

theorem Sc.passed_setWaits (x : Sc) (tx tx' : Bool) (l : Option (List W32)) : (x.setWaits tx l).passed tx' = x.passed tx' := by
  cases tx <;> rfl

theorem Sc.map_setPassed (x : Sc) (tx tx' : Bool) (l : Option (List W32)) : (x.setPassed tx l).map tx' = x.map tx' := by
  cases tx <;> rfl

theorem Sc.map_setWaits (x : Sc) (tx tx' : Bool) (l : Option (List W32)) : (x.setWaits tx l).map tx' = x.map tx' := by
  cases tx <;> rfl

/-- The check of a subcarrier's captured map reads the other subcarriers' maps, not its own record. -/
theorem State.commitOk_modSc (i : Nat) (g : Sc → Sc) (tx : Bool) (l : List W32) :
    (s.modSc i g).commitOk i tx l = s.commitOk i tx l := by
  have others : (((List.range 16).filter (· ≠ i)).flatMap fun j => ((s.modSc i g).sc j).mapNext tx) =
      ((List.range 16).filter (· ≠ i)).flatMap fun j => (s.sc j).mapNext tx :=
    List.flatMap_congr fun j hj => by
      rw [State.sc_modSc_ne _ _ (by simpa using (List.mem_filter.mp hj).2)]
  unfold State.commitOk
  rw [others]
  rfl

/-- A captured copy that passes its check awaits its boundary. -/
theorem State.commitCheck_passes {i : Nat} {tx : Bool} {l : List W32} (h : s.commitOk i tx l = true) :
    ((s.commitCheck i tx l).sc i).passed tx = some l ∧ ((s.commitCheck i tx l).sc i).waits tx = (s.sc i).waits tx ∧
      ((s.commitCheck i tx l).sc i).map tx = (s.sc i).map tx ∧
      (s.commitCheck i tx l).flag F.LFM_MAP_CTRL_REFUSED i = false := by
  unfold State.commitCheck
  rw [if_pos h, State.sc_setFlag, State.sc_modSc]
  exact ⟨Sc.passed_setPassed .., Sc.waits_setPassed .., Sc.map_setPassed .., State.flag_setFlag _ rfl rfl ..⟩

/-- A captured copy that fails its check is refused, and changes no map. -/
theorem State.commitCheck_refused {i : Nat} {tx : Bool} {l : List W32} (h : s.commitOk i tx l = false) :
    (s.commitCheck i tx l).sc i = s.sc i ∧ (s.commitCheck i tx l).flag F.LFM_MAP_CTRL_REFUSED i = true := by
  unfold State.commitCheck
  rw [if_neg (by rw [h]; decide)]
  exact ⟨rfl, s.flag_setFlag rfl rfl ..⟩

/-- A write of MAP_CTRL that commits one direction. -/
theorem State.mapCtrlWrite_tx (i : Nat) {v : W32} (ht : F.LFM_MAP_CTRL_COMMIT_TX.get v = 1)
    (hr : F.LFM_MAP_CTRL_COMMIT_RX.get v = 0) : s.mapCtrlWrite i v = s.commit i true := by
  simp only [State.mapCtrlWrite, State.when, ht, hr, beq_self_eq_true, Nat.reduceBEq, if_true, Bool.false_eq_true, if_false]

theorem State.mapCtrlWrite_rx (i : Nat) {v : W32} (ht : F.LFM_MAP_CTRL_COMMIT_TX.get v = 0)
    (hr : F.LFM_MAP_CTRL_COMMIT_RX.get v = 1) : s.mapCtrlWrite i v = s.commit i false := by
  simp only [State.mapCtrlWrite, State.when, ht, hr, beq_self_eq_true, Nat.reduceBEq, if_true, Bool.false_eq_true, if_false]

/-- The shadow that a commit of a direction captures. -/
theorem State.commit_idle {i : Nat} (tx : Bool) (h : s.fld F.CAX_CHG_STATUS_STATE (scCar i) = 0) :
    s.commit i tx = s.commitCheck i tx ((List.range 10).map fun e =>
      s.rd (R (if tx then .LFM_SLOT_MAP_TX else .LFM_SLOT_MAP_RX) i e)) := if_pos h

/-- A commit while a change is in progress waits. -/
theorem State.commit_waits {i : Nat} (tx : Bool) (h : s.fld F.CAX_CHG_STATUS_STATE (scCar i) ≠ 0) :
    ((s.commit i tx).sc i).waits tx = some ((List.range 10).map fun e =>
        s.rd (R (if tx then .LFM_SLOT_MAP_TX else .LFM_SLOT_MAP_RX) i e)) ∧
      (s.commit i tx).flag (pendFld tx) i = true ∧ ((s.commit i tx).sc i).map tx = (s.sc i).map tx := by
  unfold State.commit
  extract_lets id l
  rw [if_neg h, State.sc_setFlag, State.sc_modSc]
  exact ⟨Sc.waits_setWaits .., State.flag_setFlag _ (by cases tx <;> rfl) (by cases tx <;> rfl) .., Sc.map_setWaits ..⟩

/-- The wait of a commit ends. -/
theorem State.pendEnd_shows (i : Nat) (tx : Bool) (l : List W32) :
    ((s.pendEnd i tx l).sc i).waits tx = none ∧ (s.pendEnd i tx l).flag (pendFld tx) i = false ∧
      (if s.commitOk i tx l then ((s.pendEnd i tx l).sc i).passed tx = some l
      else ((s.pendEnd i tx l).sc i).passed tx = (s.sc i).passed tx ∧
        (s.pendEnd i tx l).flag F.LFM_MAP_CTRL_REFUSED i = true) := by
  unfold State.pendEnd
  set t := (s.modSc i (Sc.setWaits tx none)).setFlag (pendFld tx) false i with ht
  have ok : t.commitOk i tx l = s.commitOk i tx l := by rw [ht, State.commitOk_setFlag, State.commitOk_modSc]
  have sc : t.sc i = (s.sc i).setWaits tx none := by rw [ht, State.sc_setFlag, State.sc_modSc]
  have pend : t.flag (pendFld tx) i = false := State.flag_setFlag _ (by cases tx <;> rfl) (by cases tx <;> rfl) ..
  have keep : (t.commitCheck i tx l).flag (pendFld tx) i = t.flag (pendFld tx) i := by
    unfold State.commitCheck
    split <;> exact State.flag_setFlag_apart _ (by cases tx <;> rfl) ..
  refine ⟨?_, keep.trans pend, ?_⟩
  · unfold State.commitCheck
    split
    · rw [State.sc_setFlag, State.sc_modSc, Sc.waits_setPassed, sc, Sc.waits_setWaits]
    · rw [State.sc_setFlag, sc, Sc.waits_setWaits]
  · rw [← ok]
    split
    · next h => exact (t.commitCheck_passes h).1
    · next h =>
      obtain ⟨same, refused⟩   := t.commitCheck_refused (Bool.eq_false_iff.mpr h)
      exact ⟨by rw [same, sc, Sc.passed_setWaits], refused⟩

/-- A checked map comes into force. -/
theorem State.mapInForce_shows (i : Nat) (tx : Bool) (l : List W32) :
    ((s.mapInForce i tx l).sc i).map tx = l ∧ ((s.mapInForce i tx l).sc i).passed tx = none := by
  unfold State.mapInForce
  extract_lets gids t u v
  have hv : v.sc i = u.sc i := State.each_keeps u (fun x => x.sc i) _ (fun gid x => by
    split
    · split
      · rfl
      · exact (State.grpLeave_upd ..).sc rfl i
    · rfl) gids
  have ht : (t.sc i).map tx = l ∧ (t.sc i).passed tx = none := by
    rw [show t.sc i = _ from s.sc_modSc i _]
    cases tx <;> exact ⟨rfl, rfl⟩
  have hu : (u.sc i).map tx = l ∧ (u.sc i).passed tx = none := by
    refine t.when_holds (fun x => (x.sc i).map tx = l ∧ (x.sc i).passed tx = none) _ _ ht fun h => ?_
    unfold State.msimEval
    extract_lets bad new
    refine State.when_holds _ (fun x => (x.sc i).map tx = l ∧ (x.sc i).passed tx = none) _ _ ?_ fun h => h
    rw [State.sc_modSc]
    cases tx <;> exact h
  rw [(State.grpsEval_upd _).sc rfl, hv]
  exact hu

/-! ## The commands -/

/-- Settles O8. -/
theorem slotMapCommandsComplete : Obligations.SlotMapCommandsComplete := by
  refine ⟨?txPasses, ?txRefused, ?txWaits, ?rxPasses, ?rxRefused, ?rxWaits, ?pendPasses, ?pendRefused, ?inForceTx,
    ?inForceRx, ?totClr⟩
  case txPasses =>
    intro s m i v ha ht hr hst hok
    refine Completes.of_guardW ha rfl ?_
    rw [State.mapCtrlWrite_tx _ _ ht hr]
    rw [State.commit_idle (s.rewritten _) true hst]
    obtain ⟨passed, -, map, refused⟩ := State.commitCheck_passes (s.rewritten _) (tx := true) hok
    exact ⟨passed, refused, map⟩
  case txRefused =>
    intro s m i v ha ht hr hst hok
    refine Completes.of_guardW ha rfl ?_
    rw [State.mapCtrlWrite_tx _ _ ht hr]
    rw [State.commit_idle (s.rewritten _) true hst]
    obtain ⟨same, refused⟩ := State.commitCheck_refused (s.rewritten _) (tx := true) hok
    exact ⟨congrArg Sc.passTx same, congrArg Sc.mapTx same, refused⟩
  case txWaits =>
    intro s m i v ha ht hr hst
    refine Completes.of_guardW ha rfl ?_
    rw [State.mapCtrlWrite_tx _ _ ht hr]
    exact State.commit_waits (s.rewritten _) true hst
  case rxPasses =>
    intro s m i v ha ht hr hst hok
    refine Completes.of_guardW ha rfl ?_
    rw [State.mapCtrlWrite_rx _ _ ht hr]
    rw [State.commit_idle (s.rewritten _) false hst]
    obtain ⟨passed, -, map, refused⟩ := State.commitCheck_passes (s.rewritten _) (tx := false) hok
    exact ⟨passed, refused, map⟩
  case rxRefused =>
    intro s m i v ha ht hr hst hok
    refine Completes.of_guardW ha rfl ?_
    rw [State.mapCtrlWrite_rx _ _ ht hr]
    rw [State.commit_idle (s.rewritten _) false hst]
    obtain ⟨same, refused⟩ := State.commitCheck_refused (s.rewritten _) (tx := false) hok
    exact ⟨congrArg Sc.passRx same, congrArg Sc.mapRx same, refused⟩
  case rxWaits =>
    intro s m i v ha ht hr hst
    refine Completes.of_guardW ha rfl ?_
    rw [State.mapCtrlWrite_rx _ _ ht hr]
    exact State.commit_waits (s.rewritten _) false hst
  case pendPasses =>
    intro s i l hd hw hst hok
    refine Completes.of_exec (t := s.pendEnd i true l) ?_ ?_
    · simp only [exec, execPendingCommit, Sc.waits, hw, hd, hst, if_true, beq_self_eq_true, Bool.and_self]
    · obtain ⟨waits, pend, result⟩ := s.pendEnd_shows i true l
      rw [if_pos hok] at result
      exact ⟨result, waits, pend⟩
  case pendRefused =>
    intro s i l hd hw hst hok
    refine Completes.of_exec (t := s.pendEnd i false l) ?_ ?_
    · simp only [exec, execPendingCommit, Sc.waits, hw, hd, hst, if_true, beq_self_eq_true, Bool.and_self,
        Bool.false_eq_true, if_false]
    · obtain ⟨waits, pend, result⟩ := s.pendEnd_shows i false l
      rw [if_neg (by rw [hok]; decide)] at result
      exact ⟨result.1, waits, pend, result.2⟩
  case inForceTx =>
    intro s i l hd hp
    refine Completes.of_exec (t := s.mapInForce i true l) ?_ (s.mapInForce_shows i true l)
    simp only [exec, execSlotMapInForce, Sc.passed, hp, hd, if_true]
  case inForceRx =>
    intro s i l hd hp
    refine Completes.of_exec (t := s.mapInForce i false l) ?_ (s.mapInForce_shows i false l)
    simp only [exec, execSlotMapInForce, Sc.passed, hp, hd, if_true, Bool.false_eq_true, if_false]
  case totClr =>
    intro s m i v ha hv
    refine Completes.of_guardW ha rfl ?_
    simp only [State.scCfgWrite, State.when, hv, beq_self_eq_true, if_true]
    refine ⟨?_, ?_, ?_, ?_⟩
    · rw [State.rd_wr_name _ rfl, State.rd_wr_name _ rfl, State.rd_wr_name _ rfl]
      exact (State.rd_wr_same ..).trans (BitVec.zero_and ..)
    · rw [State.rd_wr_name _ rfl, State.rd_wr_name _ rfl]
      exact (State.rd_wr_same ..).trans (BitVec.zero_and ..)
    · rw [State.rd_wr_name _ rfl]
      exact (State.rd_wr_same ..).trans (BitVec.zero_and ..)
    · exact (State.rd_wr_same ..).trans (BitVec.zero_and ..)

end Sys2Proof.Machine
end

section
/-! Concatenated groups: configuration, markers, skew and slips (spec/06, R148 to R158): O9. -/

namespace Sys2Proof.Machine

variable (s : State)

/-- An event of a group that is set stays set when the group is brought up to date. -/
theorem State.flag_grpEval_event (g : Nat) (f : Fld) (i : Nat) (ho : f.ok = true) (hr : f.reg = .LFM_GRP_EVT)
    (hl : f.len = 1) (h : s.flag f i = true) : (s.grpEval g).flag f i = true :=
  beq_iff_eq.mpr (s.fld_grpEval_event g f i 0 ho hr hl (beq_iff_eq.mp h))

theorem State.flag_grpLeave_event (g st : Nat) (f : Fld) (i : Nat) (ho : f.ok = true) (hr : f.reg = .LFM_GRP_EVT)
    (hl : f.len = 1) (h : s.flag f i = true) : (s.grpLeave g st).flag f i = true :=
  beq_iff_eq.mpr (s.fld_grpLeave_event g st f i 0 ho hr hl (beq_iff_eq.mp h))

/-- The third marker in a row that fails loses the member's alignment (R152). -/
theorem State.marker_loa {g n gap a : Nat} (hok : ((s.grp g).mem.get Member.init n).ok = true)
    (hm : 2 ≤ ((s.grp g).mem.get Member.init n).miss) : (s.marker g n none gap a).flag F.LFM_GRP_EVT_LOA g = true := by
  unfold State.marker
  extract_lets m good miss lost m' t u v
  have hlost : lost = true := by
    simp only [lost, good, miss, Bool.not_false, Bool.false_eq_true, if_false, Bool.true_and, Bool.and_eq_true,
      decide_eq_true_eq]
    exact ⟨Nat.succ_le_succ hm, hok⟩
  have hv : v.flag F.LFM_GRP_EVT_LOA g = true := by
    simp only [v, State.when, hlost, if_true]
    exact State.flag_grpEval_event _ _ _ _ rfl rfl rfl (State.flag_raise _ rfl rfl ..)
  exact hv

/-- The configuration of a group that is not enabled is taken. -/
theorem State.grpCfgWrite_taken {g : Nat} {v : W32} (hen : s.flag F.LFM_GRP_CFG_EN g = false)
    (he : F.LFM_GRP_CFG_EXPRESS.get v = s.fld F.LFM_GRP_CFG_EXPRESS g)
    (hg : s.gidTaken g (F.LFM_GRP_CFG_GID.get v) = false) :
    (s.grpCfgWrite g v).rd (R .LFM_GRP_CFG g) = v &&& (R .LFM_GRP_CFG g).mask := by
  unfold State.grpCfgWrite
  extract_lets w old en fixed m bad t
  have gid : F.LFM_GRP_CFG_GID.get w = F.LFM_GRP_CFG_GID.get v := Fld.get_regMask rfl rfl ..
  have express : F.LFM_GRP_CFG_EXPRESS.get w = F.LFM_GRP_CFG_EXPRESS.get v := Fld.get_regMask rfl rfl ..
  have hbad : bad = false := by
    have e : F.LFM_GRP_CFG_EXPRESS.get old = F.LFM_GRP_CFG_EXPRESS.get w := by rw [express, he]; rfl
    simp only [bad, en, hen, gid, hg, e, Bool.false_and, Bool.and_false, bne_self_eq_false, Bool.or_self]
  have upd : ((t.when (en && F.LFM_GRP_CFG_EN.get w == 0) fun s => s.holdGrp g)).rd (R .LFM_GRP_CFG g) =
      t.rd (R .LFM_GRP_CFG g) :=
    t.when_holds (fun x => x.rd (R .LFM_GRP_CFG g) = t.rd (R .LFM_GRP_CFG g)) _ _ rfl fun _ =>
      (State.holdGrp_upd ..).rd_of _ _ _ rfl
  rw [hbad, if_neg Bool.false_ne_true, (State.holdGrp_upd ..).rd_of _ _ _ rfl, (State.grpEval_upd ..).rd_of _ _ _ rfl, upd]
  exact (s.rd_wr_same _ _).trans (by rw [BitVec.and_assoc, BitVec.and_self])

/-- A write that would change the GID of an enabled group is discarded. -/
theorem State.grpCfgWrite_discarded {g : Nat} {v : W32} (hen : s.flag F.LFM_GRP_CFG_EN g = true)
    (hg : F.LFM_GRP_CFG_GID.get v ≠ s.fld F.LFM_GRP_CFG_GID g) :
    s.grpCfgWrite g v = s.raise F.LFM_GRP_EVT_CFG_DISCARD g := by
  unfold State.grpCfgWrite
  extract_lets w old en fixed m bad t
  have gid : F.LFM_GRP_CFG_GID.get w = F.LFM_GRP_CFG_GID.get v := Fld.get_regMask rfl rfl ..
  have hf : fixed ≠ 0 := fun e => hg (gid ▸ (Fld.get_of_xor _ (by decide) (by decide) e).symm)
  have hbad : bad = true := by
    simp only [bad, en, hen, bne_iff_ne.mpr hf, Bool.and_self, Bool.true_or]
  rw [hbad, if_pos rfl]

/-! ## The commands -/

/-- Settles O9. -/
theorem groupCommandsComplete : Obligations.GroupCommandsComplete := by
  refine ⟨?cfgTaken, ?cfgDiscarded, ?groupMarker, ?skewCheck, ?grpUp, ?grpSlip⟩
  case cfgTaken =>
    intro s m g v ha hen he hg
    exact Completes.of_guardW ha rfl (State.grpCfgWrite_taken (s.rewritten _) hen he hg)
  case cfgDiscarded =>
    intro s m g v ha hen hg
    refine Completes.of_guardW ha rfl ?_
    rw [State.grpCfgWrite_discarded (s.rewritten _) hen hg]
    exact ⟨State.flag_raise _ rfl rfl .., State.rd_raise_name _ rfl ..⟩
  case groupMarker =>
    intro s g n gap a hd hg hn hok hm
    exact Completes.of_if rfl (by simp [hd, hg, hn]) (s.marker_loa hok hm)
  case skewCheck =>
    intro s g hd hst hk
    refine Completes.of_if rfl (by simp [hd, hst]) ?_
    simp only [State.grpMode, hk, if_true]
    exact s.fld_setFld_lt rfl (by decide) ..
  case grpUp =>
    intro s g hd hst
    refine Completes.of_if rfl (by simp [hd, hst]) ⟨?_, State.flag_raise _ rfl rfl ..⟩
    refine (State.fld_raise_apart _ rfl ..).trans (State.fld_setFld_lt _ rfl ?_ ..)
    split <;> decide
  case grpSlip =>
    intro s g n hd hst hn hl
    refine Completes.of_if rfl (by simp [hd, hst, hn, hl]) ?_
    exact State.flag_grpEval_event _ _ _ _ rfl rfl rfl
      (State.flag_grpLeave_event _ _ _ _ _ rfl rfl rfl (State.flag_raise _ rfl rfl ..))

end Sys2Proof.Machine
end

section
/-! Host ports and the flow table (spec/07, R157 to R175): O10 and O11. -/

namespace Sys2Proof.Machine

variable (s : State)

/-! ## Ports -/

/-- Pairs of registers cleared one after another all read 0. -/
theorem State.rd_each_wr64_clear (p : Nat) {r : RegId × RegId} {l : List (RegId × RegId)} (h : r ∈ l) :
    (s.each l fun r s => s.wr64 (R r.1 p) (R r.2 p) 0).rd64 (R r.1 p) (R r.2 p) = 0 := by
  have zero : ∀ (t : State) (k : RegKey), (t.wr k 0).rd k = 0 := fun t k =>
    (t.rd_wr_same k 0).trans (BitVec.zero_and ..)
  have wr : ∀ (t : State) (k k' : RegKey), t.rd k = 0 → (t.wr k' 0).rd k = 0 := fun t k k' ht => by
    rw [State.rd_wr_if]
    split
    · exact BitVec.zero_and ..
    · exact ht
  have pair : ∀ (t : State) (r : RegId × RegId) (k : RegKey), t.rd k = 0 → (t.wr64 (R r.1 p) (R r.2 p) 0).rd k = 0 :=
    fun t r k ht => wr _ k _ (wr t k _ ht)
  have rest : ∀ (l : List (RegId × RegId)) (t : State) (k : RegKey), t.rd k = 0 →
      (t.each l fun r s => s.wr64 (R r.1 p) (R r.2 p) 0).rd k = 0 := fun l t k ht =>
    t.each_holds (fun t => t.rd k = 0) _ (fun r t ht => pair t r k ht) l ht
  suffices key : ∀ t : State, (t.each l fun r s => s.wr64 (R r.1 p) (R r.2 p) 0).rd (R r.1 p) = 0 ∧
      (t.each l fun r s => s.wr64 (R r.1 p) (R r.2 p) 0).rd (R r.2 p) = 0 by
    rw [State.rd64, State.rdN, State.rdN, (key s).1, (key s).2]
    rfl
  induction l with
  | nil => simp at h
  | cons a l ih =>
    intro t
    rw [State.each]
    rcases List.mem_cons.mp h with rfl | h
    · exact ⟨rest l _ _ (wr _ _ _ (zero _ _)), rest l _ _ (zero _ _)⟩
    · exact ih h _

/-- A configuration that enables a port is taken where nothing refuses it. -/
theorem State.portCfgWrite_taken {p : Nat} {v : W32} (hen : s.flag F.SOF_PORT_CFG_EN p = false)
    (hv : F.SOF_PORT_CFG_EN.get v = 1) (hc : s.portCode p (v &&& (R .SOF_PORT_CFG p).mask) = 0) :
    (s.portCfgWrite p v).rd (R .SOF_PORT_CFG p) = v &&& (R .SOF_PORT_CFG p).mask := by
  unfold State.portCfgWrite
  extract_lets w old en en' t code
  have h1 : en = false := hen
  have h2 : en' = true := beq_iff_eq.mpr ((Fld.get_regMask rfl rfl ..).trans hv)
  have h3 : ¬ code ≠ 0 := not_not.mpr hc
  rw [if_neg (by rw [h1]; decide), if_pos h2, if_neg h3, (State.lanesEval_upd ..).rd_of _ _ _ rfl,
    State.rd_setFld_name _ rfl]
  exact (s.rd_wr_same _ _).trans (by rw [BitVec.and_assoc, BitVec.and_self])

/-- A configuration that enables a port is refused with its code, and leaves the port disabled. -/
theorem State.portCfgWrite_refused {p : Nat} {v : W32} (hen : s.flag F.SOF_PORT_CFG_EN p = false)
    (hv : F.SOF_PORT_CFG_EN.get v = 1) (hc : s.portCode p (v &&& (R .SOF_PORT_CFG p).mask) = 1) :
    (s.portCfgWrite p v).flag F.SOF_PORT_CFG_EN p = false ∧ (s.portCfgWrite p v).flag F.SOF_PORT_STATUS_REFUSED p = true ∧
      (s.portCfgWrite p v).fld F.SOF_PORT_STATUS_REF_CODE p = 1 := by
  unfold State.portCfgWrite
  extract_lets w old en en' t code
  have h1 : en = false := hen
  have h2 : en' = true := beq_iff_eq.mpr ((Fld.get_regMask rfl rfl ..).trans hv)
  have h3 : code ≠ 0 := by rw [show code = 1 from hc]; decide
  rw [if_neg (by rw [h1]; decide), if_pos h2, if_pos h3, State.portRefuse]
  refine ⟨?_, ?_, ?_⟩
  · rw [State.flag_setFld_apart _ rfl, State.flag_setFld_apart _ rfl, State.flag,
      State.fld_wr_same (f := F.SOF_PORT_CFG_EN) (id := .SOF_PORT_CFG) _ rfl rfl, Fld.get_put _ (by decide)]
    rfl
  · rw [State.flag_setFld_apart _ rfl]
    exact State.flag_setFlag _ rfl rfl true p 0
  · rw [show code = 1 from hc]
    exact State.fld_setFld_lt _ rfl (by decide) ..

/-- A port that refreshes an Ethernet pause sends one frame. -/
theorem State.pauseAgain_sends {p : Nat} (hup : s.portUp p = true) (hx : 1 ≤ s.fld F.SOF_PORT_STATUS_TX_XOFF p)
    (hm : s.fld F.SOF_PORT_CFG_FC_MODE p = 2) : (s.pauseAgain p).rd64 (R .SOF_TX_PAUSE_LO p) (R .SOF_TX_PAUSE_HI p) =
      (s.rd64 (R .SOF_TX_PAUSE_LO p) (R .SOF_TX_PAUSE_HI p) + 1) % 2 ^ 64 := by
  have hx' : (s.fld F.SOF_PORT_STATUS_TX_XOFF p != 0) = true := bne_iff_ne.mpr (by omega)
  simp only [State.pauseAgain, State.when, hx', hm, Nat.reduceBEq, beq_self_eq_true, Bool.or_true, Bool.and_self, if_true,
    State.pauseSend, hup]
  exact State.rd64_add64 _ rfl rfl rfl ..

/-- A good frame of a length that the port takes counts, whatever becomes of it. -/
theorem State.rxOk_hostFrame {p : Nat} {x : Frame} (hf : x.fcsOk = true) (h64 : 64 ≤ x.bytes.length)
    (hmax : x.bytes.length ≤ s.maxFrm p) : (s.hostFrame p x).rd64 (R .SOF_RX_OK_LO p) (R .SOF_RX_OK_HI p) =
      (s.rd64 (R .SOF_RX_OK_LO p) (R .SOF_RX_OK_HI p) + 1) % 2 ^ 64 := by
  unfold State.hostFrame
  extract_lets l c t
  have count : t.rd64 (R .SOF_RX_OK_LO p) (R .SOF_RX_OK_HI p) = _ := s.rd64_add64 rfl rfl rfl 1 p 0 p 0
  rw [← count, if_neg (by rw [hf]; decide), if_neg (not_lt.mpr h64), if_neg (not_lt.mpr hmax)]
  split
  · exact (State.macControl_upd ..).rd64_of _ _ _ _ _ _ rfl rfl
  · split
    · exact (State.esmcRx_upd ..).rd64_of _ _ _ _ _ _ rfl rfl
    · split
      · exact t.when_holds (fun y => y.rd64 (R .SOF_RX_OK_LO p) (R .SOF_RX_OK_HI p) =
          t.rd64 (R .SOF_RX_OK_LO p) (R .SOF_RX_OK_HI p)) _ _ rfl fun _ =>
          (State.ptpIn_upd ..).rd64_of _ _ _ _ _ _ rfl rfl
      · split
        · split
          · exact State.rd64_congr (t.rd_add64_name rfl rfl ..) (t.rd_add64_name rfl rfl ..)
          · rfl
        · exact (State.hostClass_upd ..).rd64_of _ _ _ _ _ _ rfl rfl

/-- Settles O10. -/
theorem portCommandsComplete : Obligations.PortCommandsComplete := by
  refine ⟨?cfgTaken, ?cfgRefused, ?cntClr, ?fcs, ?good, ?pauseRefresh, ?pauseReceived, ?pauseAll, ?pausePrio⟩
  case cfgTaken =>
    intro s m p v ha hen hv hc
    exact Completes.of_guardW ha rfl (State.portCfgWrite_taken (s.rewritten _) hen hv hc)
  case cfgRefused =>
    intro s m p v ha hen hv hc
    exact Completes.of_guardW ha rfl (State.portCfgWrite_refused (s.rewritten _) hen hv hc)
  case cntClr =>
    intro s m p v ha hv
    refine Completes.of_guardW ha rfl ?_
    simp only [State.portCtrlWrite, State.when, hv, beq_self_eq_true, if_true]
    exact ⟨State.rd_each_wr64_clear _ p (r := (.SOF_RX_OK_LO, .SOF_RX_OK_HI)) (by decide),
      State.rd_each_wr64_clear _ p (r := (.SOF_RX_FCS_LO, .SOF_RX_FCS_HI)) (by decide),
      State.rd_each_wr64_clear _ p (r := (.SOF_TX_OK_LO, .SOF_TX_OK_HI)) (by decide)⟩
  case fcs =>
    intro s p x hrx hf
    refine Completes.of_if rfl hrx ?_
    rw [State.hostFrame, hf, Bool.not_false, if_pos rfl]
    exact s.rd64_add64 rfl rfl rfl ..
  case good =>
    intro s p x hrx hf h64 hmax
    exact Completes.of_if rfl hrx (s.rxOk_hostFrame hf h64 hmax)
  case pauseRefresh =>
    intro s p hrx hup hx hm
    exact Completes.of_if rfl hrx (s.pauseAgain_sends hup hx hm)
  case pauseReceived =>
    intro s p q l hrx
    refine Completes.of_if rfl hrx ?_
    simp only [State.pauseRx, Bool.false_eq_true, if_false]
    refine ⟨(State.flag_setFlag _ rfl rfl ..).trans ?_, ?_⟩
    · rw [bne, decide_not]
      rfl
    · rw [State.rd64_congr (State.rd_setFlag_name _ rfl ..) (State.rd_setFlag_name _ rfl ..), State.rd64_add64 _ rfl rfl rfl,
        State.rd64_congr (s.rd_add64_name rfl rfl ..) (s.rd_add64_name rfl rfl ..)]
  case pauseAll =>
    intro s p hd hp
    exact Completes.of_if rfl (by simp [hd, hp]) (s.flag_setFlag rfl rfl false p 0)
  case pausePrio =>
    intro s p q hd hp
    refine Completes.of_if rfl (by simp [hd, hp]) (s.fld_setFld_lt rfl ?_ ..)
    exact Nat.and_le_left.trans_lt (s.fld_lt ..)

/-! ## The flow table -/

/-- A command's result shows its code. -/
theorem State.code_phResult (kind f : Nat) {code : Nat} (h : code < 2 ^ F.SOF_PH_RESULT_CODE.len) :
    (s.phResult kind f code).fld F.SOF_PH_RESULT_CODE = code := by
  refine State.when_holds _ (fun t => t.fld F.SOF_PH_RESULT_CODE = code) _ _ ?_ fun e =>
    (State.fld_raise_apart _ rfl ..).trans e
  rw [State.fld_wr_same (f := F.SOF_PH_RESULT_CODE) (id := .SOF_PH_RESULT) _ rfl rfl,
    Fld.get_put_ne _ _ (by decide) (by decide) (by decide),
    Fld.get_put_ne _ _ (by decide) (by decide) (by decide), Fld.get_put _ (by decide), Nat.mod_eq_of_lt h]

/-- A command's result writes its own register and may raise an event. -/
theorem State.rd_phResult {id : RegId} (h : (id == .SOF_PH_RESULT) = false) (h' : (id == .SOF_EVT) = false)
    (kind f code i j : Nat) : (s.phResult kind f code).rd (R id i j) = s.rd (R id i j) :=
  State.when_holds _ (fun t => t.rd (R id i j) = s.rd (R id i j)) _ _ (s.rd_wr_name h ..) fun e =>
    (State.rd_raise_name _ h' ..).trans e

theorem phWord_mem (w : Nat) :
    phWord w ∈ [RegId.SOF_PH_W0, .SOF_PH_W1, .SOF_PH_W2, .SOF_PH_W3, .SOF_PH_W4, .SOF_PH_W5] := by
  match w with
  | 0 | 1 | 2 | 3 | 4 => decide
  | _ + 5 => simp [phWord]

/-- The words 0 to 5 of an entry are RW in all their bits. -/
theorem phWord_rw (w : Nat) : ((phWord w).info.mask &&& (phWord w).info.rw == (phWord w).info.mask &&
    (phWord w).info.w1c == 0 && (phWord w).info.w1s == 0) = true :=
  (by decide : ∀ id ∈ [RegId.SOF_PH_W0, .SOF_PH_W1, .SOF_PH_W2, .SOF_PH_W3, .SOF_PH_W4, .SOF_PH_W5],
    (id.info.mask &&& id.info.rw == id.info.mask && id.info.w1c == 0 && id.info.w1s == 0) = true) _ (phWord_mem w)

theorem phWord_ne_event (w : Nat) : (phWord w == RegId.SOF_EVT) = false :=
  (by decide : ∀ id ∈ [RegId.SOF_PH_W0, .SOF_PH_W1, .SOF_PH_W2, .SOF_PH_W3, .SOF_PH_W4, .SOF_PH_W5],
    (id == RegId.SOF_EVT) = false) _ (phWord_mem w)

/-- An entry that passes its validation is valid. -/
theorem State.w6Write_valid {f : Nat} {v : W32} (hold : s.flag F.SOF_PH_W6_VALID f = false)
    (hv : F.SOF_PH_W6_VALID.get v = 1) (hc : s.validCode f v = 0) :
    (s.w6Write f v).flag F.SOF_PH_W6_VALID f = true ∧ (s.w6Write f v).fld F.SOF_PH_RESULT_CODE = 0 := by
  simp only [State.w6Write, hold, hv, hc, beq_self_eq_true, Bool.false_eq_true, if_false, if_true, ne_eq, not_true]
  rw [(State.thresholds_upd ..).flag _ _ _ rfl, (State.phResult_upd ..).flag _ _ _ rfl, State.flag_setFld_apart _ rfl,
    (State.thresholds_upd ..).fld _ _ _ rfl, State.flag, State.fld_plainWrite_rw _ rfl, hv]
  exact ⟨rfl, State.code_phResult _ _ _ (by decide)⟩

/-- An entry that fails its validation stays invalid, and its code is shown. -/
theorem State.w6Write_refused {f code : Nat} {v : W32} (hold : s.flag F.SOF_PH_W6_VALID f = false)
    (hv : F.SOF_PH_W6_VALID.get v = 1) (hc : s.validCode f v = code) (h0 : code ≠ 0)
    (hl : code < 2 ^ F.SOF_PH_RESULT_CODE.len) : (s.w6Write f v).flag F.SOF_PH_W6_VALID f = false ∧
      (s.w6Write f v).fld F.SOF_PH_RESULT_CODE = code ∧ (s.w6Write f v).flag F.SOF_EVT_PH_REFUSED = true := by
  simp only [State.w6Write, hold, hv, hc, beq_self_eq_true, Bool.false_eq_true, if_false, if_true, ne_eq, h0,
    not_false_eq_true]
  refine ⟨?_, State.code_phResult _ _ _ hl, ?_⟩
  · rw [(State.phResult_upd ..).flag _ _ _ rfl, State.flag, State.fld_plainWrite_rw _ rfl, Fld.get_put _ (by decide)]
    rfl
  · simp only [State.phResult, State.when, bne_iff_ne.mpr h0, if_true]
    exact State.flag_raise _ rfl rfl ..

/-- A MOVE of a valid flow to a group that takes it. -/
theorem State.moveFlow_done {f e : Nat} (hv : s.flag F.SOF_PH_W6_VALID f = true) (hst : s.fld F.SOF_FP_W4_STATE f = 1)
    (hl : s.toLine f = true) (hg : s.groupFits e (s.flag F.SOF_PH_W6_EXPRESS f) = true)
    (he : e < 2 ^ F.SOF_PH_W6_EGRESS.len) : (s.moveFlow f e).fld F.SOF_PH_W6_EGRESS f = e ∧
      (s.moveFlow f e).fld F.SOF_PH_RESULT_CODE = 0 := by
  simp only [State.moveFlow, hv, hst, hl, hg, Bool.not_true, Bool.false_and, Bool.and_false, Bool.and_true, Bool.false_eq_true, if_false,
    Nat.reduceLeDiff, ne_eq, not_true]
  refine ⟨?_, State.code_phResult _ _ _ (by decide)⟩
  rw [(State.phResult_upd ..).fld _ _ _ rfl, State.fld_setFld_apart _ rfl]
  exact s.fld_setFld_lt rfl he ..

/-- A FLUSH counts the frames it discards. -/
theorem State.flushFlow_done (f : Nat) : (s.flushFlow f).rd64 (R .SOF_QUE_DROP_LO f) (R .SOF_QUE_DROP_HI f) =
    (s.rd64 (R .SOF_QUE_DROP_LO f) (R .SOF_QUE_DROP_HI f) + (s.flow f).q.length) % 2 ^ 64 ∧
      (s.flushFlow f).fld F.SOF_PH_RESULT_CODE = 0 := by
  unfold State.flushFlow
  extract_lets n t st
  refine ⟨?_, State.code_phResult _ _ _ (by decide)⟩
  rw [(State.phResult_upd ..).rd64_of _ _ _ _ _ _ rfl rfl,
    State.rd64_congr (State.rd_setFld_name _ rfl ..) (State.rd_setFld_name _ rfl ..)]
  unfold t
  rw [(State.departed_upd ..).rd64_of _ _ _ _ _ _ rfl rfl, (State.flowCount_upd ..).rd64_of _ _ _ _ _ _ rfl rfl]
  exact State.rd64_add64 _ rfl rfl rfl ..

/-- A CLR_CNT clears the flow's counters. -/
theorem State.rd_clrCnt {f : Nat} {r : RegId} (hr : r ∈ flowCounters) :
    (((s.each flowCounters fun r s => s.wr (R r f) 0).phResult 1 f 0).raise F.SOF_EVT_CMD_DONE).rd (R r f) = 0 := by
  obtain ⟨result, event⟩ := (by decide : ∀ r ∈ flowCounters, (r == RegId.SOF_PH_RESULT) = false ∧
    (r == RegId.SOF_EVT) = false) r hr
  rw [State.rd_raise_name _ event, State.rd_phResult _ result event]
  exact s.rd_each_clear f r flowCounters hr

/-- Settles O11. -/
theorem pigeonholeCommandsComplete : Obligations.PigeonholeCommandsComplete := by
  refine ⟨?entry, ?entryDiscarded, ?valid, ?invalid, ?remove, ?move, ?flush, ?clr⟩
  case entry =>
    intro s m f w v ha hv
    refine Completes.of_guardW ha rfl ?_
    rw [State.phWrite, State.flag_rewritten, if_neg (by rw [hv]; decide)]
    exact State.rd_plainWrite_full _ (phWord_rw w) ..
  case entryDiscarded =>
    intro s m f w v ha hv
    refine Completes.of_guardW ha rfl ?_
    rw [State.phWrite, State.flag_rewritten, if_pos hv]
    exact ⟨State.rd_raise_name _ (phWord_ne_event w) .., State.flag_raise _ rfl rfl ..⟩
  case valid =>
    intro s m f v ha hold hv hc
    exact Completes.of_guardW ha rfl (State.w6Write_valid (s.rewritten _) hold hv hc)
  case invalid =>
    intro s m f v ha hold hv hc
    exact Completes.of_guardW ha rfl (State.w6Write_refused (s.rewritten _) hold hv hc (by decide) (by decide))
  case remove =>
    intro s m f v ha hold hv
    refine Completes.of_guardW ha rfl ?_
    simp only [State.w6Write, State.flag_rewritten, hold, hv, Nat.reduceBEq, Bool.false_eq_true, if_false, if_true]
    rw [(State.thresholds_upd ..).flag _ _ _ rfl, State.flag_setFld_apart _ rfl]
    exact State.flag_setFlag _ rfl rfl false f 0
  case move =>
    intro s m v f ha hc hf hv hst hl hg
    refine Completes.of_guardW ha rfl ?_
    simp only [State.phCmdWrite, hc, hf]
    obtain ⟨egress, code⟩ := State.moveFlow_done (s.rewritten _) (e := F.SOF_PH_CMD_ARG.get v) hv hst hl hg (Nat.mod_lt _ (by decide))
    exact ⟨(State.fld_raise_apart _ rfl ..).trans egress, (State.fld_raise_apart _ rfl ..).trans code,
      State.flag_raise _ rfl rfl ..⟩
  case flush =>
    intro s m v f ha hc hf
    refine Completes.of_guardW ha rfl ?_
    simp only [State.phCmdWrite, hc, hf]
    obtain ⟨drops, code⟩ := State.flushFlow_done (s.rewritten (R .SOF_PH_CMD)) f
    exact ⟨(State.rd64_congr (State.rd_raise_name _ rfl ..) (State.rd_raise_name _ rfl ..)).trans drops,
      (State.fld_raise_apart _ rfl ..).trans code, State.flag_raise _ rfl rfl ..⟩
  case clr =>
    intro s m v f r ha hc hf hr
    refine Completes.of_guardW ha rfl ?_
    simp only [State.phCmdWrite, hc, hf]
    exact ⟨State.rd_clrCnt _ hr, State.flag_raise _ rfl rfl ..⟩

end Sys2Proof.Machine
end

section
/-! Frames sent, group holds and record delineation (spec/07, R161 to R163): O12. -/

namespace Sys2Proof.Machine

variable (s : State)

/-- A flow's counter pair counts one. -/
theorem State.rd64_bumpFlow {lo hi : RegId} (hlo : lo.info.mask = BitVec.allOnes 32)
    (hhi : hi.info.mask = BitVec.allOnes 32) (hne : (lo == hi) = false) (f : Nat)
    (hk : ∀ e n t, (State.count e f n t).rd64 (R lo f) (R hi f) = t.rd64 (R lo f) (R hi f)) :
    (s.bumpFlow lo hi f).rd64 (R lo f) (R hi f) = (s.rd64 (R lo f) (R hi f) + 1) % 2 ^ 64 := by
  rw [← s.rd64_add64 hlo hhi hne]
  unfold State.bumpFlow State.flowCount
  split
  · exact hk ..
  · rfl

/-- Flow counters of three registers leave the registers of other names. -/
theorem State.rd_addBytes {id lo mid hi : RegId} (h : (id == lo) = false) (h' : (id == mid) = false)
    (h'' : (id == hi) = false) (f n i j : Nat) : (s.addBytes lo mid hi f n).rd (R id i j) = s.rd (R id i j) :=
  (State.rd_wrN_name _ h'' ..).trans ((State.rd_wrN_name _ h' ..).trans (s.rd_wrN_name h ..))

/-- The only flow that is ready, whose turn it is and whose deficit covers its head, sends. -/
theorem State.drrGo_turn {f : Nat} (n : Nat) (h : s.headCost f ≤ (s.flow f).dfc) : s.drrGo [f] (n + 1) f = (f, s) := by
  rw [State.drrGo, if_pos (by simp [h])]

/-- A frame that leaves to a port counts for its flow and its port. -/
theorem State.sendHead_port {f e : Nat} {ecc : HayEcc} (he : ecc ≠ .ue) (hb : s.segBad.contains 18 = false) :
    (s.sendHead f false e ecc).rd64 (R .SOF_OUT_FRM_LO f) (R .SOF_OUT_FRM_HI f) =
        (s.rd64 (R .SOF_OUT_FRM_LO f) (R .SOF_OUT_FRM_HI f) + 1) % 2 ^ 64 ∧
      (s.sendHead f false e ecc).rd64 (R .SOF_TX_OK_LO e) (R .SOF_TX_OK_HI e) =
        (s.rd64 (R .SOF_TX_OK_LO e) (R .SOF_TX_OK_HI e) + 1) % 2 ^ 64 := by
  unfold State.sendHead
  extract_lets l ecc' t u
  have hecc : ecc' = ecc := if_neg (by rw [hb]; decide)
  have hu : u = ((t.bumpFlow .SOF_OUT_FRM_LO .SOF_OUT_FRM_HI f).addBytes .SOF_OUT_BYTE_LO .SOF_OUT_BYTE_MID
      .SOF_OUT_BYTE_HI f l.length).emit f false e l := by
    unfold u
    rw [if_neg (by rw [hecc]; exact he), State.noKey, if_neg Bool.false_ne_true]
    rfl
  have out : t.rd64 (R .SOF_OUT_FRM_LO f) (R .SOF_OUT_FRM_HI f) = s.rd64 (R .SOF_OUT_FRM_LO f) (R .SOF_OUT_FRM_HI f) := by
    unfold t
    rw [(State.takeHead_upd ..).rd64_of _ _ _ _ _ _ rfl rfl, (State.shedRead_upd ..).rd64_of _ _ _ _ _ _ rfl rfl]
    rfl
  have tx : t.rd64 (R .SOF_TX_OK_LO e) (R .SOF_TX_OK_HI e) = s.rd64 (R .SOF_TX_OK_LO e) (R .SOF_TX_OK_HI e) := by
    unfold t
    rw [(State.takeHead_upd ..).rd64_of _ _ _ _ _ _ rfl rfl, (State.shedRead_upd ..).rd64_of _ _ _ _ _ _ rfl rfl]
    rfl
  have count := t.rd64_bumpFlow (lo := .SOF_OUT_FRM_LO) (hi := .SOF_OUT_FRM_HI) rfl rfl rfl f
    fun e n t => (State.count_upd ..).rd64_of _ _ _ _ _ _ rfl rfl
  rw [(State.departed_upd ..).rd64_of _ _ _ _ _ _ rfl rfl, (State.readBack_upd ..).rd64_of _ _ _ _ _ _ rfl rfl,
    (State.purge_upd ..).rd64_of _ _ _ _ _ _ rfl rfl, (State.departed_upd ..).rd64_of _ _ _ _ _ _ rfl rfl,
    (State.readBack_upd ..).rd64_of _ _ _ _ _ _ rfl rfl, (State.purge_upd ..).rd64_of _ _ _ _ _ _ rfl rfl, hu]
  simp only [State.emit, Bool.false_eq_true, if_false, Bool.not_false, State.when, if_true]
  refine ⟨?_, ?_⟩
  · rw [State.rd64_congr (State.rd_add64_name _ rfl rfl ..) (State.rd_add64_name _ rfl rfl ..), ← out, ← count]
    exact State.rd64_congr (State.rd_addBytes _ rfl rfl rfl ..) (State.rd_addBytes _ rfl rfl rfl ..)
  · rw [State.rd64_add64 _ rfl rfl rfl, ← tx]
    refine congrArg (fun n => (n + 1) % 2 ^ 64) ?_
    refine (State.rd64_congr (State.rd_addBytes _ rfl rfl rfl ..) (State.rd_addBytes _ rfl rfl rfl ..)).trans ?_
    rw [State.bumpFlow, (State.flowCount_upd ..).rd64_of _ _ _ _ _ _ rfl rfl]
    exact State.rd64_congr (State.rd_add64_name _ rfl rfl ..) (State.rd_add64_name _ rfl rfl ..)

/-- A port sends the frame of its only ready express flow. -/
theorem State.frameSent_port {e f : Nat} {ecc : HayEcc} (hr : s.ready false e true = [f]) (hd : s.drr.get 0 (4 * e + 1) = f)
    (hc : s.headCost f ≤ (s.flow f).dfc) : s.frameSent false e ecc =
      ({ s with drr := s.drr.set 0 (4 * e + 1) f } : State).sendHead f false e ecc := by
  have key : (e * 2 + bit false) * 2 + bit true = 4 * e + 1 := by
    simp only [bit, Bool.false_eq_true, if_false, if_true]
    omega
  simp only [State.frameSent, hr, List.isEmpty_cons, Bool.not_false, Bool.false_eq_true, if_false, key, hd,
    State.drrGo_turn s _ hc]

/-! ## Delineation -/

/-- A valid header takes the delineator from HUNT to PRESYNC and from there to SYNC. -/
theorem State.recHeader_valid {g w : Nat} {x : Frame} (hw : recOk w = true) (hst : (s.dl g).st ≠ 2) :
    ((s.recHeader g w false x).dl g).st = if (s.dl g).st = 0 then 1 else 2 := by
  unfold State.recHeader
  extract_lets d next d' t
  have hd : (t.dl g).st = if d.st = 0 then 1 else 2 := by
    rw [show t.dl g = d' from NTab.get_set_same ..]
    unfold d'
    split <;> rfl
  have hst' : ¬ d.st = 2 := hst
  rw [if_neg (by simp [hw])]
  simp only [hst', if_false]
  exact hd

/-- A header that fails in SYNC returns the delineator to HUNT, and the loss is counted. -/
theorem State.recHeader_lost {g w : Nat} {x : Frame} (hw : recOk w = false) (hst : (s.dl g).st = 2) :
    ((s.recHeader g w false x).dl g).st = 0 ∧ (s.recHeader g w false x).flag F.SOF_EVT_DELIN_LOSS = true ∧
      (s.recHeader g w false x).rdN (R .SOF_GRP_DELIN_CNT g) = min (s.rdN (R .SOF_GRP_DELIN_CNT g) + 1) 0xFFFFFFFF := by
  simp only [State.recHeader, hw, Bool.not_false, Bool.or_true, if_true, State.delinLoss, hst, State.when, beq_self_eq_true]
  refine ⟨?_, State.flag_raise _ rfl rfl .., ?_⟩
  · exact congrArg Delin.st (NTab.get_set_same Delin.init s.delin g Delin.init)
  · rw [State.rdN, State.rd_raise_name _ rfl]
    exact State.rdN_bump _ _ rfl

/-! ## The commands -/

/-- Settles O12. -/
theorem trafficCommandsComplete : Obligations.TrafficCommandsComplete := by
  refine ⟨?frameSent, ?grpHoldEnd, ?presync, ?sync, ?lost⟩
  case frameSent =>
    intro s e f ecc hd hin hr hdrr hc he hb
    refine Completes.of_if rfl (by simp [hd, hin]) ?_
    rw [s.frameSent_port hr hdrr hc]
    exact State.sendHead_port _ he hb
  case grpHoldEnd =>
    intro s g hd hh hc
    exact Completes.of_if rfl (by simp [hd, hh, hc]) (s.flag_setFlag rfl rfl false g 0)
  case presync =>
    intro s g w x h7 h6 hg hup hp he hw hst
    refine Completes.of_if rfl (by simp [h7, h6, hg, hup, hp, he]) ?_
    rw [s.recHeader_valid hw (hst.trans_ne (by decide)), if_pos hst]
  case sync =>
    intro s g w x h7 h6 hg hup hp he hw hst
    refine Completes.of_if rfl (by simp [h7, h6, hg, hup, hp, he]) ?_
    rw [s.recHeader_valid hw (hst.trans_ne (by decide)), if_neg (hst.trans_ne (by decide))]
  case lost =>
    intro s g w x h7 h6 hg hup hp he hw hst
    exact Completes.of_if rfl (by simp [h7, h6, hg, hup, hp, he]) (s.recHeader_lost hw hst)

end Sys2Proof.Machine
end

section
/-! The cipher engine: seals, messages, keys and entropy (spec/09, R206 to R221): O13. -/

namespace Sys2Proof.Machine

variable (s : State)

/-! ## The messages behind a change of the cores -/

/-- The messages of the engine: those that hold an entry, and those that wait for one. -/
def State.messages (s : State) : List Msg × List Msg := (s.cip.msgs, s.cip.wait)

theorem State.msgs_of_messages {t : State} {l : List Msg × List Msg} (h : t.messages = l) : t.cip.msgs = l.1 :=
  congrArg Prod.fst h

theorem State.wait_of_messages {t : State} {l : List Msg × List Msg} (h : t.messages = l) : t.cip.wait = l.2 :=
  congrArg Prod.snd h

theorem State.messages_of_cip {s t : State} (h : t.cip = s.cip) : t.messages = s.messages := by
  rw [State.messages, h, State.messages]

theorem State.messages_count (e i k : Nat) : (s.count e i k).messages = s.messages :=
  State.messages_of_cip ((State.count_upd ..).cip rfl)

theorem State.messages_modCore (c : Nat) (f : CipCore → CipCore) : (s.modCore c f).messages = s.messages := by
  unfold State.modCore
  extract_lets t m was now
  split
  · rfl
  · exact State.when_holds _ (fun x => x.messages = s.messages) _ _ rfl fun h => h

theorem State.messages_cipCount (c : Nat) (m : Msg) : (s.cipCount c m).messages = s.messages := by
  unfold State.cipCount
  refine State.when_holds _ (fun x => x.messages = s.messages) _ _ ?_ fun h => (State.messages_count ..).trans h
  rw [State.messages_count, State.messages_count]

theorem State.messages_coreRun (c : Nat) (m : Msg) : (s.coreRun c m).messages = s.messages := by
  rw [State.coreRun, State.messages_cipCount, State.messages_modCore]

/-- Giving a message to a core changes no message. -/
theorem State.messages_place (m : Msg) : (s.place m).messages = s.messages := by
  unfold State.place
  extract_lets c
  split
  · exact s.messages_coreRun ..
  · split
    · split
      · split
        · rw [State.messages_count, State.messages_cipCount, State.messages_modCore]
        · rw [State.messages_cipCount, State.messages_modCore]
      · rfl
    · rfl

theorem State.messages_coreNext (c : Nat) : (s.coreNext c).messages = s.messages := by
  unfold State.coreNext
  extract_lets x
  split
  · exact s.messages_modCore ..
  · split
    · exact s.messages_modCore ..
    · split
      · split
        · exact s.messages_coreRun ..
        · rfl
      · rfl

theorem State.messages_coreDrop (id : Nat) : (s.coreDrop id).messages = s.messages := by
  refine s.upto_keeps State.messages _ 8 fun c t _ => ?_
  extract_lets x
  split
  · rw [State.messages_coreNext, State.messages_modCore]
  · split
    · exact t.messages_modCore ..
    · rfl

/-- A message accepted holds an entry. -/
theorem State.messages_accept (m : Msg) : (s.accept m).messages = (s.cip.msgs ++ [m], s.cip.wait) :=
  State.messages_place (s.modCip fun c => { c with msgs := c.msgs ++ [m] }) m

/-- A new message is in the engine, under the next number. -/
theorem State.newMsg_entered (x : Msg) :
    { x with id := s.cip.next } ∈ (s.newMsg x).cip.msgs ++ (s.newMsg x).cip.wait := by
  unfold State.newMsg
  extract_lets m t
  split
  · rw [State.msgs_of_messages (t.messages_accept m)]
    exact List.mem_append_left _ (List.mem_append_right _ (List.mem_singleton_self _))
  · exact List.mem_append_right _ (List.mem_append_right _ (List.mem_singleton_self _))

/-- A property of all messages holds of them after some that wait are accepted. -/
theorem State.admitMsgs_all {p : Msg → Prop} (n : Nat) (h : (∀ m ∈ s.cip.msgs, p m) ∧ ∀ m ∈ s.cip.wait, p m) :
    (∀ m ∈ (s.admitMsgs n).cip.msgs, p m) ∧ ∀ m ∈ (s.admitMsgs n).cip.wait, p m := by
  induction n generalizing s with
  | zero => exact h
  | succ n ih =>
    rw [State.admitMsgs]
    split
    · exact h
    · next x hx =>
      refine ih _ ?_
      set t := s.modCip fun c => { c with wait := c.wait.filter fun y => y.id ≠ x.id }
      have e := t.messages_accept x
      rw [State.msgs_of_messages e, State.wait_of_messages e]
      refine ⟨fun m hm => ?_, fun m hm => h.2 m (List.mem_of_mem_filter hm)⟩
      rcases List.mem_append.mp hm with hm | hm
      · exact h.1 m hm
      · rw [List.mem_singleton.mp hm]
        exact h.2 x (List.mem_of_find?_eq_some hx)

/-- A property of the messages but one holds of all once that one has left its entry. -/
theorem State.msgGone_all {p : Msg → Prop} {id : Nat} (h : ∀ m ∈ s.cip.msgs, m.id ≠ id → p m) (hw : ∀ m ∈ s.cip.wait, p m) :
    ∀ m ∈ (s.msgGone id).cip.msgs, p m := by
  unfold State.msgGone
  extract_lets t
  refine (t.admitMsgs_all _ ⟨fun m hm => ?_, hw⟩).1
  obtain ⟨hm, hne⟩ := List.mem_filter.mp hm
  exact h m hm (by simpa using hne)

/-! ## Completion and release -/

/-- No message is released while the oldest of its owner is not finished. -/
theorem State.releases_blocked {o : Nat × Nat} {y : Msg} (h : s.cip.msgs.find? (fun m => m.owner == o) = some y)
    (hy : y.fin = none) (n : Nat) : s.releases o n = s := by
  cases n with
  | zero => rfl
  | succ n => simp only [State.releases, h, hy]

/-- Nothing is released for an owner without a message. -/
theorem State.releases_none {o : Nat × Nat} (h : ∀ m ∈ s.cip.msgs, m.owner ≠ o) (n : Nat) : s.releases o n = s := by
  have e : s.cip.msgs.find? (fun m => m.owner == o) = none := List.find?_eq_none.mpr fun m hm => by simpa using h m hm
  cases n with
  | zero => rfl
  | succ n => simp only [State.releases, e]

/-- Message `id` marked finished. -/
def Msg.finishedAs (id : Nat) (ok : Bool) (out : List Byte) (m : Msg) : Msg :=
  if m.id = id then { m with fin := some (ok, out) } else m

theorem Msg.owner_finishedAs (id : Nat) (ok : Bool) (out : List Byte) (m : Msg) :
    (m.finishedAs id ok out).owner = m.owner := by
  unfold Msg.finishedAs
  split <;> rfl

/-- The state in which a message has finished and its core taken other work. -/
def State.finished (m : Msg) (ok : Bool) (out : List Byte) (s : State) : State :=
  (s.modCip fun c => { c with
    msgs := c.msgs.map fun x => if x.id = m.id then { x with fin := some (ok, out) } else x }).coreDrop m.id

theorem State.finish_eq (m : Msg) (ok : Bool) (out : List Byte) : s.finish m ok out =
    (s.finished m ok out).releases m.owner (s.finished m ok out).cip.msgs.length := by
  rw [State.finish, State.finished]

theorem State.messages_finished (m : Msg) (ok : Bool) (out : List Byte) :
    (s.finished m ok out).messages = (s.cip.msgs.map (Msg.finishedAs m.id ok out), s.cip.wait) :=
  State.messages_coreDrop ..

/-- A message that finishes while an earlier one of its owner does not waits for its release. -/
theorem State.finish_waits {x y : Msg} {ok : Bool} {out : List Byte}
    (hy : s.cip.msgs.find? (fun m => m.owner == x.owner) = some y) (hf : y.fin = none) (hid : y.id ≠ x.id) :
    (s.finish x ok out).cip.msgs = s.cip.msgs.map (Msg.finishedAs x.id ok out) := by
  have msgs := State.msgs_of_messages (s.messages_finished x ok out)
  have oldest : (s.finished x ok out).cip.msgs.find? (fun m => m.owner == x.owner) = some y := by
    have same : ((fun m => m.owner == x.owner) ∘ Msg.finishedAs x.id ok out) = fun m : Msg => m.owner == x.owner :=
      funext fun m => by rw [Function.comp_apply, Msg.owner_finishedAs]
    rw [msgs, List.find?_map, same, hy, Option.map_some, Msg.finishedAs, if_neg hid]
  rw [State.finish_eq, State.releases_blocked _ oldest hf, msgs]

/-- The only message of its owner is released when it finishes. -/
theorem State.finish_releases {x : Msg} {id : Nat} {ok : Bool} {out : List Byte} {f : Nat} (hid : x.id = id)
    (hk : x.kind = .protect f) (hone : s.cip.msgs.filter (fun m => m.owner == x.owner) = [x])
    (hw : ∀ m ∈ s.cip.wait, m.owner ≠ x.owner) :
    s.finish x ok out = ((s.finished x ok out).msgGone id).protectDone f id ok := by
  have e := s.messages_finished x ok out
  have msgs : (s.finished x ok out).cip.msgs = s.cip.msgs.map (Msg.finishedAs x.id ok out) :=
    State.msgs_of_messages e
  have wait : (s.finished x ok out).cip.wait = s.cip.wait := State.wait_of_messages e
  have mem : ∀ {m}, m ∈ s.cip.msgs → m.owner = x.owner → m = x := fun hm ho =>
    List.mem_singleton.mp (hone ▸ List.mem_filter.mpr ⟨hm, beq_iff_eq.mpr ho⟩)
  have hx : x ∈ s.cip.msgs := List.mem_of_mem_filter (hone ▸ List.mem_singleton_self x)
  have oldest : (s.finished x ok out).cip.msgs.find? (fun m => m.owner == x.owner) = some { x with fin := some (ok, out) } := by
    have same : ((fun m => m.owner == x.owner) ∘ Msg.finishedAs x.id ok out) = fun m : Msg => m.owner == x.owner :=
      funext fun m => by rw [Function.comp_apply, Msg.owner_finishedAs]
    rw [msgs, List.find?_map, same, ← List.head?_filter, hone]
    simp only [List.head?_cons, Option.map_some, Msg.finishedAs, if_true]
  obtain ⟨t, ht⟩ : ∃ t, s.finished x ok out = t := ⟨_, rfl⟩
  rw [ht] at msgs wait oldest
  have gone : ∀ m ∈ (t.msgGone id).cip.msgs, m.owner ≠ x.owner := by
    refine t.msgGone_all (fun m hm hne => ?_) (fun m hm => hw m (wait ▸ hm))
    obtain ⟨y, hy, rfl⟩ := List.mem_map.mp (msgs ▸ hm)
    rw [Msg.owner_finishedAs]
    intro ho
    obtain rfl := mem hy ho
    simp [Msg.finishedAs, hid] at hne
  have cip : ((t.msgGone id).protectDone f id ok).cip = (t.msgGone id).cip := by
    unfold State.protectDone
    split
    · rw [(State.departed_upd ..).cip rfl, (State.purge_upd ..).cip rfl]
      rfl
    · rw [(State.departed_upd ..).cip rfl]
      rfl
  have len : ∃ n, t.cip.msgs.length = n + 1 :=
    Nat.exists_eq_succ_of_ne_zero (by
      rw [msgs, List.length_map]
      exact (List.length_pos_of_mem hx).ne')
  obtain ⟨n, hn⟩ := len
  rw [State.finish_eq, ht, hn, State.releases]
  simp only [oldest, State.release, hk, hid]
  exact State.releases_none _ (by rw [cip]; exact gone) n

/-- A frame whose protection ends with a good tag, or a bad one, is counted. -/
theorem State.protectDone_counts (f id : Nat) :
    (s.protectDone f id true).rd64 (R .CIP_ENC_FRM_LO f) (R .CIP_ENC_FRM_HI f) =
        (s.rd64 (R .CIP_ENC_FRM_LO f) (R .CIP_ENC_FRM_HI f) + 1) % 2 ^ 64 ∧
      (s.protectDone f id false).flag F.CIP_EVT_AUTH_FAIL = true ∧
      (s.protectDone f id false).rd64 (R .CIP_AUTH_FAIL_LO f) (R .CIP_AUTH_FAIL_HI f) =
        (s.rd64 (R .CIP_AUTH_FAIL_LO f) (R .CIP_AUTH_FAIL_HI f) + 1) % 2 ^ 64 := by
  simp only [State.protectDone, if_true, Bool.false_eq_true, if_false]
  refine ⟨?_, ?_, ?_⟩
  · rw [(State.departed_upd ..).rd64_of _ _ _ _ _ _ rfl rfl, (State.purge_upd ..).rd64_of _ _ _ _ _ _ rfl rfl]
    exact State.rd64_add64 _ rfl rfl rfl ..
  · rw [(State.departed_upd ..).flag _ _ _ rfl]
    exact State.flag_raise _ rfl rfl ..
  · rw [(State.departed_upd ..).rd64_of _ _ _ _ _ _ rfl rfl,
      State.rd64_congr (State.rd_raise_name _ rfl ..) (State.rd_raise_name _ rfl ..)]
    exact State.rd64_add64 _ rfl rfl rfl ..

/-- A message that finishes and leaves its entry changes the engine's status alone. -/
theorem State.msgGone_finished_upd (m : Msg) (ok : Bool) (out : List Byte) (id f : Nat) :
    ((s.finished m ok out).msgGone id).rd64 (R .CIP_ENC_FRM_LO f) (R .CIP_ENC_FRM_HI f) =
        s.rd64 (R .CIP_ENC_FRM_LO f) (R .CIP_ENC_FRM_HI f) ∧
      ((s.finished m ok out).msgGone id).rd64 (R .CIP_AUTH_FAIL_LO f) (R .CIP_AUTH_FAIL_HI f) =
        s.rd64 (R .CIP_AUTH_FAIL_LO f) (R .CIP_AUTH_FAIL_HI f) := by
  refine ⟨?_, ?_⟩ <;>
  · rw [(State.msgGone_upd ..).rd64_of _ _ _ _ _ _ rfl rfl, State.finished, (State.coreDrop_upd ..).rd64_of _ _ _ _ _ _ rfl rfl]
    rfl

/-- The message found under a number has it. -/
theorem State.id_of_msg {id : Nat} {x : Msg} (h : s.msg id = some x) : x.id = id :=
  beq_iff_eq.mp (List.find?_some (p := fun m : Msg => m.id == id) h)

/-! ## Seals -/

/-- An invalid seal header is a loss. -/
theorem State.sealHeader_loss {g : Nat} {h : List Byte} (hbad : h.length ≠ 16 ∨ crc16 112 (beAt h 0 14) ≠ half h 14 ∨
    half h 0 / 2 ^ 13 % 2 = 0 ∨ half h 2 % 4096 ≠ s.gid g ∨ 4096 < half h 0 % 2 ^ 13) :
    (s.sealHeader g h).flag F.CIP_EVT_SEAL_LOSS = true ∧
      (s.sealHeader g h).rdN (R .CIP_SEAL_LOSS g) = min (s.rdN (R .CIP_SEAL_LOSS g) + 1) 0xFFFFFFFF := by
  simp only [State.sealHeader]
  rw [if_pos (by simpa [or_assoc] using hbad)]
  refine ⟨?_, ?_⟩
  · rw [(State.sealDrop_upd ..).flag _ _ _ rfl]
    exact State.flag_raise _ rfl rfl ..
  · rw [(State.sealDrop_upd ..).rdN_of _ _ _ rfl, (State.modGctx_upd ..).rdN_of _ _ _ rfl, State.rdN,
      State.rd_raise_name _ rfl]
    exact s.rdN_bump _ rfl

section ValidHeader

variable {g : Nat} {h : List Byte} (hlen : h.length = 16) (hcrc : crc16 112 (beAt h 0 14) = half h 14)
  (hm : half h 0 / 2 ^ 13 % 2 = 1) (hg : half h 2 % 4096 = s.gid g) (hw : half h 0 % 2 ^ 13 ≤ 4096)

include hlen hcrc hm hg hw

theorem State.sealHeader_valid : ¬ ((h.length ≠ 16 || crc16 112 (beAt h 0 14) ≠ half h 14 || half h 0 / 2 ^ 13 % 2 = 0 ||
    half h 2 % 4096 ≠ s.gid g || 4096 < half h 0 % 2 ^ 13) = true) := by
  simp only [hlen, hcrc, hm, hg, ne_eq, not_true, decide_false, Bool.or_self, one_ne_zero, not_lt.mpr hw, Bool.false_eq_true,
    not_false_eq_true]

/-- A valid seal header without a key fails. -/
theorem State.sealHeader_noKey (hk : s.grpKey g (half h 0 / 2 ^ 14) = none) :
    s.sealHeader g h = (s.sealFail g).sealDrop g := by
  unfold State.sealHeader
  extract_lets w v pn wlen an
  rw [if_neg (s.sealHeader_valid hlen hcrc hm hg hw), show s.grpKey g an = none from hk]

/-- A valid seal header whose packet number is not new is a replay. -/
theorem State.sealHeader_replay {k : CipKey} (hk : s.grpKey g (half h 0 / 2 ^ 14) = some k)
    (hp : beAt h 4 8 ≤ (s.gctx g).rxPn.get 0 (half h 0 / 2 ^ 14)) :
    s.sealHeader g h = (s.sealReplay g).sealDrop g := by
  unfold State.sealHeader
  extract_lets w v pn wlen an
  rw [if_neg (s.sealHeader_valid hlen hcrc hm hg hw), show s.grpKey g an = some k from hk]
  exact if_pos hp

/-- A valid seal header with a new packet number is given to the engine. -/
theorem State.sealHeader_opens {k : CipKey} (hk : s.grpKey g (half h 0 / 2 ^ 14) = some k)
    (hp : (s.gctx g).rxPn.get 0 (half h 0 / 2 ^ 14) < beAt h 4 8) : s.sealHeader g h =
      s.newMsg { Msg.base (.opening g) (s.flag F.LFM_GRP_CFG_EXPRESS g) (4 * (half h 0 % 2 ^ 13)) (half h 0 / 2 ^ 14)
        (beAt h 4 8) k.key with iv := sealIv k.salt (s.gid g) (beAt h 4 8), aad := h.take 14 } := by
  unfold State.sealHeader
  extract_lets w v pn wlen an
  rw [if_neg (s.sealHeader_valid hlen hcrc hm hg hw), show s.grpKey g an = some k from hk]
  exact if_neg (not_le.mpr hp)

end ValidHeader

/-! ## Keys -/

/-- The result of a key command: its code is shown, the staging cleared, and slots and KEKs kept. -/
theorem State.keyResult_shows {code : Nat} (h : code < 2 ^ F.CIP_KEY_RESULT_CODE.len) :
    (s.keyResult code).fld F.CIP_KEY_RESULT_CODE = code ∧ (s.keyResult code).cip.data = [] ∧
      (s.keyResult code).cip.salt = [] ∧ (∀ n, (s.keyResult code).keySlot n = s.keySlot n) ∧
      ∀ n, (s.keyResult code).kek n = s.kek n := by
  refine ⟨?_, rfl, rfl, fun _ => rfl, fun _ => rfl⟩
  unfold State.keyResult
  refine (State.fld_raise_apart _ ?_ ..).trans (State.fld_setFld_lt _ rfl h ..)
  split <;> rfl

theorem State.keyDone_event : (s.keyResult 0).flag F.CIP_EVT_KEY_DONE = true := State.flag_raise _ rfl rfl ..

theorem State.keySlot_setSlot (n : Nat) (k : Option CipKey) : (s.setSlot n k).keySlot n = k := NTab.get_set_same ..

theorem State.kek_setKek (n : Nat) (k : Option (BitVec 256)) : (s.setKek n k).kek n = k := by
  show NTab.get none ((s.modCip fun c => { c with keks := c.keks.set none n k }).kekShow).cip.keks n = k
  exact NTab.get_set_same ..

theorem State.keySlot_grpPns (n m : Nat) : (s.grpPns n).keySlot m = s.keySlot m :=
  s.each_keeps (fun t => t.keySlot m) (fun g s => s.modGctx g fun x =>
    { x with txPn := x.txPn.set 0 (n % 4) 0, rxPn := x.rxPn.set 0 (n % 4) 0 }) (fun _ _ => rfl) _

/-- LOAD_KEY without a refusal unwraps the staged key into its slot. -/
theorem State.loadKey_unwraps {v : W32} {k : BitVec 256} (ha : s.activeSlot (F.CIP_KEY_CMD_SLOT.get v) = false)
    (h1 : 1 ≤ F.CIP_KEY_CMD_KEK.get v) (hk : s.kek (F.CIP_KEY_CMD_KEK.get v) = some k) (he : s.entHalt = false) :
    s.loadKey v = (Config.unwrap k s.keyWords).elim (s.keyResult 1) fun key =>
      ((s.setSlot (F.CIP_KEY_CMD_SLOT.get v) (some ⟨key, s.saltNow, 1, false, 1⟩)).grpPns
        (F.CIP_KEY_CMD_SLOT.get v)).keyResult 0 := by
  simp only [State.loadKey, ha, Bool.false_eq_true, if_false, Nat.ne_of_gt h1, hk, he]
  cases Config.unwrap k s.keyWords <;> rfl

/-- LOAD_KEK without a refusal unwraps the staged key into its KEK. -/
theorem State.loadKek_unwraps {v : W32} {k : BitVec 256} (h1 : 1 ≤ F.CIP_KEY_CMD_SLOT.get v % 4) (hk : s.kek0 = some k)
    (he : s.entHalt = false) : s.loadKek v = (Config.unwrap k s.keyWords).elim (s.keyResult 1) fun key =>
      (s.setKek (F.CIP_KEY_CMD_SLOT.get v % 4) (some key)).keyResult 0 := by
  simp only [State.loadKek, Nat.ne_of_gt h1, Bool.false_eq_true, if_false, hk, he]
  cases Config.unwrap k s.keyWords <;> rfl

/-! ## The commands -/

/-- Settles O13. -/
theorem cipherCommandsComplete : Obligations.CipherCommandsComplete := by
  refine ⟨?sealLoss, ?sealNoKey, ?sealReplay, ?sealOpens, ?waits, ?released, ?failed, ?timeout, ?loadKey, ?loadKek, ?erase,
    ?eraseKek, ?txAnFlow, ?txAnGroup, ?entFail, ?entOk⟩
  case sealLoss =>
    intro s g h h6 h7 hg henc hup hpay hskip hidle hbad
    exact Completes.of_if rfl (by simp [h6, h7, hg, henc, hup, hpay, hskip, hidle]) (s.sealHeader_loss hbad)
  case sealNoKey =>
    intro s g h h6 h7 hg henc hup hpay hskip hidle hlen hcrc hm hid hw hk
    refine Completes.of_if rfl (by simp [h6, h7, hg, henc, hup, hpay, hskip, hidle]) ?_
    rw [s.sealHeader_noKey hlen hcrc hm hid hw hk]
    refine ⟨?_, ?_⟩
    · rw [(State.sealDrop_upd ..).flag _ _ _ rfl]
      exact State.flag_raise _ rfl rfl ..
    · rw [(State.sealDrop_upd ..).rd64_of _ _ _ _ _ _ rfl rfl, State.sealFail,
        State.rd64_congr (State.rd_raise_name _ rfl ..) (State.rd_raise_name _ rfl ..)]
      exact s.rd64_add64 rfl rfl rfl ..
  case sealReplay =>
    intro s g h k h6 h7 hg henc hup hpay hskip hidle hlen hcrc hm hid hw hk hp
    refine Completes.of_if rfl (by simp [h6, h7, hg, henc, hup, hpay, hskip, hidle]) ?_
    rw [s.sealHeader_replay hlen hcrc hm hid hw hk hp]
    refine ⟨?_, ?_⟩
    · rw [(State.sealDrop_upd ..).flag _ _ _ rfl]
      exact State.flag_raise _ rfl rfl ..
    · rw [(State.sealDrop_upd ..).rdN_of _ _ _ rfl, State.sealReplay, State.rdN, State.rd_raise_name _ rfl]
      exact s.rdN_bump _ rfl
  case sealOpens =>
    intro s g h k h6 h7 hg henc hup hpay hskip hidle hlen hcrc hm hid hw hk hp
    refine Completes.of_if rfl (by simp [h6, h7, hg, henc, hup, hpay, hskip, hidle]) ?_
    rw [s.sealHeader_opens hlen hcrc hm hid hw hk hp]
    exact ⟨_, s.newMsg_entered _, rfl, rfl, rfl, rfl, rfl, rfl, rfl, rfl⟩
  case waits =>
    intro s id ok out x y hd hx hf hy hyf hne
    refine Completes.of_exec (t := s.finish x ok out) (by simp only [exec, execCipherDone, hx, hd, hf, Option.isNone_none,
      Bool.and_self, if_true]) ?_
    rw [State.finish_waits s hy hyf (by rwa [s.id_of_msg hx]), s.id_of_msg hx]
    rfl
  case released =>
    intro s id out x f hd hx hf hk hone hw
    refine Completes.of_exec (t := s.finish x true out) (by simp only [exec, execCipherDone, hx, hd, hf, Option.isNone_none,
      Bool.and_self, if_true]) ?_
    rw [s.finish_releases (s.id_of_msg hx) hk hone hw, (State.protectDone_counts ..).1, (s.msgGone_finished_upd ..).1]
  case failed =>
    intro s id out x f hd hx hf hk hone hw
    refine Completes.of_exec (t := s.finish x false out) (by simp only [exec, execCipherDone, hx, hd, hf, Option.isNone_none,
      Bool.and_self, if_true]) ?_
    rw [s.finish_releases (s.id_of_msg hx) hk hone hw]
    obtain ⟨-, event, count⟩ := State.protectDone_counts ((s.finished x false out).msgGone id) f id
    rw [count, (s.msgGone_finished_upd ..).2]
    exact ⟨event, rfl⟩
  case timeout =>
    intro s id x hd hx hf
    refine ⟨_, by simp only [exec, execCipherTimeout, hx, hd, hf, Option.isNone_none, Bool.and_self, if_true]
                  rfl, ?_, ?_⟩
    · rw [(State.detect_upd ..).flag _ _ _ rfl]
      exact State.flag_raise _ rfl rfl ..
    · rw [(State.detect_upd ..).rdN_of _ _ _ rfl, State.rdN, State.rd_raise_name _ rfl]
      refine (State.rdN_bump _ _ rfl).trans ?_
      rw [(State.finish_upd ..).rdN_of _ _ _ rfl]
      split
      · rw [(State.count_upd ..).rdN_of _ _ _ rfl]
      · rfl
  case loadKey =>
    intro s m v k ha hc hact h1 hk he
    refine Completes.of_guardW ha rfl ?_
    simp only [State.keyCmdWrite, hc]
    rw [State.loadKey_unwraps (s.rewritten _) hact h1 hk he, show (s.rewritten _).keyWords = s.keyWords from rfl]
    cases Config.unwrap k s.keyWords with
    | none =>
      obtain ⟨code, data, salt, slots, -⟩ := State.keyResult_shows (s.rewritten (R .CIP_KEY_CMD)) (code := 1) (by decide)
      exact ⟨slots _, data, salt, code⟩
    | some key =>
      simp only [Option.elim_some]
      obtain ⟨code, data, salt, slots, -⟩ := State.keyResult_shows (((s.rewritten (R .CIP_KEY_CMD)).setSlot
        (F.CIP_KEY_CMD_SLOT.get v) (some ⟨key, s.saltNow, 1, false, 1⟩)).grpPns (F.CIP_KEY_CMD_SLOT.get v)) (code := 0)
        (by decide)
      exact ⟨(slots _).trans ((State.keySlot_grpPns ..).trans (State.keySlot_setSlot ..)), data, salt, code⟩
  case loadKek =>
    intro s m v k ha hc h1 he hk
    refine Completes.of_guardW ha rfl ?_
    simp only [State.keyCmdWrite, hc]
    rw [State.loadKek_unwraps (s.rewritten _) h1 hk he, show (s.rewritten _).keyWords = s.keyWords from rfl]
    cases Config.unwrap k s.keyWords with
    | none =>
      obtain ⟨code, -, -, -, keks⟩ := State.keyResult_shows (s.rewritten (R .CIP_KEY_CMD)) (code := 1) (by decide)
      exact ⟨keks _, code⟩
    | some key =>
      obtain ⟨code, -, -, -, keks⟩ := State.keyResult_shows ((s.rewritten (R .CIP_KEY_CMD)).setKek
        (F.CIP_KEY_CMD_SLOT.get v % 4) (some key)) (code := 0) (by decide)
      exact ⟨(keks _).trans (State.kek_setKek ..), code⟩
  case erase =>
    intro s m v ha hc he
    refine Completes.of_guardW ha rfl ?_
    have he' : (s.rewritten (R .CIP_KEY_CMD)).entHalt = false := he
    simp only [State.keyCmdWrite, hc, he', Bool.false_eq_true, if_false]
    obtain ⟨code, -, -, slots, -⟩ := State.keyResult_shows ((s.rewritten (R .CIP_KEY_CMD)).setSlot
      (F.CIP_KEY_CMD_SLOT.get v) none) (code := 0) (by decide)
    exact ⟨(slots _).trans (State.keySlot_setSlot ..), code, State.keyDone_event _⟩
  case eraseKek =>
    intro s m v ha hc h1 he
    refine Completes.of_guardW ha rfl ?_
    have he' : (s.rewritten (R .CIP_KEY_CMD)).entHalt = false := he
    simp only [State.keyCmdWrite, hc, he', Nat.ne_of_gt h1, Bool.false_eq_true, if_false]
    obtain ⟨code, -, -, -, keks⟩ := State.keyResult_shows ((s.rewritten (R .CIP_KEY_CMD)).setKek
      (F.CIP_KEY_CMD_SLOT.get v % 4) none) (code := 0) (by decide)
    exact ⟨(keks _).trans (State.kek_setKek ..), code, State.keyDone_event _⟩
  case txAnFlow =>
    intro s m i v ha
    exact Completes.of_guardW ha rfl (State.fld_plainWrite_rw _ rfl ..)
  case txAnGroup =>
    intro s m i v ha
    exact Completes.of_guardW ha rfl (State.fld_plainWrite_rw _ rfl ..)
  case entFail =>
    intro s hd
    refine Completes.of_if rfl hd ⟨?_, ?_, ?_⟩
    · rw [State.flag, State.fld_bump_id _ rfl, State.fld_raise_apart _ rfl]
      exact s.flag_setFlag rfl rfl false 0 0
    · rw [State.flag, State.fld_bump_id _ rfl]
      exact State.flag_raise _ rfl rfl ..
    · refine (State.rdN_bump _ _ rfl).trans ?_
      rw [State.rdN, State.rd_raise_name _ rfl, State.rd_setFlag_name _ rfl]
      rfl
  case entOk =>
    intro s hd hok
    refine Completes.of_if rfl (by simp [hd, hok]) ⟨?_, State.flag_raise _ rfl rfl ..⟩
    rw [State.flag_raise_apart _ rfl]
    exact s.flag_setFlag rfl rfl true 0 0

end Sys2Proof.Machine
end

section
/-! The Hayloft: accesses, merge buffer, scrubbing, retirement, capture and the aperture (spec/08, R186 to R200): O14. -/

namespace Sys2Proof.Machine

variable (s : State)

/-! ## Bytes laid into a table -/

/-- Bytes laid into a table from address `a` on, each as `g` says; the numbering of the list begins with `n`. -/
def layAt {α : Type} [DecidableEq α] (d : α) (g : Byte → α) (a n : Nat) (l : List Byte) (t : NTab α) : NTab α :=
  (l.zipIdx n).foldl (fun t x => NTab.set d t (a + x.2) (g x.1)) t

theorem layAt_cons {α : Type} [DecidableEq α] (d : α) (g : Byte → α) (a n : Nat) (b : Byte) (l : List Byte)
    (t : NTab α) : layAt d g a n (b :: l) t = layAt d g a (n + 1) l (NTab.set d t (a + n) (g b)) := rfl

/-- An address that none of the bytes goes to keeps its entry. -/
theorem get_layAt_out {α : Type} [DecidableEq α] (d : α) (g : Byte → α) {a i : Nat} (l : List Byte) (n : Nat)
    (t : NTab α) (h : i < a + n ∨ a + n + l.length ≤ i) : NTab.get d (layAt d g a n l t) i = NTab.get d t i := by
  induction l generalizing n t with
  | nil => rfl
  | cons b l ih =>
    rw [List.length_cons] at h
    rw [layAt_cons, ih _ _ (by omega), NTab.get_set_ne _ _ (by omega)]

/-- An address that a byte goes to holds it. -/
theorem get_layAt_in {α : Type} [DecidableEq α] (d : α) (g : Byte → α) {a k : Nat} {b : Byte} (l : List Byte) (n : Nat)
    (t : NTab α) (h : l[k]? = some b) : NTab.get d (layAt d g a n l t) (a + n + k) = g b := by
  induction l generalizing n k t with
  | nil => cases h
  | cons c l ih =>
    rw [layAt_cons]
    cases k with
    | zero =>
      rw [get_layAt_out _ _ _ _ _ (.inl (by omega)), Nat.add_zero, NTab.get_set_same]
      exact congrArg g (Option.some.inj h)
    | succ k => rw [show a + n + (k + 1) = a + (n + 1) + k by omega, ih _ _ h]

theorem Tab.length_erase_le {κ α : Type} [DecidableEq κ] (k : κ) (t : List (κ × α)) :
    (Tab.erase k t).length ≤ t.length := by
  induction t with
  | nil => exact Nat.le_refl _
  | cons e t ih =>
    rw [Tab.erase]
    split
    · exact Nat.le_succ_of_le ih
    · exact Nat.succ_le_succ ih

theorem Tab.length_ins {κ α : Type} (lt : κ → κ → Bool) (k : κ) (v : α) (t : List (κ × α)) :
    (Tab.ins lt k v t).length = t.length + 1 := by
  induction t with
  | nil => rfl
  | cons e t ih =>
    rw [Tab.ins]
    split
    · rfl
    · exact congrArg Nat.succ ih

theorem NTab.length_set_le {α : Type} [DecidableEq α] (d : α) (t : NTab α) (k : Nat) (v : α) :
    (NTab.set d t k v).length ≤ t.length + 1 := by
  have h := Tab.length_erase_le k t
  unfold NTab.set Tab.set
  split
  · exact Nat.le_succ_of_le h
  · rw [Tab.length_ins]
    exact Nat.succ_le_succ h

/-- Bytes laid into a table list at most as many more entries. -/
theorem length_layAt_le {α : Type} [DecidableEq α] (d : α) (g : Byte → α) (a : Nat) (l : List Byte) (n : Nat)
    (t : NTab α) : (layAt d g a n l t).length ≤ t.length + l.length := by
  induction l generalizing n t with
  | nil => exact Nat.le_refl _
  | cons b l ih =>
    have h := NTab.length_set_le d t (a + n) (g b)
    have h' := ih (n + 1) (NTab.set d t (a + n) (g b))
    rw [layAt_cons, List.length_cons]
    omega

/-- A key that a table reads otherwise than unlisted is listed. -/
theorem NTab.mem_of_get {α : Type} {t : NTab (Option α)} {k : Nat} {b : α} (h : NTab.get none t k = some b) :
    (k, some b) ∈ t := by
  induction t with
  | nil => cases h
  | cons e t ih =>
    obtain ⟨k', v⟩ := e
    simp only [NTab.get, Tab.get, Tab.look] at h ih
    by_cases hk : k' = k
    · rw [if_pos hk] at h
      exact List.mem_cons.mpr (.inl (Prod.ext hk.symm h.symm))
    · rw [if_neg hk] at h
      exact List.mem_cons_of_mem _ (ih h)

/-! ## The Hayloft behind the operations that touch it -/

/-- A retirement brought up to date changes the retirement table alone. -/
theorem State.hay_retSettle : ∃ l, s.retSettle.hay = { s.hay with ret := l } := by
  unfold State.retSettle
  split
  · exact ⟨_, rfl⟩
  · exact ⟨s.hay.ret, rfl⟩

theorem State.hay_log (a b c : Nat) (d : List W32) (e : Bool) : (s.log a b c d e).hay = s.hay :=
  (State.log_upd ..).hay rfl

theorem State.hay_hayEntry (type sym line i : Nat) :
    (s.hayEntry type sym line i).hay = { s.hay with logOrder := s.hayOrder.filter (· ≠ i) ++ [i] } := by
  unfold State.hayEntry
  extract_lets l w0
  obtain ⟨t, ht⟩ : ∃ t, ((((s.wr (R .HAY_LOG_W0 i) w0).wrN (R .HAY_LOG_W1 i) line).wrN (R .HAY_LOG_W2 i) s.sec).wrN
      (R .HAY_LOG_W3 i) (s.ns + 2 ^ 31 * bit s.tagValid)).setFld F.HAY_LOG_STATUS_LAST i = t := ⟨_, rfl⟩
  have hay : t.hay = s.hay := by
    rw [← ht, State.setFld_hay, State.wrN_hay, State.wrN_hay, State.wrN_hay, State.wr_hay]
  rw [ht]
  exact congrArg (fun h : Hay => { h with logOrder := l }) hay

/-- The error log changes the order of its slots alone. -/
theorem State.hay_hayLog (type sym line : Nat) : ∃ l, (s.hayLog type sym line).hay = { s.hay with logOrder := l } := by
  have e : (s.log 0x0060 type 0 [BitVec.ofNat 32 line]).hay = s.hay := s.hay_log ..
  have entry : ∀ (t : State) i, t.hay = s.hay → ∃ l, (t.hayEntry type sym line i).hay = { s.hay with logOrder := l } :=
    fun t i h => ⟨_, (t.hay_hayEntry ..).trans (by rw [h])⟩
  unfold State.hayLog
  extract_lets t last ord
  have ht : t.hay = s.hay := e
  have kept : ∀ u : State, u.hay = t.hay → ∃ l, u.hay = { s.hay with logOrder := l } :=
    fun u h => ⟨s.hay.logOrder, h.trans ht⟩
  split
  · exact kept _ rfl
  · split
    · exact entry _ _ ht
    · split
      · split
        · exact entry _ _ ht
        · exact kept _ rfl
      · split
        · exact entry _ _ ht
        · exact kept _ rfl

/-- Whether read-back is up to date depends on the flows and the schedulers. -/
theorem State.readUp_congr {s t : State} (hf : t.flows = s.flows) (hd : t.drr = s.drr) : t.readUp = s.readUp := by
  have flow : ∀ f, t.flow f = s.flow f := fun f => by rw [State.flow, hf, State.flow]
  have turn : ∀ f, t.turn f = s.turn f := fun f => by rw [State.turn, flow, hd]; rfl
  have reading : ∀ f, t.reading f = s.reading f := fun f => by rw [State.reading, flow, State.reading]
  have window : ∀ f, t.hasWindow f = s.hasWindow f := fun f => by
    simp only [State.hasWindow, State.hayFlows, hf, turn, show t.reading = s.reading from funext reading]
    rfl
  simp only [State.readUp, State.hayFlows, hf, window, flow]

/-- Lines that are all asked for, or as far ahead as they may be, are asked for no further. -/
theorem State.readLines_done {f : Nat} (n : Nat) (h : (s.flow f).hayIn ≤ 64 * (s.flow f).hayRd ∨
    (s.flow f).hayOut / 64 + 1024 ≤ (s.flow f).hayRd) : s.readLines f n = s := by
  cases n with
  | zero => rfl
  | succ n => exact if_pos (by simpa using h)

/-- Read-back that is up to date asks for nothing. -/
theorem State.readBack_of_up (h : s.readUp = true) : s.readBack = s := by
  have key : ∀ l : List Nat, (l.all fun f => !s.hasWindow f || decide ((s.flow f).hayIn ≤ 64 * (s.flow f).hayRd) ||
      decide ((s.flow f).hayOut / 64 + 1024 ≤ (s.flow f).hayRd)) = true →
      (s.each l fun f s => if s.hasWindow f then s.readLines f 1025 else s) = s := by
    intro l
    induction l with
    | nil => exact fun _ => rfl
    | cons f l ih =>
      intro h
      rw [List.all_cons, Bool.and_eq_true, Bool.or_eq_true, Bool.or_eq_true] at h
      obtain ⟨hf, hl⟩ := h
      have step : (if s.hasWindow f then s.readLines f 1025 else s) = s := by
        split
        · next hw => exact s.readLines_done _ (by simpa [hw] using hf)
        · rfl
      rw [State.each, step]
      exact ih hl
  unfold State.readBack
  split
  · exact key _ h
  · rfl

/-- Read-back is up to date after a change that leaves the flows and the schedulers. -/
theorem State.readBack_of_kept {s t : State} (h : s.readUp = true) (hf : t.flows = s.flows) (hd : t.drr = s.drr) :
    t.readBack = t := t.readBack_of_up ((State.readUp_congr hf hd).trans h)

/-! ## Writes of lines -/

/-- Bytes of a write are in the memory. -/
theorem State.get_hayPut {a k : Nat} {l : List Byte} {b : Byte} (h : l[k]? = some b) :
    (s.hayPut a l).hayMem.get 0 (a + k) = b :=
  get_layAt_in 0 id l 0 s.hayMem h

/-- A write leaves the bytes outside it. -/
theorem State.get_hayPut_out {a i : Nat} (l : List Byte) (h : i < a ∨ a + l.length ≤ i) :
    (s.hayPut a l).hayMem.get 0 i = s.hayMem.get 0 i :=
  get_layAt_out 0 id l 0 s.hayMem h

theorem State.blocks_hayOpen (b : Nat) : b ∈ (s.hayOpen b).hay.blocks := by
  unfold State.hayOpen
  split
  · next h => exact List.contains_iff_mem.mp h
  · exact List.mem_cons_self

/-- A whole line written is not poisoned, and its block is open (R192, R194). -/
theorem State.hayWhole_clean (line : Nat) (l : List Byte) :
    line ∉ (s.hayWhole line l).hay.poison ∧ line / 1024 ∈ (s.hayWhole line l).hay.blocks :=
  ⟨fun h => by simpa using (List.mem_filter.mp h).2, s.blocks_hayOpen _⟩

theorem State.get_hayWhole {line k : Nat} {l : List Byte} {b : Byte} (hk : k < 64) (h : l[k]? = some b) :
    (s.hayWhole line l).hayMem.get 0 (64 * line + k) = b :=
  State.get_hayPut _ (by rwa [List.getElem?_take, if_pos hk])

/-- A line write opens a block at most: the accesses asked for stay. -/
theorem State.acc_hayWhole (line : Nat) (l : List Byte) : (s.hayWhole line l).hay.acc = s.hay.acc := by
  change (s.hayOpen (line / 1024)).hay.acc = _
  unfold State.hayOpen
  split <;> rfl

theorem State.merge_hayWhole (line : Nat) (l : List Byte) : (s.hayWhole line l).hay.merge = s.hay.merge := by
  change (s.hayOpen (line / 1024)).hay.merge = _
  unfold State.hayOpen
  split <;> rfl

/-! ## Accesses -/

/-- A Sorting Office access in flight is of the line and for the use that complete it. -/
theorem State.inFlight_flow {a : HayAcc} {r : HayReq} (hu : (∃ f, a.use = .flowWrite f) ∨ ∃ f, a.use = .flowRead f)
    (h : s.inFlight a = some r) : r.line = a.line ∧ r.use = a.use := by
  have e : s.inFlight a = ((s.hay.acc.take 512).find? (·.line = a.line)).filter (·.use = a.use) := by
    rcases hu with ⟨f, hu⟩ | ⟨f, hu⟩ <;> simp [State.inFlight, hu]
  rw [e, Option.filter_eq_some_iff] at h
  exact ⟨by simpa using List.find?_some h.1, by simpa using h.2⟩

theorem exec_hayAccessDone_inFlight {a : HayAcc} {r : HayReq} (hr : s.inFlight a = some r) (ho : s.hayOn = true)
    (hl : 64 * a.line < s.hayBytes) : exec (.hayAccessDone a) s = .next (s.accessDone a r) := by
  change execHayAccessDone a s = _
  simp only [execHayAccessDone, hr, ho, hl, decide_true, Bool.and_self, if_true]

theorem exec_accTimeout_inFlight {a : HayAcc} {r : HayReq} (hr : s.inFlight a = some r) (ho : s.hayOn = true)
    (hl : 64 * a.line < s.hayBytes) : exec (.accTimeout a) s = .next (s.accessLate a r) := by
  change execAccTimeout a s = _
  simp only [execAccTimeout, hr, ho, hl, decide_true, Bool.and_self, if_true]

theorem State.inFlight_deskewRead {a : HayAcc} {g : Nat} (hu : a.use = .deskewRead g)
    (hd : (s.grp g).dsk.contains (a.line / 64) = true) : s.inFlight a = some ⟨a.line, .deskewRead g, []⟩ := by
  simp only [State.inFlight, hu, hd, if_true]

/-- An access leaves its entry and is counted. -/
def State.accLeft (a : HayAcc) (r : HayReq) (s : State) : State :=
  (s.modHay fun h => { h with acc := h.acc.erase r }).count (if isRead a.use then 0x0C0 else 0x0C1) 0 1

theorem State.hay_accLeft (a : HayAcc) (r : HayReq) :
    (s.accLeft a r).hay = { s.hay with acc := s.hay.acc.erase r } := (State.count_upd ..).hay rfl

theorem State.flows_accLeft (a : HayAcc) (r : HayReq) : (s.accLeft a r).flows = s.flows := (State.count_upd ..).flows rfl

theorem State.drr_accLeft (a : HayAcc) (r : HayReq) : (s.accLeft a r).drr = s.drr := (State.count_upd ..).drr rfl

/-- An access that is no read does what it asked for; its data come without a flag. -/
theorem State.accessDone_write {a : HayAcc} {r : HayReq} (h : isRead a.use = false) :
    s.accessDone a r = ((s.accLeft a r).reqDone r false).readBack := by
  simp only [State.accessDone, State.accLeft, h, Bool.false_eq_true, if_false]

/-- A read is decoded before its data are used. -/
theorem State.accessDone_read {a : HayAcc} {r : HayReq} (h : isRead a.use = true) : s.accessDone a r =
    (((s.accLeft a r).hayRead a.line a.ecc).2.reqDone r ((s.accLeft a r).hayRead a.line a.ecc).1).readBack := by
  simp only [State.accessDone, State.accLeft, h, if_true]

/-- A clean line that is not poisoned reads without a flag and changes nothing. -/
theorem State.hayDecode_clean {line : Nat} (hw : s.hay.wrong.contains line = false) (scrub : Bool) :
    s.hayDecode line .clean scrub = s := by
  simp only [State.hayDecode, State.eccOf, hw, Bool.false_eq_true, if_false, eccTaken]

theorem State.hayRead_clean {line : Nat} (hp : s.hay.poison.contains line = false)
    (hw : s.hay.wrong.contains line = false) : s.hayRead line .clean = (false, s) := by
  have e : (HayEcc.clean == HayEcc.ue) = false := rfl
  unfold State.hayRead
  split
  · rfl
  · simp only [s.hayDecode_clean hw, State.eccOf, hw, hp, eccTaken, e, State.when, Bool.false_eq_true, if_false,
      Bool.or_self]

/-- A foreground read of an uncorrectable line of an open block: its data come flagged, the line is poisoned and the
error counted; no flow changes. -/
theorem State.hayRead_ue {line : Nat} (hb : s.blockOpen (line / 1024) = true) :
    (s.hayRead line .ue).1 = true ∧ line ∈ (s.hayRead line .ue).2.hay.poison ∧
      (s.hayRead line .ue).2.rdN (R .HAY_UE_TOT) = min (s.rdN (R .HAY_UE_TOT) + 1) 0xFFFFFFFF ∧
      (s.hayRead line .ue).2.flows = s.flows ∧ (s.hayRead line .ue).2.drr = s.drr := by
  have ecc : s.eccOf line .ue = .ue := by
    unfold State.eccOf eccTaken
    split <;> rfl
  have poisoned : ∀ l : List Nat, line ∈ if l.contains line = true then l else line :: l := fun l => by
    split
    · next h => exact List.contains_iff_mem.mp h
    · exact List.mem_cons_self
  unfold State.hayRead
  rw [hb, if_neg (by decide)]
  refine ⟨by simp [ecc], ?_⟩
  simp only [State.hayDecode, ecc]
  set t := (((s.poisonLine line).bump (R .HAY_UE_TOT)).raise F.HAY_EVT_UE)
  have ht : line ∈ ((s.hayUe line false).eccMend line).hay.poison := by
    obtain ⟨l, hl⟩ := t.hay_hayLog 3 0x3F line
    change line ∈ (t.hayLog 3 0x3F line).hay.poison
    rw [hl]
    exact poisoned s.hay.poison
  have hn : ((s.hayUe line false).eccMend line).rdN (R .HAY_UE_TOT) = min (s.rdN (R .HAY_UE_TOT) + 1) 0xFFFFFFFF := by
    change (t.hayLog 3 0x3F line).rdN _ = _
    rw [(State.hayLog_upd ..).rdN_of _ _ _ rfl, State.rdN, State.rd_raise_name _ rfl]
    exact State.rdN_bump _ _ rfl
  have hf : ((s.hayUe line false).eccMend line).flows = s.flows := (State.hayLog_upd 3 0x3F line t).flows rfl
  have hd : ((s.hayUe line false).eccMend line).drr = s.drr := (State.hayLog_upd 3 0x3F line t).drr rfl
  refine State.when_holds _ (fun x => line ∈ x.hay.poison ∧ x.rdN (R .HAY_UE_TOT) = min (s.rdN (R .HAY_UE_TOT) + 1)
    0xFFFFFFFF ∧ x.flows = s.flows ∧ x.drr = s.drr) _ _ ⟨ht, hn, hf, hd⟩ fun ⟨hp, hn, hf, hd⟩ => ⟨?_, ?_, ?_, ?_⟩
  · obtain ⟨l, hl⟩ := (((s.hayUe line false).eccMend line).raise F.HAY_EVT_POISON_READ).hay_hayLog 4 0x3F line
    rw [hl]
    exact hp
  · rw [(State.hayLog_upd ..).rdN_of _ _ _ rfl, State.rdN, State.rd_raise_name _ rfl]
    exact hn
  · exact ((State.hayLog_upd ..).flows rfl).trans hf
  · exact ((State.hayLog_upd ..).drr rfl).trans hd

theorem State.reqDone_deskewRead (line g : Nat) (data : List Byte) :
    s.reqDone ⟨line, .deskewRead g, data⟩ true = s.deskewBad g := rfl

/-- A deskew read of an uncorrectable line marks the group's data. -/
theorem State.accessDone_deskewRead_ue {a : HayAcc} {g : Nat} (hu : a.use = .deskewRead g) (he : a.ecc = .ue)
    (hb : s.blockOpen (a.line / 1024) = true) (hr : s.readUp = true) :
    a.line ∈ (s.accessDone a ⟨a.line, .deskewRead g, []⟩).hay.poison ∧
      (s.accessDone a ⟨a.line, .deskewRead g, []⟩).rdN (R .HAY_UE_TOT) = min (s.rdN (R .HAY_UE_TOT) + 1) 0xFFFFFFFF ∧
      ((s.accessDone a ⟨a.line, .deskewRead g, []⟩).delin.get Delin.init g).dirty = true := by
  have ue0 : (s.accLeft a ⟨a.line, .deskewRead g, []⟩).rdN (R .HAY_UE_TOT) = s.rdN (R .HAY_UE_TOT) :=
    (State.count_upd ..).rdN_of _ _ _ rfl
  rw [s.accessDone_read (by rw [hu]; rfl), he]
  have hay := s.hay_accLeft a ⟨a.line, .deskewRead g, []⟩
  have flows := s.flows_accLeft a ⟨a.line, .deskewRead g, []⟩
  have drr := s.drr_accLeft a ⟨a.line, .deskewRead g, []⟩
  generalize s.accLeft a ⟨a.line, .deskewRead g, []⟩ = t at *
  obtain ⟨h1, hp, hn, hf, hd⟩ := t.hayRead_ue (line := a.line) (by rwa [State.blockOpen, hay])
  rw [h1, State.reqDone_deskewRead]
  generalize (t.hayRead a.line .ue).2 = u at *
  rw [State.readBack_of_kept (t := u.deskewBad g) hr (hf.trans flows) (hd.trans drr)]
  refine ⟨hp, ue0 ▸ hn, ?_⟩
  exact congrArg Delin.dirty (NTab.get_mod_same Delin.init u.delin g fun d => { d with dirty := true })

/-- A flow's line is written (R186). -/
theorem State.accessDone_flowWrite {a : HayAcc} {r : HayReq} {f : Nat} (hu : a.use = .flowWrite f)
    (hr : s.inFlight a = some r) (hup : s.readUp = true) :
    s.accessDone a r = (s.accLeft a r).hayWhole a.line r.data := by
  obtain ⟨line, use⟩ := s.inFlight_flow (.inl ⟨f, hu⟩) hr
  have flows : ((s.accLeft a r).hayWhole a.line r.data).flows = s.flows :=
    ((State.hayWhole_upd ..).flows rfl).trans (s.flows_accLeft a r)
  have drr : ((s.accLeft a r).hayWhole a.line r.data).drr = s.drr :=
    ((State.hayWhole_upd ..).drr rfl).trans (s.drr_accLeft a r)
  have done : (s.accLeft a r).reqDone r false = (s.accLeft a r).hayWhole a.line r.data := by
    simp only [State.reqDone, use, hu, line, Bool.false_eq_true, if_false]
  rw [s.accessDone_write (by rw [hu]; rfl), done, State.readBack_of_kept hup flows drr]

/-- A line of a flow that holds it arrives. -/
theorem State.lineGot_of {f line j : Nat} (h : (s.flow f).lineIdx line = some j) :
    s.lineGot f line = s.modFlow f fun fl => { fl with hayGot := j :: fl.hayGot.filter (· ≠ j) } := by
  simp only [State.lineGot, h]

/-- A flow's line is read without error (R186). -/
theorem State.accessDone_flowRead {a : HayAcc} {r : HayReq} {f j : Nat} (hu : a.use = .flowRead f)
    (he : a.ecc = .clean) (hr : s.inFlight a = some r) (hup : (s.lineGot f a.line).readUp = true)
    (hp : s.hay.poison.contains a.line = false) (hw : s.hay.wrong.contains a.line = false)
    (hj : (s.flow f).lineIdx a.line = some j) :
    s.accessDone a r = (s.accLeft a r).modFlow f fun fl => { fl with hayGot := j :: fl.hayGot.filter (· ≠ j) } := by
  obtain ⟨line, use⟩ := s.inFlight_flow (.inr ⟨f, hu⟩) hr
  set t := s.accLeft a r
  have hay : t.hay = { s.hay with acc := s.hay.acc.erase r } := s.hay_accLeft a r
  have flow : t.flow f = s.flow f := by rw [State.flow, s.flows_accLeft a r, State.flow]
  have got := t.lineGot_of (f := f) (line := a.line) (by rwa [flow])
  have done : t.reqDone r false = t.lineGot f a.line := by
    simp only [State.reqDone, use, hu, line, State.when, Bool.false_eq_true, if_false]
  have flows : (t.lineGot f a.line).flows = (s.lineGot f a.line).flows := by
    rw [got, s.lineGot_of hj]
    simp only [State.modFlow, t, s.flows_accLeft a r]
  have drr : (t.lineGot f a.line).drr = (s.lineGot f a.line).drr := by
    rw [got, s.lineGot_of hj]
    exact s.drr_accLeft a r
  rw [s.accessDone_read (by rw [hu]; rfl), he,
    State.hayRead_clean t (by rwa [hay]) (by rwa [hay])]
  change (t.reqDone r false).readBack = _
  rw [done, State.readBack_of_kept hup flows drr, got]

/-! ## Accesses that do not complete -/

/-- Every access that times out is counted (R188). -/
theorem State.accessLate_counts (a : HayAcc) (r : HayReq) :
    (s.accessLate a r).rdN (R .HAY_ACC_TO_CNT) = min (s.rdN (R .HAY_ACC_TO_CNT) + 1) 0xFFFFFFFF := by
  unfold State.accessLate
  rw [(State.readBack_upd ..).rdN_of _ _ _ rfl, (State.reqDone_upd ..).rdN_of _ _ _ rfl,
    (State.count_upd ..).rdN_of _ _ _ rfl, (State.detect_upd ..).rdN_of _ _ _ rfl, State.rdN,
    State.rd_raise_name _ rfl]
  refine (State.rdN_bump _ _ rfl).trans ?_
  rw [(State.hayLog_upd ..).rdN_of _ _ _ rfl]
  rfl

/-- A fault that no FAIL_OVER is set for moves no traffic. -/
theorem State.detect_quiet {f : Nat} (h0 : s.flag F.SAF_REACT_FO0 f = false) (h1 : s.flag F.SAF_REACT_FO1 f = false) :
    (s.detect f).hay = s.hay ∧ (s.detect f).flows = s.flows ∧ (s.detect f).drr = s.drr := by
  unfold State.detect
  extract_lets e t
  have hay : t.hay = s.hay := (State.logFree_upd ..).hay rfl
  have flows : t.flows = s.flows := (State.logFree_upd ..).flows rfl
  have drr : t.drr = s.drr := (State.logFree_upd ..).drr rfl
  have kept : ∀ g : Fld, (Nat.testBit _ g.reg.ctorIdx = false) → _ := fun g => (State.logFree_upd 0x00F0 f (s.injActs f)
    ((s.wr (R .SAF_FAULT_EVT) (e ||| BitVec.ofNat 32 (2 ^ f))).bump (R .SAF_FAULT_CNT f))).flag g f 0
  have fo0 : t.flag F.SAF_REACT_FO0 f = false := (kept _ rfl).trans ((congrArg (· == 1) ((State.fld_bump_id _ rfl ..).trans (s.fld_wr_id rfl ..))).trans h0)
  have fo1 : t.flag F.SAF_REACT_FO1 f = false := (kept _ rfl).trans ((congrArg (· == 1) ((State.fld_bump_id _ rfl ..).trans (s.fld_wr_id rfl ..))).trans h1)
  have quiet : t.failOvers f = t := by
    simp only [State.failOvers, fo0, fo1, State.when, Bool.false_eq_true, if_false]
  split
  · exact ⟨hay, flows, drr⟩
  · rw [quiet]
    exact ⟨((State.ppsEval_upd ..).hay rfl).trans hay, ((State.ppsEval_upd ..).flows rfl).trans flows,
      ((State.ppsEval_upd ..).drr rfl).trans drr⟩

/-- What every access that times out records before it completes. -/
def State.lateLogged (line : Nat) (s : State) : State :=
  ((s.hayLog 5 0x3F line).bump (R .HAY_ACC_TO_CNT)).raise F.HAY_EVT_TIMEOUT

theorem State.accessLate_eq (a : HayAcc) (r : HayReq) : s.accessLate a r =
    (((((s.modHay fun h => { h with acc := h.acc.erase r }).lateLogged a.line).detect 8).count 0x0C6 0 1).reqDone r
      true).readBack := rfl

theorem State.flag_lateLogged (line : Nat) {f : Fld} (i : Nat) (h : (f.reg == .SAF_REACT) = true) :
    (s.lateLogged line).flag f i = s.flag f i := by
  have hf : f.reg = .SAF_REACT := by simpa using h
  have ne : ∀ id : RegId, id ≠ .SAF_REACT → (f.reg == id) = false := fun id h => by
    rw [hf, beq_eq_false_iff_ne]; exact h.symm
  refine (State.flag_raise_apart _ (by simp [Fld.apart, hf, F.HAY_EVT_TIMEOUT]) ..).trans ?_
  exact congrArg (· == 1) ((State.fld_bump_id _ (ne _ (by decide)) ..).trans
    ((State.hayLog_upd ..).fld f i 0 (by rw [hf]; rfl)))

theorem State.hay_lateLogged (line : Nat) : ∃ l, (s.lateLogged line).hay = { s.hay with logOrder := l } := by
  rw [State.lateLogged, State.raise_hay, State.bump_hay]
  exact s.hay_hayLog ..

/-- With no FAIL_OVER set for its fault, a time-out changes no flow and no line's poison. -/
theorem State.lateLogged_detect_quiet (line : Nat) (h0 : s.flag F.SAF_REACT_FO0 8 = false)
    (h1 : s.flag F.SAF_REACT_FO1 8 = false) : ((s.lateLogged line).detect 8).hay.poison = s.hay.poison ∧
      ((s.lateLogged line).detect 8).flows = s.flows ∧ ((s.lateLogged line).detect 8).drr = s.drr := by
  obtain ⟨dh, df, dd⟩ := (s.lateLogged line).detect_quiet (f := 8) ((s.flag_lateLogged line 8 rfl).trans h0)
    ((s.flag_lateLogged line 8 rfl).trans h1)
  obtain ⟨l, hl⟩ := s.hay_lateLogged line
  rw [dh, hl, df, dd]
  exact ⟨rfl, (State.hayLog_upd ..).flows rfl, (State.hayLog_upd ..).drr rfl⟩

/-- A deskew access that times out marks the group's data; the line is not marked (R188). -/
theorem State.accessLate_deskewRead (a : HayAcc) {g : Nat} (hr : s.readUp = true)
    (h0 : s.flag F.SAF_REACT_FO0 8 = false) (h1 : s.flag F.SAF_REACT_FO1 8 = false) :
    (s.accessLate a ⟨a.line, .deskewRead g, []⟩).flag F.HAY_EVT_TIMEOUT = true ∧
      ((s.accessLate a ⟨a.line, .deskewRead g, []⟩).delin.get Delin.init g).dirty = true ∧
      (s.accessLate a ⟨a.line, .deskewRead g, []⟩).hay.poison = s.hay.poison := by
  rw [s.accessLate_eq]
  obtain ⟨e, he⟩ : ∃ e, (s.modHay fun h => { h with acc := h.acc.erase ⟨a.line, .deskewRead g, []⟩ }) = e := ⟨_, rfl⟩
  have poison : e.hay.poison = s.hay.poison := by rw [← he]; rfl
  have flows : e.flows = s.flows := by rw [← he]; rfl
  have drr : e.drr = s.drr := by rw [← he]; rfl
  have fo : ∀ f : Fld, e.flag f 8 = s.flag f 8 := fun f => by rw [← he]; rfl
  rw [he]
  obtain ⟨dp, df, dd⟩ := e.lateLogged_detect_quiet a.line ((fo _).trans h0) ((fo _).trans h1)
  have raised : (e.lateLogged a.line).flag F.HAY_EVT_TIMEOUT = true := State.flag_raise _ rfl rfl ..
  have event : ((e.lateLogged a.line).detect 8).flag F.HAY_EVT_TIMEOUT = true :=
    ((State.detect_upd ..).flag _ _ _ rfl).trans raised
  generalize (e.lateLogged a.line).detect 8 = u at *
  have count := u.count_upd 0x0C6 0 1
  generalize u.count 0x0C6 0 1 = t at *
  have tf : t.flows = s.flows := ((count.flows rfl).trans df).trans flows
  have td : t.drr = s.drr := ((count.drr rfl).trans dd).trans drr
  rw [State.reqDone_deskewRead, State.readBack_of_kept (t := t.deskewBad g) hr tf td]
  refine ⟨(count.flag F.HAY_EVT_TIMEOUT 0 0 rfl).trans event, congrArg Delin.dirty (NTab.get_mod_same Delin.init t.delin g
    fun d => { d with dirty := true }), ?_⟩
  change t.hay.poison = _
  rw [count.hay rfl, dp, poison]

/-! ## Merge buffer -/

/-- A byte of an entry is laid into the memory, for a line at address `a`. -/
def State.putByte (a : Nat) (b : Nat × Option Byte) (s : State) : State :=
  s.when b.2.isSome (State.hayPut (a + b.1) b.2.toList)

theorem State.hay_putBytes (a : Nat) (l : NTab (Option Byte)) : (l.foldl (fun s b => s.putByte a b) s).hay = s.hay := by
  induction l generalizing s with
  | nil => rfl
  | cons b l ih => exact (ih _).trans (State.when_holds s (fun t => t.hay = s.hay) _ _ rfl fun h => h)

/-- An entry's bytes leave the memory but where they go. -/
theorem State.get_putBytes_out {a k : Nat} (l : NTab (Option Byte)) (h : k ∉ l.map Prod.fst) :
    (l.foldl (fun s b => s.putByte a b) s).hayMem.get 0 (a + k) = s.hayMem.get 0 (a + k) := by
  induction l generalizing s with
  | nil => rfl
  | cons b l ih =>
    rw [List.map_cons, List.mem_cons, not_or] at h
    refine (ih _ h.2).trans ?_
    change (s.putByte a b).hayMem.get 0 (a + k) = _
    unfold State.putByte State.when
    split
    · next hb =>
      refine s.get_hayPut_out _ ?_
      have len : b.2.toList.length ≤ 1 := by cases b.2 <;> simp
      have := h.1
      omega
    · rfl

/-- An entry's byte is in the memory when it is written back. -/
theorem State.get_putBytes {a k : Nat} {b : Byte} (l : NTab (Option Byte)) (hn : (l.map Prod.fst).Nodup)
    (h : (k, some b) ∈ l) : (l.foldl (fun s b => s.putByte a b) s).hayMem.get 0 (a + k) = b := by
  induction l generalizing s with
  | nil => cases h
  | cons c l ih =>
    rw [List.map_cons, List.nodup_cons] at hn
    rcases List.mem_cons.mp h with rfl | h
    · exact (State.get_putBytes_out _ l hn.1).trans (State.get_hayPut s (k := 0) (l := [b]) rfl)
    · exact ih _ hn.2 h

/-- An entry with the whole line is written back without a read (R193). -/
theorem State.mergeOut_whole {m : Merge} {e : HayEcc} (hm : 64 ≤ m.bytes.length) :
    s.mergeOut m e = (m.bytes.foldl (fun s b => s.putByte (64 * m.line) b) ((s.modHay fun h =>
      { h with merge := h.merge.filter fun x => x.line ≠ m.line }).hayWhole m.line [])).count 0x0C1 0 1 := by
  unfold State.mergeOut
  simp only [hm, if_true]
  rfl

theorem State.mergeWritten {line : Nat} {e : HayEcc} {x : Merge} (hx : s.hay.merge.find? (fun y => y.line = line) = some x)
    (hl : 64 ≤ x.bytes.length) (hn : (x.bytes.map Prod.fst).Nodup) :
    ((s.mergeOut x e).retSettle).hay.merge = s.hay.merge.filter (fun y => y.line ≠ line) ∧
      line ∉ ((s.mergeOut x e).retSettle).hay.poison ∧ line / 1024 ∈ ((s.mergeOut x e).retSettle).hay.blocks ∧
      ∀ k b, NTab.get none x.bytes k = some b → ((s.mergeOut x e).retSettle).hayMem.get 0 (64 * line + k) = b := by
  have line' : x.line = line := by simpa using List.find?_some hx
  subst line'
  rw [s.mergeOut_whole hl]
  set t := (s.modHay fun h => { h with merge := h.merge.filter fun y => y.line ≠ x.line }).hayWhole x.line [] with ht
  have clean := State.hayWhole_clean (s.modHay fun h => { h with merge := h.merge.filter fun y => y.line ≠ x.line })
    x.line []
  have merge : t.hay.merge = s.hay.merge.filter fun y => y.line ≠ x.line := State.merge_hayWhole ..
  rw [← ht] at clean
  obtain ⟨hp, hb⟩ := clean
  clear_value t
  obtain ⟨l, hr⟩ := ((x.bytes.foldl (fun s b => s.putByte (64 * x.line) b) t).count 0x0C1 0 1).hay_retSettle
  have hay : ((x.bytes.foldl (fun s b => s.putByte (64 * x.line) b) t).count 0x0C1 0 1).hay = t.hay :=
    ((State.count_upd ..).hay rfl).trans (t.hay_putBytes ..)
  rw [hr, hay]
  refine ⟨merge, hp, hb, fun k b h => ?_⟩
  rw [(State.retSettle_upd _).hayMem rfl, (State.count_upd ..).hayMem rfl]
  exact t.get_putBytes x.bytes hn (NTab.mem_of_get h)

/-! ## The scrubber -/

theorem State.scrubNext_congr {s t : State} (h : t.hay = s.hay) (n : Nat) : t.scrubNext n = s.scrubNext n := by
  simp only [State.scrubNext, State.isRetired, h]
  rfl

/-- The state that the scrubber's read of a clean line leaves to the pass. -/
def State.scrubCounted (s : State) : State := (s.count 0x0C3 0 1).count 0x0C0 0 1

theorem State.hay_scrubCounted : s.scrubCounted.hay = s.hay :=
  ((State.count_upd ..).hay rfl).trans ((State.count_upd ..).hay rfl)

theorem State.fuse_scrubCounted : s.scrubCounted.fuse = s.fuse :=
  ((State.count_upd ..).fuse rfl).trans ((State.count_upd ..).fuse rfl)

/-- A clean line that the scrubber reads takes it further, or ends the pass (R195). -/
theorem exec_scrubRead_clean {line : Nat} (ho : s.hayOn = true) (hn : s.scrubNext s.hay.scrub = some line)
    (hw : s.hay.wrong.contains line = false) : exec (.scrubRead line .clean) s = .next
      (if (s.scrubNext (line + 1)).isNone then
        (((s.scrubCounted.modHay fun h => { h with scrub := 0 }).setFld F.HAY_SCRUB_STATUS_PASS_CNT
          (s.scrubCounted.fld F.HAY_SCRUB_STATUS_PASS_CNT + 1)).setFld F.HAY_SCRUB_STATUS_PROGRESS 0).raise
          F.HAY_EVT_SCRUB_PASS
      else (s.scrubCounted.modHay fun h => { h with scrub := line + 1 }).setFld F.HAY_SCRUB_STATUS_PROGRESS
        ((line + 1) * 100 / (s.hayBytes / 64))) := by
  have dec : ((s.count 0x0C3 0 1).count 0x0C0 0 1).hayDecode line .clean true = s.scrubCounted :=
    State.hayDecode_clean s.scrubCounted (by rw [s.hay_scrubCounted, hw]) true
  have next : s.scrubCounted.scrubNext (line + 1) = s.scrubNext (line + 1) := State.scrubNext_congr s.hay_scrubCounted _
  have bytes : s.scrubCounted.hayBytes = s.hayBytes := by rw [State.hayBytes, s.fuse_scrubCounted, State.hayBytes]
  change execScrubRead line .clean s = _
  simp only [execScrubRead, dec, next, bytes, ho, hn, beq_self_eq_true, Bool.and_self, if_true]

/-! ## The aperture -/

/-- An access that its master may issue, that is not denied and finds none of its master's held back is performed. -/
theorem State.issue_granted {m : Master} {addr : Nat} {w : Option W32} {f : State → State} (hc : s.canIssue m = true)
    (hd : s.denied m addr (bit w.isSome) = false) (hh : s.holdsBack m = false) : s.issue m addr w f = f s := by
  simp only [State.issue, hc, hd, hh, Bool.not_true, Bool.false_eq_true, if_false]

theorem State.aptGuard_on {m : Master} {write : Bool} {off : Nat} {f : State → State}
    (hb : s.blockOn 8 0x80000 = true) (ha : s.aptPhys off < s.hayBytes) : s.aptGuard m write off f = f s := by
  simp only [State.aptGuard, hb, if_true, if_neg (Nat.not_le.mpr ha)]

theorem exec_apertureRead_on {m : Master} {off : Nat} (e : HayEcc) (hc : s.canIssue m = true)
    (hd : s.denied m (aptBus off) 0 = false) (hh : s.holdsBack m = false) (hb : s.blockOn 8 0x80000 = true)
    (ha : s.aptPhys off < s.hayBytes) :
    exec (.apertureRead m off e) s = .next (s.apertureRead m (s.aptPhys off / 4 * 4) e) :=
  congrArg Host.Outcome.next ((s.issue_granted (w := none) hc hd hh).trans (s.aptGuard_on hb ha))

theorem exec_apertureWrite_on {m : Master} {off : Nat} (v : W32) (hc : s.canIssue m = true)
    (hd : s.denied m (aptBus off) 1 = false) (hh : s.holdsBack m = false) (hb : s.blockOn 8 0x80000 = true)
    (ha : s.aptPhys off < s.hayBytes) :
    exec (.apertureWrite m off v) s = .next (s.apertureWrite (s.aptPhys off / 4 * 4) v) :=
  congrArg Host.Outcome.next ((s.issue_granted (w := some v) hc hd hh).trans (s.aptGuard_on hb ha))

theorem State.answer_rdata (m : Master) (w : W32) : (s.answer m w).fab.rdata.get 0 (masterCode m) = w :=
  NTab.get_set_same ..

/-- The master reads the word as it was before the read's own errors. -/
theorem State.apertureRead_rdata (m : Master) (a : Nat) (e : HayEcc) :
    (s.apertureRead m a e).fab.rdata.get 0 (masterCode m) = s.hayWord a := State.answer_rdata ..

theorem State.apertureRead_unopened (m : Master) {a : Nat} (e : HayEcc) (h : s.blockOpen (a / 65536) = false) :
    (s.apertureRead m a e).flag F.HAY_APT_STATUS_UNOPENED = true := by
  have hb : (s.useFree.when (s.isRetired (a / 4096)) fun s => s.raise F.HAY_APT_STATUS_RETIRED).blockOpen (a / 65536) =
      false := State.when_holds _ (fun t => t.blockOpen (a / 65536) = false) _ _ h fun h => h
  unfold State.apertureRead
  simp only [hb, Bool.false_eq_true, if_false]
  exact State.flag_raise _ rfl rfl ..

/-- The merge buffer's entry for a line, with bytes laid in from offset `o` on. -/
theorem hayByte_of_merge {t : State} {line a : Nat} {m : Merge} {b : Byte}
    (hm : t.hay.merge.find? (fun y => y.line = line) = some m) (hl : a / 64 = line)
    (hb : NTab.get none m.bytes (a % 64) = some b) : t.hayByte a = b := by
  subst hl
  simp only [State.hayByte, hm, Option.bind_some, hb]

theorem find?_line_append {l : List Merge} {x : Merge} (h : ∀ y ∈ l, y.line ≠ x.line) :
    (l ++ [x]).find? (fun y => y.line = x.line) = some x := by
  rw [List.find?_append, List.find?_eq_none.mpr (by simpa using h)]
  simp

/-- A narrow write that its line has room for stays in the merge buffer: a new last entry holds its bytes, over the
bytes that the line's entry held before. -/
theorem State.mergeIn_stays {a : Nat} {l : List Byte} {b : NTab (Option Byte)} {rest : List Merge} {t : State}
    (ht : t.hay.merge = rest ++ [⟨a / 64, layAt none some (a % 64) 0 l b⟩]) (hr : ∀ y ∈ rest, y.line ≠ a / 64)
    (hlen : (layAt none some (a % 64) 0 l b).length < 64) (hfit : a % 64 + l.length ≤ 64) :
    (match t.hay.merge.find? (fun y => y.line = a / 64) with
      | some m => t.when (64 ≤ m.bytes.length) (State.mergeOut m .clean)
      | none => t) = t ∧ ∀ k c, l[k]? = some c → t.hayByte (a + k) = c := by
  have found : t.hay.merge.find? (fun y => y.line = a / 64) = some ⟨a / 64, layAt none some (a % 64) 0 l b⟩ := by
    rw [ht]
    exact find?_line_append (x := ⟨a / 64, _⟩) hr
  refine ⟨?_, fun k c h => ?_⟩
  · rw [found]
    exact if_neg (by simpa using hlen)
  · have hk : k < l.length := (List.getElem?_eq_some_iff.mp h).1
    refine hayByte_of_merge found (by omega) ?_
    rw [show (a + k) % 64 = a % 64 + 0 + k by omega]
    exact get_layAt_in none some l 0 b h

/-- Where the capture area lies depends on the variant and CAP_SIZE. -/
theorem State.inCap_congr {s t : State} (hf : t.fuse = s.fuse) (h : t.fld F.HAY_CFG_CAP_SIZE = s.fld F.HAY_CFG_CAP_SIZE)
    (a : Nat) : t.inCap a = s.inCap a := by
  rw [State.inCap, State.capBase, State.hayMeta, State.capBytes, hf, h]
  rfl

theorem State.inCap_raise (f : Fld) (h : f.apart F.HAY_CFG_CAP_SIZE = true) (a : Nat) :
    (s.raise f).inCap a = s.inCap a := State.inCap_congr (State.raise_fuse ..) (s.fld_raise_apart h ..) a

/-- A write into the capture area goes to the merge buffer. -/
theorem State.apertureWrite_cap {a : Nat} (v : W32) (hc : s.inCap a = true) :
    ∃ t : State, s.apertureWrite a v = t.mergeIn a (bytesOf v) ∧ t.hay = s.hay ∧ t.hayMem = s.hayMem := by
  refine ⟨s.when (s.isRetired (a / 4096)) fun s => s.raise F.HAY_APT_STATUS_RETIRED, ?_,
    State.when_holds s (fun x => x.hay = s.hay) _ _ rfl fun h => h,
    State.when_holds s (fun x => x.hayMem = s.hayMem) _ _ rfl fun h => h⟩
  have cap : (s.when (s.isRetired (a / 4096)) fun s => s.raise F.HAY_APT_STATUS_RETIRED).inCap a = true :=
    State.when_holds s (fun x => x.inCap a = true) _ _ hc fun h =>
      (s.inCap_raise _ rfl a).trans h
  simp only [State.apertureWrite, cap, Bool.true_or, if_true]

theorem getElem?_bytesOf (v : W32) {k : Nat} (hk : k < 4) : (bytesOf v)[k]? = some (v.extractLsb' (8 * k) 8) := by
  rw [bytesOf, List.getElem?_map, List.getElem?_range hk]
  rfl

/-- A write of four bytes into the capture area for a line without an entry, with room in the merge buffer, makes one. -/
theorem State.apertureWrite_new {a : Nat} {v : W32} (ha : a % 4 = 0) (hc : s.inCap a = true)
    (hm : s.hay.merge.find? (fun y => y.line = a / 64) = none) (hl : s.hay.merge.length < 256) :
    (∀ k, k < 4 → (s.apertureWrite a v).hayByte (a + k) = v.extractLsb' (8 * k) 8) ∧
      (s.apertureWrite a v).hayMem = s.hayMem := by
  obtain ⟨t, e, th, tm⟩ := s.apertureWrite_cap v hc
  have room : t.mergeRoom = t := by
    unfold State.mergeRoom
    split
    · rw [if_pos (th ▸ hl)]
    · rfl
  have stays := State.mergeIn_stays (a := a) (l := bytesOf v) (b := []) (rest := s.hay.merge)
    (t := t.modHay fun h => { h with merge := h.merge ++ [⟨a / 64, layAt none some (a % 64) 0 (bytesOf v) []⟩] })
    (congrArg (fun h : Hay => h.merge ++ [(⟨a / 64, layAt none some (a % 64) 0 (bytesOf v) []⟩ : Merge)]) th)
    (fun y hy => by simpa using List.find?_eq_none.mp hm y hy)
    (Nat.lt_of_le_of_lt (length_layAt_le none some (a % 64) (bytesOf v) 0 []) (by simp [bytesOf]))
    (by rw [show (bytesOf v).length = 4 from rfl]; omega)
  have whole : t.mergeIn a (bytesOf v) =
      t.modHay fun h => { h with merge := h.merge ++ [⟨a / 64, layAt none some (a % 64) 0 (bytesOf v) []⟩] } := by
    refine Eq.trans ?_ stays.1
    simp only [State.mergeIn, th, hm, room]
    rfl
  rw [e, whole]
  exact ⟨fun k hk => stays.2 k _ (getElem?_bytesOf v hk), tm⟩

/-- A write of four bytes into the capture area for a line that has an entry with room joins it. -/
theorem State.apertureWrite_joins {a : Nat} {v : W32} {x : Merge} (ha : a % 4 = 0) (hc : s.inCap a = true)
    (hm : s.hay.merge.find? (fun y => y.line = a / 64) = some x) (hl : x.bytes.length + 4 < 64) :
    (∀ k, k < 4 → (s.apertureWrite a v).hayByte (a + k) = v.extractLsb' (8 * k) 8) ∧
      (s.apertureWrite a v).hayMem = s.hayMem := by
  obtain ⟨t, e, th, tm⟩ := s.apertureWrite_cap v hc
  set n : Merge := ⟨a / 64, layAt none some (a % 64) 0 (bytesOf v) x.bytes⟩ with hn
  set u := (t.modHay fun h => { h with merge := h.merge.filter (fun y => y.line ≠ a / 64) ++ [n] }).count 0x0C4 0 1 with hu
  have uh : u.hay = { s.hay with merge := s.hay.merge.filter (fun y => y.line ≠ a / 64) ++ [n] } :=
    ((State.count_upd ..).hay rfl).trans
      (congrArg (fun h : Hay => { h with merge := h.merge.filter (fun y : Merge => y.line ≠ a / 64) ++ [n] }) th)
  have um : u.hayMem = s.hayMem := ((State.count_upd ..).hayMem rfl).trans tm
  have stays := State.mergeIn_stays (a := a) (l := bytesOf v) (b := x.bytes)
    (rest := s.hay.merge.filter fun y : Merge => y.line ≠ a / 64) (t := u) (congrArg Hay.merge uh)
    (fun y hy => by simpa using (List.mem_filter.mp hy).2)
    (Nat.lt_of_le_of_lt (length_layAt_le none some (a % 64) (bytesOf v) 0 x.bytes) (by simpa [bytesOf] using hl))
    (by rw [show (bytesOf v).length = 4 from rfl]; omega)
  have whole : t.mergeIn a (bytesOf v) = u := by
    refine Eq.trans ?_ stays.1
    simp only [State.mergeIn, th, hm]
    rfl
  rw [e, whole]
  exact ⟨fun k hk => stays.2 k _ (getElem?_bytesOf v hk), um⟩

/-- Outside the capture area and with no test window open, a write is discarded. -/
theorem State.apertureWrite_denied {a : Nat} (v : W32) (hc : s.inCap a = false)
    (hw : s.flag F.SAF_WIN_STATUS_OPEN = false) : (s.apertureWrite a v).flag F.HAY_APT_STATUS_DENIED = true ∧
      (s.apertureWrite a v).flag F.HAY_EVT_APT_DENIED = true ∧ (s.apertureWrite a v).hay.merge = s.hay.merge ∧
      (s.apertureWrite a v).hayMem = s.hayMem := by
  unfold State.apertureWrite
  extract_lets t
  obtain ⟨cap, win, hay, mem⟩ := State.when_holds s (fun x => x.inCap a = false ∧
    x.flag F.SAF_WIN_STATUS_OPEN = false ∧ x.hay = s.hay ∧ x.hayMem = s.hayMem) (s.isRetired (a / 4096))
    (fun s => s.raise F.HAY_APT_STATUS_RETIRED) ⟨hc, hw, rfl, rfl⟩ fun ⟨hc, hw, hh, hm⟩ =>
      ⟨(s.inCap_raise _ rfl a).trans hc, (s.flag_raise_apart rfl ..).trans hw, hh, hm⟩
  change t.inCap a = false at cap
  change t.flag F.SAF_WIN_STATUS_OPEN = false at win
  rw [cap, win, Bool.or_self, if_neg Bool.false_ne_true]
  exact ⟨(State.flag_raise_apart _ rfl ..).trans (State.flag_raise _ rfl rfl ..), State.flag_raise _ rfl rfl ..,
    congrArg Hay.merge hay, mem⟩

/-! ## Retirement -/

/-- A retirement command ends with its code, and the event of its success or its refusal. -/
theorem State.retCode_shows {code : Nat} (h : code < 8) : (s.retCode code).fld F.HAY_RET_STATUS_CODE = code ∧
    (s.retCode code).flag (if code = 0 then F.HAY_EVT_RET_DONE else F.HAY_EVT_RET_REFUSED) = true := by
  unfold State.retCode
  split
  · exact ⟨(State.fld_raise_apart _ rfl ..).trans (s.fld_setFld_lt rfl h ..), State.flag_raise _ rfl rfl ..⟩
  · exact ⟨(State.fld_raise_apart _ rfl ..).trans (s.fld_setFld_lt rfl h ..), State.flag_raise _ rfl rfl ..⟩

theorem State.retCmdWrite_add {v : W32} (hc : F.HAY_RET_CMD_CMD.get v = 1) (hl : s.hay.ret.length < 8192)
    (hp : s.hay.ret.any (fun r => r.page == F.HAY_RET_CMD_ARG.get v) = false)
    (hm : 4096 * F.HAY_RET_CMD_ARG.get v < s.hayMeta) : s.retCmdWrite v = ((s.modHay fun h => { h with
      ret := h.ret ++ [⟨F.HAY_RET_CMD_ARG.get v, s.pageUsed (F.HAY_RET_CMD_ARG.get v)⟩] }).retShow).retCode 0 := by
  simp only [State.retCmdWrite, hc, hp, if_neg (Nat.not_le.mpr hl), if_neg (Nat.not_le.mpr hm), Bool.false_eq_true,
    if_false]

theorem State.retCmdWrite_full {v : W32} (hc : F.HAY_RET_CMD_CMD.get v = 1) (hl : 8192 ≤ s.hay.ret.length) :
    s.retCmdWrite v = s.retCode 1 := by
  simp only [State.retCmdWrite, hc, if_pos hl]

theorem State.retCmdWrite_remove {v : W32} (hc : F.HAY_RET_CMD_CMD.get v = 2)
    (hp : s.hay.ret.any (fun r => r.page == F.HAY_RET_CMD_ARG.get v) = true) : s.retCmdWrite v =
      ((s.modHay fun h => { h with ret := h.ret.filter fun r => r.page ≠ F.HAY_RET_CMD_ARG.get v }).retShow).retCode
        0 := by
  simp only [State.retCmdWrite, hc, hp, if_true]

theorem State.retCmdWrite_read {v : W32} {r : RetPage} (hc : F.HAY_RET_CMD_CMD.get v = 3)
    (hr : s.hay.ret[F.HAY_RET_CMD_ARG.get v]? = some r) : s.retCmdWrite v =
      (s.wr (R .HAY_RET_DATA) (F.HAY_RET_DATA_VALID.put 1 (F.HAY_RET_DATA_PENDING.put (bit r.pend)
        (F.HAY_RET_DATA_PAGE.put r.page 0)))).retCode 0 := by
  simp only [State.retCmdWrite, hc, hr]

/-- RET_DATA shows a page of the table. -/
theorem State.retRead_shows {v : W32} {r : RetPage} (hc : F.HAY_RET_CMD_CMD.get v = 3)
    (hr : s.hay.ret[F.HAY_RET_CMD_ARG.get v]? = some r) : (s.retCmdWrite v).flag F.HAY_RET_DATA_VALID = true ∧
      (s.retCmdWrite v).fld F.HAY_RET_DATA_PAGE = r.page % 2 ^ F.HAY_RET_DATA_PAGE.len ∧
      (s.retCmdWrite v).flag F.HAY_RET_DATA_PENDING = r.pend ∧ (s.retCmdWrite v).fld F.HAY_RET_STATUS_CODE = 0 := by
  rw [s.retCmdWrite_read hc hr]
  obtain ⟨w, hw⟩ : ∃ w, F.HAY_RET_DATA_VALID.put 1 (F.HAY_RET_DATA_PENDING.put (bit r.pend)
    (F.HAY_RET_DATA_PAGE.put r.page 0)) = w := ⟨_, rfl⟩
  have kept : ∀ f : Fld, f.ok = true → f.reg = .HAY_RET_DATA → ((s.wr (R .HAY_RET_DATA) w).retCode 0).fld f = f.get w :=
    fun f hok hf => (State.fld_raise_apart _ (by simp [Fld.apart, hf, F.HAY_EVT_RET_DONE]) ..).trans
      ((State.fld_setFld_apart _ (by simp [Fld.apart, hf, F.HAY_RET_STATUS_CODE]) ..).trans
        (s.fld_wr_same hok hf w 0 0))
  rw [hw]
  refine ⟨?_, ?_, ?_, (State.retCode_shows _ (by decide)).1⟩
  · rw [State.flag, kept _ rfl rfl, ← hw, Fld.get_put _ (by decide)]
    rfl
  · rw [kept _ rfl rfl, ← hw, Fld.get_put_ne _ _ (by decide) (by decide) (by decide),
      Fld.get_put_ne _ _ (by decide) (by decide) (by decide), Fld.get_put _ (by decide)]
  · rw [State.flag, kept _ rfl rfl, ← hw, Fld.get_put_ne _ _ (by decide) (by decide) (by decide),
      Fld.get_put _ (by decide)]
    cases r.pend <;> rfl

/-! ## Capture and configuration -/

/-- A capture of a flow that is not express takes its configuration. -/
theorem State.capCfgWrite_takes {v : W32} (he : F.HAY_CAP_CFG_EN.get v = 1) (hc : F.HAY_CAP_CFG_CLR.get v = 0)
    (hx : s.flag F.SOF_PH_W6_EXPRESS (F.HAY_CAP_CFG_FLOW.get v) = false) :
    (s.capCfgWrite v).flag F.HAY_CAP_CFG_EN = true ∧
      (s.capCfgWrite v).fld F.HAY_CAP_CFG_FLOW = F.HAY_CAP_CFG_FLOW.get v := by
  have e : s.capCfgWrite v = (s.plainWrite (R .HAY_CAP_CFG) v).retSettle := by
    have h01 : ((0 : Nat) == 1) = false := rfl
    simp only [State.capCfgWrite, he, hc, hx, Bool.and_false, h01, Bool.false_and, State.when, Bool.false_eq_true,
      if_false]
  rw [e, State.flag, (State.retSettle_upd _).fld _ _ _ rfl, (State.retSettle_upd _).fld _ _ _ rfl,
    State.fld_plainWrite_rw _ rfl, State.fld_plainWrite_rw _ rfl, he]
  exact ⟨rfl, rfl⟩

/-- A capture of an express flow is refused. -/
theorem State.capCfgWrite_refused {v : W32} (he : F.HAY_CAP_CFG_EN.get v = 1)
    (hx : s.flag F.SOF_PH_W6_EXPRESS (F.HAY_CAP_CFG_FLOW.get v) = true) :
    (s.capCfgWrite v).flag F.HAY_CAP_CFG_EN = false ∧ (s.capCfgWrite v).flag F.HAY_EVT_CAP_REFUSED = true := by
  unfold State.capCfgWrite
  extract_lets en exp refuse p t u
  have hr : refuse = true := by
    unfold refuse exp
    rw [he, hx]
    rfl
  have ht : t = (p.setFlag F.HAY_CAP_CFG_EN false).raise F.HAY_EVT_CAP_REFUSED := if_pos hr
  have off : t.flag F.HAY_CAP_CFG_EN = false := by
    rw [ht, State.flag_raise_apart _ rfl]
    exact State.flag_setFlag _ rfl rfl ..
  have evt : t.flag F.HAY_EVT_CAP_REFUSED = true := by
    rw [ht]
    exact State.flag_raise _ rfl rfl ..
  rw [(State.retSettle_upd _).flag _ _ _ rfl, (State.retSettle_upd _).flag _ _ _ rfl]
  clear_value t
  refine State.when_holds t (fun x => x.flag F.HAY_CAP_CFG_EN = false ∧ x.flag F.HAY_EVT_CAP_REFUSED = true) _ _
    ⟨off, evt⟩ fun ⟨off, evt⟩ => ⟨?_, ?_⟩
  · exact (congrArg (· == 1) ((State.fld_wr_id _ rfl ..).trans (State.fld_wr_id _ rfl ..))).trans off
  · exact (congrArg (· == 1) ((State.fld_wr_id _ rfl ..).trans (State.fld_wr_id _ rfl ..))).trans evt

/-- The capture area cleared while capture is off reads as zeros from its start. -/
theorem State.capCfgWrite_clears {v : W32} (he : F.HAY_CAP_CFG_EN.get v = 0) (hc : F.HAY_CAP_CFG_CLR.get v = 1)
    (hoff : s.flag F.HAY_CAP_CFG_EN = false) : (s.capCfgWrite v).rd (R .HAY_CAP_PTR) = 0 ∧
      (s.capCfgWrite v).rd (R .HAY_CAP_SEQ) = 0 ∧ (s.capCfgWrite v).hayMem = s.hayMem.filter (fun e => !s.inCap e.1) ∧
      (s.capCfgWrite v).hay.blocks = s.hay.blocks.filter (fun b => !s.inCap (65536 * b)) := by
  have cap : ∀ a, (s.plainWrite (R .HAY_CAP_CFG) v).inCap a = s.inCap a :=
    State.inCap_congr (State.plainWrite_fuse ..) (s.fld_plainWrite_id rfl ..)
  unfold State.capCfgWrite
  extract_lets en exp refuse p t u
  have hr : refuse = false := by
    unfold refuse
    rw [he]
    rfl
  have ht : t = p := if_neg (by rw [hr]; decide)
  have hen : en = false := hoff
  have hu : u = (({ p.modHay fun h => { h with blocks := h.blocks.filter fun b => !p.inCap (65536 * b) } with
      hayMem := p.hayMem.filter fun e => !p.inCap e.1 } : State).wr (R .HAY_CAP_PTR) 0).wr (R .HAY_CAP_SEQ) 0 := by
    unfold u
    rw [ht]
    exact if_pos (by rw [hc, hen]; rfl)
  obtain ⟨l, hl⟩ := u.hay_retSettle
  rw [(State.retSettle_upd _).rd_of _ _ _ rfl, (State.retSettle_upd _).rd_of _ _ _ rfl,
    (State.retSettle_upd _).hayMem rfl, hl, hu]
  refine ⟨?_, ?_, ?_, ?_⟩
  · rw [State.rd_wr_name _ rfl]
    exact (State.rd_wr_same ..).trans (by decide)
  · exact (State.rd_wr_same ..).trans (by decide)
  · change p.hayMem.filter (fun e => !p.inCap e.1) = _
    simp only [p, cap]
    rfl
  · change p.hay.blocks.filter (fun b => !p.inCap (65536 * b)) = _
    simp only [p, cap]
    rfl

/-- What back-pressure does after a write of HAY_CFG. -/
theorem State.rd_hayCfg_effect (l : List Nat) :
    ((s.each l State.xoffFlow).pauseAll).rd (R .HAY_CFG) = s.rd (R .HAY_CFG) := by
  rw [(State.pauseAll_upd _).rd_of _ _ _ rfl]
  exact s.each_keeps (fun t => t.rd (R .HAY_CFG)) _ (fun f t => (State.xoffFlow_upd f t).rd_of _ _ _ rfl) l

/-- The sizes take a write while nothing uses them. -/
theorem State.rd_hayCfgWrite_open (v : W32) (ha : s.flag F.HAY_CFG_ADMIT_EN = false) (hd : s.dskRes = 0)
    (hc : s.flag F.HAY_CAP_CFG_EN = false) : (s.hayCfgWrite v).rd (R .HAY_CFG) = v &&& (R .HAY_CFG).mask := by
  have e : s.hayCfgWrite v = s.plainWrite (R .HAY_CFG) v := by
    simp only [State.hayCfgWrite, ha, hd, hc, Bool.not_false, beq_self_eq_true, Bool.and_self, if_true]
  rw [e]
  exact s.rd_plainWrite_full rfl v 0 0

/-- Of a write while admission is on, ADMIT_EN takes its value and the sizes do not. -/
theorem State.hayCfgWrite_admitting {v : W32} (ha : s.flag F.HAY_CFG_ADMIT_EN = true) :
    (s.hayCfgWrite v).fld F.HAY_CFG_DSK_SIZE = s.fld F.HAY_CFG_DSK_SIZE ∧
      (s.hayCfgWrite v).fld F.HAY_CFG_CAP_SIZE = s.fld F.HAY_CFG_CAP_SIZE ∧
      (s.hayCfgWrite v).flag F.HAY_CFG_ADMIT_EN = decide (F.HAY_CFG_ADMIT_EN.get v = 1) := by
  unfold State.hayCfgWrite
  extract_lets o old p
  have ho : o = false := by simp [o, ha]
  rw [ho, if_neg Bool.false_ne_true, State.flag]
  obtain ⟨w, hw⟩ : ∃ w, F.HAY_CFG_DSK_SIZE.put (F.HAY_CFG_DSK_SIZE.get old) (F.HAY_CFG_CAP_SIZE.put
      (F.HAY_CFG_CAP_SIZE.get old) (p.rd (R .HAY_CFG))) = w := ⟨_, rfl⟩
  rw [hw]
  have kept : ∀ (f : Fld) b, f.ok = true → f.reg = .HAY_CFG →
      ((p.wr (R .HAY_CFG) w).when b fun s => s.raise F.HAY_EVT_CFG_DISCARD).fld f = f.get w := fun f b hok hf =>
    (State.fld_when_raise _ _ _ _ _ _ _ (State.fld_raise_apart _ (by simp [Fld.apart, hf, F.HAY_EVT_CFG_DISCARD]) ..)).trans
      (p.fld_wr_same hok hf w 0 0)
  refine ⟨?_, ?_, ?_⟩
  · rw [kept _ _ rfl rfl, ← hw, Fld.get_put _ (by decide)]
    exact Nat.mod_eq_of_lt (s.fld_lt F.HAY_CFG_DSK_SIZE 0 0)
  · rw [kept _ _ rfl rfl, ← hw, Fld.get_put_ne _ _ (by decide) (by decide) (by decide), Fld.get_put _ (by decide)]
    exact Nat.mod_eq_of_lt (s.fld_lt F.HAY_CFG_CAP_SIZE 0 0)
  · rw [kept _ _ rfl rfl, ← hw, Fld.get_put_ne _ _ (by decide) (by decide) (by decide),
      Fld.get_put_ne _ _ (by decide) (by decide) (by decide)]
    exact congrArg (· == 1) (s.fld_plainWrite_rw (f := F.HAY_CFG_ADMIT_EN) rfl v 0 0)

/-! ## The commands -/

/-- Settles O14. -/
theorem hayloftCommandsComplete : Obligations.HayloftCommandsComplete := by
  refine ⟨?deskewUe, ?flowWrite, ?flowRead, ?late, ?lateDeskew, ?writeBack, ?scrub, ?scrubPass, ?retAdd, ?retFull,
    ?retRemove, ?retRead, ?readUnopened, ?readOpen, ?writeNew, ?writeJoins, ?writeDenied, ?capTakes, ?capRefused,
    ?capClears, ?capDrop, ?cfgOpen, ?cfgAdmitting⟩
  case deskewUe =>
    intro s a g ho hl hu he hd hb hup
    exact Completes.of_exec (exec_hayAccessDone_inFlight s (s.inFlight_deskewRead hu hd) ho hl)
      (s.accessDone_deskewRead_ue hu he hb hup)
  case flowWrite =>
    intro s a f r ho hl hu hr hup
    refine Completes.of_exec (exec_hayAccessDone_inFlight s hr ho hl) ?_
    rw [s.accessDone_flowWrite hu hr hup]
    obtain ⟨hp, hb⟩ := (s.accLeft a r).hayWhole_clean a.line r.data
    refine ⟨?_, hp, hb, fun k b hk h => State.get_hayWhole _ hk h⟩
    rw [State.acc_hayWhole, s.hay_accLeft a r]
  case flowRead =>
    intro s a f r j ho hl hu he hr hup hp hw hj
    refine Completes.of_exec (exec_hayAccessDone_inFlight s hr ho hl) ?_
    rw [s.accessDone_flowRead hu he hr hup hp hw hj]
    refine ⟨congrArg Hay.acc (s.hay_accLeft a r), ?_⟩
    rw [State.flow_modFlow]
    exact List.mem_cons_self
  case late =>
    intro s a r ho hl hr
    exact Completes.of_exec (exec_accTimeout_inFlight s hr ho hl) (s.accessLate_counts a r)
  case lateDeskew =>
    intro s a g ho hl hu hd hup h0 h1
    exact Completes.of_exec (exec_accTimeout_inFlight s (s.inFlight_deskewRead hu hd) ho hl)
      (s.accessLate_deskewRead a hup h0 h1)
  case writeBack =>
    intro s line e x ho hx hl hn
    refine Completes.of_exec (t := (s.mergeOut x e).retSettle) ?_ (s.mergeWritten hx hl hn)
    change execMergeWriteBack line e s = _
    simp only [execMergeWriteBack, hx, ho, if_true]
  case scrub =>
    intro s line n ho hn hw hnext
    refine Completes.of_exec (exec_scrubRead_clean s ho hn hw) ?_
    rw [hnext, Option.isNone_some, if_neg Bool.false_ne_true]
    exact ⟨rfl, State.fld_setFld _ _ _ _ _ rfl⟩
  case scrubPass =>
    intro s line ho hn hw hnext
    refine Completes.of_exec (exec_scrubRead_clean s ho hn hw) ?_
    rw [hnext, Option.isNone_none, if_pos rfl]
    exact ⟨rfl, (State.fld_raise_apart _ rfl ..).trans (State.fld_setFld_lt _ rfl (by decide) ..),
      State.flag_raise _ rfl rfl ..⟩
  case retAdd =>
    intro s m v ha hc hl hp hm
    refine Completes.of_guardW ha rfl ?_
    rw [(s.rewritten _).retCmdWrite_add hc hl hp hm]
    exact ⟨rfl, State.retCode_shows _ (by decide)⟩
  case retFull =>
    intro s m v ha hc hl
    refine Completes.of_guardW ha rfl ?_
    rw [(s.rewritten _).retCmdWrite_full hc hl]
    exact ⟨rfl, State.retCode_shows _ (by decide)⟩
  case retRemove =>
    intro s m v ha hc hp
    refine Completes.of_guardW ha rfl ?_
    rw [(s.rewritten _).retCmdWrite_remove hc hp]
    exact ⟨rfl, (State.retCode_shows _ (by decide)).1⟩
  case retRead =>
    intro s m v r ha hc hr
    exact Completes.of_guardW ha rfl ((s.rewritten _).retRead_shows hc hr)
  case readUnopened =>
    intro s m off e hc hd hh hb ha ho
    exact Completes.of_exec (exec_apertureRead_on s e hc hd hh hb ha)
      ⟨s.apertureRead_rdata .., s.apertureRead_unopened m e ho⟩
  case readOpen =>
    intro s m off hc hd hh hb ha _
    exact Completes.of_exec (exec_apertureRead_on s .clean hc hd hh hb ha) (s.apertureRead_rdata ..)
  case writeNew =>
    intro s m off v hc hd hh hb ha hcap hm hl
    exact Completes.of_exec (exec_apertureWrite_on s v hc hd hh hb ha)
      (s.apertureWrite_new (Nat.mul_mod_left ..) hcap hm hl)
  case writeJoins =>
    intro s m off v x hc hd hh hb ha hcap hm hl
    exact Completes.of_exec (exec_apertureWrite_on s v hc hd hh hb ha)
      (s.apertureWrite_joins (Nat.mul_mod_left ..) hcap hm hl)
  case writeDenied =>
    intro s m off v hc hd hh hb ha hcap hw
    exact Completes.of_exec (exec_apertureWrite_on s v hc hd hh hb ha) (s.apertureWrite_denied v hcap hw)
  case capTakes =>
    intro s m v ha he hc hx
    exact Completes.of_guardW ha rfl ((s.rewritten _).capCfgWrite_takes he hc hx)
  case capRefused =>
    intro s m v ha he hx
    exact Completes.of_guardW ha rfl ((s.rewritten _).capCfgWrite_refused he hx)
  case capClears =>
    intro s m v ha he hc hoff
    exact Completes.of_guardW ha rfl ((s.rewritten _).capCfgWrite_clears he hc hoff)
  case capDrop =>
    intro s ho hc
    exact Completes.of_if rfl (by simp [ho, hc]) ⟨rfl, State.rdN_bump _ _ rfl⟩
  case cfgOpen =>
    intro s m v ha hadm hd hc
    refine Completes.of_guardW ha rfl ?_
    rw [State.rd_hayCfg_effect]
    exact (s.rewritten _).rd_hayCfgWrite_open v hadm hd hc
  case cfgAdmitting =>
    intro s m v ha hadm
    refine Completes.of_guardW ha rfl ?_
    obtain ⟨t, ht⟩ : ∃ t, (s.rewritten (R .HAY_CFG)).hayCfgWrite v = t := ⟨_, rfl⟩
    have shows := (s.rewritten (R .HAY_CFG)).hayCfgWrite_admitting (v := v) hadm
    rw [ht] at shows ⊢
    have kept : ∀ (l : List Nat) (f : Fld), f.reg = .HAY_CFG → ((t.each l State.xoffFlow).pauseAll).fld f = t.fld f :=
      fun l f hf => State.fld_of_rd f (by rw [hf]; exact t.rd_hayCfg_effect l)
    rw [State.flag] at shows ⊢
    rw [kept _ _ rfl, kept _ _ rfl, kept _ _ rfl]
    exact shows

end Sys2Proof.Machine
end

section
/-! The Stable: candidates, quality levels, selection, loop states, heartbeat and training (spec/10): O15. -/

namespace Sys2Proof.Machine

variable (s : State)

/-! ## What the shared operations leave -/

/-- The bits that AVAIL's update writes are not among the field's. -/
def Fld.offAvail (f : Fld) : Bool :=
  f.ok && F.STB_REF_STATUS_AVAIL.apart f && F.STB_STATUS_AVAIL.apart f && decide (f.reg ≠ .STB_REF_EVT)

theorem State.flag_availEval {f : Fld} (h : f.offAvail = true) (a : Nat) : s.availEval.flag f a = s.flag f a := by
  simp only [Fld.offAvail, Fld.apart, Bool.and_eq_true, Bool.or_eq_true, decide_eq_true_eq] at h
  obtain ⟨⟨⟨ho, h1⟩, h2⟩, h3⟩ := h
  refine congrArg (· == 1) (s.fld_availEval f a 0 ho (h1.imp Ne.symm fun x => ?_) (h2.imp Ne.symm fun x => ?_) h3)
  · exact x.2.symm
  · exact x.2.symm

/-- A candidate's event stays set while AVAIL is brought up to date. -/
theorem State.flag_availEval_event {f : Fld} (hf : (f.ok && f.reg == .STB_REF_EVT && f.len == 1) = true) {a : Nat}
    (h : s.flag f a = true) : s.availEval.flag f a = true := by
  simp only [Bool.and_eq_true, beq_iff_eq] at hf
  obtain ⟨⟨ho, hr⟩, hl⟩ := hf
  exact beq_iff_eq.mpr (s.fld_availEval_event f a 0 ho hr hl (beq_iff_eq.mp h))

theorem State.flag_wtrStart {f : Fld} (h : F.STB_REF_STATUS_WTR.apart f = true) (i a : Nat) :
    (s.wtrStart i).flag f a = s.flag f a := State.flag_setFlag_apart _ h ..

theorem State.flag_when {b : Bool} {g : State → State} {f : Fld} {i j : Nat} (h : (g s).flag f i j = s.flag f i j) :
    (s.when b g).flag f i j = s.flag f i j := by
  unfold State.when
  split
  · exact h
  · rfl

/-- The heartbeat's loss is recorded by the heartbeat's own commands alone. -/
theorem State.fwLost_cleanEval : s.cleanEval.stb.fwLost = s.stb.fwLost := by
  unfold State.cleanEval
  split <;> rfl

theorem State.fwLost_qlEval : s.qlEval.stb.fwLost = s.stb.fwLost := by
  refine s.upto_keeps (fun t => t.stb.fwLost) _ 2 fun c t _ => ?_
  split
  · rfl
  · exact (congrArg Stb.fwLost ((State.pccPend_upd ..).stb rfl)).trans rfl

theorem State.fwLost_stbEnter (st : Nat) : (s.stbEnter st).stb.fwLost = s.stb.fwLost := by
  unfold State.stbEnter
  extract_lets old t u v
  split
  · rfl
  · rw [(State.ppsEval_upd _).stb rfl, State.fwLost_qlEval, State.fwLost_cleanEval]
    have hv : v.stb.fwLost = s.stb.fwLost := State.when_holds u (fun x => x.stb.fwLost = s.stb.fwLost) _ _ rfl fun h => h
    exact State.when_holds v (fun x => x.stb.fwLost = s.stb.fwLost) _ _ hv fun h =>
      (congrArg Stb.fwLost ((State.detect_upd ..).stb rfl)).trans h

theorem State.fwLost_refHoldStart (i : Nat) : (s.refHoldStart i).stb.fwLost = s.stb.fwLost := by
  unfold State.refHoldStart
  extract_lets f new t
  rw [State.fwLost_cleanEval]
  exact State.when_holds _ (fun x => x.stb.fwLost = s.stb.fwLost) _ _ rfl fun h =>
    (congrArg Stb.fwLost ((State.detect_upd ..).stb rfl)).trans h

theorem State.fwLost_candLost (i : Nat) : (s.candLost i).stb.fwLost = s.stb.fwLost := by
  unfold State.candLost
  split
  · rfl
  · extract_lets t u v w
    refine (congrArg Stb.fwLost ((State.availEval_upd _).stb rfl)).trans ?_
    exact State.when_holds v (fun x => x.stb.fwLost = s.stb.fwLost) _ _ rfl fun h =>
      (State.fwLost_refHoldStart ..).trans h

/-- The hold-off's start sets HOLDOFF and no other field of STB.STATUS. -/
theorem State.flag_refHoldStart {f : Fld} (h : F.STB_STATUS_HOLDOFF.apart f = true) (hr : f.reg = .STB_STATUS) (i : Nat) :
    (s.refHoldStart i).flag f = s.flag f := by
  refine ((State.cleanEval_upd _).flag _ _ _ (by rw [hr]; rfl)).trans ?_
  refine (State.flag_when _ ((State.detect_upd ..).flag _ _ _ (by rw [hr]; rfl))).trans ?_
  exact State.flag_setFlag_apart _ h ..

/-! ## Candidates -/

theorem State.candLost_shows {i : Nat} (ho : s.stbOn = true) (hi : i < 15)
    (hp : s.flag F.STB_REF_STATUS_PRESENT i = true) :
    (s.candLost i).flag F.STB_REF_STATUS_PRESENT i = false ∧ (s.candLost i).flag F.STB_REF_EVT_LOST i = true ∧
      (s.candLost i).rdN (R .STB_REF_LOS_CNT i) = min (s.rdN (R .STB_REF_LOS_CNT i) + 1) 0xFFFFFFFF := by
  unfold State.candLost
  rw [if_neg (by simp [ho, hi, hp])]
  extract_lets t u v w
  have tp : t.flag F.STB_REF_STATUS_PRESENT i = false := by
    refine (congrArg (· == 1) (State.fld_bump_id _ rfl ..)).trans ((State.flag_raise_apart _ rfl ..).trans ?_)
    exact s.flag_setFlag rfl rfl ..
  have te : t.flag F.STB_REF_EVT_LOST i = true :=
    (congrArg (· == 1) (State.fld_bump_id _ rfl ..)).trans (State.flag_raise _ rfl rfl ..)
  have tc : t.rdN (R .STB_REF_LOS_CNT i) = min (s.rdN (R .STB_REF_LOS_CNT i) + 1) 0xFFFFFFFF := by
    refine (State.rdN_bump _ _ rfl).trans ?_
    rw [State.rdN, State.rd_raise_name _ rfl, State.rd_setFlag_name _ rfl, State.rdN]
  clear_value t
  have vf : ∀ f : Fld, F.STB_REF_STATUS_WTR.apart f = true → (f.reg == .STB_REF_FOFS) = false →
      (f.reg == .STB_REF_DRIFT) = false → v.flag f i = t.flag f i := fun f h h1 h2 =>
    (congrArg (· == 1) ((State.fld_wr_id _ h2 ..).trans (State.fld_wr_id _ h1 ..))).trans
      (t.flag_setFlag_apart h ..)
  have vc : v.rdN (R .STB_REF_LOS_CNT i) = t.rdN (R .STB_REF_LOS_CNT i) :=
    congrArg BitVec.toNat ((State.rd_wr_name _ rfl ..).trans ((State.rd_wr_name _ rfl ..).trans
      (t.rd_setFlag_name rfl ..)))
  have hp := vf F.STB_REF_STATUS_PRESENT rfl rfl rfl
  have he := vf F.STB_REF_EVT_LOST rfl rfl rfl
  clear_value v
  refine ⟨?_, State.flag_availEval_event _ rfl ?_, ?_⟩
  · refine (State.flag_availEval _ rfl i).trans ((State.flag_when _ ?_).trans (hp.trans tp))
    exact (State.refHoldStart_upd ..).flag _ _ _ rfl
  · refine (State.flag_when _ ?_).trans (he.trans te)
    exact (State.refHoldStart_upd ..).flag _ _ _ rfl
  · rw [(State.availEval_upd _).rdN_of _ _ _ rfl, ← tc, ← vc]
    exact State.when_holds v (fun x => x.rdN (R .STB_REF_LOS_CNT i) = v.rdN (R .STB_REF_LOS_CNT i)) _ _ rfl fun h =>
      ((State.refHoldStart_upd ..).rdN_of _ _ _ rfl).trans h

theorem State.candPresent_shows {i : Nat} (ho : s.stbOn = true) (hi : i < 15) (hb : s.canBePresent i = true)
    (hp : s.flag F.STB_REF_STATUS_PRESENT i = false) (h2 : s.inj 0x02 i = false) (h3 : s.inj 0x03 i = false) :
    (s.candPresent i).flag F.STB_REF_STATUS_PRESENT i = true ∧ (s.candPresent i).flag F.STB_REF_EVT_PRESENT i = true := by
  unfold State.candPresent
  rw [if_neg (by simp [ho, hi, hb, hp, h2, h3])]
  extract_lets t back held u v
  have tp : t.flag F.STB_REF_STATUS_PRESENT i = true :=
    (State.flag_raise_apart _ rfl ..).trans (s.flag_setFlag rfl rfl ..)
  have te : t.flag F.STB_REF_EVT_PRESENT i = true := State.flag_raise _ rfl rfl ..
  have kept : ∀ f : Fld, F.STB_REF_STATUS_WTR.apart f = true → F.STB_STATUS_HOLDOFF.apart f = true →
      (v.when (v.stb.lostRef == i) State.lossOver).flag f i = t.flag f i := fun f hw hh => by
    refine (State.flag_when (f := f) v rfl).trans ((State.flag_when _ ?_).trans (State.flag_when _ ?_))
    · refine ((State.cleanEval_upd _).flag _ _ _ ?_).trans (State.flag_setFlag_apart _ hh ..)
      cases hf : f.reg <;> rfl
    · exact State.flag_wtrStart _ hw ..
  exact ⟨(State.flag_availEval _ rfl i).trans ((kept _ rfl rfl).trans tp),
    State.flag_availEval_event _ rfl ((kept _ rfl rfl).trans te)⟩

/-! ## Quality levels -/

theorem ssmRank_opt2_lt {ssm r : Nat} (h : ssmRank true ssm none = some r) : r < 16 := by
  unfold ssmRank at h
  rw [if_pos rfl] at h
  split at h <;> cases h <;> decide

/-- A listed SSM code in option 2 gives its rank to the candidates of its port (R225, R227). -/
theorem State.esmcRx_rank {p i r : Nat} {d : EsmcPdu} (ho : s.stbOn = true) (hp : s.portUp p = true) (hi : i < 15)
    (hk : s.qlKey i = some p) (h2 : s.flag F.STB_CFG_QL_OPT = true) (hr : ssmRank true d.ssm none = some r) :
    (s.esmcRx p (some d)).fld F.STB_REF_STATUS_QL i = s.rankOf r := by
  unfold State.esmcRx
  rw [if_neg (by simp [ho, hp])]
  simp only [h2, if_true, Bool.not_true, Bool.false_and, Bool.false_eq_true, if_false, Option.map_none, hr,
    Option.getD_some]
  exact s.fld_deliver p r _ 0 0 i (ssmRank_opt2_lt hr) hi ho hk

theorem State.rd_takeQl (i : Nat) (id : RegId) (j : Nat) (h : id = .STB_REF_CFG ∨ id = .STB_CFG) :
    (s.takeQl i).rd (R id j) = s.rd (R id j) := by
  rcases h with rfl | rfl
  · exact (State.takeQl_upd ..).rd_of _ _ _ rfl
  · exact (State.takeQl_upd ..).rd_of _ _ _ rfl

/-- REF_CFG takes a write. -/
theorem State.rd_refCfgWrite (i : Nat) (v : W32) :
    (s.refCfgWrite i v).rd (R .STB_REF_CFG i) = v &&& (R .STB_REF_CFG i).mask := by
  unfold State.refCfgWrite
  extract_lets key en t u w
  have ht : t.rd (R .STB_REF_CFG i) = v &&& (R .STB_REF_CFG i).mask := s.rd_plainWrite_full rfl v i 0
  have hu : u.rd (R .STB_REF_CFG i) = v &&& (R .STB_REF_CFG i).mask := by
    unfold u
    split
    · exact ht
    · exact (t.rd_takeQl i _ _ (.inl rfl)).trans ht
  refine ((State.qlEval_upd _).rd_of _ _ _ rfl).trans (((State.availEval_upd _).rd_of _ _ _ rfl).trans ?_)
  refine State.when_holds u (fun x => x.rd (R .STB_REF_CFG i) = v &&& (R .STB_REF_CFG i).mask) _ _ hu fun h => ?_
  exact State.when_holds _ (fun x => x.rd (R .STB_REF_CFG i) = v &&& (R .STB_REF_CFG i).mask) _ _ h fun h =>
    ((State.wtrStart_upd ..).rd_of _ _ _ rfl).trans h

/-- STB.CFG takes a write. -/
theorem State.rd_stbCfgWrite (v : W32) : (s.stbCfgWrite v).rd (R .STB_CFG) = v &&& (R .STB_CFG).mask := by
  unfold State.stbCfgWrite
  extract_lets opt t new u w
  have ht : t.rd (R .STB_CFG) = v &&& (R .STB_CFG).mask := s.rd_plainWrite_full rfl v 0 0
  have hu : u.rd (R .STB_CFG) = v &&& (R .STB_CFG).mask := by
    refine ((State.availEval_upd _).rd_of _ _ _ rfl).trans (Eq.trans ?_ ht)
    refine t.upto_keeps (fun x => x.rd (R .STB_CFG)) _ 15 fun i x _ => ?_
    split
    · exact x.rd_takeQl i _ _ (.inr rfl)
    · rfl
  refine ((State.qlEval_upd _).rd_of _ _ _ rfl).trans ?_
  unfold w
  split
  · exact ((State.stbLose_upd _).rd_of _ _ _ rfl).trans hu
  · exact ((State.stbEnter_upd ..).rd_of _ _ _ rfl).trans hu
  · exact hu

/-! ## Qualification -/

/-- The window's corrected offset stands in REF_FOFS. -/
theorem State.fofs_qualWindow {i : Nat} {o : Int} (ho : s.stbOn = true) (hi : i < 15)
    (hp : s.flag F.STB_REF_STATUS_PRESENT i = true) : (s.qualWindow [(i, o)]).rdN (R .STB_REF_FOFS i) =
      unsigned 32 (o + s.steer / 1024 + signed 32 (s.fld F.STB_MODEL_PRED_PRED) + s.injOffset i) := by
  unfold State.qualWindow
  rw [if_neg (by simp [ho])]
  extract_lets t c
  have ht : t.rdN (R .STB_REF_FOFS i) =
      unsigned 32 (o + s.steer / 1024 + signed 32 (s.fld F.STB_MODEL_PRED_PRED) + s.injOffset i) := by
    unfold t
    rw [State.each, State.each]
    dsimp only
    rw [if_neg (by simp [hi, hp]), State.rdN, State.rd_wrN_name _ rfl]
    refine (State.rdN_wrN _ (R .STB_REF_FOFS i) _ rfl).trans (Nat.mod_eq_of_lt ?_)
    unfold unsigned
    omega
  clear_value t
  refine (congrArg BitVec.toNat (State.upto_keeps _ (fun x => x.rd (R .STB_REF_FOFS i)) _ 15 fun j x _ =>
    (State.compare_upd ..).rd_of _ _ _ rfl)).trans ?_
  rw [← ht]
  exact State.when_holds t (fun x => x.rdN (R .STB_REF_FOFS i) = t.rdN (R .STB_REF_FOFS i)) _ _ rfl fun h =>
    (congrArg BitVec.toNat (t.rd_raise_name rfl ..)).trans h

theorem State.disqualify_shows {i : Nat} (base : Int) (ho : s.stbOn = true) (hi : i < 15)
    (hd : s.flag F.STB_REF_STATUS_DISQ i = false) (hp : s.persist i ≤ (s.cand i).above) :
    (s.disqualify i base).flag F.STB_REF_STATUS_DISQ i = true ∧ (s.disqualify i base).flag F.STB_REF_EVT_DISQ i = true ∧
      (s.disqualify i base).rdN (R .STB_REF_DISQ_CNT i) = min (s.rdN (R .STB_REF_DISQ_CNT i) + 1) 0xFFFFFFFF := by
  unfold State.disqualify
  rw [if_neg (by simp [ho, hi, hd, hp])]
  extract_lets t0 t u hit v
  have ht : t.flag F.STB_REF_STATUS_DISQ i = true :=
    (congrArg (· == 1) (State.fld_bump_id _ rfl ..)).trans
      ((State.flag_raise_apart _ rfl ..).trans (s.flag_setFlag rfl rfl ..))
  have te : t.flag F.STB_REF_EVT_DISQ i = true :=
    (congrArg (· == 1) (State.fld_bump_id _ rfl ..)).trans (State.flag_raise _ rfl rfl ..)
  have tc : t.rdN (R .STB_REF_DISQ_CNT i) = min (s.rdN (R .STB_REF_DISQ_CNT i) + 1) 0xFFFFFFFF := by
    refine (State.rdN_bump _ _ rfl).trans ?_
    rw [State.rdN, State.rd_raise_name _ rfl, State.rd_setFlag_name _ rfl, State.rdN]
  clear_value t
  have kept : ∀ f : Fld, F.STB_REF_STATUS_WTR.apart f = true → F.STB_STATUS_PRUNING.apart f = true →
      v.flag f i = t.flag f i := fun f hw hp => by
    refine (State.flag_when _ ?_).trans (t.flag_setFlag_apart hw ..)
    refine ((State.cleanEval_upd _).flag _ _ _ ?_).trans (State.flag_setFlag_apart _ hp ..)
    cases hf : f.reg <;> rfl
  refine ⟨(State.flag_availEval _ rfl i).trans ((kept _ rfl rfl).trans ht),
    State.flag_availEval_event _ rfl ((kept _ rfl rfl).trans te), ?_⟩
  rw [(State.availEval_upd _).rdN_of _ _ _ rfl, ← tc]
  have hu : u.rdN (R .STB_REF_DISQ_CNT i) = t.rdN (R .STB_REF_DISQ_CNT i) :=
    congrArg BitVec.toNat (t.rd_setFlag_name rfl ..)
  refine State.when_holds u (fun x => x.rdN (R .STB_REF_DISQ_CNT i) = t.rdN (R .STB_REF_DISQ_CNT i)) _ _ hu fun h => ?_
  rw [(State.cleanEval_upd _).rdN_of _ _ _ rfl]
  exact (congrArg BitVec.toNat (u.rd_setFlag_name rfl ..)).trans h

/-! ## Selection -/

theorem State.flag_modStb (g : Stb → Stb) (f : Fld) (i : Nat) : (s.modStb g).flag f i = s.flag f i := rfl

theorem State.rd_modStb (g : Stb → Stb) (k : RegKey) : (s.modStb g).rd k = s.rd k := rfl

/-- What follows the naming of candidate `w` by a commit, a switch or not. -/
def State.commitTail (w : Nat) (switch : Bool) (g : Stb → Stb) (s : State) : State :=
  ((((s.raise F.STB_REF_EVT_SELECTED w).modStb g).lossOver).when switch fun s =>
    (((s.raise F.STB_EVT_SWITCH).bump (R .STB_SWITCH_CNT)).setFlag F.STB_STATUS_BUILDOUT true).cleanEval).qlEval

/-- The selected candidate, if any, is deselected. -/
def State.deselected (s : State) : State :=
  s.when (s.stbSel != 15) fun t =>
    (t.raise F.STB_REF_EVT_DESELECTED s.stbSel).modCand s.stbSel fun k => { k with lastSel := some t.sec }

/-- A commit names the candidate; one that replaces another deselects that first. -/
theorem State.commitSel_eq {w : Nat} (hw : w < 15) : s.commitSel w =
    (s.deselected.setFld F.STB_STATUS_SEL w).commitTail w (s.stbSel != 15) fun b =>
      { b with band := (s.deselected.setFld F.STB_STATUS_SEL w).fld F.STB_REF_CFG_BW w } :=
  if_neg (by omega)

theorem State.commitTail_selected (w : Nat) (b : Bool) (g : Stb → Stb) :
    (s.commitTail w b g).flag F.STB_REF_EVT_SELECTED w = true := by
  refine ((State.qlEval_upd _).flag _ _ _ rfl).trans ((State.flag_when _ ?_).trans ?_)
  · refine ((State.cleanEval_upd _).flag _ _ _ rfl).trans ((State.flag_setFlag_apart _ rfl ..).trans ?_)
    exact (congrArg (· == 1) (State.fld_bump_id _ rfl ..)).trans (State.flag_raise_apart _ rfl ..)
  · rw [State.lossOver, State.flag_modStb, State.flag_modStb]
    exact s.flag_raise rfl rfl ..

theorem State.commitTail_switch (w : Nat) (g : Stb → Stb) : (s.commitTail w true g).flag F.STB_STATUS_BUILDOUT = true ∧
    (s.commitTail w true g).rdN (R .STB_SWITCH_CNT) = min (s.rdN (R .STB_SWITCH_CNT) + 1) 0xFFFFFFFF := by
  rw [State.commitTail, State.when, if_pos rfl, (State.qlEval_upd _).flag _ _ _ rfl,
    (State.qlEval_upd _).rdN_of _ _ _ rfl, (State.cleanEval_upd _).flag _ _ _ rfl,
    (State.cleanEval_upd _).rdN_of _ _ _ rfl]
  refine ⟨State.flag_setFlag _ rfl rfl .., ?_⟩
  rw [State.rdN, State.rd_setFlag_name _ rfl]
  refine (State.rdN_bump _ _ rfl).trans ?_
  rw [State.rdN, State.rd_raise_name _ rfl, State.lossOver, State.rd_modStb, State.rd_modStb, s.rd_raise_name rfl,
    State.rdN]

/-- A commit to a candidate selects it, with its event. -/
theorem State.commitSel_selects {w : Nat} (hw : w < 15) :
    (s.commitSel w).stbSel = w ∧ (s.commitSel w).flag F.STB_REF_EVT_SELECTED w = true := by
  refine ⟨s.stbSel_commitSel w (by omega), ?_⟩
  rw [s.commitSel_eq hw]
  exact State.commitTail_selected ..

/-- A commit that replaces a candidate is a switch: it is counted and its build-out begins. -/
theorem State.commitSel_switches {w : Nat} (hw : w < 15) (hs : s.stbSel ≠ 15) :
    (s.commitSel w).flag F.STB_STATUS_BUILDOUT = true ∧
      (s.commitSel w).rdN (R .STB_SWITCH_CNT) = min (s.rdN (R .STB_SWITCH_CNT) + 1) 0xFFFFFFFF := by
  have ho : (s.stbSel != 15) = true := by simpa using hs
  rw [s.commitSel_eq hw, ho]
  obtain ⟨hb, hn⟩ := State.commitTail_switch (s.deselected.setFld F.STB_STATUS_SEL w) w fun b =>
    { b with band := (s.deselected.setFld F.STB_STATUS_SEL w).fld F.STB_REF_CFG_BW w }
  refine ⟨hb, hn.trans ?_⟩
  rw [State.rdN, State.rd_setFld_name _ rfl, State.deselected, ho, State.when, if_pos rfl, State.modCand,
    State.rd_modStb, State.rd_raise_name _ rfl, State.rdN]

theorem State.selTick_commits {w : Nat} (ho : s.stbOn = true) (hb : s.flag F.STB_STATUS_BUILDOUT = false)
    (hh : s.flag F.STB_STATUS_HOLDOFF = false) (hf : s.forceLost = false) (hs : s.stbSel ≠ w) (hc : s.choose = w) :
    s.selTick = (s.commitSel w).stbAcq := by
  have e : (w != s.stbSel) = true := by simpa using hs.symm
  simp only [State.selTick, ho, hb, hh, hf, hc, e, State.when, Bool.not_true, Bool.or_self, Bool.false_eq_true, if_false,
    if_true]

theorem State.flag_stbAcq {f : Fld} (h : F.STB_STATUS_STATE.apart f = true) (ho : (f.ok && f.reg == .STB_STATUS) = true) :
    s.stbAcq.flag f = s.flag f := by
  simp only [Bool.and_eq_true, beq_iff_eq] at ho
  simp only [Fld.apart, Bool.or_eq_true, Bool.and_eq_true, decide_eq_true_eq] at h
  refine congrArg (· == 1) (s.fld_stbAcq f 0 0 ho.1 ho.2 ?_)
  rcases h with h | h
  · exact absurd ho.2.symm h
  · exact h.2.symm

/-- The selector's command register takes the command and the candidate that are written. -/
theorem State.selWrite_takes {v : W32} {c i : Nat} (hc : F.STB_SEL_CMD_CMD.get v = c) (hi : F.STB_SEL_CMD_IDX.get v = i) :
    (s.selWrite v).fld F.STB_SEL_CMD_CMD = c ∧ (s.selWrite v).fld F.STB_SEL_CMD_IDX = i :=
  ⟨(s.fld_plainWrite_rw rfl v 0 0).trans hc, (s.fld_plainWrite_rw rfl v 0 0).trans hi⟩

/-- The word of a selector command. -/
theorem selWord_get {c i : Nat} (hc : c < 3) (hi : i < 15) :
    F.STB_SEL_CMD_CMD.get (BitVec.ofNat 32 (2 ^ 30 * c + i % 16)) = c ∧
      F.STB_SEL_CMD_IDX.get (BitVec.ofNat 32 (2 ^ 30 * c + i % 16)) = i := by
  simp only [Fld.get, F.STB_SEL_CMD_CMD, F.STB_SEL_CMD_IDX, BitVec.toNat_ofNat]
  omega

/-- The end of the hold-off. -/
theorem State.refHoldEnd_clears (ho : s.stbOn = true) (hh : s.flag F.STB_STATUS_HOLDOFF = true)
    (he : s.stb.holdEnd ≤ s.us) : s.refHoldEnd.flag F.STB_STATUS_HOLDOFF = false := by
  unfold State.refHoldEnd
  rw [if_neg (by simp [ho, hh, he])]
  extract_lets t
  refine (State.flag_stbAcq _ rfl rfl).trans ((State.flag_when _ ?_).trans ?_)
  · exact congrArg (· == 1) (t.fld_commitSel _ _ 0 0 rfl rfl (by decide) (by decide) (by decide))
  · exact ((State.cleanEval_upd _).flag _ _ _ rfl).trans (s.flag_setFlag rfl rfl ..)

theorem State.flag_stbEnter {f : Fld} (h : F.STB_STATUS_STATE.apart f = true) (ho : (f.ok && f.reg == .STB_STATUS) = true)
    (st : Nat) : (s.stbEnter st).flag f = s.flag f := by
  simp only [Bool.and_eq_true, beq_iff_eq] at ho
  simp only [Fld.apart, Bool.or_eq_true, Bool.and_eq_true, decide_eq_true_eq] at h
  refine congrArg (· == 1) (s.fld_stbEnter st f 0 0 ho.1 ho.2 ?_)
  rcases h with h | h
  · exact absurd ho.2.symm h
  · exact h.2.symm

/-! ## The heartbeat -/

theorem State.fwLost_clampEval : s.clampEval.stb.fwLost = s.stb.fwLost := by
  unfold State.clampEval
  extract_lets c
  split
  · rfl
  · rw [State.fwLost_cleanEval]
    exact State.when_holds _ (fun x => x.stb.fwLost = s.stb.fwLost) _ _ rfl fun h => h

theorem State.fwLost_stbAcq : s.stbAcq.stb.fwLost = s.stb.fwLost := by
  unfold State.stbAcq
  extract_lets st
  split
  · exact s.fwLost_stbEnter 1
  · rfl

/-- A write of FW_BEAT ends a gap of the heartbeat. -/
theorem State.fwBeat_shows : s.fwBeat.flag F.STB_STATUS_FW_OK = true ∧ s.fwBeat.stb.fwLost = false := by
  have effect : ∀ t : State, t.flag F.STB_STATUS_FW_OK = true ∧ t.stb.fwLost = false →
      t.clampEval.stbAcq.flag F.STB_STATUS_FW_OK = true ∧ t.clampEval.stbAcq.stb.fwLost = false := fun t h => by
    rw [State.flag_stbAcq _ rfl rfl, State.fwLost_stbAcq, State.fwLost_clampEval, State.flag,
      t.fld_clampEval _ 0 0 rfl (by decide) (by decide)]
    exact h
  exact State.when_holds _ (fun x => x.flag F.STB_STATUS_FW_OK = true ∧ x.stb.fwLost = false) _ _
    ⟨s.flag_setFlag rfl rfl true 0 0, rfl⟩ (effect _)

/-- STB.STATUS's FW_OK stands while candidate 11 is lost. -/
theorem State.fwOk_candLost : (s.candLost 11).flag F.STB_STATUS_FW_OK = s.flag F.STB_STATUS_FW_OK := by
  unfold State.candLost
  split
  · rfl
  · extract_lets t u v w
    have tf : t.flag F.STB_STATUS_FW_OK = s.flag F.STB_STATUS_FW_OK :=
      (congrArg (· == 1) (State.fld_bump_id _ rfl ..)).trans
        ((State.flag_raise_apart _ rfl ..).trans (s.flag_setFlag_apart rfl ..))
    have vf : v.flag F.STB_STATUS_FW_OK = t.flag F.STB_STATUS_FW_OK :=
      (congrArg (· == 1) ((State.fld_wr_id _ rfl ..).trans (State.fld_wr_id _ rfl ..))).trans
        (t.flag_setFlag_apart rfl ..)
    exact (State.flag_availEval _ rfl 0).trans ((State.flag_when _ (State.flag_refHoldStart _ rfl rfl _)).trans
      (vf.trans tf))

/-! ## Samples and their removal -/

/-- The removal that is under way keeps the samples from before the onset (R252). -/
theorem State.pruneDone_shows {t0 : Nat} (h : s.stb.onset = some t0) :
    s.pruneDone.flag F.STB_STATUS_PRUNING = false ∧ s.pruneDone.rdN (R .STB_ONSET) = t0 % 2 ^ 32 ∧
      s.pruneDone.stb.s10 = s.stb.s10.filter (fun x => x.start + 600 ≤ t0) ∧
      s.pruneDone.stb.s1 = s.stb.s1.filter fun x => x.start < t0 := by
  unfold State.pruneDone
  rw [h]
  dsimp -zeta only
  extract_lets s10 s1 t u
  have hs : u.stb.s10 = s10 ∧ u.stb.s1 = s1 := ⟨rfl, rfl⟩
  have hu : u.rdN (R .STB_ONSET) = t0 % 2 ^ 32 := State.rdN_wrN _ (R .STB_ONSET) t0 rfl
  clear_value u
  rw [(State.trainEval_upd _).flag _ _ _ rfl, (State.trainEval_upd _).rdN_of _ _ _ rfl, (State.stb_trainEval _).1,
    (State.stb_trainEval _).2, State.flag_raise_apart _ rfl]
  refine ⟨u.flag_setFlag rfl rfl .., ?_, hs.1, hs.2⟩
  rw [State.rdN, State.rd_raise_name _ rfl, State.rd_setFlag_name _ rfl]
  exact hu

theorem State.sent_esmcSend (p : Nat) (e : Bool) :
    (s.esmcSend p e).stb.sent.get none p = some (s.esmcPdu p e) := NTab.get_set_same none s.stb.sent p (some (s.esmcPdu p e))

/-! ## The commands -/

/-- Settles O15. -/
theorem stableCommandsComplete : Obligations.StableCommandsComplete := by
  refine ⟨?lost, ?present, ?esmcPdu, ?qlTimeout, ?qlSrc, ?qualWindow, ?disq, ?requal, ?wtr, ?first, ?switch, ?manual,
    ?forced, ?clear, ?holdoff, ?buildout, ?locked, ?acquire, ?mode, ?beat, ?beatLost, ?bound, ?frozen, ?steerSrv,
    ?steerMan, ?sample10, ?sample1, ?prune, ?esmcTx, ?eventPdu⟩
  case lost =>
    intro s i ho hi hp hc
    exact Completes.of_if rfl hc (s.candLost_shows ho hi hp)
  case present =>
    intro s i ho hi hb hp h2 h3
    exact Completes.of_exec rfl (s.candPresent_shows ho hi hb hp h2 h3)
  case esmcPdu =>
    intro s p d i r ho hp hi hk h2 hr
    exact Completes.of_exec rfl (s.esmcRx_rank ho hp hi hk h2 hr)
  case qlTimeout =>
    intro s i k ho hi hk hl
    refine Completes.of_exec (t := s.setQl i 14) ?_ (s.fld_setQl_same i 14 (by decide))
    change execQlTimeout i s = _
    simp only [execQlTimeout, ho, hi, decide_true, Bool.and_self, if_true, hk, hl]
  case qlSrc =>
    intro s m i v ha
    exact Completes.of_guardW ha rfl (State.rd_refCfgWrite _ i v)
  case qualWindow =>
    intro s i o ho hi hp
    exact Completes.of_exec rfl (s.fofs_qualWindow ho hi hp)
  case disq =>
    intro s i base ho hi hd hp
    exact Completes.of_exec rfl (s.disqualify_shows base ho hi hd hp)
  case requal =>
    intro s i ho hi hd hl
    refine Completes.of_if rfl (by simp [ho, hi, hd, hl]) ?_
    exact (State.flag_availEval _ rfl i).trans
      ((State.flag_when _ (State.flag_wtrStart _ rfl ..)).trans (s.flag_setFlag rfl rfl ..))
  case wtr =>
    intro s i ho hi hw he
    exact Completes.of_if rfl (by simp [ho, hi, hw, he])
      ((State.flag_availEval _ rfl i).trans (s.flag_setFlag rfl rfl ..))
  case first =>
    intro s w ho hb hh hf hs hc hw
    refine Completes.of_exec rfl ?_
    obtain ⟨sel, evt⟩ := s.commitSel_selects hw
    rw [s.selTick_commits ho hb hh hf (by omega) hc, (State.stbAcq_upd _).flag _ _ _ rfl]
    exact ⟨(State.fld_stbAcq _ F.STB_STATUS_SEL 0 0 rfl rfl (by decide)).trans sel, evt⟩
  case switch =>
    intro s w ho hb hh hf hn hs hc hw
    refine Completes.of_exec rfl ?_
    obtain ⟨bo, cnt⟩ := s.commitSel_switches hw hn
    rw [s.selTick_commits ho hb hh hf hs hc, State.flag_stbAcq _ rfl rfl, (State.stbAcq_upd _).rdN_of _ _ _ rfl]
    exact ⟨(State.fld_stbAcq _ F.STB_STATUS_SEL 0 0 rfl rfl (by decide)).trans (s.commitSel_selects hw).1, bo, cnt⟩
  case manual =>
    intro s m i ha hi
    obtain ⟨hc, hx⟩ := selWord_get (c := 1) (by decide) hi
    exact Completes.of_guardW ha rfl (State.selWrite_takes _ hc hx)
  case forced =>
    intro s m i ha hi
    obtain ⟨hc, hx⟩ := selWord_get (c := 2) (by decide) hi
    exact Completes.of_guardW ha rfl (State.selWrite_takes _ hc hx)
  case clear =>
    intro s m i ha hi
    obtain ⟨hc, hx⟩ := selWord_get (c := 0) (by decide) hi
    rw [Nat.mul_zero, Nat.zero_add] at hc hx
    exact Completes.of_guardW ha rfl (State.selWrite_takes _ hc hx)
  case holdoff =>
    intro s ho hh he
    exact Completes.of_exec rfl (s.refHoldEnd_clears ho hh he)
  case buildout =>
    intro s ofs ho hb
    refine Completes.of_exec rfl ?_
    rw [if_neg (by simp [ho, hb])]
    extract_lets t i out near u
    have ht : t.flag F.STB_STATUS_BUILDOUT = false :=
      (State.flag_raise_apart _ rfl ..).trans (s.flag_setFlag rfl rfl ..)
    clear_value t
    have hu : u.flag F.STB_STATUS_BUILDOUT = t.flag F.STB_STATUS_BUILDOUT := by
      unfold u
      split
      · exact State.flag_when _ (State.flag_stbEnter _ rfl rfl _)
      · exact State.flag_when _ (State.flag_stbEnter _ rfl rfl _)
    exact ((State.cleanEval_upd _).flag _ _ _ rfl).trans
      ((State.flag_when _ (State.flag_refHoldStart _ rfl rfl _)).trans (hu.trans ht))
  case locked =>
    intro s ho hst hw hs ht
    exact Completes.of_if rfl (by simp [ho, hst, hw, hs, ht])
      ⟨s.stbSt_stbEnter 2 (by decide), beq_iff_eq.mpr (s.fld_stbEnter_own 2 (by omega))⟩
  case acquire =>
    intro s ho hst
    exact Completes.of_if rfl (by simp [ho, hst])
      ⟨s.stbSt_stbEnter 1 (by decide), beq_iff_eq.mpr (s.fld_stbEnter_own 1 (by omega))⟩
  case mode =>
    intro s m v ha
    exact Completes.of_guardW ha rfl (State.rd_stbCfgWrite _ v)
  case beat =>
    intro s m v ha
    exact Completes.of_guardW ha rfl (State.fwBeat_shows _)
  case beatLost =>
    intro s ho hl hb
    refine Completes.of_exec rfl ?_
    rw [if_neg (by simp [ho, hl]; omega)]
    extract_lets t u
    have ht : t.flag F.STB_STATUS_FW_OK = false := State.flag_setFlag _ rfl rfl ..
    have tl : t.stb.fwLost = true := rfl
    clear_value t
    rw [(State.cleanEval_upd _).flag _ _ _ rfl, State.fwLost_cleanEval,
      State.flag_when _ (State.flag_stbEnter _ rfl rfl _)]
    have hu : u.stb.fwLost = true := (State.fwLost_candLost ..).trans tl
    exact ⟨(State.fwOk_candLost _).trans ht, State.when_holds u (fun x => x.stb.fwLost = true) _ _ hu fun h =>
      (State.fwLost_stbEnter ..).trans h⟩
  case bound =>
    intro s ho hst hb
    exact Completes.of_if rfl (by simp [ho, hst, hb])
      ⟨s.stbSt_stbEnter 4 (by decide), beq_iff_eq.mpr (s.fld_stbEnter_own 4 (by omega))⟩
  case frozen =>
    intro s ho hst hl ht
    exact Completes.of_if rfl (by simp [ho, hst, hl, ht])
      ⟨s.stbSt_stbEnter 4 (by decide), beq_iff_eq.mpr (s.fld_stbEnter_own 4 (by omega))⟩
  case steerSrv =>
    intro s m v ha
    refine Completes.of_guardW ha rfl ?_
    rw [(State.clampEval_upd _).rd_of _ _ _ rfl, (State.clampEval_upd _).rd_of _ _ _ rfl]
    exact ⟨State.rd_wr_same .., (State.rd_wr_name _ rfl ..).trans
      ((State.rd_wr_same ..).trans (BitVec.and_allOnes))⟩
  case steerMan =>
    intro s m v ha
    refine Completes.of_guardW ha rfl ?_
    rw [(State.clampEval_upd _).rd_of _ _ _ rfl, (State.clampEval_upd _).rd_of _ _ _ rfl]
    exact ⟨State.rd_wr_same .., (State.rd_wr_name _ rfl ..).trans
      ((State.rd_wr_same ..).trans (BitVec.and_allOnes))⟩
  case sample10 =>
    intro s w a b hw hok hc
    refine Completes.of_exec rfl ?_
    rw [if_neg (by simp [hw])]
    extract_lets ok x gap t
    have hk : ok = true := by simp [ok, hok, hc]
    change t.stb.s10 = _
    unfold t
    rw [State.when, if_pos hk, (State.stb_trainEval _).1]
    rfl
  case sample1 =>
    intro s w a b hw hok hc
    refine Completes.of_exec rfl ?_
    rw [if_neg (by simp [hw])]
    extract_lets ok x t
    have hk : ok = true := by simp [ok, hok, hc]
    change t.stb.s1 = _
    unfold t
    rw [State.when, if_pos hk, (State.stb_trainEval _).2]
    rfl
  case prune =>
    intro s t0 ho hp h
    exact Completes.of_if rfl (by simp [ho, hp]) (s.pruneDone_shows h)
  case esmcTx =>
    intro s p ho hp hb
    exact Completes.of_if rfl (by simp [State.esmcOn, ho, hp, hb]) (s.sent_esmcSend ..)
  case eventPdu =>
    intro s p ho hp hb hn
    exact Completes.of_if rfl (by simp [State.esmcOn, ho, hp, hb, hn]) (s.sent_esmcSend ..)

end Sys2Proof.Machine
end

section
/-! Postmark: steps, adjustments, packets, pulses, time messages and the timing chain (spec/11): O16. -/

namespace Sys2Proof.Machine

variable (s : State)

/-! ## PPS_SQ's update -/

theorem State.fld_ppsEval_apart {f : Fld} (h : (f.ok && F.PMK_STATUS_PPS_SQ.apart f && decide (f.reg ≠ .PMK_EVT)) = true)
    (i : Nat) : s.ppsEval.fld f i = s.fld f i := by
  simp only [Fld.apart, Bool.and_eq_true, Bool.or_eq_true, decide_eq_true_eq] at h
  obtain ⟨⟨ho, h1⟩, h2⟩ := h
  exact s.fld_ppsEval f i 0 ho (h1.imp Ne.symm fun x => x.2.symm) h2

theorem State.flag_ppsEval_apart {f : Fld}
    (h : (f.ok && F.PMK_STATUS_PPS_SQ.apart f && decide (f.reg ≠ .PMK_EVT)) = true) :
    s.ppsEval.flag f = s.flag f := congrArg (· == 1) (s.fld_ppsEval_apart h 0)

theorem State.flag_ppsEval_event {f : Fld} (hf : (f.ok && f.reg == .PMK_EVT && f.len == 1) = true)
    (h : s.flag f = true) : s.ppsEval.flag f = true := by
  simp only [Bool.and_eq_true, beq_iff_eq] at hf
  obtain ⟨⟨ho, hr⟩, hl⟩ := hf
  exact beq_iff_eq.mpr (s.fld_ppsEval_event f 0 0 ho hr hl (beq_iff_eq.mp h))

/-! ## Postmark's parts beside the registers -/

theorem State.fld_modPmk (g : Pmk → Pmk) (f : Fld) (i j : Nat) : (s.modPmk g).fld f i j = s.fld f i j := rfl

theorem State.fld_modPmkCar (c : Nat) (g : PmkCar → PmkCar) (f : Fld) (i j : Nat) :
    (s.modPmkCar c g).fld f i j = s.fld f i j := rfl

theorem State.rd_modPmkCar (c : Nat) (g : PmkCar → PmkCar) (k : RegKey) : (s.modPmkCar c g).rd k = s.rd k := rfl

/-! ## Steps and adjustments -/

/-- An applied step loads the counter, sets STEPPED and makes the time valid; no step becomes pending. -/
theorem State.applyStep_shows (t : Nat) : (s.applyStep t).flag F.PMK_STATUS_STEP_PEND = s.flag F.PMK_STATUS_STEP_PEND ∧
    (s.applyStep t).flag F.PMK_STATUS_TIME_VALID = true ∧ (s.applyStep t).flag F.PMK_EVT_STEPPED = true ∧
    (s.applyStep t).pmkTime = t % (2 ^ 48 * oneSec) := by
  unfold State.applyStep
  extract_lets a b c d e
  have cp : c.flag F.PMK_STATUS_STEP_PEND = s.flag F.PMK_STATUS_STEP_PEND :=
    (State.flag_setFlag_apart _ rfl ..).trans (b.flag_setFlag_apart rfl ..)
  have ct : c.pmkTime = t % (2 ^ 48 * oneSec) := rfl
  clear_value c
  obtain ⟨dp, dv, dt⟩ : d.flag F.PMK_STATUS_STEP_PEND = c.flag F.PMK_STATUS_STEP_PEND ∧
      d.flag F.PMK_STATUS_TIME_VALID = true ∧ d.pmkTime = c.pmkTime := by
    unfold d State.when
    split
    · exact ⟨(State.flag_raise_apart _ rfl ..).trans (c.flag_setFlag_apart rfl ..),
        (State.flag_raise_apart _ rfl ..).trans (c.flag_setFlag rfl rfl ..), rfl⟩
    · next h => exact ⟨rfl, by simpa using h, rfl⟩
  have et : e.pmkTime = d.pmkTime := rfl
  have ef : ∀ f : Fld, F.PMK_STATUS_STEP_CNT.apart f = true → e.flag f = d.flag f :=
    fun f h => congrFun (congrFun (funext fun i => funext fun j => d.flag_setFld_apart h ..) 0) 0
  clear_value e
  refine ⟨?_, ?_, State.flag_ppsEval_event _ rfl (e.flag_raise rfl rfl ..), ?_⟩
  · rw [State.flag_ppsEval_apart _ rfl, State.flag_raise_apart _ rfl, ef _ rfl, dp, cp]
  · rw [State.flag_ppsEval_apart _ rfl, State.flag_raise_apart _ rfl, ef _ rfl, dv]
  · exact ((State.ppsEval_upd _).pmkTime rfl).trans (et.trans (dt.trans ct))

theorem State.timeFault_shows (hf : s.flag F.PMK_STATUS_TIME_FAULT = false) (hd : s.pmk.diff ≠ 0) :
    s.timeFault.pmk.diff = s.pmk.diff ∧
      s.timeFault.rdN (R .SAF_FAULT_CNT 3) = min (s.rdN (R .SAF_FAULT_CNT 3) + 1) 0xFFFFFFFF := by
  unfold State.timeFault
  rw [if_neg (by simp [hf, hd])]
  refine ⟨?_, ?_⟩
  · rw [(State.detect_upd ..).pmk rfl, (State.ppsEval_upd _).pmk rfl]
    rfl
  · refine (State.faultCnt_detect _ 3).trans ?_
    rw [(State.ppsEval_upd _).rdN_of _ _ _ rfl, State.rdN, State.rd_setFlag_name _ rfl, State.rd_raise_name _ rfl,
      State.rd_setFlag_name _ rfl, State.rdN]

theorem State.autoStep_steps {err : Int} (ho : s.stbOn = true) (ha : s.flag F.PMK_CFG_AUTO_STEP = true)
    (hst : s.stbSt = 1) (hs : s.stbSel = 10) (hp : s.flag F.PMK_STATUS_STEP_PEND = false)
    (he : 100 * 65536 * max 1 (s.fld F.PMK_CFG_STEP_TH) < err.natAbs) :
    exec (.autoStep err) s = .next ((s.applyStep ((s.pmkTime : Int) - err).toNat).modStb fun b =>
      { b with boOfs := b.boOfs - err }) := by
  have cap : s.timeCapable 10 = true := rfl
  change execAutoStep err s = _
  unfold execAutoStep
  extract_lets half e th
  have hee : e = err := if_neg (by omega)
  rw [hee, if_pos (by simp [ho, ha, hst, hs, hp, cap, th, he])]

/-! ## PTP -/

theorem State.ptpIn_held {p : Nat} (l : List Byte) (h : s.pmk.ptp.length < 256) : (s.ptpIn p l).pmk.ptp =
    s.pmk.ptp ++ [⟨p, l, (s.pmkTime : Int) + psUnits (signed 16 (s.rdN (R .PMK_RX_DLY p)))⟩] := by
  unfold State.ptpIn
  rw [if_pos h]
  rfl

theorem State.ptpIn_dropped {p : Nat} (l : List Byte) (h : 256 ≤ s.pmk.ptp.length) :
    (s.ptpIn p l).pmk.ptp = s.pmk.ptp ∧ (s.ptpIn p l).flag F.PMK_EVT_PTP_DROP = true ∧
      (s.ptpIn p l).rdN (R .PMK_PTP_RX_DROP) = min (s.rdN (R .PMK_PTP_RX_DROP) + 1) 0xFFFFFFFF := by
  unfold State.ptpIn
  rw [if_neg (by omega)]
  refine ⟨rfl, State.flag_raise _ rfl rfl .., ?_⟩
  rw [State.rdN, State.rd_raise_name _ rfl]
  exact State.rdN_bump _ _ rfl

/-! ## Time over the wavelength -/

/-- The latch of a carrier touches that carrier's registers alone. -/
theorem State.rd_ttLatch_ne {c : Nat} {k : RegKey} (h : k.i ≠ c) : (s.ttLatch c).rd k = s.rd k := by
  unfold State.ttLatch
  extract_lets ex t th n ofs spread u v w x
  split
  · refine State.when_holds t (fun y => y.rd k = s.rd k) _ _ rfl fun _ => ?_
    rw [State.setFlag, State.rd_setFld_i _ _ _ _ _ _ h, State.rd_wr_i _ _ _ _ h, State.raise,
      State.rd_setFld_i _ _ _ _ _ _ h, State.setFlag, State.rd_setFld_i _ _ _ _ _ _ h]
    rfl
  · have hx : x.rd k = s.rd k := by
      unfold x w v u
      rw [State.rd_wrN_i _ _ _ _ h, State.rd_setFld_i _ _ _ _ _ _ h, State.rd_setFld_i _ _ _ _ _ _ h,
        State.rd_wrN_i _ _ _ _ h, State.wr64, State.rd_wrN_i _ _ _ _ h, State.rd_wrN_i _ _ _ _ h]
      rfl
    split
    · exact hx
    · rw [State.raise, State.rd_setFld_i _ _ _ _ _ _ h, State.setFlag, State.rd_setFld_i _ _ _ _ _ _ h, hx]

/-- What the second's latch does to carrier 0's registers is what its own latch does. -/
theorem State.rd_ttLatches (hn : 0 < s.nCar) (id : RegId) : (s.upto s.nCar State.ttLatch).rd (R id 0) =
    (s.ttLatch 0).rd (R id 0) :=
  s.upto_at (fun t => t.rd (R id 0)) State.ttLatch s.nCar 0 hn fun _ t hx => t.rd_ttLatch_ne hx.symm

/-- A second without an exchange pauses the carrier's report. -/
theorem State.ttLatch_pauses {c : Nat} (he : s.flag F.PMK_TT_CFG_EN c = true)
    (hx : (s.pmkCar c).ex.filter (fun e => e.1 + 1 = s.sec) = []) : (s.ttLatch c).flag F.PMK_TT_STATUS_RUN c = false ∧
      (s.ttLatch c).rd (R .PMK_TT_N c) = 0 ∧ (s.ttLatch c).flag F.PMK_TT_TAG_VALID c = false := by
  unfold State.ttLatch
  extract_lets ex t
  have hex : ex.isEmpty = true := by simp only [ex, hx, List.map_nil, List.isEmpty_nil]
  have hen : (t.flag F.PMK_TT_CFG_EN c || t.flag F.PMK_TT_STATUS_RUN c) = true := Bool.or_eq_true_iff.mpr (.inl he)
  rw [if_pos hex, State.when, if_pos hen]
  refine ⟨?_, ?_, State.flag_setFlag _ rfl rfl ..⟩
  · rw [State.flag_setFlag_apart _ rfl]
    exact (congrArg (· == 1) (State.fld_wr_id _ rfl ..)).trans
      ((State.flag_raise_apart _ rfl ..).trans (t.flag_setFlag rfl rfl ..))
  · rw [State.rd_setFlag_name _ rfl]
    exact (State.rd_wr_same ..).trans BitVec.zero_and

theorem State.secTag_congr {s t : State} (hp : t.pmkTime = s.pmkTime)
    (hv : t.flag F.PMK_STATUS_TIME_VALID = s.flag F.PMK_STATUS_TIME_VALID)
    (hd : t.fld F.PMU_DOM_STATE 2 = s.fld F.PMU_DOM_STATE 2) : t.secTag = s.secTag := by
  simp only [State.secTag, State.sec, State.tagValid, State.domOn, hp, hv, hd]

/-- The second's report counts its exchanges, tagged with the second. -/
theorem State.ttLatch_reports {c : Nat} (hx : (s.pmkCar c).ex.filter (fun e => e.1 + 1 = s.sec) ≠ []) :
    (s.ttLatch c).flag F.PMK_TT_STATUS_RUN c = true ∧ (s.ttLatch c).fld F.PMK_TT_N_N c =
      min ((s.pmkCar c).ex.filter (fun e => e.1 + 1 = s.sec)).length 0xFFFF ∧
      (s.ttLatch c).rdN (R .PMK_TT_TAG c) = s.secTag := by
  unfold State.ttLatch
  extract_lets ex t th n ofs spread u v w x
  have hex : ¬ ex.isEmpty = true := by simpa [ex] using hx
  have len : ex.length = ((s.pmkCar c).ex.filter (fun e => e.1 + 1 = s.sec)).length := List.length_map ..
  have tag : w.secTag = s.secTag := by
    refine State.secTag_congr rfl (congrArg (· == 1) ?_) ?_
    · rw [State.fld_setFld_apart _ rfl, State.fld_setFld_apart _ rfl, State.fld_wrN_id _ rfl,
        State.fld_wr64_id _ rfl rfl]
      rfl
    · rw [State.fld_setFld_apart _ rfl, State.fld_setFld_apart _ rfl, State.fld_wrN_id _ rfl,
        State.fld_wr64_id _ rfl rfl]
      rfl
  have xn : x.fld F.PMK_TT_N_N c = min ex.length 0xFFFF :=
    (State.fld_wrN_id _ rfl ..).trans (State.fld_setFld_lt _ rfl (by change min _ 65535 < 65536; omega) ..)
  have xt : x.rdN (R .PMK_TT_TAG c) = s.secTag := by
    refine (State.rdN_wrN _ (R .PMK_TT_TAG c) _ rfl).trans ((Nat.mod_eq_of_lt ?_).trans tag)
    unfold State.secTag bit
    split <;> omega
  clear_value x
  rw [if_neg hex, ← len]
  split
  · next h => exact ⟨h, xn, xt⟩
  · refine ⟨(State.flag_raise_apart _ rfl ..).trans (x.flag_setFlag rfl rfl ..), ?_, ?_⟩
    · rw [State.fld_raise_apart _ rfl, State.setFlag, State.fld_setFld_apart _ rfl, xn]
    · rw [State.rdN, State.rd_raise_name _ rfl, State.rd_setFlag_name _ rfl]
      exact xt

/-- A message whose CRC checks shows the far end's time. -/
theorem exec_timeMessage_good {c : Nat} {x : TimeMsg} (ho : s.stbOn = true) (hc : c < s.nCar)
    (hd : s.domOn (4 + c) = true) (hst : s.fld F.CAX_RX_STATUS_RXSTATE c = 2) (hs : s.fld F.LFM_CA_STATUS_SRC c ≠ 15)
    (hx : s.msgIn c = some x) (he : s.flag F.PMK_TT_CFG_EN c = false) :
    exec (.timeMessage c (s.fld F.LFM_CA_STATUS_SRC c)) s = .next (((((((s.deliverRank (16 + c) x.rank).setFlag
      F.PMK_TT_STATUS_FAR_VALID x.valid c).setFlag F.PMK_TT_STATUS_FAR_CD_FINE x.cdFine c).wrN (R .PMK_FAR_FREQ c)
        x.freq).wrN (R .PMK_FAR_CD c) x.cd).modPmkCar c fun k => { k with far := some x.seq })) := by
  change execTimeMessage _ _ s = _
  unfold execTimeMessage
  rw [if_neg (by simp [ho, hc, hd, hst, hs]), hx]
  dsimp -zeta only
  extract_lets t u v w
  have hw : w.flag F.PMK_TT_CFG_EN c = false := by
    refine Eq.trans (congrArg (· == 1) ((v.fld_modPmkCar ..).trans ((State.fld_wrN_id _ rfl ..).trans
      (State.fld_wrN_id _ rfl ..)))) ?_
    refine (State.flag_setFlag_apart _ rfl ..).trans ((State.flag_setFlag_apart _ rfl ..).trans ?_)
    exact ((State.deliverRank_upd ..).flag _ _ _ rfl).trans he
  rw [State.when, if_neg (by simp [hw])]

/-- The far end's time as the message gives it. -/
theorem State.farTime_shows (c : Nat) (x : TimeMsg) (g : PmkCar → PmkCar) :
    (((((s.setFlag F.PMK_TT_STATUS_FAR_VALID x.valid c).setFlag F.PMK_TT_STATUS_FAR_CD_FINE x.cdFine c).wrN
      (R .PMK_FAR_FREQ c) x.freq).wrN (R .PMK_FAR_CD c) x.cd).modPmkCar c g).flag F.PMK_TT_STATUS_FAR_VALID c = x.valid ∧
    (((((s.setFlag F.PMK_TT_STATUS_FAR_VALID x.valid c).setFlag F.PMK_TT_STATUS_FAR_CD_FINE x.cdFine c).wrN
      (R .PMK_FAR_FREQ c) x.freq).wrN (R .PMK_FAR_CD c) x.cd).modPmkCar c g).flag F.PMK_TT_STATUS_FAR_CD_FINE c =
        x.cdFine ∧
    (((((s.setFlag F.PMK_TT_STATUS_FAR_VALID x.valid c).setFlag F.PMK_TT_STATUS_FAR_CD_FINE x.cdFine c).wrN
      (R .PMK_FAR_FREQ c) x.freq).wrN (R .PMK_FAR_CD c) x.cd).modPmkCar c g).rdN (R .PMK_FAR_FREQ c) =
        x.freq % 2 ^ 32 := by
  refine ⟨?_, ?_, ?_⟩
  · rw [State.flag, State.fld_modPmkCar, State.fld_wrN_id _ rfl, State.fld_wrN_id _ rfl]
    exact (State.flag_setFlag_apart _ rfl ..).trans (State.flag_setFlag _ rfl rfl ..)
  · rw [State.flag, State.fld_modPmkCar, State.fld_wrN_id _ rfl, State.fld_wrN_id _ rfl]
    exact State.flag_setFlag _ rfl rfl ..
  · rw [State.rdN, State.rd_modPmkCar, State.rd_wrN_name _ rfl]
    exact State.rdN_wrN _ (R .PMK_FAR_FREQ c) _ rfl

theorem exec_timeMessage_bad {c : Nat} (ho : s.stbOn = true) (hc : c < s.nCar)
    (hd : s.domOn (4 + c) = true) (hst : s.fld F.CAX_RX_STATUS_RXSTATE c = 2) (hs : s.fld F.LFM_CA_STATUS_SRC c ≠ 15)
    (hx : s.msgIn c = none) : exec (.timeMessage c (s.fld F.LFM_CA_STATUS_SRC c)) s =
      .next ((s.bump (R .PMK_TT_BAD_CNT c)).raise F.PMK_TT_EVT_MSG_BAD c) := by
  change execTimeMessage _ _ s = _
  unfold execTimeMessage
  rw [if_neg (by simp [ho, hc, hd, hst, hs]), hx]

/-! ## The timing chain -/

theorem State.tchMiss_shows : s.tchMiss.rdN (R .PMK_TCH_CRC_CNT) = s.rdN (R .PMK_TCH_CRC_CNT) ∧ s.tchMiss.pmk.tchOk = 0 := by
  unfold State.tchMiss
  extract_lets t u
  split
  · have hu : u.rd (R .PMK_TCH_CRC_CNT) = s.rd (R .PMK_TCH_CRC_CNT) :=
      (State.rd_raise_name _ rfl ..).trans (t.rd_setFlag_name rfl ..)
    have up : u.pmk.tchOk = 0 := rfl
    refine State.when_holds u (fun x => x.rdN (R .PMK_TCH_CRC_CNT) = s.rdN (R .PMK_TCH_CRC_CNT) ∧ x.pmk.tchOk = 0) _ _
      ⟨congrArg BitVec.toNat hu, up⟩ fun h => ⟨((State.takeQl_upd ..).rdN_of _ _ _ rfl).trans h.1, ?_⟩
    rw [(State.takeQl_upd ..).pmk rfl]
    exact up
  · exact ⟨rfl, rfl⟩

/-- A frame whose CRC checks shows the level and the hops that it carries. -/
theorem completes_tchFrameRx {w : BitVec 128} (ho : s.stbOn = true)
    (hc : crc16 112 (w.toNat / 65536) = w.toNat % 65536) : Completes (.tchFrameRx (some w)) s fun t =>
      t.fld F.PMK_TCH_STATUS_QL_IN = w.toNat / 2 ^ 76 % 16 ∧ t.fld F.PMK_TCH_STATUS_HOPS_IN = w.toNat / 2 ^ 70 % 4 := by
  refine Completes.of_exec rfl ?_
  rw [if_neg (by simp [ho])]
  dsimp -zeta only
  extract_lets v sec n t r u
  rw [if_neg (by simpa [v] using hc)]
  have uq : u.fld F.PMK_TCH_STATUS_QL_IN = r := State.fld_setFld_lt _ rfl (Nat.mod_lt _ (by decide)) ..
  have uh : u.fld F.PMK_TCH_STATUS_HOPS_IN = v / 2 ^ 70 % 4 :=
    (State.fld_setFld_apart _ rfl ..).trans (State.fld_setFld_lt _ rfl (Nat.mod_lt _ (by decide)) ..)
  clear_value u
  rw [(State.tchQl_upd ..).fld _ _ _ rfl, (State.tchQl_upd ..).fld _ _ _ rfl]
  exact ⟨(State.fld_when _ _ _ _ _ _ (u.fld_setFlag_apart rfl ..)).trans uq,
    (State.fld_when _ _ _ _ _ _ (u.fld_setFlag_apart rfl ..)).trans uh⟩

/-- A frame whose CRC fails is counted and ends the run of good ones. -/
theorem completes_tchFrameRx_bad {w : BitVec 128} (ho : s.stbOn = true)
    (hc : crc16 112 (w.toNat / 65536) ≠ w.toNat % 65536) : Completes (.tchFrameRx (some w)) s fun t =>
      t.rdN (R .PMK_TCH_CRC_CNT) = min (s.rdN (R .PMK_TCH_CRC_CNT) + 1) 0xFFFFFFFF ∧ t.pmk.tchOk = 0 := by
  refine Completes.of_exec rfl ?_
  rw [if_neg (by simp [ho])]
  dsimp -zeta only
  extract_lets v
  rw [if_pos hc]
  obtain ⟨cnt, ok⟩ := (s.bump (R .PMK_TCH_CRC_CNT)).tchMiss_shows
  exact ⟨cnt.trans (State.rdN_bump _ _ rfl), ok⟩

/-! ## The commands -/

/-- Settles O16. -/
theorem postmarkCommandsComplete : Obligations.PostmarkCommandsComplete := by
  refine ⟨?step, ?stepped, ?stepCancel, ?adj, ?adjRefused, ?adjDone, ?autoStep, ?secMis, ?timeFault, ?ptpHeld,
    ?ptpDropped, ?syncDropped, ?sync, ?ppsOut, ?tod, ?zda, ?zdaBad, ?msgBad, ?msgGood, ?ttPause, ?ttRun, ?tchTx, ?tchRx,
    ?tchBad, ?postcard, ?ppsEnd⟩
  case step =>
    intro s m ha
    refine Completes.of_guardW ha rfl ?_
    have h1 : (F.PMK_CTRL_STEP.get 1 == 1) = true := by decide
    have h2 : (F.PMK_CTRL_STEP_CANCEL.get 1 == 1) = false := by decide
    simp only [State.pmkCtrlWrite, h1, h2, State.when, if_true, Bool.false_eq_true, if_false]
    exact State.flag_setFlag _ rfl rfl ..
  case stepped =>
    intro s ho hp
    refine Completes.of_if rfl (by simp [ho, hp]) ?_
    obtain ⟨pend, valid, evt, time⟩ := (s.setFlag F.PMK_STATUS_STEP_PEND false).applyStep_shows s.timeSet
    exact ⟨pend.trans (s.flag_setFlag rfl rfl ..), valid, evt, time⟩
  case stepCancel =>
    intro s m ha
    refine Completes.of_guardW ha rfl ?_
    have h : (F.PMK_CTRL_STEP_CANCEL.get 2 == 1) = true := by decide
    simp only [State.pmkCtrlWrite, h, State.when, if_true]
    exact State.flag_setFlag _ rfl rfl ..
  case adj =>
    intro s m v ha hz
    refine Completes.of_guardW ha rfl ?_
    unfold State.adjWrite
    rw [if_neg (Nat.not_lt.mpr hz)]
    exact ⟨rfl, State.flag_setFlag _ rfl rfl ..⟩
  case adjRefused =>
    intro s m v ha hz
    refine Completes.of_guardW ha rfl ?_
    unfold State.adjWrite
    rw [if_pos hz]
    exact ⟨rfl, State.flag_raise _ rfl rfl ..⟩
  case adjDone =>
    intro s ho hb
    exact Completes.of_if rfl (by simp [ho, hb]) ⟨(State.flag_raise_apart _ rfl ..).trans (State.flag_setFlag _ rfl rfl ..),
      State.flag_raise _ rfl rfl .., rfl, rfl⟩
  case autoStep =>
    intro s err ho ha hst hs hp he
    refine Completes.of_exec (s.autoStep_steps ho ha hst hs hp he) ?_
    obtain ⟨-, -, evt, time⟩ := s.applyStep_shows ((s.pmkTime : Int) - err).toNat
    exact ⟨time, evt⟩
  case secMis =>
    intro s ho h2 h4 hm
    exact Completes.of_if rfl (by simpa [ho, h2, h4] using hm) (s.flag_raise rfl rfl ..)
  case timeFault =>
    intro s d ho hf hd
    exact Completes.of_if rfl ho ((s.modPmk fun p => { p with diff := p.diff + d }).timeFault_shows hf hd)
  case ptpHeld =>
    intro s p n l ho hp h1 hu he hl
    exact Completes.of_if rfl (by simp [ho, hp, h1, hu, he])
      ((s.modPmk fun k => { k with ptp := k.ptp.drop n }).ptpIn_held l hl)
  case ptpDropped =>
    intro s p n l ho hp h1 hu he hl
    exact Completes.of_if rfl (by simp [ho, hp, h1, hu, he])
      ((s.modPmk fun k => { k with ptp := k.ptp.drop n }).ptpIn_dropped l hl)
  case syncDropped =>
    intro s p l ho h1 hp hu ht
    refine Completes.of_exec (t := s.bump (R .PMK_PTP_TX_DROP)) ?_ ⟨State.rdN_bump _ _ rfl, rfl⟩
    change execOneStepSync p l s = _
    simp only [execOneStepSync, ho, h1, hp, hu, ht, decide_true, Bool.and_self, Bool.not_true, Bool.not_false,
      Bool.false_eq_true, if_false, if_true]
  case sync =>
    intro s p l ho h1 hp hu ht
    refine Completes.of_exec rfl ?_
    rw [if_neg (by simp [ho, h1, hp, hu]), if_neg (by simp [ht])]
    exact ⟨_, rfl⟩
  case ppsOut =>
    intro s ho hs he
    refine Completes.of_exec rfl ?_
    rw [if_neg (by simp [ho])]
    extract_lets t
    rw [if_neg (show ¬ t.ppsSq = true by simp [t, he])]
    change t.us + 1000 * max 1 (min 500 (t.fld F.PMK_PPS_CFG_WIDTH)) = _
    rw [show t.us = s.us from (State.ppsEval_upd _).us rfl,
      show t.fld F.PMK_PPS_CFG_WIDTH = s.fld F.PMK_PPS_CFG_WIDTH from (State.ppsEval_upd _).fld _ _ _ rfl]
  case tod =>
    intro s ho he
    exact Completes.of_if rfl (by simp [ho, he]) rfl
  case zda =>
    intro s utc ho
    refine Completes.of_exec rfl ?_
    rw [if_neg (by simp [ho]), if_neg (by decide)]
    rfl
  case zdaBad =>
    intro s utc ho
    refine Completes.of_exec rfl ?_
    rw [if_neg (by simp [ho]), if_pos (by decide)]
    exact ⟨State.rdN_bump _ _ rfl, rfl⟩
  case msgBad =>
    intro s c ho hc hd hst hs hx
    refine Completes.of_exec (exec_timeMessage_bad s ho hc hd hst hs hx) ⟨State.flag_raise _ rfl rfl .., ?_⟩
    rw [State.rdN, State.rd_raise_name _ rfl]
    exact State.rdN_bump _ _ rfl
  case msgGood =>
    intro s c x ho hc hd hst hs hx he
    exact Completes.of_exec (exec_timeMessage_good s ho hc hd hst hs hx he) (State.farTime_shows ..)
  case ttPause =>
    intro s ho hn he hx
    refine Completes.of_if rfl ho ?_
    rw [State.flag, State.flag, State.fld_of_rd F.PMK_TT_STATUS_RUN (s.rd_ttLatches hn _),
      State.fld_of_rd F.PMK_TT_TAG_VALID (s.rd_ttLatches hn _), s.rd_ttLatches hn]
    exact s.ttLatch_pauses he hx
  case ttRun =>
    intro s l ho hn hx hl
    refine Completes.of_if rfl ho ?_
    subst hx
    rw [State.flag, State.rdN, State.fld_of_rd F.PMK_TT_STATUS_RUN (s.rd_ttLatches hn _),
      State.fld_of_rd F.PMK_TT_N_N (s.rd_ttLatches hn _), s.rd_ttLatches hn]
    exact s.ttLatch_reports hl
  case tchTx =>
    intro s ho he
    exact Completes.of_if rfl (by simp [ho, he]) rfl
  case tchRx =>
    intro s w ho hc
    exact completes_tchFrameRx s ho hc
  case tchBad =>
    intro s w ho hc
    exact completes_tchFrameRx_bad s ho hc
  case postcard =>
    intro s ho he
    exact Completes.of_if rfl (by simp [ho, he]) rfl
  case ppsEnd =>
    intro s ho hn hu
    exact Completes.of_if rfl (by simp [ho, hn, hu]) rfl

end Sys2Proof.Machine
end

section
/-! The monitor converters: triggers, results, checks and tone bins (spec/12): O17. -/

namespace Sys2Proof.Machine

variable (s : State)

/-! ## Pairs -/

theorem State.pair_modPair (p : Nat) (f : MonPair → MonPair) : (s.modPair p f).pair p = f (s.pair p) :=
  NTab.get_mod_same ..

theorem State.pair_modPair_ne {p q : Nat} (h : q ≠ p) (f : MonPair → MonPair) : (s.modPair p f).pair q = s.pair q :=
  NTab.get_mod_ne _ _ h _

theorem State.fld_modPair (p : Nat) (g : MonPair → MonPair) (f : Fld) (i j : Nat) :
    (s.modPair p g).fld f i j = s.fld f i j := rfl

theorem State.rd_modPair (p : Nat) (g : MonPair → MonPair) (k : RegKey) : (s.modPair p g).rd k = s.rd k := rfl

/-- The pairs after a change that leaves them. -/
theorem State.pair_congr {s t : State} (h : t.mon = s.mon) (p : Nat) : t.pair p = s.pair p := by
  rw [State.pair, h, State.pair]

/-- The chains' restart notes its time and changes nothing else of the pair. -/
theorem State.pair_pairRestart (p : Nat) : (s.pairRestart p).pair p = { s.pair p with since := s.us } := by
  unfold State.pairRestart
  extract_lets t
  have ht : t.pair p = s.pair p := rfl
  have hu : t.us = s.us := rfl
  refine (State.pair_congr (t := ((t.modPair p fun k => { k with since := t.us }).binsDrop p).chShow p)
    (s := t.modPair p fun k => { k with since := t.us }) rfl p).trans ?_
  rw [State.pair_modPair, ht, hu]

theorem State.pair_pairRestart_ne {p q : Nat} (h : q ≠ p) : (s.pairRestart p).pair q = s.pair q := by
  unfold State.pairRestart
  extract_lets t
  refine (State.pair_congr (t := ((t.modPair p fun k => { k with since := t.us }).binsDrop p).chShow p)
    (s := t.modPair p fun k => { k with since := t.us }) rfl q).trans ?_
  rw [State.pair_modPair_ne _ h]
  rfl

theorem State.pair_slotTake (p : Nat) : (s.slotTake p).pair p =
    { s.pair p with slot := s.rd (R .MON_SEQ p (s.fld F.MON_PAIR_STATUS_SLOT_NOW p)) } := s.pair_modPair p _

/-- The slot that a pair is at stays when its chains restart. -/
theorem State.slotNow_pairRestart (p : Nat) :
    (s.pairRestart p).fld F.MON_PAIR_STATUS_SLOT_NOW p = s.fld F.MON_PAIR_STATUS_SLOT_NOW p := by
  have fldBins : ∀ (t : State) q, (t.binsDrop q).fld F.MON_PAIR_STATUS_SLOT_NOW p = t.fld F.MON_PAIR_STATUS_SLOT_NOW p :=
    fun _ _ => rfl
  unfold State.pairRestart
  extract_lets t
  rw [State.chShow, State.fld_setFld_apart _ rfl, fldBins, State.fld_modPair]
  exact (State.fld_setFlag_apart _ rfl ..).trans (s.fld_setFld_apart rfl ..)

theorem State.slotNow_pairMoved (p : Nat) (old : ChainCfg) :
    (s.pairMoved p old).fld F.MON_PAIR_STATUS_SLOT_NOW p = s.fld F.MON_PAIR_STATUS_SLOT_NOW p := by
  unfold State.pairMoved
  split
  · exact s.fld_setFld_apart rfl ..
  · exact s.slotNow_pairRestart p

theorem State.slotNow_slotNext (p : Nat) (old : ChainCfg) :
    (s.slotNext p old).fld F.MON_PAIR_STATUS_SLOT_NOW p = s.fld F.MON_PAIR_STATUS_SLOT_NOW p := by
  unfold State.slotNext
  split
  · rw [State.trigStart, State.slotNow_pairRestart, State.fld_modPair, State.fld_setFlag_apart _ rfl, State.fld_modPair]
  · rw [State.slotNow_pairMoved, State.slotTake, State.fld_modPair, State.fld_modPair]

/-! ## Results -/

theorem State.rd_resultIn (p ch : Nat) (r : Int × Bool × Bool) : (s.resultIn p ch r).rd (R .MON_RESULT ch) =
    BitVec.ofNat 32 (resWord r + 2 ^ 28 * bit s.tagValid + 2 ^ 24 * p) &&& (R .MON_RESULT ch).mask := by
  unfold State.resultIn
  extract_lets tag t top bad
  have ht : t.rd (R .MON_RESULT ch) =
      BitVec.ofNat 32 (resWord r + 2 ^ 28 * bit s.tagValid + 2 ^ 24 * p) &&& (R .MON_RESULT ch).mask :=
    (State.rd_wr_name _ rfl ..).trans (State.rd_wr_same ..)
  refine State.when_holds t (fun x => x.rd (R .MON_RESULT ch) = _) _ _ ht fun _ => ?_
  exact (State.rd_raise_name _ rfl ..).trans ((State.rd_wr_name _ rfl ..).trans ht)

/-- A slot ends with its result, and the next begins. -/
theorem completes_slotDone {p : Nat} {x y : List MonOut} (hr : s.pairRuns p = true)
    (hc : s.flag F.MON_PAIR_CFG_CONT p = false) (ha : s.avgDone p x y = true) : Completes (.slotDone p x y) s fun t =>
      t.fld F.MON_PAIR_STATUS_SLOT_NOW p = (if s.fld F.MON_PAIR_STATUS_SLOT_NOW p + 1 < s.seqLen p then
        s.fld F.MON_PAIR_STATUS_SLOT_NOW p + 1 else 0) ∧
      t.rd (R .MON_RESULT (s.chain p).ch) = BitVec.ofNat 32 (resWord (s.pairOut p (outMean x) (outMean y)) + 2 ^ 28 *
        bit s.tagValid + 2 ^ 24 * p) &&& (R .MON_RESULT (s.chain p).ch).mask := by
  refine Completes.of_exec rfl ?_
  rw [if_neg (by simp [hr, hc, ha])]
  extract_lets c t n u
  have up := State.resultIn_upd p c.ch (s.pairOut p (outMean x) (outMean y)) s
  have tn : t.fld F.MON_PAIR_STATUS_SLOT_NOW p = s.fld F.MON_PAIR_STATUS_SLOT_NOW p := up.fld _ _ _ rfl
  have tl : t.seqLen p = s.seqLen p := by
    rw [State.seqLen, show t.fld F.MON_PAIR_CFG_SEQ_LEN p = _ from up.fld _ _ _ rfl, State.seqLen]
  have tr := s.rd_resultIn p c.ch (s.pairOut p (outMean x) (outMean y))
  change t.rd (R .MON_RESULT c.ch) = _ at tr
  have hn : n = s.fld F.MON_PAIR_STATUS_SLOT_NOW p + 1 := congrArg (· + 1) tn
  have bound : s.seqLen p ≤ 16 := by
    have lt : s.fld F.MON_PAIR_CFG_SEQ_LEN p < 16 := s.fld_lt F.MON_PAIR_CFG_SEQ_LEN p 0
    unfold State.seqLen
    split <;> omega
  refine ⟨?_, ?_⟩
  · rw [State.slotNow_slotNext, State.fld_modPair]
    refine (State.fld_setFld_lt _ rfl ?_ ..).trans (by rw [hn, tl])
    rw [hn, tl]
    change _ < 16
    split <;> omega
  · rw [(State.slotNext_upd ..).rd_of _ _ _ rfl, State.rd_modPair]
    exact (State.rd_setFld_name _ rfl ..).trans tr

theorem completes_pairOutput {p : Nat} {x y : MonOut} (hr : s.pairRuns p = true)
    (hc : s.flag F.MON_PAIR_CFG_CONT p = true) : Completes (.pairOutput p x y) s fun t =>
      t.rd (R .MON_LAST p) = BitVec.ofNat 32 (resWord (s.pairOut p x y)) &&& (R .MON_LAST p).mask ∧
      t.rd (R .MON_RESULT (s.chain p).ch) = BitVec.ofNat 32 (resWord (s.pairOut p x y) + 2 ^ 28 * bit s.tagValid +
        2 ^ 24 * p) &&& (R .MON_RESULT (s.chain p).ch).mask := by
  refine Completes.of_exec rfl ?_
  rw [if_neg (by simp [hr, hc])]
  extract_lets r
  rw [(State.binsIn_upd ..).rd_of _ _ _ rfl, (State.binsIn_upd ..).rd_of _ _ _ rfl]
  exact ⟨State.rd_wr_same .., (State.rd_wrN_name _ rfl ..).trans (s.rd_resultIn ..)⟩

/-! ## Triggers -/

/-- What an edge needs of pair `p` to start a conversion on it at the instant `g`. -/
def State.edgeStarts (s : State) (p : Nat) (g : W32 × W32) : Prop :=
  (s.pairOn p && !s.flag F.MON_PAIR_CFG_CONT p && s.fld F.MON_CFG_TRIG_MASK / 2 ^ p % 2 == 1) = true ∧
    (s.pair p).deciding = false ∧ (s.pair p).trig = none ∧ (s.pair p).redo = false ∧ s.tagNow = g

theorem State.pair_trigEdge_ne {p q : Nat} (h : q ≠ p) : (s.trigEdge p).pair q = s.pair q := by
  unfold State.trigEdge
  extract_lets k
  split
  · split
    · rfl
    · exact (State.pair_congr (t := (s.modPair p fun k => { k with pend := some s.tagNow }).setFlag
        F.MON_PAIR_STATUS_PENDING true p) (s := s.modPair p fun k => { k with pend := some s.tagNow }) rfl q).trans
        (s.pair_modPair_ne h _)
  · exact (State.pair_pairRestart_ne _ h).trans (s.pair_modPair_ne h _)

theorem State.tagNow_congr {s t : State} (hp : t.pmkTime = s.pmkTime)
    (hv : t.flag F.PMK_STATUS_TIME_VALID = s.flag F.PMK_STATUS_TIME_VALID)
    (hd : t.fld F.PMU_DOM_STATE 2 = s.fld F.PMU_DOM_STATE 2) : t.tagNow = s.tagNow := by
  simp only [State.tagNow, State.sec, State.ns, State.tagValid, State.domOn, hp, hv, hd]

/-- The edge on another pair leaves what pair `p` needs. -/
theorem State.edgeStarts_trigEdge {p q : Nat} {g : W32 × W32} (h : q ≠ p) (hs : s.edgeStarts p g) :
    (s.trigEdge q).edgeStarts p g := by
  obtain ⟨hon, hd, ht, hr, hg⟩ := hs
  have up := State.trigEdge_upd q s
  have on : (s.trigEdge q).pairOn p = s.pairOn p := by
    rw [State.pairOn, State.monOn, State.domOn, State.inReset, State.compat, State.underTest, up.asserted rfl, up.bst rfl,
      up.flag _ _ _ rfl, up.flag _ _ _ rfl, up.fld _ _ _ rfl]
    rfl
  rw [State.edgeStarts, s.pair_trigEdge_ne h.symm, on, up.flag _ _ _ rfl, up.fld _ _ _ rfl]
  exact ⟨hon, hd, ht, hr, (State.tagNow_congr (up.pmkTime rfl) (up.flag _ _ _ rfl) (up.fld _ _ _ rfl)).trans hg⟩

theorem State.trig_trigEdge {p : Nat} {g : W32 × W32} (hs : s.edgeStarts p g) :
    ((s.trigEdge p).pair p).trig = some g := by
  obtain ⟨-, hd, ht, hr, hg⟩ := hs
  unfold State.trigEdge
  extract_lets k
  rw [if_neg (by simp [k, hd, ht, hr]), State.trigStart, State.pair_pairRestart, State.pair_modPair, hg]

theorem completes_monTrig {p : Nat} (ho : s.monOn = true) (hc : s.compat = false) (he : s.fld F.MON_CFG_TRIG_EDGE = 0)
    (hp : p < 2) (hs : s.edgeStarts p s.tagNow) : Completes (.monTrig true) s fun t => (t.pair p).trig = some s.tagNow := by
  refine Completes.of_exec rfl ?_
  extract_lets e
  rw [if_neg (by simp [ho, e, he]), if_neg (by simp [hc])]
  refine s.upto_brings (fun t => (t.pair p).trig = some s.tagNow) (fun t => t.edgeStarts p s.tagNow) _ 2 p hp ?_ ?_ ?_ hs
  · intro q t hq h
    split
    · exact t.edgeStarts_trigEdge hq h
    · exact h
  · intro t h
    rw [if_pos h.1]
    exact t.trig_trigEdge h
  · intro q t hq h
    split
    · rwa [t.pair_trigEdge_ne hq.symm]
    · exact h

theorem completes_trigDone {p : Nat} {x y : List MonOut} {g : W32 × W32} (hg : (s.pair p).trig = some g)
    (ho : s.pairOn p = true) (hs : s.pairSettled p = true) (ha : s.avgDone p x y = true) :
    Completes (.trigDone p x y) s fun t => (t.pair p).trig = none ∧
      t.rd (R .MON_TRIG_RES p) = BitVec.ofNat 32 (resWord (s.pairOut p (outMean x) (outMean y))) &&& (R .MON_TRIG_RES
      p).mask ∧ t.rd (R .MON_TRIG_SEC p) = g.1 &&& (R .MON_TRIG_SEC p).mask ∧ t.flag F.MON_EVT_TRIG_DONE = true := by
  have e : exec (.trigDone p x y) s = .next ((((((s.wrN (R .MON_TRIG_RES p) (resWord (s.pairOut p (outMean x)
      (outMean y)))).wr (R .MON_TRIG_SEC p) g.1).wr (R .MON_TRIG_NS p) g.2).raise F.MON_EVT_TRIG_DONE).modPair p fun k =>
        { k with trig := none, redo := k.aband, aband := false }).slotTake p |>.pairRestart p) := by
    change execTrigDone p x y s = _
    simp only [execTrigDone, hg, ho, hs, ha, Bool.and_self, Bool.not_true, Bool.false_eq_true, if_false]
  refine Completes.of_exec e ?_
  rw [State.pair_pairRestart, State.pair_slotTake, State.pair_modPair, (State.pairRestart_upd ..).rd_of _ _ _ rfl,
    (State.pairRestart_upd ..).rd_of _ _ _ rfl, (State.pairRestart_upd ..).flag _ _ _ rfl, State.slotTake, State.flag]
  simp only [State.rd_modPair, State.fld_modPair]
  refine ⟨trivial, ?_, ?_, State.flag_raise _ rfl rfl ..⟩
  · rw [State.rd_raise_name _ rfl, State.rd_wr_name _ rfl, State.rd_wr_name _ rfl]
    exact State.rd_wr_same ..
  · rw [State.rd_raise_name _ rfl, State.rd_wr_name _ rfl]
    exact State.rd_wr_same ..

/-! ## Compatibility mode -/

theorem State.compatTrig_busy (hf : s.flag F.MON_COMPAT_CFG_FREE = false) (hs : s.monSnap.isSome = true) :
    s.compatTrig = (s.bump (R .MON_TRIG_OVR_CNT)).raise F.MON_EVT_TRIG_OVR := by
  simp only [State.compatTrig, hf, hs, Bool.not_false, Bool.and_self, if_true]

theorem State.compatTrig_starts (hf : s.flag F.MON_COMPAT_CFG_FREE = false) (hs : s.monSnap = none) :
    s.compatTrig.monSnap = some s.tagNow ∧ s.compatTrig.monFree = false := by
  have e : s.compatTrig = { (s.pairRestart 0).pairRestart 1 with monSnap := some s.tagNow, monFree := false } := by
    simp only [State.compatTrig, hf, hs, Option.isSome_none, Bool.not_false, Bool.and_false, Bool.false_eq_true, if_false]
  rw [e]
  exact ⟨rfl, rfl⟩

theorem completes_snapDone {l : List MonOut} {g : W32 × W32} (ho : s.monOn = true) (hc : s.compat = true)
    (hn : s.fld F.MON_STATUS_SETTLING = 0) (hg : s.monSnap = some g) : Completes (.snapDone l) s fun t =>
      t.monSnap = none ∧ t.flag F.MON_EVT_SNAP_DONE = true ∧ t.rd (R .MON_SNAP_SEC) = g.1 := by
  refine Completes.of_exec rfl ?_
  rw [if_neg (by simp [ho, hc, hn, hg])]
  extract_lets tag t u v
  have ht : tag = g := by simp only [tag, hg, Option.getD_some]
  have ve : v.flag F.MON_EVT_SNAP_DONE = true := State.flag_raise _ rfl rfl ..
  have vs : v.rd (R .MON_SNAP_SEC) = g.1 := by
    rw [← ht]
    exact (State.rd_raise_name _ rfl ..).trans ((State.rd_wr_name _ rfl ..).trans
      ((State.rd_wr_same ..).trans BitVec.and_allOnes))
  clear_value v
  exact ⟨rfl, ve, vs⟩

/-! ## The cross-check -/

theorem completes_chkWindow_fails {p ms : Nat} {x y : Int} (ho : s.pairOn p = true) (hd : (s.pair p).deciding = false)
    (hm : ms + 1 = s.msNow) (ht : (s.pair p).since + chkSpan ≤ s.us)
    (hx : s.chkTol < ((x + s.monOffset (2 * p)) - (y + s.monOffset (2 * p + 1))).natAbs) :
    Completes (.chkWindow p ms x y) s fun t => t.flag F.MON_EVT_CHK_FAIL = true ∧
      (t.pair p).run = (s.pair p).run + 1 ∧
      t.rdN (R .MON_CHK_FAIL_CNT) = min (s.rdN (R .MON_CHK_FAIL_CNT) + 1) 0xFFFFFFFF := by
  refine Completes.of_exec rfl ?_
  rw [if_neg (by simp [ho, hd, hm, ht]), if_neg (Nat.not_le.mpr hx)]
  extract_lets t u
  have te : t.flag F.MON_EVT_CHK_FAIL = true := State.flag_raise _ rfl rfl ..
  have tp : t.pair p = s.pair p := rfl
  have tc : t.rdN (R .MON_CHK_FAIL_CNT) = min (s.rdN (R .MON_CHK_FAIL_CNT) + 1) 0xFFFFFFFF := by
    rw [State.rdN, State.rd_raise_name _ rfl]
    exact State.rdN_bump _ _ rfl
  clear_value t
  have up : (u.pair p).run = (s.pair p).run + 1 := by
    rw [show u.pair p = _ from t.pair_modPair p _, tp]
  refine State.when_holds u (fun v => v.flag F.MON_EVT_CHK_FAIL = true ∧ (v.pair p).run = (s.pair p).run + 1 ∧
    v.rdN (R .MON_CHK_FAIL_CNT) = min (s.rdN (R .MON_CHK_FAIL_CNT) + 1) 0xFFFFFFFF) _ _ ⟨te, up, tc⟩ fun _ => ?_
  rw [(State.pairRestart_upd ..).flag _ _ _ rfl, State.pair_pairRestart, State.pair_modPair,
    (State.pairRestart_upd ..).rdN_of _ _ _ rfl]
  exact ⟨te, up, tc⟩

theorem completes_monFault {p : Nat} {x y : Int} (ho : s.pairOn p = true) (hd : (s.pair p).deciding = true)
    (ht : (s.pair p).since + chkSpan ≤ s.us) : Completes (.monFault p x y) s fun t => t.flag F.MON_EVT_FAULT = true ∧
      (t.pair p).deciding = false ∧ (t.pair p).run = 0 ∧
      t.rdN (R .SAF_FAULT_CNT 4) = min (s.rdN (R .SAF_FAULT_CNT 4) + 1) 0xFFFFFFFF := by
  refine Completes.of_exec rfl ?_
  rw [if_neg (by simp [ho, hd, ht])]
  extract_lets a b bits t
  have tc : t.rdN (R .SAF_FAULT_CNT 4) = s.rdN (R .SAF_FAULT_CNT 4) :=
    congrArg BitVec.toNat (State.rd_setFld_name _ rfl ..)
  clear_value t
  rw [State.faultCnt_detect, State.pair_congr ((State.detect_upd ..).mon rfl), State.pair_pairRestart,
    State.pair_slotTake, State.pair_modPair, (State.detect_upd ..).flag _ _ _ rfl, (State.pairRestart_upd ..).flag _ _ _ rfl,
    (State.pairRestart_upd ..).rdN_of _ _ _ rfl, State.slotTake, State.flag, State.fld_modPair, State.fld_modPair,
    State.rdN]
  simp only [State.rd_modPair]
  rw [State.rd_raise_name _ rfl]
  exact ⟨t.flag_raise rfl rfl .., trivial, trivial, by rw [← tc, State.rdN]⟩

/-! ## Tone bins -/

/-- A bin's registers with a block's magnitude, phase and tag. -/
def State.binShown (b mag phase : Nat) (g h : W32) (s : State) : State :=
  (((s.wrN (R .MON_BIN_MAG b) (2 ^ 31 + mag)).wrN (R .MON_BIN_PHASE b) phase).wr (R .MON_BIN_SEC b) g).wr
    (R .MON_BIN_NS b) h

theorem State.binShown_shows {b mag : Nat} (phase : Nat) (g h : W32) (hm : mag < 2 ^ 24) :
    (s.binShown b mag phase g h).rd (R .MON_BIN_SEC b) = g &&& (R .MON_BIN_SEC b).mask ∧
      (s.binShown b mag phase g h).rd (R .MON_BIN_NS b) = h &&& (R .MON_BIN_NS b).mask ∧
      (s.binShown b mag phase g h).flag F.MON_BIN_MAG_NEW b = true ∧
      (s.binShown b mag phase g h).fld F.MON_BIN_MAG_MAG b = mag := by
  obtain ⟨wn, wm⟩ : F.MON_BIN_MAG_NEW.get (BitVec.ofNat 32 (2 ^ 31 + mag)) = 1 ∧
      F.MON_BIN_MAG_MAG.get (BitVec.ofNat 32 (2 ^ 31 + mag)) = mag := by
    simp only [Fld.get, F.MON_BIN_MAG_NEW, F.MON_BIN_MAG_MAG, BitVec.toNat_ofNat]
    omega
  have mags : ∀ f : Fld, f.ok = true → f.reg = .MON_BIN_MAG →
      (s.binShown b mag phase g h).fld f b = f.get (BitVec.ofNat 32 (2 ^ 31 + mag)) := fun f hok hr =>
    (State.fld_wr_id _ (by rw [hr]; rfl) ..).trans ((State.fld_wr_id _ (by rw [hr]; rfl) ..).trans
      ((State.fld_wrN_id _ (by rw [hr]; rfl) ..).trans (s.fld_wr_same hok hr _ b 0)))
  refine ⟨(State.rd_wr_name _ rfl ..).trans (State.rd_wr_same ..), State.rd_wr_same .., ?_, (mags _ rfl rfl).trans wm⟩
  rw [State.flag, mags _ rfl rfl, wn]
  rfl

theorem exec_binBlock {b n : Nat} {l : List (Int × W32 × W32)} {g h : W32} (ho : s.monOn = true) (hb : b < 8)
    (hn : n = 2 ^ max 4 (min 16 (s.fld F.MON_BIN_CFG_LOG2N b))) (hl : l = s.bins.get [] b) (hlen : n ≤ l.length)
    (hh : l.head?.map Prod.snd = some (g, h)) : ∃ (t u : State) (phase : Nat), exec (.binBlock b g h) s =
      .next (u.slotLevel b (binMag (s.flag F.MON_BIN_CFG_HANN b) (s.rdN (R .MON_BIN_FREQ b)) ((l.take n).map Prod.fst) %
        2 ^ 24)) ∧
      u = { t.binShown b (binMag (s.flag F.MON_BIN_CFG_HANN b) (s.rdN (R .MON_BIN_FREQ b)) ((l.take n).map Prod.fst) %
        2 ^ 24) phase g h with bins := t.bins.set [] b (l.drop n) } := by
  subst hn hl
  refine ⟨s.when (s.flag F.MON_BIN_MAG_NEW b) fun s => s.bump (R .MON_BIN_MISS b), _,
    binPhase (s.flag F.MON_BIN_CFG_HANN b) (s.rdN (R .MON_BIN_FREQ b)) (((s.bins.get [] b).take
      (2 ^ max 4 (min 16 (s.fld F.MON_BIN_CFG_LOG2N b)))).map Prod.fst), ?_, rfl⟩
  change execBinBlock b g h s = _
  unfold execBinBlock
  extract_lets n l x hann f mag
  rw [if_neg (by simp [ho, hb, hh, hlen, n, l])]
  rfl

theorem completes_binBlock {b n : Nat} {l : List (Int × W32 × W32)} {g h : W32} (ho : s.monOn = true) (hb : b < 8)
    (hn : n = 2 ^ max 4 (min 16 (s.fld F.MON_BIN_CFG_LOG2N b))) (hl : l = s.bins.get [] b) (hlen : n ≤ l.length)
    (hh : l.head?.map Prod.snd = some (g, h)) : Completes (.binBlock b g h) s fun t =>
      t.rd (R .MON_BIN_SEC b) = g &&& (R .MON_BIN_SEC b).mask ∧
      t.rd (R .MON_BIN_NS b) = h &&& (R .MON_BIN_NS b).mask ∧ t.flag F.MON_BIN_MAG_NEW b = true ∧
      t.fld F.MON_BIN_MAG_MAG b = binMag (s.flag F.MON_BIN_CFG_HANN b) (s.rdN (R .MON_BIN_FREQ b)) ((l.take n).map
      Prod.fst) % 2 ^ 24 ∧ t.bins.get [] b = l.drop n := by
  obtain ⟨t, u, phase, e, hu⟩ := exec_binBlock s ho hb hn hl hlen hh
  have small := Nat.mod_lt (binMag (s.flag F.MON_BIN_CFG_HANN b) (s.rdN (R .MON_BIN_FREQ b)) ((l.take n).map Prod.fst))
    (show 2 ^ 24 > 0 by decide)
  refine Completes.of_exec e ?_
  generalize binMag (s.flag F.MON_BIN_CFG_HANN b) (s.rdN (R .MON_BIN_FREQ b)) ((l.take n).map Prod.fst) % 2 ^ 24 = mag
    at hu small ⊢
  obtain ⟨hs, hns, hnew, hmag⟩ := t.binShown_shows phase g h small
  have rd : ∀ k, u.rd k = (t.binShown b mag phase g h).rd k := fun k => by rw [hu]; rfl
  rw [(State.slotLevel_upd ..).rd_of _ _ _ rfl, (State.slotLevel_upd ..).rd_of _ _ _ rfl,
    (State.slotLevel_upd ..).flag _ _ _ rfl, (State.slotLevel_upd ..).fld _ _ _ rfl, (State.slotLevel_upd ..).bins rfl,
    rd, rd, State.flag, State.fld_of_rd F.MON_BIN_MAG_NEW (rd _), State.fld_of_rd F.MON_BIN_MAG_MAG (rd _), hu]
  exact ⟨hs, hns, hnew, hmag, NTab.get_set_same [] t.bins b (l.drop n)⟩

/-! ## The commands -/

/-- Settles O17. -/
theorem monitorCommandsComplete : Obligations.MonitorCommandsComplete := by
  refine ⟨?slotDone, ?monTrig, ?trigDone, ?softTrig, ?timer, ?snapDone, ?settled, ?chkGood, ?chkFails, ?fault, ?clr, ?bin,
    ?output⟩
  case slotDone => exact fun s p x y hr hc ha => completes_slotDone s hr hc ha
  case monTrig =>
    intro s p ho hc he hp hon hcont hmask hd ht hr
    exact completes_monTrig s ho hc he hp ⟨by simp [hon, hcont, hmask], hd, ht, hr, rfl⟩
  case trigDone => exact fun s p x y g hg ho hs ha => completes_trigDone s hg ho hs ha
  case softTrig =>
    intro s m ha hc hf hs
    refine Completes.of_guardW ha rfl ?_
    have h1 : (F.MON_CTRL_SOFT_TRIG.get 2 == 1) = true := by decide
    have h2 : (F.MON_CTRL_FAULT_CLR.get 2 == 1) = false := by decide
    have hc' : (s.rewritten (R .MON_CTRL)).compat = true := hc
    simp only [State.monCtrlWrite, h1, h2, hc', Bool.and_self, State.when, if_true, Bool.false_eq_true, if_false]
    exact (s.rewritten _).compatTrig_starts hf hs
  case timer =>
    intro s ho hc hn hf hs ht
    refine Completes.of_if rfl (by simp [ho, hc, hn, ht]) ?_
    rw [State.compatTrig_busy { s with monAt := s.us } hf hs]
    refine ⟨State.flag_raise _ rfl rfl .., rfl, ?_⟩
    rw [State.rdN, State.rd_raise_name _ rfl]
    exact State.rdN_bump _ _ rfl
  case snapDone => exact fun s l g ho hc hn hg => completes_snapDone s ho hc hn hg
  case settled =>
    intro s n ho hn hp ht
    refine Completes.of_exec rfl ?_
    have run : (s.compat || s.pairOn (n / 2)) = true := Bool.or_eq_true_iff.mpr hp
    rw [if_neg (by simp only [ho, hn, run, ht, decide_true, Bool.and_self, Bool.not_true, Bool.false_eq_true,
      not_false_eq_true])]
    dsimp only
    rw [State.fld_modPair, State.setFlag, State.fld_setFld_apart _ rfl]
    exact State.fld_setFld _ _ _ _ _ rfl
  case chkGood =>
    intro s p ms x y ho hd hm ht hx
    refine Completes.of_exec rfl ?_
    rw [if_neg (by simp [ho, hd, hm, ht]), if_pos hx, State.pair_modPair]
  case chkFails => exact fun s p ms x y ho hd hm ht hx => completes_chkWindow_fails s ho hd hm ht hx
  case fault => exact fun s p x y ho hd ht => completes_monFault s ho hd ht
  case clr =>
    intro s m ha
    refine Completes.of_guardW ha rfl ?_
    have h1 : (F.MON_CTRL_SOFT_TRIG.get 1 == 1) = false := by decide
    have h2 : (F.MON_CTRL_FAULT_CLR.get 1 == 1) = true := by decide
    simp only [State.monCtrlWrite, h1, h2, Bool.false_and, State.when, if_true, Bool.false_eq_true, if_false]
    rw [State.fld_modPair, State.fld_modPair]
    exact State.fld_setFld_lt _ rfl (by decide) ..
  case bin => exact fun s b n l g h ho hb hn hl hlen hh => completes_binBlock s ho hb hn hl hlen hh
  case output => exact fun s p x y hr hc => completes_pairOutput s hr hc

end Sys2Proof.Machine
end

section
/-! The Postcard channel: its transmitters, slots and receive FIFO (spec/13): O18. -/

namespace Sys2Proof.Machine

variable (s : State)

/-! ## Records and short registers -/

/-- A register whose lowest `w` bits alone are implemented holds a number of that width. -/
theorem State.rdN_wrN_low {k : RegKey} {w n : Nat} (hm : k.mask.toNat = 2 ^ w - 1) (hw : w ≤ 32) (hn : n < 2 ^ w) :
    (s.wrN k n).rdN k = n := by
  have h32 : n < 2 ^ 32 := Nat.lt_of_lt_of_le hn (Nat.pow_le_pow_right (by decide) hw)
  rw [State.rdN, State.wrN, State.rd_wr_same, BitVec.toNat_and, BitVec.toNat_ofNat, hm, Nat.mod_eq_of_lt h32,
    Nat.and_two_pow_sub_one_eq_mod, Nat.mod_eq_of_lt hn]

theorem State.pccT_modPccT (c : Nat) (f : PccTx → PccTx) : (s.modPccT c f).pccT c = f (s.pccT c) := NTab.get_mod_same ..

theorem State.pccR_modPccR (k : Nat) (f : PccRx → PccRx) : (s.modPccR k f).pccR k = f (s.pccR k) := NTab.get_mod_same ..

theorem State.pccT_congr {s t : State} (h : t.pccTx = s.pccTx) (c : Nat) : t.pccT c = s.pccT c := by
  rw [State.pccT, h, State.pccT]

theorem State.pccR_congr {s t : State} (h : t.pccRx = s.pccRx) (k : Nat) : t.pccR k = s.pccR k := by
  rw [State.pccR, h, State.pccR]

theorem State.rd_modPccT (c : Nat) (g : PccTx → PccTx) (k : RegKey) : (s.modPccT c g).rd k = s.rd k := rfl

theorem State.fld_modPccR (k : Nat) (g : PccRx → PccRx) (f : Fld) (i j : Nat) :
    (s.modPccR k g).fld f i j = s.fld f i j := rfl

theorem State.rd_modPccR (c : Nat) (g : PccRx → PccRx) (k : RegKey) : (s.modPccR c g).rd k = s.rd k := rfl

theorem State.pccT_modPmk (c : Nat) (g : Pmk → Pmk) : (s.modPmk g).pccT c = s.pccT c := rfl

theorem State.pccT_queuedShow (c d : Nat) : (s.queuedShow c).pccT d = s.pccT d :=
  State.pccT_congr (State.setFld_pccTx ..) d

/-! ## Transmitters -/

theorem completes_postcardTxStart {c : Nat} {p : Postcard} {k : PccTx} (hs : s.pccSends c = true)
    (hn : (s.pccT c).active = none) (ht : (s.pccT c).tone + s.txBits c 8 ≤ s.us) (hp : s.pccPick c = some (p, k)) :
    Completes (.postcardTxStart c) s fun t => (t.pccT c).left = s.fld F.PCC_TX_CFG_REPEAT c ∧
      (t.pccT c).active = some { p with seq := s.fld F.PCC_TX_STATUS_SEQ c } ∧
      t.flag F.PCC_TX_STATUS_ACTIVE c = true ∧
      t.fld F.PCC_TX_STATUS_SEQ c = (s.fld F.PCC_TX_STATUS_SEQ c + 1) % 256 := by
  refine Completes.of_exec rfl ?_
  rw [if_neg (by simp [hs, hn, ht]), hp]
  dsimp -zeta only
  extract_lets seq at' t u
  have tp : t.pccT c = { k with active := some { p with seq := seq }, left := s.fld F.PCC_TX_CFG_REPEAT c, start := s.us } :=
    s.pccT_modPccT c _
  have up : u.pccT c = t.pccT c := by
    rw [State.pccT_congr (State.setFld_pccTx ..), State.pccT_congr (State.setFlag_pccTx ..),
      State.pccT_congr (State.setFld_pccTx ..)]
  have ua : u.fld F.PCC_TX_STATUS_ACTIVE c = 1 :=
    (State.fld_setFld_apart _ rfl ..).trans (State.fld_setFld_lt _ rfl (by decide) ..)
  have us' : u.fld F.PCC_TX_STATUS_SEQ c = (seq + 1) % 256 :=
    (State.fld_setFld_apart _ rfl ..).trans ((State.fld_setFlag_apart _ rfl ..).trans
      (State.fld_setFld_lt _ rfl (Nat.mod_lt _ (by decide)) ..))
  clear_value u
  obtain ⟨vp, va, vs⟩ := State.when_holds u (fun v => v.pccT c = u.pccT c ∧ v.fld F.PCC_TX_STATUS_ACTIVE c = 1 ∧
    v.fld F.PCC_TX_STATUS_SEQ c = (seq + 1) % 256) (p.type == 3)
    (fun s => s.modPmk fun q => { q with pcTx := ((seq, at') :: q.pcTx).take 64 }) ⟨rfl, ua, us'⟩
    fun _ => ⟨u.pccT_modPmk c _, (u.fld_modPmk _ _ c 0).trans ua, (u.fld_modPmk _ _ c 0).trans us'⟩
  rw [State.pccT_queuedShow, vp, up, tp]
  refine ⟨rfl, rfl, ?_, (State.fld_setFld_apart _ rfl ..).trans vs⟩
  rw [State.queuedShow, State.flag, State.fld_setFld_apart _ rfl, va]
  rfl

theorem exec_txDone_copy {c : Nat} {p : Postcard} (ho : s.pccOn = true) (ha : (s.pccT c).active = some p)
    (ht : (s.pccT c).start + s.txBits c (96 + 32 * p.len) ≤ s.us) (hl : 0 < (s.pccT c).left) :
    exec (.txDone c) s = .next (s.modPccT c fun k => { k with left := k.left - 1, start := s.us + s.txBits c 8 }) := by
  change execTxDone c s = _
  simp only [execTxDone, ha, ho, hl, Nat.not_lt.mpr ht, Bool.not_true, decide_false, Bool.or_self, Bool.false_eq_true,
    if_false, if_true]

theorem exec_txDone_last {c : Nat} {p : Postcard} (ho : s.pccOn = true) (ha : (s.pccT c).active = some p)
    (ht : (s.pccT c).start + s.txBits c (96 + 32 * p.len) ≤ s.us) (hl : (s.pccT c).left = 0) :
    exec (.txDone c) s = .next ((((s.modPccT c fun k => { k with active := none, tone := s.us }).bump
      (R .PCC_TX_SENT c)).setFlag F.PCC_TX_STATUS_ACTIVE false c).when (p.type == 4 || p.type == 6) fun s =>
        s.raise F.PCC_EVT_TX_DONE) := by
  change execTxDone c s = _
  simp only [execTxDone, ha, ho, hl, Nat.not_lt.mpr ht, Bool.not_true, decide_false, Bool.or_self, Bool.false_eq_true,
    if_false, Nat.lt_irrefl]

theorem State.txDone_last_shows (c : Nat) (b : Bool) (f : PccTx → PccTx) (hf : ∀ k, (f k).active = none) :
    let t := ((((s.modPccT c f).bump (R .PCC_TX_SENT c)).setFlag F.PCC_TX_STATUS_ACTIVE false c).when b fun s =>
      s.raise F.PCC_EVT_TX_DONE)
    (t.pccT c).active = none ∧ t.flag F.PCC_TX_STATUS_ACTIVE c = false ∧
      t.rdN (R .PCC_TX_SENT c) = min (s.rdN (R .PCC_TX_SENT c) + 1) 0xFFFFFFFF := by
  have sent : (((s.modPccT c f).bump (R .PCC_TX_SENT c)).setFlag F.PCC_TX_STATUS_ACTIVE false c).rdN (R .PCC_TX_SENT c) =
      min (s.rdN (R .PCC_TX_SENT c) + 1) 0xFFFFFFFF := by
    rw [State.rdN, State.rd_setFlag_name _ rfl]
    refine (State.rdN_bump _ _ rfl).trans ?_
    rw [State.rdN, State.rd_modPccT, State.rdN]
  have idle : ((((s.modPccT c f).bump (R .PCC_TX_SENT c)).setFlag F.PCC_TX_STATUS_ACTIVE false c).pccT c).active = none := by
    rw [State.pccT_congr (State.setFlag_pccTx ..), State.pccT_congr (State.bump_pccTx ..), State.pccT_modPccT]
    exact hf _
  refine State.when_holds _ (fun t => (t.pccT c).active = none ∧ t.flag F.PCC_TX_STATUS_ACTIVE c = false ∧
    t.rdN (R .PCC_TX_SENT c) = min (s.rdN (R .PCC_TX_SENT c) + 1) 0xFFFFFFFF) _ _
    ⟨idle, State.flag_setFlag _ rfl rfl .., sent⟩ fun ⟨h1, h2, h3⟩ => ⟨?_, ?_, ?_⟩
  · rwa [State.pccT_congr (State.raise_pccTx ..)]
  · exact (State.flag_raise_apart _ rfl ..).trans h2
  · exact (congrArg BitVec.toNat (State.rd_raise_name _ rfl ..)).trans h3

theorem State.pccRefuse_shows {r : Nat} (h : r < 16) : (s.pccRefuse r).flag F.PCC_EVT_CFG_REFUSED = true ∧
    (s.pccRefuse r).fld F.PCC_STATUS_REF_CODE = r :=
  ⟨(State.flag_setFld_apart _ rfl ..).trans (s.flag_raise rfl rfl ..), State.fld_setFld_lt _ rfl h ..⟩

/-- The timer of an automatic Postcard that may be sent makes it pending, once. -/
theorem State.cardTimer_fires {c t per : Nat} (hc : c < s.nCar) (hd : s.domOn 3 = true) (ha : s.pccAuto c t = true)
    (ht : (s.pccT c).timer.get 0 t + 1000000 * per ≤ s.us) :
    ((s.cardTimer c t per).pccT c).autos.contains t = true ∧ ((s.cardTimer c t per).pccT c).timer.get 0 t = s.us := by
  unfold State.cardTimer
  rw [if_pos (by simp [hc, hd, ht])]
  obtain ⟨u, hu⟩ : ∃ u, (s.modPccT c fun k => { k with timer := k.timer.set 0 t s.us }) = u := ⟨_, rfl⟩
  have ua : u.pccAuto c t = true := by rw [← hu]; exact ha
  have ud : u.domOn 3 = true := by rw [← hu]; exact hd
  have ut : (u.pccT c).timer.get 0 t = s.us := by
    rw [← hu, State.pccT_modPccT]
    exact NTab.get_set_same 0 (s.pccT c).timer t s.us
  rw [hu]
  unfold State.pccPend
  split
  · rw [State.pccT_modPccT]
    exact ⟨by simp, ut⟩
  · next h => exact ⟨by simpa [ua, ud] using h, ut⟩

/-! ## Slots -/

theorem State.fld_slotDsp {f : Fld} (h : F.PCC_SLOT_STATUS_DSP.apart f = true) (k i : Nat) :
    (s.slotDsp k).fld f i = s.fld f i := by
  unfold State.slotDsp
  extract_lets d
  split
  · exact s.fld_setFlag_apart h ..
  · rfl

/-- A slot that returns to SEARCH has released its gain. -/
theorem State.slotSearch_shows (k : Nat) : (s.slotSearch k).fld F.PCC_SLOT_STATUS_STATE k = 1 ∧
    (s.slotSearch k).flag F.PCC_SLOT_STATUS_FROZEN k = false := by
  refine ⟨(State.fld_slotDsp _ rfl ..).trans ((State.fld_setFlag_apart _ rfl ..).trans
    (s.fld_setFld_lt rfl (by decide) ..)), ?_⟩
  exact (congrArg (· == 1) (State.fld_slotDsp _ rfl ..)).trans (State.flag_setFlag _ rfl rfl ..)

theorem completes_preambleDetection {k : Nat} {lvl : Int} (ho : s.pccOn = true) (hk : k < 8)
    (hst : s.fld F.PCC_SLOT_STATUS_STATE k = 1) (hl : signed 16 (s.rdN (R .PCC_DET_LVL k)) ≤ lvl) :
    Completes (.preambleDetection k lvl) s fun t =>
      t.fld F.PCC_SLOT_STATUS_STATE k = 2 ∧ (t.pccR k).armLevel = lvl := by
  refine Completes.of_exec rfl ?_
  rw [if_neg (by simp [ho, hk, hst, hl])]
  extract_lets single far t u v
  have vl : (v.pccR k).armLevel = lvl := by rw [show v.pccR k = _ from u.pccR_modPccR k _]
  clear_value v
  refine ⟨(State.fld_setFlag_apart _ rfl ..).trans (v.fld_setFld_lt rfl (by decide) ..), ?_⟩
  rwa [State.pccR_congr (State.setFlag_pccRx ..), State.pccR_congr (State.setFld_pccRx ..)]

theorem completes_syncMatch {k : Nat} {lvl : Int} {w : W32} (ho : s.pccOn = true) (hk : k < 8) (he : syncErrs w ≤ 3)
    (hst : s.fld F.PCC_SLOT_STATUS_STATE k = 2) : Completes (.syncMatch k lvl w) s fun t =>
      t.fld F.PCC_SLOT_STATUS_STATE k = 3 ∧ t.flag F.PCC_SLOT_STATUS_FROZEN k = true ∧
      t.rdN (R .PCC_LOCK_LVL k) = unsigned 16 lvl := by
  refine Completes.of_exec rfl ?_
  rw [if_neg (by simp [ho, hk, he]), if_pos hst]
  have small : unsigned 16 lvl < 2 ^ 16 := by unfold unsigned; omega
  have lock := State.rdN_wrN_low ((s.setFld F.PCC_SLOT_STATUS_STATE 3 k).levelShow k lvl) (k := R .PCC_LOCK_LVL k) (w := 16)
    rfl (by decide) small
  simp only [State.flag, State.fld_modPccR, State.rdN, State.rd_modPccR]
  refine ⟨?_, State.flag_setFlag _ rfl rfl .., ?_⟩
  · rw [State.setFlag, State.fld_setFld_apart _ rfl, State.fld_wrN_id _ rfl, State.levelShow, State.fld_setFld_apart _ rfl]
    exact s.fld_setFld_lt rfl (by decide) ..
  · rw [State.rd_setFlag_name _ rfl]
    exact lock

/-! ## Commands of the transmitters -/

theorem State.pccT_rewritten (k : RegKey) (c : Nat) : (s.rewritten k).pccT c = s.pccT c := rfl

theorem exec_txCmd_accepted {m : Master} {c : Nat} {v : W32} (ha : s.accepts m (R .PCC_TX_CMD c) = true)
    (hq : (s.pccT c).queue.length < 4) (ht : F.PCC_TX_CMD_TYPE.get v = 6) (hl : F.PCC_TX_CMD_LEN.get v ≤ 16) :
    exec (.txCmd m c v) s = .next (((s.rewritten (R .PCC_TX_CMD c)).modPccT c fun k => { k with
      queue := k.queue ++ [⟨6, F.PCC_TX_CMD_LEN.get v,
        (List.range (F.PCC_TX_CMD_LEN.get v)).map fun i => k.stage.get 0 i, 0, s.us⟩] }).queuedShow c) := by
  change execTxCmd m c v s = _
  rw [execTxCmd, State.guardW_accepts ha, State.txCmdWrite, State.pccT_rewritten, if_neg (Nat.not_le.mpr hq),
    if_neg (by simp [ht, hl]), ht]
  rfl

theorem completes_txCmd_full {m : Master} {c : Nat} {v : W32} (ha : s.accepts m (R .PCC_TX_CMD c) = true)
    (hq : 4 ≤ (s.pccT c).queue.length) : Completes (.txCmd m c v) s fun t =>
      t.flag F.PCC_EVT_CFG_REFUSED = true ∧ t.fld F.PCC_STATUS_REF_CODE = 4 ∧ (t.pccT c).queue = (s.pccT c).queue := by
  refine Completes.of_guardW ha rfl ?_
  rw [State.txCmdWrite, if_pos (by exact hq)]
  obtain ⟨he, hc⟩ := (s.rewritten (R .PCC_TX_CMD c)).pccRefuse_shows (r := 4) (by decide)
  refine ⟨he, hc, congrArg PccTx.queue (State.pccT_congr ?_ c)⟩
  rw [State.pccRefuse, State.setFld_pccTx, State.raise_pccTx]
  rfl

theorem completes_txExpired {c : Nat} {p : Postcard} {l : List Postcard} (ho : s.pccOn = true)
    (hq : (s.pccT c).queue = p :: l) (ht : p.since + 100000 * max 1 (s.fld F.PCC_TX_AUTO_TX_TTL c) ≤ s.us) :
    Completes (.txExpired c) s fun t => (t.pccT c).queue = l ∧ t.flag F.PCC_EVT_TX_EXPIRED = true ∧
      t.rdN (R .PCC_TX_EXPIRED_CNT c) = min (s.rdN (R .PCC_TX_EXPIRED_CNT c) + 1) 0xFFFFFFFF := by
  have he : exec (.txExpired c) s = .next ((((s.modPccT c fun k => { k with queue := l }).queuedShow c).bump
      (R .PCC_TX_EXPIRED_CNT c)).raise F.PCC_EVT_TX_EXPIRED) := by
    change execTxExpired c s = _
    simp only [execTxExpired, ho, hq, ht, Bool.not_true, Bool.false_eq_true, if_false, if_true]
  refine Completes.of_exec he ⟨?_, State.flag_raise _ rfl rfl .., ?_⟩
  · rw [State.pccT_congr (State.raise_pccTx ..), State.pccT_congr (State.bump_pccTx ..), State.pccT_queuedShow,
      State.pccT_modPccT]
  · rw [State.rdN, State.rd_raise_name _ rfl]
    refine (State.rdN_bump _ _ rfl).trans ?_
    rw [State.rdN, State.queuedShow, State.rd_setFld_name _ rfl, State.rd_modPccT, State.rdN]

/-! ## The end of a Postcard -/

theorem exec_postcardEnd_search {k hdr crc : Nat} {data : List W32} (ho : s.pccOn = true) (hk : k < 8)
    (hst : s.fld F.PCC_SLOT_STATUS_STATE k = 3) (hbad : 16 < hdr / 256 % 32) :
    exec (.postcardEnd k hdr data crc) s = .next ((s.slotSearch k).bump (R .PCC_HDR_BAD k)) := by
  change execPostcardEnd k hdr data crc s = _
  rw [execPostcardEnd, if_neg (by simp [ho, hk, hst])]
  dsimp only
  rw [if_pos hbad]

theorem exec_postcardEnd_crc {k hdr crc : Nat} {data : List W32} (ho : s.pccOn = true) (hk : k < 8)
    (hst : s.fld F.PCC_SLOT_STATUS_STATE k = 3) (hlen : hdr / 256 % 32 ≤ 16)
    (hcrc : cardCrc hdr ((List.range (hdr / 256 % 32)).map fun i => data.getD i 0) ≠ crc) :
    exec (.postcardEnd k hdr data crc) s = .next ((s.slotSearch k).bump (R .PCC_CRC_FAIL k)) := by
  change execPostcardEnd k hdr data crc s = _
  rw [execPostcardEnd, if_neg (by simp [ho, hk, hst])]
  dsimp only
  rw [if_neg (Nat.not_lt.mpr hlen), if_pos (by simpa using hcrc)]

/-- A slot that returns to SEARCH counts why in a register of its own. -/
theorem State.slotSearch_counts {id : RegId} (k : Nat) (hf : (F.PCC_SLOT_STATUS_STATE.reg == id) = false)
    (hr : ((s.slotSearch k).rdN (R id k)) = s.rdN (R id k)) (hm : (R id k).mask = BitVec.allOnes 32) :
    ((s.slotSearch k).bump (R id k)).fld F.PCC_SLOT_STATUS_STATE k = 1 ∧
      ((s.slotSearch k).bump (R id k)).rdN (R id k) = min (s.rdN (R id k) + 1) 0xFFFFFFFF :=
  ⟨(State.fld_bump_id _ hf ..).trans (s.slotSearch_shows k).1, by rw [State.rdN_bump _ _ hm, hr]⟩

theorem completes_falseDet {k : Nat} (ho : s.pccOn = true) (hk : k < 8) (hst : s.fld F.PCC_SLOT_STATUS_STATE k = 2)
    (ht : (s.pccR k).armAt + 64000 / (s.fld F.PCC_SLOT_CFG_RATE k + 1) ≤ s.us) :
    Completes (.falseDet k) s fun t => t.fld F.PCC_SLOT_STATUS_STATE k = 1 ∧
      t.flag F.PCC_SLOT_STATUS_FROZEN k = false ∧
      t.rdN (R .PCC_FALSE_DET k) = min (s.rdN (R .PCC_FALSE_DET k) + 1) 0xFFFFFFFF := by
  refine Completes.of_if rfl (by simp [ho, hk, hst, ht]) ?_
  obtain ⟨hstate, hcount⟩ := s.slotSearch_counts (id := .PCC_FALSE_DET) k rfl
    ((State.slotSearch_upd ..).rdN_of _ _ _ rfl) rfl
  exact ⟨hstate, (congrArg (· == 1) (State.fld_bump_id _ rfl ..)).trans (s.slotSearch_shows k).2, hcount⟩

/-- The state after the SEQ of an accepted Postcard has been taken (R304). -/
def State.seqTaken (k seq : Nat) (s : State) : State :=
  (((s.slotSearch k).wrN (R .PCC_LAST_SEQ k) seq).modPccR k fun x =>
    { x with anySeq := false, okAt := (s.slotSearch k).us }).bump (R .PCC_RX_OK k)

/-- A Postcard of the last type has no action of its own: it goes to the FIFO where PCC_CFG says so. -/
theorem exec_postcardEnd_accepted {k hdr : Nat} {data d : List W32} (ho : s.pccOn = true) (hk : k < 8)
    (hst : s.fld F.PCC_SLOT_STATUS_STATE k = 3) (hdr16 : hdr < 65536) (htype : hdr / 8192 = 6)
    (hlen : hdr / 256 % 32 ≤ 16) (hany : (s.pccR k).anySeq = true)
    (hd : d = ((List.range (hdr / 256 % 32)).map fun i => data.getD i 0)) :
    exec (.postcardEnd k hdr data (cardCrc hdr d)) s = .next
      ((s.seqTaken k (hdr % 256)).when (bitOf ((s.seqTaken k (hdr % 256)).rd (R .PCC_CFG)) 6) (State.fifoPut
        { slot := k, header := hdr, level := (s.seqTaken k (hdr % 256)).rdN (R .PCC_LOCK_LVL k),
          tag := ((s.seqTaken k (hdr % 256)).pccR k).syncTag, data := d })) := by
  have any' : ((s.slotSearch k).pccR k).anySeq = true := by
    rw [State.pccR_congr ((State.slotSearch_upd k s).pccRx rfl), hany]
  change execPostcardEnd k hdr data (cardCrc hdr d) s = _
  rw [execPostcardEnd, if_neg (by simp [ho, hk, hst])]
  dsimp only
  rw [if_neg (Nat.not_lt.mpr hlen), ← hd, if_neg (by simp), htype, if_neg (by simp), Nat.mod_eq_of_lt hdr16,
    State.cardSeq, any']
  simp only [Bool.not_true, Bool.false_and, Bool.false_eq_true, if_false, htype]
  rfl

theorem State.seqTaken_shows (k : Nat) {seq : Nat} (h : seq < 2 ^ 8) :
    (s.seqTaken k seq).fld F.PCC_SLOT_STATUS_STATE k = 1 ∧ (s.seqTaken k seq).rdN (R .PCC_LAST_SEQ k) = seq ∧
      ((s.seqTaken k seq).pccR k).anySeq = false ∧
      (s.seqTaken k seq).rdN (R .PCC_RX_OK k) = min (s.rdN (R .PCC_RX_OK k) + 1) 0xFFFFFFFF := by
  unfold State.seqTaken
  refine ⟨?_, ?_, ?_, ?_⟩
  · rw [State.fld_bump_id _ rfl, State.fld_modPccR, State.fld_wrN_id _ rfl]
    exact (s.slotSearch_shows k).1
  · rw [State.rdN, State.rd_bump_name _ rfl, State.rd_modPccR]
    exact State.rdN_wrN_low _ (w := 8) rfl (by decide) h
  · rw [State.pccR_congr (State.bump_pccRx ..), State.pccR_modPccR]
  · refine (State.rdN_bump _ _ rfl).trans ?_
    rw [State.rdN, State.rd_modPccR, State.rd_wrN_name _ rfl, (State.slotSearch_upd k s).rd_of _ _ _ rfl, State.rdN]

/-- What an entry of the FIFO takes from the state is as the slot had it. -/
theorem State.seqTaken_keeps (k seq : Nat) : (s.seqTaken k seq).rd (R .PCC_CFG) = s.rd (R .PCC_CFG) ∧
    (s.seqTaken k seq).rdN (R .PCC_LOCK_LVL k) = s.rdN (R .PCC_LOCK_LVL k) ∧
    ((s.seqTaken k seq).pccR k).syncTag = (s.pccR k).syncTag ∧ (s.seqTaken k seq).pccFifo = s.pccFifo := by
  have keep := State.slotSearch_upd k s
  unfold State.seqTaken
  refine ⟨?_, ?_, ?_, ?_⟩
  · rw [State.rd_bump_name _ rfl, State.rd_modPccR, State.rd_wrN_name _ rfl, keep.rd_of _ _ _ rfl]
  · rw [State.rdN, State.rd_bump_name _ rfl, State.rd_modPccR, State.rd_wrN_name _ rfl, keep.rd_of _ _ _ rfl, State.rdN]
  · rw [State.pccR_congr (State.bump_pccRx ..), State.pccR_modPccR]
    have h := congrArg PccRx.syncTag ((State.pccR_congr ((State.wrN_pccRx ..).trans (keep.pccRx rfl)) k) :
      ((s.slotSearch k).wrN (R .PCC_LAST_SEQ k) seq).pccR k = s.pccR k)
    exact h
  · rw [State.bump_pccFifo]
    exact (State.wrN_pccFifo (s.slotSearch k) (R .PCC_LAST_SEQ k) seq).trans (keep.pccFifo rfl)

theorem State.fifoPut_shows {e : PccEntry} (h : s.pccFifo.length < 16) :
    (s.fifoPut e).pccFifo = s.pccFifo ++ [e] ∧ (s.fifoPut e).flag F.PCC_EVT_RX_READY = true := by
  rw [State.fifoPut, if_pos h]
  exact ⟨by rw [State.raise_pccFifo, State.fifoShow, State.setFld_pccFifo], State.flag_raise _ rfl rfl ..⟩

theorem completes_postcardEnd_accepted {k hdr : Nat} {data d : List W32} (ho : s.pccOn = true) (hk : k < 8)
    (hst : s.fld F.PCC_SLOT_STATUS_STATE k = 3) (hdr16 : hdr < 65536) (htype : hdr / 8192 = 6)
    (hlen : hdr / 256 % 32 ≤ 16) (hany : (s.pccR k).anySeq = true)
    (hd : d = ((List.range (hdr / 256 % 32)).map fun i => data.getD i 0)) :
    Completes (.postcardEnd k hdr data (cardCrc hdr d)) s fun t => t.fld F.PCC_SLOT_STATUS_STATE k = 1 ∧
      t.rdN (R .PCC_LAST_SEQ k) = hdr % 256 ∧ (t.pccR k).anySeq = false ∧
      t.rdN (R .PCC_RX_OK k) = min (s.rdN (R .PCC_RX_OK k) + 1) 0xFFFFFFFF ∧ (bitOf (s.rd (R .PCC_CFG)) 6 = true →
        s.pccFifo.length < 16 →
        t.pccFifo = s.pccFifo ++ [⟨k, hdr, s.rdN (R .PCC_LOCK_LVL k), (s.pccR k).syncTag, d⟩] ∧
        t.flag F.PCC_EVT_RX_READY = true) := by
  refine Completes.of_exec (exec_postcardEnd_accepted s ho hk hst hdr16 htype hlen hany hd) ?_
  obtain ⟨hstate, hseq, hnot, hok⟩ := s.seqTaken_shows k (seq := hdr % 256) (Nat.mod_lt _ (by decide))
  obtain ⟨hcfg, hlvl, htag, hfifo⟩ := s.seqTaken_keeps k (hdr % 256)
  rw [hcfg, hlvl, htag]
  generalize s.seqTaken k (hdr % 256) = u at *
  obtain ⟨e, he⟩ : ∃ e : PccEntry, e = ⟨k, hdr, s.rdN (R .PCC_LOCK_LVL k), (s.pccR k).syncTag, d⟩ := ⟨_, rfl⟩
  rw [← he]
  have keep := State.fifoPut_upd e u
  refine ⟨?_, ?_, ?_, ?_, fun hcap hroom => ?_⟩
  · exact State.when_holds u (fun t => t.fld F.PCC_SLOT_STATUS_STATE k = 1) _ _ hstate fun h =>
      (keep.fld _ _ _ rfl).trans h
  · exact (State.when_holds u (fun t => t.rdN (R .PCC_LAST_SEQ k) = hdr % 256) _ _ hseq fun h =>
      (keep.rdN_of _ _ _ rfl).trans h)
  · exact State.when_holds u (fun t => (t.pccR k).anySeq = false) _ _ hnot fun h => by
      rwa [State.pccR_congr (keep.pccRx rfl)]
  · exact (State.when_holds u (fun t => t.rdN (R .PCC_RX_OK k) = _) _ _ hok fun h => (keep.rdN_of _ _ _ rfl).trans h)
  · rw [hcap, ← hfifo]
    exact u.fifoPut_shows (hfifo ▸ hroom)

/-! ## Timeouts and configuration -/

theorem completes_boundTimeout {k : Nat} (ho : s.pccOn = true) (hk : k < 8)
    (hb : s.flag F.PCC_SLOT_STATUS_BOUND k = true) (ht : (s.pccR k).bindAt + 35000000 ≤ s.us) :
    Completes (.boundTimeout k) s fun t => t.flag F.PCC_SLOT_STATUS_BOUND k = false ∧ (t.pccR k).anySeq = true := by
  refine Completes.of_if rfl (by simp [ho, hk, hb, ht]) ⟨?_, ?_⟩
  · rw [State.flag, State.fld_modPccR]
    exact State.flag_setFlag _ rfl rfl ..
  · rw [State.pccR_modPccR]

theorem completes_seqWindowReset {k : Nat} (ho : s.pccOn = true) (hk : k < 8)
    (ht : (s.pccR k).okAt + 30000000 ≤ s.us) : Completes (.seqWindowReset k) s fun t => (t.pccR k).anySeq = true := by
  refine Completes.of_if rfl (by simp [ho, hk, ht]) ?_
  rw [State.pccR_modPccR]

/-- The channels below 4 take any configuration. -/
theorem State.monWrite_chCfg {n : Nat} (v : W32) (h : n < 4) :
    s.monWrite (R .MON_CH_CFG n) v = s.plainWrite (R .MON_CH_CFG n) v :=
  if_neg (by simp [Nat.not_le.mpr h])

theorem completes_monCfgWrite {m : Master} {addr n : Nat} {v : W32}
    (hr : (regAt addr).filter monPage = some (R .MON_CH_CFG n)) (ha : s.accepts m (R .MON_CH_CFG n) = true) (hn : n < 4) :
    Completes (.monCfgWrite m addr v) s fun t => t.rd (R .MON_CH_CFG n) = v &&& (R .MON_CH_CFG n).mask := by
  have he : exec (.monCfgWrite m addr v) s = .next (s.guardW m (R .MON_CH_CFG n) v (State.monPccWrite (R .MON_CH_CFG n) v)) := by
    change execMonCfgWrite m addr v s = _
    rw [execMonCfgWrite, hr]
  refine Completes.of_guardW ha he ?_
  rw [State.monPccWrite, State.monWrite_chCfg _ _ hn, (State.pccEval_upd ..).rd_of _ _ _ rfl]
  exact State.rd_plainWrite_full _ rfl ..

/-- Settles O18. -/
theorem postcardCommandsComplete : Obligations.PostcardCommandsComplete := by
  unfold Obligations.PostcardCommandsComplete
  refine ⟨?monCfg, ?txStart, ?copy, ?last, ?queued, ?full, ?expired, ?ident, ?ql, ?defect, ?sr, ?preamble, ?false,
    ?sync, ?crc, ?hdr, ?accept, ?bound, ?window, ?pop, ?refused, ?cfg⟩
  case monCfg => exact fun s m addr v n hr ha hn => completes_monCfgWrite s hr ha hn
  case txStart => exact fun s c p k hs hn ht hp => completes_postcardTxStart s hs hn ht hp
  case copy =>
    intro s c p ho ha ht hl
    refine Completes.of_exec (exec_txDone_copy s ho ha ht hl) ?_
    rw [State.pccT_modPccT]
    exact ⟨ha, rfl, rfl⟩
  case last =>
    exact fun s c p ho ha ht hl => Completes.of_exec (exec_txDone_last s ho ha ht hl) (s.txDone_last_shows c _ _ fun _ => rfl)
  case queued =>
    intro s m c v ha hq ht hl
    refine Completes.of_exec (exec_txCmd_accepted s ha hq ht hl) ?_
    rw [State.pccT_queuedShow, State.pccT_modPccT]
    rfl
  case full => exact fun s m c v ha hq => completes_txCmd_full s ha hq
  case expired => exact fun s c p l ho hq ht => completes_txExpired s ho hq ht
  case ident => exact fun s c hc hd ha ht => Completes.of_exec rfl (s.cardTimer_fires hc hd ha ht)
  case ql => exact fun s c hc hd ha ht => Completes.of_exec rfl (s.cardTimer_fires hc hd ha ht)
  case defect =>
    intro s c hc hd ha hdef ht
    exact Completes.of_if rfl (by simpa using hdef) (s.cardTimer_fires hc hd ha ht)
  case sr =>
    intro s c hc hd ha hsrc ht
    exact Completes.of_if rfl (by simpa using hsrc) (s.cardTimer_fires hc hd ha ht)
  case preamble => exact fun s k lvl ho hk hst hl => completes_preambleDetection s ho hk hst hl
  case false => exact fun s k ho hk hst ht => completes_falseDet s ho hk hst ht
  case sync => exact fun s k lvl w ho hk he hst => completes_syncMatch s ho hk he hst
  case crc =>
    intro s k hdr data crc ho hk hst hlen hcrc
    exact Completes.of_exec (exec_postcardEnd_crc s ho hk hst hlen hcrc)
      (s.slotSearch_counts k rfl ((State.slotSearch_upd ..).rdN_of _ _ _ rfl) rfl)
  case hdr =>
    intro s k hdr data crc ho hk hst hlen
    exact Completes.of_exec (exec_postcardEnd_search s ho hk hst hlen)
      (s.slotSearch_counts k rfl ((State.slotSearch_upd ..).rdN_of _ _ _ rfl) rfl)
  case accept =>
    exact fun s k hdr data d ho hk hst hdr16 ht hl hany hd =>
      completes_postcardEnd_accepted s ho hk hst hdr16 ht hl hany hd
  case bound => exact fun s k ho hk hb ht => completes_boundTimeout s ho hk hb ht
  case window => exact fun s k ho hk ht => completes_seqWindowReset s ho hk ht
  case pop =>
    intro s m v ha hv
    refine Completes.of_guardW ha rfl ?_
    rw [State.rxPopWrite, if_pos hv, State.fifoShow, State.setFld_pccFifo]
    exact List.drop_one
  case refused =>
    intro s m v ha hmany
    refine Completes.of_guardW ha rfl ?_
    rw [State.pccCfgWrite, if_pos (by exact hmany)]
    refine ⟨?_, State.pccRefuse_shows _ (by decide)⟩
    exact (State.pccRefuse_upd ..).rd_of _ _ _ rfl
  case cfg =>
    intro s m v ha hmany
    refine Completes.of_guardW ha rfl ?_
    rw [State.pccCfgWrite, if_neg (by rw [show (s.rewritten (R .PCC_CFG)).slotsMany v = _ from hmany]; decide),
      (State.pccEval_upd ..).rd_of _ _ _ rfl]
    exact State.rd_plainWrite_full _ rfl ..

end Sys2Proof.Machine
end

section
/-! Host lanes: training, clock recovery and ports coming up (spec/14): O19. -/

namespace Sys2Proof.Machine

variable (s : State)

theorem State.fld_retryLane (r : List (Nat × Nat)) (f : Fld) (i j : Nat) :
    ({ s with retryLane := r } : State).fld f i j = s.fld f i j := rfl

/-- The taps of TX_EQ apply without a change to the lane's training or to who waits to retry. -/
theorem State.trainStart_shows (l : Nat) : (s.trainStart l).fld F.HLN_TRAIN_STATUS_STATE l = 1 ∧
    (s.trainStart l).retryLane = s.retryLane.filter (fun e => e.1 != l) := by
  refine ⟨?_, ?_⟩
  · exact ((State.laneTaps_upd ..).fld _ _ _ rfl).trans (State.fld_setFld_lt _ rfl (by decide) ..)
  · exact ((State.laneTaps_upd ..).retryLane rfl).trans (State.setFld_retryLane ..)

/-- PAUSE changes the port's XOFF alone of its status. -/
theorem State.flag_up_pausePort (p i : Nat) :
    (s.pausePort p).flag F.SOF_PORT_STATUS_UP i = s.flag F.SOF_PORT_STATUS_UP i := by
  unfold State.pausePort
  extract_lets old new mode
  split
  · rfl
  · refine State.when_holds _ (fun t => t.flag F.SOF_PORT_STATUS_UP i = s.flag F.SOF_PORT_STATUS_UP i) _ _
      (s.flag_setFld_apart rfl ..) fun h => ?_
    exact ((State.pauseSend_upd ..).flag _ _ _ rfl).trans h

theorem completes_trainDone {l snr : Nat} {eq : W32} (ho : s.laneOn l = true)
    (hst : s.fld F.HLN_TRAIN_STATUS_STATE l = 1) : Completes (.trainDone l eq snr) s fun t =>
      t.fld F.HLN_TRAIN_STATUS_STATE l = 2 ∧ t.flag F.HLN_LANE_EVT_TRAIN_DONE l = true ∧
      t.rd (R .HLN_TX_EQ_ACT l) = (tapsApply eq).1 &&& (R .HLN_TX_EQ_ACT l).mask := by
  refine Completes.of_if rfl (by simp [ho, hst]) ⟨?_, State.flag_raise _ rfl rfl .., ?_⟩
  · rw [State.fld_raise_apart _ rfl, State.fld_setFld_apart _ rfl, State.fld_wr_id _ rfl]
    exact State.fld_setFld_lt _ rfl (by decide) ..
  · rw [State.rd_raise_name _ rfl, State.rd_setFld_name _ rfl]
    exact State.rd_wr_same ..

theorem completes_trainFail {l : Nat} (ho : s.laneOn l = true) (hst : s.fld F.HLN_TRAIN_STATUS_STATE l = 1) :
    Completes (.trainFail l) s fun t => t.fld F.HLN_TRAIN_STATUS_STATE l = 0 ∧
      t.flag F.HLN_LANE_EVT_TRAIN_FAIL l = true ∧ t.retryLane = (l, s.us) :: s.retryLane.filter (fun e => e.1 != l) := by
  refine Completes.of_if rfl (by simp [ho, hst]) ?_
  rw [State.flag, State.fld_retryLane, State.fld_retryLane]
  exact ⟨State.fld_setFld_lt _ rfl (by decide) .., (State.flag_setFld_apart _ rfl ..).trans (State.flag_raise _ rfl rfl ..),
    rfl⟩

theorem completes_cdrLol {l : Nat} (ho : s.laneOn l = true) (hl : s.flag F.HLN_RX_STATUS_CDR_LOCK l = true) :
    Completes (.cdrLol l) s fun t => t.flag F.HLN_RX_STATUS_CDR_LOCK l = false ∧
      t.flag F.HLN_PRBS_STATUS_CHK_LOCK l = false := by
  refine Completes.of_if rfl (by simp [ho, hl]) ?_
  extract_lets t
  have lock : t.flag F.HLN_RX_STATUS_CDR_LOCK l = false :=
    (State.flag_raise_apart _ rfl ..).trans ((State.flag_setFld_apart _ rfl ..).trans (State.flag_setFlag _ rfl rfl false ..))
  have chk : t.flag F.HLN_PRBS_STATUS_CHK_LOCK l = false :=
    (State.flag_raise_apart _ rfl ..).trans (State.flag_setFlag _ rfl rfl false ..)
  clear_value t
  have keep := State.trainStart_upd l t
  have both := State.when_holds t (fun u => u.flag F.HLN_RX_STATUS_CDR_LOCK l = false ∧
    u.flag F.HLN_PRBS_STATUS_CHK_LOCK l = false) (t.fld F.HLN_TRAIN_STATUS_STATE l == 2) (State.trainStart l)
    ⟨lock, chk⟩ fun h => ⟨(keep.flag _ _ _ rfl).trans h.1, (keep.flag _ _ _ rfl).trans h.2⟩
  rw [(State.portsEval_upd ..).flag _ _ _ rfl, (State.portsEval_upd ..).flag _ _ _ rfl]
  exact both

theorem completes_laneCntClr {m : Master} {l : Nat} {v : W32} (ha : s.accepts m (R .HLN_LANE_CTRL l) = true)
    (hv : F.HLN_LANE_CTRL_CNT_CLR.get v = 1) : Completes (.laneCntClr m l v) s fun t =>
      t.rd64 (R .HLN_FEC_SYM_ERR_LO l) (R .HLN_FEC_SYM_ERR_HI l) = 0 := by
  refine Completes.of_guardW ha rfl ?_
  rw [State.laneCtrlWrite, hv]
  simp only [State.when, beq_self_eq_true, if_true]
  generalize ((s.rewritten (R .HLN_LANE_CTRL l)).wr64 (R .HLN_PRBS_BITS_LO l) (R .HLN_PRBS_BITS_HI l) 0).wr64
    (R .HLN_PRBS_ERR_LO l) (R .HLN_PRBS_ERR_HI l) 0 = t
  refine (State.rd64_congr ?_ ?_).trans (t.rd64_wr64 rfl rfl rfl 0 ..)
  · exact (State.rd_setFld_name _ rfl ..).trans (State.rd_setFld_name _ rfl ..)
  · exact (State.rd_setFld_name _ rfl ..).trans (State.rd_setFld_name _ rfl ..)

/-- Settles O19. -/
theorem hostLaneCommandsComplete : Obligations.HostLaneCommandsComplete := by
  unfold Obligations.HostLaneCommandsComplete
  refine ⟨?done, ?fail, ?retry, ?lol, ?clear, ?lock, ?up⟩
  case done => exact fun s l eq snr ho hst => completes_trainDone s ho hst
  case fail => exact fun s l ho hst => completes_trainFail s ho hst
  case retry =>
    intro s l a hr ht hable
    exact Completes.of_if rfl (by simp [hr, ht, hable]) (s.trainStart_shows l)
  case lol => exact fun s l ho hl => completes_cdrLol s ho hl
  case clear => exact fun s m l v ha hv => completes_laneCntClr s ha hv
  case lock =>
    intro s l ho
    exact Completes.of_if rfl ho ⟨State.flag_setFlag _ rfl rfl true ..,
      (State.flag_setFld_apart _ rfl ..).trans (State.flag_setFlag _ rfl rfl true ..)⟩
  case up =>
    intro s p hd hr hp hable
    refine Completes.of_if rfl (by simp [hd, hr, hp, hable]) ?_
    have up : (s.setFld F.SOF_PORT_STATUS_UP 1 p).flag F.SOF_PORT_STATUS_UP p = true := State.flag_setFlag _ rfl rfl true ..
    rw [State.flag_up_pausePort]
    exact State.when_holds _ (fun t => t.flag F.SOF_PORT_STATUS_UP p = true) _ _ up fun h =>
      ((State.pauseAgain_upd ..).flag _ _ _ rfl).trans h

end Sys2Proof.Machine
end

section
/-! Test patterns, yard links, forwarding, images and remote access (spec/14): O20. -/

namespace Sys2Proof.Machine

variable (s : State)

/-! ## Links -/

theorem State.link_modLink (j : Nat) (f : Link → Link) : (s.modLink j f).link j = f (s.link j) := NTab.get_mod_same ..

theorem State.link_modLink_ne {i j : Nat} (h : i ≠ j) (f : Link → Link) : (s.modLink j f).link i = s.link i :=
  NTab.get_mod_ne _ _ h _

theorem State.link_congr {s t : State} (h : t.links = s.links) (j : Nat) : t.link j = s.link j := by
  rw [State.link, h, State.link]

theorem State.fld_modLink (c : Nat) (g : Link → Link) (f : Fld) (i j : Nat) :
    (s.modLink c g).fld f i j = s.fld f i j := rfl

theorem State.flag_modLink (c : Nat) (g : Link → Link) (f : Fld) (i j : Nat) :
    (s.modLink c g).flag f i j = s.flag f i j := rfl

theorem State.linkSt_modLink (c : Nat) (g : Link → Link) (j : Nat) : (s.modLink c g).linkSt j = s.linkSt j := rfl

/-- A change of a link that keeps its failed lanes keeps those of every link. -/
theorem State.bad_modLink {f : Link → Link} (hf : ∀ k, (f k).bad = k.bad) (i j : Nat) :
    ((s.modLink j f).link i).bad = (s.link i).bad := by
  by_cases h : i = j
  · rw [h, s.link_modLink, hf]
  · rw [s.link_modLink_ne h]

/-- The modes of the lanes alone change when they are brought up to date. -/
theorem State.fld_modeEval {f : Fld} (h : F.YL_STATUS_MODE.apart f = true) (i j : Nat) :
    s.modeEval.fld f i j = s.fld f i j := by
  unfold State.modeEval
  split
  · rfl
  · exact s.upto_keeps (fun t => t.fld f i j) _ _ fun _ t _ => t.fld_setFld_apart h ..

theorem State.fld_linkTo' {f : Fld} (hst : F.YLN_LINK_STATUS_STATE.apart f = true)
    (hup : F.YLN_LINK_EVT_UP.apart f = true) (hdown : F.YLN_LINK_EVT_DOWN.apart f = true)
    (hmode : F.YL_STATUS_MODE.apart f = true) (x st i j : Nat) : (s.linkTo' x st).fld f i j = s.fld f i j := by
  unfold State.linkTo'
  extract_lets old t
  rw [State.fld_modeEval _ hmode, State.fld_when_raise _ _ _ _ _ _ _ (State.fld_raise_apart _ hdown ..),
    State.fld_when_raise _ _ _ _ _ _ _ (State.fld_raise_apart _ hup ..)]
  exact s.fld_setFld_apart hst ..

/-- A link that enters a state is in it. -/
theorem State.linkSt_linkTo' (j : Nat) {st : Nat} (h : st < 8) : (s.linkTo' j st).linkSt j = st := by
  unfold State.linkTo' State.linkSt
  rw [State.fld_modeEval _ rfl, State.fld_when_raise _ _ _ _ _ _ _ (State.fld_raise_apart _ rfl ..),
    State.fld_when_raise _ _ _ _ _ _ _ (State.fld_raise_apart _ rfl ..)]
  exact s.fld_setFld_lt rfl h ..

theorem State.link_linkTo' (x st j : Nat) : (s.linkTo' x st).link j = s.link j :=
  State.link_congr ((State.linkTo'_upd ..).links rfl) j

theorem State.links_linkLost (j : Nat) : (s.linkLost j).links =
    s.links.mod Link.init j (fun k => { k with take := none, left := 0, run := 0 }) :=
  (State.yardGroups_upd _).links rfl

/-! ### What every reaction of a link leaves: which lanes have failed and which have block lock -/

/-- The same lanes have failed and have block lock. -/
structure State.SameLanes (s t : State) : Prop where
  lock : ∀ l, t.flag F.YL_STATUS_BLK_LOCK l = s.flag F.YL_STATUS_BLK_LOCK l
  bad : ∀ i, (t.link i).bad = (s.link i).bad

theorem State.SameLanes.refl : s.SameLanes s := ⟨fun _ => rfl, fun _ => rfl⟩

theorem State.SameLanes.trans {s t u : State} (h : s.SameLanes t) (g : t.SameLanes u) : s.SameLanes u :=
  ⟨fun l => (g.lock l).trans (h.lock l), fun i => (g.bad i).trans (h.bad i)⟩

theorem State.sameLanes_modLink (j : Nat) {f : Link → Link} (hf : ∀ k, (f k).bad = k.bad) :
    s.SameLanes (s.modLink j f) := ⟨fun _ => rfl, fun i => s.bad_modLink hf i j⟩

theorem State.sameLanes_setFld {f : Fld} (h : f.apart F.YL_STATUS_BLK_LOCK = true) (n i j : Nat) :
    s.SameLanes (s.setFld f n i j) :=
  ⟨fun _ => s.flag_setFld_apart h .., fun _ => congrArg Link.bad (State.link_congr (State.setFld_links ..) _)⟩

theorem State.sameLanes_linkTo' (j st : Nat) : s.SameLanes (s.linkTo' j st) :=
  ⟨fun _ => congrArg (· == 1) (s.fld_linkTo' rfl rfl rfl rfl ..), fun _ => congrArg Link.bad (s.link_linkTo' ..)⟩

theorem State.sameLanes_linkLost (j : Nat) : s.SameLanes (s.linkLost j) :=
  ⟨fun _ => (State.linkLost_upd ..).flag _ _ _ rfl, fun i => by
    rw [State.link, s.links_linkLost j]
    exact s.bad_modLink (f := fun k => { k with take := none, left := 0, run := 0 }) (fun _ => rfl) i j⟩

theorem State.sameLanes_linkDown (j : Nat) : s.SameLanes (s.linkDown j) := by
  unfold State.linkDown
  split
  · exact .refl s
  · refine State.SameLanes.trans ?_ (State.sameLanes_linkLost _ j)
    refine State.SameLanes.trans ?_ (State.sameLanes_linkTo' _ j 0)
    refine State.SameLanes.trans ?_ (State.sameLanes_modLink _ j ?_)
    · exact (s.sameLanes_setFld rfl ..).trans (State.sameLanes_setFld _ rfl ..)
    · exact fun _ => rfl

theorem State.sameLanes_linkFail (j : Nat) : s.SameLanes (s.linkFail j) := by
  unfold State.linkFail
  extract_lets st w
  split
  · split
    · exact s.sameLanes_linkDown j
    · split
      · exact .refl s
      · split
        · refine State.SameLanes.trans ?_ (State.sameLanes_linkLost _ j)
          refine s.sameLanes_modLink j ?_
          exact fun _ => rfl
        · rename_i t _ _ _ _
          have ht : s.SameLanes t := by
            refine s.sameLanes_modLink j ?_
            exact fun _ => rfl
          split
          · exact (ht.trans (t.sameLanes_linkTo' j 3)).trans (State.sameLanes_linkLost _ j)
          · exact ht
  · exact .refl s

theorem State.sameLanes_linkMend (j : Nat) : s.SameLanes (s.linkMend j) := by
  unfold State.linkMend
  split
  · split
    · exact s.sameLanes_linkTo' j 2
    · split
      · refine State.SameLanes.trans ?_ (State.sameLanes_linkTo' _ j 2)
        refine State.SameLanes.trans (s.sameLanes_setFld rfl ..) (State.sameLanes_modLink _ j ?_)
        exact fun _ => rfl
      · exact s.sameLanes_linkFail j
  · exact .refl s

/-! ### DOWN -/

theorem State.linkDown_shows {j : Nat} (h : s.linkSt j ≠ 0) :
    (s.linkDown j).linkSt j = 0 ∧ (s.linkDown j).flag F.YLN_LINK_STATUS_SPARE j = false := by
  unfold State.linkDown
  rw [if_neg h]
  extract_lets t
  have spare : t.flag F.YLN_LINK_STATUS_SPARE j = false := by
    rw [show t.flag F.YLN_LINK_STATUS_SPARE j = _ from State.flag_modLink ..]
    exact (State.flag_setFld_apart _ rfl ..).trans (s.flag_setFlag rfl rfl false ..)
  clear_value t
  refine ⟨((State.linkLost_upd ..).fld _ _ _ rfl).trans (t.linkSt_linkTo' j (by decide)), ?_⟩
  exact ((State.linkLost_upd ..).flag _ _ _ rfl).trans ((congrArg (· == 1) (t.fld_linkTo' rfl rfl rfl rfl ..)).trans spare)

/-- No reaction to a failed lane brings the spare in. -/
theorem State.spare_linkFail {j : Nat} (h : s.flag F.YLN_LINK_STATUS_SPARE j = false) :
    (s.linkFail j).flag F.YLN_LINK_STATUS_SPARE j = false := by
  unfold State.linkFail
  extract_lets st w
  split
  · split
    · by_cases h0 : s.linkSt j = 0
      · rwa [State.linkDown, if_pos h0]
      · exact (s.linkDown_shows h0).2
    · split
      · exact h
      · split
        · exact ((State.linkLost_upd ..).flag _ _ _ rfl).trans h
        · rename_i t _ _ _ _
          have ht : t.flag F.YLN_LINK_STATUS_SPARE j = false := h
          clear_value t
          split
          · exact ((State.linkLost_upd ..).flag _ _ _ rfl).trans
              ((congrArg (· == 1) (t.fld_linkTo' rfl rfl rfl rfl ..)).trans ht)
          · exact ht
  · exact h

/-! ## Test patterns -/

theorem State.flag_prbsAcc (a : NTab Nat) (f : Fld) (i j : Nat) :
    ({ s with prbsAcc := a } : State).flag f i j = s.flag f i j := rfl

theorem State.flag_prbsInj (a : NTab Nat) (f : Fld) (i j : Nat) :
    ({ s with prbsInj := a } : State).flag f i j = s.flag f i j := rfl

theorem State.prbsInj_prbsAcc (a : NTab Nat) : ({ s with prbsAcc := a } : State).prbsInj = s.prbsInj := rfl

/-- A checker that seeds itself again keeps what apart from its lock is shown. -/
theorem State.when_seeds {g f : Fld} (h : g.apart f = true) (b : Bool) (x n a i j : Nat) :
    (s.when b fun s => { s.setFld g n a with prbsAcc := s.prbsAcc.set 0 x 0 }).flag f i j = s.flag f i j ∧
      (s.when b fun s => { s.setFld g n a with prbsAcc := s.prbsAcc.set 0 x 0 }).prbsInj = s.prbsInj := by
  refine State.when_holds s (fun u => u.flag f i j = s.flag f i j ∧ u.prbsInj = s.prbsInj) _ _ ⟨rfl, rfl⟩ fun _ => ?_
  rw [State.flag_prbsAcc, State.prbsInj_prbsAcc]
  exact ⟨s.flag_setFld_apart h .., State.setFld_prbsInj ..⟩

/-- An error asked for is counted; the registers stay. -/
theorem State.when_injects (b : Bool) (x : Nat) (f : Fld) (i j : Nat) :
    (s.when b fun s => { s with prbsInj := s.prbsInj.mod 0 x (· + 1) }).flag f i j = s.flag f i j ∧
      (b = true → (s.when b fun s => { s with prbsInj := s.prbsInj.mod 0 x (· + 1) }).prbsInj.get 0 x =
        s.prbsInj.get 0 x + 1) := by
  refine ⟨State.when_holds s (fun w => w.flag f i j = s.flag f i j) _ _ rfl fun _ => State.flag_prbsInj .., ?_⟩
  rintro rfl
  exact NTab.get_mod_same 0 s.prbsInj x (· + 1)

/-- A generator that is on takes one error more for each that is asked for. -/
theorem State.prbsWrite_shows (l : Nat) {v : W32} (hg : F.HLN_PRBS_CFG_GEN_EN.get v = 1) :
    (s.prbsWrite l v).flag F.HLN_PRBS_CFG_GEN_EN l = true ∧ (F.HLN_PRBS_CFG_ERR_INJ.get v = 1 →
      (s.prbsWrite l v).prbsInj.get 0 l = s.prbsInj.get 0 l + 1) := by
  unfold State.prbsWrite
  extract_lets old t u w
  have ht : t.flag F.HLN_PRBS_CFG_GEN_EN l = true := by
    rw [State.flag, show t.fld _ l = _ from State.fld_plainWrite_rw _ rfl .., hg]; rfl
  have hu : u.flag F.HLN_PRBS_CFG_GEN_EN l = true ∧ u.prbsInj = s.prbsInj := by
    obtain ⟨hk, hp⟩ := t.when_seeds (g := F.HLN_PRBS_STATUS_CHK_LOCK) (f := F.HLN_PRBS_CFG_GEN_EN) rfl
      (F.HLN_PRBS_CFG_CHK_PAT.get old != F.HLN_PRBS_CFG_CHK_PAT.get v || F.HLN_PRBS_CFG_CHK_EN.get v == 0) l 0 l l 0
    exact ⟨hk.trans ht, hp.trans (State.plainWrite_prbsInj ..)⟩
  obtain ⟨hgen, hinj⟩ := hu
  obtain ⟨hkeep, hcount⟩ := u.when_injects (F.HLN_PRBS_CFG_ERR_INJ.get v == 1 && u.flag F.HLN_PRBS_CFG_GEN_EN l) l
    F.HLN_PRBS_CFG_GEN_EN l 0
  have hw : w.flag F.HLN_PRBS_CFG_GEN_EN l = true ∧ (F.HLN_PRBS_CFG_ERR_INJ.get v = 1 →
      w.prbsInj.get 0 l = s.prbsInj.get 0 l + 1) :=
    ⟨hkeep.trans hgen, fun he => by rw [← hinj]; exact hcount (by simp [he, hgen])⟩
  clear_value w
  obtain ⟨h1, h2⟩ := hw
  refine ⟨((State.laneEvals_upd ..).flag _ _ _ rfl).trans h1, fun he => ?_⟩
  rw [(State.laneEvals_upd ..).prbsInj rfl, h2 he]

/-- The generator of a yard lane is on, and has one error more than in `s` where one was asked for. -/
structure State.YardInjected (s : State) (l : Nat) (v : W32) (t : State) : Prop where
  gen : t.flag F.YL_PRBS_CFG_GEN_EN l = true
  inj : F.YL_PRBS_CFG_ERR_INJ.get v = 1 → t.prbsInj.get 0 (32 + l) = s.prbsInj.get 0 (32 + l) + 1

theorem State.YardInjected.keep {s t u : State} {l : Nat} {v : W32} (h : s.YardInjected l v t)
    (hf : u.flag F.YL_PRBS_CFG_GEN_EN l = t.flag F.YL_PRBS_CFG_GEN_EN l) (hp : u.prbsInj = t.prbsInj) :
    s.YardInjected l v u := ⟨hf.trans h.gen, fun he => by rw [hp, h.inj he]⟩

theorem State.yardPrbsWrite_shows (l : Nat) {v : W32} (hg : F.YL_PRBS_CFG_GEN_EN.get v = 1) :
    s.YardInjected l v (s.yardPrbsWrite l v) := by
  unfold State.yardPrbsWrite
  extract_lets old use t u w
  have ht : t.flag F.YL_PRBS_CFG_GEN_EN l = true := by
    rw [State.flag, show t.fld _ l = _ from State.fld_plainWrite_rw _ rfl .., hg]; rfl
  have hu : u.flag F.YL_PRBS_CFG_GEN_EN l = true ∧ u.prbsInj = s.prbsInj := by
    obtain ⟨hk, hp⟩ := t.when_seeds (g := F.YL_PRBS_STATUS_CHK_LOCK) (f := F.YL_PRBS_CFG_GEN_EN) rfl
      (F.YL_PRBS_CFG_CHK_PAT.get old != F.YL_PRBS_CFG_CHK_PAT.get v || F.YL_PRBS_CFG_CHK_EN.get v == 0) (32 + l) 0 l l 0
    exact ⟨hk.trans ht, hp.trans (State.plainWrite_prbsInj ..)⟩
  obtain ⟨hgen, hinj⟩ := hu
  obtain ⟨hkeep, hcount⟩ := u.when_injects (F.YL_PRBS_CFG_ERR_INJ.get v == 1 && u.flag F.YL_PRBS_CFG_GEN_EN l) (32 + l)
    F.YL_PRBS_CFG_GEN_EN l 0
  have hw : s.YardInjected l v w :=
    ⟨hkeep.trans hgen, fun he => by rw [← hinj]; exact hcount (by simp [he, hgen])⟩
  clear_value w
  split
  · refine State.when_holds _ (s.YardInjected l v) _ _ ?_ fun h =>
      h.keep ((State.linkDown_upd ..).flag _ _ _ rfl) ((State.linkDown_upd ..).prbsInj rfl)
    refine State.when_holds _ (s.YardInjected l v) _ _ ?_ fun h =>
      h.keep ((State.linkFail_upd ..).flag _ _ _ rfl) ((State.linkFail_upd ..).prbsInj rfl)
    exact hw.keep (w.flag_modLink ..) rfl
  · exact hw

theorem completes_prbsLoss_host {l n : Nat} (ho : s.laneOn l = true) (hl : s.flag F.HLN_PRBS_STATUS_CHK_LOCK l = true) :
    Completes (.prbsLoss false l n) s fun t => t.flag F.HLN_PRBS_STATUS_CHK_LOCK l = false ∧
      t.flag F.HLN_LANE_EVT_PRBS_LOSS l = true ∧ t.rd64 (R .HLN_PRBS_ERR_LO l) (R .HLN_PRBS_ERR_HI l) =
        min (s.rd64 (R .HLN_PRBS_ERR_LO l) (R .HLN_PRBS_ERR_HI l) + n) (2 ^ 64 - 1) := by
  refine Completes.of_if rfl (by simp [ho, hl])
    ⟨(State.flag_raise_apart _ rfl ..).trans (State.flag_setFlag _ rfl rfl false ..), State.flag_raise _ rfl rfl .., ?_⟩
  refine (State.rd64_congr ?_ ?_).trans ((s.rd64_wr64 (x := l) (x' := l) (y := 0) (y' := 0) (lo := .HLN_PRBS_ERR_LO) (hi := .HLN_PRBS_ERR_HI)
    rfl rfl rfl (min (s.rd64 (R .HLN_PRBS_ERR_LO l) (R .HLN_PRBS_ERR_HI l) + n) (2 ^ 64 - 1))).trans (Nat.mod_eq_of_lt (by omega)))
  · rw [State.rd_raise_name _ rfl, State.rd_setFld_name _ rfl, State.bumpFld, State.rd_setFld_name _ rfl]
  · rw [State.rd_raise_name _ rfl, State.rd_setFld_name _ rfl, State.bumpFld, State.rd_setFld_name _ rfl]

theorem completes_prbsLoss_yard {l n : Nat} (ho : s.yrdOn = true) (hl : s.flag F.YL_PRBS_STATUS_CHK_LOCK l = true) :
    Completes (.prbsLoss true l n) s fun t => t.flag F.YL_PRBS_STATUS_CHK_LOCK l = false ∧
      t.rd64 (R .YL_PRBS_ERR_LO l) (R .YL_PRBS_ERR_HI l) =
        min (s.rd64 (R .YL_PRBS_ERR_LO l) (R .YL_PRBS_ERR_HI l) + n) (2 ^ 64 - 1) := by
  refine Completes.of_if rfl (by simp [ho, hl]) ⟨State.flag_setFlag _ rfl rfl false .., ?_⟩
  refine (State.rd64_congr ?_ ?_).trans ((s.rd64_wr64 (x := l) (x' := l) (y := 0) (y' := 0) (lo := .YL_PRBS_ERR_LO) (hi := .YL_PRBS_ERR_HI)
    rfl rfl rfl (min (s.rd64 (R .YL_PRBS_ERR_LO l) (R .YL_PRBS_ERR_HI l) + n) (2 ^ 64 - 1))).trans (Nat.mod_eq_of_lt (by omega)))
  · rw [State.rd_setFld_name _ rfl, State.bumpFld, State.rd_setFld_name _ rfl]
  · rw [State.rd_setFld_name _ rfl, State.bumpFld, State.rd_setFld_name _ rfl]

/-! ## HELLO -/

theorem exec_hello_present {l : Nat} {h : Hello} (ho : s.yrdOn = true) (hl : l < 6) (hself : h.dev ≠ s.fuse.devId)
    (hdev : h.dev = s.partner (linkOf l)) (hpair : h.pair = 2 - linkOf l) (hlane : h.lane = l % 2)
    (hst : s.linkSt (linkOf l) = 0) (himg : h.img = 0) :
    exec (.hello l h) s = .next (((((s.linkTo' (linkOf l) 1).modLink (linkOf l) fun k => { k with
      helloAt := s.us }).setFld F.YLN_LINK_STATUS_PEER_ID h.dev (linkOf l)).modLink (linkOf l)
      fun k => { k with rr := h.rr, img := h.img }).switchEval (linkOf l)) := by
  have ok : (h.dev == s.partner (linkOf l) && (decide (6 ≤ l) || (h.pair == 2 - linkOf l && h.lane == l % 2))) = true := by
    simp [hdev, hpair, hlane]
  change execHello l h s = _
  rw [execHello, if_neg (by simp [ho, Nat.lt_of_lt_of_le hl (by decide : 6 ≤ 8)])]
  dsimp only
  rw [ok, show (h.dev == s.fuse.devId) = false by simpa using hself, Bool.not_true, if_neg Bool.false_ne_true,
    State.imgSaid, if_neg (by simp [himg])]
  simp only [State.when, Bool.false_eq_true, if_false, hst, hl, beq_self_eq_true, decide_true, Bool.and_self, if_true]

theorem completes_hello_present {l : Nat} {h : Hello} (ho : s.yrdOn = true) (hl : l < 6) (hself : h.dev ≠ s.fuse.devId)
    (hdev : h.dev = s.partner (linkOf l)) (hpair : h.pair = 2 - linkOf l) (hlane : h.lane = l % 2)
    (hst : s.linkSt (linkOf l) = 0) (himg : h.img = 0) : Completes (.hello l h) s fun t =>
      t.linkSt (linkOf l) = 1 ∧
      t.fld F.YLN_LINK_STATUS_PEER_ID (linkOf l) = h.dev % 2 ^ F.YLN_LINK_STATUS_PEER_ID.len ∧
      (t.link (linkOf l)).rr = h.rr ∧ (t.link (linkOf l)).helloAt = s.us := by
  refine Completes.of_exec (exec_hello_present s ho hl hself hdev hpair hlane hst himg) ?_
  have st : (s.linkTo' (linkOf l) 1).linkSt (linkOf l) = 1 := s.linkSt_linkTo' _ (by decide)
  generalize s.linkTo' (linkOf l) 1 = t at st
  generalize linkOf l = j at *
  unfold State.switchEval
  rw [State.linkSt_modLink, State.linkSt_modLink, State.fld_modLink, State.fld_modLink, State.link_modLink,
    State.link_modLink]
  refine ⟨?_, t.fld_setFld F.YLN_LINK_STATUS_PEER_ID h.dev j 0 rfl, rfl, ?_⟩
  · exact (State.fld_setFld_apart _ rfl ..).trans st
  · rw [State.link_congr (State.setFld_links ..), State.link_modLink]

/-- The identity has been seen on another device (R25, R340). -/
structure State.DupSeen (t : State) : Prop where
  status : t.flag F.YLN_ID_STATUS_DUP_ID = true
  event : t.flag F.YLN_ID_EVT_DUP_ID = true
  boot : t.boot.dup = true

theorem State.dupSeen_dupId : s.dupId.DupSeen := by
  unfold State.dupId
  generalize hu : (s.setFld F.YLN_ID_STATUS_DUP_ID 1).raise F.YLN_ID_EVT_DUP_ID = u
  have hs : u.flag F.YLN_ID_STATUS_DUP_ID = true := by
    rw [← hu]
    exact (State.flag_raise_apart _ rfl ..).trans (s.flag_setFlag rfl rfl true ..)
  have he : u.flag F.YLN_ID_EVT_DUP_ID = true := by
    rw [← hu]
    exact State.flag_raise _ rfl rfl ..
  exact ⟨hs, he, rfl⟩

theorem State.DupSeen.modLink {t : State} (h : t.DupSeen) (j : Nat) (f : Link → Link) : (t.modLink j f).DupSeen :=
  ⟨h.status, h.event, h.boot⟩

theorem State.DupSeen.linkTo' {t : State} (h : t.DupSeen) (j st : Nat) : (t.linkTo' j st).DupSeen :=
  have keep := State.linkTo'_upd j st t
  ⟨(keep.flag _ _ _ rfl).trans h.status, (keep.flag _ _ _ rfl).trans h.event, by rw [keep.boot rfl, h.boot]⟩

theorem State.DupSeen.setFld {t : State} (h : t.DupSeen) {f : Fld} (hs : f.apart F.YLN_ID_STATUS_DUP_ID = true)
    (he : f.apart F.YLN_ID_EVT_DUP_ID = true) (n i j : Nat) : (t.setFld f n i j).DupSeen :=
  ⟨(t.flag_setFld_apart hs ..).trans h.status, (t.flag_setFld_apart he ..).trans h.event,
    by rw [State.setFld_boot, h.boot]⟩

theorem State.DupSeen.raise {t : State} (h : t.DupSeen) {f : Fld} (hs : f.apart F.YLN_ID_STATUS_DUP_ID = true)
    (he : f.apart F.YLN_ID_EVT_DUP_ID = true) (i j : Nat) : (t.raise f i j).DupSeen :=
  ⟨(t.flag_raise_apart hs ..).trans h.status, (t.flag_raise_apart he ..).trans h.event,
    by rw [State.raise_boot, h.boot]⟩

theorem State.DupSeen.imgSaid {t : State} (h : t.DupSeen) (d img : Nat) : (t.imgSaid d img).DupSeen := by
  unfold State.imgSaid
  split
  · exact State.when_holds _ State.DupSeen _ _ (h.setFld rfl rfl ..) fun h => h.raise rfl rfl ..
  · exact h

theorem completes_hello_self {l : Nat} {h : Hello} (ho : s.yrdOn = true) (hl : l < 8) (hself : h.dev = s.fuse.devId) :
    Completes (.hello l h) s fun t => t.flag F.YLN_ID_STATUS_DUP_ID = true ∧ t.flag F.YLN_ID_EVT_DUP_ID = true ∧
      t.boot.dup = true := by
  refine Completes.of_exec rfl ?_
  rw [if_neg (by simp [ho, hl])]
  extract_lets j ok t u
  have ht : t.DupSeen := by
    rw [show t = s.dupId from if_pos (by simpa using hself)]
    exact s.dupSeen_dupId
  clear_value t
  have hu : u.DupSeen := (State.when_holds t State.DupSeen _ _ ht fun h => h.linkTo' j 1).modLink j _
  clear_value u
  suffices h : ∀ v : State, v.DupSeen → v.flag F.YLN_ID_STATUS_DUP_ID = true ∧ v.flag F.YLN_ID_EVT_DUP_ID = true ∧
      v.boot.dup = true by
    refine h _ ?_
    split
    · exact ((hu.setFld rfl rfl ..).raise rfl rfl ..).modLink j _
    · exact (((hu.setFld rfl rfl ..).modLink j _).modLink j _).imgSaid _ _
  exact fun v h => ⟨h.status, h.event, h.boot⟩

/-! ## RUN, failures and the spare -/

theorem completes_runSwitch {j : Nat} (ho : s.yrdOn = true) (hj : j < 3) (hs : (s.link j).switching = true)
    (hw : 2 ≤ (s.working j).length) :
    Completes (.runSwitch j) s fun t => t.linkSt j = 2 ∧ (t.link j).switching = false := by
  refine Completes.of_if rfl (by simp [ho, hj, hs, hw]) ⟨State.linkSt_linkTo' _ _ (by decide), ?_⟩
  rw [State.link_linkTo', State.link_modLink]

/-- A lane that has failed is among the failed lanes of its link, and has no block lock it had not before. -/
theorem State.laneFail_shows (l : Nat) (h : s.flag F.YL_STATUS_BLK_LOCK l = false) :
    (s.laneFail l).flag F.YL_STATUS_BLK_LOCK l = false ∧ l ∈ ((s.laneFail l).link (linkOf l)).bad := by
  unfold State.laneFail
  extract_lets j was t
  have bad : l ∈ (t.link j).bad := by
    rw [show t.link j = _ from s.link_modLink j _]
    dsimp only
    split
    · next h => exact List.contains_iff_mem.mp h
    · exact List.mem_cons_self
  have lock : t.flag F.YL_STATUS_BLK_LOCK l = false := (s.flag_modLink j _ _ l 0).trans h
  clear_value t
  split
  · have keep := t.sameLanes_linkFail j
    exact ⟨(keep.lock l).trans lock, by rwa [keep.bad]⟩
  · exact ⟨lock, bad⟩

theorem completes_laneFailure {l : Nat} (ho : s.yrdOn = true) (hl : l < 8) :
    Completes (.laneFailure l true) s fun t => t.flag F.YL_STATUS_BLK_LOCK l = false ∧ l ∈ (t.link (linkOf l)).bad :=
  Completes.of_if rfl (by simp [ho, hl]) (State.laneFail_shows _ l (s.flag_setFlag rfl rfl false ..))

theorem completes_spareIn {j : Nat} (ho : s.yrdOn = true) (hj : j < 3) (hs : (s.link j).swap = true)
    (hr : s.spareReady j = true) : Completes (.spareIn j) s fun t => t.linkSt j = 2 ∧
      t.flag F.YLN_LINK_STATUS_SPARE j = true ∧ t.flag F.YLN_LINK_EVT_SPARE_IN j = true ∧ (t.link j).swap = false := by
  refine Completes.of_if rfl (by simp [ho, hj, hs, hr]) ⟨State.linkSt_linkTo' _ _ (by decide), ?_, ?_, ?_⟩
  · exact (congrArg (· == 1) (State.fld_linkTo' _ rfl rfl rfl rfl ..)).trans
      ((State.flag_raise_apart _ rfl ..).trans (State.flag_setFlag _ rfl rfl true ..))
  · exact (congrArg (· == 1) (State.fld_linkTo' _ rfl rfl rfl rfl ..)).trans (State.flag_raise _ rfl rfl ..)
  · rw [State.link_linkTo', State.link_congr (State.raise_links ..), State.link_congr (State.setFld_links ..),
      State.link_modLink]

theorem completes_revert {m : Master} {j : Nat} {v : W32} (ha : s.accepts m (R .YLN_LINK_CTRL j) = true)
    (hv : F.YLN_LINK_CTRL_REVERT.get v = 1) (hs : s.flag F.YLN_LINK_STATUS_SPARE j = true) :
    Completes (.revert m j v) s fun t => t.flag F.YLN_LINK_STATUS_SPARE j = false := by
  refine Completes.of_guardW ha rfl ?_
  rw [State.linkCtrlWrite, if_pos (by rw [State.flag_rewritten, hs, hv]; rfl)]
  refine State.spare_linkFail _ (((State.linkLost_upd ..).flag _ _ _ rfl).trans ?_)
  rw [State.ownLanes, State.flag_modLink]
  exact State.flag_setFlag _ rfl rfl false ..

theorem completes_blockLock {l : Nat} (ho : s.yrdOn = true) (hl : l < 8) (hg : s.flag F.YL_PRBS_CFG_GEN_EN l = false) :
    Completes (.blockLock l) s fun t => t.flag F.YL_STATUS_BLK_LOCK l = true ∧ l ∉ (t.link (linkOf l)).bad := by
  refine Completes.of_if rfl (by simp [ho, hl, hg]) ?_
  have keep := State.sameLanes_linkMend ((s.setFld F.YL_STATUS_BLK_LOCK 1 l).modLink (linkOf l) fun k =>
    { k with bad := k.bad.filter (· != l) }) (linkOf l)
  rw [keep.lock, keep.bad, State.flag_modLink, State.link_modLink]
  exact ⟨s.flag_setFlag rfl rfl true .., by simp⟩

/-! ## Blocks -/

/-- Lane `l` has shown its store's fill, and has deleted or inserted a filler (R334). -/
def State.yardFill (l fill : Nat) (b : YardBlk) (s : State) : State :=
  ((s.setFld F.YL_STATUS_FILL fill l).when (40 < fill && b == .filler) fun s =>
    (s.add64 (R .YLN_FILL_DEL_LO l) (R .YLN_FILL_DEL_HI l) 1).count 0x0F2 l 1).when (fill < 24) fun s =>
    (s.add64 (R .YLN_FILL_INS_LO l) (R .YLN_FILL_INS_HI l) 1).count 0x0F1 l 1

theorem exec_yardBlock_locked {l fill : Nat} {b : YardBlk} (ho : s.yrdOn = true) (hl : l < 8)
    (hlock : s.flag F.YL_STATUS_BLK_LOCK l = true) :
    exec (.yardBlock l fill b) s = .next ((s.yardFill l fill b).yardBlk l b) :=
  congrArg Host.Outcome.next (if_pos (by simp [ho, hl, hlock]))

theorem State.yardFill_upd (l fill : Nat) (b : YardBlk) : Upd
    0x20000000000000000000000000000000000000000001b805000000000000000000000000003032000000000000000000000000000000000000000000000000000000000000000000000000000000000000000
    s (s.yardFill l fill b) := by
  unfold State.yardFill
  refine Upd.when (Upd.when (Upd.setFld (Upd.refl _ _) rfl) fun x hx => ?_) fun x hx => ?_
  · exact Upd.step (Upd.add64 hx rfl rfl) (State.count_upd ..) rfl
  · exact Upd.step (Upd.add64 hx rfl rfl) (State.count_upd ..) rfl

/-- What a block is judged by is as it was before the fill was shown. -/
theorem State.yardFill_keeps (l fill : Nat) (b : YardBlk) (x : Nat) :
    (s.yardFill l fill b).link x = s.link x ∧ (s.yardFill l fill b).linkSt x = s.linkSt x ∧
      (s.yardFill l fill b).inUse x = s.inUse x ∧ (s.yardFill l fill b).fwdRx x = s.fwdRx x := by
  have keep := s.yardFill_upd l fill b
  have links : ∀ j, (s.yardFill l fill b).link j = s.link j := State.link_congr (keep.links rfl)
  refine ⟨links x, keep.fld _ _ _ rfl, ?_, ?_⟩
  · have works : ∀ j, (s.yardFill l fill b).laneWorks j = s.laneWorks j := fun j => by
      funext y
      rw [State.laneWorks, links, keep.flag _ _ _ rfl, State.laneWorks]
    simp only [State.inUse, State.working, State.lanesOf, links, works]
  · funext g n
    simp only [State.fwdRx, keep.flag F.YLN_FWD_RX_VALID _ _ rfl, keep.fld F.YLN_FWD_RX_GID _ _ rfl,
      keep.fld F.YLN_FWD_RX_MSN _ _ rfl]

theorem completes_yardBlock_bad {l fill : Nat} (ho : s.yrdOn = true) (hl : l < 8)
    (hlock : s.flag F.YL_STATUS_BLK_LOCK l = true) : Completes (.yardBlock l fill .bad) s fun t =>
      t.rdN (R .YLN_BAD_BLK l) = min (s.rdN (R .YLN_BAD_BLK l) + 1) 0xFFFFFFFF := by
  refine Completes.of_exec (exec_yardBlock_locked s ho hl hlock) ((State.rdN_bump _ _ rfl).trans ?_)
  rw [(s.yardFill_upd ..).rdN_of _ _ _ rfl]

theorem completes_yardBlock_select {l fill g n k : Nat} (ho : s.yrdOn = true) (hl : l < 8)
    (hlock : s.flag F.YL_STATUS_BLK_LOCK l = true) (hst : s.linkSt (linkOf l) = 2) (hu : s.inUse l = true)
    (hk1 : 1 ≤ k) (hk16 : k ≤ 16) : Completes (.yardBlock l fill (.select g n k)) s fun t =>
      (t.link (linkOf l)).left = k ∧ (t.link (linkOf l)).take = if s.fwdRx (linkOf l) g n then some (g, n) else none := by
  refine Completes.of_exec (exec_yardBlock_locked s ho hl hlock) ?_
  obtain ⟨-, st, -, rx⟩ := s.yardFill_keeps l fill (.select g n k) (linkOf l)
  obtain ⟨-, -, use, -⟩ := s.yardFill_keeps l fill (.select g n k) l
  unfold State.yardBlk
  dsimp only
  rw [if_pos (by simp [st, use, hst, hu, hk1, hk16]), State.link_modLink, rx]
  exact ⟨rfl, rfl⟩

theorem completes_yardBlock_data {l fill : Nat} (ho : s.yrdOn = true) (hl : l < 8)
    (hlock : s.flag F.YL_STATUS_BLK_LOCK l = true) (hst : s.linkSt (linkOf l) = 2) (hu : s.inUse l = true)
    (hleft : (s.link (linkOf l)).left ≠ 0) : Completes (.yardBlock l fill .data) s fun t =>
      (t.link (linkOf l)).left = (s.link (linkOf l)).left - 1 := by
  refine Completes.of_exec (exec_yardBlock_locked s ho hl hlock) ?_
  obtain ⟨link, st, -, -⟩ := s.yardFill_keeps l fill .data (linkOf l)
  obtain ⟨-, -, use, -⟩ := s.yardFill_keeps l fill .data l
  unfold State.yardBlk
  dsimp only
  rw [if_pos (by simp [st, use, hst, hu, link, hleft])]
  refine State.when_holds _ (fun t => (t.link (linkOf l)).left = (s.link (linkOf l)).left - 1) _ _ ?_ fun h => ?_
  · rw [State.link_modLink, link]
  · rwa [State.link_congr (State.bump_links ..)]

theorem completes_yardBlockTx_filler {l : Nat} {tiles : List Nat} {frag : Bool} (ho : s.yrdOn = true) (hl : l < 8)
    (hg : s.flag F.YL_PRBS_CFG_GEN_EN l = false) (hgap : 1023 ≤ (s.yardTx.get YardTx.init l).gap) :
    Completes (.yardBlockTx l tiles frag) s fun t => (t.yardTx.get YardTx.init l).last = some .filler ∧
      (t.yardTx.get YardTx.init l).gap = 0 := by
  have he : exec (.yardBlockTx l tiles frag) s = .next (s.yardOut l .filler false) := by
    change execYardBlockTx l tiles frag s = _
    simp only [execYardBlockTx, ho, hl, hg, hgap, decide_true, Bool.and_self, Bool.not_true, Bool.or_false,
      Bool.false_eq_true, if_false, Bool.true_or, if_true]
  refine Completes.of_exec he ?_
  unfold State.yardOut
  extract_lets sent
  rw [(State.count_upd ..).yardTx rfl]
  have sent_eq : (s.yardTx.mod YardTx.init l sent).get YardTx.init l = sent (s.yardTx.get YardTx.init l) :=
    NTab.get_mod_same ..
  rw [sent_eq]
  exact ⟨rfl, rfl⟩

/-! ## Images and side-band messages -/

theorem completes_sidebandMessage_other {j seq : Nat} (ho : s.yrdOn = true) (hj : j < 3) (hst : s.linkSt j ≠ 0)
    (hw : s.flag F.YLN_LINK_STATUS_WIRING j = false) :
    Completes (.sidebandMessage j seq .other) s fun t => (t.link j).rxSeq = some seq := by
  refine Completes.of_exec rfl ?_
  rw [if_neg (by simp [ho, hj, hst, hw])]
  dsimp only
  rw [State.link_modLink]

/-- The acknowledgement of a part of the image (R341): of the last it ends the forwarding, of another it brings the
next. -/
theorem exec_sidebandMessage_ack {j seq : Nat} (ho : s.yrdOn = true) (hj : j < 3) (hst : s.linkSt j ≠ 0)
    (hw : s.flag F.YLN_LINK_STATUS_WIRING j = false) (hu : (s.link j).unacked = true) (hd : s.fuse.devId = 0)
    (hf : s.fld F.YLN_IMG_FWD_STATE (j + 1) = 1) {last : Bool}
    (hlast : decide (s.boot.image.length ≤ 4096 * ((s.link j).part + 1)) = last) :
    exec (.sidebandMessage j seq .ack) s = .next
      ((s.modLink j fun k => { k with unacked := !last, repeats := 0, part := k.part + 1, sentAt := s.us }).when last
        fun s => (s.setFld F.YLN_IMG_FWD_STATE 2 (j + 1)).raise F.YLN_ID_EVT_IMG_DONE) := by
  change execSidebandMessage j seq .ack s = _
  unfold execSidebandMessage
  rw [if_neg (by simp [ho, hj, hst, hw])]
  dsimp only
  rw [if_neg (by simp [hu]), hlast, hd, hf]
  rfl

theorem completes_sidebandMessage_last {j seq : Nat} (ho : s.yrdOn = true) (hj : j < 3) (hst : s.linkSt j ≠ 0)
    (hw : s.flag F.YLN_LINK_STATUS_WIRING j = false) (hu : (s.link j).unacked = true) (hd : s.fuse.devId = 0)
    (hf : s.fld F.YLN_IMG_FWD_STATE (j + 1) = 1) (hlast : s.boot.image.length ≤ 4096 * ((s.link j).part + 1)) :
    Completes (.sidebandMessage j seq .ack) s fun t => t.fld F.YLN_IMG_FWD_STATE (j + 1) = 2 ∧
      t.flag F.YLN_ID_EVT_IMG_DONE = true ∧ (t.link j).unacked = false := by
  refine Completes.of_exec (exec_sidebandMessage_ack s ho hj hst hw hu hd hf (decide_eq_true hlast)) ?_
  simp only [State.when, if_true]
  refine ⟨?_, State.flag_raise _ rfl rfl .., ?_⟩
  · rw [State.fld_raise_apart _ rfl]
    exact State.fld_setFld_lt _ rfl (by decide) ..
  · rw [State.link_congr (State.raise_links ..), State.link_congr (State.setFld_links ..), State.link_modLink]
    rfl

theorem State.imgPart_modLink (j : Nat) (f : Link → Link) : (s.modLink j f).imgPart (j + 1) =
    (s.boot.image.drop (4096 * (f (s.link j)).part)).take 4096 := by
  rw [State.imgPart, Nat.add_sub_cancel, State.link_modLink]
  rfl

theorem completes_sidebandMessage_part {j seq : Nat} (ho : s.yrdOn = true) (hj : j < 3) (hst : s.linkSt j ≠ 0)
    (hw : s.flag F.YLN_LINK_STATUS_WIRING j = false) (hu : (s.link j).unacked = true) (hd : s.fuse.devId = 0)
    (hf : s.fld F.YLN_IMG_FWD_STATE (j + 1) = 1) (hmore : 4096 * ((s.link j).part + 1) < s.boot.image.length) :
    Completes (.sidebandMessage j seq .ack) s fun t =>
      t.imgPart (j + 1) = (s.boot.image.drop (4096 * ((s.link j).part + 1))).take 4096 ∧
      (t.link j).unacked = true := by
  refine Completes.of_exec (exec_sidebandMessage_ack s ho hj hst hw hu hd hf (decide_eq_false (Nat.not_le.mpr hmore))) ?_
  simp only [State.when, Bool.false_eq_true, if_false]
  exact ⟨s.imgPart_modLink .., by rw [State.link_modLink]; rfl⟩

theorem State.link_imgRx (r : List Byte) (j : Nat) : ({ s with imgRx := r } : State).link j = s.link j := rfl

theorem exec_sidebandMessage_image {j seq : Nat} {d : List Byte} (ho : s.yrdOn = true) (hj : j < 3)
    (hst : s.linkSt j ≠ 0) (hw : s.flag F.YLN_LINK_STATUS_WIRING j = false) (hnew : (s.link j).rxSeq ≠ some seq)
    (hd : s.fuse.devId ≠ 0) (hi : s.img = 1) (hl : j = s.linkTo 0) :
    exec (.sidebandMessage j seq (.image d)) s = .next
      { (s.modLink j fun k => { k with rxSeq := some seq }).modLink j fun k => { k with imgAt := s.us } with
        imgRx := s.imgRx ++ d } := by
  change execSidebandMessage j seq (.image d) s = _
  unfold execSidebandMessage
  rw [if_neg (by simp [ho, hj, hst, hw])]
  dsimp only
  rw [if_pos]
  · rfl
  · simp only [Bool.and_eq_true, bne_iff_ne, decide_eq_true_eq]
    exact ⟨⟨⟨hnew, hd⟩, hi⟩, hl⟩

/-- The image begins with its first part (R341). -/
theorem State.imgSend_shows (j : Nat) : (s.imgSend (j + 1)).fld F.YLN_IMG_FWD_STATE (j + 1) = 1 ∧
    ((s.imgSend (j + 1)).link j).unacked = true := by
  unfold State.imgSend
  rw [Nat.add_sub_cancel, State.fld_modLink, State.link_modLink]
  exact ⟨s.fld_setFld_lt rfl (by decide) .., rfl⟩

theorem completes_imgRestart {d : Nat} (ho : s.yrdOn = true) (h1 : 1 ≤ d) (h3 : d ≤ 3) (hd : s.fuse.devId = 0)
    (hf : s.fld F.YLN_IMG_FWD_STATE d = 3) (hst : s.linkSt (d - 1) ≠ 0)
    (hw : s.flag F.YLN_LINK_STATUS_WIRING (d - 1) = false) (ht : (s.link (d - 1)).sentAt + 10000000 ≤ s.us) :
    Completes (.imgRestart d) s fun t => t.fld F.YLN_IMG_FWD_STATE d = 1 ∧ (t.link (d - 1)).unacked = true := by
  refine Completes.of_if rfl (by simp [ho, h1, h3, hd, hf, hst, hw, ht]) ?_
  obtain ⟨j, rfl⟩ := Nat.exists_eq_add_of_le' h1
  exact s.imgSend_shows j

/-- Settles O20. -/
theorem yardCommandsComplete : Obligations.YardCommandsComplete := by
  unfold Obligations.YardCommandsComplete
  refine ⟨?lockHost, ?lockYard, ?lossHost, ?lossYard, ?injHost, ?injYard, ?genHost, ?genYard, ?bad, ?select, ?data,
    ?present, ?self, ?lost, ?ready, ?switch, ?failure, ?spare, ?revert, ?other, ?last, ?part, ?image, ?repeats, ?want,
    ?restart, ?wait, ?rmt, ?fwd, ?status, ?lock, ?filler⟩
  case lockHost =>
    intro s l hc
    exact Completes.of_if rfl hc ⟨(State.flag_raise_apart _ rfl ..).trans (s.flag_setFlag rfl rfl true ..),
      State.flag_raise _ rfl rfl ..⟩
  case lockYard => exact fun s l hc => Completes.of_if rfl hc (s.flag_setFlag rfl rfl true ..)
  case lossHost => exact fun s l n ho hl => completes_prbsLoss_host s ho hl
  case lossYard => exact fun s l n ho hl => completes_prbsLoss_yard s ho hl
  case injHost =>
    exact fun s m l v ha he hg => Completes.of_guardW ha rfl ((State.prbsWrite_shows _ l hg).2 he)
  case injYard =>
    exact fun s m l v ha he hg => Completes.of_guardW ha rfl ((State.yardPrbsWrite_shows _ l hg).inj he)
  case genHost => exact fun s m l v ha hg => Completes.of_guardW ha rfl (State.prbsWrite_shows _ l hg).1
  case genYard => exact fun s m l v ha hg => Completes.of_guardW ha rfl (State.yardPrbsWrite_shows _ l hg).gen
  case bad => exact fun s l fill ho hl hlock => completes_yardBlock_bad s ho hl hlock
  case select =>
    exact fun s l fill g n k ho hl hlock hst hu h1 h16 => completes_yardBlock_select s ho hl hlock hst hu h1 h16
  case data => exact fun s l fill ho hl hlock hst hu hleft => completes_yardBlock_data s ho hl hlock hst hu hleft
  case present =>
    exact fun s l h ho hl hself hdev hpair hlane hst himg =>
      completes_hello_present s ho hl hself hdev hpair hlane hst himg
  case self => exact fun s l h ho hl hself => completes_hello_self s ho hl hself
  case lost =>
    intro s j ho hj hst ht
    exact Completes.of_if rfl (by simp [ho, hj, ht]) (s.linkDown_shows hst)
  case ready =>
    intro s m v ha hv
    refine Completes.of_guardW ha rfl ?_
    rw [State.yardCfgWrite, (State.modeEval_upd ..).flag _ _ _ rfl, State.flag,
      State.upto_keeps _ (fun t => t.fld F.YLN_YARD_CFG_RUN_READY) _ _ fun _ _ _ => (State.switchEval_upd ..).fld _ _ _ rfl,
      State.fld_plainWrite_rw _ rfl, hv]
    rfl
  case switch => exact fun s j ho hj hs hw => completes_runSwitch s ho hj hs hw
  case failure => exact fun s l ho hl _ => completes_laneFailure s ho hl
  case spare => exact fun s j ho hj hs hr => completes_spareIn s ho hj hs hr
  case revert => exact fun s m j v ha hv hs => completes_revert s ha hv hs
  case other => exact fun s j seq ho hj hst hw => completes_sidebandMessage_other s ho hj hst hw
  case last =>
    exact fun s j seq ho hj hst hw hu hd hf hlast => completes_sidebandMessage_last s ho hj hst hw hu hd hf hlast
  case part =>
    exact fun s j seq ho hj hst hw hu hd hf hmore => completes_sidebandMessage_part s ho hj hst hw hu hd hf hmore
  case image =>
    intro s j seq d ho hj hst hw hnew hd hi hl
    refine Completes.of_exec (exec_sidebandMessage_image s ho hj hst hw hnew hd hi hl) ⟨rfl, ?_⟩
    rw [State.link_imgRx, State.link_modLink, State.link_modLink]
  case repeats =>
    intro s j ho hj hu hr ht
    refine Completes.of_if rfl (by simp [ho, hj, hu, ht]) ?_
    rw [if_pos hr, State.link_modLink]
  case want =>
    intro s j ho hj hd hi himg hst hw hf
    exact Completes.of_if rfl (by simp [ho, hj, hd, hi, himg, hst, hw, hf]) (s.imgSend_shows j)
  case restart => exact fun s d ho h1 h3 hd hf hst hw ht => completes_imgRestart s ho h1 h3 hd hf hst hw ht
  case wait =>
    intro s ho hd hi ht
    exact Completes.of_if rfl (by simp [ho, hd, hi, ht]) rfl
  case rmt =>
    intro s m v ha hv
    refine Completes.of_guardW ha rfl ?_
    rw [State.rmtCmdWrite, if_neg (by rw [hv]; decide)]
    exact ⟨State.flag_setFlag _ rfl rfl true .., rfl⟩
  case fwd =>
    intro s m j n v ha
    refine Completes.of_guardW ha rfl ?_
    exact ((State.fwdShow_upd ..).rd_of .YLN_FWD_TX j n rfl).trans (State.rd_plainWrite_full _ rfl ..)
  case status =>
    intro s g n ho hs
    refine Completes.of_if rfl (by simp [ho, hs]) ?_
    rw [(State.yardGroups_upd _).yardSt rfl]
    exact NTab.get_set_same 0 s.yardSt (g * 256 + n) 0
  case lock => exact fun s l ho hl hg => completes_blockLock s ho hl hg
  case filler => exact fun s l ts fr ho hl hg hgap => completes_yardBlockTx_filler s ho hl hg hgap

end Sys2Proof.Machine
end

section
/-! Power domains: requests, handshakes, shutdown, wake and pads (spec/15): O21. -/

namespace Sys2Proof.Machine

variable (s : State)

/-! ## Records and domains -/

theorem State.fld_modPwr (g : Pwr → Pwr) (f : Fld) (i j : Nat) : (s.modPwr g).fld f i j = s.fld f i j := rfl

theorem State.domSt_modPwr (g : Pwr → Pwr) (d : Nat) : (s.modPwr g).domSt d = s.domSt d := rfl

theorem State.pwr_modPwr (g : Pwr → Pwr) : (s.modPwr g).pwr = g s.pwr := rfl

theorem State.domSt_setDom (d : Nat) {st : Nat} (h : st < 8) : (s.setDom d st).domSt d = st := s.fld_setFld_lt rfl h ..

theorem State.domSt_setFld {f : Fld} (h : f.apart F.PMU_DOM_STATE = true) (n i j d : Nat) :
    (s.setFld f n i j).domSt d = s.domSt d := s.fld_setFld_apart h ..

theorem State.domSt_raise {f : Fld} (h : f.apart F.PMU_DOM_STATE = true) (i j d : Nat) :
    (s.raise f i j).domSt d = s.domSt d := s.fld_raise_apart h ..

theorem Upd.domSt {w : Nat} {s t : State} (h : Upd w s t) (d : Nat)
    (hb : w.testBit (RegId.PMU_DOM).ctorIdx = false) : t.domSt d = s.domSt d := h.fld F.PMU_DOM_STATE d 0 hb

/-- A bit that is written into a register beside what it holds reads 1. -/
theorem State.bitOf_wr_or {k : RegKey} {b : Nat} (h : k.mask.getLsbD b = true) :
    bitOf ((s.wr k (s.rd k ||| BitVec.ofNat 32 (2 ^ b))).rd k) b = true := by
  have hb : b < 32 := BitVec.lt_of_getLsbD h
  rw [bitOf, s.rd_wr_same, BitVec.getLsbD_and, h, BitVec.getLsbD_or, BitVec.getLsbD_ofNat, Nat.testBit_two_pow_self]
  simp [hb]

/-! ## Requests and handshakes -/

/-- A domain that is asked is in ASKING with its target, its request as it stands. -/
theorem State.ask_shows (d target : Nat) : (s.ask d target).domSt d = 3 ∧
    (s.ask d target).fld F.PMU_DOM_REQ d = s.fld F.PMU_DOM_REQ d ∧ (s.ask d target).pwr.target.get 0 d = target := by
  unfold State.ask
  extract_lets t u
  have ht : t.domSt d = 3 ∧ t.fld F.PMU_DOM_REQ d = s.fld F.PMU_DOM_REQ d ∧ t.pwr.target.get 0 d = target :=
    ⟨s.domSt_setDom d (by decide), s.fld_setFld_apart (f := F.PMU_DOM_STATE) rfl .., NTab.get_set_same ..⟩
  clear_value t
  have hu : u.domSt d = 3 ∧ u.fld F.PMU_DOM_REQ d = s.fld F.PMU_DOM_REQ d ∧ u.pwr.target.get 0 d = target := by
    refine State.when_holds t (fun u => u.domSt d = 3 ∧ u.fld F.PMU_DOM_REQ d = s.fld F.PMU_DOM_REQ d ∧
      u.pwr.target.get 0 d = target) _ _ ht fun ⟨h1, h2, h3⟩ => ⟨?_, ?_, ?_⟩
    · exact ((State.hayGroups_upd _).domSt d rfl).trans ((t.domSt_setFld rfl ..).trans h1)
    · exact ((State.hayGroups_upd _).fld _ _ _ rfl).trans ((t.fld_setFld_apart rfl ..).trans h2)
    · rw [(State.hayGroups_upd _).pwr rfl, State.setFld_pwr]
      exact h3
  clear_value u
  obtain ⟨h1, h2, h3⟩ := hu
  exact ⟨((State.evalAll_upd u).domSt d rfl).trans h1, ((State.evalAll_upd u).fld _ _ _ rfl).trans h2,
    by rw [(State.evalAll_upd u).pwr rfl, h3]⟩

/-- A handshake that is over leaves its domain ON with the result. -/
theorem State.askOver_shows (d : Nat) {r : Nat} (h : r < 8) : (s.askOver d r).domSt d = 2 ∧
    (s.askOver d r).fld F.PMU_DOM_RESULT d = r ∧ (d = 8 → (s.askOver d r).flag F.HAY_STATUS_DRAINING = false) := by
  unfold State.askOver
  extract_lets t
  have st : t.domSt d = 2 := (State.domSt_setFld _ rfl ..).trans ((State.domSt_setFld _ rfl ..).trans
    (s.domSt_setDom d (by decide)))
  have res : t.fld F.PMU_DOM_RESULT d = r := State.fld_setFld_lt _ rfl h ..
  clear_value t
  obtain ⟨h1, h2⟩ := State.when_holds t (fun u => u.domSt d = 2 ∧ u.fld F.PMU_DOM_RESULT d = r) (d == 8)
    (fun s => s.setFld F.HAY_STATUS_DRAINING 0) ⟨st, res⟩
    fun ⟨h1, h2⟩ => ⟨(t.domSt_setFld rfl ..).trans h1, (t.fld_setFld_apart rfl ..).trans h2⟩
  refine ⟨((State.evalAll_upd _).domSt d rfl).trans h1, ((State.evalAll_upd _).fld _ _ _ rfl).trans h2, ?_⟩
  rintro rfl
  exact ((State.evalAll_upd _).flag _ _ _ rfl).trans (t.flag_setFlag rfl rfl false ..)

theorem State.wakeTry_shows (d : Nat) : (s.wakeTry d).domSt d = 1 ∧ (s.wakeTry d).pwr.step.get 0 d = 1 :=
  ⟨s.domSt_setDom d (by decide), by rw [State.wakeTry, State.pwr_modPwr]; exact NTab.get_set_same 0 _ d 1⟩

theorem State.wakeBegin_shows (d : Nat) : (s.wakeBegin d).domSt d = 1 ∧ (s.wakeBegin d).pwr.step.get 0 d = 1 :=
  State.wakeTry_shows _ d

/-- A write that clears no WAKE_FAIL is a request. -/
theorem State.domWrite_request (d : Nat) {v : W32} (h : F.PMU_DOM_WAKE_FAIL.get v = 0) :
    s.domWrite d v = s.domReq d (min (F.PMU_DOM_REQ.get v) 2) := by
  rw [State.domWrite, h]; rfl

theorem State.domReq_off {d : Nat} (hf : s.fusedOff d = false) (hd : s.domSt d = 2) :
    s.domReq d 0 = (s.setFld F.PMU_DOM_REQ 0 d).ask d 0 := by
  simp only [State.domReq, hf, hd, Bool.false_eq_true, if_false, OfNat.zero_ne_ofNat]

theorem State.domReq_on {d : Nat} (hf : s.fusedOff d = false) (hd : s.domSt d = 0) : s.domReq d 2 = s.wakeBegin d := by
  simp only [State.domReq, hf, hd, Bool.false_eq_true, if_false, if_true]

/-- A domain that has accepted is STOPPING. -/
theorem State.domSt_accepted (d : Nat) : (s.accepted d).domSt d = 4 := by
  unfold State.accepted
  extract_lets
  rw [(State.evalAll_upd _).domSt d rfl]
  exact State.domSt_setDom _ d (by decide)

/-! ## Shutdown and waking -/

theorem State.domSt_railsEval (d : Nat) : s.railsEval.domSt d = s.domSt d := (State.railsEval_upd s).domSt d rfl

/-- A shutdown to OFF that nothing queued follows ends in OFF. -/
theorem State.stopped_off {d : Nat} (ht : s.pwr.target.get 0 d = 0) (hp : s.flag F.PMU_DOM_PENDING_ON d = false)
    (hr : s.fld F.PMU_DOM_REQ d = 0) : (s.stopped d).domSt d = 0 ∧ (s.stopped d).fld F.PMU_DOM_RESULT d = 1 := by
  unfold State.stopped
  rw [ht]
  extract_lets target t
  have keep : ∀ f : Fld, F.PMU_DOM_STATE.apart f = true → F.PMU_DOM_RESULT.apart f = true → f.reg = .PMU_DOM →
      t.fld f d = s.fld f d := by
    intro f h1 h2 h3
    rw [(State.railsEval_upd _).fld _ _ _ (by rw [h3]; rfl), State.domRes, State.fld_setFld_apart _ h2, State.setDom,
      State.fld_setFld_apart _ h1]
    exact State.fld_of_rd f (by rw [h3]; exact s.dom_domLoss ..)
  have st : t.domSt d = 0 := (State.domSt_railsEval ..).trans ((State.domSt_setFld _ rfl ..).trans
    (State.domSt_setDom _ d (by decide)))
  have res : t.fld F.PMU_DOM_RESULT d = 1 := ((State.railsEval_upd _).fld _ _ _ rfl).trans
    (State.fld_setFld_lt _ rfl (by decide) ..)
  have pend : t.flag F.PMU_DOM_PENDING_ON d = false := (congrArg (· == 1) (keep _ rfl rfl rfl)).trans hp
  have req : t.fld F.PMU_DOM_REQ d = 0 := (keep _ rfl rfl rfl).trans hr
  clear_value t
  rw [if_neg (by rw [pend]; decide), if_neg (by simp [target]),
    if_neg (by rw [show (t.fld F.PMU_DOM_REQ d == 1) = false by rw [req]; rfl, Bool.and_false]; decide)]
  exact ⟨st, res⟩

/-- A domain that has reached ON, with nothing asked of it since, is ON. -/
theorem State.wakeDone_shows {d : Nat} (hr : s.fld F.PMU_DOM_REQ d = 2) : (s.wakeDone d).domSt d = 2 ∧
    (s.wakeDone d).fld F.PMU_DOM_RESULT d = 1 ∧ (s.wakeDone d).flag F.PMU_EVT_WAKE_DONE = true := by
  unfold State.wakeDone
  extract_lets ret t u
  have st : t.domSt d = 2 := (State.domSt_raise _ rfl ..).trans ((State.domSt_setFld _ rfl ..).trans
    (s.domSt_setDom d (by decide)))
  have res : t.fld F.PMU_DOM_RESULT d = 1 := (State.fld_raise_apart _ rfl ..).trans
    (State.fld_setFld_lt _ rfl (by decide) ..)
  have evt : t.flag F.PMU_EVT_WAKE_DONE = true := State.flag_raise _ rfl rfl ..
  have req : t.fld F.PMU_DOM_REQ d = 2 := (State.fld_raise_apart _ rfl ..).trans ((State.fld_setFld_apart _ rfl ..).trans
    ((State.fld_setFld_apart _ rfl ..).trans hr))
  clear_value t
  have keep := State.domUp_upd d ret t
  rw [if_neg (by rw [show u.fld _ d = _ from keep.fld _ _ _ rfl, req]; decide)]
  exact ⟨(keep.domSt d rfl).trans st, (keep.fld _ _ _ rfl).trans res, (keep.flag _ _ _ rfl).trans evt⟩

/-- A step that is not the last is followed by the next. -/
theorem exec_wakeStep_due {d : Nat} (hd : s.domSt d = 1) (h2 : 2 ≤ d) (h13 : d ≤ 13) (hdue : s.stepDue d = true) :
    exec (.wakeStep d) s = .next
      (let u := s.when (s.pwr.step.get 0 d == 1) fun s => s.modPwr fun p =>
        { p with pg := (railsOf d).foldl (fun l r => if l.contains r then l else r :: l) p.pg }
      if s.pwr.step.get 0 d < 6 then
        u.modPwr fun p => { p with step := p.step.set 0 d (s.pwr.step.get 0 d + 1), stepAt := p.stepAt.set 0 d u.us }
      else u.wakeDone d) := by
  change execWakeStep d s = _
  unfold execWakeStep
  dsimp only
  rw [if_neg (by omega : ¬d = 1), if_pos (by simp [hd, h13, hdue, Nat.le_of_succ_le h2])]

theorem completes_wakeStep_more {d : Nat} (hd : s.domSt d = 1) (h2 : 2 ≤ d) (h13 : d ≤ 13)
    (h6 : s.pwr.step.get 0 d < 6) (hdue : s.stepDue d = true) : Completes (.wakeStep d) s fun t =>
      t.pwr.step.get 0 d = s.pwr.step.get 0 d + 1 ∧ t.domSt d = 1 := by
  refine Completes.of_exec (exec_wakeStep_due s hd h2 h13 hdue) ?_
  extract_lets u
  rw [if_pos h6, State.pwr_modPwr, State.domSt_modPwr]
  refine ⟨NTab.get_set_same 0 u.pwr.step d (s.pwr.step.get 0 d + 1), ?_⟩
  exact State.when_holds s (fun u => u.domSt d = 1) _ _ hd fun h => (s.domSt_modPwr _ d).trans h

theorem completes_wakeStep_last {d : Nat} (hd : s.domSt d = 1) (h2 : 2 ≤ d) (h13 : d ≤ 13)
    (h6 : 6 ≤ s.pwr.step.get 0 d) (hdue : s.stepDue d = true) (hr : s.fld F.PMU_DOM_REQ d = 2) :
    Completes (.wakeStep d) s fun t => t.domSt d = 2 ∧ t.fld F.PMU_DOM_RESULT d = 1 ∧
      t.flag F.PMU_EVT_WAKE_DONE = true := by
  refine Completes.of_exec (exec_wakeStep_due s hd h2 h13 hdue) ?_
  extract_lets u
  rw [if_neg (Nat.not_lt.mpr h6)]
  exact u.wakeDone_shows (State.when_holds s (fun u => u.fld F.PMU_DOM_REQ d = 2) _ _ hr
    fun h => (s.fld_modPwr _ _ d 0).trans h)

theorem completes_wakeFail {d : Nat} (hd : s.domSt d = 1) (h1 : 1 ≤ d) (h13 : d ≤ 13) (ho : s.stepOver d = true)
    (hr : s.fld F.PMU_DOM_RETRY_LEFT d ≠ 0) : Completes (.wakeFail d) s fun t => t.domSt d = 6 ∧
      t.flag F.PMU_DOM_WAKE_FAIL d = true ∧ t.flag F.PMU_EVT_WAKE_FAIL = true := by
  refine Completes.of_if rfl (by simp [hd, h1, h13, ho]) ?_
  extract_lets k t u
  have left : u.fld F.PMU_DOM_RETRY_LEFT d = s.fld F.PMU_DOM_RETRY_LEFT d := by
    rw [show u.fld _ d = _ from State.fld_raise_apart _ rfl .., State.fld_setFld_apart _ rfl, State.fld_setFld_apart _ rfl]
    exact (State.fld_modPwr _ _ _ d 0).trans (State.fld_of_rd F.PMU_DOM_RETRY_LEFT (s.dom_domLoss ..))
  have fail : u.flag F.PMU_DOM_WAKE_FAIL d = true := (State.flag_raise_apart _ rfl ..).trans
    ((State.flag_setFld_apart _ rfl ..).trans (State.flag_setFlag _ rfl rfl true ..))
  have evt : u.flag F.PMU_EVT_WAKE_FAIL = true := State.flag_raise _ rfl rfl ..
  clear_value u
  rw [if_neg (by rwa [left])]
  exact ⟨u.domSt_setDom d (by decide), (u.flag_setFld_apart rfl ..).trans fail, (u.flag_setFld_apart rfl ..).trans evt⟩

/-! ## Wake sources and pads -/

/-- A wake source that fires is recorded. -/
theorem State.bitOf_wakeSource {m : Nat} (h : (R .PMU_WAKE_SRC).mask.getLsbD m = true) :
    bitOf ((s.wakeSource m).rd (R .PMU_WAKE_SRC)) m = true := by
  unfold State.wakeSource
  extract_lets t mask
  rw [State.upto_keeps t (fun u => u.rd (R .PMU_WAKE_SRC)) _ _ ?_]
  · exact s.bitOf_wr_or h
  · intro x u _
    split
    · rfl
    · split
      · exact (State.wakeBegin_upd ..).rd_of _ _ _ rfl
      · exact (State.wakeBegin_upd ..).rd_of _ _ _ rfl
      · exact (State.rd_setFld_name _ rfl ..).trans (State.rd_setFlag_name _ rfl ..)
      · rfl

theorem padFld_cases {d : Nat} {f : Fld} (h : padFld d = some f) :
    (d = 1 ∧ f = F.PMU_PAD_HOLD_MGMT) ∨ (d = 2 ∧ f = F.PMU_PAD_HOLD_TMG) ∨ (d = 3 ∧ f = F.PMU_PAD_HOLD_MON) := by
  unfold padFld at h
  split_ifs at h with h1 h2 h3
  · exact .inl ⟨h1, (Option.some.inj h).symm⟩
  · exact .inr (.inl ⟨h2, (Option.some.inj h).symm⟩)
  · exact .inr (.inr ⟨h3, (Option.some.inj h).symm⟩)

/-- The pads of two domains are held apart. -/
theorem padFld_apart : ∀ d < 4, ∀ e < 4, d ≠ e → ∀ f ∈ padFld d, ∀ g ∈ padFld e, f.apart g = true := by decide

theorem lt_of_padFld {d : Nat} {f : Fld} (h : padFld d = some f) : d < 4 := by
  obtain ⟨rfl, -⟩ | ⟨rfl, -⟩ | ⟨rfl, -⟩ := padFld_cases h <;> decide

/-- The pads of domain `d` are released where the write asks for it and the domain is ON (R354). -/
def State.padRelease (v : W32) (d : Nat) (s : State) : State :=
  match padFld d with
  | some f => if f.get v == 1 && s.domOn d then s.setFld f 0 else s
  | none => s

theorem State.domOn_padRelease (v : W32) (d e : Nat) : (s.padRelease v d).domOn e = s.domOn e := by
  unfold State.padRelease
  split
  · next f hf =>
    split
    · rw [State.domOn, State.domOn]
      obtain ⟨-, rfl⟩ | ⟨-, rfl⟩ | ⟨-, rfl⟩ := padFld_cases hf
      all_goals rw [State.fld_setFld_apart _ rfl]
    · rfl
  · rfl

/-- Pads that are released stay so. -/
theorem State.padRelease_keeps {v : W32} {d e : Nat} {g : Fld} (hg : padFld e = some g)
    (h : s.flag g = false) : (s.padRelease v d).flag g = false := by
  unfold State.padRelease
  split
  · next f hf =>
    split
    · by_cases hde : d = e
      · obtain rfl : f = g := Option.some.inj (hf.symm.trans (hde ▸ hg))
        obtain ⟨-, rfl⟩ | ⟨-, rfl⟩ | ⟨-, rfl⟩ := padFld_cases hf
        all_goals exact s.flag_setFlag rfl rfl false ..
      · have apart := padFld_apart d (lt_of_padFld hf) e (lt_of_padFld hg) hde f hf g hg
        exact (s.flag_setFld_apart apart ..).trans h
    · exact h
  · exact h

theorem State.padRelease_releases {v : W32} {d : Nat} {f : Fld} (hf : padFld d = some f) (hv : f.get v = 1)
    (hd : s.domOn d = true) : (s.padRelease v d).flag f = false := by
  rw [State.padRelease, hf]
  dsimp only
  rw [if_pos (by rw [hv, hd]; rfl)]
  obtain ⟨-, rfl⟩ | ⟨-, rfl⟩ | ⟨-, rfl⟩ := padFld_cases hf
  all_goals exact s.flag_setFlag rfl rfl false ..

/-- A pad hold that is written 1 for a domain that is ON is released. -/
theorem State.padWrite_releases {d : Nat} {f : Fld} {v : W32} (hf : padFld d = some f) (hv : f.get v = 1)
    (hd : s.domOn d = true) : (s.padWrite v).flag f = false := by
  change (((s.padRelease v 1).padRelease v 2).padRelease v 3).flag f = false
  obtain ⟨rfl, -⟩ | ⟨rfl, -⟩ | ⟨rfl, -⟩ := padFld_cases hf
  · exact State.padRelease_keeps _ hf (State.padRelease_keeps _ hf (s.padRelease_releases hf hv hd))
  · exact State.padRelease_keeps _ hf (State.padRelease_releases _ hf hv (by rw [s.domOn_padRelease, hd]))
  · exact State.padRelease_releases _ hf hv (by rw [State.domOn_padRelease, s.domOn_padRelease, hd])

theorem completes_aonTimer (ha : s.flag F.AON_TIMER_CTRL_ARM = true)
    (he : s.rd (R .AON_SLOW_CNT) = s.rd (R .AON_TIMER_CMP)) : Completes (.aonTimer) s fun t =>
      t.flag F.AON_TIMER_CTRL_ARM = false ∧ t.flag F.AON_EVT_TIMER = true ∧
      bitOf (t.rd (R .PMU_WAKE_SRC)) 2 = true := by
  refine Completes.of_if rfl (by simp [ha, he]) ⟨?_, ?_, State.bitOf_wakeSource _ rfl⟩
  · exact ((State.wakeSource_upd ..).flag _ _ _ rfl).trans ((State.flag_raise_apart _ rfl ..).trans
      (s.flag_setFlag rfl rfl false ..))
  · exact ((State.wakeSource_upd ..).flag _ _ _ rfl).trans (State.flag_raise _ rfl rfl ..)

theorem completes_twiAddressMatch {a : Nat} (ha : a = s.fld F.AON_CFG_TWI_ADDR) (hd : s.domOn 1 = false)
    (hw : s.flag F.AON_CFG_TWI_WAKE = true) (hs : s.flag F.AON_CFG_STRETCH = true) :
    Completes (.twiAddressMatch a) s fun t => bitOf (t.rd (R .PMU_WAKE_SRC)) 0 = true ∧
      t.fab.stretched = some s.us := by
  refine Completes.of_if rfl (by simp [ha, hd, hw]) ?_
  have src : bitOf ((s.wakeSource 0).rd (R .PMU_WAKE_SRC)) 0 = true := s.bitOf_wakeSource rfl
  rw [hs]
  exact ⟨src, congrArg some ((State.wakeSource_upd 0 s).us rfl)⟩

/-- Settles O21. -/
theorem powerCommandsComplete : Obligations.PowerCommandsComplete := by
  unfold Obligations.PowerCommandsComplete
  refine ⟨?off, ?on, ?fused, ?accept, ?refused, ?drain, ?shut, ?more, ?last, ?fail, ?retry, ?address, ?aon, ?wakeN,
    ?timer, ?pad⟩
  case off =>
    intro s m d v ha hf hd hw hr
    refine Completes.of_guardW ha rfl ?_
    rw [State.domWrite_request _ _ hw, hr, show min 0 2 = 0 from rfl, State.domReq_off (s.rewritten (R .PMU_DOM d)) hf hd]
    obtain ⟨h1, h2, h3⟩ := State.ask_shows ((s.rewritten (R .PMU_DOM d)).setFld F.PMU_DOM_REQ 0 d) d 0
    exact ⟨h1, h2.trans (State.fld_setFld_lt _ rfl (by decide) ..), h3⟩
  case on =>
    intro s m d v ha hf hd hw hr
    refine Completes.of_guardW ha rfl ?_
    rw [State.domWrite_request _ _ hw, hr, show min 2 2 = 2 from rfl, State.domReq_on (s.rewritten (R .PMU_DOM d)) hf hd]
    exact State.wakeBegin_shows _ d
  case fused =>
    intro s m d v ha hf hw
    refine Completes.of_guardW ha rfl ?_
    rw [State.domWrite_request _ _ hw, State.domReq, if_pos (by exact hf)]
    exact ⟨State.fld_setFld_lt _ rfl (by decide) .., State.domSt_setFld _ rfl ..⟩
  case accept => exact fun s d ha hok => Completes.of_if rfl (by rw [ha, hok]; rfl) (s.domSt_accepted d)
  case refused =>
    intro s d b ha hb
    have due : (!b || s.askOld d (s.fld F.PMU_CFG_HS_LIMIT)) = true := by
      cases b
      · rfl
      · rw [hb rfl]; rfl
    refine Completes.of_if rfl (by rw [ha, due]; rfl) ?_
    obtain ⟨h1, h2, -⟩ := s.askOver_shows d (r := if b then 3 else 2) (by cases b <;> decide)
    exact ⟨(State.domSt_raise _ rfl ..).trans h1, (State.fld_raise_apart _ rfl ..).trans h2,
      State.flag_raise _ rfl rfl ..⟩
  case drain =>
    intro s ha hd hb ho
    refine Completes.of_if rfl (by rw [ha, hd, hb, ho]; rfl) ?_
    obtain ⟨h1, h2, h3⟩ := s.askOver_shows 8 (r := 2) (by decide)
    exact ⟨(State.domSt_raise _ rfl ..).trans ((State.domSt_raise _ rfl ..).trans h1),
      (State.fld_raise_apart _ rfl ..).trans ((State.fld_raise_apart _ rfl ..).trans h2), State.flag_raise _ rfl rfl ..,
      (State.flag_raise_apart _ rfl ..).trans ((State.flag_raise_apart _ rfl ..).trans (h3 rfl))⟩
  case shut =>
    intro s d hd h1 h13 ht hp hr
    refine Completes.of_if rfl (by simp [hd, h1, h13]) ?_
    obtain ⟨st, res⟩ := s.stopped_off ht hp hr
    exact ⟨((State.evalAll_upd _).domSt d rfl).trans st, ((State.evalAll_upd _).fld _ _ _ rfl).trans res⟩
  case more => exact fun s d hd h2 h13 h6 hdue => completes_wakeStep_more s hd h2 h13 h6 hdue
  case last => exact fun s d hd h2 h13 h6 hdue hr => completes_wakeStep_last s hd h2 h13 h6 hdue hr
  case fail => exact fun s d hd h1 h13 ho hr => completes_wakeFail s hd h1 h13 ho hr
  case retry =>
    intro s d hd h1 h13 ht
    exact Completes.of_if rfl (by simp [hd, h1, h13, ht]) (State.wakeTry_shows _ d)
  case address => exact fun s a ha hd hw hs => completes_twiAddressMatch s ha hd hw hs
  case aon =>
    intro s u hu ht
    refine Completes.of_if rfl (by simp [hu, ht]) ⟨?_, State.flag_raise _ rfl rfl ..⟩
    rw [State.raise_fab]
    rfl
  case wakeN => exact fun s => Completes.of_exec rfl (s.bitOf_wakeSource rfl)
  case timer => exact fun s ha he => completes_aonTimer s ha he
  case pad =>
    intro s m v d f ha hf hv hd
    exact Completes.of_guardW ha rfl (State.padWrite_releases _ hf hv hd)

end Sys2Proof.Machine
end

section
/-! Resets: sources, assertion, release and software resets (spec/15): O22. -/

namespace Sys2Proof.Machine

variable (s : State)

/-! ## What a reset of a domain leaves of the reset controller's records -/

/-- The records of the reset controller, whose registers lie in AON. -/
def rstIds : List RegId := [.RST_CAUSE, .RST_EVT, .RST_IDLE_LOG]

theorem domain_of_rstIds {id : RegId} (h : id ∈ rstIds) (i j : Nat) : (R id i j).domain = 0 := by
  simp only [rstIds, List.mem_cons, List.not_mem_nil, or_false] at h
  obtain rfl | rfl | rfl := h <;> rfl

/-- The records of the reset controller are as they were. -/
def State.RstKept (s t : State) : Prop := ∀ id ∈ rstIds, ∀ i j, t.rd (R id i j) = s.rd (R id i j)

theorem State.RstKept.refl : s.RstKept s := fun _ _ _ _ => rfl

theorem State.RstKept.trans {s t u : State} (h : s.RstKept t) (g : t.RstKept u) : s.RstKept u :=
  fun id hid i j => (g id hid i j).trans (h id hid i j)

/-- A change of what no register holds keeps the records. -/
theorem State.RstKept.of_regs {s t : State} (h : t.regs = s.regs) : s.RstKept t :=
  fun _ _ _ _ => by rw [State.rd, h, State.rd]

theorem Upd.rstKept {w : Nat} {s t : State} (h : Upd w s t) (hb : (rstIds.all fun id => !w.testBit id.ctorIdx) = true) :
    s.RstKept t := fun id hid i j =>
  h.rd_of id i j (by simpa using List.all_eq_true.mp hb id hid)

theorem State.rstKept_when {t : State} (h : s.RstKept t) {b : Bool} {g : State → State} (hg : t.RstKept (g t)) :
    s.RstKept (t.when b g) :=
  State.when_holds t (fun u => s.RstKept u) b g h fun _ => h.trans hg

theorem State.rstKept_each {α : Type} (g : α → State → State) (hg : ∀ x t, State.RstKept t (g x t)) :
    ∀ (l : List α) (s : State), s.RstKept (s.each l g)
  | [], s => .refl s
  | x :: l, s => (hg x s).trans (State.rstKept_each g hg l (g x s))

theorem State.rstKept_dropRegs {p : RegKey → Bool} (hp : ∀ k : RegKey, k.domain = 0 → p k = false) :
    s.RstKept (s.dropRegs p) :=
  fun _ hid i j => s.rd_dropRegs p _ (hp _ (domain_of_rstIds hid i j))

theorem State.rstKept_keepCfg {p : RegKey → Bool} (hp : ∀ k : RegKey, k.domain = 0 → p k = false) :
    s.RstKept (s.keepCfg p) :=
  fun _ hid i j => s.rd_keepCfg p _ (hp _ (domain_of_rstIds hid i j))

theorem State.rstKept_hayLoss (keep : Bool) : s.RstKept (s.hayLoss keep) := by
  unfold State.hayLoss
  refine State.RstKept.trans ?_ ((State.hayFuse_upd _).rstKept rfl)
  split
  · exact (s.rstKept_dropRegs (p := fun k => k.domain == 8 && !hayKept true k) fun k h => by simp [h]).trans (.of_regs rfl)
  · exact (s.rstKept_dropRegs (p := fun k => k.domain == 8) fun k h => by simp [h]).trans (.of_regs rfl)

theorem State.rstKept_domLoss (d : Nat) (keep : Bool) : s.RstKept (s.domLoss d keep) := by
  have drop : ∀ (s : State) (n : Nat), n ≠ 0 → s.RstKept (s.dropRegs fun k => k.domain == n) :=
    fun s n hn => s.rstKept_dropRegs fun k h => by simp [h, Ne.symm hn]
  unfold State.domLoss
  extract_lets s0 a1 a2 a3 m3 h9 y13
  have e0 : s.RstKept s0 := .of_regs rfl
  split
  · have e2 : s.RstKept a2 := e0.trans (((State.bstAbort_upd _ s0).rstKept rfl).trans (.of_regs rfl))
    split
    · exact e2
    · exact ((e2.trans ((State.winShut_upd a2).rstKept rfl)).trans (drop _ 1 (by decide))).trans (.of_regs rfl)
  · split
    · exact ((e0.trans (State.rstKept_keepCfg s0 fun k h => by simp [h])).trans ((State.stbStop_upd _).rstKept rfl)).trans
        ((State.pmkClear_upd _).rstKept rfl)
    · exact ((e0.trans (drop _ 2 (by decide))).trans ((State.stbStop_upd _).rstKept rfl)).trans
        ((State.pmkClear_upd _).rstKept rfl)
  · have e3 : s.RstKept m3 := e0.trans (.of_regs rfl)
    split
    · exact e3.trans (State.rstKept_keepCfg m3 fun k h => by simp [h])
    · exact e3.trans (drop m3 3 (by decide))
  · refine State.RstKept.trans ?_ ((State.carLoss_upd ..).rstKept rfl)
    split
    · exact e0
    · exact e0.trans (drop _ 4 (by decide))
  · refine State.RstKept.trans ?_ ((State.carLoss_upd ..).rstKept rfl)
    split
    · exact e0
    · exact e0.trans (drop _ 5 (by decide))
  · exact (e0.trans (State.rstKept_dropRegs s0 fun k h => by simp [h])).trans ((State.lfmLoss_upd ..).rstKept rfl)
  · refine State.RstKept.trans ?_ ((State.sofLoss_upd ..).rstKept rfl)
    split
    · exact e0
    · exact e0.trans (drop _ 7 (by decide))
  · exact e0.trans (s0.rstKept_hayLoss keep)
  iterate 4
    show s.RstKept { (if keep then s0 else s0.dropRegs _) with retryLane := _ }
    refine State.RstKept.trans (t := if keep then s0 else s0.dropRegs _) ?_ (.of_regs rfl)
    split
    · exact e0
    · exact e0.trans (drop s0 _ (by decide))
  · have ey : s0.RstKept y13 := s0.rstKept_dropRegs fun k h => by simp [h]
    refine ((e0.trans ey).trans ?_).trans ((State.yardClear_upd _).rstKept rfl)
    exact fun id hid i j => State.upto_keeps _ (fun x => x.rd (R id i j)) _ 3
      fun n x _ => ((State.fwdShow_upd n x).rstKept rfl) id hid i j
  · exact e0

theorem State.rstKept_domReset (d : Nat) : s.RstKept (s.domReset d) := by
  unfold State.domReset
  split
  · refine State.RstKept.trans ?_ ((State.retSettle_upd _).rstKept rfl)
    refine State.RstKept.trans ?_ ((State.hayFuse_upd _).rstKept rfl)
    exact (s.rstKept_dropRegs (p := fun k => k.domain == 8 && !hayKept false k) fun k h => by simp [h]).trans (.of_regs rfl)
  · exact State.rstKept_when s (s.rstKept_domLoss d false) ((State.leakBack_upd _).rstKept rfl)

theorem State.rstKept_abandon (d : Nat) : s.RstKept (s.abandon d) := by
  have fin : ∀ (t : State) (st req : Nat), t.RstKept ((((t.setDom d st).setFld F.PMU_DOM_REQ req d).domRes d 0).setFld
      F.PMU_DOM_PENDING_ON 0 d) := fun t st req =>
    Upd.rstKept (w := 2 ^ (RegId.PMU_DOM).ctorIdx)
      (Upd.setFld (Upd.setFld (Upd.setFld (Upd.setFld (Upd.refl _ _) rfl) rfl) rfl) rfl) rfl
  unfold State.abandon
  extract_lets f
  split
  · exact (fin s 2 2).trans (.of_regs rfl)
  iterate 3
    exact (((s.rstKept_domLoss d false).trans (fin _ 0 0)).trans (.of_regs rfl)).trans ((State.railsEval_upd _).rstKept rfl)
  exact .refl s

theorem State.rstKept_coreReset : s.RstKept s.coreReset := by
  unfold State.coreReset
  extract_lets t lost u v
  have ht : s.RstKept t := State.rstKept_each _ (fun d x => x.rstKept_abandon d) _ _
  have hu : t.RstKept u := by
    refine State.RstKept.trans (State.rstKept_each _ (fun _ x => ?_) lost t) (.of_regs rfl)
    exact (Upd.wr (Upd.refl 0x400000000000000000000000000000000000000000000000000000000000000000000000000000000000000000000000000000000000000000000000000000000000000 x) rfl).rstKept rfl
  have hv : u.RstKept v := State.rstKept_each _ (fun d x => State.rstKept_when x (.refl x) (x.rstKept_domReset d)) _ _
  exact (((ht.trans hu).trans hv).trans ((State.cfgClear_upd ..).rstKept rfl)).trans ((State.evalAll_upd _).rstKept rfl)

theorem State.rstKept_domainReset (d : Nat) : s.RstKept (s.domainReset d) := by
  unfold State.domainReset
  extract_lets had t
  have ht : s.RstKept t := (s.rstKept_domReset d).trans ((State.cfgClear_upd ..).rstKept rfl)
  clear_value t
  exact (State.rstKept_when s ht (.of_regs rfl)).trans ((State.evalAll_upd _).rstKept rfl)

/-- A CHIP reset keeps the causes recorded (Table 15.5). -/
theorem State.cause_chipReset (src : Nat) : (s.chipReset true src).rd (R .RST_CAUSE) = s.rd (R .RST_CAUSE) := by
  have regs : (s.chipReset true src).regs = (s.dropRegs fun k =>
      !(k.id == .RST_CAUSE || k.id == .RST_LAST || k.id == .RST_ACTIVE)).regs := by
    simp only [State.chipReset, State.dropRegs, if_true, Bool.not_not]
  rw [State.rd, regs]
  exact s.rd_dropRegs _ _ rfl

/-! ## Sources that assert -/

/-- The cause of a source is among the implemented bits of RST_CAUSE. -/
def causeBit (src : Nat) : Bool := (R .RST_CAUSE).mask.getLsbD src

theorem State.cause_rstRecord {src : Nat} (h : causeBit src = true) :
    bitOf ((s.rstRecord src).rd (R .RST_CAUSE)) src = true := by
  unfold State.rstRecord
  extract_lets b fresh t
  rw [State.rd_wr_name _ rfl]
  exact s.bitOf_wr_or h

theorem State.targetOn_rstRecord (src : Nat) (a : Asserted) : (s.rstRecord src).targetOn a = s.targetOn a := by
  simp only [State.targetOn, State.domOn, (State.rstRecord_upd src s).fld F.PMU_DOM_STATE _ _ rfl]

theorem State.cause_rstShow : s.rstShow.rd (R .RST_CAUSE) = s.rd (R .RST_CAUSE) := s.rd_wrN_name rfl ..

/-- A source of a wide level, or one whose target is not ON, is recorded when it asserts. -/
theorem State.cause_assertNow {a : Asserted} (hb : causeBit a.src = true) (ha : a.level ≤ 2 ∨ s.targetOn a = false) :
    bitOf ((s.assertNow a).rd (R .RST_CAUSE)) a.src = true := by
  unfold State.assertNow
  extract_lets t rest u
  have ht : bitOf (t.rd (R .RST_CAUSE)) a.src = true := s.cause_rstRecord hb
  split
  · exact ht
  · rename_i v h
    have hu : bitOf (u.rd (R .RST_CAUSE)) a.src = true := ht
    clear_value u
    have wide : a.level ≤ 2 := by
      refine ha.elim id fun off => ?_
      have off' : t.targetOn a = false := (s.targetOn_rstRecord ..).trans off
      rw [off'] at h
      simp only [Bool.not_false, Bool.and_true, decide_eq_true_eq, Nat.not_le] at h
      exact Nat.le_of_lt_succ h
    rw [State.cause_rstShow]
    match hl : a.level, wide with
    | 0, _ =>
      rw [show v = (u.chipReset false a.src).rstRecord a.src by simp only [v, hl]]
      exact State.cause_rstRecord _ hb
    | 1, _ =>
      rw [show v = u.chipReset true a.src by simp only [v, hl]]
      rwa [State.cause_chipReset]
    | 2, _ =>
      rw [show v = u.coreReset by simp only [v, hl]]
      rwa [u.rstKept_coreReset .RST_CAUSE (by decide) 0 0]

/-- A condition of a source that names no domain records the source. -/
theorem State.cause_srcBegin {src : Nat} (hb : causeBit src = true) (hold : Bool) :
    bitOf ((s.srcBegin src 0 0 hold).rd (R .RST_CAUSE)) src = true := by
  unfold State.srcBegin
  split
  · exact s.bitOf_wr_or hb
  · next l _ =>
    extract_lets a
    have off : s.targetOn a = false := rfl
    rw [off, Bool.and_false, if_neg Bool.false_ne_true]
    exact s.cause_assertNow (a := a) hb (.inr off)

/-- The event and the log of idle time-outs are kept where a source of one domain asserts. -/
theorem State.log_assertNow {a : Asserted} (ha : a.level = 3) {id : RegId} (hid : id ∈ [RegId.RST_EVT, .RST_IDLE_LOG])
    (i j : Nat) : (s.assertNow a).rd (R id i j) = s.rd (R id i j) := by
  have mem : id ∈ rstIds := List.mem_cons_of_mem _ hid
  have recorded : ((s.rstRecord a.src).rd (R id i j)) = s.rd (R id i j) := by
    refine (State.rstRecord_upd a.src s).rd_of id i j ?_
    simp only [List.mem_cons, List.not_mem_nil, or_false] at hid
    obtain rfl | rfl := hid <;> rfl
  have shown : ∀ t : State, t.rstShow.rd (R id i j) = t.rd (R id i j) := fun t => by
    refine (State.rstShow_upd t).rd_of id i j ?_
    simp only [List.mem_cons, List.not_mem_nil, or_false] at hid
    obtain rfl | rfl := hid <;> rfl
  unfold State.assertNow
  extract_lets t rest u
  split
  · exact recorded
  · rename_i v h
    rw [shown, show v = (u.when (a.src != 13) (State.bstAbort fun t => bstDom t == a.dom)).domainReset a.dom by
      simp only [v, ha]]
    have hu : t.RstKept u := .of_regs rfl
    exact ((hu.trans ((State.rstKept_when u (.refl u) ((State.bstAbort_upd ..).rstKept rfl)).trans
      (State.rstKept_domainReset _ a.dom))) id mem i j).trans recorded

theorem State.log_each_assertNow {id : RegId} (hid : id ∈ [RegId.RST_EVT, .RST_IDLE_LOG]) (i j : Nat) :
    ∀ (l : List Asserted) (s : State), (∀ a ∈ l, a.level = 3) →
      (s.each l State.assertNow).rd (R id i j) = s.rd (R id i j)
  | [], _, _ => rfl
  | a :: l, s, h => (State.log_each_assertNow hid i j l (s.assertNow a) fun x hx => h x (List.mem_cons_of_mem _ hx)).trans
      (s.log_assertNow (h a List.mem_cons_self) hid i j)

theorem State.log_assertAsked {a : Asserted} (ha : a.level = 3) (hall : ∀ x ∈ s.asserted, x.src = 13 → x.level = 3)
    {id : RegId} (hid : id ∈ [RegId.RST_EVT, .RST_IDLE_LOG]) (i j : Nat) :
    (s.assertAsked a).rd (R id i j) = s.rd (R id i j) := by
  unfold State.assertAsked
  split
  · extract_lets t l
    have saved : t.rd (R id i j) = s.rd (R id i j) :=
      ((State.testSaved_upd a.page s).rstKept rfl) id (List.mem_cons_of_mem _ hid) i j
    refine (State.log_each_assertNow hid i j l t fun x hx => ?_).trans saved
    simp only [l, show t.asserted = s.asserted from (State.testSaved_upd a.page s).asserted rfl, List.mem_filter,
      Bool.and_eq_true, beq_iff_eq] at hx
    exact hall x hx.1 hx.2.1.1.2
  · exact s.log_assertNow ha hid i j

theorem completes_idleTimeout {src : Nat} {a : Asserted} (hf : s.asserted.find? (fun a => a.asking && a.src == src &&
      decide (a.since + 10 * max (s.rdN (R .RST_IDLE_TO)) 1 ≤ s.us)) = some a) (ha : a.level = 3)
    (hall : ∀ x ∈ s.asserted, x.src = 13 → x.level = 3) : Completes (.idleTimeout src) s fun t =>
      t.flag F.RST_EVT_IDLE_TIMEOUT = true ∧ t.fld F.RST_IDLE_LOG_DOMAIN = a.dom % 2 ^ F.RST_IDLE_LOG_DOMAIN.len := by
  have he : exec (.idleTimeout src) s = .next ((((s.raise F.RST_EVT_IDLE_TIMEOUT).setFld F.RST_IDLE_LOG_PAGE
      a.page).setFld F.RST_IDLE_LOG_DOMAIN a.dom).assertAsked a) := by
    change execIdleTimeout src s = _
    rw [execIdleTimeout, hf]
  refine Completes.of_exec he ?_
  obtain ⟨u, hu⟩ : ∃ u, ((s.raise F.RST_EVT_IDLE_TIMEOUT).setFld F.RST_IDLE_LOG_PAGE a.page).setFld
    F.RST_IDLE_LOG_DOMAIN a.dom = u := ⟨_, rfl⟩
  have asserted : u.asserted = s.asserted := by
    rw [← hu, State.setFld_asserted, State.setFld_asserted, State.raise_asserted]
  have evt : u.flag F.RST_EVT_IDLE_TIMEOUT = true := by
    rw [← hu]
    exact (State.flag_setFld_apart _ rfl ..).trans ((State.flag_setFld_apart _ rfl ..).trans (State.flag_raise _ rfl rfl ..))
  have dom : u.fld F.RST_IDLE_LOG_DOMAIN = a.dom % 2 ^ F.RST_IDLE_LOG_DOMAIN.len := by
    rw [← hu]
    exact State.fld_setFld _ _ _ _ _ rfl
  rw [hu]
  have keep := fun {id : RegId} (hid : id ∈ [RegId.RST_EVT, .RST_IDLE_LOG]) =>
    u.log_assertAsked ha (by rwa [asserted]) hid 0 0
  exact ⟨(congrArg (· == 1) (State.fld_of_rd F.RST_EVT_IDLE_TIMEOUT (keep (by decide)))).trans evt,
    (State.fld_of_rd F.RST_IDLE_LOG_DOMAIN (keep (by decide))).trans dom⟩

/-! ## Release -/

/-- The last source that is asserted releases. -/
theorem State.srcRelease_last {p : Asserted → Bool} {a : Asserted} (h : s.asserted = [a]) (hp : p a = true)
    (hn : a.asking = false) : (s.srcRelease p).asserted = [] ∧ (s.srcRelease p).flag F.RST_EVT_RESET_DONE = true := by
  unfold State.srcRelease
  extract_lets gone t wide u v w x
  have gone_eq : gone = [a] := by simp [gone, h, hp]
  have ht : t.asserted = [] := by
    rw [show t.asserted = _ from (State.rstShow_upd _).asserted rfl]
    simp [h, hp]
  have hx : x.asserted = [] := by
    have hu : u.asserted = [] := State.when_holds t (fun u => u.asserted = []) _ _ ht fun h => by
      rw [(State.seqRun_upd t).asserted rfl, h]
    have hv : v.asserted = [] := by
      rw [show v.asserted = u.asserted from State.each_keeps _ State.asserted _ (fun b y => (State.domRise_upd ..).asserted rfl) _,
        hu]
    have hw : w.asserted = [] := by
      rw [show w.asserted = v.asserted from State.each_keeps _ State.asserted _ (fun b y => (State.pageRise_upd ..).asserted rfl) _,
        hv]
    rw [show x.asserted = _ from (State.evalAll_upd _).asserted rfl, hw]
  clear_value x
  rw [if_neg (by simp [gone_eq]), show (gone.any (fun a => !a.asking) && x.asserted.all fun a => a.asking) = true by
    simp [gone_eq, hn, hx]]
  exact ⟨(State.raise_asserted ..).trans hx, State.flag_raise _ rfl rfl ..⟩

theorem completes_resetRelease {src : Nat} {a : Asserted} (h : s.asserted = [a]) (hs : a.src = src) (hsrc : src ≠ 13)
    (hh : a.hold = false) (hn : a.asking = false) (ht : a.since + srcStays src ≤ s.us) :
    Completes (.resetRelease src) s fun t => t.asserted = [] ∧ t.flag F.RST_EVT_RESET_DONE = true := by
  refine Completes.of_exec rfl ?_
  rw [if_neg (by simp [hsrc])]
  extract_lets t u
  have htu : t.asserted = [a] ∧ t.us = s.us :=
    State.when_holds s (fun t => t.asserted = [a] ∧ t.us = s.us) _ _ ⟨h, rfl⟩ fun hp => hp
  obtain ⟨t1, t2⟩ := htu
  have hu : u.asserted = [a] ∧ u.us = s.us :=
    State.when_holds t (fun u => u.asserted = [a] ∧ u.us = s.us) _ _ ⟨t1, t2⟩ fun _ =>
      ⟨((State.lcBurn_upd t).asserted rfl).trans t1, ((State.lcBurn_upd t).us rfl).trans t2⟩
  obtain ⟨u1, u2⟩ := hu
  exact u.srcRelease_last u1 (by simp [hs, hh, hn, u2, ht]) hn

/-! ## Software resets -/

/-- A write of SW_CMD while its source is asserted is busy. -/
theorem State.swWrite_busy {v : W32} (hk : F.RST_SW_CMD_KIND.get v = 3) (hb : (s.asserted.any fun a => a.src == 11) = true) :
    s.swWrite v = s.raise F.RST_EVT_SW_BUSY := by
  rw [State.swWrite, hk]
  exact if_pos hb

theorem State.swWrite_wide {v : W32} {k src : Nat} (hk : F.RST_SW_CMD_KIND.get v = k) (hks : (k = 1 ∧ src = 6) ∨ (k = 2 ∧ src = 7))
    (hb : (s.asserted.any fun a => a.src == src) = false) :
    s.swWrite v = s.srcBegin src 0 0 (F.RST_SW_CMD_HOLD.get v == 1) := by
  rw [State.swWrite, hk]
  obtain ⟨rfl, rfl⟩ | ⟨rfl, rfl⟩ := hks
  · exact if_neg (by simpa [swSrc] using hb)
  · exact if_neg (by simpa [swSrc] using hb)

/-- A source of a narrow level asks a target that is ON for idle first. -/
theorem State.asserted_srcBegin_asks {src dom page l : Nat} (hold : Bool) (hl : s.srcLevel src = some l) (h3 : 3 ≤ l)
    (h1 : 1 ≤ dom) (h13 : dom ≤ 13) (hon : s.domOn dom = true) :
    (s.srcBegin src dom page hold).asserted = s.asserted ++ [⟨src, l, dom, page, hold, true, s.us⟩] := by
  unfold State.srcBegin
  rw [hl]
  dsimp only
  rw [if_pos (by simp [h3, State.targetOn, h1, h13, hon]), (State.evalAll_upd _).asserted rfl, decide_eq_true h3]

/-- Settles O22. -/
theorem resetCommandsComplete : Obligations.ResetCommandsComplete := by
  unfold Obligations.ResetCommandsComplete
  refine ⟨?fall, ?assert, ?idle, ?release, ?chip, ?core, ?domain, ?busy, ?block, ?swRelease, ?host⟩
  case fall =>
    intro s r hr hpg hon
    have he : exec (.pgFall r) s = .next (s.modPwr fun p => { p with pg := p.pg.filter (· != r) }) := by
      change execPgFall r s = _
      rw [execPgFall, if_neg hr, if_pos hpg, hon]
      rfl
    exact Completes.of_exec he rfl
  case assert =>
    intro s src dom page hp hn
    have none' : (s.asserted.find? fun a => a.asking && a.src == src && a.dom == dom && a.page == page) = none := by
      rw [List.find?_eq_none]
      intro a ha
      have := List.any_eq_false.mp hn a ha
      simp_all
    have he : exec (.resetAssert src dom page) s = .next (s.srcBegin src 0 0 false) := by
      change execResetAssert src dom page s = _
      rw [execResetAssert, none']
      dsimp only
      rw [hp, hn, Bool.not_false, Bool.and_self, if_pos rfl]
    refine Completes.of_exec he (s.cause_srcBegin ?_ false)
    have pins : ∀ x ∈ pinSources, causeBit x = true := by decide
    exact pins src (by simpa using hp)
  case idle => exact fun s src a hf ha hall => completes_idleTimeout s hf ha hall
  case release => exact fun s src a h hs hsrc hh hn ht => completes_resetRelease s h hs hsrc hh hn ht
  case chip =>
    intro s m v ha hk hb
    refine Completes.of_guardW ha rfl ?_
    rw [State.swWrite_wide _ hk (.inl ⟨rfl, rfl⟩) (by exact hb)]
    exact State.cause_srcBegin _ (by decide) _
  case core =>
    intro s m v ha hk hb
    refine Completes.of_guardW ha rfl ?_
    rw [State.swWrite_wide _ hk (.inr ⟨rfl, rfl⟩) (by exact hb)]
    exact State.cause_srcBegin _ (by decide) _
  case domain =>
    intro s m v d ha hk hb hl hd h1 h13 hon
    refine Completes.of_guardW ha rfl ?_
    rw [show (s.rewritten (R .RST_SW_CMD)).swWrite v =
      (s.rewritten (R .RST_SW_CMD)).srcBegin 11 d 0 (F.RST_SW_CMD_HOLD.get v == 1) by
        rw [State.swWrite, hk, hd]
        exact if_neg (by rw [show (swSrc 3) = 11 from rfl]; simpa using hb)]
    exact State.asserted_srcBegin_asks _ _ hl (by decide) h1 h13 hon
  case busy =>
    intro s m v ha hk hb
    refine Completes.of_guardW ha rfl ?_
    rw [State.swWrite_busy _ hk (by exact hb)]
    exact ⟨State.flag_raise _ rfl rfl .., State.raise_asserted ..⟩
  case block =>
    intro s m v d ha hk hb hl hd h1 h13 hon
    refine Completes.of_guardW ha rfl ?_
    rw [show (s.rewritten (R .RST_SW_CMD)).swWrite v = (s.rewritten (R .RST_SW_CMD)).srcBegin 12 d
        (F.RST_SW_CMD_PAGE.get v) (F.RST_SW_CMD_HOLD.get v == 1) by
      rw [State.swWrite, hk, hd]
      exact if_neg (by rw [show (swSrc 4) = 12 from rfl]; simpa using hb)]
    exact State.asserted_srcBegin_asks _ _ hl (by decide) h1 h13 hon
  case swRelease =>
    intro s m v a ha hk h hs hh hn
    refine Completes.of_guardW ha rfl ?_
    rw [State.swWrite, hk]
    exact State.srcRelease_last _ h (by simp [hs, hh, swSrc]) hn
  case host =>
    intro s v ha hg hb
    refine Completes.of_guardW ha rfl ?_
    rw [State.hostRstWrite, if_pos (by rw [hg]; simpa using hb)]
    exact State.cause_srcBegin _ (by decide) _

end Sys2Proof.Machine
end

section
/-! Image checks, the life cycle and the crystal (spec/15): O23. -/

namespace Sys2Proof.Machine

variable (s : State)

theorem State.fld_modBoot (g : Boot → Boot) (f : Fld) (i j : Nat) : (s.modBoot g).fld f i j = s.fld f i j := rfl

theorem State.fld_img (n : Nat) (f : Fld) (i j : Nat) : ({ s with img := n } : State).fld f i j = s.fld f i j := rfl

/-- The stage of the boot is kept apart from the codes of the copies. -/
theorem State.fld_copyCode {f : Fld} (ha : F.DEV_BOOT_STATUS_CODE_A.apart f = true)
    (hb : F.DEV_BOOT_STATUS_CODE_B.apart f = true) (b : Bool) (code : Nat) :
    (s.copyCode b code).fld f = s.fld f := by
  cases b
  · exact s.fld_setFld_apart ha ..
  · exact s.fld_setFld_apart hb ..

/-! ## An image that is applied -/

theorem State.domApplied_boot (d : Nat) (s : State) : (s.domApplied d).boot = s.boot :=
  (State.domApplied_upd d s).boot rfl

/-- The boot goes on without a change to the image or its version. -/
theorem State.bootGo_keeps : s.bootGo.boot.image = s.boot.image ∧
    s.bootGo.fld F.DEV_BOOT_STATUS_VERSION = s.fld F.DEV_BOOT_STATUS_VERSION := by
  unfold State.bootGo
  split
  · exact ⟨rfl, rfl⟩
  · extract_lets go t
    have ht : t.boot.image = s.boot.image ∧ t.fld F.DEV_BOOT_STATUS_VERSION = s.fld F.DEV_BOOT_STATUS_VERSION := by
      refine ⟨?_, ?_⟩
      · have kept := s.each_keeps State.boot State.domApplied (fun d x => x.domApplied_boot d) go
        rw [show t.boot.image = (s.each go State.domApplied).boot.image from rfl, kept]
      · exact (State.fld_modBoot _ _ _ 0 0).trans (s.each_keeps (fun t => t.fld F.DEV_BOOT_STATUS_VERSION) _
          (fun d x => (State.domApplied_upd d x).fld _ _ _ rfl) go)
    clear_value t
    obtain ⟨h1, h2⟩ := ht
    split
    · refine ⟨?_, ?_⟩
      · rw [State.setFld_boot, State.domApplied_boot, h1]
      · rw [State.fld_setFld_apart _ rfl, (State.domApplied_upd ..).fld _ _ _ rfl, h2]
    · exact ⟨h1, h2⟩

/-- An image that is applied is the one in force, with its version. -/
theorem State.bootApply_shows (l : List Byte) : (s.bootApply l).img = 2 ∧
    (s.bootApply l).boot.image = l.take (imageLen l) ∧
    (s.bootApply l).fld F.DEV_BOOT_STATUS_VERSION = half l 6 % 2 ^ F.DEV_BOOT_STATUS_VERSION.len := by
  unfold State.bootApply
  extract_lets doms t u
  have wake : ∀ (p : State → Prop), (∀ d x, p x → p (State.wakeBegin d x)) → p u →
      p (u.each doms fun d s => if s.domSt d == 0 || s.domSt d == 5 then s.wakeBegin d else s) := fun p hp hu => by
    refine State.each_holds _ p _ (fun d x hx => ?_) doms hu
    split
    · exact hp d x hx
    · exact hx
  have img : u.img = 2 := by rw [show u.img = _ from State.setFld_img .., show t.img = _ from State.setFld_img ..]; rfl
  have image : u.boot.image = l.take (imageLen l) := by
    rw [show u.boot = _ from State.setFld_boot .., show t.boot = _ from State.setFld_boot ..]; rfl
  have version : u.fld F.DEV_BOOT_STATUS_VERSION = half l 6 % 2 ^ F.DEV_BOOT_STATUS_VERSION.len := by
    rw [show u.fld _ = _ from State.fld_setFld_apart _ rfl ..]
    exact State.fld_setFld _ _ _ _ _ rfl
  clear_value u
  refine ⟨?_, ?_, ?_⟩
  · rw [(State.bootGo_upd _).img rfl]
    exact wake (fun x => x.img = 2) (fun d x hx => by rw [(State.wakeBegin_upd d x).img rfl, hx]) img
  · rw [(State.bootGo_keeps _).1]
    exact wake (fun x => x.boot.image = _) (fun d x hx => by rw [(State.wakeBegin_upd d x).boot rfl, hx]) image
  · rw [(State.bootGo_keeps _).2]
    exact wake (fun x => x.fld F.DEV_BOOT_STATUS_VERSION = _)
      (fun d x hx => by rw [(State.wakeBegin_upd d x).fld _ _ _ rfl, hx]) version

theorem exec_imageCheck {a b c d l : List Byte} (hl : l = a ++ b ++ c ++ d) (hdev : s.fuse.devId = 0)
    (hd : s.domOn 1 = true) (hr : s.inReset 1 0 = false) (hp : s.boot.pend = false)
    (hst : s.fld F.DEV_BOOT_STATUS_STAGE = 1) : exec (.imageCheck a b c d) s = .next (s.imageCheck l) := by
  subst hl
  exact congrArg Host.Outcome.next (if_pos (by simp [hdev, hd, hr, hp, hst]))

/-- An invalid first copy is followed by the other (R366). -/
theorem State.imageCheck_invalid {l : List Byte} (hst : s.fld F.DEV_BOOT_STATUS_STAGE = 1) (hn : s.imageCode l ≠ 1) :
    (s.imageCheck l).fld F.DEV_BOOT_STATUS_STAGE = 2 ∧
      (s.imageCheck l).flag F.DEV_BOOT_STATUS_COPY = !s.flag F.DEV_BOOT_STATUS_COPY := by
  unfold State.imageCheck
  extract_lets b n t
  have ht : t.fld F.DEV_BOOT_STATUS_STAGE = 1 := (s.fld_copyCode rfl rfl ..).trans hst
  rw [if_neg hn, if_pos (by rw [ht]; rfl)]
  exact ⟨(State.fld_setFlag_apart _ rfl ..).trans (State.fld_setFld_lt _ rfl (by decide) ..),
    State.flag_setFlag _ rfl rfl ..⟩

/-- A device that halts on a forwarded image keeps the image's code. -/
theorem State.imgBad_shows (t : State) : ({ t with img := 3 } : State).fld F.DEV_BOOT_STATUS_STAGE =
      t.fld F.DEV_BOOT_STATUS_STAGE ∧ ({ t with img := 3 } : State).img = 3 ∧
    ({ t with img := 3 } : State).fld F.DEV_BOOT_STATUS_CODE_A = t.fld F.DEV_BOOT_STATUS_CODE_A :=
  ⟨t.fld_img .., rfl, t.fld_img ..⟩

theorem exec_imgChecked_invalid {a b c : List Byte} (hdev : s.fuse.devId ≠ 0) (hi : s.img = 1)
    (hrx : s.imgRx = a ++ b ++ c) (hne : s.imgRx.isEmpty = false) (hd : s.domOn 1 = true) (hr : s.inReset 1 0 = false)
    (hn : s.imageCode s.imgRx ≠ 1) : exec (.imgChecked a b c) s = .next
      { (s.copyCode false (s.imageCode s.imgRx)).setFld F.DEV_BOOT_STATUS_STAGE 5 with img := 3 } := by
  change execImgChecked a b c s = _
  rw [execImgChecked, if_pos (by simp [hdev, hi, ← hrx, hne, hd, hr])]
  dsimp only
  rw [if_neg hn]

theorem completes_imgChecked_invalid {a b c : List Byte} (hdev : s.fuse.devId ≠ 0) (hi : s.img = 1)
    (hrx : s.imgRx = a ++ b ++ c) (hne : s.imgRx.isEmpty = false) (hd : s.domOn 1 = true) (hr : s.inReset 1 0 = false)
    (hn : s.imageCode s.imgRx ≠ 1) : Completes (.imgChecked a b c) s fun t =>
      t.fld F.DEV_BOOT_STATUS_STAGE = 5 ∧ t.img = 3 ∧ t.fld F.DEV_BOOT_STATUS_CODE_A = s.imageCode s.imgRx % 16 := by
  refine Completes.of_exec (exec_imgChecked_invalid s hdev hi hrx hne hd hr hn) ?_
  generalize s.imageCode s.imgRx = n
  have code : (s.copyCode false n).fld F.DEV_BOOT_STATUS_CODE_A = n % 16 := by
    rw [State.copyCode, if_neg Bool.false_ne_true]
    exact s.fld_setFld F.DEV_BOOT_STATUS_CODE_A n 0 0 rfl
  obtain ⟨h1, h2, h3⟩ := State.imgBad_shows ((s.copyCode false n).setFld F.DEV_BOOT_STATUS_STAGE 5)
  exact ⟨h1.trans (State.fld_setFld_lt _ rfl (by decide) ..), h2,
    h3.trans ((State.fld_setFld_apart _ rfl ..).trans code)⟩

/-! ## The life cycle -/

theorem State.lcRequest_accepted {key t : Nat} (h : s.lcCode key t = 0) :
    (s.lcRequest key t).lcMove = some t ∧ bitOf ((s.lcRequest key t).rd (R .RST_CAUSE)) 5 = true := by
  rw [State.lcRequest, if_pos h]
  exact ⟨(State.srcBegin_upd ..).lcMove rfl, State.cause_srcBegin _ (by decide) _⟩

/-- Settles O23. -/
theorem startUpCommandsComplete : Obligations.StartUpCommandsComplete := by
  unfold Obligations.StartUpCommandsComplete
  refine ⟨?invalid, ?valid, ?forwarded, ?move, ?key, ?ok, ?fail⟩
  case invalid =>
    exact fun s a b c d l hl hdev hd hr hp hst hn =>
      Completes.of_exec (exec_imageCheck s hl hdev hd hr hp hst) (s.imageCheck_invalid hst hn)
  case valid =>
    intro s a b c d l hl hdev hd hr hp hst hn
    refine Completes.of_exec (exec_imageCheck s hl hdev hd hr hp hst) ?_
    rw [State.imageCheck, if_pos hn]
    exact State.bootApply_shows _ l
  case forwarded =>
    exact fun s a b c hdev hi hrx hne hd hr hn => completes_imgChecked_invalid s hdev hi hrx hne hd hr hn
  case move =>
    intro s m v ha hc
    exact Completes.of_guardW ha rfl (State.lcRequest_accepted _ hc)
  case key =>
    intro s m v ha hk
    refine Completes.of_guardW ha rfl ?_
    have code : (s.rewritten (R .DEV_LC_CMD)).lcCode (F.DEV_LC_CMD_KEY.get v) (F.DEV_LC_CMD_TARGET.get v) = 4 :=
      if_pos hk
    rw [State.lcWrite, State.lcRequest, code, if_neg (by decide)]
    exact ⟨State.fld_setFld_lt _ rfl (by decide) .., State.setFld_lcMove ..⟩
  case ok =>
    exact fun s => Completes.of_exec rfl ⟨(State.flag_setFlag_apart _ rfl ..).trans (s.flag_setFlag rfl rfl true ..),
      State.flag_setFlag _ rfl rfl ..⟩
  case fail =>
    intro s hx
    refine Completes.of_exec rfl ?_
    rw [hx, if_neg Bool.false_ne_true]
    exact State.flag_raise _ rfl rfl ..

end Sys2Proof.Machine
end

section
/-! Calibration cycles, production calibration, records and the Tack Room (spec/16): O24. -/

namespace Sys2Proof.Machine

variable (s : State)

/-! ## Records of the Farrier -/

theorem State.fld_modCalCar (c : Nat) (g : CalCar → CalCar) (f : Fld) (i j : Nat) :
    (s.modCalCar c g).fld f i j = s.fld f i j := rfl

theorem State.calCar_modCalCar (c : Nat) (f : CalCar → CalCar) : (s.modCalCar c f).calCar c = f (s.calCar c) :=
  NTab.get_mod_same ..

theorem State.calCar_congr {s t : State} (h : t.cal = s.cal) (c : Nat) : t.calCar c = s.calCar c := by
  rw [State.calCar, h, State.calCar]

theorem State.calLane_congr {s t : State} (h : t.cal = s.cal) (c l : Nat) : t.calLane c l = s.calLane c l := by
  rw [State.calLane, State.calCar_congr h, State.calLane]

/-- A change of a lane keeps the values that the ramps head for. -/
theorem State.target_modCalLane (c l : Nat) (f : CalLane → CalLane) :
    ((s.modCalLane c l f).calCar c).target = (s.calCar c).target := by
  rw [State.modCalLane, State.calCar_modCalCar]

/-- A change of a carrier's values keeps its lanes. -/
theorem State.calLane_modCalCar {f : CalCar → CalCar} (h : ∀ k, (f k).lanes = k.lanes) (c l : Nat) :
    (s.modCalCar c f).calLane c l = s.calLane c l := by
  rw [State.calLane, State.calCar_modCalCar, h, State.calLane]

/-! ## Cycles of the slices -/

theorem State.cal_setFld (f : Fld) (n i j : Nat) : (s.setFld f n i j).cal = s.cal := State.setFld_cal ..

/-- The end of a cycle leaves no slice out of service and the targets as they are. -/
theorem State.cycleEnd_shows (c l n : Nat) : ((s.cycleEnd c l n).calLane c l).cur = none ∧
    ((s.cycleEnd c l n).calCar c).target = (s.calCar c).target := by
  unfold State.cycleEnd
  extract_lets t
  have cur : (t.calLane c l).cur = none := by
    rw [State.calLane_congr (State.cal_setFld ..), State.calLane_modCalLane]
  have target : (t.calCar c).target = (s.calCar c).target := by
    rw [State.calCar_congr (State.cal_setFld ..), State.target_modCalLane]
  clear_value t
  split
  · exact ⟨cur, target⟩
  · have cal : (t.wrN (R .CAL_PASS_CNT c l) (t.rdN (R .CAL_PASS_CNT c l) + 1)).cal = t.cal := State.wrN_cal ..
    rw [State.calLane_modCalLane, State.target_modCalLane, State.calLane_congr cal, State.calCar_congr cal]
    exact ⟨cur, target⟩

theorem completes_sliceCycle_spare {c l n : Nat} (hm : s.mgmtOn = true) (hc : s.carOn c = true) (hl : l < 4)
    (hb : s.flag F.CAL_CFG_BG_EN = true) (hu : s.underTest c = false) (hr : (s.calLane c l).retired.length < 2)
    (hcur : (s.calLane c l).cur = none) (hw : (s.calLane c l).want = none) (hd : s.rampDone c l = true)
    (hn : (s.calLane c l).slice = some n) (hs : (s.calLane c l).isSpare n = true) :
    Completes (.sliceCycle c l) s fun t => (t.calLane c l).cur = some n ∧
      t.fld F.CAX_RX_ILV_STATUS_SLICE c l = n % 128 := by
  have he : exec (.sliceCycle c l) s = .next (s.sliceOut c l n) := by
    change execSliceCycle c l s = _
    simp only [execSliceCycle, hm, hc, hl, hb, hu, hr, hcur, hw, hd, hn, hs, decide_true, Bool.not_false, Bool.and_self,
      Option.isNone_none, if_true]
  refine Completes.of_exec he ⟨?_, State.fld_setFld _ _ _ _ _ rfl⟩
  rw [State.sliceOut, State.calLane_congr (State.cal_setFld ..), State.calLane_modCalLane]

theorem completes_sliceCycle_swap {c l n : Nat} (hm : s.mgmtOn = true) (hc : s.carOn c = true) (hl : l < 4)
    (hb : s.flag F.CAL_CFG_BG_EN = true) (hu : s.underTest c = false) (hr : (s.calLane c l).retired.length < 2)
    (hcur : (s.calLane c l).cur = none) (hw : (s.calLane c l).want = none) (hd : s.rampDone c l = true)
    (hn : (s.calLane c l).slice = some n) (hs : (s.calLane c l).isSpare n = false) :
    Completes (.sliceCycle c l) s fun t => (t.calLane c l).want = some (n, true, s.us) ∧ (t.calLane c l).cur = none := by
  have he : exec (.sliceCycle c l) s = .next (s.swapAsk c l n true) := by
    change execSliceCycle c l s = _
    simp only [execSliceCycle, hm, hc, hl, hb, hu, hr, hcur, hw, hd, hn, hs, decide_true, Bool.not_false, Bool.and_self,
      Option.isNone_none, if_true, Bool.false_eq_true, if_false]
  refine Completes.of_exec he ?_
  rw [State.swapAsk, State.calLane_modCalLane]
  exact ⟨rfl, hcur⟩

/-- The target that an agreed result gives its slice (R373). -/
def State.agreed (c l n : Nat) (v : SliceVal) (s : State) : State :=
  (s.modCalCar c fun k => { k with target := k.target.set SliceVal.init (Machine.sliceKey l n) v }).modCalLane c l fun k =>
    { k with runs := k.runs.set 0 n 0 }

theorem State.agreed_shows (c l n : Nat) (v : SliceVal) :
    ((s.agreed c l n v).calCar c).target.get SliceVal.init (Machine.sliceKey l n) = v ∧
      (s.agreed c l n v).calLane c l = { s.calLane c l with runs := (s.calLane c l).runs.set 0 n 0 } := by
  refine ⟨?_, ?_⟩
  · rw [State.agreed, State.target_modCalLane, State.calCar_modCalCar]
    exact NTab.get_set_same ..
  · rw [State.agreed, State.calLane_modCalLane, State.calLane_modCalCar]
    exact fun _ => rfl

theorem exec_sliceResult_agree {c l n tap : Nat} {a b : SliceVal} (hm : s.mgmtOn = true) (hc : s.carOn c = true)
    (hl : l < 4) (hcur : (s.calLane c l).cur = some n) (hw : (s.calLane c l).want = none) (hab : sliceAgree a b = true)
    {t : State} (ht : s.agreed c l n { sliceMean a b with tap := tapsFor (s.timeBase tap) (sliceMean a b).tap } = t) :
    exec (.sliceResult c l (a, b) tap) s = .next (if (t.calLane c l).isSpare n || (t.calLane c l).retired.contains n
      then t.cycleEnd c l n else t.swapAsk c l n false) := by
  subst ht
  change execSliceResult c l (a, b) tap s = _
  simp only [execSliceResult, hm, hc, hl, hcur, hw, hab, decide_true, Bool.and_self, Bool.not_true, Bool.false_eq_true,
    if_false, if_true]
  rfl

theorem completes_sliceResult_agree {c l n tap : Nat} {a b : SliceVal} (hm : s.mgmtOn = true) (hc : s.carOn c = true)
    (hl : l < 4) (hcur : (s.calLane c l).cur = some n) (hw : (s.calLane c l).want = none) (hab : sliceAgree a b = true)
    (hs : (s.calLane c l).isSpare n = false) (hr : n ∉ (s.calLane c l).retired) :
    Completes (.sliceResult c l (a, b) tap) s fun t => (t.calCar c).target.get SliceVal.init (Machine.sliceKey l n) =
      { sliceMean a b with tap := tapsFor (s.timeBase tap) (sliceMean a b).tap } ∧
      (t.calLane c l).want = some (n, false, s.us) := by
  obtain ⟨v, hv⟩ : ∃ v, ({ sliceMean a b with tap := tapsFor (s.timeBase tap) (sliceMean a b).tap } : SliceVal) = v :=
    ⟨_, rfl⟩
  refine Completes.of_exec (exec_sliceResult_agree s hm hc hl hcur hw hab rfl) ?_
  rw [hv]
  obtain ⟨h1, h2⟩ := s.agreed_shows c l n v
  have stays : ((s.agreed c l n v).calLane c l).isSpare n = false ∧ n ∉ ((s.agreed c l n v).calLane c l).retired := by
    rw [h2]
    exact ⟨hs, hr⟩
  obtain ⟨hs', hr'⟩ := stays
  rw [if_neg (by simp [hs', hr'])]
  refine ⟨?_, ?_⟩
  · rw [State.swapAsk, State.target_modCalLane, h1]
  · rw [State.swapAsk, State.calLane_modCalLane]
    rfl

theorem completes_sliceResult_spare {c l n tap : Nat} {a b : SliceVal} (hm : s.mgmtOn = true) (hc : s.carOn c = true)
    (hl : l < 4) (hcur : (s.calLane c l).cur = some n) (hw : (s.calLane c l).want = none) (hab : sliceAgree a b = true)
    (hs : (s.calLane c l).isSpare n = true) :
    Completes (.sliceResult c l (a, b) tap) s fun t => (t.calCar c).target.get SliceVal.init (Machine.sliceKey l n) =
      { sliceMean a b with tap := tapsFor (s.timeBase tap) (sliceMean a b).tap } ∧ (t.calLane c l).cur = none := by
  obtain ⟨v, hv⟩ : ∃ v, ({ sliceMean a b with tap := tapsFor (s.timeBase tap) (sliceMean a b).tap } : SliceVal) = v :=
    ⟨_, rfl⟩
  refine Completes.of_exec (exec_sliceResult_agree s hm hc hl hcur hw hab rfl) ?_
  rw [hv]
  obtain ⟨h1, h2⟩ := s.agreed_shows c l n v
  have spare : ((s.agreed c l n v).calLane c l).isSpare n = true := by
    rw [h2]
    exact hs
  rw [if_pos (by rw [spare]; rfl)]
  obtain ⟨h3, h4⟩ := (s.agreed c l n v).cycleEnd_shows c l n
  exact ⟨by rw [h4, h1], h3⟩

theorem State.retire_shows (c l n : Nat) : ((s.retire c l n).calCar c).target = (s.calCar c).target := by
  unfold State.retire
  extract_lets t left u
  have hu : (u.calCar c).target = (s.calCar c).target := by
    rw [State.calCar_congr ((State.raise_cal ..).trans (State.setFld_cal ..))]
    exact s.target_modCalLane ..
  clear_value u
  exact State.when_holds u (fun v => (v.calCar c).target = (s.calCar c).target) _ _ hu fun h => by
    rwa [State.calCar_congr (State.raise_cal ..)]

/-- What a discarded result has left: its count, its event, and the targets as they were (R374). -/
structure State.Discarded (s : State) (c l : Nat) (t : State) : Prop where
  cnt : t.rdN (R .CAL_DISCARD_CNT c l) = min (s.rdN (R .CAL_DISCARD_CNT c l) + 1) 0xFFFFFFFF
  target : (t.calCar c).target = (s.calCar c).target
  event : t.flag F.CAL_EVT_DISCARD = true

theorem State.flag_discard (inst : Nat) : (s.discard inst).flag F.CAL_EVT_DISCARD = true :=
  ((State.logFree_upd ..).flag _ _ _ rfl).trans (State.flag_raise _ rfl rfl ..)

theorem State.Discarded.shows {s t : State} {c l : Nat} (h : s.Discarded c l t) :
    t.rdN (R .CAL_DISCARD_CNT c l) = min (s.rdN (R .CAL_DISCARD_CNT c l) + 1) 0xFFFFFFFF ∧
      (t.calCar c).target = (s.calCar c).target ∧ t.flag F.CAL_EVT_DISCARD = true := ⟨h.cnt, h.target, h.event⟩

theorem State.Discarded.keep {s t u : State} {c l : Nat} (h : s.Discarded c l t)
    (hc : u.rdN (R .CAL_DISCARD_CNT c l) = t.rdN (R .CAL_DISCARD_CNT c l))
    (ht : (u.calCar c).target = (t.calCar c).target) (he : u.flag F.CAL_EVT_DISCARD = t.flag F.CAL_EVT_DISCARD) :
    s.Discarded c l u := ⟨hc.trans h.cnt, ht.trans h.target, he.trans h.event⟩

theorem State.discarded_bump (c l : Nat) : s.Discarded c l ((s.bump (R .CAL_DISCARD_CNT c l)).discard c) := by
  refine ⟨?_, ?_, State.flag_discard ..⟩
  · exact ((State.discard_upd ..).rdN_of _ _ _ rfl).trans (s.rdN_bump _ rfl)
  · rw [State.calCar_congr ((State.discard_upd ..).cal rfl), State.calCar_congr (State.bump_cal ..)]

theorem exec_sliceResult_discard {c l n tap : Nat} {a b : SliceVal} (hm : s.mgmtOn = true) (hc : s.carOn c = true)
    (hl : l < 4) (hcur : (s.calLane c l).cur = some n) (hw : (s.calLane c l).want = none) (hab : sliceAgree a b = false)
    {t : State} (ht : (((s.bump (R .CAL_DISCARD_CNT c l)).discard c).modCalLane c l fun k =>
      { k with runs := k.runs.set 0 n (k.runs.get 0 n + 1) }) = t) {u : State}
    (hu : (t.when (3 ≤ (t.calLane c l).runs.get 0 n) fun s => s.retire c l n) = u) :
    exec (.sliceResult c l (a, b) tap) s = .next (if (u.calLane c l).isSpare n || (u.calLane c l).retired.contains n
      then u.cycleEnd c l n else u.swapAsk c l n false) := by
  subst hu ht
  change execSliceResult c l (a, b) tap s = _
  simp only [execSliceResult, hm, hc, hl, hcur, hw, hab, decide_true, Bool.and_self, Bool.not_true, Bool.false_eq_true,
    if_false]

theorem completes_sliceResult_discard {c l n tap : Nat} {a b : SliceVal} (hm : s.mgmtOn = true) (hc : s.carOn c = true)
    (hl : l < 4) (hcur : (s.calLane c l).cur = some n) (hw : (s.calLane c l).want = none)
    (hab : sliceAgree a b = false) : Completes (.sliceResult c l (a, b) tap) s fun t =>
      t.rdN (R .CAL_DISCARD_CNT c l) = min (s.rdN (R .CAL_DISCARD_CNT c l) + 1) 0xFFFFFFFF ∧
      (t.calCar c).target = (s.calCar c).target ∧ t.flag F.CAL_EVT_DISCARD = true := by
  refine Completes.of_exec (exec_sliceResult_discard s hm hc hl hcur hw hab rfl rfl) ?_
  have first := (s.discarded_bump c l)
  generalize (s.bump (R .CAL_DISCARD_CNT c l)).discard c = t at first ⊢
  obtain ⟨u, hu⟩ : ∃ u, (t.modCalLane c l fun k => { k with runs := k.runs.set 0 n (k.runs.get 0 n + 1) }) = u := ⟨_, rfl⟩
  have ran : s.Discarded c l u := hu ▸ first.keep rfl (t.target_modCalLane ..) rfl
  rw [hu]
  obtain ⟨v, hv⟩ : ∃ v, (u.when (3 ≤ (u.calLane c l).runs.get 0 n) fun s => s.retire c l n) = v := ⟨_, rfl⟩
  have retired : s.Discarded c l v := hv ▸ State.when_holds u (s.Discarded c l) _ _ ran fun h =>
    h.keep ((State.retire_upd ..).rdN_of _ _ _ rfl) (u.retire_shows ..) ((State.retire_upd ..).flag _ _ _ rfl)
  rw [hv]
  refine State.Discarded.shows (s := s) ?_
  split
  · exact retired.keep ((State.cycleEnd_upd ..).rdN_of _ _ _ rfl) (v.cycleEnd_shows ..).2
      ((State.cycleEnd_upd ..).flag _ _ _ rfl)
  · exact retired.keep rfl (v.target_modCalLane ..) rfl

/-! ## Ramps, skew and references -/

/-- A ramp's step of the slices of a list leaves the slices that are not in it. -/
theorem get_ramp_ne (l m : Nat) (g : NTab SliceVal) : ∀ (ns : List Nat) (t : NTab SliceVal), m ∉ ns →
    (ns.foldl (fun (t : NTab SliceVal) n => t.set SliceVal.init (sliceKey l n)
      (sliceStep (t.get SliceVal.init (sliceKey l n)) (g.get SliceVal.init (sliceKey l n)))) t).get SliceVal.init
      (sliceKey l m) = t.get SliceVal.init (sliceKey l m)
  | [], _, _ => rfl
  | n :: ns, t, h => by
    rw [List.foldl_cons, get_ramp_ne l m g ns _ fun hm => h (List.mem_cons_of_mem _ hm)]
    refine NTab.get_set_ne _ _ (fun he => h ?_) _
    rw [sliceKey, sliceKey] at he
    rw [show m = n by omega]
    exact List.mem_cons_self

theorem completes_sliceRamp {c l : Nat} (hm : s.mgmtOn = true) (hc : s.carOn c = true) (hl : l < 4)
    (hd : s.rampDone c l = false) : Completes (.sliceRamp c l) s fun t =>
      (t.calCar c).force.get SliceVal.init (sliceKey l 0) = sliceStep ((s.calCar c).force.get SliceVal.init (sliceKey l 0))
        ((s.calCar c).target.get SliceVal.init (sliceKey l 0)) ∧ (t.calCar c).dirty = true := by
  refine Completes.of_if rfl (by simp [hm, hc, hl, hd]) ?_
  rw [State.calCar_modCalCar]
  refine ⟨?_, rfl⟩
  dsimp only
  rw [List.range_succ_eq_map, List.foldl_cons, get_ramp_ne _ _ _ _ _ (by simp)]
  exact NTab.get_set_same ..

theorem State.fld_skewNew {f : Fld} (hc : F.CAX_TX_SKEW_CLAMPED.apart f = true)
    (hr : F.CAX_TX_SKEW_RAMPING.apart f = true) (he : F.CAX_TX_EVT_SKEW_CLAMP.apart f = true) (c l i j : Nat) :
    (s.skewNew c l).fld f i j = s.fld f i j := by
  have settle : ∀ t : State, (t.skewSettle c l).fld f i j = t.fld f i j := fun t => by
    unfold State.skewSettle
    extract_lets x st
    split
    · exact t.fld_setFlag_apart hr ..
    · exact State.fld_setFlag_apart _ hr ..
  unfold State.skewNew
  extract_lets out t
  rw [settle, t.fld_when_raise _ _ _ _ _ _ (t.fld_raise_apart he ..)]
  exact s.fld_setFlag_apart hc ..

theorem signed_unsigned_clamp (z : Int) : signed 10 (unsigned 10 (max (-512) (min 511 z))) = max (-512) (min 511 z) := by
  unfold signed unsigned
  split <;> omega

theorem State.calTerm_setTerm (c l : Nat) (z : Int) : (s.setTerm c l z).calTerm c l = max (-512) (min 511 z) := by
  have small : unsigned 10 (max (-512) (min 511 z)) < 2 ^ 10 := by unfold unsigned; omega
  rw [State.calTerm, State.setTerm, State.fld_skewNew _ rfl rfl rfl, State.fld_setFld_lt _ rfl small,
    signed_unsigned_clamp]

theorem completes_dacSkewCal_discard {c l : Nat} {a b : Int} (hm : s.mgmtOn = true) (hc : s.carOn c = true) (hl : l < 4)
    (hf : s.fillOrService c = true) (hab : 2 < (a - b).natAbs) : Completes (.dacSkewCal c l a b) s fun t =>
      t.rdN (R .CAL_DAC_DISCARD_CNT c) = min (s.rdN (R .CAL_DAC_DISCARD_CNT c) + 1) 0xFFFFFFFF ∧
      t.flag F.CAL_EVT_DISCARD = true := by
  refine Completes.of_if rfl (by simp [hm, hc, hl, hf]) ?_
  rw [if_neg (Nat.not_le.mpr hab)]
  extract_lets n
  obtain ⟨t, ht⟩ : ∃ t, (s.bump (R .CAL_DAC_DISCARD_CNT c)).discard c = t := ⟨_, rfl⟩
  have cnt : t.rdN (R .CAL_DAC_DISCARD_CNT c) = min (s.rdN (R .CAL_DAC_DISCARD_CNT c) + 1) 0xFFFFFFFF :=
    ht ▸ ((State.discard_upd ..).rdN_of _ _ _ rfl).trans (s.rdN_bump _ rfl)
  have evt : t.flag F.CAL_EVT_DISCARD = true := ht ▸ State.flag_discard ..
  rw [ht]
  refine State.when_holds _ (fun u => u.rdN (R .CAL_DAC_DISCARD_CNT c) = _ ∧ u.flag F.CAL_EVT_DISCARD = true) _ _
    ⟨cnt, evt⟩ fun ⟨h1, h2⟩ => ⟨?_, ?_⟩
  · rw [State.rdN, State.rd_setFld_name _ rfl, State.rd_raise_name _ rfl]
    exact h1
  · exact (State.flag_setFld_apart _ rfl ..).trans ((State.flag_raise_apart _ rfl ..).trans h2)

theorem completes_monRefRefresh {p : Nat} {x y : Int} {r : DevRec} (hm : s.mgmtOn = true) (ho : s.monOn = true)
    (hp : p < 2) (hr : s.devRec = some r) (hx : (x - r.refs.get 0 (2 * p)).natAbs ≤ 64)
    (hy : (y - r.refs.get 0 (2 * p + 1)).natAbs ≤ 64) (hxy : (x - y).natAbs ≤ s.chkTol)
    (hf : s.fld F.MON_STATUS_FAULT / 4 ^ p % 4 = 0) : Completes (.monRefRefresh p x y) s fun t =>
      t.cal.refs.get 0 (2 * p) = x ∧ t.cal.refs.get 0 (2 * p + 1) = y := by
  have he : exec (.monRefRefresh p x y) s = .next (s.modCal fun k => { k with
      refs := (k.refs.set 0 (2 * p) x).set 0 (2 * p + 1) y, refRun := k.refRun.set 0 p 0 }) := by
    change execMonRefRefresh p x y s = _
    simp only [execMonRefRefresh, hm, ho, hp, hr, hxy, hf, Option.isSome_some, decide_true, Bool.and_self, if_true,
      Option.map_some, Option.getD_some, hx, hy, Bool.not_true, Bool.false_eq_true, if_false, beq_self_eq_true]
  refine Completes.of_exec he ⟨?_, NTab.get_set_same 0 _ (2 * p + 1) y⟩
  exact (NTab.get_set_ne 0 _ (Nat.ne_of_lt (Nat.lt_succ_self _)) y).trans (NTab.get_set_same 0 _ (2 * p) x)

/-! ## Commands and records -/

theorem State.calCmdWrite_prod {v : W32} (hb : s.flag F.CAL_RESULT_BUSY = false) (hv : F.CAL_CMD_CMD.get v = 1) :
    s.calCmdWrite v = (s.setFld F.CAL_RESULT_CODE s.prodCode).setFlag F.CAL_RESULT_BUSY (s.prodCode == 0) := by
  simp only [State.calCmdWrite, hb, hv, Bool.false_eq_true, if_false]

theorem State.prodCode_rewritten (k : RegKey) : (s.rewritten k).prodCode = s.prodCode := rfl

theorem completes_prod {m : Master} {v : W32} (ha : s.accepts m (R .CAL_CMD) = true)
    (hb : s.flag F.CAL_RESULT_BUSY = false) (hv : F.CAL_CMD_CMD.get v = 1) (hc : s.prodCode < 16) :
    Completes (.prod m v) s fun t => t.flag F.CAL_RESULT_BUSY = (s.prodCode == 0) ∧
      t.fld F.CAL_RESULT_CODE = s.prodCode := by
  refine Completes.of_guardW ha rfl ?_
  rw [State.calCmdWrite_prod (s.rewritten (R .CAL_CMD)) hb hv, State.prodCode_rewritten]
  exact ⟨State.flag_setFlag _ rfl rfl .., (State.fld_setFlag_apart _ rfl ..).trans (State.fld_setFld_lt _ rfl hc ..)⟩

theorem State.storeLive_shows (c : Nat) (ok : Bool) : (s.storeLive c ok).calCar c = { s.calCar c with
    liveA := (storeIn CalRec.seq (s.calCar c).liveA (s.calCar c).liveB ok (s.calNow c)).1
    liveB := (storeIn CalRec.seq (s.calCar c).liveA (s.calCar c).liveB ok (s.calNow c)).2
    dirty := !ok
    storeAt := some s.us } := by
  unfold State.storeLive
  extract_lets x ab t
  have ht : t.calCar c = { s.calCar c with liveA := ab.1, liveB := ab.2, dirty := !ok, storeAt := some s.us } :=
    s.calCar_modCalCar c _
  clear_value t
  split
  · exact (State.calCar_congr (State.wr_cal ..) c).trans ht
  · exact (State.calCar_congr (State.raise_cal ..) c).trans ht

theorem State.storeLive_fails (c : Nat) : (s.storeLive c false).flag F.CAL_EVT_STORE_FAIL = true :=
  State.flag_raise _ rfl rfl ..

/-! ## The Tack Room -/

theorem exec_tackRoomWrite_on {m : Master} {off : Nat} (v : W32) (hc : s.canIssue m = true)
    (hd : s.denied m (trBus off) 1 = false) (hh : s.holdsBack m = false) (hb : s.blockOn 1 (trPage off) = true) :
    exec (.tackRoomWrite m off v) s = .next (s.tackWrite m (s.trAddr off) v) :=
  congrArg Host.Outcome.next ((s.issue_granted (w := some v) hc hd hh).trans (if_pos hb))

theorem exec_tackRoomRead_on {m : Master} {off : Nat} (e : TrEcc) (hc : s.canIssue m = true)
    (hd : s.denied m (trBus off) 0 = false) (hh : s.holdsBack m = false) (hb : s.blockOn 1 (trPage off) = true) :
    exec (.tackRoomRead m off e) s = .next (s.tackRead m (s.trAddr off) e) :=
  congrArg Host.Outcome.next ((s.issue_granted (w := none) hc hd hh).trans (if_pos hb))

theorem State.tackWrite_lo {m : Master} {a : Nat} (v : W32) (ha : s.tackAccepts m a = true) (hlo : a % 8 < 4) :
    s.tackWrite m a v = s.modCal fun k => { k with
      held := (masterCode m, a, v) :: k.held.filter fun e => !(e.1 == masterCode m && e.2.1 == a) } := by
  rw [State.tackWrite, ha, if_neg (by decide), if_pos hlo]

/-- The HI word of the user areas is written, with the LO word its master has written before it. -/
theorem State.tackWrite_hi {m : Master} {a : Nat} (v : W32) (ha : s.tackAccepts m a = true) (hhi : 4 ≤ a % 8)
    (hu : 0x1000 ≤ a) : (s.tackWrite m a v).tack =
      putBytes (match s.cal.held.find? fun e => e.1 == masterCode m && e.2.1 == a - 4 with
        | some e => putBytes s.tack (a - 4) (wordBytes e.2.2)
        | none => s.tack) a (wordBytes v) := by
  unfold State.tackWrite
  rw [ha, if_neg (by decide), if_neg (Nat.not_lt.mpr hhi)]
  dsimp only
  rw [if_neg (by simp [Nat.not_lt.mpr hu])]
  rfl

theorem State.tackRead_clean {m : Master} {a : Nat} (ha : 0x100000 ≤ a) :
    s.tackRead m a .clean = s.answer m (s.tackWord a) := by
  rw [State.tackRead]
  exact if_neg (by simp; omega)

/-! ## Production calibration -/

theorem exec_prodDone {v g : Bool} {x : ProdVals} (hm : s.mgmtOn = true) (hb : s.flag F.CAL_RESULT_BUSY = true) :
    exec (.prodDone v g x) s = .next ((((s.setFld F.CAL_RESULT_BUSY 0).setFld F.CAL_RESULT_CODE
      (if !v then 3 else if !g then 5 else 0)).raise F.CAL_EVT_PROD_DONE).when (v && g) (State.prodRecords x)) :=
  congrArg Host.Outcome.next (if_pos (by rw [hm, hb]; rfl))

/-- What a command has when its production calibration ends. -/
theorem State.prodEnd_shows {c : Nat} (hc : c < 16) :
    let t := ((s.setFld F.CAL_RESULT_BUSY 0).setFld F.CAL_RESULT_CODE c).raise F.CAL_EVT_PROD_DONE
    t.flag F.CAL_RESULT_BUSY = false ∧ t.fld F.CAL_RESULT_CODE = c ∧ t.flag F.CAL_EVT_PROD_DONE = true :=
  ⟨(State.flag_raise_apart _ rfl ..).trans ((State.flag_setFld_apart _ rfl ..).trans (s.flag_setFlag rfl rfl false ..)),
    (State.fld_raise_apart _ rfl ..).trans (State.fld_setFld_lt _ rfl hc ..), State.flag_raise _ rfl rfl ..⟩

theorem State.prodRecords_shows (x : ProdVals) : (s.prodRecords x).flag F.CAL_STATUS_PROD_VALID = true ∧
    (s.prodRecords x).cal.refs = listTab 0 4 x.refs ∧ (s.prodRecords x).cal.hostDly = listTab 0 32 x.hostDly := by
  unfold State.prodRecords
  extract_lets
  refine ⟨State.flag_setFlag _ rfl rfl true .., ?_, ?_⟩
  · rw [State.setFld_cal]
    rfl
  · rw [State.setFld_cal]
    rfl

/-- Settles O24. -/
theorem farrierCommandsComplete : Obligations.FarrierCommandsComplete := by
  unfold Obligations.FarrierCommandsComplete
  refine ⟨?spare, ?swap, ?agree, ?agreeSpare, ?discard, ?ramp, ?skew, ?skewDiscard, ?refs, ?prod, ?refused, ?store,
    ?live, ?liveFail, ?lost, ?lo, ?hi, ?denied, ?read, ?present, ?prodFail, ?prodDone⟩
  case spare =>
    exact fun s c l n hm hc hl hb hu hr hcur hw hd hn hs => completes_sliceCycle_spare s hm hc hl hb hu hr hcur hw hd hn hs
  case swap =>
    exact fun s c l n hm hc hl hb hu hr hcur hw hd hn hs => completes_sliceCycle_swap s hm hc hl hb hu hr hcur hw hd hn hs
  case agree =>
    exact fun s c l a b tap n hm hc hl hcur hw hab hs hr => completes_sliceResult_agree s hm hc hl hcur hw hab hs hr
  case agreeSpare =>
    exact fun s c l a b tap n hm hc hl hcur hw hab hs => completes_sliceResult_spare s hm hc hl hcur hw hab hs
  case discard =>
    exact fun s c l a b tap n hm hc hl hcur hw hab => completes_sliceResult_discard s hm hc hl hcur hw hab
  case ramp => exact fun s c l hm hc hl hd => completes_sliceRamp s hm hc hl hd
  case skew =>
    intro s c l a b hm hc hl hf hab
    refine Completes.of_if rfl (by simp [hm, hc, hl, hf]) ?_
    rw [if_pos hab, State.calCar_modCalCar, State.calTerm, State.fld_modCalCar]
    exact ⟨s.calTerm_setTerm c l _, rfl⟩
  case skewDiscard => exact fun s c l a b hm hc hl hf hab => completes_dacSkewCal_discard s hm hc hl hf hab
  case refs => exact fun s p x y r hm ho hp hr hx hy hxy hf => completes_monRefRefresh s hm ho hp hr hx hy hxy hf
  case prod =>
    intro s m v ha hb hv hc
    obtain ⟨t, he, h1, h2⟩ := completes_prod s ha hb hv (by rw [hc]; decide)
    rw [hc] at h1 h2
    exact ⟨t, he, h1, h2⟩
  case refused =>
    intro s m v ha hb hv hc h5
    obtain ⟨t, he, h1, h2⟩ := completes_prod s ha hb hv (Nat.lt_trans h5 (by decide))
    exact ⟨t, he, h1.trans (by simpa using hc), h2⟩
  case store =>
    intro s m v ha hb hv
    refine Completes.of_guardW ha rfl ?_
    rw [State.calCmdWrite, State.flag_rewritten, hb, if_neg Bool.false_ne_true, hv]
    exact ⟨(State.fld_raise_apart _ rfl ..).trans (State.fld_setFld_lt _ rfl (by decide) ..),
      State.flag_raise _ rfl rfl ..⟩
  case live =>
    intro s c hd hmay
    refine Completes.of_if rfl (by rw [hd, hmay]; rfl) ?_
    rw [State.storeLive_shows]
    exact ⟨rfl, rfl, rfl⟩
  case liveFail =>
    intro s c hd hmay
    refine Completes.of_if rfl (by rw [hd, hmay]; rfl) ⟨s.storeLive_fails c, ?_⟩
    rw [State.storeLive_shows]
    rfl
  case lost =>
    intro s hm hr
    exact Completes.of_if rfl (by rw [hm, hr]; rfl)
      ⟨(State.flag_raise_apart _ rfl ..).trans (s.flag_setFlag rfl rfl false ..), State.flag_raise _ rfl rfl ..⟩
  case lo =>
    intro s m off v hc hd hh hb ha hlo
    refine Completes.of_exec (exec_tackRoomWrite_on s v hc hd hh hb) ?_
    rw [State.tackWrite_lo s v ha hlo]
    exact ⟨rfl, List.find?_cons_of_pos (by simp)⟩
  case hi =>
    intro s m off v hc hd hh hb ha hhi hu hheld
    refine Completes.of_exec (exec_tackRoomWrite_on s v hc hd hh hb) ?_
    rw [State.tackWrite_hi s v ha hhi hu, hheld]
    rfl
  case denied =>
    intro s m off v hc hd hh hb ha
    refine Completes.of_exec (exec_tackRoomWrite_on s v hc hd hh hb) ?_
    rw [State.tackWrite, ha, if_pos (by rfl)]
    exact ⟨State.raise_tack .., State.flag_raise _ rfl rfl ..⟩
  case read =>
    intro s m off hc hd hh hb ha
    refine Completes.of_exec (exec_tackRoomRead_on s .clean hc hd hh hb) ?_
    rw [State.tackRead_clean s ha, State.answer_rdata]
  case present =>
    intro s fast hm
    exact Completes.of_if rfl hm ⟨(State.flag_setFlag_apart _ rfl ..).trans (s.flag_setFlag rfl rfl true ..),
      State.flag_setFlag _ rfl rfl ..⟩
  case prodFail =>
    intro s agree x hm hb
    exact Completes.of_exec (exec_prodDone s hm hb) (s.prodEnd_shows (c := 3) (by decide))
  case prodDone =>
    intro s x hm hb
    refine Completes.of_exec (exec_prodDone s hm hb) ?_
    obtain ⟨h1, h2, -⟩ := s.prodEnd_shows (c := 0) (by decide)
    have keep := State.prodRecords_upd x
      (((s.setFld F.CAL_RESULT_BUSY 0).setFld F.CAL_RESULT_CODE 0).raise F.CAL_EVT_PROD_DONE)
    obtain ⟨h3, h4, h5⟩ := State.prodRecords_shows
      (((s.setFld F.CAL_RESULT_BUSY 0).setFld F.CAL_RESULT_CODE 0).raise F.CAL_EVT_PROD_DONE) x
    exact ⟨(keep.flag _ _ _ rfl).trans h1, (keep.fld _ _ _ rfl).trans h2, h3, h4, h5⟩

end Sys2Proof.Machine
end

section
/-! In-field tests: admission, outcome, cancel, release and expiry (spec/16): O25. -/

namespace Sys2Proof.Machine

variable (s : State)

theorem State.bst_modBst (f : Bst → Bst) : (s.modBst f).bst = f s.bst := rfl

theorem State.bst_bstCode (c : Nat) : (s.bstCode c).bst = s.bst := (State.bstCode_upd c s).bst rfl

/-- A command's code is shown, with the event where it is refused. -/
theorem State.bstCode_shows {c : Nat} (h : c < 16) : (s.bstCode c).fld F.BST_RESULT_CODE = c ∧
    (c ≠ 0 → (s.bstCode c).flag F.BST_EVT_REFUSED = true) := by
  unfold State.bstCode
  have code : (s.setFld F.BST_RESULT_CODE c).fld F.BST_RESULT_CODE = c := s.fld_setFld_lt rfl h ..
  refine ⟨?_, fun hc => ?_⟩
  · exact ((State.fld_when_raise _ _ _ _ _ _ _ (State.fld_raise_apart _ rfl ..))).trans code
  · rw [show (c != 0) = true by simpa using hc]
    exact State.flag_raise _ rfl rfl ..

/-- A code keeps what apart from the result register and the refusal is shown. -/
theorem State.fld_bstCode {f : Fld} (hf : F.BST_RESULT_CODE.apart f = true) (he : F.BST_EVT_REFUSED.apart f = true)
    (c i j : Nat) : (s.bstCode c).fld f i j = s.fld f i j := by
  unfold State.bstCode
  rw [State.fld_when_raise _ _ _ _ _ _ _ (State.fld_raise_apart _ he ..)]
  exact s.fld_setFld_apart hf ..

theorem State.flag_bstCode {f : Fld} (hf : F.BST_RESULT_CODE.apart f = true) (he : F.BST_EVT_REFUSED.apart f = true)
    (c i j : Nat) : (s.bstCode c).flag f i j = s.flag f i j := congrArg (· == 1) (s.fld_bstCode hf he ..)

/-! ## Commands -/

/-- A device whose life cycle is BLANK runs no test (Table 16.13). -/
theorem State.bstCmdWrite_blank {v : W32} (hc : F.BST_CMD_CMD.get v = 1) (hl : s.fuse.lc = 0) :
    ∃ t : State, t.bst = s.bst ∧ s.bstCmdWrite v = t.bstCode 1 := by
  have code : ∀ t w, s.runCode t w = 1 := fun t w => if_pos (by rw [hl]; rfl)
  refine ⟨if decide (0x61 ≤ F.BST_CMD_TARGET.get v) && decide (F.BST_CMD_TARGET.get v ≤ 0x63) then s.useFree else s, ?_, ?_⟩
  · split <;> rfl
  · simp only [State.bstCmdWrite, hc, code, State.when, Nat.reduceBEq, Bool.false_eq_true, if_false]

theorem State.bstCmdWrite_cancel {v : W32} (hc : F.BST_CMD_CMD.get v = 3)
    (hq : (s.bst.queue.any fun x => x.target == F.BST_CMD_TARGET.get v) = true) : s.bstCmdWrite v =
      (((s.modBst fun b => { b with queue := b.queue.filter fun x => x.target != F.BST_CMD_TARGET.get v }).bstOutcome
        (F.BST_CMD_TARGET.get v) 6).raise F.BST_EVT_ABORTED).bstCode 0 := by
  simp only [State.bstCmdWrite, hc, hq, if_true]

theorem State.bstCmdWrite_release {v : W32} {x : BstTest} (hc : F.BST_CMD_CMD.get v = 4)
    (hx : s.bst.held.find? (fun y => y.target == F.BST_CMD_TARGET.get v) = some x) : s.bstCmdWrite v =
      (((s.modBst fun b => { b with held := b.held.filter fun y => y.target != F.BST_CMD_TARGET.get v }).setFld
        F.BST_RES_HELD 0 (F.BST_CMD_TARGET.get v)).testRestore x).bstCode 0 := by
  simp only [State.bstCmdWrite, hc, hx]

theorem State.bstCmdWrite_noHeld {v : W32} (hc : F.BST_CMD_CMD.get v = 4)
    (hx : s.bst.held.find? (fun y => y.target == F.BST_CMD_TARGET.get v) = none) : s.bstCmdWrite v = s.bstCode 8 := by
  simp only [State.bstCmdWrite, hc, hx]

theorem completes_bstRun_accepted {m : Master} {v : W32} (ha : s.accepts m (R .BST_CMD) = true)
    (hc : F.BST_CMD_CMD.get v = 1) (ht : F.BST_CMD_TARGET.get v = 2 ^ 6 + 16)
    (hr : s.runCode 80 (Config.freeBool s.free) = 0) : Completes (.bstRun m v) s fun t =>
      t.bst.queue = s.bst.queue ++ [⟨80, F.BST_CMD_HOLD_ON_FAIL.get v == 1, s.us, []⟩] ∧
      t.fld F.BST_RESULT_CODE = 0 := by
  have he : (s.rewritten (R .BST_CMD)).bstCmdWrite v = ((s.rewritten (R .BST_CMD)).modBst fun b => { b with
      queue := b.queue ++ [⟨80, F.BST_CMD_HOLD_ON_FAIL.get v == 1, s.us, []⟩] }).bstCode 0 := by
    have code : (s.rewritten (R .BST_CMD)).runCode 80 (Config.freeBool (s.rewritten (R .BST_CMD)).free) = 0 := hr
    simp only [State.bstCmdWrite, hc, ht, Nat.reducePow, Nat.reduceAdd, code]
    rfl
  refine Completes.of_guardW ha rfl ?_
  rw [he, State.bst_bstCode]
  exact ⟨rfl, (State.bstCode_shows _ (by decide)).1⟩

theorem completes_bstRun_blank {m : Master} {v : W32} (ha : s.accepts m (R .BST_CMD) = true)
    (hc : F.BST_CMD_CMD.get v = 1) (hl : s.fuse.lc = 0) : Completes (.bstRun m v) s fun t =>
      t.bst.queue = s.bst.queue ∧ t.fld F.BST_RESULT_CODE = 1 ∧ t.flag F.BST_EVT_REFUSED = true := by
  refine Completes.of_guardW ha rfl ?_
  obtain ⟨t, ht, he⟩ := (s.rewritten (R .BST_CMD)).bstCmdWrite_blank hc hl
  obtain ⟨h1, h2⟩ := t.bstCode_shows (c := 1) (by decide)
  rw [he]
  exact ⟨by rw [State.bst_bstCode, ht]; rfl, h1, h2 (by decide)⟩

theorem completes_bstFull {m : Master} {v : W32} (ha : s.accepts m (R .BST_CMD) = true)
    (hc : F.BST_CMD_CMD.get v = 2) (hl : s.fuse.lc = 1) (hf : s.bst.full = none) (hok : s.fullOk = true) :
    Completes (.bstFull m v) s fun t => t.bst.full = some s.fullOrder ∧ t.fld F.BST_RESULT_CODE = 0 := by
  have he : (s.rewritten (R .BST_CMD)).bstCmdWrite v =
      ((s.rewritten (R .BST_CMD)).modBst fun b => { b with full := some s.fullOrder }).bstCode 0 := by
    have h1 : (s.rewritten (R .BST_CMD)).fuse.lc = 1 := hl
    have h2 : (s.rewritten (R .BST_CMD)).bst.full = none := hf
    have h3 : (s.rewritten (R .BST_CMD)).fullOk = true := hok
    simp only [State.bstCmdWrite, hc, h1, h2, h3]
    rfl
  refine Completes.of_guardW ha rfl ?_
  rw [he, State.bst_bstCode]
  exact ⟨rfl, (State.bstCode_shows _ (by decide)).1⟩

theorem completes_bstCancel {m : Master} {v : W32} (ha : s.accepts m (R .BST_CMD) = true)
    (hc : F.BST_CMD_CMD.get v = 3) (hq : (s.bst.queue.any fun x => x.target == F.BST_CMD_TARGET.get v) = true) :
    Completes (.bstCancel m v) s fun t =>
      t.bst.queue = s.bst.queue.filter (fun x => x.target != F.BST_CMD_TARGET.get v) ∧
      t.fld F.BST_RES_OUTCOME (F.BST_CMD_TARGET.get v) = 6 ∧ t.flag F.BST_EVT_ABORTED = true := by
  refine Completes.of_guardW ha rfl ?_
  rw [State.bstCmdWrite_cancel (s.rewritten (R .BST_CMD)) hc hq, State.bst_bstCode, State.fld_bstCode _ rfl rfl, State.flag_bstCode _ rfl rfl]
  refine ⟨?_, ?_, State.flag_raise _ rfl rfl ..⟩
  · rw [State.raise_bst, State.bstOutcome, State.setFld_bst]
    rfl
  · exact (State.fld_raise_apart _ rfl ..).trans (State.fld_setFld_lt _ rfl (by decide) ..)

theorem completes_bstRelease {m : Master} {v : W32} {x : BstTest} (ha : s.accepts m (R .BST_CMD) = true)
    (hc : F.BST_CMD_CMD.get v = 4)
    (hx : s.bst.held.find? (fun y => y.target == F.BST_CMD_TARGET.get v) = some x) :
    Completes (.bstRelease m v) s fun t =>
      t.bst.held = s.bst.held.filter (fun y => y.target != F.BST_CMD_TARGET.get v) ∧ t.fld F.BST_RESULT_CODE = 0 := by
  refine Completes.of_guardW ha rfl ?_
  rw [State.bstCmdWrite_release (s.rewritten (R .BST_CMD)) hc hx]
  refine ⟨?_, (State.bstCode_shows _ (by decide)).1⟩
  rw [State.bst_bstCode, (State.testRestore_upd ..).bst rfl, State.setFld_bst]
  rfl

/-! ## Admission and outcome -/

theorem exec_testAdmit_full {t : Nat} {l : List Nat} (hm : s.mgmtOn = true) (hf : s.bst.full = some (t :: l))
    (hr : s.bst.running = []) (hd : s.domOn (bstDom t) = false) : exec .testAdmit s = .next
      (((s.modBst fun b => { b with full := some l }).bstOutcome t 6).raise F.BST_EVT_ABORTED) := by
  have off : (s.modBst fun b => { b with full := some l }).domOn (bstDom t) = false := hd
  change execTestAdmit s = _
  simp only [execTestAdmit, hm, hf, hr, List.isEmpty_nil, Bool.not_true, Bool.false_eq_true, if_false, off]

/-- A test of a cipher core has no pages to bring idle: it runs when it starts. -/
theorem State.testStart_core {x : BstTest} (h80 : 80 ≤ x.target) (h88 : x.target < 88) :
    (s.testStart x).bst = { s.bst with running := s.bst.running ++ [x] } := by
  have pages : bstPages x.target = [] := by
    unfold bstPages
    rw [if_neg (by omega), if_neg (by omega), if_neg (by omega), if_neg (by omega), if_pos h88]
  unfold State.testStart
  extract_lets t u v
  have hv : v.bst = { s.bst with running := s.bst.running ++ [x] } := by
    have hu : u.bst = { s.bst with running := s.bst.running ++ [x] } := by
      rw [show u = _ from if_neg (by simp; omega), State.setFld_bst]
      rfl
    rw [show v = u from if_neg (by simp; omega), hu]
  clear_value v
  split
  · next hl =>
    rw [(State.evalAll_upd _).bst rfl, State.srcBegin, hl]
    exact (State.wr_bst ..).trans hv
  · next l hl =>
    extract_lets p
    have hp : p = [] := by simp [p, t, pages]
    split
    · rw [hp]
      exact hv
    · rw [(State.evalAll_upd _).bst rfl]
      exact hv

theorem exec_testAdmit_queue {x : BstTest} (hm : s.mgmtOn = true) (hf : s.bst.full = none) (hq : s.bst.queue = [x])
    (h80 : 80 ≤ x.target) (hp : bstPower x.target ≤ s.headroom) (hd : s.domOn (bstDom x.target) = true)
    (hr : s.bst.running = []) (hh : s.bst.held = []) : exec .testAdmit s = .next
      ((s.modBst fun b => { b with queue := [] }).testStart x) := by
  have swap : s.noSwap x.target = true := by
    rw [State.noSwap, decide_eq_false (by omega)]
    rfl
  change execTestAdmit s = _
  simp only [execTestAdmit, hm, hf, hq, hp, hd, hr, hh, swap, Bool.not_true, Bool.false_eq_true, if_false, decide_true,
    List.any_nil, Bool.not_false, Bool.and_self, if_true]

theorem State.testReport_pass (t detail : Nat) : (s.testReport t .pass detail).fld F.BST_RES_OUTCOME t = 1 ∧
    (s.testReport t .pass detail).flag F.BST_EVT_DONE = true ∧ (s.testReport t .pass detail).bst = s.bst := by
  refine ⟨?_, ?_, (State.testReport_upd ..).bst rfl⟩
  · refine ((State.logFree_upd ..).fld _ _ _ rfl).trans ?_
    rw [if_pos rfl, State.fld_raise_apart _ rfl, State.bumpFld, State.fld_setFld_apart _ rfl, State.fld_setFld_apart _ rfl]
    exact s.fld_setFld_lt rfl (by decide) ..
  · refine ((State.logFree_upd ..).flag _ _ _ rfl).trans ?_
    rw [if_pos rfl]
    exact State.flag_raise _ rfl rfl ..

theorem completes_testDone_pass {k d : Nat} {x : BstTest} (hr : s.bst.running = [x]) (hx : x.target = k)
    (hf : s.bst.full = none) (hh : x.hold = false) (ha : s.testAsking k = false) (hi : s.coreIdle k = true) :
    Completes (.testDone k .pass d) s fun t => t.bst.running = [] ∧ t.fld F.BST_RES_OUTCOME k = 1 ∧
      t.flag F.BST_EVT_DONE = true := by
  obtain ⟨u, hu⟩ : ∃ u, ((s.modBst fun b => { b with running := b.running.filter fun y => y.target != k }).testRestore x)
    = u := ⟨_, rfl⟩
  have bst : u.bst = { s.bst with running := [] } := by
    rw [← hu, (State.testRestore_upd ..).bst rfl]
    change ({ s.bst with running := s.bst.running.filter fun y => y.target != k } : Bst) = _
    simp [hr, hx]
  obtain ⟨h1, h2, h3⟩ := u.testReport_pass k d
  have he : exec (.testDone k .pass d) s = .next (u.testReport k .pass d) := by
    change execTestDone k .pass d s = _
    have found : s.bst.running.find? (fun x => x.target == k) = some x := by
      rw [hr]
      exact List.find?_cons_of_pos (by simp [hx])
    simp only [execTestDone, ha, hi, found, Bool.not_true, Bool.or_self, Bool.false_eq_true, if_false, hh, Bool.false_and,
      hu, h3, bst, hf, reduceCtorEq, decide_false]
  exact Completes.of_exec he ⟨by rw [h3, bst], h1, h2⟩

/-- Settles O25. -/
theorem paddockCommandsComplete : Obligations.PaddockCommandsComplete := by
  unfold Obligations.PaddockCommandsComplete
  refine ⟨?run, ?blank, ?full, ?cancel, ?release, ?noHeld, ?off, ?admitted, ?done, ?expired⟩
  case run => exact fun s m v ha hc ht hr => completes_bstRun_accepted s ha hc ht hr
  case blank => exact fun s m v ha hc hl => completes_bstRun_blank s ha hc hl
  case full => exact fun s m v ha hc hl hf hok => completes_bstFull s ha hc hl hf hok
  case cancel => exact fun s m v ha hc hq => completes_bstCancel s ha hc hq
  case release => exact fun s m v x ha hc hx => completes_bstRelease s ha hc hx
  case noHeld =>
    intro s m v ha hc hx
    refine Completes.of_guardW ha rfl ?_
    rw [State.bstCmdWrite_noHeld (s.rewritten (R .BST_CMD)) hc hx]
    obtain ⟨h1, h2⟩ := (s.rewritten (R .BST_CMD)).bstCode_shows (c := 8) (by decide)
    exact ⟨h1, h2 (by decide)⟩
  case off =>
    intro s t0 l hm hf hr hd
    refine Completes.of_exec (exec_testAdmit_full s hm hf hr hd) ⟨?_, ?_, State.flag_raise _ rfl rfl ..⟩
    · rw [State.raise_bst, State.bstOutcome, State.setFld_bst]
      rfl
    · exact (State.fld_raise_apart _ rfl ..).trans (State.fld_setFld_lt _ rfl (by decide) ..)
  case admitted =>
    intro s x hm hf hq h80 h88 hp hd hr hh
    refine Completes.of_exec (exec_testAdmit_queue s hm hf hq h80 hp hd hr hh) ?_
    rw [State.testStart_core _ h80 h88, State.bst_modBst, hr]
    exact ⟨rfl, rfl⟩
  case done => exact fun s k x d hr hx hf hh ha hi => completes_testDone_pass s hr hx hf hh ha hi
  case expired =>
    intro s k hq hdue
    refine Completes.of_if rfl (by rw [hdue, Bool.and_true]; simpa using hq) ⟨?_, ?_, State.flag_raise _ rfl rfl ..⟩
    · rw [State.raise_bst, State.bstOutcome, State.setFld_bst]
      rfl
    · exact (State.fld_raise_apart _ rfl ..).trans (State.fld_setFld_lt _ rfl (by decide) ..)

end Sys2Proof.Machine
end

section
/-! The cores' watchdogs and protection regions (spec/17): O26. -/

namespace Sys2Proof.Machine

variable (s : State)

theorem State.coreWrite_own {m : Master} {k : RegKey} (ho : ownCore m k.i = true) (hi : s.inj 7 k.i = false)
    (f : State → State) : State.coreWrite m k f s = f s := by
  simp only [State.coreWrite, ho, hi, Bool.not_true, Bool.false_eq_true, if_false]

/-- A stall injection only takes a core's write away. -/
theorem State.coreWrite_keeps {α : Type} (p : State → α) {m : Master} {k : RegKey} (ho : ownCore m k.i = true)
    {f : State → State} (hf : p (f s) = p s) : p (State.coreWrite m k f s) = p s := by
  simp only [State.coreWrite, ho, Bool.not_true, Bool.false_eq_true, if_false]
  split
  · rfl
  · exact hf

theorem State.wdtTime_lt (c : Nat) : s.wdtTime c < 2 ^ 7 := by
  unfold State.wdtTime
  omega

theorem completes_wdtExpiry {c : Nat} (hr : s.wdtRuns c = true) (h0 : s.rdN (R .CORE_WDT_LEFT c) = 0) :
    Completes (.wdtExpiry c) s fun t => bitOf (t.rd (R .RST_CAUSE)) 8 = true := by
  refine Completes.of_if rfl (by rw [hr, h0]; rfl) ?_
  rw [(State.logFree_upd ..).rd_of _ _ _ rfl]
  exact State.cause_srcBegin _ (by decide) _

theorem completes_wdtKick {m : Master} {c : Nat} {v : W32} (ha : s.accepts m (R .CORE_WDT_KICK c) = true)
    (ho : ownCore m c = true) (hi : s.inj 7 c = false) :
    Completes (.wdtKick m c v) s fun t => t.rdN (R .CORE_WDT_LEFT c) = s.wdtTime c := by
  refine Completes.of_guardW ha rfl ?_
  rw [State.coreWrite_own (s.rewritten _) (k := R .CORE_WDT_KICK c) ho hi]
  exact State.rdN_wrN_low _ (w := 7) rfl (by decide) (s.wdtTime_lt c)

/-! ## Protection regions -/

/-- The first denial is recorded with its kind and its address. -/
theorem State.mpuFault_first {c kind : Nat} (addr : Nat) (hk : kind ≤ 2) (hv : s.flag F.CORE_MPU_FAULT_INFO_VALID c = false) :
    (s.mpuFault c addr kind).flag F.CORE_MPU_FAULT_INFO_VALID c = true ∧
    (s.mpuFault c addr kind).fld F.CORE_MPU_FAULT_INFO_KIND c = kind ∧
    (s.mpuFault c addr kind).rdN (R .CORE_MPU_FAULT c) = addr % 2 ^ 32 := by
  simp only [State.mpuFault, hv, Bool.false_eq_true, if_false]
  refine ⟨?_, ?_, ?_⟩
  · rw [(State.count_upd ..).flag _ _ _ rfl, (State.logFree_upd ..).flag _ _ _ rfl]
    refine (congrArg (· == 1) (State.fld_wrN_id _ rfl ..)).trans ?_
    refine (State.flag_setFld_apart _ rfl ..).trans ((State.flag_setFld_apart _ rfl ..).trans ?_)
    exact State.flag_setFlag _ rfl rfl true ..
  · rw [(State.count_upd ..).fld _ _ _ rfl, (State.logFree_upd ..).fld _ _ _ rfl]
    refine (State.fld_wrN_id _ rfl ..).trans ((State.fld_setFld_apart _ rfl ..).trans ?_)
    exact State.fld_setFld_lt _ rfl (show kind < 2 ^ 2 by omega) ..
  · rw [(State.count_upd ..).rdN_of _ _ _ rfl, (State.logFree_upd ..).rdN_of _ _ _ rfl]
    exact rdN_wrN _ _ _ rfl

/-- A later denial only counts. -/
theorem State.mpuFault_later {c : Nat} (addr kind : Nat) (hv : s.flag F.CORE_MPU_FAULT_INFO_VALID c = true) :
    (s.mpuFault c addr kind).rd (R .CORE_MPU_FAULT c) = s.rd (R .CORE_MPU_FAULT c) := by
  simp only [State.mpuFault, hv, if_true]
  rw [(State.count_upd ..).rd_of _ _ _ rfl, (State.logFree_upd ..).rd_of _ _ _ rfl]
  exact State.rd_setFld_name _ rfl ..

theorem State.mpuWrite_unlocked {c r : Nat} (v : W32) (hl : s.flag F.CORE_MPU_CFG_LOCK c r = false) :
    State.mpuWrite c r false v s = s.plainWrite (R .CORE_MPU_BASE c r) v := by
  simp only [State.mpuWrite, hl, Bool.false_eq_true, if_false]

theorem State.mpuWrite_locked {c r : Nat} (cfg : Bool) (v : W32) (hl : s.flag F.CORE_MPU_CFG_LOCK c r = true) :
    State.mpuWrite c r cfg v s = s.logFree 0x01F1 c false := if_pos hl

/-- Settles O26. -/
theorem coreCommandsComplete : Obligations.CoreCommandsComplete := by
  unfold Obligations.CoreCommandsComplete
  refine ⟨?expiry, ?kick, ?first, ?later, ?unlocked, ?locked⟩
  case expiry => exact fun s c hr h0 _ => completes_wdtExpiry s hr h0
  case kick => exact fun s m c v ha ho hi => completes_wdtKick s ha ho hi
  case first =>
    intro s c addr kind mach hm hc hk hd hv
    exact Completes.of_if rfl (by simp [hm, hc, hk, hd]) (s.mpuFault_first addr hk hv)
  case later =>
    intro s c addr kind mach hm hc hk hd hv
    exact Completes.of_if rfl (by simp [hm, hc, hk, hd]) (s.mpuFault_later addr kind hv)
  case unlocked =>
    intro s m c r v ha ho hi hl
    refine Completes.of_guardW ha rfl ?_
    rw [if_neg Bool.false_ne_true, State.coreWrite_own (s.rewritten _) (k := R .CORE_MPU_BASE c r) ho hi, State.mpuWrite_unlocked (s.rewritten _) v hl]
    exact State.rd_plainWrite_full _ rfl ..
  case locked =>
    intro s m c r v ha ho hl
    refine Completes.of_guardW ha rfl ?_
    refine (State.coreWrite_keeps (s.rewritten _) (fun t => t.rd (R .CORE_MPU_CFG c r)) ho ?_)
    rw [State.mpuWrite_locked (s.rewritten _) true v hl, (State.logFree_upd ..).rd_of _ _ _ rfl]

end Sys2Proof.Machine
end

section
/-! Letterbox commands accepted and their completion (spec/17): O27. -/

namespace Sys2Proof.Machine

variable (s : State)

/-- A record of the running command's number keeps the registers. -/
theorem State.fld_lbCmd (n : Nat) (f : Fld) (i j : Nat) : ({ s with lbCmd := n } : State).fld f i j = s.fld f i j := rfl

theorem lbOwner_lt (m : Master) : lbOwner m < 2 ^ F.LB_STATUS_OWNER.len := by
  cases m <;> simp [lbOwner, F.LB_STATUS_OWNER]

/-- An idle Letterbox takes the command of a master that may write it. -/
theorem State.lbCmdWrite_shows {m : Master} (v : W32) (hm : lbMay m = true) (hb : s.flag F.LB_STATUS_BUSY = false) :
    (s.lbCmdWrite m v).flag F.LB_STATUS_BUSY = true ∧ (s.lbCmdWrite m v).fld F.LB_STATUS_OWNER = lbOwner m ∧
      (s.lbCmdWrite m v).lbCmd = F.LB_CMD_CMD.get v := by
  simp only [State.lbCmdWrite, State.lbWrite, hm, hb, Bool.not_true, Bool.false_eq_true, if_false]
  refine ⟨?_, ?_, trivial⟩
  · rw [State.flag, State.fld_lbCmd]
    exact (State.flag_setFld_apart _ rfl ..).trans (State.flag_setFlag _ rfl rfl true ..)
  · rw [State.fld_lbCmd]
    exact State.fld_setFld_lt _ rfl (lbOwner_lt m) ..

/-- The seven commands of the Letterbox are accepted alike. -/
theorem completes_lbCmd {c : Instr} {m : Master} {v : W32}
    (he : exec c s = .next (s.guardW m (R .LB_CMD) v (State.lbCmdWrite m v)))
    (ha : s.accepts m (R .LB_CMD) = true) (hm : lbMay m = true) (hb : s.flag F.LB_STATUS_BUSY = false) :
    Completes c s fun t => t.flag F.LB_STATUS_BUSY = true ∧ t.fld F.LB_STATUS_OWNER = lbOwner m ∧
      t.lbCmd = F.LB_CMD_CMD.get v :=
  Completes.of_guardW ha he ((s.rewritten _).lbCmdWrite_shows v hm hb)

/-! ## Completion -/

theorem State.lbFinish_status (c : Nat) (rsp : List W32) : (s.lbFinish c rsp).flag F.LB_STATUS_BUSY = false ∧
    (s.lbFinish c rsp).flag F.LB_STATUS_DONE = true ∧
    (s.lbFinish c rsp).fld F.LB_STATUS_CODE = c % 2 ^ F.LB_STATUS_CODE.len := by
  unfold State.lbFinish
  refine ⟨?_, ?_, ?_⟩
  · refine (State.flag_setFld_apart _ rfl ..).trans ((State.flag_setFld_apart _ rfl ..).trans ?_)
    exact State.flag_setFlag _ rfl rfl false ..
  · exact (State.flag_setFld_apart _ rfl ..).trans (State.flag_setFlag _ rfl rfl true ..)
  · exact State.fld_setFld _ _ _ _ _ rfl

theorem State.lbFinish_response (c : Nat) (rsp : List W32) {k : Nat} (hk : k < 32) :
    (s.lbFinish c rsp).rd (R .LB_RSP k) = rsp.getD k 0 := by
  unfold State.lbFinish
  refine (State.rd_setFld_name _ rfl ..).trans ((State.rd_setFld_name _ rfl ..).trans
    ((State.rd_setFld_name _ rfl ..).trans ?_))
  refine (State.upto_at s (fun t => t.rd (R .LB_RSP k)) _ 32 k hk fun x t hx => t.rd_wr_i _ _ _ hx.symm).trans ?_
  exact (State.rd_wr_same ..).trans BitVec.and_allOnes

/-- A command that is not the last of an authorisation completes by its code and its response alone. -/
theorem exec_lbDone {e : LbEnd} (hm : s.mgmtOn = true) (hb : s.flag F.LB_STATUS_BUSY = true) (h7 : s.lbCmd ≠ 7) :
    ∃ t : State, ∃ rsp, t = s.when (s.lbCode e == 0) State.lbEffect ∧
      rsp = (if s.lbCode e = 0 then t.lbResponse e else []) ∧ exec (.lbDone e) s = .next (t.lbFinish (s.lbCode e) rsp) := by
  refine ⟨_, _, rfl, rfl, ?_⟩
  have cmd : (s.when (s.lbCode e == 0) State.lbEffect).lbCmd = s.lbCmd :=
    s.when_holds (fun t => t.lbCmd = s.lbCmd) _ _ rfl fun _ => (State.lbEffect_upd ..).lbCmd rfl
  change execLbDone e s = _
  have other : (s.lbCmd == 7) = false := beq_false_of_ne h7
  simp only [execLbDone, hm, hb, cmd, other, Bool.and_self, Bool.not_true, Bool.and_false, Bool.false_and,
    Bool.false_eq_true, if_false]

theorem completes_lbDone {e : LbEnd} (hm : s.mgmtOn = true) (hb : s.flag F.LB_STATUS_BUSY = true) (h7 : s.lbCmd ≠ 7) :
    Completes (.lbDone e) s fun t => t.flag F.LB_STATUS_BUSY = false ∧ t.flag F.LB_STATUS_DONE = true ∧
      t.fld F.LB_STATUS_CODE = s.lbCode e % 2 ^ F.LB_STATUS_CODE.len := by
  obtain ⟨t, rsp, _, _, he⟩ := exec_lbDone s hm hb h7 (e := e)
  exact Completes.of_exec he (t.lbFinish_status ..)

/-- INFO answers the version, the boot status and the life cycle. -/
theorem completes_lbDone_info {e : LbEnd} (hm : s.mgmtOn = true) (hb : s.flag F.LB_STATUS_BUSY = true) (h1 : s.lbCmd = 1) :
    Completes (.lbDone e) s fun t => t.rd (R .LB_RSP 0) = e.version ∧
      t.rd (R .LB_RSP 1) = s.rd (R .DEV_BOOT_STATUS) ∧ t.rd (R .LB_RSP 2) = s.lcWord := by
  obtain ⟨t, rsp, ht, hr, he⟩ := exec_lbDone s hm hb (by omega) (e := e)
  have code : s.lbCode e = 0 := by simp only [State.lbCode, h1]
  have effect : t = s := by
    rw [ht, code]
    change s.lbEffect = s
    simp only [State.lbEffect, h1]
  have words : rsp = [e.version, s.rd (R .DEV_BOOT_STATUS), s.lcWord] := by
    rw [hr, if_pos code, effect]
    simp only [State.lbResponse, h1]
  refine Completes.of_exec he ⟨?_, ?_, ?_⟩
  all_goals rw [State.lbFinish_response _ _ _ (by decide), words]
  all_goals rfl

/-- Settles O27. -/
theorem letterboxCommandsComplete : Obligations.LetterboxCommandsComplete := by
  unfold Obligations.LetterboxCommandsComplete
  refine ⟨?info, ?read, ?erase, ?prog, ?log, ?window, ?auth, ?done, ?answer⟩
  case info => exact fun s m v ha hm hb => completes_lbCmd s rfl ha hm hb
  case read => exact fun s m v ha hm hb => completes_lbCmd s rfl ha hm hb
  case erase => exact fun s m v ha hm hb => completes_lbCmd s rfl ha hm hb
  case prog => exact fun s m v ha hm hb => completes_lbCmd s rfl ha hm hb
  case log => exact fun s m v ha hm hb => completes_lbCmd s rfl ha hm hb
  case window => exact fun s m v ha hm hb => completes_lbCmd s rfl ha hm hb
  case auth => exact fun s m v ha hm hb => completes_lbCmd s rfl ha hm hb
  case done => exact fun s e hm hb h7 => completes_lbDone s hm hb h7
  case answer => exact fun s e hm hb h1 => completes_lbDone_info s hm hb h1

end Sys2Proof.Machine
end

section
/-! A snapshot of the counters (spec/17): O28 fails. CTR_HI is copied into the 16 bits that SNAP_HI has, and the
statement asks for all of CTR_HI in a state whose register file holds more bits than the register has. -/

namespace Sys2Proof.Machine

variable (s : State)

/-- A snapshot keeps of CTR_HI the 16 bits that SNAP_HI has. -/
theorem State.pmcSnap_hi {n : Nat} (hn : n < 32) : s.pmcSnap.rd (R .PMC_SNAP_HI n) = s.rd (R .PMC_CTR_HI n) &&& 0xFFFF := by
  refine State.upto_brings s (fun t : State => t.rd (R .PMC_SNAP_HI n) = s.rd (R .PMC_CTR_HI n) &&& 0xFFFF)
    (fun t : State => t.rd (R .PMC_CTR_HI n) = s.rd (R .PMC_CTR_HI n)) _ 32 n hn (fun x t _ hq => ?_) (fun t hq => ?_)
    (fun x t hx hp => ?_) rfl
  · exact ((State.rd_wr_name _ rfl ..).trans (State.rd_wr_name _ rfl ..)).trans hq
  · exact (State.rd_wr_same ..).trans (congrArg (· &&& 0xFFFF) hq)
  · exact ((State.rd_wr_i _ _ _ _ hx.symm).trans (State.rd_wr_name _ rfl ..)).trans hp

/-- The 48-bit counter 0 with a bit above them in the register file, every domain ON. -/
def wideCounter : State :=
  { Tests.onState with regs := (R .PMC_CTR_HI 0, 0x10000) :: Tests.onState.regs }

/-- Refutes O28: SNAP copies of CTR_HI 0 = 0x10000 the low 16 bits, which are 0. -/
theorem not_counterCommandsComplete : ¬ Obligations.CounterCommandsComplete := by
  unfold Obligations.CounterCommandsComplete
  rintro ⟨_, _, snap, _⟩
  have ha : wideCounter.accepts (.core 0) (R .PMC_CFG) = true := by decide +kernel
  obtain ⟨t, ht, _, hi⟩ := snap wideCounter (.core 0) (F.PMC_CFG_SNAP.put 1 0) 0 ha (by decide) (by decide)
  have he : exec (.snap (.core 0) (F.PMC_CFG_SNAP.put 1 0)) wideCounter =
      .next (((wideCounter.rewritten (R .PMC_CFG)).plainWrite (R .PMC_CFG) (F.PMC_CFG_SNAP.put 1 0)).pmcSnap) := by
    change Host.Outcome.next (wideCounter.guardW _ _ _ _) = _
    rw [State.guardW_accepts ha]
    rfl
  obtain rfl : _ = t := Host.Outcome.next.inj (he.symm.trans ht)
  rw [State.pmcSnap_hi _ (by decide), State.rd_plainWrite_name _ rfl] at hi
  exact absurd hi (by decide +kernel)

end Sys2Proof.Machine
end

section
/-! Faults, configuration parity, the test window and injection (spec/17): O29. -/

namespace Sys2Proof.Machine

variable (s : State)

/-! ## Faults -/

theorem completes_pllLost {k : Nat} (hk : k < 16) (ho : s.domOn k = true) (hp : s.plls.contains k = false) :
    Completes (.faultDetected 0 k) s fun t => t.plls = s.plls ++ [k] ∧
      t.rdN (R .SAF_FAULT_CNT 0) = min (s.rdN (R .SAF_FAULT_CNT 0) + 1) 0xFFFFFFFF := by
  have he : exec (.faultDetected 0 k) s = .next ({ s with plls := s.plls ++ [k] }.detect 0) := by
    change execFaultDetected 0 k s = _
    simp only [execFaultDetected, hk, State.pllLost, ho, hp, Bool.not_false, Bool.and_self, if_true]
  exact Completes.of_exec he ⟨(State.detect_upd ..).plls rfl, State.faultCnt_detect ..⟩

theorem completes_faultDetected {f k : Nat} (h6 : 6 ≤ f) (h8 : f ≤ 8) : Completes (.faultDetected f k) s fun t =>
    t.rdN (R .SAF_FAULT_CNT f) = min (s.rdN (R .SAF_FAULT_CNT f) + 1) 0xFFFFFFFF := by
  have he : exec (.faultDetected f k) s = .next (s.detect f).qlEval := by
    obtain rfl | rfl | rfl : f = 6 ∨ f = 7 ∨ f = 8 := by omega
    · rfl
    · rfl
    · rfl
  exact Completes.of_exec he (((State.qlEval_upd ..).rdN_of _ _ _ rfl).trans (s.faultCnt_detect f))

/-! ## Configuration integrity -/

/-- An upset register is recorded first in the list of mismatches. -/
theorem State.cfgBad_upset (k : RegKey) (v : W32) : (s.upset k v).cfgBad = k :: s.cfgBad.filter (· != k) := by
  have shown : ∀ t : State, (t.upsetShow k).cfgBad = t.cfgBad := fun t => (State.upsetShow_upd ..).cfgBad rfl
  unfold State.upset
  rw [(State.evalAll_upd ..).cfgBad rfl, (State.detect_upd ..).cfgBad rfl, (State.cfgErr_upd ..).cfgBad rfl]
  change k :: List.filter (· != k) ((State.upsetShow k _).cfgBad) = _
  rw [shown, State.wr_cfgBad]

theorem completes_cfgParityErr {addr : Nat} {v : W32} {k : RegKey} (hk : regAt addr = some k) (hc : s.checked k = true)
    (hv : s.rd k &&& k.id.info.rw ≠ v &&& k.id.info.rw) :
    Completes (.cfgParityErr addr v) s fun t => t.cfgBad = k :: s.cfgBad.filter (· != k) := by
  have he : exec (.cfgParityErr addr v) s = .next (s.upset k v) := by
    change execCfgParityErr addr v s = _
    simp only [execCfgParityErr, hk, hc, bne_iff_ne.2 hv, Bool.and_self, if_true]
  exact Completes.of_exec he (s.cfgBad_upset k v)

theorem completes_cfgScan {addr : Nat} {k : RegKey} (hk : regAt addr = some k) (hc : s.checked k = true)
    (hb : s.cfgBad.contains k = false) :
    Completes (.cfgScan [addr]) s fun t => t.cfgBad = k :: s.cfgBad.filter (· != k) := by
  have he : exec (.cfgScan [addr]) s = .next (s.useFree.upset k (Config.freeWord s.free)) := by
    change execCfgScan [addr] s = _
    simp only [execCfgScan, State.each, hk, hc, hb, Bool.not_false, Bool.and_self, if_true]
  exact Completes.of_exec he (s.useFree.cfgBad_upset k _)

/-! ## The injection slots keep what a write gave them -/

section Kept

variable {f : Fld} (hr : f.reg = .SAF_INJ_CFG) (ha : F.SAF_INJ_CFG_ACTIVE.apart f = true)

include hr ha

/-- A slot's start changes of its configuration ACTIVE alone. -/
theorem State.fld_injStart (k i j : Nat) : (s.injStart k).fld f i j = s.fld f i j := by
  unfold State.injStart
  extract_lets t u
  have hu : u.fld f i j = s.fld f i j := s.fld_setFld_apart ha ..
  clear_value u
  refine Eq.trans ?_ hu
  split
  · split
    · exact (State.pllLost_upd ..).fld f i j (by rw [hr]; rfl)
    · split
      · exact (State.clkFault_upd ..).fld f i j (by rw [hr]; rfl)
      · exact (State.adcClkFault_upd ..).fld f i j (by rw [hr]; rfl)
  · exact (State.candLost_upd ..).fld f i j (by rw [hr]; rfl)
  · rfl
  · exact ((State.detect_upd ..).fld f i j (by rw [hr]; rfl)).trans ((State.cfgErr_upd ..).fld f i j (by rw [hr]; rfl))
  · split
    · rfl
    · rfl
  · rfl
  · exact (State.holds_upd ..).fld f i j (by rw [hr]; rfl)
  · exact (State.xoffFlow_upd ..).fld f i j (by rw [hr]; rfl)
  · rfl

/-- A slot's end changes of its configuration ACTIVE alone. -/
theorem State.fld_injStop (k i j : Nat) : (s.injStop k).fld f i j = s.fld f i j := by
  unfold State.injStop
  extract_lets code t was u v w x
  have hu : u.fld f i j = s.fld f i j := s.fld_setFld_apart ha ..
  have hv : v.fld f i j = u.fld f i j := u.when_holds (fun x => x.fld f i j = u.fld f i j) _ _ rfl fun _ => rfl
  have hw : w.fld f i j = v.fld f i j := v.when_holds (fun x => x.fld f i j = v.fld f i j) _ _ rfl fun _ =>
    (State.xoffFlow_upd ..).fld f i j (by rw [hr]; rfl)
  have hx : x.fld f i j = w.fld f i j := w.upto_keeps (fun x => x.fld f i j) _ _ fun n y _ =>
    y.when_holds (fun x => x.fld f i j = y.fld f i j) _ _ rfl fun _ =>
      (State.failOvers_upd ..).fld f i j (by rw [hr]; rfl)
  rw [(State.qlEval_upd ..).fld f i j (by rw [hr]; rfl), (State.ppsEval_upd ..).fld f i j (by rw [hr]; rfl),
    (State.holds_upd ..).fld f i j (by rw [hr]; rfl), hx, hw, hv, hu]

/-- Bringing the slots up to date changes of their configuration ACTIVE alone. -/
theorem State.fld_injEval (i j : Nat) : s.injEval.fld f i j = s.fld f i j := by
  refine s.upto_keeps (fun x => x.fld f i j) _ _ fun k t _ => ?_
  change State.fld (if _ then _ else _) f i j = _
  split
  · exact t.fld_injStart hr ha ..
  · split
    · exact t.fld_injStop hr ha ..
    · rfl

end Kept

/-! ## The test window -/

/-- A shut window is closed, and shutting an open one is reported. -/
theorem State.winShut_shows : s.winShut.flag F.SAF_WIN_STATUS_OPEN = false ∧ s.winShut.winEnd = 0 ∧
    (s.flag F.SAF_WIN_STATUS_OPEN = true → s.winShut.flag F.SAF_EVT_WIN_CLOSED = true) := by
  unfold State.winShut
  extract_lets t
  have keep : ∀ f : Fld, F.SAF_INJ_CFG_EN.apart f = true →
      (t.upto 8 fun k u => u.setFld F.SAF_INJ_CFG_EN 0 k).fld f 0 0 = t.fld f 0 0 := fun f hf =>
    t.upto_keeps (fun u => u.fld f 0 0) _ _ fun k u _ => u.fld_setFld_apart hf ..
  have gone : ∀ u : State, u = { s with winEnd := 0 } → u.flag F.SAF_WIN_STATUS_OPEN = s.flag F.SAF_WIN_STATUS_OPEN :=
    fun u hu => by rw [hu]; rfl
  refine ⟨?_, ?_, fun ho => ?_⟩
  · rw [(State.injEval_upd ..).flag _ _ _ rfl, State.flag, keep _ rfl]
    change t.flag F.SAF_WIN_STATUS_OPEN = false
    cases ho : s.flag F.SAF_WIN_STATUS_OPEN
    · rw [show t = { s with winEnd := 0 } by simp only [t, ho, State.when_false]]
      exact (gone _ rfl).trans ho
    · rw [show t = _ by simp only [t, ho, State.when_true]; rfl]
      exact (State.flag_raise_apart _ rfl ..).trans (State.flag_setFlag _ rfl rfl false ..)
  · rw [(State.injEval_upd ..).winEnd rfl]
    refine (t.upto_keeps (fun u => u.winEnd) _ _ fun k u _ => State.setFld_winEnd ..).trans ?_
    exact State.when_holds _ (fun u => u.winEnd = 0) _ _ rfl fun _ => rfl
  · rw [(State.injEval_upd ..).flag _ _ _ rfl, State.flag, keep _ rfl]
    change t.flag F.SAF_EVT_WIN_CLOSED = true
    rw [show t = _ by simp only [t, ho, State.when_true]; rfl]
    exact State.flag_raise _ rfl rfl ..

/-- A window opens for a time between a second and an hour. -/
theorem State.winOpen_shows (n : Nat) : (s.winOpen n).flag F.SAF_WIN_STATUS_OPEN = true ∧
    (s.winOpen n).winEnd = s.us + 1000000 * max 1 (min 3600 n) := by
  unfold State.winOpen
  refine ⟨?_, (State.injEval_upd ..).winEnd rfl⟩
  rw [(State.injEval_upd ..).flag _ _ _ rfl]
  exact State.flag_setFlag _ rfl rfl true ..

/-- A write of WIN_CTRL that is let through, before it opens or closes the window. -/
def State.winWritten (v : W32) : State := ((s.plainWrite (R .SAF_WIN_CTRL) v).ppsEval).qlEval

theorem State.us_winWritten (v : W32) : (s.winWritten v).us = s.us :=
  ((State.qlEval_upd ..).us rfl).trans (((State.ppsEval_upd ..).us rfl).trans rfl)

theorem State.winCtrlWrite_denied {m : Master} (v : W32) (hm : s.winMay m = false) :
    s.winCtrlWrite m v = s.raise F.SAF_EVT_WIN_DENIED := by
  simp only [State.winCtrlWrite, hm, Bool.not_false, if_true]

theorem State.winCtrlWrite_close {m : Master} {v : W32} (hm : s.winMay m = true) (hc : F.SAF_WIN_CTRL_CLOSE.get v = 1) :
    s.winCtrlWrite m v = (s.winWritten v).winShut := by
  simp only [State.winCtrlWrite, hm, hc, Bool.not_true, Bool.false_eq_true, if_false, beq_self_eq_true, if_true,
    State.winWritten]

theorem State.winCtrlWrite_open {m : Master} {v : W32} (hm : s.winMay m = true) (hc : F.SAF_WIN_CTRL_CLOSE.get v = 0)
    (ho : F.SAF_WIN_CTRL_OPEN.get v = 1) : s.winCtrlWrite m v = (s.winWritten v).winOpen (F.SAF_WIN_CTRL_LEN.get v) := by
  simp only [State.winCtrlWrite, hm, hc, ho, Bool.not_true, Bool.false_eq_true, if_false, beq_self_eq_true, if_true,
    State.winWritten, Nat.reduceBEq]

/-! ## Injection -/

theorem State.injWrite_denied {m : Master} (k : Nat) (v : W32) (hm : s.winMay m = false) :
    s.injWrite m k v = s.raise F.SAF_EVT_WIN_DENIED := by
  simp only [State.injWrite, hm, Bool.not_false, if_true]

/-- A slot's write starts its time and takes the code. -/
theorem State.injWrite_shows {m : Master} (k : Nat) (v : W32) (hm : s.winMay m = true) :
    (s.injWrite m k v).injAt.get 0 k = s.us + 1 ∧
      (s.injWrite m k v).fld F.SAF_INJ_CFG_CODE k = F.SAF_INJ_CFG_CODE.get v := by
  simp only [State.injWrite, hm, Bool.not_true, Bool.false_eq_true, if_false]
  obtain ⟨t, ht⟩ : ∃ t, (s.setFld F.SAF_INJ_CFG_EN 0 k).injEval = t := ⟨_, rfl⟩
  have us : t.us = s.us := by rw [← ht, (State.injEval_upd ..).us rfl]; rfl
  have marked : ∀ (u : State) x i j g, ({ u with injAt := x } : State).fld g i j = u.fld g i j := fun _ _ _ _ _ => rfl
  rw [ht]
  refine ⟨?_, ?_⟩
  · rw [(State.injEval_upd ..).injAt rfl]
    exact (NTab.get_set_same 0 t.injAt k (t.us + 1)).trans (by rw [us])
  · rw [State.fld_injEval _ rfl rfl, marked]
    exact t.fld_plainWrite_rw rfl ..

theorem completes_injEnd {k : Nat} (hk : k < 8) (hen : s.flag F.SAF_INJ_CFG_EN k = true)
    (hd : s.rdN (R .SAF_INJ_DUR k) ≠ 0) (ht : s.injAt.get 0 k + s.rdN (R .SAF_INJ_DUR k) ≤ s.us + 1) :
    Completes (.injEnd k) s fun t => t.flag F.SAF_INJ_CFG_EN k = false ∧ t.flag F.SAF_EVT_INJ_END = true := by
  refine Completes.of_if rfl (by simp [hk, hen, hd, ht]) ⟨?_, ?_⟩
  · rw [State.flag, State.fld_injEval _ rfl rfl]
    exact (State.flag_raise_apart _ rfl ..).trans (State.flag_setFlag _ rfl rfl false ..)
  · rw [(State.injEval_upd ..).flag _ _ _ rfl]
    exact State.flag_raise _ rfl rfl ..

/-- Settles O29. -/
theorem safetyCommandsComplete : Obligations.SafetyCommandsComplete := by
  unfold Obligations.SafetyCommandsComplete
  refine ⟨?pll, ?fault, ?parity, ?scan, ?opens, ?denied, ?close, ?expiry, ?inj, ?injDenied, ?injEnd⟩
  case pll => exact fun s k hk ho hp => completes_pllLost s hk ho hp
  case fault => exact fun s f k h6 h8 => completes_faultDetected s h6 h8
  case parity => exact fun s addr v k hk hc hv => completes_cfgParityErr s hk hc hv
  case scan => exact fun s addr k hk hc hb => completes_cfgScan s hk hc hb
  case opens =>
    intro s m v ha hm hc ho
    refine Completes.of_guardW ha rfl ?_
    rw [State.winCtrlWrite_open (s.rewritten _) hm hc ho]
    obtain ⟨h1, h2⟩ := ((s.rewritten (R .SAF_WIN_CTRL)).winWritten v).winOpen_shows (F.SAF_WIN_CTRL_LEN.get v)
    exact ⟨h1, h2.trans (by rw [State.us_winWritten]; rfl)⟩
  case denied =>
    intro s m v ha hm
    refine Completes.of_guardW ha rfl ?_
    rw [State.winCtrlWrite_denied (s.rewritten _) v hm]
    exact ⟨State.flag_raise _ rfl rfl .., rfl⟩
  case close =>
    intro s m v ha hm hc
    refine Completes.of_guardW ha rfl ?_
    rw [State.winCtrlWrite_close (s.rewritten _) hm hc]
    obtain ⟨h1, h2, _⟩ := ((s.rewritten (R .SAF_WIN_CTRL)).winWritten v).winShut_shows
    exact ⟨h1, h2⟩
  case expiry =>
    intro s ho he
    obtain ⟨h1, _, h3⟩ := s.winShut_shows
    exact Completes.of_if rfl (by simp [ho, he]) ⟨h1, h3 ho⟩
  case inj =>
    intro s m k v ha hm
    exact Completes.of_guardW ha rfl ((s.rewritten _).injWrite_shows k v hm)
  case injDenied =>
    intro s m k v ha hm
    refine Completes.of_guardW ha rfl ?_
    rw [State.injWrite_denied (s.rewritten _) k v hm]
    exact ⟨State.flag_raise _ rfl rfl .., State.rd_raise_name _ rfl ..⟩
  case injEnd => exact fun s k hk hen hd ht => completes_injEnd s hk hen hd ht

end Sys2Proof.Machine
end

section
/-! Accesses by address: registers, shared pages, refused decodes and deaf blocks (spec/18): O30. -/

namespace Sys2Proof.Machine

variable (s : State)

/-! ## The decode -/

/-- An address that names a register is one of the register's own page. -/
theorem regAt_of_target {a : Nat} {k : RegKey} (h : target a = .reg k) : regAt (a / 4 * 4) = some k := by
  unfold target at h
  split at h
  · cases h
  split at h
  · cases h
  split at h
  · cases h
  split at h
  · cases h
  split at h
  · cases h
  split at h
  · cases h
  · split at h
    · next hr => rw [hr]; cases h; rfl
    · cases h

/-- A register that an address names exists. -/
theorem valid_of_target {a : Nat} {k : RegKey} (h : target a = .reg k) : k.valid = true := by
  have hr := regAt_of_target h
  rw [regAt, Option.filter_eq_some_iff] at hr
  exact hr.2

/-- A word at an aligned address that names a register passes the decode. -/
theorem decodeKind_of_reg {a : Nat} {k : RegKey} (ht : target a = .reg k) (hal : a % 4 = 0) (write : Bool) :
    decodeKind a 4 write = none := by
  simp [decodeKind, ht, hal]

/-! ## What an access comes to -/

section Aligned

variable {m : Master} {addr : Nat} {k : RegKey}
variable (hissue : s.canIssue m = true) (hfree : s.holdsBack m = false) (hlt : addr < 2 ^ 32) (hal : addr % 4 = 0)
include hissue hfree hlt hal

/-- A read of a register's word that is let through. -/
theorem State.access_read_reg (hgrant : s.denied m addr 0 = false) (ht : target addr = .reg k) :
    s.access m addr 4 none = s.readReg m k := by
  rw [State.access_eq_perform hissue hfree hlt hal none hgrant]
  simp only [State.perform, Option.isSome_none, decodeKind_of_reg ht hal, State.performRead, ht, State.narrow, if_true]

/-- DECODE_ERR of a word is the access's refusal. -/
theorem exec_decodeErr_write {kind : Nat} (hgrant : s.denied m addr 1 = false) (hk : decodeKind addr 4 true = some kind) :
    exec (.decodeErr m true addr 4) s = .next (s.decodeErr m true kind addr) := by
  have hmod : addr % 2 ^ 32 = addr := Nat.mod_eq_of_lt hlt
  have hword : addr / 4 * 4 = addr := by omega
  change execDecodeErr m true addr 4 s = _
  simp only [execDecodeErr, hmod, hword, ite_self, show width 4 = 4 from rfl, hk, Option.isSome_some, if_true]
  rw [State.access_eq_perform hissue hfree hlt hal (some 0) hgrant]
  simp only [State.perform, Option.isSome_some, hk]

end Aligned

/-- ACCESS_ERR of a register that cannot answer is the access itself. -/
theorem exec_accessErr_of_deaf {m : Master} {write : Bool} {addr : Nat} {k : RegKey} (hlt : addr < 2 ^ 32)
    (hal : addr % 4 = 0) (ht : target addr = .reg k) (hoff : s.regOn k = false) :
    exec (.accessErr m write addr) s = .next (s.access m addr 4 (if write then some 0 else none)) := by
  have hmod : addr % 2 ^ 32 = addr := Nat.mod_eq_of_lt hlt
  have hword : addr / 4 * 4 = addr := by omega
  change execAccessErr m write addr s = _
  simp only [execAccessErr, hmod, hword, State.deaf, ht, hoff, Bool.not_false, if_true]

/-! ## A read's side effects -/

/-- After a read the bits that a read clears are 0. -/
theorem State.rd_readEffect_rc (m : Master) (k : RegKey) : (s.readEffect m k).rd k &&& k.id.info.rc = 0 := by
  unfold State.readEffect
  extract_lets up t u
  clear_value u
  by_cases h : k.id.info.rc = 0
  · rw [h]
    exact BitVec.and_zero
  · rw [show (k.id.info.rc != 0) = true from bne_iff_ne.2 h, State.when_true, State.rd_wr_same]
    apply BitVec.eq_of_getLsbD_eq
    intro i hi
    simpa [hi] using fun _ h _ => h

/-! ## The records of refused accesses -/

/-- The first refused decode is recorded. -/
theorem State.decodeErr_first {m : Master} {kind addr : Nat} (write : Bool) (hk : kind < 4) (ha : addr < 2 ^ 32)
    (hv : s.flag F.DEV_DECODE_ERR_VALID = false) :
    (s.decodeErr m write kind addr).flag F.DEV_DECODE_ERR_VALID = true ∧
    (s.decodeErr m write kind addr).flag F.DEV_DECODE_ERR_WRITE = write ∧
    (s.decodeErr m write kind addr).fld F.DEV_DECODE_ERR_KIND = kind ∧
    (s.decodeErr m write kind addr).fld F.DEV_DECODE_ERR_MASTER = masterCode m ∧
    (s.decodeErr m write kind addr).rdN (R .DEV_DECODE_ADDR) = addr := by
  unfold State.decodeErr
  extract_lets t u
  have hu : u.flag F.DEV_DECODE_ERR_VALID = false := by
    refine (congrArg (· == 1) (t.fld_spiErr ..)).trans (Eq.trans ?_ hv)
    unfold t
    split
    · exact State.flag_raise_apart _ rfl ..
    · exact State.flag_raise_apart _ rfl ..
    · exact State.flag_raise_apart _ rfl ..
  clear_value u
  rw [hu, if_neg Bool.false_ne_true]
  refine ⟨?_, ?_, ?_, ?_, ?_⟩
  · refine (congrArg (· == 1) (State.fld_wrN_id _ rfl ..)).trans ?_
    refine (State.flag_setFld_apart _ rfl ..).trans ((State.flag_setFld_apart _ rfl ..).trans
      ((State.flag_setFld_apart _ rfl ..).trans ((State.flag_setFlag_apart _ rfl ..).trans ?_)))
    exact State.flag_setFlag _ rfl rfl true ..
  · refine (congrArg (· == 1) (State.fld_wrN_id _ rfl ..)).trans ?_
    refine (State.flag_setFld_apart _ rfl ..).trans ((State.flag_setFld_apart _ rfl ..).trans
      ((State.flag_setFld_apart _ rfl ..).trans ?_))
    exact State.flag_setFlag _ rfl rfl write ..
  · refine (State.fld_wrN_id _ rfl ..).trans ((State.fld_setFld_apart _ rfl ..).trans
      ((State.fld_setFld_apart _ rfl ..).trans ?_))
    exact State.fld_setFld_lt _ rfl hk ..
  · refine (State.fld_wrN_id _ rfl ..).trans ((State.fld_setFld_apart _ rfl ..).trans ?_)
    refine State.fld_setFld_lt _ rfl (show masterCode m < 2 ^ 4 from ?_) ..
    unfold masterCode
    split <;> omega
  · exact (rdN_wrN _ _ _ rfl).trans (Nat.mod_eq_of_lt ha)

/-- A later one only counts. -/
theorem State.decodeErr_later {m : Master} {kind addr : Nat} (write : Bool) (hv : s.flag F.DEV_DECODE_ERR_VALID = true) :
    (s.decodeErr m write kind addr).rd (R .DEV_DECODE_ADDR) = s.rd (R .DEV_DECODE_ADDR) ∧
    (s.decodeErr m write kind addr).fld F.DEV_DECODE_ERR_CNT =
      min (s.fld F.DEV_DECODE_ERR_CNT + 1) (2 ^ F.DEV_DECODE_ERR_CNT.len - 1) := by
  unfold State.decodeErr
  extract_lets t u
  have ht : t.fld F.DEV_DECODE_ERR_VALID = s.fld F.DEV_DECODE_ERR_VALID ∧
      t.fld F.DEV_DECODE_ERR_CNT = s.fld F.DEV_DECODE_ERR_CNT ∧ t.rd (R .DEV_DECODE_ADDR) = s.rd (R .DEV_DECODE_ADDR) := by
    unfold t
    split
    · exact ⟨State.fld_raise_apart _ rfl .., State.fld_raise_apart _ rfl .., State.rd_raise_name _ rfl ..⟩
    · exact ⟨State.fld_raise_apart _ rfl .., State.fld_raise_apart _ rfl .., State.rd_raise_name _ rfl ..⟩
    · exact ⟨State.fld_raise_apart _ rfl .., State.fld_raise_apart _ rfl .., State.rd_raise_name _ rfl ..⟩
  obtain ⟨h1, h2, h3⟩ := ht
  have hu : u.flag F.DEV_DECODE_ERR_VALID = true := by
    rw [State.flag, t.fld_spiErr, h1]
    exact hv
  have hc : u.fld F.DEV_DECODE_ERR_CNT = s.fld F.DEV_DECODE_ERR_CNT := (t.fld_spiErr ..).trans h2
  have hr : u.rd (R .DEV_DECODE_ADDR) = s.rd (R .DEV_DECODE_ADDR) := ((State.spiErr_upd ..).rd_of _ _ _ rfl).trans h3
  clear_value u
  rw [hu, if_pos rfl]
  refine ⟨(State.rd_setFld_name _ rfl ..).trans hr, ?_⟩
  rw [← hc]
  exact State.fld_setFld_lt _ rfl (by show min _ (2 ^ 16 - 1) < 2 ^ 16; omega) ..

/-- The first access error is recorded. -/
theorem State.accessErr_first {m : Master} {dom addr : Nat} (write inRst : Bool) (ha : addr < 2 ^ 32)
    (hv : s.flag F.PMU_ACCESS_ERR_VALID = false) :
    (s.accessErr m write inRst dom addr).flag F.PMU_ACCESS_ERR_WRITE = write ∧
    (s.accessErr m write inRst dom addr).rdN (R .PMU_ACCESS_ERR_ADDR) = addr := by
  unfold State.accessErr
  extract_lets t u
  have ht : t.flag F.PMU_ACCESS_ERR_VALID = false := (State.flag_raise_apart _ rfl ..).trans hv
  have hu : u.flag F.PMU_ACCESS_ERR_VALID = false := by
    unfold u
    split
    · exact ht
    · exact (congrArg (· == 1) (t.fld_spiErr ..)).trans ht
  clear_value u
  rw [hu, if_neg Bool.false_ne_true]
  refine ⟨?_, (rdN_wrN _ _ _ rfl).trans (Nat.mod_eq_of_lt ha)⟩
  refine (congrArg (· == 1) (State.fld_wrN_id _ rfl ..)).trans ?_
  refine (State.flag_setFld_apart _ rfl ..).trans ((State.flag_setFld_apart _ rfl ..).trans
    ((State.flag_setFlag_apart _ rfl ..).trans ?_))
  exact State.flag_setFlag _ rfl rfl write ..

/-! ## Commands -/

theorem completes_rcRead {m : Master} {k : RegKey} (hi : s.canIssue m = true) (hd : s.denied m k.addr 0 = false)
    (hh : s.holdsBack m = false) (hlt : k.addr < 2 ^ 32) (hal : k.addr % 4 = 0) (ht : target k.addr = .reg k)
    (ho : s.regOn k = true) : Completes (.rcRead m k.addr 4) s fun t =>
      t.fab.rdata.get 0 (masterCode m) = s.readWord m k ∧ t.rd k &&& k.id.info.rc = 0 := by
  have he : exec (.rcRead m k.addr 4) s = .next (s.readReg m k) :=
    congrArg Host.Outcome.next (s.access_read_reg hi hh hlt hal hd ht)
  refine Completes.of_exec he ⟨State.rdata_readReg ho m, ?_⟩
  rw [State.readReg, if_pos ho]
  exact s.rd_readEffect_rc m k

theorem completes_accessErr_write {m : Master} {k : RegKey} (hi : s.canIssue m = true) (hd : s.denied m k.addr 1 = false)
    (hh : s.holdsBack m = false) (hlt : k.addr < 2 ^ 32) (hal : k.addr % 4 = 0) (ht : target k.addr = .reg k)
    (ho : s.regOn k = false) (hv : s.flag F.PMU_ACCESS_ERR_VALID = false) :
    Completes (.accessErr m true k.addr) s fun t => t.flag F.PMU_ACCESS_ERR_VALID = true ∧
      t.flag F.PMU_ACCESS_ERR_WRITE = true ∧ t.rdN (R .PMU_ACCESS_ERR_ADDR) = k.addr := by
  have he : exec (.accessErr m true k.addr) s =
      .next (s.accessErr m true (s.inReset k.domain (k.addr / 4096)) (s.errDom k.domain) k.addr) := by
    rw [exec_accessErr_of_deaf s hlt hal ht ho, if_pos rfl, s.access_eq_guardW m hlt hal ht, State.guardW,
      s.issue_granted (w := some 0) hi hd hh]
    simp only [State.putReg, valid_of_target ht, ho, Bool.not_true, Bool.not_false, Bool.false_eq_true, if_false, if_true]
  obtain ⟨h1, h2⟩ := s.accessErr_first (m := m) (dom := s.errDom k.domain) true (s.inReset k.domain (k.addr / 4096)) hlt hv
  exact Completes.of_exec he ⟨State.flag_valid_accessErr .., h1, h2⟩

theorem completes_accessErr_read {m : Master} {k : RegKey} (hi : s.canIssue m = true) (hd : s.denied m k.addr 0 = false)
    (hh : s.holdsBack m = false) (hlt : k.addr < 2 ^ 32) (hal : k.addr % 4 = 0) (ht : target k.addr = .reg k)
    (ho : s.regOn k = false) : Completes (.accessErr m false k.addr) s fun t =>
      t.fab.rdata.get 0 (masterCode m) = badWord ∧ t.flag F.PMU_EVT_ACCESS_ERR = true := by
  have he : exec (.accessErr m false k.addr) s = .next ((s.accessErr m false (s.inReset k.domain (k.addr / 4096))
      (s.errDom k.domain) k.addr).answer m badWord) := by
    rw [exec_accessErr_of_deaf s hlt hal ht ho, if_neg Bool.false_ne_true, s.access_read_reg hi hh hlt hal hd ht,
      State.readReg, if_neg (ne_true_of_eq_false ho)]
  exact Completes.of_exec he ⟨State.rdata_answer .., (State.flag_answer ..).trans (State.flag_event_accessErr ..)⟩

/-- Settles O30. -/
theorem addressCommandsComplete : Obligations.AddressCommandsComplete := by
  unfold Obligations.AddressCommandsComplete
  refine ⟨?write, ?irqEn, ?read, ?aliasWrite, ?aliasRead, ?decodeFirst, ?decodeLater, ?deafWrite, ?deafRead⟩
  case write => exact fun s m k v ha hlt hal ht => Completes.of_exec (exec_registerWrite_of_accepts ha hlt hal ht v) rfl
  case irqEn =>
    intro s m v ha
    exact Completes.of_exec (exec_registerWrite_of_accepts ha (by decide) (by decide) (by decide) v)
      (State.rd_plainWrite_full _ rfl ..)
  case read => exact fun s m k hi hd hh hlt hal ht ho => completes_rcRead s hi hd hh hlt hal ht ho
  case aliasWrite =>
    intro s m addr i k all v hi hh hd hlt hal ht hs
    exact Completes.of_exec (exec_aliasWrite_of_target hi hh hlt hal ht hd v) (State.setWrite_of_selected hs addr v)
  case aliasRead =>
    intro s m addr i k all n l hi hh hd hlt hal ht hs ho
    refine Completes.of_exec (exec_aliasRead_of_target hi hh hlt hal ht hd) ?_
    rw [State.setRead_of_selected_cons hs, State.rdata_readReg ho]
  case decodeFirst =>
    intro s m addr kind hi hh hd hlt hal hk hk4 hv
    exact Completes.of_exec (exec_decodeErr_write s hi hh hlt hal hd hk) (s.decodeErr_first true hk4 hlt hv)
  case decodeLater =>
    intro s m addr kind hi hh hd hlt hal hk hv
    exact Completes.of_exec (exec_decodeErr_write s hi hh hlt hal hd hk) (s.decodeErr_later true hv)
  case deafWrite => exact fun s m k hi hd hh hlt hal ht ho hv => completes_accessErr_write s hi hd hh hlt hal ht ho hv
  case deafRead => exact fun s m k hi hd hh hlt hal ht ho => completes_accessErr_read s hi hd hh hlt hal ht ho

end Sys2Proof.Machine
end

section
/-! The SPI and two-wire targets and the end of a remote access (spec/18, spec/14): O31. -/

namespace Sys2Proof.Machine

variable (s : State)

/-! ## The fabric's own record -/

/-- What a register shows does not turn on the fabric's record. -/
theorem State.view_modFab (f : Fabric → Fabric) (m : Master) (k : RegKey) : (s.modFab f).view m k = s.view m k := rfl

theorem State.readWord_modFab {f : Fabric → Fabric} (hc : (f s.fab).cap = s.fab.cap) (m : Master) (k : RegKey) :
    (s.modFab f).readWord m k = s.readWord m k := by
  change (match ((f s.fab).cap.get [] (masterCode m)).find? fun e => e.1 == k with
    | some e => e.2
    | none => (s.modFab f).view m k &&& k.mask) = _
  rw [hc, s.view_modFab]
  rfl

theorem State.holdsBack_modFab {f : Fabric → Fabric} (hw : (f s.fab).waits = s.fab.waits) (m : Master) :
    (s.modFab f).holdsBack m = s.holdsBack m := congrArg (fun l => l.any fun e => masterCode e.m == masterCode m) hw

theorem State.regOn_modFab (f : Fabric → Fabric) (k : RegKey) : (s.modFab f).regOn k = s.regOn k := rfl

/-- A read's side effects leave what is on its way out of the interfaces. -/
theorem State.out_readEffect (m : Master) (k : RegKey) : (s.readEffect m k).fab.spiOut = s.fab.spiOut ∧
    (s.readEffect m k).fab.twiOut = s.fab.twiOut := by
  unfold State.readEffect
  extract_lets up t u
  have ht : t.fab.spiOut = s.fab.spiOut ∧ t.fab.twiOut = s.fab.twiOut :=
    s.when_holds (fun x => x.fab.spiOut = s.fab.spiOut ∧ x.fab.twiOut = s.fab.twiOut) _ _ ⟨rfl, rfl⟩ fun _ => ⟨rfl, rfl⟩
  have hu : u.fab.spiOut = s.fab.spiOut ∧ u.fab.twiOut = s.fab.twiOut :=
    t.when_holds (fun x => x.fab.spiOut = s.fab.spiOut ∧ x.fab.twiOut = s.fab.twiOut) _ _ ht fun _ => ht
  exact u.when_holds (fun x => x.fab.spiOut = s.fab.spiOut ∧ x.fab.twiOut = s.fab.twiOut) _ _ hu fun _ => by
    rw [State.wr_fab]
    exact hu

/-! ## A word read by an interface -/

section Word

variable {m : Master} {k : RegKey} (hh : s.holdsBack m = false) (hlt : k.addr < 2 ^ 32) (hal : k.addr % 4 = 0)
  (ht : target k.addr = .reg k) (ho : s.regOn k = true)

include hh hal ht ho

/-- A register's word is read and handed over. -/
theorem State.readOut_reg : s.readOut m k.addr = ((s.readEffect m k).answer m (s.readWord m k)).handOver m := by
  simp only [State.readOut, hh, Bool.false_eq_true, if_false, State.perform, Option.isSome_none, decodeKind_of_reg ht hal,
    State.performRead, ht, State.narrow, if_true, State.readReg, ho]

include hlt

theorem State.readOut_first {f : State → Nat → State} (hf : ∀ u i, f u i = u.readOut m ((k.addr + 4 * i) % 2 ^ 32 / 4 * 4)) :
    s.each (List.range 1) (fun i u => f u i) = ((s.readEffect m k).answer m (s.readWord m k)).handOver m := by
  have first : (k.addr + 4 * 0) % 2 ^ 32 / 4 * 4 = k.addr := by omega
  change f s 0 = _
  rw [hf, first, s.readOut_reg hh hal ht ho]

end Word

theorem completes_spiRead {k : RegKey} (hh : s.holdsBack .spi = false) (hlt : k.addr < 2 ^ 32) (hal : k.addr % 4 = 0)
    (ht : target k.addr = .reg k) (ho : s.regOn k = true) : Completes (.spiRead k.addr 1) s fun t =>
      t.fab.spiOut = 0xA5 :: msbBytes (s.readWord .spi k) := by
  obtain ⟨t, hs⟩ : ∃ t, s.modFab (fun f => { f with spiOut := [] }) = t := ⟨_, rfl⟩
  have he : exec (.spiRead k.addr 1) s = .next (((t.readEffect .spi k).answer .spi (t.readWord .spi k)).handOver .spi) := by
    rw [← t.readOut_first (f := fun u i => u.readOut .spi ((k.addr + 4 * i) % 2 ^ 32 / 4 * 4)) _ hlt hal ht _ fun _ _ => rfl]
    · rw [← hs]
      rfl
    · rw [← hs, s.holdsBack_modFab rfl, hh]
    · rw [← hs, s.regOn_modFab, ho]
  have word : t.readWord .spi k = s.readWord .spi k := by rw [← hs, s.readWord_modFab rfl]
  have out : (t.readEffect .spi k).fab.spiOut = [] := (t.out_readEffect .spi k).1.trans (by rw [← hs]; rfl)
  refine Completes.of_exec he ?_
  rw [word]
  change (t.readEffect .spi k).fab.spiOut ++ 0xA5 :: msbBytes 
    (((t.readEffect .spi k).answer .spi (s.readWord .spi k)).fab.rdata.get 0 (masterCode .spi)) = _
  rw [out, State.rdata_answer]
  rfl

theorem completes_twiRead {k : RegKey} (hs : s.twiServed = true) (hh : s.holdsBack .twi = false) (hlt : k.addr < 2 ^ 32)
    (hal : k.addr % 4 = 0) (ht : target k.addr = .reg k) (ho : s.regOn k = true) (hp : s.fab.twiPtr = k.addr) :
    Completes (.twiRead [] 1) s fun t => t.fab.twiOut = [s.readWord .twi k] ∧ t.fab.twiPtr = (k.addr + 4) % 2 ^ 32 := by
  obtain ⟨t, htt⟩ : ∃ t, s.modFab (fun f => { f with twiOut := [] }) = t := ⟨_, rfl⟩
  obtain ⟨u, hu⟩ : ∃ u, ((t.readEffect .twi k).answer .twi (t.readWord .twi k)).handOver .twi = u := ⟨_, rfl⟩
  have he : exec (.twiRead [] 1) s = .next (u.modFab fun f => { f with twiPtr := (k.addr + 4) % 2 ^ 32 }) := by
    rw [← hu, ← t.readOut_first (f := fun u i => u.readOut .twi ((k.addr + 4 * i) % 2 ^ 32 / 4 * 4)) _ hlt hal ht _ fun _ _ => rfl]
    · rw [← htt]
      change execTwiRead [] 1 s = _
      simp only [execTwiRead, hs, hp, msbWords, Bool.not_true, Bool.false_eq_true, if_false]
    · rw [← htt, s.holdsBack_modFab rfl, hh]
    · rw [← htt, s.regOn_modFab, ho]
  have word : t.readWord .twi k = s.readWord .twi k := by rw [← htt, s.readWord_modFab rfl]
  have out : (t.readEffect .twi k).fab.twiOut = [] := (t.out_readEffect .twi k).2.trans (by rw [← htt]; rfl)
  refine Completes.of_exec he ⟨?_, rfl⟩
  change u.fab.twiOut = _
  rw [← hu, word]
  change (t.readEffect .twi k).fab.twiOut ++ 
    [((t.readEffect .twi k).answer .twi (s.readWord .twi k)).fab.rdata.get 0 (masterCode .twi)] = _
  rw [out, State.rdata_answer]
  rfl

/-! ## A two-wire write -/

theorem exec_twiWrite {bytes : List Byte} {a : W32} {ws : List W32} (hs : s.twiServed = true) (hb : msbWords bytes = a :: ws) :
    exec (.twiWrite bytes) s = .next ((s.each ws.zipIdx fun e s => s.access .twi (a.toNat + 4 * e.2) 4 (some e.1)).modFab
      fun f => { f with twiPtr := (a.toNat + 4 * ws.length) % 2 ^ 32 }) := by
  change execTwiWrite bytes s = _
  simp only [execTwiWrite, hb, hs, Bool.not_true, Bool.false_eq_true, if_false]

/-! ## The end of a remote access (R342) -/

theorem State.serve_idle (hw : s.fab.waits = []) : s.serve = s := by
  rw [State.serve, hw]
  rfl

/-- What a remote access leaves when it ends with `code`. -/
def State.rmtOver (code : Nat) (w : Bool) (ans : Option W32) : State :=
  (({ (s.setFld F.YLN_RMT_STATUS_CODE code).setFld F.YLN_RMT_STATUS_BUSY 0 with rmt := none } : State).when
    (code == 0 && !w) fun t => t.wr (R .YLN_RMT_DATA) (ans.getD 0)).raise F.YLN_ID_EVT_RMT_DONE

theorem State.fld_rmt (x : Option (Nat × Bool × Nat)) (f : Fld) (i j : Nat) :
    ({ s with rmt := x } : State).fld f i j = s.fld f i j := rfl

theorem State.rmtOver_shows (code : Nat) (w : Bool) (ans : Option W32) :
    (s.rmtOver code w ans).flag F.YLN_RMT_STATUS_BUSY = false ∧ (s.rmtOver code w ans).flag F.YLN_ID_EVT_RMT_DONE = true ∧
    (s.rmtOver code w ans).rmt = none ∧ (s.rmtOver code w ans).fab = s.fab ∧
    (code < 16 → (s.rmtOver code w ans).fld F.YLN_RMT_STATUS_CODE = code) := by
  unfold State.rmtOver
  have data : ∀ t : State, ∀ f : Fld, (f.reg == .YLN_RMT_DATA) = false →
      (t.when (code == 0 && !w) fun t => t.wr (R .YLN_RMT_DATA) (ans.getD 0)).fld f 0 0 = t.fld f 0 0 := fun t f hf =>
    t.when_holds (fun u => u.fld f 0 0 = t.fld f 0 0) _ _ rfl fun _ => t.fld_wr_id hf ..
  refine ⟨?_, State.flag_raise _ rfl rfl .., ?_, ?_, fun hc => ?_⟩
  · refine (State.flag_raise_apart _ rfl ..).trans ?_
    rw [State.flag, data _ _ rfl, State.fld_rmt]
    exact State.flag_setFlag _ rfl rfl false ..
  · rw [State.raise_rmt]
    exact State.when_holds _ (fun u => u.rmt = none) _ _ rfl fun _ => rfl
  · rw [State.raise_fab]
    exact State.when_holds _ (fun u => u.fab = s.fab) _ _ rfl fun _ => rfl
  · refine (State.fld_raise_apart _ rfl ..).trans ?_
    rw [data _ _ rfl, State.fld_rmt]
    exact (State.fld_setFld_apart _ rfl ..).trans (State.fld_setFld_lt _ rfl hc ..)

theorem State.rmtOver_data (x : W32) : (s.rmtOver 0 false (some x)).rd (R .YLN_RMT_DATA) = x := by
  refine (State.rd_raise_name _ rfl ..).trans ?_
  exact (State.rd_wr_same ..).trans BitVec.and_allOnes

/-- An access that has waited 20 µs ends whatever has come. -/
theorem State.rmtDone_timeout {d t0 : Nat} {w : Bool} (ans : Option W32) (hy : s.yrdOn = true) (hr : s.rmt = some (d, w, t0))
    (ht : t0 + 20 ≤ s.us) : ∃ code, s.rmtDone ans = s.rmtOver code w ans := by
  have late : decide (s.us < t0 + 20) = false := decide_eq_false (by omega)
  simp only [State.rmtDone, hr, hy, late, Bool.not_true, Bool.and_false, Bool.or_false, Bool.false_eq_true, if_false]
  exact ⟨_, rfl⟩

/-- An answer ends a read. -/
theorem State.rmtDone_answer {d t0 : Nat} (x : W32) (hy : s.yrdOn = true) (hr : s.rmt = some (d, false, t0))
    (hd : d ≠ s.fuse.devId) (hl : s.linkSt (s.linkTo d) ≠ 0) (hw : s.flag F.YLN_LINK_STATUS_WIRING (s.linkTo d) = false) :
    s.rmtDone (some x) = s.rmtOver 0 false (some x) := by
  simp only [State.rmtDone, hr, hy, if_neg hd, hl, hw, decide_false, Option.isNone_some, Bool.or_false, Bool.not_true,
    Bool.false_eq_true, if_false, Nat.reduceEqDiff, Bool.false_and]
  rfl

/-- Settles O31. -/
theorem interfaceCommandsComplete : Obligations.InterfaceCommandsComplete := by
  unfold Obligations.InterfaceCommandsComplete
  refine ⟨?spiWrite, ?spiRead, ?status, ?pointer, ?address, ?twiRead, ?timeout, ?answer⟩
  case spiWrite => exact fun s addr ws => Completes.of_exec rfl rfl
  case spiRead => exact fun s k hh hlt hal ht ho => completes_spiRead s hh hlt hal ht ho
  case status => exact fun s => Completes.of_exec rfl ⟨rfl, rfl, rfl⟩
  case pointer => exact fun s bytes a ws hs hb => Completes.of_exec (exec_twiWrite s hs hb) rfl
  case address => exact fun s bytes a hs hb => Completes.of_exec (exec_twiWrite s hs hb) rfl
  case twiRead => exact fun s k hs hh hlt hal ht ho hp => completes_twiRead s hs hh hlt hal ht ho hp
  case timeout =>
    intro s ans d w t0 hy hr ht hw
    obtain ⟨code, hdone⟩ := s.rmtDone_timeout ans hy hr ht
    obtain ⟨h1, h2, h3, h4, _⟩ := s.rmtOver_shows code w ans
    have he : exec (.rmtDone ans) s = .next (s.rmtOver code w ans) := by
      change Host.Outcome.next (s.rmtDone ans).serve = _
      rw [hdone, State.serve_idle _ (by rw [h4, hw])]
    exact Completes.of_exec he ⟨h1, h2, h3⟩
  case answer =>
    intro s x d t0 hy hr hd hl hwi hw
    obtain ⟨_, _, h3, h4, h5⟩ := s.rmtOver_shows 0 false (some x)
    have he : exec (.rmtDone (some x)) s = .next (s.rmtOver 0 false (some x)) := by
      change Host.Outcome.next (s.rmtDone (some x)).serve = _
      rw [s.rmtDone_answer x hy hr hd hl hwi, State.serve_idle _ (by rw [h4, hw])]
    exact Completes.of_exec he ⟨s.rmtOver_data x, h5 (by decide), h3⟩

end Sys2Proof.Machine
end

section
/-! The interrupt tree (spec/18, R426 to R428): O42. -/

namespace Sys2Proof.Machine

variable (s : State)

/-! ## A set of bits as a number -/

theorem bitSet_succ (n : Nat) (p : Nat → Bool) : bitSet (n + 1) p = bitSet n p + if p n then 2 ^ n else 0 := by
  simp only [bitSet, List.range_succ, List.map_append, List.sum_append, List.map_cons, List.map_nil, List.sum_cons,
    List.sum_nil, Nat.add_zero]

theorem bitSet_lt (n : Nat) (p : Nat → Bool) : bitSet n p < 2 ^ n := by
  induction n with
  | zero => exact Nat.one_pos
  | succ n ih =>
    rw [bitSet_succ, Nat.pow_succ]
    split <;> omega

/-- The bits of a set are its members. -/
theorem testBit_bitSet (n b : Nat) (p : Nat → Bool) : (bitSet n p).testBit b = (decide (b < n) && p b) := by
  induction n with
  | zero => exact Nat.zero_testBit b
  | succ n ih =>
    have low := bitSet_lt n p
    rw [bitSet_succ]
    cases hp : p n with
    | false =>
      rw [if_neg Bool.false_ne_true, Nat.add_zero, ih]
      by_cases hb : b = n
      · simp [hb, hp]
      · rw [show decide (b < n + 1) = decide (b < n) from decide_eq_decide.2 (by omega)]
    | true =>
      rw [if_pos rfl, Nat.add_comm]
      rcases Nat.lt_trichotomy b n with hb | rfl | hb
      · rw [Nat.testBit_two_pow_add_gt hb, ih]
        simp [hb, Nat.lt_succ_of_lt hb]
      · rw [Nat.testBit_two_pow_add_eq, Nat.testBit_lt_two_pow low]
        simp [hp]
      · rw [Nat.testBit_lt_two_pow (Nat.lt_of_lt_of_le (show 2 ^ n + bitSet n p < 2 ^ (n + 1) by omega)
          (Nat.pow_le_pow_right (by decide) hb))]
        simp [Nat.not_lt.2 hb]

/-! ## The register file -/

theorem RegKey.lt_irrefl (k : RegKey) : RegKey.lt k k = false := by
  simp [RegKey.lt]

/-- A table in canonical form holds a key once. -/
theorem Tab.look_of_mem {κ α : Type} [DecidableEq κ] [DecidableEq α] {lt : κ → κ → Bool} (hirr : ∀ k, lt k k = false)
    {d : κ → α} {t : List (κ × α)} (h : Tab.wf lt d t = true) {k : κ} {v : α} (hm : (k, v) ∈ t) : Tab.look k t = some v := by
  induction t with
  | nil => cases hm
  | cons e t ih =>
    obtain ⟨a, w⟩ := e
    simp only [Tab.wf, Bool.and_eq_true] at h
    obtain ⟨⟨habove, _⟩, ht⟩ := h
    rcases List.mem_cons.1 hm with heq | hin
    · cases heq
      exact if_pos rfl
    · have hlt : lt a k = true := List.all_eq_true.1 habove _ hin
      have hne : a ≠ k := by
        rintro rfl
        rw [hirr] at hlt
        cases hlt
      exact (if_neg hne).trans (ih ht hin)

/-- An event register raises, at some index, its interrupt where a bit of it is enabled in a domain that is ON. -/
theorem State.raising_isEmpty_iff (hi : s.Inv) {ev en : RegId} (h0 : ∀ i j, RegKey.reset ⟨ev, i, j⟩ = 0) :
    (!(s.raising ev en).isEmpty) = true ↔
      ∃ i j, s.rd ⟨ev, i, j⟩ &&& s.rd ⟨en, i, j⟩ ≠ 0 ∧ s.domOn (RegKey.domain ⟨ev, i, j⟩) = true := by
  obtain ⟨hwf, _⟩ := Bool.and_eq_true_iff.1 hi.1
  rw [Bool.not_eq_true', ← Bool.not_eq_true, List.isEmpty_iff]
  constructor
  · intro hne
    obtain ⟨i, hmem⟩ := List.exists_mem_of_ne_nil _ hne
    obtain ⟨⟨⟨id, a, j⟩, v⟩, hin, hv⟩ := List.mem_filterMap.1 hmem
    rw [Option.ite_none_right_eq_some] at hv
    obtain ⟨hcond, _⟩ := hv
    simp only [Bool.and_eq_true, decide_eq_true_eq, bne_iff_ne] at hcond
    obtain ⟨⟨rfl, hbits⟩, hon⟩ := hcond
    have hrd : s.rd ⟨id, a, j⟩ = v := by
      rw [State.rd, Tab.get, Tab.look_of_mem RegKey.lt_irrefl hwf hin]
      rfl
    exact ⟨a, j, by rw [hrd]; exact hbits, hon⟩
  · rintro ⟨i, j, hbits, hon⟩
    cases hl : Tab.look (⟨ev, i, j⟩ : RegKey) s.regs with
    | none =>
      have hrd : s.rd ⟨ev, i, j⟩ = 0 := by
        rw [State.rd, Tab.get, hl]
        exact h0 i j
      rw [hrd] at hbits
      exact absurd BitVec.zero_and hbits
    | some v =>
      have hrd : s.rd ⟨ev, i, j⟩ = v := by
        rw [State.rd, Tab.get, hl]
        rfl
      rw [hrd] at hbits
      refine List.ne_nil_of_mem (List.mem_filterMap.2 ⟨(⟨ev, i, j⟩, v), Tab.mem_of_look hl, if_pos ?_⟩)
      simpa [hon] using hbits

/-! ## The tree -/

theorem State.bitOf_irqStatus {b : Nat} (hb : b < 21) : bitOf s.irqStatus b = s.irqSource b := by
  change (BitVec.ofNat 32 (bitSet 21 s.irqSource)).getLsbD b = _
  rw [BitVec.getLsbD_ofNat, testBit_bitSet]
  simp [hb, show b < 32 by omega]

/-- The registers whose reset word is not the one of their field map. -/
def ownReset : List RegId :=
  [.DEV_OPT, .PMU_CFG, .RST_IDLE_TO, .AON_CFG, .PMU_WAKE_TBL, .PMU_DOM, .SAF_REACT, .STB_REF_CFG, .HAY_CFG, .CAX_TX_PRE]

theorem RegKey.reset_eq_rst {k : RegKey} (h : k.id ∉ ownReset) : k.reset = k.id.info.rst := by
  unfold RegKey.reset
  split
  case h_11 => rfl
  all_goals next e => exact absurd (by rw [e]; decide) h

/-- Every event register of the tree is 0 after reset. -/
theorem reset_irqSources : ∀ e ∈ irqSources.flatten, e.1 ∉ ownReset ∧ e.1.info.rst = 0 := by decide

/-- Settles O42. -/
theorem interruptTree : Obligations.InterruptTree := by
  unfold Obligations.InterruptTree
  refine ⟨?source, ?letterbox, fun s => bne_iff_ne⟩
  case source =>
    intro s b hi hb
    rw [s.bitOf_irqStatus (by omega), State.irqSource, if_neg (by omega), List.any_eq_true]
    refine exists_congr fun e => and_congr_right fun he => ?_
    refine s.raising_isEmpty_iff hi fun i j => ?_
    have hmem : irqSources.getD b [] ∈ irqSources := by
      rw [List.getD_eq_getElem _ _ (show b < irqSources.length from hb)]
      exact List.getElem_mem _
    obtain ⟨hplain, h0⟩ := reset_irqSources e (List.mem_flatten.2 ⟨_, hmem, he⟩)
    exact (RegKey.reset_eq_rst hplain).trans h0
  case letterbox =>
    intro s
    rw [s.bitOf_irqStatus (by decide), State.irqSource, if_pos rfl, Bool.and_eq_true]

end Sys2Proof.Machine
end

section
/-! Words written to the memories read back (spec/16, spec/18): O45. -/

namespace Sys2Proof.Machine

variable (s : State)

/-! ## A word and its bytes -/

theorem get_putBytes_word (t : NTab Byte) (a : Nat) (v : W32) {k : Nat} (hk : k < 4) :
    (putBytes t a (wordBytes v)).get 0 (a + k) = BitVec.ofNat 8 (v.toNat / 256 ^ k) := by
  have len : (wordBytes v).length = 4 := by simp [wordBytes]
  rw [Machine.get_putBytes (wordBytes v) (by omega)]
  simp [wordBytes]

theorem sum_range_four (f : Nat → Nat) : ((List.range 4).map f).sum = f 0 + f 1 + f 2 + f 3 := by
  simp [List.range_succ, Nat.add_assoc]

/-- Four bytes as they are laid out make the word again. -/
theorem ofNat_of_wordBytes {t : NTab Byte} {a : Nat} {v : W32}
    (h : ∀ k, k < 4 → t.get 0 (a + k) = BitVec.ofNat 8 (v.toNat / 256 ^ k)) :
    BitVec.ofNat 32 (((List.range 4).map fun k => (t.get 0 (a + k)).toNat * 256 ^ k).sum) = v := by
  have digit : ∀ k, k < 4 → (t.get 0 (a + k)).toNat = v.toNat / 256 ^ k % 256 := fun k hk => by
    rw [h k hk, BitVec.toNat_ofNat]
  have sum : (((List.range 4).map fun k => (t.get 0 (a + k)).toNat * 256 ^ k).sum) = v.toNat := by
    have hv := v.isLt
    rw [sum_range_four, digit 0 (by decide), digit 1 (by decide), digit 2 (by decide), digit 3 (by decide)]
    generalize v.toNat = n at hv
    norm_num
    omega
  rw [sum, BitVec.ofNat_toNat, BitVec.setWidth_eq]

/-! ## Shared SRAM -/

theorem target_sram {a : Nat} (hlo : 0x01100000 ≤ a) (hhi : a < 0x01300000) : target a = .ram none := by
  unfold target
  simp only [Bool.and_eq_true, decide_eq_true_eq]
  rw [if_neg (by omega), if_neg (by omega), if_neg (by omega), if_pos (by omega)]

theorem decodeKind_sram {a : Nat} (hlo : 0x01100000 ≤ a) (hhi : a < 0x01300000) (hal : a % 4 = 0) (w : Bool) :
    decodeKind a 4 w = none := by
  simp [decodeKind, target_sram hlo hhi, hal]

/-- A word put into the SRAM is there. -/
theorem State.ramWord_ramPut (a : Nat) (v : W32) : (s.ramPut a 4 v).ramWord a 4 = v := by
  refine ofNat_of_wordBytes fun k hk => ?_
  change (putBytes s.ram a (wordBytes v)).get 0 (a + k) = _
  exact get_putBytes_word s.ram a v hk

section Sram

variable {m : Master} {a : Nat} (hc : s.canIssue m = true) (hh : s.holdsBack m = false) (hlo : 0x01100000 ≤ a)
  (hhi : a < 0x01300000) (hal : a % 4 = 0) (hb : s.blockOn 1 (a / 4096) = true)
include hc hh hlo hhi hal hb

theorem exec_registerWrite_sram (hd : s.denied m a 1 = false) (v : W32) :
    exec (.registerWrite m a v) s = .next (s.ramPut a 4 v) := by
  refine congrArg Host.Outcome.next ?_
  rw [State.access_eq_perform hc hh (by omega) hal (some v) hd]
  simp only [State.perform, Option.isSome_some, decodeKind_sram hlo hhi hal, State.performWrite, target_sram hlo hhi,
    State.ramGuard, hb, State.ramMay, if_true]

theorem exec_rcRead_sram (hd : s.denied m a 0 = false) :
    exec (.rcRead m a 4) s = .next (s.answer m (s.ramWord a 4)) := by
  refine congrArg Host.Outcome.next ?_
  rw [State.access_eq_perform hc hh (by omega) hal none hd]
  simp only [State.perform, Option.isSome_none, decodeKind_sram hlo hhi hal, State.performRead, target_sram hlo hhi,
    State.ramGuard, hb, if_true]

end Sram

/-! ## The Tack Room -/

/-- A pair of words laid out one after the other reads back. -/
theorem State.tackWord_pair {t : NTab Byte} {a : Nat} {v w : W32} (ht : s.tack = putBytes (putBytes t a (wordBytes v)) (a + 4)
    (wordBytes w)) : s.tackWord a = v ∧ s.tackWord (a + 4) = w := by
  constructor
  · refine ofNat_of_wordBytes fun k hk => ?_
    rw [ht, get_putBytes_of_not_mem (wordBytes w) (by omega), get_putBytes_word _ _ _ hk]
  · refine ofNat_of_wordBytes fun k hk => ?_
    rw [ht, get_putBytes_word _ _ _ hk]

theorem State.trAddr_hi {off : Nat} (h8 : off % 8 = 0) :
    s.trAddr (off + 4) = s.trAddr off + 4 := by
  simp only [State.trAddr]
  omega

theorem State.trAddr_aligned {off : Nat} (h8 : off % 8 = 0) : s.trAddr off % 8 = 0 := by
  simp only [State.trAddr]
  omega

/-- Both words of a pair lie in one area. -/
theorem State.tackAccepts_hi {m : Master} {a : Nat} (ha : s.tackAccepts m a = true) (h8 : a % 8 = 0) (hlo : 0x50000 ≤ a)
    (hu : a < 0x60000 ∨ 0x100000 ≤ a) : s.tackAccepts m (a + 4) = true := by
  unfold State.tackAccepts at ha ⊢
  rw [if_neg (by omega)] at ha ⊢
  rcases hu with hu | hu
  · rw [if_pos (by simp; omega)] at ha ⊢
    exact ha
  · rw [if_neg (by simp; omega)] at ha ⊢
    exact decide_eq_true (by omega)

theorem completes_tackPair {m : Master} {off : Nat} (v w : W32) (hc : s.canIssue m = true) (hh : s.holdsBack m = false)
    (h8 : off % 8 = 0) (hd : s.denied m (trBus off) 1 = false)
    (hd4 : s.denied m (trBus (off + 4)) 1 = false) (hb : s.blockOn 1 (trPage off) = true)
    (ha : s.tackAccepts m (s.trAddr off) = true) (hlo : 0x50000 ≤ s.trAddr off)
    (hu : s.trAddr off < 0x60000 ∨ 0x100000 ≤ s.trAddr off) : Completes (.tackRoomWrite m off v) s fun t => t.tack = s.tack
      ∧ Completes (.tackRoomWrite m (off + 4) w) t fun u => u.tackWord (s.trAddr off) = v ∧
        u.tackWord (s.trAddr off + 4) = w := by
  have aligned := s.trAddr_aligned h8
  have page : trPage (off + 4) = trPage off := by
    simp only [trPage]
    omega
  have heq := State.tackWrite_lo s v ha (by omega)
  obtain ⟨t, ht⟩ : ∃ t, s.tackWrite m (s.trAddr off) v = t := ⟨_, rfl⟩
  have he := exec_tackRoomWrite_on s v hc hd hh hb
  rw [ht] at heq he
  have tack : t.tack = s.tack := by rw [heq]; rfl
  have held : (t.cal.held.find? fun e => e.1 == masterCode m && e.2.1 == s.trAddr off) = some (masterCode m, s.trAddr off, v) := by
    rw [heq]
    exact List.find?_cons_of_pos (by simp)
  have addr : t.trAddr (off + 4) = s.trAddr off + 4 := by
    rw [← s.trAddr_hi h8, heq]
    rfl
  have hc' : t.canIssue m = true := by rw [heq]; exact hc
  have hd' : t.denied m (trBus (off + 4)) 1 = false := by rw [heq]; exact hd4
  have hh' : t.holdsBack m = false := by rw [heq]; exact hh
  have hb' : t.blockOn 1 (trPage (off + 4)) = true := by rw [page, heq]; exact hb
  have ha' : t.tackAccepts m (s.trAddr off + 4) = true := by
    rw [heq]
    exact s.tackAccepts_hi ha aligned hlo hu
  refine Completes.of_exec he ⟨tack, Completes.of_exec (exec_tackRoomWrite_on t w hc' hd' hh' hb') ?_⟩
  rw [addr]
  refine State.tackWord_pair _ (t := s.tack) ?_
  rw [t.tackWrite_hi w ha' (by omega) (by omega), Nat.add_sub_cancel, held, tack]

/-- Settles O45. -/
theorem memoryReadBack : Obligations.MemoryReadBack := by
  unfold Obligations.MemoryReadBack
  refine ⟨?sram, ?tack⟩
  case sram =>
    intro s m a v hc hh hlo hhi hal hd1 hd0 hb
    refine Completes.of_exec (exec_registerWrite_sram s hc hh hlo hhi hal hb hd1 v) ?_
    refine Completes.of_exec (exec_rcRead_sram (s.ramPut a 4 v) hc hh hlo hhi hal hb hd0) ?_
    rw [State.rdata_answer, State.ramWord_ramPut]
  case tack =>
    exact fun s m off v w hc hh h8 _ hd hd4 _ _ hb ha hlo hu => completes_tackPair s v w hc hh h8 hd hd4 hb ha hlo hu

end Sys2Proof.Machine
end

section
/-! Event registers are cleared where 1 is written (spec/18, R10): O47. -/

namespace Sys2Proof.Machine

/-! ## The registers of a page -/

/-- How many instances of a register there are, counted from 0. -/
def RegId.bound (id : RegId) : Nat := if id.info.page.info.n = 1 then id.info.first + id.info.count else id.info.page.info.n

theorem RegKey.lt_bound_of_valid {k : RegKey} (h : k.valid = true) : k.i < k.id.bound := by
  unfold RegKey.valid at h
  unfold RegId.bound
  dsimp only at h
  split at h
  · next hn =>
    rw [if_pos hn]
    simp only [Bool.and_eq_true, decide_eq_true_eq] at h
    exact h.1.1.2
  · next hn =>
    rw [if_neg hn]
    simp only [Bool.and_eq_true, decide_eq_true_eq] at h
    exact h.1.1.1

theorem State.valid_of_accepts {s : State} {m : Master} {k : RegKey} (h : s.accepts m k = true) : k.valid = true := by
  simp only [State.accepts, Bool.and_eq_true] at h
  exact h.1.1.2

/-- A word's address leads the decode to the register. -/
def RegKey.placed (k : RegKey) : Bool := k.addr < 2 ^ 32 && k.addr % 4 == 0 && target k.addr == .reg k

theorem exec_registerWrite_of_placed {s : State} {m : Master} {id : RegId} {i : Nat} (ha : s.accepts m (R id i) = true)
    (hp : ∀ n < id.bound, (R id n).placed = true) (v : W32) : exec (.registerWrite m (R id i).addr v) s =
      .next (State.regWrite m (R id i) v (s.rewritten (R id i))) := by
  have place := hp i (RegKey.lt_bound_of_valid (State.valid_of_accepts ha))
  simp only [RegKey.placed, Bool.and_eq_true, decide_eq_true_eq, beq_iff_eq] at place
  obtain ⟨⟨hlt, hal⟩, ht⟩ := place
  exact exec_registerWrite_of_accepts ha hlt hal ht v

/-! ## Bits that a written 1 clears -/

theorem State.rd_plainWrite_w1c (s : State) {id : RegId} (h : (id.info.rw == 0 && id.info.w1c == id.info.mask &&
    id.info.w1s == 0) = true) (v : W32) (i : Nat) : (s.plainWrite (R id i) v).rd (R id i) =
      s.rd (R id i) &&& ~~~(v &&& (R id).mask) &&& (R id).mask := by
  simp only [Bool.and_eq_true, beq_iff_eq] at h
  obtain ⟨⟨hrw, hc⟩, hs⟩ := h
  refine (s.rd_wr_same _ _).trans ?_
  change (((s.rd (R id i) &&& ~~~id.info.rw) ||| (v &&& id.info.rw)) &&& ~~~(v &&& id.info.w1c) ||| (v &&& id.info.w1s)) &&&
    id.info.mask = s.rd (R id i) &&& ~~~(v &&& id.info.mask) &&& id.info.mask
  rw [hrw, hc, hs]
  simp only [BitVec.ofNat_eq_ofNat, BitVec.and_zero, BitVec.or_zero, BitVec.not_zero, BitVec.and_allOnes]

/-- An event register that has no rule of its own clears where 1 is written. -/
theorem completes_eventWrite {s : State} {m : Master} {id : RegId} {i : Nat} {v : W32} (ha : s.accepts m (R id i) = true)
    (hp : ∀ n < id.bound, (R id n).placed = true)
    (hw : ∀ t : State, State.regWrite m (R id i) v t = t.plainWrite (R id i) v)
    (hb : (id.info.rw == 0 && id.info.w1c == id.info.mask && id.info.w1s == 0) = true) :
    Completes (.registerWrite m (R id i).addr v) s fun t =>
      t.rd (R id i) = s.rd (R id i) &&& ~~~(v &&& (R id).mask) &&& (R id).mask := by
  refine Completes.of_exec (exec_registerWrite_of_placed ha hp v) ?_
  rw [hw]
  exact State.rd_plainWrite_w1c (s.rewritten _) hb v i

/-- Settles O47. -/
theorem eventBitsClearWhereOneIsWritten : Obligations.EventBitsClearWhereOneIsWritten := by
  unfold Obligations.EventBitsClearWhereOneIsWritten
  refine ⟨?rx, ?fec, ?ca, ?grp, ?lane, ?link, ?sof, ?hay, ?cip, ?pmu, ?rst, ?stb, ?mon, ?pcc, ?cal, ?bst⟩
  case rx => exact fun s m i v ha => completes_eventWrite ha (by decide +kernel) (fun _ => rfl) rfl
  case fec => exact fun s m i v ha => completes_eventWrite ha (by decide +kernel) (fun _ => rfl) rfl
  case ca => exact fun s m i v ha => completes_eventWrite ha (by decide +kernel) (fun _ => rfl) rfl
  case grp => exact fun s m i v ha => completes_eventWrite ha (by decide +kernel) (fun _ => rfl) rfl
  case lane => exact fun s m i v ha => completes_eventWrite ha (by decide +kernel) (fun _ => rfl) rfl
  case link => exact fun s m i v ha => completes_eventWrite ha (by decide +kernel) (fun _ => rfl) rfl
  case sof => exact fun s m v ha => completes_eventWrite ha (by decide +kernel) (fun _ => rfl) rfl
  case hay => exact fun s m v ha => completes_eventWrite ha (by decide +kernel) (fun _ => rfl) rfl
  case cip => exact fun s m v ha => completes_eventWrite ha (by decide +kernel) (fun _ => rfl) rfl
  case pmu => exact fun s m v ha => completes_eventWrite ha (by decide +kernel) (fun _ => rfl) rfl
  case rst => exact fun s m v ha => completes_eventWrite ha (by decide +kernel) (fun _ => rfl) rfl
  case stb => exact fun s m v ha => completes_eventWrite ha (by decide +kernel) (fun _ => rfl) rfl
  case mon => exact fun s m v ha => completes_eventWrite ha (by decide +kernel) (fun _ => rfl) rfl
  case pcc => exact fun s m v ha => completes_eventWrite ha (by decide +kernel) (fun _ => rfl) rfl
  case cal => exact fun s m v ha => completes_eventWrite ha (by decide +kernel) (fun _ => rfl) rfl
  case bst => exact fun s m v ha => completes_eventWrite ha (by decide +kernel) (fun _ => rfl) rfl

end Sys2Proof.Machine
end

section
/-! The LO half of a counter waits for its HI half (spec/17, spec/18): O46. -/

namespace Sys2Proof.Machine

variable (s : State)

/-- A write of LO is held for its master. -/
theorem exec_registerWrite_ctrLo {s : State} {m : Master} {n : Nat} (ha : s.accepts m (R .PMC_CTR_LO n) = true) (v : W32) :
    exec (.registerWrite m (R .PMC_CTR_LO n).addr v) s =
      .next (State.holdLo m (R .PMC_CTR_LO n) v (s.rewritten (R .PMC_CTR_LO n))) :=
  exec_registerWrite_of_placed ha (by decide +kernel) v

/-! ## Halves held -/

theorem State.accepts_holdLo (m m' : Master) (k lo : RegKey) (v : W32) :
    (State.holdLo m' lo v s).accepts m k = s.accepts m k := rfl

theorem State.accepts_rewritten (m : Master) (k k' : RegKey) : (s.rewritten k').accepts m k = s.accepts m k := rfl

theorem State.heldLo_rewritten (m : Master) (lo k : RegKey) : (s.rewritten k).heldLo m lo = s.heldLo m lo := rfl

theorem State.heldLo_holdLo (m : Master) (lo : RegKey) (v : W32) : (State.holdLo m lo v s).heldLo m lo = v := by
  have first : (State.holdLo m lo v s).fab.held.find? (fun e => e.1 == masterCode m && e.2.1 == lo) =
      some (masterCode m, lo, v) := List.find?_cons_of_pos (by simp)
  rw [State.heldLo, first]

/-- What another master holds is left alone. -/
theorem State.heldLo_holdLo_ne {m m' : Master} (h : masterCode m ≠ masterCode m') (lo : RegKey) (v : W32) :
    (State.holdLo m' lo v s).heldLo m lo = s.heldLo m lo := by
  have skip : (State.holdLo m' lo v s).fab.held.find? (fun e => e.1 == masterCode m && e.2.1 == lo) =
      s.fab.held.find? (fun e => e.1 == masterCode m && e.2.1 == lo) := by
    refine (List.find?_cons_of_neg (by simp [h.symm])).trans ?_
    rw [List.find?_filter]
    refine congrArg (fun p => s.fab.held.find? p) (funext fun e => ?_)
    by_cases he : e.1 = masterCode m <;> simp [he, h, beq_eq_decide]
  rw [State.heldLo, skip]
  rfl

/-- The HI half's write loads both. -/
theorem completes_ctrLoad {m : Master} {n : Nat} {lo hi : W32} (ha : s.accepts m (R .PMC_CTR_HI n) = true)
    (hl : s.heldLo m (R .PMC_CTR_LO n) = lo) : Completes (.ctrLoad m n hi) s fun t =>
      t.rd (R .PMC_CTR_LO n) = lo ∧ t.rd (R .PMC_CTR_HI n) = hi &&& 0xFFFF := by
  refine Completes.of_guardW ha rfl ⟨?_, State.rd_wr_same ..⟩
  refine (State.rd_wr_name _ rfl ..).trans ((State.rd_wr_same ..).trans (BitVec.and_allOnes.trans ?_))
  rw [State.heldLo_rewritten, hl]

/-- Settles O46. -/
theorem pairedHalves : Obligations.PairedHalves := by
  unfold Obligations.PairedHalves
  refine ⟨?alone, ?between⟩
  case alone =>
    intro s m n lo hi hlo hhi
    refine Completes.of_exec (exec_registerWrite_ctrLo hlo lo) ⟨rfl, completes_ctrLoad _ ?_ (State.heldLo_holdLo ..)⟩
    rw [State.accepts_holdLo, State.accepts_rewritten, hhi]
  case between =>
    intro s m m2 n lo lo2 hi hlo hlo2 hhi hne
    refine Completes.of_exec (exec_registerWrite_ctrLo hlo lo) (Completes.of_exec (exec_registerWrite_ctrLo ?_ lo2)
      (completes_ctrLoad _ ?_ ?_))
    · rw [State.accepts_holdLo, State.accepts_rewritten, hlo2]
    · rw [State.accepts_holdLo, State.accepts_rewritten, State.accepts_holdLo, State.accepts_rewritten, hhi]
    · rw [State.heldLo_holdLo_ne _ hne, State.heldLo_rewritten, State.heldLo_holdLo]

end Sys2Proof.Machine
end

section
/-! Accesses that a core's protection regions deny (spec/17, R393): O48. -/

namespace Sys2Proof.Machine

variable (s : State)

/-- A denied access is the core's fault record and nothing else. -/
theorem State.issue_denied {m : Master} {addr size : Nat} {w : Option W32} {f : State → State} (hc : s.canIssue m = true)
    (hd : s.denied m addr (bit w.isSome) = true) :
    s.issue m addr w f size = s.mpuFault (coreOf m) addr (bit w.isSome) := by
  simp only [State.issue, hc, hd, Bool.not_true, Bool.false_eq_true, if_false, if_true]

/-- A core's aligned access that its regions deny. -/
theorem State.access_denied {m : Master} {addr size : Nat} {w : Option W32} (hm : isCore m = true) (hc : s.canIssue m = true)
    (hlt : addr < 2 ^ 32) (hal : addr % width size = 0) (hd : s.denied m addr (bit w.isSome) = true) :
    s.access m addr size w = s.mpuFault (coreOf m) addr (bit w.isSome) := by
  have word : wordOnly m = false :=
    match m, hm with
    | .core _, _ => rfl
    | .user _, _ => rfl
  have hmod : addr % 2 ^ 32 = addr := Nat.mod_eq_of_lt hlt
  simp only [State.access, word, hmod, hal, hm, Bool.false_eq_true, if_false, bne_self_eq_false, Bool.and_false]
  exact s.issue_denied hc hd

/-- With no region over the address user mode is denied and machine mode is not. -/
theorem State.mpuDenies_uncovered {c addr : Nat} (h : ∀ r, r < 16 → s.mpuHit c r addr = false) (kind : Nat) (mach : Bool) :
    s.mpuDenies c addr kind mach = !mach := by
  have none : (List.range 16).find? (fun r => s.mpuHit c r addr) = none :=
    List.find?_eq_none.2 fun r hr => ne_true_of_eq_false (h r (List.mem_range.1 hr))
  rw [State.mpuDenies, none]

theorem completes_userRead_denied {c addr size : Nat} (hlt4 : c < 4) (hc : s.canIssue (.user c) = true) (hlt : addr < 2 ^ 32)
    (hal : addr % width size = 0) (hd : s.mpuDenies c addr 0 false = true)
    (hv : s.flag F.CORE_MPU_FAULT_INFO_VALID c = false) : Completes (.rcRead (.user c) addr size) s fun t =>
      t.fab = s.fab ∧ t.flag F.CORE_MPU_FAULT_INFO_VALID c = true ∧ t.fld F.CORE_MPU_FAULT_INFO_KIND c = 0 ∧
        t.rdN (R .CORE_MPU_FAULT c) = addr := by
  have core : c % 4 = c := Nat.mod_eq_of_lt hlt4
  have denied : s.denied (.user c) addr 0 = true := by rw [State.denied, core, hd]
  have he : exec (.rcRead (.user c) addr size) s = .next (s.mpuFault c addr 0) := by
    change Host.Outcome.next (s.access (.user c) addr size none) = _
    rw [s.access_denied (w := none) (size := size) rfl hc hlt hal denied, coreOf, core]
    rfl
  obtain ⟨h1, h2, h3⟩ := s.mpuFault_first addr (by decide : 0 ≤ 2) hv
  exact Completes.of_exec he ⟨(State.mpuFault_upd ..).fab rfl, h1, h2, h3.trans (Nat.mod_eq_of_lt hlt)⟩

theorem completes_coreWrite_denied {c addr : Nat} (v : W32) (hlt4 : c < 4) (hc : s.canIssue (.core c) = true)
    (hlt : addr < 2 ^ 32) (hal : addr % 4 = 0) (hd : s.mpuDenies c addr 1 true = true)
    (hv : s.flag F.CORE_MPU_FAULT_INFO_VALID c = false) : Completes (.registerWrite (.core c) addr v) s fun t =>
      t.fab = s.fab ∧ t.ram = s.ram ∧ t.flag F.CORE_MPU_FAULT_INFO_VALID c = true ∧
        t.fld F.CORE_MPU_FAULT_INFO_KIND c = 1 ∧ t.rdN (R .CORE_MPU_FAULT c) = addr := by
  have core : c % 4 = c := Nat.mod_eq_of_lt hlt4
  have denied : s.denied (.core c) addr 1 = true := by rw [State.denied, core, hd]
  have he : exec (.registerWrite (.core c) addr v) s = .next (s.mpuFault c addr 1) := by
    change Host.Outcome.next (s.access (.core c) addr 4 (some v)) = _
    rw [s.access_denied (w := some v) (size := 4) rfl hc hlt hal denied, coreOf, core]
    rfl
  obtain ⟨h1, h2, h3⟩ := s.mpuFault_first addr (by decide : 1 ≤ 2) hv
  exact Completes.of_exec he ⟨(State.mpuFault_upd ..).fab rfl, (State.mpuFault_upd ..).ram rfl, h1, h2,
    h3.trans (Nat.mod_eq_of_lt hlt)⟩

/-- Settles O48. -/
theorem deniedAccessesHaveNoEffect : Obligations.DeniedAccessesHaveNoEffect := by
  unfold Obligations.DeniedAccessesHaveNoEffect
  refine ⟨?read, ?write, ?uncovered⟩
  case read => exact fun s c addr size h4 hc hlt hal hd hv => completes_userRead_denied s h4 hc hlt hal hd hv
  case write => exact fun s c addr v h4 hc hlt hal hd hv => completes_coreWrite_denied s v h4 hc hlt hal hd hv
  case uncovered => exact fun s c addr kind h => ⟨s.mpuDenies_uncovered h kind false, s.mpuDenies_uncovered h kind true⟩

end Sys2Proof.Machine
end

section
/-! The words sent on the line read back (spec/06, spec/07): O59. -/

namespace Sys2Proof.Machine

/-- A CRC-16 has 16 bits. -/
theorem crc16_lt (n v : Nat) : crc16 n v < 2 ^ 16 := by
  induction n generalizing v with
  | zero => exact (by decide : 0xFFFF < 2 ^ 16)
  | succ n ih =>
    rw [crc16]
    have shifted : crc16 n (v / 2) % 32768 * 2 < 2 ^ 16 := by omega
    split
    · exact Nat.xor_lt_two_pow shifted (by decide)
    · exact shifted

/-! ## The header -/

theorem bit_lt (b : Bool) : bit b < 2 := by
  cases b <;> decide

theorem bit_beq (b : Bool) : (bit b == 1) = b := by
  cases b <;> rfl

theorem headerTop_lt (h : Header) : headerTop h < 2 ^ 32 := by
  have hp := bit_lt h.pend
  have hr := bit_lt h.rdi
  unfold headerTop
  omega

/-- A header in range is read back from its 48 bits. -/
theorem headerOf_headerBits {h : Header} (hf : h.fn < 256) (hc : h.count < 32) (hd : h.desc < 256) (hs : h.scid < 8) :
    headerOf (headerBits h) = some h := by
  have top := headerTop_lt h
  have low := crc16_lt 32 (headerTop h)
  obtain ⟨w, hw⟩ : ∃ w, (headerBits h).toNat = w := ⟨_, rfl⟩
  have word : w = headerTop h * 65536 + crc16 32 (headerTop h) := by
    rw [← hw, headerBits, BitVec.toNat_ofNat]
    omega
  have upper : w / 65536 = headerTop h := by omega
  have lower : w % 65536 = crc16 32 (headerTop h) := by omega
  simp only [headerOf, hw, upper, lower, if_true]
  obtain ⟨fn, pend, count, desc, rdi, scid⟩ := h
  have hp := bit_lt pend
  have hr := bit_lt rdi
  simp only [headerTop] at hf hc hd hs upper
  have e1 : w / 2 ^ 40 = fn := by omega
  have e2 : w / 2 ^ 39 % 2 = bit pend := by omega
  have e3 : w / 2 ^ 34 % 32 = count := by omega
  have e4 : w / 2 ^ 24 % 256 = desc := by omega
  have e5 : w / 2 ^ 23 % 2 = bit rdi := by omega
  have e6 : w / 2 ^ 20 % 8 = scid := by omega
  rw [e1, e2, e3, e4, e5, e6, bit_beq, bit_beq]

/-! ## The overhead -/

theorem overheadOf_overheadBytes {o : Overhead} (hr : o.rdiMap < 256) (hj : o.jc < 2048) (hs : o.sr < 65536) :
    overheadOf (overheadBytes o) = o := by
  obtain ⟨rdiMap, jc, sr, tti, msi, rei, ttm, mcc⟩ := o
  simp only at hr hj hs
  simp [overheadOf, overheadBytes]
  omega

/-! ## The record header -/

/-- A record's header with its HEC is valid and gives the frame's length. -/
theorem recOk_recordHeader {len : Nat} (hlo : 64 ≤ len) (hhi : len ≤ 9248) : recOk (recordHeader len 1).toNat = true ∧
    (recordHeader len 1).toNat / 2 ^ 18 = len := by
  obtain ⟨top, htop⟩ : ∃ top, len % 2 ^ 14 * 4 + 1 % 4 = top := ⟨_, rfl⟩
  have hlt : top < 2 ^ 16 := by omega
  have low := crc16_lt 16 top
  obtain ⟨w, hw⟩ : ∃ w, (recordHeader len 1).toNat = w := ⟨_, rfl⟩
  have word : w = top * 65536 + crc16 16 top := by
    rw [← hw, recordHeader, htop, withCrc, Nat.mod_eq_of_lt hlt, BitVec.toNat_ofNat]
    omega
  have upper : w / 65536 = top := by omega
  have lower : w % 65536 = crc16 16 top := by omega
  have type : top % 4 = 1 := by omega
  have length : w / 2 ^ 18 = len := by omega
  have fits : len % 2 ^ 14 = len := Nat.mod_eq_of_lt (by omega)
  rw [hw]
  refine ⟨?_, length⟩
  simp only [recOk, upper, lower, length, fits, type, beq_self_eq_true, if_true, hlo, hhi, decide_true, Bool.and_self]

/-- Settles O59. -/
theorem lineWordsRoundTrip : Obligations.LineWordsRoundTrip := by
  unfold Obligations.LineWordsRoundTrip
  refine ⟨fun h => headerOf_headerBits, ?overhead, fun len => recOk_recordHeader⟩
  case overhead => exact fun o hr hj hs => ⟨rfl, overheadOf_overheadBytes hr hj hs⟩

end Sys2Proof.Machine
end

section
/-! The symbols of a transmitted frame and the words of a DAC lane (spec/03, spec/06): O60. -/

namespace Sys2Proof.Machine

variable (s : State)

/-! ## Known symbols -/

theorem length_bitPairs : ∀ l : List Bool, (bitPairs l).length = l.length / 2
  | [] => rfl
  | [_] => by simp [bitPairs]
  | _ :: _ :: l => by
    rw [bitPairs, List.length_cons, length_bitPairs l, List.length_cons, List.length_cons]
    omega

theorem length_msbBits (n v : Nat) : (msbBits n v).length = n := by
  simp [msbBits]

/-- Alignment word, guard and header are 48 symbols. -/
theorem length_knownSymbols (y : Bool) (h : Header) : (knownSymbols y h).length = 48 := by
  rw [knownSymbols, length_bitPairs, List.length_append, List.length_append, length_msbBits, length_msbBits, length_msbBits]

/-! ## Symbols by their index -/

/-- A pilot stands at every 32nd index. -/
theorem State.symbols_pilot (i pad : Nat) (y : Bool) (h : Header) (o : Overhead) (pay : Nat → List Byte) {j : Nat}
    (hj : j < 256) : (s.symbols i pad y h o pay)[32 * j]? =
      some (qpsk (Config.level 1 (s.pilotBoost (i / 8))) (pilotBits y (i % 8) j)) := by
  have pilot : isPilot (32 * j) = true := by simp [isPilot]
  have number : 32 * j / 32 = j := Nat.mul_div_cancel_left j (by decide)
  rw [State.symbols, List.getElem?_map, List.getElem?_range (by omega), Option.map_some]
  simp only [pilot, number, if_true]

/-- Index n + ⌊n/31⌋ + 1 is that of non-pilot n. -/
theorem nonPilot_index (n : Nat) : isPilot (n + n / 31 + 1) = false ∧ nonPilot (n + n / 31 + 1) = n := by
  constructor
  · rw [isPilot, beq_eq_false_iff_ne]
    omega
  · rw [nonPilot]
    omega

/-- The first 48 other symbols are the known ones. -/
theorem State.symbols_known (i pad : Nat) (y : Bool) (h : Header) (o : Overhead) (pay : Nat → List Byte) {n : Nat}
    (hn : n < 48) : (s.symbols i pad y h o pay)[n + n / 31 + 1]? = (knownSymbols y h)[n]?.map (qpsk (Config.level 0 0)) := by
  obtain ⟨other, number⟩ := nonPilot_index n
  have len : ((knownSymbols y h).map (qpsk (Config.level 0 0))).length = 48 := by
    rw [List.length_map, length_knownSymbols]
  rw [State.symbols, List.getElem?_map, List.getElem?_range (by omega), Option.map_some, ← List.getElem?_map]
  simp only [other, number, Bool.false_eq_true, if_false]
  rw [List.getD_eq_getElem?_getD, List.getElem?_append_left (by omega), List.getElem?_eq_getElem (by omega)]
  rfl

/-! ## Payload -/

/-- A byte of a slot without bytes is 0. -/
theorem payload_idle {n wf b : Nat} {slot : Nat → List Byte} (hb : b < n * wf) (hs : slot (b % n) = []) :
    (payload n wf slot)[b]? = some 0 := by
  rw [payload, List.getElem?_map, List.getElem?_range hb, Option.map_some, slotOfByte, hs]
  rfl

/-- An unmapped slot has no bytes. -/
theorem State.slotOut_unmapped {i e : Nat} (pay : Nat → List Byte) (h : mapValid ((s.sc i).mapTx.getD e 0) = false) :
    s.slotOut i pay e = [] := by
  have feed : s.slotFeed i e = false := by
    rw [State.slotFeed, State.feeds, h, Bool.false_and, Bool.and_false]
  rw [State.slotOut, feed, if_neg Bool.false_ne_true]

/-! ## DAC words -/

theorem saturate8_range (z : Int) : -128 ≤ saturate8 z ∧ saturate8 z ≤ 127 := by
  unfold saturate8
  omega

theorem State.dacWords_range (c l k : Nat) (v : List Int) :
    -128 ≤ (s.dacWords c l v).getD k 0 ∧ (s.dacWords c l v).getD k 0 ≤ 127 := by
  rw [State.dacWords, List.getD_eq_getElem?_getD, List.getElem?_map]
  cases (Config.delay ((s.car c).skew.get 0 l) (s.preEmphasis c l v))[k]? with
  | none => exact (by decide : (-128 : Int) ≤ 0 ∧ (0 : Int) ≤ 127)
  | some z => exact saturate8_range _

/-- Settles O60. -/
theorem transmittedSymbols : Obligations.TransmittedSymbols := by
  unfold Obligations.TransmittedSymbols
  refine ⟨?pilot, ?known, ?idle, ?unmapped, ?range⟩
  case pilot => exact fun s i pad y h o pay j hj => s.symbols_pilot i pad y h o pay hj
  case known => exact fun s i pad y h o pay n hn => s.symbols_known i pad y h o pay hn
  case idle => exact fun n wf b slot hb hs => payload_idle hb hs
  case unmapped => exact fun s i e pay h => s.slotOut_unmapped pay h
  case range => exact fun s c l k v => s.dacWords_range c l k v

end Sys2Proof.Machine
end

section
/-! What events of one unit leave of the others (O55): a relation between states that says which registers stay in
the other instances, a rule for each way a state is changed, and the events. -/

namespace Sys2Proof.Machine

/-- The registers `regs` of every index but `i` are the same in both states. -/
structure Away (regs : List RegId) (i : Nat) (s t : State) : Prop where
  rd : ∀ k : RegKey, k.id ∈ regs → k.i ≠ i → t.rd k = s.rd k

section Rules

variable {regs : List RegId} {i : Nat} {s t : State}

theorem Away.refl : Away regs i s s := ⟨fun _ _ _ => rfl⟩

theorem Away.step {u : State} (h : Away regs i s t) (g : Away regs i t u) : Away regs i s u :=
  ⟨fun k hk hi => (g.rd k hk hi).trans (h.rd k hk hi)⟩

/-! ### Writes of the unit itself -/

theorem Away.wr (h : Away regs i s t) (id : RegId) (v : W32) (j : Nat) : Away regs i s (t.wr (R id i j) v) :=
  h.step ⟨fun k _ hi => t.rd_wr_i _ k v hi⟩

theorem Away.wrN (h : Away regs i s t) (id : RegId) (n j : Nat) : Away regs i s (t.wrN (R id i j) n) := h.wr id _ j

theorem Away.bump (h : Away regs i s t) (id : RegId) (j : Nat) : Away regs i s (t.bump (R id i j)) :=
  h.step ⟨fun k _ hi => t.rd_bump_i _ k hi⟩

theorem Away.setFld (h : Away regs i s t) (f : Fld) (n j : Nat) : Away regs i s (t.setFld f n i j) := h.wr f.reg _ j

theorem Away.setFlag (h : Away regs i s t) (f : Fld) (b : Bool) (j : Nat) : Away regs i s (t.setFlag f b i j) :=
  h.setFld f _ j

theorem Away.raise (h : Away regs i s t) (f : Fld) (j : Nat) : Away regs i s (t.raise f i j) := h.setFld f _ j

theorem Away.add64 (h : Away regs i s t) (lo hi : RegId) (n j : Nat) :
    Away regs i s (t.add64 (R lo i j) (R hi i j) n) := (h.wrN lo _ j).wrN hi _ j

/-! ### Writes of other registers, and changes beside the registers -/

theorem Away.setFld_other (h : Away regs i s t) {f : Fld} (hf : regs.contains f.reg = false) (n a b : Nat) :
    Away regs i s (t.setFld f n a b) :=
  h.step ⟨fun k hk _ => t.rd_wr_id (fun e => by
    have e' : k.id = f.reg := e
    rw [e'] at hk
    simp [hk] at hf) _⟩

theorem Away.raise_other (h : Away regs i s t) {f : Fld} (hf : regs.contains f.reg = false) (a b : Nat) :
    Away regs i s (t.raise f a b) := h.setFld_other hf _ a b

theorem Away.elsewhere {w : Nat} {u : State} (h : Away regs i s t) (hu : Upd w t u)
    (hw : (regs.all fun id => !w.testBit id.ctorIdx) = true) : Away regs i s u :=
  h.step ⟨fun k hk _ => hu.rd_of k.id k.i k.j (by simpa using List.all_eq_true.1 hw k.id hk)⟩

theorem Away.same {u : State} (h : Away regs i s t) (hr : u.regs = t.regs) : Away regs i s u :=
  h.step ⟨fun k _ _ => by rw [State.rd, State.rd, hr]⟩

theorem Away.modCar (h : Away regs i s t) (c : Nat) (f : Carrier → Carrier) : Away regs i s (t.modCar c f) :=
  h.same rfl

theorem Away.modSc (h : Away regs i s t) (c : Nat) (f : Sc → Sc) : Away regs i s (t.modSc c f) :=
  h.same rfl

theorem Away.modPort (h : Away regs i s t) (c : Nat) (f : PortOut → PortOut) : Away regs i s (t.modPort c f) :=
  h.same rfl

theorem Away.modPccT (h : Away regs i s t) (c : Nat) (f : PccTx → PccTx) : Away regs i s (t.modPccT c f) :=
  h.same rfl

theorem Away.modPccR (h : Away regs i s t) (c : Nat) (f : PccRx → PccRx) : Away regs i s (t.modPccR c f) :=
  h.same rfl

theorem Away.modPair (h : Away regs i s t) (c : Nat) (f : MonPair → MonPair) : Away regs i s (t.modPair c f) :=
  h.same rfl

theorem Away.modLink (h : Away regs i s t) (c : Nat) (f : Link → Link) : Away regs i s (t.modLink c f) :=
  h.same rfl

theorem Away.modCalCar (h : Away regs i s t) (c : Nat) (f : CalCar → CalCar) : Away regs i s (t.modCalCar c f) :=
  h.same rfl

theorem Away.modPwr (h : Away regs i s t) (f : Pwr → Pwr) : Away regs i s (t.modPwr f) :=
  h.same rfl

theorem Away.modBst (h : Away regs i s t) (f : Bst → Bst) : Away regs i s (t.modBst f) :=
  h.same rfl

/-! ### Choices -/

theorem Away.ite {u : State} {b : Prop} [Decidable b] (h : Away regs i s t) (g : Away regs i s u) :
    Away regs i s (if b then t else u) := by
  split
  · exact h
  · exact g

theorem Away.when (h : Away regs i s t) {b : Bool} {f : State → State} (hf : ∀ u, Away regs i s u → Away regs i s (f u)) :
    Away regs i s (t.when b f) := (hf t h).ite h

theorem Away.upto (h : Away regs i s t) {n : Nat} {f : Nat → State → State}
    (hf : ∀ x u, Away regs i s u → Away regs i s (f x u)) : Away regs i s (t.upto n f) :=
  t.upto_holds (fun u => Away regs i s u) f n (fun x u _ hu => hf x u hu) h

end Rules

/-- An event that happens only on a condition keeps what its effect keeps. -/
theorem Only.of_if {regs : List RegId} {i : Nat} {c : Instr} {b : State → Prop} [∀ s, Decidable (b s)] {g : State → State}
    (he : ∀ s, exec c s = .next (if b s then g s else s)) (h : ∀ s, Away regs i s (g s)) : Only regs i c := by
  intro s t ht
  obtain rfl : _ = t := Host.Outcome.next.inj ((he s).symm.trans ht)
  exact ((h s).ite .refl).rd

theorem Only.of_next {regs : List RegId} {i : Nat} {c : Instr} {g : State → State}
    (he : ∀ s, exec c s = .next (g s)) (h : ∀ s, Away regs i s (g s)) : Only regs i c := by
  intro s t ht
  obtain rfl : _ = t := Host.Outcome.next.inj ((he s).symm.trans ht)
  exact (h s).rd

/-! ## What the shared operations keep -/

section Operations

variable {regs : List RegId} {i : Nat} {s t : State}

theorem Away.holdEnd (h : Away regs i s t) : Away regs i s (t.holdEnd i) := by
  unfold State.holdEnd
  exact h.ite ((h.modCar ..).when fun u hu => hu.setFld ..)

theorem Away.skewSettle (h : Away regs i s t) (l : Nat) : Away regs i s (t.skewSettle i l) := by
  unfold State.skewSettle
  exact (h.setFlag ..).ite ((h.modCar ..).setFlag ..)

theorem Away.fofsNew (h : Away regs i s t) (v : Int) : Away regs i s (t.fofsNew i v) := by
  unfold State.fofsNew
  exact (h.setFld ..).when fun u hu => hu.raise ..

theorem Away.sopNew (h : Away regs i s t) (rate : Nat) : Away regs i s (t.sopNew i rate) := by
  unfold State.sopNew
  exact (h.modSc ..).when fun u hu => hu.raise ..

theorem Away.pauseSend (h : Away regs i s t) (old new : Nat) : Away regs i s (t.pauseSend i old new) := by
  unfold State.pauseSend
  exact h.when fun u hu => (hu.modPort ..).add64 ..

theorem Away.pauseAgain (h : Away regs i s t) : Away regs i s (t.pauseAgain i) := by
  unfold State.pauseAgain
  exact h.when fun u hu => hu.pauseSend ..

theorem Away.pausePort (h : Away regs i s t) : Away regs i s (t.pausePort i) := by
  unfold State.pausePort
  exact h.ite ((h.setFld ..).when fun u hu => hu.pauseSend ..)

theorem Away.pauseRx (h : Away regs i s t) (pfc : Bool) (en : Nat) (quanta : List Nat) :
    Away regs i s (t.pauseRx i pfc en quanta) := by
  unfold State.pauseRx
  refine Away.ite ((h.add64 ..).upto fun x u hu => ?_) ((h.add64 ..).setFlag ..)
  exact (hu.setFld ..).ite hu

theorem Away.gainStep (h : Away regs i s t) (lvl : Int) (force : Bool) : Away regs i s (t.gainStep i lvl force) := by
  unfold State.gainStep
  exact (h.setFld ..).ite ((h.setFld ..).ite h)

theorem Away.storeLive (h : Away regs i s t) (ok : Bool) (he : regs.contains F.CAL_EVT_STORE_FAIL.reg = false) :
    Away regs i s (t.storeLive i ok) := by
  unfold State.storeLive
  exact ((h.modCalCar ..).wr ..).ite ((h.modCalCar ..).raise_other he ..)

theorem Away.wakeTry (h : Away regs i s t) : Away regs i s (t.wakeTry i) := by
  unfold State.wakeTry
  exact (h.setFld ..).modPwr ..

end Operations

theorem Away.hypCheck {regs : List RegId} {i : Nat} {s t : State} (h : Away regs i s t) (pos errs : Nat) :
    Away regs i s (t.hypCheck i pos errs) := by
  unfold State.hypCheck
  exact (h.modSc ..).setFld ..

theorem Away.imgSend {regs : List RegId} {i : Nat} {s t : State} (h : Away regs i s t) : Away regs i s (t.imgSend i) := by
  unfold State.imgSend
  exact (h.setFld ..).modLink ..

/-! ## Events of a host port, a transmitter or a slot of the Postcards, and a bin -/

theorem only_pauseExpiry (p : Nat) (prio : Option Nat) : Only [.SOF_PORT_STATUS] p (.pauseExpiry p prio) := by
  refine Only.of_if (fun _ => rfl) fun s => ?_
  cases prio with
  | none => exact Away.refl.setFld ..
  | some q => exact Away.refl.setFld ..

theorem only_txDone (c : Nat) : Only [.PCC_TX_STATUS, .PCC_TX_SENT] c (.txDone c) := by
  refine Only.of_next (fun _ => rfl) fun s => ?_
  cases (s.pccT c).active with
  | none => exact .refl
  | some p =>
    refine Away.ite .refl (Away.ite (Away.refl.modPccT ..) ?_)
    exact (((Away.refl.modPccT ..).bump ..).setFlag ..).when fun u hu => hu.raise_other rfl ..

theorem only_txExpired (c : Nat) : Only [.PCC_TX_STATUS, .PCC_TX_EXPIRED_CNT] c (.txExpired c) := by
  refine Only.of_next (fun _ => rfl) fun s => Away.ite .refl ?_
  cases (s.pccT c).queue with
  | nil => exact .refl
  | cons p l => exact ((((Away.refl.modPccT ..).setFld ..).bump ..).raise_other rfl ..).ite .refl

theorem only_preambleDetection (k : Nat) (lvl : Int) : Only [.PCC_SLOT_STATUS] k (.preambleDetection k lvl) := by
  refine Only.of_next (fun _ => rfl) fun s => Away.ite .refl ?_
  exact Away.setFlag (Away.setFld (Away.modPccR (Away.when (Away.refl.setFld ..) fun u hu => hu.gainStep ..) ..) ..) ..

theorem only_binBlock (b : Nat) (sec ns : W32) :
    Only [.MON_BIN_MAG, .MON_BIN_PHASE, .MON_BIN_SEC, .MON_BIN_NS, .MON_BIN_MISS] b (.binBlock b sec ns) := by
  refine Only.of_next (fun _ => rfl) fun s => Away.ite .refl ?_
  refine Away.elsewhere ?_ (State.slotLevel_upd ..) rfl
  refine Away.same (t := State.wr _ (R .MON_BIN_NS b) ns) ?_ rfl
  exact ((((Away.refl.when fun u hu => hu.bump ..).wrN ..).wrN ..).wr ..).wr ..

/-- Settles O55. -/
theorem instanceFrames : Obligations.InstanceFrames := by
  unfold Obligations.InstanceFrames
  refine ⟨?chgDone, ?holdTimeout, ?service, ?skewRamp, ?fofs, ?boost, ?store, ?cdFine, ?degSet, ?degClear, ?sop, ?prefecSet,
    ?prefecClear, ?hyp, ?grpUp, ?refresh, ?expiry, ?received, ?holdEnd, ?portUp, ?txDone, ?txExpired, ?preamble, ?bound,
    ?trainDone, ?trainFail, ?cdrLock, ?settled, ?bin, ?imgWant, ?imgRestart, ?bstExpired, ?liveStore, ?retry⟩
  case chgDone => exact fun c => Only.of_if (fun _ => rfl) fun s => (Away.refl.raise ..).setFld ..
  case holdTimeout => exact fun c => Only.of_if (fun _ => rfl) fun s => Away.refl.holdEnd.raise ..
  case service => exact fun c => Only.of_if (fun _ => rfl) fun s => (Away.refl.setFld ..).raise ..
  case skewRamp => exact fun c lane => Only.of_if (fun _ => rfl) fun s => (Away.refl.modCar ..).skewSettle ..
  case fofs => exact fun x => Only.of_if (fun _ => rfl) fun s => Away.refl.fofsNew ..
  case boost =>
    exact fun c meas => Only.of_if (fun _ => rfl) fun s => (Away.refl.setFld ..).when fun u hu => hu.raise ..
  case store => exact fun c => Only.of_if (fun _ => rfl) fun s => (Away.refl.modCar ..).setFlag ..
  case cdFine => exact fun c => Only.of_if (fun _ => rfl) fun s => Away.refl.setFlag ..
  case degSet => exact fun sc => Only.of_if (fun _ => rfl) fun s => (Away.refl.setFlag ..).raise ..
  case degClear => exact fun sc => Only.of_if (fun _ => rfl) fun s => (Away.refl.setFlag ..).raise ..
  case sop => exact fun sc rate => Only.of_if (fun _ => rfl) fun s => Away.refl.sopNew ..
  case prefecSet => exact fun sc => Only.of_if (fun _ => rfl) fun s => (Away.refl.setFlag ..).raise ..
  case prefecClear => exact fun sc => Only.of_if (fun _ => rfl) fun s => (Away.refl.setFlag ..).raise ..
  case hyp => exact fun sc pos errs => Only.of_if (fun _ => rfl) fun s => Away.refl.hypCheck ..
  case grpUp =>
    exact fun g => Only.of_if (fun _ => rfl) fun s => Away.same (t := State.raise _ F.LFM_GRP_EVT_UP g)
      ((Away.refl.setFld ..).raise ..) rfl
  case refresh => exact fun p => Only.of_if (fun _ => rfl) fun s => Away.refl.pauseAgain
  case expiry => exact only_pauseExpiry
  case received => exact fun p pfc en quanta => Only.of_if (fun _ => rfl) fun s => (Away.refl.add64 ..).pauseRx ..
  case holdEnd => exact fun g => Only.of_if (fun _ => rfl) fun s => Away.refl.setFld ..
  case portUp =>
    exact fun p => Only.of_if (fun _ => rfl) fun s => ((Away.refl.setFld ..).when fun u hu => hu.pauseAgain).pausePort
  case txDone => exact only_txDone
  case txExpired => exact only_txExpired
  case preamble => exact only_preambleDetection
  case bound => exact fun k => Only.of_if (fun _ => rfl) fun s => (Away.refl.setFlag ..).modPccR ..
  case trainDone =>
    exact fun l eq snr => Only.of_if (fun _ => rfl) fun s => (((Away.refl.setFld ..).wr ..).setFld ..).raise ..
  case trainFail =>
    exact fun l => Only.of_if (fun _ => rfl) fun s => Away.same (t := State.setFld _ F.HLN_TRAIN_STATUS_STATE 0 l)
      (((Away.refl.setFld ..).raise ..).setFld ..) rfl
  case cdrLock => exact fun l => Only.of_if (fun _ => rfl) fun s => (Away.refl.setFld ..).setFld ..
  case settled =>
    refine fun n => Only.of_next (fun _ => rfl) fun s => Away.ite .refl ?_
    exact ((Away.refl.setFld_other rfl ..).setFlag ..).modPair ..
  case bin => exact only_binBlock
  case imgWant => exact fun j => Only.of_if (fun _ => rfl) fun s => Away.refl.imgSend
  case imgRestart => exact fun d => Only.of_if (fun _ => rfl) fun s => Away.refl.imgSend
  case bstExpired =>
    exact fun t => Only.of_if (fun _ => rfl) fun s => ((Away.refl.modBst ..).setFld ..).raise_other rfl ..
  case liveStore => exact fun c ok => Only.of_if (fun _ => rfl) fun s => Away.refl.storeLive ok rfl
  case retry => exact fun d => Only.of_if (fun _ => rfl) fun s => (Away.refl.setFld ..).wakeTry

end Sys2Proof.Machine
end

section
/-! What the Hayloft's operations leave of its bytes (spec/08), for O56: a byte as it is read through the merge buffer,
and a byte of the memory. -/

namespace Sys2Proof.Machine

variable (s : State)

/-! ## Tables filtered -/

theorem Tab.look_filter_of_pos {κ α : Type} [DecidableEq κ] {t : List (κ × α)} {p : κ × α → Bool} {x : κ}
    (h : ∀ v, p (x, v) = true) : Tab.look x (t.filter p) = Tab.look x t := by
  induction t with
  | nil => rfl
  | cons e t ih =>
    obtain ⟨a, v⟩ := e
    by_cases ha : a = x
    · subst ha
      rw [List.filter_cons_of_pos (h v), Tab.look, Tab.look, if_pos rfl, if_pos rfl]
    · rw [List.filter_cons]
      split
      · rw [Tab.look, Tab.look, if_neg ha, if_neg ha, ih]
      · rw [Tab.look, if_neg ha, ih]

theorem Tab.look_filter_of_neg {κ α : Type} [DecidableEq κ] {t : List (κ × α)} {p : κ × α → Bool} {x : κ}
    (h : ∀ v, p (x, v) = false) : Tab.look x (t.filter p) = none := by
  induction t with
  | nil => rfl
  | cons e t ih =>
    obtain ⟨a, v⟩ := e
    by_cases ha : a = x
    · subst ha
      rw [List.filter_cons_of_neg (by simp [h v]), ih]
    · rw [List.filter_cons]
      split
      · rw [Tab.look, if_neg ha, ih]
      · exact ih

theorem NTab.get_filter_of_pos {α : Type} {d : α} {t : NTab α} {p : Nat × α → Bool} {x : Nat}
    (h : ∀ v, p (x, v) = true) : NTab.get d (t.filter p) x = NTab.get d t x := by
  rw [NTab.get, NTab.get, Tab.get, Tab.get, Tab.look_filter_of_pos h]

theorem NTab.get_filter_of_neg {α : Type} {d : α} {t : NTab α} {p : Nat × α → Bool} {x : Nat}
    (h : ∀ v, p (x, v) = false) : NTab.get d (t.filter p) x = d := by
  rw [NTab.get, Tab.get, Tab.look_filter_of_neg h]
  rfl

/-! ## A byte as it is read -/

/-- The byte that the merge buffer holds for an address. -/
def mergeByte (l : List Merge) (x : Nat) : Option Byte :=
  (l.find? (·.line = x / 64)).bind fun m => NTab.get none m.bytes (x % 64)

/-- A byte is the merge buffer's where it holds one, else the memory's in an open block, else 0. -/
theorem State.hayByte_eq (x : Nat) : s.hayByte x =
    (mergeByte s.hay.merge x).getD (if s.blockOpen (x / 65536) then s.hayMem.get 0 x else 0) := by
  cases h : mergeByte s.hay.merge x with
  | some b =>
    unfold mergeByte at h
    rw [State.hayByte, h, Option.getD_some]
  | none =>
    unfold mergeByte at h
    rw [State.hayByte, h, Option.getD_none]

theorem State.hayByte_of_mergeByte {s t : State} {x : Nat} (hb : t.hay.blocks = s.hay.blocks)
    (hm : t.hayMem.get 0 x = s.hayMem.get 0 x) (h : mergeByte t.hay.merge x = mergeByte s.hay.merge x) :
    t.hayByte x = s.hayByte x := by
  rw [State.hayByte_eq, State.hayByte_eq, h, State.blockOpen, State.blockOpen, hb, hm]

theorem State.hayByte_congr {s t : State} {x : Nat} (hm : t.hay.merge = s.hay.merge) (hb : t.hay.blocks = s.hay.blocks)
    (hx : t.hayMem.get 0 x = s.hayMem.get 0 x) : t.hayByte x = s.hayByte x :=
  State.hayByte_of_mergeByte hb hx (by rw [hm])

/-- Opening a block shows the zeros that it showed before. -/
theorem State.hayByte_hayOpen (b x : Nat) : (s.hayOpen b).hayByte x = s.hayByte x := by
  unfold State.hayOpen
  split
  · rfl
  · next shut =>
    have opened : (if (b :: s.hay.blocks).contains (x / 65536) then
        NTab.get 0 (s.hayMem.filter fun e => e.1 / 65536 ≠ b) x else 0) =
        if s.blockOpen (x / 65536) then s.hayMem.get 0 x else 0 := by
      by_cases hx : x / 65536 = b
      · have zero : NTab.get 0 (s.hayMem.filter fun e => e.1 / 65536 ≠ b) x = 0 :=
          NTab.get_filter_of_neg fun v => by simpa using hx
        rw [zero, ite_self, if_neg (by rw [hx]; exact shut)]
      · rw [NTab.get_filter_of_pos fun v => by simpa using hx, List.contains_cons, beq_eq_false_iff_ne.2 hx,
          Bool.false_or, State.blockOpen]
    rw [State.hayByte_eq, s.hayByte_eq]
    exact congrArg (mergeByte s.hay.merge x).getD opened

/-- A whole line's write changes its own bytes alone. -/
theorem State.hayByte_hayWhole {line x : Nat} (l : List Byte) (hx : x < 64 * line ∨ 64 * line + 64 ≤ x) :
    (s.hayWhole line l).hayByte x = s.hayByte x := by
  have short : (l.take 64).length ≤ 64 := List.length_take_le 64 l
  refine (State.hayByte_congr (s := s.hayOpen (line / 1024)) (t := s.hayWhole line l) (x := x) rfl rfl ?_).trans (s.hayByte_hayOpen ..)
  exact State.get_hayPut_out _ _ (by omega)

theorem State.flows_hayOpen (b : Nat) : (s.hayOpen b).flows = s.flows := (State.hayOpen_upd ..).flows rfl

theorem State.drr_hayOpen (b : Nat) : (s.hayOpen b).drr = s.drr := (State.hayOpen_upd ..).drr rfl

/-! ## A read of a line -/

/-- The state of the Hayloft's bytes, and of what read-back turns on, is the same. -/
structure HayKept (s t : State) : Prop where
  merge : t.hay.merge = s.hay.merge
  blocks : t.hay.blocks = s.hay.blocks
  mem : t.hayMem = s.hayMem
  flows : t.flows = s.flows
  drr : t.drr = s.drr

theorem HayKept.refl : HayKept s s := ⟨rfl, rfl, rfl, rfl, rfl⟩

variable {s} {t u : State}

theorem HayKept.trans (h : HayKept s t) (g : HayKept t u) : HayKept s u :=
  ⟨g.merge.trans h.merge, g.blocks.trans h.blocks, g.mem.trans h.mem, g.flows.trans h.flows, g.drr.trans h.drr⟩

theorem HayKept.hayByte (h : HayKept s t) (x : Nat) : t.hayByte x = s.hayByte x :=
  State.hayByte_congr h.merge h.blocks (by rw [h.mem])

theorem HayKept.of_hay (hh : t.hay = s.hay) (hm : t.hayMem = s.hayMem) (hf : t.flows = s.flows) (hd : t.drr = s.drr) :
    HayKept s t := ⟨by rw [hh], by rw [hh], hm, hf, hd⟩

theorem HayKept.hayLog (type sym line : Nat) : HayKept s (s.hayLog type sym line) := by
  obtain ⟨l, hl⟩ := s.hay_hayLog type sym line
  exact ⟨by rw [hl], by rw [hl], (State.hayLog_upd ..).hayMem rfl, (State.hayLog_upd ..).flows rfl, (State.hayLog_upd ..).drr rfl⟩

theorem HayKept.hayCe (sym line : Nat) : HayKept s (s.hayCe sym line) := by
  unfold State.hayCe
  refine HayKept.trans ?_ (.hayLog ..)
  have hu := State.count_upd 0x0C5 0 1 ((s.add64 (R .HAY_CE_TOT_LO) (R .HAY_CE_TOT_HI) 1).raise F.HAY_EVT_CE)
  exact .of_hay (hu.hay rfl) (hu.hayMem rfl) (hu.flows rfl) (hu.drr rfl)

theorem HayKept.hayUe (line : Nat) : HayKept s (s.hayUe line false) := by
  unfold State.hayUe
  refine HayKept.trans (t := ((s.poisonLine line).bump (R .HAY_UE_TOT)).raise F.HAY_EVT_UE) ?_ (.hayLog ..)
  exact ⟨rfl, rfl, rfl, rfl, rfl⟩

theorem HayKept.hayDecode (line : Nat) (e : HayEcc) : HayKept s (s.hayDecode line e false) := by
  unfold State.hayDecode
  split
  · exact .refl s
  · exact .hayCe ..
  · exact (HayKept.hayUe line).trans ⟨rfl, rfl, rfl, rfl, rfl⟩

/-- A read of a line changes no byte. -/
theorem HayKept.hayRead (line : Nat) (e : HayEcc) : HayKept s (s.hayRead line e).2 := by
  unfold State.hayRead
  split
  · exact .refl s
  · have logged : ∀ d : State, HayKept d ((d.raise F.HAY_EVT_POISON_READ).hayLog 4 0x3F line) := fun d =>
      HayKept.trans (t := d.raise F.HAY_EVT_POISON_READ) ⟨rfl, rfl, rfl, rfl, rfl⟩ (.hayLog ..)
    exact (HayKept.hayDecode line e).trans (State.when_holds _ (fun x => HayKept (s.hayDecode line e false) x) _
      (fun d => (d.raise F.HAY_EVT_POISON_READ).hayLog 4 0x3F line) (.refl _) fun _ => logged _)

end Sys2Proof.Machine
end

section
/-! The Tack Room, the SRAM and the dump ring: which bytes a store changes (spec/16, spec/17), for O56. -/

namespace Sys2Proof.Machine

variable (s : State)

theorem length_wordBytes (v : W32) : (wordBytes v).length = 4 := by simp [wordBytes]

theorem length_flatMap_wordBytes (l : List W32) : (l.flatMap wordBytes).length = 4 * l.length := by
  induction l with
  | nil => rfl
  | cons v l ih => rw [List.flatMap_cons, List.length_append, length_wordBytes, ih, List.length_cons]; omega

/-- A fold none of whose steps changes what `p` reads does not change it. -/
theorem foldl_keeps {α β γ : Type} (p : α → γ) {f : α → β → α} {l : List β} (h : ∀ t, ∀ b ∈ l, p (f t b) = p t) (t : α) :
    p (l.foldl f t) = p t := by
  induction l generalizing t with
  | nil => rfl
  | cons b l ih => exact (ih (fun t c hc => h t c (List.mem_cons_of_mem _ hc)) _).trans (h t b List.mem_cons_self)

/-! ## An access on its way to a memory -/

/-- The memories are as they were. -/
structure MemKept (s t : State) : Prop where
  tack : t.tack = s.tack
  ram : t.ram = s.ram
  hay : t.hay = s.hay
  hayMem : t.hayMem = s.hayMem

theorem MemKept.refl : MemKept s s := ⟨rfl, rfl, rfl, rfl⟩

theorem MemKept.accessErr (m : Master) (write rst : Bool) (dom addr : Nat) : MemKept s (s.accessErr m write rst dom addr) :=
  have h := State.accessErr_upd s m write rst dom addr
  ⟨h.tack rfl, h.ram rfl, h.hay rfl, h.hayMem rfl⟩

theorem MemKept.decodeErr (m : Master) (write : Bool) (kind addr : Nat) : MemKept s (s.decodeErr m write kind addr) :=
  have h := State.decodeErr_upd s m write kind addr
  ⟨h.tack rfl, h.ram rfl, h.hay rfl, h.hayMem rfl⟩

theorem MemKept.mpuFault (c addr kind : Nat) : MemKept s (s.mpuFault c addr kind) :=
  have h := State.mpuFault_upd c addr kind s
  ⟨h.tack rfl, h.ram rfl, h.hay rfl, h.hayMem rfl⟩

section Access

variable {s} {P : State → Prop} (kept : ∀ t, MemKept s t → P t)
include kept

/-- What holds of every state with these memories and of the access's effect holds of the access. -/
theorem State.issue_holds {m : Master} {addr size : Nat} {w : Option W32} {f : State → State} (h : P (f s)) :
    P (s.issue m addr w f size) := by
  unfold State.issue
  split
  · exact kept _ (.refl s)
  · split
    · exact kept _ (.mpuFault ..)
    · split
      · exact kept _ ⟨rfl, rfl, rfl, rfl⟩
      · exact h

theorem State.guardW_holds {m : Master} {k : RegKey} {v : W32} {f : State → State} (h : P (f (s.rewritten k))) :
    P (s.guardW m k v f) := by
  refine State.issue_holds kept ?_
  unfold State.putReg
  split
  · exact kept _ (.decodeErr ..)
  · split
    · exact kept _ (.accessErr ..)
    · split
      · exact kept _ ⟨rfl, rfl, rfl, rfl⟩
      · exact h

theorem State.trGuard_holds {m : Master} {off : Nat} {f : State → State} (h : P (f s)) :
    P (State.trGuard m true off f s) := by
  unfold State.trGuard
  split
  · exact h
  · exact kept _ (.accessErr ..)

theorem State.aptGuard_holds {m : Master} {off : Nat} {f : State → State} (h : P (f s)) :
    P (State.aptGuard m true off f s) := by
  unfold State.aptGuard
  dsimp only
  split
  · split
    · exact kept _ (.accessErr ..)
    · exact h
  · exact kept _ (.accessErr ..)

theorem State.ramGuard_holds {m : Master} {a : Nat} {f : State → State} (h : P (f s)) :
    P (State.ramGuard m true a f s) := by
  unfold State.ramGuard
  split
  · exact h
  · exact kept _ (.accessErr ..)

end Access

/-! ## The Tack Room -/

/-- A write that is refused or that is held changes no byte (R380). -/
theorem State.tack_tackWrite_held {m : Master} {a : Nat} (v : W32) (h : a % 8 < 4 ∨ s.tackAccepts m a = false) :
    (s.tackWrite m a v).tack = s.tack := by
  unfold State.tackWrite
  split
  · rfl
  · next accepted =>
    rw [if_pos (h.resolve_right (by simpa using accepted))]
    rfl

/-- A write changes its 64-bit word alone. -/
theorem State.tack_tackWrite_out {m : Master} {a x : Nat} (v : W32) (ha : a % 4 = 0)
    (hx : x < a / 8 * 8 ∨ a / 8 * 8 + 8 ≤ x) : (s.tackWrite m a v).tack.get 0 x = s.tack.get 0 x := by
  have out : ∀ (t : NTab Byte) (w : W32) (b : Nat), a / 8 * 8 ≤ b → b + 4 ≤ a / 8 * 8 + 8 →
      (putBytes t b (wordBytes w)).get 0 x = t.get 0 x := fun t w b h1 h2 =>
    get_putBytes_of_not_mem _ (by rw [length_wordBytes]; omega)
  unfold State.tackWrite
  split
  · rfl
  · split
    · rfl
    · extract_lets lo held t u
      have first : t.get 0 x = s.tack.get 0 x := by
        unfold t
        clear_value lo
        cases lo with
        | some e => exact out s.tack e.2.2 (a - 4) (by omega) (by omega)
        | none => rfl
      split
      · rfl
      · exact (out t v a (by omega) (by omega)).trans first

theorem State.trAddr_mod (off : Nat) : s.trAddr off % 4 = 0 := by
  unfold State.trAddr
  omega

/-- An accepted or refused write through the window reaches the Tack Room as `tackWrite` does, or not at all. -/
theorem State.tackRoomWrite_holds {P : State → Prop} {m : Master} {off : Nat} {v : W32} {t : State}
    (he : exec (.tackRoomWrite m off v) s = .next t) (kept : ∀ t, MemKept s t → P t)
    (h : P (s.tackWrite m (s.trAddr off) v)) : P t := by
  obtain rfl := Host.Outcome.next.inj he
  exact State.issue_holds kept (State.trGuard_holds kept h)

/-! ## The event log -/

theorem LogEnt.length_bytes (e : LogEnt) (n : Nat) : (e.bytes n).length = 64 := by
  rw [LogEnt.bytes, List.length_append, length_flatMap_wordBytes, length_wordBytes]
  simp [LogEnt.words]

/-- An entry written changes its own 64 bytes. -/
theorem State.tack_logWrite_out (e : LogEnt) {x : Nat} (hx : x < 0x10000 + 64 * (s.logSeq % 4096) ∨
    0x10000 + 64 * (s.logSeq % 4096) + 64 ≤ x) : (s.logWrite e).tack.get 0 x = s.tack.get 0 x :=
  get_putBytes_of_not_mem _ (by rw [e.length_bytes]; exact hx)

theorem State.tack_logDrain_out {t : State} (he : exec .logDrain s = .next t) {x : Nat} (hx : x < 0x10000 + 64 *
    (s.logSeq % 4096) ∨ 0x10000 + 64 * (s.logSeq % 4096) + 64 ≤ x) : t.tack.get 0 x = s.tack.get 0 x := by
  obtain rfl := Host.Outcome.next.inj he
  have lost : ∀ u : State, u.tack.get 0 x = s.tack.get 0 x →
      ({ u with logLost := 0 } : State).tack.get 0 x = s.tack.get 0 x := fun _ h => h
  have rest : ∀ (u : State) l, u.tack.get 0 x = s.tack.get 0 x →
      ({ u with logQ := l } : State).tack.get 0 x = s.tack.get 0 x := fun _ _ h => h
  split
  · rfl
  · split
    · exact lost _ (s.tack_logWrite_out (s.lostEntry s.logLost) hx)
    · split
      · rfl
      · next e l _ => exact rest _ l (s.tack_logWrite_out e hx)

/-! ## Writes by address into an SRAM -/

/-- A word that is not aligned is refused everywhere. -/
theorem aligned_of_decodeKind {a : Nat} {write : Bool} (h : decodeKind a 4 write = none) : a % 4 = 0 := by
  by_contra hn
  unfold decodeKind at h
  split at h <;> simp [hn] at h

/-- A word put into an SRAM that is reached, or refused. -/
theorem State.performWrite_ram {m : Master} {a : Nat} {c : Option Nat} (v : W32) (ht : target a = .ram c) :
    (s.performWrite m a 4 v).tack = s.tack ∧ (s.performWrite m a 4 v).hayMem = s.hayMem ∧
      ∀ x, x < a ∨ a + 4 ≤ x → (s.performWrite m a 4 v).ram.get 0 x = s.ram.get 0 x := by
  have kept : ∀ t, MemKept s t → t.tack = s.tack ∧ t.hayMem = s.hayMem ∧
      ∀ x, x < a ∨ a + 4 ≤ x → t.ram.get 0 x = s.ram.get 0 x := fun t h => ⟨h.tack, h.hayMem, fun x _ => by rw [h.ram]⟩
  simp only [State.performWrite, ht]
  refine State.ramGuard_holds kept ?_
  split
  · refine ⟨rfl, rfl, fun x hx => get_putBytes_of_not_mem _ ?_⟩
    rw [List.take_of_length_le (by rw [length_wordBytes]), length_wordBytes]
    exact hx
  · exact kept _ (.accessErr ..)

/-- A write by address whose word lies in an SRAM changes that word alone. -/
theorem State.registerWrite_ram {m : Master} {a : Nat} {c : Option Nat} {v : W32} {t : State}
    (he : exec (.registerWrite m a v) s = .next t) (ht : target (a % 2 ^ 32 / 4 * 4) = .ram c) :
    t.tack = s.tack ∧ t.hayMem = s.hayMem ∧
      ∀ x, x < a % 2 ^ 32 / 4 * 4 ∨ a % 2 ^ 32 / 4 * 4 + 4 ≤ x → t.ram.get 0 x = s.ram.get 0 x := by
  obtain rfl := Host.Outcome.next.inj he
  obtain ⟨b, hb⟩ : ∃ b, a % 2 ^ 32 = b := ⟨_, rfl⟩
  rw [hb] at ht ⊢
  have kept : ∀ t, MemKept s t → t.tack = s.tack ∧ t.hayMem = s.hayMem ∧
      ∀ x, x < b / 4 * 4 ∨ b / 4 * 4 + 4 ≤ x → t.ram.get 0 x = s.ram.get 0 x :=
    fun t h => ⟨h.tack, h.hayMem, fun x _ => by rw [h.ram]⟩
  have performed : ∀ d, d / 4 * 4 = b / 4 * 4 → (s.perform m d 4 (some v)).tack = s.tack ∧
      (s.perform m d 4 (some v)).hayMem = s.hayMem ∧ ∀ x, x < b / 4 * 4 ∨ b / 4 * 4 + 4 ≤ x →
        (s.perform m d 4 (some v)).ram.get 0 x = s.ram.get 0 x := by
    intro d hd
    cases hk : decodeKind d 4 true with
    | some kind =>
      simp only [State.perform, Option.isSome_some, hk]
      exact kept _ (.decodeErr ..)
    | none =>
      simp only [State.perform, Option.isSome_some, hk]
      have al : b / 4 * 4 = d := by have := aligned_of_decodeKind hk; omega
      rw [al] at ht ⊢
      exact s.performWrite_ram v ht
  have issued : ∀ d, d / 4 * 4 = b / 4 * 4 → ∀ c : Bool, (fun t : State => t.tack = s.tack ∧ t.hayMem = s.hayMem ∧
      ∀ x, x < b / 4 * 4 ∨ b / 4 * 4 + 4 ≤ x → t.ram.get 0 x = s.ram.get 0 x)
      (if c then s else s.issue m d (some v) (State.perform m d 4 (some v)) 4) := by
    intro d hd c
    cases c with
    | true => exact kept _ (.refl s)
    | false => exact State.issue_holds kept (performed d hd)
  unfold State.access
  rw [hb]
  cases wordOnly m with
  | true => exact issued (b / 4 * 4) (by omega) _
  | false => exact issued b rfl _

/-! ## Dumps -/

theorem State.length_dumpRecord : s.dumpRecord.length % 64 = 0 ∧ 0 < s.dumpRecord.length := by
  unfold State.dumpRecord
  extract_lets mask head body l
  have len : 32 ≤ l.length := by
    have : head.length = 8 := rfl
    rw [length_flatMap_wordBytes, List.length_append]
    omega
  rw [List.length_append, List.length_replicate]
  omega

theorem State.dumpSize_pos : 0 < s.dumpSize := Nat.lt_of_lt_of_le s.length_dumpRecord.2 (Nat.le_max_right ..)

/-- A record placed in shared SRAM stays in its ring. -/
theorem State.ram_dumpPut_out (p : Nat) (l : List Byte) (hd : s.flag F.PMC_DUMP_CFG_DEST = false) :
    (s.dumpPut p l).hayMem = s.hayMem ∧ ∀ x, x < 0x01100000 + s.rdN (R .PMC_DUMP_BASE) ∨
      0x01100000 + s.rdN (R .PMC_DUMP_BASE) + s.dumpSize ≤ x → (s.dumpPut p l).ram.get 0 x = s.ram.get 0 x := by
  unfold State.dumpPut
  extract_lets size base
  rw [if_neg (ne_true_of_eq_false hd)]
  refine ⟨rfl, fun x hx => foldl_keeps (fun t : NTab Byte => t.get 0 x) (fun t b _ => ?_) s.ram⟩
  have inRing : (p + b.2) % size < size := Nat.mod_lt _ s.dumpSize_pos
  have hs : size = s.dumpSize := rfl
  have hb : base = s.rdN (R .PMC_DUMP_BASE) := rfl
  change NTab.get 0 (if base + (p + b.2) % size < 0x200000 then
    NTab.set 0 t (0x01100000 + (base + (p + b.2) % size)) b.1 else t) x = _
  split
  · have apart : x ≠ 0x01100000 + (base + (p + b.2) % size) := by omega
    exact NTab.get_set_ne 0 t apart b.1
  · rfl

/-- Where the capture area and a dump's ring lie: at lines. -/
theorem State.capArea : s.capBase % 64 = 0 ∧ s.capBytes % 64 = 0 ∧ s.capBase + s.capBytes = s.hayMeta := by
  unfold State.capBase State.capBytes State.hayMeta
  cases s.fuse.zq2000
  · simp only [Bool.false_eq_true, if_false]
    have := Nat.min_le_right (s.fld F.HAY_CFG_CAP_SIZE) 32
    omega
  · simp only [if_true]
    have := Nat.min_le_right (s.fld F.HAY_CFG_CAP_SIZE) 16
    omega

end Sys2Proof.Machine
end

section
/-! Each command that stores to a memory changes only the bytes at the address that its meaning computes: O56. -/

namespace Sys2Proof.Machine

variable (s : State)

/-! ## Lines of the capture area -/

/-- A line that begins in a part of the memory made of whole lines changes no byte outside that part. -/
theorem State.hayByte_hayWhole_within {lo hi a x : Nat} (l : List Byte) (hlo : lo % 64 = 0) (hhi : hi % 64 = 0) (h1 : lo ≤ a)
    (h2 : a < hi) (hx : x < lo ∨ hi ≤ x) : (s.hayWhole (a / 64) l).hayByte x = s.hayByte x :=
  s.hayByte_hayWhole l (by omega)

theorem State.capArea_congr {s t : State} (hf : t.fuse = s.fuse) (h : t.fld F.HAY_CFG_CAP_SIZE = s.fld F.HAY_CFG_CAP_SIZE) :
    t.capBase = s.capBase ∧ t.capBytes = s.capBytes := by
  rw [State.capBase, State.hayMeta, State.capBytes, hf, h]
  exact ⟨rfl, rfl⟩

/-! ## Dumps -/

/-- The state in which a dump that is due is written. -/
def State.dumpDue (s : State) : State := { s.useFree with dumpAt := s.us }

/-- What turns on the SRAM and the Hayloft alone, and holds before and of a record placed, holds after a dump. -/
theorem State.dump_holds {P : State → Prop} {t : State} (he : exec .dump s = .next t) (hs : P s)
    (same : ∀ u v : State, v.ram = u.ram → v.hay = u.hay → v.hayMem = u.hayMem → P u → P v)
    (put : ∀ p l, P (s.dumpDue.dumpPut p l)) : P t := by
  obtain rfl := Host.Outcome.next.inj he
  split
  · exact hs
  · extract_lets late src u l size p v w
    split
    · exact same s _ rfl rfl rfl hs
    · have hv : P v := same (s.dumpDue.dumpPut p l) v rfl rfl rfl (put p l)
      have hw : P w := same v w rfl rfl rfl hv
      exact State.when_holds w P _ _ hw fun h => same w _ rfl rfl rfl h

theorem toNat_mod_64_of_masked {v : W32} (h : v &&& 0xFFFFFFC0 = v) : v.toNat % 64 = 0 := by
  have low : v &&& 63 = 0 := by
    rw [← h, BitVec.and_assoc]
    exact BitVec.and_zero
  have := congrArg BitVec.toNat low
  rwa [BitVec.toNat_and, show (63 : W32).toNat = 2 ^ 6 - 1 from rfl, Nat.and_two_pow_sub_one_eq_mod] at this

/-- The ring of a dump is made of whole lines. -/
theorem State.dumpRing_lines (h : s.Inv) : s.rdN (R .PMC_DUMP_BASE) % 64 = 0 ∧ s.dumpSize % 64 = 0 := by
  have maskSize : (R .PMC_DUMP_SIZE).mask = 0xFFFFFFC0 := rfl
  have maskBase : (R .PMC_DUMP_BASE).mask = 0xFFFFFFC0 := rfl
  have size := State.rd_and_mask h.1 (k := R .PMC_DUMP_SIZE) BitVec.zero_and
  have base := State.rd_and_mask h.1 (k := R .PMC_DUMP_BASE) BitVec.zero_and
  rw [maskSize] at size
  rw [maskBase] at base
  have size64 := toNat_mod_64_of_masked size
  have record := s.length_dumpRecord
  refine ⟨toNat_mod_64_of_masked base, ?_⟩
  unfold State.dumpSize State.rdN
  omega

/-- The capture area lies in `t` where it lies in `s`, and the byte at `x` reads as it did. -/
def AreaKept (s t : State) (x : Nat) : Prop :=
  t.fuse = s.fuse ∧ t.fld F.HAY_CFG_CAP_SIZE = s.fld F.HAY_CFG_CAP_SIZE ∧ t.hayByte x = s.hayByte x

/-- A whole line within a part of the capture area leaves the bytes outside it. -/
theorem AreaKept.line {s t : State} {x base size o : Nat} (h : AreaKept s t x) (b : Bool) (l : List Byte) (hbase : base % 64 = 0)
    (hsize : size % 64 = 0) (h1 : base ≤ o) (h2 : o < base + size)
    (hx : x < s.capBase + base ∨ s.capBase + base + size ≤ x) :
    AreaKept s (t.when b (State.hayWhole ((t.capBase + o) / 64) l)) x := by
  obtain ⟨hf, hc, hx'⟩ := h
  obtain ⟨e, -⟩ := State.capArea_congr hf hc
  obtain ⟨area, -, -⟩ := s.capArea
  refine State.when_holds t (AreaKept s · x) _ _ ⟨hf, hc, hx'⟩ fun _ => ⟨((State.hayWhole_upd ..).fuse rfl).trans hf,
    ((State.hayWhole_upd ..).fld _ _ _ rfl).trans hc, ?_⟩
  rw [e]
  exact (t.hayByte_hayWhole_within (lo := s.capBase + base) (hi := s.capBase + base + size) l (by omega) (by omega)
    (by omega) (by omega) hx).trans hx'

theorem State.ram_when_hayWhole (b : Bool) (line : Nat) (l : List Byte) : (s.when b (State.hayWhole line l)).ram = s.ram :=
  State.when_holds s (fun u => u.ram = s.ram) b (State.hayWhole line l) rfl fun _ => (State.hayWhole_upd line l s).ram rfl

/-- Line `k` of a record placed in a ring in the capture area. -/
def State.ringLine (base size p : Nat) (l : List Byte) (k : Nat) (s : State) : State :=
  s.when (base + (p + 64 * k) % size < s.capBytes)
    (State.hayWhole ((s.capBase + (base + (p + 64 * k) % size)) / 64) (l.drop (64 * k)))

theorem State.dumpPut_hay (p : Nat) (l : List Byte) (hd : s.flag F.PMC_DUMP_CFG_DEST = true) : s.dumpPut p l =
    s.upto (l.length / 64) (State.ringLine (s.rdN (R .PMC_DUMP_BASE)) s.dumpSize p l) := if_pos hd

/-- A record placed in a ring leaves, of the Hayloft, the bytes outside the ring. -/
theorem State.hayByte_ringLines {base size x : Nat} (hbase : base % 64 = 0) (hsize : size % 64 = 0) (hpos : 0 < size)
    (hx : x < s.capBase + base ∨ s.capBase + base + size ≤ x) (p n : Nat) (l : List Byte) :
    (s.upto n (State.ringLine base size p l)).hayByte x = s.hayByte x := by
  have inRing : ∀ k, k % size < size := fun k => Nat.mod_lt k hpos
  have kept : AreaKept s (s.upto n (State.ringLine base size p l)) x :=
    s.upto_holds (AreaKept s · x) _ n (fun k t _ h => h.line _ _ hbase hsize (Nat.le_add_right ..)
      (Nat.add_lt_add_left (inRing _) _) hx) ⟨rfl, rfl, rfl⟩
  exact kept.2.2

/-- A record placed in the capture area leaves the SRAM and, of the Hayloft, the bytes outside the dump's ring. -/
theorem State.hayByte_dumpPut_out (hi : s.Inv) (p : Nat) (l : List Byte) (hd : s.flag F.PMC_DUMP_CFG_DEST = true) :
    (s.dumpPut p l).ram = s.ram ∧ ∀ x, x < s.capBase + s.rdN (R .PMC_DUMP_BASE) ∨
      s.capBase + s.rdN (R .PMC_DUMP_BASE) + s.dumpSize ≤ x → (s.dumpPut p l).hayByte x = s.hayByte x := by
  obtain ⟨hbase, hsize⟩ := s.dumpRing_lines hi
  rw [s.dumpPut_hay p l hd]
  exact ⟨s.upto_keeps State.ram _ _ fun k t _ => t.ram_when_hayWhole ..,
    fun x hx => s.hayByte_ringLines hbase hsize s.dumpSize_pos hx p _ l⟩

/-- A dump into shared SRAM changes the bytes of its ring alone. -/
theorem State.dump_ram {t : State} (he : exec .dump s = .next t) (hd : s.flag F.PMC_DUMP_CFG_DEST = false) :
    t.hayMem = s.hayMem ∧ ∀ x, x < 0x01100000 + s.rdN (R .PMC_DUMP_BASE) ∨ 0x01100000 + s.rdN (R .PMC_DUMP_BASE) +
      s.dumpSize ≤ x → t.ram.get 0 x = s.ram.get 0 x :=
  s.dump_holds (P := fun t => t.hayMem = s.hayMem ∧ ∀ x, x < 0x01100000 + s.rdN (R .PMC_DUMP_BASE) ∨
      0x01100000 + s.rdN (R .PMC_DUMP_BASE) + s.dumpSize ≤ x → t.ram.get 0 x = s.ram.get 0 x) he ⟨rfl, fun _ _ => rfl⟩
    (fun _ _ hr _ hm h => ⟨hm.trans h.1, by rw [hr]; exact h.2⟩) fun p l => s.dumpDue.ram_dumpPut_out p l hd

/-- A dump into the Hayloft changes the bytes of its ring in the capture area alone. -/
theorem State.dump_hay {t : State} (he : exec .dump s = .next t) (hi : s.Inv) (hd : s.flag F.PMC_DUMP_CFG_DEST = true) :
    t.ram = s.ram ∧ ∀ x, x < s.capBase + s.rdN (R .PMC_DUMP_BASE) ∨ s.capBase + s.rdN (R .PMC_DUMP_BASE) + s.dumpSize ≤ x →
      t.hayByte x = s.hayByte x :=
  s.dump_holds (P := fun t => t.ram = s.ram ∧ ∀ x, x < s.capBase + s.rdN (R .PMC_DUMP_BASE) ∨
      s.capBase + s.rdN (R .PMC_DUMP_BASE) + s.dumpSize ≤ x → t.hayByte x = s.hayByte x) he ⟨rfl, fun _ _ => rfl⟩
    (fun _ _ hr hh hm h => ⟨hr.trans h.1, fun x hx => (State.hayByte_congr (by rw [hh]) (by rw [hh]) (by rw [hm])).trans
      (h.2 x hx)⟩) fun p l => s.dumpDue.hayByte_dumpPut_out hi p l hd

end Sys2Proof.Machine
end

section
/-! Writes through the aperture and write-backs of the merge buffer: which bytes they change (spec/08, R193, R199), for
O56. -/

namespace Sys2Proof.Machine

variable (s : State)

/-! ## The merge buffer as it is read -/

/-- The bytes that the merge buffer holds of a line. -/
def mergeBytes (l : List Merge) (line : Nat) : NTab (Option Byte) :=
  match l.find? (·.line = line) with
  | some m => m.bytes
  | none => []

theorem mergeByte_eq (l : List Merge) (x : Nat) : mergeByte l x = NTab.get none (mergeBytes l (x / 64)) (x % 64) := by
  unfold mergeByte mergeBytes
  cases l.find? (·.line = x / 64) <;> rfl

/-- A line's entry, put in the place of the one before, changes no other line's. -/
theorem mergeBytes_put_ne {l : List Merge} {line k : Nat} (b : NTab (Option Byte)) (h : k ≠ line) :
    mergeBytes (l.filter (·.line ≠ line) ++ [⟨line, b⟩]) k = mergeBytes l k := by
  have last : ([⟨line, b⟩] : List Merge).find? (·.line = k) = none :=
    List.find?_eq_none.2 fun m hm => by
      rw [List.mem_singleton.1 hm]
      simpa using h.symm
  have others : (l.filter (·.line ≠ line)).find? (·.line = k) = l.find? (·.line = k) := by
    rw [List.find?_filter]
    congr 1
    funext m
    by_cases hm : m.line = k
    · simp [hm, h]
    · simp [hm]
  unfold mergeBytes
  rw [List.find?_append, others, last, Option.or_none]

theorem mergeBytes_put_same (l : List Merge) (line : Nat) (b : NTab (Option Byte)) :
    mergeBytes (l.filter (·.line ≠ line) ++ [⟨line, b⟩]) line = b := by
  unfold mergeBytes
  rw [find?_line_append (x := ⟨line, b⟩) fun m hm => by simpa using (List.mem_filter.1 hm).2]

/-- Bytes laid into a line's entry leave the bytes beside them. -/
theorem mergeByte_laid {l : List Merge} {a x : Nat} (d : List Byte) (hx : x < a ∨ a + d.length ≤ x) : mergeByte (l.filter (·.line ≠ a / 64) ++
      [⟨a / 64, layAt none some (a % 64) 0 d (mergeBytes l (a / 64))⟩]) x = mergeByte l x := by
  rw [mergeByte_eq, mergeByte_eq]
  by_cases h : x / 64 = a / 64
  · rw [h, mergeBytes_put_same]
    exact get_layAt_out none some d 0 _ (by omega)
  · rw [mergeBytes_put_ne _ h]

/-! ## Writes through the aperture -/

/-- No byte of the memory has changed, and the bytes beside the `n` from `a` on read as before. -/
def HayKeptBut (s : State) (a n : Nat) (t : State) : Prop :=
  t.hayMem = s.hayMem ∧ ∀ x, x < a ∨ a + n ≤ x → t.hayByte x = s.hayByte x

theorem HayKeptBut.of_hay {s t : State} (a n : Nat) (hh : t.hay = s.hay) (hm : t.hayMem = s.hayMem) : HayKeptBut s a n t :=
  ⟨hm, fun _ _ => State.hayByte_congr (by rw [hh]) (by rw [hh]) (by rw [hm])⟩

theorem HayKeptBut.trans {s t u : State} {a n : Nat} (h : HayKeptBut s a n t) (g : HayKeptBut t a n u) : HayKeptBut s a n u :=
  ⟨g.1.trans h.1, fun x hx => (g.2 x hx).trans (h.2 x hx)⟩

/-- Of a narrow write that the merge buffer has room for, which changes no byte of the memory, the bytes beside it read
as before. -/
theorem State.mergeIn_room {a : Nat} (d : List Byte) (hfit : a % 64 + d.length ≤ 64) (hl : s.hay.merge.length < 256)
    (hroom : (mergeBytes s.hay.merge (a / 64)).length + d.length < 64) : HayKeptBut s a d.length (s.mergeIn a d) := by
  obtain ⟨n, hn⟩ : ∃ n : Merge, n = ⟨a / 64, layAt none some (a % 64) 0 d (mergeBytes s.hay.merge (a / 64))⟩ := ⟨_, rfl⟩
  have key : ∀ t : State, t.hay.merge = s.hay.merge.filter (·.line ≠ a / 64) ++ [n] → t.hay.blocks = s.hay.blocks →
      t.hayMem = s.hayMem → ∀ u, u = (match t.hay.merge.find? (·.line = a / 64) with
        | some m => t.when (64 ≤ m.bytes.length) (State.mergeOut m .clean)
        | none => t) → HayKeptBut s a d.length u := by
    intro t tm tb th u hu
    obtain ⟨stays, -⟩ := State.mergeIn_stays (t := t) (hn ▸ tm) (fun y hy => by simpa using (List.mem_filter.1 hy).2)
      (Nat.lt_of_le_of_lt (length_layAt_le none some (a % 64) d 0 _) hroom) hfit
    rw [hu.trans stays]
    refine ⟨th, fun x hx => State.hayByte_of_mergeByte tb (by rw [th]) ?_⟩
    rw [tm, hn]
    exact mergeByte_laid d hx
  cases hf : s.hay.merge.find? (·.line = a / 64) with
  | some m =>
    have held : mergeBytes s.hay.merge (a / 64) = m.bytes := by rw [mergeBytes, hf]
    rw [held] at hn
    obtain ⟨e, he⟩ : ∃ e, s.modHay (fun h => { h with merge := h.merge.filter (·.line ≠ a / 64) ++ [n] }) = e := ⟨_, rfl⟩
    have eh : e.hay = { s.hay with merge := s.hay.merge.filter (·.line ≠ a / 64) ++ [n] } := by rw [← he]; rfl
    have em : e.hayMem = s.hayMem := by rw [← he]; rfl
    have hay := ((State.count_upd 0x0C4 0 1 e).hay rfl).trans eh
    refine key (e.count 0x0C4 0 1) (by rw [hay]) (by rw [hay]) (((State.count_upd 0x0C4 0 1 e).hayMem rfl).trans em) _ ?_
    rw [← he, hn]
    simp only [State.mergeIn, hf]
    rfl
  | none =>
    have held : mergeBytes s.hay.merge (a / 64) = [] := by rw [mergeBytes, hf]
    have room : s.mergeRoom = s := by
      unfold State.mergeRoom
      split
      · exact if_pos hl
      · rfl
    have all : s.hay.merge.filter (·.line ≠ a / 64) = s.hay.merge :=
      List.filter_eq_self.2 fun m hm => by simpa using List.find?_eq_none.1 hf m hm
    rw [held] at hn
    refine key (s.modHay fun h => { h with merge := h.merge ++ [n] }) (by rw [all]; rfl) rfl rfl _ ?_
    rw [hn]
    simp only [State.mergeIn, hf, room]
    rfl

/-- A write of a word through the aperture enters the merge buffer, or is discarded. -/
theorem State.apertureWrite_cases (a : Nat) (v : W32) : ∃ t : State, t.hay = s.hay ∧ t.hayMem = s.hayMem ∧
    (s.apertureWrite a v = t.mergeIn a (bytesOf v) ∨ s.apertureWrite a v = t) := by
  obtain ⟨t, ht⟩ : ∃ t, s.when (s.isRetired (a / 4096)) (fun s => s.raise F.HAY_APT_STATUS_RETIRED) = t := ⟨_, rfl⟩
  have kept : t.hay = s.hay ∧ t.hayMem = s.hayMem := by
    rw [← ht]
    exact State.when_holds s (fun u => u.hay = s.hay ∧ u.hayMem = s.hayMem) _ _ ⟨rfl, rfl⟩ id
  unfold State.apertureWrite
  rw [ht]
  dsimp only
  split
  · exact ⟨t, kept.1, kept.2, .inl rfl⟩
  · exact ⟨(t.raise F.HAY_APT_STATUS_DENIED).raise F.HAY_EVT_APT_DENIED, kept.1, kept.2, .inr rfl⟩

/-- An aperture write with room in the merge buffer changes the reading of its four bytes alone. -/
theorem State.apertureWrite_kept {a : Nat} (v : W32) (ha : a % 4 = 0) (hl : s.hay.merge.length < 256)
    (hroom : ∀ y ∈ s.hay.merge, y.line = a / 64 → y.bytes.length < 60) : HayKeptBut s a 4 (s.apertureWrite a v) := by
  have room : (mergeBytes s.hay.merge (a / 64)).length + 4 < 64 := by
    unfold mergeBytes
    split
    · next m hf =>
      have := hroom m (List.mem_of_find?_eq_some hf) (by simpa using List.find?_some hf)
      omega
    · decide
  obtain ⟨t, hh, hm, h | h⟩ := s.apertureWrite_cases a v
  · have put : HayKeptBut t a 4 (t.mergeIn a (bytesOf v)) := t.mergeIn_room (bytesOf v)
      (by rw [show (bytesOf v).length = 4 from rfl]; omega) (hh ▸ hl) (by rw [hh]; exact room)
    rw [h]
    exact (HayKeptBut.of_hay a 4 hh hm).trans put
  · rw [h]
    exact .of_hay a 4 hh hm

theorem State.apertureWrite_room {m : Master} {off : Nat} {v : W32} {t : State}
    (he : exec (.apertureWrite m off v) s = .next t) (hl : s.hay.merge.length < 256)
    (hroom : ∀ y ∈ s.hay.merge, y.line = s.aptPhys off / 64 → y.bytes.length < 60) :
    HayKeptBut s (s.aptPhys off / 4 * 4) 4 t := by
  obtain rfl := Host.Outcome.next.inj he
  have line : s.aptPhys off / 64 = s.aptPhys off / 4 * 4 / 64 := by omega
  rw [line] at hroom
  have kept : ∀ t, MemKept s t → HayKeptBut s (s.aptPhys off / 4 * 4) 4 t := fun t h => .of_hay _ _ h.hay h.hayMem
  exact State.issue_holds kept (State.aptGuard_holds kept (s.apertureWrite_kept v (Nat.mul_mod_left ..) hl hroom))

/-! ## Write-backs -/

theorem State.hayOpen_of_open {b : Nat} (h : s.blockOpen b = true) : s.hayOpen b = s := if_pos h

/-- Bytes laid into a line leave the addresses that none of them goes to. -/
theorem State.get_putByte_out {a x : Nat} {b : Nat × Option Byte} (h : x ≠ a + b.1) :
    (s.putByte a b).hayMem.get 0 x = s.hayMem.get 0 x := by
  unfold State.putByte State.when
  split
  · have short : b.2.toList.length ≤ 1 := by cases b.2 <;> simp
    exact s.get_hayPut_out _ (by omega)
  · rfl

/-- Before its bytes are laid in, an entry of an open block that is written back has changed no byte of the memory. -/
theorem State.mergeOut_open {m : Merge} (e : HayEcc) (h : s.blockOpen (m.line / 1024) = true) : ∃ u : State,
    u.hayMem = s.hayMem ∧ s.mergeOut m e = (m.bytes.foldl (fun t b => t.putByte (64 * m.line) b) u).count 0x0C1 0 1 := by
  obtain ⟨t, ht⟩ : ∃ t, s.modHay (fun h => { h with merge := h.merge.filter fun x => x.line ≠ m.line }) = t := ⟨_, rfl⟩
  have tm : t.hayMem = s.hayMem := by rw [← ht]; rfl
  have topen : t.blockOpen (m.line / 1024) = true := by rw [← ht]; exact h
  by_cases hw : 64 ≤ m.bytes.length
  · refine ⟨t.hayWhole m.line [], ?_, ?_⟩
    · unfold State.hayWhole
      rw [t.hayOpen_of_open topen]
      exact tm
    · rw [← ht]
      exact s.mergeOut_whole hw
  · have read := HayKept.hayRead (s := t) m.line e
    have ropen : ((t.hayRead m.line e).2).blockOpen (m.line / 1024) = true := by
      rw [State.blockOpen, read.blocks]
      exact topen
    refine ⟨(t.hayRead m.line e).2.count 0x0C0 0 1, ((State.count_upd ..).hayMem rfl).trans (read.mem.trans tm), ?_⟩
    unfold State.mergeOut
    dsimp only
    rw [ht, if_neg hw, State.hayOpen_of_open _ ropen]
    rfl

/-- A write-back into an open block changes the bytes that its entry holds alone. -/
theorem State.mergeWriteBack_out {line : Nat} {e : HayEcc} {y : Merge} {t : State}
    (he : exec (.mergeWriteBack line e) s = .next t) (hy : s.hay.merge.find? (fun y => y.line = line) = some y)
    (hb : s.blockOpen (line / 1024) = true) {x : Nat} (hx : ∀ b ∈ y.bytes, x ≠ 64 * y.line + b.1) :
    t.hayMem.get 0 x = s.hayMem.get 0 x := by
  obtain rfl := Host.Outcome.next.inj he
  have hl : y.line = line := by simpa using List.find?_some hy
  rw [hy]
  dsimp only
  split
  · obtain ⟨u, hu, out⟩ := s.mergeOut_open (m := y) e (by rw [hl]; exact hb)
    rw [(State.retSettle_upd _).hayMem rfl, out, (State.count_upd ..).hayMem rfl]
    refine (foldl_keeps (fun t : State => t.hayMem.get 0 x) (fun t b hb => t.get_putByte_out (hx b hb)) u).trans ?_
    rw [hu]
  · rfl

end Sys2Proof.Machine
end

section
/-! The bytes that completed accesses of the Hayloft and the writes of CAP_CFG change (spec/08, R186, R200), and O56. -/

namespace Sys2Proof.Machine

variable (s : State)

/-! ## Accesses that complete -/

/-- The access in flight is of the line and for the use that complete it. -/
theorem State.inFlight_eq {a : HayAcc} {r : HayReq} (h : s.inFlight a = some r) : r.line = a.line ∧ r.use = a.use := by
  have own : ∀ (c : Prop) [Decidable c], (if c then some (⟨a.line, a.use, []⟩ : HayReq) else none) = some r →
      r.line = a.line ∧ r.use = a.use := by
    intro c _ hc
    split at hc
    · obtain rfl := Option.some.inj hc
      exact ⟨rfl, rfl⟩
    · cases hc
  unfold State.inFlight at h
  split at h
  · exact own _ h
  · exact own _ h
  · split at h
    · exact own _ h
    · cases h
  · rw [Option.filter_eq_some_iff] at h
    exact ⟨by simpa using List.find?_some h.1, by simpa using h.2⟩

/-- The bytes that read-back is asked for are those of `s`, and so are the bytes of the Hayloft. -/
theorem HayKept.accLeft (a : HayAcc) (r : HayReq) : HayKept s (s.accLeft a r) := by
  have hay := s.hay_accLeft a r
  exact ⟨by rw [hay], by rw [hay], (State.count_upd ..).hayMem rfl, s.flows_accLeft a r, s.drr_accLeft a r⟩

/-- What holds before and after the request of an access that completes is done holds after it. -/
theorem State.hayAccessDone_holds {P : State → Prop} {a : HayAcc} {t : State} (he : exec (.hayAccessDone a) s = .next t)
    (hup : s.readUp = true) (hs : P s) (done : ∀ (r : HayReq) (u : State) (bad : Bool), r.line = a.line → r.use = a.use →
      HayKept s u → (isRead a.use = false → bad = false ∧ u = s.accLeft a r) →
      P (u.reqDone r bad) ∧ (u.reqDone r bad).flows = u.flows ∧ (u.reqDone r bad).drr = u.drr) : P t := by
  obtain rfl := Host.Outcome.next.inj he
  split
  · next r hr =>
    obtain ⟨line, use⟩ := s.inFlight_eq hr
    split
    · have left := HayKept.accLeft s a r
      cases hread : isRead a.use with
      | true =>
        have kept := left.trans (HayKept.hayRead (s := s.accLeft a r) a.line a.ecc)
        obtain ⟨hp, hf, hd⟩ := done r _ ((s.accLeft a r).hayRead a.line a.ecc).1 line use kept (by simp [hread])
        rw [s.accessDone_read hread, State.readBack_of_kept hup (hf.trans kept.flows) (hd.trans kept.drr)]
        exact hp
      | false =>
        obtain ⟨hp, hf, hd⟩ := done r (s.accLeft a r) false line use left fun _ => ⟨rfl, rfl⟩
        rw [s.accessDone_write hread, State.readBack_of_kept hup (hf.trans left.flows) (hd.trans left.drr)]
        exact hp
    · exact hs
  · exact hs

theorem State.flows_hayWhole (line : Nat) (l : List Byte) : (s.hayWhole line l).flows = s.flows :=
  (State.hayWhole_upd ..).flows rfl

theorem State.drr_hayWhole (line : Nat) (l : List Byte) : (s.hayWhole line l).drr = s.drr :=
  (State.hayWhole_upd ..).drr rfl

/-- A flow's or a deskew write changes its line alone. -/
theorem State.hayAccessDone_line {a : HayAcc} {t : State} (he : exec (.hayAccessDone a) s = .next t)
    (hup : s.readUp = true) (hu : (∃ f, a.use = .flowWrite f) ∨ ∃ g d, a.use = .deskewWrite g d) {x : Nat}
    (hx : x < 64 * a.line ∨ 64 * a.line + 64 ≤ x) : t.hayByte x = s.hayByte x := by
  refine s.hayAccessDone_holds (P := fun t => t.hayByte x = s.hayByte x) he hup rfl fun r u bad line use kept written => ?_
  obtain ⟨f, hf⟩ | ⟨g, d, hg⟩ := hu
  · obtain ⟨rfl, -⟩ := written (by rw [hf]; rfl)
    have done : u.reqDone r false = u.hayWhole a.line r.data := by
      simp only [State.reqDone, use, hf, line, Bool.false_eq_true, if_false]
    rw [done]
    exact ⟨(u.hayByte_hayWhole _ hx).trans (kept.hayByte x), u.flows_hayWhole .., u.drr_hayWhole ..⟩
  · obtain ⟨rfl, -⟩ := written (by rw [hg]; rfl)
    obtain ⟨v, hv⟩ : ∃ v, (u.modGrp g fun y => { y with
      dsk := if y.dsk.contains (a.line / 64) then y.dsk else a.line / 64 :: y.dsk }) = v := ⟨_, rfl⟩
    have done : u.reqDone r false = v.hayWhole a.line (fit 64 d) := by
      simp only [State.reqDone, use, hg, line, hv, State.when, Bool.not_false, if_true]
    have same : v.hayByte x = u.hayByte x ∧ v.flows = u.flows ∧ v.drr = u.drr := by rw [← hv]; exact ⟨rfl, rfl, rfl⟩
    obtain ⟨vb, vf, vd⟩ := same
    rw [done]
    exact ⟨(v.hayByte_hayWhole _ hx).trans (vb.trans (kept.hayByte x)), (v.flows_hayWhole ..).trans vf,
      (v.drr_hayWhole ..).trans vd⟩

/-- A descriptor's write and a deskew read change no byte as it is read. -/
theorem State.hayAccessDone_none {a : HayAcc} {t : State} (he : exec (.hayAccessDone a) s = .next t)
    (hup : s.readUp = true) (hu : (∃ f p b, a.use = .descrWrite f p b) ∨ ∃ g, a.use = .deskewRead g) (x : Nat) :
    t.hayByte x = s.hayByte x := by
  refine s.hayAccessDone_holds (P := fun t => t.hayByte x = s.hayByte x) he hup rfl fun r u bad line use kept written => ?_
  obtain ⟨f, p, b, hf⟩ | ⟨g, hg⟩ := hu
  · obtain ⟨rfl, -⟩ := written (by rw [hf]; rfl)
    have done : u.reqDone r false = u.hayOpen (a.line / 1024) := by
      simp only [State.reqDone, use, hf, line, State.when, Bool.not_false, if_true]
    rw [done]
    exact ⟨(u.hayByte_hayOpen ..).trans (kept.hayByte x), u.flows_hayOpen _, u.drr_hayOpen _⟩
  · have done : u.reqDone r bad = u.when bad (State.deskewBad g) := by simp only [State.reqDone, use, hg]
    rw [done]
    exact State.when_holds u (fun v => v.hayByte x = s.hayByte x ∧ v.flows = u.flows ∧ v.drr = u.drr) _ _
      ⟨kept.hayByte x, rfl, rfl⟩ id

/-! ## Capture -/

/-- The lines of a capture record lie in the area. -/
theorem State.capGo_lt {size : Nat} (hs : 0 < size) (k n o : Nat) : ∀ p ∈ (s.capGo size k n o).1, p < size := by
  induction k generalizing n o with
  | zero => intro p hp; cases hp
  | succ k ih =>
    intro p hp
    rw [State.capGo] at hp
    split at hp
    · cases hp
    · split at hp
      · exact ih _ _ p hp
      · rcases List.mem_cons.1 hp with rfl | hp
        · exact Nat.mod_lt _ hs
        · exact ih _ _ p hp

theorem State.each_holds_of_mem {α : Type} {P : State → Prop} {g : α → State → State} {l : List α}
    (h : ∀ x ∈ l, ∀ s, P s → P (g x s)) {s : State} (hp : P s) : P (s.each l g) := by
  induction l generalizing s with
  | nil => exact hp
  | cons a l ih => exact ih (fun x hx => h x (List.mem_cons_of_mem _ hx)) (h a List.mem_cons_self s hp)

/-- A record written changes bytes of the capture area alone. -/
theorem State.hayByte_capWrite {x : Nat} (h0 : 0 < s.capBytes) (hx : s.inCap x = false) :
    s.capWrite.hayByte x = s.hayByte x ∧ s.capWrite.flows = s.flows ∧ s.capWrite.drr = s.drr := by
  refine ⟨?_, (State.capWrite_upd _).flows rfl, (State.capWrite_upd _).drr rfl⟩
  obtain ⟨hbase, hbytes, htop⟩ := s.capArea
  have out : x < s.capBase ∨ s.capBase + s.capBytes ≤ x := by
    rw [State.inCap, Bool.and_eq_false_iff, decide_eq_false_iff_not, decide_eq_false_iff_not] at hx
    omega
  unfold State.capWrite
  split
  · rfl
  · next r l hr =>
    extract_lets lines after
    have inArea : ∀ p ∈ lines.1.zipIdx, p.1 < s.capBytes := fun p hp =>
      Nat.lt_of_lt_of_eq (s.capGo_lt (by omega) _ _ _ p.1 (List.fst_mem_of_mem_zipIdx hp)) (Nat.max_eq_left h0)
    have kept : after.hayByte x = s.hayByte x :=
      State.each_holds_of_mem (P := fun t => t.hayByte x = s.hayByte x) (fun p hp t ht => (t.hayByte_hayWhole_within
        (lo := s.capBase) (hi := s.capBase + s.capBytes) _ hbase (by omega) (Nat.le_add_right ..)
        (Nat.add_lt_add_left (inArea p hp) _) out).trans ht) (State.hayByte_congr rfl rfl rfl)
    exact (State.hayByte_congr (s := after) rfl rfl rfl).trans kept

/-- A capture write changes bytes of the capture area alone. -/
theorem State.hayAccessDone_capture {a : HayAcc} {t : State} (he : exec (.hayAccessDone a) s = .next t)
    (hup : s.readUp = true) (hu : a.use = .capWrite) (h0 : 0 < s.capBytes) {x : Nat} (hx : s.inCap x = false) :
    t.hayByte x = s.hayByte x := by
  refine s.hayAccessDone_holds (P := fun t => t.hayByte x = s.hayByte x) he hup rfl fun r u bad line use kept written => ?_
  obtain ⟨rfl, hu'⟩ := written (by rw [hu]; rfl)
  have done : u.reqDone r false = u.capWrite := by simp only [State.reqDone, use, hu]
  have fuse : u.fuse = s.fuse := by rw [hu']; exact (State.count_upd ..).fuse rfl
  have size : u.fld F.HAY_CFG_CAP_SIZE = s.fld F.HAY_CFG_CAP_SIZE := by rw [hu']; exact (State.count_upd ..).fld _ _ _ rfl
  obtain ⟨hb, hf, hd⟩ := u.hayByte_capWrite (x := x) (by rw [(State.capArea_congr fuse size).2]; exact h0)
    (by rw [State.inCap_congr fuse size]; exact hx)
  rw [done]
  exact ⟨hb.trans (kept.hayByte x), hf, hd⟩

/-- Clearing takes bytes of the capture area alone, and no other write of CAP_CFG takes any. -/
theorem State.get_capCfgWrite (v : W32) {x : Nat} (hx : s.inCap x = false) :
    (s.capCfgWrite v).hayMem.get 0 x = s.hayMem.get 0 x := by
  unfold State.capCfgWrite
  extract_lets en exp refuse p t u
  have ht : t.fuse = s.fuse ∧ t.fld F.HAY_CFG_CAP_SIZE = s.fld F.HAY_CFG_CAP_SIZE ∧ t.hayMem = s.hayMem :=
    State.when_holds p (fun t => t.fuse = s.fuse ∧ t.fld F.HAY_CFG_CAP_SIZE = s.fld F.HAY_CFG_CAP_SIZE ∧
      t.hayMem = s.hayMem) _ _ ⟨State.plainWrite_fuse .., s.fld_plainWrite_id rfl .., State.plainWrite_hayMem ..⟩
      fun ⟨hf, hc, hm⟩ => ⟨hf, ((State.fld_raise_apart _ rfl ..).trans (State.fld_setFlag_apart _ rfl ..)).trans hc, hm⟩
  obtain ⟨hf, hc, hm⟩ := ht
  clear_value t
  rw [(State.retSettle_upd _).hayMem rfl]
  refine State.when_holds t (fun u => u.hayMem.get 0 x = s.hayMem.get 0 x) _ _ (by rw [hm]) fun _ => ?_
  have out : t.inCap x = false := by rw [State.inCap_congr hf hc, hx]
  refine (NTab.get_filter_of_pos (t := t.hayMem) (p := fun e => !t.inCap e.1) fun b => ?_).trans (by rw [hm])
  rw [out]
  rfl

theorem State.capCfg_kept {m : Master} {v : W32} {x : Nat} (hx : s.inCap x = false) :
    (s.guardW m (R .HAY_CAP_CFG) v (State.capCfgWrite v)).hayMem.get 0 x = s.hayMem.get 0 x :=
  State.guardW_holds (P := fun t => t.hayMem.get 0 x = s.hayMem.get 0 x) (fun t h => by rw [h.hayMem])
    (State.get_capCfgWrite (s.rewritten _) v hx)

/-- Settles O56. -/
theorem memoryStores : Obligations.MemoryStores := by
  refine ⟨?word, ?held, ?log, ?sram, ?dumpRam, ?dumpHay, ?aperture, ?writeBack, ?line, ?none, ?capture, ?capCfg, ?capClr⟩
  case word =>
    intro s t m off v he x hx
    exact s.tackRoomWrite_holds (P := fun t => t.tack.get 0 x = s.tack.get 0 x) he (fun t h => by rw [h.tack])
      (s.tack_tackWrite_out v (s.trAddr_mod off) hx)
  case held =>
    intro s t m off v he h
    exact s.tackRoomWrite_holds (P := fun t => t.tack = s.tack) he (fun t h => h.tack) (s.tack_tackWrite_held v h)
  case log => exact fun s t he x hx => s.tack_logDrain_out he hx
  case sram => exact fun s t m a c v he ht => s.registerWrite_ram he ht
  case dumpRam => exact fun s t he hd => s.dump_ram he hd
  case dumpHay => exact fun s t he hi hd => s.dump_hay he hi hd
  case aperture => exact fun s t m off v he hl hroom => s.apertureWrite_room he hl hroom
  case writeBack => exact fun s t line e y he hy hb x hx => s.mergeWriteBack_out he hy hb hx
  case line => exact fun s t a he hup hu x hx => s.hayAccessDone_line he hup hu hx
  case none => exact fun s t a he hup hu x => s.hayAccessDone_none he hup hu x
  case capture => exact fun s t a he hup hu h0 x hx => s.hayAccessDone_capture he hup hu h0 hx
  case capCfg =>
    intro s t m v he x hx
    obtain rfl := Host.Outcome.next.inj he
    exact s.capCfg_kept hx
  case capClr =>
    intro s t m v he x hx
    obtain rfl := Host.Outcome.next.inj he
    exact s.capCfg_kept hx

end Sys2Proof.Machine
end
